-- ==== Sys2Proof/Word.lean ====
section
/-! DEFINITION. The word type of the register fabric and its plainest arithmetic, the halves of the chip
(R15), and the two's-complement views of the manual's signed formats (R11, R13). -/

namespace Sys2Proof

/-- A 32-bit register word. -/
abbrev Word := BitVec 32

/-- A byte of a frame, a record or a bus. -/
abbrev Byte := BitVec 8

/-- The two halves, numbered 0 and 1 (R15). -/
inductive Half where
  | warp
  | weft
deriving DecidableEq, Repr

/-- The number of a half in page addresses and records. -/
def Half.num : Half → Nat
  | .warp => 0
  | .weft => 1

/-- The other half. -/
def Half.other : Half → Half
  | .warp => .weft
  | .weft => .warp

/-- The half with a number: an even number is Warp's. -/
def Half.ofNum (n : Nat) : Half := if n % 2 = 0 then .warp else .weft

/-- One value for each half: per-half state (R15). -/
structure Pair (α : Type) where
  warp : α
  weft : α
deriving DecidableEq, Repr

/-- The value of a half. -/
def Pair.of {α : Type} (p : Pair α) : Half → α
  | .warp => p.warp
  | .weft => p.weft

/-- The pair with one half's value replaced. -/
def Pair.put {α : Type} (p : Pair α) (h : Half) (v : α) : Pair α :=
  match h with
  | .warp => { p with warp := v }
  | .weft => { p with weft := v }

/-- The value that an unsigned field of `w` bits holding `n` denotes as a signed one (R11). -/
def signedOf (w n : Nat) : Int :=
  if n % 2 ^ w < 2 ^ (w - 1) then ((n % 2 ^ w : Nat) : Int) else ((n % 2 ^ w : Nat) : Int) - 2 ^ w

/-- The field of `w` bits that holds a signed value, wrapping (R11). -/
def unsignedOf (w : Nat) (i : Int) : Nat := (i % (2 ^ w : Int)).toNat

/-- A quotient rounded up; zero for a zero divisor. -/
def ceilDiv (a b : Nat) : Nat := if b = 0 then 0 else (a + b - 1) / b

/-- A value limited to a range. -/
def clampNat (lo hi n : Nat) : Nat := max lo (min hi n)

/-- A signed value limited to a range. -/
def clampInt (lo hi n : Int) : Int := max lo (min hi n)

/-- A Boolean as a bit. -/
def bitOf (b : Bool) : Nat := if b then 1 else 0

/-- Bit `k` of a number. -/
def bitAt (n k : Nat) : Bool := (n / 2 ^ k) % 2 == 1

/-- The number `n` with its bits from `lo`, `len` of them, replaced by `v`. -/
def setBits (n lo len v : Nat) : Nat :=
  n % 2 ^ lo + (v % 2 ^ len) * 2 ^ lo + n / 2 ^ (lo + len) * 2 ^ (lo + len)

/-- The `len` bits of `n` from bit `lo`. -/
def getBits (n lo len : Nat) : Nat := n / 2 ^ lo % 2 ^ len

/-- The bytes of a number in network order, `k` of them. -/
def bytesBE : Nat → Nat → List Byte
  | 0, _ => []
  | k + 1, n => BitVec.ofNat 8 (n / 2 ^ (8 * k)) :: bytesBE k n

/-- The bytes of a number in little-endian order, `k` of them. -/
def bytesLE : Nat → Nat → List Byte
  | 0, _ => []
  | k + 1, n => BitVec.ofNat 8 n :: bytesLE k (n / 256)

/-- The number that bytes in network order spell. -/
def natOfBE (l : List Byte) : Nat := l.foldl (fun a b => a * 256 + b.toNat) 0

end Sys2Proof
end

