-- ==== Sys2Proof/Machine/Tab.lean ====
section
/-! DEFINITION. Sparse tables: a list of (key, value) pairs with keys strictly rising and no entry equal to what
an unlisted key reads as. Register files, event words, per-unit engine state and buffers are such tables. -/

namespace Sys2Proof

/-- A sparse table, keyed by a number. -/
abbrev Tab (α : Type) := List (Nat × α)

/-- The value listed for a key, if any. -/
def Tab.find? {α : Type} : Tab α → Nat → Option α
  | [], _ => none
  | (k, v) :: t, n => if n = k then some v else Tab.find? t n

/-- The value of a key: the listed one, else the default of that key. -/
def Tab.get {α : Type} (dflt : Nat → α) (t : Tab α) (n : Nat) : α := (Tab.find? t n).getD (dflt n)

/-- The table without a key. -/
def Tab.erase {α : Type} (t : Tab α) (n : Nat) : Tab α := t.filter (fun e => !(e.1 == n))

/-- The table with an entry placed in key order; the key must not be listed. -/
def Tab.insert {α : Type} : Tab α → Nat → α → Tab α
  | [], n, v => [(n, v)]
  | (k, w) :: t, n, v => if n < k then (n, v) :: (k, w) :: t else (k, w) :: Tab.insert t n v

/-- The table after a write of a key: writing the default of a key removes its entry. -/
def Tab.set {α : Type} [DecidableEq α] (dflt : Nat → α) (t : Tab α) (n : Nat) (v : α) : Tab α :=
  if v = dflt n then t.erase n else (t.erase n).insert n v

/-- The canonical form: keys strictly rising, and no entry equal to its key's default. -/
def Tab.wf {α : Type} [DecidableEq α] (dflt : Nat → α) (t : Tab α) : Bool :=
  decide (t.Pairwise (fun a b => a.1 < b.1)) && t.all (fun e => !(decide (e.2 = dflt e.1)))

end Sys2Proof
end

