-- ==== Sys2Proof/Machine/Wire.lean ====
section
/-! DEFINITION. Frames as bytes: headers of Ethernet, IPv4, IPv6, UDP, NTP and PTP read from a received frame, the
Internet checksum, and the headers the chip writes (R338, R357). A frame's bytes run from the destination MAC to the
last byte before the FCS. -/

namespace Sys2Proof

/-- `n` bytes of a list from an offset. -/
def sliceB (l : List Byte) (o n : Nat) : List Byte := (l.drop o).take n

/-- The number that `n` bytes from an offset spell in network order. -/
def beAt (l : List Byte) (o n : Nat) : Nat := natOfBE (sliceB l o n)

/-- A list of bytes with `n` bytes from an offset replaced. -/
def patchB (l : List Byte) (o : Nat) (v : List Byte) : List Byte := l.take o ++ v ++ l.drop (o + v.length)

/-- Words with byte 0 in bits [31:24] of the first, from bytes. -/
def wordsOfBytes : List Byte → List Word
  | a :: b :: c :: d :: t => BitVec.ofNat 32 (natOfBE [a, b, c, d]) :: wordsOfBytes t
  | [] => []
  | l => [BitVec.ofNat 32 (natOfBE (l ++ List.replicate (4 - l.length) 0))]

/-- The bytes of words, byte 0 in bits [31:24] of the first. -/
def bytesOfWords (l : List Word) : List Byte := l.flatMap fun w => bytesBE 4 w.toNat

/-- The ones-complement sum of the 16-bit words of some bytes. -/
def onesSum : List Byte → Nat
  | a :: b :: t => a.toNat * 256 + b.toNat + onesSum t
  | [a] => a.toNat * 256
  | [] => 0

/-- A sum folded to 16 bits. -/
def foldSum (n : Nat) : Nat :=
  let a := n % 65536 + n / 65536
  let b := a % 65536 + a / 65536
  b % 65536 + b / 65536

/-- The Internet checksum of some bytes whose checksum field is zero. -/
def inetSum (l : List Byte) : Nat := 65535 - foldSum (onesSum l)

/-- The Ethernet header of a frame: addresses, the VLAN tags as they stand, the outermost tag's VID and PCP, the EtherType
and where the payload starts. -/
structure EthHdr where
  dst    : Nat
  src    : Nat
  tags   : List Byte
  tagged : Bool
  vid    : Nat
  pcp    : Nat
  etype  : Nat
  off    : Nat
deriving DecidableEq, Repr

/-- The number of VLAN tag bytes at an offset; at most four tags are read. -/
def tagBytes : Nat → List Byte → Nat → Nat
  | 0, _, _ => 0
  | k + 1, l, o => if beAt l o 2 = 0x8100 ∨ beAt l o 2 = 0x88A8 then 4 + tagBytes k l (o + 4) else 0

/-- The Ethernet header read. -/
def ethHdr (l : List Byte) : EthHdr :=
  let t := tagBytes 4 l 12
  { dst := beAt l 0 6, src := beAt l 6 6, tags := sliceB l 12 t, tagged := t != 0
    vid := if t = 0 then 0 else beAt l 14 2 % 4096, pcp := if t = 0 then 0 else beAt l 14 2 / 8192
    etype := beAt l (12 + t) 2, off := 14 + t }

/-- The IP header of a frame: version, addresses (an IPv4 address as a 32-bit number), protocol, where the payload starts,
the length of the payload by the header, and whether the Parse stage accepts it (R333): no options, fragments or extension
headers, and a good IPv4 header checksum. -/
structure IpHdr where
  v6    : Bool
  src   : Nat
  dst   : Nat
  proto : Nat
  off   : Nat
  len   : Nat
  plain : Bool
deriving DecidableEq, Repr

/-- IPv6 extension headers skipped: next header and offset. -/
def skipExt : Nat → List Byte → Nat → Nat → Nat × Nat
  | 0, _, nh, o => (nh, o)
  | k + 1, l, nh, o =>
    if nh = 0 ∨ nh = 43 ∨ nh = 60 then skipExt k l (beAt l o 1) (o + 8 + 8 * beAt l (o + 1) 1)
    else if nh = 44 then skipExt k l (beAt l o 1) (o + 8)
    else (nh, o)

/-- The IP header read, if the frame carries one. -/
def ipHdr (l : List Byte) (e : EthHdr) : Option IpHdr :=
  let o := e.off
  if e.etype = 0x0800 ∧ beAt l o 1 / 16 = 4 then
    let ihl := beAt l o 1 % 16 * 4
    some { v6 := false, src := beAt l (o + 12) 4, dst := beAt l (o + 16) 4, proto := beAt l (o + 9) 1, off := o + ihl
           len := beAt l (o + 2) 2 - ihl
           plain := ihl == 20 && beAt l (o + 6) 2 % 16384 == 0 && foldSum (onesSum (sliceB l o ihl)) == 65535 }
  else if e.etype = 0x86DD ∧ beAt l o 1 / 16 = 6 then
    let nx := skipExt 8 l (beAt l (o + 6) 1) (o + 40)
    some { v6 := true, src := beAt l (o + 8) 16, dst := beAt l (o + 24) 16, proto := nx.1, off := nx.2
           len := beAt l (o + 4) 2 + (o + 40) - nx.2, plain := nx.2 == o + 40 }
  else none

/-- The UDP header of a frame with its payload, and whether lengths and checksum are good. -/
structure UdpHdr where
  sport   : Nat
  dport   : Nat
  payload : List Byte
  good    : Bool
deriving DecidableEq, Repr

/-- The pseudo-header of a UDP datagram. -/
def pseudoHdr (v6 : Bool) (src dst len : Nat) : List Byte :=
  if v6 then bytesBE 16 src ++ bytesBE 16 dst ++ bytesBE 4 len ++ bytesBE 4 17
  else bytesBE 4 src ++ bytesBE 4 dst ++ bytesBE 2 17 ++ bytesBE 2 len

/-- The UDP header read, if the frame carries one. An IPv4 checksum of 0 is accepted (R333). -/
def udpHdr (l : List Byte) (p : IpHdr) : Option UdpHdr :=
  if p.proto ≠ 17 then none
  else
    let n := beAt l (p.off + 4) 2
    let seg := sliceB l p.off n
    let sum := foldSum (onesSum (pseudoHdr p.v6 p.src p.dst n) + onesSum seg)
    some { sport := beAt l p.off 2, dport := beAt l (p.off + 2) 2, payload := seg.drop 8
           good := decide (8 ≤ n) && decide (n ≤ p.len) && decide (seg.length = n) &&
             (sum == 65535 || (!p.v6 && beAt l (p.off + 6) 2 == 0)) }

/-- What a frame carries for the responder: the transport and the message. -/
structure Msg where
  eth  : EthHdr
  ip   : Option IpHdr
  udp  : Option UdpHdr
  body : List Byte
deriving DecidableEq, Repr

/-- The message of a frame: a UDP payload, or the payload of a PTP frame over Ethernet. -/
def msgOf (l : List Byte) : Msg :=
  let e := ethHdr l
  let p := ipHdr l e
  let u := p.bind (udpHdr l)
  { eth := e, ip := p, udp := u
    body := match u with | some x => x.payload | none => l.drop e.off }

/-- The UDP destination port of a message. -/
def Msg.dport (m : Msg) : Nat := match m.udp with | some u => u.dport | none => 0

/-- A PTP message over Ethernet. -/
def Msg.isL2Ptp (m : Msg) : Bool := m.eth.etype == 0x88F7

/-- A PTP message over UDP. -/
def Msg.isUdpPtp (m : Msg) : Bool := m.udp.isSome && (m.dport == 319 || m.dport == 320)

/-- A PTP message. -/
def Msg.isPtp (m : Msg) : Bool := m.isL2Ptp || m.isUdpPtp

/-- messageType of a PTP message: 0 Sync, 1 Delay_Req, 2 Pdelay_Req, 3 Pdelay_Resp, 8 Follow_Up, 9 Delay_Resp,
0xA Pdelay_Resp_Follow_Up, 0xB Announce, 0xC Signaling, 0xD Management. -/
def ptpType (b : List Byte) : Nat := beAt b 0 1 % 16

/-- domainNumber. -/
def ptpDomain (b : List Byte) : Nat := beAt b 4 1

/-- correctionField, signed, in 2^-16 ns. -/
def ptpCorr (b : List Byte) : Int := signedOf 64 (beAt b 8 8)

/-- sourcePortIdentity. -/
def ptpSource (b : List Byte) : List Byte := sliceB b 20 10

/-- sequenceId. -/
def ptpSeq (b : List Byte) : Nat := beAt b 30 2

/-- The PTP multicast IPv4 addresses 224.0.1.129 and 224.0.0.107. -/
def ptpGroups4 : List Nat := [0xE0000181, 0xE000006B]

/-- FF0E::181 and FF02::6B. -/
def ptpGroups6 : List Nat := [0xFF0E0000000000000000000000000181, 0xFF02000000000000000000000000006B]

/-- 01-1B-19-00-00-00 and 01-80-C2-00-00-0E. -/
def ptpGroupsMac : List Nat := [0x011B19000000, 0x0180C200000E]

/-- A message sent to a PTP multicast address (R330). -/
def Msg.ptpGroup (m : Msg) : Bool :=
  m.isPtp && (match m.ip with
    | some p => if p.v6 then ptpGroups6.contains p.dst else ptpGroups4.contains p.dst
    | none => ptpGroupsMac.contains m.eth.dst)

/-- The addresses and settings that the outer headers of a sent message take (R338). -/
structure Outer where
  dstMac : Nat
  srcMac : Nat
  tags   : List Byte
  v6     : Bool
  l2     : Bool
  srcIp  : Nat
  dstIp  : Nat
  sport  : Nat
  dport  : Nat
  ttl    : Nat
  dscp   : Nat
deriving DecidableEq, Repr

/-- The IP and UDP headers of a payload, with their checksums. -/
def ipUdp (o : Outer) (payload : List Byte) : List Byte :=
  let n := 8 + payload.length
  let seg0 := bytesBE 2 o.sport ++ bytesBE 2 o.dport ++ bytesBE 2 n ++ bytesBE 2 0 ++ payload
  let c := 65535 - foldSum (onesSum (pseudoHdr o.v6 o.srcIp o.dstIp n) + onesSum seg0)
  let seg := patchB seg0 6 (bytesBE 2 (if c = 0 then 65535 else c))
  if o.v6 then
    bytesBE 4 (6 * 2 ^ 28 + o.dscp % 64 * 2 ^ 22) ++ bytesBE 2 n ++ bytesBE 1 17 ++ bytesBE 1 o.ttl ++
      bytesBE 16 o.srcIp ++ bytesBE 16 o.dstIp ++ seg
  else
    let h0 := bytesBE 1 0x45 ++ bytesBE 1 (o.dscp % 64 * 4) ++ bytesBE 2 (20 + n) ++ bytesBE 2 0 ++ bytesBE 2 0x4000 ++
      bytesBE 1 o.ttl ++ bytesBE 1 17 ++ bytesBE 2 0 ++ bytesBE 4 o.srcIp ++ bytesBE 4 o.dstIp
    patchB h0 10 (bytesBE 2 (inetSum h0)) ++ seg

/-- A whole frame (R338), padded to the 60 bytes that Ethernet asks for. [PRESUMED log 130] -/
def frameOf (o : Outer) (payload : List Byte) : List Byte :=
  let body := if o.l2 then bytesBE 2 0x88F7 ++ payload
    else bytesBE 2 (if o.v6 then 0x86DD else 0x0800) ++ ipUdp o payload
  let f := bytesBE 6 o.dstMac ++ bytesBE 6 o.srcMac ++ o.tags ++ body
  f ++ List.replicate (60 - f.length) 0

/-- The fields of a PTP message that its kind fixes (R357). -/
structure PtpHead where
  type   : Nat
  domain : Nat
  flags  : Nat
  corr   : Int
  source : List Byte
  seq    : Nat
  logInt : Nat
deriving DecidableEq, Repr

/-- controlField (R357). -/
def ptpControl (type : Nat) : Nat :=
  match type with
  | 0 => 0 | 8 => 2 | 9 => 3 | _ => 5

/-- A PTP message (R357): versionPTP 2, minorVersionPTP 1, majorSdoId and minorSdoId 0. -/
def ptpMsg (h : PtpHead) (body : List Byte) : List Byte :=
  bytesBE 1 h.type ++ bytesBE 1 0x12 ++ bytesBE 2 (34 + body.length) ++ bytesBE 1 h.domain ++ bytesBE 1 0 ++
    bytesBE 2 h.flags ++ bytesBE 8 (unsignedOf 64 h.corr) ++ bytesBE 4 0 ++ h.source ++ bytesBE 2 h.seq ++
    bytesBE 1 (ptpControl h.type) ++ bytesBE 1 h.logInt ++ body

/-- A PTP timestamp: 48 bits of seconds and 32 of nanoseconds. -/
def ptpStamp (sec nsec : Nat) : List Byte := bytesBE 6 sec ++ bytesBE 4 nsec

/-- The extension fields of an NTP message after its 48-byte header, as type and whole field; `none` where a field is
shorter than 16 bytes, no multiple of 4, or beyond the end (R344). -/
def extFields : Nat → List Byte → Option (List (Nat × List Byte))
  | 0, _ => none
  | k + 1, l =>
    if l = [] then some []
    else
      let n := beAt l 2 2
      if l.length < 16 ∨ n < 16 ∨ n % 4 ≠ 0 ∨ l.length < n then none
      else (extFields k (l.drop n)).map fun r => (beAt l 0 2, l.take n) :: r

/-- The bytes of an NTP message that follow its header and every extension field of at least 16 bytes: a legacy MAC, if
they are 20 or 24 (R341). -/
def ntpTrailer : Nat → List Byte → Nat
  | 0, l => l.length
  | k + 1, l =>
    let n := beAt l 2 2
    if l.length = 20 ∨ l.length = 24 ∨ l.length < 16 ∨ n < 16 ∨ n % 4 ≠ 0 ∨ l.length < n then l.length
    else ntpTrailer k (l.drop n)

end Sys2Proof
end

