-- ==== Sys2Proof/Terms.lean ====
section
/-! DEFINITION. The operand types of the commands: masters of the register fabric, and the inputs that
measurements, frames and firmware bring to the chip. -/

namespace Sys2Proof

/-- The masters of the register fabric (R58). -/
inductive Master where
  | pf0 | pf1 | spi | fwWarp | fwWeft | taWarp | taWeft
deriving DecidableEq, Repr

/-- MASTER of R58. -/
def Master.num : Master → Nat
  | .pf0 => 0 | .pf1 => 1 | .spi => 2 | .fwWarp => 3 | .fwWeft => 4 | .taWarp => 5 | .taWeft => 6

/-- The privilege a master carries in the counter filter (R486): administrator, user, firmware, hardware. A timed
action counts as hardware (R88). -/
def Master.privilege : Master → Nat
  | .pf0 => 0 | .spi => 0 | .pf1 => 1 | .fwWarp => 2 | .fwWeft => 2 | .taWarp => 3 | .taWeft => 3

/-- The firmware master of a half. -/
def Master.fw : Half → Master
  | .warp => .fwWarp
  | .weft => .fwWeft

/-- The timed-action master of a half (R88). -/
def Master.ta : Half → Master
  | .warp => .taWarp
  | .weft => .taWeft

/-- What an occurrence counted by a performance counter carries, for the filters of R486. -/
structure PerfAttr where
  privilege : Option Nat := none
  master    : Option Nat := none
  address   : Option Nat := none
  cls       : Option Nat := none
deriving DecidableEq, Repr

/-- An access error of R58. -/
inductive AccErr where
  | size | align | burst | unmapped | isolated | priv | timeout | asleep
deriving DecidableEq, Repr

/-- KIND of R58. -/
def AccErr.kind : AccErr → Nat
  | .size => 1 | .align => 2 | .burst => 3 | .unmapped => 4 | .isolated => 5 | .priv => 6 | .timeout => 7
  | .asleep => 8

/-- The SYS event word of an access error (R59): one less than its KIND. -/
def AccErr.event (e : AccErr) : Nat := e.kind - 1

/-- The width of a PCIe or firmware access (R43). -/
inductive Width where
  | b8 | b16 | b32 | b64
deriving DecidableEq, Repr

/-- A register access as its master issues it: up to 8 bytes at an address, or a longer burst (R43). -/
inductive AccSpan where
  | narrow (w : Width)
  | burst (bytes : Nat)
deriving DecidableEq, Repr

/-- What becomes of a journal write (R16, R385, R449): it is taken; firmware's buffer of 16 records is full while a block is
erased; or the flash fails it. -/
inductive FlashEnd where
  | taken | full | failed
deriving DecidableEq, Repr

/-- What one half's unit sees of an edge (R95, R96, R101): the level to which the input goes at that half's buffer, in µV
(differential where DIFF selects it; it counts at a pin point alone), the raw count Ce, and whether the junction temperature moves
faster than 2 °C/s (R112). [DESIGN CHOICE log 17] -/
structure EdgeSeen where
  level   : Int
  ce      : Nat
  tslew   : Bool
deriving DecidableEq, Repr

/-- What the units of both halves see of one edge (R120). -/
structure EdgePair where
  warp : EdgeSeen
  weft : EdgeSeen
deriving DecidableEq, Repr

/-- What a tracking channel's loops find (R236, R237): the frequency error within 5 Hz for 200 ms, PLI in 1/100, C/N0 in
0.01 dB-Hz, C/N0 below 25 dB-Hz for 1 s, data-bit synchronisation, and the carrier phase accumulated so far in 2^-16 cycle. -/
structure ChanSeen where
  steady  : Bool
  pli     : Nat
  cn0     : Nat
  weak    : Bool
  bitSync : Bool
  carr    : Int
deriving DecidableEq, Repr

/-- What a channel's NCOs and loops hold for the latch instant (R240, R241): channel, code phase in 2^-32 chip within the
primary code, primary periods, the carrier phase that Doppler has accumulated since the channel started in 2^-16 cycle, the
frequency of the carrier NCO at baseband in mHz, C/N0 in 0.01 dB-Hz, and whether the half-cycle ambiguity is resolved. -/
structure ChanMeas where
  ch    : Nat
  code  : Nat
  epoch : Nat
  carr  : Int
  rate  : Int
  cn0   : Nat
  half  : Bool
deriving DecidableEq, Repr

/-- A satellite signal above the horizon as firmware's almanac gives it (R243): satellite, signal, elevation in degrees. -/
structure SvView where
  sv   : Nat
  sig  : Nat
  elev : Nat
deriving DecidableEq, Repr

/-- What the evaluation of a pass or a verification dwell finds (R231, R232): the ratio of its peak in 1/16, the peak's cell, and
C/N0 in 0.01 dB-Hz. A pass numbers its cells from 0; a dwell its 3 × 3 cells, Doppler bin by Doppler bin. -/
structure AcqSeen where
  ratio : Nat
  cell  : Nat
  cn0   : Nat
deriving DecidableEq, Repr

/-- A detection (R232, R246): the ratio of its peak in 1/16, code phase in 1/16 chip, Doppler in Hz, and C/N0 in 0.01 dB-Hz. -/
structure AcqPeak where
  ratio : Nat
  code  : Nat
  dop   : Int
  cn0   : Nat
deriving DecidableEq, Repr

/-- Whose pass or dwell ends: the host job in progress, or a job of firmware's own, planned from what firmware knows, which hands a
verified detection to a channel of firmware's (R234, R235): the channel, signal, satellite and band, its length in ms, and the
code phase in 1/16 chip and Doppler in Hz of its peak. -/
inductive AcqSrc where
  | host
  | firmware (ch sig sv band ms code : Nat) (dop : Int)
deriving DecidableEq, Repr

/-- A position in mm, earth-centred. -/
structure Pos where
  x : Int
  y : Int
  z : Int
deriving DecidableEq, Repr

/-- Broadcast UTC parameters announced by at least two constellations (R78): TAI − UTC now, the count second at which it
changes, and TAI − UTC from there on. -/
structure UtcParam where
  now : Int
  eff : Nat
  ofs : Int
deriving DecidableEq, Repr

/-- A navigation message that carries a week or date count (R261). -/
inductive NavMsg where
  | lnav | galileo | cnav | beidou | glonass
deriving DecidableEq, Repr

/-- The solution that firmware's arithmetic finds from the measurements of a set of channels, in rising order (R249 to R259): the
time of system TSYS at tL in ps, counted from 1970 in the system's own scale and before the declared delays; the weights of bands
and signals in it in millionths; σ in ps; time dilution in 0.01; the full position and its σ in mm; each channel's residual over its
expected standard deviation in 1/4; and the offset of each constellation in ps, by its bit of R214. -/
structure SolFit where
  chans   : List Nat
  time    : Int
  bandW   : List Int
  sigW    : List Int
  sigma   : Nat
  tdop    : Nat
  pos     : Pos
  posSig  : Nat
  quot    : List (Nat × Nat)
  offsets : List (Nat × Int)
deriving DecidableEq, Repr

/-- What firmware's solution of one second rests on (R249 to R262): the channels whose satellites have ephemerides; the solution of
each set of channels that it may come to use, none where the set gives none; the σ in mm of a survey's averaged position; the dates
that navigation data give, in TAI seconds within the period of their message, GPS's first; and UTC parameters.
[DESIGN CHOICE log 17] -/
structure SolIn where
  usable  : List Nat
  fits    : List SolFit
  survSig : Nat
  nav     : List (NavMsg × Nat)
  utc     : Option UtcParam
deriving DecidableEq, Repr

/-- What processing of a snapshot finds (R266): whether a solution was found, its satellites, σ in ns, and its offset in
ps. -/
structure SnapSol where
  valid : Bool
  nsv   : Nat
  sigma : Nat
  ofs   : Int
deriving DecidableEq, Repr

/-- The link conditions of a port as its PCS finds them (R272): block lock on every used lane, alignment and deskew, high
bit-error, local and remote fault, and the lanes that have lost signal. [DESIGN CHOICE log 17] -/
structure LinkSeen where
  lock        : Bool
  aligned     : Bool
  hiBer       : Bool
  localFault  : Bool
  remoteFault : Bool
  los         : Nat
deriving DecidableEq, Repr

/-- The link conditions of a port, with the ms for which they have held (R272). -/
structure LinkHeld where
  seen : LinkSeen
  held : Nat
deriving DecidableEq, Repr

/-- The measured variable receive delay of a port in unit intervals (R274, R277): gearbox slip with codeword alignment, and the
skew of each lane. -/
structure RxDelay where
  align : Nat
  skews : List Int
deriving DecidableEq, Repr

/-- A received flow-control frame (R280): PAUSE with its quanta, or PFC with its class mask and the quanta of each class. -/
inductive FlowFrame where
  | pause (quanta : Nat)
  | pfc (mask : Nat) (quanta : List Nat)
deriving DecidableEq, Repr

/-- A frame as a port receives it (R278, R309): its bytes from the destination MAC to the last before the FCS; whether the FCS
is wrong, an error code or uncorrectable codeword lies in it, and the receive FIFO overflowed; the word count of the word with
the SFD at each half's unit, the SFD's place in that word in unit intervals, and TSLEW of each unit; and the codewords
corrected and not, and the symbols corrected, by the FEC meanwhile. [DESIGN CHOICE log 17] -/
structure RxFrame where
  bytes  : List Byte
  fcsBad : Bool := false
  code   : Bool := false
  trunc  : Bool := false
  sfd0   : Nat
  sfd1   : Nat
  pos    : Nat
  ts0    : Bool := false
  ts1    : Bool := false
  fecCor : Nat := 0
  fecBad : Nat := 0
  fecSym : Nat := 0
deriving DecidableEq, Repr

/-- A claim as a CONTROL flit brings it (R416): the chip that makes it, its four claim bytes with group 0 lowest, and its
age in µs. -/
structure ClaimIn where
  chip : Nat
  vals : Nat
  age  : Nat
deriving DecidableEq, Repr

/-- A flit as a link receives it (R406): intact, of class 0 CONTROL or 1 MIRROR, with the claims it brings; with a bad CRC; or
uncorrectable by the FEC. -/
inductive FlitSeen where
  | intact (cls : Nat) (claims : List ClaimIn)
  | badCrc
  | fecBad
deriving DecidableEq, Repr

/-- What a test finds (R466 to R468): its duration in µs; failing words, with the memory instance, bit and word address of
the first; the fault code that the first failing memory's class gives (2, 3 or 4) and its unit; whether the logic signature
fails; the failing rows as memory instance and row; and whether a second run, after the repair, passes.
[DESIGN CHOICE log 17] -/
structure BistSeen where
  us     : Nat
  fails  : Nat
  mem    : Nat
  bit    : Nat
  addr   : Nat
  code   : Nat
  unit   : Nat
  logic  : Bool
  rows   : List (Nat × Nat)
  second : Bool
deriving DecidableEq, Repr

/-- A synthesis ratio (R181): integer part, numerator and denominator. -/
structure Ratio where
  int : Nat
  num : Nat
  den : Nat
deriving DecidableEq, Repr

/-- A valid provisioning image header (R500): FIXN and M0 of each half. -/
structure ImageHdr where
  fixn : Pair Nat
  m0   : Pair Ratio
deriving DecidableEq, Repr

/-- What a start finds up to TEST (R496 to R500): which core rails are in range; the CHIPID balls; the image header, if the
image is valid; the frequency of each half's local oscillator in Hz as measured, 0 for no edge; failed reconstructions of each
root; whether the halves' CHK values agree; each patch slot's check (signature and CRC) with its version; and the pages whose
start-up test fails, with what it found. [DESIGN CHOICE log 17] -/
structure StartIn where
  rails  : Pair Bool
  chipid : Nat
  image  : Option ImageHdr
  lo     : Pair Nat
  roots  : Pair Nat
  chk    : Bool
  patch  : List (Bool × Nat)
  tests  : List (Nat × BistSeen)
deriving DecidableEq, Repr

end Sys2Proof
end

