-- ==== Sys2Proof/Machine/NetTypes.lean ====
section
/-! DEFINITION. The state of the network side: ports, switch planes, the bridge, launch gates, the responder with its
buckets, grants and client instances, keys, the duplicate service, links and host DMA, as plain data. -/

namespace Sys2Proof.Machine

/-- The last frame that a port sent: its instant in 2^-32 ns of the owning half's TB0, whether it went through the launch
gate, whether it was ended with an error control code, its bytes, and the traffic class of a queued frame. -/
structure TxFrame where
  at_   : Nat
  gated : Bool
  bad   : Bool
  bytes : List Byte
  cls   : Option Nat := none
deriving DecidableEq, Repr

/-- A port beyond its registers (R272 to R283, R296, R301): the variable delays of the previous link-up; counts of TB0 at
the last ESMC PDU received and sent, with the QL last sent and the second of the last information PDU; the frame of the port's
queues that is being sent, with its end in 2^-32 ns of TB0 (R299); the end of the queued frame in progress and its start, in
2^-32 ns of TB0; the ends of received pauses by class (8 for PAUSE); flow-control frames due, as class and quanta; and
those in force that the port sent, by class, with their instants. -/
structure PortSt where
  var     : Option (Nat × Nat) := none
  esmcAt  : Nat := 0
  sentAt  : Option Nat := none
  sentQl  : Option (Nat × Nat) := none
  infoSec : Option Nat := none
  sending : Option (Nat × Nat) := none
  txFrom  : Nat := 0
  txTo    : Nat := 0
  pauses  : Tab Nat := []
  fcDue   : List (Nat × Nat) := []
  fcSent  : Tab Nat := []
  last    : Option TxFrame := none
deriving DecidableEq, Repr

/-- A frame descriptor (R311): both ingress values in 2^-32 ns with their validity and TSLEW, the ingress port (8 for a
frame from H), the step generation and the bound epoch at classification. -/
structure Desc where
  ing0    : Nat := 0
  ing1    : Nat := 0
  v0      : Bool := false
  v1      : Bool := false
  ts0     : Bool := false
  ts1     : Bool := false
  port    : Nat := 8
  stepgen : Nat := 0
  epoch   : Nat := 0
deriving DecidableEq, Repr

/-- A frame stored in a plane's buffer (R294): the destinations that hold a reference, as local port; the flags of R278;
and the count of TB0 at which a destination first finished it. -/
structure SFrame where
  id     : Nat
  bytes  : List Byte
  desc   : Desc
  cls    : Nat
  cells  : Nat
  inPort : Nat
  flags  : Nat := 0
  refs   : List Nat
  doneAt : Option Nat := none
deriving DecidableEq, Repr

/-- A client's or service's outer addressing and message, or a frame as it came (R304). -/
inductive GBody where
  | built (o : Outer) (payload : List Byte)
  | raw (bytes : List Byte) (udpSum : Option Nat) (v6 : Bool)
deriving DecidableEq, Repr

/-- What a field states of its frame's launch instant (R304, R335). -/
inductive FixKind where
  /-- NTP transmit timestamp of a timebase on the scale its request was classified under (R72), with TAI − UTC where an
  origin's context gives it (R422) -/
  | ntpTx (n scale : Nat) (utc : Option Int)
  /-- a PTP timestamp of a timebase -/
  | ptpTs (n : Nat)
  /-- the sub-nanosecond part of the launch instant in a timebase, added to a base, in 2^-16 ns -/
  | subNs (n : Nat) (base : Int)
  /-- turnaround: base plus tbn(T) − tbn(m) (R357) -/
  | turn (n : Nat) (base : Int) (m : Nat)
  /-- transparent-clock residence from t_in, with the link delay (R302) -/
  | residence (tin : Nat) (base link : Int)
deriving DecidableEq, Repr

/-- A field that a launch instant fills, by its offset. -/
structure Fix where
  off  : Nat
  kind : FixKind
deriving DecidableEq, Repr

/-- Whose frame a gated frame is (R315, R320). -/
inductive GSrc where
  /-- of the responder: whether it carries authentication -/
  | reply (auth : Bool)
  | tc
  | hostAt (tag : Nat)
  | hostReport (tag : Nat)
deriving DecidableEq, Repr

/-- A timebase's published view as a reply states it (R342, R357, R422). -/
structure TbView where
  n       : Nat
  bound   : Nat
  cls     : Nat
  cls1    : Nat
  stratum : Nat
  li      : Nat
  refid   : Nat
  refts   : Nat
  utc     : Int
  delta   : Int
  rate    : Int
deriving DecidableEq, Repr

/-- A gated frame (R315): the launch instant in ns of TB0, the mean ingress instant, its fields that state the launch, the
sampled offsets of its timebase, the step generation it was computed under, and the event message it follows. -/
structure GFrame where
  id    : Nat
  port  : Nat
  src   : GSrc
  t     : Nat
  mean  : Nat
  body  : GBody
  fixes : List Fix
  m0    : Nat := 0
  views : List TbView := []
  gen   : Nat
  after : Option Nat := none
  /-- the instant of the event message that a follow-up states, in ns -/
  ev    : Option Nat := none
  prp   : Bool := false
  mute  : Bool := false
  /-- the step generation when it reached the gate -/
  at_   : Nat := 0
  /-- the kind of request that a reply answers (R486), or 5 for a Sync, 6 for an Announce and 7 for any other message the
  chip originates -/
  cls   : Nat := 7
deriving DecidableEq, Repr

/-- An egress report (R326). -/
structure Report where
  tag    : Nat
  status : Nat
  sec    : Nat := 0
  nsec   : Nat := 0
deriving DecidableEq, Repr

/-- A port's launch gate (R316, R325). -/
structure GateSt where
  held    : List GFrame := []
  reports : List Report := []
deriving DecidableEq, Repr

/-- The stages of the responder (R333). -/
inductive Stage where
  | arrived | parse | classify | rate | verify | build | seal | late
deriving DecidableEq, Repr

/-- The kinds of request. -/
inductive ReqKind where
  | ntp | nts | delayReq | pdelayReq | signaling
deriving DecidableEq, Repr

/-- What Verify has opened of an NTS request (R345 to R348). -/
structure NtsCtx where
  c2s   : List Byte
  s2c   : List Byte
  uid   : List Byte
  nonce : List Byte
  k     : Nat
  fam   : Nat
  isNak : Bool := false
deriving DecidableEq, Repr

/-- A request in the responder (R333): the service entry, PTP service, SPP entry and profile it was classified with, the key
slots it holds keys from, and what the stages make of it. -/
structure Req where
  id     : Nat
  desc   : Desc
  bytes  : List Byte
  entNo  : Nat
  ent    : List Nat
  bridged : Bool := false
  stage  : Stage := .arrived
  kind   : ReqKind := .ntp
  svc    : Nat := 0
  cfg    : List Nat := []
  spp    : Nat := 0
  prof   : List Nat := []
  nts    : Option NtsCtx := none
  slots  : List Nat := []
  probe  : Bool := false
  origin : Option Nat := none
  lead   : Nat := 0
  /-- SCALE of the service timebase when it was classified (R72) -/
  scale  : Nat := 0
  /-- count of TB0 at its arrival at the classifier's hold, in 2^-32 ns -/
  at_    : Nat := 0
  out    : List GFrame := []
deriving DecidableEq, Repr

/-- The kind of a request as responder events carry it (R486). -/
def Req.cls (r : Req) : Nat :=
  if r.origin.isSome then 4
  else match r.kind with
    | .ntp => 0 | .nts => 1 | .delayReq => 2 | .pdelayReq => 2 | .signaling => 3

/-- What Warp's firmware has published of a timebase at the last second boundary (R17, R174, R343, R357): clockClass of both
columns, NTP stratum, reference ID, the bound, the flags of Sync and Announce and timeSource. -/
structure PubVals where
  cls     : Nat := 248
  cls1    : Nat := 248
  stratum : Nat := 16
  refid   : Nat := 0x494E4954
  bound   : Nat := 0xFFFFFFFF
  flags   : Nat := 8
  source  : Nat := 0
deriving DecidableEq, Repr

/-- A rate bucket (R351, R353): tokens, and m of the last update and of the last KoD, in 2^-32 ns. -/
structure Bucket where
  tok  : Nat := 0xFFFFFFFF
  last : Nat := 0
  kod  : Option Nat := none
deriving DecidableEq, Repr

/-- A unicast grant (R362, R368): START in ns of TB0, EXPIRY in 2^-32 ns, and the number of the next transmission. -/
structure Grant where
  active : Bool := false
  v6     : Bool := false
  l2     : Bool := false
  addr   : Nat := 0
  mac    : Nat := 0
  vid    : Nat := 0
  tagged : Bool := false
  pid    : Nat := 0
  pnum   : Nat := 0
  mtype  : Nat := 0
  pair   : Nat := 0
  svc    : Nat := 0
  entry  : Nat := 0
  logint : Int := 0
  start  : Nat := 0
  expiry : Nat := 0
  gen    : Nat := 0
  next   : Nat := 0
deriving DecidableEq, Repr

/-- The responder of a half beyond its registers: requests in the pipeline and in the classifier's hold (R403), the counter
of identities, follow-ups that wait for their instant, the milliseconds in which AUTH_FAIL and RL_DENY were last raised (R370), whether RL_OCC50 may be raised
again (R354), and the count of TB0 at the last copy generation (R364). -/
structure RespSt where
  reqs    : List Req := []
  held    : List Req := []
  /-- twins already released, as port, source MAC, SeqNr and count (R403) -/
  freed   : List (Nat × Nat × Nat × Nat) := []
  nextId  : Nat := 0
  failMs  : Option Nat := none
  denyMs  : Option Nat := none
  occArm  : Bool := true
  follow  : List GFrame := []
  copyAt  : Nat := 0
  copyLost : Bool := false
  /-- the instant of the last Announce of each service, plus one (R358) -/
  anns    : Tab Nat := []
  /-- the millisecond in which this half last copied its grant table, plus one (R364) -/
  copied  : Nat := 0
deriving DecidableEq, Repr

/-- An Announce as a client instance keeps it (R360): the sender's portIdentity, the dataset that the best-master algorithm
compares, its clockClass, clockAccuracy and stepsRemoved, the bound of its organisation-extension TLV (R211), its interval, the
count of TB0 at which it came, and the sender's addresses. -/
structure Foreign where
  source : List Byte
  data   : List Byte
  cls    : Nat
  acc    : Nat
  steps  : Nat
  bound  : Option Nat
  log    : Int
  at_    : Nat
  mac    : Nat
deriving DecidableEq, Repr

/-- A client instance in a half (R360): messages handed to it and not yet taken, the masters heard, the parent, the parent
that the deciding half has chosen and this half applies at the next second boundary, the Sync that waits for its Follow_Up
(sequence number, receipt and correction), the last Sync's instant of the parent and receipt, the request that waits for its
answer (sequence number and departure), the two-step peer-delay answer held (sequence number, receipt, requestReceipt and
correction), the last delay measurements in ps, the grants with their expiry and half-life seconds, the instant before which each
message type is not asked for again, the number of the next request, the departure of the last one, the receipt and interval of the last Sync, and the two timeouts that stand. -/
structure InstSt where
  rx      : List (Desc × List Byte) := []
  masters : List Foreign := []
  parent  : Option Foreign := none
  next    : Option (Option Foreign) := none
  waitSync : Option (Nat × Nat × Int) := none
  t1t2    : Option (Int × Nat) := none
  req     : Option (Nat × Nat) := none
  pd      : Option (Nat × Nat × Int × Int) := none
  delays  : List Int := []
  grants  : Tab (Option (Nat × Nat)) := []
  asks    : Tab Nat := []
  seq     : Nat := 0
  reqAt   : Option Nat := none
  syncAt  : Nat := 0
  syncLog : Int := 0
  annLost : Bool := false
  syncLost : Bool := false
deriving DecidableEq, Repr

/-- A key slot (R376, R378, R381). -/
structure Slot where
  valid   : Bool := false
  key     : List Byte := []
  typ     : Nat := 0
  usage   : Nat := 0
  persist : Bool := false
  lock    : Bool := false
  derived : Bool := false
  defect  : Bool := false
  drain   : Bool := false
  keyid   : Nat := 0
  act     : Nat := 0
  ret     : Nat := 0
  blob    : List Word := []
deriving DecidableEq, Repr

/-- A half's Caddy beyond its registers (R371 to R393): the slots; the range being zeroised and the one queued behind it,
as first, last and PERSIST, with the slots that failed so far; slots added by tamper; and the slots whose flash records
wait to be purged; and the slot last announced as active for each family, plus one. -/
structure CadSt where
  slots  : Tab Slot := []
  zero   : Option (Nat × Nat × Bool) := none
  queued : Option (Nat × Nat × Bool) := none
  extra  : List Nat := []
  purge  : List Nat := []
  shown  : Tab Nat := []
deriving DecidableEq, Repr

/-- An AEAD engine beyond its registers: the slots whose expanded keys it holds (R386). -/
structure EngSt where
  keys : List Nat := []
deriving DecidableEq, Repr

/-- A claim heard (R416): the four claim bytes and the device tick at which it was formed. -/
structure ClaimRec where
  vals : Nat
  at_  : Nat
deriving DecidableEq, Repr

/-- A mirror context of an origin's epoch (R422). -/
structure MirrorCtx where
  epoch : Nat
  m0    : Nat
  views : List TbView
  sum   : Nat
deriving DecidableEq, Repr

/-- The duplicate service of a half beyond its registers (R400 to R429): the sample of the window as (window, m, digest);
mismatches in a row; samples that match in a row during Check; the device tick at which a comparison or a selector last
differed (R427); the tick at which Wait ends; claims heard, by chip; of each group, the tick since which `want` holds;
contexts by origin, newest first; the millisecond in which MIRROR_DROP was last raised; copy items applied in this return;
the ticks since which ILK_IN is low and since which both interlock pins are high; the tick until which a chip-ID conflict
stands; the tick at which the chip last heard another; the tick at which the chip's wait ends, while
the first two conditions of R429 hold; and the
second in which CLAIM_SKEW was last raised. -/
structure RedSt where
  sample  : Option (Nat × Nat × List Byte) := none
  misRun  : Nat := 0
  matches_ : Nat := 0
  diffAt  : Nat := 0
  waitAt  : Nat := 0
  claims  : Tab (Option ClaimRec) := []
  want    : Tab (Option Nat) := []
  ctxs    : Tab (List MirrorCtx) := []
  dropMs  : Option Nat := none
  copied  : List Nat := []
  ilkLow  : Option Nat := none
  ilkBoth : Option Nat := none
  idUntil : Option Nat := none
  heardAt : Nat := 0
  chipWait : Option Nat := none
  skewSec : Option Nat := none
  /-- the millisecond of the schedule whose digests were last compared, plus one (R400) -/
  digestAt : Nat := 0
deriving DecidableEq, Repr

/-- A Selvedge link beyond its registers (R406 to R412): this chip's transmit and receive stamps t1 and t4 of the millisecond
in 2^-32 ns, in Warp and in Weft; path delays of the last valid exchanges in ps, newest first; that of the first since
link up; the number of exchanges since; valid exchanges in a row; resends in a row; the tick of the last report; θ of
Warp and of Weft in ps; exchanges in a row with both θ within 100 ps; the bytes last sent; and the claims last sent as
chip, claim bytes and age in ticks. -/
structure LinkSt where
  t1     : Pair (Option Nat) := ⟨none, none⟩
  t4     : Pair (Option Nat) := ⟨none, none⟩
  ds     : List Int := []
  first  : Option Int := none
  count  : Nat := 0
  run    : Nat := 0
  resend : Nat := 0
  reptAt : Nat := 0
  theta  : Pair Int := ⟨0, 0⟩
  near   : Nat := 0
  sent   : List Byte := []
  claimsSent : List (Nat × Nat × Nat) := []
deriving DecidableEq, Repr

/-- A queue of the host DMA beyond its registers (R529 to R535): completions since its event was last raised, and the last
entry the device completed, as its bytes, with the frame written. -/
structure DmaSt where
  since : Nat := 0
  entry : List Byte := []
  frame : List Byte := []
deriving DecidableEq, Repr

/-- What crosses the bridge (R305). -/
inductive BridgeItem where
  | request (r : Req)
  | esmc (port ssm : Nat) (essm : Option Nat)
  | inst (k : Nat) (desc : Desc) (bytes : List Byte)
  | frame (f : SFrame)
  | gated (g : GFrame)
  | mirror (origin : Nat) (r : Req)
  | mirrorOut (bytes : List Byte)
  | context (origin : Nat) (c : MirrorCtx)
deriving DecidableEq, Repr

/-- A switch plane beyond its registers (R291 to R305): the buffer, each queue as frame identities, deficits of the round
robin, and what waits to cross to the other plane, oldest first. -/
structure Plane where
  frames  : List SFrame := []
  nextId  : Nat := 0
  queues  : Tab (List Nat) := []
  deficit : Tab Nat := []
  turn    : Tab Nat := []
  bridge  : List BridgeItem := []
  gateIn  : List GFrame := []
deriving DecidableEq, Repr

/-- The sample boundary of a bound epoch with the offsets of every timebase in 2^-32 ns and the differences of their FADJ
in 2^-48 (R339), and what a reply states of each timebase under the epoch (R25, R342): what was then published, and the TB0
instant of the loop's last update, in 2^-32 ns. [DEDUCED log 148] -/
structure EpochVals where
  num   : Nat
  m0    : Nat
  delta : List Int
  rate  : List Int
  pubs  : List PubVals := []
  refs  : List Nat := []
deriving DecidableEq, Repr

/-- The items of R426. -/
inductive CopyItem where
  | leap | model | grants | selectors | published | keys
deriving DecidableEq, Repr

end Sys2Proof.Machine
end

