-- ==== Sys2Proof/Syntax.lean ====
section
/-! DEFINITION. The commands of the block: one constructor per row of spec/opcode_table.json, those with
operands first, each group in the table's order. -/

namespace Sys2Proof

open Machine

/-- A command, with what the world brings with it. [DESIGN CHOICE log 222, 228, 229] -/
inductive Instr where
  /-- REGISTER_WRITE: a write by a master, with the words it brings (R43, R48). -/
  | registerWrite (m : Master) (a : BitVec 24) (sp : AccSpan) (ws : List Word)
  /-- RL_GROUP_READ: a read of the lowest word of a group latches it (R41). -/
  | rlGroupRead (m : Master) (a : BitVec 24)
  /-- SPI_WRITE_FRAME: an SPI frame, from CS_N low to CS_N high, that begins with the write command (R61). -/
  | spiWriteFrame (frame : List Byte)
  /-- SPI_READ_FRAME: an SPI frame that begins with the read command; `wait` bytes pass while the access is in progress (R61). -/
  | spiReadFrame (frame : List Byte) (wait : Nat)
  /-- ACCERR_CLEAR: CLEAR written (R58). -/
  | accerrClear (m : Master)
  /-- SOFT_RESET: SOFT_RESET written at the page of an address (R564). -/
  | softReset (m : Master) (a : BitVec 24)
  /-- BLOCK_DISABLE: ENABLE cleared at the page of an address (R50, R563). -/
  | blockDisable (m : Master) (a : BitVec 24)
  /-- BLOCK_ENABLE: ENABLE set at the page of an address (R563). -/
  | blockEnable (m : Master) (a : BitVec 24)
  /-- EVT_ACK: EVT_ACK written at the page of an address (R51). -/
  | evtAck (m : Master) (a : BitVec 24) (v : Word)
  /-- VECTOR_GENERATE: a vector generates its message where it may (R55). -/
  | vectorGenerate (v : Fin 32)
  /-- VACK: VACK written (R55). -/
  | vack (m : Master) (v : Word)
  /-- MSIX_PBA_RELEASE: the host sets PF0's MSI-X enable and a vector's mask, and waiting messages leave (R55). -/
  | msixPbaRelease (v : Fin 32) (en masked : Bool)
  /-- MBX_GO: DOORBELL.GO written (R63). -/
  | mbxGo (m : Master) (b : Fin 4)
  /-- MBX_DONE: firmware finishes a command (R63, R64). -/
  | mbxDone (b : Fin 4)
  /-- MBX_TIMEOUT: TIMEOUT passes (R64). -/
  | mbxTimeout (b : Fin 4)
  /-- ECHO: the commit of ECHO (R67). -/
  | echo (b : Fin 4)
  /-- QUERY_TAG: the commit of QUERY_TAG (R64). -/
  | queryTag (b : Fin 4)
  /-- FW_VERSION: the commit of FW_VERSION (R67). -/
  | fwVersion (b : Fin 4)
  /-- LTOL_WRITE: LTOL written at the page of an address (R434). -/
  | ltolWrite (m : Master) (a : BitVec 24) (v : Word)
  /-- POWER_STATE_ENTRY: a page that has been idle for so many ticks (R434). -/
  | powerStateEntry (a : BitVec 24) (idle : Nat)
  /-- BLOCK_WAKE: work reaches a page (R436). -/
  | blockWake (a : BitVec 24)
  /-- PSEL_WRITE: PSEL of a counter written at the page of an address (R484). -/
  | pselWrite (m : Master) (a : BitVec 24) (n : Fin 8) (v : Word)
  /-- HALF_SKEW_MEASURE: the markers of CP72 and CP73 pass, each as Warp's and Weft's unit see it (R18, R120). -/
  | halfSkewMeasure (m72 m73 : EdgePair)
  /-- STEP: STEP written (R76). -/
  | step (m : Master) (h : Half) (n : Fin 16)
  /-- STEP_APPLY: a count second boundary (R76). -/
  | stepApply (h : Half) (n : Fin 16)
  /-- FADJ_WRITE: FADJ_HI written (R74). -/
  | fadjWrite (m : Master) (h : Half) (n : Fin 16) (v : BitVec 16)
  /-- PADJ_START: PADJ_HI written (R75). -/
  | padjStart (m : Master) (h : Half) (n : Fin 16) (v : BitVec 16)
  /-- PADJ_ABORT: PADJ_ABORT written (R75). -/
  | padjAbort (m : Master) (h : Half) (n : Fin 16)
  /-- PADJ_COMPLETE: the remaining adjustment has reached 0 (R75). -/
  | padjComplete (h : Half) (n : Fin 16)
  /-- DOM_SEL_WRITE: DOM_SEL written (R84, R85). -/
  | domSelWrite (m : Master) (h : Half) (n : Fin 16) (v : Bool)
  /-- DOM_OFS_UPDATE: the offset from ALT is measured, `own` being the difference from the own chip in ps where ALT names a peer (R72, R84). -/
  | domOfsUpdate (h : Half) (n : Fin 16) (own : Int)
  /-- LEAP_COMMIT: COMMIT written (R78). -/
  | leapCommit (m : Master)
  /-- LEAP_PEND_START: EFF_SEC less its offset less 86,400 of an entry is reached (R80). -/
  | leapPendStart (h : Half) (n : Fin 16) (m : Fin 8)
  /-- LEAP_APPLIED: EFF_SEC of an entry is reached (R80). -/
  | leapApplied (h : Half) (n : Fin 16) (m : Fin 8)
  /-- SMEAR_WINDOW_OPEN: t_s of an entry is reached (R81). -/
  | smearWindowOpen (h : Half) (n : Fin 16) (m : Fin 8)
  /-- SMEAR_WINDOW_CLOSE: the end of the smear window is reached (R81). -/
  | smearWindowClose (h : Half) (n : Fin 16)
  /-- LEAP_FOLD: firmware takes up LEAP_FOLD (R518). -/
  | leapFold (b : Fin 4)
  /-- TTA_ARM: ARM written (R89). -/
  | ttaArm (m : Master) (h : Half) (e : Fin 64)
  /-- TTA_REEVALUATE: a live change of an entry: TB (w = 0) or one of the three words of its instant (R89). -/
  | ttaReevaluate (m : Master) (h : Half) (e : Fin 64) (w : Fin 4) (v : Word)
  /-- TTA_PULSE: a PULSE entry fires (R87). -/
  | ttaPulse (h : Half) (e : Fin 64)
  /-- TTA_OUT_START: an OUT_START entry fires (R86). -/
  | ttaOutStart (h : Half) (e : Fin 64)
  /-- TTA_OUT_STOP: an OUT_STOP entry fires (R565). -/
  | ttaOutStop (h : Half) (e : Fin 64)
  /-- TTA_TRIGGER: a TRIGGER entry fires (R104). -/
  | ttaTrigger (h : Half) (e : Fin 64)
  /-- TTA_SYNC_TX: a SYNC_TX entry fires (R358). -/
  | ttaSyncTx (h : Half) (e : Fin 64)
  /-- TTA_SNAPSHOT: a SNAPSHOT entry fires (R263). -/
  | ttaSnapshot (h : Half) (e : Fin 64)
  /-- TTA_CONTROL: a CONTROL entry fires, with what the channels hold (R240). -/
  | ttaControl (h : Half) (e : Fin 64) (ms : List ChanMeas)
  /-- TTA_REG_WRITE: a REG_WRITE entry fires (R88). -/
  | ttaRegWrite (h : Half) (e : Fin 64)
  /-- TTA_DOMAIN_SWITCH: a DOMAIN_SWITCH entry fires (R84, R86). -/
  | ttaDomainSwitch (h : Half) (e : Fin 64)
  /-- EDGE_CAPTURE: an edge at a capture point as each half's unit sees it (R97). -/
  | edgeCapture (cp : Fin 80) (fall : Bool) (e0 e1 : EdgeSeen)
  /-- CAPTURE_CALIBRATE: a unit's dead time ends with its two calibration counts (R98). -/
  | captureCalibrate (h : Half) (cp : Fin 80) (c1 c2 : Nat)
  /-- QRD_WRITE: QRD written (R108). -/
  | qrdWrite (m : Master) (h : Half) (cp : Fin 80) (v : BitVec 16)
  /-- MISSED_CLR: MISSED.CLR written (R111). -/
  | missedClr (m : Master) (h : Half) (cp : Fin 80)
  /-- COMPARATOR_WRITE: THR, or the word with HYST, DIFF and SLOPE, written (R102). -/
  | comparatorWrite (m : Master) (h : Half) (cp : Fin 80) (thr : Bool) (v : Word)
  /-- INTERVAL_TIMEOUT: 1 s passes without a stop edge (R106). -/
  | intervalTimeout (h : Half) (cp : Fin 80)
  /-- WORD_CLOCK_TRACK: a port's word clock is stamped (R116). -/
  | wordClockTrack (p : Fin 8) (tx : Bool) (words ce0 ce1 : Nat)
  /-- SELVEDGE_MARKER: a link's marker leaves or arrives and is stamped (R119). -/
  | selvedgeMarker (l : Fin 4) (leaves : Bool) (e0 e1 : EdgeSeen)
  /-- TEMP_COMPENSATE: 10 ms pass: the path delay compensation of capture points, in ps, follows the die sensors (R121). -/
  | tempCompensate (h : Half) (ps : List (Nat × Int))
  /-- REF_EN_WRITE: EN of a candidate written (R130). -/
  | refEnWrite (m : Master) (h : Half) (c : Fin 30) (v : Bool)
  /-- AMON_INTERVAL: an activity interval ends (R132). -/
  | amonInterval (h : Half) (c : Fin 30)
  /-- FMON_WINDOW: a frequency window ends (R133). -/
  | fmonWindow (h : Half) (c : Fin 30)
  /-- QUAL_HOLD_EXPIRE: HOLD passes without a fault (R130, R170). -/
  | qualHoldExpire (h : Half) (c : Fin 30)
  /-- DECIDE_END: DECIDE ends (R140). -/
  | decideEnd (h : Half) (n : Fin 16)
  /-- BUILD_OUT_END: BUILD-OUT ends (R140). -/
  | buildOutEnd (h : Half) (n : Fin 16)
  /-- WTR_EXPIRE: a wait-to-restore timer expires (R143). -/
  | wtrExpire (h : Half) (n : Fin 16) (c : Fin 30)
  /-- LOOP_UPDATE: a loop's update instant (R153). -/
  | loopUpdate (h : Half) (k : Fin 16)
  /-- LOOP_LATE: a per-second step misses its time (R30). -/
  | loopLate (h : Half) (k : Fin 16)
  /-- LOOP_EN_WRITE: EN of a loop written (R158). -/
  | loopEnWrite (m : Master) (h : Half) (k : Fin 16) (v : Bool)
  /-- REALIGN: REALIGN written (R161). -/
  | realign (m : Master) (h : Half) (k : Fin 16)
  /-- REALIGN_APPLY: the second boundary of a waiting realign (R161). -/
  | realignApply (h : Half) (k : Fin 16)
  /-- HOLD_SOURCE_LOST: C13 has left QUALIFIED, or CP12 has been silent for 2 s (R170). -/
  | holdSourceLost (h : Half) (k : Fin 16)
  /-- HOLD_EXPIRED: HTIME or the published bound reaches its limit (R173). -/
  | holdExpired (h : Half) (k : Fin 16)
  /-- MODEL_RESET: MODEL_RESET written (R166). -/
  | modelReset (m : Master) (h : Half)
  /-- MODEL_SAVE: firmware saves the model (R167). -/
  | modelSave (w : FlashEnd)
  /-- TEMP_READ: the sensors are read, in 2^-8 degrees, or fail to answer (R168). -/
  | tempRead (reads : List (Option Int))
  /-- LO_LOST: 1 µs without an edge on LOIN (R181). -/
  | loLost (h : Half)
  /-- LO_RETURN: 100 µs of edges on LOIN (R181). -/
  | loReturn (h : Half)
  /-- RELOCK: RELOCK of the steered loop written (R183). -/
  | relock (m : Master) (h : Half)
  /-- HOP: HOP of a loop block written (R185). -/
  | hop (m : Master) (h : Half) (j : Fin 2)
  /-- M_WRITE: M_INT written (R182). -/
  | mWrite (m : Master) (h : Half) (v : Word)
  /-- BAND_SELECT: a band search ends with a band, or the stored band is taken (R183). -/
  | bandSelect (h : Half) (band : Fin 64)
  /-- LOCK_DECLARE: 150 µs after band selection (R183, R184). -/
  | lockDeclare (h : Half) (ok : Bool)
  /-- LOSS_OF_LOCK: a loop loses lock (R183). -/
  | lossOfLock (h : Half) (j : Fin 2)
  /-- OUT_EN_WRITE: EN of an output written (R565). -/
  | outEnWrite (m : Master) (h : Half) (o : Fin 12) (v : Bool)
  /-- DAC_UPDATE: the DAC port moves its target (R193). -/
  | dacUpdate (h : Half)
  /-- DAC_FRAME: a DAC frame is sent (R194). -/
  | dacFrame (h : Half)
  /-- DAC_CODE_WRITE: CODE written (R195). -/
  | dacCodeWrite (m : Master) (h : Half) (v : BitVec 24)
  /-- BOUND_EXCHANGE: the halves exchange bounds, or fail to (R206, R208). -/
  | boundExchange (ok : Bool)
  /-- CHAEF_SIGN: the commit of CHAEF_SIGN (R213). -/
  | chaefSign (b : Fin 4)
  /-- BAND_CLK_LOST: a band clock fails its conditions (R222). -/
  | bandClkLost (b : Fin 4)
  /-- BAND_CLK_OK: 1 ms of valid conditions, the presence of edges at the clock ball among them (R222). -/
  | bandClkOk (b : Fin 4) (edges : Bool)
  /-- BAND_FIFO_DROP: a full FIFO drops samples (R224). -/
  | bandFifoDrop (b : Fin 4) (n : Nat)
  /-- AGC_UPDATE: the samples, D[7:0] each, of a level interval (R226). -/
  | agcUpdate (b : Fin 4) (samples : List Byte)
  /-- JAM_UPDATE: the samples of the last 100 ms, and those of a second which ends (R227). -/
  | jamUpdate (b : Fin 4) (samples : List Byte) (second : Option (List Byte))
  /-- SPECTRUM_AVERAGE: 16 power spectra of 1,024 bins (R229). -/
  | spectrumAverage (b : Fin 4) (spectra : List (List Nat))
  /-- NOTCH_CONFIG_WRITE: NCFG, NFREQ or NRANGE written (R230). -/
  | notchConfigWrite (m : Master) (b : Fin 4) (k : Fin 8) (r : Fin 3) (v : Word)
  /-- BAND_CONFIG_WRITE: BCFG, CENTRE or SRATE written (R237). -/
  | bandConfigWrite (m : Master) (b : Fin 4) (r : Fin 3) (v : Word)
  /-- ACQ_SUBMIT: SUBMIT.GO written (R233). -/
  | acqSubmit (m : Master)
  /-- ACQ_FLUSH: SUBMIT.FLUSH written (R234). -/
  | acqFlush (m : Master)
  /-- ACQ_PASS_END: a pass ends, and its cells are evaluated (R232). -/
  | acqPassEnd (src : AcqSrc) (p : AcqSeen)
  /-- ACQ_VERIFY_END: a verification dwell ends (R232). -/
  | acqVerifyEnd (src : AcqSrc) (p : AcqSeen)
  /-- ACQ_RESULT_POP: RESPOP.POP written (R246). -/
  | acqResultPop (m : Master)
  /-- CHANNEL_TRANSITION: what a channel's loops find (R237). -/
  | channelTransition (c : Fin 256) (seen : ChanSeen)
  /-- CHANNEL_STOP: CCFG.STOP written (R244). -/
  | channelStop (m : Master) (c : Fin 256)
  /-- CHANNEL_OWNER_WRITE: OWNER written (R244). -/
  | channelOwnerWrite (m : Master) (c : Fin 256) (v : Bool)
  /-- CHG_CLR: CHG_CLR written (R247). -/
  | chgClr (m : Master) (i : Fin 8) (v : Word)
  /-- MULTIPATH_FIT: firmware fits a channel's reflected path (R239). -/
  | multipathFit (c : Fin 256) (delay amp : Nat) (ok : Bool)
  /-- CHANNEL_ALLOCATE: firmware allocates channels (R243). -/
  | channelAllocate (views : List SvView)
  /-- GNSS_SOLUTION: the solution of a second (R249 to R262); a survey's end goes to the journal (R253). -/
  | gnssSolution (i : SolIn)
  /-- POSITION_SET: POS_Z_HI written (R253). -/
  | positionSet (m : Master) (v : Word)
  /-- SNAP_START: SNCTRL.START written (R263). -/
  | snapStart (m : Master)
  /-- SNAP_ABORT: SNCTRL.ABORT written, with the samples each band had taken (R265). -/
  | snapAbort (m : Master) (samples : List (List Byte))
  /-- SNAP_CAPTURE_END: a capture reaches its length, with the samples of each band (R264). -/
  | snapCaptureEnd (samples : List (List Byte))
  /-- SNAP_PROCESS: the commit of SNAP_PROCESS (R266). -/
  | snapProcess (b : Fin 4) (r : SnapSol)
  /-- LINK_UP: the link conditions have held for UPHOLD (R272). -/
  | linkUp (p : Fin 8) (x : LinkHeld)
  /-- LINK_DOWN: a link condition fails (R273). -/
  | linkDown (p : Fin 8) (seen : LinkSeen)
  /-- DELAY_MEASURE_DONE: the variable delays are measured, in unit intervals (R274). -/
  | delayMeasureDone (p : Fin 8) (rx : RxDelay) (tx : Nat)
  /-- PCS_CONFIG_WRITE: PCFG written (R281). -/
  | pcsConfigWrite (m : Master) (p : Fin 8) (v : Word)
  /-- ESMC_RECEIVE: an ESMC PDU is parsed (R282). -/
  | esmcReceive (p : Fin 8) (ssm : Nat) (essm : Option Nat)
  /-- ESMC_TIMEOUT: 5 s without an ESMC PDU (R282). -/
  | esmcTimeout (p : Fin 8)
  /-- ESMC_TRANSMIT: a second boundary (R283). -/
  | esmcTransmit (p : Fin 8)
  /-- ESMC_EVENT_PDU: the QL to send has changed (R283). -/
  | esmcEventPdu (p : Fin 8)
  /-- PAUSE_RECEIVE: a flow-control frame arrives (R280). -/
  | pauseReceive (p : Fin 8) (f : FlowFrame)
  /-- PAUSE_EXPIRE: the quanta of a pause run out; class 8 stands for PAUSE (R280). -/
  | pauseExpire (p : Fin 8) (c : Fin 9)
  /-- COUNTER_SNAPSHOT: SNAP.TAKE written (R284). -/
  | counterSnapshot (m : Master) (p : Fin 8)
  /-- COUNTER_SNAPSHOT_ALL: SNAP.TAKE_ALL written (R284). -/
  | counterSnapshotAll (m : Master) (h : Half)
  /-- FRAME_RECEIVE: a frame is received (R278, R289). -/
  | frameReceive (p : Fin 8) (f : RxFrame)
  /-- FWD_ENTRY_COMMIT: word 3 of an entry of the forwarding window written (R292). -/
  | fwdEntryCommit (m : Master) (h : Half) (e : Fin 128) (v : Word)
  /-- EGRESS_FRAME_BOUNDARY: a frame boundary of a port (R296). -/
  | egressFrameBoundary (p : Fin 8)
  /-- MC_AGED: MCAGE passes for a stored frame (R299). -/
  | mcAged (h : Half) (i : Nat)
  /-- PAUSE_REPEAT: half the pause time passes (R301). -/
  | pauseRepeat (p : Fin 8) (c : Fin 9)
  /-- BRIDGE_TRANSFER: what waits at a half's end of the bridge crosses, or finds no credit (R305). -/
  | bridgeTransfer (h : Half) (credit : Bool)
  /-- GATE_ACCEPT: a waiting gated frame is passed to its gate (R316). -/
  | gateAccept (h : Half) (i : Nat)
  /-- GATE_RELEASE: the gate's earliest frame reaches its instant (R317). -/
  | gateRelease (p : Fin 8)
  /-- LGT_BLIND: 2 µs without a transmit tracking stamp (R322). -/
  | lgtBlind (p : Fin 8)
  /-- REPORT_POP: RPTCTL.POP written (R328). -/
  | reportPop (m : Master) (p : Fin 8)
  /-- SVC_ENTRY_COMMIT: ACTRL written (R331). -/
  | svcEntryCommit (m : Master) (h : Half) (a : Fin 64) (v : Word)
  /-- RESPONDER_ACCEPT: the oldest request that waits takes an input credit (R334). -/
  | responderAccept (h : Half)
  /-- REQUEST_PARSE: Parse (R333, R344). -/
  | requestParse (h : Half) (id : Nat)
  /-- REQUEST_CLASSIFY: Classify (R341, R355, R356). -/
  | requestClassify (h : Half) (id : Nat)
  /-- RATE_CHECK: Rate check, with whether a mirror link has credit (R351, R421). -/
  | rateCheck (h : Half) (id : Nat) (credit : Bool)
  /-- REQUEST_VERIFY: Verify (R346, R359). -/
  | requestVerify (h : Half) (id : Nat)
  /-- REPLY_BUILD: Build (R339). -/
  | replyBuild (h : Half) (id : Nat)
  /-- REPLY_SEAL: Seal (R348). -/
  | replySeal (h : Half) (id : Nat)
  /-- LATE_CHECK: the end of Seal (R335). -/
  | lateCheck (h : Half) (id : Nat)
  /-- NTS_MINT: the commit of NTS_MINT (R350). -/
  | ntsMint (b : Fin 4)
  /-- RATE_CLEAR: CTL.CLEAR written (R354). -/
  | rateClear (m : Master) (h : Half)
  /-- HKEY_WRITE: a word of HKEY written (R369). -/
  | hkeyWrite (m : Master) (h : Half) (w : Fin 4) (v : Word)
  /-- ANNOUNCE_SEND: a multiple of 2^LOGANN s for a service (R358). -/
  | announceSend (h : Half) (n : Fin 16)
  /-- UNICAST_GRANT_SEND: a grant's instant (R358). -/
  | unicastGrantSend (h : Half) (n : Fin 4096)
  /-- FOLLOW_UP_SEND: T + 2,048 ns of the oldest follow-up (R358). -/
  | followUpSend (h : Half)
  /-- SIGNALING_REQUEST: a Signaling request is decided (R362). -/
  | signalingRequest (h : Half) (id : Nat)
  /-- GRANT_EXPIRE: a grant's expiry (R363). -/
  | grantExpire (h : Half) (n : Fin 4096)
  /-- GRANT_REVOKE: GREVOKE written (R363). -/
  | grantRevoke (m : Master) (h : Half) (n : Fin 4096)
  /-- GRANT_COPY: the copy of a millisecond, whole or not (R364). -/
  | grantCopy (ok : Bool)
  /-- INSTANCE_ANNOUNCE: an instance takes an Announce (R360). -/
  | instanceAnnounce (h : Half) (k : Fin 4)
  /-- INSTANCE_ANNOUNCE_TIMEOUT: the announce receipt timeout (R131). -/
  | instanceAnnounceTimeout (h : Half) (k : Fin 4)
  /-- INSTANCE_SYNC: an instance takes a Sync or its Follow_Up (R360). -/
  | instanceSync (h : Half) (k : Fin 4)
  /-- INSTANCE_DELAY_REQ: an instant of the request interval; the request leaves at the count `at_` in ns (R360). -/
  | instanceDelayReq (h : Half) (k : Fin 4) (at_ : Nat)
  /-- INSTANCE_DELAY_RESP: an instance takes a delay response (R360). -/
  | instanceDelayResp (h : Half) (k : Fin 4)
  /-- INSTANCE_GRANT_RENEW: an instance requests its grants (R360). -/
  | instanceGrantRenew (h : Half) (k : Fin 4)
  /-- INSTANCE_CONFIG_WRITE: a word of a client instance written (R360). -/
  | instanceConfigWrite (m : Master) (h : Half) (k : Fin 4) (w : Fin 16) (v : Word)
  /-- KEY_LOAD: the commit of KEY_LOAD (R381), with the journal's write (R385). -/
  | keyLoad (b : Fin 4) (w : FlashEnd)
  /-- GEN_ACTIVATED: ACT_SEC of a family's generation (R382). -/
  | genActivated (h : Half) (f : Fin 16)
  /-- GEN_RETIRE: RET_SEC of a slot (R383). -/
  | genRetire (h : Half) (k : Fin 256)
  /-- GEN_RETIRED: RET_SEC + 16 µs of a slot (R383). -/
  | genRetired (h : Half) (k : Fin 256) (defect : Bool)
  /-- KEY_RETIRE: the commit of KEY_RETIRE (R384). -/
  | keyRetire (b : Fin 4)
  /-- ZEROISE: CAD.ZERO written (R387). -/
  | zeroise (m : Master) (h : Half) (v : Word)
  /-- ZERO_DONE: the range ends, with the slots whose read-back failed (R388). -/
  | zeroDone (bad : List Nat)
  /-- TAMPER: a tamper source is seen (R391). -/
  | tamper (src : Fin 5)
  /-- CERT_READ: the commit of CERT_READ (R397). -/
  | certRead (b : Fin 4)
  /-- PRP_HOLD_EXPIRE: HOLD_NS passes without the twin (R403). -/
  | prpHoldExpire (h : Half)
  /-- SLV_UP: a link has trained, with the peer chip and link it names (R408). -/
  | slvUp (l : Fin 4) (peer plink : Nat)
  /-- SLV_DOWN: a link goes down (R408). -/
  | slvDown (l : Fin 4)
  /-- FLIT_RECEIVE: a flit arrives (R406). -/
  | flitReceive (l : Fin 4) (f : FlitSeen)
  /-- TIME_TRANSFER: an exchange ends, with the peer's two stamps (R409). -/
  | timeTransfer (l : Fin 4) (t2 t3 : Option Nat)
  /-- HEALTH_REPORT_RECEIVE: a health report arrives (R413). -/
  | healthReportReceive (l : Fin 4) (bytes : List Byte)
  /-- CLAIM_SWITCH: a low phase of a group (R417). -/
  | claimSwitch (h : Half) (g : Fin 4)
  /-- ILK_EVALUATE: the interlock input as seen (R418). -/
  | ilkEvaluate (ilkIn : Bool)
  /-- MIRROR_RECEIVE: a mirror record arrives (R422). -/
  | mirrorReceive (l : Fin 4) (record : List Byte)
  /-- MIRROR_CONTEXT_RECEIVE: an origin's context arrives (R422). -/
  | mirrorContextReceive (l : Fin 4) (c : MirrorCtx)
  /-- STATE_COPY_APPLY: a copy generation is complete in the returning half (R425). -/
  | stateCopyApply (h : Half) (item : CopyItem) (intact : Bool)
  /-- JOIN_STEP_ADVANCE: a returning half's step is reconsidered (R427). -/
  | joinStepAdvance (h : Half)
  /-- HALF_REJOINED: a second boundary after Wait (R427). -/
  | halfRejoined (h : Half)
  /-- AVS_READING: PACE and the rail are read (R439). -/
  | avsReading (h : Half) (pace vread : Nat) (answered : Bool)
  /-- AVS_VSET_WRITE: VSET written (R450). -/
  | avsVsetWrite (m : Master) (h : Half) (v : BitVec 16) (answered : Bool)
  /-- KETTLE_TRANSFER: the transfer of a second to Kettle, with the measured offset (R442). -/
  | kettleTransfer (kfofs : Int)
  /-- KETTLE_SLEEP: the commit of KETTLE_SLEEP (R444). -/
  | kettleSleep (b : Fin 4) (w : FlashEnd) (kfofs : Int)
  /-- KETTLE_WAKE: KWAKE_N held low, or the alarm reached (R446). -/
  | kettleWake (pin : Bool)
  /-- SCRUB_PASS: a pass of the scrubber, with the words it corrected as page and unit (R447). -/
  | scrubPass (h : Half) (fixed : List (Nat × Nat))
  /-- FLASH_ERASE_DONE: an erase of a journal block ends (R449). -/
  | flashEraseDone (block : Nat) (verified : Bool)
  /-- FLASH_STAT: the commit of FLASH_STAT (R449). -/
  | flashStat (b : Fin 4)
  /-- FAULT_DETECT: a checker signals a fault of a unit of a page (R455). -/
  | faultDetect (a : BitVec 24) (unit : BitVec 8) (code : Fin 16)
  /-- SAFE_STATE_ENTRY: a half enters safe state (R460). -/
  | safeStateEntry (h : Half)
  /-- FAULT_LOG_FREE: LPTR.LRD written (R458). -/
  | faultLogFree (m : Master) (h : Half) (v : BitVec 16)
  /-- FIRST_CLEAR: FCLR.FIRST written (R457). -/
  | firstClear (m : Master) (h : Half)
  /-- LOST_CLEAR: FCLR.LOST written (R456). -/
  | lostClear (m : Master) (h : Half)
  /-- AUTO_HALF_RESET: 100 ms after a half's entry to C2 the other resets it (R462). -/
  | autoHalfReset (h : Half) (rootOk : Bool)
  /-- OTHER_RST: OTHER_RST.GO written in a half's page (R462). -/
  | otherRst (m : Master) (h : Half) (rootOk : Bool)
  /-- BIST_GO: BCTRL.GO written (R465). -/
  | bistGo (m : Master) (h : Half)
  /-- BST_DONE: a test ends (R466), and saved repairs go to the journal (R468). -/
  | bstDone (seen : BistSeen)
  /-- BIST_ABORT: BCTRL.ABORT written (R470). -/
  | bistAbort (m : Master) (h : Half)
  /-- SAMPLE_PRELOAD: SAMPLE/PRELOAD: the pins sampled, the cells loaded (R471). -/
  | samplePreload (pins cells : Nat)
  /-- PRIVATE_TEST: a private opcode from 0x40 on at Update-IR, with what its data register captures (R471). -/
  | privateTest (op : Fin 64) (dr : Nat)
  /-- LCS_OWN_SET: the commit of LCS_OWN_SET (R474). -/
  | lcsOwnSet (b : Fin 4)
  /-- LCS_FIELD: the commit of LCS_FIELD (R474). -/
  | lcsField (b : Fin 4)
  /-- LCS_SCRAP: the commit of LCS_SCRAP (R474). -/
  | lcsScrap (b : Fin 4)
  /-- LCS_PASSWORD: the commit of LCS_PASSWORD (R476). -/
  | lcsPassword (b : Fin 4)
  /-- LCS_CHALLENGE: the commit of LCS_CHALLENGE (R477). -/
  | lcsChallenge (b : Fin 4)
  /-- LCS_RESPOND: the commit of LCS_RESPOND (R477). -/
  | lcsRespond (b : Fin 4)
  /-- LCS_CLOSE: the commit of LCS_CLOSE (R475). -/
  | lcsClose (b : Fin 4)
  /-- PRF_GATHER: a PERIOD boundary (R490). -/
  | prfGather (h : Half)
  /-- PRF_DONE: a record has been written (R491). -/
  | prfDone (h : Half)
  /-- PRF_RPTR_WRITE: RPTR written (R492). -/
  | prfRptrWrite (m : Master) (h : Half) (v : BitVec 16)
  /-- PRF_SIZE_WRITE: SIZE written (R492). -/
  | prfSizeWrite (m : Master) (h : Half) (v : BitVec 16)
  /-- TEL_UPDATE: a telemetry value is measured (R495). -/
  | telUpdate (h : Half) (v : Fin 16) (x : Int)
  /-- TEL_CLR: TCTRL.CLR written (R495). -/
  | telClr (m : Master) (h : Half)
  /-- PORST_RELEASE: PORST_N released: FUSES to TEST (R498). -/
  | porstRelease (i : StartIn)
  /-- TIME_SEED: the first Kettle edge after lock, so many ticks ago (R501). -/
  | timeSeed (ticks : Nat)
  /-- START_RESTORE: RESTORE in the named halves, with the image's writes (R505, R506). -/
  | startRestore (which : Pair Bool) (bootsOk : Bool) (image : List (Nat × Nat))
  /-- WARM_RESET: 1 µs after WARM (R508). -/
  | warmReset (i : StartIn)
  /-- HDM_PROD_WRITE: PROD written (R529). -/
  | hdmProdWrite (m : Master) (q : Fin 16) (v : BitVec 16)
  /-- HDM_TX_DESCRIPTOR: a transmit descriptor and its frame are fetched (R531). -/
  | hdmTxDescriptor (q : Fin 8) (entry frame : List Byte)
  /-- HDM_RX_FRAME: a receive entry takes the head frame of H (R533). -/
  | hdmRxFrame (q : Fin 8) (entry : List Byte)
  /-- HDM_QUEUE_ENABLE: QCFG.EN written (R534). -/
  | hdmQueueEnable (m : Master) (q : Fin 16) (v : Bool)
  /-- HDM_BME_CHANGE: PF0 Bus Master Enable changes (R534). -/
  | hdmBmeChange (v : Bool)
  /-- HDM_DMA_ERROR: a host read or write fails (R534). -/
  | hdmDmaError (q : Fin 16) (write : Bool)
  /-- REGISTER_READ: a read by a master (R43). -/
  | registerRead (m : Master) (a : BitVec 24) (sp : AccSpan)
  /-- INSERTED_SECOND_START: EFF_SEC - 1 of an inserted leap is reached (R80). -/
  | insertedSecondStart (h : Half) (n : Fin 16) (m : Fin 8)
  /-- FAULT_CONDITION_END: a persisting condition ends (R455). -/
  | faultConditionEnd (a : BitVec 24) (unit : BitVec 8) (code : Fin 16)
  /-- INSTANCE_SYNC_TIMEOUT: three Sync intervals without a Sync (R131). -/
  | instanceSyncTimeout (h : Half) (k : Fin 4)
  /-- PEER_REPORT_TIMEOUT: 3 ms without a health report (R412). -/
  | peerReportTimeout (l : Fin 4)
  /-- SCHEDULE_TAKEOVER: Weft's next millisecond boundary (R19). -/
  | scheduleTakeover
  /-- SETTINGS_COMPARE: the comparisons of a second (R71, R114, R139, R332). -/
  | settingsCompare
  /-- LEAP_ACTIVATE: the second boundary of a waiting commit (R79); the journal takes the new table (R505). -/
  | leapActivate
  /-- LEAP_FOLD_APPLY: the second boundary of a waiting fold (R518); the journal takes the new table (R505). -/
  | leapFoldApply
  /-- SEL_EVALUATE: a millisecond boundary of the schedule (R136). -/
  | selEvaluate
  /-- VOTE_WINDOW: a vote window ends (R144). -/
  | voteWindow
  /-- HOLDOVER_SAMPLE: firmware takes the sample of a second (R165). -/
  | holdoverSample
  /-- MODEL_UPDATE: t0 + 100 ms (R165). -/
  | modelUpdate
  /-- PUBLISH_VALUES: a second boundary of TB0 (R17). -/
  | publishValues
  /-- BOUND_SAMPLE: a millisecond boundary (R205). -/
  | boundSample
  /-- EPOCH_OPEN: m + 1 ms (R206, R422). -/
  | epochOpen
  /-- DATE_FLOOR_RECORD: firmware records the date floor (R261). -/
  | dateFloorRecord
  /-- GRANT_COPY_LOST: 4 ms without a copy (R370). -/
  | grantCopyLost
  /-- PURGE_DONE: the flash block of the purged records is erased and rewritten (R387, R510). -/
  | purgeDone
  /-- DIGEST_CHECK: b + 120 µs (R400). -/
  | digestCheck
  /-- PROBE_INJECT: b + 100 µs during Check (R401). -/
  | probeInject
  /-- HEALTH_REPORT_SEND: a millisecond boundary (R413). -/
  | healthReportSend
  /-- CLAIM_SEND: 4 µs pass (R416). -/
  | claimSend
  /-- CLAIM_EVALUATE: 1 µs passes (R416). -/
  | claimEvaluate
  /-- CHIP_ALONE: no other chip heard for 1 s (R429). -/
  | chipAlone
  /-- CHIP_REJOINED: the conditions of R429 are reconsidered. -/
  | chipRejoined
  /-- KETTLE_BOUND_UPDATE: Kettle's bound of a second (R443). -/
  | kettleBoundUpdate
  /-- KTL_XO_FAIL: 1 ms without a crystal edge (R442). -/
  | ktlXoFail
  /-- CORE_EN_RELEASE: 10 ms after both halves entered safe state (R444). -/
  | coreEnRelease
  /-- EXTEST: EXTEST at Update-IR (R472). -/
  | extest
  /-- IDCODE: IDCODE at Update-IR (R471). -/
  | idcode
  /-- CLAMP: CLAMP at Update-IR (R472). -/
  | clamp
  /-- HIGHZ: HIGHZ at Update-IR (R472). -/
  | highz
  /-- EXTEST_PULSE: EXTEST_PULSE at Update-IR (R472). -/
  | extestPulse
  /-- EXTEST_TRAIN: EXTEST_TRAIN at Update-IR (R472). -/
  | extestTrain
  /-- BYPASS: BYPASS at Update-IR (R471). -/
  | bypass
  /-- TAP_RESET: TRST_N (R507). -/
  | tapReset
  /-- CHALLENGE_EXPIRE: 60 s after a challenge's issue (R478). -/
  | challengeExpire
  /-- CORE_EN_ASSERT: 10 ms after VAON is in range (R496). -/
  | coreEnAssert
  /-- POWER_ON_RESET: PORST_N driven low (R497). -/
  | powerOnReset
  /-- SERVING_ENTRY: a second boundary after RESTORE (R504). -/
  | servingEntry
  /-- PCIE_RESET: a PCIe reset (R507). -/
  | pcieReset
  /-- VAON_LOSS: VAON below 0.60 V (R441). -/
  | vaonLoss
  /-- VDDS_REMOVED: VDDS below 0.3 V (R463). -/
  | vddsRemoved
deriving DecidableEq, Repr

end Sys2Proof
end

