-- ==== Sys2Proof/Decode.lean ====
section
/-! DEFINITION. Commands spelt by words: the table of operations gives no row any bits, so no word spells a command. -/

namespace Sys2Proof

/-- The command that a word spells by the table's bits: none, for the table gives its rows no bits. -/
def decodeTableWord (_nbits _w : Nat) : Option Instr := none

end Sys2Proof
end

