-- ==== Sys2Proof/Config.lean ====
section
/-! DEFINITION. The constants the manual leaves open: free values, and the cryptographic primitives and the parts of
firmware whose arithmetic the manual names but does not lay out. None has a body, so a proof holds whatever they are. -/

namespace Sys2Proof

/-- The free value of width `w` that the `k`-th draw of a run gives: a result the manual does not state.
[DESIGN CHOICE log 9] -/
opaque Config.freeValue : (w : Nat) → Nat → BitVec w

/-- What a computed value of the discipline loops differs by from the exact quotient of the manual's formula, in the
units of the value: the manual gives no rounding. The arguments are the quantity (0 the proportional part, 1 the
integrator, 2 the coupling term) and the phase error. [DESIGN CHOICE log 14] -/
opaque Config.loopResidue : Nat → Int → Int

/-- What the recursive least squares of the holdover model hold after a sample (R165), from what they held, the parameters that the
page shows, FITCFG.TAU in hours, the sample's frequency in 10^-15 and its temperature in m°C.
[DESIGN CHOICE log 89] -/
opaque Config.fitStep : (held : Nat) → (params : List Nat) → (tau : Nat) → (y temp : Int) → Nat

/-- A parameter or error of the holdover model as the fit gives it (R165), by its number among Y0, DRIFT, KT, TREF, SIG_Y, SIG_D,
SIG_K and RESID, from what the fit holds and the parameters that the page shows. [DESIGN CHOICE log 89] -/
opaque Config.fitParam : (held : Nat) → (params : List Nat) → Nat → Nat

/-- How far the duty of a band's level control moves at an update, from the distance of LEVEL from its target and the exponent of
the time constant in ms (R226). [DESIGN CHOICE log 108] -/
opaque Config.agcStep : (distance tc : Nat) → Nat

/-- The samples that leave a Gauze notch, from its frequency in fs/2^24, its WIDTH and the samples that enter (R228): the manual gives
the notch's order, width and depth. [DESIGN CHOICE log 253] -/
opaque Config.notchOut : (freq : Int) → (width : Nat) → List (Int × Int) → List (Int × Int)

/-- The group delay of an engaged notch at a signal's carrier, in 2^-32 chip of the signal, from the carrier's distance from the notch
in fs/2^24, WIDTH, SRATE and the signal (R230). [DESIGN CHOICE log 253] -/
opaque Config.notchDelay : (distance : Int) → (width srate sig : Nat) → Int

/-- The bias of a code measurement that a fitted reflected path gives, from its excess delay and amplitude, in 2^-32 chip
(R239): the manual does not lay out the fit. [DESIGN CHOICE log 15] -/
opaque Config.multipathBias : Nat → Nat → Int

/-- The words of the image that the start loads: by half, the four words of FW_VERSION (R67).
[DESIGN CHOICE log 12] -/
opaque Config.imageWord : Nat → Nat → BitVec 32

/-- RX_FIX (0) or TX_FIX (1) of a port in a mode with a FEC, in ps: set in production (R276).
[DESIGN CHOICE log 13] -/
opaque Config.portDelay : (port dir mode fec : Nat) → Nat

/-- The bank of memory that holds a rate bucket (R31, R351): the manual gives neither the number of banks nor which buckets a
bank holds. [DESIGN CHOICE log 234] -/
opaque Config.bucketBank : Nat → Nat

/-- The bucket from which a request is served whose own lies in a removed bank, from the banks removed and its own (R31).
[DESIGN CHOICE log 234] -/
opaque Config.bucketMove : List Nat → Nat → Nat

/-- SHA-256. [DESIGN CHOICE log 10] -/
opaque Config.sha256 : List Byte → List Byte

/-- HMAC-SHA256 of a message under a key. [DESIGN CHOICE log 10] -/
opaque Config.hmac : (key msg : List Byte) → List Byte

/-- GMAC with AES-256, of a message under a key and a 96-bit IV. [DESIGN CHOICE log 10] -/
opaque Config.gmac : (key iv msg : List Byte) → List Byte

/-- AES-SIV-CMAC-256: the synthetic IV and ciphertext of a plaintext with associated data. [DESIGN CHOICE log 10] -/
opaque Config.sivSeal : (key : List Byte) → (ad : List (List Byte)) → (plain : List Byte) → List Byte

/-- AES-SIV-CMAC-256: the plaintext, or nothing where the check fails. [DESIGN CHOICE log 10] -/
opaque Config.sivOpen : (key : List Byte) → (ad : List (List Byte)) → (sealed_ : List Byte) → Option (List Byte)

/-- HKDF-SHA256, 32 bytes. [DESIGN CHOICE log 10] -/
opaque Config.hkdf : (salt input info : List Byte) → List Byte

/-- X25519. [DESIGN CHOICE log 10] -/
opaque Config.x25519 : (secret point : List Byte) → List Byte

/-- The Ed25519 public key of a seed. [DESIGN CHOICE log 10] -/
opaque Config.edPublic : List Byte → List Byte

/-- The Ed25519 signature of a message under a seed. [DESIGN CHOICE log 10] -/
opaque Config.edSign : (seed msg : List Byte) → List Byte

/-- Whether an Ed25519 signature of a message verifies under a public key. [DESIGN CHOICE log 10] -/
opaque Config.edVerify : (public_ msg sig : List Byte) → Bool

/-- SipHash-1-3 of a message under a 128-bit key, as a number of 64 bits. [DESIGN CHOICE log 10] -/
opaque Config.sipHash : (key : Nat) → List Byte → Nat

/-- The root secret that a chip's array and helper data give (R371). [DESIGN CHOICE log 11] -/
opaque Config.rootSecret : List Byte

/-- The X.509 certificate of the identity key (R397). [DESIGN CHOICE log 11] -/
opaque Config.idCert : List Byte

/-- The spare flash blocks that a part leaves production with (R449). [DESIGN CHOICE log 16] -/
opaque Config.spareBlocks : Nat

/-- Voxile's public key for signed responses (R477). [DESIGN CHOICE log 11] -/
opaque Config.vendorKey : List Byte

end Sys2Proof
end

