-- ==== Sys2Proof/Machine/Engines.lean ====
section
/-! DEFINITION. The state of the engines behind the register pages, one structure per kind of unit, as plain data.
What a register shows is held in the register file of Machine/State.lean; here is what the manual gives the block
beside its registers. -/

namespace Sys2Proof.Machine

/-- An event word (R38, R51). -/
structure EvtWord where
  pend  : Bool := false
  ovf   : Bool := false
  count : Nat := 0
  seq   : Nat := 0
deriving DecidableEq, Repr

/-- A programmable counter: 48 bits, with the OVF bit of its PSEL (R484), and whether the occupancy it watches stood at or
above ARG at the last tick (R485). -/
structure PCnt where
  n     : Nat := 0
  ovf   : Bool := false
  above : Bool := false
deriving DecidableEq, Repr

/-- The page shell of a page: STAT's READY, ISOLATED and PSTATE (R38), and the instant since which the block has
been idle, in device ticks (R434). -/
structure PageSt where
  ready     : Bool := false
  isolated  : Bool := false
  pstate    : Nat := 0
  idleSince : Nat := 0
deriving DecidableEq, Repr

/-- The completion that a master's last read received: data words, whether the data is valid, and whether the read
was completed as an Unsupported Request (R43). -/
structure Completion where
  data : List Word := []
  ok   : Bool := true
  ur   : Bool := false
deriving DecidableEq, Repr

/-- The event concentrator and PF0's MSI-X function (R53 to R56). -/
structure Evc where
  /-- device tick of each vector's last generated message, absent while none was generated since reset -/
  lastGen : List (Nat × Nat) := []
  /-- vectors whose message waits in the PBA -/
  pba     : List Nat := []
  /-- PF0's MSI-X enable -/
  msixEn  : Bool := false
  /-- vectors masked in the MSI-X table -/
  masked  : List Nat := []
  /-- messages that have left, newest first -/
  sent    : List Nat := []
deriving DecidableEq, Repr

/-- A command that firmware holds (R63), with its outcome once its commit instant has passed (R65). -/
structure FwCmd where
  id     : Nat
  opcode : Nat
  tag    : Nat
  len    : Nat
  req    : List Word
  done   : Option (Nat × List Word) := none
deriving DecidableEq, Repr

/-- A retained outcome of a mailbox (R64): of which command, its code and tag, and whether firmware has yet to finish it. -/
structure Retained where
  id   : Nat
  code : Nat
  tag  : Nat
  isOpen : Bool := false
deriving DecidableEq, Repr

/-- A firmware mailbox beyond its registers (R62 to R65). -/
structure Mbx where
  nextId   : Nat := 0
  /-- the command that RSP belongs to -/
  cur      : Nat := 0
  /-- device tick of the last GO -/
  goAt     : Nat := 0
  /-- time limit taken at the last GO, in ms -/
  limitMs  : Nat := 0
  fw       : List FwCmd := []
  /-- newest first, at most eight -/
  retained : List Retained := []
deriving DecidableEq, Repr

/-- A half as a whole: safe state (R460), its supply, reset held back (R462), its control cores, and how far its start
has come (R498). [DESIGN CHOICE log 224] -/
structure HalfSt where
  safe      : Bool := false
  /-- safe state was entered through a fault, not on command (R455) -/
  byFault   : Bool := false
  powered   : Bool := true
  heldReset : Bool := false
  coresUp   : Bool := false
  /-- RESTORE complete in this start -/
  restored  : Bool := false
  /-- the half starts on its own (R504) -/
  alone     : Bool := false
  /-- the safe line of the half has been pulled and the half has yet to enter safe state (R460): by a fault, or not -/
  safePend  : Option Bool := none
deriving DecidableEq, Repr

/-- A smear window that has opened (R81): it keeps its parameters, also once it is shut. Seconds of the count. -/
structure SmearWin where
  eff  : Nat
  ofs  : Int
  prev : Int
  ts   : Int
  len  : Nat
  shut : Bool := false
deriving DecidableEq, Repr

/-- A timebase beyond its registers: the count in 2^-64 ns (R69), FADJ in effect in 2^-48 (R74), the FADJ that the next
ticks take and whether they approach it at the loop's slew limit (R74, R160), the phase adjustment that remains in
2^-64 ps (R75), the count second at which a pending step was asked for (R76), the run of measurements of R84, and the
open smear window. -/
structure Tbase where
  count   : Nat := 0
  /-- measurements of DOM_OFS taken (R72) -/
  domNo   : Nat := 0
  /-- count of TB0 of its half at the last measurement of DOM_OFS (R199), and the offset from its own reference chain then, in ps -/
  domAt   : Nat := 0
  domOwn  : Int := 0
  fadj    : Int := 0
  fadjTgt : Int := 0
  slew    : Bool := false
  padjRem : Int := 0
  stepReq : Nat := 0
  /-- EFF_SEC of the leap last announced as applied, while the count stands at or past it (R80) -/
  applied : Option Nat := none
  dswRun  : Nat := 0
  win     : Option SmearWin := none
deriving DecidableEq, Repr

/-- A LEAP_FOLD that waits for its second boundary (R518): mailbox, command and the second of the request. -/
structure FoldReq where
  box : Nat
  id  : Nat
  sec : Nat
deriving DecidableEq, Repr

/-- Device-wide scheduling state: which half times the shared schedules (R19), the second at which a leap commit was
asked for (R78), a waiting fold (R518), and the comparisons of R71 that found a difference last time. -/
structure Sched where
  half    : Half := .warp
  /-- a takeover of the schedule waits for the Weft millisecond boundary after this Weft millisecond (R19) -/
  pendMs  : Option Nat := none
  leapReq : Nat := 0
  fold    : Option FoldReq := none
  diffs   : List Nat := []
deriving DecidableEq, Repr

/-- A fault collector beyond its registers (R456 to R462): SEQ of the next record; the seconds of Warp TB0 at which the
other half entered C2; the device tick at which the other half's reset falls due; the persisting conditions that stand,
as SRC words; and the recent PARITY faults of each unit, as SRC word and device tick. -/
structure FltSt where
  seq     : Nat := 0
  c2At    : List Nat := []
  resetAt : Option Nat := none
  /-- a reset of the other half has been asked for, and is held back or falls due -/
  asked   : Bool := false
  standing : List Nat := []
  parity  : List (Nat × Nat) := []
  /-- the tick of the last records offered with what of them the ring holds, in its order, and the tick at which the
  first-error latch was filled (R457) -/
  batchAt : Nat := 0
  batch   : List Nat := []
  latchAt : Option Nat := none
deriving DecidableEq, Repr

/-- An interval measurement that has started (R105): the count at its start and the stop point it took. -/
structure IvStart where
  count : Nat
  stop  : Nat
deriving DecidableEq, Repr

/-- A vernier unit of a capture point beyond its registers (R96 to R106): edge counter (held unwrapped; what shows it takes
it modulo 2^32), position on the selection grid,
dead time, trigger arming, the started interval, calibration raw counts and failures in a row, the SEQ of the next
stamp offered, the device tick at which a blanking ends, the count at the last qualifying edge, the last stamp in
2^-32 ns of its timebase and of TB0, with the edge count at it, the stamp in TB0 before it with its edge count, and a pin's comparator: the level that the input last went to, in
µV, and whether it stands above the threshold (R101). [DESIGN CHOICE log 224] -/
structure CapUnit where
  ecnt    : Nat := 0
  grid    : Nat := 0
  busy    : Bool := false
  armed   : Bool := false
  iv      : Option IvStart := none
  c1      : Nat := 0
  c2      : Nat := 2000
  fails   : Nat := 0
  seq     : Nat := 0
  blankTo : Nat := 0
  lastAt  : Option Nat := none
  stamp   : Option Nat := none
  stamp0  : Option Nat := none
  stampEc : Nat := 0
  prev0   : Option Nat := none
  prevEc  : Nat := 0
  level   : Int := 0
  high    : Bool := false
deriving DecidableEq, Repr

/-- A reference candidate beyond its registers (R129 to R134): the run of activity intervals with edges, the edge count
at the end of the last interval, the count of the schedule at which the hold-off timer started, the stamp and edge
count that open the frequency window, whether selected edges come faster than 1 kHz with the device tick of the last one, the
number of phase measurements
taken, the counts at which the activity interval and the frequency window in progress began, the edge of a frequency pin that a
marker awaits with the pin's stamp then (R126), the frequency monitor's verdict, the count of TB0 up to which slipped edges fail
the candidate (R170), whether a complete vote window has ended without the condition of R146 on it since that last held (R203),
the run of windows of R147, the phase at the start of the vote window for a candidate that has been usable
throughout it (R144), and, for a candidate measured from edges, the edges that its phase leaves out and whether its next
measurement follows a time in which edges may have been lost. [DESIGN CHOICE log 224] -/
structure Cand where
  run     : Nat := 0
  ecSeen  : Nat := 0
  holdAt  : Nat := 0
  fwin    : Option (Nat × Nat) := none
  fast    : Bool := false
  edgeAt  : Option Nat := none
  measNo  : Nat := 0
  amonAt  : Nat := 0
  fmonAt  : Nat := 0
  mark    : Option (Nat × Option (Nat × Nat)) := none
  freqBad : Bool := false
  failTo  : Option Nat := none
  clean   : Bool := false
  voteRun : Nat := 0
  votePh  : Option Int := none
  slip    : Int := 0
  gap     : Bool := true
deriving DecidableEq, Repr

/-- A selector beyond its registers (R140 to R143): the count of the schedule at which the phase began, the length of
the phase in ms, the phase measurements averaged so far, whether BUILD-OUT has ended and COMMIT is awaited, with the
number of the target's last measurement then, whether a HOLD awaits the next loop update (R137), and whether the selected
candidate has failed in the course of the transaction (R142). -/
structure SelSt where
  since  : Nat := 0
  decide : Nat := 0
  boSum  : Int := 0
  boN    : Nat := 0
  ready  : Bool := false
  endNo  : Nat := 0
  drop   : Bool := false
  failed : Bool := false
deriving DecidableEq, Repr

/-- What a loop follows (R152): a candidate, DOM_OFS, or the atomic oscillator corrected by the model. -/
inductive LoopIn where
  | cand (c : Nat)
  | dom
  | atom
deriving DecidableEq, Repr

/-- The anchor of HOLD_ATOMIC (R164, R169): its instant as a count, the atomic phase x_a in ps, and the temperature
integral at that instant. -/
structure Anchor where
  at_  : Nat
  xa   : Int
  tSum : Int
deriving DecidableEq, Repr

/-- A discipline loop beyond its registers (R152 to R175). -/
structure LoopSt where
  /-- consecutive updates within THR, and above 8 × THR (R156) -/
  dwell    : Nat := 0
  down     : Nat := 0
  /-- count of the timebase at the last update, with the input and the number of its measurement then used -/
  lastAt   : Option Nat := none
  lastIn   : Option LoopIn := none
  lastNo   : Nat := 0
  /-- the input for which LOOP_BW_CLAMP has been raised (R154) -/
  bwIn     : Option LoopIn := none
  /-- coupling term in 2^-48 (R162) -/
  cpl      : Int := 0
  /-- FADJ before the coupling term, in 2^-48: FEST − p of the last update, or the value held in FREERUN and HOLD_LAST -/
  held     : Int := 0
  /-- FEST values with the count at which each began, newest first, as far back as HBW.AVG (R169) -/
  est      : List (Nat × Int) := []
  /-- count of TB0 at entry to a holdover that has not ended (R173) -/
  holdAt   : Option Nat := none
  /-- largest |temp − t_ref| since that entry, in m°C (R171) -/
  dtMax    : Nat := 0
  anchor   : Option Anchor := none
  /-- LOCKED to a time input with no build-out offset since start (R174) -/
  synced   : Bool := false
  /-- count second of a realign that waits (R161) -/
  realign  : Option Nat := none
  /-- the initial step that waits, in ns (R503) -/
  initStep : Option Int := none
  /-- |e| of the last updates, newest first, at most 16 (R200), and whether the window restarts at the next one (R204) -/
  eWin     : List Nat := []
  eFresh   : Bool := false
  /-- mean temperature at the last COMMIT in m°C (R200) -/
  tCommit  : Int := 0
  /-- count of TB0 at the last update, and at an update that was skipped since (R200, R201) -/
  updAt    : Nat := 0
  lateAt   : Option Nat := none
  /-- device tick up to which the build-out offset has drained (R141) -/
  boAt     : Nat := 0
deriving DecidableEq, Repr

/-- A phase measurement of the atomic oscillator (R164): the count of TB0, the phase against TB0 and the offsets of the half's
timebases from TB0 in ps, and the temperature integral then. -/
structure PhSample where
  at_  : Nat
  ph   : Int
  ofs  : List Int
  tSum : Int
deriving DecidableEq, Repr

/-- The holdover model of a half beyond its registers (R164 to R168, R171). -/
structure HoldSt where
  /-- sum of temp − t_ref in m°C, one term a second -/
  tSum    : Int := 0
  /-- phase measurements of the atomic oscillator, newest first, as far back as HBW.AVG (R164) -/
  phs     : List PhSample := []
  /-- each selected sensor's last reading in 2^-8 degrees, if it has answered, and its consecutive misses -/
  sensors : Tab (Option Int × Nat) := []
  /-- stamp and edge count of the atomic oscillator at the last second -/
  last    : Option (Nat × Nat) := none
  /-- a counted sample awaits the fit -/
  fresh   : Bool := false
  /-- last sample's y in 10^-15 -/
  y       : Int := 0
  /-- span of the sampled temperature, in m°C -/
  tMin    : Option Int := none
  tMax    : Option Int := none
  /-- seconds of samples that agree with a restored y0, and that y0 in 2^-48 with its SIG_Y (R167) -/
  agedRun : Nat := 0
  aged    : Int × Nat := (0, 0)
  /-- what the least squares hold beside the parameters, and the end of the last learning sample in 2^-32 ns of TB0 (R164, R165) -/
  fit     : Nat := 0
  fitAt   : Option Nat := none
  /-- the deciding half's parameters await the next second boundary (R167) -/
  copyDue : Bool := false
  /-- a model reset waits for the exit from holdover (R166) -/
  resetPd : Bool := false
  /-- edge count of CP12 at the last ATOMPPS edge (R170) -/
  ppsEc   : Option Nat := none
deriving DecidableEq, Repr

/-- A synthesis loop beyond its registers (R179 to R185): the ratio in effect, its centre as a fraction, the device tick
of the last cause or band selection, the band that a hop has stored, whether the one repeated search is under way, and
the deviation reached by slewing, in 10^-9 of the centre. -/
structure AplSt where
  mint   : Nat := 0
  mnum   : Nat := 0
  mden   : Nat := 1
  cNum   : Nat := 0
  cDen   : Nat := 1
  t0     : Nat := 0
  stored : Option Nat := none
  second : Bool := false
  devNow : Int := 0
deriving DecidableEq, Repr

/-- An output stage beyond its registers (R186 to R189, R565): whether it is stopped, the divider in effect, the anchor of
its grid and the last pulse's edge in 2^-32 ns of its timebase, the end of its high phase, the correction or calibration
offset in ps, and the run of stamps within half the alarm limit. [DESIGN CHOICE log 224] -/
structure OutSt where
  stopped : Bool := false
  div     : Nat := 500
  anchor  : Nat := 0
  edge    : Option Nat := none
  highTo  : Nat := 0
  cal     : Int := 0
  calm    : Nat := 0
deriving DecidableEq, Repr

/-- A DAC port beyond its registers (R193, R194): the filtered target in 2^-32 of a code once the port has moved it,
the device tick of the last
frame, and the last frame's length and bits. -/
structure DacSt where
  acc   : Option Int := none
  at_   : Option Nat := none
  frame : Option (Nat × Nat) := none
deriving DecidableEq, Repr

/-- A timebase's bound beyond its registers (R199 to R205): the base and the count of TB0 at the last change of basis, the
seed bound with the count at which it held (R502). [DESIGN CHOICE log 224] -/
structure BoundSt where
  base  : Nat := 0xFFFFFFFF
  at_   : Nat := 0
  seed  : Option (Nat × Nat) := none
deriving DecidableEq, Repr

/-- A set of local bounds with the magnitudes of s_n, as the exchange carried them (R206). -/
structure BndSet where
  warp : List Nat
  weft : List Nat
  skew : List Nat
deriving DecidableEq, Repr

/-- The bound exchange (R206 to R208): the set last exchanged, or the failure of the last attempt, and the failures in a
row. -/
structure BndExch where
  set   : Option BndSet := none
  /-- both halves took part in the last exchange -/
  joint : Bool := false
  tried : Bool := false
  fails : Nat := 0
  /-- published bounds of the epoch before the current one, by half number times 16 plus timebase -/
  prev  : Tab Nat := []
deriving DecidableEq, Repr

/-- A band input beyond its registers (R226 to R229): each second's mean power with the duty then, newest first, the device
tick since which JN has stayed below its release level, those since which a peak has stayed uncovered and none has, and that since
which the conditions of the band's clock have held (R222). -/
structure BandSt where
  secs    : List ((Nat × Nat) × Nat) := []
  calmAt  : Option Nat := none
  uncovAt : Option Nat := none
  covAt   : Option Nat := none
  /-- the device tick since which each engaged notch's peak has stayed low, by notch -/
  lowAt   : Tab Nat := []
  goodAt  : Option Nat := none
deriving DecidableEq, Repr

/-- An acquisition job (R231, R246). -/
structure AcqJob where
  sig    : Nat
  sv     : Nat
  band   : Nat
  hand   : Bool
  ch     : Nat
  tag    : Nat
  cstart : Nat
  clen   : Nat
  dcen   : Int
  dspan  : Nat
  dstep  : Nat
  tc     : Nat
  nnc    : Nat
  thr    : Nat
  early  : Bool
deriving DecidableEq, Repr

/-- The host job in progress (R232, R234): the passes run, the millisecond at which the current pass or dwell began,
whether it is a dwell and of which peak, the best verified detection, whether it has been handed over, and the integration periods
of the pass or dwell that lost a sample (R224). -/
structure AcqRun where
  job    : AcqJob
  passes : Nat := 0
  start  : Nat
  dwell  : Option AcqPeak := none
  best   : Option AcqPeak := none
  handed : Bool := false
  lost   : List Nat := []
deriving DecidableEq, Repr

/-- A result of the acquisition bank (R234, R246). -/
structure AcqRes where
  tag     : Nat
  outcome : Nat
  passes  : Nat
  peak    : Option AcqPeak
deriving DecidableEq, Repr

/-- The acquisition bank: waiting host jobs and waiting results, oldest first, and the millisecond since which a host job has been
waiting or in progress (R234). -/
structure AcqSt where
  queue : List AcqJob := []
  run   : Option AcqRun := none
  res   : List AcqRes := []
  hostAt : Nat := 0
deriving DecidableEq, Repr

/-- The loops and correlators of a channel as they are in effect (R236, R238): the coherent integration in ms, whether the FLL runs,
the bandwidths of PLL and DLL in mHz, 0 for a loop that does not run, and the spacings of early and late, of very early and very
late, and of the multipath taps, in 1/64 chip. -/
structure ChanLoop where
  tint  : Nat := 0
  fll   : Bool := false
  pll   : Nat := 0
  dll   : Nat := 0
  el    : Nat := 6
  vel   : Nat := 32
  tstep : Nat := 6
deriving DecidableEq, Repr

/-- A tracking channel beyond its registers (R236 to R241): the device tick of its last change of state, flags gathered
since the last latch, the device tick of the last SLIP, the fitted reflected path, whether it is valid and the second of the fit,
what its NCOs held last and for which instant in ns of TB0, the carrier phase at its last entry to TRACK_PLL, its loops in effect,
and the elevation firmware knows. -/
structure ChanSt where
  at_   : Nat := 0
  slip  : Bool := false
  coast : Bool := false
  notch : Bool := false
  drop  : Bool := false
  slipAt : Nat := 0
  path  : Option (Nat × Nat) := none
  pathOk : Bool := false
  fitSec : Option Nat := none
  nco   : Option ChanMeas := none
  ncoAt : Nat := 0
  carr0 : Int := 0
  eff   : ChanLoop := {}
  elev  : Nat := 0
deriving DecidableEq, Repr

/-- The time solution beyond its registers (R253 to R262): the device tick of a survey's start, the sum and number of its
positions, its σ and whether MIN_SV held throughout; the position that applies in HOLD; seconds that the navigation solution has been far; solutions with
their C13 phase for the MODEL check, newest first; seconds of small C/N0 spread; the sum and number of each band's C/N0 in the last
seconds, newest first (R259); the SNAP check; the count of the last solution that was not NONE; whether TB0 was seeded from Kettle
with a finite bound (R261); the second of the last solution (R249); whether integrity has failed since it last passed (R260); and whether
the last solution met a week conflict (R262). -/
structure SolSt where
  survAt  : Nat := 0
  sum     : Pos := ⟨0, 0, 0⟩
  n       : Nat := 0
  sig     : Nat := 0
  svOk    : Bool := true
  pos     : Pos := ⟨0, 0, 0⟩
  far     : Nat := 0
  hist    : List (Int × Int) := []
  thin    : Nat := 0
  snapBad : Bool := false
  lastAt  : Option Nat := none
  finite  : Bool := false
  cn0     : List (List (Nat × Nat)) := []
  doneSec : Option Nat := none
  failed  : Bool := false
  conflict : Bool := false
deriving DecidableEq, Repr

/-- A snapshot capture (R263 to R265): the bands it takes, the bands stopped before its end, and whether a complete capture
is held. -/
structure SnapSt where
  bands   : Nat := 0
  stopped : Nat := 0
  complete : Bool := false
  box     : Option (Nat × Nat) := none
deriving DecidableEq, Repr

/-- The skew of a half as last measured, in 2^-33 ns with its own sign (R120), and the runs of its measurements: above 50 ps, within 40 ps, and with every loop aligned (R18, R163); and whether
HALF_SKEW is raised. -/
structure SkewSt where
  raw    : Int := 0
  up     : Nat := 0
  low    : Nat := 0
  al     : Nat := 0
  raised : Bool := false
deriving DecidableEq, Repr

/-- CHAEF_SIGN in a half (R213, R215, R216): records signed since start, those of the current second of Warp's TB0, and the
RATE that a second keeps in which ATTCFG changed. -/
structure ChaefSt where
  seq : Nat := 0
  sec : Nat := 0
  n   : Nat := 0
  old : Option (Nat × Nat) := none
deriving DecidableEq, Repr

/-- The Kettle island (R441 to R446): whether the chip runs (0), enters Kettle-only (1) or is there (2), with the device tick
of that; KTIME in 2^-32 s with the tick at which it held; the tick of the last transfer; whether a wake condition arose during
entry; CORE_EN. -/
structure KettleSt where
  phase  : Nat := 0
  since  : Nat := 0
  base   : Nat := 0
  at_    : Nat := 0
  xferAt : Option Nat := none
  wake   : Bool := false
  coreEn : Bool := true
deriving DecidableEq, Repr

/-- A half's core-rail control (R439, R440): readings in a row that exceed the target by 50, and that lie below 1,000 at VMAX;
commands in a row without a valid response; whether nothing more is sent; and the last command sent: the rail
addressed and the voltage in mV. -/
structure AvsSt where
  high : Nat := 0
  low  : Nat := 0
  miss : Nat := 0
  halt : Bool := false
  cmd  : Option (Nat × Nat) := none
deriving DecidableEq, Repr

/-- A half's scrubber (R447): the tick at which its pass began, and PERIOD as the pass took it, in hours. -/
structure ScrubSt where
  since  : Nat := 0
  period : Nat := 24
deriving DecidableEq, Repr

/-- A test in service (R464 to R470): its page, the tick at which it began, MODE, REPAIR and SAVE as GO took them. -/
structure BistRun where
  page   : Nat
  start  : Nat
  mode   : Nat
  repair : Bool
  save   : Bool
deriving DecidableEq, Repr

/-- The lifecycle controller (R475 to R478): the outstanding challenge with its PURPOSE and the tick of its issue, challenges
issued since start, the tick of the last password attempt evaluated, and whether a session is open. -/
structure LcsSt where
  chal    : Option (List Byte × Nat × Nat) := none
  cseq    : Nat := 0
  pwdAt   : Option Nat := none
  session : Bool := false
deriving DecidableEq, Repr

/-- The TAP (R471, R472): the instruction register, what the selected data register captured, and the boundary cells as
PRELOAD left them. -/
structure TapSt where
  ir    : Nat := 1
  dr    : Nat := 0x1825656B
  cells : Nat := 0
deriving DecidableEq, Repr

/-- The central reader of a half (R490 to R492): the number of the next gathering; the gathering in progress, as the bytes of
its record and the host address it goes to; and the last record written, with its address. -/
structure PrfSt where
  seq   : Nat := 0
  busy  : Option (Nat × List Byte) := none
  wrote : Option (Nat × List Byte) := none
  /-- the millisecond of the half's TB0 last gathered or skipped, plus one -/
  at_   : Nat := 0
deriving DecidableEq, Repr

/-- Telemetry of a half (R495): whether TEL_TEMP_HIGH has been raised and not every sensor has been below TLO since, and the
entries that a CLR waits for. -/
structure TelSt where
  high : Bool := false
  clr  : List Nat := []
deriving DecidableEq, Repr

/-- How far a start has come beyond START_STAT (R497 to R508): PORST_N is low; the tick of t0; the tick at which a warm reset
applies; the halves that the start has stopped; the patch slot that runs, with its version. [DESIGN CHOICE log 277] -/
structure StartSt where
  held  : Bool := true
  t0    : Nat := 0
  warm  : Option Nat := none
  dead  : List Half := []
  patch : Option (Nat × Nat) := none
  /-- the start was under tamper with TPOL.TIMING_ON clear: no service follows (R391) -/
  noTiming : Bool := false
deriving DecidableEq, Repr

/-- What the flash journal and the fuses keep without power (R473, R505). [DESIGN CHOICE log 5, 7] -/
structure NV where
  /-- a surveyed position with its uncertainty in mm (R253) -/
  pos   : Option (Pos × Nat) := none
  /-- the date floor as a GPS week (R261) -/
  floor : Nat := 0
  /-- records of persistent keys, by slot: header and sealed key (R385) -/
  keys  : Tab (List Byte × List Byte) := []
  /-- BOOTS (R505) -/
  boots : Nat := 0
  /-- the state of the latest fuse group that is wholly blown (R473), by its code -/
  lifecycle : Nat := 2
  /-- the part is a VXH8256-N (R5) -/
  variantN : Bool := false
  /-- the fused owner: the SHA-256 of the password and the public key, as bytes (R474) -/
  owner : Option (List Byte × List Byte) := none
  /-- the minimum patch version (R499) -/
  minPatch : Nat := 0
  /-- the active leap table as its commit wrote it: LEAP_BASE and the 32 words of the entries (R505) -/
  leap : Option (List Word) := none
  /-- the holdover model's words (R167) -/
  model : Option (List Word) := none
  /-- slots named by zeroisation intents that are not cleared (R510) -/
  intents : List Nat := []
  /-- saved repairs, by page: memory instance and row (R468) -/
  repairs : Tab (List (Nat × Nat)) := []
  /-- erases of each flash block, and the blocks retired (R449) -/
  erases : Tab Nat := []
  retired : List Nat := []
  /-- a block has been retired with no spare left: the flash has failed and journal writes fail (R16, R449) -/
  flashFailed : Bool := false
deriving DecidableEq, Repr

end Sys2Proof.Machine
end

