-- ==== Sys2Proof/Machine/RegMap.lean ====
section
/-! DEFINITION. The register map: pages and addresses (R35, R521), the fields of every register the manual lays
out, and for each page the bits a plain write sets and the reset values. The field constants and the row tables
are the manual's own tables (the rule of each is given before it); `Reg.P.R_F` is field F of register R of page P,
its offset taken from the page or from the base of the block the register belongs to. -/

namespace Sys2Proof

/-- A field of a register: byte offset from its block's base, lowest bit, width. -/
structure Fld where
  off : Nat
  lo  : Nat
  len : Nat
deriving DecidableEq, Repr

/-- A register, or an array of registers of up to two dimensions: offset in the page, counts and strides, the bits
that a write sets, and the reset value. -/
structure RegRow where
  off   : Nat
  c1    : Nat
  s1    : Nat
  c2    : Nat
  s2    : Nat
  wmask : Nat
  reset : Nat
deriving DecidableEq, Repr

/-- Whether a page offset belongs to a row. -/
def RegRow.has (r : RegRow) (o : Nat) : Bool :=
  r.off ≤ o &&
    ((List.range r.c2).any fun j =>
      let x := r.off + j * r.s2
      if x ≤ o then
        (if r.s1 = 0 then o == x else (o - x) % r.s1 == 0 && (o - x) / r.s1 < r.c1)
      else false)

-- R2 (00_scope.md)
def Reg.SYS.DEVID_PART : Fld := ⟨0x100, 16, 16⟩
def Reg.SYS.DEVID_VARIANT : Fld := ⟨0x100, 12, 4⟩
def Reg.SYS.DEVID_STEPPING : Fld := ⟨0x100, 0, 8⟩
-- R54 (02_register_pages.md)
def Reg.EVC.VMOD : Fld := ⟨0x200, 0, 16⟩
def Reg.EVC.VPEND : Fld := ⟨0x280, 0, 32⟩
def Reg.EVC.VACK : Fld := ⟨0x284, 0, 32⟩
def Reg.EVC.SRCPEND : Fld := ⟨0x290, 0, 32⟩
-- R58 (02_register_pages.md)
def Reg.SYS.ACCERR_ADDR : Fld := ⟨0x104, 0, 24⟩
def Reg.SYS.ACCERR_INFO_MASTER : Fld := ⟨0x108, 0, 3⟩
def Reg.SYS.ACCERR_INFO_KIND : Fld := ⟨0x108, 4, 4⟩
def Reg.SYS.ACCERR_INFO_WRITE : Fld := ⟨0x108, 8, 1⟩
def Reg.SYS.ACCERR_INFO_CLEAR : Fld := ⟨0x108, 30, 1⟩
def Reg.SYS.ACCERR_INFO_VALID : Fld := ⟨0x108, 31, 1⟩
def Reg.SYS.UPERM_TB_MASK : Fld := ⟨0x10C, 0, 16⟩
def Reg.SYS.UPERM_CNT : Fld := ⟨0x10C, 16, 1⟩
def Reg.SYS.UPERM_TEL : Fld := ⟨0x10C, 17, 1⟩
-- R62 (02_register_pages.md)
def Reg.MBX.CMD_OPCODE : Fld := ⟨0x100, 0, 16⟩
def Reg.MBX.CMD_TAG : Fld := ⟨0x100, 16, 8⟩
def Reg.MBX.CMD_LEN : Fld := ⟨0x100, 24, 8⟩
def Reg.MBX.DOORBELL : Fld := ⟨0x104, 0, 1⟩
def Reg.MBX.RSP_STATE : Fld := ⟨0x108, 0, 2⟩
def Reg.MBX.RSP_CODE : Fld := ⟨0x108, 8, 8⟩
def Reg.MBX.RSP_TAG : Fld := ⟨0x108, 16, 8⟩
def Reg.MBX.RSP_RLEN : Fld := ⟨0x108, 24, 8⟩
def Reg.MBX.TIMEOUT : Fld := ⟨0x10C, 0, 16⟩
def Reg.MBX.REQ : Fld := ⟨0x200, 0, 32⟩
def Reg.MBX.RSPD : Fld := ⟨0x300, 0, 32⟩
-- R72 (03_timebases.md)
def Reg.TSU.CTRL_SCALE : Fld := ⟨0x0, 0, 2⟩
def Reg.TSU.CTRL_ALT : Fld := ⟨0x0, 4, 4⟩
def Reg.TSU.CTRL_DOM_SEL : Fld := ⟨0x0, 8, 1⟩
def Reg.TSU.CTRL_STEP : Fld := ⟨0x0, 9, 1⟩
def Reg.TSU.CTRL_PADJ_ABORT : Fld := ⟨0x0, 10, 1⟩
def Reg.TSU.STAT_LEAP_PEND : Fld := ⟨0x4, 0, 1⟩
def Reg.TSU.STAT_IN_LEAP : Fld := ⟨0x4, 1, 1⟩
def Reg.TSU.STAT_IN_SMEAR : Fld := ⟨0x4, 2, 1⟩
def Reg.TSU.STAT_DSW_ACTIVE : Fld := ⟨0x4, 3, 1⟩
def Reg.TSU.STAT_PADJ_BUSY : Fld := ⟨0x4, 4, 1⟩
def Reg.TSU.STAT_STEP_PEND : Fld := ⟨0x4, 5, 1⟩
def Reg.TSU.COUNT_FRAC : Fld := ⟨0x8, 0, 32⟩
def Reg.TSU.COUNT_NSEC : Fld := ⟨0xC, 0, 30⟩
def Reg.TSU.COUNT_SEC_LO : Fld := ⟨0x10, 0, 32⟩
def Reg.TSU.COUNT_SEC_HI : Fld := ⟨0x14, 0, 16⟩
def Reg.TSU.SCL_FRAC : Fld := ⟨0x18, 0, 32⟩
def Reg.TSU.SCL_NSEC : Fld := ⟨0x1C, 0, 30⟩
def Reg.TSU.SCL_SEC_LO : Fld := ⟨0x20, 0, 32⟩
def Reg.TSU.SCL_SEC_HI : Fld := ⟨0x24, 0, 16⟩
def Reg.TSU.SCL_INFO_LI : Fld := ⟨0x28, 0, 2⟩
def Reg.TSU.SCL_INFO_IN_LEAP : Fld := ⟨0x28, 2, 1⟩
def Reg.TSU.SCL_INFO_IN_SMEAR : Fld := ⟨0x28, 3, 1⟩
def Reg.TSU.SCL_INFO_UTC_OFS : Fld := ⟨0x28, 16, 16⟩
def Reg.TSU.BOUND : Fld := ⟨0x2C, 0, 32⟩
def Reg.TSU.FADJ_LO : Fld := ⟨0x30, 0, 32⟩
def Reg.TSU.FADJ_HI : Fld := ⟨0x34, 0, 16⟩
def Reg.TSU.PADJ_LO : Fld := ⟨0x38, 0, 32⟩
def Reg.TSU.PADJ_HI : Fld := ⟨0x3C, 0, 16⟩
def Reg.TSU.PSLEW : Fld := ⟨0x40, 0, 16⟩
def Reg.TSU.PADJ_REM_LO : Fld := ⟨0x44, 0, 32⟩
def Reg.TSU.PADJ_REM_HI : Fld := ⟨0x48, 0, 16⟩
def Reg.TSU.DOM_OFS_LO : Fld := ⟨0x4C, 0, 32⟩
def Reg.TSU.DOM_OFS_HI : Fld := ⟨0x50, 0, 16⟩
def Reg.TSU.SET_NSEC : Fld := ⟨0x54, 0, 30⟩
def Reg.TSU.SET_SEC_LO : Fld := ⟨0x58, 0, 32⟩
def Reg.TSU.SET_SEC_HI : Fld := ⟨0x5C, 0, 16⟩
def Reg.TSU.SMEAR_MIN : Fld := ⟨0x60, 0, 12⟩
def Reg.TSU.SMEAR_POS : Fld := ⟨0x60, 12, 2⟩
-- R78 (03_timebases.md)
def Reg.TSU.LEAP_CTRL_COMMIT : Fld := ⟨0x300, 0, 1⟩
def Reg.TSU.LEAP_CTRL_GNSS_AUTO : Fld := ⟨0x300, 1, 1⟩
def Reg.TSU.LEAP_BASE : Fld := ⟨0x304, 0, 16⟩
def Reg.TSU.LEAP_STAT_GEN : Fld := ⟨0x308, 0, 8⟩
def Reg.TSU.LEAP_STAT_COMMIT_PEND : Fld := ⟨0x308, 8, 1⟩
def Reg.TSU.LEAP_STAT_REFUSE : Fld := ⟨0x308, 12, 4⟩
def Reg.TSU.LEAP_EFF_LO : Fld := ⟨0x310, 0, 32⟩
def Reg.TSU.LEAP_EFF_HI : Fld := ⟨0x314, 0, 16⟩
def Reg.TSU.LEAP_OFS_OFS : Fld := ⟨0x318, 0, 16⟩
def Reg.TSU.LEAP_OFS_VALID : Fld := ⟨0x318, 31, 1⟩
-- R86 (03_timebases.md)
def Reg.TTA.ACT_ARM : Fld := ⟨0x0, 0, 1⟩
def Reg.TTA.ACT_LATE_POL : Fld := ⟨0x0, 1, 1⟩
def Reg.TTA.ACT_KIND : Fld := ⟨0x0, 4, 4⟩
def Reg.TTA.ACT_TB : Fld := ⟨0x0, 8, 4⟩
def Reg.TTA.ACT_TARGET : Fld := ⟨0x0, 16, 8⟩
def Reg.TTA.T_NSEC : Fld := ⟨0x4, 0, 30⟩
def Reg.TTA.T_SEC_LO : Fld := ⟨0x8, 0, 32⟩
def Reg.TTA.T_SEC_HI : Fld := ⟨0xC, 0, 16⟩
def Reg.TTA.PER_NSEC : Fld := ⟨0x10, 0, 30⟩
def Reg.TTA.PER_SEC : Fld := ⟨0x14, 0, 32⟩
def Reg.TTA.ARG : Fld := ⟨0x18, 0, 32⟩
def Reg.TTA.ESTAT_FIRED : Fld := ⟨0x1C, 0, 16⟩
def Reg.TTA.ESTAT_LATE : Fld := ⟨0x1C, 16, 1⟩
-- R113 (04_edge_capture.md)
def Reg.TDC.CFG_MODE : Fld := ⟨0x0, 0, 2⟩
def Reg.TDC.CFG_SLOPE : Fld := ⟨0x0, 2, 2⟩
def Reg.TDC.CFG_TB : Fld := ⟨0x0, 4, 4⟩
def Reg.TDC.CFG_TRIG : Fld := ⟨0x0, 8, 4⟩
def Reg.TDC.CFG_QEN : Fld := ⟨0x0, 12, 1⟩
def Reg.TDC.CFG_DIFF : Fld := ⟨0x0, 13, 1⟩
def Reg.TDC.CFG_HYST : Fld := ⟨0x0, 14, 2⟩
def Reg.TDC.CFG_STOP_CP : Fld := ⟨0x0, 16, 7⟩
def Reg.TDC.CFG_QTHR : Fld := ⟨0x0, 23, 6⟩
def Reg.TDC.CFG_OWNED : Fld := ⟨0x0, 31, 1⟩
def Reg.TDC.THR : Fld := ⟨0x4, 0, 10⟩
def Reg.TDC.DIV : Fld := ⟨0x8, 0, 24⟩
def Reg.TDC.QPTR_QWR : Fld := ⟨0xC, 0, 16⟩
def Reg.TDC.QPTR_QRD : Fld := ⟨0xC, 16, 16⟩
def Reg.TDC.LOSS_LOST : Fld := ⟨0x10, 0, 16⟩
def Reg.TDC.LOSS_FIRST_LOST_SEQ : Fld := ⟨0x10, 16, 16⟩
def Reg.TDC.MISSED_MISSED : Fld := ⟨0x14, 0, 16⟩
def Reg.TDC.MISSED_FL_VALID : Fld := ⟨0x14, 16, 1⟩
def Reg.TDC.MISSED_CLR : Fld := ⟨0x14, 31, 1⟩
def Reg.TDC.PSTAT_CAL_OK : Fld := ⟨0x18, 0, 1⟩
def Reg.TDC.PSTAT_ACT : Fld := ⟨0x18, 1, 1⟩
def Reg.TDC.PSTAT_OOS : Fld := ⟨0x18, 2, 1⟩
def Reg.TDC.PSTAT_ERR_LOSS : Fld := ⟨0x18, 8, 1⟩
def Reg.TDC.PSTAT_ERR_MISS : Fld := ⟨0x18, 9, 1⟩
def Reg.TDC.PSTAT_ERR_QPTR : Fld := ⟨0x18, 10, 1⟩
def Reg.TDC.PSTAT_ERR_CAL : Fld := ⟨0x18, 11, 1⟩
def Reg.TDC.PSTAT_ERR_MISMATCH : Fld := ⟨0x18, 12, 1⟩
def Reg.TDC.LAST_CAL : Fld := ⟨0x1C, 0, 16⟩
def Reg.TDC.QSEL : Fld := ⟨0x300, 0, 4⟩
-- R149 (05_references.md)
def Reg.REF.CTRL_EN : Fld := ⟨0x0, 0, 1⟩
def Reg.REF.CTRL_PIN_MODE : Fld := ⟨0x0, 1, 2⟩
def Reg.REF.CTRL_QR_FIX : Fld := ⟨0x0, 3, 1⟩
def Reg.REF.CTRL_FIX_QR : Fld := ⟨0x0, 4, 4⟩
def Reg.REF.CTRL_PRIO : Fld := ⟨0x0, 8, 4⟩
def Reg.REF.CTRL_AMON_EN : Fld := ⟨0x0, 12, 1⟩
def Reg.REF.CTRL_FMON_EN : Fld := ⟨0x0, 13, 1⟩
def Reg.REF.NOMFREQ : Fld := ⟨0x4, 0, 32⟩
def Reg.REF.DELAY : Fld := ⟨0x8, 0, 32⟩
def Reg.REF.BUDGET : Fld := ⟨0xC, 0, 32⟩
def Reg.REF.ASYM : Fld := ⟨0x10, 0, 32⟩
def Reg.REF.FMON_ACC : Fld := ⟨0x14, 0, 16⟩
def Reg.REF.FMON_REJ : Fld := ⟨0x14, 16, 16⟩
def Reg.REF.AMON_REJ : Fld := ⟨0x18, 0, 8⟩
def Reg.REF.AMON_ACC : Fld := ⟨0x18, 8, 8⟩
def Reg.REF.AMON_DECAY : Fld := ⟨0x18, 16, 8⟩
def Reg.REF.QUAL : Fld := ⟨0x1C, 0, 16⟩
def Reg.REF.CSTAT_STATE : Fld := ⟨0x20, 0, 3⟩
def Reg.REF.CSTAT_FAULT : Fld := ⟨0x20, 8, 8⟩
def Reg.REF.CSTAT_RX_QR : Fld := ⟨0x20, 16, 4⟩
def Reg.REF.CSTAT_RANK : Fld := ⟨0x20, 20, 8⟩
def Reg.REF.FOFS : Fld := ⟨0x24, 0, 32⟩
def Reg.REF.PHASE_LO : Fld := ⟨0x28, 0, 32⟩
def Reg.REF.PHASE_HI : Fld := ⟨0x2C, 0, 16⟩
def Reg.REF.NBUDGET : Fld := ⟨0x30, 0, 32⟩
def Reg.REF.MONLVL : Fld := ⟨0x34, 0, 8⟩
-- R150 (05_references.md)
def Reg.SEL.SCTRL_MODE : Fld := ⟨0x0, 0, 2⟩
def Reg.SEL.SCTRL_REVERT : Fld := ⟨0x0, 2, 1⟩
def Reg.SEL.SCTRL_QL_EN : Fld := ⟨0x0, 3, 1⟩
def Reg.SEL.SCTRL_FORCE_C : Fld := ⟨0x0, 8, 5⟩
def Reg.SEL.MASK : Fld := ⟨0x4, 0, 30⟩
def Reg.SEL.TIMERS_WTR : Fld := ⟨0x8, 0, 16⟩
def Reg.SEL.TIMERS_DECIDE : Fld := ⟨0x8, 16, 10⟩
def Reg.SEL.BUILD : Fld := ⟨0xC, 0, 16⟩
def Reg.SEL.SSTAT_SEL_C : Fld := ⟨0x10, 0, 5⟩
def Reg.SEL.SSTAT_XPH : Fld := ⟨0x10, 5, 2⟩
def Reg.SEL.SSTAT_TGT_C : Fld := ⟨0x10, 8, 5⟩
def Reg.SEL.SSTAT_NOREF : Fld := ⟨0x10, 13, 1⟩
def Reg.SEL.SSTAT_FORCED : Fld := ⟨0x10, 14, 1⟩
def Reg.SEL.SWCNT_COMMITS : Fld := ⟨0x14, 0, 16⟩
def Reg.SEL.SWCNT_ABORTS : Fld := ⟨0x14, 16, 16⟩
def Reg.SEL.BO_LO : Fld := ⟨0x18, 0, 32⟩
def Reg.SEL.BO_HI : Fld := ⟨0x1C, 0, 16⟩
def Reg.SEL.WTR_STAT_REM : Fld := ⟨0x20, 0, 16⟩
def Reg.SEL.WTR_STAT_WTR_C : Fld := ⟨0x20, 16, 5⟩
def Reg.SEL.VOTE_DISAGREE : Fld := ⟨0x500, 0, 16⟩
def Reg.SEL.VOTE_VOTE_WIN : Fld := ⟨0x500, 16, 16⟩
def Reg.SEL.SUSPECT : Fld := ⟨0x504, 0, 30⟩
def Reg.SEL.DIS_PAIR_A : Fld := ⟨0x508, 0, 5⟩
def Reg.SEL.DIS_PAIR_B : Fld := ⟨0x508, 8, 5⟩
def Reg.SEL.DIS_PAIR_ACTIVE : Fld := ⟨0x508, 15, 1⟩
def Reg.SEL.DIS_RATE : Fld := ⟨0x50C, 0, 32⟩
def Reg.SEL.PINCFG_SRC : Fld := ⟨0x510, 0, 5⟩
def Reg.SEL.PINCFG_KIND : Fld := ⟨0x510, 5, 1⟩
def Reg.SEL.PINCFG_COND : Fld := ⟨0x510, 8, 2⟩
def Reg.SEL.PINCFG_POL : Fld := ⟨0x510, 12, 1⟩
def Reg.SEL.PINCFG_EN : Fld := ⟨0x510, 13, 1⟩
-- R176 (06_discipline_holdover.md)
def Reg.DPL.CTRL_EN : Fld := ⟨0x0, 0, 1⟩
def Reg.DPL.CTRL_CPL_EN : Fld := ⟨0x0, 1, 1⟩
def Reg.DPL.CTRL_REALIGN : Fld := ⟨0x0, 2, 1⟩
def Reg.DPL.CTRL_REENTRY : Fld := ⟨0x0, 4, 2⟩
def Reg.DPL.BW : Fld := ⟨0x4, 0, 5⟩
def Reg.DPL.ACQ_THR : Fld := ⟨0x14, 0, 24⟩
def Reg.DPL.ACQ_DWELL : Fld := ⟨0x14, 24, 8⟩
def Reg.DPL.SLEW : Fld := ⟨0x18, 0, 10⟩
def Reg.DPL.FLIM : Fld := ⟨0x1C, 0, 9⟩
def Reg.DPL.LSTAT_STATE : Fld := ⟨0x20, 0, 3⟩
def Reg.DPL.LSTAT_STAGE : Fld := ⟨0x20, 4, 2⟩
def Reg.DPL.LSTAT_SLEWING : Fld := ⟨0x20, 6, 1⟩
def Reg.DPL.LSTAT_AT_FLIM : Fld := ⟨0x20, 7, 1⟩
def Reg.DPL.LSTAT_EFF_CODE : Fld := ⟨0x20, 8, 5⟩
def Reg.DPL.LSTAT_HMODE : Fld := ⟨0x20, 13, 3⟩
def Reg.DPL.LSTAT_INPUT : Fld := ⟨0x20, 16, 5⟩
def Reg.DPL.LSTAT_FREQ_ONLY : Fld := ⟨0x20, 21, 1⟩
def Reg.DPL.LSTAT_EXPIRED : Fld := ⟨0x20, 22, 1⟩
def Reg.DPL.PERR_LO : Fld := ⟨0x24, 0, 32⟩
def Reg.DPL.PERR_HI : Fld := ⟨0x28, 0, 16⟩
def Reg.DPL.FEST_LO : Fld := ⟨0x2C, 0, 32⟩
def Reg.DPL.FEST_HI : Fld := ⟨0x30, 0, 16⟩
def Reg.DPL.UPDCNT : Fld := ⟨0x34, 0, 32⟩
def Reg.DPL.HTIME : Fld := ⟨0x38, 0, 32⟩
def Reg.DPL.CPL : Fld := ⟨0x300, 0, 5⟩
def Reg.DPL.SKEW_LO : Fld := ⟨0x304, 0, 32⟩
def Reg.DPL.SKEW_HI : Fld := ⟨0x308, 0, 16⟩
def Reg.DPL.SKSTAT_VALID : Fld := ⟨0x30C, 0, 1⟩
def Reg.DPL.SKSTAT_ALIGNED : Fld := ⟨0x30C, 1, 1⟩
-- R177 (06_discipline_holdover.md)
def Reg.HLD.HCTRL_EN : Fld := ⟨0x100, 0, 1⟩
def Reg.HLD.HCTRL_LEARN : Fld := ⟨0x100, 1, 1⟩
def Reg.HLD.HCTRL_MODEL_RESET : Fld := ⟨0x100, 2, 1⟩
def Reg.HLD.HCTRL_TSEL : Fld := ⟨0x100, 4, 4⟩
def Reg.HLD.HCTRL_EXP_STRATUM : Fld := ⟨0x100, 8, 4⟩
def Reg.HLD.LIMIT : Fld := ⟨0x104, 0, 32⟩
def Reg.HLD.BLIMIT : Fld := ⟨0x108, 0, 32⟩
def Reg.HLD.HBW_CODE : Fld := ⟨0x10C, 0, 5⟩
def Reg.HLD.HBW_AVG : Fld := ⟨0x10C, 8, 16⟩
def Reg.HLD.FITCFG_TAU : Fld := ⟨0x110, 0, 16⟩
def Reg.HLD.FITCFG_LEARN_MIN : Fld := ⟨0x110, 16, 16⟩
def Reg.HLD.ADEV : Fld := ⟨0x114, 0, 16⟩
def Reg.HLD.HSTAT_HSTATE : Fld := ⟨0x118, 0, 3⟩
def Reg.HLD.HSTAT_MODEL : Fld := ⟨0x118, 4, 2⟩
def Reg.HLD.HSTAT_EXPIRED : Fld := ⟨0x118, 6, 1⟩
def Reg.HLD.HSTAT_AGED : Fld := ⟨0x118, 7, 1⟩
def Reg.HLD.HSTAT_CLASS : Fld := ⟨0x118, 8, 8⟩
def Reg.HLD.HSTAT_STRATUM : Fld := ⟨0x118, 16, 4⟩
def Reg.HLD.TIMER : Fld := ⟨0x11C, 0, 32⟩
def Reg.HLD.Y0_LO : Fld := ⟨0x120, 0, 32⟩
def Reg.HLD.Y0_HI : Fld := ⟨0x124, 0, 16⟩
def Reg.HLD.DRIFT : Fld := ⟨0x128, 0, 32⟩
def Reg.HLD.KT : Fld := ⟨0x12C, 0, 32⟩
def Reg.HLD.TREF : Fld := ⟨0x130, 0, 32⟩
def Reg.HLD.SIG_Y : Fld := ⟨0x134, 0, 32⟩
def Reg.HLD.SIG_D : Fld := ⟨0x138, 0, 32⟩
def Reg.HLD.SIG_K : Fld := ⟨0x13C, 0, 32⟩
def Reg.HLD.LEARN_S : Fld := ⟨0x140, 0, 32⟩
def Reg.HLD.RESID : Fld := ⟨0x144, 0, 32⟩
def Reg.HLD.OUTLIERS : Fld := ⟨0x148, 0, 32⟩
def Reg.HLD.TEMP : Fld := ⟨0x14C, 0, 32⟩
def Reg.HLD.HUNC : Fld := ⟨0x150, 0, 32⟩
-- R192 (07_synthesis_outputs.md)
def Reg.APL.LCTRL_FOLLOW : Fld := ⟨0x0, 0, 4⟩
def Reg.APL.LCTRL_RELOCK : Fld := ⟨0x0, 4, 1⟩
def Reg.APL.LCTRL_HOP : Fld := ⟨0x0, 5, 1⟩
def Reg.APL.LCTRL_HOP_IDX : Fld := ⟨0x0, 8, 4⟩
def Reg.APL.M_NUM : Fld := ⟨0x4, 0, 32⟩
def Reg.APL.M_DEN : Fld := ⟨0x8, 0, 32⟩
def Reg.APL.M_INT_MINT : Fld := ⟨0xC, 0, 12⟩
def Reg.APL.M_INT_FIXN : Fld := ⟨0xC, 16, 5⟩
def Reg.APL.LSTAT_STATE : Fld := ⟨0x10, 0, 3⟩
def Reg.APL.LSTAT_BAND : Fld := ⟨0x10, 8, 6⟩
def Reg.APL.LSTAT_SLEWING : Fld := ⟨0x10, 14, 1⟩
def Reg.APL.LSTAT_AT_RANGE : Fld := ⟨0x10, 15, 1⟩
def Reg.APL.LSTAT_FIXED : Fld := ⟨0x10, 16, 1⟩
def Reg.APL.DEV : Fld := ⟨0x14, 0, 32⟩
def Reg.APL.LOCKCNT_LOCKS : Fld := ⟨0x18, 0, 16⟩
def Reg.APL.LOCKCNT_UNLOCKS : Fld := ⟨0x18, 16, 16⟩
def Reg.APL.HOP_CFG_MINT : Fld := ⟨0x40, 0, 12⟩
def Reg.APL.HOP_CFG_BAND : Fld := ⟨0x40, 16, 6⟩
def Reg.APL.HOP_CFG_BAND_VALID : Fld := ⟨0x40, 30, 1⟩
def Reg.APL.HOP_CFG_VALID : Fld := ⟨0x40, 31, 1⟩
def Reg.APL.HOP_NUM : Fld := ⟨0x44, 0, 32⟩
def Reg.APL.HOP_DEN : Fld := ⟨0x48, 0, 32⟩
-- R195 (07_synthesis_outputs.md)
def Reg.APL.DCTRL_EN : Fld := ⟨0x500, 0, 1⟩
def Reg.APL.DCTRL_SHARED : Fld := ⟨0x500, 1, 1⟩
def Reg.APL.DCTRL_FOLLOW : Fld := ⟨0x500, 4, 4⟩
def Reg.APL.DCTRL_BW : Fld := ⟨0x500, 8, 5⟩
def Reg.APL.DCTRL_WIDTH : Fld := ⟨0x500, 16, 5⟩
def Reg.APL.DCTRL_PREFIX_LEN : Fld := ⟨0x500, 24, 4⟩
def Reg.APL.DCTRL_SCKDIV : Fld := ⟨0x500, 28, 4⟩
def Reg.APL.DFRAME_PREFIX : Fld := ⟨0x504, 0, 8⟩
def Reg.APL.DFRAME_STEPMAX : Fld := ⟨0x504, 8, 16⟩
def Reg.APL.KDAC : Fld := ⟨0x508, 0, 32⟩
def Reg.APL.CMIN : Fld := ⟨0x50C, 0, 24⟩
def Reg.APL.CMAX : Fld := ⟨0x510, 0, 24⟩
def Reg.APL.CODE : Fld := ⟨0x514, 0, 24⟩
def Reg.APL.DSTAT_FROZEN : Fld := ⟨0x518, 0, 1⟩
def Reg.APL.DSTAT_AT_LIMIT : Fld := ⟨0x518, 1, 1⟩
-- R196 (07_synthesis_outputs.md)
def Reg.OUT.CFG_EN : Fld := ⟨0x0, 0, 1⟩
def Reg.OUT.CFG_FORMAT : Fld := ⟨0x0, 1, 1⟩
def Reg.OUT.CFG_SRC : Fld := ⟨0x0, 2, 1⟩
def Reg.OUT.CFG_DRIVE : Fld := ⟨0x0, 4, 2⟩
def Reg.OUT.CFG_SAFE_HIZ : Fld := ⟨0x0, 6, 1⟩
def Reg.OUT.CFG_GATE_EXP : Fld := ⟨0x0, 7, 1⟩
def Reg.OUT.CFG_STD : Fld := ⟨0x0, 8, 2⟩
def Reg.OUT.CFG_SWING : Fld := ⟨0x0, 10, 4⟩
def Reg.OUT.CFG_MON_EN : Fld := ⟨0x0, 14, 1⟩
def Reg.OUT.CFG_INV : Fld := ⟨0x0, 15, 1⟩
def Reg.OUT.CFG_TB : Fld := ⟨0x0, 16, 4⟩
def Reg.OUT.DIV_LO : Fld := ⟨0x4, 0, 32⟩
def Reg.OUT.DIV_HI : Fld := ⟨0x8, 0, 2⟩
def Reg.OUT.PTRIM : Fld := ⟨0xC, 0, 16⟩
def Reg.OUT.MONTHR : Fld := ⟨0x10, 0, 16⟩
def Reg.OUT.OSTAT_RUNNING : Fld := ⟨0x14, 0, 1⟩
def Reg.OUT.OSTAT_GCAUSE : Fld := ⟨0x14, 1, 4⟩
def Reg.OUT.OSTAT_DRIVE_EFF : Fld := ⟨0x14, 6, 2⟩
def Reg.OUT.OSTAT_PERR_ALARM : Fld := ⟨0x14, 8, 1⟩
def Reg.OUT.PERR : Fld := ⟨0x18, 0, 32⟩
-- R216 (08_bound_engine.md)
def Reg.BND.BCFG_TCO : Fld := ⟨0x0, 0, 16⟩
def Reg.BND.BCFG_GUP : Fld := ⟨0x0, 16, 16⟩
def Reg.BND.LO_Y : Fld := ⟨0x4, 0, 32⟩
def Reg.BND.LO_D : Fld := ⟨0x8, 0, 32⟩
def Reg.BND.LOCAL : Fld := ⟨0xC, 0, 32⟩
def Reg.BND.HELD : Fld := ⟨0x10, 0, 32⟩
def Reg.BND.ELOOP : Fld := ⟨0x14, 0, 32⟩
def Reg.BND.BSTAT_BASIS : Fld := ⟨0x18, 0, 3⟩
def Reg.BND.BSTAT_HELD_ACT : Fld := ⟨0x18, 3, 1⟩
def Reg.BND.BSTAT_SAT : Fld := ⟨0x18, 4, 1⟩
def Reg.BND.BSTAT_SRC : Fld := ⟨0x18, 8, 5⟩
def Reg.BND.EPOCH_NUM : Fld := ⟨0x300, 0, 16⟩
def Reg.BND.EPOCH_EXCH_OK : Fld := ⟨0x300, 16, 1⟩
def Reg.BND.ORGID : Fld := ⟨0x304, 0, 24⟩
def Reg.BND.ATTCFG : Fld := ⟨0x308, 0, 7⟩
def Reg.BND.ATTCNT_SIGNED : Fld := ⟨0x30C, 0, 16⟩
def Reg.BND.ATTCNT_REFUSED : Fld := ⟨0x30C, 16, 16⟩
-- R245 (09_gnss_signal_path.md)
def Reg.GNF.BCFG_EN : Fld := ⟨0x0, 0, 1⟩
def Reg.GNF.BCFG_FMT : Fld := ⟨0x0, 1, 2⟩
def Reg.GNF.BCFG_INV : Fld := ⟨0x0, 3, 1⟩
def Reg.GNF.BCFG_IQSWAP : Fld := ⟨0x0, 4, 1⟩
def Reg.GNF.BCFG_AGC_EN : Fld := ⟨0x0, 5, 1⟩
def Reg.GNF.CENTRE : Fld := ⟨0x4, 0, 32⟩
def Reg.GNF.SRATE : Fld := ⟨0x8, 0, 32⟩
def Reg.GNF.AGC_TARGET : Fld := ⟨0xC, 0, 10⟩
def Reg.GNF.AGC_TC : Fld := ⟨0xC, 12, 4⟩
def Reg.GNF.AGC_GSLOPE : Fld := ⟨0xC, 16, 16⟩
def Reg.GNF.JAM_JTHR : Fld := ⟨0x10, 0, 8⟩
def Reg.GNF.JAM_JHYST : Fld := ⟨0x10, 8, 8⟩
def Reg.GNF.JAM_DET : Fld := ⟨0x10, 16, 8⟩
def Reg.GNF.BSTAT_CLK_OK : Fld := ⟨0x14, 0, 1⟩
def Reg.GNF.BSTAT_JAM_WARN : Fld := ⟨0x14, 1, 1⟩
def Reg.GNF.BSTAT_NOTCH_FULL : Fld := ⟨0x14, 2, 1⟩
def Reg.GNF.BSTAT_DUTY : Fld := ⟨0x14, 16, 10⟩
def Reg.GNF.JLVL_JN : Fld := ⟨0x18, 0, 16⟩
def Reg.GNF.JLVL_LEVEL : Fld := ⟨0x18, 16, 10⟩
def Reg.GNF.DROPS : Fld := ⟨0x1C, 0, 32⟩
def Reg.GNF.FOFS : Fld := ⟨0x20, 0, 32⟩
def Reg.GNF.NCFG_MODE : Fld := ⟨0x0, 0, 2⟩
def Reg.GNF.NCFG_WIDTH : Fld := ⟨0x0, 2, 3⟩
def Reg.GNF.NFREQ : Fld := ⟨0x4, 0, 24⟩
def Reg.GNF.NRANGE : Fld := ⟨0x8, 0, 24⟩
def Reg.GNF.NSTAT_F_NOW : Fld := ⟨0xC, 0, 24⟩
def Reg.GNF.NSTAT_ENGAGED : Fld := ⟨0xC, 24, 1⟩
def Reg.GNF.ALLOC_ELMASK : Fld := ⟨0x508, 0, 8⟩
def Reg.GNF.ALLOC_AUTO : Fld := ⟨0x508, 8, 1⟩
def Reg.GNF.MLCFG : Fld := ⟨0x50C, 0, 1⟩
def Reg.GNF.MLSTAT_LSEQ : Fld := ⟨0x510, 0, 8⟩
def Reg.GNF.MLSTAT_HALF : Fld := ⟨0x510, 8, 1⟩
def Reg.GNF.MLT_NSEC : Fld := ⟨0x514, 0, 30⟩
def Reg.GNF.MLT_SEC_LO : Fld := ⟨0x518, 0, 32⟩
def Reg.GNF.MLT_SEC_HI : Fld := ⟨0x51C, 0, 16⟩
-- R246 (09_gnss_signal_path.md)
def Reg.GNA.ACTRL : Fld := ⟨0x100, 0, 1⟩
def Reg.GNA.JOB0_SIG : Fld := ⟨0x104, 0, 4⟩
def Reg.GNA.JOB0_SV : Fld := ⟨0x104, 4, 8⟩
def Reg.GNA.JOB0_BAND : Fld := ⟨0x104, 12, 2⟩
def Reg.GNA.JOB0_HANDOVER : Fld := ⟨0x104, 14, 1⟩
def Reg.GNA.JOB0_CH : Fld := ⟨0x104, 16, 8⟩
def Reg.GNA.JOB0_TAG : Fld := ⟨0x104, 24, 8⟩
def Reg.GNA.JOB1_CSTART : Fld := ⟨0x108, 0, 16⟩
def Reg.GNA.JOB1_CLEN : Fld := ⟨0x108, 16, 16⟩
def Reg.GNA.JOB2 : Fld := ⟨0x10C, 0, 32⟩
def Reg.GNA.JOB3_DSPAN : Fld := ⟨0x110, 0, 16⟩
def Reg.GNA.JOB3_DSTEP : Fld := ⟨0x110, 16, 16⟩
def Reg.GNA.JOB4_TC : Fld := ⟨0x114, 0, 5⟩
def Reg.GNA.JOB4_NNC : Fld := ⟨0x114, 5, 6⟩
def Reg.GNA.JOB4_THR : Fld := ⟨0x114, 16, 8⟩
def Reg.GNA.SUBMIT_GO : Fld := ⟨0x118, 0, 1⟩
def Reg.GNA.SUBMIT_FLUSH : Fld := ⟨0x118, 1, 1⟩
def Reg.GNA.QSTAT_QDEPTH : Fld := ⟨0x11C, 0, 5⟩
def Reg.GNA.QSTAT_BUSY : Fld := ⟨0x11C, 8, 1⟩
def Reg.GNA.QSTAT_RDEPTH : Fld := ⟨0x11C, 16, 5⟩
def Reg.GNA.QSTAT_REFUSE : Fld := ⟨0x11C, 24, 4⟩
def Reg.GNA.RES0_TAG : Fld := ⟨0x120, 0, 8⟩
def Reg.GNA.RES0_OUTCOME : Fld := ⟨0x120, 8, 3⟩
def Reg.GNA.RES0_PASSES : Fld := ⟨0x120, 16, 16⟩
def Reg.GNA.RES1 : Fld := ⟨0x124, 0, 24⟩
def Reg.GNA.RES2 : Fld := ⟨0x128, 0, 32⟩
def Reg.GNA.RES3_RATIO : Fld := ⟨0x12C, 0, 16⟩
def Reg.GNA.RES3_CN0 : Fld := ⟨0x12C, 16, 16⟩
def Reg.GNA.RESPOP : Fld := ⟨0x130, 0, 1⟩
-- R247 (09_gnss_signal_path.md)
def Reg.GNT.CCFG_OWNER : Fld := ⟨0x0, 0, 1⟩
def Reg.GNT.CCFG_STOP : Fld := ⟨0x0, 1, 1⟩
def Reg.GNT.CCFG_SIG : Fld := ⟨0x0, 4, 4⟩
def Reg.GNT.CCFG_SV : Fld := ⟨0x0, 8, 8⟩
def Reg.GNT.CCFG_BAND : Fld := ⟨0x0, 16, 2⟩
def Reg.GNT.CLOOP_PLLBW : Fld := ⟨0x4, 0, 3⟩
def Reg.GNT.CLOOP_DLLBW : Fld := ⟨0x4, 4, 3⟩
def Reg.GNT.CLOOP_TINT : Fld := ⟨0x4, 8, 5⟩
def Reg.GNT.CLOOP_MP_CORR : Fld := ⟨0x4, 13, 1⟩
def Reg.GNT.CSPACE_EL : Fld := ⟨0x8, 0, 7⟩
def Reg.GNT.CSPACE_VEL : Fld := ⟨0x8, 8, 7⟩
def Reg.GNT.CSPACE_TSTEP : Fld := ⟨0x8, 16, 7⟩
def Reg.GNT.CSTAT_STATE : Fld := ⟨0xC, 0, 3⟩
def Reg.GNT.CSTAT_PLL_LOCK : Fld := ⟨0xC, 3, 1⟩
def Reg.GNT.CSTAT_BIT_SYNC : Fld := ⟨0xC, 4, 1⟩
def Reg.GNT.CSTAT_CN0 : Fld := ⟨0xC, 16, 16⟩
def Reg.GNT.M_CODE_FR : Fld := ⟨0x10, 0, 32⟩
def Reg.GNT.M_CODE_INT_CHIPS : Fld := ⟨0x14, 0, 24⟩
def Reg.GNT.M_CODE_INT_EPOCH : Fld := ⟨0x14, 24, 8⟩
def Reg.GNT.M_CARR_LO : Fld := ⟨0x18, 0, 32⟩
def Reg.GNT.M_CARR_HI : Fld := ⟨0x1C, 0, 16⟩
def Reg.GNT.M_DOP : Fld := ⟨0x20, 0, 32⟩
def Reg.GNT.M_CN0_CN0 : Fld := ⟨0x24, 0, 16⟩
def Reg.GNT.M_CN0_LOCKT : Fld := ⟨0x24, 16, 16⟩
def Reg.GNT.M_FLAGS_LSEQ : Fld := ⟨0x28, 0, 8⟩
def Reg.GNT.M_FLAGS_VALID : Fld := ⟨0x28, 8, 1⟩
def Reg.GNT.M_FLAGS_CARR_VALID : Fld := ⟨0x28, 9, 1⟩
def Reg.GNT.M_FLAGS_SLIP : Fld := ⟨0x28, 10, 1⟩
def Reg.GNT.M_FLAGS_HALF_CYC : Fld := ⟨0x28, 11, 1⟩
def Reg.GNT.M_FLAGS_COAST : Fld := ⟨0x28, 12, 1⟩
def Reg.GNT.M_FLAGS_NOTCH_CHG : Fld := ⟨0x28, 13, 1⟩
def Reg.GNT.M_FLAGS_DROP : Fld := ⟨0x28, 14, 1⟩
def Reg.GNT.M_FLAGS_MP_VALID : Fld := ⟨0x28, 15, 1⟩
def Reg.GNT.M_FLAGS_MP_APPLIED : Fld := ⟨0x28, 16, 1⟩
def Reg.GNT.M_MP_DELAY : Fld := ⟨0x2C, 0, 16⟩
def Reg.GNT.M_MP_AMP : Fld := ⟨0x2C, 16, 8⟩
def Reg.GNT.CHG : Fld := ⟨0x900, 0, 32⟩
def Reg.GNT.CHG_CLR : Fld := ⟨0x904, 0, 32⟩
-- R267 (10_gnss_time_solution.md)
def Reg.GNS.SCFG_MODE : Fld := ⟨0x100, 0, 2⟩
def Reg.GNS.SCFG_TSYS : Fld := ⟨0x100, 2, 2⟩
def Reg.GNS.SCFG_CONST : Fld := ⟨0x100, 4, 6⟩
def Reg.GNS.SCFG_MIN_SV : Fld := ⟨0x100, 16, 8⟩
def Reg.GNS.SURVEY_MIN : Fld := ⟨0x104, 0, 16⟩
def Reg.GNS.SURVEY_ACC : Fld := ⟨0x104, 16, 16⟩
def Reg.GNS.POS_LO : Fld := ⟨0x108, 0, 32⟩
def Reg.GNS.POS_HI : Fld := ⟨0x10C, 0, 16⟩
def Reg.GNS.POSUNC : Fld := ⟨0x120, 0, 32⟩
def Reg.GNS.CALUNC : Fld := ⟨0x124, 0, 32⟩
def Reg.GNS.BDELAY : Fld := ⟨0x128, 0, 32⟩
def Reg.GNS.ISB : Fld := ⟨0x140, 0, 32⟩
def Reg.GNS.ICFG_EN : Fld := ⟨0x180, 0, 7⟩
def Reg.GNS.ICFG_HOLD : Fld := ⟨0x180, 8, 8⟩
def Reg.GNS.ITOL0_MODEL_FTOL : Fld := ⟨0x184, 0, 16⟩
def Reg.GNS.ITOL0_ISC_TOL : Fld := ⟨0x184, 16, 16⟩
def Reg.GNS.ITOL1_POS_TOL : Fld := ⟨0x188, 0, 16⟩
def Reg.GNS.ITOL1_CN0_MIN : Fld := ⟨0x188, 16, 8⟩
def Reg.GNS.ITOL1_RAIM_K : Fld := ⟨0x188, 24, 8⟩
def Reg.GNS.ISTAT_PASS : Fld := ⟨0x18C, 0, 1⟩
def Reg.GNS.ISTAT_FAIL : Fld := ⟨0x18C, 1, 7⟩
def Reg.GNS.ISTAT_EXCL : Fld := ⟨0x18C, 8, 8⟩
def Reg.GNS.ISTAT_CLEAN : Fld := ⟨0x18C, 16, 8⟩
def Reg.GNS.SOL_INFO_LSEQ : Fld := ⟨0x190, 0, 8⟩
def Reg.GNS.SOL_INFO_TYPE : Fld := ⟨0x190, 8, 2⟩
def Reg.GNS.SOL_INFO_SURVEYING : Fld := ⟨0x190, 10, 1⟩
def Reg.GNS.SOL_INFO_NSV : Fld := ⟨0x190, 16, 8⟩
def Reg.GNS.SOL_INFO_CONST : Fld := ⟨0x190, 24, 6⟩
def Reg.GNS.OFS_LO : Fld := ⟨0x194, 0, 32⟩
def Reg.GNS.OFS_HI : Fld := ⟨0x198, 0, 16⟩
def Reg.GNS.SIGMA : Fld := ⟨0x19C, 0, 32⟩
def Reg.GNS.TDOP : Fld := ⟨0x1A0, 0, 16⟩
def Reg.GNS.WEEK : Fld := ⟨0x1A4, 0, 16⟩
def Reg.GNS.WKCFG_HINT : Fld := ⟨0x1B0, 0, 16⟩
def Reg.GNS.WKCFG_HINT_VALID : Fld := ⟨0x1B0, 16, 1⟩
def Reg.GNS.DATE_FLOOR : Fld := ⟨0x1B4, 0, 16⟩
def Reg.GNS.SNCFG_BANDS : Fld := ⟨0x200, 0, 4⟩
def Reg.GNS.SNCFG_LEN : Fld := ⟨0x200, 4, 5⟩
def Reg.GNS.SNCTRL_START : Fld := ⟨0x204, 0, 1⟩
def Reg.GNS.SNCTRL_ABORT : Fld := ⟨0x204, 1, 1⟩
def Reg.GNS.SNSTAT_STATE : Fld := ⟨0x208, 0, 2⟩
def Reg.GNS.SNSTAT_REFUSE : Fld := ⟨0x208, 4, 4⟩
def Reg.GNS.SNSTAT_TRUNC : Fld := ⟨0x208, 8, 4⟩
def Reg.GNS.SNSTAT_DROP : Fld := ⟨0x208, 12, 4⟩
def Reg.GNS.SNSTAT_MS : Fld := ⟨0x208, 16, 5⟩
def Reg.GNS.SNSTAT_SEQ : Fld := ⟨0x208, 24, 8⟩
def Reg.GNS.SNWIN : Fld := ⟨0x20C, 0, 11⟩
def Reg.GNS.SN_T_NSEC : Fld := ⟨0x0, 0, 30⟩
def Reg.GNS.SN_T_SEC_LO : Fld := ⟨0x4, 0, 32⟩
def Reg.GNS.SN_T_SEC_HI : Fld := ⟨0x8, 0, 16⟩
def Reg.GNS.SN_INFO_START : Fld := ⟨0xC, 0, 14⟩
def Reg.GNS.SN_INFO_FMT : Fld := ⟨0xC, 14, 2⟩
def Reg.GNS.SN_NSAMP : Fld := ⟨0x10, 0, 24⟩
def Reg.GNS.SNRES_LO : Fld := ⟨0x290, 0, 32⟩
def Reg.GNS.SNRES_HI : Fld := ⟨0x294, 0, 16⟩
def Reg.GNS.SNRES_INFO_NSV : Fld := ⟨0x298, 0, 8⟩
def Reg.GNS.SNRES_INFO_VALID : Fld := ⟨0x298, 8, 1⟩
def Reg.GNS.SNRES_INFO_LIVE : Fld := ⟨0x298, 9, 1⟩
def Reg.GNS.SNRES_INFO_SIGMA : Fld := ⟨0x298, 16, 16⟩
def Reg.GNS.SNTOL : Fld := ⟨0x29C, 0, 16⟩
-- R285 (11_ethernet_ports.md)
def Reg.PCS.PCFG_MODE : Fld := ⟨0x100, 0, 3⟩
def Reg.PCS.PCFG_FEC : Fld := ⟨0x100, 4, 2⟩
def Reg.PCS.PCFG_LT_EN : Fld := ⟨0x100, 6, 1⟩
def Reg.PCS.PCFG_TXREF : Fld := ⟨0x100, 7, 1⟩
def Reg.PCS.PCFG_RCLK_LANE : Fld := ⟨0x100, 8, 2⟩
def Reg.PCS.UPHOLD : Fld := ⟨0x104, 0, 16⟩
def Reg.PCS.PSTAT_LINK_UP : Fld := ⟨0x108, 0, 1⟩
def Reg.PCS.PSTAT_BLOCK_LOCK : Fld := ⟨0x108, 1, 1⟩
def Reg.PCS.PSTAT_ALIGNED : Fld := ⟨0x108, 2, 1⟩
def Reg.PCS.PSTAT_HI_BER : Fld := ⟨0x108, 3, 1⟩
def Reg.PCS.PSTAT_LOCAL_FAULT : Fld := ⟨0x108, 4, 1⟩
def Reg.PCS.PSTAT_REMOTE_FAULT : Fld := ⟨0x108, 5, 1⟩
def Reg.PCS.PSTAT_DLY_VALID : Fld := ⟨0x108, 6, 1⟩
def Reg.PCS.PSTAT_REFUSED : Fld := ⟨0x108, 7, 1⟩
def Reg.PCS.PSTAT_LOS : Fld := ⟨0x108, 8, 4⟩
def Reg.PCS.RX_FIX : Fld := ⟨0x10C, 0, 32⟩
def Reg.PCS.RX_VAR : Fld := ⟨0x110, 0, 32⟩
def Reg.PCS.RX_TRIM : Fld := ⟨0x114, 0, 32⟩
def Reg.PCS.TX_FIX : Fld := ⟨0x118, 0, 32⟩
def Reg.PCS.TX_VAR : Fld := ⟨0x11C, 0, 32⟩
def Reg.PCS.TX_TRIM : Fld := ⟨0x120, 0, 32⟩
def Reg.PCS.RX_QL_SSM : Fld := ⟨0x124, 0, 4⟩
def Reg.PCS.RX_QL_ESSM : Fld := ⟨0x124, 8, 8⟩
def Reg.PCS.RX_QL_EXT : Fld := ⟨0x124, 16, 1⟩
def Reg.PCS.RX_QL_TIMEOUT : Fld := ⟨0x124, 17, 1⟩
def Reg.PCS.RX_QL_QR : Fld := ⟨0x124, 20, 4⟩
def Reg.PCS.TX_QL_AUTO : Fld := ⟨0x128, 0, 1⟩
def Reg.PCS.TX_QL_FIX_SSM : Fld := ⟨0x128, 4, 4⟩
def Reg.PCS.TX_QL_FIX_ESSM : Fld := ⟨0x128, 8, 8⟩
def Reg.PCS.TX_QL_SENT_SSM : Fld := ⟨0x128, 24, 4⟩
def Reg.PCS.ESMC_RX_EN : Fld := ⟨0x12C, 0, 1⟩
def Reg.PCS.ESMC_TX_EN : Fld := ⟨0x12C, 1, 1⟩
def Reg.PCS.ESMC_EXT_EN : Fld := ⟨0x12C, 2, 1⟩
def Reg.PCS.LT_STAT : Fld := ⟨0x130, 0, 4⟩
-- R286 (11_ethernet_ports.md)
def Reg.MAC.MCFG_IGN_PAUSE : Fld := ⟨0x140, 0, 1⟩
def Reg.MAC.MCFG_TX_FC_EN : Fld := ⟨0x140, 1, 1⟩
def Reg.MAC.MCFG_PFC_MODE : Fld := ⟨0x140, 2, 1⟩
def Reg.MAC.MCFG_ERR_DELIVER : Fld := ⟨0x140, 3, 1⟩
def Reg.MAC.MCFG_IGN_PFC : Fld := ⟨0x140, 8, 8⟩
def Reg.MAC.MAXLEN : Fld := ⟨0x144, 0, 14⟩
def Reg.MAC.SNAP_TAKE : Fld := ⟨0x148, 0, 1⟩
def Reg.MAC.SNAP_TAKE_ALL : Fld := ⟨0x148, 1, 1⟩
def Reg.MAC.SNAP_SEQ : Fld := ⟨0x148, 16, 8⟩
def Reg.MAC.SNAP_T_NSEC : Fld := ⟨0x14C, 0, 30⟩
def Reg.MAC.SNAP_T_SEC_LO : Fld := ⟨0x150, 0, 32⟩
def Reg.MAC.SNAP_T_SEC_HI : Fld := ⟨0x154, 0, 16⟩
def Reg.MAC.CNT_LO : Fld := ⟨0x200, 0, 32⟩
def Reg.MAC.CNT_HI : Fld := ⟨0x204, 0, 32⟩
-- R306 (12_switch_planes.md)
def Reg.SWC.PCFG_DEF_CLASS : Fld := ⟨0x0, 0, 3⟩
def Reg.SWC.PCFG_TC_EN : Fld := ⟨0x0, 3, 1⟩
def Reg.SWC.PCFG_FLOOD : Fld := ⟨0x0, 8, 9⟩
def Reg.SWC.LINKDLY : Fld := ⟨0x8, 0, 32⟩
def Reg.SWC.XFC_XOFF : Fld := ⟨0xC, 0, 14⟩
def Reg.SWC.XFC_XON : Fld := ⟨0xC, 16, 14⟩
def Reg.SWC.INGCELLS : Fld := ⟨0x10, 0, 15⟩
def Reg.SWC.SVC_DROP : Fld := ⟨0x14, 0, 32⟩
def Reg.SWC.TCCFG_EN : Fld := ⟨0x200, 0, 1⟩
def Reg.SWC.TCCFG_P2P : Fld := ⟨0x200, 1, 1⟩
def Reg.SWC.TCCFG_LEAD : Fld := ⟨0x200, 16, 13⟩
def Reg.SWC.MCAGE : Fld := ⟨0x204, 0, 16⟩
def Reg.SWC.FWSEL : Fld := ⟨0x208, 0, 5⟩
def Reg.SWC.BUFSTAT : Fld := ⟨0x20C, 0, 15⟩
def Reg.SWC.LOWMARK : Fld := ⟨0x210, 0, 15⟩
def Reg.SWC.BRSTAT : Fld := ⟨0x214, 0, 1⟩
def Reg.SWC.BRIDGE_DROP : Fld := ⟨0x218, 0, 32⟩
def Reg.SWC.TC_RESTAMP : Fld := ⟨0x21C, 0, 32⟩
def Reg.SWC.TC_INVALID : Fld := ⟨0x220, 0, 32⟩
def Reg.SWC.FW_FLOOD : Fld := ⟨0x224, 0, 32⟩
def Reg.SWC.NO_DEST : Fld := ⟨0x228, 0, 32⟩
-- R307 (12_switch_planes.md)
def Reg.SWT.QCFG_QMAX : Fld := ⟨0x0, 0, 14⟩
def Reg.SWT.QCFG_WEIGHT : Fld := ⟨0x0, 16, 8⟩
def Reg.SWT.QCFG_STRICT : Fld := ⟨0x0, 24, 1⟩
def Reg.SWT.QCFG_CT : Fld := ⟨0x0, 25, 1⟩
def Reg.SWT.QDEPTH_CELLS : Fld := ⟨0x4, 0, 15⟩
def Reg.SWT.QDEPTH_FRAMES : Fld := ⟨0x4, 16, 16⟩
def Reg.SWT.ADMIT_DROP : Fld := ⟨0x8, 0, 32⟩
def Reg.SWT.TXF : Fld := ⟨0xC, 0, 32⟩
def Reg.SWT.FLUSHED : Fld := ⟨0x0, 0, 32⟩
def Reg.SWT.STOMPED : Fld := ⟨0x4, 0, 32⟩
def Reg.SWT.MC_AGED : Fld := ⟨0x8, 0, 32⟩
def Reg.SWT.GATE_DEFER : Fld := ⟨0xC, 0, 32⟩
-- R328 (13_launch_gate.md)
def Reg.LGT.GSTAT_HELD : Fld := ⟨0x0, 0, 9⟩
def Reg.LGT.GSTAT_BLIND : Fld := ⟨0x0, 9, 1⟩
def Reg.LGT.LAUNCHED : Fld := ⟨0x4, 0, 32⟩
def Reg.LGT.LATE_DROP : Fld := ⟨0x8, 0, 32⟩
def Reg.LGT.RESTAMPED : Fld := ⟨0xC, 0, 32⟩
def Reg.LGT.BLOCKED : Fld := ⟨0x10, 0, 32⟩
def Reg.LGT.DISCARD : Fld := ⟨0x14, 0, 32⟩
def Reg.LGT.ING_ING_ONE : Fld := ⟨0x18, 0, 16⟩
def Reg.LGT.ING_ING_NONE : Fld := ⟨0x18, 16, 16⟩
def Reg.LGT.TSLEW : Fld := ⟨0x1C, 0, 32⟩
def Reg.LGT.RPT0_TAG : Fld := ⟨0x20, 0, 16⟩
def Reg.LGT.RPT0_STATUS : Fld := ⟨0x20, 16, 4⟩
def Reg.LGT.RPT0_VALID : Fld := ⟨0x20, 31, 1⟩
def Reg.LGT.RPT1 : Fld := ⟨0x24, 0, 30⟩
def Reg.LGT.RPT2 : Fld := ⟨0x28, 0, 32⟩
def Reg.LGT.RPT3 : Fld := ⟨0x2C, 0, 16⟩
def Reg.LGT.RPTCTL_POP : Fld := ⟨0x30, 0, 1⟩
def Reg.LGT.RPTCTL_THR : Fld := ⟨0x30, 16, 10⟩
def Reg.LGT.RPTSTAT_DEPTH : Fld := ⟨0x34, 0, 10⟩
def Reg.LGT.RPTSTAT_CREDITS : Fld := ⟨0x34, 16, 10⟩
-- R361 (14_time_responder.md)
def Reg.TRS.ICFG_PORT : Fld := ⟨0x0, 0, 3⟩
def Reg.TRS.ICFG_TRANSPORT : Fld := ⟨0x0, 4, 2⟩
def Reg.TRS.ICFG_UNICAST : Fld := ⟨0x0, 6, 1⟩
def Reg.TRS.ICFG_P2P : Fld := ⟨0x0, 7, 1⟩
def Reg.TRS.ICFG_ANN_TMO : Fld := ⟨0x0, 8, 4⟩
def Reg.TRS.ICFG_SRC_ENTRY : Fld := ⟨0x0, 12, 6⟩
def Reg.TRS.ICFG_LOGDREQ : Fld := ⟨0x0, 24, 8⟩
def Reg.TRS.REQINTV_LOGSYNC_REQ : Fld := ⟨0x4, 0, 8⟩
def Reg.TRS.REQINTV_LOGANN_REQ : Fld := ⟨0x4, 8, 8⟩
def Reg.TRS.REQINTV_DURATION : Fld := ⟨0x4, 16, 16⟩
def Reg.TRS.PADDR : Fld := ⟨0x8, 0, 32⟩
def Reg.TRS.PMAC_LO : Fld := ⟨0x18, 0, 32⟩
def Reg.TRS.PMAC_HI : Fld := ⟨0x1C, 0, 16⟩
def Reg.TRS.ISTAT_STATE : Fld := ⟨0x20, 0, 3⟩
def Reg.TRS.ISTAT_GRANTS : Fld := ⟨0x20, 4, 3⟩
def Reg.TRS.ISTAT_STEPS : Fld := ⟨0x20, 8, 8⟩
def Reg.TRS.PID_LO : Fld := ⟨0x24, 0, 32⟩
def Reg.TRS.PID_HI : Fld := ⟨0x28, 0, 32⟩
def Reg.TRS.PPORT : Fld := ⟨0x2C, 0, 16⟩
def Reg.TRS.MPD_LO : Fld := ⟨0x30, 0, 32⟩
def Reg.TRS.MPD_HI : Fld := ⟨0x34, 0, 16⟩
-- R366 (14_time_responder.md)
def Reg.TRS.LEAD : Fld := ⟨0x100, 0, 13⟩
def Reg.TRS.LATE : Fld := ⟨0x104, 0, 1⟩
def Reg.TRS.IPCFG_TTL : Fld := ⟨0x108, 0, 8⟩
def Reg.TRS.IPCFG_DSCP : Fld := ⟨0x108, 8, 6⟩
def Reg.TRS.NTPCFG_PREC : Fld := ⟨0x10C, 0, 8⟩
def Reg.TRS.NTPCFG_MINPOLL : Fld := ⟨0x10C, 8, 4⟩
def Reg.TRS.NTPCFG_MAXPOLL : Fld := ⟨0x10C, 12, 4⟩
def Reg.TRS.NTPRDLY : Fld := ⟨0x110, 0, 32⟩
def Reg.TRS.NTPRID : Fld := ⟨0x114, 0, 32⟩
def Reg.TRS.NTSCFG_FLEET : Fld := ⟨0x118, 0, 8⟩
def Reg.TRS.NTSCFG_NAK_EN : Fld := ⟨0x118, 8, 1⟩
def Reg.TRS.PTPCFG_SLEAD : Fld := ⟨0x11C, 0, 13⟩
def Reg.TRS.PTPCFG_PAD_REQ : Fld := ⟨0x11C, 16, 1⟩
def Reg.TRS.CLKID_LO : Fld := ⟨0x120, 0, 32⟩
def Reg.TRS.CLKID_HI : Fld := ⟨0x124, 0, 32⟩
def Reg.TRS.TSTAT : Fld := ⟨0x128, 0, 1⟩
def Reg.TRS.PCFG_EN : Fld := ⟨0x0, 0, 1⟩
def Reg.TRS.PCFG_ROLE : Fld := ⟨0x0, 1, 1⟩
def Reg.TRS.PCFG_CLIENT : Fld := ⟨0x0, 2, 2⟩
def Reg.TRS.PCFG_PROFILE : Fld := ⟨0x0, 4, 2⟩
def Reg.TRS.PCFG_TWO_STEP : Fld := ⟨0x0, 6, 1⟩
def Reg.TRS.PCFG_P2P : Fld := ⟨0x0, 7, 1⟩
def Reg.TRS.PCFG_UNICAST_NEG : Fld := ⟨0x0, 8, 1⟩
def Reg.TRS.PCFG_OPEN : Fld := ⟨0x0, 9, 1⟩
def Reg.TRS.PCFG_ORGTLV : Fld := ⟨0x0, 10, 1⟩
def Reg.TRS.PCFG_TB : Fld := ⟨0x0, 11, 4⟩
def Reg.TRS.PCFG_DOMAIN : Fld := ⟨0x0, 16, 8⟩
def Reg.TRS.INTV_LOGSYNC : Fld := ⟨0x4, 0, 8⟩
def Reg.TRS.INTV_LOGANN : Fld := ⟨0x4, 8, 8⟩
def Reg.TRS.INTV_LOGMINDREQ : Fld := ⟨0x4, 16, 8⟩
def Reg.TRS.AUTH_AUTH_EN : Fld := ⟨0x8, 0, 1⟩
def Reg.TRS.AUTH_SPP_IDX : Fld := ⟨0x8, 1, 2⟩
def Reg.TRS.AUTH_REQ_AUTH : Fld := ⟨0x8, 3, 1⟩
def Reg.TRS.MCAST_MPORTS : Fld := ⟨0xC, 0, 8⟩
def Reg.TRS.MCAST_MAC_SEL : Fld := ⟨0xC, 8, 1⟩
def Reg.TRS.GRANT_MAXDUR : Fld := ⟨0x10, 0, 16⟩
def Reg.TRS.GRANT_MINLOGSYNC : Fld := ⟨0x10, 16, 8⟩
def Reg.TRS.GRANT_MINLOGANN : Fld := ⟨0x10, 24, 8⟩
def Reg.TRS.PRIO_PRIO1 : Fld := ⟨0x14, 0, 8⟩
def Reg.TRS.PRIO_PRIO2 : Fld := ⟨0x14, 8, 8⟩
def Reg.TRS.SPP_SPP : Fld := ⟨0x340, 0, 8⟩
def Reg.TRS.SPP_ALG : Fld := ⟨0x340, 8, 1⟩
def Reg.TRS.SPP_FAMILY : Fld := ⟨0x340, 9, 4⟩
def Reg.TRS.CNT : Fld := ⟨0x360, 0, 32⟩
-- R367 (14_time_responder.md)
def Reg.TRSA.ADDR : Fld := ⟨0x0, 0, 32⟩
def Reg.TRSA.MAC_LO : Fld := ⟨0x10, 0, 32⟩
def Reg.TRSA.MAC_HI_MAC : Fld := ⟨0x14, 0, 16⟩
def Reg.TRSA.MAC_HI_VID : Fld := ⟨0x14, 16, 12⟩
def Reg.TRSA.MAC_HI_VTAG : Fld := ⟨0x14, 28, 1⟩
def Reg.TRSA.SVC_PTPMASK : Fld := ⟨0x18, 0, 16⟩
def Reg.TRSA.SVC_NTP_TB : Fld := ⟨0x18, 16, 4⟩
def Reg.TRSA.SVC_RLPROF : Fld := ⟨0x18, 20, 2⟩
def Reg.TRSA.SVC_V6 : Fld := ⟨0x18, 22, 1⟩
def Reg.TRSA.SVC_NTP : Fld := ⟨0x18, 23, 1⟩
def Reg.TRSA.SVC_NTS : Fld := ⟨0x18, 24, 1⟩
def Reg.TRSA.SVC_NTS_ONLY : Fld := ⟨0x18, 25, 1⟩
def Reg.TRSA.SVC_L2 : Fld := ⟨0x18, 26, 1⟩
def Reg.TRSA.ACTRL_PORTS : Fld := ⟨0x1C, 0, 8⟩
def Reg.TRSA.ACTRL_VALID : Fld := ⟨0x1C, 31, 1⟩
-- R368 (14_time_responder.md)
def Reg.GRT.GSTAT : Fld := ⟨0x100, 0, 13⟩
def Reg.GRT.GRANTED : Fld := ⟨0x104, 0, 32⟩
def Reg.GRT.DENIED : Fld := ⟨0x108, 0, 32⟩
def Reg.GRT.CANCELLED : Fld := ⟨0x10C, 0, 32⟩
def Reg.GRT.EXPIRED : Fld := ⟨0x110, 0, 32⟩
def Reg.GRT.COPYGEN : Fld := ⟨0x114, 0, 16⟩
def Reg.GRT.GSEL : Fld := ⟨0x118, 0, 7⟩
def Reg.GRT.GREVOKE : Fld := ⟨0x11C, 0, 12⟩
-- R369 (14_time_responder.md)
def Reg.RLT.RATE : Fld := ⟨0x0, 0, 20⟩
def Reg.RLT.BURST : Fld := ⟨0x4, 0, 16⟩
def Reg.RLT.PFX_V4LEN : Fld := ⟨0x8, 0, 8⟩
def Reg.RLT.PFX_V6LEN : Fld := ⟨0x8, 8, 8⟩
def Reg.RLT.PFX_KOD : Fld := ⟨0x8, 16, 1⟩
def Reg.RLT.PFX_KOD_MIN : Fld := ⟨0x8, 24, 8⟩
def Reg.RLT.HKEY : Fld := ⟨0x140, 0, 32⟩
def Reg.RLT.OCC : Fld := ⟨0x150, 0, 17⟩
def Reg.RLT.DENIED : Fld := ⟨0x154, 0, 32⟩
def Reg.RLT.KOD_SENT : Fld := ⟨0x158, 0, 32⟩
def Reg.RLT.CTL : Fld := ⟨0x15C, 0, 1⟩
-- R394 (15_caddy_keys.md)
def Reg.CAD.CSTAT_KEYS_READY : Fld := ⟨0x100, 0, 1⟩
def Reg.CAD.CSTAT_ROOT_FAIL : Fld := ⟨0x100, 1, 1⟩
def Reg.CAD.CSTAT_TAMPER_LOCK : Fld := ⟨0x100, 2, 1⟩
def Reg.CAD.CSTAT_ZBUSY : Fld := ⟨0x100, 3, 1⟩
def Reg.CAD.CSTAT_MIRROR_OK : Fld := ⟨0x100, 4, 1⟩
def Reg.CAD.CSTAT_PERSIST_OK : Fld := ⟨0x100, 5, 1⟩
def Reg.CAD.CSTAT_OCC : Fld := ⟨0x100, 8, 9⟩
def Reg.CAD.TPOL : Fld := ⟨0x104, 0, 32⟩
def Reg.CAD.SLOTSEL : Fld := ⟨0x108, 0, 8⟩
def Reg.CAD.SLOTATTR : Fld := ⟨0x10C, 0, 32⟩
def Reg.CAD.SLOTKEYID : Fld := ⟨0x110, 0, 32⟩
def Reg.CAD.SLOTKCV : Fld := ⟨0x114, 0, 32⟩
def Reg.CAD.SLOT_ACT_LO : Fld := ⟨0x118, 0, 32⟩
def Reg.CAD.SLOT_ACT_HI : Fld := ⟨0x11C, 0, 16⟩
def Reg.CAD.SLOT_RET_LO : Fld := ⟨0x120, 0, 32⟩
def Reg.CAD.SLOT_RET_HI : Fld := ⟨0x124, 0, 16⟩
def Reg.CAD.ACTGEN_GSEQ : Fld := ⟨0x140, 0, 20⟩
def Reg.CAD.ACTGEN_IDX : Fld := ⟨0x140, 20, 3⟩
def Reg.CAD.ACTGEN_PRESENT : Fld := ⟨0x140, 23, 8⟩
def Reg.CAD.ACTGEN_VALID : Fld := ⟨0x140, 31, 1⟩
def Reg.CAD.ZERO_FIRST : Fld := ⟨0x180, 0, 8⟩
def Reg.CAD.ZERO_LAST : Fld := ⟨0x180, 8, 8⟩
def Reg.CAD.ZERO_PERSIST : Fld := ⟨0x180, 16, 1⟩
def Reg.CAD.ZERO_GO : Fld := ⟨0x180, 31, 1⟩
def Reg.CAD.ZSTAT_COUNT : Fld := ⟨0x184, 0, 9⟩
def Reg.CAD.ZSTAT_VERIFIED : Fld := ⟨0x184, 9, 1⟩
def Reg.CAD.ZSTAT_DEFECT : Fld := ⟨0x184, 10, 1⟩
def Reg.CAD.ZSTAT_PURGED : Fld := ⟨0x184, 11, 1⟩
def Reg.CAD.ZSTAT_REFUSED : Fld := ⟨0x184, 12, 1⟩
def Reg.CAD.ZSTAT_SEQ : Fld := ⟨0x184, 24, 8⟩
def Reg.CAD.TSTAT_SRC : Fld := ⟨0x188, 0, 5⟩
def Reg.CAD.TSTAT_AT_START : Fld := ⟨0x188, 8, 1⟩
def Reg.CAD.LOADS : Fld := ⟨0x18C, 0, 32⟩
def Reg.CAD.UNWRAP_FAIL : Fld := ⟨0x190, 0, 32⟩
def Reg.CAD.TAMPER_ABORT : Fld := ⟨0x194, 0, 32⟩
-- R395 (15_caddy_keys.md)
def Reg.AEG.ECFG_FAMMASK : Fld := ⟨0x0, 0, 16⟩
def Reg.AEG.ECFG_GENERAL : Fld := ⟨0x0, 16, 1⟩
def Reg.AEG.ESTAT_INSVC : Fld := ⟨0x4, 0, 1⟩
def Reg.AEG.ESTAT_FAILED : Fld := ⟨0x4, 1, 1⟩
def Reg.AEG.ESTAT_CACHED : Fld := ⟨0x4, 8, 6⟩
def Reg.AEG.OPS : Fld := ⟨0x8, 0, 32⟩
def Reg.AEG.MISS : Fld := ⟨0xC, 0, 32⟩
def Reg.AEG.UNCOVERED_FAM : Fld := ⟨0x200, 0, 16⟩
def Reg.AEG.UNCOVERED_GENERAL : Fld := ⟨0x200, 16, 1⟩
-- R430 (16_duplicate_service.md)
def Reg.RED.RCTL_WTR : Fld := ⟨0x100, 0, 16⟩
def Reg.RED.RCTL_CWTR : Fld := ⟨0x100, 16, 16⟩
def Reg.RED.TOPO_N : Fld := ⟨0x104, 0, 4⟩
def Reg.RED.TOPO_CHIPID : Fld := ⟨0x104, 8, 3⟩
def Reg.RED.TOPO_PRIO : Fld := ⟨0x104, 12, 2⟩
def Reg.RED.TOPO_HOLD_US : Fld := ⟨0x104, 16, 8⟩
def Reg.RED.TOPO_AGE_US : Fld := ⟨0x104, 24, 8⟩
def Reg.RED.MIRROR_EN : Fld := ⟨0x110, 0, 1⟩
def Reg.RED.MIRROR_ACCEPT : Fld := ⟨0x110, 1, 1⟩
def Reg.RED.MIRROR_BUDDY : Fld := ⟨0x110, 4, 3⟩
def Reg.RED.MIRROR_TBMASK : Fld := ⟨0x110, 16, 16⟩
def Reg.RED.PRP_TX_EN : Fld := ⟨0x114, 0, 1⟩
def Reg.RED.PRP_RX_EN : Fld := ⟨0x114, 1, 1⟩
def Reg.RED.PRP_HOLD_NS : Fld := ⟨0x114, 8, 12⟩
def Reg.RED.XCHK : Fld := ⟨0x118, 0, 16⟩
def Reg.RED.RSTAT_HJOIN : Fld := ⟨0x11C, 0, 3⟩
def Reg.RED.RSTAT_CJOIN : Fld := ⟨0x11C, 4, 2⟩
def Reg.RED.RSTAT_ILK_OUT : Fld := ⟨0x11C, 6, 1⟩
def Reg.RED.RSTAT_ILK_IN : Fld := ⟨0x11C, 7, 1⟩
def Reg.RED.RSTAT_QUORUM : Fld := ⟨0x11C, 8, 1⟩
def Reg.RED.RSTAT_HCLASS : Fld := ⟨0x11C, 9, 3⟩
def Reg.RED.RSTAT_STRONG : Fld := ⟨0x11C, 12, 4⟩
def Reg.RED.RSTAT_HEARD : Fld := ⟨0x11C, 16, 8⟩
def Reg.RED.WTR_REM_HREM : Fld := ⟨0x120, 0, 16⟩
def Reg.RED.WTR_REM_CREM : Fld := ⟨0x120, 16, 16⟩
def Reg.RED.DUP_OK : Fld := ⟨0x12C, 0, 32⟩
def Reg.RED.DUP_MISMATCH : Fld := ⟨0x130, 0, 32⟩
def Reg.RED.UNPAIRED : Fld := ⟨0x134, 0, 32⟩
def Reg.RED.MIRROR_TX : Fld := ⟨0x138, 0, 32⟩
def Reg.RED.MIRROR_DROP : Fld := ⟨0x13C, 0, 32⟩
def Reg.RED.MIRROR_RX : Fld := ⟨0x140, 0, 32⟩
def Reg.RED.MIRROR_RXDROP : Fld := ⟨0x144, 0, 32⟩
def Reg.RED.PRP_DISCARD : Fld := ⟨0x148, 0, 32⟩
def Reg.RED.PREJOIN_DROP : Fld := ⟨0x14C, 0, 32⟩
def Reg.RED.COPYGEN : Fld := ⟨0x150, 0, 16⟩
-- R431 (16_duplicate_service.md)
def Reg.SLV.LCFG : Fld := ⟨0x0, 0, 1⟩
def Reg.SLV.LASYM : Fld := ⟨0x4, 0, 32⟩
def Reg.SLV.LSTAT_UP : Fld := ⟨0x8, 0, 1⟩
def Reg.SLV.LSTAT_XFER_VALID : Fld := ⟨0x8, 1, 1⟩
def Reg.SLV.LSTAT_WIRING_ERR : Fld := ⟨0x8, 2, 1⟩
def Reg.SLV.LSTAT_PEER_ID : Fld := ⟨0x8, 4, 3⟩
def Reg.SLV.LSTAT_PEER_LINK : Fld := ⟨0x8, 8, 2⟩
def Reg.SLV.OFS_LO : Fld := ⟨0xC, 0, 32⟩
def Reg.SLV.OFS_HI : Fld := ⟨0x10, 0, 16⟩
def Reg.SLV.DELAY : Fld := ⟨0x14, 0, 32⟩
def Reg.SLV.XCNT : Fld := ⟨0x18, 0, 32⟩
def Reg.SLV.CRC_ERR : Fld := ⟨0x1C, 0, 32⟩
def Reg.SLV.RESENDS : Fld := ⟨0x20, 0, 32⟩
def Reg.SLV.DOWNS : Fld := ⟨0x24, 0, 32⟩
def Reg.SLV.RPT : Fld := ⟨0x28, 0, 32⟩
-- R450 (17_power_kettle_background.md)
def Reg.PMU.AVSCFG_MODE : Fld := ⟨0x100, 0, 2⟩
def Reg.PMU.AVSCFG_RAIL : Fld := ⟨0x100, 4, 4⟩
def Reg.PMU.VLIM_VMIN : Fld := ⟨0x104, 0, 16⟩
def Reg.PMU.VLIM_VMAX : Fld := ⟨0x104, 16, 16⟩
def Reg.PMU.VSET : Fld := ⟨0x108, 0, 16⟩
def Reg.PMU.PACE : Fld := ⟨0x10C, 0, 8⟩
def Reg.PMU.AVSSTAT_PACE : Fld := ⟨0x110, 0, 12⟩
def Reg.PMU.AVSSTAT_VREAD : Fld := ⟨0x110, 12, 16⟩
def Reg.PMU.AVSSTAT_FAIL : Fld := ⟨0x110, 28, 1⟩
def Reg.PMU.AVSSTAT_AT_VMAX : Fld := ⟨0x110, 29, 1⟩
def Reg.PMU.SCRUB_PERIOD : Fld := ⟨0x114, 0, 8⟩
def Reg.PMU.SCRUB_PASSES : Fld := ⟨0x114, 16, 8⟩
-- R451 (17_power_kettle_background.md)
def Reg.KTL.KCTRL : Fld := ⟨0x100, 0, 1⟩
def Reg.KTL.KSTAT_KVALID : Fld := ⟨0x104, 0, 1⟩
def Reg.KTL.KSTAT_TAMPER_SEEN : Fld := ⟨0x104, 1, 1⟩
def Reg.KTL.KSTAT_XO_OK : Fld := ⟨0x104, 2, 1⟩
def Reg.KTL.KSTAT_WAKE_CAUSE : Fld := ⟨0x104, 4, 3⟩
def Reg.KTL.KSTAT_LOGN : Fld := ⟨0x104, 8, 4⟩
def Reg.KTL.KSTAT_LOGOVF : Fld := ⟨0x104, 12, 1⟩
def Reg.KTL.KXO_Y : Fld := ⟨0x108, 0, 16⟩
def Reg.KTL.KXO_D : Fld := ⟨0x108, 16, 16⟩
def Reg.KTL.KTIME_SUB : Fld := ⟨0x10C, 0, 32⟩
def Reg.KTL.KTIME_SEC_LO : Fld := ⟨0x110, 0, 32⟩
def Reg.KTL.KTIME_SEC_HI : Fld := ⟨0x114, 0, 16⟩
def Reg.KTL.KBOUND : Fld := ⟨0x118, 0, 32⟩
def Reg.KTL.KFOFS : Fld := ⟨0x11C, 0, 32⟩
def Reg.KTL.ALARM_LO : Fld := ⟨0x120, 0, 32⟩
def Reg.KTL.ALARM_HI : Fld := ⟨0x124, 0, 16⟩
def Reg.KTL.KB0 : Fld := ⟨0x128, 0, 32⟩
def Reg.KTL.LOG_SRC_SRC : Fld := ⟨0x0, 0, 5⟩
def Reg.KTL.LOG_SRC_VALID : Fld := ⟨0x0, 31, 1⟩
def Reg.KTL.LOG_SEC_LO : Fld := ⟨0x4, 0, 32⟩
def Reg.KTL.LOG_SEC_HI : Fld := ⟨0x8, 0, 16⟩
def Reg.KTL.LOG_KVALID : Fld := ⟨0xC, 0, 1⟩
-- R480 (18_faults_selftest_access.md)
def Reg.FLT.FCTRL_ERR_C0 : Fld := ⟨0x100, 0, 1⟩
def Reg.FLT.FCTRL_LOG_C0 : Fld := ⟨0x100, 1, 1⟩
def Reg.FLT.FCTRL_AUTO_HRST : Fld := ⟨0x100, 2, 1⟩
def Reg.FLT.FSTAT_ERR : Fld := ⟨0x104, 0, 1⟩
def Reg.FLT.FSTAT_FATAL : Fld := ⟨0x104, 1, 1⟩
def Reg.FLT.FSTAT_OTHER_DOWN : Fld := ⟨0x104, 2, 1⟩
def Reg.FLT.FSTAT_PARKED : Fld := ⟨0x104, 3, 1⟩
def Reg.FLT.FSTAT_FIRST_VALID : Fld := ⟨0x104, 4, 1⟩
def Reg.FLT.FSTAT_C2CNT : Fld := ⟨0x104, 8, 4⟩
def Reg.FLT.OTHER_RST : Fld := ⟨0x108, 0, 1⟩
def Reg.FLT.FIRST_SRC : Fld := ⟨0x10C, 0, 32⟩
def Reg.FLT.FIRST_NSEC : Fld := ⟨0x110, 0, 30⟩
def Reg.FLT.FIRST_SEC_LO : Fld := ⟨0x114, 0, 32⟩
def Reg.FLT.FIRST_SEC_HI_SEC : Fld := ⟨0x118, 0, 16⟩
def Reg.FLT.FIRST_SEC_HI_SEQ : Fld := ⟨0x118, 16, 16⟩
def Reg.FLT.FCLR_FIRST : Fld := ⟨0x11C, 0, 1⟩
def Reg.FLT.FCLR_LOST : Fld := ⟨0x11C, 1, 1⟩
def Reg.FLT.LPTR_LWR : Fld := ⟨0x120, 0, 16⟩
def Reg.FLT.LPTR_LRD : Fld := ⟨0x120, 16, 16⟩
def Reg.FLT.LOST_N : Fld := ⟨0x124, 0, 16⟩
def Reg.FLT.LOST_FIRST_LOST_SEQ : Fld := ⟨0x124, 16, 16⟩
def Reg.FLT.CNT_C : Fld := ⟨0x128, 0, 32⟩
-- R481 (18_faults_selftest_access.md)
def Reg.BST.BTARGET_TYPE : Fld := ⟨0x100, 0, 8⟩
def Reg.BST.BTARGET_INDEX : Fld := ⟨0x100, 8, 4⟩
def Reg.BST.BTARGET_MODE : Fld := ⟨0x100, 12, 2⟩
def Reg.BST.BTARGET_REPAIR : Fld := ⟨0x100, 14, 1⟩
def Reg.BST.BTARGET_SAVE : Fld := ⟨0x100, 15, 1⟩
def Reg.BST.BCTRL_GO : Fld := ⟨0x104, 0, 1⟩
def Reg.BST.BCTRL_ABORT : Fld := ⟨0x104, 1, 1⟩
def Reg.BST.BSTAT_STATE : Fld := ⟨0x108, 0, 2⟩
def Reg.BST.BSTAT_RESULT : Fld := ⟨0x108, 4, 2⟩
def Reg.BST.BSTAT_REFUSE : Fld := ⟨0x108, 8, 4⟩
def Reg.BST.BSTAT_NFAIL : Fld := ⟨0x108, 16, 16⟩
def Reg.BST.FAIL0_MEM : Fld := ⟨0x10C, 0, 8⟩
def Reg.BST.FAIL0_BIT : Fld := ⟨0x10C, 8, 8⟩
def Reg.BST.FAIL1 : Fld := ⟨0x110, 0, 24⟩
def Reg.BST.SPARES_USED : Fld := ⟨0x114, 0, 8⟩
def Reg.BST.SPARES_EXHAUSTED : Fld := ⟨0x114, 8, 8⟩
def Reg.BST.TTIME : Fld := ⟨0x118, 0, 32⟩
-- R482 (18_faults_selftest_access.md)
def Reg.LCS.TPOL_TIMING_ON : Fld := ⟨0x104, 0, 1⟩
def Reg.LCS.LSTATE_STATE : Fld := ⟨0x100, 0, 3⟩
def Reg.LCS.LSTATE_SESSION : Fld := ⟨0x100, 4, 1⟩
def Reg.LCS.LSTATE_OWNER_SET : Fld := ⟨0x100, 5, 1⟩
def Reg.LCS.LSTATE_TAMPER_LOCK : Fld := ⟨0x100, 6, 1⟩
def Reg.LCS.LSTATE_FAILS : Fld := ⟨0x100, 8, 4⟩
def Reg.LCS.LSTATE_LOCKOUT : Fld := ⟨0x100, 12, 1⟩
def Reg.LCS.LSTATE_CHAL_OUT : Fld := ⟨0x100, 13, 1⟩
def Reg.LCS.TPOL : Fld := ⟨0x104, 0, 1⟩
def Reg.LCS.OWNPUB : Fld := ⟨0x110, 0, 32⟩
-- R492 (19_counters_telemetry.md)
def Reg.PRF.GCTRL_EN : Fld := ⟨0x100, 0, 1⟩
def Reg.PRF.GCTRL_TEL : Fld := ⟨0x100, 1, 1⟩
def Reg.PRF.GCTRL_PERIOD : Fld := ⟨0x100, 16, 16⟩
def Reg.PRF.RING_LO : Fld := ⟨0x104, 0, 32⟩
def Reg.PRF.RING_HI : Fld := ⟨0x108, 0, 32⟩
def Reg.PRF.SIZE : Fld := ⟨0x10C, 0, 16⟩
def Reg.PRF.WPTR : Fld := ⟨0x110, 0, 16⟩
def Reg.PRF.RPTR : Fld := ⟨0x114, 0, 16⟩
def Reg.PRF.SKIPPED : Fld := ⟨0x118, 0, 32⟩
def Reg.PRF.LIST_INDEX : Fld := ⟨0x140, 0, 4⟩
def Reg.PRF.LIST_TYPE : Fld := ⟨0x140, 8, 8⟩
def Reg.PRF.LIST_VALID : Fld := ⟨0x140, 31, 1⟩
-- R495 (19_counters_telemetry.md)
def Reg.TEL.TCTRL : Fld := ⟨0x200, 0, 1⟩
def Reg.TEL.THI : Fld := ⟨0x204, 0, 32⟩
def Reg.TEL.TLO : Fld := ⟨0x208, 0, 32⟩
-- R512 (20_startup_reset.md)
def Reg.SYS.START_STAT_PHASE : Fld := ⟨0x110, 0, 4⟩
def Reg.SYS.START_STAT_SEEDED : Fld := ⟨0x110, 4, 1⟩
def Reg.SYS.START_STAT_PATCHED : Fld := ⟨0x110, 5, 1⟩
def Reg.SYS.START_STAT_PATCH_SLOT : Fld := ⟨0x110, 6, 1⟩
def Reg.SYS.START_STAT_PATCH_REJECT : Fld := ⟨0x110, 7, 1⟩
def Reg.SYS.START_STAT_CAUSE : Fld := ⟨0x110, 8, 2⟩
def Reg.SYS.START_STAT_HALVES : Fld := ⟨0x110, 10, 2⟩
def Reg.SYS.START_STAT_IMG_BAD : Fld := ⟨0x110, 12, 1⟩
def Reg.SYS.START_STAT_IMG_SKIP : Fld := ⟨0x110, 16, 8⟩
def Reg.SYS.START_TIME : Fld := ⟨0x114, 0, 32⟩
def Reg.SYS.STARTCFG : Fld := ⟨0x118, 0, 16⟩
def Reg.SYS.RST_WARM : Fld := ⟨0x11C, 0, 1⟩
def Reg.SYS.RST_KEY : Fld := ⟨0x11C, 16, 16⟩
-- R529 (22_page_maps.md)
def Reg.HDM.QCFG_EN : Fld := ⟨0x0, 0, 1⟩
def Reg.HDM.QCFG_LOG2N : Fld := ⟨0x0, 8, 4⟩
def Reg.HDM.QCFG_CLASS : Fld := ⟨0x0, 16, 3⟩
def Reg.HDM.BASE_LO : Fld := ⟨0x4, 0, 32⟩
def Reg.HDM.BASE_HI : Fld := ⟨0x8, 0, 32⟩
def Reg.HDM.PROD : Fld := ⟨0xC, 0, 16⟩
def Reg.HDM.CONS : Fld := ⟨0x10, 0, 16⟩
def Reg.HDM.QSTAT_ACTIVE : Fld := ⟨0x14, 0, 1⟩
def Reg.HDM.QSTAT_STOPPED : Fld := ⟨0x14, 1, 1⟩
def Reg.HDM.QSTAT_BUSY : Fld := ⟨0x14, 2, 1⟩
def Reg.HDM.QSTAT_CREDIT_WAIT : Fld := ⟨0x14, 3, 1⟩
def Reg.HDM.QSTAT_ERR : Fld := ⟨0x14, 8, 4⟩
def Reg.HDM.QTHR : Fld := ⟨0x18, 0, 16⟩
def Reg.HDM.FRAMES : Fld := ⟨0x1C, 0, 32⟩
def Reg.HDM.QERRS : Fld := ⟨0x20, 0, 32⟩
def Reg.HDM.HSTAT : Fld := ⟨0x508, 0, 1⟩

/-- Writable bits and reset values of the SYS page, from its map. -/
def Reg.SYS.rows : List RegRow :=
  [⟨0x100, 1, 0x0, 1, 0x0, 0x0, 0x825600B0⟩,
   ⟨0x10C, 1, 0x0, 1, 0x0, 0x3FFFF, 0x1⟩,
   ⟨0x118, 1, 0x0, 1, 0x0, 0xFFFF, 0x3E8⟩]

/-- Writable bits and reset values of the EVC page, from its map. -/
def Reg.EVC.rows : List RegRow :=
  [⟨0x200, 32, 0x4, 1, 0x0, 0xFFFF, 0x0⟩,
   ⟨0x100, 64, 0x4, 1, 0x0, 0x7F7F7F7F, 0x0⟩]

/-- Writable bits and reset values of the MBX page, from its map. -/
def Reg.MBX.rows : List RegRow :=
  [⟨0x100, 1, 0x0, 1, 0x0, 0xFFFFFFFF, 0x0⟩,
   ⟨0x10C, 1, 0x0, 1, 0x0, 0xFFFF, 0x3E8⟩,
   ⟨0x200, 64, 0x4, 1, 0x0, 0xFFFFFFFF, 0x0⟩]

/-- Writable bits and reset values of the PMU page, from its map. -/
def Reg.PMU.rows : List RegRow :=
  [⟨0x100, 1, 0x0, 1, 0x0, 0xF3, 0x0⟩,
   ⟨0x104, 1, 0x0, 1, 0x0, 0xFFFFFFFF, 0x32002A8⟩,
   ⟨0x108, 1, 0x0, 1, 0x0, 0xFFFF, 0x2D0⟩,
   ⟨0x10C, 1, 0x0, 1, 0x0, 0xFF, 0xA⟩,
   ⟨0x114, 1, 0x0, 1, 0x0, 0xFF, 0x18⟩]

/-- Writable bits and reset values of the KTL page, from its map. -/
def Reg.KTL.rows : List RegRow :=
  [⟨0x100, 1, 0x0, 1, 0x0, 0x1, 0x0⟩,
   ⟨0x108, 1, 0x0, 1, 0x0, 0xFFFFFFFF, 0xFFFF⟩,
   ⟨0x118, 1, 0x0, 1, 0x0, 0x0, 0xFFFFFFFF⟩,
   ⟨0x120, 1, 0x0, 1, 0x0, 0xFFFFFFFF, 0x0⟩,
   ⟨0x124, 1, 0x0, 1, 0x0, 0xFFFF, 0x0⟩,
   ⟨0x128, 1, 0x0, 1, 0x0, 0x0, 0xFFFFFFFF⟩]

/-- Writable bits and reset values of the FLT page, from its map. -/
def Reg.FLT.rows : List RegRow :=
  [⟨0x100, 1, 0x0, 1, 0x0, 0x7, 0x4⟩,
   ⟨0x120, 1, 0x0, 1, 0x0, 0xFFFF0000, 0x0⟩]

/-- Writable bits and reset values of the BST page, from its map. -/
def Reg.BST.rows : List RegRow :=
  [⟨0x100, 1, 0x0, 1, 0x0, 0xFFFF, 0x7000⟩]

/-- Writable bits and reset values of the LCS page, from its map. -/
def Reg.LCS.rows : List RegRow :=
  [⟨0x104, 1, 0x0, 1, 0x0, 0x1, 0x1⟩]

/-- Writable bits and reset values of the PRF page, from its map. -/
def Reg.PRF.rows : List RegRow :=
  [⟨0x100, 1, 0x0, 1, 0x0, 0xFFFF0003, 0x3E80000⟩,
   ⟨0x104, 1, 0x0, 1, 0x0, 0xFFFFFFFF, 0x0⟩,
   ⟨0x108, 1, 0x0, 1, 0x0, 0xFFFFFFFF, 0x0⟩,
   ⟨0x10C, 1, 0x0, 1, 0x0, 0xFFFF, 0x10⟩,
   ⟨0x114, 1, 0x0, 1, 0x0, 0xFFFF, 0x0⟩,
   ⟨0x140, 64, 0x4, 1, 0x0, 0x8000FF0F, 0x0⟩]

/-- Writable bits and reset values of the TEL page, from its map. -/
def Reg.TEL.rows : List RegRow :=
  [⟨0x204, 1, 0x0, 1, 0x0, 0xFFFFFFFF, 0x186A0⟩,
   ⟨0x208, 1, 0x0, 1, 0x0, 0xFFFFFFFF, 0x17318⟩]

/-- Writable bits and reset values of the REF page, from its map. -/
def Reg.REF.rows : List RegRow :=
  [⟨0x100, 8, 0x40, 1, 0x0, 0x3FFF, 0x3FE0⟩,
   ⟨0x104, 8, 0x40, 1, 0x0, 0xFFFFFFFF, 0x989680⟩,
   ⟨0x108, 8, 0x40, 1, 0x0, 0xFFFFFFFF, 0x0⟩,
   ⟨0x10C, 8, 0x40, 1, 0x0, 0xFFFFFFFF, 0xFFFFFFFF⟩,
   ⟨0x110, 8, 0x40, 1, 0x0, 0xFFFFFFFF, 0x0⟩,
   ⟨0x114, 8, 0x40, 1, 0x0, 0xFFFFFFFF, 0x2EE02328⟩,
   ⟨0x118, 8, 0x40, 1, 0x0, 0xFFFFFF, 0x80004⟩,
   ⟨0x11C, 8, 0x40, 1, 0x0, 0xFFFF, 0xA⟩,
   ⟨0x120, 8, 0x40, 1, 0x0, 0x0, 0xFFF0000⟩]

/-- Writable bits and reset values of the SEL page, from its map. -/
def Reg.SEL.rows : List RegRow :=
  [⟨0x100, 16, 0x40, 1, 0x0, 0x1F0F, 0xC⟩,
   ⟨0x104, 16, 0x40, 1, 0x0, 0x3FFFFFFF, 0x0⟩,
   ⟨0x108, 16, 0x40, 1, 0x0, 0x3FFFFFF, 0x14012C⟩,
   ⟨0x10C, 16, 0x40, 1, 0x0, 0xFFFF, 0x64⟩,
   ⟨0x110, 16, 0x40, 1, 0x0, 0x0, 0x3F1F⟩,
   ⟨0x120, 16, 0x40, 1, 0x0, 0x0, 0x1F0000⟩,
   ⟨0x500, 1, 0x0, 1, 0x0, 0xFFFFFFFF, 0x400032⟩,
   ⟨0x510, 4, 0x4, 1, 0x0, 0x333F, 0x0⟩]

/-- Writable bits and reset values of the DPL page, from its map. -/
def Reg.DPL.rows : List RegRow :=
  [⟨0x100, 4, 0x80, 1, 0x0, 0x33, 0x22⟩,
   ⟨0x104, 4, 0x80, 4, 0x4, 0x1F, 0x0⟩,
   ⟨0x114, 4, 0x80, 1, 0x0, 0xFFFFFFFF, 0x10002710⟩,
   ⟨0x118, 4, 0x80, 1, 0x0, 0x3FF, 0xA⟩,
   ⟨0x11C, 4, 0x80, 1, 0x0, 0x1FF, 0xC8⟩,
   ⟨0x120, 4, 0x80, 1, 0x0, 0x0, 0x1F0000⟩,
   ⟨0x300, 1, 0x0, 1, 0x0, 0x1F, 0xA⟩]

/-- Writable bits and reset values of the HLD page, from its map. -/
def Reg.HLD.rows : List RegRow :=
  [⟨0x100, 1, 0x0, 1, 0x0, 0xFF3, 0x313⟩,
   ⟨0x104, 1, 0x0, 1, 0x0, 0xFFFFFFFF, 0x7080⟩,
   ⟨0x108, 1, 0x0, 1, 0x0, 0xFFFFFFFF, 0xFFFFFFFF⟩,
   ⟨0x10C, 1, 0x0, 1, 0x0, 0xFFFF1F, 0x3C04⟩,
   ⟨0x110, 1, 0x0, 1, 0x0, 0xFFFFFFFF, 0x1800A8⟩,
   ⟨0x114, 1, 0x0, 1, 0x0, 0xFFFF, 0x64⟩,
   ⟨0x118, 1, 0x0, 1, 0x0, 0x0, 0xF800⟩]

/-- Writable bits and reset values of the APL page, from its map. -/
def Reg.APL.rows : List RegRow :=
  [⟨0x100, 2, 0x200, 1, 0x0, 0xF0F, 0x0⟩,
   ⟨0x104, 2, 0x200, 1, 0x0, 0xFFFFFFFF, 0x0⟩,
   ⟨0x108, 2, 0x200, 1, 0x0, 0xFFFFFFFF, 0x0⟩,
   ⟨0x10C, 2, 0x200, 1, 0x0, 0xFFF, 0x0⟩,
   ⟨0x140, 2, 0x200, 16, 0x10, 0xC03F0FFF, 0x0⟩,
   ⟨0x144, 2, 0x200, 16, 0x10, 0xFFFFFFFF, 0x0⟩,
   ⟨0x148, 2, 0x200, 16, 0x10, 0xFFFFFFFF, 0x1⟩,
   ⟨0x500, 1, 0x0, 1, 0x0, 0xFF1F1FF3, 0x40100200⟩,
   ⟨0x504, 1, 0x0, 1, 0x0, 0xFFFFFF, 0x10000⟩,
   ⟨0x508, 1, 0x0, 1, 0x0, 0xFFFFFFFF, 0x0⟩,
   ⟨0x50C, 1, 0x0, 1, 0x0, 0xFFFFFF, 0x0⟩,
   ⟨0x510, 1, 0x0, 1, 0x0, 0xFFFFFF, 0xFFFFFF⟩] ++
  [⟨0x514, 1, 0x0, 1, 0x0, 0xFFFFFF, 0x8000⟩,
   ⟨0x518, 1, 0x0, 1, 0x0, 0x0, 0x1⟩]

/-- Writable bits and reset values of the OUT page, from its map. -/
def Reg.OUT.rows : List RegRow :=
  [⟨0x100, 8, 0x40, 1, 0x0, 0xFFFF7, 0x2004⟩,
   ⟨0x104, 8, 0x40, 1, 0x0, 0xFFFFFFFF, 0x1F4⟩,
   ⟨0x108, 8, 0x40, 1, 0x0, 0x3, 0x0⟩,
   ⟨0x10C, 8, 0x40, 1, 0x0, 0xFFFF, 0x0⟩,
   ⟨0x110, 8, 0x40, 1, 0x0, 0xFFFF, 0x1F4⟩,
   ⟨0x114, 8, 0x40, 1, 0x0, 0x0, 0x10⟩]

/-- Writable bits and reset values of the TSU page, from its map. -/
def Reg.TSU.rows : List RegRow :=
  [⟨0x100, 4, 0x80, 1, 0x0, 0x1F3, 0x0⟩,
   ⟨0x12C, 4, 0x80, 1, 0x0, 0x0, 0xFFFFFFFF⟩,
   ⟨0x130, 4, 0x80, 1, 0x0, 0xFFFFFFFF, 0x0⟩,
   ⟨0x134, 4, 0x80, 1, 0x0, 0xFFFF, 0x0⟩,
   ⟨0x138, 4, 0x80, 1, 0x0, 0xFFFFFFFF, 0x0⟩,
   ⟨0x13C, 4, 0x80, 1, 0x0, 0xFFFF, 0x0⟩,
   ⟨0x140, 4, 0x80, 1, 0x0, 0xFFFF, 0x2710⟩,
   ⟨0x154, 4, 0x80, 1, 0x0, 0x3FFFFFFF, 0x0⟩,
   ⟨0x158, 4, 0x80, 1, 0x0, 0xFFFFFFFF, 0x0⟩,
   ⟨0x15C, 4, 0x80, 1, 0x0, 0xFFFF, 0x0⟩,
   ⟨0x160, 4, 0x80, 1, 0x0, 0x3FFF, 0x5A0⟩,
   ⟨0x300, 1, 0x0, 1, 0x0, 0x2, 0x0⟩] ++
  [⟨0x304, 1, 0x0, 1, 0x0, 0xFFFF, 0x0⟩,
   ⟨0x310, 8, 0x10, 1, 0x0, 0xFFFFFFFF, 0x0⟩,
   ⟨0x314, 8, 0x10, 1, 0x0, 0xFFFF, 0x0⟩,
   ⟨0x318, 8, 0x10, 1, 0x0, 0x8000FFFF, 0x0⟩]

/-- Writable bits and reset values of the TDC page, from its map. -/
def Reg.TDC.rows : List RegRow :=
  [⟨0x100, 16, 0x20, 1, 0x0, 0x1FFFFFFF, 0x804000⟩,
   ⟨0x104, 16, 0x20, 1, 0x0, 0x3FF, 0xE1⟩,
   ⟨0x108, 16, 0x20, 1, 0x0, 0xFFFFFF, 0x0⟩,
   ⟨0x10C, 16, 0x20, 1, 0x0, 0xFFFF0000, 0x0⟩,
   ⟨0x300, 1, 0x0, 1, 0x0, 0xF, 0x0⟩]

/-- Writable bits and reset values of the TTA page, from its map. -/
def Reg.TTA.rows : List RegRow :=
  [⟨0x200, 64, 0x20, 1, 0x0, 0xFF0FF3, 0x0⟩,
   ⟨0x204, 64, 0x20, 1, 0x0, 0x3FFFFFFF, 0x0⟩,
   ⟨0x208, 64, 0x20, 1, 0x0, 0xFFFFFFFF, 0x0⟩,
   ⟨0x20C, 64, 0x20, 1, 0x0, 0xFFFF, 0x0⟩,
   ⟨0x210, 64, 0x20, 1, 0x0, 0x3FFFFFFF, 0x0⟩,
   ⟨0x214, 64, 0x20, 1, 0x0, 0xFFFFFFFF, 0x0⟩,
   ⟨0x218, 64, 0x20, 1, 0x0, 0xFFFFFFFF, 0x0⟩,
   ⟨0xA00, 64, 0x4, 1, 0x0, 0xFFFFFFFF, 0x0⟩]

/-- Writable bits and reset values of the BND page, from its map. -/
def Reg.BND.rows : List RegRow :=
  [⟨0x100, 16, 0x20, 1, 0x0, 0xFFFFFFFF, 0x64000A⟩,
   ⟨0x104, 16, 0x20, 1, 0x0, 0xFFFFFFFF, 0xFFFFFFFF⟩,
   ⟨0x108, 16, 0x20, 1, 0x0, 0xFFFFFFFF, 0x0⟩,
   ⟨0x10C, 16, 0x20, 1, 0x0, 0x0, 0xFFFFFFFF⟩,
   ⟨0x118, 16, 0x20, 1, 0x0, 0x0, 0x1F10⟩,
   ⟨0x304, 1, 0x0, 1, 0x0, 0xFFFFFF, 0x0⟩,
   ⟨0x308, 1, 0x0, 1, 0x0, 0x7F, 0x10⟩]

/-- Writable bits and reset values of the GNF page, from its map. -/
def Reg.GNF.rows : List RegRow :=
  [⟨0x100, 4, 0x100, 1, 0x0, 0x3F, 0x20⟩,
   ⟨0x104, 4, 0x100, 1, 0x0, 0xFFFFFFFF, 0x0⟩,
   ⟨0x108, 4, 0x100, 1, 0x0, 0xFFFFFFFF, 0x0⟩,
   ⟨0x10C, 4, 0x100, 1, 0x0, 0xFFFFF3FF, 0x4152⟩,
   ⟨0x110, 4, 0x100, 1, 0x0, 0xFFFFFF, 0x3C0C28⟩,
   ⟨0x114, 4, 0x100, 1, 0x0, 0x0, 0x2000000⟩,
   ⟨0x140, 4, 0x100, 8, 0x10, 0x1F, 0xC⟩,
   ⟨0x144, 4, 0x100, 8, 0x10, 0xFFFFFF, 0x0⟩,
   ⟨0x148, 4, 0x100, 8, 0x10, 0xFFFFFF, 0x800000⟩,
   ⟨0x508, 1, 0x0, 1, 0x0, 0x1FF, 0x105⟩,
   ⟨0x50C, 1, 0x0, 1, 0x0, 0x1, 0x0⟩,
   ⟨0x500, 1, 0x0, 1, 0x0, 0x77777777, 0x55555555⟩] ++
  [⟨0x504, 1, 0x0, 1, 0x0, 0x77777777, 0x55555555⟩]

/-- Writable bits and reset values of the GNA page, from its map. -/
def Reg.GNA.rows : List RegRow :=
  [⟨0x100, 1, 0x0, 1, 0x0, 0x1, 0x1⟩,
   ⟨0x104, 1, 0x0, 1, 0x0, 0xFFFF7FFF, 0x0⟩,
   ⟨0x108, 1, 0x0, 1, 0x0, 0xFFFFFFFF, 0x0⟩,
   ⟨0x10C, 1, 0x0, 1, 0x0, 0xFFFFFFFF, 0x0⟩,
   ⟨0x110, 1, 0x0, 1, 0x0, 0xFFFFFFFF, 0x1F41388⟩,
   ⟨0x114, 1, 0x0, 1, 0x0, 0xFF07FF, 0x300141⟩]

/-- Writable bits and reset values of the GNT page, from its map. -/
def Reg.GNT.rows : List RegRow :=
  [⟨0x100, 32, 0x40, 1, 0x0, 0x1, 0x0⟩,
   ⟨0x104, 32, 0x40, 1, 0x0, 0x3F77, 0x1432⟩,
   ⟨0x108, 32, 0x40, 1, 0x0, 0x7F7F7F, 0x62006⟩]

/-- Writable bits and reset values of the GNS page, from its map. -/
def Reg.GNS.rows : List RegRow :=
  [⟨0x100, 1, 0x0, 1, 0x0, 0xFF03FF, 0x503F1⟩,
   ⟨0x104, 1, 0x0, 1, 0x0, 0xFFFFFFFF, 0x640168⟩,
   ⟨0x108, 3, 0x8, 1, 0x0, 0xFFFFFFFF, 0x0⟩,
   ⟨0x10C, 3, 0x8, 1, 0x0, 0xFFFF, 0x0⟩,
   ⟨0x120, 1, 0x0, 1, 0x0, 0xFFFFFFFF, 0xFFFFFFFF⟩,
   ⟨0x124, 1, 0x0, 1, 0x0, 0xFFFFFFFF, 0xFFFFFFFF⟩,
   ⟨0x128, 4, 0x4, 1, 0x0, 0xFFFFFFFF, 0x0⟩,
   ⟨0x140, 16, 0x4, 1, 0x0, 0xFFFFFFFF, 0x0⟩,
   ⟨0x180, 1, 0x0, 1, 0x0, 0xFF7F, 0x1E3F⟩,
   ⟨0x184, 1, 0x0, 1, 0x0, 0xFFFFFFFF, 0x1E03E8⟩,
   ⟨0x188, 1, 0x0, 1, 0x0, 0xFFFFFFFF, 0x180F07D0⟩,
   ⟨0x1B0, 1, 0x0, 1, 0x0, 0x1FFFF, 0x0⟩] ++
  [⟨0x200, 1, 0x0, 1, 0x0, 0x1FF, 0xA1⟩,
   ⟨0x20C, 1, 0x0, 1, 0x0, 0x7FF, 0x0⟩,
   ⟨0x29C, 1, 0x0, 1, 0x0, 0xFFFF, 0x64⟩]

/-- Writable bits and reset values of the MAC page, from its map. -/
def Reg.MAC.rows : List RegRow :=
  [⟨0x140, 1, 0x0, 1, 0x0, 0xFF0F, 0xFF01⟩,
   ⟨0x144, 1, 0x0, 1, 0x0, 0x3FFF, 0x5F2⟩]

/-- Writable bits and reset values of the PCS page, from its map. -/
def Reg.PCS.rows : List RegRow :=
  [⟨0x100, 1, 0x0, 1, 0x0, 0x3F7, 0x0⟩,
   ⟨0x104, 1, 0x0, 1, 0x0, 0xFFFF, 0xA⟩,
   ⟨0x114, 1, 0x0, 1, 0x0, 0xFFFFFFFF, 0x0⟩,
   ⟨0x120, 1, 0x0, 1, 0x0, 0xFFFFFFFF, 0x0⟩,
   ⟨0x124, 1, 0x0, 1, 0x0, 0x0, 0xF2FF0F⟩,
   ⟨0x128, 1, 0x0, 1, 0x0, 0xFFF1, 0xF00FFF1⟩,
   ⟨0x12C, 1, 0x0, 1, 0x0, 0x7, 0x5⟩]

/-- Writable bits and reset values of the SWC page, from its map. -/
def Reg.SWC.rows : List RegRow :=
  [⟨0x100, 5, 0x20, 1, 0x0, 0x1FF0F, 0x10008⟩,
   ⟨0x108, 5, 0x20, 1, 0x0, 0xFFFFFFFF, 0x0⟩,
   ⟨0x10C, 5, 0x20, 1, 0x0, 0x3FFF3FFF, 0x8001000⟩,
   ⟨0x200, 1, 0x0, 1, 0x0, 0x1FFF0003, 0x7D00000⟩,
   ⟨0x204, 1, 0x0, 1, 0x0, 0xFFFF, 0x64⟩,
   ⟨0x208, 1, 0x0, 1, 0x0, 0x1F, 0x0⟩,
   ⟨0x20C, 1, 0x0, 1, 0x0, 0x0, 0x4000⟩,
   ⟨0x210, 1, 0x0, 1, 0x0, 0x7FFF, 0x400⟩,
   ⟨0x104, 5, 0x20, 1, 0x0, 0xFFFFFF, 0xFAC688⟩]

/-- Writable bits and reset values of the SWT page, from its map. -/
def Reg.SWT.rows : List RegRow :=
  [⟨0x100, 5, 0x80, 8, 0x10, 0x3FF3FFF, 0x10800⟩]

/-- Writable bits and reset values of the LGT page, from its map. -/
def Reg.LGT.rows : List RegRow :=
  [⟨0x130, 4, 0x40, 1, 0x0, 0x3FF0000, 0x10000⟩,
   ⟨0x134, 4, 0x40, 1, 0x0, 0x0, 0x2000000⟩]

/-- Writable bits and reset values of the TRS page, from its map. -/
def Reg.TRS.rows : List RegRow :=
  [⟨0x3A0, 4, 0x40, 1, 0x0, 0xFF03FFF7, 0x300⟩,
   ⟨0x3A4, 4, 0x40, 1, 0x0, 0xFFFFFFFF, 0x12C0100⟩,
   ⟨0x3A8, 4, 0x40, 4, 0x4, 0xFFFFFFFF, 0x0⟩,
   ⟨0x3B8, 4, 0x40, 1, 0x0, 0xFFFFFFFF, 0x0⟩,
   ⟨0x3BC, 4, 0x40, 1, 0x0, 0xFFFF, 0x0⟩,
   ⟨0x100, 1, 0x0, 1, 0x0, 0x1FFF, 0x5DC⟩,
   ⟨0x104, 1, 0x0, 1, 0x0, 0x1, 0x0⟩,
   ⟨0x108, 1, 0x0, 1, 0x0, 0x3FFF, 0x2E40⟩,
   ⟨0x10C, 1, 0x0, 1, 0x0, 0xFFFF, 0xA4E3⟩,
   ⟨0x110, 1, 0x0, 1, 0x0, 0xFFFFFFFF, 0x0⟩,
   ⟨0x114, 1, 0x0, 1, 0x0, 0xFFFFFFFF, 0x0⟩,
   ⟨0x118, 1, 0x0, 1, 0x0, 0x1FF, 0x100⟩] ++
  [⟨0x11C, 1, 0x0, 1, 0x0, 0x11FFF, 0x7D0⟩,
   ⟨0x120, 1, 0x0, 1, 0x0, 0xFFFFFFFF, 0x0⟩,
   ⟨0x124, 1, 0x0, 1, 0x0, 0xFFFFFFFF, 0x0⟩,
   ⟨0x140, 16, 0x20, 1, 0x0, 0xFF7FFF, 0x0⟩,
   ⟨0x144, 16, 0x20, 1, 0x0, 0xFFFFFF, 0x100⟩,
   ⟨0x148, 16, 0x20, 1, 0x0, 0xF, 0x0⟩,
   ⟨0x14C, 16, 0x20, 1, 0x0, 0x1FF, 0x0⟩,
   ⟨0x150, 16, 0x20, 1, 0x0, 0xFFFFFFFF, 0xFDF9012C⟩,
   ⟨0x154, 16, 0x20, 1, 0x0, 0xFFFF, 0x8080⟩,
   ⟨0x340, 4, 0x8, 1, 0x0, 0x1FFF, 0x0⟩]

/-- Writable bits and reset values of the TRSA page, from its map. -/
def Reg.TRSA.rows : List RegRow :=
  [⟨0x100, 64, 0x20, 4, 0x4, 0xFFFFFFFF, 0x0⟩,
   ⟨0x110, 64, 0x20, 1, 0x0, 0xFFFFFFFF, 0x0⟩,
   ⟨0x114, 64, 0x20, 1, 0x0, 0x1FFFFFFF, 0x0⟩,
   ⟨0x118, 64, 0x20, 1, 0x0, 0x7FFFFFF, 0x0⟩,
   ⟨0x11C, 64, 0x20, 1, 0x0, 0x800000FF, 0x0⟩]

/-- Writable bits and reset values of the GRT page, from its map. -/
def Reg.GRT.rows : List RegRow :=
  [⟨0x118, 1, 0x0, 1, 0x0, 0x7F, 0x0⟩,
   ⟨0x11C, 1, 0x0, 1, 0x0, 0xFFF, 0x0⟩]

/-- Writable bits and reset values of the RLT page, from its map. -/
def Reg.RLT.rows : List RegRow :=
  [⟨0x100, 4, 0x10, 1, 0x0, 0xFFFFF, 0x0⟩,
   ⟨0x104, 4, 0x10, 1, 0x0, 0xFFFF, 0x20⟩,
   ⟨0x108, 4, 0x10, 1, 0x0, 0xFF01FFFF, 0xA004020⟩,
   ⟨0x140, 4, 0x4, 1, 0x0, 0xFFFFFFFF, 0x0⟩]

/-- Writable bits and reset values of the HDM page, from its map. -/
def Reg.HDM.rows : List RegRow :=
  [⟨0x100, 16, 0x40, 1, 0x0, 0x70F01, 0x400⟩,
   ⟨0x104, 16, 0x40, 1, 0x0, 0xFFFFFFFF, 0x0⟩,
   ⟨0x108, 16, 0x40, 1, 0x0, 0xFFFFFFFF, 0x0⟩,
   ⟨0x10C, 16, 0x40, 1, 0x0, 0xFFFF, 0x0⟩,
   ⟨0x118, 16, 0x40, 1, 0x0, 0xFFFF, 0x1⟩,
   ⟨0x500, 2, 0x4, 1, 0x0, 0xFFFF, 0xFA50⟩]

/-- Writable bits and reset values of the CAD page, from its map. -/
def Reg.CAD.rows : List RegRow :=
  [⟨0x104, 1, 0x0, 1, 0x0, 0xFFFFFFFF, 0xFFFFFFFF⟩,
   ⟨0x108, 1, 0x0, 1, 0x0, 0xFF, 0x0⟩,
   ⟨0x180, 1, 0x0, 1, 0x0, 0x1FFFF, 0x0⟩]

/-- Writable bits and reset values of the AEG page, from its map. -/
def Reg.AEG.rows : List RegRow :=
  [⟨0x100, 8, 0x10, 1, 0x0, 0x1FFFF, 0x1FFFF⟩,
   ⟨0x104, 8, 0x10, 1, 0x0, 0x0, 0x1⟩]

/-- Writable bits and reset values of the RED page, from its map. -/
def Reg.RED.rows : List RegRow :=
  [⟨0x100, 1, 0x0, 1, 0x0, 0xFFFFFFFF, 0x3C003C⟩,
   ⟨0x104, 1, 0x0, 1, 0x0, 0xFFFF300F, 0x32141001⟩,
   ⟨0x110, 1, 0x0, 1, 0x0, 0xFFFF0073, 0x10000⟩,
   ⟨0x114, 1, 0x0, 1, 0x0, 0xFFF03, 0xC800⟩,
   ⟨0x118, 1, 0x0, 1, 0x0, 0xFFFF, 0x12C⟩,
   ⟨0x11C, 1, 0x0, 1, 0x0, 0x0, 0x411⟩,
   ⟨0x108, 1, 0x0, 1, 0x0, 0xFFFFFFFF, 0x0⟩,
   ⟨0x10C, 1, 0x0, 1, 0x0, 0xFFFFFF, 0x0⟩]

/-- Writable bits and reset values of the SLV page, from its map. -/
def Reg.SLV.rows : List RegRow :=
  [⟨0x100, 2, 0x80, 1, 0x0, 0x1, 0x1⟩,
   ⟨0x104, 2, 0x80, 1, 0x0, 0xFFFFFFFF, 0x0⟩]

/-- The block types of R521. -/
inductive Page where
  | sys | evc | mbx | pmu | ktl | flt | bst | lcs | prf | tel
  | ref | sel | dpl | hld | apl | out | tsu | tdc | tta | bnd
  | gnf | gna | gnt | gns
  | mac | pcs | swc | swt | lgt | trs | grt | rlt | hdm
  | cad | aeg | att | red | slv
deriving DecidableEq, Repr

/-- One row of the instance table of R521: code, whether the pages are per half, the highest index, UNITS and NEVT by
index, and whether the page has a table window. -/
structure PageRow where
  page    : Page
  code    : Nat
  perHalf : Bool
  maxIdx  : Nat
  units   : List Nat
  nevt    : List Nat
  twin    : Bool
deriving DecidableEq, Repr

/-- The instance table of R521. A list shorter than the index repeats its last entry. -/
def pageTable : List PageRow :=
  [⟨.sys, 0x00, false, 0, [1], [9], false⟩, ⟨.evc, 0x01, false, 0, [256], [0], false⟩,
   ⟨.mbx, 0x02, false, 3, [1], [2], false⟩, ⟨.pmu, 0x03, true, 0, [1], [2], false⟩,
   ⟨.ktl, 0x04, false, 0, [8], [1], false⟩, ⟨.flt, 0x05, true, 0, [32], [6], false⟩,
   ⟨.bst, 0x06, true, 0, [1], [2], false⟩, ⟨.lcs, 0x07, true, 0, [1], [3], false⟩,
   ⟨.prf, 0x08, true, 0, [64], [2], false⟩, ⟨.tel, 0x09, true, 0, [16], [1], false⟩] ++
  [⟨.ref, 0x10, true, 3, [8, 8, 8, 6], [32, 32, 32, 24], false⟩, ⟨.sel, 0x11, true, 0, [16], [21], false⟩,
   ⟨.dpl, 0x12, true, 3, [4], [25, 24], false⟩, ⟨.hld, 0x13, true, 0, [1], [6], false⟩,
   ⟨.apl, 0x14, true, 0, [2], [13], false⟩, ⟨.out, 0x15, true, 1, [8, 4], [16, 8], false⟩,
   ⟨.tsu, 0x16, true, 3, [4], [27, 24], false⟩, ⟨.tdc, 0x17, true, 4, [16], [32], true⟩,
   ⟨.tta, 0x18, true, 0, [64], [2], false⟩, ⟨.bnd, 0x19, true, 0, [16], [17], false⟩] ++
  [⟨.gnf, 0x20, false, 0, [4], [16], false⟩, ⟨.gna, 0x21, false, 0, [16], [2], false⟩,
   ⟨.gnt, 0x22, false, 7, [32], [1], false⟩, ⟨.gns, 0x23, false, 0, [4], [9], true⟩,
   ⟨.mac, 0x30, true, 3, [24], [2], false⟩, ⟨.pcs, 0x31, true, 3, [4], [6], false⟩,
   ⟨.swc, 0x32, true, 0, [5], [3], true⟩, ⟨.swt, 0x33, true, 0, [40], [7], false⟩,
   ⟨.lgt, 0x34, true, 0, [4], [16], false⟩, ⟨.trs, 0x35, true, 1, [16, 64], [4, 0], false⟩] ++
  [⟨.grt, 0x36, true, 0, [4096], [2], true⟩, ⟨.rlt, 0x37, true, 0, [4], [2], false⟩,
   ⟨.hdm, 0x38, false, 0, [16], [17], false⟩, ⟨.cad, 0x40, true, 0, [256], [10], false⟩,
   ⟨.aeg, 0x41, true, 0, [8], [9], false⟩, ⟨.att, 0x42, true, 0, [1], [0], false⟩,
   ⟨.red, 0x50, true, 0, [1], [10], false⟩, ⟨.slv, 0x51, true, 0, [2], [8], false⟩]

/-- The row of a block type. -/
def pageRow (p : Page) : PageRow :=
  (pageTable.find? fun r => r.page == p).getD ⟨.sys, 0, false, 0, [1], [9], false⟩

/-- The type code of a block type (R521). -/
def Page.code : Page → Nat
  | .sys => 0x00 | .evc => 0x01 | .mbx => 0x02 | .pmu => 0x03 | .ktl => 0x04 | .flt => 0x05 | .bst => 0x06
  | .lcs => 0x07 | .prf => 0x08 | .tel => 0x09
  | .ref => 0x10 | .sel => 0x11 | .dpl => 0x12 | .hld => 0x13 | .apl => 0x14 | .out => 0x15 | .tsu => 0x16
  | .tdc => 0x17 | .tta => 0x18 | .bnd => 0x19
  | .gnf => 0x20 | .gna => 0x21 | .gnt => 0x22 | .gns => 0x23
  | .mac => 0x30 | .pcs => 0x31 | .swc => 0x32 | .swt => 0x33 | .lgt => 0x34 | .trs => 0x35 | .grt => 0x36
  | .rlt => 0x37 | .hdm => 0x38
  | .cad => 0x40 | .aeg => 0x41 | .att => 0x42 | .red => 0x50 | .slv => 0x51

/-- The block type with a code, if that code is issued. -/
def pageOfCode (c : Nat) : Option Page := (pageTable.find? fun r => r.code == c).map (·.page)

/-- An entry of a per-index list, the last one repeating. -/
def lastRepeating (l : List Nat) (i : Nat) : Nat := (l[i]?).getD (l.getLast?.getD 0)

/-- The BAR0 offset at which a page starts (R35). -/
def pageAddr (p : Page) (h : Half) (idx : Nat) : Nat := p.code * 0x10000 + h.num * 0x8000 + idx * 0x1000

/-- The page part of a BAR0 offset. -/
def pageBase (a : Nat) : Nat := a / 0x1000 * 0x1000

/-- The offset of an address within its page. -/
def pageOff (a : Nat) : Nat := a % 0x1000

/-- The block type addressed, if its code is issued. -/
def typeAt (a : Nat) : Option Page := pageOfCode (a / 0x10000 % 0x100)

/-- The half addressed. -/
def halfAt (a : Nat) : Half := Half.ofNum (a / 0x8000)

/-- The instance addressed. -/
def idxAt (a : Nat) : Nat := a / 0x1000 % 8

/-- Whether a page of the device occupies the address (R36, R521). -/
def pageExists (a : Nat) : Bool :=
  match typeAt a with
  | none => false
  | some p => decide (idxAt a ≤ (pageRow p).maxIdx) && ((pageRow p).perHalf || halfAt a == .warp)

/-- Whether the page of an address has eight counters: MAC pages only (R521). -/
def cnt8At (a : Nat) : Bool := typeAt a == some .mac

/-- The number of bytes of the common header of a page (R38, R39). -/
def headerEnd (a : Nat) : Nat := if cnt8At a then 0x130 else 0x100

/-- The number of event words a page implements (R521, R523). -/
def nevtAt (a : Nat) : Nat :=
  match typeAt a with
  | none => 0
  | some p => lastRepeating (pageRow p).nevt (idxAt a)

/-- The pages in which CTRL.ENABLE is read-only (R38). -/
def enableReadOnly (p : Page) : Bool :=
  [Page.sys, .evc, .mbx, .pmu, .ktl, .flt, .bst, .lcs, .tsu, .bnd, .hld, .cad, .att, .red].contains p

/-- The implemented event words of a page, as a bit mask: the words R59, R92, R115, R151, R178, R197, R268, R526 and
the other event lists name (R523). -/
def evtWords (p : Page) (idx : Nat) : Nat :=
  match p with
  | .sys => 0x1FF | .evc => 0 | .mbx => 0x3 | .pmu => 0x3 | .ktl => 0x1 | .flt => 0x3F | .bst => 0x3 | .lcs => 0x7
  | .prf => 0x3 | .tel => 0x1
  | .ref => if idx = 3 then 0xFFFFFF else 0xFFFFFFFF
  | .sel => 0x1FFFFF
  | .dpl => if idx = 0 then 0x3F3F3FBF else 0x3F3F3F3F
  | .hld => 0x3F | .apl => 0x13F3F
  | .out => if idx = 0 then 0xFFFF else 0xFF
  | .tsu => if idx = 0 then 0x3F3F7FFF else 0x3F3F3F3F
  | .tdc => 0xFFFFFFFF | .tta => 0x3 | .bnd => 0x1FFFF
  | .gnf => 0xFFFF | .gna => 0x3 | .gnt => 0x1 | .gns => 0x1FF
  | .mac => 0x3 | .pcs => 0x3F | .swc => 0x7 | .swt => 0x7F | .lgt => 0xFFFF
  | .trs => if idx = 0 then 0xF else 0
  | .grt => 0x3 | .rlt => 0x3 | .hdm => 0x1FFFF
  | .cad => 0x3FF | .aeg => 0x1FF | .att => 0 | .red => 0x3FF | .slv => 0xFF

/-- The capture points owned by a block: the word clocks CP24 to CP39 and CP64 to CP79 (R93). -/
def tdcOwned (idx j : Nat) : Bool :=
  let c := 16 * idx + j
  (24 ≤ c && c ≤ 39) || 64 ≤ c

/-- The row table of the page at an address. -/
def rowsAt (a : Nat) : List RegRow :=
  match typeAt a with
  | none => []
  | some p =>
    match p with
    | .sys => Reg.SYS.rows
    | .evc => Reg.EVC.rows
    | .mbx => Reg.MBX.rows
    | .pmu => Reg.PMU.rows
    | .ktl => Reg.KTL.rows
    | .flt => Reg.FLT.rows
    | .bst => Reg.BST.rows
    | .lcs => Reg.LCS.rows
    | .prf => Reg.PRF.rows
    | .tel => Reg.TEL.rows
    | .ref => Reg.REF.rows
    | .sel => Reg.SEL.rows
    | .dpl => Reg.DPL.rows
    | .hld => Reg.HLD.rows
    | .apl => Reg.APL.rows
    | .out => Reg.OUT.rows
    | .tsu => Reg.TSU.rows
    | .tdc => Reg.TDC.rows
    | .tta => Reg.TTA.rows
    | .bnd => Reg.BND.rows
    | .gnf => Reg.GNF.rows
    | .gna => Reg.GNA.rows
    | .gnt => Reg.GNT.rows
    | .gns => Reg.GNS.rows
    | .mac => Reg.MAC.rows
    | .pcs => Reg.PCS.rows
    | .swc => Reg.SWC.rows
    | .swt => Reg.SWT.rows
    | .lgt => Reg.LGT.rows
    | .grt => Reg.GRT.rows
    | .rlt => Reg.RLT.rows
    | .hdm => Reg.HDM.rows
    | .cad => Reg.CAD.rows
    | .aeg => Reg.AEG.rows
    | .att => []
    | .red => Reg.RED.rows
    | .slv => Reg.SLV.rows
    | .trs => if idxAt a = 0 then Reg.TRS.rows else Reg.TRSA.rows

/-- The blocks of C30 and C31 in REF page 3, which are not implemented: they read 0 (R149). -/
def absentBlock (a : Nat) : Bool :=
  (typeAt a == some .ref && idxAt a == 3 && decide (0x280 ≤ pageOff a)) ||
    (typeAt a == some .dpl && idxAt a != 0 && decide (0x300 ≤ pageOff a))

/-- The row that an address falls in, if the map gives it writable bits or a reset value other than 0. -/
def rowAt (a : Nat) : Option RegRow := if absentBlock a then none else (rowsAt a).find? fun r => r.has (pageOff a)

/-- The reset value of the fields whose reset the map gives by instance rather than by row: QR_FIX (R149), MASK
(R150), BW0 to BW3 (R176), OWNED (R94, R113), FIXED (R192), STRICT (R307). -/
def resetByInstance (a : Nat) : Nat :=
  let o := pageOff a
  match typeAt a with
  | some .ref =>
    if 0x100 ≤ o && o < 0x300 && (o - 0x100) % 0x40 == 0 then
      (let c := 8 * idxAt a + (o - 0x100) / 0x40
       if c ≤ 11 || c == 13 then 0x8 else 0)
    else 0
  | some .sel => if o == 0x104 then 0x3FFFDFFF else 0
  | some .dpl =>
    if 0x100 ≤ o && o < 0x300 then
      (let x := (o - 0x100) % 0x80
       if x == 0x04 then 5 else if x == 0x08 then 4 else if x == 0x0C then 3 else if x == 0x10 then 2 else 0)
    else 0
  | some .tdc => if 0x100 ≤ o && o < 0x300 && (o - 0x100) % 0x20 == 0 then
      (if tdcOwned (idxAt a) ((o - 0x100) / 0x20) then 0x80000001 else 0) else 0
  | some .apl => if o == 0x110 then 0x10000 else 0
  | some .swt =>
    if 0x100 ≤ o && o < 0x380 && (o - 0x100) % 0x10 == 0 && (o - 0x100) / 0x10 % 8 == 7 then 0x1000000 else 0
  | _ => 0

/-- The bits of a word of the pulse output page (R186, R196): it has four outputs, whose STD and SWING read 0. -/
def pulsePageBits (o n : Nat) : Nat := if 0x200 ≤ o then 0 else if (o - 0x100) % 0x40 = 0 then n - n / 256 % 64 * 256 else n

/-- The value of a register word at reset, as a number: the common header (R38), then the page's own map. Words of
no page read 0 here; their accesses are refused before they get here (R36). -/
def resetNat (a : Nat) : Nat :=
  let o := pageOff a
  if o = 0x008 then 1
  else if o = 0x01C then 0xFFFFFFFF
  else if o < headerEnd a then 0
  else
    let n := ((rowAt a).map (·.reset)).getD 0 + resetByInstance a
    if typeAt a = some .swc && 0x180 ≤ o && o < 0x190 then (if o == 0x180 then n - 8 else if o == 0x18C then 0 else n)
    else if typeAt a = some .gnf && o == 0x504 then n % 2 ^ 20
    else if typeAt a = some .out && idxAt a == 1 then pulsePageBits o n else n

/-- The value of a register word at reset. [DESIGN CHOICE log 6, 8] -/
def resetWord (a : Nat) : Word := BitVec.ofNat 32 (resetNat a)

/-- The bits of a word that a plain write sets (RW and WO fields, R40). RWB fields keep the value they hold: the
host must write back what it read (R12), which is 0 from reset. -/
def writeMask (a : Nat) : Nat :=
  let o := pageOff a
  match typeAt a with
  | none => 0
  | some p =>
    if o = 0x008 then (if enableReadOnly p then 0 else 1)
    else if o = 0x010 then 0xFFFF
    else if o = 0x01C then 0xFFFFFFFF
    else if 0x0C8 ≤ o && o < 0x0D8 then 0x01FFFFFF
    else if cnt8At a && 0x100 ≤ o && o < 0x110 then 0x01FFFFFF
    else if o < headerEnd a then 0
    else
      let m := ((rowAt a).map (·.wmask)).getD 0
      match p with
      | .tsu => if idxAt a == 0 && o == 0x100 then m - m % 4 else m
      | .swc => if o == 0x180 then m - m / 8 % 2 * 8 else if o == 0x188 || o == 0x18C then 0 else m
      | .gnf => if o == 0x504 then m - m / 2 ^ 20 * 2 ^ 20 else m
      | .sel => if 0x104 ≤ o && o < 0x500 && (o - 0x104) % 0x40 == 0 then m - m / 2 ^ 13 % 2 * 2 ^ 13 else m
      | .tdc =>
        if 0x100 ≤ o && o < 0x300 && (o - 0x100) % 0x20 == 0 && tdcOwned (idxAt a) ((o - 0x100) / 0x20) then m - m % 256
        else m
      | .apl => if 0x100 ≤ o && o < 0x110 then (if o == 0x100 then m - m % 16 else 0) else m
      | .hdm => if 0x300 ≤ o && o < 0x500 && (o - 0x300) % 0x40 == 0 then m - m / 65536 % 8 * 65536 else m
      | .swt => if 0x300 ≤ o && o < 0x380 then m - m / 2 ^ 25 % 2 * 2 ^ 25 else m
      | .out => if idxAt a == 1 then pulsePageBits o m else m
      | _ => m

/-- The word that a plain write of `v` to a word holding `old` leaves. -/
def mergeWrite (a old v : Nat) : Nat := (old &&& (0xFFFFFFFF - writeMask a)) ||| (v &&& writeMask a)

/-- The read-latch groups of a page: lowest offset and length in words of the group an offset belongs to (R41). -/
def rlGroup (a : Nat) : Option (Nat × Nat) :=
  let o := pageOff a
  let b := pageBase a
  let inBlk := fun (first stride count lo words : Nat) =>
    if first ≤ o && o < first + stride * count then
      (let x := (o - first) % stride
       if lo ≤ x && x < lo + 4 * words then some (b + o - x + lo, words) else none)
    else none
  if o = 0x0C0 || o = 0x0C4 then some (b + 0x0C0, 2)
  else if 0x0D8 ≤ o && o < 0x0F8 then some (b + 0x0D8 + (o - 0x0D8) / 8 * 8, 2)
  else if cnt8At a && 0x110 ≤ o && o < 0x130 then some (b + 0x110 + (o - 0x110) / 8 * 8, 2)
  else
    match typeAt a with
    | some .tsu =>
      (inBlk 0x100 0x80 4 0x08 10).orElse fun _ =>
        (inBlk 0x100 0x80 4 0x44 2).orElse fun _ => inBlk 0x100 0x80 4 0x4C 2
    | some .ref => inBlk 0x100 0x40 8 0x28 2
    | some .sel => inBlk 0x100 0x40 16 0x18 2
    | some .dpl => (inBlk 0x100 0x80 4 0x24 4).orElse fun _ => inBlk 0x300 0x80 1 0x04 2
    | some .hld => inBlk 0x100 0x100 1 0x20 13
    | some .bnd => inBlk 0x100 0x20 16 0x0C 4
    | some .gnf => inBlk 0x500 0x40 1 0x10 4
    | some .gna => inBlk 0x100 0x100 1 0x20 4
    | some .gnt => inBlk 0x100 0x40 32 0x10 8
    | some .gns => (inBlk 0x100 0x100 1 0x90 6).orElse fun _ => inBlk 0x200 0x100 1 0x90 3
    | some .lgt => inBlk 0x100 0x40 4 0x20 4
    | some .trs => if idxAt a = 0 then inBlk 0x3A0 0x40 4 0x24 5 else none
    | some .cad => inBlk 0x100 0x100 1 0x0C 7
    | some .slv => (inBlk 0x100 0x80 2 0x0C 4).orElse fun _ => inBlk 0x100 0x80 2 0x28 8
    | some .ktl => inBlk 0x100 0x100 1 0x0C 4
    | some .flt => inBlk 0x100 0x100 1 0x0C 4
    | _ => none

end Sys2Proof
end

