-- ==== Sys2Proof/Machine/State.lean ====
section
/-! DEFINITION. The state of the block: the register file, event words, counters and read latches of the pages,
the engines behind them, what the chip keeps without power, and the queue of waiting commands. -/

namespace Sys2Proof.Machine

/-- What the chip holds while it is powered: one field per group of units. [DESIGN CHOICE log 224] -/
structure Dev where
  /-- the stored words of the register file, by BAR0 offset -/
  regs  : Tab Word := []
  /-- event words, by page address plus word number (R51) -/
  evts  : Tab EvtWord := []
  /-- programmable counters, by page address plus counter number (R484) -/
  pcnt  : Tab PCnt := []
  /-- read latches, by master number times 2^24 plus address (R41) -/
  latch : Tab Word := []
  /-- page shells, by page address -/
  pages : Tab PageSt := []
  /-- device ticks of 4 ns since the model's origin (the model's own clock of durations) -/
  now   : Nat := 0
  /-- completion of the last read of each master, by master number -/
  cpl   : Tab Completion := []
  /-- what the SPI port drove on MISO during the last frame, byte by byte (R61) -/
  miso  : List Byte := []
  evc   : Evc := {}
  mbx   : Tab Mbx := []
  /-- the halves -/
  half  : Pair HalfSt := ⟨{}, {}⟩
  /-- timebases, by half number times 16 plus timebase -/
  tbs   : Tab Tbase := []
  sched : Sched := {}
  /-- fault collectors -/
  flt   : Pair FltSt := ⟨{}, {}⟩
  /-- vernier units, by half number times 80 plus capture point -/
  caps  : Tab CapUnit := []
  /-- input path delay compensation of the capture points in ps, by half number times 80 plus capture point (R121) -/
  pathComp : Tab Int := []
  /-- words of the pin-event queues, by (unit times 64 plus slot) times 8 plus word -/
  capq  : Tab Word := []
  /-- reference candidates, by half number times 32 plus candidate -/
  cands : Tab Cand := []
  /-- selectors, by half number times 16 plus selector -/
  sels  : Tab SelSt := []
  /-- wait-to-restore timers that run: the count of the schedule at which each expires, by
  (half number times 16 plus selector) times 32 plus candidate; 0 means none -/
  wtr   : Tab Nat := []
  /-- count of the schedule at which the vote window in progress began (R144) -/
  voteAt : Nat := 0
  /-- free values drawn so far: the model's own field, which stands for no register of the manual -/
  free   : Nat := 0
  /-- discipline loops, by half number times 16 plus loop -/
  loops : Tab LoopSt := []
  /-- holdover models -/
  hold  : Pair HoldSt := ⟨{}, {}⟩
  /-- runs of skew measurements of each half -/
  skewRun : Pair SkewSt := ⟨{}, {}⟩
  /-- synthesis loops, by half number times 2 plus loop block -/
  apls  : Tab AplSt := []
  /-- output stages, by half number times 16 plus 8 times page index plus output -/
  outs  : Tab OutSt := []
  dacs  : Pair DacSt := ⟨{}, {}⟩
  /-- count of the schedule at which REF_DISAGREE was last raised (R200) -/
  disAt : Nat := 0
  /-- bounds, by half number times 16 plus timebase -/
  bnds  : Tab BoundSt := []
  exch  : BndExch := {}
  bands : Tab BandSt := []
  acq   : AcqSt := {}
  /-- tracking channels -/
  chans : Tab ChanSt := []
  sol   : SolSt := {}
  snap  : SnapSt := {}
  /-- the snapshot buffer, by byte address; a byte not yet captured reads 0 (R267) -/
  snapBuf : Tab Byte := []
  /-- tracking stamps of a word-clock point, newest first, as stamp in 2^-32 ns and word count (R116), by half number
  times 80 plus point -/
  tracks : Tab (List (Nat × Nat)) := []
  /-- ports P0 to P7 -/
  ports  : Tab PortSt := []
  /-- the live counters of the ports, by port times 32 plus counter (R287) -/
  macc   : Tab Nat := []
  planes : Pair Plane := ⟨{}, {}⟩
  /-- words of the committed and the staged forwarding entries, by (half times 4096 plus entry) times 4 plus word -/
  fwd    : Tab Word := []
  fwdStage : Tab (Option Word) := []
  gates  : Tab GateSt := []
  /-- step generation of TB0 of each half (R321) -/
  stepgen : Pair Nat := ⟨0, 0⟩
  resp   : Pair RespSt := ⟨{}, {}⟩
  /-- rate buckets, by half number times 65536 plus index -/
  buckets : Tab Bucket := []
  /-- staged words of service entries, by TRS page address plus offset (R331) -/
  svcStage : Tab (Option Word) := []
  /-- what is published of each timebase (R17) -/
  pubs   : Tab PubVals := []
  /-- unicast grants, by half number times 4096 plus entry -/
  grants : Tab Grant := []
  /-- client instances, by half number times 4 plus instance -/
  insts  : Tab InstSt := []
  cads   : Pair CadSt := ⟨{}, {}⟩
  /-- AEAD engines, by half number times 8 plus engine -/
  engs   : Tab EngSt := []
  red    : Pair RedSt := ⟨{}, {}⟩
  /-- Selvedge links S0 to S3 -/
  links  : Tab LinkSt := []
  /-- host DMA queues: transmit 0 to 7, receive 8 to 15 -/
  dmas   : Tab DmaSt := []
  /-- values sampled for the next epoch, by half, and those of the last epochs, newest first, at most three -/
  sampled : Pair (Option EpochVals) := ⟨none, none⟩
  epochs : List EpochVals := []
  chaef  : Pair ChaefSt := ⟨{}, {}⟩
  /-- BOOTS has been written in this start (R505) -/
  bootsOk : Bool := false
  /-- RSEQ of the next health report (R413) -/
  rseq   : Nat := 0
  kettle : KettleSt := {}
  avs    : Pair AvsSt := ⟨{}, {}⟩
  scrub  : Pair ScrubSt := ⟨{}, {}⟩
  bist   : Option BistRun := none
  /-- repairs in force, by page: memory instance and row, held in the page shells (R468) -/
  repairs : Tab (List (Nat × Nat)) := []
  /-- the bits of a written word beyond its writable ones, as the test controls took them in a lifecycle state in which they
  are live (R42, R473), by address -/
  tests  : Tab Word := []
  /-- units out of service that no register shows, by page (R31) -/
  unitsOut : Tab (List Nat) := []
  lcs    : LcsSt := {}
  tap    : TapSt := {}
  prf    : Pair PrfSt := ⟨{}, {}⟩
  /-- PRF_TICK of each half (R38, R488) -/
  ticks  : Pair Nat := ⟨0, 0⟩
  tel    : Pair TelSt := ⟨{}, {}⟩
  start  : StartSt := {}
deriving DecidableEq, Repr

/-- Nothing in this model stops the block with a fault: every command has the effect the manual gives it. -/
inductive Fault where
  /-- Raised by no command; a closed type needs a constructor to be printed. Safe: it never happens. -/
  | unreachable
deriving DecidableEq, Repr

/-- The refusals of the model. -/
inductive Refusal where
  /-- A command whose meaning is not written yet, by its mnemonic. Raised by the dispatcher's own arms only. Safe. -/
  | notModelled (mnemonic : String)
deriving DecidableEq, Repr

/-- The state of the block: what it holds while powered, what it keeps without power, and the commands that wait,
first in, first out. -/
structure State where
  dev     : Dev := {}
  nv      : NV := {}
  pending : List Instr := []
deriving DecidableEq, Repr

/-- The block after reset (R38 and the register tables for the words; each engine in its reset state; nothing in
the queue). [DESIGN CHOICE log 4, 5, 224, 226] -/
def State.reset : State := {}

end Sys2Proof.Machine
end

