-- ==== Sys2Proof/Machine/Ops.lean ====
section
/-! DEFINITION. The named operations over the register file, the page shells and the block's pending queue. -/

namespace Sys2Proof.Machine

/-- The outcome of a command's meaning. -/
abbrev Out := Host.Outcome State Fault Refusal

/-- One second in device ticks of 4 ns. -/
def ticks1s : Nat := 250000000

/-- 100 ms in device ticks. -/
def ticks100ms : Nat := 25000000

/-- A write to the journal (R16): lost once the flash has failed. [DEDUCED log 238] -/
def NV.journal (nv : NV) (f : NV → NV) : NV := if nv.flashFailed then nv else f nv

/-- The journal takes a record: the write is taken and the flash has not failed (R16). -/
def NV.takes (nv : NV) (w : FlashEnd) : Bool := decide (w = .taken) && !nv.flashFailed

/-- A meaning that acts on the powered state only. -/
def State.onDev (s : State) (f : Dev → Dev) : State := { s with dev := f s.dev }

/-- A meaning that acts on the powered state, with what it reads of the rest of the state. -/
def State.withDev (s : State) (d : Dev) : State := { s with dev := d }

/-- The stored word at an address (R40: the value the fields hold). -/
def Dev.word (d : Dev) (a : Nat) : Word := Tab.get resetWord d.regs a

/-- The stored word at an address, as a number. -/
def Dev.w (d : Dev) (a : Nat) : Nat := (d.word a).toNat

/-- The device with a stored word replaced. -/
def Dev.setw (d : Dev) (a v : Nat) : Dev := { d with regs := Tab.set resetWord d.regs a (BitVec.ofNat 32 v) }

/-- A field of the register at a block's base. -/
def Dev.g (d : Dev) (b : Nat) (f : Fld) : Nat := getBits (d.w (b + f.off)) f.lo f.len

/-- A one-bit field, as a Boolean. -/
def Dev.gb (d : Dev) (b : Nat) (f : Fld) : Bool := d.g b f == 1

/-- The device with a field replaced. -/
def Dev.p (d : Dev) (b : Nat) (f : Fld) (v : Nat) : Dev :=
  d.setw (b + f.off) (setBits (d.w (b + f.off)) f.lo f.len v)

/-- The device with a one-bit field replaced. -/
def Dev.pb (d : Dev) (b : Nat) (f : Fld) (v : Bool) : Dev := d.p b f (bitOf v)

/-- A field increased by an amount, wrapping at its width. -/
def Dev.inc (d : Dev) (b : Nat) (f : Fld) (k : Nat := 1) : Dev := d.p b f (d.g b f + k)

/-- A field increased by one, saturating at its width. -/
def Dev.incSat (d : Dev) (b : Nat) (f : Fld) : Dev := d.p b f (min (d.g b f + 1) (2 ^ f.len - 1))

/-- A value of up to 64 bits held as a low word and a high field. -/
def Dev.g2 (d : Dev) (b : Nat) (lo hi : Fld) : Nat := d.g b lo + 2 ^ 32 * d.g b hi

/-- A signed 48-bit value held as a low word and a high half-word (R13). -/
def Dev.s48 (d : Dev) (b : Nat) (lo hi : Fld) : Int := signedOf 48 (d.g2 b lo hi)

/-- The device with a low word and a high field replaced. -/
def Dev.p2 (d : Dev) (b : Nat) (lo hi : Fld) (v : Nat) : Dev := (d.p b lo v).p b hi (v / 2 ^ 32)

/-- The device with a signed 48-bit value replaced. -/
def Dev.ps48 (d : Dev) (b : Nat) (lo hi : Fld) (v : Int) : Dev := d.p2 b lo hi (unsignedOf 48 v)

/-- A signed field. -/
def Dev.gs (d : Dev) (b : Nat) (f : Fld) : Int := signedOf f.len (d.g b f)

/-- The lifecycle state is one in which reserved fields act as test controls (R42, R473): RAW, TEST or RMA. What a test control
does is stated nowhere; the word is held. [DESIGN CHOICE log 240] -/
def Dev.testsLive (d : Dev) : Bool :=
  let s := d.g (pageAddr .lcs .warp 0) Reg.LCS.LSTATE_STATE
  s == 0 || s == 1 || s == 4

/-- The page shell of the page at an address. -/
def Dev.page (d : Dev) (pg : Nat) : PageSt := Tab.get (fun _ => {}) d.pages pg

/-- The device with a page shell replaced. -/
def Dev.setPage (d : Dev) (pg : Nat) (v : PageSt) : Dev := { d with pages := Tab.set (fun _ => {}) d.pages pg v }

/-- CTRL.ENABLE of the page at an address (R38). -/
def Dev.enabled (d : Dev) (pg : Nat) : Bool := bitAt (d.w (pg + 8)) 0

/-- A page is in P0: work that reaches it in any other state waits until it has woken (R436). -/
def Dev.inP0 (d : Dev) (pg : Nat) : Bool := (d.page pg).pstate == 0

/-- An EN field as its page lets it act (R38): it acts as 0 while the page's ENABLE is 0, and keeps its written value.
[DEDUCED log 28] -/
def Dev.en (d : Dev) (pg b : Nat) (f : Fld) : Bool := d.enabled pg && d.gb b f

/-- The device changed only where a condition holds. -/
def Dev.iff (d : Dev) (c : Bool) (f : Dev → Dev) : Dev := if c then f d else d

/-- The first `k` naturals acted on in order. -/
def Dev.each (d : Dev) (k : Nat) (f : Nat → Dev → Dev) : Dev := (List.range k).foldl (fun e i => f i e) d

/-- A free value of a width: a result the manual does not state. The next one is drawn from the next count.
[DESIGN CHOICE log 9] -/
def Dev.freeNat (d : Dev) (w k : Nat) : Nat := (Config.freeValue w (d.free + k)).toNat

/-- The device after `k` free values have been drawn. [DESIGN CHOICE log 9] -/
def Dev.drawn (d : Dev) (k : Nat) : Dev := { d with free := d.free + k }

/-- Sparse-table access with one default for every key. -/
def tget {α : Type} (dflt : α) (t : Tab α) (k : Nat) : α := Tab.get (fun _ => dflt) t k

/-- Sparse-table update with one default for every key. -/
def tset {α : Type} [DecidableEq α] (dflt : α) (t : Tab α) (k : Nat) (v : α) : Tab α := Tab.set (fun _ => dflt) t k v

end Sys2Proof.Machine
end

