-- ==== Sys2Proof/Machine/Flags.lean ====
section
/-! DEFINITION. The computations of flags: service of a half, performance counters (R484 to R488), event words (R51,
R523), global event sources (R525, R526) and the status bits a page computes. -/

namespace Sys2Proof.Machine

/-- The state of a half. -/
def Dev.hs (d : Dev) (h : Half) : HalfSt := d.half.of h

/-- The RED page of a half. -/
def redPg (h : Half) : Nat := pageAddr .red h 0

/-- RSTAT.HJOIN reads SERVING and the half is neither in safe state, nor unpowered, nor held in reset (R427, R504). -/
def Dev.serving (d : Dev) (h : Half) : Bool :=
  d.g (redPg h) Reg.RED.RSTAT_HJOIN == 0 && !(d.hs h).safe && (d.hs h).powered && !(d.hs h).heldReset

/-- A half is returning to service under R427: it sends nothing until it rejoins (R34). [DEDUCED log 164] -/
def Dev.returning (d : Dev) (h : Half) : Bool := d.g (redPg h) Reg.RED.RSTAT_HJOIN != 0

/-- A half's planes run: it is powered, not in safe state and not held in reset. -/
def Dev.planeUp (d : Dev) (h : Half) : Bool := (d.hs h).powered && !(d.hs h).safe && !(d.hs h).heldReset

/-- A half is out of service while it is in safe state, unpowered, held in reset, or returning under R427 while the
other serves (R67). -/
def Dev.outOfService (d : Dev) (h : Half) : Bool :=
  (d.hs h).safe || !(d.hs h).powered || (d.hs h).heldReset ||
    (d.g (redPg h) Reg.RED.RSTAT_HJOIN != 0 && d.serving h.other)

/-- The half that carries device-wide commands and computes published values: Warp, or Weft while Warp is out of
service (R17, R67). -/
def Dev.lead (d : Dev) : Half := if d.outOfService .warp then .weft else .warp

/-- The page of a half's synthesis loops; loop block 0 is the fixed loop (R192). -/
def aplBase (h : Half) (j : Nat) : Nat := pageAddr .apl h 0 + 0x100 + 0x200 * j

/-- The timebase clock of a half is valid: its fixed loop reads LOCKED (R180, R192). -/
def Dev.clockValid (d : Dev) (h : Half) : Bool := d.g (aplBase h 0) Reg.APL.LSTAT_STATE == 2

/-- Whether the counters of a page count (R488): the page in P0 or P1, not isolated, its half not in safe state and
its timebase clock valid. -/
def Dev.counting (d : Dev) (pg : Nat) : Bool :=
  let s := d.page pg
  s.pstate ≤ 1 && !s.isolated && !(d.hs (halfAt pg)).safe && d.clockValid (halfAt pg)

/-- The address of PSELn of a page (R484). -/
def pselAddr (pg n : Nat) : Nat := if n < 4 then pg + 0xC8 + 4 * n else pg + 0x100 + 4 * (n - 4)

/-- The number of programmable counters of a page (R38, R39). -/
def counters (pg : Nat) : Nat := if cnt8At pg then 8 else 4

/-- A programmable counter advanced by `k`, wrapping modulo 2^48 with OVF (R485). -/
def PCnt.add (c : PCnt) (k : Nat) : PCnt :=
  if c.n + k < 2 ^ 48 then { c with n := c.n + k } else { c with n := (c.n + k) % 2 ^ 48, ovf := true }

/-- Whether an occurrence passes the filter of a PSEL word (R486): one that does not carry the attribute never does. -/
def passes (psel : Nat) (a : PerfAttr) : Bool :=
  let arg := getBits psel 13 12
  match getBits psel 10 3 with
  | 1 => a.privilege == some arg
  | 2 => a.master == some arg
  | 3 => a.address == some arg
  | 4 => a.cls == some arg
  | _ => true

/-- The counters of a page after `k` occurrences of an event code (R485): those in COUNT mode whose EVENT is the code and
whose filter the occurrence passes. `required` is the filter kind the code needs, 0 for none (R527). -/
def Dev.perf (d : Dev) (pg code : Nat) (a : PerfAttr := {}) (k : Nat := 1) (required : Nat := 0) : Dev :=
  { d with pcnt := (List.range (counters pg)).foldl (fun t n =>
      let psel := d.w (pselAddr pg n)
      if d.counting pg && getBits psel 0 8 == code && getBits psel 8 2 == 1 && passes psel a
          && (required == 0 || getBits psel 10 3 == required)
      then tset {} t (pg + n) ((tget {} t (pg + n)).add k) else t) d.pcnt }

/-- Whether an event word of a page is implemented (R523). -/
def evtImplemented (pg k : Nat) : Bool :=
  match typeAt pg with
  | some p => bitAt (evtWords p (idxAt pg)) k
  | none => false

/-- The event word `k` of a page. -/
def Dev.evt (d : Dev) (pg k : Nat) : EvtWord := tget {} d.evts (pg + k)

/-- An event word after one more occurrence (R51). -/
def EvtWord.occur (e : EvtWord) : EvtWord :=
  { pend := true, seq := (e.seq + 1) % 256
    count := if e.count = 255 then 255 else e.count + 1
    ovf := e.ovf || e.count == 255 }

/-- One occurrence of event word `k` of a page (R51), counted by EVT_OCCUR with the word index as its address (R486,
R487). A word that is not implemented never occurs (R523). -/
def Dev.raise (d : Dev) (pg k : Nat) : Dev :=
  { d with
    evts := if evtImplemented pg k then tset {} d.evts (pg + k) (d.evt pg k).occur else d.evts
    pcnt := if evtImplemented pg k then (d.perf pg 0xF3 { address := some k }).pcnt else d.pcnt }

/-- An occurrence only where a condition holds. -/
def Dev.raiseIf (d : Dev) (c : Bool) (pg k : Nat) : Dev :=
  { d with evts := if c then (d.raise pg k).evts else d.evts, pcnt := if c then (d.raise pg k).pcnt else d.pcnt }

/-- The event word `k` of the same page of both halves. -/
def Dev.raiseBoth (d : Dev) (p : Page) (idx k : Nat) : Dev :=
  (d.raise (pageAddr p .warp idx) k).raise (pageAddr p .weft idx) k

/-- EVT_ACK (R51): the word clears only if SEQ and OVF_SEEN match. -/
def EvtWord.ack (e : EvtWord) (seq : Nat) (ovfSeen : Bool) : EvtWord :=
  if e.seq = seq ∧ e.ovf = ovfSeen then { pend := false, ovf := false, count := 0, seq := e.seq } else e

/-- The word an event word reads as (R38). -/
def EvtWord.word (e : EvtWord) : Nat :=
  bitOf e.pend * 2 ^ 31 + bitOf e.ovf * 2 ^ 30 + e.count % 256 * 2 ^ 16 + e.seq % 256

/-- Whether any word of a page that a mask names is pending and not masked by EVT_MASK (R53, R525). -/
def Dev.wordsAsserted (d : Dev) (pg mask : Nat) : Bool :=
  (List.range 32).any fun k => bitAt mask k && (d.evt pg k).pend && !(bitAt (d.w (pg + 0x1C)) k)

/-- The pages and event words of the per-half sources 16 to 39 (R526), `k` counted from 16 + 12h. -/
def srcWordsA (h : Half) (k : Nat) : List (Nat × Nat) :=
  if k ≤ 5 then [(pageAddr .flt h 0, 2 ^ k)]
  else if k = 6 then [(pageAddr .bst h 0, 3)]
  else if k ≤ 9 then [(pageAddr .lcs h 0, 2 ^ (k - 7))]
  else if k = 10 then [(pageAddr .prf h 0, 3)]
  else if k = 11 then [(pageAddr .tel h 0, 1)]
  else []

/-- The per-half sources 48 to 111, `k` counted from 48 + 32h. -/
def srcWordsB (h : Half) (k : Nat) : List (Nat × Nat) :=
  if k ≤ 3 then [(pageAddr .tsu h k, if k = 0 then 0x3F3F3F3F else 0x3F3F3F3F)]
  else if k = 4 then [(pageAddr .tsu h 0, 0x40C0)]
  else if k = 5 then [(pageAddr .tta h 0, 3)]
  else if k ≤ 9 then [(pageAddr .ref h (k - 6), 0xFFFFFFFF)]
  else if k = 10 then [(pageAddr .sel h 0, 0xFFFF)]
  else if k = 11 then [(pageAddr .sel h 0, 0x1F0000)]
  else if k ≤ 15 then [(pageAddr .dpl h (k - 12), 0x3F3F3F3F)]
  else if k = 16 then [(pageAddr .dpl h 0, 0x80)]
  else if k = 17 then [(pageAddr .hld h 0, 0x3F)]
  else if k = 18 then [(pageAddr .apl h 0, 0x3F3F)]
  else if k = 19 then [(pageAddr .apl h 0, 0x10000)]
  else if k ≤ 21 then [(pageAddr .out h (k - 20), 0xFFFF)]
  else if k ≤ 26 then [(pageAddr .tdc h (k - 22), 0xFFFFFFFF)]
  else if k = 27 then [(pageAddr .bnd h 0, 0xFFFF)]
  else if k = 28 then [(pageAddr .bnd h 0, 0x10000)]
  else []

/-- The shared GNSS sources 112 to 143. -/
def srcWordsC (s : Nat) : List (Nat × Nat) :=
  if s < 116 then [(pageAddr .gnf .warp 0, 2 ^ (4 * (s - 112)))]
  else if s < 120 then [(pageAddr .gnf .warp 0, 0xE * 2 ^ (4 * (s - 116)))]
  else if s < 122 then [(pageAddr .gna .warp 0, 2 ^ (s - 120))]
  else if s < 130 then [(pageAddr .gnt .warp (s - 122), 1)]
  else if s < 139 then [(pageAddr .gns .warp 0, 2 ^ (s - 130))]
  else []

/-- The per-half sources 144 to 187, `k` counted from 144 + 22h. -/
def srcWordsD (h : Half) (k : Nat) : List (Nat × Nat) :=
  if k ≤ 3 then [(pageAddr .pcs h k, 0x3)]
  else if k ≤ 7 then [(pageAddr .pcs h (k - 4), 0x3C)]
  else if k ≤ 11 then [(pageAddr .mac h (k - 8), 0x3)]
  else if k ≤ 15 then [(pageAddr .lgt h 0, 0xF * 2 ^ (4 * (k - 12)))]
  else if k = 16 then [(pageAddr .swc h 0, 0x7)]
  else if k = 17 then [(pageAddr .swt h 0, 0x7F)]
  else if k = 18 then [(pageAddr .trs h 0, 0x3)]
  else if k = 19 then [(pageAddr .trs h 0, 0xC)]
  else if k = 20 then [(pageAddr .grt h 0, 0x3)]
  else if k = 21 then [(pageAddr .rlt h 0, 0x3)]
  else []

/-- The per-half sources 208 to 231, `k` counted from 208 + 12h, and 232 to 255, `k` counted from 232 + 12h. -/
def srcWordsE (h : Half) (k : Nat) : List (Nat × Nat) :=
  if k ≤ 9 then [(pageAddr .cad h 0, 2 ^ k)]
  else if k = 10 then [(pageAddr .aeg h 0, 0xFF)]
  else if k = 11 then [(pageAddr .aeg h 0, 0x100)]
  else []

/-- As above, from 232 + 12h. -/
def srcWordsF (h : Half) (k : Nat) : List (Nat × Nat) :=
  if k ≤ 2 then [(pageAddr .red h 0, 2 ^ k)]
  else if k = 3 then [(pageAddr .red h 0, 0x38)]
  else if k = 4 then [(pageAddr .red h 0, 0x40)]
  else if k = 5 then [(pageAddr .red h 0, 0x80)]
  else if k = 6 then [(pageAddr .red h 0, 0x300)]
  else if k ≤ 10 then
    (let l := (k - 7) / 2
     if (k - 7) % 2 = 0 then [(pageAddr .slv h 0, 0x3 * 2 ^ (4 * l))] else [(pageAddr .slv h 0, 0xC * 2 ^ (4 * l))])
  else []

/-- The pages and words that a global source covers (R526). A source not issued covers none. -/
def sourceWords (s : Nat) : List (Nat × Nat) :=
  if s ≤ 8 then [(pageAddr .sys .warp 0, 2 ^ s)]
  else if s = 9 then [(pageAddr .mbx .warp 0, 3), (pageAddr .mbx .warp 1, 3)]
  else if s = 10 then [(pageAddr .mbx .warp 2, 3), (pageAddr .mbx .warp 3, 3)]
  else if s ≤ 14 then [(pageAddr .pmu (Half.ofNum ((s - 11) / 2)) 0, 2 ^ ((s - 11) % 2))]
  else if s = 15 then [(pageAddr .ktl .warp 0, 1)]
  else if s < 40 then srcWordsA (Half.ofNum ((s - 16) / 12)) ((s - 16) % 12)
  else if s < 48 then []
  else if s < 112 then srcWordsB (Half.ofNum ((s - 48) / 32)) ((s - 48) % 32)
  else if s < 144 then srcWordsC s
  else if s < 188 then srcWordsD (Half.ofNum ((s - 144) / 22)) ((s - 144) % 22)
  else if s < 205 then [(pageAddr .hdm .warp 0, 2 ^ (s - 188))]
  else if s < 208 then []
  else if s < 232 then srcWordsE (Half.ofNum ((s - 208) / 12)) ((s - 208) % 12)
  else if s < 256 then srcWordsF (Half.ofNum ((s - 232) / 12)) ((s - 232) % 12)
  else []

/-- A global source is asserted to the event concentrator (R53, R525). -/
def Dev.srcAsserted (d : Dev) (s : Nat) : Bool := (sourceWords s).any fun e => d.wordsAsserted e.1 e.2

/-- The EVC page. -/
def evcPg : Nat := pageAddr .evc .warp 0

/-- The route field of a source (R54): VEC, HOST and MC. -/
def Dev.route (d : Dev) (s : Nat) : Nat := getBits (d.w (evcPg + 0x100 + 4 * (s / 4))) (8 * (s % 4)) 7

/-- A source routed to a vector is asserted (R55). -/
def Dev.vectorAsserted (d : Dev) (v : Nat) : Bool :=
  (List.range 256).any fun s =>
    let r := d.route s
    bitAt r 5 && r % 32 == v && d.srcAsserted s

/-- MC_IRQ_N is driven low while any source with MC set is asserted (R56). [DEDUCED log 225] -/
def Dev.mcIrqLow (d : Dev) : Bool := (List.range 256).any fun s => bitAt (d.route s) 6 && d.srcAsserted s

end Sys2Proof.Machine
end

