-- ==== Sys2Proof/Machine/Operands.lean ====
section
/-! DEFINITION. The operand form every access has: which accesses are performed, which error the others draw (R36, R43,
R46, R47, R57, R88), and how an error is recorded (R58). -/

namespace Sys2Proof.Machine

/-- The SYS page. -/
def sysPg : Nat := pageAddr .sys .warp 0

/-- SYS reads READY: from RESTORE on, the fabric no longer completes accesses itself (R498). -/
def Dev.sysReady (d : Dev) : Bool := (d.page sysPg).ready

/-- The timebase a TSU page offset names as part of the time read-latch group and bound (R57), if any. -/
def tsuTimeGroup (a : Nat) : Option Nat :=
  let o := pageOff a
  if 0x100 ≤ o && o < 0x300 && 0x08 ≤ (o - 0x100) % 0x80 && (o - 0x100) % 0x80 < 0x30 then
    some (4 * idxAt a + (o - 0x100) / 0x80)
  else none

/-- Whether PF1 may read an offset (R57). -/
def Dev.pf1Reads (d : Dev) (a : Nat) : Bool :=
  let o := pageOff a
  let perm := d.w (sysPg + 0x10C)
  o == 0x000 || o == 0x004 || o == 0x00C ||
  (typeAt a == some .sys && (o == 0x100 || o == 0x10C)) ||
  (typeAt a == some .tsu && (match tsuTimeGroup a with | some n => bitAt perm n | none => false)) ||
  (bitAt perm 16 && ((0x0C0 ≤ o && o < 0x0F8) || (cnt8At a && 0x100 ≤ o && o < 0x130))) ||
  (bitAt perm 17 && typeAt a == some .tel)

/-- The targets that a timed REG_WRITE may not write (R88): SYS.RST, CAD.ZERO, and the MBX, LCS, ATT and TTA pages. -/
def regWriteProtected (a : Nat) : Bool :=
  match typeAt a with
  | some .mbx => true
  | some .lcs => true
  | some .att => true
  | some .tta => true
  | some .sys => pageOff a == 0x11C
  | some .cad => pageOff a == 0x180
  | _ => false

/-- The error of an aligned 32-bit access, if it draws one: unmapped (R36); not permitted (R57, R88); not completed
because SYS is not READY or the page's half is in safe state or unpowered (R46, R498), its header and FLT page
excepted; isolated, beyond the header (R47); asleep in P2 or P3, beyond the header (R47). DESIGN CHOICE: the order of
the checks, which the manual leaves open where two apply. [DESIGN CHOICE log 18, 227] -/
def Dev.accessError (d : Dev) (m : Master) (a : Nat) (wr : Bool) : Option AccErr :=
  let pg := pageBase a
  let hdr := decide (pageOff a < headerEnd a)
  let hs := d.hs (halfAt a)
  let perHalf := match typeAt a with | some p => (pageRow p).perHalf | none => false
  if !pageExists a then some .unmapped
  else if m == .pf1 && (wr || !d.pf1Reads a) then some .priv
  else if (m == .taWarp || m == .taWeft) && wr && regWriteProtected a then some .priv
  else if !d.sysReady && !(m == .fwWarp || m == .fwWeft) then some .timeout
  else if hdr then none
  else if perHalf && (hs.safe || !hs.powered || hs.heldReset) && typeAt a != some .flt then some .timeout
  else if (d.page pg).isolated then some .isolated
  else if 2 ≤ (d.page pg).pstate then some .asleep
  else none

/-- An access error recorded (R58, R59): the event of its kind, ACCERR unless a record is held, and REG_ERROR at the
page (R487). -/
def Dev.accError (d : Dev) (m : Master) (a : Nat) (wr : Bool) (e : AccErr) : Dev :=
  let d1 := d.raise sysPg e.event
  let d2 := d1.perf (pageBase a) 0xF2
    { privilege := some m.privilege, master := some m.num, address := some (pageOff a) }
  { d2 with regs :=
      if d.gb sysPg Reg.SYS.ACCERR_INFO_VALID then d2.regs
      else ((d2.setw (sysPg + 0x104) (a % 2 ^ 24)).setw (sysPg + 0x108)
        (m.num + e.kind * 16 + bitOf wr * 256 + 2 ^ 31)).regs }

/-- An access that reaches its page is counted by REG_ACCESS (R487). -/
def Dev.regAccess (d : Dev) (m : Master) (a : Nat) : Dev :=
  d.perf (pageBase a) 0xF1 { privilege := some m.privilege, master := some m.num, address := some (pageOff a) }

/-- A 32-bit aligned write whose effect at the page is given: performed, or discarded with its access error (R43 to
R48). A burst of one word: every write command of the table goes through here. -/
def Dev.writeAt (d : Dev) (m : Master) (a : Nat) (eff : Dev → Dev) : Dev :=
  match d.accessError m a true with
  | some e => d.accError m a true e
  | none => eff (d.regAccess m a)

end Sys2Proof.Machine
end

