-- ==== Sys2Proof/Machine/Timebase.lean ====
section
/-! DEFINITION. Timebases, scales and leap seconds: the count (R68 to R70), its scaled views (R72, R80, R81), the
wire formats (R82), the tick (R69, R75), and the effects of the writes of the TSU page (R74 to R76, R78, R84, R85). -/

namespace Sys2Proof.Machine

/-- The TSU page of a timebase. -/
def tsuPg (h : Half) (n : Nat) : Nat := pageAddr .tsu h (n / 4)

/-- The register block of a timebase (R72). -/
def tsuB (h : Half) (n : Nat) : Nat := tsuPg h n + 0x100 + 0x80 * (n % 4)

/-- The event word `k` of a timebase's block (R92). -/
def tbEvt (n k : Nat) : Nat := 8 * (n % 4) + k

/-- A timebase. -/
def Dev.tb (d : Dev) (h : Half) (n : Nat) : Tbase := tget {} d.tbs (h.num * 16 + n)

/-- The device with a timebase replaced. -/
def Dev.setTb (d : Dev) (h : Half) (n : Nat) (t : Tbase) : Dev := { d with tbs := tset {} d.tbs (h.num * 16 + n) t }

/-- One nanosecond of the count register (R69). -/
def nsUnit : Nat := 2 ^ 64

/-- One second of the count register. -/
def secUnit : Nat := 10 ^ 9 * nsUnit

/-- The count, in 2^-64 ns. -/
def Dev.count (d : Dev) (h : Half) (n : Nat) : Nat := (d.tb h n).count

/-- SEC of a count. -/
def secOf (c : Nat) : Nat := c / secUnit % 2 ^ 48

/-- NSEC of a count. -/
def nsecOf (c : Nat) : Nat := c % secUnit / nsUnit

/-- FRAC of a count: the top 32 of its 64 fractional bits (R69). -/
def fracOf (c : Nat) : Nat := c % nsUnit / 2 ^ 32

/-- SEC of a timebase's count. -/
def Dev.sec (d : Dev) (h : Half) (n : Nat) : Nat := secOf (d.count h n)

/-- A count from SEC and NSEC. -/
def countOf (sec nsec : Nat) : Nat := (sec * 10 ^ 9 + nsec) * nsUnit

/-- A count wraps with its 48-bit SEC. -/
def countMod : Nat := 2 ^ 48 * secUnit

/-- The millisecond of a count, from its origin. -/
def msOf (c : Nat) : Nat := c / (10 ^ 6 * nsUnit)

/-- The count of a half's TB0 in 2^-32 ns. -/
def Dev.tb0 (d : Dev) (h : Half) : Nat := d.count h 0 / 2 ^ 32

/-- SEC of TB0 of the half that times the shared schedules (R19). -/
def Dev.schedSec (d : Dev) : Nat := d.sec d.sched.half 0

/-- An instant of a timebase's count, in 2^-32 ns, as the count of another timebase of the half reads at that instant: both counts
are compared now. [DEDUCED log 241] -/
def Dev.inTb (d : Dev) (h : Half) (from_ to_ t : Nat) : Nat :=
  if from_ = to_ then t
  else (((t : Int) + ((d.count h to_ : Int) - d.count h from_) / 2 ^ 32) % (2 ^ 48 * 10 ^ 9 * 2 ^ 32 : Nat)).toNat

/-- The clamp of FADJ: ±100 ppm in 2^-48, toward zero (R74). DEDUCED rounding: 10^-4 of 2^48 is no whole number.
[DEDUCED log 48] -/
def fadjLimit : Int := 28147497671

/-- A FADJ clamped (R74). [DEDUCED log 48] -/
def clampFadj (f : Int) : Int := clampInt (-fadjLimit) fadjLimit f

/-- PSLEW in ns/s, with its limits (R72). -/
def Dev.pslew (d : Dev) (h : Half) (n : Nat) : Nat := clampNat 1 50000 (d.g (tsuB h n) Reg.TSU.PSLEW)

/-- The greatest change of FADJ in one tick under a loop: 0.4 ppm per µs is 0.0016 ppm per tick of 4 ns (R160).
[DEDUCED log 49] -/
def fadjTickStep : Int := 450359

/-- FADJ after the next tick: a write applies at once, a loop's value is approached at the limit of R160. -/
def Tbase.fadjAfter (t : Tbase) : Int :=
  if t.slew then t.fadj + clampInt (-fadjTickStep) fadjTickStep (t.fadjTgt - t.fadj) else t.fadjTgt

/-- FADJ with the slew of a phase adjustment in progress added and clamped (R75), in 2^-48. -/
def Tbase.withSlew (t : Tbase) (f : Int) (pslew : Nat) : Int :=
  let rate : Int := (pslew * 2 ^ 48 / 10 ^ 9 : Nat)
  if t.padjRem = 0 then f else if 0 < t.padjRem then clampFadj (f + rate) else clampFadj (f - rate)

/-- One tick of a timebase (R69, R75): the count takes 4 ns × (1 + FADJ), FADJ with the slew of a phase adjustment added
and clamped, and the adjustment's remainder shrinks by what the slew moved. [DEDUCED log 49] -/
def Tbase.tick (t : Tbase) (pslew : Nat) : Tbase :=
  let f := t.fadjAfter
  let want := t.withSlew f pslew
  let moved := 4 * (want - f) * 2 ^ 16
  let left := t.padjRem - 1000 * moved
  let done := decide (t.padjRem ≠ 0) && decide (t.padjRem.natAbs ≤ (1000 * moved).natAbs) && decide (moved ≠ 0)
  let add : Int := 4 * (2 ^ 48 + f) * 2 ^ 16 + (if done then t.padjRem / 1000 else moved)
  { t with
    count := ((t.count : Int) + add).toNat % countMod
    fadj := f
    padjRem := if done then 0 else left }

/-! ### The leap table (R78) -/

/-- The TSU page that holds a half's leap table. -/
def leapPg (h : Half) : Nat := pageAddr .tsu h 0

/-- A leap table as its valid entries show it: TAI − UTC before the first, then EFF_SEC and offset of each. -/
structure LeapTab where
  base : Int
  ents : List (Nat × Int)
deriving DecidableEq, Repr

/-- The table whose staging layout starts `o` bytes above 0x300 of a page: 0 for staging, 0x90 for the active copy. -/
def Dev.leapTab (d : Dev) (pg o : Nat) : LeapTab :=
  { base := signedOf 16 (d.w (pg + 0x304 + o))
    ents := (List.range 8).filterMap fun m =>
      let e := pg + 0x310 + o + 0x10 * m
      if bitAt (d.w (e + 8)) 31 then some (d.w e + 2 ^ 32 * (d.w (e + 4) % 2 ^ 16), signedOf 16 (d.w (e + 8))) else none }

/-- The active table of a half. -/
def Dev.leapActive (d : Dev) (h : Half) : LeapTab := d.leapTab (leapPg h) 0x90

/-- The staging table: Warp's copy, which Weft's mirrors (R78). [DEDUCED log 53] -/
def Dev.leapStaged (d : Dev) : LeapTab := d.leapTab (leapPg .warp) 0

/-- The leaps of a table: EFF_SEC, the offset before and the offset from there on. -/
def LeapTab.leaps (t : LeapTab) : List (Nat × Int × Int) :=
  (t.ents.zip (t.base :: t.ents.map (·.2))).map fun e => (e.1.1, e.2, e.1.2)

/-- TAI − UTC in effect at a count second (R80). -/
def LeapTab.ofsAt (t : LeapTab) (sec : Nat) : Int :=
  t.ents.foldl (fun o e => if e.1 ≤ sec then e.2 else o) t.base

/-- The count second is the inserted second of a leap (R80). -/
def LeapTab.inserted (t : LeapTab) (sec : Nat) : Bool :=
  t.leaps.any fun e => e.2.2 == e.2.1 + 1 && sec + 1 == e.1

/-- The leap that is pending at a count second, as its d, if any (R80). -/
def LeapTab.pendingAt (t : LeapTab) (sec : Nat) : Option Int :=
  (t.leaps.find? fun e => decide ((e.1 : Int) - (e.2.2 - e.2.1) - 86400 ≤ sec) && decide (sec < e.1)).map
    fun e => e.2.2 - e.2.1

/-- SMEAR.MIN with its limits, as L in seconds (R72, R81). -/
def Dev.smearLen (d : Dev) (h : Half) (n : Nat) : Nat := 60 * clampNat 60 2880 (d.g (tsuB h n) Reg.TSU.SMEAR_MIN)

/-- t_s of a leap (R81). -/
def smearStart (pos : Nat) (eff len : Nat) (dl : Int) : Int :=
  match pos with
  | 1 => (eff : Int) - dl - len
  | 2 => (eff : Int) - dl
  | _ => (eff : Int) - dl - len / 2

/-- The smear window a timebase has for a leap of the active table: one that has opened keeps its parameters.
[DEDUCED log 56] -/
def Dev.smearWin (d : Dev) (h : Half) (n : Nat) (l : Nat × Int × Int) : SmearWin :=
  match (d.tb h n).win with
  | some w =>
    if w.eff = l.1 then w
    else { eff := l.1, ofs := l.2.2, prev := l.2.1, len := d.smearLen h n
           ts := smearStart (d.g (tsuB h n) Reg.TSU.SMEAR_POS) l.1 (d.smearLen h n) (l.2.2 - l.2.1) }
  | none =>
    { eff := l.1, ofs := l.2.2, prev := l.2.1, len := d.smearLen h n
      ts := smearStart (d.g (tsuB h n) Reg.TSU.SMEAR_POS) l.1 (d.smearLen h n) (l.2.2 - l.2.1) }

/-- The end of a smear window (R81). -/
def SmearWin.stop (w : SmearWin) : Int := w.ts + w.len + (w.ofs - w.prev)

/-- 2^-32 ns in one second. -/
def secFrac : Nat := 10 ^ 9 * 2 ^ 32

/-- The UTC view of a count in 2^-32 ns (R80). -/
def utcView (t : LeapTab) (c32 : Nat) : Int :=
  let sec := c32 / secFrac
  let o := if t.inserted sec then t.ofsAt (sec + 1) else t.ofsAt sec
  (c32 : Int) - o * secFrac

/-- The smeared view of a count in 2^-32 ns (R81). -/
def smearView (t : LeapTab) (win : Nat × Int × Int → SmearWin) (c32 : Nat) : Int :=
  let inside := (t.leaps.map win).find? fun w =>
    decide (w.ts * secFrac ≤ (c32 : Int)) && decide ((c32 : Int) < w.stop * secFrac)
  match inside with
  | some w =>
    let dl := w.ofs - w.prev
    let term : Int := ((c32 : Int) - w.ts * secFrac) / (w.len + dl)
    (c32 : Int) - w.prev * secFrac - dl * term
  | none =>
    let o := t.leaps.foldl (fun o l => if decide ((win l).stop * secFrac ≤ (c32 : Int)) then l.2.2 else o) t.base
    (c32 : Int) - o * secFrac

/-- The scaled value of a count on a scale, in 2^-32 ns, modulo 2^48 s (R72). -/
def Dev.scaled32 (d : Dev) (h : Half) (n scale c : Nat) : Nat :=
  let c32 := c / 2 ^ 32
  let v : Int :=
    match scale with
    | 1 => utcView (d.leapActive h) c32
    | 2 => smearView (d.leapActive h) (d.smearWin h n) c32
    | 3 => (c32 : Int) - 315964819 * secFrac
    | _ => c32
  (v % (2 ^ 48 * secFrac : Nat)).toNat

/-- SCALE of a timebase: TB0 is TAI always (R72). -/
def Dev.scale (d : Dev) (h : Half) (n : Nat) : Nat := if n = 0 then 0 else d.g (tsuB h n) Reg.TSU.CTRL_SCALE

/-- SEC, NSEC and FRAC of a timebase's scaled view at a count. -/
def Dev.scaledAt (d : Dev) (h : Half) (n c : Nat) : Nat × Nat × Nat :=
  let v := d.scaled32 h n (d.scale h n) c
  (v / secFrac, v % secFrac / 2 ^ 32, v % 2 ^ 32)

/-- The NTP 64-bit timestamp of a scaled value (R82): seconds and fraction. -/
def ntpStamp (v : Nat × Nat × Nat) : Nat × Nat :=
  ((v.1 + 2208988800) % 2 ^ 32, (v.2.1 * 2 ^ 32 + v.2.2) / 10 ^ 9)

/-! ### Writes of the TSU page -/

/-- FADJ written: the 48-bit value, clamped, is taken at the next tick (R72, R74). -/
def fadjWritten (h : Half) (n hi : Nat) (d : Dev) : Dev :=
  let b := tsuB h n
  let v := signedOf 48 (d.g b Reg.TSU.FADJ_LO + 2 ^ 32 * (hi % 2 ^ 16))
  let d1 := d.p b Reg.TSU.FADJ_HI hi
  (d1.raiseIf (decide (clampFadj v ≠ v)) (tsuPg h n) (tbEvt n 1)).setTb h n
    { d.tb h n with fadjTgt := clampFadj v, slew := false }

/-- PADJ written: the remainder is replaced and the adjustment starts (R72, R75). -/
def padjWritten (h : Half) (n hi : Nat) (d : Dev) : Dev :=
  let b := tsuB h n
  let v := signedOf 48 (d.g b Reg.TSU.PADJ_LO + 2 ^ 32 * (hi % 2 ^ 16))
  let d1 := (d.p b Reg.TSU.PADJ_HI hi).pb b Reg.TSU.STAT_PADJ_BUSY (decide (v ≠ 0))
  d1.setTb h n { d.tb h n with padjRem := v * 2 ^ 64 }

/-- The remaining phase adjustment discarded; the part already applied stays (R72). -/
def padjAborted (h : Half) (n : Nat) (d : Dev) : Dev :=
  (d.pb (tsuB h n) Reg.TSU.STAT_PADJ_BUSY false).setTb h n { d.tb h n with padjRem := 0 }

/-- A finished phase adjustment clears PADJ_BUSY (R75). -/
def padjDone (h : Half) (n : Nat) (d : Dev) : Dev :=
  if (d.tb h n).padjRem = 0 then d.pb (tsuB h n) Reg.TSU.STAT_PADJ_BUSY false else d

/-- STEP asked for: STEP_PEND waits for the next count second boundary; a second request changes nothing (R76). -/
def stepAsked (h : Half) (n : Nat) (d : Dev) : Dev :=
  if d.gb (tsuB h n) Reg.TSU.STAT_STEP_PEND then d
  else (d.pb (tsuB h n) Reg.TSU.STAT_STEP_PEND true).setTb h n { d.tb h n with stepReq := d.sec h n }

/-- DOM_SEL written (R84, R85): a change starts or reverses a domain switch; a switch to itself or to a timebase that
itself follows another is refused. -/
def domSelWritten (h : Half) (n : Nat) (v : Bool) (d : Dev) : Dev :=
  let b := tsuB h n
  let alt := d.g b Reg.TSU.CTRL_ALT
  if d.gb b Reg.TSU.CTRL_DOM_SEL = v then d
  else if v && (alt == n || d.gb (tsuB h alt) Reg.TSU.CTRL_DOM_SEL) then
    (d.pb b Reg.TSU.CTRL_DOM_SEL false).raise (tsuPg h n) (tbEvt n 4)
  else
    ((d.pb b Reg.TSU.CTRL_DOM_SEL v).pb b Reg.TSU.STAT_DSW_ACTIVE true).setTb h n { d.tb h n with dswRun := 0 }

/-- ALT written: discarded with DSW_REFUSED while DOM_SEL is 1 and the value changes (R72). -/
def altWritten (h : Half) (n v : Nat) (d : Dev) : Dev :=
  let b := tsuB h n
  if d.g b Reg.TSU.CTRL_ALT = v % 16 then d
  else if d.gb b Reg.TSU.CTRL_DOM_SEL then d.raise (tsuPg h n) (tbEvt n 4)
  else d.p b Reg.TSU.CTRL_ALT v

/-- The whole CTRL word of a timebase written (R72): SCALE but in TB0, ALT, DOM_SEL, STEP and PADJ_ABORT, each with its
live-change effect. -/
def tsuCtrlWritten (h : Half) (n v : Nat) (d : Dev) : Dev :=
  let b := tsuB h n
  let d1 := if n = 0 then d else d.p b Reg.TSU.CTRL_SCALE v
  let d2 := domSelWritten h n (bitAt v 8) (altWritten h n (v / 16) d1)
  let d3 := if bitAt v 9 then stepAsked h n d2 else d2
  if bitAt v 10 then padjAborted h n d3 else d3

/-- LEAP_CTRL.COMMIT: activation of the staging copy at the next second boundary is asked for (R78). Weft's copy ignores
it. -/
def leapCommitAsked (d : Dev) : Dev :=
  if d.gb (leapPg .warp) Reg.TSU.LEAP_STAT_COMMIT_PEND then d
  else { (d.pb (leapPg .warp) Reg.TSU.LEAP_STAT_COMMIT_PEND true) with
         sched := { d.sched with leapReq := d.schedSec } }

/-- LEAP_CTRL written in a half's page (R78). [DEDUCED log 53] -/
def leapCtrlWritten (h : Half) (v : Nat) (d : Dev) : Dev :=
  match h with
  | .weft => d
  | .warp =>
    let d1 := d.p (leapPg .warp) Reg.TSU.LEAP_CTRL_GNSS_AUTO (v / 2)
    if bitAt v 0 then leapCommitAsked d1 else d1

/-! ### Measurements and leaps -/

/-- The offset of a timebase from its ALT, in ps, toward zero (R72). -/
def Dev.domOfs (d : Dev) (h : Half) (n : Nat) : Int :=
  (((d.count h n : Int) - d.count h (d.g (tsuB h n) Reg.TSU.CTRL_ALT)) * 1000).tdiv nsUnit

/-- One measurement of DOM_OFS (R72, R84): a switch ends after 16 consecutive measurements with the offset at or below
1 ns. `own` is the offset from the timebase's own reference chain, which takes the place of DOM_OFS in that condition
once DOM_SEL is back to 0. [DEDUCED log 52, 54] -/
def domOfsMeasured (h : Half) (n : Nat) (own : Int) (d : Dev) : Dev :=
  let b := tsuB h n
  let o := d.domOfs h n
  let d0 := d.setTb h n { d.tb h n with domNo := (d.tb h n).domNo + 1, domAt := d.count h 0, domOwn := own }
  let d1 := d0.ps48 b Reg.TSU.DOM_OFS_LO Reg.TSU.DOM_OFS_HI o
  if d.gb b Reg.TSU.STAT_DSW_ACTIVE then
    let x := if d.gb b Reg.TSU.CTRL_DOM_SEL then o else own
    let run := if x.natAbs ≤ 1000 then (d.tb h n).dswRun + 1 else 0
    if 16 ≤ run then
      ((d1.pb b Reg.TSU.STAT_DSW_ACTIVE false).raise (tsuPg h n) (tbEvt n 3)).setTb h n { d1.tb h n with dswRun := 0 }
    else d1.setTb h n { d1.tb h n with dswRun := run }
  else d1

/-- LEAP_PEND, IN_LEAP and LI of a timebase as its count and the active table give them (R80). [DEDUCED log 55] -/
def leapRefresh (h : Half) (n : Nat) (d : Dev) : Dev :=
  let b := tsuB h n
  let t := d.leapActive h
  let s := d.sec h n
  let p := t.pendingAt s
  let x := d.tb h n
  (((d.pb b Reg.TSU.STAT_LEAP_PEND p.isSome).pb b Reg.TSU.STAT_IN_LEAP (t.inserted s)).p b Reg.TSU.SCL_INFO_LI
    (match p with | none => 0 | some dl => if 0 < dl then 1 else 2)).setTb h n
      { x with applied := x.applied.filter fun e => decide (e ≤ s) }

/-- The reason a commit is refused at an activation second, 0 for none (R78): the table of REFUSE, in its order. A change of
LEAP_BASE alone is refused for 0x2 only (R79). [DEDUCED log 235; DESIGN CHOICE log 271] -/
def Dev.leapRefusal (d : Dev) (act : Nat) : Nat :=
  let new := d.leapStaged
  let old := d.leapActive d.lead
  let changed := (new.ents.filter fun e => !(old.ents.contains e)) ++ (old.ents.filter fun e => !(new.ents.contains e))
  let served := [Half.warp, Half.weft].any fun h => (List.range 16).any fun n =>
    match (d.tb h n).win with
    | none => false
    | some w => !w.shut && !changed.isEmpty && !(new.leaps.contains (w.eff, w.prev, w.ofs))
  if !(decide ((new.ents.map (·.1)).Pairwise (· < ·))) then 1
  else if new.leaps.any fun e => !(e.2.2 == e.2.1 + 1 || e.2.2 == e.2.1 - 1) then 2
  else if changed.any fun e => e.1 ≤ act + 2 then 3
  else if served then 4
  else 0

/-- The words of the leap table's copy whose staging offsets are 0x304 and 0x310 to 0x38C. -/
def leapOffsets : List Nat := 0x304 :: (List.range 32).map (fun i => 0x310 + 4 * i)

/-- A table copied from one place to another, word by word. -/
def Dev.leapCopy (d : Dev) (src sofs dst dofs : Nat) : Dev :=
  leapOffsets.foldl (fun e o => e.setw (dst + o + dofs) (d.w (src + o + sofs))) d

/-- The staging copy becomes the active copy of a half, with its status bits, GEN and LEAP_COMMITTED (R79). -/
def leapActivated (h : Half) (d : Dev) : Dev :=
  let d1 := (d.leapCopy (leapPg .warp) 0 (leapPg h) 0x90).inc (leapPg h) Reg.TSU.LEAP_STAT_GEN
  (d1.each 16 fun n e => leapRefresh h n e).raise (leapPg h) 6

/-- The halves in service: those that are not out of service (R67). -/
def Dev.halvesInService (d : Dev) : List Half := [Half.warp, Half.weft].filter fun h => !(d.outOfService h)

/-- The second boundary of a waiting commit (R79): refused, with the reason in both halves, or active in every half in
service. -/
def leapBoundary (d : Dev) : Dev :=
  let r := d.leapRefusal d.schedSec
  let d1 := d.pb (leapPg .warp) Reg.TSU.LEAP_STAT_COMMIT_PEND false
  if r = 0 then d1.halvesInService.foldl (fun e h => leapActivated h e) d1
  else
    let d2 := (d1.p (leapPg .warp) Reg.TSU.LEAP_STAT_REFUSE r).p (leapPg .weft) Reg.TSU.LEAP_STAT_REFUSE r
    d2.halvesInService.foldl (fun e h => e.raise (leapPg h) 7) d2

/-- A commit waits and its second boundary has come (R78, R79). -/
def Dev.leapDue (d : Dev) : Bool :=
  d.gb (leapPg .warp) Reg.TSU.LEAP_STAT_COMMIT_PEND && decide (d.sched.leapReq < d.schedSec)

/-- The leap of entry `m` of the active table of a half, if the entry is valid. -/
def Dev.leapEntry (d : Dev) (h : Half) (m : Nat) : Option (Nat × Int × Int) :=
  let e := leapPg h + 0x3A0 + 0x10 * m
  if bitAt (d.w (e + 8)) 31 then
    (d.leapActive h).leaps.find? fun l => l.1 == d.w e + 2 ^ 32 * (d.w (e + 4) % 2 ^ 16)
  else none

/-- The span in which a leap is pending has begun (R80). -/
def leapPendStart (h : Half) (n m : Nat) (d : Dev) : Dev :=
  match d.leapEntry h m with
  | none => d
  | some l =>
    let s := d.sec h n
    if decide ((l.1 : Int) - (l.2.2 - l.2.1) - 86400 ≤ s) && decide (s < l.1) then leapRefresh h n d else d

/-- An inserted second has begun (R80). -/
def insertedStart (h : Half) (n m : Nat) (d : Dev) : Dev :=
  match d.leapEntry h m with
  | none => d
  | some l =>
    if l.2.2 = l.2.1 + 1 ∧ d.sec h n + 1 = l.1 then d.pb (tsuB h n) Reg.TSU.STAT_IN_LEAP true else d

/-- EFF_SEC is reached (R80), by the count's run or by a step onto it: LEAP_PEND, IN_LEAP and LI clear, and LEAP_APPLIED is
raised once; the word is TB0's, the table's own page having one such word (R92). [DEDUCED log 51, 55] -/
def leapApplied (h : Half) (n m : Nat) (d : Dev) : Dev :=
  match d.leapEntry h m with
  | none => d
  | some l =>
    let s := d.sec h n
    if l.1 ≤ s && (d.gb (tsuB h n) Reg.TSU.STAT_LEAP_PEND || (s == l.1 && (d.tb h n).applied != some l.1)) then
      let d1 := leapRefresh h n d
      (d1.setTb h n { d1.tb h n with applied := some l.1 }).raiseIf (n == 0) (leapPg h) 14
    else d

/-- The count of a timebase in 2^-32 ns, as a signed number. -/
def Dev.c32 (d : Dev) (h : Half) (n : Nat) : Int := (d.count h n / 2 ^ 32 : Nat)

/-- A smear window opens at t_s (R81). [DEDUCED log 56] -/
def smearOpen (h : Half) (n m : Nat) (d : Dev) : Dev :=
  match d.leapEntry h m with
  | none => d
  | some l =>
    let w := d.smearWin h n l
    if d.scale h n == 2 && ((d.tb h n).win.all fun x => x.shut) && decide (w.ts * secFrac ≤ d.c32 h n)
        && decide (d.c32 h n < w.stop * secFrac) then
      (d.pb (tsuB h n) Reg.TSU.STAT_IN_SMEAR true).setTb h n { d.tb h n with win := some { w with shut := false } }
    else d

/-- A smear window closes at t_s + L + d (R81). -/
def smearClose (h : Half) (n : Nat) (d : Dev) : Dev :=
  match (d.tb h n).win with
  | none => d
  | some w =>
    if !w.shut && decide (w.stop * secFrac ≤ d.c32 h n) then
      (d.pb (tsuB h n) Reg.TSU.STAT_IN_SMEAR false).setTb h n { d.tb h n with win := some { w with shut := true } }
    else d

/-- The smear window of a timebase after a step of its count (R81): one that the count now lies before has not opened, and one
that it has passed is shut. -/
def smearStepped (h : Half) (n : Nat) (d : Dev) : Dev :=
  match (d.tb h n).win with
  | none => d
  | some w =>
    if d.c32 h n < w.ts * secFrac then
      (d.pb (tsuB h n) Reg.TSU.STAT_IN_SMEAR false).setTb h n { d.tb h n with win := none }
    else smearClose h n d

/-! ### Leap table compaction (R518) -/

/-- Whether an entry's EFF_SEC lies more than 259,200 s before a second. -/
def foldable (sec : Nat) (e : Nat × Int) : Bool := e.1 + 259200 < sec

/-- The words of a table written at a page: LEAP_BASE, and the valid entries from entry 0, the rest zero. -/
def Dev.leapStore (d : Dev) (pg o : Nat) (t : LeapTab) : Dev :=
  let d0 := d.setw (pg + 0x304 + o) (unsignedOf 16 t.base)
  d0.each 8 fun m e =>
    let a := pg + 0x310 + o + 0x10 * m
    match t.ents[m]? with
    | none => (((e.setw a 0).setw (a + 4) 0).setw (a + 8) 0).setw (a + 12) 0
    | some x =>
      (((e.setw a (x.1 % 2 ^ 32)).setw (a + 4) (x.1 / 2 ^ 32 % 2 ^ 16)).setw (a + 8)
        (unsignedOf 16 x.2 + 2 ^ 31)).setw (a + 12) 0

/-- The folded table (R518). -/
def LeapTab.fold (t : LeapTab) (sec : Nat) : LeapTab :=
  { base := t.ents.foldl (fun o e => if foldable sec e then e.2 else o) t.base
    ents := t.ents.filter fun e => !(foldable sec e) }

/-- Whether a fold would remove an entry. -/
def LeapTab.canFold (t : LeapTab) (sec : Nat) : Bool := t.ents.any (foldable sec)

/-- The fold applied in both halves at a second: active and staging copies, GEN and LEAP_COMMITTED. -/
def leapFolded (d : Dev) : Dev :=
  let t := (d.leapActive d.lead).fold d.schedSec
  let d1 := [Half.warp, Half.weft].foldl (fun e h =>
    ((e.leapStore (leapPg h) 0 t).leapStore (leapPg h) 0x90 t).inc (leapPg h) Reg.TSU.LEAP_STAT_GEN) d
  d1.halvesInService.foldl (fun e h => e.raise (leapPg h) 6) d1

/-! ### The once-per-second comparison of settings (R71) -/

/-- A comparison's result taken in: its event is raised when it finds a difference that the previous one did not.
[DEDUCED log 59] -/
def Dev.compared (d : Dev) (code : Nat) (differs : Bool) (f : Dev → Dev) : Dev :=
  if differs then
    (if d.sched.diffs.contains code then d
     else f { d with sched := { d.sched with diffs := code :: d.sched.diffs } })
  else { d with sched := { d.sched with diffs := d.sched.diffs.filter (· != code) } }

/-- A comparison of settings or of selector results found a difference last time; refused forced selections, which stand
from 400 up, are none. -/
def Dev.halvesDiffer (d : Dev) : Bool := d.sched.diffs.any (· < 400)

/-- The scale, smear and leap settings of a timebase differ between the halves. -/
def Dev.tbDiffers (d : Dev) (n : Nat) : Bool :=
  d.scale .warp n != d.scale .weft n ||
  d.w (tsuB .warp n + 0x60) != d.w (tsuB .weft n + 0x60) ||
  d.leapActive .warp != d.leapActive .weft

/-- TB_MISMATCH of every timebase (R71). -/
def tbCompare (d : Dev) : Dev :=
  d.each 16 fun n e =>
    e.compared n (d.tbDiffers n) fun x => (x.raise (tsuPg .warp n) (tbEvt n 5)).raise (tsuPg .weft n) (tbEvt n 5)

end Sys2Proof.Machine
end

