-- ==== Sys2Proof/Machine/FaultLog.lean ====
section
/-! DEFINITION. Recording a fault: classes and codes (R453, R455), the record, the log, the first-error latch and the
counters of a collector (R454, R456, R457), and the pins that show them (R458, R459). -/

namespace Sys2Proof.Machine

/-- The FLT page of a half. -/
def fltPg (h : Half) : Nat := pageAddr .flt h 0

/-- A fault as a checker signals it (R456): the page, the unit within it (0xFF for the whole page), code and class. -/
structure FaultRec where
  page : Nat
  unit : Nat
  code : Nat
  cls  : Nat
deriving DecidableEq, Repr

/-- The SRC word of a record (R456). -/
def FaultRec.src (r : FaultRec) : Nat :=
  (match typeAt r.page with | some p => p.code | none => 0) * 2 ^ 24 + idxAt r.page * 2 ^ 20 +
    (halfAt r.page).num * 2 ^ 16 + r.unit % 256 * 2 ^ 8 + r.code % 16 * 2 ^ 4 + r.cls % 4

/-- The collector that records a fault (R454): that of its half; for a shared block Warp's, or Weft's while Warp is out
of service. -/
def Dev.collector (d : Dev) (pg : Nat) : Half :=
  match typeAt pg with
  | some p => if (pageRow p).perHalf then halfAt pg else d.lead
  | none => d.lead

/-- The number of unfreed records in a half's ring (R456, as R108). -/
def Dev.fltOcc (d : Dev) (h : Half) : Nat :=
  (d.g (fltPg h) Reg.FLT.LPTR_LWR + 2 ^ 16 - d.g (fltPg h) Reg.FLT.LPTR_LRD) % 2 ^ 16

/-- The four words of a record at a slot or latch (R456). [DEDUCED log 34, 36] -/
def Dev.putRecord (d : Dev) (a src count seq : Nat) : Dev :=
  (((d.setw a src).setw (a + 4) (nsecOf count)).setw (a + 8) (secOf count % 2 ^ 32)).setw (a + 12)
    (secOf count / 2 ^ 32 % 2 ^ 16 + seq % 2 ^ 16 * 2 ^ 16)

/-- The rank of a record among those of one tick (R457): higher class first, then lower TYPE, INDEX and UNIT. -/
def srcRank (src : Nat) : Nat :=
  (3 - src % 4) * 2 ^ 24 + src / 2 ^ 20 % 2 ^ 12 * 2 ^ 8 + src / 2 ^ 8 % 2 ^ 8

/-- A record put among those of its tick, behind the ones that rank no later. [DESIGN CHOICE log 35] -/
def rankIn (src : Nat) : List Nat → List Nat
  | [] => [src]
  | x :: l => if srcRank src < srcRank x then src :: x :: l else x :: rankIn src l

/-- The SRC words of the records of one tick rewritten in the ring, the last of them standing before LWR.
[DESIGN CHOICE log 35] -/
def Dev.putBatch (d : Dev) (h : Half) (l : List Nat) : Dev :=
  let first := d.g (fltPg h) Reg.FLT.LPTR_LWR + 2 ^ 16 - l.length
  d.each l.length fun i e => e.setw (fltPg h + 0x200 + 0x10 * ((first + i) % 32)) (l[i]?.getD 0)

/-- A record offered to a half's log (R456, R457): it takes the next SEQ, fills the first-error latch if that is empty,
and goes into the ring or, when the ring holds 32 entries, is dropped and counted. Records of one tick stand in the latch
and in the ring in the order of R457. -/
def Dev.offer (d : Dev) (h : Half) (src : Nat) : Dev :=
  let pg := fltPg h
  let st := d.flt.of h
  let seq := st.seq
  let c := d.count h 0
  let full := decide (32 ≤ d.fltOcc h)
  let held := if st.batchAt = d.now then st.batch.drop (st.batch.length - d.fltOcc h) else []
  let batch := let l := rankIn src held; if full then l.take held.length else l
  let empty := !(d.gb pg Reg.FLT.FSTAT_FIRST_VALID)
  let d1 := { d with flt := d.flt.put h { st with
    seq := (seq + 1) % 2 ^ 16, batchAt := d.now, batch := batch
    latchAt := if empty then some d.now else st.latchAt } }
  let d2 :=
    if empty then (d1.putRecord (pg + 0x10C) src c seq).pb pg Reg.FLT.FSTAT_FIRST_VALID true
    else if st.latchAt = some d.now ∧ srcRank src < srcRank (d.w (pg + 0x10C)) then d1.setw (pg + 0x10C) src
    else d1
  let d3 :=
    if full then
      let d4 := if d.g pg Reg.FLT.LOST_N = 0 then d2.p pg Reg.FLT.LOST_FIRST_LOST_SEQ seq else d2
      (d4.incSat pg Reg.FLT.LOST_N).raise pg 4
    else (d2.putRecord (pg + 0x200 + 0x10 * (d.g pg Reg.FLT.LPTR_LWR % 32)) src c seq).inc pg Reg.FLT.LPTR_LWR
  d3.putBatch h batch

/-- A fault taken in by a collector: counted by class, offered to the log (C0 only with LOG_C0), with the event of its
class, FAULT_C0 only for a record that the ring takes (R456, R483). [DEDUCED log 34] -/
def Dev.collect (d : Dev) (h : Half) (src cls : Nat) : Dev :=
  let pg := fltPg h
  let d1 := d.setw (pg + 0x128 + 4 * cls) (d.w (pg + 0x128 + 4 * cls) + 1)
  if cls == 0 && !(d.gb pg Reg.FLT.FCTRL_LOG_C0) then d1
  else (d1.offer h src).raiseIf (cls != 0 || decide (d.fltOcc h < 32)) pg cls

/-- A fault recorded (R454, R460): in its collector; a C2 record also in the other half's; a C3 record sets FATAL in
both. The safe line of the half is pulled by a C2 fault, and of both halves by a C3 fault. -/
def Dev.fault (d : Dev) (r : FaultRec) : Dev :=
  let h := d.collector r.page
  let d1 := d.collect h r.src r.cls
  if r.cls = 2 then
    let d2 := d1.collect h.other r.src 2
    { d2 with half := d2.half.put h { d2.hs h with safePend := some true } }
  else if r.cls = 3 then
    let d2 := (d1.pb (fltPg .warp) Reg.FLT.FSTAT_FATAL true).pb (fltPg .weft) Reg.FLT.FSTAT_FATAL true
    { d2 with half := ⟨{ d2.hs .warp with safePend := some true }, { d2.hs .weft with safePend := some true }⟩ }
  else d1

/-- A C1 fault of a unit that leaves service under its own rule (code UNIT, R455). [DESIGN CHOICE log 38] -/
def Dev.unitFault (d : Dev) (pg unit : Nat) : Dev := d.fault { page := pg, unit := unit, code := 0xC, cls := 1 }

/-- The SRC words of the unfreed records of a half's ring, oldest first. -/
def Dev.heldRecords (d : Dev) (h : Half) : List Nat :=
  (List.range (min 32 (d.fltOcc h))).map fun i =>
    d.w (fltPg h + 0x200 + 0x10 * ((d.g (fltPg h) Reg.FLT.LPTR_LRD + i) % 32))

/-- FSTAT.ERR (R459): an unfreed C1 or C2 record, or an unfreed C0 record with ERR_C0 set. -/
def Dev.fltErr (d : Dev) (h : Half) : Bool :=
  (d.heldRecords h).any fun s =>
    s % 4 == 1 || s % 4 == 2 || (s % 4 == 0 && s != 0 && d.gb (fltPg h) Reg.FLT.FCTRL_ERR_C0)

/-- STAT.FAULT of a page (R458): an unfreed record names the page, or LOST.N is not 0. -/
def Dev.statFault (d : Dev) (pg : Nat) : Bool :=
  [Half.warp, Half.weft].any fun h =>
    d.g (fltPg h) Reg.FLT.LOST_N != 0 ||
    (d.heldRecords h).any fun s =>
      s != 0 && s / 2 ^ 16 == (FaultRec.src { page := pg, unit := 0, code := 0, cls := 0 }) / 2 ^ 16

/-- ERR_N is low while either half's FSTAT.ERR is 1 (R459). [DEDUCED log 225] -/
def Dev.errNLow (d : Dev) : Bool := d.fltErr .warp || d.fltErr .weft

/-- FATAL_N is low from the first C3 fault until VDDS is removed (R459). [DEDUCED log 225] -/
def Dev.fatalNLow (d : Dev) : Bool := d.gb (fltPg .warp) Reg.FLT.FSTAT_FATAL || d.gb (fltPg .weft) Reg.FLT.FSTAT_FATAL

/-- LRD written (R456): a write that would make the occupancy negative or above 32 is discarded. [DEDUCED log 198] -/
def lrdWritten (h : Half) (v : Nat) (d : Dev) : Dev :=
  if (d.g (fltPg h) Reg.FLT.LPTR_LWR + 2 ^ 16 - v % 2 ^ 16) % 2 ^ 16 ≤ 32 then d.p (fltPg h) Reg.FLT.LPTR_LRD v
  else d

/-- The first-error latch cleared (R457, R480). -/
def firstCleared (h : Half) (d : Dev) : Dev :=
  ((((d.setw (fltPg h + 0x10C) 0).setw (fltPg h + 0x110) 0).setw (fltPg h + 0x114) 0).setw (fltPg h + 0x118) 0).pb
    (fltPg h) Reg.FLT.FSTAT_FIRST_VALID false

/-- LOST cleared (R480). -/
def lostCleared (h : Half) (d : Dev) : Dev := d.setw (fltPg h + 0x124) 0

end Sys2Proof.Machine
end

