-- ==== Sys2Proof/Machine/Capture.lean ====
section
/-! DEFINITION. Capture points (R93 to R121): one unit's stamp (R96, R97), dead time and calibration (R98, R99), modes
(R104), intervals (R105, R106), and the pin-event queues (R107 to R112). -/

namespace Sys2Proof.Machine

/-- The TDC page of a capture point (R93). -/
def tdcPg (h : Half) (cp : Nat) : Nat := pageAddr .tdc h (cp / 16)

/-- The register block of a capture point (R113). -/
def tdcP (h : Half) (cp : Nat) : Nat := tdcPg h cp + 0x100 + 0x20 * (cp % 16)

/-- The unit of a half at a capture point. -/
def Dev.cap (d : Dev) (h : Half) (cp : Nat) : CapUnit := tget {} d.caps (h.num * 80 + cp)

/-- The device with a unit replaced. -/
def Dev.setCap (d : Dev) (h : Half) (cp : Nat) (u : CapUnit) : Dev :=
  { d with caps := tset {} d.caps (h.num * 80 + cp) u }

/-- CAP_DATA of a capture point (R115). -/
def capDataEvt (cp : Nat) : Nat := 2 * (cp % 16)

/-- CAP_ERR of a capture point (R115). -/
def capErrEvt (cp : Nat) : Nat := 2 * (cp % 16) + 1

/-- A point's units are stopped in a half that is in safe state or unpowered, and in a page in P2 or P3 (R100). -/
def Dev.capStopped (d : Dev) (h : Half) (cp : Nat) : Bool :=
  (d.hs h).safe || !(d.hs h).powered || decide (2 ≤ (d.page (tdcPg h cp)).pstate) ||
    (!(d.enabled (tdcPg h cp)) && !(d.gb (tdcP h cp) Reg.TDC.CFG_OWNED))

/-- The timebase of a point's stamps (R113). -/
def Dev.capTb (d : Dev) (h : Half) (cp : Nat) : Nat := d.g (tdcP h cp) Reg.TDC.CFG_TB

/-- The levels at which a pin's comparator goes low and high, in µV (R101): threshold less and plus half the hysteresis. THR is in
2 mV steps, at most 900; in differential mode the threshold is 0 V. -/
def Dev.pinLevels (d : Dev) (h : Half) (cp : Nat) : Int × Int :=
  let b := tdcP h cp
  let thr : Int := if d.gb b Reg.TDC.CFG_DIFF then 0 else ((2000 * min 900 (d.g b Reg.TDC.THR) : Nat) : Int)
  let half : Int := match d.g b Reg.TDC.CFG_HYST with
    | 0 => 5000
    | 1 => 12500
    | 2 => 25000
    | _ => 50000
  (thr - half, thr + half)

/-- A pin's comparator after its input goes to a level (R101): inside the hysteresis it keeps its state. -/
def Dev.comparator (d : Dev) (h : Half) (cp : Nat) (high : Bool) (level : Int) : Bool :=
  let t := d.pinLevels h cp
  if t.2 < level then true else if level < t.1 then false else high

/-- A unit whose comparator stands as new settings make it stand for the level at its pin (R102). -/
def Dev.reCompared (d : Dev) (h : Half) (cp : Nat) : Dev :=
  let u := d.cap h cp
  if 20 ≤ cp then d else d.setCap h cp { u with high := d.comparator h cp u.high u.level }

/-- Whether an edge of a direction qualifies under SLOPE (R102, R113). -/
def Dev.slopeOk (d : Dev) (h : Half) (cp : Nat) (falling : Bool) : Bool :=
  match d.g (tdcP h cp) Reg.TDC.CFG_SLOPE with
  | 1 => falling
  | 2 => true
  | _ => !falling

/-- The count increment per tick in effect, with any phase slew under way, in 2^-64 ns (R97). -/
def Dev.tickInc (d : Dev) (h : Half) (n : Nat) : Nat :=
  let t := d.tb h n
  (t.tick (d.pslew h n)).count + (if (t.tick (d.pslew h n)).count < t.count then countMod else 0) - t.count

/-- The stamp of an edge in 2^-32 ns (R97): the count at the stop tick less tau ticks of increment, tau being
1 + (Ce − C1)/(C2 − C1) clamped to 1.0 to 2.0, rounded to the nearest FRAC unit. The count at the command is the count
at the stop tick. [DESIGN CHOICE log 50] -/
def stampOf (count inc c1 c2 ce : Nat) : Nat :=
  let den : Int := if c2 ≤ c1 then 1 else c2 - c1
  let num : Int := clampInt den (2 * den) (den + ((ce : Int) - c1))
  ((((count : Int) * den - inc * num) * 2 + den * 2 ^ 32) / (2 * den * 2 ^ 32)).toNat

/-- The stamp that a half's unit makes of an edge at a point, in a timebase (R97), at the ball: less the path delay compensation
(R121). [DESIGN CHOICE log 50; DEDUCED log 65] -/
def Dev.stampAt (d : Dev) (h : Half) (cp n ce : Nat) : Nat :=
  let raw := stampOf (d.count h n) (d.tickInc h n) (d.cap h cp).c1 (d.cap h cp).c2 ce
  ((raw : Int) - tget 0 d.pathComp (h.num * 80 + cp) * 2 ^ 32 / 1000).toNat

/-- What a queue entry flags (R112). -/
structure EntryFlags where
  fall    : Bool := false
  start   : Bool := false
  stop    : Bool := false
  timeout : Bool := false
  trig    : Bool := false
  tslew   : Bool := false
deriving DecidableEq, Repr

/-- The eight words of a queue entry (R112). A stamp is in 2^-32 ns. -/
def entryWords (stamp : Nat) (f : EntryFlags) (ecnt seq tb cspan : Nat) : List Nat :=
  let sec := stamp / secFrac
  let nsec := stamp % secFrac / 2 ^ 32
  [stamp % 2 ^ 32, nsec + bitOf f.fall * 2 ^ 30, sec % 2 ^ 32, sec / 2 ^ 32 % 2 ^ 16, ecnt % 2 ^ 32,
   seq % 2 ^ 16 + bitOf f.start * 2 ^ 16 + bitOf f.stop * 2 ^ 17 + bitOf f.timeout * 2 ^ 18 + bitOf f.trig * 2 ^ 19 +
     bitOf f.tslew * 2 ^ 20 + tb % 16 * 2 ^ 24,
   cspan % 2 ^ 16, 0]

/-- The number of entries in a point's queue (R108). [DEDUCED log 223] -/
def Dev.capOcc (d : Dev) (h : Half) (cp : Nat) : Nat :=
  (d.g (tdcP h cp) Reg.TDC.QPTR_QWR + 2 ^ 16 - d.g (tdcP h cp) Reg.TDC.QPTR_QRD) % 2 ^ 16

/-- The place of word 0 of a ring slot in the queue store. -/
def capSlot (h : Half) (cp slot : Nat) : Nat := ((h.num * 80 + cp) * 64 + slot % 64) * 8

/-- A stamp offered to a point's queue (R107 to R110): it takes the next SEQ and is written at QWR, raising CAP_DATA when
it brings the occupancy up to QTHR; or, in a full queue, it is dropped and counted. The edge count is that of the edge, the span
that of the calibration used (R112). -/
def Dev.offerEntry (d : Dev) (h : Half) (cp stamp ecnt cspan : Nat) (f : EntryFlags) : Dev :=
  let b := tdcP h cp
  let u := d.cap h cp
  if !(d.gb b Reg.TDC.CFG_QEN) then d
  else
    let d1 := d.setCap h cp { u with seq := (u.seq + 1) % 2 ^ 16 }
    if 64 ≤ d.capOcc h cp then
      let d2 := d1.incSat b Reg.TDC.LOSS_LOST
      let d3 :=
        if d.gb b Reg.TDC.MISSED_FL_VALID then d2
        else (d2.p b Reg.TDC.LOSS_FIRST_LOST_SEQ u.seq).pb b Reg.TDC.MISSED_FL_VALID true
      ((d3.pb b Reg.TDC.PSTAT_ERR_LOSS true).raise (tdcPg h cp) (capErrEvt cp)).perf (tdcPg h cp) 0x03
        { address := some (cp % 16) }
    else
      let ws := entryWords stamp f ecnt u.seq (d.capTb h cp) cspan
      let slot := capSlot h cp (d.g b Reg.TDC.QPTR_QWR)
      let d2 := { d1 with capq := (List.range 8).foldl (fun t i =>
        tset 0 t (slot + i) (BitVec.ofNat 32 (ws[i]?.getD 0))) d1.capq }
      let d3 := d2.inc b Reg.TDC.QPTR_QWR
      d3.raiseIf (d.capOcc h cp + 1 == max 1 (d.g b Reg.TDC.CFG_QTHR)) (tdcPg h cp) (capDataEvt cp)

/-- A unit stamps an edge (R97, R99): the stamp goes to the blocks that use the point and to its queue, and the dead time
begins. -/
def Dev.capStamp (d : Dev) (h : Half) (cp ce : Nat) (f : EntryFlags) : Dev :=
  let u := d.cap h cp
  let stamp := d.stampAt h cp (d.capTb h cp) ce
  let d1 := d.setCap h cp
    { u with busy := true, stamp := some stamp, stamp0 := some (d.stampAt h cp 0 ce), stampEc := u.ecnt
             prev0 := u.stamp0, prevEc := u.stampEc }
  (d1.offerEntry h cp stamp u.ecnt (u.c2 - u.c1) f).perf (tdcPg h cp) 0x01 { address := some (cp % 16) }

/-- The stamp in TB0, in 2^-32 ns, that a unit made of the edge just taken, if it stamped it. -/
def CapUnit.stampedSince (u old : CapUnit) : Option Nat := if u.ecnt != old.ecnt && u.stampEc == u.ecnt then u.stamp0 else none

/-- A selected edge in the dead time is missed (R99), with CAP_ERR as for every sticky cause. [DEDUCED log 243] -/
def Dev.capMiss (d : Dev) (h : Half) (cp : Nat) : Dev :=
  let b := tdcP h cp
  ((((d.incSat b Reg.TDC.MISSED_MISSED).pb b Reg.TDC.PSTAT_ERR_MISS true).raise (tdcPg h cp) (capErrEvt cp))).perf
    (tdcPg h cp) 0x02 { address := some (cp % 16) }

/-- STOP_CP as a start takes it: a value above 79 is the point itself (R113). -/
def Dev.stopCp (d : Dev) (h : Half) (cp : Nat) : Nat :=
  let s := d.g (tdcP h cp) Reg.TDC.CFG_STOP_CP
  if 79 < s then cp else s

/-- The stop edges that an edge at `cp` is for the measurements of other points (R105), unless the unit was in its dead time: each
takes its STOP entry, with the edge count and the calibration of the stop point (R103, R112). [DEDUCED log 63, 244] -/
def Dev.capStops (d : Dev) (h : Half) (cp : Nat) (was fall : Bool) (e : EdgeSeen) : Dev :=
  let waiting := (List.range 80).filter fun y =>
    y != cp && (match (d.cap h y).iv with | some i => i.stop == cp | none => false)
      && d.g (tdcP h y) Reg.TDC.CFG_MODE == 3 && !(d.capStopped h y)
  let u := d.cap h cp
  if waiting.isEmpty || was then d
  else
    let d1 := waiting.foldl (fun x y =>
      (x.setCap h y { x.cap h y with iv := none }).offerEntry h y (d.stampAt h cp (d.capTb h y) e.ce) u.ecnt (u.c2 - u.c1)
        { fall := fall, stop := true, tslew := e.tslew }) d
    d1.setCap h cp { d1.cap h cp with busy := true }

/-- A selected or qualifying edge taken by the point's own mode (R104, R105). `sel` says that the prescaler selects the
edge (R103). An armed point passes over an edge in its dead time and stays armed. [DEDUCED log 245] -/
def Dev.capMode (d : Dev) (h : Half) (cp : Nat) (fall sel : Bool) (e : EdgeSeen) : Dev :=
  let u := d.cap h cp
  let f : EntryFlags := { fall := fall, tslew := e.tslew }
  match d.g (tdcP h cp) Reg.TDC.CFG_MODE with
  | 1 => if !sel then d else if u.busy then d.capMiss h cp else d.capStamp h cp e.ce f
  | 2 =>
    if !u.armed || u.busy then d
    else (d.setCap h cp { u with armed := false }).capStamp h cp e.ce { f with trig := true }
  | 3 =>
    match u.iv with
    | none =>
      if !sel then d else if u.busy then d.capMiss h cp
      else
        (d.setCap h cp { u with iv := some { count := d.count h (d.capTb h cp), stop := d.stopCp h cp } }).capStamp h cp e.ce
          { f with start := true }
    | some i =>
      if i.stop = cp && !u.busy then
        (d.setCap h cp { u with iv := none }).capStamp h cp e.ce { f with stop := true }
      else d
  | _ => d

/-- An input's move is an edge of a direction (R101): at a pin, the comparator goes over; at a tap, every edge is one. -/
def Dev.crosses (d : Dev) (h : Half) (cp : Nat) (fall : Bool) (e : EdgeSeen) : Bool :=
  20 ≤ cp || ((d.cap h cp).high == fall && d.comparator h cp (d.cap h cp).high e.level == !fall)

/-- An edge at a capture point as one half's unit meets it (R97 to R105): the comparator follows the input; an edge is counted if it
qualifies outside a blanking, put on the selection grid, and stamped as the mode says, every edge of an owned point being
selected. [DEDUCED log 63, 246] -/
def Dev.capEdge (d0 : Dev) (h : Half) (cp : Nat) (fall : Bool) (e : EdgeSeen) : Dev :=
  let u0 := d0.cap h cp
  let u := if 20 ≤ cp then u0 else { u0 with level := e.level, high := d0.comparator h cp u0.high e.level }
  let d := d0.setCap h cp u
  let b := tdcP h cp
  if d.capStopped h cp || !(d0.crosses h cp fall e) || !(d.slopeOk h cp fall) || decide (d.now < u.blankTo) then d
  else
    let u1 := { u with
      ecnt := u.ecnt + 1
      grid := (u.grid + 1) % (d.g b Reg.TDC.DIV + 1)
      lastAt := some (d.count h (d.capTb h cp)) }
    let d1 := d.setCap h cp u1
    if d.gb b Reg.TDC.PSTAT_OOS then d1
    else (d1.capMode h cp fall (u.grid == 0 || d.gb b Reg.TDC.CFG_OWNED) e).capStops h cp u.busy fall e

/-- A unit after its dead time (R97, R98): an in-range calibration re-arms it; the sixteenth failure in a row takes it out
of service. [DESIGN CHOICE log 62] -/
def Dev.capCalibrate (d : Dev) (h : Half) (cp c1 c2 : Nat) : Dev :=
  let b := tdcP h cp
  let u := d.cap h cp
  let ok := decide (1900 ≤ c2 - c1) && decide (c2 - c1 ≤ 2100) && decide (c1 ≤ c2)
  if d.gb b Reg.TDC.PSTAT_OOS || d.capStopped h cp then d
  else
    let d1 := (d.pb b Reg.TDC.PSTAT_CAL_OK ok).p b Reg.TDC.LAST_CAL (c2 - c1)
    if ok then d1.setCap h cp { u with c1 := c1, c2 := c2, fails := 0, busy := false }
    else if u.fails + 1 < 16 then d1.setCap h cp { u with fails := u.fails + 1 }
    else
      ((((d1.setCap h cp { u with fails := 16 }).pb b Reg.TDC.PSTAT_OOS true).pb b Reg.TDC.PSTAT_ERR_CAL true).raise
        (tdcPg h cp) (capErrEvt cp)).unitFault (tdcPg h cp) (cp % 16)

/-- QRD written (R108): a write that would make the occupancy negative or above 64 is discarded with ERR_QPTR and
CAP_ERR. [DEDUCED log 198] -/
def qrdWritten (h : Half) (cp v : Nat) (d : Dev) : Dev :=
  let b := tdcP h cp
  if (d.g b Reg.TDC.QPTR_QWR + 2 ^ 16 - v % 2 ^ 16) % 2 ^ 16 ≤ 64 then d.p b Reg.TDC.QPTR_QRD v
  else (d.pb b Reg.TDC.PSTAT_ERR_QPTR true).raise (tdcPg h cp) (capErrEvt cp)

/-- MISSED.CLR (R111): MISSED, LOST, FL_VALID and the sticky causes, all together. [DEDUCED log 64] -/
def missedCleared (h : Half) (cp : Nat) (d : Dev) : Dev :=
  let b := tdcP h cp
  let d1 := ((d.p b Reg.TDC.MISSED_MISSED 0).p b Reg.TDC.LOSS_LOST 0).pb b Reg.TDC.MISSED_FL_VALID false
  d1.setw (b + 0x18) (d1.w (b + 0x18) % 2 ^ 8)

/-- The comparator settings of CFG: SLOPE, DIFF and HYST (R102). -/
def comparatorBits : Nat := 0xE00C

/-- CFG written (R94, R102, R104, R113): the writable bits of the point; DIFF only at pin points. A change of SLOPE, DIFF
or HYST blanks the comparator for 100 ns; a change of MODE takes effect at once and ends arming and a started interval. -/
def capCfgWritten (h : Half) (cp v : Nat) (d : Dev) : Dev :=
  let b := tdcP h cp
  let old := d.w b
  let new0 := mergeWrite b old v
  let new := if 20 ≤ cp then new0 &&& (0xFFFFFFFF - 0x2000) else new0
  let u := d.cap h cp
  let u1 := if old &&& comparatorBits ≠ new &&& comparatorBits then { u with blankTo := d.now + 25 } else u
  let u2 := if old % 4 ≠ new % 4 then { u1 with armed := false, iv := none } else u1
  ((d.setw b new).setCap h cp u2).reCompared h cp

/-- THR written (R101, R102): takes effect at once and blanks the comparator for 100 ns. -/
def thrWritten (h : Half) (cp v : Nat) (d : Dev) : Dev :=
  let b := tdcP h cp
  ((d.p b Reg.TDC.THR v).setCap h cp { d.cap h cp with blankTo := d.now + 25 }).reCompared h cp

/-- DIV written (R113): the selection grid restarts at the next qualifying edge. -/
def divWritten (h : Half) (cp v : Nat) (d : Dev) : Dev :=
  (d.p (tdcP h cp) Reg.TDC.DIV v).setCap h cp { d.cap h cp with grid := 0 }

/-- An interval measurement ends without a stop edge (R106): 1 s has passed in the point's timebase, or the stop point's
unit is out of service. -/
def Dev.capTimeout (d : Dev) (h : Half) (cp : Nat) : Dev :=
  let u := d.cap h cp
  match u.iv with
  | none => d
  | some i =>
    if i.count + secUnit ≤ d.count h (d.capTb h cp) || d.gb (tdcP h i.stop) Reg.TDC.PSTAT_OOS || d.capStopped h i.stop then
      (d.setCap h cp { u with iv := none }).offerEntry h cp 0 u.ecnt (u.c2 - u.c1) { stop := true, timeout := true }
    else d

/-- A pulse on an internal trigger line arms every ARMED point of the half that names it (R104); a point already armed
ignores it. -/
def Dev.triggerLine (d : Dev) (h : Half) (line : Nat) : Dev :=
  d.each 80 fun cp e =>
    if e.g (tdcP h cp) Reg.TDC.CFG_MODE == 2 && e.g (tdcP h cp) Reg.TDC.CFG_TRIG == line then
      e.setCap h cp { e.cap h cp with armed := true }
    else e

/-- The settings of a pin point differ between the halves (R114): MODE, SLOPE, TB, DIFF, HYST, THR and DIV. -/
def Dev.pinDiffers (d : Dev) (cp : Nat) : Bool :=
  let a := tdcP .warp cp
  let b := tdcP .weft cp
  d.w a &&& 0xE0FF != d.w b &&& 0xE0FF || d.g a Reg.TDC.THR != d.g b Reg.TDC.THR || d.g a Reg.TDC.DIV != d.g b Reg.TDC.DIV

/-- The comparison of every pin point (R114): ERR_MISMATCH is set at each that finds a difference, and CAP_ERR raised once for each
divergence. -/
def pinCompare (d : Dev) : Dev :=
  d.each 20 fun cp e =>
    let e1 := if d.pinDiffers cp then
        (e.pb (tdcP .warp cp) Reg.TDC.PSTAT_ERR_MISMATCH true).pb (tdcP .weft cp) Reg.TDC.PSTAT_ERR_MISMATCH true
      else e
    e1.compared (100 + cp) (d.pinDiffers cp) fun x =>
      [Half.warp, Half.weft].foldl (fun y h => y.raise (tdcPg h cp) (capErrEvt cp)) x

/-- TEMP_COMPENSATE (R121): the compensation of the points named, in ps, as the die sensors next to them give it.
[DEDUCED log 65] -/
def pathsCompensated (h : Half) (ps : List (Nat × Int)) (d : Dev) : Dev :=
  ps.foldl (fun (e : Dev) (x : Nat × Int) =>
    if 80 ≤ x.1 || e.capStopped h x.1 then e
    else { e with pathComp := tset 0 e.pathComp (h.num * 80 + x.1) x.2 }) d

/-- PSTAT.ACT (R113): a qualifying edge was seen in the last second of the point's timebase. -/
def Dev.capAct (d : Dev) (h : Half) (cp : Nat) : Bool :=
  match (d.cap h cp).lastAt with
  | none => false
  | some c => decide (d.count h (d.capTb h cp) < c + secUnit)

end Sys2Proof.Machine
end

