-- ==== Sys2Proof/Machine/Refs.lean ====
section
/-! DEFINITION. Reference candidates: quality ranks (R127, R128), states (R129, R130), native faults (R131), the
activity and frequency monitors (R132, R133), and the writes of the REF page (R149). -/

namespace Sys2Proof.Machine

/-- The REF page of a candidate. -/
def refPg (h : Half) (c : Nat) : Nat := pageAddr .ref h (c / 8)

/-- The register block of a candidate (R149). -/
def refQ (h : Half) (c : Nat) : Nat := refPg h c + 0x100 + 0x40 * (c % 8)

/-- Event word `k` of a candidate: REF_FAILED, REF_QUALIFIED, REF_QR_CHANGE, REF_SUSPECT (R151). -/
def refEvt (c k : Nat) : Nat := 4 * (c % 8) + k

/-- The SEL page of a half. -/
def selPg (h : Half) : Nat := pageAddr .sel h 0

/-- The register block of a selector (R150). -/
def selS (h : Half) (n : Nat) : Nat := selPg h + 0x100 + 0x40 * n

/-- A candidate's engine. -/
def Dev.cand (d : Dev) (h : Half) (c : Nat) : Cand := tget {} d.cands (h.num * 32 + c)

/-- The device with a candidate's engine replaced. -/
def Dev.setCand (d : Dev) (h : Half) (c : Nat) (v : Cand) : Dev :=
  { d with cands := tset {} d.cands (h.num * 32 + c) v }

/-- STATE of a candidate (R129): 0 OFF, 1 FAILED, 2 QUALIFYING, 3 QUALIFIED, 4 SUSPECT. -/
def Dev.cstate (d : Dev) (h : Half) (c : Nat) : Nat := d.g (refQ h c) Reg.REF.CSTAT_STATE

/-- QUALIFIED or SUSPECT: usable (R129). -/
def Dev.usable (d : Dev) (h : Half) (c : Nat) : Bool := d.cstate h c == 3 || d.cstate h c == 4

/-- Count of the half that times the shared schedules (R19). -/
def Dev.schedCount (d : Dev) : Nat := d.count d.sched.half 0

/-- The effective QR of a candidate (R128). -/
def Dev.effQr (d : Dev) (h : Half) (c : Nat) : Nat :=
  if d.gb (refQ h c) Reg.REF.CTRL_QR_FIX then d.g (refQ h c) Reg.REF.CTRL_FIX_QR else d.g (refQ h c) Reg.REF.CSTAT_RX_QR

/-- The rank of a candidate before demotion, with QL_EN as given (R128). -/
def Dev.rank0 (d : Dev) (h : Half) (qlEn : Bool) (c : Nat) : Nat :=
  (if qlEn then d.effQr h c * 16 else 0) + d.g (refQ h c) Reg.REF.CTRL_PRIO

/-- The rank of a candidate in a selector, demoted by 1 up to 255 while SUSPECT (R128). -/
def Dev.rank (d : Dev) (h : Half) (n c : Nat) : Nat :=
  let r := d.rank0 h (d.en (selPg h) (selS h n) Reg.SEL.SCTRL_QL_EN) c
  if d.cstate h c = 4 then min 255 (r + 1) else r

/-- The capture point that measures a candidate's edges, if one does (R122): a pin, ATOMIN, or a word clock. -/
def candCp (c : Nat) : Option Nat :=
  if c ≤ 11 then some c else if c = 13 then some 12 else if 14 ≤ c && c ≤ 21 then some (c + 10) else none

/-- The register block of client instance `k` (R361). -/
def instC (h : Half) (k : Nat) : Nat := pageAddr .trs h 0 + 0x3A0 + 0x40 * k

/-- PIN_MODE of a pin candidate: 3 is treated as FREQ; other candidates read 0 (R149). -/
def Dev.pinMode (d : Dev) (h : Half) (c : Nat) : Nat :=
  if c ≤ 11 then (match d.g (refQ h c) Reg.REF.CTRL_PIN_MODE with | 1 => 1 | 2 => 2 | _ => 0) else 0

/-- Whether a candidate gives time rather than frequency only (R122, R126). -/
def Dev.isTime (d : Dev) (h : Half) (c : Nat) : Bool :=
  (c ≤ 11 && d.pinMode h c != 0) || c == 12 || (22 ≤ c && c ≤ 29)

/-- The FAULT bits of R131, numbered from 0 for ACT. -/
def faultACT : Nat := 0
/-- FREQ. -/
def faultFREQ : Nat := 1
/-- MSG. -/
def faultMSG : Nat := 2
/-- QL. -/
def faultQL : Nat := 3
/-- INTEG. -/
def faultINTEG : Nat := 4
/-- LINK. -/
def faultLINK : Nat := 5
/-- CAL. -/
def faultCAL : Nat := 6
/-- CFG. -/
def faultCFG : Nat := 7

/-- CFG of a candidate: of a pin (R125, R126, R131), a point that it uses not in STAMP mode or with selected edges above 1 kHz,
PPS_FREQ on an odd pin, or the pin taken as the marker of the pin below it; of C12, for good in the VXH8256-N, whose GNS page is
isolated without a test under way (R7). -/
def Dev.cfgFault (d : Dev) (h : Half) (c : Nat) : Bool :=
  let gns := pageAddr .gns .warp 0
  if c = 12 then (d.page gns).isolated && !(match d.bist with | some r => r.page == gns | none => false)
  else if 11 < c then false
  else
    let unmet := fun cp => d.g (tdcP h cp) Reg.TDC.CFG_MODE != 1 || (d.cand h cp).fast
    unmet c || (d.pinMode h c == 2 && (c % 2 == 1 || unmet (c + 1))) || (c % 2 == 1 && d.pinMode h (c - 1) == 2)

/-- The capture points that a candidate is measured by (R122, R126, R131): of C12, those of the enabled band inputs; of the
client instances, the receive word clock of their port; of the Selvedge candidates, both markers of their link; of C13, the
oscillator and its second marker; of a PPS_FREQ pin, its marker too. [DEDUCED log 247] -/
def Dev.candCps (d : Dev) (h : Half) (c : Nat) : List Nat :=
  if c = 12 then ((List.range 4).filter fun b => d.gb (pageAddr .gnf .warp 0 + 0x100 + 0x100 * b) Reg.GNF.BCFG_EN).map (20 + ·)
  else if c = 13 then [12, 13]
  else if 22 ≤ c && c ≤ 25 then [24 + d.g (instC h (c - 22)) Reg.TRS.ICFG_PORT]
  else if 26 ≤ c then [64 + 2 * (c - 26), 65 + 2 * (c - 26)]
  else if d.pinMode h c = 2 then [c, c + 1]
  else (candCp c).toList

/-- CAL of a candidate: a capture unit that it is measured by in this half is out of service (R131). -/
def Dev.calFault (d : Dev) (h : Half) (c : Nat) : Bool := (d.candCps h c).any fun cp => d.gb (tdcP h cp) Reg.TDC.PSTAT_OOS

/-- The port's link is up (R272). -/
def Dev.portUp (d : Dev) (p : Nat) : Bool := d.gb (pageAddr .pcs (Half.ofNum p) (p / 2)) Reg.PCS.PSTAT_LINK_UP

/-- The SLV register block of link `s` (R431). -/
def slvL (s : Nat) : Nat := pageAddr .slv (Half.ofNum (s / 2)) 0 + 0x100 + 0x80 * (s % 2)

/-- LINK of C14 to C29 (R131): the port's link is down, or the Selvedge link is down or its time transfer invalid. -/
def Dev.linkFault (d : Dev) (h : Half) (c : Nat) : Bool :=
  if c < 14 then false
  else if c ≤ 21 then !(d.portUp (c - 14))
  else if c ≤ 25 then !(d.portUp (d.g (instC h (c - 22)) Reg.TRS.ICFG_PORT))
  else !(d.gb (slvL (c - 26)) Reg.SLV.LSTAT_UP && d.gb (slvL (c - 26)) Reg.SLV.LSTAT_XFER_VALID)

/-- A FAULT byte with one bit set or cleared. -/
def withFault (f bit : Nat) (v : Bool) : Nat := setBits f bit 1 (bitOf v)

/-- A candidate selected by a selector whose transaction has not reached COMMIT (R130, ride-through).
[DEDUCED log 77] -/
def Dev.rideThrough (d : Dev) (h : Half) (c : Nat) : Bool :=
  (List.range 16).any fun n =>
    d.g (selS h n) Reg.SEL.SSTAT_SEL_C == c && d.g (selS h n) Reg.SEL.SSTAT_XPH != 0

/-- The SUSPECT bit of a candidate in the SEL page (R150). -/
def Dev.putSuspect (d : Dev) (h : Half) (c : Nat) (v : Bool) : Dev :=
  d.setw (selPg h + 0x504) (setBits (d.w (selPg h + 0x504)) c 1 (bitOf v))

/-- A candidate's state moved to a value; leaving QUALIFIED or SUSPECT loses the mark (R147). -/
def Dev.putCstate (d : Dev) (h : Half) (c v : Nat) : Dev :=
  let d1 := (d.p (refQ h c) Reg.REF.CSTAT_STATE v).putSuspect h c (v == 4)
  let u := d1.cand h c
  d1.setCand h c { u with voteRun := 0, votePh := if v = 3 ∨ v = 4 then u.votePh else none, gap := u.gap || decide (v ≤ 1) }

/-- The FAULT byte of a candidate takes a value and its state follows (R130). -/
def Dev.putFaults (d : Dev) (h : Half) (c f : Nat) : Dev :=
  let d1 := d.p (refQ h c) Reg.REF.CSTAT_FAULT f
  let st := d.cstate h c
  if st = 0 then d1
  else if f % 256 ≠ 0 then
    (if st = 1 then d1 else (d1.putCstate h c 1).raise (refPg h c) (refEvt c 0))
  else if st = 1 then
    (if d.rideThrough h c then d1.putCstate h c 3
     else
       let d2 := d1.putCstate h c 2
       d2.setCand h c { d2.cand h c with holdAt := d.schedCount })
  else d1

/-- One fault of a candidate set or cleared. -/
def Dev.putFault (d : Dev) (h : Half) (c bit : Nat) (v : Bool) : Dev :=
  d.putFaults h c (withFault (d.g (refQ h c) Reg.REF.CSTAT_FAULT) bit v)

/-- The time for which slipped edges fail a candidate is over (R170): FREQ is as its monitor has it. -/
def slipEnded (h : Half) (c : Nat) (d : Dev) : Dev :=
  let u := d.cand h c
  match u.failTo with
  | some t =>
    if t ≤ d.count h 0 then (d.setCand h c { u with failTo := none }).putFault h c faultFREQ u.freqBad else d
  | none => d

/-- The faults that follow from settings, links and quality taken afresh: QL, LINK, CAL and CFG (R131). -/
def candRefresh (h : Half) (c : Nat) (d0 : Dev) : Dev :=
  let d := slipEnded h c d0
  let f := d.g (refQ h c) Reg.REF.CSTAT_FAULT
  let f1 := withFault f faultQL (d.effQr h c == 15)
  let f2 := withFault f1 faultCAL (d.calFault h c)
  let f3 := withFault f2 faultCFG (d.cfgFault h c)
  d.putFaults h c (withFault f3 faultLINK (d.linkFault h c))

/-- The faults of the candidates that a capture point bears on, taken afresh (R125, R126, R131). -/
def pointRefresh (h : Half) (cp : Nat) (d : Dev) : Dev :=
  d.each 30 fun c e => if (e.candCps h c).contains cp then candRefresh h c e else e

/-- The faults of every enabled candidate of a half evaluated (R131). [DEDUCED log 47, 70] -/
def candsEvaluated (h : Half) (d : Dev) : Dev :=
  d.each 30 fun c e => if e.cstate h c = 0 then e else candRefresh h c e

/-- The native QR of a candidate takes a value (R130): a change raises REF_QR_CHANGE and moves the state. -/
def nativeQr (h : Half) (c q : Nat) (d : Dev) : Dev :=
  if d.g (refQ h c) Reg.REF.CSTAT_RX_QR = q then d
  else candRefresh h c ((d.p (refQ h c) Reg.REF.CSTAT_RX_QR q).raise (refPg h c) (refEvt c 2))

/-- The monitors restarted (R133): bucket empty, a new interval grid and window, ACT and FREQ cleared. -/
def monitorsRestart (h : Half) (c : Nat) (d : Dev) : Dev :=
  let cp := (candCp c).getD 0
  let u := d.cap h cp
  let d1 := (d.p (refQ h c) Reg.REF.MONLVL 0).setCand h c
    { d.cand h c with
      run := 0, mark := none, freqBad := false, failTo := none, ecSeen := u.ecnt, fwin := u.stamp0.map fun s => (s, u.stampEc)
      amonAt := d.count .warp 0, fmonAt := d.count h 0 }
  let f := d.g (refQ h c) Reg.REF.CSTAT_FAULT
  d1.putFaults h c (withFault (withFault f faultACT false) faultFREQ false)

/-- EN written (R130): OFF with 0; with 1 from OFF, the monitors start and the candidate is QUALIFYING, or FAILED if a
fault is present. -/
def refEnWritten (h : Half) (c : Nat) (v : Bool) (d : Dev) : Dev :=
  let q := refQ h c
  if d.gb q Reg.REF.CTRL_EN = v then d
  else if !(d.enabled (refPg h c)) then d.pb q Reg.REF.CTRL_EN v
  else if v then
    let d1 := monitorsRestart h c (d.pb q Reg.REF.CTRL_EN true)
    let d2 := d1.putCstate h c 2
    candRefresh h c (d2.setCand h c { d2.cand h c with holdAt := d.schedCount })
  else (d.pb q Reg.REF.CTRL_EN false).putCstate h c 0

/-- The candidate as after EN written 1 (R130, R564): monitors restarted and the hold-off timer from 0. -/
def refRestart (h : Half) (c : Nat) (d : Dev) : Dev :=
  if d.en (refPg h c) (refQ h c) Reg.REF.CTRL_EN then refEnWritten h c true (refEnWritten h c false d) else d

/-- The whole CTRL word of a candidate written (R149). QR_FIX is read-only for candidates without a native quality,
PIN_MODE for all but the pins, and the monitor enables for C22 and above. -/
def refCtrlWritten (h : Half) (c v : Nat) (d : Dev) : Dev :=
  let q := refQ h c
  let d0 := if c ≤ 11 || c == 13 then d else d.p q Reg.REF.CTRL_QR_FIX (v / 8)
  let d1 := (d0.p q Reg.REF.CTRL_FIX_QR (v / 16)).p q Reg.REF.CTRL_PRIO (v / 256)
  let d2 :=
    if 21 < c then d1
    else
      let x := d1.cand h c
      let cp := (candCp c).getD 0
      let am := bitAt v 12 && !(d.gb q Reg.REF.CTRL_AMON_EN)
      let fm := bitAt v 13 && !(d.gb q Reg.REF.CTRL_FMON_EN)
      let e := ((d1.pb q Reg.REF.CTRL_AMON_EN (bitAt v 12)).pb q Reg.REF.CTRL_FMON_EN (bitAt v 13)).setCand h c { x with
        amonAt := if am then d.count .warp 0 else x.amonAt, ecSeen := if am then (d.cap h cp).ecnt else x.ecSeen
        fmonAt := if fm then d.count h 0 else x.fmonAt
        fwin := if fm then (d.cap h cp).stamp0.map fun s => (s, (d.cap h cp).stampEc) else x.fwin }
      let e1 := if bitAt v 12 then e else e.putFault h c faultACT false
      if bitAt v 13 then e1
      else (e1.setCand h c { e1.cand h c with freqBad := false, failTo := none }).putFault h c faultFREQ false
  let modeChange := decide (c ≤ 11) && d.g q Reg.REF.CTRL_PIN_MODE != v / 2 % 4
  let d3 :=
    if modeChange then
      let e := monitorsRestart h c (d2.p q Reg.REF.CTRL_PIN_MODE (v / 2))
      if e.cstate h c = 0 then e
      else
        let e1 := e.putCstate h c 2
        candRefresh h c (e1.setCand h c { e1.cand h c with holdAt := d.schedCount })
    else d2
  refEnWritten h c (bitAt v 0) d3

/-- The half that owns a port: even ports are Warp's. -/
def portHalf (p : Nat) : Half := Half.ofNum p

/-- The PCS page of a port. -/
def pcsPg (p : Nat) : Nat := pageAddr .pcs (portHalf p) (p / 2)

/-- MODE in effect (R269): values above 5 are OFF. -/
def Dev.portMode (d : Dev) (p : Nat) : Nat :=
  let m := d.g (pcsPg p) Reg.PCS.PCFG_MODE
  if 5 < m then 0 else m

/-- The recovered word clock in Hz (R269). -/
def modeClock (m : Nat) : Nat := if m = 0 then 0 else if m = 1 then 156250000 else 390625000

/-- NOMFREQ as it reads (R149): for C14 to C21 the word clock of the port's accepted mode, 0 while the port is OFF or its
setting is refused; 0 for the candidates without edges. [DEDUCED log 79] -/
def Dev.nomRead (d : Dev) (h : Half) (c : Nat) : Nat :=
  if 14 ≤ c && c < 22 then
    (if d.gb (pcsPg (c - 14)) Reg.PCS.PSTAT_REFUSED then 0 else modeClock (d.portMode (c - 14)))
  else if c = 12 ∨ 22 ≤ c then 0
  else d.g (refQ h c) Reg.REF.NOMFREQ

/-- NOMFREQ of a candidate, with its zero (R149). -/
def Dev.nomFreq (d : Dev) (h : Half) (c : Nat) : Nat := max 1 (d.nomRead h c)

/-- NOMFREQ written: a change restarts both monitors (R133, R149). It is read-only for the recovered clocks and reads 0
for candidates without edges. [DEDUCED log 79] -/
def nomFreqWritten (h : Half) (c v : Nat) (d : Dev) : Dev :=
  if 14 ≤ c || c == 12 then d
  else if d.g (refQ h c) Reg.REF.NOMFREQ = v then d
  else monitorsRestart h c (d.p (refQ h c) Reg.REF.NOMFREQ v)

/-- AMON.REJ and AMON.ACC with its limit: at or above REJ it is treated as REJ − 1 (R149). -/
def Dev.amonAcc (d : Dev) (h : Half) (c : Nat) : Nat :=
  let rej := d.g (refQ h c) Reg.REF.AMON_REJ
  let acc := d.g (refQ h c) Reg.REF.AMON_ACC
  if rej ≤ acc then rej - 1 else acc

/-- The monitors of a candidate run: C0 to C21 but C12, with EN and the monitor's own enable (R129, R131). -/
def Dev.monOn (d : Dev) (h : Half) (c : Nat) (en : Fld) : Bool :=
  decide (c ≤ 21) && c != 12 && d.en (refPg h c) (refQ h c) Reg.REF.CTRL_EN && d.gb (refQ h c) en

/-- An activity interval, in 2^-64 ns (R132): 1.5 periods of NOMFREQ below 2 kHz, and 1 ms from there. -/
def Dev.amonLength (d : Dev) (h : Half) (c : Nat) : Nat :=
  if d.nomFreq h c < 2000 then 3 * secUnit / (2 * d.nomFreq h c) else 10 ^ 6 * nsUnit

/-- A time of a monitor is over at a count: its length has passed since it began, or the count has been stepped back before its
beginning. [DEDUCED log 248] -/
def monDue (began len now : Nat) : Bool := decide (began + len ≤ now) || decide (now < began)

/-- The count at which a monitor's next time begins: on the grid, or now after a step back. -/
def monNext (began len now : Nat) : Nat := if now < began then now else began + len

/-- The end of an activity interval (R132), once it has passed in Warp's TB0: the bucket rises with no edge, falls after DECAY
intervals with edges, and fault ACT follows it. [DEDUCED log 248] -/
def amonInterval (h : Half) (c : Nat) (d : Dev) : Dev :=
  if !(d.monOn h c Reg.REF.CTRL_AMON_EN) || !(monDue (d.cand h c).amonAt (d.amonLength h c) (d.count .warp 0)) then d
  else
    let q := refQ h c
    let st := { d.cand h c with amonAt := monNext (d.cand h c).amonAt (d.amonLength h c) (d.count .warp 0) }
    let u := d.cap h ((candCp c).getD 0)
    let edges := u.ecnt != st.ecSeen
    let b := d.g q Reg.REF.MONLVL
    let decay := max 1 (d.g q Reg.REF.AMON_DECAY)
    let run := if edges then st.run + 1 else 0
    let hit := edges && decide (decay ≤ run)
    let b1 := if edges then (if hit then b - 1 else b) else min 255 (b + 1)
    let d1 := (d.p q Reg.REF.MONLVL b1).setCand h c { st with run := if hit then 0 else run, ecSeen := u.ecnt }
    if d.g q Reg.REF.AMON_REJ ≤ b1 then d1.putFault h c faultACT true
    else if b1 ≤ d.amonAcc h c then d1.putFault h c faultACT false
    else d1

/-- A fractional frequency offset in parts of `k` from edges counted and the time they took in 2^-32 ns, against a nominal in
Hz, toward zero (R133). -/
def freqOfs (k : Int) (edges time nom : Nat) : Int :=
  if time = 0 then 0
  else (((edges * secFrac : Nat) : Int) - (nom * time : Nat)) * k |>.tdiv (nom * time : Nat)

/-- FOFS in 10^-12 (R133). [DEDUCED log 54] -/
def fofsOf (edges time nom : Nat) : Int := freqOfs (10 ^ 12) edges time nom

/-- A frequency window is over (R133): 1 s of the half's TB0 for a NOMFREQ of 1 kHz or more, else 16 selected edges.
[DEDUCED log 248] -/
def Dev.fmonDue (d : Dev) (h : Half) (c : Nat) : Bool :=
  let st := d.cand h c
  let cp := (candCp c).getD 0
  if 1000 ≤ d.nomFreq h c then monDue st.fmonAt secUnit (d.count h 0)
  else match st.fwin with
    | some w => decide (16 * (d.g (tdcP h cp) Reg.TDC.DIV + 1) + w.2 ≤ (d.cap h cp).stampEc)
    | none => true

/-- The end of a frequency window (R133), once it is over: FOFS from the edge counts and stamps in TB0 at its ends, and fault
FREQ. [DEDUCED log 248] -/
def fmonWindow (h : Half) (c : Nat) (d : Dev) : Dev :=
  if !(d.monOn h c Reg.REF.CTRL_FMON_EN) || !(d.fmonDue h c) then d
  else
    let q := refQ h c
    let st := { d.cand h c with fmonAt := monNext (d.cand h c).fmonAt secUnit (d.count h 0) }
    let slips := match st.failTo with | some t => decide (d.count h 0 < t) | none => false
    let u := d.cap h ((candCp c).getD 0)
    match st.fwin, u.stamp0 with
    | some w, some s =>
      if s ≤ w.1 then d.setCand h c st
      else
        let f := fofsOf ((u.stampEc + 2 ^ 32 - w.2) % 2 ^ 32) (s - w.1) (d.nomFreq h c)
        let rej := d.g q Reg.REF.FMON_REJ
        let acc := if rej ≤ d.g q Reg.REF.FMON_ACC then rej - 1 else d.g q Reg.REF.FMON_ACC
        let bad := decide (rej * 1000 < f.natAbs) || (st.freqBad && decide (acc * 1000 < f.natAbs))
        ((d.p q Reg.REF.FOFS (unsignedOf 32 f)).setCand h c
          { st with fwin := some (s, u.stampEc), freqBad := bad, failTo := if slips then st.failTo else none }).putFault
            h c faultFREQ (bad || slips)
    | _, some s => d.setCand h c { st with fwin := some (s, u.stampEc) }
    | _, none => d.setCand h c st

/-- The wait-to-restore timers of a candidate start in every selector of a half (R143). -/
def Dev.startWtr (d : Dev) (h : Half) (c : Nat) : Dev :=
  { d with wtr := (List.range 16).foldl (fun t n =>
      tset 0 t ((h.num * 16 + n) * 32 + c)
        (let w := d.g (selS h n) Reg.SEL.TIMERS_WTR
         if w = 0 then 0 else d.schedCount + w * secUnit)) d.wtr }

/-- The wait-to-restore timer of a candidate in a selector runs. -/
def Dev.wtrRuns (d : Dev) (h : Half) (n c : Nat) : Bool := tget 0 d.wtr ((h.num * 16 + n) * 32 + c) != 0

/-- QUAL.HOLD seconds have passed without a fault (R130): QUALIFYING becomes QUALIFIED, with its event and timers. -/
def qualHold (h : Half) (c : Nat) (d : Dev) : Dev :=
  if d.cstate h c == 2 && decide ((d.cand h c).holdAt + d.g (refQ h c) Reg.REF.QUAL * secUnit ≤ d.schedCount) then
    ((d.putCstate h c 3).raise (refPg h c) (refEvt c 1)).startWtr h c
  else d

/-- A wait-to-restore timer expires (R143). -/
def wtrExpired (h : Half) (n c : Nat) (d : Dev) : Dev :=
  let k := (h.num * 16 + n) * 32 + c
  if tget 0 d.wtr k ≤ d.schedCount then { d with wtr := tset 0 d.wtr k 0 } else d

/-- The offset of a half's timebase from its TB0 in ps, toward zero. -/
def Dev.tbDiff (d : Dev) (h : Half) (n : Nat) : Int := (((d.count h n : Int) - d.count h 0) * 1000).tdiv nsUnit

/-- PHASE of a candidate in ps (R134). -/
def Dev.phase (d : Dev) (h : Half) (c : Nat) : Int := d.s48 (refQ h c) Reg.REF.PHASE_LO Reg.REF.PHASE_HI

/-- A phase in ps taken modulo 1 s into −0.5 s to +0.5 s (R126). -/
def wrapHalf (x : Int) : Int := if 2 * (x % 10 ^ 12) < 10 ^ 12 then x % 10 ^ 12 else x % 10 ^ 12 - 10 ^ 12

/-- The phase of a candidate against a timebase of its half in ps: its phase against TB0 with the timebase's distance from TB0, a
PPS candidate's modulo 1 s (R126). -/
def Dev.phaseIn (d : Dev) (h : Half) (c n : Nat) : Int :=
  let x := d.phase h c + d.tbDiff h n
  if d.pinMode h c = 0 then x else wrapHalf x

/-- The averaging time of holdover in seconds (R177). -/
def Dev.hbwAvg (d : Dev) (h : Half) : Nat := max 1 (d.g (pageAddr .hld h 0) Reg.HLD.HBW_AVG)

/-- The last phase of the atomic oscillator kept for the anchors of holdover (R164). -/
def atomNoted (h : Half) (d : Dev) : Dev :=
  let m := d.hold.of h
  let now := d.count h 0
  let x : PhSample := { at_ := now, ph := d.phase h 13, ofs := (List.range 16).map (d.tbDiff h), tSum := m.tSum }
  let l := x :: m.phs.filter fun y => decide (now < y.at_ + d.hbwAvg h * secUnit)
  { d with hold := d.hold.put h { m with phs := l } }

/-- A phase measurement of a candidate against TB0 in ps, before DELAY (R134): PHASE, and the build-out averages of every
selector that holds it as target (R140). None is taken of a candidate that is OFF (R129). [DEDUCED log 80] -/
def candMeasured (h : Half) (c : Nat) (raw : Int) (d : Dev) : Dev :=
  if d.cstate h c = 0 then d else
  let ph := raw - signedOf 32 (d.g (refQ h c) Reg.REF.DELAY)
  let d1 := (d.ps48 (refQ h c) Reg.REF.PHASE_LO Reg.REF.PHASE_HI ph).setCand h c
    { d.cand h c with measNo := (d.cand h c).measNo + 1 }
  (if c = 13 then atomNoted h d1 else d1).each 16 fun n e =>
    let k := h.num * 16 + n
    let st := tget {} e.sels k
    if e.g (selS h n) Reg.SEL.SSTAT_XPH == 2 && e.g (selS h n) Reg.SEL.SSTAT_TGT_C == c && !st.ready then
      { e with sels := tset {} e.sels k { st with boSum := st.boSum + e.phaseIn h c n, boN := st.boN + 1 } }
    else e

/-- A stamp in ps, to the nearest. [DEDUCED log 68] -/
def stampPs (stamp : Nat) : Int := ((stamp * 1000 + 2 ^ 31) / 2 ^ 32 : Nat)

/-- The measurement of a PPS candidate from a stamp of its point, in ps before DELAY: such that the phase after DELAY lies in
-0.5 s to +0.5 s (R126). [DEDUCED log 68] -/
def Dev.ppsRaw (d : Dev) (h : Half) (c stamp : Nat) : Int :=
  let delay := signedOf 32 (d.g (refQ h c) Reg.REF.DELAY)
  wrapHalf (stampPs stamp - delay) + delay

/-- A frequency candidate measured from a stamp and its edge count: the stamp's distance from the nominal grid in ps, whose
origin has no meaning. After a time in which edges may have been lost the grid moves by whole selected periods of `n` edges,
to the place nearest to the last measurement (DEDUCED: a resumption under R142 finds no phase step).
[DESIGN CHOICE log 66] -/
def Dev.freqMeasured (d : Dev) (h : Half) (c n stamp ec : Nat) : Dev :=
  let u := d.cand h c
  let nom : Int := d.nomFreq h c
  let raw := fun (k : Int) => stampPs stamp - k * 10 ^ 12 / nom
  let last := d.phase h c + signedOf 32 (d.g (refQ h c) Reg.REF.DELAY)
  let per : Int := n * 10 ^ 12
  let slip := if u.gap && per != 0 then u.slip + n * ((2 * ((raw (ec + u.slip) - last) * nom) + per) / (2 * per)) else u.slip
  candMeasured h c (raw (ec + slip)) (d.setCand h c { u with slip := slip, gap := u.gap && d.cstate h c == 1 })

/-- The phase of a PPS_FREQ candidate (R126): the instant of an edge of the frequency pin, from the pin's stamp nearest to it in edge
count, of the last one before the marker and of that now taken, and the period of the last frequency window, modulo 1 s. In ps.
[DESIGN CHOICE log 66, 67] -/
def Dev.ppsFreqPhase (d : Dev) (h : Half) (c edge : Nat) (before : Option (Nat × Nat)) (s ec : Nat) : Int :=
  let near : Nat × Nat := match before with
    | some b => if edge - b.2 ≤ ec - edge then b else (s, ec)
    | none => (s, ec)
  let den : Int := (d.nomFreq h c : Int) * (10 ^ 12 + signedOf 32 (d.g (refQ h c) Reg.REF.FOFS))
  let off : Int := if den = 0 then 0 else ((edge : Int) - near.2) * secFrac * 10 ^ 12 / den
  d.ppsRaw h c (((near.1 : Int) + off).toNat)

/-- Selected edges closer than this count as faster than 1 kHz (R125): 1 ms of device ticks less 0.1 % (DESIGN CHOICE: how the
rate is judged is not said, and a 1 kHz signal passes). [DESIGN CHOICE log 69] -/
def fastTicks : Nat := 249750

/-- A candidate's engine is switched on. -/
def Dev.candOn (d : Dev) (h : Half) (c : Nat) : Bool := d.en (refPg h c) (refQ h c) Reg.REF.CTRL_EN

/-- A stamp of a pin: how closely it follows the last one decides CFG of the candidates that use the point (R125, R126). -/
def pinPaced (h : Half) (cp : Nat) (d : Dev) : Dev :=
  let u := d.cand h cp
  let fast := match u.edgeAt with | some p => decide (d.now < p + fastTicks) | none => false
  pointRefresh h cp (d.setCand h cp { u with fast := fast, edgeAt := some d.now })

/-- A stamp in TB0 at a pin or at ATOMIN gives the candidate there its measurement (R122, R126): the atomic oscillator and a FREQ
pin by edges, a PPS pin by the second; a PPS_FREQ pin gives it when a marker has named the edge. -/
def candStamped (h : Half) (c cp s ec : Nat) (d : Dev) : Dev :=
  if !(d.candOn h c) then d
  else match d.pinMode h c with
    | 0 => d.freqMeasured h c (d.g (tdcP h cp) Reg.TDC.DIV + 1) s ec
    | 1 => candMeasured h c (d.ppsRaw h c s) d
    | _ =>
      match (d.cand h c).mark with
      | some m => candMeasured h c (d.ppsFreqPhase h c m.1 m.2 s ec) (d.setCand h c { d.cand h c with mark := none })
      | none => d

/-- A qualifying marker edge of a PPS_FREQ candidate latches the edge counter of its frequency pin (R126): its next edge is the one
to be measured. -/
def markLatched (h : Half) (c : Nat) (d : Dev) : Dev :=
  let u := d.cap h c
  if d.pinMode h c = 2 && c % 2 == 0 && d.candOn h c then
    d.setCand h c { d.cand h c with mark := some (u.ecnt + 1, u.stamp0.map fun s => (s, u.stampEc)) }
  else d

/-- What an edge at a capture point gives the candidates measured by it (R122, R123, R125, R126), after the point's unit, `old`
before it, has taken it: every measurement is against the half's TB0. [DESIGN CHOICE log 69] -/
def candEdge (h : Half) (cp : Nat) (old : CapUnit) (d : Dev) : Dev :=
  let u := d.cap h cp
  let d1 :=
    match u.stampedSince old with
    | some s =>
      if cp ≤ 11 then candStamped h cp cp s u.stampEc (pinPaced h cp d)
      else if cp = 12 then candStamped h 13 12 s u.stampEc d else d
    | none => d
  if cp ≤ 11 && cp % 2 == 1 && u.ecnt != old.ecnt then markLatched h (cp - 1) d1 else d1

/-- QR of an ESMC quality level by its SSM code and, where present, enhanced SSM code, 0xFF standing for none (R127): an enhanced
code goes with one SSM code, and any pair not listed is 15. -/
def qrOfSsm (ssm essm : Nat) : Nat :=
  match ssm, essm with
  | 0x2, 0x21 => 0
  | 0x2, 0x20 => 1
  | 0x2, 0x23 => 2
  | 0xB, 0x22 => 5
  | 0x2, 0xFF => 2
  | 0x4, 0xFF => 3
  | 0x8, 0xFF => 4
  | 0xB, 0xFF => 5
  | _, _ => 15

/-- QR of a PTP clockClass and clockAccuracy (R127). -/
def qrOfClass (cls acc : Nat) : Nat :=
  if cls = 6 then (if acc ≤ 0x20 then 0 else 1)
  else if cls = 13 then 2
  else if cls = 7 ∨ cls = 14 ∨ cls = 135 then 3
  else if cls = 140 then 4
  else if cls = 150 then 5
  else if cls = 160 then 6
  else 15

end Sys2Proof.Machine
end

