-- ==== Sys2Proof/Machine/Select.lean ====
section
/-! DEFINITION. Selection and the switch transaction (R136 to R143), disagreement and voting (R144 to R147), and the
status pins (R148). -/

namespace Sys2Proof.Machine

/-- A selector's engine. -/
def Dev.sel (d : Dev) (h : Half) (n : Nat) : SelSt := tget {} d.sels (h.num * 16 + n)

/-- The device with a selector's engine replaced. -/
def Dev.setSel (d : Dev) (h : Half) (n : Nat) (v : SelSt) : Dev := { d with sels := tset {} d.sels (h.num * 16 + n) v }

/-- SEL_C of a selector; 0x1F means none (R150). -/
def Dev.selC (d : Dev) (h : Half) (n : Nat) : Nat := d.g (selS h n) Reg.SEL.SSTAT_SEL_C

/-- The phase of a selector's transaction (R140). -/
def Dev.xph (d : Dev) (h : Half) (n : Nat) : Nat := d.g (selS h n) Reg.SEL.SSTAT_XPH

/-- The target of a selector's transaction. -/
def Dev.tgtC (d : Dev) (h : Half) (n : Nat) : Nat := d.g (selS h n) Reg.SEL.SSTAT_TGT_C

/-- FORCE_C under MODE FORCED names no candidate that may be forced (R137). [DEDUCED log 78] -/
def Dev.forceRefused (d : Dev) (h : Half) (n : Nat) : Bool :=
  let c := d.g (selS h n) Reg.SEL.SCTRL_FORCE_C
  d.g (selS h n) Reg.SEL.SCTRL_MODE == 1 && (c == 13 || decide (29 < c))

/-- MODE in effect: 0 AUTO, 1 FORCED, 2 HOLD (R137, R150). -/
def Dev.selMode (d : Dev) (h : Half) (n : Nat) : Nat :=
  match d.g (selS h n) Reg.SEL.SCTRL_MODE with
  | 1 => if d.forceRefused h n then 2 else 1
  | 2 => 2
  | _ => 0

/-- The candidates that are selectable by a selector (R136, R137): with no other candidate selectable, a running
wait-to-restore timer is waived. -/
def Dev.selectable (d : Dev) (h : Half) (n : Nat) : List Nat :=
  match d.selMode h n with
  | 1 => [d.g (selS h n) Reg.SEL.SCTRL_FORCE_C].filter (d.usable h)
  | 0 =>
    let all := (List.range 30).filter fun c =>
      d.usable h c && bitAt (d.g (selS h n) Reg.SEL.MASK) c && c != 13
    let ready := all.filter fun c => c == d.selC h n || !(d.wtrRuns h n c)
    if ready.isEmpty then all else ready
  | _ => []

/-- The best of some candidates: lowest rank, then lowest number (R136). -/
def Dev.best (d : Dev) (h : Half) (n : Nat) : List Nat → Option Nat
  | [] => none
  | c :: cs =>
    match d.best h n cs with
    | none => some c
    | some x => if d.rank h n x < d.rank h n c then some x else some c

/-- The candidate toward which a selector with no transaction starts one (R137). -/
def Dev.wanted (d : Dev) (h : Half) (n : Nat) : Option Nat :=
  let xs := d.selectable h n
  let cur := d.selC h n
  match d.best h n xs with
  | none => none
  | some b =>
    if !(xs.contains cur) then some b
    else if b = cur then none
    else if d.gb (selS h n) Reg.SEL.SCTRL_REVERT || d.cstate h cur == 4 then
      (if d.rank h n b < d.rank h n cur then some b else none)
    else if d.en (selPg h) (selS h n) Reg.SEL.SCTRL_QL_EN && decide (d.effQr h b < d.effQr h cur) then some b
    else none

/-- What an evaluation does to a selector (R136 to R138, R142). -/
inductive SelAct where
  | keep
  | noref
  | hold
  | start (c : Nat) (ms : Nat)
  | abortKeep
  | restart (c : Nat) (ms : Nat)
deriving DecidableEq, Repr

/-- The length of a DECIDE in evaluations of 1 ms (R140, R150): one when the selected candidate has failed or there is
none. [DEDUCED log 76] -/
def Dev.decideMs (d : Dev) (h : Half) (n : Nat) : Nat :=
  if d.usable h (d.selC h n) && d.selC h n != 31 then max 1 (min 1000 (d.g (selS h n) Reg.SEL.TIMERS_DECIDE)) else 1

/-- The result of an evaluation of a selector (R136 to R138, R140, R142): in DECIDE the target must stay the result; in BUILD-OUT
the selected candidate is kept only where it has failed and come back. [DEDUCED log 249] -/
def Dev.selAction (d : Dev) (h : Half) (n : Nat) : SelAct :=
  let xs := d.selectable h n
  let cur := d.selC h n
  let tgt := d.tgtC h n
  if d.selMode h n = 2 then (if d.usable h cur && cur != 31 then .hold else .noref)
  else
    match d.best h n xs with
    | none => .noref
    | some b =>
      if d.xph h n = 0 then
        match d.wanted h n with
        | none => .keep
        | some c => .start c (d.decideMs h n)
      else if !(xs.contains tgt) then
        match d.wanted h n with
        | none => .abortKeep
        | some c => .restart c (d.decideMs h n)
      else if d.xph h n = 1 then
        match d.wanted h n with
        | none => .abortKeep
        | some c => if c = tgt then .keep else .restart c (d.decideMs h n)
      else if (d.sel h n).failed && xs.contains cur && decide (d.rank h n cur ≤ d.rank h n tgt) then .abortKeep
      else if d.rank h n b < d.rank h n tgt then .restart b (d.decideMs h n)
      else .keep

/-- The transaction of a selector aborted (R142): counted and signalled, and its partial build-out discarded. The loop may
resume the selected candidate from its next measurement. -/
def Dev.selAbort (d : Dev) (h : Half) (n : Nat) : Dev :=
  if d.xph h n = 0 then d
  else
    let b := selS h n
    ((((d.inc b Reg.SEL.SWCNT_ABORTS).p b Reg.SEL.SSTAT_XPH 0).p b Reg.SEL.SSTAT_TGT_C 0x1F).setSel h n
      { d.sel h n with boSum := 0, boN := 0, ready := false, endNo := (d.cand h (d.selC h n)).measNo }).raise (selPg h) 16

/-- DECIDE begins toward a candidate (R140). -/
def Dev.selBegin (d : Dev) (h : Half) (n c ms : Nat) : Dev :=
  let b := selS h n
  ((d.p b Reg.SEL.SSTAT_XPH 1).p b Reg.SEL.SSTAT_TGT_C c).setSel h n
    { d.sel h n with
    since := d.schedCount, decide := ms, boSum := 0, boN := 0, ready := false, failed := !(d.usable h (d.selC h n)) }

/-- A selector holds no reference: NOREF, with SEL_NOREF on entry (R138). -/
def Dev.selNoref (d : Dev) (h : Half) (n : Nat) : Dev :=
  let b := selS h n
  let d1 := (d.selAbort h n).p b Reg.SEL.SSTAT_SEL_C 0x1F
  if d.gb b Reg.SEL.SSTAT_NOREF then d1 else (d1.pb b Reg.SEL.SSTAT_NOREF true).raise (selPg h) 17

/-- The result of an evaluation carried out in a half (R136 to R142). -/
def Dev.selApply (d : Dev) (h : Half) (n : Nat) (a : SelAct) : Dev :=
  let b := selS h n
  let d1 := d.pb b Reg.SEL.SSTAT_FORCED (d.selMode h n == 1)
  let d2 := d1.compared (400 + 16 * h.num + n) (d.forceRefused h n) fun x => x.raise (selPg h) 20
  let st := d2.sel h n
  let no := if a == .hold && !st.drop then (d2.cand h (d2.selC h n)).measNo else st.endNo
  let d3 := d2.setSel h n { st with drop := a == .hold, endNo := no, failed := st.failed || !(d2.usable h (d2.selC h n)) }
  match a with
  | .keep => d3
  | .noref => d3.selNoref h n
  | .hold => d3.selAbort h n
  | .start c ms => d3.selBegin h n c ms
  | .abortKeep => d3.selAbort h n
  | .restart c ms => (d3.selAbort h n).selBegin h n c ms

/-- The half carries out the leading half's transactions (R139): in service, and while it returns after Copy (R427).
[DEDUCED log 75] -/
def Dev.follows (d : Dev) (o : Half) : Bool :=
  o != d.lead && (!(d.outOfService o) || (d.planeUp o && decide (2 ≤ d.g (redPg o) Reg.RED.RSTAT_HJOIN)))

/-- What a following selector does when the leading half `h` does `a` (R139): the same, from where it stands itself, and where the
leading one keeps what it has, a transaction of its own toward that. [DEDUCED log 75] -/
def Dev.followAction (d : Dev) (h o : Half) (n : Nat) (a : SelAct) : SelAct :=
  let toward := fun (c ms : Nat) =>
    if d.xph o n = 0 then SelAct.start c ms else if d.tgtC o n = c then SelAct.keep else SelAct.restart c ms
  match a with
  | .start c ms => if d.xph o n = 0 then .start c ms else .restart c ms
  | .keep =>
    if d.xph h n != 0 then toward (d.tgtC h n) (d.decideMs o n)
    else if d.selC o n = d.selC h n then (if d.xph o n = 0 then .keep else .abortKeep)
    else toward (d.selC h n) (d.decideMs o n)
  | _ => a

/-- The evaluation of one selector in both halves (R139): the leading half decides and the other follows. A result of the other
half's own evaluation that differs, in the candidate it holds, the best or what is to be done, raises SEL_MISMATCH once. -/
def Dev.selEvaluateOne (d : Dev) (n : Nat) : Dev :=
  let h := d.lead
  let a := d.selAction h n
  let o := h.other
  if !(d.follows o) then d.selApply h n a
  else
    let differs := d.best h n (d.selectable h n) != d.best o n (d.selectable o n) || d.selC h n != d.selC o n ||
      d.selAction o n != a
    ((d.selApply h n a).selApply o n (d.followAction h o n a)).compared (200 + n) differs fun x => x.raise (selPg o) 19

/-- DECIDE expires with the target unchanged: BUILD-OUT begins (R140). -/
def decideEnded (h : Half) (n : Nat) (d : Dev) : Dev :=
  let b := selS h n
  let st := d.sel h n
  if d.xph h n == 1 && decide (msOf st.since + st.decide ≤ msOf d.schedCount) then
    (d.p b Reg.SEL.SSTAT_XPH 2).setSel h n
      { st with since := d.schedCount, decide := d.g b Reg.SEL.BUILD, boSum := 0, boN := 0, ready := false }
  else d

/-- A mean rounded to the nearest, ties away from zero (R140). -/
def meanNearest (sum : Int) (n : Nat) : Int :=
  if n = 0 then 0
  else if 0 ≤ sum then (2 * sum + n) / (2 * n) else -((2 * (-sum) + n) / (2 * n))

/-- BUILD-OUT ends when its time has passed and two measurements have been taken; BO becomes their mean (R140). The COMMIT
awaits the next loop update of the target. -/
def buildOutEnded (h : Half) (n : Nat) (d : Dev) : Dev :=
  let st := d.sel h n
  if d.xph h n == 2 && !st.ready && decide (2 ≤ st.boN)
      && decide (st.since + st.decide * (10 ^ 6 * nsUnit) ≤ d.schedCount) then
    d.setSel h n { st with ready := true, endNo := (d.cand h (d.tgtC h n)).measNo
                           boSum := meanNearest st.boSum st.boN }
  else d

/-- Of the candidates whose timer runs in a selector, the one of best rank (R143). -/
def Dev.wtrShown (d : Dev) (h : Half) (n : Nat) : Option Nat :=
  d.best h n ((List.range 30).filter (d.wtrRuns h n))

/-- Seconds remaining of a wait-to-restore timer (R143, R150). -/
def Dev.wtrRem (d : Dev) (h : Half) (n c : Nat) : Nat :=
  ceilDiv (tget 0 d.wtr ((h.num * 16 + n) * 32 + c) - d.schedCount) secUnit

/-! ### Voting -/

/-- The place of a number in a rising list. -/
def insertAsc (x : Int) : List Int → List Int
  | [] => [x]
  | y :: t => if x ≤ y then x :: y :: t else y :: insertAsc x t

/-- The median; of an even number of values the mean of the middle two, toward zero. [DEDUCED log 71] -/
def median (l : List Int) : Int :=
  let s := l.foldr insertAsc []
  let k := s.length
  if k = 0 then 0
  else if k % 2 = 1 then (s[k / 2]?).getD 0
  else ((s[k / 2 - 1]?).getD 0 + (s[k / 2]?).getD 0).tdiv 2

/-- VOTE_WIN in seconds (R150). -/
def Dev.voteWin (d : Dev) (h : Half) : Nat := max 1 (d.g (selPg h) Reg.SEL.VOTE_VOTE_WIN)

/-- The mean fractional frequency of a candidate against TB0 over the window, in 10^-12 (R144): the rate at which its
phase fell. -/
def Dev.voteFreq (d : Dev) (h : Half) (c : Nat) : Option Int :=
  (d.cand h c).votePh.map fun p => (p - d.phase h c).tdiv (d.voteWin h)

/-- Members of the vote with their means: enabled, C13 excepted, usable throughout the window (R144). -/
def Dev.voters (d : Dev) (h : Half) : List (Nat × Int) :=
  (List.range 30).filterMap fun c =>
    if c = 13 ∨ !(d.usable h c) then none else (d.voteFreq h c).map fun f => (c, f)

/-- y_pred of the holdover model now, in 10^-15 (R164): y0, d from the end of the last learning sample, and kt from the temperature,
each toward zero. [DEDUCED log 82] -/
def Dev.yPred (d : Dev) (h : Half) : Int :=
  let b := pageAddr .hld h 0
  let now : Int := (d.count h 0 / 2 ^ 32 : Nat)
  let dt : Int := match (d.hold.of h).fitAt with | some t => now - t | none => 0
  (d.s48 b Reg.HLD.Y0_LO Reg.HLD.Y0_HI * 10 ^ 15).tdiv (2 ^ 48) + (d.gs b Reg.HLD.DRIFT * dt).tdiv (1000 * secFrac : Nat)
    + (d.gs b Reg.HLD.KT * (d.gs b Reg.HLD.TEMP - d.gs b Reg.HLD.TREF)).tdiv 1000

/-- The holdover model's estimate (R145): C13's measured frequency corrected by the model, while C13 is QUALIFIED and the model is
valid. -/
def Dev.modelOpinion (d : Dev) (h : Half) : List Int :=
  if d.cstate h 13 == 3 && d.g (pageAddr .hld h 0) Reg.HLD.HSTAT_MODEL != 0 then
    match d.voteFreq h 13 with
    | some f => [f - (d.yPred h).tdiv 1000]
    | none => []
  else []

/-- Third opinions for a group (R145). [DEDUCED log 72] -/
def Dev.thirdOpinions (d : Dev) (h : Half) (group : List (Nat × Int)) : List Int :=
  d.modelOpinion h ++
    ((d.voters h).filter fun v => d.cstate h v.1 == 3 && !(group.any fun g => g.1 == v.1)).map (·.2)

/-- The groups of a vote: candidates of one rank before demotion in selector 0 (R144). -/
def Dev.voteGroups (d : Dev) (h : Half) : List (List (Nat × Int)) :=
  let vs := d.voters h
  let rk := fun c => d.rank0 h (d.en (selPg h) (selS h 0) Reg.SEL.SCTRL_QL_EN) c
  (List.range 256).filterMap fun r =>
    let g := vs.filter fun v => rk v.1 == r
    if g.isEmpty then none else some g

/-- The first pair of a group whose means differ by more than a limit. -/
def firstPair (lim : Nat) : List (Nat × Int) → Option (Nat × Nat × Nat)
  | [] => none
  | x :: t =>
    match t.find? fun y => decide (lim < (x.2 - y.2).natAbs) with
    | some y => some (x.1, y.1, (x.2 - y.2).natAbs)
    | none => firstPair lim t

/-- The members of a group to mark, against a median (R145): those farther than the limit, but only the farthest when that
would be every member; of equal distances the higher number. -/
def toMark (lim : Nat) (m : Int) (g : List (Nat × Int)) : List Nat :=
  let far := g.filter fun v => decide (lim < (v.2 - m).natAbs)
  if far.length < g.length then far.map (·.1)
  else
    match g.foldl (fun (b : Option (Nat × Nat)) v =>
      match b with
      | none => some (v.1, (v.2 - m).natAbs)
      | some x => if x.2 ≤ (v.2 - m).natAbs then some (v.1, (v.2 - m).natAbs) else some x) none with
    | some x => [x.1]
    | none => []

/-- A member marked SUSPECT in a half (R145). -/
def Dev.markSuspect (d : Dev) (h : Half) (c : Nat) : Dev :=
  if d.cstate h c = 3 then (d.putCstate h c 4).raise (refPg h c) (refEvt c 3) else d

/-- One window's effect on a SUSPECT member (R147). -/
def Dev.clearSuspect (d : Dev) (h : Half) (c : Nat) (near : Bool) : Dev :=
  if d.cstate h c ≠ 4 then d
  else
    let run := if near then (d.cand h c).voteRun + 1 else 0
    if 4 ≤ run then (d.putCstate h c 3).raise (refPg h c) (refEvt c 3)
    else d.setCand h c { d.cand h c with voteRun := run }

/-- The vote on one group, as the leading half `h` sees it, applied in the halves `hs` (R144 to R147).
[DEDUCED log 72, 73] -/
def Dev.voteGroup (d : Dev) (h : Half) (hs : List Half) (g : List (Nat × Int)) : Dev :=
  let lim := d.g (selPg h) Reg.SEL.VOTE_DISAGREE
  let third := d.thirdOpinions h g
  let m := median (g.map (·.2) ++ third)
  let d1 := hs.foldl (fun e x =>
    g.foldl (fun y v => y.clearSuspect x v.1 (decide (2 * (v.2 - m).natAbs ≤ lim))) e) d
  match firstPair lim g with
  | none => d1
  | some pr =>
    if third.isEmpty && g.length == 2 then
      let same := fun (e : Dev) x => e.gb (selPg x) Reg.SEL.DIS_PAIR_ACTIVE && e.g (selPg x) Reg.SEL.DIS_PAIR_A == pr.1
        && e.g (selPg x) Reg.SEL.DIS_PAIR_B == pr.2.1
      let d2 := if same d h then d1 else { d1 with disAt := d.schedCount }
      hs.foldl (fun e x =>
        let again := same e x
        ((((e.p (selPg x) Reg.SEL.DIS_PAIR_A pr.1).p (selPg x) Reg.SEL.DIS_PAIR_B pr.2.1).pb (selPg x)
          Reg.SEL.DIS_PAIR_ACTIVE true).p (selPg x) Reg.SEL.DIS_RATE pr.2.2).raiseIf (!again) (selPg x) 18) d2
    else hs.foldl (fun e x => (toMark lim m g).foldl (fun y c => y.markSuspect x c) e) d1

/-- The recorded pair differs by no more than half the limit, or is no longer measured (R146). [DEDUCED log 73] -/
def Dev.pairSettled (d : Dev) (h : Half) : Bool :=
  let a := d.g (selPg h) Reg.SEL.DIS_PAIR_A
  let b := d.g (selPg h) Reg.SEL.DIS_PAIR_B
  match d.voteFreq h a, d.voteFreq h b with
  | some x, some y => decide (2 * (x - y).natAbs ≤ d.g (selPg h) Reg.SEL.VOTE_DISAGREE)
  | _, _ => false

/-- A new vote window begins (R144, R147): every usable candidate's phase is its start. -/
def Dev.voteOpen (d : Dev) : Dev :=
  let d1 := [Half.warp, Half.weft].foldl (fun e h => e.each 30 fun c x =>
    x.setCand h c { x.cand h c with votePh := if x.usable h c then some (x.phase h c) else none }) d
  { d1 with voteAt := d.schedCount }

/-- The vote window in progress is over (R144). -/
def Dev.voteDue (d : Dev) : Bool := decide (d.voteAt + d.voteWin d.lead * secUnit ≤ d.schedCount)

/-- The end of a vote window (R144 to R147). -/
def voteClosed (d : Dev) : Dev :=
  let h := d.lead
  if !d.voteDue then d
  else
    let hs := d.halvesInService
    let d1 := if d.pairSettled h then hs.foldl (fun e x => e.pb (selPg x) Reg.SEL.DIS_PAIR_ACTIVE false) d else d
    ((d.voteGroups h).foldl (fun e g => e.voteGroup h hs g) d1).voteOpen

/-- VOTE written: the window in progress is discarded without a vote (R147). -/
def voteWritten (h : Half) (v : Nat) (d : Dev) : Dev :=
  if d.w (selPg h + 0x500) = v then d else (d.setw (selPg h + 0x500) v).voteOpen

/-- The level of a SELSTAT pin (R148). [DEDUCED log 225] -/
def Dev.selstat (d : Dev) (p : Nat) : Bool :=
  let h := d.lead
  let b := selPg h + 4 * p
  let src := d.g b Reg.SEL.PINCFG_SRC
  let n := src % 16
  let cond :=
    if d.gb b Reg.SEL.PINCFG_KIND then
      match d.g b Reg.SEL.PINCFG_COND with
      | 0 => d.selC h n != 31 && d.xph h n == 0
      | 1 => d.gb (selS h n) Reg.SEL.SSTAT_NOREF
      | 2 => d.xph h n != 0
      | _ => d.gb (selS h n) Reg.SEL.SSTAT_FORCED
    else
      match d.g b Reg.SEL.PINCFG_COND with
      | 0 => d.usable h src
      | 1 => d.cstate h src == 1
      | 2 => d.selC h 0 == src && src != 31
      | _ => d.cstate h src == 4
  d.en (selPg h) b Reg.SEL.PINCFG_EN && (cond != d.gb b Reg.SEL.PINCFG_POL)

/-- REF and SEL settings of the halves differ (R139). [DEDUCED log 60] -/
def Dev.selDiffers (d : Dev) : Bool :=
  ((List.range 30).any fun c => (List.range 8).any fun i => d.w (refQ .warp c + 4 * i) != d.w (refQ .weft c + 4 * i)) ||
  ((List.range 16).any fun n => (List.range 4).any fun i => d.w (selS .warp n + 4 * i) != d.w (selS .weft n + 4 * i)) ||
  d.w (selPg .warp + 0x500) != d.w (selPg .weft + 0x500) ||
  ((List.range 4).any fun p => d.w (selPg .warp + 0x510 + 4 * p) != d.w (selPg .weft + 0x510 + 4 * p))

/-- SEL_MISMATCH of the once-per-second comparison (R139). [DEDUCED log 74] -/
def selCompare (d : Dev) : Dev :=
  d.compared 300 d.selDiffers fun x => (x.raise (selPg .warp) 19).raise (selPg .weft) 19

end Sys2Proof.Machine
end

