-- ==== Sys2Proof/Machine/Loop.lean ====
section
/-! DEFINITION. Discipline loops and atomic holdover: a loop's input and bandwidth (R152 to R154), its update (R155 to
R160), its states (R157, R158), realign (R161), the coupling of the halves (R162, R163), holdover and its model (R164 to
R173, R175). -/

namespace Sys2Proof.Machine

/-- The DPL page of a loop. -/
def dplPg (h : Half) (k : Nat) : Nat := pageAddr .dpl h (k / 4)

/-- The register block of a loop (R176). -/
def dplL (h : Half) (k : Nat) : Nat := dplPg h k + 0x100 + 0x80 * (k % 4)

/-- Event word `j` of a loop (R178): LOOP_LOCKED, LOOP_STAGE_DOWN, LOOP_FLIM, LOOP_LATE, LOOP_BW_CLAMP, REALIGN_REFUSED. -/
def dplEvt (k j : Nat) : Nat := 8 * (k % 4) + j

/-- The HLD page of a half. -/
def hldPg (h : Half) : Nat := pageAddr .hld h 0

/-- A loop's engine. -/
def Dev.loop (d : Dev) (h : Half) (k : Nat) : LoopSt := tget {} d.loops (h.num * 16 + k)

/-- The device with a loop's engine replaced. -/
def Dev.setLoop (d : Dev) (h : Half) (k : Nat) (v : LoopSt) : Dev := { d with loops := tset {} d.loops (h.num * 16 + k) v }

/-- STATE of a loop (R157): 0 OFF, 1 FREERUN, 2 ACQUIRE, 3 LOCKED, 4 HOLDOVER. -/
def Dev.lstate (d : Dev) (h : Half) (k : Nat) : Nat := d.g (dplL h k) Reg.DPL.LSTAT_STATE

/-- HMODE of a loop: 1 HOLD_ATOMIC, 2 HOLD_LAST (R169, R176). -/
def Dev.hmode (d : Dev) (h : Half) (k : Nat) : Nat := d.g (dplL h k) Reg.DPL.LSTAT_HMODE

/-- FEST of a loop in 2^-48 (R155). -/
def Dev.fest (d : Dev) (h : Half) (k : Nat) : Int := d.s48 (dplL h k) Reg.DPL.FEST_LO Reg.DPL.FEST_HI

/-- Remaining build-out offset of a selector in ps (R141). -/
def Dev.bo (d : Dev) (h : Half) (k : Nat) : Int := d.s48 (selS h k) Reg.SEL.BO_LO Reg.SEL.BO_HI

/-- The device with a build-out offset replaced. -/
def Dev.putBo (d : Dev) (h : Half) (k : Nat) (v : Int) : Dev := d.ps48 (selS h k) Reg.SEL.BO_LO Reg.SEL.BO_HI v

/-- The holdover model of a half. -/
def Dev.hm (d : Dev) (h : Half) : HoldSt := d.hold.of h

/-- The device with a holdover model replaced. -/
def Dev.setHm (d : Dev) (h : Half) (v : HoldSt) : Dev := { d with hold := d.hold.put h v }

/-- SLEW.RATE with its limits, in ns/s (R176). -/
def Dev.slewRate (d : Dev) (h : Half) (k : Nat) : Nat := clampNat 1 1000 (d.g (dplL h k) Reg.DPL.SLEW)

/-- The loop's half runs its loops: in service of power and not in safe state (R460). -/
def Dev.loopsRun (d : Dev) (h : Half) : Bool := (d.hs h).powered && !(d.hs h).safe && !(d.hs h).heldReset

/-! ### Bandwidth (R153, R154) -/

/-- The bandwidth of a code in 0.1 mHz; a code above 0x10 is treated as 0x10. [DEDUCED log 81] -/
def bandwidth (code : Nat) : Nat :=
  let c := min code 16
  (if c % 2 = 0 then 1 else 3) * 10 ^ (c / 2)

/-- The highest usable bandwidth of an input in 0.1 mHz (R153): the update rate divided by 25; of a client instance, the rate of the
Syncs that it receives. -/
def Dev.usableBw (d : Dev) (h : Half) (i : LoopIn) : Nat :=
  let edges := fun c => d.nomFreq h c * 10 ^ 4 / (d.g (tdcP h ((candCp c).getD 0)) Reg.TDC.DIV + 1) / 25
  match i with
  | .dom => 400000
  | .atom => edges 13
  | .cand c =>
    if c ≤ 11 then (if d.pinMode h c = 0 then edges c else 400)
    else if c = 12 then 400
    else if c = 13 then edges 13
    else if c ≤ 21 then 195312500
    else if c ≤ 25 then
      let lg := (tget {} d.insts (h.num * 4 + (c - 22))).syncLog
      if 0 ≤ lg then 10 ^ 4 / 2 ^ lg.toNat / 25 else 10 ^ 4 * 2 ^ (min 7 (-lg).toNat) / 25
    else 400000

/-- The code a loop uses: the one set, or the highest that the input can use, down to 0 (R154). -/
def effCode (code lim : Nat) : Nat :=
  ((List.range 17).filter fun c => c ≤ min code 16 && (bandwidth c ≤ lim || c == 0)).foldl max 0

/-! ### The input (R152) -/

/-- The input of a loop: DOM_OFS under DOM_SEL, the selected candidate while it is usable, or the atomic oscillator in
HOLD_ATOMIC; none otherwise. -/
def Dev.loopIn (d : Dev) (h : Half) (k : Nat) : Option LoopIn :=
  if d.gb (tsuB h k) Reg.TSU.CTRL_DOM_SEL then some .dom
  else if d.lstate h k == 4 then (if d.hmode h k == 1 then some .atom else none)
  else if d.selC h k != 31 && d.usable h (d.selC h k) then some (.cand (d.selC h k))
  else none

/-- A COMMIT is due at this update: BUILD-OUT has ended and the target has a new measurement (R140). A half that follows commits
with the leading one, or alone toward what that has selected (R139). [DEDUCED log 75] -/
def Dev.commitDue (d : Dev) (h : Half) (k : Nat) : Bool :=
  (d.sel h k).ready && d.xph h k == 2 && decide ((d.sel h k).endNo < (d.cand h (d.tgtC h k)).measNo) &&
    (!(d.follows h) || (d.xph h.other k == 0 && d.selC h.other k == d.tgtC h k))

/-- The number of the input's last measurement. -/
def Dev.measNo (d : Dev) (h : Half) (k : Nat) : LoopIn → Nat
  | .cand c => (d.cand h c).measNo
  | .dom => (d.tb h k).domNo
  | .atom => (d.cand h 13).measNo

/-- Whether an input is a time input (R159). -/
def Dev.timeIn (d : Dev) (h : Half) : LoopIn → Bool
  | .cand c => d.isTime h c
  | .dom => true
  | .atom => true

/-- The integral of y_pred from an anchor, in ps (R164): y0 in 2^-48, d in 10^-18 /s, kt in 10^-15 /°C over the
temperature integral. At level OFFSET the registers hold d and kt as 0. [DEDUCED log 82] -/
def Dev.modelPhase (d : Dev) (h : Half) (a : Anchor) (count : Nat) : Int :=
  let b := hldPg h
  let ns : Int := ((count : Int) - a.at_) / nsUnit
  (d.s48 b Reg.HLD.Y0_LO Reg.HLD.Y0_HI * ns * 1000) / 2 ^ 48
    + (d.gs b Reg.HLD.DRIFT * ns * ns) / (2 * 10 ^ 24)
    + (d.gs b Reg.HLD.KT * ((d.hm h).tSum - a.tSum)) / 10 ^ 6

/-- The phase error e in ps (R152): the count of the timebase minus the time of its input. For a candidate, its phase
with the timebase's distance from TB0, less the remaining build-out; for the atomic oscillator its phase from the anchor
corrected by the model, 0 at entry (R169). [DEDUCED log 82] -/
def Dev.loopErr (d : Dev) (h : Half) (k : Nat) : LoopIn → Int
  | .cand c => d.phaseIn h c k - d.bo h k
  | .dom => d.s48 (tsuB h k) Reg.TSU.DOM_OFS_LO Reg.TSU.DOM_OFS_HI
  | .atom =>
    match (d.loop h k).anchor with
    | some a => d.phase h 13 + d.tbDiff h k - a.xa + d.modelPhase h a (d.count h k)
    | none => 0

/-! ### The arithmetic of an update (R155, R159, R160). DEDUCED: with the damping at 5 and the proportional gain 2π times
the bandwidth (R159), the integral gain is the square of the proportional one over 100; what rounding adds is left
open by the manual and is a constant without a value here. -/

/-- The proportional part of an update at a bandwidth in 0.1 mHz, for e in ps, in 2^-48.
[DESIGN CHOICE log 14; DEDUCED log 81] -/
def propPart (bw : Nat) (e : Int) : Int :=
  (e * bw * 6283185307179586 * 2 ^ 48).tdiv (10 ^ 31) + Config.loopResidue 0 e

/-- What the integrator loses over `ns` nanoseconds. [DESIGN CHOICE log 14; DEDUCED log 81] -/
def integPart (bw ns : Nat) (e : Int) : Int :=
  (e * (bw * bw) * 39478417604357434 * 2 ^ 48 * ns).tdiv (10 ^ 46) + Config.loopResidue 1 e

/-- ±FLIM.LIM in 2^-48 (R160, R176). [DEDUCED log 83] -/
def Dev.flim (d : Dev) (h : Half) (k : Nat) : Int :=
  ((clampNat 1 500 (d.g (dplL h k) Reg.DPL.FLIM) * 2 ^ 48 / 10 ^ 7 : Nat) : Int)

/-- FADJ written by a loop: approached at the slew limit of R160, and clamped under R74. [DEDUCED log 83] -/
def Dev.loopFadj (d : Dev) (h : Half) (k : Nat) (v : Int) : Dev :=
  (d.raiseIf (decide (clampFadj v ≠ v)) (tsuPg h k) (tbEvt k 1)).setTb h k
    { d.tb h k with fadjTgt := clampFadj v, slew := true }

/-- FADJ of a loop taken from a base value with the coupling term added, limited to ±FLIM.LIM (R160, R162). -/
def Dev.loopOut (d : Dev) (h : Half) (k : Nat) (base : Int) : Dev :=
  let b := dplL h k
  let want := base + (d.loop h k).cpl
  let f := clampInt (-d.flim h k) (d.flim h k) want
  let at_ := decide (f ≠ want)
  let d1 := (d.pb b Reg.DPL.LSTAT_AT_FLIM at_).raiseIf (at_ && !(d.gb b Reg.DPL.LSTAT_AT_FLIM)) (dplPg h k) (dplEvt k 2)
  d1.loopFadj h k f

/-- FEST takes a value, kept in the history that HOLD_LAST averages (R169). -/
def Dev.putFest (d : Dev) (h : Half) (k : Nat) (v : Int) : Dev :=
  let lp := d.loop h k
  let now := d.count h k
  let kept := lp.est.filter fun e => decide (now < e.1 + (d.hbwAvg h + 1) * secUnit)
  let last := match lp.est.find? (fun e => !(decide (now < e.1 + (d.hbwAvg h + 1) * secUnit))) with
    | some e => [e] | none => []
  (d.ps48 (dplL h k) Reg.DPL.FEST_LO Reg.DPL.FEST_HI v).setLoop h k { lp with est := (now, v) :: (kept ++ last) }

/-- The sum of value times duration over the last `span` of a history that reaches back from `upto`, newest first, and
the duration it covers. -/
def histSum (from_ : Nat) : Nat → List (Nat × Int) → Int × Nat
  | _, [] => (0, 0)
  | upto, e :: t =>
    let start := max from_ e.1
    let r := histSum from_ (min upto start) t
    (r.1 + e.2 * ((upto - start : Nat) : Int), r.2 + (upto - start))

/-- The mean of FEST over the last HBW.AVG seconds (R169), toward zero. -/
def Dev.meanFest (d : Dev) (h : Half) (k : Nat) : Int :=
  let now := d.count h k
  let r := histSum (now - d.hbwAvg h * secUnit) now (d.loop h k).est
  if r.2 = 0 then d.fest h k else r.1.tdiv r.2

/-! ### Stages (R156) -/

/-- A loop moved to a state and stage; every entry to LOCKED raises LOOP_LOCKED (R158). -/
def Dev.loopTo (d : Dev) (h : Half) (k st stage : Nat) : Dev :=
  let b := dplL h k
  let was := d.lstate h k
  let d1 := (d.p b Reg.DPL.LSTAT_STATE st).p b Reg.DPL.LSTAT_STAGE stage
  (d1.setLoop h k { d.loop h k with dwell := 0, down := 0 }).raiseIf (st == 3 && was != 3) (dplPg h k) (dplEvt k 0)

/-- The stage after an update with phase error `e` (R156). -/
def Dev.stageUpdate (d : Dev) (h : Half) (k : Nat) (e : Int) : Dev :=
  let b := dplL h k
  let lp := d.loop h k
  let thr := max 1 (d.g b Reg.DPL.ACQ_THR)
  let stage := d.g b Reg.DPL.LSTAT_STAGE
  let dwell := if e.natAbs ≤ thr then lp.dwell + 1 else 0
  let down := if 8 * thr < e.natAbs then lp.down + 1 else 0
  if d.lstate h k != 2 && d.lstate h k != 3 then d
  else if max 1 (d.g b Reg.DPL.ACQ_DWELL) ≤ dwell && decide (stage < 3) then
    d.loopTo h k (if stage = 2 then 3 else 2) (stage + 1)
  else if 4 ≤ down then
    (if stage = 0 then d.setLoop h k { lp with dwell := dwell, down := 0 }
     else (d.loopTo h k 2 (stage - 1)).raise (dplPg h k) (dplEvt k 1))
  else d.setLoop h k { lp with dwell := dwell, down := down }

/-! ### Holdover (R169 to R173, R175) -/

/-- HOLD_ATOMIC is permitted: EN, C13 QUALIFIED and a model at OFFSET or FULL (R169, R177). -/
def Dev.atomicOk (d : Dev) (h : Half) : Bool :=
  d.gb (hldPg h) Reg.HLD.HCTRL_EN && d.cstate h 13 == 3 && d.g (hldPg h) Reg.HLD.HSTAT_MODEL != 0

/-- x_a (R164): the mean of the atomic phases against a timebase over the last HBW.AVG seconds, each carried to now by the model, in
ps toward zero; with none, the last phase. -/
def Dev.anchorPhase (d : Dev) (h : Half) (k : Nat) : Int :=
  let xs := ((d.hm h).phs.filter fun y => decide (d.count h 0 < y.at_ + d.hbwAvg h * secUnit)).map fun y =>
    y.ph + (y.ofs[k]?).getD 0 - d.modelPhase h { at_ := y.at_, xa := 0, tSum := y.tSum } (d.count h 0)
  if xs.isEmpty then d.phase h 13 + d.tbDiff h k else xs.sum.tdiv xs.length

/-- A domain switch directs a loop: DOM_OFS is its input, in every state but OFF (R152, R158). -/
def Dev.domDirects (d : Dev) (h : Half) (k : Nat) : Bool := d.gb (tsuB h k) Reg.TSU.CTRL_DOM_SEL

/-- HOLD_ATOMIC entered or re-entered, anchored now (R169, R170). -/
def Dev.holdAtomic (d : Dev) (h : Half) (k : Nat) : Dev :=
  let b := dplL h k
  let d1 := (d.p b Reg.DPL.LSTAT_HMODE 1).setLoop h k
    { d.loop h k with
      anchor := some { at_ := d.count h k, xa := d.anchorPhase h k, tSum := (d.hm h).tSum }
      lastAt := none }
  if d.domDirects h k then d1 else (d1.p b Reg.DPL.LSTAT_INPUT 0x1D).pb b Reg.DPL.LSTAT_FREQ_ONLY false

/-- HOLD_LAST: FADJ is fixed at the mean of FEST, with the coupling term still added (R169, R170), but where a domain switch
directs the loop. [DEDUCED log 251] -/
def Dev.holdLast (d : Dev) (h : Half) (k : Nat) : Dev :=
  let b := dplL h k
  let m := d.meanFest h k
  let d1 := (d.p b Reg.DPL.LSTAT_HMODE 2).setLoop h k { d.loop h k with anchor := none, lastAt := none }
  if d.domDirects h k then d1
  else
    ((((d1.p b Reg.DPL.LSTAT_INPUT 0x1F).pb b Reg.DPL.LSTAT_SLEWING false).pb b Reg.DPL.LSTAT_FREQ_ONLY false).setLoop h k
      { d1.loop h k with held := m }).loopOut h k m

/-- |temp − t_ref| now, in m°C. -/
def Dev.tempDev (d : Dev) (h : Half) : Nat := (d.gs (hldPg h) Reg.HLD.TEMP - d.gs (hldPg h) Reg.HLD.TREF).natAbs

/-- Entry to HOLDOVER (R157, R158, R169): stage and dwell are frozen. -/
def Dev.holdEnter (d : Dev) (h : Half) (k : Nat) : Dev :=
  let b := dplL h k
  let lp := d.loop h k
  let new : LoopSt := if lp.holdAt.isSome then lp else { lp with holdAt := some (d.count h 0), dtMax := d.tempDev h }
  let d1 := (d.p b Reg.DPL.LSTAT_STATE 4).setLoop h k new
  let d2 := if d.atomicOk h then d1.holdAtomic h k else d1.holdLast h k
  d2.raiseIf (k == 0) (hldPg h) 0

/-- The selected candidate of a selector is still selectable: usable, in MASK and not C13, or the FORCE_C of mode FORCED
(R136, R137); a wait-to-restore timer has no effect on it. -/
def Dev.oldSelectable (d : Dev) (h : Half) (k : Nat) : Bool :=
  let c := d.selC h k
  d.usable h c && ((bitAt (d.g (selS h k) Reg.SEL.MASK) c && c != 13) ||
    (d.selMode h k == 1 && c == d.g (selS h k) Reg.SEL.SCTRL_FORCE_C))

/-- The condition of HOLDOVER: the selector holds no reference, or is in BUILD-OUT with no selectable old candidate (R157). -/
def Dev.holdCondition (d : Dev) (h : Half) (k : Nat) : Bool :=
  d.selC h k == 31 || (d.xph h k == 2 && !(d.oldSelectable h k))

/-- HOLDOVER entered by a loop that follows an input, where its condition holds (R158). -/
def holdCheck (h : Half) (k : Nat) (d : Dev) : Dev :=
  if (d.lstate h k == 2 || d.lstate h k == 3) && d.holdCondition h k then d.holdEnter h k else d

/-- A model reset clears level, parameters and LEARN_S, raising MODEL_LEVEL (R166). [DEDUCED log 90] -/
def Dev.modelCleared (d : Dev) (h : Half) : Dev :=
  let b := hldPg h
  let d1 := ((((((((d.p2 b Reg.HLD.Y0_LO Reg.HLD.Y0_HI 0).p b Reg.HLD.DRIFT 0).p b Reg.HLD.KT 0).p b Reg.HLD.TREF 0).p b
    Reg.HLD.SIG_Y 0).p b Reg.HLD.SIG_D 0).p b Reg.HLD.SIG_K 0).p b Reg.HLD.LEARN_S 0).p b Reg.HLD.RESID 0
  ((d1.p b Reg.HLD.HSTAT_MODEL 0).pb b Reg.HLD.HSTAT_AGED false).setHm h
    { d.hm h with fresh := false, tMin := none, tMax := none, agedRun := 0, fit := 0, fitAt := none, resetPd := false } |>.raise b 3

/-- A loop's holdover is over (R173): HTIME and EXPIRED clear, and for TB0 a waiting model reset takes effect (R166). -/
def Dev.holdEnded (d : Dev) (h : Half) (k : Nat) : Dev :=
  let d1 := (d.pb (dplL h k) Reg.DPL.LSTAT_EXPIRED false).setLoop h k { d.loop h k with holdAt := none }
  if k = 0 then
    let d2 := d1.pb (hldPg h) Reg.HLD.HSTAT_EXPIRED false
    if (d2.hm h).resetPd then d2.modelCleared h else d2
  else d1

/-- The end of a loop's holdover, with HOLD_EXIT for TB0 (R173, R175). -/
def Dev.holdExit (d : Dev) (h : Half) (k : Nat) : Dev := (d.raiseIf (k == 0) (hldPg h) 1).holdEnded h k

/-- The build-out offset that remains now, and the tick up to which it is drained (R141): at the recovery slew rate while
the loop follows its selected candidate, a time input. [DEDUCED log 86] -/
def Dev.boLeft (d : Dev) (h : Half) (k : Nat) : Int × Nat :=
  let lp := d.loop h k
  let b := d.bo h k
  let follows := (d.lstate h k == 2 || d.lstate h k == 3) && (match lp.lastIn with
    | some (.cand c) => d.isTime h c
    | _ => false)
  if !follows || b = 0 || d.now < lp.boAt then (b, d.now)
  else
    let r := d.slewRate h k
    let step : Nat := r * (4 * (d.now - lp.boAt)) / 10 ^ 6
    (b - clampInt (-(step : Int)) step b, lp.boAt + ceilDiv (step * 10 ^ 6) (4 * r))

/-- The build-out offset of a loop drained up to now (R141). [DEDUCED log 86] -/
def Dev.drained (d : Dev) (h : Half) (k : Nat) : Dev :=
  let x := d.boLeft h k
  (d.putBo h k x.1).setLoop h k { d.loop h k with boAt := x.2 }

/-- A loop LOCKED to a time input with no build-out offset: it has been synchronised, and its holdover ends (R174, R175). -/
def Dev.syncCheck (d : Dev) (h : Half) (k : Nat) (i : LoopIn) : Dev :=
  if d.lstate h k == 3 && d.timeIn h i && i != .atom && d.bo h k == 0 then
    let d1 := d.setLoop h k { d.loop h k with synced := true }
    if (d.loop h k).holdAt.isSome then d1.holdExit h k else d1
  else d

/-- The state that a COMMIT or a resumption gives a loop (R158): from HOLDOVER it enters stage CTRL.REENTRY.
[DEDUCED log 77, 80] -/
def Dev.loopResume (d : Dev) (h : Half) (k : Nat) : Dev :=
  let b := dplL h k
  let re := d.g b Reg.DPL.CTRL_REENTRY
  match d.lstate h k with
  | 4 => ((d.p b Reg.DPL.LSTAT_HMODE 0).setLoop h k { d.loop h k with anchor := none, lastAt := none }).loopTo h k
      (if re = 3 then 3 else 2) re
  | 1 => d.loopTo h k 2 0
  | _ => d.setLoop h k { d.loop h k with dwell := 0, down := 0 }

/-- The initial step of a start (R503): both halves' timebases are stepped at their next second boundary by −BO of the
leading half, to the nearest ns, through TSU.CTRL.STEP. [DEDUCED log 87] -/
def Dev.initialStep (d : Dev) (k : Nat) (bo : Int) : Dev :=
  let r := meanNearest bo 1000
  [Half.warp, Half.weft].foldl (fun e h =>
    let b := tsuB h k
    let t : Nat := (((e.sec h k + 1 : Nat) : Int) * 10 ^ 9 - r).toNat
    let e1 := (e.p2 b Reg.TSU.SET_SEC_LO Reg.TSU.SET_SEC_HI (t / 10 ^ 9)).p b Reg.TSU.SET_NSEC (t % 10 ^ 9)
    (stepAsked h k e1).setLoop h k { e1.loop h k with initStep := some r }) d

/-- COMMIT (R140, R503): the loop input changes to the target, SEL_SWITCHED is raised and the transaction is over.
[DEDUCED log 84] -/
def Dev.commit (d : Dev) (h : Half) (k : Nat) : Dev :=
  let b := selS h k
  let c := d.tgtC h k
  let bo := (d.sel h k).boSum
  let free := d.lstate h k == 1
  let d1 := ((((d.p b Reg.SEL.SSTAT_SEL_C c).p b Reg.SEL.SSTAT_XPH 0).p b Reg.SEL.SSTAT_TGT_C 0x1F).pb b
    Reg.SEL.SSTAT_NOREF false).inc b Reg.SEL.SWCNT_COMMITS
  let d2 := ((d1.putBo h k bo).setSel h k { d.sel h k with ready := false, boSum := 0, boN := 0 }).raise (selPg h) k
  let d2a := d2.setLoop h k { d2.loop h k with tCommit := d.gs (hldPg h) Reg.HLD.TEMP, boAt := d.now }
  let d3 := d2a.loopResume h k
  if free && d.isTime h c && h == d.lead && d.g sysPg Reg.SYS.STARTCFG != 0xFFFF && decide (d.g sysPg Reg.SYS.STARTCFG * 1000 < bo.natAbs) then d3.initialStep k bo
  else d3

/-- The code a loop runs at for an input (R154, R156, R169). -/
def Dev.loopCode (d : Dev) (h : Half) (k : Nat) (i : LoopIn) : Nat :=
  if i = .atom then d.g (hldPg h) Reg.HLD.HBW_CODE
  else d.g (dplL h k + 4 * d.g (dplL h k) Reg.DPL.LSTAT_STAGE) Reg.DPL.BW

/-- INPUT of LSTAT for an input (R176). -/
def LoopIn.code : LoopIn → Nat
  | .cand c => c
  | .dom => 0x1E
  | .atom => 0x1D

/-- One update of a loop from a measurement of its input (R153 to R160). `count` says whether the update counts for the
dwell (R156). -/
def Dev.loopStep (d : Dev) (h : Half) (k : Nat) (i : LoopIn) (count : Bool) : Dev :=
  let b := dplL h k
  let lp := d.loop h k
  let now := d.count h k
  let ns := match lp.lastAt with | some t => (now - t) / nsUnit | none => 0
  let d0 := d.drained h k
  let e := d0.loopErr h k i
  let code := d.loopCode h k i
  let eff := effCode code (d.usableBw h i)
  let clamped := decide (d.usableBw h i < bandwidth code)
  let bw := bandwidth eff
  let p0 := propPart bw e
  let lim : Int := (d.slewRate h k * 2 ^ 48 / 10 ^ 9 : Nat)
  let p := if d.timeIn h i then clampInt (-lim) lim p0 else p0
  let atLim := d.gb b Reg.DPL.LSTAT_AT_FLIM
  let fest := if atLim then d.fest h k else d.fest h k - integPart bw ns e
  let d1 := ((((((d0.ps48 b Reg.DPL.PERR_LO Reg.DPL.PERR_HI e).inc b Reg.DPL.UPDCNT).p b Reg.DPL.LSTAT_EFF_CODE eff).pb b
    Reg.DPL.LSTAT_SLEWING (decide (p ≠ p0))).p b Reg.DPL.LSTAT_INPUT i.code).pb b Reg.DPL.LSTAT_FREQ_ONLY
      (!(d.timeIn h i)))
  let d2 := (d1.raiseIf (clamped && lp.bwIn != some i) (dplPg h k) (dplEvt k 4)).setLoop h k
    { d0.loop h k with
              lastAt := some now, lastIn := some i, lastNo := d.measNo h k i
              eWin := if lp.eFresh then [e.natAbs] else (e.natAbs :: lp.eWin).take 16
              eFresh := false, updAt := d.count h 0, lateAt := none, held := fest - p
              bwIn := if clamped then some i else if lp.bwIn = some i then lp.bwIn else none }
  let d3 := (d2.putFest h k fest).loopOut h k (fest - p)
  let d4 := if count then d3.stageUpdate h k e else d3
  d4.syncCheck h k i

/-- The loop resumes its selected candidate from holdover at this update (R142, R158): the condition of HOLDOVER has ended by
an abort, and a measurement has followed it. -/
def Dev.resumeDue (d : Dev) (h : Half) (k : Nat) : Bool :=
  let c := d.selC h k
  d.lstate h k == 4 && !(d.holdCondition h k) && d.xph h k != 2 && d.usable h c &&
    decide ((d.sel h k).endNo < (d.cand h c).measNo)

/-- The input changed to the target at an update, which follows it (R140), but of a loop that is OFF or that a domain switch
directs. [DEDUCED log 75] -/
def Dev.commitStep (d : Dev) (h : Half) (k : Nat) : Dev :=
  let c := d.tgtC h k
  let d1 := d.commit h k
  if d1.lstate h k == 0 || d1.domDirects h k then d1 else d1.loopStep h k (.cand c) false

/-- The commit of the leading half carried out in the half that follows, at the same instant (R139): with the mean of its own
measurements as BO, or the leading half's where it has none. [DEDUCED log 75] -/
def Dev.commitFollowed (d : Dev) (h : Half) (k c : Nat) : Dev :=
  let o := h.other
  let st := d.sel o k
  if !(d.follows o) || !(d.loopsRun o) || d.xph o k != 2 || d.tgtC o k != c then d
  else
    let bo := if st.ready then st.boSum else if st.boN = 0 then d.bo h k else meanNearest st.boSum st.boN
    (d.setSel o k { st with boSum := bo }).commitStep o k

/-- LOOP_UPDATE (R153): a COMMIT that is due takes place at this update (R140), also while the loop is OFF (R158); a
candidate dropped by HOLD leaves now, at its next measurement while it is usable (R137); a ride-through resumes (R142); otherwise an enabled loop takes a new measurement
of its input, if there is one. [DEDUCED log 84] -/
def loopUpdated (h : Half) (k : Nat) (d : Dev) : Dev :=
  if !(d.loopsRun h) then d
  else if (d.sel h k).drop then
    if d.usable h (d.selC h k) && decide ((d.cand h (d.selC h k)).measNo ≤ (d.sel h k).endNo) then d else
    holdCheck h k ((d.selNoref h k).setSel h k { d.sel h k with drop := false })
  else if d.commitDue h k then
    (d.commitStep h k).commitFollowed h k (d.tgtC h k)
  else if d.lstate h k == 0 then d
  else if d.resumeDue h k then
    if d.domDirects h k then d.loopResume h k else (d.loopResume h k).loopStep h k (.cand (d.selC h k)) false
  else
    match d.loopIn h k with
    | none => d
    | some i =>
      if (d.loop h k).lastIn == some i && (d.loop h k).lastNo == d.measNo h k i then d
      else if d.lstate h k == 1 && i != .dom then
        (let f := (d.tb h k).fadj
         let e := ((d.ps48 (dplL h k) Reg.DPL.FEST_LO Reg.DPL.FEST_HI f).loopTo h k 2 0)
         e.loopStep h k i false)
      else d.loopStep h k i true

/-- LOOP_LATE (R30): the loop skips the update and raises LOOP_LATE; the first instant skipped stays (R201). -/
def loopLated (h : Half) (k : Nat) (d : Dev) : Dev :=
  let late := (d.loop h k).lateAt.getD (d.count h 0)
  match d.loopIn h k with
  | some i =>
    (d.setLoop h k { d.loop h k with lastIn := some i, lastNo := d.measNo h k i, lateAt := some late }).raise
      (dplPg h k) (dplEvt k 3)
  | none => (d.setLoop h k { d.loop h k with lateAt := some late }).raise (dplPg h k) (dplEvt k 3)

/-- A loop set to its state after EN is written (R158): FREERUN with FADJ held, or OFF with the last FADJ. It updates at the
next measurement of its input. -/
def Dev.loopSet (d : Dev) (h : Half) (k : Nat) (v : Bool) : Dev :=
  let b := dplL h k
  let lp := d.loop h k
  let i := if d.gb (tsuB h k) Reg.TSU.CTRL_DOM_SEL then LoopIn.dom else .cand (d.selC h k)
  let d1 := ((((((d.pb b Reg.DPL.CTRL_EN v).p b Reg.DPL.LSTAT_STATE (bitOf v)).p b Reg.DPL.LSTAT_STAGE 0).p b
    Reg.DPL.LSTAT_HMODE 0).p b Reg.DPL.LSTAT_INPUT 0x1F).pb b Reg.DPL.LSTAT_SLEWING false).pb b
    Reg.DPL.LSTAT_FREQ_ONLY false
  let f := (d.tb h k).fadj
  (d1.setLoop h k { synced := lp.synced, held := f, cpl := if v then lp.cpl else 0, initStep := lp.initStep,
                          lastIn := some i, lastNo := d.measNo h k i }).setTb h k
    { d1.tb h k with fadjTgt := f, slew := false }

/-- A loop switched on or off as EN does it (R158, R173): it ends a holdover. -/
def Dev.loopSwitched (d : Dev) (h : Half) (k : Nat) (v : Bool) : Dev :=
  (if (d.loop h k).holdAt.isSome then d.holdExit h k else d).loopSet h k v

/-- EN of a loop written (R158): stored alone while the page's ENABLE is 0 (R38). -/
def loopEnWritten (h : Half) (k : Nat) (v : Bool) (d : Dev) : Dev :=
  let b := dplL h k
  if d.gb b Reg.DPL.CTRL_EN = v then d
  else if !(d.enabled (dplPg h k)) then d.pb b Reg.DPL.CTRL_EN v
  else d.loopSwitched h k v

/-- A loop restarted by a SOFT_RESET (R564), keeping its FADJ: its holdover is over without an event. -/
def loopRestart (h : Half) (k : Nat) (d : Dev) : Dev :=
  if d.en (dplPg h k) (dplL h k) Reg.DPL.CTRL_EN then (d.holdEnded h k).loopSet h k true else d

/-! ### Realign (R161) -/

/-- A realign of a loop is refused: a frequency input, a state other than ACQUIRE or LOCKED, or a step pending.
[DEDUCED log 88] -/
def Dev.realignBad (d : Dev) (h : Half) (k : Nat) : Bool :=
  d.gb (dplL h k) Reg.DPL.LSTAT_FREQ_ONLY || !(d.lstate h k == 2 || d.lstate h k == 3) ||
    d.gb (tsuB h k) Reg.TSU.STAT_STEP_PEND

/-- REALIGN written: refused with its event, or waiting for the next second boundary. -/
def realignAsked (h : Half) (k : Nat) (d : Dev) : Dev :=
  if d.realignBad h k then d.raise (dplPg h k) (dplEvt k 5)
  else d.setLoop h k { d.loop h k with realign := some (d.sec h k) }

/-- A realign waits and its boundary has come. -/
def Dev.realignDue (d : Dev) (h : Half) (k : Nat) : Bool :=
  match (d.loop h k).realign with
  | some s => decide (s < d.sec h k)
  | none => false

/-- The count moved by a number of ps. -/
def Dev.countMoved (d : Dev) (h : Half) (n : Nat) (ps : Int) : Dev :=
  let t := d.tb h n
  let c : Int := (t.count : Int) + (ps * nsUnit) / 1000
  d.setTb h n { t with count := (c % countMod).toNat }

/-- The step of a realign: the timebase moves by −e of the last update, BO becomes 0, what is left of a phase adjustment is discarded
(R76), and TB_STEPPED is raised. [DEDUCED log 88] -/
def realigned (h : Half) (k : Nat) (d : Dev) : Dev :=
  let e := d.s48 (dplL h k) Reg.DPL.PERR_LO Reg.DPL.PERR_HI
  let d1 := (padjAborted h k d).setLoop h k { d.loop h k with realign := none, eFresh := true }
  (((d1.countMoved h k (-e)).putBo h k 0).raise (tsuPg h k) (tbEvt k 0))

/-! ### The skew of the halves (R18, R162, R163) -/

/-- s_k of a half in 2^-64 ns (R162): the half skew with this half's sign, and the exact differences of each half. -/
def Dev.skewExact (d : Dev) (h : Half) (k : Nat) : Int :=
  (d.skewRun.of h).raw * 2 ^ 31 + ((d.count h k : Int) - d.count h 0) - ((d.count h.other k : Int) - d.count h.other 0)

/-- s_k of a half in ps, toward zero (R162). -/
def Dev.skewOf (d : Dev) (h : Half) (k : Nat) : Int := (1000 * d.skewExact h k).tdiv nsUnit

/-- |s_k| in ps, rounded up (R206). -/
def Dev.skewCeil (d : Dev) (h : Half) (k : Nat) : Nat := ceilDiv (1000 * (d.skewExact h k).natAbs) nsUnit

/-- A half returns while the other serves (R163, R427); in a joint start the halves couple symmetrically (R504). -/
def Dev.rejoining (d : Dev) (h : Half) : Bool := d.returning h && d.serving h.other

/-- A half that returns couples one-sided, until its re-alignment is complete (R163). -/
def Dev.oneSided (d : Dev) (h : Half) : Bool := d.rejoining h && !(d.gb (dplPg h 0) Reg.DPL.SKSTAT_ALIGNED)

/-- The coupling term of a loop from s_k, in 2^-48 (R162, R163): −s_k/2 through the coupling bandwidth, −s_k in a half
that couples one-sided, and 0 in its serving partner or without CPL_EN. -/
def Dev.couplingTerm (d : Dev) (h : Half) (k : Nat) (s : Int) : Int :=
  let bw := bandwidth (effCode (d.g (dplPg h 0) Reg.DPL.CPL) 400000)
  if !(d.en (dplPg h k) (dplL h k) Reg.DPL.CTRL_CPL_EN) then 0
  else if d.oneSided h then -((s * bw * 6283185307179586 * 2 ^ 48).tdiv (10 ^ 31)) + Config.loopResidue 2 s
  else if d.oneSided h.other then 0
  else -((s * bw * 6283185307179586 * 2 ^ 48).tdiv (2 * 10 ^ 31)) + Config.loopResidue 2 s

/-- The coupling term of a loop taken in: it is added at once to FEST − p of the loop's last update, or to the value that takes its
place in FREERUN and HOLD_LAST (R160, R162). -/
def Dev.coupled (d : Dev) (h : Half) (k : Nat) (c : Int) : Dev :=
  let lp := d.loop h k
  let d1 := d.setLoop h k { lp with cpl := c }
  if d.lstate h k == 0 then d1 else d1.loopOut h k lp.held

/-- Every enabled loop of a half lies within 40 ps of its twin (R163). -/
def Dev.allAligned (d : Dev) (h : Half) : Bool :=
  decide ((d.skewOf h 0).natAbs ≤ 40) &&
    (List.range 16).all fun k => d.lstate h k == 0 || decide ((d.skewOf h k).natAbs ≤ 40)

/-- The steps that a returning half's firmware takes when the skew is above 1 µs (R163): each enabled timebase by −s_k
through TSU.CTRL.STEP. -/
def Dev.returnStep (d : Dev) (h : Half) : Dev :=
  d.each 16 fun k e =>
    if e.lstate h k == 0 || e.gb (tsuB h k) Reg.TSU.STAT_STEP_PEND then e
    else
      let b := tsuB h k
      let t : Nat := (((e.sec h k + 1 : Nat) : Int) * 10 ^ 9 - (e.skewOf h k).tdiv 1000).toNat
      stepAsked h k ((e.p2 b Reg.TSU.SET_SEC_LO Reg.TSU.SET_SEC_HI (t / 10 ^ 9)).p b Reg.TSU.SET_NSEC (t % 10 ^ 9))

/-- The skew of a half is no longer valid: a half is out of service (R163). -/
def Dev.skewLost (d : Dev) (h : Half) : Dev :=
  let pg := dplPg h 0
  let d1 := ((d.pb pg Reg.DPL.SKSTAT_VALID false).pb pg Reg.DPL.SKSTAT_ALIGNED false).each 16 fun k e => e.coupled h k 0
  { d1 with skewRun := d1.skewRun.put h { raised := (d1.skewRun.of h).raised } }

/-- One half takes in a skew measurement with its own sign, in 2^-33 ns; SKEW shows it in ps (R18, R162, R163).
[DEDUCED log 93] -/
def Dev.skewTaken (d : Dev) (h : Half) (raw : Int) : Dev :=
  let pg := dplPg h 0
  let ps : Nat := 1000 * raw.natAbs
  let d1 := (d.ps48 pg Reg.DPL.SKEW_LO Reg.DPL.SKEW_HI ((1000 * raw).tdiv (2 ^ 33))).pb pg Reg.DPL.SKSTAT_VALID true
  let run := d1.skewRun.of h
  let up := if 50 * 2 ^ 33 < ps then run.up + 1 else 0
  let low := if ps ≤ 40 * 2 ^ 33 then run.low + 1 else 0
  let al := if d1.allAligned h then run.al + 1 else 0
  let raised := (run.raised || decide (16 ≤ up)) && decide (low < 16)
  let d2 := ({ d1 with skewRun := d1.skewRun.put h { raw := raw, up := up, low := low, al := al, raised := raised } }).raiseIf
    (raised && !run.raised) pg 7
  let d3 := d2.pb pg Reg.DPL.SKSTAT_ALIGNED (d2.gb pg Reg.DPL.SKSTAT_ALIGNED || decide (1000 ≤ al))
  let d4 := if d3.rejoining h && decide (10 ^ 6 * 2 ^ 33 < ps) then d3.returnStep h else d3
  d4.each 16 fun k e => if e.lstate h k == 0 then e else e.coupled h k (e.couplingTerm h k (e.skewOf h k))

/-- A marker of CP72 or CP73 stamped by both units (R120): Warp stamp less Weft stamp in 2^-32 ns, where both stamped it. -/
def Dev.markerDiff (old new : Dev) (cp : Nat) : Option Int :=
  match (new.cap .warp cp).stampedSince (old.cap .warp cp), (new.cap .weft cp).stampedSince (old.cap .weft cp) with
  | some a, some b => some ((a : Int) - b)
  | _, _ => none

/-- HALF_SKEW_MEASURE (R18, R120): each marker is stamped by both units of its point, and the skew is the mean of the two
differences; none is taken while a half is out of service, or where a unit gives no stamp. -/
def skewMeasured (w72 f72 w73 f73 : EdgeSeen) (d : Dev) : Dev :=
  let e := (((d.capEdge .warp 72 false w72).capEdge .weft 72 false f72).capEdge .warp 73 false w73).capEdge .weft 73 false f73
  if !(d.loopsRun .warp) || !(d.loopsRun .weft) then (e.skewLost .warp).skewLost .weft
  else match d.markerDiff e 72, d.markerDiff e 73 with
    | some a, some b => (e.skewTaken .warp (a + b)).skewTaken .weft (-(a + b))
    | _, _ => e

/-! ### Holdover events and the model (R164 to R168, R170 to R173) -/

/-- HTIME (R173): whole seconds since entry to a holdover that has not ended. [DEDUCED log 85] -/
def Dev.htime (d : Dev) (h : Half) (k : Nat) : Nat :=
  match (d.loop h k).holdAt with
  | some t => (d.count h 0 - t) / secUnit
  | none => 0

/-- The mean of the sensors that are in it (R168), from 2^-8 degrees to m°C, toward zero; none with no sensor left.
[DEDUCED log 91] -/
def tempMean (t : List (Nat × (Option Int × Nat))) : Option Int :=
  let xs := t.filterMap fun (s : Nat × (Option Int × Nat)) => if 3 ≤ s.2.2 then none else s.2.1
  if xs.isEmpty then none else some ((1000 * xs.sum).tdiv (256 * xs.length))

/-- No sensor is left in the mean (R168). -/
def Dev.noSensor (d : Dev) (h : Half) : Bool := (tempMean (d.hm h).sensors).isNone

/-- h of R171 in ps after a time in 2^-64 ns with a temperature excursion in m°C, rounded up. With no sensor left the excursion is
10 °C (R168). -/
def Dev.modelUnc (d : Dev) (h : Half) (move t : Nat) : Nat :=
  let b := hldPg h
  let dt := if d.noSensor h then 10000 else move
  let n := 3 * (2000 * d.g b Reg.HLD.SIG_Y * t * secUnit + d.g b Reg.HLD.SIG_D * t * t
    + 2 * d.g b Reg.HLD.SIG_K * dt * t * secUnit) + 2000 * d.g b Reg.HLD.ADEV * t * secUnit
  ceilDiv n (2 * 10 ^ 6 * secUnit * secUnit)

/-- A loop in HOLD_ATOMIC loses its source: C13 leaves QUALIFIED, or no selected CP12 edge has come for 2 s (R170). -/
def Dev.sourceLost (d : Dev) (h : Half) (k : Nat) : Bool :=
  d.hmode h k == 1 && (d.cstate h 13 != 3 ||
    (match (d.cap h 12).stamp0 with
     | some s => decide (s + 2 * secFrac ≤ d.count h 0 / 2 ^ 32)
     | none => true))

/-- HOLD_SOURCE_LOST (R170). -/
def holdSourceLost (h : Half) (k : Nat) (d : Dev) : Dev :=
  if d.sourceLost h k then (d.holdLast h k).raise (hldPg h) 4 else d

/-- A loop returns to HOLD_ATOMIC, re-anchored, when C13 is QUALIFIED again (R170). -/
def holdSourceBack (h : Half) (d : Dev) : Dev :=
  d.each 16 fun k e => if e.hmode h k == 2 && e.atomicOk h then e.holdAtomic h k else e

/-- HCTRL.EN cleared while loops are in HOLD_ATOMIC moves them to HOLD_LAST (R177). -/
def hctrlEnWritten (h : Half) (v : Bool) (d : Dev) : Dev :=
  let d1 := d.pb (hldPg h) Reg.HLD.HCTRL_EN v
  if v then d1 else d1.each 16 fun k e => if e.hmode h k == 1 then e.holdLast h k else e

/-- The length of a candidate's frequency window in 2^-64 ns (R133). -/
def Dev.fmonLength (d : Dev) (h : Half) (c : Nat) : Nat :=
  if 1000 ≤ d.nomFreq h c then secUnit
  else 16 * (d.g (tdcP h ((candCp c).getD 0)) Reg.TDC.DIV + 1) * secUnit / d.nomFreq h c

/-- The edge count between two ATOMPPS edges (R170): a count that is not C13's NOMFREQ fails C13 with FREQ for one window. -/
def ppsEdge (h : Half) (d : Dev) : Dev :=
  let ec := (d.cap h 12).ecnt
  let d1 := d.setHm h { d.hm h with ppsEc := some ec }
  match (d.hm h).ppsEc with
  | none => d1
  | some x =>
    if (ec + 2 ^ 32 - x) % 2 ^ 32 != d.nomFreq h 13 && d.en (refPg h 13) (refQ h 13) Reg.REF.CTRL_EN then
      (d1.setCand h 13 { d1.cand h 13 with failTo := some (d.count h 0 + d.fmonLength h 13) }).putFault h 13 faultFREQ true
    else d1

/-- A loop is expired: HTIME has reached LIMIT, or its published bound BLIMIT (R173). `bound` is the published bound in
ps. -/
def Dev.holdIsExpired (d : Dev) (h : Half) (k bound : Nat) : Bool :=
  let lim := d.g (hldPg h) Reg.HLD.LIMIT
  let bl := d.g (hldPg h) Reg.HLD.BLIMIT
  (d.loop h k).holdAt.isSome &&
    ((lim != 0xFFFFFFFF && decide (lim ≤ d.htime h k)) || (bl != 0xFFFFFFFF && decide (bl ≤ bound)))

/-- HOLD_EXPIRED (R173): EXPIRED of the loop, and for TB0 HSTAT.EXPIRED with its event. [DESIGN CHOICE log 2] -/
def holdExpired (h : Half) (k bound : Nat) (d : Dev) : Dev :=
  if d.holdIsExpired h k bound && !(d.gb (dplL h k) Reg.DPL.LSTAT_EXPIRED) then
    let d1 := d.pb (dplL h k) Reg.DPL.LSTAT_EXPIRED true
    if k = 0 then (d1.pb (hldPg h) Reg.HLD.HSTAT_EXPIRED true).raise (hldPg h) 2 else d1
  else d

/-- A sample counts (R165): TB0's loop LOCKED, C13 and the selected candidate QUALIFIED, no transaction past DECIDE. -/
def Dev.sampleCounts (d : Dev) (h : Half) : Bool :=
  d.lstate h 0 == 3 && d.cstate h 13 == 3 && d.cstate h (d.selC h 0) == 3 && d.xph h 0 != 2

/-- The parameters of a model as words of the page: Y0 to RESID but LEARN_S and OUTLIERS. -/
def modelOffsets : List Nat := [0x120, 0x124, 0x128, 0x12C, 0x130, 0x134, 0x138, 0x13C, 0x140, 0x144, 0x148]

/-- The parameters that the fit starts from. -/
def Dev.modelParams (d : Dev) (h : Half) : List Nat := modelOffsets.map fun o => d.w (hldPg h + o)

/-- HOLDOVER_SAMPLE (R165, R167): the atomic oscillator's frequency over the second, taken into the fit by the half that fits; a
residual against the model above 5 × RESID is discarded and counted. [DEDUCED log 90] -/
def holdoverSampled (d : Dev) : Dev :=
  let h := d.lead
  let b := hldPg h
  let m := d.hm h
  let u := d.cap h 12
  match u.stamp0 with
  | none => d
  | some s =>
    let d1 := d.setHm h { m with last := some (s, u.stampEc) }
    match m.last with
    | none => d1
    | some w =>
      if !(d.gb b Reg.HLD.HCTRL_LEARN) || !(d.sampleCounts h) || decide (s ≤ w.1) then d1
      else
        let y := freqOfs (10 ^ 15) ((u.stampEc + 2 ^ 32 - w.2) % 2 ^ 32) (s - w.1) (d.nomFreq h 13)
        let t := d.gs b Reg.HLD.TEMP
        let near := decide ((y - (m.aged.1 * 10 ^ 15).tdiv (2 ^ 48)).natAbs ≤ 3 * m.aged.2)
        if d.gb b Reg.HLD.HSTAT_AGED && !near then d1.modelCleared h
        else if 1000 ≤ d.g b Reg.HLD.LEARN_S && decide (5 * d.g b Reg.HLD.RESID < (y - d.yPred h).natAbs) then
          d1.incSat b Reg.HLD.OUTLIERS
        else
          let run := if d.gb b Reg.HLD.HSTAT_AGED then m.agedRun + 1 else 0
          ((d1.incSat b Reg.HLD.LEARN_S).pb b Reg.HLD.HSTAT_AGED
            (d.gb b Reg.HLD.HSTAT_AGED && decide (run < 1000))).setHm h
            { m with last := some (s, u.stampEc), fresh := true, y := y, agedRun := run, fitAt := some s
                     fit := Config.fitStep m.fit (d.modelParams h) (clampNat 1 8760 (d.g b Reg.HLD.FITCFG_TAU)) y t
                     tMin := some (match m.tMin with | some x => min x t | none => t)
                     tMax := some (match m.tMax with | some x => max x t | none => t) }

/-- The model's level from its seconds of samples (R166): 0 NONE, 1 OFFSET, 2 FULL. -/
def Dev.modelLevel (d : Dev) (h : Half) : Nat :=
  let s := d.g (hldPg h) Reg.HLD.LEARN_S
  if s < 1000 then 0 else if s < 3600 * max 1 (d.g (hldPg h) Reg.HLD.FITCFG_LEARN_MIN) then 1 else 2

/-- One half's model, its level and what its fit holds taken over in the other (R167); a change of level raises MODEL_LEVEL. -/
def Dev.copyModel (d : Dev) (src dst : Half) : Dev :=
  let a := hldPg src
  let b := hldPg dst
  let m := d.hm src
  let lvl := d.g a Reg.HLD.HSTAT_MODEL
  let d1 := modelOffsets.foldl (fun e x => e.setw (b + x) (d.w (a + x))) d
  let d2 := (d1.raiseIf (lvl != d.g b Reg.HLD.HSTAT_MODEL) b 3).p b Reg.HLD.HSTAT_MODEL lvl
  (d2.pb b Reg.HLD.HSTAT_AGED (d.gb a Reg.HLD.HSTAT_AGED)).setHm dst
    { d.hm dst with y := m.y, tMin := m.tMin, tMax := m.tMax, agedRun := m.agedRun, aged := m.aged, fit := m.fit
                    fitAt := m.fitAt, copyDue := false }

/-- A second boundary of TB0: a copy of the deciding half's model that waits is applied (R167). [DEDUCED log 252] -/
def modelCopied (d : Dev) : Dev :=
  let o := d.lead.other
  if (d.hm o).copyDue && !(d.outOfService o) then d.copyModel d.lead o else d

/-- MODEL_UPDATE (R165 to R167): the fit gives the parameters, whose values the manual does not lay out, within what the
level says of them; the other half's copy is applied at the next second boundary.
[DESIGN CHOICE log 89; DEDUCED log 252] -/
def modelUpdated (d : Dev) : Dev :=
  let h := d.lead
  let b := hldPg h
  let m := d.hm h
  if !m.fresh then d
  else
    let lvl := d.modelLevel h
    let span := match m.tMin, m.tMax with | some a, some z => decide (1000 ≤ z - a) | _, _ => false
    let full := lvl == 2
    let x := Config.fitParam m.fit (d.modelParams h)
    let d1 := (((((((d.p2 b Reg.HLD.Y0_LO Reg.HLD.Y0_HI (x 0 % 2 ^ 48)).p b Reg.HLD.DRIFT
      (if full then x 1 else 0)).p b Reg.HLD.KT (if full && span then x 2 else 0)).p b Reg.HLD.TREF
      (x 3)).p b Reg.HLD.SIG_Y (x 4)).p b Reg.HLD.SIG_D (if full then x 5 else 100)).p b
      Reg.HLD.SIG_K (if full && span then x 6 else 100)).p b Reg.HLD.RESID (x 7)
    let d2 := (d1.setHm h { m with fresh := false }).raiseIf (lvl != d.g b Reg.HLD.HSTAT_MODEL) b 3
    let d3 := d2.p b Reg.HLD.HSTAT_MODEL lvl
    let o := h.other
    if d.outOfService o then d3 else d3.setHm o { d3.hm o with copyDue := true }

/-- MODEL_RESET written (R166, R177): ignored in Weft while Warp is in service; during holdover it waits for the exit. -/
def modelReset (h : Half) (d : Dev) : Dev :=
  if h == .weft && !(d.outOfService .warp) then d
  else
    d.halvesInService.foldl (fun e x =>
      if (e.loop x 0).holdAt.isSome then e.setHm x { e.hm x with resetPd := true } else e.modelCleared x) d

/-- TEMP_READ in one half (R168): each selected sensor's reading, none where it does not answer; the third miss in a row
removes it, and a sensor no longer selected is forgotten. [DEDUCED log 91] -/
def tempTaken (h : Half) (reads : List (Option Int)) (d : Dev) : Dev :=
  let b := hldPg h
  let m := d.hm h
  let tsel := d.g b Reg.HLD.HCTRL_TSEL
  let upd := (List.range 4).foldl (fun (acc : List (Nat × (Option Int × Nat)) × Nat) i =>
    if !(bitAt tsel i) then acc
    else
      let old := (Tab.find? m.sensors i).getD (none, 0)
      match (reads[i]?).join with
      | some v => (Tab.insert acc.1 i (some v, 0), acc.2)
      | none => (Tab.insert acc.1 i (old.1, min 3 (old.2 + 1)), if old.2 = 2 then acc.2 + 1 else acc.2))
    (([] : Tab (Option Int × Nat)), 0)
  let t := match tempMean upd.1 with | some v => v | none => d.gs b Reg.HLD.TEMP
  let dt := t - d.gs b Reg.HLD.TREF
  let d1 := (d.p b Reg.HLD.TEMP (unsignedOf 32 t)).setHm h
    { m with sensors := upd.1, tSum := m.tSum + dt }
  let d2 := d1.each 16 fun k e =>
    if (e.loop h k).holdAt.isSome then e.setLoop h k { e.loop h k with dtMax := max (e.loop h k).dtMax dt.natAbs } else e
  (List.range upd.2).foldl (fun e _ => e.raise b 5) d2

end Sys2Proof.Machine
end

