-- ==== Sys2Proof/Machine/Synth.lean ====
section
/-! DEFINITION. Synthesis loops (R179 to R185), output stages (R186 to R190, R565) and the OCXO steering DAC (R193 to
R195). -/

namespace Sys2Proof.Machine

/-- The APL page of a half. -/
def aplPg (h : Half) : Nat := pageAddr .apl h 0

/-- A synthesis loop's engine; block 0 is the fixed loop, block 1 the steered one (R192). -/
def Dev.apl (d : Dev) (h : Half) (j : Nat) : AplSt := tget {} d.apls (h.num * 2 + j)

/-- The device with a synthesis loop's engine replaced. -/
def Dev.setApl (d : Dev) (h : Half) (j : Nat) (v : AplSt) : Dev := { d with apls := tset {} d.apls (h.num * 2 + j) v }

/-- STATE of a synthesis loop: 0 SEARCH, 1 SETTLE, 2 LOCKED, 3 NO_LO, 4 FAILED. -/
def Dev.aplState (d : Dev) (h : Half) (j : Nat) : Nat := d.g (aplBase h j) Reg.APL.LSTAT_STATE

/-- Event word `k` of a loop block (R197): APL_LOCKED, APL_UNLOCK, APL_LOCK_FAIL, APL_RANGE, LO_LOST, APL_REFUSED. -/
def aplEvt (j k : Nat) : Nat := 8 * j + k

/-- A ratio M as a numerator over its denominator. -/
def AplSt.num (a : AplSt) : Nat := a.mint * max 1 a.mden + a.mnum

/-- FIXN of a half (R180). -/
def Dev.fixn (d : Dev) (h : Half) : Nat := d.g (aplBase h 0) Reg.APL.M_INT_FIXN

/-- The timebase a steered loop follows. -/
def Dev.aplFollow (d : Dev) (h : Half) : Nat := d.g (aplBase h 1) Reg.APL.LCTRL_FOLLOW

/-- The steered ratio M × (1 + FADJ) as a numerator over `max 1 mden × 2^48` (R181): FADJ in effect, with the slew of a phase
adjustment (R75). -/
def Dev.ratioNum (d : Dev) (h : Half) : Nat :=
  let n := d.aplFollow h
  (((d.apl h 1).num : Int) * (2 ^ 48 + (d.tb h n).withSlew (d.tb h n).fadj (d.pslew h n))).toNat

/-- DEV of a steered loop before the window: the effective ratio's distance from the centre in 10^-9 (R192).
[DEDUCED log 95] -/
def Dev.devWant (d : Dev) (h : Half) : Int :=
  let a := d.apl h 1
  let den : Nat := max 1 a.mden * 2 ^ 48 * a.cNum
  if den = 0 then 0
  else (((d.ratioNum h * a.cDen : Nat) : Int) * 10 ^ 9).tdiv den - 10 ^ 9

/-- The deviation clamped to the window of ±50 ppm (R182). -/
def Dev.devTarget (d : Dev) (h : Half) : Int := clampInt (-50000) 50000 (d.devWant h)

/-- A move of FADJ, FOLLOW or M within the window is followed; beyond it the ratio is clamped, with AT_RANGE and APL_RANGE
(R182). -/
def ratioRefresh (h : Half) (d : Dev) : Dev :=
  let b := aplBase h 1
  if d.aplState h 1 != 2 then d
  else
    let out := decide (50000 < (d.devWant h).natAbs)
    let d1 := d.pb b Reg.APL.LSTAT_AT_RANGE out
    d1.raiseIf (out && !(d.gb b Reg.APL.LSTAT_AT_RANGE)) (aplPg h) (aplEvt 1 3)

/-- SLEWING of a steered loop (R182). -/
def Dev.aplSlewing (d : Dev) (h : Half) : Bool := d.aplState h 1 == 2 && (d.apl h 1).devNow != d.devTarget h

/-- The steered ratio approaches its target at 0.5 ppm/µs: 2 × 10^-9 a tick, and is held within its window (R182). -/
def Dev.aplTick (d : Dev) (h : Half) : Dev :=
  let a := d.apl h 1
  if d.aplState h 1 = 2 then
    ratioRefresh h (d.setApl h 1 { a with devNow := a.devNow + clampInt (-2) 2 (d.devTarget h - a.devNow) })
  else d

/-! ### Outputs -/

/-- The OUT page of an output: index 0 for OUT, 1 for PPSO (R186). -/
def outPg (h : Half) (i : Nat) : Nat := pageAddr .out h i

/-- The register block of an output. -/
def outO (h : Half) (i j : Nat) : Nat := outPg h i + 0x100 + 0x40 * j

/-- An output's engine. -/
def Dev.out (d : Dev) (h : Half) (i j : Nat) : OutSt := tget {} d.outs (h.num * 16 + 8 * i + j)

/-- The device with an output's engine replaced. -/
def Dev.setOut (d : Dev) (h : Half) (i j : Nat) (v : OutSt) : Dev :=
  { d with outs := tset {} d.outs (h.num * 16 + 8 * i + j) v }

/-- The outputs of a half, as page index and number. -/
def outputs : List (Nat × Nat) := (List.range 8).map (fun j => (0, j)) ++ (List.range 4).map (fun j => (1, j))

/-- The output has the PULSE format. -/
def Dev.isPulse (d : Dev) (h : Half) (i j : Nat) : Bool := d.gb (outO h i j) Reg.OUT.CFG_FORMAT

/-- The loop block of an output's SRC. -/
def Dev.outLoop (d : Dev) (h : Half) (i j : Nat) : Nat := d.g (outO h i j) Reg.OUT.CFG_SRC

/-- The timebase that governs an output (R187, R189). -/
def Dev.outTb (d : Dev) (h : Half) (i j : Nat) : Nat :=
  if d.isPulse h i j then d.g (outO h i j) Reg.OUT.CFG_TB
  else if d.outLoop h i j = 1 then d.aplFollow h else 0

/-- GCAUSE of an output (R189). -/
def Dev.gcause (d : Dev) (h : Half) (i j : Nat) : Nat :=
  let b := outO h i j
  let l := if d.isPulse h i j then 0 else d.outLoop h i j
  bitOf (d.aplState h l != 2) + 2 * bitOf (d.aplState h l == 3) +
    4 * bitOf (d.gb b Reg.OUT.CFG_GATE_EXP && d.gb (dplL h (d.outTb h i j)) Reg.DPL.LSTAT_EXPIRED) +
    8 * bitOf (!(d.en (outPg h i) b Reg.OUT.CFG_EN))

/-- The claim group of an output (R415, R430). -/
def Dev.outGroup (d : Dev) (h : Half) (i j : Nat) : Nat := getBits (d.w (redPg h + 0x10C)) (2 * (8 * i + j)) 2

/-- This chip is a member of a claim group (R415). -/
def Dev.claimMember (d : Dev) (h : Half) (g : Nat) : Bool :=
  bitAt (getBits (d.w (redPg h + 0x108)) (8 * g) 8) (d.g (redPg h) Reg.RED.TOPO_CHIPID)

/-- Another chip has carried this chip's ID within the last second (R405). -/
def Dev.idConflict (d : Dev) (h : Half) : Bool :=
  match (d.red.of h).idUntil with
  | some t => decide (d.now < t)
  | none => false

/-- The driver that DRIVE and the claim ask for (R190, R405, R415); in safe state the ball is released where SAFE_HIZ is 1 or
DRIVE is CLAIM, and driven low otherwise (R189). [DEDUCED log 100] -/
def Dev.driveWant (d : Dev) (h : Half) (i j : Nat) : Nat :=
  let dr := d.g (outO h i j) Reg.OUT.CFG_DRIVE
  let g := d.outGroup h i j
  if (d.hs h).safe && (dr == 3 || d.gb (outO h i j) Reg.OUT.CFG_SAFE_HIZ) then 0
  else if dr ≠ 3 then dr
  else if d.claimMember h g && bitAt (d.g (redPg h) Reg.RED.RSTAT_STRONG) g && !(d.idConflict h) then 1 else 2

/-- The smallest divider within the output's limit (R186): the loop's oscillator over twice the divider is at most 1.6 GHz,
or 25 MHz on a pulse page. -/
def Dev.minDiv (d : Dev) (h : Half) (i j : Nat) : Nat :=
  let a := d.apl h 1
  let m0 := d.apl h 0
  let fT := d.fixn h * 500000000
  let lim := if i = 0 then 1600000000 else ticks100ms
  if d.outLoop h i j = 0 then max 4 (ceilDiv fT (2 * lim))
  else max 4 (ceilDiv (fT * a.num * max 1 m0.mden) (2 * lim * max 1 a.mden * m0.num))

/-- The period of a CLOCK output as a fraction of units of 2^-32 ns (R187): 2 × D / fV with fV = fT × M / M0. -/
def Dev.outPeriod (d : Dev) (h : Half) (i j : Nat) : Nat × Nat :=
  let a := d.apl h 1
  let m0 := d.apl h 0
  let dv := max (d.minDiv h i j) (d.out h i j).div
  let fT := d.fixn h * 500000000
  if d.outLoop h i j = 0 then (2 * dv * secFrac, fT)
  else (2 * dv * secFrac * m0.num * max 1 a.mden, fT * a.num * max 1 m0.mden)

/-- PTRIM of an output in ps, clamped (R196). -/
def Dev.ptrim (d : Dev) (h : Half) (i j : Nat) : Int := clampInt (-10000) 10000 (signedOf 16 (d.g (outO h i j) Reg.OUT.PTRIM))

/-- ps as 2^-32 ns. -/
def ps32 (ps : Int) : Int := ps * 2 ^ 32 / 1000

/-- An output is in a high phase (R187): that of a pulse up to its end; that of a clock the first half of a period of its grid. -/
def Dev.outHigh (d : Dev) (h : Half) (i j : Nat) : Bool :=
  let st := d.out h i j
  let now := d.count h (d.outTb h i j) / 2 ^ 32
  if d.isPulse h i j then decide (now < st.highTo)
  else
    let p := d.outPeriod h i j
    decide (st.anchor ≤ now) && decide (p.2 ≠ 0) && decide (2 * ((now - st.anchor) * p.2 % p.1) < p.1)

/-- GCAUSE, RUNNING and the driver in effect of every output of a half taken afresh: a running output whose gate, stop or disable
stands runs on to its next falling edge (R50, R189, R565), and raises OUT_GATED as it enters the gate; a driver changes in a low
phase (R190). In safe state both act at once (R189). -/
def outRefresh (h : Half) (d : Dev) : Dev :=
  outputs.foldl (fun e x =>
    let b := outO h x.1 x.2
    let g := e.gcause h x.1 x.2
    let on := !(e.hs h).safe && (e.hs h).powered
    let was := e.gb b Reg.OUT.OSTAT_RUNNING
    let high := on && was && e.outHigh h x.1 x.2
    let run := on && ((g == 0 && !(e.out h x.1 x.2).stopped) || high)
    let e1 := if high then e else e.p b Reg.OUT.OSTAT_DRIVE_EFF (e.driveWant h x.1 x.2)
    ((e1.p b Reg.OUT.OSTAT_GCAUSE g).pb b Reg.OUT.OSTAT_RUNNING run).raiseIf (was && !run && g != 0) (outPg h x.1) (2 * x.2 + 1)) d

/-- The distance in ps of a stamp, as a count of the output's timebase, from the nearest instant of an output plus PTRIM (R188).
A pulse's instant is held with the PTRIM it was placed with. [DEDUCED log 99] -/
def Dev.outErr (d : Dev) (h : Half) (i j stamp : Nat) : Int :=
  let st := d.out h i j
  let ofs : Int := (stamp : Int) - ps32 (d.ptrim h i j)
  if d.isPulse h i j then
    match st.edge with
    | some x => (((stamp : Int) - x) * 1000).tdiv (2 ^ 32)
    | none => 0
  else
    let p := d.outPeriod h i j
    if p.1 = 0 ∨ p.2 = 0 then 0
    else
      let r := ((ofs - st.anchor) * p.2) % p.1
      let e : Int := if 2 * r < p.1 then r else r - p.1
      (e * 1000).tdiv (p.2 * 2 ^ 32)

/-- An output under CLAIM drives SHADOW (R420). -/
def Dev.outShadow (d : Dev) (h : Half) (i j : Nat) : Bool :=
  d.g (outO h i j) Reg.OUT.CFG_DRIVE == 3 && d.g (outO h i j) Reg.OUT.OSTAT_DRIVE_EFF == 2

/-- CLAIM_SKEW, at most once per second (R420). -/
def Dev.claimSkew (d : Dev) (h : Half) (e : Int) : Dev :=
  let st := d.red.of h
  let sec := d.now / ticks1s
  if e.natAbs ≤ d.g (redPg h) Reg.RED.XCHK || st.skewSec == some sec then d
  else ({ d with red := d.red.put h { st with skewSec := some sec } }).raise (redPg h) 5

/-- The output stage's monitor takes a stamp of its capture point (R188, R420): PERR, its correction unless the output
drives SHADOW under CLAIM, and PERR_ALARM. [DEDUCED log 99] -/
def outMonitor (h : Half) (i j stamp : Nat) (d : Dev) : Dev :=
  let b := outO h i j
  if !(d.en (outPg h i) b Reg.OUT.CFG_MON_EN) then d
  else
    let st := d.out h i j
    let e := d.outErr h i j stamp
    let thr := d.g b Reg.OUT.MONTHR
    let shadow := d.outShadow h i j
    let cal := if shadow then st.cal else if d.isPulse h i j then st.cal - clampInt (-1) 1 e else st.cal - clampInt (-10) 10 (e.tdiv 4)
    let above := decide (thr < e.natAbs)
    let calm := if 2 * e.natAbs ≤ thr then st.calm + 1 else 0
    let d1 := (d.p b Reg.OUT.PERR (unsignedOf 32 e)).setOut h i j { st with cal := cal, calm := min 16 calm }
    let alarm := d.gb b Reg.OUT.OSTAT_PERR_ALARM
    let d2 := if shadow then d1.claimSkew h e else d1
    (d2.pb b Reg.OUT.OSTAT_PERR_ALARM (above || (alarm && decide (calm < 16)))).raiseIf (above && !alarm) (outPg h i) (2 * j)

/-- The output whose ball a capture point monitors (R188): half, page index and number. -/
def outOfCp (cp : Nat) : Option (Half × Nat × Nat) :=
  if 40 ≤ cp && cp < 56 then some (Half.ofNum ((cp - 40) / 8), 0, (cp - 40) % 8)
  else if 56 ≤ cp && cp < 64 then some (Half.ofNum ((cp - 56) / 4), 1, (cp - 56) % 4)
  else none

/-- The grid of an output restarts at the first count second boundary after now (R187), and a stopped condition ends. -/
def Dev.outAnchor (d : Dev) (h : Half) (i j : Nat) : Dev :=
  let st := d.out h i j
  d.setOut h i j { st with stopped := false, anchor := (d.sec h (d.outTb h i j) + 1) * secFrac, edge := none }

/-- EN of an output written (R565, R196): a write of 1 starts it or ends a stopped condition; a write of 0 stops it. -/
def outEnWritten (h : Half) (i j : Nat) (v : Bool) (d : Dev) : Dev :=
  let b := outO h i j
  let d1 := if v && (!(d.gb b Reg.OUT.CFG_EN) || (d.out h i j).stopped) then d.outAnchor h i j else d
  outRefresh h (d1.pb b Reg.OUT.CFG_EN v)

/-- The whole CFG word of an output written (R196): a change of FORMAT ends a stopped condition; STD and SWING read 0 in
the pulse page. [DEDUCED log 100] -/
def outCfgWritten (h : Half) (i j v : Nat) (d : Dev) : Dev :=
  let b := outO h i j
  let fmt := d.gb b Reg.OUT.CFG_FORMAT != bitAt v 1
  let merged := mergeWrite b (d.w b) v
  let kept := if i = 1 then merged &&& (0xFFFFFFFF - 0x3F00) else merged
  let d1 := d.setw b (setBits kept 0 1 (d.g b Reg.OUT.CFG_EN))
  let d2 := if fmt then d1.setOut h i j { d1.out h i j with stopped := false, edge := none } else d1
  outEnWritten h i j (bitAt v 0) d2

/-- DIV_HI written: D takes effect (R196). -/
def outDivWritten (h : Half) (i j v : Nat) (d : Dev) : Dev :=
  let b := outO h i j
  let d1 := d.p b Reg.OUT.DIV_HI v
  d1.setOut h i j { d1.out h i j with div := d1.g2 b Reg.OUT.DIV_LO Reg.OUT.DIV_HI }

/-! ### Lock -/

/-- A re-lock starts (R183): SEARCH, with the outputs on the loop gated. -/
def Dev.relock (d : Dev) (h : Half) (stored : Option Nat) : Dev :=
  let d1 := (d.p (aplBase h 1) Reg.APL.LSTAT_STATE 0).setApl h 1
    { d.apl h 1 with t0 := d.now, stored := stored, second := false, devNow := 0 }
  outRefresh h d1

/-- LCTRL.RELOCK (R183, R192). -/
def relocked (h : Half) (j : Nat) (d : Dev) : Dev :=
  if j = 0 then d.raise (aplPg h) (aplEvt 0 5)
  else if d.aplState h 1 = 3 then d
  else d.relock h none

/-- A ratio that may not be used: MNUM not below MDEN, or fV outside 9.8 to 12.8 GHz (R185). -/
def Dev.ratioBad (d : Dev) (h : Half) (mint mnum mden : Nat) : Bool :=
  let md := max 1 mden
  let m0 := d.apl h 0
  let num := d.fixn h * 500000000 * (mint * md + mnum) * max 1 m0.mden
  let den := md * m0.num
  decide (md ≤ mnum) || decide (num < 9800000000 * den) || decide (12800000000 * den < num)

/-- The registers and the engine of the steered loop take a ratio. -/
def Dev.putRatio (d : Dev) (h : Half) (mint mnum mden : Nat) : Dev :=
  let b := aplBase h 1
  (((d.p b Reg.APL.M_INT_MINT mint).p b Reg.APL.M_NUM mnum).p b Reg.APL.M_DEN mden).setApl h 1
    { d.apl h 1 with mint := mint % 2 ^ 12, mnum := mnum, mden := mden }

/-- The word offsets of hop entry `e` from the block's base. -/
def hopAt (h : Half) (j e : Nat) : Nat := aplBase h j + 0x40 + 0x10 * e

/-- LCTRL.HOP (R185): loads M from the hop entry and re-locks, on the stored band if there is one.
[DEDUCED log 218] -/
def hopped (h : Half) (j : Nat) (d : Dev) : Dev :=
  let e := hopAt h j (d.g (aplBase h j) Reg.APL.LCTRL_HOP_IDX)
  let cfg := d.w e
  if j = 0 || !(bitAt cfg 31) || d.ratioBad h (cfg % 2 ^ 12) (d.w (e + 4)) (d.w (e + 8)) then
    d.raise (aplPg h) (aplEvt j 5)
  else
    let d1 := d.putRatio h (cfg % 2 ^ 12) (d.w (e + 4)) (d.w (e + 8))
    if d1.aplState h 1 = 3 then d1
    else d1.relock h (if bitAt cfg 30 then some (getBits cfg 16 6) else none)

/-- M_INT written (R182, R185, R192): MINT, MNUM and MDEN apply together; within the window the loop follows, beyond it it
re-locks. A loop that has not selected a band since has no centre, and goes on as it is. -/
def mWritten (h : Half) (v : Nat) (d : Dev) : Dev :=
  let b := aplBase h 1
  let mint := v % 2 ^ 12
  if d.ratioBad h mint (d.g b Reg.APL.M_NUM) (d.g b Reg.APL.M_DEN) then d.raise (aplPg h) (aplEvt 1 5)
  else
    let d1 := d.putRatio h mint (d.g b Reg.APL.M_NUM) (d.g b Reg.APL.M_DEN)
    if d1.aplState h 1 = 3 then d1
    else if 50000 < (d1.devWant h).natAbs then d1.relock h none
    else ratioRefresh h d1

/-- A ratio as hop entries hold it equals a loop's M (R181, R185). -/
def ratioSame (a : AplSt) (mint mnum mden : Nat) : Bool :=
  (mint * max 1 mden + mnum) * max 1 a.mden == a.num * max 1 mden

/-- A band is selected (R183): the stored one after 1 µs, or the search's. The centre is the ratio now, and a search
writes the band into the VALID hop entries of the same M (R185). [DESIGN CHOICE log 96; DEDUCED log 218] -/
def bandSelected (h : Half) (band : Nat) (d : Dev) : Dev :=
  let a := d.apl h 1
  let b := aplBase h 1
  if d.aplState h 1 != 0 || (a.stored.isSome && decide (d.now < a.t0 + 250)) then d
  else
    let bd := a.stored.getD (band % 64)
    let d1 := ((d.p b Reg.APL.LSTAT_STATE 1).p b Reg.APL.LSTAT_BAND bd).setApl h 1
      { a with t0 := d.now, cNum := d.ratioNum h, cDen := max 1 a.mden * 2 ^ 48, devNow := 0 }
    if a.stored.isSome then d1
    else
      d1.each 16 fun e x =>
        let w := x.w (hopAt h 1 e)
        if bitAt w 31 && ratioSame a (w % 2 ^ 12) (x.w (hopAt h 1 e + 4)) (x.w (hopAt h 1 e + 8)) then
          x.setw (hopAt h 1 e) (setBits (setBits w 16 6 bd) 30 1 1)
        else x

/-- 150 µs after band selection lock is declared, or not (R183, R184). -/
def lockDeclared (h : Half) (ok : Bool) (d : Dev) : Dev :=
  let a := d.apl h 1
  let b := aplBase h 1
  if d.aplState h 1 != 1 || decide (d.now < a.t0 + 37500) then d
  else if ok then
    outRefresh h (ratioRefresh h ((((d.p b Reg.APL.LSTAT_STATE 2).inc b Reg.APL.LOCKCNT_LOCKS).setApl h 1
      { a with second := false }).raise (aplPg h) (aplEvt 1 0)))
  else
    let d1 := d.raise (aplPg h) (aplEvt 1 2)
    if a.second then
      (d1.p b Reg.APL.LSTAT_STATE 4).unitFault (aplPg h) 1
    else
      (d1.p b Reg.APL.LSTAT_STATE 0).setApl h 1 { a with t0 := d.now, stored := none, second := true }

/-- The C2 fault of a fixed loop that loses lock or its local oscillator (R180): code TB_CLOCK. -/
def Dev.clockFault (d : Dev) (h : Half) : Dev := d.fault { page := aplPg h, unit := 0, code := 0xB, cls := 2 }

/-- Loss of lock (R183): a steered loop re-locks; a fixed loop's is a C2 fault (R180). -/
def lockLost (h : Half) (j : Nat) (d : Dev) : Dev :=
  if d.aplState h j != 2 then d
  else
    let d1 := (d.inc (aplBase h j) Reg.APL.LOCKCNT_UNLOCKS).raise (aplPg h) (aplEvt j 1)
    if j = 0 then outRefresh h ((d1.p (aplBase h 0) Reg.APL.LSTAT_STATE 0).clockFault h) else d1.relock h none

/-- No edge on LOINh for 1 µs (R181, R180). -/
def loLost (h : Half) (d : Dev) : Dev :=
  let one := fun (e : Dev) j =>
    if e.aplState h j == 3 then e
    else (e.p (aplBase h j) Reg.APL.LSTAT_STATE 3).raise (aplPg h) (aplEvt j 4)
  let d1 := one (one d 0) 1
  outRefresh h (if d.aplState h 0 == 3 then d1 else d1.clockFault h)

/-- Edges present again for 100 µs (R181): the steered loop re-locks with a band search. -/
def loReturned (h : Half) (d : Dev) : Dev := if d.aplState h 1 = 3 then d.relock h none else d

/-! ### The DAC port -/

/-- A DAC port's engine. -/
def Dev.dac (d : Dev) (h : Half) : DacSt := d.dacs.of h

/-- The filtered target of a DAC port in 2^-32 of a code: before its first update it is the code (R193). -/
def DacSt.target (st : DacSt) (code : Nat) : Int := st.acc.getD ((code * 2 ^ 32 : Nat) : Int)

/-- DCTRL written (R193, R195): steering that starts goes on from the code in force. -/
def dctrlWritten (h : Half) (v : Nat) (d : Dev) : Dev :=
  let b := aplPg h + 0x500
  let d1 := d.setw b (mergeWrite b (d.w b) v)
  if bitAt v 0 && !(bitAt (d.w b) 0) then { d1 with dacs := d1.dacs.put h { d1.dac h with acc := none } } else d1

/-- FROZEN (R195): the loop of FOLLOW is OFF, FREERUN or in HOLD_LAST, the fixed loop is not LOCKED, or KDAC is 0. -/
def Dev.dacFrozen (d : Dev) (h : Half) : Bool :=
  let k := d.g (aplPg h) Reg.APL.DCTRL_FOLLOW
  decide (d.lstate h k ≤ 1) || d.hmode h k == 2 || d.aplState h 0 != 2 || d.g (aplPg h) Reg.APL.KDAC == 0

/-- KDAC in 10^-15. -/
def Dev.kdac (d : Dev) (h : Half) : Int := signedOf 32 (d.g (aplPg h) Reg.APL.KDAC)

/-- DAC_UPDATE (R193): the target moves by −FADJ / KDAC through its filter, by at most STEPMAX, and is held within CMIN to
CMAX. DEDUCED: the filter's gain over the millisecond of an update; what rounding adds is left open.
[DESIGN CHOICE log 14; DEDUCED log 101] -/
def dacUpdated (h : Half) (d : Dev) : Dev :=
  let b := aplPg h
  if !(d.en (aplPg h) b Reg.APL.DCTRL_EN) then d
  else
    let d0 := d.pb b Reg.APL.DSTAT_FROZEN (d.dacFrozen h)
    if d.dacFrozen h then d0
    else
      let st := d.dac h
      let f := (d.tb h (d.g b Reg.APL.DCTRL_FOLLOW)).fadj
      let bw := bandwidth (min 6 (d.g b Reg.APL.DCTRL_BW))
      let move := ((-f) * 10 ^ 15 * bw * 6283185307179586 * 2 ^ 32).tdiv (d.kdac h * 2 ^ 48 * 10 ^ 22)
        + Config.loopResidue 3 f
      let step : Int := (max 1 (d.g b Reg.APL.DFRAME_STEPMAX) * 2 ^ 32 : Nat)
      let want := st.target (d.g b Reg.APL.CODE) + clampInt (-step) step move
      let lo : Int := (d.g b Reg.APL.CMIN * 2 ^ 32 : Nat)
      let hi : Int := (d.g b Reg.APL.CMAX * 2 ^ 32 : Nat)
      let acc := clampInt lo hi want
      let lim := decide (acc = lo ∨ acc = hi)
      (((d0.pb b Reg.APL.DSTAT_AT_LIMIT lim).raiseIf (lim && !(d.gb b Reg.APL.DSTAT_AT_LIMIT)) b 16)) |> fun e =>
        { e with dacs := e.dacs.put h { st with acc := some acc } }

/-- The feed-forward of a code change (R194) in one half: −KDAC × Δ on every FADJ, and on FEST of every enabled loop.
[DEDUCED log 101] -/
def Dev.feedForward (d : Dev) (h : Half) (df : Int) : Dev :=
  d.each 16 fun n e =>
    let t := e.tb h n
    let e1 := e.setTb h n { t with fadj := clampFadj (t.fadj + df), fadjTgt := clampFadj (t.fadjTgt + df) }
    if e1.lstate h n == 0 then e1
    else
      (e1.ps48 (dplL h n) Reg.DPL.FEST_LO Reg.DPL.FEST_HI (e1.fest h n + df)).setLoop h n
        { e1.loop h n with held := (e1.loop h n).held + df }

/-- The bits of a frame (R193): PREFIX_LEN prefix bits and the code, most significant bit first; the length and the
number they spell. -/
def Dev.dacBits (d : Dev) (h : Half) (code : Nat) : Nat × Nat :=
  let b := aplPg h
  let w := clampNat 16 24 (d.g b Reg.APL.DCTRL_WIDTH)
  let p := min 8 (d.g b Reg.APL.DCTRL_PREFIX_LEN)
  (p + w, (d.g b Reg.APL.DFRAME_PREFIX % 2 ^ p) * 2 ^ w + code % 2 ^ w)

/-- A frame is sent with a code (R193, R194). -/
def Dev.dacSend (d : Dev) (h : Half) (code : Nat) : Dev :=
  let b := aplPg h
  let delta : Int := (code : Int) - d.g b Reg.APL.CODE
  let df := -((d.kdac h * delta * 2 ^ 48).tdiv (10 ^ 15))
  let d1 := { (d.p b Reg.APL.CODE code) with
    dacs := d.dacs.put h { d.dac h with at_ := some d.now, frame := some (d.dacBits h code) } }
  if delta = 0 then d1
  else
    let d2 := d1.feedForward h df
    let d3 := if d.gb b Reg.APL.DCTRL_SHARED then d2.feedForward h.other df else d2
    ratioRefresh h.other (ratioRefresh h d3)

/-- DAC_FRAME (R193): sent when the code has changed, at most once per millisecond. -/
def dacFramed (h : Half) (d : Dev) : Dev :=
  let st := d.dac h
  let code := (st.target (d.g (aplPg h) Reg.APL.CODE) / 2 ^ 32).toNat % 2 ^ 24
  let soon := match st.at_ with | some t => decide (d.now < t + 250000) | none => false
  if d.en (aplPg h) (aplPg h) Reg.APL.DCTRL_EN && !(d.dacFrozen h) && !soon && code != d.g (aplPg h) Reg.APL.CODE then
    d.dacSend h code
  else d

/-- CODE written (R195): a frame is sent at once with feed-forward, and the port steers on from it. -/
def dacCodeWritten (h : Half) (v : Nat) (d : Dev) : Dev :=
  let d1 := d.dacSend h (v % 2 ^ 24)
  { d1 with dacs := d1.dacs.put h { d1.dac h with acc := some ((v % 2 ^ 24 * 2 ^ 32 : Nat) : Int) } }

end Sys2Proof.Machine
end

