-- ==== Sys2Proof/Machine/Timed.lean ====
section
/-! DEFINITION. Timed actions (R86 to R91, R565) and the step of a timebase (R76, R77): an entry's instants, its refusal
and lateness, when it fires, and what a firing does to outputs and trigger lines. What a firing does elsewhere is given by
the files of those blocks and joined in Machine/Fire.lean. -/

namespace Sys2Proof.Machine

/-- The TTA page of a half. -/
def ttaPg (h : Half) : Nat := pageAddr .tta h 0

/-- The registers of an entry (R86). -/
def ttaE (h : Half) (e : Nat) : Nat := ttaPg h + 0x200 + 0x20 * e

/-- KIND of an entry. -/
def Dev.ttaKind (d : Dev) (h : Half) (e : Nat) : Nat := d.g (ttaE h e) Reg.TTA.ACT_KIND

/-- TARGET of an entry. -/
def Dev.ttaTarget (d : Dev) (h : Half) (e : Nat) : Nat := d.g (ttaE h e) Reg.TTA.ACT_TARGET

/-- ARG of an entry. -/
def Dev.ttaArg (d : Dev) (h : Half) (e : Nat) : Nat := d.g (ttaE h e) Reg.TTA.ARG

/-- Timebase of an entry. -/
def Dev.ttaTb (d : Dev) (h : Half) (e : Nat) : Nat := d.g (ttaE h e) Reg.TTA.ACT_TB

/-- An entry is armed. -/
def Dev.ttaArmed (d : Dev) (h : Half) (e : Nat) : Bool := d.gb (ttaE h e) Reg.TTA.ACT_ARM

/-- The instant of an entry in ns of its timebase. -/
def Dev.ttaNs (d : Dev) (h : Half) (e : Nat) : Nat :=
  let b := ttaE h e
  d.g2 b Reg.TTA.T_SEC_LO Reg.TTA.T_SEC_HI * 10 ^ 9 + d.g b Reg.TTA.T_NSEC

/-- The period of an entry in ns; 0 makes it one-shot. [DEDUCED log 268] -/
def Dev.ttaPeriod (d : Dev) (h : Half) (e : Nat) : Nat :=
  let b := ttaE h e
  d.g b Reg.TTA.PER_SEC * 10 ^ 9 + d.g b Reg.TTA.PER_NSEC

/-- The instant of an entry replaced. -/
def Dev.putTtaNs (d : Dev) (h : Half) (e ns : Nat) : Dev :=
  let b := ttaE h e
  (d.p2 b Reg.TTA.T_SEC_LO Reg.TTA.T_SEC_HI (ns / 10 ^ 9)).p b Reg.TTA.T_NSEC (ns % 10 ^ 9)

/-- The output that a TARGET names: half, page index and number (R86). -/
def ttaOutput (t : Nat) : Option (Half × Nat × Nat) :=
  if t < 16 then some (Half.ofNum (t / 8), 0, t % 8)
  else if t < 24 then some (Half.ofNum ((t - 16) / 4), 1, (t - 16) % 4)
  else none

/-- PTRIM that belongs to a PULSE entry's instant, in 2^-64 ns (R87, R89). -/
def Dev.ttaTrim (d : Dev) (h : Half) (e : Nat) : Int :=
  if d.ttaKind h e = 1 then
    match ttaOutput (d.ttaTarget h e) with
    | some o => d.ptrim o.1 o.2.1 o.2.2 * nsUnit / 1000
    | none => 0
  else 0

/-- The instant at which an entry is compared with the count, in 2^-64 ns (R87, R89). -/
def Dev.ttaWhen (d : Dev) (h : Half) (e ns : Nat) : Int := ((ns * nsUnit : Nat) : Int) + d.ttaTrim h e

/-- The instant of an entry is past (R89, R91): a count exactly on it has not passed it. -/
def Dev.ttaPast (d : Dev) (h : Half) (e : Nat) : Bool :=
  decide (d.ttaWhen h e (d.ttaNs h e) < (d.count h (d.ttaTb h e) : Nat))

/-- The instant of an entry has been reached (R87): a negative PTRIM takes the firing ahead of its tick, a positive one moves the
edge alone. -/
def Dev.ttaReached (d : Dev) (h : Half) (e : Nat) : Bool :=
  decide (((d.ttaNs h e * nsUnit : Nat) : Int) + min 0 (d.ttaTrim h e) ≤ (d.count h (d.ttaTb h e) : Nat))

/-- The ports that belong to a half, as a mask of the chip's eight: the even ones are Warp's, the odd ones Weft's. -/
def portMask (h : Half) : Nat := match h with | .warp => 0x55 | .weft => 0xAA

/-- An entry is refused when it is armed or re-evaluated (R90). -/
def Dev.ttaBad (d : Dev) (h : Half) (e : Nat) : Bool :=
  let k := d.ttaKind h e
  let t := d.ttaTarget h e
  let arg := d.ttaArg h e
  let otherHalf := match ttaOutput t with | some o => o.1 != h | none => true
  decide (10 ≤ k) ||
  ((k == 1 || k == 2 || k == 3) && otherHalf) ||
  (k == 5 && t &&& portMask h.other != 0) ||
  (k == 1 && d.ttaPeriod h e != 0 && decide (d.ttaPeriod h e < arg / 8 * 8 + 8)) ||
  (k == 6 && h == .weft) ||
  decide (999999999 < d.g (ttaE h e) Reg.TTA.T_NSEC) || decide (999999999 < d.g (ttaE h e) Reg.TTA.PER_NSEC) ||
  (k == 8 && arg % 4 != 0) ||
  (k == 1 && (decide (arg < 8) || decide (999999992 < arg))) ||
  (k == 4 && decide (15 < t))

/-- TTA_REFUSED (R90, R92). -/
def Dev.ttaRefused (d : Dev) (h : Half) : Dev := d.raise (ttaPg h) 1

/-- The first instant of a periodic entry that is not past, stepping by whole periods. -/
def Dev.ttaAdvanced (d : Dev) (h : Half) (e : Nat) : Nat :=
  let ns := d.ttaNs h e
  let per := d.ttaPeriod h e
  let behind : Int := (d.count h (d.ttaTb h e) : Nat) - d.ttaWhen h e ns
  if per = 0 ∨ behind ≤ 0 then ns
  else ns + per * ceilDiv behind.toNat (per * nsUnit)

/-- After a firing (R87): FIRED counts, a periodic entry adds its period and stays armed, a one-shot entry clears ARM. -/
def Dev.ttaFired (d : Dev) (h : Half) (e : Nat) : Dev :=
  let b := ttaE h e
  let d1 := d.inc b Reg.TTA.ESTAT_FIRED
  if d.ttaPeriod h e = 0 then d1.pb b Reg.TTA.ACT_ARM false else d1.putTtaNs h e (d.ttaNs h e + d.ttaPeriod h e)

/-- An entry evaluated as it is armed or re-evaluated (R89, R90). `act` is what a firing of the entry does. -/
def Dev.ttaEvaluate (act : Half → Nat → Dev → Dev) (h : Half) (e : Nat) (d : Dev) : Dev :=
  let b := ttaE h e
  if !(d.ttaArmed h e) then d
  else if d.ttaBad h e then (d.pb b Reg.TTA.ACT_ARM false).ttaRefused h
  else if !(d.ttaPast h e) then d.pb b Reg.TTA.ESTAT_LATE false
  else
    let k := d.ttaKind h e
    let fires := d.gb b Reg.TTA.ACT_LATE_POL && !(k == 1 || k == 2 || k == 3)
    let d1 := (d.pb b Reg.TTA.ESTAT_LATE true).raise (ttaPg h) 0
    let d2 := if fires then (act h e d1).inc b Reg.TTA.ESTAT_FIRED else d1
    if d.ttaPeriod h e = 0 then d2.pb b Reg.TTA.ACT_ARM false else d2.putTtaNs h e (d.ttaAdvanced h e)

/-- Entries 60 to 63 belong to firmware (R86). -/
def ttaWritable (m : Master) (e : Nat) : Bool := e < 60 || m == .fwWarp || m == .fwWeft

/-- ACT written (R86, R89): arming evaluates the entry at once; so does a change of TB while it is armed. -/
def ttaActWritten (act : Half → Nat → Dev → Dev) (m : Master) (h : Half) (e v : Nat) (d : Dev) : Dev :=
  if !(ttaWritable m e) then d
  else
    let b := ttaE h e
    let was := d.ttaArmed h e
    let tb := d.ttaTb h e
    let d1 := d.setw b (mergeWrite b (d.w b) v)
    if bitAt v 0 && (!was || d1.ttaTb h e != tb) then d1.ttaEvaluate act h e else d1

/-- A word of an entry's instant written (R86, R89): a live change re-evaluates an armed entry. -/
def ttaInstantWritten (act : Half → Nat → Dev → Dev) (m : Master) (h : Half) (e o v : Nat) (d : Dev) : Dev :=
  if !(ttaWritable m e) then d
  else
    let a := ttaE h e + o
    let d1 := d.setw a (mergeWrite a (d.w a) v)
    if d1.w a != d.w a then d1.ttaEvaluate act h e else d1

/-- The TTA page of a half fires entries: its half runs, its page is not asleep, and host entries need ENABLE (R563). -/
def Dev.ttaRuns (d : Dev) (h : Half) (e : Nat) : Bool :=
  d.loopsRun h && d.clockValid h && decide ((d.page (ttaPg h)).pstate ≤ 1) && (d.enabled (ttaPg h) || decide (60 ≤ e))

/-- An entry of a kind fires now: armed, its instant reached, and no lower-numbered entry of the half due that has an action
to take first (R86, R87). [DESIGN CHOICE log 231, 269] -/
def Dev.ttaDue (d : Dev) (h : Half) (e kind : Nat) : Bool :=
  let due := fun x => d.ttaArmed h x && d.ttaRuns h x && d.ttaReached h x
  d.ttaKind h e == kind && due e && !((List.range e).any fun x => due x && decide (1 ≤ d.ttaKind h x ∧ d.ttaKind h x ≤ 9))

/-- The firings of the entries of KIND NONE that are due at a tick: no action, and what follows every firing (R86, R87).
[DESIGN CHOICE log 231] -/
def noneFired (h : Half) (d : Dev) : Dev :=
  d.each 64 fun e x =>
    if x.ttaArmed h e && x.ttaKind h e == 0 && x.ttaRuns h e && x.ttaReached h e then x.ttaFired h e else x

/-- A firing: its action, then what follows every firing (R87). -/
def Dev.ttaFire (act : Half → Nat → Dev → Dev) (h : Half) (e kind : Nat) (d : Dev) : Dev :=
  if d.ttaDue h e kind then (act h e d).ttaFired h e else d

/-- PULSE (R86, R87, R187, R565): a rising edge at the instant plus PTRIM, kept as a count of the output's own timebase where the
entry names another. [DEDUCED log 241] On an output in CLOCK format it acts on nothing
and is refused; on a stopped or gated one it acts on nothing; an output that is still high stays so until the later of
the pulses' ends. [DEDUCED log 241] -/
def pulseAct (h : Half) (e : Nat) (d : Dev) : Dev :=
  match ttaOutput (d.ttaTarget h e) with
  | none => d
  | some o =>
    if !(d.isPulse o.1 o.2.1 o.2.2) then d.ttaRefused h
    else if !(d.gb (outO o.1 o.2.1 o.2.2) Reg.OUT.OSTAT_RUNNING) then d
    else
      let st := d.out o.1 o.2.1 o.2.2
      let rise := d.inTb h (d.ttaTb h e) (d.outTb o.1 o.2.1 o.2.2) ((d.ttaWhen h e (d.ttaNs h e)).toNat / 2 ^ 32)
      let fall := rise + d.ttaArg h e / 8 * 8 * 2 ^ 32
      if rise < st.highTo then d.setOut o.1 o.2.1 o.2.2 { st with highTo := max st.highTo fall }
      else d.setOut o.1 o.2.1 o.2.2 { st with edge := some rise, highTo := fall }

/-- OUT_START (R86, R90, R187, R565): the first rising edge at the instant, kept as a count of the grid's timebase
[DEDUCED log 241]; an output in PULSE format refuses it. [DEDUCED log 241] -/
def outStartAct (h : Half) (e : Nat) (d : Dev) : Dev :=
  match ttaOutput (d.ttaTarget h e) with
  | none => d
  | some o =>
    if d.isPulse o.1 o.2.1 o.2.2 then d.ttaRefused h
    else
      outRefresh o.1 (d.setOut o.1 o.2.1 o.2.2
        { d.out o.1 o.2.1 o.2.2 with
          stopped := false, anchor := d.inTb h (d.ttaTb h e) (d.outTb o.1 o.2.1 o.2.2) (d.ttaNs h e * 2 ^ 32) })

/-- OUT_STOP (R565): the stopped condition, unless EN is 0. -/
def outStopAct (h : Half) (e : Nat) (d : Dev) : Dev :=
  match ttaOutput (d.ttaTarget h e) with
  | none => d
  | some o =>
    if !(d.en (outPg o.1 o.2.1) (outO o.1 o.2.1 o.2.2) Reg.OUT.CFG_EN) then d
    else outRefresh o.1 (d.setOut o.1 o.2.1 o.2.2 { d.out o.1 o.2.1 o.2.2 with stopped := true })

/-- TRIGGER (R86, R104). -/
def triggerAct (h : Half) (e : Nat) (d : Dev) : Dev := d.triggerLine h (d.ttaTarget h e)

/-- DOMAIN_SWITCH (R84, R86): DOM_SEL of the timebase toggles. [DEDUCED log 61] -/
def domainSwitchAct (h : Half) (e : Nat) (d : Dev) : Dev :=
  let n := d.ttaTarget h e % 16
  domSelWritten h n (!(d.gb (tsuB h n) Reg.TSU.CTRL_DOM_SEL)) d

/-- Timed actions follow a step of a timebase (R91): a one-shot entry keeps its instant and may be late; a periodic one
takes the first instant of its grid at or after the stepped count. -/
def ttaStepped (act : Half → Nat → Dev → Dev) (h : Half) (n : Nat) (d : Dev) : Dev :=
  d.each 64 fun e x =>
    if !(x.ttaArmed h e) || x.ttaTb h e != n then x
    else
      let per := x.ttaPeriod h e
      if per = 0 then x.ttaEvaluate act h e
      else
        let ns := x.ttaNs h e
        let c := x.count h n
        let cNs := (c + nsUnit - 1) / nsUnit
        let next : Nat := if cNs ≤ ns then ns - (ns - cNs) / per * per else ns + ceilDiv (cNs - ns) per * per
        x.putTtaNs h e next

/-- Every armed entry of a half evaluated afresh (R563, R564): from entry 0, host entries only or all. -/
def ttaAllEvaluated (act : Half → Nat → Dev → Dev) (h : Half) (k : Nat) (d : Dev) : Dev :=
  d.each k fun e x => x.ttaEvaluate act h e

/-- FIRED and LATE of every entry read 0 (R564). -/
def ttaCleared (h : Half) (d : Dev) : Dev := d.each 64 fun e x => x.setw (ttaE h e + 0x1C) 0

/-! ### The step of a timebase -/

/-- A step waits and its second boundary has come (R76). -/
def Dev.stepDue (d : Dev) (h : Half) (n : Nat) : Bool :=
  d.gb (tsuB h n) Reg.TSU.STAT_STEP_PEND && decide ((d.tb h n).stepReq < d.sec h n)

/-- The count loaded with SET (R76): the remaining phase adjustment is discarded and TB_STEPPED raised; SET_NSEC above
999,999,999 refuses the step with TB_SET_RANGE. The build-out keeps what an initial step does not remove (R503). -/
def stepLoaded (h : Half) (n : Nat) (d : Dev) : Dev :=
  let b := tsuB h n
  let d1 := d.pb b Reg.TSU.STAT_STEP_PEND false
  let lp := d.loop h n
  let d2 := d1.setLoop h n { lp with initStep := none }
  if 999999999 < d.g b Reg.TSU.SET_NSEC then d2.raise (tsuPg h n) (tbEvt n 2)
  else
    let d3 := match lp.initStep with
      | some r => d2.putBo h n (d2.bo h n - r * 1000)
      | none => d2
    let d4 := (d3.pb b Reg.TSU.STAT_PADJ_BUSY false).setTb h n
      { d3.tb h n with padjRem := 0
                       count := countOf (d.g2 b Reg.TSU.SET_SEC_LO Reg.TSU.SET_SEC_HI) (d.g b Reg.TSU.SET_NSEC) % countMod }
    d4.raise (tsuPg h n) (tbEvt n 0)

/-- Whether a step that is due will be taken. -/
def Dev.stepTaken (d : Dev) (h : Half) (n : Nat) : Bool := decide (d.g (tsuB h n) Reg.TSU.SET_NSEC ≤ 999999999)

end Sys2Proof.Machine
end

