-- ==== Sys2Proof/Machine/Bound.lean ====
section
/-! DEFINITION. The bound engine: bases and local bounds (R199 to R201, R205), held bounds (R202 to R204), epochs (R206 to
R208) and the wire fields made from a published bound (R209 to R211). -/

namespace Sys2Proof.Machine

/-- The BND page of a half. -/
def bndPg (h : Half) : Nat := pageAddr .bnd h 0

/-- The register block of a timebase's bound (R216). -/
def bndN (h : Half) (n : Nat) : Nat := bndPg h + 0x100 + 0x20 * n

/-- The unbounded value. -/
def unbounded : Nat := 0xFFFFFFFF

/-- A timebase's bound engine. -/
def Dev.bnd (d : Dev) (h : Half) (n : Nat) : BoundSt := tget {} d.bnds (h.num * 16 + n)

/-- The device with a bound engine replaced. -/
def Dev.setBnd (d : Dev) (h : Half) (n : Nat) (v : BoundSt) : Dev := { d with bnds := tset {} d.bnds (h.num * 16 + n) v }

/-- LOCAL: L at the last sample. -/
def Dev.local_ (d : Dev) (h : Half) (n : Nat) : Nat := d.g (bndN h n) Reg.BND.LOCAL

/-- The published bound of a timebase in a half. -/
def Dev.published (d : Dev) (h : Half) (n : Nat) : Nat := d.g (tsuB h n) Reg.TSU.BOUND

/-- BASIS of a timebase (R199): 0 NONE, 1 LOCKED, 2 FREQ, 3 HOLD_ATOMIC, 4 HOLD_LAST, 5 DOMAIN. [DEDUCED log 102] -/
def Dev.basisOf (d : Dev) (h : Half) (n : Nat) : Nat :=
  if d.lstate h n = 0 then 0
  else if d.gb (tsuB h n) Reg.TSU.CTRL_DOM_SEL || d.gb (tsuB h n) Reg.TSU.STAT_DSW_ACTIVE then 5
  else
    match d.lstate h n with
    | 2 => if d.isTime h (d.selC h n) then 1 else 2
    | 3 => if d.isTime h (d.selC h n) then 1 else 2
    | 4 => if d.hmode h n = 1 then 3 else 4
    | _ => 0

/-- HELD takes at least a value, and acts (R202). -/
def Dev.hold_ (d : Dev) (h : Half) (n v : Nat) : Dev :=
  let b := bndN h n
  let old := if d.gb b Reg.BND.BSTAT_HELD_ACT then d.g b Reg.BND.HELD else 0
  (d.p b Reg.BND.HELD (max old v)).pb b Reg.BND.BSTAT_HELD_ACT true

/-- The basis of a timebase taken afresh (R199, R202): a change sets the base to L of the last sample, and a change from
NONE, FREQ or a holdover to LOCKED or DOMAIN holds that value. -/
def boundBasis (h : Half) (n : Nat) (d : Dev) : Dev :=
  let b := bndN h n
  let old := d.g b Reg.BND.BSTAT_BASIS
  let new := d.basisOf h n
  let src := if new = 5 then 0x1E else d.selC h n
  let d0 := d.p b Reg.BND.BSTAT_SRC src
  if old = new then d0
  else
    let d1 := (d0.p b Reg.BND.BSTAT_BASIS new).setBnd h n
      { d.bnd h n with base := d.local_ h n, at_ := d.count h 0, seed := none }
    if (old == 0 || old == 2 || old == 3 || old == 4) && (new == 1 || new == 5) then d1.hold_ h n (d.local_ h n) else d1

/-- The bases of every timebase of a half. -/
def boundBases (h : Half) (d : Dev) : Dev := d.each 16 fun n e => boundBasis h n e

/-- The device term of a candidate's class in ps (R200). -/
def deviceTerm (c : Nat) : Nat :=
  if c ≤ 11 then 190 else if c = 12 then 150 else if 22 ≤ c && c ≤ 25 then 550 else if 26 ≤ c && c ≤ 29 then 250 else 0

/-- The budget of a candidate (R135). -/
def Dev.budget (d : Dev) (h : Half) (c : Nat) : Nat := max (d.g (refQ h c) Reg.REF.NBUDGET) (d.g (refQ h c) Reg.REF.BUDGET)

/-- The condition of R146 involves a candidate. -/
def Dev.disagrees (d : Dev) (h : Half) (c : Nat) : Bool :=
  d.gb (selPg h) Reg.SEL.DIS_PAIR_ACTIVE &&
    (d.g (selPg h) Reg.SEL.DIS_PAIR_A == c || d.g (selPg h) Reg.SEL.DIS_PAIR_B == c)

/-- t_e as a count of the half's TB0: 3.020 ms after the boundary m of Warp's, the whole millisecond nearest to the count (R205).
[DEDUCED log 250] -/
def Dev.evalAt (d : Dev) (h : Half) : Nat :=
  (d.count h 0 + 500000 * nsUnit) / (10 ^ 6 * nsUnit) * (10 ^ 6 * nsUnit) + 3020000 * nsUnit

/-- A rate in ps/s over a time in 2^-64 ns, rounded up to a whole ps. -/
def grown (rate t : Nat) : Nat := ceilDiv (rate * t) secUnit

/-- The growth of HOLD_LAST over a time: LO_Y and LO_D, unbounded while LO_Y is undeclared (R199). -/
def Dev.loGrowth (d : Dev) (h : Half) (n t : Nat) : Nat :=
  let b := bndN h n
  if d.g b Reg.BND.LO_Y = unbounded then unbounded
  else grown (d.g b Reg.BND.LO_Y) t + ceilDiv (d.g b Reg.BND.LO_D * t * t) (2000 * secUnit * secUnit)

/-- The temperature change since the last COMMIT in m°C, or 10 °C without a sensor (R200). -/
def Dev.tempMove (d : Dev) (h : Half) (n : Nat) : Nat :=
  if d.noSensor h then 10000
  else (d.gs (hldPg h) Reg.HLD.TEMP - (d.loop h n).tCommit).natAbs

/-- grow of R200, with the growth of the holdover mode from a skipped update on (R201). -/
def Dev.growTerm (d : Dev) (h : Half) (n te : Nat) : Nat :=
  let lp := d.loop h n
  match lp.lateAt with
  | none => grown (d.g (bndN h n) Reg.BND.BCFG_GUP) (te - lp.updAt)
  | some t =>
    grown (d.g (bndN h n) Reg.BND.BCFG_GUP) (t - lp.updAt) +
      (if d.cstate h 13 == 3 && d.g (hldPg h) Reg.HLD.HSTAT_MODEL != 0 then d.modelUnc h (d.tempDev h) (te - t)
       else d.loGrowth h n (te - t))

/-- A sum that a term of 0xFFFFFFFF or more, or its own size, makes unbounded (R205). -/
def satSum (l : List Nat) : Nat := if l.any fun x => unbounded ≤ x then unbounded else min unbounded l.sum

/-- What counts as bo (R199, R200): the remaining build-out offset, and after a domain switch back the offset still to be removed. -/
def Dev.boTerm (d : Dev) (h : Half) (n : Nat) : Nat :=
  (d.bo h n).natAbs +
    (if d.gb (tsuB h n) Reg.TSU.STAT_DSW_ACTIVE && !(d.domDirects h n) then (d.tb h n).domOwn.natAbs else 0)

/-- The core sum of R200 at an evaluation instant. -/
def Dev.coreSum (d : Dev) (h : Half) (n te : Nat) : Nat :=
  let c := d.selC h n
  let b := bndN h n
  satSum [d.budget h c, d.g (refQ h c) Reg.REF.ASYM, deviceTerm c, d.g b Reg.BND.ELOOP, d.boTerm h n,
    d.growTerm h n te, ceilDiv (d.g b Reg.BND.BCFG_TCO * d.tempMove h n) 1000,
    if d.disagrees h c then ceilDiv (d.g (selPg h) Reg.SEL.DIS_RATE * (te - d.disAt)) (2 * secUnit) else 0]

/-- HUNC (R171): h for TB0, saturated; in HOLD_LAST the growth of the declared local-oscillator budget. -/
def Dev.hunc (d : Dev) (h : Half) : Nat :=
  let t := match (d.loop h 0).holdAt with | some x => d.count h 0 - x | none => 0
  match d.hmode h 0 with
  | 1 => min unbounded (d.modelUnc h (d.loop h 0).dtMax t)
  | 2 => min unbounded (d.loGrowth h 0 t)
  | _ => 0

/-- L of a timebase before HELD (R199, R205). While a domain switch back is under way, DOMAIN and the core sum both bound the
timebase, and the larger is taken. [DEDUCED log 104] -/
def Dev.rawBound (d : Dev) (h : Half) (n : Nat) : Nat :=
  let b := bndN h n
  let te := d.evalAt h
  let st := d.bnd h n
  let t := te - st.at_
  match d.g b Reg.BND.BSTAT_BASIS with
  | 1 => d.coreSum h n te
  | 2 =>
    satSum [st.base, grown (d.budget h (d.selC h n)) t]
  | 3 => satSum [st.base, d.modelUnc h (d.loop h n).dtMax t]
  | 4 => satSum [st.base, d.loGrowth h n t]
  | 5 =>
    let alt := d.g (tsuB h n) Reg.TSU.CTRL_ALT
    let ofs := d.s48 (tsuB h n) Reg.TSU.DOM_OFS_LO Reg.TSU.DOM_OFS_HI
    let dom := satSum [d.local_ h alt, ofs.natAbs, grown (d.g b Reg.BND.BCFG_GUP) (te - (d.tb h n).domAt)]
    if d.domDirects h n || !(d.lstate h n == 2 || d.lstate h n == 3) || !(d.isTime h (d.selC h n)) then dom
    else max dom (d.coreSum h n te)
  | _ =>
    match st.seed with
    | some s =>
      satSum [s.1, if d.g b Reg.BND.LO_Y = unbounded then unbounded else grown (d.g b Reg.BND.LO_Y) (te - s.2)]
    | none => unbounded

/-- The conditions on which a held bound is released (R203). [DEDUCED log 103] -/
def Dev.releases (d : Dev) (h : Half) (n : Nat) : Bool :=
  d.lstate h n == 3 && d.isTime h (d.selC h n) && d.bo h n == 0 && d.cstate h (d.selC h n) == 3 &&
    (d.cand h (d.selC h n)).clean && !(d.disagrees h (d.selC h n))

/-- One sample of one timebase (R205): L, with BND_SAT on entry to unbounded. -/
def boundSampleOne (h : Half) (n : Nat) (d : Dev) : Dev :=
  let d0 := boundBasis h n d
  let b := bndN h n
  let win := (d0.loop h n).eWin.foldl max 0
  let d1 := d0.p b Reg.BND.ELOOP win
  let d2 := if d1.gb b Reg.BND.BSTAT_HELD_ACT && d1.releases h n then
      (d1.pb b Reg.BND.BSTAT_HELD_ACT false).p b Reg.BND.HELD 0 else d1
  let raw := d2.rawBound h n
  let l := if d2.gb b Reg.BND.BSTAT_HELD_ACT then max raw (d2.g b Reg.BND.HELD) else raw
  let v := min unbounded l
  ((d2.p b Reg.BND.LOCAL v).pb b Reg.BND.BSTAT_SAT (v == unbounded)).raiseIf
    (v == unbounded && !(d.gb b Reg.BND.BSTAT_SAT)) (bndPg h) n

/-- BOUND_SAMPLE of a half: each timebase in turn, so a DOMAIN bound follows the local bound already sampled below it. -/
def boundSampled (h : Half) (d : Dev) : Dev := if d.loopsRun h then d.each 16 fun n e => boundSampleOne h n e else d

/-- After a vote window that began as `old` (R202, R203): a condition that clears for the selected candidate holds its bound, and a
complete window without it on a candidate, before and after its end, counts as clean. [DEDUCED log 103] -/
def boundVoted (old : Dev) (h : Half) (d : Dev) : Dev :=
  let d1 := d.each 30 fun c e => e.setCand h c { e.cand h c with clean := !(old.disagrees h c || d.disagrees h c) }
  d1.each 16 fun n e =>
    if old.disagrees h (e.selC h n) && !(e.disagrees h (e.selC h n)) then e.hold_ h n (e.local_ h n) else e

/-- A step of a timebase makes its bound unbounded until released (R204). -/
def boundStepped (h : Half) (n : Nat) (d : Dev) : Dev :=
  (d.p (bndN h n) Reg.BND.HELD unbounded).pb (bndN h n) Reg.BND.BSTAT_HELD_ACT true

/-! ### Epochs (R206 to R208) -/

/-- A half contributes its local bounds: it is not in safe state and does not return while the other serves (R207).
[DEDUCED log 105] -/
def Dev.boundServes (d : Dev) (h : Half) : Bool := d.loopsRun h && !(d.rejoining h)

/-- BOUND_EXCHANGE (R206, R208): at boundary m the halves exchange sets; `ok` says whether both acknowledgements completed
in time. -/
def boundExchanged (ok : Bool) (d : Dev) : Dev :=
  let locals := fun h => (List.range 16).map (d.local_ h)
  let both := d.boundServes .warp && d.boundServes .weft
  if !both then { d with exch := { d.exch with set := none, joint := false, tried := false, fails := 0 } }
  else if ok then
    { d with exch := { d.exch with
        set := some { warp := locals .warp, weft := locals .weft
                      skew := (List.range 16).map fun n => d.skewCeil .warp n }
        joint := true, tried := true, fails := 0 } }
  else { d with exch := { d.exch with set := none, joint := true, tried := true, fails := d.exch.fails + 1 } }

/-- The published value of R206. -/
def joinBound (a b skew : Nat) : Nat :=
  if unbounded ≤ max a b then unbounded else min unbounded (max a b + skew)

/-- A half opens the epoch of a number with its published bounds. -/
def Dev.openEpoch (d : Dev) (h : Half) (num : Nat) (value : Nat → Nat) (ok : Bool) : Dev :=
  let d0 := { d with exch := { d.exch with prev := (List.range 16).foldl (fun t n =>
    tset 0 t (h.num * 16 + n) (d.published h n)) d.exch.prev } }
  let d1 := d0.each 16 fun n e => e.p (tsuB h n) Reg.TSU.BOUND (value n)
  (d1.p (bndPg h) Reg.BND.EPOCH_NUM num).pb (bndPg h) Reg.BND.EPOCH_EXCH_OK ok

/-- The half whose epoch number goes on: Warp, or Weft while it alone serves (R206). -/
def Dev.epochHalf (d : Dev) : Half := if d.boundServes .warp then .warp else .weft

/-- EPOCH_OPEN (R206 to R208): the joined bounds after an exchange that both halves completed; nothing after one failure; each half's
own after two, with BND_EXCH_LOST; each serving half's own where both did not take part in the exchange. The epoch's number goes to
both halves, so that a half that returns joins in it. -/
def epochOpened (d : Dev) : Dev :=
  let num := (d.g (bndPg d.epochHalf) Reg.BND.EPOCH_NUM + 1) % 2 ^ 16
  if d.exch.joint && d.boundServes .warp && d.boundServes .weft then
    match d.exch.set with
    | some s =>
      let v := fun n => joinBound ((s.warp[n]?).getD unbounded) ((s.weft[n]?).getD unbounded) ((s.skew[n]?).getD 0)
      (d.openEpoch .warp num v true).openEpoch .weft num v true
    | none =>
      if d.exch.fails < 2 then d
      else
        let d1 := (d.openEpoch .warp num (d.local_ .warp) false).openEpoch .weft num (d.local_ .weft) false
        if d.exch.fails = 2 then (d1.raise (bndPg .warp) 16).raise (bndPg .weft) 16 else d1
  else
    let one := fun (e : Dev) h =>
      if d.boundServes h then e.openEpoch h num (d.local_ h) (e.gb (bndPg h) Reg.BND.EPOCH_EXCH_OK)
      else if d.loopsRun h && d.boundServes h.other then e.p (bndPg h) Reg.BND.EPOCH_NUM num else e
    one (one d .warp) .weft

/-! ### Wire fields (R209 to R211) -/

/-- NTP root dispersion of a bound. -/
def rootDispersion (p : Nat) : Nat := if p = unbounded then unbounded else ceilDiv (p * 65536) (10 ^ 12)

/-- The limits of clockAccuracy codes 0x17 to 0x2B, in tenths of a ps. -/
def accuracyLimits : List Nat :=
  [10, 25, 100, 250, 1000, 2500, 10 ^ 4, 25000, 10 ^ 5, 250000, 10 ^ 6, 2500000, 10 ^ 7, 25000000, 10 ^ 8, 250000000,
   10 ^ 9, 2500000000, 10 ^ 10, 25000000000, 10 ^ 11]

/-- clockAccuracy of a bound. -/
def clockAccuracy (p : Nat) : Nat :=
  if p = unbounded then 0xFE
  else match accuracyLimits.findIdx? (fun l => 10 * p ≤ l) with
    | some i => 0x17 + i
    | none => 0xFE

/-- The limit of a clockAccuracy code in ps, rounded up; unbounded outside 0x17 to 0x2B (R211). -/
def accuracyBound (code : Nat) : Nat :=
  if code < 0x17 then unbounded
  else match accuracyLimits[code - 0x17]? with
    | some l => min unbounded (ceilDiv l 10)
    | none => unbounded

/-- offsetScaledLogVariance of a bound: 0x8000 + ceil(256 × log2((P/3 × 10^-12)²)) is 0x8000 less the whole part of
log2((3 × 10^12)^512 / P^512). -/
def scaledLogVariance (p : Nat) : Nat :=
  if p = unbounded then 0xFFFF
  else if p = 0 then 0
  else clampNat 0 0xFFFE (0x8000 - Nat.log2 ((3 * 10 ^ 12) ^ 512 / p ^ 512))

/-- FLAGS of R210 and of R213 in their common bits: HELD_ACT and EXPIRED. -/
def Dev.boundFlags (d : Dev) (h : Half) (n : Nat) : Nat :=
  bitOf (d.gb (bndN h n) Reg.BND.BSTAT_HELD_ACT) + 2 * bitOf (d.gb (dplL h n) Reg.DPL.LSTAT_EXPIRED)

/-- The organisation-extension TLV of a timebase (R210): BASIS as in Warp. -/
def Dev.orgTlv (d : Dev) (h : Half) (n bound epoch : Nat) : List Byte :=
  bytesBE 2 3 ++ bytesBE 2 14 ++ bytesBE 3 (d.g (bndPg h) Reg.BND.ORGID) ++ bytesBE 3 1 ++ bytesBE 4 bound ++
    bytesBE 1 (d.g (bndN .warp n) Reg.BND.BSTAT_BASIS) ++ bytesBE 1 (d.boundFlags h n) ++ bytesBE 2 epoch

/-- The bound of the epoch that a descriptor names (R25): the current one or the one before; an older one is served with
the current. -/
def Dev.epochBound (d : Dev) (h : Half) (n epoch : Nat) : Nat × Nat :=
  let cur := d.g (bndPg h) Reg.BND.EPOCH_NUM
  if (epoch + 1) % 2 ^ 16 = cur then (tget 0 d.exch.prev (h.num * 16 + n), epoch) else (d.published h n, cur)

end Sys2Proof.Machine
end

