-- ==== Sys2Proof/Machine/Gnss.lean ====
section
/-! DEFINITION. The GNSS signal path (R218 to R248): band inputs, level control and jamming, Gauze notches, acquisition,
tracking channels and the measurement latch. What the correlators find comes with the commands. -/

namespace Sys2Proof.Machine

/-- The GNF page. -/
def gnfPg : Nat := pageAddr .gnf .warp 0
/-- The GNA page. -/
def gnaPg : Nat := pageAddr .gna .warp 0
/-- The GNS page. -/
def gnsPg : Nat := pageAddr .gns .warp 0
/-- The registers of band `b`. -/
def gnfB (b : Nat) : Nat := gnfPg + 0x100 + 0x100 * b
/-- The registers of notch `k` of band `b`. -/
def gnfN (b k : Nat) : Nat := gnfB b + 0x40 + 0x10 * k
/-- The GNT page of a channel. -/
def gntPg (c : Nat) : Nat := pageAddr .gnt .warp (c / 32)
/-- The registers of a channel. -/
def gntC (c : Nat) : Nat := gntPg c + 0x100 + 0x40 * (c % 32)

/-- A tracking channel's group of 32 is out of service (R31, R455). -/
def Dev.chanOut (d : Dev) (c : Nat) : Bool := !(tget [] d.unitsOut (pageAddr .gnt .warp (c / 32))).isEmpty

/-- The baseband works: its pages are neither isolated nor, as in the VXH8256-N, unpowered (R5, R244). -/
def Dev.gnssOn (d : Dev) : Bool :=
  !(d.page gnfPg).isolated && !(d.page gnaPg).isolated && !(d.page gnsPg).isolated &&
    (List.range 8).all fun i => !(d.page (pageAddr .gnt .warp i)).isolated

/-- A band's engine. -/
def Dev.band (d : Dev) (b : Nat) : BandSt := tget {} d.bands b

/-- The device with a band's engine replaced. -/
def Dev.setBand (d : Dev) (b : Nat) (v : BandSt) : Dev := { d with bands := tset {} d.bands b v }

/-- A channel's engine. -/
def Dev.chan (d : Dev) (c : Nat) : ChanSt := tget {} d.chans c

/-- The device with a channel's engine replaced. -/
def Dev.setChan (d : Dev) (c : Nat) (v : ChanSt) : Dev := { d with chans := tset {} d.chans c v }

/-- STATE of a channel (R236): 0 IDLE, 1 PULL_IN, 2 TRACK_PLL, 3 TRACK_FLL, 4 COAST. -/
def Dev.chState (d : Dev) (c : Nat) : Nat := d.g (gntC c) Reg.GNT.CSTAT_STATE

/-- BAND of a channel. -/
def Dev.chBand (d : Dev) (c : Nat) : Nat := d.g (gntC c) Reg.GNT.CCFG_BAND

/-- A channel changes state (R237): its CHG bit is set and CH_CHANGE raised. Leaving TRACK_PLL loses the carrier phase, and
entering COAST counts alike: SLIP is set (R241). [DEDUCED log 232] -/
def Dev.chTo (d : Dev) (c st : Nat) : Dev :=
  if d.chState c = st then d
  else
    let pg := gntPg c
    let d1 := (d.p (gntC c) Reg.GNT.CSTAT_STATE st).setw (pg + 0x900) (setBits (d.w (pg + 0x900)) (c % 32) 1 1)
    let d2 := if st = 0 then (d1.pb (gntC c) Reg.GNT.CSTAT_PLL_LOCK false).pb (gntC c) Reg.GNT.CSTAT_BIT_SYNC false else d1
    let lost := d.chState c == 2 || st == 4
    let ch := d.chan c
    (d2.setChan c { ch with at_ := d.now, slip := ch.slip || lost, slipAt := if lost then d.now else ch.slipAt }).raise pg 0

/-- A channel's carrier phase is lost (R237, R241): SLIP is set. [DEDUCED log 232] -/
def Dev.chSlip (d : Dev) (c : Nat) : Dev := d.setChan c { d.chan c with slip := true, slipAt := d.now }

/-- The channels of a band in a set of states acted on. -/
def Dev.bandChans (d : Dev) (b : Nat) (states : List Nat) (f : Nat → Dev → Dev) : Dev :=
  d.each 256 fun c e => if e.chState c != 0 && e.chBand c == b && states.contains (e.chState c) then f c e else e

/-! ### Signals (R225) -/

/-- A signal of R225: chips of the primary code, its period in ms, cells to a chip, main-lobe half-width in Hz, the
first and last satellite, and chips a second. -/
structure SigRow where
  chips  : Nat
  period : Nat
  cells  : Nat
  lobe   : Nat
  svLo   : Nat
  svHi   : Nat
  rate   : Nat
deriving DecidableEq, Repr

/-- The signals, SIG 0 to 12. -/
def sigTable : List SigRow :=
  [⟨1023, 1, 2, 1023000, 1, 32, 1023000⟩, ⟨10230, 10, 4, 2046000, 1, 32, 1023000⟩, ⟨10230, 20, 2, 1023000, 1, 32, 511500⟩,
   ⟨10230, 1, 2, 10230000, 1, 32, 10230000⟩, ⟨4092, 4, 4, 2046000, 1, 36, 1023000⟩,
   ⟨10230, 1, 2, 10230000, 1, 36, 10230000⟩, ⟨5115, 1, 2, 5115000, 1, 36, 5115000⟩,
   ⟨10230, 10, 4, 2046000, 1, 63, 1023000⟩, ⟨10230, 1, 2, 10230000, 1, 63, 10230000⟩,
   ⟨10230, 1, 2, 10230000, 1, 63, 10230000⟩, ⟨511, 1, 2, 511000, 0, 13, 511000⟩, ⟨511, 1, 2, 511000, 0, 13, 511000⟩,
   ⟨1023, 1, 2, 1023000, 1, 14, 1023000⟩]

/-- The carrier of a signal of a satellite in Hz. -/
def carrierHz (sig sv : Nat) : Int :=
  match sig with
  | 2 => 1227600000
  | 3 => 1176450000
  | 5 => 1176450000
  | 6 => 1278750000
  | 8 => 1176450000
  | 9 => 1268520000
  | 10 => 1602000000 + 562500 * ((sv : Int) - 7)
  | 11 => 1246000000 + 437500 * ((sv : Int) - 7)
  | 12 => 1176450000
  | _ => 1575420000

/-- A satellite belongs to a signal: its range in R225, or QZSS on SIG 0 to 3. -/
def svOk (sig sv : Nat) : Bool :=
  match sigTable[sig]? with
  | some r => (decide (r.svLo ≤ sv) && decide (sv ≤ r.svHi)) || (decide (sig ≤ 3) && decide (193 ≤ sv) && decide (sv ≤ 202))
  | none => false

/-- A signal is usable on a band (R223). -/
def Dev.sigFits (d : Dev) (sig sv b : Nat) : Bool :=
  match sigTable[sig]? with
  | some r =>
    decide (10 * ((carrierHz sig sv - d.g (gnfB b) Reg.GNF.CENTRE).natAbs + r.lobe) ≤ 4 * d.g (gnfB b) Reg.GNF.SRATE)
  | none => false

/-- The RF frequency at zero baseband frequency in mHz (R223): CENTRE × fs / SRATE, with the measured sample rate. -/
def Dev.bandRf (d : Dev) (b : Nat) : Int :=
  (d.g (gnfB b) Reg.GNF.CENTRE : Int) * 1000 * (10 ^ 12 + signedOf 32 (d.g (gnfB b) Reg.GNF.FOFS)) / 10 ^ 12

/-- A band is enabled. -/
def Dev.bandOn (d : Dev) (b : Nat) : Bool := d.en gnfPg (gnfB b) Reg.GNF.BCFG_EN

/-- The loops and correlators that a channel's settings, state and synchronisation ask for (R236, R238): TINT as the nearest lower
whole multiple of the primary period, at most 20 ms and at least one; one period before synchronisation.
[DESIGN CHOICE log 254] -/
def Dev.loopsOf (d : Dev) (c : Nat) : ChanLoop :=
  let b := gntC c
  let per := match sigTable[d.g b Reg.GNT.CCFG_SIG]? with | some r => r.period | none => 1
  let st := d.chState c
  let tint := if d.gb b Reg.GNT.CSTAT_BIT_SYNC then max per (min 20 (d.g b Reg.GNT.CLOOP_TINT) / per * per) else per
  let runs := decide (1 ≤ st) && decide (st ≤ 3)
  { tint := if runs then tint else 0
    fll := st == 1 || st == 3
    pll := if st = 2 then ([2000, 5000, 10000, 15000, 20000, 30000] : List Nat)[min 5 (d.g b Reg.GNT.CLOOP_PLLBW)]?.getD 0 else 0
    dll := if runs then ([20, 50, 100, 200, 500, 1000, 2000] : List Nat)[min 6 (d.g b Reg.GNT.CLOOP_DLLBW)]?.getD 0 else 0
    el := clampNat 1 64 (d.g b Reg.GNT.CSPACE_EL)
    vel := clampNat 1 64 (d.g b Reg.GNT.CSPACE_VEL)
    tstep := clampNat 1 64 (d.g b Reg.GNT.CSPACE_TSTEP) }

/-- An integration boundary of a channel has passed (R238): a live change of its settings applies, with the NCO phases as they were.
[DESIGN CHOICE log 254] -/
def Dev.chBoundary (d : Dev) (c : Nat) : Dev := d.setChan c { d.chan c with eff := d.loopsOf c }

/-! ### Acquisition (R231 to R234) -/

/-- The device with the acquisition bank replaced. -/
def Dev.setAcq (d : Dev) (a : AcqSt) : Dev := { d with acq := a }

/-- The millisecond of the TB0 that runs the baseband (R218). -/
def Dev.gnssMs (d : Dev) : Nat := msOf (d.count d.lead 0)

/-- The first waiting job starts at the next millisecond boundary when none is in progress and a result can be queued.
[DEDUCED log 111] -/
def Dev.acqKick (d : Dev) : Dev :=
  match d.acq.run, d.acq.queue with
  | none, j :: q =>
    if d.acq.res.length < 16 then d.setAcq { d.acq with queue := q, run := some { job := j, start := d.gnssMs + 1 } } else d
  | _, _ => d

/-- The cells of a job's bin: CLEN, or the whole code (R231). -/
def AcqJob.cells (j : AcqJob) : Nat :=
  if j.clen = 0 then (match sigTable[j.sig]? with | some r => r.chips * r.cells | none => 0) else j.clen

/-- The Doppler bin at a position of the order centre, +1, −1, +2, −2, … (R231). -/
def binAt (q : Nat) : Int := if q % 2 = 1 then ((q + 1) / 2 : Nat) else -((q / 2 : Nat) : Int)

/-- The code phase in 1/16 chip and the Doppler in Hz of a cell of a pass (R231, R246): pass `p` covers cells 16,384 × p on of the
job's sequence, bin by bin, within a bin in ascending order from CSTART. -/
def AcqJob.cellAt (j : AcqJob) (p cell : Nat) : Nat × Int :=
  match sigTable[j.sig]? with
  | none => (0, j.dcen)
  | some r =>
    let g := 16384 * p + cell
    ((j.cstart + g % max 1 j.cells) % (r.chips * r.cells) * (16 / r.cells), j.dcen + binAt (g / max 1 j.cells) * j.dstep)

/-- The code phase and Doppler of a cell of the 3 × 3 around a peak (R232), by its number, Doppler bin by Doppler bin. -/
def AcqJob.cellNear (j : AcqJob) (k : AcqPeak) (cell : Nat) : Nat × Int :=
  match sigTable[j.sig]? with
  | none => (k.code, k.dop)
  | some r =>
    let code : Int := k.code + ((cell % 3 : Nat) - 1) * (16 / r.cells : Nat)
    ((code % (16 * r.chips : Nat)).toNat, k.dop + ((cell / 3 % 3 : Nat) - 1) * j.dstep)

/-- The job in progress ends with an outcome: one result is queued and ACQ_DONE raised (R234). -/
def Dev.acqFinish (d : Dev) (outcome : Nat) (peak : Option AcqPeak) : Dev :=
  match d.acq.run with
  | none => d
  | some r =>
    ((d.setAcq { d.acq with
      run := none
      res := d.acq.res ++ [{ tag := r.job.tag, outcome := outcome, passes := r.passes, peak := peak }] }).raise gnaPg
      0).acqKick

/-- The job in progress on a band ends with an outcome (R222, R234). -/
def Dev.acqStop (d : Dev) (b outcome : Nat) : Dev :=
  match d.acq.run with
  | some r => if r.job.band = b then d.acqFinish outcome r.best else d
  | none => d

/-- The jobs of a band abort (R234, R237, R245): its waiting jobs leave the queue first, the job in progress on it ends with
ABORTED, and each of the others queues its own ABORTED result while there is room. [DEDUCED log 112] -/
def Dev.bandJobsAborted (d : Dev) (b : Nat) : Dev :=
  let mine := d.acq.queue.filter fun j => j.band == b
  let left := d.setAcq { d.acq with queue := d.acq.queue.filter fun j => j.band != b }
  mine.foldl (fun (e : Dev) j =>
    if e.acq.res.length + bitOf e.acq.run.isSome < 16 then
      (e.setAcq { e.acq with
        res := e.acq.res ++ [({ tag := j.tag, outcome := 3, passes := 0, peak := none } : AcqRes)] }).raise gnaPg 0
    else e) (left.acqStop b 3)

/-- The staged job (R246). -/
def Dev.stagedJob (d : Dev) : AcqJob :=
  let p := gnaPg
  { sig := d.g p Reg.GNA.JOB0_SIG, sv := d.g p Reg.GNA.JOB0_SV, band := d.g p Reg.GNA.JOB0_BAND
    hand := d.gb p Reg.GNA.JOB0_HANDOVER, ch := d.g p Reg.GNA.JOB0_CH, tag := d.g p Reg.GNA.JOB0_TAG
    cstart := d.g p Reg.GNA.JOB1_CSTART, clen := d.g p Reg.GNA.JOB1_CLEN, dcen := signedOf 32 (d.g p Reg.GNA.JOB2)
    dspan := d.g p Reg.GNA.JOB3_DSPAN, dstep := d.g p Reg.GNA.JOB3_DSTEP, tc := d.g p Reg.GNA.JOB4_TC
    nnc := max 1 (d.g p Reg.GNA.JOB4_NNC), thr := d.g p Reg.GNA.JOB4_THR, early := d.gb p Reg.GNA.ACTRL }

/-- The code cells of a signal. -/
def codeCells (sig : Nat) : Nat := match sigTable[sig]? with | some r => r.chips * r.cells | none => 0

/-- Why a job is refused, 0 for none (R233). -/
def Dev.jobRefusal (d : Dev) (j : AcqJob) : Nat :=
  match sigTable[j.sig]? with
  | none => if 16 ≤ d.acq.queue.length then 1 else 2
  | some r =>
    if 16 ≤ d.acq.queue.length then 1
    else if !(svOk j.sig j.sv) then 2
    else if !(d.bandOn j.band) || !(d.sigFits j.sig j.sv j.band) then 3
    else if j.tc == 0 || j.tc % r.period != 0 ||
        (decide (r.period < j.tc) && !((j.sig == 0 || j.sig == 10 || j.sig == 11 || j.sig == 12) && decide (j.tc ≤ 10))) then 4
    else if j.dstep == 0 || decide (1000 < j.dstep * j.tc) then 5
    else if codeCells j.sig < j.cstart + j.clen then 6
    else if j.hand && !(d.gb (gntC j.ch) Reg.GNT.CCFG_OWNER) then 7
    else 0

/-- SUBMIT.GO (R233). -/
def acqSubmitted (d : Dev) : Dev :=
  if !(d.gnssOn) then d
  else
    let j := d.stagedJob
    let r := d.jobRefusal j
    if r = 0 then
      (d.setAcq { d.acq with
        queue := d.acq.queue ++ [j]
        hostAt := if d.acq.run.isNone && d.acq.queue.isEmpty then d.gnssMs else d.acq.hostAt }).acqKick
    else (d.p gnaPg Reg.GNA.QSTAT_REFUSE r).raise gnaPg 1

/-- SUBMIT.FLUSH discards host jobs not yet started (R234). -/
def acqFlushed (d : Dev) : Dev :=
  let run := match d.acq.run with
    | some r => if r.passes = 0 ∧ r.dwell = none ∧ d.gnssMs < r.start then none else some r
    | none => none
  d.setAcq { d.acq with queue := [], run := run }

/-- The passes of a job (R231): its cells over 16,384. -/
def AcqJob.passes (j : AcqJob) : Nat :=
  ceilDiv (j.cells * (2 * ceilDiv j.dspan j.dstep + 1)) 16384

/-- A channel starts in PULL_IN on a signal at a detected code phase in 1/16 chip and Doppler in Hz (R234, R237): its NCOs take
them, the carrier NCO that of the carrier at baseband (R223). -/
def Dev.chStart (d : Dev) (c sig sv b code : Nat) (dop : Int) (cn0 : Nat) : Dev :=
  if d.chanOut c then d else
  let d1 := (((d.p (gntC c) Reg.GNT.CCFG_SIG sig).p (gntC c) Reg.GNT.CCFG_SV sv).p (gntC c) Reg.GNT.CCFG_BAND b).chTo c 1
  let nco : ChanMeas :=
    { ch := c, code := code * 2 ^ 28, epoch := 0, carr := 0, rate := 1000 * (carrierHz sig sv + dop) - d.bandRf b, cn0 := cn0
      half := false }
  (d1.setChan c { d1.chan c with nco := some nco, ncoAt := d.tb0 d.lead / 2 ^ 32 }).chBoundary c

/-- A firmware pass of a length in ms that ends now was taken while no host job waited or ran, in automatic mode (R234, R235,
R243). -/
def Dev.fwPass (d : Dev) (ms : Nat) : Bool :=
  d.gnssOn && d.gb gnfPg Reg.GNF.ALLOC_AUTO &&
    ((d.acq.run.isNone && d.acq.queue.isEmpty) || decide (d.gnssMs ≤ d.acq.hostAt + ms))

/-- A pass or dwell finds a peak of a ratio: not where every one of its periods lost a sample (R224, R232). -/
def AcqRun.finds (r : AcqRun) (ratio : Nat) : Bool := decide (r.job.thr ≤ ratio) && decide (r.lost.length < r.job.nnc)

/-- The end of a pass (R232): a detection is verified at the next boundary; without one the next pass follows, and after
the last the job ends with its best verified detection. [DEDUCED log 110] -/
def acqPassEnded (src : AcqSrc) (seen : AcqSeen) (d : Dev) : Dev :=
  match src, d.acq.run with
  | .host, some r =>
    if r.dwell.isSome || decide (d.gnssMs < r.start + r.job.tc * r.job.nnc) then d
    else
      let r1 := { r with passes := r.passes + 1, lost := [] }
      let cell := r.job.cellAt r.passes seen.cell
      let p : AcqPeak := { ratio := seen.ratio, code := cell.1, dop := cell.2, cn0 := seen.cn0 }
      if r.finds p.ratio then d.setAcq { d.acq with run := some { r1 with dwell := some p, start := d.gnssMs + 1 } }
      else if r1.passes < r.job.passes then d.setAcq { d.acq with run := some { r1 with start := d.gnssMs + 1 } }
      else
        match r.best with
        | none => (d.setAcq { d.acq with run := some r1 }).acqFinish 2 (some p)
        | some b => (d.setAcq { d.acq with run := some r1 }).acqFinish (if r.job.hand && !r.handed then 5 else 1) (some b)
  | _, _ => d

/-- The end of a verification dwell (R232, R234): a verified detection may start its channel; a job ends at the first one
with EARLY_STOP, else keeps its best. A firmware job's starts the channel firmware gave it. [DEDUCED log 110, 111] -/
def acqVerifyEnded (src : AcqSrc) (seen : AcqSeen) (d : Dev) : Dev :=
  if !(d.gnssOn) then d
  else
  match src, d.acq.run with
  | .firmware c sig sv b ms code dop, _ =>
    if d.fwPass ms && d.chState c == 0 && !(d.gb (gntC c) Reg.GNT.CCFG_OWNER) && d.bandOn b && svOk sig sv then
      d.chStart c sig sv b code dop seen.cn0
    else d
  | .host, none => d
  | .host, some r =>
    if r.dwell.isNone || decide (d.gnssMs < r.start + r.job.tc * r.job.nnc) then d
    else
      let cell := r.job.cellNear (r.dwell.getD { ratio := 0, code := 0, dop := 0, cn0 := 0 }) seen.cell
      let p : AcqPeak := { ratio := seen.ratio, code := cell.1, dop := cell.2, cn0 := seen.cn0 }
      let ok := r.finds p.ratio
      let idle := d.chState r.job.ch == 0
      let hand := ok && r.job.hand && idle && !r.handed
      let d1 := if hand then d.chStart r.job.ch r.job.sig r.job.sv r.job.band p.code p.dop p.cn0 else d
      let better := match r.best with | some b => decide (b.ratio < p.ratio) | none => true
      let r1 := { r with
        dwell := none, lost := [], handed := r.handed || hand, start := d.gnssMs + 1
        best := if ok && better then some p else r.best }
      let d2 := d1.setAcq { d1.acq with run := some r1 }
      let outcome := fun (b : Option AcqPeak) =>
        if b.isNone then 2 else if r.job.hand && !r1.handed then 5 else 1
      if (ok && r.job.early) || decide (r.job.passes ≤ r.passes) then
        d2.acqFinish (outcome r1.best) (match r1.best with | some b => some b | none => some p)
      else d2

/-- RESPOP.POP frees the head result (R246). -/
def acqPopped (d : Dev) : Dev := (d.setAcq { d.acq with res := d.acq.res.drop 1 }).acqKick

/-! ### Band clocks, level and notches -/

/-- A band stops a snapshot that takes it (R264): its TRUNC or DROP bit is set. -/
def Dev.snapBandStop (d : Dev) (b : Nat) (drop : Bool) : Dev :=
  if d.g gnsPg Reg.GNS.SNSTAT_STATE == 1 && bitAt d.snap.bands b && !(bitAt d.snap.stopped b) then
    let f := if drop then Reg.GNS.SNSTAT_DROP else Reg.GNS.SNSTAT_TRUNC
    { (d.p gnsPg f (setBits (d.g gnsPg f) b 1 1)) with
      snap := { d.snap with stopped := setBits d.snap.stopped b 1 1 } }
  else d

/-- The last two stamps of a band's sample clock by the unit of the half that leads, in 2^-32 ns of its TB0 (R221): the earlier, the
later, the edges between them and the edge count at the later. -/
def Dev.bandStamps (d : Dev) (b : Nat) : Option (Nat × Nat × Nat × Nat) :=
  let u := d.cap d.lead (20 + b)
  match u.prev0, u.stamp0 with
  | some p, some s => if p < s && decide (u.prevEc < u.stampEc) then some (p, s, u.stampEc - u.prevEc, u.stampEc) else none
  | _, _ => none

/-- The sample rate that the stamps measure lies within ±200 ppm of SRATE (R222). -/
def Dev.bandRateOk (d : Dev) (b : Nat) : Bool :=
  match d.bandStamps b with
  | none => false
  | some (p, s, n, _) =>
    let nom := d.g (gnfB b) Reg.GNF.SRATE * (s - p)
    decide ((((n * secFrac : Nat) : Int) - (nom : Nat)).natAbs * 5000 ≤ nom)

/-- The three conditions of a band's clock hold (R222): edges, a stamp within 4 µs, and the measured rate. -/
def Dev.bandGood (d : Dev) (b : Nat) : Bool :=
  d.bandRateOk b &&
    match (d.cap d.lead (20 + b)).stamp0 with
    | some s => decide (d.tb0 d.lead ≤ s + 4000 * 2 ^ 32)
    | none => false

/-- A stamp of a band's sample clock is taken (R222): FOFS is measured, and the conditions go on holding or begin to.
[DESIGN CHOICE log 255] -/
def bandStamped (b : Nat) (d : Dev) : Dev :=
  if !(d.bandOn b) || !(d.gnssOn) then d
  else
    match d.bandStamps b with
    | none => d
    | some (p, s, n, _) =>
      let hz := max 1 (d.g (gnfB b) Reg.GNF.SRATE)
      let fofs : Int := ((n * secFrac * 10 ^ 12 : Nat) : Int) / (hz * (s - p) : Nat) - 10 ^ 12
      let st := d.band b
      let good := if !(d.bandRateOk b) then none
        else if s ≤ p + 4000 * 2 ^ 32 then some (st.goodAt.getD d.now) else some d.now
      (d.p (gnfB b) Reg.GNF.FOFS (unsignedOf 32 (clampInt (-(2 ^ 31)) (2 ^ 31 - 1) fofs))).setBand b { st with goodAt := good }

/-- BAND_CLK_LOST (R222): a condition fails; the band's channels coast, its pass ends with CLK_LOST, and a capture of it stops. -/
def bandClkLost (b : Nat) (d : Dev) : Dev :=
  if !(d.gb (gnfB b) Reg.GNF.BSTAT_CLK_OK) || !(d.gnssOn) || d.bandGood b then d
  else
    let d0 := d.setBand b { d.band b with goodAt := none }
    let d1 := (d0.pb (gnfB b) Reg.GNF.BSTAT_CLK_OK false).raise gnfPg (4 * b)
    let d2 := d1.bandChans b [1, 2, 3] fun c e => (e.setChan c { e.chan c with coast := true }).chTo c 4
    (d2.acqStop b 4).snapBandStop b false

/-- BAND_CLK_OK (R222): the band is enabled, edges are present at its clock ball, and the conditions on its stamps have held for
1 ms; coasting channels pull in again. -/
def bandClkOk (b : Nat) (edges : Bool) (d : Dev) : Dev :=
  let held := match (d.band b).goodAt with | some t => decide (t + 250000 ≤ d.now) | none => false
  if d.gb (gnfB b) Reg.GNF.BSTAT_CLK_OK || !(d.bandOn b) || !(d.gnssOn) || !edges || !held || !(d.bandGood b) then d
  else (d.pb (gnfB b) Reg.GNF.BSTAT_CLK_OK true).bandChans b [4] fun c e => (e.chSlip c).chTo c 1

/-- The integration period of a pass on a band in which a sample is lost is discarded (R224). -/
def Dev.acqLost (d : Dev) (b : Nat) : Dev :=
  match d.acq.run with
  | some r =>
    let k := (d.gnssMs - r.start) / max 1 r.job.tc
    if r.job.band != b || decide (d.gnssMs < r.start) || r.lost.contains k then d
    else d.setAcq { d.acq with run := some { r with lost := k :: r.lost } }
  | none => d

/-- BAND_FIFO_DROP (R224): samples dropped are counted, channels of the band flag DROP, a pass of it discards the period, and a
capture of it stops. -/
def bandFifoDropped (b n : Nat) (d : Dev) : Dev :=
  if !(d.bandOn b) || !(d.gnssOn) || n == 0 then d
  else
    let d1 := (d.p (gnfB b) Reg.GNF.DROPS (min 0xFFFFFFFF (d.g (gnfB b) Reg.GNF.DROPS + n))).raise gnfPg (4 * b + 3)
    ((d1.bandChans b [1, 2, 3] fun c e => e.setChan c { e.chan c with drop := true }).acqLost b).snapBandStop b true

/-- The value of the bits of one component of a sample (R219). -/
def sampleValue (fmt v : Nat) : Int :=
  match fmt with
  | 1 => signedOf 4 v
  | 2 => (v % 16 : Nat) - 8
  | _ => (if bitAt v 1 then -1 else 1) * (if bitAt v 0 then 3 else 1)

/-- I and Q of a sample of a band (R219): I on D[3:0] and Q on D[7:4], exchanged with IQSWAP first, then Q negated with INV. -/
def Dev.sampleIQ (d : Dev) (b : Nat) (x : Byte) : Int × Int :=
  let g := gnfB b
  let i := sampleValue (d.g g Reg.GNF.BCFG_FMT) (x.toNat % 16)
  let q := sampleValue (d.g g Reg.GNF.BCFG_FMT) (x.toNat / 16)
  let s := if d.gb g Reg.GNF.BCFG_IQSWAP then (q, i) else (i, q)
  if d.gb g Reg.GNF.BCFG_INV then (s.1, -s.2) else s

/-- LEVEL of some samples in 1/1024 (R226): the fraction with a magnitude of I or Q in the upper half of the format's range, which
is 3 for 2-bit samples and from 4 on for 4-bit ones. [DEDUCED log 256] -/
def Dev.levelOf (d : Dev) (b : Nat) (samples : List Byte) : Nat :=
  let fmt := d.g (gnfB b) Reg.GNF.BCFG_FMT
  let top : Nat := if fmt == 1 || fmt == 2 then 4 else 3
  let n := samples.countP fun x => let s := d.sampleIQ b x; decide (top ≤ s.1.natAbs) || decide (top ≤ s.2.natAbs)
  min 1023 (n * 1024 / max 1 samples.length)

/-- AGC_UPDATE (R226): LEVEL is measured; with AGC_EN the duty moves toward the target, a higher duty for a lower level, by a step
that the manual does not state. [DESIGN CHOICE log 108] -/
def agcUpdated (b : Nat) (samples : List Byte) (d : Dev) : Dev :=
  if !(d.bandOn b) || !(d.gnssOn) || samples.isEmpty then d
  else
    let g := gnfB b
    let level := d.levelOf b samples
    let want := d.g g Reg.GNF.AGC_TARGET
    let duty := d.g g Reg.GNF.BSTAT_DUTY
    let step := fun far => Config.agcStep far (min 10 (d.g g Reg.GNF.AGC_TC))
    let d1 := d.p g Reg.GNF.JLVL_LEVEL level
    if !(d.en gnfPg g Reg.GNF.BCFG_AGC_EN) || level == want then d1
    else d1.p g Reg.GNF.BSTAT_DUTY (if level < want then min 1023 (duty + step (want - level)) else duty - step (level - want))

/-- The frequency in fs/2^24 at which a notch filters now, if it does (R228). -/
def Dev.notchAt (d : Dev) (b k : Nat) : Option Int :=
  let n := gnfN b k
  match d.g n Reg.GNF.NCFG_MODE with
  | 1 => some (signedOf 24 (d.g n Reg.GNF.NFREQ))
  | 2 => if d.gb n Reg.GNF.NSTAT_ENGAGED then some (signedOf 24 (d.g n Reg.GNF.NSTAT_F_NOW)) else none
  | _ => none

/-- Samples after a band's notches, which act in series (R228). -/
def Dev.notched (d : Dev) (b : Nat) (xs : List (Int × Int)) : List (Int × Int) :=
  (List.range 8).foldl (fun l k =>
    match d.notchAt b k with
    | some f => Config.notchOut f (d.g (gnfN b k) Reg.GNF.NCFG_WIDTH) l
    | none => l) xs

/-- The energy of some samples after the notches, and their number (R227). -/
def Dev.bandPower (d : Dev) (b : Nat) (samples : List Byte) : Nat × Nat :=
  let l := d.notched b (samples.map (d.sampleIQ b))
  (l.foldl (fun s x => s + x.1.natAbs ^ 2 + x.2.natAbs ^ 2) 0, samples.length)

/-- The largest k with 10^k ≤ (a/b)^1000, found among the integers from `lo` up by halving; that is the whole part of
1000 × log10(a/b). -/
def log10Search (a b : Nat) : Nat → Int → Int → Int
  | 0, lo, _ => lo
  | fuel + 1, lo, hi =>
    let mid := (lo + hi + 1) / 2
    let fits := if 0 ≤ mid then decide (10 ^ mid.toNat * (b ^ 200) ^ 5 ≤ (a ^ 200) ^ 5)
      else decide ((b ^ 200) ^ 5 ≤ (a ^ 200) ^ 5 * 10 ^ (-mid).toNat)
    if lo < hi then (if fits then log10Search a b fuel mid hi else log10Search a b fuel lo (mid - 1)) else lo

/-- 10 × log10(a/b) in 0.01 dB, rounded down (R227). [DEDUCED log 109] -/
def centiBel (a b : Nat) : Int := if a = 0 ∨ b = 0 then 0 else log10Search a b 18 (-32768) 32767

/-- JAM_UPDATE (R227): JN from the mean power of the samples of the last 100 ms after the notches and before the digital gain and, at
a second, of that second's samples. -/
def jamUpdated (b : Nat) (samples : List Byte) (second : Option (List Byte)) (d : Dev) : Dev :=
  if !(d.bandOn b) || !(d.gnssOn) || samples.isEmpty then d
  else
    let g := gnfB b
    let st := d.band b
    let duty := d.g g Reg.GNF.BSTAT_DUTY
    let now := d.bandPower b samples
    let secs := match second with | some l => ((d.bandPower b l, duty) :: st.secs).take 60 | none => st.secs
    let floor := secs.foldl (fun (m : Option ((Nat × Nat) × Nat)) s =>
      match m with | none => some s | some x => if s.1.1 * x.1.2 < x.1.1 * s.1.2 then some s else some x) none
    let jn : Int := match floor with
      | some f => centiBel (now.1 * f.1.2) (f.1.1 * now.2) + ((d.g g Reg.GNF.AGC_GSLOPE : Nat) * ((f.2 : Int) - duty)).tdiv 1024
      | none => 0
    let warn := d.gb g Reg.GNF.BSTAT_JAM_WARN
    let thr : Int := (25 * d.g g Reg.GNF.JAM_JTHR : Nat)
    let rel : Int := thr - (25 * d.g g Reg.GNF.JAM_JHYST : Nat)
    let calm := if jn < rel then some (st.calmAt.getD d.now) else none
    let above := decide (thr ≤ jn)
    let clear := match calm with | some t => decide (t + ticks1s ≤ d.now) | none => false
    let d1 := (d.p g Reg.GNF.JLVL_JN (unsignedOf 16 (clampInt (-32768) 32767 jn))).setBand b
      { st with secs := secs, calmAt := calm }
    (d1.pb g Reg.GNF.BSTAT_JAM_WARN (above || (warn && !clear))).raiseIf (above && !warn) gnfPg (4 * b + 1)

/-- Half of the −3 dB width of a notch in Hz, doubled twice: the distance it covers (R228, R229). -/
def notchCover (width : Nat) : Nat :=
  2 * (([10000, 20000, 50000, 100000, 200000, 500000, 1000000, 2000000] : List Nat)[width]?).getD 0

/-- The frequency of bin `k` of 1,024 in fs/2^24, signed. -/
def binFreq (k : Nat) : Int := (if k < 512 then (k : Int) else (k : Int) - 1024) * 2 ^ 14

/-- The median bin of a spectrum. -/
def medianBin (bins : List Nat) : Nat := (median (bins.map Int.ofNat)).toNat

/-- A bin's power exceeds another by a level in 0.25 dB, which may be negative (R229). -/
def exceeds (x m : Nat) (level : Int) : Bool :=
  decide (m ^ 40 * 10 ^ level.toNat ≤ x ^ 40 * 10 ^ (-level).toNat) && decide (m < x ∨ level ≤ 0)

/-- A notch of a band covers a frequency (R229). -/
def Dev.notchCovers (d : Dev) (b k : Nat) (f : Int) : Bool :=
  match d.notchAt b k with
  | some at_ =>
    decide ((f - at_).natAbs * d.g (gnfB b) Reg.GNF.SRATE ≤ notchCover (d.g (gnfN b k) Reg.GNF.NCFG_WIDTH) * 2 ^ 24)
  | none => false

/-- A frequency lies within an adaptive notch's range. -/
def Dev.notchRange (d : Dev) (b k : Nat) (f : Int) : Bool :=
  let n := gnfN b k
  decide ((f - signedOf 24 (d.g n Reg.GNF.NFREQ)).natAbs ≤ d.g n Reg.GNF.NRANGE)

/-- The strongest of some bins, the lowest of equals. -/
def strongest (l : List (Nat × Nat)) : Option (Nat × Nat) :=
  l.foldl (fun (m : Option (Nat × Nat)) s =>
    match m with | none => some s | some x => if x.2 < s.2 then some s else some x) none

/-- A notch's frequency and engagement change: every channel on the band flags NOTCH_CHG (R230). -/
def Dev.notchMove (d : Dev) (b k : Nat) (f : Int) (on : Bool) : Dev :=
  let n := gnfN b k
  if d.g n Reg.GNF.NSTAT_F_NOW = unsignedOf 24 f ∧ d.gb n Reg.GNF.NSTAT_ENGAGED = on then d
  else
    ((d.p n Reg.GNF.NSTAT_F_NOW (unsignedOf 24 f)).pb n Reg.GNF.NSTAT_ENGAGED on).bandChans b [1, 2, 3, 4] fun c e =>
      e.setChan c { e.chan c with notch := true }

/-- One engaged adaptive notch after an average (R229): it moves to its peak, or releases it after 1 s below DET − 3 dB. -/
def Dev.notchFollow (d : Dev) (b : Nat) (bins : List (Nat × Nat)) (med k : Nat) : Dev :=
  let n := gnfN b k
  if d.g n Reg.GNF.NCFG_MODE != 2 || !(d.gb n Reg.GNF.NSTAT_ENGAGED) then d
  else
    let det := d.g (gnfB b) Reg.GNF.JAM_DET
    let st := d.band b
    let own := bins.filter fun x => d.notchCovers b k (binFreq x.1) && d.notchRange b k (binFreq x.1)
    let top := strongest own
    let low := match top with | some x => !(exceeds x.2 med ((det : Int) - 12)) | none => true
    let since := if low then some ((Tab.find? st.lowAt k).getD d.now) else none
    let d1 := d.setBand b { st with lowAt := match since with
      | some t => (st.lowAt.erase k).insert k t | none => st.lowAt.erase k }
    match since, top with
    | some t, _ =>
      if t + ticks1s ≤ d.now then
        (d.setBand b { st with lowAt := st.lowAt.erase k }).notchMove b k (signedOf 24 (d.g n Reg.GNF.NSTAT_F_NOW)) false
      else d1
    | none, some x => d1.notchMove b k (binFreq x.1) true
    | none, none => d1

/-- One free adaptive notch takes the strongest peak in its range that no engaged notch covers (R229). -/
def Dev.notchTake (d : Dev) (b : Nat) (bins : List (Nat × Nat)) (med k : Nat) : Dev :=
  let n := gnfN b k
  if d.g n Reg.GNF.NCFG_MODE != 2 || d.gb n Reg.GNF.NSTAT_ENGAGED then d
  else
    let det := d.g (gnfB b) Reg.GNF.JAM_DET
    match strongest (bins.filter fun x =>
      exceeds x.2 med det && d.notchRange b k (binFreq x.1)
        && !((List.range 8).any fun j => d.notchCovers b j (binFreq x.1))) with
    | some x => d.notchMove b k (binFreq x.1) true
    | none => d

/-- 16 spectra averaged, times 16: only ratios of bins count (R229). -/
def spectrumSum (spectra : List (List Nat)) : List Nat :=
  spectra.foldl (fun s l => List.zipWith (· + ·) s l) (List.replicate 1024 0)

/-- SPECTRUM_AVERAGE (R229): 16 spectra of a band, 1,024 bins each. -/
def spectrumAveraged (b : Nat) (spectra : List (List Nat)) (d : Dev) : Dev :=
  if !(d.bandOn b) || !(d.gnssOn) || spectra.length != 16 || !(spectra.all fun l => l.length == 1024) then d
  else
    let spectrum := spectrumSum spectra
    let bins := (List.range 1024).zip spectrum
    let med := medianBin spectrum
    let d1 := d.each 8 fun k e => e.notchFollow b bins med k
    let d2 := d1.each 8 fun k e => e.notchTake b bins med k
    let det := d.g (gnfB b) Reg.GNF.JAM_DET
    let open_ := bins.any fun x =>
      exceeds x.2 med det && !((List.range 8).any fun j => d2.notchCovers b j (binFreq x.1))
    let st := d2.band b
    let un := if open_ then some (st.uncovAt.getD d.now) else none
    let cov := if open_ then none else some (st.covAt.getD d.now)
    let full := d.gb (gnfB b) Reg.GNF.BSTAT_NOTCH_FULL
    let set := match un with | some t => decide (t + ticks1s ≤ d.now) | none => false
    let clr := match cov with | some t => decide (t + ticks1s ≤ d.now) | none => false
    ((d2.setBand b { st with uncovAt := un, covAt := cov }).pb (gnfB b) Reg.GNF.BSTAT_NOTCH_FULL
      (set || (full && !clr))).raiseIf (set && !full) gnfPg (4 * b + 2)

/-- A notch register written (R230, R245): it applies at the next sample and flags NOTCH_CHG; a notch no longer ADAPT, or
whose peak lies outside the new range, releases it. `o` is the register's offset in the notch block. -/
def notchWritten (b k o v : Nat) (d : Dev) : Dev :=
  let a := gnfN b k + o
  let n := gnfN b k
  let d1 := d.setw a (mergeWrite a (d.w a) v)
  let keep := d1.g n Reg.GNF.NCFG_MODE == 2 && d1.gb n Reg.GNF.NSTAT_ENGAGED
    && d1.notchRange b k (signedOf 24 (d1.g n Reg.GNF.NSTAT_F_NOW))
  let d2 := if keep then d1 else
      (d1.pb n Reg.GNF.NSTAT_ENGAGED false).setBand b { d1.band b with lowAt := (d1.band b).lowAt.erase k }
  let d3 := if d1.g n Reg.GNF.NCFG_MODE = 1 then d2.p n Reg.GNF.NSTAT_F_NOW (d1.g n Reg.GNF.NFREQ) else d2
  if d1.w a = d.w a then d3
  else d3.bandChans b [1, 2, 3, 4] fun c e => e.setChan c { e.chan c with notch := true }

/-- BCFG, CENTRE or SRATE of a band written (R234, R237, R245, R264): its channels move to IDLE whatever the write changes; where
a setting but AGC_EN changes, its jobs abort and a capture of it stops. [DEDUCED log 230] -/
def bandWritten (b o v : Nat) (d : Dev) : Dev :=
  let a := gnfB b + o
  let d1 := d.setw a (mergeWrite a (d.w a) v)
  let new := if o = 0 then d.w a % 32 != d1.w a % 32 else d.w a != d1.w a
  let d2 := d1.bandChans b [1, 2, 3, 4] fun c e => e.chTo c 0
  let d3 := if new then (d2.bandJobsAborted b).snapBandStop b false else d2
  if d1.bandOn b then d3 else (d3.pb (gnfB b) Reg.GNF.BSTAT_CLK_OK false).setBand b { d3.band b with goodAt := none }

/-! ### Channels -/

/-- CHANNEL_TRANSITION (R237): what the channel's loops find, taken with the time it has spent in its state; carrier phase accumulates
from an entry to TRACK_PLL (R241). -/
def channelMoved (c : Nat) (s : ChanSeen) (d : Dev) : Dev :=
  let st := d.chState c
  let b := gntC c
  if st = 0 || !(d.gnssOn) then d
  else
    let d1 := ((d.p b Reg.GNT.CSTAT_CN0 s.cn0).pb b Reg.GNT.CSTAT_PLL_LOCK (decide (85 ≤ s.pli))).pb b
      Reg.GNT.CSTAT_BIT_SYNC s.bitSync
    let aged := fun t => decide ((d.chan c).at_ + t ≤ d.now)
    if st = 4 then (if aged ticks1s then d.chTo c 0 else d)
    else
      (if s.weak then d1.chTo c 0
       else if (st == 1 || st == 3) && s.steady && decide (85 ≤ s.pli) then
         (d1.setChan c { d1.chan c with carr0 := s.carr }).chTo c 2
       else if st == 1 && aged 500000000 then d1.chTo c 0
       else if st == 2 && decide (s.pli < 70) then (d1.chSlip c).chTo c 3
       else d1).chBoundary c

/-- CCFG.STOP (R244): a host-owned channel goes IDLE; others ignore it. -/
def channelStopped (c : Nat) (d : Dev) : Dev := if d.gb (gntC c) Reg.GNT.CCFG_OWNER then d.chTo c 0 else d

/-- OWNER written (R244): a change moves a running channel to IDLE. -/
def channelOwned (c : Nat) (v : Bool) (d : Dev) : Dev :=
  if d.gb (gntC c) Reg.GNT.CCFG_OWNER = v then d else (d.pb (gntC c) Reg.GNT.CCFG_OWNER v).chTo c 0

/-- CHG_CLR (R247): each bit set clears its CHG bit. -/
def chgCleared (i v : Nat) (d : Dev) : Dev :=
  let a := pageAddr .gnt .warp i + 0x900
  d.setw a (d.w a &&& (0xFFFFFFFF - v))

/-- MULTIPATH_FIT (R239): a channel's fitted reflected path, once in a second; it is reported, and valid at an amplitude of 0.05 or more
with a small residual. [DESIGN CHOICE log 15] -/
def multipathFitted (c delay amp : Nat) (residualOk : Bool) (d : Dev) : Dev :=
  let sec := d.sec d.lead 0
  if d.chState c = 0 || !(d.gnssOn) || (d.chan c).fitSec == some sec then d
  else d.setChan c { d.chan c with
    path := some (delay % 2 ^ 16, amp % 256), pathOk := decide (13 ≤ amp) && residualOk, fitSec := some sec }

/-- PRIO of a signal (R245). -/
def Dev.sigPrio (d : Dev) (sig : Nat) : Nat := getBits (d.w (gnfPg + 0x500 + 4 * (sig / 8))) (4 * (sig % 8)) 2

/-- EN of a signal (R245). -/
def Dev.sigOn (d : Dev) (sig : Nat) : Bool :=
  sig < 13 && d.enabled gnfPg && bitAt (d.w (gnfPg + 0x500 + 4 * (sig / 8))) (4 * (sig % 8) + 2)

/-- The enabled band on which a signal fits, the lowest. -/
def Dev.bandFor (d : Dev) (v : SvView) : Option Nat := (List.range 4).find? fun b => d.bandOn b && d.sigFits v.sig v.sv b

/-- One pair before another in service (R243): lower PRIO, then higher elevation. -/
def Dev.viewBefore (d : Dev) (a b : SvView) : Bool :=
  decide (d.sigPrio a.sig < d.sigPrio b.sig) || (d.sigPrio a.sig == d.sigPrio b.sig && decide (b.elev ≤ a.elev))

/-- A view put in service order. -/
def Dev.insertView (d : Dev) (v : SvView) : List SvView → List SvView
  | [] => [v]
  | w :: t => if d.viewBefore v w then v :: w :: t else w :: d.insertView v t

/-- A channel is assigned to a pair: firmware's, with the pair in CCFG and an elevation known. -/
def Dev.holds (d : Dev) (c : Nat) (v : SvView) : Bool :=
  !(d.gb (gntC c) Reg.GNT.CCFG_OWNER) && d.chState c != 0 && d.g (gntC c) Reg.GNT.CCFG_SIG == v.sig
    && d.g (gntC c) Reg.GNT.CCFG_SV == v.sv

/-- A channel given to a pair: its fields name it, and firmware's acquisition will start it. -/
def Dev.giveChan (d : Dev) (c : Nat) (v : SvView) (b : Nat) : Dev :=
  let d1 := d.chTo c 0
  (((d1.p (gntC c) Reg.GNT.CCFG_SIG v.sig).p (gntC c) Reg.GNT.CCFG_SV v.sv).p (gntC c) Reg.GNT.CCFG_BAND b).setChan c
    { d1.chan c with elev := v.elev }

/-- The firmware channel whose pair is served last: highest PRIO, then lowest elevation (R243). -/
def Dev.worstChan (d : Dev) : Option Nat :=
  (List.range 256).foldl (fun (m : Option Nat) c =>
    if d.gb (gntC c) Reg.GNT.CCFG_OWNER || d.chState c == 0 then m
    else match m with
      | none => some c
      | some x =>
        let pc := d.sigPrio (d.g (gntC c) Reg.GNT.CCFG_SIG)
        let px := d.sigPrio (d.g (gntC x) Reg.GNT.CCFG_SIG)
        if px < pc ∨ (px = pc ∧ (d.chan c).elev < (d.chan x).elev) then some c else some x) none

/-- CHANNEL_ALLOCATE (R243): the satellite signals in view take channels of firmware's, in order of PRIO and elevation;
channels of disabled signals are released. -/
def channelsAllocated (views : List SvView) (d : Dev) : Dev :=
  if !(d.gnssOn) || !(d.gb gnfPg Reg.GNF.ALLOC_AUTO) then d
  else
    let d1 := d.each 256 fun c e =>
      if !(e.gb (gntC c) Reg.GNT.CCFG_OWNER) && e.chState c != 0 && !(e.sigOn (e.g (gntC c) Reg.GNT.CCFG_SIG)) then e.chTo c 0
      else e
    let wanted := (views.filter fun v =>
      d1.sigOn v.sig && svOk v.sig v.sv && decide (d1.g gnfPg Reg.GNF.ALLOC_ELMASK < v.elev) && (d1.bandFor v).isSome)
    let order := wanted.foldr (fun v l => d1.insertView v l) []
    let r := order.foldl (fun (acc : Dev × List Nat) v =>
      let e := acc.1
      match (List.range 256).find? (fun c => e.holds c v) with
      | some c => (e.setChan c { e.chan c with elev := v.elev }, acc.2)
      | none =>
        let b := (e.bandFor v).getD 0
        match (List.range 256).find? (fun c =>
          !(e.gb (gntC c) Reg.GNT.CCFG_OWNER) && e.chState c == 0 && !(e.chanOut c) && !(acc.2.contains c)) with
        | some c => (e.giveChan c v b, c :: acc.2)
        | none =>
          match e.worstChan with
          | some c =>
            if e.sigPrio v.sig < e.sigPrio (e.g (gntC c) Reg.GNT.CCFG_SIG) then (e.giveChan c v b, c :: acc.2) else acc
          | none => acc) (d1, [])
    r.1

/-! ### The measurement latch (R240, R241) -/

/-- What a channel's NCOs hold at an instant in ns with no correlation since they were last known (R236): both NCOs carried forward
at their last rates. [DESIGN CHOICE log 257] -/
def Dev.ncoCarried (d : Dev) (c ns : Nat) (m : ChanMeas) : ChanMeas :=
  let sig := d.g (gntC c) Reg.GNT.CCFG_SIG
  let hz := carrierHz sig (d.g (gntC c) Reg.GNT.CCFG_SV) * 1000
  let dop := m.rate + d.bandRf (d.chBand c) - hz
  let dt : Int := (ns : Int) - (d.chan c).ncoAt
  match sigTable[sig]? with
  | none => m
  | some r =>
    let code := (m.code : Int) + r.rate * 2 ^ 32 * (hz + dop) * dt / (hz * 10 ^ 9)
    let len : Int := (r.chips * 2 ^ 32 : Nat)
    { m with
      code := (code % len).toNat, epoch := (((m.epoch : Int) + code / len) % 256).toNat
      carr := m.carr + dop * dt * 2 ^ 16 / 10 ^ 12 }

/-- What a channel's NCOs and loops hold that the manual leaves open: free values. [DESIGN CHOICE log 258] -/
def Dev.ncoFree (d : Dev) (c : Nat) : ChanMeas :=
  { ch := c, code := d.freeNat 56 0, epoch := d.freeNat 8 1, carr := signedOf 48 (d.freeNat 48 2)
    rate := signedOf 48 (d.freeNat 48 3), cn0 := d.freeNat 16 4, half := d.freeNat 1 5 == 1 }

/-- What the channels' NCOs and loops hold for a latch instant in ns of TB0 (R240): as measured; carried forward in COAST; and free
values for a channel that tracks and is not among the measured. -/
def Dev.ncoTaken (d : Dev) (ns : Nat) (ms : List ChanMeas) : Dev :=
  d.each 256 fun c e =>
    let st := e.chan c
    match ms.find? fun m => m.ch == c with
    | some m => e.setChan c { st with nco := some m, ncoAt := ns }
    | none =>
      match e.chState c with
      | 0 => e
      | 4 => e.setChan c { st with nco := st.nco.map (e.ncoCarried c ns), ncoAt := ns }
      | _ => (e.setChan c { st with nco := some (e.ncoFree c), ncoAt := ns }).drawn 6

/-- The group delay of a band's notches at a signal's carrier, in 2^-32 chip (R230). -/
def Dev.notchDelays (d : Dev) (b sig sv : Nat) : Int :=
  let hz := max 1 (d.g (gnfB b) Reg.GNF.SRATE)
  let f := (carrierHz sig sv - d.g (gnfB b) Reg.GNF.CENTRE) * 2 ^ 24 / hz
  (List.range 8).foldl (fun (s : Int) k =>
    match d.notchAt b k with
    | some n => s + Config.notchDelay (f - n) (d.g (gnfN b k) Reg.GNF.NCFG_WIDTH) hz sig
    | none => s) 0

/-- One channel latched (R239 to R241): the code measurement less the notches' group delay and, with MP_CORR, less the fitted bias,
within the primary code; the carrier phase since the last entry to TRACK_PLL; and Doppler, the carrier NCO's frequency brought back
to RF less the carrier (R223). [DEDUCED log 259] -/
def Dev.latchChan (d : Dev) (lseq c : Nat) : Dev :=
  let b := gntC c
  let st := d.chan c
  let s := d.chState c
  let sig := d.g b Reg.GNT.CCFG_SIG
  let sv := d.g b Reg.GNT.CCFG_SV
  let valid := s == 2 || s == 3
  let app := st.pathOk && d.gb b Reg.GNT.CLOOP_MP_CORR
  let flags := lseq + bitOf valid * 2 ^ 8 + bitOf (s == 2) * 2 ^ 9 + bitOf st.slip * 2 ^ 10 +
    bitOf (match st.nco with | some m => m.half | none => false) * 2 ^ 11 + bitOf st.coast * 2 ^ 12 + bitOf st.notch * 2 ^ 13 +
    bitOf st.drop * 2 ^ 14 + bitOf st.pathOk * 2 ^ 15 + bitOf app * 2 ^ 16
  let d1 := d.setw (b + 0x28) flags
  let path := st.path.getD (0, 0)
  let d2 := d1.setw (b + 0x2C) (path.1 + path.2 * 2 ^ 16)
  let d3 := match st.nco with
    | none => d2
    | some m =>
      let bias := (if app then Config.multipathBias path.1 path.2 else 0) + d.notchDelays (d.chBand c) sig sv
      let len : Int := match sigTable[sig]? with | some r => (r.chips * 2 ^ 32 : Nat) | none => 2 ^ 56
      let code := (m.code : Int) - bias
      let epoch := ((m.epoch : Int) + code / len) % 256
      let carr := unsignedOf 48 (m.carr - st.carr0)
      let dop := m.rate + d.bandRf (d.chBand c) - 1000 * carrierHz sig sv
      ((((((d2.setw (b + 0x10) ((code % len).toNat % 2 ^ 32)).setw (b + 0x14)
        ((code % len).toNat / 2 ^ 32 + epoch.toNat * 2 ^ 24)).setw
        (b + 0x18) (carr % 2 ^ 32)).setw (b + 0x1C) (carr / 2 ^ 32)).setw (b + 0x20) (unsignedOf 32 dop)).setw (b + 0x24)
        (m.cn0 % 2 ^ 16 + min 0xFFFF ((d.now - st.slipAt) / ticks100ms) * 2 ^ 16))
  (d3.setChan c { st with slip := false, coast := false, notch := false, drop := false }).chBoundary c

/-- The latch of every channel and of TB0 at tL (R240): the instant of the timed action `ns`, of the half that runs the
baseband. -/
def measurementLatch (h : Half) (ns : Nat) (ms : List ChanMeas) (d : Dev) : Dev :=
  if !(d.gnssOn) || h != d.lead then d
  else
    let d1 := d.ncoTaken ns ms
    let d2 := (d1.inc gnfPg Reg.GNF.MLSTAT_LSEQ).pb gnfPg Reg.GNF.MLSTAT_HALF (h == .weft)
    let d3 := (d2.p2 gnfPg Reg.GNF.MLT_SEC_LO Reg.GNF.MLT_SEC_HI (ns / 10 ^ 9)).p gnfPg Reg.GNF.MLT_NSEC (ns % 10 ^ 9)
    d3.each 256 fun c e => e.latchChan (d3.g gnfPg Reg.GNF.MLSTAT_LSEQ) c

end Sys2Proof.Machine
end

