-- ==== Sys2Proof/Machine/Solution.lean ====
section
/-! DEFINITION. The GNSS time solution: type, offset and position (R249 to R256), integrity (R259, R260), week and date
(R261, R262), leaps from broadcast parameters (R78, R519), and snapshot mode (R263 to R266). -/

namespace Sys2Proof.Machine

/-- MODE of SCFG (R252): 0 OFF, 1 SURVEY, 2 HOLD, 3 NAV. -/
def Dev.solMode (d : Dev) : Nat := d.g gnsPg Reg.GNS.SCFG_MODE

/-- MIN_SV with its limit (R267). -/
def Dev.minSv (d : Dev) : Nat := max 4 (d.g gnsPg Reg.GNS.SCFG_MIN_SV)

/-- The coordinates in the position registers in mm: staged until POS_Z_HI is written (R267). -/
def Dev.posWords (d : Dev) : Pos :=
  let c := fun a => signedOf 48 (d.w (gnsPg + 0x108 + 8 * a) + 2 ^ 32 * (d.w (gnsPg + 0x10C + 8 * a) % 2 ^ 16))
  ⟨c 0, c 1, c 2⟩

/-- POS in mm: the position that applies (R252, R253). -/
def Dev.pos (d : Dev) : Pos := d.sol.pos

/-- The position registers hold a position, and it applies. -/
def Dev.putPos (d : Dev) (p : Pos) : Dev :=
  let put := fun (e : Dev) a (v : Int) =>
    (e.setw (gnsPg + 0x108 + 8 * a) (unsignedOf 48 v % 2 ^ 32)).setw (gnsPg + 0x10C + 8 * a) (unsignedOf 48 v / 2 ^ 32)
  let d1 := put (put (put d 0 p.x) 1 p.y) 2 p.z
  { d1 with sol := { d1.sol with pos := p } }

/-- The squared distance of two positions in mm². -/
def distSq (a b : Pos) : Nat := ((a.x - b.x) ^ 2 + (a.y - b.y) ^ 2 + (a.z - b.z) ^ 2).toNat

/-- The GPS week of a TAI count second (R261). -/
def weekOf (sec : Nat) : Nat := (sec - 315964819) / 604800

/-- The seconds after which the count of a navigation message repeats (R261): weeks, or for GLONASS four-year intervals. -/
def navPeriod : NavMsg → Nat
  | .lnav => 1024 * 604800
  | .galileo => 4096 * 604800
  | .cnav => 8192 * 604800
  | .beidou => 8192 * 604800
  | .glonass => 32 * 1461 * 86400

/-- The first candidate of a date count that is not before a second. -/
def navFirst (k : NavMsg) (at_ lo : Nat) : Nat := lo + (at_ % navPeriod k + navPeriod k - lo % navPeriod k) % navPeriod k

/-- The candidate whose week is nearest to a week, the earlier of equals. [DEDUCED log 119] -/
def navNearest (k : NavMsg) (at_ week : Nat) : Nat :=
  let up := navFirst k at_ (604800 * week + 315964819)
  if up < navPeriod k then up
  else
    let low := up - navPeriod k
    if (week : Int) - weekOf low ≤ (weekOf up : Int) - week then low else up

/-- The date that firmware chooses among the candidates, as a TAI second (R261): nearest HINT; else within 512 weeks of a TB0 seeded
from Kettle with a finite bound; else the first not before the date floor. [DEDUCED log 119] -/
def Dev.chosenDate (d : Dev) (floor : Nat) (k : NavMsg) (at_ : Nat) : Nat :=
  let now := d.sec d.lead 0
  let near := navNearest k at_ (weekOf now)
  if d.gb gnsPg Reg.GNS.WKCFG_HINT_VALID then navNearest k at_ (d.g gnsPg Reg.GNS.WKCFG_HINT)
  else if d.sol.finite && decide (d.published d.lead 0 < unbounded) &&
      decide (((weekOf near : Int) - weekOf now).natAbs ≤ 512) then near
  else navFirst k at_ (604800 * floor + 315964819)

/-- The dates that the navigation data of a second resolve to. -/
def Dev.solDates (d : Dev) (floor : Nat) (i : SolIn) : List Nat := i.nav.map fun x => d.chosenDate floor x.1 x.2

/-- Two constellations' dates lie more than 1 s apart, or a week precedes the date floor (R262). -/
def Dev.weekConflict (d : Dev) (floor : Nat) (i : SolIn) : Bool :=
  let l := d.solDates floor i
  let hi := l.foldl max 0
  decide (l.foldl min hi + 1 < hi) || l.any fun t => decide (weekOf t < floor)

/-! ### The measurements that enter (R249 to R251, R259) -/

/-- The bit of R214 of the constellation to which a satellite's signal belongs (R225). -/
def constOf (sig sv : Nat) : Nat :=
  match sig with
  | 4 => 1
  | 5 => 1
  | 6 => 1
  | 7 => 2
  | 8 => 2
  | 9 => 2
  | 10 => 3
  | 11 => 3
  | 12 => 5
  | _ => if 193 ≤ sv then 4 else 0

/-- The constellation and number of a channel's satellite. -/
def Dev.satOf (d : Dev) (c : Nat) : Nat × Nat :=
  let sv := d.g (gntC c) Reg.GNT.CCFG_SV
  (constOf (d.g (gntC c) Reg.GNT.CCFG_SIG) sv, sv)

/-- The satellites of some channels, each once. -/
def Dev.satsOf (d : Dev) (l : List Nat) : List (Nat × Nat) := (l.map d.satOf).eraseDups

/-- A channel's measurement may enter the solution (R249, R244): latched VALID at this latch, firmware's own, and of a constellation
enabled in SCFG.CONST. -/
def Dev.enters (d : Dev) (c : Nat) : Bool :=
  let f := d.w (gntC c + 0x28)
  bitAt f 8 && f % 256 == d.g gnfPg Reg.GNF.MLSTAT_LSEQ && !(d.gb (gntC c) Reg.GNT.CCFG_OWNER)
    && bitAt (d.g gnsPg Reg.GNS.SCFG_CONST) (d.satOf c).1

/-- The channels that a solution starts from (R249, R259): a band with JAM_WARN is dropped whenever MIN_SV satellites remain without
it. -/
def Dev.solChans (d : Dev) (i : SolIn) : List Nat :=
  let all := (List.range 256).filter fun c => i.usable.contains c && d.enters c
  (List.range 4).foldl (fun l b =>
    let rest := l.filter fun c => d.chBand c != b
    if d.gb (gnfB b) Reg.GNF.BSTAT_JAM_WARN && decide (d.minSv ≤ (d.satsOf rest).length) then rest else l) all

/-- The channels of satellites measured on two bands at least. -/
def Dev.dualChans (d : Dev) (l : List Nat) : List Nat :=
  l.filter fun c => l.any fun x => d.satOf x == d.satOf c && d.chBand x != d.chBand c

/-- TYPE as the measurements allow it, with the channels it uses (R250): DUAL where MIN_SV satellites are measured on two bands each.
[DEDUCED log 261] -/
def Dev.solKind (d : Dev) (l : List Nat) : Nat × List Nat :=
  if d.minSv ≤ (d.satsOf (d.dualChans l)).length then (2, d.dualChans l)
  else if d.minSv ≤ (d.satsOf l).length then (1, l) else (0, l)

/-- The constellation of SCFG.TSYS (R251). -/
def tsysConst (t : Nat) : Nat := t % 4

/-- The unknowns of a solution (R250): time, the position unless it is held, and one for each enabled constellation but TSYS. -/
def Dev.unknowns (d : Dev) : Nat :=
  let c := d.g gnsPg Reg.GNS.SCFG_CONST
  let others := (List.range 6).countP fun k => bitAt c k && k != tsysConst (d.g gnsPg Reg.GNS.SCFG_TSYS)
  (if d.solMode = 2 then 1 else 4) + others

/-- A check is enabled, in ICFG.EN order (R259). -/
def Dev.checks (d : Dev) (k : Nat) : Bool := d.enabled gnsPg && bitAt (d.g gnsPg Reg.GNS.ICFG_EN) k

/-- The fit of a set of channels. -/
def fitOf (i : SolIn) (l : List Nat) : Option SolFit := i.fits.find? fun f => f.chans == l

/-- The channel with the largest residual quotient. -/
def fitWorst (f : SolFit) : Option (Nat × Nat) := strongest f.quot

/-- RAIM's exclusions (R259): the satellite of the largest quotient above the limit is excluded and the solution computed again, `k`
times at most. -/
def Dev.raimKept (d : Dev) (i : SolIn) : Nat → List Nat → List Nat
  | 0, l => l
  | k + 1, l =>
    match (fitOf i l).bind fitWorst with
    | some x =>
      if max 1 (d.g gnsPg Reg.GNS.ITOL1_RAIM_K) < x.2 then d.raimKept i k (l.filter fun c => d.satOf c != d.satOf x.1) else l
    | none => l

/-- ISC's exclusions (R259): with three constellations or more, those farther than ISC_TOL from the median offset. -/
def Dev.iscOut (d : Dev) (f : SolFit) : List Nat :=
  let m := median (f.offsets.map (·.2))
  if f.offsets.length < 3 then []
  else (f.offsets.filter fun o => decide (1000 * d.g gnsPg Reg.GNS.ITOL0_ISC_TOL < (o.2 - m).natAbs)).map (·.1)

/-- What a solution comes to (R249 to R262): its type; the channels it uses; its fit; the channels after RAIM's exclusions; and the
satellites excluded. -/
structure Sol where
  type   : Nat
  chans  : List Nat
  fit    : Option SolFit
  raim   : List Nat
  excl   : Nat
deriving DecidableEq, Repr

/-- The solution of a second (R250, R259, R262): RAIM and ISC, where they are enabled, exclude satellites; with fewer than MIN_SV left,
with no fit or in a week conflict it is NONE. [DEDUCED log 261] -/
def Dev.solution (d : Dev) (floor : Nat) (i : SolIn) : Sol :=
  let kind := d.solKind (d.solChans i)
  let raim := if d.checks 0 then d.raimKept i 2 kind.2 else kind.2
  let out := match fitOf i raim with | some f => if d.checks 3 then d.iscOut f else [] | none => []
  let used := raim.filter fun c => !(out.contains (d.satOf c).1)
  let few := decide ((d.satsOf used).length < d.minSv)
  { type := if few || (fitOf i used).isNone || d.weekConflict floor i then 0 else kind.1
    chans := used, fit := fitOf i used, raim := raim
    excl := (d.satsOf kind.2).length - (d.satsOf used).length }

/-- The sum of weights in millionths times signed delays at consecutive registers, in ps (R255). -/
def Dev.delaySum (d : Dev) (base : Nat) (w : List Int) : Int :=
  (((List.range w.length).zip w).foldl (fun (s : Int) e => s + e.2 * signedOf 32 (d.w (base + 4 * e.1))) 0).tdiv (10 ^ 6)

/-- tL of the latch, the second boundary that a solution stands for, in ps of TB0 (R240, R249). -/
def Dev.latchPs (d : Dev) : Int :=
  (d.g2 gnfPg Reg.GNF.MLT_SEC_LO Reg.GNF.MLT_SEC_HI * 10 ^ 12 + d.g gnfPg Reg.GNF.MLT_NSEC * 1000 : Nat)

/-- What the scale of system TSYS lacks to TAI in seconds at a count second (R251). -/
def Dev.toTai (d : Dev) (sec : Nat) : Int :=
  match d.g gnsPg Reg.GNS.SCFG_TSYS with
  | 0 => 19
  | 1 => 19
  | 2 => 33
  | _ => (d.leapActive d.lead).ofsAt sec - 10800

/-- OFS of a solution in ps (R251, R255): TB0 at tL less the time of TSYS as TAI, less the declared delays. -/
def Dev.solOfs (d : Dev) (f : SolFit) : Int :=
  let sec := d.g2 gnfPg Reg.GNF.MLT_SEC_LO Reg.GNF.MLT_SEC_HI
  d.latchPs - (f.time + d.toTai sec * 10 ^ 12) - d.delaySum (gnsPg + 0x128) (f.bandW.take 4)
    - d.delaySum (gnsPg + 0x140) (f.sigW.take 13)

/-- NBUDGET of C12 (R256). `unc` is the position uncertainty in mm. -/
def Dev.solBudget (d : Dev) (type sigma unc : Nat) : Nat :=
  let cal := d.g gnsPg Reg.GNS.CALUNC
  if type = 0 ∨ cal = unbounded ∨ unc = unbounded then unbounded
  else min unbounded (6 * max sigma (if type = 2 then 500 else 1500) + cal + ceilDiv (unc * 3336) 1000)

/-! ### Integrity checks, in ICFG.EN order (R259): true means that the check fails -/

/-- RAIM: a quotient still exceeds the limit after the exclusions, or too few satellites remain. -/
def Dev.raimFails (d : Dev) (i : SolIn) (s : Sol) : Bool :=
  (match (fitOf i s.raim).bind fitWorst with
   | some x => decide (max 1 (d.g gnsPg Reg.GNS.ITOL1_RAIM_K) < x.2)
   | none => false) || decide ((d.satsOf s.raim).length < d.unknowns + 2)

/-- MODEL is evaluated: C13 QUALIFIED and the model at OFFSET or FULL. -/
def Dev.modelEvaluated (d : Dev) : Bool :=
  d.cstate d.lead 13 == 3 && d.g (hldPg d.lead) Reg.HLD.HSTAT_MODEL != 0

/-- MODEL: over up to 600 solutions the atomic oscillator's frequency against system time differs from y_pred (R164).
[DEDUCED log 113] -/
def Dev.modelFails (d : Dev) (hist : List (Int × Int)) : Bool :=
  match hist, hist.getLast? with
  | x :: _, some z =>
    let n : Int := hist.length - 1
    if n ≤ 0 then false
    else
      let f := (((x.1 - z.1) - (x.2 - z.2)) * 1000).tdiv n
      decide (d.g gnsPg Reg.GNS.ITOL0_MODEL_FTOL + 3 * d.g (hldPg d.lead) Reg.HLD.SIG_Y < (f - d.yPred d.lead).natAbs)
  | _, _ => false

/-- C/N0 of a channel as latched, in 0.01 dB-Hz. -/
def Dev.cn0Of (d : Dev) (c : Nat) : Nat := d.g (gntC c) Reg.GNT.M_CN0_CN0

/-- The standard deviation of the C/N0 of some channels lies below CN0_MIN (R259). [DESIGN CHOICE log 262] -/
def Dev.cn0Thin (d : Dev) (l : List Nat) : Bool :=
  let sum := l.foldl (fun s c => s + d.cn0Of c) 0
  let sq := l.foldl (fun s c => s + d.cn0Of c ^ 2) 0
  decide (l.length * sq < (l.length * (10 * d.g gnsPg Reg.GNS.ITOL1_CN0_MIN)) ^ 2 + sum ^ 2)

/-- The sum and number of the C/N0 of each band's channels, of those given. -/
def Dev.bandCn0 (d : Dev) (l : List Nat) : List (Nat × Nat) :=
  (List.range 4).map fun b =>
    let m := l.filter fun c => d.chBand c == b
    (m.foldl (fun s c => s + d.cn0Of c) 0, m.length)

/-- The mean C/N0 of a band's channels has risen by 3 dB or more over the last 60 s (R259). [DESIGN CHOICE log 262] -/
def cn0Risen (hist : List (List (Nat × Nat))) (b : Nat) : Bool :=
  match hist[0]?, hist[60]? with
  | some x, some y =>
    let now := x[b]?.getD (0, 0)
    let old := y[b]?.getD (0, 0)
    now.2 != 0 && old.2 != 0 && decide (old.1 * now.2 + 300 * now.2 * old.2 ≤ now.1 * old.2)
  | _, _ => false

/-- CN0: ten seconds of too small a spread, or a rise on a jammed band in use. -/
def Dev.cn0Fails (d : Dev) (s : Sol) (thin : Nat) (cn0 : List (List (Nat × Nat))) : Bool :=
  decide (10 ≤ thin) ||
    (List.range 4).any fun b =>
      (s.chans.any fun c => d.chBand c == b) && cn0Risen cn0 b &&
        decide ((25 * d.g (gnfB b) Reg.GNF.JAM_JTHR : Nat) ≤ signedOf 16 (d.g (gnfB b) Reg.GNF.JLVL_JN))

/-- ISC: exactly two constellations remain after the exclusions and differ. -/
def Dev.iscFails (d : Dev) (i : SolIn) (s : Sol) : Bool :=
  match fitOf i s.raim with
  | none => false
  | some f =>
    match (f.offsets.filter fun o => !((d.iscOut f).contains o.1)).map (·.2) with
    | [a, b] => decide (1000 * d.g gnsPg Reg.GNS.ITOL0_ISC_TOL < (a - b).natAbs)
    | _ => false

/-- The failing checks of those enabled as a mask, in ICFG.EN order (R259). -/
def Dev.checkMask (d : Dev) (floor : Nat) (i : SolIn) (s : Sol) (n : SolSt) : Nat :=
  let fails := fun k b => if d.checks k && b then 2 ^ k else 0
  fails 0 (d.raimFails i s) + fails 1 (d.modelEvaluated && decide (60 ≤ n.hist.length) && d.modelFails n.hist) +
    fails 2 (d.cn0Fails s n.thin n.cn0) + fails 3 (d.iscFails i s) + fails 4 (decide (60 ≤ n.far)) +
    fails 5 (d.weekConflict floor i) + fails 6 n.snapBad

/-! ### Position (R252 to R254) -/

/-- A survey begins (R267). -/
def surveyStarted (d : Dev) : Dev :=
  { d with sol := { d.sol with survAt := d.now, sum := ⟨0, 0, 0⟩, n := 0, sig := 0, svOk := true } }

/-- The average of a survey. -/
def SolSt.average (s : SolSt) : Pos :=
  if s.n = 0 then s.sum else ⟨s.sum.x.tdiv s.n, s.sum.y.tdiv s.n, s.sum.z.tdiv s.n⟩

/-- A survey ends (R253): its conditions hold after MIN minutes, or 4 × MIN minutes have passed. -/
def Dev.surveyEnds (d : Dev) : Bool :=
  let min_ := max 1 (d.g gnsPg Reg.GNS.SURVEY_MIN)
  let t := (d.now - d.sol.survAt) / ticks1s
  d.solMode == 1 && d.sol.n != 0 &&
    ((decide (60 * min_ ≤ t) && d.sol.svOk && decide (d.sol.sig ≤ d.g gnsPg Reg.GNS.SURVEY_ACC)) || decide (240 * min_ ≤ t))

/-- The end of a survey: POS, POSUNC and MODE, with SURVEY_DONE. -/
def surveyEnded (d : Dev) : Dev :=
  (((d.putPos d.sol.average).p gnsPg Reg.GNS.POSUNC (3 * d.sol.sig + 50)).p gnsPg Reg.GNS.SCFG_MODE 2).raise gnsPg 0

/-- SCFG written (R252, R267): a write of SURVEY restarts the survey. -/
def scfgWritten (v : Nat) (d : Dev) : Dev :=
  let a := gnsPg + 0x100
  let d1 := d.setw a (mergeWrite a (d.w a) v)
  if v % 4 = 1 then surveyStarted d1 else d1

/-- POS_Z_HI written (R253): all three coordinates apply, MODE becomes HOLD and any survey ends. -/
def positionWritten (v : Nat) (d : Dev) : Dev :=
  let was := d.solMode == 1
  let d1 := ((d.setw (gnsPg + 0x11C) (v % 2 ^ 16)).p gnsPg Reg.GNS.SCFG_MODE 2)
  ({ d1 with sol := { d1.sol with pos := d1.posWords, far := 0 } }).raiseIf was gnsPg 0

/-- ICFG written (R267): a change of HOLD restarts the count of clean solutions. -/
def icfgWritten (v : Nat) (d : Dev) : Dev :=
  let a := gnsPg + 0x180
  let d1 := d.setw a (mergeWrite a (d.w a) v)
  if d1.g gnsPg Reg.GNS.ICFG_HOLD = d.g gnsPg Reg.GNS.ICFG_HOLD then d1 else d1.p gnsPg Reg.GNS.ISTAT_CLEAN 0

/-- ITOL1 written (R267): a change of POS_TOL restarts the count of R254. -/
def itolWritten (v : Nat) (d : Dev) : Dev :=
  let a := gnsPg + 0x188
  let d1 := d.setw a (mergeWrite a (d.w a) v)
  if d1.g gnsPg Reg.GNS.ITOL1_POS_TOL = d.g gnsPg Reg.GNS.ITOL1_POS_TOL then d1
  else { d1 with sol := { d1.sol with far := 0 } }

/-! ### Leaps from broadcast parameters (R78, R519) -/

/-- The place of the next staged entry: after the last valid one. [DESIGN CHOICE log 270] -/
def Dev.leapFree (d : Dev) : Option Nat :=
  (List.range 8).find? fun m =>
    (List.range 8).all fun j => j < m || !(bitAt (d.w (leapPg .warp + 0x318 + 0x10 * j)) 31)

/-- Firmware stages and commits what the parameters announce (R78), folding first while the table is full (R519).
[DESIGN CHOICE log 270] -/
def leapFromUtc (u : UtcParam) (d : Dev) : Dev :=
  let p := leapPg .warp
  let st := d.leapStaged
  if !(d.gb p Reg.TSU.LEAP_CTRL_GNSS_AUTO) || d.gb p Reg.TSU.LEAP_STAT_COMMIT_PEND || d.sched.fold.isSome then d
  else
    let base := st.ents.isEmpty && st.base != u.now
    let d0 := if base then d.setw (p + 0x304) (unsignedOf 16 u.now) else d
    let new := u.ofs != u.now && !(st.ents.any fun e => e.1 == u.eff)
    if !new then (if base then leapCommitAsked d0 else d)
    else if st.ents.length = 8 then
      (if (d.leapActive d.lead).canFold d.schedSec then
        { d with sched := { d.sched with fold := some { box := 255, id := 0, sec := d.schedSec } } }
       else
        ((d.p p Reg.TSU.LEAP_STAT_REFUSE 5).p (leapPg .weft) Reg.TSU.LEAP_STAT_REFUSE 5) |> fun e =>
          e.halvesInService.foldl (fun x h => x.raise (leapPg h) 7) e)
    else
      match d0.leapFree with
      | none => d
      | some m =>
        let a := p + 0x310 + 0x10 * m
        leapCommitAsked (((d0.setw a (u.eff % 2 ^ 32)).setw (a + 4) (u.eff / 2 ^ 32 % 2 ^ 16)).setw (a + 8)
          (unsignedOf 16 u.ofs + 2 ^ 31))

/-! ### The solution (R249 to R260) -/

/-- The verdict of a solution that is not NONE, with the events of R260 and the quality of C12: it fails at the first solution with a
failing check, and passes after HOLD clean ones. [DEDUCED log 263] -/
def Dev.integrity (d : Dev) (type fails : Nat) (pending : Bool) : Dev :=
  let pass := d.gb gnsPg Reg.GNS.ISTAT_PASS
  let clean := if fails = 0 && !pending then min 255 (d.g gnsPg Reg.GNS.ISTAT_CLEAN + 1) else 0
  let hold := max 1 (d.g gnsPg Reg.GNS.ICFG_HOLD)
  let d1 := d.p gnsPg Reg.GNS.ISTAT_CLEAN clean
  let both := fun (f : Half → Dev → Dev) (e : Dev) => f .weft (f .warp e)
  if fails ≠ 0 then
    let d2 := ({ d1 with sol := { d1.sol with failed := true } }.pb gnsPg Reg.GNS.ISTAT_PASS false).raiseIf (!d.sol.failed) gnsPg 1
    both (fun h e => (nativeQr h 12 15 e).putFault h 12 faultINTEG true) d2
  else if pass || decide (hold ≤ clean) then
    let d2 := ({ d1 with sol := { d1.sol with failed := false } }.pb gnsPg Reg.GNS.ISTAT_PASS true).raiseIf (!pass) gnsPg 2
    both (fun h e => (nativeQr h 12 (if type = 2 then 1 else 2) e).putFault h 12 faultINTEG false) d2
  else d1

/-- The constellations of some channels as a mask (R214). -/
def Dev.constMask (d : Dev) (l : List Nat) : Nat :=
  (List.range 6).foldl (fun m k => if l.any fun c => (d.satOf c).1 == k then m + 2 ^ k else m) 0

/-- SOL_INFO to WEEK of a solution (R267). -/
def Dev.solReport (d : Dev) (floor : Nat) (i : SolIn) (s : Sol) : Dev :=
  let p := gnsPg
  let d1 := (((d.p p Reg.GNS.SOL_INFO_LSEQ (d.g gnfPg Reg.GNF.MLSTAT_LSEQ)).p p Reg.GNS.SOL_INFO_TYPE s.type).p p
    Reg.GNS.SOL_INFO_NSV (d.satsOf s.chans).length).p p Reg.GNS.SOL_INFO_CONST (d.constMask s.chans)
  let d2 := (d1.pb p Reg.GNS.SOL_INFO_SURVEYING (d.solMode == 1)).p p Reg.GNS.ISTAT_EXCL s.excl
  let d3 := match (d.solDates floor i).head? with | some t => d2.p p Reg.GNS.WEEK (weekOf t) | none => d2
  match s.fit with
  | some f =>
    if s.type = 0 then d3
    else ((d3.ps48 p Reg.GNS.OFS_LO Reg.GNS.OFS_HI (d.solOfs f)).p p Reg.GNS.SIGMA f.sigma).p p Reg.GNS.TDOP f.tdop
  | none => d3

/-- The time of a solution given to C12 in both halves (R251, R256): the half that ran the baseband takes OFS, the other OFS
plus its own s_0. -/
def Dev.solToC12 (d : Dev) (s : Sol) : Dev :=
  let l := d.lead
  let f := if s.type = 0 then none else s.fit
  let unc := if d.solMode = 2 then d.g gnsPg Reg.GNS.POSUNC else match f with | some x => 3 * x.posSig | none => unbounded
  let nb := d.solBudget s.type (match f with | some x => x.sigma | none => 0) unc
  [l, l.other].foldl (fun e h =>
    let e1 := (e.p (refQ h 12) Reg.REF.NBUDGET nb)
    match f with
    | none => e1
    | some x =>
      let ofs := d.solOfs x + (if h = l then 0 else d.skewOf h 0)
      let e2 := e1.putFault h 12 faultMSG false
      if e2.en (refPg h 12) (refQ h 12) Reg.REF.CTRL_EN then candMeasured h 12 ofs e2 else e2) d

/-- What a solution leaves beyond the registers (R253, R254, R259): the survey's sum, the seconds far from POS, the histories of the
checks and the second it stands for. -/
def Dev.solKept (d : Dev) (i : SolIn) (s : Sol) : SolSt :=
  let f := if s.type = 0 then none else s.fit
  let tol := d.g gnsPg Reg.GNS.ITOL1_POS_TOL
  let base := { d.sol with
    far := match f with
      | some x => if d.solMode = 2 ∧ tol * tol < distSq x.pos d.pos then min 60 (d.sol.far + 1) else 0
      | none => if d.solMode = 2 then d.sol.far else 0
    thin := if decide (6 ≤ (d.satsOf s.chans).length) && d.cn0Thin s.chans then min 10 (d.sol.thin + 1) else 0
    cn0 := (d.bandCn0 s.chans :: d.sol.cn0).take 61
    hist := match f with | some x => ((d.solOfs x, d.phase d.lead 13) :: d.sol.hist).take 600 | none => []
    svOk := d.sol.svOk && decide (d.minSv ≤ (d.satsOf s.chans).length)
    lastAt := match f with | some _ => some (d.count d.lead 0) | none => d.sol.lastAt
    doneSec := some (d.g2 gnfPg Reg.GNF.MLT_SEC_LO Reg.GNF.MLT_SEC_HI) }
  match f with
  | some x =>
    if d.solMode = 1 then
      { base with
        sum := ⟨d.sol.sum.x + x.pos.x, d.sol.sum.y + x.pos.y, d.sol.sum.z + x.pos.z⟩
        n := d.sol.n + 1, sig := i.survSig }
    else base
  | none => base

/-- A solution is due (R249): the baseband works, MODE is not OFF, and the last latch stands at a second boundary that has none
yet. -/
def Dev.solDue (d : Dev) : Bool :=
  d.gnssOn && d.solMode != 0 && d.g gnfPg Reg.GNF.MLT_NSEC == 0
    && d.sol.doneSec != some (d.g2 gnfPg Reg.GNF.MLT_SEC_LO Reg.GNF.MLT_SEC_HI)

/-- GNSS_SOLUTION (R249 to R262): the solution of the second. A NONE leaves the verdict as it is and restarts the count toward HOLD
(R260). `floor` is the journal's date floor. -/
def solved (floor : Nat) (i : SolIn) (d : Dev) : Dev :=
  if !(d.solDue) then d
  else
    let s := d.solution floor i
    let wasType := d.g gnsPg Reg.GNS.SOL_INFO_TYPE
    let d1 := { d with sol := d.solKept i s }
    let d2 := (d1.solReport floor i s).raiseIf (s.type != wasType) gnsPg 3
    let d3 := (d2.raiseIf (d1.sol.far == 60 && d.sol.far != 60) gnsPg 4).raiseIf (d.weekConflict floor i && !d.sol.conflict) gnsPg 5
    let d4 := { d3 with sol := { d3.sol with conflict := d.weekConflict floor i } }.solToC12 s
    let mask := d4.checkMask floor i s d4.sol
    let d5 := d4.p gnsPg Reg.GNS.ISTAT_FAIL mask
    let d6 := if s.type = 0 then d5.p gnsPg Reg.GNS.ISTAT_CLEAN 0
      else d5.integrity s.type mask (d5.modelEvaluated && d5.checks 1 && decide (d5.sol.hist.length < 60))
    let d7 := if d6.surveyEnds then surveyEnded d6 else d6
    match i.utc with
    | some u => leapFromUtc u d7
    | none => d7

/-- C12 has had no solution for 3 s (R131): fault MSG. [DEDUCED log 117] -/
def solTimeout (d : Dev) : Dev :=
  let late := match d.sol.lastAt with
    | some t => decide (t + 3 * secUnit ≤ d.count d.lead 0)
    | none => decide (d.start.t0 + 3 * ticks1s ≤ d.now)
  if late then (d.putFault .warp 12 faultMSG true).putFault .weft 12 faultMSG true else d

/-! ### Snapshot mode (R263 to R266) -/

/-- The bytes that `n` samples of a band take. -/
def Dev.snapBytes (d : Dev) (b n : Nat) : Nat :=
  match d.g (gnfB b) Reg.GNF.BCFG_FMT with
  | 1 => n
  | 2 => n
  | _ => (n + 1) / 2

/-- The region starts of the bands of a capture of `ms` milliseconds, with the end of the last (R264). -/
def Dev.snapLayout (d : Dev) (bands ms : Nat) : List (Nat × Nat) × Nat :=
  (List.range 4).foldl (fun (acc : List (Nat × Nat) × Nat) b =>
    if bitAt bands b then
      let start := ceilDiv acc.2 256 * 256
      (acc.1 ++ [(b, start)], start + d.snapBytes b (d.g (gnfB b) Reg.GNF.SRATE * ms / 1000))
    else acc) ([], 0)

/-- The captured length L: the largest that fits (R264). -/
def Dev.snapLength (d : Dev) (bands want : Nat) : Nat :=
  ((List.range (want + 1)).filter fun m => (d.snapLayout bands m).2 ≤ 4194304).foldl max 0

/-- The instant of the first sample at or after a trigger, both in 2^-32 ns of the TB0 that runs the baseband (R221, R263): the samples
lie on the line of the last two stamps of CP(20 + b) by their edge counts. None where there are no two stamps.
[DESIGN CHOICE log 264] -/
def Dev.firstSample (d : Dev) (b trig : Nat) : Option Nat :=
  (d.bandStamps b).map fun x =>
    let k : Int := -((-(((trig : Int) - x.2.1) * x.2.2.1)) / ((x.2.1 - x.1 : Nat) : Int))
    ((x.2.1 : Int) + k * (x.2.1 - x.1 : Nat) / x.2.2.1).toNat

/-- A refused trigger (R265). -/
def Dev.snapRefused (d : Dev) (r : Nat) : Dev := (d.p gnsPg Reg.GNS.SNSTAT_REFUSE r).raise gnsPg 7

/-- A trigger at a count of `trig` in 2^-32 ns for a length in ms (R263 to R265). The instant of the first sample of a band without
stamps is a free value. [DESIGN CHOICE log 264] -/
def snapStarted (len trig : Nat) (d : Dev) : Dev :=
  let p := gnsPg
  let bands := ((List.range 4).filter fun b => bitAt (d.g p Reg.GNS.SNCFG_BANDS) b && d.bandOn b).foldl (fun m b => m + 2 ^ b) 0
  let want := clampNat 2 20 len
  let l := d.snapLength bands want
  if d.g p Reg.GNS.SNSTAT_STATE != 0 then d.snapRefused 1
  else if !(d.gnssOn) then d.snapRefused 4
  else if bands = 0 then d.snapRefused 2
  else if l < 2 then d.snapRefused 3
  else
    let d1 := ((((d.p p Reg.GNS.SNSTAT_STATE 1).p p Reg.GNS.SNSTAT_MS l).inc p Reg.GNS.SNSTAT_SEQ).p p Reg.GNS.SNSTAT_TRUNC
      (if l < want then bands else 0)).p p Reg.GNS.SNSTAT_DROP 0
    let d2 := (d.snapLayout bands l).1.foldl (fun e x =>
      let s := p + 0x210 + 0x20 * x.1
      let free := e.freeNat 80 0
      let t := (d.firstSample x.1 trig).getD (free % 2 ^ 48 * secFrac + free / 2 ^ 48 % 10 ^ 9 * 2 ^ 32)
      (((((if (d.firstSample x.1 trig).isNone then e.drawn 1 else e)).p2 s Reg.GNS.SN_T_SEC_LO Reg.GNS.SN_T_SEC_HI (t / secFrac)).p s Reg.GNS.SN_T_NSEC (t % secFrac / 2 ^ 32)).p s
        Reg.GNS.SN_INFO_START (x.2 / 256)).p s Reg.GNS.SN_INFO_FMT (d.g (gnfB x.1) Reg.GNF.BCFG_FMT)) d1
    let d3 := { d2 with snap := { bands := bands, stopped := 0, complete := false, box := d.snap.box } }
    (List.range 4).foldl (fun e b =>
      if bitAt bands b && !(e.gb (gnfB b) Reg.GNF.BSTAT_CLK_OK) then e.snapBandStop b false else e) d3

/-- Samples packed as R264 lays them out: nibbles for 2-bit formats, bytes for 4-bit ones. -/
def packSamples : Bool → List Byte → List Byte
  | _, [] => []
  | true, a :: b :: t =>
    let nib := fun (x : Byte) => x.toNat % 4 + 4 * (x.toNat / 16 % 4)
    BitVec.ofNat 8 (nib a + 16 * nib b) :: packSamples true t
  | true, [a] => [BitVec.ofNat 8 (a.toNat % 4 + 4 * (a.toNat / 16 % 4))]
  | false, a :: t => a :: packSamples false t

/-- Bytes stored from an address on. [DEDUCED log 223] -/
def putBytes (t : Tab Byte) (a : Nat) (l : List Byte) : Tab Byte :=
  ((List.range l.length).zip l).foldl (fun m e => tset 0 m (a + e.1) e.2) t

/-- A capture ends with the samples that each band took (R264, R265): stored from its region's start, no more than its
length. -/
def Dev.snapStored (d : Dev) (samples : List (List Byte)) : Dev :=
  let p := gnsPg
  let l := d.g p Reg.GNS.SNSTAT_MS
  let d1 := (d.snapLayout d.snap.bands l).1.foldl (fun (e : Dev) x =>
    let s := p + 0x210 + 0x20 * x.1
    let raw := ((samples[x.1]?).getD []).take (d.g (gnfB x.1) Reg.GNF.SRATE * l / 1000)
    let two := d.g s Reg.GNS.SN_INFO_FMT == 0 || d.g s Reg.GNS.SN_INFO_FMT == 3
    { (e.p s Reg.GNS.SN_NSAMP raw.length) with snapBuf := putBytes e.snapBuf x.2 (packSamples two raw) }) d
  ({ (d1.p p Reg.GNS.SNSTAT_STATE 0) with snap := { d1.snap with complete := true } }).raise p 6

/-- SNAP_CAPTURE_END (R264, R265). -/
def snapEnded (samples : List (List Byte)) (d : Dev) : Dev :=
  if d.g gnsPg Reg.GNS.SNSTAT_STATE = 1 then d.snapStored samples else d

/-- SNCTRL.ABORT (R265, R266): a capture ends at once, every band still running with TRUNC. A processing's command ends with
ABORTED; the mailbox records that. [DEDUCED log 116] -/
def snapAborted (samples : List (List Byte)) (d : Dev) : Dev :=
  match d.g gnsPg Reg.GNS.SNSTAT_STATE with
  | 1 => ((List.range 4).foldl (fun e b => e.snapBandStop b false) d).snapStored samples
  | 2 => d.p gnsPg Reg.GNS.SNSTAT_STATE 0
  | _ => d

/-- The live OFS interpolated to an instant in 2^-32 ns (R266), from the last two solutions.
[DESIGN CHOICE log 114] -/
def Dev.liveOfs (d : Dev) (t : Nat) : Option Int :=
  if d.g gnsPg Reg.GNS.SOL_INFO_TYPE = 0 then none
  else
    match d.sol.hist with
    | a :: b :: _ =>
      let tl : Nat := d.sol.doneSec.getD 0 * secFrac
      some (a.1 + ((a.1 - b.1) * ((t : Int) - tl)).tdiv secFrac)
    | [a] => some a.1
    | [] => none

/-- SNAP_PROCESS's result (R266): SNRES, and the check SNAP. [DESIGN CHOICE log 114] -/
def snapSolved (r : SnapSol) (d : Dev) : Dev :=
  let p := gnsPg
  let b := ((List.range 4).find? (bitAt d.snap.bands)).getD 0
  let s := p + 0x210 + 0x20 * b
  let t := (d.g2 s Reg.GNS.SN_T_SEC_LO Reg.GNS.SN_T_SEC_HI * 10 ^ 9 + d.g s Reg.GNS.SN_T_NSEC) * 2 ^ 32
  let live := d.liveOfs t
  let diff := r.ofs - live.getD 0
  let bad := r.valid && live.isSome && decide (1000 * d.g p Reg.GNS.SNTOL < diff.natAbs)
  let d1 := ((((d.ps48 p Reg.GNS.SNRES_LO Reg.GNS.SNRES_HI diff).p p Reg.GNS.SNRES_INFO_NSV r.nsv).pb p
    Reg.GNS.SNRES_INFO_VALID r.valid).pb p Reg.GNS.SNRES_INFO_LIVE live.isSome).p p Reg.GNS.SNRES_INFO_SIGMA r.sigma
  let d2 := (d1.p p Reg.GNS.SNSTAT_STATE 0).raiseIf bad p 8
  { d2 with sol := { d2.sol with snapBad := if bad then true else if r.valid && live.isSome then false else d.sol.snapBad } }

end Sys2Proof.Machine
end

