-- ==== Sys2Proof/Machine/Mailbox.lean ====
section
/-! DEFINITION. Firmware mailboxes (R62 to R67): GO, the commit instant of a command, its completion, the retained
outcomes, and what a half that goes down or is reset makes of a command. -/

namespace Sys2Proof.Machine

/-- The MBX page of a mailbox, 0 to 3 (R62). -/
def mbxPg (b : Nat) : Nat := pageAddr .mbx .warp b

/-- The half whose firmware a mailbox serves (R62). -/
def mbxHalf (b : Nat) : Half := Half.ofNum b

/-- A mailbox beyond its registers. -/
def Dev.mb (d : Dev) (b : Nat) : Mbx := tget {} d.mbx b

/-- The device with a mailbox replaced. -/
def Dev.setMb (d : Dev) (b : Nat) (v : Mbx) : Dev := { d with mbx := tset {} d.mbx b v }

/-- RSP.STATE. -/
def Dev.mbxState (d : Dev) (b : Nat) : Nat := d.g (mbxPg b) Reg.MBX.RSP_STATE

/-- Completion codes (R66). -/
def codeOK : Nat := 0
/-- BAD_OPCODE. -/
def codeBadOpcode : Nat := 1
/-- BAD_LEN. -/
def codeBadLen : Nat := 2
/-- BAD_ARG. -/
def codeBadArg : Nat := 3
/-- NOT_PERMITTED. -/
def codeNotPermitted : Nat := 4
/-- BUSY_RESOURCE. -/
def codeBusy : Nat := 5
/-- TIMEOUT. -/
def codeTimeout : Nat := 6
/-- HALF_DOWN. -/
def codeHalfDown : Nat := 7
/-- NOT_AVAILABLE. -/
def codeNotAvailable : Nat := 8
/-- ABORTED. -/
def codeAborted : Nat := 9
/-- FLASH_ERROR. -/
def codeFlashError : Nat := 10
/-- UNKNOWN_TAG. -/
def codeUnknownTag : Nat := 11

/-- QUERY_TAG, which is not retained (R64). -/
def opQueryTag : Nat := 1

/-- The opcodes issued (R67 and the chapters of their subsystems). -/
def issuedOpcodes : List Nat :=
  [0, 1, 2, 0x0110, 0x0140, 0x0160, 0x0210, 0x0300, 0x0400, 0x0402, 0x0403, 0x0601, 0x0602, 0x0603, 0x0610, 0x0611,
   0x0612, 0x0613, 0x0701]

/-- The response registers set: state, code, tag, and the response payload, beyond which RSPD reads 0 (R63). -/
def Dev.mbxPut (d : Dev) (b state code tag : Nat) (ws : List Word) : Dev :=
  let p := mbxPg b
  let d1 := (((d.p p Reg.MBX.RSP_STATE state).p p Reg.MBX.RSP_CODE code).p p Reg.MBX.RSP_TAG tag).p p Reg.MBX.RSP_RLEN
    (min 64 ws.length)
  d1.each 64 fun i e => e.setw (p + 0x300 + 4 * i) ((ws[i]?.getD 0).toNat)

/-- A completion: STATE becomes DONE and MBX_DONE is raised (R63). -/
def Dev.mbxComplete (d : Dev) (b code tag : Nat) (ws : List Word) : Dev :=
  (d.mbxPut b 2 code tag ws).raise (mbxPg b) 0

/-- An outcome retained: the newest of at most eight (R64). -/
def Mbx.retain (m : Mbx) (r : Retained) : Mbx := { m with retained := (r :: m.retained).take 8 }

/-- Whether a half's firmware can take a command (R65): out of safe state, with its control cores running. -/
def Dev.coresRun (d : Dev) (h : Half) : Bool :=
  !(d.hs h).safe && (d.hs h).powered && !(d.hs h).heldReset && (d.hs h).coresUp

/-- Firmware takes up a SNAP_PROCESS (R266): STATE reads PROCESSING while it runs. [DEDUCED log 115] -/
def Dev.snapTaken_ (d : Dev) (b : Nat) (c : FwCmd) : Dev :=
  if c.opcode = 0x0210 && c.len == 0 && d.gnssOn && d.snap.complete && d.g gnsPg Reg.GNS.SNSTAT_STATE == 0 then
    { d.p gnsPg Reg.GNS.SNSTAT_STATE 2 with snap := { d.snap with box := some (b, c.id) } }
  else d

/-- GO (R63, R65): ignored with MBX_COLLIDE while BUSY; completed at once with BAD_LEN, or with HALF_DOWN, as QUERY_TAG is while the half
restarts; else the command goes
to firmware. -/
def mbxGone (b : Nat) (d : Dev) : Dev :=
  let p := mbxPg b
  let m := d.mb b
  let op := d.g p Reg.MBX.CMD_OPCODE
  let tag := d.g p Reg.MBX.CMD_TAG
  let len := d.g p Reg.MBX.CMD_LEN
  let reject := fun code =>
    let e := d.mbxComplete b code tag []
    if op = opQueryTag then e
    else e.setMb b (Mbx.retain { m with nextId := m.nextId + 1 } { id := m.nextId, code := code, tag := tag })
  if d.mbxState b = 1 then d.raise p 1
  else if 64 < len then reject codeBadLen
  else if !(d.coresRun (mbxHalf b)) || (op == opQueryTag && !(d.hs (mbxHalf b)).restored) then reject codeHalfDown
  else
    let c : FwCmd := { id := m.nextId, opcode := op, tag := tag, len := len
                       req := (List.range len).map fun i => d.word (p + 0x200 + 4 * i) }
    ((d.mbxPut b 1 0 0 []).snapTaken_ b c).setMb b
      { m with nextId := m.nextId + 1, cur := m.nextId, goAt := d.now
               limitMs := max 1 (d.g p Reg.MBX.TIMEOUT), fw := m.fw ++ [c] }

/-- What firmware makes of a command at its commit instant: the device after the effect, the completion code and the
response. -/
structure FwResult where
  dev  : Dev
  code : Nat
  rsp  : List Word := []

/-- An outcome written at a commit (R64, R65): it replaces the TIMEOUT retained for the command, if there is one.
[DEDUCED log 216] -/
def Mbx.outcome (m : Mbx) (c : FwCmd) (code : Nat) : Mbx :=
  if m.retained.any (fun r => r.id == c.id) then
    { m with retained := m.retained.map fun r => if r.id = c.id then { r with code := code, isOpen := false } else r }
  else m.retain { id := c.id, code := code, tag := c.tag }

/-- A command as its firmware has finished it. -/
def Mbx.finish (m : Mbx) (c : FwCmd) (code : Nat) (rsp : List Word) : Mbx :=
  { m with fw := m.fw.map fun x => if x.id = c.id then { x with done := some (code, rsp) } else x }

/-- The first command of an opcode that a mailbox's firmware holds uncommitted. -/
def Mbx.waiting (m : Mbx) (op : Nat) : Option FwCmd := m.fw.find? fun c => c.opcode == op && c.done.isNone

/-- The commit instant of a mailbox's command of an opcode (R65): its outcome is retained before it acts.
[DESIGN CHOICE log 217] -/
def Dev.mbxCommit (d : Dev) (b op : Nat) (f : FwCmd → Dev → FwResult) : Dev :=
  match (d.mb b).waiting op with
  | none => d
  | some c =>
    if !(d.coresRun (mbxHalf b)) then d
    else
      let r := f c d
      let m := r.dev.mb b
      let m1 := if op = opQueryTag then m else m.outcome c r.code
      r.dev.setMb b (m1.finish c r.code r.rsp)

/-- Firmware hands over a finished command (R63, R64, R67): an opcode not issued is finished with BAD_OPCODE; the
completion goes to RSP unless the mailbox has completed the command with TIMEOUT. [DESIGN CHOICE log 217] -/
def mbxFinished (b : Nat) (d : Dev) : Dev :=
  let m := d.mb b
  match m.fw.find? (fun c => c.done.isSome || !(issuedOpcodes.contains c.opcode)) with
  | none => d
  | some c =>
    if !(d.coresRun (mbxHalf b)) then d
    else
      let r := c.done.getD (codeBadOpcode, [])
      let m1 := if c.done.isSome then m else m.outcome c codeBadOpcode
      let d1 := d.setMb b { m1 with fw := m.fw.filter fun x => x.id != c.id }
      if d.mbxState b = 1 && m.cur == c.id then d1.mbxComplete b r.1 c.tag r.2 else d1

/-- The time limit passes (R64): the mailbox completes the command with TIMEOUT, retained so until firmware finishes the
command. [DESIGN CHOICE log 2] -/
def mbxTimedOut (b : Nat) (d : Dev) : Dev :=
  let m := d.mb b
  if d.mbxState b ≠ 1 || decide (d.now < m.goAt + m.limitMs * 250000) then d
  else
    match m.fw.find? (fun c => c.id == m.cur) with
    | none => d
    | some c =>
      let d1 := d.mbxComplete b codeTimeout c.tag []
      if c.done.isSome || c.opcode == opQueryTag then d1
      else d1.setMb b (m.retain { id := c.id, code := codeTimeout, tag := c.tag, isOpen := true })

/-- A snapshot's processing ends with the mailbox that asked for it (R65, R266). -/
def Dev.snapDropped (d : Dev) (b : Nat) : Dev :=
  match d.snap.box with
  | none => d
  | some x =>
    if x.1 ≠ b then d
    else
      let d1 := { d with snap := { d.snap with box := none } }
      if d.g gnsPg Reg.GNS.SNSTAT_STATE = 2 then d1.p gnsPg Reg.GNS.SNSTAT_STATE 0 else d1

/-- A mailbox whose firmware goes away (R65): a command that is BUSY completes with a code, retained so unless its commit
has passed; what firmware still held is cut short. -/
def Dev.mbxCut (d0 : Dev) (code b : Nat) : Dev :=
  let d := d0.snapDropped b
  let m := d.mb b
  let cut : Mbx := { m with fw := [], retained := m.retained.map fun r =>
    if r.isOpen then { r with code := code, isOpen := false } else r }
  if d.mbxState b ≠ 1 then d.setMb b cut
  else
    match m.fw.find? (fun c => c.id == m.cur) with
    | none => (d.setMb b cut).mbxComplete b code (d.g (mbxPg b) Reg.MBX.CMD_TAG) []
    | some c =>
      let d1 := d.setMb b (if c.done.isSome || c.opcode == opQueryTag then cut else cut.retain { id := c.id, code := code, tag := c.tag })
      d1.mbxComplete b code c.tag []

/-- ABORT ends the command of a snapshot's processing with ABORTED (R266). -/
def snapCancelled (d : Dev) : Dev :=
  match d.snap.box with
  | none => d
  | some x =>
    let d1 := { d with snap := { d.snap with box := none } }
    match (d.mb x.1).fw.find? (fun c => c.id == x.2 && c.done.isNone) with
    | none => d1
    | some c => d1.setMb x.1 (((d.mb x.1).outcome c codeAborted).finish c codeAborted [])

/-- SNAP_PROCESS at its commit (R7, R266): it solved the processing that its command holds, or found none to start.
[DEDUCED log 115] -/
def snapProcessed (b : Nat) (r : SnapSol) (c : FwCmd) (d : Dev) : FwResult :=
  if c.len ≠ 0 then { dev := d, code := codeBadLen }
  else if !(d.gnssOn) then { dev := d, code := codeNotAvailable }
  else if d.snap.box = some (b, c.id) && d.g gnsPg Reg.GNS.SNSTAT_STATE == 2 then
    { dev := snapSolved r { d with snap := { d.snap with box := none } }, code := codeOK }
  else { dev := d, code := codeBusy }

/-- The mailboxes of a half cut short: with HALF_DOWN at safe state, with ABORTED at a reset (R65).
[DEDUCED log 216] -/
def Dev.mbxHalfCut (d : Dev) (code : Nat) (h : Half) : Dev :=
  let d1 := (d.mbxCut code h.num).mbxCut code (h.num + 2)
  match d1.sched.fold with
  | none => d1
  | some f => if f.box < 4 && mbxHalf f.box == h then { d1 with sched := { d1.sched with fold := none } } else d1

/-- SOFT_RESET of an MBX page (R65). -/
def mbxSoftReset (b : Nat) (d : Dev) : Dev :=
  if d.mbxState b = 1 then d.mbxCut codeAborted b else d.mbxPut b 0 0 0 []

/-- A device-wide command sent to Weft while Warp is in service is refused (R67). -/
def Dev.wrongHalf (d : Dev) (b : Nat) : Bool := mbxHalf b == .weft && !(d.outOfService .warp)

/-- ECHO (R67): the same words. -/
def echoed (c : FwCmd) (d : Dev) : FwResult := { dev := d, code := codeOK, rsp := c.req }

/-- QUERY_TAG (R64, R67): the newest retained outcome with the tag. -/
def tagQueried (b : Nat) (c : FwCmd) (d : Dev) : FwResult :=
  if c.len ≠ 1 then { dev := d, code := codeBadLen }
  else
    let tag := (c.req[0]?.getD 0).toNat % 256
    match (d.mb b).retained.find? (fun r => r.tag == tag) with
    | none => { dev := d, code := codeUnknownTag }
    | some r => { dev := d, code := codeOK, rsp := [BitVec.ofNat 32 (r.code * 256 + tag)] }

/-- A word of FW_VERSION (R67): the version of the patch that runs and PATCH_SLOT; the others, and the patch version where none
runs, are the image's. -/
def Dev.versionWord (d : Dev) (h : Half) (i : Nat) : Word :=
  match i, d.start.patch with
  | 1, some p => BitVec.ofNat 32 p.2
  | 2, _ => BitVec.ofNat 32 (d.g sysPg Reg.SYS.START_STAT_PATCH_SLOT)
  | _, _ => Config.imageWord h.num i

/-- FW_VERSION (R67): the four version words of a half. [DESIGN CHOICE log 12] -/
def versionRead (h : Half) (c : FwCmd) (d : Dev) : FwResult :=
  if c.len ≠ 0 then { dev := d, code := codeBadLen }
  else { dev := d, code := codeOK, rsp := (List.range 4).map (d.versionWord h) }

/-- LEAP_FOLD reaches firmware (R518): refused for its length or its half, else it waits for the next second boundary of
the schedule. -/
def leapFoldTaken (b : Nat) (d : Dev) : Dev :=
  match (d.mb b).waiting 0x0110 with
  | none => d
  | some c =>
    if c.len ≠ 0 then d.mbxCommit b 0x0110 fun _ e => { dev := e, code := codeBadLen }
    else if d.wrongHalf b then d.mbxCommit b 0x0110 fun _ e => { dev := e, code := codeNotPermitted }
    else if !(d.coresRun (mbxHalf b)) || d.sched.fold.isSome then d
    else { d with sched := { d.sched with fold := some { box := b, id := c.id, sec := d.schedSec } } }

/-- The second boundary of a waiting fold (R518): with a leap commit pending it does nothing and completes with
BUSY_RESOURCE, with no entry to remove with BAD_ARG. Firmware's own fold (R519) answers no mailbox. -/
def leapFoldDecided (d : Dev) : Dev :=
  match d.sched.fold with
  | none => d
  | some f =>
    if d.schedSec ≤ f.sec then d
    else
      let d0 := { d with sched := { d.sched with fold := none } }
      let code :=
        if d.gb (leapPg d.lead) Reg.TSU.LEAP_STAT_COMMIT_PEND then codeBusy
        else if !((d.leapActive d.lead).canFold d.schedSec) then codeBadArg else codeOK
      let act := fun (e : Dev) => if code = codeOK then leapFolded e else e
      if f.box < 4 then d0.mbxCommit f.box 0x0110 fun _ e => { dev := act e, code := code } else act d0

end Sys2Proof.Machine
end

