-- ==== Sys2Proof/Machine/Ports.lean ====
section
/-! DEFINITION. Ethernet ports (R269 to R288): modes, tracking of word clocks (R116, R117), ingress values (R309, R310),
variable delays, ESMC, received pauses, statistics and snapshots. Taking a link down is in Machine/Plane.lean. -/

namespace Sys2Proof.Machine

/-- The MAC page of a port. -/
def macPg (p : Nat) : Nat := pageAddr .mac (portHalf p) (p / 2)

/-- A port beyond its registers. -/
def Dev.port (d : Dev) (p : Nat) : PortSt := tget {} d.ports p

/-- The device with a port replaced. -/
def Dev.setPort (d : Dev) (p : Nat) (v : PortSt) : Dev := { d with ports := tset {} d.ports p v }

/-- A live counter of a port (R287) increased. -/
def Dev.macInc (d : Dev) (p c : Nat) (k : Nat := 1) : Dev :=
  { d with macc := tset 0 d.macc (p * 32 + c) (tget 0 d.macc (p * 32 + c) + k) }

/-- FEC in effect: 3 is treated as none (R285). -/
def Dev.portFec (d : Dev) (p : Nat) : Nat :=
  let f := d.g (pcsPg p) Reg.PCS.PCFG_FEC
  if f = 3 then 0 else f

/-- The rate of a mode in bits per second (R269). -/
def modeRate (m : Nat) : Nat :=
  match m with
  | 1 => 10 * 10 ^ 9 | 2 => 25 * 10 ^ 9 | 3 => 50 * 10 ^ 9 | 4 => 100 * 10 ^ 9 | 5 => 100 * 10 ^ 9 | _ => 0

/-- The lanes a mode uses (R269). -/
def modeLanes (m : Nat) : Nat :=
  match m with
  | 1 => 1 | 2 => 1 | 3 => 1 | 4 => 4 | 5 => 2 | _ => 0

/-- The lane's symbol rate in kBd: the lane rate for NRZ, half of it for PAM4 (R269). [DEDUCED log 125] -/
def modeSymbols (m : Nat) : Nat :=
  match m with
  | 1 => 10312500 | 2 => 25781250 | 3 => 26562500 | 4 => 25781250 | 5 => 26562500 | _ => 0

/-- Unit intervals in a word of the recovered clock: 66 for NRZ, 68 for PAM4 (R269). -/
def modeWord (m : Nat) : Nat := if m = 3 ∨ m = 5 then 68 else 66

/-- Whether a mode permits a FEC (R269, R270). OFF has nothing to permit. [DEDUCED log 123] -/
def fecPermitted (m f : Nat) : Bool :=
  match m with
  | 1 => f == 0 | 2 => f ≤ 1 | 3 => f == 2 | 4 => f ≤ 1 | 5 => f == 2 | _ => true

/-- The rate of a port. -/
def Dev.portRate (d : Dev) (p : Nat) : Nat := modeRate (d.portMode p)

/-- The time of `n` octets at a port's rate, in 2^-32 ns, rounded up. -/
def Dev.octets (d : Dev) (p n : Nat) : Nat := ceilDiv (n * 8 * secFrac) (d.portRate p)

/-- TXREF steered needs the steered loop's oscillator at fT in its followed timebase: M equals M0 (R181, R270). -/
def Dev.steeredAtFt (d : Dev) (h : Half) : Bool :=
  let m := tget ({} : AplSt) d.apls (h.num * 2 + 1)
  let m0 := tget ({} : AplSt) d.apls (h.num * 2)
  m.num * max 1 m0.mden == m0.num * max 1 m.mden

/-- The setting of PCFG is refused (R270). [DEDUCED log 122, 123] -/
def Dev.pcsRefuses (d : Dev) (p : Nat) : Bool :=
  !(fecPermitted (d.portMode p) (d.portFec p)) ||
    (d.portMode p != 0 && d.gb (pcsPg p) Reg.PCS.PCFG_TXREF && !(d.steeredAtFt (portHalf p)))

/-- RCLK_LANE in effect: a lane beyond the mode's is treated as 0 (R285). -/
def Dev.rclkLane (d : Dev) (p : Nat) : Nat :=
  let l := d.g (pcsPg p) Reg.PCS.PCFG_RCLK_LANE
  if modeLanes (d.portMode p) ≤ l then 0 else l

/-- What the link conditions of a port are when a command finds them (R272): block lock, alignment, high bit-error,
local and remote fault, and the lanes without signal. -/
def Dev.putLink (d : Dev) (p : Nat) (s : LinkSeen) : Dev :=
  let b := pcsPg p
  (((((d.pb b Reg.PCS.PSTAT_BLOCK_LOCK s.lock).pb b Reg.PCS.PSTAT_ALIGNED s.aligned).pb b Reg.PCS.PSTAT_HI_BER s.hiBer).pb b
    Reg.PCS.PSTAT_LOCAL_FAULT s.localFault).pb b Reg.PCS.PSTAT_REMOTE_FAULT s.remoteFault).p b Reg.PCS.PSTAT_LOS s.los

/-- The four conditions of R272 hold on the lanes the mode uses. -/
def linkGood (s : LinkSeen) (lanes : Nat) : Bool :=
  s.lock && s.aligned && !s.hiBer && !s.localFault && s.los % 2 ^ lanes == 0

/-- The faults of the candidates that a port's link bears on, in both halves (R131). -/
def Dev.portCands (d : Dev) (p : Nat) : Dev :=
  [Half.warp, Half.weft].foldl (fun e h =>
    let e1 := candRefresh h (14 + p) e
    e1.each 4 fun k x => if x.g (instC h k) Reg.TRS.ICFG_PORT = p then candRefresh h (22 + k) x else x) d

/-- A port declares link up (R272): in a mode that is not OFF or refused, with the conditions good for UPHOLD.MS. Its delays are yet
to be measured (R274). -/
def linkUp (p : Nat) (s : LinkSeen) (held : Nat) (d : Dev) : Dev :=
  let b := pcsPg p
  let lanes := modeLanes (d.portMode p)
  let d1 := d.putLink p s
  if d.portMode p = 0 || !(d.enabled b) || !(d.planeUp (portHalf p)) || d.gb b Reg.PCS.PSTAT_REFUSED || !(linkGood s lanes) ||
      d.portUp p || decide (held < max 1 (d.g b Reg.PCS.UPHOLD)) then d1
  else
    let d2 := ((d1.pb b Reg.PCS.PSTAT_LINK_UP true).pb b Reg.PCS.PSTAT_DLY_VALID false).p b Reg.PCS.LT_STAT
      (if d.gb b Reg.PCS.PCFG_LT_EN then 2 ^ lanes - 1 else 0)
    (d2.raise b 0).portCands p

/-- A delay of `ui` unit intervals in ps, to the nearest (R277). [DEDUCED log 125] -/
def uiPs (sym ui : Nat) : Nat := if sym = 0 then 0 else (2 * ui * 10 ^ 9 + sym) / (2 * sym)

/-- The variable delays are measured (R274, R277): counted in unit intervals, the skew being that of lane RCLK_LANE, converted to
ps, and DLY_VALID set. A value that differs from the previous link-up's raises DLY_CHANGE. -/
def delayMeasured (p align : Nat) (skews : List Int) (txUi : Nat) (d : Dev) : Dev :=
  let b := pcsPg p
  if !(d.portUp p) || d.gb b Reg.PCS.PSTAT_DLY_VALID then d
  else
    let sym := modeSymbols (d.portMode p)
    let rx := uiPs sym ((align : Int) + (skews[d.rclkLane p]?).getD 0).toNat
    let tx := uiPs sym txUi
    let d1 := (((d.p b Reg.PCS.RX_VAR rx).p b Reg.PCS.TX_VAR tx).pb b Reg.PCS.PSTAT_DLY_VALID true).setPort p
      { d.port p with var := some (rx, tx) }
    match (d.port p).var with
    | none => d1
    | some v => d1.raiseIf (v != (rx, tx)) b 5

/-! ### Word clocks and ingress values -/

/-- The tracking stamps of a word-clock point. -/
def Dev.track (d : Dev) (h : Half) (cp : Nat) : List (Nat × Nat) := tget [] d.tracks (h.num * 80 + cp)

/-- Eight microseconds in 2^-32 ns. -/
def us8 : Nat := 8000 * 2 ^ 32

/-- A tracking stamp of a port's receive (CP24 to CP31) or transmit (CP32 to CP39) word clock in a half (R116, R117): the
stamp in TB0 with the word count, kept as long as a derivation may need it. For a receive point it is also the measurement
of C14 to C21. The host may take a copy (R94, R107). -/
def wordTracked (h : Half) (cp words ce : Nat) (d : Dev) : Dev :=
  let u := d.cap h cp
  if cp < 24 || 39 < cp || d.capStopped h cp || d.gb (tdcP h cp) Reg.TDC.PSTAT_OOS then d
  else
    let st := d.stampAt h cp 0 ce
    let ec := u.ecnt + (words + 2 ^ 32 - u.ecnt % 2 ^ 32) % 2 ^ 32
    let d1 := (d.setCap h cp { u with
      ecnt := ec, stamp := some st, stamp0 := some st, stampEc := ec, lastAt := some (d.count h (d.capTb h cp)) }).offerEntry
        h cp st ec (u.c2 - u.c1) {}
    let tr := (st, ec) :: (d.track h cp).filter fun e => decide (st ≤ e.1 + us8)
    let d2 := { d1 with tracks := tset [] d1.tracks (h.num * 80 + cp) tr }
    let d3 := d2.perf (tdcPg h cp) 0x01 { address := some (cp % 16) }
    if cp ≤ 31 && d3.en (refPg h (cp - 10)) (refQ h (cp - 10)) Reg.REF.CTRL_EN then
      d3.freqMeasured h (cp - 10) 1 st ec
    else d3

/-- rx_total of a port in ps (R275). -/
def Dev.rxTotal (d : Dev) (p : Nat) : Int :=
  (d.g (pcsPg p) Reg.PCS.RX_FIX : Int) + d.g (pcsPg p) Reg.PCS.RX_VAR + signedOf 32 (d.g (pcsPg p) Reg.PCS.RX_TRIM)

/-- An ingress value (R309): from the newest tracking stamp and the oldest of the last 8 µs, the word with the SFD and its
position in unit intervals; absent where no period can be taken, where no stamp lies in the 2 µs before the word, or where the
extrapolation exceeds 2 µs (R310). In 2^-32 ns. -/
def ingressOf (tr : List (Nat × Nat)) (uiw nsfd pos : Nat) (total : Int) : Option Nat :=
  match tr, tr.getLast? with
  | (ta, na) :: _, some (tb, nb) =>
    if na ≤ nb then none
    else
      let dn : Int := (na : Int) - nb
      let k : Int := signedOf 32 (nsfd + 2 ^ 32 - na % 2 ^ 32)
      let dt : Int := (ta : Int) - tb
      let before := tr.any fun e =>
        let x : Int := (ta - (e.1 : Int)) * dn + k * dt
        decide (0 ≤ x) && decide (x ≤ 2000 * 2 ^ 32 * dn)
      if 2000 * 2 ^ 32 * dn < (k.natAbs : Int) * dt || !before then none
      else
        let den : Int := dn * uiw * 1000
        let num : Int := ta * den + (k * uiw + pos) * dt * 1000 - total * 2 ^ 32 * (dn * uiw)
        some ((2 * num + den) / (2 * den)).toNat
  | _, _ => none

/-- A half's ingress value for an SFD on a port, if it is valid (R309, R310). -/
def Dev.ingress (d : Dev) (h : Half) (p nsfd pos : Nat) : Option Nat :=
  let cp := 24 + p
  if d.gb (tdcP h cp) Reg.TDC.PSTAT_OOS || d.capStopped h cp || !(d.gb (pcsPg p) Reg.PCS.PSTAT_DLY_VALID) then none
  else ingressOf (d.track h cp) (modeWord (d.portMode p)) nsfd pos (d.rxTotal p)

/-- The octets of a queued frame on the wire with its preamble, FCS and gap. [DEDUCED log 132] -/
def wireOctets (n : Nat) : Nat := 8 + n + 4 + 12

/-- A port starts a queued or cut-through frame (R296, R297). [DEDUCED log 207] -/
def Dev.startFrame (d : Dev) (p : Nat) (bytes : List Byte) (bad : Bool) (cls : Option Nat := none) : Dev :=
  let now := max (d.tb0 (portHalf p)) (d.port p).txTo
  let d1 := ((d.macInc p 12).macInc p 13 (bytes.length + 4)).perf (macPg p) 0x02
  d1.setPort p { d1.port p with
    txFrom := now, txTo := now + d.octets p (wireOctets bytes.length)
    last := some { at_ := now, gated := false, bad := bad, bytes := bytes, cls := cls } }

/-! ### ESMC (R282, R283) -/

/-- An ESMC PDU taken in by a half (R282): RX_QL of the owning half's port, and the native QR of C(14 + p) in this half. -/
def Dev.esmcTaken (d : Dev) (h : Half) (p ssm : Nat) (essm : Option Nat) : Dev :=
  let b := pcsPg p
  let e := essm.getD 0xFF
  let q := qrOfSsm ssm e
  let d1 :=
    if h = portHalf p then
      let changed := decide (d.g b Reg.PCS.RX_QL_SSM ≠ ssm % 16) || decide (d.g b Reg.PCS.RX_QL_ESSM ≠ e % 256) ||
        d.gb b Reg.PCS.RX_QL_EXT != essm.isSome || decide (d.g b Reg.PCS.RX_QL_QR ≠ q)
      let x := ((((d.p b Reg.PCS.RX_QL_SSM ssm).p b Reg.PCS.RX_QL_ESSM e).pb b Reg.PCS.RX_QL_EXT essm.isSome).pb b
        Reg.PCS.RX_QL_TIMEOUT false).p b Reg.PCS.RX_QL_QR q
      ((x.setPort p { x.port p with esmcAt := d.count h 0 }).macInc p 11).raiseIf changed b 3
    else d
  nativeQr h (14 + p) q d1

/-- No ESMC PDU for 5 s, or RX_EN cleared (R282, R285): TIMEOUT, QR 15 in both halves, and ESMC_TIMEOUT. -/
def Dev.esmcLost (d : Dev) (p : Nat) : Dev :=
  let b := pcsPg p
  if d.gb b Reg.PCS.RX_QL_TIMEOUT then d
  else
    let d1 := ((d.pb b Reg.PCS.RX_QL_TIMEOUT true).p b Reg.PCS.RX_QL_QR 15).raise b 4
    let d2 := d1.raiseIf (d.g b Reg.PCS.RX_QL_QR != 15) b 3
    nativeQr .weft (14 + p) 15 (nativeQr .warp (14 + p) 15 d2)

/-- The 5 s of R282 have passed. [DESIGN CHOICE log 2] -/
def esmcTimedOut (p : Nat) (d : Dev) : Dev :=
  if (d.port p).esmcAt + 5 * secUnit ≤ d.count (portHalf p) 0 then d.esmcLost p else d

/-- The QL that a port sends with AUTO set (R283): SSM and enhanced SSM codes, by the values of the half that decides. -/
def Dev.autoQl (d : Dev) (p : Nat) : Nat × Nat :=
  let h := d.lead
  let st := d.lstate h 0
  let c := d.selC h 0
  if c = 14 + p then (0xF, 0xFF)
  else if st ≤ 1 then (0xF, 0xFF)
  else if d.gb (pageAddr .dpl h 0 + 0x100) Reg.DPL.LSTAT_EXPIRED then (0x8, 0xFF)
  else if st = 4 then (0x4, 0xFF)
  else if 29 < c then (0xF, 0xFF)
  else
    match d.effQr h c with
    | 0 => (0x2, 0x21) | 1 => (0x2, 0x20) | 2 => (0x2, 0xFF) | 3 => (0x4, 0xFF) | 4 => (0x8, 0xFF) | 5 => (0xB, 0x22)
    | _ => (0xF, 0xFF)

/-- The QL a port sends. -/
def Dev.txQl (d : Dev) (p : Nat) : Nat × Nat :=
  let b := pcsPg p
  if d.gb b Reg.PCS.TX_QL_AUTO then d.autoQl p else (d.g b Reg.PCS.TX_QL_FIX_SSM, d.g b Reg.PCS.TX_QL_FIX_ESSM)

/-- The bytes of an ESMC PDU of G.8264 (PRESUMED layout: the manual cites the standard): the QL TLV, and with EXT_EN the
extended QL TLV with the enhanced code and the chip's clock identity. [PRESUMED log 126] -/
def Dev.esmcPdu (d : Dev) (p : Nat) (event : Bool) : List Byte :=
  let q := d.txQl p
  let id := bytesBE 4 (d.w (pageAddr .trs (portHalf p) 0 + 0x124)) ++ bytesBE 4 (d.w (pageAddr .trs (portHalf p) 0 + 0x120))
  let l := bytesBE 6 0x0180C2000002 ++ List.replicate 6 0 ++ bytesBE 2 0x8809 ++ bytesBE 1 0x0A ++ bytesBE 3 0x0019A7 ++
    bytesBE 2 1 ++ bytesBE 1 (0x10 + 8 * bitOf event) ++ List.replicate 3 0 ++ bytesBE 1 1 ++ bytesBE 2 4 ++ bytesBE 1 q.1 ++
    (if d.gb (pcsPg p) Reg.PCS.ESMC_EXT_EN then
      bytesBE 1 2 ++ bytesBE 2 0x14 ++ bytesBE 1 q.2 ++ id ++ bytesBE 1 0 ++ bytesBE 1 1 ++ List.replicate 6 0 else [])
  l ++ List.replicate (60 - l.length) 0

/-- An ESMC PDU sent by the owning half's firmware (R283), after any frame in progress; none in a half that returns (R34). -/
def Dev.esmcSend (d : Dev) (p : Nat) (event : Bool) : Dev :=
  let h := portHalf p
  if !(d.gb (pcsPg p) Reg.PCS.ESMC_TX_EN) || !(d.portUp p) || !(d.coresRun h) || d.returning h then d
  else
    let d1 := ((d.p (pcsPg p) Reg.PCS.TX_QL_SENT_SSM (d.txQl p).1).macInc p 18).startFrame p (d.esmcPdu p event) false
    d1.setPort p { d1.port p with sentAt := some (d.count h 0), sentQl := some (d.txQl p) }

/-- The information PDU of each second (R283), once in a second of TB0. -/
def esmcInfo (p : Nat) (d : Dev) : Dev :=
  let sec := d.sec (portHalf p) 0
  if (d.port p).infoSec = some sec then d
  else
    let d1 := d.esmcSend p false
    if d1.macc = d.macc then d else d1.setPort p { d1.port p with infoSec := some sec }

/-- The event PDU after a change of the sent QL (R283). -/
def esmcEvent (p : Nat) (d : Dev) : Dev :=
  if (d.port p).sentQl.isSome && (d.port p).sentQl != some (d.txQl p) then d.esmcSend p true else d

/-! ### PAUSE and priority flow control (R280) -/

/-- The hold of `quanta` (512 bit times each) begins for a class, 8 for PAUSE. -/
def Dev.pauseClass (d : Dev) (p c quanta : Nat) : Dev :=
  let until_ := if quanta = 0 then 0 else d.count (portHalf p) 0 / 2 ^ 32 + d.octets p (64 * quanta)
  d.setPort p { d.port p with pauses := tset 0 (d.port p).pauses c until_ }

/-- A received PAUSE or PFC frame (R280): counted always; it holds what IGN_PAUSE or IGN_PFC leaves. -/
def pauseReceived (p : Nat) (f : FlowFrame) (d : Dev) : Dev :=
  if !(d.portUp p) then d
  else
    match f with
    | .pause q =>
      let d1 := d.macInc p 7
      if d.gb (macPg p) Reg.MAC.MCFG_IGN_PAUSE then d1 else d1.pauseClass p 8 (q % 65536)
    | .pfc mask qs =>
      (d.macInc p 8).each 8 fun c e =>
        if bitAt mask c && !(bitAt (d.g (macPg p) Reg.MAC.MCFG_IGN_PFC) c) then e.pauseClass p c (qs[c]?.getD 0 % 65536)
        else e

/-- A class of a port is held by a received pause. -/
def Dev.paused (d : Dev) (p c : Nat) : Bool :=
  let now := d.count (portHalf p) 0 / 2 ^ 32
  now < tget 0 (d.port p).pauses 8 || now < tget 0 (d.port p).pauses c

/-- The quanta of a pause have run out (R280). -/
def pauseExpired (p c : Nat) (d : Dev) : Dev :=
  if tget 0 (d.port p).pauses c ≤ d.count (portHalf p) 0 / 2 ^ 32 then
    d.setPort p { d.port p with pauses := tset 0 (d.port p).pauses c 0 }
  else d

/-! ### Snapshots (R284) -/

/-- A port's counters copied to its shadow at one tick. -/
def snapTaken (p : Nat) (d : Dev) : Dev :=
  let b := macPg p
  let c := d.count (portHalf p) 0
  let d1 := d.each 24 fun k e =>
    let v := tget 0 d.macc (p * 32 + k)
    (e.setw (b + 0x200 + 8 * k) v).setw (b + 0x204 + 8 * k) (v / 2 ^ 32)
  ((((d1.p b Reg.MAC.SNAP_T_NSEC (nsecOf c)).p b Reg.MAC.SNAP_T_SEC_LO (secOf c)).p b Reg.MAC.SNAP_T_SEC_HI
    (secOf c / 2 ^ 32)).inc b Reg.MAC.SNAP_SEQ).raise b 1

/-- SNAP written in a port's page (R284): TAKE, and TAKE_ALL in index 0 for the four ports of the half. -/
def snapWritten (p v : Nat) (d : Dev) : Dev :=
  let d1 := if bitAt v 1 && p / 2 == 0 then d.each 4 fun j e => snapTaken (2 * j + (portHalf p).num) e else d
  if bitAt v 0 && !(bitAt v 1 && p / 2 == 0) then snapTaken p d1 else d1

/-- SOFT_RESET of a MAC page zeroes the counters and the shadow (R284). -/
def macSoftReset (p : Nat) (d : Dev) : Dev :=
  (d.each 24 fun k e =>
    { e with macc := tset 0 e.macc (p * 32 + k) 0 }).each 48 fun i e => e.setw (macPg p + 0x200 + 4 * i) 0

/-- MAXLEN.LEN in effect (R286). -/
def Dev.maxLen (d : Dev) (p : Nat) : Nat := clampNat 1518 9216 (d.g (macPg p) Reg.MAC.MAXLEN)

/-- PCFG written (R270, R281, R285): the settings, the fixed delays that follow them, and REFUSED. Whether the link restarts, and whether the lane alone changed.
[DESIGN CHOICE log 13] -/
def Dev.pcfgPut (d : Dev) (p v : Nat) : Dev × Bool × Bool :=
  let b := pcsPg p
  let old := d.w (b + 0x100)
  let new := mergeWrite (b + 0x100) old v
  let restart := decide (old &&& 0xF7 ≠ new &&& 0xF7)
  let d1 := d.setw (b + 0x100) new
  let fix := fun dir => if d1.portMode p = 0 then 0 else Config.portDelay p dir (d1.portMode p) (d1.portFec p)
  let d2 := (d1.p b Reg.PCS.RX_FIX (fix 0)).p b Reg.PCS.TX_FIX (fix 1)
  let r := d1.pcsRefuses p
  let d3 := (d2.pb b Reg.PCS.PSTAT_REFUSED r).raiseIf r b 2
  (d3, restart, decide (getBits old 8 2 ≠ getBits new 8 2) && !restart)

end Sys2Proof.Machine
end

