-- ==== Sys2Proof/Machine/Gate.lean ====
section
/-! DEFINITION. Launch gates and egress reports (R313 to R329, R302, R304): the launch instant, the bytes a frame has at
its instant, deadlines and windows, arrival at the gate, late and blocked frames, release, discards and reports. -/

namespace Sys2Proof.Machine

/-- The LGT page of a half. -/
def lgtPg (h : Half) : Nat := pageAddr .lgt h 0

/-- The LGT block of a port (R328). -/
def lgtG (p : Nat) : Nat := lgtPg (portHalf p) + 0x100 + 0x40 * (p / 2)

/-- An event word of a port's gate: 0 RPT_DATA, 1 LGT_LATE, 2 LGT_BLIND, 3 LGT_DISCARD (R329). -/
def lgtEvt (p k : Nat) : Nat := 4 * (p / 2) + k

/-- The TRS page of a half, index 0. -/
def trsPg (h : Half) : Nat := pageAddr .trs h 0

/-- The SWC page of a half. -/
def swcPg (h : Half) : Nat := pageAddr .swc h 0

/-- A port's gate. -/
def Dev.gate (d : Dev) (p : Nat) : GateSt := tget {} d.gates p

/-- The device with a port's gate replaced, and what GSTAT and RPTSTAT show of it. -/
def Dev.setGate (d : Dev) (p : Nat) (v : GateSt) : Dev :=
  let d1 := { d with gates := tset {} d.gates p v }
  (d1.p (lgtG p) Reg.LGT.GSTAT_HELD v.held.length).p (lgtG p) Reg.LGT.RPTSTAT_DEPTH v.reports.length

/-- Nanoseconds in 2^-32 ns. -/
def ns32 (n : Nat) : Nat := n * 2 ^ 32

/-- The next instant of the 8 ns grid at or after an instant in 2^-32 ns, in ns (R313). -/
def gridUp (x : Nat) : Nat := (x + ns32 8 - 1) / ns32 8 * 8

/-- The mean ingress instant m of a descriptor, if a value is valid (R313). -/
def Desc.mean (s : Desc) : Option Nat :=
  if s.v0 && s.v1 then some ((s.ing0 + s.ing1) / 2) else if s.v0 then some s.ing0 else if s.v1 then some s.ing1 else none

/-- LEAD.NS with its limits (R366). -/
def Dev.leadNs (d : Dev) (h : Half) : Nat := clampNat 1000 8000 (d.g (trsPg h) Reg.TRS.LEAD)

/-- The launch instant T of a mean ingress instant and a lead (R313), in ns. -/
def launchOf (m lead : Nat) : Nat := gridUp (m + ns32 lead)

/-! ### The bytes of a frame at its instant -/

/-- tbn(t) of R339: a TB0 instant as the count of timebase `n`, in 2^-32 ns. -/
def tbnAt (views : List TbView) (m0 n t : Nat) : Nat :=
  if n = 0 then t
  else
    match views.find? (fun v => v.n == n) with
    | none => t
    | some v => ((t : Int) + v.delta + v.rate * ((t : Int) - m0) / 2 ^ 48).toNat

/-- The view of an instant that NTP states (R342): smeared UTC where the SCALE under which the request was classified is 0b10
(R72), else UTC. In 2^-32 ns. Under an origin's context the view is UTC by the origin's TAI − UTC, whatever SCALE holds here
(R422); its inserted second, which the leap table here shows, repeats 23:59:59 (R83). [DEDUCED log 236] -/
def Dev.ntpView (d : Dev) (h : Half) (n scale t : Nat) (utc : Option Int) : Nat :=
  match utc with
  | some o =>
    let tab := d.leapActive h
    let ins := tab.inserted (t / secFrac) && tab.ofsAt (t / secFrac) == o
    ((t : Int) - (if ins then o + 1 else o) * secFrac).toNat
  | none => d.scaled32 h n (if scale = 2 then 2 else 1) (t * 2 ^ 32)

/-- The NTP timestamp of an instant in 2^-32 ns of a scale (R82). -/
def ntpBytes (v : Nat) : List Byte :=
  let s := ntpStamp (v / secFrac, v % secFrac / 2 ^ 32, v % 2 ^ 32)
  bytesBE 4 s.1 ++ bytesBE 4 s.2

/-- The part of an instant below 1 ns in 2^-16 ns, rounded half up (R357). -/
def subNano (x : Nat) : Nat := (x % 2 ^ 32 * 2 + 2 ^ 16) / 2 ^ 17

/-- A difference of instants in 2^-32 ns as 2^-16 ns, rounded half up. -/
def corrUnits (x : Int) : Int := (2 * x + 2 ^ 16) / 2 ^ 17

/-- The bytes that a launch instant, in ns, gives a field. -/
def Dev.fixBytes (d : Dev) (h : Half) (g : GFrame) (t : Nat) : FixKind → List Byte
  | .ntpTx n scale utc => ntpBytes (d.ntpView h n scale (tbnAt g.views g.m0 n (ns32 t)) utc)
  | .ptpTs n =>
    let x := tbnAt g.views g.m0 n (ns32 t)
    ptpStamp (x / secFrac) (x % secFrac / 2 ^ 32)
  | .subNs n base => bytesBE 8 (unsignedOf 64 (base + subNano (tbnAt g.views g.m0 n (ns32 t))))
  | .turn n base m =>
    bytesBE 8 (unsignedOf 64 (base + corrUnits ((tbnAt g.views g.m0 n (ns32 t) : Int) - tbnAt g.views g.m0 n m)))
  | .residence tin base link => bytesBE 8 (unsignedOf 64 (base + corrUnits ((ns32 t : Int) - tin) + link))

/-- Every field of a frame filled for an instant, in bytes whose first is the message's or the frame's first. -/
def Dev.fixAll (d : Dev) (h : Half) (g : GFrame) (t : Nat) (l : List Byte) : List Byte :=
  g.fixes.foldl (fun x f => patchB x f.off (d.fixBytes h g (g.ev.getD t) f.kind)) l

/-- A UDP checksum updated under RFC 1624 for bytes that changed (R304): an IPv4 checksum of zero stays zero. -/
def udpUpdated (old new : List Byte) (o : Nat) (v6 : Bool) : List Byte :=
  let c := beAt old o 2
  if c = 0 ∧ !v6 then new
  else
    let n := old.length
    let flip := (n + 1) / 2 * 65535 - onesSum old
    let s := 65535 - foldSum ((65535 - c) + flip + onesSum new)
    patchB new o (bytesBE 2 (if s = 0 then 65535 else s))

/-- The bytes of a gated frame launched at an instant, before any redundancy trailer (R304, R320, R338). -/
def Dev.gBytes (d : Dev) (h : Half) (g : GFrame) (t : Nat) : List Byte :=
  match g.body with
  | .built o payload => frameOf o (d.fixAll h g t payload)
  | .raw bytes csum v6 =>
    let n := d.fixAll h g t bytes
    match csum with | some o => udpUpdated bytes n o v6 | none => n

/-- The redundancy control trailer (R402) of a frame on a port launched at an instant in ns. [PRESUMED log 128] -/
def prpTrailer (p t : Nat) (frame : List Byte) : List Byte :=
  let size := frame.length - (ethHdr frame).off + 6
  bytesBE 2 ((4 * (t / 8) + p / 2) % 65536) ++ bytesBE 2 ((if p % 2 = 0 then 0xA else 0xB) * 4096 + size % 4096) ++
    bytesBE 2 0x88FB

/-- The bytes of a gated frame as they leave, FCS excluded: no field of the device's own but the redundancy trailer of a
port that has it enabled (R399). -/
def Dev.gWire (d : Dev) (h : Half) (g : GFrame) (t : Nat) : List Byte :=
  let f := d.gBytes h g t
  if g.prp then f ++ prpTrailer g.port t f else f

/-! ### Deadlines and windows -/

/-- The transmit path of a port in 2^-32 ns: TX_TRIM + TX_FIX + TX_VAR (R317, R318). -/
def Dev.txPath (d : Dev) (p : Nat) : Int :=
  ((d.g (pcsPg p) Reg.PCS.TX_FIX : Int) + d.g (pcsPg p) Reg.PCS.TX_VAR + signedOf 32 (d.g (pcsPg p) Reg.PCS.TX_TRIM)) *
    2 ^ 32 / 1000

/-- The deadline D of a gated frame at T (R318), in 2^-32 ns. -/
def Dev.deadline (d : Dev) (p t : Nat) : Int := (ns32 t : Int) - d.txPath p - ns32 48

/-- The window that a gated frame occupies (R319), in 2^-32 ns: 8 octets before T to its length from the SFD, FCS
included, and 12 octets after. [DEDUCED log 131] -/
def Dev.window (d : Dev) (g : GFrame) (t : Nat) : Nat × Nat :=
  let n := (d.gWire (portHalf g.port) g t).length
  (ns32 t - d.octets g.port 8, ns32 t + d.octets g.port (1 + n + 4 + 12))

/-- Two windows overlap. -/
def overlaps (a b : Nat × Nat) : Bool := decide (a.1 < b.2) && decide (b.1 < a.2)

/-- The windows that stand in the way of a frame on its port: those of the held frames and of the queued frame in
progress. -/
def Dev.windowsAt (d : Dev) (p : Nat) : List (Nat × Nat) :=
  let q := d.port p
  (if d.tb0 (portHalf p) < q.txTo then [(q.txFrom, q.txTo)] else []) ++ (d.gate p).held.map fun g => d.window g g.t

/-- A frame of mode REPORT. -/
def GFrame.isReport (g : GFrame) : Bool := match g.src with | .hostReport _ => true | _ => false

/-- The first grid instant from `t` on at which a frame overlaps none of some windows. -/
def Dev.fitFrom (d : Dev) (g : GFrame) (ws : List (Nat × Nat)) : Nat → Nat → Nat
  | 0, t => t
  | k + 1, t =>
    match ws.find? (fun w => overlaps (d.window g t) w) with
    | none => t
    | some w => d.fitFrom g ws k (gridUp (w.2 + d.octets g.port 8))

/-- T′ (R320): the first grid instant, not before T, whose deadline is still ahead and whose window overlaps no held
window. -/
def Dev.firstFit (d : Dev) (g : GFrame) : Nat :=
  let ws := d.windowsAt g.port
  let base := gridUp ((d.tb0 (portHalf g.port) : Int) + d.txPath g.port + ns32 48).toNat
  d.fitFrom g ws (ws.length + 1) (if g.isReport then base else max base g.t)

/-! ### Reports -/

/-- A report queued (R326): RPT_DATA when it brings the depth to THR. -/
def Dev.report (d : Dev) (p : Nat) (r : Report) : Dev :=
  let g := d.gate p
  (d.setGate p { g with reports := g.reports ++ [r] }).raiseIf
    (g.reports.length + 1 == max 1 (d.g (lgtG p) Reg.LGT.RPTCTL_THR)) (lgtPg (portHalf p)) (lgtEvt p 0)

/-- The report of a host frame that ends without being sent. -/
def Dev.reportFate (d : Dev) (g : GFrame) (status : Nat) : Dev :=
  match g.src with
  | .hostAt t => d.report g.port { tag := t, status := status }
  | .hostReport t => d.report g.port { tag := t, status := status }
  | _ => d

/-- POP (R328): frees the head report and returns one credit. -/
def reportPopped (p : Nat) (d : Dev) : Dev :=
  match (d.gate p).reports with
  | [] => d
  | _ :: rs => (d.setGate p { d.gate p with reports := rs }).p (lgtG p) Reg.LGT.RPTSTAT_CREDITS
      (min 512 (d.g (lgtG p) Reg.LGT.RPTSTAT_CREDITS + 1))

/-- RPTCTL written (R328): THR, and POP. -/
def rptctlWritten (p v : Nat) (d : Dev) : Dev :=
  let d1 := d.p (lgtG p) Reg.LGT.RPTCTL_THR (v / 65536)
  if bitAt v 0 then reportPopped p d1 else d1

/-! ### Follow-ups of two-step pairs (R335) -/

/-- The frames that follow an event message of a half, wherever they wait, changed by a function of each. -/
def Dev.mapFollow (d : Dev) (h : Half) (id : Nat) (f : GFrame → Option GFrame) : Dev :=
  let one := fun (l : List GFrame) => l.filterMap fun g => if g.after = some id then f g else some g
  let d1 := { d with resp := d.resp.put h { d.resp.of h with follow := one (d.resp.of h).follow } }
  let d2 := { d1 with planes := d1.planes.put h { d1.planes.of h with gateIn := one (d1.planes.of h).gateIn } }
  d2.each 4 fun j e => e.setGate (2 * j + h.num) { e.gate (2 * j + h.num) with held := one (e.gate (2 * j + h.num)).held }

/-- A dropped event message takes its follow-up with it. -/
def Dev.dropFollow (d : Dev) (g : GFrame) : Dev := d.mapFollow (portHalf g.port) g.id fun _ => none

/-- The follow-up of an event message re-stamped to `t`: its instant is `t` + 2,048 ns, and the field that states the event's
instant is written from `t`. -/
def Dev.moveFollow (d : Dev) (g : GFrame) (t : Nat) : Dev :=
  let h := portHalf g.port
  d.mapFollow h g.id fun x =>
    some { x with t := t + 2048, ev := some t }

/-! ### Arrival, lateness and release -/

/-- A counter of the responder (R366). -/
def Dev.trsCount (d : Dev) (h : Half) (c : Nat) : Dev :=
  d.setw (trsPg h + 0x360 + 4 * c) (d.w (trsPg h + 0x360 + 4 * c) + 1)

/-- A wasted responder slot (R320, R333, R493). -/
def Dev.wasted (d : Dev) (h : Half) (cls : Nat := 0) : Dev := d.perf (trsPg h) 0x02 { cls := some cls }

/-- A gated frame dropped for lateness (R320); a blocked one has raised LGT_LATE already (R329). -/
def Dev.lateDrop (d : Dev) (g : GFrame) (blocked : Bool := false) : Dev :=
  let h := portHalf g.port
  let d1 := ((d.inc (lgtG g.port) Reg.LGT.LATE_DROP).raiseIf (!blocked) (lgtPg h) (lgtEvt g.port 1)).perf (lgtPg h) 0x02
    { address := some (g.port / 2) }
  match g.src with
  | .reply _ => (if g.cls < 5 then d1.wasted h g.cls else d1).dropFollow g
  | _ => d1.reportFate g 1

/-- A gated frame discarded (R321 to R323), counted, with the status its host frame reports. -/
def Dev.gateDiscard (d : Dev) (status : Nat) (g : GFrame) : Dev :=
  (((d.inc (lgtG g.port) Reg.LGT.DISCARD).raise (lgtPg (portHalf g.port)) (lgtEvt g.port 3)).reportFate g status).dropFollow g

/-- A gated frame placed among those held. -/
def Dev.keepHeld (d : Dev) (g : GFrame) (t : Nat) : Dev :=
  let st := d.gate g.port
  d.setGate g.port { st with held := st.held ++ [{ g with t := t, at_ := d.stepgen.of (portHalf g.port) }] }

/-- TRS.LATE.RESTAMP of a half. -/
def Dev.restamps (d : Dev) (h : Half) : Bool := d.gb (trsPg h) Reg.TRS.LATE

/-- A late or blocked gated frame handled by its source (R320). [DEDUCED log 220] -/
def Dev.lateHandled (d : Dev) (g : GFrame) (blocked : Bool := false) : Dev :=
  let h := portHalf g.port
  let t' := d.firstFit g
  match g.src with
  | .reply auth =>
    if auth || !(d.restamps h) || g.t + 8000 < t' then d.lateDrop g blocked
    else
      ((((d.inc (lgtG g.port) Reg.LGT.RESTAMPED).raiseIf (!blocked) (lgtPg h) (lgtEvt g.port 1)).perf (lgtPg h) 0x02
        { address := some (g.port / 2) }).keepHeld g t').moveFollow g t'
  | .tc => ((d.inc (swcPg h) Reg.SWC.TC_RESTAMP).raise (swcPg h) 2).keepHeld g t'
  | .hostAt _ => d.lateDrop g blocked
  | .hostReport _ => d.keepHeld g t'

/-- A blocked frame counted (R319). -/
def Dev.blockedCount (d : Dev) (g : GFrame) : Dev :=
  ((d.inc (lgtG g.port) Reg.LGT.BLOCKED).raise (lgtPg (portHalf g.port)) (lgtEvt g.port 1)).perf
    (lgtPg (portHalf g.port)) 0x02 { address := some (g.port / 2) }

/-- Whether the first of two gated frames yields to the second: the later T, then the later mean ingress instant; the
second is the one that arrived first. -/
def yields (a b : GFrame) : Bool :=
  decide (b.t < a.t) || (a.t == b.t && decide (b.mean ≤ a.mean))

/-- A frame in time at the gate is compared with what it overlaps (R319): it is blocked by the queued frame in progress and by
held frames it yields to; held frames that yield to it are blocked in turn. [DEDUCED log 220] -/
def Dev.place (d : Dev) (g : GFrame) : Dev :=
  let q := d.port g.port
  let w := d.window g g.t
  let st := d.gate g.port
  let hit := st.held.filter fun x => overlaps w (d.window x x.t)
  if (decide (d.tb0 (portHalf g.port) < q.txTo) && overlaps w (q.txFrom, q.txTo)) || hit.any (yields g) then
    (d.blockedCount g).lateHandled g true
  else
    let d1 := d.setGate g.port { st with held := st.held.filter fun x => !(hit.any fun y => y.id == x.id) }
    hit.foldl (fun e x => (e.blockedCount x).lateHandled x true) (d1.keepHeld g g.t)

/-- The gate's memory is full: 256 frames, within 64 KiB (R316). -/
def Dev.gateFull (d : Dev) (p n : Nat) : Bool :=
  let l := (d.gate p).held
  decide (256 ≤ l.length) ||
    decide (65536 < (l.map fun g => (d.gWire (portHalf p) g g.t).length).foldl (· + ·) n)

/-- LGT.CTRL.ENABLE of a half. -/
def Dev.gateOn (d : Dev) (h : Half) : Bool := d.enabled (lgtPg h)

/-- A gated frame reaches its port's gate (R316 to R324). -/
def Dev.gateArrive (d : Dev) (g : GFrame) : Dev :=
  let p := g.port
  let h := portHalf p
  if !(d.gateOn h) then d.gateDiscard 5 g
  else if !(d.portUp p) || !(d.gb (pcsPg p) Reg.PCS.PSTAT_DLY_VALID) then
    ((d.macInc p 17).reportFate g 2).dropFollow g
  else if d.gb (lgtG p) Reg.LGT.GSTAT_BLIND then d.gateDiscard 3 g
  else
    match g.src with
    | .hostReport _ => d.keepHeld g (d.firstFit g)
    | .hostAt _ =>
      if g.gen ≠ d.stepgen.of h then d.gateDiscard 4 g
      else if d.tb0 h + ns32 1000000 < ns32 g.t then d.reportFate g 6
      else if d.deadline p g.t < d.tb0 h then d.lateHandled g
      else d.place g
    | _ =>
      if g.gen ≠ d.stepgen.of h then d.gateDiscard 4 g
      else if d.deadline p g.t < d.tb0 h then d.lateHandled g
      else d.place g

/-- A producer may pass a frame of `n` bytes toward a port's gate (R22, R316): the frames that the gate holds and those that
wait in its line leave a credit and room in its memory. [DEDUCED log 237] -/
def Dev.gateCredit (d : Dev) (p n : Nat) : Bool :=
  let l := (d.gate p).held ++ (d.planes.of (portHalf p)).gateIn.filter fun g => g.port == p
  decide (l.length < 256) &&
    decide ((l.map fun g => (d.gWire (portHalf p) g g.t).length).foldl (· + ·) n ≤ 65536)

/-- A producer's frame put in line for a gate credit of its port's half. -/
def Dev.toGate (d : Dev) (g : GFrame) : Dev :=
  let h := portHalf g.port
  { d with planes := d.planes.put h { d.planes.of h with gateIn := (d.planes.of h).gateIn ++ [g] } }

/-- The earliest of some gated frames. -/
def earliest (l : List GFrame) : Option GFrame :=
  l.foldl (fun b g => match b with | none => some g | some x => if g.t < x.t then some g else some x) none

/-- The gate releases a frame so that its SFD crosses the balls at T (R317, R326): the earliest held frame whose T has come.
[DESIGN CHOICE log 2; DEDUCED log 147] -/
def gateReleased (p : Nat) (d : Dev) : Dev :=
  let h := portHalf p
  match earliest (d.gate p).held with
  | none => d
  | some g =>
    if d.tb0 h < ns32 g.t || !(d.portUp p) then d
    else
      let w := d.window g g.t
      let bytes := d.gWire h g g.t
      let d1 := d.setGate p { d.gate p with held := (d.gate p).held.filter fun x => x.id != g.id }
      let d2 := (d1.inc (lgtG p) Reg.LGT.LAUNCHED).perf (lgtPg h) 0x01 { address := some (p / 2) }
      let d3 := ((d2.macInc p 12).macInc p 13 (bytes.length + 4)).perf (macPg p) 0x02
      let d4 := if d3.paused p 8 || (List.range 8).any (d3.paused p) then d3.macInc p 19 else d3
      let d5 := d4.setPort p { d4.port p with
        txFrom := w.1, txTo := w.2, last := some { at_ := ns32 g.t, gated := true, bad := false, bytes := bytes } }
      match g.src with
      | .hostAt t => d5.report p { tag := t, status := 0, sec := g.t / 10 ^ 9, nsec := g.t % 10 ^ 9 }
      | .hostReport t => d5.report p { tag := t, status := 0, sec := g.t / 10 ^ 9, nsec := g.t % 10 ^ 9 }
      | .reply _ =>
        if g.cls < 5 then (d5.trsCount h 3).perf (trsPg h) 0x01 { cls := some g.cls }
        else if g.cls = 5 then d5.trsCount h 10 else if g.cls = 6 then d5.trsCount h 11 else d5
      | .tc => d5

/-- Every frame held at a port's gate that a condition names is discarded (R321 to R323). -/
def Dev.gateFlush (d : Dev) (p status : Nat) (c : GFrame → Bool := fun _ => true) : Dev :=
  let st := d.gate p
  (st.held.filter c).foldl (fun e g => e.gateDiscard status g) (d.setGate p { st with held := st.held.filter fun g => !(c g) })

/-- A host frame of mode REPORT or AT. -/
def GFrame.isHost (g : GFrame) : Bool := match g.src with | .hostReport _ => true | .hostAt _ => true | _ => false

/-- A step of a half's TB0 (R321): the step generation advances, and what the gates hold, REPORT frames excepted, is
discarded. -/
def gateStepped (h : Half) (d : Dev) : Dev :=
  let d1 := { d with stepgen := d.stepgen.put h ((d.stepgen.of h + 1) % 16) }
  d1.each 4 fun j e => e.gateFlush (2 * j + h.num) 4 fun g => !g.isReport

/-- The gate of a port sees no transmit tracking stamp for 2 µs, or its unit is out of service (R322). -/
def Dev.gateBlind (d : Dev) (p : Nat) : Bool :=
  let h := portHalf p
  d.gb (tdcP h (32 + p)) Reg.TDC.PSTAT_OOS ||
    (match d.track h (32 + p) with | [] => true | e :: _ => decide (e.1 + ns32 2000 ≤ d.tb0 h))

/-- The gate becomes blind (R322). -/
def gateBlinded (p : Nat) (d : Dev) : Dev :=
  if d.gb (lgtG p) Reg.LGT.GSTAT_BLIND || !(d.gateBlind p) then d
  else ((d.pb (lgtG p) Reg.LGT.GSTAT_BLIND true).raise (lgtPg (portHalf p)) (lgtEvt p 2)).gateFlush p 3

/-- A transmit tracking stamp of the gate's own unit ends blindness (R322). -/
def gateSees (h : Half) (cp : Nat) (d : Dev) : Dev :=
  if 32 ≤ cp && cp ≤ 39 && portHalf (cp - 32) == h && !(d.gateBlind (cp - 32)) then
    d.pb (lgtG (cp - 32)) Reg.LGT.GSTAT_BLIND false
  else d

/-- ENABLE cleared, or SOFT_RESET, of a half's LGT page (R323): held frames are discarded. -/
def gateStopped (h : Half) (d : Dev) : Dev := d.each 4 fun j e => e.gateFlush (2 * j + h.num) 5

/-- The counters of an LGT page zeroed by its SOFT_RESET (R328). -/
def lgtSoftReset (h : Half) (d : Dev) : Dev :=
  (gateStopped h d).each 4 fun j e => e.each 7 fun i x => x.setw (lgtG (2 * j + h.num) + 4 + 4 * i) 0

/-- The reset of a half (R323): gates and report queues are emptied and credits return to 512. -/
def gateHalfReset (h : Half) (d : Dev) : Dev :=
  d.each 4 fun j e =>
    ((e.setGate (2 * j + h.num) {}).p (lgtG (2 * j + h.num)) Reg.LGT.RPTSTAT_CREDITS 512).pb (lgtG (2 * j + h.num))
      Reg.LGT.GSTAT_BLIND false

/-- TX_TRIM written (R285, R318): the deadline of every held frame moves, and one that the change makes late is handled under
R320. -/
def txTrimWritten (p v : Nat) (d : Dev) : Dev :=
  let d1 := d.p (pcsPg p) Reg.PCS.TX_TRIM v
  let late := (d1.gate p).held.filter fun g => decide (d1.deadline p g.t < d1.tb0 (portHalf p))
  late.foldl (fun e g => e.lateHandled g)
    (d1.setGate p { d1.gate p with held := (d1.gate p).held.filter fun g => !(late.any fun x => x.id == g.id) })

end Sys2Proof.Machine
end

