-- ==== Sys2Proof/Machine/Plane.lean ====
section
/-! DEFINITION. Switch planes (R289 to R308) and what a received frame goes through (R278, R279, R289, R310 to R312, R330,
R402, R403): the forwarding table, admission, cut-through, scheduling, flush, flow control, the transparent clock and the
bridge; and link down (R273). -/

namespace Sys2Proof.Machine

/-- The SWT page of a half. -/
def swtPg (h : Half) : Nat := pageAddr .swt h 0

/-- The SWC block of a local port (R306): 4 is the host port H. -/
def swcW (h : Half) (j : Nat) : Nat := swcPg h + 0x100 + 0x20 * j

/-- The SWT block of a queue (R307). -/
def swtQ (h : Half) (j c : Nat) : Nat := swtPg h + 0x100 + 0x80 * j + 0x10 * c

/-- The SWT counters of a local port (R307). -/
def swtK (h : Half) (j : Nat) : Nat := swtPg h + 0x400 + 0x10 * j

/-- The plane of a half. -/
def Dev.plane (d : Dev) (h : Half) : Plane := d.planes.of h

/-- The device with a plane replaced. -/
def Dev.setPlane (d : Dev) (h : Half) (v : Plane) : Dev := { d with planes := d.planes.put h v }

/-- The frames queued for a local port and class, by identity. -/
def Dev.queue (d : Dev) (h : Half) (j c : Nat) : List Nat := tget [] (d.plane h).queues (j * 8 + c)

/-- The device with a queue replaced. -/
def Dev.setQueue (d : Dev) (h : Half) (j c : Nat) (l : List Nat) : Dev :=
  d.setPlane h { d.plane h with queues := tset [] (d.plane h).queues (j * 8 + c) l }

/-- A stored frame by its identity. -/
def Dev.stored (d : Dev) (h : Half) (id : Nat) : Option SFrame := (d.plane h).frames.find? fun f => f.id == id

/-- BUFSTAT.FREE. -/
def Dev.free_ (d : Dev) (h : Half) : Nat := d.g (swcPg h) Reg.SWC.BUFSTAT

/-! ### Flow control (R301) -/

/-- The cells held by frames that a port received, all or of one class. -/
def Dev.ingCells (d : Dev) (p c : Nat) : Nat :=
  (((d.plane (portHalf p)).frames.filter fun f => f.inPort == p && (c == 8 || f.cls == c)).map (·.cells)).foldl (· + ·) 0

/-- XFC.XON of a port: at or above XOFF it is treated as XOFF − 1. -/
def Dev.xon (d : Dev) (p : Nat) : Nat :=
  let b := swcW (portHalf p) (p / 2)
  let off := d.g b Reg.SWC.XFC_XOFF
  let on := d.g b Reg.SWC.XFC_XON
  if off ≤ on then off - 1 else on

/-- A PAUSE (class 8) or PFC put in line. -/
def Dev.fcQueue (d : Dev) (p c quanta : Nat) : Dev :=
  d.setPort p { d.port p with
    fcDue := (d.port p).fcDue ++ [(c, quanta)]
    fcSent := tset 0 (d.port p).fcSent c (if quanta = 0 then 0 else d.tb0 (portHalf p) + 1) }

/-- The threshold rule of one class, 8 for PAUSE. -/
def Dev.fcCheck (d : Dev) (p c : Nat) : Dev :=
  let n := d.ingCells p c
  let sent := tget 0 (d.port p).fcSent c
  if sent = 0 && d.g (swcW (portHalf p) (p / 2)) Reg.SWC.XFC_XOFF ≤ n then d.fcQueue p c 0xFFFF
  else if sent ≠ 0 && n ≤ d.xon p then d.fcQueue p c 0
  else d

/-- A rule that MCFG no longer selects ends at its XON crossing, and sends nothing there (R286, R301). -/
def Dev.fcIdle (d : Dev) (p c : Nat) : Dev :=
  if tget 0 (d.port p).fcSent c ≠ 0 && d.ingCells p c ≤ d.xon p then
    d.setPort p { d.port p with fcSent := tset 0 (d.port p).fcSent c 0 }
  else d

/-- INGCELLS of a port and what crosses its thresholds (R301). -/
def Dev.flowCheck (d : Dev) (p : Nat) : Dev :=
  if 7 < p then d
  else
    let d1 := d.p (swcW (portHalf p) (p / 2)) Reg.SWC.INGCELLS (d.ingCells p 8)
    let on := d.en (macPg p) (macPg p) Reg.MAC.MCFG_TX_FC_EN
    let pfc := d.gb (macPg p) Reg.MAC.MCFG_PFC_MODE
    d1.each 9 fun c e => if on && (pfc == decide (c < 8)) then e.fcCheck p c else e.fcIdle p c

/-- Half of the pause time that a port asked for has passed with its cells above XON (R301). -/
def pauseRepeated (p c : Nat) (d : Dev) : Dev :=
  let sent := tget 0 (d.port p).fcSent c
  if sent ≠ 0 && decide (d.xon p < d.ingCells p c) && decide (sent + d.octets p (64 * 0xFFFF) / 2 ≤ d.tb0 (portHalf p) + 1)
  then d.fcQueue p c 0xFFFF else d

/-- The bytes of a PAUSE or PFC frame. [PRESUMED log 127] -/
def fcFrame (c quanta : Nat) : List Byte :=
  let l := bytesBE 6 0x0180C2000001 ++ List.replicate 6 0 ++ bytesBE 2 0x8808 ++
    (if c = 8 then bytesBE 2 1 ++ bytesBE 2 quanta
     else bytesBE 2 0x0101 ++ bytesBE 2 (2 ^ c) ++ (List.range 8).flatMap fun k => bytesBE 2 (if k = c then quanta else 0))
  l ++ List.replicate (60 - l.length) 0

/-! ### The buffer -/

/-- The cells of a frame of `n` bytes without FCS. -/
def cellsOf (n : Nat) : Nat := ceilDiv (n + 4) 256

/-- A frame whose last reference has gone returns its cells (R299). -/
def Dev.freeFrame (d : Dev) (h : Half) (f : SFrame) : Dev :=
  let pl := d.plane h
  ((d.setPlane h { pl with frames := pl.frames.filter fun x => x.id != f.id }).p (swcPg h) Reg.SWC.BUFSTAT
    (d.free_ h + f.cells)).flowCheck f.inPort

/-- A frame leaves a queue. -/
def Dev.unqueue (d : Dev) (h : Half) (f : SFrame) (j : Nat) : Dev :=
  let q := swtQ h j f.cls
  (d.setQueue h j f.cls ((d.queue h j f.cls).filter (· != f.id))).p q Reg.SWT.QDEPTH_FRAMES (d.g q Reg.SWT.QDEPTH_FRAMES - 1)

/-- A destination holds a frame no longer: it has finished it at an instant, or its reference is removed. With the last one the frame's
cells are freed (R299). -/
def Dev.refDone (d : Dev) (h : Half) (f : SFrame) (j : Nat) (done : Option Nat) : Dev :=
  let q := swtQ h j f.cls
  let d1 := d.p q Reg.SWT.QDEPTH_CELLS (d.g q Reg.SWT.QDEPTH_CELLS - f.cells)
  let f1 : SFrame := { f with refs := f.refs.filter (· != j), doneAt := f.doneAt.orElse fun _ => done }
  if f1.refs.isEmpty then d1.freeFrame h f1
  else d1.setPlane h { d1.plane h with frames := (d1.plane h).frames.map fun x => if x.id = f.id then f1 else x }

/-- A reference of a frame taken out of its queue; `done` says that the destination finished the frame. -/
def Dev.dropRef (d : Dev) (h : Half) (f : SFrame) (j : Nat) (done : Bool) : Dev :=
  (d.unqueue h f j).refDone h f j (if done then some (d.tb0 h) else none)

/-- A destination's reference to a frame waits in its queue. -/
def Dev.isQueued (d : Dev) (h : Half) (f : SFrame) (j : Nat) : Bool := (d.queue h j f.cls).contains f.id

/-- Every reference queued for a port removed and counted in FLUSHED (R300); a frame being sent completes. -/
def Dev.flushPort (d : Dev) (h : Half) (j : Nat) : Dev :=
  ((d.plane h).frames.filter fun f => d.isQueued h f j).foldl (fun e f =>
    match e.stored h f.id with
    | none => e
    | some x => (e.dropRef h x j false).inc (swtK h j) Reg.SWT.FLUSHED) d

/-- A multicast frame held for others MCAGE.US after its first finish loses its remaining references (R299). -/
def mcAged (h : Half) (i : Nat) (d : Dev) : Dev :=
  match (d.plane h).frames[i]? with
  | none => d
  | some f =>
    match f.doneAt with
    | none => d
    | some t =>
      if d.tb0 h < t + ns32 (1000 * max 1 (d.g (swcPg h) Reg.SWC.MCAGE)) then d
      else (f.refs.filter fun j => d.isQueued h f j).foldl (fun e j =>
        match e.stored h f.id with
        | none => e
        | some x => ((e.dropRef h x j false).inc (swtK h j) Reg.SWT.MC_AGED).raise (swtPg h) 6) d

/-! ### Admission and cut-through -/

/-- A queued frame of `n` bytes would still occupy the port at the instant of a frame held at its gate (R296).
[DEDUCED log 132] -/
def Dev.defers (d : Dev) (p n : Nat) : Bool :=
  let now := d.tb0 (portHalf p)
  let stop := now + d.octets p (wireOctets n)
  (d.gate p).held.any fun g => decide ((d.window g g.t).1 < stop)

/-- A port transmits: a queued or gated frame is in progress. -/
def Dev.busy (d : Dev) (p : Nat) : Bool := decide (d.tb0 (portHalf p) < (d.port p).txTo)

/-- The global number of a half's local port. -/
def portOf (h : Half) (j : Nat) : Nat := 2 * j + h.num

/-- A port has finished the queued frame that it was sending (R299). [DEDUCED log 265] -/
def Dev.sendEnded (d : Dev) (p : Nat) : Dev :=
  match (d.port p).sending with
  | none => d
  | some x =>
    if d.tb0 (portHalf p) < x.2 then d
    else
      let d1 := d.setPort p { d.port p with sending := none }
      match d.stored (portHalf p) x.1 with
      | some f => if f.refs.contains (p / 2) then d1.refDone (portHalf p) f (p / 2) (some x.2) else d1
      | none => d1

/-- MAXLEN of a frame's ingress port in cells (R295). -/
def Dev.needCells (d : Dev) (inPort : Nat) : Nat := if 7 < inPort then 36 else ceilDiv (d.maxLen inPort) 256

/-- A destination cuts a frame through (R297). -/
def Dev.cutsThrough (d : Dev) (h : Half) (inPort j cls n : Nat) : Bool :=
  let p := portOf h j
  decide (j < 4) && d.gb (swtQ h j cls) Reg.SWT.QCFG_CT && decide (inPort < 8) && decide (d.portRate p ≤ d.portRate inPort) &&
    (d.queue h j cls).isEmpty && !(d.busy p) && !(d.paused p cls) && !(d.defers p n) && !(d.returning h)

/-- A destination queue admits a frame (R295). -/
def Dev.admits (d : Dev) (h : Half) (j cls need : Nat) : Bool :=
  let q := swtQ h j cls
  decide (d.g q Reg.SWT.QDEPTH_CELLS + need ≤ d.g q Reg.SWT.QCFG_QMAX)

/-- A refused destination counted (R295). -/
def Dev.admitDrop (d : Dev) (h : Half) (j cls : Nat) : Dev := (d.inc (swtQ h j cls) Reg.SWT.ADMIT_DROP).raise (swtPg h) j

/-- A frame's admission to a plane for some of its local ports (R295, R300): the destinations that are down are removed and
counted in FLUSHED; the rest are admitted, or refused and counted. Those that take it, or none where the frame is
dropped whole. [DEDUCED log 134] -/
def Dev.admission (d : Dev) (h : Half) (inPort cls : Nat) (js : List Nat) : Dev × List Nat :=
  let need := d.needCells inPort
  let down := js.filter fun j => decide (j < 4) && !(d.portUp (portOf h j))
  let up := js.filter fun j => !(down.contains j)
  let d1 := down.foldl (fun e j => e.inc (swtK h j) Reg.SWT.FLUSHED) d
  let ok := up.filter fun j => d.admits h j cls need
  let room := decide (need ≤ d.free_ h)
  let refused := if room then up.filter fun j => !(ok.contains j) else up
  let d2 := refused.foldl (fun e j => e.admitDrop h j cls) d1
  let low := d.g (swcPg h) Reg.SWC.LOWMARK
  let d3 := d2.raiseIf (room && !ok.isEmpty && decide (low ≤ d.free_ h) && decide (d.free_ h - need < low)) (swcPg h) 1
  (d3, if room then ok else [])

/-- A frame stored for queues of a plane, with no error in it (R294). -/
def Dev.enqueue (d : Dev) (h : Half) (f : SFrame) : Dev :=
  if f.refs.isEmpty then d
  else
    let pl := d.plane h
    let d1 := (d.setPlane h { pl with frames := pl.frames ++ [{ f with id := pl.nextId }], nextId := pl.nextId + 1 }).p
      (swcPg h) Reg.SWC.BUFSTAT (d.free_ h - f.cells)
    let d2 := f.refs.foldl (fun e j =>
      let q := swtQ h j f.cls
      ((e.setQueue h j f.cls (e.queue h j f.cls ++ [pl.nextId])).p q Reg.SWT.QDEPTH_CELLS
        (e.g q Reg.SWT.QDEPTH_CELLS + f.cells)).inc q Reg.SWT.QDEPTH_FRAMES) d1
    d2.flowCheck f.inPort

/-- A frame offered to a plane for local ports (R295 to R298): admission, cut-through where every condition holds, the queues
for the rest. `err` says that its tail shows an error of R298: the destinations that have begun it end it stomped, and
the others drop it. -/
def Dev.offerFrame (d : Dev) (h : Half) (f : SFrame) (js : List Nat) (err tc : Bool) : Dev :=
  let r := d.admission h f.inPort f.cls js
  let ct := if tc then [] else r.2.filter fun j => r.1.cutsThrough h f.inPort j f.cls f.bytes.length
  let d1 := ct.foldl (fun e j =>
    let p := portOf h j
    let x := (((e.sendEnded p).startFrame p f.bytes err (some f.cls)).inc (swtQ h j f.cls) Reg.SWT.TXF).perf (swcPg h) 0x02 { address := some j } 1 3
    if err then (((x.macInc p 16).inc (swtK h j) Reg.SWT.STOMPED).raise (swtPg h) 5) else x) r.1
  if err then d1
  else
    let rest := r.2.filter fun j => !(ct.contains j)
    d1.enqueue h { f with
      refs := rest
      doneAt := (ct.map fun j => (d1.port (portOf h j)).txTo).foldl (fun (m : Option Nat) t => some (min (m.getD t) t)) none }

/-! ### The forwarding table (R291 to R293) -/

/-- The place of word `w` of entry `n` of a half's table. -/
def fwdKey (h : Half) (n w : Nat) : Nat := (h.num * 4096 + n) * 4 + w

/-- A word of a committed entry. -/
def Dev.fwdWord (d : Dev) (h : Half) (n w : Nat) : Nat := (tget 0 d.fwd (fwdKey h n w)).toNat

/-- A staged word; nothing staged since the last commit leaves the committed one. -/
def Dev.fwdStaged (d : Dev) (h : Half) (n w : Nat) : Nat :=
  match tget none d.fwdStage (fwdKey h n w) with
  | some v => v.toNat
  | none => d.fwdWord h n w

/-- The writable bits of an entry's words (R292). -/
def fwdMask (w : Nat) : Nat :=
  match w with
  | 0 => 0xFFFFFFFF | 1 => 0x1FFFFFFF | 2 => 0xF1FF | _ => 0x80000000

/-- A word of an entry written: words 0 to 2 are staged; word 3 commits all four (R292). -/
def fwdWritten (h : Half) (n w v : Nat) (d : Dev) : Dev :=
  let v := BitVec.ofNat 32 (v &&& fwdMask w)
  if w < 3 then
    { d with fwdStage := tset none d.fwdStage (fwdKey h n w) (some v) }
  else
    { d with
      fwd := tset 0 ((List.range 3).foldl (fun (t : Tab Word) i =>
        tset 0 t (fwdKey h n i) (BitVec.ofNat 32 (d.fwdStaged h n i))) d.fwd) (fwdKey h n 3) v
      fwdStage := (List.range 3).foldl (fun (t : Tab (Option Word)) i => t.erase (fwdKey h n i)) d.fwdStage }

/-- The lowest-numbered entry that matches a destination address and VLAN identifier (R291). -/
def Dev.fwdLookup (d : Dev) (h : Half) (dst vid : Nat) : Option Nat :=
  d.fwd.findSome? fun (e : Nat × Word) =>
    let n := e.1 / 4 % 4096
    if e.1 % 4 = 3 && e.1 / 16384 == h.num && bitAt e.2.toNat 31 &&
        d.fwdWord h n 0 + d.fwdWord h n 1 % 2 ^ 16 * 2 ^ 32 == dst &&
        (!(bitAt (d.fwdWord h n 1) 28) || getBits (d.fwdWord h n 1) 16 12 == vid) then some n else none

/-- The class of a frame (R290): from its PCP or DEF_CLASS, or a matching entry's own. -/
def Dev.classOf (d : Dev) (h : Half) (j : Nat) (e : EthHdr) (ent : Option Nat) : Nat :=
  let own := if e.tagged then getBits (d.w (swcW h j + 4)) (3 * e.pcp) 3 else d.g (swcW h j) Reg.SWC.PCFG_DEF_CLASS
  match ent with
  | none => own
  | some n => if bitAt (d.fwdWord h n 2) 15 then getBits (d.fwdWord h n 2) 12 3 else own

/-- The lookup of row 5 (R289, R291): the destinations less the ingress port, and the class, counted. -/
def Dev.lookup (d : Dev) (h : Half) (inPort : Nat) (e : EthHdr) : Dev × Nat × Nat :=
  let j := if 7 < inPort then 4 else inPort / 2
  let ent := d.fwdLookup h e.dst (if e.tagged then e.vid else 0)
  let cls := d.classOf h j e ent
  let d1 := (d.perf (swcPg h) 0x01 { address := some j, cls := some cls } 1 3)
  let d2 := if ent.isNone then d1.inc (swcPg h) Reg.SWC.FW_FLOOD else d1
  let mask := match ent with
    | some n => d.fwdWord h n 2 % 512
    | none => d.g (swcW h j) Reg.SWC.PCFG_FLOOD
  (d2, setBits mask (min inPort 8) 1 0, cls)

/-- The local ports of a half in a destination mask; H only for the half itself. [DEDUCED log 136] -/
def localPorts (h : Half) (mask : Nat) (host : Bool) : List Nat :=
  ((List.range 4).filter fun j => bitAt mask (portOf h j)) ++ (if host && bitAt mask 8 then [4] else [])

/-- What waits to cross to the other plane (R305). -/
def Dev.toBridge (d : Dev) (h : Half) (i : BridgeItem) : Dev :=
  d.setPlane h { d.plane h with bridge := (d.plane h).bridge ++ [i] }

/-- A frame forwarded by row 5 (R289, R294). -/
def Dev.forward (d : Dev) (h : Half) (bytes : List Byte) (desc : Desc) (inPort flags mask cls : Nat) (err : Bool) : Dev :=
  if mask = 0 then d.inc (swcPg h) Reg.SWC.NO_DEST
  else
    let f : SFrame := { id := 0, bytes := bytes, desc := desc, cls := cls, cells := cellsOf bytes.length, inPort := inPort
                        flags := flags, refs := [] }
    let d1 := d.offerFrame h f (localPorts h mask true) err false
    let far := localPorts h.other mask false
    if far.isEmpty || err then d1 else d1.toBridge h (.frame { f with refs := far })

/-! ### The transparent clock (R302 to R304) -/

/-- TCCFG.LEAD with its limits. -/
def Dev.tcLead (d : Dev) (h : Half) : Nat := clampNat 500 8000 (d.g (swcPg h) Reg.SWC.TCCFG_LEAD)

/-- Where the PTP message of a frame starts, and where its UDP checksum stands. -/
def ptpAt (l : List Byte) : Nat × Option Nat × Bool :=
  let e := ethHdr l
  match ipHdr l e with
  | some p => (p.off + 8, some (p.off + 6), p.v6)
  | none => (e.off, none, false)

/-- A frame's identity, of which the half that makes it gives every second one. -/
def Dev.newId (d : Dev) (h : Half) : Dev × Nat :=
  ({ d with resp := d.resp.put h { d.resp.of h with nextId := (d.resp.of h).nextId + 1 } },
    2 * (d.resp.of h).nextId + h.num)

/-- A transparent-clock frame for one port, launched at t_l (R302). -/
def tcFrame (bytes : List Byte) (m tl link : Nat) (gen p id : Nat) : GFrame :=
  let o := ptpAt bytes
  { id := id, port := p, src := .tc, t := tl, mean := m, body := .raw bytes o.2.1 o.2.2
    fixes := [{ off := o.1 + 8, kind := .residence m (ptpCorr (bytes.drop o.1)) link }], gen := gen }

/-- A frame on the transparent-clock path toward its destinations (R302): each port's gate releases it at t_l; a frame with
neither ingress value valid is dropped. [DEDUCED log 136] -/
def Dev.tcForward (d : Dev) (h : Half) (bytes : List Byte) (desc : Desc) (inPort mask cls : Nat) (sync : Bool) : Dev :=
  match desc.mean with
  | none => d.inc (swcPg h) Reg.SWC.TC_INVALID
  | some m =>
    let tl := launchOf m (d.tcLead h)
    let link := if d.gb (swcPg h) Reg.SWC.TCCFG_P2P && sync then
      (2 * d.g (swcW h (inPort / 2)) Reg.SWC.LINKDLY * 65536 + 1000) / 2000 else 0
    let d1 := (localPorts h mask false).foldl (fun (e : Dev) j =>
      let n := e.newId h
      n.1.toGate (tcFrame bytes m tl link (d.stepgen.of h) (portOf h j) n.2)) d
    let d2 := (localPorts h.other mask false).foldl (fun (e : Dev) j =>
      let n := e.newId h
      n.1.toBridge h (.gated (tcFrame bytes m tl link (d.stepgen.of h.other) (portOf h.other j) n.2))) d1
    if bitAt mask 8 then
      d2.offerFrame h { id := 0, bytes := bytes, desc := desc, cls := cls, cells := cellsOf bytes.length, inPort := inPort
                        refs := [] } [4] false true
    else d2

/-- What the transparent clock does with a PTP event message (R302, R303): `none` leaves it to row 5; `some false` never
forwards it; `some true` corrects it. [DEDUCED log 135] -/
def tcCase (p2p : Bool) (type : Nat) : Option Bool :=
  match type with
  | 0 => some true
  | 1 => if p2p then none else some true
  | 2 => if p2p then some false else none
  | 3 => if p2p then some false else none
  | _ => none

/-- Rows 4 and 5 of R289 for a frame of a half's port or of H. [DEDUCED log 135] -/
def Dev.classify45 (d : Dev) (h : Half) (bytes : List Byte) (desc : Desc) (inPort flags : Nat) (err : Bool) : Dev :=
  let m := msgOf bytes
  let r := d.lookup h inPort m.eth
  let j := if 7 < inPort then 4 else inPort / 2
  let tcOn := decide (inPort < 8) && d.en (swcPg h) (swcW h j) Reg.SWC.PCFG_TC_EN && d.gb (swcPg h) Reg.SWC.TCCFG_EN
  let event := m.isL2Ptp || (m.udp.isSome && m.dport == 319)
  if tcOn && event && !err then
    match tcCase (d.gb (swcPg h) Reg.SWC.TCCFG_P2P) (ptpType m.body) with
    | none => r.1.forward h bytes desc inPort flags r.2.1 r.2.2 err
    | some false => r.1.inc (swcPg h) Reg.SWC.NO_DEST
    | some true =>
      if r.2.1 = 0 then r.1.inc (swcPg h) Reg.SWC.NO_DEST
      else r.1.tcForward h bytes desc inPort r.2.1 r.2.2 (ptpType m.body == 0)
  else r.1.forward h bytes desc inPort flags r.2.1 r.2.2 err

/-! ### Service requests at the classifier (R330, R355, R403) -/

/-- The TRS page of a half, index 1: the service entries. -/
def trsEnt (h : Half) (a : Nat) : Nat := pageAddr .trs h 1 + 0x100 + 0x20 * a

/-- The eight words of a committed service entry. -/
def Dev.svcEntry (d : Dev) (h : Half) (a : Nat) : List Nat := (List.range 8).map fun w => d.w (trsEnt h a + 4 * w)

/-- A field of an entry's word. -/
def entBits (e : List Nat) (w lo len : Nat) : Nat := getBits (e[w]?.getD 0) lo len

/-- PTPMASK of an entry. -/
def entMask (e : List Nat) : Nat := entBits e 6 0 16

/-- The address of an entry: IPv6, or IPv4 in ADDR3. -/
def entAddr (e : List Nat) : Nat :=
  if entBits e 6 22 1 = 1 then
    e[0]?.getD 0 * 2 ^ 96 + e[1]?.getD 0 * 2 ^ 64 + e[2]?.getD 0 * 2 ^ 32 + e[3]?.getD 0
  else e[3]?.getD 0

/-- The MAC of an entry. -/
def entMac (e : List Nat) : Nat := entBits e 5 0 16 * 2 ^ 32 + e[4]?.getD 0

/-- A message from a port matches a service entry (R330). -/
def entMatches (e : List Nat) (p : Nat) (m : Msg) : Bool :=
  let l2 := entBits e 6 26 1 == 1
  let v6 := entBits e 6 22 1 == 1
  entBits e 7 31 1 == 1 && bitAt (e[7]?.getD 0) p &&
    (entBits e 5 28 1 == 0 || (m.eth.tagged && m.eth.vid == entBits e 5 16 12)) &&
    (if l2 then m.isL2Ptp && entMask e != 0 && (m.eth.dst == entMac e || m.ptpGroup)
     else
       match m.ip with
       | none => false
       | some i =>
         i.v6 == v6 &&
           ((i.dst == entAddr e && m.udp.isSome &&
             ((m.dport == 123 && (entBits e 6 23 1 == 1 || entBits e 6 24 1 == 1)) ||
              ((m.dport == 319 || m.dport == 320) && entMask e != 0))) ||
            (m.isUdpPtp && m.ptpGroup && entMask e != 0)))

/-- The lowest-numbered entry that a message matches. -/
def Dev.matchEntry (d : Dev) (h : Half) (p : Nat) (m : Msg) : Option Nat :=
  (List.range 64).find? fun a => entMatches (d.svcEntry h a) p m

/-- The register block of PTP service `s` (R366). -/
def trsV (h : Half) (s : Nat) : Nat := trsPg h + 0x140 + 0x20 * s

/-- The PTP service that a frame belongs to (R355). -/
def Dev.ptpService (d : Dev) (h : Half) (ent : List Nat) (domain : Nat) : Option Nat :=
  (List.range 16).find? fun s =>
    bitAt (entMask ent) s && d.gb (trsV h s) Reg.TRS.PCFG_EN && d.g (trsV h s) Reg.TRS.PCFG_DOMAIN == domain

/-- What a message that matches an entry is (R355, R356): a request for the responder, a message for client instance `k`, or
one for row 5. -/
inductive SvcCase where
  | request
  | inst (k : Nat)
  | other
deriving DecidableEq, Repr

/-- The case of a message that matches an entry. -/
def Dev.svcCase (d : Dev) (h : Half) (ent : List Nat) (m : Msg) : SvcCase :=
  if !m.isPtp then .request
  else
    match d.ptpService h ent (ptpDomain m.body) with
    | none => .request
    | some s =>
      if d.gb (trsV h s) Reg.TRS.PCFG_ROLE then .inst (d.g (trsV h s) Reg.TRS.PCFG_CLIENT)
      else if [1, 2, 0xC].contains (ptpType m.body) then .request else .other

/-- The responder of a half. -/
def Dev.rsp (d : Dev) (h : Half) : RespSt := d.resp.of h

/-- The device with a responder replaced. -/
def Dev.setRsp (d : Dev) (h : Half) (v : RespSt) : Dev := { d with resp := d.resp.put h v }

/-- A request put at the responder's input. -/
def Dev.pushReq (d : Dev) (h : Half) (r : Req) : Dev :=
  let s := d.rsp h
  d.setRsp h { s with reqs := s.reqs ++ [{ r with id := s.nextId, stage := .arrived }], nextId := s.nextId + 1 }

/-- The redundancy trailer of a frame's last six bytes, as SeqNr, if it is valid (R402, R403). -/
def prpSeq (l : List Byte) : Option Nat :=
  let t := l.drop (l.length - 6)
  let lan := beAt t 2 2 / 4096
  if l.length < 20 ∨ beAt t 4 2 ≠ 0x88FB then none
  else if (lan = 0xA ∨ lan = 0xB) ∧ beAt t 2 2 % 4096 = (l.length - (ethHdr l).off) % 4096 then some (beAt t 0 2)
  else none

/-- The key of a request's trailer: port, source MAC and SeqNr. -/
def Req.twinKey (r : Req) : Nat × Nat × Nat := (r.desc.port, (ethHdr r.bytes).src, (prpSeq r.bytes).getD 0)

/-- A request without its trailer. -/
def Req.strip (r : Req) : Req := { r with bytes := r.bytes.take (r.bytes.length - 6) }

/-- The twin's key: the other port of the pair. [DEDUCED log 138] -/
def twinOf (k : Nat × Nat × Nat) : Nat × Nat × Nat := (if k.1 % 2 = 0 then k.1 + 1 else k.1 - 1, k.2.1, k.2.2)

/-- The copy of two twins that is served (R403): the smaller m; at equal m the even port's. -/
def servedTwin (a b : Req) : Req :=
  let ma := a.desc.mean.getD 0
  let mb := b.desc.mean.getD 0
  if ma < mb ∨ (ma = mb ∧ a.desc.port % 2 = 0) then a else b

/-- A service request at a half's classifier after row 2 of R289 (R403): held for its twin while PRP.RX_EN is set and its
trailer is valid, else put to the responder. -/
def Dev.svcArrive (d : Dev) (h : Half) (r : Req) : Dev :=
  let s := d.rsp h
  let now := d.tb0 h
  if !(d.gb (redPg h) Reg.RED.PRP_RX_EN) || (prpSeq r.bytes).isNone then d.pushReq h r
  else
    let k := r.twinKey
    let t := twinOf k
    let freed := s.freed.filter fun f => decide (now < f.2.2.2 + ns32 131072)
    if freed.any fun f => f.1 == t.1 && f.2.1 == t.2.1 && f.2.2.1 == t.2.2 then
      (d.setRsp h { s with freed := freed.filter fun f => !(f.1 == t.1 && f.2.1 == t.2.1 && f.2.2.1 == t.2.2) }).inc (redPg h)
        Reg.RED.PRP_DISCARD
    else
      match s.held.find? (fun x => x.twinKey == t) with
      | some x =>
        (((d.setRsp h { s with freed := freed, held := s.held.filter fun y => !(y.twinKey == t) }).inc (redPg h)
          Reg.RED.PRP_DISCARD).pushReq h (servedTwin r x).strip)
      | none => d.setRsp h { s with freed := freed, held := s.held ++ [{ r with at_ := now }] }

/-- HOLD_NS passes without the twin and the oldest held request is released (R403). [DEDUCED log 138] -/
def prpReleased (h : Half) (d : Dev) : Dev :=
  let s := d.rsp h
  match s.held with
  | [] => d
  | r :: rs =>
    if d.tb0 h < r.at_ + ns32 (min 2000 (d.g (redPg h) Reg.RED.PRP_HOLD_NS)) then d
    else
      let k := r.twinKey
      (d.setRsp h { s with held := rs, freed := s.freed ++ [(k.1, k.2.1, k.2.2, d.tb0 h)] }).pushReq h r.strip

/-- The client instance `k` of a half. -/
def Dev.inst (d : Dev) (h : Half) (k : Nat) : InstSt := tget {} d.insts (h.num * 4 + k)

/-- The device with a client instance replaced. -/
def Dev.setInst (d : Dev) (h : Half) (k : Nat) (v : InstSt) : Dev := { d with insts := tset {} d.insts (h.num * 4 + k) v }

/-- A PTP message handed to a client instance in a half (R123, R289). -/
def Dev.toInst (d : Dev) (h : Half) (k : Nat) (s : Desc) (bytes : List Byte) : Dev :=
  d.setInst h k { d.inst h k with rx := (d.inst h k).rx ++ [(s, bytes)] }

/-! ### A received frame -/

/-- The flags of R278, as FLAGS of R532. -/
def Dev.rxFlags (d : Dev) (p : Nat) (f : RxFrame) : Nat :=
  let n := f.bytes.length + 4
  bitOf f.fcsBad + 2 * bitOf (decide (n < 64)) + 4 * bitOf (decide (d.maxLen p < n)) + 8 * bitOf (f.code || f.fecBad != 0) +
    16 * bitOf f.trunc

/-- The descriptor of a received frame (R311). -/
def Dev.rxDesc (d : Dev) (p : Nat) (f : RxFrame) : Desc :=
  let a := d.ingress .warp p f.sfd0 f.pos
  let b := d.ingress .weft p f.sfd1 f.pos
  { ing0 := a.getD 0, ing1 := b.getD 0, v0 := a.isSome, v1 := b.isSome, ts0 := f.ts0, ts1 := f.ts1, port := p
    stepgen := d.stepgen.of (portHalf p), epoch := d.g (pageAddr .bnd (portHalf p) 0) Reg.BND.EPOCH_NUM }

/-- The MAC counters and events of a received frame (R278, R288). -/
def Dev.rxCount (d : Dev) (p flags : Nat) (f : RxFrame) : Dev :=
  let n := f.bytes.length + 4
  let d1 := (((d.macInc p 20 f.fecCor).macInc p 21 f.fecBad).macInc p 22 f.fecSym).perf (macPg p) 0x04 {} f.fecCor
  let d2 := d1.perf (macPg p) 0x01
  if flags = 0 then (d2.macInc p 0).macInc p 1 n
  else ((d2.each 5 fun k e => if bitAt flags k then e.macInc p (2 + k) else e).raise (macPg p) 0).perf (macPg p) 0x03

/-- The ingress counters of a received frame (R310, R312). -/
def Dev.ingCount (d : Dev) (p : Nat) (s : Desc) : Dev :=
  let d1 := if s.v0 && s.v1 then d else if s.v0 || s.v1 then d.inc (lgtG p) Reg.LGT.ING_ING_ONE
    else d.inc (lgtG p) Reg.LGT.ING_ING_NONE
  if (s.v0 && s.ts0) || (s.v1 && s.ts1) then d1.inc (lgtG p) Reg.LGT.TSLEW else d1

/-- An ESMC PDU recognised by its Slow Protocols header (PRESUMED layout of G.8264): SSM and, where the extended TLV is
present, enhanced SSM. [PRESUMED log 126] -/
def esmcOf (l : List Byte) : Option (Nat × Option Nat) :=
  let e := ethHdr l
  if e.etype = 0x8809 ∧ beAt l e.off 1 = 0x0A ∧ beAt l (e.off + 1) 3 = 0x0019A7 then
    some (beAt l (e.off + 13) 1 % 16, if beAt l (e.off + 14) 1 = 2 then some (beAt l (e.off + 17) 1) else none)
  else none

/-- A PAUSE or PFC frame by its MAC control header. [PRESUMED log 127] -/
def flowOf (l : List Byte) : Option FlowFrame :=
  let e := ethHdr l
  if e.etype ≠ 0x8808 then none
  else if beAt l e.off 2 = 1 then some (.pause (beAt l (e.off + 2) 2))
  else if beAt l e.off 2 = 0x0101 then
    some (.pfc (beAt l (e.off + 2) 2) ((List.range 8).map fun k => beAt l (e.off + 4 + 2 * k) 2))
  else none

/-- An ESMC PDU received on a port (R282): taken in by both halves, the other through the bridge. -/
def esmcReceived (p ssm : Nat) (essm : Option Nat) (d : Dev) : Dev :=
  if !(d.portUp p) || !(d.gb (pcsPg p) Reg.PCS.ESMC_RX_EN) then d
  else (d.esmcTaken (portHalf p) p ssm essm).toBridge (portHalf p) (.esmc p ssm essm)

/-- The chip is RETURNING (R429). -/
def Dev.chipReturning (d : Dev) (h : Half) : Bool := d.g (redPg h) Reg.RED.RSTAT_CJOIN == 1

/-- A service request from a port (rows 2 of R289, R23, R26, R28, R429). -/
def Dev.svcRequest (d : Dev) (p a : Nat) (ent : List Nat) (s : Desc) (bytes : List Byte) : Dev :=
  let h := portHalf p
  if d.chipReturning h then d.inc (redPg h) Reg.RED.PREJOIN_DROP
  else if !s.v0 && !s.v1 then d
  else
    let r : Req := { id := 0, desc := s, bytes := bytes, entNo := a, ent := ent }
    (d.svcArrive h r).toBridge h (.request { r with bridged := true })

/-- A frame received without flags, classified by the first row of R289 that it matches. -/
def Dev.classified (d : Dev) (p : Nat) (s : Desc) (bytes : List Byte) : Dev :=
  let h := portHalf p
  match flowOf bytes with
  | some f => pauseReceived p f d
  | none =>
    match if d.gb (pcsPg p) Reg.PCS.ESMC_RX_EN then esmcOf bytes else none with
    | some q => esmcReceived p q.1 q.2 d
    | none =>
      let m := msgOf bytes
      match d.matchEntry h p m with
      | none => d.classify45 h bytes s p 0 false
      | some a =>
        match d.svcCase h (d.svcEntry h a) m with
        | .request => d.svcRequest p a (d.svcEntry h a) s bytes
        | .inst k => (d.toInst h k s bytes).toBridge h (.inst k s bytes)
        | .other => d.classify45 h bytes s p 0 false

/-- A flagged frame (R279, R298): delivered to H with its flags, or discarded; a destination that had cut it through ends it
stomped. -/
def Dev.flagged (d : Dev) (p flags : Nat) (s : Desc) (bytes : List Byte) : Dev :=
  let h := portHalf p
  let m := msgOf bytes
  let ct := decide (64 ≤ bytes.length + 4) && (flowOf bytes).isNone && (d.matchEntry h p m).isNone
  let d1 := if ct then d.classify45 h bytes s p flags true else d
  if d.gb (macPg p) Reg.MAC.MCFG_ERR_DELIVER then
    (d1.macInc p 10).offerFrame h
      { id := 0, bytes := bytes, desc := s, cls := d.classOf h (p / 2) m.eth none, cells := cellsOf bytes.length, inPort := p
        flags := flags, refs := [] } [4] false true
  else d1.macInc p 9

/-- A frame received on a port (R278 to R280, R289, R309 to R312). The command stands for the whole frame at the instant of
its SFD. [DESIGN CHOICE log 124] -/
def frameReceived (p : Nat) (f : RxFrame) (d : Dev) : Dev :=
  if !(d.portUp p) || 7 < p then d
  else
    let flags := d.rxFlags p f
    let s := d.rxDesc p f
    let d1 := (d.rxCount p flags f).ingCount p s
    if flags = 0 then d1.classified p s f.bytes else d1.flagged p flags s f.bytes

/-! ### Scheduling (R296) -/

/-- The length of the frame at the head of a queue, FCS included. -/
def Dev.headLen (d : Dev) (h : Half) (j c : Nat) : Option Nat :=
  match d.queue h j c with
  | [] => none
  | id :: _ => (d.stored h id).map fun f => f.bytes.length + 4

/-- Deficit round robin over the classes without STRICT (R296): from the class whose turn it is, each visited class takes
its quantum once and sends while its deficit lasts. [DEDUCED log 133] -/
def drr (len : Nat → Option Nat) (quantum : Nat → Nat) : Nat → Nat → Bool → Tab Nat → Option (Nat × Tab Nat)
  | 0, _, _, _ => none
  | k + 1, c, fresh, df =>
    match len c with
    | none => drr len quantum k ((c + 7) % 8) true (tset 0 df c 0)
    | some n =>
      let have_ := tget 0 df c + (if fresh then quantum c else 0)
      if n ≤ have_ then some (c, tset 0 df c (have_ - n)) else drr len quantum k ((c + 7) % 8) true (tset 0 df c have_)

/-- The class whose head a port sends next among some: strict classes from the highest, then the round robin (R296).
[DEDUCED log 133] -/
def Dev.pickClassOf (d : Dev) (h : Half) (j : Nat) (ok : Nat → Bool) : Option (Nat × Tab Nat) :=
  let p := portOf h j
  let ready := fun c => ok c && (d.headLen h j c).isSome && !(decide (j < 4) && d.paused p c)
  let strict := fun c => d.gb (swtQ h j c) Reg.SWT.QCFG_STRICT
  let df : Tab Nat := (List.range 8).foldl (fun (t : Tab Nat) c => tset 0 t c (tget 0 (d.plane h).deficit (j * 8 + c))) []
  match ((List.range 8).reverse).find? (fun c => strict c && ready c) with
  | some c => some (c, df)
  | none =>
    if !((List.range 8).any fun c => !(strict c) && ready c) then none
    else drr (fun c => if !(strict c) && ready c then d.headLen h j c else none)
      (fun c => 256 * max 1 (d.g (swtQ h j c) Reg.SWT.QCFG_WEIGHT)) 400 (tget 0 (d.plane h).turn j % 8)
      (tget 0 (d.plane h).turn j < 8) df

/-- The class whose head a port sends next. -/
def Dev.pickClass (d : Dev) (h : Half) (j : Nat) : Option (Nat × Tab Nat) := d.pickClassOf h j fun _ => true

/-- The round robin's state after a pick. -/
def Dev.putTurn (d : Dev) (h : Half) (j c : Nat) (df : Tab Nat) : Dev :=
  let pl := d.plane h
  d.setPlane h { pl with
    deficit := (List.range 8).foldl (fun (t : Tab Nat) k => tset 0 t (j * 8 + k) (tget 0 df k)) pl.deficit
    turn := tset 0 pl.turn j (c + 8) }

/-- The frame that leaves the head of a queue: its cells stay in use until the port has finished it (R299). -/
def Dev.sendHead (d : Dev) (h : Half) (j c : Nat) (f : SFrame) : Dev :=
  let p := portOf h j
  let d1 := (d.startFrame p f.bytes false (some c)).inc (swtQ h j c) Reg.SWT.TXF
  (d1.unqueue h f j).setPort p { d1.port p with sending := some (f.id, (d1.port p).txTo) }

/-- A frame boundary of a port (R296): the frame before has ended; flow control due, then the scheduled frame unless it would stand in a gated frame's
way. A half that returns to service starts no frame (R34). -/
def egressBoundary (p : Nat) (d0 : Dev) : Dev :=
  let h := portHalf p
  let j := p / 2
  let d := d0.sendEnded p
  if 7 < p || !(d.portUp p) || d.busy p || d.returning h then d
  else
    match (d.port p).fcDue with
    | (c, q) :: rest =>
      let d1 := d.setPort p { d.port p with fcDue := rest }
      (d1.startFrame p (fcFrame c q) false).macInc p (if c = 8 then 14 else 15)
    | [] =>
      match d.pickClass h j with
      | none => d
      | some (c, df) =>
        match (d.queue h j c).head?.bind (d.stored h) with
        | none => d
        | some f =>
          if d.defers p f.bytes.length then d.inc (swtK h j) Reg.SWT.GATE_DEFER
          else (d.putTurn h j c df).sendHead h j c f

/-! ### The bridge (R305) -/

/-- BRSTAT.PEER_OK of both halves, with BRIDGE_DOWN where it falls. -/
def bridgeRefresh (d : Dev) : Dev :=
  [Half.warp, Half.weft].foldl (fun e h =>
    let ok := d.planeUp h.other
    (e.raiseIf (!ok && d.gb (swcPg h) Reg.SWC.BRSTAT) (swcPg h) 0).pb (swcPg h) Reg.SWC.BRSTAT ok) d

/-- A gated frame of a half as the other half's gate takes it: its step generation is taken there. -/
def Dev.bridgedGate (d : Dev) (g : GFrame) : Dev := d.toGate { g with gen := d.stepgen.of (portHalf g.port) }

/-- A link goes down at the network side (R273, R300): its flags, its queues, its gate, and the candidates that need it. -/
def Dev.portDown (d : Dev) (p : Nat) : Dev :=
  let b := pcsPg p
  if !(d.portUp p) then d
  else
    let d1 := ((((d.pb b Reg.PCS.PSTAT_LINK_UP false).pb b Reg.PCS.PSTAT_DLY_VALID false).raise b 1).macInc p 23).flushPort
      (portHalf p) (p / 2)
    let held := (d1.gate p).held
    let d2 := d1.setGate p { d1.gate p with held := [] }
    (held.foldl (fun e g => ((e.macInc p 17).reportFate g 2).dropFollow g) d2).portCands p

/-- A link condition fails and the port declares link down (R272, R273). [DEDUCED log 31] -/
def linkDown (p : Nat) (s : LinkSeen) (d : Dev) : Dev :=
  let d1 := d.putLink p s
  if linkGood s (modeLanes (d.portMode p)) then d1 else d1.portDown p

/-- PCFG written (R270, R281): a change of MODE, FEC, LT_EN or TXREF takes the link down; a change of RCLK_LANE alone clears
DLY_VALID. A change of the word clock's nominal frequency restarts the candidate's monitors (R133, R149).
[DEDUCED log 122] -/
def pcfgWritten (p v : Nat) (d : Dev) : Dev :=
  let r := d.pcfgPut p v
  let d1 :=
    if r.2.1 then (r.1.portDown p).flushPort (portHalf p) (p / 2)
    else if r.2.2 then r.1.pb (pcsPg p) Reg.PCS.PSTAT_DLY_VALID false
    else r.1
  [Half.warp, Half.weft].foldl (fun (e : Dev) h =>
    if e.nomRead h (14 + p) = d.nomRead h (14 + p) then e else monitorsRestart h (14 + p) e) d1

/-- ESMC written (R285): a live clear of RX_EN sets TIMEOUT at once. -/
def esmcCtlWritten (p v : Nat) (d : Dev) : Dev :=
  let a := pcsPg p + 0x12C
  let d1 := d.setw a (mergeWrite a (d.w a) v)
  if d.gb (pcsPg p) Reg.PCS.ESMC_RX_EN && !(bitAt v 0) then d1.esmcLost p else d1

end Sys2Proof.Machine
end

