-- ==== Sys2Proof/Machine/Keys.lean ====
section
/-! DEFINITION. Caddy (R371 to R398): slots, families and generations, loading, retirement, zeroisation, tamper, persistent
records, crypto engines and the public objects. -/

namespace Sys2Proof.Machine

/-- The CAD page of a half. -/
def cadPg (h : Half) : Nat := pageAddr .cad h 0

/-- The AEG page of a half. -/
def aegPg (h : Half) : Nat := pageAddr .aeg h 0

/-- A half's Caddy. -/
def Dev.cad (d : Dev) (h : Half) : CadSt := d.cads.of h

/-- The device with a Caddy replaced. -/
def Dev.setCad (d : Dev) (h : Half) (v : CadSt) : Dev := { d with cads := d.cads.put h v }

/-- A key slot. -/
def Dev.slot (d : Dev) (h : Half) (k : Nat) : Slot := tget {} (d.cad h).slots k

/-- The slots that are DEFECT, empty: they stay so until a power cycle (R388). -/
def CadSt.defects (c : CadSt) : Tab Slot :=
  (c.slots.filter fun (e : Nat × Slot) => e.2.defect).map fun (e : Nat × Slot) => (e.1, { defect := true })

/-- What a warm reset or a half reset leaves of a Caddy (R388, R389): a zeroisation, its queue, what is to be purged, and the
DEFECT slots. -/
def CadSt.kept (c : CadSt) : CadSt := { slots := c.defects, zero := c.zero, queued := c.queued, extra := c.extra, purge := c.purge }

/-- The number of VALID slots (R394). -/
def CadSt.occ (c : CadSt) : Nat := (c.slots.filter fun (e : Nat × Slot) => e.2.valid).length

/-- A half's slots replaced, with OCC and MIRROR_OK of both halves (R394). -/
def Dev.setSlots (d : Dev) (h : Half) (t : Tab Slot) : Dev :=
  let d1 := d.setCad h { d.cad h with slots := t }
  let ok := decide ((d1.cad .warp).slots = (d1.cad .weft).slots)
  ((d1.p (cadPg h) Reg.CAD.CSTAT_OCC (d1.cad h).occ).pb (cadPg .warp) Reg.CAD.CSTAT_MIRROR_OK ok).pb (cadPg .weft)
    Reg.CAD.CSTAT_MIRROR_OK ok

/-- A key slot replaced. -/
def Dev.setSlot (d : Dev) (h : Half) (k : Nat) (v : Slot) : Dev := d.setSlots h (tset {} (d.cad h).slots k v)

/-- The slot's word of R376, GSTATE at a count second and a flag of being active. -/
def Slot.attr (s : Slot) (gstate : Nat) : Nat :=
  bitOf s.valid + gstate % 4 * 2 + s.typ % 8 * 16 + bitOf s.defect * 128 + s.usage % 256 * 256 + bitOf s.persist * 2 ^ 16 +
    bitOf s.lock * 2 ^ 17 + bitOf s.derived * 2 ^ 18

/-- KCV: bytes 0 to 3 of SHA-256 over "hertar kcv" and the key (R378). -/
def kcvOf (key : List Byte) : Nat :=
  beAt (Config.sha256 ([0x68, 0x65, 0x72, 0x74, 0x61, 0x72, 0x20, 0x6B, 0x63, 0x76] ++ key)) 0 4

/-- KCV of a slot; 0 when empty. -/
def Slot.kcv (s : Slot) : Nat := if s.valid then kcvOf s.key else 0

/-- The slot of a family's generation (R375). -/
def famSlot (f g : Nat) : Nat := 128 + 8 * f + g % 8

/-- RET_SEC of a generation that never retires (R378). -/
def never : Nat := 2 ^ 48 - 1

/-- A generation is present at an instant in 2^-32 ns (R382). [DEDUCED log 153] -/
def Slot.presentAt (s : Slot) (t : Nat) : Bool := s.valid && (s.ret == never || decide (t < s.ret * secFrac))

/-- The slot of the generation of a family that is active at an instant (R382). [DEDUCED log 153] -/
def Dev.activeAt (d : Dev) (h : Half) (f t : Nat) : Option Nat :=
  (List.range 8).foldl (fun (b : Option Nat) g =>
    let k := famSlot f g
    let s := d.slot h k
    if s.presentAt t && decide (s.act * secFrac ≤ t) then
      match b with
      | none => some k
      | some x => if (d.slot h x).act < s.act then some k else b
    else b) none

/-- The present generation that a KEYID names at an instant. -/
def Dev.genOf (d : Dev) (h : Half) (keyid t : Nat) : Option Nat :=
  let k := famSlot (keyid / 2 ^ 20 % 16) keyid
  let s := d.slot h k
  if s.presentAt t && s.keyid == keyid then some k else none

/-- GSTATE of a slot at the current count (R376, R382). -/
def Dev.gstate (d : Dev) (h : Half) (k : Nat) : Nat :=
  let s := d.slot h k
  if k < 128 || !s.valid then 0
  else if !(s.presentAt (d.tb0 h)) then 3
  else if d.activeAt h ((k - 128) / 8) (d.tb0 h) = some k then 2 else 1

/-- ACTGENf (R382, R394). -/
def Dev.actgen (d : Dev) (h : Half) (f : Nat) : Nat :=
  let present := (List.range 8).foldl (fun s i => s + bitOf ((d.slot h (128 + 8 * f + i)).presentAt (d.tb0 h)) * 2 ^ i) 0
  match d.activeAt h f (d.tb0 h) with
  | none => present * 2 ^ 23
  | some k => (d.slot h k).keyid % 2 ^ 20 + k % 8 * 2 ^ 20 + present * 2 ^ 23 + 2 ^ 31

/-- Authenticated services are off in a half: tamper lock (R392) or root failure (R374). -/
def Dev.keysOff (d : Dev) (h : Half) : Bool :=
  d.gb (cadPg h) Reg.CAD.CSTAT_TAMPER_LOCK || d.gb (cadPg h) Reg.CAD.CSTAT_ROOT_FAIL

/-! ### Crypto engines (R386) -/

/-- The AEG block of an engine. -/
def aegE (h : Half) (e : Nat) : Nat := aegPg h + 0x100 + 0x10 * e

/-- An engine serves a family, or work outside the families. -/
def Dev.engCovers (d : Dev) (h : Half) (fam : Option Nat) (e : Nat) : Bool :=
  d.gb (aegE h e) Reg.AEG.ESTAT_INSVC &&
    (match fam with | some f => bitAt (d.g (aegE h e) Reg.AEG.ECFG_FAMMASK) f | none => d.gb (aegE h e) Reg.AEG.ECFG_GENERAL)

/-- The engine that an operation goes to: one that covers it, else any in service. Operations of this model do not overlap, so
every engine is equally occupied and the lowest-numbered is taken. [DEDUCED log 139] -/
def Dev.engineFor (d : Dev) (h : Half) (fam : Option Nat) : Option Nat :=
  match (List.range 8).find? (d.engCovers h fam) with
  | some e => some e
  | none => (List.range 8).find? fun e => d.gb (aegE h e) Reg.AEG.ESTAT_INSVC

/-- An operation with a slot's key given to an engine (R386, R395): counted, with a MISS where the key is not among its 32
expanded ones. -/
def Dev.engOp (d : Dev) (h : Half) (fam : Option Nat) (slot : Nat) : Dev :=
  match d.engineFor h fam with
  | none => d
  | some e =>
    let st : EngSt := tget {} d.engs (h.num * 8 + e)
    let miss := !(st.keys.contains slot)
    let keys := if miss then (slot :: st.keys).take 32 else st.keys
    let d1 := { d with engs := tset {} d.engs (h.num * 8 + e) { st with keys := keys } }
    let d2 := ((d1.inc (aegE h e) Reg.AEG.OPS).p (aegE h e) Reg.AEG.ESTAT_CACHED keys.length).perf (aegPg h) 0x01
      { address := some e } 1 3
    if miss then (d2.inc (aegE h e) Reg.AEG.MISS).perf (aegPg h) 0x02 { address := some e } 1 3 else d2

/-- UNCOVERED of a half, with AFFINITY_EMPTY where something becomes uncovered (R386). -/
def affinityRefresh (h : Half) (d : Dev) : Dev :=
  let fam := (List.range 16).foldl (fun s f => s + bitOf (!((List.range 8).any (d.engCovers h (some f)))) * 2 ^ f) 0
  let gen := !((List.range 8).any (d.engCovers h none))
  let old := d.g (aegPg h) Reg.AEG.UNCOVERED_FAM
  let more := (List.range 16).any (fun f => bitAt fam f && !(bitAt old f)) ||
    (gen && !(d.gb (aegPg h) Reg.AEG.UNCOVERED_GENERAL))
  ((d.p (aegPg h) Reg.AEG.UNCOVERED_FAM fam).pb (aegPg h) Reg.AEG.UNCOVERED_GENERAL gen).raiseIf more (aegPg h) 8

/-- An engine leaves service (R31): its event, its fault, and what it no longer covers. -/
def engFailed (h : Half) (e : Nat) (d : Dev) : Dev :=
  if !(d.gb (aegE h e) Reg.AEG.ESTAT_INSVC) || 7 < e then d
  else
    affinityRefresh h ((((({ d with engs := tset {} d.engs (h.num * 8 + e) {} }.pb (aegE h e) Reg.AEG.ESTAT_INSVC false).pb (aegE h e) Reg.AEG.ESTAT_FAILED true).p (aegE h e)
      Reg.AEG.ESTAT_CACHED 0).raise (aegPg h) e).unitFault (aegPg h) e)

/-- A slot's expanded copies cleared in every engine of a half (R387). -/
def Dev.engForget (d : Dev) (h : Half) (k : Nat) : Dev :=
  d.each 8 fun e x =>
    let st : EngSt := tget {} x.engs (h.num * 8 + e)
    let keys := st.keys.filter (· != k)
    ({ x with engs := tset {} x.engs (h.num * 8 + e) { st with keys := keys } }).p (aegE h e) Reg.AEG.ESTAT_CACHED keys.length

/-! ### Aborts (R365, R387, R391) -/

/-- Requests that hold a key from a slot of a condition abort (R365): each is a wasted slot, counted in KEY_ABORT. -/
def Dev.abortKeys (d : Dev) (h : Half) (c : Nat → Bool) : Dev :=
  let s := d.rsp h
  let hit := s.reqs.filter fun r => r.slots.any c
  hit.foldl (fun e r => if r.probe then e else ((e.trsCount h 9).raise (trsPg h) 3).wasted h r.cls)
    (d.setRsp h { s with reqs := s.reqs.filter fun r => !(r.slots.any c) })

/-- A slot zeroised in a half (R387): contents, blob and expanded copies; a generation in it is no longer the one announced as
active. [DEDUCED log 233] -/
def Dev.wipeSlot (d : Dev) (h : Half) (k : Nat) (defect : Bool) : Dev :=
  let c := d.cad h
  let f := (k - 128) / 8
  let d1 := if 128 ≤ k && tget 0 c.shown f == k + 1 then d.setCad h { c with shown := tset 0 c.shown f 0 } else d
  (d1.setSlot h k { defect := (d.slot h k).defect || defect }).engForget h k

/-! ### Loading (R378 to R381) -/

/-- DEVICE_ID: bytes 0 to 15 of SHA-256 over the KS0 public key (R372). -/
def deviceIdOf (ks0 : List Byte) : List Byte := (Config.sha256 (Config.edPublic ks0)).take 16

/-- A string's bytes. -/
def ascii (s : String) : List Byte := s.toList.map fun c => BitVec.ofNat 8 c.toNat

/-- A key derived from the root (R372). -/
def derivedKey (info : String) : List Byte := Config.hkdf [] Config.rootSecret (ascii info)

/-- DEVICE_ID of the chip. -/
def deviceId : List Byte := deviceIdOf (derivedKey "hertar ks0 identity")

/-- KP, the key of persistent records (R372). -/
def persistKey : List Byte := derivedKey "hertar persist"

/-- A key blob's fields (R378). -/
structure Blob where
  magic : Nat
  slot  : Nat
  wrap  : Nat
  typ   : Nat
  flags : Nat
  usage : Nat
  keyid : Nat
  act   : Nat
  ret   : Nat
  head  : List Byte
  epk   : List Byte
  body  : List Byte
deriving DecidableEq, Repr

/-- The blob of 28 request words. -/
def blobOf (ws : List Word) : Blob :=
  let b := bytesOfWords ws
  { magic := beAt b 0 4, slot := beAt b 4 1, wrap := beAt b 5 1, typ := beAt b 6 1, flags := beAt b 7 1
    usage := beAt b 8 2, keyid := beAt b 12 4, act := beAt b 16 6, ret := beAt b 22 6, head := b.take 64, epk := sliceB b 32 32, body := sliceB b 64 48 }

/-- The type that a usage of a loadable slot must have (R376). -/
def usageType (u : Nat) : Option Nat :=
  match u with
  | 1 => some 1 | 2 => some 2 | 4 => some 3 | 8 => some 1 | _ => none

/-- Whether a blob's form is refused (R380, third row, and the family rows below it), against the slots of the half that
unwraps it. -/
def Dev.blobBad (d : Dev) (h : Half) (b : Blob) : Bool :=
  let w := d.slot h b.wrap
  b.magic != 0x4B424C31 || decide (b.slot ≤ 2) || (b.slot == 3 && b.wrap != 2) || usageType b.usage != some b.typ ||
    (b.slot == 3 && b.usage != 8) || decide (3 < b.flags) ||
    (b.wrap != 2 && (!w.valid || w.usage != 8)) || (b.wrap == 2 && !w.valid)

/-- The family rows of R380. -/
def Dev.familyBad (d : Dev) (h : Half) (b : Blob) : Bool :=
  let f := (b.slot - 128) / 8
  let now := d.tb0 h
  let present := (List.range 8).filter fun g => (d.slot h (famSlot f g)).presentAt now
  decide (128 ≤ b.slot) &&
    (b.slot != famSlot (b.keyid / 2 ^ 20 % 16) b.keyid || b.keyid / 2 ^ 24 != d.g (trsPg h) Reg.TRS.NTSCFG_FLEET ||
     present.any (fun g => (d.slot h (famSlot f g)).usage != b.usage) ||
     (b.act != 0 && (decide (b.act * secFrac ≤ now + ns32 100000000) ||
       present.any fun g => (d.slot h (famSlot f g)).act == b.act)) ||
     decide (b.ret ≤ b.act) || (b.act == 0 && !present.isEmpty))

/-- The key that a half unwraps from a blob (R379). -/
def Dev.unwrap (d : Dev) (h : Half) (b : Blob) : Option (List Byte) :=
  let key := if b.wrap = 2 then Config.hkdf deviceId (Config.x25519 (d.slot h 2).key b.epk) (ascii "hertar wrap")
    else (d.slot h b.wrap).key
  Config.sivOpen key [b.head] b.body

/-- A key committed to a half's slot (R381). -/
def Dev.commitKey (d : Dev) (h : Half) (b : Blob) (ws : List Word) (key : List Byte) (persist : Bool) : Dev :=
  (d.setSlot h b.slot
    { valid := true, key := key, typ := b.typ, usage := b.usage, persist := persist, lock := bitAt b.flags 1
      keyid := if b.slot < 128 then 0 else b.keyid, act := b.act, ret := if b.slot < 128 then never else b.ret, blob := ws }).inc (cadPg h) Reg.CAD.LOADS

/-- The halves that hold Caddies in service. -/
def Dev.cadHalves (d : Dev) : List Half := [Half.warp, Half.weft].filter fun h => (d.hs h).powered && !(d.hs h).safe && !(d.hs h).heldReset

/-- A generation that has become the active one of its family is announced (R382). [DEDUCED log 233] -/
def genActivated (h : Half) (f : Nat) (d : Dev) : Dev :=
  match d.activeAt h f (d.tb0 h) with
  | none => d
  | some k =>
    let c := d.cad h
    if tget 0 c.shown f = k + 1 then d
    else (d.setCad h { c with shown := tset 0 c.shown f (k + 1) }).raise (cadPg h) 6

/-- What KEY_LOAD ends in: the refusal of R380, or the commit in both halves (R381), with the persistent record of R385
where the flash takes it. The second component is the record to keep. [DESIGN CHOICE log 144] -/
def keyLoaded (b : Nat) (kept : Bool) (c : FwCmd) (d : Dev) : FwResult × Option (Nat × List Byte × List Byte) :=
  let h := mbxHalf b
  let x := blobOf c.req
  let refuse := fun code => (({ dev := d, code := code } : FwResult), none)
  if c.len ≠ 28 then refuse codeBadLen
  else if d.keysOff h || d.wrongHalf b then refuse codeNotPermitted
  else if d.blobBad h x || d.familyBad h x then refuse codeBadArg
  else
    match d.unwrap h x with
    | none =>
      (({ dev := (d.inc (cadPg h) Reg.CAD.UNWRAP_FAIL).raise (cadPg h) 5, code := codeBadArg } : FwResult), none)
    | some key =>
      let old := d.slot h x.slot
      let other := h.other
      let alone := !(d.cadHalves.contains other) || d.gb (cadPg other) Reg.CAD.CSTAT_ROOT_FAIL
      let theirs := if alone then some key else d.unwrap other x
      if old.defect || (old.valid && (old.lock || decide (128 ≤ x.slot))) then refuse codeBusy
      else if theirs.map kcvOf ≠ some (kcvOf key) then
        (({ dev := ((d.raise (cadPg h) 8).raise (cadPg other) 8).unitFault (cadPg h) 0xFF, code := codeBadArg } : FwResult), none)
      else
        let keep := bitAt x.flags 0
        let halves := if alone then [h] else [Half.warp, Half.weft]
        let d1 := halves.foldl (fun e g =>
          let e1 := if (e.slot g x.slot).valid then (e.abortKeys g (· == x.slot)).wipeSlot g x.slot false else e
          let e2 := (e1.commitKey g x c.req key (keep && kept)).engOp g none x.wrap
          if 128 ≤ x.slot then genActivated g ((x.slot - 128) / 8) e2 else e2) d
        let head := x.head.take 32
        (({ dev := d1, code := if keep && !kept then codeFlashError else codeOK
            rsp := [BitVec.ofNat 32 x.slot, BitVec.ofNat 32 (kcvOf key)] } : FwResult),
         if keep && kept then some (x.slot, head, Config.sivSeal persistKey [head] key) else none)

/-! ### Generations (R382 to R384) -/

/-- RET_SEC is reached (R383). -/
def genRetire (h : Half) (k : Nat) (d : Dev) : Dev :=
  let s := d.slot h k
  if s.valid && decide (128 ≤ k) && s.ret != never && decide (s.ret * secFrac ≤ d.tb0 h) && !s.drain then
    d.setSlot h k { s with drain := true }
  else d

/-- RET_SEC + 16 µs is reached (R383): the slot is zeroised in the half, and a slot that fails the read-back is DEFECT. -/
def genRetired (h : Half) (k : Nat) (defect : Bool) (d : Dev) : Dev :=
  let s := d.slot h k
  if s.valid && decide (128 ≤ k) && s.ret != never && decide (s.ret * secFrac + ns32 16000 ≤ d.tb0 h) then
    let d1 := ((d.abortKeys h (· == k)).wipeSlot h k defect).raise (cadPg h) 7
    if defect then (d1.raise (cadPg h) 9).unitFault (cadPg h) 0xFF else d1
  else d

/-- KEY_RETIRE (R384): a new RET_SEC in both halves. [DEDUCED log 140] -/
def keyRetired (b : Nat) (c : FwCmd) (d : Dev) : FwResult :=
  let h := mbxHalf b
  let w := fun i => (c.req[i]?.getD 0).toNat
  let f := w 0 % 16
  let g := w 0 / 256 % 2 ^ 20
  let k := famSlot f g
  let s := d.slot h k
  let now := d.tb0 h
  let ask := w 1 + w 2 % 2 ^ 16 * 2 ^ 32
  let soon := ceilDiv (now + ns32 100000000) secFrac
  if c.len ≠ 3 then { dev := d, code := codeBadLen }
  else if d.keysOff h then { dev := d, code := codeNotPermitted }
  else if !(s.presentAt now) || s.keyid % 2 ^ 24 != f * 2 ^ 20 + g then { dev := d, code := codeBadArg }
  else
    let ret := if ask = 0 ∨ ask * secFrac ≤ now + ns32 100000000 then soon else ask
    { dev := d.cadHalves.foldl (fun e x => if (e.slot x k).valid then e.setSlot x k { e.slot x k with ret := ret } else e) d
      code := codeOK }

/-! ### Zeroisation (R387 to R389) -/

/-- The slots of a range. -/
def zeroRange (z : Nat × Nat × Bool) : List Nat := (List.range (z.2.1 + 1 - z.1)).map (z.1 + ·)

/-- A range begins to be zeroised in a half. [DEDUCED log 141] -/
def Dev.zeroBegin (d : Dev) (h : Half) (z : Nat × Nat × Bool) : Dev :=
  let d1 := (zeroRange z).foldl (fun e k => (e.abortKeys h (· == k)).wipeSlot h k false) d
  (d1.setCad h { d1.cad h with zero := some z }).pb (cadPg h) Reg.CAD.CSTAT_ZBUSY true

/-- ZERO written with GO in one half's page (R387, R388): in both halves. -/
def zeroAsked (first last : Nat) (persist : Bool) (d : Dev) : Dev :=
  [Half.warp, Half.weft].foldl (fun e h =>
    let p := cadPg h
    if last < first then e.pb p Reg.CAD.ZSTAT_REFUSED true
    else
      let e1 := e.pb p Reg.CAD.ZSTAT_REFUSED false
      if (e1.cad h).zero.isSome then e1.setCad h { e1.cad h with queued := some (first, last, persist) }
      else e1.zeroBegin h (first, last, persist)) d

/-- A write of ZERO (R394): it applies in both halves. -/
def zeroWritten (v : Nat) (d : Dev) : Dev :=
  let put := fun (e : Dev) h => ((e.p (cadPg h) Reg.CAD.ZERO_FIRST v).p (cadPg h) Reg.CAD.ZERO_LAST (v / 256)).p (cadPg h)
    Reg.CAD.ZERO_PERSIST (v / 65536)
  let d1 := put (put d .warp) .weft
  if bitAt v 31 then zeroAsked (v % 256) (v / 256 % 256) (bitAt v 16) d1 else d1

/-- The end of a half's range (R388): the slots that failed the read-back are DEFECT; a queued range follows. -/
def Dev.zeroEnd (d : Dev) (h : Half) (bad : List Nat) : Dev :=
  let c := d.cad h
  let p := cadPg h
  match c.zero with
  | none => d
  | some z =>
    let all := zeroRange z ++ c.extra
    let bad1 := bad.filter fun k => all.contains k
    let d1 := bad1.foldl (fun e k => ((e.wipeSlot h k true).raise p 9).unitFault p 0xFF) d
    let d2 := ((((d1.p p Reg.CAD.ZSTAT_COUNT (zeroRange z).length).pb p Reg.CAD.ZSTAT_VERIFIED bad1.isEmpty).pb p
      Reg.CAD.ZSTAT_DEFECT (!bad1.isEmpty)).inc p Reg.CAD.ZSTAT_SEQ).raise p 4
    let d3 := (d2.setCad h { d2.cad h with
      zero := none, extra := [], queued := none
      purge := if z.2.2 then (d2.cad h).purge ++ zeroRange z else (d2.cad h).purge }).pb p Reg.CAD.CSTAT_ZBUSY false
    let d4 := if z.2.2 then d3.pb p Reg.CAD.ZSTAT_PURGED false else d3
    match c.queued with
    | none => d4
    | some q => d4.zeroBegin h q

/-- ZERO_DONE in both halves. [DEDUCED log 141; DESIGN CHOICE log 144] -/
def zeroDone (bad : List Nat) (d : Dev) : Dev := (d.zeroEnd .warp bad).zeroEnd .weft bad

/-- The flash block of the purged records is erased and rewritten (R387). -/
def purgeDone (d : Dev) : Dev :=
  [Half.warp, Half.weft].foldl (fun e h =>
    if (e.cad h).purge.isEmpty then e
    else (e.setCad h { e.cad h with purge := [] }).pb (cadPg h) Reg.CAD.ZSTAT_PURGED true) d

/-! ### Tamper (R390 to R392) -/

/-- TAMPER_LOCK set in both halves; its copy in the LCS page (R392, R483). -/
def Dev.tamperLock (d : Dev) : Dev :=
  [Half.warp, Half.weft].foldl (fun e h => e.pb (cadPg h) Reg.CAD.CSTAT_TAMPER_LOCK true) d

/-- Tamper while running (R391): operations abort, the slots of TPOL are zeroised in both halves, the lock is set, and the
event and a C1 fault are recorded. -/
def Dev.tamperRun (d : Dev) (src : Nat) : Dev :=
  let d0 := [Half.warp, Half.weft].foldl (fun e h =>
    let p := cadPg h
    let n := ((e.rsp h).reqs.filter fun r => !r.slots.isEmpty).length
    let hit := (List.range 256).filter fun k => bitAt (e.g p Reg.CAD.TPOL) (k / 8)
    let e1 := (e.abortKeys h (fun _ => true)).inc p Reg.CAD.TAMPER_ABORT n
    let e2 := hit.foldl (fun x k => if (x.slot h k).valid then x.wipeSlot h k false else x) e1
    let e3 := if (e2.cad h).zero.isSome then e2.setCad h { e2.cad h with extra := (e2.cad h).extra ++ hit } else e2
    (e3.p p Reg.CAD.TSTAT_SRC (setBits (e3.g p Reg.CAD.TSTAT_SRC) src 1 1)).raise p 3) d
  (d0.tamperLock).unitFault (cadPg d.lead) 0xFF

/-- Tamper at start-up, before KEYS_READY, or as Kettle's TAMPER_SEEN shows it (R391). -/
def Dev.tamperStart (d : Dev) (src : Option Nat) : Dev :=
  ([Half.warp, Half.weft].foldl (fun e h =>
    let p := cadPg h
    let e1 := e.pb p Reg.CAD.TSTAT_AT_START true
    match src with
    | none => e1
    | some s => e1.p p Reg.CAD.TSTAT_SRC (setBits (e1.g p Reg.CAD.TSTAT_SRC) s 1 1)) d).tamperLock

/-! ### Start of Caddy (R371 to R374, R385) -/

/-- A derived slot (R375, R376). -/
def derivedSlot (info : String) (typ usage : Nat) : Slot :=
  { valid := true, key := derivedKey info, typ := typ, usage := usage, derived := true, ret := never }

/-- A record restored (R385): the fields of the blob's head that attribute it, and the key, if its check holds. -/
def restoredSlot (rec : List Byte × List Byte) : Option (Nat × Slot) :=
  (Config.sivOpen persistKey [rec.1] rec.2).map fun key =>
    let k := beAt rec.1 4 1
    (k, { valid := true, key := key, typ := beAt rec.1 6 1, usage := beAt rec.1 9 1, persist := true
          lock := bitAt (beAt rec.1 7 1) 1, keyid := beAt rec.1 12 4, act := beAt rec.1 16 6
          ret := if k < 128 then never else beAt rec.1 22 6 })

/-- The three derived slots and the persistent ones of a half (R372, R385): a record whose RET_SEC has passed is skipped,
unless TB0 is unbounded; a slot that is DEFECT takes none (R388). -/
def Dev.keysStarted (d : Dev) (h : Half) (recs : Tab (List Byte × List Byte)) (bounded : Bool) : Dev :=
  let base : Tab Slot := tset {} (tset {} (tset {} [] 0 (derivedSlot "hertar ks0 identity" 4 0x20)) 1
    (derivedSlot "hertar ks1 attest" 4 0x10)) 2 (derivedSlot "hertar ks2 wrap" 5 0x40)
  let all := recs.foldl (fun (t : Tab Slot) (e : Nat × (List Byte × List Byte)) =>
    match restoredSlot e.2 with
    | none => t
    | some x => if bounded && !(x.2.presentAt (d.tb0 h)) then t else tset {} t x.1 x.2) base
  let ws := fun (e : Dev) (o : Nat) (l : List Byte) =>
    ((List.range ((wordsOfBytes l).length)).foldl (fun (x : Dev) i =>
      x.setw (pageAddr .att h 0 + o + 4 * i) (((wordsOfBytes l)[i]?.getD 0).toNat)) e)
  let d1 := d.setSlots h ((d.cad h).defects.foldl (fun (t : Tab Slot) (e : Nat × Slot) => tset {} t e.1 e.2) all)
  let d2 := ws (ws (ws (ws d1 0x100 (Config.edPublic (derivedKey "hertar ks0 identity"))) 0x120
    (Config.edPublic (derivedKey "hertar ks1 attest"))) 0x140
    (Config.x25519 (derivedKey "hertar ks2 wrap") (9 :: List.replicate 31 0))) 0x160 deviceId
  ((d2.pb (cadPg h) Reg.CAD.CSTAT_KEYS_READY true).pb (cadPg h) Reg.CAD.CSTAT_PERSIST_OK true).raise (cadPg h) 0

/-- The slots of one half loaded into the other as it returns (R381, R388, R425): all but those that are DEFECT in either. -/
def Dev.keysJoined (d : Dev) (src dst : Half) : Dev :=
  d.setSlots dst ((d.cad dst).defects.foldl (fun (t : Tab Slot) (e : Nat × Slot) => tset {} t e.1 e.2)
    ((d.cad src).slots.filter fun (e : Nat × Slot) => !e.2.defect))

/-- A half in root failure (R374). -/
def Dev.rootFailed (d : Dev) (h : Half) : Dev :=
  (((d.setSlots h (d.cad h).defects).pb (cadPg h) Reg.CAD.CSTAT_ROOT_FAIL true).raise (cadPg h) 1).unitFault (cadPg h) 0xFF

/-- The check values of the roots differ (R373): Weft enters root failure. -/
def Dev.rootMismatch (d : Dev) : Dev :=
  (((d.raise (cadPg .warp) 2).raise (cadPg .weft) 2).unitFault (cadPg .warp) 0xFF).rootFailed .weft

/-! ### Public objects (R397) -/

/-- The endorsement: 88 bytes and KS0's signature over them. -/
def endorsement : List Byte :=
  let ks0 := derivedKey "hertar ks0 identity"
  let l := bytesBE 4 0x454E4431 ++ bytesBE 2 1 ++ bytesBE 2 0 ++ deviceId ++
    Config.edPublic (derivedKey "hertar ks1 attest") ++
    Config.x25519 (derivedKey "hertar ks2 wrap") (9 :: List.replicate 31 0)
  l ++ Config.edSign ks0 l

/-- CERT_READ (R397). -/
def certRead (c : FwCmd) (d : Dev) : FwResult :=
  let w := (c.req[0]?.getD 0).toNat
  let sel := w % 4
  let off := w / 65536
  if c.len ≠ 1 then { dev := d, code := codeBadLen }
  else if 1 < sel || off % 4 != 0 then { dev := d, code := codeBadArg }
  else
    let o := if sel = 0 then Config.idCert else endorsement
    { dev := d, code := codeOK, rsp := BitVec.ofNat 32 (o.length % 65536) :: wordsOfBytes (sliceB o off 252) }

end Sys2Proof.Machine
end

