-- ==== Sys2Proof/Machine/Responder.lean ====
section
/-! DEFINITION. The responder (R331 to R359): service entries, the stages of the pipeline, the values a reply states, NTP and
NTS, rate limiting, PTP replies and their authentication, mirror records. -/

namespace Sys2Proof.Machine

/-- The RLT page of a half. -/
def rltPg (h : Half) : Nat := pageAddr .rlt h 0

/-! ### Service entries (R331) -/

/-- The entry that a commit would give: staged words 0 to 6 over the committed ones, and the word written to ACTRL.
[DEDUCED log 145] -/
def Dev.stagedEntry (d : Dev) (h : Half) (a v : Nat) : List Nat :=
  ((List.range 7).map fun w =>
    match tget none d.svcStage (trsEnt h a + 4 * w) with
    | some x => x.toNat
    | none => d.w (trsEnt h a + 4 * w)) ++ [v]

/-- A commit of VALID 1 is refused: an equal address among the other valid entries, or NTS without NTP. -/
def Dev.entryRefused (d : Dev) (h : Half) (a : Nat) (e : List Nat) : Bool :=
  (entBits e 6 24 1 == 1 && entBits e 6 23 1 == 0) ||
    (List.range 64).any fun b =>
      let x := d.svcEntry h b
      b != a && entBits x 7 31 1 == 1 && entBits x 6 22 1 == entBits e 6 22 1 && entBits x 6 26 1 == entBits e 6 26 1 &&
        (if entBits e 6 26 1 == 1 then entMac x == entMac e else entAddr x == entAddr e)

/-- A write of word `w` of entry `a` (R331, R367): words 0 to 6 are staged, word 7 commits. [DEDUCED log 145] -/
def svcWordWritten (h : Half) (a w v : Nat) (d : Dev) : Dev :=
  let at_ := trsEnt h a
  if w < 7 then
    { d with svcStage := tset none d.svcStage (at_ + 4 * w) (some (BitVec.ofNat 32 (mergeWrite (at_ + 4 * w) 0 v))) }
  else
    let v1 := mergeWrite (at_ + 28) 0 v
    let e := d.stagedEntry h a v1
    let bad := bitAt v1 31 && d.entryRefused h a e
    let d1 := (List.range 7).foldl (fun (x : Dev) i => x.setw (at_ + 4 * i) (e[i]?.getD 0)) d
    let d2 := { d1 with svcStage := (List.range 7).foldl (fun (t : Tab (Option Word)) i => t.erase (at_ + 4 * i)) d1.svcStage }
    (d2.setw (at_ + 28) (if bad then v1 % 2 ^ 31 else v1)).raiseIf bad (trsPg h) 1

/-! ### Values of the epochs and of the second (R17, R174, R339, R343) -/

/-- What is published of a timebase. -/
def Dev.pub (d : Dev) (n : Nat) : PubVals := tget {} d.pubs n

/-- The count of TB0 that an NTP reference timestamp states: the last update, or the entry to a holdover (R342), as the
deciding half holds it. [DEDUCED log 148] -/
def Dev.refAt (d : Dev) (n : Nat) : Nat :=
  let lp := d.loop d.lead n
  (if d.lstate d.lead n = 4 then lp.holdAt.getD lp.updAt else lp.updAt) / 2 ^ 32

/-- The offsets of every timebase from TB0 and their rates, taken in a half at a sample boundary (R339), with what is then
published and the instant of each loop's last update: R342 takes every value of a reply from its descriptor's epoch. -/
def Dev.epochSample (d : Dev) (h : Half) : EpochVals :=
  { num := 0, m0 := d.tb0 h
    delta := (List.range 16).map fun n => ((d.count h n / 2 ^ 32 : Nat) : Int) - d.tb0 h
    rate := (List.range 16).map fun n => (d.tb h n).fadj - (d.tb h 0).fadj
    pubs := (List.range 16).map d.pub
    refs := (List.range 16).map d.refAt }

/-- BOUND_SAMPLE of both halves: local bounds (R205) and the values the next exchange carries (R339). -/
def boundSampledAll (d : Dev) : Dev :=
  let d1 := boundSampled .weft (boundSampled .warp d)
  { d1 with sampled := ⟨if d1.boundServes .warp then some (d1.epochSample .warp) else none,
                        if d1.boundServes .weft then some (d1.epochSample .weft) else none⟩ }

/-- EPOCH_OPEN: the epoch's bounds, and the values of Warp's sample, or Weft's own while Warp contributes none (R339). -/
def epochOpenedAll (d : Dev) : Dev :=
  let d1 := epochOpened d
  let moved := [Half.warp, Half.weft].any fun h => d1.g (bndPg h) Reg.BND.EPOCH_NUM != d.g (bndPg h) Reg.BND.EPOCH_NUM
  match (if d.boundServes .warp then d.sampled.warp else d.sampled.weft) with
  | some v =>
    if moved then { d1 with epochs := ({ v with num := d1.g (bndPg d1.lead) Reg.BND.EPOCH_NUM } :: d1.epochs).take 3 } else d1
  | none => d1

/-- The values of the epoch that a descriptor names; an older one is served with the current (R25). -/
def Dev.epochVals (d : Dev) (epoch : Nat) : EpochVals :=
  match (d.epochs.take 2).find? (fun e => e.num == epoch) with
  | some e => e
  | none => d.epochs.headD { num := 0, m0 := 0, delta := [], rate := [] }

/-- HCTRL.EXP_STRATUM with its limit (R177). -/
def Dev.expStratum (d : Dev) (h : Half) : Nat := max 2 (d.g (hldPg h) Reg.HLD.HCTRL_EXP_STRATUM)

/-- clockClass of both columns and the stratum of a timebase's loop (R174). -/
def Dev.classRow (d : Dev) (h : Half) (n : Nat) : Nat × Nat × Nat :=
  let st := d.lstate h n
  if st ≤ 1 || !(d.loop h n).synced then (248, 248, 16)
  else if d.gb (dplL h n) Reg.DPL.LSTAT_EXPIRED then (52, 140, d.expStratum h)
  else if st = 3 && (match d.loopIn h n with | some i => d.timeIn h i | none => false) && d.bo h n == 0 then (6, 6, 1)
  else (7, 7, 1)

/-- Four ASCII bytes of a reference ID, padded with zeros. -/
def refIdOf (s : String) : Nat := natOfBE ((ascii s ++ [0, 0, 0, 0]).take 4)

/-- The reference ID of a timebase (R343). -/
def Dev.refIdRow (d : Dev) (h : Half) (n stratum : Nat) : Nat :=
  let c := d.selC h n
  if stratum = 16 then refIdOf "INIT"
  else if stratum ≠ 1 then d.g (trsPg h) Reg.TRS.NTPRID
  else if 30 ≤ c then refIdOf "HOLD"
  else if !(d.isTime h c) then refIdOf "FREQ"
  else if c < 12 then refIdOf "PPS"
  else if c = 12 then refIdOf (["GPS", "GAL", "BDS", "GLO"][d.g gnsPg Reg.GNS.SCFG_TSYS]?.getD "GPS")
  else if c < 26 then refIdOf "PTP"
  else refIdOf "PEER"

/-- PUBLISH_VALUES (R17, R174, R343, R357): what Warp's firmware decided, in both halves. The leap, validity and traceability
flags of Announce and its timeSource are free values: the manual says only that firmware decides them.
[DESIGN CHOICE log 8, 149; DEDUCED log 163] -/
def valuesPublished (d : Dev) : Dev :=
  let h := d.lead
  let d1 := (List.range 16).foldl (fun (e : Dev) n =>
    let r := e.classRow h n
    let v : PubVals := { cls := r.1, cls1 := r.2.1, stratum := r.2.2, refid := e.refIdRow h n r.2.2, bound := e.published h n
                         flags := (e.freeNat 16 n % 64 / 16) * 16 + 8 + e.freeNat 16 n % 8, source := e.freeNat 16 n / 256 }
    { e with pubs := tset {} e.pubs n v }) d
  [Half.warp, Half.weft].foldl (fun (e : Dev) g =>
    (e.p (hldPg g) Reg.HLD.HSTAT_CLASS (e.pub 0).cls).p (hldPg g) Reg.HLD.HSTAT_STRATUM (e.pub 0).stratum) (d1.drawn 16)

/-- The leap indicator of UTC at an instant of a timebase (R80). -/
def Dev.leapInd (d : Dev) (h : Half) (x : Nat) : Nat :=
  match (d.leapActive h).pendingAt (x / secFrac) with
    | some l => if 0 < l then 1 else 2
    | none => 0

/-- The view of a timebase for a reply of this half at a launch instant, in ns, under a descriptor's epoch (R25, R342): bound,
stratum, reference ID and reference timestamp are the epoch's, the same in both halves; before any epoch has opened they are
those published last. -/
def Dev.viewOf (d : Dev) (h : Half) (n t epoch : Nat) : TbView :=
  let ev := d.epochVals epoch
  let p := (ev.pubs[n]?).getD (d.pub n)
  let v : TbView := { n := n, bound := (d.epochBound h n epoch).1, cls := p.cls, cls1 := p.cls1, stratum := p.stratum, li := 0
                      refid := p.refid, refts := 0, utc := 0, delta := (ev.delta[n]?).getD 0, rate := (ev.rate[n]?).getD 0 }
  let x := tbnAt [v] ev.m0 n (ns32 t)
  { v with
    li := if p.stratum = 16 then 3 else d.leapInd h x
    refts := if p.stratum = 16 then 0 else tbnAt [v] ev.m0 n ((ev.refs[n]?).getD (d.refAt n))
    utc := (d.leapActive h).ofsAt (x / secFrac) }

/-- The context of an origin that a mirrored descriptor names, among the last two (R422). -/
def Dev.originCtx (d : Dev) (h : Half) (origin epoch : Nat) : Option MirrorCtx :=
  (tget [] (d.red.of h).ctxs origin).find? fun c => c.epoch == epoch

/-- The view and the sample boundary that a request's reply is built from: the origin's for a mirrored one (R422). -/
def Dev.reqView (d : Dev) (h : Half) (r : Req) (n t : Nat) : TbView × Nat :=
  match r.origin.bind (fun o => d.originCtx h o r.desc.epoch) with
  | some c =>
    match c.views.find? (fun v => v.n == n) with
    | some v => (v, c.m0)
    | none => (d.viewOf h n t r.desc.epoch, (d.epochVals r.desc.epoch).m0)
  | none => (d.viewOf h n t r.desc.epoch, (d.epochVals r.desc.epoch).m0)

/-! ### Requests in the pipeline (R333, R334) -/

/-- A request of a half by its identity. -/
def Dev.req (d : Dev) (h : Half) (id : Nat) : Option Req := (d.rsp h).reqs.find? fun r => r.id == id

/-- The device with a request replaced. -/
def Dev.putReq (d : Dev) (h : Half) (r : Req) : Dev :=
  let s := d.rsp h
  d.setRsp h { s with reqs := s.reqs.map fun x => if x.id = r.id then r else x }

/-- A request that leaves the responder: its credit returns (R334). -/
def Dev.dropReq (d : Dev) (h : Half) (id : Nat) : Dev :=
  let s := d.rsp h
  d.setRsp h { s with reqs := s.reqs.filter fun x => x.id != id }

/-- A request that leaves under R333, counted in a TRS counter and as a wasted slot; a probe counts nothing (R401). -/
def Dev.leaveReq (d : Dev) (h : Half) (r : Req) (c : Nat) : Dev :=
  let d1 := d.dropReq h r.id
  if r.probe then d1 else (d1.trsCount h c).wasted h r.cls

/-- AUTH_FAIL raised at most once per millisecond (R370). -/
def Dev.authFailed (d : Dev) (h : Half) : Dev :=
  let ms := d.tb0 h / ns32 1000000
  let s := d.rsp h
  let d1 := d.trsCount h 6
  if s.failMs = some ms then d1 else (d1.setRsp h { d1.rsp h with failMs := some ms }).raise (trsPg h) 2

/-- A request that fails verification (R346, R359, R374, R392). -/
def Dev.verifyFailed (d : Dev) (h : Half) (r : Req) : Dev := ((d.authFailed h).dropReq h r.id).wasted h r.cls

/-- The input credits that requests hold (R334). -/
def Dev.creditsUsed (d : Dev) (h : Half) : Nat := ((d.rsp h).reqs.filter fun r => r.stage != .arrived && !r.probe).length

/-- The responder takes requests: ENABLE is set and its half is not in safe state (R563). -/
def Dev.trsOn (d : Dev) (h : Half) : Bool :=
  d.enabled (trsPg h) && !(d.hs h).safe && (d.hs h).powered && !(d.hs h).heldReset

/-- The request that waits longest at a half's input takes a credit, or is dropped at the classifier (R23, R334); while
the TRS page sleeps it waits (R436). -/
def reqAccepted (h : Half) (d : Dev) : Dev :=
  match (d.rsp h).reqs.find? (fun r => r.stage == .arrived) with
  | none => d
  | some r =>
    if d.trsOn h && !(d.inP0 (trsPg h)) then d
    else if d.trsOn h && decide (d.creditsUsed h < 512) then d.putReq h { r with stage := .parse, lead := d.leadNs h }
    else if r.origin.isSome then (d.dropReq h r.id).inc (redPg h) Reg.RED.MIRROR_RXDROP
    else if r.bridged then (d.dropReq h r.id).inc (swcPg h.other) Reg.SWC.BRIDGE_DROP
    else (d.dropReq h r.id).inc (swcW h (r.desc.port / 2)) Reg.SWC.SVC_DROP

/-! ### Parse (R333, R344) -/

/-- The extension fields of an NTP message that can be walked, as type and whole field. -/
def walkFields : Nat → List Byte → List (Nat × List Byte)
  | 0, _ => []
  | k + 1, l =>
    let n := beAt l 2 2
    if l.length < 4 ∨ n < 4 ∨ n % 4 ≠ 0 ∨ l.length < n then [] else (beAt l 0 2, l.take n) :: walkFields k (l.drop n)

/-- An NTP message carries an NTS Cookie field. -/
def hasCookie (body : List Byte) : Bool := (walkFields 64 (body.drop 48)).any fun f => f.1 == 0x0204

/-- What R344 asks of an NTS request, with the number of placeholders counted. [DEDUCED log 150] -/
def ntsForm (body : List Byte) : Option Nat :=
  match extFields 64 (body.drop 48) with
  | none => none
  | some fs =>
    let of := fun t => fs.filter fun f => f.1 == t
    let uidOk := match of 0x0104 with
      | [f] => decide (36 ≤ f.2.length) && decide (f.2.length ≤ 68)
      | _ => false
    let ckOk := match of 0x0204 with | [f] => f.2.length == 104 | _ => false
    let phOk := (of 0x0304).all fun f => f.2.length == 104
    let auth := match fs.getLast? with
      | some f => f.1 == 0x0404 && decide (16 ≤ beAt f.2 4 2) &&
          decide (8 + ceilDiv (beAt f.2 4 2) 4 * 4 + beAt f.2 6 2 ≤ f.2.length)
      | none => false
    if uidOk && ckOk && phOk && auth then some (min 7 (of 0x0304).length) else none

/-- The shortest PTP message of a kind that the responder answers. -/
def ptpMin (type : Nat) : Nat := if type = 2 then 54 else 44

/-- The Parse stage lets a message through (R333, R344). [DEDUCED log 150] -/
def parseOk (ent : List Nat) (m : Msg) : Bool :=
  (match m.ip with | some i => i.plain | none => true) && (match m.udp with | some u => u.good | none => m.isL2Ptp) &&
    (if m.isPtp then decide (ptpMin (ptpType m.body) ≤ m.body.length) && decide (beAt m.body 2 2 ≤ m.body.length)
     else entBits ent 6 24 1 == 0 || !(hasCookie m.body) || (ntsForm m.body).isSome)

/-- REQUEST_PARSE. -/
def reqParsed (h : Half) (id : Nat) (d : Dev) : Dev :=
  match d.req h id with
  | none => d
  | some r =>
    if r.stage != .parse then d
    else if parseOk r.ent (msgOf r.bytes) then d.putReq h { r with stage := .classify }
    else d.leaveReq h r 4

/-! ### Classify (R341, R355, R356) -/

/-- What the responder answers of an NTP message (R341). [DEDUCED log 150] -/
def ntpAnswered (ent : List Nat) (body : List Byte) : Option ReqKind :=
  let mode := beAt body 0 1 % 8
  let vn := beAt body 0 1 / 8 % 8
  let tail := ntpTrailer 64 (body.drop 48)
  let ck := hasCookie body
  if mode ≠ 3 ∨ ¬(vn = 3 ∨ vn = 4) ∨ body.length < 48 ∨ tail = 20 ∨ tail = 24 then none
  else if entBits ent 6 25 1 = 1 ∧ !ck then none
  else if ck && entBits ent 6 24 1 == 1 then some .nts
  else some .ntp

/-- The registers of a PTP service that a request takes with it (R365). -/
def Dev.svcCfg (d : Dev) (h : Half) (s : Nat) : List Nat := (List.range 6).map fun i => d.w (trsV h s + 4 * i)

/-- A field of a service's registers as a request took them. -/
def cfgBits (c : List Nat) (f : Fld) : Nat := getBits (c.getD (f.off / 4) 0) f.lo f.len

/-- The transport of a service's PROFILE permits a message (R355): G.8275.1 Ethernet and multicast, G.8275.2 UDP. -/
def profilePermits (prof : Nat) (m : Msg) : Bool :=
  match prof with
  | 1 => m.isL2Ptp && m.ptpGroup
  | 2 => m.isUdpPtp
  | _ => true

/-- The grants of a half. -/
def Dev.grant (d : Dev) (h : Half) (n : Nat) : Grant := tget {} d.grants (h.num * 4096 + n)

/-- The source address of a message: its IP address, or its MAC. -/
def msgSrc (m : Msg) : Nat := match m.ip with | some i => i.src | none => m.eth.src

/-- The active Delay_Resp grant that the sender of a message holds under a service. [DEDUCED log 156] -/
def Dev.delayGrant (d : Dev) (h : Half) (s : Nat) (m : Msg) : Option Grant :=
  (List.find? (fun (e : Nat × Grant) =>
    e.1 / 4096 == h.num && e.2.active && e.2.mtype == 2 && e.2.svc == s &&
      (if e.2.l2 then m.isL2Ptp && e.2.mac == m.eth.src else e.2.addr == msgSrc m) &&
      bytesBE 8 e.2.pid ++ bytesBE 2 e.2.pnum == ptpSource m.body) d.grants).map fun (e : Nat × Grant) => e.2

/-- tlvType of the AUTHENTICATION TLV of Annex P (PRESUMED layout of IEEE 1588-2019: SPP, secParamIndicator, keyID, ICV).
[PRESUMED log 129] -/
def tlvAuth : Nat := 0x8009

/-- The TLVs of a PTP message from an offset, as offset, type and value. -/
def tlvsAt : Nat → List Byte → Nat → List (Nat × Nat × List Byte)
  | 0, _, _ => []
  | k + 1, l, o =>
    if l.length < o + 4 then []
    else
      let n := beAt l (o + 2) 2
      if l.length < o + 4 + n then [] else (o, beAt l o 2, sliceB l (o + 4) n) :: tlvsAt k l (o + 4 + n)

/-- Where the TLVs of a PTP message start. -/
def tlvStart (type : Nat) : Nat :=
  match type with
  | 2 => 54 | 3 => 54 | 0xA => 54 | 9 => 54 | 0xB => 64 | 0xD => 48 | _ => 44

/-- The PTP message itself, without padding after messageLength. -/
def ptpBody (body : List Byte) : List Byte := body.take (max 34 (beAt body 2 2))

/-- The TLVs of a PTP message. -/
def ptpTlvs (body : List Byte) : List (Nat × Nat × List Byte) :=
  tlvsAt 64 (ptpBody body) (tlvStart (ptpType body))

/-- The AUTHENTICATION TLV of a PTP message. [PRESUMED log 129] -/
def authTlv (body : List Byte) : Option (Nat × Nat × List Byte) := (ptpTlvs body).find? fun t => t.2.1 == tlvAuth

/-- The bytes that an AUTHENTICATION TLV adds to a message. -/
def authLen : Nat := 26

/-- What a service answers of a PTP request (R356), given the sender's grant. -/
def ptpAnswered (pad : Bool) (c : List Nat) (m : Msg) (granted : Bool) : Option ReqKind :=
  let b := m.body
  let p2p := cfgBits c Reg.TRS.PCFG_P2P = 1
  let prof := cfgBits c Reg.TRS.PCFG_PROFILE
  let neg := cfgBits c Reg.TRS.PCFG_UNICAST_NEG = 1
  let auth := cfgBits c Reg.TRS.AUTH_AUTH_EN = 1
  if !(profilePermits prof m) then none
  else
    match ptpType b with
    | 1 =>
      let open_ := m.ptpGroup || granted || cfgBits c Reg.TRS.PCFG_OPEN == 1 || ((prof == 0 || prof == 3) && !neg)
      let short := pad && (decide ((ptpBody b).length < 54 + (if auth then authLen else 0)) || (auth && (authTlv b).isNone))
      if p2p || !open_ || short then none else some .delayReq
    | 2 => if p2p then some .pdelayReq else none
    | 0xC =>
      if neg && ((ptpTlvs b).any fun t => t.2.1 == 0x0004 || t.2.1 == 0x0006) then some .signaling else none
    | _ => none

/-- REQUEST_CLASSIFY: service, kind, rate profile and configuration (R341, R355, R356, R365), and the scale of an NTP reply
(R72). -/
def reqClassified (h : Half) (id : Nat) (d : Dev) : Dev :=
  match d.req h id with
  | none => d
  | some r =>
    if r.stage != .classify then d
    else
      let m := msgOf r.bytes
      let next := if r.probe || r.origin.isSome then Stage.verify else Stage.rate
      let pr := entBits r.ent 6 20 2
      let prof := (List.range 3).map fun i => d.w (rltPg h + 0x100 + 0x10 * pr + 4 * i)
      let count := fun (e : Dev) c => if r.probe || r.origin.isSome then e else e.trsCount h c
      if m.isPtp then
        match d.ptpService h r.ent (ptpDomain m.body) with
        | none => (count d 2).leaveReq h { r with kind := .delayReq } 5
        | some s =>
          let c := d.svcCfg h s
          match ptpAnswered (d.gb (trsPg h) Reg.TRS.PTPCFG_PAD_REQ) c m
              (r.origin.isSome || (d.delayGrant h s m).isSome) with
          | none => (count d 2).leaveReq h { r with kind := .delayReq } 5
          | some k =>
            (count d 2).putReq h
              { r with stage := next, kind := k, svc := s, cfg := c, prof := prof
                       spp := d.w (trsPg h + 0x340 + 8 * cfgBits c Reg.TRS.AUTH_SPP_IDX) }
      else
        match ntpAnswered r.ent m.body with
        | none => (count d 0).leaveReq h { r with kind := .ntp } 5
        | some k =>
          (count d (if k = .nts then 1 else 0)).putReq h
            { r with stage := next, kind := k, prof := prof, scale := d.scale h (entBits r.ent 6 16 4) }

/-! ### Reply frames (R338) -/

/-- The outer headers of a reply to a message under an entry. [DEDUCED log 155] -/
def Dev.replyOuter (d : Dev) (h : Half) (ent : List Nat) (m : Msg) (peer : Bool) : Outer :=
  let grp := m.ptpGroup
  { dstMac := if grp then m.eth.dst else m.eth.src, srcMac := entMac ent, tags := m.eth.tags
    v6 := (m.ip.map (·.v6)).getD false, l2 := m.isL2Ptp, srcIp := entAddr ent
    dstIp := if grp then (m.ip.map (·.dst)).getD 0 else (m.ip.map (·.src)).getD 0
    sport := m.dport, dport := (m.udp.map (·.sport)).getD 0
    ttl := if peer then 1 else max 1 (d.g (trsPg h) Reg.TRS.IPCFG_TTL), dscp := d.g (trsPg h) Reg.TRS.IPCFG_DSCP }

/-- A half sends nothing before it rejoins (R34, R427). [DEDUCED log 164] -/
def Dev.halfMute (d : Dev) (h : Half) : Bool := d.returning h

/-- A reply's frame on the half's port of the arrival pair (R28). -/
def Dev.replyFrame (d : Dev) (h : Half) (r : Req) (id : Nat) (peer : Bool) (payload : List Byte) (fixes : List Fix)
    (v : TbView) (m0 t : Nat) : GFrame :=
  { id := id, port := portOf h (r.desc.port / 2), src := .reply false, t := t, mean := r.desc.mean.getD 0
    body := .built (d.replyOuter h r.ent (msgOf r.bytes) peer) payload, fixes := fixes, m0 := m0, views := [v]
    gen := r.desc.stepgen, prp := d.gb (redPg h) Reg.RED.PRP_TX_EN, mute := r.probe || d.halfMute h, cls := r.cls }

/-- The launch instant of a request's reply (R313). -/
def Req.launch (r : Req) : Nat := launchOf (r.desc.mean.getD 0) r.lead

/-- The NTP header of a KoD or an NTS NAK (R347, R353). -/
def Dev.nakHeader (d : Dev) (h : Half) (body : List Byte) (refid : String) : List Byte :=
  bytesBE 1 (0xC0 + beAt body 0 1 / 8 % 8 * 8 + 4) ++ [0] ++ bytesBE 1 (beAt body 2 1) ++
    bytesBE 1 (d.g (trsPg h) Reg.TRS.NTPCFG_PREC) ++ bytesBE 8 0 ++ bytesBE 4 (refIdOf refid) ++ bytesBE 8 0 ++
    sliceB body 40 8 ++ bytesBE 16 0

/-- A KoD or NAK takes the place of a request's reply: it passes on to the late check. -/
def Dev.answerNak (d : Dev) (h : Half) (r : Req) (payload : List Byte) : Dev :=
  let i := d.newId h
  let t := r.launch
  let v := i.1.reqView h r 0 t
  i.1.putReq h { r with stage := .late, slots := [], out := [i.1.replyFrame h r i.2 false payload [] v.1 v.2 t] }

/-! ### Rate check (R351 to R354) and mirroring (R421) -/

/-- The prefix of a source address that a profile names, as bytes: the bits beyond it are 0. [DEDUCED log 152] -/
def prefixBytes (m : Msg) (pfx : Nat) : List Byte :=
  match m.ip with
  | none => bytesBE 6 m.eth.src
  | some i =>
    if i.v6 then
      let n := min 128 (getBits pfx 8 8)
      bytesBE 16 (i.src / 2 ^ (128 - n) * 2 ^ (128 - n))
    else
      let n := min 32 (getBits pfx 0 8)
      bytesBE 4 (i.src / 2 ^ (32 - n) * 2 ^ (32 - n))

/-- HKEY as one number. -/
def Dev.hkey (d : Dev) (h : Half) : Nat :=
  (List.range 4).foldl (fun s w => s + d.w (rltPg h + 0x140 + 4 * w) * 2 ^ (32 * w)) 0

/-- The bucket of a source under a profile. [DEDUCED log 152] -/
def Dev.bucketIdx (d : Dev) (h : Half) (pr : Nat) (m : Msg) (pfx : Nat) : Nat :=
  Config.sipHash (d.hkey h) (bytesBE 1 pr ++ prefixBytes m pfx) % 65536

/-- A bucket after the refill of R351 at a mean ingress instant. -/
def Bucket.refill (b : Bucket) (m rate burst : Nat) : Bucket :=
  if b.last < m then
    let dt := min ((m - b.last) / 2 ^ 32) (10 ^ 10)
    { b with tok := min (burst * 65536) (b.tok + dt * rate * 65536 / 10 ^ 9), last := m }
  else b

/-- The banks of rate buckets removed from a half (R31). -/
def Dev.banksOut (d : Dev) (h : Half) : List Nat := tget [] d.unitsOut (rltPg h)

/-- The bucket that serves a request whose key gives an index, if a bank with buckets is left (R31, R351): its own, or where
its bank is removed the first of the banks in service from a place that the manual leaves open.
[DESIGN CHOICE log 234] -/
def Dev.bucketServing (d : Dev) (h : Half) (i : Nat) : Option Nat :=
  let out := d.banksOut h
  if !(out.contains (Config.bucketBank i)) then some i
  else
    let from_ := Config.bucketMove out i
    ((List.range 65536).find? fun k => !(out.contains (Config.bucketBank ((from_ + k) % 65536)))).map fun k => (from_ + k) % 65536

/-- A bucket of a half. -/
def Dev.bucket (d : Dev) (h : Half) (i : Nat) : Bucket := tget {} d.buckets (h.num * 65536 + i)

/-- The device with a bucket replaced. -/
def Dev.setBucket (d : Dev) (h : Half) (i : Nat) (b : Bucket) : Dev :=
  { d with buckets := tset {} d.buckets (h.num * 65536 + i) b }

/-- The occupied buckets of a half (R354). -/
def Dev.occupied (d : Dev) (h : Half) : Nat :=
  (d.buckets.filter fun (e : Nat × Bucket) =>
    e.1 / 65536 == h.num && decide (0 < e.2.last) && decide (d.tb0 h < e.2.last + ns32 (10 ^ 10))).length

/-- OCC of a half and RL_OCC50 (R354). -/
def Dev.occCheck (d : Dev) (h : Half) : Dev :=
  let n := d.occupied h
  let s := d.rsp h
  let fire := s.occArm && decide (32768 ≤ n)
  ((d.p (rltPg h) Reg.RLT.OCC n).setRsp h
    { s with occArm := if fire then false else s.occArm || decide (n < 24576) }).raiseIf fire (rltPg h) 0

/-- A denied request counted, with RL_DENY at most once per millisecond (R353, R370). [DEDUCED log 151] -/
def Dev.denied (d : Dev) (h : Half) (cls : Nat) : Dev :=
  let ms := d.tb0 h / ns32 1000000
  let d1 := (d.inc (rltPg h) Reg.RLT.DENIED).perf (rltPg h) 0x02 { cls := some cls }
  if (d1.rsp h).denyMs = some ms then d1 else (d1.setRsp h { d1.rsp h with denyMs := some ms }).raise (rltPg h) 1

/-- A descriptor as a mirror record carries it (R311, R421), in 32 bytes. [DESIGN CHOICE log 166] -/
def descBytes (s : Desc) : List Byte :=
  let v := fun (x : Nat) => bytesBE 6 (x / secFrac) ++ bytesBE 4 (x % secFrac / 2 ^ 32) ++ bytesBE 4 x
  v s.ing0 ++ v s.ing1 ++
    bytesBE 2 (bitOf s.v0 * 32768 + bitOf s.v1 * 16384 + bitOf s.ts0 * 8192 + bitOf s.ts1 * 4096 + s.port % 8 * 512 +
      s.stepgen % 16 * 32) ++ bytesBE 2 s.epoch

/-- An up link of a half that connects to a chip (R421). -/
def Dev.linkTo (d : Dev) (h : Half) (chip : Nat) : Option Nat :=
  ((List.range 2).map fun k => 2 * h.num + k).find? fun s =>
    d.gb (slvL s) Reg.SLV.LSTAT_UP && d.g (slvL s) Reg.SLV.LSTAT_PEER_ID == chip

/-- Bytes leave on a Selvedge link in flits of a class (R406, R423). -/
def Dev.linkSend (d : Dev) (s cls : Nat) (bytes : List Byte) : Dev :=
  let st : LinkSt := tget {} d.links s
  ({ d with links := tset {} d.links s { st with sent := bytes } }).perf (pageAddr .slv (Half.ofNum (s / 2)) 0) 0x01
    { address := some (s % 2), cls := some cls } (ceilDiv bytes.length 58) 3

/-- MIRROR_DROP counted and raised at most once per millisecond (R421, R432). -/
def Dev.mirrorDropped (d : Dev) (h : Half) : Dev :=
  let ms := d.tb0 h / ns32 1000000
  let d1 := d.inc (redPg h) Reg.RED.MIRROR_DROP
  if (d1.red.of h).dropMs = some ms then d1
  else ({ d1 with red := d1.red.put h { d1.red.of h with dropMs := some ms } }).raise (redPg h) 8

/-- An admitted request mirrored (R421). `credit` says whether the link it would take holds a MIRROR credit. -/
def Dev.mirrorSend (d : Dev) (h : Half) (r : Req) (credit : Bool) : Dev :=
  let owner := portHalf r.desc.port
  let does := if d.outOfService owner then h == owner.other else h == owner
  let kindOk := match r.kind with | .ntp => true | .nts => true | .delayReq => true | _ => false
  if !(d.gb (redPg h) Reg.RED.MIRROR_EN) || !does || !kindOk || r.probe || r.origin.isSome || d.chipReturning h then d
  else
    let bytes := descBytes r.desc ++ r.bytes
    let buddy := d.g (redPg h) Reg.RED.MIRROR_BUDDY
    if !credit then d.mirrorDropped h
    else
      match d.linkTo h buddy with
      | some s => ((d.linkSend s 1 bytes).inc (redPg h) Reg.RED.MIRROR_TX).perf (redPg h) 0x01
      | none =>
        match d.linkTo h.other buddy with
        | some _ => ((d.toBridge h (.mirrorOut bytes)).inc (redPg h) Reg.RED.MIRROR_TX).perf (redPg h) 0x01
        | none => d.mirrorDropped h

/-- An admitted request passes to Verify. -/
def Dev.admitReq (d : Dev) (h : Half) (r : Req) (credit : Bool) : Dev :=
  (d.mirrorSend h r credit).putReq h { r with stage := .verify }

/-- A request of a denied bucket (R353): dropped, or answered with a RATE KoD. [DEDUCED log 151] -/
def Dev.denyReq (d : Dev) (h : Half) (r : Req) (i : Nat) (b : Bucket) : Dev :=
  let m := r.desc.mean.getD 0
  let pfx := r.prof[2]?.getD 0
  let d1 := (d.setBucket h i b).denied h r.cls
  let since := match b.kod with | none => true | some k => decide (k + ns32 (getBits pfx 24 8 * 10 ^ 9) ≤ m)
  if r.kind = .ntp && bitAt pfx 16 && since then
    ((d1.setBucket h i { b with kod := some m }).inc (rltPg h) Reg.RLT.KOD_SENT).answerNak h r
      (d.nakHeader h (msgOf r.bytes).body "RATE")
  else (d1.dropReq h r.id).wasted h r.cls

/-- RATE_CHECK (R351 to R354). -/
def rateChecked (h : Half) (id : Nat) (credit : Bool) (d : Dev) : Dev :=
  match d.req h id with
  | none => d
  | some r =>
    if r.stage != .rate || !(d.inP0 (rltPg h)) then d
    else
      let m := r.desc.mean.getD 0
      let msg := msgOf r.bytes
      let rate := (r.prof[0]?.getD 0) % 2 ^ 20
      let burst := max 1 ((r.prof[1]?.getD 0) % 2 ^ 16)
      if rate = 0 || !(d.enabled (rltPg h)) || (r.kind == .delayReq && (d.delayGrant h r.svc msg).isSome) then
        d.admitReq h r credit
      else
        match d.bucketServing h (d.bucketIdx h (entBits r.ent 6 20 2) msg (r.prof[2]?.getD 0)) with
        | none => d.admitReq h r credit
        | some i =>
          let b := (d.bucket h i).refill m rate burst
          if 65536 ≤ b.tok then
            (((d.setBucket h i { b with tok := b.tok - 65536 }).perf (rltPg h) 0x01 { cls := some r.cls }).admitReq h r
              credit).occCheck h
          else (d.denyReq h r i b).occCheck h

/-- CLEAR (R354): every bucket returns to its reset state. -/
def rateCleared (h : Half) (d : Dev) : Dev :=
  ({ d with buckets := d.buckets.filter fun (e : Nat × Bucket) => e.1 / 65536 != h.num }).occCheck h

/-! ### Verify (R345 to R347, R359) -/

/-- The bytes of an extension field's body. -/
def fieldOf (body : List Byte) (type : Nat) : Option (List Byte) :=
  ((walkFields 64 (body.drop 48)).find? fun f => f.1 == type).map (·.2)

/-- The bytes before the authenticator field, its nonce and its ciphertext. -/
def ntsAuth (body : List Byte) : List Byte × List Byte × List Byte :=
  let fs := walkFields 64 (body.drop 48)
  let f := (fs.getLast?.map (·.2)).getD []
  let ad := body.take (body.length - f.length)
  let n := beAt f 4 2
  (ad, sliceB f 8 n, sliceB f (8 + ceilDiv n 4 * 4) (beAt f 6 2))

/-- A cookie opened in a half for a mean ingress instant (R345, R346): the slot that sealed it and its plaintext. -/
def Dev.openCookie (d : Dev) (h : Half) (m : Nat) (ck : List Byte) : Option (Nat × List Byte) :=
  let keyid := beAt ck 0 4
  if keyid / 2 ^ 24 ≠ d.g (trsPg h) Reg.TRS.NTSCFG_FLEET then none
  else
    match d.genOf h keyid m with
    | none => none
    | some k =>
      match Config.sivOpen (d.slot h k).key [ck.take 4] (ck.drop 4) with
      | none => none
      | some p => if beAt p 64 2 = 0x000F ∧ beAt p 67 1 = 0 then some (k, p) else none

/-- The Verify stage of an NTS request. -/
def Dev.verifyNts (d : Dev) (h : Half) (r : Req) : Dev :=
  let body := (msgOf r.bytes).body
  let m := r.desc.mean.getD 0
  let ck := ((fieldOf body 0x0204).getD []).drop 4
  let uid := (fieldOf body 0x0104).getD []
  let fam := beAt ck 1 1 / 16
  match d.openCookie h m ck with
  | none =>
    if d.gb (trsPg h) Reg.TRS.NTSCFG_NAK_EN && r.origin.isNone then
      (d.trsCount h 7).answerNak h r (d.nakHeader h body "NTSN" ++ uid)
    else d.verifyFailed h r
  | some (k, p) =>
    let a := ntsAuth body
    let d1 := d.engOp h (some fam) k
    match Config.sivOpen (p.take 32) [a.1, a.2.1] a.2.2 with
    | none => d1.verifyFailed h r
    | some _ =>
      d1.putReq h { r with
        stage := .build, slots := [k]
        nts := some { c2s := p.take 32, s2c := sliceB p 32 32, uid := uid, nonce := a.2.1.take 16
                      k := (ntsForm body).getD 0, fam := fam } }

/-- The usage a family must have for an SPP entry's ALG (R377): PTP_HMAC or PTP_GMAC. -/
def sppUsage (spp : Nat) : Nat := if getBits spp 8 1 = 1 then 4 else 2

/-- The ICV of a PTP message (R359): `msg` ends where the ICV starts. [DEDUCED log 154] -/
def icvOf (alg : Nat) (key msg : List Byte) : List Byte :=
  if alg = 1 then Config.gmac key ((Config.sha256 (msg ++ List.replicate 16 0)).take 12) msg
  else (Config.hmac key msg).take 16

/-- A received PTP message passes the check of R359: the TLV names an SPP entry, and its keyID a present generation of that
entry's family with the usage ALG asks; no field of delayed processing; the ICV is right. The answer is the slot.
[DEDUCED log 154] -/
def Dev.ptpVerified (d : Dev) (h : Half) (body : List Byte) (m : Nat) : Option Nat :=
  match authTlv body with
  | none => none
  | some (o, _, v) =>
    match ((List.range 4).map fun i => d.w (trsPg h + 0x340 + 8 * i)).find? (fun s => s % 256 == beAt v 0 1) with
    | none => none
    | some spp =>
      let keyid := beAt v 2 4
      match d.genOf h keyid m with
      | none => none
      | some k =>
        let s := d.slot h k
        if keyid / 2 ^ 20 % 16 = getBits spp 9 4 ∧ s.usage = sppUsage spp ∧ beAt v 1 1 = 0 ∧ v.length = 22 ∧
            icvOf (getBits spp 8 1) s.key ((ptpBody body).take (o + 4 + 6)) = v.drop 6 then some k
        else none

/-- REQUEST_VERIFY. -/
def reqVerified (h : Half) (id : Nat) (d : Dev) : Dev :=
  match d.req h id with
  | none => d
  | some r =>
    if r.stage != .verify then d
    else
      match r.kind with
      | .ntp => d.putReq h { r with stage := .build }
      | .nts => if d.keysOff h then d.verifyFailed h r else d.verifyNts h r
      | _ =>
        if cfgBits r.cfg Reg.TRS.AUTH_REQ_AUTH = 0 then d.putReq h { r with stage := .build }
        else if d.keysOff h then d.verifyFailed h r
        else
          match d.ptpVerified h (msgOf r.bytes).body (r.desc.mean.getD 0) with
          | none => d.verifyFailed h r
          | some k => (d.engOp h (some ((k - 128) / 8)) k).putReq h { r with stage := .build, slots := [k] }

/-! ### Build (R342, R348, R357) -/

/-- The NTP header of a reply (R342), its transmit timestamp to be filled at the launch; a smeared view shows no leap. -/
def Dev.ntpHeader (d : Dev) (h : Half) (r : Req) (body : List Byte) (v : TbView) (m0 n : Nat) : List Byte :=
  let pg := trsPg h
  let lo := d.g pg Reg.TRS.NTPCFG_MINPOLL
  let hi := max lo (d.g pg Reg.TRS.NTPCFG_MAXPOLL)
  let utc := if r.origin.isSome then some v.utc else none
  let li := if v.stratum != 16 && r.scale == 2 && r.origin.isNone then 0 else v.li
  bytesBE 1 (li * 64 + beAt body 0 1 / 8 % 8 * 8 + 4) ++ bytesBE 1 v.stratum ++
    bytesBE 1 (clampNat lo hi (beAt body 2 1)) ++ bytesBE 1 (d.g pg Reg.TRS.NTPCFG_PREC) ++
    bytesBE 4 (d.g pg Reg.TRS.NTPRDLY) ++ bytesBE 4 (rootDispersion v.bound) ++ bytesBE 4 v.refid ++
    (if v.stratum = 16 then bytesBE 8 0 else ntpBytes (d.ntpView h n r.scale v.refts utc)) ++ sliceB body 40 8 ++
    ntpBytes (d.ntpView h n r.scale (tbnAt [v] m0 n (r.desc.mean.getD 0)) utc) ++ bytesBE 8 0

/-- sourcePortIdentity of a service's message on a port (R357). -/
def Dev.portIdentity (d : Dev) (h : Half) (p : Nat) : List Byte :=
  bytesBE 4 (d.g (trsPg h) Reg.TRS.CLKID_HI) ++ bytesBE 4 (d.g (trsPg h) Reg.TRS.CLKID_LO) ++ bytesBE 2 (p / 2 + 1)

/-- The flagField of a reply: unicastFlag and twoStepFlag. -/
def ptpFlags (unicast twoStep : Bool) : Nat := bitOf unicast * 0x0400 + bitOf twoStep * 0x0200

/-- The header of a PTP reply to a message. -/
def Dev.replyHead (d : Dev) (h : Half) (r : Req) (m : Msg) (type : Nat) (two : Bool) (corr : Int) (log : Nat) : PtpHead :=
  { type := type, domain := cfgBits r.cfg Reg.TRS.PCFG_DOMAIN, flags := ptpFlags (!m.ptpGroup) two, corr := corr
    source := d.portIdentity h r.desc.port, seq := ptpSeq m.body, logInt := log }

/-- The frames of a Delay_Resp (R357). [DEDUCED log 156] -/
def Dev.delayResp (d : Dev) (h : Half) (r : Req) (id : Nat) : List GFrame :=
  let m := msgOf r.bytes
  let t := r.launch
  let n := cfgBits r.cfg Reg.TRS.PCFG_TB
  let v := d.reqView h r n t
  let x := tbnAt [v.1] v.2 n (r.desc.mean.getD 0)
  let log := match if m.ptpGroup then none else d.delayGrant h r.svc m with
    | some g => unsignedOf 8 g.logint
    | none => cfgBits r.cfg Reg.TRS.INTV_LOGMINDREQ
  [d.replyFrame h r id false
    (ptpMsg (d.replyHead h r m 9 false (ptpCorr m.body - subNano x) log)
      (ptpStamp (x / secFrac) (x % secFrac / 2 ^ 32) ++ ptpSource m.body)) [] v.1 v.2 t]

/-- The frames of a Pdelay_Resp, with its follow-up where TWO_STEP is set (R357, R358). -/
def Dev.pdelayResp (d : Dev) (h : Half) (r : Req) (id : Nat) : List GFrame :=
  let m := msgOf r.bytes
  let t := r.launch
  let n := cfgBits r.cfg Reg.TRS.PCFG_TB
  let v := d.reqView h r n t
  let mi := r.desc.mean.getD 0
  let x := tbnAt [v.1] v.2 n mi
  if cfgBits r.cfg Reg.TRS.PCFG_TWO_STEP = 0 then
    [d.replyFrame h r id true
      (ptpMsg (d.replyHead h r m 3 false (ptpCorr m.body) 0x7F) (ptpStamp 0 0 ++ ptpSource m.body))
      [⟨8, .turn n (ptpCorr m.body) mi⟩] v.1 v.2 t]
  else
    let ev := d.replyFrame h r id true
      (ptpMsg (d.replyHead h r m 3 true (-(subNano x : Int)) 0x7F)
        (ptpStamp (x / secFrac) (x % secFrac / 2 ^ 32) ++ ptpSource m.body)) [] v.1 v.2 t
    let fu := d.replyFrame h r (id + 2) true
      (ptpMsg (d.replyHead h r m 0xA false (ptpCorr m.body) 0x7F) (ptpStamp 0 0 ++ ptpSource m.body))
      [⟨34, .ptpTs n⟩, ⟨8, .subNs n (ptpCorr m.body)⟩] v.1 v.2 (t + 2048)
    [ev, { fu with after := some id, ev := some t, cls := 7 }]

/-- REPLY_BUILD: T, timestamps, header and body fields. A Signaling request waits for the grant table instead. -/
def replyBuilt (h : Half) (id : Nat) (d : Dev) : Dev :=
  match d.req h id with
  | none => d
  | some r =>
    if r.stage != .build then d
    else
      let i := d.newId h
      let j := i.1.newId h
      let body := (msgOf r.bytes).body
      let n := entBits r.ent 6 16 4
      let ntp := fun (tail : List Byte) =>
        let v := j.1.reqView h r n r.launch
        j.1.putReq h { r with stage := .seal, out := [j.1.replyFrame h r i.2 false
          (j.1.ntpHeader h r body v.1 v.2 n ++ tail)
          [⟨40, .ntpTx n r.scale (if r.origin.isSome then some v.1.utc else none)⟩] v.1 v.2 r.launch] }
      match r.kind with
      | .ntp => ntp []
      | .nts => ntp ((r.nts.map (·.uid)).getD [])
      | .delayReq => j.1.putReq h { r with stage := .seal, out := j.1.delayResp h r i.2 }
      | .pdelayReq => j.1.putReq h { r with stage := .seal, out := j.1.pdelayResp h r i.2 }
      | .signaling => d

/-! ### Seal (R348, R349, R359) -/

/-- A cookie (R345, R349) with index `i` under the key of a slot. [DESIGN CHOICE log 162] -/
def Dev.cookie (d : Dev) (h : Half) (k : Nat) (c2s s2c bind : List Byte) (i : Nat) : List Byte :=
  let s := d.slot h k
  let id := bytesBE 4 s.keyid
  id ++ Config.sivSeal s.key [id] (c2s ++ s2c ++ bytesBE 2 0x000F ++ bytesBE 1 i ++ [0] ++ (bind.take 12))

/-- An NTS reply's authenticator field (R348): nonce N, and k + 1 cookie fields sealed under the S2C key. -/
def Dev.ntsSeal (d : Dev) (h : Half) (c : NtsCtx) (k : Nat) (ad : List Byte) : List Byte :=
  let nonce := match c.nonce with | b :: t => (b ^^^ 0x80) :: t | [] => []
  let cookies := (List.range (c.k + 1)).flatMap fun i =>
    bytesBE 2 0x0204 ++ bytesBE 2 104 ++ d.cookie h k c.c2s c.s2c (c.uid.drop 4) i
  let ct := Config.sivSeal c.s2c [ad, nonce] cookies
  let body := bytesBE 2 16 ++ bytesBE 2 ct.length ++ nonce ++ ct
  bytesBE 2 0x0404 ++ bytesBE 2 (4 + body.length) ++ body

/-- A PTP message with its AUTHENTICATION TLV (R359), messageLength included. -/
def Dev.ptpSeal (d : Dev) (h : Half) (spp k : Nat) (msg : List Byte) : List Byte :=
  let s := d.slot h k
  let m1 := patchB msg 2 (bytesBE 2 (msg.length + authLen))
  let head := m1 ++ bytesBE 2 tlvAuth ++ bytesBE 2 22 ++ bytesBE 1 spp ++ [0] ++ bytesBE 4 s.keyid
  head ++ icvOf (getBits spp 8 1) s.key head

/-- The slot that signs a service's messages at an instant (R359, R377), if its family has an active generation of the usage
that ALG asks. -/
def Dev.sppSlot (d : Dev) (h : Half) (spp t : Nat) : Option Nat :=
  match d.activeAt h (getBits spp 9 4) t with
  | none => none
  | some k => if (d.slot h k).usage = sppUsage spp then some k else none

/-- A gated frame sealed: its instant is written into it, and it can no longer be re-stamped. -/
def Dev.sealFrame (d : Dev) (h : Half) (g : GFrame) (f : List Byte → List Byte) : GFrame :=
  match g.body with
  | .built o payload => { g with body := .built o (f (d.fixAll h g g.t payload)), fixes := [], src := .reply true }
  | .raw _ _ _ => g

/-- A reply that no key can seal is discarded and counted in KEY_ABORT (R377, R383). -/
def Dev.sealAborted (d : Dev) (h : Half) (r : Req) : Dev :=
  let d1 := d.dropReq h r.id
  if r.probe then d1 else ((d1.trsCount h 9).raise (trsPg h) 3).wasted h r.cls

/-- REPLY_SEAL. -/
def replySealed (h : Half) (id : Nat) (d : Dev) : Dev :=
  match d.req h id with
  | none => d
  | some r =>
    if r.stage != .seal then d
    else
      let m := r.desc.mean.getD 0
      match r.nts with
      | some c =>
        (match d.activeAt h c.fam m with
         | none => d.sealAborted h r
         | some k =>
           (d.engOp h (some c.fam) k).putReq h { r with
             stage := .late, slots := [], out := r.out.map fun g => d.sealFrame h g fun p => p ++ d.ntsSeal h c k p })
      | none =>
        let auth := (r.kind == .delayReq || r.kind == .pdelayReq || r.kind == .signaling) &&
          cfgBits r.cfg Reg.TRS.AUTH_AUTH_EN == 1
        if !auth then d.putReq h { r with stage := .late, slots := [] }
        else
          match if d.keysOff h then none else d.sppSlot h r.spp m with
          | none => d.sealAborted h r
          | some k =>
            (d.engOp h (some (getBits r.spp 9 4)) k).putReq h { r with
              stage := .late, slots := [], out := r.out.map fun g => d.sealFrame h g (d.ptpSeal h r.spp k) }

/-! ### Late check (R334, R335) -/

/-- A frame that authentication binds to its instant. -/
def GFrame.sealed (g : GFrame) : Bool := match g.src with | .reply a => a | _ => false

/-- A reply's frames handed over: the event message goes to the gate's line, its follow-up waits for its instant; a frame of
the other half's port crosses the bridge (R362). -/
def Dev.handOver (d : Dev) (h : Half) (l : List GFrame) : Dev :=
  l.foldl (fun e g =>
    if g.after.isSome then e.setRsp h { e.rsp h with follow := (e.rsp h).follow ++ [g] }
    else if portHalf g.port = h then e.toGate g else e.toBridge h (.gated g)) d

/-- A gate credit is there for each frame that a reply now passes to a gate of its half (R22, R316). -/
def Dev.gateTakes (d : Dev) (h : Half) (l : List GFrame) : Bool :=
  l.all fun g => g.after.isSome || g.mute || portHalf g.port != h || d.gateCredit g.port (d.gWire h g g.t).length

/-- LATE_CHECK: an authenticated reply past its deadline is dropped as a wasted slot; every other is handed to the gate and the
request's credit returns. With no gate credit the request waits in its stage and keeps its input credit (R316, R333).
[DEDUCED log 237] -/
def lateChecked (h : Half) (id : Nat) (d : Dev) : Dev :=
  match d.req h id with
  | none => d
  | some r =>
    if r.stage != .late then d
    else
      let d1 := d.dropReq h r.id
      if !r.probe && r.out.any (fun g => g.sealed && decide (d.deadline g.port g.t < d.tb0 h)) then
        (d1.trsCount h 8).wasted h r.cls
      else if d.gateTakes h r.out then d1.handOver h r.out
      else d

/-! ### Mint (R350) and the keys of buckets -/

/-- NTS_MINT. The 12 binding bytes of each cookie come from the random generator: free values.
[DESIGN CHOICE log 162] -/
def ntsMinted (b : Nat) (c : FwCmd) (d : Dev) : FwResult :=
  let h := mbxHalf b
  let w := (c.req[0]?.getD 0).toNat
  let fam := w % 16
  let cnt := w / 256 % 4
  if c.len ≠ 17 then { dev := d, code := codeBadLen }
  else if d.keysOff h then { dev := d, code := codeNotPermitted }
  else if cnt = 0 ∨ 2 < cnt then { dev := d, code := codeBadArg }
  else
    match d.activeAt h fam (d.tb0 h) with
    | none => { dev := d, code := codeBadArg }
    | some k =>
      let bytes := bytesOfWords c.req
      let ck := fun i => d.cookie h k (sliceB bytes 4 32) (sliceB bytes 36 32) (bytesBE 12 (d.freeNat 96 i)) 0
      { dev := (d.engOp h none k).drawn cnt, code := codeOK
        rsp := BitVec.ofNat 32 (d.slot h k).keyid :: (List.range cnt).flatMap fun i => wordsOfBytes (ck i) }

/-- A write of HKEYw (R369): it applies at once, and the buckets keep their state. -/
def hkeyWritten (h : Half) (w v : Nat) (d : Dev) : Dev := d.setw (rltPg h + 0x140 + 4 * w) v

/-! ### What crosses the gate's line (R316, R400) -/

/-- The sample of R400: the reply to the request with the smallest mean ingress instant in the window's first 100 µs. -/
def Dev.digestSample (d : Dev) (h : Half) (g : GFrame) : Dev :=
  let win := g.mean / ns32 1000000
  let st := d.red.of h
  if 5 ≤ g.cls || ns32 100000 ≤ g.mean % ns32 1000000 then d
  else
    let better := match st.sample with
      | none => true
      | some (w, m, _) => w != win || decide (g.mean < m)
    if better then
      { d with red := d.red.put h { st with
          sample := some (win, g.mean, (Config.sha256 (d.gBytes h g g.t)).take 8) } }
    else d

/-- GATE_ACCEPT: the producer's frame `i` in line for a half's gates passes to its gate, if the gate has a credit (R315,
R316). A muted reply is sampled and discarded without a count (R401, R427), and so is any other frame in a half that returns, a
host frame with the report DISCARDED (R34). [DEDUCED log 164] -/
def gateAccepted (h : Half) (i : Nat) (d : Dev) : Dev :=
  let pl := d.plane h
  match pl.gateIn[i]? with
  | none => d
  | some g =>
    let n := (d.gWire h g g.t).length
    if d.gateFull g.port n && !g.mute then d
    else
      let d1 := d.setPlane h { pl with gateIn := pl.gateIn.eraseIdx i }
      let d2 := match g.src with | .reply _ => d1.digestSample h g | _ => d1
      if g.mute then d2 else if d.halfMute h then d2.reportFate g 5 else d2.gateArrive g

/-- Requests taken and not yet handed over are discarded (R50, R563): counted in MODE_DROP and as wasted slots. -/
def trsFlushed (h : Half) (d : Dev) : Dev :=
  let s := d.rsp h
  let taken := s.reqs.filter fun r => r.stage != .arrived
  taken.foldl (fun e r => if !r.probe then (e.trsCount h 5).wasted h r.cls else e)
    (d.setRsp h { s with reqs := s.reqs.filter fun r => r.stage == .arrived })

/-- SOFT_RESET of a TRS page: its requests are discarded as wasted slots and its counters zeroed (R50, R366). -/
def trsSoftReset (h : Half) (d : Dev) : Dev :=
  (trsFlushed h d).each 12 fun c e => e.setw (trsPg h + 0x360 + 4 * c) 0

/-- TRS_MISMATCH (R332). -/
def Dev.trsDiffers (d : Dev) : Bool :=
  (List.range 0x98).any (fun i =>
    let o := 0x100 + 4 * i
    let mask := if 0x140 ≤ o && o < 0x340 && (o - 0x140) % 0x20 == 0xC then 0xFFFFFF00 else 0xFFFFFFFF
    o != 0x128 && !(0x360 ≤ o) && (d.w (trsPg .warp + o) &&& mask) != (d.w (trsPg .weft + o) &&& mask)) ||
  (List.range 512).any fun i => d.w (pageAddr .trs .warp 1 + 0x100 + 4 * i) != d.w (pageAddr .trs .weft 1 + 0x100 + 4 * i)

/-- TRS_MISMATCH at the once-per-second comparison (R71, R332). -/
def trsCompare (d : Dev) : Dev :=
  let x := d.trsDiffers
  (((d.compared 301 x fun e => (e.raise (trsPg .warp) 0).raise (trsPg .weft) 0).pb (trsPg .warp) Reg.TRS.TSTAT x).pb
    (trsPg .weft) Reg.TRS.TSTAT x)

end Sys2Proof.Machine
end

