-- ==== Sys2Proof/Machine/Grants.lean ====
section
/-! DEFINITION. Messages the chip originates (R357 to R359) and unicast grants (R362 to R364, R368). -/

namespace Sys2Proof.Machine

/-- The GRT page of a half. -/
def grtPg (h : Half) : Nat := pageAddr .grt h 0

/-! ### Originated messages -/

/-- 2^l seconds in 2^-32 ns. -/
def logInterval (l : Int) : Nat := if 0 ≤ l then secFrac * 2 ^ l.toNat else secFrac / 2 ^ (-l).toNat

/-- PTPCFG.SLEAD with its limits. -/
def Dev.slead (d : Dev) (h : Half) : Nat := clampNat 500 8000 (d.g (trsPg h) Reg.TRS.PTPCFG_SLEAD)

/-- A service originates messages in a half: the page and the service are enabled, and its ROLE is server. -/
def Dev.originates (d : Dev) (h : Half) (s : Nat) : Bool :=
  d.trsOn h && d.gb (trsV h s) Reg.TRS.PCFG_EN && !(d.gb (trsV h s) Reg.TRS.PCFG_ROLE)

/-- The service entry that an originated message of a service takes its addresses from on a port: the lowest-numbered valid one
that names both. [DEDUCED log 157] -/
def Dev.sourceEntry (d : Dev) (h : Half) (s p : Nat) : Option (List Nat) :=
  ((List.range 64).map (d.svcEntry h)).find? fun e =>
    entBits e 7 31 1 == 1 && bitAt (e[7]?.getD 0) p && bitAt (entMask e) s

/-- The VLAN tag of an entry. -/
def entTag (e : List Nat) : List Byte :=
  if entBits e 5 28 1 = 1 then bytesBE 2 0x8100 ++ bytesBE 2 (entBits e 5 16 12) else []

/-- The outer headers of a multicast message of a service under an entry. [DEDUCED log 157] -/
def Dev.mcastOuter (d : Dev) (h : Half) (s : Nat) (e : List Nat) (port : Nat) : Outer :=
  let v6 := entBits e 6 22 1 == 1
  let l2 := entBits e 6 26 1 == 1
  { dstMac := if l2 then (if d.gb (trsV h s) Reg.TRS.MCAST_MAC_SEL then 0x0180C200000E else 0x011B19000000)
      else if v6 then 0x333300000181 else 0x01005E000181
    srcMac := entMac e, tags := entTag e, v6 := v6, l2 := l2, srcIp := entAddr e
    dstIp := if v6 then 0xFF0E0000000000000000000000000181 else 0xE0000181
    sport := port, dport := port, ttl := max 1 (d.g (trsPg h) Reg.TRS.IPCFG_TTL), dscp := d.g (trsPg h) Reg.TRS.IPCFG_DSCP }

/-- A frame of an originated message. -/
def Dev.originFrame (d : Dev) (h : Half) (p id : Nat) (o : Outer) (payload : List Byte) (fixes : List Fix) (v : TbView) (m0 t cls : Nat) :
    GFrame :=
  { id := id, port := p, src := .reply false, t := t, mean := 0, body := .built o payload, fixes := fixes, m0 := m0, views := [v]
    gen := d.stepgen.of h, prp := d.gb (redPg h) Reg.RED.PRP_TX_EN, mute := d.halfMute h, cls := cls }

/-- Frames of a service sealed for an instant where AUTH_EN asks (R359, R377, R392), or `none` where nothing may be sent. -/
def Dev.originSealed (d : Dev) (h : Half) (cfg : List Nat) (i : Nat) (l : List GFrame) : Dev × List GFrame :=
  if cfgBits cfg Reg.TRS.AUTH_AUTH_EN = 0 then (d, l)
  else if d.keysOff h then (d, [])
  else
    let spp := d.w (trsPg h + 0x340 + 8 * cfgBits cfg Reg.TRS.AUTH_SPP_IDX)
    match d.sppSlot h spp i with
    | none => ((d.trsCount h 9).raise (trsPg h) 3, [])
    | some k => (d.engOp h (some (getBits spp 9 4)) k, l.map fun g => d.sealFrame h g (d.ptpSeal h spp k))

/-- The flagField of Sync and Announce. [DESIGN CHOICE log 149] -/
def Dev.originFlags (d : Dev) (n : Nat) (unicast two : Bool) : Nat := (d.pub n).flags % 64 + ptpFlags unicast two

/-- The header of an originated message of a service. -/
def Dev.originHead (d : Dev) (h : Half) (p : Nat) (cfg : List Nat) (type flags seq log : Nat) : PtpHead :=
  { type := type, domain := cfgBits cfg Reg.TRS.PCFG_DOMAIN, flags := flags, corr := 0, source := d.portIdentity h p
    seq := seq % 65536, logInt := log }

/-- The launch instant of an originated message of instant `i`, in ns (R358). -/
def Dev.originLaunch (d : Dev) (h : Half) (i : Nat) : Nat := gridUp (i + ns32 (d.slead h))

/-- A Sync of a service on a port, with its Follow_Up where TWO_STEP is set (R357). -/
def Dev.syncSent (d : Dev) (h : Half) (p : Nat) (cfg : List Nat) (o : Nat → Outer) (unicast : Bool) (i seq log : Nat) : Dev :=
  let n := cfgBits cfg Reg.TRS.PCFG_TB
  let t := d.originLaunch h i
  let ep := d.g (bndPg h) Reg.BND.EPOCH_NUM
  let v := d.viewOf h n t ep
  let m0 := (d.epochVals ep).m0
  let two := cfgBits cfg Reg.TRS.PCFG_TWO_STEP = 1
  let a := d.newId h
  let b := a.1.newId h
  let ev := b.1.originFrame h p a.2 (o 319)
    (ptpMsg (d.originHead h p cfg 0 (d.originFlags n unicast two) seq log) (ptpStamp 0 0))
    (if two then [⟨34, .ptpTs n⟩] else [⟨34, .ptpTs n⟩, ⟨8, .subNs n 0⟩]) v m0 t 5
  let fu := { b.1.originFrame h p b.2 (o 320)
      (ptpMsg (d.originHead h p cfg 8 (ptpFlags unicast false) seq 0x7F) (ptpStamp 0 0))
      [⟨34, .ptpTs n⟩, ⟨8, .subNs n 0⟩] v m0 (t + 2048) 7 with after := some a.2, ev := some t }
  let r := b.1.originSealed h cfg i (if two then [ev, fu] else [ev])
  r.1.handOver h r.2

/-- A TTA SYNC_TX firing (R86, R358): a multicast Sync of the service on each named port of the half. -/
def syncTxAct (h : Half) (e : Nat) (d : Dev) : Dev :=
  let s := d.ttaArg h e % 16
  let i := ns32 (d.ttaNs h e)
  if !(d.originates h s) then d
  else
    let cfg := d.svcCfg h s
    let log := cfgBits cfg Reg.TRS.INTV_LOGSYNC
    d.each 4 fun j x =>
      let p := portOf h j
      if !(bitAt (d.ttaTarget h e) p) then x
      else match x.sourceEntry h s p with
        | none => x
        | some ent => x.syncSent h p cfg (x.mcastOuter h s ent) false i (i / logInterval (signedOf 8 log)) log

/-- The body of an Announce, its originTimestamp to be filled, with the TLV of R210 where ORGTLV asks. -/
def Dev.announceBody (d : Dev) (h : Half) (cfg : List Nat) (v : TbView) : List Byte :=
  let p := d.pub v.n
  let prof := cfgBits cfg Reg.TRS.PCFG_PROFILE
  let cls := if prof = 1 ∨ prof = 2 then p.cls1 else p.cls
  let id := bytesBE 4 (d.g (trsPg h) Reg.TRS.CLKID_HI) ++ bytesBE 4 (d.g (trsPg h) Reg.TRS.CLKID_LO)
  ptpStamp 0 0 ++ bytesBE 2 (unsignedOf 16 v.utc) ++ [0] ++ bytesBE 1 (cfgBits cfg Reg.TRS.PRIO_PRIO1) ++
    bytesBE 1 cls ++ bytesBE 1 (clockAccuracy p.bound) ++ bytesBE 2 (scaledLogVariance p.bound) ++
    bytesBE 1 (cfgBits cfg Reg.TRS.PRIO_PRIO2) ++ id ++ bytesBE 2 0 ++ bytesBE 1 p.source ++
    (if cfgBits cfg Reg.TRS.PCFG_ORGTLV = 1 ∧ d.g (bndPg h) Reg.BND.ORGID ≠ 0 then
      d.orgTlv h v.n v.bound (d.g (bndPg h) Reg.BND.EPOCH_NUM) else [])

/-- An Announce of a service on a port (R357). -/
def Dev.announceSent (d : Dev) (h : Half) (p : Nat) (cfg : List Nat) (o : Nat → Outer) (unicast : Bool) (i seq log : Nat) : Dev :=
  let n := cfgBits cfg Reg.TRS.PCFG_TB
  let t := d.originLaunch h i
  let ep := d.g (bndPg h) Reg.BND.EPOCH_NUM
  let v := d.viewOf h n t ep
  let a := d.newId h
  let g := a.1.originFrame h p a.2 (o 320)
    (ptpMsg (d.originHead h p cfg 0xB (d.originFlags n unicast false) seq log) (d.announceBody h cfg v))
    [⟨34, .ptpTs n⟩] v (d.epochVals ep).m0 t 6
  let r := a.1.originSealed h cfg i [g]
  r.1.handOver h r.2

/-- ANNOUNCE_SEND of a service in a half (R358): the last multiple of 2^LOGANN s plus 1 ms × service number, once, on the
ports of MPORTS in the half. [DEDUCED log 274] -/
def announceDue (h : Half) (s : Nat) (d : Dev) : Dev :=
  if !(d.originates h s) then d
  else
    let cfg := d.svcCfg h s
    let log := cfgBits cfg Reg.TRS.INTV_LOGANN
    let per := max 1 (logInterval (signedOf 8 log))
    let off := ns32 (1000000 * s)
    let i := (d.tb0 h - off) / per * per + off
    if decide (d.tb0 h < off) || tget 0 (d.rsp h).anns s == i + 1 then d
    else (d.setRsp h { d.rsp h with anns := tset 0 (d.rsp h).anns s (i + 1) }).each 4 fun j x =>
      let p := portOf h j
      if !(bitAt (cfgBits cfg Reg.TRS.MCAST_MPORTS) p) then x
      else match x.sourceEntry h s p with
        | none => x
        | some ent => x.announceSent h p cfg (x.mcastOuter h s ent) false i (i / per) log

/-- FOLLOW_UP_SEND: the follow-up that waits longest in a half goes to its gate's line (R358). -/
def followUpSent (h : Half) (d : Dev) : Dev :=
  match (d.rsp h).follow with
  | [] => d
  | g :: rest => (d.setRsp h { d.rsp h with follow := rest }).toGate g

/-! ### The grant table -/

/-- The device with a grant replaced, with GSTAT.ACTIVE of its half. -/
def Dev.setGrant (d : Dev) (h : Half) (n : Nat) (g : Grant) : Dev :=
  let t : Tab Grant := tset {} d.grants (h.num * 4096 + n) g
  let act := (List.filter (fun (e : Nat × Grant) => e.1 / 4096 == h.num && e.2.active) t).length
  ({ d with grants := t }).p (grtPg h) Reg.GRT.GSTAT act

/-- The half that decides grants (R362): Warp, or Weft while Warp is out of service or its GRT page is under self-test. -/
def Dev.grantHalf (d : Dev) : Half :=
  if d.outOfService .warp || (d.page (grtPg .warp)).isolated then .weft else .warp

/-- A grant as the outer headers of a message to its client (R357, R368). -/
def Dev.grantOuter (d : Dev) (h : Half) (g : Grant) (port : Nat) : Outer :=
  let e := d.svcEntry h g.entry
  { dstMac := g.mac, srcMac := entMac e, tags := if g.tagged then bytesBE 2 0x8100 ++ bytesBE 2 g.vid else []
    v6 := g.v6, l2 := g.l2, srcIp := entAddr e, dstIp := g.addr, sport := port, dport := port
    ttl := max 1 (d.g (trsPg h) Reg.TRS.IPCFG_TTL), dscp := d.g (trsPg h) Reg.TRS.IPCFG_DSCP }

/-- The instant of a grant's transmission `k`, in 2^-32 ns (R358). [DEDUCED log 159] -/
def Grant.instant (g : Grant) (k : Nat) : Nat := ns32 g.start + k * logInterval g.logint

/-- UNICAST_GRANT_SEND (R358): the next transmission of an active grant whose instant has come, before its expiry. -/
def unicastSent (h : Half) (n : Nat) (d : Dev) : Dev :=
  let g := d.grant h n
  let i := g.instant g.next
  if !g.active || g.mtype == 2 || decide (d.tb0 h < i) || decide (g.expiry ≤ i) || !(d.originates h g.svc) then d
  else
    let cfg := d.svcCfg h g.svc
    let p := portOf h g.pair
    let d1 := d.setGrant h n { g with next := g.next + 1 }
    let log := unsignedOf 8 g.logint
    if g.mtype = 1 then d1.syncSent h p cfg (d1.grantOuter h g) true i g.next log
    else d1.announceSent h p cfg (d1.grantOuter h g) true i g.next log

/-! ### Signaling (R362, R363) -/

/-- MTYPE of a message type: Announce, Sync, Delay_Resp. -/
def grantType (t : Nat) : Option Nat :=
  match t with
  | 0xB => some 0 | 0 => some 1 | 9 => some 2 | _ => none

/-- The message type of an MTYPE. -/
def messageType (m : Nat) : Nat :=
  match m with
  | 0 => 0xB | 1 => 0 | _ => 9

/-- GRANT_UNICAST_TRANSMISSION: duration 0 denies. -/
def grantTlv (type log dur : Nat) : List Byte :=
  bytesBE 2 5 ++ bytesBE 2 8 ++ bytesBE 1 (type * 16) ++ bytesBE 1 log ++ bytesBE 4 dur ++ [0, BitVec.ofNat 8 (bitOf (dur != 0))]

/-- CANCEL_UNICAST_TRANSMISSION. -/
def cancelTlv (type : Nat) : List Byte := bytesBE 2 6 ++ bytesBE 2 2 ++ bytesBE 1 (type * 16) ++ [0]

/-- ACKNOWLEDGE_CANCEL_UNICAST_TRANSMISSION. -/
def ackTlv (type : Nat) : List Byte := bytesBE 2 7 ++ bytesBE 2 2 ++ bytesBE 1 (type * 16) ++ [0]

/-- The client of a message, as a grant's record without times. -/
def clientOf (r : Req) : Grant :=
  let m := msgOf r.bytes
  { v6 := (m.ip.map (·.v6)).getD false, l2 := m.isL2Ptp, addr := if m.isL2Ptp then 0 else msgSrc m, mac := m.eth.src
    vid := m.eth.vid, tagged := m.eth.tagged, pid := beAt m.body 20 8, pnum := beAt m.body 28 2, pair := r.desc.port / 2
    svc := r.svc, entry := r.entNo }

/-- The active grant of a client under a service for a message type. -/
def Dev.grantOf (d : Dev) (h : Half) (c : Grant) (mtype : Nat) : Option (Nat × Grant) :=
  (List.find? (fun (e : Nat × Grant) =>
    e.1 / 4096 == h.num && e.2.active && e.2.mtype == mtype && e.2.svc == c.svc && e.2.pid == c.pid && e.2.pnum == c.pnum &&
      e.2.addr == c.addr && e.2.l2 == c.l2 && (!c.l2 || e.2.mac == c.mac)) d.grants).map fun (e : Nat × Grant) => (e.1 % 4096, e.2)

/-- A denial (R362, R368). -/
def Dev.grantDenied (d : Dev) (h : Half) : Dev := (d.inc (grtPg h) Reg.GRT.DENIED).perf (grtPg h) 0x02

/-- The decision on one request TLV (R362), with the TLV of the answer. [DEDUCED log 158, 159] -/
def Dev.grantDecide (d : Dev) (h : Half) (cfg : List Nat) (c : Grant) (v : List Byte) : Dev × List Byte :=
  let type := beAt v 0 1 / 16
  let log := signedOf 8 (beAt v 1 1)
  let now := d.tb0 h
  let dur := clampNat 10 (max 10 (cfgBits cfg Reg.TRS.GRANT_MAXDUR)) (beAt v 2 4)
  let minSync := clampInt (-7) 4 (signedOf 8 (cfgBits cfg Reg.TRS.GRANT_MINLOGSYNC))
  let minAnn := clampInt (-3) 4 (signedOf 8 (cfgBits cfg Reg.TRS.GRANT_MINLOGANN))
  let deny := (d.grantDenied h, grantTlv type (beAt v 1 1) 0)
  match grantType type with
  | none => deny
  | some mt =>
    if cfgBits cfg Reg.TRS.PCFG_UNICAST_NEG = 0 ∨ (mt = 1 ∧ log < minSync) ∨ (mt = 0 ∧ log < minAnn) then deny
    else
      let exp := now + ns32 (dur * 10 ^ 9)
      let start := ceilDiv (now + ns32 2000000) (ns32 1000000) * 1000000
      let ok := fun e => (e, grantTlv type (beAt v 1 1) dur)
      match d.grantOf h c mt with
      | some (n, g) =>
        ok (d.setGrant h n (if g.logint = log then { g with expiry := exp }
          else { g with expiry := exp, logint := log, start := start, next := 0 }))
      | none =>
        match (List.range 4096).find? (fun n => !(d.grant h n).active) with
        | none => ((d.raise (grtPg h) 0).grantDenied h, grantTlv type (beAt v 1 1) 0)
        | some n =>
          ok (((d.setGrant h n { c with active := true, mtype := mt, logint := log, start := start, expiry := exp, gen := 0
                                        next := 0 }).inc (grtPg h) Reg.GRT.GRANTED).perf (grtPg h) 0x01)

/-- A cancel by the client (R362): acknowledged, and the entry is free at once. -/
def Dev.grantCancel (d : Dev) (h : Half) (c : Grant) (v : List Byte) : Dev × List Byte :=
  let type := beAt v 0 1 / 16
  match (grantType type).bind (d.grantOf h c) with
  | some (n, _) => ((d.setGrant h n {}).inc (grtPg h) Reg.GRT.CANCELLED, ackTlv type)
  | none => (d, ackTlv type)

/-- SIGNALING_REQUEST (R362): the deciding half decides each TLV in turn and builds the reply for both ports of the pair; in
the other half the request ends here. -/
def signalingDecided (h : Half) (id : Nat) (d : Dev) : Dev :=
  match d.req h id with
  | none => d
  | some r =>
    if r.stage != .build || r.kind != .signaling || !(d.inP0 (grtPg h)) then d
    else if h != d.grantHalf then d.dropReq h id
    else
      let m := msgOf r.bytes
      let c := clientOf r
      let res := (ptpTlvs m.body).foldl (fun (a : Dev × List Byte) (t : Nat × Nat × List Byte) =>
        if t.2.1 = 4 then (let x := a.1.grantDecide h r.cfg c t.2.2; (x.1, a.2 ++ x.2))
        else if t.2.1 = 6 then (let x := a.1.grantCancel h c t.2.2; (x.1, a.2 ++ x.2))
        else a) (d, [])
      let i := res.1.newId h
      let j := i.1.newId h
      let v := j.1.reqView h r (cfgBits r.cfg Reg.TRS.PCFG_TB) r.launch
      let f := j.1.replyFrame h r i.2 false
        (ptpMsg (j.1.replyHead h r m 0xC false 0 0x7F) (ptpSource m.body ++ res.2)) [] v.1 v.2 r.launch
      j.1.putReq h { r with stage := .seal, out := [f, { f with id := j.2, port := portOf h.other (r.desc.port / 2) }] }

/-- A Signaling message of the chip's own to a grant's client, on both ports of its pair. -/
def Dev.signalClient (d : Dev) (h : Half) (g : Grant) (tlv : List Byte) : Dev :=
  let cfg := d.svcCfg h g.svc
  let i := d.tb0 h
  let t := d.originLaunch h i
  let ep := d.g (bndPg h) Reg.BND.EPOCH_NUM
  let v := d.viewOf h (cfgBits cfg Reg.TRS.PCFG_TB) t ep
  let a := d.newId h
  let b := a.1.newId h
  let p := portOf h g.pair
  let f := b.1.originFrame h p a.2 (b.1.grantOuter h g 320)
    (ptpMsg (d.originHead h p cfg 0xC (ptpFlags true false) (i / ns32 1000000) 0x7F) (bytesBE 8 g.pid ++ bytesBE 2 g.pnum ++ tlv)) []
    v (d.epochVals ep).m0 t 7
  let r := b.1.originSealed h cfg i [f, { f with id := b.2, port := portOf h.other g.pair }]
  r.1.handOver h r.2

/-- A grant has a transmission left whose instant falls before its expiry (R363). -/
def Dev.grantOwes (d : Dev) (h : Half) (g : Grant) : Bool :=
  g.mtype != 2 && d.originates h g.svc && decide (g.instant g.next < g.expiry)

/-- GRANT_EXPIRE (R363): an active entry at its expiry instant becomes free, once what falls before that instant is sent.
[DEDUCED log 274] -/
def grantExpired (h : Half) (n : Nat) (d : Dev) : Dev :=
  let g := d.grant h n
  if !g.active || decide (d.tb0 h < g.expiry) || d.grantOwes h g then d
  else (d.setGrant h n {}).inc (grtPg h) Reg.GRT.EXPIRED

/-- GRANT_REVOKE (R363): a cancel to the client and a free entry; ignored in Weft while Warp is in service. -/
def grantRevoked (h : Half) (n : Nat) (d : Dev) : Dev :=
  let g := d.grant h n
  if !g.active || (h == .weft && !(d.outOfService .warp)) then d
  else ((d.signalClient h g (cancelTlv (messageType g.mtype))).setGrant h n {}).inc (grtPg h) Reg.GRT.CANCELLED

/-- The grant that a copy writes over another half's: what that half has sent of the same flow stays sent. -/
def Grant.copiedOver (g old : Grant) (gen : Nat) : Grant :=
  { g with gen := gen, next := if old.active && old.start == g.start && old.logint == g.logint then max old.next g.next else g.next }

/-- A table copied whole as one generation, where its marker arrives intact and the other half can take it (R364, R425). -/
def grantsCopied (ok : Bool) (d : Dev) : Dev :=
  let src := d.grantHalf
  let dst := src.other
  if !ok || d.outOfService src || !(d.planeUp dst) then d
  else
    let gen := (d.g (grtPg src) Reg.GRT.COPYGEN + 1) % 65536
    let mine : Tab Grant := d.grants.filter fun (e : Nat × Grant) => e.1 / 4096 == src.num
    let put := fun (h : Half) => mine.map fun (e : Nat × Grant) =>
      (h.num * 4096 + e.1 % 4096, e.2.copiedOver (d.grant h (e.1 % 4096)) gen)
    let act := (mine.filter fun (e : Nat × Grant) => e.2.active).length
    let d1 := ({ d with grants := put .warp ++ put .weft }).p (grtPg dst) Reg.GRT.GSTAT act
    let d2 := (d1.p (grtPg src) Reg.GRT.COPYGEN gen).p (grtPg dst) Reg.GRT.COPYGEN gen
    d2.setRsp dst { d2.rsp dst with copyAt := d2.tb0 dst, copyLost := false }

/-- GRANT_COPY (R364): once in each millisecond of the deciding half's TB0. [DEDUCED log 274] -/
def grantCopied (ok : Bool) (d : Dev) : Dev :=
  let src := d.grantHalf
  let ms := d.tb0 src / ns32 1000000 + 1
  if (d.rsp src).copied = ms then d
  else grantsCopied ok (d.setRsp src { d.rsp src with copied := ms })

/-- GRANT_COPY_LOST (R370): Weft has applied no generation for 4 ms while Warp is in service. -/
def grantCopyLost (d : Dev) : Dev :=
  let s := d.rsp .weft
  if d.outOfService .warp || s.copyLost || decide (d.tb0 .weft < s.copyAt + ns32 4000000) then d
  else (d.setRsp .weft { s with copyLost := true }).raise (grtPg .weft) 1

end Sys2Proof.Machine
end

