-- ==== Sys2Proof/Machine/Clients.lean ====
section
/-! DEFINITION. PTP client instances (R211, R360, R361): parent selection, Sync, delay measurements, unicast grants asked of a
parent, and the states. -/

namespace Sys2Proof.Machine

/-- The PTP service that enables client instance `k` (R355). -/
def Dev.instSvc (d : Dev) (h : Half) (k : Nat) : Option Nat :=
  (List.range 16).find? fun s =>
    d.gb (trsV h s) Reg.TRS.PCFG_EN && d.gb (trsV h s) Reg.TRS.PCFG_ROLE && d.g (trsV h s) Reg.TRS.PCFG_CLIENT == k

/-- ICFG.PORT of an instance. -/
def Dev.instPort (d : Dev) (h : Half) (k : Nat) : Nat := d.g (instC h k) Reg.TRS.ICFG_PORT

/-- The PROFILE of an instance's service permits its TRANSPORT (R355, R360). -/
def Dev.instTransportOk (d : Dev) (h : Half) (k s : Nat) : Bool :=
  let t := d.g (instC h k) Reg.TRS.ICFG_TRANSPORT
  let l2 := t == 0 || t == 3
  match d.g (trsV h s) Reg.TRS.PCFG_PROFILE with
  | 1 => l2
  | 2 => !l2
  | _ => true

/-- STATE of an instance (R360): 0 DISABLED, 1 LISTENING, 2 UNCALIBRATED, 3 SLAVE, 4 FAULTY. -/
def Dev.instState (d : Dev) (h : Half) (k : Nat) : Nat :=
  let st := d.inst h k
  match d.instSvc h k with
  | none => 0
  | some s =>
    if !(d.portUp (d.instPort h k)) || !(d.gb (pcsPg (d.instPort h k)) Reg.PCS.PSTAT_DLY_VALID) || !(d.instTransportOk h k s) then 4
    else if st.parent.isNone then 1
    else if st.t1t2.isSome && !st.delays.isEmpty then 3
    else 2

/-- GRANTS of an instance: Announce, Sync, Delay_Resp not yet expired. -/
def Dev.instGrants (d : Dev) (h : Half) (k : Nat) : Nat :=
  (List.range 3).foldl (fun s t => s + bitOf (match tget none (d.inst h k).grants t with
    | some g => decide (d.tb0 h < g.1)
    | none => false) * 2 ^ t) 0

/-- The mean of the last delay measurements, in ps. -/
def InstSt.mean (st : InstSt) : Int := if st.delays.isEmpty then 0 else st.delays.sum / (st.delays.length : Int)

/-- What ISTAT and the registers beside it show, and fault MSG of the instance's candidate (R131, R360). -/
def instRefresh (h : Half) (k : Nat) (d : Dev) : Dev :=
  let c := instC h k
  let st := d.inst h k
  let s := d.instState h k
  let d1 := (d.p c Reg.TRS.ISTAT_STATE s).p c Reg.TRS.ISTAT_GRANTS (d.instGrants h k)
  let d2 := match st.parent with
    | some p =>
      (((d1.p c Reg.TRS.ISTAT_STEPS p.steps).p c Reg.TRS.PID_HI (beAt p.source 0 4)).p c Reg.TRS.PID_LO (beAt p.source 4 4)).p c
        Reg.TRS.PPORT (beAt p.source 8 2)
    | none => d1
  (d2.ps48 c Reg.TRS.MPD_LO Reg.TRS.MPD_HI st.mean).putFault h (22 + k) faultMSG (s != 3 || st.annLost || st.syncLost)

/-- A message that an instance hears: on its PORT and TRANSPORT (R360). -/
def Dev.instHears (d : Dev) (h : Half) (k : Nat) (s : Desc) (m : Msg) : Bool :=
  let t := d.g (instC h k) Reg.TRS.ICFG_TRANSPORT
  s.port == d.instPort h k &&
    (match t with
     | 1 => m.isUdpPtp && (m.ip.map (·.v6)) == some false
     | 2 => m.isUdpPtp && (m.ip.map (·.v6)) == some true
     | _ => m.isL2Ptp)

/-- The first waiting message of some types taken from an instance: handed on where the instance hears it and, with REQ_AUTH, it
passes R359. -/
def Dev.instTake (d : Dev) (h : Half) (k : Nat) (types : List Nat) : Dev × Option (Desc × Msg) :=
  let st := d.inst h k
  match st.rx.findIdx? (fun x => types.contains (ptpType (msgOf x.2).body)) with
  | none => (d, none)
  | some i =>
    let d1 := d.setInst h k { st with rx := st.rx.eraseIdx i }
    match st.rx[i]?, d.instSvc h k with
    | some x, some s =>
      let m := msgOf x.2
      if !(d.instHears h k x.1 m) then (d1, none)
      else if !(d.gb (trsV h s) Reg.TRS.AUTH_REQ_AUTH) then (d1, some (x.1, m))
      else if d.keysOff h then (d1.authFailed h, none)
      else match d.ptpVerified h m.body (x.1.mean.getD 0) with
        | some _ => (d1, some (x.1, m))
        | none => (d1.authFailed h, none)
    | _, _ => (d1, none)

/-! ### Parent selection -/

/-- The dataset that the profile's comparison ranks, most significant first (IEEE 1588-2019; the telecom profiles leave
grandmasterPriority1 out). -/
def rankOf (prof : Nat) (b : List Byte) : List Byte :=
  (if prof = 1 ∨ prof = 2 then [] else sliceB b 47 1) ++ sliceB b 48 5 ++ sliceB b 53 10 ++ ptpSource b

/-- BOUND of the organisation-extension TLV of an Announce, if it carries this chip's (R211). -/
def Dev.boundTlv (d : Dev) (h : Half) (b : List Byte) : Option Nat :=
  ((ptpTlvs b).find? fun t => t.2.1 == 3 && beAt t.2.2 0 3 == d.g (bndPg h) Reg.BND.ORGID && beAt t.2.2 3 3 == 1).map fun t =>
    beAt t.2.2 6 4

/-- An Announce as the instance keeps it. -/
def Dev.foreignOf (d : Dev) (h : Half) (prof : Nat) (m : Msg) : Foreign :=
  let b := m.body
  { source := ptpSource b, data := rankOf prof b, cls := beAt b 48 1, acc := beAt b 49 1, steps := beAt b 61 2
    bound := d.boundTlv h b, log := signedOf 8 (beAt b 33 1), at_ := d.tb0 h, mac := m.eth.src }

/-- ICFG.ANN_TMO with its limit. -/
def Dev.annTmo (d : Dev) (h : Half) (k : Nat) : Nat := max 2 (d.g (instC h k) Reg.TRS.ICFG_ANN_TMO)

/-- An Announce is still within its receipt timeout. -/
def Dev.fresh (d : Dev) (h : Half) (k : Nat) (f : Foreign) : Bool :=
  decide (d.tb0 h < f.at_ + d.annTmo h k * logInterval f.log)

/-- The best of the masters that an instance has heard within the timeout. [PRESUMED log 160] -/
def Dev.bestMaster (d : Dev) (h : Half) (k : Nat) : Option Foreign :=
  ((d.inst h k).masters.filter (d.fresh h k)).foldl (fun (b : Option Foreign) f =>
    match b with
    | none => some f
    | some x => if natOfBE f.data < natOfBE x.data then some f else b) none

/-- An instance takes a parent, or none; a change of parent returns it to UNCALIBRATED or LISTENING. -/
def Dev.setParent (d : Dev) (h : Half) (k : Nat) (p : Option Foreign) : Dev :=
  let st := d.inst h k
  let same := st.parent.map (·.source) == p.map (·.source)
  let st1 := if same then { st with parent := p }
    else { st with parent := p, waitSync := none, t1t2 := none, req := none, pd := none, delays := [] }
  let d1 := d.setInst h k { st1 with annLost := if p.isSome then false else st.annLost }
  let d2 := match p with
    | some f =>
      (nativeQr h (22 + k) (qrOfClass f.cls f.acc) d1).p (refQ h (22 + k)) Reg.REF.NBUDGET (f.bound.getD (accuracyBound f.acc))
    | none => d1
  instRefresh h k d2

/-- The deciding half's choice: applied there, and in the other half at the next second boundary (R360).
[PRESUMED log 160] -/
def Dev.chooseParent (d : Dev) (h : Half) (k : Nat) : Dev :=
  if h != d.lead then d
  else
    let p := d.bestMaster h k
    let d1 := d.setParent h k p
    d1.setInst h.other k { d1.inst h.other k with next := some p }

/-- INSTANCE_ANNOUNCE. -/
def instAnnounced (h : Half) (k : Nat) (d : Dev) : Dev :=
  let r := d.instTake h k [0xB]
  match r.2, d.instSvc h k with
  | some (_, m), some s =>
    let f := d.foreignOf h (d.g (trsV h s) Reg.TRS.PCFG_PROFILE) m
    let st := r.1.inst h k
    let d1 := r.1.setInst h k { st with masters := st.masters.filter (fun x => x.source != f.source) ++ [f] }
    d1.chooseParent h k
  | _, _ => r.1

/-- The parent and the grants that the deciding half chose, applied in the other half at a second boundary, where the fault of
both halves' candidates follows the instances' states. [DEDUCED log 163, 273] -/
def instApplied (d : Dev) : Dev :=
  let h := d.lead.other
  d.each 4 fun k e =>
    let e1 := e.setInst h k { e.inst h k with grants := (e.inst h.other k).grants }
    let e2 := match (e1.inst h k).next with
      | none => instRefresh h k e1
      | some p => (e1.setInst h k { e1.inst h k with next := none }).setParent h k p
    instRefresh h.other k e2

/-- INSTANCE_ANNOUNCE_TIMEOUT (R131, R360): the parent's announce receipt timeout expires. -/
def instAnnounceLost (h : Half) (k : Nat) (d : Dev) : Dev :=
  match (d.inst h k).parent with
  | none => d
  | some p =>
    match (d.inst h k).masters.find? (fun x => x.source == p.source) with
    | some f =>
      if d.fresh h k f then d
      else
        let st := d.inst h k
        let d1 := d.setInst h k { st with masters := st.masters.filter (d.fresh h k), annLost := true }
        (instRefresh h k d1).chooseParent h k
    | none => d

/-! ### Sync and delay (R360) -/

/-- A descriptor's value of one half. -/
def Desc.of (s : Desc) (h : Half) : Option Nat :=
  match h with
  | .warp => if s.v0 then some s.ing0 else none
  | .weft => if s.v1 then some s.ing1 else none

/-- A PTP timestamp of a body, with a correction in 2^-16 ns, in 2^-32 ns. -/
def stampIn (b : List Byte) (corr : Int) : Int :=
  ((beAt b 34 6 * secFrac + beAt b 40 4 * 2 ^ 32 : Nat) : Int) + corr * 65536

/-- 2^-32 ns as ps, toward zero. -/
def psOf (x : Int) : Int := (x * 1000).tdiv (2 ^ 32)

/-- The offset that a Sync gives (R153, R360), measured where a delay is held. -/
def Dev.syncTaken (d : Dev) (h : Half) (k : Nat) (t1 : Int) (t2 log : Nat) : Dev :=
  let st := d.inst h k
  let d1 := d.setInst h k { st with waitSync := none, t1t2 := some (t1, t2), syncAt := d.tb0 h, syncLog := signedOf 8 log, syncLost := false }
  let d2 := if st.delays.isEmpty then d1 else candMeasured h (22 + k) (psOf ((t2 : Int) - t1) - st.mean) d1
  instRefresh h k d2

/-- A message comes from the instance's parent. -/
def InstSt.fromParent (st : InstSt) (m : Msg) : Bool := st.parent.map (·.source) == some (ptpSource m.body)

/-- A message belongs to a flow that an instance takes (R360): multicast from the parent with UNICAST 0; with UNICAST 1, unicast
under a grant of its type that has not expired. [DEDUCED log 272] -/
def Dev.instFlow (d : Dev) (h : Half) (k mt : Nat) (m : Msg) : Bool :=
  let group := bitAt m.eth.dst 40
  if d.gb (instC h k) Reg.TRS.ICFG_UNICAST then !group && bitAt (d.instGrants h k) mt else group

/-- INSTANCE_SYNC: a Sync, or the Follow_Up of a two-step one. -/
def instSynced (h : Half) (k : Nat) (d : Dev) : Dev :=
  let r := d.instTake h k [0, 8]
  match r.2 with
  | none => r.1
  | some (s, m) =>
    let st := r.1.inst h k
    let b := m.body
    if !(st.fromParent m) || !(r.1.instFlow h k 1 m) then r.1
    else if ptpType b = 8 then
      match st.waitSync with
      | some (seq, t2, corr) =>
        if seq = ptpSeq b then r.1.syncTaken h k (stampIn b (corr + ptpCorr b)) t2 (beAt b 33 1) else r.1
      | none => r.1
    else
      match s.of h with
      | none => r.1
      | some t2 =>
        if bitAt (beAt b 6 1) 1 then r.1.setInst h k { st with waitSync := some (ptpSeq b, t2, ptpCorr b) }
        else r.1.syncTaken h k (stampIn b (ptpCorr b)) t2 (beAt b 33 1)

/-- INSTANCE_SYNC_TIMEOUT (R131): three expected Sync intervals pass without a Sync. -/
def instSyncLost (h : Half) (k : Nat) (d : Dev) : Dev :=
  let st := d.inst h k
  if st.t1t2.isSome && decide (st.syncAt + 3 * logInterval st.syncLog ≤ d.tb0 h) then
    instRefresh h k (d.setInst h k { st with syncLost := true })
  else d

/-- The outer headers of an instance's message (R360): from SRC_ENTRY, to the parent's address or the group. -/
def Dev.instOuter (d : Dev) (h : Half) (k port : Nat) (peer unicast : Bool) : Outer :=
  let c := instC h k
  let t := d.g c Reg.TRS.ICFG_TRANSPORT
  let e := d.svcEntry h (d.g c Reg.TRS.ICFG_SRC_ENTRY)
  let v6 := t == 2
  let l2 := t == 0 || t == 3
  let addr := if v6 then d.w (c + 8) * 2 ^ 96 + d.w (c + 12) * 2 ^ 64 + d.w (c + 16) * 2 ^ 32 + d.w (c + 20) else d.w (c + 20)
  let grp := if v6 then (if peer then 0xFF02000000000000000000000000006B else 0xFF0E0000000000000000000000000181)
    else (if peer then 0xE000006B else 0xE0000181)
  let mac := d.g c Reg.TRS.PMAC_HI * 2 ^ 32 + d.g c Reg.TRS.PMAC_LO
  let gmac := if l2 then (if peer then 0x0180C200000E else 0x011B19000000)
    else if v6 then (if peer then 0x33330000006B else 0x333300000181) else (if peer then 0x01005E00006B else 0x01005E000181)
  { dstMac := if unicast then mac else gmac, srcMac := entMac e, tags := entTag e, v6 := v6, l2 := l2, srcIp := entAddr e
    dstIp := if unicast then addr else grp, sport := port, dport := port
    ttl := if peer then 1 else max 1 (d.g (trsPg h) Reg.TRS.IPCFG_TTL), dscp := d.g (trsPg h) Reg.TRS.IPCFG_DSCP }

/-- An instance's own message launched at an instant in ns, handed over. [DEDUCED log 158] -/
def Dev.instSend (d : Dev) (h : Half) (k s type port seq t : Nat) (unicast : Bool) (log : Nat) (body : List Byte) : Dev :=
  let cfg := d.svcCfg h s
  let peer := type = 2
  let ep := d.g (bndPg h) Reg.BND.EPOCH_NUM
  let v := d.viewOf h 0 t ep
  let a := d.newId h
  let p := d.instPort h k
  let g := a.1.originFrame h p a.2 (d.instOuter h k port peer unicast)
    (ptpMsg (d.originHead h p cfg type (ptpFlags unicast false) seq log) body) [] v (d.epochVals ep).m0 t 7
  let r := a.1.originSealed h cfg (d.tb0 h) [g]
  r.1.handOver h r.2

/-- INSTANCE_DELAY_REQ (R360): the half that owns PORT sends a Delay_Req or Pdelay_Req at the launch-grid instant that the
instance chooses, 2^LOGDREQ s or more after the last, which both halves take as its departure. [DEDUCED log 272] -/
def instDelayReq (h : Half) (k at_ : Nat) (d : Dev) : Dev :=
  let c := instC h k
  let st := d.inst h k
  match d.instSvc h k with
  | none => d
  | some s =>
    if portHalf (d.instPort h k) != h || st.parent.isNone then d
    else
      let t := gridUp (ns32 at_)
      let soon := match st.reqAt with
        | some x => decide (ns32 t < x + logInterval (signedOf 8 (d.g c Reg.TRS.ICFG_LOGDREQ)))
        | none => false
      if soon then d else
      let p2p := d.gb c Reg.TRS.ICFG_P2P
      let uni := d.gb c Reg.TRS.ICFG_UNICAST && !p2p
      let d1 := [Half.warp, Half.weft].foldl (fun (e : Dev) g =>
        let x := e.inst g k
        e.setInst g k { x with req := some (st.seq % 65536, ns32 t), pd := none, seq := st.seq + 1, reqAt := some (ns32 t) }) d
      if p2p then d1.instSend h k s 2 319 st.seq t uni 0x7F (ptpStamp 0 0 ++ List.replicate 10 0)
      else d1.instSend h k s 1 319 st.seq t uni 0x7F (ptpStamp 0 0)

/-- A path delay taken in ps: the mean of the last sixteen. -/
def Dev.delayTaken (d : Dev) (h : Half) (k : Nat) (x : Int) : Dev :=
  let st := d.inst h k
  instRefresh h k (d.setInst h k { st with req := none, pd := none, delays := (x :: st.delays).take 16 })

/-- INSTANCE_DELAY_RESP: a Delay_Resp, a Pdelay_Resp or its follow-up answers the waiting request. -/
def instDelayResp (h : Half) (k : Nat) (d : Dev) : Dev :=
  let r := d.instTake h k [9, 3, 0xA]
  match r.2 with
  | none => r.1
  | some (s, m) =>
    let st := r.1.inst h k
    let b := m.body
    let mine := sliceB b 44 10 == d.portIdentity h (d.instPort h k)
    match st.req with
    | none => r.1
    | some (seq, t3) =>
      if !mine || ptpSeq b != seq then r.1
      else
        match ptpType b with
        | 9 =>
          (match st.t1t2 with
           | some (t1, t2) =>
             if st.fromParent m then
               r.1.delayTaken h k (psOf (((t2 : Int) - t1 + (stampIn b 0 - ptpCorr b * 65536 - t3)) / 2))
             else r.1
           | none => r.1)
        | 3 =>
          (match s.of h with
           | none => r.1
           | some t4 =>
             if bitAt (beAt b 6 1) 1 then r.1.setInst h k { st with pd := some (seq, t4, stampIn b 0, ptpCorr b) }
             else r.1.delayTaken h k (psOf (((t4 : Int) - t3 - ptpCorr b * 65536) / 2)))
        | _ =>
          match st.pd with
          | some (q, t4, rx, corr) =>
            if q = seq then
              r.1.delayTaken h k (psOf (((t4 : Int) - t3 - (stampIn b 0 - rx) - (corr + ptpCorr b) * 65536) / 2))
            else r.1
          | none => r.1

/-! ### Grants asked of a parent (R360) -/

/-- REQUEST_UNICAST_TRANSMISSION. -/
def requestTlv (type log dur : Nat) : List Byte :=
  bytesBE 2 4 ++ bytesBE 2 6 ++ bytesBE 1 (type * 16) ++ bytesBE 1 log ++ bytesBE 4 dur

/-- A message comes from the parent that an instance asks: PADDR, or PMAC for Ethernet transport (R360). -/
def Dev.fromAsked (d : Dev) (h : Half) (k : Nat) (m : Msg) : Bool :=
  let c := instC h k
  match d.g c Reg.TRS.ICFG_TRANSPORT with
  | 1 => msgSrc m == d.w (c + 20)
  | 2 => msgSrc m == d.w (c + 8) * 2 ^ 96 + d.w (c + 12) * 2 ^ 64 + d.w (c + 16) * 2 ^ 32 + d.w (c + 20)
  | _ => m.eth.src == d.g c Reg.TRS.PMAC_HI * 2 ^ 32 + d.g c Reg.TRS.PMAC_LO

/-- A grant or a denial by the parent taken in: half of the granted duration is the instant of renewal; a denial is retried
after 8 s. -/
def Dev.grantTaken (d : Dev) (h : Half) (k : Nat) (t : Nat × Nat × List Byte) : Dev :=
  let st := d.inst h k
  match grantType (beAt t.2.2 0 1 / 16) with
  | none => d
  | some mt =>
    if t.2.1 = 5 then
      let dur := beAt t.2.2 2 4
      let now := d.tb0 h
      if dur = 0 then d.setInst h k { st with asks := tset 0 st.asks mt (now + ns32 (8 * 10 ^ 9)) }
      else d.setInst h k { st with
        asks := tset 0 st.asks mt 0
        grants := tset none st.grants mt (some (now + ns32 (dur * 10 ^ 9), now + ns32 (dur * 10 ^ 9) / 2)) }
    else if t.2.1 = 6 then d.setInst h k { st with grants := tset none st.grants mt none }
    else d

/-- The message types whose grant is due for a request: none held and no retry awaited, or half its duration gone.
[DEDUCED log 161] -/
def Dev.grantsDue (d : Dev) (h : Half) (k : Nat) : List Nat :=
  let st := d.inst h k
  let now := d.tb0 h
  (List.range 3).filter fun mt =>
    decide (tget 0 st.asks mt ≤ now) &&
      (match tget none st.grants mt with
       | some g => decide (g.2 ≤ now)
       | none => true)

/-- INSTANCE_GRANT_RENEW: the parent's answers that wait are taken in, and what is due is requested. The deciding half asks.
[DEDUCED log 161, 272] -/
def instGrantRenewed (h : Half) (k : Nat) (d : Dev) : Dev :=
  if h != d.lead then d
  else
    let r := d.instTake h k [0xC]
    let d1 := match r.2 with
      | some (_, m) => if !(r.1.fromAsked h k m) then r.1 else (ptpTlvs m.body).foldl (fun (e : Dev) t => e.grantTaken h k t) r.1
      | none => r.1
    match d1.instSvc h k with
    | none => instRefresh h k d1
    | some s =>
      let c := instC h k
      let due := d1.grantsDue h k
      if !(d1.gb c Reg.TRS.ICFG_UNICAST) || due.isEmpty then instRefresh h k d1
      else
        let dur := clampNat 10 1000 (d1.g c Reg.TRS.REQINTV_DURATION)
        let log := fun mt => if mt = 0 then d1.g c Reg.TRS.REQINTV_LOGANN_REQ
          else if mt = 1 then d1.g c Reg.TRS.REQINTV_LOGSYNC_REQ else d1.g c Reg.TRS.ICFG_LOGDREQ
        let st := d1.inst h k
        let body := List.replicate 10 (0xFF : Byte) ++ due.flatMap fun mt => requestTlv (messageType mt) (log mt) dur
        let d2 := d1.setInst h k { st with
          seq := st.seq + 1
          asks := due.foldl (fun a mt => tset 0 a mt (d1.tb0 h + ns32 (8 * 10 ^ 9))) st.asks }
        instRefresh h k (d2.instSend h k s 0xC 320 st.seq (d2.originLaunch h (d2.tb0 h)) true 0x7F body)

/-- A live change of ICFG, REQINTV, PADDR or PMAC (R360): the instance returns to LISTENING and cancels its grants. -/
def instConfigWritten (h : Half) (k off v : Nat) (d : Dev) : Dev :=
  let a := instC h k + off
  let d1 := d.setw a (mergeWrite a (d.w a) v)
  if d1.w a = d.w a then d
  else
    let st := d.inst h k
    let held := (List.range 3).filter fun mt => (tget none st.grants mt).isSome
    let d2 := match d.instSvc h k with
      | some s =>
        if d.gb (instC h k) Reg.TRS.ICFG_UNICAST && !held.isEmpty && portHalf (d.instPort h k) == h then
          d.instSend h k s 0xC 320 st.seq (d.originLaunch h (d.tb0 h)) true 0x7F
            (List.replicate 10 (0xFF : Byte) ++ held.flatMap fun mt => cancelTlv (messageType mt))
        else d
      | none => d
    instRefresh h k ((d2.setw a (mergeWrite a (d.w a) v)).setInst h k { seq := st.seq + 1 })

/-- A word of the TRS page: ISTAT shows an instance's state and its unexpired grants as they are (R360, R361).
[DEDUCED log 273] -/
def Dev.trsView (d : Dev) (a : Nat) : Nat :=
  let o := pageOff a
  if pageBase a == trsPg (halfAt a) && decide (0x3A0 ≤ o) && decide (o < 0x4A0) && (o - 0x3A0) % 0x40 == 0x20 then
    let h := halfAt a
    let k := (o - 0x3A0) / 0x40
    setBits (setBits (d.w a) 0 3 (d.instState h k)) 4 3 (d.instGrants h k)
  else d.w a

/-- A PTP service written: the instance that its CLIENT names follows (R355, R360). -/
def instsRefresh (h : Half) (d : Dev) : Dev := d.each 4 fun k e => instRefresh h k e

end Sys2Proof.Machine
end

