-- ==== Sys2Proof/Machine/Chaef.lean ====
section
/-! DEFINITION. Chaef records (R212 to R215, R520). -/

namespace Sys2Proof.Machine

/-- A chain entry (R214). -/
def chainEntry (kind num qr steps budget : Nat) (ident : List Byte) : List Byte :=
  bytesBE 1 kind ++ bytesBE 1 num ++ bytesBE 1 qr ++ bytesBE 1 steps ++ bytesBE 4 budget ++
    (ident ++ List.replicate 8 (0 : Byte)).take 8

/-- The chain entry of a candidate, by its class (R122, R214). -/
def Dev.chainCand (d : Dev) (h : Half) (c : Nat) : List Byte :=
  let qr := d.effQr h c
  let b := d.budget h c
  if 30 ≤ c then chainEntry 0 0 0 0 0 []
  else if c < 12 then chainEntry 1 c qr 0 b []
  else if c = 12 then chainEntry 2 c qr 0 b (bytesBE 2 (d.g gnsPg Reg.GNS.SOL_INFO_CONST))
  else if c = 13 then chainEntry 3 c qr 0 (d.hunc h) []
  else if c ≤ 21 then chainEntry 4 c qr 0 b []
  else if c ≤ 25 then
    match (d.inst h (c - 22)).parent with
    | some p => chainEntry 5 c qr (min 255 (p.steps + 1)) b (sliceB p.data (p.data.length - 20) 8)
    | none => chainEntry 5 c qr 0 b []
  else
    chainEntry 6 c qr 1 b (bytesOfWords [d.word (slvL (c - 26) + 0x3C), d.word (slvL (c - 26) + 0x40)])

/-- The chain entry of a timebase as a direct reference. Its QR and budget are free values: the manual gives neither. -/
def Dev.chainTb (d : Dev) (n : Nat) : List Byte := chainEntry 7 n (d.freeNat 8 0) 0 (d.freeNat 32 0) []

/-- CHAIN0 to CHAIN2 of a timebase (R214). [DESIGN CHOICE log 106] -/
def Dev.chain (d : Dev) (h : Half) (n : Nat) : List Byte :=
  let alt := d.g (tsuB h n) Reg.TSU.CTRL_ALT
  let dom := d.g (bndN h n) Reg.BND.BSTAT_BASIS == 5
  let last := chainEntry 3 13 (d.effQr h 13) 0 (d.hunc h) []
  if dom then d.chainTb alt ++ d.chainCand h (d.selC h alt) ++ last
  else d.chainCand h (d.selC h n) ++ List.replicate 16 (0 : Byte) ++ last

/-- FLAGS of a record (R213). -/
def Dev.chaefFlags (d : Dev) (h : Half) (n : Nat) : Nat :=
  d.boundFlags h n + 4 * bitOf (d.gb (hldPg h) Reg.HLD.HSTAT_AGED) + 8 * bitOf (d.skewRun.of h).raised +
    16 * bitOf (decide (2 ≤ d.exch.fails))

/-- Bytes 0 to 127 of a record (R213). -/
def Dev.chaefBody (d : Dev) (h : Half) (n boots seq : Nat) (nonce : List Byte) : List Byte :=
  let c := d.count h n
  bytesBE 4 0x43484146 ++ bytesBE 2 1 ++ bytesBE 1 h.num ++ bytesBE 1 n ++ deviceId ++ nonce ++ bytesBE 4 boots ++
    bytesBE 4 seq ++ bytesBE 6 (secOf c) ++ bytesBE 4 (nsecOf c) ++ bytesBE 4 (fracOf c) ++
    bytesBE 2 (unsignedOf 16 ((d.leapActive h).ofsAt (secOf c))) ++ bytesBE 4 (d.published h n) ++
    bytesBE 2 (d.g (bndPg h) Reg.BND.EPOCH_NUM) ++ bytesBE 1 (d.g (bndN h n) Reg.BND.BSTAT_BASIS) ++
    bytesBE 1 (d.chaefFlags h n) ++ bytesBE 4 (d.htime h n) ++ bytesBE 1 (d.pub n).cls ++ bytesBE 1 (d.pub n).stratum ++
    bytesBE 2 0 ++ d.chain h n

/-- The records that a half may sign in a second (R215, R216): RATE, at most 64; in a second in which ATTCFG changed, its
value at the second's start. -/
def Dev.attRate (d : Dev) (h : Half) (sec : Nat) : Nat :=
  let now := d.g (bndPg h) Reg.BND.ATTCFG
  min 64 (match (d.chaef.of h).old with | some x => if x.1 = sec then x.2 else now | none => now)

/-- ATTCFG written (R216): the new RATE applies at the next second. -/
def attcfgWritten (h : Half) (v : Nat) (d : Dev) : Dev :=
  let sec := d.sec .warp 0
  let st := d.chaef.of h
  let d1 := { d with chaef := d.chaef.put h { st with old := some (sec, d.attRate h sec) } }
  d1.setw (bndPg h + 0x308) (mergeWrite (bndPg h + 0x308) (d1.w (bndPg h + 0x308)) v)

/-- CHAEF_SIGN (R212 to R215, R520): refused while KS1 is empty, authenticated services are off, BOOTS is not yet written
(R505) or SEQ has reached its end; beyond the rate it is busy; else the record, signed with KS1. [DEDUCED log 107] -/
def chaefSigned (b boots : Nat) (c : FwCmd) (d : Dev) : FwResult :=
  let h := mbxHalf b
  let ks1 := d.slot h 1
  let st := d.chaef.of h
  let sec := d.sec .warp 0
  let n := if st.sec = sec then st.n else 0
  if c.len ≠ 5 then { dev := d, code := codeBadLen }
  else if !ks1.valid || d.keysOff h || !d.bootsOk || decide (0xFFFFFFFF ≤ st.seq) then { dev := d, code := codeNotPermitted }
  else if d.attRate h sec ≤ n then
    { dev := d.inc (bndPg h) Reg.BND.ATTCNT_REFUSED, code := codeBusy }
  else
    let body := d.chaefBody h ((c.req[0]?.getD 0).toNat % 16) boots (st.seq + 1) (bytesOfWords (c.req.drop 1))
    let d1 := { d with chaef := d.chaef.put h { st with seq := st.seq + 1, sec := sec, n := n + 1 } }
    { dev := (d1.inc (bndPg h) Reg.BND.ATTCNT_SIGNED).drawn 1, code := codeOK
      rsp := wordsOfBytes (body ++ Config.edSign ks1.key body) }

end Sys2Proof.Machine
end

