-- ==== Sys2Proof/Machine/Redundancy.lean ====
section
/-! DEFINITION. Duplicate service (R399 to R432): digest check and probes, Selvedge links and time transfer, health reports,
claims on shared nets, mirroring at the buddy, state copy, and the return of a half and of a chip. -/

namespace Sys2Proof.Machine

/-- The duplicate service of a half. -/
def Dev.rd (d : Dev) (h : Half) : RedSt := d.red.of h

/-- The device with a half's duplicate service replaced. -/
def Dev.setRd (d : Dev) (h : Half) (v : RedSt) : Dev := { d with red := d.red.put h v }

/-- Something done in both halves. -/
def Dev.both (d : Dev) (f : Half → Dev → Dev) : Dev := f .weft (f .warp d)

/-- The half that a link belongs to (R404). -/
def linkHalf (s : Nat) : Half := Half.ofNum (s / 2)

/-- The SLV page of a link. -/
def slvPg (s : Nat) : Nat := pageAddr .slv (linkHalf s) 0

/-- An event word of a link (R432). -/
def slvEvt (s k : Nat) : Nat := 4 * (s % 2) + k

/-- A link beyond its registers. -/
def Dev.link (d : Dev) (s : Nat) : LinkSt := tget {} d.links s

/-- The device with a link replaced. -/
def Dev.setLink (d : Dev) (s : Nat) (v : LinkSt) : Dev := { d with links := tset {} d.links s v }

/-- TOPO.N with its limits. -/
def Dev.topoN (d : Dev) (h : Half) : Nat := clampNat 1 8 (d.g (redPg h) Reg.RED.TOPO_N)

/-- TOPO.CHIPID. -/
def Dev.chipId (d : Dev) (h : Half) : Nat := d.g (redPg h) Reg.RED.TOPO_CHIPID

/-- LSTAT.UP of a link. -/
def Dev.linkUp_ (d : Dev) (s : Nat) : Bool := d.gb (slvL s) Reg.SLV.LSTAT_UP

/-- The links that are up. -/
def Dev.upLinks (d : Dev) : List Nat := (List.range 4).filter d.linkUp_

/-- BND_EXCH_LOST holds (R208). -/
def Dev.exchLost (d : Dev) : Bool := decide (2 ≤ d.exch.fails)

/-! ### Digest check and probes (R400, R401) -/

/-- The lowest valid service entry of a half with NTP set. -/
def Dev.ntpEntry (d : Dev) (h : Half) : Option Nat :=
  (List.range 64).find? fun a =>
    let e := d.svcEntry h a
    entBits e 7 31 1 == 1 && entBits e 6 23 1 == 1

/-- A half's sample of the millisecond window of the schedule. -/
def Dev.sampleNow (d : Dev) (h : Half) : Option (Nat × List Byte) :=
  match (d.rd h).sample with
  | some (w, m, x) => if w = msOf d.schedCount then some (m, x) else none
  | none => none

/-- One half's outcome of the digest check, given both samples. [DEDUCED log 179] -/
def Dev.digestOutcome (d : Dev) (h : Half) (mine theirs : Option (Nat × List Byte)) : Dev :=
  let st := d.rd h
  let pg := redPg h
  let checking := d.g pg Reg.RED.RSTAT_HJOIN == 3 || d.g (redPg h.other) Reg.RED.RSTAT_HJOIN == 3
  let noEntry := (d.ntpEntry h).isNone
  match mine, theirs with
  | some a, some b =>
    if a.1 ≠ b.1 then (d.inc pg Reg.RED.UNPAIRED).setRd h { st with matches_ := 0 }
    else if a.2 = b.2 then (d.inc pg Reg.RED.DUP_OK).setRd h { st with misRun := 0, matches_ := st.matches_ + 1 }
    else
      let run := if d.exchLost then st.misRun else st.misRun + 1
      let d1 := ((d.inc pg Reg.RED.DUP_MISMATCH).raise pg 0).setRd h { st with misRun := run, matches_ := 0 }
      if run = 16 && st.misRun ≠ 16 then d1.unitFault pg 0xFF else d1
  | none, none =>
    (d.inc pg Reg.RED.UNPAIRED).setRd h { st with matches_ := if checking && noEntry then st.matches_ + 1 else 0 }
  | _, _ => (d.inc pg Reg.RED.UNPAIRED).setRd h { st with matches_ := 0 }

/-- The digests of the schedule's millisecond are to be compared: 120 µs of it have passed and they have not been (R400).
[DEDUCED log 275] -/
def Dev.digestDue (d : Dev) : Bool :=
  decide (120000 * nsUnit ≤ d.schedCount % (10 ^ 6 * nsUnit)) && (d.rd d.lead).digestAt != msOf d.schedCount + 1

/-- DIGEST_CHECK: each half that runs compares its sample with the other's, and both samples are spent.
[DEDUCED log 179] -/
def digestChecked (d : Dev) : Dev :=
  let a := d.sampleNow .warp
  let b := d.sampleNow .weft
  let one := fun h x y (e : Dev) => if d.planeUp h then e.digestOutcome h x y else e
  if !d.digestDue then d
  else (one .weft b a (one .warp a b d)).both fun h e =>
    e.setRd h { e.rd h with sample := none, digestAt := msOf d.schedCount + 1 }

/-- The probe's request (R401): mode 3, version 4, with the entry's own addresses as its source. [DEDUCED log 165] -/
def probeBytes (e : List Nat) : List Byte :=
  frameOf
    { dstMac := entMac e, srcMac := entMac e, tags := [], v6 := entBits e 6 22 1 == 1, l2 := false, srcIp := entAddr e
      dstIp := entAddr e, sport := 123, dport := 123, ttl := 64, dscp := 0 }
    (bytesBE 1 0x23 ++ List.replicate 47 (0 : Byte))

/-- The lowest port of a mask. -/
def lowestPort (mask : Nat) : Nat := ((List.range 8).find? (bitAt mask)).getD 0

/-- PROBE_INJECT: 100 µs into the millisecond or later, both halves take one probe in, past the classifier's credit.
[DEDUCED log 165, 275] -/
def probeInjected (d : Dev) : Dev :=
  let checking := [Half.warp, Half.weft].find? fun h => d.g (redPg h) Reg.RED.RSTAT_HJOIN == 3 && d.planeUp h
  match checking with
  | none => d
  | some c =>
    let srv := c.other
    let late := decide (d.schedCount % (10 ^ 6 * nsUnit) < 100000 * nsUnit)
    if !(d.serving srv) || late || (d.sampleNow srv).isSome || (d.rsp srv).reqs.any (·.probe) then d
    else
      match d.ntpEntry srv with
      | none => d
      | some a =>
        let m := msOf d.schedCount * ns32 1000000 + ns32 50000
        d.both fun h e =>
          let ent := e.svcEntry h a
          let s := e.rsp h
          let desc : Desc := { ing0 := m, ing1 := m, v0 := true, v1 := true, port := lowestPort (entMask ent)
                               stepgen := e.stepgen.of h, epoch := e.g (bndPg h) Reg.BND.EPOCH_NUM }
          let r : Req := { id := s.nextId, desc := desc, bytes := probeBytes ent, entNo := a, ent := ent, stage := .parse
                           probe := true, lead := e.leadNs h }
          e.setRsp h { s with reqs := s.reqs ++ [r], nextId := s.nextId + 1 }

/-! ### Selvedge links (R404 to R408) -/

/-- A link is held down (R404). -/
def Dev.linkHeld (d : Dev) (s : Nat) : Bool :=
  let n := d.topoN (linkHalf s)
  n == 1 || (s % 2 == 1 && n == 2) || !(d.en (slvPg s) (slvL s) Reg.SLV.LCFG) || !(d.planeUp (linkHalf s))

/-- The peer that R404 gives a link: chip and link number. -/
def Dev.linkPeer (d : Dev) (s : Nat) : Nat × Nat :=
  let n := d.topoN (linkHalf s)
  let i := d.chipId (linkHalf s)
  match s with
  | 0 => ((i + 1) % n, 2)
  | 1 => ((i + 2) % n, 3)
  | 2 => ((i + n - 1) % n, 0)
  | _ => ((i + 2 * n - 2) % n, 1)

/-- The candidate of a link taken afresh in both halves. -/
def Dev.linkCand (d : Dev) (s : Nat) : Dev := d.both fun h e => candRefresh h (26 + s) e

/-- A link goes down (R408). [DEDUCED log 172] -/
def Dev.linkGone (d : Dev) (s : Nat) : Dev :=
  if !(d.linkUp_ s) then d
  else
    let b := slvL s
    let d1 := ((((d.pb b Reg.SLV.LSTAT_UP false).pb b Reg.SLV.LSTAT_XFER_VALID false).inc b Reg.SLV.DOWNS).raise (slvPg s)
      (slvEvt s 1)).setLink s { d.link s with t1 := ⟨none, none⟩, t4 := ⟨none, none⟩, run := 0, resend := 0, near := 0
                                              sent := [], claimsSent := [] }
    d1.linkCand s

/-- The wiring of a link is wrong (R405). -/
def Dev.wiringBad (d : Dev) (s : Nat) : Dev :=
  ((d.linkGone s).pb (slvL s) Reg.SLV.LSTAT_WIRING_ERR true).raise (slvPg s) (slvEvt s 2)

/-- SLV_UP: a link has trained with a peer that names its chip and link; its wiring is checked (R405, R408). -/
def slvUp (s peer plink : Nat) (d : Dev) : Dev :=
  if 3 < s || d.linkHeld s || d.linkUp_ s then d
  else
    let b := slvL s
    let d1 := (d.p b Reg.SLV.LSTAT_PEER_ID peer).p b Reg.SLV.LSTAT_PEER_LINK plink
    if d.linkPeer s ≠ (peer % 8, plink % 4) then d1.wiringBad s
    else
      let d2 := ((d1.pb b Reg.SLV.LSTAT_WIRING_ERR false).pb b Reg.SLV.LSTAT_UP true).raise (slvPg s) (slvEvt s 0)
      (d2.setLink s { reptAt := d.now }).linkCand s

/-- SLV_DOWN. [DEDUCED log 31] -/
def slvDown (s : Nat) (d : Dev) : Dev := d.linkGone s

/-- A live write of LCFG (R431): clearing EN takes the link down. -/
def lcfgWritten (s v : Nat) (d : Dev) : Dev :=
  let d1 := d.pb (slvL s) Reg.SLV.LCFG (bitAt v 0)
  if bitAt v 0 then d1 else d1.linkGone s

/-- A live write of TOPO (R405, R430): every link is checked afresh. -/
def topoWritten (h : Half) (v : Nat) (d : Dev) : Dev :=
  let a := redPg h + 0x104
  let d1 := d.setw a (mergeWrite a (d.w a) v)
  [2 * h.num, 2 * h.num + 1].foldl (fun e s =>
    if !(e.linkUp_ s) then
      (if e.linkPeer s = (e.g (slvL s) Reg.SLV.LSTAT_PEER_ID, e.g (slvL s) Reg.SLV.LSTAT_PEER_LINK) then
        e.pb (slvL s) Reg.SLV.LSTAT_WIRING_ERR false else e)
    else if e.linkHeld s then e.linkGone s
    else if e.linkPeer s ≠ (e.g (slvL s) Reg.SLV.LSTAT_PEER_ID, e.g (slvL s) Reg.SLV.LSTAT_PEER_LINK) then e.wiringBad s
    else e) d1

/-- A claim heard, unless it has aged out or this chip holds a newer one (R416). [DEDUCED log 170] -/
def Dev.claimHeard (d : Dev) (c : ClaimIn) : Dev :=
  d.both fun h e =>
    let st := e.rd h
    let born := e.now - c.age * 250
    let newer := match tget none st.claims (c.chip % 8) with
      | some x => decide (born < x.at_)
      | none => false
    if c.chip % 8 = e.chipId h || newer || decide (max 10 (e.g (redPg h) Reg.RED.TOPO_AGE_US) ≤ c.age) then e
    else e.setRd h { st with claims := tset none st.claims (c.chip % 8) (some { vals := c.vals % 2 ^ 32, at_ := born })
                             heardAt := e.now }

/-- FLIT_RECEIVE: an intact flit is counted and its claims are taken; a bad one is counted and resent by go-back-N, and the
sixteenth resend in a row takes the link down (R406, R408). [DEDUCED log 170, 171] -/
def flitReceived (s : Nat) (f : FlitSeen) (d : Dev) : Dev :=
  if !(d.linkUp_ s) || 3 < s then d
  else
    let b := slvL s
    let st := d.link s
    let again := fun (e : Dev) =>
      let e1 := ((e.inc b Reg.SLV.RESENDS).perf (slvPg s) 0x03 { address := some (s % 2) } 1 3).setLink s
        { st with resend := st.resend + 1 }
      if 16 ≤ st.resend + 1 then e1.linkGone s else e1
    match f with
    | .intact cls claims =>
      claims.foldl (fun e c => e.claimHeard c) ((d.perf (slvPg s) 0x02 { address := some (s % 2), cls := some cls } 1
        3).setLink s { st with resend := 0 })
    | .badCrc => again (d.inc b Reg.SLV.CRC_ERR)
    | .fecBad => again d

/-! ### Time transfer (R119, R409 to R412) -/

/-- SELVEDGE_MARKER: the marker of a link leaves, or the peer's arrives, and the units of both halves stamp it. -/
def markerStamped (s : Nat) (leaves : Bool) (e0 e1 : EdgeSeen) (d : Dev) : Dev :=
  if !(d.linkUp_ s) || 3 < s then d
  else
    let cp := 64 + 2 * s + bitOf leaves
    let d1 := (d.capEdge .warp cp false e0).capEdge .weft cp false e1
    let seen := fun h => (d1.cap h cp).stampedSince (d.cap h cp)
    let t : Pair (Option Nat) := ⟨seen .warp, seen .weft⟩
    d1.setLink s (if leaves then { d1.link s with t1 := t } else { d1.link s with t4 := t })

/-- The mean of two stamps when both are valid, else the valid one (R409). -/
def meanStamp (p : Pair (Option Nat)) : Option Nat :=
  match p.warp, p.weft with
  | some a, some b => some ((a + b) / 2)
  | some a, none => some a
  | none, b => b

/-- d and θ of a half in ps from its stamps and the peer's, in 2^-32 ns (R409), rounded to the nearest ps.
[DEDUCED log 173] -/
def exchange (t1 t2 t3 t4 : Nat) (asym : Int) : Int × Int :=
  let a : Int := (t2 : Int) - t1
  let b : Int := (t4 : Int) - t3
  (((a + b) * 1000 + 2 ^ 32) / 2 ^ 33, ((b - a) * 1000 + asym * 2 ^ 32 + 2 ^ 32) / 2 ^ 33)

/-- The path delay of an exchange is near its reference (R410). -/
def LinkSt.delayOk (st : LinkSt) (x : Int) : Bool :=
  if st.count < 1000 then decide ((x - st.first.getD x).natAbs ≤ 20)
  else decide ((x * st.ds.length - st.ds.sum).natAbs ≤ 20 * st.ds.length)

/-- A chip can be heard on a link: its report's HCLASS (R413). -/
def Dev.peerClass (d : Dev) (s : Nat) : Nat := getBits (d.w (slvL s + 0x28)) 8 3

/-- The second condition of R429, with the case in which no heard chip has a class of 3 or more. -/
def Dev.chipAligned (d : Dev) : Bool :=
  let valid := d.upLinks.filter fun s => d.gb (slvL s) Reg.SLV.LSTAT_XFER_VALID
  !(d.upLinks.any fun s => decide (3 ≤ d.peerClass s)) ||
    (!valid.isEmpty && valid.all fun s => decide (1000 ≤ (d.link s).near))

/-- Whether the first two conditions of R429 hold, and when the wait of CWTR that they start ends: a change of CWTR applies to
waits started after it (R430). -/
def chipWaitRefresh (d : Dev) : Dev :=
  let ok := (d.serving .warp || d.serving .weft) && d.chipAligned
  d.both fun h e =>
    let st := e.rd h
    let ends := st.chipWait.getD (e.now + e.g (redPg h) Reg.RED.RCTL_CWTR * ticks1s)
    e.setRd h { st with chipWait := if ok then some ends else none }

/-- Stamps as CONTROL carries them: seconds, nanoseconds and fraction of each. [DESIGN CHOICE log 166] -/
def stampBytes (t : Option Nat) : List Byte :=
  match t with
  | some x => bytesBE 1 1 ++ bytesBE 6 (x / secFrac) ++ bytesBE 4 (x % secFrac / 2 ^ 32) ++ bytesBE 4 x
  | none => List.replicate 15 (0 : Byte)

/-- TIME_TRANSFER: the peer's stamps t2 and t3 have come; each half computes d and θ. A valid exchange gives the candidate its
phase; the sixteenth in a row makes transfer valid, an invalid one ends it. [DEDUCED log 173] -/
def timeTransferred (s : Nat) (t2 t3 : Option Nat) (d : Dev) : Dev :=
  if !(d.linkUp_ s) || 3 < s then d
  else
    let b := slvL s
    let st := d.link s
    let own := linkHalf s
    let asym := signedOf 32 (d.g b Reg.SLV.LASYM)
    let res := fun (h : Half) =>
      match st.t1.of h, t2, t3, st.t4.of h with
      | some a, some x, some y, some z => some (exchange a x y z asym)
      | _, _, _, _ => none
    let d0 := d.linkSend s 0 (stampBytes (meanStamp st.t4) ++ stampBytes (meanStamp st.t1))
    let st0 : LinkSt := { d0.link s with t1 := ⟨none, none⟩, t4 := ⟨none, none⟩, count := st.count + 1 }
    match res own with
    | none =>
      ((d0.setLink s { st0 with run := 0, near := 0 }).raiseIf (d.gb b Reg.SLV.LSTAT_XFER_VALID) (slvPg s) (slvEvt s 3)).pb b
        Reg.SLV.LSTAT_XFER_VALID false |>.linkCand s
    | some x =>
      if !(st.delayOk x.1) then
        chipWaitRefresh (((d0.setLink s { st0 with run := 0, near := 0, first := some (st.first.getD x.1) }).raiseIf
          (d.gb b Reg.SLV.LSTAT_XFER_VALID) (slvPg s) (slvEvt s 3)).pb b Reg.SLV.LSTAT_XFER_VALID false |>.linkCand s)
      else
        let other := (res own.other).bind fun y => if st.delayOk y.1 then some y.2 else none
        let th : Pair Int := (Pair.put ⟨x.2, x.2⟩ own.other (other.getD (st.theta.of own.other)))
        let near := if x.2.natAbs ≤ 100 then st.near + 1 else 0
        let d1 := d0.setLink s { st0 with run := st.run + 1, near := near, first := some (st.first.getD x.1), theta := th
                                          ds := (x.1 :: st.ds).take 1000 }
        let d2 := ((((d1.ps48 b Reg.SLV.OFS_LO Reg.SLV.OFS_HI x.2).p b Reg.SLV.DELAY (unsignedOf 32 x.1)).inc b
          Reg.SLV.XCNT).pb b Reg.SLV.LSTAT_XFER_VALID (decide (16 ≤ st.run + 1))).linkCand s
        let d3 := candMeasured own (26 + s) x.2 d2
        chipWaitRefresh (match other with | some y => candMeasured own.other (26 + s) y d3 | none => d3)

/-! ### Health reports (R412 to R414) -/

/-- HCLASS of the chip (R414). [DEDUCED log 175] -/
def Dev.hclass (d : Dev) : Nat :=
  let h := d.lead
  let lock := d.lstate h 0 == 3 && !(d.gb (dplL h 0) Reg.DPL.LSTAT_FREQ_ONLY)
  let fin := d.published h 0 != unbounded
  let exp := d.gb (dplL h 0) Reg.DPL.LSTAT_EXPIRED
  if d.g (redPg h) Reg.RED.RSTAT_CJOIN = 1 || !(d.serving .warp || d.serving .weft) then 2
  else if lock && fin then (if d.serving .warp && d.serving .weft then 7 else 6)
  else if exp && fin then 4
  else if (d.lstate h 0 == 4 || d.gb (dplL h 0) Reg.DPL.LSTAT_FREQ_ONLY) && fin then 5
  else 3

/-- RSTAT.HCLASS of both halves taken afresh. -/
def hclassRefresh (d : Dev) : Dev := let c := d.hclass; d.both fun h e => e.p (redPg h) Reg.RED.RSTAT_HCLASS c

/-- PQR of the chip (R412). A loop that acquires is named by no row of the table: its PQR is a free value.
[DEDUCED log 174] -/
def Dev.pqr (d : Dev) : Nat :=
  let h := d.lead
  let st := d.lstate h 0
  if st ≤ 1 || d.published h 0 == unbounded || d.hclass == 2 then 15
  else if d.gb (dplL h 0) Reg.DPL.LSTAT_EXPIRED then 4
  else if st = 4 || d.gb (dplL h 0) Reg.DPL.LSTAT_FREQ_ONLY then 3
  else if st = 3 then d.effQr h (d.selC h 0)
  else d.freeNat 4 0

/-- CHAIN of the chip (R412). -/
def Dev.chainBits (d : Dev) : Nat :=
  let h := d.lead
  let c := d.selC h 0
  let own := 2 ^ d.chipId h
  if 26 ≤ c && c ≤ 29 then own ||| getBits (d.w (slvL (c - 26) + 0x34)) 8 8 else own

/-- A unit of a half is out of service (R31, R455): a capture unit, an engine, the steered loop, the root, the core-rail
control or a key slot. -/
def Dev.unitOut (d : Dev) (h : Half) : Bool :=
  ((List.range 80).any fun cp => d.gb (tdcP h cp) Reg.TDC.PSTAT_OOS) ||
  ((List.range 8).any fun e => d.gb (aegE h e) Reg.AEG.ESTAT_FAILED) ||
  d.aplState h 1 == 4 || d.gb (cadPg h) Reg.CAD.CSTAT_ROOT_FAIL || d.gb (pageAddr .pmu h 0) Reg.PMU.AVSSTAT_FAIL ||
  (d.cad h).slots.any fun (e : Nat × Slot) => e.2.defect

/-- FCLASS of the chip (R413): a half out of service, or a unit out of service. [DESIGN CHOICE log 39] -/
def Dev.fclass (d : Dev) : Nat :=
  if d.outOfService .warp || d.outOfService .weft then 2
  else if d.unitOut .warp || d.unitOut .weft || !d.unitsOut.isEmpty then 1 else 0

/-- The 32 bytes of a health report (R413). -/
def Dev.healthReport (d : Dev) (boots : Nat) : List Byte :=
  let h := d.lead
  bytesBE 1 1 ++ bytesBE 1 (d.chipId h + 16 * d.fclass) ++ bytesBE 1 d.hclass ++ bytesBE 1 d.pqr ++
    bytesLE 4 (d.w (redPg h + 0x124)) ++ bytesBE 4 (d.published h 0) ++ bytesBE 2 (d.g (bndPg h) Reg.BND.EPOCH_NUM) ++
    bytesBE 1 d.chainBits ++ bytesBE 1 (d.g (redPg h) Reg.RED.RSTAT_HEARD) ++ bytesBE 4 boots ++ deviceId.take 8 ++
    bytesBE 4 d.rseq

/-- HEALTH_REPORT_SEND: a report on every up link. -/
def healthSent (boots : Nat) (d : Dev) : Dev :=
  let d0 := hclassRefresh d
  let l := d0.healthReport boots
  let d1 := d0.upLinks.foldl (fun e s => e.linkSend s 0 l) d0
  { d1 with rseq := (d1.rseq + 1) % 2 ^ 32, free := d1.free + 1 }

/-- HEALTH_REPORT_RECEIVE (R405, R412, R413): the report's words, the peer candidate's budget, QR and INTEG in both halves, and
a conflict of chip IDs. -/
def healthReceived (s : Nat) (bytes : List Byte) (d : Dev) : Dev :=
  if !(d.linkUp_ s) || 3 < s then d
  else
    let b := (bytes ++ List.replicate 32 (0 : Byte)).take 32
    let me := d.chipId (linkHalf s)
    let d1 := d.each 8 fun w e => e.setw (slvL s + 0x28 + 4 * w) (beAt b (4 * w) 4)
    let d2 := d1.setLink s { d1.link s with reptAt := d.now }
    let qr := if bitAt (beAt b 14 1) me then 15 else beAt b 3 1 % 16
    let d3 := d2.both fun h e =>
      let e1 := e.p (refQ h (26 + s)) Reg.REF.NBUDGET (beAt b 8 4)
      let e2 := (nativeQr h (26 + s) qr e1).putFault h (26 + s) faultINTEG (beAt b 1 1 / 16 % 4 == 2)
      e2.setRd h { e2.rd h with heardAt := e2.now }
    if beAt b 1 1 % 8 = me && sliceB b 20 8 != deviceId.take 8 then
      d3.both fun h e => (e.raiseIf (!(e.idConflict h)) (redPg h) 7).setRd h { e.rd h with idUntil := some (e.now + ticks1s) }
    else d3

/-- PEER_REPORT_TIMEOUT (R412): no report for 3 ms. -/
def peerTimedOut (s : Nat) (d : Dev) : Dev :=
  if 3 < s || decide (d.now < (d.link s).reptAt + 750000) then d
  else d.both fun h e => nativeQr h (26 + s) 15 e

/-! ### Claims (R415 to R419) -/

/-- The chip's class in a group (R414). -/
def Dev.groupClass (d : Dev) (h : Half) (g : Nat) : Nat :=
  let bad := [Half.warp, Half.weft].any fun x => outputs.any fun o =>
    d.g (outO x o.1 o.2) Reg.OUT.CFG_DRIVE == 3 && d.outGroup x o.1 o.2 == g &&
      (d.gcause x o.1 o.2 != 0 || d.gb (outO x o.1 o.2) Reg.OUT.OSTAT_PERR_ALARM)
  if d.idConflict h then 0 else if bad then 1 else d.hclass

/-- The chip's claim in a group (R416); a chip that is no member makes none. -/
def Dev.claimOf (d : Dev) (h : Half) (g : Nat) : Nat :=
  if d.claimMember h g then d.groupClass h g * 32 + d.g (redPg h) Reg.RED.TOPO_PRIO * 8 + d.chipId h else 0

/-- The live claims that a half holds, as chip and claim bytes (R416). -/
def Dev.liveClaims (d : Dev) (h : Half) : List (Nat × ClaimRec) :=
  (d.rd h).claims.filterMap fun (e : Nat × Option ClaimRec) =>
    e.2.bind fun c => if d.now < c.at_ + max 10 (d.g (redPg h) Reg.RED.TOPO_AGE_US) * 250 then some (e.1, c) else none

/-- CLAIM_SEND: this chip's claims and the newest of every other, with their ages, on every up link. -/
def claimsSent (d : Dev) : Dev :=
  let h := d.lead
  let mine := (d.chipId h, d.w (redPg h + 0x124), 0)
  let all := mine :: (d.liveClaims h).map fun c => (c.1, c.2.vals, d.now - c.2.at_)
  let bytes := all.flatMap fun c => bytesBE 1 c.1 ++ bytesLE 4 c.2.1 ++ bytesBE 1 (c.2.2 / 250)
  d.upLinks.foldl (fun e s => (e.linkSend s 0 bytes).setLink s { (e.linkSend s 0 bytes).link s with claimsSent := all }) d

/-- `want` of a group in a half (R416, R418, R419). -/
def Dev.claimWant (d : Dev) (h : Half) (g : Nat) : Bool :=
  let n := d.topoN h
  let live := d.liveClaims h
  let g1 := if n = 2 then 0 else g
  let mine := d.claimOf h g1
  let top := live.foldl (fun t c => if bitAt (getBits (d.w (redPg h + 0x108)) (8 * g1) 8) c.1 then max t (getBits c.2.vals (8 * g1) 8) else t) mine
  if n = 1 then d.claimMember h g && decide (3 ≤ d.groupClass h g)
  else if n = 2 then (if live.isEmpty then decide (3 ≤ d.hclass) else mine == top && decide (3 ≤ mine / 32))
  else mine == top && decide (3 ≤ mine / 32) && decide (n < 2 * (1 + live.length))

/-- CLAIM_EVALUATE: claims, the highest live ones, who is heard, the quorum, and `want` of every group, in each half. -/
def claimsEvaluated (d : Dev) : Dev :=
  (hclassRefresh d).both fun h e =>
    if !(e.planeUp h) then e
    else
      let pg := redPg h
      let live := e.liveClaims h
      let mine := (List.range 4).foldl (fun a g => a + e.claimOf h g * 2 ^ (8 * g)) 0
      let top := (List.range 4).foldl (fun a g => a + 2 ^ (8 * g) * (live.foldl (fun t c =>
        if bitAt (getBits (e.w (pg + 0x108)) (8 * g) 8) c.1 then max t (getBits c.2.vals (8 * g) 8) else t) (e.claimOf h g))) 0
      let heard := live.foldl (fun a c => a ||| 2 ^ (c.1 % 8)) 0
      let st := e.rd h
      let want := (List.range 4).foldl (fun (t : Tab (Option Nat)) g =>
        tset none t g (if e.claimWant h g then some ((tget none st.want g).getD e.now) else none)) st.want
      (((((e.setw (pg + 0x124) mine).setw (pg + 0x128) top).p pg Reg.RED.RSTAT_HEARD heard).pb pg Reg.RED.RSTAT_QUORUM
        (decide (e.topoN h < 2 * (1 + live.length))))).setRd h { st with want := want }

/-- The interlock lets this chip drive STRONG (R418). [DEDUCED log 178] -/
def Dev.ilkOk (d : Dev) (h : Half) : Bool :=
  d.topoN h != 2 || (d.gb (redPg h) Reg.RED.RSTAT_ILK_OUT && !(d.gb (redPg h) Reg.RED.RSTAT_ILK_IN))

/-- CLAIM_SWITCH: at a low phase a half takes a group that it has wanted for HOLD_US, or releases one (R417, R418).
[DEDUCED log 177] -/
def claimSwitched (h : Half) (g : Nat) (d : Dev) : Dev :=
  let pg := redPg h
  let st := d.rd h
  let strong := bitAt (d.g pg Reg.RED.RSTAT_STRONG) g
  let hold := max 7 (d.g pg Reg.RED.TOPO_HOLD_US) * 250
  let put := fun (e : Dev) v => e.p pg Reg.RED.RSTAT_STRONG (setBits (e.g pg Reg.RED.RSTAT_STRONG) g 1 v)
  if 3 < g then d
  else
    match tget none st.want g with
    | some t =>
      if !strong && decide (t + hold ≤ d.now) && d.ilkOk h then outRefresh h ((put d 1).raise pg 3)
      else if strong && !(d.ilkOk h) then outRefresh h ((put d 0).raise pg 4)
      else outRefresh h d
    | none =>
      if strong then
        let d1 := (put d 0).raise pg 4
        let d2 := if d1.g pg Reg.RED.RSTAT_STRONG = 0 then d1.pb pg Reg.RED.RSTAT_ILK_OUT false else d1
        outRefresh h d2
      else outRefresh h d

/-- ILK_EVALUATE: the interlock pins of a board of two chips (R418). [DEDUCED log 178] -/
def ilkEvaluated (ilkIn : Bool) (d : Dev) : Dev :=
  d.both fun h e =>
    let pg := redPg h
    let e0 := e.pb pg Reg.RED.RSTAT_ILK_IN ilkIn
    if e.topoN h ≠ 2 || !(e.planeUp h) then e0
    else
      let st := e.rd h
      let out := e.gb pg Reg.RED.RSTAT_ILK_OUT
      let low := if ilkIn then none else some (st.ilkLow.getD e.now)
      let bothHigh := if ilkIn && out then some (st.ilkBoth.getD e.now) else none
      let conflict := match bothHigh with | some t => decide (t + 250 ≤ e.now) | none => false
      let long := match low with | some t => decide (t + 250 ≤ e.now) | none => false
      let want := (tget none st.want 0).isSome
      let idle := !want && e.g pg Reg.RED.RSTAT_STRONG == 0
      let next := if conflict && e.chipId h == 1 then false else if idle then false else out || (want && long)
      let e1 := (e0.pb pg Reg.RED.RSTAT_ILK_OUT next).raiseIf conflict pg 6
      e1.setRd h { st with ilkLow := low, ilkBoth := if conflict then some e.now else bothHigh }

/-! ### Mirroring at the buddy (R422) -/

/-- The words of a half's TRS configuration as CFGSUM covers them: service entries, then the words of TRS page index 0 that
the host sets. [DESIGN CHOICE log 167] -/
def Dev.trsWords (d : Dev) (h : Half) : List Word :=
  ((List.range 512).map fun i => d.word (pageAddr .trs h 1 + 0x100 + 4 * i)) ++
    ((List.range 0xF0).filterMap fun i =>
      let a := trsPg h + 0x100 + 4 * i
      if writeMask a = 0 then none else some (d.word a))

/-- CFGSUM of this chip. [DESIGN CHOICE log 167] -/
def Dev.cfgSum (d : Dev) : Nat := beAt (Config.sha256 (bytesOfWords (d.trsWords d.lead))) 0 8

/-- The mirror context of the current epoch (R422). -/
def Dev.contextNow (d : Dev) (h : Half) : MirrorCtx :=
  let num := d.g (bndPg h) Reg.BND.EPOCH_NUM
  let ev := d.epochVals num
  let mask := d.g (redPg h) Reg.RED.MIRROR_TBMASK
  { epoch := num, m0 := ev.m0, sum := d.cfgSum
    views := ((List.range 16).filter (bitAt mask)).map fun n => d.viewOf h n (d.tb0 h / 2 ^ 32) num }

/-- A context as its bytes leave: the manual gives its contents, not their layout. [DESIGN CHOICE log 166] -/
def ctxBytes (c : MirrorCtx) : List Byte :=
  bytesBE 2 c.epoch ++ bytesBE 8 c.sum ++ bytesBE 16 c.m0 ++ c.views.flatMap fun v =>
    bytesBE 1 v.n ++ bytesBE 4 v.bound ++ bytesBE 1 v.cls ++ bytesBE 1 v.cls1 ++ bytesBE 1 v.stratum ++ bytesBE 1 v.li ++
      bytesBE 4 v.refid ++ bytesBE 16 v.refts ++ bytesBE 2 (unsignedOf 16 v.utc) ++ bytesBE 16 (unsignedOf 128 v.delta) ++
      bytesBE 8 (unsignedOf 64 v.rate)

/-- The origin sends its context with each epoch (R422). -/
def contextSent (d : Dev) : Dev :=
  let h := d.lead
  if !(d.gb (redPg h) Reg.RED.MIRROR_EN) || d.chipReturning h then d
  else
    let buddy := d.g (redPg h) Reg.RED.MIRROR_BUDDY
    let l := ctxBytes (d.contextNow h)
    match d.linkTo h buddy with
    | some s => d.linkSend s 0 l
    | none => match d.linkTo h.other buddy with
      | some s => d.linkSend s 0 l
      | none => d

/-- A context kept in a half: the last two of each origin. -/
def Dev.keepContext (d : Dev) (h : Half) (origin : Nat) (c : MirrorCtx) : Dev :=
  let st := d.rd h
  d.setRd h { st with ctxs := tset [] st.ctxs origin ((c :: tget [] st.ctxs origin).take 2) }

/-- MIRROR_CONTEXT_RECEIVE: kept in the link's half and sent to the other over the bridge. -/
def contextReceived (s : Nat) (c : MirrorCtx) (d : Dev) : Dev :=
  let h := linkHalf s
  if !(d.linkUp_ s) || 3 < s || !(d.gb (redPg h) Reg.RED.MIRROR_ACCEPT) then d
  else
    let o := d.g (slvL s) Reg.SLV.LSTAT_PEER_ID
    (d.keepContext h o c).toBridge h (.context o c)

/-- A descriptor read back from a mirror record. [DESIGN CHOICE log 166] -/
def descOf (l : List Byte) : Desc :=
  let v := fun o => beAt l o 6 * secFrac + beAt l (o + 6) 4 * 2 ^ 32 + beAt l (o + 10) 4
  let f := beAt l 28 2
  { ing0 := v 0, ing1 := v 14, v0 := bitAt f 15, v1 := bitAt f 14, ts0 := bitAt f 13, ts1 := bitAt f 12
    port := f / 512 % 8, stepgen := f / 32 % 16, epoch := beAt l 30 2 }

/-- A record refused at the buddy. [DEDUCED log 168] -/
def Dev.mirrorRefused (d : Dev) (h : Half) : Dev := d.inc (redPg h) Reg.RED.MIRROR_RXDROP

/-- A mirror record reaches a half's responder (R422): dropped in the cases named, else classified and put at Verify.
[DEDUCED log 146] -/
def Dev.mirrorEnter (d : Dev) (h : Half) (origin : Nat) (desc : Desc) (bytes : List Byte) : Dev :=
  match d.originCtx h origin desc.epoch with
  | none => d.mirrorRefused h
  | some c =>
    if c.sum ≠ d.cfgSum then (d.mirrorRefused h).raise (redPg h) 9
    else if d.chipReturning h || !(d.trsOn h) || decide (512 ≤ d.creditsUsed h) then d.mirrorRefused h
    else
      match d.matchEntry h desc.port (msgOf bytes) with
      | none => d.mirrorRefused h
      | some a =>
        let s := d.rsp h
        let r : Req := { id := s.nextId, desc := { desc with stepgen := d.stepgen.of h }, bytes := bytes, entNo := a
                         ent := d.svcEntry h a, stage := .classify, origin := some origin, lead := d.leadNs h }
        let d1 := d.setRsp h { s with reqs := s.reqs ++ [r], nextId := s.nextId + 1 }
        reqClassified h r.id (((d1.inc (redPg h) Reg.RED.MIRROR_RX).perf (redPg h) 0x02))

/-- MIRROR_RECEIVE: a record on a link, taken in by both halves. [DEDUCED log 168, 169] -/
def mirrorReceived (s : Nat) (record : List Byte) (d : Dev) : Dev :=
  let h := linkHalf s
  if !(d.linkUp_ s) || 3 < s || !(d.gb (redPg h) Reg.RED.MIRROR_ACCEPT) then d
  else
    let o := d.g (slvL s) Reg.SLV.LSTAT_PEER_ID
    let r : Req := { id := 0, desc := descOf record, bytes := record.drop 32, entNo := 0, ent := [] }
    (d.mirrorEnter h o r.desc r.bytes).toBridge h (.mirror o r)

/-! ### The bridge (R305) -/

/-- What crosses the bridge reaches the other half. [DEDUCED log 146] -/
def Dev.bridgeDeliver (d : Dev) (h : Half) (i : BridgeItem) : Dev :=
  match i with
  | .request r => d.svcArrive h { r with desc := { r.desc with stepgen := d.stepgen.of h } }
  | .esmc p ssm essm => d.esmcTaken h p ssm essm
  | .inst k s bytes => d.toInst h k s bytes
  | .frame f => d.offerFrame h { f with refs := [] } f.refs false false
  | .gated g => d.bridgedGate g
  | .mirror o r => d.mirrorEnter h o r.desc r.bytes
  | .mirrorOut bytes =>
    match d.linkTo h (d.g (redPg h) Reg.RED.MIRROR_BUDDY) with
    | some s => d.linkSend s 1 bytes
    | none => d.mirrorDropped h
  | .context o c => d.keepContext h o c

/-- BRIDGE_TRANSFER: the oldest item of a half crosses with a bridge credit, or is dropped and counted.
[DESIGN CHOICE log 137] -/
def bridgeTransferred (h : Half) (credit : Bool) (d : Dev) : Dev :=
  let pl := d.plane h
  match pl.bridge with
  | [] => d
  | i :: rest =>
    let d1 := d.setPlane h { pl with bridge := rest }
    if credit && d.planeUp h && d.planeUp h.other then d1.bridgeDeliver h.other i
    else d1.inc (swcPg h) Reg.SWC.BRIDGE_DROP

/-! ### State copy and return (R425 to R429) -/

/-- The number of an item among those that a return counts. -/
def CopyItem.num : CopyItem → Nat
  | .leap => 0 | .model => 1 | .grants => 2 | .selectors => 3 | .published => 4 | .keys => 5

/-- Words copied from one page to another. -/
def Dev.copyWords (d : Dev) (src dst : Nat) (offs : List Nat) : Dev := offs.foldl (fun e o => e.setw (dst + o) (d.w (src + o))) d

/-- The selector state of one half applied in the other (R139, R426): selected candidates, phases, BO, wait-to-restore timers
and SUSPECT marks. -/
def Dev.copySelectors (d : Dev) (src dst : Half) : Dev :=
  let offs := (List.range 16).flatMap fun n => [0x100 + 0x40 * n + 0x10, 0x100 + 0x40 * n + 0x18, 0x100 + 0x40 * n + 0x1C]
  let d1 := d.copyWords (selPg src) (selPg dst) (0x504 :: offs)
  let d2 := d1.each 16 fun n e => e.setSel dst n (e.sel src n)
  let mine : Tab Nat := d2.wtr.filter fun (e : Nat × Nat) => e.1 / 512 == src.num
  let put := fun (h : Half) => mine.map fun (e : Nat × Nat) => (e.1 % 512 + h.num * 512, e.2)
  { d2 with wtr := put .warp ++ put .weft }

/-- An item of the sender's state applied whole. [DEDUCED log 180] -/
def Dev.copyItem (d : Dev) (src dst : Half) : CopyItem → Dev
  | .leap =>
    let e := d.copyWords (leapPg src) (leapPg dst) (leapOffsets.map (· + 0x90))
    ((e.p (leapPg dst) Reg.TSU.LEAP_STAT_GEN (e.g (leapPg src) Reg.TSU.LEAP_STAT_GEN)).p (leapPg dst) Reg.TSU.LEAP_STAT_REFUSE
      (e.g (leapPg src) Reg.TSU.LEAP_STAT_REFUSE)).each 16 fun n x => leapRefresh dst n x
  | .model =>
    let e := d.copyModel src dst
    e.setHm dst { e.hm dst with tSum := (d.hm src).tSum }
  | .grants => grantsCopied true d
  | .selectors => d.copySelectors src dst
  | .published => (d.p (hldPg dst) Reg.HLD.HSTAT_CLASS (d.pub 0).cls).p (hldPg dst) Reg.HLD.HSTAT_STRATUM (d.pub 0).stratum
  | .keys => d.keysJoined src dst

/-- STATE_COPY_APPLY: a generation of an item whose marker has come with an intact CRC is applied in the other half, whole and
at once; any other is discarded. A returning half copies from a serving one alone. [DEDUCED log 180] -/
def stateCopied (dst : Half) (i : CopyItem) (intact : Bool) (d : Dev) : Dev :=
  let src := dst.other
  if !intact || d.outOfService src || !(d.serving src) || !(d.planeUp dst) then d
  else
    let gen := (d.g (redPg src) Reg.RED.COPYGEN + 1) % 65536
    let d1 := ((d.copyItem src dst i).p (redPg src) Reg.RED.COPYGEN gen).p (redPg dst) Reg.RED.COPYGEN gen
    let st := d1.rd dst
    d1.setRd dst { st with copied := if st.copied.contains i.num then st.copied else i.num :: st.copied }

/-- The serving half has left service while this one returns (R428). [DEDUCED log 181] -/
def Dev.partnerGone (d : Dev) (h : Half) : Bool :=
  !(d.planeUp h.other) || (!(d.serving h.other) && d.g sysPg Reg.SYS.START_STAT_PHASE == 7)

/-- Copy has ended (R427): after the half's own RESTORE. -/
def Dev.copyOk (d : Dev) (h : Half) : Bool :=
  (d.hs h).restored && d.gb (cadPg h) Reg.CAD.CSTAT_KEYS_READY && (List.range 6).all fun i => (d.rd h).copied.contains i

/-- Align's condition. -/
def Dev.alignOk (d : Dev) (h : Half) : Bool := d.partnerGone h || d.gb (dplPg h 0) Reg.DPL.SKSTAT_ALIGNED

/-- Check's conditions but for the samples. -/
def Dev.checkOk (d : Dev) (h : Half) : Bool :=
  d.partnerGone h ||
    (!d.halvesDiffer && decide ((d.rd h).diffAt + ticks1s ≤ d.now) && d.gb (cadPg h) Reg.CAD.CSTAT_MIRROR_OK &&
      (List.range 16).all fun k =>
        d.lstate h k == 0 || (d.lstate h k == d.lstate h.other k &&
          d.g (dplL h k) Reg.DPL.LSTAT_STAGE == d.g (dplL h.other k) Reg.DPL.LSTAT_STAGE))

/-- The step that a returning half is in after its conditions are looked at. [DEDUCED log 181] -/
def Dev.joinNext (d : Dev) (h : Half) (step : Nat) : Nat :=
  let samples := d.partnerGone h || decide (1000 ≤ (d.rd h).matches_)
  match step with
  | 1 => if d.copyOk h then 2 else 1
  | 2 => if !(d.copyOk h) then 1 else if d.alignOk h then 3 else 2
  | 3 => if !(d.copyOk h) then 1 else if !(d.alignOk h) then 2 else if d.checkOk h && samples then 4 else 3
  | 4 => if !(d.copyOk h) then 1 else if !(d.alignOk h) then 2 else if !(d.checkOk h) || (d.rd h).misRun != 0 then 3 else 4
  | n => n

/-- JOIN_STEP_ADVANCE. -/
def joinAdvanced (h : Half) (d : Dev) : Dev :=
  let pg := redPg h
  let step := d.g pg Reg.RED.RSTAT_HJOIN
  let n := d.joinNext h step
  if !(d.planeUp h) || n = step || (!(d.serving h.other) && d.g sysPg Reg.SYS.START_STAT_PHASE != 7) then d
  else
    let st := d.rd h
    (d.p pg Reg.RED.RSTAT_HJOIN n).setRd h { st with
      matches_ := if n = 3 then 0 else st.matches_
      misRun := if n = 3 then 0 else st.misRun
      waitAt := if n = 4 then d.now + d.g pg Reg.RED.RCTL_WTR * ticks1s else st.waitAt }

/-- HREM of WTR_REM: seconds of half wait remaining. -/
def Dev.waitRem (d : Dev) (h : Half) : Nat :=
  if d.g (redPg h) Reg.RED.RSTAT_HJOIN ≠ 4 then 0
  else ceilDiv ((d.rd h).waitAt - d.now) ticks1s

/-- CREM of WTR_REM: seconds of chip wait remaining. -/
def Dev.chipRem (d : Dev) (h : Half) : Nat :=
  match (d.rd h).chipWait with
  | some t => if d.g (redPg h) Reg.RED.RSTAT_CJOIN = 1 then ceilDiv (t - d.now) ticks1s else 0
  | none => 0

/-- HALF_REJOINED: Wait has ended, or the partner has left after Copy; the half serves again, its bounds join, and a returned
Warp times the schedules again (R19, R207, R427, R428). -/
def halfRejoined (h : Half) (d : Dev) : Dev :=
  let pg := redPg h
  let step := d.g pg Reg.RED.RSTAT_HJOIN
  let due := (step == 4 && d.waitRem h == 0) || (2 ≤ step && d.partnerGone h)
  if !(d.planeUp h) || !due || d.g sysPg Reg.SYS.START_STAT_PHASE != 7 then d
  else
    let d1 := (d.p pg Reg.RED.RSTAT_HJOIN 0).raise pg 1
    let d2 := d1.setRd h { d1.rd h with copied := [], matches_ := 0, misRun := 0 }
    let half := if h = .warp then .warp else if d.planeUp .warp then d2.sched.half else .weft
    chipWaitRefresh { d2 with sched := { d2.sched with half := half, pendMs := none } }

/-- CHIP_ALONE (R429): one chip on the board, or no other heard for 1 s. [DEDUCED log 176] -/
def chipAlone (d : Dev) : Dev :=
  let h := d.lead
  if d.g (redPg h) Reg.RED.RSTAT_CJOIN ≠ 1 then d
  else if d.topoN h = 1 || decide ((d.rd h).heardAt + ticks1s ≤ d.now) then
    hclassRefresh (d.both fun x e => e.p (redPg x) Reg.RED.RSTAT_CJOIN 0)
  else d

/-- CHIP_REJOINED (R429): an ALONE chip hears another, or a RETURNING chip meets its conditions. -/
def chipRejoined (d : Dev) : Dev :=
  let h := d.lead
  let state := d.g (redPg h) Reg.RED.RSTAT_CJOIN
  let st := d.rd h
  let d0 := chipWaitRefresh d
  let low := !(d.upLinks.any fun s => decide (3 ≤ d.peerClass s))
  let due :=
    if state = 0 then 1 < d.topoN h && decide (d.now < st.heardAt + ticks1s) && st.heardAt != 0
    else state == 1 && (match (d0.rd h).chipWait with
      | some t => low || decide (t ≤ d.now)
      | none => false)
  if due then hclassRefresh (d0.both fun x e => (e.p (redPg x) Reg.RED.RSTAT_CJOIN 2).raise (redPg x) 2) else d0

/-- SOFT_RESET of a RED page: its counters are zeroed (R430). -/
def redSoftReset (h : Half) (d : Dev) : Dev := d.each 9 fun i e => e.setw (redPg h + 0x12C + 4 * i) 0

end Sys2Proof.Machine
end

