-- ==== Sys2Proof/Machine/Reset.lean ====
section
/-! DEFINITION. What a page's SOFT_RESET (R38, R50, R564), a wake from P3 (R435) and a half reset (R462, R507) reset. -/

namespace Sys2Proof.Machine

/-- The bits of a word that a reset of its page leaves, beside those that a write sets: straps, fuses, what follows from a
setting, records that only access clears, and what the page shell holds. [DEDUCED log 19] -/
def keptBits (a : Nat) : Nat :=
  let o := pageOff a
  match typeAt a with
  | some .pcs => if o = 0x10C || o = 0x118 then 0xFFFFFFFF else 0
  | some .cad => if o = 0x100 then 0xC else if o = 0x184 || o = 0x188 then 0xFFFFFFFF else 0
  | some .red => if o = 0x104 then 0xFFFFFFFF else 0
  | some .bst => if o = 0x114 then 0xFFFFFFFF else 0
  | some .hdm => if o % 0x40 = 0x10 || o = 0x508 then 0xFFFFFFFF else 0
  | some .prf => if o = 0x110 then 0xFFFFFFFF else 0
  | _ => 0

/-- The words of a page beyond its header reinitialised: what a write sets is configuration and stays (R38).
[DEDUCED log 30] -/
def Dev.reinit (d : Dev) (pg : Nat) : Dev :=
  (d.regs.filter fun (e : Nat × Word) => pageBase e.1 == pg && decide (headerEnd pg ≤ pageOff e.1)).foldl
    (fun (x : Dev) (e : Nat × Word) =>
      let m := writeMask e.1 ||| keptBits e.1
      x.setw e.1 ((e.2.toNat &&& m) ||| (resetNat e.1 &&& (0xFFFFFFFF - m)))) d

/-- The entries of a table whose keys do not belong to a half, with `per` keys to a half. -/
def outOfHalf {α : Type} (t : Tab α) (per : Nat) (h : Half) : Tab α :=
  t.filter fun (e : Nat × α) => e.1 / per != h.num

/-- TSU (R564): a pending step and any remaining phase adjustment are discarded. -/
def tsuSoftReset (h : Half) (i : Nat) (d : Dev) : Dev :=
  d.each 4 fun k e =>
    let n := 4 * i + k
    padjAborted h n ((e.pb (tsuB h n) Reg.TSU.STAT_STEP_PEND false).setLoop h n { e.loop h n with initStep := none })

/-- OUT (R564). -/
def outSoftReset (h : Half) (i : Nat) (d : Dev) : Dev :=
  outRefresh h ((outputs.filter fun x => x.1 == i).foldl (fun (e : Dev) x =>
    let b := outO h x.1 x.2
    ((e.p b Reg.OUT.PERR 0).pb b Reg.OUT.OSTAT_PERR_ALARM false).setOut h x.1 x.2
      { e.out h x.1 x.2 with stopped := false, cal := 0, calm := 0 }) d)

/-- SEL (R564): transactions are aborted, NOREF holds until the next evaluation, and the vote window is discarded. -/
def selSoftReset (h : Half) (d : Dev) : Dev :=
  let d1 := d.each 16 fun n e => e.selNoref h n
  { d1.each 30 (fun c x => x.setCand h c { x.cand h c with votePh := none }) with voteAt := d.voteAt }

/-- DPL (R564). [DEDUCED log 94] -/
def dplSoftReset (h : Half) (i : Nat) (d : Dev) : Dev :=
  d.each 4 fun k e => (loopRestart h (4 * i + k) e).pb (dplL h (4 * i + k)) Reg.DPL.LSTAT_EXPIRED false

/-- TDC (R98, R461): units return to service, uncalibrated, with empty queues. [DESIGN CHOICE log 32] -/
def tdcSoftReset (h : Half) (i : Nat) (d : Dev) : Dev :=
  ((d.each 16 fun j e =>
    let cp := 16 * i + j
    { (e.setCap h cp { level := (e.cap h cp).level, high := (e.cap h cp).high }).setw (tdcP h cp + 0x0C) 0 with
      capq := e.capq.filter fun (x : Nat × Word) => x.1 / 512 != h.num * 80 + cp }).reinit (pageAddr .tdc h i)).each 16
    fun j e => pointRefresh h (16 * i + j) e

/-- AEG: engines return to service (R461). -/
def aegSoftReset (h : Half) (d : Dev) : Dev :=
  affinityRefresh h { d.reinit (aegPg h) with
    engs := outOfHalf d.engs 8 h
    unitsOut := tset [] d.unitsOut (aegPg h) [] }

/-- A tracking-channel page: its channels go IDLE (R237). -/
def gntSoftReset (i : Nat) (d : Dev) : Dev :=
  (d.each 32 fun j e => (if e.chState (32 * i + j) = 0 then e else e.chTo (32 * i + j) 0).setChan (32 * i + j) {}).reinit
    (pageAddr .gnt .warp i)

/-- GNS: the survey restarts, and a capture or its processing ends with STATE IDLE (R511). -/
def gnsSoftReset (d : Dev) : Dev :=
  surveyStarted { d.reinit gnsPg with snap := {}, sol := { pos := d.sol.pos } }

/-- HDM: stopped queues are restarted by the host; PROD and CONS stay where they are. -/
def hdmSoftReset (d : Dev) : Dev := { d.reinit (pageAddr .hdm .warp 0) with dmas := [] }

/-- A test that runs ends with RESULT ABORTED (R470): its page is reinitialised and ISOLATED clears. -/
def Dev.bistEnd (d : Dev) (result : Nat) : Dev :=
  match d.bist with
  | none => d
  | some r =>
    let b := pageAddr .bst (halfAt r.page) 0
    let p := d.page r.page
    ((({ d with bist := none }.p b Reg.BST.BSTAT_STATE 2).p b Reg.BST.BSTAT_RESULT result).p b Reg.BST.TTIME
      ((d.now - r.start) / 250)).setPage r.page { p with isolated := false }

/-- EVC: no message waits, and no vector holds off (R54, R55). -/
def evcSoftReset (d : Dev) : Dev :=
  { d.setw (evcPg + 0x280) 0 with evc := { d.evc with lastGen := [], pba := [] } }

/-- HLD: the model is cleared, at the exit from a holdover that goes on (R166), and what sampling holds is dropped. -/
def hldSoftReset (h : Half) (d : Dev) : Dev :=
  let e := if (d.loop h 0).holdAt.isSome then d.setHm h { d.hm h with resetPd := true } else d.modelCleared h
  e.setHm h { e.hm h with sensors := [], last := none, fresh := false, ppsEc := none }

/-- FLT: the log, the first-error latch, LOST and the counts are cleared; what stands for the half's state stays: FATAL,
OTHER_DOWN, PARKED, C2CNT and the conditions that persist. -/
def fltSoftReset (h : Half) (d : Dev) : Dev :=
  let pg := fltPg h
  let st := d.flt.of h
  let d1 := { d.reinit pg with flt := d.flt.put h { st with seq := 0, batch := [], latchAt := none, parity := [] } }
  ((d1.setw (pg + 0x120) 0).setw (pg + 0x104) (d.w (pg + 0x104))).pb pg Reg.FLT.FSTAT_FIRST_VALID false

/-- A challenge is void, and a session closes (R475, R478). -/
def accessClosed (d : Dev) : Dev :=
  let open_ := d.lcs.session
  [Half.warp, Half.weft].foldl (fun (e : Dev) x =>
    (((e.pb (pageAddr .lcs x 0) Reg.LCS.LSTATE_SESSION false).pb (pageAddr .lcs x 0) Reg.LCS.LSTATE_CHAL_OUT false).raiseIf open_
      (pageAddr .lcs x 0) 0)) { d with lcs := { d.lcs with session := false, chal := none } }

/-- APL: the DAC port starts again from its code, and the counts of locks return to 0; the loops run on, since R183 lists every
cause of a re-lock. -/
def aplSoftReset (h : Half) (d : Dev) : Dev :=
  [0, 1].foldl (fun (e : Dev) j => e.p (aplBase h j) Reg.APL.LOCKCNT_LOCKS 0) { d with dacs := d.dacs.put h {} }

/-- The pages of the network side, of GNSS and of keys. [DEDUCED log 30, 31] -/
def Dev.softResetNet (d0 : Dev) (p : Page) (pg : Nat) (h : Half) (i : Nat) : Dev :=
  match p with
  | .gnf => { d0.reinit pg with bands := [] }
  | .gna => { d0.reinit pg with acq := {} }
  | .gnt => gntSoftReset i d0
  | .gns => gnsSoftReset d0
  | .mac => macSoftReset (2 * i + h.num) d0
  | .pcs => (d0.portDown (2 * i + h.num)).reinit pg
  | .swc => d0.each 5 fun j e => e.flushPort h j
  | .swt => d0.reinit pg
  | .lgt => lgtSoftReset h d0
  | .trs =>
    if i = 0 then trsSoftReset h d0
    else { d0 with svcStage := d0.svcStage.filter fun (e : Nat × Option Word) => pageBase e.1 != pg }
  | .grt => { d0.reinit pg with grants := outOfHalf d0.grants 4096 h }
  | .rlt => { d0.reinit pg with buckets := outOfHalf d0.buckets 65536 h }
  | .hdm => hdmSoftReset d0
  | .aeg => aegSoftReset h d0
  | .red => redSoftReset h d0
  | .slv => ((d0.linkGone (2 * h.num)).linkGone (2 * h.num + 1)).reinit pg
  | _ => d0

/-- Warp's grant table after a test of its page (R465): refilled by one complete generation of Weft's. -/
def Dev.grantsRefilled (d : Dev) (pg : Nat) : Dev :=
  if pg = grtPg .warp then
    let p := d.page pg
    (grantsCopied true (d.setPage pg { p with isolated := true })).setPage pg p
  else d

/-- A page that a test in service may name, reinitialised (R465). [DESIGN CHOICE log 32] -/
def Dev.tested (d : Dev) (pg : Nat) : Dev :=
  match typeAt pg with
  | some p => (d.softResetNet p pg (halfAt pg) (idxAt pg)).grantsRefilled pg
  | none => d

/-- The block state of a page reset (R38, R50, R564), but for the timed actions that a TTA page then re-evaluates. In the pages
that no rule names, the words that no write sets return to their reset values, and what the block holds behind them with
them; units that had left service return (R461). [DEDUCED log 30] -/
def Dev.softReset (d : Dev) (pg : Nat) : Dev :=
  let h := halfAt pg
  let i := idxAt pg
  let d0 := { d with unitsOut := tset [] d.unitsOut pg [] }
  match typeAt pg with
  | none => d
  | some .sys => (d0.setw (sysPg + 0x104) 0).setw (sysPg + 0x108) 0
  | some .evc => evcSoftReset d0
  | some .mbx => mbxSoftReset i d0
  | some .pmu => { d0.reinit pg with avs := d.avs.put h {} }
  | some .ktl => d0
  | some .flt => fltSoftReset h d0
  | some .bst =>
    (match d0.bist with
     | some r => if halfAt r.page == h then (d0.bistEnd 3).tested r.page else d0
     | none => d0)
  | some .lcs => accessClosed d0
  | some .prf => { d0.reinit pg with prf := d.prf.put h { d.prf.of h with busy := none } }
  | some .tel => { d0.reinit pg with tel := d.tel.put h {} }
  | some .hld => hldSoftReset h d0
  | some .cad => d0
  | some .att => d0
  | some .bnd => d0
  | some .apl => aplSoftReset h d0
  | some .tsu => tsuSoftReset h i d0
  | some .tta => ttaCleared h d0
  | some .ref => d0.each 8 fun j e => if 8 * i + j < 30 then refRestart h (8 * i + j) e else e
  | some .sel => selSoftReset h d0
  | some .dpl => dplSoftReset h i d0
  | some .out => outSoftReset h i d0
  | some .tdc => tdcSoftReset h i d0
  | some p => d0.softResetNet p pg h i

/-- The tables of a page read 0 after a wake from P3 or a test (R435, R465): forwarding entries and the snapshot buffer. -/
def Dev.tablesLost (d : Dev) (pg : Nat) : Dev :=
  match typeAt pg with
  | some .swc => { d with fwd := outOfHalf d.fwd 16384 (halfAt pg), fwdStage := outOfHalf d.fwdStage 16384 (halfAt pg) }
  | some .gns => { d with snapBuf := [] }
  | _ => d

/-- SOFT_RESET of a page as its register takes it (R46, R470): nothing while the page's half is in safe state or unpowered; a
test of the page ends as aborted. -/
def Dev.softResetAsked (d : Dev) (pg : Nat) : Dev :=
  let perHalf := match typeAt pg with | some p => (pageRow p).perHalf | none => false
  if perHalf && !(d.planeUp (halfAt pg)) then d
  else
    match d.bist with
    | some r => if r.page == pg then (((d.bistEnd 3).softReset pg).tablesLost pg).grantsRefilled pg else d.softReset pg
    | none => d.softReset pg

/-- The per-half pages whose words a half reset returns to their reset values: all but the fault log (R460), the lifecycle page
and the core-rail control. -/
def halfResetPages : List Page :=
  [.bst, .prf, .tel, .ref, .sel, .dpl, .hld, .apl, .out, .tsu, .tdc, .tta, .bnd, .mac, .pcs, .swc, .swt, .lgt, .trs, .grt, .rlt,
    .cad, .aeg, .red, .slv]

/-- The bits of a word that a half reset leaves: those of `keptBits` but for what follows from settings, and the ratio, state
and counts of the synthesis loops, which the image header gives and which stay locked (R183, R500).
[DEDUCED log 183] -/
def halfKept (a : Nat) : Nat :=
  let o := pageOff a
  match typeAt a with
  | some .pcs => 0
  | some .apl => if 0x100 ≤ o && o < 0x500 && 0x04 ≤ (o - 0x100) % 0x200 && (o - 0x100) % 0x200 < 0x1C then 0xFFFFFFFF else 0
  | _ => keptBits a

/-- The words of a page beyond its header, configuration with them, returned to their reset values by a half reset (R507).
[DEDUCED log 183] -/
def Dev.halfWiped (d : Dev) (pg : Nat) : Dev :=
  (d.regs.filter fun (e : Nat × Word) => pageBase e.1 == pg && decide (headerEnd pg ≤ pageOff e.1)).foldl
    (fun (x : Dev) (e : Nat × Word) =>
      let m := halfKept e.1
      x.setw e.1 ((e.2.toNat &&& m) ||| (resetNat e.1 &&& (0xFFFFFFFF - m)))) d

/-- The engines of a half's timing side as they are before anything runs; the counts of its timebases run on. -/
def Dev.halfTimeReset (d : Dev) (h : Half) : Dev :=
  { d with
    tbs := d.tbs.map fun (e : Nat × Tbase) =>
      if e.1 / 16 == h.num then (e.1, { count := e.2.count }) else e
    caps := outOfHalf d.caps 80 h
    capq := outOfHalf d.capq 40960 h
    tracks := outOfHalf d.tracks 80 h
    cands := outOfHalf d.cands 32 h
    sels := outOfHalf d.sels 16 h
    wtr := outOfHalf d.wtr 512 h
    loops := outOfHalf d.loops 16 h
    hold := d.hold.put h {}
    skewRun := d.skewRun.put h {}
    outs := outOfHalf d.outs 16 h
    dacs := d.dacs.put h {}
    bnds := outOfHalf d.bnds 16 h
    chaef := d.chaef.put h {}
    sampled := d.sampled.put h none
    prf := d.prf.put h { d.prf.of h with busy := none }
    tel := d.tel.put h {} }

/-- The engines of a half's network side. Zeroisation under way goes on (R389). -/
def Dev.halfNetReset (d : Dev) (h : Half) : Dev :=
  let c := d.cad h
  { d with
    planes := d.planes.put h {}
    ports := (List.range 4).foldl (fun t j => tset {} t (2 * j + h.num) { (tget {} t (2 * j + h.num)) with sending := none }) d.ports
    fwd := outOfHalf d.fwd 16384 h
    fwdStage := outOfHalf d.fwdStage 16384 h
    resp := d.resp.put h {}
    buckets := outOfHalf d.buckets 65536 h
    grants := outOfHalf d.grants 4096 h
    insts := outOfHalf d.insts 4 h
    svcStage := d.svcStage.filter fun (e : Nat × Option Word) => halfAt e.1 != h
    cads := d.cads.put h c.kept
    engs := outOfHalf d.engs 8 h
    red := d.red.put h { heardAt := (d.red.of h.other).heardAt, chipWait := (d.red.of h.other).chipWait }
    unitsOut := d.unitsOut.filter fun (e : Nat × List Nat) =>
      !((match typeAt e.1 with | some p => (pageRow p).perHalf | none => false) && halfAt e.1 == h) }

/-- The fixed loop of a half locks as the half starts (R183), and a steered loop without lock searches for one.
[DEDUCED log 98] -/
def Dev.clockLocked (d : Dev) (h : Half) : Dev :=
  let d1 :=
    if d.clockValid h then d
    else (d.p (aplBase h 0) Reg.APL.LSTAT_STATE 2).inc (aplBase h 0) Reg.APL.LOCKCNT_LOCKS
  if 3 ≤ d.aplState h 1 then d1.relock h none else d1

/-- A reset of a half (R462, R507): it returns under R427, from Copy, once its RESTORE is complete. Its configuration registers
are reset with the rest; the page shells (R46, R524) and the fault log stay; the chip's own state (CJOIN) is that of the other
half; its mailboxes' commands are ABORTED (R65); a session closes and a challenge is void (R475, R478); a test of the half
ends (R470); its root is regenerated, or fails (R371, R374). [DEDUCED log 183, 184] -/
def Dev.halfReset (d : Dev) (h : Half) (rootOk : Bool) : Dev :=
  let d0 := d.mbxHalfCut codeAborted h
  let d1 := match d0.bist with
    | some r => if halfAt r.page == h then { d0.bistEnd 3 with bist := none } else d0
    | none => d0
  let d2 := ((d1.each 2 fun i e => e.linkGone (2 * h.num + i)).each 4 fun i e => e.portDown (2 * i + h.num))
  let d3 := halfResetPages.foldl (fun (e : Dev) p =>
    (List.range ((pageRow p).maxIdx + 1)).foldl (fun (x : Dev) i => x.halfWiped (pageAddr p h i)) e) d2
  let d4 := (gateHalfReset h ((d3.halfTimeReset h).halfNetReset h)).clockLocked h
  let d5 := { d4 with
    half := d4.half.put h { d4.hs h with safe := false, byFault := false, heldReset := false, coresUp := true, safePend := none
                                         restored := false } }
  let d6 := accessClosed d5
  let d7 := d6.pb (fltPg h.other) Reg.FLT.FSTAT_OTHER_DOWN false
  let d7a := hclassRefresh (d7.p (redPg h) Reg.RED.RSTAT_CJOIN (d7.g (redPg h.other) Reg.RED.RSTAT_CJOIN))
  let d8 := outRefresh h (bridgeRefresh (d7a.each 4 fun i e => e.portCands (2 * i + h.num)))
  if !rootOk && !(d8.gb (cadPg h) Reg.CAD.CSTAT_TAMPER_LOCK) then d8.rootFailed h else d8

end Sys2Proof.Machine
end

