-- ==== Sys2Proof/Machine/Faults.lean ====
section
/-! DEFINITION. Faults as checkers signal them (R453 to R457), safe state (R460), recovery of a half (R461, R462) and
self-test in service (R464 to R470). -/

namespace Sys2Proof.Machine

/-- The device with a half's fault collector replaced. -/
def Dev.setFlt (d : Dev) (h : Half) (v : FltSt) : Dev := { d with flt := d.flt.put h v }

/-! ### Detection -/

/-- The conditions that persist (R455, R457): core rail, timebase clock, thermal. -/
def persists (code : Nat) : Bool := code == 9 || code == 0xB || code == 0xD

/-- What an uncorrectable error in a memory of a page is (R455): code and class of a removable unit, of another memory of a
half, or of a shared block. [DESIGN CHOICE log 38] -/
def memoryFault (pg : Nat) : Nat × Nat :=
  match typeAt pg with
  | some .aeg => (2, 1)
  | some .rlt => (2, 1)
  | some .tdc => (2, 1)
  | some .gnt => (2, 1)
  | some p => if (pageRow p).perHalf then (3, 2) else (4, 1)
  | none => (4, 1)

/-- The class of a code at a page (R455). -/
def faultClass (pg code : Nat) : Nat :=
  match code with
  | 1 => 0
  | 5 => 0
  | 2 => 1
  | 4 => 1
  | 6 => (memoryFault pg).2
  | 3 => 2
  | 7 => 2
  | 8 => 2
  | 9 => 2
  | 0xB => 2
  | 0xA => 3
  | 0xE => 3
  | 0xF => 3
  | _ => 1

/-- A unit leaves service (R31): a capture unit, an engine, a group of 32 tracking channels, or a bank of rate buckets.
[DESIGN CHOICE log 39] -/
def Dev.removeUnit (d : Dev) (pg unit : Nat) : Dev :=
  let h := halfAt pg
  match typeAt pg with
  | some .tdc =>
    let cp := 16 * idxAt pg + unit
    if 16 ≤ unit then d else pointRefresh h cp (d.pb (tdcP h cp) Reg.TDC.PSTAT_OOS true)
  | some .aeg =>
    if 8 ≤ unit then d
    else affinityRefresh h (((({ d with engs := tset {} d.engs (h.num * 8 + unit) {} }.pb (aegE h unit) Reg.AEG.ESTAT_INSVC false).pb (aegE h unit) Reg.AEG.ESTAT_FAILED true).p
      (aegE h unit) Reg.AEG.ESTAT_CACHED 0).raise (aegPg h) unit)
  | some .gnt =>
    let d1 := gntSoftReset (idxAt pg) d
    { d1 with unitsOut := tset [] d1.unitsOut pg [0] }
  | _ => { d with unitsOut := tset [] d.unitsOut pg (unit :: (tget [] d.unitsOut pg)) }

/-- What a fault of a code does to the unit or block it names (R455), beside its record: a removed unit, a reinitialised shared
block, and the DMA queue that held the word, which stops. [DESIGN CHOICE log 278] -/
def Dev.faultEffect (d : Dev) (r : FaultRec) : Dev :=
  let act := fun c => if c = 2 then d.removeUnit r.page r.unit else if c = 4 then d.softReset r.page else d
  let e := if r.code = 6 then act (memoryFault r.page).1 else act r.code
  if (r.code = 4 || (r.code = 6 && (memoryFault r.page).1 = 4)) && typeAt r.page == some .hdm && decide (r.unit < 16) then
    ((e.pb (pageAddr .hdm .warp 0 + 0x100 + 0x40 * r.unit) Reg.HDM.QSTAT_STOPPED true).p (pageAddr .hdm .warp 0 + 0x100 + 0x40 * r.unit)
      Reg.HDM.QSTAT_ERR 1).raise (pageAddr .hdm .warp 0) 16
  else e

/-- A fault recorded with its effect, once for a condition that persists (R457). -/
def Dev.faultRaised (d : Dev) (r : FaultRec) : Dev :=
  let h := d.collector r.page
  let st := d.flt.of h
  if persists r.code && st.standing.contains r.src then d
  else
    let d1 := (d.fault r).faultEffect r
    if persists r.code then d1.setFlt h { d1.flt.of h with standing := r.src :: (d1.flt.of h).standing } else d1

/-- FAULT_DETECT (R455): a checker signals a code at a page and unit. The sixteenth PARITY of a unit within 1 s is also a
PARITY_REPEAT. -/
def faultDetected (pg unit code : Nat) (d : Dev) : Dev :=
  let r : FaultRec := { page := pg, unit := unit, code := code, cls := faultClass pg code }
  if !(pageExists pg) || code = 0 || 15 < code then d
  else
    let d1 := d.faultRaised r
    if code ≠ 5 then d1
    else
      let h := d1.collector pg
      let st := d1.flt.of h
      let recent := (r.src, d1.now) :: st.parity.filter fun e => decide (d1.now < e.2 + ticks1s)
      if (recent.filter fun e => e.1 == r.src).length < 16 then d1.setFlt h { st with parity := recent }
      else
        let d2 := d1.setFlt h { st with parity := recent.filter fun e => e.1 != r.src }
        d2.faultRaised { page := pg, unit := unit, code := 6, cls := (memoryFault pg).2 }

/-- A THERMAL record clears with its condition (R461): its SRC reads 0. [DEDUCED log 37] -/
def Dev.recordsCleared (d : Dev) (h : Half) (src : Nat) : Dev :=
  d.each 32 fun e x =>
    if x.w (fltPg h + 0x200 + 0x10 * e) = src then x.setw (fltPg h + 0x200 + 0x10 * e) 0 else x

/-- A condition that holds a reset of a half back stands (R462). -/
def Dev.resetHeld (d : Dev) (h : Half) : Bool :=
  ((d.flt.of .warp).standing ++ (d.flt.of .weft).standing).any fun s =>
    (s / 16 % 16 == 9 || s / 16 % 16 == 0xB) && s / 2 ^ 16 % 16 == h.num

/-- FAULT_CONDITION_END (R455, R457): a condition at a page and unit ends; a held-back reset follows 100 ms later (R462).
[DEDUCED log 37] -/
def faultEnded (pg unit code : Nat) (d : Dev) : Dev :=
  let r : FaultRec := { page := pg, unit := unit, code := code, cls := faultClass pg code }
  let h := d.collector pg
  let f := halfAt pg
  if !((d.flt.of h).standing.contains r.src) then d
  else
    let d1 := d.setFlt h { d.flt.of h with standing := (d.flt.of h).standing.filter (· != r.src) }
    if code = 0xD then d1.recordsCleared h r.src
    else if (d1.flt.of f.other).asked && !(d1.resetHeld f) then
      d1.setFlt f.other { d1.flt.of f.other with resetAt := some (d1.now + ticks100ms) }
    else d1

/-! ### Safe state (R460) -/

/-- A port stops: a frame on the wire is truncated, ended with an error control code, and counted (R32).
[DESIGN CHOICE log 266] -/
def Dev.portStop (d : Dev) (p : Nat) : Dev :=
  let st := d.port p
  let now := d.tb0 (portHalf p)
  let sending := decide (st.txFrom ≤ now) && decide (now + d.octets p 12 < st.txTo) && st.last.isSome
  let sent := (now - st.txFrom) * d.portRate p / (8 * secFrac) - 8
  let d1 := if sending then
      (d.setPort p { st with last := st.last.map fun f => { f with bad := true, bytes := f.bytes.take sent } }).macInc p 16
    else d
  d1.portDown p

/-- What a half stops as it enters safe state: outputs, ports, gates, links, cores and the bridge. -/
def Dev.halfStopped (d : Dev) (h : Half) (byFault : Bool) : Dev :=
  let d1 := { d with half := d.half.put h { d.hs h with safe := true, byFault := byFault, coresUp := false, safePend := none } }
  let d2 := outRefresh h d1
  let d3 := (d2.each 4 fun i e => e.portStop (2 * i + h.num)).each 2 fun i e => e.linkGone (2 * h.num + i)
  let d4 := bridgeRefresh (gateStopped h d3)
  let d5 := d4.mbxHalfCut codeHalfDown h
  let d6 := (d5.pb (redPg h) Reg.RED.RSTAT_ILK_OUT false).p (redPg h) Reg.RED.RSTAT_STRONG 0
  let d7 := d6.pb (fltPg h.other) Reg.FLT.FSTAT_OTHER_DOWN true
  let d8 := { d7 with sched := { d7.sched with diffs := d7.sched.diffs.filter (400 ≤ ·) } }
  if h == .warp then { d8 with sched := { d8.sched with pendMs := some (msOf (d8.count .weft 0)) } } else d8

/-- C2CNT of a half's collector (R462): C2 entries of the other half in the last 24 h of Warp TB0. -/
def Dev.c2Count (d : Dev) (o : Half) : Nat :=
  min 15 ((d.flt.of o).c2At.filter fun s => decide (d.sec .warp 0 < s + 86400)).length

/-- The other half's collector notes a C2 entry (R462): entries of the last 24 h are counted; the third parks the half; else
a reset is asked for where AUTO_HRST is set. -/
def Dev.c2Noted (d : Dev) (h : Half) : Dev :=
  let o := h.other
  let pg := fltPg o
  let st := d.flt.of o
  let sec := d.sec .warp 0
  let at_ := sec :: st.c2At.filter fun s => decide (sec < s + 86400)
  let park := decide (3 ≤ at_.length)
  let d1 := (d.p pg Reg.FLT.FSTAT_C2CNT (min 15 at_.length)).setFlt o
    { st with c2At := at_
              asked := !park && d.gb pg Reg.FLT.FCTRL_AUTO_HRST
              resetAt := if park || !(d.gb pg Reg.FLT.FCTRL_AUTO_HRST) || d.resetHeld h then none
                         else some (d.now + ticks100ms) }
  if park then (d1.pb pg Reg.FLT.FSTAT_PARKED true).raiseIf (!(d.gb pg Reg.FLT.FSTAT_PARKED)) pg 5 else d1

/-- SAFE_STATE_ENTRY (R460): a half whose safe line is pulled stops. Both halves in safe state through faults is a C3 fault
(R455). A half left alone in Copy starts as a lone half (R428). -/
def safeEntered (h : Half) (d : Dev) : Dev :=
  match (d.hs h).safePend with
  | none => d
  | some byFault =>
    if (d.hs h).safe then { d with half := d.half.put h { d.hs h with safePend := none } }
    else
      let d1 := d.halfStopped h byFault
      let o := h.other
      let d2 := if byFault && !(d.gb (fltPg h) Reg.FLT.FSTAT_FATAL) then d1.c2Noted h else d1
      let d3 := if d2.g (redPg o) Reg.RED.RSTAT_HJOIN = 1 then
          { d2 with half := d2.half.put o { d2.hs o with alone := true } }
        else d2
      if byFault && (d3.hs o).safe && (d3.hs o).byFault && !(d3.gb (fltPg h) Reg.FLT.FSTAT_FATAL) then
        let d4 := d3.fault { page := fltPg h, unit := 0xFF, code := 0xE, cls := 3 }
        { d4 with half := ⟨{ d4.hs .warp with safePend := none }, { d4.hs .weft with safePend := none }⟩ }
      else d3

/-- Both halves put in safe state on command (R444, R474): no record is made. -/
def safeOnCommand (d : Dev) : Dev :=
  let pull := fun (e : Dev) (h : Half) => { e with half := e.half.put h { e.hs h with safePend := some false } }
  safeEntered .weft (safeEntered .warp (pull (pull d .warp) .weft))

/-! ### Recovery -/

/-- A half may be reset (R462, R463): it is in safe state and no C3 fault holds. [DEDUCED log 40] -/
def Dev.resettable (d : Dev) (h : Half) : Bool := (d.hs h).safe && !(d.gb (fltPg h.other) Reg.FLT.FSTAT_FATAL)

/-- AUTO_HALF_RESET (R462): 100 ms after entry, or after the condition that held the reset back has ended.
[DEDUCED log 40] -/
def autoHalfReset (h : Half) (rootOk : Bool) (d : Dev) : Dev :=
  let o := h.other
  match (d.flt.of o).resetAt with
  | none => d
  | some t =>
    if d.now < t || !(d.resettable h) || d.resetHeld h || !(d.planeUp o) then d
    else (d.setFlt o { d.flt.of o with resetAt := none, asked := false }).halfReset h rootOk

/-- OTHER_RST.GO in the page of the serving half `o` (R462): ignored while the other half serves; held back while a condition
persists. A half so reset is parked no longer (DEDUCED). [DEDUCED log 26, 41, 42] -/
def otherReset (o : Half) (rootOk : Bool) (d : Dev) : Dev :=
  let h := o.other
  if d.serving h || !(d.resettable h) || !(d.planeUp o) then d
  else if d.resetHeld h then d.setFlt o { d.flt.of o with asked := true }
  else ((d.setFlt o { d.flt.of o with resetAt := none, asked := false }).pb (fltPg o) Reg.FLT.FSTAT_PARKED false).halfReset h rootOk

/-! ### Self-test in service (R464 to R470) -/

/-- The BST page of a half. -/
def bstPg (h : Half) : Nat := pageAddr .bst h 0

/-- The page that BTARGET of a half's BST names: of that half if it is per half, else shared. -/
def Dev.bstTarget (d : Dev) (h : Half) : Option Nat :=
  match pageOfCode (d.g (bstPg h) Reg.BST.BTARGET_TYPE) with
  | none => none
  | some p =>
    if (pageRow p).maxIdx < d.g (bstPg h) Reg.BST.BTARGET_INDEX then none
    else some (pageAddr p (if (pageRow p).perHalf then h else .warp) (d.g (bstPg h) Reg.BST.BTARGET_INDEX))

/-- The pages that accept a test in service (R464). -/
def bstAccepts (p : Page) : Bool :=
  [Page.mac, .pcs, .swc, .swt, .lgt, .trs, .grt, .rlt, .aeg, .red, .slv, .gnf, .gna, .gnt, .gns, .hdm].contains p

/-- The reason a GO is refused, 0 for none (R465). A page that is isolated because a test failed may be tested again. -/
def Dev.bstRefusal (d : Dev) (h : Half) (scrap : Bool) : Nat :=
  if d.bist.isSome then 1
  else
    match d.bstTarget h with
    | none => 4
    | some pg =>
      match typeAt pg with
      | none => 4
      | some p =>
        if !(bstAccepts p) || (!(pageRow p).perHalf && h == .weft) then 2
        else if (pageRow p).perHalf && d.g (redPg h.other) Reg.RED.RSTAT_HJOIN != 0 then 3
        else if (d.page pg).isolated && !((tget [] d.unitsOut pg).contains 0xFF) then 4
        else if scrap then 5
        else 0

/-- Every channel and every job stops as a GNSS page is isolated for a test (R244). -/
def gnssStopped (d : Dev) : Dev :=
  (List.range 4).foldl (fun e b => e.bandJobsAborted b) (d.each 256 fun c e => e.chTo c 0)

/-- The work that a page holds is discarded as it is isolated for a test (R50, R465). -/
def Dev.workDiscarded (d : Dev) (pg : Nat) : Dev :=
  let h := halfAt pg
  let i := idxAt pg
  match typeAt pg with
  | some .mac => d.portDown (2 * i + h.num)
  | some .pcs => d.portDown (2 * i + h.num)
  | some .swc => d.each 5 fun j e => e.flushPort h j
  | some .swt => d.each 5 fun j e => e.flushPort h j
  | some .lgt => gateStopped h d
  | some .trs => trsFlushed h d
  | some .slv => (d.linkGone (2 * h.num)).linkGone (2 * h.num + 1)
  | some .gnf => gnssStopped d
  | some .gna => gnssStopped d
  | some .gnt => gnssStopped d
  | some .gns => (gnssStopped d).p gnsPg Reg.GNS.SNSTAT_STATE 0
  | some .hdm => d.each 8 fun q e => e.pb (pageAddr .hdm .warp 0 + 0x100 + 0x40 * q) Reg.HDM.QSTAT_BUSY true
  | _ => d

/-- BCTRL.GO (R465). -/
def bistGo (h : Half) (scrap : Bool) (d : Dev) : Dev :=
  let b := bstPg h
  let why := d.bstRefusal h scrap
  if why ≠ 0 then (d.p b Reg.BST.BSTAT_REFUSE why).raise b 1
  else
    match d.bstTarget h with
    | none => d
    | some pg =>
      let d1 := (d.workDiscarded pg).setPage pg { (d.workDiscarded pg).page pg with isolated := true }
      let d2 := (((d1.p b Reg.BST.BSTAT_STATE 1).p b Reg.BST.BSTAT_REFUSE 0).p b Reg.BST.BSTAT_RESULT 0).p b Reg.BST.BSTAT_NFAIL 0
      let run : BistRun :=
        { page := pg, start := d.now
          mode := if d.g b Reg.BST.BTARGET_MODE = 0 then 3 else d.g b Reg.BST.BTARGET_MODE
          repair := d.gb b Reg.BST.BTARGET_REPAIR, save := d.gb b Reg.BST.BTARGET_SAVE }
      { d2 with bist := some run }

/-- The rows of a page that a repair maps, with those already mapped: at most two to a memory instance (R468). -/
def repairFits (have_ rows : List (Nat × Nat)) : Bool :=
  rows.all fun r => decide (((have_ ++ rows).filter fun x => x.1 == r.1).length ≤ 2)

/-- The page after its test (R435, R465): reinitialised, its tables zero, answering again. -/
def Dev.testLeft (d : Dev) (pg : Nat) : Dev :=
  let d1 := (d.tested pg).tablesLost pg
  match typeAt pg with
  | some .hdm => d1.each 8 fun q e => e.pb (pageAddr .hdm .warp 0 + 0x100 + 0x40 * q) Reg.HDM.QSTAT_BUSY false
  | _ => d1

/-- The record of the failure of a test (R467). [DESIGN CHOICE log 45] -/
def testRecord (pg : Nat) (s : BistSeen) : FaultRec :=
  let shared := match typeAt pg with | some p => !(pageRow p).perHalf | none => true
  let code := if s.logic && s.fails = 0 then (if shared then 4 else 3) else (if s.code = 2 || s.code = 3 then s.code else 4)
  let unit := if s.logic && s.fails = 0 then 0xFF else s.unit
  { page := pg, unit := unit, code := code, cls := faultClass pg code }

/-- The failure of a test recorded (R467). [DESIGN CHOICE log 46] -/
def Dev.testFault (d : Dev) (pg : Nat) (s : BistSeen) : Dev := d.faultRaised (testRecord pg s)

/-- BST_DONE (R466 to R468): the result of the test in progress; a passed page answers again. -/
def bistDone (s : BistSeen) (d : Dev) : Dev :=
  match d.bist with
  | none => d
  | some r =>
    let h := halfAt r.page
    let b := bstPg h
    let mem := r.mode != 2 && decide (0 < s.fails)
    let logic := r.mode != 1 && s.logic
    let fixed := mem && r.repair && repairFits (tget [] d.repairs r.page) s.rows
    let mended := fixed && s.second && !logic
    let fail := (mem || logic) && !mended
    let seen := if fixed && s.second then { s with fails := 0 } else s
    let d0 := if fixed then
        { (d.p b Reg.BST.SPARES_USED (min 255 (d.g b Reg.BST.SPARES_USED + s.rows.length))) with
          repairs := tset [] d.repairs r.page (tget [] d.repairs r.page ++ s.rows) }
      else if mem && r.repair then d.incSat b Reg.BST.SPARES_EXHAUSTED else d
    let d1 := if mem then
        ((((d0.p b Reg.BST.FAIL0_MEM s.mem).p b Reg.BST.FAIL0_BIT s.bit).p b Reg.BST.FAIL1 s.addr).p b Reg.BST.BSTAT_NFAIL
          (min 65535 s.fails))
      else d0
    let d2 := (((({ d1 with bist := none }.p b Reg.BST.BSTAT_STATE 2).p b Reg.BST.BSTAT_RESULT
      (if mended then 1 else if fail then 2 else 0)).p b Reg.BST.TTIME s.us).raise b 0)
    if fail then
      let d3 := d2.testFault r.page seen
      { d3 with unitsOut := tset [] d3.unitsOut r.page [0xFF] }
    else
      let d3 := if mended then d2.faultRaised { page := r.page, unit := s.unit, code := 1, cls := 0 } else d2
      (d3.testLeft r.page).setPage r.page { d3.page r.page with isolated := false }

/-- BCTRL.ABORT in a half's BST page (R470). -/
def bistAborted (h : Half) (d : Dev) : Dev :=
  match d.bist with
  | none => d
  | some r => if halfAt r.page == h then (d.bistEnd 3).testLeft r.page else d

/-- The repairs to save in the journal after a test (R468): those of its page, where SAVE was set and they were made. -/
def repairsSaved (before after : Dev) (t : Tab (List (Nat × Nat))) : Tab (List (Nat × Nat)) :=
  match before.bist with
  | none => t
  | some r => if r.save then tset [] t r.page (tget [] after.repairs r.page) else t

end Sys2Proof.Machine
end

