-- ==== Sys2Proof/Machine/Power.lean ====
section
/-! DEFINITION. Power states of the pages (R433 to R437), the core rails (R438 to R440), the Kettle island (R441 to R446), and
the scrubber and the flash (R447, R449). -/

namespace Sys2Proof.Machine

/-! ### Block power states -/

/-- The deepest state that a tolerance permits (R433). -/
def depthOf (tol : Nat) : Nat := if 20000 ≤ tol then 3 else if 200 ≤ tol then 2 else if 2 ≤ tol then 1 else 0

/-- The dwell of a state in device ticks (R434). -/
def dwellOf (s : Nat) : Nat := match s with | 0 => 0 | 1 => 250 | 2 => 25000 | _ => 2500000

/-- Any port or Selvedge link of a half is up (R437). -/
def Dev.anyUp (d : Dev) (h : Half) : Bool :=
  ((List.range 4).any fun i => d.portUp (2 * i + h.num)) || ((List.range 2).any fun i => d.linkUp_ (2 * h.num + i))

/-- The deepest state of a page (R437). [DEDUCED log 187] -/
def Dev.floorOf (d : Dev) (pg : Nat) : Nat :=
  match typeAt pg with
  | none => 0
  | some p =>
    if [Page.sys, .evc, .mbx, .pmu, .ktl, .flt, .lcs, .hld, .bnd, .cad, .att].contains p then 0
    else if [Page.swc, .swt, .trs, .grt, .rlt, .red, .slv].contains p then (if d.anyUp (halfAt pg) then 1 else 3)
    else if [Page.aeg, .hdm].contains p then 2
    else 3

/-- A capture point feeds a block other than the host (R100): the half-skew check, an enabled reference, the monitor of an
enabled output, a port, a link, a band, or the synthesis loops. -/
def Dev.capFeeds (d : Dev) (h : Half) (cp : Nat) : Bool :=
  decide (72 ≤ cp && cp ≤ 77) ||
  ((List.range 30).any fun c => candCp c == some cp && d.en (refPg h c) (refQ h c) Reg.REF.CTRL_EN) ||
  (match outOfCp cp with
   | some o => o.1 == h && d.en (outPg o.1 o.2.1) (outO o.1 o.2.1 o.2.2) Reg.OUT.CFG_EN && d.gb (outO o.1 o.2.1 o.2.2) Reg.OUT.CFG_MON_EN
   | none => false) ||
  (decide (24 ≤ cp && cp < 40) && d.portMode ((cp - 24) % 8) != 0) ||
  (decide (64 ≤ cp && cp < 72) && d.gb (slvL ((cp - 64) / 2)) { off := 0, lo := 0, len := 1 }) ||
  (decide (20 ≤ cp && cp < 24) && d.bandOn (cp - 20))

/-- NTS or authentication is configured in a half that serves (R437, AEG). -/
def Dev.keysNeeded (d : Dev) (h : Half) : Bool :=
  d.serving h &&
    (((List.range 64).any fun a =>
        let e := d.svcEntry h a
        entBits e 7 31 1 == 1 && entBits e 6 24 1 == 1) ||
     ((List.range 16).any fun s =>
        d.gb (trsV h s) Reg.TRS.PCFG_EN && d.gb (trsV h s) Reg.TRS.AUTH_AUTH_EN))

/-- A page is kept in P0 (R433, R437): its condition holds, or it holds work. [DEDUCED log 187] -/
def Dev.awake (d : Dev) (pg : Nat) : Bool :=
  let h := halfAt pg
  let i := idxAt pg
  match typeAt pg with
  | some .tsu => true
  | some .apl => true
  | some .tta => (List.range 64).any fun e => d.ttaArmed h e
  | some .dpl => (List.range 4).any fun k => d.en (dplPg h (4 * i + k)) (dplL h (4 * i + k)) Reg.DPL.CTRL_EN
  | some .sel => (List.range 16).any fun n => d.w (selS h n + 4) != 0
  | some .out => (outputs.filter fun x => x.1 == i).any fun x => d.en pg (outO h x.1 x.2) Reg.OUT.CFG_EN
  | some .ref => (List.range 8).any fun j => 8 * i + j < 30 && d.en pg (refQ h (8 * i + j)) Reg.REF.CTRL_EN
  | some .tdc => (List.range 16).any fun j => d.capFeeds h (16 * i + j)
  | some .lgt => ((List.range 4).any fun j => d.portUp (2 * j + h.num) || !(d.gate (2 * j + h.num)).held.isEmpty)
  | some .mac => d.portMode (2 * i + h.num) != 0
  | some .pcs => d.portMode (2 * i + h.num) != 0
  | some .aeg => d.keysNeeded h
  | some .swc => !(d.plane h).frames.isEmpty
  | some .swt => !(d.plane h).frames.isEmpty
  | some .trs => !(d.rsp h).reqs.isEmpty
  | some .hdm => (List.range 16).any fun q =>
      let b := pageAddr .hdm .warp 0 + 0x100 + 0x40 * q
      d.gb b Reg.HDM.QCFG_EN && !(d.gb b Reg.HDM.QSTAT_STOPPED) && d.g b Reg.HDM.PROD != d.g b Reg.HDM.CONS
  | some .gnf => (List.range 4).any d.bandOn
  | some .gna => !d.acq.queue.isEmpty || d.acq.run.isSome
  | some .gnt => (List.range 32).any fun j => d.chState (32 * i + j) != 0
  | some .gns => d.g gnsPg Reg.GNS.SNSTAT_STATE != 0
  | some .prf => (d.prf.of h).busy.isSome
  | some .bst => d.bist.isSome
  | _ => false

/-- LTOL.TOL of a page. -/
def Dev.tol (d : Dev) (pg : Nat) : Nat := d.w (pg + 0x10) % 2 ^ 16

/-- The power state set; leaving P3 reinitialises the block (R435). -/
def Dev.toPstate (d : Dev) (pg s : Nat) : Dev :=
  let p := d.page pg
  let d1 := d.setPage pg { p with pstate := s, idleSince := if s = 0 then d.now else p.idleSince }
  if p.pstate = 3 ∧ s ≠ 3 then (d1.softReset pg).tablesLost pg else d1

/-- The state that a page idle for a time in device ticks enters (R433, R434, R437). [DESIGN CHOICE log 186] -/
def Dev.restState (d : Dev) (pg idle : Nat) : Nat :=
  let cap := min (depthOf (d.tol pg)) (d.floorOf pg)
  if d.awake pg then 0
  else if 3 ≤ cap && decide (dwellOf 3 ≤ idle) then 3
  else if 2 ≤ cap && decide (dwellOf 2 ≤ idle) then 2
  else if 1 ≤ cap && decide (dwellOf 1 ≤ idle) then 1
  else 0

/-- POWER_STATE_ENTRY (R434): a page has been idle for a time without a break; it goes no less deep than it is.
[DESIGN CHOICE log 186] -/
def powerEntered (pg idle : Nat) (d : Dev) : Dev :=
  let s := d.restState pg (min idle (d.now - (d.page pg).idleSince))
  if (d.page pg).pstate < s then d.toPstate pg s else d

/-- BLOCK_WAKE (R436): work reaches a page that is not in P0. -/
def blockWoken (pg : Nat) (d : Dev) : Dev := if (d.page pg).pstate = 0 then d else d.toPstate pg 0

/-- LTOL written (R434): a page deeper than the new tolerance allows wakes at once to the state that it permits. -/
def ltolWritten (pg v : Nat) (d : Dev) : Dev :=
  let d1 := d.setw (pg + 0x10) (v % 2 ^ 16)
  let s := min (depthOf (d1.tol pg)) (d1.floorOf pg)
  if s < (d1.page pg).pstate then d1.toPstate pg s else d1

/-! ### Core rails (R438 to R440, R450) -/

/-- The PMU page of a half. -/
def pmuPg (h : Half) : Nat := pageAddr .pmu h 0

/-- VMIN and VMAX with their limits. -/
def Dev.vmin (d : Dev) (h : Half) : Nat := clampNat 600 800 (d.g (pmuPg h) Reg.PMU.VLIM_VMIN)

/-- VMAX. -/
def Dev.vmax (d : Dev) (h : Half) : Nat := clampNat (d.vmin h) 800 (d.g (pmuPg h) Reg.PMU.VLIM_VMAX)

/-- The target of PACE (R439). -/
def Dev.paceTarget (d : Dev) (h : Half) : Nat := 1000 * (100 + min 50 (d.g (pmuPg h) Reg.PMU.PACE)) / 100

/-- A command sent on the AVSBus to the rail of AVSCFG.RAIL (R438, R440): the third in a row without a valid response is AVS_FAIL and a C1 fault, after which
nothing more is sent until MODE is written. -/
def Dev.avsSend (d : Dev) (h : Half) (mv : Nat) (answered : Bool) : Dev :=
  let a := d.avs.of h
  if a.halt then d
  else if answered then { d with avs := d.avs.put h { a with miss := 0, cmd := some (d.g (pmuPg h) Reg.PMU.AVSCFG_RAIL, mv) } }
  else
    let d1 := { d with avs := d.avs.put h { a with
      miss := a.miss + 1, cmd := some (d.g (pmuPg h) Reg.PMU.AVSCFG_RAIL, mv), halt := decide (3 ≤ a.miss + 1) } }
    if 3 ≤ a.miss + 1 then
      ((d1.pb (pmuPg h) Reg.PMU.AVSSTAT_FAIL true).raise (pmuPg h) 1).unitFault (pmuPg h) 0xFF
    else d1

/-- The voltage that a reading commands in AUTO, if any (R439). [DEDUCED log 188] -/
def Dev.avsWant (d : Dev) (h : Half) (pace v high : Nat) : Option Nat :=
  if pace < 1000 && v < d.vmax h then some (min (v + 20) (d.vmax h))
  else if pace < d.paceTarget h && v < d.vmax h then some (min (v + 5) (d.vmax h))
  else if 100 ≤ high && d.vmin h < v then some (max (v - 5) (d.vmin h))
  else none

/-- AVS_READING (R439, R440): PACE and the rail voltage as read, with whether a command then sent draws a valid response.
[DEDUCED log 188] -/
def avsRead (h : Half) (pace vread : Nat) (answered : Bool) (d : Dev) : Dev :=
  let b := pmuPg h
  let a := d.avs.of h
  let high := if d.paceTarget h + 50 ≤ pace then a.high + 1 else 0
  let atMax := decide (d.vmax h ≤ vread)
  let low := if pace < 1000 && atMax then a.low + 1 else 0
  let auto := d.g b Reg.PMU.AVSCFG_MODE = 2
  let want := if auto then d.avsWant h pace vread high else none
  let d1 := ((d.p b Reg.PMU.AVSSTAT_PACE (min pace 4095)).p b Reg.PMU.AVSSTAT_VREAD vread).pb b Reg.PMU.AVSSTAT_AT_VMAX atMax
  let d2 := { d1 with avs := d1.avs.put h { a with high := if want.isSome then 0 else high, low := low } }
  let d3 := d2.raiseIf (low == 10) b 0
  match want with
  | none => d3
  | some mv => d3.avsSend h mv answered

/-- VSET written (R439, R450): in FIXED it is sent. [DEDUCED log 26] -/
def vsetWritten (h : Half) (v : Nat) (answered : Bool) (d : Dev) : Dev :=
  let d1 := d.p (pmuPg h) Reg.PMU.VSET v
  if d.g (pmuPg h) Reg.PMU.AVSCFG_MODE = 1 then
    d1.avsSend h (clampNat (d.vmin h) (d.vmax h) (v % 2 ^ 16)) answered
  else d1

/-- AVSCFG written: a write of MODE ends AVS_FAIL (R440). [DEDUCED log 188] -/
def avscfgWritten (h : Half) (v : Nat) (d : Dev) : Dev :=
  let a := pmuPg h + 0x100
  let d1 := (d.setw a (mergeWrite a (d.w a) v)).pb (pmuPg h) Reg.PMU.AVSSTAT_FAIL false
  { d1 with avs := d1.avs.put h { d1.avs.of h with halt := false, miss := 0 } }

/-! ### Kettle (R441 to R446) -/

/-- The KTL page. -/
def ktlPg : Nat := pageAddr .ktl .warp 0

/-- KFOFS as a signed number. -/
def Dev.kfofs (d : Dev) : Int := signedOf 32 (d.g ktlPg Reg.KTL.KFOFS)

/-- KTIME in 2^-32 s (R442): it advances at each crystal edge while the crystal runs.
[DESIGN CHOICE log 185; DEDUCED log 190] -/
def Dev.ktime (d : Dev) : Nat :=
  let k := d.kettle
  if d.gb ktlPg Reg.KTL.KSTAT_XO_OK then
    let edges := (d.now - k.at_) * 32768 / ticks1s
    k.base + (((edges * 131072 : Nat) : Int) * (10 ^ 12 - d.kfofs) / 10 ^ 12).toNat
  else k.base

/-- A count in 2^-64 ns as KTIME has it. -/
def kettleOf (count : Nat) : Nat := count * 2 ^ 32 / secUnit

/-- KETTLE_TRANSFER (R442): while the half that leads serves with a finite TB0 bound, KTIME takes its count at a crystal edge,
KFOFS the crystal's offset as measured, and KB0 the published bound. [DEDUCED log 190] -/
def kettleTransferred (kfofs : Int) (d : Dev) : Dev :=
  let h := d.lead
  if !(d.serving h) || d.published h 0 = unbounded then d
  else
    let d1 := (((d.p ktlPg Reg.KTL.KFOFS (unsignedOf 32 kfofs)).p ktlPg Reg.KTL.KB0 (d.published h 0)).pb ktlPg
      Reg.KTL.KSTAT_KVALID true).pb ktlPg Reg.KTL.KSTAT_XO_OK true
    { d1 with kettle := { d.kettle with base := kettleOf (d.count h 0), at_ := d.now, xferAt := some d.now } }

/-- KBOUND (R443), with τ from the last transfer in device ticks. -/
def kbound (kb0 y ageing ticks : Nat) : Nat :=
  min 0xFFFFFFFF (ceilDiv kb0 1000 + 10 + ceilDiv (y * ticks) ticks1s +
    ceilDiv (ageing * ticks * ticks) (172800000 * (ticks1s * ticks1s)))

/-- KETTLE_BOUND_UPDATE (R443). [DESIGN CHOICE log 185] -/
def kettleBounded (d : Dev) : Dev :=
  let y := d.g ktlPg Reg.KTL.KXO_Y
  let kb0 := d.g ktlPg Reg.KTL.KB0
  d.p ktlPg Reg.KTL.KBOUND
    (if !(d.gb ktlPg Reg.KTL.KSTAT_KVALID) || y = 0xFFFF || kb0 = 0xFFFFFFFF then 0xFFFFFFFF
     else kbound kb0 y (d.g ktlPg Reg.KTL.KXO_D) (d.now - d.kettle.xferAt.getD 0))

/-- KTL_XO_FAIL (R442): no crystal edge for 1 ms. -/
def crystalFailed (d : Dev) : Dev :=
  let d1 := { d with kettle := { d.kettle with base := d.ktime, at_ := d.now } }
  ((d1.pb ktlPg Reg.KTL.KSTAT_XO_OK false).pb ktlPg Reg.KTL.KSTAT_KVALID false).raise ktlPg 0

/-- A session closes (R475). -/
def sessionClosed (d : Dev) : Dev :=
  if !d.lcs.session then d
  else
    [Half.warp, Half.weft].foldl (fun (e : Dev) h =>
      (e.pb (pageAddr .lcs h 0) Reg.LCS.LSTATE_SESSION false).raise (pageAddr .lcs h 0) 0)
      { d with lcs := { d.lcs with session := false } }

/-- The holdover model's words of the half that leads (R167). -/
def Dev.modelWords (d : Dev) : List Word :=
  (0x118 :: modelOffsets).map fun o => d.word (hldPg d.lead + o)

/-- MODEL_SAVE (R167). [DEDUCED log 120] -/
def modelSaved (w : FlashEnd) (d : Dev) (nv : NV) : NV := if nv.takes w then { nv with model := some d.modelWords } else nv

/-- The C1 fault of the flash (R16, R449). [DEDUCED log 238] -/
def Dev.flashFault (d : Dev) : Dev := d.unitFault (mbxPg d.lead.num) 0xFF

/-- The fault that a journal write leaves which the flash fails (R16). [DEDUCED log 238] -/
def Dev.wroteFlash (d : Dev) (w : FlashEnd) : Dev := if w = .failed then d.flashFault else d

/-- The check of KETTLE_SLEEP (R444). -/
def sleepAnswer (b : Nat) (saved : Bool) (c : FwCmd) (d : Dev) : FwResult :=
  if c.len ≠ 1 then { dev := d, code := codeBadLen }
  else if d.wrongHalf b then { dev := d, code := codeNotPermitted }
  else if (c.req[0]?.getD 0).toNat ≠ 0x534C4550 then { dev := d, code := codeBadArg }
  else { dev := d, code := if saved then codeOK else codeFlashError }

/-- A mailbox's waiting KETTLE_SLEEP enters Kettle-only. -/
def Dev.sleeps (d : Dev) (b : Nat) : Bool :=
  match (d.mb b).waiting 0x160 with
  | none => false
  | some c => d.coresRun (mbxHalf b) && c.len == 1 && !(d.wrongHalf b) && (c.req[0]?.getD 0).toNat == 0x534C4550

/-- KETTLE_SLEEP (R444): the command completes after the journal writes and a final transfer, and both halves enter safe state.
[DESIGN CHOICE log 189] -/
def kettleSlept (b : Nat) (saved : Bool) (kfofs : Int) (d : Dev) : Dev :=
  let d1 := d.mbxCommit b 0x160 (sleepAnswer b saved)
  if !(d.sleeps b) then d1
  else
    let d2 := sessionClosed (safeOnCommand (mbxFinished b (kettleTransferred kfofs d1)))
    { d2 with kettle := { d2.kettle with phase := 1, since := d2.now, wake := false } }

/-- CORE_EN_RELEASE (R444): 10 ms after both halves have entered safe state. -/
def coreEnReleased (d : Dev) : Dev :=
  if d.kettle.phase = 1 ∧ d.kettle.since + 2500000 ≤ d.now then
    { d with kettle := { d.kettle with phase := 2, since := d.now, coreEn := false } }
  else d

/-- A wake condition of Kettle holds (R446): KWAKE_N held low for 100 µs, or the alarm; its WAKE_CAUSE.
[DEDUCED log 191] -/
def Dev.wakeCause (d : Dev) (pin : Bool) : Option Nat :=
  if pin then some 1
  else if d.gb ktlPg Reg.KTL.KCTRL && decide (d.g2 ktlPg Reg.KTL.ALARM_LO Reg.KTL.ALARM_HI * 2 ^ 32 ≤ d.ktime) then some 2
  else none

/-- What the chip holds after its rails have been off: Kettle, and the model's own clock and draws. -/
def Dev.unpowered (d : Dev) : Dev :=
  { now := d.now, free := d.free, kettle := d.kettle, tap := {}, scrub := ⟨{ since := d.now }, { since := d.now }⟩
    regs := d.regs.filter fun (e : Nat × Word) => pageBase e.1 == ktlPg && decide (0x100 ≤ pageOff e.1) }

/-- KETTLE_WAKE (R446): during entry the condition waits; in Kettle-only, CORE_EN asserts once it has been released for 10 ms,
and the chip starts as after power-on. [DEDUCED log 191] -/
def kettleWoken (pin : Bool) (d : Dev) : Dev :=
  let k := d.kettle
  let cause := if k.wake then some 3 else d.wakeCause pin
  match cause with
  | none => d
  | some c =>
    if k.phase = 1 || (k.phase = 2 && decide (d.now < k.since + 2500000)) then { d with kettle := { k with wake := true } }
    else if k.phase = 2 then
      let d1 := { d with kettle := { k with phase := 0, coreEn := true, wake := false } }
      (d1.unpowered.p ktlPg Reg.KTL.KSTAT_WAKE_CAUSE c).p sysPg Reg.SYS.START_STAT_CAUSE 1
    else d

/-- CORE_EN_ASSERT (R496): 10 ms after VAON is in range. -/
def coreEnAsserted (d : Dev) : Dev :=
  if d.kettle.phase = 3 ∧ d.kettle.since + 2500000 ≤ d.now then
    { d with kettle := { d.kettle with phase := 0, coreEn := true } }.p ktlPg Reg.KTL.KSTAT_WAKE_CAUSE 0
  else d

/-- VAON_LOSS (R441): Kettle's contents are lost; VAON is in range again from now. [DEDUCED log 192] -/
def vaonLost (d : Dev) : Dev :=
  { d with
    kettle := { phase := 3, since := d.now, coreEn := false }
    regs := d.regs.filter fun (e : Nat × Word) => !(pageBase e.1 == ktlPg && decide (0x100 ≤ pageOff e.1)) }

/-- Kettle's log takes a tamper event (R390, R391, R451): the first eight are kept; TAMPER_SEEN is set. -/
def Dev.kettleLogged (d : Dev) (src : Nat) : Dev :=
  let n := d.g ktlPg Reg.KTL.KSTAT_LOGN
  let d1 := d.pb ktlPg Reg.KTL.KSTAT_TAMPER_SEEN true
  if 8 ≤ n then d1.pb ktlPg Reg.KTL.KSTAT_LOGOVF true
  else
    let k := ktlPg + 0x140 + 0x10 * n
    let sec := d.ktime / 2 ^ 32
    (((((d1.p k Reg.KTL.LOG_SRC_SRC src).pb k Reg.KTL.LOG_SRC_VALID true).p k Reg.KTL.LOG_SEC_LO sec).p k Reg.KTL.LOG_SEC_HI
      (sec / 2 ^ 32)).pb k Reg.KTL.LOG_KVALID (d.gb ktlPg Reg.KTL.KSTAT_KVALID)).p ktlPg Reg.KTL.KSTAT_LOGN (n + 1)

/-- TAMPER (R390, R391): source 0 to 4. While the chip runs, Kettle logs and the halves act; before KEYS_READY the slots stay
empty; in Kettle-only, only Kettle logs. -/
def tampered (src : Nat) (d : Dev) : Dev :=
  let bit := 2 ^ (src % 5)
  let d1 := d.kettleLogged bit
  if d.kettle.phase = 2 then d1
  else if d.gb (cadPg .warp) Reg.CAD.CSTAT_KEYS_READY || d.gb (cadPg .weft) Reg.CAD.CSTAT_KEYS_READY then d1.tamperRun (src % 5)
  else d1.tamperStart (some (src % 5))

/-! ### Scrubbing and flash (R447, R449) -/

/-- A page whose memories the scrubber of a half reads: the half's own, and the shared ones from Warp (R447). -/
def scrubs (h : Half) (pg : Nat) : Bool :=
  match typeAt pg with
  | some p => if (pageRow p).perHalf then halfAt pg == h else h == .warp
  | none => false

/-- A pass of a half's scrubber has run for its PERIOD (R447). [DEDUCED log 276] -/
def Dev.scrubDue (d : Dev) (h : Half) : Bool :=
  let s := d.scrub.of h
  decide (s.since + s.period * 3600 * ticks1s ≤ d.now)

/-- SCRUB_PASS (R447): a pass of a half's scrubber ends, with the words it corrected as page and unit: each a C0 event. Blocks
in P3 are skipped, those in P2 have been woken for it, and the next pass takes PERIOD as it stands.
[DEDUCED log 276] -/
def scrubbed (h : Half) (fixed : List (Nat × Nat)) (d : Dev) : Dev :=
  if !(d.scrubDue h) then d
  else
    let low := d.pages.filter fun (e : Nat × PageSt) => e.2.pstate == 2 && scrubs h e.1
    let d1 := low.foldl (fun (e : Dev) (x : Nat × PageSt) => e.toPstate x.1 0) d
    let found := fixed.filter fun x => scrubs h x.1 && (d.page (pageBase x.1)).pstate != 3
    let d2 := found.foldl (fun (e : Dev) x => faultDetected x.1 x.2 1 e) (d1.inc (pmuPg h) Reg.PMU.SCRUB_PASSES)
    { d2 with scrub := d2.scrub.put h { since := d.now, period := max 1 (d.g (pmuPg h) Reg.PMU.SCRUB_PERIOD) } }

/-- A block that is retired at the end of an erase (R449). [DESIGN CHOICE log 16] -/
def NV.retires (nv : NV) (block : Nat) (verified : Bool) : Bool :=
  (!verified || decide (100000 ≤ tget 0 nv.erases block + 1)) && !(nv.retired.contains block)

/-- A retirement that finds no spare left (R449). -/
def NV.exhausted (nv : NV) (block : Nat) (verified : Bool) : Bool :=
  nv.retires block verified && decide (Config.spareBlocks ≤ nv.retired.length)

/-- FLASH_ERASE_DONE in the journal (R449): with no spare left the flash has failed (R16). -/
def flashErasedNV (block : Nat) (verified : Bool) (nv : NV) : NV :=
  { nv with
    erases := tset 0 nv.erases block (tget 0 nv.erases block + 1)
    retired := if nv.retires block verified then block :: nv.retired else nv.retired
    flashFailed := nv.flashFailed || nv.exhausted block verified }

/-- FLASH_ERASE_DONE: a retirement with no spare left is a C1 fault. [DESIGN CHOICE log 144] -/
def flashErased (block : Nat) (verified : Bool) (nv : NV) (d : Dev) : Dev :=
  if nv.exhausted block verified then d.flashFault else d

/-- FLASH_STAT (R449). -/
def flashStat (nv : NV) (c : FwCmd) (d : Dev) : FwResult :=
  if c.len ≠ 0 then { dev := d, code := codeBadLen }
  else
    let top := nv.erases.foldl (fun (m : Nat) (e : Nat × Nat) => max m e.2) 0
    { dev := d, code := codeOK
      rsp := [BitVec.ofNat 32 top, BitVec.ofNat 32 nv.retired.length, BitVec.ofNat 32 (Config.spareBlocks - nv.retired.length)] }

end Sys2Proof.Machine
end

