-- ==== Sys2Proof/Machine/Lifecycle.lean ====
section
/-! DEFINITION. The lifecycle controller and reopened access (R473 to R479), and the TAP (R471, R472). -/

namespace Sys2Proof.Machine

/-- The LCS page of a half. -/
def lcsPg (h : Half) : Nat := pageAddr .lcs h 0

/-- SCRAP (R473). -/
def NV.scrap (nv : NV) : Bool := nv.lifecycle == 5

/-- What fuses show in the LCS pages of both halves (R473, R482). -/
def Dev.lcsShow (d : Dev) (nv : NV) : Dev :=
  [Half.warp, Half.weft].foldl (fun (e : Dev) h =>
    let e1 := (e.p (lcsPg h) Reg.LCS.LSTATE_STATE nv.lifecycle).pb (lcsPg h) Reg.LCS.LSTATE_OWNER_SET nv.owner.isSome
    match nv.owner with
    | none => e1
    | some o => (List.range 8).foldl (fun (x : Dev) i => x.setw (lcsPg h + 0x110 + 4 * i) (beAt o.2 (4 * i) 4)) e1) d

/-- LSTATE as a response gives it. -/
def Dev.lstateWord (d : Dev) (h : Half) : Word :=
  BitVec.ofNat 32 (setBits (d.w (lcsPg h + 0x100)) 6 1 (d.g (cadPg h) Reg.CAD.CSTAT_TAMPER_LOCK))

/-- A mailbox's waiting command of an opcode, where its firmware runs. -/
def Dev.firstCmd (d : Dev) (b op : Nat) : Option FwCmd := if d.coresRun (mbxHalf b) then (d.mb b).waiting op else none

/-- The code of a lifecycle command (R474): its LEN, its half, the state, and its confirmation word, in this order.
[DEDUCED log 193] -/
def lcsCode (d : Dev) (b len : Nat) (allowed : Bool) (confirm : Option Nat) (c : FwCmd) : Nat :=
  if c.len ≠ len then codeBadLen
  else if d.wrongHalf b || !allowed then codeNotPermitted
  else match confirm with
    | none => codeOK
    | some w => if (c.req[0]?.getD 0).toNat = w then codeOK else codeBadArg

/-- LCS_OWN_SET is permitted: OWNED, once. -/
def NV.mayOwn (nv : NV) : Bool := nv.lifecycle == 2 && nv.owner.isNone

/-- LCS_FIELD is permitted: OWNED, after LCS_OWN_SET. -/
def NV.mayField (nv : NV) : Bool := nv.lifecycle == 2 && nv.owner.isSome

/-- The fuses after LCS_OWN_SET. -/
def ownSetNV (b : Nat) (d : Dev) (nv : NV) : NV :=
  match d.firstCmd b 0x601 with
  | none => nv
  | some c =>
    if lcsCode d b 16 nv.mayOwn none c = codeOK then
      { nv with owner := some (bytesOfWords ((c.req ++ List.replicate 16 0).take 8), bytesOfWords (((c.req ++ List.replicate 16 0).drop 8).take 8)) }
    else nv

/-- LCS_OWN_SET (R474). -/
def ownSet (b : Nat) (nv : NV) (d : Dev) : Dev :=
  d.mbxCommit b 0x601 fun c e => { dev := e.lcsShow (ownSetNV b d nv), code := lcsCode d b 16 nv.mayOwn none c }

/-- The fuses after LCS_FIELD. -/
def fieldNV (b : Nat) (d : Dev) (nv : NV) : NV :=
  match d.firstCmd b 0x602 with
  | none => nv
  | some c => if lcsCode d b 1 nv.mayField (some 0x4649454C) c = codeOK then { nv with lifecycle := 3 } else nv

/-- LCS_FIELD (R474). -/
def fieldEntered (b : Nat) (nv : NV) (d : Dev) : Dev :=
  d.mbxCommit b 0x602 fun c e =>
    { dev := e.lcsShow (fieldNV b d nv), code := lcsCode d b 1 nv.mayField (some 0x4649454C) c }

/-- LCS_SCRAP is carried out. -/
def scrapped (b : Nat) (d : Dev) (nv : NV) : Bool :=
  match d.firstCmd b 0x603 with
  | none => false
  | some c => lcsCode d b 1 (!nv.scrap) (some 0x53435250) c == codeOK

/-- LCS_SCRAP (R474): every slot is zeroised, the group blown, and both halves enter safe state without a record.
[DEDUCED log 195] -/
def scrapEntered (b : Nat) (nv : NV) (d : Dev) : Dev :=
  let ok := scrapped b d nv
  let d1 := d.mbxCommit b 0x603 fun c e =>
    { dev := if ok then (zeroAsked 0 255 false e).lcsShow { nv with lifecycle := 5 } else e
      code := lcsCode d b 1 (!nv.scrap) (some 0x53435250) c }
  if ok then safeOnCommand (mbxFinished b d1) else d1

/-! ### Reopened access (R475 to R479) -/

/-- A failed response or password (R478). -/
def Dev.authFail (d : Dev) : Dev :=
  [Half.warp, Half.weft].foldl (fun (e : Dev) h =>
    let n := min 15 (e.g (lcsPg h) Reg.LCS.LSTATE_FAILS + 1)
    ((e.p (lcsPg h) Reg.LCS.LSTATE_FAILS n).pb (lcsPg h) Reg.LCS.LSTATE_LOCKOUT
      (e.gb (lcsPg h) Reg.LCS.LSTATE_LOCKOUT || decide (8 ≤ n))).raise (lcsPg h) 1) d

/-- LOCKOUT. -/
def Dev.lockout (d : Dev) : Bool := d.gb (lcsPg .warp) Reg.LCS.LSTATE_LOCKOUT || d.gb (lcsPg .weft) Reg.LCS.LSTATE_LOCKOUT

/-- A session opens (R475). -/
def sessionOpened (d : Dev) : Dev :=
  [Half.warp, Half.weft].foldl (fun (e : Dev) h => (e.pb (lcsPg h) Reg.LCS.LSTATE_SESSION true).raise (lcsPg h) 0)
    { d with lcs := { d.lcs with session := true } }

/-- The outstanding challenge is void (R478). -/
def challengeVoid (d : Dev) : Dev :=
  [Half.warp, Half.weft].foldl (fun (e : Dev) h => e.pb (lcsPg h) Reg.LCS.LSTATE_CHAL_OUT false)
    { d with lcs := { d.lcs with chal := none } }

/-- LCS_PASSWORD (R476): permitted in FIELD; one attempt a second. [DEDUCED log 193] -/
def passwordGiven (b : Nat) (nv : NV) (c : FwCmd) (d : Dev) : FwResult :=
  let soon := match d.lcs.pwdAt with | some t => decide (d.now < t + ticks1s) | none => false
  if c.len ≠ 8 then { dev := d, code := codeBadLen }
  else if nv.lifecycle ≠ 3 then { dev := d, code := codeNotPermitted }
  else if d.lockout || soon then { dev := d, code := codeBusy }
  else
    let d1 := { d with lcs := { d.lcs with pwdAt := some d.now } }
    if nv.owner.map (·.1) = some (Config.sha256 (bytesOfWords (c.req.take 8))) then
      let d2 := sessionOpened d1
      { dev := d2, code := codeOK, rsp := [d2.lstateWord (mbxHalf b)] }
    else { dev := d1.authFail, code := codeBadArg }

/-- A PURPOSE is permitted in a lifecycle state (R475). -/
def purposeOk (purpose state : Nat) : Bool :=
  (purpose == 1 && state == 3) || ((purpose == 2 || purpose == 3) && (state == 2 || state == 3))

/-- The 64 bytes of a challenge (R477). Its nonce, from the entropy source, is a free value.
[DESIGN CHOICE log 194] -/
def Dev.challenge (d : Dev) (purpose state boots cseq : Nat) : List Byte :=
  bytesBE 4 0x43484C31 ++ bytesBE 1 purpose ++ bytesBE 1 state ++ bytesBE 2 0 ++ deviceId ++ bytesBE 4 boots ++
    bytesBE 4 cseq ++ bytesBE 32 (d.freeNat 256 0)

/-- LCS_CHALLENGE (R477, R478): a new challenge voids the one outstanding. -/
def challengeIssued (nv : NV) (c : FwCmd) (d : Dev) : FwResult :=
  let purpose := (c.req[0]?.getD 0).toNat % 16
  if c.len ≠ 1 then { dev := d, code := codeBadLen }
  else if d.lockout then { dev := d, code := codeBusy }
  else if !(purposeOk purpose nv.lifecycle) then { dev := d, code := codeBadArg }
  else
    let bytes := d.challenge purpose nv.lifecycle nv.boots (d.lcs.cseq + 1)
    let d1 := d.drawn 1
    let d2 := { d1 with lcs := { d1.lcs with chal := some (bytes, purpose, d.now), cseq := d.lcs.cseq + 1 } }
    { dev := [Half.warp, Half.weft].foldl (fun (e : Dev) h => e.pb (lcsPg h) Reg.LCS.LSTATE_CHAL_OUT true) d2
      code := codeOK, rsp := wordsOfBytes bytes }

/-- A signature of the outstanding challenge holds for a signer that its PURPOSE permits (R475, R477). -/
def Dev.responseOk (d : Dev) (nv : NV) (c : FwCmd) : Option Nat :=
  match d.lcs.chal with
  | none => none
  | some (bytes, purpose, _) =>
    let vendor := bitAt (c.req[0]?.getD 0).toNat 0
    let sig := bytesOfWords ((c.req.drop 1).take 16)
    let key := if vendor then some Config.vendorKey else nv.owner.map (·.2)
    let allowed := purposeOk purpose nv.lifecycle && (match purpose with | 1 => !vendor | 2 => true | _ => vendor)
    match key with
    | none => none
    | some k => if allowed && Config.edVerify k bytes sig then some purpose else none

/-- TAMPER_CLEAR (R479). -/
def tamperCleared (d : Dev) : Dev :=
  let d1 := [Half.warp, Half.weft].foldl (fun (e : Dev) h =>
    (e.setw (cadPg h + 0x188) 0).pb (cadPg h) Reg.CAD.CSTAT_TAMPER_LOCK false) d
  let d2 := (((d1.pb ktlPg Reg.KTL.KSTAT_TAMPER_SEEN false).p ktlPg Reg.KTL.KSTAT_LOGN 0).pb ktlPg Reg.KTL.KSTAT_LOGOVF false)
  d2.each 32 fun i e => e.setw (ktlPg + 0x140 + 4 * i) 0

/-- RMA (R479): every slot is zeroised, persistent records included, then the group is blown, then LCS_STATE is raised.
[DEDUCED log 195] -/
def rmaEntered (nv : NV) (d : Dev) : Dev :=
  [Half.warp, Half.weft].foldl (fun (e : Dev) h => e.raise (lcsPg h) 2)
    ((zeroAsked 0 255 true d).lcsShow { nv with lifecycle := 4 })

/-- The response that a mailbox's firmware finds, as its PURPOSE, where it is accepted. -/
def acceptedPurpose (b : Nat) (d : Dev) (nv : NV) : Option Nat :=
  match d.firstCmd b 0x611 with
  | none => none
  | some c => if c.len ≠ 17 || d.lockout then none else d.responseOk nv c

/-- The fuses after LCS_RESPOND. -/
def respondNV (b : Nat) (d : Dev) (nv : NV) : NV :=
  if acceptedPurpose b d nv = some 3 then { nv with lifecycle := 4 } else nv

/-- LCS_RESPOND (R477 to R479): the challenge is void after it, and a good response has its effect.
[DEDUCED log 193] -/
def responded (b : Nat) (nv : NV) (c : FwCmd) (d : Dev) : FwResult :=
  if c.len ≠ 17 then { dev := d, code := codeBadLen }
  else if d.lockout then { dev := d, code := codeBusy }
  else
    match d.responseOk nv c with
    | none => { dev := challengeVoid d.authFail, code := codeBadArg }
    | some purpose =>
      let d1 := challengeVoid d
      let d2 := if purpose = 1 then sessionOpened d1 else if purpose = 2 then tamperCleared d1 else rmaEntered nv d1
      { dev := d2, code := codeOK, rsp := [d2.lstateWord (mbxHalf b)] }

/-- LCS_CLOSE (R475). -/
def sessionEnded (c : FwCmd) (d : Dev) : FwResult :=
  if c.len ≠ 0 then { dev := d, code := codeBadLen } else { dev := sessionClosed d, code := codeOK }

/-- CHALLENGE_EXPIRE (R478): 60 s after issue. -/
def challengeExpired (d : Dev) : Dev :=
  match d.lcs.chal with
  | none => d
  | some (_, _, t) => if d.now < t + 60 * ticks1s then d else challengeVoid d

/-! ### The TAP (R471, R472) -/

/-- The opcode BYPASS. -/
def tapBypass : Nat := 0xFF

/-- An instruction as it is decoded (R471 to R473, R475): in SCRAP only IDCODE and BYPASS; private ones as the lifecycle state
and a session permit. [DEDUCED log 196] -/
def tapDecode (nv : NV) (session : Bool) (op : Nat) : Nat :=
  if op = 1 then 1
  else if nv.scrap then tapBypass
  else if [0, 2, 4, 5, 8, 9].contains op then op
  else if 0x40 ≤ op ∧ op ≤ 0x7F then
    (if nv.lifecycle = 0 || nv.lifecycle = 1 || nv.lifecycle = 4 then op
     else if 0x60 ≤ op && (nv.lifecycle = 2 || (nv.lifecycle = 3 && session)) then op
     else tapBypass)
  else tapBypass

/-- The TAP answers: not in Kettle-only (R445). -/
def Dev.tapOn (d : Dev) : Bool := d.kettle.phase != 2

/-- An instruction that takes the pins is loaded (R472): a C3 fault, before the cells drive. [DESIGN CHOICE log 44] -/
def pinsTaken (nv : NV) (op : Nat) (d : Dev) : Dev :=
  if !d.tapOn then d
  else if tapDecode nv d.lcs.session op = op then
    { d.fault { page := sysPg, unit := 0xFF, code := 0xF, cls := 3 } with tap := { d.tap with ir := op, dr := d.tap.cells } }
  else { d with tap := { d.tap with ir := tapBypass, dr := 0 } }

/-- An instruction without effect on service is loaded: what its data register captures is given. -/
def tapLoaded (nv : NV) (op dr : Nat) (d : Dev) : Dev :=
  if !d.tapOn then d
  else if tapDecode nv d.lcs.session op = op ∧ op ≠ tapBypass then { d with tap := { d.tap with ir := op, dr := dr } }
  else { d with tap := { d.tap with ir := tapBypass, dr := 0 } }

/-- SAMPLE/PRELOAD: the cells capture the pins and take what is shifted in. -/
def tapSampled (nv : NV) (pins preload : Nat) (d : Dev) : Dev :=
  let d1 := tapLoaded nv 2 pins d
  if d1.tapOn && d1.tap.ir == 2 then { d1 with tap := { d1.tap with cells := preload } } else d1

/-- TRST_N (R507): the TAP controller only. [PRESUMED log 197] -/
def tapReset (d : Dev) : Dev := if d.tapOn then { d with tap := { d.tap with ir := 1, dr := 0x1825656B } } else d

end Sys2Proof.Machine
end

