-- ==== Sys2Proof/Machine/Views.lean ====
section
/-! DEFINITION. What a read of a register returns (R38, R40): the common header, the words that a block computes from
its state, the table windows (R37), and the stored words of every other register. -/

namespace Sys2Proof.Machine

/-- The four GNSS page types, which are fused off in the VXH8256-N (R5). -/
def isGnss (p : Page) : Bool := p == .gnf || p == .gna || p == .gnt || p == .gns

/-- PID of the page at an address (R38, R522). -/
def pidWord (pg : Nat) : Nat :=
  (match typeAt pg with | some p => p.code | none => 0) * 2 ^ 24 + idxAt pg * 2 ^ 20 + (halfAt pg).num * 2 ^ 16 + 1

/-- CAPS of the page at an address (R38, R521, R522), in the VXH8256-N 0 for a GNSS page (R5). -/
def capsWord (nv : NV) (pg : Nat) : Nat :=
  match typeAt pg with
  | none => 0
  | some p =>
    let r := pageRow p
    if nv.variantN && isGnss p then 0
    else bitOf (cnt8At pg) * 2 ^ 31 + bitOf r.twin * 2 ^ 30 + nevtAt pg * 2 ^ 24 + lastRepeating r.units (idxAt pg)

/-- STAT.READY (R38): the block is initialised and serving; a half that is in safe state, unpowered, held in reset or not yet
restored after a reset has no such block. [DEDUCED log 239] -/
def Dev.pageReady (d : Dev) (pg : Nat) : Bool :=
  let perHalf := match typeAt pg with | some p => (pageRow p).perHalf | none => false
  (d.page pg).ready && (!perHalf || (d.planeUp (halfAt pg) && (d.hs (halfAt pg)).restored))

/-- STAT of the page at an address (R38). -/
def Dev.statWord (d : Dev) (pg : Nat) : Nat :=
  let s := d.page pg
  bitOf (d.pageReady pg) + bitOf s.isolated * 2 + s.pstate % 4 * 4 + bitOf (d.statFault pg) * 16

/-- EVT_SUM (R38). -/
def Dev.sumWord (d : Dev) (pg : Nat) : Nat :=
  (List.range 32).foldl (fun a k => a + bitOf (d.evt pg k).pend * 2 ^ k) 0

/-- The programmable counter `n` of a page. -/
def Dev.counterAt (d : Dev) (pg n : Nat) : PCnt := tget {} d.pcnt (pg + n)

/-- PSELn as it reads: the selection with OVF (R484). -/
def Dev.pselWord (d : Dev) (pg n : Nat) : Nat :=
  d.w (pselAddr pg n) % 2 ^ 31 + bitOf (d.counterAt pg n).ovf * 2 ^ 31

/-- A word of the common header (R38, R39). -/
def Dev.headerWord (d : Dev) (nv : NV) (a : Nat) : Nat :=
  let pg := pageBase a
  let o := pageOff a
  let cnt := fun (n i : Nat) => if i = 0 then (d.counterAt pg n).n % 2 ^ 32 else (d.counterAt pg n).n / 2 ^ 32
  if o = 0x000 then pidWord pg
  else if o = 0x004 then capsWord nv pg
  else if o = 0x008 then d.w a % 2
  else if o = 0x00C then d.statWord pg
  else if o = 0x010 then d.w a % 2 ^ 16
  else if o = 0x014 then d.sumWord pg
  else if o = 0x01C then d.w a
  else if 0x040 ≤ o && o < 0x0C0 then (d.evt pg ((o - 0x40) / 4)).word
  else if o = 0x0C0 then d.ticks.of (halfAt a) % 2 ^ 32
  else if o = 0x0C4 then d.ticks.of (halfAt a) / 2 ^ 32
  else if 0x0C8 ≤ o && o < 0x0D8 then d.pselWord pg ((o - 0xC8) / 4)
  else if 0x0D8 ≤ o && o < 0x0F8 then cnt ((o - 0xD8) / 8) ((o - 0xD8) / 4 % 2)
  else if 0x100 ≤ o && o < 0x110 then d.pselWord pg (4 + (o - 0x100) / 4)
  else if 0x110 ≤ o && o < 0x130 then cnt (4 + (o - 0x110) / 8) ((o - 0x110) / 4 % 2)
  else 0

/-! ### Timing pages -/

/-- The TSU page (R72, R78). Weft's staging layout mirrors Warp's. [DEDUCED log 53] -/
def Dev.tsuView (d : Dev) (a : Nat) : Nat :=
  let h := halfAt a
  let o := pageOff a
  if 0x100 ≤ o && o < 0x300 then
    let n := 4 * idxAt a + (o - 0x100) / 0x80
    let c := d.count h n
    let s := d.scaledAt h n c
    let rem := unsignedOf 48 ((d.tb h n).padjRem.tdiv (2 ^ 64))
    let fadj := unsignedOf 48 (d.tb h n).fadj
    match (o - 0x100) % 0x80 with
    | 0x00 => d.w a % 2 ^ 9
    | 0x04 => d.w a % 64 / 8 * 8 + bitOf (d.gb (tsuB h n) Reg.TSU.STAT_LEAP_PEND)
        + bitOf (d.gb (tsuB h n) Reg.TSU.STAT_IN_LEAP) * 2
        + bitOf (d.scale h n == 2 && d.gb (tsuB h n) Reg.TSU.STAT_IN_SMEAR) * 4
    | 0x08 => fracOf c
    | 0x0C => nsecOf c
    | 0x10 => secOf c % 2 ^ 32
    | 0x14 => secOf c / 2 ^ 32
    | 0x18 => s.2.2
    | 0x1C => s.2.1
    | 0x20 => s.1 % 2 ^ 32
    | 0x24 => s.1 / 2 ^ 32
    | 0x28 => d.g (tsuB h n) Reg.TSU.SCL_INFO_LI + bitOf (d.gb (tsuB h n) Reg.TSU.STAT_IN_LEAP) * 4
        + bitOf (d.scale h n == 2 && d.gb (tsuB h n) Reg.TSU.STAT_IN_SMEAR) * 8
        + unsignedOf 16 ((d.leapActive h).ofsAt (secOf c)) * 2 ^ 16
    | 0x30 => fadj % 2 ^ 32
    | 0x34 => fadj / 2 ^ 32
    | 0x44 => rem % 2 ^ 32
    | 0x48 => rem / 2 ^ 32
    | _ => d.w a
  else if idxAt a != 0 then d.w a
  else if o = 0x300 then d.w (tsuPg .warp 0 + o) % 4 / 2 * 2
  else if h == .weft && o = 0x308 then setBits (d.w a) 8 1 (bitOf (d.gb (leapPg .warp) Reg.TSU.LEAP_STAT_COMMIT_PEND))
  else if h == .weft && leapOffsets.contains o then d.w (tsuPg .warp 0 + o)
  else d.w a

/-- The TDC page (R112, R113), with the pin-event queue in its window. [DEDUCED log 223] -/
def Dev.tdcView (d : Dev) (a : Nat) : Nat :=
  let h := halfAt a
  let o := pageOff a
  if 0x800 ≤ o then
    let cp := 16 * idxAt a + d.g (pageBase a) Reg.TDC.QSEL
    (tget 0 d.capq (capSlot h cp ((o - 0x800) / 0x20) + (o - 0x800) / 4 % 8)).toNat
  else if 0x100 ≤ o && o < 0x300 then
    let cp := 16 * idxAt a + (o - 0x100) / 0x20
    match (o - 0x100) % 0x20 with
    | 0x14 => d.w a % 2 ^ 17
    | 0x18 => setBits (d.w a) 1 1 (bitOf (d.capAct h cp))
    | _ => d.w a
  else d.w a

/-- The REF page (R149): RANK, and FAULT, which an OFF candidate shows none of (DEDUCED from its reset value) but for the
permanent fault of C12 (R131). [DEDUCED log 47] -/
def Dev.refView (d : Dev) (a : Nat) : Nat :=
  let h := halfAt a
  let o := pageOff a
  let c := 8 * idxAt a + (o - 0x100) / 0x40
  if 0x100 ≤ o && o < 0x300 && (o - 0x100) % 0x40 == 0x20 && c < 30 then
    let st := d.cstate h c
    let ranked := c != 13 && (st == 3 || st == 4)
    let v := if st = 0 then setBits (d.w a) 8 8 (if c = 12 then 0x80 * bitOf (d.cfgFault h 12) else 0) else d.w a
    setBits v 20 8 (if ranked then d.rank h 0 c else 0xFF)
  else if 0x100 ≤ o && o < 0x300 && (o - 0x100) % 0x40 == 0x04 then d.nomRead h c
  else if 0x100 ≤ o && o < 0x300 && (o - 0x100) % 0x40 == 0 && 21 < c then setBits (d.w a) 12 2 0
  else d.w a

/-- The SEL page (R145, R150): SUSPECT and the wait-to-restore timers. [DEDUCED log 78] -/
def Dev.selView (d : Dev) (a : Nat) : Nat :=
  let h := halfAt a
  let o := pageOff a
  if o = 0x504 then (List.range 30).foldl (fun s c => s + bitOf (d.cstate h c == 4) * 2 ^ c) 0
  else if 0x100 ≤ o && o < 0x500 && (o - 0x100) % 0x40 == 0x20 then
    let n := (o - 0x100) / 0x40
    match d.wtrShown h n with
    | some c => d.wtrRem h n c % 2 ^ 16 + c % 32 * 2 ^ 16
    | none => 0x1F * 2 ^ 16
  else if 0x100 ≤ o && o < 0x500 && (o - 0x100) % 0x40 == 0x18 then
    unsignedOf 48 (d.boLeft h ((o - 0x100) / 0x40)).1 % 2 ^ 32
  else if 0x100 ≤ o && o < 0x500 && (o - 0x100) % 0x40 == 0x1C then
    unsignedOf 48 (d.boLeft h ((o - 0x100) / 0x40)).1 / 2 ^ 32
  else d.w a

/-- The DPL page (R176): HTIME, and what CTRL triggers reads 0. [DEDUCED log 85, 92] -/
def Dev.dplView (d : Dev) (a : Nat) : Nat :=
  let o := pageOff a
  let k := 4 * idxAt a + (o - 0x100) / 0x80
  if 0x100 ≤ o && o < 0x300 then
    if (o - 0x100) % 0x80 == 0x38 then d.htime (halfAt a) k
    else if (o - 0x100) % 0x80 == 0x00 then setBits (d.w a) 2 1 0
    else d.w a
  else d.w a

/-- The HLD page (R171, R173, R177). -/
def Dev.hldView (d : Dev) (a : Nat) : Nat :=
  let h := halfAt a
  match pageOff a with
  | 0x100 => setBits (d.w a) 2 1 0
  | 0x118 => setBits (d.w a) 0 3 (d.lstate h 0)
  | 0x11C => d.htime h 0
  | 0x150 => d.hunc h
  | _ => d.w a

/-- The APL page (R192): SLEWING, FIXED and DEV, and FROZEN while a case of R195 holds. [DEDUCED log 95] -/
def Dev.aplView (d : Dev) (a : Nat) : Nat :=
  let h := halfAt a
  match pageOff a with
  | 0x100 => setBits (d.w a) 4 2 0
  | 0x518 => setBits (d.w a) 0 1 (bitOf (d.dacFrozen h))
  | 0x300 => setBits (d.w a) 4 2 0
  | 0x310 => setBits (d.w a) 14 1 (bitOf (d.aplSlewing h))
  | 0x314 => unsignedOf 32 (if d.aplState h 1 = 2 then (d.apl h 1).devNow else 0)
  | _ => d.w a

/-! ### GNSS pages -/

/-- The GNA page (R246): the queue and its head result. -/
def Dev.gnaView (d : Dev) (a : Nat) : Nat :=
  let q := d.acq
  let res := q.res.head?
  let pk := res.bind (·.peak)
  match pageOff a with
  | 0x118 => 0
  | 0x11C => q.queue.length % 32 + bitOf q.run.isSome * 2 ^ 8 + q.res.length % 32 * 2 ^ 16
      + d.g gnaPg Reg.GNA.QSTAT_REFUSE * 2 ^ 24
  | 0x120 => match res with
      | some r => r.tag % 2 ^ 8 + r.outcome % 8 * 2 ^ 8 + r.passes % 2 ^ 16 * 2 ^ 16
      | none => 0
  | 0x124 => match pk with | some p => p.code % 2 ^ 24 | none => 0
  | 0x128 => match pk with | some p => unsignedOf 32 p.dop | none => 0
  | 0x12C => match pk with | some p => p.ratio % 2 ^ 16 + p.cn0 % 2 ^ 16 * 2 ^ 16 | none => 0
  | 0x130 => 0
  | _ => d.w a

/-- The GNT page (R247): CHG_CLR and STOP read 0. -/
def Dev.gntView (d : Dev) (a : Nat) : Nat :=
  let o := pageOff a
  if o = 0x904 then 0
  else if 0x100 ≤ o && o < 0x900 && (o - 0x100) % 0x40 == 0 then setBits (d.w a) 1 1 0
  else d.w a

/-- The GNS page (R265, R267), with the snapshot buffer in its window, which reads all ones during a capture.
[DEDUCED log 223] -/
def Dev.gnsView (d : Dev) (nv : NV) (a : Nat) : Nat :=
  let o := pageOff a
  if 0x800 ≤ o then
    if d.g gnsPg Reg.GNS.SNSTAT_STATE = 1 then 0xFFFFFFFF
    else
      let b := d.g gnsPg Reg.GNS.SNWIN * 2048 + (o - 0x800)
      (List.range 4).foldl (fun s i => s + (tget 0 d.snapBuf (b + i)).toNat * 2 ^ (8 * i)) 0
  else if o = 0x1B4 then nv.floor % 2 ^ 16
  else if 0x108 ≤ o && o < 0x120 && d.solMode == 1 && d.sol.n != 0 then
    (let p := d.sol.average
     let v := unsignedOf 48 (match (o - 0x108) / 8 with | 0 => p.x | 1 => p.y | _ => p.z)
     if o % 8 = 0 then v % 2 ^ 32 else v / 2 ^ 32)
  else if o = 0x204 then 0
  else d.w a

/-! ### Network pages -/

/-- The SWC page (R292, R306), with the committed forwarding entries in its window. -/
def Dev.swcView (d : Dev) (a : Nat) : Nat :=
  let o := pageOff a
  if 0x800 ≤ o then
    d.fwdWord (halfAt a) (128 * d.g (pageBase a) Reg.SWC.FWSEL + (o - 0x800) / 16) ((o - 0x800) / 4 % 4)
  else d.w a

/-- The LGT page (R326, R328): the head report. -/
def Dev.lgtView (d : Dev) (a : Nat) : Nat :=
  let o := pageOff a
  if 0x100 ≤ o && o < 0x200 then
    let p := 2 * ((o - 0x100) / 0x40) + (halfAt a).num
    let r := (d.gate p).reports.head?
    match (o - 0x100) % 0x40 with
    | 0x20 => match r with
        | some x => x.tag % 2 ^ 16 + x.status % 16 * 2 ^ 16 + 2 ^ 31
        | none => 0
    | 0x24 => match r with | some x => x.nsec % 2 ^ 30 | none => 0
    | 0x28 => match r with | some x => x.sec % 2 ^ 32 | none => 0
    | 0x2C => match r with | some x => x.sec / 2 ^ 32 % 2 ^ 16 | none => 0
    | 0x30 => d.w a / 2 ^ 16 % 2 ^ 10 * 2 ^ 16
    | _ => d.w a
  else d.w a

/-- A word of the grant table (R368). -/
def Grant.tableWord (g : Grant) (w : Nat) : Nat :=
  if !g.active then 0
  else
    match w with
    | 0 => if g.l2 then 0 else g.addr / 2 ^ 96 % 2 ^ 32
    | 1 => if g.l2 then 0 else g.addr / 2 ^ 64 % 2 ^ 32
    | 2 => if g.l2 then 0 else g.addr / 2 ^ 32 % 2 ^ 32
    | 3 => if g.l2 then 0 else g.addr % 2 ^ 32
    | 4 => g.mac % 2 ^ 32
    | 5 => g.mac / 2 ^ 32 % 2 ^ 16 + g.vid % 2 ^ 12 * 2 ^ 16 + bitOf g.tagged * 2 ^ 28
    | 6 => g.pid / 2 ^ 32 % 2 ^ 32
    | 7 => g.pid % 2 ^ 32
    | 8 => g.pnum % 2 ^ 16
    | 9 => g.mtype % 4 + g.pair % 4 * 4 + g.svc % 16 * 16 + unsignedOf 8 g.logint * 2 ^ 8 + 2 ^ 16
    | 10 => g.start % 10 ^ 9
    | 11 => g.start / 10 ^ 9 % 2 ^ 32
    | 12 => g.start / 10 ^ 9 / 2 ^ 32 % 2 ^ 16
    | 13 => g.expiry / secFrac % 2 ^ 32
    | 14 => g.expiry / secFrac / 2 ^ 32 % 2 ^ 16
    | 15 => g.gen % 2 ^ 16
    | _ => 0

/-- The GRT page (R368), with the grant table in its window. -/
def Dev.grtView (d : Dev) (a : Nat) : Nat :=
  let o := pageOff a
  if 0x800 ≤ o then
    (d.grant (halfAt a) (32 * d.g (pageBase a) Reg.GRT.GSEL + (o - 0x800) / 0x40)).tableWord ((o - 0x800) / 4 % 16)
  else if o = 0x11C then 0
  else d.w a

/-- A word of a HDM queue block (R529): ACTIVE and BUSY. -/
def Dev.hdmView (d : Dev) (a : Nat) : Nat :=
  let o := pageOff a
  if 0x100 ≤ o && o < 0x500 && (o - 0x100) % 0x40 == 0x14 then
    let b := a - 0x14
    d.w a / 2 % 2 * 2 + bitOf (d.gb b Reg.HDM.QCFG_EN && !(d.gb b Reg.HDM.QSTAT_STOPPED))
      + bitOf ((d.page (pageBase a)).isolated) * 4 + d.g b Reg.HDM.QSTAT_CREDIT_WAIT * 8
      + d.g b Reg.HDM.QSTAT_ERR * 2 ^ 8
  else d.w a

/-! ### Keys, redundancy, power, faults and the device -/

/-- The ATT page (R396): the public values, which read 0 until KEYS_READY. -/
def Dev.attView (d : Dev) (a : Nat) : Nat :=
  if d.gb (cadPg (halfAt a)) Reg.CAD.CSTAT_KEYS_READY && decide (pageOff a < 0x170) then d.w a else 0

/-- The CAD page (R376, R382, R394): the selected slot, the active generations and the occupancy. -/
def Dev.cadView (d : Dev) (a : Nat) : Nat :=
  let h := halfAt a
  let o := pageOff a
  let k := d.g (cadPg h) Reg.CAD.SLOTSEL
  let s := d.slot h k
  if 0x140 ≤ o && o < 0x180 then d.actgen h ((o - 0x140) / 4)
  else
    match o with
    | 0x10C => s.attr (d.gstate h k)
    | 0x110 => s.keyid
    | 0x114 => s.kcv
    | 0x118 => s.act % 2 ^ 32
    | 0x11C => s.act / 2 ^ 32 % 2 ^ 16
    | 0x120 => s.ret % 2 ^ 32
    | 0x124 => s.ret / 2 ^ 32 % 2 ^ 16
    | 0x180 => d.w a % 2 ^ 17
    | _ => d.w a

/-- The KTL page (R442, R451): KTIME. -/
def Dev.ktlView (d : Dev) (a : Nat) : Nat :=
  match pageOff a with
  | 0x10C => d.ktime % 2 ^ 32
  | 0x110 => d.ktime / 2 ^ 32 % 2 ^ 32
  | 0x114 => d.ktime / 2 ^ 64 % 2 ^ 16
  | _ => d.w a

/-- The SRCPEND words of the EVC page (R54). [DESIGN CHOICE log 219] -/
def Dev.srcpendWord (d : Dev) (w : Nat) : Nat :=
  (List.range 32).foldl (fun s b => s + bitOf (d.srcAsserted (32 * w + b)) * 2 ^ b) 0

/-- The value that a read of a register of an existing page gives (R38 to R40). -/
def Dev.view (d : Dev) (nv : NV) (a : Nat) : Nat :=
  let o := pageOff a
  let h := halfAt a
  if o < headerEnd a then d.headerWord nv a
  else
    match typeAt a with
    | none => 0
    | some .sys =>
      if o = 0x100 then 0x825600B0 + bitOf nv.variantN * 2 ^ 12
      else if o = 0x108 then setBits (d.w a) 30 1 0
      else if o = 0x11C then 0
      else d.w a
    | some .evc =>
      if o = 0x284 then 0
      else if 0x290 ≤ o && o < 0x2B0 then d.srcpendWord ((o - 0x290) / 4)
      else d.w a
    | some .mbx => if o = 0x104 then 0 else d.w a
    | some .pmu => d.w a
    | some .ktl => d.ktlView a
    | some .flt =>
      if o = 0x104 then setBits (setBits (d.w a) 8 4 (d.c2Count h)) 0 1 (bitOf (d.fltErr h))
      else if o = 0x108 || o = 0x11C then 0
      else d.w a
    | some .bst => if o = 0x104 then 0 else d.w a
    | some .lcs =>
      if o = 0x100 then setBits (d.w a) 6 1 (bitOf (d.gb (cadPg h) Reg.CAD.CSTAT_TAMPER_LOCK)) else d.w a
    | some .prf => if o = 0x104 then d.w a / 2 ^ 13 * 2 ^ 13 else d.w a
    | some .tel => if o = 0x200 then 0 else d.w a
    | some .ref => if absentBlock a then 0 else d.refView a
    | some .sel => d.selView a
    | some .dpl => d.dplView a
    | some .hld => d.hldView a
    | some .apl => d.aplView a
    | some .out => d.w a
    | some .tsu => d.tsuView a
    | some .tdc => d.tdcView a
    | some .tta => d.w a
    | some .bnd => d.w a
    | some .gnf => d.w a
    | some .gna => d.gnaView a
    | some .gnt => d.gntView a
    | some .gns => d.gnsView nv a
    | some .mac => if o = 0x148 then setBits (d.w a) 0 2 0 else d.w a
    | some .pcs => d.w a
    | some .swc => d.swcView a
    | some .swt => d.w a
    | some .lgt => d.lgtView a
    | some .trs => d.trsView a
    | some .grt => d.grtView a
    | some .rlt => if (0x140 ≤ o && o < 0x150) || o = 0x15C then 0 else d.w a
    | some .hdm => d.hdmView a
    | some .cad => d.cadView a
    | some .aeg => d.w a
    | some .att => d.attView a
    | some .red => if o = 0x120 then d.waitRem h % 2 ^ 16 + d.chipRem h % 2 ^ 16 * 2 ^ 16 else d.w a
    | some .slv => d.w a

/-! ### Reads by a master (R41, R43) -/

/-- The number of a master's latch of a word. -/
def latchKey (m : Master) (a : Nat) : Nat := m.num * 2 ^ 24 + a % 2 ^ 24

/-- What a master has latched of a word; before its first latch, the word's reset value (R41). -/
def Dev.latched (d : Dev) (m : Master) (a : Nat) : Word :=
  Tab.get (fun k => resetWord (k % 2 ^ 24)) d.latch (latchKey m a)

/-- The whole group of a read-latch group's lowest word latched for a master (R41). -/
def Dev.latchGroup (d : Dev) (nv : NV) (m : Master) (a words : Nat) : Dev :=
  { d with latch := (List.range words).foldl (fun (t : Tab Word) i =>
      Tab.set (fun k => resetWord (k % 2 ^ 24)) t (latchKey m (a + 4 * i)) (BitVec.ofNat 32 (d.view nv (a + 4 * i)))) d.latch }

/-- The TEL page and every other page: the words of a read-latch group are read through the master's latch (R41), other
words directly. -/
def Dev.readWord (d : Dev) (nv : NV) (m : Master) (a : Nat) : Dev × Word :=
  match rlGroup a with
  | some (lo, words) =>
    let d1 := if a = lo then d.latchGroup nv m lo words else d
    (d1, d1.latched m a)
  | none => (d, BitVec.ofNat 32 (d.view nv a))

/-- One aligned 32-bit read (R43 to R47): the word and whether it is valid; an access that is not completed returns all
ones. -/
def Dev.read32 (d : Dev) (nv : NV) (m : Master) (a : Nat) : Dev × Word × Bool :=
  match d.accessError m a false with
  | some e => (d.accError m a false e, 0xFFFFFFFF#32, false)
  | none =>
    let r := (d.regAccess m a).readWord nv m a
    (r.1, r.2, true)

/-- `k` consecutive aligned 32-bit reads in address order. -/
def Dev.readMany (d : Dev) (nv : NV) (m : Master) (a : Nat) : Nat → Dev × List Word × Bool
  | 0 => (d, [], true)
  | k + 1 =>
    let r := d.read32 nv m a
    let t := r.1.readMany nv m (a + 4) k
    (t.1, r.2.1 :: t.2.1, r.2.2 && t.2.2)

/-- The bytes of a span. [DESIGN CHOICE log 20] -/
def spanBytes : AccSpan → Nat
  | .narrow .b8 => 1
  | .narrow .b16 => 2
  | .narrow .b32 => 4
  | .narrow .b64 => 8
  | .burst n => n

/-- The form of an access by the rows of R43, taken in order. -/
inductive AccForm where
  | words (k : Nat)
  | small
  | unaligned
  | badBurst
deriving DecidableEq, Repr

/-- A range of bytes lies within one table window (R37). -/
def inWindow (a n : Nat) : Bool :=
  (match typeAt a with | some p => (pageRow p).twin | none => false) &&
    decide (0x800 ≤ pageOff a) && decide (pageOff a + n ≤ 0x1000)

/-- The form of an access (R43). -/
def accForm (a : Nat) (s : AccSpan) : AccForm :=
  let n := (spanBytes s)
  if n = 4 && a % 4 == 0 then .words 1
  else if n = 8 && a % 8 == 0 then .words 2
  else if n ≤ 2 then .small
  else if n ≤ 8 then .unaligned
  else if !(inWindow a n) then .badBurst
  else if a % 4 != 0 || n % 4 != 0 then .unaligned
  else if n ≤ 256 then .words (n / 4)
  else .badBurst

/-- The number that words spell, the lowest address least significant. -/
def natOfLE32 : List Word → Nat
  | [] => 0
  | w :: t => w.toNat + 2 ^ 32 * natOfLE32 t

/-- The completion of a master's read noted. [DESIGN CHOICE log 21] -/
def Dev.complete (d : Dev) (m : Master) (c : Completion) : Dev := { d with cpl := tset {} d.cpl m.num c }

/-- A read of a span by a master (R43), with its completion. An 8- or 16-bit read is of the full word; of the two words whose
bytes it addresses where it crosses a boundary. [DESIGN CHOICE log 20, 21] -/
def Dev.readSpan (d : Dev) (nv : NV) (m : Master) (a : Nat) (s : AccSpan) : Dev :=
  match accForm a s with
  | .words k =>
    let r := d.readMany nv m a k
    r.1.complete m { data := r.2.1, ok := r.2.2 }
  | .small =>
    let r := d.readMany nv m (a / 4 * 4) (if 4 < a % 4 + spanBytes s then 2 else 1)
    let v := natOfLE32 r.2.1
    r.1.complete m { data := [BitVec.ofNat 32 (v / 2 ^ (8 * (a % 4)) % 2 ^ (8 * spanBytes s))], ok := r.2.2 }
  | .unaligned =>
    (d.accError m a false .align).complete m { data := List.replicate (((spanBytes s) + 3) / 4) 0xFFFFFFFF#32, ok := false }
  | .badBurst => (d.accError m a false .burst).complete m { data := [], ok := false, ur := true }

end Sys2Proof.Machine
end

