-- ==== Sys2Proof/Machine/Perf.lean ====
section
/-! DEFINITION. Performance counters, the central reader and telemetry (R484 to R495). -/

namespace Sys2Proof.Machine

/-- PSELn of a page written (R484): the counter becomes 0 and OVF clears. [DESIGN CHOICE log 219] -/
def pselWritten (pg n v : Nat) (d : Dev) : Dev :=
  let e := d.setw (pselAddr pg n) (v % 2 ^ 25)
  { e with pcnt := tset {} e.pcnt (pg + n) {} }

/-! ### The central reader -/

/-- The PRF page of a half. -/
def prfPg (h : Half) : Nat := pageAddr .prf h 0

/-- The TEL page of a half. -/
def telPg (h : Half) : Nat := pageAddr .tel h 0

/-- SIZE with its limit (R492). -/
def Dev.ringSize (d : Dev) (h : Half) : Nat := max 2 (d.g (prfPg h) Reg.PRF.SIZE)

/-- The records that the ring holds. -/
def Dev.ringOcc (d : Dev) (h : Half) : Nat :=
  (d.g (prfPg h) Reg.PRF.WPTR + 2 ^ 16 - d.g (prfPg h) Reg.PRF.RPTR) % 2 ^ 16

/-- RING: a multiple of 8,192 (R492). -/
def Dev.ringBase (d : Dev) (h : Half) : Nat :=
  d.g (prfPg h) Reg.PRF.RING_LO / 2 ^ 13 * 2 ^ 13 + d.g (prfPg h) Reg.PRF.RING_HI * 2 ^ 32

/-- The pages that the reader of a half gathers, in the order of its list (R490): pages of its own half, and in Warp's reader
shared pages. -/
def Dev.gathered (d : Dev) (h : Half) : List Nat :=
  (List.range 64).filterMap fun k =>
    let e := d.w (prfPg h + 0x140 + 4 * k)
    match pageOfCode (getBits e 8 8) with
    | none => none
    | some p =>
      let idx := getBits e 0 4
      let perHalf := (pageRow p).perHalf
      if bitAt e 31 && decide (idx ≤ (pageRow p).maxIdx) && (perHalf || h == .warp)
      then some (pageAddr p (if perHalf then h else .warp) idx) else none

/-- What a record holds of a page (R491). -/
def Dev.gatherPage (d : Dev) (pg : Nat) : List Byte :=
  bytesLE 4 (pidWord pg) ++ bytesLE 4 (d.statWord pg) ++ bytesLE 8 (d.ticks.of (halfAt pg)) ++
    (List.range 8).flatMap fun n => bytesLE 8 (if n < counters pg then (d.counterAt pg n).n else 0)

/-- The record of a gathering (R491). [DEDUCED log 200] -/
def Dev.gatherRecord (d : Dev) (h : Half) : List Byte :=
  let pages := d.gathered h
  let tel := d.gb (prfPg h) Reg.PRF.GCTRL_TEL
  let c := d.count h 0
  bytesLE 4 0x50524631 ++ bytesLE 4 (d.prf.of h).seq ++
    bytesLE 4 (pages.length + bitOf tel * 2 ^ 8 + h.num * 2 ^ 9) ++ bytesLE 4 (nsecOf c) ++
    bytesLE 8 (secOf c % 2 ^ 48) ++ List.replicate 8 0 ++ pages.flatMap d.gatherPage ++
    (if tel then (List.range 16).flatMap fun v => bytesLE 4 (d.w (telPg h + 0x100 + 0x10 * v)) else [])

/-- PF0's Bus Master Enable (R529). -/
def Dev.bme (d : Dev) : Bool := d.gb (pageAddr .hdm .warp 0) Reg.HDM.HSTAT

/-- The millisecond of a half's TB0 is a whole multiple of PERIOD, and no gathering has been made or skipped in it (R490).
[DEDUCED log 275] -/
def Dev.gatherDue (d : Dev) (h : Half) : Bool :=
  let ms := msOf (d.count h 0)
  ms % max 1 (d.g (prfPg h) Reg.PRF.GCTRL_PERIOD) == 0 && (d.prf.of h).at_ != ms + 1

/-- PRF_GATHER (R490, R492): a gathering starts at a boundary of PERIOD, or is skipped. [DEDUCED log 200] -/
def gatherStarted (h : Half) (d : Dev) : Dev :=
  let b := prfPg h
  let st := d.prf.of h
  if !(d.enabled b) || !(d.gb b Reg.PRF.GCTRL_EN) || !(d.gatherDue h) then d
  else if d.ringSize h ≤ d.ringOcc h || !d.bme || st.busy.isSome then ({ d with prf := d.prf.put h { st with at_ := msOf (d.count h 0) + 1 } }.inc b Reg.PRF.SKIPPED).raise b 0
  else
    let at_ := d.ringBase h + d.g b Reg.PRF.WPTR % d.ringSize h * 8192
    let st1 : PrfSt := { st with
      seq := (st.seq + 1) % 2 ^ 32, busy := some (at_, d.gatherRecord h), at_ := msOf (d.count h 0) + 1 }
    { d with prf := d.prf.put h st1 }

/-- PRF_DONE (R491): the last write of a record advances WPTR. -/
def gatherDone (h : Half) (d : Dev) : Dev :=
  let st := d.prf.of h
  match st.busy with
  | none => d
  | some r =>
    let st1 : PrfSt := { st with busy := none, wrote := some r }
    ({ d with prf := d.prf.put h st1 }.inc (prfPg h) Reg.PRF.WPTR).raise (prfPg h) 1

/-- RPTR written (R492): a write that would make the occupancy negative or greater than SIZE is discarded.
[DEDUCED log 198] -/
def rptrWritten (h : Half) (v : Nat) (d : Dev) : Dev :=
  if (d.g (prfPg h) Reg.PRF.WPTR + 2 ^ 16 - v % 2 ^ 16) % 2 ^ 16 ≤ d.ringSize h then d.p (prfPg h) Reg.PRF.RPTR v else d

/-- SIZE written (R492): WPTR and RPTR become 0. -/
def sizeWritten (h : Half) (v : Nat) (d : Dev) : Dev :=
  ((d.p (prfPg h) Reg.PRF.SIZE v).p (prfPg h) Reg.PRF.WPTR 0).p (prfPg h) Reg.PRF.RPTR 0

/-! ### Telemetry -/

/-- The block of a telemetry entry (R495). -/
def telT (h : Half) (v : Nat) : Nat := telPg h + 0x100 + 0x10 * v

/-- A telemetry value as a number: temperatures are signed (R495). -/
def telNum (v w : Nat) : Int := if v < 8 then signedOf 32 w else (w : Int)

/-- TLO with its limit (R495). -/
def Dev.telLow (d : Dev) (h : Half) : Int :=
  let hi := d.gs (telPg h) Reg.TEL.THI
  let lo := d.gs (telPg h) Reg.TEL.TLO
  if hi ≤ lo then hi - 1000 else lo

/-- TEL_TEMP_HIGH (R495): any sensor at THI; again only after every sensor has been below TLO. -/
def Dev.telAlarm (d : Dev) (h : Half) : Dev :=
  let b := telPg h
  let now := (List.range 8).map fun v => signedOf 32 (d.w (telT h v))
  let st := d.tel.of h
  if now.any fun x => decide (d.gs b Reg.TEL.THI ≤ x) then
    { d.raiseIf (!st.high) b 0 with tel := d.tel.put h { st with high := true } }
  else if now.all fun x => decide (x < d.telLow h) then { d with tel := d.tel.put h { st with high := false } }
  else d

/-- TEL_UPDATE (R495): a value measured; NOW, MIN and MAX. [DEDUCED log 199] -/
def telUpdated (h : Half) (v : Nat) (x : Int) (d : Dev) : Dev :=
  if 16 ≤ v then d
  else
    let b := telT h v
    let st := d.tel.of h
    let w := unsignedOf 32 x
    let clr := st.clr.contains v
    let lo := if clr || telNum v w < telNum v (d.w (b + 4)) then w else d.w (b + 4)
    let hi := if clr || telNum v (d.w (b + 8)) < telNum v w then w else d.w (b + 8)
    let d1 := ((d.setw b w).setw (b + 4) lo).setw (b + 8) hi
    ({ d1 with tel := d1.tel.put h { st with clr := st.clr.filter (· != v) } }).telAlarm h

/-- TCTRL.CLR (R495): MIN and MAX of every entry become NOW at the next update. [DEDUCED log 199] -/
def telCleared (h : Half) (d : Dev) : Dev :=
  { d with tel := d.tel.put h { d.tel.of h with clr := List.range 16 } }

end Sys2Proof.Machine
end

