-- ==== Sys2Proof/Machine/Hdm.lean ====
section
/-! DEFINITION. Host DMA (R528 to R535): descriptors from the host to the planes and the gates, and frames from H to host
memory. What stands in host memory comes with the commands; what the device writes there is kept as the last entry and
frame of each queue. -/

namespace Sys2Proof.Machine

/-- The HDM page. -/
def hdmPg : Nat := pageAddr .hdm .warp 0

/-- The block of a queue: transmit 0 to 7, receive 8 to 15 (R529). -/
def hdmQ (q : Nat) : Nat := hdmPg + 0x100 + 0x40 * q

/-- The half a queue belongs to (R528). -/
def hdmHalf (q : Nat) : Half := Half.ofNum (q % 8 / 4)

/-- A queue beyond its registers. -/
def Dev.dma (d : Dev) (q : Nat) : DmaSt := tget {} d.dmas q

/-- The device with a queue replaced. -/
def Dev.setDma (d : Dev) (q : Nat) (v : DmaSt) : Dev := { d with dmas := tset {} d.dmas q v }

/-- Entries in a ring (R529). -/
def Dev.hdmSize (d : Dev) (q : Nat) : Nat := 2 ^ clampNat 4 12 (d.g (hdmQ q) Reg.HDM.QCFG_LOG2N)

/-- Entries posted (R528). -/
def Dev.hdmPosted (d : Dev) (q : Nat) : Nat :=
  (d.g (hdmQ q) Reg.HDM.PROD + 2 ^ 16 - d.g (hdmQ q) Reg.HDM.CONS) % 2 ^ 16

/-- ACTIVE (R529). -/
def Dev.hdmActive (d : Dev) (q : Nat) : Bool :=
  d.enabled hdmPg && d.gb (hdmQ q) Reg.HDM.QCFG_EN && !(d.gb (hdmQ q) Reg.HDM.QSTAT_STOPPED)

/-- A queue takes entries (R533, R534). [DEDUCED log 202] -/
def Dev.hdmTakes (d : Dev) (q : Nat) : Bool :=
  decide (q < 16) && d.inP0 hdmPg && d.hdmActive q && d.bme && decide (0 < d.hdmPosted q) && d.planeUp (hdmHalf q)

/-- PROD written (R529): a posted count beyond the ring is discarded with ERR 0x3 and DMA_ERR.
[DEDUCED log 198, 202] -/
def prodWritten (q v : Nat) (d : Dev) : Dev :=
  if (v % 2 ^ 16 + 2 ^ 16 - d.g (hdmQ q) Reg.HDM.CONS) % 2 ^ 16 ≤ d.hdmSize q then d.p (hdmQ q) Reg.HDM.PROD v
  else (d.p (hdmQ q) Reg.HDM.QSTAT_ERR 3).raise hdmPg 16

/-- EN cleared (R529, R534): entries not fetched stay in host memory; ERR clears and the queue may start again. -/
def Dev.hdmOff (d : Dev) (q : Nat) : Dev :=
  (((d.pb (hdmQ q) Reg.HDM.QCFG_EN false).pb (hdmQ q) Reg.HDM.QSTAT_STOPPED false).p (hdmQ q) Reg.HDM.QSTAT_ERR 0).pb
    (hdmQ q) Reg.HDM.QSTAT_CREDIT_WAIT false

/-- PROD and CONS set to 0. -/
def Dev.hdmRewind (d : Dev) (q : Nat) : Dev := (d.p (hdmQ q) Reg.HDM.PROD 0).p (hdmQ q) Reg.HDM.CONS 0

/-- QCFG written (R529, R534): a change of LOG2N while EN is 1 acts as a clear of EN and rewinds the ring.
[DEDUCED log 202] -/
def qcfgWritten (q v : Nat) (d : Dev) : Dev :=
  let b := hdmQ q
  let resized := d.gb b Reg.HDM.QCFG_EN && d.g b Reg.HDM.QCFG_LOG2N != getBits v 8 4
  let d1 := d.setw b (mergeWrite b (d.w b) v)
  if resized then (d1.hdmOff q).hdmRewind q
  else if bitAt v 0 then d1
  else d1.hdmOff q

/-- HDM_BME_CHANGE (R534): PF0's Bus Master Enable. -/
def bmeChanged (v : Bool) (d : Dev) : Dev := d.pb hdmPg Reg.HDM.HSTAT v

/-- HDM_DMA_ERROR (R534, R535): a host read or write of a queue fails. -/
def dmaFailed (q : Nat) (write : Bool) (d : Dev) : Dev :=
  if 16 ≤ q || !(d.hdmActive q) then d
  else ((d.pb (hdmQ q) Reg.HDM.QSTAT_STOPPED true).p (hdmQ q) Reg.HDM.QSTAT_ERR (if write then 2 else 1)).raise hdmPg 16

/-- An entry completed (R531, R533, R535): written, CONS advanced, and the event after QTHR completions. -/
def Dev.hdmComplete (d : Dev) (q : Nat) (entry frame : List Byte) : Dev :=
  let st := d.dma q
  let n := st.since + 1
  let due := decide (max 1 (d.g (hdmQ q) Reg.HDM.QTHR) ≤ n)
  (((d.setDma q { since := if due then 0 else n, entry := entry, frame := frame }).inc (hdmQ q) Reg.HDM.CONS).pb (hdmQ q)
    Reg.HDM.QSTAT_CREDIT_WAIT false).raiseIf due hdmPg q

/-- A little-endian field of an entry. -/
def leAt (l : List Byte) (o n : Nat) : Nat := natOfBE (sliceB l o n).reverse

/-- STATUS of a descriptor that is refused, 1 BAD (R531); 0 where it is not. -/
def txStatus (e : List Byte) : Nat :=
  let len := leAt e 8 2
  let mode := leAt e 10 1 % 4
  let direct := bitAt (leAt e 10 1) 2
  if len < 60 || 9212 < len || mode = 3 || (mode ≠ 0 && !direct) || (mode = 2 && 999999999 < leAt e 22 4) then 1 else 0

/-- The descriptor of a frame from H (R311). -/
def Dev.hostDesc (d : Dev) (h : Half) : Desc :=
  { stepgen := d.stepgen.of h, epoch := d.g (pageAddr .bnd h 0) Reg.BND.EPOCH_NUM }

/-- A host frame of mode NONE (R531). -/
def Dev.hostQueued (d : Dev) (q : Nat) (e bytes : List Byte) : Dev :=
  let h := hdmHalf q
  let port := leAt e 11 1 % 8
  if bitAt (leAt e 10 1) 2 then
    let cls := d.g (hdmQ q) Reg.HDM.QCFG_CLASS
    let f : SFrame := { id := 0, bytes := bytes, desc := d.hostDesc h, cls := cls, cells := cellsOf bytes.length, inPort := 8
                        refs := [] }
    if portHalf port = h then d.offerFrame h f [port / 2] false false
    else d.toBridge h (.frame { f with refs := [port / 2] })
  else d.classify45 h bytes (d.hostDesc h) 8 0 false

/-- A host frame of mode REPORT or AT (R324, R325): it takes a credit of its port and goes to that port's gate. -/
def Dev.hostGated (d : Dev) (q : Nat) (e bytes : List Byte) : Dev :=
  let h := hdmHalf q
  let port := leAt e 11 1 % 8
  let tag := leAt e 12 2
  let n := (d.p (lgtG port) Reg.LGT.RPTSTAT_CREDITS (d.g (lgtG port) Reg.LGT.RPTSTAT_CREDITS - 1)).newId h
  let at_ := leAt e 10 1 % 4 == 2
  let t := gridUp (ns32 (leAt e 16 6 * 10 ^ 9 + leAt e 22 4))
  let g : GFrame := { id := n.2, port := port, src := if at_ then .hostAt tag else .hostReport tag
                      t := if at_ then t else 0, mean := 0, body := .raw bytes none false, fixes := []
                      gen := d.stepgen.of (portHalf port) }
  if portHalf port = h then n.1.toGate g else n.1.toBridge h (.gated g)

/-- HDM_TX_DESCRIPTOR (R531): the descriptor at CONS of a transmit queue and the frame it names. A frame for a gate waits at the
head for the report credit and for the gate's (R316, R325). [DESIGN CHOICE log 201] -/
def txDescriptor (q : Nat) (e frame : List Byte) (d : Dev) : Dev :=
  let done := fun (st : Nat) => patchB (patchB e 14 (bytesBE 1 st)) 15 (bytesBE 1 (leAt e 15 1 / 2 * 2 + 1))
  let port := leAt e 11 1 % 8
  let bytes := (frame ++ List.replicate (leAt e 8 2) 0).take (leAt e 8 2)
  if 8 ≤ q || !(d.hdmTakes q) then d
  else if (d.page hdmPg).isolated then (d.hdmComplete q (done 2) []).inc (hdmQ q) Reg.HDM.QERRS
  else if txStatus e ≠ 0 then (d.hdmComplete q (done 1) []).inc (hdmQ q) Reg.HDM.QERRS
  else if leAt e 10 1 % 4 = 0 then
    (((d.hostQueued q e bytes).hdmComplete q (done 0) bytes).inc (hdmQ q) Reg.HDM.FRAMES).perf hdmPg 0x01 { address := some q }
  else if d.g (lgtG port) Reg.LGT.RPTSTAT_CREDITS = 0 then d.pb (hdmQ q) Reg.HDM.QSTAT_CREDIT_WAIT true
  else if !(d.gateCredit port bytes.length) then d
  else
    (((d.hostGated q e bytes).hdmComplete q (done 0) bytes).inc (hdmQ q) Reg.HDM.FRAMES).perf hdmPg 0x01 { address := some q }

/-- The receive queue of a class of a half's H (R529). [DEDUCED log 204] -/
def Dev.rxQueue (d : Dev) (h : Half) (c : Nat) : Nat := 8 + 4 * h.num + getBits (d.w (hdmPg + 0x500 + 4 * h.num)) (2 * c) 2

/-- A receive entry as the device completes it (R532). -/
def rxEntry (e : List Byte) (f : SFrame) : List Byte :=
  let m := f.desc.mean.getD 0
  let flags := f.flags % 32 + bitOf f.desc.v0 * 32 + bitOf f.desc.v1 * 64 + bitOf (f.desc.ts0 || f.desc.ts1) * 128
  sliceB e 0 10 ++ bytesLE 2 f.bytes.length ++ bytesLE 1 flags ++ bytesLE 1 (min 8 f.desc.port) ++ bytesLE 1 (f.cls % 8) ++
    bytesLE 1 (leAt e 15 1 / 2 * 2 + 1) ++ bytesLE 6 (m / secFrac) ++ bytesLE 4 (m % secFrac / 2 ^ 32) ++
    bytesLE 4 (m % 2 ^ 32) ++ bytesLE 2 0

/-- HDM_RX_FRAME (R533): the next frame of H whose class the queue serves, into the entry at CONS.
[DESIGN CHOICE log 201; DEDUCED log 204] -/
def rxFrame (q : Nat) (e : List Byte) (d : Dev) : Dev :=
  let h := hdmHalf q
  if q < 8 || !(d.hdmTakes q) || (d.page hdmPg).isolated then d
  else
    match d.pickClassOf h 4 fun c => d.rxQueue h c == q with
    | none => d
    | some (c, df) =>
      match (d.queue h 4 c).head?.bind (d.stored h) with
      | none => d
      | some f =>
        let d1 := ((d.putTurn h 4 c df).dropRef h f 4 true).inc (swtQ h 4 c) Reg.SWT.TXF
        if leAt e 8 2 < f.bytes.length then d1.inc (hdmQ q) Reg.HDM.QERRS
        else
          ((d1.hdmComplete q (rxEntry e f) f.bytes).inc (hdmQ q) Reg.HDM.FRAMES).perf hdmPg 0x02 { address := some (q - 8) }

/-- A host frame of a producer's line or of the bridge. -/
def BridgeItem.isHost : BridgeItem → Bool
  | .gated g => g.isHost
  | _ => false

/-- The frame of a bridge item that is gated. -/
def BridgeItem.gframe : BridgeItem → Option GFrame
  | .gated g => some g
  | _ => none

/-- A PCIe reset at the DMA and the gates (R507, R534): every queue is off and rewound; REPORT and AT frames are reported
DISCARDED. [DEDUCED log 203] -/
def hdmPcieReset (d : Dev) : Dev :=
  let d1 := d.each 16 fun q e => (e.hdmOff q).hdmRewind q
  let waiting := [Half.warp, Half.weft].flatMap fun h =>
    ((d.plane h).gateIn ++ (d.plane h).bridge.filterMap BridgeItem.gframe).filter GFrame.isHost
  let d2 := d1.each 8 fun p e => e.gateFlush p 5 GFrame.isHost
  let d3 := [Half.warp, Half.weft].foldl (fun (e : Dev) h =>
    e.setPlane h { e.plane h with
      gateIn := (e.plane h).gateIn.filter fun g => !g.isHost
      bridge := (e.plane h).bridge.filter fun i => !i.isHost }) d2
  waiting.foldl (fun (e : Dev) g => e.reportFate g 5) d3

end Sys2Proof.Machine
end

