-- ==== Sys2Proof/Machine/Writes.lean ====
section
/-! DEFINITION. What a write of a register word does (R38 to R40, R44, R50, R51, R563, and the page maps): the block enable,
the common header, then each page's own words. A word that no rule gives an effect of its own stores its writable bits. -/

namespace Sys2Proof.Machine

/-- A plain write: the writable bits take the written value (R40, R42). [DEDUCED log 19] -/
def plainWritten (a v : Nat) (d : Dev) : Dev := d.setw a (mergeWrite a (d.w a) v)

/-! ### ENABLE (R38, R50, R563) -/

/-- What each page does when its ENABLE clears, the word being stored: functions that EN fields enable act as if each read 0,
and queued work not yet started is discarded. [DEDUCED log 28, 29] -/
def blockDisabled (pg : Nat) (d : Dev) : Dev :=
  let h := halfAt pg
  let i := idxAt pg
  match typeAt pg with
  | some .ref => d.each 8 fun j e =>
      if 8 * i + j < 30 && e.gb (refQ h (8 * i + j)) Reg.REF.CTRL_EN then e.putCstate h (8 * i + j) 0 else e
  | some .dpl => d.each 4 fun j e =>
      let k := 4 * i + j
      if e.gb (dplL h k) Reg.DPL.CTRL_EN then (e.loopSwitched h k false).pb (dplL h k) Reg.DPL.CTRL_EN true else e
  | some .out => outRefresh h d
  | some .gnf => d.each 4 fun b e =>
      if e.gb (gnfB b) Reg.GNF.BCFG_EN then ((e.bandChans b [1, 2, 3, 4] fun c x => x.chTo c 0).bandJobsAborted b).snapBandStop b false
      else e
  | some .gna => acqFlushed d
  | some .mac => d.flushPort h i
  | some .pcs => d.portDown (2 * i + h.num)
  | some .swc => d.each 5 fun j e => e.flushPort h j
  | some .swt => d.each 5 fun j e => e.flushPort h j
  | some .lgt => gateStopped h d
  | some .trs => if i = 0 then trsFlushed h d else d
  | some .slv => (d.linkGone (2 * h.num)).linkGone (2 * h.num + 1)
  | _ => d

/-- What each page does when its ENABLE is set again: EN fields act again. [DEDUCED log 28] -/
def blockEnabled (act : Half → Nat → Dev → Dev) (pg : Nat) (d : Dev) : Dev :=
  let h := halfAt pg
  let i := idxAt pg
  match typeAt pg with
  | some .ref => d.each 8 fun j e => if 8 * i + j < 30 then refRestart h (8 * i + j) e else e
  | some .dpl => d.each 4 fun j e =>
      let k := 4 * i + j
      if e.gb (dplL h k) Reg.DPL.CTRL_EN then e.loopSwitched h k true else e
  | some .out => outRefresh h ((outputs.filter fun x => x.1 == i).foldl (fun (e : Dev) x =>
      if e.gb (outO h x.1 x.2) Reg.OUT.CFG_EN && !(e.out h x.1 x.2).stopped then e.outAnchor h x.1 x.2 else e) d)
  | some .tta => (List.range 60).foldl (fun (e : Dev) x => e.ttaEvaluate act h x) d
  | some .pcs => (d.pcfgPut (2 * i + h.num) (d.w (pg + 0x100))).1
  | _ => d

/-- A page of a half that is in safe state, unpowered or held in reset (R46): its shell alone takes writes. -/
def Dev.shellOnly (d : Dev) (pg : Nat) : Bool :=
  (match typeAt pg with | some p => (pageRow p).perHalf | none => false) && !(d.planeUp (halfAt pg))

/-- CTRL.ENABLE written (R38): ignored where it is read-only. In a page of a half in safe state the shell keeps the value, on
which the block acts from the half reset that precedes its return (R46). -/
def enableWritten (act : Half → Nat → Dev → Dev) (pg : Nat) (v : Bool) (d : Dev) : Dev :=
  let ro := match typeAt pg with | some p => enableReadOnly p | none => true
  if ro || d.enabled pg == v then d
  else if d.shellOnly pg then plainWritten (pg + 8) (bitOf v) d
  else
    let d1 := plainWritten (pg + 8) (bitOf v) d
    let d2 := if v then blockEnabled act pg d1 else blockDisabled pg d1
    match typeAt pg with
    | some .dpl => boundBases (halfAt pg) d2
    | _ => d2

/-- CTRL.SOFT_RESET of a page (R38, R564), with the re-evaluation of every armed entry in a TTA page. -/
def softResetGiven (act : Half → Nat → Dev → Dev) (pg : Nat) (d : Dev) : Dev :=
  let d1 := d.softResetAsked pg
  match typeAt pg with
  | some .tta => if d.planeUp (halfAt pg) then ttaAllEvaluated act (halfAt pg) 64 d1 else d1
  | some .dpl => boundBases (halfAt pg) d1
  | _ => d1

/-- A write of CTRL: ENABLE, then SOFT_RESET. -/
def ctrlWritten (act : Half → Nat → Dev → Dev) (pg v : Nat) (d : Dev) : Dev :=
  let d1 := enableWritten act pg (bitAt v 0) d
  if bitAt v 1 then softResetGiven act pg d1 else d1

/-- EVT_ACK of a page written (R51, R524): INDEX, OVF_SEEN and SEQ. CH_CHANGE is raised again while any bit of CHG is set (R248). -/
def evtAcked (pg v : Nat) (d : Dev) : Dev :=
  let k := getBits v 16 5
  let d1 := { d with evts := tset {} d.evts (pg + k) ((d.evt pg k).ack (v % 256) (bitAt v 8)) }
  d1.raiseIf (typeAt pg == some .gnt && k == 0 && (d.evt pg k).pend && !(d1.evt pg k).pend && d.w (pg + 0x900) != 0) pg 0

/-- LTOL written (R434): stored, and followed at once while the page's half runs; else the half's reset evaluates it (R46). -/
def ltolGiven (pg v : Nat) (d : Dev) : Dev :=
  if d.shellOnly pg then plainWritten (pg + 0x10) v d else ltolWritten pg v d

/-- A word of a page's common header written (R38, R524). -/
def headerWritten (act : Half → Nat → Dev → Dev) (pg o v : Nat) (d : Dev) : Dev :=
  if o = 0x008 then ctrlWritten act pg v d
  else if o = 0x010 then
    ltolGiven pg v d
  else if o = 0x018 then evtAcked pg v d
  else if o = 0x01C then plainWritten (pg + o) v d
  else if 0x0C8 ≤ o && o < 0x0D8 then pselWritten pg ((o - 0xC8) / 4) v d
  else if cnt8At pg && 0x100 ≤ o && o < 0x110 then pselWritten pg (4 + (o - 0x100) / 4) v d
  else d

/-! ### Service and housekeeping pages -/

/-- SYS (R58, R511, R512). -/
def sysWritten (o v : Nat) (d : Dev) : Dev :=
  if o = 0x108 then (if bitAt v 30 then d.pb sysPg Reg.SYS.ACCERR_INFO_VALID false else d)
  else if o = 0x11C then
    (if bitAt v 0 && v / 65536 % 65536 == 0x5752 then { d with start := { d.start with warm := some (d.now + 250) } } else d)
  else plainWritten (sysPg + o) v d

/-- EVC (R54): VACK clears the vectors it names. -/
def evcWritten (o v : Nat) (d : Dev) : Dev :=
  if o = 0x284 then d.setw (evcPg + 0x280) (d.w (evcPg + 0x280) &&& (0xFFFFFFFF - v % 2 ^ 32)) else plainWritten (evcPg + o) v d

/-- MBX (R62, R63). -/
def mbxWritten (pg o v : Nat) (d : Dev) : Dev :=
  if o = 0x104 then (if bitAt v 0 then mbxGone (idxAt pg) d else d) else plainWritten (pg + o) v d

/-- PMU (R450). [DEDUCED log 26] -/
def pmuWritten (h : Half) (o v : Nat) (d : Dev) : Dev :=
  if o = 0x100 then avscfgWritten h v d
  else if o = 0x108 then vsetWritten h (v % 65536) true d
  else plainWritten (pmuPg h + o) v d

/-- FLT (R456 to R462, R480). [DEDUCED log 26] -/
def fltWritten (h : Half) (o v : Nat) (d : Dev) : Dev :=
  if o = 0x108 then (if bitAt v 0 then otherReset h true d else d)
  else if o = 0x11C then
    (let d1 := if bitAt v 0 then firstCleared h d else d
     if bitAt v 1 then lostCleared h d1 else d1)
  else if o = 0x120 then lrdWritten h (v / 65536 % 65536) d
  else plainWritten (fltPg h + o) v d

/-- BST (R465, R481). -/
def bstWritten (nv : NV) (h : Half) (o v : Nat) (d : Dev) : Dev :=
  if o = 0x104 then
    (let d1 := if bitAt v 0 then bistGo h nv.scrap d else d
     if bitAt v 1 then bistAborted h d1 else d1)
  else plainWritten (bstPg h + o) v d

/-- PRF (R490, R492). -/
def prfWritten (h : Half) (o v : Nat) (d : Dev) : Dev :=
  if o = 0x10C then sizeWritten h (v % 65536) d
  else if o = 0x114 then rptrWritten h (v % 65536) d
  else plainWritten (prfPg h + o) v d

/-- TEL (R495). -/
def telWritten (h : Half) (o v : Nat) (d : Dev) : Dev :=
  if o = 0x200 then (if bitAt v 0 then telCleared h d else d) else plainWritten (telPg h + o) v d

/-! ### Timing pages -/

/-- REF (R149). -/
def refWritten (h : Half) (i o v : Nat) (d : Dev) : Dev :=
  let c := 8 * i + (o - 0x100) / 0x40
  if o < 0x100 || 0x300 ≤ o || 30 ≤ c then d
  else match (o - 0x100) % 0x40 with
    | 0x00 => refCtrlWritten h c v d
    | 0x04 => nomFreqWritten h c v d
    | _ => candRefresh h c (plainWritten (pageAddr .ref h i + o) v d)

/-- SEL (R144, R150). -/
def selWritten (h : Half) (o v : Nat) (d : Dev) : Dev :=
  if o = 0x500 then voteWritten h v d else plainWritten (selPg h + o) v d

/-- DPL (R158, R161, R176). -/
def dplWritten (h : Half) (i o v : Nat) (d : Dev) : Dev :=
  let pg := pageAddr .dpl h i
  let k := 4 * i + (o - 0x100) / 0x80
  if 0x100 ≤ o && o < 0x300 then
    match (o - 0x100) % 0x80 with
    | 0x00 =>
      let en := d.g (dplL h k) Reg.DPL.CTRL_EN
      let d1 := d.setw (pg + o) (setBits (mergeWrite (pg + o) (d.w (pg + o)) v) 0 1 en)
      let d2 := boundBases h (loopEnWritten h k (bitAt v 0) d1)
      if bitAt v 2 then realignAsked h k d2 else d2
    | 0x14 =>
      let d1 := plainWritten (pg + o) v d
      if d.g (dplL h k) Reg.DPL.ACQ_DWELL = d1.g (dplL h k) Reg.DPL.ACQ_DWELL then d1
      else d1.setLoop h k { d1.loop h k with dwell := 0 }
    | _ => plainWritten (pg + o) v d
  else plainWritten (pg + o) v d

/-- HLD (R166, R177). -/
def hldWritten (h : Half) (o v : Nat) (d : Dev) : Dev :=
  let a := hldPg h + o
  if o = 0x100 then
    (let learn := if h == .weft && !(d.outOfService .warp) then d.g (hldPg h) Reg.HLD.HCTRL_LEARN else getBits v 1 1
     let d1 := d.setw a (setBits (setBits (mergeWrite a (d.w a) v) 0 1 (d.g (hldPg h) Reg.HLD.HCTRL_EN)) 1 1 learn)
     let d2 := hctrlEnWritten h (bitAt v 0) d1
     if bitAt v 2 then modelReset h d2 else d2)
  else plainWritten a v d

/-- The loop blocks and their hop entries (R182, R185, R192): a write of an entry clears its BAND_VALID.
[DEDUCED log 242] -/
def aplWritten (h : Half) (o v : Nat) (d : Dev) : Dev :=
  let a := aplPg h + o
  if o = 0x100 then
    (let d0 := plainWritten a v d
     let d1 := if bitAt v 4 then relocked h 0 d0 else d0
     if bitAt v 5 then hopped h 0 d1 else d1)
  else if o < 0x140 then plainWritten a v d
  else if o = 0x300 then
    (let d1 := ratioRefresh h (plainWritten a v d)
     let d2 := if bitAt v 4 then relocked h 1 d1 else d1
     if bitAt v 5 then hopped h 1 d2 else d2)
  else if o = 0x30C then mWritten h v d
  else if (0x140 ≤ o && o < 0x240) || (0x340 ≤ o && o < 0x440) then
    (let cfg := a - o % 0x10
     let d1 := plainWritten a v d
     if o % 0x10 = 0xC then d1 else d1.setw cfg (setBits (d1.w cfg) 30 1 0))
  else if o = 0x500 then dctrlWritten h v d
  else if o = 0x514 then dacCodeWritten h (v % 2 ^ 24) d
  else plainWritten a v d

/-- OUT (R196). -/
def outWritten (h : Half) (i o v : Nat) (d : Dev) : Dev :=
  let j := (o - 0x100) / 0x40
  if o < 0x100 || !(outputs.contains (i, j)) then d
  else match (o - 0x100) % 0x40 with
    | 0x0 => outCfgWritten h i j v d
    | 0x8 => outDivWritten h i j (v % 4) d
    | _ => plainWritten (outPg h i + o) v d

/-- TSU (R72, R78): the leap table is written in Warp's index 0 alone. -/
def tsuWritten (h : Half) (i o v : Nat) (d : Dev) : Dev :=
  let pg := pageAddr .tsu h i
  let n := 4 * i + (o - 0x100) / 0x80
  if o < 0x100 then d
  else if o < 0x300 then
    match (o - 0x100) % 0x80 with
    | 0x00 => tsuCtrlWritten h n v d
    | 0x34 => fadjWritten h n (v % 65536) d
    | 0x3C => padjWritten h n (v % 65536) d
    | _ => plainWritten (pg + o) v d
  else if i ≠ 0 || h == .weft then d
  else if o = 0x300 then leapCtrlWritten h v d
  else plainWritten (pg + o) v d

/-- TDC (R94, R101, R102, R107, R111, R113). -/
def tdcWritten (h : Half) (i o v : Nat) (d : Dev) : Dev :=
  let cp := 16 * i + (o - 0x100) / 0x20
  if 0x100 ≤ o && o < 0x300 then
    match (o - 0x100) % 0x20 with
    | 0x00 => pointRefresh h cp (capCfgWritten h cp v d)
    | 0x04 => thrWritten h cp (v % 1024) d
    | 0x08 => divWritten h cp (v % 2 ^ 24) d
    | 0x0C => qrdWritten h cp (v / 65536 % 65536) d
    | 0x14 => if bitAt v 31 then missedCleared h cp d else d
    | _ => plainWritten (pageAddr .tdc h i + o) v d
  else plainWritten (pageAddr .tdc h i + o) v d

/-! ### GNSS pages -/

/-- GNF (R230, R237, R245). -/
def gnfWritten (o v : Nat) (d : Dev) : Dev :=
  let b := (o - 0x100) / 0x100
  let x := (o - 0x100) % 0x100
  if 0x100 ≤ o && o < 0x500 then
    if x < 0x0C then bandWritten b x v d
    else if 0x40 ≤ x && x < 0xC0 && (x - 0x40) % 0x10 < 0x0C then notchWritten b ((x - 0x40) / 0x10) ((x - 0x40) % 0x10) v d
    else plainWritten (gnfPg + o) v d
  else plainWritten (gnfPg + o) v d

/-- GNA (R231, R246). -/
def gnaWritten (o v : Nat) (d : Dev) : Dev :=
  if o = 0x118 then
    (let d1 := if bitAt v 1 then acqFlushed d else d
     if bitAt v 0 then acqSubmitted d1 else d1)
  else if o = 0x130 then (if bitAt v 0 then acqPopped d else d)
  else plainWritten (gnaPg + o) v d

/-- GNT (R235, R238, R247): the loop settings of a channel of firmware's are firmware's. -/
def gntWritten (i o v : Nat) (d : Dev) : Dev :=
  let c := 32 * i + (o - 0x100) / 0x40
  let a := pageAddr .gnt .warp i + o
  if 0x100 ≤ o && o < 0x900 then
    match (o - 0x100) % 0x40 with
    | 0x0 =>
      let d1 := channelOwned c (bitAt v 0) d
      if bitAt v 1 then channelStopped c d1 else d1
    | 0x4 => if d.gb (gntC c) Reg.GNT.CCFG_OWNER then plainWritten a v d else d
    | 0x8 => if d.gb (gntC c) Reg.GNT.CCFG_OWNER then plainWritten a v d else d
    | _ => plainWritten a v d
  else if o = 0x904 then chgCleared i v d
  else plainWritten a v d

/-- SNCTRL.ABORT (R265, R266): a capture ends with the samples taken, a processing and its command end.
[DEDUCED log 116] -/
def snapAbortAsked (samples : List (List Byte)) (d : Dev) : Dev :=
  let d1 := snapAborted samples d
  if d.g gnsPg Reg.GNS.SNSTAT_STATE = 2 then snapCancelled d1 else d1

/-- GNS (R253, R263, R265, R267): the last three constellation offsets do not exist. -/
def gnsWritten (o v : Nat) (d : Dev) : Dev :=
  if o = 0x100 then scfgWritten v d
  else if o = 0x11C then positionWritten v d
  else if o = 0x180 then icfgWritten v d
  else if o = 0x188 then itolWritten v d
  else if 0x174 ≤ o && o < 0x180 then d
  else if o = 0x204 then
    (let d1 := if bitAt v 0 then snapStarted (d.g gnsPg Reg.GNS.SNCFG_LEN) (d.tb0 d.lead) d else d
     if bitAt v 1 then snapAbortAsked [] d1 else d1)
  else plainWritten (gnsPg + o) v d

/-! ### Network pages -/

/-- MAC (R284, R286). -/
def macWritten (h : Half) (i o v : Nat) (d : Dev) : Dev :=
  if o = 0x148 then snapWritten (2 * i + h.num) v d else plainWritten (pageAddr .mac h i + o) v d

/-- PCS (R270, R281, R285). -/
def pcsWritten (h : Half) (i o v : Nat) (d : Dev) : Dev :=
  let p := 2 * i + h.num
  if o = 0x100 then pcfgWritten p v d
  else if o = 0x120 then txTrimWritten p v d
  else if o = 0x12C then esmcCtlWritten p v d
  else plainWritten (pcsPg p + o) v d

/-- SWC (R291, R306): the forwarding window; H has no transparent clock, link delay or flow control. -/
def swcWritten (h : Half) (o v : Nat) (d : Dev) : Dev :=
  if 0x800 ≤ o then
    fwdWritten h (128 * d.g (swcPg h) Reg.SWC.FWSEL + (o - 0x800) / 16) ((o - 0x800) / 4 % 4) v d
  else if o = 0x180 then (let a := swcPg h + o; d.setw a (setBits (mergeWrite a (d.w a) v) 3 1 (getBits (d.w a) 3 1)))
  else if o = 0x188 || o = 0x18C then d
  else plainWritten (swcPg h + o) v d

/-- LGT (R326, R328). -/
def lgtWritten (h : Half) (o v : Nat) (d : Dev) : Dev :=
  if 0x100 ≤ o && o < 0x200 && (o - 0x100) % 0x40 == 0x30 then rptctlWritten (2 * ((o - 0x100) / 0x40) + h.num) v d
  else plainWritten (lgtPg h + o) v d

/-- TRS: services and client instances (R366), and the service addresses (R331, R367). -/
def trsWritten (h : Half) (i o v : Nat) (d : Dev) : Dev :=
  if i = 1 then
    (if 0x100 ≤ o && o < 0x900 then svcWordWritten h ((o - 0x100) / 0x20) ((o - 0x100) / 4 % 8) v d
     else plainWritten (pageAddr .trs h i + o) v d)
  else if 0x140 ≤ o && o < 0x340 && o % 0x20 == 0x0C then
    plainWritten (trsPg h + o) (v &&& (0xFFFFFF00 + if h = .warp then 0x55 else 0xAA)) d
  else if 0x3A0 ≤ o && o < 0x4A0 then instConfigWritten h ((o - 0x3A0) / 0x40) ((o - 0x3A0) % 0x40) v d
  else if 0x140 ≤ o && o < 0x340 && o % 0x20 == 0 then instsRefresh h (plainWritten (trsPg h + o) v d)
  else plainWritten (pageAddr .trs h i + o) v d

/-- GRT (R363, R368). -/
def grtWritten (h : Half) (o v : Nat) (d : Dev) : Dev :=
  if o = 0x11C then grantRevoked h (v % 4096) d else plainWritten (grtPg h + o) v d

/-- RLT (R352, R369). -/
def rltWritten (h : Half) (o v : Nat) (d : Dev) : Dev :=
  if 0x140 ≤ o && o < 0x150 then hkeyWritten h ((o - 0x140) / 4) v d
  else if o = 0x15C then (if bitAt v 0 then rateCleared h d else d)
  else plainWritten (rltPg h + o) v d

/-- HDM (R529, R534). -/
def hdmWritten (o v : Nat) (d : Dev) : Dev :=
  let q := (o - 0x100) / 0x40
  if 0x100 ≤ o && o < 0x500 then
    match (o - 0x100) % 0x40 with
    | 0x0 => qcfgWritten q v d
    | 0xC => prodWritten q (v % 65536) d
    | _ => plainWritten (hdmPg + o) v d
  else plainWritten (hdmPg + o) v d

/-! ### Keys and the duplicate service -/

/-- CAD (R388, R394): the tamper policy and the slot selection read alike in both halves. -/
def cadWritten (h : Half) (o v : Nat) (d : Dev) : Dev :=
  if o = 0x180 then zeroWritten v d
  else if o = 0x104 || o = 0x108 then plainWritten (cadPg .weft + o) v (plainWritten (cadPg .warp + o) v d)
  else plainWritten (cadPg h + o) v d

/-- AEG (R386, R395). -/
def aegWritten (h : Half) (o v : Nat) (d : Dev) : Dev := affinityRefresh h (plainWritten (aegPg h + o) v d)

/-- RED (R405, R430). -/
def redWritten (h : Half) (o v : Nat) (d : Dev) : Dev :=
  if o = 0x104 then topoWritten h v d
  else if o = 0x10C then outRefresh h (plainWritten (redPg h + o) v d)
  else plainWritten (redPg h + o) v d

/-- SLV (R404, R431). -/
def slvWritten (h : Half) (o v : Nat) (d : Dev) : Dev :=
  if o = 0x100 then lcfgWritten (2 * h.num) v d
  else if o = 0x180 then lcfgWritten (2 * h.num + 1) v d
  else plainWritten (pageAddr .slv h 0 + o) v d

/-- A word of a page beyond its header written, in every page but TTA. -/
def pageWritten (nv : NV) (a v : Nat) (d : Dev) : Dev :=
  let o := pageOff a
  let h := halfAt a
  let i := idxAt a
  match typeAt a with
  | some .sys => sysWritten o v d
  | some .evc => evcWritten o v d
  | some .mbx => mbxWritten (pageBase a) o v d
  | some .pmu => pmuWritten h o v d
  | some .flt => fltWritten h o v d
  | some .bst => bstWritten nv h o v d
  | some .prf => prfWritten h o v d
  | some .tel => telWritten h o v d
  | some .ref => refWritten h i o v d
  | some .sel => selWritten h o v d
  | some .dpl => dplWritten h i o v d
  | some .hld => hldWritten h o v d
  | some .apl => aplWritten h o v d
  | some .out => outWritten h i o v d
  | some .tsu => tsuWritten h i o v d
  | some .tdc => tdcWritten h i o v d
  | some .bnd => if o = 0x308 then attcfgWritten h v d else plainWritten a v d
  | some .gnf => gnfWritten o v d
  | some .gna => gnaWritten o v d
  | some .gnt => gntWritten i o v d
  | some .gns => gnsWritten o v d
  | some .mac => macWritten h i o v d
  | some .pcs => pcsWritten h i o v d
  | some .swc => swcWritten h o v d
  | some .lgt => lgtWritten h o v d
  | some .trs => trsWritten h i o v d
  | some .grt => grtWritten h o v d
  | some .rlt => rltWritten h o v d
  | some .hdm => hdmWritten o v d
  | some .cad => cadWritten h o v d
  | some .aeg => aegWritten h o v d
  | some .red => redWritten h o v d
  | some .slv => slvWritten h o v d
  | _ => plainWritten a v d

/-- The bits of a written word beyond its writable ones, kept where the lifecycle makes test controls live (R42, R473).
[DESIGN CHOICE log 240] -/
def testsWritten (a v : Nat) (d : Dev) : Dev :=
  if d.testsLive then { d with tests := tset 0 d.tests a (BitVec.ofNat 32 (v &&& (0xFFFFFFFF - writeMask a))) } else d

/-- A register word written, by any master, in every page but the words of timed actions. -/
def wordWritten (act : Half → Nat → Dev → Dev) (nv : NV) (a v : Nat) (d : Dev) : Dev :=
  if pageOff a < headerEnd a then headerWritten act (pageBase a) (pageOff a) v d else pageWritten nv a v (testsWritten a v d)

end Sys2Proof.Machine
end

