-- ==== Sys2Proof/Machine/Fire.lean ====
section
/-! DEFINITION. What a firing of a timed action does, by its KIND (R86 to R88), and the write of any register word, the
entries of timed actions among them. -/

namespace Sys2Proof.Machine

/-- SNAPSHOT (R86, R263): the length is the argument, the trigger the entry's instant. In the VXH8256-N the firing is refused
(R90). [DESIGN CHOICE log 33] -/
def snapshotAct (nv : NV) (h : Half) (e : Nat) (d : Dev) : Dev :=
  if nv.variantN then d.ttaRefused h else snapStarted (d.ttaArg h e) (d.inTb h (d.ttaTb h e) 0 (ns32 (d.ttaNs h e))) d

/-- CONTROL (R86, R240): firmware's measurement latch in its own entries; in a host entry a firmware control cycle, of which
the manual gives no further effect. [DEDUCED log 208] -/
def controlAct (ms : List ChanMeas) (h : Half) (e : Nat) (d : Dev) : Dev :=
  if 60 ≤ e then measurementLatch h (d.ttaNs h e) ms d else d

/-- The data word of an entry (R86). -/
def ttaData (h : Half) (e : Nat) : Nat := ttaPg h + 0xA00 + 4 * e

/-- REG_WRITE (R86, R88): an argument that a live write has made unaligned draws the error of R43; else the data word is written to the argument's offset as master `ta` of the half; a write that is
discarded with an access event refuses the firing too. [DEDUCED log 208] -/
def regWriteAct (nv : NV) (h : Half) (e : Nat) (d : Dev) : Dev :=
  let a := d.ttaArg h e % 2 ^ 24
  if a % 4 ≠ 0 then (d.accError (Master.ta h) a true .align).ttaRefused h
  else
    let d1 := d.writeAt (Master.ta h) a (wordWritten (fun _ _ x => x) nv a (d.w (ttaData h e)))
    if (d.accessError (Master.ta h) a true).isSome then d1.ttaRefused h else d1

/-- What a firing of an entry does (R86). -/
def fireAct (nv : NV) (ms : List ChanMeas) (h : Half) (e : Nat) (d : Dev) : Dev :=
  match d.ttaKind h e with
  | 1 => pulseAct h e d
  | 2 => outStartAct h e d
  | 3 => outStopAct h e d
  | 4 => triggerAct h e d
  | 5 => syncTxAct h e d
  | 6 => snapshotAct nv h e d
  | 7 => controlAct ms h e d
  | 8 => regWriteAct nv h e d
  | 9 => domainSwitchAct h e d
  | _ => d

/-- A word of the TTA page written (R86, R89). -/
def ttaWritten (nv : NV) (m : Master) (h : Half) (o v : Nat) (d : Dev) : Dev :=
  let e := (o - 0x200) / 0x20
  let act := fireAct nv []
  if 0x200 ≤ o && o < 0xA00 then
    match (o - 0x200) % 0x20 with
    | 0x00 => ttaActWritten act m h e v d
    | 0x04 => ttaInstantWritten act m h e 0x04 v d
    | 0x08 => ttaInstantWritten act m h e 0x08 v d
    | 0x0C => ttaInstantWritten act m h e 0x0C v d
    | _ => if ttaWritable m e then plainWritten (ttaPg h + o) v d else d
  else if 0xA00 ≤ o && o < 0xB00 then
    (if ttaWritable m ((o - 0xA00) / 4) then plainWritten (ttaPg h + o) v d else d)
  else plainWritten (ttaPg h + o) v d

/-- What a write of a register word does at its page (R38 to R42). -/
def applyWrite (nv : NV) (m : Master) (a v : Nat) (d : Dev) : Dev :=
  if typeAt a = some .tta && headerEnd a ≤ pageOff a then ttaWritten nv m (halfAt a) (pageOff a) v d
  else wordWritten (fireAct nv []) nv a v d

/-- A 32-bit aligned write by a master: performed, or discarded with its access error (R43 to R48). -/
def Dev.write32 (d : Dev) (nv : NV) (m : Master) (a v : Nat) : Dev := d.writeAt m a (applyWrite nv m a v)

end Sys2Proof.Machine
end

