-- ==== Sys2Proof/Machine/Start.lean ====
section
/-! DEFINITION. Start-up and resets (R496 to R512): the phases of a start, the seed of the timebases, what the journal and
the provisioning image restore, entry into service, and the power-on, warm and PCIe resets. -/

namespace Sys2Proof.Machine

/-- The addresses of every page of the device. -/
def allPages : List Nat :=
  pageTable.flatMap fun r => (if r.perHalf then [Half.warp, Half.weft] else [Half.warp]).flatMap fun h =>
    (List.range (r.maxIdx + 1)).map fun i => pageAddr r.page h i

/-- The TAI second at which a GPS week begins. -/
def weekStart (w : Nat) : Nat := w * 604800 + 315964819

/-- A half takes part in the start: its core rail is in range, and nothing has stopped it (R496, R498, R500). -/
def Dev.starts (d : Dev) (h : Half) : Bool :=
  !(d.hs h).heldReset && !(d.hs h).safe && (d.hs h).powered && !(d.start.dead.contains h)

/-- A half's start stops (R498). -/
def Dev.stopStart (d : Dev) (h : Half) : Dev := { d with start := { d.start with dead := h :: d.start.dead } }

/-- PHASE of START_STAT. -/
def Dev.phaseOf (d : Dev) : Nat := d.g sysPg Reg.SYS.START_STAT_PHASE

/-- FUSES (R498): lifecycle, CHIPID, saved repairs; the pages that the part does not have stay ISOLATED (R5); a half whose
rail is out of range is held in reset. After a C3 fault nothing starts until VDDS has been removed (R463).
[DESIGN CHOICE log 226] -/
def Dev.fusesRead (d : Dev) (i : StartIn) (nv : NV) : Dev :=
  let have_ := nv.repairs.foldl (fun (t : Tab (List (Nat × Nat))) (e : Nat × List (Nat × Nat)) =>
    if (tget [] t e.1).isEmpty then tset [] t e.1 e.2 else t) d.repairs
  let d1 := { d.lcsShow nv with repairs := have_ }
  let d2 := d1.both fun h e => e.p (redPg h) Reg.RED.TOPO_CHIPID i.chipid
  let d3 := if nv.variantN then
      allPages.foldl (fun (e : Dev) pg => match typeAt pg with
        | some p => if isGnss p then e.setPage pg { e.page pg with isolated := true } else e
        | none => e) d2
    else d2
  let d4 := d3.both fun h e =>
    if i.rails.of h then e else { e with half := e.half.put h { e.hs h with heldReset := true } }
  if d4.fatalNLow then d4.both fun h e => { e with half := e.half.put h { e.hs h with safe := true, byFault := true } } else d4

/-- The ratio that the image gives, or without one 10 GHz over the measured frequency to the nearest 10 kHz (R500). -/
def startRatio (i : StartIn) (h : Half) : Nat × Ratio :=
  match i.image with
  | some m => (m.fixn.of h, m.m0.of h)
  | none =>
    let f := (i.lo.of h + 5000) / 10000 * 10000
    (20, { int := 10 ^ 10 / f, num := 10 ^ 10 % f, den := f })

/-- CLOCKS in a half (R183, R498, R500): the fixed loop locks at its ratio, the steered loop searches from the same; an
oscillator out of range, or without an edge, stops the half with a TB_CLOCK fault. [DEDUCED log 97] -/
def Dev.clocksStarted (d : Dev) (i : StartIn) (h : Half) : Dev :=
  if !(d.starts h) then d
  else if i.lo.of h < 10000000 || 100000000 < i.lo.of h then (d.clockFault h).stopStart h
  else
    let r := startRatio i h
    let b := aplBase h 0
    let d1 := [0, 1].foldl (fun (e : Dev) j =>
      (((e.p (aplBase h j) Reg.APL.M_INT_FIXN r.1).p (aplBase h j) Reg.APL.M_INT_MINT r.2.int).p (aplBase h j)
        Reg.APL.M_NUM r.2.num).p (aplBase h j) Reg.APL.M_DEN r.2.den) d
    let d2 := ((d1.setApl h 0 { d1.apl h 0 with mint := r.2.int, mnum := r.2.num, mden := r.2.den }).p b
      Reg.APL.LSTAT_STATE 2).inc b Reg.APL.LOCKCNT_LOCKS
    (d2.putRatio h r.2.int r.2.num r.2.den).relock h none

/-- ROOT (R371 to R374, R391, R473): skipped under tamper and in a state that never regenerates the root; four failed
reconstructions, or no helper data, put the half in root failure; check values that differ put Weft in it.
[DEDUCED log 210] -/
def Dev.rootsStarted (d : Dev) (i : StartIn) (nv : NV) : Dev :=
  if d.gb ktlPg Reg.KTL.KSTAT_TAMPER_SEEN then d.tamperStart none
  else if nv.lifecycle = 4 || nv.lifecycle = 5 then d
  else
    let bad := fun h => decide (4 ≤ i.roots.of h) || nv.lifecycle == 0
    let d1 := d.both fun h e => if e.starts h && bad h then e.rootFailed h else e
    if d.starts .warp && d.starts .weft && !(bad .warp) && !(bad .weft) && !i.chk then d1.rootMismatch else d1

/-- BOOT (R498, R499): the valid patch slot of the higher version runs in both halves, else ROM firmware alone.
[DEDUCED log 209] -/
def Dev.booted (d : Dev) (i : StartIn) (nv : NV) : Dev :=
  let slots := (List.range i.patch.length).zip i.patch
  let valid := slots.filter fun s => s.2.1 && decide (nv.minPatch ≤ s.2.2)
  let best := valid.foldl (fun (a : Option (Nat × Bool × Nat)) s =>
    match a with
    | none => some s
    | some x => if x.2.2 < s.2.2 then some s else a) none
  let d1 := d.pb sysPg Reg.SYS.START_STAT_PATCH_REJECT (valid.length != slots.length)
  let d2 := match best with
    | none => d1
    | some s =>
      let e := (d1.pb sysPg Reg.SYS.START_STAT_PATCHED true).p sysPg Reg.SYS.START_STAT_PATCH_SLOT s.1
      { e with start := { e.start with patch := some (s.1, s.2.2) } }
  d2.both fun h e => if e.starts h then { e with half := e.half.put h { e.hs h with coresUp := true } } else e

/-- TEST (R467, R498): a failed page takes the class of its fault; a C2 result stops its half's start. -/
def Dev.startTested (d : Dev) (tests : List (Nat × BistSeen)) : Dev :=
  tests.foldl (fun (e : Dev) t =>
    if !(pageExists t.1) || (t.2.fails = 0 && !t.2.logic) then e
    else
      let e1 := e.testFault t.1 t.2
      if (testRecord t.1 t.2).cls = 2 then e1.stopStart (halfAt t.1) else e1) d

/-- The phases FUSES to TEST from t0 (R498); Weft times the shared schedules where it starts without Warp (R19). A SCRAP part's halves enter safe state (R473).
[DESIGN CHOICE log 189; DEDUCED log 211] -/
def Dev.startRun (d : Dev) (i : StartIn) (nv : NV) : Dev :=
  let d0 := { d with start := { held := false, t0 := d.now } }
  let d1 := (d0.fusesRead i nv).pb sysPg Reg.SYS.START_STAT_IMG_BAD i.image.isNone
  let d2 := d1.both fun h e => e.clocksStarted i h
  let d3 := ((d2.rootsStarted i nv).booted i nv).startTested i.tests
  let d4 := if nv.lifecycle = 5 then safeOnCommand d3 else d3
  let d5 := outRefresh .weft (outRefresh .warp (bridgeRefresh d4))
  { d5 with sched := { d5.sched with half := if d5.starts .warp || !(d5.starts .weft) then .warp else .weft } }.p sysPg Reg.SYS.START_STAT_PHASE (if d5.starts .warp || d5.starts .weft then 5 else 0xF)

/-- PORST_RELEASE (R497, R498), once CORE_EN is asserted. -/
def porstReleased (i : StartIn) (nv : NV) (d : Dev) : Dev :=
  if !d.start.held || d.kettle.phase ≠ 0 || !d.kettle.coreEn then d else d.startRun i nv

/-- A half's timebases loaded with the seed (R501), with the seed bound of TB0 (R502). [DEDUCED log 57] -/
def Dev.seeded (d : Dev) (h : Half) (count : Nat) (bound : Option Nat) : Dev :=
  let d1 := d.each 16 fun n e => e.setTb h n { e.tb h n with count := count % countMod, padjRem := 0, stepReq := 0 }
  match bound with
  | some b =>
    ((d1.p (bndN h 0) Reg.BND.LOCAL b).pb (bndN h 0) Reg.BND.BSTAT_SAT (b == unbounded)).setBnd h 0
      { d1.bnd h 0 with seed := some (b, d1.count h 0) }
  | none => d1

/-- TIME_SEED (R501, R502): KTIME as it was `ticks` device ticks ago, at the crystal edge, and the ticks since; or the date
floor's week where KVALID is 0. [DEDUCED log 215] -/
def timeSeeded (ticks : Nat) (nv : NV) (d : Dev) : Dev :=
  if d.start.held || 6 ≤ d.phaseOf || !(d.starts .warp || d.starts .weft) then d
  else
    let valid := d.gb ktlPg Reg.KTL.KSTAT_KVALID
    let base : Nat := if valid then { d with now := d.now - ticks }.ktime * secUnit / 2 ^ 32 else weekStart nv.floor * secUnit
    let bound := if valid then
        some (if d.g ktlPg Reg.KTL.KBOUND = 0xFFFFFFFF then unbounded else min unbounded ((d.g ktlPg Reg.KTL.KBOUND + 10) * 1000))
      else none
    let d1 := d.both fun h e =>
      if e.starts h && e.clockValid h then e.seeded h (base + ticks * 4 * nsUnit) bound else e
    let finite := valid && d.g ktlPg Reg.KTL.KBOUND != 0xFFFFFFFF
    { d1.pb sysPg Reg.SYS.START_STAT_SEEDED valid with sol := { d1.sol with finite := finite } }

/-- What the journal gives a half's registers (R505): the leap table as active and staging copy with GEN 0, and the holdover
model with AGED set. -/
def Dev.journalRead (d : Dev) (nv : NV) (h : Half) : Dev :=
  let put := fun (e : Dev) (ofs : Nat) (ws : List Word) =>
    (leapOffsets.zip ws).foldl (fun (x : Dev) (y : Nat × Word) => x.setw (leapPg h + y.1 + ofs) y.2.toNat) e
  let d1 := match nv.leap with
    | none => d
    | some ws => ((put (put d 0 ws) 0x90 ws).p (leapPg h) Reg.TSU.LEAP_STAT_GEN 0).each 16 fun n e => leapRefresh h n e
  match nv.model with
  | none => d1
  | some ws =>
    let d2 := (modelOffsets.zip (ws.drop 1)).foldl (fun (x : Dev) (y : Nat × Word) => x.setw (hldPg h + y.1) y.2.toNat) d1
    ((d2.p (hldPg h) Reg.HLD.HSTAT_MODEL (getBits ((ws[0]?.getD 0).toNat) 4 2)).pb (hldPg h) Reg.HLD.HSTAT_AGED true).setHm h
      { d2.hm h with agedRun := 0, aged := (d2.s48 (hldPg h) Reg.HLD.Y0_LO Reg.HLD.Y0_HI, d2.g (hldPg h) Reg.HLD.SIG_Y) }

/-- Records of persistent keys that a start restores: none that a pending intent names (R385, R510). -/
def NV.keysLeft (nv : NV) : Tab (List Byte × List Byte) :=
  nv.keys.filter fun (e : Nat × (List Byte × List Byte)) => !(nv.intents.contains e.1)

/-- Caddy restored in a half (R372, R385, R389): not under tamper, nor without a root; KEYS_READY waits for a zeroisation. -/
def Dev.caddyRestored (d : Dev) (nv : NV) (h : Half) : Dev :=
  let p := cadPg h
  if d.gb p Reg.CAD.CSTAT_TAMPER_LOCK || d.gb p Reg.CAD.CSTAT_ROOT_FAIL || nv.lifecycle = 4 || nv.lifecycle = 5 then d
  else
    let finite := match (d.bnd h 0).seed with | some s => decide (s.1 < unbounded) | none => false
    match (d.cad h).zero with
    | none => d.keysStarted h nv.keysLeft finite
    | some z =>
      let d1 := d.keysStarted h (nv.keysLeft.filter fun (e : Nat × (List Byte × List Byte)) => !((zeroRange z).contains e.1)) finite
      { d1.pb p Reg.CAD.CSTAT_KEYS_READY false with evts := d.evts }

/-- KEYS_READY set once a zeroisation that a start waited for has ended (R389, R398). [DEDUCED log 213] -/
def keysAwaited (d : Dev) : Dev :=
  d.both fun h e =>
    let p := cadPg h
    if (e.hs h).restored && (e.cad h).zero.isNone && !(e.gb p Reg.CAD.CSTAT_KEYS_READY) && !(e.gb p Reg.CAD.CSTAT_ROOT_FAIL)
        && !(e.gb p Reg.CAD.CSTAT_TAMPER_LOCK) && e.gb p Reg.CAD.CSTAT_PERSIST_OK then
      (e.pb p Reg.CAD.CSTAT_KEYS_READY true).raise p 0
    else e

/-- One image write at a page (R506), and whether the device refuses it: no such page, an isolated one, an undefined offset,
or a service address that does not become valid. [DESIGN CHOICE log 6; DEDUCED log 212] -/
def Dev.imageWrite (d : Dev) (nv : NV) (h : Half) (a v : Nat) : Dev :=
  let skip := fun (e : Dev) => e.incSat sysPg Reg.SYS.START_STAT_IMG_SKIP
  let entry := decide (typeAt a = some .trs) && idxAt a == 1 && decide (0x100 ≤ pageOff a) && (pageOff a - 0x100) % 0x20 == 0x1C
  if !(pageExists a) || (d.page (pageBase a)).isolated || (headerEnd a ≤ pageOff a && (rowAt a).isNone) then skip d
  else
    let d1 := applyWrite nv (Master.fw h) a v d
    if entry && bitAt v 31 && !(bitAt (d1.w a) 31) then skip d1 else d1

/-- The image's writes in list order, each to the page in every half named (R506). [DEDUCED log 212] -/
def Dev.imageApplied (d : Dev) (nv : NV) (hs : List Half) (ws : List (Nat × Nat)) : Dev :=
  ws.foldl (fun (e : Dev) (x : Nat × Nat) =>
    let a := x.1 / 4 * 4
    match typeAt a with
    | some p =>
      if (pageRow p).perHalf then
        hs.foldl (fun (y : Dev) h => y.imageWrite nv h (pageAddr p h (idxAt a) + pageOff a) x.2) e
      else if d.sysReady then e
      else e.imageWrite nv (hs.headD .warp) a x.2
    | none => e.incSat sysPg Reg.SYS.START_STAT_IMG_SKIP) d

/-- The halves whose RESTORE completes now. -/
def Dev.restores (d : Dev) (which : Pair Bool) : List Half :=
  if d.start.held || d.phaseOf < 5 || d.phaseOf = 0xF then []
  else [Half.warp, Half.weft].filter fun h => which.of h && d.starts h && !(d.hs h).restored

/-- START_RESTORE (R391, R505, R506): the journal's items, the keys and the image's writes in each half that completes RESTORE, then
READY of its pages and, at the first, of the shared pages. `bootsOk` is whether BOOTS could be written. -/
def startRestored (which : Pair Bool) (bootsOk : Bool) (image : List (Nat × Nat)) (nv : NV) (d : Dev) : Dev :=
  let hs := d.restores which
  if hs.isEmpty then d
  else
    let first := !d.sysReady
    let d1 := hs.foldl (fun (e : Dev) h => (e.journalRead nv h).caddyRestored nv h) d
    let d2 := match first, nv.pos with
      | true, some p => ((d1.putPos p.1).p gnsPg Reg.GNS.POSUNC p.2).p gnsPg Reg.GNS.SCFG_MODE 2
      | _, _ => d1
    let d3 := if d2.gb sysPg Reg.SYS.START_STAT_IMG_BAD then d2 else d2.imageApplied nv hs image
    let d4 := hs.foldl (fun (e : Dev) h =>
      let x := (e.p sysPg Reg.SYS.START_STAT_HALVES (e.g sysPg Reg.SYS.START_STAT_HALVES ||| 2 ^ h.num)).setRd h
        { e.rd h with copied := [] }
      { x with half := x.half.put h { x.hs h with restored := true } }) d3
    let d5 := allPages.foldl (fun (e : Dev) pg =>
      let mine := match typeAt pg with
        | some p => if (pageRow p).perHalf then hs.contains (halfAt pg) else first
        | none => false
      if mine && !(e.page pg).isolated then e.setPage pg { e.page pg with ready := true, idleSince := e.now } else e) d4
    let d6 := if first then
        let locked := d5.gb (cadPg d5.lead) Reg.CAD.TSTAT_AT_START && d5.gb (cadPg d5.lead) Reg.CAD.CSTAT_TAMPER_LOCK &&
          !(d5.gb (lcsPg d5.lead) Reg.LCS.TPOL_TIMING_ON)
        let e := (d5.p sysPg Reg.SYS.START_TIME ((d.now - d.start.t0) / 250)).p sysPg Reg.SYS.START_STAT_PHASE 6
        { e with bootsOk := bootsOk && !nv.flashFailed, start := { e.start with noTiming := locked } }
      else d5
    hs.foldl (fun (e : Dev) h => outRefresh h e) d6

/-- The records that a start leaves in the journal: none that a pending intent names (R510), and, where a half reads them, none
whose check fails or whose RET_SEC has passed by a bounded count (R385); tamper leaves them unread (R392). -/
def NV.keysKept (nv : NV) (d : Dev) (hs : List Half) : Tab (List Byte × List Byte) :=
  let reads := hs.filter fun h => !(d.keysOff h) && nv.lifecycle != 4 && nv.lifecycle != 5
  nv.keysLeft.filter fun (e : Nat × (List Byte × List Byte)) => reads.all fun h =>
    match restoredSlot e.2 with
    | none => false
    | some x =>
      !(match (d.bnd h 0).seed with | some s => decide (s.1 < unbounded) | none => false) || x.2.presentAt (d.tb0 h)

/-- What START_RESTORE leaves in the journal (R505, R510): BOOTS incremented, and pending intents completed. -/
def startRestoredNV (which : Pair Bool) (bootsOk : Bool) (d : Dev) (nv : NV) : NV :=
  if (d.restores which).isEmpty || d.sysReady then nv
  else nv.journal fun nv =>
    { nv with keys := nv.keysKept d (d.restores which), intents := [], boots := if bootsOk then nv.boots + 1 else nv.boots }

/-- A half may enter SERVING on its own (R428, R504): it was left alone in Copy, or the other half is out of the start, or has
not completed RESTORE by t0 + 1 s. [DEDUCED log 214] -/
def Dev.entersAlone (d : Dev) (h : Half) : Bool :=
  (d.hs h).restored && !d.start.noTiming && d.planeUp h && d.g (redPg h) Reg.RED.RSTAT_HJOIN == 1 && !(d.serving h.other) &&
    ((d.hs h).alone || !(d.starts h.other) || (!(d.hs h.other).restored && decide (d.start.t0 + ticks1s ≤ d.now)))

/-- A half enters SERVING. -/
def Dev.servingEntered (d : Dev) (h : Half) : Dev :=
  { d.p (redPg h) Reg.RED.RSTAT_HJOIN 0 with half := d.half.put h { d.hs h with alone := false } }

/-- SERVING_ENTRY (R504), at a TB0 second boundary: both halves, once both have completed RESTORE and are aligned, or one
alone. [DESIGN CHOICE log 277] -/
def servingEntry (d : Dev) : Dev :=
  let ready := fun h => (d.hs h).restored && d.planeUp h && d.g (redPg h) Reg.RED.RSTAT_HJOIN == 1 &&
    d.gb (dplPg h 0) Reg.DPL.SKSTAT_ALIGNED
  let joint := d.phaseOf == 6 && !d.start.noTiming && ready .warp && ready .weft
  let d1 :=
    if joint then (d.servingEntered .warp).servingEntered .weft
    else if d.entersAlone .warp then d.servingEntered .warp
    else if d.entersAlone .weft then
      { d.servingEntered .weft with sched := { d.sched with half := .weft, pendMs := none } }
    else d
  if d1.serving .warp || d1.serving .weft then
    outRefresh .weft (outRefresh .warp (hclassRefresh (chipWaitRefresh (d1.p sysPg Reg.SYS.START_STAT_PHASE 7))))
  else d1

/-! ### Resets (R507) -/

/-- POWER_ON_RESET (R497, R507): PORST_N low resets everything but Kettle; FATAL stays until VDDS is removed (R459).
[DESIGN CHOICE log 43] -/
def powerOnReset (d : Dev) : Dev :=
  if d.start.held then d
  else
    let fatal := d.fatalNLow
    (d.unpowered.pb (fltPg .warp) Reg.FLT.FSTAT_FATAL fatal).pb (fltPg .weft) Reg.FLT.FSTAT_FATAL fatal

/-- A PSEL word of a page shell. -/
def isPsel (a : Nat) : Bool :=
  let o := pageOff a
  (0x0C8 ≤ o && o < 0x0D8) || (cnt8At a && 0x100 ≤ o && o < 0x110)

/-- What a warm reset leaves (R389, R478, R507): Kettle, the page shells on VDDS, a zeroisation in progress, and LOCKOUT.
[DESIGN CHOICE log 43; DEDUCED log 182] -/
def Dev.warmKept (d : Dev) : Dev :=
  let u := d.unpowered
  let fatal := d.fatalNLow
  let r := { u with
    regs := d.regs.filter fun (e : Nat × Word) =>
      isPsel e.1 || (pageBase e.1 == ktlPg && decide (0x100 ≤ pageOff e.1))
    evts := d.evts
    pcnt := d.pcnt
    ticks := d.ticks
    repairs := d.repairs
    tap := d.tap
    cads := ⟨d.cads.warp.kept, d.cads.weft.kept⟩ }
  ((r.pb (fltPg .warp) Reg.FLT.FSTAT_FATAL fatal).pb (fltPg .weft) Reg.FLT.FSTAT_FATAL fatal).both fun h e =>
    (e.pb (cadPg h) Reg.CAD.CSTAT_ZBUSY (e.cad h).zero.isSome).pb (lcsPg h) Reg.LCS.LSTATE_LOCKOUT d.lockout

/-- WARM_RESET (R508): 1 µs after the write the chip starts again from FUSES. -/
def warmReset (i : StartIn) (nv : NV) (d : Dev) : Dev :=
  match d.start.warm with
  | none => d
  | some t =>
    if d.now < t then d
    else
      let r := d.warmKept.p sysPg Reg.SYS.START_STAT_CAUSE 2
      { r with repairs := d.repairs }.startRun i nv

/-- VDDS_REMOVED (R463, R488): everything but Kettle is lost, FATAL among it. -/
def vddsRemoved (d : Dev) : Dev := { d.unpowered with kettle := d.kettle }

/-- PCIE_RESET (R507): MSI-X state and the DMA queues; queued host frames are discarded. [DEDUCED log 203] -/
def pcieReset (d : Dev) : Dev :=
  let d1 := hdmPcieReset d
  { d1 with evc := { d1.evc with pba := [], masked := [], msixEn := false }
            latch := d1.latch }

end Sys2Proof.Machine
end

