-- ==== Sys2Proof/Machine/Tick.lean ====
section
/-! DEFINITION. What one device tick of 4 ns does while no command waits: the timebases of each half whose clock is valid
advance, with PRF_TICK, the steered loops' slews, and the counters that count ticks, slots and occupancies (R69, R182, R484
to R494, R527). -/

namespace Sys2Proof.Machine

/-- The number of the counter whose PSEL word has an address (R484). -/
def pselNum (a : Nat) : Nat := if pageOff a < 0x100 then (pageOff a - 0xC8) / 4 else 4 + (pageOff a - 0x100) / 4

/-- The occupancy that an event code names (R493, R494, R527), `arg` being the counter's ARG. [DEDUCED log 206] -/
def Dev.occupancy (d : Dev) (pg code arg : Nat) : Option Nat :=
  let h := halfAt pg
  match typeAt pg with
  | some .trs => if idxAt pg = 0 && code = 5 then some (d.creditsUsed h) else none
  | some .swt =>
    if code = 5 && arg < 40 then
      some ((d.queue h (arg / 8) (arg % 8)).foldl (fun (n : Nat) id =>
        n + (match d.stored h id with | some f => f.cells | none => 0)) 0)
    else none
  | some .swc =>
    if code = 5 then some (16384 - d.free_ h)
    else if 0x10 ≤ code && code < 0x14 then some (d.ingCells (portOf h (code - 0x10)) 8)
    else none
  | some .lgt => if 0x10 ≤ code && code < 0x14 then some (d.gate (portOf h (code - 0x10))).held.length else none
  | some .grt => if code = 5 then some ((List.filter (fun (e : Nat × Grant) => e.1 / 4096 == h.num && e.2.active) d.grants).length)
    else none
  | some .rlt => if code = 5 then some (d.occupied h) else none
  | some .gna => if code = 5 then some d.acq.queue.length else none
  | _ => none

/-- The class of a tick at a port's egress (R494): 1 retired, 2 wasted, 3 front-starved, 4 back-starved; and the traffic class
of the frame being sent. The host port H takes its frames at once and is never sending. [DEDUCED log 205] -/
def Dev.slotAt (d : Dev) (h : Half) (j : Nat) : Nat × Option Nat :=
  let p := portOf h j
  if j < 4 && d.busy p then
    match (d.port p).last with
    | some f => (if f.bad then 2 else 1, f.cls)
    | none => (1, none)
  else if (List.range 8).any (fun c => !(d.queue h j c).isEmpty) then (4, none)
  else (3, none)

/-- What a tick adds to a counter in COUNT mode, from its PSEL word. [DEDUCED log 205] -/
def Dev.tickCount (d : Dev) (pg psel : Nat) : Nat :=
  let h := halfAt pg
  let code := getBits psel 0 8
  match typeAt pg with
  | some .trs =>
    if idxAt pg ≠ 0 then bitOf (code == 0xF0)
    else
      let ready := (d.rsp h).reqs.any fun r => r.stage == .arrived
      bitOf (code == 0xF0 || (code == 3 && !ready && passes psel {}) || (code == 4 && ready && passes psel {}))
  | some .swt =>
    if code = 0xF0 then 1
    else
      min 2 ((List.range 5).foldl (fun (n : Nat) j =>
        let s := d.slotAt h j
        n + bitOf (s.1 == code && passes psel { address := some j, cls := s.2 })) 0)
  | some .hdm =>
    if code = 0xF0 then 1
    else bitOf (code == 3 && getBits psel 10 3 == 3 && getBits psel 13 12 < 8 &&
      d.gb (hdmQ (getBits psel 13 12)) Reg.HDM.QSTAT_CREDIT_WAIT)
  | _ => bitOf (code == 0xF0)

/-- A counter after a tick (R485). -/
def PCnt.ticked (c : PCnt) (d : Dev) (pg psel : Nat) : PCnt :=
  let arg := getBits psel 13 12
  match getBits psel 8 2 with
  | 1 => c.add (d.tickCount pg psel)
  | 2 => (match d.occupancy pg (getBits psel 0 8) arg with | some n => c.add (bitOf (decide (arg ≤ n))) | none => c)
  | 3 => (match d.occupancy pg (getBits psel 0 8) arg with
      | some n => { c.add (bitOf (decide (arg ≤ n) && !c.above)) with above := decide (arg ≤ n) }
      | none => c)
  | _ => c

/-- The counters of the pages that count (R488). -/
def Dev.countersTicked (d : Dev) : Dev :=
  { d with pcnt := (d.regs.filter fun (e : Nat × Word) => isPsel e.1).foldl (fun (t : Tab PCnt) (e : Nat × Word) =>
      let pg := pageBase e.1
      if d.counting pg then tset {} t (pg + pselNum e.1) ((tget {} t (pg + pselNum e.1)).ticked d pg e.2.toNat) else t) d.pcnt }

/-- A half's clock ticks, and the TTA entries of KIND NONE fire (R69, R86, R180). -/
def Dev.halfTicked (d : Dev) (h : Half) : Dev :=
  if !(d.clockValid h) then d
  else
    let d1 := d.each 16 fun n e => e.setTb h n ((e.tb h n).tick (d.pslew h n))
    noneFired h (outRefresh h ({ d1 with ticks := d1.ticks.put h (d1.ticks.of h + 1) }.aplTick h))

/-- A device tick. [DESIGN CHOICE log 1] -/
def ticked (d : Dev) : Dev :=
  let d1 := (d.countersTicked.halfTicked .warp).halfTicked .weft
  { d1 with now := d.now + 1 }

end Sys2Proof.Machine
end

