-- ==== Sys2Proof/Machine/Fabric.lean ====
section
/-! DEFINITION. Operations of the register fabric and its neighbours that several commands share: writes of a span, SPI frames,
MSI-X vectors, the takeover of the shared schedules, and what several blocks do at one instant. -/

namespace Sys2Proof.Machine

/-- Consecutive aligned 32-bit writes in address order (R43). -/
def Dev.writeMany (d : Dev) (nv : NV) (m : Master) (a : Nat) : List Word → Dev
  | [] => d
  | w :: t => (d.write32 nv m a w.toNat).writeMany nv m (a + 4) t

/-- A write of a span by a master (R43): its words, or the access error of its form. Words not given are zero.
[DESIGN CHOICE log 22] -/
def Dev.writeSpan (d : Dev) (nv : NV) (m : Master) (a : Nat) (s : AccSpan) (ws : List Word) : Dev :=
  match accForm a s with
  | .words k => d.writeMany nv m a ((ws ++ List.replicate k 0#32).take k)
  | .small => d.accError m a true .size
  | .unaligned => d.accError m a true .align
  | .badBurst => d.accError m a true .burst

/-- A read of an RL group's lowest word latches the group (R41); at any other address it is a plain read.
[DEDUCED log 23] -/
def Dev.readGroup (d : Dev) (nv : NV) (m : Master) (a : Nat) : Dev :=
  match rlGroup a with
  | some g => d.readSpan nv m g.1 (.narrow .b32)
  | none => d.readSpan nv m a (.narrow .b32)

/-- SPI_FRAME (R59, R61). [DEDUCED log 25] -/
def Dev.spiBad (d : Dev) : Dev := d.raise sysPg 8

/-- The number that bytes of an SPI frame spell. -/
def spiNat (f : List Byte) (from_ len : Nat) : Nat := natOfBE ((f.drop from_).take len)

/-- A write frame (R61): applied after its eighth byte; one of another length raises SPI_FRAME. An unaligned address draws its
access error (R43). -/
def Dev.spiWrite (d : Dev) (nv : NV) (f : List Byte) : Dev :=
  if f.length < 8 then d.spiBad
  else
    let d1 := d.writeSpan nv .spi (spiNat f 1 3) (.narrow .b32) [BitVec.ofNat 32 (spiNat f 4 4)]
    if f.length = 8 then d1 else d1.spiBad

/-- A read frame (R61): what the chip returns after the address, cut at the frame's end; `wait` bytes of 0x00 pass while the
access is in progress. [DESIGN CHOICE log 24] -/
def Dev.spiRead (d : Dev) (nv : NV) (f : List Byte) (wait : Nat) : Dev :=
  if f.length < 4 then { d.spiBad with miso := List.replicate f.length 0#8 }
  else
    let d1 := d.readSpan nv .spi (spiNat f 1 3) (.narrow .b32)
    let c := tget {} d1.cpl Master.spi.num
    let reply := List.replicate (4 + wait) 0#8 ++ [0xA5#8] ++ bytesBE 4 ((c.data[0]?.getD 0).toNat) ++
      [BitVec.ofNat 8 (bitOf (!c.ok))]
    { d1 with miso := (reply ++ List.replicate f.length 0#8).take f.length }

/-- An SPI frame taken by its command byte (R61). [DEDUCED log 25] -/
def Dev.spiFrame (d : Dev) (nv : NV) (f : List Byte) (wait : Nat) : Dev :=
  match f with
  | [] => d.spiBad
  | c :: _ =>
    let quiet := List.replicate f.length 0#8
    if c = 0x02#8 then { d.spiWrite nv f with miso := quiet }
    else if c = 0x03#8 then d.spiRead nv f wait
    else { d.spiBad with miso := quiet }

/-! ### MSI-X (R54, R55) -/

/-- HOLDOFF of a vector has passed since its last generated message (R55). [DEDUCED log 267] -/
def Dev.holdoffOver (d : Dev) (v : Nat) : Bool :=
  match d.evc.lastGen.find? (fun e => e.1 == v) with
  | none => true
  | some e => decide (e.2 + 25 * (d.w (evcPg + 0x200 + 4 * v) % 65536) ≤ d.now)

/-- PF0's MSI-X function may send a vector's message now. -/
def Dev.msixOpen (d : Dev) (v : Nat) : Bool := d.evc.msixEn && !(d.evc.masked.contains v)

/-- A vector that may generate a message generates it (R55). -/
def vectorGenerated (v : Nat) (d : Dev) : Dev :=
  if d.vectorAsserted v && !(bitAt (d.w (evcPg + 0x280)) v) && d.holdoffOver v then
    let d1 := d.setw (evcPg + 0x280) (setBits (d.w (evcPg + 0x280)) v 1 1)
    let e := { d.evc with lastGen := (v, d.now) :: d.evc.lastGen.filter fun x => x.1 != v }
    { d1 with evc := if d.msixOpen v then { e with sent := v :: e.sent } else { e with pba := v :: e.pba } }
  else d

/-- PF0's MSI-X enable and a vector's mask as the host sets them, and the waiting messages that may then leave (R55).
[DESIGN CHOICE log 27] -/
def msixSet (v : Nat) (en masked : Bool) (d : Dev) : Dev :=
  let others := d.evc.masked.filter fun x => x != v
  let e := { d.evc with msixEn := en, masked := if masked then v :: others else others }
  let go := e.pba.filter fun x => en && !(e.masked.contains x)
  { d with evc := { e with pba := e.pba.filter (fun x => !(go.contains x)), sent := go ++ e.sent } }

/-! ### What several blocks do at one instant -/

/-- The shared schedules pass to Weft at its next millisecond boundary after Warp's entry to safe state (R19).
[DEDUCED log 58] -/
def scheduleTaken (d : Dev) : Dev :=
  match d.sched.pendMs with
  | none => d
  | some m =>
    if m < msOf (d.count .weft 0) then { d with sched := { d.sched with half := .weft, pendMs := none } } else d

/-- A comparison that finds a difference marks the halves as differing, for the Check step (R427). [DEDUCED log 60] -/
def diffNoted (d : Dev) : Dev :=
  if !d.halvesDiffer then d else d.both fun h e => e.setRd h { e.rd h with diffAt := e.now }

/-- The once-per-second comparisons (R71, R114, R139, R332), while both halves run. [DEDUCED log 59] -/
def settingsCompared (d : Dev) : Dev :=
  if d.planeUp .warp && d.planeUp .weft then diffNoted (trsCompare (selCompare (pinCompare (tbCompare d)))) else d

/-- What follows a step of a timebase (R76): leaps and smears, its timed actions, and for TB0 the launch gates. -/
def steppedAfter (nv : NV) (h : Half) (n : Nat) (d : Dev) : Dev :=
  let d1 := ttaStepped (fireAct nv []) h n (smearStepped h n (leapRefresh h n d))
  if n = 0 then gateStepped h d1 else d1

/-- STEP_APPLY (R76, R204): the bound of a stepped timebase is computed afresh. -/
def stepApplied (nv : NV) (h : Half) (n : Nat) (d : Dev) : Dev :=
  if !(d.stepDue h n) then d
  else if d.stepTaken h n then steppedAfter nv h n (boundStepped h n (stepLoaded h n d))
  else stepLoaded h n d

/-- REALIGN_APPLY (R161): a realign that its loop no longer permits is refused at the boundary; the held bound stays (R204). -/
def realignApplied (nv : NV) (h : Half) (k : Nat) (d : Dev) : Dev :=
  if !(d.realignDue h k) then d
  else if d.realignBad h k then
    (d.setLoop h k { d.loop h k with realign := none }).raise (dplPg h k) (dplEvt k 5)
  else steppedAfter nv h k (realigned h k d)

/-- A loop's checks at a millisecond boundary: its build-out offset drained (R141), and the conditions by which it enters
holdover (R158) and leaves it (R175). -/
def loopChecked (h : Half) (k : Nat) (d : Dev) : Dev :=
  let d1 := holdCheck h k (d.drained h k)
  match (d1.loop h k).lastIn with
  | some i => d1.syncCheck h k i
  | none => d1

/-- Every selector evaluated at a millisecond boundary (R136, R139, R169), with the checks of the same boundary: the
candidates' faults (R131), C12's solution (R249) and each loop's holdover. [DEDUCED log 70, 221] -/
def selectorsEvaluated (d : Dev) : Dev :=
  let d0 := d.both fun h e => if e.loopsRun h then candsEvaluated h e else e
  let d1 := solTimeout (d0.each 16 fun n e => e.selEvaluateOne n)
  let d2 := d1.both fun h e => e.each 16 fun k x => loopChecked h k x
  diffNoted (d2.both fun h e => boundBases h e)

/-- A vote window's end (R144 to R147), and what the bounds make of it (R203). [DEDUCED log 221] -/
def voteEnded (d : Dev) : Dev := if d.voteDue then (voteClosed d).both fun h e => boundVoted d h e else d

/-- LOOP_UPDATE (R153) with what follows it: the synthesis ratio (R181) and the bounds' bases (R201); an update is counted
(R487). [DEDUCED log 86] -/
def loopRan (h : Half) (k : Nat) (d : Dev) : Dev :=
  let d1 := boundBases h (ratioRefresh h (loopUpdated h k d))
  if d1.g (dplL h k) Reg.DPL.UPDCNT = d.g (dplL h k) Reg.DPL.UPDCNT then d1
  else d1.perf (dplPg h k) 0x01 { address := some (k % 4) }

/-- A qualifying edge taken by one half's unit: the capture, the band clocks (R222), the candidates and the holdover anchor it
feeds. -/
def Dev.edgeTaken (d : Dev) (h : Half) (cp : Nat) (fall : Bool) (e : EdgeSeen) : Dev :=
  let was := d.cap h cp
  let d0 := candEdge h cp was (d.capEdge h cp fall e)
  let d1 := if 20 ≤ cp && cp < 24 && h == d.lead && (d0.cap h cp).stamp0 != was.stamp0 then bandStamped (cp - 20) d0 else d0
  if cp = 13 && (d1.cap h cp).ecnt != was.ecnt then ppsEdge h d1 else d1

/-- EDGE_CAPTURE (R97): both halves' units take the edge; the stage of a monitored output compares its own half's stamp
(R188). In the VXH8256-N the band-input balls of CP20 to CP23 have no function (R7). -/
def edgeCaptured (nv : NV) (cp : Nat) (fall : Bool) (e0 e1 : EdgeSeen) (d : Dev) : Dev :=
  if nv.variantN && decide (20 ≤ cp) && decide (cp < 24) then d
  else
  let d1 := (d.edgeTaken .warp cp fall e0).edgeTaken .weft cp fall e1
  match outOfCp cp with
  | none => d1
  | some o =>
    match (d1.cap o.1 cp).stamp with
    | some s => if (d.cap o.1 cp).stamp = some s then d1 else
      outMonitor o.1 o.2.1 o.2.2 (d1.inTb o.1 (d1.capTb o.1 cp) (d1.outTb o.1 o.2.1 o.2.2) s) d1
    | none => d1

/-- WORD_CLOCK_TRACK (R116, R322): a port's receive or transmit word clock stamped by both halves' units. -/
def wordClockTracked (p : Nat) (tx : Bool) (words ce0 ce1 : Nat) (d : Dev) : Dev :=
  let cp := (if tx then 32 else 24) + p
  gateSees .weft cp (gateSees .warp cp (wordTracked .weft cp words ce1 (wordTracked .warp cp words ce0 d)))

/-- COMPARATOR_WRITE (R102): THR, or the CFG word with HYST, DIFF and SLOPE. -/
def comparatorWritten (h : Half) (cp : Nat) (thr : Bool) (v : Nat) (d : Dev) : Dev :=
  if thr then thrWritten h cp (v % 1024) d else pointRefresh h cp (capCfgWritten h cp v d)

/-- C13 that returns to QUALIFIED takes its loops back to HOLD_ATOMIC (R170). -/
def qualHeld (h : Half) (c : Nat) (d : Dev) : Dev :=
  let d1 := qualHold h c d
  if c = 13 && d.cstate h 13 != 3 && d1.cstate h 13 == 3 then holdSourceBack h d1 else d1

/-- A pass of the acquisition bank ends, and is counted (R232, R487). -/
def passCounted (src : AcqSrc) (p : AcqSeen) (d : Dev) : Dev :=
  let d1 := acqPassEnded src p d
  let ran := match src with
    | .host => d1.acq != d.acq
    | .firmware _ _ _ _ ms _ _ => d.fwPass ms
  if ran then d1.perf gnaPg 0x01 else d1

/-- Firmware programs its entry 60 at a second boundary of the TB0 that runs the baseband (R86, R240): a CONTROL action at each further
boundary, or every 100 ms with MLCFG.RATE 1, whose live change applies here (R245). [DEDUCED log 260] -/
def latchPlanned (d : Dev) : Dev :=
  if !(d.gnssOn) || !(d.coresRun d.lead) then d
  else
    let b := ttaE d.lead 60
    let per := if d.gb gnfPg Reg.GNF.MLCFG then 10 ^ 8 else 10 ^ 9
    let now := d.sec d.lead 0 * 10 ^ 9
    let planned := d.ttaArmed d.lead 60 && d.ttaKind d.lead 60 == 7
    if planned && d.ttaPeriod d.lead 60 == per then d
    else
      let d1 := (d.p b Reg.TTA.PER_SEC (per / 10 ^ 9)).p b Reg.TTA.PER_NSEC (per % 10 ^ 9)
      let d2 := if planned && decide (d.ttaNs d.lead 60 ≤ now) then d1 else d1.putTtaNs d.lead 60 (now + per)
      (((d2.p b Reg.TTA.ACT_KIND 7).p b Reg.TTA.ACT_TB 0).pb b Reg.TTA.ACT_ARM true).pb (ttaE d.lead.other 60) Reg.TTA.ACT_ARM false

end Sys2Proof.Machine
end

