-- ==== Sys2Proof/Machine/Settle.lean ====
section
/-! DEFINITION. What commands leave in the flash journal and the fuses beside their effect on the powered state: intents and
tombstones of zeroisations, the leap table, a surveyed position, the date floor, persistent keys, the lifecycle, saved repairs. -/

namespace Sys2Proof.Machine

/-! ### Zeroisation and keys (R385, R387, R510) -/

/-- The slots of a persistent range that a half has begun to zeroise between two states. [DEDUCED log 142] -/
def zeroBegun (old new : Dev) (h : Half) : List Nat :=
  match (new.cad h).zero with
  | none => []
  | some z => if z.2.2 && !(decide ((old.cad h).zero = some z)) then zeroRange z else []

/-- The journal once slots are to be zeroised with PERSIST: the intent is written and their records become tombstones.
[DEDUCED log 142] -/
def NV.tombstoned (nv : NV) (ks : List Nat) : NV :=
  nv.journal fun nv => { nv with
    keys := nv.keys.filter fun (e : Nat × (List Byte × List Byte)) => !(ks.contains e.1)
    intents := nv.intents ++ ks.filter fun k => !(nv.intents.contains k) }

/-- The state after a command that may have begun a zeroisation. -/
def State.settled (s : State) (d : Dev) : State :=
  { s with dev := d, nv := s.nv.tombstoned (zeroBegun s.dev d .warp ++ zeroBegun s.dev d .weft) }

/-- PURGE_DONE (R387, R510): the intents whose records are purged are cleared; a flash that has failed purges nothing (R16). -/
def State.purged (s : State) : State :=
  let done := (s.dev.cad .warp).purge ++ (s.dev.cad .weft).purge
  if s.nv.flashFailed then s
  else { s with
    dev := purgeDone s.dev
    nv := { s.nv with intents := s.nv.intents.filter fun k => !(done.contains k) } }

/-- KEY_LOAD's commit with its record (R381, R385). [DEDUCED log 143] -/
def State.keyCommitted (s : State) (b : Nat) (w : FlashEnd) : State :=
  let kept := s.nv.takes w
  let saves := fun c => bitAt (blobOf c.req).flags 0 && decide (((keyLoaded b kept c s.dev).1).code = codeFlashError)
  let d := s.dev.mbxCommit b 0x0400 fun c e =>
    let r := (keyLoaded b kept c e).1
    if saves c then { r with dev := r.dev.wroteFlash w } else r
  match (s.dev.firstCmd b 0x0400).bind fun c => (keyLoaded b kept c s.dev).2 with
  | none => s.withDev d
  | some r =>
    { s with
      dev := d
      nv := { s.nv with keys := (s.nv.keys.erase r.1).insert r.1 r.2, intents := s.nv.intents.filter fun k => k != r.1 } }

/-! ### The leap table, the position and the date floor (R253, R261, R505) -/

/-- The active leap table of the half that decides, as the journal keeps it. -/
def Dev.leapWords (d : Dev) : List Word := leapOffsets.map fun o => d.word (leapPg d.lead + o + 0x90)

/-- The state after a boundary that may have changed the active leap table: a change of GEN is journaled.
[DESIGN CHOICE log 121] -/
def State.leapSaved (s : State) (d : Dev) : State :=
  if d.g (leapPg d.lead) Reg.TSU.LEAP_STAT_GEN = s.dev.g (leapPg d.lead) Reg.TSU.LEAP_STAT_GEN then s.withDev d
  else { s with dev := d, nv := s.nv.journal fun nv => { nv with leap := some d.leapWords } }

/-- The state after a solution: a survey that ended is journaled with its uncertainty (R253).
[DESIGN CHOICE log 121] -/
def State.surveySaved (s : State) (d : Dev) : State :=
  if s.dev.solMode = 1 && d.solMode == 2 then
    { s with dev := d, nv := s.nv.journal fun nv => { nv with pos := some (d.pos, d.g gnsPg Reg.GNS.POSUNC) } }
  else s.withDev d

/-- The journal with the date floor raised to a count's week: it never moves backward (R261). [DEDUCED log 118] -/
def NV.floorTo (nv : NV) (sec : Nat) : NV := nv.journal fun nv => { nv with floor := max nv.floor (weekOf sec) }

/-- DATE_FLOOR_RECORD (R261): with a finite bound, while the deciding half's firmware runs. [DEDUCED log 118] -/
def State.floorRaised (s : State) : State :=
  if s.dev.coresRun s.dev.lead && decide (s.dev.published s.dev.lead 0 < unbounded) then
    { s with nv := s.nv.floorTo (s.dev.sec s.dev.lead 0) }
  else s

/-- MODEL_SAVE (R167): the journal takes the model while the deciding half's firmware runs. [DEDUCED log 120] -/
def State.modelKept (s : State) (w : FlashEnd) : State :=
  if s.dev.coresRun s.dev.lead then { s with dev := s.dev.wroteFlash w, nv := modelSaved w s.dev s.nv } else s

/-! ### Lifecycle, sleep, tests and starts (R444, R468, R474, R477, R505) -/

/-- LCS_SCRAP's commit (R474). -/
def State.scrapCommitted (s : State) (b : Nat) : State :=
  let t := s.settled (scrapEntered b s.nv s.dev)
  if scrapped b s.dev s.nv then { t with nv := { t.nv with lifecycle := 5 } } else t

/-- LCS_RESPOND's commit (R477 to R479): the RMA group is blown, and every slot is zeroised with its record. -/
def State.responseCommitted (s : State) (b : Nat) : State :=
  let t := s.settled (s.dev.mbxCommit b 0x0611 (responded b s.nv))
  if acceptedPurpose b s.dev s.nv = some 3 then { t with nv := respondNV b s.dev t.nv } else t

/-- KETTLE_SLEEP's commit (R444): the pending journal writes, the holdover model among them. -/
def State.sleepCommitted (s : State) (b : Nat) (w : FlashEnd) (kfofs : Int) : State :=
  { s with
    dev := kettleSlept b (s.nv.takes w) kfofs (if s.dev.sleeps b then s.dev.wroteFlash w else s.dev)
    nv := if s.dev.sleeps b then modelSaved w s.dev s.nv else s.nv }

/-- BST_DONE (R466, R468). -/
def State.testEnded (s : State) (seen : BistSeen) : State :=
  { s with
    dev := bistDone seen s.dev
    nv := s.nv.journal fun nv => { nv with repairs := repairsSaved s.dev (bistDone seen s.dev) nv.repairs } }

/-- START_RESTORE (R261, R505, R510): a start with a bound seeded from Kettle that is finite records the date floor (R502). -/
def State.startCommitted (s : State) (which : Pair Bool) (bootsOk : Bool) (image : List (Nat × Nat)) : State :=
  let d := startRestored which bootsOk image s.nv s.dev
  let nv1 := startRestoredNV which bootsOk s.dev s.nv
  let nv2 := if s.dev.sol.finite && !((s.dev.restores which).isEmpty) && !s.dev.sysReady then nv1.floorTo (s.dev.sec s.dev.lead 0) else nv1
  ({ s with nv := nv2 } : State).settled d

/-! ### Timed actions -/

/-- A live change of an armed entry's timebase or of a word of its instant (R89). -/
def ttaChanged (nv : NV) (m : Master) (h : Half) (e w v : Nat) (d : Dev) : Dev :=
  let b := ttaE h e
  d.writeAt m (b + 4 * w) fun x =>
    if w = 0 then
      ttaActWritten (fireAct nv []) m h e (setBits (x.w b) Reg.TTA.ACT_TB.lo Reg.TTA.ACT_TB.len v) x
    else ttaInstantWritten (fireAct nv []) m h e (4 * w) v x

end Sys2Proof.Machine
end

