-- ==== Sys2Proof/Machine/ExecCapture.lean ====
section
/-! DEFINITION. The commands of capture units and reference candidates: one meaning for each. -/

namespace Sys2Proof.Machine

/-- EDGE_CAPTURE: an edge at a capture point as each half's unit sees it (R97). -/
def execEdgeCapture (cp : Fin 80) (fall : Bool) (e0 e1 : EdgeSeen) (s : State) : Out :=
  .next (s.onDev fun d => edgeCaptured s.nv cp.val fall e0 e1 d)

/-- CAPTURE_CALIBRATE: a unit's dead time ends with its two calibration counts (R98). -/
def execCaptureCalibrate (h : Half) (cp : Fin 80) (c1 c2 : Nat) (s : State) : Out :=
  .next (s.onDev fun d => pointRefresh h cp.val (d.capCalibrate h cp.val c1 c2))

/-- QRD_WRITE: QRD written (R108). -/
def execQrdWrite (m : Master) (h : Half) (cp : Fin 80) (v : BitVec 16) (s : State) : Out :=
  .next (s.onDev fun d => d.writeAt m (tdcP h cp.val + 0x0C) (qrdWritten h cp.val v.toNat))

/-- MISSED_CLR: MISSED.CLR written (R111). -/
def execMissedClr (m : Master) (h : Half) (cp : Fin 80) (s : State) : Out :=
  .next (s.onDev fun d => d.writeAt m (tdcP h cp.val + 0x14) (missedCleared h cp.val))

/-- COMPARATOR_WRITE: THR, or the word with HYST, DIFF and SLOPE, written (R102). -/
def execComparatorWrite (m : Master) (h : Half) (cp : Fin 80) (thr : Bool) (v : Word) (s : State) : Out :=
  .next (s.onDev fun d => d.writeAt m (tdcP h cp.val + (if thr then 4 else 0)) (comparatorWritten h cp.val thr v.toNat))

/-- INTERVAL_TIMEOUT: 1 s passes without a stop edge (R106). -/
def execIntervalTimeout (h : Half) (cp : Fin 80) (s : State) : Out := .next (s.onDev fun d => d.capTimeout h cp.val)

/-- WORD_CLOCK_TRACK: a port's word clock is stamped (R116). -/
def execWordClockTrack (p : Fin 8) (tx : Bool) (words ce0 ce1 : Nat) (s : State) : Out :=
  .next (s.onDev fun d => wordClockTracked p.val tx words ce0 ce1 d)

/-- SELVEDGE_MARKER: a link's marker leaves or arrives and is stamped (R119). -/
def execSelvedgeMarker (l : Fin 4) (leaves : Bool) (e0 e1 : EdgeSeen) (s : State) : Out :=
  .next (s.onDev fun d => markerStamped l.val leaves e0 e1 d)

/-- TEMP_COMPENSATE: 10 ms pass: the path delay compensation of capture points, in ps, follows the die sensors (R121).
-/
def execTempCompensate (h : Half) (ps : List (Nat × Int)) (s : State) : Out :=
  .next (s.onDev fun d => pathsCompensated h ps d)

/-- REF_EN_WRITE: EN of a candidate written (R130). -/
def execRefEnWrite (m : Master) (h : Half) (c : Fin 30) (v : Bool) (s : State) : Out :=
  .next (s.onDev fun d => d.writeAt m (refQ h c.val) (refEnWritten h c.val v))

/-- AMON_INTERVAL: an activity interval ends (R132). -/
def execAmonInterval (h : Half) (c : Fin 30) (s : State) : Out :=
  .next (s.onDev fun d => Sys2Proof.Machine.amonInterval h c.val d)

/-- FMON_WINDOW: a frequency window ends (R133). -/
def execFmonWindow (h : Half) (c : Fin 30) (s : State) : Out :=
  .next (s.onDev fun d => Sys2Proof.Machine.fmonWindow h c.val d)

/-- QUAL_HOLD_EXPIRE: HOLD passes without a fault (R130, R170). -/
def execQualHoldExpire (h : Half) (c : Fin 30) (s : State) : Out := .next (s.onDev fun d => qualHeld h c.val d)

end Sys2Proof.Machine
end

