-- ==== Sys2Proof/Machine/ExecFabric.lean ====
section
/-! DEFINITION. The commands of the register fabric, SPI, interrupts, the mailboxes and power states: one meaning for each. -/

namespace Sys2Proof.Machine

/-- REGISTER_WRITE: a write by a master, with the words it brings (R43, R48). -/
def execRegisterWrite (m : Master) (a : BitVec 24) (sp : AccSpan) (ws : List Word) (s : State) : Out :=
  .next (s.settled (s.dev.writeSpan s.nv m a.toNat sp ws))

/-- RL_GROUP_READ: a read of the lowest word of a group latches it (R41). -/
def execRlGroupRead (m : Master) (a : BitVec 24) (s : State) : Out :=
  .next (s.onDev fun d => d.readGroup s.nv m a.toNat)

/-- SPI_WRITE_FRAME: an SPI frame, from CS_N low to CS_N high, that begins with the write command (R61). -/
def execSpiWriteFrame (frame : List Byte) (s : State) : Out := .next (s.settled (s.dev.spiFrame s.nv frame 0))

/-- SPI_READ_FRAME: an SPI frame that begins with the read command; `wait` bytes pass while the access is in progress
(R61). -/
def execSpiReadFrame (frame : List Byte) (wait : Nat) (s : State) : Out :=
  .next (s.onDev fun d => d.spiFrame s.nv frame wait)

/-- ACCERR_CLEAR: CLEAR written (R58). -/
def execAccerrClear (m : Master) (s : State) : Out :=
  .next (s.onDev fun d => d.writeAt m (sysPg + 0x108) (fun x => x.pb sysPg Reg.SYS.ACCERR_INFO_VALID false))

/-- SOFT_RESET: SOFT_RESET written at the page of an address (R564). -/
def execSoftReset (m : Master) (a : BitVec 24) (s : State) : Out :=
  .next (s.onDev fun d => d.writeAt m (pageBase a.toNat + 8) (softResetGiven (fireAct s.nv []) (pageBase a.toNat)))

/-- BLOCK_DISABLE: ENABLE cleared at the page of an address (R50, R563). -/
def execBlockDisable (m : Master) (a : BitVec 24) (s : State) : Out :=
  .next (s.onDev fun d => d.writeAt m (pageBase a.toNat + 8) (enableWritten (fireAct s.nv []) (pageBase a.toNat) false))

/-- BLOCK_ENABLE: ENABLE set at the page of an address (R563). -/
def execBlockEnable (m : Master) (a : BitVec 24) (s : State) : Out :=
  .next (s.onDev fun d => d.writeAt m (pageBase a.toNat + 8) (enableWritten (fireAct s.nv []) (pageBase a.toNat) true))

/-- EVT_ACK: EVT_ACK written at the page of an address (R51). -/
def execEvtAck (m : Master) (a : BitVec 24) (v : Word) (s : State) : Out :=
  .next (s.onDev fun d => d.writeAt m (pageBase a.toNat + 0x18) (evtAcked (pageBase a.toNat) v.toNat))

/-- VECTOR_GENERATE: a vector generates its message where it may (R55). -/
def execVectorGenerate (v : Fin 32) (s : State) : Out := .next (s.onDev fun d => vectorGenerated v.val d)

/-- VACK: VACK written (R55). -/
def execVack (m : Master) (v : Word) (s : State) : Out :=
  .next (s.onDev fun d => d.writeAt m (evcPg + 0x284) (evcWritten 0x284 v.toNat))

/-- MSIX_PBA_RELEASE: the host sets PF0's MSI-X enable and a vector's mask, and waiting messages leave (R55). -/
def execMsixPbaRelease (v : Fin 32) (en masked : Bool) (s : State) : Out :=
  .next (s.onDev fun d => msixSet v.val en masked d)

/-- MBX_GO: DOORBELL.GO written (R63). -/
def execMbxGo (m : Master) (b : Fin 4) (s : State) : Out :=
  .next (s.onDev fun d => d.writeAt m (mbxPg b.val + 0x104) (mbxGone b.val))

/-- MBX_DONE: firmware finishes a command (R63, R64). -/
def execMbxDone (b : Fin 4) (s : State) : Out := .next (s.onDev fun d => mbxFinished b.val d)

/-- MBX_TIMEOUT: TIMEOUT passes (R64). -/
def execMbxTimeout (b : Fin 4) (s : State) : Out := .next (s.onDev fun d => mbxTimedOut b.val d)

/-- ECHO: the commit of ECHO (R67). -/
def execEcho (b : Fin 4) (s : State) : Out := .next (s.onDev fun d => d.mbxCommit b.val 0x0000 echoed)

/-- QUERY_TAG: the commit of QUERY_TAG (R64). -/
def execQueryTag (b : Fin 4) (s : State) : Out := .next (s.onDev fun d => d.mbxCommit b.val 0x0001 (tagQueried b.val))

/-- FW_VERSION: the commit of FW_VERSION (R67). -/
def execFwVersion (b : Fin 4) (s : State) : Out :=
  .next (s.onDev fun d => d.mbxCommit b.val 0x0002 (versionRead (mbxHalf b.val)))

/-- LTOL_WRITE: LTOL written at the page of an address (R434). -/
def execLtolWrite (m : Master) (a : BitVec 24) (v : Word) (s : State) : Out :=
  .next (s.onDev fun d => d.writeAt m (pageBase a.toNat + 0x10) (ltolGiven (pageBase a.toNat) v.toNat))

/-- POWER_STATE_ENTRY: a page that has been idle for so many ticks (R434). -/
def execPowerStateEntry (a : BitVec 24) (idle : Nat) (s : State) : Out :=
  .next (s.onDev fun d => if pageExists a.toNat then powerEntered (pageBase a.toNat) idle d else d)

/-- BLOCK_WAKE: work reaches a page (R436). -/
def execBlockWake (a : BitVec 24) (s : State) : Out :=
  .next (s.onDev fun d => if pageExists a.toNat then blockWoken (pageBase a.toNat) d else d)

/-- PSEL_WRITE: PSEL of a counter written at the page of an address (R484). -/
def execPselWrite (m : Master) (a : BitVec 24) (n : Fin 8) (v : Word) (s : State) : Out :=
  .next (s.onDev fun d => if n.val < counters (pageBase a.toNat) then d.writeAt m (pselAddr (pageBase a.toNat) n.val) (pselWritten (pageBase a.toNat) n.val v.toNat) else d)

/-- HALF_SKEW_MEASURE: the half-skew units measure, in ps (R18, R120). -/
def execHalfSkewMeasure (m72 m73 : EdgePair) (s : State) : Out :=
  .next (s.onDev fun d => skewMeasured m72.warp m72.weft m73.warp m73.weft d)

/-- SCHEDULE_TAKEOVER: Weft's next millisecond boundary (R19). -/
def execScheduleTakeover (s : State) : Out := .next (s.onDev fun d => scheduleTaken d)

/-- SETTINGS_COMPARE: the comparisons of a second (R71, R114, R139, R332). -/
def execSettingsCompare (s : State) : Out := .next (s.onDev fun d => settingsCompared d)

/-- REGISTER_READ: a read by a master (R43). -/
def execRegisterRead (m : Master) (a : BitVec 24) (sp : AccSpan) (s : State) : Out :=
  .next (s.onDev fun d => d.readSpan s.nv m a.toNat sp)

end Sys2Proof.Machine
end

