-- ==== Sys2Proof/Machine/ExecFault.lean ====
section
/-! DEFINITION. The commands of rails, Kettle, faults, self-test, counters and telemetry: one meaning for each. -/

namespace Sys2Proof.Machine

/-- AVS_READING: PACE and the rail are read (R439). -/
def execAvsReading (h : Half) (pace vread : Nat) (answered : Bool) (s : State) : Out :=
  .next (s.onDev fun d => avsRead h pace vread answered d)

/-- AVS_VSET_WRITE: VSET written (R450). -/
def execAvsVsetWrite (m : Master) (h : Half) (v : BitVec 16) (answered : Bool) (s : State) : Out :=
  .next (s.onDev fun d => d.writeAt m (pmuPg h + 0x108) (vsetWritten h v.toNat answered))

/-- KETTLE_TRANSFER: the transfer of a second to Kettle, with the measured offset (R442). -/
def execKettleTransfer (kfofs : Int) (s : State) : Out := .next (s.onDev fun d => kettleTransferred kfofs d)

/-- KETTLE_BOUND_UPDATE: Kettle's bound of a second (R443). -/
def execKettleBoundUpdate (s : State) : Out := .next (s.onDev fun d => kettleBounded d)

/-- KTL_XO_FAIL: 1 ms without a crystal edge (R442). -/
def execKtlXoFail (s : State) : Out := .next (s.onDev fun d => crystalFailed d)

/-- KETTLE_SLEEP: the commit of KETTLE_SLEEP (R444). -/
def execKettleSleep (b : Fin 4) (w : FlashEnd) (kfofs : Int) (s : State) : Out :=
  .next (s.sleepCommitted b.val w kfofs)

/-- CORE_EN_RELEASE: 10 ms after both halves entered safe state (R444). -/
def execCoreEnRelease (s : State) : Out := .next (s.onDev fun d => coreEnReleased d)

/-- KETTLE_WAKE: KWAKE_N held low, or the alarm reached (R446). -/
def execKettleWake (pin : Bool) (s : State) : Out := .next (s.onDev fun d => kettleWoken pin d)

/-- SCRUB_PASS: a pass of the scrubber, with the words it corrected as page and unit (R447). -/
def execScrubPass (h : Half) (fixed : List (Nat × Nat)) (s : State) : Out :=
  .next (s.onDev fun d => scrubbed h fixed d)

/-- FLASH_ERASE_DONE: an erase of a journal block ends (R449). -/
def execFlashEraseDone (block : Nat) (verified : Bool) (s : State) : Out :=
  .next ({ s with dev := flashErased block verified s.nv s.dev, nv := flashErasedNV block verified s.nv })

/-- FLASH_STAT: the commit of FLASH_STAT (R449). -/
def execFlashStat (b : Fin 4) (s : State) : Out :=
  .next (s.onDev fun d => d.mbxCommit b.val 0x0701 (Sys2Proof.Machine.flashStat s.nv))

/-- FAULT_DETECT: a checker signals a fault of a unit of a page (R455). -/
def execFaultDetect (a : BitVec 24) (unit : BitVec 8) (code : Fin 16) (s : State) : Out :=
  .next (s.onDev fun d => if pageExists a.toNat then faultDetected (pageBase a.toNat) unit.toNat code.val d else d)

/-- SAFE_STATE_ENTRY: a half enters safe state (R460). -/
def execSafeStateEntry (h : Half) (s : State) : Out := .next (s.onDev fun d => safeEntered h d)

/-- FAULT_LOG_FREE: LPTR.LRD written (R458). -/
def execFaultLogFree (m : Master) (h : Half) (v : BitVec 16) (s : State) : Out :=
  .next (s.onDev fun d => d.writeAt m (fltPg h + 0x120) (lrdWritten h v.toNat))

/-- FIRST_CLEAR: FCLR.FIRST written (R457). -/
def execFirstClear (m : Master) (h : Half) (s : State) : Out :=
  .next (s.onDev fun d => d.writeAt m (fltPg h + 0x11C) (firstCleared h))

/-- LOST_CLEAR: FCLR.LOST written (R456). -/
def execLostClear (m : Master) (h : Half) (s : State) : Out :=
  .next (s.onDev fun d => d.writeAt m (fltPg h + 0x11C) (lostCleared h))

/-- AUTO_HALF_RESET: 100 ms after a half's entry to C2 the other resets it (R462). -/
def execAutoHalfReset (h : Half) (rootOk : Bool) (s : State) : Out :=
  .next (s.onDev fun d => Sys2Proof.Machine.autoHalfReset h rootOk d)

/-- OTHER_RST: OTHER_RST.GO written in a half's page (R462). -/
def execOtherRst (m : Master) (h : Half) (rootOk : Bool) (s : State) : Out :=
  .next (s.onDev fun d => d.writeAt m (fltPg h + 0x108) (otherReset h rootOk))

/-- BIST_GO: BCTRL.GO written (R465). -/
def execBistGo (m : Master) (h : Half) (s : State) : Out :=
  .next (s.onDev fun d => d.writeAt m (bstPg h + 0x104) (Sys2Proof.Machine.bistGo h s.nv.scrap))

/-- BST_DONE: a test ends (R466), and saved repairs go to the journal (R468). -/
def execBstDone (seen : BistSeen) (s : State) : Out := .next (s.testEnded seen)

/-- BIST_ABORT: BCTRL.ABORT written (R470). -/
def execBistAbort (m : Master) (h : Half) (s : State) : Out :=
  .next (s.onDev fun d => d.writeAt m (bstPg h + 0x104) (bistAborted h))

/-- FAULT_CONDITION_END: a persisting condition ends (R455). -/
def execFaultConditionEnd (a : BitVec 24) (unit : BitVec 8) (code : Fin 16) (s : State) : Out :=
  .next (s.onDev fun d => if pageExists a.toNat then faultEnded (pageBase a.toNat) unit.toNat code.val d else d)

/-- PRF_GATHER: a PERIOD boundary (R490). -/
def execPrfGather (h : Half) (s : State) : Out := .next (s.onDev fun d => gatherStarted h d)

/-- PRF_DONE: a record has been written (R491). -/
def execPrfDone (h : Half) (s : State) : Out := .next (s.onDev fun d => gatherDone h d)

/-- PRF_RPTR_WRITE: RPTR written (R492). -/
def execPrfRptrWrite (m : Master) (h : Half) (v : BitVec 16) (s : State) : Out :=
  .next (s.onDev fun d => d.writeAt m (prfPg h + 0x114) (rptrWritten h v.toNat))

/-- PRF_SIZE_WRITE: SIZE written (R492). -/
def execPrfSizeWrite (m : Master) (h : Half) (v : BitVec 16) (s : State) : Out :=
  .next (s.onDev fun d => d.writeAt m (prfPg h + 0x10C) (sizeWritten h v.toNat))

/-- TEL_UPDATE: a telemetry value is measured (R495). -/
def execTelUpdate (h : Half) (v : Fin 16) (x : Int) (s : State) : Out :=
  .next (s.onDev fun d => telUpdated h v.val x d)

/-- TEL_CLR: TCTRL.CLR written (R495). -/
def execTelClr (m : Master) (h : Half) (s : State) : Out :=
  .next (s.onDev fun d => d.writeAt m (telPg h + 0x200) (telCleared h))

end Sys2Proof.Machine
end

