-- ==== Sys2Proof/Machine/ExecGnss.lean ====
section
/-! DEFINITION. The commands of the GNSS baseband and time solution: one meaning for each. -/

namespace Sys2Proof.Machine

/-- BAND_CLK_LOST: a band clock fails its conditions (R222). -/
def execBandClkLost (b : Fin 4) (s : State) : Out := .next (s.onDev fun d => Sys2Proof.Machine.bandClkLost b.val d)

/-- BAND_CLK_OK: 1 ms of valid conditions (R222). -/
def execBandClkOk (b : Fin 4) (edges : Bool) (s : State) : Out :=
  .next (s.onDev fun d => Sys2Proof.Machine.bandClkOk b.val edges d)

/-- BAND_FIFO_DROP: a full FIFO drops samples (R224). -/
def execBandFifoDrop (b : Fin 4) (n : Nat) (s : State) : Out := .next (s.onDev fun d => bandFifoDropped b.val n d)

/-- AGC_UPDATE: the samples of a level interval (R226). -/
def execAgcUpdate (b : Fin 4) (samples : List Byte) (s : State) : Out := .next (s.onDev fun d => agcUpdated b.val samples d)

/-- JAM_UPDATE: the samples of the last 100 ms, and those of a second which ends (R227). -/
def execJamUpdate (b : Fin 4) (samples : List Byte) (second : Option (List Byte)) (s : State) : Out :=
  .next (s.onDev fun d => jamUpdated b.val samples second d)

/-- SPECTRUM_AVERAGE: 16 power spectra of 1,024 bins (R229). -/
def execSpectrumAverage (b : Fin 4) (spectra : List (List Nat)) (s : State) : Out :=
  .next (s.onDev fun d => spectrumAveraged b.val spectra d)

/-- NOTCH_CONFIG_WRITE: NCFG, NFREQ or NRANGE written (R230). -/
def execNotchConfigWrite (m : Master) (b : Fin 4) (k : Fin 8) (r : Fin 3) (v : Word) (s : State) : Out :=
  .next (s.onDev fun d => d.writeAt m (gnfN b.val k.val + 4 * r.val) (notchWritten b.val k.val (4 * r.val) v.toNat))

/-- BAND_CONFIG_WRITE: BCFG, CENTRE or SRATE written (R237). -/
def execBandConfigWrite (m : Master) (b : Fin 4) (r : Fin 3) (v : Word) (s : State) : Out :=
  .next (s.onDev fun d => d.writeAt m (gnfB b.val + 4 * r.val) (bandWritten b.val (4 * r.val) v.toNat))

/-- ACQ_SUBMIT: SUBMIT.GO written (R233). -/
def execAcqSubmit (m : Master) (s : State) : Out := .next (s.onDev fun d => d.writeAt m (gnaPg + 0x118) acqSubmitted)

/-- ACQ_FLUSH: SUBMIT.FLUSH written (R234). -/
def execAcqFlush (m : Master) (s : State) : Out := .next (s.onDev fun d => d.writeAt m (gnaPg + 0x118) acqFlushed)

/-- ACQ_PASS_END: a pass ends, and its cells are evaluated (R232). -/
def execAcqPassEnd (src : AcqSrc) (p : AcqSeen) (s : State) : Out := .next (s.onDev fun d => passCounted src p d)

/-- ACQ_VERIFY_END: a verification dwell ends (R232). -/
def execAcqVerifyEnd (src : AcqSrc) (p : AcqSeen) (s : State) : Out := .next (s.onDev fun d => acqVerifyEnded src p d)

/-- ACQ_RESULT_POP: RESPOP.POP written (R246). -/
def execAcqResultPop (m : Master) (s : State) : Out := .next (s.onDev fun d => d.writeAt m (gnaPg + 0x130) acqPopped)

/-- CHANNEL_TRANSITION: what a channel's loops find (R237). -/
def execChannelTransition (c : Fin 256) (seen : ChanSeen) (s : State) : Out :=
  .next (s.onDev fun d => channelMoved c.val seen d)

/-- CHANNEL_STOP: CCFG.STOP written (R244). -/
def execChannelStop (m : Master) (c : Fin 256) (s : State) : Out :=
  .next (s.onDev fun d => d.writeAt m (gntC c.val) (channelStopped c.val))

/-- CHANNEL_OWNER_WRITE: OWNER written (R244). -/
def execChannelOwnerWrite (m : Master) (c : Fin 256) (v : Bool) (s : State) : Out :=
  .next (s.onDev fun d => d.writeAt m (gntC c.val) (channelOwned c.val v))

/-- CHG_CLR: CHG_CLR written (R247). -/
def execChgClr (m : Master) (i : Fin 8) (v : Word) (s : State) : Out :=
  .next (s.onDev fun d => d.writeAt m (pageAddr .gnt .warp i.val + 0x904) (chgCleared i.val v.toNat))

/-- MULTIPATH_FIT: firmware fits a channel's reflected path (R239). -/
def execMultipathFit (c : Fin 256) (delay amp : Nat) (ok : Bool) (s : State) : Out :=
  .next (s.onDev fun d => multipathFitted c.val delay amp ok d)

/-- CHANNEL_ALLOCATE: firmware allocates channels (R243). -/
def execChannelAllocate (views : List SvView) (s : State) : Out := .next (s.onDev fun d => channelsAllocated views d)

/-- GNSS_SOLUTION: the solution of a second (R249 to R262); a survey's end goes to the journal (R253). -/
def execGnssSolution (i : SolIn) (s : State) : Out := .next (s.surveySaved (solved s.nv.floor i s.dev))

/-- POSITION_SET: POS_Z_HI written (R253). -/
def execPositionSet (m : Master) (v : Word) (s : State) : Out :=
  .next (s.onDev fun d => d.writeAt m (gnsPg + 0x11C) (positionWritten v.toNat))

/-- DATE_FLOOR_RECORD: firmware records the date floor (R261). -/
def execDateFloorRecord (s : State) : Out := .next (s.floorRaised)

/-- SNAP_START: SNCTRL.START written (R263). -/
def execSnapStart (m : Master) (s : State) : Out :=
  .next (s.onDev fun d => d.writeAt m (gnsPg + 0x204) fun x => snapStarted (x.g gnsPg Reg.GNS.SNCFG_LEN) (x.tb0 x.lead) x)

/-- SNAP_ABORT: SNCTRL.ABORT written, with the samples each band had taken (R265). -/
def execSnapAbort (m : Master) (samples : List (List Byte)) (s : State) : Out :=
  .next (s.onDev fun d => d.writeAt m (gnsPg + 0x204) (snapAbortAsked samples))

/-- SNAP_CAPTURE_END: a capture reaches its length, with the samples of each band (R264). -/
def execSnapCaptureEnd (samples : List (List Byte)) (s : State) : Out := .next (s.onDev fun d => snapEnded samples d)

/-- SNAP_PROCESS: the commit of SNAP_PROCESS (R266). -/
def execSnapProcess (b : Fin 4) (r : SnapSol) (s : State) : Out :=
  .next (s.onDev fun d => d.mbxCommit b.val 0x0210 (snapProcessed b.val r))

end Sys2Proof.Machine
end

