-- ==== Sys2Proof/Machine/ExecKeys.lean ====
section
/-! DEFINITION. The commands of keys, the lifecycle and the TAP: one meaning for each. -/

namespace Sys2Proof.Machine

/-- KEY_LOAD: the commit of KEY_LOAD (R381), with the journal's write (R385). -/
def execKeyLoad (b : Fin 4) (w : FlashEnd) (s : State) : Out := .next (s.keyCommitted b.val w)

/-- GEN_ACTIVATED: ACT_SEC of a family's generation (R382). -/
def execGenActivated (h : Half) (f : Fin 16) (s : State) : Out :=
  .next (s.onDev fun d => Sys2Proof.Machine.genActivated h f.val d)

/-- GEN_RETIRE: RET_SEC of a slot (R383). -/
def execGenRetire (h : Half) (k : Fin 256) (s : State) : Out :=
  .next (s.onDev fun d => Sys2Proof.Machine.genRetire h k.val d)

/-- GEN_RETIRED: RET_SEC + 16 µs of a slot (R383). -/
def execGenRetired (h : Half) (k : Fin 256) (defect : Bool) (s : State) : Out :=
  .next (s.onDev fun d => Sys2Proof.Machine.genRetired h k.val defect d)

/-- KEY_RETIRE: the commit of KEY_RETIRE (R384). -/
def execKeyRetire (b : Fin 4) (s : State) : Out :=
  .next (s.onDev fun d => d.mbxCommit b.val 0x0402 (keyRetired b.val))

/-- ZEROISE: CAD.ZERO written (R387). -/
def execZeroise (m : Master) (h : Half) (v : Word) (s : State) : Out :=
  .next (s.settled (s.dev.writeAt m (cadPg h + 0x180) (zeroWritten v.toNat)))

/-- ZERO_DONE: the range ends, with the slots whose read-back failed (R388). -/
def execZeroDone (bad : List Nat) (s : State) : Out :=
  .next (s.settled (keysAwaited (Sys2Proof.Machine.zeroDone bad s.dev)))

/-- PURGE_DONE: the flash block of the purged records is erased and rewritten (R387, R510). -/
def execPurgeDone (s : State) : Out := .next (s.purged)

/-- TAMPER: a tamper source is seen (R391). -/
def execTamper (src : Fin 5) (s : State) : Out := .next (s.onDev fun d => tampered src.val d)

/-- CERT_READ: the commit of CERT_READ (R397). -/
def execCertRead (b : Fin 4) (s : State) : Out :=
  .next (s.onDev fun d => d.mbxCommit b.val 0x0403 Sys2Proof.Machine.certRead)

/-- LCS_OWN_SET: the commit of LCS_OWN_SET (R474). -/
def execLcsOwnSet (b : Fin 4) (s : State) : Out :=
  .next ({ s with dev := ownSet b.val s.nv s.dev, nv := ownSetNV b.val s.dev s.nv })

/-- LCS_FIELD: the commit of LCS_FIELD (R474). -/
def execLcsField (b : Fin 4) (s : State) : Out :=
  .next ({ s with dev := fieldEntered b.val s.nv s.dev, nv := fieldNV b.val s.dev s.nv })

/-- LCS_SCRAP: the commit of LCS_SCRAP (R474). -/
def execLcsScrap (b : Fin 4) (s : State) : Out := .next (s.scrapCommitted b.val)

/-- LCS_PASSWORD: the commit of LCS_PASSWORD (R476). -/
def execLcsPassword (b : Fin 4) (s : State) : Out :=
  .next (s.onDev fun d => d.mbxCommit b.val 0x0612 (passwordGiven b.val s.nv))

/-- LCS_CHALLENGE: the commit of LCS_CHALLENGE (R477). -/
def execLcsChallenge (b : Fin 4) (s : State) : Out :=
  .next (s.onDev fun d => d.mbxCommit b.val 0x0610 (challengeIssued s.nv))

/-- LCS_RESPOND: the commit of LCS_RESPOND (R477). -/
def execLcsRespond (b : Fin 4) (s : State) : Out := .next (s.responseCommitted b.val)

/-- LCS_CLOSE: the commit of LCS_CLOSE (R475). -/
def execLcsClose (b : Fin 4) (s : State) : Out := .next (s.onDev fun d => d.mbxCommit b.val 0x0613 sessionEnded)

/-- CHALLENGE_EXPIRE: 60 s after a challenge's issue (R478). -/
def execChallengeExpire (s : State) : Out := .next (s.onDev fun d => challengeExpired d)

/-- EXTEST: EXTEST at Update-IR (R472). -/
def execExtest (s : State) : Out := .next (s.onDev fun d => pinsTaken s.nv 0x00 d)

/-- IDCODE: IDCODE at Update-IR (R471). -/
def execIdcode (s : State) : Out := .next (s.onDev fun d => tapLoaded s.nv 0x01 0x1825656B d)

/-- SAMPLE_PRELOAD: SAMPLE/PRELOAD: the pins sampled, the cells loaded (R471). -/
def execSamplePreload (pins cells : Nat) (s : State) : Out := .next (s.onDev fun d => tapSampled s.nv pins cells d)

/-- CLAMP: CLAMP at Update-IR (R472). -/
def execClamp (s : State) : Out := .next (s.onDev fun d => pinsTaken s.nv 0x04 d)

/-- HIGHZ: HIGHZ at Update-IR (R472). -/
def execHighz (s : State) : Out := .next (s.onDev fun d => pinsTaken s.nv 0x05 d)

/-- EXTEST_PULSE: EXTEST_PULSE at Update-IR (R472). -/
def execExtestPulse (s : State) : Out := .next (s.onDev fun d => pinsTaken s.nv 0x08 d)

/-- EXTEST_TRAIN: EXTEST_TRAIN at Update-IR (R472). -/
def execExtestTrain (s : State) : Out := .next (s.onDev fun d => pinsTaken s.nv 0x09 d)

/-- BYPASS: BYPASS at Update-IR (R471). -/
def execBypass (s : State) : Out := .next (s.onDev fun d => tapLoaded s.nv 0xFF 0 d)

/-- PRIVATE_TEST: a private opcode from 0x40 on at Update-IR, with what its data register captures (R471). -/
def execPrivateTest (op : Fin 64) (dr : Nat) (s : State) : Out :=
  .next (s.onDev fun d => tapLoaded s.nv (0x40 + op.val) dr d)

/-- TAP_RESET: TRST_N (R507). -/
def execTapReset (s : State) : Out := .next (s.onDev fun d => Sys2Proof.Machine.tapReset d)

end Sys2Proof.Machine
end

