-- ==== Sys2Proof/Machine/ExecLoop.lean ====
section
/-! DEFINITION. The commands of selection, discipline loops and holdover: one meaning for each. -/

namespace Sys2Proof.Machine

/-- SEL_EVALUATE: a millisecond boundary of the schedule (R136). -/
def execSelEvaluate (s : State) : Out := .next (s.onDev fun d => selectorsEvaluated d)

/-- DECIDE_END: DECIDE ends (R140). -/
def execDecideEnd (h : Half) (n : Fin 16) (s : State) : Out := .next (s.onDev fun d => decideEnded h n.val d)

/-- BUILD_OUT_END: BUILD-OUT ends (R140). -/
def execBuildOutEnd (h : Half) (n : Fin 16) (s : State) : Out := .next (s.onDev fun d => buildOutEnded h n.val d)

/-- WTR_EXPIRE: a wait-to-restore timer expires (R143). -/
def execWtrExpire (h : Half) (n : Fin 16) (c : Fin 30) (s : State) : Out :=
  .next (s.onDev fun d => wtrExpired h n.val c.val d)

/-- VOTE_WINDOW: a vote window ends (R144). -/
def execVoteWindow (s : State) : Out := .next (s.onDev fun d => voteEnded d)

/-- LOOP_UPDATE: a loop's update instant (R153). -/
def execLoopUpdate (h : Half) (k : Fin 16) (s : State) : Out := .next (s.onDev fun d => loopRan h k.val d)

/-- LOOP_LATE: a per-second step misses its time (R30). -/
def execLoopLate (h : Half) (k : Fin 16) (s : State) : Out := .next (s.onDev fun d => loopLated h k.val d)

/-- LOOP_EN_WRITE: EN of a loop written (R158). -/
def execLoopEnWrite (m : Master) (h : Half) (k : Fin 16) (v : Bool) (s : State) : Out :=
  .next (s.onDev fun d => d.writeAt m (dplL h k.val) fun x => boundBases h (loopEnWritten h k.val v x))

/-- REALIGN: REALIGN written (R161). -/
def execRealign (m : Master) (h : Half) (k : Fin 16) (s : State) : Out :=
  .next (s.onDev fun d => d.writeAt m (dplL h k.val) (realignAsked h k.val))

/-- REALIGN_APPLY: the second boundary of a waiting realign (R161). -/
def execRealignApply (h : Half) (k : Fin 16) (s : State) : Out :=
  .next (s.onDev fun d => realignApplied s.nv h k.val d)

/-- HOLD_SOURCE_LOST: C13 has left QUALIFIED, or CP12 has been silent for 2 s (R170). -/
def execHoldSourceLost (h : Half) (k : Fin 16) (s : State) : Out :=
  .next (s.onDev fun d => Sys2Proof.Machine.holdSourceLost h k.val d)

/-- HOLD_EXPIRED: HTIME or the published bound reaches its limit (R173). -/
def execHoldExpired (h : Half) (k : Fin 16) (s : State) : Out :=
  .next (s.onDev fun d => Sys2Proof.Machine.holdExpired h k.val (d.published h k.val) d)

/-- HOLDOVER_SAMPLE: firmware takes the sample of a second (R165). -/
def execHoldoverSample (s : State) : Out := .next (s.onDev fun d => holdoverSampled d)

/-- MODEL_UPDATE: t0 + 100 ms (R165). -/
def execModelUpdate (s : State) : Out := .next (s.onDev fun d => modelUpdated d)

/-- MODEL_RESET: MODEL_RESET written (R166). -/
def execModelReset (m : Master) (h : Half) (s : State) : Out :=
  .next (s.onDev fun d => d.writeAt m (hldPg h + 0x100) (Sys2Proof.Machine.modelReset h))

/-- MODEL_SAVE: firmware saves the model (R167). -/
def execModelSave (w : FlashEnd) (s : State) : Out := .next (s.modelKept w)

/-- TEMP_READ: the sensors are read, in 2^-8 degrees, or fail to answer (R168). -/
def execTempRead (reads : List (Option Int)) (s : State) : Out :=
  .next (s.onDev fun d => d.both fun h x => tempTaken h reads x)

/-- PUBLISH_VALUES: a second boundary of TB0 (R17, R167, R240). -/
def execPublishValues (s : State) : Out :=
  .next (s.onDev fun d => latchPlanned (modelCopied (instApplied (valuesPublished d))))

end Sys2Proof.Machine
end

