-- ==== Sys2Proof/Machine/ExecPair.lean ====
section
/-! DEFINITION. The commands of duplicate service, Selvedge links and multi-chip boards: one meaning for each. -/

namespace Sys2Proof.Machine

/-- DIGEST_CHECK: b + 120 µs (R400). -/
def execDigestCheck (s : State) : Out := .next (s.onDev fun d => digestChecked d)

/-- PROBE_INJECT: b + 100 µs during Check (R401). -/
def execProbeInject (s : State) : Out := .next (s.onDev fun d => probeInjected d)

/-- PRP_HOLD_EXPIRE: HOLD_NS passes without the twin (R403). -/
def execPrpHoldExpire (h : Half) (s : State) : Out := .next (s.onDev fun d => prpReleased h d)

/-- SLV_UP: a link has trained, with the peer chip and link it names (R408). -/
def execSlvUp (l : Fin 4) (peer plink : Nat) (s : State) : Out :=
  .next (s.onDev fun d => Sys2Proof.Machine.slvUp l.val peer plink d)

/-- SLV_DOWN: a link goes down (R408). -/
def execSlvDown (l : Fin 4) (s : State) : Out := .next (s.onDev fun d => Sys2Proof.Machine.slvDown l.val d)

/-- FLIT_RECEIVE: a flit arrives (R406). -/
def execFlitReceive (l : Fin 4) (f : FlitSeen) (s : State) : Out := .next (s.onDev fun d => flitReceived l.val f d)

/-- TIME_TRANSFER: an exchange ends, with the peer's two stamps (R409). -/
def execTimeTransfer (l : Fin 4) (t2 t3 : Option Nat) (s : State) : Out :=
  .next (s.onDev fun d => timeTransferred l.val t2 t3 d)

/-- HEALTH_REPORT_SEND: a millisecond boundary (R413). -/
def execHealthReportSend (s : State) : Out := .next (s.onDev fun d => healthSent s.nv.boots d)

/-- HEALTH_REPORT_RECEIVE: a health report arrives (R413). -/
def execHealthReportReceive (l : Fin 4) (bytes : List Byte) (s : State) : Out :=
  .next (s.onDev fun d => healthReceived l.val bytes d)

/-- CLAIM_SEND: 4 µs pass (R416). -/
def execClaimSend (s : State) : Out := .next (s.onDev fun d => claimsSent d)

/-- CLAIM_EVALUATE: 1 µs passes (R416). -/
def execClaimEvaluate (s : State) : Out := .next (s.onDev fun d => claimsEvaluated d)

/-- CLAIM_SWITCH: a low phase of a group (R417). -/
def execClaimSwitch (h : Half) (g : Fin 4) (s : State) : Out := .next (s.onDev fun d => claimSwitched h g.val d)

/-- ILK_EVALUATE: the interlock input as seen (R418). -/
def execIlkEvaluate (ilkIn : Bool) (s : State) : Out := .next (s.onDev fun d => ilkEvaluated ilkIn d)

/-- MIRROR_RECEIVE: a mirror record arrives (R422). -/
def execMirrorReceive (l : Fin 4) (record : List Byte) (s : State) : Out :=
  .next (s.onDev fun d => mirrorReceived l.val record d)

/-- MIRROR_CONTEXT_RECEIVE: an origin's context arrives (R422). -/
def execMirrorContextReceive (l : Fin 4) (c : MirrorCtx) (s : State) : Out :=
  .next (s.onDev fun d => contextReceived l.val c d)

/-- STATE_COPY_APPLY: a copy generation is complete in the returning half (R425). -/
def execStateCopyApply (h : Half) (item : CopyItem) (intact : Bool) (s : State) : Out :=
  .next (s.onDev fun d => stateCopied h item intact d)

/-- JOIN_STEP_ADVANCE: a returning half's step is reconsidered (R427). -/
def execJoinStepAdvance (h : Half) (s : State) : Out := .next (s.onDev fun d => joinAdvanced h d)

/-- HALF_REJOINED: a second boundary after Wait (R427). -/
def execHalfRejoined (h : Half) (s : State) : Out := .next (s.onDev fun d => Sys2Proof.Machine.halfRejoined h d)

/-- CHIP_ALONE: no other chip heard for 1 s (R429). -/
def execChipAlone (s : State) : Out := .next (s.onDev fun d => Sys2Proof.Machine.chipAlone d)

/-- CHIP_REJOINED: the conditions of R429 are reconsidered. -/
def execChipRejoined (s : State) : Out := .next (s.onDev fun d => Sys2Proof.Machine.chipRejoined d)

/-- PEER_REPORT_TIMEOUT: 3 ms without a health report (R412). -/
def execPeerReportTimeout (l : Fin 4) (s : State) : Out := .next (s.onDev fun d => peerTimedOut l.val d)

end Sys2Proof.Machine
end

