-- ==== Sys2Proof/Machine/ExecPort.lean ====
section
/-! DEFINITION. The commands of ports, switch planes and launch gates: one meaning for each. -/

namespace Sys2Proof.Machine

/-- LINK_UP: the link conditions as they have held for a number of ms (R272). -/
def execLinkUp (p : Fin 8) (x : LinkHeld) (s : State) : Out :=
  .next (s.onDev fun d => Sys2Proof.Machine.linkUp p.val x.seen x.held d)

/-- LINK_DOWN: a link condition fails (R273). -/
def execLinkDown (p : Fin 8) (seen : LinkSeen) (s : State) : Out :=
  .next (s.onDev fun d => Sys2Proof.Machine.linkDown p.val seen d)

/-- DELAY_MEASURE_DONE: the variable delays are measured, in unit intervals (R274, R277): gearbox slip with codeword alignment, the
skew of each lane, and the transmit delay. -/
def execDelayMeasureDone (p : Fin 8) (rx : RxDelay) (tx : Nat) (s : State) : Out :=
  .next (s.onDev fun d => delayMeasured p.val rx.align rx.skews tx d)

/-- PCS_CONFIG_WRITE: PCFG written (R281). -/
def execPcsConfigWrite (m : Master) (p : Fin 8) (v : Word) (s : State) : Out :=
  .next (s.onDev fun d => d.writeAt m (pcsPg p.val + 0x100) (pcfgWritten p.val v.toNat))

/-- ESMC_RECEIVE: an ESMC PDU is parsed (R282). -/
def execEsmcReceive (p : Fin 8) (ssm : Nat) (essm : Option Nat) (s : State) : Out :=
  .next (s.onDev fun d => esmcReceived p.val ssm essm d)

/-- ESMC_TIMEOUT: 5 s without an ESMC PDU (R282). -/
def execEsmcTimeout (p : Fin 8) (s : State) : Out := .next (s.onDev fun d => esmcTimedOut p.val d)

/-- ESMC_TRANSMIT: a second boundary (R283). -/
def execEsmcTransmit (p : Fin 8) (s : State) : Out := .next (s.onDev fun d => esmcInfo p.val d)

/-- ESMC_EVENT_PDU: the QL to send has changed (R283). -/
def execEsmcEventPdu (p : Fin 8) (s : State) : Out := .next (s.onDev fun d => esmcEvent p.val d)

/-- PAUSE_RECEIVE: a flow-control frame arrives (R280). -/
def execPauseReceive (p : Fin 8) (f : FlowFrame) (s : State) : Out := .next (s.onDev fun d => pauseReceived p.val f d)

/-- PAUSE_EXPIRE: the quanta of a pause run out; class 8 stands for PAUSE (R280). -/
def execPauseExpire (p : Fin 8) (c : Fin 9) (s : State) : Out := .next (s.onDev fun d => pauseExpired p.val c.val d)

/-- COUNTER_SNAPSHOT: SNAP.TAKE written (R284). -/
def execCounterSnapshot (m : Master) (p : Fin 8) (s : State) : Out :=
  .next (s.onDev fun d => d.writeAt m (macPg p.val + 0x148) (snapWritten p.val 1))

/-- COUNTER_SNAPSHOT_ALL: SNAP.TAKE_ALL written (R284). -/
def execCounterSnapshotAll (m : Master) (h : Half) (s : State) : Out :=
  .next (s.onDev fun d => d.writeAt m (macPg h.num + 0x148) (snapWritten h.num 2))

/-- FRAME_RECEIVE: a frame is received (R278, R289). -/
def execFrameReceive (p : Fin 8) (f : RxFrame) (s : State) : Out := .next (s.onDev fun d => frameReceived p.val f d)

/-- FWD_ENTRY_COMMIT: word 3 of an entry of the forwarding window written (R292). -/
def execFwdEntryCommit (m : Master) (h : Half) (e : Fin 128) (v : Word) (s : State) : Out :=
  .next (s.onDev fun d => d.writeAt m (swcPg h + 0x800 + 16 * e.val + 12) fun x => fwdWritten h (128 * x.g (swcPg h) Reg.SWC.FWSEL + e.val) 3 v.toNat x)

/-- EGRESS_FRAME_BOUNDARY: a frame boundary of a port (R296). -/
def execEgressFrameBoundary (p : Fin 8) (s : State) : Out := .next (s.onDev fun d => egressBoundary p.val d)

/-- MC_AGED: MCAGE passes for a stored frame (R299). -/
def execMcAged (h : Half) (i : Nat) (s : State) : Out := .next (s.onDev fun d => Sys2Proof.Machine.mcAged h i d)

/-- PAUSE_REPEAT: half the pause time passes (R301). -/
def execPauseRepeat (p : Fin 8) (c : Fin 9) (s : State) : Out := .next (s.onDev fun d => pauseRepeated p.val c.val d)

/-- BRIDGE_TRANSFER: what waits at a half's end of the bridge crosses, or finds no credit (R305). -/
def execBridgeTransfer (h : Half) (credit : Bool) (s : State) : Out :=
  .next (s.onDev fun d => bridgeTransferred h credit d)

/-- GATE_ACCEPT: a waiting gated frame is passed to its gate (R316). -/
def execGateAccept (h : Half) (i : Nat) (s : State) : Out := .next (s.onDev fun d => gateAccepted h i d)

/-- GATE_RELEASE: the gate's earliest frame reaches its instant (R317). -/
def execGateRelease (p : Fin 8) (s : State) : Out := .next (s.onDev fun d => gateReleased p.val d)

/-- LGT_BLIND: 2 µs without a transmit tracking stamp (R322). -/
def execLgtBlind (p : Fin 8) (s : State) : Out := .next (s.onDev fun d => gateBlinded p.val d)

/-- REPORT_POP: RPTCTL.POP written (R328). -/
def execReportPop (m : Master) (p : Fin 8) (s : State) : Out :=
  .next (s.onDev fun d => d.writeAt m (lgtG p.val + 0x30) (reportPopped p.val))

end Sys2Proof.Machine
end

