-- ==== Sys2Proof/Machine/ExecServe.lean ====
section
/-! DEFINITION. The commands of the responder, rate limits, grants and client instances: one meaning for each. -/

namespace Sys2Proof.Machine

/-- SVC_ENTRY_COMMIT: ACTRL written (R331). -/
def execSvcEntryCommit (m : Master) (h : Half) (a : Fin 64) (v : Word) (s : State) : Out :=
  .next (s.onDev fun d => d.writeAt m (trsEnt h a.val + 28) (svcWordWritten h a.val 7 v.toNat))

/-- RESPONDER_ACCEPT: the oldest request that waits takes an input credit (R334). -/
def execResponderAccept (h : Half) (s : State) : Out := .next (s.onDev fun d => reqAccepted h d)

/-- REQUEST_PARSE: Parse (R333, R344). -/
def execRequestParse (h : Half) (id : Nat) (s : State) : Out := .next (s.onDev fun d => reqParsed h id d)

/-- REQUEST_CLASSIFY: Classify (R341, R355, R356). -/
def execRequestClassify (h : Half) (id : Nat) (s : State) : Out := .next (s.onDev fun d => reqClassified h id d)

/-- RATE_CHECK: Rate check, with whether a mirror link has credit (R351, R421). -/
def execRateCheck (h : Half) (id : Nat) (credit : Bool) (s : State) : Out :=
  .next (s.onDev fun d => rateChecked h id credit d)

/-- REQUEST_VERIFY: Verify (R346, R359). -/
def execRequestVerify (h : Half) (id : Nat) (s : State) : Out := .next (s.onDev fun d => reqVerified h id d)

/-- REPLY_BUILD: Build (R339). -/
def execReplyBuild (h : Half) (id : Nat) (s : State) : Out := .next (s.onDev fun d => replyBuilt h id d)

/-- REPLY_SEAL: Seal (R348). -/
def execReplySeal (h : Half) (id : Nat) (s : State) : Out := .next (s.onDev fun d => replySealed h id d)

/-- LATE_CHECK: the end of Seal (R335). -/
def execLateCheck (h : Half) (id : Nat) (s : State) : Out := .next (s.onDev fun d => lateChecked h id d)

/-- NTS_MINT: the commit of NTS_MINT (R350). -/
def execNtsMint (b : Fin 4) (s : State) : Out := .next (s.onDev fun d => d.mbxCommit b.val 0x0300 (ntsMinted b.val))

/-- RATE_CLEAR: CTL.CLEAR written (R354). -/
def execRateClear (m : Master) (h : Half) (s : State) : Out :=
  .next (s.onDev fun d => d.writeAt m (rltPg h + 0x15C) (rateCleared h))

/-- HKEY_WRITE: a word of HKEY written (R369). -/
def execHkeyWrite (m : Master) (h : Half) (w : Fin 4) (v : Word) (s : State) : Out :=
  .next (s.onDev fun d => d.writeAt m (rltPg h + 0x140 + 4 * w.val) (hkeyWritten h w.val v.toNat))

/-- ANNOUNCE_SEND: a multiple of 2^LOGANN s for a service (R358). -/
def execAnnounceSend (h : Half) (n : Fin 16) (s : State) : Out := .next (s.onDev fun d => announceDue h n.val d)

/-- UNICAST_GRANT_SEND: a grant's instant (R358). -/
def execUnicastGrantSend (h : Half) (n : Fin 4096) (s : State) : Out := .next (s.onDev fun d => unicastSent h n.val d)

/-- FOLLOW_UP_SEND: T + 2,048 ns of the oldest follow-up (R358). -/
def execFollowUpSend (h : Half) (s : State) : Out := .next (s.onDev fun d => followUpSent h d)

/-- SIGNALING_REQUEST: a Signaling request is decided (R362). -/
def execSignalingRequest (h : Half) (id : Nat) (s : State) : Out := .next (s.onDev fun d => signalingDecided h id d)

/-- GRANT_EXPIRE: a grant's expiry (R363). -/
def execGrantExpire (h : Half) (n : Fin 4096) (s : State) : Out := .next (s.onDev fun d => grantExpired h n.val d)

/-- GRANT_REVOKE: GREVOKE written (R363). -/
def execGrantRevoke (m : Master) (h : Half) (n : Fin 4096) (s : State) : Out :=
  .next (s.onDev fun d => d.writeAt m (grtPg h + 0x11C) (grantRevoked h n.val))

/-- GRANT_COPY: the copy of a millisecond, whole or not (R364). -/
def execGrantCopy (ok : Bool) (s : State) : Out := .next (s.onDev fun d => grantCopied ok d)

/-- GRANT_COPY_LOST: 4 ms without a copy (R370). -/
def execGrantCopyLost (s : State) : Out := .next (s.onDev fun d => Sys2Proof.Machine.grantCopyLost d)

/-- INSTANCE_ANNOUNCE: an instance takes an Announce (R360). -/
def execInstanceAnnounce (h : Half) (k : Fin 4) (s : State) : Out := .next (s.onDev fun d => instAnnounced h k.val d)

/-- INSTANCE_ANNOUNCE_TIMEOUT: the announce receipt timeout (R131). -/
def execInstanceAnnounceTimeout (h : Half) (k : Fin 4) (s : State) : Out :=
  .next (s.onDev fun d => instAnnounceLost h k.val d)

/-- INSTANCE_SYNC: an instance takes a Sync or its Follow_Up (R360). -/
def execInstanceSync (h : Half) (k : Fin 4) (s : State) : Out := .next (s.onDev fun d => instSynced h k.val d)

/-- INSTANCE_DELAY_REQ: an instant of the request interval; the request leaves at the count `at_` in ns (R360).
-/
def execInstanceDelayReq (h : Half) (k : Fin 4) (at_ : Nat) (s : State) : Out :=
  .next (s.onDev fun d => instDelayReq h k.val at_ d)

/-- INSTANCE_DELAY_RESP: an instance takes a delay response (R360). -/
def execInstanceDelayResp (h : Half) (k : Fin 4) (s : State) : Out := .next (s.onDev fun d => instDelayResp h k.val d)

/-- INSTANCE_GRANT_RENEW: an instance requests its grants (R360). -/
def execInstanceGrantRenew (h : Half) (k : Fin 4) (s : State) : Out :=
  .next (s.onDev fun d => instGrantRenewed h k.val d)

/-- INSTANCE_CONFIG_WRITE: a word of a client instance written (R360). -/
def execInstanceConfigWrite (m : Master) (h : Half) (k : Fin 4) (w : Fin 16) (v : Word) (s : State) : Out :=
  .next (s.onDev fun d => d.writeAt m (instC h k.val + 4 * w.val) (instConfigWritten h k.val (4 * w.val) v.toNat))

/-- INSTANCE_SYNC_TIMEOUT: three Sync intervals without a Sync (R131). -/
def execInstanceSyncTimeout (h : Half) (k : Fin 4) (s : State) : Out :=
  .next (s.onDev fun d => instSyncLost h k.val d)

end Sys2Proof.Machine
end

