-- ==== Sys2Proof/Machine/ExecStart.lean ====
section
/-! DEFINITION. The commands of start, resets and host DMA: one meaning for each. -/

namespace Sys2Proof.Machine

/-- CORE_EN_ASSERT: 10 ms after VAON is in range (R496). -/
def execCoreEnAssert (s : State) : Out := .next (s.onDev fun d => coreEnAsserted d)

/-- POWER_ON_RESET: PORST_N driven low (R497). -/
def execPowerOnReset (s : State) : Out := .next (s.onDev fun d => Sys2Proof.Machine.powerOnReset d)

/-- PORST_RELEASE: PORST_N released: FUSES to TEST (R498). -/
def execPorstRelease (i : StartIn) (s : State) : Out := .next (s.onDev fun d => porstReleased i s.nv d)

/-- TIME_SEED: the first Kettle edge after lock, so many ticks ago (R501). -/
def execTimeSeed (ticks : Nat) (s : State) : Out := .next (s.onDev fun d => timeSeeded ticks s.nv d)

/-- START_RESTORE: RESTORE in the named halves, with the image's writes (R505, R506). -/
def execStartRestore (which : Pair Bool) (bootsOk : Bool) (image : List (Nat × Nat)) (s : State) : Out :=
  .next (s.startCommitted which bootsOk image)

/-- SERVING_ENTRY: a second boundary after RESTORE (R504). -/
def execServingEntry (s : State) : Out := .next (s.onDev fun d => Sys2Proof.Machine.servingEntry d)

/-- WARM_RESET: 1 µs after WARM (R508). -/
def execWarmReset (i : StartIn) (s : State) : Out := .next (s.onDev fun d => Sys2Proof.Machine.warmReset i s.nv d)

/-- PCIE_RESET: a PCIe reset (R507). -/
def execPcieReset (s : State) : Out := .next (s.onDev fun d => Sys2Proof.Machine.pcieReset d)

/-- HDM_PROD_WRITE: PROD written (R529). -/
def execHdmProdWrite (m : Master) (q : Fin 16) (v : BitVec 16) (s : State) : Out :=
  .next (s.onDev fun d => d.writeAt m (hdmQ q.val + 0x0C) (prodWritten q.val v.toNat))

/-- HDM_TX_DESCRIPTOR: a transmit descriptor and its frame are fetched (R531). -/
def execHdmTxDescriptor (q : Fin 8) (entry frame : List Byte) (s : State) : Out :=
  .next (s.onDev fun d => txDescriptor q.val entry frame d)

/-- HDM_RX_FRAME: a receive entry takes the head frame of H (R533). -/
def execHdmRxFrame (q : Fin 8) (entry : List Byte) (s : State) : Out :=
  .next (s.onDev fun d => rxFrame (8 + q.val) entry d)

/-- HDM_QUEUE_ENABLE: QCFG.EN written (R534). -/
def execHdmQueueEnable (m : Master) (q : Fin 16) (v : Bool) (s : State) : Out :=
  .next (s.onDev fun d => d.writeAt m (hdmQ q.val) fun x => qcfgWritten q.val (setBits (x.w (hdmQ q.val)) 0 1 (bitOf v)) x)

/-- HDM_BME_CHANGE: PF0 Bus Master Enable changes (R534). -/
def execHdmBmeChange (v : Bool) (s : State) : Out := .next (s.onDev fun d => bmeChanged v d)

/-- HDM_DMA_ERROR: a host read or write fails (R534). -/
def execHdmDmaError (q : Fin 16) (write : Bool) (s : State) : Out := .next (s.onDev fun d => dmaFailed q.val write d)

/-- VAON_LOSS: VAON below 0.60 V (R441). -/
def execVaonLoss (s : State) : Out := .next (s.onDev fun d => vaonLost d)

/-- VDDS_REMOVED: VDDS below 0.3 V (R463). -/
def execVddsRemoved (s : State) : Out := .next (s.onDev fun d => Sys2Proof.Machine.vddsRemoved d)

end Sys2Proof.Machine
end

