-- ==== Sys2Proof/Machine/ExecSynth.lean ====
section
/-! DEFINITION. The commands of clock synthesis, outputs, the DAC and the bound engine: one meaning for each. -/

namespace Sys2Proof.Machine

/-- LO_LOST: 1 µs without an edge on LOIN (R181). -/
def execLoLost (h : Half) (s : State) : Out := .next (s.onDev fun d => Sys2Proof.Machine.loLost h d)

/-- LO_RETURN: 100 µs of edges on LOIN (R181). -/
def execLoReturn (h : Half) (s : State) : Out := .next (s.onDev fun d => loReturned h d)

/-- RELOCK: RELOCK of the steered loop written (R183). -/
def execRelock (m : Master) (h : Half) (s : State) : Out :=
  .next (s.onDev fun d => d.writeAt m (aplBase h 1) (relocked h 1))

/-- HOP: HOP of a loop block written (R185). -/
def execHop (m : Master) (h : Half) (j : Fin 2) (s : State) : Out :=
  .next (s.onDev fun d => d.writeAt m (aplBase h j.val) (hopped h j.val))

/-- M_WRITE: M_INT written (R182). -/
def execMWrite (m : Master) (h : Half) (v : Word) (s : State) : Out :=
  .next (s.onDev fun d => d.writeAt m (aplPg h + 0x30C) (mWritten h v.toNat))

/-- BAND_SELECT: a band search ends with a band, or the stored band is taken (R183). -/
def execBandSelect (h : Half) (band : Fin 64) (s : State) : Out := .next (s.onDev fun d => bandSelected h band.val d)

/-- LOCK_DECLARE: 150 µs after band selection (R183, R184). -/
def execLockDeclare (h : Half) (ok : Bool) (s : State) : Out := .next (s.onDev fun d => lockDeclared h ok d)

/-- LOSS_OF_LOCK: a loop loses lock (R183). -/
def execLossOfLock (h : Half) (j : Fin 2) (s : State) : Out := .next (s.onDev fun d => lockLost h j.val d)

/-- OUT_EN_WRITE: EN of an output written (R565). -/
def execOutEnWrite (m : Master) (h : Half) (o : Fin 12) (v : Bool) (s : State) : Out :=
  .next (s.onDev fun d => d.writeAt m (outO h (o.val / 8) (o.val % 8)) (outEnWritten h (o.val / 8) (o.val % 8) v))

/-- DAC_UPDATE: the DAC port moves its target (R193). -/
def execDacUpdate (h : Half) (s : State) : Out := .next (s.onDev fun d => dacUpdated h d)

/-- DAC_FRAME: a DAC frame is sent (R194). -/
def execDacFrame (h : Half) (s : State) : Out := .next (s.onDev fun d => dacFramed h d)

/-- DAC_CODE_WRITE: CODE written (R195). -/
def execDacCodeWrite (m : Master) (h : Half) (v : BitVec 24) (s : State) : Out :=
  .next (s.onDev fun d => d.writeAt m (aplPg h + 0x514) (dacCodeWritten h v.toNat))

/-- BOUND_SAMPLE: a millisecond boundary (R205). -/
def execBoundSample (s : State) : Out := .next (s.onDev fun d => boundSampledAll d)

/-- BOUND_EXCHANGE: the halves exchange bounds, or fail to (R206, R208). -/
def execBoundExchange (ok : Bool) (s : State) : Out := .next (s.onDev fun d => boundExchanged ok d)

/-- EPOCH_OPEN: m + 1 ms (R206, R422). -/
def execEpochOpen (s : State) : Out := .next (s.onDev fun d => contextSent (epochOpenedAll d))

/-- CHAEF_SIGN: the commit of CHAEF_SIGN (R213). -/
def execChaefSign (b : Fin 4) (s : State) : Out :=
  .next (s.onDev fun d => d.mbxCommit b.val 0x0140 (chaefSigned b.val s.nv.boots))

end Sys2Proof.Machine
end

