-- ==== Sys2Proof/Machine/ExecTime.lean ====
section
/-! DEFINITION. The commands of timebases, leaps and timed actions: one meaning for each. -/

namespace Sys2Proof.Machine

/-- STEP: STEP written (R76). -/
def execStep (m : Master) (h : Half) (n : Fin 16) (s : State) : Out :=
  .next (s.onDev fun d => d.writeAt m (tsuB h n.val) (stepAsked h n.val))

/-- STEP_APPLY: a count second boundary (R76). -/
def execStepApply (h : Half) (n : Fin 16) (s : State) : Out := .next (s.onDev fun d => stepApplied s.nv h n.val d)

/-- FADJ_WRITE: FADJ_HI written (R74). -/
def execFadjWrite (m : Master) (h : Half) (n : Fin 16) (v : BitVec 16) (s : State) : Out :=
  .next (s.onDev fun d => d.writeAt m (tsuB h n.val + 0x34) (fadjWritten h n.val v.toNat))

/-- PADJ_START: PADJ_HI written (R75). -/
def execPadjStart (m : Master) (h : Half) (n : Fin 16) (v : BitVec 16) (s : State) : Out :=
  .next (s.onDev fun d => d.writeAt m (tsuB h n.val + 0x3C) (padjWritten h n.val v.toNat))

/-- PADJ_ABORT: PADJ_ABORT written (R75). -/
def execPadjAbort (m : Master) (h : Half) (n : Fin 16) (s : State) : Out :=
  .next (s.onDev fun d => d.writeAt m (tsuB h n.val) (padjAborted h n.val))

/-- PADJ_COMPLETE: the remaining adjustment has reached 0 (R75). -/
def execPadjComplete (h : Half) (n : Fin 16) (s : State) : Out := .next (s.onDev fun d => padjDone h n.val d)

/-- DOM_SEL_WRITE: DOM_SEL written (R84, R85). -/
def execDomSelWrite (m : Master) (h : Half) (n : Fin 16) (v : Bool) (s : State) : Out :=
  .next (s.onDev fun d => d.writeAt m (tsuB h n.val) (domSelWritten h n.val v))

/-- DOM_OFS_UPDATE: the offset from ALT is measured, `own` being the difference from the own chip in ps where ALT
names a peer (R72, R84). -/
def execDomOfsUpdate (h : Half) (n : Fin 16) (own : Int) (s : State) : Out :=
  .next (s.onDev fun d => domOfsMeasured h n.val own d)

/-- LEAP_COMMIT: COMMIT written (R78). -/
def execLeapCommit (m : Master) (s : State) : Out :=
  .next (s.onDev fun d => d.writeAt m (leapPg .warp + 0x300) leapCommitAsked)

/-- LEAP_ACTIVATE: the second boundary of a waiting commit (R79); the journal takes the new table (R505). -/
def execLeapActivate (s : State) : Out := .next (s.leapSaved (if s.dev.leapDue then leapBoundary s.dev else s.dev))

/-- LEAP_PEND_START: EFF_SEC less its offset less 86,400 of an entry is reached (R80). -/
def execLeapPendStart (h : Half) (n : Fin 16) (m : Fin 8) (s : State) : Out :=
  .next (s.onDev fun d => Sys2Proof.Machine.leapPendStart h n.val m.val d)

/-- LEAP_APPLIED: EFF_SEC of an entry is reached (R80). -/
def execLeapApplied (h : Half) (n : Fin 16) (m : Fin 8) (s : State) : Out :=
  .next (s.onDev fun d => Sys2Proof.Machine.leapApplied h n.val m.val d)

/-- SMEAR_WINDOW_OPEN: t_s of an entry is reached (R81). -/
def execSmearWindowOpen (h : Half) (n : Fin 16) (m : Fin 8) (s : State) : Out :=
  .next (s.onDev fun d => smearOpen h n.val m.val d)

/-- SMEAR_WINDOW_CLOSE: the end of the smear window is reached (R81). -/
def execSmearWindowClose (h : Half) (n : Fin 16) (s : State) : Out := .next (s.onDev fun d => smearClose h n.val d)

/-- LEAP_FOLD: firmware takes up LEAP_FOLD (R518). -/
def execLeapFold (b : Fin 4) (s : State) : Out := .next (s.onDev fun d => leapFoldTaken b.val d)

/-- LEAP_FOLD_APPLY: the second boundary of a waiting fold (R518); the journal takes the new table (R505). -/
def execLeapFoldApply (s : State) : Out := .next (s.leapSaved (leapFoldDecided s.dev))

/-- INSERTED_SECOND_START: EFF_SEC - 1 of an inserted leap is reached (R80). -/
def execInsertedSecondStart (h : Half) (n : Fin 16) (m : Fin 8) (s : State) : Out :=
  .next (s.onDev fun d => insertedStart h n.val m.val d)

/-- TTA_ARM: ARM written (R89). -/
def execTtaArm (m : Master) (h : Half) (e : Fin 64) (s : State) : Out :=
  .next (s.onDev fun d => d.writeAt m (ttaE h e.val) fun x => ttaActWritten (fireAct s.nv []) m h e.val (x.w (ttaE h e.val) ||| 1) x)

/-- TTA_REEVALUATE: a live change of an entry: TB (w = 0) or one of the three words of its instant (R89). -/
def execTtaReevaluate (m : Master) (h : Half) (e : Fin 64) (w : Fin 4) (v : Word) (s : State) : Out :=
  .next (s.onDev fun d => ttaChanged s.nv m h e.val w.val v.toNat d)

/-- TTA_PULSE: a PULSE entry fires (R87). -/
def execTtaPulse (h : Half) (e : Fin 64) (s : State) : Out := .next (s.onDev fun d => d.ttaFire pulseAct h e.val 1)

/-- TTA_OUT_START: an OUT_START entry fires (R86). -/
def execTtaOutStart (h : Half) (e : Fin 64) (s : State) : Out :=
  .next (s.onDev fun d => d.ttaFire outStartAct h e.val 2)

/-- TTA_OUT_STOP: an OUT_STOP entry fires (R565). -/
def execTtaOutStop (h : Half) (e : Fin 64) (s : State) : Out :=
  .next (s.onDev fun d => d.ttaFire outStopAct h e.val 3)

/-- TTA_TRIGGER: a TRIGGER entry fires (R104). -/
def execTtaTrigger (h : Half) (e : Fin 64) (s : State) : Out :=
  .next (s.onDev fun d => d.ttaFire triggerAct h e.val 4)

/-- TTA_SYNC_TX: a SYNC_TX entry fires (R358). -/
def execTtaSyncTx (h : Half) (e : Fin 64) (s : State) : Out := .next (s.onDev fun d => d.ttaFire syncTxAct h e.val 5)

/-- TTA_SNAPSHOT: a SNAPSHOT entry fires (R263). -/
def execTtaSnapshot (h : Half) (e : Fin 64) (s : State) : Out :=
  .next (s.onDev fun d => d.ttaFire (snapshotAct s.nv) h e.val 6)

/-- TTA_CONTROL: a CONTROL entry fires, with what the channels hold (R240). -/
def execTtaControl (h : Half) (e : Fin 64) (ms : List ChanMeas) (s : State) : Out :=
  .next (s.onDev fun d => d.ttaFire (controlAct ms) h e.val 7)

/-- TTA_REG_WRITE: a REG_WRITE entry fires (R88). -/
def execTtaRegWrite (h : Half) (e : Fin 64) (s : State) : Out :=
  .next (s.onDev fun d => d.ttaFire (regWriteAct s.nv) h e.val 8)

/-- TTA_DOMAIN_SWITCH: a DOMAIN_SWITCH entry fires (R84, R86). -/
def execTtaDomainSwitch (h : Half) (e : Fin 64) (s : State) : Out :=
  .next (s.onDev fun d => d.ttaFire domainSwitchAct h e.val 9)

end Sys2Proof.Machine
end

