-- ==== Sys2Proof/Machine/Dispatch.lean ====
section
/-! DEFINITION. The dispatcher: one arm per command, each one call of its meaning. -/

namespace Sys2Proof.Machine

/-- The effect of a command on everything but the queue. -/
def exec (i : Instr) (s : State) : Host.Outcome State Fault Refusal :=
  match i with
  | .registerWrite m a sp ws => Sys2Proof.Machine.execRegisterWrite m a sp ws s
  | .rlGroupRead m a => Sys2Proof.Machine.execRlGroupRead m a s
  | .spiWriteFrame frame => Sys2Proof.Machine.execSpiWriteFrame frame s
  | .spiReadFrame frame wait => Sys2Proof.Machine.execSpiReadFrame frame wait s
  | .accerrClear m => Sys2Proof.Machine.execAccerrClear m s
  | .softReset m a => Sys2Proof.Machine.execSoftReset m a s
  | .blockDisable m a => Sys2Proof.Machine.execBlockDisable m a s
  | .blockEnable m a => Sys2Proof.Machine.execBlockEnable m a s
  | .evtAck m a v => Sys2Proof.Machine.execEvtAck m a v s
  | .vectorGenerate v => Sys2Proof.Machine.execVectorGenerate v s
  | .vack m v => Sys2Proof.Machine.execVack m v s
  | .msixPbaRelease v en masked => Sys2Proof.Machine.execMsixPbaRelease v en masked s
  | .mbxGo m b => Sys2Proof.Machine.execMbxGo m b s
  | .mbxDone b => Sys2Proof.Machine.execMbxDone b s
  | .mbxTimeout b => Sys2Proof.Machine.execMbxTimeout b s
  | .echo b => Sys2Proof.Machine.execEcho b s
  | .queryTag b => Sys2Proof.Machine.execQueryTag b s
  | .fwVersion b => Sys2Proof.Machine.execFwVersion b s
  | .ltolWrite m a v => Sys2Proof.Machine.execLtolWrite m a v s
  | .powerStateEntry a idle => Sys2Proof.Machine.execPowerStateEntry a idle s
  | .blockWake a => Sys2Proof.Machine.execBlockWake a s
  | .pselWrite m a n v => Sys2Proof.Machine.execPselWrite m a n v s
  | .halfSkewMeasure m72 m73 => Sys2Proof.Machine.execHalfSkewMeasure m72 m73 s
  | .step m h n => Sys2Proof.Machine.execStep m h n s
  | .stepApply h n => Sys2Proof.Machine.execStepApply h n s
  | .fadjWrite m h n v => Sys2Proof.Machine.execFadjWrite m h n v s
  | .padjStart m h n v => Sys2Proof.Machine.execPadjStart m h n v s
  | .padjAbort m h n => Sys2Proof.Machine.execPadjAbort m h n s
  | .padjComplete h n => Sys2Proof.Machine.execPadjComplete h n s
  | .domSelWrite m h n v => Sys2Proof.Machine.execDomSelWrite m h n v s
  | .domOfsUpdate h n own => Sys2Proof.Machine.execDomOfsUpdate h n own s
  | .leapCommit m => Sys2Proof.Machine.execLeapCommit m s
  | .leapPendStart h n m => Sys2Proof.Machine.execLeapPendStart h n m s
  | .leapApplied h n m => Sys2Proof.Machine.execLeapApplied h n m s
  | .smearWindowOpen h n m => Sys2Proof.Machine.execSmearWindowOpen h n m s
  | .smearWindowClose h n => Sys2Proof.Machine.execSmearWindowClose h n s
  | .leapFold b => Sys2Proof.Machine.execLeapFold b s
  | .ttaArm m h e => Sys2Proof.Machine.execTtaArm m h e s
  | .ttaReevaluate m h e w v => Sys2Proof.Machine.execTtaReevaluate m h e w v s
  | .ttaPulse h e => Sys2Proof.Machine.execTtaPulse h e s
  | .ttaOutStart h e => Sys2Proof.Machine.execTtaOutStart h e s
  | .ttaOutStop h e => Sys2Proof.Machine.execTtaOutStop h e s
  | .ttaTrigger h e => Sys2Proof.Machine.execTtaTrigger h e s
  | .ttaSyncTx h e => Sys2Proof.Machine.execTtaSyncTx h e s
  | .ttaSnapshot h e => Sys2Proof.Machine.execTtaSnapshot h e s
  | .ttaControl h e ms => Sys2Proof.Machine.execTtaControl h e ms s
  | .ttaRegWrite h e => Sys2Proof.Machine.execTtaRegWrite h e s
  | .ttaDomainSwitch h e => Sys2Proof.Machine.execTtaDomainSwitch h e s
  | .edgeCapture cp fall e0 e1 => Sys2Proof.Machine.execEdgeCapture cp fall e0 e1 s
  | .captureCalibrate h cp c1 c2 => Sys2Proof.Machine.execCaptureCalibrate h cp c1 c2 s
  | .qrdWrite m h cp v => Sys2Proof.Machine.execQrdWrite m h cp v s
  | .missedClr m h cp => Sys2Proof.Machine.execMissedClr m h cp s
  | .comparatorWrite m h cp thr v => Sys2Proof.Machine.execComparatorWrite m h cp thr v s
  | .intervalTimeout h cp => Sys2Proof.Machine.execIntervalTimeout h cp s
  | .wordClockTrack p tx words ce0 ce1 => Sys2Proof.Machine.execWordClockTrack p tx words ce0 ce1 s
  | .selvedgeMarker l leaves e0 e1 => Sys2Proof.Machine.execSelvedgeMarker l leaves e0 e1 s
  | .tempCompensate h ps => Sys2Proof.Machine.execTempCompensate h ps s
  | .refEnWrite m h c v => Sys2Proof.Machine.execRefEnWrite m h c v s
  | .amonInterval h c => Sys2Proof.Machine.execAmonInterval h c s
  | .fmonWindow h c => Sys2Proof.Machine.execFmonWindow h c s
  | .qualHoldExpire h c => Sys2Proof.Machine.execQualHoldExpire h c s
  | .decideEnd h n => Sys2Proof.Machine.execDecideEnd h n s
  | .buildOutEnd h n => Sys2Proof.Machine.execBuildOutEnd h n s
  | .wtrExpire h n c => Sys2Proof.Machine.execWtrExpire h n c s
  | .loopUpdate h k => Sys2Proof.Machine.execLoopUpdate h k s
  | .loopLate h k => Sys2Proof.Machine.execLoopLate h k s
  | .loopEnWrite m h k v => Sys2Proof.Machine.execLoopEnWrite m h k v s
  | .realign m h k => Sys2Proof.Machine.execRealign m h k s
  | .realignApply h k => Sys2Proof.Machine.execRealignApply h k s
  | .holdSourceLost h k => Sys2Proof.Machine.execHoldSourceLost h k s
  | .holdExpired h k => Sys2Proof.Machine.execHoldExpired h k s
  | .modelReset m h => Sys2Proof.Machine.execModelReset m h s
  | .modelSave w => Sys2Proof.Machine.execModelSave w s
  | .tempRead reads => Sys2Proof.Machine.execTempRead reads s
  | .loLost h => Sys2Proof.Machine.execLoLost h s
  | .loReturn h => Sys2Proof.Machine.execLoReturn h s
  | .relock m h => Sys2Proof.Machine.execRelock m h s
  | .hop m h j => Sys2Proof.Machine.execHop m h j s
  | .mWrite m h v => Sys2Proof.Machine.execMWrite m h v s
  | .bandSelect h band => Sys2Proof.Machine.execBandSelect h band s
  | .lockDeclare h ok => Sys2Proof.Machine.execLockDeclare h ok s
  | .lossOfLock h j => Sys2Proof.Machine.execLossOfLock h j s
  | .outEnWrite m h o v => Sys2Proof.Machine.execOutEnWrite m h o v s
  | .dacUpdate h => Sys2Proof.Machine.execDacUpdate h s
  | .dacFrame h => Sys2Proof.Machine.execDacFrame h s
  | .dacCodeWrite m h v => Sys2Proof.Machine.execDacCodeWrite m h v s
  | .boundExchange ok => Sys2Proof.Machine.execBoundExchange ok s
  | .chaefSign b => Sys2Proof.Machine.execChaefSign b s
  | .bandClkLost b => Sys2Proof.Machine.execBandClkLost b s
  | .bandClkOk b edges => Sys2Proof.Machine.execBandClkOk b edges s
  | .bandFifoDrop b n => Sys2Proof.Machine.execBandFifoDrop b n s
  | .agcUpdate b samples => Sys2Proof.Machine.execAgcUpdate b samples s
  | .jamUpdate b samples second => Sys2Proof.Machine.execJamUpdate b samples second s
  | .spectrumAverage b spectra => Sys2Proof.Machine.execSpectrumAverage b spectra s
  | .notchConfigWrite m b k r v => Sys2Proof.Machine.execNotchConfigWrite m b k r v s
  | .bandConfigWrite m b r v => Sys2Proof.Machine.execBandConfigWrite m b r v s
  | .acqSubmit m => Sys2Proof.Machine.execAcqSubmit m s
  | .acqFlush m => Sys2Proof.Machine.execAcqFlush m s
  | .acqPassEnd src p => Sys2Proof.Machine.execAcqPassEnd src p s
  | .acqVerifyEnd src p => Sys2Proof.Machine.execAcqVerifyEnd src p s
  | .acqResultPop m => Sys2Proof.Machine.execAcqResultPop m s
  | .channelTransition c seen => Sys2Proof.Machine.execChannelTransition c seen s
  | .channelStop m c => Sys2Proof.Machine.execChannelStop m c s
  | .channelOwnerWrite m c v => Sys2Proof.Machine.execChannelOwnerWrite m c v s
  | .chgClr m j v => Sys2Proof.Machine.execChgClr m j v s
  | .multipathFit c delay amp ok => Sys2Proof.Machine.execMultipathFit c delay amp ok s
  | .channelAllocate views => Sys2Proof.Machine.execChannelAllocate views s
  | .gnssSolution j => Sys2Proof.Machine.execGnssSolution j s
  | .positionSet m v => Sys2Proof.Machine.execPositionSet m v s
  | .snapStart m => Sys2Proof.Machine.execSnapStart m s
  | .snapAbort m samples => Sys2Proof.Machine.execSnapAbort m samples s
  | .snapCaptureEnd samples => Sys2Proof.Machine.execSnapCaptureEnd samples s
  | .snapProcess b r => Sys2Proof.Machine.execSnapProcess b r s
  | .linkUp p x => Sys2Proof.Machine.execLinkUp p x s
  | .linkDown p seen => Sys2Proof.Machine.execLinkDown p seen s
  | .delayMeasureDone p rx tx => Sys2Proof.Machine.execDelayMeasureDone p rx tx s
  | .pcsConfigWrite m p v => Sys2Proof.Machine.execPcsConfigWrite m p v s
  | .esmcReceive p ssm essm => Sys2Proof.Machine.execEsmcReceive p ssm essm s
  | .esmcTimeout p => Sys2Proof.Machine.execEsmcTimeout p s
  | .esmcTransmit p => Sys2Proof.Machine.execEsmcTransmit p s
  | .esmcEventPdu p => Sys2Proof.Machine.execEsmcEventPdu p s
  | .pauseReceive p f => Sys2Proof.Machine.execPauseReceive p f s
  | .pauseExpire p c => Sys2Proof.Machine.execPauseExpire p c s
  | .counterSnapshot m p => Sys2Proof.Machine.execCounterSnapshot m p s
  | .counterSnapshotAll m h => Sys2Proof.Machine.execCounterSnapshotAll m h s
  | .frameReceive p f => Sys2Proof.Machine.execFrameReceive p f s
  | .fwdEntryCommit m h e v => Sys2Proof.Machine.execFwdEntryCommit m h e v s
  | .egressFrameBoundary p => Sys2Proof.Machine.execEgressFrameBoundary p s
  | .mcAged h j => Sys2Proof.Machine.execMcAged h j s
  | .pauseRepeat p c => Sys2Proof.Machine.execPauseRepeat p c s
  | .bridgeTransfer h credit => Sys2Proof.Machine.execBridgeTransfer h credit s
  | .gateAccept h j => Sys2Proof.Machine.execGateAccept h j s
  | .gateRelease p => Sys2Proof.Machine.execGateRelease p s
  | .lgtBlind p => Sys2Proof.Machine.execLgtBlind p s
  | .reportPop m p => Sys2Proof.Machine.execReportPop m p s
  | .svcEntryCommit m h a v => Sys2Proof.Machine.execSvcEntryCommit m h a v s
  | .responderAccept h => Sys2Proof.Machine.execResponderAccept h s
  | .requestParse h id => Sys2Proof.Machine.execRequestParse h id s
  | .requestClassify h id => Sys2Proof.Machine.execRequestClassify h id s
  | .rateCheck h id credit => Sys2Proof.Machine.execRateCheck h id credit s
  | .requestVerify h id => Sys2Proof.Machine.execRequestVerify h id s
  | .replyBuild h id => Sys2Proof.Machine.execReplyBuild h id s
  | .replySeal h id => Sys2Proof.Machine.execReplySeal h id s
  | .lateCheck h id => Sys2Proof.Machine.execLateCheck h id s
  | .ntsMint b => Sys2Proof.Machine.execNtsMint b s
  | .rateClear m h => Sys2Proof.Machine.execRateClear m h s
  | .hkeyWrite m h w v => Sys2Proof.Machine.execHkeyWrite m h w v s
  | .announceSend h n => Sys2Proof.Machine.execAnnounceSend h n s
  | .unicastGrantSend h n => Sys2Proof.Machine.execUnicastGrantSend h n s
  | .followUpSend h => Sys2Proof.Machine.execFollowUpSend h s
  | .signalingRequest h id => Sys2Proof.Machine.execSignalingRequest h id s
  | .grantExpire h n => Sys2Proof.Machine.execGrantExpire h n s
  | .grantRevoke m h n => Sys2Proof.Machine.execGrantRevoke m h n s
  | .grantCopy ok => Sys2Proof.Machine.execGrantCopy ok s
  | .instanceAnnounce h k => Sys2Proof.Machine.execInstanceAnnounce h k s
  | .instanceAnnounceTimeout h k => Sys2Proof.Machine.execInstanceAnnounceTimeout h k s
  | .instanceSync h k => Sys2Proof.Machine.execInstanceSync h k s
  | .instanceDelayReq h k at_ => Sys2Proof.Machine.execInstanceDelayReq h k at_ s
  | .instanceDelayResp h k => Sys2Proof.Machine.execInstanceDelayResp h k s
  | .instanceGrantRenew h k => Sys2Proof.Machine.execInstanceGrantRenew h k s
  | .instanceConfigWrite m h k w v => Sys2Proof.Machine.execInstanceConfigWrite m h k w v s
  | .keyLoad b w => Sys2Proof.Machine.execKeyLoad b w s
  | .genActivated h f => Sys2Proof.Machine.execGenActivated h f s
  | .genRetire h k => Sys2Proof.Machine.execGenRetire h k s
  | .genRetired h k defect => Sys2Proof.Machine.execGenRetired h k defect s
  | .keyRetire b => Sys2Proof.Machine.execKeyRetire b s
  | .zeroise m h v => Sys2Proof.Machine.execZeroise m h v s
  | .zeroDone bad => Sys2Proof.Machine.execZeroDone bad s
  | .tamper src => Sys2Proof.Machine.execTamper src s
  | .certRead b => Sys2Proof.Machine.execCertRead b s
  | .prpHoldExpire h => Sys2Proof.Machine.execPrpHoldExpire h s
  | .slvUp l peer plink => Sys2Proof.Machine.execSlvUp l peer plink s
  | .slvDown l => Sys2Proof.Machine.execSlvDown l s
  | .flitReceive l f => Sys2Proof.Machine.execFlitReceive l f s
  | .timeTransfer l t2 t3 => Sys2Proof.Machine.execTimeTransfer l t2 t3 s
  | .healthReportReceive l bytes => Sys2Proof.Machine.execHealthReportReceive l bytes s
  | .claimSwitch h g => Sys2Proof.Machine.execClaimSwitch h g s
  | .ilkEvaluate ilkIn => Sys2Proof.Machine.execIlkEvaluate ilkIn s
  | .mirrorReceive l record => Sys2Proof.Machine.execMirrorReceive l record s
  | .mirrorContextReceive l c => Sys2Proof.Machine.execMirrorContextReceive l c s
  | .stateCopyApply h item intact => Sys2Proof.Machine.execStateCopyApply h item intact s
  | .joinStepAdvance h => Sys2Proof.Machine.execJoinStepAdvance h s
  | .halfRejoined h => Sys2Proof.Machine.execHalfRejoined h s
  | .avsReading h pace vread answered => Sys2Proof.Machine.execAvsReading h pace vread answered s
  | .avsVsetWrite m h v answered => Sys2Proof.Machine.execAvsVsetWrite m h v answered s
  | .kettleTransfer kfofs => Sys2Proof.Machine.execKettleTransfer kfofs s
  | .kettleSleep b w kfofs => Sys2Proof.Machine.execKettleSleep b w kfofs s
  | .kettleWake pin => Sys2Proof.Machine.execKettleWake pin s
  | .scrubPass h fixed => Sys2Proof.Machine.execScrubPass h fixed s
  | .flashEraseDone block verified => Sys2Proof.Machine.execFlashEraseDone block verified s
  | .flashStat b => Sys2Proof.Machine.execFlashStat b s
  | .faultDetect a unit code => Sys2Proof.Machine.execFaultDetect a unit code s
  | .safeStateEntry h => Sys2Proof.Machine.execSafeStateEntry h s
  | .faultLogFree m h v => Sys2Proof.Machine.execFaultLogFree m h v s
  | .firstClear m h => Sys2Proof.Machine.execFirstClear m h s
  | .lostClear m h => Sys2Proof.Machine.execLostClear m h s
  | .autoHalfReset h rootOk => Sys2Proof.Machine.execAutoHalfReset h rootOk s
  | .otherRst m h rootOk => Sys2Proof.Machine.execOtherRst m h rootOk s
  | .bistGo m h => Sys2Proof.Machine.execBistGo m h s
  | .bstDone seen => Sys2Proof.Machine.execBstDone seen s
  | .bistAbort m h => Sys2Proof.Machine.execBistAbort m h s
  | .samplePreload pins cells => Sys2Proof.Machine.execSamplePreload pins cells s
  | .privateTest op dr => Sys2Proof.Machine.execPrivateTest op dr s
  | .lcsOwnSet b => Sys2Proof.Machine.execLcsOwnSet b s
  | .lcsField b => Sys2Proof.Machine.execLcsField b s
  | .lcsScrap b => Sys2Proof.Machine.execLcsScrap b s
  | .lcsPassword b => Sys2Proof.Machine.execLcsPassword b s
  | .lcsChallenge b => Sys2Proof.Machine.execLcsChallenge b s
  | .lcsRespond b => Sys2Proof.Machine.execLcsRespond b s
  | .lcsClose b => Sys2Proof.Machine.execLcsClose b s
  | .prfGather h => Sys2Proof.Machine.execPrfGather h s
  | .prfDone h => Sys2Proof.Machine.execPrfDone h s
  | .prfRptrWrite m h v => Sys2Proof.Machine.execPrfRptrWrite m h v s
  | .prfSizeWrite m h v => Sys2Proof.Machine.execPrfSizeWrite m h v s
  | .telUpdate h v x => Sys2Proof.Machine.execTelUpdate h v x s
  | .telClr m h => Sys2Proof.Machine.execTelClr m h s
  | .porstRelease j => Sys2Proof.Machine.execPorstRelease j s
  | .timeSeed ticks => Sys2Proof.Machine.execTimeSeed ticks s
  | .startRestore which bootsOk image => Sys2Proof.Machine.execStartRestore which bootsOk image s
  | .warmReset j => Sys2Proof.Machine.execWarmReset j s
  | .hdmProdWrite m q v => Sys2Proof.Machine.execHdmProdWrite m q v s
  | .hdmTxDescriptor q entry frame => Sys2Proof.Machine.execHdmTxDescriptor q entry frame s
  | .hdmRxFrame q entry => Sys2Proof.Machine.execHdmRxFrame q entry s
  | .hdmQueueEnable m q v => Sys2Proof.Machine.execHdmQueueEnable m q v s
  | .hdmBmeChange v => Sys2Proof.Machine.execHdmBmeChange v s
  | .hdmDmaError q write => Sys2Proof.Machine.execHdmDmaError q write s
  | .registerRead m a sp => Sys2Proof.Machine.execRegisterRead m a sp s
  | .insertedSecondStart h n m => Sys2Proof.Machine.execInsertedSecondStart h n m s
  | .faultConditionEnd a unit code => Sys2Proof.Machine.execFaultConditionEnd a unit code s
  | .instanceSyncTimeout h k => Sys2Proof.Machine.execInstanceSyncTimeout h k s
  | .peerReportTimeout l => Sys2Proof.Machine.execPeerReportTimeout l s
  | .scheduleTakeover => Sys2Proof.Machine.execScheduleTakeover s
  | .settingsCompare => Sys2Proof.Machine.execSettingsCompare s
  | .leapActivate => Sys2Proof.Machine.execLeapActivate s
  | .leapFoldApply => Sys2Proof.Machine.execLeapFoldApply s
  | .selEvaluate => Sys2Proof.Machine.execSelEvaluate s
  | .voteWindow => Sys2Proof.Machine.execVoteWindow s
  | .holdoverSample => Sys2Proof.Machine.execHoldoverSample s
  | .modelUpdate => Sys2Proof.Machine.execModelUpdate s
  | .publishValues => Sys2Proof.Machine.execPublishValues s
  | .boundSample => Sys2Proof.Machine.execBoundSample s
  | .epochOpen => Sys2Proof.Machine.execEpochOpen s
  | .dateFloorRecord => Sys2Proof.Machine.execDateFloorRecord s
  | .grantCopyLost => Sys2Proof.Machine.execGrantCopyLost s
  | .purgeDone => Sys2Proof.Machine.execPurgeDone s
  | .digestCheck => Sys2Proof.Machine.execDigestCheck s
  | .probeInject => Sys2Proof.Machine.execProbeInject s
  | .healthReportSend => Sys2Proof.Machine.execHealthReportSend s
  | .claimSend => Sys2Proof.Machine.execClaimSend s
  | .claimEvaluate => Sys2Proof.Machine.execClaimEvaluate s
  | .chipAlone => Sys2Proof.Machine.execChipAlone s
  | .chipRejoined => Sys2Proof.Machine.execChipRejoined s
  | .kettleBoundUpdate => Sys2Proof.Machine.execKettleBoundUpdate s
  | .ktlXoFail => Sys2Proof.Machine.execKtlXoFail s
  | .coreEnRelease => Sys2Proof.Machine.execCoreEnRelease s
  | .extest => Sys2Proof.Machine.execExtest s
  | .idcode => Sys2Proof.Machine.execIdcode s
  | .clamp => Sys2Proof.Machine.execClamp s
  | .highz => Sys2Proof.Machine.execHighz s
  | .extestPulse => Sys2Proof.Machine.execExtestPulse s
  | .extestTrain => Sys2Proof.Machine.execExtestTrain s
  | .bypass => Sys2Proof.Machine.execBypass s
  | .tapReset => Sys2Proof.Machine.execTapReset s
  | .challengeExpire => Sys2Proof.Machine.execChallengeExpire s
  | .coreEnAssert => Sys2Proof.Machine.execCoreEnAssert s
  | .powerOnReset => Sys2Proof.Machine.execPowerOnReset s
  | .servingEntry => Sys2Proof.Machine.execServingEntry s
  | .pcieReset => Sys2Proof.Machine.execPcieReset s
  | .vaonLoss => Sys2Proof.Machine.execVaonLoss s
  | .vddsRemoved => Sys2Proof.Machine.execVddsRemoved s

end Sys2Proof.Machine
end

