-- ==== Sys2Proof/Machine/Step.lean ====
section
/-! DEFINITION. One step: the command at the front of the queue is taken and has its effect; with no command waiting, one
device tick passes. -/

namespace Sys2Proof.Machine

/-- The state with a command put at the front of its queue. -/
def State.withFront (s : State) (c : Instr) : State := { s with pending := c :: s.pending }

/-- The state with its queue replaced. -/
def State.withPending (s : State) (q : List Instr) : State := { s with pending := q }

/-- One step. On an empty queue the block's own clock advances by one tick of 4 ns (DESIGN CHOICE).
[DESIGN CHOICE log 1, 3, 227] -/
def step (s : State) : Host.Outcome State Fault Refusal :=
  match s.pending with
  | [] => .next (s.onDev ticked)
  | c :: q => exec c (s.withPending q)

/-- The state with the command that a word spells at the front of its queue; unchanged where the word spells none.
[DESIGN CHOICE log 4] -/
def State.withFetchWord (s : State) (nbits w : Nat) : State :=
  match decodeTableWord nbits w with
  | none => s
  | some c => s.withFront c

end Sys2Proof.Machine
end

