-- ==== Sys2Proof/Safety.lean ====
section
/-! DEFINITION. The terms that claims about the block use: what a write needs to be performed, what a command leaves alone, and
what the chip keeps without power never losing. -/

namespace Sys2Proof.Machine

/-- A write by a master at an address is performed: it draws no access error (R36, R46, R47, R57, R498). -/
def State.writable (s : State) (m : Master) (a : Nat) : Prop := s.dev.accessError m a true = none

/-- The register words of two devices agree at every address that is not listed. -/
def Dev.sameWords (d e : Dev) (except : List Nat) : Prop := ∀ a, a ∉ except → e.w a = d.w a

/-- The event words of two devices agree but for those listed, each as its page's address plus its number. -/
def Dev.sameEvents (d e : Dev) (except : List Nat) : Prop := ∀ pg k, pg + k ∉ except → e.evt pg k = d.evt pg k

/-- Two devices differ at most in register words, event words and programmable counters: every engine is as it was. What test
controls hold may differ only in a lifecycle state in which they are live (R42). -/
def Dev.sameUnits (d e : Dev) : Prop :=
  { e with regs := d.regs, evts := d.evts, pcnt := d.pcnt, tests := d.tests } = d ∧ (d.testsLive = false → e.tests = d.tests)

/-- What the chip keeps without power, and the queue, are as they were. -/
def State.keepsRest (s t : State) : Prop := t.nv = s.nv ∧ t.pending = s.pending

/-- A command changes words and events of two lists at most, and no engine, no journal and no queue. -/
def State.onlyTouches (s t : State) (words events : List Nat) : Prop :=
  s.dev.sameWords t.dev words ∧ s.dev.sameEvents t.dev events ∧ s.dev.sameUnits t.dev ∧ s.keepsRest t

/-- Every timebase but one is as it was. -/
def Dev.otherTbs (d e : Dev) (h : Half) (n : Nat) : Prop := ∀ g k, g.num * 16 + k ≠ h.num * 16 + n → e.tb g k = d.tb g k

/-- A command changes one timebase, of it never the count, and words and events of two lists at most. -/
def State.onlyTb (s t : State) (h : Half) (n : Nat) (words events : List Nat) : Prop :=
  s.onlyTouches { t with dev := { t.dev with tbs := s.dev.tbs } } words events ∧ s.dev.otherTbs t.dev h n ∧
    ∀ g k, t.dev.count g k = s.dev.count g k

/-- LEAP_PEND, IN_LEAP and LI of a timebase are what the active table gives at its count (R80). -/
def Dev.leapStatusIs (d : Dev) (h : Half) (n : Nat) : Prop :=
  d.gb (tsuB h n) Reg.TSU.STAT_LEAP_PEND = ((d.leapActive h).pendingAt (d.sec h n)).isSome ∧
    d.gb (tsuB h n) Reg.TSU.STAT_IN_LEAP = (d.leapActive h).inserted (d.sec h n) ∧
    d.g (tsuB h n) Reg.TSU.SCL_INFO_LI =
      match (d.leapActive h).pendingAt (d.sec h n) with | none => 0 | some dl => if 0 < dl then 1 else 2

/-- No key record of the journal belongs to a slot that a zeroisation intent names (R510). -/
def NV.noGhost (nv : NV) : Prop := ∀ e ∈ nv.keys, e.1 ∉ nv.intents

/-- What the journal and the fuses never take back: the lifecycle code and the date floor never fall, BOOTS never falls, a
retired flash block stays retired, and the fused variant never changes (R261, R449, R473, R505). -/
def NV.forward (a b : NV) : Prop :=
  a.lifecycle ≤ b.lifecycle ∧ a.floor ≤ b.floor ∧ a.boots ≤ b.boots ∧ (∀ x ∈ a.retired, x ∈ b.retired) ∧
    b.variantN = a.variantN

/-- The words of a timed-action entry that a firing may change: ACT, the instant and ESTAT. -/
def ttaWords (h : Half) (e : Nat) : List Nat := [ttaE h e, ttaE h e + 4, ttaE h e + 8, ttaE h e + 12, ttaE h e + 28]

/-- What follows a firing of an entry (R86, R87): FIRED counts up, wrapping; a one-shot entry clears ARM, a periodic one adds
its period to its instant and stays armed. -/
def State.firedBy (s t : State) (h : Half) (e : Nat) : Prop :=
  t.dev.g (ttaE h e) Reg.TTA.ESTAT_FIRED = (s.dev.g (ttaE h e) Reg.TTA.ESTAT_FIRED + 1) % 2 ^ 16 ∧
    (s.dev.ttaPeriod h e = 0 → t.dev.ttaArmed h e = false ∧ t.dev.ttaNs h e = s.dev.ttaNs h e) ∧
    (s.dev.ttaPeriod h e ≠ 0 → t.dev.ttaArmed h e = true ∧
      t.dev.ttaNs h e = (s.dev.ttaNs h e + s.dev.ttaPeriod h e) % (2 ^ 48 * 10 ^ 9))

/-- The OSTAT words of a half's outputs. -/
def outStatWords (h : Half) : List Nat := outputs.map fun x => outO h x.1 x.2 + 0x14

/-- The OUT_GATED events of a half's outputs. -/
def outEvents (h : Half) : List Nat := outputs.map fun x => outPg h x.1 + (2 * x.2 + 1)

/-- A message of a service may leave at an instant: the service does not authenticate, or its keys are usable and its family
has an active generation then (R359, R377, R392). -/
def Dev.sealable (d : Dev) (h : Half) (cfg : List Nat) (i : Nat) : Bool :=
  cfgBits cfg Reg.TRS.AUTH_AUTH_EN == 0 ||
    (!(d.keysOff h) && (d.sppSlot h (d.w (trsPg h + 0x340 + 8 * cfgBits cfg Reg.TRS.AUTH_SPP_IDX)) i).isSome)

/-- A waiting firmware command is finished with a code and response words, and the mailbox's others wait as before (R64, R65). -/
def State.finished (s t : State) (b : Nat) (c : FwCmd) (code : Nat) (rsp : List Word) : Prop :=
  (t.dev.mb b).fw = (s.dev.mb b).fw.map fun x => if x.id = c.id then { x with done := some (code, rsp) } else x

/-- A mailbox holds a command of an opcode that its half's running firmware may commit (R65). -/
def State.atCommit (s : State) (b op : Nat) (c : FwCmd) : Prop :=
  (s.dev.mb b).waiting op = some c ∧ s.dev.coresRun (mbxHalf b) = true

/-- A mailbox holds no command of an opcode, or its half's firmware does not run. -/
def State.noCommit (s : State) (b op : Nat) : Prop :=
  (s.dev.mb b).waiting op = none ∨ s.dev.coresRun (mbxHalf b) = false

/-- A waiting firmware command is finished with a code and response words, and nothing but the mailboxes changes. -/
def State.answersOnly (s t : State) (b : Nat) (c : FwCmd) (code : Nat) (rsp : List Word) : Prop :=
  s.finished t b c code rsp ∧ { t with dev := { t.dev with mbx := s.dev.mbx } } = s

end Sys2Proof.Machine
end

