-- ==== Sys2Proof/Certificates/Slice0/Obligations.lean ====
section
/-! DEFINITION. What is claimed of the block, one proposition per obligation. Every claim about a command says that exec answers a
next state under the conditions given, what that state holds, and what it leaves alone. -/

open Sys2Proof Sys2Proof.Machine

/-! ### The queue, the clock and reset -/

/-- The command at the front of the queue is taken, and its effect is exec's with the rest of the queue. -/
def Obligations.StepTakesFrontCommand : Prop :=
  ∀ (c : Instr) (q : List Instr) (s : State), step { s with pending := c :: q } = exec c (s.withPending q)

/-- With no command waiting one device tick passes: the model's choice (log entry 1), which keeps queue and journal. -/
def Obligations.EmptyQueueTicks : Prop :=
  ∀ s : State, s.pending = [] → ∃ t, step s = .next t ∧ t.pending = [] ∧ t.nv = s.nv ∧ t.dev.now = s.dev.now + 1

/-- Right after reset nothing waits, every page's ENABLE reads 1, every event word is clear and masked by EVT_MASK (R38), no
access error is held (R58), only the owner's lifecycle state of the fuses stands (the model's choice, log entry 5), and the
register file lists nothing. -/
def Obligations.ResetLeavesBlockEnabledAndQuiet : Prop :=
  State.reset.pending = [] ∧ State.reset.dev.regs = [] ∧
    (∀ pg, pageExists pg = true → pageOff pg = 0 →
      State.reset.dev.enabled pg = true ∧ State.reset.dev.w (pg + 0x1C) = 0xFFFFFFFF ∧
        ∀ k, State.reset.dev.evt pg k = ⟨false, false, 0, 0⟩) ∧
    State.reset.dev.gb sysPg Reg.SYS.ACCERR_INFO_VALID = false ∧ State.reset.nv.lifecycle = 2

/-- No command ends in a fault or a refusal: each answers a next state, and leaves the rest of the queue as it was. -/
def Obligations.EveryCommandAnswersAndKeepsQueue : Prop :=
  ∀ (c : Instr) (s : State), ∃ t, exec c s = .next t ∧ t.pending = s.pending

/-! ### What the journal and the fuses keep, over every step -/

/-- From every state whose lifecycle code is one the fuses have (R473), a step leaves it one, and takes nothing back that the
journal and the fuses hold: the lifecycle never goes back, the date floor never moves backward (R261), BOOTS never falls
(R505) and a retired flash block stays retired (R449). -/
def Obligations.JournalNeverGoesBack : Prop :=
  ∀ s t : State, s.nv.lifecycle ≤ 5 → step s = .next t → t.nv.lifecycle ≤ 5 ∧ s.nv.forward t.nv

/-- From every state in which no key record belongs to a slot named by a zeroisation intent, a step leaves none (R385, R510).
-/
def Obligations.NoKeyRecordOutlivesItsIntent : Prop :=
  ∀ s t : State, s.nv.noGhost → step s = .next t → t.nv.noGhost

/-- After reset the lifecycle code is one the fuses have, and no key record belongs to a slot that an intent names. -/
def Obligations.ResetJournalIsSound : Prop := State.reset.nv.lifecycle ≤ 5 ∧ State.reset.nv.noGhost

/-- The commands after which the journal or the fuses may differ. -/
def Obligations.OnlyNamedCommandsTouchJournal : Prop :=
  ∀ (c : Instr) (s t : State), exec c s = .next t →
    t.nv = s.nv ∨
      match c with
      | .registerWrite .. | .spiWriteFrame .. | .zeroise .. | .zeroDone .. | .purgeDone | .keyLoad .. => True
      | .leapActivate | .leapFoldApply | .modelSave .. | .gnssSolution .. | .dateFloorRecord => True
      | .kettleSleep .. | .flashEraseDone .. | .bstDone .. | .startRestore .. => True
      | .lcsOwnSet .. | .lcsField .. | .lcsScrap .. | .lcsRespond .. => True
      | _ => False

/-! ### The register fabric -/

/-- A write that draws an access error is discarded (R43 to R47): the event of its kind occurs at SYS, and its address,
master and kind are held unless a record is held already (R58); nothing else changes. It says so of STEP, and every other
write command goes through the same access. CLEAR of ACCERR_INFO clears VALID alone. It says where STEP and ACCERR_CLEAR
complete. -/
def Obligations.RefusedWriteRecordsFirstErrorUntilCleared : Prop :=
  (∀ (m : Master) (h : Half) (n : Fin 16) (e : AccErr) (s : State),
    s.dev.accessError m (tsuB h n.val) true = some e →
    ∃ t, exec (.step m h n) s = .next t ∧
      t.dev.evt sysPg e.event = (s.dev.evt sysPg e.event).occur ∧
      t.dev.gb sysPg Reg.SYS.ACCERR_INFO_VALID = true ∧
      (s.dev.gb sysPg Reg.SYS.ACCERR_INFO_VALID = false →
        t.dev.w (sysPg + 0x104) = tsuB h n.val ∧
        t.dev.g sysPg Reg.SYS.ACCERR_INFO_MASTER = m.num ∧ t.dev.g sysPg Reg.SYS.ACCERR_INFO_KIND = e.kind ∧
        t.dev.gb sysPg Reg.SYS.ACCERR_INFO_WRITE = true) ∧
      (s.dev.gb sysPg Reg.SYS.ACCERR_INFO_VALID = true → s.dev.sameWords t.dev []) ∧
      s.onlyTouches t [sysPg + 0x104, sysPg + 0x108] [sysPg + e.event]) ∧
  ∀ (m : Master) (s : State), s.writable m (sysPg + 0x108) →
    ∃ t, exec (.accerrClear m) s = .next t ∧
      t.dev.gb sysPg Reg.SYS.ACCERR_INFO_VALID = false ∧
      t.dev.g sysPg Reg.SYS.ACCERR_INFO_KIND = s.dev.g sysPg Reg.SYS.ACCERR_INFO_KIND ∧
      s.onlyTouches t [sysPg + 0x108] []

/-- A write to EVT_MASK through the fabric, by a PCIe, firmware or timed access of 32 bits or by an SPI frame of eight bytes
(R43, R61), is applied at the page and takes effect at once (R48): the word holds the written value. It says where
REGISTER_WRITE and SPI_WRITE_FRAME complete. -/
def Obligations.FabricWriteTakesEffectAtPage : Prop :=
  (∀ (m : Master) (a : BitVec 24) (v : Word) (s : State),
    pageOff a.toNat = 0x1C → s.writable m a.toNat →
    ∃ t, exec (.registerWrite m a (.narrow .b32) [v]) s = .next t ∧
      t.dev.w a.toNat = v.toNat ∧ s.onlyTouches t [a.toNat] []) ∧
  ∀ (a2 a1 a0 d3 d2 d1 d0 : Byte) (s : State),
    pageOff (natOfBE [a2, a1, a0]) = 0x1C → s.writable .spi (natOfBE [a2, a1, a0]) →
    ∃ t, exec (.spiWriteFrame [0x02#8, a2, a1, a0, d3, d2, d1, d0]) s = .next t ∧
      t.dev.w (natOfBE [a2, a1, a0]) = natOfBE [d3, d2, d1, d0] ∧ t.dev.miso = List.replicate 8 0#8 ∧
      s.dev.sameWords t.dev [natOfBE [a2, a1, a0]] ∧ s.dev.sameEvents t.dev [] ∧ s.keepsRest t

/-- A performed 32-bit read answers the word that its register reads as (R43), by an SPI frame after the bytes that pass
while the access is in progress, with 0xA5 before it and a status byte of 0 after it (R61); of a read-latch group the lowest
word is read and latches every word of the group for the master, and the higher words are read through that latch (R41). PID
answers its word (R38), and PRF_TICK its count. No word and no event changes. It says where REGISTER_READ, SPI_READ_FRAME and
RL_GROUP_READ complete. -/
def Obligations.FabricReadAnswersWithoutSideEffect : Prop :=
  (∀ (m : Master) (a : BitVec 24) (s : State),
    a.toNat % 4 = 0 → s.dev.accessError m a.toNat false = none →
    let d := s.dev.regAccess m a.toNat
    ∃ t, exec (.registerRead m a (.narrow .b32)) s = .next t ∧
      (rlGroup a.toNat = none → tget {} t.dev.cpl m.num = ⟨[BitVec.ofNat 32 (d.view s.nv a.toNat)], true, false⟩ ∧
        t.dev.latch = s.dev.latch) ∧
      (∀ n, rlGroup a.toNat = some (a.toNat, n) → 0 < n → (∀ i < n, ∀ j < n, latchKey m (a.toNat + 4 * i) = latchKey m (a.toNat + 4 * j) → i = j) →
        tget {} t.dev.cpl m.num = ⟨[BitVec.ofNat 32 (d.view s.nv a.toNat)], true, false⟩ ∧
        ∀ i < n, t.dev.latched m (a.toNat + 4 * i) = BitVec.ofNat 32 (d.view s.nv (a.toNat + 4 * i))) ∧
      (∀ lo n, rlGroup a.toNat = some (lo, n) → lo ≠ a.toNat →
        tget {} t.dev.cpl m.num = ⟨[s.dev.latched m a.toNat], true, false⟩ ∧ t.dev.latch = s.dev.latch) ∧
      s.dev.sameWords t.dev [] ∧ s.dev.sameEvents t.dev [] ∧ s.keepsRest t) ∧
  (∀ (m : Master) (a : BitVec 24) (s : State),
    pageOff a.toNat = 0 → s.dev.accessError m a.toNat false = none →
    ∃ t, exec (.registerRead m a (.narrow .b32)) s = .next t ∧
      tget {} t.dev.cpl m.num = ⟨[BitVec.ofNat 32 (pidWord (pageBase a.toNat))], true, false⟩ ∧
      s.dev.sameWords t.dev [] ∧ s.dev.sameEvents t.dev [] ∧ s.keepsRest t) ∧
  (∀ (a2 a1 a0 : Byte) (wait : Nat) (s : State),
    let a := natOfBE [a2, a1, a0]
    a % 4 = 0 → s.dev.accessError .spi a false = none → rlGroup a = none →
    ∃ t, exec (.spiReadFrame ([0x03#8, a2, a1, a0] ++ List.replicate (6 + wait) 0#8) wait) s = .next t ∧
      t.dev.miso = List.replicate (4 + wait) 0#8 ++ [0xA5#8] ++
        bytesBE 4 ((s.dev.regAccess .spi a).view s.nv a % 2 ^ 32) ++ [0#8] ∧
      s.dev.sameWords t.dev [] ∧ s.dev.sameEvents t.dev [] ∧ s.keepsRest t) ∧
  (∀ (a2 a1 a0 : Byte) (s : State),
    pageOff (natOfBE [a2, a1, a0]) = 0 → s.dev.accessError .spi (natOfBE [a2, a1, a0]) false = none →
    ∃ t, exec (.spiReadFrame ([0x03#8, a2, a1, a0] ++ List.replicate 6 0#8) 0) s = .next t ∧
      t.dev.miso = List.replicate 4 0#8 ++ [0xA5#8] ++ bytesBE 4 (pidWord (pageBase (natOfBE [a2, a1, a0])) % 2 ^ 32) ++ [0#8] ∧
      s.dev.sameWords t.dev [] ∧ s.dev.sameEvents t.dev [] ∧ s.keepsRest t) ∧
  (∀ (m : Master) (a : BitVec 24) (lo n : Nat) (s : State),
    rlGroup a.toNat = some (lo, n) → rlGroup lo = some (lo, n) → lo % 4 = 0 → 0 < n →
    (∀ i < n, ∀ j < n, latchKey m (lo + 4 * i) = latchKey m (lo + 4 * j) → i = j) →
    s.dev.accessError m lo false = none →
    let d := s.dev.regAccess m lo
    ∃ t, exec (.rlGroupRead m a) s = .next t ∧
      tget {} t.dev.cpl m.num = ⟨[BitVec.ofNat 32 (d.view s.nv lo)], true, false⟩ ∧
      (∀ i < n, t.dev.latched m (lo + 4 * i) = BitVec.ofNat 32 (d.view s.nv (lo + 4 * i))) ∧
      s.dev.sameWords t.dev [] ∧ s.dev.sameEvents t.dev [] ∧ s.keepsRest t) ∧
  ∀ (m : Master) (a : BitVec 24) (s : State),
    pageOff a.toNat = 0x0C0 → s.dev.accessError m a.toNat false = none →
    ∃ t, exec (.rlGroupRead m a) s = .next t ∧
      tget {} t.dev.cpl m.num = ⟨[BitVec.ofNat 32 (s.dev.ticks.of (halfAt a.toNat) % 2 ^ 32)], true, false⟩ ∧
      t.dev.latched m (a.toNat + 4) = BitVec.ofNat 32 (s.dev.ticks.of (halfAt a.toNat) / 2 ^ 32) ∧
      s.dev.sameWords t.dev [] ∧ s.dev.sameEvents t.dev [] ∧ s.keepsRest t

/-- Each occurrence of an event counts SEQ modulo 256, sets PEND, and counts COUNT up to 255 and then sets OVF; EVT_ACK
clears the word only if its SEQ and OVF_SEEN match, leaving SEQ, and otherwise does nothing (R51); a CH_CHANGE word so
cleared while a bit of CHG is set occurs anew (R248). A word that is not implemented never changes (R523); VACK clears the
pending bits it names (R55); PSEL takes its 25 bits and clears its counter (R484). Nothing else changes. It says where
EVT_ACK, VACK and PSEL_WRITE complete. -/
def Obligations.HeaderAndVectorWrites : Prop :=
  (∀ (m : Master) (a : BitVec 24) (v : Word) (s : State), s.writable m (pageBase a.toNat + 0x18) →
    let k := getBits v.toNat 16 5
    let old := s.dev.evt (pageBase a.toNat) k
    ∃ t, exec (.evtAck m a v) s = .next t ∧
      (let new : EvtWord := if old.seq = v.toNat % 256 ∧ old.ovf = bitAt v.toNat 8 then ⟨false, false, 0, old.seq⟩ else old
       t.dev.evt (pageBase a.toNat) k =
        if typeAt (pageBase a.toNat) = some .gnt ∧ k = 0 ∧ old.pend = true ∧ new.pend = false ∧
            s.dev.w (pageBase a.toNat + 0x900) ≠ 0 then new.occur else new) ∧
      s.onlyTouches t [] [pageBase a.toNat + k]) ∧
  (∀ (m : Master) (v : Word) (s : State), s.writable m (evcPg + 0x284) →
    ∃ t, exec (.vack m v) s = .next t ∧
      t.dev.w (evcPg + 0x280) = s.dev.w (evcPg + 0x280) &&& (0xFFFFFFFF - v.toNat) ∧
      s.onlyTouches t [evcPg + 0x280] []) ∧
  (∀ (m : Master) (a : BitVec 24) (n : Fin 8) (v : Word) (s : State),
    n.val < counters (pageBase a.toNat) → s.writable m (pselAddr (pageBase a.toNat) n.val) →
    ∃ t, exec (.pselWrite m a n v) s = .next t ∧
      t.dev.w (pselAddr (pageBase a.toNat) n.val) = v.toNat % 2 ^ 25 ∧
      t.dev.counterAt (pageBase a.toNat) n.val = ⟨0, false, false⟩ ∧
      s.onlyTouches t [pselAddr (pageBase a.toNat) n.val] []) ∧
  ∀ (d : Dev) (pg k : Nat),
    (d.raise pg k).evt pg k =
      (let e := d.evt pg k
       if evtImplemented pg k = true then
         ⟨true, e.ovf || e.count == 255, if e.count = 255 then 255 else e.count + 1, (e.seq + 1) % 256⟩
       else e) ∧
      (∀ q j, q + j ≠ pg + k → (d.raise pg k).evt q j = d.evt q j) ∧ (d.raise pg k).regs = d.regs

/-- A page that has been idle long enough moves to its resting state, and no page goes less deep for it (R433, R434); work
wakes a page to P0 (R436), and LTOL stored with a smaller tolerance takes the page up to what it permits (R434). A page that
leaves P3 is reinitialised (R435); else nothing else changes. In a half in safe state LTOL is stored alone (R46). It says
where POWER_STATE_ENTRY, BLOCK_WAKE and LTOL_WRITE complete. -/
def Obligations.PowerStatesFollowToleranceAndWork : Prop :=
  (∀ (a : BitVec 24) (idle : Nat) (s : State), pageExists a.toNat = true →
    let pg := pageBase a.toNat
    let rest := s.dev.restState pg (min idle (s.dev.now - (s.dev.page pg).idleSince))
    ∃ t, exec (.powerStateEntry a idle) s = .next t ∧
      (t.dev.page pg).pstate = max (s.dev.page pg).pstate rest ∧
      (∀ q, q ≠ pg → t.dev.page q = s.dev.page q) ∧
      s.dev.sameWords t.dev [] ∧ s.dev.sameEvents t.dev [] ∧ s.keepsRest t) ∧
  (∀ (a : BitVec 24) (s : State), pageExists a.toNat = true →
    let pg := pageBase a.toNat
    let woken := s.dev.setPage pg { s.dev.page pg with pstate := 0, idleSince := s.dev.now }
    (s.dev.page pg).pstate ≠ 0 →
    ((s.dev.page pg).pstate ≠ 3 → exec (.blockWake a) s = .next (s.withDev woken)) ∧
    ((s.dev.page pg).pstate = 3 → exec (.blockWake a) s = .next (s.withDev ((woken.softReset pg).tablesLost pg)))) ∧
  (∀ (a : BitVec 24) (s : State), pageExists a.toNat = true → (s.dev.page (pageBase a.toNat)).pstate = 0 →
    exec (.blockWake a) s = .next s) ∧
  (∀ (m : Master) (a : BitVec 24) (v : Word) (s : State),
    let pg := pageBase a.toNat
    s.writable m (pg + 0x10) → s.dev.shellOnly pg = false → (s.dev.page pg).pstate < 3 →
    ∃ t, exec (.ltolWrite m a v) s = .next t ∧
      t.dev.w (pg + 0x10) = v.toNat % 2 ^ 16 ∧
      (t.dev.page pg).pstate = min (s.dev.page pg).pstate (min (depthOf (v.toNat % 2 ^ 16)) (t.dev.floorOf pg)) ∧
      (∀ q, q ≠ pg → t.dev.page q = s.dev.page q) ∧
      s.dev.sameWords t.dev [pg + 0x10] ∧ s.dev.sameEvents t.dev [] ∧ s.keepsRest t) ∧
  (∀ (m : Master) (a : BitVec 24) (v : Word) (s : State),
    let pg := pageBase a.toNat
    let d := (s.dev.regAccess m (pg + 0x10)).setw (pg + 0x10) (v.toNat % 2 ^ 16)
    let st := min (depthOf (v.toNat % 2 ^ 16)) (d.floorOf pg)
    s.writable m (pg + 0x10) → s.dev.shellOnly pg = false → (s.dev.page pg).pstate = 3 →
    exec (.ltolWrite m a v) s = .next (s.withDev (if st < 3 then
      ((d.setPage pg { s.dev.page pg with pstate := st, idleSince := if st = 0 then s.dev.now else (s.dev.page pg).idleSince }).softReset
        pg).tablesLost pg else d))) ∧
  ∀ (m : Master) (a : BitVec 24) (v : Word) (s : State),
    let pg := pageBase a.toNat
    s.writable m (pg + 0x10) → s.dev.shellOnly pg = true →
    ∃ t, exec (.ltolWrite m a v) s = .next t ∧ t.dev.w (pg + 0x10) = v.toNat % 2 ^ 16 ∧ s.onlyTouches t [pg + 0x10] []

/-- A vector generates one message when a source routed to it is asserted, its VPEND bit is 0 and its HOLDOFF is over (R55):
VPEND is set, and the message leaves, or waits in the PBA while MSI-X is off or the vector masked; a waiting message leaves
once both permit it. It says where VECTOR_GENERATE and MSIX_PBA_RELEASE complete. -/
def Obligations.VectorsGenerateAndRelease : Prop :=
  (∀ (v : Fin 32) (s : State),
    s.dev.vectorAsserted v.val = true → bitAt (s.dev.w (evcPg + 0x280)) v.val = false → s.dev.holdoffOver v.val = true →
    ∃ t, exec (.vectorGenerate v) s = .next t ∧
      bitAt (t.dev.w (evcPg + 0x280)) v.val = true ∧
      (∀ u : Fin 32, u ≠ v → bitAt (t.dev.w (evcPg + 0x280)) u.val = bitAt (s.dev.w (evcPg + 0x280)) u.val) ∧
      t.dev.evc.sent = (if s.dev.msixOpen v.val = true then v.val :: s.dev.evc.sent else s.dev.evc.sent) ∧
      t.dev.evc.pba = (if s.dev.msixOpen v.val = true then s.dev.evc.pba else v.val :: s.dev.evc.pba) ∧
      s.dev.sameWords t.dev [evcPg + 0x280] ∧ s.dev.sameEvents t.dev [] ∧ s.keepsRest t) ∧
  ∀ (v : Fin 32) (s : State), v.val ∈ s.dev.evc.pba →
    ∃ t, exec (.msixPbaRelease v true false) s = .next t ∧
      v.val ∈ t.dev.evc.sent ∧ v.val ∉ t.dev.evc.pba ∧ t.dev.evc.msixEn = true ∧ v.val ∉ t.dev.evc.masked ∧
      { t.dev with evc := s.dev.evc } = s.dev ∧ s.keepsRest t

/-- GO (R63): while BUSY it raises MBX_COLLIDE alone; a LEN above 64 completes at once with BAD_LEN; a command to a half
whose firmware cannot take it, and a QUERY_TAG to a half that is still restarting, complete at once with HALF_DOWN (R65);
every other goes to firmware with its opcode, tag and request words, and STATE is BUSY with the response empty. It says where
MBX_GO completes. -/
def Obligations.MailboxGoHandsCommandToFirmware : Prop :=
  (∀ (m : Master) (b : Fin 4) (s : State), s.writable m (mbxPg b.val + 0x104) → s.dev.mbxState b.val = 1 →
    ∃ t, exec (.mbxGo m b) s = .next t ∧
      t.dev.evt (mbxPg b.val) 1 = (s.dev.evt (mbxPg b.val) 1).occur ∧ s.onlyTouches t [] [mbxPg b.val + 1]) ∧
  (∀ (m : Master) (b : Fin 4) (s : State), s.writable m (mbxPg b.val + 0x104) → s.dev.mbxState b.val ≠ 1 →
    64 < s.dev.g (mbxPg b.val) Reg.MBX.CMD_LEN →
    ∃ t, exec (.mbxGo m b) s = .next t ∧ t.dev.mbxState b.val = 2 ∧
      t.dev.g (mbxPg b.val) Reg.MBX.RSP_CODE = codeBadLen ∧ (t.dev.mb b.val).fw = (s.dev.mb b.val).fw ∧
      t.dev.evt (mbxPg b.val) 0 = (s.dev.evt (mbxPg b.val) 0).occur ∧ s.keepsRest t) ∧
  (∀ (m : Master) (b : Fin 4) (s : State), s.writable m (mbxPg b.val + 0x104) → s.dev.mbxState b.val ≠ 1 →
    s.dev.g (mbxPg b.val) Reg.MBX.CMD_LEN ≤ 64 →
    (s.dev.coresRun (mbxHalf b.val) = false ∨
      s.dev.g (mbxPg b.val) Reg.MBX.CMD_OPCODE = opQueryTag ∧ (s.dev.hs (mbxHalf b.val)).restored = false) →
    ∃ t, exec (.mbxGo m b) s = .next t ∧ t.dev.mbxState b.val = 2 ∧
      t.dev.g (mbxPg b.val) Reg.MBX.RSP_CODE = codeHalfDown ∧ (t.dev.mb b.val).fw = (s.dev.mb b.val).fw ∧
      t.dev.evt (mbxPg b.val) 0 = (s.dev.evt (mbxPg b.val) 0).occur ∧ s.keepsRest t) ∧
  ∀ (m : Master) (b : Fin 4) (s : State), s.writable m (mbxPg b.val + 0x104) → s.dev.mbxState b.val ≠ 1 →
    s.dev.g (mbxPg b.val) Reg.MBX.CMD_LEN ≤ 64 → s.dev.coresRun (mbxHalf b.val) = true →
    (s.dev.g (mbxPg b.val) Reg.MBX.CMD_OPCODE = opQueryTag → (s.dev.hs (mbxHalf b.val)).restored = true) →
    ∃ t c, exec (.mbxGo m b) s = .next t ∧ t.dev.mbxState b.val = 1 ∧
      (t.dev.mb b.val).fw = (s.dev.mb b.val).fw ++ [c] ∧ (t.dev.mb b.val).cur = c.id ∧ c.done = none ∧
      c.opcode = s.dev.g (mbxPg b.val) Reg.MBX.CMD_OPCODE ∧ c.tag = s.dev.g (mbxPg b.val) Reg.MBX.CMD_TAG ∧
      c.req = (List.range (s.dev.g (mbxPg b.val) Reg.MBX.CMD_LEN)).map (fun i => s.dev.word (mbxPg b.val + 0x200 + 4 * i)) ∧
      t.dev.g (mbxPg b.val) Reg.MBX.RSP_CODE = 0 ∧ t.dev.g (mbxPg b.val) Reg.MBX.RSP_RLEN = 0 ∧
      (∀ i < 64, t.dev.w (mbxPg b.val + 0x300 + 4 * i) = 0) ∧ s.dev.sameEvents t.dev [] ∧ s.keepsRest t

/-- The commits of ECHO, QUERY_TAG and FW_VERSION (R64, R67), of the first command that waits with that opcode, while its
half's cores run: ECHO's response is its request, QUERY_TAG of one word answers the newest retained code of that tag or
UNKNOWN_TAG, FW_VERSION of no words answers four words. No word and no event changes before DONE. It says where ECHO,
QUERY_TAG and FW_VERSION complete. -/
def Obligations.HousekeepingCommandsCommit : Prop :=
  (∀ (b : Fin 4) (s : State) (c : FwCmd), (s.dev.mb b.val).waiting 0x0000 = some c → s.dev.coresRun (mbxHalf b.val) = true →
    ∃ t, exec (.echo b) s = .next t ∧
      (t.dev.mb b.val).fw = (s.dev.mb b.val).fw.map (fun x => if x.id = c.id then { x with done := some (codeOK, c.req) } else x) ∧
      s.onlyTouches { t with dev := { t.dev with mbx := s.dev.mbx } } [] []) ∧
  (∀ (b : Fin 4) (s : State) (c : FwCmd), (s.dev.mb b.val).waiting 0x0001 = some c → c.len = 1 →
    s.dev.coresRun (mbxHalf b.val) = true →
    let tag := (c.req[0]?.getD 0).toNat % 256
    ∃ t, exec (.queryTag b) s = .next t ∧
      (t.dev.mb b.val).fw = (s.dev.mb b.val).fw.map (fun x => if x.id = c.id then
        { x with done := some (match (s.dev.mb b.val).retained.find? (fun r => r.tag == tag) with
            | none => (codeUnknownTag, [])
            | some r => (codeOK, [BitVec.ofNat 32 (r.code * 256 + tag)])) } else x) ∧
      (t.dev.mb b.val).retained = (s.dev.mb b.val).retained ∧
      s.onlyTouches { t with dev := { t.dev with mbx := s.dev.mbx } } [] []) ∧
  ∀ (b : Fin 4) (s : State) (c : FwCmd), (s.dev.mb b.val).waiting 0x0002 = some c → c.len = 0 →
    s.dev.coresRun (mbxHalf b.val) = true →
    ∃ t, exec (.fwVersion b) s = .next t ∧
      (t.dev.mb b.val).fw = (s.dev.mb b.val).fw.map (fun x => if x.id = c.id then
        { x with done := some (codeOK, (List.range 4).map (s.dev.versionWord (mbxHalf b.val))) } else x) ∧
      s.onlyTouches { t with dev := { t.dev with mbx := s.dev.mbx } } [] []

/-- DONE places the response of the command that RSP belongs to and raises MBX_DONE (R63); after TIMEOUT the mailbox itself
completes it with TIMEOUT, and the outcome stays open for firmware (R64). It says where MBX_DONE and MBX_TIMEOUT complete. -/
def Obligations.MailboxCompletesOnceWithCode : Prop :=
  (∀ (b : Fin 4) (s : State) (c : FwCmd) (code : Nat) (ws : List Word),
    (s.dev.mb b.val).fw.find? (fun c => c.done.isSome || !(issuedOpcodes.contains c.opcode)) = some c →
    c.done = some (code, ws) → s.dev.coresRun (mbxHalf b.val) = true →
    s.dev.mbxState b.val = 1 → (s.dev.mb b.val).cur = c.id →
    ∃ t, exec (.mbxDone b) s = .next t ∧ t.dev.mbxState b.val = 2 ∧
      t.dev.g (mbxPg b.val) Reg.MBX.RSP_CODE = code % 256 ∧ t.dev.g (mbxPg b.val) Reg.MBX.RSP_TAG = c.tag % 256 ∧
      (∀ i < 64, t.dev.w (mbxPg b.val + 0x300 + 4 * i) = (ws[i]?.getD 0).toNat) ∧
      (t.dev.mb b.val).fw = (s.dev.mb b.val).fw.filter (fun x => x.id != c.id) ∧
      t.dev.evt (mbxPg b.val) 0 = (s.dev.evt (mbxPg b.val) 0).occur ∧
      s.dev.sameEvents t.dev [mbxPg b.val] ∧ s.keepsRest t) ∧
  ∀ (b : Fin 4) (s : State) (c : FwCmd),
    s.dev.mbxState b.val = 1 → (s.dev.mb b.val).goAt + (s.dev.mb b.val).limitMs * 250000 ≤ s.dev.now →
    (s.dev.mb b.val).fw.find? (fun c => c.id == (s.dev.mb b.val).cur) = some c → c.done = none → c.opcode ≠ 1 →
    ∃ t, exec (.mbxTimeout b) s = .next t ∧ t.dev.mbxState b.val = 2 ∧
      t.dev.g (mbxPg b.val) Reg.MBX.RSP_CODE = codeTimeout ∧ (t.dev.mb b.val).fw = (s.dev.mb b.val).fw ∧
      (t.dev.mb b.val).retained = (⟨c.id, codeTimeout, c.tag, true⟩ :: (s.dev.mb b.val).retained).take 8 ∧
      t.dev.evt (mbxPg b.val) 0 = (s.dev.evt (mbxPg b.val) 0).occur ∧ s.keepsRest t

/-! ### Timebases -/

/-- STEP sets STEP_PEND, and changes nothing while it is set (R76); a written FADJ is clamped to ±100 ppm with TB_FADJ_CLAMP
(R74); PADJ_HI starts an adjustment of the whole written value, and PADJ_ABORT ends one with nothing left (R75). None of them
moves a count; no other timebase, and no word or event but those named, changes. It says where STEP, FADJ_WRITE, PADJ_START
and PADJ_ABORT complete. -/
def Obligations.TimebaseWritesLeaveCounts : Prop :=
  (∀ (m : Master) (h : Half) (n : Fin 16) (s : State), s.writable m (tsuB h n.val) →
    s.dev.gb (tsuB h n.val) Reg.TSU.STAT_STEP_PEND = false →
    ∃ t, exec (.step m h n) s = .next t ∧ t.dev.gb (tsuB h n.val) Reg.TSU.STAT_STEP_PEND = true ∧
      (t.dev.tb h n.val).stepReq = s.dev.sec h n.val ∧
      s.onlyTb t h n.val [tsuB h n.val + 4] []) ∧
  (∀ (m : Master) (h : Half) (n : Fin 16) (s : State), s.writable m (tsuB h n.val) →
    s.dev.gb (tsuB h n.val) Reg.TSU.STAT_STEP_PEND = true →
    ∃ t, exec (.step m h n) s = .next t ∧ s.onlyTouches t [] []) ∧
  (∀ (m : Master) (h : Half) (n : Fin 16) (v : BitVec 16) (s : State), s.writable m (tsuB h n.val + 0x34) →
    let x := signedOf 48 (s.dev.g (tsuB h n.val) Reg.TSU.FADJ_LO + 2 ^ 32 * v.toNat)
    ∃ t, exec (.fadjWrite m h n v) s = .next t ∧ (t.dev.tb h n.val).fadjTgt = clampFadj x ∧
      (clampFadj x ≠ x → t.dev.evt (tsuPg h n.val) (tbEvt n.val 1) = (s.dev.evt (tsuPg h n.val) (tbEvt n.val 1)).occur) ∧
      (clampFadj x = x → s.dev.sameEvents t.dev []) ∧
      s.onlyTb t h n.val [tsuB h n.val + 0x34] [tsuPg h n.val + tbEvt n.val 1]) ∧
  (∀ (m : Master) (h : Half) (n : Fin 16) (v : BitVec 16) (s : State), s.writable m (tsuB h n.val + 0x3C) →
    let x := signedOf 48 (s.dev.g (tsuB h n.val) Reg.TSU.PADJ_LO + 2 ^ 32 * v.toNat)
    ∃ t, exec (.padjStart m h n v) s = .next t ∧ (t.dev.tb h n.val).padjRem = x * 2 ^ 64 ∧
      (t.dev.gb (tsuB h n.val) Reg.TSU.STAT_PADJ_BUSY = true ↔ x ≠ 0) ∧
      s.onlyTb t h n.val [tsuB h n.val + 0x3C, tsuB h n.val + 4] []) ∧
  ∀ (m : Master) (h : Half) (n : Fin 16) (s : State), s.writable m (tsuB h n.val) →
    ∃ t, exec (.padjAbort m h n) s = .next t ∧ (t.dev.tb h n.val).padjRem = 0 ∧
      t.dev.gb (tsuB h n.val) Reg.TSU.STAT_PADJ_BUSY = false ∧
      s.onlyTb t h n.val [tsuB h n.val + 4] []

/-- A step that is due with SET_NSEC above 999,999,999 is refused: the count is unchanged, STEP_PEND clears and TB_SET_RANGE
is raised; any other loads the count with SET, discards the phase adjustment, clears STEP_PEND and leaves the timebase's
bound unbounded until measured afresh (R76, R204), and then its leap status, timed actions and gates follow the stepped
count; where no timed action of the half is armed and no gate holds a frame, nothing moves it from there. A boundary with no
step due changes nothing. An adjustment with nothing left is no longer busy (R75). It says where STEP_APPLY and PADJ_COMPLETE
complete. -/
def Obligations.StepAppliesAtSecondBoundary : Prop :=
  (∀ (h : Half) (n : Fin 16) (s : State), s.dev.stepDue h n.val = true →
    999999999 < s.dev.g (tsuB h n.val) Reg.TSU.SET_NSEC →
    ∃ t, exec (.stepApply h n) s = .next t ∧ t.dev.tbs = s.dev.tbs ∧
      t.dev.gb (tsuB h n.val) Reg.TSU.STAT_STEP_PEND = false ∧
      t.dev.evt (tsuPg h n.val) (tbEvt n.val 2) = (s.dev.evt (tsuPg h n.val) (tbEvt n.val 2)).occur ∧
      s.onlyTouches { t with dev := { t.dev with loops := s.dev.loops } } [tsuB h n.val + 4] [tsuPg h n.val + tbEvt n.val 2]) ∧
  (∀ (h : Half) (n : Fin 16) (s : State), s.dev.stepDue h n.val = true →
    s.dev.g (tsuB h n.val) Reg.TSU.SET_NSEC ≤ 999999999 →
    let d := boundStepped h n.val (stepLoaded h n.val s.dev)
    exec (.stepApply h n) s = .next (s.withDev (steppedAfter s.nv h n.val d)) ∧
      d.count h n.val = (s.dev.g2 (tsuB h n.val) Reg.TSU.SET_SEC_LO Reg.TSU.SET_SEC_HI * 10 ^ 9 +
        s.dev.g (tsuB h n.val) Reg.TSU.SET_NSEC) * 2 ^ 64 ∧
      (d.tb h n.val).padjRem = 0 ∧ d.gb (tsuB h n.val) Reg.TSU.STAT_STEP_PEND = false ∧
      d.gb (tsuB h n.val) Reg.TSU.STAT_PADJ_BUSY = false ∧ d.g (bndN h n.val) Reg.BND.HELD = unbounded ∧
      d.evt (tsuPg h n.val) (tbEvt n.val 0) = (s.dev.evt (tsuPg h n.val) (tbEvt n.val 0)).occur ∧
      s.dev.otherTbs d h n.val) ∧
  (∀ (h : Half) (n : Fin 16) (s : State), s.dev.stepDue h n.val = true →
    s.dev.g (tsuB h n.val) Reg.TSU.SET_NSEC ≤ 999999999 →
    (∀ e < 64, s.dev.ttaArmed h e = false) → (∀ p < 8, (s.dev.gate p).held = []) →
    ∃ t, exec (.stepApply h n) s = .next t ∧
      t.dev.count h n.val = (s.dev.g2 (tsuB h n.val) Reg.TSU.SET_SEC_LO Reg.TSU.SET_SEC_HI * 10 ^ 9 +
        s.dev.g (tsuB h n.val) Reg.TSU.SET_NSEC) * 2 ^ 64 ∧
      t.dev.gb (tsuB h n.val) Reg.TSU.STAT_STEP_PEND = false ∧ t.dev.g (bndN h n.val) Reg.BND.HELD = unbounded ∧
      s.dev.otherTbs t.dev h n.val ∧ s.keepsRest t) ∧
  (∀ (h : Half) (n : Fin 16) (s : State), s.dev.stepDue h n.val = false → exec (.stepApply h n) s = .next s) ∧
  (∀ (h : Half) (n : Fin 16) (s : State), (s.dev.tb h n.val).padjRem = 0 →
    ∃ t, exec (.padjComplete h n) s = .next t ∧ t.dev.gb (tsuB h n.val) Reg.TSU.STAT_PADJ_BUSY = false ∧
      s.onlyTouches t [tsuB h n.val + 4] []) ∧
  ∀ (h : Half) (n : Fin 16) (s : State), (s.dev.tb h n.val).padjRem ≠ 0 → exec (.padjComplete h n) s = .next s

/-- A written change of DOM_SEL starts the switch with DSW_ACTIVE (R84); a timebase that would follow itself or a timebase
that itself follows another is refused with its event (R85); DOM_SEL written as it is changes nothing. A measurement stands
in DOM_OFS, and the sixteenth in a row within 1 ns ends the switch with DSW_DONE; any other leaves DSW_ACTIVE as it is (R72,
R84). No count steps. It says where DOM_SEL_WRITE and DOM_OFS_UPDATE complete. -/
def Obligations.DomainSwitchSlewsWithoutStep : Prop :=
  (∀ (m : Master) (h : Half) (n : Fin 16) (v : Bool) (s : State), s.writable m (tsuB h n.val) →
    s.dev.gb (tsuB h n.val) Reg.TSU.CTRL_DOM_SEL ≠ v →
    (v = true → s.dev.g (tsuB h n.val) Reg.TSU.CTRL_ALT ≠ n.val ∧
      s.dev.gb (tsuB h (s.dev.g (tsuB h n.val) Reg.TSU.CTRL_ALT)) Reg.TSU.CTRL_DOM_SEL = false) →
    ∃ t, exec (.domSelWrite m h n v) s = .next t ∧ t.dev.gb (tsuB h n.val) Reg.TSU.CTRL_DOM_SEL = v ∧
      t.dev.gb (tsuB h n.val) Reg.TSU.STAT_DSW_ACTIVE = true ∧ (t.dev.tb h n.val).dswRun = 0 ∧
      s.onlyTb t h n.val [tsuB h n.val, tsuB h n.val + 4] []) ∧
  (∀ (m : Master) (h : Half) (n : Fin 16) (s : State), s.writable m (tsuB h n.val) →
    s.dev.gb (tsuB h n.val) Reg.TSU.CTRL_DOM_SEL = false →
    (s.dev.g (tsuB h n.val) Reg.TSU.CTRL_ALT = n.val ∨
      s.dev.gb (tsuB h (s.dev.g (tsuB h n.val) Reg.TSU.CTRL_ALT)) Reg.TSU.CTRL_DOM_SEL = true) →
    ∃ t, exec (.domSelWrite m h n true) s = .next t ∧ t.dev.gb (tsuB h n.val) Reg.TSU.CTRL_DOM_SEL = false ∧
      t.dev.evt (tsuPg h n.val) (tbEvt n.val 4) = (s.dev.evt (tsuPg h n.val) (tbEvt n.val 4)).occur ∧
      s.onlyTouches t [tsuB h n.val] [tsuPg h n.val + tbEvt n.val 4]) ∧
  (∀ (m : Master) (h : Half) (n : Fin 16) (v : Bool) (s : State), s.writable m (tsuB h n.val) →
    s.dev.gb (tsuB h n.val) Reg.TSU.CTRL_DOM_SEL = v →
    ∃ t, exec (.domSelWrite m h n v) s = .next t ∧ s.onlyTouches t [] []) ∧
  (∀ (h : Half) (n : Fin 16) (own : Int) (s : State),
    let x := if s.dev.gb (tsuB h n.val) Reg.TSU.CTRL_DOM_SEL then s.dev.domOfs h n.val else own
    s.dev.gb (tsuB h n.val) Reg.TSU.STAT_DSW_ACTIVE = true → x.natAbs ≤ 1000 → 15 ≤ (s.dev.tb h n.val).dswRun →
    ∃ t, exec (.domOfsUpdate h n own) s = .next t ∧ t.dev.gb (tsuB h n.val) Reg.TSU.STAT_DSW_ACTIVE = false ∧
      t.dev.g2 (tsuB h n.val) Reg.TSU.DOM_OFS_LO Reg.TSU.DOM_OFS_HI = unsignedOf 48 (s.dev.domOfs h n.val) ∧
      t.dev.evt (tsuPg h n.val) (tbEvt n.val 3) = (s.dev.evt (tsuPg h n.val) (tbEvt n.val 3)).occur ∧
      s.onlyTb t h n.val [tsuB h n.val + 4, tsuB h n.val + 0x4C, tsuB h n.val + 0x50] [tsuPg h n.val + tbEvt n.val 3]) ∧
  ∀ (h : Half) (n : Fin 16) (own : Int) (s : State),
    let x := if s.dev.gb (tsuB h n.val) Reg.TSU.CTRL_DOM_SEL then s.dev.domOfs h n.val else own
    s.dev.gb (tsuB h n.val) Reg.TSU.STAT_DSW_ACTIVE = false ∨ 1000 < x.natAbs ∨ (s.dev.tb h n.val).dswRun < 15 →
    ∃ t, exec (.domOfsUpdate h n own) s = .next t ∧
      t.dev.g2 (tsuB h n.val) Reg.TSU.DOM_OFS_LO Reg.TSU.DOM_OFS_HI = unsignedOf 48 (s.dev.domOfs h n.val) ∧
      s.onlyTb t h n.val [tsuB h n.val + 0x4C, tsuB h n.val + 0x50] []

/-- COMMIT waits for the next second boundary of the schedule, and changes nothing while one waits (R78). A refused commit
leaves the active copies alone, records REFUSE in both halves and clears COMMIT_PEND (R78, R79). LEAP_FOLD waits for that
boundary too; while a commit waits there it does nothing and completes with BUSY_RESOURCE, and with no entry to remove it
completes with BAD_ARG (R518). It says where LEAP_COMMIT, LEAP_ACTIVATE, LEAP_FOLD and LEAP_FOLD_APPLY complete. -/
def Obligations.LeapCommitWaitsAndMayBeRefused : Prop :=
  (∀ (m : Master) (s : State), s.writable m (leapPg .warp + 0x300) →
    s.dev.gb (leapPg .warp) Reg.TSU.LEAP_STAT_COMMIT_PEND = false →
    ∃ t, exec (.leapCommit m) s = .next t ∧ t.dev.gb (leapPg .warp) Reg.TSU.LEAP_STAT_COMMIT_PEND = true ∧
      t.dev.sched.leapReq = s.dev.schedSec ∧
      s.onlyTouches { t with dev := { t.dev with sched := s.dev.sched } } [leapPg .warp + 0x308] []) ∧
  (∀ (m : Master) (s : State), s.writable m (leapPg .warp + 0x300) →
    s.dev.gb (leapPg .warp) Reg.TSU.LEAP_STAT_COMMIT_PEND = true →
    ∃ t, exec (.leapCommit m) s = .next t ∧ s.onlyTouches t [] []) ∧
  (∀ s : State, s.dev.leapDue = true → s.dev.leapRefusal s.dev.schedSec ≠ 0 →
    ∃ t, exec .leapActivate s = .next t ∧ t.dev.gb (leapPg .warp) Reg.TSU.LEAP_STAT_COMMIT_PEND = false ∧
      (∀ h, t.dev.g (leapPg h) Reg.TSU.LEAP_STAT_REFUSE = s.dev.leapRefusal s.dev.schedSec) ∧
      s.onlyTouches t [leapPg .warp + 0x308, leapPg .weft + 0x308] [leapPg .warp + 7, leapPg .weft + 7]) ∧
  (∀ (b : Fin 4) (s : State) (c : FwCmd), (s.dev.mb b.val).waiting 0x0110 = some c → c.len = 0 →
    s.dev.wrongHalf b.val = false → s.dev.coresRun (mbxHalf b.val) = true → s.dev.sched.fold = none →
    ∃ t, exec (.leapFold b) s = .next t ∧ t.dev.sched.fold = some ⟨b.val, c.id, s.dev.schedSec⟩ ∧
      { t.dev with sched := s.dev.sched } = s.dev ∧ s.keepsRest t) ∧
  ∀ (s : State) (f : FoldReq) (c : FwCmd), s.dev.sched.fold = some f → f.box < 4 → f.sec < s.dev.schedSec →
    (s.dev.mb f.box).waiting 0x0110 = some c → s.dev.coresRun (mbxHalf f.box) = true →
    let busy := s.dev.gb (leapPg s.dev.lead) Reg.TSU.LEAP_STAT_COMMIT_PEND
    busy = true ∨ (s.dev.leapActive s.dev.lead).canFold s.dev.schedSec = false →
    ∃ t, exec .leapFoldApply s = .next t ∧ t.dev.sched.fold = none ∧
      s.finished t f.box c (if busy then codeBusy else codeBadArg) [] ∧
      s.dev.sameWords t.dev [] ∧ s.dev.sameEvents t.dev [] ∧ s.keepsRest t

/-- At its boundary an accepted commit makes the staging copy the active one in every half in service, increments GEN and
raises LEAP_COMMITTED there (R79); a fold that finds an entry to remove leaves the folded table active in both halves,
increments GEN there and completes with OK (R518); and the journal, unless its flash has failed, takes the deciding half's
new table (R505, R16). No count moves. It says where LEAP_ACTIVATE and LEAP_FOLD_APPLY complete. -/
def Obligations.LeapTableActivatesInBothHalves : Prop :=
  (∀ s : State, s.dev.leapDue = true → s.dev.leapRefusal s.dev.schedSec = 0 →
    ∃ t, exec .leapActivate s = .next t ∧ t.dev.gb (leapPg .warp) Reg.TSU.LEAP_STAT_COMMIT_PEND = false ∧
      (∀ h, s.dev.outOfService h = false →
        (∀ o ∈ leapOffsets, t.dev.w (leapPg h + o + 0x90) = s.dev.w (leapPg .warp + o)) ∧
        t.dev.g (leapPg h) Reg.TSU.LEAP_STAT_GEN = (s.dev.g (leapPg h) Reg.TSU.LEAP_STAT_GEN + 1) % 256 ∧
        t.dev.evt (leapPg h) 6 = (s.dev.evt (leapPg h) 6).occur) ∧
      (s.dev.outOfService s.dev.lead = false → t.nv = s.nv.journal fun nv => { nv with leap := some t.dev.leapWords }) ∧
      (∀ h n, t.dev.count h n = s.dev.count h n) ∧ t.pending = s.pending) ∧
  ∀ (s : State) (f : FoldReq) (c : FwCmd), s.dev.sched.fold = some f → f.box < 4 → f.sec < s.dev.schedSec →
    (s.dev.mb f.box).waiting 0x0110 = some c → s.dev.coresRun (mbxHalf f.box) = true →
    s.dev.gb (leapPg s.dev.lead) Reg.TSU.LEAP_STAT_COMMIT_PEND = false →
    (s.dev.leapActive s.dev.lead).canFold s.dev.schedSec = true →
    ∃ t, exec .leapFoldApply s = .next t ∧ t.dev.sched.fold = none ∧
      (∀ h, t.dev.g (leapPg h) Reg.TSU.LEAP_STAT_GEN = (s.dev.g (leapPg h) Reg.TSU.LEAP_STAT_GEN + 1) % 256 ∧
        t.dev.leapActive h = (s.dev.leapActive s.dev.lead).fold s.dev.schedSec) ∧
      s.finished t f.box c codeOK [] ∧ t.nv = s.nv.journal (fun nv => { nv with leap := some t.dev.leapWords }) ∧
      t.dev.tbs = s.dev.tbs ∧ t.pending = s.pending

/-- At EFF_SEC − d − 86,400 of a leap LEAP_PEND is set with LI; at EFF_SEC − 1 of an inserted one IN_LEAP is set; from
EFF_SEC, reached by the count's run or by a step onto it, LEAP_PEND, IN_LEAP and LI are what the table gives from there on,
and TB0 raises LEAP_APPLIED (R80). At t_s a smear window opens with its parameters and at its end it shuts, in IN_SMEAR
(R81). No count moves. It says where LEAP_PEND_START, INSERTED_SECOND_START, LEAP_APPLIED, SMEAR_WINDOW_OPEN and
SMEAR_WINDOW_CLOSE complete. -/
def Obligations.LeapAndSmearStatusFollowTable : Prop :=
  (∀ (h : Half) (n : Fin 16) (m : Fin 8) (l : Nat × Int × Int) (s : State), s.dev.leapEntry h m.val = some l →
    (l.1 : Int) - (l.2.2 - l.2.1) - 86400 ≤ s.dev.sec h n.val → s.dev.sec h n.val < l.1 →
    ∃ t, exec (.leapPendStart h n m) s = .next t ∧ t.dev.gb (tsuB h n.val) Reg.TSU.STAT_LEAP_PEND = true ∧
      t.dev.g (tsuB h n.val) Reg.TSU.SCL_INFO_LI ≠ 0 ∧ t.dev.leapStatusIs h n.val ∧
      s.onlyTb t h n.val [tsuB h n.val + 4, tsuB h n.val + 0x28] []) ∧
  (∀ (h : Half) (n : Fin 16) (m : Fin 8) (l : Nat × Int × Int) (s : State), s.dev.leapEntry h m.val = some l →
    l.2.2 = l.2.1 + 1 → s.dev.sec h n.val + 1 = l.1 →
    ∃ t, exec (.insertedSecondStart h n m) s = .next t ∧ t.dev.gb (tsuB h n.val) Reg.TSU.STAT_IN_LEAP = true ∧
      s.onlyTouches t [tsuB h n.val + 4] []) ∧
  (∀ (h : Half) (n : Fin 16) (m : Fin 8) (l : Nat × Int × Int) (s : State), s.dev.leapEntry h m.val = some l →
    l.1 ≤ s.dev.sec h n.val →
    s.dev.gb (tsuB h n.val) Reg.TSU.STAT_LEAP_PEND = true ∨ s.dev.sec h n.val = l.1 ∧ (s.dev.tb h n.val).applied ≠ some l.1 →
    ∃ t, exec (.leapApplied h n m) s = .next t ∧ t.dev.leapStatusIs h n.val ∧ (t.dev.tb h n.val).applied = some l.1 ∧
      (n.val = 0 → t.dev.evt (leapPg h) 14 = (s.dev.evt (leapPg h) 14).occur) ∧
      s.onlyTb t h n.val [tsuB h n.val + 4, tsuB h n.val + 0x28] (if n.val = 0 then [leapPg h + 14] else [])) ∧
  (∀ (h : Half) (n : Fin 16) (m : Fin 8) (l : Nat × Int × Int) (s : State), s.dev.leapEntry h m.val = some l →
    s.dev.scale h n.val = 2 → (∀ w, (s.dev.tb h n.val).win = some w → w.shut = true) →
    (s.dev.smearWin h n.val l).ts * (10 ^ 9 * 2 ^ 32) ≤ s.dev.c32 h n.val →
    s.dev.c32 h n.val < (s.dev.smearWin h n.val l).stop * (10 ^ 9 * 2 ^ 32) →
    ∃ t, exec (.smearWindowOpen h n m) s = .next t ∧ t.dev.gb (tsuB h n.val) Reg.TSU.STAT_IN_SMEAR = true ∧
      (t.dev.tb h n.val).win = some { s.dev.smearWin h n.val l with shut := false } ∧
      s.onlyTb t h n.val [tsuB h n.val + 4] []) ∧
  ∀ (h : Half) (n : Fin 16) (w : SmearWin) (s : State), (s.dev.tb h n.val).win = some w → w.shut = false →
    w.stop * (10 ^ 9 * 2 ^ 32) ≤ s.dev.c32 h n.val →
    ∃ t, exec (.smearWindowClose h n) s = .next t ∧ t.dev.gb (tsuB h n.val) Reg.TSU.STAT_IN_SMEAR = false ∧
      (t.dev.tb h n.val).win = some { w with shut := true } ∧ s.onlyTb t h n.val [tsuB h n.val + 4] []

/-- While both halves run and each unit stamps both markers, the mean of the markers' two differences stands in SKEW of each
half with its own sign and SKSTAT.VALID is set (R18, R120, R162), and no count moves; with a half out of service none is
taken and VALID is clear (R163). The shared schedules pass to Weft at its next millisecond (R19). A once-a-second comparison,
while both halves run, remembers every timebase whose settings differ (R71); with a half out of service it does nothing. It
says where HALF_SKEW_MEASURE, SCHEDULE_TAKEOVER and SETTINGS_COMPARE complete. -/
def Obligations.SkewScheduleAndComparison : Prop :=
  (∀ (w72 f72 w73 f73 : EdgeSeen) (a b : Int) (s : State),
    let e := (((s.dev.capEdge .warp 72 false w72).capEdge .weft 72 false f72).capEdge .warp 73 false w73).capEdge .weft 73 false f73
    s.dev.loopsRun .warp = true → s.dev.loopsRun .weft = true →
    s.dev.markerDiff e 72 = some a → s.dev.markerDiff e 73 = some b →
    ∃ t, exec (.halfSkewMeasure ⟨w72, f72⟩ ⟨w73, f73⟩) s = .next t ∧
      t.dev.g2 (dplPg .warp 0) Reg.DPL.SKEW_LO Reg.DPL.SKEW_HI = unsignedOf 48 ((1000 * (a + b)).tdiv (2 ^ 33)) ∧
      t.dev.g2 (dplPg .weft 0) Reg.DPL.SKEW_LO Reg.DPL.SKEW_HI = unsignedOf 48 (-(1000 * (a + b)).tdiv (2 ^ 33)) ∧
      (∀ h, t.dev.gb (dplPg h 0) Reg.DPL.SKSTAT_VALID = true ∧ (t.dev.skewRun.of h).raw = (match h with | .warp => a + b | .weft => -(a + b))) ∧
      (∀ h n, t.dev.count h n = s.dev.count h n) ∧ s.keepsRest t) ∧
  (∀ (w72 f72 w73 f73 : EdgeSeen) (s : State), s.dev.loopsRun .warp = false ∨ s.dev.loopsRun .weft = false →
    ∃ t, exec (.halfSkewMeasure ⟨w72, f72⟩ ⟨w73, f73⟩) s = .next t ∧ (∀ h, t.dev.gb (dplPg h 0) Reg.DPL.SKSTAT_VALID = false) ∧
      (∀ h n, t.dev.count h n = s.dev.count h n) ∧ s.keepsRest t) ∧
  (∀ (m : Nat) (s : State), s.dev.sched.pendMs = some m → m < msOf (s.dev.count .weft 0) →
    ∃ t, exec .scheduleTakeover s = .next t ∧ t.dev.sched = { s.dev.sched with half := .weft, pendMs := none } ∧
      { t.dev with sched := s.dev.sched } = s.dev ∧ s.keepsRest t) ∧
  (∀ s : State, s.dev.planeUp .warp = true → s.dev.planeUp .weft = true →
    ∃ t, exec .settingsCompare s = .next t ∧ (∀ n < 16, s.dev.tbDiffers n = true → n ∈ t.dev.sched.diffs) ∧
      t.dev.tbs = s.dev.tbs ∧ s.keepsRest t) ∧
  ∀ s : State, s.dev.planeUp .warp = false ∨ s.dev.planeUp .weft = false → exec .settingsCompare s = .next s

/-! ### Page controls, timed actions -/

/-- SOFT_RESET of a page resets its block state (R38, R564): a TTA page then evaluates every armed entry, a DPL page its
bounds' bases; that of a TSU page discards a pending step and any remaining phase adjustment and steps no count. ENABLE
cleared or set in a page stores it and has the page's effect (R563); cleared in a TTA or RLT page, and set again in an RLT
page, that is the CTRL word alone. ENABLE that is read-only, or written as it is, changes nothing (R38). It says where
SOFT_RESET, BLOCK_DISABLE and BLOCK_ENABLE complete. -/
def Obligations.PageControlsKeepCounts : Prop :=
  (∀ (m : Master) (a : BitVec 24) (h : Half) (i : Fin 4) (s : State), pageBase a.toNat = pageAddr .tsu h i.val →
    s.writable m (pageBase a.toNat + 8) → s.dev.planeUp h = true → s.dev.bist = none →
    ∃ t, exec (.softReset m a) s = .next t ∧
      (∀ k < 4, t.dev.gb (tsuB h (4 * i.val + k)) Reg.TSU.STAT_STEP_PEND = false ∧
        t.dev.gb (tsuB h (4 * i.val + k)) Reg.TSU.STAT_PADJ_BUSY = false ∧ (t.dev.tb h (4 * i.val + k)).padjRem = 0) ∧
      (∀ g, ∀ n < 16, t.dev.count g n = s.dev.count g n) ∧
      s.dev.sameWords t.dev ((List.range 4).map fun k => tsuB h (4 * i.val + k) + 4) ∧ s.dev.sameEvents t.dev [] ∧
      s.keepsRest t) ∧
  (∀ (m : Master) (a : BitVec 24) (s : State), typeAt (pageBase a.toNat) = some .tta ∨ typeAt (pageBase a.toNat) = some .rlt →
    s.writable m (pageBase a.toNat + 8) →
    ∃ t, exec (.blockDisable m a) s = .next t ∧ t.dev.enabled (pageBase a.toNat) = false ∧
      s.onlyTouches t [pageBase a.toNat + 8] []) ∧
  (∀ (m : Master) (a : BitVec 24) (s : State), typeAt (pageBase a.toNat) = some .rlt → s.writable m (pageBase a.toNat + 8) →
    ∃ t, exec (.blockEnable m a) s = .next t ∧ t.dev.enabled (pageBase a.toNat) = true ∧
      s.onlyTouches t [pageBase a.toNat + 8] []) ∧
  (∀ (m : Master) (a : BitVec 24) (p : Page) (s : State), typeAt (pageBase a.toNat) = some p →
    s.writable m (pageBase a.toNat + 8) → s.dev.shellOnly (pageBase a.toNat) = false → s.dev.bist = none →
    let pg := pageBase a.toNat
    let d := (s.dev.regAccess m (pg + 8)).softReset pg
    exec (.softReset m a) s = .next (s.withDev (
      if p = .tta then ttaAllEvaluated (fireAct s.nv []) (halfAt pg) 64 d
      else if p = .dpl then boundBases (halfAt pg) d else d))) ∧
  (∀ (m : Master) (a : BitVec 24) (v : Bool) (p : Page) (s : State), typeAt (pageBase a.toNat) = some p →
    s.writable m (pageBase a.toNat + 8) → enableReadOnly p = false → s.dev.enabled (pageBase a.toNat) = !v →
    s.dev.shellOnly (pageBase a.toNat) = false →
    let pg := pageBase a.toNat
    let d := plainWritten (pg + 8) (bitOf v) (s.dev.regAccess m (pg + 8))
    let e := if v then blockEnabled (fireAct s.nv []) pg d else blockDisabled pg d
    exec (if v then .blockEnable m a else .blockDisable m a) s =
      .next (s.withDev (if p = .dpl then boundBases (halfAt pg) e else e)) ∧ d.enabled pg = v) ∧
  (∀ (m : Master) (a : BitVec 24) (v : Bool) (s : State),
    s.writable m (pageBase a.toNat + 8) → s.dev.shellOnly (pageBase a.toNat) = true →
    (∀ p, typeAt (pageBase a.toNat) = some p → enableReadOnly p = false) →
    ∃ t, exec (if v then .blockEnable m a else .blockDisable m a) s = .next t ∧ t.dev.enabled (pageBase a.toNat) = v ∧
      s.onlyTouches t [pageBase a.toNat + 8] []) ∧
  ∀ (m : Master) (a : BitVec 24) (v : Bool) (p : Page) (s : State), typeAt (pageBase a.toNat) = some p →
    s.writable m (pageBase a.toNat + 8) → enableReadOnly p = true ∨ s.dev.enabled (pageBase a.toNat) = v →
    ∃ t, exec (if v then .blockEnable m a else .blockDisable m a) s = .next t ∧ s.onlyTouches t [] []

/-- Arming an entry evaluates it at once: one that is refused clears ARM with TTA_REFUSED (R90), one that is late and does
not fire sets LATE with TTA_LATE and, being one-shot, disarms (R89), one whose instant is not past stands armed. A live
change of an armed entry's timebase or of a word of its instant is evaluated too; in an entry that is not armed it is stored
alone (R86). In the entries 60 to 63 a write that is not firmware's does nothing (R86). It says where TTA_ARM and
TTA_REEVALUATE complete. -/
def Obligations.ArmingEvaluatesAnEntry : Prop :=
  (∀ (m : Master) (h : Half) (e : Fin 64) (s : State), s.writable m (ttaE h e.val) → ttaWritable m e.val = true →
    s.dev.ttaArmed h e.val = false → s.dev.ttaBad h e.val = false → s.dev.ttaPast h e.val = false →
    ∃ t, exec (.ttaArm m h e) s = .next t ∧ t.dev.ttaArmed h e.val = true ∧
      t.dev.gb (ttaE h e.val) Reg.TTA.ESTAT_LATE = false ∧ s.onlyTouches t [ttaE h e.val, ttaE h e.val + 0x1C] []) ∧
  (∀ (m : Master) (h : Half) (e : Fin 64) (s : State), s.writable m (ttaE h e.val) → ttaWritable m e.val = true →
    s.dev.ttaArmed h e.val = false → s.dev.ttaBad h e.val = true →
    ∃ t, exec (.ttaArm m h e) s = .next t ∧ t.dev.ttaArmed h e.val = false ∧
      t.dev.evt (ttaPg h) 1 = (s.dev.evt (ttaPg h) 1).occur ∧ s.onlyTouches t [ttaE h e.val] [ttaPg h + 1]) ∧
  (∀ (m : Master) (h : Half) (e : Fin 64) (s : State), s.writable m (ttaE h e.val) → ttaWritable m e.val = true →
    s.dev.ttaArmed h e.val = false → s.dev.ttaBad h e.val = false → s.dev.ttaPast h e.val = true →
    s.dev.gb (ttaE h e.val) Reg.TTA.ACT_LATE_POL = false → s.dev.ttaPeriod h e.val = 0 →
    ∃ t, exec (.ttaArm m h e) s = .next t ∧ t.dev.ttaArmed h e.val = false ∧
      t.dev.gb (ttaE h e.val) Reg.TTA.ESTAT_LATE = true ∧ t.dev.evt (ttaPg h) 0 = (s.dev.evt (ttaPg h) 0).occur ∧
      s.onlyTouches t [ttaE h e.val, ttaE h e.val + 0x1C] [ttaPg h]) ∧
  (∀ (m : Master) (h : Half) (e : Fin 64) (v : Word) (s : State), s.writable m (ttaE h e.val + 8) → ttaWritable m e.val = true →
    s.dev.ttaArmed h e.val = true → s.dev.ttaBad h e.val = false → v.toNat ≠ s.dev.w (ttaE h e.val + 8) →
    ((s.dev.count h (s.dev.ttaTb h e.val) : Nat) : Int) ≤ s.dev.ttaWhen h e.val
      ((v.toNat + 2 ^ 32 * s.dev.g (ttaE h e.val) Reg.TTA.T_SEC_HI) * 10 ^ 9 + s.dev.g (ttaE h e.val) Reg.TTA.T_NSEC) →
    ∃ t, exec (.ttaReevaluate m h e 2 v) s = .next t ∧ t.dev.ttaArmed h e.val = true ∧
      t.dev.w (ttaE h e.val + 8) = v.toNat ∧ t.dev.gb (ttaE h e.val) Reg.TTA.ESTAT_LATE = false ∧
      s.onlyTouches t [ttaE h e.val + 8, ttaE h e.val + 0x1C] []) ∧
  (∀ (m : Master) (h : Half) (e : Fin 64) (w : Fin 4) (v : Word) (s : State), s.writable m (ttaE h e.val + 4 * w.val) →
    ttaWritable m e.val = true → s.dev.ttaArmed h e.val = false →
    ∃ t, exec (.ttaReevaluate m h e w v) s = .next t ∧ (w = 0 → t.dev.ttaTb h e.val = v.toNat % 16) ∧
      (w ≠ 0 → t.dev.w (ttaE h e.val + 4 * w.val) =
        mergeWrite (ttaE h e.val + 4 * w.val) (s.dev.w (ttaE h e.val + 4 * w.val)) v.toNat) ∧
      s.onlyTouches t [ttaE h e.val + 4 * w.val] []) ∧
  (∀ (m : Master) (h : Half) (e : Fin 64) (s : State), s.writable m (ttaE h e.val) → ttaWritable m e.val = true →
    s.dev.ttaArmed h e.val = false →
    let d := s.dev.regAccess m (ttaE h e.val)
    exec (.ttaArm m h e) s = .next (s.withDev
      ((d.setw (ttaE h e.val) (mergeWrite (ttaE h e.val) (d.w (ttaE h e.val)) (d.w (ttaE h e.val) ||| 1))).ttaEvaluate
        (fireAct s.nv []) h e.val))) ∧
  (∀ (m : Master) (h : Half) (e : Fin 64) (w : Fin 4) (v : Word) (s : State),
    let a := ttaE h e.val + 4 * w.val
    let d := s.dev.regAccess m a
    let x := d.setw a (mergeWrite a (d.w a) v.toNat)
    s.writable m a → ttaWritable m e.val = true → s.dev.ttaArmed h e.val = true → w ≠ 0 → x.w a ≠ s.dev.w a →
    exec (.ttaReevaluate m h e w v) s = .next (s.withDev (x.ttaEvaluate (fireAct s.nv []) h e.val))) ∧
  (∀ (m : Master) (h : Half) (e : Fin 64) (v : Word) (s : State),
    let a := ttaE h e.val
    let d := s.dev.regAccess m a
    let x := d.setw a (mergeWrite a (d.w a) (setBits (d.w a) Reg.TTA.ACT_TB.lo Reg.TTA.ACT_TB.len v.toNat))
    s.writable m a → ttaWritable m e.val = true → s.dev.ttaArmed h e.val = true → v.toNat % 16 ≠ s.dev.ttaTb h e.val →
    exec (.ttaReevaluate m h e 0 v) s = .next (s.withDev (x.ttaEvaluate (fireAct s.nv []) h e.val))) ∧
  ∀ (m : Master) (h : Half) (e : Fin 64) (w : Fin 4) (v : Word) (s : State), s.writable m (ttaE h e.val + 4 * w.val) →
    s.writable m (ttaE h e.val) → ttaWritable m e.val = false →
    (∃ t, exec (.ttaArm m h e) s = .next t ∧ s.onlyTouches t [] []) ∧
    ∃ t, exec (.ttaReevaluate m h e w v) s = .next t ∧ s.onlyTouches t [] []

/-- A firing that is due acts on what its KIND names (R86, R87, R565): a PULSE on a running output places its edge at the
instant plus PTRIM and holds the output high to the later of the pulses' ends, and on an output in CLOCK format is refused;
OUT_START starts an output's grid at the instant, and is refused in PULSE format; OUT_STOP stops an output, which runs on
only through a high phase; DOMAIN_SWITCH toggles DOM_SEL with DSW_ACTIVE where R85 allows it; TRIGGER arms the points of the
half that name the line (R104). FIRED counts, a one-shot entry disarms and a periodic one advances. No count moves. A firing
that is not due changes nothing. (An instant of another timebase is taken into the output's own: the model's reading, log
entry 241.) It says where TTA_PULSE, TTA_OUT_START, TTA_OUT_STOP, TTA_TRIGGER and TTA_DOMAIN_SWITCH complete. -/
def Obligations.FiringsActOnOutputsPointsAndDomain : Prop :=
  (∀ (h : Half) (e : Fin 64) (o : Half × Nat × Nat) (s : State), s.dev.ttaDue h e.val 1 = true →
    ttaOutput (s.dev.ttaTarget h e.val) = some o → s.dev.isPulse o.1 o.2.1 o.2.2 = true →
    s.dev.gb (outO o.1 o.2.1 o.2.2) Reg.OUT.OSTAT_RUNNING = true →
    let rise := s.dev.inTb h (s.dev.ttaTb h e.val) (s.dev.outTb o.1 o.2.1 o.2.2)
      ((s.dev.ttaWhen h e.val (s.dev.ttaNs h e.val)).toNat / 2 ^ 32)
    let old := s.dev.out o.1 o.2.1 o.2.2
    ∃ t, exec (.ttaPulse h e) s = .next t ∧
      (t.dev.out o.1 o.2.1 o.2.2).edge = (if rise < old.highTo then old.edge else some rise) ∧
      (t.dev.out o.1 o.2.1 o.2.2).highTo = max old.highTo (rise + s.dev.ttaArg h e.val / 8 * 8 * 2 ^ 32) ∧
      s.firedBy t h e.val ∧ s.onlyTouches { t with dev := { t.dev with outs := s.dev.outs } } (ttaWords h e.val) []) ∧
  (∀ (h : Half) (e : Fin 64) (o : Half × Nat × Nat) (s : State), s.dev.ttaDue h e.val 2 = true →
    ttaOutput (s.dev.ttaTarget h e.val) = some o → s.dev.isPulse o.1 o.2.1 o.2.2 = false →
    ∃ t, exec (.ttaOutStart h e) s = .next t ∧ (t.dev.out o.1 o.2.1 o.2.2).stopped = false ∧
      (t.dev.out o.1 o.2.1 o.2.2).anchor =
        s.dev.inTb h (s.dev.ttaTb h e.val) (s.dev.outTb o.1 o.2.1 o.2.2) (s.dev.ttaNs h e.val * 2 ^ 32) ∧ s.firedBy t h e.val ∧
      s.onlyTouches { t with dev := { t.dev with outs := s.dev.outs } } (ttaWords h e.val ++ outStatWords o.1)
        (outEvents o.1)) ∧
  (∀ (h : Half) (e : Fin 64) (o : Half × Nat × Nat) (s : State), ttaOutput (s.dev.ttaTarget h e.val) = some o →
    (s.dev.ttaDue h e.val 1 = true → s.dev.isPulse o.1 o.2.1 o.2.2 = false →
      ∃ t, exec (.ttaPulse h e) s = .next t ∧ t.dev.evt (ttaPg h) 1 = (s.dev.evt (ttaPg h) 1).occur ∧ s.firedBy t h e.val ∧
        s.onlyTouches t (ttaWords h e.val) [ttaPg h + 1]) ∧
    (s.dev.ttaDue h e.val 2 = true → s.dev.isPulse o.1 o.2.1 o.2.2 = true →
      ∃ t, exec (.ttaOutStart h e) s = .next t ∧ t.dev.evt (ttaPg h) 1 = (s.dev.evt (ttaPg h) 1).occur ∧ s.firedBy t h e.val ∧
        s.onlyTouches t (ttaWords h e.val) [ttaPg h + 1])) ∧
  (∀ (h : Half) (e : Fin 64) (o : Half × Nat × Nat) (s : State), s.dev.ttaDue h e.val 3 = true →
    ttaOutput (s.dev.ttaTarget h e.val) = some o → s.dev.en (outPg o.1 o.2.1) (outO o.1 o.2.1 o.2.2) Reg.OUT.CFG_EN = true →
    ∃ t, exec (.ttaOutStop h e) s = .next t ∧ (t.dev.out o.1 o.2.1 o.2.2).stopped = true ∧
      t.dev.gb (outO o.1 o.2.1 o.2.2) Reg.OUT.OSTAT_RUNNING =
        (!(s.dev.hs o.1).safe && (s.dev.hs o.1).powered && s.dev.gb (outO o.1 o.2.1 o.2.2) Reg.OUT.OSTAT_RUNNING &&
          s.dev.outHigh o.1 o.2.1 o.2.2) ∧ s.firedBy t h e.val ∧
      s.onlyTouches { t with dev := { t.dev with outs := s.dev.outs } } (ttaWords h e.val ++ outStatWords o.1)
        (outEvents o.1)) ∧
  (∀ (h : Half) (e : Fin 64) (s : State), s.dev.ttaDue h e.val 4 = true →
    ∃ t, exec (.ttaTrigger h e) s = .next t ∧
      (∀ cp < 80, t.dev.cap h cp =
        if s.dev.g (tdcP h cp) Reg.TDC.CFG_MODE = 2 ∧ s.dev.g (tdcP h cp) Reg.TDC.CFG_TRIG = s.dev.ttaTarget h e.val then
          { s.dev.cap h cp with armed := true } else s.dev.cap h cp) ∧
      (∀ cp < 80, t.dev.cap h.other cp = s.dev.cap h.other cp) ∧ s.firedBy t h e.val ∧
      s.onlyTouches { t with dev := { t.dev with caps := s.dev.caps } } (ttaWords h e.val) []) ∧
  (∀ (h : Half) (e : Fin 64) (s : State),
    (s.dev.ttaDue h e.val 1 = true → exec (.ttaPulse h e) s = .next (s.withDev ((pulseAct h e.val s.dev).ttaFired h e.val))) ∧
    (s.dev.ttaDue h e.val 2 = true →
      exec (.ttaOutStart h e) s = .next (s.withDev ((outStartAct h e.val s.dev).ttaFired h e.val))) ∧
    (s.dev.ttaDue h e.val 3 = true → exec (.ttaOutStop h e) s = .next (s.withDev ((outStopAct h e.val s.dev).ttaFired h e.val))) ∧
    (s.dev.ttaDue h e.val 9 = true →
      exec (.ttaDomainSwitch h e) s = .next (s.withDev ((domainSwitchAct h e.val s.dev).ttaFired h e.val))) ∧
    (s.dev.ttaDue h e.val 1 = false → exec (.ttaPulse h e) s = .next s) ∧
    (s.dev.ttaDue h e.val 2 = false → exec (.ttaOutStart h e) s = .next s) ∧
    (s.dev.ttaDue h e.val 3 = false → exec (.ttaOutStop h e) s = .next s) ∧
    (s.dev.ttaDue h e.val 4 = false → exec (.ttaTrigger h e) s = .next s) ∧
    (s.dev.ttaDue h e.val 9 = false → exec (.ttaDomainSwitch h e) s = .next s)) ∧
  ∀ (h : Half) (e : Fin 64) (s : State), s.dev.ttaDue h e.val 9 = true →
    let n := s.dev.ttaTarget h e.val % 16
    let v := !(s.dev.gb (tsuB h n) Reg.TSU.CTRL_DOM_SEL)
    (v = true → s.dev.g (tsuB h n) Reg.TSU.CTRL_ALT ≠ n ∧
      s.dev.gb (tsuB h (s.dev.g (tsuB h n) Reg.TSU.CTRL_ALT)) Reg.TSU.CTRL_DOM_SEL = false) →
    ∃ t, exec (.ttaDomainSwitch h e) s = .next t ∧ t.dev.gb (tsuB h n) Reg.TSU.CTRL_DOM_SEL = v ∧
      t.dev.gb (tsuB h n) Reg.TSU.STAT_DSW_ACTIVE = true ∧ (∀ k < 16, t.dev.count h k = s.dev.count h k) ∧
      s.firedBy t h e.val ∧
      s.onlyTouches { t with dev := { t.dev with tbs := s.dev.tbs } } (ttaWords h e.val ++ [tsuB h n, tsuB h n + 4]) []

/-- A SYNC_TX firing hands the gate a Sync of the service, here one that is not sealed, for each named port of the half that
a service entry serves (R86, R358); a SNAPSHOT that R263 permits starts a capture of as many ms as the buffer and the
argument allow; a CONTROL latches the measurements of the firmware's entries in the half that runs the baseband (R240) and in
a host entry only counts; a REG_WRITE writes its data word as the half's timed-action master, here to a mask word, and one
that is refused raises TTA_REFUSED (R86, R88). Each is followed by what follows every firing (R87); a firing that is not due
changes nothing. It says where TTA_SYNC_TX, TTA_SNAPSHOT, TTA_CONTROL and TTA_REG_WRITE complete. -/
def Obligations.FiringsSendCaptureLatchAndWrite : Prop :=
  (∀ (h : Half) (e : Fin 64) (j : Fin 4) (s : State), s.dev.ttaDue h e.val 5 = true →
    let v := s.dev.ttaArg h e.val % 16
    s.dev.originates h v = true → cfgBits (s.dev.svcCfg h v) Reg.TRS.AUTH_AUTH_EN = 0 →
    bitAt (s.dev.ttaTarget h e.val) (portOf h j.val) = true → (s.dev.sourceEntry h v (portOf h j.val)).isSome = true →
    ∃ t, exec (.ttaSyncTx h e) s = .next t ∧
      (∃ g ∈ (t.dev.plane h).gateIn, g.port = portOf h j.val ∧ g.t = s.dev.originLaunch h (ns32 (s.dev.ttaNs h e.val)) ∧
        g.cls = 5) ∧
      (∀ g ∈ (s.dev.plane h).gateIn, g ∈ (t.dev.plane h).gateIn) ∧ s.firedBy t h e.val ∧
      s.dev.sameWords t.dev (ttaWords h e.val) ∧ s.dev.sameEvents t.dev [] ∧ s.keepsRest t) ∧
  (∀ (e : Fin 64) (s : State), s.dev.ttaDue .warp e.val 6 = true → s.nv.variantN = false →
    s.dev.g gnsPg Reg.GNS.SNSTAT_STATE = 0 → s.dev.gnssOn = true →
    let bands := ((List.range 4).filter fun b => bitAt (s.dev.g gnsPg Reg.GNS.SNCFG_BANDS) b && s.dev.bandOn b).foldl
      (fun m b => m + 2 ^ b) 0
    let len := s.dev.snapLength bands (clampNat 2 20 (s.dev.ttaArg .warp e.val))
    bands ≠ 0 → 2 ≤ len → len < 32 → (∀ b < 4, bitAt bands b = true → s.dev.gb (gnfB b) Reg.GNF.BSTAT_CLK_OK = true) →
    ∃ t, exec (.ttaSnapshot .warp e) s = .next t ∧ t.dev.g gnsPg Reg.GNS.SNSTAT_STATE = 1 ∧
      t.dev.g gnsPg Reg.GNS.SNSTAT_MS = len ∧ t.dev.snap.bands = bands ∧ s.firedBy t .warp e.val ∧
      t.dev.tbs = s.dev.tbs ∧ s.dev.sameEvents t.dev [] ∧ s.keepsRest t) ∧
  (∀ (h : Half) (e : Fin 64) (ms : List ChanMeas) (s : State), s.dev.ttaDue h e.val 7 = true →
    60 ≤ e.val → s.dev.gnssOn = true → h = s.dev.lead →
    ∃ t, exec (.ttaControl h e ms) s = .next t ∧
      t.dev.g gnfPg Reg.GNF.MLSTAT_LSEQ = (s.dev.g gnfPg Reg.GNF.MLSTAT_LSEQ + 1) % 2 ^ Reg.GNF.MLSTAT_LSEQ.len ∧
      t.dev.gb gnfPg Reg.GNF.MLSTAT_HALF = (h == .weft) ∧
      t.dev.g gnfPg Reg.GNF.MLT_NSEC = s.dev.ttaNs h e.val % 10 ^ 9 ∧ s.firedBy t h e.val ∧
      t.dev.tbs = s.dev.tbs ∧ s.dev.sameEvents t.dev [] ∧ s.keepsRest t) ∧
  (∀ (h : Half) (e : Fin 64) (ms : List ChanMeas) (s : State), s.dev.ttaDue h e.val 7 = true → e.val < 60 →
    ∃ t, exec (.ttaControl h e ms) s = .next t ∧ s.firedBy t h e.val ∧ s.onlyTouches t (ttaWords h e.val) []) ∧
  (∀ (h : Half) (e : Fin 64) (ms : List ChanMeas) (s : State),
    (s.dev.ttaDue h e.val 5 = true → exec (.ttaSyncTx h e) s = .next (s.withDev ((syncTxAct h e.val s.dev).ttaFired h e.val))) ∧
    (s.dev.ttaDue h e.val 6 = true →
      exec (.ttaSnapshot h e) s = .next (s.withDev ((snapshotAct s.nv h e.val s.dev).ttaFired h e.val))) ∧
    (s.dev.ttaDue h e.val 7 = true →
      exec (.ttaControl h e ms) s = .next (s.withDev ((controlAct ms h e.val s.dev).ttaFired h e.val))) ∧
    (s.dev.ttaDue h e.val 8 = true →
      exec (.ttaRegWrite h e) s = .next (s.withDev ((regWriteAct s.nv h e.val s.dev).ttaFired h e.val))) ∧
    (s.dev.ttaDue h e.val 5 = false → exec (.ttaSyncTx h e) s = .next s) ∧
    (s.dev.ttaDue h e.val 6 = false → exec (.ttaSnapshot h e) s = .next s) ∧
    (s.dev.ttaDue h e.val 7 = false → exec (.ttaControl h e ms) s = .next s) ∧
    (s.dev.ttaDue h e.val 8 = false → exec (.ttaRegWrite h e) s = .next s)) ∧
  (∀ (h : Half) (e : Fin 64) (x : AccErr) (s : State), s.dev.ttaDue h e.val 8 = true →
    let a := s.dev.ttaArg h e.val % 2 ^ 24
    a % 4 ≠ 0 ∧ x = .align ∨ a % 4 = 0 ∧ s.dev.accessError (.ta h) a true = some x →
    ∃ t, exec (.ttaRegWrite h e) s = .next t ∧ t.dev.evt (ttaPg h) 1 = (s.dev.evt (ttaPg h) 1).occur ∧
      t.dev.evt sysPg x.event = (s.dev.evt sysPg x.event).occur ∧ s.firedBy t h e.val ∧
      s.onlyTouches t ((sysPg + 0x104) :: (sysPg + 0x108) :: ttaWords h e.val) [ttaPg h + 1, sysPg + x.event]) ∧
  ∀ (h : Half) (e : Fin 64) (s : State), s.dev.ttaDue h e.val 8 = true →
    let a := s.dev.ttaArg h e.val % 2 ^ 24
    pageOff a = 0x1C → s.writable (.ta h) a →
    ∃ t, exec (.ttaRegWrite h e) s = .next t ∧ t.dev.w a = s.dev.w (ttaData h e.val) ∧ s.firedBy t h e.val ∧
      s.onlyTouches t (a :: ttaWords h e.val) []

/-! ### Edge capture and reference candidates -/

/-- In each half an edge that crosses and qualifies at a unit in service is counted (R101 to R103). In STAMP mode a selected
one is stamped, its unit not being in its dead time, at the vernier's instant (R97) and offered to the queue with the next
SEQ where QEN is 1 (R107, R108); in the dead time it is missed, with MISSED counted, ERR_MISS and CAP_ERR (R99; CAP_ERR is
the model's reading, log entry 243). In ARMED mode an armed point takes one stamp and is armed no more (R104); in INTERVAL
mode a start begins an interval (R105); in OFF nothing is stamped. The calibration that follows re-arms the unit when its
count lies in 1,900 to 2,100, is a failure otherwise, and the sixteenth failure in a row takes the unit out of service with
CAP_ERR (R98). No count of a timebase moves. It says where EDGE_CAPTURE and CAPTURE_CALIBRATE complete. -/
def Obligations.EdgesAreStampedAndUnitsCalibrated : Prop :=
  (∀ (cp : Fin 80) (fall : Bool) (e0 e1 : EdgeSeen) (h : Half) (s : State),
    let u := s.dev.cap h cp.val
    let b := tdcP h cp.val
    let e := match h with | .warp => e0 | .weft => e1
    let mode := s.dev.g b Reg.TDC.CFG_MODE
    let sel := u.grid = 0 ∨ s.dev.gb b Reg.TDC.CFG_OWNED = true
    (s.nv.variantN = false ∨ cp.val < 20 ∨ 24 ≤ cp.val) →
    s.dev.capStopped h cp.val = false → s.dev.crosses h cp.val fall e = true → s.dev.slopeOk h cp.val fall = true →
    u.blankTo ≤ s.dev.now → s.dev.gb b Reg.TDC.PSTAT_OOS = false →
    (∀ y < 80, (s.dev.cap h y).iv.map (·.stop) ≠ some cp.val) →
    ∃ t, exec (.edgeCapture cp fall e0 e1) s = .next t ∧ (t.dev.cap h cp.val).ecnt = u.ecnt + 1 ∧
      (mode = 1 → sel → u.busy = false →
        (t.dev.cap h cp.val).stamp = some (s.dev.stampAt h cp.val (s.dev.capTb h cp.val) e.ce) ∧
        (t.dev.cap h cp.val).busy = true ∧
        (s.dev.gb b Reg.TDC.CFG_QEN = true → s.dev.capOcc h cp.val < 64 →
          (t.dev.cap h cp.val).seq = (u.seq + 1) % 2 ^ 16 ∧
          t.dev.g b Reg.TDC.QPTR_QWR = (s.dev.g b Reg.TDC.QPTR_QWR + 1) % 2 ^ 16)) ∧
      (mode = 1 → sel → u.busy = true →
        (t.dev.cap h cp.val).stamp = u.stamp ∧ t.dev.g b Reg.TDC.MISSED_MISSED = min (s.dev.g b Reg.TDC.MISSED_MISSED + 1) 0xFFFF ∧
        t.dev.gb b Reg.TDC.PSTAT_ERR_MISS = true ∧
        t.dev.evt (tdcPg h cp.val) (capErrEvt cp.val) = (s.dev.evt (tdcPg h cp.val) (capErrEvt cp.val)).occur) ∧
      (mode = 2 → u.armed = true → u.busy = false →
        (t.dev.cap h cp.val).stamp = some (s.dev.stampAt h cp.val (s.dev.capTb h cp.val) e.ce) ∧
        (t.dev.cap h cp.val).armed = false) ∧
      (mode = 3 → u.iv = none → sel → u.busy = false →
        (t.dev.cap h cp.val).iv = some { count := s.dev.count h (s.dev.capTb h cp.val), stop := s.dev.stopCp h cp.val }) ∧
      (mode = 0 → (t.dev.cap h cp.val).stamp = u.stamp ∧ (t.dev.cap h cp.val).busy = u.busy) ∧
      (∀ g n, t.dev.count g n = s.dev.count g n) ∧ s.keepsRest t) ∧
  (∀ (h : Half) (cp : Fin 80) (c1 c2 : Nat) (s : State), s.dev.gb (tdcP h cp.val) Reg.TDC.PSTAT_OOS = false →
    s.dev.capStopped h cp.val = false → c1 + 1900 ≤ c2 → c2 ≤ c1 + 2100 →
    ∃ t, exec (.captureCalibrate h cp c1 c2) s = .next t ∧
      t.dev.cap h cp.val = { s.dev.cap h cp.val with c1 := c1, c2 := c2, fails := 0, busy := false } ∧
      t.dev.gb (tdcP h cp.val) Reg.TDC.PSTAT_CAL_OK = true ∧ t.dev.g (tdcP h cp.val) Reg.TDC.LAST_CAL = c2 - c1 ∧
      t.dev.tbs = s.dev.tbs ∧ s.keepsRest t) ∧
  (∀ (h : Half) (cp : Fin 80) (c1 c2 : Nat) (s : State), s.dev.gb (tdcP h cp.val) Reg.TDC.PSTAT_OOS = false →
    s.dev.capStopped h cp.val = false → c2 < c1 + 1900 ∨ c1 + 2100 < c2 → (s.dev.cap h cp.val).fails < 15 →
    ∃ t, exec (.captureCalibrate h cp c1 c2) s = .next t ∧
      t.dev.cap h cp.val = { s.dev.cap h cp.val with fails := (s.dev.cap h cp.val).fails + 1 } ∧
      t.dev.gb (tdcP h cp.val) Reg.TDC.PSTAT_CAL_OK = false ∧ t.dev.tbs = s.dev.tbs ∧ s.keepsRest t) ∧
  ∀ (h : Half) (cp : Fin 80) (c1 c2 : Nat) (s : State), s.dev.gb (tdcP h cp.val) Reg.TDC.PSTAT_OOS = false →
    s.dev.capStopped h cp.val = false → c2 < c1 + 1900 ∨ c1 + 2100 < c2 → 15 ≤ (s.dev.cap h cp.val).fails →
    ∃ t, exec (.captureCalibrate h cp c1 c2) s = .next t ∧
      t.dev.gb (tdcP h cp.val) Reg.TDC.PSTAT_OOS = true ∧ t.dev.gb (tdcP h cp.val) Reg.TDC.PSTAT_ERR_CAL = true ∧
      t.dev.evt (tdcPg h cp.val) (capErrEvt cp.val) = (s.dev.evt (tdcPg h cp.val) (capErrEvt cp.val)).occur ∧
      t.dev.tbs = s.dev.tbs ∧ s.keepsRest t

/-- QRD frees what the host has read, and a value that would leave the occupancy outside 0 to 64 is discarded with ERR_QPTR
and CAP_ERR (R108); MISSED.CLR clears the counts, FL_VALID and the sticky causes (R111); a written THR blanks the comparator
for 100 ns and the comparator then stands as the level makes it (R101, R102); a written CFG takes the bits that the point
lets be written, and a change of SLOPE, DIFF or HYST blanks too; an interval without a stop edge for 1 s, or whose stop point
can give none, ends, and takes a timeout entry where QEN is 1 and the queue has room (R106). QRD, MISSED.CLR and THR change
nothing else; no count moves. It says where QRD_WRITE, MISSED_CLR, COMPARATOR_WRITE and INTERVAL_TIMEOUT complete. -/
def Obligations.PinQueueAndComparatorWrites : Prop :=
  (∀ (m : Master) (h : Half) (cp : Fin 80) (v : BitVec 16) (s : State), s.writable m (tdcP h cp.val + 0x0C) →
    (s.dev.g (tdcP h cp.val) Reg.TDC.QPTR_QWR + 2 ^ 16 - v.toNat) % 2 ^ 16 ≤ 64 →
    ∃ t, exec (.qrdWrite m h cp v) s = .next t ∧ t.dev.g (tdcP h cp.val) Reg.TDC.QPTR_QRD = v.toNat ∧
      t.dev.g (tdcP h cp.val) Reg.TDC.QPTR_QWR = s.dev.g (tdcP h cp.val) Reg.TDC.QPTR_QWR ∧
      s.onlyTouches t [tdcP h cp.val + 0x0C] []) ∧
  (∀ (m : Master) (h : Half) (cp : Fin 80) (v : BitVec 16) (s : State), s.writable m (tdcP h cp.val + 0x0C) →
    64 < (s.dev.g (tdcP h cp.val) Reg.TDC.QPTR_QWR + 2 ^ 16 - v.toNat) % 2 ^ 16 →
    ∃ t, exec (.qrdWrite m h cp v) s = .next t ∧ t.dev.gb (tdcP h cp.val) Reg.TDC.PSTAT_ERR_QPTR = true ∧
      t.dev.evt (tdcPg h cp.val) (capErrEvt cp.val) = (s.dev.evt (tdcPg h cp.val) (capErrEvt cp.val)).occur ∧
      s.onlyTouches t [tdcP h cp.val + 0x18] [tdcPg h cp.val + capErrEvt cp.val]) ∧
  (∀ (m : Master) (h : Half) (cp : Fin 80) (s : State), s.writable m (tdcP h cp.val + 0x14) →
    ∃ t, exec (.missedClr m h cp) s = .next t ∧ t.dev.g (tdcP h cp.val) Reg.TDC.MISSED_MISSED = 0 ∧
      t.dev.g (tdcP h cp.val) Reg.TDC.LOSS_LOST = 0 ∧ t.dev.gb (tdcP h cp.val) Reg.TDC.MISSED_FL_VALID = false ∧
      t.dev.w (tdcP h cp.val + 0x18) = s.dev.w (tdcP h cp.val + 0x18) % 2 ^ 8 ∧
      s.onlyTouches t [tdcP h cp.val + 0x10, tdcP h cp.val + 0x14, tdcP h cp.val + 0x18] []) ∧
  (∀ (m : Master) (h : Half) (cp : Fin 80) (v : Word) (s : State), s.writable m (tdcP h cp.val + 4) →
    ∃ t, exec (.comparatorWrite m h cp true v) s = .next t ∧ t.dev.g (tdcP h cp.val) Reg.TDC.THR = v.toNat % 1024 ∧
      (let u := s.dev.cap h cp.val
       t.dev.cap h cp.val = { u with
        blankTo := s.dev.now + 25, high := if cp.val < 20 then t.dev.comparator h cp.val u.high u.level else u.high }) ∧
      (∀ y < 80, y ≠ cp.val → t.dev.cap h y = s.dev.cap h y) ∧
      s.onlyTouches { t with dev := { t.dev with caps := s.dev.caps } } [tdcP h cp.val + 4] []) ∧
  (∀ (m : Master) (h : Half) (cp : Fin 80) (v : Word) (s : State), s.writable m (tdcP h cp.val) →
    let old := s.dev.w (tdcP h cp.val)
    let new := mergeWrite (tdcP h cp.val) old v.toNat &&& (if 20 ≤ cp.val then 0xFFFFDFFF else 0xFFFFFFFF)
    ∃ t, exec (.comparatorWrite m h cp false v) s = .next t ∧ t.dev.w (tdcP h cp.val) = new ∧
      (t.dev.cap h cp.val).blankTo =
        (if old &&& 0xE00C ≠ new &&& 0xE00C then s.dev.now + 25 else (s.dev.cap h cp.val).blankTo) ∧
      t.dev.tbs = s.dev.tbs ∧ s.keepsRest t) ∧
  (∀ (h : Half) (cp : Fin 80) (i : IvStart) (s : State), (s.dev.cap h cp.val).iv = some i →
    (i.count + secUnit ≤ s.dev.count h (s.dev.capTb h cp.val) ∨ s.dev.gb (tdcP h i.stop) Reg.TDC.PSTAT_OOS = true ∨
      s.dev.capStopped h i.stop = true) →
    ∃ t, exec (.intervalTimeout h cp) s = .next t ∧ (t.dev.cap h cp.val).iv = none ∧
      (s.dev.gb (tdcP h cp.val) Reg.TDC.CFG_QEN = false → s.onlyTouches { t with dev := { t.dev with caps := s.dev.caps } } [] []) ∧
      t.dev.tbs = s.dev.tbs ∧ s.keepsRest t) ∧
  ∀ (h : Half) (cp : Fin 80) (i : IvStart) (s : State), (s.dev.cap h cp.val).iv = some i →
    (i.count + secUnit ≤ s.dev.count h (s.dev.capTb h cp.val) ∨ s.dev.gb (tdcP h i.stop) Reg.TDC.PSTAT_OOS = true ∨
      s.dev.capStopped h i.stop = true) →
    s.dev.gb (tdcP h cp.val) Reg.TDC.CFG_QEN = true → s.dev.capOcc h cp.val < 64 →
    ∃ t, exec (.intervalTimeout h cp) s = .next t ∧ (t.dev.cap h cp.val).iv = none ∧
      getBits (tget 0 t.dev.capq (capSlot h cp.val (s.dev.g (tdcP h cp.val) Reg.TDC.QPTR_QWR) + 5)).toNat 17 2 = 3 ∧
      t.dev.g (tdcP h cp.val) Reg.TDC.QPTR_QWR = (s.dev.g (tdcP h cp.val) Reg.TDC.QPTR_QWR + 1) % 2 ^ 16 ∧
      s.onlyTouches { t with dev := { t.dev with caps := s.dev.caps, capq := s.dev.capq } } [tdcP h cp.val + 0x0C]
        [tdcPg h cp.val + capDataEvt cp.val]

/-- A port's word clock is stamped in each half with the number of words it stands for, by a unit that is in service (R116);
a marker of a Selvedge link that is up is taken by both halves' units, and what each stamped is the link's (R119), a link
that is down taking none; the path delays of running points follow the die sensors (R121). No count moves. It says where
WORD_CLOCK_TRACK, SELVEDGE_MARKER and TEMP_COMPENSATE complete. -/
def Obligations.InternalPointsAreStamped : Prop :=
  (∀ (p : Fin 8) (tx : Bool) (words ce0 ce1 : Nat) (h : Half) (s : State),
    let cp := (if tx then 32 else 24) + p.val
    s.dev.capStopped h cp = false → s.dev.gb (tdcP h cp) Reg.TDC.PSTAT_OOS = false →
    ∃ t, exec (.wordClockTrack p tx words ce0 ce1) s = .next t ∧
      (t.dev.cap h cp).stamp = some (s.dev.stampAt h cp 0 (match h with | .warp => ce0 | .weft => ce1)) ∧
      (t.dev.cap h cp).ecnt % 2 ^ 32 = words % 2 ^ 32 ∧
      (t.dev.cap h cp).stampEc = (t.dev.cap h cp).ecnt ∧ t.dev.tbs = s.dev.tbs ∧ s.keepsRest t) ∧
  (∀ (l : Fin 4) (leaves : Bool) (e0 e1 : EdgeSeen) (s : State), s.dev.linkUp_ l.val = true →
    let cp := 64 + 2 * l.val + bitOf leaves
    let d := (s.dev.capEdge .warp cp false e0).capEdge .weft cp false e1
    let st : Pair (Option Nat) :=
      ⟨(d.cap .warp cp).stampedSince (s.dev.cap .warp cp), (d.cap .weft cp).stampedSince (s.dev.cap .weft cp)⟩
    ∃ t, exec (.selvedgeMarker l leaves e0 e1) s = .next t ∧
      t.dev.link l.val = (if leaves then { s.dev.link l.val with t1 := st } else { s.dev.link l.val with t4 := st }) ∧
      (∀ h, s.dev.capStopped h cp = false → s.dev.slopeOk h cp false = true → (s.dev.cap h cp).blankTo ≤ s.dev.now →
        s.dev.gb (tdcP h cp) Reg.TDC.PSTAT_OOS = false → s.dev.g (tdcP h cp) Reg.TDC.CFG_MODE = 1 →
        s.dev.gb (tdcP h cp) Reg.TDC.CFG_OWNED = true → (s.dev.cap h cp).busy = false →
        st.of h = some (s.dev.stampAt h cp 0 (match h with | .warp => e0.ce | .weft => e1.ce))) ∧
      (∀ k < 4, k ≠ l.val → t.dev.link k = s.dev.link k) ∧ t.dev.tbs = s.dev.tbs ∧ s.keepsRest t) ∧
  (∀ (l : Fin 4) (leaves : Bool) (e0 e1 : EdgeSeen) (s : State), s.dev.linkUp_ l.val = false →
    exec (.selvedgeMarker l leaves e0 e1) s = .next s) ∧
  ∀ (h : Half) (ps : List (Nat × Int)) (s : State),
    ∃ t, exec (.tempCompensate h ps) s = .next t ∧
      (∀ k < 80, tget 0 t.dev.pathComp (h.num * 80 + k) =
        match ps.reverse.find? (fun x => x.1 == k) with
        | some x => if s.dev.capStopped h k then tget 0 s.dev.pathComp (h.num * 80 + k) else x.2
        | none => tget 0 s.dev.pathComp (h.num * 80 + k)) ∧
      { t.dev with pathComp := s.dev.pathComp } = s.dev ∧ s.keepsRest t

/-- EN cleared takes a candidate OFF, and EN set leaves it QUALIFYING with the hold-off timer started or, with a fault,
FAILED (R130); in a page whose ENABLE is 0 the bit is stored alone, and EN written as it is changes nothing. An activity
interval, once over, fills the bucket without edges and empties it with them, and ACT is set at REJ and clear at ACC (R132);
a frequency window, once over, gives FOFS and the FREQ fault (R133); HOLD without a fault qualifies the candidate with
REF_QUALIFIED (R130). A time that is not over, or a monitor that does not run, changes nothing. It says where REF_EN_WRITE,
AMON_INTERVAL, FMON_WINDOW and QUAL_HOLD_EXPIRE complete. -/
def Obligations.CandidatesQualifyAndAreMonitored : Prop :=
  (∀ (m : Master) (h : Half) (c : Fin 30) (s : State), s.writable m (refQ h c.val) → s.dev.enabled (refPg h c.val) = true →
    s.dev.gb (refQ h c.val) Reg.REF.CTRL_EN = true →
    ∃ t, exec (.refEnWrite m h c false) s = .next t ∧ t.dev.gb (refQ h c.val) Reg.REF.CTRL_EN = false ∧
      t.dev.cstate h c.val = 0 ∧
      s.onlyTouches { t with dev := { t.dev with cands := s.dev.cands } }
        [refQ h c.val, refQ h c.val + 0x20, selPg h + 0x504] []) ∧
  (∀ (m : Master) (h : Half) (c : Fin 30) (s : State), s.writable m (refQ h c.val) → s.dev.enabled (refPg h c.val) = true →
    s.dev.gb (refQ h c.val) Reg.REF.CTRL_EN = false →
    ∃ t, exec (.refEnWrite m h c true) s = .next t ∧ t.dev.gb (refQ h c.val) Reg.REF.CTRL_EN = true ∧
      t.dev.g (refQ h c.val) Reg.REF.MONLVL = 0 ∧ (t.dev.cand h c.val).holdAt = s.dev.schedCount ∧
      t.dev.cstate h c.val = (if t.dev.g (refQ h c.val) Reg.REF.CSTAT_FAULT = 0 then 2 else 1) ∧
      t.dev.tbs = s.dev.tbs ∧ t.dev.caps = s.dev.caps ∧ s.keepsRest t) ∧
  (∀ (m : Master) (h : Half) (c : Fin 30) (v : Bool) (s : State), s.writable m (refQ h c.val) →
    (s.dev.enabled (refPg h c.val) = false ∨ s.dev.gb (refQ h c.val) Reg.REF.CTRL_EN = v) →
    ∃ t, exec (.refEnWrite m h c v) s = .next t ∧ t.dev.gb (refQ h c.val) Reg.REF.CTRL_EN = v ∧
      s.onlyTouches t [refQ h c.val] []) ∧
  (∀ (h : Half) (c : Fin 30) (s : State),
    let q := refQ h c.val
    let st := s.dev.cand h c.val
    let edges := (s.dev.cap h ((candCp c.val).getD 0)).ecnt ≠ st.ecSeen
    let b := if edges then (if s.dev.g q Reg.REF.AMON_DECAY ≤ st.run + 1 then s.dev.g q Reg.REF.MONLVL - 1 else s.dev.g q Reg.REF.MONLVL)
      else min 255 (s.dev.g q Reg.REF.MONLVL + 1)
    s.dev.monOn h c.val Reg.REF.CTRL_AMON_EN = true → monDue st.amonAt (s.dev.amonLength h c.val) (s.dev.count .warp 0) = true →
    ∃ t, exec (.amonInterval h c) s = .next t ∧ t.dev.g q Reg.REF.MONLVL = b ∧
      (s.dev.g q Reg.REF.AMON_REJ ≤ b → bitAt (t.dev.g q Reg.REF.CSTAT_FAULT) faultACT = true) ∧
      (b < s.dev.g q Reg.REF.AMON_REJ → b ≤ s.dev.amonAcc h c.val → bitAt (t.dev.g q Reg.REF.CSTAT_FAULT) faultACT = false) ∧
      (b < s.dev.g q Reg.REF.AMON_REJ → s.dev.amonAcc h c.val < b →
        t.dev.g q Reg.REF.CSTAT_FAULT = s.dev.g q Reg.REF.CSTAT_FAULT) ∧
      t.dev.tbs = s.dev.tbs ∧ t.dev.caps = s.dev.caps ∧ s.keepsRest t) ∧
  (∀ (h : Half) (c : Fin 30) (s : State),
    (s.dev.monOn h c.val Reg.REF.CTRL_AMON_EN = false ∨
      monDue (s.dev.cand h c.val).amonAt (s.dev.amonLength h c.val) (s.dev.count .warp 0) = false →
      exec (.amonInterval h c) s = .next s) ∧
    (s.dev.monOn h c.val Reg.REF.CTRL_FMON_EN = false ∨ s.dev.fmonDue h c.val = false → exec (.fmonWindow h c) s = .next s)) ∧
  (∀ (h : Half) (c : Fin 30) (w : Nat × Nat) (x : Nat) (s : State), s.dev.monOn h c.val Reg.REF.CTRL_FMON_EN = true →
    s.dev.fmonDue h c.val = true →
    let u := s.dev.cap h ((candCp c.val).getD 0)
    let st := s.dev.cand h c.val
    let rej := s.dev.g (refQ h c.val) Reg.REF.FMON_REJ
    let acc := if rej ≤ s.dev.g (refQ h c.val) Reg.REF.FMON_ACC then rej - 1 else s.dev.g (refQ h c.val) Reg.REF.FMON_ACC
    st.fwin = some w → u.stamp0 = some x → w.1 < x →
    let f := fofsOf ((u.stampEc + 2 ^ 32 - w.2) % 2 ^ 32) (x - w.1) (s.dev.nomFreq h c.val)
    ∃ t, exec (.fmonWindow h c) s = .next t ∧ t.dev.g (refQ h c.val) Reg.REF.FOFS = unsignedOf 32 f ∧
      (t.dev.cand h c.val).freqBad = (decide (rej * 1000 < f.natAbs) || st.freqBad && decide (acc * 1000 < f.natAbs)) ∧
      (st.failTo = none → bitAt (t.dev.g (refQ h c.val) Reg.REF.CSTAT_FAULT) faultFREQ = (t.dev.cand h c.val).freqBad) ∧
      (t.dev.cand h c.val).fwin = some (x, u.stampEc) ∧ t.dev.tbs = s.dev.tbs ∧ t.dev.caps = s.dev.caps ∧ s.keepsRest t) ∧
  (∀ (h : Half) (c : Fin 30) (s : State), s.dev.monOn h c.val Reg.REF.CTRL_FMON_EN = true → s.dev.fmonDue h c.val = true →
    let u := s.dev.cap h ((candCp c.val).getD 0)
    (s.dev.cand h c.val).fwin = none →
    ∃ t, exec (.fmonWindow h c) s = .next t ∧ (t.dev.cand h c.val).fwin = u.stamp0.map (fun x => (x, u.stampEc)) ∧
      s.onlyTouches { t with dev := { t.dev with cands := s.dev.cands } } [] []) ∧
  (∀ (h : Half) (c : Fin 30) (s : State), s.dev.cstate h c.val = 2 →
    (s.dev.cand h c.val).holdAt + s.dev.g (refQ h c.val) Reg.REF.QUAL * secUnit ≤ s.dev.schedCount →
    ∃ t, exec (.qualHoldExpire h c) s = .next t ∧ t.dev.cstate h c.val = 3 ∧
      t.dev.evt (refPg h c.val) (refEvt c.val 1) = (s.dev.evt (refPg h c.val) (refEvt c.val 1)).occur ∧
      (∀ g n, t.dev.count g n = s.dev.count g n) ∧ s.keepsRest t) ∧
  ∀ (h : Half) (c : Fin 30) (s : State),
    s.dev.cstate h c.val ≠ 2 ∨
      s.dev.schedCount < (s.dev.cand h c.val).holdAt + s.dev.g (refQ h c.val) Reg.REF.QUAL * secUnit →
    exec (.qualHoldExpire h c) s = .next s

/-! ### Selection, loops and holdover -/

/-- An evaluation, taken after the candidates' faults, carries out in the leading half's selectors what R136 to R142 find: it
keeps what is selected; leaves a selector without a reference; under HOLD keeps the candidate until its next measurement;
begins a transaction toward a better candidate; aborts one and keeps the selected candidate; or aborts one and begins
another. No count moves. It says where SEL_EVALUATE completes. -/
def Obligations.EvaluationDecidesEachSelector : Prop :=
  ∀ (n : Fin 16) (s : State),
    let h := s.dev.lead
    let a := (s.dev.both fun g e => if e.loopsRun g then candsEvaluated g e else e).selAction h n.val
    ∃ t, exec .selEvaluate s = .next t ∧ s.keepsRest t ∧ (∀ g, ∀ k < 16, t.dev.count g k = s.dev.count g k) ∧
      (a = .keep → t.dev.selC h n.val = s.dev.selC h n.val ∧ t.dev.xph h n.val = s.dev.xph h n.val ∧
        t.dev.tgtC h n.val = s.dev.tgtC h n.val) ∧
      (a = .noref → t.dev.selC h n.val = 31 ∧ t.dev.xph h n.val = 0 ∧ t.dev.gb (selS h n.val) Reg.SEL.SSTAT_NOREF = true ∧
        (s.dev.gb (selS h n.val) Reg.SEL.SSTAT_NOREF = false → (t.dev.evt (selPg h) 17).pend = true)) ∧
      (a = .hold → t.dev.selC h n.val = s.dev.selC h n.val ∧ t.dev.xph h n.val = 0 ∧ (t.dev.sel h n.val).drop = true) ∧
      (∀ c ms, a = .start c ms → t.dev.selC h n.val = s.dev.selC h n.val ∧ t.dev.xph h n.val = 1 ∧ t.dev.tgtC h n.val = c ∧
        (t.dev.sel h n.val).since = s.dev.schedCount ∧ (t.dev.sel h n.val).decide = ms) ∧
      (a = .abortKeep → t.dev.selC h n.val = s.dev.selC h n.val ∧ t.dev.xph h n.val = 0 ∧
        (s.dev.xph h n.val ≠ 0 → t.dev.g (selS h n.val) Reg.SEL.SWCNT_ABORTS =
          (s.dev.g (selS h n.val) Reg.SEL.SWCNT_ABORTS + 1) % 2 ^ 16)) ∧
      (∀ c ms, a = .restart c ms → t.dev.selC h n.val = s.dev.selC h n.val ∧ t.dev.xph h n.val = 1 ∧ t.dev.tgtC h n.val = c ∧
        (s.dev.xph h n.val ≠ 0 → t.dev.g (selS h n.val) Reg.SEL.SWCNT_ABORTS =
          (s.dev.g (selS h n.val) Reg.SEL.SWCNT_ABORTS + 1) % 2 ^ 16))

/-- DECIDE passes to BUILD-OUT when its time is over; BUILD-OUT ends with two measurements and BO their mean (R140); a
wait-to-restore timer that has run out stops (R143); a vote window that ends opens the next with every usable candidate's
phase (R144). Before the time is over, none of the four changes anything. It says where DECIDE_END, BUILD_OUT_END, WTR_EXPIRE
and VOTE_WINDOW complete. -/
def Obligations.TransactionsTimersAndVoteWindows : Prop :=
  (∀ (h : Half) (n : Fin 16) (s : State), s.dev.xph h n.val = 1 →
    msOf (s.dev.sel h n.val).since + (s.dev.sel h n.val).decide ≤ msOf s.dev.schedCount →
    ∃ t, exec (.decideEnd h n) s = .next t ∧ t.dev.xph h n.val = 2 ∧ (t.dev.sel h n.val).boN = 0 ∧
      (t.dev.sel h n.val).since = s.dev.schedCount ∧ (t.dev.sel h n.val).decide = s.dev.g (selS h n.val) Reg.SEL.BUILD ∧
      (∀ k < 16, k ≠ n.val → t.dev.sel h k = s.dev.sel h k) ∧
      s.onlyTouches { t with dev := { t.dev with sels := s.dev.sels } } [selS h n.val + 0x10] []) ∧
  (∀ (h : Half) (n : Fin 16) (s : State), s.dev.xph h n.val = 2 → (s.dev.sel h n.val).ready = false →
    2 ≤ (s.dev.sel h n.val).boN →
    (s.dev.sel h n.val).since + (s.dev.sel h n.val).decide * (10 ^ 6 * nsUnit) ≤ s.dev.schedCount →
    ∃ t, exec (.buildOutEnd h n) s = .next t ∧ (t.dev.sel h n.val).ready = true ∧
      (t.dev.sel h n.val).boSum = meanNearest (s.dev.sel h n.val).boSum (s.dev.sel h n.val).boN ∧
      { t.dev with sels := s.dev.sels } = s.dev ∧ s.keepsRest t) ∧
  (∀ (h : Half) (n : Fin 16) (c : Fin 30) (s : State), tget 0 s.dev.wtr ((h.num * 16 + n.val) * 32 + c.val) ≤ s.dev.schedCount →
    ∃ t, exec (.wtrExpire h n c) s = .next t ∧ t.dev.wtrRuns h n.val c.val = false ∧ { t.dev with wtr := s.dev.wtr } = s.dev ∧
      s.keepsRest t) ∧
  (∀ (h : Half) (n : Fin 16) (c : Fin 30) (s : State),
    ((s.dev.xph h n.val == 1 && decide (msOf (s.dev.sel h n.val).since + (s.dev.sel h n.val).decide ≤ msOf s.dev.schedCount)) = false →
      exec (.decideEnd h n) s = .next s) ∧
    ((s.dev.xph h n.val == 2 && !(s.dev.sel h n.val).ready && decide (2 ≤ (s.dev.sel h n.val).boN) &&
        decide ((s.dev.sel h n.val).since + (s.dev.sel h n.val).decide * (10 ^ 6 * nsUnit) ≤ s.dev.schedCount)) = false →
      exec (.buildOutEnd h n) s = .next s) ∧
    (s.dev.schedCount < tget 0 s.dev.wtr ((h.num * 16 + n.val) * 32 + c.val) → exec (.wtrExpire h n c) s = .next s) ∧
    (s.dev.voteDue = false → exec .voteWindow s = .next s)) ∧
  ∀ s : State, s.dev.voteAt + s.dev.voteWin s.dev.lead * secUnit ≤ s.dev.schedCount →
    ∃ t, exec .voteWindow s = .next t ∧ t.dev.voteAt = s.dev.schedCount ∧
      (∀ h, ∀ c < 30, (t.dev.cand h c).votePh = if t.dev.usable h c = true then some (t.dev.phase h c) else none) ∧
      t.dev.tbs = s.dev.tbs ∧ s.keepsRest t

/-- A loop takes each new measurement of its input: PERR is the error of R152 with the build-out drained, UPDCNT counts, and
FADJ moves without a step of the count (R153 to R155); a loop in FREERUN begins to acquire at it (R158), and one in HOLDOVER
whose candidate has come back resumes it at stage REENTRY (R142, R158). At the target's next update a finished BUILD-OUT
commits: the input changes, NOREF clears, SEL_SWITCHED is raised, and the half that follows commits with it (R139, R140). A
candidate dropped by HOLD leaves at its next measurement (R137). Without a new measurement an update changes no loop. A step
that misses its time raises LOOP_LATE (R30), and the first one missed stays (R201). EN takes a loop to FREERUN with its FADJ
held, and to OFF (R158); in a page that is disabled it is stored alone (R38). It says where LOOP_UPDATE, LOOP_LATE and
LOOP_EN_WRITE complete. -/
def Obligations.LoopsUpdateCommitAndSwitch : Prop :=
  (∀ (h : Half) (k : Fin 16) (i : LoopIn) (s : State), s.dev.loopsRun h = true → (s.dev.sel h k.val).drop = false →
    s.dev.commitDue h k.val = false → s.dev.lstate h k.val ≠ 0 → s.dev.resumeDue h k.val = false →
    s.dev.loopIn h k.val = some i →
    ((s.dev.loop h k.val).lastIn ≠ some i ∨ (s.dev.loop h k.val).lastNo ≠ s.dev.measNo h k.val i) →
    ∃ t, exec (.loopUpdate h k) s = .next t ∧
      t.dev.g2 (dplL h k.val) Reg.DPL.PERR_LO Reg.DPL.PERR_HI = unsignedOf 48 ((s.dev.drained h k.val).loopErr h k.val i) ∧
      t.dev.g (dplL h k.val) Reg.DPL.UPDCNT = (s.dev.g (dplL h k.val) Reg.DPL.UPDCNT + 1) % 2 ^ 32 ∧
      (s.dev.lstate h k.val = 1 → i ≠ .dom → t.dev.lstate h k.val = 2 ∧ t.dev.g (dplL h k.val) Reg.DPL.LSTAT_STAGE = 0) ∧
      t.dev.g (dplL h k.val) Reg.DPL.LSTAT_INPUT = i.code % 32 ∧ (t.dev.loop h k.val).lastAt = some (s.dev.count h k.val) ∧
      (∀ g, ∀ n < 16, t.dev.count g n = s.dev.count g n) ∧ s.keepsRest t) ∧
  (∀ (h : Half) (k : Fin 16) (s : State), s.dev.loopsRun h = true → (s.dev.sel h k.val).drop = false →
    s.dev.commitDue h k.val = false → s.dev.resumeDue h k.val = true →
    ∃ t, exec (.loopUpdate h k) s = .next t ∧
      t.dev.lstate h k.val = (if s.dev.g (dplL h k.val) Reg.DPL.CTRL_REENTRY = 3 then 3 else 2) ∧ t.dev.hmode h k.val = 0 ∧
      t.dev.g (dplL h k.val) Reg.DPL.LSTAT_STAGE = s.dev.g (dplL h k.val) Reg.DPL.CTRL_REENTRY ∧
      (s.dev.domDirects h k.val = false →
        t.dev.g (dplL h k.val) Reg.DPL.UPDCNT = (s.dev.g (dplL h k.val) Reg.DPL.UPDCNT + 1) % 2 ^ 32) ∧
      (∀ g, ∀ n < 16, t.dev.count g n = s.dev.count g n) ∧ s.keepsRest t) ∧
  (∀ (h : Half) (k : Fin 16) (s : State), s.dev.loopsRun h = true → (s.dev.sel h k.val).drop = true →
    (s.dev.usable h (s.dev.selC h k.val) &&
      decide ((s.dev.cand h (s.dev.selC h k.val)).measNo ≤ (s.dev.sel h k.val).endNo)) = false →
    ∃ t, exec (.loopUpdate h k) s = .next t ∧ t.dev.selC h k.val = 31 ∧ (t.dev.sel h k.val).drop = false ∧
      t.dev.gb (selS h k.val) Reg.SEL.SSTAT_NOREF = true ∧
      (∀ g, ∀ n < 16, t.dev.count g n = s.dev.count g n) ∧ s.keepsRest t) ∧
  (∀ (h : Half) (k : Fin 16) (s : State), s.dev.loopsRun h = true → (s.dev.sel h k.val).drop = false →
    s.dev.commitDue h k.val = true →
    ∃ t, exec (.loopUpdate h k) s = .next t ∧ t.dev.selC h k.val = s.dev.tgtC h k.val ∧ t.dev.xph h k.val = 0 ∧
      t.dev.gb (selS h k.val) Reg.SEL.SSTAT_NOREF = false ∧
      t.dev.g (selS h k.val) Reg.SEL.SWCNT_COMMITS = (s.dev.g (selS h k.val) Reg.SEL.SWCNT_COMMITS + 1) % 2 ^ 16 ∧
      t.dev.evt (selPg h) k.val = (s.dev.evt (selPg h) k.val).occur ∧
      (s.dev.follows h.other = true → s.dev.loopsRun h.other = true → s.dev.xph h.other k.val = 2 →
        s.dev.tgtC h.other k.val = s.dev.tgtC h k.val →
        t.dev.selC h.other k.val = s.dev.tgtC h k.val ∧ t.dev.xph h.other k.val = 0) ∧
      (∀ g, ∀ n < 16, t.dev.count g n = s.dev.count g n) ∧ s.keepsRest t) ∧
  (∀ (h : Half) (k : Fin 16) (s : State),
    (s.dev.loopsRun h = false ∨
      ((s.dev.sel h k.val).drop = true ∧ s.dev.usable h (s.dev.selC h k.val) = true ∧
        (s.dev.cand h (s.dev.selC h k.val)).measNo ≤ (s.dev.sel h k.val).endNo) ∨
      ((s.dev.sel h k.val).drop = false ∧ s.dev.commitDue h k.val = false ∧ s.dev.resumeDue h k.val = false ∧
        (s.dev.lstate h k.val = 0 ∨ ∀ i, s.dev.loopIn h k.val = some i →
          (s.dev.loop h k.val).lastIn = some i ∧ (s.dev.loop h k.val).lastNo = s.dev.measNo h k.val i))) →
    exec (.loopUpdate h k) s = .next (s.withDev (boundBases h (ratioRefresh h s.dev)))) ∧
  (∀ (h : Half) (k : Fin 16) (s : State),
    ∃ t, exec (.loopLate h k) s = .next t ∧
      (t.dev.loop h k.val).lateAt = some ((s.dev.loop h k.val).lateAt.getD (s.dev.count h 0)) ∧
      t.dev.evt (dplPg h k.val) (dplEvt k.val 3) = (s.dev.evt (dplPg h k.val) (dplEvt k.val 3)).occur ∧
      s.onlyTouches { t with dev := { t.dev with loops := s.dev.loops } } [] [dplPg h k.val + dplEvt k.val 3]) ∧
  (∀ (m : Master) (h : Half) (k : Fin 16) (v : Bool) (s : State), s.writable m (dplL h k.val) →
    s.dev.gb (dplL h k.val) Reg.DPL.CTRL_EN ≠ v → s.dev.enabled (dplPg h k.val) = true →
    ∃ t, exec (.loopEnWrite m h k v) s = .next t ∧ t.dev.gb (dplL h k.val) Reg.DPL.CTRL_EN = v ∧
      t.dev.lstate h k.val = bitOf v ∧ (t.dev.tb h k.val).fadjTgt = (s.dev.tb h k.val).fadj ∧
      (t.dev.tb h k.val).fadj = (s.dev.tb h k.val).fadj ∧ (t.dev.loop h k.val).holdAt = none ∧
      (∀ g, ∀ n < 16, t.dev.count g n = s.dev.count g n) ∧ s.keepsRest t) ∧
  ∀ (m : Master) (h : Half) (k : Fin 16) (v : Bool) (s : State), s.writable m (dplL h k.val) →
    (s.dev.gb (dplL h k.val) Reg.DPL.CTRL_EN = v →
      exec (.loopEnWrite m h k v) s = .next (s.withDev (boundBases h (s.dev.regAccess m (dplL h k.val))))) ∧
    (s.dev.gb (dplL h k.val) Reg.DPL.CTRL_EN ≠ v → s.dev.enabled (dplPg h k.val) = false →
      exec (.loopEnWrite m h k v) s =
        .next (s.withDev (boundBases h ((s.dev.regAccess m (dplL h k.val)).pb (dplL h k.val) Reg.DPL.CTRL_EN v))))

/-- REALIGN of a loop whose input is a frequency, that is in no state to follow, or whose timebase has a step pending raises
REALIGN_REFUSED alone (R161); any other waits for the next second boundary, and is refused there if its loop no longer
permits it. There the step is taken and what follows a step of its timebase follows (R76): where the half holds no armed
action and no gated frame, the count moves by the last phase error with TB_STEPPED, BO becomes 0, what is left of a phase
adjustment is discarded, and HELD stays (R204). Before the boundary nothing happens. It says where REALIGN and REALIGN_APPLY
complete. -/
def Obligations.RealignWaitsAndStepsByPhaseError : Prop :=
  (∀ (m : Master) (h : Half) (k : Fin 16) (s : State), s.writable m (dplL h k.val) → s.dev.realignBad h k.val = true →
    ∃ t, exec (.realign m h k) s = .next t ∧
      t.dev.evt (dplPg h k.val) (dplEvt k.val 5) = (s.dev.evt (dplPg h k.val) (dplEvt k.val 5)).occur ∧
      s.onlyTouches t [] [dplPg h k.val + dplEvt k.val 5]) ∧
  (∀ (m : Master) (h : Half) (k : Fin 16) (s : State), s.writable m (dplL h k.val) → s.dev.realignBad h k.val = false →
    ∃ t, exec (.realign m h k) s = .next t ∧ (t.dev.loop h k.val).realign = some (s.dev.sec h k.val) ∧
      s.onlyTouches { t with dev := { t.dev with loops := s.dev.loops } } [] []) ∧
  (∀ (h : Half) (k : Fin 16) (s : State), s.dev.realignDue h k.val = true → s.dev.realignBad h k.val = true →
    ∃ t, exec (.realignApply h k) s = .next t ∧ (t.dev.loop h k.val).realign = none ∧ t.dev.tbs = s.dev.tbs ∧
      t.dev.evt (dplPg h k.val) (dplEvt k.val 5) = (s.dev.evt (dplPg h k.val) (dplEvt k.val 5)).occur ∧
      s.onlyTouches { t with dev := { t.dev with loops := s.dev.loops } } [] [dplPg h k.val + dplEvt k.val 5]) ∧
  (∀ (h : Half) (k : Fin 16) (s : State), s.dev.realignDue h k.val = false → exec (.realignApply h k) s = .next s) ∧
  (∀ (h : Half) (k : Fin 16) (s : State), s.dev.realignDue h k.val = true → s.dev.realignBad h k.val = false →
    exec (.realignApply h k) s = .next (s.withDev (steppedAfter s.nv h k.val (realigned h k.val s.dev)))) ∧
  ∀ (h : Half) (k : Fin 16) (s : State), s.dev.realignDue h k.val = true → s.dev.realignBad h k.val = false →
    (∀ e < 64, s.dev.ttaArmed h e = false) → (∀ p < 8, (s.dev.gate p).held = []) →
    ∃ t, exec (.realignApply h k) s = .next t ∧
      t.dev.count h k.val = (((s.dev.count h k.val : Int) +
        (-(s.dev.s48 (dplL h k.val) Reg.DPL.PERR_LO Reg.DPL.PERR_HI) * nsUnit) / 1000) % countMod).toNat ∧
      t.dev.bo h k.val = 0 ∧ (t.dev.loop h k.val).realign = none ∧
      t.dev.g (bndN h k.val) Reg.BND.HELD = s.dev.g (bndN h k.val) Reg.BND.HELD ∧ (t.dev.tb h k.val).padjRem = 0 ∧
      t.dev.gb (tsuB h k.val) Reg.TSU.STAT_PADJ_BUSY = false ∧
      t.dev.evt (tsuPg h k.val) (tbEvt k.val 0) = (s.dev.evt (tsuPg h k.val) (tbEvt k.val 0)).occur ∧
      (∀ n, n ≠ k.val → n < 16 → t.dev.tb h n = s.dev.tb h n) ∧ s.keepsRest t

/-- HOLD_ATOMIC without its source falls to HOLD_LAST with its event (R170); a holdover at its limit is EXPIRED, for TB0 with
its event (R173). A holdover sample that counts lengthens LEARN_S and is taken into the fit; one too far from the model is
counted among the outliers instead, and one that contradicts a model restored from the journal clears it; a second that does
not count is passed over (R165, R167). The fit that follows gives the level of R166, which the other half takes at the next
second boundary (R167). MODEL_RESET clears level and LEARN_S in every half in service, or waits there for the end of TB0's
holdover, and is ignored in Weft while Warp is in service (R166); the journal takes the model whole or not at all (R167). It
says where HOLD_SOURCE_LOST, HOLD_EXPIRED, HOLDOVER_SAMPLE, MODEL_UPDATE, MODEL_RESET and MODEL_SAVE complete. -/
def Obligations.HoldoverFallsExpiresAndLearns : Prop :=
  (∀ (h : Half) (k : Fin 16) (s : State), s.dev.sourceLost h k.val = true →
    ∃ t, exec (.holdSourceLost h k) s = .next t ∧ t.dev.hmode h k.val = 2 ∧ (t.dev.loop h k.val).anchor = none ∧
      t.dev.evt (hldPg h) 4 = (s.dev.evt (hldPg h) 4).occur ∧ (∀ g, ∀ n < 16, t.dev.count g n = s.dev.count g n) ∧
      s.keepsRest t) ∧
  (∀ (h : Half) (k : Fin 16) (s : State), s.dev.sourceLost h k.val = false → exec (.holdSourceLost h k) s = .next s) ∧
  (∀ (h : Half) (k : Fin 16) (s : State), s.dev.holdIsExpired h k.val (s.dev.published h k.val) = true →
    s.dev.gb (dplL h k.val) Reg.DPL.LSTAT_EXPIRED = false →
    ∃ t, exec (.holdExpired h k) s = .next t ∧ t.dev.gb (dplL h k.val) Reg.DPL.LSTAT_EXPIRED = true ∧
      (k = 0 → t.dev.gb (hldPg h) Reg.HLD.HSTAT_EXPIRED = true ∧ t.dev.evt (hldPg h) 2 = (s.dev.evt (hldPg h) 2).occur) ∧
      s.onlyTouches t [dplL h k.val + 0x20, hldPg h + 0x118] [hldPg h + 2]) ∧
  (∀ (h : Half) (k : Fin 16) (s : State), s.dev.holdIsExpired h k.val (s.dev.published h k.val) = false ∨
    s.dev.gb (dplL h k.val) Reg.DPL.LSTAT_EXPIRED = true → exec (.holdExpired h k) s = .next s) ∧
  (∀ s : State, (s.dev.cap s.dev.lead 12).stamp0 = none → exec .holdoverSample s = .next s) ∧
  (∀ (s : State) (x : Nat),
    let h := s.dev.lead
    (s.dev.cap h 12).stamp0 = some x →
    ((s.dev.hm h).last = none ∨ s.dev.gb (hldPg h) Reg.HLD.HCTRL_LEARN = false ∨ s.dev.sampleCounts h = false ∨
      ∃ w, (s.dev.hm h).last = some w ∧ x ≤ w.1) →
    exec .holdoverSample s =
      .next (s.withDev (s.dev.setHm h { s.dev.hm h with last := some (x, (s.dev.cap h 12).stampEc) }))) ∧
  (∀ (s : State) (x : Nat) (w : Nat × Nat),
    let h := s.dev.lead
    let b := hldPg h
    let ec := (s.dev.cap h 12).stampEc
    let y := freqOfs (10 ^ 15) ((ec + 2 ^ 32 - w.2) % 2 ^ 32) (x - w.1) (s.dev.nomFreq h 13)
    let contradicts := s.dev.gb b Reg.HLD.HSTAT_AGED &&
      !(decide ((y - ((s.dev.hm h).aged.1 * 10 ^ 15).tdiv (2 ^ 48)).natAbs ≤ 3 * (s.dev.hm h).aged.2))
    let far := decide (1000 ≤ s.dev.g b Reg.HLD.LEARN_S) && decide (5 * s.dev.g b Reg.HLD.RESID < (y - s.dev.yPred h).natAbs)
    (s.dev.cap h 12).stamp0 = some x → (s.dev.hm h).last = some w → w.1 < x → s.dev.gb b Reg.HLD.HCTRL_LEARN = true →
    s.dev.sampleCounts h = true →
    ∃ t, exec .holdoverSample s = .next t ∧ t.dev.tbs = s.dev.tbs ∧ s.keepsRest t ∧
      (contradicts = true → t.dev.g b Reg.HLD.HSTAT_MODEL = 0 ∧ t.dev.g b Reg.HLD.LEARN_S = 0 ∧
        t.dev.evt b 3 = (s.dev.evt b 3).occur) ∧
      (contradicts = false → far = true →
        t.dev.g b Reg.HLD.OUTLIERS = min (s.dev.g b Reg.HLD.OUTLIERS + 1) (2 ^ 32 - 1) ∧
        (t.dev.hm h).last = some (x, ec) ∧
        s.onlyTouches { t with dev := { t.dev with hold := s.dev.hold } } [b + 0x148] []) ∧
      (contradicts = false → far = false →
        t.dev.g b Reg.HLD.LEARN_S = min (s.dev.g b Reg.HLD.LEARN_S + 1) (2 ^ 32 - 1) ∧
        t.dev.gb b Reg.HLD.HSTAT_AGED = (s.dev.gb b Reg.HLD.HSTAT_AGED && decide ((s.dev.hm h).agedRun + 1 < 1000)) ∧
        (t.dev.hm h).fresh = true ∧ (t.dev.hm h).y = y ∧ (t.dev.hm h).last = some (x, ec) ∧ (t.dev.hm h).fitAt = some x ∧
        s.onlyTouches { t with dev := { t.dev with hold := s.dev.hold } } [b + 0x118, b + 0x140] [])) ∧
  (∀ s : State, (s.dev.hm s.dev.lead).fresh = true →
    ∃ t, exec .modelUpdate s = .next t ∧ t.dev.g (hldPg s.dev.lead) Reg.HLD.HSTAT_MODEL = s.dev.modelLevel s.dev.lead ∧
      (s.dev.outOfService s.dev.lead.other = false → (t.dev.hm s.dev.lead.other).copyDue = true) ∧
      (t.dev.hm s.dev.lead).fresh = false ∧ t.dev.tbs = s.dev.tbs ∧ s.keepsRest t) ∧
  (∀ s : State, (s.dev.hm s.dev.lead).fresh = false → exec .modelUpdate s = .next s) ∧
  (∀ (m : Master) (h : Half) (s : State), s.writable m (hldPg h + 0x100) → h = .warp ∨ s.dev.outOfService .warp = true →
    ∃ t, exec (.modelReset m h) s = .next t ∧
      (∀ g, s.dev.outOfService g = false → (s.dev.loop g 0).holdAt = none → t.dev.g (hldPg g) Reg.HLD.HSTAT_MODEL = 0 ∧
        t.dev.g (hldPg g) Reg.HLD.LEARN_S = 0 ∧ t.dev.evt (hldPg g) 3 = (s.dev.evt (hldPg g) 3).occur) ∧
      (∀ g, s.dev.outOfService g = false → (s.dev.loop g 0).holdAt.isSome = true → (t.dev.hm g).resetPd = true ∧
        ∀ o ∈ modelOffsets, t.dev.w (hldPg g + o) = s.dev.w (hldPg g + o)) ∧
      t.dev.tbs = s.dev.tbs ∧ s.keepsRest t) ∧
  (∀ (m : Master) (s : State), s.writable m (hldPg .weft + 0x100) → s.dev.outOfService .warp = false →
    ∃ t, exec (.modelReset m .weft) s = .next t ∧ s.onlyTouches t [] []) ∧
  ∀ (w : FlashEnd) (s : State),
    (s.dev.coresRun s.dev.lead = true →
      ∃ t, exec (.modelSave w) s = .next t ∧ t.nv.model = (if s.nv.takes w then some s.dev.modelWords else s.nv.model) ∧
        { t.nv with model := s.nv.model } = s.nv ∧ t.dev = s.dev.wroteFlash w ∧ t.pending = s.pending) ∧
    (s.dev.coresRun s.dev.lead = false → exec (.modelSave w) s = .next s)

/-- A sensor that answers is taken and one that TSEL no longer selects is forgotten, TEMP is the mean of those left, and a
loop in holdover keeps the greatest excursion (R168, R171). Each second firmware publishes class, stratum and reference ID of
every timebase by R174 and R343 as the deciding half gives them, with its published bound; the other half takes the model
that waits for it (R167), and the second's measurement latch is planned (R240). It says where TEMP_READ and PUBLISH_VALUES
complete. -/
def Obligations.TemperaturesAndPublishedValues : Prop :=
  (∀ (reads : List (Option Int)) (s : State),
    ∃ t, exec (.tempRead reads) s = .next t ∧
      (∀ h, ∀ i < 4, ∀ v, bitAt (s.dev.g (hldPg h) Reg.HLD.HCTRL_TSEL) i = true → (reads[i]?).join = some v →
        Tab.find? (t.dev.hm h).sensors i = some (some v, 0)) ∧
      (∀ h, ∀ i < 4, bitAt (s.dev.g (hldPg h) Reg.HLD.HCTRL_TSEL) i = false → Tab.find? (t.dev.hm h).sensors i = none) ∧
      (∀ h v, tempMean (t.dev.hm h).sensors = some v → t.dev.g (hldPg h) Reg.HLD.TEMP = unsignedOf 32 v ∧
        ∀ k < 16, (s.dev.loop h k).holdAt.isSome = true → (t.dev.loop h k).dtMax =
          max (s.dev.loop h k).dtMax (v - s.dev.gs (hldPg h) Reg.HLD.TREF).natAbs) ∧
      s.onlyTouches { t with dev := { t.dev with hold := s.dev.hold, loops := s.dev.loops } }
        [hldPg .warp + 0x14C, hldPg .weft + 0x14C] [hldPg .warp + 5, hldPg .weft + 5]) ∧
  ∀ s : State,
    let o := s.dev.lead.other
    ∃ t, exec .publishValues s = .next t ∧
      (∀ n < 16, (t.dev.pub n).cls = (s.dev.classRow s.dev.lead n).1 ∧ (t.dev.pub n).stratum = (s.dev.classRow s.dev.lead n).2.2 ∧
        (t.dev.pub n).refid = s.dev.refIdRow s.dev.lead n (s.dev.classRow s.dev.lead n).2.2 ∧
        (t.dev.pub n).bound = s.dev.published s.dev.lead n) ∧
      (∀ h, t.dev.g (hldPg h) Reg.HLD.HSTAT_CLASS = (s.dev.classRow s.dev.lead 0).1 % 256) ∧
      ((s.dev.hm o).copyDue = true → s.dev.outOfService o = false → (t.dev.hm o).copyDue = false ∧
        t.dev.g (hldPg o) Reg.HLD.HSTAT_MODEL = s.dev.g (hldPg s.dev.lead) Reg.HLD.HSTAT_MODEL ∧
        ∀ x ∈ modelOffsets, t.dev.w (hldPg o + x) = s.dev.w (hldPg s.dev.lead + x)) ∧
      (s.dev.gnssOn = true → s.dev.coresRun s.dev.lead = true →
        t.dev.ttaArmed s.dev.lead 60 = true ∧ t.dev.ttaKind s.dev.lead 60 = 7) ∧
      (∀ h, ∀ n < 16, t.dev.count h n = s.dev.count h n) ∧ s.keepsRest t

/-! ### Synthesis, outputs, the DAC port -/

/-- Without edges both synthesis loops of a half go to NO_LO with LO_LOST (R181); the steered loop searches again when they
return (R181), on RELOCK, and after a loss of lock, which is counted with APL_UNLOCK (R183); a search ends in its band or in
the one stored, and 150 µs later lock is declared and counted with APL_LOCKED, or fails with APL_LOCK_FAIL: the first failure
searches again, the second leaves the loop FAILED (R183, R184). A fixed loop that loses lock searches too (R180). In any
other state, and before its time, each of these changes nothing. It says where LO_LOST, LO_RETURN, RELOCK, BAND_SELECT,
LOCK_DECLARE and LOSS_OF_LOCK complete. -/
def Obligations.SynthesisLoopsLoseAndRegainLock : Prop :=
  (∀ (h : Half) (s : State),
    ∃ t, exec (.loLost h) s = .next t ∧ t.dev.aplState h 0 = 3 ∧ t.dev.aplState h 1 = 3 ∧
      (∀ j < 2, t.dev.evt (aplPg h) (aplEvt j 4) =
        if s.dev.aplState h j = 3 then s.dev.evt (aplPg h) (aplEvt j 4) else (s.dev.evt (aplPg h) (aplEvt j 4)).occur) ∧
      t.dev.tbs = s.dev.tbs ∧
      s.keepsRest t) ∧
  (∀ (h : Half) (s : State), s.dev.aplState h 1 = 3 →
    ∃ t, exec (.loReturn h) s = .next t ∧ t.dev.aplState h 1 = 0 ∧ (t.dev.apl h 1).t0 = s.dev.now ∧
      (t.dev.apl h 1).stored = none ∧ t.dev.apl h 0 = s.dev.apl h 0 ∧
      s.onlyTouches { t with dev := { t.dev with apls := s.dev.apls } } ((aplBase h 1 + 0x10) :: outStatWords h) (outEvents h)) ∧
  (∀ (m : Master) (h : Half) (s : State), s.writable m (aplBase h 1) → s.dev.aplState h 1 ≠ 3 →
    ∃ t, exec (.relock m h) s = .next t ∧ t.dev.aplState h 1 = 0 ∧ (t.dev.apl h 1).t0 = s.dev.now ∧
      (t.dev.apl h 1).stored = none ∧ t.dev.apl h 0 = s.dev.apl h 0 ∧
      s.onlyTouches { t with dev := { t.dev with apls := s.dev.apls } } ((aplBase h 1 + 0x10) :: outStatWords h) (outEvents h)) ∧
  (∀ (m : Master) (h : Half) (s : State), s.writable m (aplBase h 1) → s.dev.aplState h 1 = 3 →
    ∃ t, exec (.relock m h) s = .next t ∧ s.onlyTouches t [] []) ∧
  (∀ (h : Half) (j : Fin 2) (ok : Bool) (band : Fin 64) (s : State),
    (s.dev.aplState h 1 ≠ 3 → exec (.loReturn h) s = .next s) ∧
    (s.dev.aplState h 1 ≠ 0 ∨ (s.dev.apl h 1).stored.isSome = true ∧ s.dev.now < (s.dev.apl h 1).t0 + 250 →
      exec (.bandSelect h band) s = .next s) ∧
    (s.dev.aplState h 1 ≠ 1 ∨ s.dev.now < (s.dev.apl h 1).t0 + 37500 → exec (.lockDeclare h ok) s = .next s) ∧
    (s.dev.aplState h j.val ≠ 2 → exec (.lossOfLock h j) s = .next s)) ∧
  (∀ (h : Half) (s : State), s.dev.aplState h 1 = 1 → (s.dev.apl h 1).t0 + 37500 ≤ s.dev.now →
    ∃ t, exec (.lockDeclare h false) s = .next t ∧
      t.dev.evt (aplPg h) (aplEvt 1 2) = (s.dev.evt (aplPg h) (aplEvt 1 2)).occur ∧
      ((s.dev.apl h 1).second = true → t.dev.aplState h 1 = 4) ∧
      ((s.dev.apl h 1).second = false → t.dev.aplState h 1 = 0 ∧ (t.dev.apl h 1).second = true ∧
        (t.dev.apl h 1).stored = none ∧ (t.dev.apl h 1).t0 = s.dev.now) ∧ t.dev.tbs = s.dev.tbs ∧ s.keepsRest t) ∧
  (∀ (h : Half) (band : Fin 64) (s : State), s.dev.aplState h 1 = 0 →
    (s.dev.apl h 1).stored = none ∨ (s.dev.apl h 1).t0 + 250 ≤ s.dev.now →
    ∃ t, exec (.bandSelect h band) s = .next t ∧ t.dev.aplState h 1 = 1 ∧
      t.dev.g (aplBase h 1) Reg.APL.LSTAT_BAND = (s.dev.apl h 1).stored.getD band.val % 64 ∧
      (t.dev.apl h 1).t0 = s.dev.now ∧ (t.dev.apl h 1).cNum = s.dev.ratioNum h ∧
      s.onlyTouches { t with dev := { t.dev with apls := s.dev.apls } }
        ((aplBase h 1 + 0x10) :: (List.range 16).map (hopAt h 1)) []) ∧
  (∀ (h : Half) (s : State), s.dev.aplState h 1 = 1 → (s.dev.apl h 1).t0 + 37500 ≤ s.dev.now →
    ∃ t, exec (.lockDeclare h true) s = .next t ∧ t.dev.aplState h 1 = 2 ∧
      t.dev.g (aplBase h 1) Reg.APL.LOCKCNT_LOCKS = (s.dev.g (aplBase h 1) Reg.APL.LOCKCNT_LOCKS + 1) % 2 ^ 16 ∧
      t.dev.evt (aplPg h) (aplEvt 1 0) = (s.dev.evt (aplPg h) (aplEvt 1 0)).occur ∧
      s.onlyTouches { t with dev := { t.dev with apls := s.dev.apls } }
        ((aplBase h 1 + 0x10) :: (aplBase h 1 + 0x18) :: outStatWords h)
        ((aplPg h + aplEvt 1 0) :: (aplPg h + aplEvt 1 3) :: outEvents h)) ∧
  ∀ (h : Half) (j : Fin 2) (s : State), s.dev.aplState h j.val = 2 →
    ∃ t, exec (.lossOfLock h j) s = .next t ∧ t.dev.aplState h j.val = 0 ∧
      t.dev.g (aplBase h j.val) Reg.APL.LOCKCNT_UNLOCKS = (s.dev.g (aplBase h j.val) Reg.APL.LOCKCNT_UNLOCKS + 1) % 2 ^ 16 ∧
      t.dev.evt (aplPg h) (aplEvt j.val 1) = (s.dev.evt (aplPg h) (aplEvt j.val 1)).occur ∧ t.dev.tbs = s.dev.tbs ∧
      s.keepsRest t

/-- A hop or a written M that the loop may not use raises APL_REFUSED alone (R185); one it may use is loaded as a whole, and
a hop re-locks, on the stored band where one is valid, as a written M does beyond the window (R182, R185); without a local
oscillator both load alone. EN starts an output's grid at the next second boundary of its timebase and ends a stopped
condition, or written as it is keeps the grid; cleared, it gates the output, which runs on only through a high phase (R50,
R187, R189, R565). It says where HOP, M_WRITE and OUT_EN_WRITE complete. -/
def Obligations.RatiosAreLoadedWholeAndOutputsSwitch : Prop :=
  (∀ (m : Master) (h : Half) (s : State), s.writable m (aplBase h 0) →
    ∃ t, exec (.hop m h 0) s = .next t ∧ t.dev.evt (aplPg h) (aplEvt 0 5) = (s.dev.evt (aplPg h) (aplEvt 0 5)).occur ∧
      s.onlyTouches t [] [aplPg h + aplEvt 0 5]) ∧
  (∀ (m : Master) (h : Half) (s : State), s.writable m (aplBase h 1) →
    let e := hopAt h 1 (s.dev.g (aplBase h 1) Reg.APL.LCTRL_HOP_IDX)
    bitAt (s.dev.w e) 31 = true → s.dev.ratioBad h (s.dev.w e % 2 ^ 12) (s.dev.w (e + 4)) (s.dev.w (e + 8)) = false →
    ∃ t, exec (.hop m h 1) s = .next t ∧ t.dev.aplState h 1 = (if s.dev.aplState h 1 = 3 then 3 else 0) ∧
      (t.dev.apl h 1).mint = s.dev.w e % 2 ^ 12 ∧
      (t.dev.apl h 1).mnum = s.dev.w (e + 4) ∧ (t.dev.apl h 1).mden = s.dev.w (e + 8) ∧
      (s.dev.aplState h 1 ≠ 3 →
        (t.dev.apl h 1).stored = if bitAt (s.dev.w e) 30 then some (getBits (s.dev.w e) 16 6) else none) ∧
      t.dev.tbs = s.dev.tbs ∧ s.keepsRest t) ∧
  (∀ (m : Master) (h : Half) (s : State), s.writable m (aplBase h 1) →
    let e := hopAt h 1 (s.dev.g (aplBase h 1) Reg.APL.LCTRL_HOP_IDX)
    bitAt (s.dev.w e) 31 = false ∨ s.dev.ratioBad h (s.dev.w e % 2 ^ 12) (s.dev.w (e + 4)) (s.dev.w (e + 8)) = true →
    ∃ t, exec (.hop m h 1) s = .next t ∧ t.dev.evt (aplPg h) (aplEvt 1 5) = (s.dev.evt (aplPg h) (aplEvt 1 5)).occur ∧
      s.onlyTouches t [] [aplPg h + aplEvt 1 5]) ∧
  (∀ (m : Master) (h : Half) (v : Word) (s : State), s.writable m (aplPg h + 0x30C) →
    s.dev.ratioBad h (v.toNat % 2 ^ 12) (s.dev.g (aplBase h 1) Reg.APL.M_NUM) (s.dev.g (aplBase h 1) Reg.APL.M_DEN) = true →
    ∃ t, exec (.mWrite m h v) s = .next t ∧ t.dev.evt (aplPg h) (aplEvt 1 5) = (s.dev.evt (aplPg h) (aplEvt 1 5)).occur ∧
      s.onlyTouches t [] [aplPg h + aplEvt 1 5]) ∧
  (∀ (m : Master) (h : Half) (v : Word) (s : State), s.writable m (aplPg h + 0x30C) →
    s.dev.ratioBad h (v.toNat % 2 ^ 12) (s.dev.g (aplBase h 1) Reg.APL.M_NUM) (s.dev.g (aplBase h 1) Reg.APL.M_DEN) = false →
    let p := s.dev.putRatio h (v.toNat % 2 ^ 12) (s.dev.g (aplBase h 1) Reg.APL.M_NUM) (s.dev.g (aplBase h 1) Reg.APL.M_DEN)
    ∃ t, exec (.mWrite m h v) s = .next t ∧ (t.dev.apl h 1).mint = v.toNat % 2 ^ 12 ∧
      t.dev.aplState h 1 = (if s.dev.aplState h 1 = 3 then 3 else if 50000 < (p.devWant h).natAbs then 0 else s.dev.aplState h 1) ∧
      (t.dev.apl h 1).mnum = s.dev.g (aplBase h 1) Reg.APL.M_NUM ∧ (t.dev.apl h 1).mden = s.dev.g (aplBase h 1) Reg.APL.M_DEN ∧
      t.dev.tbs = s.dev.tbs ∧ s.keepsRest t) ∧
  (∀ (m : Master) (h : Half) (o : Fin 12) (s : State), s.writable m (outO h (o.val / 8) (o.val % 8)) →
    s.dev.gb (outO h (o.val / 8) (o.val % 8)) Reg.OUT.CFG_EN = false ∨ (s.dev.out h (o.val / 8) (o.val % 8)).stopped = true →
    ∃ t, exec (.outEnWrite m h o true) s = .next t ∧ t.dev.gb (outO h (o.val / 8) (o.val % 8)) Reg.OUT.CFG_EN = true ∧
      (t.dev.out h (o.val / 8) (o.val % 8)).stopped = false ∧
      (t.dev.out h (o.val / 8) (o.val % 8)).anchor = (s.dev.sec h (s.dev.outTb h (o.val / 8) (o.val % 8)) + 1) * secFrac ∧
      s.onlyTouches { t with dev := { t.dev with outs := s.dev.outs } } (outO h (o.val / 8) (o.val % 8) :: outStatWords h)
        (outEvents h)) ∧
  (∀ (m : Master) (h : Half) (o : Fin 12) (s : State), s.writable m (outO h (o.val / 8) (o.val % 8)) →
    s.dev.gb (outO h (o.val / 8) (o.val % 8)) Reg.OUT.CFG_EN = true → (s.dev.out h (o.val / 8) (o.val % 8)).stopped = false →
    ∃ t, exec (.outEnWrite m h o true) s = .next t ∧ t.dev.gb (outO h (o.val / 8) (o.val % 8)) Reg.OUT.CFG_EN = true ∧
      s.onlyTouches t (outO h (o.val / 8) (o.val % 8) :: outStatWords h) (outEvents h)) ∧
  ∀ (m : Master) (h : Half) (o : Fin 12) (s : State), s.writable m (outO h (o.val / 8) (o.val % 8)) →
    ∃ t, exec (.outEnWrite m h o false) s = .next t ∧ t.dev.gb (outO h (o.val / 8) (o.val % 8)) Reg.OUT.CFG_EN = false ∧
      t.dev.gb (outO h (o.val / 8) (o.val % 8)) Reg.OUT.OSTAT_RUNNING =
        (!(s.dev.hs h).safe && (s.dev.hs h).powered && s.dev.gb (outO h (o.val / 8) (o.val % 8)) Reg.OUT.OSTAT_RUNNING &&
          s.dev.outHigh h (o.val / 8) (o.val % 8)) ∧
      s.onlyTouches t (outO h (o.val / 8) (o.val % 8) :: outStatWords h) (outEvents h)

/-- The DAC port moves its target by at most STEPMAX and within CMIN to CMAX, or is FROZEN (R193, R195); a changed code is
sent as one frame of prefix and code, at most once per millisecond (R193, R194), and a written CODE at once (R195). With EN 0
it does not steer. No count steps. It says where DAC_UPDATE, DAC_FRAME and DAC_CODE_WRITE complete. -/
def Obligations.DacPortSteersWithinLimits : Prop :=
  (∀ (h : Half) (s : State), s.dev.en (aplPg h) (aplPg h) Reg.APL.DCTRL_EN = true → s.dev.dacFrozen h = false →
    let lo : Int := (s.dev.g (aplPg h) Reg.APL.CMIN * 2 ^ 32 : Nat)
    let hi : Int := (s.dev.g (aplPg h) Reg.APL.CMAX * 2 ^ 32 : Nat)
    let was := (s.dev.dac h).target (s.dev.g (aplPg h) Reg.APL.CODE)
    ∃ t a, exec (.dacUpdate h) s = .next t ∧ t.dev.gb (aplPg h) Reg.APL.DSTAT_FROZEN = false ∧ (t.dev.dac h).acc = some a ∧
      (lo ≤ hi → lo ≤ a ∧ a ≤ hi) ∧
      (lo ≤ was → was ≤ hi → (a - was).natAbs ≤ max 1 (s.dev.g (aplPg h) Reg.APL.DFRAME_STEPMAX) * 2 ^ 32) ∧
      t.dev.gb (aplPg h) Reg.APL.DSTAT_AT_LIMIT = decide (a = lo ∨ a = hi) ∧ t.dev.dac h.other = s.dev.dac h.other ∧
      s.onlyTouches { t with dev := { t.dev with dacs := s.dev.dacs } } [aplPg h + 0x518] [aplPg h + 16]) ∧
  (∀ (h : Half) (s : State), s.dev.en (aplPg h) (aplPg h) Reg.APL.DCTRL_EN = true → s.dev.dacFrozen h = true →
    ∃ t, exec (.dacUpdate h) s = .next t ∧ t.dev.gb (aplPg h) Reg.APL.DSTAT_FROZEN = true ∧
      s.onlyTouches t [aplPg h + 0x518] []) ∧
  (∀ (h : Half) (s : State), s.dev.en (aplPg h) (aplPg h) Reg.APL.DCTRL_EN = false →
    exec (.dacUpdate h) s = .next s ∧ exec (.dacFrame h) s = .next s) ∧
  (∀ (h : Half) (s : State), s.dev.en (aplPg h) (aplPg h) Reg.APL.DCTRL_EN = true → s.dev.dacFrozen h = false →
    let code := ((s.dev.dac h).target (s.dev.g (aplPg h) Reg.APL.CODE) / 2 ^ 32).toNat % 2 ^ 24
    code ≠ s.dev.g (aplPg h) Reg.APL.CODE → (∀ x, (s.dev.dac h).at_ = some x → x + 250000 ≤ s.dev.now) →
    ∃ t, exec (.dacFrame h) s = .next t ∧ t.dev.g (aplPg h) Reg.APL.CODE = code ∧
      (t.dev.dac h).frame = some (s.dev.dacBits h code) ∧ (t.dev.dac h).at_ = some s.dev.now ∧
      (t.dev.dac h).acc = (s.dev.dac h).acc ∧ (∀ g, ∀ n < 16, t.dev.count g n = s.dev.count g n) ∧ s.keepsRest t) ∧
  (∀ (h : Half) (s : State), (s.dev.dacFrozen h = true ∨
      ((s.dev.dac h).target (s.dev.g (aplPg h) Reg.APL.CODE) / 2 ^ 32).toNat % 2 ^ 24 = s.dev.g (aplPg h) Reg.APL.CODE ∨
      ∃ x, (s.dev.dac h).at_ = some x ∧ s.dev.now < x + 250000) →
    exec (.dacFrame h) s = .next s) ∧
  ∀ (m : Master) (h : Half) (v : BitVec 24) (s : State), s.writable m (aplPg h + 0x514) →
    ∃ t, exec (.dacCodeWrite m h v) s = .next t ∧ t.dev.g (aplPg h) Reg.APL.CODE = v.toNat ∧
      (t.dev.dac h).frame = some (s.dev.dacBits h v.toNat) ∧ (t.dev.dac h).acc = some ((v.toNat * 2 ^ 32 : Nat) : Int) ∧
      (∀ g, ∀ n < 16, t.dev.count g n = s.dev.count g n) ∧ s.keepsRest t

/-! ### The bound engine -/

/-- A sample takes every local bound of a running half: under basis LOCKED the sum of R200, raised to the held bound, and SAT
says that it is unbounded (R205). A completed exchange takes both halves' sets, and an incomplete one counts a failure (R206,
R208). After a completed one the epoch opens with max plus skew in both halves under one number (R206); after a first failure
none opens, and from the second on each half opens it with its own bounds, BND_EXCH_LOST raised at the second (R208); where
the halves did not both take part each serving one opens it with its own (R207). CHAEF_SIGN answers the record signed with
the key of KS1 and counts it, is not permitted without a usable key, and is busy beyond the rate (R212, R213, R215). It says
where BOUND_SAMPLE, BOUND_EXCHANGE, EPOCH_OPEN and CHAEF_SIGN complete. -/
def Obligations.BoundsAreSampledExchangedAndSigned : Prop :=
  (∀ (h : Half) (n : Fin 16) (s : State), s.dev.loopsRun h = true →
    ∃ t, exec .boundSample s = .next t ∧
      t.dev.gb (bndN h n.val) Reg.BND.BSTAT_SAT = decide (t.dev.local_ h n.val = unbounded) ∧
      (t.dev.gb (bndN h n.val) Reg.BND.BSTAT_HELD_ACT = true → t.dev.g (bndN h n.val) Reg.BND.HELD ≤ t.dev.local_ h n.val) ∧
      (t.dev.g (bndN h n.val) Reg.BND.BSTAT_BASIS = 1 → t.dev.local_ h n.val =
        if t.dev.gb (bndN h n.val) Reg.BND.BSTAT_HELD_ACT then
          max (t.dev.coreSum h n.val (t.dev.evalAt h)) (t.dev.g (bndN h n.val) Reg.BND.HELD)
        else t.dev.coreSum h n.val (t.dev.evalAt h)) ∧
      (∀ g, ∀ k < 16, t.dev.published g k = s.dev.published g k) ∧ t.dev.tbs = s.dev.tbs ∧ s.keepsRest t) ∧
  (∀ (h : Half) (n : Fin 16) (s : State), s.dev.loopsRun h = false →
    ∃ t, exec .boundSample s = .next t ∧ t.dev.local_ h n.val = s.dev.local_ h n.val ∧ s.keepsRest t) ∧
  (∀ s : State, s.dev.boundServes .warp = true → s.dev.boundServes .weft = true →
    (∃ t, exec (.boundExchange true) s = .next t ∧ t.dev.exch.fails = 0 ∧ t.dev.exch.joint = true ∧
      (∃ x, t.dev.exch.set = some x ∧ ∀ n < 16, x.warp[n]? = some (s.dev.local_ .warp n) ∧ x.weft[n]? = some (s.dev.local_ .weft n) ∧
        x.skew[n]? = some (s.dev.skewCeil .warp n)) ∧
      { t.dev with exch := s.dev.exch } = s.dev ∧ s.keepsRest t) ∧
    ∃ t, exec (.boundExchange false) s = .next t ∧ t.dev.exch.set = none ∧ t.dev.exch.fails = s.dev.exch.fails + 1 ∧
      t.dev.exch.joint = true ∧ { t.dev with exch := s.dev.exch } = s.dev ∧ s.keepsRest t) ∧
  (∀ (ok : Bool) (s : State), s.dev.boundServes .warp = false ∨ s.dev.boundServes .weft = false →
    ∃ t, exec (.boundExchange ok) s = .next t ∧ t.dev.exch.set = none ∧ t.dev.exch.fails = 0 ∧ t.dev.exch.joint = false ∧
      { t.dev with exch := s.dev.exch } = s.dev ∧ s.keepsRest t) ∧
  (∀ (s : State) (x : BndSet), s.dev.exch.joint = true → s.dev.boundServes .warp = true → s.dev.boundServes .weft = true →
    s.dev.exch.set = some x →
    ∃ t, exec .epochOpen s = .next t ∧
      (∀ h, t.dev.g (bndPg h) Reg.BND.EPOCH_NUM = (s.dev.g (bndPg .warp) Reg.BND.EPOCH_NUM + 1) % 2 ^ 16 ∧
        t.dev.gb (bndPg h) Reg.BND.EPOCH_EXCH_OK = true ∧
        ∀ n < 16, t.dev.published h n = joinBound ((x.warp[n]?).getD unbounded) ((x.weft[n]?).getD unbounded)
          ((x.skew[n]?).getD 0)) ∧
      t.dev.tbs = s.dev.tbs ∧ s.keepsRest t) ∧
  (∀ s : State, s.dev.exch.joint = true → s.dev.boundServes .warp = true → s.dev.boundServes .weft = true →
    s.dev.exch.set = none →
    ∃ t, exec .epochOpen s = .next t ∧
      (s.dev.exch.fails < 2 → ∀ h, t.dev.g (bndPg h) Reg.BND.EPOCH_NUM = s.dev.g (bndPg h) Reg.BND.EPOCH_NUM ∧
        ∀ n < 16, t.dev.published h n = s.dev.published h n) ∧
      (2 ≤ s.dev.exch.fails → ∀ h, t.dev.g (bndPg h) Reg.BND.EPOCH_NUM = (s.dev.g (bndPg .warp) Reg.BND.EPOCH_NUM + 1) % 2 ^ 16 ∧
        t.dev.gb (bndPg h) Reg.BND.EPOCH_EXCH_OK = false ∧ (∀ n < 16, t.dev.published h n = s.dev.local_ h n) ∧
        (s.dev.exch.fails = 2 → t.dev.evt (bndPg h) 16 = (s.dev.evt (bndPg h) 16).occur)) ∧
      t.dev.tbs = s.dev.tbs ∧ s.keepsRest t) ∧
  (∀ s : State, s.dev.exch.joint = false ∨ s.dev.boundServes .warp = false ∨ s.dev.boundServes .weft = false →
    ∃ t, exec .epochOpen s = .next t ∧
      (∀ h, s.dev.boundServes h = true →
        t.dev.g (bndPg h) Reg.BND.EPOCH_NUM = (s.dev.g (bndPg s.dev.epochHalf) Reg.BND.EPOCH_NUM + 1) % 2 ^ 16 ∧
        ∀ n < 16, t.dev.published h n = s.dev.local_ h n) ∧
      (∀ h, s.dev.boundServes h = false → ∀ n < 16, t.dev.published h n = s.dev.published h n) ∧
      t.dev.tbs = s.dev.tbs ∧ s.keepsRest t) ∧
  (∀ (b : Fin 4) (s : State) (c : FwCmd),
    let h := mbxHalf b.val
    let st := s.dev.chaef.of h
    let sec := s.dev.sec .warp 0
    (s.dev.mb b.val).waiting 0x0140 = some c → s.dev.coresRun h = true →
    c.len = 5 → (s.dev.slot h 1).valid = true → s.dev.keysOff h = false → s.dev.bootsOk = true → st.seq < 0xFFFFFFFF →
    (if st.sec = sec then st.n else 0) < s.dev.attRate h sec →
    let body := s.dev.chaefBody h ((c.req[0]?.getD 0).toNat % 16) s.nv.boots (st.seq + 1) (bytesOfWords (c.req.drop 1))
    ∃ t, exec (.chaefSign b) s = .next t ∧
      s.finished t b.val c codeOK (wordsOfBytes (body ++ Config.edSign (s.dev.slot h 1).key body)) ∧
      (t.dev.chaef.of h).seq = st.seq + 1 ∧
      t.dev.g (bndPg h) Reg.BND.ATTCNT_SIGNED = (s.dev.g (bndPg h) Reg.BND.ATTCNT_SIGNED + 1) % 2 ^ 16 ∧
      t.dev.tbs = s.dev.tbs ∧ s.dev.sameEvents t.dev [] ∧ s.keepsRest t) ∧
  (∀ (b : Fin 4) (s : State) (c : FwCmd),
    let h := mbxHalf b.val
    let st := s.dev.chaef.of h
    let bad := !(s.dev.slot h 1).valid || s.dev.keysOff h || !s.dev.bootsOk || decide (0xFFFFFFFF ≤ st.seq)
    (s.dev.mb b.val).waiting 0x0140 = some c → s.dev.coresRun h = true → c.len ≠ 5 ∨ bad = true →
    ∃ t, exec (.chaefSign b) s = .next t ∧ s.finished t b.val c (if c.len = 5 then codeNotPermitted else codeBadLen) [] ∧
      s.onlyTouches { t with dev := { t.dev with mbx := s.dev.mbx } } [] []) ∧
  (∀ (b : Fin 4) (s : State) (c : FwCmd),
    let h := mbxHalf b.val
    let st := s.dev.chaef.of h
    let sec := s.dev.sec .warp 0
    (s.dev.mb b.val).waiting 0x0140 = some c → s.dev.coresRun h = true →
    c.len = 5 → (s.dev.slot h 1).valid = true → s.dev.keysOff h = false → s.dev.bootsOk = true → st.seq < 0xFFFFFFFF →
    s.dev.attRate h sec ≤ (if st.sec = sec then st.n else 0) →
    ∃ t, exec (.chaefSign b) s = .next t ∧ s.finished t b.val c codeBusy [] ∧
      t.dev.g (bndPg h) Reg.BND.ATTCNT_REFUSED = (s.dev.g (bndPg h) Reg.BND.ATTCNT_REFUSED + 1) % 2 ^ 16 ∧
      s.onlyTouches { t with dev := { t.dev with mbx := s.dev.mbx } } [bndPg h + 0x30C] []) ∧
  ∀ (b : Fin 4) (s : State), (s.dev.mb b.val).waiting 0x0140 = none ∨ s.dev.coresRun (mbxHalf b.val) = false →
    exec (.chaefSign b) s = .next s

/-! ### The GNSS baseband and time solution -/

/-- A band clock that fails a condition lets its channels COAST with GNSS_CLK_LOST, and one with edges whose conditions have held for 1
ms pulls them in again (R222); dropped samples are counted and flagged, and the integration period of a pass in which they
fall is discarded (R224); LEVEL is measured, and DUTY moves toward TARGET only with AGC_EN (R226); JN at or above JTHR warns
(R227). No timebase and no channel of another band changes. A command whose condition does not hold, of a band that is off or
without samples changes nothing. It says where BAND_CLK_LOST, BAND_CLK_OK, BAND_FIFO_DROP, AGC_UPDATE and JAM_UPDATE
complete. -/
def Obligations.BandsFollowTheirClocksAndLevels : Prop :=
  (∀ (b : Fin 4) (s : State), s.dev.gb (gnfB b.val) Reg.GNF.BSTAT_CLK_OK = true → s.dev.gnssOn = true →
    s.dev.bandGood b.val = false →
    ∃ t, exec (.bandClkLost b) s = .next t ∧ t.dev.gb (gnfB b.val) Reg.GNF.BSTAT_CLK_OK = false ∧
      t.dev.evt gnfPg (4 * b.val) = (s.dev.evt gnfPg (4 * b.val)).occur ∧
      (∀ c < 256, t.dev.chState c =
        if s.dev.chBand c = b.val ∧ 1 ≤ s.dev.chState c ∧ s.dev.chState c ≤ 3 then 4 else s.dev.chState c) ∧
      t.dev.tbs = s.dev.tbs ∧ s.keepsRest t) ∧
  (∀ (b : Fin 4) (s : State), s.dev.gb (gnfB b.val) Reg.GNF.BSTAT_CLK_OK = false ∨ s.dev.gnssOn = false ∨
    s.dev.bandGood b.val = true → exec (.bandClkLost b) s = .next s) ∧
  (∀ (b : Fin 4) (x : Nat) (s : State), s.dev.gb (gnfB b.val) Reg.GNF.BSTAT_CLK_OK = false → s.dev.bandOn b.val = true →
    s.dev.gnssOn = true → (s.dev.band b.val).goodAt = some x → x + 250000 ≤ s.dev.now → s.dev.bandGood b.val = true →
    ∃ t, exec (.bandClkOk b true) s = .next t ∧ t.dev.gb (gnfB b.val) Reg.GNF.BSTAT_CLK_OK = true ∧
      (∀ c < 256, t.dev.chState c = if s.dev.chBand c = b.val ∧ s.dev.chState c = 4 then 1 else s.dev.chState c) ∧
      t.dev.tbs = s.dev.tbs ∧ s.keepsRest t) ∧
  (∀ (b : Fin 4) (edges : Bool) (s : State), s.dev.gb (gnfB b.val) Reg.GNF.BSTAT_CLK_OK = true ∨ s.dev.bandOn b.val = false ∨
    s.dev.gnssOn = false ∨ edges = false ∨ (∀ x, (s.dev.band b.val).goodAt = some x → s.dev.now < x + 250000) ∨ s.dev.bandGood b.val = false →
    exec (.bandClkOk b edges) s = .next s) ∧
  (∀ (b : Fin 4) (n : Nat) (s : State), s.dev.bandOn b.val = true → s.dev.gnssOn = true → 0 < n →
    ∃ t, exec (.bandFifoDrop b n) s = .next t ∧
      t.dev.g (gnfB b.val) Reg.GNF.DROPS = min 0xFFFFFFFF (s.dev.g (gnfB b.val) Reg.GNF.DROPS + n) ∧
      t.dev.evt gnfPg (4 * b.val + 3) = (s.dev.evt gnfPg (4 * b.val + 3)).occur ∧
      (∀ c < 256, s.dev.chBand c = b.val → 1 ≤ s.dev.chState c → s.dev.chState c ≤ 3 → (t.dev.chan c).drop = true) ∧
      (∀ r, s.dev.acq.run = some r → r.job.band = b.val → r.start ≤ s.dev.gnssMs →
        ∃ q, t.dev.acq.run = some q ∧ (s.dev.gnssMs - r.start) / max 1 r.job.tc ∈ q.lost) ∧
      (∀ c < 256, t.dev.chState c = s.dev.chState c) ∧ t.dev.tbs = s.dev.tbs ∧ s.keepsRest t) ∧
  (∀ (b : Fin 4) (n : Nat) (s : State), s.dev.bandOn b.val = false ∨ s.dev.gnssOn = false ∨ n = 0 →
    exec (.bandFifoDrop b n) s = .next s) ∧
  (∀ (b : Fin 4) (samples : List Byte) (s : State), s.dev.bandOn b.val = true → s.dev.gnssOn = true → samples ≠ [] →
    let level := s.dev.levelOf b.val samples
    let want := s.dev.g (gnfB b.val) Reg.GNF.AGC_TARGET
    let duty := s.dev.g (gnfB b.val) Reg.GNF.BSTAT_DUTY
    let tc := min 10 (s.dev.g (gnfB b.val) Reg.GNF.AGC_TC)
    ∃ t, exec (.agcUpdate b samples) s = .next t ∧ t.dev.g (gnfB b.val) Reg.GNF.JLVL_LEVEL = level ∧
      t.dev.g (gnfB b.val) Reg.GNF.BSTAT_DUTY =
        (if s.dev.en gnfPg (gnfB b.val) Reg.GNF.BCFG_AGC_EN = false ∨ level = want then duty
         else if level < want then min 1023 (duty + Config.agcStep (want - level) tc)
         else duty - Config.agcStep (level - want) tc) ∧
      s.onlyTouches t [gnfB b.val + 0x14, gnfB b.val + 0x18] []) ∧
  (∀ (b : Fin 4) (samples : List Byte) (second : Option (List Byte)) (s : State), s.dev.bandOn b.val = false ∨
    s.dev.gnssOn = false ∨ samples = [] →
    exec (.agcUpdate b samples) s = .next s ∧ exec (.jamUpdate b samples second) s = .next s) ∧
  ∀ (b : Fin 4) (samples : List Byte) (second : Option (List Byte)) (s : State), s.dev.bandOn b.val = true →
    s.dev.gnssOn = true → samples ≠ [] →
    ∃ t, exec (.jamUpdate b samples second) s = .next t ∧
      ((25 * s.dev.g (gnfB b.val) Reg.GNF.JAM_JTHR : Nat) ≤ signedOf 16 (t.dev.g (gnfB b.val) Reg.GNF.JLVL_JN) →
        t.dev.gb (gnfB b.val) Reg.GNF.BSTAT_JAM_WARN = true) ∧
      (second = none → (t.dev.band b.val).secs = (s.dev.band b.val).secs) ∧
      (∀ l, second = some l → (t.dev.band b.val).secs =
        ((s.dev.bandPower b.val l, s.dev.g (gnfB b.val) Reg.GNF.BSTAT_DUTY) :: (s.dev.band b.val).secs).take 60) ∧
      s.onlyTouches { t with dev := { t.dev with bands := s.dev.bands } } [gnfB b.val + 0x14, gnfB b.val + 0x18]
        [gnfPg + (4 * b.val + 1)]

/-- After 16 spectra an engaged adaptive notch moves to the strongest peak that it covers in its range while that stays above
DET − 3 dB, and the first free one of a band with none engaged takes the strongest uncovered peak of its range (R229). A
written notch register applies and flags NOTCH_CHG on the band's channels (R230). A band whose settings are written loses its
channels to IDLE whatever the write changes, and its jobs where a setting but AGC_EN changes (R234, R237, R245). It says
where SPECTRUM_AVERAGE, NOTCH_CONFIG_WRITE and BAND_CONFIG_WRITE complete. -/
def Obligations.NotchesAndBandSettingsReachChannels : Prop :=
  (∀ (b : Fin 4) (sps : List (List Nat)) (s : State), s.dev.bandOn b.val = true → s.dev.gnssOn = true →
    sps.length = 16 → (∀ l ∈ sps, l.length = 1024) →
    let sp := spectrumSum sps
    let bins := (List.range 1024).zip sp
    let det := s.dev.g (gnfB b.val) Reg.GNF.JAM_DET
    ∃ t, exec (.spectrumAverage b sps) s = .next t ∧
      (∀ (k : Fin 8) (x : Nat × Nat), s.dev.g (gnfN b.val k.val) Reg.GNF.NCFG_MODE = 2 →
        s.dev.gb (gnfN b.val k.val) Reg.GNF.NSTAT_ENGAGED = true →
        strongest (bins.filter fun y => s.dev.notchCovers b.val k.val (binFreq y.1) && s.dev.notchRange b.val k.val (binFreq y.1))
          = some x → exceeds x.2 (medianBin sp) ((det : Int) - 12) = true →
        t.dev.gb (gnfN b.val k.val) Reg.GNF.NSTAT_ENGAGED = true ∧
          t.dev.g (gnfN b.val k.val) Reg.GNF.NSTAT_F_NOW = unsignedOf 24 (binFreq x.1)) ∧
      (∀ x : Nat × Nat, (∀ k < 8, s.dev.gb (gnfN b.val k) Reg.GNF.NSTAT_ENGAGED = false) →
        s.dev.g (gnfN b.val 0) Reg.GNF.NCFG_MODE = 2 →
        strongest (bins.filter fun y =>
          exceeds y.2 (medianBin sp) det && s.dev.notchRange b.val 0 (binFreq y.1) &&
            !((List.range 8).any fun j => s.dev.notchCovers b.val j (binFreq y.1))) = some x →
        t.dev.gb (gnfN b.val 0) Reg.GNF.NSTAT_ENGAGED = true ∧
          t.dev.g (gnfN b.val 0) Reg.GNF.NSTAT_F_NOW = unsignedOf 24 (binFreq x.1)) ∧
      (∀ c < 256, t.dev.chState c = s.dev.chState c) ∧ t.dev.tbs = s.dev.tbs ∧ s.keepsRest t) ∧
  (∀ (b : Fin 4) (sps : List (List Nat)) (s : State), s.dev.bandOn b.val = false ∨ s.dev.gnssOn = false ∨ sps.length ≠ 16 ∨
    (∃ l ∈ sps, l.length ≠ 1024) → exec (.spectrumAverage b sps) s = .next s) ∧
  (∀ (m : Master) (b : Fin 4) (k : Fin 8) (r : Fin 3) (v : Word) (s : State), s.writable m (gnfN b.val k.val + 4 * r.val) →
    ∃ t, exec (.notchConfigWrite m b k r v) s = .next t ∧
      (r = 0 → t.dev.g (gnfN b.val k.val) Reg.GNF.NCFG_MODE = v.toNat % 4 ∧
        t.dev.g (gnfN b.val k.val) Reg.GNF.NCFG_WIDTH = v.toNat / 4 % 8 ∧
        (v.toNat % 4 ≠ 2 → t.dev.gb (gnfN b.val k.val) Reg.GNF.NSTAT_ENGAGED = false)) ∧
      (r = 1 → t.dev.g (gnfN b.val k.val) Reg.GNF.NFREQ = v.toNat % 2 ^ 24 ∧
        (s.dev.g (gnfN b.val k.val) Reg.GNF.NCFG_MODE = 1 →
          t.dev.g (gnfN b.val k.val) Reg.GNF.NSTAT_F_NOW = v.toNat % 2 ^ 24)) ∧
      (r = 2 → t.dev.g (gnfN b.val k.val) Reg.GNF.NRANGE = v.toNat % 2 ^ 24) ∧
      (t.dev.w (gnfN b.val k.val + 4 * r.val) ≠ s.dev.w (gnfN b.val k.val + 4 * r.val) →
        ∀ c < 256, s.dev.chBand c = b.val → 1 ≤ s.dev.chState c → s.dev.chState c ≤ 4 → (t.dev.chan c).notch = true) ∧
      (∀ c < 256, t.dev.chState c = s.dev.chState c) ∧
      s.onlyTouches { t with dev := { t.dev with chans := s.dev.chans, bands := s.dev.bands } }
        [gnfN b.val k.val + 4 * r.val, gnfN b.val k.val + 0xC] []) ∧
  ∀ (m : Master) (b : Fin 4) (r : Fin 3) (v : Word) (s : State), s.writable m (gnfB b.val + 4 * r.val) →
    ∃ t, exec (.bandConfigWrite m b r v) s = .next t ∧ (r ≠ 0 → t.dev.w (gnfB b.val + 4 * r.val) = v.toNat) ∧
      (r = 0 → t.dev.g (gnfB b.val) Reg.GNF.BCFG_EN = v.toNat % 2 ∧ t.dev.g (gnfB b.val) Reg.GNF.BCFG_FMT = v.toNat / 2 % 4 ∧
        t.dev.gb (gnfB b.val) Reg.GNF.BCFG_AGC_EN = v.toNat.testBit 5) ∧
      (∀ c < 256, t.dev.chState c = if s.dev.chBand c = b.val ∧ 1 ≤ s.dev.chState c ∧ s.dev.chState c ≤ 4 then 0
        else s.dev.chState c) ∧
      ((if r = 0 then v.toNat % 32 ≠ s.dev.w (gnfB b.val) % 32 else v.toNat ≠ s.dev.w (gnfB b.val + 4 * r.val)) →
        (∀ j ∈ t.dev.acq.queue, j.band ≠ b.val) ∧ ∀ j, t.dev.acq.run = some j → j.job.band ≠ b.val) ∧
      t.dev.tbs = s.dev.tbs ∧ s.keepsRest t

/-- A submitted job waits behind the job in progress, starts at the next millisecond where there is none, or is refused by
number with ACQ_REFUSED alone (R233); FLUSH discards what has not started (R234). At the end of a pass of the host's job a
detection is verified at the next millisecond; without one the next pass follows, and after the last the job ends with one
result (R231, R232). At the end of a verification dwell the detection may start its channel, and the job ends, at the first
with EARLY_STOP, or goes on (R232, R234); a firmware job's verified detection starts its channel at the code phase found
(R234, R235). POP frees the head result (R246). What ends too soon or has no job changes nothing. It says where ACQ_SUBMIT,
ACQ_FLUSH, ACQ_PASS_END, ACQ_VERIFY_END and ACQ_RESULT_POP complete. -/
def Obligations.AcquisitionJobsRunAndReport : Prop :=
  (∀ (m : Master) (s : State), s.writable m (gnaPg + 0x118) → s.dev.gnssOn = true →
    s.dev.jobRefusal s.dev.stagedJob = 0 →
    let j := s.dev.stagedJob
    ∃ t, exec (.acqSubmit m) s = .next t ∧
      (s.dev.acq.run.isSome = true ∨ 16 ≤ s.dev.acq.res.length →
        t.dev.acq.queue = s.dev.acq.queue ++ [j] ∧ t.dev.acq.run = s.dev.acq.run) ∧
      (s.dev.acq.run = none → s.dev.acq.res.length < 16 → s.dev.acq.queue = [] →
        t.dev.acq.queue = [] ∧ t.dev.acq.run = some { job := j, start := s.dev.gnssMs + 1 }) ∧
      (∀ q qs, s.dev.acq.run = none → s.dev.acq.res.length < 16 → s.dev.acq.queue = q :: qs →
        t.dev.acq.queue = qs ++ [j] ∧ t.dev.acq.run = some { job := q, start := s.dev.gnssMs + 1 }) ∧
      t.dev.acq.res = s.dev.acq.res ∧ s.onlyTouches { t with dev := { t.dev with acq := s.dev.acq } } [] []) ∧
  (∀ (m : Master) (s : State), s.writable m (gnaPg + 0x118) → s.dev.gnssOn = true →
    s.dev.jobRefusal s.dev.stagedJob ≠ 0 →
    ∃ t, exec (.acqSubmit m) s = .next t ∧ t.dev.g gnaPg Reg.GNA.QSTAT_REFUSE = s.dev.jobRefusal s.dev.stagedJob ∧
      t.dev.evt gnaPg 1 = (s.dev.evt gnaPg 1).occur ∧ s.onlyTouches t [gnaPg + 0x11C] [gnaPg + 1]) ∧
  (∀ (m : Master) (s : State), s.writable m (gnaPg + 0x118) → s.dev.gnssOn = false →
    ∃ t, exec (.acqSubmit m) s = .next t ∧ s.onlyTouches t [] []) ∧
  (∀ (m : Master) (s : State), s.writable m (gnaPg + 0x118) →
    ∃ t, exec (.acqFlush m) s = .next t ∧ t.dev.acq.queue = [] ∧ t.dev.acq.res = s.dev.acq.res ∧
      t.dev.acq.run = (s.dev.acq.run.filter fun r => !(r.passes == 0 && r.dwell.isNone && decide (s.dev.gnssMs < r.start))) ∧
      s.onlyTouches { t with dev := { t.dev with acq := s.dev.acq } } [] []) ∧
  (∀ (x : AcqSeen) (r : AcqRun) (s : State), s.dev.acq.run = some r → r.dwell = none →
    r.start + r.job.tc * r.job.nnc ≤ s.dev.gnssMs →
    let cell := r.job.cellAt r.passes x.cell
    let p : AcqPeak := { ratio := x.ratio, code := cell.1, dop := cell.2, cn0 := x.cn0 }
    ∃ t, exec (.acqPassEnd .host x) s = .next t ∧
      (r.finds x.ratio = true → t.dev.acq = { s.dev.acq with
        run := some { r with passes := r.passes + 1, lost := [], dwell := some p, start := s.dev.gnssMs + 1 } }) ∧
      (r.finds x.ratio = false → r.passes + 1 < r.job.passes → t.dev.acq = { s.dev.acq with
        run := some { r with passes := r.passes + 1, lost := [], start := s.dev.gnssMs + 1 } }) ∧
      (r.finds x.ratio = false → r.job.passes ≤ r.passes + 1 →
        t.dev.acq.res = s.dev.acq.res ++
          [{ tag := r.job.tag, passes := r.passes + 1, peak := some (r.best.getD p),
             outcome := if r.best.isNone then 2 else if r.job.hand && !r.handed then 5 else 1 }] ∧
        t.dev.evt gnaPg 0 = (s.dev.evt gnaPg 0).occur) ∧
      s.onlyTouches { t with dev := { t.dev with acq := s.dev.acq } } [] [gnaPg]) ∧
  (∀ (x : AcqSeen) (s : State),
    ((∀ r, s.dev.acq.run = some r → r.dwell.isSome = true ∨ s.dev.gnssMs < r.start + r.job.tc * r.job.nnc) →
      exec (.acqPassEnd .host x) s = .next s) ∧
    (s.dev.gnssOn = false ∨
      (∀ r, s.dev.acq.run = some r → r.dwell = none ∨ s.dev.gnssMs < r.start + r.job.tc * r.job.nnc) →
      exec (.acqVerifyEnd .host x) s = .next s)) ∧
  (∀ (c sig sv b ms code : Nat) (dop : Int) (x : AcqSeen) (s : State),
    ∃ t, exec (.acqPassEnd (.firmware c sig sv b ms code dop) x) s = .next t ∧ s.onlyTouches t [] []) ∧
  (∀ (x : AcqSeen) (r : AcqRun) (k : AcqPeak) (s : State), s.dev.gnssOn = true → s.dev.acq.run = some r → r.dwell = some k →
    r.start + r.job.tc * r.job.nnc ≤ s.dev.gnssMs →
    let cell := r.job.cellNear k x.cell
    let p : AcqPeak := { ratio := x.ratio, code := cell.1, dop := cell.2, cn0 := x.cn0 }
    let ok := r.finds x.ratio
    let hand := ok && r.job.hand && s.dev.chState r.job.ch == 0 && !r.handed
    let better := match r.best with | some b => decide (b.ratio < x.ratio) | none => true
    let best := if ok && better then some p else r.best
    let ends := (ok && r.job.early) || decide (r.job.passes ≤ r.passes)
    ∃ t, exec (.acqVerifyEnd .host x) s = .next t ∧
      (hand = true → s.dev.chanOut r.job.ch = false → t.dev.chState r.job.ch = 1) ∧
      (ends = true → t.dev.acq.res = s.dev.acq.res ++
          [{ tag := r.job.tag, passes := r.passes, peak := some (best.getD p),
             outcome := if best.isNone then 2 else if r.job.hand && !(r.handed || hand) then 5 else 1 }] ∧
        t.dev.evt gnaPg 0 = (s.dev.evt gnaPg 0).occur) ∧
      (ends = false → t.dev.acq = { s.dev.acq with
        run := some { r with dwell := none, lost := [], handed := r.handed || hand, start := s.dev.gnssMs + 1, best := best } }) ∧
      t.dev.tbs = s.dev.tbs ∧ s.keepsRest t) ∧
  (∀ (c sig sv b ms code : Nat) (dop : Int) (x : AcqSeen) (s : State), c < 256 → b < 4 → s.dev.fwPass ms = true →
    s.dev.chState c = 0 → s.dev.gb (gntC c) Reg.GNT.CCFG_OWNER = false → s.dev.bandOn b = true → svOk sig sv = true →
    s.dev.chanOut c = false →
    ∃ t, exec (.acqVerifyEnd (.firmware c sig sv b ms code dop) x) s = .next t ∧ t.dev.chState c = 1 ∧ t.dev.chBand c = b ∧
      t.dev.g (gntC c) Reg.GNT.CCFG_SIG = sig ∧ t.dev.g (gntC c) Reg.GNT.CCFG_SV = sv ∧
      (t.dev.chan c).nco = some
        { ch := c, code := code * 2 ^ 28, epoch := 0, carr := 0, cn0 := x.cn0, half := false,
          rate := 1000 * (carrierHz sig sv + dop) - s.dev.bandRf b } ∧
      bitAt (t.dev.w (gntPg c + 0x900)) (c % 32) = true ∧ t.dev.evt (gntPg c) 0 = (s.dev.evt (gntPg c) 0).occur ∧
      s.onlyTouches { t with dev := { t.dev with chans := s.dev.chans } } [gntC c, gntC c + 0xC, gntPg c + 0x900]
        [gntPg c]) ∧
  (∀ (c sig sv b ms code : Nat) (dop : Int) (x : AcqSeen) (s : State),
    (s.dev.fwPass ms && s.dev.chState c == 0 && !(s.dev.gb (gntC c) Reg.GNT.CCFG_OWNER) && s.dev.bandOn b && svOk sig sv &&
      !(s.dev.chanOut c)) = false → exec (.acqVerifyEnd (.firmware c sig sv b ms code dop) x) s = .next s) ∧
  ∀ (m : Master) (s : State), s.writable m (gnaPg + 0x130) →
    ∃ t, exec (.acqResultPop m) s = .next t ∧ t.dev.acq.res = s.dev.acq.res.drop 1 ∧
      s.onlyTouches { t with dev := { t.dev with acq := s.dev.acq } } [] []

/-- A channel moves by the table of R237, with its CHG bit and CH_CHANGE where its state changes: on a settled loop to
TRACK_PLL, on too weak a signal to IDLE, from TRACK_PLL with a poor lock to TRACK_FLL, and to IDLE after 500 ms of PULL_IN or
1 s of COAST. The host stops or hands back its own (R244) and clears CHG bits (R247); a fitted reflection is kept once in a
second (R239); allocation leaves no channel of firmware's on a signal that is off, touches none of the host's, and gives a
channel to a signal in view (R243). It says where CHANNEL_TRANSITION, CHANNEL_STOP, CHANNEL_OWNER_WRITE, CHG_CLR,
MULTIPATH_FIT and CHANNEL_ALLOCATE complete. -/
def Obligations.ChannelsTrackAndAreAllocated : Prop :=
  (∀ (c : Fin 256) (x : ChanSeen) (s : State), s.dev.gnssOn = true → s.dev.chState c.val ≠ 0 →
    let st := s.dev.chState c.val
    let aged := fun n => decide ((s.dev.chan c.val).at_ + n ≤ s.dev.now)
    let nxt := if st = 4 then (if aged ticks1s then 0 else 4)
      else if x.weak then 0
      else if (st = 1 ∨ st = 3) ∧ x.steady = true ∧ 85 ≤ x.pli then 2
      else if st = 1 ∧ aged 500000000 = true then 0
      else if st = 2 ∧ x.pli < 70 then 3 else st
    ∃ t, exec (.channelTransition c x) s = .next t ∧ t.dev.chState c.val = nxt ∧
      (st ≠ 4 → t.dev.g (gntC c.val) Reg.GNT.CSTAT_CN0 = x.cn0 % 2 ^ 16) ∧
      (st ≠ 4 → nxt ≠ 0 → t.dev.gb (gntC c.val) Reg.GNT.CSTAT_PLL_LOCK = decide (85 ≤ x.pli)) ∧
      (nxt ≠ st → bitAt (t.dev.w (gntPg c.val + 0x900)) (c.val % 32) = true ∧
        t.dev.evt (gntPg c.val) 0 = (s.dev.evt (gntPg c.val) 0).occur) ∧
      (nxt = st → s.dev.sameEvents t.dev []) ∧
      s.onlyTouches { t with dev := { t.dev with chans := s.dev.chans } } [gntC c.val + 0xC, gntPg c.val + 0x900] [gntPg c.val]) ∧
  (∀ (c : Fin 256) (x : ChanSeen) (s : State), s.dev.gnssOn = false ∨ s.dev.chState c.val = 0 →
    exec (.channelTransition c x) s = .next s) ∧
  (∀ (m : Master) (c : Fin 256) (s : State), s.writable m (gntC c.val) →
    ∃ t, exec (.channelStop m c) s = .next t ∧
      t.dev.chState c.val = (if s.dev.gb (gntC c.val) Reg.GNT.CCFG_OWNER then 0 else s.dev.chState c.val) ∧
      s.onlyTouches { t with dev := { t.dev with chans := s.dev.chans } } [gntC c.val + 0xC, gntPg c.val + 0x900] [gntPg c.val]) ∧
  (∀ (m : Master) (c : Fin 256) (v : Bool) (s : State), s.writable m (gntC c.val) →
    ∃ t, exec (.channelOwnerWrite m c v) s = .next t ∧ t.dev.gb (gntC c.val) Reg.GNT.CCFG_OWNER = v ∧
      (s.dev.gb (gntC c.val) Reg.GNT.CCFG_OWNER ≠ v → t.dev.chState c.val = 0) ∧
      (s.dev.gb (gntC c.val) Reg.GNT.CCFG_OWNER = v → t.dev.chState c.val = s.dev.chState c.val) ∧
      s.onlyTouches { t with dev := { t.dev with chans := s.dev.chans } }
        [gntC c.val, gntC c.val + 0xC, gntPg c.val + 0x900] [gntPg c.val]) ∧
  (∀ (m : Master) (i : Fin 8) (v : Word) (s : State), s.writable m (pageAddr .gnt .warp i.val + 0x904) →
    ∃ t, exec (.chgClr m i v) s = .next t ∧
      t.dev.w (pageAddr .gnt .warp i.val + 0x900) = s.dev.w (pageAddr .gnt .warp i.val + 0x900) &&& (0xFFFFFFFF - v.toNat) ∧
      s.onlyTouches t [pageAddr .gnt .warp i.val + 0x900] []) ∧
  (∀ (c : Fin 256) (delay amp : Nat) (ok : Bool) (s : State), s.dev.gnssOn = true → s.dev.chState c.val ≠ 0 →
    (s.dev.chan c.val).fitSec ≠ some (s.dev.sec s.dev.lead 0) →
    ∃ t, exec (.multipathFit c delay amp ok) s = .next t ∧ (t.dev.chan c.val).path = some (delay % 2 ^ 16, amp % 256) ∧
      (t.dev.chan c.val).pathOk = (decide (13 ≤ amp) && ok) ∧
      (∀ k < 256, k ≠ c.val → t.dev.chan k = s.dev.chan k) ∧ { t.dev with chans := s.dev.chans } = s.dev ∧ s.keepsRest t) ∧
  (∀ (c : Fin 256) (delay amp : Nat) (ok : Bool) (s : State), s.dev.gnssOn = false ∨ s.dev.chState c.val = 0 ∨
    (s.dev.chan c.val).fitSec = some (s.dev.sec s.dev.lead 0) → exec (.multipathFit c delay amp ok) s = .next s) ∧
  (∀ (views : List SvView) (s : State), s.dev.gnssOn = true → s.dev.gb gnfPg Reg.GNF.ALLOC_AUTO = true →
    ∃ t, exec (.channelAllocate views) s = .next t ∧
      (∀ c < 256, s.dev.gb (gntC c) Reg.GNT.CCFG_OWNER = false → s.dev.sigOn (s.dev.g (gntC c) Reg.GNT.CCFG_SIG) = false →
        t.dev.chState c = 0) ∧
      (∀ c < 256, s.dev.gb (gntC c) Reg.GNT.CCFG_OWNER = true → t.dev.w (gntC c) = s.dev.w (gntC c) ∧
        t.dev.chState c = s.dev.chState c) ∧ t.dev.tbs = s.dev.tbs ∧ s.keepsRest t) ∧
  (∀ (views : List SvView) (s : State), s.dev.gnssOn = false ∨ s.dev.gb gnfPg Reg.GNF.ALLOC_AUTO = false →
    exec (.channelAllocate views) s = .next s) ∧
  ∀ (v : SvView) (c0 : Fin 256) (s : State), s.dev.gnssOn = true → s.dev.gb gnfPg Reg.GNF.ALLOC_AUTO = true →
    s.dev.sigOn v.sig = true → svOk v.sig v.sv = true → s.dev.g gnfPg Reg.GNF.ALLOC_ELMASK < v.elev →
    (s.dev.bandFor v).isSome = true → s.dev.gb (gntC c0.val) Reg.GNT.CCFG_OWNER = false → s.dev.chState c0.val = 0 →
    s.dev.chanOut c0.val = false →
    ∃ t, exec (.channelAllocate [v]) s = .next t ∧
      ∃ c < 256, t.dev.gb (gntC c) Reg.GNT.CCFG_OWNER = false ∧ t.dev.g (gntC c) Reg.GNT.CCFG_SIG = v.sig ∧
        t.dev.g (gntC c) Reg.GNT.CCFG_SV = v.sv

/-- The solution of a second that is due reports TYPE and NSV by R250, R259 and R262, and OFS by R251 and R255 where it is
not NONE; one that is not due changes nothing (R249). A written position applies at POS_Z_HI and takes MODE to HOLD, ending a
survey (R253). The date floor rises to the week of the count and never falls; it is not recorded without a finite bound,
while firmware does not run, or after the flash has failed (R16, R261). It says where GNSS_SOLUTION, POSITION_SET and
DATE_FLOOR_RECORD complete. -/
def Obligations.SolutionsPositionAndDateFloor : Prop :=
  (∀ (i : SolIn) (s : State), s.dev.solDue = true →
    let r := s.dev.solution s.nv.floor i
    ∃ t, exec (.gnssSolution i) s = .next t ∧ t.dev.g gnsPg Reg.GNS.SOL_INFO_TYPE = r.type % 4 ∧
      t.dev.g gnsPg Reg.GNS.SOL_INFO_NSV = (s.dev.satsOf r.chans).length % 256 ∧
      (∀ f, r.type ≠ 0 → r.fit = some f →
        t.dev.g2 gnsPg Reg.GNS.OFS_LO Reg.GNS.OFS_HI = unsignedOf 48 (s.dev.solOfs f) ∧
        t.dev.sol.lastAt = some (s.dev.count s.dev.lead 0)) ∧
      (r.type = 0 → t.dev.g gnsPg Reg.GNS.ISTAT_CLEAN = 0 ∧
        t.dev.gb gnsPg Reg.GNS.ISTAT_PASS = s.dev.gb gnsPg Reg.GNS.ISTAT_PASS) ∧
      t.dev.solDue = false ∧ (∀ h, ∀ n < 16, t.dev.count h n = s.dev.count h n) ∧ t.pending = s.pending) ∧
  (∀ (i : SolIn) (s : State), s.dev.solDue = false → exec (.gnssSolution i) s = .next s) ∧
  (∀ (m : Master) (v : Word) (s : State), s.writable m (gnsPg + 0x11C) →
    ∃ t, exec (.positionSet m v) s = .next t ∧ t.dev.w (gnsPg + 0x11C) = v.toNat % 2 ^ 16 ∧ t.dev.solMode = 2 ∧
      t.dev.pos = t.dev.posWords ∧ t.dev.sol.far = 0 ∧ (s.dev.solMode = 1 → t.dev.evt gnsPg 0 = (s.dev.evt gnsPg 0).occur) ∧
      (s.dev.solMode ≠ 1 → s.dev.sameEvents t.dev []) ∧
      s.onlyTouches { t with dev := { t.dev with sol := s.dev.sol } } [gnsPg + 0x100, gnsPg + 0x11C] [gnsPg]) ∧
  (∀ s : State, s.dev.coresRun s.dev.lead = true → s.dev.published s.dev.lead 0 < unbounded → s.nv.flashFailed = false →
    ∃ t, exec .dateFloorRecord s = .next t ∧ t.nv.floor = max s.nv.floor (weekOf (s.dev.sec s.dev.lead 0)) ∧
      { t.nv with floor := s.nv.floor } = s.nv ∧ t.dev = s.dev ∧ t.pending = s.pending) ∧
  ∀ s : State, s.dev.coresRun s.dev.lead = false ∨ unbounded ≤ s.dev.published s.dev.lead 0 ∨ s.nv.flashFailed = true →
    exec .dateFloorRecord s = .next s

/-- A snapshot starts from IDLE in the bands that are enabled, with the length the buffer allows, where a band without a
clock stops at once, and is refused with its code otherwise (R263 to R265); at its length, or at an abort, it stands complete
with SNAP_DONE (R264, R265), and an abort of its processing returns to IDLE; the processing that firmware has taken up gives
SNRES and returns to IDLE, and SNAP_PROCESS is answered with a code of its own otherwise (R266). It says where SNAP_START,
SNAP_ABORT, SNAP_CAPTURE_END and SNAP_PROCESS complete. -/
def Obligations.SnapshotsCaptureAndAreProcessed : Prop :=
  (∀ (m : Master) (s : State), s.writable m (gnsPg + 0x204) →
    let bands := ((List.range 4).filter fun b => bitAt (s.dev.g gnsPg Reg.GNS.SNCFG_BANDS) b && s.dev.bandOn b).foldl
      (fun m b => m + 2 ^ b) 0
    let len := s.dev.snapLength bands (clampNat 2 20 (s.dev.g gnsPg Reg.GNS.SNCFG_LEN))
    let refuse := if s.dev.g gnsPg Reg.GNS.SNSTAT_STATE ≠ 0 then 1 else if s.dev.gnssOn = false then 4
      else if bands = 0 then 2 else if len < 2 then 3 else 0
    (refuse = 0 → ∃ t, exec (.snapStart m) s = .next t ∧ t.dev.g gnsPg Reg.GNS.SNSTAT_STATE = 1 ∧
      t.dev.g gnsPg Reg.GNS.SNSTAT_MS = len ∧ t.dev.snap.bands = bands ∧ t.dev.snap.complete = false ∧
      (∀ b < 4, bitAt bands b = true → s.dev.gb (gnfB b) Reg.GNF.BSTAT_CLK_OK = false → bitAt t.dev.snap.stopped b = true) ∧
      t.dev.tbs = s.dev.tbs ∧ s.dev.sameEvents t.dev [] ∧ s.keepsRest t) ∧
    (refuse ≠ 0 → ∃ t, exec (.snapStart m) s = .next t ∧ t.dev.g gnsPg Reg.GNS.SNSTAT_REFUSE = refuse ∧
      t.dev.evt gnsPg 7 = (s.dev.evt gnsPg 7).occur ∧ s.onlyTouches t [gnsPg + Reg.GNS.SNSTAT_REFUSE.off] [gnsPg + 7])) ∧
  (∀ (m : Master) (samples : List (List Byte)) (s : State), s.writable m (gnsPg + 0x204) →
    s.dev.g gnsPg Reg.GNS.SNSTAT_STATE = 1 →
    ∃ t, exec (.snapAbort m samples) s = .next t ∧ t.dev.g gnsPg Reg.GNS.SNSTAT_STATE = 0 ∧ t.dev.snap.complete = true ∧
      (∀ b < 4, bitAt s.dev.snap.bands b = true → bitAt t.dev.snap.stopped b = true) ∧
      t.dev.evt gnsPg 6 = (s.dev.evt gnsPg 6).occur ∧ t.dev.tbs = s.dev.tbs ∧ s.keepsRest t) ∧
  (∀ (m : Master) (samples : List (List Byte)) (s : State), s.writable m (gnsPg + 0x204) →
    (s.dev.g gnsPg Reg.GNS.SNSTAT_STATE = 2 → ∃ t, exec (.snapAbort m samples) s = .next t ∧
      t.dev.g gnsPg Reg.GNS.SNSTAT_STATE = 0 ∧ t.dev.snap.box = none ∧ s.dev.sameEvents t.dev [] ∧ s.keepsRest t) ∧
    (s.dev.g gnsPg Reg.GNS.SNSTAT_STATE ≠ 1 → s.dev.g gnsPg Reg.GNS.SNSTAT_STATE ≠ 2 →
      ∃ t, exec (.snapAbort m samples) s = .next t ∧ s.onlyTouches t [] [])) ∧
  (∀ (samples : List (List Byte)) (s : State), s.dev.g gnsPg Reg.GNS.SNSTAT_STATE = 1 →
    ∃ t, exec (.snapCaptureEnd samples) s = .next t ∧ t.dev.g gnsPg Reg.GNS.SNSTAT_STATE = 0 ∧ t.dev.snap.complete = true ∧
      t.dev.evt gnsPg 6 = (s.dev.evt gnsPg 6).occur ∧ t.dev.tbs = s.dev.tbs ∧ s.keepsRest t) ∧
  (∀ (samples : List (List Byte)) (s : State), s.dev.g gnsPg Reg.GNS.SNSTAT_STATE ≠ 1 →
    exec (.snapCaptureEnd samples) s = .next s) ∧
  (∀ (b : Fin 4) (r : SnapSol) (s : State) (c : FwCmd), (s.dev.mb b.val).waiting 0x0210 = some c →
    s.dev.coresRun (mbxHalf b.val) = true → c.len = 0 → s.dev.gnssOn = true → s.dev.snap.box = some (b.val, c.id) →
    s.dev.g gnsPg Reg.GNS.SNSTAT_STATE = 2 →
    ∃ t, exec (.snapProcess b r) s = .next t ∧ s.finished t b.val c codeOK [] ∧ t.dev.g gnsPg Reg.GNS.SNSTAT_STATE = 0 ∧
      t.dev.g gnsPg Reg.GNS.SNRES_INFO_NSV = r.nsv % 256 ∧ t.dev.gb gnsPg Reg.GNS.SNRES_INFO_VALID = r.valid ∧
      t.dev.g gnsPg Reg.GNS.SNRES_INFO_SIGMA = r.sigma % 2 ^ 16 ∧ t.dev.tbs = s.dev.tbs ∧ s.keepsRest t) ∧
  (∀ (b : Fin 4) (r : SnapSol) (s : State) (c : FwCmd), (s.dev.mb b.val).waiting 0x0210 = some c →
    s.dev.coresRun (mbxHalf b.val) = true →
    (c.len ≠ 0 ∨ s.dev.gnssOn = false ∨ s.dev.snap.box ≠ some (b.val, c.id) ∨ s.dev.g gnsPg Reg.GNS.SNSTAT_STATE ≠ 2) →
    ∃ t, exec (.snapProcess b r) s = .next t ∧
      s.finished t b.val c (if c.len ≠ 0 then codeBadLen else if s.dev.gnssOn = false then codeNotAvailable else codeBusy) [] ∧
      s.onlyTouches { t with dev := { t.dev with mbx := s.dev.mbx } } [] []) ∧
  ∀ (b : Fin 4) (r : SnapSol) (s : State), (s.dev.mb b.val).waiting 0x0210 = none ∨ s.dev.coresRun (mbxHalf b.val) = false →
    exec (.snapProcess b r) s = .next s

/-! ### Ports, planes and gates -/

/-- A port declares link up when its conditions have held for UPHOLD.MS, and down when one fails, with LINK_UP or LINK_DOWN,
its gate emptied at the loss; until then PSTAT alone shows the conditions (R272, R273). Its variable delays are stated in ps
(R274, R277); a changed MODE, FEC, LT_EN or TXREF takes the link down and a setting that R270 refuses raises CFG_REFUSED
(R270, R281); ESMC PDUs are taken in, time out, and are sent once in a second and at a change of the QL to send (R282, R283),
but not by a half that returns (R34); and the counters of one port or of a half's ports are copied at one tick (R284). What
does not apply changes nothing. No timebase changes. It says where LINK_UP, LINK_DOWN, DELAY_MEASURE_DONE, PCS_CONFIG_WRITE,
ESMC_RECEIVE, ESMC_TIMEOUT, ESMC_TRANSMIT, ESMC_EVENT_PDU, COUNTER_SNAPSHOT and COUNTER_SNAPSHOT_ALL complete. -/
def Obligations.LinksDelaysEsmcAndSnapshots : Prop :=
  (∀ (p : Fin 8) (x : LinkSeen) (held : Nat) (s : State), s.dev.portMode p.val ≠ 0 → s.dev.enabled (pcsPg p.val) = true →
    s.dev.planeUp (portHalf p.val) = true → s.dev.gb (pcsPg p.val) Reg.PCS.PSTAT_REFUSED = false → s.dev.portUp p.val = false →
    linkGood x (modeLanes (s.dev.portMode p.val)) = true → max 1 (s.dev.g (pcsPg p.val) Reg.PCS.UPHOLD) ≤ held →
    ∃ t, exec (.linkUp p ⟨x, held⟩) s = .next t ∧ t.dev.portUp p.val = true ∧
      t.dev.gb (pcsPg p.val) Reg.PCS.PSTAT_DLY_VALID = false ∧ t.dev.gb (pcsPg p.val) Reg.PCS.PSTAT_BLOCK_LOCK = true ∧
      t.dev.evt (pcsPg p.val) 0 = (s.dev.evt (pcsPg p.val) 0).occur ∧
      (∀ q < 8, q ≠ p.val → t.dev.portUp q = s.dev.portUp q) ∧ t.dev.ports = s.dev.ports ∧ t.dev.planes = s.dev.planes ∧
      t.dev.gates = s.dev.gates ∧ t.dev.tbs = s.dev.tbs ∧ s.keepsRest t) ∧
  (∀ (p : Fin 8) (x : LinkSeen) (held : Nat) (s : State), s.dev.portMode p.val = 0 ∨ s.dev.enabled (pcsPg p.val) = false ∨
    s.dev.planeUp (portHalf p.val) = false ∨ s.dev.gb (pcsPg p.val) Reg.PCS.PSTAT_REFUSED = true ∨ s.dev.portUp p.val = true ∨
    linkGood x (modeLanes (s.dev.portMode p.val)) = false ∨ held < max 1 (s.dev.g (pcsPg p.val) Reg.PCS.UPHOLD) →
    ∃ t, exec (.linkUp p ⟨x, held⟩) s = .next t ∧ t.dev.portUp p.val = s.dev.portUp p.val ∧
      t.dev.gb (pcsPg p.val) Reg.PCS.PSTAT_BLOCK_LOCK = x.lock ∧ s.onlyTouches t [pcsPg p.val + 0x108] []) ∧
  (∀ (p : Fin 8) (x : LinkSeen) (s : State), s.dev.portUp p.val = false ∨
    linkGood x (modeLanes (s.dev.portMode p.val)) = true →
    ∃ t, exec (.linkDown p x) s = .next t ∧ t.dev.portUp p.val = s.dev.portUp p.val ∧
      t.dev.gb (pcsPg p.val) Reg.PCS.PSTAT_BLOCK_LOCK = x.lock ∧ s.onlyTouches t [pcsPg p.val + 0x108] []) ∧
  (∀ (p : Fin 8) (x : LinkSeen) (s : State), s.dev.portUp p.val = true →
    linkGood x (modeLanes (s.dev.portMode p.val)) = false →
    ∃ t, exec (.linkDown p x) s = .next t ∧ t.dev.portUp p.val = false ∧
      t.dev.gb (pcsPg p.val) Reg.PCS.PSTAT_DLY_VALID = false ∧
      t.dev.evt (pcsPg p.val) 1 = (s.dev.evt (pcsPg p.val) 1).occur ∧
      tget 0 t.dev.macc (p.val * 32 + 23) = tget 0 s.dev.macc (p.val * 32 + 23) + 1 ∧ (t.dev.gate p.val).held = [] ∧
      (∀ q < 8, q ≠ p.val → t.dev.portUp q = s.dev.portUp q) ∧ t.dev.tbs = s.dev.tbs ∧ s.keepsRest t) ∧
  (∀ (p : Fin 8) (align : Nat) (skews : List Int) (tx : Nat) (s : State), s.dev.portUp p.val = false ∨
    s.dev.gb (pcsPg p.val) Reg.PCS.PSTAT_DLY_VALID = true → exec (.delayMeasureDone p ⟨align, skews⟩ tx) s = .next s) ∧
  (∀ (p : Fin 8) (align : Nat) (skews : List Int) (tx : Nat) (s : State), s.dev.portUp p.val = true →
    s.dev.gb (pcsPg p.val) Reg.PCS.PSTAT_DLY_VALID = false →
    let rx := ((align : Int) + (skews[s.dev.rclkLane p.val]?).getD 0).toNat
    let v := (uiPs (modeSymbols (s.dev.portMode p.val)) rx, uiPs (modeSymbols (s.dev.portMode p.val)) tx)
    ∃ t, exec (.delayMeasureDone p ⟨align, skews⟩ tx) s = .next t ∧ t.dev.g (pcsPg p.val) Reg.PCS.RX_VAR = v.1 % 2 ^ 32 ∧
      t.dev.g (pcsPg p.val) Reg.PCS.TX_VAR = v.2 % 2 ^ 32 ∧ t.dev.gb (pcsPg p.val) Reg.PCS.PSTAT_DLY_VALID = true ∧
      t.dev.evt (pcsPg p.val) 5 = (match (s.dev.port p.val).var with
        | none => s.dev.evt (pcsPg p.val) 5
        | some w => if w = v then s.dev.evt (pcsPg p.val) 5 else (s.dev.evt (pcsPg p.val) 5).occur) ∧
      s.onlyTouches { t with dev := { t.dev with ports := s.dev.ports } }
        [pcsPg p.val + 0x108, pcsPg p.val + 0x110, pcsPg p.val + 0x11C] [pcsPg p.val + 5]) ∧
  (∀ (m : Master) (p : Fin 8) (v : Word) (s : State), s.writable m (pcsPg p.val + 0x100) →
    let old := s.dev.w (pcsPg p.val + 0x100)
    let new := mergeWrite (pcsPg p.val + 0x100) old v.toNat
    ∃ t, exec (.pcsConfigWrite m p v) s = .next t ∧ t.dev.w (pcsPg p.val + 0x100) = new ∧
      t.dev.gb (pcsPg p.val) Reg.PCS.PSTAT_REFUSED = t.dev.pcsRefuses p.val ∧
      (t.dev.pcsRefuses p.val = true → t.dev.evt (pcsPg p.val) 2 = (s.dev.evt (pcsPg p.val) 2).occur) ∧
      (old &&& 0xF7 ≠ new &&& 0xF7 → t.dev.portUp p.val = false) ∧
      (old &&& 0xF7 = new &&& 0xF7 → t.dev.portUp p.val = s.dev.portUp p.val ∧
        (old ≠ new → t.dev.gb (pcsPg p.val) Reg.PCS.PSTAT_DLY_VALID = false)) ∧
      (∀ q < 8, q ≠ p.val → t.dev.portUp q = s.dev.portUp q) ∧ t.dev.tbs = s.dev.tbs ∧ s.keepsRest t) ∧
  (∀ (p : Fin 8) (ssm : Nat) (essm : Option Nat) (s : State), s.dev.portUp p.val = true →
    s.dev.gb (pcsPg p.val) Reg.PCS.ESMC_RX_EN = true →
    ∃ t, exec (.esmcReceive p ssm essm) s = .next t ∧ t.dev.g (pcsPg p.val) Reg.PCS.RX_QL_SSM = ssm % 16 ∧
      t.dev.g (pcsPg p.val) Reg.PCS.RX_QL_ESSM = essm.getD 0xFF % 256 ∧
      t.dev.gb (pcsPg p.val) Reg.PCS.RX_QL_EXT = essm.isSome ∧ t.dev.gb (pcsPg p.val) Reg.PCS.RX_QL_TIMEOUT = false ∧
      t.dev.g (pcsPg p.val) Reg.PCS.RX_QL_QR = qrOfSsm ssm (essm.getD 0xFF) ∧
      (t.dev.port p.val).esmcAt = s.dev.count (portHalf p.val) 0 ∧
      (t.dev.plane (portHalf p.val)).bridge = (s.dev.plane (portHalf p.val)).bridge ++ [.esmc p.val ssm essm] ∧
      t.dev.tbs = s.dev.tbs ∧ s.keepsRest t) ∧
  (∀ (p : Fin 8) (ssm : Nat) (essm : Option Nat) (s : State), s.dev.portUp p.val = false ∨
    s.dev.gb (pcsPg p.val) Reg.PCS.ESMC_RX_EN = false → exec (.esmcReceive p ssm essm) s = .next s) ∧
  (∀ (p : Fin 8) (s : State), s.dev.count (portHalf p.val) 0 < (s.dev.port p.val).esmcAt + 5 * secUnit ∨
    s.dev.gb (pcsPg p.val) Reg.PCS.RX_QL_TIMEOUT = true → exec (.esmcTimeout p) s = .next s) ∧
  (∀ (p : Fin 8) (s : State), (s.dev.port p.val).esmcAt + 5 * secUnit ≤ s.dev.count (portHalf p.val) 0 →
    s.dev.gb (pcsPg p.val) Reg.PCS.RX_QL_TIMEOUT = false →
    ∃ t, exec (.esmcTimeout p) s = .next t ∧ t.dev.gb (pcsPg p.val) Reg.PCS.RX_QL_TIMEOUT = true ∧
      t.dev.g (pcsPg p.val) Reg.PCS.RX_QL_QR = 15 ∧ t.dev.evt (pcsPg p.val) 4 = (s.dev.evt (pcsPg p.val) 4).occur ∧
      t.dev.ports = s.dev.ports ∧ t.dev.tbs = s.dev.tbs ∧ s.keepsRest t) ∧
  (∀ (p : Fin 8) (s : State), s.dev.gb (pcsPg p.val) Reg.PCS.ESMC_TX_EN = true → s.dev.portUp p.val = true →
    s.dev.coresRun (portHalf p.val) = true → s.dev.returning (portHalf p.val) = false →
    ((s.dev.port p.val).infoSec ≠ some (s.dev.sec (portHalf p.val) 0) → ∃ t, exec (.esmcTransmit p) s = .next t ∧
      (t.dev.port p.val).infoSec = some (s.dev.sec (portHalf p.val) 0) ∧ t.dev.g (pcsPg p.val) Reg.PCS.TX_QL_SENT_SSM = (s.dev.txQl p.val).1 % 16 ∧
      (t.dev.port p.val).last.map (·.bytes) = some (s.dev.esmcPdu p.val false) ∧
      (t.dev.port p.val).sentQl = some (s.dev.txQl p.val) ∧
      s.onlyTouches { t with dev := { t.dev with ports := s.dev.ports, macc := s.dev.macc } } [pcsPg p.val + 0x128] []) ∧
    ∀ q, (s.dev.port p.val).sentQl = some q → q ≠ s.dev.txQl p.val →
      ∃ t, exec (.esmcEventPdu p) s = .next t ∧ (t.dev.port p.val).last.map (·.bytes) = some (s.dev.esmcPdu p.val true) ∧
        (t.dev.port p.val).sentQl = some (s.dev.txQl p.val) ∧
        s.onlyTouches { t with dev := { t.dev with ports := s.dev.ports, macc := s.dev.macc } } [pcsPg p.val + 0x128] []) ∧
  (∀ (p : Fin 8) (s : State),
    let off := s.dev.gb (pcsPg p.val) Reg.PCS.ESMC_TX_EN = false ∨ s.dev.portUp p.val = false ∨
      s.dev.coresRun (portHalf p.val) = false ∨ s.dev.returning (portHalf p.val) = true
    (off ∨ (s.dev.port p.val).infoSec = some (s.dev.sec (portHalf p.val) 0) → exec (.esmcTransmit p) s = .next s) ∧
    (off ∨ (s.dev.port p.val).sentQl = none ∨ (s.dev.port p.val).sentQl = some (s.dev.txQl p.val) →
      exec (.esmcEventPdu p) s = .next s)) ∧
  (∀ (m : Master) (p : Fin 8) (s : State), s.writable m (macPg p.val + 0x148) →
    ∃ t, exec (.counterSnapshot m p) s = .next t ∧ t.dev.macc = s.dev.macc ∧
      (∀ k < 24, t.dev.w (macPg p.val + 0x200 + 8 * k) = tget 0 s.dev.macc (p.val * 32 + k) % 2 ^ 32 ∧
        t.dev.w (macPg p.val + 0x204 + 8 * k) = tget 0 s.dev.macc (p.val * 32 + k) / 2 ^ 32 % 2 ^ 32) ∧
      t.dev.g (macPg p.val) Reg.MAC.SNAP_T_NSEC = nsecOf (s.dev.count (portHalf p.val) 0) % 2 ^ 30 ∧
      t.dev.evt (macPg p.val) 1 = (s.dev.evt (macPg p.val) 1).occur ∧ s.dev.sameUnits t.dev ∧ s.keepsRest t) ∧
  ∀ (m : Master) (h : Half) (s : State), s.writable m (macPg h.num + 0x148) →
    ∃ t, exec (.counterSnapshotAll m h) s = .next t ∧ t.dev.macc = s.dev.macc ∧
      (∀ j < 4, ∀ k < 24,
        t.dev.w (macPg (2 * j + h.num) + 0x200 + 8 * k) = tget 0 s.dev.macc ((2 * j + h.num) * 32 + k) % 2 ^ 32) ∧
      (∀ j < 4, t.dev.evt (macPg (2 * j + h.num)) 1 = (s.dev.evt (macPg (2 * j + h.num)) 1).occur) ∧
      s.dev.sameUnits t.dev ∧ s.keepsRest t

/-- A received frame is counted with its descriptor's ingress values and goes on by the rows of R289, or flagged by R279; on
a port that is down it changes nothing. One with an error is counted and discarded, or delivered with ERR_DELIVER (R278,
R279); one for a forwarding entry's port is queued there with its descriptor (R289, R291, R294, R295); a service request goes
to the responder and over the bridge (R289, R23). Flow control holds classes until its quanta run out and is repeated (R280,
R301); a committed entry takes its staged words (R292). A frame boundary ends the frame before, and sends flow control first,
defers to a gated frame, or sends the scheduled head, whose cells stay in use until it has left (R296, R299); a port that is
down or busy, or of a half that returns, sends nothing (R34). A frame held too long for others leaves every queue (R299); and
the bridge hands over what finds a credit, and loses what finds none or no plane up (R305). It says where FRAME_RECEIVE,
PAUSE_RECEIVE, PAUSE_EXPIRE, PAUSE_REPEAT, FWD_ENTRY_COMMIT, EGRESS_FRAME_BOUNDARY, MC_AGED and BRIDGE_TRANSFER complete. -/
def Obligations.FramesAreClassifiedQueuedAndSent : Prop :=
  (∀ (p : Fin 8) (f : RxFrame) (s : State), s.dev.portUp p.val = true →
    let d := (s.dev.rxCount p.val (s.dev.rxFlags p.val f) f).ingCount p.val (s.dev.rxDesc p.val f)
    exec (.frameReceive p f) s = .next (s.withDev (
      if s.dev.rxFlags p.val f = 0 then d.classified p.val (s.dev.rxDesc p.val f) f.bytes
      else d.flagged p.val (s.dev.rxFlags p.val f) (s.dev.rxDesc p.val f) f.bytes))) ∧
  (∀ (p : Fin 8) (f : RxFrame) (s : State), s.dev.portUp p.val = false → exec (.frameReceive p f) s = .next s) ∧
  (∀ (p : Fin 8) (f : RxFrame) (s : State), s.dev.portUp p.val = true → s.dev.rxFlags p.val f ≠ 0 →
    ∃ t, exec (.frameReceive p f) s = .next t ∧
      (∀ k < 5, tget 0 t.dev.macc (p.val * 32 + 2 + k) =
        tget 0 s.dev.macc (p.val * 32 + 2 + k) + (if bitAt (s.dev.rxFlags p.val f) k then 1 else 0)) ∧
      (s.dev.gb (macPg p.val) Reg.MAC.MCFG_ERR_DELIVER = true →
        tget 0 t.dev.macc (p.val * 32 + 10) = tget 0 s.dev.macc (p.val * 32 + 10) + 1) ∧
      (s.dev.gb (macPg p.val) Reg.MAC.MCFG_ERR_DELIVER = false →
        tget 0 t.dev.macc (p.val * 32 + 9) = tget 0 s.dev.macc (p.val * 32 + 9) + 1) ∧
      t.dev.evt (macPg p.val) 0 = (s.dev.evt (macPg p.val) 0).occur ∧ t.dev.resp = s.dev.resp ∧ t.dev.tbs = s.dev.tbs ∧
      s.keepsRest t) ∧
  (∀ (p : Fin 8) (f : RxFrame) (s : State), s.dev.portUp p.val = true → s.dev.rxFlags p.val f ≠ 0 → f.bytes.length + 4 < 64 →
    s.dev.gb (macPg p.val) Reg.MAC.MCFG_ERR_DELIVER = false →
    ∃ t, exec (.frameReceive p f) s = .next t ∧
      (∀ k < 5, tget 0 t.dev.macc (p.val * 32 + 2 + k) =
        tget 0 s.dev.macc (p.val * 32 + 2 + k) + (if bitAt (s.dev.rxFlags p.val f) k then 1 else 0)) ∧
      tget 0 t.dev.macc (p.val * 32 + 9) = tget 0 s.dev.macc (p.val * 32 + 9) + 1 ∧
      t.dev.evt (macPg p.val) 0 = (s.dev.evt (macPg p.val) 0).occur ∧ t.dev.planes = s.dev.planes ∧
      t.dev.resp = s.dev.resp ∧ t.dev.ports = s.dev.ports ∧ t.dev.tbs = s.dev.tbs ∧ s.keepsRest t) ∧
  (∀ (p : Fin 8) (f : RxFrame) (n : Nat) (j : Fin 4) (s : State),
    let h := portHalf p.val
    let c := s.dev.classOf h (p.val / 2) (ethHdr f.bytes) (some n)
    s.dev.portUp p.val = true → s.dev.rxFlags p.val f = 0 → flowOf f.bytes = none →
    s.dev.gb (pcsPg p.val) Reg.PCS.ESMC_RX_EN = false → s.dev.matchEntry h p.val (msgOf f.bytes) = none →
    s.dev.gb (swcPg h) Reg.SWC.TCCFG_EN = false →
    s.dev.fwdLookup h (ethHdr f.bytes).dst (if (ethHdr f.bytes).tagged then (ethHdr f.bytes).vid else 0) = some n →
    s.dev.fwdWord h n 2 % 512 = 2 ^ portOf h j.val → portOf h j.val ≠ p.val → s.dev.portUp (portOf h j.val) = true →
    s.dev.gb (swtQ h j.val c) Reg.SWT.QCFG_CT = false → s.dev.admits h j.val c (s.dev.needCells p.val) = true →
    s.dev.needCells p.val ≤ s.dev.free_ h →
    ∃ t, exec (.frameReceive p f) s = .next t ∧
      t.dev.queue h j.val c = s.dev.queue h j.val c ++ [(s.dev.plane h).nextId] ∧
      (∃ x ∈ (t.dev.plane h).frames, x.id = (s.dev.plane h).nextId ∧ x.bytes = f.bytes ∧ x.cls = c ∧ x.refs = [j.val] ∧
        x.inPort = p.val ∧ x.desc = s.dev.rxDesc p.val f) ∧
      tget 0 t.dev.macc (p.val * 32) = tget 0 s.dev.macc (p.val * 32) + 1 ∧ t.dev.gates = s.dev.gates ∧
      t.dev.resp = s.dev.resp ∧ t.dev.tbs = s.dev.tbs ∧ s.keepsRest t) ∧
  (∀ (p : Fin 8) (f : RxFrame) (a : Nat) (s : State),
    let h := portHalf p.val
    let r : Req := { id := 0, desc := s.dev.rxDesc p.val f, bytes := f.bytes, entNo := a, ent := s.dev.svcEntry h a }
    s.dev.portUp p.val = true → s.dev.rxFlags p.val f = 0 → flowOf f.bytes = none →
    s.dev.gb (pcsPg p.val) Reg.PCS.ESMC_RX_EN = false → s.dev.matchEntry h p.val (msgOf f.bytes) = some a →
    s.dev.svcCase h (s.dev.svcEntry h a) (msgOf f.bytes) = .request → s.dev.chipReturning h = false →
    ((s.dev.rxDesc p.val f).v0 || (s.dev.rxDesc p.val f).v1) = true →
    s.dev.gb (redPg h) Reg.RED.PRP_RX_EN = false →
    ∃ t, exec (.frameReceive p f) s = .next t ∧
      (t.dev.rsp h).reqs = (s.dev.rsp h).reqs ++ [{ r with id := (s.dev.rsp h).nextId, stage := .arrived }] ∧
      (t.dev.plane h).bridge = (s.dev.plane h).bridge ++ [.request { r with bridged := true }] ∧
      (t.dev.plane h).frames = (s.dev.plane h).frames ∧ t.dev.gates = s.dev.gates ∧ t.dev.tbs = s.dev.tbs ∧
      s.keepsRest t) ∧
  (∀ (p : Fin 8) (f : FlowFrame) (s : State), s.dev.portUp p.val = false → exec (.pauseReceive p f) s = .next s) ∧
  (∀ (p : Fin 8) (q : Nat) (s : State), s.dev.portUp p.val = true →
    ∃ t, exec (.pauseReceive p (.pause q)) s = .next t ∧
      tget 0 t.dev.macc (p.val * 32 + 7) = tget 0 s.dev.macc (p.val * 32 + 7) + 1 ∧
      tget 0 (t.dev.port p.val).pauses 8 = (if s.dev.gb (macPg p.val) Reg.MAC.MCFG_IGN_PAUSE then
          tget 0 (s.dev.port p.val).pauses 8
        else if q % 65536 = 0 then 0
        else s.dev.tb0 (portHalf p.val) + s.dev.octets p.val (64 * (q % 65536))) ∧
      s.onlyTouches { t with dev := { t.dev with ports := s.dev.ports, macc := s.dev.macc } } [] []) ∧
  (∀ (p : Fin 8) (mask : Nat) (qs : List Nat) (s : State), s.dev.portUp p.val = true →
    ∃ t, exec (.pauseReceive p (.pfc mask qs)) s = .next t ∧
      tget 0 t.dev.macc (p.val * 32 + 8) = tget 0 s.dev.macc (p.val * 32 + 8) + 1 ∧
      (∀ c < 8, tget 0 (t.dev.port p.val).pauses c =
        if bitAt mask c && !(bitAt (s.dev.g (macPg p.val) Reg.MAC.MCFG_IGN_PFC) c) then
          (if qs[c]?.getD 0 % 65536 = 0 then 0
           else s.dev.tb0 (portHalf p.val) + s.dev.octets p.val (64 * (qs[c]?.getD 0 % 65536)))
        else tget 0 (s.dev.port p.val).pauses c) ∧
      s.onlyTouches { t with dev := { t.dev with ports := s.dev.ports, macc := s.dev.macc } } [] []) ∧
  (∀ (p : Fin 8) (c : Fin 9) (s : State),
    ∃ t, exec (.pauseExpire p c) s = .next t ∧
      (tget 0 (s.dev.port p.val).pauses c.val ≤ s.dev.tb0 (portHalf p.val) → tget 0 (t.dev.port p.val).pauses c.val = 0) ∧
      (∀ k, k ≠ c.val → tget 0 (t.dev.port p.val).pauses k = tget 0 (s.dev.port p.val).pauses k) ∧
      (s.dev.tb0 (portHalf p.val) < tget 0 (s.dev.port p.val).pauses c.val → t = s) ∧
      s.onlyTouches { t with dev := { t.dev with ports := s.dev.ports } } [] []) ∧
  (∀ (p : Fin 8) (c : Fin 9) (s : State), tget 0 (s.dev.port p.val).fcSent c.val = 0 ∨
    s.dev.ingCells p.val c.val ≤ s.dev.xon p.val ∨
    s.dev.tb0 (portHalf p.val) + 1 < tget 0 (s.dev.port p.val).fcSent c.val + s.dev.octets p.val (64 * 0xFFFF) / 2 →
    exec (.pauseRepeat p c) s = .next s) ∧
  (∀ (p : Fin 8) (c : Fin 9) (s : State), tget 0 (s.dev.port p.val).fcSent c.val ≠ 0 →
    s.dev.xon p.val < s.dev.ingCells p.val c.val →
    tget 0 (s.dev.port p.val).fcSent c.val + s.dev.octets p.val (64 * 0xFFFF) / 2 ≤ s.dev.tb0 (portHalf p.val) + 1 →
    ∃ t, exec (.pauseRepeat p c) s = .next t ∧ (t.dev.port p.val).fcDue = (s.dev.port p.val).fcDue ++ [(c.val, 0xFFFF)] ∧
      tget 0 (t.dev.port p.val).fcSent c.val = s.dev.tb0 (portHalf p.val) + 1 ∧
      s.onlyTouches { t with dev := { t.dev with ports := s.dev.ports } } [] []) ∧
  (∀ (m : Master) (h : Half) (e : Fin 128) (v : Word) (s : State), s.writable m (swcPg h + 0x800 + 16 * e.val + 12) →
    let n := 128 * s.dev.g (swcPg h) Reg.SWC.FWSEL + e.val
    ∃ t, exec (.fwdEntryCommit m h e v) s = .next t ∧ (∀ w < 3, t.dev.fwdWord h n w = s.dev.fwdStaged h n w) ∧
      t.dev.fwdWord h n 3 = v.toNat &&& 0x80000000 ∧
      (∀ k, (∀ w < 4, k ≠ fwdKey h n w) → tget 0 t.dev.fwd k = tget 0 s.dev.fwd k) ∧
      s.onlyTouches { t with dev := { t.dev with fwd := s.dev.fwd, fwdStage := s.dev.fwdStage } } [] []) ∧
  (∀ (p : Fin 8) (s : State),
    let d := s.dev.sendEnded p.val
    let h := portHalf p.val
    d.portUp p.val = false ∨ d.busy p.val = true ∨ d.returning h = true ∨
      ((d.port p.val).fcDue = [] ∧ ∀ c df, d.pickClass h (p.val / 2) = some (c, df) →
        (d.queue h (p.val / 2) c).head?.bind (d.stored h) = none) →
    exec (.egressFrameBoundary p) s = .next (s.withDev d)) ∧
  (∀ (p : Fin 8) (c q : Nat) (rest : List (Nat × Nat)) (s : State),
    let d := s.dev.sendEnded p.val
    d.portUp p.val = true → d.busy p.val = false → d.returning (portHalf p.val) = false →
    (d.port p.val).fcDue = (c, q) :: rest →
    ∃ t, exec (.egressFrameBoundary p) s = .next t ∧ (t.dev.port p.val).fcDue = rest ∧
      (t.dev.port p.val).last.map (·.bytes) = some (fcFrame c q) ∧
      (t.dev.port p.val).txFrom = s.dev.tb0 (portHalf p.val) ∧
      (s.withDev d).onlyTouches { t with dev := { t.dev with ports := d.ports, macc := d.macc } } [] []) ∧
  (∀ (p : Fin 8) (c : Nat) (df : Tab Nat) (f : SFrame) (s : State),
    let d := s.dev.sendEnded p.val
    let h := portHalf p.val
    d.portUp p.val = true → d.busy p.val = false → d.returning h = false → (d.port p.val).fcDue = [] →
    d.pickClass h (p.val / 2) = some (c, df) → (d.queue h (p.val / 2) c).head?.bind (d.stored h) = some f →
    (d.defers p.val f.bytes.length = true →
      ∃ t, exec (.egressFrameBoundary p) s = .next t ∧
        t.dev.g (swtK h (p.val / 2)) Reg.SWT.GATE_DEFER = (d.g (swtK h (p.val / 2)) Reg.SWT.GATE_DEFER + 1) % 2 ^ 32 ∧
        (s.withDev d).onlyTouches t [swtK h (p.val / 2) + Reg.SWT.GATE_DEFER.off] []) ∧
    (d.defers p.val f.bytes.length = false →
      ∃ t, exec (.egressFrameBoundary p) s = .next t ∧
        (t.dev.port p.val).last = some { at_ := s.dev.tb0 h, gated := false, bad := false, bytes := f.bytes, cls := some c } ∧
        t.dev.queue h (p.val / 2) f.cls = (d.queue h (p.val / 2) f.cls).filter (· != f.id) ∧
        (t.dev.port p.val).sending = some (f.id, (t.dev.port p.val).txTo) ∧
        (t.dev.plane h).frames = (d.plane h).frames ∧
        t.dev.gates = s.dev.gates ∧ t.dev.tbs = s.dev.tbs ∧ s.keepsRest t)) ∧
  (∀ (h : Half) (i since : Nat) (f : SFrame) (s : State), (s.dev.plane h).frames[i]? = some f →
    s.dev.stored h f.id = some f → f.refs ≠ [] → f.doneAt = some since →
    since + ns32 (1000 * max 1 (s.dev.g (swcPg h) Reg.SWC.MCAGE)) ≤ s.dev.tb0 h →
    ∃ t, exec (.mcAged h i) s = .next t ∧ (∀ j ∈ f.refs, f.id ∉ t.dev.queue h j f.cls) ∧
      ((∃ j ∈ f.refs, s.dev.isQueued h f j = true) → (t.dev.evt (swtPg h) 6).pend = true) ∧
      ((∀ j ∈ f.refs, s.dev.isQueued h f j = true) →
        (t.dev.plane h).frames = (s.dev.plane h).frames.filter (fun x => x.id != f.id)) ∧
      t.dev.gates = s.dev.gates ∧ t.dev.tbs = s.dev.tbs ∧ s.keepsRest t) ∧
  (∀ (h : Half) (i : Nat) (s : State),
    (∀ f since, (s.dev.plane h).frames[i]? = some f → f.doneAt = some since →
      s.dev.tb0 h < since + ns32 (1000 * max 1 (s.dev.g (swcPg h) Reg.SWC.MCAGE))) →
    exec (.mcAged h i) s = .next s) ∧
  (∀ (h : Half) (credit : Bool) (s : State), (s.dev.plane h).bridge = [] → exec (.bridgeTransfer h credit) s = .next s) ∧
  ∀ (h : Half) (i : BridgeItem) (rest : List BridgeItem) (credit : Bool) (s : State), (s.dev.plane h).bridge = i :: rest →
    (credit = false ∨ s.dev.planeUp h = false ∨ s.dev.planeUp h.other = false →
      ∃ t, exec (.bridgeTransfer h credit) s = .next t ∧ (t.dev.plane h).bridge = rest ∧
      t.dev.g (swcPg h) Reg.SWC.BRIDGE_DROP = (s.dev.g (swcPg h) Reg.SWC.BRIDGE_DROP + 1) % 2 ^ 32 ∧
      s.onlyTouches { t with dev := { t.dev with planes := s.dev.planes } } [swcPg h + Reg.SWC.BRIDGE_DROP.off] []) ∧
    (s.dev.planeUp h = true → s.dev.planeUp h.other = true →
      exec (.bridgeTransfer h true) s = .next (s.withDev
        ((s.dev.setPlane h { s.dev.plane h with bridge := rest }).bridgeDeliver h.other i))) ∧
    ∀ g, i = .gated g → portHalf g.port = h.other → s.dev.planeUp h = true → s.dev.planeUp h.other = true →
      ∃ t, exec (.bridgeTransfer h true) s = .next t ∧ (t.dev.plane h).bridge = rest ∧
        (t.dev.plane h.other).gateIn = (s.dev.plane h.other).gateIn ++ [{ g with gen := s.dev.stepgen.of h.other }] ∧
        { t.dev with planes := s.dev.planes } = s.dev ∧ s.keepsRest t

/-- The frame in line for a gate waits while the gate is full; a muted one is discarded without a count, as any frame is in a
half that returns (R34, R316, R401, R427); any other reaches its gate: one in time and free of overlap is held there, and a
host frame past its deadline is dropped and reported (R316, R318 to R320). At its instant the earliest held frame leaves with
LAUNCHED and, from the host, a report (R317, R326); a blind gate discards what it holds (R322); and POP frees the head report
and one credit (R328). What is not due changes nothing. It says where GATE_ACCEPT, GATE_RELEASE, LGT_BLIND and REPORT_POP
complete. -/
def Obligations.GatesHoldReleaseAndReport : Prop :=
  (∀ (h : Half) (i : Nat) (s : State),
    (∀ g, (s.dev.plane h).gateIn[i]? = some g → g.mute = false ∧ s.dev.gateFull g.port (s.dev.gWire h g g.t).length = true) →
    exec (.gateAccept h i) s = .next s) ∧
  (∀ (h : Half) (i : Nat) (g : GFrame) (s : State), (s.dev.plane h).gateIn[i]? = some g → g.mute = true →
    ∃ t, exec (.gateAccept h i) s = .next t ∧ (t.dev.plane h).gateIn = (s.dev.plane h).gateIn.eraseIdx i ∧
      s.onlyTouches { t with dev := { t.dev with planes := s.dev.planes, red := s.dev.red } } [] []) ∧
  (∀ (h : Half) (i : Nat) (g : GFrame) (s : State), (s.dev.plane h).gateIn[i]? = some g → g.mute = false →
    s.dev.gateFull g.port (s.dev.gWire h g g.t).length = false →
    let d1 := s.dev.setPlane h { s.dev.plane h with gateIn := (s.dev.plane h).gateIn.eraseIdx i }
    let d2 := match g.src with | .reply _ => d1.digestSample h g | _ => d1
    exec (.gateAccept h i) s =
      .next (s.withDev (if s.dev.halfMute h = true then d2.reportFate g 5 else d2.gateArrive g))) ∧
  (∀ (h : Half) (i : Nat) (g : GFrame) (s : State), (s.dev.plane h).gateIn[i]? = some g → portHalf g.port = h → g.port < 8 →
    s.dev.halfMute h = false → g.mute = false → s.dev.gateFull g.port (s.dev.gWire h g g.t).length = false → s.dev.gateOn h = true →
    s.dev.portUp g.port = true → s.dev.gb (pcsPg g.port) Reg.PCS.PSTAT_DLY_VALID = true →
    s.dev.gb (lgtG g.port) Reg.LGT.GSTAT_BLIND = false → g.isReport = false → g.gen = s.dev.stepgen.of h →
    (∀ tag, g.src = .hostAt tag → ns32 g.t ≤ s.dev.tb0 h + ns32 1000000) → (s.dev.tb0 h : Int) ≤ s.dev.deadline g.port g.t →
    (s.dev.tb0 h < (s.dev.port g.port).txTo →
      overlaps (s.dev.window g g.t) ((s.dev.port g.port).txFrom, (s.dev.port g.port).txTo) = false) →
    (∀ x ∈ (s.dev.gate g.port).held, overlaps (s.dev.window g g.t) (s.dev.window x x.t) = false) →
    ∃ t, exec (.gateAccept h i) s = .next t ∧ (t.dev.plane h).gateIn = (s.dev.plane h).gateIn.eraseIdx i ∧
      (t.dev.gate g.port).held = (s.dev.gate g.port).held ++ [{ g with at_ := s.dev.stepgen.of h }] ∧
      (t.dev.gate g.port).reports = (s.dev.gate g.port).reports ∧
      s.onlyTouches { t with dev := { t.dev with planes := s.dev.planes, gates := s.dev.gates, red := s.dev.red } }
        [lgtG g.port + Reg.LGT.GSTAT_HELD.off, lgtG g.port + Reg.LGT.RPTSTAT_DEPTH.off] []) ∧
  (∀ (h : Half) (i tag : Nat) (g : GFrame) (s : State), (s.dev.plane h).gateIn[i]? = some g → portHalf g.port = h →
    g.port < 8 → s.dev.halfMute h = false → g.mute = false → s.dev.gateFull g.port (s.dev.gWire h g g.t).length = false → s.dev.gateOn h = true →
    s.dev.portUp g.port = true → s.dev.gb (pcsPg g.port) Reg.PCS.PSTAT_DLY_VALID = true →
    s.dev.gb (lgtG g.port) Reg.LGT.GSTAT_BLIND = false → g.src = .hostAt tag → g.gen = s.dev.stepgen.of h →
    ns32 g.t ≤ s.dev.tb0 h + ns32 1000000 → s.dev.deadline g.port g.t < (s.dev.tb0 h : Int) →
    ∃ t, exec (.gateAccept h i) s = .next t ∧ (t.dev.gate g.port).held = (s.dev.gate g.port).held ∧
      (t.dev.gate g.port).reports = (s.dev.gate g.port).reports ++ [{ tag := tag, status := 1 }] ∧
      t.dev.g (lgtG g.port) Reg.LGT.LATE_DROP = (s.dev.g (lgtG g.port) Reg.LGT.LATE_DROP + 1) % 2 ^ 32 ∧
      t.dev.evt (lgtPg h) (lgtEvt g.port 1) = (s.dev.evt (lgtPg h) (lgtEvt g.port 1)).occur ∧
      t.dev.tbs = s.dev.tbs ∧ s.keepsRest t) ∧
  (∀ (p : Fin 8) (g : GFrame) (s : State), earliest (s.dev.gate p.val).held = some g →
    ns32 g.t ≤ s.dev.tb0 (portHalf p.val) → s.dev.portUp p.val = true →
    ∃ t, exec (.gateRelease p) s = .next t ∧
      (t.dev.gate p.val).held = (s.dev.gate p.val).held.filter (fun x => x.id != g.id) ∧
      (t.dev.port p.val).last = some { at_ := ns32 g.t, gated := true, bad := false
                                       bytes := s.dev.gWire (portHalf p.val) g g.t } ∧
      t.dev.g (lgtG p.val) Reg.LGT.LAUNCHED = (s.dev.g (lgtG p.val) Reg.LGT.LAUNCHED + 1) % 2 ^ 32 ∧
      (t.dev.gate p.val).reports = (s.dev.gate p.val).reports ++ (match g.src with
        | .hostAt tag => [{ tag := tag, status := 0, sec := g.t / 10 ^ 9, nsec := g.t % 10 ^ 9 }]
        | .hostReport tag => [{ tag := tag, status := 0, sec := g.t / 10 ^ 9, nsec := g.t % 10 ^ 9 }]
        | _ => []) ∧
      t.dev.planes = s.dev.planes ∧ t.dev.tbs = s.dev.tbs ∧ s.keepsRest t) ∧
  (∀ (p : Fin 8) (s : State),
    ((∀ g, earliest (s.dev.gate p.val).held = some g → s.dev.tb0 (portHalf p.val) < ns32 g.t ∨ s.dev.portUp p.val = false) →
      exec (.gateRelease p) s = .next s) ∧
    (s.dev.gb (lgtG p.val) Reg.LGT.GSTAT_BLIND = true ∨ s.dev.gateBlind p.val = false → exec (.lgtBlind p) s = .next s)) ∧
  (∀ (p : Fin 8) (s : State), s.dev.gb (lgtG p.val) Reg.LGT.GSTAT_BLIND = false → s.dev.gateBlind p.val = true →
    ∃ t, exec (.lgtBlind p) s = .next t ∧ t.dev.gb (lgtG p.val) Reg.LGT.GSTAT_BLIND = true ∧
      t.dev.evt (lgtPg (portHalf p.val)) (lgtEvt p.val 2) =
        (s.dev.evt (lgtPg (portHalf p.val)) (lgtEvt p.val 2)).occur ∧
      (t.dev.gate p.val).held = [] ∧ t.dev.ports = s.dev.ports ∧ t.dev.tbs = s.dev.tbs ∧ s.keepsRest t) ∧
  ∀ (m : Master) (p : Fin 8) (s : State), s.writable m (lgtG p.val + 0x30) →
    ∃ t, exec (.reportPop m p) s = .next t ∧ (t.dev.gate p.val).reports = (s.dev.gate p.val).reports.drop 1 ∧
      t.dev.g (lgtG p.val) Reg.LGT.RPTSTAT_CREDITS = (if (s.dev.gate p.val).reports = [] then
        s.dev.g (lgtG p.val) Reg.LGT.RPTSTAT_CREDITS else min 512 (s.dev.g (lgtG p.val) Reg.LGT.RPTSTAT_CREDITS + 1)) ∧
      s.onlyTouches { t with dev := { t.dev with gates := s.dev.gates } }
        [lgtG p.val + Reg.LGT.GSTAT_HELD.off, lgtG p.val + Reg.LGT.RPTSTAT_DEPTH.off,
          lgtG p.val + Reg.LGT.RPTSTAT_CREDITS.off] []

/-! ### The responder -/

/-- A service entry commits whole, or without VALID where R331 refuses it. The oldest request waiting takes a credit, or is
dropped at the classifier and counted (R23, R334), and waits while its page sleeps (R436); it is parsed or leaves (R333,
R344), is classified into its kind, an NTP request with the scale of its timebase, or leaves (R341, R355, R356, R72); its
token bucket, of a bank in service, admits it, answers RATE or denies it (R31, R351, R353), and an admitted one is mirrored
(R421); it is verified, answered with NTSN, or fails (R346, R347, R359); its reply is built at its launch (R342, R348, R357),
sealed, or aborted for want of a key (R359, R377); and handed over, dropped when late, or kept while no gate credit is there
(R316, R333, R335). A probe counts nothing where it leaves Parse, Classify or Seal, and neither it nor a mirrored request
meets the bucket (R401, R422). CLEAR empties the buckets (R354), HKEY is written, and NTS_MINT answers with its code (R350).
A request that is not in the stage named stays as it is. It says where SVC_ENTRY_COMMIT, RESPONDER_ACCEPT, REQUEST_PARSE,
REQUEST_CLASSIFY, RATE_CHECK, REQUEST_VERIFY, REPLY_BUILD, REPLY_SEAL, LATE_CHECK, RATE_CLEAR, HKEY_WRITE and NTS_MINT
complete. -/
def Obligations.RequestsPassTheirStages : Prop :=
  (∀ (m : Master) (h : Half) (a : Fin 64) (v : Word) (s : State), s.writable m (trsEnt h a.val + 28) →
    let v1 := mergeWrite (trsEnt h a.val + 28) 0 v.toNat
    let e := s.dev.stagedEntry h a.val v1
    let bad := bitAt v1 31 && s.dev.entryRefused h a.val e
    ∃ t, exec (.svcEntryCommit m h a v) s = .next t ∧
      (∀ i < 7, t.dev.w (trsEnt h a.val + 4 * i) = (e[i]?.getD 0)) ∧
      t.dev.w (trsEnt h a.val + 28) = (if bad then v1 % 2 ^ 31 else v1) ∧
      t.dev.evt (trsPg h) 1 = (if bad then (s.dev.evt (trsPg h) 1).occur else s.dev.evt (trsPg h) 1) ∧
      s.onlyTouches { t with dev := { t.dev with svcStage := s.dev.svcStage } }
        ((List.range 8).map fun i => trsEnt h a.val + 4 * i) [trsPg h + 1]) ∧
  (∀ (h : Half) (s : State), (s.dev.rsp h).reqs.find? (fun x => x.stage == .arrived) = none →
    exec (.responderAccept h) s = .next s) ∧
  (∀ (h : Half) (r : Req) (s : State), (s.dev.rsp h).reqs.find? (fun x => x.stage == .arrived) = some r →
    let reg := if r.origin.isSome then redPg h + Reg.RED.MIRROR_RXDROP.off
      else if r.bridged then swcPg h.other + Reg.SWC.BRIDGE_DROP.off else swcW h (r.desc.port / 2) + Reg.SWC.SVC_DROP.off
    (s.dev.trsOn h = true → s.dev.inP0 (trsPg h) = false → exec (.responderAccept h) s = .next s) ∧
    (s.dev.trsOn h = true → s.dev.inP0 (trsPg h) = true → s.dev.creditsUsed h < 512 →
      ∃ t, exec (.responderAccept h) s = .next t ∧
        (t.dev.rsp h).reqs = (s.dev.rsp h).reqs.map (fun x =>
          if x.id = r.id then { r with stage := .parse, lead := s.dev.leadNs h } else x) ∧
        { t.dev with resp := s.dev.resp } = s.dev ∧ s.keepsRest t) ∧
    ((s.dev.trsOn h = false ∨ (s.dev.inP0 (trsPg h) = true ∧ 512 ≤ s.dev.creditsUsed h)) →
      ∃ t, exec (.responderAccept h) s = .next t ∧
        (t.dev.rsp h).reqs = (s.dev.rsp h).reqs.filter (fun x => x.id != r.id) ∧
        t.dev.w reg = (s.dev.w reg + 1) % 2 ^ 32 ∧
        s.onlyTouches { t with dev := { t.dev with resp := s.dev.resp } } [reg] [])) ∧
  (∀ (h : Half) (id : Nat) (s : State),
    let is := fun st : Stage => ∃ r, s.dev.req h id = some r ∧ r.stage = st
    (¬ is .parse → exec (.requestParse h id) s = .next s) ∧
    (¬ is .classify → exec (.requestClassify h id) s = .next s) ∧
    (¬ is .rate ∨ s.dev.inP0 (rltPg h) = false → ∀ credit, exec (.rateCheck h id credit) s = .next s) ∧
    (¬ is .verify → exec (.requestVerify h id) s = .next s) ∧
    (¬ is .build → exec (.replyBuild h id) s = .next s) ∧
    (¬ is .seal → exec (.replySeal h id) s = .next s) ∧
    (¬ is .late → exec (.lateCheck h id) s = .next s)) ∧
  (∀ (h : Half) (id : Nat) (r : Req) (s : State), s.dev.req h id = some r → r.stage = .parse →
    (parseOk r.ent (msgOf r.bytes) = true →
      ∃ t, exec (.requestParse h id) s = .next t ∧ t.dev.req h id = some { r with stage := .classify } ∧
        { t.dev with resp := s.dev.resp } = s.dev ∧ s.keepsRest t) ∧
    (parseOk r.ent (msgOf r.bytes) = false →
      ∃ t, exec (.requestParse h id) s = .next t ∧ t.dev.req h id = none ∧
        t.dev.w (trsPg h + 0x370) = (s.dev.w (trsPg h + 0x370) + bitOf (!r.probe)) % 2 ^ 32 ∧
        s.onlyTouches { t with dev := { t.dev with resp := s.dev.resp } } [trsPg h + 0x370] [])) ∧
  (∀ (h : Half) (id : Nat) (r : Req) (s : State), s.dev.req h id = some r → r.stage = .classify →
    (msgOf r.bytes).isPtp = false →
    let own := !r.probe && r.origin.isNone
    let prof := (List.range 3).map fun i => s.dev.w (rltPg h + 0x100 + 0x10 * entBits r.ent 6 20 2 + 4 * i)
    (∀ k, ntpAnswered r.ent (msgOf r.bytes).body = some k →
      let c := trsPg h + (if k = .nts then 0x364 else 0x360)
      ∃ t, exec (.requestClassify h id) s = .next t ∧
        t.dev.req h id = some { r with stage := if own then .rate else .verify, kind := k, prof := prof
                                       scale := s.dev.scale h (entBits r.ent 6 16 4) } ∧
        t.dev.w c = (s.dev.w c + bitOf own) % 2 ^ 32 ∧
        s.onlyTouches { t with dev := { t.dev with resp := s.dev.resp } } [c] []) ∧
    (ntpAnswered r.ent (msgOf r.bytes).body = none →
      ∃ t, exec (.requestClassify h id) s = .next t ∧ t.dev.req h id = none ∧
        t.dev.w (trsPg h + 0x360) = (s.dev.w (trsPg h + 0x360) + bitOf own) % 2 ^ 32 ∧
        t.dev.w (trsPg h + 0x374) = (s.dev.w (trsPg h + 0x374) + bitOf (!r.probe)) % 2 ^ 32 ∧
        s.onlyTouches { t with dev := { t.dev with resp := s.dev.resp } } [trsPg h + 0x360, trsPg h + 0x374] [])) ∧
  (∀ (h : Half) (id : Nat) (r : Req) (s : State), s.dev.req h id = some r → r.stage = .classify →
    (msgOf r.bytes).isPtp = true →
    let m := msgOf r.bytes
    let own := !r.probe && r.origin.isNone
    let prof := (List.range 3).map fun i => s.dev.w (rltPg h + 0x100 + 0x10 * entBits r.ent 6 20 2 + 4 * i)
    let found := (s.dev.ptpService h r.ent (ptpDomain m.body)).bind fun n =>
      (ptpAnswered (s.dev.gb (trsPg h) Reg.TRS.PTPCFG_PAD_REQ) (s.dev.svcCfg h n) m
        (r.origin.isSome || (s.dev.delayGrant h n m).isSome)).map fun k => (n, k)
    (∀ n k, found = some (n, k) →
      ∃ t, exec (.requestClassify h id) s = .next t ∧
        t.dev.req h id = some { r with
          stage := if own then .rate else .verify, kind := k, svc := n, cfg := s.dev.svcCfg h n, prof := prof
          spp := s.dev.w (trsPg h + 0x340 + 8 * cfgBits (s.dev.svcCfg h n) Reg.TRS.AUTH_SPP_IDX) } ∧
        t.dev.w (trsPg h + 0x368) = (s.dev.w (trsPg h + 0x368) + bitOf own) % 2 ^ 32 ∧
        s.onlyTouches { t with dev := { t.dev with resp := s.dev.resp } } [trsPg h + 0x368] []) ∧
    (found = none →
      ∃ t, exec (.requestClassify h id) s = .next t ∧ t.dev.req h id = none ∧
        t.dev.w (trsPg h + 0x368) = (s.dev.w (trsPg h + 0x368) + bitOf own) % 2 ^ 32 ∧
        t.dev.w (trsPg h + 0x374) = (s.dev.w (trsPg h + 0x374) + bitOf (!r.probe)) % 2 ^ 32 ∧
        s.onlyTouches { t with dev := { t.dev with resp := s.dev.resp } } [trsPg h + 0x368, trsPg h + 0x374] [])) ∧
  (∀ (h : Half) (id : Nat) (credit : Bool) (r : Req) (s : State), s.dev.req h id = some r → r.stage = .rate →
    s.dev.inP0 (rltPg h) = true →
    let rate := (r.prof[0]?.getD 0) % 2 ^ 20
    let pfx := r.prof[2]?.getD 0
    let mean := r.desc.mean.getD 0
    let served := s.dev.bucketServing h (s.dev.bucketIdx h (entBits r.ent 6 20 2) (msgOf r.bytes) pfx)
    let free := rate = 0 ∨ s.dev.enabled (rltPg h) = false ∨
      (r.kind = .delayReq ∧ (s.dev.delayGrant h r.svc (msgOf r.bytes)).isSome = true) ∨ served = none
    (free → exec (.rateCheck h id credit) s =
        .next (s.withDev ((s.dev.mirrorSend h r credit).putReq h { r with stage := .verify })) ∧
      (s.dev.gb (redPg h) Reg.RED.MIRROR_EN = false → s.dev.mirrorSend h r credit = s.dev)) ∧
    ∀ i, ¬ free → served = some i →
      let b := (s.dev.bucket h i).refill mean rate (max 1 ((r.prof[1]?.getD 0) % 2 ^ 16))
      let kod := r.kind = .ntp ∧ bitAt pfx 16 = true ∧ ∀ k, b.kod = some k → k + ns32 (getBits pfx 24 8 * 10 ^ 9) ≤ mean
      (65536 ≤ b.tok → ∃ t, exec (.rateCheck h id credit) s = .next t ∧ t.dev.req h id = some { r with stage := .verify } ∧
        t.dev.bucket h i = { b with tok := b.tok - 65536 } ∧ (∀ j, j ≠ i → t.dev.bucket h j = s.dev.bucket h j) ∧
        t.dev.tbs = s.dev.tbs ∧ s.keepsRest t) ∧
      (b.tok < 65536 → kod → ∃ t x, exec (.rateCheck h id credit) s = .next t ∧ t.dev.req h id = some x ∧ x.stage = .late ∧
        x.out.map (·.t) = [r.launch] ∧ t.dev.bucket h i = { b with kod := some mean } ∧
        t.dev.g (rltPg h) Reg.RLT.KOD_SENT = (s.dev.g (rltPg h) Reg.RLT.KOD_SENT + 1) % 2 ^ 32 ∧
        t.dev.g (rltPg h) Reg.RLT.DENIED = (s.dev.g (rltPg h) Reg.RLT.DENIED + 1) % 2 ^ 32 ∧ t.dev.tbs = s.dev.tbs ∧
        s.keepsRest t) ∧
      (b.tok < 65536 → ¬ kod → ∃ t, exec (.rateCheck h id credit) s = .next t ∧ t.dev.req h id = none ∧
        t.dev.bucket h i = b ∧ t.dev.g (rltPg h) Reg.RLT.KOD_SENT = s.dev.g (rltPg h) Reg.RLT.KOD_SENT ∧
        t.dev.g (rltPg h) Reg.RLT.DENIED = (s.dev.g (rltPg h) Reg.RLT.DENIED + 1) % 2 ^ 32 ∧ t.dev.tbs = s.dev.tbs ∧
        s.keepsRest t)) ∧
  (∀ (h : Half) (id : Nat) (r : Req) (s : State), s.dev.req h id = some r → r.stage = .verify →
    let body := (msgOf r.bytes).body
    let mean := r.desc.mean.getD 0
    let ck := ((fieldOf body 0x0204).getD []).drop 4
    let opened := s.dev.openCookie h mean ck
    let good := fun p : List Byte =>
      (Config.sivOpen (p.take 32) [(ntsAuth body).1, (ntsAuth body).2.1] (ntsAuth body).2.2).isSome
    let nak := s.dev.keysOff h = false ∧ opened = none ∧ s.dev.gb (trsPg h) Reg.TRS.NTSCFG_NAK_EN = true ∧ r.origin = none
    let ptp := r.kind ≠ .ntp ∧ r.kind ≠ .nts
    let asks := cfgBits r.cfg Reg.TRS.AUTH_REQ_AUTH ≠ 0
    let fails := (r.kind = .nts ∧ (s.dev.keysOff h = true ∨ (opened = none ∧ ¬ nak) ∨
        ∃ k p, opened = some (k, p) ∧ good p = false)) ∨
      (ptp ∧ asks ∧ (s.dev.keysOff h = true ∨ s.dev.ptpVerified h body mean = none))
    (r.kind = .ntp ∨ (ptp ∧ ¬ asks) →
      ∃ t, exec (.requestVerify h id) s = .next t ∧ t.dev.req h id = some { r with stage := .build } ∧
        { t.dev with resp := s.dev.resp } = s.dev ∧ s.keepsRest t) ∧
    (∀ k, ptp → asks → s.dev.keysOff h = false → s.dev.ptpVerified h body mean = some k →
      ∃ t, exec (.requestVerify h id) s = .next t ∧ t.dev.req h id = some { r with stage := .build, slots := [k] } ∧
        s.dev.sameEvents t.dev [] ∧ t.dev.tbs = s.dev.tbs ∧ s.keepsRest t) ∧
    (∀ k p, r.kind = .nts → s.dev.keysOff h = false → opened = some (k, p) → good p = true →
      ∃ t, exec (.requestVerify h id) s = .next t ∧
        t.dev.req h id = some { r with
          stage := .build, slots := [k]
          nts := some { c2s := p.take 32, s2c := sliceB p 32 32, uid := (fieldOf body 0x0104).getD []
                        nonce := (ntsAuth body).2.1.take 16, k := (ntsForm body).getD 0, fam := beAt ck 1 1 / 16 } } ∧
        s.dev.sameEvents t.dev [] ∧ t.dev.tbs = s.dev.tbs ∧ s.keepsRest t) ∧
    (r.kind = .nts → nak →
      ∃ t x, exec (.requestVerify h id) s = .next t ∧ t.dev.req h id = some x ∧ x.stage = .late ∧
        x.out.map (·.t) = [r.launch] ∧ t.dev.w (trsPg h + 0x37C) = (s.dev.w (trsPg h + 0x37C) + 1) % 2 ^ 32 ∧
        s.onlyTouches { t with dev := { t.dev with resp := s.dev.resp } } [trsPg h + 0x37C] []) ∧
    (fails →
      ∃ t, exec (.requestVerify h id) s = .next t ∧ t.dev.req h id = none ∧
        t.dev.w (trsPg h + 0x378) = (s.dev.w (trsPg h + 0x378) + 1) % 2 ^ 32 ∧
        t.dev.evt (trsPg h) 2 = (if (s.dev.rsp h).failMs = some (s.dev.tb0 h / ns32 1000000) then s.dev.evt (trsPg h) 2
          else (s.dev.evt (trsPg h) 2).occur) ∧ s.dev.sameEvents t.dev [trsPg h + 2] ∧ t.dev.tbs = s.dev.tbs ∧ s.keepsRest t)) ∧
  (∀ (h : Half) (id : Nat) (r : Req) (s : State), s.dev.req h id = some r → r.stage = .build →
    (r.kind = .signaling → exec (.replyBuild h id) s = .next s) ∧
    (r.kind = .ntp ∨ r.kind = .nts → 48 ≤ (msgOf r.bytes).body.length →
      ∃ t x g o payload, exec (.replyBuild h id) s = .next t ∧ t.dev.req h id = some x ∧ x.stage = .seal ∧ x.out = [g] ∧
        g.t = r.launch ∧ g.port = portOf h (r.desc.port / 2) ∧ g.gen = r.desc.stepgen ∧ g.body = .built o payload ∧
        o.dport = ((msgOf r.bytes).udp.map (·.sport)).getD 0 ∧ sliceB payload 24 8 = sliceB (msgOf r.bytes).body 40 8 ∧
        beAt payload 0 1 % 8 = 4 ∧ payload.drop 48 = (if r.kind = .nts then (r.nts.map (·.uid)).getD [] else []) ∧
        { t.dev with resp := s.dev.resp } = s.dev ∧ s.keepsRest t) ∧
    (r.kind = .delayReq ∨ r.kind = .pdelayReq →
      ∃ t x, exec (.replyBuild h id) s = .next t ∧ t.dev.req h id = some x ∧ x.stage = .seal ∧
        x.out.map (·.t) = (if r.kind = .pdelayReq ∧ cfgBits r.cfg Reg.TRS.PCFG_TWO_STEP ≠ 0 then [r.launch, r.launch + 2048]
          else [r.launch]) ∧ (∀ g ∈ x.out, g.port = portOf h (r.desc.port / 2)) ∧
        { t.dev with resp := s.dev.resp } = s.dev ∧ s.keepsRest t)) ∧
  (∀ (h : Half) (id : Nat) (r : Req) (s : State), s.dev.req h id = some r → r.stage = .seal →
    let mean := r.desc.mean.getD 0
    let ptp := (r.kind = .delayReq ∨ r.kind = .pdelayReq ∨ r.kind = .signaling) ∧ cfgBits r.cfg Reg.TRS.AUTH_AUTH_EN = 1
    let key := match r.nts with
      | some c => s.dev.activeAt h c.fam mean
      | none => if s.dev.keysOff h then none else s.dev.sppSlot h r.spp mean
    let seals := fun k g => match r.nts with
      | some c => s.dev.sealFrame h g fun p => p ++ s.dev.ntsSeal h c k p
      | none => s.dev.sealFrame h g (s.dev.ptpSeal h r.spp k)
    (r.nts = none → ¬ ptp →
      ∃ t, exec (.replySeal h id) s = .next t ∧ t.dev.req h id = some { r with stage := .late, slots := [] } ∧
        { t.dev with resp := s.dev.resp } = s.dev ∧ s.keepsRest t) ∧
    (r.nts.isSome = true ∨ ptp → key = none →
      ∃ t, exec (.replySeal h id) s = .next t ∧ t.dev.req h id = none ∧
        t.dev.w (trsPg h + 0x384) = (s.dev.w (trsPg h + 0x384) + bitOf (!r.probe)) % 2 ^ 32 ∧
        (r.probe = false → t.dev.evt (trsPg h) 3 = (s.dev.evt (trsPg h) 3).occur) ∧
        s.onlyTouches { t with dev := { t.dev with resp := s.dev.resp } } [trsPg h + 0x384]
          (if r.probe then [] else [trsPg h + 3])) ∧
    (∀ k, r.nts.isSome = true ∨ ptp → key = some k →
      ∃ t, exec (.replySeal h id) s = .next t ∧
        t.dev.req h id = some { r with stage := .late, slots := [], out := r.out.map (seals k) } ∧
        t.dev.cads = s.dev.cads ∧ s.dev.sameEvents t.dev [] ∧ t.dev.tbs = s.dev.tbs ∧ s.keepsRest t)) ∧
  (∀ (h : Half) (id : Nat) (r : Req) (s : State), s.dev.req h id = some r → r.stage = .late →
    let late := r.probe = false ∧ ∃ g ∈ r.out, g.sealed = true ∧ s.dev.deadline g.port g.t < s.dev.tb0 h
    (late → ∃ t, exec (.lateCheck h id) s = .next t ∧ t.dev.req h id = none ∧
      t.dev.w (trsPg h + 0x380) = (s.dev.w (trsPg h + 0x380) + 1) % 2 ^ 32 ∧
      s.onlyTouches { t with dev := { t.dev with resp := s.dev.resp } } [trsPg h + 0x380] []) ∧
    (¬ late → s.dev.gateTakes h r.out = false → exec (.lateCheck h id) s = .next s) ∧
    (¬ late → s.dev.gateTakes h r.out = true →
      exec (.lateCheck h id) s = .next (s.withDev ((s.dev.dropReq h r.id).handOver h r.out)) ∧
      ∀ g, r.out = [g] → g.after = none → portHalf g.port = h →
        ∃ t, exec (.lateCheck h id) s = .next t ∧ t.dev.req h id = none ∧
          (t.dev.plane h).gateIn = (s.dev.plane h).gateIn ++ [g] ∧
          { t.dev with resp := s.dev.resp, planes := s.dev.planes } = s.dev ∧ s.keepsRest t)) ∧
  (∀ (m : Master) (h : Half) (s : State), s.writable m (rltPg h + 0x15C) →
    ∃ t, exec (.rateClear m h) s = .next t ∧ (∀ i < 65536, t.dev.bucket h i = {}) ∧
      (∀ i < 65536, t.dev.bucket h.other i = s.dev.bucket h.other i) ∧ t.dev.g (rltPg h) Reg.RLT.OCC = 0 ∧
      s.onlyTouches { t with dev := { t.dev with resp := s.dev.resp, buckets := s.dev.buckets } }
        [rltPg h + Reg.RLT.OCC.off] []) ∧
  (∀ (m : Master) (h : Half) (w : Fin 4) (v : Word) (s : State), s.writable m (rltPg h + 0x140 + 4 * w.val) →
    ∃ t, exec (.hkeyWrite m h w v) s = .next t ∧ t.dev.w (rltPg h + 0x140 + 4 * w.val) = v.toNat ∧
      s.onlyTouches t [rltPg h + 0x140 + 4 * w.val] []) ∧
  (∀ (b : Fin 4) (s : State), (s.dev.mb b.val).waiting 0x0300 = none ∨ s.dev.coresRun (mbxHalf b.val) = false →
    exec (.ntsMint b) s = .next s) ∧
  ∀ (b : Fin 4) (c : FwCmd) (s : State), (s.dev.mb b.val).waiting 0x0300 = some c →
    s.dev.coresRun (mbxHalf b.val) = true →
    let n := (c.req[0]?.getD 0).toNat / 256 % 4
    let k := s.dev.activeAt (mbxHalf b.val) ((c.req[0]?.getD 0).toNat % 16) (s.dev.tb0 (mbxHalf b.val))
    let code := if c.len ≠ 17 then codeBadLen else if s.dev.keysOff (mbxHalf b.val) then codeNotPermitted
      else if n = 0 ∨ n = 3 ∨ k = none then codeBadArg else codeOK
    (code ≠ codeOK → ∃ t, exec (.ntsMint b) s = .next t ∧ s.finished t b.val c code [] ∧
      s.onlyTouches { t with dev := { t.dev with mbx := s.dev.mbx } } [] []) ∧
    (∀ x, code = codeOK → k = some x →
      ∃ t rsp, exec (.ntsMint b) s = .next t ∧
        s.finished t b.val c codeOK (BitVec.ofNat 32 (s.dev.slot (mbxHalf b.val) x).keyid :: rsp) ∧
        t.dev.cads = s.dev.cads ∧ s.dev.sameEvents t.dev [] ∧ t.dev.tbs = s.dev.tbs ∧ s.keepsRest t)

/-- A service's Announce leaves once for an instant on each port of MPORTS in the half that has a source entry (R357, R358),
a grant's Sync or Announce at its instant with the Follow_Up of a two-step one after it (R358, R363), and a follow-up next in
line; nothing is sent where the message cannot be sealed (R359, R377). A Signaling request is decided in the deciding half
and ends in the other (R362): one for a grant is refused below the limits or without negotiation, renews the client's grant,
takes a free entry, or finds the table full, and a cancel frees the entry. A grant expires once nothing before its expiry is
owed (R363), is revoked with a cancel on both ports (R363), and the table is copied whole, once in a millisecond (R364), with
GRT_COPY_LOST after 4 ms without (R370); a request held for its twin is released after HOLD_NS (R403). What is not due
changes nothing. It says where ANNOUNCE_SEND, UNICAST_GRANT_SEND, FOLLOW_UP_SEND, SIGNALING_REQUEST, GRANT_EXPIRE,
GRANT_REVOKE, GRANT_COPY, GRANT_COPY_LOST and PRP_HOLD_EXPIRE complete. -/
def Obligations.GrantsAndOriginatedMessages : Prop :=
  (∀ (h : Half) (n : Fin 16) (s : State),
    let cfg := s.dev.svcCfg h n.val
    let per := max 1 (logInterval (signedOf 8 (cfgBits cfg Reg.TRS.INTV_LOGANN)))
    let off := ns32 (1000000 * n.val)
    let i := (s.dev.tb0 h - off) / per * per + off
    let due := s.dev.originates h n.val = true ∧ off ≤ s.dev.tb0 h ∧ tget 0 (s.dev.rsp h).anns n.val ≠ i + 1
    (¬ due → exec (.announceSend h n) s = .next s) ∧
    (due → ∃ t l, exec (.announceSend h n) s = .next t ∧ tget 0 (t.dev.rsp h).anns n.val = i + 1 ∧
      (t.dev.plane h).gateIn = (s.dev.plane h).gateIn ++ l ∧
      (s.dev.sealable h cfg i = true → l.map (·.port) = ((List.range 4).map (portOf h)).filter fun p =>
        bitAt (cfgBits cfg Reg.TRS.MCAST_MPORTS) p && (s.dev.sourceEntry h n.val p).isSome) ∧
      (s.dev.sealable h cfg i = false → l = []) ∧ (∀ g ∈ l, g.t = s.dev.originLaunch h i ∧ g.cls = 6) ∧
      (t.dev.rsp h).follow = (s.dev.rsp h).follow ∧ t.dev.tbs = s.dev.tbs ∧ s.keepsRest t)) ∧
  (∀ (h : Half) (n : Fin 4096) (s : State),
    let g := s.dev.grant h n.val
    let i := g.instant g.next
    let cfg := s.dev.svcCfg h g.svc
    let due := g.active = true ∧ g.mtype ≠ 2 ∧ i ≤ s.dev.tb0 h ∧ i < g.expiry ∧ s.dev.originates h g.svc = true
    (¬ due → exec (.unicastGrantSend h n) s = .next s) ∧
    (due → s.dev.sealable h cfg i = false →
      ∃ t, exec (.unicastGrantSend h n) s = .next t ∧ t.dev.grant h n.val = { g with next := g.next + 1 } ∧
        t.dev.planes = s.dev.planes ∧ (t.dev.rsp h).follow = (s.dev.rsp h).follow ∧ t.dev.tbs = s.dev.tbs ∧ s.keepsRest t) ∧
    (due → s.dev.sealable h cfg i = true →
      ∃ t x, exec (.unicastGrantSend h n) s = .next t ∧ t.dev.grant h n.val = { g with next := g.next + 1 } ∧
        (t.dev.plane h).gateIn = (s.dev.plane h).gateIn ++ [x] ∧ x.port = portOf h g.pair ∧
        x.t = s.dev.originLaunch h i ∧ x.cls = (if g.mtype = 1 then 5 else 6) ∧
        (¬ (g.mtype = 1 ∧ cfgBits cfg Reg.TRS.PCFG_TWO_STEP = 1) → (t.dev.rsp h).follow = (s.dev.rsp h).follow) ∧
        (g.mtype = 1 → cfgBits cfg Reg.TRS.PCFG_TWO_STEP = 1 → ∃ f, (t.dev.rsp h).follow = (s.dev.rsp h).follow ++ [f] ∧
          f.port = x.port ∧ f.t = x.t + 2048 ∧ f.after = some x.id) ∧ t.dev.tbs = s.dev.tbs ∧ s.keepsRest t)) ∧
  (∀ (h : Half) (s : State),
    ((s.dev.rsp h).follow = [] → exec (.followUpSend h) s = .next s) ∧
    ∀ (g : GFrame) (rest : List GFrame), (s.dev.rsp h).follow = g :: rest →
      ∃ t, exec (.followUpSend h) s = .next t ∧ (t.dev.rsp h).follow = rest ∧
        (t.dev.plane (portHalf g.port)).gateIn = (s.dev.plane (portHalf g.port)).gateIn ++ [g] ∧
        { t.dev with resp := s.dev.resp, planes := s.dev.planes } = s.dev ∧ s.keepsRest t) ∧
  (∀ (h : Half) (id : Nat) (s : State),
    s.dev.inP0 (grtPg h) = false ∨ (∀ r, s.dev.req h id = some r → r.stage ≠ .build ∨ r.kind ≠ .signaling) →
    exec (.signalingRequest h id) s = .next s) ∧
  (∀ (h : Half) (id : Nat) (r : Req) (s : State), s.dev.req h id = some r → r.stage = .build → r.kind = .signaling →
    s.dev.inP0 (grtPg h) = true →
    (h ≠ s.dev.grantHalf → ∃ t, exec (.signalingRequest h id) s = .next t ∧ t.dev.req h id = none ∧
      { t.dev with resp := s.dev.resp } = s.dev ∧ s.keepsRest t) ∧
    (h = s.dev.grantHalf → ∃ t x, exec (.signalingRequest h id) s = .next t ∧ t.dev.req h id = some x ∧ x.stage = .seal ∧
      x.out.map (·.port) = [portOf h (r.desc.port / 2), portOf h.other (r.desc.port / 2)] ∧
      (∀ g ∈ x.out, g.t = r.launch) ∧ t.dev.tbs = s.dev.tbs ∧ s.keepsRest t) ∧
    (∀ o v, h = s.dev.grantHalf → ptpTlvs (msgOf r.bytes).body = [(o, 4, v)] →
      let log := signedOf 8 (beAt v 1 1)
      let now := s.dev.tb0 h
      let exp := now + ns32 (clampNat 10 (max 10 (cfgBits r.cfg Reg.TRS.GRANT_MAXDUR)) (beAt v 2 4) * 10 ^ 9)
      let start := ceilDiv (now + ns32 2000000) (ns32 1000000) * 1000000
      let low := fun mt => cfgBits r.cfg Reg.TRS.PCFG_UNICAST_NEG = 0 ∨
        (mt = 1 ∧ log < clampInt (-7) 4 (signedOf 8 (cfgBits r.cfg Reg.TRS.GRANT_MINLOGSYNC))) ∨
        (mt = 0 ∧ log < clampInt (-3) 4 (signedOf 8 (cfgBits r.cfg Reg.TRS.GRANT_MINLOGANN)))
      let denied := fun t : State => t.dev.grants = s.dev.grants ∧
        t.dev.g (grtPg h) Reg.GRT.DENIED = (s.dev.g (grtPg h) Reg.GRT.DENIED + 1) % 2 ^ 32
      (grantType (beAt v 0 1 / 16) = none → ∃ t, exec (.signalingRequest h id) s = .next t ∧ denied t) ∧
      ∀ mt, grantType (beAt v 0 1 / 16) = some mt →
        (low mt → ∃ t, exec (.signalingRequest h id) s = .next t ∧ denied t) ∧
        (∀ n g, ¬ low mt → s.dev.grantOf h (clientOf r) mt = some (n, g) →
          ∃ t, exec (.signalingRequest h id) s = .next t ∧ t.dev.grant h n =
            (if g.logint = log then { g with expiry := exp }
             else { g with expiry := exp, logint := log, start := start, next := 0 }) ∧
            ∀ k < 4096, k ≠ n → t.dev.grant h k = s.dev.grant h k) ∧
        (¬ low mt → s.dev.grantOf h (clientOf r) mt = none →
          ((∀ n < 4096, (s.dev.grant h n).active = true) →
            ∃ t, exec (.signalingRequest h id) s = .next t ∧ denied t ∧
              t.dev.evt (grtPg h) 0 = (s.dev.evt (grtPg h) 0).occur) ∧
          ∀ n < 4096, (s.dev.grant h n).active = false → (∀ k < n, (s.dev.grant h k).active = true) →
            ∃ t, exec (.signalingRequest h id) s = .next t ∧
              t.dev.grant h n = { clientOf r with
                active := true, mtype := mt, logint := log, start := start, expiry := exp, gen := 0, next := 0 } ∧
              (∀ k < 4096, k ≠ n → t.dev.grant h k = s.dev.grant h k) ∧
              t.dev.g (grtPg h) Reg.GRT.GRANTED = (s.dev.g (grtPg h) Reg.GRT.GRANTED + 1) % 2 ^ 32)) ∧
    ∀ o v, h = s.dev.grantHalf → ptpTlvs (msgOf r.bytes).body = [(o, 6, v)] →
      let mine := (grantType (beAt v 0 1 / 16)).bind (s.dev.grantOf h (clientOf r))
      (mine = none → ∃ t, exec (.signalingRequest h id) s = .next t ∧ t.dev.grants = s.dev.grants) ∧
      ∀ n g, mine = some (n, g) → ∃ t, exec (.signalingRequest h id) s = .next t ∧ t.dev.grant h n = {} ∧
        (∀ k < 4096, k ≠ n → t.dev.grant h k = s.dev.grant h k) ∧
        t.dev.g (grtPg h) Reg.GRT.CANCELLED = (s.dev.g (grtPg h) Reg.GRT.CANCELLED + 1) % 2 ^ 32) ∧
  (∀ (h : Half) (n : Fin 4096) (s : State),
    let g := s.dev.grant h n.val
    (g.active = false ∨ s.dev.tb0 h < g.expiry ∨ s.dev.grantOwes h g = true → exec (.grantExpire h n) s = .next s) ∧
    (g.active = true → g.expiry ≤ s.dev.tb0 h → s.dev.grantOwes h g = false →
      ∃ t, exec (.grantExpire h n) s = .next t ∧ t.dev.grant h n.val = {} ∧
        (∀ k < 4096, k ≠ n.val → t.dev.grant h k = s.dev.grant h k) ∧
        t.dev.g (grtPg h) Reg.GRT.EXPIRED = (s.dev.g (grtPg h) Reg.GRT.EXPIRED + 1) % 2 ^ 32 ∧
        s.onlyTouches { t with dev := { t.dev with grants := s.dev.grants } }
          [grtPg h + Reg.GRT.GSTAT.off, grtPg h + Reg.GRT.EXPIRED.off] [])) ∧
  (∀ (m : Master) (h : Half) (n : Fin 4096) (s : State), s.writable m (grtPg h + 0x11C) →
    let g := s.dev.grant h n.val
    let acts := g.active = true ∧ (h = .weft → s.dev.outOfService .warp = true)
    (¬ acts → ∃ t, exec (.grantRevoke m h n) s = .next t ∧ s.onlyTouches t [] []) ∧
    (acts → ∃ t, exec (.grantRevoke m h n) s = .next t ∧ t.dev.grant h n.val = {} ∧
      (∀ k < 4096, k ≠ n.val → t.dev.grant h k = s.dev.grant h k) ∧
      t.dev.g (grtPg h) Reg.GRT.CANCELLED = (s.dev.g (grtPg h) Reg.GRT.CANCELLED + 1) % 2 ^ 32 ∧
      (s.dev.sealable h (s.dev.svcCfg h g.svc) (s.dev.tb0 h) = true → ∃ x y,
        (t.dev.plane h).gateIn = (s.dev.plane h).gateIn ++ [x] ∧ x.port = portOf h g.pair ∧
        (t.dev.plane h).bridge = (s.dev.plane h).bridge ++ [.gated y] ∧ y.port = portOf h.other g.pair) ∧
      (s.dev.sealable h (s.dev.svcCfg h g.svc) (s.dev.tb0 h) = false → t.dev.planes = s.dev.planes) ∧
      t.dev.tbs = s.dev.tbs ∧ s.keepsRest t)) ∧
  (∀ (ok : Bool) (s : State),
    let src := s.dev.grantHalf
    let ms := s.dev.tb0 src / ns32 1000000 + 1
    let whole := ok = true ∧ s.dev.outOfService src = false ∧ s.dev.planeUp src.other = true
    ((s.dev.rsp src).copied = ms → exec (.grantCopy ok) s = .next s) ∧
    ((s.dev.rsp src).copied ≠ ms → ¬ whole → ∃ t, exec (.grantCopy ok) s = .next t ∧ (t.dev.rsp src).copied = ms ∧
      { t.dev with resp := s.dev.resp } = s.dev ∧ s.keepsRest t) ∧
    ((s.dev.rsp src).copied ≠ ms → whole → ∃ t, exec (.grantCopy ok) s = .next t ∧ (t.dev.rsp src).copied = ms ∧
      (∀ n < 4096, ∀ e : Half,
        { t.dev.grant e n with gen := 0, next := 0 } = { s.dev.grant src n with gen := 0, next := 0 }) ∧
      (∀ n < 4096, (t.dev.grant src n).next = (s.dev.grant src n).next) ∧
      (∀ e : Half, t.dev.g (grtPg e) Reg.GRT.COPYGEN = (s.dev.g (grtPg src) Reg.GRT.COPYGEN + 1) % 2 ^ 16) ∧
      (t.dev.rsp src.other).copyAt = s.dev.tb0 src.other ∧ (t.dev.rsp src.other).copyLost = false ∧
      s.dev.sameEvents t.dev [] ∧ t.dev.tbs = s.dev.tbs ∧ s.keepsRest t)) ∧
  (∀ s : State,
    let due := s.dev.outOfService .warp = false ∧ (s.dev.rsp .weft).copyLost = false ∧
      (s.dev.rsp .weft).copyAt + ns32 4000000 ≤ s.dev.tb0 .weft
    (¬ due → exec .grantCopyLost s = .next s) ∧
    (due → ∃ t, exec .grantCopyLost s = .next t ∧ (t.dev.rsp .weft).copyLost = true ∧
      t.dev.evt (grtPg .weft) 1 = (s.dev.evt (grtPg .weft) 1).occur ∧
      s.onlyTouches { t with dev := { t.dev with resp := s.dev.resp } } [] [grtPg .weft + 1])) ∧
  (∀ (h : Half) (s : State), (∀ r ∈ (s.dev.rsp h).held.head?,
      s.dev.tb0 h < r.at_ + ns32 (min 2000 (s.dev.g (redPg h) Reg.RED.PRP_HOLD_NS))) →
    exec (.prpHoldExpire h) s = .next s) ∧
  ∀ (h : Half) (r : Req) (rest : List Req) (s : State), (s.dev.rsp h).held = r :: rest →
    r.at_ + ns32 (min 2000 (s.dev.g (redPg h) Reg.RED.PRP_HOLD_NS)) ≤ s.dev.tb0 h →
    ∃ t, exec (.prpHoldExpire h) s = .next t ∧ (t.dev.rsp h).held = rest ∧
      (t.dev.rsp h).reqs = (s.dev.rsp h).reqs ++ [{ r.strip with id := (s.dev.rsp h).nextId, stage := .arrived }] ∧
      { t.dev with resp := s.dev.resp } = s.dev ∧ s.keepsRest t

/-- A client instance takes the waiting messages of its port and transport in turn, and one that it does not hear, or that
fails authentication, is discarded (R360, R359). It keeps the masters it hears; the deciding half takes the best within the
timeout, and has the other half take it at its next second (R131, R360); a Sync or Follow_Up of its parent and its flow gives
its timestamps, and is missed after three intervals (R131, R360); it sends its delay request in the half of its port, no
sooner than its interval, and averages up to sixteen answers of either mechanism (R360); the deciding half takes the parent's
grants and refusals and asks for those due (R360); and a change of its settings returns it to LISTENING and cancels its
grants (R360). What does not apply leaves the instance as it was. It says where INSTANCE_ANNOUNCE, INSTANCE_SYNC,
INSTANCE_DELAY_RESP, INSTANCE_ANNOUNCE_TIMEOUT, INSTANCE_SYNC_TIMEOUT, INSTANCE_DELAY_REQ, INSTANCE_GRANT_RENEW and
INSTANCE_CONFIG_WRITE complete. -/
def Obligations.InstancesFollowTheirParent : Prop :=
  (∀ (h : Half) (k : Fin 4) (s : State),
    ((s.dev.instTake h k.val [0xB]).2 = none →
      exec (.instanceAnnounce h k) s = .next (s.withDev (s.dev.instTake h k.val [0xB]).1)) ∧
    ((s.dev.instTake h k.val [0, 8]).2 = none →
      exec (.instanceSync h k) s = .next (s.withDev (s.dev.instTake h k.val [0, 8]).1)) ∧
    ((s.dev.instTake h k.val [9, 3, 0xA]).2 = none →
      exec (.instanceDelayResp h k) s = .next (s.withDev (s.dev.instTake h k.val [9, 3, 0xA]).1)) ∧
    ∀ types, ((s.dev.inst h k.val).rx.all fun x => !(types.contains (ptpType (msgOf x.2).body))) = true →
      s.dev.instTake h k.val types = (s.dev, none)) ∧
  (∀ (h : Half) (k : Fin 4) (n : Nat) (x : Desc × Msg) (s : State),
    (s.dev.instTake h k.val [0xB]).2 = some x → s.dev.instSvc h k.val = some n →
    let f := s.dev.foreignOf h (s.dev.g (trsV h n) Reg.TRS.PCFG_PROFILE) x.2
    ∃ t, exec (.instanceAnnounce h k) s = .next t ∧
      (t.dev.inst h k.val).masters = (s.dev.inst h k.val).masters.filter (fun y => y.source != f.source) ++ [f] ∧
      (h = s.dev.lead → (t.dev.inst h k.val).parent = t.dev.bestMaster h k.val ∧
        (t.dev.inst h.other k.val).next = some (t.dev.inst h k.val).parent) ∧
      (h ≠ s.dev.lead → (t.dev.inst h k.val).parent = (s.dev.inst h k.val).parent) ∧
      (∀ j < 4, j ≠ k.val → ∀ e : Half, t.dev.inst e j = s.dev.inst e j) ∧ t.dev.resp = s.dev.resp ∧
      t.dev.tbs = s.dev.tbs ∧ s.keepsRest t) ∧
  (∀ (h : Half) (k : Fin 4) (s : State),
    let st := s.dev.inst h k.val
    let heard := st.parent.bind fun p => st.masters.find? fun x => x.source == p.source
    ((∀ f, heard = some f → s.dev.fresh h k.val f = true) → exec (.instanceAnnounceTimeout h k) s = .next s) ∧
    ∀ f, heard = some f → s.dev.fresh h k.val f = false →
      ∃ t, exec (.instanceAnnounceTimeout h k) s = .next t ∧
        (t.dev.inst h k.val).masters = st.masters.filter (s.dev.fresh h k.val) ∧
        (h = s.dev.lead → (t.dev.inst h k.val).parent = t.dev.bestMaster h k.val ∧
          (t.dev.inst h.other k.val).next = some (t.dev.inst h k.val).parent) ∧
        (h ≠ s.dev.lead → (t.dev.inst h k.val).parent = st.parent) ∧
        (h ≠ s.dev.lead ∨ st.masters.filter (s.dev.fresh h k.val) = [] → (t.dev.inst h k.val).annLost = true) ∧
        t.dev.tbs = s.dev.tbs ∧ s.keepsRest t) ∧
  (∀ (h : Half) (k : Fin 4) (x : Desc × Msg) (s : State), (s.dev.instTake h k.val [0, 8]).2 = some x →
    let b := x.2.body
    let d := (s.dev.instTake h k.val [0, 8]).1
    let st := s.dev.inst h k.val
    let mine := st.fromParent x.2 = true ∧ s.dev.instFlow h k.val 1 x.2 = true
    let takes := fun (t1 : Int) (t2 : Nat) =>
      let t := s.withDev (d.syncTaken h k.val t1 t2 (beAt b 33 1))
      exec (.instanceSync h k) s = .next t ∧ (t.dev.inst h k.val).t1t2 = some (t1, t2) ∧
        (t.dev.inst h k.val).syncAt = s.dev.tb0 h ∧ (t.dev.inst h k.val).syncLost = false ∧
        (t.dev.inst h k.val).waitSync = none ∧ (t.dev.inst h k.val).delays = st.delays ∧ t.dev.tbs = s.dev.tbs
    (¬ mine ∨ (ptpType b ≠ 8 ∧ x.1.of h = none) ∨
        (ptpType b = 8 ∧ ∀ seq t2 corr, st.waitSync = some (seq, t2, corr) → seq ≠ ptpSeq b) →
      exec (.instanceSync h k) s = .next (s.withDev d)) ∧
    (∀ t2, mine → ptpType b ≠ 8 → x.1.of h = some t2 → bitAt (beAt b 6 1) 1 = false → takes (stampIn b (ptpCorr b)) t2) ∧
    (∀ t2, mine → ptpType b ≠ 8 → x.1.of h = some t2 → bitAt (beAt b 6 1) 1 = true →
      ∃ t, exec (.instanceSync h k) s = .next t ∧
        t.dev.inst h k.val = { d.inst h k.val with waitSync := some (ptpSeq b, t2, ptpCorr b) } ∧
        { t.dev with insts := s.dev.insts } = s.dev ∧ s.keepsRest t) ∧
    ∀ t2 corr, mine → ptpType b = 8 → st.waitSync = some (ptpSeq b, t2, corr) → takes (stampIn b (corr + ptpCorr b)) t2) ∧
  (∀ (h : Half) (k : Fin 4) (s : State),
    let st := s.dev.inst h k.val
    let due := st.t1t2.isSome = true ∧ st.syncAt + 3 * logInterval st.syncLog ≤ s.dev.tb0 h
    (¬ due → exec (.instanceSyncTimeout h k) s = .next s) ∧
    (due → ∃ t, exec (.instanceSyncTimeout h k) s = .next t ∧ t.dev.inst h k.val = { st with syncLost := true } ∧
      (∀ j < 4, j ≠ k.val → t.dev.inst h j = s.dev.inst h j) ∧ t.dev.tbs = s.dev.tbs ∧ s.keepsRest t)) ∧
  (∀ (h : Half) (k : Fin 4) (at_ : Nat) (s : State),
    let c := instC h k.val
    let st := s.dev.inst h k.val
    let at2 := gridUp (ns32 at_)
    let soon := ∃ x, st.reqAt = some x ∧ ns32 at2 < x + logInterval (signedOf 8 (s.dev.g c Reg.TRS.ICFG_LOGDREQ))
    (s.dev.instSvc h k.val = none ∨ portHalf (s.dev.instPort h k.val) ≠ h ∨ st.parent = none ∨ soon →
      exec (.instanceDelayReq h k at_) s = .next s) ∧
    ∀ n, s.dev.instSvc h k.val = some n → portHalf (s.dev.instPort h k.val) = h → st.parent.isSome = true → ¬ soon →
      ∃ t l, exec (.instanceDelayReq h k at_) s = .next t ∧
        (∀ e : Half, (t.dev.inst e k.val).req = some (st.seq % 65536, ns32 at2) ∧ (t.dev.inst e k.val).pd = none ∧
          (t.dev.inst e k.val).seq = st.seq + 1 ∧ (t.dev.inst e k.val).reqAt = some (ns32 at2)) ∧
        (t.dev.plane h).gateIn = (s.dev.plane h).gateIn ++ l ∧
        (s.dev.sealable h (s.dev.svcCfg h n) (s.dev.tb0 h) = true → l.length = 1) ∧
        (s.dev.sealable h (s.dev.svcCfg h n) (s.dev.tb0 h) = false → l = []) ∧
        (∀ g ∈ l, g.port = s.dev.instPort h k.val ∧ g.t = at2) ∧ t.dev.tbs = s.dev.tbs ∧ s.keepsRest t) ∧
  (∀ (h : Half) (k : Fin 4) (x : Desc × Msg) (s : State), (s.dev.instTake h k.val [9, 3, 0xA]).2 = some x →
    let b := x.2.body
    let d := (s.dev.instTake h k.val [9, 3, 0xA]).1
    let st := s.dev.inst h k.val
    let mine := fun seq => (sliceB b 44 10 == s.dev.portIdentity h (s.dev.instPort h k.val)) = true ∧ ptpSeq b = seq
    let takes := fun v : Int =>
      ∃ t, exec (.instanceDelayResp h k) s = .next t ∧ (t.dev.inst h k.val).req = none ∧ (t.dev.inst h k.val).pd = none ∧
        (t.dev.inst h k.val).delays = (psOf v :: st.delays).take 16 ∧ t.dev.tbs = s.dev.tbs ∧ s.keepsRest t
    ((∀ seq t3, st.req = some (seq, t3) → ¬ mine seq) → exec (.instanceDelayResp h k) s = .next (s.withDev d)) ∧
    ∀ seq t3, st.req = some (seq, t3) → mine seq →
      (ptpType b = 9 → st.t1t2 = none ∨ st.fromParent x.2 = false → exec (.instanceDelayResp h k) s = .next (s.withDev d)) ∧
      (∀ t1 t2, ptpType b = 9 → st.t1t2 = some (t1, t2) → st.fromParent x.2 = true →
        takes (((t2 : Int) - t1 + (stampIn b 0 - ptpCorr b * 65536 - t3)) / 2)) ∧
      (ptpType b = 3 → x.1.of h = none → exec (.instanceDelayResp h k) s = .next (s.withDev d)) ∧
      (∀ t4, ptpType b = 3 → x.1.of h = some t4 → bitAt (beAt b 6 1) 1 = false →
        takes (((t4 : Int) - t3 - ptpCorr b * 65536) / 2)) ∧
      (∀ t4, ptpType b = 3 → x.1.of h = some t4 → bitAt (beAt b 6 1) 1 = true →
        ∃ t, exec (.instanceDelayResp h k) s = .next t ∧
          t.dev.inst h k.val = { d.inst h k.val with pd := some (seq, t4, stampIn b 0, ptpCorr b) } ∧
          { t.dev with insts := s.dev.insts } = s.dev ∧ s.keepsRest t) ∧
      (ptpType b ≠ 9 → ptpType b ≠ 3 → (∀ q t4 rx corr, st.pd = some (q, t4, rx, corr) → q ≠ seq) →
        exec (.instanceDelayResp h k) s = .next (s.withDev d)) ∧
      ∀ t4 rx corr, ptpType b ≠ 9 → ptpType b ≠ 3 → st.pd = some (seq, t4, rx, corr) →
        takes (((t4 : Int) - t3 - (stampIn b 0 - rx) - (corr + ptpCorr b) * 65536) / 2)) ∧
  (∀ (h : Half) (k : Fin 4) (s : State), h ≠ s.dev.lead → exec (.instanceGrantRenew h k) s = .next s) ∧
  (∀ (h : Half) (k : Fin 4) (s : State), h = s.dev.lead → (s.dev.instTake h k.val [0xC]).2 = none →
    let d := (s.dev.instTake h k.val [0xC]).1
    let asking := s.dev.gb (instC h k.val) Reg.TRS.ICFG_UNICAST = true ∧ s.dev.grantsDue h k.val ≠ []
    (s.dev.instSvc h k.val = none ∨ ¬ asking → exec (.instanceGrantRenew h k) s = .next (s.withDev (instRefresh h k.val d))) ∧
    ∀ n, s.dev.instSvc h k.val = some n → asking →
      ∃ t, exec (.instanceGrantRenew h k) s = .next t ∧
        (∀ mt ∈ s.dev.grantsDue h k.val, tget 0 (t.dev.inst h k.val).asks mt = s.dev.tb0 h + ns32 (8 * 10 ^ 9)) ∧
        (t.dev.inst h k.val).seq = (s.dev.inst h k.val).seq + 1 ∧
        (t.dev.inst h k.val).grants = (s.dev.inst h k.val).grants ∧
        (s.dev.sealable h (s.dev.svcCfg h n) (s.dev.tb0 h) = true → ∃ g, g.port = s.dev.instPort h k.val ∧
          g.t = s.dev.originLaunch h (s.dev.tb0 h) ∧
          (portHalf g.port = h → (t.dev.plane h).gateIn = (s.dev.plane h).gateIn ++ [g]) ∧
          (portHalf g.port ≠ h → (t.dev.plane h).bridge = (s.dev.plane h).bridge ++ [.gated g])) ∧
        (s.dev.sealable h (s.dev.svcCfg h n) (s.dev.tb0 h) = false → t.dev.planes = s.dev.planes) ∧
        t.dev.tbs = s.dev.tbs ∧ s.keepsRest t) ∧
  (∀ (h : Half) (k : Fin 4) (x : Desc × Msg) (s : State), h = s.dev.lead →
    (s.dev.instTake h k.val [0xC]).2 = some x →
    (s.dev.fromAsked h k.val x.2 = false → ∃ t, exec (.instanceGrantRenew h k) s = .next t ∧
      (t.dev.inst h k.val).grants = (s.dev.inst h k.val).grants ∧ t.dev.tbs = s.dev.tbs ∧ s.keepsRest t) ∧
    ∀ o ty v mt, s.dev.fromAsked h k.val x.2 = true → ptpTlvs x.2.body = [(o, ty, v)] →
      grantType (beAt v 0 1 / 16) = some mt →
      (ty = 5 → beAt v 2 4 ≠ 0 → ∃ t, exec (.instanceGrantRenew h k) s = .next t ∧
        tget none (t.dev.inst h k.val).grants mt =
          some (s.dev.tb0 h + ns32 (beAt v 2 4 * 10 ^ 9), s.dev.tb0 h + ns32 (beAt v 2 4 * 10 ^ 9) / 2) ∧
        t.dev.tbs = s.dev.tbs ∧ s.keepsRest t) ∧
      (ty = 5 → beAt v 2 4 = 0 → ∃ t, exec (.instanceGrantRenew h k) s = .next t ∧
        tget 0 (t.dev.inst h k.val).asks mt = s.dev.tb0 h + ns32 (8 * 10 ^ 9) ∧
        (t.dev.inst h k.val).grants = (s.dev.inst h k.val).grants ∧ t.dev.tbs = s.dev.tbs ∧ s.keepsRest t) ∧
      (ty = 6 → ∃ t, exec (.instanceGrantRenew h k) s = .next t ∧ tget none (t.dev.inst h k.val).grants mt = none ∧
        t.dev.tbs = s.dev.tbs ∧ s.keepsRest t)) ∧
  ∀ (m : Master) (h : Half) (k : Fin 4) (w : Fin 16) (v : Word) (s : State), s.writable m (instC h k.val + 4 * w.val) →
    let a := instC h k.val + 4 * w.val
    let new := mergeWrite a (s.dev.w a) v.toNat
    let st := s.dev.inst h k.val
    let cancels := s.dev.gb (instC h k.val) Reg.TRS.ICFG_UNICAST = true ∧ (∃ mt < 3, (tget none st.grants mt).isSome = true) ∧
      portHalf (s.dev.instPort h k.val) = h ∧ ∃ n, s.dev.instSvc h k.val = some n ∧
        s.dev.sealable h (s.dev.svcCfg h n) (s.dev.tb0 h) = true
    (new ≠ s.dev.w a → ∃ t, exec (.instanceConfigWrite m h k w v) s = .next t ∧ (t.dev.inst h k.val).parent = none ∧
      (t.dev.inst h k.val).masters = [] ∧ (t.dev.inst h k.val).grants = [] ∧ (t.dev.inst h k.val).t1t2 = none ∧
      (t.dev.inst h k.val).seq = st.seq + 1 ∧ (w.val < 8 → t.dev.w a = new) ∧
      (∀ j < 4, j ≠ k.val → t.dev.inst h j = s.dev.inst h j) ∧
      (cancels → ∃ g, (t.dev.plane h).gateIn = (s.dev.plane h).gateIn ++ [g] ∧ g.port = s.dev.instPort h k.val) ∧
      (¬ cancels → t.dev.planes = s.dev.planes) ∧ t.dev.tbs = s.dev.tbs ∧ s.keepsRest t) ∧
    (new = s.dev.w a → ∃ t, exec (.instanceConfigWrite m h k w v) s = .next t ∧ s.onlyTouches t [] [])

/-! ### Keys, lifecycle and the test access port -/

/-- A key blob is refused by the rows of R380 in their order, counted as an unwrap failure, refused where its slot is taken
or the halves differ, or committed to its slot in both halves, or in one alone, with its record where the journal takes one
(R379, R381, R385). A generation is announced as it becomes active (R382), drains at its second and is zeroised 16 µs later
(R383), or retires by command (R384). A zeroisation is refused, queued behind another, or empties its range in each half and
writes its intents (R387, R388, R510); it ends with its status and a queued one begins (R388), and purged records leave no
intent (R387, R510). Tamper is logged in Kettle, locks both halves, and while the chip runs empties the slots of TPOL (R390
to R392). CERT_READ answers with the object (R397). What is not due changes nothing. It says where KEY_LOAD, KEY_RETIRE,
CERT_READ, GEN_ACTIVATED, GEN_RETIRE, GEN_RETIRED, ZEROISE, ZERO_DONE, PURGE_DONE and TAMPER complete. -/
def Obligations.KeysLoadRetireAndAreZeroised : Prop :=
  (∀ (b : Fin 4) (w : FlashEnd) (s : State),
    (s.noCommit b.val 0x0400 → exec (.keyLoad b w) s = .next s) ∧
    (s.noCommit b.val 0x0402 → exec (.keyRetire b) s = .next s) ∧
    (s.noCommit b.val 0x0403 → exec (.certRead b) s = .next s)) ∧
  (∀ (b : Fin 4) (w : FlashEnd) (c : FwCmd) (s : State), s.atCommit b.val 0x0400 c →
    let h := mbxHalf b.val
    let o := h.other
    let x := blobOf c.req
    let old := s.dev.slot h x.slot
    let alone := o ∉ s.dev.cadHalves ∨ s.dev.gb (cadPg o) Reg.CAD.CSTAT_ROOT_FAIL = true
    let keep := bitAt x.flags 0
    let code := if c.len ≠ 28 then codeBadLen
      else if s.dev.keysOff h = true ∨ s.dev.wrongHalf b.val = true then codeNotPermitted
      else if s.dev.blobBad h x = true ∨ s.dev.familyBad h x = true then codeBadArg else codeOK
    (code ≠ codeOK → ∃ t, exec (.keyLoad b w) s = .next t ∧ s.answersOnly t b.val c code []) ∧
    (code = codeOK → s.dev.unwrap h x = none →
      ∃ t, exec (.keyLoad b w) s = .next t ∧ s.finished t b.val c codeBadArg [] ∧ t.dev.cads = s.dev.cads ∧
        t.dev.g (cadPg h) Reg.CAD.UNWRAP_FAIL = (s.dev.g (cadPg h) Reg.CAD.UNWRAP_FAIL + 1) % 2 ^ 32 ∧
        t.dev.evt (cadPg h) 5 = (s.dev.evt (cadPg h) 5).occur ∧ s.keepsRest t) ∧
    ∀ key, code = codeOK → s.dev.unwrap h x = some key →
      let taken := old.defect = true ∨ (old.valid = true ∧ (old.lock = true ∨ 128 ≤ x.slot))
      let agrees := alone ∨ (s.dev.unwrap o x).map kcvOf = some (kcvOf key)
      let kept := keep && s.nv.takes w
      (taken → ∃ t, exec (.keyLoad b w) s = .next t ∧ s.answersOnly t b.val c codeBusy []) ∧
      (¬ taken → ¬ agrees → ∃ t, exec (.keyLoad b w) s = .next t ∧ s.finished t b.val c codeBadArg [] ∧
        t.dev.cads = s.dev.cads ∧ (∀ e : Half, t.dev.evt (cadPg e) 8 = (s.dev.evt (cadPg e) 8).occur) ∧ s.keepsRest t) ∧
      (¬ taken → agrees → ∃ t, exec (.keyLoad b w) s = .next t ∧
        s.finished t b.val c (if keep && !kept then codeFlashError else codeOK)
          [BitVec.ofNat 32 x.slot, BitVec.ofNat 32 (kcvOf key)] ∧
        (∀ e : Half, (alone → e = h) → t.dev.slot e x.slot =
            { valid := true, key := key, typ := x.typ, usage := x.usage, persist := kept, lock := bitAt x.flags 1
              keyid := if x.slot < 128 then 0 else x.keyid, act := x.act
              ret := if x.slot < 128 then never else x.ret, blob := c.req } ∧
          ∀ k, k ≠ x.slot → t.dev.slot e k = s.dev.slot e k) ∧
        (alone → t.dev.cad o = s.dev.cad o) ∧ (kept = false → t.nv = s.nv) ∧
        (kept = true → Tab.find? t.nv.keys x.slot = some (x.head.take 32, Config.sivSeal persistKey [x.head.take 32] key) ∧
          t.nv.intents = s.nv.intents.filter (· != x.slot) ∧
          { t.nv with keys := s.nv.keys, intents := s.nv.intents } = s.nv) ∧ t.dev.tbs = s.dev.tbs ∧ t.pending = s.pending)) ∧
  (∀ (h : Half) (f : Fin 16) (s : State),
    ((∀ k, s.dev.activeAt h f.val (s.dev.tb0 h) = some k → tget 0 (s.dev.cad h).shown f.val = k + 1) →
      exec (.genActivated h f) s = .next s) ∧
    ∀ k, s.dev.activeAt h f.val (s.dev.tb0 h) = some k → tget 0 (s.dev.cad h).shown f.val ≠ k + 1 →
      ∃ t, exec (.genActivated h f) s = .next t ∧ tget 0 (t.dev.cad h).shown f.val = k + 1 ∧
        t.dev.evt (cadPg h) 6 = (s.dev.evt (cadPg h) 6).occur ∧ (t.dev.cad h).slots = (s.dev.cad h).slots ∧
        s.onlyTouches { t with dev := { t.dev with cads := s.dev.cads } } [] [cadPg h + 6]) ∧
  (∀ (h : Half) (k : Fin 256) (bad : Bool) (s : State),
    let x := s.dev.slot h k.val
    let ends := fun more => x.valid = true ∧ 128 ≤ k.val ∧ x.ret ≠ never ∧ x.ret * secFrac + more ≤ s.dev.tb0 h
    (¬ ends 0 ∨ x.drain = true → exec (.genRetire h k) s = .next s) ∧
    (ends 0 → x.drain = false → ∃ t, exec (.genRetire h k) s = .next t ∧ t.dev.slot h k.val = { x with drain := true } ∧
      (∀ j, j ≠ k.val → t.dev.slot h j = s.dev.slot h j) ∧ t.dev.resp = s.dev.resp ∧ s.dev.sameEvents t.dev [] ∧
      t.dev.tbs = s.dev.tbs ∧ s.keepsRest t) ∧
    (¬ ends (ns32 16000) → exec (.genRetired h k bad) s = .next s) ∧
    (ends (ns32 16000) → ∃ t, exec (.genRetired h k bad) s = .next t ∧ t.dev.slot h k.val = { defect := x.defect || bad } ∧
      (∀ j, j ≠ k.val → t.dev.slot h j = s.dev.slot h j) ∧ (∀ r ∈ (t.dev.rsp h).reqs, k.val ∉ r.slots) ∧
      t.dev.evt (cadPg h) 7 = (s.dev.evt (cadPg h) 7).occur ∧
      t.dev.evt (cadPg h) 9 = (if bad then (s.dev.evt (cadPg h) 9).occur else s.dev.evt (cadPg h) 9) ∧
      t.dev.tbs = s.dev.tbs ∧ s.keepsRest t)) ∧
  (∀ (b : Fin 4) (c : FwCmd) (s : State), s.atCommit b.val 0x0402 c →
    let h := mbxHalf b.val
    let f := (c.req[0]?.getD 0).toNat % 16
    let g := (c.req[0]?.getD 0).toNat / 256 % 2 ^ 20
    let ask := (c.req[1]?.getD 0).toNat + (c.req[2]?.getD 0).toNat % 2 ^ 16 * 2 ^ 32
    let soon := s.dev.tb0 h + ns32 100000000
    let x := s.dev.slot h (famSlot f g)
    let code := if c.len ≠ 3 then codeBadLen else if s.dev.keysOff h = true then codeNotPermitted
      else if x.presentAt (s.dev.tb0 h) = false ∨ x.keyid % 2 ^ 24 ≠ f * 2 ^ 20 + g then codeBadArg else codeOK
    (code ≠ codeOK → ∃ t, exec (.keyRetire b) s = .next t ∧ s.answersOnly t b.val c code []) ∧
    (code = codeOK → ∃ t, exec (.keyRetire b) s = .next t ∧ s.finished t b.val c codeOK [] ∧
      (∀ e ∈ s.dev.cadHalves, (s.dev.slot e (famSlot f g)).valid = true → t.dev.slot e (famSlot f g) =
        { s.dev.slot e (famSlot f g) with
          ret := if ask = 0 ∨ ask * secFrac ≤ soon then ceilDiv soon secFrac else ask }) ∧
      (∀ e : Half, ∀ k, k ≠ famSlot f g → t.dev.slot e k = s.dev.slot e k) ∧ t.dev.tbs = s.dev.tbs ∧ s.keepsRest t)) ∧
  (∀ (m : Master) (h : Half) (v : Word) (s : State), s.writable m (cadPg h + 0x180) →
    let first := v.toNat % 256
    let last := v.toNat / 256 % 256
    let persist := v.toNat.testBit 16
    (v.toNat.testBit 31 = false →
      ∃ t, exec (.zeroise m h v) s = .next t ∧ (∀ e : Half, t.dev.g (cadPg e) Reg.CAD.ZERO_FIRST = first ∧
        t.dev.g (cadPg e) Reg.CAD.ZERO_LAST = last) ∧ s.onlyTouches t [cadPg .warp + 0x180, cadPg .weft + 0x180] []) ∧
    (v.toNat.testBit 31 = true → last < first → ∃ t, exec (.zeroise m h v) s = .next t ∧ t.dev.cads = s.dev.cads ∧
      (∀ e : Half, t.dev.gb (cadPg e) Reg.CAD.ZSTAT_REFUSED = true) ∧ s.keepsRest t) ∧
    (v.toNat.testBit 31 = true → first ≤ last → ∃ t, exec (.zeroise m h v) s = .next t ∧ t.pending = s.pending ∧
      (∀ e : Half, (s.dev.cad e).zero = none → t.dev.gb (cadPg e) Reg.CAD.CSTAT_ZBUSY = true ∧
        (t.dev.cad e).zero = some (first, last, persist) ∧ ∀ k < 256, t.dev.slot e k =
          if first ≤ k ∧ k ≤ last then { defect := (s.dev.slot e k).defect } else s.dev.slot e k) ∧
      (∀ e : Half, ∀ z, (s.dev.cad e).zero = some z → (t.dev.cad e).zero = some z ∧
        (t.dev.cad e).queued = some (first, last, persist) ∧ (t.dev.cad e).slots = (s.dev.cad e).slots) ∧
      (persist = true → s.nv.flashFailed = false → (∃ e : Half, (s.dev.cad e).zero = none) →
        ∀ k, first ≤ k → k ≤ last → k ∈ t.nv.intents ∧ ∀ y ∈ t.nv.keys, y.1 ≠ k) ∧
      (persist = false ∨ s.nv.flashFailed = true ∨ (∀ e : Half, (s.dev.cad e).zero ≠ none) → t.nv = s.nv))) ∧
  (∀ (bad : List Nat) (s : State), ∃ t, exec (.zeroDone bad) s = .next t ∧ t.pending = s.pending ∧
    (∀ e : Half, (s.dev.cad e).zero = none → t.dev.cad e = s.dev.cad e) ∧
    (∀ (e : Half) (z : Nat × Nat × Bool), (s.dev.cad e).zero = some z →
      let hit := bad.filter fun k => (zeroRange z ++ (s.dev.cad e).extra).contains k
      t.dev.gb (cadPg e) Reg.CAD.ZSTAT_VERIFIED = hit.isEmpty ∧ t.dev.gb (cadPg e) Reg.CAD.ZSTAT_DEFECT = !hit.isEmpty ∧
        t.dev.evt (cadPg e) 4 = (s.dev.evt (cadPg e) 4).occur ∧ (∀ k ∈ hit, (t.dev.slot e k).defect = true) ∧
        (t.dev.cad e).zero = (s.dev.cad e).queued ∧ (t.dev.cad e).queued = none ∧
        t.dev.gb (cadPg e) Reg.CAD.CSTAT_ZBUSY = (s.dev.cad e).queued.isSome ∧
        ∀ q, (s.dev.cad e).queued = some q → ∀ k ∈ zeroRange q, (t.dev.slot e k).valid = false) ∧
    ((∀ e : Half, (s.dev.cad e).zero = none ∨ (s.dev.cad e).queued = none) → t.nv = s.nv)) ∧
  (∀ s : State,
    (s.nv.flashFailed = true → exec .purgeDone s = .next s) ∧
    (s.nv.flashFailed = false → ∃ t, exec .purgeDone s = .next t ∧
      (∀ e : Half, (t.dev.cad e).purge = [] ∧
        ((s.dev.cad e).purge ≠ [] → t.dev.gb (cadPg e) Reg.CAD.ZSTAT_PURGED = true)) ∧
      t.nv.intents = s.nv.intents.filter (fun k =>
        !(((s.dev.cad .warp).purge ++ (s.dev.cad .weft).purge).contains k)) ∧ s.dev.sameEvents t.dev [] ∧
      { t.nv with intents := s.nv.intents } = s.nv ∧ t.pending = s.pending)) ∧
  (∀ (src : Fin 5) (s : State), ∃ t, exec (.tamper src) s = .next t ∧
    t.dev.gb ktlPg Reg.KTL.KSTAT_TAMPER_SEEN = true ∧ t.dev.tbs = s.dev.tbs ∧ s.keepsRest t ∧
    let ready := s.dev.gb (cadPg .warp) Reg.CAD.CSTAT_KEYS_READY || s.dev.gb (cadPg .weft) Reg.CAD.CSTAT_KEYS_READY
    (s.dev.kettle.phase = 2 → t.dev = s.dev.kettleLogged (2 ^ src.val)) ∧
    (s.dev.kettle.phase ≠ 2 → ∀ e : Half, t.dev.gb (cadPg e) Reg.CAD.CSTAT_TAMPER_LOCK = true ∧
      bitAt (t.dev.g (cadPg e) Reg.CAD.TSTAT_SRC) src.val = true) ∧
    (s.dev.kettle.phase ≠ 2 → ready = true → ∀ e : Half, t.dev.evt (cadPg e) 3 = (s.dev.evt (cadPg e) 3).occur ∧
      ∀ k < 256, bitAt (s.dev.g (cadPg e) Reg.CAD.TPOL) (k / 8) = true → (t.dev.slot e k).valid = false) ∧
    (s.dev.kettle.phase ≠ 2 → ready = false → t.dev.cads = s.dev.cads ∧
      ∀ e : Half, t.dev.gb (cadPg e) Reg.CAD.TSTAT_AT_START = true)) ∧
  ∀ (b : Fin 4) (c : FwCmd) (s : State), s.atCommit b.val 0x0403 c →
    let sel := (c.req[0]?.getD 0).toNat % 4
    let off := (c.req[0]?.getD 0).toNat / 65536
    let o := if sel = 0 then Config.idCert else endorsement
    let code := if c.len ≠ 1 then codeBadLen else if 1 < sel ∨ off % 4 ≠ 0 then codeBadArg else codeOK
    ∃ t, exec (.certRead b) s = .next t ∧ s.answersOnly t b.val c code
      (if code = codeOK then BitVec.ofNat 32 (o.length % 65536) :: wordsOfBytes (sliceB o off 252) else [])

/-- The owner is set once and FIELD entered after it, and a confirmed SCRAP zeroises every slot, blows its group and stops
both halves (R473, R474). The password is tried once a second (R476); it or a response opens a session, clears the tamper
lock or enters RMA, or counts a failure, and nothing is tried under LOCKOUT (R475 to R479); a challenge is issued for a
permitted PURPOSE, answered once and expires (R477, R478); a session closes (R475). A command with a wrong LEN, in a wrong
state or half, or without its confirmation is answered with its code. An instruction of the test port that takes the pins is
a C3 fault, in SCRAP only IDCODE and BYPASS decode, private ones as the state and a session permit (R471 to R475), and in
Kettle-only the port is off (R445). It says where LCS_OWN_SET, LCS_FIELD, LCS_SCRAP, LCS_PASSWORD, LCS_CHALLENGE,
LCS_RESPOND, LCS_CLOSE, CHALLENGE_EXPIRE, EXTEST, CLAMP, HIGHZ, EXTEST_PULSE, EXTEST_TRAIN, IDCODE, BYPASS, TAP_RESET,
SAMPLE_PRELOAD and PRIVATE_TEST complete. -/
def Obligations.LifecycleSessionsAndTestPort : Prop :=
  (∀ (b : Fin 4) (s : State),
    (s.noCommit b.val 0x0601 → exec (.lcsOwnSet b) s = .next s) ∧ (s.noCommit b.val 0x0602 → exec (.lcsField b) s = .next s) ∧
    (s.noCommit b.val 0x0603 → exec (.lcsScrap b) s = .next s) ∧
    (s.noCommit b.val 0x0612 → exec (.lcsPassword b) s = .next s) ∧
    (s.noCommit b.val 0x0610 → exec (.lcsChallenge b) s = .next s) ∧
    (s.noCommit b.val 0x0611 → exec (.lcsRespond b) s = .next s) ∧
    (s.noCommit b.val 0x0613 → exec (.lcsClose b) s = .next s)) ∧
  (∀ (b : Fin 4) (c : FwCmd) (s : State), s.atCommit b.val 0x0601 c →
    let ok := c.len = 16 ∧ s.dev.wrongHalf b.val = false ∧ s.nv.lifecycle = 2 ∧ s.nv.owner = none
    let req := c.req ++ List.replicate 16 0
    (ok → ∃ t, exec (.lcsOwnSet b) s = .next t ∧ s.finished t b.val c codeOK [] ∧
      t.nv = { s.nv with owner := some (bytesOfWords (req.take 8), bytesOfWords ((req.drop 8).take 8)) } ∧
      (∀ e : Half, t.dev.gb (lcsPg e) Reg.LCS.LSTATE_OWNER_SET = true) ∧ t.pending = s.pending) ∧
    (¬ ok → ∃ t, exec (.lcsOwnSet b) s = .next t ∧
      s.finished t b.val c (if c.len ≠ 16 then codeBadLen else codeNotPermitted) [] ∧ s.keepsRest t)) ∧
  (∀ (b : Fin 4) (c : FwCmd) (s : State), s.atCommit b.val 0x0602 c →
    let may := s.dev.wrongHalf b.val = false ∧ s.nv.lifecycle = 2 ∧ s.nv.owner ≠ none
    let ok := c.len = 1 ∧ may ∧ (c.req[0]?.getD 0).toNat = 0x4649454C
    (ok → ∃ t, exec (.lcsField b) s = .next t ∧ s.finished t b.val c codeOK [] ∧ t.nv = { s.nv with lifecycle := 3 } ∧
      (∀ e : Half, t.dev.g (lcsPg e) Reg.LCS.LSTATE_STATE = 3) ∧ t.pending = s.pending) ∧
    (¬ ok → ∃ t code, exec (.lcsField b) s = .next t ∧ s.finished t b.val c code [] ∧ s.keepsRest t ∧
      (c.len ≠ 1 → code = codeBadLen) ∧ (c.len = 1 → ¬ may → code = codeNotPermitted) ∧
      (c.len = 1 → may → code = codeBadArg))) ∧
  (∀ (b : Fin 4) (c : FwCmd) (s : State), s.atCommit b.val 0x0603 c →
    let may := s.dev.wrongHalf b.val = false ∧ s.nv.lifecycle ≠ 5
    let ok := c.len = 1 ∧ may ∧ (c.req[0]?.getD 0).toNat = 0x53435250
    (ok → ∃ t, exec (.lcsScrap b) s = .next t ∧ t.nv = { s.nv with lifecycle := 5 } ∧
      (∀ e : Half, (t.dev.hs e).safe = true ∧
        ((s.dev.cad e).zero = none → ∀ k < 256, (t.dev.slot e k).valid = false) ∧
        ∀ z, (s.dev.cad e).zero = some z → (t.dev.cad e).queued = some (0, 255, false)) ∧ t.pending = s.pending) ∧
    (¬ ok → ∃ t code, exec (.lcsScrap b) s = .next t ∧ s.answersOnly t b.val c code [] ∧
      (c.len ≠ 1 → code = codeBadLen) ∧ (c.len = 1 → ¬ may → code = codeNotPermitted) ∧
      (c.len = 1 → may → code = codeBadArg))) ∧
  (∀ (b : Fin 4) (c : FwCmd) (s : State), s.atCommit b.val 0x0612 c →
    let soon := ∃ x, s.dev.lcs.pwdAt = some x ∧ s.dev.now < x + ticks1s
    let right := s.nv.owner.map (·.1) = some (Config.sha256 (bytesOfWords (c.req.take 8)))
    (c.len ≠ 8 → ∃ t, exec (.lcsPassword b) s = .next t ∧ s.answersOnly t b.val c codeBadLen []) ∧
    (c.len = 8 → s.nv.lifecycle ≠ 3 → ∃ t, exec (.lcsPassword b) s = .next t ∧ s.answersOnly t b.val c codeNotPermitted []) ∧
    (c.len = 8 → s.nv.lifecycle = 3 → s.dev.lockout = true ∨ soon →
      ∃ t, exec (.lcsPassword b) s = .next t ∧ s.answersOnly t b.val c codeBusy []) ∧
    (c.len = 8 → s.nv.lifecycle = 3 → s.dev.lockout = false → ¬ soon →
      (right → ∃ t, exec (.lcsPassword b) s = .next t ∧ s.finished t b.val c codeOK [t.dev.lstateWord (mbxHalf b.val)] ∧
        t.dev.lcs = { s.dev.lcs with session := true, pwdAt := some s.dev.now } ∧
        (∀ e : Half, t.dev.gb (lcsPg e) Reg.LCS.LSTATE_SESSION = true ∧
          t.dev.evt (lcsPg e) 0 = (s.dev.evt (lcsPg e) 0).occur) ∧ s.keepsRest t) ∧
      (¬ right → ∃ t, exec (.lcsPassword b) s = .next t ∧ s.finished t b.val c codeBadArg [] ∧
        t.dev.lcs = { s.dev.lcs with pwdAt := some s.dev.now } ∧
        (∀ e : Half, t.dev.g (lcsPg e) Reg.LCS.LSTATE_FAILS = min 15 (s.dev.g (lcsPg e) Reg.LCS.LSTATE_FAILS + 1) ∧
          t.dev.evt (lcsPg e) 1 = (s.dev.evt (lcsPg e) 1).occur) ∧ s.keepsRest t))) ∧
  (∀ (b : Fin 4) (c : FwCmd) (s : State), s.atCommit b.val 0x0610 c →
    let purpose := (c.req[0]?.getD 0).toNat % 16
    let bytes := s.dev.challenge purpose s.nv.lifecycle s.nv.boots (s.dev.lcs.cseq + 1)
    let code := if c.len ≠ 1 then codeBadLen else if s.dev.lockout = true then codeBusy
      else if purposeOk purpose s.nv.lifecycle = false then codeBadArg else codeOK
    (code ≠ codeOK → ∃ t, exec (.lcsChallenge b) s = .next t ∧ s.answersOnly t b.val c code []) ∧
    (code = codeOK → ∃ t, exec (.lcsChallenge b) s = .next t ∧ s.finished t b.val c codeOK (wordsOfBytes bytes) ∧
      t.dev.lcs = { s.dev.lcs with chal := some (bytes, purpose, s.dev.now), cseq := s.dev.lcs.cseq + 1 } ∧
      (∀ e : Half, t.dev.gb (lcsPg e) Reg.LCS.LSTATE_CHAL_OUT = true) ∧ s.dev.sameEvents t.dev [] ∧ s.keepsRest t)) ∧
  (∀ (b : Fin 4) (c : FwCmd) (s : State), s.atCommit b.val 0x0611 c →
    (c.len ≠ 17 → ∃ t, exec (.lcsRespond b) s = .next t ∧ s.answersOnly t b.val c codeBadLen []) ∧
    (c.len = 17 → s.dev.lockout = true → ∃ t, exec (.lcsRespond b) s = .next t ∧ s.answersOnly t b.val c codeBusy []) ∧
    (c.len = 17 → s.dev.lockout = false → ∃ t, exec (.lcsRespond b) s = .next t ∧ t.dev.lcs.chal = none ∧
      t.pending = s.pending ∧ match s.dev.responseOk s.nv c with
      | none => s.finished t b.val c codeBadArg [] ∧ t.nv = s.nv ∧ t.dev.lcs.session = s.dev.lcs.session ∧
          ∀ e : Half, t.dev.g (lcsPg e) Reg.LCS.LSTATE_FAILS = min 15 (s.dev.g (lcsPg e) Reg.LCS.LSTATE_FAILS + 1) ∧
            t.dev.evt (lcsPg e) 1 = (s.dev.evt (lcsPg e) 1).occur
      | some p => s.finished t b.val c codeOK [t.dev.lstateWord (mbxHalf b.val)] ∧
          (p = 1 → t.dev.lcs.session = true ∧ t.nv = s.nv) ∧
          (p = 2 → t.nv = s.nv ∧ ∀ e : Half, t.dev.gb (cadPg e) Reg.CAD.CSTAT_TAMPER_LOCK = false) ∧
          (p = 3 → t.nv.lifecycle = 4 ∧ ∀ e : Half, t.dev.evt (lcsPg e) 2 = (s.dev.evt (lcsPg e) 2).occur ∧
            ((s.dev.cad e).zero = none → ∀ k < 256, (t.dev.slot e k).valid = false)))) ∧
  (∀ (b : Fin 4) (c : FwCmd) (s : State), s.atCommit b.val 0x0613 c →
    (c.len ≠ 0 → ∃ t, exec (.lcsClose b) s = .next t ∧ s.answersOnly t b.val c codeBadLen []) ∧
    (c.len = 0 → s.dev.lcs.session = false → ∃ t, exec (.lcsClose b) s = .next t ∧ s.answersOnly t b.val c codeOK []) ∧
    (c.len = 0 → s.dev.lcs.session = true → ∃ t, exec (.lcsClose b) s = .next t ∧ s.finished t b.val c codeOK [] ∧
      t.dev.lcs = { s.dev.lcs with session := false } ∧
      (∀ e : Half, t.dev.gb (lcsPg e) Reg.LCS.LSTATE_SESSION = false ∧
        t.dev.evt (lcsPg e) 0 = (s.dev.evt (lcsPg e) 0).occur) ∧ s.keepsRest t)) ∧
  (∀ s : State,
    let old := ∃ x p at_, s.dev.lcs.chal = some (x, p, at_) ∧ at_ + 60 * ticks1s ≤ s.dev.now
    (¬ old → exec .challengeExpire s = .next s) ∧
    (old → ∃ t, exec .challengeExpire s = .next t ∧ t.dev.lcs = { s.dev.lcs with chal := none } ∧
      (∀ e : Half, t.dev.gb (lcsPg e) Reg.LCS.LSTATE_CHAL_OUT = false) ∧
      s.onlyTouches { t with dev := { t.dev with lcs := s.dev.lcs } } [lcsPg .warp + 0x100, lcsPg .weft + 0x100] [])) ∧
  (∀ s : State, s.dev.tapOn = false →
    exec .extest s = .next s ∧ exec .clamp s = .next s ∧ exec .highz s = .next s ∧ exec .extestPulse s = .next s ∧
      exec .extestTrain s = .next s ∧ exec .idcode s = .next s ∧ exec .bypass s = .next s ∧ exec .tapReset s = .next s ∧
      (∀ pins cells, exec (.samplePreload pins cells) s = .next s) ∧
      ∀ op dr, exec (.privateTest op dr) s = .next s) ∧
  (∀ s : State, s.dev.tapOn = true → s.nv.scrap = false →
    let takes := fun (op : Nat) (t : State) => t.dev.tap.ir = op ∧ t.dev.tap.dr = s.dev.tap.cells ∧
      (∀ e : Half, t.dev.gb (fltPg e) Reg.FLT.FSTAT_FATAL = true ∧ (t.dev.hs e).safePend = some true) ∧
      t.dev.tbs = s.dev.tbs ∧ s.keepsRest t
    (∃ t, exec .extest s = .next t ∧ takes 0 t) ∧ (∃ t, exec .clamp s = .next t ∧ takes 4 t) ∧
      (∃ t, exec .highz s = .next t ∧ takes 5 t) ∧ (∃ t, exec .extestPulse s = .next t ∧ takes 8 t) ∧
      (∃ t, exec .extestTrain s = .next t ∧ takes 9 t) ∧
      ∀ pins cells, exec (.samplePreload pins cells) s =
        .next (s.withDev { s.dev with tap := { s.dev.tap with ir := 2, dr := pins, cells := cells } })) ∧
  (∀ s : State, s.dev.tapOn = true →
    let loads := fun (ir dr : Nat) => s.withDev { s.dev with tap := { s.dev.tap with ir := ir, dr := dr } }
    (s.nv.scrap = true → exec .extest s = .next (loads 0xFF 0) ∧ exec .clamp s = .next (loads 0xFF 0) ∧ exec .highz s = .next (loads 0xFF 0) ∧
      exec .extestPulse s = .next (loads 0xFF 0) ∧ exec .extestTrain s = .next (loads 0xFF 0) ∧
      ∀ pins cells, exec (.samplePreload pins cells) s = .next (loads 0xFF 0)) ∧
    exec .idcode s = .next (loads 1 0x1825656B) ∧ exec .bypass s = .next (loads 0xFF 0) ∧ exec .tapReset s = .next (loads 1 0x1825656B) ∧
    ∀ (op : Fin 64) (dr : Nat),
      let open_ := s.nv.lifecycle = 0 ∨ s.nv.lifecycle = 1 ∨ s.nv.lifecycle = 4 ∨
        (32 ≤ op.val ∧ (s.nv.lifecycle = 2 ∨ (s.nv.lifecycle = 3 ∧ s.dev.lcs.session = true)))
      (open_ → exec (.privateTest op dr) s = .next (loads (0x40 + op.val) dr)) ∧
      (¬ open_ → exec (.privateTest op dr) s = .next (loads 0xFF 0)))

/-! ### Power, Kettle, faults and self-test -/

/-- A reading of a rail is shown, with PACE_LOW at the tenth slow one, and in AUTO commands the voltage that R439 asks; VSET
is stored and in FIXED is sent; a third command without a valid response is AVS_FAIL, after which nothing is sent (R439,
R440). Kettle takes the time of the half that leads and states its bound (R442, R443), and loses its crystal (R442) or VAON
(R441); the chip sleeps on command, releases CORE_EN, and wakes and starts again (R444, R446, R496). A scrubber pass that is
due counts what it corrected (R447), erases wear, retire and use up flash blocks (R16, R449), and FLASH_STAT answers (R449).
What is not due changes nothing. It says where AVS_READING, AVS_VSET_WRITE, KETTLE_TRANSFER, KETTLE_BOUND_UPDATE,
KTL_XO_FAIL, KETTLE_SLEEP, CORE_EN_RELEASE, KETTLE_WAKE, CORE_EN_ASSERT, VAON_LOSS, VDDS_REMOVED, SCRUB_PASS,
FLASH_ERASE_DONE and FLASH_STAT complete. -/
def Obligations.RailsKettleAndFlash : Prop :=
  (∀ (h : Half) (pace v : Nat) (answered : Bool) (s : State),
    let a := s.dev.avs.of h
    let high := if s.dev.paceTarget h + 50 ≤ pace then a.high + 1 else 0
    let want := if s.dev.g (pmuPg h) Reg.PMU.AVSCFG_MODE = 2 then s.dev.avsWant h pace v high else none
    let low := if pace < 1000 ∧ s.dev.vmax h ≤ v then a.low + 1 else 0
    ∃ t, exec (.avsReading h pace v answered) s = .next t ∧ t.dev.g (pmuPg h) Reg.PMU.AVSSTAT_PACE = min pace 4095 ∧
      t.dev.g (pmuPg h) Reg.PMU.AVSSTAT_VREAD = v % 2 ^ 16 ∧
      t.dev.gb (pmuPg h) Reg.PMU.AVSSTAT_AT_VMAX = decide (s.dev.vmax h ≤ v) ∧
      t.dev.evt (pmuPg h) 0 = (if low = 10 then (s.dev.evt (pmuPg h) 0).occur else s.dev.evt (pmuPg h) 0) ∧
      (t.dev.avs.of h).low = low ∧ (t.dev.avs.of h).high = (if want.isSome then 0 else high) ∧
      t.dev.avs.of h.other = s.dev.avs.of h.other ∧ t.dev.tbs = s.dev.tbs ∧ s.keepsRest t ∧
      (want = none ∨ a.halt = true → (t.dev.avs.of h).cmd = a.cmd ∧ (t.dev.avs.of h).miss = a.miss ∧
        s.onlyTouches { t with dev := { t.dev with avs := s.dev.avs } } [pmuPg h + 0x110] [pmuPg h]) ∧
      ∀ mv, want = some mv → a.halt = false →
        (t.dev.avs.of h).cmd = some (s.dev.g (pmuPg h) Reg.PMU.AVSCFG_RAIL, mv) ∧
        (t.dev.avs.of h).miss = (if answered then 0 else a.miss + 1) ∧
        (t.dev.avs.of h).halt = (!answered && decide (3 ≤ a.miss + 1)) ∧
        (answered = false → 3 ≤ a.miss + 1 → t.dev.gb (pmuPg h) Reg.PMU.AVSSTAT_FAIL = true ∧
          t.dev.evt (pmuPg h) 1 = (s.dev.evt (pmuPg h) 1).occur)) ∧
  (∀ (m : Master) (h : Half) (v : BitVec 16) (answered : Bool) (s : State), s.writable m (pmuPg h + 0x108) →
    let a := s.dev.avs.of h
    ∃ t, exec (.avsVsetWrite m h v answered) s = .next t ∧ t.dev.g (pmuPg h) Reg.PMU.VSET = v.toNat ∧
      t.dev.tbs = s.dev.tbs ∧ s.keepsRest t ∧
      (s.dev.g (pmuPg h) Reg.PMU.AVSCFG_MODE ≠ 1 ∨ a.halt = true → s.onlyTouches t [pmuPg h + 0x108] []) ∧
      (s.dev.g (pmuPg h) Reg.PMU.AVSCFG_MODE = 1 → a.halt = false →
        (t.dev.avs.of h).cmd =
          some (s.dev.g (pmuPg h) Reg.PMU.AVSCFG_RAIL, clampNat (s.dev.vmin h) (s.dev.vmax h) v.toNat) ∧
        (t.dev.avs.of h).miss = (if answered then 0 else a.miss + 1) ∧
        (t.dev.avs.of h).halt = (!answered && decide (3 ≤ a.miss + 1)) ∧
        (answered = false → 3 ≤ a.miss + 1 → t.dev.gb (pmuPg h) Reg.PMU.AVSSTAT_FAIL = true ∧
          t.dev.evt (pmuPg h) 1 = (s.dev.evt (pmuPg h) 1).occur))) ∧
  (∀ (k : Int) (s : State),
    let due := s.dev.serving s.dev.lead = true ∧ s.dev.published s.dev.lead 0 ≠ unbounded
    (¬ due → exec (.kettleTransfer k) s = .next s) ∧
    (due → ∃ t, exec (.kettleTransfer k) s = .next t ∧
      t.dev.g ktlPg Reg.KTL.KB0 = s.dev.published s.dev.lead 0 % 2 ^ 32 ∧
      t.dev.g ktlPg Reg.KTL.KFOFS = unsignedOf 32 k % 2 ^ 32 ∧
      t.dev.gb ktlPg Reg.KTL.KSTAT_KVALID = true ∧ t.dev.kettle.base = kettleOf (s.dev.count s.dev.lead 0) ∧
      t.dev.kettle.at_ = s.dev.now ∧ t.dev.tbs = s.dev.tbs ∧ s.dev.sameEvents t.dev [] ∧ s.keepsRest t)) ∧
  (∀ s : State, ∃ t, exec .kettleBoundUpdate s = .next t ∧ t.dev.g ktlPg Reg.KTL.KBOUND =
      (if s.dev.gb ktlPg Reg.KTL.KSTAT_KVALID = false ∨ s.dev.g ktlPg Reg.KTL.KXO_Y = 0xFFFF ∨
          s.dev.g ktlPg Reg.KTL.KB0 = 0xFFFFFFFF then 0xFFFFFFFF
       else kbound (s.dev.g ktlPg Reg.KTL.KB0) (s.dev.g ktlPg Reg.KTL.KXO_Y) (s.dev.g ktlPg Reg.KTL.KXO_D)
         (s.dev.now - s.dev.kettle.xferAt.getD 0)) ∧ s.onlyTouches t [ktlPg + 0x118] []) ∧
  (∀ s : State, ∃ t, exec .ktlXoFail s = .next t ∧ t.dev.gb ktlPg Reg.KTL.KSTAT_XO_OK = false ∧
      t.dev.gb ktlPg Reg.KTL.KSTAT_KVALID = false ∧ t.dev.kettle.base = s.dev.ktime ∧
      t.dev.evt ktlPg 0 = (s.dev.evt ktlPg 0).occur ∧
      s.onlyTouches { t with dev := { t.dev with kettle := s.dev.kettle } } [ktlPg + 0x104] [ktlPg]) ∧
  (∀ (b : Fin 4) (w : FlashEnd) (k : Int) (s : State),
    (s.noCommit b.val 0x0160 → exec (.kettleSleep b w k) s = .next s) ∧
    (∀ c, s.atCommit b.val 0x0160 c → s.dev.sleeps b.val = false → ∃ t code, exec (.kettleSleep b w k) s = .next t ∧
      s.answersOnly t b.val c code [] ∧ (c.len ≠ 1 → code = codeBadLen) ∧
      (c.len = 1 → s.dev.wrongHalf b.val = true → code = codeNotPermitted) ∧
      (c.len = 1 → s.dev.wrongHalf b.val = false → code = codeBadArg)) ∧
    (s.dev.sleeps b.val = true → ∃ t, exec (.kettleSleep b w k) s = .next t ∧ t.dev.kettle.phase = 1 ∧
      t.dev.kettle.since = s.dev.now ∧ (∀ e : Half, (t.dev.hs e).safe = true) ∧ t.dev.lcs.session = false ∧
      t.nv = (if s.nv.takes w then { s.nv with model := some s.dev.modelWords } else s.nv) ∧ t.pending = s.pending)) ∧
  (∀ s : State,
    let due := s.dev.kettle.phase = 1 ∧ s.dev.kettle.since + 2500000 ≤ s.dev.now
    (¬ due → exec .coreEnRelease s = .next s) ∧
    (due → exec .coreEnRelease s = .next (s.withDev { s.dev with
      kettle := { s.dev.kettle with phase := 2, since := s.dev.now, coreEn := false } }))) ∧
  (∀ (pin : Bool) (s : State),
    let cause := if s.dev.kettle.wake then some 3 else s.dev.wakeCause pin
    let late := s.dev.kettle.since + 2500000 ≤ s.dev.now
    (cause = none ∨ (s.dev.kettle.phase ≠ 1 ∧ s.dev.kettle.phase ≠ 2) → exec (.kettleWake pin) s = .next s) ∧
    (cause.isSome = true → s.dev.kettle.phase = 1 ∨ (s.dev.kettle.phase = 2 ∧ ¬ late) →
      exec (.kettleWake pin) s = .next (s.withDev { s.dev with kettle := { s.dev.kettle with wake := true } })) ∧
    ∀ c, cause = some c → s.dev.kettle.phase = 2 → late → ∃ t, exec (.kettleWake pin) s = .next t ∧
      t.dev.kettle.phase = 0 ∧ t.dev.kettle.coreEn = true ∧ t.dev.kettle.wake = false ∧
      t.dev.g ktlPg Reg.KTL.KSTAT_WAKE_CAUSE = c ∧ t.dev.g sysPg Reg.SYS.START_STAT_CAUSE = 1 ∧ t.dev.tbs = [] ∧
      t.dev.evts = [] ∧ t.dev.now = s.dev.now ∧ s.keepsRest t) ∧
  (∀ s : State,
    let due := s.dev.kettle.phase = 3 ∧ s.dev.kettle.since + 2500000 ≤ s.dev.now
    (¬ due → exec .coreEnAssert s = .next s) ∧
    (due → ∃ t, exec .coreEnAssert s = .next t ∧ t.dev.kettle = { s.dev.kettle with phase := 0, coreEn := true } ∧
      t.dev.g ktlPg Reg.KTL.KSTAT_WAKE_CAUSE = 0 ∧
      s.onlyTouches { t with dev := { t.dev with kettle := s.dev.kettle } } [ktlPg + 0x104] [])) ∧
  (∀ s : State, ∃ t, exec .vaonLoss s = .next t ∧ t.dev.kettle = { phase := 3, since := s.dev.now, coreEn := false } ∧
      (∀ a, t.dev.w a = if pageBase a = ktlPg ∧ 0x100 ≤ pageOff a then (resetWord a).toNat else s.dev.w a) ∧
      t.dev.tbs = s.dev.tbs ∧ s.dev.sameEvents t.dev [] ∧ s.keepsRest t) ∧
  (∀ s : State, ∃ t, exec .vddsRemoved s = .next t ∧ t.dev.kettle = s.dev.kettle ∧ t.dev.fatalNLow = false ∧
      t.dev.tbs = [] ∧ t.dev.evts = [] ∧ t.dev.cads = ⟨{}, {}⟩ ∧ s.keepsRest t) ∧
  (∀ (h : Half) (fixed : List (Nat × Nat)) (s : State),
    (s.dev.scrubDue h = false → exec (.scrubPass h fixed) s = .next s) ∧
    (s.dev.scrubDue h = true → ∃ t, exec (.scrubPass h fixed) s = .next t ∧
      t.dev.scrub = s.dev.scrub.put h { since := s.dev.now, period := max 1 (s.dev.g (pmuPg h) Reg.PMU.SCRUB_PERIOD) } ∧
      t.dev.g (pmuPg h) Reg.PMU.SCRUB_PASSES = (s.dev.g (pmuPg h) Reg.PMU.SCRUB_PASSES + 1) % 256 ∧
      (∀ pg unit, fixed = [(pg, unit)] → pageExists pg = true → scrubs h pg = true → (s.dev.page (pageBase pg)).pstate ≠ 3 →
        t.dev.w (fltPg (s.dev.collector pg) + 0x128) = (s.dev.w (fltPg (s.dev.collector pg) + 0x128) + 1) % 2 ^ 32) ∧
      (fixed = [] → (∀ x ∈ s.dev.pages, x.2.pstate ≠ 2) →
        s.onlyTouches { t with dev := { t.dev with scrub := s.dev.scrub } } [pmuPg h + Reg.PMU.SCRUB_PASSES.off] []) ∧
      t.dev.tbs = s.dev.tbs ∧ s.keepsRest t)) ∧
  (∀ (block : Nat) (ok : Bool) (s : State),
    let n := tget 0 s.nv.erases block + 1
    let retires := (ok = false ∨ 100000 ≤ n) ∧ block ∉ s.nv.retired
    let spent := retires ∧ Config.spareBlocks ≤ s.nv.retired.length
    ∃ t, exec (.flashEraseDone block ok) s = .next t ∧
      t.nv = { s.nv with
        erases := tset 0 s.nv.erases block n
        retired := if retires then block :: s.nv.retired else s.nv.retired
        flashFailed := s.nv.flashFailed || decide spent } ∧
      (¬ spent → t.dev = s.dev) ∧ (spent → t.dev = s.dev.flashFault) ∧ t.pending = s.pending) ∧
  ∀ (b : Fin 4) (s : State),
    (s.noCommit b.val 0x0701 → exec (.flashStat b) s = .next s) ∧
    ∀ c, s.atCommit b.val 0x0701 c →
      (c.len ≠ 0 → ∃ t, exec (.flashStat b) s = .next t ∧ s.answersOnly t b.val c codeBadLen []) ∧
      (c.len = 0 → ∃ t top, exec (.flashStat b) s = .next t ∧
        s.answersOnly t b.val c codeOK [BitVec.ofNat 32 top, BitVec.ofNat 32 s.nv.retired.length,
          BitVec.ofNat 32 (Config.spareBlocks - s.nv.retired.length)] ∧
        (∀ x ∈ s.nv.erases, x.2 ≤ top) ∧ (top = 0 ∨ ∃ x ∈ s.nv.erases, x.2 = top))

/-- A fault of a page that exists is counted, recorded and acted on by its class (R455 to R457, R460): C0 is only counted
while LOG_C0 is 0, C1 raises its event and a code UNIT removes its unit (R31), C2 pulls its half's safe line and C3 both; a
condition that persists is recorded once until it ends, and a reset that it held back then follows (R457, R461, R462). A half
whose line is pulled enters safe state, its ports down and its gates empty (R460). Records are freed and the latch and LOST
cleared (R456, R457). The other half resets one in safe state when it is due and nothing holds it back, with root failure
where its root fails (R374, R462); and a self-test is refused, or isolates its page, ends with its result, keeps the page
isolated where it failed, and is aborted (R465 to R470). What does not apply changes nothing. It says where FAULT_DETECT,
FAULT_CONDITION_END, SAFE_STATE_ENTRY, FAULT_LOG_FREE, FIRST_CLEAR, LOST_CLEAR, AUTO_HALF_RESET, OTHER_RST, BIST_GO, BST_DONE
and BIST_ABORT complete. -/
def Obligations.FaultsSafeStateAndSelfTest : Prop :=
  (∀ (a : BitVec 24) (u : BitVec 8) (code : Fin 16) (s : State),
    let r : FaultRec := { page := pageBase a.toNat, unit := u.toNat, code := code.val
                          cls := faultClass (pageBase a.toNat) code.val }
    let h := s.dev.collector r.page
    let stands := persists code.val = true ∧ r.src ∈ (s.dev.flt.of h).standing
    (pageExists a.toNat = false ∨ code.val = 0 ∨ stands → exec (.faultDetect a u code) s = .next s) ∧
    (pageExists a.toNat = true → code.val ≠ 0 → ¬ stands →
      (code.val ≠ 5 → persists code.val = false →
        exec (.faultDetect a u code) s = .next (s.withDev ((s.dev.fault r).faultEffect r))) ∧
      (r.cls = 0 → s.dev.gb (fltPg h) Reg.FLT.FCTRL_LOG_C0 = false → code.val = 1 →
        ∃ t, exec (.faultDetect a u code) s = .next t ∧
          t.dev.w (fltPg h + 0x128) = (s.dev.w (fltPg h + 0x128) + 1) % 2 ^ 32 ∧ s.onlyTouches t [fltPg h + 0x128] []) ∧
      (code.val = 5 → ∃ t, exec (.faultDetect a u code) s = .next t ∧
        t.dev.w (fltPg h + 0x128) = (s.dev.w (fltPg h + 0x128) + 1) % 2 ^ 32 ∧ t.dev.tbs = s.dev.tbs ∧ s.keepsRest t) ∧
      (code.val = 2 ∨ code.val = 0xC ∨ code.val = 0xD → ∃ t, exec (.faultDetect a u code) s = .next t ∧
        t.dev.w (fltPg h + 0x12C) = (s.dev.w (fltPg h + 0x12C) + 1) % 2 ^ 32 ∧
        t.dev.gb (fltPg h) Reg.FLT.FSTAT_FIRST_VALID = true ∧ t.dev.evt (fltPg h) 1 = (s.dev.evt (fltPg h) 1).occur ∧
        (s.dev.fltOcc h < 32 → t.dev.g (fltPg h) Reg.FLT.LPTR_LWR = (s.dev.g (fltPg h) Reg.FLT.LPTR_LWR + 1) % 2 ^ 16) ∧
        (code.val = 2 → typeAt r.page = some .aeg → u.toNat < 8 →
          t.dev.gb (aegE (halfAt r.page) u.toNat) Reg.AEG.ESTAT_INSVC = false) ∧
        (code.val = 2 → typeAt r.page = some .tdc → u.toNat < 16 →
          t.dev.gb (tdcP (halfAt r.page) (16 * idxAt r.page + u.toNat)) Reg.TDC.PSTAT_OOS = true) ∧
        (code.val = 2 → typeAt r.page = some .rlt → u.toNat ∈ tget [] t.dev.unitsOut r.page) ∧
        t.dev.half = s.dev.half ∧ t.dev.tbs = s.dev.tbs ∧ s.keepsRest t) ∧
      (r.cls = 2 → ∃ t, exec (.faultDetect a u code) s = .next t ∧
        (∀ e : Half, t.dev.w (fltPg e + 0x130) = (s.dev.w (fltPg e + 0x130) + 1) % 2 ^ 32 ∧
          t.dev.evt (fltPg e) 2 = (s.dev.evt (fltPg e) 2).occur) ∧ (t.dev.hs h).safePend = some true ∧
        t.dev.hs h.other = s.dev.hs h.other ∧ t.dev.tbs = s.dev.tbs ∧ s.keepsRest t) ∧
      (r.cls = 3 → ∃ t, exec (.faultDetect a u code) s = .next t ∧
        (∀ e : Half, t.dev.gb (fltPg e) Reg.FLT.FSTAT_FATAL = true ∧ (t.dev.hs e).safePend = some true) ∧
        t.dev.w (fltPg h + 0x134) = (s.dev.w (fltPg h + 0x134) + 1) % 2 ^ 32 ∧ t.dev.tbs = s.dev.tbs ∧ s.keepsRest t))) ∧
  (∀ (a : BitVec 24) (u : BitVec 8) (code : Fin 16) (s : State),
    let r : FaultRec := { page := pageBase a.toNat, unit := u.toNat, code := code.val
                          cls := faultClass (pageBase a.toNat) code.val }
    let h := s.dev.collector r.page
    let f := halfAt r.page
    (pageExists a.toNat = false ∨ r.src ∉ (s.dev.flt.of h).standing → exec (.faultConditionEnd a u code) s = .next s) ∧
    (pageExists a.toNat = true → r.src ∈ (s.dev.flt.of h).standing →
      ∃ t, exec (.faultConditionEnd a u code) s = .next t ∧
        (t.dev.flt.of h).standing = (s.dev.flt.of h).standing.filter (· != r.src) ∧
        (code.val = 0xD → ∀ e < 32, s.dev.w (fltPg h + 0x200 + 0x10 * e) = r.src → t.dev.w (fltPg h + 0x200 + 0x10 * e) = 0) ∧
        (code.val ≠ 0xD → (s.dev.flt.of f.other).asked = true → t.dev.resetHeld f = false →
          (t.dev.flt.of f.other).resetAt = some (s.dev.now + ticks100ms)) ∧
        t.dev.half = s.dev.half ∧ t.dev.tbs = s.dev.tbs ∧ s.dev.sameEvents t.dev [] ∧ s.keepsRest t)) ∧
  (∀ (h : Half) (s : State),
    ((s.dev.hs h).safePend = none → exec (.safeStateEntry h) s = .next s) ∧
    ∀ by_, (s.dev.hs h).safePend = some by_ →
      ((s.dev.hs h).safe = true → exec (.safeStateEntry h) s =
        .next (s.withDev { s.dev with half := s.dev.half.put h { s.dev.hs h with safePend := none } })) ∧
      ((s.dev.hs h).safe = false → ∃ t, exec (.safeStateEntry h) s = .next t ∧ (t.dev.hs h).safe = true ∧
        (t.dev.hs h).byFault = by_ ∧ (t.dev.hs h).coresUp = false ∧ (t.dev.hs h).safePend = none ∧
        t.dev.gb (fltPg h.other) Reg.FLT.FSTAT_OTHER_DOWN = true ∧
        (∀ j < 4, t.dev.portUp (2 * j + h.num) = false ∧ (t.dev.gate (2 * j + h.num)).held = []) ∧
        (∀ j < 4, t.dev.portUp (2 * j + h.other.num) = s.dev.portUp (2 * j + h.other.num)) ∧ t.dev.tbs = s.dev.tbs ∧
        s.keepsRest t)) ∧
  (∀ (m : Master) (h : Half) (v : BitVec 16) (s : State), s.writable m (fltPg h + 0x120) →
    let fits := (s.dev.g (fltPg h) Reg.FLT.LPTR_LWR + 2 ^ 16 - v.toNat) % 2 ^ 16 ≤ 32
    ∃ t, exec (.faultLogFree m h v) s = .next t ∧
      t.dev.g (fltPg h) Reg.FLT.LPTR_LRD = (if fits then v.toNat else s.dev.g (fltPg h) Reg.FLT.LPTR_LRD) ∧
      t.dev.g (fltPg h) Reg.FLT.LPTR_LWR = s.dev.g (fltPg h) Reg.FLT.LPTR_LWR ∧
      s.onlyTouches t [fltPg h + 0x120] []) ∧
  (∀ (m : Master) (h : Half) (s : State), s.writable m (fltPg h + 0x11C) →
    (∃ t, exec (.firstClear m h) s = .next t ∧ t.dev.gb (fltPg h) Reg.FLT.FSTAT_FIRST_VALID = false ∧
      t.dev.w (fltPg h + 0x10C) = 0 ∧
      s.onlyTouches t [fltPg h + 0x104, fltPg h + 0x10C, fltPg h + 0x110, fltPg h + 0x114, fltPg h + 0x118] []) ∧
    ∃ t, exec (.lostClear m h) s = .next t ∧ t.dev.w (fltPg h + 0x124) = 0 ∧ s.onlyTouches t [fltPg h + 0x124] []) ∧
  (∀ (h : Half) (rootOk : Bool) (s : State),
    let due := (∃ at_, (s.dev.flt.of h.other).resetAt = some at_ ∧ at_ ≤ s.dev.now) ∧ s.dev.resettable h = true ∧
      s.dev.resetHeld h = false ∧ s.dev.planeUp h.other = true
    (¬ due → exec (.autoHalfReset h rootOk) s = .next s) ∧
    (due → ∃ t, exec (.autoHalfReset h rootOk) s = .next t ∧ (t.dev.hs h).safe = false ∧ (t.dev.hs h).coresUp = true ∧
      (t.dev.hs h).restored = false ∧ (t.dev.flt.of h.other).resetAt = none ∧
      t.dev.gb (fltPg h.other) Reg.FLT.FSTAT_OTHER_DOWN = false ∧
      (rootOk = false → t.dev.gb (cadPg h) Reg.CAD.CSTAT_TAMPER_LOCK = true ∨
        t.dev.gb (cadPg h) Reg.CAD.CSTAT_ROOT_FAIL = true) ∧
      (∀ n < 16, t.dev.count h n = s.dev.count h n) ∧ t.nv = s.nv ∧ t.pending = s.pending)) ∧
  (∀ (m : Master) (h : Half) (rootOk : Bool) (s : State), s.writable m (fltPg h + 0x108) →
    let may := s.dev.serving h.other = false ∧ s.dev.resettable h.other = true ∧ s.dev.planeUp h = true
    (¬ may → ∃ t, exec (.otherRst m h rootOk) s = .next t ∧ s.onlyTouches t [] []) ∧
    (may → s.dev.resetHeld h.other = true →
      ∃ t, exec (.otherRst m h rootOk) s = .next t ∧ (t.dev.flt.of h).asked = true ∧
        s.onlyTouches { t with dev := { t.dev with flt := s.dev.flt } } [] []) ∧
    (may → s.dev.resetHeld h.other = false →
      ∃ t, exec (.otherRst m h rootOk) s = .next t ∧ (t.dev.hs h.other).safe = false ∧ (t.dev.hs h.other).coresUp = true ∧
        (rootOk = false → t.dev.gb (cadPg h.other) Reg.CAD.CSTAT_TAMPER_LOCK = true ∨
          t.dev.gb (cadPg h.other) Reg.CAD.CSTAT_ROOT_FAIL = true) ∧
        t.dev.gb (fltPg h) Reg.FLT.FSTAT_PARKED = false ∧ t.nv = s.nv ∧ t.pending = s.pending)) ∧
  (∀ (m : Master) (h : Half) (s : State), s.writable m (bstPg h + 0x104) →
    (s.dev.bstRefusal h s.nv.scrap ≠ 0 → ∃ t, exec (.bistGo m h) s = .next t ∧
      t.dev.g (bstPg h) Reg.BST.BSTAT_REFUSE = s.dev.bstRefusal h s.nv.scrap ∧
      t.dev.evt (bstPg h) 1 = (s.dev.evt (bstPg h) 1).occur ∧ s.onlyTouches t [bstPg h + 0x108] [bstPg h + 1]) ∧
    (∀ pg, s.dev.bstRefusal h s.nv.scrap = 0 → s.dev.bstTarget h = some pg →
      ∃ t, exec (.bistGo m h) s = .next t ∧
        t.dev.bist = some {
          page := pg, start := s.dev.now
          mode := if s.dev.g (bstPg h) Reg.BST.BTARGET_MODE = 0 then 3 else s.dev.g (bstPg h) Reg.BST.BTARGET_MODE
          repair := s.dev.gb (bstPg h) Reg.BST.BTARGET_REPAIR, save := s.dev.gb (bstPg h) Reg.BST.BTARGET_SAVE } ∧
        (t.dev.page pg).isolated = true ∧ t.dev.g (bstPg h) Reg.BST.BSTAT_STATE = 1 ∧ t.dev.tbs = s.dev.tbs ∧
        s.keepsRest t)) ∧
  (∀ (x : BistSeen) (s : State), s.dev.bist = none → exec (.bstDone x) s = .next s) ∧
  (∀ (x : BistSeen) (r : BistRun) (p : Page) (s : State), s.dev.bist = some r → typeAt r.page = some p →
    bstAccepts p = true →
    let b := bstPg (halfAt r.page)
    let mem := r.mode ≠ 2 ∧ 0 < x.fails
    let logic := r.mode ≠ 1 ∧ x.logic = true
    let fixed := mem ∧ r.repair = true ∧ repairFits (tget [] s.dev.repairs r.page) x.rows = true
    let mended := fixed ∧ x.second = true ∧ ¬ logic
    let fails := (mem ∨ logic) ∧ ¬ mended
    ∃ t, exec (.bstDone x) s = .next t ∧ t.dev.bist = none ∧ t.dev.g b Reg.BST.BSTAT_STATE = 2 ∧
      t.dev.g b Reg.BST.BSTAT_RESULT = (if mended then 1 else if fails then 2 else 0) ∧
      t.dev.evt b 0 = (s.dev.evt b 0).occur ∧
      (fails → (t.dev.page r.page).isolated = (s.dev.page r.page).isolated ∧ tget [] t.dev.unitsOut r.page = [0xFF]) ∧
      (¬ fails → (t.dev.page r.page).isolated = false) ∧
      tget [] t.dev.repairs r.page = (if fixed then tget [] s.dev.repairs r.page ++ x.rows else tget [] s.dev.repairs r.page) ∧
      (r.save = false ∨ s.nv.flashFailed = true → t.nv = s.nv) ∧
      (r.save = true → s.nv.flashFailed = false → tget [] t.nv.repairs r.page = tget [] t.dev.repairs r.page) ∧
      t.pending = s.pending) ∧
  ∀ (m : Master) (h : Half) (s : State), s.writable m (bstPg h + 0x104) →
    ((∀ r, s.dev.bist = some r → halfAt r.page ≠ h) → ∃ t, exec (.bistAbort m h) s = .next t ∧ s.onlyTouches t [] []) ∧
    ∀ r p, s.dev.bist = some r → halfAt r.page = h → typeAt r.page = some p → bstAccepts p = true →
      ∃ t, exec (.bistAbort m h) s = .next t ∧ t.dev.bist = none ∧ t.dev.g (bstPg h) Reg.BST.BSTAT_RESULT = 3 ∧
        t.dev.g (bstPg h) Reg.BST.BSTAT_STATE = 2 ∧ (t.dev.page r.page).isolated = false ∧ t.dev.tbs = s.dev.tbs ∧
        s.keepsRest t

/-! ### Duplicate service -/

/-- When the millisecond's digests are due, each running half compares the samples: the same request counts in DUP_OK where
the digests agree and in DUP_MISMATCH, with its event and a C1 fault at the sixteenth in a row, where they differ; any other
pair counts in UNPAIRED (R400). Past 100 µs of an empty window in Check both halves take one probe in (R401). A link that may
come up does so with the peer that R404 gives it and shows WIRING_ERR with any other, and goes down on command or at the
sixteenth resend in a row (R404, R405, R408). An exchange gives OFS, DELAY and the candidate's phase, and the sixteenth valid
one in a row makes transfer valid, an invalid one ends it (R409, R410). Reports set the peer candidate's budget and QR, which
a silence of 3 ms sets to 15, and show a conflict of chip IDs (R405, R412, R413). Claims are kept, sent, evaluated with the
quorum, and switched under hold and interlock (R415 to R418). The buddy keeps contexts and takes records under a context it
holds (R422). An intact generation is applied in a returning half (R425, R426); a half steps through its return and rejoins
(R427, R428), and a chip is ALONE or rejoins (R429). What is not due, or comes on a link that is down, changes nothing. It
says where DIGEST_CHECK, PROBE_INJECT, SLV_UP, SLV_DOWN, FLIT_RECEIVE, TIME_TRANSFER, HEALTH_REPORT_RECEIVE,
HEALTH_REPORT_SEND, PEER_REPORT_TIMEOUT, CLAIM_SEND, CLAIM_EVALUATE, CLAIM_SWITCH, ILK_EVALUATE, MIRROR_CONTEXT_RECEIVE,
MIRROR_RECEIVE, STATE_COPY_APPLY, JOIN_STEP_ADVANCE, HALF_REJOINED, CHIP_ALONE and CHIP_REJOINED complete. -/
def Obligations.DuplicateServiceAndReturn : Prop :=
  (∀ s : State, (s.dev.digestDue = false → exec .digestCheck s = .next s) ∧
    (s.dev.digestDue = true → ∃ t, exec .digestCheck s = .next t ∧
      (∀ e : Half, (t.dev.rd e).sample = none ∧ (t.dev.rd e).digestAt = msOf s.dev.schedCount + 1) ∧
      (∀ e : Half, s.dev.planeUp e = false → t.dev.g (redPg e) Reg.RED.DUP_OK = s.dev.g (redPg e) Reg.RED.DUP_OK ∧
        t.dev.g (redPg e) Reg.RED.DUP_MISMATCH = s.dev.g (redPg e) Reg.RED.DUP_MISMATCH ∧
        t.dev.g (redPg e) Reg.RED.UNPAIRED = s.dev.g (redPg e) Reg.RED.UNPAIRED) ∧
      (∀ e : Half, s.dev.planeUp e = true →
        (∀ a b, s.dev.sampleNow e = some a → s.dev.sampleNow e.other = some b → a.1 = b.1 →
          (a.2 = b.2 → (t.dev.rd e).misRun = 0 ∧ (t.dev.rd e).matches_ = (s.dev.rd e).matches_ + 1 ∧
            t.dev.g (redPg e) Reg.RED.DUP_OK = (s.dev.g (redPg e) Reg.RED.DUP_OK + 1) % 2 ^ 32 ∧
            t.dev.g (redPg e) Reg.RED.DUP_MISMATCH = s.dev.g (redPg e) Reg.RED.DUP_MISMATCH ∧
            t.dev.evt (redPg e) 0 = s.dev.evt (redPg e) 0) ∧
          (a.2 ≠ b.2 → (t.dev.rd e).matches_ = 0 ∧ t.dev.evt (redPg e) 0 = (s.dev.evt (redPg e) 0).occur ∧
            t.dev.g (redPg e) Reg.RED.DUP_MISMATCH = (s.dev.g (redPg e) Reg.RED.DUP_MISMATCH + 1) % 2 ^ 32 ∧
            (t.dev.rd e).misRun = (if s.dev.exchLost then (s.dev.rd e).misRun else (s.dev.rd e).misRun + 1) ∧
            (s.dev.exchLost = false → (s.dev.rd e).misRun = 15 →
              t.dev.w (fltPg e + 0x12C) = (s.dev.w (fltPg e + 0x12C) + 1) % 2 ^ 32))) ∧
        (∀ a b, s.dev.sampleNow e = some a → s.dev.sampleNow e.other = some b → a.1 ≠ b.1 →
          (t.dev.rd e).matches_ = 0 ∧
          t.dev.g (redPg e) Reg.RED.UNPAIRED = (s.dev.g (redPg e) Reg.RED.UNPAIRED + 1) % 2 ^ 32) ∧
        ((s.dev.sampleNow e).isSome ≠ (s.dev.sampleNow e.other).isSome → (t.dev.rd e).matches_ = 0 ∧
          t.dev.g (redPg e) Reg.RED.UNPAIRED = (s.dev.g (redPg e) Reg.RED.UNPAIRED + 1) % 2 ^ 32) ∧
        (s.dev.sampleNow e = none → s.dev.sampleNow e.other = none →
          t.dev.g (redPg e) Reg.RED.UNPAIRED = (s.dev.g (redPg e) Reg.RED.UNPAIRED + 1) % 2 ^ 32 ∧
          (t.dev.rd e).matches_ = (if (s.dev.g (redPg e) Reg.RED.RSTAT_HJOIN = 3 ∨
            s.dev.g (redPg e.other) Reg.RED.RSTAT_HJOIN = 3) ∧ s.dev.ntpEntry e = none
            then (s.dev.rd e).matches_ + 1 else 0))) ∧
      t.dev.tbs = s.dev.tbs ∧ t.dev.links = s.dev.links ∧ s.keepsRest t)) ∧
  (∀ s : State,
    let due := fun c : Half => s.dev.g (redPg c) Reg.RED.RSTAT_HJOIN = 3 ∧ s.dev.planeUp c = true ∧ s.dev.serving c.other = true ∧
      100000 * nsUnit ≤ s.dev.schedCount % (10 ^ 6 * nsUnit) ∧ s.dev.sampleNow c.other = none ∧
      (∀ r ∈ (s.dev.rsp c.other).reqs, r.probe = false) ∧ s.dev.ntpEntry c.other ≠ none
    ((∀ c, ¬ due c) → exec .probeInject s = .next s) ∧
    ∀ c a, due c → s.dev.ntpEntry c.other = some a →
      ∃ t, exec .probeInject s = .next t ∧ (∀ e : Half, ∃ r, (t.dev.rsp e).reqs = (s.dev.rsp e).reqs ++ [r] ∧
          r.probe = true ∧ r.stage = .parse ∧ r.entNo = a ∧ r.bytes = probeBytes (s.dev.svcEntry e a) ∧
          r.desc.ing0 = msOf s.dev.schedCount * ns32 1000000 + ns32 50000 ∧ r.desc.ing1 = r.desc.ing0 ∧ r.desc.v0 = true ∧
          r.desc.v1 = true ∧ r.desc.epoch = s.dev.g (bndPg e) Reg.BND.EPOCH_NUM) ∧
        { t.dev with resp := s.dev.resp } = s.dev ∧ s.keepsRest t) ∧
  (∀ (l : Fin 4) (peer plink : Nat) (s : State),
    (s.dev.linkHeld l.val = true ∨ s.dev.linkUp_ l.val = true → exec (.slvUp l peer plink) s = .next s) ∧
    (s.dev.linkHeld l.val = false → s.dev.linkUp_ l.val = false →
      ∃ t, exec (.slvUp l peer plink) s = .next t ∧ t.dev.g (slvL l.val) Reg.SLV.LSTAT_PEER_ID = peer % 8 ∧
        t.dev.g (slvL l.val) Reg.SLV.LSTAT_PEER_LINK = plink % 4 ∧
        (s.dev.linkPeer l.val = (peer % 8, plink % 4) → t.dev.linkUp_ l.val = true ∧
          t.dev.gb (slvL l.val) Reg.SLV.LSTAT_WIRING_ERR = false ∧ t.dev.link l.val = { reptAt := s.dev.now } ∧
          t.dev.evt (slvPg l.val) (slvEvt l.val 0) = (s.dev.evt (slvPg l.val) (slvEvt l.val 0)).occur) ∧
        (s.dev.linkPeer l.val ≠ (peer % 8, plink % 4) → t.dev.linkUp_ l.val = false ∧
          t.dev.gb (slvL l.val) Reg.SLV.LSTAT_WIRING_ERR = true ∧
          t.dev.evt (slvPg l.val) (slvEvt l.val 2) = (s.dev.evt (slvPg l.val) (slvEvt l.val 2)).occur) ∧
        (∀ k < 4, k ≠ l.val → t.dev.linkUp_ k = s.dev.linkUp_ k) ∧ t.dev.tbs = s.dev.tbs ∧ s.keepsRest t)) ∧
  (∀ (l : Fin 4) (s : State),
    (s.dev.linkUp_ l.val = false → exec (.slvDown l) s = .next s) ∧
    (s.dev.linkUp_ l.val = true → ∃ t, exec (.slvDown l) s = .next t ∧ t.dev.linkUp_ l.val = false ∧
      t.dev.gb (slvL l.val) Reg.SLV.LSTAT_XFER_VALID = false ∧ (t.dev.link l.val).sent = [] ∧ (t.dev.link l.val).run = 0 ∧
      t.dev.g (slvL l.val) Reg.SLV.DOWNS = (s.dev.g (slvL l.val) Reg.SLV.DOWNS + 1) % 2 ^ 32 ∧
      t.dev.evt (slvPg l.val) (slvEvt l.val 1) = (s.dev.evt (slvPg l.val) (slvEvt l.val 1)).occur ∧
      (∀ k < 4, k ≠ l.val → t.dev.linkUp_ k = s.dev.linkUp_ k) ∧ t.dev.tbs = s.dev.tbs ∧ s.keepsRest t)) ∧
  (∀ (l : Fin 4) (s : State),
    (s.dev.linkUp_ l.val = false → ∀ f, exec (.flitReceive l f) s = .next s) ∧
    (s.dev.linkUp_ l.val = true →
      (∀ cls claims, ∃ t, exec (.flitReceive l (.intact cls claims)) s = .next t ∧ (t.dev.link l.val).resend = 0 ∧
        (claims = [] → t.dev.red = s.dev.red) ∧
        s.onlyTouches { t with dev := { t.dev with links := s.dev.links, red := s.dev.red } } [] []) ∧
      (∀ cls c, ∃ t, exec (.flitReceive l (.intact cls [c])) s = .next t ∧ ∀ e : Half,
        let born := s.dev.now - c.age * 250
        let passed := c.chip % 8 = s.dev.chipId e ∨ max 10 (s.dev.g (redPg e) Reg.RED.TOPO_AGE_US) ≤ c.age ∨
          ∃ x, tget none (s.dev.rd e).claims (c.chip % 8) = some x ∧ born < x.at_
        (passed → t.dev.rd e = s.dev.rd e) ∧
        (¬ passed → tget none (t.dev.rd e).claims (c.chip % 8) = some { vals := c.vals % 2 ^ 32, at_ := born } ∧
          (t.dev.rd e).heardAt = s.dev.now)) ∧
      ∀ f, f = .badCrc ∨ f = .fecBad → ∃ t, exec (.flitReceive l f) s = .next t ∧
        t.dev.g (slvL l.val) Reg.SLV.CRC_ERR =
          (if f = .badCrc then (s.dev.g (slvL l.val) Reg.SLV.CRC_ERR + 1) % 2 ^ 32 else s.dev.g (slvL l.val) Reg.SLV.CRC_ERR) ∧
        t.dev.g (slvL l.val) Reg.SLV.RESENDS = (s.dev.g (slvL l.val) Reg.SLV.RESENDS + 1) % 2 ^ 32 ∧
        t.dev.linkUp_ l.val = decide ((s.dev.link l.val).resend + 1 < 16) ∧
        ((s.dev.link l.val).resend + 1 < 16 → (t.dev.link l.val).resend = (s.dev.link l.val).resend + 1) ∧
        t.dev.g (slvL l.val) Reg.SLV.DOWNS = (if (s.dev.link l.val).resend + 1 < 16 then s.dev.g (slvL l.val) Reg.SLV.DOWNS
          else (s.dev.g (slvL l.val) Reg.SLV.DOWNS + 1) % 2 ^ 32) ∧ t.dev.tbs = s.dev.tbs ∧ s.keepsRest t)) ∧
  (∀ (l : Fin 4) (t2 t3 : Option Nat) (s : State),
    let own := linkHalf l.val
    let st := s.dev.link l.val
    let lost := if s.dev.gb (slvL l.val) Reg.SLV.LSTAT_XFER_VALID then (s.dev.evt (slvPg l.val) (slvEvt l.val 3)).occur
      else s.dev.evt (slvPg l.val) (slvEvt l.val 3)
    (s.dev.linkUp_ l.val = false → exec (.timeTransfer l t2 t3) s = .next s) ∧
    (s.dev.linkUp_ l.val = true → st.t1.of own = none ∨ t2 = none ∨ t3 = none ∨ st.t4.of own = none →
      ∃ t, exec (.timeTransfer l t2 t3) s = .next t ∧ t.dev.gb (slvL l.val) Reg.SLV.LSTAT_XFER_VALID = false ∧
        (t.dev.link l.val).run = 0 ∧ t.dev.evt (slvPg l.val) (slvEvt l.val 3) = lost ∧ t.dev.tbs = s.dev.tbs ∧ s.keepsRest t) ∧
    ∀ a x y z, s.dev.linkUp_ l.val = true → st.t1.of own = some a → t2 = some x → t3 = some y → st.t4.of own = some z →
      let r := exchange a x y z (signedOf 32 (s.dev.g (slvL l.val) Reg.SLV.LASYM))
      (st.delayOk r.1 = false →
        ∃ t, exec (.timeTransfer l t2 t3) s = .next t ∧ t.dev.gb (slvL l.val) Reg.SLV.LSTAT_XFER_VALID = false ∧
          (t.dev.link l.val).run = 0 ∧ t.dev.evt (slvPg l.val) (slvEvt l.val 3) = lost ∧ t.dev.tbs = s.dev.tbs ∧
          s.keepsRest t) ∧
      (st.delayOk r.1 = true →
        ∃ t, exec (.timeTransfer l t2 t3) s = .next t ∧
          t.dev.s48 (slvL l.val) Reg.SLV.OFS_LO Reg.SLV.OFS_HI = signedOf 48 (unsignedOf 48 r.2) ∧
          t.dev.g (slvL l.val) Reg.SLV.DELAY = unsignedOf 32 r.1 ∧
          t.dev.g (slvL l.val) Reg.SLV.XCNT = (s.dev.g (slvL l.val) Reg.SLV.XCNT + 1) % 2 ^ 32 ∧
          (s.dev.cstate own (26 + l.val) ≠ 0 → t.dev.s48 (refQ own (26 + l.val)) Reg.REF.PHASE_LO Reg.REF.PHASE_HI =
            signedOf 48 (unsignedOf 48 (r.2 - signedOf 32 (s.dev.g (refQ own (26 + l.val)) Reg.REF.DELAY)))) ∧
          (t.dev.link l.val).run = st.run + 1 ∧
          t.dev.gb (slvL l.val) Reg.SLV.LSTAT_XFER_VALID = decide (16 ≤ st.run + 1) ∧
          t.dev.tbs = s.dev.tbs ∧ s.keepsRest t)) ∧
  (∀ (l : Fin 4) (bytes : List Byte) (s : State),
    let b := (bytes ++ List.replicate 32 (0 : Byte)).take 32
    let me := s.dev.chipId (linkHalf l.val)
    let conflict := beAt b 1 1 % 8 = me ∧ sliceB b 20 8 ≠ deviceId.take 8
    (s.dev.linkUp_ l.val = false → exec (.healthReportReceive l bytes) s = .next s) ∧
    (s.dev.linkUp_ l.val = true →
      ∃ t, exec (.healthReportReceive l bytes) s = .next t ∧
        (∀ w < 8, t.dev.w (slvL l.val + 0x28 + 4 * w) = beAt b (4 * w) 4) ∧ (t.dev.link l.val).reptAt = s.dev.now ∧
        (∀ e : Half, t.dev.g (refQ e (26 + l.val)) Reg.REF.NBUDGET = beAt b 8 4 ∧ (t.dev.rd e).heardAt = s.dev.now ∧
          t.dev.g (refQ e (26 + l.val)) Reg.REF.CSTAT_RX_QR = (if bitAt (beAt b 14 1) me then 15 else beAt b 3 1 % 16) ∧
          bitAt (t.dev.g (refQ e (26 + l.val)) Reg.REF.CSTAT_FAULT) faultINTEG = (beAt b 1 1 / 16 % 4 == 2) ∧
          (conflict → (t.dev.rd e).idUntil = some (s.dev.now + ticks1s) ∧ t.dev.evt (redPg e) 7 =
            (if s.dev.idConflict e then s.dev.evt (redPg e) 7 else (s.dev.evt (redPg e) 7).occur)) ∧
          (¬ conflict → (t.dev.rd e).idUntil = (s.dev.rd e).idUntil ∧ t.dev.evt (redPg e) 7 = s.dev.evt (redPg e) 7)) ∧
        t.dev.tbs = s.dev.tbs ∧ s.keepsRest t)) ∧
  (∀ s : State, ∃ t, exec .healthReportSend s = .next t ∧
      (∀ l ∈ s.dev.upLinks, (t.dev.link l).sent = (hclassRefresh s.dev).healthReport s.nv.boots) ∧
      (∀ e : Half, t.dev.g (redPg e) Reg.RED.RSTAT_HCLASS = s.dev.hclass) ∧ t.dev.rseq = (s.dev.rseq + 1) % 2 ^ 32 ∧
      t.dev.tbs = s.dev.tbs ∧ s.dev.sameEvents t.dev [] ∧ s.keepsRest t) ∧
  (∀ (l : Fin 4) (s : State),
    (s.dev.now < (s.dev.link l.val).reptAt + 750000 → exec (.peerReportTimeout l) s = .next s) ∧
    ((s.dev.link l.val).reptAt + 750000 ≤ s.dev.now →
      ∃ t, exec (.peerReportTimeout l) s = .next t ∧
        (∀ e : Half, t.dev.g (refQ e (26 + l.val)) Reg.REF.CSTAT_RX_QR = 15) ∧ t.dev.links = s.dev.links ∧
        t.dev.tbs = s.dev.tbs ∧ s.keepsRest t)) ∧
  (∀ s : State, ∃ t, exec .claimSend s = .next t ∧
      (∀ l ∈ s.dev.upLinks, (t.dev.link l).claimsSent =
        (s.dev.chipId s.dev.lead, s.dev.w (redPg s.dev.lead + 0x124), 0) ::
          (s.dev.liveClaims s.dev.lead).map fun c => (c.1, c.2.vals, s.dev.now - c.2.at_)) ∧
      (∀ l, l ∉ s.dev.upLinks → t.dev.link l = s.dev.link l) ∧
      s.onlyTouches { t with dev := { t.dev with links := s.dev.links } } [] []) ∧
  (∀ s : State, ∃ t, exec .claimEvaluate s = .next t ∧
      (∀ e : Half, t.dev.g (redPg e) Reg.RED.RSTAT_HCLASS = s.dev.hclass) ∧
      (∀ e : Half, s.dev.planeUp e = false → t.dev.rd e = s.dev.rd e) ∧
      (∀ e : Half, s.dev.planeUp e = true →
        (∀ g < 4, tget none (t.dev.rd e).want g = (if (hclassRefresh s.dev).claimWant e g = true
          then some ((tget none (s.dev.rd e).want g).getD s.dev.now) else none)) ∧
        t.dev.gb (redPg e) Reg.RED.RSTAT_QUORUM = decide (s.dev.topoN e < 2 * (1 + (s.dev.liveClaims e).length)) ∧
        (∀ g < 4, getBits (t.dev.w (redPg e + 0x124)) (8 * g) 8 = (hclassRefresh s.dev).claimOf e g)) ∧
      t.dev.links = s.dev.links ∧ s.dev.sameEvents t.dev [] ∧ t.dev.tbs = s.dev.tbs ∧ s.keepsRest t) ∧
  (∀ (h : Half) (g : Fin 4) (s : State),
    let want := tget none (s.dev.rd h).want g.val
    let strong := bitAt (s.dev.g (redPg h) Reg.RED.RSTAT_STRONG) g.val
    let ripe := ∃ x, want = some x ∧ x + max 7 (s.dev.g (redPg h) Reg.RED.TOPO_HOLD_US) * 250 ≤ s.dev.now
    let takes := strong = false ∧ ripe ∧ s.dev.ilkOk h = true
    let leaves := strong = true ∧ (want = none ∨ s.dev.ilkOk h = false)
    ∃ t, exec (.claimSwitch h g) s = .next t ∧
      (takes → bitAt (t.dev.g (redPg h) Reg.RED.RSTAT_STRONG) g.val = true ∧
        t.dev.evt (redPg h) 3 = (s.dev.evt (redPg h) 3).occur ∧ t.dev.evt (redPg h) 4 = s.dev.evt (redPg h) 4) ∧
      (leaves → bitAt (t.dev.g (redPg h) Reg.RED.RSTAT_STRONG) g.val = false ∧
        t.dev.evt (redPg h) 4 = (s.dev.evt (redPg h) 4).occur ∧ t.dev.evt (redPg h) 3 = s.dev.evt (redPg h) 3 ∧
        (want = none → t.dev.g (redPg h) Reg.RED.RSTAT_STRONG = 0 → t.dev.gb (redPg h) Reg.RED.RSTAT_ILK_OUT = false)) ∧
      (¬ takes → ¬ leaves → t.dev.g (redPg h) Reg.RED.RSTAT_STRONG = s.dev.g (redPg h) Reg.RED.RSTAT_STRONG ∧
        t.dev.evt (redPg h) 3 = s.dev.evt (redPg h) 3 ∧ t.dev.evt (redPg h) 4 = s.dev.evt (redPg h) 4) ∧
      (∀ k < 4, k ≠ g.val →
        bitAt (t.dev.g (redPg h) Reg.RED.RSTAT_STRONG) k = bitAt (s.dev.g (redPg h) Reg.RED.RSTAT_STRONG) k) ∧
      t.dev.red = s.dev.red ∧ t.dev.tbs = s.dev.tbs ∧ s.keepsRest t) ∧
  (∀ (pin : Bool) (s : State), ∃ t, exec (.ilkEvaluate pin) s = .next t ∧
      (∀ e : Half, t.dev.gb (redPg e) Reg.RED.RSTAT_ILK_IN = pin) ∧
      (∀ e : Half, s.dev.topoN e ≠ 2 ∨ s.dev.planeUp e = false →
        t.dev.gb (redPg e) Reg.RED.RSTAT_ILK_OUT = s.dev.gb (redPg e) Reg.RED.RSTAT_ILK_OUT ∧ t.dev.rd e = s.dev.rd e) ∧
      (∀ e : Half, s.dev.topoN e = 2 → s.dev.planeUp e = true →
        let st := s.dev.rd e
        let out := s.dev.gb (redPg e) Reg.RED.RSTAT_ILK_OUT
        let conflict := pin && out && decide (st.ilkBoth.getD s.dev.now + 250 ≤ s.dev.now)
        let want := (tget none st.want 0).isSome
        let idle := !want && s.dev.g (redPg e) Reg.RED.RSTAT_STRONG == 0
        t.dev.evt (redPg e) 6 = (if conflict then (s.dev.evt (redPg e) 6).occur else s.dev.evt (redPg e) 6) ∧
        t.dev.gb (redPg e) Reg.RED.RSTAT_ILK_OUT = (!(conflict && s.dev.chipId e == 1) && !idle &&
          (out || (want && !pin && decide (st.ilkLow.getD s.dev.now + 250 ≤ s.dev.now)))) ∧
        (t.dev.rd e).ilkLow = (if pin then none else some (st.ilkLow.getD s.dev.now))) ∧
      t.dev.tbs = s.dev.tbs ∧ s.keepsRest t) ∧
  (∀ (l : Fin 4) (c : MirrorCtx) (s : State),
    let h := linkHalf l.val
    let o := s.dev.g (slvL l.val) Reg.SLV.LSTAT_PEER_ID
    (s.dev.linkUp_ l.val = false ∨ s.dev.gb (redPg h) Reg.RED.MIRROR_ACCEPT = false →
      exec (.mirrorContextReceive l c) s = .next s) ∧
    (s.dev.linkUp_ l.val = true → s.dev.gb (redPg h) Reg.RED.MIRROR_ACCEPT = true →
      ∃ t, exec (.mirrorContextReceive l c) s = .next t ∧ t.dev.originCtx h o c.epoch = some c ∧
        (t.dev.plane h).bridge = (s.dev.plane h).bridge ++ [.context o c] ∧
        { t.dev with red := s.dev.red, planes := s.dev.planes } = s.dev ∧ s.keepsRest t)) ∧
  (∀ (l : Fin 4) (record : List Byte) (s : State),
    let h := linkHalf l.val
    let o := s.dev.g (slvL l.val) Reg.SLV.LSTAT_PEER_ID
    let m := msgOf (record.drop 32)
    let ctx := s.dev.originCtx h o (descOf record).epoch
    let open_ := s.dev.chipReturning h = false ∧ s.dev.trsOn h = true ∧ s.dev.creditsUsed h < 512 ∧
      s.dev.matchEntry h (descOf record).port m ≠ none
    (s.dev.linkUp_ l.val = false ∨ s.dev.gb (redPg h) Reg.RED.MIRROR_ACCEPT = false →
      exec (.mirrorReceive l record) s = .next s) ∧
    (s.dev.linkUp_ l.val = true → s.dev.gb (redPg h) Reg.RED.MIRROR_ACCEPT = true →
      ∃ t, exec (.mirrorReceive l record) s = .next t ∧ (t.dev.plane h).bridge = (s.dev.plane h).bridge ++
          [.mirror o { id := 0, desc := descOf record, bytes := record.drop 32, entNo := 0, ent := [] }] ∧
        ((∀ c, ctx = some c → c.sum ≠ s.dev.cfgSum ∨ ¬ open_) → t.dev.resp = s.dev.resp ∧
          t.dev.g (redPg h) Reg.RED.MIRROR_RXDROP = (s.dev.g (redPg h) Reg.RED.MIRROR_RXDROP + 1) % 2 ^ 32) ∧
        (∀ c, ctx = some c → c.sum ≠ s.dev.cfgSum → t.dev.evt (redPg h) 9 = (s.dev.evt (redPg h) 9).occur) ∧
        (∀ c a, ctx = some c → c.sum = s.dev.cfgSum → open_ → s.dev.matchEntry h (descOf record).port m = some a →
          (∀ r ∈ (s.dev.rsp h).reqs, r.id ≠ (s.dev.rsp h).nextId) →
          t.dev.g (redPg h) Reg.RED.MIRROR_RX = (s.dev.g (redPg h) Reg.RED.MIRROR_RX + 1) % 2 ^ 32 ∧
          (∀ k, m.isPtp = false → ntpAnswered (s.dev.svcEntry h a) m.body = some k →
            ∃ x, (t.dev.rsp h).reqs = (s.dev.rsp h).reqs ++ [x] ∧ x.origin = some o ∧ x.stage = .verify ∧ x.kind = k ∧
              x.bytes = record.drop 32) ∧
          (∀ i k, m.isPtp = true → s.dev.ptpService h (s.dev.svcEntry h a) (ptpDomain m.body) = some i →
            ptpAnswered (s.dev.gb (trsPg h) Reg.TRS.PTPCFG_PAD_REQ) (s.dev.svcCfg h i) m true = some k →
            ∃ x, (t.dev.rsp h).reqs = (s.dev.rsp h).reqs ++ [x] ∧ x.origin = some o ∧ x.stage = .verify ∧ x.kind = k ∧
              x.svc = i ∧ x.bytes = record.drop 32)) ∧
        t.dev.tbs = s.dev.tbs ∧ s.keepsRest t)) ∧
  (∀ (h : Half) (i : CopyItem) (intact : Bool) (s : State),
    (intact = false ∨ s.dev.serving h.other = false ∨ s.dev.planeUp h = false → exec (.stateCopyApply h i intact) s = .next s) ∧
    (intact = true → s.dev.serving h.other = true → s.dev.planeUp h = true →
      ∃ t, exec (.stateCopyApply h i intact) s = .next t ∧ i.num ∈ (t.dev.rd h).copied ∧
        (∀ e : Half, t.dev.g (redPg e) Reg.RED.COPYGEN = (s.dev.g (redPg h.other) Reg.RED.COPYGEN + 1) % 2 ^ 16) ∧
        (i = .keys → (s.dev.cad h).defects = [] → (∀ x ∈ (s.dev.cad h.other).slots, x.2.defect = false) →
          (t.dev.cad h).slots = (s.dev.cad h.other).slots) ∧
        (i = .leap → (∀ o ∈ leapOffsets, t.dev.w (leapPg h + o + 0x90) = s.dev.w (leapPg h.other + o + 0x90)) ∧
          t.dev.g (leapPg h) Reg.TSU.LEAP_STAT_GEN = s.dev.g (leapPg h.other) Reg.TSU.LEAP_STAT_GEN) ∧
        (i = .selectors → ∀ n < 16, t.dev.selC h n = s.dev.selC h.other n) ∧
        (∀ n < 16, t.dev.count h n = s.dev.count h n) ∧ s.keepsRest t)) ∧
  (∀ (h : Half) (s : State),
    let step := s.dev.g (redPg h) Reg.RED.RSTAT_HJOIN
    let due := s.dev.planeUp h = true ∧ s.dev.joinNext h step ≠ step ∧
      (s.dev.serving h.other = true ∨ s.dev.g sysPg Reg.SYS.START_STAT_PHASE = 7)
    (¬ due → exec (.joinStepAdvance h) s = .next s) ∧
    (due → ∃ t, exec (.joinStepAdvance h) s = .next t ∧
      t.dev.g (redPg h) Reg.RED.RSTAT_HJOIN = s.dev.joinNext h step ∧
      (s.dev.joinNext h step = 4 → (t.dev.rd h).waitAt = s.dev.now + s.dev.g (redPg h) Reg.RED.RCTL_WTR * ticks1s) ∧
      (s.dev.joinNext h step = 3 → (t.dev.rd h).matches_ = 0 ∧ (t.dev.rd h).misRun = 0) ∧
      s.onlyTouches { t with dev := { t.dev with red := s.dev.red } } [redPg h + 0x11C] [])) ∧
  (∀ (h : Half) (s : State),
    let step := s.dev.g (redPg h) Reg.RED.RSTAT_HJOIN
    let due := s.dev.planeUp h = true ∧ s.dev.g sysPg Reg.SYS.START_STAT_PHASE = 7 ∧
      ((step = 4 ∧ s.dev.waitRem h = 0) ∨ (2 ≤ step ∧ s.dev.partnerGone h = true))
    (¬ due → exec (.halfRejoined h) s = .next s) ∧
    (due → ∃ t, exec (.halfRejoined h) s = .next t ∧ t.dev.serving h = true ∧
      t.dev.evt (redPg h) 1 = (s.dev.evt (redPg h) 1).occur ∧ (t.dev.rd h).copied = [] ∧
      (h = .warp → t.dev.sched.half = .warp) ∧ t.dev.tbs = s.dev.tbs ∧ t.dev.links = s.dev.links ∧ s.keepsRest t)) ∧
  (∀ s : State,
    let due := s.dev.g (redPg s.dev.lead) Reg.RED.RSTAT_CJOIN = 1 ∧
      (s.dev.topoN s.dev.lead = 1 ∨ (s.dev.rd s.dev.lead).heardAt + ticks1s ≤ s.dev.now)
    (¬ due → exec .chipAlone s = .next s) ∧
    (due → ∃ t, exec .chipAlone s = .next t ∧ (∀ e : Half, t.dev.g (redPg e) Reg.RED.RSTAT_CJOIN = 0 ∧
        t.dev.g (redPg e) Reg.RED.RSTAT_HCLASS = t.dev.hclass) ∧
      s.onlyTouches t [redPg .warp + 0x11C, redPg .weft + 0x11C] [])) ∧
  ∀ s : State,
    let h := s.dev.lead
    let state := s.dev.g (redPg h) Reg.RED.RSTAT_CJOIN
    let ok := (s.dev.serving .warp || s.dev.serving .weft) && s.dev.chipAligned
    let wait := fun e : Half =>
      if ok then some ((s.dev.rd e).chipWait.getD (s.dev.now + s.dev.g (redPg e) Reg.RED.RCTL_CWTR * ticks1s)) else none
    let low := ∀ l ∈ s.dev.upLinks, s.dev.peerClass l < 3
    let due := (state = 0 ∧ 1 < s.dev.topoN h ∧ s.dev.now < (s.dev.rd h).heardAt + ticks1s ∧ (s.dev.rd h).heardAt ≠ 0) ∨
      (state = 1 ∧ ∃ x, wait h = some x ∧ (low ∨ x ≤ s.dev.now))
    ∃ t, exec .chipRejoined s = .next t ∧ (∀ e : Half, t.dev.rd e = { s.dev.rd e with chipWait := wait e }) ∧
      (due → (∀ e : Half, t.dev.g (redPg e) Reg.RED.RSTAT_CJOIN = 2 ∧ t.dev.g (redPg e) Reg.RED.RSTAT_HCLASS = t.dev.hclass ∧
          t.dev.evt (redPg e) 2 = (s.dev.evt (redPg e) 2).occur) ∧
        s.onlyTouches { t with dev := { t.dev with red := s.dev.red } } [redPg .warp + 0x11C, redPg .weft + 0x11C]
          [redPg .warp + 2, redPg .weft + 2]) ∧
      (¬ due → s.onlyTouches { t with dev := { t.dev with red := s.dev.red } } [] [])

/-! ### Gathering, host DMA, starts and resets -/

/-- A gathering at a boundary of PERIOD starts or is skipped, its last write advances WPTR, and the pointers are bounded
(R490 to R492); telemetry keeps its extremes and raises its alarm once (R495). PROD is bounded, a queue is enabled, stopped
by an error and rewound; a transmit descriptor is completed BAD or OK or waits for its credits, and a receive entry takes the
next frame of H (R528 to R534). Releasing PORST_N runs the start to TEST (R498, R500); the timebases are seeded from Kettle
or the date floor (R501, R502); RESTORE gives BOOTS, the journal's items and READY (R505, R510); the halves enter service
together or alone (R504); and the chip is reset by PORST_N, by PCIe, and by WARM 1 µs after its write (R507, R508). What is
not due changes nothing. It says where PRF_GATHER, PRF_DONE, PRF_RPTR_WRITE, PRF_SIZE_WRITE, TEL_UPDATE, TEL_CLR,
HDM_PROD_WRITE, HDM_QUEUE_ENABLE, HDM_BME_CHANGE, HDM_DMA_ERROR, HDM_TX_DESCRIPTOR, HDM_RX_FRAME, PCIE_RESET, POWER_ON_RESET,
PORST_RELEASE, TIME_SEED, START_RESTORE, SERVING_ENTRY, WARM_RESET and REGISTER_WRITE complete. -/
def Obligations.GatheringHostDmaStartsAndResets : Prop :=
  (∀ (h : Half) (s : State),
    let due := s.dev.enabled (prfPg h) = true ∧ s.dev.gb (prfPg h) Reg.PRF.GCTRL_EN = true ∧ s.dev.gatherDue h = true
    let room := s.dev.ringOcc h < s.dev.ringSize h ∧ s.dev.bme = true ∧ (s.dev.prf.of h).busy = none
    (¬ due → exec (.prfGather h) s = .next s) ∧
    (due → room → exec (.prfGather h) s = .next (s.withDev { s.dev with prf := s.dev.prf.put h { s.dev.prf.of h with
      seq := ((s.dev.prf.of h).seq + 1) % 2 ^ 32
      busy := some (s.dev.ringBase h + s.dev.g (prfPg h) Reg.PRF.WPTR % s.dev.ringSize h * 8192, s.dev.gatherRecord h)
      at_ := msOf (s.dev.count h 0) + 1 } })) ∧
    (due → ¬ room → ∃ t, exec (.prfGather h) s = .next t ∧
      t.dev.prf.of h = { s.dev.prf.of h with at_ := msOf (s.dev.count h 0) + 1 } ∧
      t.dev.g (prfPg h) Reg.PRF.SKIPPED = (s.dev.g (prfPg h) Reg.PRF.SKIPPED + 1) % 2 ^ 32 ∧
      t.dev.evt (prfPg h) 0 = (s.dev.evt (prfPg h) 0).occur ∧
      s.onlyTouches { t with dev := { t.dev with prf := s.dev.prf } } [prfPg h + 0x118] [prfPg h])) ∧
  (∀ (h : Half) (s : State),
    ((s.dev.prf.of h).busy = none → exec (.prfDone h) s = .next s) ∧
    ∀ r, (s.dev.prf.of h).busy = some r →
      ∃ t, exec (.prfDone h) s = .next t ∧ (t.dev.prf.of h).busy = none ∧ (t.dev.prf.of h).wrote = some r ∧
        t.dev.g (prfPg h) Reg.PRF.WPTR = (s.dev.g (prfPg h) Reg.PRF.WPTR + 1) % 2 ^ 16 ∧
        t.dev.evt (prfPg h) 1 = (s.dev.evt (prfPg h) 1).occur ∧
        s.onlyTouches { t with dev := { t.dev with prf := s.dev.prf } } [prfPg h + 0x110] [prfPg h + 1]) ∧
  (∀ (m : Master) (h : Half) (v : BitVec 16) (s : State),
    (s.writable m (prfPg h + 0x114) →
      ∃ t, exec (.prfRptrWrite m h v) s = .next t ∧ t.dev.g (prfPg h) Reg.PRF.RPTR =
        (if (s.dev.g (prfPg h) Reg.PRF.WPTR + 2 ^ 16 - v.toNat) % 2 ^ 16 ≤ s.dev.ringSize h then v.toNat
         else s.dev.g (prfPg h) Reg.PRF.RPTR) ∧ s.onlyTouches t [prfPg h + 0x114] []) ∧
    (s.writable m (prfPg h + 0x10C) →
      ∃ t, exec (.prfSizeWrite m h v) s = .next t ∧ t.dev.g (prfPg h) Reg.PRF.SIZE = v.toNat ∧
        t.dev.g (prfPg h) Reg.PRF.WPTR = 0 ∧ t.dev.g (prfPg h) Reg.PRF.RPTR = 0 ∧
        s.onlyTouches t [prfPg h + 0x10C, prfPg h + 0x110, prfPg h + 0x114] [])) ∧
  (∀ (h : Half) (v : Fin 16) (x : Int) (s : State),
    ∃ t, exec (.telUpdate h v x) s = .next t ∧ t.dev.w (telT h v.val) = unsignedOf 32 x ∧
      (v.val ∈ (s.dev.tel.of h).clr → t.dev.w (telT h v.val + 4) = unsignedOf 32 x ∧
        t.dev.w (telT h v.val + 8) = unsignedOf 32 x) ∧
      (v.val ∉ (s.dev.tel.of h).clr →
        telNum v.val (t.dev.w (telT h v.val + 4)) =
          min (telNum v.val (s.dev.w (telT h v.val + 4))) (telNum v.val (unsignedOf 32 x)) ∧
        telNum v.val (t.dev.w (telT h v.val + 8)) =
          max (telNum v.val (s.dev.w (telT h v.val + 8))) (telNum v.val (unsignedOf 32 x))) ∧
      (let hot := (List.range 8).any fun k => decide (s.dev.gs (telPg h) Reg.TEL.THI ≤ signedOf 32 (t.dev.w (telT h k)))
       t.dev.evt (telPg h) 0 = (if hot = true ∧ (s.dev.tel.of h).high = false then (s.dev.evt (telPg h) 0).occur
         else s.dev.evt (telPg h) 0)) ∧
      s.onlyTouches { t with dev := { t.dev with tel := s.dev.tel } }
        [telT h v.val, telT h v.val + 4, telT h v.val + 8] [telPg h]) ∧
  (∀ (m : Master) (h : Half) (s : State), s.writable m (telPg h + 0x200) →
    ∃ t, exec (.telClr m h) s = .next t ∧ (t.dev.tel.of h).clr = List.range 16 ∧
      s.onlyTouches { t with dev := { t.dev with tel := s.dev.tel } } [] []) ∧
  (∀ (m : Master) (q : Fin 16) (v : BitVec 16) (s : State), s.writable m (hdmQ q.val + 0x0C) →
    let fits := (v.toNat + 2 ^ 16 - s.dev.g (hdmQ q.val) Reg.HDM.CONS) % 2 ^ 16 ≤ s.dev.hdmSize q.val
    ∃ t, exec (.hdmProdWrite m q v) s = .next t ∧
      (fits → t.dev.g (hdmQ q.val) Reg.HDM.PROD = v.toNat ∧ s.onlyTouches t [hdmQ q.val + 0x0C] []) ∧
      (¬ fits → t.dev.g (hdmQ q.val) Reg.HDM.QSTAT_ERR = 3 ∧ t.dev.evt hdmPg 16 = (s.dev.evt hdmPg 16).occur ∧
        s.onlyTouches t [hdmQ q.val + 0x14] [hdmPg + 16])) ∧
  (∀ (m : Master) (q : Fin 16) (v : Bool) (s : State), s.writable m (hdmQ q.val) →
    ∃ t, exec (.hdmQueueEnable m q v) s = .next t ∧ t.dev.gb (hdmQ q.val) Reg.HDM.QCFG_EN = v ∧
      (v = false → t.dev.gb (hdmQ q.val) Reg.HDM.QSTAT_STOPPED = false ∧ t.dev.g (hdmQ q.val) Reg.HDM.QSTAT_ERR = 0 ∧
        s.onlyTouches t [hdmQ q.val, hdmQ q.val + 0x14] []) ∧
      (v = true → s.onlyTouches t [hdmQ q.val] [])) ∧
  (∀ (v : Bool) (s : State), ∃ t, exec (.hdmBmeChange v) s = .next t ∧ t.dev.bme = v ∧
    s.onlyTouches t [hdmPg + 0x508] []) ∧
  (∀ (q : Fin 16) (wr : Bool) (s : State),
    (s.dev.hdmActive q.val = false → exec (.hdmDmaError q wr) s = .next s) ∧
    (s.dev.hdmActive q.val = true →
      ∃ t, exec (.hdmDmaError q wr) s = .next t ∧ t.dev.hdmActive q.val = false ∧
        t.dev.g (hdmQ q.val) Reg.HDM.QSTAT_ERR = (if wr then 2 else 1) ∧
        t.dev.evt hdmPg 16 = (s.dev.evt hdmPg 16).occur ∧ s.onlyTouches t [hdmQ q.val + 0x14] [hdmPg + 16])) ∧
  (∀ (q : Fin 8) (e frame : List Byte) (s : State),
    let port := leAt e 11 1 % 8
    let mode := leAt e 10 1 % 4
    let h := hdmHalf q.val
    let bytes := (frame ++ List.replicate (leAt e 8 2) 0).take (leAt e 8 2)
    let done := fun st : Nat => patchB (patchB e 14 (bytesBE 1 st)) 15 (bytesBE 1 (leAt e 15 1 / 2 * 2 + 1))
    let cut := (s.dev.page hdmPg).isolated
    (s.dev.hdmTakes q.val = false → exec (.hdmTxDescriptor q e frame) s = .next s) ∧
    (s.dev.hdmTakes q.val = true →
      (cut = true ∨ txStatus e ≠ 0 → ∃ t, exec (.hdmTxDescriptor q e frame) s = .next t ∧
        (t.dev.dma q.val).entry = done (if cut then 2 else 1) ∧ (t.dev.dma q.val).frame = [] ∧
        t.dev.g (hdmQ q.val) Reg.HDM.CONS = (s.dev.g (hdmQ q.val) Reg.HDM.CONS + 1) % 2 ^ 16 ∧
        t.dev.g (hdmQ q.val) Reg.HDM.QERRS = (s.dev.g (hdmQ q.val) Reg.HDM.QERRS + 1) % 2 ^ 32 ∧
        s.onlyTouches { t with dev := { t.dev with dmas := s.dev.dmas } }
          [hdmQ q.val + 0x10, hdmQ q.val + 0x14, hdmQ q.val + 0x20] [hdmPg + q.val]) ∧
      (cut = false → txStatus e = 0 → mode = 0 → ∃ t, exec (.hdmTxDescriptor q e frame) s = .next t ∧
        (t.dev.dma q.val).entry = done 0 ∧ (t.dev.dma q.val).frame = bytes ∧
        t.dev.g (hdmQ q.val) Reg.HDM.CONS = (s.dev.g (hdmQ q.val) Reg.HDM.CONS + 1) % 2 ^ 16 ∧
        t.dev.g (hdmQ q.val) Reg.HDM.FRAMES = (s.dev.g (hdmQ q.val) Reg.HDM.FRAMES + 1) % 2 ^ 32 ∧
        (bitAt (leAt e 10 1) 2 = true → portHalf port ≠ h → ∃ f, (t.dev.plane h).bridge = (s.dev.plane h).bridge ++ [.frame f] ∧
          f.bytes = bytes ∧ f.refs = [port / 2] ∧ f.cls = s.dev.g (hdmQ q.val) Reg.HDM.QCFG_CLASS ∧ f.inPort = 8) ∧
        t.dev.gates = s.dev.gates ∧ t.dev.tbs = s.dev.tbs ∧ s.keepsRest t) ∧
      (cut = false → txStatus e = 0 → mode ≠ 0 → s.dev.g (lgtG port) Reg.LGT.RPTSTAT_CREDITS = 0 →
        ∃ t, exec (.hdmTxDescriptor q e frame) s = .next t ∧ t.dev.gb (hdmQ q.val) Reg.HDM.QSTAT_CREDIT_WAIT = true ∧
          s.onlyTouches t [hdmQ q.val + 0x14] []) ∧
      (cut = false → txStatus e = 0 → mode ≠ 0 → s.dev.g (lgtG port) Reg.LGT.RPTSTAT_CREDITS ≠ 0 →
        s.dev.gateCredit port bytes.length = false → exec (.hdmTxDescriptor q e frame) s = .next s) ∧
      (cut = false → txStatus e = 0 → mode ≠ 0 → s.dev.g (lgtG port) Reg.LGT.RPTSTAT_CREDITS ≠ 0 →
        s.dev.gateCredit port bytes.length = true →
        ∃ t g, exec (.hdmTxDescriptor q e frame) s = .next t ∧ (t.dev.dma q.val).entry = done 0 ∧
          (portHalf port = h → (t.dev.plane h).gateIn = (s.dev.plane h).gateIn ++ [g]) ∧
          (portHalf port ≠ h → (t.dev.plane h).bridge = (s.dev.plane h).bridge ++ [.gated g]) ∧ g.port = port ∧
          g.src = (if mode = 2 then .hostAt (leAt e 12 2) else .hostReport (leAt e 12 2)) ∧
          g.body = .raw bytes none false ∧
          (mode = 2 → g.t = gridUp (ns32 (leAt e 16 6 * 10 ^ 9 + leAt e 22 4))) ∧
          t.dev.g (lgtG port) Reg.LGT.RPTSTAT_CREDITS = s.dev.g (lgtG port) Reg.LGT.RPTSTAT_CREDITS - 1 ∧
          t.dev.g (hdmQ q.val) Reg.HDM.CONS = (s.dev.g (hdmQ q.val) Reg.HDM.CONS + 1) % 2 ^ 16 ∧
          t.dev.g (hdmQ q.val) Reg.HDM.FRAMES = (s.dev.g (hdmQ q.val) Reg.HDM.FRAMES + 1) % 2 ^ 32 ∧
          t.dev.gates = s.dev.gates ∧ t.dev.tbs = s.dev.tbs ∧ s.keepsRest t))) ∧
  (∀ (q : Fin 8) (e : List Byte) (s : State),
    let h := hdmHalf (8 + q.val)
    let on := s.dev.hdmTakes (8 + q.val) = true ∧ (s.dev.page hdmPg).isolated = false
    let pick := s.dev.pickClassOf h 4 fun c => s.dev.rxQueue h c == 8 + q.val
    let head := fun c => (s.dev.queue h 4 c).head?.bind (s.dev.stored h)
    (¬ on ∨ (∀ c df, pick = some (c, df) → head c = none) → exec (.hdmRxFrame q e) s = .next s) ∧
    ∀ c df f, on → pick = some (c, df) → head c = some f →
      ∃ t, exec (.hdmRxFrame q e) s = .next t ∧
        (f.cls = c → t.dev.queue h 4 c = (s.dev.queue h 4 c).filter (· != f.id)) ∧
        (leAt e 8 2 < f.bytes.length → t.dev.dmas = s.dev.dmas ∧
          t.dev.g (hdmQ (8 + q.val)) Reg.HDM.QERRS = (s.dev.g (hdmQ (8 + q.val)) Reg.HDM.QERRS + 1) % 2 ^ 32) ∧
        (f.bytes.length ≤ leAt e 8 2 → (t.dev.dma (8 + q.val)).frame = f.bytes ∧
          (t.dev.dma (8 + q.val)).entry = rxEntry e f ∧
          t.dev.g (hdmQ (8 + q.val)) Reg.HDM.CONS = (s.dev.g (hdmQ (8 + q.val)) Reg.HDM.CONS + 1) % 2 ^ 16 ∧
          t.dev.g (hdmQ (8 + q.val)) Reg.HDM.FRAMES = (s.dev.g (hdmQ (8 + q.val)) Reg.HDM.FRAMES + 1) % 2 ^ 32) ∧
        t.dev.gates = s.dev.gates ∧ t.dev.tbs = s.dev.tbs ∧ s.keepsRest t) ∧
  (∀ s : State, ∃ t, exec .pcieReset s = .next t ∧ (∀ q < 16, t.dev.gb (hdmQ q) Reg.HDM.QCFG_EN = false ∧
      t.dev.g (hdmQ q) Reg.HDM.PROD = 0 ∧ t.dev.g (hdmQ q) Reg.HDM.CONS = 0) ∧ t.dev.evc.msixEn = false ∧
      t.dev.evc.pba = [] ∧ t.dev.evc.masked = [] ∧
      (∀ p < 8, (t.dev.gate p).held = (s.dev.gate p).held.filter fun g => !g.isHost) ∧
      (∀ h : Half, (t.dev.plane h).gateIn = (s.dev.plane h).gateIn.filter fun g => !g.isHost) ∧ t.dev.tbs = s.dev.tbs ∧
      t.dev.cads = s.dev.cads ∧ s.keepsRest t) ∧
  (∀ s : State, (s.dev.start.held = true → exec .powerOnReset s = .next s) ∧
    (s.dev.start.held = false → ∃ t, exec .powerOnReset s = .next t ∧ t.dev.start = {} ∧ t.dev.tbs = [] ∧
      t.dev.evts = [] ∧ t.dev.kettle = s.dev.kettle ∧ t.dev.now = s.dev.now ∧ t.dev.fatalNLow = s.dev.fatalNLow ∧
      s.keepsRest t)) ∧
  (∀ (i : StartIn) (s : State),
    let due := s.dev.start.held = true ∧ s.dev.kettle.phase = 0 ∧ s.dev.kettle.coreEn = true
    (¬ due → exec (.porstRelease i) s = .next s) ∧
    (due → ∃ t, exec (.porstRelease i) s = .next t ∧ t.dev.start.held = false ∧ t.dev.start.t0 = s.dev.now ∧
      t.dev.phaseOf = (if t.dev.starts .warp || t.dev.starts .weft then 5 else 0xF) ∧
      t.dev.gb sysPg Reg.SYS.START_STAT_IMG_BAD = i.image.isNone ∧
      (∀ e : Half, i.rails.of e = false → (t.dev.hs e).heldReset = true) ∧
      (∀ e : Half, i.lo.of e < 10000000 ∨ 100000000 < i.lo.of e → t.dev.starts e = false) ∧
      t.dev.kettle = s.dev.kettle ∧ s.keepsRest t ∧
      (i.rails = ⟨true, true⟩ → (∀ e : Half, 10000000 ≤ i.lo.of e ∧ i.lo.of e ≤ 100000000) → i.tests = [] →
        s.nv.lifecycle = 2 → s.dev.fatalNLow = false → s.dev.half = ⟨{}, {}⟩ →
        t.dev.phaseOf = 5 ∧ (∀ e : Half, t.dev.clockValid e = true ∧ (t.dev.hs e).coresUp = true) ∧
        t.dev.tbs = s.dev.tbs))) ∧
  (∀ (ticks : Nat) (s : State),
    let due := s.dev.start.held = false ∧ s.dev.phaseOf < 6 ∧ (s.dev.starts .warp = true ∨ s.dev.starts .weft = true)
    let valid := s.dev.gb ktlPg Reg.KTL.KSTAT_KVALID
    let base := if valid then { s.dev with now := s.dev.now - ticks }.ktime * secUnit / 2 ^ 32
      else weekStart s.nv.floor * secUnit
    let b := if s.dev.g ktlPg Reg.KTL.KBOUND = 0xFFFFFFFF then unbounded
      else min unbounded ((s.dev.g ktlPg Reg.KTL.KBOUND + 10) * 1000)
    (¬ due → exec (.timeSeed ticks) s = .next s) ∧
    (due → ∃ t, exec (.timeSeed ticks) s = .next t ∧
      (∀ e : Half, s.dev.starts e = true → s.dev.clockValid e = true →
        (∀ n < 16, t.dev.count e n = (base + ticks * 4 * nsUnit) % countMod) ∧
        (valid = true → (t.dev.bnd e 0).seed = some (b, t.dev.count e 0))) ∧
      (∀ e : Half, s.dev.starts e = false ∨ s.dev.clockValid e = false → ∀ n < 16, t.dev.count e n = s.dev.count e n) ∧
      t.dev.gb sysPg Reg.SYS.START_STAT_SEEDED = valid ∧ s.dev.sameEvents t.dev [] ∧ s.keepsRest t)) ∧
  (∀ (which : Pair Bool) (bootsOk : Bool) (image : List (Nat × Nat)) (s : State),
    let hs := s.dev.restores which
    let writes := s.dev.sysReady = false ∧ s.nv.flashFailed = false
    (hs = [] → exec (.startRestore which bootsOk image) s = .next s) ∧
    (hs ≠ [] → ∃ t, exec (.startRestore which bootsOk image) s = .next t ∧
      (∀ e ∈ hs, (t.dev.hs e).restored = true) ∧ (s.dev.sysReady = false → t.dev.phaseOf = 6) ∧
      t.nv.boots = (if writes ∧ bootsOk = true then s.nv.boots + 1 else s.nv.boots) ∧
      t.nv.lifecycle = s.nv.lifecycle ∧ t.pending = s.pending ∧
      (image = [] → (writes → t.nv.intents = [] ∧ ∀ x ∈ t.nv.keys, x.1 ∉ s.nv.intents) ∧
        ∀ e ∈ hs, ((s.dev.page (dplPg e 0)).isolated = false → (t.dev.page (dplPg e 0)).ready = true) ∧
          (s.nv.model ≠ none → t.dev.gb (hldPg e) Reg.HLD.HSTAT_AGED = true) ∧
          (s.nv.leap ≠ none → t.dev.g (leapPg e) Reg.TSU.LEAP_STAT_GEN = 0)))) ∧
  (∀ s : State,
    let joint := s.dev.phaseOf = 6 ∧ s.dev.start.noTiming = false ∧ ∀ e : Half, (s.dev.hs e).restored = true ∧
      s.dev.planeUp e = true ∧ s.dev.g (redPg e) Reg.RED.RSTAT_HJOIN = 1 ∧ s.dev.gb (dplPg e 0) Reg.DPL.SKSTAT_ALIGNED = true
    let none_ := ¬ joint ∧ s.dev.entersAlone .warp = false ∧ s.dev.entersAlone .weft = false
    (none_ → s.dev.serving .warp = false → s.dev.serving .weft = false → exec .servingEntry s = .next s) ∧
    ∃ t, exec .servingEntry s = .next t ∧ (joint → ∀ e : Half, t.dev.serving e = true) ∧
      (¬ joint → s.dev.entersAlone .warp = true → t.dev.serving .warp = true ∧
        t.dev.g (redPg .weft) Reg.RED.RSTAT_HJOIN = s.dev.g (redPg .weft) Reg.RED.RSTAT_HJOIN) ∧
      (¬ joint → s.dev.entersAlone .warp = false → s.dev.entersAlone .weft = true → t.dev.serving .weft = true ∧
        t.dev.sched.half = .weft ∧ t.dev.g (redPg .warp) Reg.RED.RSTAT_HJOIN = s.dev.g (redPg .warp) Reg.RED.RSTAT_HJOIN) ∧
      (none_ → ∀ e : Half, t.dev.g (redPg e) Reg.RED.RSTAT_HJOIN = s.dev.g (redPg e) Reg.RED.RSTAT_HJOIN) ∧
      (t.dev.serving .warp = true ∨ t.dev.serving .weft = true → t.dev.phaseOf = 7) ∧
      t.dev.tbs = s.dev.tbs ∧ s.keepsRest t) ∧
  (∀ (i : StartIn) (s : State),
    ((∀ x, s.dev.start.warm = some x → s.dev.now < x) → exec (.warmReset i) s = .next s) ∧
    ∀ x, s.dev.start.warm = some x → x ≤ s.dev.now →
      ∃ t, exec (.warmReset i) s = .next t ∧ t.dev.start.held = false ∧ t.dev.start.t0 = s.dev.now ∧
        t.dev.start.warm = none ∧ t.dev.g sysPg Reg.SYS.START_STAT_CAUSE = 2 ∧ t.dev.kettle = s.dev.kettle ∧
        (s.nv.lifecycle ≠ 5 → t.dev.tbs = []) ∧ s.keepsRest t) ∧
  ∀ (m : Master) (v : Word) (s : State), s.writable m (sysPg + 0x11C) →
    ∃ t, exec (.registerWrite m (BitVec.ofNat 24 (sysPg + 0x11C)) (.narrow .b32) [v]) s = .next t ∧
      t.dev.start = { s.dev.start with
        warm := if bitAt v.toNat 0 = true ∧ v.toNat / 65536 = 0x5752 then some (s.dev.now + 250) else s.dev.start.warm } ∧
      s.onlyTouches { t with dev := { t.dev with start := s.dev.start } } [] []
end

