-- ==== Sys2Proof/Laws/Tab.lean ====
section
/-! SUPPORT. Read after write, frame and canonical form of the sparse tables. -/

namespace Sys2Proof

theorem Tab.find?_erase_same {α : Type} (t : Tab α) (n : Nat) : Tab.find? (Tab.erase t n) n = none := by
  induction t with
  | nil => rfl
  | cons e t ih =>
    obtain ⟨k, v⟩ := e
    by_cases h : k = n
    · subst h; simpa [Tab.erase] using ih
    · have h' : ¬ n = k := fun e => h e.symm
      simp only [Tab.erase] at ih
      simp [Tab.erase, Tab.find?, h, h', ih]

theorem Tab.find?_erase_ne {α : Type} (t : Tab α) (n m : Nat) (h : m ≠ n) :
    Tab.find? (Tab.erase t n) m = Tab.find? t m := by
  induction t with
  | nil => rfl
  | cons e t ih =>
    obtain ⟨k, v⟩ := e
    simp only [Tab.erase] at ih
    by_cases hk : k = n
    · subst hk; simp [Tab.erase, Tab.find?, h, ih]
    · simp [Tab.erase, Tab.find?, hk, ih]

theorem Tab.find?_insert_same {α : Type} (t : Tab α) (n : Nat) (v : α) (h : Tab.find? t n = none) :
    Tab.find? (Tab.insert t n v) n = some v := by
  induction t with
  | nil => simp [Tab.insert, Tab.find?]
  | cons e t ih =>
    obtain ⟨k, w⟩ := e
    by_cases hk : n = k
    · simp [Tab.find?, hk] at h
    · simp only [Tab.find?, hk, if_false] at h
      by_cases hl : n < k
      · simp [Tab.insert, Tab.find?, hl]
      · simp [Tab.insert, Tab.find?, hl, hk, ih h]

theorem Tab.find?_insert_ne {α : Type} (t : Tab α) (n m : Nat) (v : α) (h : m ≠ n) :
    Tab.find? (Tab.insert t n v) m = Tab.find? t m := by
  induction t with
  | nil => simp [Tab.insert, Tab.find?, h]
  | cons e t ih =>
    obtain ⟨k, w⟩ := e
    by_cases hl : n < k
    · simp [Tab.insert, Tab.find?, hl, h]
    · simp [Tab.insert, Tab.find?, hl, ih]

@[simp] theorem Tab.get_set_same {α : Type} [DecidableEq α] (d : Nat → α) (t : Tab α) (n : Nat) (v : α) :
    Tab.get d (Tab.set d t n v) n = v := by
  unfold Tab.set Tab.get
  split
  · next h => simp [Tab.find?_erase_same, h]
  · rw [Tab.find?_insert_same _ _ _ (Tab.find?_erase_same t n)]; rfl

theorem Tab.get_set_ne {α : Type} [DecidableEq α] (d : Nat → α) (t : Tab α) (n m : Nat) (v : α) (h : m ≠ n) :
    Tab.get d (Tab.set d t n v) m = Tab.get d t m := by
  unfold Tab.set Tab.get
  split
  · rw [Tab.find?_erase_ne _ _ _ h]
  · rw [Tab.find?_insert_ne _ _ _ _ h, Tab.find?_erase_ne _ _ _ h]

theorem Tab.get_set {α : Type} [DecidableEq α] (d : Nat → α) (t : Tab α) (n m : Nat) (v : α) :
    Tab.get d (Tab.set d t n v) m = if m = n then v else Tab.get d t m := by
  split
  · next h => subst h; exact Tab.get_set_same d t m v
  · next h => exact Tab.get_set_ne d t n m v h

theorem Tab.wf_nil {α : Type} [DecidableEq α] (d : Nat → α) : Tab.wf d ([] : Tab α) = true := by simp [Tab.wf]

theorem Tab.erase_pairwise {α : Type} (t : Tab α) (n : Nat) (h : t.Pairwise (fun a b => a.1 < b.1)) :
    (Tab.erase t n).Pairwise (fun a b => a.1 < b.1) := h.filter _

theorem Tab.mem_insert {α : Type} (t : Tab α) (n : Nat) (v : α) (e : Nat × α) :
    e ∈ Tab.insert t n v ↔ e = (n, v) ∨ e ∈ t := by
  induction t with
  | nil => simp [Tab.insert]
  | cons c t ih =>
    obtain ⟨k, w⟩ := c
    by_cases hl : n < k
    · simp [Tab.insert, hl]
    · simp only [Tab.insert, hl, if_false, List.mem_cons, ih]; tauto

theorem Tab.insert_pairwise {α : Type} (t : Tab α) (n : Nat) (v : α) (hn : ∀ e ∈ t, e.1 ≠ n)
    (h : t.Pairwise (fun a b => a.1 < b.1)) : (Tab.insert t n v).Pairwise (fun a b => a.1 < b.1) := by
  induction t with
  | nil => simp [Tab.insert]
  | cons c t ih =>
    obtain ⟨k, w⟩ := c
    rw [List.pairwise_cons] at h
    by_cases hl : n < k
    · simp only [Tab.insert, hl, if_true]
      refine List.pairwise_cons.2 ⟨?_, List.pairwise_cons.2 h⟩
      intro e he
      rcases List.mem_cons.1 he with rfl | he
      · exact hl
      · exact lt_trans hl (h.1 e he)
    · simp only [Tab.insert, hl, if_false]
      refine List.pairwise_cons.2 ⟨?_, ih (fun e he => hn e (List.mem_cons_of_mem _ he)) h.2⟩
      intro e he
      rcases (Tab.mem_insert t n v e).1 he with rfl | he
      · have := hn (k, w) (by simp)
        simp only [ne_eq] at this
        show k < n
        omega
      · exact h.1 e he

/-- Every write keeps the canonical form. -/
theorem Tab.wf_set {α : Type} [DecidableEq α] (d : Nat → α) (t : Tab α) (n : Nat) (v : α) (h : Tab.wf d t = true) :
    Tab.wf d (Tab.set d t n v) = true := by
  simp only [Tab.wf, Bool.and_eq_true, decide_eq_true_eq, List.all_eq_true, Bool.not_eq_true',
    decide_eq_false_iff_not] at h ⊢
  have he : (Tab.erase t n).Pairwise (fun a b => a.1 < b.1) := Tab.erase_pairwise t n h.1
  have hd : ∀ e ∈ Tab.erase t n, ¬ e.2 = d e.1 := fun e hm => h.2 e (List.mem_of_mem_filter hm)
  unfold Tab.set
  split
  · exact ⟨he, hd⟩
  · next hv =>
    refine ⟨Tab.insert_pairwise _ _ _ ?_ he, ?_⟩
    · intro e hm
      have := List.mem_filter.1 hm
      simpa using this.2
    · intro e hm
      rcases (Tab.mem_insert _ _ _ _).1 hm with rfl | hm
      · exact hv
      · exact hd e hm

end Sys2Proof
end

