-- ==== Sys2Proof/Laws/Regs.lean ====
section
/-! SUPPORT. Read after write and frame of the register file: words, fields, event words and page shells, and what an access
that is counted or refused leaves of them. -/

namespace Sys2Proof

theorem getBits_setBits_same (n lo len v : Nat) : getBits (setBits n lo len v) lo len = v % 2 ^ len := by
  unfold getBits setBits
  have h1 : n % 2 ^ lo < 2 ^ lo := Nat.mod_lt _ (Nat.two_pow_pos lo)
  have h2 : n % 2 ^ lo + v % 2 ^ len * 2 ^ lo + n / 2 ^ (lo + len) * 2 ^ (lo + len)
      = n % 2 ^ lo + 2 ^ lo * (v % 2 ^ len + n / 2 ^ (lo + len) * 2 ^ len) := by rw [pow_add]; ring
  rw [h2, Nat.add_mul_div_left _ _ (Nat.two_pow_pos lo), Nat.div_eq_of_lt h1, Nat.zero_add,
    Nat.add_mul_mod_self_right, Nat.mod_mod]

theorem getBits_setBits_above (n lo len v lo' len' : Nat) (h : lo + len ≤ lo') :
    getBits (setBits n lo len v) lo' len' = getBits n lo' len' := by
  unfold getBits
  congr 1
  obtain ⟨k, rfl⟩ := Nat.exists_eq_add_of_le h
  have e : ∀ x : Nat, x / 2 ^ (lo + len + k) = x / 2 ^ (lo + len) / 2 ^ k := by
    intro x; rw [pow_add (2 : Nat) (lo + len) k, Nat.div_div_eq_div_mul]
  rw [e, e n]
  congr 1
  unfold setBits
  have h1 : n % 2 ^ lo + v % 2 ^ len * 2 ^ lo < 2 ^ (lo + len) := by
    have a : n % 2 ^ lo < 2 ^ lo := Nat.mod_lt _ (Nat.two_pow_pos lo)
    have b : v % 2 ^ len + 1 ≤ 2 ^ len := Nat.mod_lt _ (Nat.two_pow_pos len)
    calc n % 2 ^ lo + v % 2 ^ len * 2 ^ lo < 2 ^ lo + v % 2 ^ len * 2 ^ lo := by omega
      _ = (v % 2 ^ len + 1) * 2 ^ lo := by ring
      _ ≤ 2 ^ len * 2 ^ lo := Nat.mul_le_mul_right _ b
      _ = 2 ^ (lo + len) := by rw [pow_add]; ring
  rw [Nat.add_mul_div_right _ _ (Nat.two_pow_pos _), Nat.div_eq_of_lt h1, Nat.zero_add]

theorem getBits_setBits_below (n lo len v lo' len' : Nat) (h : lo' + len' ≤ lo) :
    getBits (setBits n lo len v) lo' len' = getBits n lo' len' := by
  have key : ∀ x : Nat, getBits x lo' len' = x % 2 ^ (lo' + len') / 2 ^ lo' := by
    intro x
    unfold getBits
    rw [pow_add, Nat.mod_mul_right_div_self]
  rw [key, key]
  congr 1
  obtain ⟨k, rfl⟩ := Nat.exists_eq_add_of_le h
  unfold setBits
  have h2 : n % 2 ^ (lo' + len' + k) + v % 2 ^ len * 2 ^ (lo' + len' + k)
        + n / 2 ^ (lo' + len' + k + len) * 2 ^ (lo' + len' + k + len)
      = n % 2 ^ (lo' + len' + k) + (v % 2 ^ len + n / 2 ^ (lo' + len' + k + len) * 2 ^ len) * 2 ^ k * 2 ^ (lo' + len') := by
    rw [pow_add 2 (lo' + len' + k) len, pow_add 2 (lo' + len') k]; ring
  rw [h2, Nat.add_mul_mod_self_right]
  exact Nat.mod_mod_of_dvd _ (pow_dvd_pow 2 (Nat.le_add_right _ _))

theorem setBits_lt (n lo len v : Nat) (hn : n < 2 ^ 32) (h : lo + len ≤ 32) : setBits n lo len v < 2 ^ 32 := by
  obtain ⟨k, hk⟩ := Nat.exists_eq_add_of_le h
  unfold setBits
  have a : n % 2 ^ lo < 2 ^ lo := Nat.mod_lt _ (Nat.two_pow_pos lo)
  have b : v % 2 ^ len + 1 ≤ 2 ^ len := Nat.mod_lt _ (Nat.two_pow_pos len)
  have c : n / 2 ^ (lo + len) + 1 ≤ 2 ^ k := by
    have : n / 2 ^ (lo + len) < 2 ^ k := by
      rw [Nat.div_lt_iff_lt_mul (Nat.two_pow_pos _), ← pow_add, Nat.add_comm k, ← hk]; exact hn
    omega
  calc n % 2 ^ lo + v % 2 ^ len * 2 ^ lo + n / 2 ^ (lo + len) * 2 ^ (lo + len)
      < 2 ^ lo + v % 2 ^ len * 2 ^ lo + n / 2 ^ (lo + len) * 2 ^ (lo + len) := by omega
    _ = (v % 2 ^ len + 1) * 2 ^ lo + n / 2 ^ (lo + len) * 2 ^ (lo + len) := by ring
    _ ≤ 2 ^ len * 2 ^ lo + n / 2 ^ (lo + len) * 2 ^ (lo + len) := by
        have := Nat.mul_le_mul_right (2 ^ lo) b; omega
    _ = (n / 2 ^ (lo + len) + 1) * 2 ^ (lo + len) := by rw [pow_add]; ring
    _ ≤ 2 ^ k * 2 ^ (lo + len) := Nat.mul_le_mul_right _ c
    _ = 2 ^ 32 := by rw [← pow_add, Nat.add_comm k, ← hk]

namespace Machine

theorem Dev.w_lt (d : Dev) (a : Nat) : d.w a < 2 ^ 32 := (d.word a).isLt

theorem Dev.word_setw (d : Dev) (a v b : Nat) :
    (d.setw a v).word b = if b = a then BitVec.ofNat 32 v else d.word b := Tab.get_set _ _ _ _ _

theorem Dev.w_setw (d : Dev) (a v b : Nat) : (d.setw a v).w b = if b = a then v % 2 ^ 32 else d.w b := by
  unfold Dev.w
  rw [Dev.word_setw]
  split
  · exact BitVec.toNat_ofNat v 32
  · rfl

/-- A field written reads back its value, cut to its width. -/
theorem Dev.g_p_same (d : Dev) (b : Nat) (f : Fld) (v : Nat) (h : f.lo + f.len ≤ 32) :
    (d.p b f v).g b f = v % 2 ^ f.len := by
  unfold Dev.g Dev.p
  rw [Dev.w_setw, if_pos rfl, Nat.mod_eq_of_lt (setBits_lt _ _ _ _ (d.w_lt _) h), getBits_setBits_same]

/-- A field of another word keeps its value. -/
theorem Dev.g_p_ne (d : Dev) (b : Nat) (f : Fld) (v b' : Nat) (f' : Fld) (h : b' + f'.off ≠ b + f.off) :
    (d.p b f v).g b' f' = d.g b' f' := by
  unfold Dev.g Dev.p
  rw [Dev.w_setw, if_neg h]

/-- A field of the same word that lies beside the written one keeps its value. -/
theorem Dev.g_p_beside (d : Dev) (b : Nat) (f : Fld) (v b' : Nat) (f' : Fld) (ha : b' + f'.off = b + f.off)
    (hf : f.lo + f.len ≤ 32) (h : f.lo + f.len ≤ f'.lo ∨ f'.lo + f'.len ≤ f.lo) :
    (d.p b f v).g b' f' = d.g b' f' := by
  unfold Dev.g Dev.p
  rw [Dev.w_setw, if_pos ha, ha, Nat.mod_eq_of_lt (setBits_lt _ _ _ _ (d.w_lt _) hf)]
  rcases h with h | h
  · exact getBits_setBits_above _ _ _ _ _ _ h
  · exact getBits_setBits_below _ _ _ _ _ _ h

/-- Words elsewhere keep their value when a field is written. -/
theorem Dev.w_p_ne (d : Dev) (b : Nat) (f : Fld) (v a : Nat) (h : a ≠ b + f.off) : (d.p b f v).w a = d.w a := by
  unfold Dev.p
  rw [Dev.w_setw, if_neg h]

theorem bitOf_mod (v : Bool) (k : Nat) (h : 0 < k) : bitOf v % 2 ^ k = bitOf v := by
  apply Nat.mod_eq_of_lt
  have : 2 ≤ 2 ^ k := by
    calc 2 = 2 ^ 1 := rfl
      _ ≤ 2 ^ k := Nat.pow_le_pow_right (by omega) h
  unfold bitOf; split <;> omega

theorem Dev.gb_pb_same (d : Dev) (b : Nat) (f : Fld) (v : Bool) (h : f.lo + f.len ≤ 32) (h0 : 0 < f.len) :
    (d.pb b f v).gb b f = v := by
  unfold Dev.gb Dev.pb
  rw [Dev.g_p_same _ _ _ _ h, bitOf_mod _ _ h0]
  cases v <;> rfl

theorem Dev.gb_p_ne (d : Dev) (b : Nat) (f : Fld) (v b' : Nat) (f' : Fld) (h : b' + f'.off ≠ b + f.off) :
    (d.p b f v).gb b' f' = d.gb b' f' := by
  unfold Dev.gb
  rw [Dev.g_p_ne _ _ _ _ _ _ h]

@[simp] theorem Dev.evt_setw (d : Dev) (a v pg k : Nat) : (d.setw a v).evt pg k = d.evt pg k := rfl

@[simp] theorem Dev.w_perf (d : Dev) (pg c : Nat) (x : PerfAttr) (k r a : Nat) : (d.perf pg c x k r).w a = d.w a := rfl
@[simp] theorem Dev.w_regAccess (d : Dev) (m : Master) (a b : Nat) : (d.regAccess m a).w b = d.w b := rfl
@[simp] theorem Dev.w_raise (d : Dev) (pg k a : Nat) : (d.raise pg k).w a = d.w a := rfl
@[simp] theorem Dev.w_raiseIf (d : Dev) (c : Bool) (pg k a : Nat) : (d.raiseIf c pg k).w a = d.w a := rfl
@[simp] theorem Dev.evt_regAccess (d : Dev) (m : Master) (a pg k : Nat) : (d.regAccess m a).evt pg k = d.evt pg k := rfl
@[simp] theorem Dev.evt_perf (d : Dev) (pg c : Nat) (x : PerfAttr) (k r p j : Nat) :
    (d.perf pg c x k r).evt p j = d.evt p j := rfl

/-- One occurrence of an implemented event word (R51): that word alone takes it. -/
theorem Dev.evt_raise (d : Dev) (pg k p j : Nat) :
    (d.raise pg k).evt p j =
      if evtImplemented pg k = true ∧ p + j = pg + k then (d.evt pg k).occur else d.evt p j := by
  unfold Dev.raise Dev.evt
  by_cases h : evtImplemented pg k = true
  · simp only [h, if_true, true_and, tset, tget]
    rw [Tab.get_set]
  · simp [h]

/-- A write that draws no access error has its effect, once it is counted. -/
theorem Dev.writeAt_ok (d : Dev) (m : Master) (a : Nat) (f : Dev → Dev) (h : d.accessError m a true = none) :
    d.writeAt m a f = f (d.regAccess m a) := by
  unfold Dev.writeAt
  rw [h]

/-- A write that draws an access error is discarded with its record. -/
theorem Dev.writeAt_error (d : Dev) (m : Master) (a : Nat) (f : Dev → Dev) (e : AccErr)
    (h : d.accessError m a true = some e) : d.writeAt m a f = d.accError m a true e := by
  unfold Dev.writeAt
  rw [h]

/-- The first `k` naturals acted on: what every step keeps, the whole keeps. -/
theorem Dev.each_keeps {α : Type} (g : Dev → α) (k : Nat) (f : Nat → Dev → Dev) (d : Dev)
    (h : ∀ i, i < k → ∀ e, g (f i e) = g e) : g (d.each k f) = g d := by
  unfold Dev.each
  have : ∀ (l : List Nat) (e : Dev), (∀ i ∈ l, i < k) → g (l.foldl (fun e i => f i e) e) = g e := by
    intro l
    induction l with
    | nil => intro e _; rfl
    | cons i l ih =>
      intro e hl
      rw [List.foldl_cons, ih _ (fun j hj => hl j (List.mem_cons_of_mem _ hj)), h i (hl i (by simp))]
  exact this _ d (fun i hi => List.mem_range.1 hi)

end Machine
end Sys2Proof
end

