-- ==== Sys2Proof/Laws/State.lean ====
section
/-! SUPPORT. What each update of the state leaves: one lemma per field per update, each true by unfolding. -/

namespace Sys2Proof.Machine

@[simp] theorem State.onDev_dev (s : State) (f : Dev → Dev) : (s.onDev f).dev = f s.dev := rfl
@[simp] theorem State.onDev_nv (s : State) (f : Dev → Dev) : (s.onDev f).nv = s.nv := rfl
@[simp] theorem State.onDev_pending (s : State) (f : Dev → Dev) : (s.onDev f).pending = s.pending := rfl
@[simp] theorem State.withDev_dev (s : State) (d : Dev) : (s.withDev d).dev = d := rfl
@[simp] theorem State.withDev_nv (s : State) (d : Dev) : (s.withDev d).nv = s.nv := rfl
@[simp] theorem State.withDev_pending (s : State) (d : Dev) : (s.withDev d).pending = s.pending := rfl
@[simp] theorem State.withPending_dev (s : State) (q : List Instr) : (s.withPending q).dev = s.dev := rfl
@[simp] theorem State.withPending_nv (s : State) (q : List Instr) : (s.withPending q).nv = s.nv := rfl
@[simp] theorem State.withPending_pending (s : State) (q : List Instr) : (s.withPending q).pending = q := rfl
@[simp] theorem State.withFront_dev (s : State) (c : Instr) : (s.withFront c).dev = s.dev := rfl
@[simp] theorem State.withFront_nv (s : State) (c : Instr) : (s.withFront c).nv = s.nv := rfl
@[simp] theorem State.withFront_pending (s : State) (c : Instr) : (s.withFront c).pending = c :: s.pending := rfl

@[simp] theorem Dev.setw_evts (d : Dev) (a v : Nat) : (d.setw a v).evts = d.evts := rfl
@[simp] theorem Dev.setw_pcnt (d : Dev) (a v : Nat) : (d.setw a v).pcnt = d.pcnt := rfl
@[simp] theorem Dev.setw_latch (d : Dev) (a v : Nat) : (d.setw a v).latch = d.latch := rfl
@[simp] theorem Dev.setw_pages (d : Dev) (a v : Nat) : (d.setw a v).pages = d.pages := rfl
@[simp] theorem Dev.setw_now (d : Dev) (a v : Nat) : (d.setw a v).now = d.now := rfl
@[simp] theorem Dev.setw_cpl (d : Dev) (a v : Nat) : (d.setw a v).cpl = d.cpl := rfl
@[simp] theorem Dev.setw_miso (d : Dev) (a v : Nat) : (d.setw a v).miso = d.miso := rfl
@[simp] theorem Dev.setw_evc (d : Dev) (a v : Nat) : (d.setw a v).evc = d.evc := rfl
@[simp] theorem Dev.setw_mbx (d : Dev) (a v : Nat) : (d.setw a v).mbx = d.mbx := rfl
@[simp] theorem Dev.setw_half (d : Dev) (a v : Nat) : (d.setw a v).half = d.half := rfl
@[simp] theorem Dev.setw_tbs (d : Dev) (a v : Nat) : (d.setw a v).tbs = d.tbs := rfl
@[simp] theorem Dev.setw_sched (d : Dev) (a v : Nat) : (d.setw a v).sched = d.sched := rfl
@[simp] theorem Dev.setw_flt (d : Dev) (a v : Nat) : (d.setw a v).flt = d.flt := rfl
@[simp] theorem Dev.setw_caps (d : Dev) (a v : Nat) : (d.setw a v).caps = d.caps := rfl
@[simp] theorem Dev.setw_pathComp (d : Dev) (a v : Nat) : (d.setw a v).pathComp = d.pathComp := rfl
@[simp] theorem Dev.setw_capq (d : Dev) (a v : Nat) : (d.setw a v).capq = d.capq := rfl
@[simp] theorem Dev.setw_cands (d : Dev) (a v : Nat) : (d.setw a v).cands = d.cands := rfl
@[simp] theorem Dev.setw_sels (d : Dev) (a v : Nat) : (d.setw a v).sels = d.sels := rfl
@[simp] theorem Dev.setw_wtr (d : Dev) (a v : Nat) : (d.setw a v).wtr = d.wtr := rfl
@[simp] theorem Dev.setw_voteAt (d : Dev) (a v : Nat) : (d.setw a v).voteAt = d.voteAt := rfl
@[simp] theorem Dev.setw_free (d : Dev) (a v : Nat) : (d.setw a v).free = d.free := rfl
@[simp] theorem Dev.setw_loops (d : Dev) (a v : Nat) : (d.setw a v).loops = d.loops := rfl
@[simp] theorem Dev.setw_hold (d : Dev) (a v : Nat) : (d.setw a v).hold = d.hold := rfl
@[simp] theorem Dev.setw_skewRun (d : Dev) (a v : Nat) : (d.setw a v).skewRun = d.skewRun := rfl
@[simp] theorem Dev.setw_apls (d : Dev) (a v : Nat) : (d.setw a v).apls = d.apls := rfl
@[simp] theorem Dev.setw_outs (d : Dev) (a v : Nat) : (d.setw a v).outs = d.outs := rfl
@[simp] theorem Dev.setw_dacs (d : Dev) (a v : Nat) : (d.setw a v).dacs = d.dacs := rfl
@[simp] theorem Dev.setw_disAt (d : Dev) (a v : Nat) : (d.setw a v).disAt = d.disAt := rfl
@[simp] theorem Dev.setw_bnds (d : Dev) (a v : Nat) : (d.setw a v).bnds = d.bnds := rfl
@[simp] theorem Dev.setw_exch (d : Dev) (a v : Nat) : (d.setw a v).exch = d.exch := rfl
@[simp] theorem Dev.setw_bands (d : Dev) (a v : Nat) : (d.setw a v).bands = d.bands := rfl
@[simp] theorem Dev.setw_acq (d : Dev) (a v : Nat) : (d.setw a v).acq = d.acq := rfl
@[simp] theorem Dev.setw_chans (d : Dev) (a v : Nat) : (d.setw a v).chans = d.chans := rfl
@[simp] theorem Dev.setw_sol (d : Dev) (a v : Nat) : (d.setw a v).sol = d.sol := rfl
@[simp] theorem Dev.setw_snap (d : Dev) (a v : Nat) : (d.setw a v).snap = d.snap := rfl
@[simp] theorem Dev.setw_snapBuf (d : Dev) (a v : Nat) : (d.setw a v).snapBuf = d.snapBuf := rfl
@[simp] theorem Dev.setw_tracks (d : Dev) (a v : Nat) : (d.setw a v).tracks = d.tracks := rfl
@[simp] theorem Dev.setw_ports (d : Dev) (a v : Nat) : (d.setw a v).ports = d.ports := rfl
@[simp] theorem Dev.setw_macc (d : Dev) (a v : Nat) : (d.setw a v).macc = d.macc := rfl
@[simp] theorem Dev.setw_planes (d : Dev) (a v : Nat) : (d.setw a v).planes = d.planes := rfl
@[simp] theorem Dev.setw_fwd (d : Dev) (a v : Nat) : (d.setw a v).fwd = d.fwd := rfl
@[simp] theorem Dev.setw_fwdStage (d : Dev) (a v : Nat) : (d.setw a v).fwdStage = d.fwdStage := rfl
@[simp] theorem Dev.setw_gates (d : Dev) (a v : Nat) : (d.setw a v).gates = d.gates := rfl
@[simp] theorem Dev.setw_stepgen (d : Dev) (a v : Nat) : (d.setw a v).stepgen = d.stepgen := rfl
@[simp] theorem Dev.setw_resp (d : Dev) (a v : Nat) : (d.setw a v).resp = d.resp := rfl
@[simp] theorem Dev.setw_buckets (d : Dev) (a v : Nat) : (d.setw a v).buckets = d.buckets := rfl
@[simp] theorem Dev.setw_svcStage (d : Dev) (a v : Nat) : (d.setw a v).svcStage = d.svcStage := rfl
@[simp] theorem Dev.setw_pubs (d : Dev) (a v : Nat) : (d.setw a v).pubs = d.pubs := rfl
@[simp] theorem Dev.setw_grants (d : Dev) (a v : Nat) : (d.setw a v).grants = d.grants := rfl
@[simp] theorem Dev.setw_insts (d : Dev) (a v : Nat) : (d.setw a v).insts = d.insts := rfl
@[simp] theorem Dev.setw_cads (d : Dev) (a v : Nat) : (d.setw a v).cads = d.cads := rfl
@[simp] theorem Dev.setw_engs (d : Dev) (a v : Nat) : (d.setw a v).engs = d.engs := rfl
@[simp] theorem Dev.setw_red (d : Dev) (a v : Nat) : (d.setw a v).red = d.red := rfl
@[simp] theorem Dev.setw_links (d : Dev) (a v : Nat) : (d.setw a v).links = d.links := rfl
@[simp] theorem Dev.setw_dmas (d : Dev) (a v : Nat) : (d.setw a v).dmas = d.dmas := rfl
@[simp] theorem Dev.setw_sampled (d : Dev) (a v : Nat) : (d.setw a v).sampled = d.sampled := rfl
@[simp] theorem Dev.setw_epochs (d : Dev) (a v : Nat) : (d.setw a v).epochs = d.epochs := rfl
@[simp] theorem Dev.setw_chaef (d : Dev) (a v : Nat) : (d.setw a v).chaef = d.chaef := rfl
@[simp] theorem Dev.setw_bootsOk (d : Dev) (a v : Nat) : (d.setw a v).bootsOk = d.bootsOk := rfl
@[simp] theorem Dev.setw_rseq (d : Dev) (a v : Nat) : (d.setw a v).rseq = d.rseq := rfl
@[simp] theorem Dev.setw_kettle (d : Dev) (a v : Nat) : (d.setw a v).kettle = d.kettle := rfl
@[simp] theorem Dev.setw_avs (d : Dev) (a v : Nat) : (d.setw a v).avs = d.avs := rfl
@[simp] theorem Dev.setw_scrub (d : Dev) (a v : Nat) : (d.setw a v).scrub = d.scrub := rfl
@[simp] theorem Dev.setw_bist (d : Dev) (a v : Nat) : (d.setw a v).bist = d.bist := rfl
@[simp] theorem Dev.setw_repairs (d : Dev) (a v : Nat) : (d.setw a v).repairs = d.repairs := rfl
@[simp] theorem Dev.setw_tests (d : Dev) (a v : Nat) : (d.setw a v).tests = d.tests := rfl
@[simp] theorem Dev.setw_unitsOut (d : Dev) (a v : Nat) : (d.setw a v).unitsOut = d.unitsOut := rfl
@[simp] theorem Dev.setw_lcs (d : Dev) (a v : Nat) : (d.setw a v).lcs = d.lcs := rfl
@[simp] theorem Dev.setw_tap (d : Dev) (a v : Nat) : (d.setw a v).tap = d.tap := rfl
@[simp] theorem Dev.setw_prf (d : Dev) (a v : Nat) : (d.setw a v).prf = d.prf := rfl
@[simp] theorem Dev.setw_ticks (d : Dev) (a v : Nat) : (d.setw a v).ticks = d.ticks := rfl
@[simp] theorem Dev.setw_tel (d : Dev) (a v : Nat) : (d.setw a v).tel = d.tel := rfl
@[simp] theorem Dev.setw_start (d : Dev) (a v : Nat) : (d.setw a v).start = d.start := rfl

@[simp] theorem Dev.p_evts (d : Dev) (b : Nat) (f : Fld) (v : Nat) : (d.p b f v).evts = d.evts := rfl
@[simp] theorem Dev.p_pcnt (d : Dev) (b : Nat) (f : Fld) (v : Nat) : (d.p b f v).pcnt = d.pcnt := rfl
@[simp] theorem Dev.p_latch (d : Dev) (b : Nat) (f : Fld) (v : Nat) : (d.p b f v).latch = d.latch := rfl
@[simp] theorem Dev.p_pages (d : Dev) (b : Nat) (f : Fld) (v : Nat) : (d.p b f v).pages = d.pages := rfl
@[simp] theorem Dev.p_now (d : Dev) (b : Nat) (f : Fld) (v : Nat) : (d.p b f v).now = d.now := rfl
@[simp] theorem Dev.p_cpl (d : Dev) (b : Nat) (f : Fld) (v : Nat) : (d.p b f v).cpl = d.cpl := rfl
@[simp] theorem Dev.p_miso (d : Dev) (b : Nat) (f : Fld) (v : Nat) : (d.p b f v).miso = d.miso := rfl
@[simp] theorem Dev.p_evc (d : Dev) (b : Nat) (f : Fld) (v : Nat) : (d.p b f v).evc = d.evc := rfl
@[simp] theorem Dev.p_mbx (d : Dev) (b : Nat) (f : Fld) (v : Nat) : (d.p b f v).mbx = d.mbx := rfl
@[simp] theorem Dev.p_half (d : Dev) (b : Nat) (f : Fld) (v : Nat) : (d.p b f v).half = d.half := rfl
@[simp] theorem Dev.p_tbs (d : Dev) (b : Nat) (f : Fld) (v : Nat) : (d.p b f v).tbs = d.tbs := rfl
@[simp] theorem Dev.p_sched (d : Dev) (b : Nat) (f : Fld) (v : Nat) : (d.p b f v).sched = d.sched := rfl
@[simp] theorem Dev.p_flt (d : Dev) (b : Nat) (f : Fld) (v : Nat) : (d.p b f v).flt = d.flt := rfl
@[simp] theorem Dev.p_caps (d : Dev) (b : Nat) (f : Fld) (v : Nat) : (d.p b f v).caps = d.caps := rfl
@[simp] theorem Dev.p_pathComp (d : Dev) (b : Nat) (f : Fld) (v : Nat) : (d.p b f v).pathComp = d.pathComp := rfl
@[simp] theorem Dev.p_capq (d : Dev) (b : Nat) (f : Fld) (v : Nat) : (d.p b f v).capq = d.capq := rfl
@[simp] theorem Dev.p_cands (d : Dev) (b : Nat) (f : Fld) (v : Nat) : (d.p b f v).cands = d.cands := rfl
@[simp] theorem Dev.p_sels (d : Dev) (b : Nat) (f : Fld) (v : Nat) : (d.p b f v).sels = d.sels := rfl
@[simp] theorem Dev.p_wtr (d : Dev) (b : Nat) (f : Fld) (v : Nat) : (d.p b f v).wtr = d.wtr := rfl
@[simp] theorem Dev.p_voteAt (d : Dev) (b : Nat) (f : Fld) (v : Nat) : (d.p b f v).voteAt = d.voteAt := rfl
@[simp] theorem Dev.p_free (d : Dev) (b : Nat) (f : Fld) (v : Nat) : (d.p b f v).free = d.free := rfl
@[simp] theorem Dev.p_loops (d : Dev) (b : Nat) (f : Fld) (v : Nat) : (d.p b f v).loops = d.loops := rfl
@[simp] theorem Dev.p_hold (d : Dev) (b : Nat) (f : Fld) (v : Nat) : (d.p b f v).hold = d.hold := rfl
@[simp] theorem Dev.p_skewRun (d : Dev) (b : Nat) (f : Fld) (v : Nat) : (d.p b f v).skewRun = d.skewRun := rfl
@[simp] theorem Dev.p_apls (d : Dev) (b : Nat) (f : Fld) (v : Nat) : (d.p b f v).apls = d.apls := rfl
@[simp] theorem Dev.p_outs (d : Dev) (b : Nat) (f : Fld) (v : Nat) : (d.p b f v).outs = d.outs := rfl
@[simp] theorem Dev.p_dacs (d : Dev) (b : Nat) (f : Fld) (v : Nat) : (d.p b f v).dacs = d.dacs := rfl
@[simp] theorem Dev.p_disAt (d : Dev) (b : Nat) (f : Fld) (v : Nat) : (d.p b f v).disAt = d.disAt := rfl
@[simp] theorem Dev.p_bnds (d : Dev) (b : Nat) (f : Fld) (v : Nat) : (d.p b f v).bnds = d.bnds := rfl
@[simp] theorem Dev.p_exch (d : Dev) (b : Nat) (f : Fld) (v : Nat) : (d.p b f v).exch = d.exch := rfl
@[simp] theorem Dev.p_bands (d : Dev) (b : Nat) (f : Fld) (v : Nat) : (d.p b f v).bands = d.bands := rfl
@[simp] theorem Dev.p_acq (d : Dev) (b : Nat) (f : Fld) (v : Nat) : (d.p b f v).acq = d.acq := rfl
@[simp] theorem Dev.p_chans (d : Dev) (b : Nat) (f : Fld) (v : Nat) : (d.p b f v).chans = d.chans := rfl
@[simp] theorem Dev.p_sol (d : Dev) (b : Nat) (f : Fld) (v : Nat) : (d.p b f v).sol = d.sol := rfl
@[simp] theorem Dev.p_snap (d : Dev) (b : Nat) (f : Fld) (v : Nat) : (d.p b f v).snap = d.snap := rfl
@[simp] theorem Dev.p_snapBuf (d : Dev) (b : Nat) (f : Fld) (v : Nat) : (d.p b f v).snapBuf = d.snapBuf := rfl
@[simp] theorem Dev.p_tracks (d : Dev) (b : Nat) (f : Fld) (v : Nat) : (d.p b f v).tracks = d.tracks := rfl
@[simp] theorem Dev.p_ports (d : Dev) (b : Nat) (f : Fld) (v : Nat) : (d.p b f v).ports = d.ports := rfl
@[simp] theorem Dev.p_macc (d : Dev) (b : Nat) (f : Fld) (v : Nat) : (d.p b f v).macc = d.macc := rfl
@[simp] theorem Dev.p_planes (d : Dev) (b : Nat) (f : Fld) (v : Nat) : (d.p b f v).planes = d.planes := rfl
@[simp] theorem Dev.p_fwd (d : Dev) (b : Nat) (f : Fld) (v : Nat) : (d.p b f v).fwd = d.fwd := rfl
@[simp] theorem Dev.p_fwdStage (d : Dev) (b : Nat) (f : Fld) (v : Nat) : (d.p b f v).fwdStage = d.fwdStage := rfl
@[simp] theorem Dev.p_gates (d : Dev) (b : Nat) (f : Fld) (v : Nat) : (d.p b f v).gates = d.gates := rfl
@[simp] theorem Dev.p_stepgen (d : Dev) (b : Nat) (f : Fld) (v : Nat) : (d.p b f v).stepgen = d.stepgen := rfl
@[simp] theorem Dev.p_resp (d : Dev) (b : Nat) (f : Fld) (v : Nat) : (d.p b f v).resp = d.resp := rfl
@[simp] theorem Dev.p_buckets (d : Dev) (b : Nat) (f : Fld) (v : Nat) : (d.p b f v).buckets = d.buckets := rfl
@[simp] theorem Dev.p_svcStage (d : Dev) (b : Nat) (f : Fld) (v : Nat) : (d.p b f v).svcStage = d.svcStage := rfl
@[simp] theorem Dev.p_pubs (d : Dev) (b : Nat) (f : Fld) (v : Nat) : (d.p b f v).pubs = d.pubs := rfl
@[simp] theorem Dev.p_grants (d : Dev) (b : Nat) (f : Fld) (v : Nat) : (d.p b f v).grants = d.grants := rfl
@[simp] theorem Dev.p_insts (d : Dev) (b : Nat) (f : Fld) (v : Nat) : (d.p b f v).insts = d.insts := rfl
@[simp] theorem Dev.p_cads (d : Dev) (b : Nat) (f : Fld) (v : Nat) : (d.p b f v).cads = d.cads := rfl
@[simp] theorem Dev.p_engs (d : Dev) (b : Nat) (f : Fld) (v : Nat) : (d.p b f v).engs = d.engs := rfl
@[simp] theorem Dev.p_red (d : Dev) (b : Nat) (f : Fld) (v : Nat) : (d.p b f v).red = d.red := rfl
@[simp] theorem Dev.p_links (d : Dev) (b : Nat) (f : Fld) (v : Nat) : (d.p b f v).links = d.links := rfl
@[simp] theorem Dev.p_dmas (d : Dev) (b : Nat) (f : Fld) (v : Nat) : (d.p b f v).dmas = d.dmas := rfl
@[simp] theorem Dev.p_sampled (d : Dev) (b : Nat) (f : Fld) (v : Nat) : (d.p b f v).sampled = d.sampled := rfl
@[simp] theorem Dev.p_epochs (d : Dev) (b : Nat) (f : Fld) (v : Nat) : (d.p b f v).epochs = d.epochs := rfl
@[simp] theorem Dev.p_chaef (d : Dev) (b : Nat) (f : Fld) (v : Nat) : (d.p b f v).chaef = d.chaef := rfl
@[simp] theorem Dev.p_bootsOk (d : Dev) (b : Nat) (f : Fld) (v : Nat) : (d.p b f v).bootsOk = d.bootsOk := rfl
@[simp] theorem Dev.p_rseq (d : Dev) (b : Nat) (f : Fld) (v : Nat) : (d.p b f v).rseq = d.rseq := rfl
@[simp] theorem Dev.p_kettle (d : Dev) (b : Nat) (f : Fld) (v : Nat) : (d.p b f v).kettle = d.kettle := rfl
@[simp] theorem Dev.p_avs (d : Dev) (b : Nat) (f : Fld) (v : Nat) : (d.p b f v).avs = d.avs := rfl
@[simp] theorem Dev.p_scrub (d : Dev) (b : Nat) (f : Fld) (v : Nat) : (d.p b f v).scrub = d.scrub := rfl
@[simp] theorem Dev.p_bist (d : Dev) (b : Nat) (f : Fld) (v : Nat) : (d.p b f v).bist = d.bist := rfl
@[simp] theorem Dev.p_repairs (d : Dev) (b : Nat) (f : Fld) (v : Nat) : (d.p b f v).repairs = d.repairs := rfl
@[simp] theorem Dev.p_tests (d : Dev) (b : Nat) (f : Fld) (v : Nat) : (d.p b f v).tests = d.tests := rfl
@[simp] theorem Dev.p_unitsOut (d : Dev) (b : Nat) (f : Fld) (v : Nat) : (d.p b f v).unitsOut = d.unitsOut := rfl
@[simp] theorem Dev.p_lcs (d : Dev) (b : Nat) (f : Fld) (v : Nat) : (d.p b f v).lcs = d.lcs := rfl
@[simp] theorem Dev.p_tap (d : Dev) (b : Nat) (f : Fld) (v : Nat) : (d.p b f v).tap = d.tap := rfl
@[simp] theorem Dev.p_prf (d : Dev) (b : Nat) (f : Fld) (v : Nat) : (d.p b f v).prf = d.prf := rfl
@[simp] theorem Dev.p_ticks (d : Dev) (b : Nat) (f : Fld) (v : Nat) : (d.p b f v).ticks = d.ticks := rfl
@[simp] theorem Dev.p_tel (d : Dev) (b : Nat) (f : Fld) (v : Nat) : (d.p b f v).tel = d.tel := rfl
@[simp] theorem Dev.p_start (d : Dev) (b : Nat) (f : Fld) (v : Nat) : (d.p b f v).start = d.start := rfl

@[simp] theorem Dev.pb_evts (d : Dev) (b : Nat) (f : Fld) (v : Bool) : (d.pb b f v).evts = d.evts := rfl
@[simp] theorem Dev.pb_pcnt (d : Dev) (b : Nat) (f : Fld) (v : Bool) : (d.pb b f v).pcnt = d.pcnt := rfl
@[simp] theorem Dev.pb_latch (d : Dev) (b : Nat) (f : Fld) (v : Bool) : (d.pb b f v).latch = d.latch := rfl
@[simp] theorem Dev.pb_pages (d : Dev) (b : Nat) (f : Fld) (v : Bool) : (d.pb b f v).pages = d.pages := rfl
@[simp] theorem Dev.pb_now (d : Dev) (b : Nat) (f : Fld) (v : Bool) : (d.pb b f v).now = d.now := rfl
@[simp] theorem Dev.pb_cpl (d : Dev) (b : Nat) (f : Fld) (v : Bool) : (d.pb b f v).cpl = d.cpl := rfl
@[simp] theorem Dev.pb_miso (d : Dev) (b : Nat) (f : Fld) (v : Bool) : (d.pb b f v).miso = d.miso := rfl
@[simp] theorem Dev.pb_evc (d : Dev) (b : Nat) (f : Fld) (v : Bool) : (d.pb b f v).evc = d.evc := rfl
@[simp] theorem Dev.pb_mbx (d : Dev) (b : Nat) (f : Fld) (v : Bool) : (d.pb b f v).mbx = d.mbx := rfl
@[simp] theorem Dev.pb_half (d : Dev) (b : Nat) (f : Fld) (v : Bool) : (d.pb b f v).half = d.half := rfl
@[simp] theorem Dev.pb_tbs (d : Dev) (b : Nat) (f : Fld) (v : Bool) : (d.pb b f v).tbs = d.tbs := rfl
@[simp] theorem Dev.pb_sched (d : Dev) (b : Nat) (f : Fld) (v : Bool) : (d.pb b f v).sched = d.sched := rfl
@[simp] theorem Dev.pb_flt (d : Dev) (b : Nat) (f : Fld) (v : Bool) : (d.pb b f v).flt = d.flt := rfl
@[simp] theorem Dev.pb_caps (d : Dev) (b : Nat) (f : Fld) (v : Bool) : (d.pb b f v).caps = d.caps := rfl
@[simp] theorem Dev.pb_pathComp (d : Dev) (b : Nat) (f : Fld) (v : Bool) : (d.pb b f v).pathComp = d.pathComp := rfl
@[simp] theorem Dev.pb_capq (d : Dev) (b : Nat) (f : Fld) (v : Bool) : (d.pb b f v).capq = d.capq := rfl
@[simp] theorem Dev.pb_cands (d : Dev) (b : Nat) (f : Fld) (v : Bool) : (d.pb b f v).cands = d.cands := rfl
@[simp] theorem Dev.pb_sels (d : Dev) (b : Nat) (f : Fld) (v : Bool) : (d.pb b f v).sels = d.sels := rfl
@[simp] theorem Dev.pb_wtr (d : Dev) (b : Nat) (f : Fld) (v : Bool) : (d.pb b f v).wtr = d.wtr := rfl
@[simp] theorem Dev.pb_voteAt (d : Dev) (b : Nat) (f : Fld) (v : Bool) : (d.pb b f v).voteAt = d.voteAt := rfl
@[simp] theorem Dev.pb_free (d : Dev) (b : Nat) (f : Fld) (v : Bool) : (d.pb b f v).free = d.free := rfl
@[simp] theorem Dev.pb_loops (d : Dev) (b : Nat) (f : Fld) (v : Bool) : (d.pb b f v).loops = d.loops := rfl
@[simp] theorem Dev.pb_hold (d : Dev) (b : Nat) (f : Fld) (v : Bool) : (d.pb b f v).hold = d.hold := rfl
@[simp] theorem Dev.pb_skewRun (d : Dev) (b : Nat) (f : Fld) (v : Bool) : (d.pb b f v).skewRun = d.skewRun := rfl
@[simp] theorem Dev.pb_apls (d : Dev) (b : Nat) (f : Fld) (v : Bool) : (d.pb b f v).apls = d.apls := rfl
@[simp] theorem Dev.pb_outs (d : Dev) (b : Nat) (f : Fld) (v : Bool) : (d.pb b f v).outs = d.outs := rfl
@[simp] theorem Dev.pb_dacs (d : Dev) (b : Nat) (f : Fld) (v : Bool) : (d.pb b f v).dacs = d.dacs := rfl
@[simp] theorem Dev.pb_disAt (d : Dev) (b : Nat) (f : Fld) (v : Bool) : (d.pb b f v).disAt = d.disAt := rfl
@[simp] theorem Dev.pb_bnds (d : Dev) (b : Nat) (f : Fld) (v : Bool) : (d.pb b f v).bnds = d.bnds := rfl
@[simp] theorem Dev.pb_exch (d : Dev) (b : Nat) (f : Fld) (v : Bool) : (d.pb b f v).exch = d.exch := rfl
@[simp] theorem Dev.pb_bands (d : Dev) (b : Nat) (f : Fld) (v : Bool) : (d.pb b f v).bands = d.bands := rfl
@[simp] theorem Dev.pb_acq (d : Dev) (b : Nat) (f : Fld) (v : Bool) : (d.pb b f v).acq = d.acq := rfl
@[simp] theorem Dev.pb_chans (d : Dev) (b : Nat) (f : Fld) (v : Bool) : (d.pb b f v).chans = d.chans := rfl
@[simp] theorem Dev.pb_sol (d : Dev) (b : Nat) (f : Fld) (v : Bool) : (d.pb b f v).sol = d.sol := rfl
@[simp] theorem Dev.pb_snap (d : Dev) (b : Nat) (f : Fld) (v : Bool) : (d.pb b f v).snap = d.snap := rfl
@[simp] theorem Dev.pb_snapBuf (d : Dev) (b : Nat) (f : Fld) (v : Bool) : (d.pb b f v).snapBuf = d.snapBuf := rfl
@[simp] theorem Dev.pb_tracks (d : Dev) (b : Nat) (f : Fld) (v : Bool) : (d.pb b f v).tracks = d.tracks := rfl
@[simp] theorem Dev.pb_ports (d : Dev) (b : Nat) (f : Fld) (v : Bool) : (d.pb b f v).ports = d.ports := rfl
@[simp] theorem Dev.pb_macc (d : Dev) (b : Nat) (f : Fld) (v : Bool) : (d.pb b f v).macc = d.macc := rfl
@[simp] theorem Dev.pb_planes (d : Dev) (b : Nat) (f : Fld) (v : Bool) : (d.pb b f v).planes = d.planes := rfl
@[simp] theorem Dev.pb_fwd (d : Dev) (b : Nat) (f : Fld) (v : Bool) : (d.pb b f v).fwd = d.fwd := rfl
@[simp] theorem Dev.pb_fwdStage (d : Dev) (b : Nat) (f : Fld) (v : Bool) : (d.pb b f v).fwdStage = d.fwdStage := rfl
@[simp] theorem Dev.pb_gates (d : Dev) (b : Nat) (f : Fld) (v : Bool) : (d.pb b f v).gates = d.gates := rfl
@[simp] theorem Dev.pb_stepgen (d : Dev) (b : Nat) (f : Fld) (v : Bool) : (d.pb b f v).stepgen = d.stepgen := rfl
@[simp] theorem Dev.pb_resp (d : Dev) (b : Nat) (f : Fld) (v : Bool) : (d.pb b f v).resp = d.resp := rfl
@[simp] theorem Dev.pb_buckets (d : Dev) (b : Nat) (f : Fld) (v : Bool) : (d.pb b f v).buckets = d.buckets := rfl
@[simp] theorem Dev.pb_svcStage (d : Dev) (b : Nat) (f : Fld) (v : Bool) : (d.pb b f v).svcStage = d.svcStage := rfl
@[simp] theorem Dev.pb_pubs (d : Dev) (b : Nat) (f : Fld) (v : Bool) : (d.pb b f v).pubs = d.pubs := rfl
@[simp] theorem Dev.pb_grants (d : Dev) (b : Nat) (f : Fld) (v : Bool) : (d.pb b f v).grants = d.grants := rfl
@[simp] theorem Dev.pb_insts (d : Dev) (b : Nat) (f : Fld) (v : Bool) : (d.pb b f v).insts = d.insts := rfl
@[simp] theorem Dev.pb_cads (d : Dev) (b : Nat) (f : Fld) (v : Bool) : (d.pb b f v).cads = d.cads := rfl
@[simp] theorem Dev.pb_engs (d : Dev) (b : Nat) (f : Fld) (v : Bool) : (d.pb b f v).engs = d.engs := rfl
@[simp] theorem Dev.pb_red (d : Dev) (b : Nat) (f : Fld) (v : Bool) : (d.pb b f v).red = d.red := rfl
@[simp] theorem Dev.pb_links (d : Dev) (b : Nat) (f : Fld) (v : Bool) : (d.pb b f v).links = d.links := rfl
@[simp] theorem Dev.pb_dmas (d : Dev) (b : Nat) (f : Fld) (v : Bool) : (d.pb b f v).dmas = d.dmas := rfl
@[simp] theorem Dev.pb_sampled (d : Dev) (b : Nat) (f : Fld) (v : Bool) : (d.pb b f v).sampled = d.sampled := rfl
@[simp] theorem Dev.pb_epochs (d : Dev) (b : Nat) (f : Fld) (v : Bool) : (d.pb b f v).epochs = d.epochs := rfl
@[simp] theorem Dev.pb_chaef (d : Dev) (b : Nat) (f : Fld) (v : Bool) : (d.pb b f v).chaef = d.chaef := rfl
@[simp] theorem Dev.pb_bootsOk (d : Dev) (b : Nat) (f : Fld) (v : Bool) : (d.pb b f v).bootsOk = d.bootsOk := rfl
@[simp] theorem Dev.pb_rseq (d : Dev) (b : Nat) (f : Fld) (v : Bool) : (d.pb b f v).rseq = d.rseq := rfl
@[simp] theorem Dev.pb_kettle (d : Dev) (b : Nat) (f : Fld) (v : Bool) : (d.pb b f v).kettle = d.kettle := rfl
@[simp] theorem Dev.pb_avs (d : Dev) (b : Nat) (f : Fld) (v : Bool) : (d.pb b f v).avs = d.avs := rfl
@[simp] theorem Dev.pb_scrub (d : Dev) (b : Nat) (f : Fld) (v : Bool) : (d.pb b f v).scrub = d.scrub := rfl
@[simp] theorem Dev.pb_bist (d : Dev) (b : Nat) (f : Fld) (v : Bool) : (d.pb b f v).bist = d.bist := rfl
@[simp] theorem Dev.pb_repairs (d : Dev) (b : Nat) (f : Fld) (v : Bool) : (d.pb b f v).repairs = d.repairs := rfl
@[simp] theorem Dev.pb_tests (d : Dev) (b : Nat) (f : Fld) (v : Bool) : (d.pb b f v).tests = d.tests := rfl
@[simp] theorem Dev.pb_unitsOut (d : Dev) (b : Nat) (f : Fld) (v : Bool) : (d.pb b f v).unitsOut = d.unitsOut := rfl
@[simp] theorem Dev.pb_lcs (d : Dev) (b : Nat) (f : Fld) (v : Bool) : (d.pb b f v).lcs = d.lcs := rfl
@[simp] theorem Dev.pb_tap (d : Dev) (b : Nat) (f : Fld) (v : Bool) : (d.pb b f v).tap = d.tap := rfl
@[simp] theorem Dev.pb_prf (d : Dev) (b : Nat) (f : Fld) (v : Bool) : (d.pb b f v).prf = d.prf := rfl
@[simp] theorem Dev.pb_ticks (d : Dev) (b : Nat) (f : Fld) (v : Bool) : (d.pb b f v).ticks = d.ticks := rfl
@[simp] theorem Dev.pb_tel (d : Dev) (b : Nat) (f : Fld) (v : Bool) : (d.pb b f v).tel = d.tel := rfl
@[simp] theorem Dev.pb_start (d : Dev) (b : Nat) (f : Fld) (v : Bool) : (d.pb b f v).start = d.start := rfl

@[simp] theorem Dev.regAccess_regs (d : Dev) (m : Master) (a : Nat) : (d.regAccess m a).regs = d.regs := rfl
@[simp] theorem Dev.regAccess_evts (d : Dev) (m : Master) (a : Nat) : (d.regAccess m a).evts = d.evts := rfl
@[simp] theorem Dev.regAccess_latch (d : Dev) (m : Master) (a : Nat) : (d.regAccess m a).latch = d.latch := rfl
@[simp] theorem Dev.regAccess_pages (d : Dev) (m : Master) (a : Nat) : (d.regAccess m a).pages = d.pages := rfl
@[simp] theorem Dev.regAccess_now (d : Dev) (m : Master) (a : Nat) : (d.regAccess m a).now = d.now := rfl
@[simp] theorem Dev.regAccess_cpl (d : Dev) (m : Master) (a : Nat) : (d.regAccess m a).cpl = d.cpl := rfl
@[simp] theorem Dev.regAccess_miso (d : Dev) (m : Master) (a : Nat) : (d.regAccess m a).miso = d.miso := rfl
@[simp] theorem Dev.regAccess_evc (d : Dev) (m : Master) (a : Nat) : (d.regAccess m a).evc = d.evc := rfl
@[simp] theorem Dev.regAccess_mbx (d : Dev) (m : Master) (a : Nat) : (d.regAccess m a).mbx = d.mbx := rfl
@[simp] theorem Dev.regAccess_half (d : Dev) (m : Master) (a : Nat) : (d.regAccess m a).half = d.half := rfl
@[simp] theorem Dev.regAccess_tbs (d : Dev) (m : Master) (a : Nat) : (d.regAccess m a).tbs = d.tbs := rfl
@[simp] theorem Dev.regAccess_sched (d : Dev) (m : Master) (a : Nat) : (d.regAccess m a).sched = d.sched := rfl
@[simp] theorem Dev.regAccess_flt (d : Dev) (m : Master) (a : Nat) : (d.regAccess m a).flt = d.flt := rfl
@[simp] theorem Dev.regAccess_caps (d : Dev) (m : Master) (a : Nat) : (d.regAccess m a).caps = d.caps := rfl
@[simp] theorem Dev.regAccess_pathComp (d : Dev) (m : Master) (a : Nat) : (d.regAccess m a).pathComp = d.pathComp := rfl
@[simp] theorem Dev.regAccess_capq (d : Dev) (m : Master) (a : Nat) : (d.regAccess m a).capq = d.capq := rfl
@[simp] theorem Dev.regAccess_cands (d : Dev) (m : Master) (a : Nat) : (d.regAccess m a).cands = d.cands := rfl
@[simp] theorem Dev.regAccess_sels (d : Dev) (m : Master) (a : Nat) : (d.regAccess m a).sels = d.sels := rfl
@[simp] theorem Dev.regAccess_wtr (d : Dev) (m : Master) (a : Nat) : (d.regAccess m a).wtr = d.wtr := rfl
@[simp] theorem Dev.regAccess_voteAt (d : Dev) (m : Master) (a : Nat) : (d.regAccess m a).voteAt = d.voteAt := rfl
@[simp] theorem Dev.regAccess_free (d : Dev) (m : Master) (a : Nat) : (d.regAccess m a).free = d.free := rfl
@[simp] theorem Dev.regAccess_loops (d : Dev) (m : Master) (a : Nat) : (d.regAccess m a).loops = d.loops := rfl
@[simp] theorem Dev.regAccess_hold (d : Dev) (m : Master) (a : Nat) : (d.regAccess m a).hold = d.hold := rfl
@[simp] theorem Dev.regAccess_skewRun (d : Dev) (m : Master) (a : Nat) : (d.regAccess m a).skewRun = d.skewRun := rfl
@[simp] theorem Dev.regAccess_apls (d : Dev) (m : Master) (a : Nat) : (d.regAccess m a).apls = d.apls := rfl
@[simp] theorem Dev.regAccess_outs (d : Dev) (m : Master) (a : Nat) : (d.regAccess m a).outs = d.outs := rfl
@[simp] theorem Dev.regAccess_dacs (d : Dev) (m : Master) (a : Nat) : (d.regAccess m a).dacs = d.dacs := rfl
@[simp] theorem Dev.regAccess_disAt (d : Dev) (m : Master) (a : Nat) : (d.regAccess m a).disAt = d.disAt := rfl
@[simp] theorem Dev.regAccess_bnds (d : Dev) (m : Master) (a : Nat) : (d.regAccess m a).bnds = d.bnds := rfl
@[simp] theorem Dev.regAccess_exch (d : Dev) (m : Master) (a : Nat) : (d.regAccess m a).exch = d.exch := rfl
@[simp] theorem Dev.regAccess_bands (d : Dev) (m : Master) (a : Nat) : (d.regAccess m a).bands = d.bands := rfl
@[simp] theorem Dev.regAccess_acq (d : Dev) (m : Master) (a : Nat) : (d.regAccess m a).acq = d.acq := rfl
@[simp] theorem Dev.regAccess_chans (d : Dev) (m : Master) (a : Nat) : (d.regAccess m a).chans = d.chans := rfl
@[simp] theorem Dev.regAccess_sol (d : Dev) (m : Master) (a : Nat) : (d.regAccess m a).sol = d.sol := rfl
@[simp] theorem Dev.regAccess_snap (d : Dev) (m : Master) (a : Nat) : (d.regAccess m a).snap = d.snap := rfl
@[simp] theorem Dev.regAccess_snapBuf (d : Dev) (m : Master) (a : Nat) : (d.regAccess m a).snapBuf = d.snapBuf := rfl
@[simp] theorem Dev.regAccess_tracks (d : Dev) (m : Master) (a : Nat) : (d.regAccess m a).tracks = d.tracks := rfl
@[simp] theorem Dev.regAccess_ports (d : Dev) (m : Master) (a : Nat) : (d.regAccess m a).ports = d.ports := rfl
@[simp] theorem Dev.regAccess_macc (d : Dev) (m : Master) (a : Nat) : (d.regAccess m a).macc = d.macc := rfl
@[simp] theorem Dev.regAccess_planes (d : Dev) (m : Master) (a : Nat) : (d.regAccess m a).planes = d.planes := rfl
@[simp] theorem Dev.regAccess_fwd (d : Dev) (m : Master) (a : Nat) : (d.regAccess m a).fwd = d.fwd := rfl
@[simp] theorem Dev.regAccess_fwdStage (d : Dev) (m : Master) (a : Nat) : (d.regAccess m a).fwdStage = d.fwdStage := rfl
@[simp] theorem Dev.regAccess_gates (d : Dev) (m : Master) (a : Nat) : (d.regAccess m a).gates = d.gates := rfl
@[simp] theorem Dev.regAccess_stepgen (d : Dev) (m : Master) (a : Nat) : (d.regAccess m a).stepgen = d.stepgen := rfl
@[simp] theorem Dev.regAccess_resp (d : Dev) (m : Master) (a : Nat) : (d.regAccess m a).resp = d.resp := rfl
@[simp] theorem Dev.regAccess_buckets (d : Dev) (m : Master) (a : Nat) : (d.regAccess m a).buckets = d.buckets := rfl
@[simp] theorem Dev.regAccess_svcStage (d : Dev) (m : Master) (a : Nat) : (d.regAccess m a).svcStage = d.svcStage := rfl
@[simp] theorem Dev.regAccess_pubs (d : Dev) (m : Master) (a : Nat) : (d.regAccess m a).pubs = d.pubs := rfl
@[simp] theorem Dev.regAccess_grants (d : Dev) (m : Master) (a : Nat) : (d.regAccess m a).grants = d.grants := rfl
@[simp] theorem Dev.regAccess_insts (d : Dev) (m : Master) (a : Nat) : (d.regAccess m a).insts = d.insts := rfl
@[simp] theorem Dev.regAccess_cads (d : Dev) (m : Master) (a : Nat) : (d.regAccess m a).cads = d.cads := rfl
@[simp] theorem Dev.regAccess_engs (d : Dev) (m : Master) (a : Nat) : (d.regAccess m a).engs = d.engs := rfl
@[simp] theorem Dev.regAccess_red (d : Dev) (m : Master) (a : Nat) : (d.regAccess m a).red = d.red := rfl
@[simp] theorem Dev.regAccess_links (d : Dev) (m : Master) (a : Nat) : (d.regAccess m a).links = d.links := rfl
@[simp] theorem Dev.regAccess_dmas (d : Dev) (m : Master) (a : Nat) : (d.regAccess m a).dmas = d.dmas := rfl
@[simp] theorem Dev.regAccess_sampled (d : Dev) (m : Master) (a : Nat) : (d.regAccess m a).sampled = d.sampled := rfl
@[simp] theorem Dev.regAccess_epochs (d : Dev) (m : Master) (a : Nat) : (d.regAccess m a).epochs = d.epochs := rfl
@[simp] theorem Dev.regAccess_chaef (d : Dev) (m : Master) (a : Nat) : (d.regAccess m a).chaef = d.chaef := rfl
@[simp] theorem Dev.regAccess_bootsOk (d : Dev) (m : Master) (a : Nat) : (d.regAccess m a).bootsOk = d.bootsOk := rfl
@[simp] theorem Dev.regAccess_rseq (d : Dev) (m : Master) (a : Nat) : (d.regAccess m a).rseq = d.rseq := rfl
@[simp] theorem Dev.regAccess_kettle (d : Dev) (m : Master) (a : Nat) : (d.regAccess m a).kettle = d.kettle := rfl
@[simp] theorem Dev.regAccess_avs (d : Dev) (m : Master) (a : Nat) : (d.regAccess m a).avs = d.avs := rfl
@[simp] theorem Dev.regAccess_scrub (d : Dev) (m : Master) (a : Nat) : (d.regAccess m a).scrub = d.scrub := rfl
@[simp] theorem Dev.regAccess_bist (d : Dev) (m : Master) (a : Nat) : (d.regAccess m a).bist = d.bist := rfl
@[simp] theorem Dev.regAccess_repairs (d : Dev) (m : Master) (a : Nat) : (d.regAccess m a).repairs = d.repairs := rfl
@[simp] theorem Dev.regAccess_tests (d : Dev) (m : Master) (a : Nat) : (d.regAccess m a).tests = d.tests := rfl
@[simp] theorem Dev.regAccess_unitsOut (d : Dev) (m : Master) (a : Nat) : (d.regAccess m a).unitsOut = d.unitsOut := rfl
@[simp] theorem Dev.regAccess_lcs (d : Dev) (m : Master) (a : Nat) : (d.regAccess m a).lcs = d.lcs := rfl
@[simp] theorem Dev.regAccess_tap (d : Dev) (m : Master) (a : Nat) : (d.regAccess m a).tap = d.tap := rfl
@[simp] theorem Dev.regAccess_prf (d : Dev) (m : Master) (a : Nat) : (d.regAccess m a).prf = d.prf := rfl
@[simp] theorem Dev.regAccess_ticks (d : Dev) (m : Master) (a : Nat) : (d.regAccess m a).ticks = d.ticks := rfl
@[simp] theorem Dev.regAccess_tel (d : Dev) (m : Master) (a : Nat) : (d.regAccess m a).tel = d.tel := rfl
@[simp] theorem Dev.regAccess_start (d : Dev) (m : Master) (a : Nat) : (d.regAccess m a).start = d.start := rfl

@[simp] theorem Dev.raise_regs (d : Dev) (pg k : Nat) : (d.raise pg k).regs = d.regs := rfl
@[simp] theorem Dev.raise_latch (d : Dev) (pg k : Nat) : (d.raise pg k).latch = d.latch := rfl
@[simp] theorem Dev.raise_pages (d : Dev) (pg k : Nat) : (d.raise pg k).pages = d.pages := rfl
@[simp] theorem Dev.raise_now (d : Dev) (pg k : Nat) : (d.raise pg k).now = d.now := rfl
@[simp] theorem Dev.raise_cpl (d : Dev) (pg k : Nat) : (d.raise pg k).cpl = d.cpl := rfl
@[simp] theorem Dev.raise_miso (d : Dev) (pg k : Nat) : (d.raise pg k).miso = d.miso := rfl
@[simp] theorem Dev.raise_evc (d : Dev) (pg k : Nat) : (d.raise pg k).evc = d.evc := rfl
@[simp] theorem Dev.raise_mbx (d : Dev) (pg k : Nat) : (d.raise pg k).mbx = d.mbx := rfl
@[simp] theorem Dev.raise_half (d : Dev) (pg k : Nat) : (d.raise pg k).half = d.half := rfl
@[simp] theorem Dev.raise_tbs (d : Dev) (pg k : Nat) : (d.raise pg k).tbs = d.tbs := rfl
@[simp] theorem Dev.raise_sched (d : Dev) (pg k : Nat) : (d.raise pg k).sched = d.sched := rfl
@[simp] theorem Dev.raise_flt (d : Dev) (pg k : Nat) : (d.raise pg k).flt = d.flt := rfl
@[simp] theorem Dev.raise_caps (d : Dev) (pg k : Nat) : (d.raise pg k).caps = d.caps := rfl
@[simp] theorem Dev.raise_pathComp (d : Dev) (pg k : Nat) : (d.raise pg k).pathComp = d.pathComp := rfl
@[simp] theorem Dev.raise_capq (d : Dev) (pg k : Nat) : (d.raise pg k).capq = d.capq := rfl
@[simp] theorem Dev.raise_cands (d : Dev) (pg k : Nat) : (d.raise pg k).cands = d.cands := rfl
@[simp] theorem Dev.raise_sels (d : Dev) (pg k : Nat) : (d.raise pg k).sels = d.sels := rfl
@[simp] theorem Dev.raise_wtr (d : Dev) (pg k : Nat) : (d.raise pg k).wtr = d.wtr := rfl
@[simp] theorem Dev.raise_voteAt (d : Dev) (pg k : Nat) : (d.raise pg k).voteAt = d.voteAt := rfl
@[simp] theorem Dev.raise_free (d : Dev) (pg k : Nat) : (d.raise pg k).free = d.free := rfl
@[simp] theorem Dev.raise_loops (d : Dev) (pg k : Nat) : (d.raise pg k).loops = d.loops := rfl
@[simp] theorem Dev.raise_hold (d : Dev) (pg k : Nat) : (d.raise pg k).hold = d.hold := rfl
@[simp] theorem Dev.raise_skewRun (d : Dev) (pg k : Nat) : (d.raise pg k).skewRun = d.skewRun := rfl
@[simp] theorem Dev.raise_apls (d : Dev) (pg k : Nat) : (d.raise pg k).apls = d.apls := rfl
@[simp] theorem Dev.raise_outs (d : Dev) (pg k : Nat) : (d.raise pg k).outs = d.outs := rfl
@[simp] theorem Dev.raise_dacs (d : Dev) (pg k : Nat) : (d.raise pg k).dacs = d.dacs := rfl
@[simp] theorem Dev.raise_disAt (d : Dev) (pg k : Nat) : (d.raise pg k).disAt = d.disAt := rfl
@[simp] theorem Dev.raise_bnds (d : Dev) (pg k : Nat) : (d.raise pg k).bnds = d.bnds := rfl
@[simp] theorem Dev.raise_exch (d : Dev) (pg k : Nat) : (d.raise pg k).exch = d.exch := rfl
@[simp] theorem Dev.raise_bands (d : Dev) (pg k : Nat) : (d.raise pg k).bands = d.bands := rfl
@[simp] theorem Dev.raise_acq (d : Dev) (pg k : Nat) : (d.raise pg k).acq = d.acq := rfl
@[simp] theorem Dev.raise_chans (d : Dev) (pg k : Nat) : (d.raise pg k).chans = d.chans := rfl
@[simp] theorem Dev.raise_sol (d : Dev) (pg k : Nat) : (d.raise pg k).sol = d.sol := rfl
@[simp] theorem Dev.raise_snap (d : Dev) (pg k : Nat) : (d.raise pg k).snap = d.snap := rfl
@[simp] theorem Dev.raise_snapBuf (d : Dev) (pg k : Nat) : (d.raise pg k).snapBuf = d.snapBuf := rfl
@[simp] theorem Dev.raise_tracks (d : Dev) (pg k : Nat) : (d.raise pg k).tracks = d.tracks := rfl
@[simp] theorem Dev.raise_ports (d : Dev) (pg k : Nat) : (d.raise pg k).ports = d.ports := rfl
@[simp] theorem Dev.raise_macc (d : Dev) (pg k : Nat) : (d.raise pg k).macc = d.macc := rfl
@[simp] theorem Dev.raise_planes (d : Dev) (pg k : Nat) : (d.raise pg k).planes = d.planes := rfl
@[simp] theorem Dev.raise_fwd (d : Dev) (pg k : Nat) : (d.raise pg k).fwd = d.fwd := rfl
@[simp] theorem Dev.raise_fwdStage (d : Dev) (pg k : Nat) : (d.raise pg k).fwdStage = d.fwdStage := rfl
@[simp] theorem Dev.raise_gates (d : Dev) (pg k : Nat) : (d.raise pg k).gates = d.gates := rfl
@[simp] theorem Dev.raise_stepgen (d : Dev) (pg k : Nat) : (d.raise pg k).stepgen = d.stepgen := rfl
@[simp] theorem Dev.raise_resp (d : Dev) (pg k : Nat) : (d.raise pg k).resp = d.resp := rfl
@[simp] theorem Dev.raise_buckets (d : Dev) (pg k : Nat) : (d.raise pg k).buckets = d.buckets := rfl
@[simp] theorem Dev.raise_svcStage (d : Dev) (pg k : Nat) : (d.raise pg k).svcStage = d.svcStage := rfl
@[simp] theorem Dev.raise_pubs (d : Dev) (pg k : Nat) : (d.raise pg k).pubs = d.pubs := rfl
@[simp] theorem Dev.raise_grants (d : Dev) (pg k : Nat) : (d.raise pg k).grants = d.grants := rfl
@[simp] theorem Dev.raise_insts (d : Dev) (pg k : Nat) : (d.raise pg k).insts = d.insts := rfl
@[simp] theorem Dev.raise_cads (d : Dev) (pg k : Nat) : (d.raise pg k).cads = d.cads := rfl
@[simp] theorem Dev.raise_engs (d : Dev) (pg k : Nat) : (d.raise pg k).engs = d.engs := rfl
@[simp] theorem Dev.raise_red (d : Dev) (pg k : Nat) : (d.raise pg k).red = d.red := rfl
@[simp] theorem Dev.raise_links (d : Dev) (pg k : Nat) : (d.raise pg k).links = d.links := rfl
@[simp] theorem Dev.raise_dmas (d : Dev) (pg k : Nat) : (d.raise pg k).dmas = d.dmas := rfl
@[simp] theorem Dev.raise_sampled (d : Dev) (pg k : Nat) : (d.raise pg k).sampled = d.sampled := rfl
@[simp] theorem Dev.raise_epochs (d : Dev) (pg k : Nat) : (d.raise pg k).epochs = d.epochs := rfl
@[simp] theorem Dev.raise_chaef (d : Dev) (pg k : Nat) : (d.raise pg k).chaef = d.chaef := rfl
@[simp] theorem Dev.raise_bootsOk (d : Dev) (pg k : Nat) : (d.raise pg k).bootsOk = d.bootsOk := rfl
@[simp] theorem Dev.raise_rseq (d : Dev) (pg k : Nat) : (d.raise pg k).rseq = d.rseq := rfl
@[simp] theorem Dev.raise_kettle (d : Dev) (pg k : Nat) : (d.raise pg k).kettle = d.kettle := rfl
@[simp] theorem Dev.raise_avs (d : Dev) (pg k : Nat) : (d.raise pg k).avs = d.avs := rfl
@[simp] theorem Dev.raise_scrub (d : Dev) (pg k : Nat) : (d.raise pg k).scrub = d.scrub := rfl
@[simp] theorem Dev.raise_bist (d : Dev) (pg k : Nat) : (d.raise pg k).bist = d.bist := rfl
@[simp] theorem Dev.raise_repairs (d : Dev) (pg k : Nat) : (d.raise pg k).repairs = d.repairs := rfl
@[simp] theorem Dev.raise_tests (d : Dev) (pg k : Nat) : (d.raise pg k).tests = d.tests := rfl
@[simp] theorem Dev.raise_unitsOut (d : Dev) (pg k : Nat) : (d.raise pg k).unitsOut = d.unitsOut := rfl
@[simp] theorem Dev.raise_lcs (d : Dev) (pg k : Nat) : (d.raise pg k).lcs = d.lcs := rfl
@[simp] theorem Dev.raise_tap (d : Dev) (pg k : Nat) : (d.raise pg k).tap = d.tap := rfl
@[simp] theorem Dev.raise_prf (d : Dev) (pg k : Nat) : (d.raise pg k).prf = d.prf := rfl
@[simp] theorem Dev.raise_ticks (d : Dev) (pg k : Nat) : (d.raise pg k).ticks = d.ticks := rfl
@[simp] theorem Dev.raise_tel (d : Dev) (pg k : Nat) : (d.raise pg k).tel = d.tel := rfl
@[simp] theorem Dev.raise_start (d : Dev) (pg k : Nat) : (d.raise pg k).start = d.start := rfl

@[simp] theorem Dev.setPage_regs (d : Dev) (pg : Nat) (v : PageSt) : (d.setPage pg v).regs = d.regs := rfl
@[simp] theorem Dev.setPage_evts (d : Dev) (pg : Nat) (v : PageSt) : (d.setPage pg v).evts = d.evts := rfl
@[simp] theorem Dev.setPage_pcnt (d : Dev) (pg : Nat) (v : PageSt) : (d.setPage pg v).pcnt = d.pcnt := rfl
@[simp] theorem Dev.setPage_latch (d : Dev) (pg : Nat) (v : PageSt) : (d.setPage pg v).latch = d.latch := rfl
@[simp] theorem Dev.setPage_now (d : Dev) (pg : Nat) (v : PageSt) : (d.setPage pg v).now = d.now := rfl
@[simp] theorem Dev.setPage_cpl (d : Dev) (pg : Nat) (v : PageSt) : (d.setPage pg v).cpl = d.cpl := rfl
@[simp] theorem Dev.setPage_miso (d : Dev) (pg : Nat) (v : PageSt) : (d.setPage pg v).miso = d.miso := rfl
@[simp] theorem Dev.setPage_evc (d : Dev) (pg : Nat) (v : PageSt) : (d.setPage pg v).evc = d.evc := rfl
@[simp] theorem Dev.setPage_mbx (d : Dev) (pg : Nat) (v : PageSt) : (d.setPage pg v).mbx = d.mbx := rfl
@[simp] theorem Dev.setPage_half (d : Dev) (pg : Nat) (v : PageSt) : (d.setPage pg v).half = d.half := rfl
@[simp] theorem Dev.setPage_tbs (d : Dev) (pg : Nat) (v : PageSt) : (d.setPage pg v).tbs = d.tbs := rfl
@[simp] theorem Dev.setPage_sched (d : Dev) (pg : Nat) (v : PageSt) : (d.setPage pg v).sched = d.sched := rfl
@[simp] theorem Dev.setPage_flt (d : Dev) (pg : Nat) (v : PageSt) : (d.setPage pg v).flt = d.flt := rfl
@[simp] theorem Dev.setPage_caps (d : Dev) (pg : Nat) (v : PageSt) : (d.setPage pg v).caps = d.caps := rfl
@[simp] theorem Dev.setPage_pathComp (d : Dev) (pg : Nat) (v : PageSt) : (d.setPage pg v).pathComp = d.pathComp := rfl
@[simp] theorem Dev.setPage_capq (d : Dev) (pg : Nat) (v : PageSt) : (d.setPage pg v).capq = d.capq := rfl
@[simp] theorem Dev.setPage_cands (d : Dev) (pg : Nat) (v : PageSt) : (d.setPage pg v).cands = d.cands := rfl
@[simp] theorem Dev.setPage_sels (d : Dev) (pg : Nat) (v : PageSt) : (d.setPage pg v).sels = d.sels := rfl
@[simp] theorem Dev.setPage_wtr (d : Dev) (pg : Nat) (v : PageSt) : (d.setPage pg v).wtr = d.wtr := rfl
@[simp] theorem Dev.setPage_voteAt (d : Dev) (pg : Nat) (v : PageSt) : (d.setPage pg v).voteAt = d.voteAt := rfl
@[simp] theorem Dev.setPage_free (d : Dev) (pg : Nat) (v : PageSt) : (d.setPage pg v).free = d.free := rfl
@[simp] theorem Dev.setPage_loops (d : Dev) (pg : Nat) (v : PageSt) : (d.setPage pg v).loops = d.loops := rfl
@[simp] theorem Dev.setPage_hold (d : Dev) (pg : Nat) (v : PageSt) : (d.setPage pg v).hold = d.hold := rfl
@[simp] theorem Dev.setPage_skewRun (d : Dev) (pg : Nat) (v : PageSt) : (d.setPage pg v).skewRun = d.skewRun := rfl
@[simp] theorem Dev.setPage_apls (d : Dev) (pg : Nat) (v : PageSt) : (d.setPage pg v).apls = d.apls := rfl
@[simp] theorem Dev.setPage_outs (d : Dev) (pg : Nat) (v : PageSt) : (d.setPage pg v).outs = d.outs := rfl
@[simp] theorem Dev.setPage_dacs (d : Dev) (pg : Nat) (v : PageSt) : (d.setPage pg v).dacs = d.dacs := rfl
@[simp] theorem Dev.setPage_disAt (d : Dev) (pg : Nat) (v : PageSt) : (d.setPage pg v).disAt = d.disAt := rfl
@[simp] theorem Dev.setPage_bnds (d : Dev) (pg : Nat) (v : PageSt) : (d.setPage pg v).bnds = d.bnds := rfl
@[simp] theorem Dev.setPage_exch (d : Dev) (pg : Nat) (v : PageSt) : (d.setPage pg v).exch = d.exch := rfl
@[simp] theorem Dev.setPage_bands (d : Dev) (pg : Nat) (v : PageSt) : (d.setPage pg v).bands = d.bands := rfl
@[simp] theorem Dev.setPage_acq (d : Dev) (pg : Nat) (v : PageSt) : (d.setPage pg v).acq = d.acq := rfl
@[simp] theorem Dev.setPage_chans (d : Dev) (pg : Nat) (v : PageSt) : (d.setPage pg v).chans = d.chans := rfl
@[simp] theorem Dev.setPage_sol (d : Dev) (pg : Nat) (v : PageSt) : (d.setPage pg v).sol = d.sol := rfl
@[simp] theorem Dev.setPage_snap (d : Dev) (pg : Nat) (v : PageSt) : (d.setPage pg v).snap = d.snap := rfl
@[simp] theorem Dev.setPage_snapBuf (d : Dev) (pg : Nat) (v : PageSt) : (d.setPage pg v).snapBuf = d.snapBuf := rfl
@[simp] theorem Dev.setPage_tracks (d : Dev) (pg : Nat) (v : PageSt) : (d.setPage pg v).tracks = d.tracks := rfl
@[simp] theorem Dev.setPage_ports (d : Dev) (pg : Nat) (v : PageSt) : (d.setPage pg v).ports = d.ports := rfl
@[simp] theorem Dev.setPage_macc (d : Dev) (pg : Nat) (v : PageSt) : (d.setPage pg v).macc = d.macc := rfl
@[simp] theorem Dev.setPage_planes (d : Dev) (pg : Nat) (v : PageSt) : (d.setPage pg v).planes = d.planes := rfl
@[simp] theorem Dev.setPage_fwd (d : Dev) (pg : Nat) (v : PageSt) : (d.setPage pg v).fwd = d.fwd := rfl
@[simp] theorem Dev.setPage_fwdStage (d : Dev) (pg : Nat) (v : PageSt) : (d.setPage pg v).fwdStage = d.fwdStage := rfl
@[simp] theorem Dev.setPage_gates (d : Dev) (pg : Nat) (v : PageSt) : (d.setPage pg v).gates = d.gates := rfl
@[simp] theorem Dev.setPage_stepgen (d : Dev) (pg : Nat) (v : PageSt) : (d.setPage pg v).stepgen = d.stepgen := rfl
@[simp] theorem Dev.setPage_resp (d : Dev) (pg : Nat) (v : PageSt) : (d.setPage pg v).resp = d.resp := rfl
@[simp] theorem Dev.setPage_buckets (d : Dev) (pg : Nat) (v : PageSt) : (d.setPage pg v).buckets = d.buckets := rfl
@[simp] theorem Dev.setPage_svcStage (d : Dev) (pg : Nat) (v : PageSt) : (d.setPage pg v).svcStage = d.svcStage := rfl
@[simp] theorem Dev.setPage_pubs (d : Dev) (pg : Nat) (v : PageSt) : (d.setPage pg v).pubs = d.pubs := rfl
@[simp] theorem Dev.setPage_grants (d : Dev) (pg : Nat) (v : PageSt) : (d.setPage pg v).grants = d.grants := rfl
@[simp] theorem Dev.setPage_insts (d : Dev) (pg : Nat) (v : PageSt) : (d.setPage pg v).insts = d.insts := rfl
@[simp] theorem Dev.setPage_cads (d : Dev) (pg : Nat) (v : PageSt) : (d.setPage pg v).cads = d.cads := rfl
@[simp] theorem Dev.setPage_engs (d : Dev) (pg : Nat) (v : PageSt) : (d.setPage pg v).engs = d.engs := rfl
@[simp] theorem Dev.setPage_red (d : Dev) (pg : Nat) (v : PageSt) : (d.setPage pg v).red = d.red := rfl
@[simp] theorem Dev.setPage_links (d : Dev) (pg : Nat) (v : PageSt) : (d.setPage pg v).links = d.links := rfl
@[simp] theorem Dev.setPage_dmas (d : Dev) (pg : Nat) (v : PageSt) : (d.setPage pg v).dmas = d.dmas := rfl
@[simp] theorem Dev.setPage_sampled (d : Dev) (pg : Nat) (v : PageSt) : (d.setPage pg v).sampled = d.sampled := rfl
@[simp] theorem Dev.setPage_epochs (d : Dev) (pg : Nat) (v : PageSt) : (d.setPage pg v).epochs = d.epochs := rfl
@[simp] theorem Dev.setPage_chaef (d : Dev) (pg : Nat) (v : PageSt) : (d.setPage pg v).chaef = d.chaef := rfl
@[simp] theorem Dev.setPage_bootsOk (d : Dev) (pg : Nat) (v : PageSt) : (d.setPage pg v).bootsOk = d.bootsOk := rfl
@[simp] theorem Dev.setPage_rseq (d : Dev) (pg : Nat) (v : PageSt) : (d.setPage pg v).rseq = d.rseq := rfl
@[simp] theorem Dev.setPage_kettle (d : Dev) (pg : Nat) (v : PageSt) : (d.setPage pg v).kettle = d.kettle := rfl
@[simp] theorem Dev.setPage_avs (d : Dev) (pg : Nat) (v : PageSt) : (d.setPage pg v).avs = d.avs := rfl
@[simp] theorem Dev.setPage_scrub (d : Dev) (pg : Nat) (v : PageSt) : (d.setPage pg v).scrub = d.scrub := rfl
@[simp] theorem Dev.setPage_bist (d : Dev) (pg : Nat) (v : PageSt) : (d.setPage pg v).bist = d.bist := rfl
@[simp] theorem Dev.setPage_repairs (d : Dev) (pg : Nat) (v : PageSt) : (d.setPage pg v).repairs = d.repairs := rfl
@[simp] theorem Dev.setPage_tests (d : Dev) (pg : Nat) (v : PageSt) : (d.setPage pg v).tests = d.tests := rfl
@[simp] theorem Dev.setPage_unitsOut (d : Dev) (pg : Nat) (v : PageSt) : (d.setPage pg v).unitsOut = d.unitsOut := rfl
@[simp] theorem Dev.setPage_lcs (d : Dev) (pg : Nat) (v : PageSt) : (d.setPage pg v).lcs = d.lcs := rfl
@[simp] theorem Dev.setPage_tap (d : Dev) (pg : Nat) (v : PageSt) : (d.setPage pg v).tap = d.tap := rfl
@[simp] theorem Dev.setPage_prf (d : Dev) (pg : Nat) (v : PageSt) : (d.setPage pg v).prf = d.prf := rfl
@[simp] theorem Dev.setPage_ticks (d : Dev) (pg : Nat) (v : PageSt) : (d.setPage pg v).ticks = d.ticks := rfl
@[simp] theorem Dev.setPage_tel (d : Dev) (pg : Nat) (v : PageSt) : (d.setPage pg v).tel = d.tel := rfl
@[simp] theorem Dev.setPage_start (d : Dev) (pg : Nat) (v : PageSt) : (d.setPage pg v).start = d.start := rfl

end Sys2Proof.Machine
end

