-- ==== Sys2Proof/Laws/Exec.lean ====
section
/-! SUPPORT. What an outcome determines, and what the shared shapes of a meaning leave alone. -/

namespace Sys2Proof.Machine

/-- A command's outcome is one outcome. -/
theorem exec_next_inj {c : Instr} {s t u : State} (h : exec c s = .next t) (e : exec c s = .next u) : t = u := by
  rw [h] at e
  exact Host.Outcome.next.inj e

/-- What a change of the powered state alone leaves. -/
theorem State.onDev_rest (s : State) (f : Dev → Dev) : (s.onDev f).nv = s.nv ∧ (s.onDev f).pending = s.pending :=
  ⟨rfl, rfl⟩

@[simp] theorem State.settled_dev (s : State) (d : Dev) : (s.settled d).dev = d := rfl
@[simp] theorem State.settled_pending (s : State) (d : Dev) : (s.settled d).pending = s.pending := rfl

/-- Nothing to zeroise leaves the journal as it was. -/
@[simp] theorem NV.tombstoned_nil (nv : NV) : nv.tombstoned [] = nv := by
  cases nv
  simp [NV.tombstoned, NV.journal]

/-- A command that starts no zeroisation leaves the journal. -/
theorem State.settled_nv (s : State) (d : Dev) (h : d.cads = s.dev.cads) : (s.settled d).nv = s.nv := by
  have z : ∀ x, zeroBegun s.dev d x = [] := by
    intro x
    unfold zeroBegun Dev.cad
    rw [h]
    cases (s.dev.cads.of x).zero <;> simp
  show s.nv.tombstoned _ = s.nv
  rw [z, z]
  exact NV.tombstoned_nil s.nv

end Sys2Proof.Machine
end

