-- ==== Sys2Proof/WellFormed.lean ====
section
/-! DEFINITION. Which commands are well formed: the operands that the types of Syntax.lean leave wider than the interfaces
they come through. -/

namespace Sys2Proof

/-- The words that a span carries (R43). -/
def AccSpan.words : AccSpan → Nat
  | .narrow .b64 => 2
  | .narrow _ => 1
  | .burst n => (n + 3) / 4

/-- A flow-control frame's quanta are 16-bit numbers, one to a class of PFC (R280). -/
def FlowFrame.wf : FlowFrame → Bool
  | .pause q => decide (q < 65536)
  | .pfc mask qs => decide (mask < 256) && decide (qs.length = 8) && qs.all fun q => decide (q < 65536)

/-- A flit's claims name one of eight chips and hold four bytes (R416). -/
def FlitSeen.wf : FlitSeen → Bool
  | .intact cls claims => decide (cls < 2) && claims.all fun c => decide (c.chip < 8) && decide (c.vals < 2 ^ 32)
  | .badCrc => true
  | .fecBad => true

/-- A start reads three CHIPID balls and two patch slots (R404, R499). -/
def StartIn.wf (i : StartIn) : Bool := decide (i.chipid < 8) && decide (i.patch.length = 2)

/-- A command is well formed. [DESIGN CHOICE log 22] -/
def Instr.wf : Instr → Bool
  | .registerWrite _ _ sp ws => decide (ws.length = sp.words)
  | .rlGroupRead _ _ => true
  | .spiWriteFrame frame => frame.head? != some 0x03#8
  | .spiReadFrame frame _ => frame.head? == some 0x03#8
  | .accerrClear _ => true
  | .softReset _ _ => true
  | .blockDisable _ _ => true
  | .blockEnable _ _ => true
  | .evtAck _ _ _ => true
  | .vectorGenerate _ => true
  | .vack _ _ => true
  | .msixPbaRelease _ _ _ => true
  | .mbxGo _ _ => true
  | .mbxDone _ => true
  | .mbxTimeout _ => true
  | .echo _ => true
  | .queryTag _ => true
  | .fwVersion _ => true
  | .ltolWrite _ _ _ => true
  | .powerStateEntry _ _ => true
  | .blockWake _ => true
  | .pselWrite _ _ _ _ => true
  | .halfSkewMeasure _ _ => true
  | .step _ _ _ => true
  | .stepApply _ _ => true
  | .fadjWrite _ _ _ _ => true
  | .padjStart _ _ _ _ => true
  | .padjAbort _ _ _ => true
  | .padjComplete _ _ => true
  | .domSelWrite _ _ _ _ => true
  | .domOfsUpdate _ _ own => decide (own.natAbs < 2 ^ 47)
  | .leapCommit _ => true
  | .leapPendStart _ _ _ => true
  | .leapApplied _ _ _ => true
  | .smearWindowOpen _ _ _ => true
  | .smearWindowClose _ _ => true
  | .leapFold _ => true
  | .ttaArm _ _ _ => true
  | .ttaReevaluate _ _ _ _ _ => true
  | .ttaPulse _ _ => true
  | .ttaOutStart _ _ => true
  | .ttaOutStop _ _ => true
  | .ttaTrigger _ _ => true
  | .ttaSyncTx _ _ => true
  | .ttaSnapshot _ _ => true
  | .ttaControl _ _ ms => ms.all fun x => decide (x.ch < 256)
  | .ttaRegWrite _ _ => true
  | .ttaDomainSwitch _ _ => true
  | .edgeCapture _ _ _ _ => true
  | .captureCalibrate _ _ _ _ => true
  | .qrdWrite _ _ _ _ => true
  | .missedClr _ _ _ => true
  | .comparatorWrite _ _ _ _ _ => true
  | .intervalTimeout _ _ => true
  | .wordClockTrack _ _ _ _ _ => true
  | .selvedgeMarker _ _ _ _ => true
  | .tempCompensate _ ps => ps.all fun x => decide (x.1 < 80)
  | .refEnWrite _ _ _ _ => true
  | .amonInterval _ _ => true
  | .fmonWindow _ _ => true
  | .qualHoldExpire _ _ => true
  | .decideEnd _ _ => true
  | .buildOutEnd _ _ => true
  | .wtrExpire _ _ _ => true
  | .loopUpdate _ _ => true
  | .loopLate _ _ => true
  | .loopEnWrite _ _ _ _ => true
  | .realign _ _ _ => true
  | .realignApply _ _ => true
  | .holdSourceLost _ _ => true
  | .holdExpired _ _ => true
  | .modelReset _ _ => true
  | .modelSave _ => true
  | .tempRead reads => decide (reads.length = 4)
  | .loLost _ => true
  | .loReturn _ => true
  | .relock _ _ => true
  | .hop _ _ _ => true
  | .mWrite _ _ _ => true
  | .bandSelect _ _ => true
  | .lockDeclare _ _ => true
  | .lossOfLock _ _ => true
  | .outEnWrite _ _ _ _ => true
  | .dacUpdate _ => true
  | .dacFrame _ => true
  | .dacCodeWrite _ _ _ => true
  | .boundExchange _ => true
  | .chaefSign _ => true
  | .bandClkLost _ => true
  | .bandClkOk _ _ => true
  | .bandFifoDrop _ _ => true
  | .agcUpdate _ _ => true
  | .jamUpdate _ _ _ => true
  | .spectrumAverage _ spectra => decide (spectra.length = 16) && spectra.all fun l => decide (l.length = 1024)
  | .notchConfigWrite _ _ _ _ _ => true
  | .bandConfigWrite _ _ _ _ => true
  | .acqSubmit _ => true
  | .acqFlush _ => true
  | .acqPassEnd _ _ => true
  | .acqVerifyEnd _ _ => true
  | .acqResultPop _ => true
  | .channelTransition _ _ => true
  | .channelStop _ _ => true
  | .channelOwnerWrite _ _ _ => true
  | .chgClr _ _ _ => true
  | .multipathFit _ _ _ _ => true
  | .channelAllocate _ => true
  | .gnssSolution _ => true
  | .positionSet _ _ => true
  | .snapStart _ => true
  | .snapAbort _ samples => decide (samples.length = 4)
  | .snapCaptureEnd samples => decide (samples.length = 4)
  | .snapProcess _ _ => true
  | .linkUp _ x => decide (x.seen.los < 16)
  | .linkDown _ seen => decide (seen.los < 16)
  | .delayMeasureDone _ rx _ => decide (rx.skews.length = 4)
  | .pcsConfigWrite _ _ _ => true
  | .esmcReceive _ ssm essm => decide (ssm < 16) && (essm.getD 0 |> fun e => decide (e < 256))
  | .esmcTimeout _ => true
  | .esmcTransmit _ => true
  | .esmcEventPdu _ => true
  | .pauseReceive _ f => f.wf
  | .pauseExpire _ _ => true
  | .counterSnapshot _ _ => true
  | .counterSnapshotAll _ _ => true
  | .frameReceive _ f => decide (14 ≤ f.bytes.length) && decide (f.bytes.length ≤ 16384)
  | .fwdEntryCommit _ _ _ _ => true
  | .egressFrameBoundary _ => true
  | .mcAged _ _ => true
  | .pauseRepeat _ _ => true
  | .bridgeTransfer _ _ => true
  | .gateAccept _ _ => true
  | .gateRelease _ => true
  | .lgtBlind _ => true
  | .reportPop _ _ => true
  | .svcEntryCommit _ _ _ _ => true
  | .responderAccept _ => true
  | .requestParse _ _ => true
  | .requestClassify _ _ => true
  | .rateCheck _ _ _ => true
  | .requestVerify _ _ => true
  | .replyBuild _ _ => true
  | .replySeal _ _ => true
  | .lateCheck _ _ => true
  | .ntsMint _ => true
  | .rateClear _ _ => true
  | .hkeyWrite _ _ _ _ => true
  | .announceSend _ _ => true
  | .unicastGrantSend _ _ => true
  | .followUpSend _ => true
  | .signalingRequest _ _ => true
  | .grantExpire _ _ => true
  | .grantRevoke _ _ _ => true
  | .grantCopy _ => true
  | .instanceAnnounce _ _ => true
  | .instanceAnnounceTimeout _ _ => true
  | .instanceSync _ _ => true
  | .instanceDelayReq _ _ _ => true
  | .instanceDelayResp _ _ => true
  | .instanceGrantRenew _ _ => true
  | .instanceConfigWrite _ _ _ _ _ => true
  | .keyLoad _ _ => true
  | .genActivated _ _ => true
  | .genRetire _ _ => true
  | .genRetired _ _ _ => true
  | .keyRetire _ => true
  | .zeroise _ _ _ => true
  | .zeroDone bad => bad.all fun k => decide (k < 256)
  | .tamper _ => true
  | .certRead _ => true
  | .prpHoldExpire _ => true
  | .slvUp _ peer plink => decide (peer < 8) && decide (plink < 4)
  | .slvDown _ => true
  | .flitReceive _ f => f.wf
  | .timeTransfer _ _ _ => true
  | .healthReportReceive _ bytes => decide (bytes.length = 32)
  | .claimSwitch _ _ => true
  | .ilkEvaluate _ => true
  | .mirrorReceive _ record => decide (46 ≤ record.length)
  | .mirrorContextReceive _ c => decide (c.views.length = 16)
  | .stateCopyApply _ _ _ => true
  | .joinStepAdvance _ => true
  | .halfRejoined _ => true
  | .avsReading _ pace vread _ => decide (pace < 4096) && decide (vread < 65536)
  | .avsVsetWrite _ _ _ _ => true
  | .kettleTransfer _ => true
  | .kettleSleep _ _ _ => true
  | .kettleWake _ => true
  | .scrubPass _ _ => true
  | .flashEraseDone _ _ => true
  | .flashStat _ => true
  | .faultDetect _ _ _ => true
  | .safeStateEntry _ => true
  | .faultLogFree _ _ _ => true
  | .firstClear _ _ => true
  | .lostClear _ _ => true
  | .autoHalfReset _ _ => true
  | .otherRst _ _ _ => true
  | .bistGo _ _ => true
  | .bstDone _ => true
  | .bistAbort _ _ => true
  | .samplePreload _ _ => true
  | .privateTest _ _ => true
  | .lcsOwnSet _ => true
  | .lcsField _ => true
  | .lcsScrap _ => true
  | .lcsPassword _ => true
  | .lcsChallenge _ => true
  | .lcsRespond _ => true
  | .lcsClose _ => true
  | .prfGather _ => true
  | .prfDone _ => true
  | .prfRptrWrite _ _ _ => true
  | .prfSizeWrite _ _ _ => true
  | .telUpdate _ _ x => decide (-(2 ^ 31) ≤ x) && decide (x < 2 ^ 32)
  | .telClr _ _ => true
  | .porstRelease i => i.wf
  | .timeSeed _ => true
  | .startRestore _ _ image => image.all fun x => decide (x.1 < 2 ^ 24) && decide (x.2 < 2 ^ 32)
  | .warmReset i => i.wf
  | .hdmProdWrite _ _ _ => true
  | .hdmTxDescriptor _ entry _ => decide (entry.length = 32)
  | .hdmRxFrame _ entry => decide (entry.length = 32)
  | .hdmQueueEnable _ _ _ => true
  | .hdmBmeChange _ => true
  | .hdmDmaError _ _ => true
  | .registerRead _ _ _ => true
  | .insertedSecondStart _ _ _ => true
  | .faultConditionEnd _ _ _ => true
  | .instanceSyncTimeout _ _ => true
  | .peerReportTimeout _ => true
  | .scheduleTakeover => true
  | .settingsCompare => true
  | .leapActivate => true
  | .leapFoldApply => true
  | .selEvaluate => true
  | .voteWindow => true
  | .holdoverSample => true
  | .modelUpdate => true
  | .publishValues => true
  | .boundSample => true
  | .epochOpen => true
  | .dateFloorRecord => true
  | .grantCopyLost => true
  | .purgeDone => true
  | .digestCheck => true
  | .probeInject => true
  | .healthReportSend => true
  | .claimSend => true
  | .claimEvaluate => true
  | .chipAlone => true
  | .chipRejoined => true
  | .kettleBoundUpdate => true
  | .ktlXoFail => true
  | .coreEnRelease => true
  | .extest => true
  | .idcode => true
  | .clamp => true
  | .highz => true
  | .extestPulse => true
  | .extestTrain => true
  | .bypass => true
  | .tapReset => true
  | .challengeExpire => true
  | .coreEnAssert => true
  | .powerOnReset => true
  | .servingEntry => true
  | .pcieReset => true
  | .vaonLoss => true
  | .vddsRemoved => true

end Sys2Proof
end

