-- ==== Sys2Proof/Tests/Slice0.lean ====
section
/-! SUPPORT. Small tests: the well-formedness checks, the manual's worked examples, one step each, and for every statement with
hypotheses the states and operands that meet them. -/

set_option linter.unusedVariables false

open Sys2Proof.Machine

namespace Sys2Proof.Tests

set_option Elab.async false

/-- Both halves serve, with their cores running, their synthesis locked and every timebase at the same count. -/
def up : State :=
  let d : Dev := { half := ⟨{ coresUp := true, restored := true }, { coresUp := true, restored := true }⟩
                   start := { held := false }, bootsOk := true, now := 10000000000
                   pages := [(sysPg, { ready := true })] }
  let at_ (h : Half) (e : Dev) : Dev :=
    (((e.p (redPg h) Reg.RED.RSTAT_HJOIN 0).p (redPg h) Reg.RED.RSTAT_CJOIN 0).p (aplBase h 0) Reg.APL.LSTAT_STATE 2).p (aplBase h 1) Reg.APL.LSTAT_STATE 2
  { State.reset with dev := (at_ .weft (at_ .warp d)).p sysPg Reg.SYS.START_STAT_PHASE 7 }

/-- The state with the powered part changed. -/
def upWith (f : Dev → Dev) : State := up.onDev f

/-- A firmware command waits in a mailbox. -/
def cmd (b op : Nat) (req : List Word) (d : Dev) : Dev :=
  { d with mbx := [(b, { nextId := 2, cur := 1, fw := [⟨1, op, 9, req.length, req, none⟩] })] }

/-- The timebases 0 to n-1 of both halves at a second. -/
def secs (sec : Nat) (d : Dev) : Dev :=
  { d with tbs := (List.range 32).map fun k => (k, { count := sec * secUnit }) }

/-- One leap in the active tables of both halves: from TAI − UTC of 0 to `ofs` at second `eff`. -/
def leapAt (eff ofs : Nat) (d : Dev) : Dev :=
  [Half.warp, .weft].foldl (fun e h => (e.setw (leapPg h + 0x3A0) eff).setw (leapPg h + 0x3A8) (2 ^ 31 + ofs)) d

/-- An armed timed action on TB0 at a second. -/
def armed (h : Half) (e kind target arg sec : Nat) (d : Dev) : Dev :=
  ((d.setw (ttaE h e) (1 + 16 * kind + 2 ^ 16 * target)).setw (ttaE h e + 8) sec).setw (ttaE h e + 0x18) arg

/-- A PTP service of a half that originates messages, with the service entry 0 that names it on every port. -/
def ptpServer (h : Half) (n : Nat) (d : Dev) : Dev :=
  ((d.setw (trsPg h + 8) 1).pb (trsV h n) Reg.TRS.PCFG_EN true |>.setw (trsEnt h 0 + 24) (2 ^ n)).setw (trsEnt h 0 + 28) (2 ^ 31 + 255)

/-- A candidate of both halves, enabled and in a state of R130. -/
def candIn (c st : Nat) (d : Dev) : Dev :=
  [Half.warp, .weft].foldl (fun e h => (e.pb (refQ h c) Reg.REF.CTRL_EN true).p (refQ h c) Reg.REF.CSTAT_STATE st) d

/-- Selector `n` of both halves, with the candidate it has selected, its phase and its target. -/
def selIn (n sel xph tgt : Nat) (d : Dev) : Dev :=
  [Half.warp, .weft].foldl (fun e h => ((e.p (selS h n) Reg.SEL.SSTAT_SEL_C sel).p (selS h n) Reg.SEL.SSTAT_XPH xph).p
    (selS h n) Reg.SEL.SSTAT_TGT_C tgt) d

/-- Loop `k` of a half, enabled and in a state of R158. -/
def loopAt (h : Half) (k st : Nat) (d : Dev) : Dev :=
  (d.pb (dplL h k) Reg.DPL.CTRL_EN true).p (dplL h k) Reg.DPL.LSTAT_STATE st

/-- A band input that is enabled, with its clock. -/
def bandUp (b : Nat) (d : Dev) : Dev := (d.pb (gnfB b) Reg.GNF.BCFG_EN true).pb (gnfB b) Reg.GNF.BSTAT_CLK_OK true

/-- A channel of a band in a state of R237. -/
def chanIn (c st b : Nat) (d : Dev) : Dev :=
  (d.p (gntC c) Reg.GNT.CSTAT_STATE st).p (gntC c) Reg.GNT.CCFG_BAND b

/-- A port whose link is up in a mode, with its delays measured. -/
def linked (p mode : Nat) (d : Dev) : Dev :=
  ((d.p (pcsPg p) Reg.PCS.PCFG_MODE mode).pb (pcsPg p) Reg.PCS.PSTAT_LINK_UP true).pb (pcsPg p) Reg.PCS.PSTAT_DLY_VALID true

/-- An NTP service entry of a half for 10.0.0.1 on every port. -/
def ntpEnt (h : Half) (a : Nat) (d : Dev) : Dev :=
  ((d.setw (trsEnt h a + 12) 0x0A000001).setw (trsEnt h a + 24) (2 ^ 23)).setw (trsEnt h a + 28) (2 ^ 31 + 255)

/-- An NTP request to such an entry. -/
def ntpReq : List Byte := probeBytes [0, 0, 0, 0x0A000001, 0, 0, 2 ^ 23, 2 ^ 31 + 255]

/-- The words of that entry. -/
def ntpWords : List Nat := [0, 0, 0, 0x0A000001, 0, 0, 2 ^ 23, 2 ^ 31 + 255]

/-- A PTP message over Ethernet from source port 7 of a clock, by type, flags, sequence number and what follows the header. -/
def ptpMsg (type flags seq log : Nat) (rest : List Byte) : List Byte :=
  bytesBE 6 0x011B19000000 ++ bytesBE 6 0x020000000001 ++ bytesBE 2 0x88F7 ++ bytesBE 1 type ++ bytesBE 1 2 ++
    bytesBE 2 (34 + rest.length) ++ bytesBE 2 0 ++ bytesBE 2 flags ++ bytesBE 12 0 ++ bytesBE 8 0xA1 ++ bytesBE 2 7 ++ bytesBE 2 seq ++
    bytesBE 1 0 ++ bytesBE 1 log ++ rest

/-- A descriptor with both ingress values at an instant in 2^-32 ns. -/
def descAt (p t : Nat) : Desc := { ing0 := t, ing1 := t, v0 := true, v1 := true, port := p }

/-- That request in a stage of the responder, classified at second 9 at port 0. -/
def ntpAt (st : Stage) : Req :=
  { id := 3, desc := descAt 0 (9000000000 * 2 ^ 32), bytes := ntpReq, entNo := 0, ent := ntpWords, stage := st }

/-- A request in Warp's responder. -/
def withReq (r : Req) (d : Dev) : Dev := { d with resp := ⟨{ reqs := [r], nextId := 9 }, {}⟩ }

/-- A frame for a port's gate at an instant in ns. -/
def gframe (port t : Nat) (src : GSrc := .reply false) : GFrame :=
  { id := 1, port := port, src := src, t := t, mean := 0, body := .raw (List.replicate 60 7) none false, fixes := [], gen := 0 }

/-- A client instance of Warp at port 0 over Ethernet, on service 1, with messages handed to it at second 9. -/
def client (k : Nat) (msgs : List (List Byte)) (st : InstSt) (d : Dev) : Dev :=
  { ((d.pb (trsV .warp 1) Reg.TRS.PCFG_EN true).pb (trsV .warp 1) Reg.TRS.PCFG_ROLE true).p (trsV .warp 1) Reg.TRS.PCFG_CLIENT k with
    insts := [(k, { st with rx := msgs.map fun b => (descAt 0 (9000000000 * 2 ^ 32), b) })] }

/-- The master that sends those messages. -/
def master : Foreign := ⟨bytesBE 8 0xA1 ++ bytesBE 2 7, [], 6, 0x20, 0, none, 0, 9000000000 * 2 ^ 32, 0x020000000001⟩

/-- The blob of a key for slot 5 under the root in slot 2, with its flags. -/
def blob (flags : Nat) : List Word :=
  [0x4B424C31, BitVec.ofNat 32 (0x05020100 + flags), 0x00010000] ++ List.replicate 25 0

/-- A root key in slot 2 of both halves. -/
def rooted (d : Dev) : Dev := { d with cads := ⟨{ slots := [(2, { valid := true })] }, { slots := [(2, { valid := true })] }⟩ }

/-- The chip's place among others: the number of chips and its own number, in both halves. -/
def topo (n i : Nat) (d : Dev) : Dev :=
  [Half.warp, .weft].foldl (fun e h => (e.p (redPg h) Reg.RED.TOPO_N n).p (redPg h) Reg.RED.TOPO_CHIPID i) d

/-- Page MAC 0 as the target of a half's self-test. -/
def bstMac (h : Half) (d : Dev) : Dev := d.p (bstPg h) Reg.BST.BTARGET_TYPE Page.mac.code

/-- A host DMA queue that is enabled, with a descriptor posted. -/
def queueOn (q : Nat) (d : Dev) : Dev :=
  ((d.pb (hdmQ q) Reg.HDM.QCFG_EN true).p (hdmQ q) Reg.HDM.PROD 1).pb hdmPg Reg.HDM.HSTAT true

/-- A transmit descriptor of 60 bytes for a port's gate at second 9. -/
def txDesc (mode port : Nat) : List Byte :=
  List.replicate 8 0 ++ [60, 0, BitVec.ofNat 8 (4 + mode), BitVec.ofNat 8 port, 7, 0, 0, 0, 9] ++ List.replicate 15 0

/-- What a good start finds. -/
def goodStart : StartIn := ⟨⟨true, true⟩, 1, none, ⟨10000000, 20000000⟩, ⟨0, 0⟩, false, [], []⟩

/-- The device after a command. -/
def run (i : Instr) (s : State) : Dev := match exec i s with | .next t => t.dev | _ => s.dev

/-! ### Ill-formed terms are refused, one for each check -/

/-- A register write brings as many words as its access carries (R43). -/
theorem test_wf_registerWrite : (Instr.registerWrite .pf0 0 (.narrow .b64) [1]).wf = false ∧
    (Instr.registerWrite .pf0 0 (.narrow .b32) [1, 2]).wf = false ∧ (Instr.registerWrite .pf0 0 (.burst 12) [1, 2]).wf = false ∧
    (Instr.registerWrite .pf0 0 (.burst 12) [1, 2, 3]).wf = true := by decide

/-- An SPI frame is a read exactly if its command byte is 0x03 (R61). -/
theorem test_wf_spi : (Instr.spiWriteFrame [3, 0, 0, 0]).wf = false ∧ (Instr.spiReadFrame [2, 0, 0, 0] 1).wf = false ∧
    (Instr.spiReadFrame [] 0).wf = false ∧ (Instr.spiWriteFrame [2]).wf = true := by decide

/-- Measured phases fit 48 bits (R13). -/
theorem test_wf_phase : (Instr.domOfsUpdate .warp 2 (2 ^ 47)).wf = false ∧ (Instr.domOfsUpdate .warp 2 (1 - 2 ^ 47)).wf = true := by decide

/-- Channel and capture point numbers exist. -/
theorem test_wf_numbers : (Instr.ttaControl .warp 1 [⟨256, 0, 0, 0, 0, 0, false⟩]).wf = false ∧
    (Instr.tempCompensate .warp [(80, 0)]).wf = false ∧ (Instr.zeroDone [256]).wf = false ∧ (Instr.zeroDone [255]).wf = true := by
  decide

/-- Lists have an entry for each sensor, bin and band. -/
theorem test_wf_lists : (Instr.tempRead [none, none, none]).wf = false ∧ (Instr.spectrumAverage 0 [[1]]).wf = false ∧
    (Instr.snapAbort .pf0 []).wf = false ∧ (Instr.snapCaptureEnd [[], [], []]).wf = false := by decide

/-- A link has four lanes at most, and SSM codes have four bits. -/
theorem test_wf_port : (Instr.linkUp 0 ⟨⟨true, true, false, false, false, 16⟩, 0⟩).wf = false ∧
    (Instr.linkDown 0 ⟨true, true, false, false, false, 16⟩).wf = false ∧ (Instr.esmcReceive 0 16 none).wf = false ∧
    (Instr.esmcReceive 0 2 (some 256)).wf = false := by decide

/-- Flow-control quanta have 16 bits, and PFC eight classes. -/
theorem test_wf_flow : (Instr.pauseReceive 0 (.pause 65536)).wf = false ∧ (Instr.pauseReceive 0 (.pfc 256 (List.replicate 8 0))).wf = false ∧
    (Instr.pauseReceive 0 (.pfc 1 [5])).wf = false ∧ (Instr.pauseReceive 0 (.pfc 1 (List.replicate 8 65536))).wf = false := by decide

/-- A frame has an Ethernet header and fits the buffers. -/
theorem test_wf_frame : (Instr.frameReceive 0 ⟨List.replicate 13 0, false, false, false, 0, 0, 0, false, false, 0, 0, 0⟩).wf = false ∧
    (Instr.frameReceive 0 ⟨List.replicate 16385 0, false, false, false, 0, 0, 0, false, false, 0, 0, 0⟩).wf = false := by
  decide +kernel

/-- Selvedge links name chips, links, classes and fixed records. -/
theorem test_wf_selvedge : (Instr.slvUp 0 8 0).wf = false ∧ (Instr.slvUp 0 0 4).wf = false ∧
    (Instr.flitReceive 0 (.intact 2 [])).wf = false ∧ (Instr.flitReceive 0 (.intact 0 [⟨8, 0, 0⟩])).wf = false ∧
    (Instr.flitReceive 0 (.intact 0 [⟨1, 2 ^ 32, 0⟩])).wf = false ∧ (Instr.healthReportReceive 0 [0]).wf = false ∧
    (Instr.mirrorReceive 0 (List.replicate 45 0)).wf = false ∧ (Instr.mirrorContextReceive 0 ⟨0, 0, [], 0⟩).wf = false := by decide

/-- Converter results fit their registers. -/
theorem test_wf_readings : (Instr.avsReading .warp 4096 0 true).wf = false ∧ (Instr.avsReading .warp 0 65536 true).wf = false ∧
    (Instr.telUpdate .warp 0 (2 ^ 32)).wf = false ∧ (Instr.telUpdate .warp 0 (-(2 ^ 31) - 1)).wf = false := by decide

/-- A start reads three CHIPID balls and two patch slots, and an image holds words at addresses. -/
theorem test_wf_start : (Instr.porstRelease ⟨⟨true, true⟩, 8, none, ⟨0, 0⟩, ⟨0, 0⟩, false, [(true, 1), (true, 1)], []⟩).wf = false ∧
    (Instr.warmReset goodStart).wf = false ∧ (Instr.startRestore ⟨true, true⟩ true [(2 ^ 24, 0)]).wf = false ∧
    (Instr.startRestore ⟨true, true⟩ true [(0, 2 ^ 32)]).wf = false := by decide

/-- DMA entries have 32 bytes (R528). -/
theorem test_wf_dma : (Instr.hdmTxDescriptor 0 [] []).wf = false ∧ (Instr.hdmRxFrame 0 []).wf = false := by decide

/-! ### Worked examples of the manual -/

/-- The example under R35: the pages of capture-point group 3 of Weft and of tracking-channel page 7. -/
theorem test_page_addresses : pageAddr .tdc .weft 3 = 0x17B000 ∧ pageAddr .gnt .warp 7 = 0x227000 := by decide

/-- The example under R51: 0x8003_0017 is read, a fourth occurrence arrives, a stale clear fails and the next succeeds. -/
theorem test_event_word_clear : (⟨true, false, 3, 0x17⟩ : EvtWord).word = 0x80030017 ∧
    ((⟨true, false, 3, 0x17⟩ : EvtWord).occur.ack 0x17 false).word = 0x80040018 ∧
    ((⟨true, false, 3, 0x17⟩ : EvtWord).occur.ack 0x18 false).word = 0x00000018 := by decide

/-- The example under R526: source 171 covers EVT2 to EVT5 of Weft's PCS page index 1. -/
theorem test_event_source_171 : sourceWords 171 = [(0x319000, 0x3C)] := by decide +kernel

/-- The example under R27: the mean of two ingress values, the default lead, the next multiple of 8 ns. -/
theorem test_launch_instant_of_two_values :
    (Desc.mean { ing0 := 417382905214 * 2 ^ 32 / 1000, ing1 := 417382905238 * 2 ^ 32 / 1000, v0 := true, v1 := true }).map (launchOf · 1500) =
      some 417384408 := by decide

/-- The example under R314: the odd sum of FRACs is halved downward, and the launch instant crosses into the next second. -/
theorem test_launch_instant_at_second :
    let e := 1830000123999998497 * 2 ^ 32
    Desc.mean { ing0 := e + 0x20000001, ing1 := e + 0x2A000000, v0 := true, v1 := true } = some (e + 0x25000000) ∧
      launchOf (e + 0x25000000) 1500 = 1830000124000000000 := by decide

/-- The example under R100: an edge of C1 2,004, C2 4,012 and Ce 3,129 is stamped 6.241 036 ns before the stop tick. -/
theorem test_edge_stamp :
    let s := stampOf (countOf 1830000000 250000011 + 482 * nsUnit / 1000) (4 * nsUnit) 2004 4012 3129
    s / secFrac = 1830000000 ∧ s % secFrac * 10 ^ 6 / 2 ^ 32 = 250000005240964 := by decide

/-- The example under R81: the window of a centred smear of 1440 minutes, and the smeared and plain UTC at a quarter of it. -/
theorem test_smear_at_a_quarter :
    let t : LeapTab := ⟨37, [(1830297638, 38)]⟩
    let w : SmearWin := { eff := 1830297638, ofs := 38, prev := 37, len := 86400, ts := smearStart 0 1830297638 86400 1 }
    let c := 1830276037 * secFrac + secFrac / 4
    w.ts = 1830254437 ∧ w.stop = 1830340838 ∧ smearView t (fun _ => w) c = 1830276000 * secFrac ∧
      utcView t c = 1830276000 * secFrac + secFrac / 4 := by decide +kernel

/-- The worked NTS exchange after R365: the receive and transmit timestamps. -/
theorem test_ntp_timestamps : ntpStamp (1830000000 - 37, 417382905, 226 * 2 ^ 32 / 1000) = (0xF0BE13DB, 0x6AD99B27) ∧
    ntpStamp (1830000000 - 37, 417384408, 0) = (0xF0BE13DB, 0x6AD9B45E) := by decide

/-- R83: NTP seconds wrap to 0 at scaled UTC second 2,085,978,496. -/
theorem test_ntp_era : ntpStamp (2085978496, 0, 0) = (0, 0) ∧ ntpStamp (2085978495, 0, 0) = (0xFFFFFFFF, 0) := by decide

/-- The worked bound after R217: the published value, its wire fields, and those of the bound after eight hours of holdover. -/
theorem test_worked_bound : satSum [4500, 0, deviceTerm 12, 626, 0, grown 100 (353020000 * nsUnit), 15, 0] = 5327 ∧
    joinBound 5321 5327 19 = 5346 ∧ rootDispersion 5346 = 1 ∧ clockAccuracy 5346 = 0x1F ∧ scaledLogVariance 5346 = 0x45E0 ∧
    clockAccuracy 27615 = 0x21 ∧ scaledLogVariance 27615 = 0x4A9D := by decide +kernel

/-- The model coefficients and the temperature of the example under R171. -/
def heldOver (d : Dev) : Dev :=
  let b := hldPg .warp
  let e := (((d.p b Reg.HLD.SIG_Y 200).p b Reg.HLD.SIG_D 1).p b Reg.HLD.SIG_K 5).p b Reg.HLD.ADEV 100
  { e with hold := ⟨{ e.hm .warp with sensors := [(0, (some 20000, 0))] }, {}⟩ }

/-- The example under R171: HUNC after 28,800 s. -/
theorem test_holdover_uncertainty : (upWith heldOver).dev.modelUnc .warp 2000 (28800 * secUnit) = 22269 := by decide +kernel

/-- The example under R183 to R197: fV of 11,796.48 MHz from 10 GHz takes 1179 + 81/125 of M0 1000; 9.79 and 12.81 GHz are refused. -/
theorem test_synthesis_ratio :
    let d := (upWith fun d => (d.p (aplBase .weft 0) Reg.APL.M_INT_FIXN 20).setApl .weft 0 { mint := 1000, mnum := 0, mden := 1 }).dev
    d.ratioBad .weft 1179 81 125 = false ∧ ((d.putRatio .weft 1179 81 125).apl .weft 1).num * 1000 = 1179648 * 125 ∧
      d.ratioBad .weft 980 0 1 = false ∧ d.ratioBad .weft 979 99 100 = true ∧ d.ratioBad .weft 1280 1 100 = true := by decide +kernel

/-- The example under R234: a search of 51 bins of 16,368 cells takes 51 passes. -/
theorem test_acquisition_passes : codeCells 4 = 16368 ∧
    AcqJob.passes ⟨4, 11, 0, false, 0, 0, 0, 0, 0, 4000, 160, 4, 2, 0, true⟩ = 51 := by decide

/-- The example under R257: NBUDGET of a DUAL solution with 410 ps, 60 mm and CALUNC 1,000 ps. -/
theorem test_solution_budget : (upWith fun d => d.p gnsPg Reg.GNS.CALUNC 1000).dev.solBudget 2 410 60 = 4201 := by decide +kernel

/-- Three bands as in the example under R266. -/
def threeBands (d : Dev) : Dev :=
  [(0, 1, 100000000), (1, 0, 40000000), (2, 1, 100000000)].foldl (fun e x =>
    (e.p (gnfB x.1) Reg.GNF.BCFG_FMT x.2.1).p (gnfB x.1) Reg.GNF.SRATE x.2.2) d

/-- The example under R266: 20 ms do not fit, and the regions of 19 ms. -/
theorem test_snapshot_regions : (upWith threeBands).dev.snapLength 7 20 = 19 ∧
    (upWith threeBands).dev.snapLayout 7 19 = ([(0, 0), (1, 1900032), (2, 2280192)], 4180192) := by decide +kernel

/-- The example under R304: the residence of a Sync on the transparent-clock path. -/
theorem test_residence :
    let m : Nat := 250000101 * 2 ^ 32 + 2 ^ 29
    launchOf m 2000 = 250002104 ∧ 0x18000 + corrUnits (250002104 * 2 ^ 32 - m) = 0x07D46000 := by decide

/-- The example under R443: KBOUND after six hours of sleep. -/
theorem test_kettle_bound : kbound 5346 2000 0 (21600 * ticks1s) = 43200016 := by decide

/-! ### One step -/

/-- A step takes the front command and keeps the rest (R12, R57): EVT_MASK of a TSU page is written. -/
theorem test_step_writes_mask :
    (match step { up with pending := [.registerWrite .pf0 (BitVec.ofNat 24 (tsuPg .warp 0 + 0x1C)) (.narrow .b32) [0xFF], .selEvaluate] } with
      | .next t => decide (t.dev.w (tsuPg .warp 0 + 0x1C) = 0xFF) && decide (t.pending = [.selEvaluate])
      | _ => false) = true := by decide +kernel

/-- A user's write of a privileged register is refused and recorded: KIND 6, MASTER 1 (R57, R58). -/
theorem test_user_write_recorded : (run (.step .pf1 .warp 3) up).g sysPg Reg.SYS.ACCERR_INFO_KIND = 6 ∧
    (run (.step .pf1 .warp 3) up).g sysPg Reg.SYS.ACCERR_INFO_MASTER = 1 ∧
    (run (.step .pf1 .warp 3) up).gb sysPg Reg.SYS.ACCERR_INFO_VALID = true := by decide +kernel

/-- The example under R503: at second 8 the initial step by −3,718,443 ns is programmed for the next second boundary. -/
theorem test_initial_step :
    let d := (upWith (secs 8)).dev.initialStep 0 3718442600
    d.g (tsuB .warp 0) Reg.TSU.SET_SEC_LO = 8 ∧ d.g (tsuB .weft 0) Reg.TSU.SET_NSEC = 996281557 := by decide +kernel

/-- A word without bits spells no command. -/
theorem test_no_word_decodes : decodeTableWord 32 0xFFFFFFFF = none := by decide

/-! ### States and operands that meet the hypotheses of each statement

One conjunct stands for each case of a statement that has hypotheses, by its place in it. Where a hypothesis is an answer of a cipher,
a constant that nothing evaluates, the conjunct leaves that one out. -/

/-- What holds of every half holds of Warp and of Weft. -/
theorem forall_half {p : Half → Prop} : (∀ h, p h) ↔ p .warp ∧ p .weft :=
  ⟨fun h => ⟨h _, h _⟩, fun h e => by cases e; exacts [h.1, h.2]⟩

theorem forall_some2 {α β : Type} {o : Option (α × β)} {p : α → β → Prop} :
    (∀ a b, o = some (a, b) → p a b) ↔ ∀ z ∈ o, p z.1 z.2 :=
  ⟨fun h z hz => h _ _ hz, fun h a b e => h (a, b) e⟩

theorem forall_some3 {α β γ : Type} {o : Option (α × β × γ)} {p : α → β → γ → Prop} :
    (∀ a b c, o = some (a, b, c) → p a b c) ↔ ∀ z ∈ o, p z.1 z.2.1 z.2.2 :=
  ⟨fun h z hz => h _ _ _ hz, fun h a b c e => h (a, b, c) e⟩

theorem forall_some4 {α β γ δ : Type} {o : Option (α × β × γ × δ)} {p : α → β → γ → δ → Prop} :
    (∀ a b c d, o = some (a, b, c, d) → p a b c d) ↔ ∀ z ∈ o, p z.1 z.2.1 z.2.2.1 z.2.2.2 :=
  ⟨fun h z hz => h _ _ _ _ hz, fun h a b c d e => h (a, b, c, d) e⟩

theorem exists_some2 {α β : Type} {o : Option (α × β)} {p : α → β → Prop} :
    (∃ a b, o = some (a, b) ∧ p a b) ↔ ∃ z ∈ o, p z.1 z.2 :=
  ⟨fun ⟨a, b, h⟩ => ⟨(a, b), h⟩, fun ⟨z, h⟩ => ⟨z.1, z.2, h⟩⟩

theorem exists_some3 {α β γ : Type} {o : Option (α × β × γ)} {p : α → β → γ → Prop} :
    (∃ a b c, o = some (a, b, c) ∧ p a b c) ↔ ∃ z ∈ o, p z.1 z.2.1 z.2.2 :=
  ⟨fun ⟨a, b, c, h⟩ => ⟨(a, b, c), h⟩, fun ⟨z, h⟩ => ⟨z.1, z.2.1, z.2.2, h⟩⟩

theorem forall_bind {α β : Type} {o : Option α} {f : α → Option β} {p : α → β → Prop} :
    (∀ a b, o = some a → f a = some b → p a b) ↔ ∀ a ∈ o, ∀ b ∈ f a, p a b :=
  ⟨fun h a ha b hb => h a b ha hb, fun h a b e => h a e b⟩

/-- A request in Rate check with a rate of 10, a burst of 5 and a third word of its profile. -/
def limitedReq (k : Nat) : Req := { ntpAt .rate with prof := [10, 5, k] }

/-- The bucket of its source. -/
def limitedIdx (k : Nat) : Nat := (withReq (limitedReq k) up.dev).bucketIdx .warp (entBits (limitedReq k).ent 6 20 2)
  (msgOf (limitedReq k).bytes) ((limitedReq k).prof[2]?.getD 0)

/-- That request with five 65,536ths of a token left to its source (R351). -/
def limited (k : Nat) : State :=
  upWith fun d => (withReq (limitedReq k) d).setBucket .warp (limitedIdx k) { tok := 5, last := 8999999999 * 2 ^ 32 }

theorem limited_serving (k i : Nat) : (limited k).dev.bucketServing .warp i = some i := by
  have h : (limited k).dev.banksOut .warp = [] := rfl
  simp [Dev.bucketServing, h]

theorem limited_bucket (k : Nat) : (limited k).dev.bucket .warp (limitedIdx k) = { tok := 5, last := 8999999999 * 2 ^ 32 } := by
  show (Dev.setBucket _ .warp _ _).bucket .warp _ = _
  simp [Dev.bucket, Dev.setBucket, tget, tset]

theorem bucketIdx_setBucket (d : Dev) (h : Half) (i : Nat) (b : Bucket) (k : Half) (pr : Nat) (m : Msg) (pfx : Nat) :
    (d.setBucket h i b).bucketIdx k pr m pfx = d.bucketIdx k pr m pfx := rfl

theorem limited_idx (k : Nat) : (limited k).dev.bucketIdx .warp (entBits (limitedReq k).ent 6 20 2) (msgOf (limitedReq k).bytes)
    ((limitedReq k).prof[2]?.getD 0) = limitedIdx k := bucketIdx_setBucket (withReq (limitedReq k) up.dev) .warp (limitedIdx k) _ ..

theorem find?_full (g : Grant) (n i k : Nat) (h : n ≤ i) (hk : i < n + k) :
    Tab.find? ((List.range' n k).map fun j => (j, g)) i = some g := by
  induction k generalizing n with
  | zero => omega
  | succ k ih =>
    simp only [List.range'_succ, List.map_cons, Tab.find?]
    split
    · rfl
    · exact ih (n + 1) (by omega) (by omega)

/-- A table of grants with no free entry. -/
def fullTable : Tab Grant := (List.range' 0 4096).map fun j => (j, { active := true, mtype := 1 })

/-- A REQUEST_UNICAST_TRANSMISSION to service 2 for a message type's nibble. -/
def asking (cfg : List Nat) : Req :=
  { ntpAt .build with kind := .signaling, svc := 2, cfg := cfg
                      bytes := ptpMsg 0xC 0 5 0 (List.replicate 10 255 ++ bytesBE 2 4 ++ bytesBE 2 6 ++ [0x90, 0, 0, 0, 0, 60]) }

/-- That request with a full grant table. -/
def fullGrants : State :=
  upWith fun d => { ptpServer .warp 2 (withReq (asking (List.replicate 8 0xFFFFFFFF)) (secs 9 d)) with grants := fullTable }

theorem fullGrants_active (n : Nat) (h : n < 4096) : (fullGrants.dev.grant .warp n).active = true := by
  have e : fullGrants.dev.grant .warp n = (Tab.find? fullTable n).getD {} := by
    show (Tab.find? fullTable (0 * 4096 + n)).getD {} = _
    rw [Nat.zero_mul, Nat.zero_add]
  rw [e, fullTable, find?_full _ 0 n 4096 (Nat.zero_le _) (by omega)]; rfl

theorem fullGrants_other (c : Grant) : fullGrants.dev.grantOf .warp c 2 = none := by
  show (List.find? _ fullTable).map _ = none
  rw [Option.map_eq_none_iff, List.find?_eq_none]
  intro e he
  obtain ⟨j, -, rfl⟩ := List.mem_map.1 he
  simp

/-- A device whose Weft holds a mirror context of chip 0 (R424). -/
def withContext (sum : Nat) (d : Dev) : Dev := { d with red := ⟨{}, { ctxs := [(0, [⟨0, 7, [], sum⟩])] }⟩ }

theorem withContext_sum (x : Nat) (d : Dev) : (withContext x d).cfgSum = d.cfgSum := rfl

/-- Weft accepts mirrored requests for an NTP entry. -/
def accepting : Dev := ntpEnt .weft 3 ((topo 4 1 (up.dev.pb (slvL 2) Reg.SLV.LSTAT_UP true)).pb (redPg .weft) Reg.RED.MIRROR_ACCEPT true)

theorem withContext_g (x : Nat) (d : Dev) (b : Nat) (f : Fld) : (withContext x d).g b f = d.g b f := rfl

theorem withContext_origin (x : Nat) (d : Dev) : (withContext x d).originCtx .weft 0 0 = some ⟨0, 7, [], x⟩ := by
  simp [withContext, Dev.originCtx, tget, Tab.get, Tab.find?, Pair.of]

theorem accepting_origin : (withContext accepting.cfgSum accepting).originCtx .weft
    ((withContext accepting.cfgSum accepting).g (slvL 2) Reg.SLV.LSTAT_PEER_ID) (descOf (List.replicate 32 0 ++ ntpReq)).epoch =
      some ⟨0, 7, [], accepting.cfgSum⟩ := by
  have h1 : accepting.g (slvL 2) Reg.SLV.LSTAT_PEER_ID = 0 := by decide +kernel
  have h2 : (descOf (List.replicate 32 0 ++ ntpReq)).epoch = 0 := by decide +kernel
  rw [withContext_g, h1, h2]
  exact withContext_origin ..

theorem witness_EmptyQueueTicks : up.pending = [] := by decide +kernel

theorem witness_ResetLeavesBlockEnabledAndQuiet :
    /- 2 -/ (∃ (pg : Nat), pageExists pg = true ∧ pageOff pg = 0) ∧
    /- 3 -/ (∃ (pg : Nat), pageExists pg = true ∧ pageOff pg = 0) :=
  ⟨⟨0, by decide +kernel⟩,
    ⟨0, by decide +kernel⟩⟩

theorem witness_JournalNeverGoesBack : ∃ s t : State, s.nv.lifecycle ≤ 5 ∧ step s = .next t :=
  ⟨{ up with nv := { lifecycle := 2, boots := 7, retired := [3] }, pending := [.settingsCompare] }, _, by decide +kernel, rfl⟩

theorem witness_NoKeyRecordOutlivesItsIntent : ∃ s t : State, s.nv.noGhost ∧ s.nv.keys ≠ [] ∧ step s = .next t :=
  ⟨{ up with nv := { keys := [(5, ([], []))], intents := [6] }, pending := [.zeroise .pf0 .warp 0x05050000] }, _,
    by unfold NV.noGhost; decide +kernel, by decide +kernel, rfl⟩

theorem witness_OnlyNamedCommandsTouchJournal : ∃ (c : Instr) (s t : State), exec c s = .next t := ⟨.accerrClear .pf0, up, _, rfl⟩

theorem witness_RefusedWriteRecordsFirstErrorUntilCleared :
    /- 1 -/ (∃ (m : Master) (h : Half) (n : Fin 16) (s : State), (s.dev.accessError m (tsuB h n.val) true).isSome = true) ∧
    /- 2 -/ (∃ (m : Master) (s : State), s.writable m (sysPg + 0x108)) :=
  ⟨⟨.spi, .warp, 7, State.reset, by decide +kernel⟩,
    ⟨.spi, up, by unfold State.writable; decide +kernel⟩⟩

theorem witness_FabricWriteTakesEffectAtPage :
    /- 1 -/ (∃ (m : Master) (a : BitVec 24) (v : Word) (s : State), pageOff a.toNat = 0x1C ∧ s.writable m a.toNat) ∧
    /- 2 -/ (∃ (a2 : Byte) (a1 : Byte) (a0 : Byte) (d3 : Byte) (d2 : Byte) (d1 : Byte) (d0 : Byte) (s : State), pageOff (natOfBE [a2, a1,
        a0]) = 0x1C ∧ s.writable .spi (natOfBE [a2, a1, a0])) :=
  ⟨⟨.spi, BitVec.ofNat 24 (tsuPg .weft 4 + 0x1C), 20#32, up, by unfold State.writable; decide +kernel⟩,
    ⟨BitVec.ofNat 8 (tsuPg .warp 0 / 65536), BitVec.ofNat 8 (tsuPg .warp 0 / 256), 0x1C#8, 1#8, 2#8, 3#8, 4#8, up,
      by unfold State.writable; decide +kernel⟩⟩

theorem witness_FabricReadAnswersWithoutSideEffect :
    /- 1 -/ (∃ (m : Master) (a : BitVec 24) (s : State), a.toNat % 4 = 0 ∧ s.dev.accessError m a.toNat false = none) ∧
    /- 2 -/ (∃ (m : Master) (a : BitVec 24) (s : State), pageOff a.toNat = 0 ∧ s.dev.accessError m a.toNat false = none) ∧
    /- 3 -/ (∃ (a2 : Byte) (a1 : Byte) (a0 : Byte) (wait : Nat) (s : State),
      let a := natOfBE [a2, a1, a0]
      a % 4 = 0 ∧ s.dev.accessError .spi a false = none ∧ rlGroup a = none) ∧
    /- 4 -/ (∃ (a2 : Byte) (a1 : Byte) (a0 : Byte) (s : State), pageOff (natOfBE [a2, a1, a0]) = 0 ∧ s.dev.accessError .spi (natOfBE [a2, a1,
        a0]) false = none) ∧
    /- 5 -/ (∃ (m : Master) (a : BitVec 24) (s : State), ∃ z ∈ (rlGroup a.toNat), rlGroup z.1 = some (z.1, z.2) ∧ z.1 % 4 = 0 ∧ 0 < z.2 ∧ (∀ i < z.2,
        ∀ j < z.2, latchKey m (z.1 + 4 * i) = latchKey m (z.1 + 4 * j) → i = j) ∧ s.dev.accessError m z.1 false = none) ∧
    /- 6 -/ (∃ (m : Master) (a : BitVec 24) (s : State), pageOff a.toNat = 0x0C0 ∧ s.dev.accessError m a.toNat false = none) :=
  ⟨⟨.fw .weft, BitVec.ofNat 24 (tsuPg .weft 0), up, by decide +kernel⟩,
    ⟨.fw .weft, BitVec.ofNat 24 (tsuPg .weft 0), up, by decide +kernel⟩,
    ⟨3#8, 7, 0, 0, up, by dsimp only; decide +kernel⟩,
    ⟨0, 0, 0, up, by decide +kernel⟩,
    ⟨.fw .warp, BitVec.ofNat 24 (evcPg + 0xC0), up, by decide +kernel⟩,
    ⟨.fw .warp, BitVec.ofNat 24 (evcPg + 0xC0), up, by decide +kernel⟩⟩

theorem witness_HeaderAndVectorWrites :
    /- 1 -/ (∃ (m : Master) (a : BitVec 24) (v : Word) (s : State), s.writable m (pageBase a.toNat + 0x18)) ∧
    /- 2 -/ (∃ (m : Master) (v : Word) (s : State), s.writable m (evcPg + 0x284)) ∧
    /- 3 -/ (∃ (m : Master) (a : BitVec 24) (n : Fin 8) (v : Word) (s : State), n.val < counters (pageBase a.toNat) ∧
        s.writable m (pselAddr (pageBase a.toNat) n.val)) ∧
    /- 5 -/ (∃ (d : Dev) (pg : Nat) (k : Nat) (q : Nat) (j : Nat), q + j ≠ pg + k) :=
  ⟨⟨.pf0, BitVec.ofNat 24 sysPg, 0x20005, upWith fun d => { d with evts := [(sysPg + 2, ⟨true, true, 3, 5⟩)] },
      by unfold State.writable; decide +kernel⟩,
    ⟨.spi, 3#32, up, by unfold State.writable; decide +kernel⟩,
    ⟨.spi, 3#24, 2, 12#32, up, by unfold State.writable; decide +kernel⟩,
    ⟨up.dev, 70, 0, 2, 5, by decide +kernel⟩⟩

theorem witness_PowerStatesFollowToleranceAndWork :
    /- 1 -/ (∃ (a : BitVec 24) (idle : Nat) (s : State), pageExists a.toNat = true) ∧
    /- 2 -/ (∃ (a : BitVec 24) (s : State), pageExists a.toNat = true ∧ (
        let pg := pageBase a.toNat
        (s.dev.page pg).pstate ≠ 0 ∧ (s.dev.page pg).pstate ≠ 3)) ∧
    /- 3 -/ (∃ (a : BitVec 24) (s : State), pageExists a.toNat = true ∧ (
        let pg := pageBase a.toNat
        (s.dev.page pg).pstate ≠ 0 ∧ (s.dev.page pg).pstate = 3)) ∧
    /- 4 -/ (∃ (a : BitVec 24) (s : State), pageExists a.toNat = true ∧ (s.dev.page (pageBase a.toNat)).pstate = 0) ∧
    /- 5 -/ (∃ (m : Master) (a : BitVec 24) (v : Word) (s : State),
      let pg := pageBase a.toNat
      s.writable m (pg + 0x10) ∧ s.dev.shellOnly pg = false ∧ (s.dev.page pg).pstate < 3) ∧
    /- 6 -/ (∃ (m : Master) (a : BitVec 24) (v : Word) (s : State),
      let pg := pageBase a.toNat
      s.writable m (pg + 0x10) ∧ s.dev.shellOnly pg = false ∧ (s.dev.page pg).pstate = 3) ∧
    /- 7 -/ (∃ (m : Master) (a : BitVec 24) (v : Word) (s : State),
      let pg := pageBase a.toNat
      s.writable m (pg + 0x10) ∧ s.dev.shellOnly pg = true) :=
  ⟨⟨BitVec.ofNat 24 (aegPg .warp), 2 ^ 62, up, by decide +kernel⟩,
    ⟨BitVec.ofNat 24 (tdcPg .warp 0), upWith fun d => d.setPage (tdcPg .warp 0) { pstate := 2 }, by dsimp only; decide +kernel⟩,
    ⟨BitVec.ofNat 24 (tdcPg .warp 0), upWith fun d => d.setPage (tdcPg .warp 0) { pstate := 3 }, by dsimp only; decide +kernel⟩,
    ⟨BitVec.ofNat 24 (aegPg .warp), up, by decide +kernel⟩,
    ⟨.spi, 3#24, 1#32, up, by dsimp only; unfold State.writable; decide +kernel⟩,
    ⟨.pf0, BitVec.ofNat 24 (tdcPg .warp 0), 0, upWith fun d => d.setPage (tdcPg .warp 0) { pstate := 3 },
      by dsimp only; unfold State.writable; decide +kernel⟩,
    ⟨.fw .weft, BitVec.ofNat 24 (tsuPg .weft 0), 3#32,
      upWith fun d => { secs 9 d with half := ⟨d.half.warp, { safe := true }⟩, flt := ⟨{ resetAt := some 5 }, {}⟩ },
      by dsimp only; unfold State.writable; decide +kernel⟩⟩

theorem witness_VectorsGenerateAndRelease :
    /- 1 -/ (∃ (v : Fin 32) (s : State), s.dev.vectorAsserted v.val = true ∧ bitAt (s.dev.w (evcPg + 0x280)) v.val = false ∧
        s.dev.holdoffOver v.val = true) ∧
    /- 2 -/ (∃ (v : Fin 32) (s : State), v.val ∈ s.dev.evc.pba) :=
  ⟨⟨3, upWith fun d => { ((d.setw (evcPg + 0x100) 0x23232323).setw (sysPg + 0x1C) 0) with evts := [(sysPg, ⟨true, false, 1, 1⟩)] },
      by decide +kernel⟩,
    ⟨4, upWith fun d => { d with evc := { d.evc with pba := [3, 4] } }, by decide +kernel⟩⟩

theorem witness_MailboxGoHandsCommandToFirmware :
    /- 1 -/ (∃ (m : Master) (b : Fin 4) (s : State), s.writable m (mbxPg b.val + 0x104) ∧ s.dev.mbxState b.val = 1) ∧
    /- 2 -/ (∃ (m : Master) (b : Fin 4) (s : State), s.writable m (mbxPg b.val + 0x104) ∧ s.dev.mbxState b.val ≠ 1 ∧
        64 < s.dev.g (mbxPg b.val) Reg.MBX.CMD_LEN) ∧
    /- 3 -/ (∃ (m : Master) (b : Fin 4) (s : State), s.writable m (mbxPg b.val + 0x104) ∧ s.dev.mbxState b.val ≠ 1 ∧
        s.dev.g (mbxPg b.val) Reg.MBX.CMD_LEN ≤ 64 ∧ (s.dev.coresRun (mbxHalf b.val) = false ∨
        s.dev.g (mbxPg b.val) Reg.MBX.CMD_OPCODE = opQueryTag ∧ (s.dev.hs (mbxHalf b.val)).restored = false)) ∧
    /- 4 -/ (∃ (m : Master) (b : Fin 4) (s : State), s.writable m (mbxPg b.val + 0x104) ∧ s.dev.mbxState b.val ≠ 1 ∧
        s.dev.g (mbxPg b.val) Reg.MBX.CMD_LEN ≤ 64 ∧ s.dev.coresRun (mbxHalf b.val) = true ∧
        (s.dev.g (mbxPg b.val) Reg.MBX.CMD_OPCODE = opQueryTag → (s.dev.hs (mbxHalf b.val)).restored = true)) :=
  ⟨⟨.spi, 0,
      upWith fun d => { (d.p (mbxPg 0) Reg.MBX.RSP_STATE 1) with mbx := [(0, { nextId := 2, cur := 1, fw := [⟨1, 0, 9, 1, [5], some (3, [8, 9])⟩] })] },
      by unfold State.writable; decide +kernel⟩,
    ⟨.fw .weft, 1, upWith fun d => d.p (mbxPg 1) Reg.MBX.CMD_LEN 65, by unfold State.writable; decide +kernel⟩,
    ⟨.fw .weft, 1, upWith fun d => { secs 9 d with half := ⟨d.half.warp, { safe := true }⟩, flt := ⟨{ resetAt := some 5 }, {}⟩ },
      by unfold State.writable; decide +kernel⟩,
    ⟨.spi, 0, up, by unfold State.writable; decide +kernel⟩⟩

theorem witness_HousekeepingCommandsCommit :
    /- 1 -/ (∃ (b : Fin 4) (s : State), ∃ c ∈ ((s.dev.mb b.val).waiting 0x0000), s.dev.coresRun (mbxHalf b.val) = true) ∧
    /- 2 -/ (∃ (b : Fin 4) (s : State), ∃ c ∈ ((s.dev.mb b.val).waiting 0x0001), c.len = 1 ∧ s.dev.coresRun (mbxHalf b.val) = true) ∧
    /- 3 -/ (∃ (b : Fin 4) (s : State), ∃ c ∈ ((s.dev.mb b.val).waiting 0x0002), c.len = 0 ∧ s.dev.coresRun (mbxHalf b.val) = true) :=
  ⟨⟨0, upWith (cmd 0 0 [5, 6]), by decide +kernel⟩,
    ⟨0, upWith (cmd 0 1 [5]), by decide +kernel⟩,
    ⟨0, upWith (cmd 0 2 []), by decide +kernel⟩⟩

theorem witness_MailboxCompletesOnceWithCode :
    /- 1 -/ (∃ (b : Fin 4) (s : State) (c : FwCmd),
        (s.dev.mb b.val).fw.find? (fun c => c.done.isSome || !(issuedOpcodes.contains c.opcode)) = some c ∧ (∃ z ∈ (c.done),
        s.dev.coresRun (mbxHalf b.val) = true ∧ s.dev.mbxState b.val = 1 ∧ (s.dev.mb b.val).cur = c.id)) ∧
    /- 2 -/ (∃ (b : Fin 4) (s : State) (c : FwCmd), s.dev.mbxState b.val = 1 ∧ (s.dev.mb b.val).goAt + (s.dev.mb b.val).limitMs * 250000 ≤ s.dev.now ∧
        (s.dev.mb b.val).fw.find? (fun c => c.id == (s.dev.mb b.val).cur) = some c ∧ c.done = none ∧ c.opcode ≠ 1) :=
  ⟨⟨0,
      upWith fun d => { (d.p (mbxPg 0) Reg.MBX.RSP_STATE 1) with mbx := [(0, { nextId := 2, cur := 1, fw := [⟨1, 0, 9, 1, [5], some (3, [8, 9])⟩] })] },
      ⟨1, 0, 9, 1, [5], some (3, [8, 9])⟩, by decide +kernel⟩,
    ⟨0, upWith fun d => (cmd 0 0 [5] d).p (mbxPg 0) Reg.MBX.RSP_STATE 1, ⟨1, 0, 9, 1, [5], none⟩, by decide +kernel⟩⟩

theorem witness_TimebaseWritesLeaveCounts :
    /- 1 -/ (∃ (m : Master) (h : Half) (n : Fin 16) (s : State), s.writable m (tsuB h n.val) ∧ s.dev.gb (tsuB h n.val) Reg.TSU.STAT_STEP_PEND = false) ∧
    /- 2 -/ (∃ (m : Master) (h : Half) (n : Fin 16) (s : State), s.writable m (tsuB h n.val) ∧ s.dev.gb (tsuB h n.val) Reg.TSU.STAT_STEP_PEND = true) ∧
    /- 3 -/ (∃ (m : Master) (h : Half) (n : Fin 16) (v : BitVec 16) (s : State), s.writable m (tsuB h n.val + 0x34)) ∧
    /- 4 -/ (∃ (m : Master) (h : Half) (n : Fin 16) (v : BitVec 16) (s : State), s.writable m (tsuB h n.val + 0x3C)) ∧
    /- 5 -/ (∃ (m : Master) (h : Half) (n : Fin 16) (s : State), s.writable m (tsuB h n.val)) :=
  ⟨⟨.spi, .warp, 7, up, by unfold State.writable; decide +kernel⟩,
    ⟨.fw .weft, .warp, 0,
      upWith fun d => (secs 9 (d.pb (tsuB .warp 0) Reg.TSU.STAT_STEP_PEND true)).p (tsuB .warp 0) Reg.TSU.SET_NSEC 1000000000,
      by unfold State.writable; decide +kernel⟩,
    ⟨.spi, .warp, 7, 5, up, by unfold State.writable; decide +kernel⟩,
    ⟨.spi, .warp, 7, 5, up, by unfold State.writable; decide +kernel⟩,
    ⟨.spi, .warp, 7, up, by unfold State.writable; decide +kernel⟩⟩

theorem witness_StepAppliesAtSecondBoundary :
    /- 1 -/ (∃ (h : Half) (n : Fin 16) (s : State), s.dev.stepDue h n.val = true ∧ 999999999 < s.dev.g (tsuB h n.val) Reg.TSU.SET_NSEC) ∧
    /- 2 -/ (∃ (h : Half) (n : Fin 16) (s : State), s.dev.stepDue h n.val = true ∧ s.dev.g (tsuB h n.val) Reg.TSU.SET_NSEC ≤ 999999999) ∧
    /- 3 -/ (∃ (h : Half) (n : Fin 16) (s : State), s.dev.stepDue h n.val = true ∧ s.dev.g (tsuB h n.val) Reg.TSU.SET_NSEC ≤ 999999999 ∧ (∀ e < 64,
        s.dev.ttaArmed h e = false) ∧ (∀ p < 8, (s.dev.gate p).held = [])) ∧
    /- 4 -/ (∃ (h : Half) (n : Fin 16) (s : State), s.dev.stepDue h n.val = false) ∧
    /- 5 -/ (∃ (h : Half) (n : Fin 16) (s : State), (s.dev.tb h n.val).padjRem = 0) ∧
    /- 6 -/ (∃ (h : Half) (n : Fin 16) (s : State), (s.dev.tb h n.val).padjRem ≠ 0) :=
  ⟨⟨.warp, 0, upWith fun d => (secs 9 (d.pb (tsuB .warp 0) Reg.TSU.STAT_STEP_PEND true)).p (tsuB .warp 0) Reg.TSU.SET_NSEC 1000000000,
      by decide +kernel⟩,
    ⟨.warp, 0, upWith fun d => (secs 9 (d.pb (tsuB .warp 0) Reg.TSU.STAT_STEP_PEND true)).p (tsuB .warp 0) Reg.TSU.SET_NSEC 999999999,
      by decide +kernel⟩,
    ⟨.warp, 0, upWith fun d => (secs 9 (d.pb (tsuB .warp 0) Reg.TSU.STAT_STEP_PEND true)).p (tsuB .warp 0) Reg.TSU.SET_NSEC 999999999,
      by decide +kernel⟩,
    ⟨.warp, 4, up, by decide +kernel⟩,
    ⟨.warp, 4, up, by decide +kernel⟩,
    ⟨.warp, 2, upWith fun d => { d.pb (tsuB .warp 2) Reg.TSU.STAT_STEP_PEND true with tbs := [(2, { count := 5, padjRem := 7 })] },
      by decide +kernel⟩⟩

theorem witness_DomainSwitchSlewsWithoutStep :
    /- 1 -/ (∃ (m : Master) (h : Half) (n : Fin 16) (v : Bool) (s : State), s.writable m (tsuB h n.val) ∧
        s.dev.gb (tsuB h n.val) Reg.TSU.CTRL_DOM_SEL ≠ v ∧ (v = true → s.dev.g (tsuB h n.val) Reg.TSU.CTRL_ALT ≠ n.val ∧
        s.dev.gb (tsuB h (s.dev.g (tsuB h n.val) Reg.TSU.CTRL_ALT)) Reg.TSU.CTRL_DOM_SEL = false)) ∧
    /- 2 -/ (∃ (m : Master) (h : Half) (n : Fin 16) (s : State), s.writable m (tsuB h n.val) ∧ s.dev.gb (tsuB h n.val) Reg.TSU.CTRL_DOM_SEL = false ∧
        (s.dev.g (tsuB h n.val) Reg.TSU.CTRL_ALT = n.val ∨
        s.dev.gb (tsuB h (s.dev.g (tsuB h n.val) Reg.TSU.CTRL_ALT)) Reg.TSU.CTRL_DOM_SEL = true)) ∧
    /- 3 -/ (∃ (m : Master) (h : Half) (n : Fin 16) (v : Bool) (s : State), s.writable m (tsuB h n.val) ∧
        s.dev.gb (tsuB h n.val) Reg.TSU.CTRL_DOM_SEL = v) ∧
    /- 4 -/ (∃ (h : Half) (n : Fin 16) (own : Int) (s : State),
      let x := if s.dev.gb (tsuB h n.val) Reg.TSU.CTRL_DOM_SEL then s.dev.domOfs h n.val else own
      s.dev.gb (tsuB h n.val) Reg.TSU.STAT_DSW_ACTIVE = true ∧ x.natAbs ≤ 1000 ∧ 15 ≤ (s.dev.tb h n.val).dswRun) ∧
    /- 5 -/ (∃ (h : Half) (n : Fin 16) (own : Int) (s : State),
      let x := if s.dev.gb (tsuB h n.val) Reg.TSU.CTRL_DOM_SEL then s.dev.domOfs h n.val else own
      (s.dev.gb (tsuB h n.val) Reg.TSU.STAT_DSW_ACTIVE = false ∨ 1000 < x.natAbs ∨ (s.dev.tb h n.val).dswRun < 15)) :=
  ⟨⟨.spi, .warp, 7, true, up, by unfold State.writable; decide +kernel⟩,
    ⟨.fw .weft, .warp, 0, up, by unfold State.writable; decide +kernel⟩,
    ⟨.fw .weft, .weft, 4, false, up, by unfold State.writable; decide +kernel⟩,
    ⟨.warp, 3, -7,
      upWith fun d => { ((d.p (tsuB .warp 3) Reg.TSU.CTRL_ALT 5).pb (tsuB .warp 3) Reg.TSU.CTRL_DOM_SEL true).pb (tsuB .warp 3) Reg.TSU.STAT_DSW_ACTIVE true with tbs := [(3, { dswRun := 15 })] },
      by dsimp only; decide +kernel⟩,
    ⟨.warp, 4, 0, up, by dsimp only; decide +kernel⟩⟩

theorem witness_LeapCommitWaitsAndMayBeRefused :
    /- 1 -/ (∃ (m : Master) (s : State), s.writable m (leapPg .warp + 0x300) ∧ s.dev.gb (leapPg .warp) Reg.TSU.LEAP_STAT_COMMIT_PEND = false) ∧
    /- 2 -/ (∃ (m : Master) (s : State), s.writable m (leapPg .warp + 0x300) ∧ s.dev.gb (leapPg .warp) Reg.TSU.LEAP_STAT_COMMIT_PEND = true) ∧
    /- 3 -/ (∃ (s : State), s.dev.leapDue = true ∧ s.dev.leapRefusal s.dev.schedSec ≠ 0) ∧
    /- 4 -/ (∃ (b : Fin 4) (s : State), ∃ c ∈ ((s.dev.mb b.val).waiting 0x0110), c.len = 0 ∧ s.dev.wrongHalf b.val = false ∧
        s.dev.coresRun (mbxHalf b.val) = true ∧ s.dev.sched.fold = none) ∧
    /- 5 -/ (∃ (s : State), ∃ f ∈ (s.dev.sched.fold), f.box < 4 ∧ f.sec < s.dev.schedSec ∧ (∃ c ∈ ((s.dev.mb f.box).waiting 0x0110),
        s.dev.coresRun (mbxHalf f.box) = true ∧ (
        let busy := s.dev.gb (leapPg s.dev.lead) Reg.TSU.LEAP_STAT_COMMIT_PEND
        (busy = true ∨ (s.dev.leapActive s.dev.lead).canFold s.dev.schedSec = false)))) :=
  ⟨⟨.spi, up, by unfold State.writable; decide +kernel⟩,
    ⟨.spi, upWith fun d => (secs 7 (d.pb (leapPg .warp) Reg.TSU.LEAP_STAT_COMMIT_PEND true)).setw (leapPg .warp + 0x318) 0x80000005,
      by unfold State.writable; decide +kernel⟩,
    ⟨upWith fun d => (secs 7 (d.pb (leapPg .warp) Reg.TSU.LEAP_STAT_COMMIT_PEND true)).setw (leapPg .warp + 0x318) 0x80000005,
      by decide +kernel⟩,
    ⟨0, upWith fun d => secs 7 (cmd 0 0x110 [] d), by decide +kernel⟩,
    ⟨upWith fun d => { (secs 7 (cmd 0 0x110 [] d)).pb (leapPg .warp) Reg.TSU.LEAP_STAT_COMMIT_PEND true with sched := { fold := some ⟨0, 1, 3⟩ } },
      by dsimp only; decide +kernel⟩⟩

theorem witness_LeapTableActivatesInBothHalves :
    /- 1 -/ (∃ (s : State), s.dev.leapDue = true ∧ s.dev.leapRefusal s.dev.schedSec = 0) ∧
    /- 2 -/ (∃ (s : State), ∃ f ∈ (s.dev.sched.fold), f.box < 4 ∧ f.sec < s.dev.schedSec ∧ (∃ c ∈ ((s.dev.mb f.box).waiting 0x0110),
        s.dev.coresRun (mbxHalf f.box) = true ∧ s.dev.gb (leapPg s.dev.lead) Reg.TSU.LEAP_STAT_COMMIT_PEND = false ∧
        (s.dev.leapActive s.dev.lead).canFold s.dev.schedSec = true)) :=
  ⟨⟨upWith fun d => { (secs 7 (cmd 0 0x110 [] d)).pb (leapPg .warp) Reg.TSU.LEAP_STAT_COMMIT_PEND true with sched := { fold := some ⟨0, 1, 3⟩ } },
      by decide +kernel⟩,
    ⟨upWith fun d => { secs 300000 (leapAt 100 1 (cmd 0 0x110 [] d)) with sched := { fold := some ⟨0, 1, 3⟩ } }, by decide +kernel⟩⟩

theorem witness_LeapAndSmearStatusFollowTable :
    /- 1 -/ (∃ (h : Half) (n : Fin 16) (m : Fin 8) (s : State), ∃ l ∈ (s.dev.leapEntry h m.val),
        (l.1 : Int) - (l.2.2 - l.2.1) - 86400 ≤ s.dev.sec h n.val ∧ s.dev.sec h n.val < l.1) ∧
    /- 2 -/ (∃ (h : Half) (n : Fin 16) (m : Fin 8) (s : State), ∃ l ∈ (s.dev.leapEntry h m.val), l.2.2 = l.2.1 + 1 ∧ s.dev.sec h n.val + 1 = l.1) ∧
    /- 3 -/ (∃ (h : Half) (n : Fin 16) (m : Fin 8) (s : State), ∃ l ∈ (s.dev.leapEntry h m.val), l.1 ≤ s.dev.sec h n.val ∧
        (s.dev.gb (tsuB h n.val) Reg.TSU.STAT_LEAP_PEND = true ∨ s.dev.sec h n.val = l.1 ∧ (s.dev.tb h n.val).applied ≠ some l.1)) ∧
    /- 4 -/ (∃ (h : Half) (n : Fin 16) (m : Fin 8) (s : State), ∃ l ∈ (s.dev.leapEntry h m.val), s.dev.scale h n.val = 2 ∧ (∀ w,
        (s.dev.tb h n.val).win = some w → w.shut = true) ∧ (s.dev.smearWin h n.val l).ts * (10 ^ 9 * 2 ^ 32) ≤ s.dev.c32 h n.val ∧
        s.dev.c32 h n.val < (s.dev.smearWin h n.val l).stop * (10 ^ 9 * 2 ^ 32)) ∧
    /- 5 -/ (∃ (h : Half) (n : Fin 16) (s : State), ∃ w ∈ ((s.dev.tb h n.val).win), w.shut = false ∧ w.stop * (10 ^ 9 * 2 ^ 32) ≤ s.dev.c32 h n.val) :=
  ⟨⟨.weft, 7, 0, upWith fun d => secs 20000 (leapAt 100000 1 d), by decide +kernel⟩,
    ⟨.weft, 7, 0, upWith fun d => secs 99999 (leapAt 100000 1 d), by decide +kernel⟩,
    ⟨.weft, 7, 0, upWith fun d => secs 100000 (leapAt 100000 1 (d.pb (tsuB .warp 0) Reg.TSU.STAT_LEAP_PEND true)), by decide +kernel⟩,
    ⟨.warp, 3, 0,
      upWith fun d => secs 99990 (leapAt 100000 1 ((d.p (tsuB .warp 3) Reg.TSU.CTRL_SCALE 2).p (tsuB .warp 3) Reg.TSU.SMEAR_MIN 60)),
      by decide +kernel⟩,
    ⟨.warp, 3, upWith fun d => { d with tbs := [(3, { count := 200000 * secUnit, win := some ⟨100000, 1, 0, 98000, 3600, false⟩ })] },
      by decide +kernel⟩⟩

theorem witness_SkewScheduleAndComparison :
    /- 1 -/ (∃ (w72 : EdgeSeen) (f72 : EdgeSeen) (w73 : EdgeSeen) (f73 : EdgeSeen) (s : State),
      let e := (((s.dev.capEdge .warp 72 false w72).capEdge .weft 72 false f72).capEdge .warp 73 false w73).capEdge .weft 73 false f73
      s.dev.loopsRun .warp = true ∧ s.dev.loopsRun .weft = true ∧ (∃ a ∈ (s.dev.markerDiff e 72), (s.dev.markerDiff e 73).isSome = true)) ∧
    /- 2 -/ (∃ (w72 : EdgeSeen) (f72 : EdgeSeen) (w73 : EdgeSeen) (f73 : EdgeSeen) (s : State), (s.dev.loopsRun .warp = false ∨
        s.dev.loopsRun .weft = false)) ∧
    /- 3 -/ (∃ (s : State), ∃ m ∈ (s.dev.sched.pendMs), m < msOf (s.dev.count .weft 0)) ∧
    /- 4 -/ (∃ (s : State), s.dev.planeUp .warp = true ∧ s.dev.planeUp .weft = true) ∧
    /- 5 -/ (∃ (s : State), (s.dev.planeUp .warp = false ∨ s.dev.planeUp .weft = false)) :=
  ⟨⟨⟨0, 300, false⟩, ⟨-2000000, 5, true⟩, ⟨2000000, 100, false⟩, ⟨0, 300, false⟩, up, by dsimp only; decide +kernel⟩,
    ⟨⟨0, 300, false⟩, ⟨-2000000, 5, true⟩, ⟨2000000, 100, false⟩, ⟨0, 300, false⟩,
      upWith fun d => { secs 9 d with half := ⟨d.half.warp, { safe := true }⟩, flt := ⟨{ resetAt := some 5 }, {}⟩ }, by decide +kernel⟩,
    ⟨upWith fun d => { secs 1 d with sched := { pendMs := some 5 } }, by decide +kernel⟩,
    ⟨up, by decide +kernel⟩,
    ⟨upWith fun d => { secs 9 d with half := ⟨d.half.warp, { safe := true }⟩, flt := ⟨{ resetAt := some 5 }, {}⟩ }, by decide +kernel⟩⟩

theorem witness_PageControlsKeepCounts :
    /- 1 -/ (∃ (m : Master) (a : BitVec 24) (h : Half) (i : Fin 4) (s : State), pageBase a.toNat = pageAddr .tsu h i.val ∧
        s.writable m (pageBase a.toNat + 8) ∧ s.dev.planeUp h = true ∧ s.dev.bist = none) ∧
    /- 2 -/ (∃ (m : Master) (a : BitVec 24) (s : State), (typeAt (pageBase a.toNat) = some .tta ∨ typeAt (pageBase a.toNat) = some .rlt) ∧
        s.writable m (pageBase a.toNat + 8)) ∧
    /- 3 -/ (∃ (m : Master) (a : BitVec 24) (s : State), typeAt (pageBase a.toNat) = some .rlt ∧ s.writable m (pageBase a.toNat + 8)) ∧
    /- 4 -/ (∃ (m : Master) (a : BitVec 24) (s : State), ∃ p ∈ (typeAt (pageBase a.toNat)), s.writable m (pageBase a.toNat + 8) ∧
        s.dev.shellOnly (pageBase a.toNat) = false ∧ s.dev.bist = none) ∧
    /- 5 -/ (∃ (m : Master) (a : BitVec 24) (v : Bool) (s : State), ∃ p ∈ (typeAt (pageBase a.toNat)), s.writable m (pageBase a.toNat + 8) ∧
        enableReadOnly p = false ∧ s.dev.enabled (pageBase a.toNat) = !v ∧ s.dev.shellOnly (pageBase a.toNat) = false) ∧
    /- 6 -/ (∃ (m : Master) (a : BitVec 24) (v : Bool) (s : State), s.writable m (pageBase a.toNat + 8) ∧ s.dev.shellOnly (pageBase a.toNat) = true ∧
        (∀ p, typeAt (pageBase a.toNat) = some p → enableReadOnly p = false)) ∧
    /- 7 -/ (∃ (m : Master) (a : BitVec 24) (v : Bool) (s : State), ∃ p ∈ (typeAt (pageBase a.toNat)), s.writable m (pageBase a.toNat + 8) ∧
        (enableReadOnly p = true ∨ s.dev.enabled (pageBase a.toNat) = v)) :=
  ⟨⟨.fw .weft, BitVec.ofNat 24 (tsuPg .warp 0), .warp, 0, up, by unfold State.writable; decide +kernel⟩,
    ⟨.fw .weft, BitVec.ofNat 24 (rltPg .weft), up, by unfold State.writable; decide +kernel⟩,
    ⟨.fw .weft, BitVec.ofNat 24 (rltPg .weft), up, by unfold State.writable; decide +kernel⟩,
    ⟨.spi, 3#24, up, by unfold State.writable; decide +kernel⟩,
    ⟨.fw .weft, BitVec.ofNat 24 (rltPg .weft), true, upWith fun d => d.setw (rltPg .weft + 8) 0, by unfold State.writable; decide +kernel⟩,
    ⟨.fw .weft, BitVec.ofNat 24 (rltPg .weft), true,
      upWith fun d => { secs 9 d with half := ⟨d.half.warp, { safe := true }⟩, flt := ⟨{ resetAt := some 5 }, {}⟩ },
      by unfold State.writable; decide +kernel⟩,
    ⟨.spi, 3#24, true, up, by unfold State.writable; decide +kernel⟩⟩

theorem witness_ArmingEvaluatesAnEntry :
    /- 1 -/ (∃ (m : Master) (h : Half) (e : Fin 64) (s : State), s.writable m (ttaE h e.val) ∧ ttaWritable m e.val = true ∧
        s.dev.ttaArmed h e.val = false ∧ s.dev.ttaBad h e.val = false ∧ s.dev.ttaPast h e.val = false) ∧
    /- 2 -/ (∃ (m : Master) (h : Half) (e : Fin 64) (s : State), s.writable m (ttaE h e.val) ∧ ttaWritable m e.val = true ∧
        s.dev.ttaArmed h e.val = false ∧ s.dev.ttaBad h e.val = true) ∧
    /- 3 -/ (∃ (m : Master) (h : Half) (e : Fin 64) (s : State), s.writable m (ttaE h e.val) ∧ ttaWritable m e.val = true ∧
        s.dev.ttaArmed h e.val = false ∧ s.dev.ttaBad h e.val = false ∧ s.dev.ttaPast h e.val = true ∧
        s.dev.gb (ttaE h e.val) Reg.TTA.ACT_LATE_POL = false ∧ s.dev.ttaPeriod h e.val = 0) ∧
    /- 4 -/ (∃ (m : Master) (h : Half) (e : Fin 64) (v : Word) (s : State), s.writable m (ttaE h e.val + 8) ∧ ttaWritable m e.val = true ∧
        s.dev.ttaArmed h e.val = true ∧ s.dev.ttaBad h e.val = false ∧ v.toNat ≠ s.dev.w (ttaE h e.val + 8) ∧
        ((s.dev.count h (s.dev.ttaTb h e.val) : Nat) : Int) ≤ s.dev.ttaWhen h e.val ((v.toNat + 2 ^ 32 * s.dev.g (ttaE h e.val)
        Reg.TTA.T_SEC_HI) * 10 ^ 9 + s.dev.g (ttaE h e.val) Reg.TTA.T_NSEC)) ∧
    /- 5 -/ (∃ (m : Master) (h : Half) (e : Fin 64) (w : Fin 4) (v : Word) (s : State), s.writable m (ttaE h e.val + 4 * w.val) ∧
        ttaWritable m e.val = true ∧ s.dev.ttaArmed h e.val = false) ∧
    /- 6 -/ (∃ (m : Master) (h : Half) (e : Fin 64) (s : State), s.writable m (ttaE h e.val) ∧ ttaWritable m e.val = true ∧
        s.dev.ttaArmed h e.val = false) ∧
    /- 7 -/ (∃ (m : Master) (h : Half) (e : Fin 64) (w : Fin 4) (v : Word) (s : State),
      let a := ttaE h e.val + 4 * w.val
      let d := s.dev.regAccess m a
      let x := d.setw a (mergeWrite a (d.w a) v.toNat)
      s.writable m a ∧ ttaWritable m e.val = true ∧ s.dev.ttaArmed h e.val = true ∧ w ≠ 0 ∧ x.w a ≠ s.dev.w a) ∧
    /- 8 -/ (∃ (m : Master) (h : Half) (e : Fin 64) (v : Word) (s : State),
      let a := ttaE h e.val
      s.writable m a ∧ ttaWritable m e.val = true ∧ s.dev.ttaArmed h e.val = true ∧ v.toNat % 16 ≠ s.dev.ttaTb h e.val) ∧
    /- 9 -/ (∃ (m : Master) (h : Half) (e : Fin 64) (w : Fin 4) (v : Word) (s : State), s.writable m (ttaE h e.val + 4 * w.val) ∧
        s.writable m (ttaE h e.val) ∧ ttaWritable m e.val = false) :=
  ⟨⟨.spi, .warp, 26, up, by unfold State.writable; decide +kernel⟩,
    ⟨.spi, .warp, 3, upWith fun d => d.p (ttaE .warp 3) Reg.TTA.ACT_KIND 12, by unfold State.writable; decide +kernel⟩,
    ⟨.spi, .warp, 26, upWith (secs 1000), by unfold State.writable; decide +kernel⟩,
    ⟨.spi, .warp, 3, 2, upWith fun d => armed .warp 3 4 2 0 7 d, by unfold State.writable; decide +kernel⟩,
    ⟨.spi, .warp, 26, 0, 0xC00C, up, by unfold State.writable; decide +kernel⟩,
    ⟨.spi, .warp, 26, up, by unfold State.writable; decide +kernel⟩,
    ⟨.spi, .warp, 3, 2, 0xFFFFFFFF, upWith fun d => armed .warp 3 4 2 0 7 d, by dsimp only; unfold State.writable; decide +kernel⟩,
    ⟨.spi, .warp, 3, 2, upWith fun d => armed .warp 3 4 2 0 7 d, by dsimp only; unfold State.writable; decide +kernel⟩,
    ⟨.pf0, .warp, 62, 1, 12#32, up, by unfold State.writable; decide +kernel⟩⟩

theorem witness_FiringsActOnOutputsPointsAndDomain :
    /- 1 -/ (∃ (h : Half) (e : Fin 64) (s : State), s.dev.ttaDue h e.val 1 = true ∧ (∃ o ∈ (ttaOutput (s.dev.ttaTarget h e.val)),
        s.dev.isPulse o.1 o.2.1 o.2.2 = true ∧ s.dev.gb (outO o.1 o.2.1 o.2.2) Reg.OUT.OSTAT_RUNNING = true)) ∧
    /- 2 -/ (∃ (h : Half) (e : Fin 64) (s : State), s.dev.ttaDue h e.val 2 = true ∧ (∃ o ∈ (ttaOutput (s.dev.ttaTarget h e.val)),
        s.dev.isPulse o.1 o.2.1 o.2.2 = false)) ∧
    /- 3 -/ (∃ (h : Half) (e : Fin 64) (s : State), ∃ o ∈ (ttaOutput (s.dev.ttaTarget h e.val)), s.dev.ttaDue h e.val 1 = true ∧
        s.dev.isPulse o.1 o.2.1 o.2.2 = false) ∧
    /- 4 -/ (∃ (h : Half) (e : Fin 64) (s : State), ∃ o ∈ (ttaOutput (s.dev.ttaTarget h e.val)), s.dev.ttaDue h e.val 2 = true ∧
        s.dev.isPulse o.1 o.2.1 o.2.2 = true) ∧
    /- 5 -/ (∃ (h : Half) (e : Fin 64) (s : State), s.dev.ttaDue h e.val 3 = true ∧ (∃ o ∈ (ttaOutput (s.dev.ttaTarget h e.val)),
        s.dev.en (outPg o.1 o.2.1) (outO o.1 o.2.1 o.2.2) Reg.OUT.CFG_EN = true)) ∧
    /- 6 -/ (∃ (h : Half) (e : Fin 64) (s : State), s.dev.ttaDue h e.val 4 = true) ∧
    /- 7 -/ (∃ (h : Half) (e : Fin 64) (s : State), s.dev.ttaDue h e.val 1 = true) ∧
    /- 8 -/ (∃ (h : Half) (e : Fin 64) (s : State), s.dev.ttaDue h e.val 2 = true) ∧
    /- 9 -/ (∃ (h : Half) (e : Fin 64) (s : State), s.dev.ttaDue h e.val 3 = true) ∧
    /- 10 -/ (∃ (h : Half) (e : Fin 64) (s : State), s.dev.ttaDue h e.val 9 = true) ∧
    /- 11 -/ (∃ (h : Half) (e : Fin 64) (s : State), s.dev.ttaDue h e.val 1 = false) ∧
    /- 12 -/ (∃ (h : Half) (e : Fin 64) (s : State), s.dev.ttaDue h e.val 2 = false) ∧
    /- 13 -/ (∃ (h : Half) (e : Fin 64) (s : State), s.dev.ttaDue h e.val 3 = false) ∧
    /- 14 -/ (∃ (h : Half) (e : Fin 64) (s : State), s.dev.ttaDue h e.val 4 = false) ∧
    /- 15 -/ (∃ (h : Half) (e : Fin 64) (s : State), s.dev.ttaDue h e.val 9 = false) ∧
    /- 16 -/ (∃ (h : Half) (e : Fin 64) (s : State), s.dev.ttaDue h e.val 9 = true ∧ (
        let n := s.dev.ttaTarget h e.val % 16
        let v := !(s.dev.gb (tsuB h n) Reg.TSU.CTRL_DOM_SEL)
        (v = true → s.dev.g (tsuB h n) Reg.TSU.CTRL_ALT ≠ n ∧
          s.dev.gb (tsuB h (s.dev.g (tsuB h n) Reg.TSU.CTRL_ALT)) Reg.TSU.CTRL_DOM_SEL = false))) :=
  ⟨⟨.warp, 3,
      upWith fun d => secs 9 ((armed .warp 3 1 2 100 7 d).pb (outO .warp 0 2) Reg.OUT.CFG_FORMAT true |>.pb (outO .warp 0 2) Reg.OUT.OSTAT_RUNNING true),
      by decide +kernel⟩,
    ⟨.warp, 3, upWith fun d => secs 9 (armed .warp 3 2 2 0 7 d), by decide +kernel⟩,
    ⟨.warp, 3, upWith fun d => secs 9 (armed .warp 3 1 2 100 7 d), by decide +kernel⟩,
    ⟨.warp, 3, upWith fun d => secs 9 ((armed .warp 3 2 2 0 7 d).pb (outO .warp 0 2) Reg.OUT.CFG_FORMAT true), by decide +kernel⟩,
    ⟨.warp, 3, upWith fun d => secs 9 ((armed .warp 3 3 2 0 7 d).pb (outO .warp 0 2) Reg.OUT.CFG_EN true), by decide +kernel⟩,
    ⟨.warp, 3,
      upWith fun d => secs 9 ((armed .warp 3 4 2 0 7 d).setw (tdcP .warp 7) 0xFFFFFFFF |>.p (tdcP .warp 7) Reg.TDC.CFG_MODE 2 |>.p (tdcP .warp 7) Reg.TDC.CFG_TRIG 2),
      by decide +kernel⟩,
    ⟨.warp, 3,
      upWith fun d => secs 9 ((armed .warp 3 1 2 100 7 d).pb (outO .warp 0 2) Reg.OUT.CFG_FORMAT true |>.pb (outO .warp 0 2) Reg.OUT.OSTAT_RUNNING true),
      by decide +kernel⟩,
    ⟨.warp, 3, upWith fun d => secs 9 (armed .warp 3 2 2 0 7 d), by decide +kernel⟩,
    ⟨.warp, 3, upWith fun d => secs 9 ((armed .warp 3 3 2 0 7 d).pb (outO .warp 0 2) Reg.OUT.CFG_EN true), by decide +kernel⟩,
    ⟨.warp, 3, upWith fun d => secs 9 ((armed .warp 3 9 2 0 7 d).p (tsuB .warp 2) Reg.TSU.CTRL_ALT 5), by decide +kernel⟩,
    ⟨.warp, 8, up, by decide +kernel⟩,
    ⟨.warp, 8, up, by decide +kernel⟩,
    ⟨.warp, 8, up, by decide +kernel⟩,
    ⟨.warp, 8, up, by decide +kernel⟩,
    ⟨.warp, 8, up, by decide +kernel⟩,
    ⟨.warp, 3, upWith fun d => secs 9 ((armed .warp 3 9 2 0 7 d).p (tsuB .warp 2) Reg.TSU.CTRL_ALT 5), by dsimp only; decide +kernel⟩⟩

theorem witness_FiringsSendCaptureLatchAndWrite :
    /- 1 -/ (∃ (h : Half) (e : Fin 64) (j : Fin 4) (s : State), s.dev.ttaDue h e.val 5 = true ∧ (
        let v := s.dev.ttaArg h e.val % 16
        s.dev.originates h v = true ∧ cfgBits (s.dev.svcCfg h v) Reg.TRS.AUTH_AUTH_EN = 0 ∧
          bitAt (s.dev.ttaTarget h e.val) (portOf h j.val) = true ∧ (s.dev.sourceEntry h v (portOf h j.val)).isSome = true)) ∧
    /- 2 -/ (∃ (e : Fin 64) (s : State), s.dev.ttaDue .warp e.val 6 = true ∧ s.nv.variantN = false ∧ s.dev.g gnsPg Reg.GNS.SNSTAT_STATE = 0 ∧
        s.dev.gnssOn = true ∧ (
        let bands := ((List.range 4).filter fun b => bitAt (s.dev.g gnsPg Reg.GNS.SNCFG_BANDS) b && s.dev.bandOn b).foldl
          (fun m b => m + 2 ^ b) 0
        let len := s.dev.snapLength bands (clampNat 2 20 (s.dev.ttaArg .warp e.val))
        bands ≠ 0 ∧ 2 ≤ len ∧ len < 32 ∧ (∀ b < 4, bitAt bands b = true → s.dev.gb (gnfB b) Reg.GNF.BSTAT_CLK_OK = true))) ∧
    /- 3 -/ (∃ (h : Half) (e : Fin 64) (ms : List ChanMeas) (s : State), s.dev.ttaDue h e.val 7 = true ∧ 60 ≤ e.val ∧ s.dev.gnssOn = true ∧
        h = s.dev.lead) ∧
    /- 4 -/ (∃ (h : Half) (e : Fin 64) (ms : List ChanMeas) (s : State), s.dev.ttaDue h e.val 7 = true ∧ e.val < 60) ∧
    /- 5 -/ (∃ (h : Half) (e : Fin 64) (ms : List ChanMeas) (s : State), s.dev.ttaDue h e.val 5 = true) ∧
    /- 6 -/ (∃ (h : Half) (e : Fin 64) (ms : List ChanMeas) (s : State), s.dev.ttaDue h e.val 6 = true) ∧
    /- 7 -/ (∃ (h : Half) (e : Fin 64) (ms : List ChanMeas) (s : State), s.dev.ttaDue h e.val 7 = true) ∧
    /- 8 -/ (∃ (h : Half) (e : Fin 64) (ms : List ChanMeas) (s : State), s.dev.ttaDue h e.val 8 = true) ∧
    /- 9 -/ (∃ (h : Half) (e : Fin 64) (ms : List ChanMeas) (s : State), s.dev.ttaDue h e.val 5 = false) ∧
    /- 10 -/ (∃ (h : Half) (e : Fin 64) (ms : List ChanMeas) (s : State), s.dev.ttaDue h e.val 6 = false) ∧
    /- 11 -/ (∃ (h : Half) (e : Fin 64) (ms : List ChanMeas) (s : State), s.dev.ttaDue h e.val 7 = false) ∧
    /- 12 -/ (∃ (h : Half) (e : Fin 64) (ms : List ChanMeas) (s : State), s.dev.ttaDue h e.val 8 = false) ∧
    /- 13 -/ (∃ (h : Half) (e : Fin 64) (x : AccErr) (s : State), s.dev.ttaDue h e.val 8 = true ∧ (
        let a := s.dev.ttaArg h e.val % 2 ^ 24
        (a % 4 ≠ 0 ∧ x = .align ∨ a % 4 = 0 ∧ s.dev.accessError (.ta h) a true = some x))) ∧
    /- 14 -/ (∃ (h : Half) (e : Fin 64) (s : State), s.dev.ttaDue h e.val 8 = true ∧ (
        let a := s.dev.ttaArg h e.val % 2 ^ 24
        pageOff a = 0x1C ∧ s.writable (.ta h) a)) :=
  ⟨⟨.warp, 3, 1, upWith fun d => secs 9 (ptpServer .warp 2 (armed .warp 3 5 (2 ^ (portOf .warp 1)) 2 7 d)), by dsimp only; decide +kernel⟩,
    ⟨3,
      upWith fun d => secs 9 (((armed .warp 3 6 0 4 7 d).p gnsPg Reg.GNS.SNCFG_BANDS 1).pb (gnfB 0) Reg.GNF.BCFG_EN true |>.pb (gnfB 0) Reg.GNF.BSTAT_CLK_OK true),
      by dsimp only; decide +kernel⟩,
    ⟨.warp, 62, [⟨70, 5000000000, 3, 123456, 10, 4500, true⟩], upWith fun d => secs 9 (armed .warp 62 7 0 0 7 d), by decide +kernel⟩,
    ⟨.warp, 3, [], upWith fun d => secs 9 (armed .warp 3 7 0 0 7 d), by decide +kernel⟩,
    ⟨.warp, 3, [], upWith fun d => secs 9 (ptpServer .warp 2 (armed .warp 3 5 (2 ^ (portOf .warp 1)) 2 7 d)), by decide +kernel⟩,
    ⟨.warp, 3, [],
      upWith fun d => secs 9 (((armed .warp 3 6 0 4 7 d).p gnsPg Reg.GNS.SNCFG_BANDS 1).pb (gnfB 0) Reg.GNF.BCFG_EN true |>.pb (gnfB 0) Reg.GNF.BSTAT_CLK_OK true),
      by decide +kernel⟩,
    ⟨.warp, 62, [⟨70, 5000000000, 3, 123456, 10, 4500, true⟩], upWith fun d => secs 9 (armed .warp 62 7 0 0 7 d), by decide +kernel⟩,
    ⟨.warp, 3, [], upWith fun d => secs 9 ((armed .warp 3 8 0 (tsuPg .warp 0 + 0x1C) 7 d).setw (ttaData .warp 3) 77), by decide +kernel⟩,
    ⟨.warp, 8, [], up, by decide +kernel⟩,
    ⟨.warp, 8, [], up, by decide +kernel⟩,
    ⟨.warp, 8, [], up, by decide +kernel⟩,
    ⟨.warp, 8, [], up, by decide +kernel⟩,
    ⟨.warp, 3, .align, upWith fun d => secs 9 (armed .warp 3 8 0 (tsuPg .warp 0 + 0x1D) 7 d), by dsimp only; decide +kernel⟩,
    ⟨.warp, 3, upWith fun d => secs 9 ((armed .warp 3 8 0 (tsuPg .warp 0 + 0x1C) 7 d).setw (ttaData .warp 3) 77),
      by dsimp only; unfold State.writable; decide +kernel⟩⟩

theorem witness_EdgesAreStampedAndUnitsCalibrated :
    /- 1 -/ (∃ (cp : Fin 80) (fall : Bool) (e0 : EdgeSeen) (e1 : EdgeSeen) (h : Half) (s : State),
      let u := s.dev.cap h cp.val
      let b := tdcP h cp.val
      let e := match h with | .warp => e0 | .weft => e1
      (s.nv.variantN = false ∨ cp.val < 20 ∨ 24 ≤ cp.val) ∧ s.dev.capStopped h cp.val = false ∧ s.dev.crosses h cp.val fall e = true ∧
        s.dev.slopeOk h cp.val fall = true ∧ u.blankTo ≤ s.dev.now ∧ s.dev.gb b Reg.TDC.PSTAT_OOS = false ∧ (∀ y < 80,
        (s.dev.cap h y).iv.map (·.stop) ≠ some cp.val)) ∧
    /- 2 -/ (∃ (h : Half) (cp : Fin 80) (c1 : Nat) (c2 : Nat) (s : State), s.dev.gb (tdcP h cp.val) Reg.TDC.PSTAT_OOS = false ∧
        s.dev.capStopped h cp.val = false ∧ c1 + 1900 ≤ c2 ∧ c2 ≤ c1 + 2100) ∧
    /- 3 -/ (∃ (h : Half) (cp : Fin 80) (c1 : Nat) (c2 : Nat) (s : State), s.dev.gb (tdcP h cp.val) Reg.TDC.PSTAT_OOS = false ∧
        s.dev.capStopped h cp.val = false ∧ (c2 < c1 + 1900 ∨ c1 + 2100 < c2) ∧ (s.dev.cap h cp.val).fails < 15) ∧
    /- 4 -/ (∃ (h : Half) (cp : Fin 80) (c1 : Nat) (c2 : Nat) (s : State), s.dev.gb (tdcP h cp.val) Reg.TDC.PSTAT_OOS = false ∧
        s.dev.capStopped h cp.val = false ∧ (c2 < c1 + 1900 ∨ c1 + 2100 < c2) ∧ 15 ≤ (s.dev.cap h cp.val).fails) :=
  ⟨⟨72, false, ⟨-2000000, 5, true⟩, ⟨2000000, 100, false⟩, .warp, up, by dsimp only; decide +kernel⟩,
    ⟨.weft, 2, 128, 2200, up, by decide +kernel⟩,
    ⟨.warp, 9, 2200, 77, up, by decide +kernel⟩,
    ⟨.warp, 4, 66, 3, upWith fun d => { d with caps := [(4, { busy := true, fails := 15 })] }, by decide +kernel⟩⟩

theorem witness_PinQueueAndComparatorWrites :
    /- 1 -/ (∃ (m : Master) (h : Half) (cp : Fin 80) (v : BitVec 16) (s : State), s.writable m (tdcP h cp.val + 0x0C) ∧
        (s.dev.g (tdcP h cp.val) Reg.TDC.QPTR_QWR + 2 ^ 16 - v.toNat) % 2 ^ 16 ≤ 64) ∧
    /- 2 -/ (∃ (m : Master) (h : Half) (cp : Fin 80) (v : BitVec 16) (s : State), s.writable m (tdcP h cp.val + 0x0C) ∧
        64 < (s.dev.g (tdcP h cp.val) Reg.TDC.QPTR_QWR + 2 ^ 16 - v.toNat) % 2 ^ 16) ∧
    /- 3 -/ (∃ (m : Master) (h : Half) (cp : Fin 80) (s : State), s.writable m (tdcP h cp.val + 0x14)) ∧
    /- 4 -/ (∃ (m : Master) (h : Half) (cp : Fin 80) (v : Word) (s : State), s.writable m (tdcP h cp.val + 4)) ∧
    /- 5 -/ (∃ (m : Master) (h : Half) (cp : Fin 80) (v : Word) (s : State), s.writable m (tdcP h cp.val)) ∧
    /- 6 -/ (∃ (h : Half) (cp : Fin 80) (s : State), ∃ i ∈ ((s.dev.cap h cp.val).iv), (i.count + secUnit ≤ s.dev.count h (s.dev.capTb h cp.val) ∨
        s.dev.gb (tdcP h i.stop) Reg.TDC.PSTAT_OOS = true ∨ s.dev.capStopped h i.stop = true)) ∧
    /- 7 -/ (∃ (h : Half) (cp : Fin 80) (s : State), ∃ i ∈ ((s.dev.cap h cp.val).iv), (i.count + secUnit ≤ s.dev.count h (s.dev.capTb h cp.val) ∨
        s.dev.gb (tdcP h i.stop) Reg.TDC.PSTAT_OOS = true ∨ s.dev.capStopped h i.stop = true) ∧
        s.dev.gb (tdcP h cp.val) Reg.TDC.CFG_QEN = true ∧ s.dev.capOcc h cp.val < 64) :=
  ⟨⟨.spi, .weft, 26, 0xFFFF, up, by unfold State.writable; decide +kernel⟩,
    ⟨.spi, .warp, 1, 5, up, by unfold State.writable; decide +kernel⟩,
    ⟨.spi, .warp, 1, up, by unfold State.writable; decide +kernel⟩,
    ⟨.spi, .warp, 1, 12#32, up, by unfold State.writable; decide +kernel⟩,
    ⟨.spi, .warp, 1, 12#32, up, by unfold State.writable; decide +kernel⟩,
    ⟨.warp, 4, upWith fun d => { (secs 9 d).setw (tdcP .warp 4) 0x1003 with caps := [(4, { iv := some ⟨5, 6⟩ })] }, by decide +kernel⟩,
    ⟨.warp, 4, upWith fun d => { (secs 9 d).setw (tdcP .warp 4) 0x1003 with caps := [(4, { iv := some ⟨5, 6⟩ })] }, by decide +kernel⟩⟩

theorem witness_InternalPointsAreStamped :
    /- 1 -/ (∃ (p : Fin 8) (tx : Bool) (words : Nat) (ce0 : Nat) (ce1 : Nat) (h : Half) (s : State),
      let cp := (if tx then 32 else 24) + p.val
      s.dev.capStopped h cp = false ∧ s.dev.gb (tdcP h cp) Reg.TDC.PSTAT_OOS = false) ∧
    /- 2 -/ (∃ (l : Fin 4) (leaves : Bool) (e0 : EdgeSeen) (e1 : EdgeSeen) (s : State), s.dev.linkUp_ l.val = true) ∧
    /- 3 -/ (∃ (l : Fin 4) (leaves : Bool) (e0 : EdgeSeen) (e1 : EdgeSeen) (s : State), s.dev.linkUp_ l.val = false) :=
  ⟨⟨6, true, 2200, 77, 1000000, .warp, up, by dsimp only; decide +kernel⟩,
    ⟨2, true, ⟨2000000, 100, false⟩, ⟨0, 300, false⟩, upWith fun d => (secs 9 d).pb (slvL 2) Reg.SLV.LSTAT_UP true, by decide +kernel⟩,
    ⟨2, true, ⟨2000000, 100, false⟩, ⟨0, 300, false⟩, up, by decide +kernel⟩⟩

theorem witness_CandidatesQualifyAndAreMonitored :
    /- 1 -/ (∃ (m : Master) (h : Half) (c : Fin 30) (s : State), s.writable m (refQ h c.val) ∧ s.dev.enabled (refPg h c.val) = true ∧
        s.dev.gb (refQ h c.val) Reg.REF.CTRL_EN = true) ∧
    /- 2 -/ (∃ (m : Master) (h : Half) (c : Fin 30) (s : State), s.writable m (refQ h c.val) ∧ s.dev.enabled (refPg h c.val) = true ∧
        s.dev.gb (refQ h c.val) Reg.REF.CTRL_EN = false) ∧
    /- 3 -/ (∃ (m : Master) (h : Half) (c : Fin 30) (v : Bool) (s : State), s.writable m (refQ h c.val) ∧ (s.dev.enabled (refPg h c.val) = false ∨
        s.dev.gb (refQ h c.val) Reg.REF.CTRL_EN = v)) ∧
    /- 4 -/ (∃ (h : Half) (c : Fin 30) (s : State),
      let st := s.dev.cand h c.val
      s.dev.monOn h c.val Reg.REF.CTRL_AMON_EN = true ∧ monDue st.amonAt (s.dev.amonLength h c.val) (s.dev.count .warp 0) = true) ∧
    /- 5 -/ (∃ (h : Half) (c : Fin 30) (s : State), (s.dev.monOn h c.val Reg.REF.CTRL_AMON_EN = false ∨
        monDue (s.dev.cand h c.val).amonAt (s.dev.amonLength h c.val) (s.dev.count .warp 0) = false)) ∧
    /- 6 -/ (∃ (h : Half) (c : Fin 30) (s : State), (s.dev.monOn h c.val Reg.REF.CTRL_FMON_EN = false ∨ s.dev.fmonDue h c.val = false)) ∧
    /- 7 -/ (∃ (h : Half) (c : Fin 30) (s : State), s.dev.monOn h c.val Reg.REF.CTRL_FMON_EN = true ∧ s.dev.fmonDue h c.val = true ∧ (
        let u := s.dev.cap h ((candCp c.val).getD 0)
        let st := s.dev.cand h c.val
        ∃ w ∈ (st.fwin), ∃ x ∈ (u.stamp0), w.1 < x)) ∧
    /- 8 -/ (∃ (h : Half) (c : Fin 30) (s : State), s.dev.monOn h c.val Reg.REF.CTRL_FMON_EN = true ∧ s.dev.fmonDue h c.val = true ∧
        (s.dev.cand h c.val).fwin = none) ∧
    /- 9 -/ (∃ (h : Half) (c : Fin 30) (s : State), s.dev.cstate h c.val = 2 ∧
        (s.dev.cand h c.val).holdAt + s.dev.g (refQ h c.val) Reg.REF.QUAL * secUnit ≤ s.dev.schedCount) ∧
    /- 10 -/ (∃ (h : Half) (c : Fin 30) (s : State), (s.dev.cstate h c.val ≠ 2 ∨
        s.dev.schedCount < (s.dev.cand h c.val).holdAt + s.dev.g (refQ h c.val) Reg.REF.QUAL * secUnit)) :=
  ⟨⟨.fw .weft, .warp, 13,
      upWith fun d => { (loopAt .warp 0 3 (selIn 0 4 0 0 (candIn 4 3 (candIn 13 3 (secs 9 d))))).pb (hldPg .warp) Reg.HLD.HCTRL_LEARN true with caps := [(12, { stamp := some 50000000000, stampEc := 10 })], hold := ⟨{ last := some (5, 5) }, {}⟩ },
      by unfold State.writable; decide +kernel⟩,
    ⟨.spi, .warp, 0, up, by unfold State.writable; decide +kernel⟩,
    ⟨.fw .weft, .weft, 9, false, up, by unfold State.writable; decide +kernel⟩,
    ⟨.warp, 13,
      upWith fun d => { (loopAt .warp 0 3 (selIn 0 4 0 0 (candIn 4 3 (candIn 13 3 (secs 9 d))))).pb (hldPg .warp) Reg.HLD.HCTRL_LEARN true with caps := [(12, { stamp := some 50000000000, stampEc := 10 })], hold := ⟨{ last := some (5, 5) }, {}⟩ },
      by dsimp only; decide +kernel⟩,
    ⟨.warp, 9, up, by decide +kernel⟩,
    ⟨.warp, 9, up, by decide +kernel⟩,
    ⟨.warp, 3,
      upWith fun d => { candIn 3 3 (secs 9 d) with cands := [(3, { fwin := some (2 ^ 62, 7) })], caps := [(3, { stamp0 := some (2 ^ 62 + 10 ^ 9 * 2 ^ 32), stampEc := 10000100 })] },
      by dsimp only; decide +kernel⟩,
    ⟨.warp, 13,
      upWith fun d => { (loopAt .warp 0 3 (selIn 0 4 0 0 (candIn 4 3 (candIn 13 3 (secs 9 d))))).pb (hldPg .warp) Reg.HLD.HCTRL_LEARN true with caps := [(12, { stamp := some 50000000000, stampEc := 10 })], hold := ⟨{ last := some (5, 5) }, {}⟩ },
      by decide +kernel⟩,
    ⟨.weft, 4, upWith fun d => secs 900 (candIn 4 2 d), by decide +kernel⟩,
    ⟨.warp, 9, up, by decide +kernel⟩⟩

theorem witness_TransactionsTimersAndVoteWindows :
    /- 1 -/ (∃ (h : Half) (n : Fin 16) (s : State), s.dev.xph h n.val = 1 ∧
        msOf (s.dev.sel h n.val).since + (s.dev.sel h n.val).decide ≤ msOf s.dev.schedCount) ∧
    /- 2 -/ (∃ (h : Half) (n : Fin 16) (s : State), s.dev.xph h n.val = 2 ∧ (s.dev.sel h n.val).ready = false ∧ 2 ≤ (s.dev.sel h n.val).boN ∧
        (s.dev.sel h n.val).since + (s.dev.sel h n.val).decide * (10 ^ 6 * nsUnit) ≤ s.dev.schedCount) ∧
    /- 3 -/ (∃ (h : Half) (n : Fin 16) (c : Fin 30) (s : State), tget 0 s.dev.wtr ((h.num * 16 + n.val) * 32 + c.val) ≤ s.dev.schedCount) ∧
    /- 4 -/ (∃ (h : Half) (n : Fin 16) (c : Fin 30) (s : State),
        (s.dev.xph h n.val == 1 && decide (msOf (s.dev.sel h n.val).since + (s.dev.sel h n.val).decide ≤ msOf s.dev.schedCount)) = false) ∧
    /- 5 -/ (∃ (h : Half) (n : Fin 16) (c : Fin 30) (s : State),
        (s.dev.xph h n.val == 2 && !(s.dev.sel h n.val).ready && decide (2 ≤ (s.dev.sel h n.val).boN) && decide ((s.dev.sel h
        n.val).since + (s.dev.sel h n.val).decide * (10 ^ 6 * nsUnit) ≤ s.dev.schedCount)) = false) ∧
    /- 6 -/ (∃ (h : Half) (n : Fin 16) (c : Fin 30) (s : State), s.dev.schedCount < tget 0 s.dev.wtr ((h.num * 16 + n.val) * 32 + c.val)) ∧
    /- 7 -/ (∃ (h : Half) (n : Fin 16) (c : Fin 30) (s : State), s.dev.voteDue = false) ∧
    /- 8 -/ (∃ (s : State), s.dev.voteAt + s.dev.voteWin s.dev.lead * secUnit ≤ s.dev.schedCount) :=
  ⟨⟨.weft, 3, upWith fun d => { selIn 3 5 1 4 (secs 9 d) with sels := [(3, { decide := 100 })] }, by decide +kernel⟩,
    ⟨.warp, 3, upWith fun d => { selIn 3 5 2 4 (secs 9 d) with sels := [(3, { decide := 100, boN := 3, boSum := 10 })] }, by decide +kernel⟩,
    ⟨.warp, 4, 0, up, by decide +kernel⟩,
    ⟨.warp, 4, 0, up, by decide +kernel⟩,
    ⟨.warp, 4, 0, up, by decide +kernel⟩,
    ⟨.warp, 2, 5, upWith fun d => { secs 9 d with wtr := [(69, 10 * secUnit)] }, by decide +kernel⟩,
    ⟨.warp, 4, 0, up, by decide +kernel⟩,
    ⟨upWith (secs 1000), by decide +kernel⟩⟩

theorem witness_LoopsUpdateCommitAndSwitch :
    /- 1 -/ (∃ (h : Half) (k : Fin 16) (s : State), s.dev.loopsRun h = true ∧ (s.dev.sel h k.val).drop = false ∧ s.dev.commitDue h k.val = false ∧
        s.dev.lstate h k.val ≠ 0 ∧ s.dev.resumeDue h k.val = false ∧ (∃ i ∈ (s.dev.loopIn h k.val),
        ((s.dev.loop h k.val).lastIn ≠ some i ∨ (s.dev.loop h k.val).lastNo ≠ s.dev.measNo h k.val i))) ∧
    /- 2 -/ (∃ (h : Half) (k : Fin 16) (s : State), s.dev.loopsRun h = true ∧ (s.dev.sel h k.val).drop = false ∧ s.dev.commitDue h k.val = false ∧
        s.dev.resumeDue h k.val = true) ∧
    /- 3 -/ (∃ (h : Half) (k : Fin 16) (s : State), s.dev.loopsRun h = true ∧ (s.dev.sel h k.val).drop = true ∧
        (s.dev.usable h (s.dev.selC h k.val) && decide ((s.dev.cand h (s.dev.selC h k.val)).measNo ≤ (s.dev.sel h k.val).endNo)) = false) ∧
    /- 4 -/ (∃ (h : Half) (k : Fin 16) (s : State), s.dev.loopsRun h = true ∧ (s.dev.sel h k.val).drop = false ∧ s.dev.commitDue h k.val = true) ∧
    /- 5 -/ (∃ (h : Half) (k : Fin 16) (s : State), (s.dev.loopsRun h = false ∨ ((s.dev.sel h k.val).drop = true ∧
        s.dev.usable h (s.dev.selC h k.val) = true ∧ (s.dev.cand h (s.dev.selC h k.val)).measNo ≤ (s.dev.sel h k.val).endNo) ∨
        ((s.dev.sel h k.val).drop = false ∧ s.dev.commitDue h k.val = false ∧ s.dev.resumeDue h k.val = false ∧
        (s.dev.lstate h k.val = 0 ∨ ∀ i, s.dev.loopIn h k.val = some i → (s.dev.loop h k.val).lastIn = some i ∧
        (s.dev.loop h k.val).lastNo = s.dev.measNo h k.val i)))) ∧
    /- 7 -/ (∃ (m : Master) (h : Half) (k : Fin 16) (v : Bool) (s : State), s.writable m (dplL h k.val) ∧
        s.dev.gb (dplL h k.val) Reg.DPL.CTRL_EN ≠ v ∧ s.dev.enabled (dplPg h k.val) = true) ∧
    /- 8 -/ (∃ (m : Master) (h : Half) (k : Fin 16) (v : Bool) (s : State), s.writable m (dplL h k.val) ∧ s.dev.gb (dplL h k.val) Reg.DPL.CTRL_EN = v) ∧
    /- 9 -/ (∃ (m : Master) (h : Half) (k : Fin 16) (v : Bool) (s : State), s.writable m (dplL h k.val) ∧
        s.dev.gb (dplL h k.val) Reg.DPL.CTRL_EN ≠ v ∧ s.dev.enabled (dplPg h k.val) = false) :=
  ⟨⟨.warp, 0,
      upWith fun d => { (loopAt .warp 0 3 (selIn 0 4 0 0 (candIn 4 3 (candIn 13 3 (secs 9 d))))).pb (hldPg .warp) Reg.HLD.HCTRL_LEARN true with caps := [(12, { stamp := some 50000000000, stampEc := 10 })], hold := ⟨{ last := some (5, 5) }, {}⟩ },
      by decide +kernel⟩,
    ⟨.warp, 2, upWith fun d => { loopAt .warp 2 4 (selIn 2 5 0 0 (candIn 5 3 (secs 9 d))) with cands := [(5, { measNo := 3 })] },
      by decide +kernel⟩,
    ⟨.warp, 2, upWith fun d => { loopAt .warp 2 3 (selIn 2 5 0 0 (secs 9 d)) with sels := [(2, { drop := true })] }, by decide +kernel⟩,
    ⟨.warp, 3,
      upWith fun d => { loopAt .warp 3 3 (selIn 3 31 2 4 (candIn 4 3 (secs 9 d))) with cands := [(4, { measNo := 7 })], sels := [(3, { ready := true, endNo := 6, boSum := 500, boN := 2 })] },
      by decide +kernel⟩,
    ⟨.warp, 4, up, by decide +kernel⟩,
    ⟨.spi, .warp, 7, true, up, by unfold State.writable; decide +kernel⟩,
    ⟨.fw .weft, .weft, 4, false, up, by unfold State.writable; decide +kernel⟩,
    ⟨.pf0, .warp, 2, true, upWith fun d => d.setw (dplPg .warp 0 + 8) 0, by unfold State.writable; decide +kernel⟩⟩

theorem witness_RealignWaitsAndStepsByPhaseError :
    /- 1 -/ (∃ (m : Master) (h : Half) (k : Fin 16) (s : State), s.writable m (dplL h k.val) ∧ s.dev.realignBad h k.val = true) ∧
    /- 2 -/ (∃ (m : Master) (h : Half) (k : Fin 16) (s : State), s.writable m (dplL h k.val) ∧ s.dev.realignBad h k.val = false) ∧
    /- 3 -/ (∃ (h : Half) (k : Fin 16) (s : State), s.dev.realignDue h k.val = true ∧ s.dev.realignBad h k.val = true) ∧
    /- 4 -/ (∃ (h : Half) (k : Fin 16) (s : State), s.dev.realignDue h k.val = false) ∧
    /- 5 -/ (∃ (h : Half) (k : Fin 16) (s : State), s.dev.realignDue h k.val = true ∧ s.dev.realignBad h k.val = false) ∧
    /- 6 -/ (∃ (h : Half) (k : Fin 16) (s : State), s.dev.realignDue h k.val = true ∧ s.dev.realignBad h k.val = false ∧ (∀ e < 64,
        s.dev.ttaArmed h e = false) ∧ (∀ p < 8, (s.dev.gate p).held = [])) :=
  ⟨⟨.spi, .warp, 7, up, by unfold State.writable; decide +kernel⟩,
    ⟨.fw .weft, .warp, 0,
      upWith fun d => { (loopAt .warp 0 3 (selIn 0 4 0 0 (candIn 4 3 (candIn 13 3 (secs 9 d))))).pb (hldPg .warp) Reg.HLD.HCTRL_LEARN true with caps := [(12, { stamp := some 50000000000, stampEc := 10 })], hold := ⟨{ last := some (5, 5) }, {}⟩ },
      by unfold State.writable; decide +kernel⟩,
    ⟨.warp, 3, upWith fun d => { secs 9 d with loops := [(3, { realign := some 8 })] }, by decide +kernel⟩,
    ⟨.warp, 4, up, by decide +kernel⟩,
    ⟨.warp, 3,
      upWith fun d => { (loopAt .warp 3 3 (secs 9 d)).setw (dplL .warp 3 + 0x24) 77777 with loops := [(3, { realign := some 8 })] },
      by decide +kernel⟩,
    ⟨.warp, 3,
      upWith fun d => { (loopAt .warp 3 3 (secs 9 d)).setw (dplL .warp 3 + 0x24) 77777 with loops := [(3, { realign := some 8 })] },
      by decide +kernel⟩⟩

theorem witness_HoldoverFallsExpiresAndLearns :
    /- 1 -/ (∃ (h : Half) (k : Fin 16) (s : State), s.dev.sourceLost h k.val = true) ∧
    /- 2 -/ (∃ (h : Half) (k : Fin 16) (s : State), s.dev.sourceLost h k.val = false) ∧
    /- 3 -/ (∃ (h : Half) (k : Fin 16) (s : State), s.dev.holdIsExpired h k.val (s.dev.published h k.val) = true ∧
        s.dev.gb (dplL h k.val) Reg.DPL.LSTAT_EXPIRED = false) ∧
    /- 4 -/ (∃ (h : Half) (k : Fin 16) (s : State), (s.dev.holdIsExpired h k.val (s.dev.published h k.val) = false ∨
        s.dev.gb (dplL h k.val) Reg.DPL.LSTAT_EXPIRED = true)) ∧
    /- 5 -/ (∃ (s : State), (s.dev.cap s.dev.lead 12).stamp0 = none) ∧
    /- 6 -/ (∃ (s : State),
      let h := s.dev.lead
      ∃ x ∈ ((s.dev.cap h 12).stamp0), ((s.dev.hm h).last = none ∨ s.dev.gb (hldPg h) Reg.HLD.HCTRL_LEARN = false ∨
        s.dev.sampleCounts h = false ∨ ∃ w, (s.dev.hm h).last = some w ∧ x ≤ w.1)) ∧
    /- 7 -/ (∃ (s : State) (x : Nat) (w : Nat × Nat),
      let h := s.dev.lead
      let b := hldPg h
      (s.dev.cap h 12).stamp0 = some x ∧ (s.dev.hm h).last = some w ∧ w.1 < x ∧ s.dev.gb b Reg.HLD.HCTRL_LEARN = true ∧
        s.dev.sampleCounts h = true) ∧
    /- 8 -/ (∃ (s : State), (s.dev.hm s.dev.lead).fresh = true) ∧
    /- 9 -/ (∃ (s : State), (s.dev.hm s.dev.lead).fresh = false) ∧
    /- 10 -/ (∃ (m : Master) (h : Half) (s : State), s.writable m (hldPg h + 0x100) ∧ (h = .warp ∨ s.dev.outOfService .warp = true)) ∧
    /- 11 -/ (∃ (m : Master) (s : State), s.writable m (hldPg .weft + 0x100) ∧ s.dev.outOfService .warp = false) ∧
    /- 12 -/ (∃ (w : FlashEnd) (s : State), s.dev.coresRun s.dev.lead = true) ∧
    /- 13 -/ (∃ (w : FlashEnd) (s : State), s.dev.coresRun s.dev.lead = false) :=
  ⟨⟨.warp, 3, upWith fun d => (loopAt .warp 3 4 (secs 9 d)).p (dplL .warp 3) Reg.DPL.LSTAT_HMODE 1, by decide +kernel⟩,
    ⟨.warp, 4, up, by decide +kernel⟩,
    ⟨.warp, 0,
      upWith fun d => { (loopAt .warp 0 4 (secs 99 d)).setw (hldPg .warp + Reg.HLD.LIMIT.off) 5 with loops := [(0, { holdAt := some 0 })] },
      by decide +kernel⟩,
    ⟨.warp, 4, up, by decide +kernel⟩,
    ⟨up, by decide +kernel⟩,
    ⟨upWith fun d => { secs 9 d with caps := [(12, { stamp0 := some 5 })] }, by dsimp only; decide +kernel⟩,
    ⟨upWith fun d => { ((loopAt .warp 0 3 (selIn 0 5 0 0 (candIn 5 3 (candIn 13 3 (secs 9 d))))).pb (hldPg .warp) Reg.HLD.HCTRL_LEARN true) with caps := [(12, { stamp0 := some (9 * 10 ^ 9 * 2 ^ 32), stampEc := 10000000 })], hold := ⟨{ last := some (8 * 10 ^ 9 * 2 ^ 32, 0) }, {}⟩ },
      9 * 10 ^ 9 * 2 ^ 32, (8 * 10 ^ 9 * 2 ^ 32, 0), by dsimp only; decide +kernel⟩,
    ⟨upWith fun d => { d with hold := ⟨{ fresh := true }, {}⟩ }, by decide +kernel⟩,
    ⟨up, by decide +kernel⟩,
    ⟨.spi, .warp, up, by unfold State.writable; decide +kernel⟩,
    ⟨.spi, up, by unfold State.writable; decide +kernel⟩,
    ⟨.failed, up, by decide +kernel⟩,
    ⟨.failed, State.reset, by decide +kernel⟩⟩

theorem witness_SynthesisLoopsLoseAndRegainLock :
    /- 2 -/ (∃ (h : Half) (s : State), s.dev.aplState h 1 = 3) ∧
    /- 3 -/ (∃ (m : Master) (h : Half) (s : State), s.writable m (aplBase h 1) ∧ s.dev.aplState h 1 ≠ 3) ∧
    /- 4 -/ (∃ (m : Master) (h : Half) (s : State), s.writable m (aplBase h 1) ∧ s.dev.aplState h 1 = 3) ∧
    /- 5 -/ (∃ (h : Half) (j : Fin 2) (ok : Bool) (band : Fin 64) (s : State), s.dev.aplState h 1 ≠ 3) ∧
    /- 6 -/ (∃ (h : Half) (j : Fin 2) (ok : Bool) (band : Fin 64) (s : State), (s.dev.aplState h 1 ≠ 0 ∨ (s.dev.apl h 1).stored.isSome = true ∧
        s.dev.now < (s.dev.apl h 1).t0 + 250)) ∧
    /- 7 -/ (∃ (h : Half) (j : Fin 2) (ok : Bool) (band : Fin 64) (s : State), (s.dev.aplState h 1 ≠ 1 ∨ s.dev.now < (s.dev.apl h 1).t0 + 37500)) ∧
    /- 8 -/ (∃ (h : Half) (j : Fin 2) (ok : Bool) (band : Fin 64) (s : State), s.dev.aplState h j.val ≠ 2) ∧
    /- 9 -/ (∃ (h : Half) (s : State), s.dev.aplState h 1 = 1 ∧ (s.dev.apl h 1).t0 + 37500 ≤ s.dev.now) ∧
    /- 10 -/ (∃ (h : Half) (band : Fin 64) (s : State), s.dev.aplState h 1 = 0 ∧ ((s.dev.apl h 1).stored = none ∨ (s.dev.apl h 1).t0 + 250 ≤ s.dev.now)) ∧
    /- 11 -/ (∃ (h : Half) (s : State), s.dev.aplState h 1 = 1 ∧ (s.dev.apl h 1).t0 + 37500 ≤ s.dev.now) ∧
    /- 12 -/ (∃ (h : Half) (j : Fin 2) (s : State), s.dev.aplState h j.val = 2) :=
  ⟨⟨.warp, upWith fun d => d.p (aplBase .warp 1) Reg.APL.LSTAT_STATE 3, by decide +kernel⟩,
    ⟨.spi, .warp, up, by unfold State.writable; decide +kernel⟩,
    ⟨.spi, .warp, upWith fun d => d.p (aplBase .warp 1) Reg.APL.LSTAT_STATE 3, by unfold State.writable; decide +kernel⟩,
    ⟨.warp, 0, true, 2, up, by decide +kernel⟩,
    ⟨.warp, 0, true, 2, up, by decide +kernel⟩,
    ⟨.warp, 0, true, 2, up, by decide +kernel⟩,
    ⟨.warp, 0, true, 2, State.reset, by decide +kernel⟩,
    ⟨.warp, upWith fun d => d.p (aplBase .warp 1) Reg.APL.LSTAT_STATE 1, by decide +kernel⟩,
    ⟨.warp, 8, upWith fun d => d.p (aplBase .warp 1) Reg.APL.LSTAT_STATE 0, by decide +kernel⟩,
    ⟨.warp, upWith fun d => d.p (aplBase .warp 1) Reg.APL.LSTAT_STATE 1, by decide +kernel⟩,
    ⟨.warp, 0, up, by decide +kernel⟩⟩

theorem witness_RatiosAreLoadedWholeAndOutputsSwitch :
    /- 1 -/ (∃ (m : Master) (h : Half) (s : State), s.writable m (aplBase h 0)) ∧
    /- 2 -/ (∃ (m : Master) (h : Half) (s : State), s.writable m (aplBase h 1) ∧ (
        let e := hopAt h 1 (s.dev.g (aplBase h 1) Reg.APL.LCTRL_HOP_IDX)
        bitAt (s.dev.w e) 31 = true ∧ s.dev.ratioBad h (s.dev.w e % 2 ^ 12) (s.dev.w (e + 4)) (s.dev.w (e + 8)) = false)) ∧
    /- 3 -/ (∃ (m : Master) (h : Half) (s : State), s.writable m (aplBase h 1) ∧ (
        let e := hopAt h 1 (s.dev.g (aplBase h 1) Reg.APL.LCTRL_HOP_IDX)
        (bitAt (s.dev.w e) 31 = false ∨ s.dev.ratioBad h (s.dev.w e % 2 ^ 12) (s.dev.w (e + 4)) (s.dev.w (e + 8)) = true))) ∧
    /- 4 -/ (∃ (m : Master) (h : Half) (v : Word) (s : State), s.writable m (aplPg h + 0x30C) ∧
        s.dev.ratioBad h (v.toNat % 2 ^ 12) (s.dev.g (aplBase h 1) Reg.APL.M_NUM) (s.dev.g (aplBase h 1) Reg.APL.M_DEN) = true) ∧
    /- 5 -/ (∃ (m : Master) (h : Half) (v : Word) (s : State), s.writable m (aplPg h + 0x30C) ∧
        s.dev.ratioBad h (v.toNat % 2 ^ 12) (s.dev.g (aplBase h 1) Reg.APL.M_NUM) (s.dev.g (aplBase h 1) Reg.APL.M_DEN) = false) ∧
    /- 6 -/ (∃ (m : Master) (h : Half) (o : Fin 12) (s : State), s.writable m (outO h (o.val / 8) (o.val % 8)) ∧
        (s.dev.gb (outO h (o.val / 8) (o.val % 8)) Reg.OUT.CFG_EN = false ∨ (s.dev.out h (o.val / 8) (o.val % 8)).stopped = true)) ∧
    /- 7 -/ (∃ (m : Master) (h : Half) (o : Fin 12) (s : State), s.writable m (outO h (o.val / 8) (o.val % 8)) ∧
        s.dev.gb (outO h (o.val / 8) (o.val % 8)) Reg.OUT.CFG_EN = true ∧ (s.dev.out h (o.val / 8) (o.val % 8)).stopped = false) ∧
    /- 8 -/ (∃ (m : Master) (h : Half) (o : Fin 12) (s : State), s.writable m (outO h (o.val / 8) (o.val % 8))) :=
  ⟨⟨.spi, .warp, up, by unfold State.writable; decide +kernel⟩,
    ⟨.spi, .warp,
      upWith fun d => { ((d.setw (hopAt .warp 1 0) 0xC0210014).setw (hopAt .warp 1 0 + 8) 1).p (aplBase .warp 0) Reg.APL.M_INT_FIXN 20 with apls := [(0, { mint := 20, mden := 1 })] },
      by dsimp only; unfold State.writable; decide +kernel⟩,
    ⟨.spi, .warp, up, by dsimp only; unfold State.writable; decide +kernel⟩,
    ⟨.spi, .warp, 1#32,
      upWith fun d => { ((d.setw (hopAt .warp 1 0) 0xC0210014).setw (hopAt .warp 1 0 + 8) 1).p (aplBase .warp 0) Reg.APL.M_INT_FIXN 20 with apls := [(0, { mint := 20, mden := 1 })] },
      by unfold State.writable; decide +kernel⟩,
    ⟨.spi, .warp, 1#32, up, by unfold State.writable; decide +kernel⟩,
    ⟨.spi, .warp, 2, up, by unfold State.writable; decide +kernel⟩,
    ⟨.spi, .warp, 2, upWith fun d => secs 9 ((armed .warp 3 3 2 0 7 d).pb (outO .warp 0 2) Reg.OUT.CFG_EN true),
      by unfold State.writable; decide +kernel⟩,
    ⟨.spi, .warp, 2, up, by unfold State.writable; decide +kernel⟩⟩

theorem witness_DacPortSteersWithinLimits :
    /- 1 -/ (∃ (h : Half) (s : State), s.dev.en (aplPg h) (aplPg h) Reg.APL.DCTRL_EN = true ∧ s.dev.dacFrozen h = false) ∧
    /- 2 -/ (∃ (h : Half) (s : State), s.dev.en (aplPg h) (aplPg h) Reg.APL.DCTRL_EN = true ∧ s.dev.dacFrozen h = true) ∧
    /- 3 -/ (∃ (h : Half) (s : State), s.dev.en (aplPg h) (aplPg h) Reg.APL.DCTRL_EN = false) ∧
    /- 4 -/ (∃ (h : Half) (s : State), s.dev.en (aplPg h) (aplPg h) Reg.APL.DCTRL_EN = true ∧ s.dev.dacFrozen h = false ∧ (
        let code := ((s.dev.dac h).target (s.dev.g (aplPg h) Reg.APL.CODE) / 2 ^ 32).toNat % 2 ^ 24
        code ≠ s.dev.g (aplPg h) Reg.APL.CODE ∧ (∀ x, (s.dev.dac h).at_ = some x → x + 250000 ≤ s.dev.now))) ∧
    /- 5 -/ (∃ (h : Half) (s : State), (s.dev.dacFrozen h = true ∨
        ((s.dev.dac h).target (s.dev.g (aplPg h) Reg.APL.CODE) / 2 ^ 32).toNat % 2 ^ 24 = s.dev.g (aplPg h) Reg.APL.CODE ∨ ∃ x,
        (s.dev.dac h).at_ = some x ∧ s.dev.now < x + 250000)) ∧
    /- 6 -/ (∃ (m : Master) (h : Half) (v : BitVec 24) (s : State), s.writable m (aplPg h + 0x514)) :=
  ⟨⟨.warp,
      upWith fun d => (((loopAt .warp 0 3 (secs 9 d)).pb (aplPg .warp) Reg.APL.DCTRL_EN true).p (aplPg .warp) Reg.APL.KDAC 1000).p (aplPg .warp) Reg.APL.CMAX 0xFFFFFF,
      by decide +kernel⟩,
    ⟨.warp, upWith fun d => d.pb (aplPg .warp) Reg.APL.DCTRL_EN true, by decide +kernel⟩,
    ⟨.warp, up, by decide +kernel⟩,
    ⟨.warp,
      upWith fun d => { ((loopAt .warp 0 3 (secs 9 d)).pb (aplPg .warp) Reg.APL.DCTRL_EN true).p (aplPg .warp) Reg.APL.KDAC 1000 with dacs := ⟨{ acc := some (2 ^ 32 * 0x8005) }, {}⟩ },
      by dsimp only; decide +kernel⟩,
    ⟨.warp, up, by decide +kernel⟩,
    ⟨.spi, .warp, BitVec.ofNat 24 sysPg, up, by unfold State.writable; decide +kernel⟩⟩

theorem witness_BoundsAreSampledExchangedAndSigned :
    /- 1 -/ (∃ (h : Half) (n : Fin 16) (s : State), s.dev.loopsRun h = true) ∧
    /- 2 -/ (∃ (h : Half) (n : Fin 16) (s : State), s.dev.loopsRun h = false) ∧
    /- 3 -/ (∃ (s : State), s.dev.boundServes .warp = true ∧ s.dev.boundServes .weft = true) ∧
    /- 4 -/ (∃ (ok : Bool) (s : State), (s.dev.boundServes .warp = false ∨ s.dev.boundServes .weft = false)) ∧
    /- 5 -/ (∃ (s : State), s.dev.exch.joint = true ∧ s.dev.boundServes .warp = true ∧ s.dev.boundServes .weft = true ∧ (s.dev.exch.set).isSome = true) ∧
    /- 6 -/ (∃ (s : State), s.dev.exch.joint = true ∧ s.dev.boundServes .warp = true ∧ s.dev.boundServes .weft = true ∧ s.dev.exch.set = none) ∧
    /- 7 -/ (∃ (s : State), (s.dev.exch.joint = false ∨ s.dev.boundServes .warp = false ∨ s.dev.boundServes .weft = false)) ∧
    /- 8 -/ (∃ (b : Fin 4) (s : State),
      let h := mbxHalf b.val
      let st := s.dev.chaef.of h
      let sec := s.dev.sec .warp 0
      ∃ c ∈ ((s.dev.mb b.val).waiting 0x0140), s.dev.coresRun h = true ∧ c.len = 5 ∧ (s.dev.slot h 1).valid = true ∧
        s.dev.keysOff h = false ∧ s.dev.bootsOk = true ∧ st.seq < 0xFFFFFFFF ∧ (if st.sec = sec then st.n else 0) < s.dev.attRate h sec) ∧
    /- 9 -/ (∃ (b : Fin 4) (s : State),
      let h := mbxHalf b.val
      let st := s.dev.chaef.of h
      let bad := !(s.dev.slot h 1).valid || s.dev.keysOff h || !s.dev.bootsOk || decide (0xFFFFFFFF ≤ st.seq)
      ∃ c ∈ ((s.dev.mb b.val).waiting 0x0140), s.dev.coresRun h = true ∧ (c.len ≠ 5 ∨ bad = true)) ∧
    /- 10 -/ (∃ (b : Fin 4) (s : State),
      let h := mbxHalf b.val
      let st := s.dev.chaef.of h
      let sec := s.dev.sec .warp 0
      ∃ c ∈ ((s.dev.mb b.val).waiting 0x0140), s.dev.coresRun h = true ∧ c.len = 5 ∧ (s.dev.slot h 1).valid = true ∧
        s.dev.keysOff h = false ∧ s.dev.bootsOk = true ∧ st.seq < 0xFFFFFFFF ∧ s.dev.attRate h sec ≤ (if st.sec = sec then st.n else 0)) ∧
    /- 11 -/ (∃ (b : Fin 4) (s : State), ((s.dev.mb b.val).waiting 0x0140 = none ∨ s.dev.coresRun (mbxHalf b.val) = false)) :=
  ⟨⟨.warp, 4, up, by decide +kernel⟩,
    ⟨.weft, 7, upWith fun d => { secs 9 d with half := ⟨d.half.warp, { safe := true }⟩, flt := ⟨{ resetAt := some 5 }, {}⟩ },
      by decide +kernel⟩,
    ⟨up, by decide +kernel⟩,
    ⟨true, upWith fun d => { secs 9 d with half := ⟨d.half.warp, { safe := true }⟩, flt := ⟨{ resetAt := some 5 }, {}⟩ }, by decide +kernel⟩,
    ⟨upWith fun d => { secs 9 d with exch := { joint := true, set := some ⟨List.replicate 16 5, List.replicate 16 7, List.replicate 16 2⟩ } },
      by decide +kernel⟩,
    ⟨upWith fun d => { secs 9 d with exch := { joint := true } }, by decide +kernel⟩,
    ⟨up, by decide +kernel⟩,
    ⟨0,
      upWith fun d => { (cmd 0 0x140 [1, 2, 3, 4, 5] (secs 9 d)).p (bndPg .warp) Reg.BND.ATTCFG 10 |>.pb (cadPg .warp) Reg.CAD.CSTAT_KEYS_READY true with cads := ⟨{ slots := [(1, { valid := true })] }, {}⟩ },
      by dsimp only; decide +kernel⟩,
    ⟨0, upWith fun d => cmd 0 0x140 [1, 2, 3, 4, 5] (secs 9 d), by dsimp only; decide +kernel⟩,
    ⟨0,
      upWith fun d => { cmd 0 0x140 (List.replicate 5 7) (secs 9 d) with cads := ⟨{ slots := [(1, { valid := true })] }, {}⟩, chaef := ⟨{ sec := 9, n := 64 }, {}⟩ },
      by dsimp only; decide +kernel⟩,
    ⟨2, up, by decide +kernel⟩⟩

theorem witness_BandsFollowTheirClocksAndLevels :
    /- 1 -/ (∃ (b : Fin 4) (s : State), s.dev.gb (gnfB b.val) Reg.GNF.BSTAT_CLK_OK = true ∧ s.dev.gnssOn = true ∧ s.dev.bandGood b.val = false) ∧
    /- 2 -/ (∃ (b : Fin 4) (s : State), (s.dev.gb (gnfB b.val) Reg.GNF.BSTAT_CLK_OK = false ∨ s.dev.gnssOn = false ∨ s.dev.bandGood b.val = true)) ∧
    /- 3 -/ (∃ (b : Fin 4) (s : State), s.dev.gb (gnfB b.val) Reg.GNF.BSTAT_CLK_OK = false ∧ s.dev.bandOn b.val = true ∧ s.dev.gnssOn = true ∧
        (∃ x ∈ ((s.dev.band b.val).goodAt), x + 250000 ≤ s.dev.now ∧ s.dev.bandGood b.val = true)) ∧
    /- 4 -/ (∃ (b : Fin 4) (edges : Bool) (s : State), (s.dev.gb (gnfB b.val) Reg.GNF.BSTAT_CLK_OK = true ∨ s.dev.bandOn b.val = false ∨
        s.dev.gnssOn = false ∨ edges = false ∨ (∀ x,
        (s.dev.band b.val).goodAt = some x → s.dev.now < x + 250000) ∨ s.dev.bandGood b.val = false)) ∧
    /- 5 -/ (∃ (b : Fin 4) (n : Nat) (s : State), s.dev.bandOn b.val = true ∧ s.dev.gnssOn = true ∧ 0 < n) ∧
    /- 6 -/ (∃ (b : Fin 4) (n : Nat) (s : State), (s.dev.bandOn b.val = false ∨ s.dev.gnssOn = false ∨ n = 0)) ∧
    /- 7 -/ (∃ (b : Fin 4) (samples : List Byte) (s : State), s.dev.bandOn b.val = true ∧ s.dev.gnssOn = true ∧ samples ≠ []) ∧
    /- 8 -/ (∃ (b : Fin 4) (samples : List Byte) (second : Option (List Byte)) (s : State), (s.dev.bandOn b.val = false ∨ s.dev.gnssOn = false ∨
        samples = [])) ∧
    /- 9 -/ (∃ (b : Fin 4) (samples : List Byte) (second : Option (List Byte)) (s : State), s.dev.bandOn b.val = true ∧ s.dev.gnssOn = true ∧
        samples ≠ []) :=
  ⟨⟨1, upWith fun d => chanIn 5 2 1 (chanIn 6 2 0 (bandUp 1 d)), by decide +kernel⟩,
    ⟨2, up, by decide +kernel⟩,
    ⟨0,
      upWith fun d => { ((secs 9 d).pb (gnfB 0) Reg.GNF.BCFG_EN true).p (gnfB 0) Reg.GNF.SRATE 10000000 with bands := [(0, { goodAt := some 5 })], caps := [(20, { prev0 := some (8 * 10 ^ 9 * 2 ^ 32), prevEc := 5, stamp0 := some (9 * 10 ^ 9 * 2 ^ 32), stampEc := 10000005 })] },
      by decide +kernel⟩,
    ⟨2, true, up, by decide +kernel⟩,
    ⟨1, 1000000, upWith fun d => chanIn 5 2 1 (chanIn 6 2 0 (bandUp 1 d)), by decide +kernel⟩,
    ⟨2, 2 ^ 62, up, by decide +kernel⟩,
    ⟨1, [1, 2, 3], upWith fun d => chanIn 5 2 1 (chanIn 6 2 0 (bandUp 1 d)), by decide +kernel⟩,
    ⟨2, txDesc 3 0, none, up, by decide +kernel⟩,
    ⟨1, [1, 2, 3], some [1,2,3,4], upWith fun d => chanIn 5 2 1 (chanIn 6 2 0 (bandUp 1 d)), by decide +kernel⟩⟩

theorem witness_NotchesAndBandSettingsReachChannels :
    /- 1 -/ (∃ (b : Fin 4) (sps : List (List Nat)) (s : State), s.dev.bandOn b.val = true ∧ s.dev.gnssOn = true ∧ sps.length = 16 ∧ (∀ l ∈ sps,
        l.length = 1024)) ∧
    /- 2 -/ (∃ (b : Fin 4) (sps : List (List Nat)) (s : State), (s.dev.bandOn b.val = false ∨ s.dev.gnssOn = false ∨ sps.length ≠ 16 ∨ (∃ l ∈ sps,
        l.length ≠ 1024))) ∧
    /- 3 -/ (∃ (m : Master) (b : Fin 4) (k : Fin 8) (r : Fin 3) (v : Word) (s : State), s.writable m (gnfN b.val k.val + 4 * r.val)) ∧
    /- 4 -/ (∃ (m : Master) (b : Fin 4) (r : Fin 3) (v : Word) (s : State), s.writable m (gnfB b.val + 4 * r.val)) :=
  ⟨⟨1, List.replicate 16 ((List.replicate 1024 10).set 5 100000), upWith fun d => bandUp 1 d, by decide +kernel⟩,
    ⟨2, List.replicate 16 ((List.replicate 1024 10).set 5 100000), up, by decide +kernel⟩,
    ⟨.spi, 0, 2, 2, 0#32, up, by unfold State.writable; decide +kernel⟩,
    ⟨.spi, 0, 0, 12#32, up, by unfold State.writable; decide +kernel⟩⟩

theorem witness_AcquisitionJobsRunAndReport :
    /- 1 -/ (∃ (m : Master) (s : State), s.writable m (gnaPg + 0x118) ∧ s.dev.gnssOn = true ∧ s.dev.jobRefusal s.dev.stagedJob = 0) ∧
    /- 2 -/ (∃ (m : Master) (s : State), s.writable m (gnaPg + 0x118) ∧ s.dev.gnssOn = true ∧ s.dev.jobRefusal s.dev.stagedJob ≠ 0) ∧
    /- 3 -/ (∃ (m : Master) (s : State), s.writable m (gnaPg + 0x118) ∧ s.dev.gnssOn = false) ∧
    /- 4 -/ (∃ (m : Master) (s : State), s.writable m (gnaPg + 0x118)) ∧
    /- 5 -/ (∃ (x : AcqSeen) (s : State), ∃ r ∈ (s.dev.acq.run), r.dwell = none ∧ r.start + r.job.tc * r.job.nnc ≤ s.dev.gnssMs) ∧
    /- 6 -/ (∃ (x : AcqSeen) (s : State), (∀ r, s.dev.acq.run = some r → r.dwell.isSome = true ∨ s.dev.gnssMs < r.start + r.job.tc * r.job.nnc)) ∧
    /- 7 -/ (∃ (x : AcqSeen) (s : State), (s.dev.gnssOn = false ∨ (∀ r, s.dev.acq.run = some r → r.dwell = none ∨
        s.dev.gnssMs < r.start + r.job.tc * r.job.nnc))) ∧
    /- 9 -/ (∃ (x : AcqSeen) (s : State), s.dev.gnssOn = true ∧ (∃ r ∈ (s.dev.acq.run), ∃ k ∈ (r.dwell), r.start + r.job.tc * r.job.nnc ≤ s.dev.gnssMs)) ∧
    /- 10 -/ (∃ (c : Nat) (sig : Nat) (sv : Nat) (b : Nat) (ms : Nat) (code : Nat) (dop : Int) (x : AcqSeen) (s : State), c < 256 ∧ b < 4 ∧
        s.dev.fwPass ms = true ∧ s.dev.chState c = 0 ∧ s.dev.gb (gntC c) Reg.GNT.CCFG_OWNER = false ∧ s.dev.bandOn b = true ∧
        svOk sig sv = true ∧ s.dev.chanOut c = false) ∧
    /- 11 -/ (∃ (c : Nat) (sig : Nat) (sv : Nat) (b : Nat) (ms : Nat) (code : Nat) (dop : Int) (x : AcqSeen) (s : State),
        (s.dev.fwPass ms && s.dev.chState c == 0 && !(s.dev.gb (gntC c) Reg.GNT.CCFG_OWNER) && s.dev.bandOn b && svOk sig sv &&
        !(s.dev.chanOut c)) = false) ∧
    /- 12 -/ (∃ (m : Master) (s : State), s.writable m (gnaPg + 0x130)) :=
  ⟨⟨.pf0,
      upWith fun d => secs 9 (((((((((((d.pb (gnfB 0) Reg.GNF.BCFG_EN true).p (gnfB 0) Reg.GNF.CENTRE 1575420000).p (gnfB 0) Reg.GNF.SRATE 100000000).p gnaPg Reg.GNA.JOB0_SV 5).p gnaPg Reg.GNA.JOB1_CLEN 100).p gnaPg Reg.GNA.JOB3_DSTEP 100).p gnaPg Reg.GNA.JOB4_TC 1).p gnaPg Reg.GNA.JOB4_NNC 2)))),
      by unfold State.writable; decide +kernel⟩,
    ⟨.spi, up, by unfold State.writable; decide +kernel⟩,
    ⟨.pf0, upWith fun d => d.setPage gnfPg { isolated := true }, by unfold State.writable; decide +kernel⟩,
    ⟨.spi, up, by unfold State.writable; decide +kernel⟩,
    ⟨⟨5, 7, 3000⟩,
      upWith fun d => { secs 9 d with acq := { run := some { job := ⟨0, 5, 1, false, 0, 3, 0, 1, 0, 0, 100, 1, 1, 5, false⟩, start := 0 } } },
      by decide +kernel⟩,
    ⟨⟨5, 7, 3000⟩, up, by decide +kernel⟩,
    ⟨⟨5, 7, 3000⟩, up, by decide +kernel⟩,
    ⟨⟨40, 0, 4000⟩,
      upWith fun d => { secs 9 d with acq := { run := some { job := ⟨0, 5, 1, false, 0, 3, 0, 1, 0, 0, 100, 1, 1, 5, false⟩, start := 0, dwell := some { ratio := 40, code := 0, dop := 0, cn0 := 4500 } } } },
      by decide +kernel⟩,
    ⟨7, 2, 1, 0, 2 ^ 62 + 50000000, 2 ^ 62 + 30000000, 7, ⟨40, 0, 4000⟩,
      upWith fun d => secs 9 (((armed .warp 3 6 0 4 7 d).p gnsPg Reg.GNS.SNCFG_BANDS 1).pb (gnfB 0) Reg.GNF.BCFG_EN true |>.pb (gnfB 0) Reg.GNF.BSTAT_CLK_OK true),
      by decide +kernel⟩,
    ⟨50000000000, 2 ^ 62, 2200, 77, 1000000, 9, 0, ⟨5, 7, 3000⟩, up, by decide +kernel⟩,
    ⟨.spi, up, by unfold State.writable; decide +kernel⟩⟩

theorem witness_ChannelsTrackAndAreAllocated :
    /- 1 -/ (∃ (c : Fin 256) (x : ChanSeen) (s : State), s.dev.gnssOn = true ∧ s.dev.chState c.val ≠ 0) ∧
    /- 2 -/ (∃ (c : Fin 256) (x : ChanSeen) (s : State), (s.dev.gnssOn = false ∨ s.dev.chState c.val = 0)) ∧
    /- 3 -/ (∃ (m : Master) (c : Fin 256) (s : State), s.writable m (gntC c.val)) ∧
    /- 4 -/ (∃ (m : Master) (c : Fin 256) (v : Bool) (s : State), s.writable m (gntC c.val)) ∧
    /- 5 -/ (∃ (m : Master) (i : Fin 8) (v : Word) (s : State), s.writable m (pageAddr .gnt .warp i.val + 0x904)) ∧
    /- 6 -/ (∃ (c : Fin 256) (delay : Nat) (amp : Nat) (ok : Bool) (s : State), s.dev.gnssOn = true ∧ s.dev.chState c.val ≠ 0 ∧
        (s.dev.chan c.val).fitSec ≠ some (s.dev.sec s.dev.lead 0)) ∧
    /- 7 -/ (∃ (c : Fin 256) (delay : Nat) (amp : Nat) (ok : Bool) (s : State), (s.dev.gnssOn = false ∨ s.dev.chState c.val = 0 ∨
        (s.dev.chan c.val).fitSec = some (s.dev.sec s.dev.lead 0))) ∧
    /- 8 -/ (∃ (views : List SvView) (s : State), s.dev.gnssOn = true ∧ s.dev.gb gnfPg Reg.GNF.ALLOC_AUTO = true) ∧
    /- 9 -/ (∃ (views : List SvView) (s : State), (s.dev.gnssOn = false ∨ s.dev.gb gnfPg Reg.GNF.ALLOC_AUTO = false)) ∧
    /- 10 -/ (∃ (v : SvView) (c0 : Fin 256) (s : State), s.dev.gnssOn = true ∧ s.dev.gb gnfPg Reg.GNF.ALLOC_AUTO = true ∧ s.dev.sigOn v.sig = true ∧
        svOk v.sig v.sv = true ∧ s.dev.g gnfPg Reg.GNF.ALLOC_ELMASK < v.elev ∧ (s.dev.bandFor v).isSome = true ∧
        s.dev.gb (gntC c0.val) Reg.GNT.CCFG_OWNER = false ∧ s.dev.chState c0.val = 0 ∧ s.dev.chanOut c0.val = false) :=
  ⟨⟨70, ⟨false, 40, 3000, false, false, -5⟩, upWith (chanIn 70 1 1), by decide +kernel⟩,
    ⟨72, ⟨true, 90, 4500, false, true, 70000⟩, up, by decide +kernel⟩,
    ⟨.spi, 9, up, by unfold State.writable; decide +kernel⟩,
    ⟨.spi, 9, true, up, by unfold State.writable; decide +kernel⟩,
    ⟨.spi, 4, 1#32, up, by unfold State.writable; decide +kernel⟩,
    ⟨70, 1000000, 2 ^ 62 + 30000000, false, upWith (chanIn 70 1 1), by decide +kernel⟩,
    ⟨72, 2 ^ 62, 2200, true, up, by decide +kernel⟩,
    ⟨[], up, by decide +kernel⟩,
    ⟨[], upWith fun d => d.pb gnfPg Reg.GNF.ALLOC_AUTO false, by decide +kernel⟩,
    ⟨⟨5, 0, 60⟩, 3,
      upWith fun d => (((d.pb (gnfB 0) Reg.GNF.BCFG_EN true).p (gnfB 0) Reg.GNF.CENTRE 1575420000).p (gnfB 0) Reg.GNF.SRATE 100000000).pb gnfPg Reg.GNF.ALLOC_AUTO true,
      by decide +kernel⟩⟩

theorem witness_SolutionsPositionAndDateFloor :
    /- 1 -/ (∃ (i : SolIn) (s : State), s.dev.solDue = true) ∧
    /- 2 -/ (∃ (i : SolIn) (s : State), s.dev.solDue = false) ∧
    /- 3 -/ (∃ (m : Master) (v : Word) (s : State), s.writable m (gnsPg + 0x11C)) ∧
    /- 4 -/ (∃ (s : State), s.dev.coresRun s.dev.lead = true ∧ s.dev.published s.dev.lead 0 < unbounded ∧ s.nv.flashFailed = false) ∧
    /- 5 -/ (∃ (s : State), (s.dev.coresRun s.dev.lead = false ∨ unbounded ≤ s.dev.published s.dev.lead 0 ∨ s.nv.flashFailed = true)) :=
  ⟨⟨⟨[70,71,72,73], [⟨[70,71,72,73], 9000000000000, [1000000], [1000000], 410, 100, ⟨1,2,3⟩, 60, [], []⟩], 60, [(.lnav, 9)], some ⟨37, 100000, 38⟩⟩,
      up, by decide +kernel⟩,
    ⟨⟨[], [], 0, [], none⟩, upWith fun d => d.setPage gnfPg { isolated := true }, by decide +kernel⟩,
    ⟨.spi, 3#32, up, by unfold State.writable; decide +kernel⟩,
    ⟨upWith fun d => (secs 1700000000 d).p (tsuB .warp 0) Reg.TSU.BOUND 100, by decide +kernel⟩,
    ⟨up, by decide +kernel⟩⟩

theorem witness_SnapshotsCaptureAndAreProcessed :
    /- 1 -/ (∃ (m : Master) (s : State), s.writable m (gnsPg + 0x204) ∧ (
        let bands := ((List.range 4).filter fun b => bitAt (s.dev.g gnsPg Reg.GNS.SNCFG_BANDS) b && s.dev.bandOn b).foldl
          (fun m b => m + 2 ^ b) 0
        let len := s.dev.snapLength bands (clampNat 2 20 (s.dev.g gnsPg Reg.GNS.SNCFG_LEN))
        let refuse := if s.dev.g gnsPg Reg.GNS.SNSTAT_STATE ≠ 0 then 1 else if s.dev.gnssOn = false then 4
          else if bands = 0 then 2 else if len < 2 then 3 else 0
        refuse = 0)) ∧
    /- 2 -/ (∃ (m : Master) (s : State), s.writable m (gnsPg + 0x204) ∧ (
        let bands := ((List.range 4).filter fun b => bitAt (s.dev.g gnsPg Reg.GNS.SNCFG_BANDS) b && s.dev.bandOn b).foldl
          (fun m b => m + 2 ^ b) 0
        let len := s.dev.snapLength bands (clampNat 2 20 (s.dev.g gnsPg Reg.GNS.SNCFG_LEN))
        let refuse := if s.dev.g gnsPg Reg.GNS.SNSTAT_STATE ≠ 0 then 1 else if s.dev.gnssOn = false then 4
          else if bands = 0 then 2 else if len < 2 then 3 else 0
        refuse ≠ 0)) ∧
    /- 3 -/ (∃ (m : Master) (samples : List (List Byte)) (s : State), s.writable m (gnsPg + 0x204) ∧ s.dev.g gnsPg Reg.GNS.SNSTAT_STATE = 1) ∧
    /- 4 -/ (∃ (m : Master) (samples : List (List Byte)) (s : State), s.writable m (gnsPg + 0x204) ∧ s.dev.g gnsPg Reg.GNS.SNSTAT_STATE = 2) ∧
    /- 5 -/ (∃ (m : Master) (samples : List (List Byte)) (s : State), s.writable m (gnsPg + 0x204) ∧ s.dev.g gnsPg Reg.GNS.SNSTAT_STATE ≠ 1 ∧
        s.dev.g gnsPg Reg.GNS.SNSTAT_STATE ≠ 2) ∧
    /- 6 -/ (∃ (samples : List (List Byte)) (s : State), s.dev.g gnsPg Reg.GNS.SNSTAT_STATE = 1) ∧
    /- 7 -/ (∃ (samples : List (List Byte)) (s : State), s.dev.g gnsPg Reg.GNS.SNSTAT_STATE ≠ 1) ∧
    /- 8 -/ (∃ (b : Fin 4) (r : SnapSol) (s : State), ∃ c ∈ ((s.dev.mb b.val).waiting 0x0210), s.dev.coresRun (mbxHalf b.val) = true ∧ c.len = 0 ∧
        s.dev.gnssOn = true ∧ s.dev.snap.box = some (b.val, c.id) ∧ s.dev.g gnsPg Reg.GNS.SNSTAT_STATE = 2) ∧
    /- 9 -/ (∃ (b : Fin 4) (r : SnapSol) (s : State), ∃ c ∈ ((s.dev.mb b.val).waiting 0x0210), s.dev.coresRun (mbxHalf b.val) = true ∧ (c.len ≠ 0 ∨
        s.dev.gnssOn = false ∨ s.dev.snap.box ≠ some (b.val, c.id) ∨ s.dev.g gnsPg Reg.GNS.SNSTAT_STATE ≠ 2)) ∧
    /- 10 -/ (∃ (b : Fin 4) (r : SnapSol) (s : State), ((s.dev.mb b.val).waiting 0x0210 = none ∨ s.dev.coresRun (mbxHalf b.val) = false)) :=
  ⟨⟨.spi,
      upWith fun d => secs 9 (((armed .warp 3 6 0 4 7 d).p gnsPg Reg.GNS.SNCFG_BANDS 1).pb (gnfB 0) Reg.GNF.BCFG_EN true |>.pb (gnfB 0) Reg.GNF.BSTAT_CLK_OK true),
      by dsimp only; unfold State.writable; decide +kernel⟩,
    ⟨.spi, up, by dsimp only; unfold State.writable; decide +kernel⟩,
    ⟨.spi, [[], [], [], []], upWith fun d => d.p gnsPg Reg.GNS.SNSTAT_STATE 1, by unfold State.writable; decide +kernel⟩,
    ⟨.spi, [[], [], [], []],
      upWith fun d => { (cmd 0 0x210 [] d).p gnsPg Reg.GNS.SNSTAT_STATE 2 with snap := { bands := 3, complete := true, box := some (0, 1) } },
      by unfold State.writable; decide +kernel⟩,
    ⟨.spi, [[], [], [], []], up, by unfold State.writable; decide +kernel⟩,
    ⟨[[], [], [], []], upWith fun d => d.p gnsPg Reg.GNS.SNSTAT_STATE 1, by decide +kernel⟩,
    ⟨[[], [], [], []], up, by decide +kernel⟩,
    ⟨0, ⟨false, 0, 0, 0⟩,
      upWith fun d => { (cmd 0 0x210 [] d).p gnsPg Reg.GNS.SNSTAT_STATE 2 with snap := { bands := 3, complete := true, box := some (0, 1) } },
      by decide +kernel⟩,
    ⟨0, ⟨true, 6, 20, 12345⟩, upWith (cmd 0 0x210 []), by decide +kernel⟩,
    ⟨2, ⟨false, 0, 0, 0⟩, up, by decide +kernel⟩⟩

theorem witness_LinksDelaysEsmcAndSnapshots :
    /- 1 -/ (∃ (p : Fin 8) (x : LinkSeen) (held : Nat) (s : State), s.dev.portMode p.val ≠ 0 ∧ s.dev.enabled (pcsPg p.val) = true ∧
        s.dev.planeUp (portHalf p.val) = true ∧ s.dev.gb (pcsPg p.val) Reg.PCS.PSTAT_REFUSED = false ∧ s.dev.portUp p.val = false ∧
        linkGood x (modeLanes (s.dev.portMode p.val)) = true ∧ max 1 (s.dev.g (pcsPg p.val) Reg.PCS.UPHOLD) ≤ held) ∧
    /- 2 -/ (∃ (p : Fin 8) (x : LinkSeen) (held : Nat) (s : State), (s.dev.portMode p.val = 0 ∨ s.dev.enabled (pcsPg p.val) = false ∨
        s.dev.planeUp (portHalf p.val) = false ∨ s.dev.gb (pcsPg p.val) Reg.PCS.PSTAT_REFUSED = true ∨ s.dev.portUp p.val = true ∨
        linkGood x (modeLanes (s.dev.portMode p.val)) = false ∨ held < max 1 (s.dev.g (pcsPg p.val) Reg.PCS.UPHOLD))) ∧
    /- 3 -/ (∃ (p : Fin 8) (x : LinkSeen) (s : State), (s.dev.portUp p.val = false ∨ linkGood x (modeLanes (s.dev.portMode p.val)) = true)) ∧
    /- 4 -/ (∃ (p : Fin 8) (x : LinkSeen) (s : State), s.dev.portUp p.val = true ∧ linkGood x (modeLanes (s.dev.portMode p.val)) = false) ∧
    /- 5 -/ (∃ (p : Fin 8) (align : Nat) (skews : List Int) (tx : Nat) (s : State), (s.dev.portUp p.val = false ∨
        s.dev.gb (pcsPg p.val) Reg.PCS.PSTAT_DLY_VALID = true)) ∧
    /- 6 -/ (∃ (p : Fin 8) (align : Nat) (skews : List Int) (tx : Nat) (s : State), s.dev.portUp p.val = true ∧
        s.dev.gb (pcsPg p.val) Reg.PCS.PSTAT_DLY_VALID = false) ∧
    /- 7 -/ (∃ (m : Master) (p : Fin 8) (v : Word) (s : State), s.writable m (pcsPg p.val + 0x100)) ∧
    /- 8 -/ (∃ (p : Fin 8) (ssm : Nat) (essm : Option Nat) (s : State), s.dev.portUp p.val = true ∧ s.dev.gb (pcsPg p.val) Reg.PCS.ESMC_RX_EN = true) ∧
    /- 9 -/ (∃ (p : Fin 8) (ssm : Nat) (essm : Option Nat) (s : State), (s.dev.portUp p.val = false ∨
        s.dev.gb (pcsPg p.val) Reg.PCS.ESMC_RX_EN = false)) ∧
    /- 10 -/ (∃ (p : Fin 8) (s : State), (s.dev.count (portHalf p.val) 0 < (s.dev.port p.val).esmcAt + 5 * secUnit ∨
        s.dev.gb (pcsPg p.val) Reg.PCS.RX_QL_TIMEOUT = true)) ∧
    /- 11 -/ (∃ (p : Fin 8) (s : State), (s.dev.port p.val).esmcAt + 5 * secUnit ≤ s.dev.count (portHalf p.val) 0 ∧
        s.dev.gb (pcsPg p.val) Reg.PCS.RX_QL_TIMEOUT = false) ∧
    /- 12 -/ (∃ (p : Fin 8) (s : State), s.dev.gb (pcsPg p.val) Reg.PCS.ESMC_TX_EN = true ∧ s.dev.portUp p.val = true ∧
        s.dev.coresRun (portHalf p.val) = true ∧ s.dev.returning (portHalf p.val) = false ∧
        (s.dev.port p.val).infoSec ≠ some (s.dev.sec (portHalf p.val) 0)) ∧
    /- 13 -/ (∃ (p : Fin 8) (s : State), s.dev.gb (pcsPg p.val) Reg.PCS.ESMC_TX_EN = true ∧ s.dev.portUp p.val = true ∧
        s.dev.coresRun (portHalf p.val) = true ∧ s.dev.returning (portHalf p.val) = false ∧ (∃ q ∈ ((s.dev.port p.val).sentQl),
        q ≠ s.dev.txQl p.val)) ∧
    /- 14 -/ (∃ (p : Fin 8) (s : State),
      let off := s.dev.gb (pcsPg p.val) Reg.PCS.ESMC_TX_EN = false ∨ s.dev.portUp p.val = false ∨
        s.dev.coresRun (portHalf p.val) = false ∨ s.dev.returning (portHalf p.val) = true
      (off ∨ (s.dev.port p.val).infoSec = some (s.dev.sec (portHalf p.val) 0))) ∧
    /- 15 -/ (∃ (p : Fin 8) (s : State),
      let off := s.dev.gb (pcsPg p.val) Reg.PCS.ESMC_TX_EN = false ∨ s.dev.portUp p.val = false ∨
        s.dev.coresRun (portHalf p.val) = false ∨ s.dev.returning (portHalf p.val) = true
      (off ∨ (s.dev.port p.val).sentQl = none ∨ (s.dev.port p.val).sentQl = some (s.dev.txQl p.val))) ∧
    /- 16 -/ (∃ (m : Master) (p : Fin 8) (s : State), s.writable m (macPg p.val + 0x148)) ∧
    /- 17 -/ (∃ (m : Master) (h : Half) (s : State), s.writable m (macPg h.num + 0x148)) :=
  ⟨⟨2, ⟨true, true, false, false, false, 0⟩, macPg 0, upWith fun d => d.p (pcsPg 2) Reg.PCS.PCFG_MODE 2, by decide +kernel⟩,
    ⟨6, ⟨true, true, false, false, false, 0⟩, 2200, up, by decide +kernel⟩,
    ⟨6, ⟨true, true, false, false, false, 0⟩, up, by decide +kernel⟩,
    ⟨3, ⟨false, true, false, false, false, 0⟩, upWith fun d => linked 3 2 (secs 9 d), by decide +kernel⟩,
    ⟨6, 2 ^ 62, [], 77, up, by decide +kernel⟩,
    ⟨2, 2200, [5, -7], 5, upWith fun d => (linked 2 2 d).pb (pcsPg 2) Reg.PCS.PSTAT_DLY_VALID false, by decide +kernel⟩,
    ⟨.spi, 4, 1#32, up, by unfold State.writable; decide +kernel⟩,
    ⟨3, 0, some 0, upWith fun d => linked 3 2 (secs 9 d), by decide +kernel⟩,
    ⟨6, 2 ^ 62, some 5, up, by decide +kernel⟩,
    ⟨6, up, by decide +kernel⟩,
    ⟨2, upWith fun d => (linked 2 2 (secs 9 d)).pb (pcsPg 2) Reg.PCS.RX_QL_TIMEOUT false, by decide +kernel⟩,
    ⟨2, upWith fun d => (linked 2 2 (secs 9 d)).pb (pcsPg 2) Reg.PCS.ESMC_TX_EN true, by decide +kernel⟩,
    ⟨2, upWith fun d => { (linked 2 2 (secs 9 d)).pb (pcsPg 2) Reg.PCS.ESMC_TX_EN true with ports := [(2, { sentQl := some (3, 3) })] },
      by decide +kernel⟩,
    ⟨6, up, by dsimp only; decide +kernel⟩,
    ⟨6, up, by dsimp only; decide +kernel⟩,
    ⟨.spi, 4, up, by unfold State.writable; decide +kernel⟩,
    ⟨.spi, .warp, up, by unfold State.writable; decide +kernel⟩⟩

theorem witness_FramesAreClassifiedQueuedAndSent :
    /- 1 -/ (∃ (p : Fin 8) (f : RxFrame) (s : State), s.dev.portUp p.val = true) ∧
    /- 2 -/ (∃ (p : Fin 8) (f : RxFrame) (s : State), s.dev.portUp p.val = false) ∧
    /- 3 -/ (∃ (p : Fin 8) (f : RxFrame) (s : State), s.dev.portUp p.val = true ∧ s.dev.rxFlags p.val f ≠ 0) ∧
    /- 4 -/ (∃ (p : Fin 8) (f : RxFrame) (s : State), s.dev.portUp p.val = true ∧ s.dev.rxFlags p.val f ≠ 0 ∧ f.bytes.length + 4 < 64 ∧
        s.dev.gb (macPg p.val) Reg.MAC.MCFG_ERR_DELIVER = false) ∧
    /- 5 -/ (∃ (p : Fin 8) (f : RxFrame) (n : Nat) (j : Fin 4) (s : State),
      let h := portHalf p.val
      let c := s.dev.classOf h (p.val / 2) (ethHdr f.bytes) (some n)
      s.dev.portUp p.val = true ∧ s.dev.rxFlags p.val f = 0 ∧ flowOf f.bytes = none ∧ s.dev.gb (pcsPg p.val) Reg.PCS.ESMC_RX_EN = false ∧
        s.dev.matchEntry h p.val (msgOf f.bytes) = none ∧ s.dev.gb (swcPg h) Reg.SWC.TCCFG_EN = false ∧
        s.dev.fwdLookup h (ethHdr f.bytes).dst (if (ethHdr f.bytes).tagged then (ethHdr f.bytes).vid else 0) = some n ∧
        s.dev.fwdWord h n 2 % 512 = 2 ^ portOf h j.val ∧ portOf h j.val ≠ p.val ∧ s.dev.portUp (portOf h j.val) = true ∧
        s.dev.gb (swtQ h j.val c) Reg.SWT.QCFG_CT = false ∧ s.dev.admits h j.val c (s.dev.needCells p.val) = true ∧
        s.dev.needCells p.val ≤ s.dev.free_ h) ∧
    /- 6 -/ (∃ (p : Fin 8) (f : RxFrame) (a : Nat) (s : State),
      let h := portHalf p.val
      s.dev.portUp p.val = true ∧ s.dev.rxFlags p.val f = 0 ∧ flowOf f.bytes = none ∧ s.dev.gb (pcsPg p.val) Reg.PCS.ESMC_RX_EN = false ∧
        s.dev.matchEntry h p.val (msgOf f.bytes) = some a ∧ s.dev.svcCase h (s.dev.svcEntry h a) (msgOf f.bytes) = .request ∧
        s.dev.chipReturning h = false ∧ ((s.dev.rxDesc p.val f).v0 || (s.dev.rxDesc p.val f).v1) = true ∧
        s.dev.gb (redPg h) Reg.RED.PRP_RX_EN = false) ∧
    /- 7 -/ (∃ (p : Fin 8) (f : FlowFrame) (s : State), s.dev.portUp p.val = false) ∧
    /- 8 -/ (∃ (p : Fin 8) (q : Nat) (s : State), s.dev.portUp p.val = true) ∧
    /- 9 -/ (∃ (p : Fin 8) (mask : Nat) (qs : List Nat) (s : State), s.dev.portUp p.val = true) ∧
    /- 11 -/ (∃ (p : Fin 8) (c : Fin 9) (s : State), (tget 0 (s.dev.port p.val).fcSent c.val = 0 ∨ s.dev.ingCells p.val c.val ≤ s.dev.xon p.val ∨
        s.dev.tb0 (portHalf p.val) + 1 < tget 0 (s.dev.port p.val).fcSent c.val + s.dev.octets p.val (64 * 0xFFFF) / 2)) ∧
    /- 12 -/ (∃ (p : Fin 8) (c : Fin 9) (s : State), tget 0 (s.dev.port p.val).fcSent c.val ≠ 0 ∧ s.dev.xon p.val < s.dev.ingCells p.val c.val ∧
        tget 0 (s.dev.port p.val).fcSent c.val + s.dev.octets p.val (64 * 0xFFFF) / 2 ≤ s.dev.tb0 (portHalf p.val) + 1) ∧
    /- 13 -/ (∃ (m : Master) (h : Half) (e : Fin 128) (v : Word) (s : State), s.writable m (swcPg h + 0x800 + 16 * e.val + 12)) ∧
    /- 14 -/ (∃ (p : Fin 8) (s : State),
      let d := s.dev.sendEnded p.val
      let h := portHalf p.val
      (d.portUp p.val = false ∨ d.busy p.val = true ∨ d.returning h = true ∨ ((d.port p.val).fcDue = [] ∧ ∀ c df,
        d.pickClass h (p.val / 2) = some (c, df) → (d.queue h (p.val / 2) c).head?.bind (d.stored h) = none))) ∧
    /- 15 -/ (∃ (p : Fin 8) (c : Nat) (q : Nat) (rest : List (Nat × Nat)) (s : State),
      let d := s.dev.sendEnded p.val
      d.portUp p.val = true ∧ d.busy p.val = false ∧ d.returning (portHalf p.val) = false ∧ (d.port p.val).fcDue = (c, q) :: rest) ∧
    /- 16 -/ (∃ (p : Fin 8) (s : State),
      let d := s.dev.sendEnded p.val
      let h := portHalf p.val
      d.portUp p.val = true ∧ d.busy p.val = false ∧ d.returning h = false ∧ (d.port p.val).fcDue = [] ∧
        (∃ z ∈ (d.pickClass h (p.val / 2)), ∃ f ∈ ((d.queue h (p.val / 2) z.1).head?.bind (d.stored h)),
        d.defers p.val f.bytes.length = true)) ∧
    /- 17 -/ (∃ (p : Fin 8) (s : State),
      let d := s.dev.sendEnded p.val
      let h := portHalf p.val
      d.portUp p.val = true ∧ d.busy p.val = false ∧ d.returning h = false ∧ (d.port p.val).fcDue = [] ∧
        (∃ z ∈ (d.pickClass h (p.val / 2)), ∃ f ∈ ((d.queue h (p.val / 2) z.1).head?.bind (d.stored h)),
        d.defers p.val f.bytes.length = false)) ∧
    /- 18 -/ (∃ (h : Half) (i : Nat) (s : State), ∃ f ∈ ((s.dev.plane h).frames[i]?), s.dev.stored h f.id = some f ∧ f.refs ≠ [] ∧
        (∃ since ∈ (f.doneAt), since + ns32 (1000 * max 1 (s.dev.g (swcPg h) Reg.SWC.MCAGE)) ≤ s.dev.tb0 h)) ∧
    /- 19 -/ (∃ (h : Half) (i : Nat) (s : State), (∀ f since, (s.dev.plane h).frames[i]? = some f → f.doneAt = some since →
        s.dev.tb0 h < since + ns32 (1000 * max 1 (s.dev.g (swcPg h) Reg.SWC.MCAGE)))) ∧
    /- 20 -/ (∃ (h : Half) (credit : Bool) (s : State), (s.dev.plane h).bridge = []) ∧
    /- 21 -/ (∃ (h : Half) (i : BridgeItem) (rest : List BridgeItem) (credit : Bool) (s : State), (s.dev.plane h).bridge = i :: rest ∧
        (credit = false ∨ s.dev.planeUp h = false ∨ s.dev.planeUp h.other = false)) ∧
    /- 22 -/ (∃ (h : Half) (i : BridgeItem) (rest : List BridgeItem) (credit : Bool) (s : State), (s.dev.plane h).bridge = i :: rest ∧
        s.dev.planeUp h = true ∧ s.dev.planeUp h.other = true) ∧
    /- 23 -/ (∃ (h : Half) (i : BridgeItem) (rest : List BridgeItem) (credit : Bool) (s : State) (g : GFrame), (s.dev.plane h).bridge = i :: rest ∧
        i = .gated g ∧ portHalf g.port = h.other ∧ s.dev.planeUp h = true ∧ s.dev.planeUp h.other = true) :=
  ⟨⟨3, { bytes := ntpReq, sfd0 := 5, sfd1 := 6, pos := 0 }, upWith fun d => linked 3 2 (secs 9 d), by decide +kernel⟩,
    ⟨6, { bytes := bytesBE 6 0x020304050607 ++ List.replicate 60 9, sfd0 := 5, sfd1 := 6, pos := 0 }, up, by decide +kernel⟩,
    ⟨3, { bytes := List.replicate 40 1, fcsBad := true, sfd0 := 5, sfd1 := 6, pos := 0 }, upWith fun d => linked 3 2 (secs 9 d),
      by decide +kernel⟩,
    ⟨3, { bytes := List.replicate 40 1, fcsBad := true, sfd0 := 5, sfd1 := 6, pos := 0 }, upWith fun d => linked 3 2 (secs 9 d),
      by decide +kernel⟩,
    ⟨0, { bytes := bytesBE 6 0x020304050607 ++ List.replicate 60 9, sfd0 := 5, sfd1 := 6, pos := 0 }, 5, 1,
      upWith fun d => ({ linked 0 2 (linked 2 2 (secs 9 d)) with fwd := [(20, 0x04050607), (21, 0x0203), (22, 4), (23, 0x80000000)] }).pb (pcsPg 0) Reg.PCS.ESMC_RX_EN false,
      by dsimp only; decide +kernel⟩,
    ⟨3, { bytes := ntpReq, sfd0 := 5, sfd1 := 6, pos := 0 }, 0,
      upWith fun d => (ntpEnt .weft 0 { linked 3 2 (secs 9 d) with tracks := [(27, [(2 ^ 64, 5), (0, 0)]), (107, [(2 ^ 64, 6), (0, 0)])] }).pb (pcsPg 3) Reg.PCS.ESMC_RX_EN false,
      by dsimp only; decide +kernel⟩,
    ⟨6, .pause 100, up, by decide +kernel⟩,
    ⟨3, 2, upWith fun d => linked 3 2 (secs 9 d), by decide +kernel⟩,
    ⟨3, 2, [0, 0, 0, 0, 0, 0, 4, 2 ^ 31 + 255], upWith fun d => linked 3 2 (secs 9 d), by decide +kernel⟩,
    ⟨6, 4, up, by decide +kernel⟩,
    ⟨3, 8,
      upWith fun d => { (linked 3 2 (secs 9 d)) with ports := [(3, { fcSent := [(8, 9)] })], planes := ⟨{}, { frames := [⟨1, [1], {}, 2, 9000, 3, 0, [1], none⟩] }⟩ },
      by decide +kernel⟩,
    ⟨.pf0, .warp, 5, 0x80000000, upWith fun d => { d with fwdStage := [(fwdKey .warp 5 0, some 7), (fwdKey .warp 5 1, some 8)] },
      by unfold State.writable; decide +kernel⟩,
    ⟨6, up, by dsimp only; simp only [forall_some2]; decide +kernel⟩,
    ⟨3, 8, 100, [], upWith fun d => { linked 3 2 (secs 9 d) with ports := [(3, { fcDue := [(8, 100)] })] }, by dsimp only; decide +kernel⟩,
    ⟨0,
      upWith fun d => { linked 0 2 (secs 9 d) with planes := ⟨{ frames := [⟨1, List.replicate 60 7, {}, 2, 1, 2, 0, [0], none⟩], queues := [(2, [1])] }, {}⟩, gates := [(0, { held := [⟨1, 0, .reply false, 9000000010, 0, .raw (List.replicate 60 7) none false, [], 0, [], 0, none, none, false, false, 0, 7⟩] })] },
      by dsimp only; decide +kernel⟩,
    ⟨0,
      upWith fun d => { linked 0 2 (secs 9 d) with planes := ⟨{ frames := [⟨1, List.replicate 60 7, {}, 2, 1, 2, 0, [0], none⟩], queues := [(2, [1])] }, {}⟩ },
      by dsimp only; decide +kernel⟩,
    ⟨.warp, 0,
      upWith fun d => { linked 0 2 (secs 9 d) with planes := ⟨{ frames := [⟨1, List.replicate 60 7, {}, 2, 1, 2, 0, [0, 1], some 5⟩], queues := [(2, [1]), (10, [1])] }, {}⟩ },
      by decide +kernel⟩,
    ⟨.warp, 70, up, by simp only [forall_bind]; decide +kernel⟩,
    ⟨.warp, true, up, by decide +kernel⟩,
    ⟨.warp, .gated ⟨1, 3, .reply false, 9, 0, .raw [] none false, [], 0, [], 5, none, none, false, false, 0, 7⟩, [], false,
      upWith fun d => { d with stepgen := ⟨1, 4⟩, planes := ⟨{ bridge := [.gated ⟨1, 3, .reply false, 9, 0, .raw [] none false, [], 0, [], 5, none, none, false, false, 0, 7⟩] }, {}⟩ },
      by decide +kernel⟩,
    ⟨.warp, .mirrorOut [1], [], true, upWith fun d => { d with planes := ⟨{ bridge := [.mirrorOut [1]] }, {}⟩ }, by decide +kernel⟩,
    ⟨.warp, .gated ⟨1, 3, .reply false, 9, 0, .raw [] none false, [], 0, [], 5, none, none, false, false, 0, 7⟩, [], true,
      upWith fun d => { d with stepgen := ⟨1, 4⟩, planes := ⟨{ bridge := [.gated ⟨1, 3, .reply false, 9, 0, .raw [] none false, [], 0, [], 5, none, none, false, false, 0, 7⟩] }, {}⟩ },
      ⟨1, 3, .reply false, 9, 0, .raw [] none false, [], 0, [], 5, none, none, false, false, 0, 7⟩, by decide +kernel⟩⟩

theorem witness_GatesHoldReleaseAndReport :
    /- 1 -/ (∃ (h : Half) (i : Nat) (s : State), (∀ g, (s.dev.plane h).gateIn[i]? = some g → g.mute = false ∧
        s.dev.gateFull g.port (s.dev.gWire h g g.t).length = true)) ∧
    /- 2 -/ (∃ (h : Half) (i : Nat) (s : State), ∃ g ∈ ((s.dev.plane h).gateIn[i]?), g.mute = true) ∧
    /- 3 -/ (∃ (h : Half) (i : Nat) (s : State), ∃ g ∈ ((s.dev.plane h).gateIn[i]?), g.mute = false ∧
        s.dev.gateFull g.port (s.dev.gWire h g g.t).length = false) ∧
    /- 4 -/ (∃ (h : Half) (i : Nat) (s : State), ∃ g ∈ ((s.dev.plane h).gateIn[i]?), portHalf g.port = h ∧ g.port < 8 ∧ s.dev.halfMute h = false ∧
        g.mute = false ∧ s.dev.gateFull g.port (s.dev.gWire h g g.t).length = false ∧ s.dev.gateOn h = true ∧
        s.dev.portUp g.port = true ∧ s.dev.gb (pcsPg g.port) Reg.PCS.PSTAT_DLY_VALID = true ∧
        s.dev.gb (lgtG g.port) Reg.LGT.GSTAT_BLIND = false ∧ g.isReport = false ∧ g.gen = s.dev.stepgen.of h ∧ (∀ tag,
        g.src = .hostAt tag → ns32 g.t ≤ s.dev.tb0 h + ns32 1000000) ∧ (s.dev.tb0 h : Int) ≤ s.dev.deadline g.port g.t ∧
        (s.dev.tb0 h < (s.dev.port g.port).txTo → overlaps (s.dev.window g g.t) ((s.dev.port g.port).txFrom,
        (s.dev.port g.port).txTo) = false) ∧ (∀ x ∈ (s.dev.gate g.port).held, overlaps (s.dev.window g g.t) (s.dev.window x x.t) = false)) ∧
    /- 5 -/ (∃ (h : Half) (i : Nat) (tag : Nat) (s : State), ∃ g ∈ ((s.dev.plane h).gateIn[i]?), portHalf g.port = h ∧ g.port < 8 ∧
        s.dev.halfMute h = false ∧ g.mute = false ∧ s.dev.gateFull g.port (s.dev.gWire h g g.t).length = false ∧ s.dev.gateOn h = true ∧
        s.dev.portUp g.port = true ∧ s.dev.gb (pcsPg g.port) Reg.PCS.PSTAT_DLY_VALID = true ∧
        s.dev.gb (lgtG g.port) Reg.LGT.GSTAT_BLIND = false ∧ g.src = .hostAt tag ∧ g.gen = s.dev.stepgen.of h ∧
        ns32 g.t ≤ s.dev.tb0 h + ns32 1000000 ∧ s.dev.deadline g.port g.t < (s.dev.tb0 h : Int)) ∧
    /- 6 -/ (∃ (p : Fin 8) (s : State), ∃ g ∈ (earliest (s.dev.gate p.val).held), ns32 g.t ≤ s.dev.tb0 (portHalf p.val) ∧ s.dev.portUp p.val = true) ∧
    /- 7 -/ (∃ (p : Fin 8) (s : State), (∀ g, earliest (s.dev.gate p.val).held = some g → s.dev.tb0 (portHalf p.val) < ns32 g.t ∨
        s.dev.portUp p.val = false)) ∧
    /- 8 -/ (∃ (p : Fin 8) (s : State), (s.dev.gb (lgtG p.val) Reg.LGT.GSTAT_BLIND = true ∨ s.dev.gateBlind p.val = false)) ∧
    /- 9 -/ (∃ (p : Fin 8) (s : State), s.dev.gb (lgtG p.val) Reg.LGT.GSTAT_BLIND = false ∧ s.dev.gateBlind p.val = true) ∧
    /- 10 -/ (∃ (m : Master) (p : Fin 8) (s : State), s.writable m (lgtG p.val + 0x30)) :=
  ⟨⟨.warp, 2 ^ 62, up, by decide +kernel⟩,
    ⟨.warp, 0, upWith fun d => { linked 0 2 (secs 9 d) with planes := ⟨{ gateIn := [{ gframe 0 9 with mute := true }] }, {}⟩ },
      by decide +kernel⟩,
    ⟨.warp, 0,
      upWith fun d => { linked 0 2 (secs 9 d) with planes := ⟨{ gateIn := [⟨1, 0, .reply false, 9000500000, 0, .raw (List.replicate 60 7) none false, [], 0, [], 0, none, none, false, false, 0, 7⟩] }, {}⟩ },
      by decide +kernel⟩,
    ⟨.warp, 0,
      upWith fun d => { linked 0 2 (secs 9 d) with planes := ⟨{ gateIn := [⟨1, 0, .reply false, 9000500000, 0, .raw (List.replicate 60 7) none false, [], 0, [], 0, none, none, false, false, 0, 7⟩] }, {}⟩ },
      ⟨1, 0, .reply false, 9000500000, 0, .raw (List.replicate 60 7) none false, [], 0, [], 0, none, none, false, false, 0, 7⟩,
      by decide +kernel, by decide +kernel, by decide +kernel, by decide +kernel, by decide +kernel, by decide +kernel,
      by decide +kernel, by decide +kernel, by decide +kernel, by decide +kernel, by decide +kernel, by decide +kernel,
      (fun tag e => by cases (show GSrc.reply false = .hostAt tag from e)), by decide +kernel, by decide +kernel, by decide +kernel⟩,
    ⟨.warp, 0, 9, upWith fun d => { linked 0 2 (secs 9 d) with planes := ⟨{ gateIn := [gframe 0 8000000000 (.hostAt 9)] }, {}⟩ },
      by decide +kernel⟩,
    ⟨0,
      upWith fun d => { linked 0 2 (secs 9 d) with gates := [(0, { held := [⟨1, 0, .hostAt 9, 8000000000, 0, .raw (List.replicate 60 7) none false, [], 0, [], 0, none, none, false, false, 0, 7⟩] })] },
      by decide +kernel⟩,
    ⟨6, up, by decide +kernel⟩,
    ⟨3, upWith fun d => d.pb (lgtG 3) Reg.LGT.GSTAT_BLIND true, by decide +kernel⟩,
    ⟨6, up, by decide +kernel⟩,
    ⟨.spi, 4, up, by unfold State.writable; decide +kernel⟩⟩

theorem witness_RequestsPassTheirStages :
    /- 1 -/ (∃ (m : Master) (h : Half) (a : Fin 64) (v : Word) (s : State), s.writable m (trsEnt h a.val + 28)) ∧
    /- 2 -/ (∃ (h : Half) (s : State), (s.dev.rsp h).reqs.find? (fun x => x.stage == .arrived) = none) ∧
    /- 3 -/ (∃ (h : Half) (s : State), ∃ r ∈ ((s.dev.rsp h).reqs.find? (fun x => x.stage == .arrived)), s.dev.trsOn h = true ∧
        s.dev.inP0 (trsPg h) = false) ∧
    /- 4 -/ (∃ (h : Half) (s : State), ∃ r ∈ ((s.dev.rsp h).reqs.find? (fun x => x.stage == .arrived)), s.dev.trsOn h = true ∧
        s.dev.inP0 (trsPg h) = true ∧ s.dev.creditsUsed h < 512) ∧
    /- 5 -/ (∃ (h : Half) (s : State), ∃ r ∈ ((s.dev.rsp h).reqs.find? (fun x => x.stage == .arrived)), (s.dev.trsOn h = false ∨
        (s.dev.inP0 (trsPg h) = true ∧ 512 ≤ s.dev.creditsUsed h))) ∧
    /- 6 -/ (∃ (h : Half) (id : Nat) (s : State),
      let is := fun st : Stage => ∃ r, s.dev.req h id = some r ∧ r.stage = st
      (¬ is .parse)) ∧
    /- 7 -/ (∃ (h : Half) (id : Nat) (s : State),
      let is := fun st : Stage => ∃ r, s.dev.req h id = some r ∧ r.stage = st
      (¬ is .classify)) ∧
    /- 8 -/ (∃ (h : Half) (id : Nat) (s : State),
      let is := fun st : Stage => ∃ r, s.dev.req h id = some r ∧ r.stage = st
      (¬ is .rate ∨ s.dev.inP0 (rltPg h) = false)) ∧
    /- 9 -/ (∃ (h : Half) (id : Nat) (s : State),
      let is := fun st : Stage => ∃ r, s.dev.req h id = some r ∧ r.stage = st
      (¬ is .verify)) ∧
    /- 10 -/ (∃ (h : Half) (id : Nat) (s : State),
      let is := fun st : Stage => ∃ r, s.dev.req h id = some r ∧ r.stage = st
      (¬ is .build)) ∧
    /- 11 -/ (∃ (h : Half) (id : Nat) (s : State),
      let is := fun st : Stage => ∃ r, s.dev.req h id = some r ∧ r.stage = st
      (¬ is .seal)) ∧
    /- 12 -/ (∃ (h : Half) (id : Nat) (s : State),
      let is := fun st : Stage => ∃ r, s.dev.req h id = some r ∧ r.stage = st
      (¬ is .late)) ∧
    /- 13 -/ (∃ (h : Half) (id : Nat) (s : State), ∃ r ∈ (s.dev.req h id), r.stage = .parse ∧ parseOk r.ent (msgOf r.bytes) = true) ∧
    /- 14 -/ (∃ (h : Half) (id : Nat) (s : State), ∃ r ∈ (s.dev.req h id), r.stage = .parse ∧ parseOk r.ent (msgOf r.bytes) = false) ∧
    /- 15 -/ (∃ (h : Half) (id : Nat) (s : State), ∃ r ∈ (s.dev.req h id), r.stage = .classify ∧ (msgOf r.bytes).isPtp = false ∧
        (ntpAnswered r.ent (msgOf r.bytes).body).isSome = true) ∧
    /- 16 -/ (∃ (h : Half) (id : Nat) (s : State), ∃ r ∈ (s.dev.req h id), r.stage = .classify ∧ (msgOf r.bytes).isPtp = false ∧
        ntpAnswered r.ent (msgOf r.bytes).body = none) ∧
    /- 17 -/ (∃ (h : Half) (id : Nat) (s : State), ∃ r ∈ (s.dev.req h id), r.stage = .classify ∧ (msgOf r.bytes).isPtp = true ∧ (
        let m := msgOf r.bytes
        let found := (s.dev.ptpService h r.ent (ptpDomain m.body)).bind fun n =>
          (ptpAnswered (s.dev.gb (trsPg h) Reg.TRS.PTPCFG_PAD_REQ) (s.dev.svcCfg h n) m
            (r.origin.isSome || (s.dev.delayGrant h n m).isSome)).map fun k => (n, k)
        (found).isSome = true)) ∧
    /- 18 -/ (∃ (h : Half) (id : Nat) (s : State), ∃ r ∈ (s.dev.req h id), r.stage = .classify ∧ (msgOf r.bytes).isPtp = true ∧ (
        let m := msgOf r.bytes
        let found := (s.dev.ptpService h r.ent (ptpDomain m.body)).bind fun n =>
          (ptpAnswered (s.dev.gb (trsPg h) Reg.TRS.PTPCFG_PAD_REQ) (s.dev.svcCfg h n) m
            (r.origin.isSome || (s.dev.delayGrant h n m).isSome)).map fun k => (n, k)
        found = none)) ∧
    /- 19 -/ (∃ (h : Half) (id : Nat) (credit : Bool) (s : State), ∃ r ∈ (s.dev.req h id), r.stage = .rate ∧ s.dev.inP0 (rltPg h) = true ∧ (
        let rate := (r.prof[0]?.getD 0) % 2 ^ 20
        let pfx := r.prof[2]?.getD 0
        let served := s.dev.bucketServing h (s.dev.bucketIdx h (entBits r.ent 6 20 2) (msgOf r.bytes) pfx)
        let free := rate = 0 ∨ s.dev.enabled (rltPg h) = false ∨
          (r.kind = .delayReq ∧ (s.dev.delayGrant h r.svc (msgOf r.bytes)).isSome = true) ∨ served = none
        free)) ∧
    /- 20 -/ (∃ (h : Half) (id : Nat) (credit : Bool) (s : State), ∃ r ∈ (s.dev.req h id), r.stage = .rate ∧ s.dev.inP0 (rltPg h) = true ∧ (
        let rate := (r.prof[0]?.getD 0) % 2 ^ 20
        let pfx := r.prof[2]?.getD 0
        let served := s.dev.bucketServing h (s.dev.bucketIdx h (entBits r.ent 6 20 2) (msgOf r.bytes) pfx)
        let free := rate = 0 ∨ s.dev.enabled (rltPg h) = false ∨
          (r.kind = .delayReq ∧ (s.dev.delayGrant h r.svc (msgOf r.bytes)).isSome = true) ∨ served = none
        free ∧ s.dev.gb (redPg h) Reg.RED.MIRROR_EN = false)) ∧
    /- 21 -/ (∃ (h : Half) (id : Nat) (credit : Bool) (s : State), ∃ r ∈ (s.dev.req h id), r.stage = .rate ∧ s.dev.inP0 (rltPg h) = true ∧ (
        let rate := (r.prof[0]?.getD 0) % 2 ^ 20
        let pfx := r.prof[2]?.getD 0
        let mean := r.desc.mean.getD 0
        let served := s.dev.bucketServing h (s.dev.bucketIdx h (entBits r.ent 6 20 2) (msgOf r.bytes) pfx)
        let free := rate = 0 ∨ s.dev.enabled (rltPg h) = false ∨
          (r.kind = .delayReq ∧ (s.dev.delayGrant h r.svc (msgOf r.bytes)).isSome = true) ∨ served = none
        (¬ free) ∧ (∃ i ∈ (served),
        let b := (s.dev.bucket h i).refill mean rate (max 1 ((r.prof[1]?.getD 0) % 2 ^ 16))
        65536 ≤ b.tok))) ∧
    /- 22 -/ (∃ (h : Half) (id : Nat) (credit : Bool) (s : State), ∃ r ∈ (s.dev.req h id), r.stage = .rate ∧ s.dev.inP0 (rltPg h) = true ∧ (
        let rate := (r.prof[0]?.getD 0) % 2 ^ 20
        let pfx := r.prof[2]?.getD 0
        let mean := r.desc.mean.getD 0
        let served := s.dev.bucketServing h (s.dev.bucketIdx h (entBits r.ent 6 20 2) (msgOf r.bytes) pfx)
        let free := rate = 0 ∨ s.dev.enabled (rltPg h) = false ∨
          (r.kind = .delayReq ∧ (s.dev.delayGrant h r.svc (msgOf r.bytes)).isSome = true) ∨ served = none
        (¬ free) ∧ (∃ i ∈ (served),
        let b := (s.dev.bucket h i).refill mean rate (max 1 ((r.prof[1]?.getD 0) % 2 ^ 16))
        let kod := r.kind = .ntp ∧ bitAt pfx 16 = true ∧ ∀ k, b.kod = some k → k + ns32 (getBits pfx 24 8 * 10 ^ 9) ≤ mean
        b.tok < 65536 ∧ kod))) ∧
    /- 23 -/ (∃ (h : Half) (id : Nat) (credit : Bool) (s : State), ∃ r ∈ (s.dev.req h id), r.stage = .rate ∧ s.dev.inP0 (rltPg h) = true ∧ (
        let rate := (r.prof[0]?.getD 0) % 2 ^ 20
        let pfx := r.prof[2]?.getD 0
        let mean := r.desc.mean.getD 0
        let served := s.dev.bucketServing h (s.dev.bucketIdx h (entBits r.ent 6 20 2) (msgOf r.bytes) pfx)
        let free := rate = 0 ∨ s.dev.enabled (rltPg h) = false ∨
          (r.kind = .delayReq ∧ (s.dev.delayGrant h r.svc (msgOf r.bytes)).isSome = true) ∨ served = none
        (¬ free) ∧ (∃ i ∈ (served),
        let b := (s.dev.bucket h i).refill mean rate (max 1 ((r.prof[1]?.getD 0) % 2 ^ 16))
        let kod := r.kind = .ntp ∧ bitAt pfx 16 = true ∧ ∀ k, b.kod = some k → k + ns32 (getBits pfx 24 8 * 10 ^ 9) ≤ mean
        b.tok < 65536 ∧ (¬ kod)))) ∧
    /- 24 -/ (∃ (h : Half) (id : Nat) (s : State), ∃ r ∈ (s.dev.req h id), r.stage = .verify ∧ (
        let ptp := r.kind ≠ .ntp ∧ r.kind ≠ .nts
        let asks := cfgBits r.cfg Reg.TRS.AUTH_REQ_AUTH ≠ 0
        (r.kind = .ntp ∨ (ptp ∧ ¬ asks)))) ∧
    /- 25 -/ (∃ (h : Half) (id : Nat) (s : State), ∃ r ∈ (s.dev.req h id), r.stage = .verify ∧ (
        let ptp := r.kind ≠ .ntp ∧ r.kind ≠ .nts
        let asks := cfgBits r.cfg Reg.TRS.AUTH_REQ_AUTH ≠ 0
        ptp ∧ asks ∧ s.dev.keysOff h = false)) ∧
    /- 26 -/ (∃ (h : Half) (id : Nat) (s : State), ∃ r ∈ (s.dev.req h id), r.stage = .verify ∧ r.kind = .nts ∧ s.dev.keysOff h = false) ∧
    /- 27 -/ (∃ (h : Half) (id : Nat) (s : State), ∃ r ∈ (s.dev.req h id), r.stage = .verify ∧ (
        let body := (msgOf r.bytes).body
        let mean := r.desc.mean.getD 0
        let ck := ((fieldOf body 0x0204).getD []).drop 4
        let opened := s.dev.openCookie h mean ck
        let nak := s.dev.keysOff h = false ∧ opened = none ∧ s.dev.gb (trsPg h) Reg.TRS.NTSCFG_NAK_EN = true ∧ r.origin = none
        r.kind = .nts ∧ nak)) ∧
    /- 28 -/ (∃ (h : Half) (id : Nat) (s : State), ∃ r ∈ (s.dev.req h id), r.stage = .verify ∧ (
        let body := (msgOf r.bytes).body
        let mean := r.desc.mean.getD 0
        let ck := ((fieldOf body 0x0204).getD []).drop 4
        let opened := s.dev.openCookie h mean ck
        let good := fun p : List Byte =>
          (Config.sivOpen (p.take 32) [(ntsAuth body).1, (ntsAuth body).2.1] (ntsAuth body).2.2).isSome
        let nak := s.dev.keysOff h = false ∧ opened = none ∧ s.dev.gb (trsPg h) Reg.TRS.NTSCFG_NAK_EN = true ∧ r.origin = none
        let ptp := r.kind ≠ .ntp ∧ r.kind ≠ .nts
        let asks := cfgBits r.cfg Reg.TRS.AUTH_REQ_AUTH ≠ 0
        let fails := (r.kind = .nts ∧ (s.dev.keysOff h = true ∨ (opened = none ∧ ¬ nak) ∨
            ∃ k p, opened = some (k, p) ∧ good p = false)) ∨
          (ptp ∧ asks ∧ (s.dev.keysOff h = true ∨ s.dev.ptpVerified h body mean = none))
        fails)) ∧
    /- 29 -/ (∃ (h : Half) (id : Nat) (s : State), ∃ r ∈ (s.dev.req h id), r.stage = .build ∧ r.kind = .signaling) ∧
    /- 30 -/ (∃ (h : Half) (id : Nat) (s : State), ∃ r ∈ (s.dev.req h id), r.stage = .build ∧ (r.kind = .ntp ∨ r.kind = .nts) ∧
        48 ≤ (msgOf r.bytes).body.length) ∧
    /- 31 -/ (∃ (h : Half) (id : Nat) (s : State), ∃ r ∈ (s.dev.req h id), r.stage = .build ∧ (r.kind = .delayReq ∨ r.kind = .pdelayReq)) ∧
    /- 32 -/ (∃ (h : Half) (id : Nat) (s : State), ∃ r ∈ (s.dev.req h id), r.stage = .seal ∧ (
        let ptp := (r.kind = .delayReq ∨ r.kind = .pdelayReq ∨ r.kind = .signaling) ∧ cfgBits r.cfg Reg.TRS.AUTH_AUTH_EN = 1
        r.nts = none ∧ (¬ ptp))) ∧
    /- 33 -/ (∃ (h : Half) (id : Nat) (s : State), ∃ r ∈ (s.dev.req h id), r.stage = .seal ∧ (
        let mean := r.desc.mean.getD 0
        let ptp := (r.kind = .delayReq ∨ r.kind = .pdelayReq ∨ r.kind = .signaling) ∧ cfgBits r.cfg Reg.TRS.AUTH_AUTH_EN = 1
        let key := match r.nts with
          | some c => s.dev.activeAt h c.fam mean
          | none => if s.dev.keysOff h then none else s.dev.sppSlot h r.spp mean
        (r.nts.isSome = true ∨ ptp) ∧ key = none)) ∧
    /- 34 -/ (∃ (h : Half) (id : Nat) (s : State), ∃ r ∈ (s.dev.req h id), r.stage = .seal ∧ (
        let mean := r.desc.mean.getD 0
        let ptp := (r.kind = .delayReq ∨ r.kind = .pdelayReq ∨ r.kind = .signaling) ∧ cfgBits r.cfg Reg.TRS.AUTH_AUTH_EN = 1
        let key := match r.nts with
          | some c => s.dev.activeAt h c.fam mean
          | none => if s.dev.keysOff h then none else s.dev.sppSlot h r.spp mean
        (r.nts.isSome = true ∨ ptp) ∧ (key).isSome = true)) ∧
    /- 35 -/ (∃ (h : Half) (id : Nat) (s : State), ∃ r ∈ (s.dev.req h id), r.stage = .late ∧ (
        let late := r.probe = false ∧ ∃ g ∈ r.out, g.sealed = true ∧ s.dev.deadline g.port g.t < s.dev.tb0 h
        late)) ∧
    /- 36 -/ (∃ (h : Half) (id : Nat) (s : State), ∃ r ∈ (s.dev.req h id), r.stage = .late ∧ (
        let late := r.probe = false ∧ ∃ g ∈ r.out, g.sealed = true ∧ s.dev.deadline g.port g.t < s.dev.tb0 h
        (¬ late) ∧ s.dev.gateTakes h r.out = false)) ∧
    /- 37 -/ (∃ (h : Half) (id : Nat) (s : State), ∃ r ∈ (s.dev.req h id), r.stage = .late ∧ (
        let late := r.probe = false ∧ ∃ g ∈ r.out, g.sealed = true ∧ s.dev.deadline g.port g.t < s.dev.tb0 h
        (¬ late) ∧ s.dev.gateTakes h r.out = true)) ∧
    /- 38 -/ (∃ (h : Half) (id : Nat) (s : State) (g : GFrame), ∃ r ∈ (s.dev.req h id), r.stage = .late ∧ (
        let late := r.probe = false ∧ ∃ g ∈ r.out, g.sealed = true ∧ s.dev.deadline g.port g.t < s.dev.tb0 h
        (¬ late) ∧ s.dev.gateTakes h r.out = true ∧ r.out = [g] ∧ g.after = none ∧ portHalf g.port = h)) ∧
    /- 39 -/ (∃ (m : Master) (h : Half) (s : State), s.writable m (rltPg h + 0x15C)) ∧
    /- 40 -/ (∃ (m : Master) (h : Half) (w : Fin 4) (v : Word) (s : State), s.writable m (rltPg h + 0x140 + 4 * w.val)) ∧
    /- 41 -/ (∃ (b : Fin 4) (s : State), ((s.dev.mb b.val).waiting 0x0300 = none ∨ s.dev.coresRun (mbxHalf b.val) = false)) ∧
    /- 42 -/ (∃ (b : Fin 4) (s : State), ∃ c ∈ ((s.dev.mb b.val).waiting 0x0300), s.dev.coresRun (mbxHalf b.val) = true ∧ (
        let n := (c.req[0]?.getD 0).toNat / 256 % 4
        let k := s.dev.activeAt (mbxHalf b.val) ((c.req[0]?.getD 0).toNat % 16) (s.dev.tb0 (mbxHalf b.val))
        let code := if c.len ≠ 17 then codeBadLen else if s.dev.keysOff (mbxHalf b.val) then codeNotPermitted
          else if n = 0 ∨ n = 3 ∨ k = none then codeBadArg else codeOK
        code ≠ codeOK)) ∧
    /- 43 -/ (∃ (b : Fin 4) (s : State), ∃ c ∈ ((s.dev.mb b.val).waiting 0x0300), s.dev.coresRun (mbxHalf b.val) = true ∧ (
        let n := (c.req[0]?.getD 0).toNat / 256 % 4
        let k := s.dev.activeAt (mbxHalf b.val) ((c.req[0]?.getD 0).toNat % 16) (s.dev.tb0 (mbxHalf b.val))
        let code := if c.len ≠ 17 then codeBadLen else if s.dev.keysOff (mbxHalf b.val) then codeNotPermitted
          else if n = 0 ∨ n = 3 ∨ k = none then codeBadArg else codeOK
        code = codeOK ∧ (k).isSome = true)) :=
  ⟨⟨.spi, .warp, 26, 12#32, up, by unfold State.writable; decide +kernel⟩,
    ⟨.warp, up, by decide +kernel⟩,
    ⟨.warp, upWith fun d => withReq (ntpAt .arrived) (d.setPage (trsPg .warp) { pstate := 1 }), by decide +kernel⟩,
    ⟨.warp, upWith (withReq (ntpAt .arrived)), by decide +kernel⟩,
    ⟨.warp, upWith fun d => withReq (ntpAt .arrived) (d.setw (trsPg .warp + 8) 0), by decide +kernel⟩,
    ⟨.warp, 2 ^ 62, up, by dsimp only; decide +kernel⟩,
    ⟨.warp, 2 ^ 62, up, by dsimp only; decide +kernel⟩,
    ⟨.warp, 2 ^ 62, up, by dsimp only; decide +kernel⟩,
    ⟨.warp, 2 ^ 62, up, by dsimp only; decide +kernel⟩,
    ⟨.warp, 2 ^ 62, up, by dsimp only; decide +kernel⟩,
    ⟨.warp, 2 ^ 62, up, by dsimp only; decide +kernel⟩,
    ⟨.warp, 2 ^ 62, up, by dsimp only; decide +kernel⟩,
    ⟨.warp, 3, upWith (withReq (ntpAt .parse)), by decide +kernel⟩,
    ⟨.warp, 3, upWith (withReq { ntpAt .parse with bytes := [1, 2, 3] }), by decide +kernel⟩,
    ⟨.warp, 3, upWith (withReq (ntpAt .classify)), by decide +kernel⟩,
    ⟨.warp, 3, upWith (withReq { ntpAt .classify with bytes := ntpReq.take 60 }), by decide +kernel⟩,
    ⟨.warp, 3,
      upWith fun d => ptpServer .warp 2 (withReq { ntpAt .classify with bytes := ptpMsg 1 0 5 0 (List.replicate 10 0), ent := [0, 0, 0, 0, 0, 0, 2 ^ 26 + 4, 2 ^ 31 + 255] } d),
      by dsimp only; decide +kernel⟩,
    ⟨.warp, 3, upWith (withReq { ntpAt .classify with bytes := ptpMsg 1 0 5 0 (List.replicate 10 0) }), by dsimp only; decide +kernel⟩,
    ⟨.warp, 3, true, upWith (withReq { ntpAt .rate with prof := [0, 5, 0] }), by dsimp only; decide +kernel⟩,
    ⟨.warp, 3, true, upWith (withReq { ntpAt .rate with prof := [0, 5, 0] }), by dsimp only; decide +kernel⟩,
    ⟨.warp, 3, true, upWith (withReq { ntpAt .rate with prof := [10, 5, 0] }), by dsimp only; decide +kernel⟩,
    ⟨.warp, 3, true, limited 0x01010000, limitedReq 0x01010000, by decide +kernel, by decide +kernel, by decide +kernel,
    by rw [limited_serving]; decide +kernel, limitedIdx 0x01010000, by rw [limited_serving, limited_idx]; rfl,
    by dsimp only; rw [limited_bucket]; exact ⟨by decide +kernel, by decide +kernel, by decide +kernel, fun k e => nomatch e⟩⟩,
    ⟨.warp, 3, true, limited 0, limitedReq 0, by decide +kernel, by decide +kernel, by decide +kernel,
    by rw [limited_serving]; decide +kernel, limitedIdx 0, by rw [limited_serving, limited_idx]; rfl,
    by dsimp only; rw [limited_bucket]; decide +kernel⟩,
    ⟨.warp, 3, upWith (withReq (ntpAt .verify)), by dsimp only; decide +kernel⟩,
    ⟨.warp, 3, upWith (withReq { ntpAt .verify with kind := .delayReq, cfg := List.replicate 8 0xFFFFFFFF }), by dsimp only; decide +kernel⟩,
    ⟨.warp, 3, upWith (withReq { ntpAt .verify with kind := .nts }), by decide +kernel⟩,
    ⟨.warp, 3,
      upWith fun d => withReq { ntpAt .verify with kind := .nts } ((d.pb (trsPg .warp) Reg.TRS.NTSCFG_NAK_EN true).p (trsPg .warp) Reg.TRS.NTSCFG_FLEET 7),
      by dsimp only; decide +kernel⟩,
    ⟨.warp, 3, upWith fun d => withReq { ntpAt .verify with kind := .nts } (d.pb (cadPg .warp) Reg.CAD.CSTAT_ROOT_FAIL true),
      by dsimp only; simp only [exists_some2]; decide +kernel⟩,
    ⟨.weft, 3, upWith fun d => { d with resp := ⟨{}, { reqs := [{ ntpAt .build with kind := .signaling }] }⟩ }, by decide +kernel⟩,
    ⟨.warp, 3, upWith fun d => withReq { ntpAt .build with lead := 20000 } (secs 9 d), by decide +kernel⟩,
    ⟨.warp, 3, upWith fun d => withReq { ntpAt .build with kind := .delayReq } (secs 9 d), by decide +kernel⟩,
    ⟨.warp, 3, upWith (withReq { ntpAt .seal with out := [gframe 0 9] }), by dsimp only; decide +kernel⟩,
    ⟨.warp, 3, upWith (withReq { ntpAt .seal with kind := .nts, nts := some ⟨[1], [2], [3], [4], 128, 0, false⟩, out := [gframe 0 9] }),
      by dsimp only; decide +kernel⟩,
    ⟨.warp, 3,
      upWith fun d => { withReq { ntpAt .seal with kind := .nts, nts := some ⟨[1], [2], [3], [4], 128, 0, false⟩, out := [gframe 0 9] } d with cads := ⟨{ slots := [(128, { valid := true, act := 0, ret := never })] }, {}⟩ },
      by dsimp only; decide +kernel⟩,
    ⟨.warp, 3, upWith fun d => withReq { ntpAt .late with out := [gframe 0 9 (.reply true)] } (secs 9 d), by dsimp only; decide +kernel⟩,
    ⟨.warp, 3,
      upWith fun d => { withReq { ntpAt .late with out := [gframe 0 9] } d with gates := [(0, { held := List.replicate 256 (gframe 0 9) })] },
      by dsimp only; decide +kernel⟩,
    ⟨.warp, 3, upWith (withReq { ntpAt .late with out := [gframe 0 9] }), by dsimp only; decide +kernel⟩,
    ⟨.warp, 3, upWith (withReq { ntpAt .late with out := [gframe 0 9] }), gframe 0 9, by dsimp only; decide +kernel⟩,
    ⟨.spi, .warp, up, by unfold State.writable; decide +kernel⟩,
    ⟨.spi, .warp, 2, 12#32, up, by unfold State.writable; decide +kernel⟩,
    ⟨2, up, by decide +kernel⟩,
    ⟨0, upWith (cmd 0 0x300 (List.replicate 17 256)), by dsimp only; decide +kernel⟩,
    ⟨0,
      upWith fun d => { cmd 0 0x300 (List.replicate 17 256) d with cads := ⟨{ slots := [(128, { valid := true, act := 0, ret := never, keyid := 77 })] }, {}⟩ },
      by dsimp only; decide +kernel⟩⟩

theorem witness_GrantsAndOriginatedMessages :
    /- 1 -/ (∃ (h : Half) (n : Fin 16) (s : State),
      let cfg := s.dev.svcCfg h n.val
      let per := max 1 (logInterval (signedOf 8 (cfgBits cfg Reg.TRS.INTV_LOGANN)))
      let off := ns32 (1000000 * n.val)
      let i := (s.dev.tb0 h - off) / per * per + off
      let due := s.dev.originates h n.val = true ∧ off ≤ s.dev.tb0 h ∧ tget 0 (s.dev.rsp h).anns n.val ≠ i + 1
      (¬ due)) ∧
    /- 2 -/ (∃ (h : Half) (n : Fin 16) (s : State),
      let cfg := s.dev.svcCfg h n.val
      let per := max 1 (logInterval (signedOf 8 (cfgBits cfg Reg.TRS.INTV_LOGANN)))
      let off := ns32 (1000000 * n.val)
      let i := (s.dev.tb0 h - off) / per * per + off
      let due := s.dev.originates h n.val = true ∧ off ≤ s.dev.tb0 h ∧ tget 0 (s.dev.rsp h).anns n.val ≠ i + 1
      due) ∧
    /- 3 -/ (∃ (h : Half) (n : Fin 4096) (s : State),
      let g := s.dev.grant h n.val
      let i := g.instant g.next
      let due := g.active = true ∧ g.mtype ≠ 2 ∧ i ≤ s.dev.tb0 h ∧ i < g.expiry ∧ s.dev.originates h g.svc = true
      (¬ due)) ∧
    /- 4 -/ (∃ (h : Half) (n : Fin 4096) (s : State),
      let g := s.dev.grant h n.val
      let i := g.instant g.next
      let cfg := s.dev.svcCfg h g.svc
      let due := g.active = true ∧ g.mtype ≠ 2 ∧ i ≤ s.dev.tb0 h ∧ i < g.expiry ∧ s.dev.originates h g.svc = true
      due ∧ s.dev.sealable h cfg i = false) ∧
    /- 5 -/ (∃ (h : Half) (n : Fin 4096) (s : State),
      let g := s.dev.grant h n.val
      let i := g.instant g.next
      let cfg := s.dev.svcCfg h g.svc
      let due := g.active = true ∧ g.mtype ≠ 2 ∧ i ≤ s.dev.tb0 h ∧ i < g.expiry ∧ s.dev.originates h g.svc = true
      due ∧ s.dev.sealable h cfg i = true) ∧
    /- 6 -/ (∃ (h : Half) (s : State), (s.dev.rsp h).follow = []) ∧
    /- 7 -/ (∃ (h : Half) (s : State) (g : GFrame) (rest : List GFrame), (s.dev.rsp h).follow = g :: rest) ∧
    /- 8 -/ (∃ (h : Half) (id : Nat) (s : State), (s.dev.inP0 (grtPg h) = false ∨ (∀ r, s.dev.req h id = some r → r.stage ≠ .build ∨
        r.kind ≠ .signaling))) ∧
    /- 9 -/ (∃ (h : Half) (id : Nat) (s : State), ∃ r ∈ (s.dev.req h id), r.stage = .build ∧ r.kind = .signaling ∧ s.dev.inP0 (grtPg h) = true ∧
        h ≠ s.dev.grantHalf) ∧
    /- 10 -/ (∃ (h : Half) (id : Nat) (s : State), ∃ r ∈ (s.dev.req h id), r.stage = .build ∧ r.kind = .signaling ∧ s.dev.inP0 (grtPg h) = true ∧
        h = s.dev.grantHalf) ∧
    /- 11 -/ (∃ (h : Half) (id : Nat) (s : State) (o : Nat) (v : List Byte), ∃ r ∈ (s.dev.req h id), r.stage = .build ∧ r.kind = .signaling ∧
        s.dev.inP0 (grtPg h) = true ∧ h = s.dev.grantHalf ∧ ptpTlvs (msgOf r.bytes).body = [(o, 4, v)] ∧
        grantType (beAt v 0 1 / 16) = none) ∧
    /- 12 -/ (∃ (h : Half) (id : Nat) (s : State) (o : Nat) (v : List Byte), ∃ r ∈ (s.dev.req h id), r.stage = .build ∧ r.kind = .signaling ∧
        s.dev.inP0 (grtPg h) = true ∧ h = s.dev.grantHalf ∧ ptpTlvs (msgOf r.bytes).body = [(o, 4, v)] ∧ (
        let log := signedOf 8 (beAt v 1 1)
        let low := fun mt => cfgBits r.cfg Reg.TRS.PCFG_UNICAST_NEG = 0 ∨
          (mt = 1 ∧ log < clampInt (-7) 4 (signedOf 8 (cfgBits r.cfg Reg.TRS.GRANT_MINLOGSYNC))) ∨
          (mt = 0 ∧ log < clampInt (-3) 4 (signedOf 8 (cfgBits r.cfg Reg.TRS.GRANT_MINLOGANN)))
        ∃ mt ∈ (grantType (beAt v 0 1 / 16)), low mt)) ∧
    /- 13 -/ (∃ (h : Half) (id : Nat) (s : State) (o : Nat) (v : List Byte), ∃ r ∈ (s.dev.req h id), r.stage = .build ∧ r.kind = .signaling ∧
        s.dev.inP0 (grtPg h) = true ∧ h = s.dev.grantHalf ∧ ptpTlvs (msgOf r.bytes).body = [(o, 4, v)] ∧ (
        let log := signedOf 8 (beAt v 1 1)
        let low := fun mt => cfgBits r.cfg Reg.TRS.PCFG_UNICAST_NEG = 0 ∨
          (mt = 1 ∧ log < clampInt (-7) 4 (signedOf 8 (cfgBits r.cfg Reg.TRS.GRANT_MINLOGSYNC))) ∨
          (mt = 0 ∧ log < clampInt (-3) 4 (signedOf 8 (cfgBits r.cfg Reg.TRS.GRANT_MINLOGANN)))
        ∃ mt ∈ (grantType (beAt v 0 1 / 16)), (¬ low mt) ∧ (s.dev.grantOf h (clientOf r) mt).isSome = true)) ∧
    /- 14 -/ (∃ (h : Half) (id : Nat) (s : State) (o : Nat) (v : List Byte), ∃ r ∈ (s.dev.req h id), r.stage = .build ∧ r.kind = .signaling ∧
        s.dev.inP0 (grtPg h) = true ∧ h = s.dev.grantHalf ∧ ptpTlvs (msgOf r.bytes).body = [(o, 4, v)] ∧ (
        let log := signedOf 8 (beAt v 1 1)
        let low := fun mt => cfgBits r.cfg Reg.TRS.PCFG_UNICAST_NEG = 0 ∨
          (mt = 1 ∧ log < clampInt (-7) 4 (signedOf 8 (cfgBits r.cfg Reg.TRS.GRANT_MINLOGSYNC))) ∨
          (mt = 0 ∧ log < clampInt (-3) 4 (signedOf 8 (cfgBits r.cfg Reg.TRS.GRANT_MINLOGANN)))
        ∃ mt ∈ (grantType (beAt v 0 1 / 16)), (¬ low mt) ∧ s.dev.grantOf h (clientOf r) mt = none ∧ (∀ n < 4096,
          (s.dev.grant h n).active = true))) ∧
    /- 15 -/ (∃ (h : Half) (id : Nat) (s : State) (o : Nat) (v : List Byte) (n : Nat), ∃ r ∈ (s.dev.req h id), r.stage = .build ∧ r.kind = .signaling ∧
        s.dev.inP0 (grtPg h) = true ∧ h = s.dev.grantHalf ∧ ptpTlvs (msgOf r.bytes).body = [(o, 4, v)] ∧ (
        let log := signedOf 8 (beAt v 1 1)
        let low := fun mt => cfgBits r.cfg Reg.TRS.PCFG_UNICAST_NEG = 0 ∨
          (mt = 1 ∧ log < clampInt (-7) 4 (signedOf 8 (cfgBits r.cfg Reg.TRS.GRANT_MINLOGSYNC))) ∨
          (mt = 0 ∧ log < clampInt (-3) 4 (signedOf 8 (cfgBits r.cfg Reg.TRS.GRANT_MINLOGANN)))
        ∃ mt ∈ (grantType (beAt v 0 1 / 16)), (¬ low mt) ∧ s.dev.grantOf h (clientOf r) mt = none ∧ n < 4096 ∧
          (s.dev.grant h n).active = false ∧ (∀ k < n, (s.dev.grant h k).active = true))) ∧
    /- 16 -/ (∃ (h : Half) (id : Nat) (s : State) (o : Nat) (v : List Byte), ∃ r ∈ (s.dev.req h id), r.stage = .build ∧ r.kind = .signaling ∧
        s.dev.inP0 (grtPg h) = true ∧ h = s.dev.grantHalf ∧ ptpTlvs (msgOf r.bytes).body = [(o, 6, v)] ∧ (
        let mine := (grantType (beAt v 0 1 / 16)).bind (s.dev.grantOf h (clientOf r))
        mine = none)) ∧
    /- 17 -/ (∃ (h : Half) (id : Nat) (s : State) (o : Nat) (v : List Byte), ∃ r ∈ (s.dev.req h id), r.stage = .build ∧ r.kind = .signaling ∧
        s.dev.inP0 (grtPg h) = true ∧ h = s.dev.grantHalf ∧ ptpTlvs (msgOf r.bytes).body = [(o, 6, v)] ∧ (
        let mine := (grantType (beAt v 0 1 / 16)).bind (s.dev.grantOf h (clientOf r))
        (mine).isSome = true)) ∧
    /- 18 -/ (∃ (h : Half) (n : Fin 4096) (s : State),
      let g := s.dev.grant h n.val
      (g.active = false ∨ s.dev.tb0 h < g.expiry ∨ s.dev.grantOwes h g = true)) ∧
    /- 19 -/ (∃ (h : Half) (n : Fin 4096) (s : State),
      let g := s.dev.grant h n.val
      g.active = true ∧ g.expiry ≤ s.dev.tb0 h ∧ s.dev.grantOwes h g = false) ∧
    /- 20 -/ (∃ (m : Master) (h : Half) (n : Fin 4096) (s : State), s.writable m (grtPg h + 0x11C) ∧ (
        let g := s.dev.grant h n.val
        let acts := g.active = true ∧ (h = .weft → s.dev.outOfService .warp = true)
        (¬ acts))) ∧
    /- 21 -/ (∃ (m : Master) (h : Half) (n : Fin 4096) (s : State), s.writable m (grtPg h + 0x11C) ∧ (
        let g := s.dev.grant h n.val
        let acts := g.active = true ∧ (h = .weft → s.dev.outOfService .warp = true)
        acts)) ∧
    /- 22 -/ (∃ (ok : Bool) (s : State),
      let src := s.dev.grantHalf
      let ms := s.dev.tb0 src / ns32 1000000 + 1
      (s.dev.rsp src).copied = ms) ∧
    /- 23 -/ (∃ (ok : Bool) (s : State),
      let src := s.dev.grantHalf
      let ms := s.dev.tb0 src / ns32 1000000 + 1
      let whole := ok = true ∧ s.dev.outOfService src = false ∧ s.dev.planeUp src.other = true
      (s.dev.rsp src).copied ≠ ms ∧ (¬ whole)) ∧
    /- 24 -/ (∃ (ok : Bool) (s : State),
      let src := s.dev.grantHalf
      let ms := s.dev.tb0 src / ns32 1000000 + 1
      let whole := ok = true ∧ s.dev.outOfService src = false ∧ s.dev.planeUp src.other = true
      (s.dev.rsp src).copied ≠ ms ∧ whole) ∧
    /- 25 -/ (∃ (s : State),
      let due := s.dev.outOfService .warp = false ∧ (s.dev.rsp .weft).copyLost = false ∧
        (s.dev.rsp .weft).copyAt + ns32 4000000 ≤ s.dev.tb0 .weft
      (¬ due)) ∧
    /- 26 -/ (∃ (s : State),
      let due := s.dev.outOfService .warp = false ∧ (s.dev.rsp .weft).copyLost = false ∧
        (s.dev.rsp .weft).copyAt + ns32 4000000 ≤ s.dev.tb0 .weft
      due) ∧
    /- 27 -/ (∃ (h : Half) (s : State), (∀ r ∈ (s.dev.rsp h).held.head?, s.dev.tb0 h < r.at_ + ns32 (min 2000 (s.dev.g (redPg h) Reg.RED.PRP_HOLD_NS)))) ∧
    /- 28 -/ (∃ (h : Half) (r : Req) (rest : List Req) (s : State), (s.dev.rsp h).held = r :: rest ∧
        r.at_ + ns32 (min 2000 (s.dev.g (redPg h) Reg.RED.PRP_HOLD_NS)) ≤ s.dev.tb0 h) :=
  ⟨⟨.warp, 4, up, by dsimp only; decide +kernel⟩,
    ⟨.warp, 2, upWith fun d => secs 9 (ptpServer .warp 2 (armed .warp 3 5 (2 ^ (portOf .warp 1)) 2 7 d)), by dsimp only; decide +kernel⟩,
    ⟨.warp, 9, up, by dsimp only; decide +kernel⟩,
    ⟨.warp, 5,
      upWith fun d => { ((ptpServer .warp 2 (secs 9 d)).pb (trsV .warp 2) Reg.TRS.AUTH_AUTH_EN true).pb (cadPg .warp) Reg.CAD.CSTAT_ROOT_FAIL true with grants := [(5, { active := true, mtype := 0, svc := 2, start := 8000000000, expiry := 9999000000000 * 2 ^ 32 })] },
      by dsimp only; decide +kernel⟩,
    ⟨.warp, 5,
      upWith fun d => { ptpServer .warp 2 (secs 9 d) with grants := [(5, { active := true, mtype := 0, svc := 2, start := 8000000000, expiry := 9999000000000 * 2 ^ 32 })] },
      by dsimp only; decide +kernel⟩,
    ⟨.warp, up, by decide +kernel⟩,
    ⟨.warp, upWith fun d => { d with resp := ⟨{ follow := [gframe 2 9, gframe 4 9] }, {}⟩ }, gframe 2 9, [gframe 4 9], by decide +kernel⟩,
    ⟨.warp, 2 ^ 62, up, by decide +kernel⟩,
    ⟨.weft, 3, upWith fun d => { d with resp := ⟨{}, { reqs := [{ ntpAt .build with kind := .signaling }] }⟩ }, by decide +kernel⟩,
    ⟨.warp, 3,
      upWith fun d => ptpServer .warp 2 (withReq { ntpAt .build with kind := .signaling, bytes := ptpMsg 0xC 0 5 0 (List.replicate 10 255 ++ bytesBE 2 4 ++ bytesBE 2 6 ++ [0x90, 0, 0, 0, 0, 60]), svc := 2, cfg := [257, 0, 0, 0, 300, 0] } (secs 9 d)),
      by decide +kernel⟩,
    ⟨.warp, 3,
      upWith fun d => ptpServer .warp 2 (withReq { ntpAt .build with kind := .signaling, bytes := ptpMsg 0xC 0 5 0 (List.replicate 10 255 ++ bytesBE 2 4 ++ bytesBE 2 6 ++ [0x30, 0, 0, 0, 0, 60]), svc := 2, cfg := [257, 0, 0, 0, 300, 0] } (secs 9 d)),
      44, [0x30, 0, 0, 0, 0, 60], by decide +kernel⟩,
    ⟨.warp, 3,
      upWith fun d => ptpServer .warp 2 (withReq { ntpAt .build with kind := .signaling, bytes := ptpMsg 0xC 0 5 0 (List.replicate 10 255 ++ bytesBE 2 4 ++ bytesBE 2 6 ++ [0xB0, 0, 0, 0, 0, 60]), svc := 2, cfg := [0, 0, 0, 0, 300, 0] } (secs 9 d)),
      44, [0xB0, 0, 0, 0, 0, 60], by dsimp only; decide +kernel⟩,
    ⟨.warp, 3,
      upWith fun d => { ptpServer .warp 2 (withReq { ntpAt .build with kind := .signaling, bytes := ptpMsg 0xC 0 5 0 (List.replicate 10 255 ++ bytesBE 2 4 ++ bytesBE 2 6 ++ [0x90, 0, 0, 0, 0, 60]), svc := 2, cfg := (List.replicate 8 0xFFFFFFFF) } (secs 9 d)) with grants := [(7, { clientOf { ntpAt .build with kind := .signaling, bytes := ptpMsg 0xC 0 5 0 (List.replicate 10 255 ++ bytesBE 2 4 ++ bytesBE 2 6 ++ [0x90, 0, 0, 0, 0, 60]), svc := 2, cfg := (List.replicate 8 0xFFFFFFFF) } with active := true, mtype := 2, logint := 0 })] },
      44, [0x90, 0, 0, 0, 0, 60], by dsimp only; decide +kernel⟩,
    ⟨.warp, 3, fullGrants, 44, [0x90, 0, 0, 0, 0, 60], asking (List.replicate 8 0xFFFFFFFF), by decide +kernel, by decide +kernel,
    by decide +kernel, by decide +kernel, by decide +kernel, by decide +kernel, 2, by decide +kernel, by decide +kernel,
    fullGrants_other _, fullGrants_active⟩,
    ⟨.warp, 3,
      upWith fun d => ptpServer .warp 2 (withReq { ntpAt .build with kind := .signaling, bytes := ptpMsg 0xC 0 5 0 (List.replicate 10 255 ++ bytesBE 2 4 ++ bytesBE 2 6 ++ [0x90, 0, 0, 0, 0, 60]), svc := 2, cfg := (List.replicate 8 0xFFFFFFFF) } (secs 9 d)),
      44, [0x90, 0, 0, 0, 0, 60], 0, by dsimp only; decide +kernel⟩,
    ⟨.warp, 3,
      upWith fun d => ptpServer .warp 2 (withReq { ntpAt .build with kind := .signaling, bytes := ptpMsg 0xC 0 5 0 (List.replicate 10 255 ++ bytesBE 2 6 ++ bytesBE 2 2 ++ [0x90, 0]), svc := 2, cfg := (List.replicate 8 0xFFFFFFFF) } (secs 9 d)),
      44, [0x90, 0], by dsimp only; decide +kernel⟩,
    ⟨.warp, 3,
      upWith fun d => { ptpServer .warp 2 (withReq { ntpAt .build with kind := .signaling, bytes := ptpMsg 0xC 0 5 0 (List.replicate 10 255 ++ bytesBE 2 6 ++ bytesBE 2 2 ++ [0x90, 0]), svc := 2, cfg := (List.replicate 8 0xFFFFFFFF) } (secs 9 d)) with grants := [(7, { clientOf { ntpAt .build with kind := .signaling, bytes := ptpMsg 0xC 0 5 0 (List.replicate 10 255 ++ bytesBE 2 6 ++ bytesBE 2 2 ++ [0x90, 0]), svc := 2, cfg := (List.replicate 8 0xFFFFFFFF) } with active := true, mtype := 2, logint := 1 })] },
      44, [0x90, 0], by dsimp only; decide +kernel⟩,
    ⟨.warp, 9, up, by dsimp only; decide +kernel⟩,
    ⟨.weft, 7, upWith fun d => { d with grants := [(5, { active := true, gen := 3 }), (4096 + 7, { active := true })] },
      by dsimp only; decide +kernel⟩,
    ⟨.spi, .warp, 1, up, by dsimp only; unfold State.writable; decide +kernel⟩,
    ⟨.pf0, .warp, 7, upWith fun d => { d with grants := [(7, { active := true })] }, by dsimp only; unfold State.writable; decide +kernel⟩,
    ⟨true, upWith fun d => { secs 9 d with resp := ⟨{ copied := 9001 }, {}⟩ }, by dsimp only; decide +kernel⟩,
    ⟨true, upWith fun d => { secs 9 d with half := ⟨d.half.warp, { safe := true }⟩, flt := ⟨{ resetAt := some 5 }, {}⟩ },
      by dsimp only; decide +kernel⟩,
    ⟨true, up, by dsimp only; decide +kernel⟩,
    ⟨up, by dsimp only; decide +kernel⟩,
    ⟨upWith (secs 1000), by dsimp only; decide +kernel⟩,
    ⟨.warp, up, by decide +kernel⟩,
    ⟨.warp, ntpAt .arrived, [], upWith fun d => { secs 9 d with resp := ⟨{ held := [ntpAt .arrived], nextId := 7 }, {}⟩ },
      by decide +kernel⟩⟩

theorem witness_InstancesFollowTheirParent :
    /- 1 -/ (∃ (h : Half) (k : Fin 4) (s : State), (s.dev.instTake h k.val [0xB]).2 = none) ∧
    /- 2 -/ (∃ (h : Half) (k : Fin 4) (s : State), (s.dev.instTake h k.val [0, 8]).2 = none) ∧
    /- 3 -/ (∃ (h : Half) (k : Fin 4) (s : State), (s.dev.instTake h k.val [9, 3, 0xA]).2 = none) ∧
    /- 4 -/ (∃ (h : Half) (k : Fin 4) (s : State) (types : List Nat),
        ((s.dev.inst h k.val).rx.all fun x => !(types.contains (ptpType (msgOf x.2).body))) = true) ∧
    /- 5 -/ (∃ (h : Half) (k : Fin 4) (s : State), ∃ x ∈ ((s.dev.instTake h k.val [0xB]).2), (s.dev.instSvc h k.val).isSome = true) ∧
    /- 6 -/ (∃ (h : Half) (k : Fin 4) (s : State),
      let st := s.dev.inst h k.val
      let heard := st.parent.bind fun p => st.masters.find? fun x => x.source == p.source
      (∀ f, heard = some f → s.dev.fresh h k.val f = true)) ∧
    /- 7 -/ (∃ (h : Half) (k : Fin 4) (s : State),
      let st := s.dev.inst h k.val
      let heard := st.parent.bind fun p => st.masters.find? fun x => x.source == p.source
      ∃ f ∈ (heard), s.dev.fresh h k.val f = false) ∧
    /- 8 -/ (∃ (h : Half) (k : Fin 4) (s : State), ∃ x ∈ ((s.dev.instTake h k.val [0, 8]).2),
      let b := x.2.body
      let st := s.dev.inst h k.val
      let mine := st.fromParent x.2 = true ∧ s.dev.instFlow h k.val 1 x.2 = true
      (¬ mine ∨ (ptpType b ≠ 8 ∧ x.1.of h = none) ∨ (ptpType b = 8 ∧ ∀ seq t2 corr, st.waitSync = some (seq, t2, corr) → seq ≠ ptpSeq b))) ∧
    /- 9 -/ (∃ (h : Half) (k : Fin 4) (s : State), ∃ x ∈ ((s.dev.instTake h k.val [0, 8]).2),
      let b := x.2.body
      let st := s.dev.inst h k.val
      let mine := st.fromParent x.2 = true ∧ s.dev.instFlow h k.val 1 x.2 = true
      mine ∧ ptpType b ≠ 8 ∧ (∃ t2 ∈ (x.1.of h), bitAt (beAt b 6 1) 1 = false)) ∧
    /- 10 -/ (∃ (h : Half) (k : Fin 4) (s : State), ∃ x ∈ ((s.dev.instTake h k.val [0, 8]).2),
      let b := x.2.body
      let st := s.dev.inst h k.val
      let mine := st.fromParent x.2 = true ∧ s.dev.instFlow h k.val 1 x.2 = true
      mine ∧ ptpType b ≠ 8 ∧ (∃ t2 ∈ (x.1.of h), bitAt (beAt b 6 1) 1 = true)) ∧
    /- 11 -/ (∃ (h : Half) (k : Fin 4) (s : State), ∃ x ∈ ((s.dev.instTake h k.val [0, 8]).2),
      let b := x.2.body
      let st := s.dev.inst h k.val
      let mine := st.fromParent x.2 = true ∧ s.dev.instFlow h k.val 1 x.2 = true
      mine ∧ ptpType b = 8 ∧ (∃ z ∈ (st.waitSync), z.1 = ptpSeq b)) ∧
    /- 12 -/ (∃ (h : Half) (k : Fin 4) (s : State),
      let st := s.dev.inst h k.val
      let due := st.t1t2.isSome = true ∧ st.syncAt + 3 * logInterval st.syncLog ≤ s.dev.tb0 h
      (¬ due)) ∧
    /- 13 -/ (∃ (h : Half) (k : Fin 4) (s : State),
      let st := s.dev.inst h k.val
      let due := st.t1t2.isSome = true ∧ st.syncAt + 3 * logInterval st.syncLog ≤ s.dev.tb0 h
      due) ∧
    /- 14 -/ (∃ (h : Half) (k : Fin 4) (at_ : Nat) (s : State),
      let c := instC h k.val
      let st := s.dev.inst h k.val
      let at2 := gridUp (ns32 at_)
      let soon := ∃ x, st.reqAt = some x ∧ ns32 at2 < x + logInterval (signedOf 8 (s.dev.g c Reg.TRS.ICFG_LOGDREQ))
      (s.dev.instSvc h k.val = none ∨ portHalf (s.dev.instPort h k.val) ≠ h ∨ st.parent = none ∨ soon)) ∧
    /- 15 -/ (∃ (h : Half) (k : Fin 4) (at_ : Nat) (s : State),
      let c := instC h k.val
      let st := s.dev.inst h k.val
      let at2 := gridUp (ns32 at_)
      let soon := ∃ x, st.reqAt = some x ∧ ns32 at2 < x + logInterval (signedOf 8 (s.dev.g c Reg.TRS.ICFG_LOGDREQ))
      ∃ n ∈ (s.dev.instSvc h k.val), portHalf (s.dev.instPort h k.val) = h ∧ st.parent.isSome = true ∧ (¬ soon)) ∧
    /- 16 -/ (∃ (h : Half) (k : Fin 4) (s : State), ∃ x ∈ ((s.dev.instTake h k.val [9, 3, 0xA]).2),
      let b := x.2.body
      let st := s.dev.inst h k.val
      let mine := fun seq => (sliceB b 44 10 == s.dev.portIdentity h (s.dev.instPort h k.val)) = true ∧ ptpSeq b = seq
      (∀ seq t3, st.req = some (seq, t3) → ¬ mine seq)) ∧
    /- 17 -/ (∃ (h : Half) (k : Fin 4) (s : State), ∃ x ∈ ((s.dev.instTake h k.val [9, 3, 0xA]).2),
      let b := x.2.body
      let st := s.dev.inst h k.val
      let mine := fun seq => (sliceB b 44 10 == s.dev.portIdentity h (s.dev.instPort h k.val)) = true ∧ ptpSeq b = seq
      ∃ z ∈ (st.req), mine z.1 ∧ ptpType b = 9 ∧ (st.t1t2 = none ∨ st.fromParent x.2 = false)) ∧
    /- 18 -/ (∃ (h : Half) (k : Fin 4) (s : State), ∃ x ∈ ((s.dev.instTake h k.val [9, 3, 0xA]).2),
      let b := x.2.body
      let st := s.dev.inst h k.val
      let mine := fun seq => (sliceB b 44 10 == s.dev.portIdentity h (s.dev.instPort h k.val)) = true ∧ ptpSeq b = seq
      ∃ z ∈ (st.req), mine z.1 ∧ ptpType b = 9 ∧ (∃ z ∈ (st.t1t2), st.fromParent x.2 = true)) ∧
    /- 19 -/ (∃ (h : Half) (k : Fin 4) (s : State), ∃ x ∈ ((s.dev.instTake h k.val [9, 3, 0xA]).2),
      let b := x.2.body
      let st := s.dev.inst h k.val
      let mine := fun seq => (sliceB b 44 10 == s.dev.portIdentity h (s.dev.instPort h k.val)) = true ∧ ptpSeq b = seq
      ∃ z ∈ (st.req), mine z.1 ∧ ptpType b = 3 ∧ x.1.of h = none) ∧
    /- 20 -/ (∃ (h : Half) (k : Fin 4) (s : State), ∃ x ∈ ((s.dev.instTake h k.val [9, 3, 0xA]).2),
      let b := x.2.body
      let st := s.dev.inst h k.val
      let mine := fun seq => (sliceB b 44 10 == s.dev.portIdentity h (s.dev.instPort h k.val)) = true ∧ ptpSeq b = seq
      ∃ z ∈ (st.req), mine z.1 ∧ ptpType b = 3 ∧ (∃ t4 ∈ (x.1.of h), bitAt (beAt b 6 1) 1 = false)) ∧
    /- 21 -/ (∃ (h : Half) (k : Fin 4) (s : State), ∃ x ∈ ((s.dev.instTake h k.val [9, 3, 0xA]).2),
      let b := x.2.body
      let st := s.dev.inst h k.val
      let mine := fun seq => (sliceB b 44 10 == s.dev.portIdentity h (s.dev.instPort h k.val)) = true ∧ ptpSeq b = seq
      ∃ z ∈ (st.req), mine z.1 ∧ ptpType b = 3 ∧ (∃ t4 ∈ (x.1.of h), bitAt (beAt b 6 1) 1 = true)) ∧
    /- 22 -/ (∃ (h : Half) (k : Fin 4) (s : State), ∃ x ∈ ((s.dev.instTake h k.val [9, 3, 0xA]).2),
      let b := x.2.body
      let st := s.dev.inst h k.val
      let mine := fun seq => (sliceB b 44 10 == s.dev.portIdentity h (s.dev.instPort h k.val)) = true ∧ ptpSeq b = seq
      ∃ z ∈ (st.req), mine z.1 ∧ ptpType b ≠ 9 ∧ ptpType b ≠ 3 ∧ (∀ q t4 rx corr, st.pd = some (q, t4, rx, corr) → q ≠ z.1)) ∧
    /- 23 -/ (∃ (h : Half) (k : Fin 4) (s : State), ∃ x ∈ ((s.dev.instTake h k.val [9, 3, 0xA]).2),
      let b := x.2.body
      let st := s.dev.inst h k.val
      let mine := fun seq => (sliceB b 44 10 == s.dev.portIdentity h (s.dev.instPort h k.val)) = true ∧ ptpSeq b = seq
      ∃ z ∈ (st.req), mine z.1 ∧ ptpType b ≠ 9 ∧ ptpType b ≠ 3 ∧ (∃ z ∈ (st.pd), z.1 = z.1)) ∧
    /- 24 -/ (∃ (h : Half) (k : Fin 4) (s : State), h ≠ s.dev.lead) ∧
    /- 25 -/ (∃ (h : Half) (k : Fin 4) (s : State), h = s.dev.lead ∧ (s.dev.instTake h k.val [0xC]).2 = none ∧ (
        let asking := s.dev.gb (instC h k.val) Reg.TRS.ICFG_UNICAST = true ∧ s.dev.grantsDue h k.val ≠ []
        (s.dev.instSvc h k.val = none ∨ ¬ asking))) ∧
    /- 26 -/ (∃ (h : Half) (k : Fin 4) (s : State), h = s.dev.lead ∧ (s.dev.instTake h k.val [0xC]).2 = none ∧ (
        let asking := s.dev.gb (instC h k.val) Reg.TRS.ICFG_UNICAST = true ∧ s.dev.grantsDue h k.val ≠ []
        ∃ n ∈ (s.dev.instSvc h k.val), asking)) ∧
    /- 27 -/ (∃ (h : Half) (k : Fin 4) (s : State), h = s.dev.lead ∧ (∃ x ∈ ((s.dev.instTake h k.val [0xC]).2), s.dev.fromAsked h k.val x.2 = false)) ∧
    /- 28 -/ (∃ (h : Half) (k : Fin 4) (s : State) (o : Nat) (ty : Nat) (v : List Byte), h = s.dev.lead ∧ (∃ x ∈ ((s.dev.instTake h k.val [0xC]).2),
        s.dev.fromAsked h k.val x.2 = true ∧ ptpTlvs x.2.body = [(o, ty, v)] ∧ (∃ mt ∈ (grantType (beAt v 0 1 / 16)), ty = 5 ∧
        beAt v 2 4 ≠ 0))) ∧
    /- 29 -/ (∃ (h : Half) (k : Fin 4) (s : State) (o : Nat) (ty : Nat) (v : List Byte), h = s.dev.lead ∧ (∃ x ∈ ((s.dev.instTake h k.val [0xC]).2),
        s.dev.fromAsked h k.val x.2 = true ∧ ptpTlvs x.2.body = [(o, ty, v)] ∧ (∃ mt ∈ (grantType (beAt v 0 1 / 16)), ty = 5 ∧
        beAt v 2 4 = 0))) ∧
    /- 30 -/ (∃ (h : Half) (k : Fin 4) (s : State) (o : Nat) (ty : Nat) (v : List Byte), h = s.dev.lead ∧ (∃ x ∈ ((s.dev.instTake h k.val [0xC]).2),
        s.dev.fromAsked h k.val x.2 = true ∧ ptpTlvs x.2.body = [(o, ty, v)] ∧ (∃ mt ∈ (grantType (beAt v 0 1 / 16)), ty = 6))) ∧
    /- 31 -/ (∃ (m : Master) (h : Half) (k : Fin 4) (w : Fin 16) (v : Word) (s : State), s.writable m (instC h k.val + 4 * w.val) ∧ (
        let a := instC h k.val + 4 * w.val
        let new := mergeWrite a (s.dev.w a) v.toNat
        new ≠ s.dev.w a)) ∧
    /- 32 -/ (∃ (m : Master) (h : Half) (k : Fin 4) (w : Fin 16) (v : Word) (s : State), s.writable m (instC h k.val + 4 * w.val) ∧ (
        let a := instC h k.val + 4 * w.val
        let new := mergeWrite a (s.dev.w a) v.toNat
        new = s.dev.w a)) :=
  ⟨⟨.warp, 0, up, by decide +kernel⟩,
    ⟨.warp, 0, up, by decide +kernel⟩,
    ⟨.warp, 0, up, by decide +kernel⟩,
    ⟨.warp, 0, up, [0, 8], by decide +kernel⟩,
    ⟨.warp, 2, upWith fun d => client 2 [ptpMsg 0xB 0 5 0 (List.replicate 30 0)] {} (secs 9 d), by decide +kernel⟩,
    ⟨.warp, 0, up, by dsimp only; decide +kernel⟩,
    ⟨.warp, 2, upWith fun d => client 2 [] { parent := some master, masters := [master] } (secs 99 d), by dsimp only; decide +kernel⟩,
    ⟨.warp, 2, upWith fun d => client 2 [ptpMsg 0 0 5 0 (List.replicate 10 0)] {  } (secs 9 d),
      by dsimp only; simp only [forall_some3]; decide +kernel⟩,
    ⟨.warp, 2, upWith fun d => client 2 [ptpMsg 0 0 5 0 (List.replicate 10 0)] { parent := some master } (secs 9 d),
      by dsimp only; decide +kernel⟩,
    ⟨.warp, 2, upWith fun d => client 2 [ptpMsg 0 0x200 5 0 (List.replicate 10 0)] { parent := some master } (secs 9 d),
      by dsimp only; decide +kernel⟩,
    ⟨.warp, 2,
      upWith fun d => client 2 [ptpMsg 8 0 5 0 (List.replicate 10 0)] { parent := some master, waitSync := some (5, 7, 9) } (secs 9 d),
      by dsimp only; decide +kernel⟩,
    ⟨.warp, 0, up, by dsimp only; decide +kernel⟩,
    ⟨.warp, 2, upWith fun d => client 2 [] { t1t2 := some (5, 6) } (secs 9 d), by dsimp only; decide +kernel⟩,
    ⟨.warp, 0, 2200, up, by dsimp only; decide +kernel⟩,
    ⟨.warp, 2, 5, upWith fun d => client 2 [] { parent := some master, masters := [master] } (secs 99 d), by dsimp only; decide +kernel⟩,
    ⟨.warp, 2, upWith fun d => client 2 [ptpMsg 9 0 5 0 (List.replicate 10 0 ++ List.replicate 8 0 ++ [0, 1])] {  } (secs 9 d),
      by dsimp only; simp only [forall_some2]; decide +kernel⟩,
    ⟨.warp, 2,
      upWith fun d => client 2 [ptpMsg 9 0 5 0 (List.replicate 10 0 ++ List.replicate 8 0 ++ [0, 1])] { req := some (5, 66) } (secs 9 d),
      by dsimp only; decide +kernel⟩,
    ⟨.warp, 2,
      upWith fun d => client 2 [ptpMsg 9 0 5 0 (List.replicate 10 0 ++ List.replicate 8 0 ++ [0, 1])] { parent := some master, req := some (5, 66), t1t2 := some (55, 77) } (secs 9 d),
      by dsimp only; decide +kernel⟩,
    ⟨.warp, 2,
      upWith fun d => { (client 2 [] {} (secs 9 d)) with insts := [(2, { req := some (5, 66), rx := [({ port := 0 }, ptpMsg 3 0 5 0 (List.replicate 10 0 ++ List.replicate 8 0 ++ [0, 1]))] })] },
      by dsimp only; decide +kernel⟩,
    ⟨.warp, 2,
      upWith fun d => client 2 [ptpMsg 3 0 5 0 (List.replicate 10 0 ++ List.replicate 8 0 ++ [0, 1])] { req := some (5, 66) } (secs 9 d),
      by dsimp only; decide +kernel⟩,
    ⟨.warp, 2,
      upWith fun d => client 2 [ptpMsg 3 512 5 0 (List.replicate 10 0 ++ List.replicate 8 0 ++ [0, 1])] { req := some (5, 66) } (secs 9 d),
      by dsimp only; decide +kernel⟩,
    ⟨.warp, 2,
      upWith fun d => client 2 [ptpMsg 10 0 5 0 (List.replicate 10 0 ++ List.replicate 8 0 ++ [0, 1])] { req := some (5, 66) } (secs 9 d),
      by dsimp only; simp only [forall_some4]; decide +kernel⟩,
    ⟨.warp, 2,
      upWith fun d => client 2 [ptpMsg 10 0 5 0 (List.replicate 10 0 ++ List.replicate 8 0 ++ [0, 1])] { req := some (5, 66), pd := some (5, 77, 3, 4) } (secs 9 d),
      by dsimp only; decide +kernel⟩,
    ⟨.weft, 2, up, by decide +kernel⟩,
    ⟨.warp, 0, up, by dsimp only; decide +kernel⟩,
    ⟨.warp, 2, upWith fun d => (client 2 [] { parent := some master } (secs 9 d)).pb (instC .warp 2) Reg.TRS.ICFG_UNICAST true,
      by dsimp only; decide +kernel⟩,
    ⟨.warp, 2,
      upWith fun d => client 2 [ptpMsg 0xC 0 5 0 (List.replicate 10 255 ++ bytesBE 2 5 ++ bytesBE 2 8 ++ [0x90, 0, 0, 0, 0, 60, 0, 1])] { parent := some master } (secs 9 d),
      by decide +kernel⟩,
    ⟨.warp, 2,
      upWith fun d => (client 2 [ptpMsg 0xC 0 5 0 (List.replicate 10 255 ++ bytesBE 2 5 ++ bytesBE 2 8 ++ [0x90, 0, 0, 0, 0, 60, 0, 1])] { parent := some master } (secs 9 d)).p (instC .warp 2) Reg.TRS.PMAC_HI 0x0200 |>.p (instC .warp 2) Reg.TRS.PMAC_LO 1,
      44, 5, [0x90, 0, 0, 0, 0, 60, 0, 1], by decide +kernel⟩,
    ⟨.warp, 2,
      upWith fun d => (client 2 [ptpMsg 0xC 0 5 0 (List.replicate 10 255 ++ bytesBE 2 5 ++ bytesBE 2 8 ++ [0x90, 0, 0, 0, 0, 0, 0, 1])] { parent := some master } (secs 9 d)).p (instC .warp 2) Reg.TRS.PMAC_HI 0x0200 |>.p (instC .warp 2) Reg.TRS.PMAC_LO 1,
      44, 5, [0x90, 0, 0, 0, 0, 0, 0, 1], by decide +kernel⟩,
    ⟨.warp, 2,
      upWith fun d => (client 2 [ptpMsg 0xC 0 5 0 (List.replicate 10 255 ++ bytesBE 2 6 ++ bytesBE 2 2 ++ [0x90, 0])] { parent := some master } (secs 9 d)).p (instC .warp 2) Reg.TRS.PMAC_HI 0x0200 |>.p (instC .warp 2) Reg.TRS.PMAC_LO 1,
      44, 6, [0x90, 0], by decide +kernel⟩,
    ⟨.fw .weft, .weft, 0, 3, 1#32, up, by dsimp only; unfold State.writable; decide +kernel⟩,
    ⟨.spi, .warp, 2, 9, 0xC00C, up, by dsimp only; unfold State.writable; decide +kernel⟩⟩

theorem witness_KeysLoadRetireAndAreZeroised :
    /- 1 -/ (∃ (b : Fin 4) (w : FlashEnd) (s : State), s.noCommit b.val 0x0400) ∧
    /- 2 -/ (∃ (b : Fin 4) (w : FlashEnd) (s : State), s.noCommit b.val 0x0402) ∧
    /- 3 -/ (∃ (b : Fin 4) (w : FlashEnd) (s : State), s.noCommit b.val 0x0403) ∧
    /- 4 -/ (∃ (b : Fin 4) (w : FlashEnd) (c : FwCmd) (s : State), s.atCommit b.val 0x0400 c ∧ (
        let h := mbxHalf b.val
        let x := blobOf c.req
        let code := if c.len ≠ 28 then codeBadLen
          else if s.dev.keysOff h = true ∨ s.dev.wrongHalf b.val = true then codeNotPermitted
          else if s.dev.blobBad h x = true ∨ s.dev.familyBad h x = true then codeBadArg else codeOK
        code ≠ codeOK)) ∧
    /- 5 -/ (∃ (b : Fin 4) (w : FlashEnd) (c : FwCmd) (s : State), s.atCommit b.val 0x0400 c ∧ (
        let h := mbxHalf b.val
        let x := blobOf c.req
        let code := if c.len ≠ 28 then codeBadLen
          else if s.dev.keysOff h = true ∨ s.dev.wrongHalf b.val = true then codeNotPermitted
          else if s.dev.blobBad h x = true ∨ s.dev.familyBad h x = true then codeBadArg else codeOK
        code = codeOK)) ∧
    /- 6 -/ (∃ (b : Fin 4) (w : FlashEnd) (c : FwCmd) (s : State), s.atCommit b.val 0x0400 c ∧ (
        let h := mbxHalf b.val
        let x := blobOf c.req
        let old := s.dev.slot h x.slot
        let code := if c.len ≠ 28 then codeBadLen
          else if s.dev.keysOff h = true ∨ s.dev.wrongHalf b.val = true then codeNotPermitted
          else if s.dev.blobBad h x = true ∨ s.dev.familyBad h x = true then codeBadArg else codeOK
        code = codeOK ∧ (
        let taken := old.defect = true ∨ (old.valid = true ∧ (old.lock = true ∨ 128 ≤ x.slot))
        taken))) ∧
    /- 7 -/ (∃ (b : Fin 4) (w : FlashEnd) (c : FwCmd) (s : State), s.atCommit b.val 0x0400 c ∧ (
        let h := mbxHalf b.val
        let x := blobOf c.req
        let old := s.dev.slot h x.slot
        let code := if c.len ≠ 28 then codeBadLen
          else if s.dev.keysOff h = true ∨ s.dev.wrongHalf b.val = true then codeNotPermitted
          else if s.dev.blobBad h x = true ∨ s.dev.familyBad h x = true then codeBadArg else codeOK
        code = codeOK ∧ (
        let taken := old.defect = true ∨ (old.valid = true ∧ (old.lock = true ∨ 128 ≤ x.slot))
        (¬ taken)))) ∧
    /- 8 -/ (∃ (b : Fin 4) (w : FlashEnd) (c : FwCmd) (s : State), s.atCommit b.val 0x0400 c ∧ (
        let h := mbxHalf b.val
        let x := blobOf c.req
        let old := s.dev.slot h x.slot
        let code := if c.len ≠ 28 then codeBadLen
          else if s.dev.keysOff h = true ∨ s.dev.wrongHalf b.val = true then codeNotPermitted
          else if s.dev.blobBad h x = true ∨ s.dev.familyBad h x = true then codeBadArg else codeOK
        code = codeOK ∧ (
        let taken := old.defect = true ∨ (old.valid = true ∧ (old.lock = true ∨ 128 ≤ x.slot))
        (¬ taken)))) ∧
    /- 9 -/ (∃ (h : Half) (f : Fin 16) (s : State), (∀ k, s.dev.activeAt h f.val (s.dev.tb0 h) = some k → tget 0 (s.dev.cad h).shown f.val = k + 1)) ∧
    /- 10 -/ (∃ (h : Half) (f : Fin 16) (s : State), ∃ k ∈ (s.dev.activeAt h f.val (s.dev.tb0 h)), tget 0 (s.dev.cad h).shown f.val ≠ k + 1) ∧
    /- 11 -/ (∃ (h : Half) (k : Fin 256) (bad : Bool) (s : State),
      let x := s.dev.slot h k.val
      let ends := fun more => x.valid = true ∧ 128 ≤ k.val ∧ x.ret ≠ never ∧ x.ret * secFrac + more ≤ s.dev.tb0 h
      (¬ ends 0 ∨ x.drain = true)) ∧
    /- 12 -/ (∃ (h : Half) (k : Fin 256) (bad : Bool) (s : State),
      let x := s.dev.slot h k.val
      let ends := fun more => x.valid = true ∧ 128 ≤ k.val ∧ x.ret ≠ never ∧ x.ret * secFrac + more ≤ s.dev.tb0 h
      ends 0 ∧ x.drain = false) ∧
    /- 13 -/ (∃ (h : Half) (k : Fin 256) (bad : Bool) (s : State),
      let x := s.dev.slot h k.val
      let ends := fun more => x.valid = true ∧ 128 ≤ k.val ∧ x.ret ≠ never ∧ x.ret * secFrac + more ≤ s.dev.tb0 h
      (¬ ends (ns32 16000))) ∧
    /- 14 -/ (∃ (h : Half) (k : Fin 256) (bad : Bool) (s : State),
      let x := s.dev.slot h k.val
      let ends := fun more => x.valid = true ∧ 128 ≤ k.val ∧ x.ret ≠ never ∧ x.ret * secFrac + more ≤ s.dev.tb0 h
      ends (ns32 16000)) ∧
    /- 15 -/ (∃ (b : Fin 4) (c : FwCmd) (s : State), s.atCommit b.val 0x0402 c ∧ (
        let h := mbxHalf b.val
        let f := (c.req[0]?.getD 0).toNat % 16
        let g := (c.req[0]?.getD 0).toNat / 256 % 2 ^ 20
        let x := s.dev.slot h (famSlot f g)
        let code := if c.len ≠ 3 then codeBadLen else if s.dev.keysOff h = true then codeNotPermitted
          else if x.presentAt (s.dev.tb0 h) = false ∨ x.keyid % 2 ^ 24 ≠ f * 2 ^ 20 + g then codeBadArg else codeOK
        code ≠ codeOK)) ∧
    /- 16 -/ (∃ (b : Fin 4) (c : FwCmd) (s : State), s.atCommit b.val 0x0402 c ∧ (
        let h := mbxHalf b.val
        let f := (c.req[0]?.getD 0).toNat % 16
        let g := (c.req[0]?.getD 0).toNat / 256 % 2 ^ 20
        let x := s.dev.slot h (famSlot f g)
        let code := if c.len ≠ 3 then codeBadLen else if s.dev.keysOff h = true then codeNotPermitted
          else if x.presentAt (s.dev.tb0 h) = false ∨ x.keyid % 2 ^ 24 ≠ f * 2 ^ 20 + g then codeBadArg else codeOK
        code = codeOK)) ∧
    /- 17 -/ (∃ (m : Master) (h : Half) (v : Word) (s : State), s.writable m (cadPg h + 0x180) ∧ v.toNat.testBit 31 = false) ∧
    /- 18 -/ (∃ (m : Master) (h : Half) (v : Word) (s : State), s.writable m (cadPg h + 0x180) ∧ (
        let first := v.toNat % 256
        let last := v.toNat / 256 % 256
        v.toNat.testBit 31 = true ∧ last < first)) ∧
    /- 19 -/ (∃ (m : Master) (h : Half) (v : Word) (s : State), s.writable m (cadPg h + 0x180) ∧ (
        let first := v.toNat % 256
        let last := v.toNat / 256 % 256
        v.toNat.testBit 31 = true ∧ first ≤ last)) ∧
    /- 21 -/ (∃ (s : State), s.nv.flashFailed = true) ∧
    /- 22 -/ (∃ (s : State), s.nv.flashFailed = false) ∧
    /- 24 -/ (∃ (b : Fin 4) (c : FwCmd) (s : State), s.atCommit b.val 0x0403 c) :=
  ⟨⟨2, .full, up, by unfold State.noCommit; decide +kernel⟩,
    ⟨2, .full, up, by unfold State.noCommit; decide +kernel⟩,
    ⟨2, .full, up, by unfold State.noCommit; decide +kernel⟩,
    ⟨0, .taken, ⟨1, 0x400, 9, 0, [], none⟩, upWith (cmd 0 0x400 []), by dsimp only; unfold State.atCommit; decide +kernel⟩,
    ⟨0, .taken, ⟨1, 0x400, 9, 28, blob 1, none⟩, upWith fun d => rooted (cmd 0 0x400 (blob 1) d),
      by dsimp only; unfold State.atCommit; decide +kernel⟩,
    ⟨0, .taken, ⟨1, 0x400, 9, 28, blob 1, none⟩,
      upWith fun d => { cmd 0 0x400 (blob 1) d with cads := ⟨{ slots := [(2, { valid := true }), (5, { valid := true, lock := true })] }, { slots := [(2, { valid := true })] }⟩ },
      by dsimp only; unfold State.atCommit; decide +kernel⟩,
    ⟨0, .taken, ⟨1, 0x400, 9, 28, blob 1, none⟩, upWith fun d => rooted (cmd 0 0x400 (blob 1) d),
      by dsimp only; unfold State.atCommit; decide +kernel⟩,
    ⟨0, .full, ⟨1, 0x400, 9, 28, blob 1, none⟩, upWith fun d => rooted (cmd 0 0x400 (blob 1) d),
      by dsimp only; unfold State.atCommit; decide +kernel⟩,
    ⟨.warp, 4, up, by decide +kernel⟩,
    ⟨.weft, 0,
      upWith fun d => { secs 9 (cmd 0 0x402 [0, 0, 0] d) with cads := ⟨{ slots := [(128, { valid := true, ret := never })] }, { slots := [(128, { valid := true, ret := never })] }⟩ },
      by decide +kernel⟩,
    ⟨.warp, 9, true, up, by dsimp only; decide +kernel⟩,
    ⟨.warp, 128, true,
      upWith fun d => { secs 9 d with cads := ⟨{ slots := [(128, { valid := true, ret := 8 })] }, { slots := [(128, { valid := true, ret := 8 })] }⟩ },
      by dsimp only; decide +kernel⟩,
    ⟨.warp, 9, true, up, by dsimp only; decide +kernel⟩,
    ⟨.warp, 128, true,
      upWith fun d => { secs 9 d with cads := ⟨{ slots := [(128, { valid := true, ret := 8 })] }, { slots := [(128, { valid := true, ret := 8 })] }⟩ },
      by dsimp only; decide +kernel⟩,
    ⟨0, ⟨1, 0x402, 9, 2, [0, 0], none⟩, upWith (cmd 0 0x402 [0, 0]), by dsimp only; unfold State.atCommit; decide +kernel⟩,
    ⟨0, ⟨1, 0x402, 9, 3, [0, 0, 0], none⟩,
      upWith fun d => { secs 9 (cmd 0 0x402 [0, 0, 0] d) with cads := ⟨{ slots := [(128, { valid := true, ret := never })] }, { slots := [(128, { valid := true, ret := never })] }⟩ },
      by dsimp only; unfold State.atCommit; decide +kernel⟩,
    ⟨.spi, .warp, 1#32, up, by unfold State.writable; decide +kernel⟩,
    ⟨.spi, .warp, 0x80000305#32, up, by dsimp only; unfold State.writable; decide +kernel⟩,
    ⟨.spi, .warp, 0x80010503#32, up, by dsimp only; unfold State.writable; decide +kernel⟩,
    ⟨{ up with nv := { flashFailed := true } }, by decide +kernel⟩,
    ⟨up, by decide +kernel⟩,
    ⟨0, ⟨1, 0x403, 9, 1, [1], none⟩, upWith (cmd 0 0x403 [1]), by unfold State.atCommit; decide +kernel⟩⟩

theorem witness_LifecycleSessionsAndTestPort :
    /- 1 -/ (∃ (b : Fin 4) (s : State), s.noCommit b.val 0x0601) ∧
    /- 2 -/ (∃ (b : Fin 4) (s : State), s.noCommit b.val 0x0602) ∧
    /- 3 -/ (∃ (b : Fin 4) (s : State), s.noCommit b.val 0x0603) ∧
    /- 4 -/ (∃ (b : Fin 4) (s : State), s.noCommit b.val 0x0612) ∧
    /- 5 -/ (∃ (b : Fin 4) (s : State), s.noCommit b.val 0x0610) ∧
    /- 6 -/ (∃ (b : Fin 4) (s : State), s.noCommit b.val 0x0611) ∧
    /- 7 -/ (∃ (b : Fin 4) (s : State), s.noCommit b.val 0x0613) ∧
    /- 8 -/ (∃ (b : Fin 4) (c : FwCmd) (s : State), s.atCommit b.val 0x0601 c ∧ (
        let ok := c.len = 16 ∧ s.dev.wrongHalf b.val = false ∧ s.nv.lifecycle = 2 ∧ s.nv.owner = none
        ok)) ∧
    /- 9 -/ (∃ (b : Fin 4) (c : FwCmd) (s : State), s.atCommit b.val 0x0601 c ∧ (
        let ok := c.len = 16 ∧ s.dev.wrongHalf b.val = false ∧ s.nv.lifecycle = 2 ∧ s.nv.owner = none
        (¬ ok))) ∧
    /- 10 -/ (∃ (b : Fin 4) (c : FwCmd) (s : State), s.atCommit b.val 0x0602 c ∧ (
        let may := s.dev.wrongHalf b.val = false ∧ s.nv.lifecycle = 2 ∧ s.nv.owner ≠ none
        let ok := c.len = 1 ∧ may ∧ (c.req[0]?.getD 0).toNat = 0x4649454C
        ok)) ∧
    /- 11 -/ (∃ (b : Fin 4) (c : FwCmd) (s : State), s.atCommit b.val 0x0602 c ∧ (
        let may := s.dev.wrongHalf b.val = false ∧ s.nv.lifecycle = 2 ∧ s.nv.owner ≠ none
        let ok := c.len = 1 ∧ may ∧ (c.req[0]?.getD 0).toNat = 0x4649454C
        (¬ ok))) ∧
    /- 12 -/ (∃ (b : Fin 4) (c : FwCmd) (s : State), s.atCommit b.val 0x0603 c ∧ (
        let may := s.dev.wrongHalf b.val = false ∧ s.nv.lifecycle ≠ 5
        let ok := c.len = 1 ∧ may ∧ (c.req[0]?.getD 0).toNat = 0x53435250
        ok)) ∧
    /- 13 -/ (∃ (b : Fin 4) (c : FwCmd) (s : State), s.atCommit b.val 0x0603 c ∧ (
        let may := s.dev.wrongHalf b.val = false ∧ s.nv.lifecycle ≠ 5
        let ok := c.len = 1 ∧ may ∧ (c.req[0]?.getD 0).toNat = 0x53435250
        (¬ ok))) ∧
    /- 14 -/ (∃ (b : Fin 4) (c : FwCmd) (s : State), s.atCommit b.val 0x0612 c ∧ c.len ≠ 8) ∧
    /- 15 -/ (∃ (b : Fin 4) (c : FwCmd) (s : State), s.atCommit b.val 0x0612 c ∧ c.len = 8 ∧ s.nv.lifecycle ≠ 3) ∧
    /- 16 -/ (∃ (b : Fin 4) (c : FwCmd) (s : State), s.atCommit b.val 0x0612 c ∧ (
        let soon := ∃ x, s.dev.lcs.pwdAt = some x ∧ s.dev.now < x + ticks1s
        c.len = 8 ∧ s.nv.lifecycle = 3 ∧ (s.dev.lockout = true ∨ soon))) ∧
    /- 17 -/ (∃ (b : Fin 4) (c : FwCmd) (s : State), s.atCommit b.val 0x0612 c ∧ (
        let soon := ∃ x, s.dev.lcs.pwdAt = some x ∧ s.dev.now < x + ticks1s
        let right := s.nv.owner.map (·.1) = some (Config.sha256 (bytesOfWords (c.req.take 8)))
        c.len = 8 ∧ s.nv.lifecycle = 3 ∧ s.dev.lockout = false ∧ (¬ soon) ∧ right)) ∧
    /- 18 -/ (∃ (b : Fin 4) (c : FwCmd) (s : State), s.atCommit b.val 0x0612 c ∧ (
        let soon := ∃ x, s.dev.lcs.pwdAt = some x ∧ s.dev.now < x + ticks1s
        let right := s.nv.owner.map (·.1) = some (Config.sha256 (bytesOfWords (c.req.take 8)))
        c.len = 8 ∧ s.nv.lifecycle = 3 ∧ s.dev.lockout = false ∧ (¬ soon) ∧ (¬ right))) ∧
    /- 19 -/ (∃ (b : Fin 4) (c : FwCmd) (s : State), s.atCommit b.val 0x0610 c ∧ (
        let purpose := (c.req[0]?.getD 0).toNat % 16
        let code := if c.len ≠ 1 then codeBadLen else if s.dev.lockout = true then codeBusy
          else if purposeOk purpose s.nv.lifecycle = false then codeBadArg else codeOK
        code ≠ codeOK)) ∧
    /- 20 -/ (∃ (b : Fin 4) (c : FwCmd) (s : State), s.atCommit b.val 0x0610 c ∧ (
        let purpose := (c.req[0]?.getD 0).toNat % 16
        let code := if c.len ≠ 1 then codeBadLen else if s.dev.lockout = true then codeBusy
          else if purposeOk purpose s.nv.lifecycle = false then codeBadArg else codeOK
        code = codeOK)) ∧
    /- 21 -/ (∃ (b : Fin 4) (c : FwCmd) (s : State), s.atCommit b.val 0x0611 c ∧ c.len ≠ 17) ∧
    /- 22 -/ (∃ (b : Fin 4) (c : FwCmd) (s : State), s.atCommit b.val 0x0611 c ∧ c.len = 17 ∧ s.dev.lockout = true) ∧
    /- 23 -/ (∃ (b : Fin 4) (c : FwCmd) (s : State), s.atCommit b.val 0x0611 c ∧ c.len = 17 ∧ s.dev.lockout = false) ∧
    /- 24 -/ (∃ (b : Fin 4) (c : FwCmd) (s : State), s.atCommit b.val 0x0613 c ∧ c.len ≠ 0) ∧
    /- 25 -/ (∃ (b : Fin 4) (c : FwCmd) (s : State), s.atCommit b.val 0x0613 c ∧ c.len = 0 ∧ s.dev.lcs.session = false) ∧
    /- 26 -/ (∃ (b : Fin 4) (c : FwCmd) (s : State), s.atCommit b.val 0x0613 c ∧ c.len = 0 ∧ s.dev.lcs.session = true) ∧
    /- 27 -/ (∃ (s : State),
      let old := ∃ x p at_, s.dev.lcs.chal = some (x, p, at_) ∧ at_ + 60 * ticks1s ≤ s.dev.now
      (¬ old)) ∧
    /- 28 -/ (∃ (s : State),
      let old := ∃ x p at_, s.dev.lcs.chal = some (x, p, at_) ∧ at_ + 60 * ticks1s ≤ s.dev.now
      old) ∧
    /- 29 -/ (∃ (s : State), s.dev.tapOn = false) ∧
    /- 30 -/ (∃ (s : State), s.dev.tapOn = false) ∧
    /- 31 -/ (∃ (s : State), s.dev.tapOn = false) ∧
    /- 32 -/ (∃ (s : State), s.dev.tapOn = true ∧ s.nv.scrap = false) ∧
    /- 33 -/ (∃ (s : State), s.dev.tapOn = true ∧ s.nv.scrap = false) ∧
    /- 34 -/ (∃ (s : State), s.dev.tapOn = true ∧ s.nv.scrap = true) ∧
    /- 35 -/ (∃ (s : State), s.dev.tapOn = true ∧ s.nv.scrap = true) ∧
    /- 36 -/ (∃ (s : State), s.dev.tapOn = true) ∧
    /- 37 -/ (∃ (s : State) (op : Fin 64) (dr : Nat), s.dev.tapOn = true ∧ (
        let open_ := s.nv.lifecycle = 0 ∨ s.nv.lifecycle = 1 ∨ s.nv.lifecycle = 4 ∨
          (32 ≤ op.val ∧ (s.nv.lifecycle = 2 ∨ (s.nv.lifecycle = 3 ∧ s.dev.lcs.session = true)))
        open_)) ∧
    /- 38 -/ (∃ (s : State) (op : Fin 64) (dr : Nat), s.dev.tapOn = true ∧ (
        let open_ := s.nv.lifecycle = 0 ∨ s.nv.lifecycle = 1 ∨ s.nv.lifecycle = 4 ∨
          (32 ≤ op.val ∧ (s.nv.lifecycle = 2 ∨ (s.nv.lifecycle = 3 ∧ s.dev.lcs.session = true)))
        (¬ open_))) :=
  ⟨⟨2, up, by unfold State.noCommit; decide +kernel⟩,
    ⟨2, up, by unfold State.noCommit; decide +kernel⟩,
    ⟨2, up, by unfold State.noCommit; decide +kernel⟩,
    ⟨2, up, by unfold State.noCommit; decide +kernel⟩,
    ⟨2, up, by unfold State.noCommit; decide +kernel⟩,
    ⟨2, up, by unfold State.noCommit; decide +kernel⟩,
    ⟨2, up, by unfold State.noCommit; decide +kernel⟩,
    ⟨0, ⟨1, 0x601, 9, 16, List.replicate 16 7, none⟩, upWith (cmd 0 0x601 (List.replicate 16 7)),
      by dsimp only; unfold State.atCommit; decide +kernel⟩,
    ⟨0, ⟨1, 0x601, 9, 16, List.replicate 16 7, none⟩, { upWith (cmd 0 0x601 (List.replicate 16 7)) with nv := { owner := some ([], []) } },
      by dsimp only; unfold State.atCommit; decide +kernel⟩,
    ⟨0, ⟨1, 0x602, 9, 1, [0x4649454C], none⟩, { upWith (cmd 0 0x602 [0x4649454C]) with nv := { owner := some ([], []) } },
      by dsimp only; unfold State.atCommit; decide +kernel⟩,
    ⟨0, ⟨1, 0x602, 9, 0, [], none⟩, upWith (cmd 0 0x602 []), by dsimp only; unfold State.atCommit; decide +kernel⟩,
    ⟨0, ⟨1, 0x603, 9, 1, [0x53435250], none⟩,
      upWith fun d => { cmd 0 0x603 [0x53435250] d with cads := ⟨{ slots := [(3, { valid := true })] }, { slots := [(5, { valid := true })] }⟩ },
      by dsimp only; unfold State.atCommit; decide +kernel⟩,
    ⟨0, ⟨1, 0x603, 9, 1, [5], none⟩, upWith (cmd 0 0x603 [5]), by dsimp only; unfold State.atCommit; decide +kernel⟩,
    ⟨0, ⟨1, 0x612, 9, 7, List.replicate 7 7, none⟩,
      { upWith (cmd 0 0x612 (List.replicate 7 7)) with nv := { lifecycle := 3, owner := some ([], []) } },
      by unfold State.atCommit; decide +kernel⟩,
    ⟨0, ⟨1, 0x612, 9, 8, List.replicate 8 7, none⟩, upWith (cmd 0 0x612 (List.replicate 8 7)), by unfold State.atCommit; decide +kernel⟩,
    ⟨0, ⟨1, 0x612, 9, 8, List.replicate 8 7, none⟩,
      { upWith (fun d => let e := cmd 0 0x612 (List.replicate 8 7) d; { e with lcs := { e.lcs with pwdAt := some 9900000000 } }) with nv := { lifecycle := 3, owner := some ([], []) } },
      by dsimp only; unfold State.atCommit; decide +kernel⟩,
    ⟨0, ⟨1, 0x612, 9, 8, List.replicate 8 7, none⟩,
      { upWith (cmd 0 0x612 (List.replicate 8 7)) with nv := { lifecycle := 3, owner := some (Config.sha256 (bytesOfWords (List.replicate 8 7)), []) } },
      by dsimp only; exact ⟨by unfold State.atCommit; decide +kernel, by decide +kernel, by decide +kernel, by decide +kernel, by decide +kernel, rfl⟩⟩,
    ⟨0, ⟨1, 0x612, 9, 8, List.replicate 8 7, none⟩, { upWith (cmd 0 0x612 (List.replicate 8 7)) with nv := { lifecycle := 3 } },
      by dsimp only; unfold State.atCommit; decide +kernel⟩,
    ⟨0, ⟨1, 0x610, 9, 1, [1], none⟩, upWith (cmd 0 0x610 [1]), by dsimp only; unfold State.atCommit; decide +kernel⟩,
    ⟨0, ⟨1, 0x610, 9, 1, [2], none⟩, upWith (cmd 0 0x610 [2]), by dsimp only; unfold State.atCommit; decide +kernel⟩,
    ⟨0, ⟨1, 0x611, 9, 1, [1], none⟩, upWith (cmd 0 0x611 [1]), by unfold State.atCommit; decide +kernel⟩,
    ⟨0, ⟨1, 0x611, 9, 17, List.replicate 17 7, none⟩,
      upWith fun d => (cmd 0 0x611 (List.replicate 17 7) d).pb (lcsPg .warp) Reg.LCS.LSTATE_LOCKOUT true,
      by unfold State.atCommit; decide +kernel⟩,
    ⟨0, ⟨1, 0x611, 9, 17, List.replicate 17 7, none⟩, upWith fun d => cmd 0 0x611 (List.replicate 17 7) d,
      by unfold State.atCommit; decide +kernel⟩,
    ⟨0, ⟨1, 0x613, 9, 1, [1], none⟩, upWith (cmd 0 0x613 [1]), by unfold State.atCommit; decide +kernel⟩,
    ⟨0, ⟨1, 0x613, 9, 0, [], none⟩, upWith (cmd 0 0x613 []), by unfold State.atCommit; decide +kernel⟩,
    ⟨0, ⟨1, 0x613, 9, 0, [], none⟩, upWith fun d => { cmd 0 0x613 [] d with lcs := { session := true } },
      by unfold State.atCommit; decide +kernel⟩,
    ⟨up, by dsimp only; simp only [exists_some3]; decide +kernel⟩,
    ⟨{ upWith (fun d => { d.pb (lcsPg .warp) Reg.LCS.LSTATE_CHAL_OUT true with now := 60 * ticks1s + 5, lcs := { chal := some ([1], 2, 5) } }) with nv := {} },
      by dsimp only; simp only [exists_some3]; decide +kernel⟩,
    ⟨upWith fun d => { d with kettle := { phase := 2, since := 5, coreEn := false, wake := true } }, by decide +kernel⟩,
    ⟨upWith fun d => { d with kettle := { phase := 2, since := 5, coreEn := false, wake := true } }, by decide +kernel⟩,
    ⟨upWith fun d => { d with kettle := { phase := 2, since := 5, coreEn := false, wake := true } }, by decide +kernel⟩,
    ⟨up, by decide +kernel⟩,
    ⟨up, by decide +kernel⟩,
    ⟨{ up with nv := { lifecycle := 5 } }, by decide +kernel⟩,
    ⟨{ up with nv := { lifecycle := 5 } }, by decide +kernel⟩,
    ⟨up, by decide +kernel⟩,
    ⟨up, 62, 0, by dsimp only; decide +kernel⟩,
    ⟨up, 2, 1000000, by dsimp only; decide +kernel⟩⟩

theorem witness_RailsKettleAndFlash :
    /- 2 -/ (∃ (m : Master) (h : Half) (v : BitVec 16) (answered : Bool) (s : State), s.writable m (pmuPg h + 0x108)) ∧
    /- 3 -/ (∃ (k : Int) (s : State),
      let due := s.dev.serving s.dev.lead = true ∧ s.dev.published s.dev.lead 0 ≠ unbounded
      (¬ due)) ∧
    /- 4 -/ (∃ (k : Int) (s : State),
      let due := s.dev.serving s.dev.lead = true ∧ s.dev.published s.dev.lead 0 ≠ unbounded
      due) ∧
    /- 6 -/ (∃ (b : Fin 4) (w : FlashEnd) (k : Int) (s : State), s.noCommit b.val 0x0160) ∧
    /- 7 -/ (∃ (b : Fin 4) (w : FlashEnd) (k : Int) (s : State) (c : FwCmd), s.atCommit b.val 0x0160 c ∧ s.dev.sleeps b.val = false) ∧
    /- 8 -/ (∃ (b : Fin 4) (w : FlashEnd) (k : Int) (s : State), s.dev.sleeps b.val = true) ∧
    /- 9 -/ (∃ (s : State),
      let due := s.dev.kettle.phase = 1 ∧ s.dev.kettle.since + 2500000 ≤ s.dev.now
      (¬ due)) ∧
    /- 10 -/ (∃ (s : State),
      let due := s.dev.kettle.phase = 1 ∧ s.dev.kettle.since + 2500000 ≤ s.dev.now
      due) ∧
    /- 11 -/ (∃ (pin : Bool) (s : State),
      let cause := if s.dev.kettle.wake then some 3 else s.dev.wakeCause pin
      (cause = none ∨ (s.dev.kettle.phase ≠ 1 ∧ s.dev.kettle.phase ≠ 2))) ∧
    /- 12 -/ (∃ (pin : Bool) (s : State),
      let cause := if s.dev.kettle.wake then some 3 else s.dev.wakeCause pin
      let late := s.dev.kettle.since + 2500000 ≤ s.dev.now
      cause.isSome = true ∧ (s.dev.kettle.phase = 1 ∨ (s.dev.kettle.phase = 2 ∧ ¬ late))) ∧
    /- 13 -/ (∃ (pin : Bool) (s : State),
      let cause := if s.dev.kettle.wake then some 3 else s.dev.wakeCause pin
      let late := s.dev.kettle.since + 2500000 ≤ s.dev.now
      ∃ c ∈ (cause), s.dev.kettle.phase = 2 ∧ late) ∧
    /- 14 -/ (∃ (s : State),
      let due := s.dev.kettle.phase = 3 ∧ s.dev.kettle.since + 2500000 ≤ s.dev.now
      (¬ due)) ∧
    /- 15 -/ (∃ (s : State),
      let due := s.dev.kettle.phase = 3 ∧ s.dev.kettle.since + 2500000 ≤ s.dev.now
      due) ∧
    /- 16 -/ (∃ (h : Half) (fixed : List (Nat × Nat)) (s : State), s.dev.scrubDue h = false) ∧
    /- 17 -/ (∃ (h : Half) (fixed : List (Nat × Nat)) (s : State), s.dev.scrubDue h = true) ∧
    /- 19 -/ (∃ (b : Fin 4) (s : State), s.noCommit b.val 0x0701) ∧
    /- 20 -/ (∃ (b : Fin 4) (s : State) (c : FwCmd), s.atCommit b.val 0x0701 c ∧ c.len ≠ 0) ∧
    /- 21 -/ (∃ (b : Fin 4) (s : State) (c : FwCmd), s.atCommit b.val 0x0701 c ∧ c.len = 0) :=
  ⟨⟨.spi, .warp, 0, true, up, by unfold State.writable; decide +kernel⟩,
    ⟨7, up, by dsimp only; decide +kernel⟩,
    ⟨7, upWith fun d => (secs 1700000000 d).p (tsuB .warp 0) Reg.TSU.BOUND 100, by dsimp only; decide +kernel⟩,
    ⟨2, .full, 0, up, by unfold State.noCommit; decide +kernel⟩,
    ⟨0, .taken, 5, upWith (cmd 0 0x160 [5]), ⟨1, 0x160, 9, 1, [5], none⟩, by unfold State.atCommit; decide +kernel⟩,
    ⟨0, .full, 123456, upWith fun d => cmd 0 0x160 [0x534C4550] (secs 9 d), by decide +kernel⟩,
    ⟨up, by dsimp only; decide +kernel⟩,
    ⟨upWith fun d => { d with kettle := { phase := 1, since := 5 } }, by dsimp only; decide +kernel⟩,
    ⟨true, up, by dsimp only; decide +kernel⟩,
    ⟨true, upWith fun d => { d with kettle := { phase := 1, since := 5 } }, by dsimp only; decide +kernel⟩,
    ⟨true, upWith fun d => { d with kettle := { phase := 2, since := 5, coreEn := false, wake := true } }, by dsimp only; decide +kernel⟩,
    ⟨up, by dsimp only; decide +kernel⟩,
    ⟨upWith fun d => { d with kettle := { phase := 3, since := 5, coreEn := false } }, by dsimp only; decide +kernel⟩,
    ⟨.warp, [(2, 192)], up, by decide +kernel⟩,
    ⟨.warp, [(tsuPg .warp 0, 5)], upWith fun d => { d with now := 25 * 3600 * ticks1s }, by decide +kernel⟩,
    ⟨2, up, by unfold State.noCommit; decide +kernel⟩,
    ⟨0, upWith (cmd 0 0x701 [5]), ⟨1, 0x701, 9, 1, [5], none⟩, by unfold State.atCommit; decide +kernel⟩,
    ⟨0, { upWith (cmd 0 0x701 []) with nv := { retired := [3] } }, ⟨1, 0x701, 9, 0, [], none⟩, by unfold State.atCommit; decide +kernel⟩⟩

theorem witness_FaultsSafeStateAndSelfTest :
    /- 1 -/ (∃ (a : BitVec 24) (u : BitVec 8) (code : Fin 16) (s : State),
      let r : FaultRec := { page := pageBase a.toNat, unit := u.toNat, code := code.val
                            cls := faultClass (pageBase a.toNat) code.val }
      let h := s.dev.collector r.page
      let stands := persists code.val = true ∧ r.src ∈ (s.dev.flt.of h).standing
      (pageExists a.toNat = false ∨ code.val = 0 ∨ stands)) ∧
    /- 2 -/ (∃ (a : BitVec 24) (u : BitVec 8) (code : Fin 16) (s : State),
      let r : FaultRec := { page := pageBase a.toNat, unit := u.toNat, code := code.val
                            cls := faultClass (pageBase a.toNat) code.val }
      let h := s.dev.collector r.page
      let stands := persists code.val = true ∧ r.src ∈ (s.dev.flt.of h).standing
      pageExists a.toNat = true ∧ code.val ≠ 0 ∧ (¬ stands) ∧ code.val ≠ 5 ∧ persists code.val = false) ∧
    /- 3 -/ (∃ (a : BitVec 24) (u : BitVec 8) (code : Fin 16) (s : State),
      let r : FaultRec := { page := pageBase a.toNat, unit := u.toNat, code := code.val
                            cls := faultClass (pageBase a.toNat) code.val }
      let h := s.dev.collector r.page
      let stands := persists code.val = true ∧ r.src ∈ (s.dev.flt.of h).standing
      pageExists a.toNat = true ∧ code.val ≠ 0 ∧ (¬ stands) ∧ r.cls = 0 ∧ s.dev.gb (fltPg h) Reg.FLT.FCTRL_LOG_C0 = false ∧ code.val = 1) ∧
    /- 4 -/ (∃ (a : BitVec 24) (u : BitVec 8) (code : Fin 16) (s : State),
      let r : FaultRec := { page := pageBase a.toNat, unit := u.toNat, code := code.val
                            cls := faultClass (pageBase a.toNat) code.val }
      let h := s.dev.collector r.page
      let stands := persists code.val = true ∧ r.src ∈ (s.dev.flt.of h).standing
      pageExists a.toNat = true ∧ code.val ≠ 0 ∧ (¬ stands) ∧ code.val = 5) ∧
    /- 5 -/ (∃ (a : BitVec 24) (u : BitVec 8) (code : Fin 16) (s : State),
      let r : FaultRec := { page := pageBase a.toNat, unit := u.toNat, code := code.val
                            cls := faultClass (pageBase a.toNat) code.val }
      let h := s.dev.collector r.page
      let stands := persists code.val = true ∧ r.src ∈ (s.dev.flt.of h).standing
      pageExists a.toNat = true ∧ code.val ≠ 0 ∧ (¬ stands) ∧ (code.val = 2 ∨ code.val = 0xC ∨ code.val = 0xD)) ∧
    /- 6 -/ (∃ (a : BitVec 24) (u : BitVec 8) (code : Fin 16) (s : State),
      let r : FaultRec := { page := pageBase a.toNat, unit := u.toNat, code := code.val
                            cls := faultClass (pageBase a.toNat) code.val }
      let h := s.dev.collector r.page
      let stands := persists code.val = true ∧ r.src ∈ (s.dev.flt.of h).standing
      pageExists a.toNat = true ∧ code.val ≠ 0 ∧ (¬ stands) ∧ r.cls = 2) ∧
    /- 7 -/ (∃ (a : BitVec 24) (u : BitVec 8) (code : Fin 16) (s : State),
      let r : FaultRec := { page := pageBase a.toNat, unit := u.toNat, code := code.val
                            cls := faultClass (pageBase a.toNat) code.val }
      let h := s.dev.collector r.page
      let stands := persists code.val = true ∧ r.src ∈ (s.dev.flt.of h).standing
      pageExists a.toNat = true ∧ code.val ≠ 0 ∧ (¬ stands) ∧ r.cls = 3) ∧
    /- 8 -/ (∃ (a : BitVec 24) (u : BitVec 8) (code : Fin 16) (s : State),
      let r : FaultRec := { page := pageBase a.toNat, unit := u.toNat, code := code.val
                            cls := faultClass (pageBase a.toNat) code.val }
      let h := s.dev.collector r.page
      (pageExists a.toNat = false ∨ r.src ∉ (s.dev.flt.of h).standing)) ∧
    /- 9 -/ (∃ (a : BitVec 24) (u : BitVec 8) (code : Fin 16) (s : State),
      let r : FaultRec := { page := pageBase a.toNat, unit := u.toNat, code := code.val
                            cls := faultClass (pageBase a.toNat) code.val }
      let h := s.dev.collector r.page
      pageExists a.toNat = true ∧ r.src ∈ (s.dev.flt.of h).standing) ∧
    /- 10 -/ (∃ (h : Half) (s : State), (s.dev.hs h).safePend = none) ∧
    /- 11 -/ (∃ (h : Half) (s : State), ∃ by_ ∈ ((s.dev.hs h).safePend), (s.dev.hs h).safe = true) ∧
    /- 12 -/ (∃ (h : Half) (s : State), ∃ by_ ∈ ((s.dev.hs h).safePend), (s.dev.hs h).safe = false) ∧
    /- 13 -/ (∃ (m : Master) (h : Half) (v : BitVec 16) (s : State), s.writable m (fltPg h + 0x120)) ∧
    /- 14 -/ (∃ (m : Master) (h : Half) (s : State), s.writable m (fltPg h + 0x11C)) ∧
    /- 15 -/ (∃ (h : Half) (rootOk : Bool) (s : State),
      let due := (∃ at_, (s.dev.flt.of h.other).resetAt = some at_ ∧ at_ ≤ s.dev.now) ∧ s.dev.resettable h = true ∧
        s.dev.resetHeld h = false ∧ s.dev.planeUp h.other = true
      (¬ due)) ∧
    /- 16 -/ (∃ (h : Half) (rootOk : Bool) (s : State),
      let due := (∃ at_, (s.dev.flt.of h.other).resetAt = some at_ ∧ at_ ≤ s.dev.now) ∧ s.dev.resettable h = true ∧
        s.dev.resetHeld h = false ∧ s.dev.planeUp h.other = true
      due) ∧
    /- 17 -/ (∃ (m : Master) (h : Half) (rootOk : Bool) (s : State), s.writable m (fltPg h + 0x108) ∧ (
        let may := s.dev.serving h.other = false ∧ s.dev.resettable h.other = true ∧ s.dev.planeUp h = true
        (¬ may))) ∧
    /- 18 -/ (∃ (m : Master) (h : Half) (rootOk : Bool) (s : State), s.writable m (fltPg h + 0x108) ∧ (
        let may := s.dev.serving h.other = false ∧ s.dev.resettable h.other = true ∧ s.dev.planeUp h = true
        may ∧ s.dev.resetHeld h.other = true)) ∧
    /- 19 -/ (∃ (m : Master) (h : Half) (rootOk : Bool) (s : State), s.writable m (fltPg h + 0x108) ∧ (
        let may := s.dev.serving h.other = false ∧ s.dev.resettable h.other = true ∧ s.dev.planeUp h = true
        may ∧ s.dev.resetHeld h.other = false)) ∧
    /- 20 -/ (∃ (m : Master) (h : Half) (s : State), s.writable m (bstPg h + 0x104) ∧ s.dev.bstRefusal h s.nv.scrap ≠ 0) ∧
    /- 21 -/ (∃ (m : Master) (h : Half) (s : State), s.writable m (bstPg h + 0x104) ∧ s.dev.bstRefusal h s.nv.scrap = 0 ∧
        (s.dev.bstTarget h).isSome = true) ∧
    /- 22 -/ (∃ (x : BistSeen) (s : State), s.dev.bist = none) ∧
    /- 23 -/ (∃ (x : BistSeen) (s : State), ∃ r ∈ (s.dev.bist), ∃ p ∈ (typeAt r.page), bstAccepts p = true) ∧
    /- 24 -/ (∃ (m : Master) (h : Half) (s : State), s.writable m (bstPg h + 0x104) ∧ (∀ r, s.dev.bist = some r → halfAt r.page ≠ h)) ∧
    /- 25 -/ (∃ (m : Master) (h : Half) (s : State), s.writable m (bstPg h + 0x104) ∧ (∃ r ∈ (s.dev.bist), halfAt r.page = h ∧ (∃ p ∈ (typeAt r.page),
        bstAccepts p = true))) :=
  ⟨⟨0xFFF000#24, 3, 13, up, by dsimp only; decide +kernel⟩,
    ⟨BitVec.ofNat 24 (aegPg .warp), 7, 7, up, by dsimp only; decide +kernel⟩,
    ⟨BitVec.ofNat 24 (tsuPg .weft 4 + 0x1C), 3, 1, up, by dsimp only; decide +kernel⟩,
    ⟨BitVec.ofNat 24 (tsuPg .warp 0), 0, 5, up, by dsimp only; decide +kernel⟩,
    ⟨BitVec.ofNat 24 (macPg 0), 255, 12, up, by dsimp only; decide +kernel⟩,
    ⟨BitVec.ofNat 24 (aegPg .warp), 7, 7, up, by dsimp only; decide +kernel⟩,
    ⟨3#24, 3, 15, up, by dsimp only; decide +kernel⟩,
    ⟨BitVec.ofNat 24 (aegPg .warp), 7, 7, up, by dsimp only; decide +kernel⟩,
    ⟨BitVec.ofNat 24 (tsuPg .weft 0), 3, 13,
      upWith fun d => { d with flt := ⟨{}, { standing := [({ page := tsuPg .weft 0, unit := 3, code := 13, cls := faultClass (tsuPg .weft 0) 13 } : FaultRec).src, 7] }⟩ },
      by dsimp only; decide +kernel⟩,
    ⟨.warp, up, by decide +kernel⟩,
    ⟨.warp, upWith fun d => { d with half := ⟨{ safe := true, safePend := some true }, d.half.weft⟩ }, by decide +kernel⟩,
    ⟨.warp,
      upWith fun d => { linked 0 2 (linked 1 2 (linked 2 2 d)) with gates := [(0, { held := [gframe 0 9] })], half := ⟨{ d.half.warp with safePend := some true }, d.half.weft⟩ },
      by decide +kernel⟩,
    ⟨.spi, .warp, 0, up, by unfold State.writable; decide +kernel⟩,
    ⟨.spi, .warp, up, by unfold State.writable; decide +kernel⟩,
    ⟨.warp, true, up, by dsimp only; decide +kernel⟩,
    ⟨.weft, true, upWith fun d => { secs 9 d with half := ⟨d.half.warp, { safe := true }⟩, flt := ⟨{ resetAt := some 5 }, {}⟩ },
      by dsimp only; decide +kernel⟩,
    ⟨.spi, .warp, true, up, by dsimp only; unfold State.writable; decide +kernel⟩,
    ⟨.spi, .warp, true, upWith fun d => { secs 9 d with half := ⟨d.half.warp, { safe := true }⟩, flt := ⟨{ standing := [0x10090] }, {}⟩ },
      by dsimp only; unfold State.writable; decide +kernel⟩,
    ⟨.spi, .warp, true, upWith fun d => { secs 9 d with half := ⟨d.half.warp, { safe := true }⟩, flt := ⟨{ resetAt := some 5 }, {}⟩ },
      by dsimp only; unfold State.writable; decide +kernel⟩,
    ⟨.spi, .warp, up, by unfold State.writable; decide +kernel⟩,
    ⟨.spi, .warp, upWith (bstMac .warp), by unfold State.writable; decide +kernel⟩,
    ⟨⟨10, 5, 1, 2, 3, 4, 0xFF, true, [], false⟩, up, by decide +kernel⟩,
    ⟨⟨10, 5, 1, 2, 3, 4, 0xFF, true, [], false⟩,
      upWith fun d => { d.setPage (macPg 0) { isolated := true } with bist := some ⟨macPg 0, 5, 0, false, false⟩ }, by decide +kernel⟩,
    ⟨.spi, .warp, up, by unfold State.writable; decide +kernel⟩,
    ⟨.spi, .warp, upWith fun d => { d.setPage (macPg 0) { isolated := true } with bist := some ⟨macPg 0, 5, 0, false, false⟩ },
      by unfold State.writable; decide +kernel⟩⟩

theorem witness_DuplicateServiceAndReturn :
    /- 1 -/ (∃ (s : State), s.dev.digestDue = false) ∧
    /- 2 -/ (∃ (s : State), s.dev.digestDue = true) ∧
    /- 3 -/ (∃ (s : State),
      let due := fun c : Half => s.dev.g (redPg c) Reg.RED.RSTAT_HJOIN = 3 ∧ s.dev.planeUp c = true ∧ s.dev.serving c.other = true ∧
        100000 * nsUnit ≤ s.dev.schedCount % (10 ^ 6 * nsUnit) ∧ s.dev.sampleNow c.other = none ∧
        (∀ r ∈ (s.dev.rsp c.other).reqs, r.probe = false) ∧ s.dev.ntpEntry c.other ≠ none
      (∀ c, ¬ due c)) ∧
    /- 4 -/ (∃ (s : State) (c : Half),
      let due := fun c : Half => s.dev.g (redPg c) Reg.RED.RSTAT_HJOIN = 3 ∧ s.dev.planeUp c = true ∧ s.dev.serving c.other = true ∧
        100000 * nsUnit ≤ s.dev.schedCount % (10 ^ 6 * nsUnit) ∧ s.dev.sampleNow c.other = none ∧
        (∀ r ∈ (s.dev.rsp c.other).reqs, r.probe = false) ∧ s.dev.ntpEntry c.other ≠ none
      due c ∧ (s.dev.ntpEntry c.other).isSome = true) ∧
    /- 5 -/ (∃ (l : Fin 4) (peer : Nat) (plink : Nat) (s : State), (s.dev.linkHeld l.val = true ∨ s.dev.linkUp_ l.val = true)) ∧
    /- 6 -/ (∃ (l : Fin 4) (peer : Nat) (plink : Nat) (s : State), s.dev.linkHeld l.val = false ∧ s.dev.linkUp_ l.val = false) ∧
    /- 7 -/ (∃ (l : Fin 4) (s : State), s.dev.linkUp_ l.val = false) ∧
    /- 8 -/ (∃ (l : Fin 4) (s : State), s.dev.linkUp_ l.val = true) ∧
    /- 9 -/ (∃ (l : Fin 4) (s : State), s.dev.linkUp_ l.val = false) ∧
    /- 10 -/ (∃ (l : Fin 4) (s : State), s.dev.linkUp_ l.val = true) ∧
    /- 11 -/ (∃ (l : Fin 4) (s : State), s.dev.linkUp_ l.val = true) ∧
    /- 12 -/ (∃ (l : Fin 4) (s : State) (f : FlitSeen), s.dev.linkUp_ l.val = true ∧ (f = .badCrc ∨ f = .fecBad)) ∧
    /- 13 -/ (∃ (l : Fin 4) (t2 : Option Nat) (t3 : Option Nat) (s : State), s.dev.linkUp_ l.val = false) ∧
    /- 14 -/ (∃ (l : Fin 4) (t2 : Option Nat) (t3 : Option Nat) (s : State),
      let own := linkHalf l.val
      let st := s.dev.link l.val
      s.dev.linkUp_ l.val = true ∧ (st.t1.of own = none ∨ t2 = none ∨ t3 = none ∨ st.t4.of own = none)) ∧
    /- 15 -/ (∃ (l : Fin 4) (t2 : Option Nat) (t3 : Option Nat) (s : State),
      let own := linkHalf l.val
      let st := s.dev.link l.val
      s.dev.linkUp_ l.val = true ∧ (∃ a ∈ (st.t1.of own), ∃ x ∈ (t2), ∃ y ∈ (t3), ∃ z ∈ (st.t4.of own),
      let r := exchange a x y z (signedOf 32 (s.dev.g (slvL l.val) Reg.SLV.LASYM))
      st.delayOk r.1 = false)) ∧
    /- 16 -/ (∃ (l : Fin 4) (t2 : Option Nat) (t3 : Option Nat) (s : State),
      let own := linkHalf l.val
      let st := s.dev.link l.val
      s.dev.linkUp_ l.val = true ∧ (∃ a ∈ (st.t1.of own), ∃ x ∈ (t2), ∃ y ∈ (t3), ∃ z ∈ (st.t4.of own),
      let r := exchange a x y z (signedOf 32 (s.dev.g (slvL l.val) Reg.SLV.LASYM))
      st.delayOk r.1 = true)) ∧
    /- 17 -/ (∃ (l : Fin 4) (bytes : List Byte) (s : State), s.dev.linkUp_ l.val = false) ∧
    /- 18 -/ (∃ (l : Fin 4) (bytes : List Byte) (s : State), s.dev.linkUp_ l.val = true) ∧
    /- 20 -/ (∃ (l : Fin 4) (s : State), s.dev.now < (s.dev.link l.val).reptAt + 750000) ∧
    /- 21 -/ (∃ (l : Fin 4) (s : State), (s.dev.link l.val).reptAt + 750000 ≤ s.dev.now) ∧
    /- 24 -/ (∃ (l : Fin 4) (c : MirrorCtx) (s : State),
      let h := linkHalf l.val
      (s.dev.linkUp_ l.val = false ∨ s.dev.gb (redPg h) Reg.RED.MIRROR_ACCEPT = false)) ∧
    /- 25 -/ (∃ (l : Fin 4) (c : MirrorCtx) (s : State),
      let h := linkHalf l.val
      s.dev.linkUp_ l.val = true ∧ s.dev.gb (redPg h) Reg.RED.MIRROR_ACCEPT = true) ∧
    /- 26 -/ (∃ (l : Fin 4) (record : List Byte) (s : State),
      let h := linkHalf l.val
      (s.dev.linkUp_ l.val = false ∨ s.dev.gb (redPg h) Reg.RED.MIRROR_ACCEPT = false)) ∧
    /- 27 -/ (∃ (l : Fin 4) (record : List Byte) (s : State),
      let h := linkHalf l.val
      s.dev.linkUp_ l.val = true ∧ s.dev.gb (redPg h) Reg.RED.MIRROR_ACCEPT = true) ∧
    /- 28 -/ (∃ (h : Half) (i : CopyItem) (intact : Bool) (s : State), (intact = false ∨ s.dev.serving h.other = false ∨ s.dev.planeUp h = false)) ∧
    /- 29 -/ (∃ (h : Half) (i : CopyItem) (intact : Bool) (s : State), intact = true ∧ s.dev.serving h.other = true ∧ s.dev.planeUp h = true) ∧
    /- 30 -/ (∃ (h : Half) (s : State),
      let step := s.dev.g (redPg h) Reg.RED.RSTAT_HJOIN
      let due := s.dev.planeUp h = true ∧ s.dev.joinNext h step ≠ step ∧
        (s.dev.serving h.other = true ∨ s.dev.g sysPg Reg.SYS.START_STAT_PHASE = 7)
      (¬ due)) ∧
    /- 31 -/ (∃ (h : Half) (s : State),
      let step := s.dev.g (redPg h) Reg.RED.RSTAT_HJOIN
      let due := s.dev.planeUp h = true ∧ s.dev.joinNext h step ≠ step ∧
        (s.dev.serving h.other = true ∨ s.dev.g sysPg Reg.SYS.START_STAT_PHASE = 7)
      due) ∧
    /- 32 -/ (∃ (h : Half) (s : State),
      let step := s.dev.g (redPg h) Reg.RED.RSTAT_HJOIN
      let due := s.dev.planeUp h = true ∧ s.dev.g sysPg Reg.SYS.START_STAT_PHASE = 7 ∧
        ((step = 4 ∧ s.dev.waitRem h = 0) ∨ (2 ≤ step ∧ s.dev.partnerGone h = true))
      (¬ due)) ∧
    /- 33 -/ (∃ (h : Half) (s : State),
      let step := s.dev.g (redPg h) Reg.RED.RSTAT_HJOIN
      let due := s.dev.planeUp h = true ∧ s.dev.g sysPg Reg.SYS.START_STAT_PHASE = 7 ∧
        ((step = 4 ∧ s.dev.waitRem h = 0) ∨ (2 ≤ step ∧ s.dev.partnerGone h = true))
      due) ∧
    /- 34 -/ (∃ (s : State),
      let due := s.dev.g (redPg s.dev.lead) Reg.RED.RSTAT_CJOIN = 1 ∧
        (s.dev.topoN s.dev.lead = 1 ∨ (s.dev.rd s.dev.lead).heardAt + ticks1s ≤ s.dev.now)
      (¬ due)) ∧
    /- 35 -/ (∃ (s : State),
      let due := s.dev.g (redPg s.dev.lead) Reg.RED.RSTAT_CJOIN = 1 ∧
        (s.dev.topoN s.dev.lead = 1 ∨ (s.dev.rd s.dev.lead).heardAt + ticks1s ≤ s.dev.now)
      due) :=
  ⟨⟨up, by decide +kernel⟩,
    ⟨upWith fun d => (fun d : Dev => { d with tbs := (List.range 32).map fun k => (k, ({ count := 9 * secUnit + 130000 * nsUnit } : Tbase)) }) d,
      by decide +kernel⟩,
    ⟨up, by dsimp only; simp only [forall_half]; decide +kernel⟩,
    ⟨upWith fun d => (ntpEnt .warp 3 (ntpEnt .weft 3 ((fun d : Dev => { d with tbs := (List.range 32).map fun k => (k, ({ count := 9 * secUnit + 130000 * nsUnit } : Tbase)) }) d))).p (redPg .weft) Reg.RED.RSTAT_HJOIN 3,
      .weft, by dsimp only; decide +kernel⟩,
    ⟨2, 2 ^ 62, 2200, up, by decide +kernel⟩,
    ⟨2, 2 ^ 62, 2200, upWith fun d => topo 3 0 (d.pb (slvL 0) Reg.SLV.LCFG true), by decide +kernel⟩,
    ⟨2, up, by decide +kernel⟩,
    ⟨2, upWith fun d => (secs 9 d).pb (slvL 2) Reg.SLV.LSTAT_UP true, by decide +kernel⟩,
    ⟨2, up, by decide +kernel⟩,
    ⟨2, upWith fun d => (secs 9 d).pb (slvL 2) Reg.SLV.LSTAT_UP true, by decide +kernel⟩,
    ⟨2, upWith fun d => (secs 9 d).pb (slvL 2) Reg.SLV.LSTAT_UP true, by decide +kernel⟩,
    ⟨2, upWith fun d => (secs 9 d).pb (slvL 2) Reg.SLV.LSTAT_UP true, .badCrc, by decide +kernel⟩,
    ⟨2, some 5, some 5, up, by decide +kernel⟩,
    ⟨2, some 5, some 5, upWith fun d => (secs 9 d).pb (slvL 2) Reg.SLV.LSTAT_UP true, by dsimp only; decide +kernel⟩,
    ⟨2, some (2 ^ 62 + 20000000), some (2 ^ 62 + 30000000),
      upWith fun d => { d.pb (slvL 2) Reg.SLV.LSTAT_UP true with links := [(2, { t1 := ⟨some (2 ^ 62), some (2 ^ 62)⟩, t4 := ⟨some (2 ^ 62 + 50000000), some (2 ^ 62 + 50000000)⟩, first := some 500, run := 15 })] },
      by dsimp only; decide +kernel⟩,
    ⟨2, some 5, some 5,
      upWith fun d => { d.pb (slvL 2) Reg.SLV.LSTAT_UP true with links := [(2, { t1 := ⟨some (2 ^ 62), some (2 ^ 62)⟩, t4 := ⟨some (2 ^ 62 + 50000000), some (2 ^ 62 + 50000000)⟩, run := 15 })] },
      by dsimp only; decide +kernel⟩,
    ⟨2, txDesc 3 0, up, by decide +kernel⟩,
    ⟨2, txDesc 3 0, upWith fun d => (secs 9 d).pb (slvL 2) Reg.SLV.LSTAT_UP true, by decide +kernel⟩,
    ⟨2, State.reset, by decide +kernel⟩,
    ⟨2, up, by decide +kernel⟩,
    ⟨2, ⟨0, 7, [], accepting.cfgSum⟩, up, by dsimp only; decide +kernel⟩,
    ⟨2, ⟨0, 7, [], accepting.cfgSum⟩,
      upWith fun d => (topo 4 1 (d.pb (slvL 2) Reg.SLV.LSTAT_UP true)).pb (redPg .weft) Reg.RED.MIRROR_ACCEPT true,
      by dsimp only; decide +kernel⟩,
    ⟨2, txDesc 3 0, up, by dsimp only; decide +kernel⟩,
    ⟨2, txDesc 3 0, upWith fun d => (topo 4 1 (d.pb (slvL 2) Reg.SLV.LSTAT_UP true)).pb (redPg .weft) Reg.RED.MIRROR_ACCEPT true,
      by dsimp only; decide +kernel⟩,
    ⟨.warp, .published, true,
      upWith fun d => { secs 9 d with half := ⟨d.half.warp, { safe := true }⟩, flt := ⟨{ resetAt := some 5 }, {}⟩ }, by decide +kernel⟩,
    ⟨.warp, .published, true, up, by decide +kernel⟩,
    ⟨.warp, up, by dsimp only; decide +kernel⟩,
    ⟨.weft, upWith fun d => (ntpEnt .warp 3 (ntpEnt .weft 3 (secs 9 d))).p (redPg .weft) Reg.RED.RSTAT_HJOIN 3,
      by dsimp only; decide +kernel⟩,
    ⟨.warp, up, by dsimp only; decide +kernel⟩,
    ⟨.weft,
      upWith fun d => { (secs 9 d).p (redPg .weft) Reg.RED.RSTAT_HJOIN 4 with red := ⟨{}, { copied := [1, 2] }⟩ }.p (redPg .weft) Reg.RED.RCTL_WTR 10,
      by dsimp only; decide +kernel⟩,
    ⟨up, by dsimp only; decide +kernel⟩,
    ⟨upWith fun d => ((topo 4 1 d).p (redPg .warp) Reg.RED.RSTAT_CJOIN 1).p (redPg .weft) Reg.RED.RSTAT_CJOIN 1,
      by dsimp only; decide +kernel⟩⟩

theorem witness_GatheringHostDmaStartsAndResets :
    /- 1 -/ (∃ (h : Half) (s : State),
      let due := s.dev.enabled (prfPg h) = true ∧ s.dev.gb (prfPg h) Reg.PRF.GCTRL_EN = true ∧ s.dev.gatherDue h = true
      (¬ due)) ∧
    /- 2 -/ (∃ (h : Half) (s : State),
      let due := s.dev.enabled (prfPg h) = true ∧ s.dev.gb (prfPg h) Reg.PRF.GCTRL_EN = true ∧ s.dev.gatherDue h = true
      let room := s.dev.ringOcc h < s.dev.ringSize h ∧ s.dev.bme = true ∧ (s.dev.prf.of h).busy = none
      due ∧ room) ∧
    /- 3 -/ (∃ (h : Half) (s : State),
      let due := s.dev.enabled (prfPg h) = true ∧ s.dev.gb (prfPg h) Reg.PRF.GCTRL_EN = true ∧ s.dev.gatherDue h = true
      let room := s.dev.ringOcc h < s.dev.ringSize h ∧ s.dev.bme = true ∧ (s.dev.prf.of h).busy = none
      due ∧ (¬ room)) ∧
    /- 4 -/ (∃ (h : Half) (s : State), (s.dev.prf.of h).busy = none) ∧
    /- 5 -/ (∃ (h : Half) (s : State), ((s.dev.prf.of h).busy).isSome = true) ∧
    /- 6 -/ (∃ (m : Master) (h : Half) (v : BitVec 16) (s : State), s.writable m (prfPg h + 0x114)) ∧
    /- 7 -/ (∃ (m : Master) (h : Half) (v : BitVec 16) (s : State), s.writable m (prfPg h + 0x10C)) ∧
    /- 9 -/ (∃ (m : Master) (h : Half) (s : State), s.writable m (telPg h + 0x200)) ∧
    /- 10 -/ (∃ (m : Master) (q : Fin 16) (v : BitVec 16) (s : State), s.writable m (hdmQ q.val + 0x0C)) ∧
    /- 11 -/ (∃ (m : Master) (q : Fin 16) (v : Bool) (s : State), s.writable m (hdmQ q.val)) ∧
    /- 13 -/ (∃ (q : Fin 16) (wr : Bool) (s : State), s.dev.hdmActive q.val = false) ∧
    /- 14 -/ (∃ (q : Fin 16) (wr : Bool) (s : State), s.dev.hdmActive q.val = true) ∧
    /- 15 -/ (∃ (q : Fin 8) (e : List Byte) (frame : List Byte) (s : State), s.dev.hdmTakes q.val = false) ∧
    /- 16 -/ (∃ (q : Fin 8) (e : List Byte) (frame : List Byte) (s : State),
      let cut := (s.dev.page hdmPg).isolated
      s.dev.hdmTakes q.val = true ∧ (cut = true ∨ txStatus e ≠ 0)) ∧
    /- 17 -/ (∃ (q : Fin 8) (e : List Byte) (frame : List Byte) (s : State),
      let mode := leAt e 10 1 % 4
      let cut := (s.dev.page hdmPg).isolated
      s.dev.hdmTakes q.val = true ∧ cut = false ∧ txStatus e = 0 ∧ mode = 0) ∧
    /- 18 -/ (∃ (q : Fin 8) (e : List Byte) (frame : List Byte) (s : State),
      let port := leAt e 11 1 % 8
      let mode := leAt e 10 1 % 4
      let cut := (s.dev.page hdmPg).isolated
      s.dev.hdmTakes q.val = true ∧ cut = false ∧ txStatus e = 0 ∧ mode ≠ 0 ∧ s.dev.g (lgtG port) Reg.LGT.RPTSTAT_CREDITS = 0) ∧
    /- 19 -/ (∃ (q : Fin 8) (e : List Byte) (frame : List Byte) (s : State),
      let port := leAt e 11 1 % 8
      let mode := leAt e 10 1 % 4
      let bytes := (frame ++ List.replicate (leAt e 8 2) 0).take (leAt e 8 2)
      let cut := (s.dev.page hdmPg).isolated
      s.dev.hdmTakes q.val = true ∧ cut = false ∧ txStatus e = 0 ∧ mode ≠ 0 ∧ s.dev.g (lgtG port) Reg.LGT.RPTSTAT_CREDITS ≠ 0 ∧
        s.dev.gateCredit port bytes.length = false) ∧
    /- 20 -/ (∃ (q : Fin 8) (e : List Byte) (frame : List Byte) (s : State),
      let port := leAt e 11 1 % 8
      let mode := leAt e 10 1 % 4
      let bytes := (frame ++ List.replicate (leAt e 8 2) 0).take (leAt e 8 2)
      let cut := (s.dev.page hdmPg).isolated
      s.dev.hdmTakes q.val = true ∧ cut = false ∧ txStatus e = 0 ∧ mode ≠ 0 ∧ s.dev.g (lgtG port) Reg.LGT.RPTSTAT_CREDITS ≠ 0 ∧
        s.dev.gateCredit port bytes.length = true) ∧
    /- 21 -/ (∃ (q : Fin 8) (e : List Byte) (s : State),
      let h := hdmHalf (8 + q.val)
      let on := s.dev.hdmTakes (8 + q.val) = true ∧ (s.dev.page hdmPg).isolated = false
      let pick := s.dev.pickClassOf h 4 fun c => s.dev.rxQueue h c == 8 + q.val
      let head := fun c => (s.dev.queue h 4 c).head?.bind (s.dev.stored h)
      (¬ on ∨ (∀ c df, pick = some (c, df) → head c = none))) ∧
    /- 22 -/ (∃ (q : Fin 8) (e : List Byte) (s : State),
      let h := hdmHalf (8 + q.val)
      let on := s.dev.hdmTakes (8 + q.val) = true ∧ (s.dev.page hdmPg).isolated = false
      let pick := s.dev.pickClassOf h 4 fun c => s.dev.rxQueue h c == 8 + q.val
      let head := fun c => (s.dev.queue h 4 c).head?.bind (s.dev.stored h)
      on ∧ (∃ z ∈ (pick), (head z.1).isSome = true)) ∧
    /- 24 -/ (∃ (s : State), s.dev.start.held = true) ∧
    /- 25 -/ (∃ (s : State), s.dev.start.held = false) ∧
    /- 26 -/ (∃ (i : StartIn) (s : State),
      let due := s.dev.start.held = true ∧ s.dev.kettle.phase = 0 ∧ s.dev.kettle.coreEn = true
      (¬ due)) ∧
    /- 27 -/ (∃ (i : StartIn) (s : State),
      let due := s.dev.start.held = true ∧ s.dev.kettle.phase = 0 ∧ s.dev.kettle.coreEn = true
      due) ∧
    /- 28 -/ (∃ (ticks : Nat) (s : State),
      let due := s.dev.start.held = false ∧ s.dev.phaseOf < 6 ∧ (s.dev.starts .warp = true ∨ s.dev.starts .weft = true)
      (¬ due)) ∧
    /- 29 -/ (∃ (ticks : Nat) (s : State),
      let due := s.dev.start.held = false ∧ s.dev.phaseOf < 6 ∧ (s.dev.starts .warp = true ∨ s.dev.starts .weft = true)
      due) ∧
    /- 30 -/ (∃ (which : Pair Bool) (bootsOk : Bool) (image : List (Nat × Nat)) (s : State),
      let hs := s.dev.restores which
      hs = []) ∧
    /- 31 -/ (∃ (which : Pair Bool) (bootsOk : Bool) (image : List (Nat × Nat)) (s : State),
      let hs := s.dev.restores which
      hs ≠ []) ∧
    /- 32 -/ (∃ (s : State),
      let joint := s.dev.phaseOf = 6 ∧ s.dev.start.noTiming = false ∧ ∀ e : Half, (s.dev.hs e).restored = true ∧
        s.dev.planeUp e = true ∧ s.dev.g (redPg e) Reg.RED.RSTAT_HJOIN = 1 ∧ s.dev.gb (dplPg e 0) Reg.DPL.SKSTAT_ALIGNED = true
      let none_ := ¬ joint ∧ s.dev.entersAlone .warp = false ∧ s.dev.entersAlone .weft = false
      none_ ∧ s.dev.serving .warp = false ∧ s.dev.serving .weft = false) ∧
    /- 34 -/ (∃ (i : StartIn) (s : State), (∀ x, s.dev.start.warm = some x → s.dev.now < x)) ∧
    /- 35 -/ (∃ (i : StartIn) (s : State), ∃ x ∈ (s.dev.start.warm), x ≤ s.dev.now) ∧
    /- 36 -/ (∃ (m : Master) (v : Word) (s : State), s.writable m (sysPg + 0x11C)) :=
  ⟨⟨.warp, up, by dsimp only; decide +kernel⟩,
    ⟨.warp,
      upWith fun d => (((secs 9 d).pb (prfPg .warp) Reg.PRF.GCTRL_EN true).p (prfPg .warp) Reg.PRF.SIZE 4).pb hdmPg Reg.HDM.HSTAT true,
      by dsimp only; decide +kernel⟩,
    ⟨.warp,
      upWith fun d => (((secs 9 d).pb (prfPg .warp) Reg.PRF.GCTRL_EN true).p (prfPg .warp) Reg.PRF.SIZE 4).p (prfPg .warp) Reg.PRF.WPTR 4,
      by dsimp only; decide +kernel⟩,
    ⟨.warp, up, by decide +kernel⟩,
    ⟨.warp, upWith fun d => { d.p (prfPg .warp) Reg.PRF.WPTR 65535 with prf := ⟨{ busy := some (77, [1, 2]) }, {}⟩ }, by decide +kernel⟩,
    ⟨.spi, .warp, 0, up, by unfold State.writable; decide +kernel⟩,
    ⟨.spi, .warp, 0, up, by unfold State.writable; decide +kernel⟩,
    ⟨.spi, .warp, up, by unfold State.writable; decide +kernel⟩,
    ⟨.spi, 4, 0, up, by unfold State.writable; decide +kernel⟩,
    ⟨.spi, 4, true, up, by unfold State.writable; decide +kernel⟩,
    ⟨2, true, up, by decide +kernel⟩,
    ⟨2, true, upWith fun d => queueOn 2 (secs 9 d), by decide +kernel⟩,
    ⟨6, txDesc 3 0, [], up, by decide +kernel⟩,
    ⟨2, List.replicate 90 1, List.replicate 8 0 ++ [0, 1] ++ List.replicate 22 0, upWith fun d => queueOn 2 (secs 9 d),
      by dsimp only; decide +kernel⟩,
    ⟨2, txDesc 0 0, List.replicate 60 7, upWith fun d => queueOn 2 (secs 9 d), by dsimp only; decide +kernel⟩,
    ⟨2, txDesc 1 0, List.replicate 24 0, upWith fun d => queueOn 2 (linked 0 2 ((secs 9 d).p (lgtG 0) Reg.LGT.RPTSTAT_CREDITS 0)),
      by dsimp only; decide +kernel⟩,
    ⟨2, txDesc 1 0, List.replicate 24 0,
      upWith fun d => { queueOn 2 (secs 9 d) with gates := [(0, { held := List.replicate 256 (gframe 0 9) })] },
      by dsimp only; decide +kernel⟩,
    ⟨2, txDesc 1 0, List.replicate 24 0, upWith fun d => queueOn 2 (secs 9 d), by dsimp only; decide +kernel⟩,
    ⟨6, txDesc 3 0, up, by dsimp only; simp only [forall_some2]; decide +kernel⟩,
    ⟨1, txDesc 1 0,
      upWith fun d => { queueOn 9 (secs 9 d) with planes := ⟨{ frames := [⟨1, List.replicate 60 7, {}, 2, 1, 2, 0, [4], none⟩], queues := [(34, [1])] }, {}⟩ },
      by dsimp only; decide +kernel⟩,
    ⟨State.reset, by decide +kernel⟩,
    ⟨up, by decide +kernel⟩,
    ⟨⟨⟨true, true⟩, 1, none, ⟨10000000, 0⟩, ⟨4, 0⟩, true, [(true, 5), (false, 6)], [(macPg 0, ⟨100, 5, 1, 2, 3, 2, 4, false, [(1, 7)], false⟩)]⟩,
      up, by dsimp only; decide +kernel⟩,
    ⟨⟨⟨true, true⟩, 1, none, ⟨10000000, 0⟩, ⟨4, 0⟩, true, [(true, 5), (false, 6)], [(macPg 0, ⟨100, 5, 1, 2, 3, 2, 4, false, [(1, 7)], false⟩)]⟩,
      State.reset, by dsimp only; decide +kernel⟩,
    ⟨50000000000, up, by dsimp only; decide +kernel⟩,
    ⟨50000000000, { upWith (fun d => d.p sysPg Reg.SYS.START_STAT_PHASE 5) with nv := { floor := 2300 } }, by dsimp only; decide +kernel⟩,
    ⟨⟨true, true⟩, true, [(2, 192)], up, by dsimp only; decide +kernel⟩,
    ⟨⟨true, true⟩, true, [(2, 192)],
      { upWith (fun d => { d.p sysPg Reg.SYS.START_STAT_PHASE 5 with pages := [], half := ⟨{ coresUp := true }, { coresUp := true }⟩ }) with nv := { intents := [4], keys := [(4, ([], [])), (6, ([], []))] } },
      by dsimp only; decide +kernel⟩,
    ⟨State.reset, by dsimp only; simp only [forall_half]; decide +kernel⟩,
    ⟨⟨⟨true, true⟩, 1, none, ⟨10000000, 0⟩, ⟨4, 0⟩, true, [(true, 5), (false, 6)], [(macPg 0, ⟨100, 5, 1, 2, 3, 2, 4, false, [(1, 7)], false⟩)]⟩,
      up, by decide +kernel⟩,
    ⟨⟨⟨true, true⟩, 1, none, ⟨10000000, 0⟩, ⟨4, 0⟩, true, [(true, 5), (false, 6)], [(macPg 0, ⟨100, 5, 1, 2, 3, 2, 4, false, [(1, 7)], false⟩)]⟩,
      upWith fun d => { secs 9 d with start := { held := false, warm := some 5 } }, by decide +kernel⟩,
    ⟨.spi, 3#32, up, by unfold State.writable; decide +kernel⟩⟩

end Sys2Proof.Tests
end

section
/-! SUPPORT. A write that is performed: what exec answers for it, and what its effect must keep for the command to touch nothing
beyond two lists of words and events. -/

namespace Sys2Proof.Machine

/-- A write that draws no access error leaves the state with its effect on the powered state, once the access is counted. -/
theorem State.onDev_writeAt {s : State} {m : Master} {a : Nat} (h : s.writable m a) (f : Dev → Dev) :
    s.onDev (fun d => d.writeAt m a f) = s.withDev (f (s.dev.regAccess m a)) :=
  congrArg s.withDev (Dev.writeAt_ok s.dev m a f h)

/-- An access that is counted changes programmable counters alone, so what agrees with the counted device in every unit
agrees with the device itself. -/
theorem Dev.sameUnits_of_regAccess {d e : Dev} {m : Master} {a : Nat} (h : (d.regAccess m a).sameUnits e) : d.sameUnits e :=
  ⟨congrArg (fun x : Dev => { x with pcnt := d.pcnt }) h.1, h.2⟩

/-- A performed write touches the words and events that its effect touches. -/
theorem State.onlyTouches_withDev {s : State} {m : Master} {a : Nat} {e : Dev} {words events : List Nat}
    (hw : (s.dev.regAccess m a).sameWords e words) (he : (s.dev.regAccess m a).sameEvents e events)
    (hu : (s.dev.regAccess m a).sameUnits e) : s.onlyTouches (s.withDev e) words events :=
  ⟨hw, he, Dev.sameUnits_of_regAccess hu, rfl, rfl⟩

theorem Dev.sameWords_setw (d : Dev) (a v : Nat) : d.sameWords (d.setw a v) [a] := by
  intro b hb
  rw [Dev.w_setw, if_neg (by simpa using hb)]

theorem Dev.sameEvents_setw (d : Dev) (a v : Nat) : d.sameEvents (d.setw a v) [] := fun _ _ _ => rfl

theorem Dev.sameUnits_setw (d : Dev) (a v : Nat) : d.sameUnits (d.setw a v) := ⟨rfl, fun _ => rfl⟩

end Sys2Proof.Machine
end

section
/-! SUPPORT. Event words (R51, R248, R523): one occurrence, an occurrence under a condition, and EVT_ACK. -/

namespace Sys2Proof.Machine

/-- A conditional occurrence is an occurrence where the condition holds, and nothing elsewhere. -/
theorem Dev.evt_raiseIf (d : Dev) (c : Bool) (pg k p j : Nat) :
    (d.raiseIf c pg k).evt p j = if c = true then (d.raise pg k).evt p j else d.evt p j := by
  cases c <;> rfl

/-- CH_CHANGE is the one event word of a GNT page (R248). -/
theorem evtImplemented_chChange {pg : Nat} (h : typeAt pg = some .gnt) : evtImplemented pg 0 = true := by
  simp [evtImplemented, h, evtWords, bitAt]

/-- The word that an EVT_ACK write names, after the write: acknowledged, and for CH_CHANGE occurring anew where the write
cleared it while a bit of CHG is set (R51, R248). -/
def Dev.ackedEvt (d : Dev) (pg v : Nat) : EvtWord :=
  let old := d.evt pg (getBits v 16 5)
  let new := old.ack (v % 256) (bitAt v 8)
  if typeAt pg = some .gnt ∧ getBits v 16 5 = 0 ∧ old.pend = true ∧ new.pend = false ∧ d.w (pg + 0x900) ≠ 0 then new.occur
  else new

/-- The event words after a table write of one of them. -/
theorem Dev.evt_withEvts (d : Dev) (pg k p j : Nat) (e : EvtWord) :
    ({ d with evts := tset {} d.evts (pg + k) e } : Dev).evt p j = if p + j = pg + k then e else d.evt p j :=
  Tab.get_set (fun _ => {}) d.evts (pg + k) (p + j) e

/-- EVT_ACK changes the word it names alone. -/
theorem evtAcked_evt (pg v : Nat) (d : Dev) (p j : Nat) :
    (evtAcked pg v d).evt p j = if p + j = pg + getBits v 16 5 then d.ackedEvt pg v else d.evt p j := by
  simp only [evtAcked, Dev.evt_raiseIf, Dev.evt_raise, Dev.evt_withEvts, if_true, Bool.and_eq_true, beq_iff_eq, bne_iff_ne,
    Bool.not_eq_true', and_assoc]
  by_cases hc : typeAt pg = some .gnt ∧ getBits v 16 5 = 0 ∧ (d.evt pg (getBits v 16 5)).pend = true ∧
      ((d.evt pg (getBits v 16 5)).ack (v % 256) (bitAt v 8)).pend = false ∧ d.w (pg + 0x900) ≠ 0
  · have hk := hc.2.1
    rw [if_pos hc, Dev.ackedEvt, if_pos hc, evtImplemented_chChange hc.1, hk]
    by_cases hj : p + j = pg <;> simp [hj]
  · rw [if_neg hc, Dev.ackedEvt, if_neg hc]

theorem evtAcked_sameEvents (pg v : Nat) (d : Dev) : d.sameEvents (evtAcked pg v d) [pg + getBits v 16 5] := by
  intro p j hj
  rw [evtAcked_evt, if_neg (by simpa using hj)]

theorem evtAcked_sameUnits (pg v : Nat) (d : Dev) : d.sameUnits (evtAcked pg v d) := ⟨rfl, fun _ => rfl⟩

/-- A performed EVT_ACK has its effect at the page. -/
theorem exec_evtAck {m : Master} {a : BitVec 24} {s : State} (h : s.writable m (pageBase a.toNat + 0x18)) (v : Word) :
    exec (.evtAck m a v) s = .next (s.withDev
      (evtAcked (pageBase a.toNat) v.toNat (s.dev.regAccess m (pageBase a.toNat + 0x18)))) :=
  congrArg Host.Outcome.next (State.onDev_writeAt h _)

end Sys2Proof.Machine
end

section
/-! SUPPORT. The writes of VACK (R55) and PSEL (R484). -/

namespace Sys2Proof.Machine

/-- A performed VACK takes the vectors it names out of VPEND. -/
theorem exec_vack {m : Master} {s : State} (h : s.writable m (evcPg + 0x284)) (v : Word) :
    exec (.vack m v) s = .next (s.withDev ((s.dev.regAccess m (evcPg + 0x284)).setw (evcPg + 0x280)
      (s.dev.w (evcPg + 0x280) &&& (0xFFFFFFFF - v.toNat % 2 ^ 32)))) :=
  congrArg Host.Outcome.next (State.onDev_writeAt h _)

/-- A word with bits taken out of it is a word. -/
theorem Dev.w_and_lt (d : Dev) (a n : Nat) : d.w a &&& n < 2 ^ 32 := lt_of_le_of_lt Nat.and_le_left (d.w_lt a)

/-- A performed PSEL_WRITE of a counter that the page has stores its selection and restarts the counter. -/
theorem exec_pselWrite {m : Master} {a : BitVec 24} {n : Fin 8} {s : State} (hn : n.val < counters (pageBase a.toNat))
    (h : s.writable m (pselAddr (pageBase a.toNat) n.val)) (v : Word) :
    exec (.pselWrite m a n v) s = .next (s.withDev (pselWritten (pageBase a.toNat) n.val v.toNat
      (s.dev.regAccess m (pselAddr (pageBase a.toNat) n.val)))) := by
  show execPselWrite m a n v s = _
  simp only [execPselWrite, if_pos hn, State.onDev_writeAt h]

theorem pselWritten_w_same (pg n v : Nat) (d : Dev) : (pselWritten pg n v d).w (pselAddr pg n) = v % 2 ^ 25 := by
  have hw : (pselWritten pg n v d).w (pselAddr pg n) = (d.setw (pselAddr pg n) (v % 2 ^ 25)).w (pselAddr pg n) := rfl
  rw [hw, Dev.w_setw, if_pos rfl]
  omega

theorem pselWritten_counterAt (pg n v : Nat) (d : Dev) : (pselWritten pg n v d).counterAt pg n = ⟨0, false, false⟩ :=
  Tab.get_set_same (fun _ => {}) d.pcnt (pg + n) {}

theorem pselWritten_sameWords (pg n v : Nat) (d : Dev) : d.sameWords (pselWritten pg n v d) [pselAddr pg n] :=
  d.sameWords_setw (pselAddr pg n) (v % 2 ^ 25)

theorem pselWritten_sameUnits (pg n v : Nat) (d : Dev) : d.sameUnits (pselWritten pg n v d) := ⟨rfl, fun _ => rfl⟩

end Sys2Proof.Machine
end

section
/-! PROOF. Event words, VACK and PSEL: the four parts of O12. -/

namespace Sys2Proof.Machine

/-- Settles O12: an acknowledgement through `evtAcked_evt`, VACK and PSEL through the one word each of them sets, and an
occurrence through `Dev.evt_raise`. -/
theorem headerAndVectorWrites : Obligations.HeaderAndVectorWrites := by
  refine ⟨fun m a v s h => ?evtAck, fun m v s h => ?vack, fun m a n v s hn h => ?psel, fun d pg k => ?raise⟩
  case evtAck =>
    refine ⟨_, exec_evtAck h v, ?_, State.onlyTouches_withDev (fun _ _ => rfl) (evtAcked_sameEvents _ _ _)
      (evtAcked_sameUnits _ _ _)⟩
    rw [State.withDev_dev, evtAcked_evt, if_pos rfl]
    rfl
  case vack =>
    refine ⟨_, exec_vack h v, ?_, State.onlyTouches_withDev (Dev.sameWords_setw _ _ _) (Dev.sameEvents_setw _ _ _)
      (Dev.sameUnits_setw _ _ _)⟩
    rw [State.withDev_dev, Dev.w_setw, if_pos rfl, Nat.mod_eq_of_lt (Dev.w_and_lt _ _ _), Nat.mod_eq_of_lt v.isLt]
  case psel =>
    exact ⟨_, exec_pselWrite hn h v, pselWritten_w_same _ _ _ _, pselWritten_counterAt _ _ _ _,
      State.onlyTouches_withDev (pselWritten_sameWords _ _ _ _) (fun _ _ _ => rfl) (pselWritten_sameUnits _ _ _ _)⟩
  case raise =>
    refine ⟨?_, fun q j hqj => ?_, rfl⟩
    · simp only [Dev.evt_raise, and_true]
      rfl
    · rw [Dev.evt_raise, if_neg fun hc => hqj hc.2]

end Sys2Proof.Machine
end

section
/-! SUPPORT. How single updates touch the device: a field, an event, and one update after another. -/

namespace Sys2Proof.Machine

/-- Fields are read from registers, so devices with the same registers have the same fields. -/
theorem Dev.g_congr {d e : Dev} (hr : e.regs = d.regs) (b : Nat) (f : Fld) : e.g b f = d.g b f := by
  calc e.g b f = ({ d with regs := e.regs } : Dev).g b f := rfl
    _ = d.g b f := by rw [hr]

theorem Dev.sameWords_p (d : Dev) (b : Nat) (f : Fld) (v : Nat) : d.sameWords (d.p b f v) [b + f.off] :=
  d.sameWords_setw _ _

theorem Dev.sameEvents_raise (d : Dev) (pg k : Nat) : d.sameEvents (d.raise pg k) [pg + k] := by
  intro p j hj
  rw [Dev.evt_raise, if_neg fun h => hj (by simp [h.2])]

@[simp] theorem Dev.evt_pb (d : Dev) (b : Nat) (f : Fld) (v : Bool) (pg k : Nat) : (d.pb b f v).evt pg k = d.evt pg k := rfl

theorem Dev.sameUnits_p (d : Dev) (b : Nat) (f : Fld) (v : Nat) : d.sameUnits (d.p b f v) := d.sameUnits_setw _ _

/-- An occurrence of an event leaves words and engines. -/
theorem Dev.sameWords.raise {d e : Dev} {l : List Nat} (h : d.sameWords e l) (pg k : Nat) : d.sameWords (e.raise pg k) l := h

theorem Dev.sameWords.raiseIf {d e : Dev} {l : List Nat} (h : d.sameWords e l) (c : Bool) (pg k : Nat) :
    d.sameWords (e.raiseIf c pg k) l := h

theorem Dev.sameUnits.raise {d e : Dev} (h : d.sameUnits e) (pg k : Nat) : d.sameUnits (e.raise pg k) := ⟨h.1, h.2⟩

theorem Dev.sameUnits.raiseIf {d e : Dev} (h : d.sameUnits e) (c : Bool) (pg k : Nat) : d.sameUnits (e.raiseIf c pg k) :=
  ⟨h.1, h.2⟩

/-- A field written leaves events and engines. -/
theorem Dev.sameEvents.p {d e : Dev} {l : List Nat} (h : d.sameEvents e l) (b : Nat) (f : Fld) (v : Nat) :
    d.sameEvents (e.p b f v) l := h

theorem Dev.sameEvents.setw {d e : Dev} {l : List Nat} (h : d.sameEvents e l) (a v : Nat) : d.sameEvents (e.setw a v) l := h

theorem Dev.sameUnits.p {d e : Dev} (h : d.sameUnits e) (b : Nat) (f : Fld) (v : Nat) : d.sameUnits (e.p b f v) := ⟨h.1, h.2⟩

theorem Dev.sameUnits.setw {d e : Dev} (h : d.sameUnits e) (a v : Nat) : d.sameUnits (e.setw a v) := ⟨h.1, h.2⟩

/-- Capture units put back leave engines as they were. -/
theorem Dev.sameUnits.withCaps {d e : Dev} (h : d.sameUnits e) : d.sameUnits { e with caps := d.caps } :=
  ⟨congrArg (fun x : Dev => { x with caps := d.caps }) h.1, h.2⟩

/-- Events touched by an occurrence after an update that touches none. -/
theorem Dev.sameEvents.raise {d e : Dev} (h : d.sameEvents e []) (pg k : Nat) : d.sameEvents (e.raise pg k) [pg + k] := by
  intro p j hj
  rw [e.sameEvents_raise pg k p j hj, h p j (List.not_mem_nil)]

theorem Dev.sameEvents.raiseIf {d e : Dev} (h : d.sameEvents e []) (c : Bool) (pg k : Nat) :
    d.sameEvents (e.raiseIf c pg k) [pg + k] := by
  cases c
  · exact fun p j _ => h p j (List.not_mem_nil)
  · exact h.raise pg k

/-- What two updates touch, one after the other. -/
theorem Dev.sameWords.trans {d e f : Dev} {l₁ l₂ : List Nat} (h₁ : d.sameWords e l₁) (h₂ : e.sameWords f l₂) :
    d.sameWords f (l₁ ++ l₂) := by
  intro a ha
  rw [List.mem_append, not_or] at ha
  rw [h₂ a ha.2, h₁ a ha.1]

theorem Dev.sameWords.mono {d e : Dev} {l₁ l₂ : List Nat} (h : d.sameWords e l₁) (hl : l₁ ⊆ l₂) : d.sameWords e l₂ :=
  fun a ha => h a fun ha' => ha (hl ha')

end Sys2Proof.Machine
end

section
/-! SUPPORT. Capture points (R93, R113, R115): their addresses, and read after write of their units. -/

namespace Sys2Proof.Machine

theorem tdcPg_eq (h : Half) (cp : Nat) : tdcPg h cp = 0x170000 + h.num * 0x8000 + cp / 16 * 0x1000 := rfl

theorem tdcP_eq (h : Half) (cp : Nat) :
    tdcP h cp = 0x170100 + h.num * 0x8000 + cp / 16 * 0x1000 + 0x20 * (cp % 16) := by
  rw [tdcP, tdcPg_eq]
  omega

theorem half_num_lt (h : Half) : h.num < 2 := by cases h <;> decide

theorem typeAt_tdcPg (h : Half) (cp : Fin 80) : typeAt (tdcPg h cp.val) = some .tdc := by
  have hc : tdcPg h cp.val / 0x10000 % 0x100 = 0x17 := by
    have := half_num_lt h
    rw [tdcPg_eq]
    omega
  rw [typeAt, hc]
  rfl

/-- The whole event page of a TDC page is implemented (R115, R523). -/
theorem evtImplemented_tdc {pg k : Nat} (h : typeAt pg = some .tdc) (hk : k < 32) : evtImplemented pg k = true := by
  simp only [evtImplemented, h, evtWords, bitAt]
  interval_cases k <;> rfl

theorem evtImplemented_capErr (h : Half) (cp : Fin 80) : evtImplemented (tdcPg h cp.val) (capErrEvt cp.val) = true :=
  evtImplemented_tdc (typeAt_tdcPg h cp) (by unfold capErrEvt; omega)

@[simp] theorem Dev.cap_setCap_same (d : Dev) (h : Half) (cp : Nat) (u : CapUnit) : (d.setCap h cp u).cap h cp = u :=
  Tab.get_set_same (fun _ => ({} : CapUnit)) d.caps _ u

theorem Dev.cap_setCap_ne (d : Dev) (h : Half) {cp y : Nat} (u : CapUnit) (hy : y ≠ cp) :
    (d.setCap h cp u).cap h y = d.cap h y :=
  Tab.get_set_ne (fun _ => ({} : CapUnit)) d.caps _ _ u (by omega)

/-- Only capture units change when a comparator is judged anew. -/
theorem Dev.reCompared_eq (d : Dev) (h : Half) (cp : Nat) :
    d.reCompared h cp = { d with caps := (d.reCompared h cp).caps } := by
  unfold Dev.reCompared
  split <;> rfl

theorem Dev.reCompared_cap_same (d : Dev) (h : Half) (cp : Nat) :
    (d.reCompared h cp).cap h cp = { d.cap h cp with
      high := if cp < 20 then d.comparator h cp (d.cap h cp).high (d.cap h cp).level else (d.cap h cp).high } := by
  unfold Dev.reCompared
  by_cases hp : 20 ≤ cp
  · simp only [if_pos hp, if_neg (Nat.not_lt.2 hp)]
  · simp only [if_neg hp, if_pos (Nat.lt_of_not_le hp), Dev.cap_setCap_same]

theorem Dev.reCompared_cap_ne (d : Dev) (h : Half) {cp y : Nat} (hy : y ≠ cp) :
    (d.reCompared h cp).cap h y = d.cap h y := by
  unfold Dev.reCompared
  split
  · rfl
  · exact d.cap_setCap_ne h _ hy

end Sys2Proof.Machine
end

section
/-! SUPPORT. The effects of QRD_WRITE (R108) and MISSED_CLR (R111) on a point's words. -/

namespace Sys2Proof.Machine

theorem exec_qrdWrite {m : Master} {h : Half} {cp : Fin 80} {s : State} (hw : s.writable m (tdcP h cp.val + 0x0C))
    (v : BitVec 16) : exec (.qrdWrite m h cp v) s =
      .next (s.withDev (qrdWritten h cp.val v.toNat (s.dev.regAccess m (tdcP h cp.val + 0x0C)))) :=
  congrArg Host.Outcome.next (State.onDev_writeAt hw _)

theorem qrdWritten_ok {h : Half} {cp v : Nat} {d : Dev}
    (ho : (d.g (tdcP h cp) Reg.TDC.QPTR_QWR + 2 ^ 16 - v % 2 ^ 16) % 2 ^ 16 ≤ 64) :
    qrdWritten h cp v d = d.p (tdcP h cp) Reg.TDC.QPTR_QRD v := if_pos ho

theorem qrdWritten_bad {h : Half} {cp v : Nat} {d : Dev}
    (ho : 64 < (d.g (tdcP h cp) Reg.TDC.QPTR_QWR + 2 ^ 16 - v % 2 ^ 16) % 2 ^ 16) :
    qrdWritten h cp v d = (d.pb (tdcP h cp) Reg.TDC.PSTAT_ERR_QPTR true).raise (tdcPg h cp) (capErrEvt cp) :=
  if_neg (Nat.not_le.2 ho)

theorem exec_missedClr {m : Master} {h : Half} {cp : Fin 80} {s : State} (hw : s.writable m (tdcP h cp.val + 0x14)) :
    exec (.missedClr m h cp) s =
      .next (s.withDev (missedCleared h cp.val (s.dev.regAccess m (tdcP h cp.val + 0x14)))) :=
  congrArg Host.Outcome.next (State.onDev_writeAt hw _)

/-- The counts after MISSED.CLR, before the causes in PSTAT are cleared. -/
def missedCounts (h : Half) (cp : Nat) (d : Dev) : Dev :=
  ((d.p (tdcP h cp) Reg.TDC.MISSED_MISSED 0).p (tdcP h cp) Reg.TDC.LOSS_LOST 0).pb (tdcP h cp) Reg.TDC.MISSED_FL_VALID false

theorem missedCleared_eq (h : Half) (cp : Nat) (d : Dev) : missedCleared h cp d =
    (missedCounts h cp d).setw (tdcP h cp + 0x18) ((missedCounts h cp d).w (tdcP h cp + 0x18) % 2 ^ 8) := rfl

theorem missedCounts_sameWords (h : Half) (cp : Nat) (d : Dev) :
    d.sameWords (missedCounts h cp d) [tdcP h cp + 0x14, tdcP h cp + 0x10, tdcP h cp + 0x14] :=
  ((d.sameWords_p _ _ _).trans (Dev.sameWords_p _ _ _ _)).trans (Dev.sameWords_p _ _ _ _)

theorem missedCleared_sameWords (h : Half) (cp : Nat) (d : Dev) :
    d.sameWords (missedCleared h cp d) [tdcP h cp + 0x10, tdcP h cp + 0x14, tdcP h cp + 0x18] :=
  ((missedCounts_sameWords h cp d).trans (Dev.sameWords_setw _ _ _)).mono (by simp)

theorem missedCleared_sameEvents (h : Half) (cp : Nat) (d : Dev) : d.sameEvents (missedCleared h cp d) [] :=
  (((d.sameEvents_setw _ _).p _ _ _).p _ _ _).setw _ _

theorem missedCleared_sameUnits (h : Half) (cp : Nat) (d : Dev) : d.sameUnits (missedCleared h cp d) :=
  (((d.sameUnits_p _ _ _).p _ _ _).p _ _ _).setw _ _

theorem missedCleared_w_pstat (h : Half) (cp : Nat) (d : Dev) :
    (missedCleared h cp d).w (tdcP h cp + 0x18) = d.w (tdcP h cp + 0x18) % 2 ^ 8 := by
  rw [missedCleared_eq, Dev.w_setw, if_pos rfl, missedCounts_sameWords h cp d _ (by simp)]
  omega

/-- Fields outside PSTAT are as the counts have them. -/
theorem missedCleared_g {h : Half} {cp : Nat} {d : Dev} {f : Fld} (hf : f.off ≠ 0x18) :
    (missedCleared h cp d).g (tdcP h cp) f = (missedCounts h cp d).g (tdcP h cp) f := by
  rw [missedCleared_eq, Dev.g, Dev.w_setw, if_neg (by omega), Dev.g]

theorem missedCleared_missed (h : Half) (cp : Nat) (d : Dev) :
    (missedCleared h cp d).g (tdcP h cp) Reg.TDC.MISSED_MISSED = 0 := by
  rw [missedCleared_g (by decide), missedCounts, Dev.pb,
    Dev.g_p_beside _ _ Reg.TDC.MISSED_FL_VALID _ _ Reg.TDC.MISSED_MISSED rfl (by decide) (by decide),
    Dev.g_p_ne _ _ _ _ _ _ (by simp [Reg.TDC.MISSED_MISSED, Reg.TDC.LOSS_LOST]), Dev.g_p_same _ _ _ _ (by decide)]
  rfl

theorem missedCleared_lost (h : Half) (cp : Nat) (d : Dev) :
    (missedCleared h cp d).g (tdcP h cp) Reg.TDC.LOSS_LOST = 0 := by
  rw [missedCleared_g (by decide), missedCounts, Dev.pb,
    Dev.g_p_ne _ _ _ _ _ _ (by simp [Reg.TDC.MISSED_FL_VALID, Reg.TDC.LOSS_LOST]), Dev.g_p_same _ _ _ _ (by decide)]
  rfl

theorem missedCleared_flValid (h : Half) (cp : Nat) (d : Dev) :
    (missedCleared h cp d).gb (tdcP h cp) Reg.TDC.MISSED_FL_VALID = false := by
  rw [Dev.gb, missedCleared_g (by decide)]
  exact Dev.gb_pb_same _ _ _ _ (by decide) (by decide)

end Sys2Proof.Machine
end

section
/-! SUPPORT. The effects of COMPARATOR_WRITE (R101, R102): THR, and the word with SLOPE, DIFF and HYST. -/

namespace Sys2Proof.Machine

theorem exec_comparatorWrite_thr {m : Master} {h : Half} {cp : Fin 80} {s : State} (hw : s.writable m (tdcP h cp.val + 4))
    (v : Word) : exec (.comparatorWrite m h cp true v) s =
      .next (s.withDev (thrWritten h cp.val (v.toNat % 1024) (s.dev.regAccess m (tdcP h cp.val + 4)))) :=
  congrArg Host.Outcome.next (State.onDev_writeAt hw _)

theorem exec_comparatorWrite_cfg {m : Master} {h : Half} {cp : Fin 80} {s : State} (hw : s.writable m (tdcP h cp.val))
    (v : Word) : exec (.comparatorWrite m h cp false v) s =
      .next (s.withDev (pointRefresh h cp.val (capCfgWritten h cp.val v.toNat (s.dev.regAccess m (tdcP h cp.val))))) :=
  congrArg Host.Outcome.next (State.onDev_writeAt hw _)

/-- THR written changes its field and capture units. -/
theorem thrWritten_eq (h : Half) (cp v : Nat) (d : Dev) :
    thrWritten h cp v d = { d.p (tdcP h cp) Reg.TDC.THR v with caps := (thrWritten h cp v d).caps } :=
  Dev.reCompared_eq _ _ _

/-- The comparator settings are registers, so devices with the same registers judge a level alike. -/
theorem Dev.comparator_congr {d e : Dev} (hr : e.regs = d.regs) (h : Half) (cp : Nat) (high : Bool) (level : Int) :
    e.comparator h cp high level = d.comparator h cp high level := by
  calc e.comparator h cp high level
      = ({ d with regs := e.regs } : Dev).comparator h cp high level := rfl
    _ = d.comparator h cp high level := by rw [hr]

theorem thrWritten_cap_same (h : Half) (cp v : Nat) (d : Dev) :
    (thrWritten h cp v d).cap h cp = { d.cap h cp with
      blankTo := d.now + 25
      high := if cp < 20 then (thrWritten h cp v d).comparator h cp (d.cap h cp).high (d.cap h cp).level
        else (d.cap h cp).high } := by
  have hr : (thrWritten h cp v d).regs = (d.p (tdcP h cp) Reg.TDC.THR v).regs := by rw [thrWritten_eq]
  rw [Dev.comparator_congr hr, thrWritten, Dev.reCompared_cap_same, Dev.cap_setCap_same]
  rfl

theorem thrWritten_cap_ne (h : Half) {cp y : Nat} (v : Nat) (d : Dev) (hy : y ≠ cp) :
    (thrWritten h cp v d).cap h y = d.cap h y := by
  rw [thrWritten, Dev.reCompared_cap_ne _ _ hy, Dev.cap_setCap_ne _ _ _ hy]
  rfl

/-- The word that a write of `v` over `old` leaves in a point's CFG: what the page lets be written, and DIFF only at a pin
point (R94, R113). -/
def capCfgWord (h : Half) (cp old v : Nat) : Nat :=
  mergeWrite (tdcP h cp) old v &&& (if 20 ≤ cp then 0xFFFFDFFF else 0xFFFFFFFF)

theorem capCfgWord_lt (h : Half) (cp old v : Nat) : capCfgWord h cp old v < 2 ^ 32 :=
  lt_of_le_of_lt Nat.and_le_right (by split <;> decide)

theorem mergeWrite_lt (a : Nat) {old v : Nat} (ho : old < 2 ^ 32) (hv : v < 2 ^ 32) : mergeWrite a old v < 2 ^ 32 :=
  Nat.or_lt_two_pow (lt_of_le_of_lt Nat.and_le_left ho) (lt_of_le_of_lt Nat.and_le_left hv)

theorem capCfgWord_eq (h : Half) (cp : Nat) {old v : Nat} (ho : old < 2 ^ 32) (hv : v < 2 ^ 32) : capCfgWord h cp old v =
    if 20 ≤ cp then mergeWrite (tdcP h cp) old v &&& (0xFFFFFFFF - 0x2000) else mergeWrite (tdcP h cp) old v := by
  unfold capCfgWord
  by_cases hp : 20 ≤ cp
  · simp only [if_pos hp]
  · rw [if_neg hp, if_neg hp]
    exact (Nat.and_two_pow_sub_one_eq_mod _ 32).trans (Nat.mod_eq_of_lt (mergeWrite_lt _ ho hv))

/-- The unit of a point whose CFG goes from one word to another: a change of SLOPE, DIFF or HYST blanks it, a change of MODE
ends arming and a started interval (R102, R104). -/
def CapUnit.reconfigured (u : CapUnit) (now old new : Nat) : CapUnit :=
  let u1 := if old &&& comparatorBits ≠ new &&& comparatorBits then { u with blankTo := now + 25 } else u
  if old % 4 ≠ new % 4 then { u1 with armed := false, iv := none } else u1

theorem CapUnit.reconfigured_blankTo (u : CapUnit) (now old new : Nat) : (u.reconfigured now old new).blankTo =
    if old &&& 0xE00C ≠ new &&& 0xE00C then now + 25 else u.blankTo := by
  unfold CapUnit.reconfigured comparatorBits
  split_ifs <;> rfl

theorem capCfgWritten_eq (h : Half) (cp : Nat) {v : Nat} (d : Dev) (hv : v < 2 ^ 32) : capCfgWritten h cp v d =
    ((d.setw (tdcP h cp) (capCfgWord h cp (d.w (tdcP h cp)) v)).setCap h cp
      ((d.cap h cp).reconfigured d.now (d.w (tdcP h cp)) (capCfgWord h cp (d.w (tdcP h cp)) v))).reCompared h cp := by
  rw [capCfgWord_eq h cp (d.w_lt _) hv]
  rfl

theorem capCfgWritten_w (h : Half) (cp : Nat) {v : Nat} (d : Dev) (hv : v < 2 ^ 32) :
    (capCfgWritten h cp v d).w (tdcP h cp) = capCfgWord h cp (d.w (tdcP h cp)) v := by
  rw [capCfgWritten_eq h cp d hv, Dev.reCompared_eq]
  exact (Dev.w_setw _ _ _ _).trans ((if_pos rfl).trans (Nat.mod_eq_of_lt (capCfgWord_lt _ _ _ _)))

theorem capCfgWritten_blankTo (h : Half) (cp : Nat) {v : Nat} (d : Dev) (hv : v < 2 ^ 32) :
    ((capCfgWritten h cp v d).cap h cp).blankTo =
      if d.w (tdcP h cp) &&& 0xE00C ≠ capCfgWord h cp (d.w (tdcP h cp)) v &&& 0xE00C then d.now + 25
      else (d.cap h cp).blankTo := by
  rw [capCfgWritten_eq h cp d hv, Dev.reCompared_cap_same, Dev.cap_setCap_same]
  exact CapUnit.reconfigured_blankTo _ _ _ _

theorem capCfgWritten_tbs (h : Half) (cp v : Nat) (d : Dev) : (capCfgWritten h cp v d).tbs = d.tbs := by
  unfold capCfgWritten
  rw [Dev.reCompared_eq]
  rfl

end Sys2Proof.Machine
end

section
/-! SUPPORT. What the faults of candidates, taken afresh, leave (R129 to R131): whatever does not look at a candidate's own
state, of which capture units, timebases and the words of capture points are three such. -/

namespace Sys2Proof.Machine

/-- An observation of the device that a candidate's state never shows in: CSTAT, its SUSPECT bit, its engine and events. -/
structure CandBlind {α : Type} (g : Dev → α) (h : Half) (c : Nat) : Prop where
  fault   : ∀ d v, g (d.p (refQ h c) Reg.REF.CSTAT_FAULT v) = g d
  state   : ∀ d v, g (d.p (refQ h c) Reg.REF.CSTAT_STATE v) = g d
  suspect : ∀ d v, g (d.putSuspect h c v) = g d
  engine  : ∀ d u, g (d.setCand h c u) = g d
  event   : ∀ d k, g (d.raise (refPg h c) k) = g d

section
variable {α : Type} {g : Dev → α} {h : Half} {c : Nat}

theorem putCstate_blind (hg : CandBlind g h c) (d : Dev) (v : Nat) : g (d.putCstate h c v) = g d := by
  simp only [Dev.putCstate, hg.engine, hg.suspect, hg.state]

theorem putFaults_blind (hg : CandBlind g h c) (d : Dev) (f : Nat) : g (d.putFaults h c f) = g d := by
  unfold Dev.putFaults
  dsimp only
  split_ifs <;> simp only [hg.fault, hg.event, hg.engine, putCstate_blind hg]

theorem slipEnded_blind (hg : CandBlind g h c) (d : Dev) : g (slipEnded h c d) = g d := by
  unfold slipEnded
  dsimp only
  split
  · split
    · rw [Dev.putFault, putFaults_blind hg, hg.engine]
    · rfl
  · rfl

theorem candRefresh_blind (hg : CandBlind g h c) (d : Dev) : g (candRefresh h c d) = g d := by
  rw [candRefresh, putFaults_blind hg, slipEnded_blind hg]

end

theorem pointRefresh_blind {α : Type} {g : Dev → α} {h : Half} (hg : ∀ c < 30, CandBlind g h c) (cp : Nat) (d : Dev) :
    g (pointRefresh h cp d) = g d := by
  refine Dev.each_keeps g 30 _ d fun c hc e => ?_
  split
  · exact candRefresh_blind (hg c hc) e
  · rfl

theorem candBlind_caps (h : Half) (c : Nat) : CandBlind Dev.caps h c :=
  ⟨fun d _ => d.p_caps _ _ _, fun d _ => d.p_caps _ _ _, fun d _ => d.setw_caps _ _, fun _ _ => rfl, fun d _ => d.raise_caps _ _⟩

theorem candBlind_tbs (h : Half) (c : Nat) : CandBlind Dev.tbs h c :=
  ⟨fun d _ => d.p_tbs _ _ _, fun d _ => d.p_tbs _ _ _, fun d _ => d.setw_tbs _ _, fun _ _ => rfl, fun d _ => d.raise_tbs _ _⟩

/-- REF and SEL pages lie below the TDC pages, so no candidate's state is in a capture point's words. -/
theorem candBlind_tdc {h : Half} {c : Nat} (hc : c < 30) (cp : Nat) : CandBlind (fun d => d.w (tdcP h cp)) h c := by
  have hn := half_num_lt h
  have hq : refQ h c + 0x20 < 0x170100 := by
    simp only [refQ, refPg, pageAddr, Page.code]
    omega
  have hs : selPg h + 0x504 < 0x170100 := by
    simp only [selPg, pageAddr, Page.code]
    omega
  have hp : 0x170100 ≤ tdcP h cp := by
    rw [tdcP_eq]
    omega
  exact ⟨fun d v => d.w_p_ne _ _ _ _ (hq.trans_le hp).ne', fun d v => d.w_p_ne _ _ _ _ (hq.trans_le hp).ne',
    fun d v => (d.w_setw _ _ _).trans (if_neg (hs.trans_le hp).ne'), fun _ _ => rfl, fun _ _ => rfl⟩

theorem pointRefresh_cap (h : Half) (cp y : Nat) (d : Dev) : (pointRefresh h cp d).cap h y = d.cap h y :=
  congrArg (fun t : Tab CapUnit => tget {} t (h.num * 80 + y)) (pointRefresh_blind (fun c _ => candBlind_caps h c) cp d)

theorem pointRefresh_tbs (h : Half) (cp : Nat) (d : Dev) : (pointRefresh h cp d).tbs = d.tbs :=
  pointRefresh_blind (fun c _ => candBlind_tbs h c) cp d

theorem pointRefresh_w_tdcP (h : Half) (cp y : Nat) (d : Dev) : (pointRefresh h cp d).w (tdcP h y) = d.w (tdcP h y) :=
  pointRefresh_blind (fun _ hc => candBlind_tdc hc y) cp d

end Sys2Proof.Machine
end

section
/-! SUPPORT. The pin-event queue (R107 to R112) and an interval that ends without a stop edge (R106). -/

namespace Sys2Proof.Machine

/-- The queue store with the eight words of an entry written at a slot. -/
def entryStored (t : Tab Word) (slot : Nat) (ws : List Nat) : Tab Word :=
  (List.range 8).foldl (fun t i => tset 0 t (slot + i) (BitVec.ofNat 32 (ws[i]?.getD 0))) t

theorem tget_entryStored (t : Tab Word) (slot : Nat) (ws : List Nat) {i : Nat} (hi : i < 8) :
    tget 0 (entryStored t slot ws) (slot + i) = BitVec.ofNat 32 (ws[i]?.getD 0) := by
  simp only [entryStored, List.range, List.range.loop, List.foldl, tset, tget, Tab.get_set]
  interval_cases i <;> simp

/-- The next SEQ of a point taken by a stamp offered (R107). -/
def Dev.seqTaken (d : Dev) (h : Half) (cp : Nat) : Dev :=
  d.setCap h cp { d.cap h cp with seq := ((d.cap h cp).seq + 1) % 2 ^ 16 }

/-- A stamp lost: LOST counts it, and the SEQ of the first one lost is held (R110). -/
def Dev.lossCounted (d : Dev) (b seq : Nat) : Dev :=
  if d.gb b Reg.TDC.MISSED_FL_VALID then d.incSat b Reg.TDC.LOSS_LOST
  else ((d.incSat b Reg.TDC.LOSS_LOST).p b Reg.TDC.LOSS_FIRST_LOST_SEQ seq).pb b Reg.TDC.MISSED_FL_VALID true

/-- What an offer to a full queue does (R110). -/
def Dev.entryLost (d : Dev) (h : Half) (cp : Nat) : Dev :=
  ((((d.seqTaken h cp).lossCounted (tdcP h cp) (d.cap h cp).seq).pb (tdcP h cp) Reg.TDC.PSTAT_ERR_LOSS true).raise
    (tdcPg h cp) (capErrEvt cp)).perf (tdcPg h cp) 0x03 { address := some (cp % 16) }

/-- What an offer that the queue has room for does: the entry stored at QWR, QWR advanced, and CAP_DATA at the threshold (R108). -/
def Dev.entryTaken (d : Dev) (h : Half) (cp stamp ecnt cspan : Nat) (f : EntryFlags) : Dev :=
  (({ d.seqTaken h cp with
      capq := entryStored d.capq (capSlot h cp (d.g (tdcP h cp) Reg.TDC.QPTR_QWR))
        (entryWords stamp f ecnt (d.cap h cp).seq (d.capTb h cp) cspan) }).inc (tdcP h cp) Reg.TDC.QPTR_QWR).raiseIf
    (d.capOcc h cp + 1 == max 1 (d.g (tdcP h cp) Reg.TDC.CFG_QTHR)) (tdcPg h cp) (capDataEvt cp)

theorem Dev.offerEntry_eq (d : Dev) (h : Half) (cp stamp ecnt cspan : Nat) (f : EntryFlags) :
    d.offerEntry h cp stamp ecnt cspan f =
      if !(d.gb (tdcP h cp) Reg.TDC.CFG_QEN) then d
      else if 64 ≤ d.capOcc h cp then d.entryLost h cp
      else d.entryTaken h cp stamp ecnt cspan f := rfl

theorem Dev.offerEntry_off {d : Dev} {h : Half} {cp : Nat} (hq : d.gb (tdcP h cp) Reg.TDC.CFG_QEN = false)
    (stamp ecnt cspan : Nat) (f : EntryFlags) : d.offerEntry h cp stamp ecnt cspan f = d := by
  rw [Dev.offerEntry_eq, hq]
  rfl

theorem Dev.offerEntry_room {d : Dev} {h : Half} {cp : Nat} (hq : d.gb (tdcP h cp) Reg.TDC.CFG_QEN = true)
    (ho : d.capOcc h cp < 64) (stamp ecnt cspan : Nat) (f : EntryFlags) :
    d.offerEntry h cp stamp ecnt cspan f = d.entryTaken h cp stamp ecnt cspan f := by
  rw [Dev.offerEntry_eq, hq, if_neg (Nat.not_le.2 ho)]
  rfl

/-- What a lost stamp and a stamp taken both leave, every offer leaves. -/
theorem Dev.offerEntry_keeps {α : Type} (g : Dev → α) {d : Dev} {h : Half} {cp stamp ecnt cspan : Nat} {f : EntryFlags}
    (hl : g (d.entryLost h cp) = g d) (ht : g (d.entryTaken h cp stamp ecnt cspan f) = g d) :
    g (d.offerEntry h cp stamp ecnt cspan f) = g d := by
  rw [Dev.offerEntry_eq]
  split_ifs
  exacts [rfl, hl, ht]

theorem Dev.lossCounted_tbs (d : Dev) (b seq : Nat) : (d.lossCounted b seq).tbs = d.tbs := by
  unfold Dev.lossCounted
  split
  · exact Dev.p_tbs _ _ _ _
  · exact (Dev.pb_tbs _ _ _ _).trans ((Dev.p_tbs _ _ _ _).trans (Dev.p_tbs _ _ _ _))

theorem Dev.lossCounted_caps (d : Dev) (b seq : Nat) : (d.lossCounted b seq).caps = d.caps := by
  unfold Dev.lossCounted
  split
  · exact Dev.p_caps _ _ _ _
  · exact (Dev.pb_caps _ _ _ _).trans ((Dev.p_caps _ _ _ _).trans (Dev.p_caps _ _ _ _))

theorem Dev.seqTaken_iv (d : Dev) (h : Half) (cp : Nat) : ((d.seqTaken h cp).cap h cp).iv = (d.cap h cp).iv := by
  rw [Dev.seqTaken, Dev.cap_setCap_same]

theorem Dev.entryLost_tbs (d : Dev) (h : Half) (cp : Nat) : (d.entryLost h cp).tbs = d.tbs :=
  Dev.lossCounted_tbs _ _ _

theorem Dev.entryLost_cap (d : Dev) (h : Half) (cp : Nat) : (d.entryLost h cp).cap h cp = (d.seqTaken h cp).cap h cp :=
  congrArg (fun t : Tab CapUnit => tget {} t (h.num * 80 + cp)) (Dev.lossCounted_caps _ _ _)

theorem Dev.entryTaken_cap (d : Dev) (h : Half) (cp stamp ecnt cspan : Nat) (f : EntryFlags) :
    (d.entryTaken h cp stamp ecnt cspan f).cap h cp = (d.seqTaken h cp).cap h cp := rfl

/-- An offer changes of a capture unit its SEQ, never a started interval. -/
theorem Dev.offerEntry_iv (d : Dev) (h : Half) (cp stamp ecnt cspan : Nat) (f : EntryFlags) :
    ((d.offerEntry h cp stamp ecnt cspan f).cap h cp).iv = (d.cap h cp).iv := by
  refine Dev.offerEntry_keeps (fun e => (e.cap h cp).iv) ?_ ?_
  · rw [Dev.entryLost_cap, Dev.seqTaken_iv]
  · rw [Dev.entryTaken_cap, Dev.seqTaken_iv]

theorem Dev.offerEntry_tbs (d : Dev) (h : Half) (cp stamp ecnt cspan : Nat) (f : EntryFlags) :
    (d.offerEntry h cp stamp ecnt cspan f).tbs = d.tbs :=
  Dev.offerEntry_keeps Dev.tbs (d.entryLost_tbs h cp) rfl

theorem getElem?_five_getD (a b c d e x : Nat) (l : List Nat) : (a :: b :: c :: d :: e :: x :: l)[5]?.getD 0 = x := rfl

theorem entryWords_flags (stamp ecnt seq tb cspan : Nat) (f : EntryFlags) :
    (entryWords stamp f ecnt seq tb cspan)[5]?.getD 0 = seq % 2 ^ 16 + bitOf f.start * 2 ^ 16 + bitOf f.stop * 2 ^ 17 +
      bitOf f.timeout * 2 ^ 18 + bitOf f.trig * 2 ^ 19 + bitOf f.tslew * 2 ^ 20 + tb % 16 * 2 ^ 24 :=
  getElem?_five_getD _ _ _ _ _ _ _

theorem bitOf_le_one (b : Bool) : bitOf b ≤ 1 := by cases b <;> decide

/-- STOP and TIMEOUT are bits 17 and 18 of word 5 of an entry (R112). -/
theorem entryWords_stop_timeout (stamp ecnt seq tb cspan : Nat) (f : EntryFlags) :
    getBits (BitVec.ofNat 32 ((entryWords stamp f ecnt seq tb cspan)[5]?.getD 0)).toNat 17 2 =
      bitOf f.stop + 2 * bitOf f.timeout := by
  rw [entryWords_flags, BitVec.toNat_ofNat, getBits]
  have h1 := bitOf_le_one f.start
  have h2 := bitOf_le_one f.stop
  have h3 := bitOf_le_one f.timeout
  have h4 := bitOf_le_one f.trig
  have h5 := bitOf_le_one f.tslew
  omega

theorem Dev.entryTaken_capq (d : Dev) (h : Half) (cp stamp ecnt cspan : Nat) (f : EntryFlags) :
    (d.entryTaken h cp stamp ecnt cspan f).capq = entryStored d.capq (capSlot h cp (d.g (tdcP h cp) Reg.TDC.QPTR_QWR))
      (entryWords stamp f ecnt (d.cap h cp).seq (d.capTb h cp) cspan) := rfl

theorem Dev.entryTaken_regs (d : Dev) (h : Half) (cp stamp ecnt cspan : Nat) (f : EntryFlags) :
    (d.entryTaken h cp stamp ecnt cspan f).regs = (d.inc (tdcP h cp) Reg.TDC.QPTR_QWR).regs := rfl

theorem Dev.g_inc_same (d : Dev) (b : Nat) (f : Fld) (h : f.lo + f.len ≤ 32) : (d.inc b f).g b f = (d.g b f + 1) % 2 ^ f.len :=
  d.g_p_same b f _ h

theorem Dev.entryTaken_qwr (d : Dev) (h : Half) (cp stamp ecnt cspan : Nat) (f : EntryFlags) :
    (d.entryTaken h cp stamp ecnt cspan f).g (tdcP h cp) Reg.TDC.QPTR_QWR =
      (d.g (tdcP h cp) Reg.TDC.QPTR_QWR + 1) % 2 ^ 16 :=
  (Dev.g_congr (d.entryTaken_regs h cp stamp ecnt cspan f) _ _).trans (d.g_inc_same _ _ (by decide))

theorem Dev.entryTaken_stop_timeout (d : Dev) (h : Half) (cp stamp ecnt cspan : Nat) (f : EntryFlags) :
    getBits (tget 0 (d.entryTaken h cp stamp ecnt cspan f).capq
      (capSlot h cp (d.g (tdcP h cp) Reg.TDC.QPTR_QWR) + 5)).toNat 17 2 = bitOf f.stop + 2 * bitOf f.timeout := by
  rw [Dev.entryTaken_capq, tget_entryStored _ _ _ (by decide), entryWords_stop_timeout]

/-- Beyond the unit and the queue store, an entry taken is QWR advanced and CAP_DATA at the threshold. -/
theorem Dev.entryTaken_eq (d : Dev) (h : Half) (cp stamp ecnt cspan : Nat) (f : EntryFlags) (c : Tab CapUnit) (q : Tab Word) :
    { d.entryTaken h cp stamp ecnt cspan f with caps := c, capq := q } =
      ({ d with caps := c, capq := q }.inc (tdcP h cp) Reg.TDC.QPTR_QWR).raiseIf
        (d.capOcc h cp + 1 == max 1 (d.g (tdcP h cp) Reg.TDC.CFG_QTHR)) (tdcPg h cp) (capDataEvt cp) := rfl

/-- What ends an interval without a stop edge (R106): 1 s in the point's timebase, or a stop point whose unit gives none. -/
def Dev.ivOver (d : Dev) (h : Half) (cp : Nat) (i : IvStart) : Prop :=
  i.count + secUnit ≤ d.count h (d.capTb h cp) ∨ d.gb (tdcP h i.stop) Reg.TDC.PSTAT_OOS = true ∨ d.capStopped h i.stop = true

/-- The device with a point's interval ended. -/
def Dev.ivEnded (d : Dev) (h : Half) (cp : Nat) : Dev := d.setCap h cp { d.cap h cp with iv := none }

theorem Dev.ivEnded_g (d : Dev) (h : Half) (cp b : Nat) (f : Fld) : (d.ivEnded h cp).g b f = d.g b f := rfl

theorem Dev.ivEnded_gb (d : Dev) (h : Half) (cp b : Nat) (f : Fld) : (d.ivEnded h cp).gb b f = d.gb b f := rfl

theorem Dev.ivEnded_capOcc (d : Dev) (h : Half) (cp : Nat) : (d.ivEnded h cp).capOcc h cp = d.capOcc h cp := by
  simp only [Dev.capOcc, Dev.ivEnded_g]

/-- Capture units and the queue store put back, an ended interval is undone. -/
theorem Dev.ivEnded_restored (d : Dev) (h : Half) (cp : Nat) : { d.ivEnded h cp with caps := d.caps, capq := d.capq } = d := rfl

/-- An interval that is over is ended, and its timeout entry offered to the point's queue. -/
theorem Dev.capTimeout_over {d : Dev} {h : Half} {cp : Nat} {i : IvStart} (hi : (d.cap h cp).iv = some i)
    (hover : d.ivOver h cp i) : d.capTimeout h cp = (d.ivEnded h cp).offerEntry h cp 0 (d.cap h cp).ecnt
      ((d.cap h cp).c2 - (d.cap h cp).c1) { stop := true, timeout := true } := by
  simp only [Dev.ivOver] at hover
  simp only [Dev.capTimeout, hi, Bool.or_eq_true, decide_eq_true_eq, or_assoc, if_pos hover]
  rfl

/-- With QEN 0 an interval that is over is ended and nothing more. -/
theorem Dev.capTimeout_unqueued {d : Dev} {h : Half} {cp : Nat} {i : IvStart} (hi : (d.cap h cp).iv = some i)
    (hover : d.ivOver h cp i) (hq : d.gb (tdcP h cp) Reg.TDC.CFG_QEN = false) : d.capTimeout h cp = d.ivEnded h cp := by
  rw [Dev.capTimeout_over hi hover, Dev.offerEntry_off ((d.ivEnded_gb h cp _ _).trans hq)]

/-- With QEN 1 and room in the queue the timeout entry is taken. -/
theorem Dev.capTimeout_queued {d : Dev} {h : Half} {cp : Nat} {i : IvStart} (hi : (d.cap h cp).iv = some i)
    (hover : d.ivOver h cp i) (hq : d.gb (tdcP h cp) Reg.TDC.CFG_QEN = true) (ho : d.capOcc h cp < 64) :
    d.capTimeout h cp = (d.ivEnded h cp).entryTaken h cp 0 (d.cap h cp).ecnt ((d.cap h cp).c2 - (d.cap h cp).c1)
      { stop := true, timeout := true } := by
  rw [Dev.capTimeout_over hi hover,
    Dev.offerEntry_room ((d.ivEnded_gb h cp _ _).trans hq) ((d.ivEnded_capOcc h cp).trans_lt ho)]

theorem Dev.capTimeout_iv {d : Dev} {h : Half} {cp : Nat} {i : IvStart} (hi : (d.cap h cp).iv = some i)
    (hover : d.ivOver h cp i) : ((d.capTimeout h cp).cap h cp).iv = none := by
  rw [Dev.capTimeout_over hi hover, Dev.offerEntry_iv, Dev.ivEnded, Dev.cap_setCap_same]

theorem Dev.capTimeout_tbs {d : Dev} {h : Half} {cp : Nat} {i : IvStart} (hi : (d.cap h cp).iv = some i)
    (hover : d.ivOver h cp i) : (d.capTimeout h cp).tbs = d.tbs := by
  rw [Dev.capTimeout_over hi hover, Dev.offerEntry_tbs]
  rfl

end Sys2Proof.Machine
end

section
/-! PROOF. QRD, MISSED.CLR, THR and CFG written, and an interval that times out: the seven parts of O30. -/

namespace Sys2Proof.Machine

theorem qrdWrite_accepted (m : Master) (h : Half) (cp : Fin 80) (v : BitVec 16) (s : State)
    (hw : s.writable m (tdcP h cp.val + 0x0C))
    (ho : (s.dev.g (tdcP h cp.val) Reg.TDC.QPTR_QWR + 2 ^ 16 - v.toNat) % 2 ^ 16 ≤ 64) :
    ∃ t, exec (.qrdWrite m h cp v) s = .next t ∧ t.dev.g (tdcP h cp.val) Reg.TDC.QPTR_QRD = v.toNat ∧
      t.dev.g (tdcP h cp.val) Reg.TDC.QPTR_QWR = s.dev.g (tdcP h cp.val) Reg.TDC.QPTR_QWR ∧
      s.onlyTouches t [tdcP h cp.val + 0x0C] [] := by
  rw [← Nat.mod_eq_of_lt v.isLt] at ho
  have he := exec_qrdWrite hw v
  rw [qrdWritten_ok (d := s.dev.regAccess m _) ho] at he
  refine ⟨_, he, ?_, ?_, State.onlyTouches_withDev (Dev.sameWords_p _ _ _ _) (Dev.sameEvents_setw _ _ _)
    (Dev.sameUnits_p _ _ _ _)⟩
  · rw [State.withDev_dev, Dev.g_p_same _ _ _ _ (by decide)]
    exact Nat.mod_eq_of_lt v.isLt
  · exact Dev.g_p_beside _ _ _ _ _ _ rfl (by decide) (by decide)

theorem qrdWrite_discarded (m : Master) (h : Half) (cp : Fin 80) (v : BitVec 16) (s : State)
    (hw : s.writable m (tdcP h cp.val + 0x0C))
    (ho : 64 < (s.dev.g (tdcP h cp.val) Reg.TDC.QPTR_QWR + 2 ^ 16 - v.toNat) % 2 ^ 16) :
    ∃ t, exec (.qrdWrite m h cp v) s = .next t ∧ t.dev.gb (tdcP h cp.val) Reg.TDC.PSTAT_ERR_QPTR = true ∧
      t.dev.evt (tdcPg h cp.val) (capErrEvt cp.val) = (s.dev.evt (tdcPg h cp.val) (capErrEvt cp.val)).occur ∧
      s.onlyTouches t [tdcP h cp.val + 0x18] [tdcPg h cp.val + capErrEvt cp.val] := by
  rw [← Nat.mod_eq_of_lt v.isLt] at ho
  have he := exec_qrdWrite hw v
  rw [qrdWritten_bad (d := s.dev.regAccess m _) ho] at he
  refine ⟨_, he, Dev.gb_pb_same _ _ _ _ (by decide) (by decide), ?_,
    State.onlyTouches_withDev ((Dev.sameWords_p _ _ _ _).raise _ _) ((Dev.sameEvents_setw _ _ _).raise _ _)
      ((Dev.sameUnits_p _ _ _ _).raise _ _)⟩
  rw [State.withDev_dev, Dev.evt_raise, if_pos ⟨evtImplemented_capErr h cp, rfl⟩, Dev.evt_pb, Dev.evt_regAccess]

theorem thrWrite_blanks (m : Master) (h : Half) (cp : Fin 80) (v : Word) (s : State)
    (hw : s.writable m (tdcP h cp.val + 4)) :
    ∃ t, exec (.comparatorWrite m h cp true v) s = .next t ∧ t.dev.g (tdcP h cp.val) Reg.TDC.THR = v.toNat % 1024 ∧
      (let u := s.dev.cap h cp.val
       t.dev.cap h cp.val = { u with
        blankTo := s.dev.now + 25, high := if cp.val < 20 then t.dev.comparator h cp.val u.high u.level else u.high }) ∧
      (∀ y < 80, y ≠ cp.val → t.dev.cap h y = s.dev.cap h y) ∧
      s.onlyTouches { t with dev := { t.dev with caps := s.dev.caps } } [tdcP h cp.val + 4] [] := by
  refine ⟨_, exec_comparatorWrite_thr hw v, ?_, thrWritten_cap_same _ _ _ _, fun y _ hy => thrWritten_cap_ne _ _ _ hy, ?_⟩
  · rw [State.withDev_dev, thrWritten_eq]
    exact (Dev.g_p_same _ _ _ _ (by decide)).trans (Nat.mod_mod _ _)
  · rw [State.withDev_dev, thrWritten_eq]
    exact State.onlyTouches_withDev (e := { (s.dev.regAccess m _).p _ _ _ with caps := s.dev.caps })
      (Dev.sameWords_p _ _ _ _) (Dev.sameEvents_setw _ _ _) (Dev.sameUnits_p _ _ _ _).withCaps

theorem timeout_takesEntry (h : Half) (cp : Fin 80) (i : IvStart) (s : State) (hi : (s.dev.cap h cp.val).iv = some i)
    (hover : s.dev.ivOver h cp.val i) (hq : s.dev.gb (tdcP h cp.val) Reg.TDC.CFG_QEN = true)
    (ho : s.dev.capOcc h cp.val < 64) :
    ∃ t, exec (.intervalTimeout h cp) s = .next t ∧ (t.dev.cap h cp.val).iv = none ∧
      getBits (tget 0 t.dev.capq (capSlot h cp.val (s.dev.g (tdcP h cp.val) Reg.TDC.QPTR_QWR) + 5)).toNat 17 2 = 3 ∧
      t.dev.g (tdcP h cp.val) Reg.TDC.QPTR_QWR = (s.dev.g (tdcP h cp.val) Reg.TDC.QPTR_QWR + 1) % 2 ^ 16 ∧
      s.onlyTouches { t with dev := { t.dev with caps := s.dev.caps, capq := s.dev.capq } } [tdcP h cp.val + 0x0C]
        [tdcPg h cp.val + capDataEvt cp.val] := by
  have he := Dev.capTimeout_queued hi hover hq ho
  refine ⟨s.withDev (s.dev.capTimeout h cp.val), rfl, Dev.capTimeout_iv hi hover, ?_, ?_, ?_⟩
  · rw [State.withDev_dev, he, ← s.dev.ivEnded_g h cp.val, Dev.entryTaken_stop_timeout]
    rfl
  · rw [State.withDev_dev, he, Dev.entryTaken_qwr, Dev.ivEnded_g]
  · rw [State.withDev_dev, he, Dev.entryTaken_eq, Dev.ivEnded_restored]
    exact ⟨(Dev.sameWords_p _ _ _ _).raiseIf _ _ _, (Dev.sameEvents_setw _ _ _).raiseIf _ _ _,
      (Dev.sameUnits_p _ _ _ _).raiseIf _ _ _, rfl, rfl⟩

/-- Settles O30, a part at a time: QRD and MISSED.CLR through the words they write, THR and CFG through the unit they blank
(with `pointRefresh_blind` for what the candidates' faults leave), and a timeout through the entry it offers. -/
theorem pinQueueAndComparatorWrites : Obligations.PinQueueAndComparatorWrites := by
  refine ⟨qrdWrite_accepted, qrdWrite_discarded, fun m h cp s hw => ?clr, thrWrite_blanks, fun m h cp v s hw => ?cfg,
    fun h cp i s hi hover => ?ended, timeout_takesEntry⟩
  case clr =>
    exact ⟨_, exec_missedClr hw, missedCleared_missed _ _ _, missedCleared_lost _ _ _, missedCleared_flValid _ _ _,
      missedCleared_w_pstat _ _ _,
      State.onlyTouches_withDev (missedCleared_sameWords _ _ _) (missedCleared_sameEvents _ _ _)
        (missedCleared_sameUnits _ _ _)⟩
  case cfg =>
    refine ⟨_, exec_comparatorWrite_cfg hw v, ?_, ?_, ?_, rfl, rfl⟩
    · rw [State.withDev_dev, pointRefresh_w_tdcP, capCfgWritten_w _ _ _ v.isLt]
      rfl
    · rw [State.withDev_dev, pointRefresh_cap, capCfgWritten_blankTo _ _ _ v.isLt]
      rfl
    · rw [State.withDev_dev, pointRefresh_tbs, capCfgWritten_tbs]
      rfl
  case ended =>
    refine ⟨s.withDev (s.dev.capTimeout h cp.val), rfl, Dev.capTimeout_iv hi hover, fun hq => ?_, Dev.capTimeout_tbs hi hover,
      rfl, rfl⟩
    rw [State.withDev_dev, Dev.capTimeout_unqueued hi hover hq]
    exact ⟨fun _ _ => rfl, fun _ _ _ => rfl, ⟨rfl, fun _ => rfl⟩, rfl, rfl⟩

end Sys2Proof.Machine
end

section
/-! SUPPORT. A page of each half: reading it beside what is written in the other, and one act on both halves in turn. -/

namespace Sys2Proof.Machine

/-- No address in a half's page of a type is one in the other half's. -/
theorem pageAddr_other_ne (p : Page) (h : Half) {a b : Nat} (ha : a < 0x8000) (hb : b < 0x8000) :
    pageAddr p h.other 0 + a ≠ pageAddr p h 0 + b := by
  cases h <;> simp only [pageAddr, Half.other, Half.num] <;> omega

/-- A field in a half's page keeps its value when one is written in the other half's. -/
theorem Dev.g_p_other (d : Dev) (p : Page) (h : Half) (f f' : Fld) (v : Nat) (hf : f.off < 0x8000) (hf' : f'.off < 0x8000) :
    (d.p (pageAddr p h 0) f v).g (pageAddr p h.other 0) f' = d.g (pageAddr p h.other 0) f' :=
  d.g_p_ne _ _ _ _ _ (pageAddr_other_ne p h hf' hf)

theorem Dev.gb_pb_other (d : Dev) (p : Page) (h : Half) (f f' : Fld) (v : Bool) (hf : f.off < 0x8000) (hf' : f'.off < 0x8000) :
    (d.pb (pageAddr p h 0) f v).gb (pageAddr p h.other 0) f' = d.gb (pageAddr p h.other 0) f' :=
  d.gb_p_ne _ _ _ _ _ (pageAddr_other_ne p h hf' hf)

/-- A field keeps its value when another word is written. -/
theorem Dev.g_setw_ne (d : Dev) {a b : Nat} {f : Fld} (v : Nat) (h : b + f.off ≠ a) : (d.setw a v).g b f = d.g b f := by
  unfold Dev.g
  rw [Dev.w_setw, if_neg h]

theorem Dev.evt_raise_own (d : Dev) {pg k : Nat} (hi : evtImplemented pg k = true) :
    (d.raise pg k).evt pg k = (d.evt pg k).occur := by
  rw [Dev.evt_raise, if_pos ⟨hi, rfl⟩]

theorem Dev.evt_raise_ne (d : Dev) {pg k p j : Nat} (hne : p + j ≠ pg + k) : (d.raise pg k).evt p j = d.evt p j := by
  rw [Dev.evt_raise, if_neg fun hc => hne hc.2]

/-- What both branches have in common, whatever the condition. -/
theorem keeps_ite {α : Type} {g : Dev → α} {P : Prop} [Decidable P] {x y : Dev} {v : α} (hx : g x = v) (hy : g y = v) :
    g (if P then x else y) = v := by
  split
  · exact hx
  · exact hy

/-- What every step keeps, a run over a list or over the first naturals keeps. -/
theorem foldl_keeps {α β : Type} {g : Dev → α} {f : Dev → β → Dev} (h : ∀ e x, g (f e x) = g e) (l : List β)
    (d : Dev) : g (l.foldl f d) = g d := by
  induction l generalizing d with
  | nil => rfl
  | cons x l ih => exact (ih (f d x)).trans (h d x)

theorem Dev.each_frame {α : Type} {g : Dev → α} {k : Nat} {f : Nat → Dev → Dev} (h : ∀ i e, g (f i e) = g e)
    (d : Dev) : g (d.each k f) = g d :=
  d.each_keeps g k f fun i _ e => h i e

section
variable {α : Type} (f : Half → Dev → Dev)

/-- What each half's part of an act keeps, the act on both halves keeps. -/
theorem both_keeps {g : Dev → α} (hk : ∀ h d, g (f h d) = g d) (d : Dev) :
    g ([Half.warp, Half.weft].foldl (fun e h => f h e) d) = g d :=
  (hk .weft _).trans (hk .warp d)

/-- What an act does to what is seen of a half, where its part for the other half does nothing to it. -/
theorem both_rel {g : Half → Dev → α} {R : α → α → Prop} (own : ∀ h d, R (g h d) (g h (f h d)))
    (other : ∀ h d, g h.other (f h d) = g h.other d) (d : Dev) (e : Half) :
    R (g e d) (g e ([Half.warp, Half.weft].foldl (fun e h => f h e) d)) := by
  cases e with
  | warp => exact (other .weft (f .warp d)).symm ▸ own .warp d
  | weft => exact other .warp d ▸ own .weft (f .warp d)

theorem both_own {g : Half → Dev → α} {F : α → α} (own : ∀ h d, g h (f h d) = F (g h d))
    (other : ∀ h d, g h.other (f h d) = g h.other d) (d : Dev) (e : Half) :
    g e ([Half.warp, Half.weft].foldl (fun e h => f h e) d) = F (g e d) :=
  both_rel f (R := fun x y => y = F x) own other d e

end

end Sys2Proof.Machine
end

section
/-! SUPPORT. The commit of a mailbox's command (R64, R65): what it hands over, and a command that is refused. -/

namespace Sys2Proof.Machine

/-- The device once firmware has handed over what it made of a command: the result's device with the mailbox's outcome. -/
def FwResult.handed (r : FwResult) (b : Nat) (c : FwCmd) : Dev :=
  r.dev.setMb b (((r.dev.mb b).outcome c r.code).finish c r.code r.rsp)

theorem Dev.mb_setMb (d : Dev) (b : Nat) (m : Mbx) : (d.setMb b m).mb b = m :=
  Tab.get_set_same (fun _ => ({} : Mbx)) d.mbx b m

@[simp] theorem Mbx.outcome_fw (m : Mbx) (c : FwCmd) (code : Nat) : (m.outcome c code).fw = m.fw := by
  unfold Mbx.outcome
  split <;> rfl

theorem Dev.mbxCommit_none {s : State} {b op : Nat} (h : s.noCommit b op) (f : FwCmd → Dev → FwResult) :
    s.dev.mbxCommit b op f = s.dev := by
  unfold Dev.mbxCommit
  rcases h with h | h
  · rw [h]
  · split
    · rfl
    · simp [h]

theorem Dev.mbxCommit_eq {s : State} {b op : Nat} {c : FwCmd} (h : s.atCommit b op c) (hop : op ≠ opQueryTag)
    (f : FwCmd → Dev → FwResult) : s.dev.mbxCommit b op f = (f c s.dev).handed b c := by
  obtain ⟨hw, hr⟩ := h
  unfold Dev.mbxCommit
  simp [hw, hr, hop, FwResult.handed]

theorem Dev.firstCmd_none {s : State} {b op : Nat} (h : s.noCommit b op) : s.dev.firstCmd b op = none := by
  unfold Dev.firstCmd
  rcases h with h | h <;> simp [h]

theorem Dev.firstCmd_eq {s : State} {b op : Nat} {c : FwCmd} (h : s.atCommit b op c) : s.dev.firstCmd b op = some c := by
  simp [Dev.firstCmd, h.1, h.2]

section
variable (r : FwResult) (b : Nat) (c : FwCmd)

@[simp] theorem FwResult.handed_lcs : (r.handed b c).lcs = r.dev.lcs := rfl
@[simp] theorem FwResult.handed_cads : (r.handed b c).cads = r.dev.cads := rfl
@[simp] theorem FwResult.handed_g (a : Nat) (f : Fld) : (r.handed b c).g a f = r.dev.g a f := rfl
@[simp] theorem FwResult.handed_gb (a : Nat) (f : Fld) : (r.handed b c).gb a f = r.dev.gb a f := rfl
@[simp] theorem FwResult.handed_evt (pg k : Nat) : (r.handed b c).evt pg k = r.dev.evt pg k := rfl
@[simp] theorem FwResult.handed_lstateWord (h : Half) : (r.handed b c).lstateWord h = r.dev.lstateWord h := rfl

/-- A command's effect that leaves the mailboxes ends it with the result's code and response. -/
theorem FwResult.handed_finished {s t : State} (ht : t.dev = r.handed b c) (hm : r.dev.mbx = s.dev.mbx) :
    s.finished t b c r.code r.rsp := by
  unfold State.finished
  rw [ht, FwResult.handed, Dev.mb_setMb]
  simp only [Mbx.finish, Mbx.outcome_fw, Dev.mb, hm]

end

theorem State.finished_handed {s : State} {r : FwResult} (b : Nat) (c : FwCmd) (hm : r.dev.mbx = s.dev.mbx) :
    s.finished (s.withDev (r.handed b c)) b c r.code r.rsp :=
  r.handed_finished b c rfl hm

/-- A command whose result is the device as it was is answered and nothing else. -/
theorem State.answersOnly_handed {s : State} {r : FwResult} (b : Nat) (c : FwCmd) (h : r.dev = s.dev) :
    s.answersOnly (s.withDev (r.handed b c)) b c r.code r.rsp := by
  refine ⟨State.finished_handed b c (congrArg Dev.mbx h), ?_⟩
  show { s with dev := { r.dev with mbx := s.dev.mbx } } = s
  rw [h]

/-- A firmware command refused at its commit. -/
theorem State.answersOnly_refused {s : State} {b op : Nat} {c : FwCmd} (h : s.atCommit b op c) (hop : op ≠ opQueryTag)
    {f : FwCmd → Dev → FwResult} {code : Nat} (hf : f c s.dev = { dev := s.dev, code := code }) :
    s.answersOnly (s.onDev fun d => d.mbxCommit b op f) b c code [] := by
  have hs : s.onDev (fun d => d.mbxCommit b op f) = s.withDev ((f c s.dev).handed b c) :=
    congrArg s.withDev (Dev.mbxCommit_eq h hop f)
  rw [hs, hf]
  exact State.answersOnly_handed b c rfl

/-- A command that acts on the powered state ends in what its action makes of it. -/
theorem next_onDev {s : State} {f : Dev → Dev} {d : Dev} (h : f s.dev = d) :
    (Host.Outcome.next (s.onDev f) : Out) = .next (s.withDev d) :=
  congrArg (fun e => Host.Outcome.next (s.withDev e)) h

theorem State.onDev_mbxCommit_none {s : State} {b op : Nat} (h : s.noCommit b op) (f : FwCmd → Dev → FwResult) :
    s.onDev (fun d => d.mbxCommit b op f) = s :=
  congrArg s.withDev (Dev.mbxCommit_none h f)

/-- A commit that begins no zeroisation is its effect on the powered state. -/
theorem State.settled_eq_withDev (s : State) {d : Dev} (h : d.cads = s.dev.cads) : s.settled d = s.withDev d := by
  show ({ s.withDev d with nv := (s.settled d).nv } : State) = s.withDev d
  rw [s.settled_nv d h]
  rfl

end Sys2Proof.Machine
end

section
/-! SUPPORT. The test access port (R471 to R475): what decodes, and what an instruction that takes the pins does (R472). -/

namespace Sys2Proof.Machine

@[simp] theorem Dev.putRecord_tbs (d : Dev) (a src count seq : Nat) : (d.putRecord a src count seq).tbs = d.tbs := by
  simp only [Dev.putRecord, Dev.setw_tbs]

@[simp] theorem Dev.inc_tbs (d : Dev) (b : Nat) (f : Fld) (k : Nat) : (d.inc b f k).tbs = d.tbs := d.p_tbs _ _ _

@[simp] theorem Dev.incSat_tbs (d : Dev) (b : Nat) (f : Fld) : (d.incSat b f).tbs = d.tbs := d.p_tbs _ _ _

@[simp] theorem Dev.raiseIf_tbs (d : Dev) (c : Bool) (pg k : Nat) : (d.raiseIf c pg k).tbs = d.tbs := rfl

theorem Dev.putBatch_tbs (d : Dev) (h : Half) (l : List Nat) : (d.putBatch h l).tbs = d.tbs :=
  Dev.each_frame (g := Dev.tbs) (fun i e => e.setw_tbs (fltPg h + 0x200 + 0x10 * ((_ + i) % 32)) (l[i]?.getD 0)) d

theorem Dev.offer_tbs (d : Dev) (h : Half) (src : Nat) : (d.offer h src).tbs = d.tbs := by
  unfold Dev.offer
  extract_lets pg st seq c full held ranked batch empty d1 d2 d4 d3
  have h1 : d1.tbs = d.tbs := rfl
  have h2 : d2.tbs = d.tbs :=
    keeps_ite (by rw [Dev.pb_tbs, Dev.putRecord_tbs, h1]) (keeps_ite (by rw [Dev.setw_tbs, h1]) h1)
  have h4 : d4.tbs = d.tbs := keeps_ite (by rw [Dev.p_tbs, h2]) h2
  have h3 : d3.tbs = d.tbs :=
    keeps_ite (by rw [Dev.raise_tbs, Dev.incSat_tbs, h4]) (by rw [Dev.inc_tbs, Dev.putRecord_tbs, h2])
  rw [Dev.putBatch_tbs, h3]

theorem Dev.collect_tbs (d : Dev) (h : Half) (src cls : Nat) : (d.collect h src cls).tbs = d.tbs := by
  unfold Dev.collect
  exact keeps_ite (d.setw_tbs _ _) (by rw [Dev.raiseIf_tbs, Dev.offer_tbs, Dev.setw_tbs])

/-- A C3 fault is collected, sets FATAL in both halves and pulls both safe lines. -/
theorem Dev.fault_of_c3 (d : Dev) {r : FaultRec} (hr : r.cls = 3) :
    let e := ((d.collect (d.collector r.page) r.src r.cls).pb (fltPg .warp) Reg.FLT.FSTAT_FATAL true).pb (fltPg .weft)
      Reg.FLT.FSTAT_FATAL true
    d.fault r =
      { e with half := ⟨{ e.hs .warp with safePend := some true }, { e.hs .weft with safePend := some true }⟩ } := by
  unfold Dev.fault
  dsimp only
  rw [if_neg (by omega), if_pos hr]

theorem Dev.fault_c3 (d : Dev) {r : FaultRec} (hr : r.cls = 3) : (d.fault r).tbs = d.tbs ∧
    ∀ e : Half, (d.fault r).gb (fltPg e) Reg.FLT.FSTAT_FATAL = true ∧ ((d.fault r).hs e).safePend = some true := by
  rw [d.fault_of_c3 hr]
  refine ⟨?_, fun e => ⟨?_, by cases e <;> rfl⟩⟩
  · dsimp only
    rw [Dev.pb_tbs, Dev.pb_tbs, Dev.collect_tbs]
  · cases e with
    | warp =>
      exact (Dev.gb_pb_other _ .flt .weft _ _ _ (by decide) (by decide)).trans (Dev.gb_pb_same _ _ _ _ (by decide) (by decide))
    | weft => exact Dev.gb_pb_same _ _ _ _ (by decide) (by decide)

/-- The TAP with an instruction loaded and what its data register captured. -/
def Dev.tapHolds (d : Dev) (ir dr : Nat) : Dev := { d with tap := { d.tap with ir := ir, dr := dr } }

theorem tapDecode_idcode (nv : NV) (x : Bool) : tapDecode nv x 1 = 1 := rfl

theorem tapDecode_scrap {nv : NV} (h : nv.scrap = true) (x : Bool) {op : Nat} (hop : op ≠ 1) :
    tapDecode nv x op = tapBypass := by
  simp [tapDecode, h, hop]

/-- Outside SCRAP the public instructions decode. -/
theorem tapDecode_public {nv : NV} (h : nv.scrap = false) (x : Bool) {op : Nat} (hop : op ∈ [0, 2, 4, 5, 8, 9]) :
    tapDecode nv x op = op := by
  have h1 : op ≠ 1 := by rintro rfl; simp at hop
  simp [tapDecode, h, h1, hop]

section
variable {nv : NV} {d : Dev} {op : Nat}

theorem pinsTaken_off (ht : d.tapOn = false) : pinsTaken nv op d = d := by simp [pinsTaken, ht]

theorem tapLoaded_off (dr : Nat) (ht : d.tapOn = false) : tapLoaded nv op dr d = d := by simp [tapLoaded, ht]

theorem pinsTaken_bypassed (ht : d.tapOn = true) (hd : tapDecode nv d.lcs.session op ≠ op) :
    pinsTaken nv op d = d.tapHolds tapBypass 0 := by
  simp [pinsTaken, ht, hd, Dev.tapHolds]

theorem tapLoaded_bypassed (dr : Nat) (ht : d.tapOn = true) (hd : tapDecode nv d.lcs.session op ≠ op) :
    tapLoaded nv op dr d = d.tapHolds tapBypass 0 := by
  simp [tapLoaded, ht, hd, Dev.tapHolds]

theorem tapLoaded_decoded (dr : Nat) (ht : d.tapOn = true) (hd : tapDecode nv d.lcs.session op = op) (hb : op ≠ tapBypass) :
    tapLoaded nv op dr d = d.tapHolds op dr := by
  simp [tapLoaded, ht, hd, hb, Dev.tapHolds]

theorem tapLoaded_bypass (dr : Nat) (ht : d.tapOn = true) : tapLoaded nv tapBypass dr d = d.tapHolds tapBypass 0 := by
  simp [tapLoaded, ht, Dev.tapHolds]

theorem pinsTaken_decoded (ht : d.tapOn = true) (hd : tapDecode nv d.lcs.session op = op) :
    ∃ r : FaultRec, r.cls = 3 ∧ pinsTaken nv op d =
      { d.fault r with tap := { d.tap with ir := op, dr := d.tap.cells } } :=
  ⟨{ page := sysPg, unit := 0xFF, code := 0xF, cls := 3 }, rfl, by simp [pinsTaken, ht, hd]⟩

theorem tapSampled_off (pins cells : Nat) (ht : d.tapOn = false) : tapSampled nv pins cells d = d := by
  simp [tapSampled, tapLoaded_off pins ht, ht]

theorem tapSampled_bypassed (pins cells : Nat) (ht : d.tapOn = true) (hd : tapDecode nv d.lcs.session 2 ≠ 2) :
    tapSampled nv pins cells d = d.tapHolds tapBypass 0 := by
  simp [tapSampled, tapLoaded_bypassed pins ht hd, Dev.tapHolds, tapBypass]

theorem tapSampled_decoded (pins cells : Nat) (ht : d.tapOn = true) (hd : tapDecode nv d.lcs.session 2 = 2) :
    tapSampled nv pins cells d = { d with tap := { d.tap with ir := 2, dr := pins, cells := cells } } := by
  have hon : (d.tapHolds 2 pins).tapOn = true := ht
  simp only [tapSampled, tapLoaded_decoded pins ht hd (by decide), hon]
  rfl

end

/-- A test instruction (0x40 on) is permitted: by the lifecycle state, or for the upper half of them by OWNED or a session. -/
def testOpOpen (nv : NV) (session : Bool) (k : Nat) : Prop :=
  nv.lifecycle = 0 ∨ nv.lifecycle = 1 ∨ nv.lifecycle = 4 ∨
    (32 ≤ k ∧ (nv.lifecycle = 2 ∨ (nv.lifecycle = 3 ∧ session = true)))

/-- A test instruction as its opcode decodes: itself where it is permitted. -/
theorem tapDecode_testOp (nv : NV) (x : Bool) (k : Fin 64) :
    tapDecode nv x (0x40 + k.val) = 0x40 + k.val ↔ testOpOpen nv x k.val := by
  have hb : tapBypass ≠ 0x40 + k.val := by unfold tapBypass; omega
  by_cases hs : nv.scrap = true
  · have hl : nv.lifecycle = 5 := by simpa [NV.scrap] using hs
    simp [tapDecode_scrap hs x (show 0x40 + k.val ≠ 1 by omega), hb, testOpOpen, hl]
  · have hp : [0, 2, 4, 5, 8, 9].contains (0x40 + k.val) = false := by simp; omega
    have hr : 0x40 + k.val ≤ 0x7F := by omega
    have hu : 0x60 ≤ 0x40 + k.val ↔ 32 ≤ k.val := by omega
    unfold tapDecode testOpOpen
    rw [if_neg (by omega), if_neg hs, hp, if_neg Bool.false_ne_true, if_pos ⟨by omega, hr⟩]
    split_ifs with ha hc
    · simp only [Bool.or_eq_true, decide_eq_true_eq, or_assoc] at ha
      exact iff_of_true rfl (by rcases ha with h | h | h <;> simp [h])
    · simp only [Bool.and_eq_true, Bool.or_eq_true, decide_eq_true_eq, hu] at hc
      exact iff_of_true rfl (.inr (.inr (.inr hc)))
    · simp only [Bool.and_eq_true, Bool.or_eq_true, decide_eq_true_eq, hu, or_assoc] at ha hc
      refine iff_of_false hb ?_
      rintro (h | h | h | h)
      · exact ha (.inl h)
      · exact ha (.inr (.inl h))
      · exact ha (.inr (.inr h))
      · exact hc h

end Sys2Proof.Machine
end

section
/-! SUPPORT. What the LCS pages of both halves show (R473, R475, R478): the state and the owner, a session, a challenge, and a
failed attempt. -/

namespace Sys2Proof.Machine

theorem evtImplemented_lcs (h : Half) {k : Nat} (hk : k < 3) : evtImplemented (lcsPg h) k = true := by
  have hp : evtImplemented (lcsPg h) k = bitAt 7 k := by cases h <;> rfl
  rw [hp]
  interval_cases k <;> rfl

/-- An event of a half's LCS page occurs there, and not in the other half's. -/
theorem Dev.evt_raise_lcs (d : Dev) (h : Half) {k : Nat} (hk : k < 3) :
    (d.raise (lcsPg h) k).evt (lcsPg h) k = (d.evt (lcsPg h) k).occur :=
  d.evt_raise_own (evtImplemented_lcs h hk)

theorem Dev.evt_raise_lcs_other (d : Dev) (h : Half) {k j : Nat} (hk : k < 3) (hj : j < 3) :
    (d.raise (lcsPg h) k).evt (lcsPg h.other) j = d.evt (lcsPg h.other) j :=
  d.evt_raise_ne (pageAddr_other_ne .lcs h (by omega) (by omega))

/-- A bit of a half's LCS page keeps its value when it is written in the other half's. -/
theorem Dev.gb_pb_lcs_other (d : Dev) (h : Half) (f : Fld) (v : Bool) (hf : f.off < 0x8000) :
    (d.pb (lcsPg h) f v).gb (lcsPg h.other) f = d.gb (lcsPg h.other) f :=
  d.gb_pb_other .lcs h f f v hf hf

@[simp] theorem Dev.g_raise (d : Dev) (pg k b : Nat) (f : Fld) : (d.raise pg k).g b f = d.g b f := rfl
@[simp] theorem Dev.gb_raise (d : Dev) (pg k b : Nat) (f : Fld) : (d.raise pg k).gb b f = d.gb b f := rfl
@[simp] theorem Dev.g_withLcs (d : Dev) (v : LcsSt) (b : Nat) (f : Fld) : ({ d with lcs := v } : Dev).g b f = d.g b f := rfl
@[simp] theorem Dev.evt_withLcs (d : Dev) (v : LcsSt) (pg k : Nat) : ({ d with lcs := v } : Dev).evt pg k = d.evt pg k := rfl

/-- A field beside a one-bit field that is written keeps its value. -/
theorem Dev.g_pb_beside (d : Dev) (b : Nat) (f : Fld) (v : Bool) (f' : Fld) (ho : f'.off = f.off) (hf : f.lo + f.len ≤ 32)
    (h : f.lo + f.len ≤ f'.lo ∨ f'.lo + f'.len ≤ f.lo) : (d.pb b f v).g b f' = d.g b f' :=
  d.g_p_beside b f (bitOf v) b f' (congrArg (b + ·) ho) hf h

theorem Dev.g_pb_lcs_other (d : Dev) (h : Half) (f f' : Fld) (v : Bool) (hf : f.off < 0x8000) (hf' : f'.off < 0x8000) :
    (d.pb (lcsPg h) f v).g (lcsPg h.other) f' = d.g (lcsPg h.other) f' :=
  d.g_p_other .lcs h f f' (bitOf v) hf hf'

theorem Dev.g_p_lcs_other (d : Dev) (h : Half) (f : Fld) (v : Nat) (hf : f.off < 0x8000) :
    (d.p (lcsPg h) f v).g (lcsPg h.other) f = d.g (lcsPg h.other) f :=
  d.g_p_other .lcs h f f v hf hf

/-! ### The state and the owner -/

/-- A half's LCS page as it shows the fuses. -/
def shownIn (nv : NV) (h : Half) (e : Dev) : Dev :=
  let e1 := (e.p (lcsPg h) Reg.LCS.LSTATE_STATE nv.lifecycle).pb (lcsPg h) Reg.LCS.LSTATE_OWNER_SET nv.owner.isSome
  match nv.owner with
  | none => e1
  | some o => e1.each 8 fun i x => x.setw (lcsPg h + 0x110 + 4 * i) (beAt o.2 (4 * i) 4)

theorem Dev.lcsShow_eq (d : Dev) (nv : NV) :
    d.lcsShow nv = [Half.warp, Half.weft].foldl (fun (e : Dev) h => shownIn nv h e) d := rfl

/-- Whatever the owner's words do not touch is as the state and OWNER_SET leave it. -/
theorem shownIn_reads {α : Type} {g : Dev → α} {nv : NV} {h : Half}
    (hg : ∀ x i v, i < 8 → g (x.setw (lcsPg h + 0x110 + 4 * i) v) = g x) (e : Dev) : g (shownIn nv h e) =
      g ((e.p (lcsPg h) Reg.LCS.LSTATE_STATE nv.lifecycle).pb (lcsPg h) Reg.LCS.LSTATE_OWNER_SET nv.owner.isSome) := by
  unfold shownIn
  cases nv.owner with
  | none => rfl
  | some o => exact Dev.each_keeps g 8 _ _ fun i hi x => hg x i _ hi

theorem Dev.lcsShow_keeps {α : Type} {g : Dev → α} (hg : ∀ x a v, g (x.setw a v) = g x) (d : Dev) (nv : NV) :
    g (d.lcsShow nv) = g d :=
  both_keeps (shownIn nv) (fun _ e => (shownIn_reads (fun x _ v _ => hg x _ v) e).trans ((hg _ _ _).trans (hg _ _ _))) d

/-- LSTATE is not among the owner's words. -/
theorem Dev.g_lstate_setw_owner (x : Dev) (h e : Half) (f : Fld) (hf : f.off = 0x100) {i : Nat} (hi : i < 8) (v : Nat) :
    (x.setw (lcsPg h + 0x110 + 4 * i) v).g (lcsPg e) f = x.g (lcsPg e) f := by
  refine x.g_setw_ne v ?_
  cases e <;> cases h <;> simp only [lcsPg, pageAddr, Half.num, Page.code, hf] <;> omega

theorem Dev.lcsShow_state (d : Dev) (nv : NV) (e : Half) :
    (d.lcsShow nv).g (lcsPg e) Reg.LCS.LSTATE_STATE = nv.lifecycle % 2 ^ Reg.LCS.LSTATE_STATE.len := by
  rw [Dev.lcsShow_eq]
  refine both_own (shownIn nv) (g := fun h d => d.g (lcsPg h) Reg.LCS.LSTATE_STATE)
    (F := fun _ => nv.lifecycle % 2 ^ Reg.LCS.LSTATE_STATE.len) (fun h d => ?_) (fun h d => ?_) d e
  · rw [shownIn_reads (g := fun x => x.g (lcsPg h) Reg.LCS.LSTATE_STATE) fun x i v hi => x.g_lstate_setw_owner h h _ rfl hi v,
      Dev.g_pb_beside _ _ Reg.LCS.LSTATE_OWNER_SET _ Reg.LCS.LSTATE_STATE rfl (by decide) (by decide),
      Dev.g_p_same _ _ _ _ (by decide)]
  · rw [shownIn_reads (g := fun x => x.g (lcsPg h.other) Reg.LCS.LSTATE_STATE) fun x i v hi =>
      x.g_lstate_setw_owner h h.other _ rfl hi v, Dev.g_pb_lcs_other _ _ _ _ _ (by decide) (by decide),
      Dev.g_p_lcs_other _ _ _ _ (by decide)]

theorem Dev.lcsShow_ownerSet (d : Dev) (nv : NV) (e : Half) :
    (d.lcsShow nv).gb (lcsPg e) Reg.LCS.LSTATE_OWNER_SET = nv.owner.isSome := by
  rw [Dev.lcsShow_eq]
  refine both_own (shownIn nv) (g := fun h d => d.gb (lcsPg h) Reg.LCS.LSTATE_OWNER_SET) (F := fun _ => nv.owner.isSome)
    (fun h d => ?_) (fun h d => ?_) d e
  · rw [shownIn_reads (g := fun x => x.gb (lcsPg h) Reg.LCS.LSTATE_OWNER_SET) fun x i v hi =>
      congrArg (· == 1) (x.g_lstate_setw_owner h h _ rfl hi v)]
    exact Dev.gb_pb_same _ _ _ _ (by decide) (by decide)
  · rw [shownIn_reads (g := fun x => x.gb (lcsPg h.other) Reg.LCS.LSTATE_OWNER_SET) fun x i v hi =>
      congrArg (· == 1) (x.g_lstate_setw_owner h h.other _ rfl hi v)]
    rw [Dev.gb_pb_lcs_other _ _ _ _ (by decide)]
    exact congrArg (· == 1) (Dev.g_p_other _ .lcs h _ _ _ (by decide) (by decide))

/-! ### A session, a challenge and a failed attempt -/

/-- A half's LCS page as a session opens or closes. -/
def sessionIn (v : Bool) (h : Half) (e : Dev) : Dev := (e.pb (lcsPg h) Reg.LCS.LSTATE_SESSION v).raise (lcsPg h) 0

/-- SESSION of both halves set to a value, with its event. -/
def Dev.sessionShown (d : Dev) (v : Bool) : Dev := [Half.warp, Half.weft].foldl (fun (e : Dev) h => sessionIn v h e) d

theorem sessionOpened_eq (d : Dev) :
    sessionOpened d = ({ d with lcs := { d.lcs with session := true } } : Dev).sessionShown true := rfl

theorem sessionClosed_eq {d : Dev} (h : d.lcs.session = true) :
    sessionClosed d = ({ d with lcs := { d.lcs with session := false } } : Dev).sessionShown false := by
  unfold sessionClosed
  rw [h]
  rfl

theorem Dev.sessionShown_session (d : Dev) (v : Bool) (e : Half) :
    (d.sessionShown v).gb (lcsPg e) Reg.LCS.LSTATE_SESSION = v :=
  both_own (sessionIn v) (g := fun h d => d.gb (lcsPg h) Reg.LCS.LSTATE_SESSION) (F := fun _ => v)
    (fun _ d => (Dev.gb_raise _ _ _ _ _).trans (d.gb_pb_same _ _ _ (by decide) (by decide)))
    (fun h d => (Dev.gb_raise _ _ _ _ _).trans (d.gb_pb_lcs_other h _ _ (by decide))) d e

theorem Dev.sessionShown_evt (d : Dev) (v : Bool) (e : Half) :
    (d.sessionShown v).evt (lcsPg e) 0 = (d.evt (lcsPg e) 0).occur :=
  both_own (sessionIn v) (g := fun h d => d.evt (lcsPg h) 0) (F := EvtWord.occur)
    (fun h d => (d.pb (lcsPg h) Reg.LCS.LSTATE_SESSION v).evt_raise_lcs h (by decide))
    (fun h d => (d.pb (lcsPg h) Reg.LCS.LSTATE_SESSION v).evt_raise_lcs_other h (by decide) (by decide)) d e

/-- CHAL_OUT of both halves set to a value. -/
def Dev.challengeShown (d : Dev) (v : Bool) : Dev :=
  [Half.warp, Half.weft].foldl (fun (e : Dev) h => e.pb (lcsPg h) Reg.LCS.LSTATE_CHAL_OUT v) d

theorem challengeVoid_eq (d : Dev) :
    challengeVoid d = ({ d with lcs := { d.lcs with chal := none } } : Dev).challengeShown false := rfl

theorem Dev.challengeShown_out (d : Dev) (v : Bool) (e : Half) :
    (d.challengeShown v).gb (lcsPg e) Reg.LCS.LSTATE_CHAL_OUT = v :=
  both_own (fun h e => e.pb (lcsPg h) Reg.LCS.LSTATE_CHAL_OUT v) (g := fun h d => d.gb (lcsPg h) Reg.LCS.LSTATE_CHAL_OUT)
    (F := fun _ => v) (fun _ d => d.gb_pb_same _ _ _ (by decide) (by decide))
    (fun h d => d.gb_pb_lcs_other h _ _ (by decide)) d e

theorem Dev.challengeShown_sameWords (d : Dev) (v : Bool) :
    d.sameWords (d.challengeShown v) [lcsPg .warp + 0x100, lcsPg .weft + 0x100] :=
  (Dev.sameWords_p _ _ _ _).trans (Dev.sameWords_p _ _ _ _)

theorem Dev.challengeShown_fails (d : Dev) (v : Bool) (e : Half) :
    (d.challengeShown v).g (lcsPg e) Reg.LCS.LSTATE_FAILS = d.g (lcsPg e) Reg.LCS.LSTATE_FAILS :=
  both_own (fun h e => e.pb (lcsPg h) Reg.LCS.LSTATE_CHAL_OUT v) (g := fun h d => d.g (lcsPg h) Reg.LCS.LSTATE_FAILS) (F := id)
    (fun h d => d.g_pb_beside (lcsPg h) Reg.LCS.LSTATE_CHAL_OUT v Reg.LCS.LSTATE_FAILS rfl (by decide) (by decide))
    (fun h d => d.g_pb_lcs_other h _ _ _ (by decide) (by decide)) d e

/-- A half's LCS page after a failed attempt. -/
def failedIn (h : Half) (e : Dev) : Dev :=
  let n := min 15 (e.g (lcsPg h) Reg.LCS.LSTATE_FAILS + 1)
  ((e.p (lcsPg h) Reg.LCS.LSTATE_FAILS n).pb (lcsPg h) Reg.LCS.LSTATE_LOCKOUT
    (e.gb (lcsPg h) Reg.LCS.LSTATE_LOCKOUT || decide (8 ≤ n))).raise (lcsPg h) 1

theorem Dev.authFail_eq (d : Dev) : d.authFail = [Half.warp, Half.weft].foldl (fun (e : Dev) h => failedIn h e) d := rfl

theorem Dev.authFail_fails (d : Dev) (e : Half) :
    d.authFail.g (lcsPg e) Reg.LCS.LSTATE_FAILS = min 15 (d.g (lcsPg e) Reg.LCS.LSTATE_FAILS + 1) := by
  rw [Dev.authFail_eq]
  refine both_own failedIn (g := fun h d => d.g (lcsPg h) Reg.LCS.LSTATE_FAILS) (F := fun n => min 15 (n + 1))
    (fun h d => ?_) (fun h d => ?_) d e
  · have hn : min 15 (d.g (lcsPg h) Reg.LCS.LSTATE_FAILS + 1) < 2 ^ Reg.LCS.LSTATE_FAILS.len :=
      lt_of_le_of_lt (min_le_left _ _) (by decide)
    unfold failedIn
    rw [Dev.g_raise, Dev.g_pb_beside _ _ Reg.LCS.LSTATE_LOCKOUT _ Reg.LCS.LSTATE_FAILS rfl (by decide) (by decide),
      Dev.g_p_same _ _ _ _ (by decide), Nat.mod_eq_of_lt hn]
  · unfold failedIn
    rw [Dev.g_raise, Dev.g_pb_lcs_other _ _ _ _ _ (by decide) (by decide), Dev.g_p_lcs_other _ _ _ _ (by decide)]

theorem Dev.authFail_evt (d : Dev) (e : Half) : d.authFail.evt (lcsPg e) 1 = (d.evt (lcsPg e) 1).occur :=
  both_own failedIn (g := fun h d => d.evt (lcsPg h) 1) (F := EvtWord.occur)
    (fun h _ => Dev.evt_raise_lcs _ h (by decide)) (fun h _ => Dev.evt_raise_lcs_other _ h (by decide) (by decide)) d e

/-! ### What these leave alone -/

section
variable {α : Type} {g : Dev → α} (hw : ∀ x a v, g (x.setw a v) = g x)
include hw

theorem Dev.challengeShown_keeps (d : Dev) (v : Bool) : g (d.challengeShown v) = g d :=
  both_keeps (fun h e => e.pb (lcsPg h) Reg.LCS.LSTATE_CHAL_OUT v) (fun _ _ => hw _ _ _) d

variable (he : ∀ x pg k, g (x.raise pg k) = g x)
include he

theorem Dev.sessionShown_keeps (d : Dev) (v : Bool) : g (d.sessionShown v) = g d :=
  both_keeps (sessionIn v) (fun _ _ => (he _ _ _).trans (hw _ _ _)) d

theorem Dev.authFail_keeps (d : Dev) : g d.authFail = g d :=
  both_keeps failedIn (fun _ _ => (he _ _ _).trans ((hw _ _ _).trans (hw _ _ _))) d

end

@[simp] theorem Dev.sessionShown_lcs (d : Dev) (v : Bool) : (d.sessionShown v).lcs = d.lcs :=
  Dev.sessionShown_keeps Dev.setw_lcs Dev.raise_lcs d v

@[simp] theorem Dev.sessionShown_mbx (d : Dev) (v : Bool) : (d.sessionShown v).mbx = d.mbx :=
  Dev.sessionShown_keeps Dev.setw_mbx Dev.raise_mbx d v

@[simp] theorem sessionOpened_lcs (d : Dev) : (sessionOpened d).lcs = { d.lcs with session := true } := by
  rw [sessionOpened_eq, Dev.sessionShown_lcs]

@[simp] theorem sessionOpened_mbx (d : Dev) : (sessionOpened d).mbx = d.mbx := by
  rw [sessionOpened_eq, Dev.sessionShown_mbx]

@[simp] theorem sessionOpened_cads (d : Dev) : (sessionOpened d).cads = d.cads := by
  rw [sessionOpened_eq, Dev.sessionShown_keeps Dev.setw_cads Dev.raise_cads]

@[simp] theorem Dev.challengeShown_lcs (d : Dev) (v : Bool) : (d.challengeShown v).lcs = d.lcs :=
  Dev.challengeShown_keeps Dev.setw_lcs d v

@[simp] theorem Dev.challengeShown_mbx (d : Dev) (v : Bool) : (d.challengeShown v).mbx = d.mbx :=
  Dev.challengeShown_keeps Dev.setw_mbx d v

@[simp] theorem Dev.challengeShown_evt (d : Dev) (v : Bool) (pg k : Nat) : (d.challengeShown v).evt pg k = d.evt pg k :=
  Dev.challengeShown_keeps (g := fun x => x.evt pg k) (fun x a v => x.evt_setw a v pg k) d v

@[simp] theorem challengeVoid_lcs (d : Dev) : (challengeVoid d).lcs = { d.lcs with chal := none } := by
  rw [challengeVoid_eq, Dev.challengeShown_lcs]

@[simp] theorem challengeVoid_mbx (d : Dev) : (challengeVoid d).mbx = d.mbx := by
  rw [challengeVoid_eq, Dev.challengeShown_mbx]

@[simp] theorem challengeVoid_cads (d : Dev) : (challengeVoid d).cads = d.cads := by
  rw [challengeVoid_eq, Dev.challengeShown_keeps Dev.setw_cads]

@[simp] theorem challengeVoid_evt (d : Dev) (pg k : Nat) : (challengeVoid d).evt pg k = d.evt pg k := by
  rw [challengeVoid_eq, Dev.challengeShown_evt, Dev.evt_withLcs]

@[simp] theorem challengeVoid_fails (d : Dev) (e : Half) :
    (challengeVoid d).g (lcsPg e) Reg.LCS.LSTATE_FAILS = d.g (lcsPg e) Reg.LCS.LSTATE_FAILS := by
  rw [challengeVoid_eq, Dev.challengeShown_fails, Dev.g_withLcs]

@[simp] theorem Dev.authFail_lcs (d : Dev) : d.authFail.lcs = d.lcs := Dev.authFail_keeps Dev.setw_lcs Dev.raise_lcs d

@[simp] theorem Dev.authFail_mbx (d : Dev) : d.authFail.mbx = d.mbx := Dev.authFail_keeps Dev.setw_mbx Dev.raise_mbx d

@[simp] theorem Dev.authFail_cads (d : Dev) : d.authFail.cads = d.cads := Dev.authFail_keeps Dev.setw_cads Dev.raise_cads d

end Sys2Proof.Machine
end

section
/-! SUPPORT. A range asked to be zeroised (R387, R388): what it makes of each half's Caddy, and what it leaves. -/

namespace Sys2Proof.Machine

/-- An observation of the device that a zeroisation leaves as it was, the Caddies aside: words, engines, the responder's
requests, counters and the event of an aborted request never show in it. -/
structure ZeroBlind {α : Type} (g : Dev → α) : Prop where
  word      : ∀ d a v, g (d.setw a v) = g d
  engines   : ∀ (d : Dev) t, g { d with engs := t } = g d
  responder : ∀ d h v, g (d.setRsp h v) = g d
  counters  : ∀ (d : Dev) t, g { d with pcnt := t } = g d
  aborted   : ∀ d h, g (d.raise (trsPg h) 3) = g d

section
variable {α : Type} {g : Dev → α}

theorem Dev.abortKeys_keeps (hg : ZeroBlind g) (d : Dev) (h : Half) (c : Nat → Bool) : g (d.abortKeys h c) = g d := by
  unfold Dev.abortKeys
  refine (foldl_keeps (fun e r => ?_) _ _).trans (hg.responder _ _ _)
  refine keeps_ite rfl ?_
  rw [Dev.wasted, Dev.perf, hg.counters, hg.aborted, Dev.trsCount, hg.word]

theorem Dev.engForget_keeps (hg : ZeroBlind g) (d : Dev) (h : Half) (k : Nat) : g (d.engForget h k) = g d :=
  Dev.each_frame (fun _ _ => (hg.word _ _ _).trans (hg.engines _ _)) d

/-- An observation that the Caddies do not show in either. -/
structure KeyBlind {α : Type} (g : Dev → α) : Prop extends ZeroBlind g where
  caddy : ∀ d h v, g (d.setCad h v) = g d

theorem Dev.setSlots_keeps (hg : KeyBlind g) (d : Dev) (h : Half) (t : Tab Slot) : g (d.setSlots h t) = g d := by
  unfold Dev.setSlots Dev.pb Dev.p
  rw [hg.word, hg.word, hg.word, hg.caddy]

theorem Dev.wipeSlot_keeps (hg : KeyBlind g) (d : Dev) (h : Half) (k : Nat) (x : Bool) : g (d.wipeSlot h k x) = g d := by
  unfold Dev.wipeSlot Dev.setSlot
  rw [Dev.engForget_keeps hg.toZeroBlind, Dev.setSlots_keeps hg]
  exact keeps_ite (hg.caddy _ _ _) rfl

theorem Dev.zeroBegin_keeps (hg : KeyBlind g) (d : Dev) (h : Half) (z : Nat × Nat × Bool) : g (d.zeroBegin h z) = g d := by
  unfold Dev.zeroBegin Dev.pb Dev.p
  rw [hg.word, hg.caddy]
  exact foldl_keeps (fun e k => (Dev.wipeSlot_keeps hg _ h k false).trans (Dev.abortKeys_keeps hg.toZeroBlind e h _)) _ d

end

/-- One half's part of a range asked to be zeroised. -/
def askedIn (first last : Nat) (persist : Bool) (h : Half) (e : Dev) : Dev :=
  if last < first then e.pb (cadPg h) Reg.CAD.ZSTAT_REFUSED true
  else
    let e1 := e.pb (cadPg h) Reg.CAD.ZSTAT_REFUSED false
    if (e1.cad h).zero.isSome then e1.setCad h { e1.cad h with queued := some (first, last, persist) }
    else e1.zeroBegin h (first, last, persist)

theorem zeroAsked_eq (first last : Nat) (persist : Bool) (d : Dev) :
    zeroAsked first last persist d = [Half.warp, Half.weft].foldl (fun (e : Dev) h => askedIn first last persist h e) d := rfl

theorem zeroAsked_keeps {α : Type} {g : Dev → α} (hg : KeyBlind g) (first last : Nat) (persist : Bool) (d : Dev) :
    g (zeroAsked first last persist d) = g d :=
  both_keeps (askedIn first last persist) (fun _ _ => keeps_ite (hg.word _ _ _)
    (keeps_ite ((hg.caddy _ _ _).trans (hg.word _ _ _)) ((Dev.zeroBegin_keeps hg _ _ _).trans (hg.word _ _ _)))) d

/-! ### The Caddies -/

theorem zeroBlind_cads : ZeroBlind Dev.cads :=
  ⟨Dev.setw_cads, fun _ _ => rfl, fun _ _ _ => rfl, fun _ _ => rfl, fun d _ => d.raise_cads _ _⟩

theorem Dev.cad_congr {d e : Dev} (hc : d.cads = e.cads) (h : Half) : d.cad h = e.cad h := by
  unfold Dev.cad
  rw [hc]

@[simp] theorem Dev.cad_setCad (d : Dev) (h : Half) (v : CadSt) : (d.setCad h v).cad h = v := by cases h <;> rfl

@[simp] theorem Dev.cad_setCad_other (d : Dev) (h : Half) (v : CadSt) : (d.setCad h v).cad h.other = d.cad h.other := by
  cases h <;> rfl

theorem Dev.setSlots_cads (d : Dev) (h : Half) (t : Tab Slot) :
    (d.setSlots h t).cads = (d.setCad h { d.cad h with slots := t }).cads := by
  unfold Dev.setSlots
  simp only [Dev.pb_cads, Dev.p_cads]

/-- A half's Caddy once a slot is wiped: the slot holds no key, and the range being zeroised and the one queued are as they
were. -/
theorem Dev.wipeSlot_cad (d : Dev) (h : Half) (k : Nat) (x : Bool) :
    ∃ (t : Tab Nat) (s : Slot), s.valid = false ∧
      (d.wipeSlot h k x).cad h = { d.cad h with shown := t, slots := tset {} (d.cad h).slots k s } := by
  unfold Dev.wipeSlot Dev.setSlot
  extract_lets c f d1
  refine ⟨(d1.cad h).shown, { defect := (d.slot h k).defect || x }, rfl, ?_⟩
  have hd : d1.cad h = { d.cad h with shown := (d1.cad h).shown } := by
    unfold d1
    split <;> simp [c]
  rw [Dev.cad_congr (Dev.engForget_keeps zeroBlind_cads _ h k), Dev.cad_congr (Dev.setSlots_cads _ _ _), Dev.cad_setCad, hd]

theorem Dev.wipeSlot_cad_other (d : Dev) (h : Half) (k : Nat) (x : Bool) :
    (d.wipeSlot h k x).cad h.other = d.cad h.other := by
  unfold Dev.wipeSlot Dev.setSlot
  rw [Dev.cad_congr (Dev.engForget_keeps zeroBlind_cads _ h k), Dev.cad_congr (Dev.setSlots_cads _ _ _),
    Dev.cad_setCad_other]
  exact keeps_ite (g := fun e => e.cad h.other) (Dev.cad_setCad_other _ _ _) rfl

/-- The slots of a list wiped, as `Dev.zeroBegin` does it. -/
def Dev.wiped (d : Dev) (h : Half) (l : List Nat) : Dev :=
  l.foldl (fun e k => (e.abortKeys h (· == k)).wipeSlot h k false) d

theorem Dev.wiped_cad_other (d : Dev) (h : Half) (l : List Nat) : (d.wiped h l).cad h.other = d.cad h.other :=
  foldl_keeps (g := fun e => e.cad h.other)
    (fun _ _ => (Dev.wipeSlot_cad_other _ _ _ _).trans (Dev.cad_congr (Dev.abortKeys_keeps zeroBlind_cads _ _ _) _)) l d

/-- Wiping more slots puts no key into a slot. -/
theorem Dev.wiped_stays_empty (d : Dev) (h : Half) (l : List Nat) {k : Nat} (hk : (d.slot h k).valid = false) :
    ((d.wiped h l).slot h k).valid = false := by
  induction l generalizing d with
  | nil => exact hk
  | cons j l ih =>
    refine ih _ ?_
    obtain ⟨t, s, hs, hc⟩ := (d.abortKeys h (· == j)).wipeSlot_cad h j false
    unfold Dev.slot tget tset at *
    rw [hc, Dev.cad_congr (Dev.abortKeys_keeps zeroBlind_cads d h _)]
    dsimp only
    rw [Tab.get_set]
    split
    · exact hs
    · exact hk

theorem Dev.wiped_empty (d : Dev) (h : Half) {l : List Nat} {k : Nat} (hk : k ∈ l) :
    ((d.wiped h l).slot h k).valid = false := by
  induction l generalizing d with
  | nil => cases hk
  | cons j l ih =>
    rcases List.mem_cons.1 hk with rfl | hk
    · refine Dev.wiped_stays_empty _ h l ?_
      obtain ⟨t, s, hs, hc⟩ := (d.abortKeys h (· == k)).wipeSlot_cad h k false
      unfold Dev.slot
      rw [hc]
      exact (congrArg Slot.valid (Tab.get_set_same (fun _ => ({} : Slot)) _ k s)).trans hs
    · exact ih _ hk

/-- What a range asked for makes of a Caddy (R388): it begins, and its slots hold no key; or it waits behind the range that is
being zeroised. -/
def CadSt.asked (z : Nat × Nat × Bool) (c c' : CadSt) : Prop :=
  (c.zero = none → c'.zero = some z ∧ ∀ k ∈ zeroRange z, (tget {} c'.slots k).valid = false) ∧
    ∀ y, c.zero = some y → c'.zero = some y ∧ c'.queued = some z

theorem zeroAsked_cad {first last : Nat} (hr : first ≤ last) (persist : Bool) (d : Dev) (e : Half) :
    (d.cad e).asked (first, last, persist) ((zeroAsked first last persist d).cad e) := by
  rw [zeroAsked_eq]
  refine both_rel (askedIn first last persist) (g := fun h d => d.cad h) (R := CadSt.asked (first, last, persist))
    (fun h d => ?_) (fun h d => ?_) d e
  · unfold askedIn
    rw [if_neg (by omega)]
    dsimp only
    rw [Dev.cad_congr (d.pb_cads _ _ _)]
    cases hz : (d.cad h).zero with
    | some y =>
      refine ⟨fun hn => by simp [hz] at hn, fun x hx => ?_⟩
      rw [if_pos Option.isSome_some, Dev.cad_setCad]
      exact ⟨hz ▸ hx, rfl⟩
    | none =>
      refine ⟨fun _ => ?_, fun x hx => by simp [hz] at hx⟩
      rw [if_neg (by decide)]
      unfold Dev.zeroBegin
      rw [Dev.cad_congr (Dev.pb_cads _ _ _ _), Dev.cad_setCad]
      exact ⟨rfl, fun k hk => Dev.wiped_empty _ h hk⟩
  · unfold askedIn
    rw [if_neg (by omega)]
    refine (keeps_ite (g := fun e => e.cad h.other) (Dev.cad_setCad_other _ _ _) ?_).trans (Dev.cad_congr (d.pb_cads _ _ _) _)
    unfold Dev.zeroBegin
    dsimp only
    rw [Dev.cad_congr (Dev.pb_cads _ _ _ _), Dev.cad_setCad_other]
    exact Dev.wiped_cad_other _ _ _

theorem NV.tombstoned_lifecycle (nv : NV) (ks : List Nat) : (nv.tombstoned ks).lifecycle = nv.lifecycle := by
  unfold NV.tombstoned NV.journal
  split <;> rfl

theorem NV.tombstoned_owner (nv : NV) (ks : List Nat) : (nv.tombstoned ks).owner = nv.owner := by
  unfold NV.tombstoned NV.journal
  split <;> rfl

theorem mem_zeroRange_all {k : Nat} (hk : k < 256) (persist : Bool) : k ∈ zeroRange (0, 255, persist) := by
  simpa [zeroRange] using hk

/-- A range asked for that is not persistent puts no intent into the journal. -/
theorem zeroBegun_transient {s : State} {d : Dev} {first last : Nat} (h : Half)
    (ha : (s.dev.cad h).asked (first, last, false) (d.cad h)) : zeroBegun s.dev d h = [] := by
  obtain ⟨hn, hy⟩ := ha
  unfold zeroBegun
  cases hz : (s.dev.cad h).zero with
  | none => simp [(hn hz).1]
  | some y => simp [(hy y hz).1]

theorem State.settled_nv_transient {s : State} {d : Dev} {first last : Nat}
    (ha : ∀ h, (s.dev.cad h).asked (first, last, false) (d.cad h)) : (s.settled d).nv = s.nv := by
  show s.nv.tombstoned _ = s.nv
  rw [zeroBegun_transient _ (ha .warp), zeroBegun_transient _ (ha .weft)]
  exact NV.tombstoned_nil s.nv

end Sys2Proof.Machine
end

section
/-! SUPPORT. A half put in safe state on command (R460, R474): what stops in it changes no half's own state and no Caddy. -/

namespace Sys2Proof.Machine

/-- The state of the halves and the Caddies: what the stopping of a half's blocks leaves. -/
def Dev.core (d : Dev) : Pair HalfSt × Pair CadSt := (d.half, d.cads)

section
variable (d : Dev)

@[simp] theorem Dev.core_setw (a v : Nat) : (d.setw a v).core = d.core := rfl
@[simp] theorem Dev.core_p (b : Nat) (f : Fld) (v : Nat) : (d.p b f v).core = d.core := rfl
@[simp] theorem Dev.core_pb (b : Nat) (f : Fld) (v : Bool) : (d.pb b f v).core = d.core := rfl
@[simp] theorem Dev.core_inc (b : Nat) (f : Fld) (k : Nat) : (d.inc b f k).core = d.core := rfl
@[simp] theorem Dev.core_raise (pg k : Nat) : (d.raise pg k).core = d.core := rfl
@[simp] theorem Dev.core_raiseIf (c : Bool) (pg k : Nat) : (d.raiseIf c pg k).core = d.core := rfl
@[simp] theorem Dev.core_setMb (b : Nat) (m : Mbx) : (d.setMb b m).core = d.core := rfl
@[simp] theorem Dev.core_setPort (p : Nat) (v : PortSt) : (d.setPort p v).core = d.core := rfl
@[simp] theorem Dev.core_macInc (p c k : Nat) : (d.macInc p c k).core = d.core := rfl
@[simp] theorem Dev.core_setGate (p : Nat) (v : GateSt) : (d.setGate p v).core = d.core := rfl
@[simp] theorem Dev.core_setPlane (h : Half) (v : Plane) : (d.setPlane h v).core = d.core := rfl
@[simp] theorem Dev.core_setLink (s : Nat) (v : LinkSt) : (d.setLink s v).core = d.core := rfl

@[simp] theorem Dev.core_withSched (x : Sched) : ({ d with sched := x } : Dev).core = d.core := rfl

/-! ### Mailboxes -/

@[simp] theorem Dev.core_mbxPut (b state code tag : Nat) (ws : List Word) : (d.mbxPut b state code tag ws).core = d.core := by
  refine (Dev.each_frame (g := Dev.core) (fun _ e => e.core_setw _ _) _).trans ?_
  rw [Dev.core_p, Dev.core_p, Dev.core_p, Dev.core_p]

@[simp] theorem Dev.core_mbxComplete (b code tag : Nat) (ws : List Word) : (d.mbxComplete b code tag ws).core = d.core :=
  (Dev.core_raise _ _ _).trans (d.core_mbxPut _ _ _ _ _)

@[simp] theorem Dev.core_snapDropped (b : Nat) : (d.snapDropped b).core = d.core := by
  unfold Dev.snapDropped
  split
  · rfl
  · exact keeps_ite rfl (keeps_ite (Dev.core_p _ _ _ _) rfl)

@[simp] theorem Dev.core_mbxCut (code b : Nat) : (d.mbxCut code b).core = d.core := by
  unfold Dev.mbxCut
  dsimp only
  refine keeps_ite ((Dev.core_setMb _ _ _).trans (d.core_snapDropped b)) ?_
  split <;> rw [Dev.core_mbxComplete, Dev.core_setMb, Dev.core_snapDropped]

@[simp] theorem Dev.core_mbxHalfCut (code : Nat) (h : Half) : (d.mbxHalfCut code h).core = d.core := by
  have hc : ((d.mbxCut code h.num).mbxCut code (h.num + 2)).core = d.core :=
    (Dev.core_mbxCut _ _ _).trans (d.core_mbxCut _ _)
  unfold Dev.mbxHalfCut
  dsimp only
  split
  · exact hc
  · exact keeps_ite hc hc

theorem Dev.core_mbxFinished (b : Nat) : (mbxFinished b d).core = d.core := by
  unfold mbxFinished
  dsimp only
  split
  · rfl
  · exact keeps_ite rfl (keeps_ite ((Dev.core_mbxComplete _ _ _ _ _).trans rfl) rfl)

/-! ### Outputs, planes and gates -/

@[simp] theorem Dev.core_outRefresh (h : Half) : (outRefresh h d).core = d.core := by
  refine foldl_keeps (g := Dev.core) (fun e x => ?_) outputs d
  dsimp only
  rw [Dev.core_raiseIf, Dev.core_pb, Dev.core_p]
  exact keeps_ite rfl (Dev.core_p _ _ _ _)

@[simp] theorem Dev.core_reportFate (x : GFrame) (status : Nat) : (d.reportFate x status).core = d.core := by
  unfold Dev.reportFate
  split <;> rfl

@[simp] theorem Dev.core_dropFollow (x : GFrame) : (d.dropFollow x).core = d.core :=
  Dev.each_frame (g := Dev.core) (fun _ e => e.core_setGate _ _) _

theorem Dev.core_gateDiscard (status : Nat) (x : GFrame) : (d.gateDiscard status x).core = d.core := by
  rw [Dev.gateDiscard, Dev.core_dropFollow, Dev.core_reportFate, Dev.core_raise, Dev.core_inc]

@[simp] theorem Dev.core_gateFlush (p status : Nat) (c : GFrame → Bool) : (d.gateFlush p status c).core = d.core :=
  (foldl_keeps (g := Dev.core) (fun e x => e.core_gateDiscard status x) _ _).trans (d.core_setGate _ _)

@[simp] theorem Dev.core_gateStopped (h : Half) : (gateStopped h d).core = d.core :=
  Dev.each_frame (g := Dev.core) (fun _ e => e.core_gateFlush _ _ _) d

@[simp] theorem Dev.core_bridgeRefresh : (bridgeRefresh d).core = d.core := rfl

theorem Dev.core_flowCheck (p : Nat) : (d.flowCheck p).core = d.core := by
  unfold Dev.flowCheck
  refine keeps_ite rfl ((Dev.each_frame (g := Dev.core) (fun c e => ?_) _).trans (d.core_p _ _ _))
  refine keeps_ite ?_ (keeps_ite (e.core_setPort _ _) rfl)
  exact keeps_ite (e.core_setPort _ _) (keeps_ite (e.core_setPort _ _) rfl)

theorem Dev.core_dropRef (h : Half) (f : SFrame) (j : Nat) (done : Bool) : (d.dropRef h f j done).core = d.core := by
  unfold Dev.dropRef Dev.refDone Dev.freeFrame
  refine (keeps_ite ?_ (Dev.core_setPlane _ _ _)).trans ((Dev.core_p _ _ _ _).trans ?_)
  · rw [Dev.core_flowCheck, Dev.core_p, Dev.core_setPlane]
  · exact (Dev.core_p _ _ _ _).trans (d.core_setPlane _ _)

@[simp] theorem Dev.core_flushPort (h : Half) (j : Nat) : (d.flushPort h j).core = d.core := by
  refine foldl_keeps (g := Dev.core) (fun e f => ?_) _ d
  split
  · rfl
  · exact (Dev.core_inc _ _ _ _).trans (e.core_dropRef _ _ _ _)

/-! ### Ports and links -/

theorem candBlind_core (h : Half) (c : Nat) : CandBlind Dev.core h c :=
  ⟨fun d _ => d.core_p _ _ _, fun d _ => d.core_p _ _ _, fun d _ => d.core_setw _ _, fun _ _ => rfl,
    fun d _ => d.core_raise _ _⟩

theorem Dev.core_candRefresh (h : Half) (c : Nat) : (candRefresh h c d).core = d.core :=
  candRefresh_blind (candBlind_core h c) d

@[simp] theorem Dev.core_portCands (p : Nat) : (d.portCands p).core = d.core := by
  refine foldl_keeps (g := Dev.core) (fun e h => ?_) _ d
  exact (Dev.each_frame (fun k x => keeps_ite (x.core_candRefresh _ _) rfl) _).trans (e.core_candRefresh _ _)

@[simp] theorem Dev.core_portDown (p : Nat) : (d.portDown p).core = d.core := by
  unfold Dev.portDown
  refine keeps_ite rfl ((Dev.core_portCands _ _).trans ((foldl_keeps (g := Dev.core) (fun e x => ?_) _ _).trans ?_))
  · rw [Dev.core_dropFollow, Dev.core_reportFate, Dev.core_macInc]
  · rw [Dev.core_setGate, Dev.core_flushPort, Dev.core_macInc, Dev.core_raise, Dev.core_pb, Dev.core_pb]

theorem Dev.core_portStop (p : Nat) : (d.portStop p).core = d.core := by
  unfold Dev.portStop
  dsimp only
  rw [Dev.core_portDown]
  exact keeps_ite ((Dev.core_macInc _ _ _ _).trans (d.core_setPort _ _)) rfl

theorem Dev.core_linkGone (s : Nat) : (d.linkGone s).core = d.core := by
  unfold Dev.linkGone
  refine keeps_ite rfl (((Dev.core_candRefresh _ _ _).trans (Dev.core_candRefresh _ _ _)).trans ?_)
  rw [Dev.core_setLink, Dev.core_raise, Dev.core_inc, Dev.core_pb, Dev.core_pb]

end

/-! ### The half itself -/

/-- A half that stops is in safe state; nothing else of the halves, and no Caddy, changes. -/
theorem Dev.halfStopped_core (d : Dev) (h : Half) (byFault : Bool) :
    (d.halfStopped h byFault).core =
      (d.half.put h { d.hs h with safe := true, byFault := byFault, coresUp := false, safePend := none }, d.cads) := by
  unfold Dev.halfStopped
  extract_lets old d1 d2 d3 d4 d5 d6 d7 sched d8
  have h3 : d3.core = d2.core :=
    (Dev.each_frame (fun _ e => e.core_linkGone _) _).trans (Dev.each_frame (fun _ e => e.core_portStop _) _)
  have h7 : d7.core = d1.core := by
    unfold d7 d6 d5 d4
    rw [Dev.core_pb, Dev.core_p, Dev.core_pb, Dev.core_mbxHalfCut, Dev.core_bridgeRefresh, Dev.core_gateStopped, h3]
    exact d1.core_outRefresh h
  have h8 : d8.core = d1.core := (Dev.core_withSched _ _).trans h7
  exact keeps_ite ((Dev.core_withSched _ _).trans h8) h8

@[simp] theorem Dev.hs_put (d : Dev) (h : Half) (v : HalfSt) : ({ d with half := d.half.put h v } : Dev).hs h = v := by
  cases h <;> rfl

@[simp] theorem Dev.hs_put_other (d : Dev) (h : Half) (v : HalfSt) :
    ({ d with half := d.half.put h v } : Dev).hs h.other = d.hs h.other := by
  cases h <;> rfl

@[simp] theorem Dev.hs_put_at_other (d : Dev) (h : Half) (v : HalfSt) :
    ({ d with half := d.half.put h.other v } : Dev).hs h = d.hs h := by
  cases h <;> rfl

theorem Dev.halfStopped_hs (d : Dev) (h : Half) (byFault : Bool) :
    (d.halfStopped h byFault).hs h = { d.hs h with safe := true, byFault := byFault, coresUp := false, safePend := none } := by
  unfold Dev.hs
  rw [(Prod.mk.inj (d.halfStopped_core h byFault)).1]
  cases h <;> rfl

theorem Dev.halfStopped_hs_other (d : Dev) (h : Half) (byFault : Bool) :
    (d.halfStopped h byFault).hs h.other = d.hs h.other := by
  unfold Dev.hs
  rw [(Prod.mk.inj (d.halfStopped_core h byFault)).1]
  cases h <;> rfl

theorem Dev.halfStopped_cads (d : Dev) (h : Half) (byFault : Bool) : (d.halfStopped h byFault).cads = d.cads :=
  (Prod.mk.inj (d.halfStopped_core h byFault)).2

section
variable {d : Dev} {h : Half} (hp : (d.hs h).safePend = some false)
include hp

/-- A half whose safe line was pulled on command enters safe state; the other keeps its own, but for starting alone. -/
theorem safeEntered_commanded : ((safeEntered h d).hs h).safe = true ∧
    ((safeEntered h d).hs h.other).safe = (d.hs h.other).safe ∧
    ((safeEntered h d).hs h.other).safePend = (d.hs h.other).safePend ∧ (safeEntered h d).cads = d.cads := by
  unfold safeEntered
  rw [hp]
  dsimp only
  by_cases hs : (d.hs h).safe = true
  · rw [if_pos hs, Dev.hs_put, Dev.hs_put_other]
    exact ⟨hs, rfl, rfl, rfl⟩
  · rw [if_neg hs]
    simp only [Bool.false_and, Bool.false_eq_true, if_false]
    split
    · rw [Dev.hs_put, Dev.hs_put_at_other, Dev.halfStopped_hs, Dev.halfStopped_hs_other]
      exact ⟨rfl, rfl, rfl, d.halfStopped_cads h false⟩
    · rw [Dev.halfStopped_hs, Dev.halfStopped_hs_other]
      exact ⟨rfl, rfl, rfl, d.halfStopped_cads h false⟩

end

/-- The safe line of a half pulled on command. -/
def Dev.pulled (d : Dev) (h : Half) : Dev := { d with half := d.half.put h { d.hs h with safePend := some false } }

/-- Both halves are in safe state once put there on command, their Caddies as they were. -/
theorem safeOnCommand_safe (d : Dev) :
    (∀ e : Half, ((safeOnCommand d).hs e).safe = true) ∧ (safeOnCommand d).cads = d.cads := by
  have hd : safeOnCommand d = safeEntered .weft (safeEntered .warp ((d.pulled .warp).pulled .weft)) := rfl
  have hw : (((d.pulled .warp).pulled .weft).hs .warp).safePend = some false := rfl
  obtain ⟨safe₁, _, pend₁, cads₁⟩ := safeEntered_commanded hw
  have hf : ((safeEntered .warp ((d.pulled .warp).pulled .weft)).hs .weft).safePend = some false := pend₁
  obtain ⟨safe₂, other₂, _, cads₂⟩ := safeEntered_commanded hf
  rw [hd]
  refine ⟨fun e => ?_, cads₂.trans cads₁⟩
  cases e with
  | warp => exact other₂.trans safe₁
  | weft => exact safe₂

end Sys2Proof.Machine
end

section
/-! SUPPORT. The lifecycle commands (R473, R474): the code each is answered with, and what its commit leaves. -/

namespace Sys2Proof.Machine

theorem NV.mayOwn_iff (nv : NV) : nv.mayOwn = true ↔ nv.lifecycle = 2 ∧ nv.owner = none := by
  simp [NV.mayOwn]

theorem NV.mayField_iff (nv : NV) : nv.mayField = true ↔ nv.lifecycle = 2 ∧ nv.owner ≠ none := by
  simp [NV.mayField, Option.isSome_iff_ne_none]

theorem NV.not_scrap_iff (nv : NV) : (!nv.scrap) = true ↔ nv.lifecycle ≠ 5 := by
  simp [NV.scrap]

section
variable (d : Dev) (b len : Nat) (allowed : Bool) (c : FwCmd)

theorem lcsCode_none :
    lcsCode d b len allowed none c = if c.len ≠ len then codeBadLen else
      if d.wrongHalf b = false ∧ allowed = true then codeOK else codeNotPermitted := by
  unfold lcsCode
  cases d.wrongHalf b <;> cases allowed <;> rfl

theorem lcsCode_some (w : Nat) :
    lcsCode d b len allowed (some w) c = if c.len ≠ len then codeBadLen else
      if d.wrongHalf b = false ∧ allowed = true then (if (c.req[0]?.getD 0).toNat = w then codeOK else codeBadArg)
      else codeNotPermitted := by
  unfold lcsCode
  cases d.wrongHalf b <;> cases allowed <;> rfl

end

/-- The codes of a command that a confirmation word guards, where it is refused. -/
theorem lcsCode_refusals {d : Dev} {b len w : Nat} {allowed : Bool} {c : FwCmd} {may : Prop}
    (hm : may ↔ d.wrongHalf b = false ∧ allowed = true) (hn : ¬ (c.len = len ∧ may ∧ (c.req[0]?.getD 0).toNat = w)) :
    let code := lcsCode d b len allowed (some w) c
    code ≠ codeOK ∧ (c.len ≠ len → code = codeBadLen) ∧ (c.len = len → ¬ may → code = codeNotPermitted) ∧
      (c.len = len → may → code = codeBadArg) := by
  dsimp only
  rw [lcsCode_some]
  obtain rfl : may = (d.wrongHalf b = false ∧ allowed = true) := propext hm
  by_cases hl : c.len = len
  · rw [if_neg (not_not.2 hl)]
    by_cases hy : d.wrongHalf b = false ∧ allowed = true
    · rw [if_pos hy, if_neg fun hw => hn ⟨hl, hy, hw⟩]
      exact ⟨by decide, absurd hl, fun _ h => absurd hy h, fun _ _ => rfl⟩
    · rw [if_neg hy]
      exact ⟨by decide, absurd hl, fun _ _ => rfl, fun _ h => absurd h hy⟩
  · rw [if_pos hl]
    exact ⟨by decide, fun _ => rfl, fun h => absurd h hl, fun h => absurd h hl⟩

theorem lcsCode_confirmed {d : Dev} {b len w : Nat} {allowed : Bool} {c : FwCmd} (hl : c.len = len)
    (hm : d.wrongHalf b = false ∧ allowed = true) (hw : (c.req[0]?.getD 0).toNat = w) :
    lcsCode d b len allowed (some w) c = codeOK := by
  rw [lcsCode_some, if_neg (not_not.2 hl), if_pos hm, if_pos hw]

section
variable {s : State} {b : Fin 4} {c : FwCmd}

/-! ### Refused or not there -/

theorem exec_lcsOwnSet_none (h : s.noCommit b.val 0x0601) : exec (.lcsOwnSet b) s = .next s := by
  show Host.Outcome.next ({ s with dev := _, nv := ownSetNV b.val s.dev s.nv } : State) = _
  rw [ownSet, Dev.mbxCommit_none h, ownSetNV, Dev.firstCmd_none h]

theorem exec_lcsField_none (h : s.noCommit b.val 0x0602) : exec (.lcsField b) s = .next s := by
  show Host.Outcome.next ({ s with dev := _, nv := fieldNV b.val s.dev s.nv } : State) = _
  rw [fieldEntered, Dev.mbxCommit_none h, fieldNV, Dev.firstCmd_none h]

theorem scrapEntered_unscrapped (hs : scrapped b.val s.dev s.nv = false) : scrapEntered b.val s.nv s.dev =
    s.dev.mbxCommit b.val 0x603 fun c e =>
      { dev := e, code := lcsCode s.dev b.val 1 (!s.nv.scrap) (some 0x53435250) c } := by
  unfold scrapEntered
  rw [hs]
  rfl

theorem scrapEntered_scrapped (hs : scrapped b.val s.dev s.nv = true) : scrapEntered b.val s.nv s.dev =
    safeOnCommand (mbxFinished b.val (s.dev.mbxCommit b.val 0x603 fun c e =>
      { dev := (zeroAsked 0 255 false e).lcsShow { s.nv with lifecycle := 5 }
        code := lcsCode s.dev b.val 1 (!s.nv.scrap) (some 0x53435250) c })) := by
  unfold scrapEntered
  rw [hs]
  rfl

theorem exec_lcsScrap_unscrapped (hs : scrapped b.val s.dev s.nv = false)
    (hc : (scrapEntered b.val s.nv s.dev).cads = s.dev.cads) :
    exec (.lcsScrap b) s = .next (s.withDev (scrapEntered b.val s.nv s.dev)) := by
  show Host.Outcome.next (s.scrapCommitted b.val) = _
  unfold State.scrapCommitted
  rw [hs, if_neg Bool.false_ne_true, State.settled_eq_withDev s hc]

theorem exec_lcsScrap_scrapped (hs : scrapped b.val s.dev s.nv = true) :
    exec (.lcsScrap b) s =
      let t := s.settled (scrapEntered b.val s.nv s.dev)
      .next { t with nv := { t.nv with lifecycle := 5 } } := by
  show Host.Outcome.next (s.scrapCommitted b.val) = _
  unfold State.scrapCommitted
  rw [hs, if_pos rfl]

theorem exec_lcsScrap_none (h : s.noCommit b.val 0x0603) : exec (.lcsScrap b) s = .next s := by
  have hs : scrapped b.val s.dev s.nv = false := by rw [scrapped, Dev.firstCmd_none h]
  have hd : scrapEntered b.val s.nv s.dev = s.dev := (scrapEntered_unscrapped hs).trans (Dev.mbxCommit_none h _)
  rw [exec_lcsScrap_unscrapped hs (congrArg Dev.cads hd), hd]
  rfl

theorem exec_lcsRespond_unaccepted (ha : acceptedPurpose b.val s.dev s.nv ≠ some 3)
    (hc : (s.dev.mbxCommit b.val 0x0611 (responded b.val s.nv)).cads = s.dev.cads) :
    exec (.lcsRespond b) s = .next (s.onDev fun d => d.mbxCommit b.val 0x0611 (responded b.val s.nv)) := by
  show Host.Outcome.next (s.responseCommitted b.val) = _
  unfold State.responseCommitted
  rw [if_neg ha, State.settled_eq_withDev s hc]
  rfl

theorem exec_lcsRespond_none (h : s.noCommit b.val 0x0611) : exec (.lcsRespond b) s = .next s := by
  have ha : acceptedPurpose b.val s.dev s.nv ≠ some 3 := by
    rw [acceptedPurpose, Dev.firstCmd_none h]
    exact nofun
  rw [exec_lcsRespond_unaccepted ha (congrArg Dev.cads (Dev.mbxCommit_none h _)), State.onDev_mbxCommit_none h]

/-! ### LCS_OWN_SET and LCS_FIELD -/

/-- What a fused change leaves at its commit: the pages of both halves show the fuses. -/
def Dev.shownResult (d : Dev) (nv : NV) (code : Nat) : FwResult := { dev := d.lcsShow nv, code := code }

theorem exec_lcsOwnSet (h : s.atCommit b.val 0x0601 c) : exec (.lcsOwnSet b) s =
    .next { s with
      dev := (s.dev.shownResult (ownSetNV b.val s.dev s.nv) (lcsCode s.dev b.val 16 s.nv.mayOwn none c)).handed b.val c
      nv := ownSetNV b.val s.dev s.nv } := by
  show Host.Outcome.next ({ s with dev := _, nv := ownSetNV b.val s.dev s.nv } : State) = _
  rw [ownSet, Dev.mbxCommit_eq h (by decide)]
  rfl

theorem exec_lcsField (h : s.atCommit b.val 0x0602 c) : exec (.lcsField b) s =
    .next { s with
      dev := (s.dev.shownResult (fieldNV b.val s.dev s.nv)
        (lcsCode s.dev b.val 1 s.nv.mayField (some 0x4649454C) c)).handed b.val c
      nv := fieldNV b.val s.dev s.nv } := by
  show Host.Outcome.next ({ s with dev := _, nv := fieldNV b.val s.dev s.nv } : State) = _
  rw [fieldEntered, Dev.mbxCommit_eq h (by decide)]
  rfl

theorem Dev.shownResult_finished {t : State} {nv : NV} {code : Nat} (ht : t.dev = (s.dev.shownResult nv code).handed b.val c) :
    s.finished t b.val c code [] :=
  FwResult.handed_finished _ b.val c ht (Dev.lcsShow_keeps (g := Dev.mbx) Dev.setw_mbx s.dev nv)

theorem ownSetNV_eq (h : s.atCommit b.val 0x0601 c) : ownSetNV b.val s.dev s.nv =
    if lcsCode s.dev b.val 16 s.nv.mayOwn none c = codeOK then
      { s.nv with owner := some (bytesOfWords ((c.req ++ List.replicate 16 0).take 8),
                                 bytesOfWords (((c.req ++ List.replicate 16 0).drop 8).take 8)) }
    else s.nv := by
  rw [ownSetNV, Dev.firstCmd_eq h]

theorem fieldNV_eq (h : s.atCommit b.val 0x0602 c) : fieldNV b.val s.dev s.nv =
    if lcsCode s.dev b.val 1 s.nv.mayField (some 0x4649454C) c = codeOK then { s.nv with lifecycle := 3 } else s.nv := by
  rw [fieldNV, Dev.firstCmd_eq h]

/-! ### LCS_SCRAP -/

theorem scrapped_eq (h : s.atCommit b.val 0x0603 c) :
    scrapped b.val s.dev s.nv = (lcsCode s.dev b.val 1 (!s.nv.scrap) (some 0x53435250) c == codeOK) := by
  rw [scrapped, Dev.firstCmd_eq h]

theorem exec_lcsScrap_refused (h : s.atCommit b.val 0x0603 c)
    (hc : lcsCode s.dev b.val 1 (!s.nv.scrap) (some 0x53435250) c ≠ codeOK) :
    ∃ t, exec (.lcsScrap b) s = .next t ∧
      s.answersOnly t b.val c (lcsCode s.dev b.val 1 (!s.nv.scrap) (some 0x53435250) c) [] := by
  have hs : scrapped b.val s.dev s.nv = false := by
    rw [scrapped_eq h]
    exact beq_false_of_ne hc
  have hd := (scrapEntered_unscrapped hs).trans (Dev.mbxCommit_eq h (by decide) _)
  refine ⟨_, exec_lcsScrap_unscrapped hs ((congrArg Dev.cads hd).trans rfl), ?_⟩
  rw [hd]
  exact State.answersOnly_handed (r := { dev := s.dev, code := _ }) b.val c rfl

/-- A confirmed SCRAP: the zeroisation asked for, then both halves stopped; the Caddies stay as the first of these leaves
them. -/
theorem scrapEntered_safe (h : s.atCommit b.val 0x0603 c) (hs : scrapped b.val s.dev s.nv = true) :
    (∀ e : Half, ((scrapEntered b.val s.nv s.dev).hs e).safe = true) ∧
      (scrapEntered b.val s.nv s.dev).cads = (zeroAsked 0 255 false s.dev).cads := by
  rw [scrapEntered_scrapped hs, Dev.mbxCommit_eq h (by decide)]
  refine ⟨(safeOnCommand_safe _).1, (safeOnCommand_safe _).2.trans ?_⟩
  refine (Prod.mk.inj (Dev.core_mbxFinished _ _)).2.trans ?_
  exact Dev.lcsShow_keeps (g := Dev.cads) Dev.setw_cads _ _

end

end Sys2Proof.Machine
end

section
/-! SUPPORT. What firmware makes of LCS_PASSWORD, LCS_CHALLENGE, LCS_RESPOND and LCS_CLOSE (R475 to R479), a case at a time. -/

namespace Sys2Proof.Machine

/-- A password was evaluated less than a second ago (R476). -/
def Dev.passwordSoon (d : Dev) : Prop := ∃ x, d.lcs.pwdAt = some x ∧ d.now < x + ticks1s

/-- The device with a password attempt noted. -/
def Dev.attempted (d : Dev) : Dev := { d with lcs := { d.lcs with pwdAt := some d.now } }

section
variable {d : Dev} {b : Nat} {nv : NV} {c : FwCmd}

/-! ### LCS_PASSWORD -/

theorem passwordGiven_badLen (hl : c.len ≠ 8) : passwordGiven b nv c d = { dev := d, code := codeBadLen } := by
  simp [passwordGiven, hl]

theorem passwordGiven_notPermitted (hl : c.len = 8) (hs : nv.lifecycle ≠ 3) :
    passwordGiven b nv c d = { dev := d, code := codeNotPermitted } := by
  simp [passwordGiven, hl, hs]

theorem passwordGiven_busy (hl : c.len = 8) (hs : nv.lifecycle = 3) (hb : d.lockout = true ∨ d.passwordSoon) :
    passwordGiven b nv c d = { dev := d, code := codeBusy } := by
  unfold passwordGiven
  dsimp only
  rw [if_neg (not_not.2 hl), if_neg (not_not.2 hs), if_pos]
  rcases hb with hk | ⟨x, hx, hn⟩
  · rw [hk, Bool.true_or]
  · simp [hx, hn]

theorem passwordGiven_tried (hl : c.len = 8) (hs : nv.lifecycle = 3) (hk : d.lockout = false) (hn : ¬ d.passwordSoon) :
    passwordGiven b nv c d =
      if nv.owner.map (·.1) = some (Config.sha256 (bytesOfWords (c.req.take 8))) then
        { dev := sessionOpened d.attempted, code := codeOK, rsp := [(sessionOpened d.attempted).lstateWord (mbxHalf b)] }
      else { dev := d.attempted.authFail, code := codeBadArg } := by
  unfold passwordGiven
  dsimp only
  rw [if_neg (not_not.2 hl), if_neg (not_not.2 hs), if_neg]
  · rfl
  · rw [hk, Bool.false_or]
    cases hx : d.lcs.pwdAt with
    | none => exact Bool.false_ne_true
    | some x => exact fun h => hn ⟨x, hx, of_decide_eq_true h⟩

/-! ### LCS_CHALLENGE -/

/-- The device once a challenge is the outstanding one: its nonce is drawn. -/
def Dev.issued (d : Dev) (bytes : List Byte) (purpose : Nat) : Dev :=
  { d.drawn 1 with lcs := { d.lcs with chal := some (bytes, purpose, d.now), cseq := d.lcs.cseq + 1 } }

theorem challengeIssued_eq : challengeIssued nv c d =
    let purpose := (c.req[0]?.getD 0).toNat % 16
    let bytes := d.challenge purpose nv.lifecycle nv.boots (d.lcs.cseq + 1)
    let code := if c.len ≠ 1 then codeBadLen else if d.lockout = true then codeBusy
      else if purposeOk purpose nv.lifecycle = false then codeBadArg else codeOK
    if code = codeOK then
      { dev := (d.issued bytes purpose).challengeShown true
        code := codeOK, rsp := wordsOfBytes bytes }
    else { dev := d, code := code } := by
  unfold challengeIssued
  dsimp only
  by_cases hl : c.len = 1
  · cases hk : d.lockout
    · cases hp : purposeOk ((c.req[0]?.getD 0).toNat % 16) nv.lifecycle
      · simp [hl, codeBadArg, codeOK]
      · simp [hl]
        rfl
    · simp [hl, codeBusy, codeOK]
  · simp [hl, codeBadLen, codeOK]

/-! ### LCS_RESPOND -/

/-- What an accepted response does, by its PURPOSE, once the challenge is void. -/
def Dev.respondedTo (d : Dev) (nv : NV) (purpose : Nat) : Dev :=
  if purpose = 1 then sessionOpened (challengeVoid d)
  else if purpose = 2 then tamperCleared (challengeVoid d) else rmaEntered nv (challengeVoid d)

theorem responded_badLen (hl : c.len ≠ 17) : responded b nv c d = { dev := d, code := codeBadLen } := by
  simp [responded, hl]

theorem responded_busy (hl : c.len = 17) (hk : d.lockout = true) : responded b nv c d = { dev := d, code := codeBusy } := by
  simp [responded, hl, hk]

theorem responded_failed (hl : c.len = 17) (hk : d.lockout = false) (hr : d.responseOk nv c = none) :
    responded b nv c d = { dev := challengeVoid d.authFail, code := codeBadArg } := by
  simp [responded, hl, hk, hr]

theorem responded_accepted (hl : c.len = 17) (hk : d.lockout = false) {p : Nat} (hr : d.responseOk nv c = some p) :
    responded b nv c d =
      { dev := d.respondedTo nv p, code := codeOK, rsp := [(d.respondedTo nv p).lstateWord (mbxHalf b)] } := by
  simp only [responded, hl, hk, hr, ne_eq, not_true_eq_false, if_false, Bool.false_eq_true]
  rfl

theorem respondedTo_session (d : Dev) (nv : NV) : d.respondedTo nv 1 = sessionOpened (challengeVoid d) := rfl
theorem respondedTo_tamper (d : Dev) (nv : NV) : d.respondedTo nv 2 = tamperCleared (challengeVoid d) := rfl
theorem respondedTo_rma (d : Dev) (nv : NV) {p : Nat} (h1 : p ≠ 1) (h2 : p ≠ 2) :
    d.respondedTo nv p = rmaEntered nv (challengeVoid d) := by
  simp [Dev.respondedTo, h1, h2]

end

/-! ### TAMPER_CLEAR and RMA -/

/-- A half's part of TAMPER_CLEAR. -/
def lockClearedIn (h : Half) (e : Dev) : Dev := (e.setw (cadPg h + 0x188) 0).pb (cadPg h) Reg.CAD.CSTAT_TAMPER_LOCK false

/-- The Kettle's part of TAMPER_CLEAR. -/
def tamperLogCleared (d : Dev) : Dev :=
  (((d.pb ktlPg Reg.KTL.KSTAT_TAMPER_SEEN false).p ktlPg Reg.KTL.KSTAT_LOGN 0).pb ktlPg Reg.KTL.KSTAT_LOGOVF false).each 32
    fun i e => e.setw (ktlPg + 0x140 + 4 * i) 0

theorem tamperCleared_eq (d : Dev) :
    tamperCleared d = tamperLogCleared ([Half.warp, Half.weft].foldl (fun e h => lockClearedIn h e) d) := rfl

theorem tamperLogCleared_keeps {α : Type} {g : Dev → α} (hg : ∀ x o v, o < 0x1000 → g (x.setw (ktlPg + o) v) = g x)
    (d : Dev) : g (tamperLogCleared d) = g d := by
  unfold tamperLogCleared Dev.pb Dev.p
  rw [Dev.each_keeps g 32 _ _ fun i hi x => (congrArg (fun a => g (x.setw a 0)) (Nat.add_assoc ktlPg 0x140 (4 * i))).trans
      (hg x (0x140 + 4 * i) 0 (by omega)), hg _ _ _ (by decide), hg _ _ _ (by decide), hg _ _ _ (by decide)]

/-- TAMPER_CLEAR changes registers alone. -/
theorem tamperCleared_keeps {α : Type} {g : Dev → α} (hg : ∀ x a v, g (x.setw a v) = g x) (d : Dev) :
    g (tamperCleared d) = g d :=
  (tamperLogCleared_keeps (fun x _ v _ => hg x _ v) _).trans
    (both_keeps lockClearedIn (fun _ _ => (hg _ _ _).trans (hg _ _ _)) d)

/-- KTL registers lie beside the CAD pages. -/
theorem cad_ne_ktl (e : Half) {o o' : Nat} (ho : o < 0x1000) (ho' : o' < 0x1000) : cadPg e + o' ≠ ktlPg + o := by
  cases e <;> simp only [cadPg, ktlPg, pageAddr, Half.num, Page.code] <;> omega

theorem tamperCleared_lock (d : Dev) (e : Half) : (tamperCleared d).gb (cadPg e) Reg.CAD.CSTAT_TAMPER_LOCK = false := by
  rw [tamperCleared_eq, tamperLogCleared_keeps (g := fun x => x.gb (cadPg e) Reg.CAD.CSTAT_TAMPER_LOCK)
    fun x o v ho => congrArg (· == 1) (x.g_setw_ne v (cad_ne_ktl e ho (by decide)))]
  refine both_own lockClearedIn (g := fun h x => x.gb (cadPg h) Reg.CAD.CSTAT_TAMPER_LOCK) (F := fun _ => false)
    (fun h x => Dev.gb_pb_same _ _ _ _ (by decide) (by decide)) (fun h x => ?_) d e
  have hs : (x.setw (cadPg h + 0x188) 0).g (cadPg h.other) Reg.CAD.CSTAT_TAMPER_LOCK =
      x.g (cadPg h.other) Reg.CAD.CSTAT_TAMPER_LOCK :=
    x.g_setw_ne 0 (pageAddr_other_ne .cad h (by decide) (by decide))
  exact (Dev.gb_pb_other _ .cad h _ _ _ (by decide) (by decide)).trans (congrArg (· == 1) hs)

/-- RMA leaves whatever neither a zeroisation nor its event shows in. -/
theorem rmaEntered_keeps {α : Type} {g : Dev → α} (hg : KeyBlind g) (he : ∀ d h, g (d.raise (lcsPg h) 2) = g d)
    (nv : NV) (d : Dev) : g (rmaEntered nv d) = g d := by
  refine (both_keeps (fun h e => e.raise (lcsPg h) 2) (fun h x => he x h) _).trans ?_
  exact (Dev.lcsShow_keeps hg.word _ _).trans (zeroAsked_keeps hg _ _ _ _)

theorem keyBlind_mbx : KeyBlind Dev.mbx :=
  ⟨⟨Dev.setw_mbx, fun _ _ => rfl, fun _ _ _ => rfl, fun _ _ => rfl, fun d _ => d.raise_mbx _ _⟩, fun _ _ _ => rfl⟩

theorem keyBlind_lcs : KeyBlind Dev.lcs :=
  ⟨⟨Dev.setw_lcs, fun _ _ => rfl, fun _ _ _ => rfl, fun _ _ => rfl, fun d _ => d.raise_lcs _ _⟩, fun _ _ _ => rfl⟩

/-- The event of an aborted request is in a TRS page. -/
theorem keyBlind_lcsEvt (e : Half) : KeyBlind fun d => d.evt (lcsPg e) 2 :=
  ⟨⟨fun d a v => d.evt_setw a v _ _, fun _ _ => rfl, fun _ _ _ => rfl, fun _ _ => rfl,
    fun d h => d.evt_raise_ne (by cases e <;> cases h <;> decide)⟩, fun _ _ _ => rfl⟩

theorem rmaEntered_evt (nv : NV) (d : Dev) (e : Half) : (rmaEntered nv d).evt (lcsPg e) 2 = (d.evt (lcsPg e) 2).occur := by
  refine (both_own (fun h x => x.raise (lcsPg h) 2) (g := fun h x => x.evt (lcsPg h) 2) (F := EvtWord.occur)
    (fun h x => x.evt_raise_lcs h (by decide)) (fun h x => x.evt_raise_lcs_other h (by decide) (by decide)) _ e).trans ?_
  refine congrArg EvtWord.occur ?_
  exact (Dev.lcsShow_keeps (g := fun x => x.evt (lcsPg e) 2) (keyBlind_lcsEvt e).word _ _).trans
    (zeroAsked_keeps (keyBlind_lcsEvt e) _ _ _ _)

theorem rmaEntered_cads (nv : NV) (d : Dev) : (rmaEntered nv d).cads = (zeroAsked 0 255 true d).cads :=
  Dev.lcsShow_keeps (g := Dev.cads) Dev.setw_cads _ _

/-- Whatever its PURPOSE, an accepted response voids the challenge and leaves the mailboxes. -/
theorem respondedTo_void (d : Dev) (nv : NV) (p : Nat) :
    (d.respondedTo nv p).lcs.chal = none ∧ (d.respondedTo nv p).mbx = d.mbx := by
  have hv : (challengeVoid d).lcs.chal = none := congrArg LcsSt.chal (challengeVoid_lcs d)
  unfold Dev.respondedTo
  split_ifs
  · rw [sessionOpened_lcs, sessionOpened_mbx, challengeVoid_mbx]
    exact ⟨hv, rfl⟩
  · rw [tamperCleared_keeps Dev.setw_lcs, tamperCleared_keeps Dev.setw_mbx, challengeVoid_mbx]
    exact ⟨hv, rfl⟩
  · rw [rmaEntered_keeps keyBlind_lcs fun x _ => x.raise_lcs _ _, rmaEntered_keeps keyBlind_mbx fun x _ => x.raise_mbx _ _,
      challengeVoid_mbx]
    exact ⟨hv, rfl⟩

/-- Only RMA zeroises. -/
theorem respondedTo_cads (d : Dev) (nv : NV) {p : Nat} (hp : p = 1 ∨ p = 2) : (d.respondedTo nv p).cads = d.cads := by
  rcases hp with rfl | rfl
  · rw [respondedTo_session, sessionOpened_cads, challengeVoid_cads]
  · rw [respondedTo_tamper, tamperCleared_keeps Dev.setw_cads, challengeVoid_cads]

end Sys2Proof.Machine
end

section
/-! PROOF. The lifecycle, the password, sessions and the test port: the twelve parts of O56. -/

namespace Sys2Proof.Machine

section
variable {b : Fin 4} {c : FwCmd} {s : State}

/-! ### LCS_OWN_SET, LCS_FIELD and LCS_SCRAP -/

/-- LCS_FIELD is permitted in a mailbox (R473, R474). -/
def State.fieldPermitted (s : State) (b : Nat) : Prop :=
  s.dev.wrongHalf b = false ∧ s.nv.lifecycle = 2 ∧ s.nv.owner ≠ none

/-- LCS_SCRAP is permitted in a mailbox (R474). -/
def State.scrapPermitted (s : State) (b : Nat) : Prop := s.dev.wrongHalf b = false ∧ s.nv.lifecycle ≠ 5

theorem lcsOwnSet_done (h : s.atCommit b.val 0x0601 c)
    (ok : c.len = 16 ∧ s.dev.wrongHalf b.val = false ∧ s.nv.lifecycle = 2 ∧ s.nv.owner = none) :
    ∃ t, exec (.lcsOwnSet b) s = .next t ∧ s.finished t b.val c codeOK [] ∧
      t.nv = { s.nv with owner := some (bytesOfWords ((c.req ++ List.replicate 16 0).take 8),
                                        bytesOfWords (((c.req ++ List.replicate 16 0).drop 8).take 8)) } ∧
      (∀ e : Half, t.dev.gb (lcsPg e) Reg.LCS.LSTATE_OWNER_SET = true) ∧ t.pending = s.pending := by
  obtain ⟨hl, hh, hs⟩ := ok
  have hcode : lcsCode s.dev b.val 16 s.nv.mayOwn none c = codeOK := by
    rw [lcsCode_none, if_neg (not_not.2 hl), if_pos ⟨hh, s.nv.mayOwn_iff.2 hs⟩]
  have hnv := (ownSetNV_eq h).trans (if_pos hcode)
  refine ⟨_, exec_lcsOwnSet h, ?_, hnv, fun e => ?_, rfl⟩
  · rw [hcode]
    exact Dev.shownResult_finished rfl
  · rw [FwResult.handed_gb, Dev.shownResult, Dev.lcsShow_ownerSet, hnv]
    rfl

theorem lcsOwnSet_refused (h : s.atCommit b.val 0x0601 c)
    (hn : ¬ (c.len = 16 ∧ s.dev.wrongHalf b.val = false ∧ s.nv.lifecycle = 2 ∧ s.nv.owner = none)) :
    ∃ t, exec (.lcsOwnSet b) s = .next t ∧
      s.finished t b.val c (if c.len ≠ 16 then codeBadLen else codeNotPermitted) [] ∧ s.keepsRest t := by
  have hcode : lcsCode s.dev b.val 16 s.nv.mayOwn none c = if c.len ≠ 16 then codeBadLen else codeNotPermitted := by
    rw [lcsCode_none]
    by_cases hl : c.len = 16
    · rw [if_neg (not_not.2 hl), if_neg (not_not.2 hl), if_neg fun hm => hn ⟨hl, hm.1, s.nv.mayOwn_iff.1 hm.2⟩]
    · rw [if_pos hl, if_pos hl]
  have hbad : lcsCode s.dev b.val 16 s.nv.mayOwn none c ≠ codeOK := by
    rw [hcode]
    split <;> decide
  refine ⟨_, exec_lcsOwnSet h, ?_, (ownSetNV_eq h).trans (if_neg hbad), rfl⟩
  rw [← hcode]
  exact Dev.shownResult_finished rfl

theorem lcsField_done (h : s.atCommit b.val 0x0602 c) (hl : c.len = 1) (may : s.fieldPermitted b.val)
    (hw : (c.req[0]?.getD 0).toNat = 0x4649454C) :
    ∃ t, exec (.lcsField b) s = .next t ∧ s.finished t b.val c codeOK [] ∧ t.nv = { s.nv with lifecycle := 3 } ∧
      (∀ e : Half, t.dev.g (lcsPg e) Reg.LCS.LSTATE_STATE = 3) ∧ t.pending = s.pending := by
  have hcode := lcsCode_confirmed hl ⟨may.1, s.nv.mayField_iff.2 may.2⟩ hw
  have hnv := (fieldNV_eq h).trans (if_pos hcode)
  refine ⟨_, exec_lcsField h, ?_, hnv, fun e => ?_, rfl⟩
  · rw [hcode]
    exact Dev.shownResult_finished rfl
  · rw [FwResult.handed_g, Dev.shownResult, Dev.lcsShow_state, hnv]
    rfl

theorem lcsField_refused (h : s.atCommit b.val 0x0602 c)
    (hn : ¬ (c.len = 1 ∧ s.fieldPermitted b.val ∧ (c.req[0]?.getD 0).toNat = 0x4649454C)) :
    ∃ t code, exec (.lcsField b) s = .next t ∧ s.finished t b.val c code [] ∧ s.keepsRest t ∧
      (c.len ≠ 1 → code = codeBadLen) ∧ (c.len = 1 → ¬ s.fieldPermitted b.val → code = codeNotPermitted) ∧
      (c.len = 1 → s.fieldPermitted b.val → code = codeBadArg) := by
  obtain ⟨hbad, hcodes⟩ := lcsCode_refusals (and_congr_right fun _ => s.nv.mayField_iff.symm) hn
  exact ⟨_, _, exec_lcsField h, Dev.shownResult_finished rfl, ⟨(fieldNV_eq h).trans (if_neg hbad), rfl⟩, hcodes⟩

theorem lcsScrap_done (h : s.atCommit b.val 0x0603 c) (hl : c.len = 1) (may : s.scrapPermitted b.val)
    (hw : (c.req[0]?.getD 0).toNat = 0x53435250) :
    ∃ t, exec (.lcsScrap b) s = .next t ∧ t.nv = { s.nv with lifecycle := 5 } ∧
      (∀ e : Half, (t.dev.hs e).safe = true ∧
        ((s.dev.cad e).zero = none → ∀ k < 256, (t.dev.slot e k).valid = false) ∧
        ∀ z, (s.dev.cad e).zero = some z → (t.dev.cad e).queued = some (0, 255, false)) ∧ t.pending = s.pending := by
  have hcode := lcsCode_confirmed hl ⟨may.1, s.nv.not_scrap_iff.2 may.2⟩ hw
  have hs : scrapped b.val s.dev s.nv = true := by rw [scrapped_eq h, hcode]; rfl
  obtain ⟨hsafe, hcads⟩ := scrapEntered_safe h hs
  have hask : ∀ e, (s.dev.cad e).asked (0, 255, false) ((scrapEntered b.val s.nv s.dev).cad e) := fun e => by
    rw [Dev.cad_congr hcads]
    exact zeroAsked_cad (by decide) false s.dev e
  refine ⟨_, exec_lcsScrap_scrapped hs, ?_, fun e => ⟨hsafe e, fun hz k hk => ?_, fun z hz => ((hask e).2 z hz).2⟩, rfl⟩
  · exact congrArg (fun nv : NV => { nv with lifecycle := 5 }) (State.settled_nv_transient hask)
  · exact ((hask e).1 hz).2 k (mem_zeroRange_all hk false)

theorem lcsScrap_refused (h : s.atCommit b.val 0x0603 c)
    (hn : ¬ (c.len = 1 ∧ s.scrapPermitted b.val ∧ (c.req[0]?.getD 0).toNat = 0x53435250)) :
    ∃ t code, exec (.lcsScrap b) s = .next t ∧ s.answersOnly t b.val c code [] ∧
      (c.len ≠ 1 → code = codeBadLen) ∧ (c.len = 1 → ¬ s.scrapPermitted b.val → code = codeNotPermitted) ∧
      (c.len = 1 → s.scrapPermitted b.val → code = codeBadArg) := by
  obtain ⟨hbad, hcodes⟩ := lcsCode_refusals (and_congr_right fun _ => s.nv.not_scrap_iff.symm) hn
  obtain ⟨t, ht, ha⟩ := exec_lcsScrap_refused h hbad
  exact ⟨t, _, ht, ha, hcodes⟩

/-! ### LCS_PASSWORD, LCS_CHALLENGE and LCS_CLOSE -/

theorem exec_lcsPassword (h : s.atCommit b.val 0x0612 c) :
    exec (.lcsPassword b) s = .next (s.withDev ((passwordGiven b.val s.nv c s.dev).handed b.val c)) :=
  next_onDev (Dev.mbxCommit_eq h (by decide) _)

theorem lcsPassword_refused (h : s.atCommit b.val 0x0612 c) {code : Nat}
    (hf : passwordGiven b.val s.nv c s.dev = { dev := s.dev, code := code }) :
    ∃ t, exec (.lcsPassword b) s = .next t ∧ s.answersOnly t b.val c code [] :=
  ⟨_, rfl, State.answersOnly_refused h (by decide) hf⟩

section
variable (h : s.atCommit b.val 0x0612 c) (hl : c.len = 8) (hs : s.nv.lifecycle = 3) (hk : s.dev.lockout = false)
  (hn : ¬ s.dev.passwordSoon)
include h hl hs hk hn

theorem lcsPassword_right (hr : s.nv.owner.map (·.1) = some (Config.sha256 (bytesOfWords (c.req.take 8)))) :
    ∃ t, exec (.lcsPassword b) s = .next t ∧ s.finished t b.val c codeOK [t.dev.lstateWord (mbxHalf b.val)] ∧
      t.dev.lcs = { s.dev.lcs with session := true, pwdAt := some s.dev.now } ∧
      (∀ e : Half, t.dev.gb (lcsPg e) Reg.LCS.LSTATE_SESSION = true ∧
        t.dev.evt (lcsPg e) 0 = (s.dev.evt (lcsPg e) 0).occur) ∧ s.keepsRest t := by
  have hf := (passwordGiven_tried (b := b.val) hl hs hk hn).trans (if_pos hr)
  refine ⟨_, exec_lcsPassword h, ?_⟩
  rw [hf, State.withDev_dev, FwResult.handed_lstateWord, FwResult.handed_lcs]
  refine ⟨State.finished_handed b.val c (sessionOpened_mbx _), sessionOpened_lcs _, fun e => ?_, rfl, rfl⟩
  rw [FwResult.handed_gb, FwResult.handed_evt]
  exact ⟨Dev.sessionShown_session _ _ e, Dev.sessionShown_evt _ _ e⟩

theorem lcsPassword_wrong (hr : ¬ s.nv.owner.map (·.1) = some (Config.sha256 (bytesOfWords (c.req.take 8)))) :
    ∃ t, exec (.lcsPassword b) s = .next t ∧ s.finished t b.val c codeBadArg [] ∧
      t.dev.lcs = { s.dev.lcs with pwdAt := some s.dev.now } ∧
      (∀ e : Half, t.dev.g (lcsPg e) Reg.LCS.LSTATE_FAILS = min 15 (s.dev.g (lcsPg e) Reg.LCS.LSTATE_FAILS + 1) ∧
        t.dev.evt (lcsPg e) 1 = (s.dev.evt (lcsPg e) 1).occur) ∧ s.keepsRest t := by
  have hf := (passwordGiven_tried (b := b.val) hl hs hk hn).trans (if_neg hr)
  refine ⟨_, exec_lcsPassword h, ?_⟩
  rw [hf, State.withDev_dev, FwResult.handed_lcs]
  refine ⟨State.finished_handed b.val c s.dev.attempted.authFail_mbx, s.dev.attempted.authFail_lcs, fun e => ?_, rfl, rfl⟩
  rw [FwResult.handed_g, FwResult.handed_evt]
  exact ⟨s.dev.attempted.authFail_fails e, s.dev.attempted.authFail_evt e⟩

end

theorem lcsChallenge_issued (h : s.atCommit b.val 0x0610 c) :
    let purpose := (c.req[0]?.getD 0).toNat % 16
    let bytes := s.dev.challenge purpose s.nv.lifecycle s.nv.boots (s.dev.lcs.cseq + 1)
    let code := if c.len ≠ 1 then codeBadLen else if s.dev.lockout = true then codeBusy
      else if purposeOk purpose s.nv.lifecycle = false then codeBadArg else codeOK
    code = codeOK → ∃ t, exec (.lcsChallenge b) s = .next t ∧ s.finished t b.val c codeOK (wordsOfBytes bytes) ∧
      t.dev.lcs = { s.dev.lcs with chal := some (bytes, purpose, s.dev.now), cseq := s.dev.lcs.cseq + 1 } ∧
      (∀ e : Half, t.dev.gb (lcsPg e) Reg.LCS.LSTATE_CHAL_OUT = true) ∧ s.dev.sameEvents t.dev [] ∧ s.keepsRest t := by
  intro purpose bytes code hc
  have hx : exec (.lcsChallenge b) s = .next (s.withDev ((challengeIssued s.nv c s.dev).handed b.val c)) :=
    next_onDev (Dev.mbxCommit_eq h (by decide) _)
  have hf := (challengeIssued_eq (d := s.dev) (nv := s.nv) (c := c)).trans (if_pos hc)
  refine ⟨_, hx, ?_⟩
  rw [hf, State.withDev_dev, FwResult.handed_lcs]
  refine ⟨State.finished_handed b.val c (Dev.challengeShown_mbx _ _), Dev.challengeShown_lcs _ _, fun e => ?_,
    fun pg k _ => ?_, rfl, rfl⟩
  · rw [FwResult.handed_gb]
    exact Dev.challengeShown_out _ _ e
  · rw [FwResult.handed_evt]
    exact Dev.challengeShown_evt _ _ _ _

theorem lcsClose_open (h : s.atCommit b.val 0x0613 c) (hl : c.len = 0) (hs : s.dev.lcs.session = true) :
    ∃ t, exec (.lcsClose b) s = .next t ∧ s.finished t b.val c codeOK [] ∧
      t.dev.lcs = { s.dev.lcs with session := false } ∧
      (∀ e : Half, t.dev.gb (lcsPg e) Reg.LCS.LSTATE_SESSION = false ∧
        t.dev.evt (lcsPg e) 0 = (s.dev.evt (lcsPg e) 0).occur) ∧ s.keepsRest t := by
  have hx : exec (.lcsClose b) s = .next (s.withDev ((sessionEnded c s.dev).handed b.val c)) :=
    next_onDev (Dev.mbxCommit_eq h (by decide) _)
  have hf : sessionEnded c s.dev =
      { dev := ({ s.dev with lcs := { s.dev.lcs with session := false } } : Dev).sessionShown false, code := codeOK } := by
    rw [sessionEnded, if_neg (not_not.2 hl), sessionClosed_eq hs]
  refine ⟨_, hx, ?_⟩
  rw [hf, State.withDev_dev, FwResult.handed_lcs]
  refine ⟨State.finished_handed b.val c (Dev.sessionShown_mbx _ _), Dev.sessionShown_lcs _ _, fun e => ?_, rfl, rfl⟩
  rw [FwResult.handed_gb, FwResult.handed_evt]
  exact ⟨Dev.sessionShown_session _ _ e, Dev.sessionShown_evt _ _ e⟩

theorem lcsClose_closed (hl : c.len = 0) (hs : s.dev.lcs.session = false) :
    sessionEnded c s.dev = { dev := s.dev, code := codeOK } := by
  rw [sessionEnded, if_neg (not_not.2 hl), sessionClosed, hs]
  rfl

/-! ### LCS_RESPOND -/

theorem exec_lcsRespond (h : s.atCommit b.val 0x0611 c) : exec (.lcsRespond b) s =
    let t := s.settled ((responded b.val s.nv c s.dev).handed b.val c)
    .next (if acceptedPurpose b.val s.dev s.nv = some 3 then { t with nv := respondNV b.val s.dev t.nv } else t) := by
  show Host.Outcome.next (s.responseCommitted b.val) = _
  unfold State.responseCommitted
  rw [Dev.mbxCommit_eq h (by decide)]

theorem acceptedPurpose_eq (h : s.atCommit b.val 0x0611 c) (nv : NV) :
    acceptedPurpose b.val s.dev nv = if c.len ≠ 17 ∨ s.dev.lockout = true then none else s.dev.responseOk nv c := by
  rw [acceptedPurpose, Dev.firstCmd_eq h]
  simp only [Bool.or_eq_true, decide_eq_true_eq]

/-- What is accepted does not hang on the journal's keys and intents, which a zeroisation changes. -/
theorem acceptedPurpose_settled (h : s.atCommit b.val 0x0611 c) (d : Dev) :
    acceptedPurpose b.val s.dev (s.settled d).nv = acceptedPurpose b.val s.dev s.nv := by
  rw [acceptedPurpose_eq h, acceptedPurpose_eq h]
  show (if _ then none else s.dev.responseOk (s.nv.tombstoned _) c) = _
  simp only [Dev.responseOk, NV.tombstoned_lifecycle, NV.tombstoned_owner]

theorem lcsRespond_refused (h : s.atCommit b.val 0x0611 c) (hn : c.len ≠ 17 ∨ s.dev.lockout = true) {code : Nat}
    (hf : responded b.val s.nv c s.dev = { dev := s.dev, code := code }) :
    ∃ t, exec (.lcsRespond b) s = .next t ∧ s.answersOnly t b.val c code [] := by
  have ha : acceptedPurpose b.val s.dev s.nv ≠ some 3 := by
    rw [acceptedPurpose_eq h s.nv, if_pos hn]
    exact nofun
  refine ⟨_, exec_lcsRespond_unaccepted ha ?_, State.answersOnly_refused h (by decide) hf⟩
  rw [Dev.mbxCommit_eq h (by decide), hf]
  rfl

theorem lcsRespond_failed (h : s.atCommit b.val 0x0611 c) (hl : c.len = 17) (hk : s.dev.lockout = false)
    (hr : s.dev.responseOk s.nv c = none) :
    ∃ t, exec (.lcsRespond b) s = .next t ∧ t.dev.lcs.chal = none ∧ t.pending = s.pending ∧
      s.finished t b.val c codeBadArg [] ∧ t.nv = s.nv ∧ t.dev.lcs.session = s.dev.lcs.session ∧
      ∀ e : Half, t.dev.g (lcsPg e) Reg.LCS.LSTATE_FAILS = min 15 (s.dev.g (lcsPg e) Reg.LCS.LSTATE_FAILS + 1) ∧
        t.dev.evt (lcsPg e) 1 = (s.dev.evt (lcsPg e) 1).occur := by
  have ha : acceptedPurpose b.val s.dev s.nv ≠ some 3 := by
    rw [acceptedPurpose_eq h s.nv, hr, ite_self]
    exact nofun
  have hf := responded_failed (b := b.val) hl hk hr
  have hm : (challengeVoid s.dev.authFail).mbx = s.dev.mbx := by rw [challengeVoid_mbx, Dev.authFail_mbx]
  have hc : (challengeVoid s.dev.authFail).cads = s.dev.cads := by rw [challengeVoid_cads, Dev.authFail_cads]
  have hfin := State.finished_handed (s := s) (r := { dev := challengeVoid s.dev.authFail, code := codeBadArg }) b.val c hm
  refine ⟨_, exec_lcsRespond h, ?_⟩
  rw [if_neg ha, hf, State.settled_dev, FwResult.handed_lcs, challengeVoid_lcs, Dev.authFail_lcs]
  refine ⟨rfl, rfl, hfin, State.settled_nv s _ ((FwResult.handed_cads _ _ _).trans hc), rfl, fun e => ?_⟩
  rw [FwResult.handed_g, FwResult.handed_evt, challengeVoid_fails, challengeVoid_evt]
  exact ⟨s.dev.authFail_fails e, s.dev.authFail_evt e⟩

/-- An accepted response: what it does whatever its PURPOSE, and what each PURPOSE does. -/
theorem lcsRespond_accepted (h : s.atCommit b.val 0x0611 c) (hl : c.len = 17) (hk : s.dev.lockout = false) {p : Nat}
    (hr : s.dev.responseOk s.nv c = some p) :
    ∃ t, exec (.lcsRespond b) s = .next t ∧ t.dev.lcs.chal = none ∧ t.pending = s.pending ∧
      s.finished t b.val c codeOK [t.dev.lstateWord (mbxHalf b.val)] ∧
      (p = 1 → t.dev.lcs.session = true ∧ t.nv = s.nv) ∧
      (p = 2 → t.nv = s.nv ∧ ∀ e : Half, t.dev.gb (cadPg e) Reg.CAD.CSTAT_TAMPER_LOCK = false) ∧
      (p = 3 → t.nv.lifecycle = 4 ∧ ∀ e : Half, t.dev.evt (lcsPg e) 2 = (s.dev.evt (lcsPg e) 2).occur ∧
        ((s.dev.cad e).zero = none → ∀ k < 256, (t.dev.slot e k).valid = false)) := by
  have ha : acceptedPurpose b.val s.dev s.nv = some p := by
    rw [acceptedPurpose_eq h s.nv, hr, if_neg]
    simp [hl, hk]
  obtain ⟨hvoid, hmbx⟩ := respondedTo_void s.dev s.nv p
  have hf := responded_accepted (b := b.val) hl hk hr
  have hfin := State.finished_handed (s := s) (r := responded b.val s.nv c s.dev) b.val c (by rw [hf]; exact hmbx)
  refine ⟨_, exec_lcsRespond h, ?_⟩
  rw [hf, ha]
  rw [hf] at hfin
  by_cases h3 : p = 3
  · subst h3
    rw [if_pos rfl]
    refine ⟨hvoid, rfl, hfin, nofun, nofun, fun _ => ⟨?_, fun e => ⟨?_, fun hz k hk => ?_⟩⟩⟩
    · show (respondNV b.val s.dev _).lifecycle = 4
      unfold respondNV
      rw [acceptedPurpose_settled h, ha, if_pos rfl]
    · rw [State.settled_dev, FwResult.handed_evt, respondedTo_rma _ _ (by decide) (by decide), rmaEntered_evt,
        challengeVoid_evt]
    · have hc : (rmaEntered s.nv (challengeVoid s.dev)).cad e = (zeroAsked 0 255 true (challengeVoid s.dev)).cad e :=
        Dev.cad_congr (rmaEntered_cads s.nv (challengeVoid s.dev)) e
      show (tget {} ((rmaEntered s.nv (challengeVoid s.dev)).cad e).slots k).valid = false
      rw [hc]
      exact ((zeroAsked_cad (by decide) true (challengeVoid s.dev) e).1 hz).2 k (mem_zeroRange_all hk true)
  · rw [if_neg fun hp => h3 (Option.some.inj hp)]
    refine ⟨hvoid, rfl, hfin, fun h1 => ?_, fun h2 => ?_, fun h3' => absurd h3' h3⟩
    · refine ⟨?_, State.settled_nv s _ ((FwResult.handed_cads _ _ _).trans (respondedTo_cads _ _ (.inl h1)))⟩
      rw [State.settled_dev, FwResult.handed_lcs, h1, respondedTo_session, sessionOpened_lcs]
    · refine ⟨State.settled_nv s _ ((FwResult.handed_cads _ _ _).trans (respondedTo_cads _ _ (.inr h2))), fun e => ?_⟩
      rw [State.settled_dev, FwResult.handed_gb, h2, respondedTo_tamper]
      exact tamperCleared_lock _ e

/-! ### CHALLENGE_EXPIRE -/

/-- A challenge was issued 60 s ago or more. -/
def Dev.challengeOld (d : Dev) : Prop := ∃ x p at_, d.lcs.chal = some (x, p, at_) ∧ at_ + 60 * ticks1s ≤ d.now

theorem challengeExpired_young {d : Dev} (h : ¬ d.challengeOld) : challengeExpired d = d := by
  unfold challengeExpired
  cases hc : d.lcs.chal with
  | none => rfl
  | some v =>
    obtain ⟨x, p, t⟩ := v
    exact if_pos (by_contra fun hn => h ⟨x, p, t, hc, Nat.le_of_not_lt hn⟩)

theorem challengeExpired_old {d : Dev} (h : d.challengeOld) : challengeExpired d = challengeVoid d := by
  obtain ⟨x, p, t, hc, ht⟩ := h
  unfold challengeExpired
  rw [hc]
  exact if_neg (Nat.not_lt.2 ht)

theorem challengeExpire_old (h : s.dev.challengeOld) :
    ∃ t, exec .challengeExpire s = .next t ∧ t.dev.lcs = { s.dev.lcs with chal := none } ∧
      (∀ e : Half, t.dev.gb (lcsPg e) Reg.LCS.LSTATE_CHAL_OUT = false) ∧
      s.onlyTouches { t with dev := { t.dev with lcs := s.dev.lcs } } [lcsPg .warp + 0x100, lcsPg .weft + 0x100] [] := by
  refine ⟨s.withDev (challengeVoid s.dev), ?_, rfl, fun e => Dev.challengeShown_out _ _ e, ?_⟩
  · exact next_onDev (challengeExpired_old h)
  · exact ⟨s.dev.challengeShown_sameWords false, fun _ _ _ => rfl, ⟨rfl, fun _ => rfl⟩, rfl, rfl⟩

end

/-! ### The test access port -/

section
variable {s : State} (ht : s.dev.tapOn = true)
include ht

/-- An instruction that takes the pins, outside SCRAP. -/
theorem pinsTaken_takes {op : Nat} (hs : s.nv.scrap = false) (hop : op ∈ [0, 2, 4, 5, 8, 9]) :
    ∃ t, Host.Outcome.next (s.onDev fun d => pinsTaken s.nv op d) = (.next t : Out) ∧
      t.dev.tap.ir = op ∧ t.dev.tap.dr = s.dev.tap.cells ∧
      (∀ e : Half, t.dev.gb (fltPg e) Reg.FLT.FSTAT_FATAL = true ∧ (t.dev.hs e).safePend = some true) ∧
      t.dev.tbs = s.dev.tbs ∧ s.keepsRest t := by
  obtain ⟨r, hr, hd⟩ := pinsTaken_decoded ht (tapDecode_public hs s.dev.lcs.session hop)
  obtain ⟨htbs, hfatal⟩ := s.dev.fault_c3 hr
  refine ⟨_, rfl, ?_⟩
  rw [State.onDev_dev, hd]
  exact ⟨rfl, rfl, hfatal, htbs, rfl, rfl⟩

theorem pinsTaken_scrap {op : Nat} (hs : s.nv.scrap = true) (hop : op ∈ [0, 4, 5, 8, 9]) :
    (Host.Outcome.next (s.onDev fun d => pinsTaken s.nv op d) : Out) = .next (s.withDev (s.dev.tapHolds tapBypass 0)) := by
  have h1 : op ≠ 1 := by rintro rfl; simp at hop
  have hb : tapBypass ≠ op := by rintro rfl; simp [tapBypass] at hop
  refine next_onDev (pinsTaken_bypassed ht ?_)
  rwa [tapDecode_scrap hs _ h1]

theorem privateTest_loads (op : Fin 64) (dr : Nat) :
    (testOpOpen s.nv s.dev.lcs.session op.val →
      exec (.privateTest op dr) s = .next (s.withDev (s.dev.tapHolds (0x40 + op.val) dr))) ∧
    (¬ testOpOpen s.nv s.dev.lcs.session op.val →
      exec (.privateTest op dr) s = .next (s.withDev (s.dev.tapHolds tapBypass 0))) := by
  have hd := tapDecode_testOp s.nv s.dev.lcs.session op
  refine ⟨fun ho => ?_, fun ho => ?_⟩
  · have hb : 0x40 + op.val ≠ tapBypass := by unfold tapBypass; omega
    exact next_onDev (tapLoaded_decoded dr ht (hd.2 ho) hb)
  · exact next_onDev (tapLoaded_bypassed dr ht (mt hd.1 ho))

end

/-! ### The obligation -/

/-- Settles O56, a part at a time: lifecycle commands through `lcsCode`'s cases, a SCRAP or an RMA through the zeroisation it
asks for (`zeroAsked_cad`), SCRAP's safe state through `safeOnCommand_safe`, and the test port through `tapDecode`. -/
theorem lifecycleSessionsAndTestPort : Obligations.LifecycleSessionsAndTestPort := by
  refine ⟨fun b s => ?none, fun b c s h => ⟨lcsOwnSet_done h, lcsOwnSet_refused h⟩,
    fun b c s h => ⟨fun ok => lcsField_done h ok.1 ok.2.1 ok.2.2, lcsField_refused h⟩,
    fun b c s h => ⟨fun ok => lcsScrap_done h ok.1 ok.2.1 ok.2.2, lcsScrap_refused h⟩, fun b c s h => ?password,
    fun b c s h => ?challenge, fun b c s h => ?respond, fun b c s h => ?close,
    fun s => ⟨fun hn => ?young, challengeExpire_old⟩, fun s ht => ?off, fun s ht hs => ?pins, fun s ht => ?loads⟩
  case none =>
    exact ⟨exec_lcsOwnSet_none, exec_lcsField_none, exec_lcsScrap_none,
      fun h => congrArg Host.Outcome.next (State.onDev_mbxCommit_none h _),
      fun h => congrArg Host.Outcome.next (State.onDev_mbxCommit_none h _), exec_lcsRespond_none,
      fun h => congrArg Host.Outcome.next (State.onDev_mbxCommit_none h _)⟩
  case password =>
    exact ⟨fun hl => lcsPassword_refused h (passwordGiven_badLen hl),
      fun hl hs => lcsPassword_refused h (passwordGiven_notPermitted hl hs),
      fun hl hs hb => lcsPassword_refused h (passwordGiven_busy hl hs hb),
      fun hl hs hk hn => ⟨lcsPassword_right h hl hs hk hn, lcsPassword_wrong h hl hs hk hn⟩⟩
  case challenge =>
    exact ⟨fun hc => ⟨_, rfl, State.answersOnly_refused h (by decide) (challengeIssued_eq.trans (if_neg hc))⟩,
      lcsChallenge_issued h⟩
  case respond =>
    refine ⟨fun hl => lcsRespond_refused h (.inl hl) (responded_badLen hl),
      fun hl hk => lcsRespond_refused h (.inr hk) (responded_busy hl hk), fun hl hk => ?_⟩
    cases hr : s.dev.responseOk s.nv c with
    | none => exact lcsRespond_failed h hl hk hr
    | some p => exact lcsRespond_accepted h hl hk hr
  case close =>
    exact ⟨fun hl => ⟨_, rfl, State.answersOnly_refused h (by decide) (if_pos hl)⟩,
      fun hl hs => ⟨_, rfl, State.answersOnly_refused h (by decide) (lcsClose_closed hl hs)⟩, lcsClose_open h⟩
  case young => exact next_onDev (challengeExpired_young hn)
  case off =>
    have pins : ∀ op, (Host.Outcome.next (s.onDev fun d => pinsTaken s.nv op d) : Out) = .next s := fun op =>
      next_onDev (pinsTaken_off ht)
    have load : ∀ op dr, (Host.Outcome.next (s.onDev fun d => tapLoaded s.nv op dr d) : Out) = .next s := fun op dr =>
      next_onDev (tapLoaded_off dr ht)
    exact ⟨pins 0, pins 4, pins 5, pins 8, pins 9, load 1 _, load 0xFF 0,
      next_onDev (if_neg (ne_true_of_eq_false ht)), fun p q => next_onDev (tapSampled_off p q ht), fun op dr => load _ dr⟩
  case pins =>
    exact ⟨pinsTaken_takes ht hs (by decide), pinsTaken_takes ht hs (by decide), pinsTaken_takes ht hs (by decide),
      pinsTaken_takes ht hs (by decide), pinsTaken_takes ht hs (by decide),
      fun p q => next_onDev (tapSampled_decoded p q ht (tapDecode_public hs s.dev.lcs.session (by decide)))⟩
  case loads =>
    refine ⟨fun hs => ⟨pinsTaken_scrap ht hs (by decide), pinsTaken_scrap ht hs (by decide),
      pinsTaken_scrap ht hs (by decide), pinsTaken_scrap ht hs (by decide), pinsTaken_scrap ht hs (by decide),
      fun p q => ?_⟩, ?_, ?_, ?_, privateTest_loads ht⟩
    · refine next_onDev (tapSampled_bypassed p q ht ?_)
      rw [tapDecode_scrap hs _ (by decide)]
      decide
    · exact next_onDev (tapLoaded_decoded _ ht (tapDecode_idcode _ _) (by decide))
    · exact next_onDev (tapLoaded_bypass 0 ht)
    · exact next_onDev (if_pos ht)

end Sys2Proof.Machine
end

section
/-! PROOF. O60 does not hold: a PCIe reset (R507, R534) can take more out of a gate than its host frames. A host frame that is
discarded takes the frames that follow its identity with it, as a dropped event message takes its follow-up (R320, R335). The
identities come from counts that the state holds (`Dev.newId`), and the claim supposes nowhere that they differ. -/

namespace Sys2Proof.Machine

theorem exec_pcieReset (s : State) : exec .pcieReset s = .next (s.onDev pcieReset) := rfl

/-- A frame of mode REPORT (R324). -/
def reportFrame : GFrame :=
  { id := 8, port := 0, src := .hostReport 5, t := 4096, mean := 0, body := .raw [] none false, fixes := [], gen := 0 }

/-- The follow-up of a two-step event message of the same identity (R335, R357): a frame of the responder. -/
def followUpFrame : GFrame :=
  { id := 10, port := 0, src := .reply false, t := 6144, mean := 0, body := .raw [] none false, fixes := [], gen := 0
    after := some reportFrame.id, ev := some 4096 }

/-- Both frames are held at the gate of port 0, in a block that is otherwise as after reset. -/
def sharedIdentity : State := { dev := { gates := [(0, { held := [reportFrame, followUpFrame] })] } }

/-- A reset that discarded the host frames alone would leave the follow-up. -/
theorem sharedIdentity_notHost : ((sharedIdentity.dev.gate 0).held.filter fun g => !g.isHost) = [followUpFrame] := by decide

/-- The reset leaves neither frame: the follow-up goes with the REPORT frame. -/
theorem pcieReset_sharedIdentity : ((pcieReset sharedIdentity.dev).gate 0).held = [] := by decide

/-- Refutes O60: its clause of PCIE_RESET says that a gate keeps every frame but the host's, and in `sharedIdentity` the gate of
port 0 loses a follow-up of the responder. -/
theorem not_gatheringHostDmaStartsAndResets : ¬ Obligations.GatheringHostDmaStartsAndResets := by
  unfold Obligations.GatheringHostDmaStartsAndResets
  rintro ⟨-, -, -, -, -, -, -, -, -, -, -, pcie, -⟩
  obtain ⟨t, ht, -, -, -, -, held, -⟩ := pcie sharedIdentity
  obtain rfl := exec_next_inj ht (exec_pcieReset sharedIdentity)
  have kept : ((pcieReset sharedIdentity.dev).gate 0).held = [followUpFrame] :=
    (held 0 (by decide)).trans sharedIdentity_notHost
  rw [pcieReset_sharedIdentity] at kept
  cases kept

end Sys2Proof.Machine
end

section
/-! SUPPORT. What a command makes of the journal and the fuses, said once for every command. -/

namespace Sys2Proof.Machine

/-- The journal and the fuses as a command leaves them: the commands of `Settle` name what they write, every other command
leaves them as they were. -/
def nvAfter : Instr → State → NV
  | .registerWrite m a sp ws, s => (s.settled (s.dev.writeSpan s.nv m a.toNat sp ws)).nv
  | .spiWriteFrame f, s => (s.settled (s.dev.spiFrame s.nv f 0)).nv
  | .zeroise m h v, s => (s.settled (s.dev.writeAt m (cadPg h + 0x180) (zeroWritten v.toNat))).nv
  | .zeroDone bad, s => (s.settled (keysAwaited (zeroDone bad s.dev))).nv
  | .purgeDone, s => s.purged.nv
  | .keyLoad b w, s => (s.keyCommitted b.val w).nv
  | .leapActivate, s => (s.leapSaved (if s.dev.leapDue then leapBoundary s.dev else s.dev)).nv
  | .leapFoldApply, s => (s.leapSaved (leapFoldDecided s.dev)).nv
  | .modelSave w, s => (s.modelKept w).nv
  | .gnssSolution i, s => (s.surveySaved (solved s.nv.floor i s.dev)).nv
  | .dateFloorRecord, s => s.floorRaised.nv
  | .kettleSleep b w k, s => (s.sleepCommitted b.val w k).nv
  | .flashEraseDone block verified, s => flashErasedNV block verified s.nv
  | .bstDone seen, s => (s.testEnded seen).nv
  | .startRestore which ok image, s => (s.startCommitted which ok image).nv
  | .lcsOwnSet b, s => ownSetNV b.val s.dev s.nv
  | .lcsField b, s => fieldNV b.val s.dev s.nv
  | .lcsScrap b, s => (s.scrapCommitted b.val).nv
  | .lcsRespond b, s => (s.responseCommitted b.val).nv
  | _, s => s.nv

/-- Two states whose queues agree are one, once device and journal are put in. -/
theorem State.eq_of_pending {s t : State} (h : t.pending = s.pending) : t = { s with dev := t.dev, nv := t.nv } := by
  cases t; cases h; rfl

theorem State.purged_pending (s : State) : s.purged.pending = s.pending := by
  unfold State.purged
  split <;> rfl

theorem State.keyCommitted_pending (s : State) (b : Nat) (w : FlashEnd) : (s.keyCommitted b w).pending = s.pending := by
  unfold State.keyCommitted
  dsimp only
  split <;> rfl

theorem State.leapSaved_pending (s : State) (d : Dev) : (s.leapSaved d).pending = s.pending := by
  unfold State.leapSaved
  split <;> rfl

theorem State.surveySaved_pending (s : State) (d : Dev) : (s.surveySaved d).pending = s.pending := by
  unfold State.surveySaved
  split <;> rfl

theorem State.floorRaised_pending (s : State) : s.floorRaised.pending = s.pending := by
  unfold State.floorRaised
  split <;> rfl

theorem State.modelKept_pending (s : State) (w : FlashEnd) : (s.modelKept w).pending = s.pending := by
  unfold State.modelKept
  split <;> rfl

theorem State.scrapCommitted_pending (s : State) (b : Nat) : (s.scrapCommitted b).pending = s.pending := by
  unfold State.scrapCommitted
  dsimp only
  split <;> rfl

theorem State.responseCommitted_pending (s : State) (b : Nat) : (s.responseCommitted b).pending = s.pending := by
  unfold State.responseCommitted
  dsimp only
  split <;> rfl

/-- Every command answers a next state: a device, the journal of `nvAfter`, and the queue as it was. -/
theorem exec_answers (c : Instr) (s : State) : ∃ d, exec c s = .next { s with dev := d, nv := nvAfter c s } := by
  have named {t : State} (ht : t.pending = s.pending) : ∃ d, (Host.Outcome.next t : Out) = .next { s with dev := d, nv := t.nv } :=
    ⟨t.dev, congrArg Host.Outcome.next (State.eq_of_pending ht)⟩
  cases c
  case purgeDone => exact named s.purged_pending
  case keyLoad b w => exact named (s.keyCommitted_pending b.val w)
  case leapActivate => exact named (s.leapSaved_pending _)
  case leapFoldApply => exact named (s.leapSaved_pending _)
  case modelSave w => exact named (s.modelKept_pending w)
  case gnssSolution i => exact named (s.surveySaved_pending _)
  case dateFloorRecord => exact named s.floorRaised_pending
  case lcsScrap b => exact named (s.scrapCommitted_pending b.val)
  case lcsRespond b => exact named (s.responseCommitted_pending b.val)
  all_goals exact ⟨_, rfl⟩

end Sys2Proof.Machine
end

section
/-! PROOF. The queue, reset, and the commands that may touch the journal: O1, O2, O3, O4, O7 and O8. -/

namespace Sys2Proof.Machine

/-- Settles O1: the step takes the front command off the queue before its effect. -/
theorem stepTakesFrontCommand : Obligations.StepTakesFrontCommand := fun _ _ _ => rfl

theorem step_tick {s : State} (h : s.pending = []) : step s = .next (s.onDev ticked) := by
  unfold step
  rw [h]

theorem step_command {s : State} {c : Instr} {q : List Instr} (h : s.pending = c :: q) :
    step s = exec c (s.withPending q) := by
  unfold step
  rw [h]

/-- Settles O2: a tick acts on the powered state alone, and its last act is to count itself. -/
theorem emptyQueueTicks : Obligations.EmptyQueueTicks :=
  fun _ h => ⟨_, step_tick h, h, rfl, rfl⟩

/-- The offsets of two registers of the common header lie in the page they are added to. -/
theorem pageOff_add {pg : Nat} (h : pageOff pg = 0) {o : Nat} (ho : o < 0x1000) : pageOff (pg + o) = o := by
  unfold pageOff at *
  omega

theorem resetWord_ctrl {pg : Nat} (h : pageOff pg = 0) : resetWord (pg + 8) = 1#32 := by
  simp [resetWord, resetNat, pageOff_add h]

theorem resetWord_evtMask {pg : Nat} (h : pageOff pg = 0) : resetWord (pg + 0x1C) = 0xFFFFFFFF#32 := by
  simp [resetWord, resetNat, pageOff_add h]

/-- Settles O3: the register file lists nothing, so every word reads its reset value. -/
theorem resetLeavesBlockEnabledAndQuiet : Obligations.ResetLeavesBlockEnabledAndQuiet := by
  refine ⟨rfl, rfl, fun pg _ hpg => ⟨?_, ?_, fun _ => rfl⟩, by decide, rfl⟩
  · show bitAt (resetWord (pg + 8)).toNat 0 = true
    rw [resetWord_ctrl hpg]
    decide
  · show (resetWord (pg + 0x1C)).toNat = 0xFFFFFFFF
    rw [resetWord_evtMask hpg]
    decide

/-- Settles O7: the lifecycle is OWNED, and neither key records nor intents are listed. -/
theorem resetJournalIsSound : Obligations.ResetJournalIsSound := ⟨by decide, fun _ h => nomatch h⟩

/-- Settles O4 through `exec_answers`. -/
theorem everyCommandAnswersAndKeepsQueue : Obligations.EveryCommandAnswersAndKeepsQueue := by
  intro c s
  obtain ⟨d, hd⟩ := exec_answers c s
  exact ⟨_, hd, rfl⟩

/-- The journal after a command is that of `nvAfter`. -/
theorem nv_of_exec {c : Instr} {s t : State} (h : exec c s = .next t) : t.nv = nvAfter c s := by
  obtain ⟨d, hd⟩ := exec_answers c s
  rw [exec_next_inj h hd]

/-- Settles O8: `nvAfter` names something of its own for the commands listed, and the journal as it was for the others. -/
theorem onlyNamedCommandsTouchJournal : Obligations.OnlyNamedCommandsTouchJournal := by
  intro c s t h
  rw [nv_of_exec h]
  cases c
  all_goals simp only [nvAfter, true_or, or_true]

end Sys2Proof.Machine
end

section
/-! SUPPORT. What every write of the journal and the fuses keeps: it takes nothing back (R261, R449, R473, R505), and leaves no
key record beside an intent to erase it (R385, R510). -/

namespace Sys2Proof.Machine

/-- What both invariants ask of a change of the journal and the fuses. -/
structure NV.goesOn (a b : NV) : Prop where
  forward : a.lifecycle ≤ 5 → b.lifecycle ≤ 5 ∧ a.forward b
  noGhost : a.noGhost → b.noGhost

theorem NV.goesOn.refl (a : NV) : a.goesOn a :=
  ⟨fun h => ⟨h, le_rfl, le_rfl, le_rfl, fun _ hx => hx, rfl⟩, id⟩

theorem NV.goesOn.trans {a b c : NV} (h₁ : a.goesOn b) (h₂ : b.goesOn c) : a.goesOn c := by
  refine ⟨fun ha => ?_, h₂.noGhost ∘ h₁.noGhost⟩
  obtain ⟨hb, l₁, f₁, b₁, r₁, v₁⟩ := h₁.forward ha
  obtain ⟨hc, l₂, f₂, b₂, r₂, v₂⟩ := h₂.forward hb
  exact ⟨hc, l₁.trans l₂, f₁.trans f₂, b₁.trans b₂, fun x hx => r₂ x (r₁ x hx), v₂.trans v₁⟩

/-- A journal write goes on where its effect does: it is lost whole once the flash has failed (R16). -/
theorem NV.goesOn_journal {nv : NV} {f : NV → NV} (h : nv.goesOn (f nv)) : nv.goesOn (nv.journal f) := by
  unfold NV.journal
  split
  · exact .refl nv
  · exact h

/-- A write that touches none of what the invariants speak of. -/
theorem NV.goesOn.of_same {a b : NV} (hl : b.lifecycle = a.lifecycle) (hf : b.floor = a.floor) (hb : b.boots = a.boots)
    (hr : b.retired = a.retired) (hv : b.variantN = a.variantN) (hk : b.keys = a.keys) (hi : b.intents = a.intents) :
    a.goesOn b := by
  refine ⟨fun h => ⟨hl ▸ h, hl.ge, hf.ge, hb.ge, fun x hx => hr ▸ hx, hv⟩, fun h => ?_⟩
  unfold NV.noGhost at *
  rwa [hk, hi]

/-- A write of key records and intents alone, whose records belong to no slot that its intents name. -/
theorem NV.goesOn_keys {nv : NV} {ks : Tab (List Byte × List Byte)} {is : List Nat}
    (h : nv.noGhost → ∀ e ∈ ks, e.1 ∉ is) : nv.goesOn { nv with keys := ks, intents := is } :=
  ⟨(NV.goesOn.refl nv).forward, h⟩

/-- Slots to be zeroised lose their records as their intents are written (R510). -/
theorem NV.tombstoned_goesOn (nv : NV) (ks : List Nat) : nv.goesOn (nv.tombstoned ks) := by
  refine NV.goesOn_journal (NV.goesOn_keys fun h e he => ?_)
  obtain ⟨hk, hks⟩ := List.mem_filter.1 he
  have hks : e.1 ∉ ks := by simpa using hks
  simp only [List.mem_append, not_or]
  exact ⟨h e hk, fun hf => hks (List.mem_filter.1 hf).1⟩

theorem State.settled_goesOn (s : State) (d : Dev) : s.nv.goesOn (s.settled d).nv := s.nv.tombstoned_goesOn _

/-- Fewer intents name no more records. -/
theorem State.purged_goesOn (s : State) : s.nv.goesOn s.purged.nv := by
  unfold State.purged
  split
  · exact .refl _
  · exact NV.goesOn_keys fun h e he hi => h e he (List.mem_filter.1 hi).1

/-- A record put into the journal takes the intents of its slot out (R385). -/
theorem State.keyCommitted_goesOn (s : State) (b : Nat) (w : FlashEnd) : s.nv.goesOn (s.keyCommitted b w).nv := by
  unfold State.keyCommitted
  dsimp only
  split
  · exact .refl _
  next r _ =>
    refine NV.goesOn_keys fun h e he hi => ?_
    obtain ⟨hi, hne⟩ := List.mem_filter.1 hi
    rcases (Tab.mem_insert _ _ _ _).1 he with rfl | he
    · simp at hne
    · exact h e (List.mem_filter.1 he).1 hi

theorem State.leapSaved_goesOn (s : State) (d : Dev) : s.nv.goesOn (s.leapSaved d).nv := by
  unfold State.leapSaved
  split
  · exact .refl _
  · dsimp only
    apply NV.goesOn_journal
    exact .of_same rfl rfl rfl rfl rfl rfl rfl

theorem State.surveySaved_goesOn (s : State) (d : Dev) : s.nv.goesOn (s.surveySaved d).nv := by
  unfold State.surveySaved
  split
  · dsimp only
    apply NV.goesOn_journal
    exact .of_same rfl rfl rfl rfl rfl rfl rfl
  · exact .refl _

theorem modelSaved_goesOn (w : FlashEnd) (d : Dev) (nv : NV) : nv.goesOn (modelSaved w d nv) := by
  unfold modelSaved
  split
  · exact .of_same rfl rfl rfl rfl rfl rfl rfl
  · exact .refl _

theorem State.modelKept_goesOn (s : State) (w : FlashEnd) : s.nv.goesOn (s.modelKept w).nv := by
  unfold State.modelKept
  split
  · exact modelSaved_goesOn w s.dev s.nv
  · exact .refl _

theorem State.sleepCommitted_goesOn (s : State) (b : Nat) (w : FlashEnd) (k : Int) :
    s.nv.goesOn (s.sleepCommitted b w k).nv := by
  show s.nv.goesOn (if s.dev.sleeps b then modelSaved w s.dev s.nv else s.nv)
  split
  · exact modelSaved_goesOn w s.dev s.nv
  · exact .refl _

/-- The date floor rises to a week or stays (R261). -/
theorem NV.floorTo_goesOn (nv : NV) (sec : Nat) : nv.goesOn (nv.floorTo sec) :=
  NV.goesOn_journal ⟨fun h => ⟨h, le_rfl, le_max_left _ _, le_rfl, fun _ hx => hx, rfl⟩, id⟩

theorem State.floorRaised_goesOn (s : State) : s.nv.goesOn s.floorRaised.nv := by
  unfold State.floorRaised
  split
  · exact s.nv.floorTo_goesOn _
  · exact .refl _

/-- An erase adds at most its own block to the retired ones (R449). -/
theorem flashErasedNV_goesOn (block : Nat) (verified : Bool) (nv : NV) : nv.goesOn (flashErasedNV block verified nv) := by
  refine ⟨fun h => ⟨h, le_rfl, le_rfl, le_rfl, fun x hx => ?_, rfl⟩, id⟩
  show x ∈ if nv.retires block verified then block :: nv.retired else nv.retired
  split
  · exact List.mem_cons_of_mem _ hx
  · exact hx

theorem State.testEnded_goesOn (s : State) (seen : BistSeen) : s.nv.goesOn (s.testEnded seen).nv := by
  unfold State.testEnded
  dsimp only
  apply NV.goesOn_journal
  exact .of_same rfl rfl rfl rfl rfl rfl rfl

/-- A start increments BOOTS or leaves it, and leaves no intent (R505, R510). -/
theorem startRestoredNV_goesOn (which : Pair Bool) (ok : Bool) (d : Dev) (nv : NV) :
    nv.goesOn (startRestoredNV which ok d nv) := by
  unfold startRestoredNV
  split
  · exact .refl _
  · refine NV.goesOn_journal ⟨fun h => ⟨h, le_rfl, le_rfl, ?_, fun _ hx => hx, rfl⟩, fun _ _ _ => List.not_mem_nil⟩
    show nv.boots ≤ if ok then nv.boots + 1 else nv.boots
    split <;> omega

theorem State.startCommitted_goesOn (s : State) (which : Pair Bool) (ok : Bool) (image : List (Nat × Nat)) :
    s.nv.goesOn (s.startCommitted which ok image).nv := by
  refine .trans (startRestoredNV_goesOn which ok s.dev s.nv) (.trans ?_ (State.settled_goesOn _ _))
  dsimp only
  split
  · exact NV.floorTo_goesOn _ _
  · exact .refl _

/-- A lifecycle state that is reached from one before it (R473). -/
theorem NV.goesOn_lifecycle {nv : NV} {l : Nat} (h5 : l ≤ 5) (h : nv.lifecycle ≤ 5 → nv.lifecycle ≤ l) :
    nv.goesOn { nv with lifecycle := l } :=
  ⟨fun hl => ⟨h5, h hl, le_rfl, le_rfl, fun _ hx => hx, rfl⟩, id⟩

theorem ownSetNV_goesOn (b : Nat) (d : Dev) (nv : NV) : nv.goesOn (ownSetNV b d nv) := by
  unfold ownSetNV
  split
  · exact .refl _
  · split
    · exact .of_same rfl rfl rfl rfl rfl rfl rfl
    · exact .refl _

/-- A lifecycle command that is answered with OK is permitted in the state. -/
theorem lcsCode_ok {d : Dev} {b len : Nat} {allowed : Bool} {confirm : Option Nat} {c : FwCmd}
    (h : lcsCode d b len allowed confirm c = codeOK) : allowed = true := by
  cases allowed
  · unfold lcsCode at h
    simp only [Bool.not_false, Bool.or_true, if_true] at h
    split at h <;> exact absurd h (by decide)
  · rfl

/-- LCS_FIELD leaves OWNED (R474). -/
theorem fieldNV_goesOn (b : Nat) (d : Dev) (nv : NV) : nv.goesOn (fieldNV b d nv) := by
  unfold fieldNV
  split
  · exact .refl _
  · split
    next h =>
      have hl : nv.lifecycle = 2 := by
        have := lcsCode_ok h
        simp only [NV.mayField, Bool.and_eq_true, beq_iff_eq] at this
        exact this.1
      exact NV.goesOn_lifecycle (by decide) fun _ => by omega
    · exact .refl _

theorem State.scrapCommitted_goesOn (s : State) (b : Nat) : s.nv.goesOn (s.scrapCommitted b).nv := by
  refine .trans (s.settled_goesOn (scrapEntered b s.nv s.dev)) ?_
  unfold State.scrapCommitted
  dsimp only
  split
  · exact NV.goesOn_lifecycle le_rfl id
  · exact .refl _

/-- A response is accepted only for a PURPOSE that the lifecycle state permits (R475). -/
theorem Dev.responseOk_permitted {d : Dev} {nv : NV} {c : FwCmd} {p : Nat} (h : d.responseOk nv c = some p) :
    purposeOk p nv.lifecycle = true := by
  unfold Dev.responseOk at h
  rcases hch : d.lcs.chal with _ | ⟨bytes, purpose, t⟩
  · simp [hch] at h
  · rw [hch] at h
    dsimp only at h
    generalize (if bitAt (c.req[0]?.getD 0).toNat 0 = true then some Config.vendorKey else nv.owner.map (·.2)) = key at h
    cases key with
    | none => cases h
    | some k =>
      obtain ⟨hc, hp⟩ := Option.ite_none_right_eq_some.1 h
      obtain rfl := Option.some.inj hp
      simp only [Bool.and_eq_true] at hc
      exact hc.1.1

/-- A response of RMA's PURPOSE is accepted in OWNED and FIELD alone (R475). -/
theorem acceptedPurpose_rma {b : Nat} {d : Dev} {nv : NV} (h : acceptedPurpose b d nv = some 3) : nv.lifecycle ≤ 3 := by
  unfold acceptedPurpose at h
  split at h
  · cases h
  · split at h
    · cases h
    · have hp := Dev.responseOk_permitted h
      simp only [purposeOk, Nat.reduceBEq, Bool.false_and, Bool.false_or, Bool.or_true, Bool.true_and, Bool.or_eq_true,
        beq_iff_eq] at hp
      omega

theorem respondNV_goesOn (b : Nat) (d : Dev) (nv : NV) : nv.goesOn (respondNV b d nv) := by
  unfold respondNV
  split
  next h =>
    have := acceptedPurpose_rma h
    exact NV.goesOn_lifecycle (by decide) fun _ => by omega
  · exact .refl _

theorem State.responseCommitted_goesOn (s : State) (b : Nat) : s.nv.goesOn (s.responseCommitted b).nv := by
  refine .trans (s.settled_goesOn (s.dev.mbxCommit b 0x0611 (responded b s.nv))) ?_
  unfold State.responseCommitted
  dsimp only
  split
  · exact respondNV_goesOn b s.dev _
  · exact .refl _

/-- Every command's change of the journal and the fuses goes on. -/
theorem nvAfter_goesOn (c : Instr) (s : State) : s.nv.goesOn (nvAfter c s) := by
  cases c
  case registerWrite => exact s.settled_goesOn _
  case spiWriteFrame => exact s.settled_goesOn _
  case zeroise => exact s.settled_goesOn _
  case zeroDone => exact s.settled_goesOn _
  case purgeDone => exact s.purged_goesOn
  case keyLoad b w => exact s.keyCommitted_goesOn b.val w
  case leapActivate => exact s.leapSaved_goesOn _
  case leapFoldApply => exact s.leapSaved_goesOn _
  case modelSave w => exact s.modelKept_goesOn w
  case gnssSolution => exact s.surveySaved_goesOn _
  case dateFloorRecord => exact s.floorRaised_goesOn
  case kettleSleep b w k => exact s.sleepCommitted_goesOn b.val w k
  case flashEraseDone block verified => exact flashErasedNV_goesOn block verified s.nv
  case bstDone seen => exact s.testEnded_goesOn seen
  case startRestore which ok image => exact s.startCommitted_goesOn which ok image
  case lcsOwnSet b => exact ownSetNV_goesOn b.val s.dev s.nv
  case lcsField b => exact fieldNV_goesOn b.val s.dev s.nv
  case lcsScrap b => exact s.scrapCommitted_goesOn b.val
  case lcsRespond b => exact s.responseCommitted_goesOn b.val
  all_goals exact .refl _

/-- So does every step: a tick leaves the journal, and a command's change goes on. -/
theorem step_goesOn {s t : State} (h : step s = .next t) : s.nv.goesOn t.nv := by
  cases hp : s.pending with
  | nil =>
    rw [step_tick hp] at h
    obtain rfl := Host.Outcome.next.inj h
    exact .refl _
  | cons c q =>
    rw [step_command hp] at h
    rw [nv_of_exec h]
    exact nvAfter_goesOn c (s.withPending q)

end Sys2Proof.Machine
end

section
/-! PROOF. The two invariants of the journal and the fuses: O5 and O6. -/

namespace Sys2Proof.Machine

/-- Settles O5: every step's change of the journal and the fuses goes on (`step_goesOn`), its part on lifecycle, floor, BOOTS and
retired blocks. -/
theorem journalNeverGoesBack : Obligations.JournalNeverGoesBack := fun _ _ hl h => (step_goesOn h).forward hl

/-- Settles O6 by the other part of `step_goesOn`, on key records and intents. -/
theorem noKeyRecordOutlivesItsIntent : Obligations.NoKeyRecordOutlivesItsIntent := fun _ _ hg h => (step_goesOn h).noGhost hg

end Sys2Proof.Machine
end

section
/-! SUPPORT. An access error recorded (R58, R59): its event, and the record of the first one. -/

namespace Sys2Proof.Machine

theorem masterNum_lt (m : Master) : m.num < 8 := by cases m <;> decide

theorem accErrKind_lt (e : AccErr) : e.kind < 16 := by cases e <;> decide

/-- Every kind of access error has its event word at SYS (R59). -/
theorem evtImplemented_accErr (e : AccErr) : evtImplemented sysPg e.event = true := by cases e <;> decide

theorem Dev.accError_evt (d : Dev) (m : Master) (a : Nat) (wr : Bool) (e : AccErr) (pg k : Nat) :
    (d.accError m a wr e).evt pg k = (d.raise sysPg e.event).evt pg k := rfl

theorem Dev.accError_w (d : Dev) (m : Master) (a : Nat) (wr : Bool) (e : AccErr) (b : Nat) :
    (d.accError m a wr e).w b =
      if d.gb sysPg Reg.SYS.ACCERR_INFO_VALID = true then d.w b
      else ((d.setw (sysPg + 0x104) (a % 2 ^ 24)).setw (sysPg + 0x108) (m.num + e.kind * 16 + bitOf wr * 256 + 2 ^ 31)).w b := by
  simp only [Dev.accError, Dev.w, Dev.word, apply_ite (fun t : Tab Word => (Tab.get resetWord t b).toNat)]
  rfl

theorem Dev.accError_sameUnits (d : Dev) (m : Master) (a : Nat) (wr : Bool) (e : AccErr) :
    d.sameUnits (d.accError m a wr e) := ⟨rfl, fun _ => rfl⟩

/-- A held record stays as it is. -/
theorem Dev.accError_held {d : Dev} (h : d.gb sysPg Reg.SYS.ACCERR_INFO_VALID = true) (m : Master) (a : Nat) (wr : Bool)
    (e : AccErr) : d.sameWords (d.accError m a wr e) [] := by
  intro b _
  rw [Dev.accError_w, if_pos h]

theorem Dev.accError_sameWords (d : Dev) (m : Master) (a : Nat) (wr : Bool) (e : AccErr) :
    d.sameWords (d.accError m a wr e) [sysPg + 0x104, sysPg + 0x108] := by
  intro b hb
  rw [Dev.accError_w]
  split
  · rfl
  · simp only [List.mem_cons, List.not_mem_nil, or_false, not_or] at hb
    rw [Dev.w_setw, if_neg hb.2, Dev.w_setw, if_neg hb.1]

section
variable {d : Dev} (h : d.gb sysPg Reg.SYS.ACCERR_INFO_VALID = false) (m : Master) (a : Nat) (wr : Bool) (e : AccErr)
include h

theorem Dev.accError_addr : (d.accError m a wr e).w (sysPg + 0x104) = a % 2 ^ 24 := by
  rw [Dev.accError_w, if_neg (by simp [h]), Dev.w_setw, if_neg (by decide), Dev.w_setw, if_pos rfl]
  omega

theorem Dev.accError_info :
    (d.accError m a wr e).w (sysPg + 0x108) = m.num + e.kind * 16 + bitOf wr * 256 + 2 ^ 31 := by
  have hm := masterNum_lt m
  have he := accErrKind_lt e
  have hw : bitOf wr ≤ 1 := by cases wr <;> decide
  rw [Dev.accError_w, if_neg (by simp [h]), Dev.w_setw, if_pos rfl]
  omega

theorem Dev.accError_fields :
    (d.accError m a wr e).g sysPg Reg.SYS.ACCERR_INFO_MASTER = m.num ∧
      (d.accError m a wr e).g sysPg Reg.SYS.ACCERR_INFO_KIND = e.kind ∧
      (d.accError m a wr e).g sysPg Reg.SYS.ACCERR_INFO_WRITE = bitOf wr ∧
      (d.accError m a wr e).g sysPg Reg.SYS.ACCERR_INFO_VALID = 1 := by
  have hm := masterNum_lt m
  have he := accErrKind_lt e
  have hw : bitOf wr ≤ 1 := by cases wr <;> decide
  have hi := Dev.accError_info h m a wr e
  simp only [Dev.g, getBits, Reg.SYS.ACCERR_INFO_MASTER, Reg.SYS.ACCERR_INFO_KIND, Reg.SYS.ACCERR_INFO_WRITE,
    Reg.SYS.ACCERR_INFO_VALID, hi]
  omega

end

/-- After an access error a record is held. -/
theorem Dev.accError_valid (d : Dev) (m : Master) (a : Nat) (wr : Bool) (e : AccErr) :
    (d.accError m a wr e).gb sysPg Reg.SYS.ACCERR_INFO_VALID = true := by
  cases h : d.gb sysPg Reg.SYS.ACCERR_INFO_VALID
  · unfold Dev.gb
    rw [(Dev.accError_fields h m a wr e).2.2.2]
    rfl
  · unfold Dev.gb Dev.g at h ⊢
    rwa [Dev.accError_held h m a wr e _ List.not_mem_nil]

/-- The base of a timebase's registers is an address of 24 bits. -/
theorem tsuB_lt (h : Half) (n : Fin 16) : tsuB h n.val < 2 ^ 24 := by
  revert n
  cases h <;> decide

end Sys2Proof.Machine
end

section
/-! PROOF. A refused STEP, and the record cleared: O9. -/

namespace Sys2Proof.Machine

theorem exec_step_refused {m : Master} {h : Half} {n : Fin 16} {e : AccErr} {s : State}
    (he : s.dev.accessError m (tsuB h n.val) true = some e) :
    exec (.step m h n) s = .next (s.withDev (s.dev.accError m (tsuB h n.val) true e)) :=
  next_onDev (Dev.writeAt_error _ _ _ _ _ he)

/-- Settles O9: a refused write is `Dev.accError`, and CLEAR is one field of ACCERR_INFO. -/
theorem refusedWriteRecordsFirstErrorUntilCleared : Obligations.RefusedWriteRecordsFirstErrorUntilCleared := by
  refine ⟨fun m h n e s he => ⟨_, exec_step_refused he, ?event, Dev.accError_valid _ _ _ _ _, fun hv => ?record,
    fun hv => Dev.accError_held hv _ _ _ _, Dev.accError_sameWords _ _ _ _ _, Dev.sameEvents_raise _ _ _,
    Dev.accError_sameUnits _ _ _ _ _, rfl, rfl⟩, fun m s hw => ?clear⟩
  case event =>
    rw [State.withDev_dev, Dev.accError_evt, Dev.evt_raise_own _ (evtImplemented_accErr e)]
  case record =>
    obtain ⟨hmaster, hkind, hwrite, -⟩ := Dev.accError_fields hv m (tsuB h n.val) true e
    refine ⟨(Dev.accError_addr hv _ _ _ _).trans (Nat.mod_eq_of_lt (tsuB_lt h n)), hmaster, hkind, ?_⟩
    unfold Dev.gb
    rw [State.withDev_dev, hwrite]
    rfl
  case clear =>
    exact ⟨_, congrArg Host.Outcome.next (State.onDev_writeAt hw _), Dev.gb_pb_same _ _ _ _ (by decide) (by decide),
      Dev.g_p_beside _ _ _ _ _ _ rfl (by decide) (by decide),
      State.onlyTouches_withDev (Dev.sameWords_p _ _ _ _) (Dev.sameEvents_setw _ _ _) (Dev.sameUnits_p _ _ _ _)⟩

end Sys2Proof.Machine
end

section
/-! SUPPORT. Writes through the fabric (R43, R61): one aligned word, by an access of 32 bits or by an SPI frame. -/

namespace Sys2Proof.Machine

/-- A performed access is to an existing page. -/
theorem pageExists_of_noError {d : Dev} {m : Master} {a : Nat} {wr : Bool} (h : d.accessError m a wr = none) :
    pageExists a = true := by
  cases hp : pageExists a
  · simp [Dev.accessError, hp] at h
  · rfl

theorem typeAt_of_pageExists {a : Nat} (h : pageExists a = true) : ∃ p, typeAt a = some p := by
  unfold pageExists at h
  split at h
  · cases h
  next p hp => exact ⟨p, hp⟩

theorem headerEnd_ge (a : Nat) : 0x100 ≤ headerEnd a := by
  unfold headerEnd
  split <;> omega

theorem pageBase_add_pageOff (a : Nat) : pageBase a + pageOff a = a := by
  unfold pageBase pageOff
  omega

theorem accForm_word {a : Nat} (h : a % 4 = 0) : accForm a (.narrow .b32) = .words 1 := by
  simp [accForm, spanBytes, h]

theorem Dev.writeSpan_word {a : Nat} (h : a % 4 = 0) (d : Dev) (nv : NV) (m : Master) (v : Word) :
    d.writeSpan nv m a (.narrow .b32) [v] = d.write32 nv m a v.toNat := by
  simp [Dev.writeSpan, accForm_word h, Dev.writeMany]

/-- The whole of EVT_MASK is writable (R38). -/
theorem mergeWrite_evtMask {a : Nat} (ho : pageOff a = 0x1C) (hp : pageExists a = true) {old v : Nat} (hv : v < 2 ^ 32) :
    mergeWrite a old v = v := by
  obtain ⟨p, hp⟩ := typeAt_of_pageExists hp
  have hm : writeMask a = 0xFFFFFFFF := by simp [writeMask, ho, hp]
  have hand : v &&& 0xFFFFFFFF = v := by
    rw [show (0xFFFFFFFF : Nat) = 2 ^ 32 - 1 by norm_num, Nat.and_two_pow_sub_one_eq_mod, Nat.mod_eq_of_lt hv]
  simp [mergeWrite, hm, hand]

/-- A performed write of EVT_MASK stores the word (R38, R48). -/
theorem Dev.write32_evtMask {d : Dev} {m : Master} {a : Nat} (ho : pageOff a = 0x1C)
    (h : d.accessError m a true = none) (nv : NV) {v : Nat} (hv : v < 2 ^ 32) :
    d.write32 nv m a v = (d.regAccess m a).setw a v := by
  have hh : pageOff a < headerEnd a := by
    have := headerEnd_ge a
    omega
  have ha : pageBase a + 0x1C = a := ho ▸ pageBase_add_pageOff a
  rw [Dev.write32, Dev.writeAt_ok _ _ _ _ h, applyWrite, if_neg (by simp [hh]), wordWritten, if_pos hh, ho]
  simp only [headerWritten, reduceIte, ha, plainWritten, mergeWrite_evtMask ho (pageExists_of_noError h) hv]
  simp

theorem exec_registerWrite_evtMask {m : Master} {a : BitVec 24} {s : State} (ho : pageOff a.toNat = 0x1C)
    (h : s.writable m a.toNat) (v : Word) :
    exec (.registerWrite m a (.narrow .b32) [v]) s =
      .next (s.withDev ((s.dev.regAccess m a.toNat).setw a.toNat v.toNat)) := by
  have h4 : a.toNat % 4 = 0 := by unfold pageOff at ho; omega
  show Host.Outcome.next (s.settled (s.dev.writeSpan s.nv m a.toNat (.narrow .b32) [v])) = _
  rw [Dev.writeSpan_word h4, Dev.write32_evtMask ho h s.nv v.isLt]
  exact congrArg Host.Outcome.next (s.settled_eq_withDev rfl)

theorem natOfBE_four_lt (a b c e : Byte) : natOfBE [a, b, c, e] < 2 ^ 32 := by
  have ha := a.isLt
  have hb := b.isLt
  have hc := c.isLt
  have he := e.isLt
  simp only [natOfBE, List.foldl_cons, List.foldl_nil]
  omega

/-- A write frame of eight bytes is one write of 32 bits (R61). -/
theorem Dev.spiFrame_write {a2 a1 a0 : Byte} (d : Dev) (nv : NV) (d3 d2 d1 d0 : Byte)
    (h4 : natOfBE [a2, a1, a0] % 4 = 0) :
    d.spiFrame nv [0x02#8, a2, a1, a0, d3, d2, d1, d0] 0 =
      { d.write32 nv .spi (natOfBE [a2, a1, a0]) (natOfBE [d3, d2, d1, d0]) with miso := List.replicate 8 0#8 } := by
  have hv : (BitVec.ofNat 32 (natOfBE [d3, d2, d1, d0])).toNat = natOfBE [d3, d2, d1, d0] := by
    rw [BitVec.toNat_ofNat, Nat.mod_eq_of_lt (natOfBE_four_lt _ _ _ _)]
  have hs : d.spiWrite nv [0x02#8, a2, a1, a0, d3, d2, d1, d0] =
      d.writeSpan nv .spi (natOfBE [a2, a1, a0]) (.narrow .b32) [BitVec.ofNat 32 (natOfBE [d3, d2, d1, d0])] := rfl
  show { d.spiWrite nv [0x02#8, a2, a1, a0, d3, d2, d1, d0] with miso := List.replicate 8 0#8 } = _
  rw [hs, Dev.writeSpan_word h4, hv]

theorem exec_spiWriteFrame_evtMask {a2 a1 a0 : Byte} {s : State} (ho : pageOff (natOfBE [a2, a1, a0]) = 0x1C)
    (h : s.writable .spi (natOfBE [a2, a1, a0])) (d3 d2 d1 d0 : Byte) :
    exec (.spiWriteFrame [0x02#8, a2, a1, a0, d3, d2, d1, d0]) s =
      .next (s.withDev { (s.dev.regAccess .spi (natOfBE [a2, a1, a0])).setw (natOfBE [a2, a1, a0]) (natOfBE [d3, d2, d1, d0])
        with miso := List.replicate 8 0#8 }) := by
  have h4 : natOfBE [a2, a1, a0] % 4 = 0 := by unfold pageOff at ho; omega
  show Host.Outcome.next (s.settled (s.dev.spiFrame s.nv _ 0)) = _
  rw [Dev.spiFrame_write _ _ _ _ _ _ h4, Dev.write32_evtMask ho h s.nv (natOfBE_four_lt _ _ _ _)]
  exact congrArg Host.Outcome.next (s.settled_eq_withDev rfl)

end Sys2Proof.Machine
end

section
/-! PROOF. A fabric write of EVT_MASK: O10. -/

namespace Sys2Proof.Machine

/-- Settles O10: both forms of access come to `Dev.write32`, which stores the word. -/
theorem fabricWriteTakesEffectAtPage : Obligations.FabricWriteTakesEffectAtPage := by
  refine ⟨fun m a v s ho h => ⟨_, exec_registerWrite_evtMask ho h v, ?_, State.onlyTouches_withDev
    (Dev.sameWords_setw _ _ _) (Dev.sameEvents_setw _ _ _) (Dev.sameUnits_setw _ _ _)⟩,
    fun a2 a1 a0 d3 d2 d1 d0 s ho h => ⟨_, exec_spiWriteFrame_evtMask ho h _ _ _ _, ?_, rfl,
      (s.dev.regAccess .spi _).sameWords_setw _ _, fun _ _ _ => rfl, rfl, rfl⟩⟩
  · rw [State.withDev_dev, Dev.w_setw, if_pos rfl, Nat.mod_eq_of_lt v.isLt]
  · show ((s.dev.regAccess .spi _).setw _ _).w _ = _
    rw [Dev.w_setw, if_pos rfl, Nat.mod_eq_of_lt (natOfBE_four_lt _ _ _ _)]

end Sys2Proof.Machine
end

section
/-! SUPPORT. Reads through the fabric (R41, R43, R61): one aligned word, directly or through a master's read latch. -/

namespace Sys2Proof.Machine

/-- Devices with the same registers have the same words. -/
theorem Dev.w_congr {d e : Dev} (h : e.regs = d.regs) (a : Nat) : e.w a = d.w a := by
  unfold Dev.w Dev.word
  rw [h]

theorem Dev.sameWords_of_regs {d e : Dev} (h : e.regs = d.regs) : d.sameWords e [] := fun a _ => Dev.w_congr h a

theorem Dev.evt_congr {d e : Dev} (h : e.evts = d.evts) (pg k : Nat) : e.evt pg k = d.evt pg k := by
  unfold Dev.evt
  rw [h]

theorem Dev.sameEvents_of_evts {d e : Dev} (h : e.evts = d.evts) : d.sameEvents e [] := fun pg k _ => Dev.evt_congr h pg k

/-- A read touches latches, completions and counters alone. -/
theorem Dev.readWord_fst (d : Dev) (nv : NV) (m : Master) (a : Nat) :
    (d.readWord nv m a).1 = { d with latch := (d.readWord nv m a).1.latch } := by
  unfold Dev.readWord
  split
  · dsimp only
    split <;> rfl
  · rfl

/-- The read of a word that is performed, with its completion. -/
def Dev.wordRead (d : Dev) (nv : NV) (m : Master) (a : Nat) : Dev :=
  let r := (d.regAccess m a).readWord nv m a
  r.1.complete m { data := [r.2], ok := true }

theorem Dev.readSpan_word {d : Dev} {m : Master} {a : Nat} (h4 : a % 4 = 0) (h : d.accessError m a false = none) (nv : NV) :
    d.readSpan nv m a (.narrow .b32) = d.wordRead nv m a := by
  simp [Dev.readSpan, accForm_word h4, Dev.readMany, Dev.read32, h, Dev.wordRead]

section
variable (d : Dev) (nv : NV) (m : Master) (a : Nat)

/-- A read changes no word and no event. -/
theorem Dev.wordRead_sameWords : d.sameWords (d.wordRead nv m a) [] := by
  refine Dev.sameWords_of_regs ?_
  show ((d.regAccess m a).readWord nv m a).1.regs = _
  rw [Dev.readWord_fst]
  rfl

theorem Dev.wordRead_sameEvents : d.sameEvents (d.wordRead nv m a) [] := by
  refine Dev.sameEvents_of_evts ?_
  show ((d.regAccess m a).readWord nv m a).1.evts = _
  rw [Dev.readWord_fst]
  rfl

theorem Dev.wordRead_cpl :
    tget {} (d.wordRead nv m a).cpl m.num = { data := [((d.regAccess m a).readWord nv m a).2], ok := true } := by
  simp only [Dev.wordRead, Dev.complete, tget, tset, Tab.get_set_same]

theorem Dev.wordRead_latched (b : Nat) :
    (d.wordRead nv m a).latched m b = ((d.regAccess m a).readWord nv m a).1.latched m b := rfl

theorem Dev.wordRead_latch : (d.wordRead nv m a).latch = ((d.regAccess m a).readWord nv m a).1.latch := rfl

end

theorem Dev.readWord_plain {a : Nat} (h : rlGroup a = none) (d : Dev) (nv : NV) (m : Master) :
    d.readWord nv m a = (d, BitVec.ofNat 32 (d.view nv a)) := by
  unfold Dev.readWord
  rw [h]

theorem Dev.readWord_latched {a lo n : Nat} (h : rlGroup a = some (lo, n)) (hlo : lo ≠ a) (d : Dev) (nv : NV) (m : Master) :
    d.readWord nv m a = (d, d.latched m a) := by
  unfold Dev.readWord
  rw [h]
  simp only [if_neg hlo.symm]

theorem Dev.readWord_lowest {a n : Nat} (h : rlGroup a = some (a, n)) (d : Dev) (nv : NV) (m : Master) :
    d.readWord nv m a = (d.latchGroup nv m a n, (d.latchGroup nv m a n).latched m a) := by
  unfold Dev.readWord
  rw [h]
  simp only [if_true]

/-- The latches of a group's words do not meet. -/
def latchesApart (m : Master) (lo n : Nat) : Prop :=
  ∀ i < n, ∀ j < n, latchKey m (lo + 4 * i) = latchKey m (lo + 4 * j) → i = j

/-- Latching a group latches each of its words for the master (R41). -/
theorem Dev.latchGroup_latched {m : Master} {lo n : Nat} (hap : latchesApart m lo n) (d : Dev) (nv : NV) {i : Nat}
    (hi : i < n) : (d.latchGroup nv m lo n).latched m (lo + 4 * i) = BitVec.ofNat 32 (d.view nv (lo + 4 * i)) := by
  have run : ∀ k, i < k → k ≤ n →
      (d.latchGroup nv m lo k).latched m (lo + 4 * i) = BitVec.ofNat 32 (d.view nv (lo + 4 * i)) := by
    intro k
    induction k with
    | zero => intro h; omega
    | succ k ih =>
      intro hik hkn
      have hs : (d.latchGroup nv m lo (k + 1)).latched m (lo + 4 * i) =
          if latchKey m (lo + 4 * i) = latchKey m (lo + 4 * k) then BitVec.ofNat 32 (d.view nv (lo + 4 * k))
          else (d.latchGroup nv m lo k).latched m (lo + 4 * i) := by
        unfold Dev.latched Dev.latchGroup
        rw [List.range_succ, List.foldl_append, List.foldl_cons, List.foldl_nil, Tab.get_set]
      rw [hs]
      split
      next hk => rw [hap i hi k (by omega) hk]
      next hk => exact ih (by rcases Nat.lt_succ_iff_lt_or_eq.1 hik with h | rfl; exacts [h, absurd rfl hk]) (by omega)
  exact run n hi le_rfl

/-- A read of a group's lowest word answers the word as it reads and latches the group (R41). -/
theorem Dev.wordRead_group {m : Master} {lo n : Nat} (h : rlGroup lo = some (lo, n)) (hn : 0 < n) (hap : latchesApart m lo n)
    (d : Dev) (nv : NV) :
    tget {} (d.wordRead nv m lo).cpl m.num = ⟨[BitVec.ofNat 32 ((d.regAccess m lo).view nv lo)], true, false⟩ ∧
      ∀ i < n, (d.wordRead nv m lo).latched m (lo + 4 * i) = BitVec.ofNat 32 ((d.regAccess m lo).view nv (lo + 4 * i)) := by
  refine ⟨?_, fun i hi => ?_⟩
  · rw [Dev.wordRead_cpl, Dev.readWord_lowest h]
    have := Dev.latchGroup_latched hap (d.regAccess m lo) nv hn
    rw [Nat.mul_zero, Nat.add_zero] at this
    rw [this]
  · rw [Dev.wordRead_latched, Dev.readWord_lowest h]
    exact Dev.latchGroup_latched hap _ nv hi

theorem Dev.wordRead_plain {m : Master} {a : Nat} (h : rlGroup a = none) (d : Dev) (nv : NV) :
    tget {} (d.wordRead nv m a).cpl m.num = ⟨[BitVec.ofNat 32 ((d.regAccess m a).view nv a)], true, false⟩ ∧
      (d.wordRead nv m a).latch = d.latch := by
  rw [Dev.wordRead_cpl, Dev.wordRead_latch, Dev.readWord_plain h]
  exact ⟨rfl, rfl⟩

theorem Dev.wordRead_higher {m : Master} {a lo n : Nat} (h : rlGroup a = some (lo, n)) (hlo : lo ≠ a) (d : Dev) (nv : NV) :
    tget {} (d.wordRead nv m a).cpl m.num = ⟨[d.latched m a], true, false⟩ ∧ (d.wordRead nv m a).latch = d.latch := by
  rw [Dev.wordRead_cpl, Dev.wordRead_latch, Dev.readWord_latched h hlo]
  exact ⟨rfl, rfl⟩

/-- PID belongs to no read-latch group. -/
theorem rlGroup_pid {a : Nat} (h : pageOff a = 0) : rlGroup a = none := by
  unfold rlGroup
  simp only [h]
  cases typeAt a with
  | none => simp
  | some p => cases p <;> simp

theorem Dev.view_header {a : Nat} (h : pageOff a < 0x100) (d : Dev) (nv : NV) : d.view nv a = d.headerWord nv a :=
  if_pos (lt_of_lt_of_le h (headerEnd_ge a))

theorem Dev.view_pid {a : Nat} (h : pageOff a = 0) (d : Dev) (nv : NV) : d.view nv a = pidWord (pageBase a) := by
  rw [Dev.view_header (by omega), Dev.headerWord]
  simp [h]

/-- PRF_TICK is one read-latch group in every page (R38, R41). -/
theorem rlGroup_tick {a : Nat} (h : pageOff a = 0x0C0) : rlGroup a = some (a, 2) := by
  have ha : pageBase a + 0x0C0 = a := h ▸ pageBase_add_pageOff a
  unfold rlGroup
  simp [h, ha]

theorem Dev.view_tickLow {a : Nat} (h : pageOff a = 0x0C0) (d : Dev) (nv : NV) :
    d.view nv a = d.ticks.of (halfAt a) % 2 ^ 32 := by
  rw [Dev.view_header (by omega), Dev.headerWord]
  simp [h]

theorem Dev.view_tickHigh {a : Nat} (h : pageOff a = 0x0C0) (d : Dev) (nv : NV) :
    d.view nv (a + 4) = d.ticks.of (halfAt a) / 2 ^ 32 := by
  have ho : pageOff (a + 4) = 0x0C4 := by unfold pageOff at *; omega
  have hh : halfAt (a + 4) = halfAt a := by
    unfold halfAt
    congr 1
    unfold pageOff at h
    omega
  rw [Dev.view_header (by omega), Dev.headerWord]
  simp [ho, hh]

theorem latchesApart_two (m : Master) (a : Nat) : latchesApart m a 2 := by
  intro i hi j hj hij
  unfold latchKey at hij
  omega

theorem exec_registerRead_word {m : Master} {a : BitVec 24} {s : State} (h4 : a.toNat % 4 = 0)
    (h : s.dev.accessError m a.toNat false = none) :
    exec (.registerRead m a (.narrow .b32)) s = .next (s.withDev (s.dev.wordRead s.nv m a.toNat)) :=
  next_onDev (Dev.readSpan_word h4 h s.nv)

theorem exec_rlGroupRead_word {m : Master} {a : BitVec 24} {lo n : Nat} {s : State} (hg : rlGroup a.toNat = some (lo, n))
    (h4 : lo % 4 = 0) (h : s.dev.accessError m lo false = none) :
    exec (.rlGroupRead m a) s = .next (s.withDev (s.dev.wordRead s.nv m lo)) := by
  refine next_onDev ?_
  unfold Dev.readGroup
  rw [hg]
  exact Dev.readSpan_word h4 h s.nv

/-- A read frame (R61) of as many bytes as the reply takes, of a word that is read directly. -/
theorem Dev.spiFrame_read {d : Dev} {a2 a1 a0 : Byte} (h4 : natOfBE [a2, a1, a0] % 4 = 0)
    (h : d.accessError .spi (natOfBE [a2, a1, a0]) false = none) (hg : rlGroup (natOfBE [a2, a1, a0]) = none) (nv : NV)
    (wait : Nat) :
    d.spiFrame nv ([0x03#8, a2, a1, a0] ++ List.replicate (6 + wait) 0#8) wait =
      { d.wordRead nv .spi (natOfBE [a2, a1, a0]) with
        miso := List.replicate (4 + wait) 0#8 ++ [0xA5#8] ++
          bytesBE 4 ((d.regAccess .spi (natOfBE [a2, a1, a0])).view nv (natOfBE [a2, a1, a0]) % 2 ^ 32) ++ [0#8] } := by
  have hr := Dev.readSpan_word h4 h nv
  have hc := (Dev.wordRead_plain (m := .spi) hg d nv).1
  have hlen : ([0x03#8, a2, a1, a0] ++ List.replicate (6 + wait) 0#8).length = 10 + wait := by
    simp only [List.length_append, List.length_cons, List.length_nil, List.length_replicate]; omega
  have hspi : spiNat ([0x03#8, a2, a1, a0] ++ List.replicate (6 + wait) 0#8) 1 3 = natOfBE [a2, a1, a0] := rfl
  show d.spiRead nv ([0x03#8, a2, a1, a0] ++ List.replicate (6 + wait) 0#8) wait = _
  unfold Dev.spiRead
  rw [if_neg (by omega), hspi, hr, hlen]
  simp only [hc, List.getElem?_cons_zero, Option.getD_some, BitVec.toNat_ofNat]
  congr 1
  rw [List.take_append_of_le_length]
  · exact List.take_of_length_le (by simp [bytesBE]; omega)
  · simp [bytesBE]; omega

end Sys2Proof.Machine
end

section
/-! PROOF. Fabric reads and read-latch groups: O11. -/

namespace Sys2Proof.Machine

/-- Settles O11: each form of read comes to `Dev.wordRead`, and that to the three cases of `Dev.readWord`. -/
theorem fabricReadAnswersWithoutSideEffect : Obligations.FabricReadAnswersWithoutSideEffect := by
  refine ⟨fun m a s h4 h => ⟨_, exec_registerRead_word h4 h, fun hg => Dev.wordRead_plain hg _ _,
      fun n hg hn hap => Dev.wordRead_group hg hn hap _ _, fun lo n hg hlo => Dev.wordRead_higher hg hlo _ _,
      Dev.wordRead_sameWords _ _ _ _, Dev.wordRead_sameEvents _ _ _ _, rfl, rfl⟩,
    fun m a s ho h => ⟨_, exec_registerRead_word (by unfold pageOff at ho; omega) h, ?pid,
      Dev.wordRead_sameWords _ _ _ _, Dev.wordRead_sameEvents _ _ _ _, rfl, rfl⟩,
    fun a2 a1 a0 wait s h4 h hg => ⟨_, next_onDev (Dev.spiFrame_read h4 h hg _ _), rfl,
      Dev.wordRead_sameWords _ _ _ _, Dev.wordRead_sameEvents _ _ _ _, rfl, rfl⟩,
    fun a2 a1 a0 s ho h => ⟨_, next_onDev (Dev.spiFrame_read (by unfold pageOff at ho; omega) h (rlGroup_pid ho) _ 0), ?spiPid,
      Dev.wordRead_sameWords _ _ _ _, Dev.wordRead_sameEvents _ _ _ _, rfl, rfl⟩,
    fun m a lo n s hg hlo h4 hn hap h => ⟨_, exec_rlGroupRead_word hg h4 h, (Dev.wordRead_group hlo hn hap _ _).1,
      (Dev.wordRead_group hlo hn hap _ _).2, Dev.wordRead_sameWords _ _ _ _, Dev.wordRead_sameEvents _ _ _ _, rfl, rfl⟩,
    fun m a s ho h => ?tick⟩
  case pid =>
    rw [State.withDev_dev, (Dev.wordRead_plain (rlGroup_pid ho) _ _).1, Dev.view_pid ho]
  case spiPid =>
    rw [← Dev.view_pid ho (s.dev.regAccess .spi (natOfBE [a2, a1, a0])) s.nv]
    rfl
  case tick =>
    obtain ⟨hc, hl⟩ := Dev.wordRead_group (rlGroup_tick ho) (by decide) (latchesApart_two m _) s.dev s.nv
    refine ⟨_, exec_rlGroupRead_word (rlGroup_tick ho) (by unfold pageOff at ho; omega) h, ?_, ?_,
      Dev.wordRead_sameWords _ _ _ _, Dev.wordRead_sameEvents _ _ _ _, rfl, rfl⟩
    · rw [State.withDev_dev, hc, Dev.view_tickLow ho]
      rfl
    · exact (hl 1 (by decide)).trans (congrArg (BitVec.ofNat 32) (Dev.view_tickHigh ho _ _))

end Sys2Proof.Machine
end

section
/-! PROOF. O13 does not hold: in a half in safe state LTOL is stored by a plain write, which keeps the bits that it does not set
(R12, R40), and the claim supposes nowhere that the word's upper half is 0. -/

namespace Sys2Proof.Machine

/-- Warp's first TSU page. -/
def tsuWarp : BitVec 24 := 0x160000#24

/-- Its LTOL word. -/
abbrev ltolWarp : Nat := pageBase tsuWarp.toNat + 0x10

/-- Warp is in safe state, and bits of the reserved upper half of that LTOL word are set. -/
def reservedSet : State :=
  { dev := { regs := [(ltolWarp, 0xFFFF0000#32)], pages := [(sysPg, { ready := true })]
             half := ⟨{ safe := true }, {}⟩ } }

theorem exec_ltolWrite {m : Master} {a : BitVec 24} {s : State} (h : s.writable m (pageBase a.toNat + 0x10)) (v : Word) :
    exec (.ltolWrite m a v) s =
      .next (s.withDev (ltolGiven (pageBase a.toNat) v.toNat (s.dev.regAccess m (pageBase a.toNat + 0x10)))) :=
  congrArg Host.Outcome.next (State.onDev_writeAt h _)

/-- The plain write leaves the reserved half as it was. -/
theorem ltolGiven_reservedSet :
    (ltolGiven (pageBase tsuWarp.toNat) (0#32).toNat (reservedSet.dev.regAccess .pf0 ltolWarp)).w ltolWarp = 0xFFFF0000 := by decide

/-- Refutes O13: its clause of a half in safe state says that the LTOL word reads the 16 bits written, and in `reservedSet` it
reads 0xFFFF0000 after 0 is written. -/
theorem not_powerStatesFollowToleranceAndWork : ¬ Obligations.PowerStatesFollowToleranceAndWork := by
  unfold Obligations.PowerStatesFollowToleranceAndWork
  rintro ⟨-, -, -, -, -, shell⟩
  have hw : reservedSet.writable .pf0 ltolWarp := by unfold State.writable; decide
  obtain ⟨t, ht, hl, -⟩ := shell .pf0 tsuWarp 0#32 reservedSet hw (by decide)
  obtain rfl := exec_next_inj ht (exec_ltolWrite (a := tsuWarp) hw 0#32)
  rw [State.withDev_dev, ltolGiven_reservedSet] at hl
  exact absurd hl (by decide)

end Sys2Proof.Machine
end

section
/-! PROOF. Vectors and their messages (R55): O14. -/

namespace Sys2Proof.Machine

/-- The bits of a word after one of them is set. -/
theorem bitAt_setBit (w k j : Nat) : bitAt (setBits w k 1 1) j = if j = k then true else bitAt w j := by
  have hb : ∀ n i, bitAt n i = (getBits n i 1 == 1) := fun _ _ => rfl
  rw [hb, hb]
  rcases lt_trichotomy j k with h | rfl | h
  · rw [getBits_setBits_below _ _ _ _ _ _ (by omega), if_neg (by omega)]
  · rw [getBits_setBits_same, if_pos rfl]
    rfl
  · rw [getBits_setBits_above _ _ _ _ _ _ (by omega), if_neg (by omega)]

theorem vectorGenerated_may {v : Nat} {d : Dev} (ha : d.vectorAsserted v = true)
    (hp : bitAt (d.w (evcPg + 0x280)) v = false) (hh : d.holdoffOver v = true) :
    vectorGenerated v d =
      (let e := { d.evc with lastGen := (v, d.now) :: d.evc.lastGen.filter fun x => x.1 != v }
       { d.setw (evcPg + 0x280) (setBits (d.w (evcPg + 0x280)) v 1 1) with
         evc := if d.msixOpen v then { e with sent := v :: e.sent } else { e with pba := v :: e.pba } }) := by
  unfold vectorGenerated
  simp only [ha, hp, hh, Bool.not_false, Bool.and_self, if_true]

/-- Settles O14: VPEND takes one bit and the message is sent or waits; a waiting one leaves once both permit it. -/
theorem vectorsGenerateAndRelease : Obligations.VectorsGenerateAndRelease := by
  refine ⟨fun v s ha hp hh => ?generate, fun v s hv => ?release⟩
  case generate =>
    have hw : (vectorGenerated v.val s.dev).w (evcPg + 0x280) = setBits (s.dev.w (evcPg + 0x280)) v.val 1 1 := by
      rw [vectorGenerated_may ha hp hh]
      show (s.dev.setw _ _).w _ = _
      rw [Dev.w_setw, if_pos rfl, Nat.mod_eq_of_lt (setBits_lt _ _ _ _ (s.dev.w_lt _) (by omega))]
    refine ⟨s.withDev (vectorGenerated v.val s.dev), rfl, ?_, fun u hu => ?_, ?_, ?_, ?_, ?_, rfl, rfl⟩
    · rw [State.withDev_dev, hw, bitAt_setBit, if_pos rfl]
    · rw [State.withDev_dev, hw, bitAt_setBit, if_neg fun h => hu (Fin.ext h)]
    · rw [State.withDev_dev, vectorGenerated_may ha hp hh]
      exact apply_ite Evc.sent _ _ _
    · rw [State.withDev_dev, vectorGenerated_may ha hp hh]
      exact apply_ite Evc.pba _ _ _
    · rw [State.withDev_dev, vectorGenerated_may ha hp hh]
      exact s.dev.sameWords_setw _ _
    · rw [State.withDev_dev, vectorGenerated_may ha hp hh]
      exact fun _ _ _ => rfl
  case release =>
    have hgo : v.val ∈ s.dev.evc.pba.filter fun x => true && !((s.dev.evc.masked.filter fun x => x != v.val).contains x) := by
      simpa using hv
    refine ⟨s.withDev (msixSet v.val true false s.dev), rfl, List.mem_append_left _ hgo, fun hp => ?_, rfl, ?_, rfl, rfl, rfl⟩
    · have hn := (List.mem_filter.1 hp).2
      exact Bool.false_ne_true ((congrArg not (List.contains_iff_mem.2 hgo)).symm.trans hn)
    · intro hm
      simpa using (List.mem_filter.1 hm).2

end Sys2Proof.Machine
end

section
/-! SUPPORT. The response registers of a mailbox (R63): what a completion writes, word for word. -/

namespace Sys2Proof.Machine

/-- A command that acts on the powered state keeps the rest. -/
theorem State.keepsRest_withDev (s : State) (d : Dev) : s.keepsRest (s.withDev d) := ⟨rfl, rfl⟩

/-- One update after another of the first `k` naturals: the last one comes last. -/
theorem Dev.each_succ (d : Dev) (k : Nat) (f : Nat → Dev → Dev) : d.each (k + 1) f = f k (d.each k f) := by
  unfold Dev.each
  rw [List.range_succ, List.foldl_append, List.foldl_cons, List.foldl_nil]

/-- A run of words written from a base: each reads back its value, every other word as it was. -/
theorem Dev.w_each_setw (d : Dev) (b k : Nat) (f : Nat → Nat) (a : Nat) :
    (d.each k fun i e => e.setw (b + 4 * i) (f i)).w a =
      if b ≤ a ∧ (a - b) % 4 = 0 ∧ (a - b) / 4 < k then f ((a - b) / 4) % 2 ^ 32 else d.w a := by
  induction k with
  | zero => simp [Dev.each]
  | succ k ih =>
    rw [Dev.each_succ, Dev.w_setw, ih]
    by_cases h : a = b + 4 * k
    · subst h
      have h0 : (b + 4 * k - b) / 4 = k := by omega
      rw [if_pos rfl, if_pos (by omega), h0]
    · rw [if_neg h]
      exact if_congr (by omega) rfl rfl

/-- Two devices differ in their registers alone. -/
def Dev.onlyRegs (d e : Dev) : Prop := ∃ r, e = { d with regs := r }

theorem Dev.onlyRegs.refl (d : Dev) : d.onlyRegs d := ⟨d.regs, rfl⟩

theorem Dev.onlyRegs.setw {d e : Dev} (h : d.onlyRegs e) (a v : Nat) : d.onlyRegs (e.setw a v) := by
  obtain ⟨r, rfl⟩ := h
  exact ⟨_, rfl⟩

theorem Dev.onlyRegs.p {d e : Dev} (h : d.onlyRegs e) (b : Nat) (f : Fld) (v : Nat) : d.onlyRegs (e.p b f v) := h.setw _ _

theorem Dev.onlyRegs.pb {d e : Dev} (h : d.onlyRegs e) (b : Nat) (f : Fld) (v : Bool) : d.onlyRegs (e.pb b f v) := h.p _ _ _

theorem Dev.onlyRegs.each {d e : Dev} (h : d.onlyRegs e) (k : Nat) {f : Nat → Dev → Dev}
    (hf : ∀ i x, d.onlyRegs x → d.onlyRegs (f i x)) : d.onlyRegs (e.each k f) := by
  induction k with
  | zero => exact h
  | succ k ih =>
    rw [Dev.each_succ]
    exact hf k _ ih

theorem Dev.onlyRegs.sameUnits {d e : Dev} (h : d.onlyRegs e) : d.sameUnits e := by
  obtain ⟨r, rfl⟩ := h
  exact ⟨rfl, fun _ => rfl⟩

theorem Dev.onlyRegs.evts {d e : Dev} (h : d.onlyRegs e) : e.evts = d.evts := by
  obtain ⟨r, rfl⟩ := h
  rfl

theorem Dev.onlyRegs.sameEvents {d e : Dev} (h : d.onlyRegs e) : d.sameEvents e [] := Dev.sameEvents_of_evts h.evts

section
variable (d : Dev) (b state code tag : Nat) (ws : List Word)

theorem Dev.mbxPut_onlyRegs : d.onlyRegs (d.mbxPut b state code tag ws) :=
  ((((Dev.onlyRegs.refl d).p _ _ _).p _ _ _).p _ _ _).p _ _ _ |>.each 64 fun _ _ hx => hx.setw _ _

theorem Dev.mbxPut_w_rsp : (d.mbxPut b state code tag ws).w (mbxPg b + 0x108) =
    ((((d.p (mbxPg b) Reg.MBX.RSP_STATE state).p (mbxPg b) Reg.MBX.RSP_CODE code).p (mbxPg b) Reg.MBX.RSP_TAG tag).p (mbxPg b)
      Reg.MBX.RSP_RLEN (min 64 ws.length)).w (mbxPg b + 0x108) := by
  unfold Dev.mbxPut
  rw [Dev.w_each_setw, if_neg (by omega)]

theorem Dev.mbxPut_payload {i : Nat} (hi : i < 64) :
    (d.mbxPut b state code tag ws).w (mbxPg b + 0x300 + 4 * i) = (ws[i]?.getD 0).toNat := by
  have h4 : (mbxPg b + 0x300 + 4 * i - (mbxPg b + 0x300)) / 4 = i := by omega
  unfold Dev.mbxPut
  rw [Dev.w_each_setw, if_pos (by omega), h4, Nat.mod_eq_of_lt (ws[i]?.getD 0).isLt]

/-- The four fields of RSP, each cut to its width. -/
theorem Dev.mbxPut_fields :
    (d.mbxPut b state code tag ws).g (mbxPg b) Reg.MBX.RSP_STATE = state % 4 ∧
      (d.mbxPut b state code tag ws).g (mbxPg b) Reg.MBX.RSP_CODE = code % 256 ∧
      (d.mbxPut b state code tag ws).g (mbxPg b) Reg.MBX.RSP_TAG = tag % 256 ∧
      (d.mbxPut b state code tag ws).g (mbxPg b) Reg.MBX.RSP_RLEN = min 64 ws.length % 256 := by
  have hw := d.mbxPut_w_rsp b state code tag ws
  have hg : ∀ f : Fld, f.off = 0x108 → (d.mbxPut b state code tag ws).g (mbxPg b) f =
      ((((d.p (mbxPg b) Reg.MBX.RSP_STATE state).p (mbxPg b) Reg.MBX.RSP_CODE code).p (mbxPg b) Reg.MBX.RSP_TAG tag).p (mbxPg b)
        Reg.MBX.RSP_RLEN (min 64 ws.length)).g (mbxPg b) f := by
    intro f hf
    unfold Dev.g
    rw [hf, hw]
  have beside {e : Dev} {f f' : Fld} {v x : Nat} (hf : f.lo + f.len ≤ 32)
      (hs : f.lo + f.len ≤ f'.lo ∨ f'.lo + f'.len ≤ f.lo) (ho : f'.off = f.off) (hx : e.g (mbxPg b) f' = x) :
      (e.p (mbxPg b) f v).g (mbxPg b) f' = x := (e.g_p_beside _ _ _ _ _ (by rw [ho]) hf hs).trans hx
  refine ⟨(hg _ rfl).trans ?_, (hg _ rfl).trans ?_, (hg _ rfl).trans ?_, (hg _ rfl).trans ?_⟩
  · exact beside (by decide) (by decide) rfl (beside (by decide) (by decide) rfl (beside (by decide) (by decide) rfl
      (Dev.g_p_same _ _ _ _ (by decide))))
  · exact beside (by decide) (by decide) rfl (beside (by decide) (by decide) rfl (Dev.g_p_same _ _ _ _ (by decide)))
  · exact beside (by decide) (by decide) rfl (Dev.g_p_same _ _ _ _ (by decide))
  · exact Dev.g_p_same _ _ _ _ (by decide)

end

theorem evtImplemented_mbx (b : Fin 4) {k : Nat} (hk : k < 2) : evtImplemented (mbxPg b.val) k = true := by
  revert b
  interval_cases k <;> decide

section
variable (d : Dev) (b : Fin 4) (code tag : Nat) (ws : List Word)

/-- A completion: STATE reads DONE with the code and the tag, and MBX_DONE occurs. -/
theorem Dev.mbxComplete_state : (d.mbxComplete b.val code tag ws).mbxState b.val = 2 := (d.mbxPut_fields b.val 2 code tag ws).1

theorem Dev.mbxComplete_code :
    (d.mbxComplete b.val code tag ws).g (mbxPg b.val) Reg.MBX.RSP_CODE = code % 256 := (d.mbxPut_fields b.val 2 code tag ws).2.1

theorem Dev.mbxComplete_tag :
    (d.mbxComplete b.val code tag ws).g (mbxPg b.val) Reg.MBX.RSP_TAG = tag % 256 := (d.mbxPut_fields b.val 2 code tag ws).2.2.1

theorem Dev.mbxComplete_evt (pg k : Nat) : (d.mbxComplete b.val code tag ws).evt pg k = (d.raise (mbxPg b.val) 0).evt pg k := by
  obtain ⟨r, hr⟩ := d.mbxPut_onlyRegs b.val 2 code tag ws
  rw [Dev.mbxComplete, hr, Dev.evt_raise, Dev.evt_raise]
  rfl

theorem Dev.mbxComplete_done : (d.mbxComplete b.val code tag ws).evt (mbxPg b.val) 0 = (d.evt (mbxPg b.val) 0).occur := by
  rw [Dev.mbxComplete_evt, Dev.evt_raise_own _ (evtImplemented_mbx b (by decide))]

theorem Dev.mbxComplete_mbx : (d.mbxComplete b.val code tag ws).mbx = d.mbx := by
  obtain ⟨r, hr⟩ := d.mbxPut_onlyRegs b.val 2 code tag ws
  rw [Dev.mbxComplete, hr]
  rfl

end

end Sys2Proof.Machine
end

section
/-! PROOF. GO (R63, R65): O15. -/

namespace Sys2Proof.Machine

/-- A GO that the mailbox completes at once (R63, R65). -/
def Dev.goRefused (d : Dev) (b code : Nat) : Dev :=
  let e := d.mbxComplete b code (d.g (mbxPg b) Reg.MBX.CMD_TAG) []
  if d.g (mbxPg b) Reg.MBX.CMD_OPCODE = opQueryTag then e
  else e.setMb b (Mbx.retain { d.mb b with nextId := (d.mb b).nextId + 1 }
    { id := (d.mb b).nextId, code := code, tag := d.g (mbxPg b) Reg.MBX.CMD_TAG })

/-- The command that GO hands to firmware (R63). -/
def Dev.goCmd (d : Dev) (b : Nat) : FwCmd :=
  { id := (d.mb b).nextId, opcode := d.g (mbxPg b) Reg.MBX.CMD_OPCODE, tag := d.g (mbxPg b) Reg.MBX.CMD_TAG
    len := d.g (mbxPg b) Reg.MBX.CMD_LEN
    req := (List.range (d.g (mbxPg b) Reg.MBX.CMD_LEN)).map fun i => d.word (mbxPg b + 0x200 + 4 * i) }

section
variable {d : Dev} {b : Nat}

theorem mbxGone_busy (h : d.mbxState b = 1) : mbxGone b d = d.raise (mbxPg b) 1 := if_pos h

theorem mbxGone_long (h : d.mbxState b ≠ 1) (hl : 64 < d.g (mbxPg b) Reg.MBX.CMD_LEN) :
    mbxGone b d = d.goRefused b codeBadLen := by
  unfold mbxGone
  rw [if_neg h, if_pos hl]
  rfl

theorem mbxGone_down (h : d.mbxState b ≠ 1) (hl : d.g (mbxPg b) Reg.MBX.CMD_LEN ≤ 64)
    (hd : d.coresRun (mbxHalf b) = false ∨
      d.g (mbxPg b) Reg.MBX.CMD_OPCODE = opQueryTag ∧ (d.hs (mbxHalf b)).restored = false) :
    mbxGone b d = d.goRefused b codeHalfDown := by
  unfold mbxGone
  rw [if_neg h, if_neg (Nat.not_lt.2 hl), if_pos (by rcases hd with hd | ⟨h1, h2⟩ <;> simp [*])]
  rfl

theorem mbxGone_taken (h : d.mbxState b ≠ 1) (hl : d.g (mbxPg b) Reg.MBX.CMD_LEN ≤ 64)
    (hr : d.coresRun (mbxHalf b) = true)
    (hq : d.g (mbxPg b) Reg.MBX.CMD_OPCODE = opQueryTag → (d.hs (mbxHalf b)).restored = true) :
    mbxGone b d = ((d.mbxPut b 1 0 0 []).snapTaken_ b (d.goCmd b)).setMb b
      { d.mb b with nextId := (d.mb b).nextId + 1, cur := (d.mb b).nextId, goAt := d.now
                    limitMs := max 1 (d.g (mbxPg b) Reg.MBX.TIMEOUT), fw := (d.mb b).fw ++ [d.goCmd b] } := by
  have hc : (!d.coresRun (mbxHalf b) || (d.g (mbxPg b) Reg.MBX.CMD_OPCODE == opQueryTag && !(d.hs (mbxHalf b)).restored)) =
      false := by
    rw [hr]
    by_cases ho : d.g (mbxPg b) Reg.MBX.CMD_OPCODE = opQueryTag
    · simp [hq ho]
    · simp [ho]
  unfold mbxGone
  rw [if_neg h, if_neg (Nat.not_lt.2 hl)]
  simp only [hc]
  rfl

end

theorem Dev.mb_congr {d e : Dev} (h : e.mbx = d.mbx) (b : Nat) : e.mb b = d.mb b := by
  unfold Dev.mb
  rw [h]

theorem Dev.g_setMb (d : Dev) (b : Nat) (m : Mbx) (a : Nat) (f : Fld) : (d.setMb b m).g a f = d.g a f := rfl

theorem Dev.evt_setMb (d : Dev) (b : Nat) (m : Mbx) (pg k : Nat) : (d.setMb b m).evt pg k = d.evt pg k := rfl

/-- A refused GO: the completion, and nothing waits that did not. -/
theorem Dev.goRefused_spec (d : Dev) (b : Fin 4) {code : Nat} (hc : code < 256) :
    (d.goRefused b.val code).mbxState b.val = 2 ∧ (d.goRefused b.val code).g (mbxPg b.val) Reg.MBX.RSP_CODE = code ∧
      ((d.goRefused b.val code).mb b.val).fw = (d.mb b.val).fw ∧
      (d.goRefused b.val code).evt (mbxPg b.val) 0 = (d.evt (mbxPg b.val) 0).occur := by
  have hs := d.mbxComplete_state b code (d.g (mbxPg b.val) Reg.MBX.CMD_TAG) []
  have hcode := d.mbxComplete_code b code (d.g (mbxPg b.val) Reg.MBX.CMD_TAG) []
  have hevt := d.mbxComplete_done b code (d.g (mbxPg b.val) Reg.MBX.CMD_TAG) []
  rw [Nat.mod_eq_of_lt hc] at hcode
  unfold Dev.goRefused
  dsimp only
  split
  · exact ⟨hs, hcode, congrArg Mbx.fw (Dev.mb_congr (Dev.mbxComplete_mbx _ _ _ _ _) _), hevt⟩
  · refine ⟨(Dev.g_setMb _ _ _ _ _).trans hs, (Dev.g_setMb _ _ _ _ _).trans hcode, ?_, (Dev.evt_setMb _ _ _ _ _).trans hevt⟩
    rw [Dev.mb_setMb]
    rfl

/-- Taking up a SNAP_PROCESS writes in the GNS page alone. -/
theorem Dev.snapTaken_w (d : Dev) (b : Nat) (c : FwCmd) {a : Nat} (ha : a ≠ gnsPg + 0x208) : (d.snapTaken_ b c).w a = d.w a := by
  unfold Dev.snapTaken_
  split
  · exact d.w_p_ne _ _ _ _ ha
  · rfl

theorem Dev.snapTaken_evts (d : Dev) (b : Nat) (c : FwCmd) : (d.snapTaken_ b c).evts = d.evts := by
  unfold Dev.snapTaken_
  split <;> rfl

theorem mbxPg_lt (b : Fin 4) : mbxPg b.val + 0x1000 ≤ gnsPg := by
  simp only [mbxPg, gnsPg, pageAddr, Page.code, Half.num]
  omega

theorem exec_mbxGo {m : Master} {b : Fin 4} {s : State} (h : s.writable m (mbxPg b.val + 0x104)) :
    exec (.mbxGo m b) s = .next (s.withDev (mbxGone b.val (s.dev.regAccess m (mbxPg b.val + 0x104)))) :=
  congrArg Host.Outcome.next (State.onDev_writeAt h _)

/-- What a GO that firmware takes leaves: STATE is BUSY with the response empty, and no event occurs. -/
theorem goTaken_spec (d : Dev) (b : Fin 4) (m : Mbx) :
    let e := ((d.mbxPut b.val 1 0 0 []).snapTaken_ b.val (d.goCmd b.val)).setMb b.val m
    e.mbxState b.val = 1 ∧ e.mb b.val = m ∧ e.g (mbxPg b.val) Reg.MBX.RSP_CODE = 0 ∧
      e.g (mbxPg b.val) Reg.MBX.RSP_RLEN = 0 ∧ (∀ i < 64, e.w (mbxPg b.val + 0x300 + 4 * i) = 0) ∧ d.sameEvents e [] := by
  obtain ⟨hs, hc, -, hl⟩ := d.mbxPut_fields b.val 1 0 0 []
  have hw : ∀ o < 0x1000, (((d.mbxPut b.val 1 0 0 []).snapTaken_ b.val (d.goCmd b.val)).setMb b.val m).w (mbxPg b.val + o) =
      (d.mbxPut b.val 1 0 0 []).w (mbxPg b.val + o) := by
    intro o ho
    refine Dev.snapTaken_w _ _ _ ?_
    have := mbxPg_lt b
    omega
  have hg : ∀ f : Fld, f.off < 0x1000 →
      (((d.mbxPut b.val 1 0 0 []).snapTaken_ b.val (d.goCmd b.val)).setMb b.val m).g (mbxPg b.val) f =
        (d.mbxPut b.val 1 0 0 []).g (mbxPg b.val) f := by
    intro f hf
    unfold Dev.g
    rw [hw _ hf]
  refine ⟨(hg _ (by decide)).trans hs, Dev.mb_setMb _ _ _, (hg _ (by decide)).trans hc, (hg _ (by decide)).trans hl,
    fun i hi => ?_, Dev.sameEvents_of_evts ?_⟩
  · rw [Nat.add_assoc, hw _ (by omega), ← Nat.add_assoc, Dev.mbxPut_payload _ _ _ _ _ _ hi]
    rfl
  · show ((d.mbxPut b.val 1 0 0 []).snapTaken_ b.val (d.goCmd b.val)).evts = d.evts
    rw [Dev.snapTaken_evts, (d.mbxPut_onlyRegs _ _ _ _ _).evts]

/-- Settles O15, a case of `mbxGone` at a time. -/
theorem mailboxGoHandsCommandToFirmware : Obligations.MailboxGoHandsCommandToFirmware := by
  refine ⟨fun m b s hw hb => ⟨_, exec_mbxGo hw, ?_⟩, fun m b s hw hb hl => ⟨_, exec_mbxGo hw, ?_⟩,
    fun m b s hw hb hl hd => ⟨_, exec_mbxGo hw, ?_⟩, fun m b s hw hb hl hr hq => ⟨_, s.dev.goCmd b.val, exec_mbxGo hw, ?_⟩⟩
  · rw [mbxGone_busy (d := s.dev.regAccess m _) hb]
    exact ⟨Dev.evt_raise_own _ (evtImplemented_mbx b (by decide)),
      State.onlyTouches_withDev (fun _ _ => rfl) (Dev.sameEvents_raise _ _ _) ⟨rfl, fun _ => rfl⟩⟩
  · rw [mbxGone_long (d := s.dev.regAccess m _) hb hl]
    obtain ⟨hs, hc, hf, he⟩ := (s.dev.regAccess m (mbxPg b.val + 0x104)).goRefused_spec b (code := codeBadLen) (by decide)
    exact ⟨hs, hc, hf, he, rfl, rfl⟩
  · rw [mbxGone_down (d := s.dev.regAccess m _) hb hl hd]
    obtain ⟨hs, hc, hf, he⟩ := (s.dev.regAccess m (mbxPg b.val + 0x104)).goRefused_spec b (code := codeHalfDown) (by decide)
    exact ⟨hs, hc, hf, he, rfl, rfl⟩
  · rw [mbxGone_taken (d := s.dev.regAccess m _) hb hl hr hq]
    obtain ⟨hs, hm, hc, hn, hz, he⟩ := goTaken_spec (s.dev.regAccess m (mbxPg b.val + 0x104)) b _
    exact ⟨hs, congrArg Mbx.fw hm, congrArg Mbx.cur hm, rfl, rfl, rfl, rfl, hc, hn, hz, he, rfl, rfl⟩

end Sys2Proof.Machine
end

section
/-! PROOF. The housekeeping commands and the completion of a command (R63, R64, R67): O16 and O17. -/

namespace Sys2Proof.Machine

/-- A commit that keeps the device changes the mailboxes alone. -/
theorem State.onlyTouches_mbx {s : State} {e : Dev} (h : { e with mbx := s.dev.mbx } = s.dev) :
    s.onlyTouches { s.withDev e with dev := { e with mbx := s.dev.mbx } } [] [] := by
  have hs : ({ s.withDev e with dev := { e with mbx := s.dev.mbx } } : State) = s := congrArg s.withDev h
  rw [hs]
  exact ⟨fun _ _ => rfl, fun _ _ _ => rfl, ⟨rfl, fun _ => rfl⟩, rfl, rfl⟩

/-- The commit of QUERY_TAG, which is not retained (R64). -/
theorem Dev.mbxCommit_queryTag {d : Dev} {b : Nat} {c : FwCmd} (hw : (d.mb b).waiting opQueryTag = some c)
    (hr : d.coresRun (mbxHalf b) = true) (f : FwCmd → Dev → FwResult) :
    d.mbxCommit b opQueryTag f =
      (f c d).dev.setMb b (((f c d).dev.mb b).finish c (f c d).code (f c d).rsp) := by
  unfold Dev.mbxCommit
  simp [hw, hr]

section
variable {b : Nat} {c : FwCmd} {d : Dev} (hl : c.len = 1)
include hl

theorem tagQueried_unknown (h : (d.mb b).retained.find? (fun r => r.tag == (c.req[0]?.getD 0).toNat % 256) = none) :
    tagQueried b c d = { dev := d, code := codeUnknownTag } := by
  unfold tagQueried
  rw [if_neg (not_not.2 hl)]
  simp only [h]

theorem tagQueried_known {r : Retained}
    (h : (d.mb b).retained.find? (fun r => r.tag == (c.req[0]?.getD 0).toNat % 256) = some r) :
    tagQueried b c d =
      { dev := d, code := codeOK, rsp := [BitVec.ofNat 32 (r.code * 256 + (c.req[0]?.getD 0).toNat % 256)] } := by
  unfold tagQueried
  rw [if_neg (not_not.2 hl)]
  simp only [h]

end

/-- The commit of a QUERY_TAG whose result keeps the device: the command is finished, and the mailbox retains what it did. -/
theorem exec_queryTag {b : Fin 4} {s : State} {c : FwCmd} (hw : (s.dev.mb b.val).waiting 0x0001 = some c)
    (hr : s.dev.coresRun (mbxHalf b.val) = true) {code : Nat} {rsp : List Word}
    (h : tagQueried b.val c s.dev = { dev := s.dev, code := code, rsp := rsp }) :
    ∃ t, exec (.queryTag b) s = .next t ∧
      (t.dev.mb b.val).fw = (s.dev.mb b.val).fw.map (fun x => if x.id = c.id then { x with done := some (code, rsp) } else x) ∧
      (t.dev.mb b.val).retained = (s.dev.mb b.val).retained ∧
      s.onlyTouches { t with dev := { t.dev with mbx := s.dev.mbx } } [] [] := by
  have he := next_onDev (f := fun d => d.mbxCommit b.val 0x0001 (tagQueried b.val)) (Dev.mbxCommit_queryTag hw hr _)
  rw [h] at he
  refine ⟨_, he, ?_, ?_, State.onlyTouches_mbx rfl⟩
  · rw [State.withDev_dev, Dev.mb_setMb]
    rfl
  · rw [State.withDev_dev, Dev.mb_setMb]
    rfl

/-- Settles O16: each of the three commits keeps the device and hands over its own response. -/
theorem housekeepingCommandsCommit : Obligations.HousekeepingCommandsCommit := by
  refine ⟨fun b s c hw hr => ?echo, fun b s c hw hl hr => ?query, fun b s c hw hl hr => ?version⟩
  case echo =>
    have hc : s.atCommit b.val 0x0000 c := ⟨hw, hr⟩
    refine ⟨_, next_onDev (Dev.mbxCommit_eq hc (by decide) echoed), ?_, State.onlyTouches_mbx rfl⟩
    exact (echoed c s.dev).handed_finished b.val c rfl rfl
  case query =>
    cases hf : (s.dev.mb b.val).retained.find? (fun r => r.tag == (c.req[0]?.getD 0).toNat % 256) with
    | none => simpa only [hf] using exec_queryTag hw hr (tagQueried_unknown hl hf)
    | some r => simpa only [hf] using exec_queryTag hw hr (tagQueried_known hl hf)
  case version =>
    have hc : s.atCommit b.val 0x0002 c := ⟨hw, hr⟩
    have hv : versionRead (mbxHalf b.val) c s.dev =
        { dev := s.dev, code := codeOK, rsp := (List.range 4).map (s.dev.versionWord (mbxHalf b.val)) } :=
      if_neg (not_not.2 hl)
    have he := next_onDev (f := fun d => d.mbxCommit b.val 0x0002 (versionRead (mbxHalf b.val))) (Dev.mbxCommit_eq hc (by decide) _)
    rw [hv] at he
    exact ⟨_, he, State.finished_handed b.val c rfl, State.onlyTouches_mbx rfl⟩

section
variable {d : Dev} {b : Nat} {c : FwCmd}

theorem mbxFinished_done {code : Nat} {ws : List Word}
    (hf : (d.mb b).fw.find? (fun c => c.done.isSome || !(issuedOpcodes.contains c.opcode)) = some c)
    (hd : c.done = some (code, ws)) (hr : d.coresRun (mbxHalf b) = true) (hb : d.mbxState b = 1) (hc : (d.mb b).cur = c.id) :
    mbxFinished b d =
      (d.setMb b { d.mb b with fw := (d.mb b).fw.filter fun x => x.id != c.id }).mbxComplete b code c.tag ws := by
  simp only [mbxFinished, hf]
  simp [hr, hd, hb, hc]

theorem mbxTimedOut_open (hb : d.mbxState b = 1) (ht : (d.mb b).goAt + (d.mb b).limitMs * 250000 ≤ d.now)
    (hf : (d.mb b).fw.find? (fun c => c.id == (d.mb b).cur) = some c) (hd : c.done = none) (ho : c.opcode ≠ 1) :
    mbxTimedOut b d = (d.mbxComplete b codeTimeout c.tag []).setMb b
      ((d.mb b).retain { id := c.id, code := codeTimeout, tag := c.tag, isOpen := true }) := by
  unfold mbxTimedOut
  simp only [hb, Nat.not_lt.2 ht, hf, hd]
  simp [ho, opQueryTag]

end

/-- Settles O17 through what a completion writes (`Dev.mbxPut_fields`) and the mailbox that is put beside it. -/
theorem mailboxCompletesOnceWithCode : Obligations.MailboxCompletesOnceWithCode := by
  refine ⟨fun b s c code ws hf hd hr hb hc => ?done, fun b s c hb ht hf hd ho => ?timeout⟩
  case done =>
    refine ⟨_, next_onDev (mbxFinished_done hf hd hr hb hc), Dev.mbxComplete_state _ _ _ _ _, Dev.mbxComplete_code _ _ _ _ _,
      Dev.mbxComplete_tag _ _ _ _ _, fun i hi => Dev.mbxPut_payload _ _ _ _ _ _ hi, ?_, Dev.mbxComplete_done _ _ _ _ _,
      fun p j hj => ?_, rfl, rfl⟩
    · rw [State.withDev_dev, Dev.mb_congr (Dev.mbxComplete_mbx _ _ _ _ _), Dev.mb_setMb]
    · rw [State.withDev_dev, Dev.mbxComplete_evt, Dev.evt_raise_ne _ (by simpa using hj), Dev.evt_setMb]
  case timeout =>
    have hbeside {a : Nat} {f : Fld} {x : Nat} {e : Dev} {m : Mbx} (h : e.g a f = x) : (e.setMb b.val m).g a f = x := h
    refine ⟨_, next_onDev (mbxTimedOut_open hb ht hf hd ho), hbeside (Dev.mbxComplete_state _ _ _ _ _),
      hbeside (Dev.mbxComplete_code _ _ _ _ _), ?_, ?_, ?_, s.keepsRest_withDev _⟩
    · rw [State.withDev_dev, Dev.mb_setMb]
      rfl
    · rw [State.withDev_dev, Dev.mb_setMb]
      rfl
    · rw [State.withDev_dev, Dev.evt_setMb, Dev.mbxComplete_done]

end Sys2Proof.Machine
end

section
/-! SUPPORT. Devices that differ in words and events of two lists at most, and the timebases: what a replaced one changes. -/

namespace Sys2Proof.Machine

/-- Two devices differ in words and events of two lists at most, and every engine is as it was. -/
def Dev.touches (d e : Dev) (words events : List Nat) : Prop := d.sameWords e words ∧ d.sameEvents e events ∧ d.sameUnits e

theorem Dev.touches.refl (d : Dev) (ws es : List Nat) : d.touches d ws es :=
  ⟨fun _ _ => rfl, fun _ _ _ => rfl, rfl, fun _ => rfl⟩

section
variable {d e : Dev} {ws es : List Nat} (h : d.touches e ws es)
include h

theorem Dev.touches.setw {a : Nat} (hm : a ∈ ws) (v : Nat) : d.touches (e.setw a v) ws es := by
  obtain ⟨hw, he, hu⟩ := h
  exact ⟨(hw.trans (e.sameWords_setw a v)).mono (by simpa using hm), he, hu.setw _ _⟩

theorem Dev.touches.p {b : Nat} {f : Fld} (hm : b + f.off ∈ ws) (v : Nat) : d.touches (e.p b f v) ws es := h.setw hm _

theorem Dev.touches.pb {b : Nat} {f : Fld} (hm : b + f.off ∈ ws) (v : Bool) : d.touches (e.pb b f v) ws es := h.setw hm _

theorem Dev.touches.raise {pg k : Nat} (hm : pg + k ∈ es) : d.touches (e.raise pg k) ws es := by
  obtain ⟨hw, he, hu⟩ := h
  refine ⟨hw.raise _ _, fun p j hj => ?_, hu.raise _ _⟩
  rw [e.sameEvents_raise pg k p j (fun hp => hj (List.mem_singleton.1 hp ▸ hm)), he p j hj]

theorem Dev.touches.raiseIf {pg k : Nat} (hm : pg + k ∈ es) (c : Bool) : d.touches (e.raiseIf c pg k) ws es := by
  cases c
  · exact h
  · exact h.raise hm

theorem Dev.touches.mono {ws' es' : List Nat} (hw : ws ⊆ ws') (he : es ⊆ es') : d.touches e ws' es' :=
  ⟨h.1.mono hw, fun p j hj => h.2.1 p j fun hm => hj (he hm), h.2.2⟩

end

/-- A command that touches words and events alone. -/
theorem Dev.touches.onlyTouches {s : State} {e : Dev} {ws es : List Nat} (h : s.dev.touches e ws es) :
    s.onlyTouches (s.withDev e) ws es := by
  obtain ⟨hw, he, hu⟩ := h
  exact ⟨hw, he, hu, rfl, rfl⟩

/-- The access of a performed write touches no word and no event. -/
theorem Dev.touches_regAccess (d : Dev) (m : Master) (a : Nat) (ws es : List Nat) : d.touches (d.regAccess m a) ws es :=
  ⟨fun _ _ => rfl, fun _ _ _ => rfl, rfl, fun _ => rfl⟩

/-- A performed write, as its effect on the device that was accessed. -/
theorem exec_of_writeAt {c : Instr} {s : State} {m : Master} {a : Nat} {f : Dev → Dev}
    (hc : exec c s = .next (s.onDev fun d => d.writeAt m a f)) (h : s.writable m a) :
    exec c s = .next (s.withDev (f (s.dev.regAccess m a))) :=
  hc.trans (congrArg Host.Outcome.next (State.onDev_writeAt h f))

theorem Dev.gb_pb_beside (d : Dev) (b : Nat) (f : Fld) (v : Bool) (f' : Fld) (ho : f'.off = f.off) (hf : f.lo + f.len ≤ 32)
    (h : f.lo + f.len ≤ f'.lo ∨ f'.lo + f'.len ≤ f.lo) : (d.pb b f v).gb b f' = d.gb b f' := by
  unfold Dev.gb
  rw [Dev.g_pb_beside d b f v f' ho hf h]

theorem Dev.gb_congr {d e : Dev} (hr : e.regs = d.regs) (b : Nat) (f : Fld) : e.gb b f = d.gb b f := by
  unfold Dev.gb
  rw [Dev.g_congr hr]

/-! ### Timebases -/

section
variable (d : Dev) (h : Half) (n : Nat) (x : Tbase)

@[simp] theorem Dev.tb_setTb_same : (d.setTb h n x).tb h n = x := by
  unfold Dev.tb Dev.setTb
  exact Tab.get_set_same _ _ _ _

theorem Dev.tb_setTb_ne {g : Half} {k : Nat} (hne : g.num * 16 + k ≠ h.num * 16 + n) : (d.setTb h n x).tb g k = d.tb g k := by
  unfold Dev.tb Dev.setTb
  exact Tab.get_set_ne _ _ _ _ _ hne

theorem Dev.tb_of_index {g : Half} {k : Nat} (hi : g.num * 16 + k = h.num * 16 + n) : d.tb g k = d.tb h n := by
  unfold Dev.tb
  rw [hi]

theorem Dev.tb_congr {d e : Dev} (ht : e.tbs = d.tbs) (h : Half) (n : Nat) : e.tb h n = d.tb h n := by
  unfold Dev.tb
  rw [ht]

theorem Dev.count_congr {d e : Dev} (ht : e.tbs = d.tbs) (h : Half) (n : Nat) : e.count h n = d.count h n :=
  congrArg Tbase.count (Dev.tb_congr ht h n)

theorem Dev.sec_congr {d e : Dev} (ht : e.tbs = d.tbs) (h : Half) (n : Nat) : e.sec h n = d.sec h n :=
  congrArg secOf (Dev.count_congr ht h n)

/-- A timebase replaced by one of the same count: no count moves. -/
theorem Dev.count_setTb (hc : x.count = d.count h n) (g : Half) (k : Nat) : (d.setTb h n x).count g k = d.count g k := by
  by_cases hi : g.num * 16 + k = h.num * 16 + n
  · unfold Dev.count
    rw [Dev.tb_of_index _ _ _ hi, Dev.tb_setTb_same, Dev.tb_of_index d _ _ hi]
    exact hc
  · unfold Dev.count
    rw [Dev.tb_setTb_ne _ _ _ _ hi]

@[simp] theorem Dev.w_setTb (a : Nat) : (d.setTb h n x).w a = d.w a := rfl
@[simp] theorem Dev.g_setTb (b : Nat) (f : Fld) : (d.setTb h n x).g b f = d.g b f := rfl
@[simp] theorem Dev.gb_setTb (b : Nat) (f : Fld) : (d.setTb h n x).gb b f = d.gb b f := rfl
@[simp] theorem Dev.evt_setTb (pg k : Nat) : (d.setTb h n x).evt pg k = d.evt pg k := rfl

end

theorem Dev.sameUnits.tbs {d e : Dev} (h : d.sameUnits e) : e.tbs = d.tbs := by
  have ht := congrArg Dev.tbs h.1
  exact ht

/-- An update that touches words and events alone, and then one timebase but for its count. -/
theorem Dev.touches.onlyTb {s : State} {e : Dev} {h : Half} {n : Nat} {x : Tbase} {ws es : List Nat}
    (ht : s.dev.touches e ws es) (hc : x.count = s.dev.count h n) : s.onlyTb (s.withDev (e.setTb h n x)) h n ws es := by
  have hu : e.tbs = s.dev.tbs := ht.2.2.tbs
  have he : ({ e.setTb h n x with tbs := s.dev.tbs } : Dev) = e := by
    rw [← hu]
    rfl
  refine ⟨?_, fun g k hi => ?_, fun g k => ?_⟩
  · exact he.symm ▸ ht.onlyTouches
  · exact (Dev.tb_setTb_ne _ _ _ _ hi).trans (Dev.tb_congr hu g k)
  · exact (e.count_setTb h n x (hc.trans (Dev.count_congr hu h n).symm) g k).trans (Dev.count_congr hu g k)

/-- An update that touches words and events alone leaves every timebase. -/
theorem Dev.touches.onlyTb_of_words {s : State} {e : Dev} {ws es : List Nat} (ht : s.dev.touches e ws es) (h : Half) (n : Nat) :
    s.onlyTb (s.withDev e) h n ws es := by
  have hu : e.tbs = s.dev.tbs := ht.2.2.tbs
  have he : ({ e with tbs := s.dev.tbs } : Dev) = e := by rw [← hu]
  exact ⟨he.symm ▸ ht.onlyTouches, fun g k _ => Dev.tb_congr hu g k, fun g k => Dev.count_congr hu g k⟩

theorem typeAt_tsuPg (h : Half) (n : Fin 16) : typeAt (tsuPg h n.val) = some .tsu := by
  revert n
  cases h <;> decide

/-- The six event words of a timebase's block are implemented (R92). -/
theorem evtImplemented_tsu (h : Half) (n : Fin 16) {k : Nat} (hk : k < 6) :
    evtImplemented (tsuPg h n.val) (tbEvt n.val k) = true := by
  revert n
  interval_cases k <;> cases h <;> decide

end Sys2Proof.Machine
end

section
/-! PROOF. The writes of the TSU page (R74 to R76): O18. -/

namespace Sys2Proof.Machine

section
variable {s : State} {h : Half} {n : Fin 16}

theorem stepAsked_waits {d : Dev} (hp : d.gb (tsuB h n.val) Reg.TSU.STAT_STEP_PEND = true) : stepAsked h n.val d = d := if_pos hp

theorem stepAsked_idle {d : Dev} (hp : d.gb (tsuB h n.val) Reg.TSU.STAT_STEP_PEND = false) : stepAsked h n.val d =
    (d.pb (tsuB h n.val) Reg.TSU.STAT_STEP_PEND true).setTb h n.val { d.tb h n.val with stepReq := d.sec h n.val } :=
  if_neg (by simp [hp])

theorem exec_step {m : Master} (hw : s.writable m (tsuB h n.val)) :
    exec (.step m h n) s = .next (s.withDev (stepAsked h n.val (s.dev.regAccess m (tsuB h n.val)))) := exec_of_writeAt rfl hw

/-- The 48-bit value whose high half-word is written. -/
theorem mod_of_half (v : BitVec 16) : v.toNat % 2 ^ 16 = v.toNat := Nat.mod_eq_of_lt v.isLt

end

/-- Settles O18: each write takes its value in words of its own block and in its own timebase, whose count it leaves. -/
theorem timebaseWritesLeaveCounts : Obligations.TimebaseWritesLeaveCounts := by
  unfold Obligations.TimebaseWritesLeaveCounts
  refine ⟨fun m h n s hw hp => ?_, fun m h n s hw hp => ?_, fun m h n v s hw => ?_, fun m h n v s hw => ?_, fun m h n s hw => ?_⟩
  · refine ⟨_, exec_step hw, ?_⟩
    rw [stepAsked_idle (d := s.dev.regAccess m _) hp]
    exact ⟨Dev.gb_pb_same _ _ _ _ (by decide) (by decide), congrArg Tbase.stepReq (Dev.tb_setTb_same _ _ _ _),
      ((s.dev.touches_regAccess m _ _ _).pb (by simp [Reg.TSU.STAT_STEP_PEND]) _).onlyTb rfl⟩
  · refine ⟨_, exec_step hw, ?_⟩
    rw [stepAsked_waits (d := s.dev.regAccess m _) hp]
    exact (s.dev.touches_regAccess m _ _ _).onlyTouches
  · intro x
    have ht : s.dev.touches ((s.dev.regAccess m (tsuB h n.val + 0x34)).p (tsuB h n.val) Reg.TSU.FADJ_HI v.toNat)
        [tsuB h n.val + 0x34] [] := (s.dev.touches_regAccess m _ _ _).p (by simp [Reg.TSU.FADJ_HI]) _
    refine ⟨_, exec_of_writeAt rfl hw, ?_⟩
    unfold fadjWritten
    rw [mod_of_half]
    refine ⟨congrArg Tbase.fadjTgt (Dev.tb_setTb_same _ _ _ _), fun hx => ?_, fun hx => ?_, ?_⟩
    · have hn : decide (clampFadj x ≠ x) = true := decide_eq_true hx
      exact (Dev.evt_raiseIf _ _ _ _ _ _).trans ((if_pos hn).trans (Dev.evt_raise_own _ (evtImplemented_tsu h n (by decide))))
    · have hn : decide (clampFadj x ≠ x) = false := decide_eq_false (not_not.2 hx)
      exact fun pg k _ => (Dev.evt_raiseIf _ _ _ _ _ _).trans (if_neg (Bool.eq_false_iff.1 hn))
    · exact ((ht.mono (List.Subset.refl _) (List.nil_subset _)).raiseIf (List.mem_singleton_self _) _).onlyTb rfl
  · intro x
    refine ⟨_, exec_of_writeAt rfl hw, ?_⟩
    unfold padjWritten
    rw [mod_of_half]
    refine ⟨congrArg Tbase.padjRem (Dev.tb_setTb_same _ _ _ _), ?_, ?_⟩
    · rw [State.withDev_dev, Dev.gb_setTb, Dev.gb_pb_same _ _ _ _ (by decide) (by decide)]
      exact decide_eq_true_iff
    · exact (((s.dev.touches_regAccess m _ _ _).p (by simp [Reg.TSU.PADJ_HI]) _).pb (by simp [Reg.TSU.STAT_PADJ_BUSY]) _).onlyTb rfl
  · exact ⟨_, exec_of_writeAt rfl hw, congrArg Tbase.padjRem (Dev.tb_setTb_same _ _ _ _),
      Dev.gb_pb_same _ _ _ _ (by decide) (by decide),
      ((s.dev.touches_regAccess m _ _ _).pb (by simp [Reg.TSU.STAT_PADJ_BUSY]) _).onlyTb rfl⟩

end Sys2Proof.Machine
end

section
/-! PROOF. Domain switches (R72, R84, R85): O20. -/

namespace Sys2Proof.Machine

/-- A timebase may begin to follow its ALT (R85). -/
def Dev.mayFollow (d : Dev) (h : Half) (n : Nat) : Prop :=
  d.g (tsuB h n) Reg.TSU.CTRL_ALT ≠ n ∧ d.gb (tsuB h (d.g (tsuB h n) Reg.TSU.CTRL_ALT)) Reg.TSU.CTRL_DOM_SEL = false

section
variable {d : Dev} {h : Half} {n : Nat} {v : Bool}

theorem domSelWritten_same (hv : d.gb (tsuB h n) Reg.TSU.CTRL_DOM_SEL = v) : domSelWritten h n v d = d := if_pos hv

theorem domSelWritten_refused (hv : d.gb (tsuB h n) Reg.TSU.CTRL_DOM_SEL = false) (hm : ¬ d.mayFollow h n) :
    domSelWritten h n true d =
      (d.pb (tsuB h n) Reg.TSU.CTRL_DOM_SEL false).raise (tsuPg h n) (tbEvt n 4) := by
  refine (if_neg (by simp [hv])).trans (if_pos ?_)
  unfold Dev.mayFollow at hm
  by_contra hc
  exact hm (by simpa using hc)

theorem domSelWritten_taken (hv : d.gb (tsuB h n) Reg.TSU.CTRL_DOM_SEL ≠ v) (hm : v = true → d.mayFollow h n) :
    domSelWritten h n v d = ((d.pb (tsuB h n) Reg.TSU.CTRL_DOM_SEL v).pb (tsuB h n) Reg.TSU.STAT_DSW_ACTIVE true).setTb h n
      { d.tb h n with dswRun := 0 } := by
  refine (if_neg hv).trans (if_neg ?_)
  cases v
  · simp
  · have hf := hm rfl
    unfold Dev.mayFollow at hf
    simpa using hf

/-- The device with a measurement of DOM_OFS noted. -/
def Dev.domNoted (d : Dev) (h : Half) (n : Nat) (own : Int) : Dev :=
  (d.setTb h n { d.tb h n with domNo := (d.tb h n).domNo + 1, domAt := d.count h 0, domOwn := own }).ps48 (tsuB h n)
    Reg.TSU.DOM_OFS_LO Reg.TSU.DOM_OFS_HI (d.domOfs h n)

/-- The offset by which the end of a switch is judged (R84). -/
def Dev.switchOfs (d : Dev) (h : Half) (n : Nat) (own : Int) : Int :=
  if d.gb (tsuB h n) Reg.TSU.CTRL_DOM_SEL then d.domOfs h n else own

/-- The measurements in a row within 1 ns, this one taken in. -/
def Dev.domRun (d : Dev) (h : Half) (n : Nat) (own : Int) : Nat :=
  if (d.switchOfs h n own).natAbs ≤ 1000 then (d.tb h n).dswRun + 1 else 0

theorem domOfsMeasured_idle (hs : d.gb (tsuB h n) Reg.TSU.STAT_DSW_ACTIVE = false) (own : Int) :
    domOfsMeasured h n own d = d.domNoted h n own := if_neg (by simp [hs])

theorem domOfsMeasured_ends (hs : d.gb (tsuB h n) Reg.TSU.STAT_DSW_ACTIVE = true) {own : Int} (hr : 16 ≤ d.domRun h n own) :
    domOfsMeasured h n own d = (((d.domNoted h n own).pb (tsuB h n) Reg.TSU.STAT_DSW_ACTIVE false).raise (tsuPg h n)
      (tbEvt n 3)).setTb h n { (d.domNoted h n own).tb h n with dswRun := 0 } := (if_pos hs).trans (if_pos hr)

theorem domOfsMeasured_goesOn (hs : d.gb (tsuB h n) Reg.TSU.STAT_DSW_ACTIVE = true) {own : Int} (hr : d.domRun h n own < 16) :
    domOfsMeasured h n own d = (d.domNoted h n own).setTb h n
      { (d.domNoted h n own).tb h n with dswRun := d.domRun h n own } := (if_pos hs).trans (if_neg (Nat.not_le.2 hr))

end

/-- A 48-bit value put in a low word and a high half-word reads back. -/
theorem Dev.g2_p2 (d : Dev) (b : Nat) {lo hi : Fld} (hlo : lo.lo = 0 ∧ lo.len = 32) (hhi : hi.lo = 0 ∧ hi.len = 16)
    (hne : lo.off ≠ hi.off) {v : Nat} (hv : v < 2 ^ 48) : (d.p2 b lo hi v).g2 b lo hi = v := by
  obtain ⟨l0, l32⟩ := hlo
  obtain ⟨h0, h16⟩ := hhi
  unfold Dev.g2 Dev.p2
  rw [Dev.g_p_ne _ _ _ _ _ _ (by omega), Dev.g_p_same _ _ _ _ (by omega), Dev.g_p_same _ _ _ _ (by omega), l32, h16]
  omega

theorem unsignedOf_lt (w : Nat) (i : Int) : unsignedOf w i < 2 ^ w := by
  have hp : (0 : Int) < 2 ^ w := by positivity
  have h0 := Int.emod_nonneg i hp.ne'
  have h1 := Int.emod_lt_of_pos i hp
  unfold unsignedOf
  zify
  rw [Int.toNat_of_nonneg h0]
  exact h1

theorem Dev.g2_ps48 (d : Dev) (b : Nat) {lo hi : Fld} (hlo : lo.lo = 0 ∧ lo.len = 32) (hhi : hi.lo = 0 ∧ hi.len = 16)
    (hne : lo.off ≠ hi.off) (v : Int) : (d.ps48 b lo hi v).g2 b lo hi = unsignedOf 48 v :=
  d.g2_p2 b hlo hhi hne (unsignedOf_lt _ _)

/-- A field elsewhere leaves a value of two fields as it was. -/
theorem Dev.g2_p_ne (d : Dev) {b a : Nat} {f lo hi : Fld} (v : Nat) (hlo : b + lo.off ≠ a + f.off) (hhi : b + hi.off ≠ a + f.off) :
    (d.p a f v).g2 b lo hi = d.g2 b lo hi := by
  unfold Dev.g2
  rw [Dev.g_p_ne _ _ _ _ _ _ hlo, Dev.g_p_ne _ _ _ _ _ _ hhi]

/-- Two devices differ in words and events of two lists at most, and in one timebase but for its count. -/
def Dev.touchesTb (d e : Dev) (h : Half) (n : Nat) (ws es : List Nat) : Prop :=
  d.touches { e with tbs := d.tbs } ws es ∧ d.otherTbs e h n ∧ ∀ g k, e.count g k = d.count g k

theorem Dev.touchesTb.refl (d : Dev) (h : Half) (n : Nat) (ws es : List Nat) : d.touchesTb d h n ws es :=
  ⟨Dev.touches.refl d ws es, fun _ _ _ => rfl, fun _ _ => rfl⟩

section
variable {d e : Dev} {h : Half} {n : Nat} {ws es : List Nat} (ht : d.touchesTb e h n ws es)
include ht

theorem Dev.touchesTb.p {b : Nat} {f : Fld} (hm : b + f.off ∈ ws) (v : Nat) : d.touchesTb (e.p b f v) h n ws es :=
  ⟨ht.1.p hm v, ht.2.1, ht.2.2⟩

theorem Dev.touchesTb.pb {b : Nat} {f : Fld} (hm : b + f.off ∈ ws) (v : Bool) : d.touchesTb (e.pb b f v) h n ws es := ht.p hm _

theorem Dev.touchesTb.raise {pg k : Nat} (hm : pg + k ∈ es) : d.touchesTb (e.raise pg k) h n ws es :=
  ⟨ht.1.raise hm, ht.2.1, ht.2.2⟩

theorem Dev.touchesTb.raiseIf {pg k : Nat} (hm : pg + k ∈ es) (c : Bool) : d.touchesTb (e.raiseIf c pg k) h n ws es :=
  ⟨ht.1.raiseIf hm c, ht.2.1, ht.2.2⟩

theorem Dev.touchesTb.setTb {x : Tbase} (hc : x.count = e.count h n) : d.touchesTb (e.setTb h n x) h n ws es :=
  ⟨ht.1, fun g k hi => (Dev.tb_setTb_ne _ _ _ _ hi).trans (ht.2.1 g k hi),
    fun g k => (e.count_setTb h n x hc g k).trans (ht.2.2 g k)⟩

end

theorem Dev.touchesTb.onlyTb {s : State} {e : Dev} {h : Half} {n : Nat} {ws es : List Nat} (ht : s.dev.touchesTb e h n ws es) :
    s.onlyTb (s.withDev e) h n ws es := ⟨ht.1.onlyTouches, ht.2.1, ht.2.2⟩

/-- A measurement of DOM_OFS is a change of two words and of the timebase's own notes. -/
theorem Dev.domNoted_touchesTb {ws : List Nat} (d : Dev) (h : Half) (n : Nat) (own : Int) (es : List Nat)
    (hlo : tsuB h n + 0x4C ∈ ws) (hhi : tsuB h n + 0x50 ∈ ws) : d.touchesTb (d.domNoted h n own) h n ws es := by
  have h0 : d.touchesTb (d.setTb h n { d.tb h n with domNo := (d.tb h n).domNo + 1, domAt := d.count h 0, domOwn := own }) h n ws
      es := (Dev.touchesTb.refl d h n ws es).setTb rfl
  exact (h0.p (f := Reg.TSU.DOM_OFS_LO) hlo _).p (f := Reg.TSU.DOM_OFS_HI) hhi _

theorem Dev.domNoted_evts (d : Dev) (h : Half) (n : Nat) (own : Int) : (d.domNoted h n own).evts = d.evts := by
  unfold Dev.domNoted Dev.ps48 Dev.p2
  rw [Dev.p_evts, Dev.p_evts]
  rfl

theorem Dev.domNoted_ofs (d : Dev) (h : Half) (n : Nat) (own : Int) :
    (d.domNoted h n own).g2 (tsuB h n) Reg.TSU.DOM_OFS_LO Reg.TSU.DOM_OFS_HI = unsignedOf 48 (d.domOfs h n) :=
  Dev.g2_ps48 _ _ (by decide) (by decide) (by decide) _

@[simp] theorem Dev.g2_setTb (d : Dev) (h : Half) (n : Nat) (x : Tbase) (b : Nat) (lo hi : Fld) :
    (d.setTb h n x).g2 b lo hi = d.g2 b lo hi := rfl

@[simp] theorem Dev.g2_raise (d : Dev) (pg k b : Nat) (lo hi : Fld) : (d.raise pg k).g2 b lo hi = d.g2 b lo hi := rfl

theorem domRun_ge {d : Dev} {h : Half} {n : Nat} {own : Int} (hx : (d.switchOfs h n own).natAbs ≤ 1000)
    (hr : 15 ≤ (d.tb h n).dswRun) : 16 ≤ d.domRun h n own := by
  unfold Dev.domRun
  rw [if_pos hx]
  omega

theorem domRun_lt {d : Dev} {h : Half} {n : Nat} {own : Int}
    (hx : 1000 < (d.switchOfs h n own).natAbs ∨ (d.tb h n).dswRun < 15) : d.domRun h n own < 16 := by
  unfold Dev.domRun
  split <;> omega

section
variable {s : State} {h : Half} {n : Fin 16} {own : Int}

theorem exec_domOfsUpdate : exec (.domOfsUpdate h n own) s = .next (s.withDev (domOfsMeasured h n.val own s.dev)) := rfl

/-- A switch that has ended (R84). -/
def Dev.switchEnded (e : Dev) (h : Half) (n : Nat) : Dev :=
  ((e.pb (tsuB h n) Reg.TSU.STAT_DSW_ACTIVE false).raise (tsuPg h n) (tbEvt n 3)).setTb h n { e.tb h n with dswRun := 0 }

section
variable (d e : Dev)

theorem Dev.switchEnded_active : (e.switchEnded h n.val).gb (tsuB h n.val) Reg.TSU.STAT_DSW_ACTIVE = false := by
  rw [Dev.switchEnded, Dev.gb_setTb, Dev.gb_raise]
  exact Dev.gb_pb_same e _ _ _ (by decide) (by decide)

theorem Dev.switchEnded_ofs : (e.switchEnded h n.val).g2 (tsuB h n.val) Reg.TSU.DOM_OFS_LO Reg.TSU.DOM_OFS_HI =
    e.g2 (tsuB h n.val) Reg.TSU.DOM_OFS_LO Reg.TSU.DOM_OFS_HI := by
  rw [Dev.switchEnded, Dev.g2_setTb, Dev.g2_raise]
  exact Dev.g2_p_ne e _ (by simp [Reg.TSU.DOM_OFS_LO, Reg.TSU.STAT_DSW_ACTIVE])
    (by simp [Reg.TSU.DOM_OFS_HI, Reg.TSU.STAT_DSW_ACTIVE])

theorem Dev.switchEnded_evt : (e.switchEnded h n.val).evt (tsuPg h n.val) (tbEvt n.val 3) =
    (e.evt (tsuPg h n.val) (tbEvt n.val 3)).occur := by
  rw [Dev.switchEnded, Dev.evt_setTb, Dev.evt_raise_own _ (evtImplemented_tsu h n (by decide)), Dev.evt_pb]

theorem Dev.touchesTb.switchEnded {d e : Dev} {ws es : List Nat} (ht : d.touchesTb e h n.val ws es) (hw : tsuB h n.val + 4 ∈ ws)
    (he : tsuPg h n.val + tbEvt n.val 3 ∈ es) : d.touchesTb (e.switchEnded h n.val) h n.val ws es :=
  ((ht.pb (f := Reg.TSU.STAT_DSW_ACTIVE) hw false).raise he).setTb (Dev.count_congr (by simp) h n.val).symm

end

theorem exec_domOfsUpdate_ends (hs : s.dev.gb (tsuB h n.val) Reg.TSU.STAT_DSW_ACTIVE = true)
    (hr : 16 ≤ s.dev.domRun h n.val own) :
    exec (.domOfsUpdate h n own) s = .next (s.withDev ((s.dev.domNoted h n.val own).switchEnded h n.val)) := by
  rw [exec_domOfsUpdate, domOfsMeasured_ends hs hr]
  rfl

theorem exec_domOfsUpdate_goesOn
    (hx : s.dev.gb (tsuB h n.val) Reg.TSU.STAT_DSW_ACTIVE = true → s.dev.domRun h n.val own < 16) :
    ∃ t, exec (.domOfsUpdate h n own) s = .next t ∧
      t.dev.g2 (tsuB h n.val) Reg.TSU.DOM_OFS_LO Reg.TSU.DOM_OFS_HI = unsignedOf 48 (s.dev.domOfs h n.val) ∧
      s.onlyTb t h n.val [tsuB h n.val + 0x4C, tsuB h n.val + 0x50] [] := by
  have ht := s.dev.domNoted_touchesTb (ws := [tsuB h n.val + 0x4C, tsuB h n.val + 0x50]) h n.val own [] (by simp) (by simp)
  have ho := s.dev.domNoted_ofs h n.val own
  rw [exec_domOfsUpdate]
  cases hs : s.dev.gb (tsuB h n.val) Reg.TSU.STAT_DSW_ACTIVE with
  | false =>
    rw [domOfsMeasured_idle hs]
    generalize s.dev.domNoted h n.val own = e at ht ho
    exact ⟨_, rfl, ho, ht.onlyTb⟩
  | true =>
    rw [domOfsMeasured_goesOn hs (hx hs)]
    generalize s.dev.domNoted h n.val own = e at ht ho
    refine ⟨_, rfl, by rw [State.withDev_dev, Dev.g2_setTb, ho], (ht.setTb (x := { e.tb h n.val with dswRun := s.dev.domRun h n.val own }) rfl).onlyTb⟩

end

/-- Settles O20: a change of DOM_SEL starts the switch or is refused; a measurement stands in DOM_OFS, and ends the switch or not. -/
theorem domainSwitchSlewsWithoutStep : Obligations.DomainSwitchSlewsWithoutStep := by
  unfold Obligations.DomainSwitchSlewsWithoutStep
  refine ⟨fun m h n v s hw hv hm => ?_, fun m h n s hw hv hm => ?_, fun m h n v s hw hv => ?_, fun h n own s => ?_,
    fun h n own s => ?_⟩
  · refine ⟨_, exec_of_writeAt rfl hw, ?_⟩
    rw [domSelWritten_taken (d := s.dev.regAccess m _) hv hm, State.withDev_dev]
    refine ⟨?_, ?_, congrArg Tbase.dswRun (Dev.tb_setTb_same _ _ _ _), ?_⟩
    · exact (Dev.gb_p_ne _ _ _ _ _ _ (by simp [Reg.TSU.CTRL_DOM_SEL, Reg.TSU.STAT_DSW_ACTIVE])).trans
        (Dev.gb_pb_same _ _ _ _ (by decide) (by decide))
    · exact Dev.gb_pb_same _ _ _ _ (by decide) (by decide)
    · exact (((s.dev.touches_regAccess m _ _ _).pb (by simp [Reg.TSU.CTRL_DOM_SEL]) _).pb
        (by simp [Reg.TSU.STAT_DSW_ACTIVE]) _).onlyTb rfl
  · refine ⟨_, exec_of_writeAt rfl hw, ?_⟩
    have hn : ¬ (s.dev.regAccess m (tsuB h n.val)).mayFollow h n.val := by
      rintro ⟨ha, hf⟩
      rcases hm with hm | hm
      · exact ha hm
      · exact absurd (hm.symm.trans hf) (by decide)
    rw [domSelWritten_refused (d := s.dev.regAccess m _) hv hn, State.withDev_dev]
    exact ⟨Dev.gb_pb_same _ _ _ _ (by decide) (by decide), Dev.evt_raise_own _ (evtImplemented_tsu h n (by decide)),
      (((s.dev.touches_regAccess m _ _ _).pb (by simp [Reg.TSU.CTRL_DOM_SEL]) _).raise (List.mem_singleton_self _)).onlyTouches⟩
  · refine ⟨_, exec_of_writeAt rfl hw, ?_⟩
    rw [domSelWritten_same (d := s.dev.regAccess m _) hv]
    exact (s.dev.touches_regAccess m _ _ _).onlyTouches
  · intro x hs hx hr
    refine ⟨_, exec_domOfsUpdate_ends hs (domRun_ge hx hr), Dev.switchEnded_active _, ?_, ?_, ?_⟩
    · rw [State.withDev_dev, Dev.switchEnded_ofs, Dev.domNoted_ofs]
    · rw [State.withDev_dev, Dev.switchEnded_evt, Dev.evt_congr (s.dev.domNoted_evts h n.val own)]
    · exact ((s.dev.domNoted_touchesTb h n.val own _ (by simp) (by simp)).switchEnded (by simp) (by simp)).onlyTb
  · intro x hx
    exact exec_domOfsUpdate_goesOn fun hs => domRun_lt (hx.resolve_left (by simp [hs]))

end Sys2Proof.Machine
end

section
/-! SUPPORT. Words of different block types lie apart (R35), an invariant of a loop over the first naturals, and what leap and smear
status change. -/

namespace Sys2Proof.Machine

/-- An address lies in the pages of a block type. -/
def inBlock (p : Page) (a : Nat) : Prop := a / 0x10000 = p.code

theorem inBlock_pageAddr (p : Page) (h : Half) {i o : Nat} (hi : i * 0x1000 + o < 0x8000) : inBlock p (pageAddr p h i + o) := by
  have := half_num_lt h
  unfold inBlock pageAddr
  omega

theorem ne_of_inBlock {p q : Page} {a b : Nat} (ha : inBlock p a) (hb : inBlock q b) (hpq : p.code ≠ q.code := by decide) : a ≠ b := by
  rintro rfl
  exact hpq (ha.symm.trans hb)

theorem inBlock.not {p q : Page} {a : Nat} (ha : inBlock p a) (hpq : p.code ≠ q.code := by decide) : ¬ inBlock q a :=
  fun hb => ne_of_inBlock ha hb hpq rfl

/-- Fields whose words agree. -/
theorem Dev.g_of_w {d e : Dev} {b o : Nat} {f : Fld} (hw : e.w (b + o) = d.w (b + o)) (ho : f.off = o := by rfl) :
    e.g b f = d.g b f := by
  unfold Dev.g
  rw [ho, hw]

theorem Dev.gb_of_w {d e : Dev} {b o : Nat} {f : Fld} (hw : e.w (b + o) = d.w (b + o)) (ho : f.off = o := by rfl) :
    e.gb b f = d.gb b f := by
  unfold Dev.gb
  rw [Dev.g_of_w hw ho]

theorem inBlock_tsuB (h : Half) {n o : Nat} (hn : n < 16) (ho : o < 0xD00) : inBlock .tsu (tsuB h n + o) := by
  have := inBlock_pageAddr .tsu h (i := n / 4) (o := 0x100 + 0x80 * (n % 4) + o) (by omega)
  rwa [← Nat.add_assoc, ← Nat.add_assoc] at this

theorem inBlock_bndN (h : Half) {n o : Nat} (hn : n < 16) (ho : o < 0x1000) : inBlock .bnd (bndN h n + o) := by
  have := inBlock_pageAddr .bnd h (i := 0) (o := 0x100 + 0x20 * n + o) (by omega)
  rwa [← Nat.add_assoc, ← Nat.add_assoc] at this

theorem inBlock_selS (h : Half) {n o : Nat} (hn : n < 16) (ho : o < 0x1000) : inBlock .sel (selS h n + o) := by
  have := inBlock_pageAddr .sel h (i := 0) (o := 0x100 + 0x40 * n + o) (by omega)
  rwa [← Nat.add_assoc, ← Nat.add_assoc] at this

theorem inBlock_ttaE (h : Half) {e o : Nat} (he : e < 64) (ho : o < 0x1000) : inBlock .tta (ttaE h e + o) := by
  have := inBlock_pageAddr .tta h (i := 0) (o := 0x200 + 0x20 * e + o) (by omega)
  rwa [← Nat.add_assoc, ← Nat.add_assoc] at this

theorem inBlock_lgtG {p o : Nat} (hp : p < 8) (ho : o < 0x1000) : inBlock .lgt (lgtG p + o) := by
  have := inBlock_pageAddr .lgt (portHalf p) (i := 0) (o := 0x100 + 0x40 * (p / 2) + o) (by omega)
  rwa [← Nat.add_assoc, ← Nat.add_assoc] at this

/-- What holds at first and is kept by every step of a loop holds after it. -/
theorem Dev.each_ind {P : Dev → Prop} {d : Dev} {k : Nat} {f : Nat → Dev → Dev} (h0 : P d)
    (hs : ∀ i, i < k → ∀ e, P e → P (f i e)) : P (d.each k f) := by
  induction k with
  | zero => exact h0
  | succ k ih =>
    rw [Dev.each_succ]
    exact hs k (Nat.lt_succ_self k) _ (ih fun i hi => hs i (Nat.lt_succ_of_lt hi))

/-- The words and the timebase that leap and smear status change (R80, R81). -/
abbrev statWords (h : Half) (n : Nat) : List Nat := [tsuB h n + 4, tsuB h n + 0x28]

section
variable {d e : Dev} {h : Half} {n : Nat} {ws es : List Nat}

theorem leapRefresh_touchesTb (ht : d.touchesTb e h n ws es) (h4 : tsuB h n + 4 ∈ ws) (h28 : tsuB h n + 0x28 ∈ ws) :
    d.touchesTb (leapRefresh h n e) h n ws es := by
  have h1 := ((ht.pb (f := Reg.TSU.STAT_LEAP_PEND) h4 ((e.leapActive h).pendingAt (e.sec h n)).isSome).pb
    (f := Reg.TSU.STAT_IN_LEAP) h4 ((e.leapActive h).inserted (e.sec h n))).p (f := Reg.TSU.SCL_INFO_LI) h28
    (match (e.leapActive h).pendingAt (e.sec h n) with | none => 0 | some dl => if 0 < dl then 1 else 2)
  exact h1.setTb (x := { e.tb h n with applied := (e.tb h n).applied.filter fun x => decide (x ≤ e.sec h n) })
    (Dev.count_congr (by simp) h n).symm

theorem smearClose_touchesTb (ht : d.touchesTb e h n ws es) (h4 : tsuB h n + 4 ∈ ws) :
    d.touchesTb (smearClose h n e) h n ws es := by
  unfold smearClose
  cases hw : (e.tb h n).win with
  | none => exact ht
  | some w =>
    dsimp only
    split
    · exact (ht.pb (f := Reg.TSU.STAT_IN_SMEAR) h4 false).setTb (Dev.count_congr (Dev.pb_tbs _ _ _ _) h n).symm
    · exact ht

theorem smearStepped_touchesTb (ht : d.touchesTb e h n ws es) (h4 : tsuB h n + 4 ∈ ws) :
    d.touchesTb (smearStepped h n e) h n ws es := by
  unfold smearStepped
  cases hw : (e.tb h n).win with
  | none => exact ht
  | some w =>
    dsimp only
    split
    · exact (ht.pb (f := Reg.TSU.STAT_IN_SMEAR) h4 false).setTb (Dev.count_congr (Dev.pb_tbs _ _ _ _) h n).symm
    · exact smearClose_touchesTb ht h4

/-- The fields of STAT above its first three: those that no leap and no smear shows in. -/
theorem leapRefresh_stat {f : Fld} (ho : f.off = 4) (hf : 3 ≤ f.lo) : (leapRefresh h n d).g (tsuB h n) f = d.g (tsuB h n) f := by
  have h2 : Reg.TSU.SCL_INFO_LI.off = 0x28 := rfl
  unfold leapRefresh
  rw [Dev.g_setTb, Dev.g_p_ne _ _ _ _ _ _ (by omega), Dev.g_pb_beside _ _ Reg.TSU.STAT_IN_LEAP _ _ ho (by decide) (Or.inl (by exact (by decide : 2 ≤ 3).trans hf)),
    Dev.g_pb_beside _ _ Reg.TSU.STAT_LEAP_PEND _ _ ho (by decide) (Or.inl ((by decide : 1 ≤ 3).trans hf))]

theorem smearShown_stat {f : Fld} (ho : f.off = 4) (hf : 3 ≤ f.lo) (v : Bool) :
    (d.pb (tsuB h n) Reg.TSU.STAT_IN_SMEAR v).g (tsuB h n) f = d.g (tsuB h n) f :=
  Dev.g_pb_beside _ _ Reg.TSU.STAT_IN_SMEAR _ _ ho (by decide) (Or.inl hf)

theorem smearStepped_stat {f : Fld} (ho : f.off = 4) (hf : 3 ≤ f.lo) : (smearStepped h n d).g (tsuB h n) f = d.g (tsuB h n) f := by
  unfold smearStepped smearClose
  cases hw : (d.tb h n).win with
  | none => rfl
  | some w =>
    dsimp only
    exact keeps_ite (g := fun x : Dev => x.g (tsuB h n) f) (smearShown_stat ho hf false)
      (keeps_ite (g := fun x : Dev => x.g (tsuB h n) f) (smearShown_stat ho hf false) rfl)

/-- With no entry armed, timed actions do not follow a step. -/
theorem ttaStepped_quiet (ha : ∀ i < 64, d.ttaArmed h i = false) (act : Half → Nat → Dev → Dev) : ttaStepped act h n d = d := by
  unfold ttaStepped
  refine Dev.each_ind (P := fun x => x = d) rfl fun i hi x hx => ?_
  rw [hx, if_pos (by simp [ha i hi])]

/-- What a gate that holds nothing leaves: every engine but its own notes, and every word outside the LGT pages. -/
def Dev.sameBesideGates (d e : Dev) : Prop :=
  (∀ a, ¬ inBlock .lgt a → e.w a = d.w a) ∧ e.tbs = d.tbs ∧ ∀ p, e.gate p = d.gate p

theorem Dev.gate_setGate (d : Dev) (p q : Nat) (v : GateSt) : (d.setGate p v).gate q = if q = p then v else d.gate q := by
  unfold Dev.gate Dev.setGate
  exact Tab.get_set _ _ _ _ _

theorem Dev.sameBesideGates.flush {p : Nat} (ht : d.sameBesideGates e) (hp : p < 8) (hg : (d.gate p).held = []) (status : Nat)
    (c : GFrame → Bool) : d.sameBesideGates (e.gateFlush p status c) := by
  obtain ⟨hw, hb, hq⟩ := ht
  have hf : e.gateFlush p status c = e.setGate p (e.gate p) := by
    have hst : ({ e.gate p with held := [] } : GateSt) = e.gate p := by rw [hq p, ← hg]
    unfold Dev.gateFlush
    dsimp only
    rw [show (e.gate p).held = [] by rw [hq p, hg], List.filter_nil, List.filter_nil, List.foldl_nil, hst]
  rw [hf]
  refine ⟨fun a ha => ?_, hb, fun q => ?_⟩
  · have hne (f : Fld) (hf : f.off < 0x1000) : a ≠ lgtG p + f.off := fun h => ha (h ▸ inBlock_lgtG hp hf)
    exact ((Dev.w_p_ne _ _ _ _ _ (hne _ (by decide))).trans (Dev.w_p_ne _ _ _ _ _ (hne _ (by decide)))).trans (hw a ha)
  · rw [Dev.gate_setGate]
    split
    · next hqp => rw [hqp, hq]
    · exact hq q

theorem gateStepped_quiet (hg : ∀ p < 8, (d.gate p).held = []) : d.sameBesideGates (gateStepped h d) := by
  unfold gateStepped
  have := half_num_lt h
  exact Dev.each_ind (P := d.sameBesideGates) ⟨fun _ _ => rfl, rfl, fun _ => rfl⟩
    fun j hj e he => he.flush (by omega) (hg _ (by omega)) 4 _

/-- What follows a step where no entry is armed and no gate holds a frame: status words and the timebase's own notes, and GSTAT. -/
theorem steppedAfter_quiet (hn : n < 16) (ha : ∀ i < 64, d.ttaArmed h i = false) (hg : ∀ p < 8, (d.gate p).held = []) (nv : NV) :
    (∀ a, a ∉ statWords h n → ¬ inBlock .lgt a → (steppedAfter nv h n d).w a = d.w a) ∧
      d.otherTbs (steppedAfter nv h n d) h n ∧ (∀ g k, (steppedAfter nv h n d).count g k = d.count g k) ∧
      ∀ f : Fld, f.off = 4 → 3 ≤ f.lo → (steppedAfter nv h n d).g (tsuB h n) f = d.g (tsuB h n) f := by
  have hstat (f : Fld) (h4 : f.off = 4) (h3 : 3 ≤ f.lo) := (smearStepped_stat (d := leapRefresh h n d) (h := h) (n := n) h4 h3).trans
    (leapRefresh_stat h4 h3)
  obtain ⟨⟨hw, -, hu⟩, ho, hc⟩ := smearStepped_touchesTb (leapRefresh_touchesTb (Dev.touchesTb.refl d h n (statWords h n) [])
    (by simp [statWords]) (by simp [statWords])) (by simp [statWords])
  have hgate (p : Nat) : (smearStepped h n (leapRefresh h n d)).gate p = d.gate p := by
    have h1 := congrArg Dev.gates hu.1
    exact congrArg (fun t => tget {} t p) h1
  generalize hx : smearStepped h n (leapRefresh h n d) = e at hw ho hc hgate hstat
  have hq : ttaStepped (fireAct nv []) h n e = e := by
    refine ttaStepped_quiet (fun i hi => ?_) _
    have hne : ttaE h i + Reg.TTA.ACT_ARM.off ∉ statWords h n := by
      have h1 := inBlock_ttaE h (o := Reg.TTA.ACT_ARM.off) hi (by decide)
      have h2 (o : Nat) (ho : o < 0xD00) := ne_of_inBlock h1 (inBlock_tsuB h hn ho)
      simpa [statWords] using ⟨h2 4 (by omega), h2 0x28 (by omega)⟩
    have hwe := hw _ hne
    refine Eq.trans ?_ (ha i hi)
    exact Dev.gb_of_w hwe
  have hs : steppedAfter nv h n d = if n = 0 then gateStepped h e else e := by
    unfold steppedAfter
    rw [hx, hq]
  rw [hs]
  split
  · obtain ⟨gw, gt, -⟩ := gateStepped_quiet (h := h) (d := e) fun p hp => (hgate p).symm ▸ hg p hp
    refine ⟨fun a h1 h2 => (gw a h2).trans (hw a h1), fun g k hi => (Dev.tb_congr gt g k).trans (ho g k hi),
      fun g k => (Dev.count_congr gt g k).trans (hc g k), fun f h4 h3 => Eq.trans ?_ (hstat f h4 h3)⟩
    exact Dev.g_of_w (o := 4) (gw _ (inBlock_tsuB h hn (by omega)).not) h4
  · exact ⟨fun a h1 _ => hw a h1, ho, hc, hstat⟩

end

end Sys2Proof.Machine
end

section
/-! PROOF. A step taken or refused at its second boundary, and the end of an adjustment (R75, R76, R204): O19. -/

namespace Sys2Proof.Machine

section
variable (d : Dev) (h : Half) (n : Nat)

@[simp] theorem Dev.setTb_gates (x : Tbase) : (d.setTb h n x).gates = d.gates := rfl
@[simp] theorem Dev.setLoop_tbs (v : LoopSt) : (d.setLoop h n v).tbs = d.tbs := rfl
@[simp] theorem Dev.gb_setLoop (v : LoopSt) (b : Nat) (f : Fld) : (d.setLoop h n v).gb b f = d.gb b f := rfl
@[simp] theorem Dev.evt_setLoop (v : LoopSt) (pg k : Nat) : (d.setLoop h n v).evt pg k = d.evt pg k := rfl

end

/-- The device with STEP_PEND cleared and the initial step of the timebase's loop taken up in the build-out (R503). -/
def stepCleared (h : Half) (n : Nat) (d : Dev) : Dev :=
  let d2 := (d.pb (tsuB h n) Reg.TSU.STAT_STEP_PEND false).setLoop h n { d.loop h n with initStep := none }
  match (d.loop h n).initStep with
  | some r => d2.putBo h n (d2.bo h n - r * 1000)
  | none => d2

/-- The timebase that a step loads. -/
def Dev.tbLoaded (d : Dev) (h : Half) (n : Nat) : Tbase :=
  { (stepCleared h n d).tb h n with
    padjRem := 0
    count := countOf (d.g2 (tsuB h n) Reg.TSU.SET_SEC_LO Reg.TSU.SET_SEC_HI) (d.g (tsuB h n) Reg.TSU.SET_NSEC) % countMod }

section
variable (h : Half) (n : Nat) (d : Dev)

theorem stepCleared_keeps {α : Type} {g : Dev → α} (hp : ∀ x b f v, g (x.p b f v) = g x) (hl : ∀ x v, g (x.setLoop h n v) = g x) :
    g (stepCleared h n d) = g d := by
  unfold stepCleared
  cases (d.loop h n).initStep with
  | none => exact (hl _ _).trans (hp _ _ _ _)
  | some r => exact (hp _ _ _ _).trans ((hp _ _ _ _).trans ((hl _ _).trans (hp _ _ _ _)))

theorem stepCleared_tbs : (stepCleared h n d).tbs = d.tbs := stepCleared_keeps h n d Dev.p_tbs fun _ _ => rfl

theorem stepCleared_evts : (stepCleared h n d).evts = d.evts := stepCleared_keeps h n d Dev.p_evts fun _ _ => rfl

theorem stepCleared_gates : (stepCleared h n d).gates = d.gates := stepCleared_keeps h n d Dev.p_gates fun _ _ => rfl

/-- The registers of the build-out lie apart from those of the timebase. -/
theorem stepCleared_w {a : Nat} (ha : ¬ inBlock .sel a) (hn : n < 16) :
    (stepCleared h n d).w a = (d.pb (tsuB h n) Reg.TSU.STAT_STEP_PEND false).w a := by
  have hne (f : Fld) (hf : f.off < 0x1000) : a ≠ selS h n + f.off := fun he => ha (he ▸ inBlock_selS h hn hf)
  unfold stepCleared
  cases (d.loop h n).initStep with
  | none => rfl
  | some r => exact (Dev.w_p_ne _ _ _ _ _ (hne _ (by decide))).trans (Dev.w_p_ne _ _ _ _ _ (hne _ (by decide)))

theorem stepLoaded_refused (hs : 999999999 < d.g (tsuB h n) Reg.TSU.SET_NSEC) : stepLoaded h n d =
    ((d.pb (tsuB h n) Reg.TSU.STAT_STEP_PEND false).setLoop h n { d.loop h n with initStep := none }).raise (tsuPg h n)
      (tbEvt n 2) := if_pos hs

theorem stepLoaded_taken (hs : d.g (tsuB h n) Reg.TSU.SET_NSEC ≤ 999999999) : stepLoaded h n d =
    (((stepCleared h n d).pb (tsuB h n) Reg.TSU.STAT_PADJ_BUSY false).setTb h n (d.tbLoaded h n)).raise (tsuPg h n)
      (tbEvt n 0) := (if_neg (by omega)).trans rfl

end

theorem Dev.g_lt (d : Dev) (b : Nat) (f : Fld) : d.g b f < 2 ^ f.len := Nat.mod_lt _ (Nat.two_pow_pos _)

/-- SET as a count: 48 bits of seconds and less than one second of nanoseconds, so that nothing wraps. -/
theorem Dev.tbLoaded_count {d : Dev} {h : Half} {n : Nat} (hs : d.g (tsuB h n) Reg.TSU.SET_NSEC ≤ 999999999) :
    (d.tbLoaded h n).count = (d.g2 (tsuB h n) Reg.TSU.SET_SEC_LO Reg.TSU.SET_SEC_HI * 10 ^ 9 +
      d.g (tsuB h n) Reg.TSU.SET_NSEC) * 2 ^ 64 := by
  have hlo : d.g (tsuB h n) Reg.TSU.SET_SEC_LO < 2 ^ 32 := d.g_lt _ _
  have hhi : d.g (tsuB h n) Reg.TSU.SET_SEC_HI < 2 ^ 16 := d.g_lt _ _
  refine Nat.mod_eq_of_lt ?_
  unfold countOf countMod secUnit nsUnit Dev.g2
  generalize d.g (tsuB h n) Reg.TSU.SET_SEC_LO = a at *
  generalize d.g (tsuB h n) Reg.TSU.SET_SEC_HI = b at *
  omega

/-- A field written in words that agree. -/
theorem Dev.w_pb_congr {d e : Dev} {b : Nat} {f : Fld} (hw : e.w (b + f.off) = d.w (b + f.off)) (v : Bool) :
    (e.pb b f v).w (b + f.off) = (d.pb b f v).w (b + f.off) := by
  unfold Dev.pb Dev.p
  rw [Dev.w_setw, Dev.w_setw, if_pos rfl, if_pos rfl, hw]

/-- The device right after a step is taken: the count, the bound, and what stays. -/
structure Dev.isStepped (d e : Dev) (h : Half) (n : Fin 16) : Prop where
  count : e.count h n.val = (d.tbLoaded h n.val).count
  padj : (e.tb h n.val).padjRem = 0
  pend : e.gb (tsuB h n.val) Reg.TSU.STAT_STEP_PEND = false
  busy : e.gb (tsuB h n.val) Reg.TSU.STAT_PADJ_BUSY = false
  held : e.g (bndN h n.val) Reg.BND.HELD = unbounded
  evt : e.evt (tsuPg h n.val) (tbEvt n.val 0) = (d.evt (tsuPg h n.val) (tbEvt n.val 0)).occur
  others : d.otherTbs e h n.val
  gates : e.gates = d.gates
  words : ∀ a, inBlock .tta a → e.w a = d.w a

section
variable (d : Dev) (h : Half) (n : Fin 16)

theorem boundStepped_w {a : Nat} (ha : ¬ inBlock .bnd a) : (boundStepped h n.val d).w a = d.w a := by
  have hne (f : Fld) (hf : f.off < 0x1000) : a ≠ bndN h n.val + f.off := fun he => ha (he ▸ inBlock_bndN h n.isLt hf)
  exact (Dev.w_p_ne _ _ _ _ _ (hne _ (by decide))).trans (Dev.w_p_ne _ _ _ _ _ (hne _ (by decide)))

theorem boundStepped_held : (boundStepped h n.val d).g (bndN h n.val) Reg.BND.HELD = unbounded :=
  (Dev.g_p_ne _ _ _ _ _ _ (by simp [Reg.BND.HELD, Reg.BND.BSTAT_HELD_ACT])).trans (Dev.g_p_same _ _ _ _ (by decide))

theorem boundStepped_tbs : (boundStepped h n.val d).tbs = d.tbs := by
  unfold boundStepped
  rw [Dev.pb_tbs, Dev.p_tbs]

theorem boundStepped_evts : (boundStepped h n.val d).evts = d.evts := by
  unfold boundStepped
  rw [Dev.pb_evts, Dev.p_evts]

theorem boundStepped_gates : (boundStepped h n.val d).gates = d.gates := by
  unfold boundStepped
  rw [Dev.pb_gates, Dev.p_gates]

theorem stepLoaded_isStepped (hs : d.g (tsuB h n.val) Reg.TSU.SET_NSEC ≤ 999999999) :
    d.isStepped (boundStepped h n.val (stepLoaded h n.val d)) h n := by
  have hl := stepLoaded_taken h n.val d hs
  have htb : (stepLoaded h n.val d).tb h n.val = d.tbLoaded h n.val := by rw [hl]; exact Dev.tb_setTb_same _ _ _ _
  have htb' : (boundStepped h n.val (stepLoaded h n.val d)).tb h n.val = d.tbLoaded h n.val :=
    (Dev.tb_congr (boundStepped_tbs _ _ _) _ _).trans htb
  have hblock {o : Nat} (ho : o < 0xD00) : ¬ inBlock .bnd (tsuB h n.val + o) :=
    (inBlock_tsuB h n.isLt ho).not
  have hsel {o : Nat} (ho : o < 0xD00) : ¬ inBlock .sel (tsuB h n.val + o) :=
    (inBlock_tsuB h n.isLt ho).not
  have hw4 : (boundStepped h n.val (stepLoaded h n.val d)).w (tsuB h n.val + 4) =
      ((d.pb (tsuB h n.val) Reg.TSU.STAT_STEP_PEND false).pb (tsuB h n.val) Reg.TSU.STAT_PADJ_BUSY false).w (tsuB h n.val + 4) := by
    rw [boundStepped_w _ _ _ (hblock (by omega)), hl, Dev.w_raise, Dev.w_setTb]
    exact Dev.w_pb_congr (f := Reg.TSU.STAT_PADJ_BUSY) (stepCleared_w h n.val d (hsel (by decide)) n.isLt) false
  refine ⟨congrArg Tbase.count htb', congrArg Tbase.padjRem htb', ?_, ?_, boundStepped_held _ h n, ?_, fun g k hi => ?_, ?_,
    fun a ha => ?_⟩
  · exact (Dev.gb_of_w (f := Reg.TSU.STAT_STEP_PEND) hw4).trans ((Dev.gb_pb_beside _ _ Reg.TSU.STAT_PADJ_BUSY false
      Reg.TSU.STAT_STEP_PEND rfl (by decide) (by decide)).trans (Dev.gb_pb_same d _ _ _ (by decide) (by decide)))
  · exact (Dev.gb_of_w (f := Reg.TSU.STAT_PADJ_BUSY) hw4).trans (Dev.gb_pb_same _ _ _ _ (by decide) (by decide))
  · rw [Dev.evt_congr (boundStepped_evts _ _ _), hl, Dev.evt_raise_own _ (evtImplemented_tsu h n (by decide)), Dev.evt_setTb,
      Dev.evt_pb, Dev.evt_congr (stepCleared_evts _ _ _)]
  · rw [Dev.tb_congr (boundStepped_tbs _ _ _), hl, Dev.tb_congr (Dev.raise_tbs _ _ _), Dev.tb_setTb_ne _ _ _ _ hi,
      Dev.tb_congr (Dev.pb_tbs _ _ _ _), Dev.tb_congr (stepCleared_tbs _ _ _)]
  · rw [boundStepped_gates, hl, Dev.raise_gates, Dev.setTb_gates, Dev.pb_gates, stepCleared_gates]
  · have hne : a ≠ tsuB h n.val + 4 := ne_of_inBlock ha (inBlock_tsuB h n.isLt (by omega))
    rw [boundStepped_w _ _ _ ha.not, hl, Dev.w_raise, Dev.w_setTb]
    exact (Dev.w_p_ne _ _ _ _ _ hne).trans ((stepCleared_w h n.val d ha.not n.isLt).trans
      (Dev.w_p_ne _ _ _ _ _ hne))

end

section
variable {s : State} {h : Half} {n : Fin 16}

theorem exec_stepApply_notDue (hd : s.dev.stepDue h n.val = false) : exec (.stepApply h n) s = .next s := by
  have he : exec (.stepApply h n) s = .next (s.withDev (stepApplied s.nv h n.val s.dev)) := rfl
  rw [he]
  unfold stepApplied
  rw [if_pos (by simp [hd])]
  rfl

theorem exec_stepApply_refused (hd : s.dev.stepDue h n.val = true) (hs : 999999999 < s.dev.g (tsuB h n.val) Reg.TSU.SET_NSEC) :
    exec (.stepApply h n) s = .next (s.withDev (stepLoaded h n.val s.dev)) := by
  have he : exec (.stepApply h n) s = .next (s.withDev (stepApplied s.nv h n.val s.dev)) := rfl
  rw [he]
  unfold stepApplied Dev.stepTaken
  rw [if_neg (by simp [hd]), if_neg (by simpa using hs)]

theorem exec_stepApply_taken (hd : s.dev.stepDue h n.val = true) (hs : s.dev.g (tsuB h n.val) Reg.TSU.SET_NSEC ≤ 999999999) :
    exec (.stepApply h n) s =
      .next (s.withDev (steppedAfter s.nv h n.val (boundStepped h n.val (stepLoaded h n.val s.dev)))) := by
  have he : exec (.stepApply h n) s = .next (s.withDev (stepApplied s.nv h n.val s.dev)) := rfl
  rw [he]
  unfold stepApplied Dev.stepTaken
  rw [if_neg (by simp [hd]), if_pos (by simpa using hs)]

/-- A refused step clears STEP_PEND and its loop's initial step, and raises TB_SET_RANGE. -/
theorem stepLoaded_refused_touches (d : Dev) (hs : 999999999 < d.g (tsuB h n.val) Reg.TSU.SET_NSEC) :
    d.touches { stepLoaded h n.val d with loops := d.loops } [tsuB h n.val + 4] [tsuPg h n.val + tbEvt n.val 2] := by
  rw [stepLoaded_refused h n.val d hs]
  exact ((Dev.touches.refl d _ _).pb (f := Reg.TSU.STAT_STEP_PEND) (List.mem_singleton_self _) false).raise
    (List.mem_singleton_self _)

theorem padjDone_over {d : Dev} (hp : (d.tb h n.val).padjRem = 0) :
    padjDone h n.val d = d.pb (tsuB h n.val) Reg.TSU.STAT_PADJ_BUSY false := if_pos hp

end

/-- Settles O19: at the boundary a step is refused or taken, and what follows it leaves the stepped count where no entry is armed and
no gate holds a frame. -/
theorem stepAppliesAtSecondBoundary : Obligations.StepAppliesAtSecondBoundary := by
  unfold Obligations.StepAppliesAtSecondBoundary
  refine ⟨fun h n s hd hs => ?_, fun h n s hd hs => ?_, fun h n s hd hs ha hg => ?_, fun h n s hd => exec_stepApply_notDue hd,
    fun h n s hp => ?_, fun h n s hp => ?_⟩
  · refine ⟨_, exec_stepApply_refused hd hs, ?_, ?_, ?_, (stepLoaded_refused_touches s.dev hs).onlyTouches⟩ <;>
      rw [State.withDev_dev, stepLoaded_refused h n.val s.dev hs]
    · rw [Dev.raise_tbs, Dev.setLoop_tbs, Dev.pb_tbs]
    · rw [Dev.gb_raise, Dev.gb_setLoop, Dev.gb_pb_same s.dev _ _ _ (by decide) (by decide)]
    · rw [Dev.evt_raise_own _ (evtImplemented_tsu h n (by decide)), Dev.evt_setLoop, Dev.evt_pb]
  · intro d
    have hst := stepLoaded_isStepped s.dev h n hs
    exact ⟨exec_stepApply_taken hd hs, hst.count.trans (Dev.tbLoaded_count hs), hst.padj, hst.pend, hst.busy, hst.held, hst.evt,
      hst.others⟩
  · have hst := stepLoaded_isStepped s.dev h n hs
    generalize he : boundStepped h n.val (stepLoaded h n.val s.dev) = e at hst
    have harm : ∀ i < 64, e.ttaArmed h i = false := fun i hi => by
      refine Eq.trans ?_ (ha i hi)
      exact Dev.gb_of_w (o := 0) (hst.words _ (inBlock_ttaE h hi (by decide)))
    have hgate : ∀ p < 8, (e.gate p).held = [] := fun p hp => by
      unfold Dev.gate
      rw [hst.gates]
      exact hg p hp
    obtain ⟨hw, ho, hc, hf⟩ := steppedAfter_quiet (h := h) n.isLt harm hgate s.nv
    refine ⟨_, (exec_stepApply_taken hd hs).trans (by rw [he]), ?_, ?_, ?_, fun g k hi => ?_, s.keepsRest_withDev _⟩
    · exact (hc h n.val).trans (hst.count.trans (Dev.tbLoaded_count hs))
    · exact (congrArg (· == 1) (hf Reg.TSU.STAT_STEP_PEND rfl (by decide))).trans hst.pend
    · have hb := inBlock_bndN h (o := 0x10) n.isLt (by omega)
      have h1 (o : Nat) (ho : o < 0xD00) := ne_of_inBlock hb (inBlock_tsuB h n.isLt ho)
      refine Eq.trans ?_ hst.held
      have hm : bndN h n.val + 0x10 ∉ statWords h n.val := by
        simp only [statWords, List.mem_cons, List.not_mem_nil, or_false, not_or]
        exact ⟨h1 4 (by omega), h1 0x28 (by omega)⟩
      exact Dev.g_of_w (o := 0x10) (hw _ hm hb.not)
    · exact (ho g k hi).trans (hst.others g k hi)
  · exact ⟨_, next_onDev (padjDone_over hp), Dev.gb_pb_same _ _ _ _ (by decide) (by decide),
      ((Dev.touches.refl s.dev _ _).pb (List.mem_singleton_self _) _).onlyTouches⟩
  · exact congrArg Host.Outcome.next (congrArg s.withDev (if_neg hp))

end Sys2Proof.Machine
end

section
/-! PROOF. Leap and smear status (R80, R81): O23. -/

namespace Sys2Proof.Machine

/-- A leap table is read from its own words. -/
theorem Dev.leapTab_congr {d e : Dev} {pg o : Nat} (hw : ∀ k, 0x304 ≤ k → k < 0x390 → e.w (pg + k + o) = d.w (pg + k + o)) :
    e.leapTab pg o = d.leapTab pg o := by
  unfold Dev.leapTab
  rw [hw 0x304 (by omega) (by omega)]
  refine congrArg (LeapTab.mk _) (List.filterMap_congr fun m hm => ?_)
  have hm8 : m < 8 := List.mem_range.1 hm
  have h0 (i : Nat) (hi : i < 0x10) : e.w (pg + 0x310 + o + 0x10 * m + i) = d.w (pg + 0x310 + o + 0x10 * m + i) := by
    have hk := hw (0x310 + 0x10 * m + i) (by omega) (by omega)
    rwa [show pg + (0x310 + 0x10 * m + i) + o = pg + 0x310 + o + 0x10 * m + i by omega] at hk
  have h00 := h0 0 (by omega)
  rw [Nat.add_zero] at h00
  dsimp only
  rw [h0 8 (by omega), h0 4 (by omega), h00]

/-- The words of the leap tables lie above every timebase block. -/
theorem leapWord_ne (g h : Half) {n k o : Nat} (hk : 0x300 ≤ k) (hk' : k < 0x1000) (ho : o < 0x80) :
    leapPg g + k ≠ tsuB h n + o := by
  have := half_num_lt g
  have := half_num_lt h
  simp only [leapPg, tsuB, tsuPg, pageAddr]
  omega

theorem Dev.leapActive_congr {d e : Dev} {h : Half}
    (hw : ∀ k, 0x300 ≤ k → k < 0x1000 → e.w (leapPg h + k) = d.w (leapPg h + k)) : e.leapActive h = d.leapActive h :=
  Dev.leapTab_congr fun k _ _ => by
    rw [Nat.add_assoc]
    exact hw _ (by omega) (by omega)

section
variable {d e : Dev} {h : Half} {n : Fin 16}

/-- What changes words and one timebase of its own block alone leaves the active table. -/
theorem Dev.touchesTb.leapActive {ws es : List Nat} (ht : d.touchesTb e h n.val ws es)
    (hws : ∀ a ∈ ws, ∃ o < 0x80, a = tsuB h n.val + o) (g : Half) : e.leapActive g = d.leapActive g := by
  refine Dev.leapActive_congr fun k hk hk' => ht.1.1 _ fun hm => ?_
  obtain ⟨o, ho, he⟩ := hws _ hm
  exact leapWord_ne g h hk hk' ho he

theorem statWords_block : ∀ a ∈ statWords h n.val, ∃ o < 0x80, a = tsuB h n.val + o := by
  intro a ha
  rcases List.mem_cons.1 ha with rfl | ha
  · exact ⟨4, by omega, rfl⟩
  · exact ⟨0x28, by omega, List.mem_singleton.1 ha⟩

theorem Dev.touchesTb.sec {ws es : List Nat} (ht : d.touchesTb e h n.val ws es) : e.sec h n.val = d.sec h n.val :=
  congrArg secOf (ht.2.2 h n.val)

theorem Dev.leapStatusIs.congr (hs : d.leapStatusIs h n.val) (hr : e.regs = d.regs) (hsec : e.sec h n.val = d.sec h n.val) :
    e.leapStatusIs h n.val := by
  unfold Dev.leapStatusIs at hs ⊢
  rw [Dev.gb_congr hr, Dev.gb_congr hr, Dev.g_congr hr, hsec, Dev.leapActive_congr fun k _ _ => Dev.w_congr hr _]
  exact hs

variable (d h n)

theorem leapRefresh_fields :
    (leapRefresh h n.val d).gb (tsuB h n.val) Reg.TSU.STAT_LEAP_PEND = ((d.leapActive h).pendingAt (d.sec h n.val)).isSome ∧
      (leapRefresh h n.val d).gb (tsuB h n.val) Reg.TSU.STAT_IN_LEAP = (d.leapActive h).inserted (d.sec h n.val) ∧
      (leapRefresh h n.val d).g (tsuB h n.val) Reg.TSU.SCL_INFO_LI =
        match (d.leapActive h).pendingAt (d.sec h n.val) with | none => 0 | some dl => if 0 < dl then 1 else 2 := by
  have hne' : tsuB h n.val + Reg.TSU.STAT_IN_LEAP.off ≠ tsuB h n.val + Reg.TSU.SCL_INFO_LI.off := by
    simp [Reg.TSU.STAT_IN_LEAP, Reg.TSU.SCL_INFO_LI]
  have hne : tsuB h n.val + Reg.TSU.STAT_LEAP_PEND.off ≠ tsuB h n.val + Reg.TSU.SCL_INFO_LI.off := by
    simp [Reg.TSU.STAT_LEAP_PEND, Reg.TSU.SCL_INFO_LI]
  unfold leapRefresh
  refine ⟨?_, ?_, ?_⟩
  · rw [Dev.gb_setTb, Dev.gb_p_ne _ _ _ _ _ _ hne, Dev.gb_pb_beside _ _ Reg.TSU.STAT_IN_LEAP _ Reg.TSU.STAT_LEAP_PEND rfl (by decide) (by decide),
      Dev.gb_pb_same _ _ _ _ (by decide) (by decide)]
  · rw [Dev.gb_setTb, Dev.gb_p_ne _ _ _ _ _ _ hne', Dev.gb_pb_same _ _ _ _ (by decide) (by decide)]
  · rw [Dev.g_setTb, Dev.g_p_same _ _ _ _ (by decide)]
    refine Nat.mod_eq_of_lt ?_
    split
    · decide
    · split <;> decide

theorem leapRefresh_touches : d.touchesTb (leapRefresh h n.val d) h n.val (statWords h n.val) [] :=
  leapRefresh_touchesTb (Dev.touchesTb.refl d h n.val _ _) (by simp [statWords]) (by simp [statWords])

theorem leapRefresh_status : (leapRefresh h n.val d).leapStatusIs h n.val := by
  have ht := leapRefresh_touches d h n
  unfold Dev.leapStatusIs
  rw [ht.sec, ht.leapActive statWords_block]
  exact leapRefresh_fields d h n

theorem leapRefresh_evts : (leapRefresh h n.val d).evts = d.evts := by
  unfold leapRefresh Dev.setTb
  dsimp only
  rw [Dev.p_evts, Dev.pb_evts, Dev.pb_evts]

end

theorem evtImplemented_leapApplied (h : Half) : evtImplemented (leapPg h) 14 = true := by cases h <;> decide

/-- An entry's leap is a leap of the active table. -/
theorem leapEntry_mem {d : Dev} {h : Half} {m : Nat} {l : Nat × Int × Int} (hl : d.leapEntry h m = some l) :
    l ∈ (d.leapActive h).leaps := by
  unfold Dev.leapEntry at hl
  dsimp only at hl
  split at hl
  · exact List.mem_of_find?_eq_some hl
  · exact absurd hl (by simp)

/-- A leap whose span holds a second makes some leap pending there. -/
theorem LeapTab.pendingAt_isSome {t : LeapTab} {sec : Nat} {l : Nat × Int × Int} (hl : l ∈ t.leaps)
    (h1 : (l.1 : Int) - (l.2.2 - l.2.1) - 86400 ≤ sec) (h2 : sec < l.1) : ∃ dl, t.pendingAt sec = some dl := by
  unfold LeapTab.pendingAt
  cases hf : t.leaps.find? fun e => decide ((e.1 : Int) - (e.2.2 - e.2.1) - 86400 ≤ sec) && decide (sec < e.1) with
  | some e => exact ⟨_, rfl⟩
  | none => exact absurd (List.find?_eq_none.1 hf l hl) (by simp [h1, h2])

section
variable {s : State} {h : Half} {n : Fin 16} {m : Fin 8} {l : Nat × Int × Int}

theorem exec_leapPendStart (hl : s.dev.leapEntry h m.val = some l)
    (h1 : (l.1 : Int) - (l.2.2 - l.2.1) - 86400 ≤ s.dev.sec h n.val) (h2 : s.dev.sec h n.val < l.1) :
    exec (.leapPendStart h n m) s = .next (s.withDev (leapRefresh h n.val s.dev)) := by
  have he : exec (.leapPendStart h n m) s = .next (s.withDev (leapPendStart h n.val m.val s.dev)) := rfl
  rw [he]
  unfold leapPendStart
  rw [hl]
  dsimp only
  rw [if_pos (by simp [h1, h2])]

theorem exec_insertedSecondStart (hl : s.dev.leapEntry h m.val = some l) (hi : l.2.2 = l.2.1 + 1)
    (hs : s.dev.sec h n.val + 1 = l.1) :
    exec (.insertedSecondStart h n m) s = .next (s.withDev (s.dev.pb (tsuB h n.val) Reg.TSU.STAT_IN_LEAP true)) := by
  have he : exec (.insertedSecondStart h n m) s = .next (s.withDev (insertedStart h n.val m.val s.dev)) := rfl
  rw [he]
  unfold insertedStart
  rw [hl]
  dsimp only
  rw [if_pos ⟨hi, hs⟩]

/-- The device in which a leap has been announced as applied (R80). -/
def Dev.announced (d : Dev) (h : Half) (n eff : Nat) : Dev :=
  ((leapRefresh h n d).setTb h n { (leapRefresh h n d).tb h n with applied := some eff }).raiseIf (n == 0) (leapPg h) 14

theorem exec_leapApplied (hl : s.dev.leapEntry h m.val = some l) (hs : l.1 ≤ s.dev.sec h n.val)
    (hp : s.dev.gb (tsuB h n.val) Reg.TSU.STAT_LEAP_PEND = true ∨
      s.dev.sec h n.val = l.1 ∧ (s.dev.tb h n.val).applied ≠ some l.1) :
    exec (.leapApplied h n m) s = .next (s.withDev (s.dev.announced h n.val l.1)) := by
  have he : exec (.leapApplied h n m) s = .next (s.withDev (leapApplied h n.val m.val s.dev)) := rfl
  rw [he]
  unfold leapApplied
  rw [hl]
  dsimp only
  rw [if_pos (by simpa [hs] using hp)]
  rfl

theorem announced_status (d : Dev) (eff : Nat) : (d.announced h n.val eff).leapStatusIs h n.val := by
  refine (leapRefresh_status d h n).congr rfl ?_
  exact congrArg secOf ((leapRefresh h n.val d).count_setTb h n.val _ (by exact rfl) h n.val)

theorem announced_touches (d : Dev) (eff : Nat) : d.touchesTb (d.announced h n.val eff) h n.val (statWords h n.val)
    (if n.val = 0 then [leapPg h + 14] else []) := by
  have h0 : d.touchesTb (leapRefresh h n.val d) h n.val (statWords h n.val) (if n.val = 0 then [leapPg h + 14] else []) :=
    leapRefresh_touchesTb (Dev.touchesTb.refl d h n.val _ _) (by simp [statWords]) (by simp [statWords])
  have h1 := h0.setTb (x := { (leapRefresh h n.val d).tb h n.val with applied := some eff }) rfl
  unfold Dev.announced
  by_cases hn : n.val = 0
  · rw [if_pos hn] at h1 ⊢
    exact h1.raiseIf (List.mem_singleton_self _) _
  · rw [beq_eq_false_iff_ne.2 hn]
    exact h1

theorem announced_evt (d : Dev) (eff : Nat) (hn : n.val = 0) :
    (d.announced h n.val eff).evt (leapPg h) 14 = (d.evt (leapPg h) 14).occur := by
  unfold Dev.announced
  rw [hn, Dev.evt_raiseIf, if_pos (by rfl), Dev.evt_raise_own _ (evtImplemented_leapApplied h), Dev.evt_setTb, ← hn,
    Dev.evt_congr (leapRefresh_evts d h n)]

theorem announced_applied (d : Dev) (eff : Nat) : ((d.announced h n.val eff).tb h n.val).applied = some eff :=
  congrArg Tbase.applied (Dev.tb_setTb_same _ _ _ _)

theorem exec_smearWindowOpen (hl : s.dev.leapEntry h m.val = some l) (hc : s.dev.scale h n.val = 2)
    (hw : ∀ w, (s.dev.tb h n.val).win = some w → w.shut = true)
    (h1 : (s.dev.smearWin h n.val l).ts * (10 ^ 9 * 2 ^ 32) ≤ s.dev.c32 h n.val)
    (h2 : s.dev.c32 h n.val < (s.dev.smearWin h n.val l).stop * (10 ^ 9 * 2 ^ 32)) :
    exec (.smearWindowOpen h n m) s = .next (s.withDev ((s.dev.pb (tsuB h n.val) Reg.TSU.STAT_IN_SMEAR true).setTb h n.val
      { s.dev.tb h n.val with win := some { s.dev.smearWin h n.val l with shut := false } })) := by
  have he : exec (.smearWindowOpen h n m) s = .next (s.withDev (smearOpen h n.val m.val s.dev)) := rfl
  have ha : ((s.dev.tb h n.val).win.all fun x => x.shut) = true := by
    cases hx : (s.dev.tb h n.val).win with
    | none => rfl
    | some w => exact hw w hx
  rw [he]
  unfold smearOpen
  rw [hl]
  dsimp only
  rw [if_pos (by
    rw [hc, ha]
    simp only [secFrac, Nat.cast_mul, Nat.cast_pow, Nat.cast_ofNat, h1, h2]
    rfl)]

theorem exec_smearWindowClose {w : SmearWin} (hw : (s.dev.tb h n.val).win = some w) (hs : w.shut = false)
    (h1 : w.stop * (10 ^ 9 * 2 ^ 32) ≤ s.dev.c32 h n.val) :
    exec (.smearWindowClose h n) s = .next (s.withDev ((s.dev.pb (tsuB h n.val) Reg.TSU.STAT_IN_SMEAR false).setTb h n.val
      { s.dev.tb h n.val with win := some { w with shut := true } })) := by
  have he : exec (.smearWindowClose h n) s = .next (s.withDev (smearClose h n.val s.dev)) := rfl
  rw [he]
  unfold smearClose
  rw [hw]
  dsimp only
  rw [if_pos (by
    rw [hs]
    simp only [secFrac, Nat.cast_mul, Nat.cast_pow, Nat.cast_ofNat, h1]
    rfl)]

end

/-- Settles O23: status is refreshed from the table, and a window opens and shuts with its timebase's own note. -/
theorem leapAndSmearStatusFollowTable : Obligations.LeapAndSmearStatusFollowTable := by
  unfold Obligations.LeapAndSmearStatusFollowTable
  refine ⟨fun h n m l s hl h1 h2 => ?_, fun h n m l s hl hi hs => ?_, fun h n m l s hl hs hp => ?_,
    fun h n m l s hl hc hw h1 h2 => ?_, fun h n w s hw hs h1 => ?_⟩
  · obtain ⟨dl, hd⟩ := LeapTab.pendingAt_isSome (leapEntry_mem hl) h1 h2
    obtain ⟨hp, -, hli⟩ := leapRefresh_fields s.dev h n
    refine ⟨_, exec_leapPendStart hl h1 h2, hp.trans (by rw [hd]; rfl), ?_, leapRefresh_status s.dev h n,
      (leapRefresh_touches s.dev h n).onlyTb⟩
    rw [State.withDev_dev, hli, hd]
    dsimp only
    split <;> decide
  · exact ⟨_, exec_insertedSecondStart hl hi hs, Dev.gb_pb_same _ _ _ _ (by decide) (by decide),
      ((Dev.touches.refl s.dev _ _).pb (List.mem_singleton_self _) _).onlyTouches⟩
  · exact ⟨_, exec_leapApplied hl hs hp, announced_status s.dev l.1, announced_applied s.dev l.1, announced_evt s.dev l.1,
      (announced_touches s.dev l.1).onlyTb⟩
  · exact ⟨_, exec_smearWindowOpen hl hc hw h1 h2, Dev.gb_pb_same _ _ _ _ (by decide) (by decide),
      congrArg Tbase.win (Dev.tb_setTb_same _ _ _ _),
      ((Dev.touches.refl s.dev _ _).pb (List.mem_singleton_self _) _).onlyTb rfl⟩
  · exact ⟨_, exec_smearWindowClose hw hs h1, Dev.gb_pb_same _ _ _ _ (by decide) (by decide),
      congrArg Tbase.win (Dev.tb_setTb_same _ _ _ _),
      ((Dev.touches.refl s.dev _ _).pb (List.mem_singleton_self _) _).onlyTb rfl⟩

end Sys2Proof.Machine
end

section
/-! SUPPORT. Leap tables copied and stored (R78, R79, R518): what each word reads after, and what lies apart. -/

namespace Sys2Proof.Machine

/-- Words written one after another at places that differ: each reads what was written there. -/
theorem w_foldl_setw {l : List Nat} {g f : Nat → Nat} (hg : ∀ x y, g x = g y → x = y) (d : Dev) {o : Nat} (ho : o ∈ l) :
    (l.foldl (fun e x => e.setw (g x) (f x)) d).w (g o) = f o % 2 ^ 32 := by
  induction l using List.reverseRecOn with
  | nil => exact absurd ho (List.not_mem_nil)
  | append_singleton l x ih =>
    rw [List.foldl_append, List.foldl_cons, List.foldl_nil, Dev.w_setw]
    by_cases hx : o = x
    · rw [if_pos (congrArg g hx), hx]
    · rw [if_neg fun he => hx (hg _ _ he)]
      exact ih ((List.mem_append.1 ho).resolve_right fun hm => hx (List.mem_singleton.1 hm))

theorem w_foldl_setw_ne {l : List Nat} {g f : Nat → Nat} {a : Nat} (hg : ∀ x ∈ l, a ≠ g x) (d : Dev) :
    (l.foldl (fun e x => e.setw (g x) (f x)) d).w a = d.w a := by
  induction l generalizing d with
  | nil => rfl
  | cons x l ih =>
    rw [List.foldl_cons, ih fun y hy => hg y (List.mem_cons_of_mem _ hy), Dev.w_setw, if_neg (hg x (List.mem_cons_self ..))]

/-- The words written by a loop of which only one step writes at an address. -/
theorem Dev.w_each_only {d : Dev} {k i a : Nat} {f : Nat → Dev → Dev} (hi : i < k) (hne : ∀ j, j ≠ i → ∀ e, (f j e).w a = e.w a) :
    ∃ e, (d.each k f).w a = (f i e).w a := by
  induction k with
  | zero => exact absurd hi (Nat.not_lt_zero i)
  | succ k ih =>
    rw [Dev.each_succ]
    by_cases hk : i = k
    · exact ⟨_, by rw [hk]⟩
    · obtain ⟨e, he⟩ := ih (by omega)
      exact ⟨e, (hne k (Ne.symm hk) _).trans he⟩

theorem mem_leapOffsets {o : Nat} (ho : o ∈ leapOffsets) : 0x304 ≤ o ∧ o < 0x390 := by
  rcases List.mem_cons.1 ho with rfl | ho
  · omega
  · obtain ⟨i, hi, rfl⟩ := List.mem_map.1 ho
    have := List.mem_range.1 hi
    omega

section
variable (d : Dev) (src sofs dst dofs : Nat)

theorem Dev.leapCopy_w {o : Nat} (ho : o ∈ leapOffsets) : (d.leapCopy src sofs dst dofs).w (dst + o + dofs) = d.w (src + o + sofs) :=
  (w_foldl_setw (g := fun x => dst + x + dofs) (f := fun x => d.w (src + x + sofs)) (fun x y h => by omega) d ho).trans
    (Nat.mod_eq_of_lt (d.w_lt _))

theorem Dev.leapCopy_w_ne {a : Nat} (ha : a < dst + 0x304 + dofs ∨ dst + 0x390 + dofs ≤ a) :
    (d.leapCopy src sofs dst dofs).w a = d.w a :=
  w_foldl_setw_ne (g := fun x => dst + x + dofs) (fun x hx => by have := mem_leapOffsets hx; omega) d

theorem Dev.leapCopy_keeps {α : Type} {g : Dev → α} (hg : ∀ x a v, g (x.setw a v) = g x) : g (d.leapCopy src sofs dst dofs) = g d :=
  foldl_keeps (fun e _ => hg e _ _) _ d

end

/-- A table that its words can hold: offsets of 16 bits, seconds of 48, at most eight entries. -/
structure LeapTab.fits (t : LeapTab) : Prop where
  base : signedOf 16 (unsignedOf 16 t.base) = t.base
  ofs : ∀ e ∈ t.ents, signedOf 16 (unsignedOf 16 e.2) = e.2
  sec : ∀ e ∈ t.ents, e.1 < 2 ^ 48
  length : t.ents.length ≤ 8

theorem signedOf_mod (n : Nat) : signedOf 16 n = signedOf 16 (n % 2 ^ 16) := by
  unfold signedOf
  rw [Nat.mod_mod]

/-- A signed 16-bit value written and read back. -/
theorem signedOf_unsignedOf_signedOf (n : Nat) : signedOf 16 (unsignedOf 16 (signedOf 16 n)) = signedOf 16 n := by
  have hn : unsignedOf 16 (signedOf 16 n) = n % 2 ^ 16 := by
    unfold unsignedOf signedOf
    have : n % 2 ^ 16 < 2 ^ 16 := Nat.mod_lt _ (by decide)
    split <;> omega
  rw [hn, ← signedOf_mod]

theorem Dev.leapTab_fits (d : Dev) (pg o : Nat) : (d.leapTab pg o).fits := by
  have hm (e : Nat × Int) (he : e ∈ (d.leapTab pg o).ents) : ∃ a : Nat, (e.1 : Nat) = d.w a + 2 ^ 32 * (d.w (a + 4) % 2 ^ 16) ∧
      e.2 = signedOf 16 (d.w (a + 8)) := by
    obtain ⟨m, -, h⟩ := List.mem_filterMap.1 he
    dsimp only at h
    split at h
    · obtain rfl := Option.some.inj h
      exact ⟨_, rfl, rfl⟩
    · exact absurd h (by simp)
  refine ⟨signedOf_unsignedOf_signedOf _, fun e he => ?_, fun e he => ?_, ?_⟩
  · obtain ⟨a, -, h2⟩ := hm e he
    rw [h2]
    exact signedOf_unsignedOf_signedOf _
  · obtain ⟨a, h1, -⟩ := hm e he
    have := d.w_lt a
    omega
  · exact (List.length_filterMap_le _ _).trans (by simp)

theorem LeapTab.foldBase_mem (l : List (Nat × Int)) (c : Nat × Int → Bool) (b : Int) :
    l.foldl (fun o e => if c e then e.2 else o) b = b ∨ ∃ e ∈ l, l.foldl (fun o e => if c e then e.2 else o) b = e.2 := by
  induction l generalizing b with
  | nil => exact Or.inl rfl
  | cons x l ih =>
    rw [List.foldl_cons]
    rcases ih (if c x then x.2 else b) with h | ⟨e, he, h⟩
    · rw [h]
      split
      · exact Or.inr ⟨x, List.mem_cons_self .., rfl⟩
      · exact Or.inl rfl
    · exact Or.inr ⟨e, List.mem_cons_of_mem _ he, h⟩

theorem LeapTab.fits.fold {t : LeapTab} (ht : t.fits) (sec : Nat) : (t.fold sec).fits := by
  refine ⟨?_, fun e he => ht.ofs e (List.mem_of_mem_filter he), fun e he => ht.sec e (List.mem_of_mem_filter he),
    (List.length_filter_le _ _).trans ht.length⟩
  rcases LeapTab.foldBase_mem t.ents (foldable sec) t.base with h | ⟨e, he, h⟩
  · exact (congrArg (fun x => signedOf 16 (unsignedOf 16 x)) h).trans (ht.base.trans h.symm)
  · exact (congrArg (fun x => signedOf 16 (unsignedOf 16 x)) h).trans ((ht.ofs e he).trans h.symm)

/-- One entry of a table written: its four words. -/
def Dev.leapEntryStored (t : LeapTab) (b m : Nat) (e : Dev) : Dev :=
  let a := b + 0x10 * m
  match t.ents[m]? with
  | none => (((e.setw a 0).setw (a + 4) 0).setw (a + 8) 0).setw (a + 12) 0
  | some x =>
    (((e.setw a (x.1 % 2 ^ 32)).setw (a + 4) (x.1 / 2 ^ 32 % 2 ^ 16)).setw (a + 8) (unsignedOf 16 x.2 + 2 ^ 31)).setw (a + 12) 0

theorem Dev.leapStore_eq (d : Dev) (pg o : Nat) (t : LeapTab) : d.leapStore pg o t =
    (d.setw (pg + 0x304 + o) (unsignedOf 16 t.base)).each 8 (Dev.leapEntryStored t (pg + 0x310 + o)) := rfl

section
variable (t : LeapTab) (b m : Nat) (e : Dev)

theorem Dev.leapEntryStored_w_ne {a : Nat} (ha : a < b + 0x10 * m ∨ b + 0x10 * m + 0x10 ≤ a) :
    (Dev.leapEntryStored t b m e).w a = e.w a := by
  unfold Dev.leapEntryStored
  cases t.ents[m]? <;> dsimp only <;> simp only [Dev.w_setw] <;>
    rw [if_neg (by omega), if_neg (by omega), if_neg (by omega), if_neg (by omega)]

theorem Dev.leapEntryStored_none (hm : t.ents[m]? = none) : (Dev.leapEntryStored t b m e).w (b + 0x10 * m + 8) = 0 := by
  unfold Dev.leapEntryStored
  rw [hm]
  dsimp only
  rw [Dev.w_setw, if_neg (by omega), Dev.w_setw, if_pos rfl, Nat.zero_mod]

theorem Dev.leapEntryStored_some {x : Nat × Int} (hm : t.ents[m]? = some x) :
    (Dev.leapEntryStored t b m e).w (b + 0x10 * m) = x.1 % 2 ^ 32 ∧
      (Dev.leapEntryStored t b m e).w (b + 0x10 * m + 4) = x.1 / 2 ^ 32 % 2 ^ 16 ∧
      (Dev.leapEntryStored t b m e).w (b + 0x10 * m + 8) = unsignedOf 16 x.2 + 2 ^ 31 := by
  have hu := unsignedOf_lt 16 x.2
  unfold Dev.leapEntryStored
  rw [hm]
  dsimp only
  simp only [Dev.w_setw]
  refine ⟨?_, ?_, ?_⟩
  · rw [if_neg (by omega), if_neg (by omega), if_neg (by omega), if_pos trivial, Nat.mod_mod]
  · rw [if_neg (by omega), if_neg (by omega), if_pos trivial]
    omega
  · rw [if_neg (by omega), if_pos trivial]
    omega

theorem Dev.leapEntryStored_keeps {α : Type} {g : Dev → α} (hg : ∀ x a v, g (x.setw a v) = g x) :
    g (Dev.leapEntryStored t b m e) = g e := by
  unfold Dev.leapEntryStored
  cases t.ents[m]? <;> simp only [hg]

end

section
variable (d : Dev) (pg o : Nat) {t : LeapTab}

theorem Dev.leapStore_keeps {α : Type} {g : Dev → α} (hg : ∀ x a v, g (x.setw a v) = g x) (t : LeapTab) :
    g (d.leapStore pg o t) = g d := by
  rw [Dev.leapStore_eq, Dev.each_frame (g := g) fun i e => Dev.leapEntryStored_keeps t _ i e hg]
  exact hg _ _ _

theorem Dev.leapStore_w_ne {a : Nat} (ha : a < pg + o + 0x304 ∨ pg + o + 0x390 ≤ a) (t : LeapTab) :
    (d.leapStore pg o t).w a = d.w a := by
  rw [Dev.leapStore_eq, Dev.each_keeps (fun x => x.w a) 8 _ _ fun i hi e => Dev.leapEntryStored_w_ne t _ i e (by omega)]
  rw [Dev.w_setw, if_neg (by omega)]

theorem Dev.leapStore_base (t : LeapTab) : (d.leapStore pg o t).w (pg + 0x304 + o) = unsignedOf 16 t.base := by
  rw [Dev.leapStore_eq, Dev.each_keeps (fun x => x.w (pg + 0x304 + o)) 8 _ _ fun i _ e =>
    Dev.leapEntryStored_w_ne t _ i e (by omega)]
  have := unsignedOf_lt 16 t.base
  rw [Dev.w_setw, if_pos rfl]
  omega

/-- The words of an entry, as its own step of the store wrote them. -/
theorem Dev.leapStore_entry {m j : Nat} (hm : m < 8) (hj : j < 0x10) (t : LeapTab) :
    ∃ e, (d.leapStore pg o t).w (pg + 0x310 + o + 0x10 * m + j) =
      (Dev.leapEntryStored t (pg + 0x310 + o) m e).w (pg + 0x310 + o + 0x10 * m + j) := by
  rw [Dev.leapStore_eq]
  exact Dev.w_each_only hm fun i hi e => Dev.leapEntryStored_w_ne t _ i e (by omega)

theorem getElem?_range_filterMap {α : Type} (l : List α) {k : Nat} (hk : l.length ≤ k) :
    (List.range k).filterMap (fun m => l[m]?) = l := by
  induction k generalizing l with
  | zero => simp [List.length_eq_zero_iff.1 (Nat.le_zero.1 hk)]
  | succ k ih =>
    rw [List.range_succ_eq_map, List.filterMap_cons]
    cases l with
    | nil => simp
    | cons x l =>
      simp only [List.getElem?_cons_zero, List.filterMap_map]
      exact congrArg (x :: ·) (ih l (by simpa using hk))

/-- A table that fits, stored, is read back. -/
theorem Dev.leapTab_leapStore (ht : t.fits) : (d.leapStore pg o t).leapTab pg o = t := by
  have hent : ∀ m ∈ List.range 8, (fun m =>
      let e := pg + 0x310 + o + 0x10 * m
      if bitAt ((d.leapStore pg o t).w (e + 8)) 31 then
        some ((d.leapStore pg o t).w e + 2 ^ 32 * ((d.leapStore pg o t).w (e + 4) % 2 ^ 16),
          signedOf 16 ((d.leapStore pg o t).w (e + 8))) else none) m = t.ents[m]? := by
    intro m hm
    have hm8 := List.mem_range.1 hm
    obtain ⟨e8, h8⟩ := d.leapStore_entry pg o (j := 8) hm8 (by omega) t
    dsimp only
    cases hx : t.ents[m]? with
    | none =>
      rw [h8, Dev.leapEntryStored_none t _ m e8 hx]
      rfl
    | some x =>
      obtain ⟨e0, h0⟩ := d.leapStore_entry pg o (j := 0) hm8 (by omega) t
      obtain ⟨e4, h4⟩ := d.leapStore_entry pg o (j := 4) hm8 (by omega) t
      have hmem := List.mem_of_getElem? hx
      have hs := ht.sec x hmem
      have hu := unsignedOf_lt 16 x.2
      have hb : bitAt (unsignedOf 16 x.2 + 2 ^ 31) 31 = true := by
        unfold bitAt
        simp only [beq_iff_eq]
        omega
      have hv : signedOf 16 (unsignedOf 16 x.2 + 2 ^ 31) = x.2 := by
        rw [signedOf_mod, show (unsignedOf 16 x.2 + 2 ^ 31) % 2 ^ 16 = unsignedOf 16 x.2 by omega]
        exact ht.ofs x hmem
      rw [Nat.add_zero] at h0
      rw [h8, h0, h4, (Dev.leapEntryStored_some t _ m e8 hx).2.2, (Dev.leapEntryStored_some t _ m e0 hx).1,
        (Dev.leapEntryStored_some t _ m e4 hx).2.1, if_pos hb, hv]
      exact congrArg some (Prod.ext (by dsimp only; omega) rfl)
  unfold Dev.leapTab
  rw [Dev.leapStore_base, ht.base, List.filterMap_congr hent, getElem?_range_filterMap _ ht.length]

end

end Sys2Proof.Machine
end

section
/-! PROOF. Leap commits and folds that wait or are refused (R78, R79, R518): O21. -/

namespace Sys2Proof.Machine

/-- An event of the leap page raised in halves of a list. -/
def Dev.leapRaised (l : List Half) (k : Nat) (d : Dev) : Dev := l.foldl (fun e h => e.raise (leapPg h) k) d

theorem Dev.touches.leapRaised {d e : Dev} {ws es : List Nat} (ht : d.touches e ws es) (l : List Half) {k : Nat}
    (hm : ∀ h, leapPg h + k ∈ es) : d.touches (Dev.leapRaised l k e) ws es := by
  unfold Dev.leapRaised
  induction l generalizing e with
  | nil => exact ht
  | cons h l ih => exact ih (ht.raise (hm h))

theorem Dev.leapRaised_keeps {α : Type} {g : Dev → α} (hg : ∀ x pg k, g (x.raise pg k) = g x) (l : List Half) (k : Nat) (d : Dev) :
    g (Dev.leapRaised l k d) = g d :=
  foldl_keeps (fun e _ => hg e _ _) l d

theorem Dev.leapRaised_regs (l : List Half) (k : Nat) (d : Dev) : (Dev.leapRaised l k d).regs = d.regs :=
  Dev.leapRaised_keeps (g := Dev.regs) (fun _ _ _ => rfl) l k d

/-- A field beside the one that is written. -/
theorem Dev.g_p_field (d : Dev) (b : Nat) (f : Fld) (v : Nat) (f' : Fld) (ho : f'.off = f.off) (hf : f.lo + f.len ≤ 32)
    (h : f.lo + f.len ≤ f'.lo ∨ f'.lo + f'.len ≤ f.lo) : (d.p b f v).g b f' = d.g b f' :=
  d.g_p_beside b f v b f' (congrArg (b + ·) ho) hf h

theorem half_num_inj {g h : Half} (he : g.num = h.num) : g = h := by cases g <;> cases h <;> simp_all [Half.num]

theorem leapPg_ne {g h : Half} (hg : g ≠ h) {i j : Nat} (hi : i < 0x8000) (hj : j < 0x8000) : leapPg g + i ≠ leapPg h + j := by
  have hn : g.num ≠ h.num := fun he => hg (half_num_inj he)
  have := half_num_lt g
  have := half_num_lt h
  simp only [leapPg, pageAddr]
  omega

/-- A refused commit (R78): REFUSE in both halves and COMMIT_PEND clear. -/
def Dev.leapDenied (d : Dev) (r : Nat) : Dev :=
  ((d.pb (leapPg .warp) Reg.TSU.LEAP_STAT_COMMIT_PEND false).p (leapPg .warp) Reg.TSU.LEAP_STAT_REFUSE r).p (leapPg .weft)
    Reg.TSU.LEAP_STAT_REFUSE r

section
variable (d : Dev)

theorem leapBoundary_refused (hr : d.leapRefusal d.schedSec ≠ 0) :
    leapBoundary d = Dev.leapRaised (d.leapDenied (d.leapRefusal d.schedSec)).halvesInService 7
      (d.leapDenied (d.leapRefusal d.schedSec)) := if_neg hr

theorem leapDenied_touches (r : Nat) (es : List Nat) :
    d.touches (d.leapDenied r) [leapPg .warp + 0x308, leapPg .weft + 0x308] es :=
  (((Dev.touches.refl d _ _).pb (f := Reg.TSU.LEAP_STAT_COMMIT_PEND) (by simp [Reg.TSU.LEAP_STAT_COMMIT_PEND]) false).p
    (f := Reg.TSU.LEAP_STAT_REFUSE) (by simp [Reg.TSU.LEAP_STAT_REFUSE]) r).p
    (f := Reg.TSU.LEAP_STAT_REFUSE) (by simp [Reg.TSU.LEAP_STAT_REFUSE]) r

theorem leapDenied_refuse {r : Nat} (hr : r < 16) (h : Half) : (d.leapDenied r).g (leapPg h) Reg.TSU.LEAP_STAT_REFUSE = r := by
  have hs (e : Dev) (h : Half) : (e.p (leapPg h) Reg.TSU.LEAP_STAT_REFUSE r).g (leapPg h) Reg.TSU.LEAP_STAT_REFUSE = r :=
    (Dev.g_p_same _ _ _ _ (by decide)).trans (Nat.mod_eq_of_lt hr)
  unfold Dev.leapDenied
  cases h with
  | weft => exact hs _ _
  | warp => rw [Dev.g_p_ne _ _ _ _ _ _ (leapPg_ne (by decide) (by decide) (by decide)), hs]

theorem leapDenied_pend (r : Nat) : (d.leapDenied r).gb (leapPg .warp) Reg.TSU.LEAP_STAT_COMMIT_PEND = false := by
  unfold Dev.leapDenied Dev.gb
  rw [Dev.g_p_ne _ _ _ _ _ _ (leapPg_ne (by decide) (by decide) (by decide)),
    Dev.g_p_field _ _ Reg.TSU.LEAP_STAT_REFUSE _ Reg.TSU.LEAP_STAT_COMMIT_PEND rfl (by decide) (by decide)]
  exact Dev.gb_pb_same d _ _ _ (by decide) (by decide)

theorem leapDenied_gen (r : Nat) (h : Half) : (d.leapDenied r).g (leapPg h) Reg.TSU.LEAP_STAT_GEN =
    d.g (leapPg h) Reg.TSU.LEAP_STAT_GEN := by
  have hs (e : Dev) (g : Half) : (e.p (leapPg g) Reg.TSU.LEAP_STAT_REFUSE r).g (leapPg h) Reg.TSU.LEAP_STAT_GEN =
      e.g (leapPg h) Reg.TSU.LEAP_STAT_GEN := by
    by_cases hg : h = g
    · exact Dev.g_p_beside e _ Reg.TSU.LEAP_STAT_REFUSE _ _ Reg.TSU.LEAP_STAT_GEN (by rw [hg]; rfl) (by decide) (by decide)
    · exact Dev.g_p_ne _ _ _ _ _ _ (leapPg_ne hg (by decide) (by decide))
  unfold Dev.leapDenied
  rw [hs, hs]
  by_cases hg : h = .warp
  · rw [hg, Dev.g_pb_beside d _ Reg.TSU.LEAP_STAT_COMMIT_PEND _ Reg.TSU.LEAP_STAT_GEN rfl (by decide) (by decide)]
  · exact Dev.g_p_ne _ _ _ _ _ _ (leapPg_ne hg (by decide) (by decide))

theorem leapRefusal_lt (act : Nat) : d.leapRefusal act < 16 := by
  unfold Dev.leapRefusal
  dsimp only
  split_ifs <;> decide

end

/-- Where the leading half's GEN stands, the journal's table does too. -/
theorem State.leapSaved_same {s : State} {d : Dev} (hg : d.g (leapPg d.lead) Reg.TSU.LEAP_STAT_GEN =
    s.dev.g (leapPg d.lead) Reg.TSU.LEAP_STAT_GEN) : s.leapSaved d = s.withDev d := if_pos hg

theorem leapCommitAsked_idle {d : Dev} (hp : d.gb (leapPg .warp) Reg.TSU.LEAP_STAT_COMMIT_PEND = false) :
    leapCommitAsked d = { d.pb (leapPg .warp) Reg.TSU.LEAP_STAT_COMMIT_PEND true with
      sched := { d.sched with leapReq := d.schedSec } } := if_neg (by simp [hp])

theorem leapCommitAsked_waits {d : Dev} (hp : d.gb (leapPg .warp) Reg.TSU.LEAP_STAT_COMMIT_PEND = true) :
    leapCommitAsked d = d := if_pos hp

theorem exec_leapActivate_refused {s : State} (hd : s.dev.leapDue = true) (hr : s.dev.leapRefusal s.dev.schedSec ≠ 0) :
    exec .leapActivate s = .next (s.withDev (Dev.leapRaised (s.dev.leapDenied (s.dev.leapRefusal s.dev.schedSec)).halvesInService 7
      (s.dev.leapDenied (s.dev.leapRefusal s.dev.schedSec)))) := by
  have he : exec .leapActivate s = .next (s.leapSaved (if s.dev.leapDue then leapBoundary s.dev else s.dev)) := rfl
  rw [he, if_pos hd, leapBoundary_refused _ hr, State.leapSaved_same]
  rw [Dev.g_congr (Dev.leapRaised_regs _ _ _), leapDenied_gen]

/-- The device with a fold taken off the schedule. -/
def Dev.foldOff (d : Dev) : Dev := { d with sched := { d.sched with fold := none } }

section
variable {s : State} {f : FoldReq} {c : FwCmd}

/-- The code with which a fold at its boundary completes (R518). -/
def Dev.foldCode (d : Dev) : Nat :=
  if d.gb (leapPg d.lead) Reg.TSU.LEAP_STAT_COMMIT_PEND then codeBusy
  else if !((d.leapActive d.lead).canFold d.schedSec) then codeBadArg else codeOK

theorem leapFoldDecided_due (hf : s.dev.sched.fold = some f) (hb : f.box < 4) (hs : f.sec < s.dev.schedSec)
    (hc : s.atCommit f.box 0x0110 c) : leapFoldDecided s.dev =
      (FwResult.handed { dev := if s.dev.foldCode = codeOK then leapFolded s.dev.foldOff else s.dev.foldOff
                         code := s.dev.foldCode } f.box c) := by
  have hc' : (s.withDev s.dev.foldOff).atCommit f.box 0x0110 c := hc
  have hm := Dev.mbxCommit_eq hc' (by decide) fun _ e =>
    { dev := if s.dev.foldCode = codeOK then leapFolded e else e, code := s.dev.foldCode }
  unfold leapFoldDecided
  rw [hf]
  dsimp only
  rw [if_neg (Nat.not_le.2 hs), if_pos hb]
  exact hm

theorem foldCode_refused (hr : s.dev.gb (leapPg s.dev.lead) Reg.TSU.LEAP_STAT_COMMIT_PEND = true ∨
    (s.dev.leapActive s.dev.lead).canFold s.dev.schedSec = false) : s.dev.foldCode ≠ codeOK ∧
      s.dev.foldCode = if s.dev.gb (leapPg s.dev.lead) Reg.TSU.LEAP_STAT_COMMIT_PEND then codeBusy else codeBadArg := by
  unfold Dev.foldCode
  cases hp : s.dev.gb (leapPg s.dev.lead) Reg.TSU.LEAP_STAT_COMMIT_PEND with
  | true => exact ⟨(by decide : codeBusy ≠ codeOK), rfl⟩
  | false =>
    rw [hr.resolve_left (by simp [hp])]
    exact ⟨(by decide : codeBadArg ≠ codeOK), rfl⟩

theorem exec_leapFold {b : Fin 4} (hw : (s.dev.mb b.val).waiting 0x0110 = some c) (hl : c.len = 0)
    (hh : s.dev.wrongHalf b.val = false) (hr : s.dev.coresRun (mbxHalf b.val) = true) (hf : s.dev.sched.fold = none) :
    exec (.leapFold b) s = .next (s.withDev { s.dev with
      sched := { s.dev.sched with fold := some { box := b.val, id := c.id, sec := s.dev.schedSec } } }) := by
  have he : exec (.leapFold b) s = .next (s.withDev (leapFoldTaken b.val s.dev)) := rfl
  rw [he]
  unfold leapFoldTaken
  rw [hw]
  dsimp only
  rw [if_neg (by simp [hl]), if_neg (by simp [hh]), if_neg (by simp [hr, hf])]

end

theorem Dev.foldOff_regs (d : Dev) : d.foldOff.regs = d.regs := rfl

/-- Settles O21: a commit and a fold wait for the schedule's boundary, where a refused one touches status words alone. -/
theorem leapCommitWaitsAndMayBeRefused : Obligations.LeapCommitWaitsAndMayBeRefused := by
  unfold Obligations.LeapCommitWaitsAndMayBeRefused
  refine ⟨fun m s hw hp => ?_, fun m s hw hp => ?_, fun s hd hr => ?_, fun b s c hw hl hh hr hf => ?_, fun s f c hf hb hs hw hr => ?_⟩
  · refine ⟨_, exec_of_writeAt rfl hw, ?_⟩
    rw [leapCommitAsked_idle (d := s.dev.regAccess m _) hp]
    exact ⟨Dev.gb_pb_same (s.dev.regAccess m _) _ _ _ (by decide) (by decide), rfl,
      ((s.dev.touches_regAccess m (leapPg .warp + 0x300) _ _).pb (f := Reg.TSU.LEAP_STAT_COMMIT_PEND) (List.mem_singleton_self _)
        true).onlyTouches⟩
  · refine ⟨_, exec_of_writeAt rfl hw, ?_⟩
    rw [leapCommitAsked_waits (d := s.dev.regAccess m _) hp]
    exact (s.dev.touches_regAccess m _ _ _).onlyTouches
  · refine ⟨_, exec_leapActivate_refused hd hr, ?_, fun h => ?_, ?_⟩
    · rw [State.withDev_dev, Dev.gb_congr (Dev.leapRaised_regs _ _ _), leapDenied_pend]
    · rw [State.withDev_dev, Dev.g_congr (Dev.leapRaised_regs _ _ _), leapDenied_refuse _ (leapRefusal_lt _ _)]
    · exact ((leapDenied_touches _ _ _).leapRaised _ fun h => by cases h <;> simp).onlyTouches
  · exact ⟨_, exec_leapFold hw hl hh hr hf, rfl, rfl, s.keepsRest_withDev _⟩
  · intro busy hb'
    obtain ⟨hne, hcode⟩ := foldCode_refused hb'
    have hd := leapFoldDecided_due hf hb hs ⟨hw, hr⟩
    rw [if_neg hne, hcode] at hd
    have he : exec .leapFoldApply s = .next (s.leapSaved (leapFoldDecided s.dev)) := rfl
    rw [hd, State.leapSaved_same (by rw [FwResult.handed_g]; rfl)] at he
    exact ⟨_, he, rfl, State.finished_handed _ _ rfl, Dev.sameWords_of_regs rfl, Dev.sameEvents_of_evts rfl, s.keepsRest_withDev _⟩

end Sys2Proof.Machine
end

section
/-! PROOF. Leap tables that become active (R79, R518): O22. -/

namespace Sys2Proof.Machine

/-- An address lies in the TSU pages of a half. -/
def inTsu (h : Half) (a : Nat) : Prop := a / 0x8000 = 2 * 0x16 + h.num

theorem inTsu_leapPg (h : Half) {k : Nat} (hk : k < 0x8000) : inTsu h (leapPg h + k) := by
  have := half_num_lt h
  simp only [inTsu, leapPg, pageAddr, Page.code]
  omega

theorem inTsu_tsuB (h : Half) {n o : Nat} (hn : n < 16) (ho : o < 0xD00) : inTsu h (tsuB h n + o) := by
  have := half_num_lt h
  simp only [inTsu, tsuB, tsuPg, pageAddr, Page.code]
  omega

theorem not_inTsu_leapPg {g h : Half} (hg : g ≠ h) {k : Nat} (hk : k < 0x8000) : ¬ inTsu h (leapPg g + k) := fun hi => by
  have hg' := inTsu_leapPg g hk
  unfold inTsu at hi hg'
  exact hg (half_num_inj (by omega))

/-- Leap status of every timebase of a half taken from the table anew. -/
def leapRefreshed (h : Half) (d : Dev) : Dev := d.each 16 fun n e => leapRefresh h n e

section
variable (h : Half) (d : Dev)

theorem leapRefreshed_ind {P : Dev → Prop} (h0 : P d) (hs : ∀ (n : Fin 16) e, P e → P (leapRefresh h n.val e)) :
    P (leapRefreshed h d) := Dev.each_ind h0 fun i hi e he => hs ⟨i, hi⟩ e he

theorem leapRefreshed_count (g : Half) (k : Nat) : (leapRefreshed h d).count g k = d.count g k :=
  leapRefreshed_ind h d (P := fun e => e.count g k = d.count g k) rfl fun n e he => ((leapRefresh_touches e h n).2.2 g k).trans he

theorem leapRefreshed_evts : (leapRefreshed h d).evts = d.evts :=
  leapRefreshed_ind h d (P := fun e => e.evts = d.evts) rfl fun n e he => (leapRefresh_evts e h n).trans he

theorem leapRefreshed_mbx : (leapRefreshed h d).mbx = d.mbx :=
  leapRefreshed_ind h d (P := fun e => e.mbx = d.mbx) rfl fun n e he =>
    (congrArg Dev.mbx (leapRefresh_touches e h n).1.2.2.1 : _).trans he

theorem leapRefreshed_half : (leapRefreshed h d).half = d.half :=
  leapRefreshed_ind h d (P := fun e => e.half = d.half) rfl fun n e he =>
    (congrArg Dev.half (leapRefresh_touches e h n).1.2.2.1 : _).trans he

theorem leapRefreshed_w {a : Nat} (ha : ∀ n : Fin 16, a ∉ statWords h n.val) : (leapRefreshed h d).w a = d.w a :=
  leapRefreshed_ind h d (P := fun e => e.w a = d.w a) rfl fun n e he => ((leapRefresh_touches e h n).1.1 a (ha n)).trans he

theorem leapRefreshed_w_table (g : Half) {k : Nat} (hk : 0x300 ≤ k) (hk' : k < 0x1000) :
    (leapRefreshed h d).w (leapPg g + k) = d.w (leapPg g + k) :=
  leapRefreshed_w h d fun _ hm => by
    obtain ⟨o, ho, he⟩ := statWords_block _ hm
    exact leapWord_ne g h hk hk' ho he

theorem leapRefreshed_w_beside {a : Nat} (ha : ¬ inTsu h a) : (leapRefreshed h d).w a = d.w a :=
  leapRefreshed_w h d fun n hm => by
    obtain ⟨o, ho, he⟩ := statWords_block _ hm
    exact ha (he ▸ inTsu_tsuB h n.isLt (by omega))

theorem leapActivated_eq : leapActivated h d =
    (leapRefreshed h ((d.leapCopy (leapPg .warp) 0 (leapPg h) 0x90).inc (leapPg h) Reg.TSU.LEAP_STAT_GEN)).raise (leapPg h) 6 := rfl

end

section
variable (d : Dev) (b : Nat) (f : Fld)

theorem Dev.inc_evts : (d.inc b f).evts = d.evts := d.p_evts _ _ _
theorem Dev.inc_half : (d.inc b f).half = d.half := d.p_half _ _ _
theorem Dev.inc_mbx : (d.inc b f).mbx = d.mbx := d.p_mbx _ _ _
theorem Dev.w_inc_ne {a : Nat} (ha : a ≠ b + f.off) : (d.inc b f).w a = d.w a := d.w_p_ne _ _ _ _ ha
theorem Dev.g_inc_field (f' : Fld) (ho : f'.off = f.off) (hf : f.lo + f.len ≤ 32)
    (h : f.lo + f.len ≤ f'.lo ∨ f'.lo + f'.len ≤ f.lo) : (d.inc b f).g b f' = d.g b f' := d.g_p_field b f _ f' ho hf h

end

theorem evtImplemented_leapCommitted (h : Half) : evtImplemented (leapPg h) 6 = true := by cases h <;> decide

theorem leapOffset_ne_stat {o : Nat} (ho : o ∈ leapOffsets) : o ≠ 0x308 := by
  rintro rfl
  exact absurd ho (by decide)

/-- The table of a half has become what its staging copy in Warp held, with GEN counted and LEAP_COMMITTED raised (R79). -/
structure Dev.leapTaken (d e : Dev) (h : Half) : Prop where
  words : ∀ o ∈ leapOffsets, e.w (leapPg h + o + 0x90) = d.w (leapPg .warp + o)
  gen : e.g (leapPg h) Reg.TSU.LEAP_STAT_GEN = (d.g (leapPg h) Reg.TSU.LEAP_STAT_GEN + 1) % 256
  evt : e.evt (leapPg h) 6 = (d.evt (leapPg h) 6).occur

/-- What an act on one half's leap table leaves: the staging copy, COMMIT_PEND and the rest of LEAP_STAT but GEN, every count, the
other half's words, and every engine beside the timebases. -/
structure Dev.leapBeside (d e : Dev) (h : Half) : Prop where
  staged : ∀ o ∈ leapOffsets, e.w (leapPg .warp + o) = d.w (leapPg .warp + o)
  pend : e.gb (leapPg .warp) Reg.TSU.LEAP_STAT_COMMIT_PEND = d.gb (leapPg .warp) Reg.TSU.LEAP_STAT_COMMIT_PEND
  words : ∀ a, ¬ inTsu h a → e.w a = d.w a
  evts : ∀ g, g ≠ h → e.evt (leapPg g) 6 = d.evt (leapPg g) 6
  count : ∀ g k, e.count g k = d.count g k
  half : e.half = d.half

section
variable (h : Half) (d : Dev)

theorem leapActivated_w {k : Nat} (hk : 0x300 ≤ k) (hk' : k < 0x1000) (g : Half) : (leapActivated h d).w (leapPg g + k) =
    ((d.leapCopy (leapPg .warp) 0 (leapPg h) 0x90).inc (leapPg h) Reg.TSU.LEAP_STAT_GEN).w (leapPg g + k) := by
  rw [leapActivated_eq, Dev.w_raise, leapRefreshed_w_table _ _ _ hk hk']

/-- LEAP_STAT lies apart from the copy. -/
theorem leapCopy_stat (g : Half) : (d.leapCopy (leapPg .warp) 0 (leapPg h) 0x90).w (leapPg g + 0x308) = d.w (leapPg g + 0x308) := by
  refine Dev.leapCopy_w_ne _ _ _ _ _ ?_
  have := half_num_lt g
  have := half_num_lt h
  simp only [leapPg, pageAddr]
  omega

theorem leapActivated_taken : d.leapTaken (leapActivated h d) h := by
  refine ⟨fun o ho => ?_, ?_, ?_⟩
  · have hb := mem_leapOffsets ho
    rw [Nat.add_assoc, leapActivated_w h d (by omega) (by omega)]
    rw [Dev.w_inc_ne _ _ _ (by simp only [Reg.TSU.LEAP_STAT_GEN]; omega), ← Nat.add_assoc, Dev.leapCopy_w d _ _ _ _ ho,
      Nat.add_zero]
  · rw [Dev.g_of_w (leapActivated_w h d (k := 0x308) (by omega) (by omega) h), Dev.g_inc_same _ _ _ (by decide),
      Dev.g_of_w (leapCopy_stat h d h)]
    rfl
  · rw [leapActivated_eq, Dev.evt_raise_own _ (evtImplemented_leapCommitted h), Dev.evt_congr (leapRefreshed_evts _ _),
      Dev.evt_congr (Dev.inc_evts _ _ _), Dev.evt_congr (Dev.leapCopy_keeps d _ _ _ _ Dev.setw_evts)]

theorem leapActivated_beside : d.leapBeside (leapActivated h d) h := by
  refine ⟨fun o ho => ?_, ?_, fun a ha => ?_, fun g hg => ?_, fun g k => ?_, ?_⟩
  · have hb := mem_leapOffsets ho
    have h8 := leapOffset_ne_stat ho
    have := half_num_lt h
    rw [leapActivated_w h d (by omega) (by omega)]
    have hk : leapPg h = leapPg .warp + h.num * 0x8000 := by
      simp only [leapPg, pageAddr, Half.num]
      omega
    rw [Dev.w_inc_ne _ _ _ (by simp only [Reg.TSU.LEAP_STAT_GEN]; omega)]
    refine Dev.leapCopy_w_ne _ _ _ _ _ ?_
    omega
  · rw [Dev.gb_of_w (leapActivated_w h d (k := 0x308) (by omega) (by omega) .warp), ← Dev.gb_of_w (leapCopy_stat h d .warp)]
    unfold Dev.gb
    by_cases hh : h = .warp
    · rw [hh]
      rw [Dev.g_inc_field _ _ Reg.TSU.LEAP_STAT_GEN Reg.TSU.LEAP_STAT_COMMIT_PEND rfl (by decide) (by decide)]
    · rw [Dev.g_of_w (o := 0x308) (Dev.w_inc_ne _ _ _ (leapPg_ne (Ne.symm hh) (by decide) (by decide)))]
  · have hne (k : Nat) (hk : k < 0x8000) : a ≠ leapPg h + k := fun he => ha (he ▸ inTsu_leapPg h hk)
    rw [leapActivated_eq, Dev.w_raise, leapRefreshed_w_beside _ _ ha]
    rw [Dev.w_inc_ne _ _ _ (hne _ (by decide))]
    refine Dev.leapCopy_w_ne _ _ _ _ _ ?_
    have h2 := inTsu_leapPg h (k := 0x394) (by omega)
    have h3 := inTsu_leapPg h (k := 0x420) (by omega)
    unfold inTsu at ha h2 h3
    omega
  · rw [leapActivated_eq, Dev.evt_raise_ne _ (leapPg_ne hg (by omega) (by omega)), Dev.evt_congr (leapRefreshed_evts _ _),
      Dev.evt_congr (Dev.inc_evts _ _ _), Dev.evt_congr (Dev.leapCopy_keeps d _ _ _ _ Dev.setw_evts)]
  · rw [leapActivated_eq, Dev.count_congr (Dev.raise_tbs _ _ _), leapRefreshed_count, Dev.count_congr (Dev.inc_tbs _ _ _ _),
      Dev.count_congr (Dev.leapCopy_keeps d _ _ _ _ Dev.setw_tbs)]
  · rw [leapActivated_eq, Dev.raise_half, leapRefreshed_half, Dev.inc_half, Dev.leapCopy_keeps d _ _ _ _ Dev.setw_half]

end

section
variable {d e f : Dev} {g h : Half}

theorem Dev.leapBeside.refl (d : Dev) (h : Half) : d.leapBeside d h :=
  ⟨fun _ _ => rfl, rfl, fun _ _ => rfl, fun _ _ => rfl, fun _ _ => rfl, rfl⟩

/-- Another half's act before or after leaves a table taken. -/
theorem Dev.leapTaken.after (ht : e.leapTaken f h) (hb : d.leapBeside e g) (hg : h ≠ g) : d.leapTaken f h := by
  refine ⟨fun o ho => (ht.words o ho).trans (hb.staged o ho), ?_, ?_⟩
  · rw [ht.gen, Dev.g_of_w (o := 0x308) (hb.words _ (not_inTsu_leapPg hg (by omega)))]
  · rw [ht.evt, hb.evts h hg]

theorem Dev.leapTaken.before (ht : d.leapTaken e h) (hb : e.leapBeside f g) (hg : h ≠ g) : d.leapTaken f h := by
  refine ⟨fun o ho => ?_, ?_, (hb.evts h hg).trans ht.evt⟩
  · have := mem_leapOffsets ho
    rw [Nat.add_assoc, hb.words _ (not_inTsu_leapPg hg (by omega)), ← Nat.add_assoc]
    exact ht.words o ho
  · rw [Dev.g_of_w (o := 0x308) (hb.words _ (not_inTsu_leapPg hg (by omega))), ht.gen]

end

/-- The halves of a list take the staging copy. -/
def leapActivatedIn (l : List Half) (d : Dev) : Dev := l.foldl (fun e h => leapActivated h e) d

theorem leapActivatedIn_rest (l : List Half) (d : Dev) :
    (∀ o ∈ leapOffsets, (leapActivatedIn l d).w (leapPg .warp + o) = d.w (leapPg .warp + o)) ∧
      (leapActivatedIn l d).gb (leapPg .warp) Reg.TSU.LEAP_STAT_COMMIT_PEND = d.gb (leapPg .warp) Reg.TSU.LEAP_STAT_COMMIT_PEND ∧
      (∀ a, (∀ h, ¬ inTsu h a) → (leapActivatedIn l d).w a = d.w a) ∧ (∀ g k, (leapActivatedIn l d).count g k = d.count g k) ∧
      (leapActivatedIn l d).half = d.half := by
  unfold leapActivatedIn
  induction l generalizing d with
  | nil => exact ⟨fun _ _ => rfl, rfl, fun _ _ => rfl, fun _ _ => rfl, rfl⟩
  | cons h l ih =>
    obtain ⟨h1, h2, h3, h4, h5⟩ := ih (leapActivated h d)
    have hb := leapActivated_beside h d
    exact ⟨fun o ho => (h1 o ho).trans (hb.staged o ho), h2.trans hb.pend, fun a ha => (h3 a ha).trans (hb.words a (ha h)),
      fun g k => (h4 g k).trans (hb.count g k), h5.trans hb.half⟩

theorem leapActivatedIn_taken {d : Dev} {h : Half} (l : List Half) (hl : l.Nodup) (hm : h ∈ l) :
    d.leapTaken (leapActivatedIn l d) h := by
  unfold leapActivatedIn
  induction l generalizing d with
  | nil => exact absurd hm (List.not_mem_nil)
  | cons g l ih =>
    obtain ⟨hg, hl⟩ := List.nodup_cons.1 hl
    by_cases hh : h = g
    · subst hh
      have hkeep : ∀ (l : List Half) (e : Dev), h ∉ l → d.leapTaken e h → d.leapTaken (l.foldl (fun e h => leapActivated h e) e) h := by
        intro l
        induction l with
        | nil => exact fun e _ he => he
        | cons g l ih' =>
          intro e hg he
          exact ih' _ (fun hm => hg (List.mem_cons_of_mem _ hm))
            (he.before (leapActivated_beside g e) fun hg' => hg (hg' ▸ List.mem_cons_self ..))
      exact hkeep l _ hg (leapActivated_taken h d)
    · exact (ih hl ((List.mem_cons.1 hm).resolve_left hh)).after (leapActivated_beside g d) hh

/-- The half that leads is read from the halves' states and from RED words. -/
theorem Dev.outOfService_congr {d e : Dev} (hh : e.half = d.half)
    (hw : ∀ h, e.w (redPg h + Reg.RED.RSTAT_HJOIN.off) = d.w (redPg h + Reg.RED.RSTAT_HJOIN.off)) (h : Half) :
    e.outOfService h = d.outOfService h := by
  have hs (g : Half) : e.hs g = d.hs g := by
    unfold Dev.hs
    rw [hh]
  have hg (g : Half) : e.g (redPg g) Reg.RED.RSTAT_HJOIN = d.g (redPg g) Reg.RED.RSTAT_HJOIN := Dev.g_of_w (hw g)
  unfold Dev.outOfService Dev.serving
  rw [hs, hs, hg, hg]

theorem Dev.lead_congr {d e : Dev} (hh : e.half = d.half)
    (hw : ∀ h, e.w (redPg h + Reg.RED.RSTAT_HJOIN.off) = d.w (redPg h + Reg.RED.RSTAT_HJOIN.off)) : e.lead = d.lead := by
  unfold Dev.lead
  rw [Dev.outOfService_congr hh hw]

theorem not_inTsu_red (g h : Half) : ¬ inTsu h (redPg g + Reg.RED.RSTAT_HJOIN.off) := by
  unfold inTsu
  cases g <;> cases h <;> decide

theorem halvesInService_nodup (d : Dev) : d.halvesInService.Nodup := List.Nodup.filter _ (by decide)

theorem mem_halvesInService {d : Dev} {h : Half} : h ∈ d.halvesInService ↔ d.outOfService h = false := by
  unfold Dev.halvesInService
  rw [List.mem_filter]
  cases h <;> simp

/-- The device whose waiting commit has been taken up, COMMIT_PEND clear. -/
def Dev.commitTaken (d : Dev) : Dev := d.pb (leapPg .warp) Reg.TSU.LEAP_STAT_COMMIT_PEND false

section
variable (d : Dev)

theorem leapBoundary_accepted (hr : d.leapRefusal d.schedSec = 0) :
    leapBoundary d = leapActivatedIn d.commitTaken.halvesInService d.commitTaken := if_pos hr

theorem commitTaken_w {a : Nat} (ha : a ≠ leapPg .warp + 0x308) : d.commitTaken.w a = d.w a := Dev.w_p_ne _ _ _ _ _ ha

theorem commitTaken_outOfService (h : Half) : d.commitTaken.outOfService h = d.outOfService h :=
  Dev.outOfService_congr (Dev.pb_half _ _ _ _) (fun g => commitTaken_w d (by cases g <;> decide)) h

theorem commitTaken_gen (h : Half) : d.commitTaken.g (leapPg h) Reg.TSU.LEAP_STAT_GEN = d.g (leapPg h) Reg.TSU.LEAP_STAT_GEN := by
  by_cases hg : h = .warp
  · rw [hg]
    exact Dev.g_pb_beside d _ Reg.TSU.LEAP_STAT_COMMIT_PEND _ Reg.TSU.LEAP_STAT_GEN rfl (by decide) (by decide)
  · exact Dev.g_of_w (o := 0x308) (commitTaken_w d (leapPg_ne hg (by decide) (by decide)))

end

/-- GEN counted differs from what it was. -/
theorem gen_counted_ne (d : Dev) (h : Half) :
    (d.g (leapPg h) Reg.TSU.LEAP_STAT_GEN + 1) % 256 ≠ d.g (leapPg h) Reg.TSU.LEAP_STAT_GEN := by
  have : d.g (leapPg h) Reg.TSU.LEAP_STAT_GEN < 2 ^ 8 := d.g_lt _ _
  omega

theorem State.leapSaved_changed {s : State} {d : Dev} (hg : d.g (leapPg d.lead) Reg.TSU.LEAP_STAT_GEN ≠
    s.dev.g (leapPg d.lead) Reg.TSU.LEAP_STAT_GEN) :
    s.leapSaved d = { s with dev := d, nv := s.nv.journal fun nv => { nv with leap := some d.leapWords } } := if_neg hg

theorem State.leapSaved_dev (s : State) (d : Dev) : (s.leapSaved d).dev = d := by
  unfold State.leapSaved
  split <;> rfl

theorem leapActivate_accepted {s : State} (hd : s.dev.leapDue = true) (hr : s.dev.leapRefusal s.dev.schedSec = 0) :
    ∃ t, exec .leapActivate s = .next t ∧ t.dev.gb (leapPg .warp) Reg.TSU.LEAP_STAT_COMMIT_PEND = false ∧
      (∀ h, s.dev.outOfService h = false →
        (∀ o ∈ leapOffsets, t.dev.w (leapPg h + o + 0x90) = s.dev.w (leapPg .warp + o)) ∧
        t.dev.g (leapPg h) Reg.TSU.LEAP_STAT_GEN = (s.dev.g (leapPg h) Reg.TSU.LEAP_STAT_GEN + 1) % 256 ∧
        t.dev.evt (leapPg h) 6 = (s.dev.evt (leapPg h) 6).occur) ∧
      (s.dev.outOfService s.dev.lead = false → t.nv = s.nv.journal fun nv => { nv with leap := some t.dev.leapWords }) ∧
      (∀ h n, t.dev.count h n = s.dev.count h n) ∧ t.pending = s.pending := by
  have he : exec .leapActivate s =
      .next (s.leapSaved (leapActivatedIn s.dev.commitTaken.halvesInService s.dev.commitTaken)) := by
    rw [← leapBoundary_accepted s.dev hr]
    exact congrArg (fun d => Host.Outcome.next (s.leapSaved d)) (if_pos hd)
  have htaken (h : Half) (ho : s.dev.outOfService h = false) := leapActivatedIn_taken (d := s.dev.commitTaken) _
    (halvesInService_nodup _) (mem_halvesInService.2 ((commitTaken_outOfService s.dev h).trans ho))
  obtain ⟨-, hp, hw, hc, hh⟩ := leapActivatedIn_rest s.dev.commitTaken.halvesInService s.dev.commitTaken
  generalize leapActivatedIn s.dev.commitTaken.halvesInService s.dev.commitTaken = e at he htaken hp hw hc hh
  have hlead : e.lead = s.dev.lead := Dev.lead_congr (hh.trans (Dev.pb_half _ _ _ _)) fun g =>
    (hw _ fun h => not_inTsu_red g h).trans (commitTaken_w s.dev (by cases g <;> decide))
  have hgen (h : Half) (ho : s.dev.outOfService h = false) : e.g (leapPg h) Reg.TSU.LEAP_STAT_GEN =
      (s.dev.g (leapPg h) Reg.TSU.LEAP_STAT_GEN + 1) % 256 := by rw [(htaken h ho).gen, commitTaken_gen]
  refine ⟨_, he, ?_, fun h ho => ?_, fun ho => ?_, fun h n => ?_, State.leapSaved_pending _ _⟩
  · rw [State.leapSaved_dev, hp]
    exact Dev.gb_pb_same s.dev _ _ _ (by decide) (by decide)
  · rw [State.leapSaved_dev]
    refine ⟨fun o hm => ?_, hgen h ho, ?_⟩
    · have h8 := leapOffset_ne_stat hm
      rw [(htaken h ho).words o hm, commitTaken_w s.dev (by omega)]
    · exact (htaken h ho).evt
  · have hne : e.g (leapPg e.lead) Reg.TSU.LEAP_STAT_GEN ≠ s.dev.g (leapPg e.lead) Reg.TSU.LEAP_STAT_GEN := by
      rw [hlead, hgen _ ho]
      exact gen_counted_ne s.dev _
    rw [State.leapSaved_changed hne]
  · rw [State.leapSaved_dev, hc]
    exact Dev.count_congr (Dev.pb_tbs _ _ _ _) h n

end Sys2Proof.Machine
end

section
/-! PROOF. The fold of a leap table in both halves (R518): O22. -/

namespace Sys2Proof.Machine

theorem Dev.leapStore_w_gap (d : Dev) (pg o : Nat) {a : Nat} (h4 : a ≠ pg + 0x304 + o)
    (ha : a < pg + 0x310 + o ∨ pg + 0x390 + o ≤ a) (t : LeapTab) : (d.leapStore pg o t).w a = d.w a := by
  rw [Dev.leapStore_eq, Dev.each_keeps (fun x => x.w a) 8 _ _ fun i hi e => Dev.leapEntryStored_w_ne t _ i e (by omega)]
  rw [Dev.w_setw, if_neg h4]

/-- A half's share of a fold: both copies of its table, and GEN. -/
def leapStoredIn (t : LeapTab) (h : Half) (e : Dev) : Dev :=
  ((e.leapStore (leapPg h) 0 t).leapStore (leapPg h) 0x90 t).inc (leapPg h) Reg.TSU.LEAP_STAT_GEN

/-- Both halves' shares of a fold. -/
def leapStoredBoth (t : LeapTab) (d : Dev) : Dev := [Half.warp, Half.weft].foldl (fun e h => leapStoredIn t h e) d

theorem leapFolded_eq (d : Dev) : leapFolded d =
    Dev.leapRaised (leapStoredBoth ((d.leapActive d.lead).fold d.schedSec) d).halvesInService 6
      (leapStoredBoth ((d.leapActive d.lead).fold d.schedSec) d) := rfl

section
variable (t : LeapTab) (h : Half) (d : Dev)

theorem leapStoredIn_keeps {α : Type} {g : Dev → α} (hg : ∀ x a v, g (x.setw a v) = g x) : g (leapStoredIn t h d) = g d :=
  (hg _ _ _).trans ((Dev.leapStore_keeps _ _ _ hg t).trans (Dev.leapStore_keeps _ _ _ hg t))

theorem leapStoredBoth_keeps {α : Type} {g : Dev → α} (hg : ∀ x a v, g (x.setw a v) = g x) : g (leapStoredBoth t d) = g d :=
  both_keeps (leapStoredIn t) (fun h d => leapStoredIn_keeps t h d hg) d

theorem leapStoredIn_w_beside {a : Nat} (ha : ¬ inTsu h a) : (leapStoredIn t h d).w a = d.w a := by
  have h2 := inTsu_leapPg h (k := 0x304) (by omega)
  have h3 := inTsu_leapPg h (k := 0x420) (by omega)
  have h8 : a ≠ leapPg h + Reg.TSU.LEAP_STAT_GEN.off := fun he => ha (he ▸ inTsu_leapPg h (by decide))
  unfold inTsu at ha h2 h3
  unfold leapStoredIn
  rw [Dev.w_inc_ne _ _ _ h8, Dev.leapStore_w_ne _ _ _ (by omega), Dev.leapStore_w_ne _ _ _ (by omega)]

theorem leapStoredIn_gen : (leapStoredIn t h d).g (leapPg h) Reg.TSU.LEAP_STAT_GEN =
    (d.g (leapPg h) Reg.TSU.LEAP_STAT_GEN + 1) % 256 := by
  unfold leapStoredIn
  rw [Dev.g_inc_same _ _ _ (by decide), Dev.g_of_w (o := 0x308) (d := d)]
  · rfl
  · rw [Dev.leapStore_w_gap _ _ _ (by omega) (by omega), Dev.leapStore_w_gap _ _ _ (by omega) (by omega)]

theorem leapStoredIn_active (ht : t.fits) : (leapStoredIn t h d).leapActive h = t := by
  have hi (e : Dev) : (e.inc (leapPg h) Reg.TSU.LEAP_STAT_GEN).leapActive h = e.leapActive h :=
    Dev.leapTab_congr fun k hk _ => Dev.w_inc_ne _ _ _ (by simp only [Reg.TSU.LEAP_STAT_GEN]; omega)
  unfold leapStoredIn
  rw [hi]
  exact Dev.leapTab_leapStore _ _ _ ht

end

section
variable {t : LeapTab} (d : Dev) (h : Half)

theorem leapStoredBoth_gen (t : LeapTab) : (leapStoredBoth t d).g (leapPg h) Reg.TSU.LEAP_STAT_GEN =
    (d.g (leapPg h) Reg.TSU.LEAP_STAT_GEN + 1) % 256 :=
  both_own (leapStoredIn t) (g := fun h d => d.g (leapPg h) Reg.TSU.LEAP_STAT_GEN) (F := fun x => (x + 1) % 256)
    (leapStoredIn_gen t)
    (fun g d => Dev.g_of_w (o := 0x308) (leapStoredIn_w_beside t g d (not_inTsu_leapPg (by cases g <;> decide) (by omega)))) d h

theorem leapStoredBoth_active (ht : t.fits) : (leapStoredBoth t d).leapActive h = t :=
  both_own (leapStoredIn t) (g := fun h d => d.leapActive h) (F := fun _ => t) (fun h d => leapStoredIn_active t h d ht)
    (fun g d => Dev.leapActive_congr fun k _ _ =>
      leapStoredIn_w_beside t g d (not_inTsu_leapPg (by cases g <;> decide) (by omega))) d h

theorem leapStoredBoth_lead (t : LeapTab) : (leapStoredBoth t d).lead = d.lead :=
  Dev.lead_congr (leapStoredBoth_keeps t d Dev.setw_half) fun g =>
    both_keeps (leapStoredIn t) (g := fun e => e.w (redPg g + Reg.RED.RSTAT_HJOIN.off))
      (fun h e => leapStoredIn_w_beside t h e (not_inTsu_red g h)) d

end

/-- The table to which a fold at the schedule's second leads. -/
def Dev.foldedTab (d : Dev) : LeapTab := (d.leapActive d.lead).fold d.schedSec

section
variable (d : Dev) (h : Half)

theorem leapFolded_keeps {α : Type} {g : Dev → α} (hg : ∀ x a v, g (x.setw a v) = g x) (hr : ∀ x pg k, g (x.raise pg k) = g x) :
    g (leapFolded d) = g d := by
  rw [leapFolded_eq, Dev.leapRaised_keeps hr, leapStoredBoth_keeps _ _ hg]

theorem leapFolded_gen : (leapFolded d).g (leapPg h) Reg.TSU.LEAP_STAT_GEN = (d.g (leapPg h) Reg.TSU.LEAP_STAT_GEN + 1) % 256 := by
  rw [leapFolded_eq, Dev.g_congr (Dev.leapRaised_regs _ _ _), leapStoredBoth_gen]

theorem leapFolded_active : (leapFolded d).leapActive h = d.foldedTab := by
  rw [leapFolded_eq, Dev.leapActive_congr fun k _ _ => Dev.w_congr (Dev.leapRaised_regs _ _ _) _]
  exact leapStoredBoth_active d h ((Dev.leapTab_fits d _ _).fold _)

theorem leapFolded_lead : (leapFolded d).lead = d.lead := by
  rw [leapFolded_eq, Dev.lead_congr (Dev.leapRaised_keeps (g := Dev.half) (fun _ _ _ => rfl) _ _ _)
    fun g => Dev.w_congr (Dev.leapRaised_regs _ _ _) _, leapStoredBoth_lead]

end

theorem foldCode_ok {d : Dev} (hp : d.gb (leapPg d.lead) Reg.TSU.LEAP_STAT_COMMIT_PEND = false)
    (hc : (d.leapActive d.lead).canFold d.schedSec = true) : d.foldCode = codeOK := by
  unfold Dev.foldCode
  rw [hp, hc]
  rfl

/-- The outcome of a fold that finds an entry to remove. -/
def Dev.foldDone (d : Dev) (b : Nat) (c : FwCmd) : Dev := FwResult.handed { dev := leapFolded d.foldOff, code := codeOK } b c

section
variable (d : Dev) (b : Nat) (c : FwCmd) (h : Half)

theorem foldDone_gen : (d.foldDone b c).g (leapPg h) Reg.TSU.LEAP_STAT_GEN = (d.g (leapPg h) Reg.TSU.LEAP_STAT_GEN + 1) % 256 := by
  unfold Dev.foldDone
  rw [FwResult.handed_g, leapFolded_gen, Dev.g_congr d.foldOff_regs]

theorem foldDone_active : (d.foldDone b c).leapActive h = d.foldedTab :=
  (Dev.leapActive_congr fun _ _ _ => Dev.w_congr rfl _).trans (leapFolded_active d.foldOff h)

theorem foldDone_lead : (d.foldDone b c).lead = d.lead :=
  (Dev.lead_congr rfl fun _ => Dev.w_congr rfl _).trans (leapFolded_lead d.foldOff)

theorem foldDone_sched : (d.foldDone b c).sched.fold = none := by
  have hk : (leapFolded d.foldOff).sched = d.foldOff.sched :=
    leapFolded_keeps d.foldOff (g := Dev.sched) Dev.setw_sched Dev.raise_sched
  exact congrArg Sched.fold hk

theorem foldDone_tbs : (d.foldDone b c).tbs = d.tbs := leapFolded_keeps d.foldOff (g := Dev.tbs) Dev.setw_tbs Dev.raise_tbs

end

theorem exec_leapFoldApply_done {s : State} {f : FoldReq} {c : FwCmd} (hf : s.dev.sched.fold = some f) (hb : f.box < 4)
    (hs : f.sec < s.dev.schedSec) (hc : s.atCommit f.box 0x0110 c) (hok : s.dev.foldCode = codeOK) :
    exec .leapFoldApply s = .next { s with
      dev := s.dev.foldDone f.box c
      nv := s.nv.journal fun nv => { nv with leap := some (s.dev.foldDone f.box c).leapWords } } := by
  have he : exec .leapFoldApply s = .next (s.leapSaved (leapFoldDecided s.dev)) := rfl
  have hd : leapFoldDecided s.dev = s.dev.foldDone f.box c := by
    rw [leapFoldDecided_due hf hb hs hc, hok, if_pos rfl]
    rfl
  rw [he, hd, State.leapSaved_changed]
  rw [foldDone_lead, foldDone_gen]
  exact gen_counted_ne s.dev _

/-- Settles O22: an accepted commit copies the staging table in every half in service; a fold stores the folded one in both. -/
theorem leapTableActivatesInBothHalves : Obligations.LeapTableActivatesInBothHalves := by
  unfold Obligations.LeapTableActivatesInBothHalves
  refine ⟨fun s hd hr => leapActivate_accepted hd hr, fun s f c hf hb hs hw hr hp hc => ?_⟩
  refine ⟨_, exec_leapFoldApply_done hf hb hs ⟨hw, hr⟩ (foldCode_ok hp hc), foldDone_sched _ _ _,
    fun h => ⟨foldDone_gen _ _ _ h, foldDone_active _ _ _ h⟩, ?_, rfl, foldDone_tbs _ _ _, rfl⟩
  have hm : (leapFolded s.dev.foldOff).mbx = s.dev.mbx :=
    leapFolded_keeps s.dev.foldOff (g := Dev.mbx) Dev.setw_mbx Dev.raise_mbx
  exact FwResult.handed_finished (r := { dev := leapFolded s.dev.foldOff, code := codeOK }) f.box c rfl hm

end Sys2Proof.Machine
end

section
/-! SUPPORT. What a capture unit's edge leaves: every engine but the units and their queues (R97 to R112). -/

namespace Sys2Proof.Machine

/-- Two devices differ at most in words, events, counters, capture units and their queues. -/
def Dev.capturesOnly (d e : Dev) : Prop :=
  { e with regs := d.regs, evts := d.evts, pcnt := d.pcnt, caps := d.caps, capq := d.capq } = d

theorem Dev.capturesOnly.refl (d : Dev) : d.capturesOnly d := rfl

section
variable {d e f : Dev} (h : d.capturesOnly e)
include h

theorem Dev.capturesOnly.trans (h' : e.capturesOnly f) : d.capturesOnly f := by
  unfold Dev.capturesOnly at *
  exact (congrArg (fun x : Dev =>
    { x with regs := d.regs, evts := d.evts, pcnt := d.pcnt, caps := d.caps, capq := d.capq }) h').trans h

theorem Dev.capturesOnly.setw (a v : Nat) : d.capturesOnly (e.setw a v) := h
theorem Dev.capturesOnly.p (b : Nat) (f : Fld) (v : Nat) : d.capturesOnly (e.p b f v) := h
theorem Dev.capturesOnly.pb (b : Nat) (f : Fld) (v : Bool) : d.capturesOnly (e.pb b f v) := h
theorem Dev.capturesOnly.inc (b : Nat) (f : Fld) (k : Nat) : d.capturesOnly (e.inc b f k) := h
theorem Dev.capturesOnly.incSat (b : Nat) (f : Fld) : d.capturesOnly (e.incSat b f) := h
theorem Dev.capturesOnly.raise (pg k : Nat) : d.capturesOnly (e.raise pg k) := h
theorem Dev.capturesOnly.raiseIf (c : Bool) (pg k : Nat) : d.capturesOnly (e.raiseIf c pg k) := h
theorem Dev.capturesOnly.perf (pg c : Nat) (a : PerfAttr) (k r : Nat) : d.capturesOnly (e.perf pg c a k r) := h
theorem Dev.capturesOnly.setCap (g : Half) (cp : Nat) (u : CapUnit) : d.capturesOnly (e.setCap g cp u) := h

theorem Dev.capturesOnly.tbs : e.tbs = d.tbs := by
  have ht := congrArg Dev.tbs h
  exact ht

theorem Dev.capturesOnly.half : e.half = d.half := by
  have ht := congrArg Dev.half h
  exact ht

theorem Dev.capturesOnly.foldl {β : Type} {f : Dev → β → Dev} (hf : ∀ (x : Dev) (y : β), x.capturesOnly (f x y)) (l : List β) :
    d.capturesOnly (l.foldl f e) := by
  induction l generalizing e with
  | nil => exact h
  | cons y l ih => exact ih (h.trans (hf e y))

end

section
variable (d : Dev) (h : Half) (cp : Nat)

theorem Dev.offerEntry_captures (stamp ecnt cspan : Nat) (f : EntryFlags) :
    d.capturesOnly (d.offerEntry h cp stamp ecnt cspan f) := by
  unfold Dev.offerEntry
  dsimp only
  split_ifs
  · exact Dev.capturesOnly.refl d
  · exact (Dev.capturesOnly.refl d).setCap h cp _ |>.incSat _ _ |>.pb _ _ _ |>.raise _ _ |>.perf _ _ _ _ _
  · exact (Dev.capturesOnly.refl d).setCap h cp _ |>.incSat _ _ |>.p _ _ _ |>.pb _ _ _ |>.pb _ _ _ |>.raise _ _ |>.perf _ _ _ _ _
  · refine Dev.capturesOnly.raiseIf (Dev.capturesOnly.inc ?_ _ _ _) _ _ _
    rfl

theorem Dev.capStamp_captures (ce : Nat) (f : EntryFlags) : d.capturesOnly (d.capStamp h cp ce f) := by
  unfold Dev.capStamp
  exact (((Dev.capturesOnly.refl d).setCap h cp _).trans (Dev.offerEntry_captures _ h cp _ _ _ _)).perf _ _ _ _ _

theorem Dev.capMiss_captures : d.capturesOnly (d.capMiss h cp) := by
  unfold Dev.capMiss
  exact (Dev.capturesOnly.refl d).incSat _ _ |>.pb _ _ _ |>.raise _ _ |>.perf _ _ _ _ _

theorem Dev.capMode_captures (fall sel : Bool) (e : EdgeSeen) : d.capturesOnly (d.capMode h cp fall sel e) := by
  have stamped (u : CapUnit) (f : EntryFlags) := ((Dev.capturesOnly.refl d).setCap h cp u).trans (Dev.capStamp_captures _ h cp e.ce f)
  unfold Dev.capMode
  dsimp only
  split
  · split_ifs
    · exact Dev.capturesOnly.refl d
    · exact d.capMiss_captures h cp
    · exact d.capStamp_captures h cp _ _
  · split_ifs
    · exact Dev.capturesOnly.refl d
    · exact stamped _ _
  · split
    · split_ifs
      · exact Dev.capturesOnly.refl d
      · exact d.capMiss_captures h cp
      · exact stamped _ _
    · split_ifs
      · exact stamped _ _
      · exact Dev.capturesOnly.refl d
  · exact Dev.capturesOnly.refl d

theorem Dev.capStops_captures (was fall : Bool) (e : EdgeSeen) : d.capturesOnly (d.capStops h cp was fall e) := by
  unfold Dev.capStops
  dsimp only
  split_ifs
  · exact Dev.capturesOnly.refl d
  · exact ((Dev.capturesOnly.refl d).foldl (fun x y =>
      ((Dev.capturesOnly.refl x).setCap h y _).trans (Dev.offerEntry_captures _ h y _ _ _ _)) _).setCap h cp _

theorem Dev.capEdge_captures (fall : Bool) (e : EdgeSeen) : d.capturesOnly (d.capEdge h cp fall e) := by
  unfold Dev.capEdge
  dsimp only
  split_ifs
  · exact (Dev.capturesOnly.refl d).setCap h cp _
  · exact ((Dev.capturesOnly.refl d).setCap h cp _).setCap h cp _
  · exact (((Dev.capturesOnly.refl d).setCap h cp _).setCap h cp _).trans
      ((Dev.capMode_captures _ h cp _ _ _).trans (Dev.capStops_captures _ h cp _ _ _))
  · exact (Dev.capturesOnly.refl d).setCap h cp _
  · exact ((Dev.capturesOnly.refl d).setCap h cp _).setCap h cp _
  · exact (((Dev.capturesOnly.refl d).setCap h cp _).setCap h cp _).trans
      ((Dev.capMode_captures _ h cp _ _ _).trans (Dev.capStops_captures _ h cp _ _ _))

end

end Sys2Proof.Machine
end

section
/-! PROOF. The skew of the halves, the shared schedules and the once-a-second comparison (R18, R19, R71, R120, R162, R163): O24. -/

namespace Sys2Proof.Machine

/-- What the coupling of loops and the steps of a returning half leave: the skew's own words, every count and the notes of the
measurement. -/
structure Dev.skewKeeps (d e : Dev) : Prop where
  words : ∀ g o, 0x300 ≤ o → o < 0x1000 → e.w (dplPg g 0 + o) = d.w (dplPg g 0 + o)
  count : ∀ g k, e.count g k = d.count g k
  run : e.skewRun = d.skewRun

theorem Dev.skewKeeps.refl (d : Dev) : d.skewKeeps d := ⟨fun _ _ _ _ => rfl, fun _ _ => rfl, rfl⟩

theorem Dev.skewKeeps.trans {d e f : Dev} (h : d.skewKeeps e) (h' : e.skewKeeps f) : d.skewKeeps f :=
  ⟨fun g o h1 h2 => (h'.words g o h1 h2).trans (h.words g o h1 h2), fun g k => (h'.count g k).trans (h.count g k), h'.run.trans h.run⟩

theorem skewWord_ne_loop (g h : Half) {k o j : Nat} (ho : 0x300 ≤ o) (ho' : o < 0x1000) (hj : j < 0x80) :
    dplPg g 0 + o ≠ dplL h k + j := by
  have := half_num_lt g
  have := half_num_lt h
  simp only [dplL, dplPg, pageAddr]
  omega

theorem inBlock_dplPg (g : Half) {o : Nat} (ho : o < 0x1000) : inBlock .dpl (dplPg g 0 + o) := inBlock_pageAddr .dpl g (by omega)

section
variable {d e : Dev} (h : Half) (k : Nat)

theorem Dev.skewKeeps.setTb (hd : d.skewKeeps e) {x : Tbase} (hc : x.count = e.count h k) : d.skewKeeps (e.setTb h k x) :=
  hd.trans ⟨fun _ _ _ _ => rfl, fun g j => e.count_setTb h k x hc g j, rfl⟩

theorem Dev.skewKeeps.pb (hd : d.skewKeeps e) {b : Nat} {f : Fld}
    (hb : ∀ g o, 0x300 ≤ o → o < 0x1000 → dplPg g 0 + o ≠ b + f.off) (v : Bool) : d.skewKeeps (e.pb b f v) :=
  hd.trans ⟨fun g o h1 h2 => Dev.w_p_ne _ _ _ _ _ (hb g o h1 h2), fun g j => Dev.count_congr (Dev.pb_tbs _ _ _ _) g j, rfl⟩

theorem Dev.skewKeeps.p (hd : d.skewKeeps e) {b : Nat} {f : Fld}
    (hb : ∀ g o, 0x300 ≤ o → o < 0x1000 → dplPg g 0 + o ≠ b + f.off) (v : Nat) : d.skewKeeps (e.p b f v) :=
  hd.trans ⟨fun g o h1 h2 => Dev.w_p_ne _ _ _ _ _ (hb g o h1 h2), fun g j => Dev.count_congr (Dev.p_tbs _ _ _ _) g j, rfl⟩

theorem Dev.skewKeeps.raiseIf (hd : d.skewKeeps e) (c : Bool) (pg j : Nat) : d.skewKeeps (e.raiseIf c pg j) :=
  hd.trans ⟨fun _ _ _ _ => rfl, fun _ _ => rfl, rfl⟩

theorem Dev.loopOut_skewKeeps (base : Int) : e.skewKeeps (e.loopOut h k base) := by
  unfold Dev.loopOut Dev.loopFadj
  dsimp only
  refine Dev.skewKeeps.setTb h k ?_ (Dev.count_congr (by simp) h k).symm
  exact ((Dev.skewKeeps.refl e).pb (f := Reg.DPL.LSTAT_AT_FLIM)
    (fun g o h1 h2 => skewWord_ne_loop g h h1 h2 (by decide)) _).raiseIf _ _ _ |>.raiseIf _ _ _

theorem Dev.coupled_skewKeeps (c : Int) : e.skewKeeps (e.coupled h k c) := by
  have h0 : e.skewKeeps (e.setLoop h k { e.loop h k with cpl := c }) := ⟨fun _ _ _ _ => rfl, fun _ _ => rfl, rfl⟩
  unfold Dev.coupled
  dsimp only
  split
  · exact h0
  · exact h0.trans (Dev.loopOut_skewKeeps h k _)

theorem Dev.skewKeeps.tsu (hd : d.skewKeeps e) (hk : k < 16) {f : Fld} (hf : f.off < 0xD00) (v : Nat) :
    d.skewKeeps (e.p (tsuB h k) f v) :=
  hd.p (fun g o _ h2 => ne_of_inBlock (inBlock_dplPg g h2) (inBlock_tsuB h hk hf)) v

theorem stepAsked_skewKeeps (hk : k < 16) : e.skewKeeps (stepAsked h k e) := by
  unfold stepAsked
  split
  · exact Dev.skewKeeps.refl e
  · exact ((Dev.skewKeeps.refl e).tsu h k hk (f := Reg.TSU.STAT_STEP_PEND) (by decide) _).setTb h k
      (Dev.count_congr (Dev.pb_tbs _ _ _ _) h k).symm

theorem Dev.returnStep_skewKeeps : e.skewKeeps (e.returnStep h) := by
  unfold Dev.returnStep
  refine Dev.each_ind (P := e.skewKeeps) (Dev.skewKeeps.refl e) fun k hk x hx => ?_
  dsimp only
  split
  · exact hx
  · exact (((hx.tsu h k hk (f := Reg.TSU.SET_SEC_LO) (by decide) _).tsu h k hk (f := Reg.TSU.SET_SEC_HI) (by decide) _).tsu h k hk
      (f := Reg.TSU.SET_NSEC) (by decide) _).trans (stepAsked_skewKeeps h k hk)

end

/-- A half's measurement as its registers and notes take it, before the loops follow. -/
structure Dev.skewShown (d e : Dev) (h : Half) (raw : Int) : Prop where
  skew : e.g2 (dplPg h 0) Reg.DPL.SKEW_LO Reg.DPL.SKEW_HI = unsignedOf 48 ((1000 * raw).tdiv (2 ^ 33))
  valid : e.gb (dplPg h 0) Reg.DPL.SKSTAT_VALID = true
  run : (e.skewRun.of h).raw = raw
  other : ∀ o, o < 0x8000 → e.w (dplPg h.other 0 + o) = d.w (dplPg h.other 0 + o)
  otherRun : e.skewRun.of h.other = d.skewRun.of h.other
  count : ∀ g k, e.count g k = d.count g k

theorem Dev.skewShown.trans {d e f : Dev} {h : Half} {raw : Int} (hs : d.skewShown e h raw) (hk : e.skewKeeps f) :
    f.g2 (dplPg h 0) Reg.DPL.SKEW_LO Reg.DPL.SKEW_HI = unsignedOf 48 ((1000 * raw).tdiv (2 ^ 33)) ∧
      f.gb (dplPg h 0) Reg.DPL.SKSTAT_VALID = true ∧ (f.skewRun.of h).raw = raw ∧
      (∀ o, 0x300 ≤ o → o < 0x1000 → f.w (dplPg h.other 0 + o) = d.w (dplPg h.other 0 + o)) ∧
      f.skewRun.of h.other = d.skewRun.of h.other ∧ ∀ g k, f.count g k = d.count g k := by
  refine ⟨?_, ?_, ?_, fun o h1 h2 => (hk.words _ o h1 h2).trans (hs.other o (by omega)), ?_,
    fun g k => (hk.count g k).trans (hs.count g k)⟩
  · unfold Dev.g2
    rw [Dev.g_of_w (o := 0x304) (hk.words h _ (by omega) (by omega)), Dev.g_of_w (o := 0x308) (hk.words h _ (by omega) (by omega))]
    exact hs.skew
  · rw [Dev.gb_of_w (o := 0x30C) (hk.words h _ (by omega) (by omega)), hs.valid]
  · rw [hk.run, hs.run]
  · rw [hk.run, hs.otherRun]

theorem Pair.of_put {α : Type} (p : Pair α) (h : Half) (v : α) : (p.put h v).of h = v := by cases h <;> rfl

theorem Pair.of_put_other {α : Type} (p : Pair α) (h : Half) (v : α) : (p.put h v).of h.other = p.of h.other := by cases h <;> rfl

/-- The device with a measurement shown in SKEW and SKSTAT, and noted. -/
def Dev.skewNoted (d : Dev) (h : Half) (raw : Int) (run : SkewSt) (wide al : Bool) : Dev :=
  let d1 := (d.ps48 (dplPg h 0) Reg.DPL.SKEW_LO Reg.DPL.SKEW_HI ((1000 * raw).tdiv (2 ^ 33))).pb (dplPg h 0)
    Reg.DPL.SKSTAT_VALID true
  ({ d1 with skewRun := d1.skewRun.put h run }.raiseIf wide (dplPg h 0) 7).pb (dplPg h 0) Reg.DPL.SKSTAT_ALIGNED al

theorem Dev.skewTaken_noted (d : Dev) (h : Half) (raw : Int) : ∃ run wide al, run.raw = raw ∧
    (d.skewNoted h raw run wide al).skewKeeps (d.skewTaken h raw) := by
  unfold Dev.skewTaken
  extract_lets pg ps d1 run up low al raised d2 d3 d4
  have h0 : (d.skewNoted h raw { raw := raw, up := up, low := low, al := al, raised := raised } (raised && !run.raised)
      (d2.gb pg Reg.DPL.SKSTAT_ALIGNED || decide (1000 ≤ al))).skewKeeps d3 := Dev.skewKeeps.refl _
  have h4 : d3.skewKeeps d4 := by
    unfold d4
    split
    · exact Dev.returnStep_skewKeeps h
    · exact Dev.skewKeeps.refl _
  refine ⟨_, _, _, rfl, (h0.trans h4).trans (Dev.each_ind (P := Dev.skewKeeps d4) (Dev.skewKeeps.refl d4) fun k _ x hx => ?_)⟩
  split
  · exact hx
  · exact hx.trans (Dev.coupled_skewKeeps h k _)

section
variable (d : Dev) (h : Half)

theorem dplPg_other_ne {o o' : Nat} (ho : o < 0x8000) (ho' : o' < 0x8000) : dplPg h.other 0 + o ≠ dplPg h 0 + o' :=
  pageAddr_other_ne .dpl h ho ho'

theorem Dev.w_pb_ne (d : Dev) {b a : Nat} {f : Fld} (v : Bool) (ha : a ≠ b + f.off) : (d.pb b f v).w a = d.w a := d.w_p_ne _ _ _ _ ha

theorem Dev.w_ps48_ne (d : Dev) {b a : Nat} {lo hi : Fld} (v : Int) (hl : a ≠ b + lo.off) (hh : a ≠ b + hi.off) :
    (d.ps48 b lo hi v).w a = d.w a := (Dev.w_p_ne _ _ _ _ _ hh).trans (Dev.w_p_ne _ _ _ _ _ hl)

theorem Dev.g2_pb_ne (d : Dev) {b a : Nat} {f lo hi : Fld} (v : Bool) (hlo : b + lo.off ≠ a + f.off) (hhi : b + hi.off ≠ a + f.off) :
    (d.pb a f v).g2 b lo hi = d.g2 b lo hi := d.g2_p_ne _ hlo hhi

theorem Dev.ps48_tbs (d : Dev) (b : Nat) (lo hi : Fld) (v : Int) : (d.ps48 b lo hi v).tbs = d.tbs :=
  (Dev.p_tbs _ _ _ _).trans (Dev.p_tbs _ _ _ _)

theorem Dev.w_withSkewRun (d : Dev) (x : Pair SkewSt) (a : Nat) : ({ d with skewRun := x } : Dev).w a = d.w a := rfl
theorem Dev.g_withSkewRun (d : Dev) (x : Pair SkewSt) (b : Nat) (f : Fld) : ({ d with skewRun := x } : Dev).g b f = d.g b f := rfl
theorem Dev.g2_withSkewRun (d : Dev) (x : Pair SkewSt) (b : Nat) (lo hi : Fld) :
    ({ d with skewRun := x } : Dev).g2 b lo hi = d.g2 b lo hi := rfl
theorem Dev.gb_withSkewRun (d : Dev) (x : Pair SkewSt) (b : Nat) (f : Fld) : ({ d with skewRun := x } : Dev).gb b f = d.gb b f := rfl
theorem Dev.gb_raiseIf (d : Dev) (c : Bool) (pg k b : Nat) (f : Fld) : (d.raiseIf c pg k).gb b f = d.gb b f := rfl
theorem Dev.g2_raiseIf (d : Dev) (c : Bool) (pg k b : Nat) (lo hi : Fld) : (d.raiseIf c pg k).g2 b lo hi = d.g2 b lo hi := rfl

theorem Dev.raiseIf_skewRun (d : Dev) (c : Bool) (pg k : Nat) : (d.raiseIf c pg k).skewRun = d.skewRun := rfl

theorem Dev.skewNoted_run (raw : Int) (run : SkewSt) (wide al : Bool) :
    (d.skewNoted h raw run wide al).skewRun = d.skewRun.put h run := by
  unfold Dev.skewNoted Dev.ps48 Dev.p2
  dsimp only
  rw [Dev.pb_skewRun, Dev.raiseIf_skewRun, Dev.pb_skewRun, Dev.p_skewRun, Dev.p_skewRun]

theorem Dev.skewNoted_shown (raw : Int) (run : SkewSt) (wide al : Bool) (hr : run.raw = raw) :
    d.skewShown (d.skewNoted h raw run wide al) h raw := by
  have hsk {lo : Fld} (f : Fld) (hf : f.off = 0x30C) (hl : lo.off = 0x304 ∨ lo.off = 0x308) : dplPg h 0 + lo.off ≠ dplPg h 0 + f.off := by
    omega
  have hne (f : Fld) (hf : f.off < 0x8000) {o : Nat} (ho : o < 0x8000) : dplPg h.other 0 + o ≠ dplPg h 0 + f.off :=
    dplPg_other_ne h ho hf
  refine ⟨?_, ?_, ?_, fun o ho => ?_, ?_, fun g k => ?_⟩
  · unfold Dev.skewNoted
    rw [Dev.g2_pb_ne _ _ (hsk _ rfl (Or.inl rfl)) (hsk _ rfl (Or.inr rfl)), Dev.g2_raiseIf, Dev.g2_withSkewRun,
      Dev.g2_pb_ne _ _ (hsk _ rfl (Or.inl rfl)) (hsk _ rfl (Or.inr rfl))]
    exact Dev.g2_ps48 d _ (by decide) (by decide) (by decide) _
  · unfold Dev.skewNoted
    rw [Dev.gb_pb_beside _ _ Reg.DPL.SKSTAT_ALIGNED _ Reg.DPL.SKSTAT_VALID rfl (by decide) (by decide), Dev.gb_raiseIf,
      Dev.gb_withSkewRun, Dev.gb_pb_same _ _ _ _ (by decide) (by decide)]
  · rw [Dev.skewNoted_run, Pair.of_put, hr]
  · unfold Dev.skewNoted
    rw [Dev.w_pb_ne _ _ (hne _ (by decide) ho), Dev.w_raiseIf, Dev.w_withSkewRun, Dev.w_pb_ne _ _ (hne _ (by decide) ho),
      Dev.w_ps48_ne _ _ (hne _ (by decide) ho) (hne _ (by decide) ho)]
  · rw [Dev.skewNoted_run, Pair.of_put_other]
  · refine Dev.count_congr ?_ g k
    unfold Dev.skewNoted
    dsimp only
    rw [Dev.pb_tbs, Dev.raiseIf_tbs, Dev.pb_tbs, Dev.ps48_tbs]

/-- A measurement taken in by one half: shown and noted there, and the other half's as it was. -/
theorem Dev.skewTaken_shows (raw : Int) :
    (d.skewTaken h raw).g2 (dplPg h 0) Reg.DPL.SKEW_LO Reg.DPL.SKEW_HI = unsignedOf 48 ((1000 * raw).tdiv (2 ^ 33)) ∧
      (d.skewTaken h raw).gb (dplPg h 0) Reg.DPL.SKSTAT_VALID = true ∧ ((d.skewTaken h raw).skewRun.of h).raw = raw ∧
      (∀ o, 0x300 ≤ o → o < 0x1000 → (d.skewTaken h raw).w (dplPg h.other 0 + o) = d.w (dplPg h.other 0 + o)) ∧
      (d.skewTaken h raw).skewRun.of h.other = d.skewRun.of h.other ∧
      ∀ g k, (d.skewTaken h raw).count g k = d.count g k := by
  obtain ⟨run, wide, al, hr, hk⟩ := d.skewTaken_noted h raw
  exact (d.skewNoted_shown h raw run wide al hr).trans hk

/-- A skew that is no longer valid. -/
theorem Dev.skewLost_shows :
    (d.skewLost h).gb (dplPg h 0) Reg.DPL.SKSTAT_VALID = false ∧
      (∀ o, 0x300 ≤ o → o < 0x1000 → (d.skewLost h).w (dplPg h.other 0 + o) = d.w (dplPg h.other 0 + o)) ∧
      ∀ g k, (d.skewLost h).count g k = d.count g k := by
  have hk : ((d.pb (dplPg h 0) Reg.DPL.SKSTAT_VALID false).pb (dplPg h 0) Reg.DPL.SKSTAT_ALIGNED false).skewKeeps
      (((d.pb (dplPg h 0) Reg.DPL.SKSTAT_VALID false).pb (dplPg h 0) Reg.DPL.SKSTAT_ALIGNED false).each 16
        fun k e => e.coupled h k 0) :=
    Dev.each_ind (P := Dev.skewKeeps _) (Dev.skewKeeps.refl _) fun k _ x hx => hx.trans (Dev.coupled_skewKeeps h k 0)
  have hne (f : Fld) (hf : f.off < 0x8000) {o : Nat} (ho : o < 0x8000) : dplPg h.other 0 + o ≠ dplPg h 0 + f.off :=
    dplPg_other_ne h ho hf
  refine ⟨?_, fun o h1 h2 => (hk.words _ o h1 h2).trans ?_, fun g k => (hk.count g k).trans ?_⟩
  · refine (Dev.gb_of_w (o := 0x30C) (hk.words h 0x30C (by omega) (by omega))).trans ?_
    rw [Dev.gb_pb_beside _ _ Reg.DPL.SKSTAT_ALIGNED _ Reg.DPL.SKSTAT_VALID rfl (by decide) (by decide),
      Dev.gb_pb_same _ _ _ _ (by decide) (by decide)]
  · rw [Dev.w_pb_ne _ _ (hne _ (by decide) (by omega)), Dev.w_pb_ne _ _ (hne _ (by decide) (by omega))]
  · exact Dev.count_congr ((Dev.pb_tbs _ _ _ _).trans (Dev.pb_tbs _ _ _ _)) g k

end

/-- The device after the four units of the two marker points have met their edges (R120). -/
def Dev.markersTaken (d : Dev) (w72 f72 w73 f73 : EdgeSeen) : Dev :=
  (((d.capEdge .warp 72 false w72).capEdge .weft 72 false f72).capEdge .warp 73 false w73).capEdge .weft 73 false f73

theorem Dev.markersTaken_captures (d : Dev) (w72 f72 w73 f73 : EdgeSeen) : d.capturesOnly (d.markersTaken w72 f72 w73 f73) :=
  (((d.capEdge_captures _ _ _ _).trans (Dev.capEdge_captures _ _ _ _ _)).trans (Dev.capEdge_captures _ _ _ _ _)).trans
    (Dev.capEdge_captures _ _ _ _ _)

/-! ### The once-a-second comparison -/

/-- What a comparison of other settings leaves of the differences found: a difference of a lower code stands, and no timebase changes. -/
theorem Dev.compared_keeps {d : Dev} {code n : Nat} {c : Bool} {f : Dev → Dev} (hf : ∀ x, (f x).sched = x.sched ∧ (f x).tbs = x.tbs)
    (hn : n ≠ code) (hd : n ∈ d.sched.diffs) : n ∈ (d.compared code c f).sched.diffs := by
  unfold Dev.compared
  split_ifs
  · exact hd
  · rw [(hf _).1]
    exact List.mem_cons_of_mem _ hd
  · exact List.mem_filter.2 ⟨hd, by simpa using hn⟩

theorem Dev.compared_tbs {d : Dev} {code : Nat} {c : Bool} {f : Dev → Dev} (hf : ∀ x, (f x).sched = x.sched ∧ (f x).tbs = x.tbs) :
    (d.compared code c f).tbs = d.tbs := by
  unfold Dev.compared
  split_ifs
  · rfl
  · exact (hf _).2
  · rfl

/-- A difference found is remembered. -/
theorem Dev.compared_found {d : Dev} {code : Nat} {f : Dev → Dev} (hf : ∀ x, (f x).sched = x.sched ∧ (f x).tbs = x.tbs) :
    code ∈ (d.compared code true f).sched.diffs := by
  unfold Dev.compared
  rw [if_pos rfl]
  split
  · next h => exact List.contains_iff_mem.1 h
  · rw [(hf _).1]
    exact List.mem_cons_self ..

theorem raiseTwo_keeps (x : Dev) (p q j k : Nat) : ((x.raise p j).raise q k).sched = x.sched ∧ ((x.raise p j).raise q k).tbs = x.tbs :=
  ⟨rfl, rfl⟩

/-- Every timebase whose settings differ stands among the differences after their comparison. -/
theorem tbCompare_found (d : Dev) {n : Nat} (hn : n < 16) (hd : d.tbDiffers n = true) : n ∈ (tbCompare d).sched.diffs := by
  unfold tbCompare
  have key : ∀ k, n < k → n ∈ (d.each k fun n e => e.compared n (d.tbDiffers n) fun x =>
      (x.raise (tsuPg .warp n) (tbEvt n 5)).raise (tsuPg .weft n) (tbEvt n 5)).sched.diffs := by
    intro k
    induction k with
    | zero => exact fun h => absurd h (Nat.not_lt_zero n)
    | succ k ih =>
      intro hk
      rw [Dev.each_succ]
      by_cases he : n = k
      · subst he
        rw [hd]
        exact Dev.compared_found fun x => raiseTwo_keeps x _ _ _ _
      · exact Dev.compared_keeps (fun x => raiseTwo_keeps x _ _ _ _) he (ih (by omega))
  exact key 16 hn

theorem tbCompare_tbs (d : Dev) : (tbCompare d).tbs = d.tbs :=
  Dev.each_frame (g := Dev.tbs) (fun _ _ => Dev.compared_tbs fun x => raiseTwo_keeps x _ _ _ _) d

theorem pinCompare_ind {P : Dev → Prop} {d : Dev} (h0 : P d) (hp : ∀ x b f v, P x → P (x.p b f v))
    (hc : ∀ x cp f, (∀ y : Dev, (f y).sched = y.sched ∧ (f y).tbs = y.tbs) → P x → P (x.compared (100 + cp) (d.pinDiffers cp) f)) :
    P (pinCompare d) := by
  refine Dev.each_ind h0 fun cp _ e he => hc _ cp _ (fun y => raiseTwo_keeps y _ _ _ _) ?_
  split
  · exact hp _ _ _ _ (hp _ _ _ _ he)
  · exact he

theorem pinCompare_tbs (d : Dev) : (pinCompare d).tbs = d.tbs :=
  pinCompare_ind (P := fun e => e.tbs = d.tbs) rfl (fun x _ _ _ hx => (x.p_tbs _ _ _).trans hx)
    fun _ _ _ hf hx => (Dev.compared_tbs hf).trans hx

theorem pinCompare_found {d : Dev} {n : Nat} (hn : n < 16) (hd : n ∈ d.sched.diffs) : n ∈ (pinCompare d).sched.diffs :=
  pinCompare_ind (P := fun e => n ∈ e.sched.diffs) hd (fun _ _ _ _ hx => hx) fun _ _ _ hf hx => Dev.compared_keeps hf (by omega) hx

theorem diffNoted_keeps {α : Type} {g : Dev → α} (hg : ∀ x h v, g (x.setRd h v) = g x) (d : Dev) : g (diffNoted d) = g d := by
  unfold diffNoted
  split
  · rfl
  · exact (hg _ _ _).trans (hg _ _ _)

theorem trsCompare_tbs (d : Dev) : (trsCompare d).tbs = d.tbs := by
  unfold trsCompare
  dsimp only
  rw [Dev.pb_tbs, Dev.pb_tbs]
  exact Dev.compared_tbs fun x => raiseTwo_keeps x _ _ _ _

theorem settingsCompared_running {d : Dev} (h0 : d.planeUp .warp = true) (h1 : d.planeUp .weft = true) :
    settingsCompared d = diffNoted (trsCompare (selCompare (pinCompare (tbCompare d)))) := if_pos (by simp [h0, h1])

/-- Settles O24: a measurement is shown in each half with its own sign; the schedules pass; differences of settings are remembered. -/
theorem skewScheduleAndComparison : Obligations.SkewScheduleAndComparison := by
  unfold Obligations.SkewScheduleAndComparison
  refine ⟨fun w72 f72 w73 f73 a b s => ?_, fun w72 f72 w73 f73 s hr => ?_, fun m s hp hm => ?_, fun s h0 h1 => ?_, fun s hr => ?_⟩
  · intro e h0 h1 ha hb
    have he : skewMeasured w72 f72 w73 f73 s.dev = (e.skewTaken .warp (a + b)).skewTaken .weft (-(a + b)) := by
      unfold skewMeasured
      dsimp only
      rw [if_neg (by simp [h0, h1]), ha, hb]
    obtain ⟨ws, wv, wr, -, -, wc⟩ := e.skewTaken_shows .warp (a + b)
    obtain ⟨fs, fv, fr, fo, fu, fc⟩ := (e.skewTaken .warp (a + b)).skewTaken_shows .weft (-(a + b))
    have hc : e.tbs = s.dev.tbs := (s.dev.markersTaken_captures w72 f72 w73 f73).tbs
    refine ⟨_, next_onDev he, ?_, ?_, fun h => ?_, fun h n => ?_, s.keepsRest_withDev _⟩ <;> rw [State.withDev_dev]
    · rw [← ws]
      exact congrArg₂ (fun x y => x + 2 ^ 32 * y) (Dev.g_of_w (o := 0x304) (fo 0x304 (by omega) (by omega)))
        (Dev.g_of_w (o := 0x308) (fo 0x308 (by omega) (by omega)))
    · rw [fs, Int.mul_neg, Int.neg_tdiv]
    · cases h with
      | warp => exact ⟨(Dev.gb_of_w (o := 0x30C) (fo _ (by omega) (by omega))).trans wv, (congrArg SkewSt.raw fu).trans wr⟩
      | weft => exact ⟨fv, fr⟩
    · rw [fc, wc, Dev.count_congr hc]
  · have he : skewMeasured w72 f72 w73 f73 s.dev = ((s.dev.markersTaken w72 f72 w73 f73).skewLost .warp).skewLost .weft :=
      if_pos (by rcases hr with hr | hr <;> simp [hr])
    have hc : (s.dev.markersTaken w72 f72 w73 f73).tbs = s.dev.tbs := (s.dev.markersTaken_captures w72 f72 w73 f73).tbs
    generalize s.dev.markersTaken w72 f72 w73 f73 = e at he hc
    obtain ⟨wv, -, wc⟩ := e.skewLost_shows .warp
    obtain ⟨fv, fo, fc⟩ := (e.skewLost .warp).skewLost_shows .weft
    refine ⟨_, next_onDev he, fun h => ?_, fun h n => ?_, s.keepsRest_withDev _⟩ <;> rw [State.withDev_dev]
    · cases h with
      | warp => exact (Dev.gb_of_w (o := 0x30C) (fo _ (by omega) (by omega))).trans wv
      | weft => exact fv
    · rw [fc, wc, Dev.count_congr hc]
  · have he : scheduleTaken s.dev = { s.dev with sched := { s.dev.sched with half := .weft, pendMs := none } } := by
      unfold scheduleTaken
      rw [hp]
      exact if_pos hm
    exact ⟨_, next_onDev he, rfl, rfl, s.keepsRest_withDev _⟩
  · refine ⟨_, next_onDev (settingsCompared_running h0 h1), fun n hn hd => ?_, ?_, s.keepsRest_withDev _⟩ <;> rw [State.withDev_dev]
    · rw [diffNoted_keeps (g := Dev.sched) fun _ _ _ => rfl]
      have h2 := pinCompare_found hn (tbCompare_found s.dev hn hd)
      have h3 : n ∈ (selCompare (pinCompare (tbCompare s.dev))).sched.diffs :=
        Dev.compared_keeps (fun x => raiseTwo_keeps x _ _ _ _) (by omega) h2
      exact Dev.compared_keeps (fun x => raiseTwo_keeps x _ _ _ _) (by omega) h3
    · rw [diffNoted_keeps (g := Dev.tbs) fun _ _ _ => rfl, trsCompare_tbs]
      exact (Dev.compared_tbs fun x => raiseTwo_keeps x _ _ _ _).trans ((pinCompare_tbs _).trans (tbCompare_tbs _))
  · have he : settingsCompared s.dev = s.dev := if_neg (by rcases hr with hr | hr <;> simp [hr])
    exact congrArg (fun d => Host.Outcome.next (s.withDev d)) he

end Sys2Proof.Machine
end

section
/-! SUPPORT. The entries of timed actions (R86 to R91): what a write of an entry's word leaves, what an evaluation and a
firing read of an entry, and what follows every firing. -/

namespace Sys2Proof.Machine

theorem testBit_mergeWrite (a : Nat) {old v : Nat} (hm : writeMask a < 2 ^ 32) (i : Nat) : (mergeWrite a old v).testBit i =
    (old.testBit i && (decide (i < 32) && !(writeMask a).testBit i) || v.testBit i && (writeMask a).testBit i) := by
  have hc : (0xFFFFFFFF - writeMask a : Nat) = 2 ^ 32 - (writeMask a + 1) := by omega
  rw [mergeWrite, Nat.testBit_or, Nat.testBit_and, Nat.testBit_and, hc, Nat.testBit_two_pow_sub_succ hm]

/-- A write that differs from what a word holds in writable bits alone is stored as it is. -/
theorem mergeWrite_of_agree {a old v : Nat} (hm : writeMask a < 2 ^ 32) (hv : v < 2 ^ 32)
    (hb : ∀ i, (writeMask a).testBit i = false → v.testBit i = old.testBit i) : mergeWrite a old v = v := by
  refine Nat.eq_of_testBit_eq fun i => ?_
  rw [testBit_mergeWrite a hm]
  by_cases hi : i < 32
  · cases hw : (writeMask a).testBit i
    · simp [hb i hw, hi]
    · simp
  · have : v.testBit i = false := Nat.testBit_lt_two_pow (hv.trans_le (Nat.pow_le_pow_right (by norm_num) (by omega)))
    simp [this, hi]

theorem testBit_setBits_outside (n lo len v : Nat) {i : Nat} (hi : i < lo ∨ lo + len ≤ i) :
    (setBits n lo len v).testBit i = n.testBit i := by
  have h1 : getBits (setBits n lo len v) i 1 = getBits n i 1 := by
    rcases hi with hi | hi
    · exact getBits_setBits_below _ _ _ _ _ _ hi
    · exact getBits_setBits_above _ _ _ _ _ _ hi
  unfold getBits at h1
  rw [pow_one] at h1
  rw [Nat.testBit_eq_decide_div_mod_eq, Nat.testBit_eq_decide_div_mod_eq, h1]

theorem or_one_eq_setBits (n : Nat) : n ||| 1 = setBits n 0 1 1 := by
  refine Nat.eq_of_testBit_eq fun i => ?_
  cases i with
  | zero =>
    rw [Nat.testBit_or, Nat.testBit_zero, Nat.testBit_zero, Nat.testBit_zero, setBits]
    simp
    omega
  | succ i =>
    rw [Nat.testBit_or, testBit_setBits_outside _ _ _ _ (.inr (by omega)), Nat.testBit_succ 1 i]
    simp

section
variable (h : Half) (n : Fin 64)

theorem writeMask_ttaAct : writeMask (ttaE h n.val) = 0xFF0FF3 := by
  revert n
  cases h <;> decide +kernel

theorem writeMask_ttaSecLo : writeMask (ttaE h n.val + 8) = 0xFFFFFFFF := by
  revert n
  cases h <;> decide +kernel

end

/-- Fields of one register that share no bit: a write of the one keeps the other. -/
theorem Dev.g_p_apart (d : Dev) (b : Nat) {f f' : Fld} (v : Nat) (hf : f.lo + f.len ≤ 32)
    (ha : f'.off ≠ f.off ∨ f.lo + f.len ≤ f'.lo ∨ f'.lo + f'.len ≤ f.lo) : (d.p b f v).g b f' = d.g b f' := by
  by_cases ho : f'.off = f.off
  · exact d.g_p_field b f v f' ho hf (ha.resolve_left fun hn => hn ho)
  · exact d.g_p_ne _ _ _ _ _ fun he => ho (by omega)

theorem Dev.gb_p_apart (d : Dev) (b : Nat) {f f' : Fld} (v : Nat) (hf : f.lo + f.len ≤ 32)
    (ha : f'.off ≠ f.off ∨ f.lo + f.len ≤ f'.lo ∨ f'.lo + f'.len ≤ f.lo) : (d.p b f v).gb b f' = d.gb b f' :=
  congrArg (· == 1) (d.g_p_apart b v hf ha)

/-- What an evaluation reads of an entry, but for its state and its second, is the same in two devices: its action, its period,
the outputs' registers and the counts of its half. -/
structure Dev.sameAction (d e : Dev) (h : Half) (n : Nat) : Prop where
  kind : e.ttaKind h n = d.ttaKind h n
  target : e.ttaTarget h n = d.ttaTarget h n
  arg : e.ttaArg h n = d.ttaArg h n
  tb : e.ttaTb h n = d.ttaTb h n
  late : e.gb (ttaE h n) Reg.TTA.ACT_LATE_POL = d.gb (ttaE h n) Reg.TTA.ACT_LATE_POL
  nsec : e.g (ttaE h n) Reg.TTA.T_NSEC = d.g (ttaE h n) Reg.TTA.T_NSEC
  perNsec : e.g (ttaE h n) Reg.TTA.PER_NSEC = d.g (ttaE h n) Reg.TTA.PER_NSEC
  perSec : e.g (ttaE h n) Reg.TTA.PER_SEC = d.g (ttaE h n) Reg.TTA.PER_SEC
  outs : ∀ a, inBlock .out a → e.w a = d.w a
  count : ∀ k, e.count h k = d.count h k

theorem inBlock_outO (h : Half) {i j o : Nat} (hi : i < 2) (hj : j < 8) (ho : o < 0x100) : inBlock .out (outO h i j + o) := by
  have := inBlock_pageAddr .out h (i := i) (o := 0x100 + 0x40 * j + o) (by omega)
  rwa [← Nat.add_assoc, ← Nat.add_assoc] at this

/-- A TARGET names an output of one of the two output pages. -/
theorem ttaOutput_bound {t : Nat} {o : Half × Nat × Nat} (ho : ttaOutput t = some o) : o.2.1 < 2 ∧ o.2.2 < 8 ∧ o.2.2 < 8 - 4 * o.2.1 := by
  unfold ttaOutput at ho
  split_ifs at ho <;> cases ho <;> simp only <;> omega

section
variable {d e : Dev} {h : Half} {n : Nat} (hs : d.sameAction e h n)
include hs

theorem Dev.sameAction.period : e.ttaPeriod h n = d.ttaPeriod h n := by
  simp only [Dev.ttaPeriod, hs.perSec, hs.perNsec]

theorem Dev.sameAction.bad : e.ttaBad h n = d.ttaBad h n := by
  simp only [Dev.ttaBad, hs.kind, hs.target, hs.arg, hs.period, hs.nsec, hs.perNsec]

theorem Dev.sameAction.trim : e.ttaTrim h n = d.ttaTrim h n := by
  unfold Dev.ttaTrim
  rw [hs.kind, hs.target]
  cases ho : ttaOutput (d.ttaTarget h n) with
  | none => rfl
  | some o =>
    obtain ⟨h1, h2, -⟩ := ttaOutput_bound ho
    have : e.ptrim o.1 o.2.1 o.2.2 = d.ptrim o.1 o.2.1 o.2.2 := by
      unfold Dev.ptrim
      rw [Dev.g_of_w (o := Reg.OUT.PTRIM.off) (hs.outs _ (inBlock_outO _ h1 h2 (by decide)))]
    simp only [this]

theorem Dev.sameAction.when (ns : Nat) : e.ttaWhen h n ns = d.ttaWhen h n ns := by
  simp only [Dev.ttaWhen, hs.trim]

theorem Dev.sameAction.past (hn : e.ttaNs h n = d.ttaNs h n) : e.ttaPast h n = d.ttaPast h n := by
  simp only [Dev.ttaPast, hs.when, hs.tb, hs.count, hn]

end

section
variable {h : Half} {n : Nat} (d : Dev)

/-- A field of an entry written keeps every other entry's field, the outputs and the counts. -/
theorem Dev.p_sameAction (hn : n < 64) {f : Fld} (v : Nat) (hf : f.lo + f.len ≤ 32) (ho : f.off < 0x20)
    (ha : ∀ f' ∈ [Reg.TTA.ACT_KIND, Reg.TTA.ACT_TARGET, Reg.TTA.ARG, Reg.TTA.ACT_TB, Reg.TTA.ACT_LATE_POL, Reg.TTA.T_NSEC,
      Reg.TTA.PER_NSEC, Reg.TTA.PER_SEC], f'.off ≠ f.off ∨ f.lo + f.len ≤ f'.lo ∨ f'.lo + f'.len ≤ f.lo) :
    d.sameAction (d.p (ttaE h n) f v) h n where
  kind := d.g_p_apart _ v hf (ha _ (by simp))
  target := d.g_p_apart _ v hf (ha _ (by simp))
  arg := d.g_p_apart _ v hf (ha _ (by simp))
  tb := d.g_p_apart _ v hf (ha _ (by simp))
  late := congrArg (· == 1) (d.g_p_apart _ v hf (ha _ (by simp)))
  nsec := d.g_p_apart _ v hf (ha _ (by simp))
  perNsec := d.g_p_apart _ v hf (ha _ (by simp))
  perSec := d.g_p_apart _ v hf (ha _ (by simp))
  outs a hb := d.w_p_ne _ _ _ _ (ne_of_inBlock hb (inBlock_ttaE h hn (by omega)))
  count k := Dev.count_congr (Dev.p_tbs _ _ _ _) h k

theorem Dev.ttaNs_p (n : Nat) {f : Fld} (v : Nat) (hf : f.lo + f.len ≤ 32)
    (ha : ∀ f' ∈ [Reg.TTA.T_NSEC, Reg.TTA.T_SEC_LO, Reg.TTA.T_SEC_HI],
      f'.off ≠ f.off ∨ f.lo + f.len ≤ f'.lo ∨ f'.lo + f'.len ≤ f.lo) : (d.p (ttaE h n) f v).ttaNs h n = d.ttaNs h n := by
  simp only [Dev.ttaNs, Dev.g2]
  rw [d.g_p_apart _ v hf (ha Reg.TTA.T_SEC_LO (by simp)), d.g_p_apart _ v hf (ha Reg.TTA.T_SEC_HI (by simp)),
    d.g_p_apart _ v hf (ha Reg.TTA.T_NSEC (by simp))]

end

/-! ### An evaluation (R89, R90) -/

section
variable {d : Dev} {h : Half} {n : Nat} (act : Half → Nat → Dev → Dev)

theorem ttaEvaluate_disarmed (ha : d.ttaArmed h n = false) : d.ttaEvaluate act h n = d := by simp [Dev.ttaEvaluate, ha]

theorem ttaEvaluate_bad (ha : d.ttaArmed h n = true) (hb : d.ttaBad h n = true) :
    d.ttaEvaluate act h n = (d.pb (ttaE h n) Reg.TTA.ACT_ARM false).ttaRefused h := by simp [Dev.ttaEvaluate, ha, hb]

theorem ttaEvaluate_ahead (ha : d.ttaArmed h n = true) (hb : d.ttaBad h n = false) (hp : d.ttaPast h n = false) :
    d.ttaEvaluate act h n = d.pb (ttaE h n) Reg.TTA.ESTAT_LATE false := by simp [Dev.ttaEvaluate, ha, hb, hp]

theorem ttaEvaluate_late (ha : d.ttaArmed h n = true) (hb : d.ttaBad h n = false) (hp : d.ttaPast h n = true)
    (hl : d.gb (ttaE h n) Reg.TTA.ACT_LATE_POL = false) (h0 : d.ttaPeriod h n = 0) : d.ttaEvaluate act h n =
      ((d.pb (ttaE h n) Reg.TTA.ESTAT_LATE true).raise (ttaPg h) 0).pb (ttaE h n) Reg.TTA.ACT_ARM false := by
  simp [Dev.ttaEvaluate, ha, hb, hp, hl, h0]

end

theorem evtImplemented_tta (h : Half) {k : Nat} (hk : k < 2) : evtImplemented (ttaPg h) k = true := by
  rcases Nat.lt_succ_iff_lt_or_eq.1 hk with hk | rfl
  · obtain rfl : k = 0 := by omega
    cases h <;> decide
  · cases h <;> decide

end Sys2Proof.Machine
end

section
/-! PROOF. The arming and the live change of a timed-action entry (R86, R89, R90): O26. -/

namespace Sys2Proof.Machine

section
variable (d : Dev) (h : Half) (n : Fin 64)

/-- Arming writes the ARM bit alone. -/
theorem arm_stored : d.setw (ttaE h n.val) (mergeWrite (ttaE h n.val) (d.w (ttaE h n.val)) (d.w (ttaE h n.val) ||| 1)) =
    d.pb (ttaE h n.val) Reg.TTA.ACT_ARM true := by
  have hm := writeMask_ttaAct h n
  have hlt : d.w (ttaE h n.val) ||| 1 < 2 ^ 32 := by
    rw [or_one_eq_setBits]
    exact setBits_lt _ _ _ _ (d.w_lt _) (by norm_num)
  rw [mergeWrite_of_agree (by rw [hm]; norm_num) hlt, or_one_eq_setBits]
  · rfl
  · intro i hi
    rw [or_one_eq_setBits]
    refine testBit_setBits_outside _ _ _ _ (.inr (Nat.one_le_iff_ne_zero.2 ?_))
    rintro rfl
    rw [hm] at hi
    exact absurd hi (by decide)

/-- A written TB changes that field alone. -/
theorem tb_stored (v : Nat) : d.setw (ttaE h n.val) (mergeWrite (ttaE h n.val) (d.w (ttaE h n.val))
    (setBits (d.w (ttaE h n.val)) Reg.TTA.ACT_TB.lo Reg.TTA.ACT_TB.len v)) = d.p (ttaE h n.val) Reg.TTA.ACT_TB v := by
  have hm := writeMask_ttaAct h n
  rw [mergeWrite_of_agree (by rw [hm]; norm_num) (setBits_lt _ _ _ _ (d.w_lt _) (by decide))]
  · rfl
  · intro i hi
    refine testBit_setBits_outside _ _ _ _ ?_
    by_contra hc
    have h8 : 8 ≤ i ∧ i < 12 := by
      simp only [Reg.TTA.ACT_TB] at hc
      omega
    rw [hm] at hi
    obtain ⟨h8, h12⟩ := h8
    interval_cases i <;> exact absurd hi (by decide)

theorem secLo_merge (v : Word) : mergeWrite (ttaE h n.val + 8) (d.w (ttaE h n.val + 8)) v.toNat = v.toNat := by
  have hm := writeMask_ttaSecLo h n
  refine mergeWrite_of_agree (by rw [hm]; norm_num) v.isLt fun i hi => ?_
  have hlt : 32 ≤ i := by
    rw [hm, show (0xFFFFFFFF : Nat) = 2 ^ 32 - 1 by norm_num, Nat.testBit_two_pow_sub_one] at hi
    simpa using hi
  rw [Nat.testBit_lt_two_pow (v.isLt.trans_le (Nat.pow_le_pow_right (by norm_num) hlt)),
    Nat.testBit_lt_two_pow ((d.w_lt _).trans_le (Nat.pow_le_pow_right (by norm_num) hlt))]

/-- The low word of the second is stored as it is written. -/
theorem secLo_stored (v : Word) : d.setw (ttaE h n.val + 8) (mergeWrite (ttaE h n.val + 8) (d.w (ttaE h n.val + 8)) v.toNat) =
    d.p (ttaE h n.val) Reg.TTA.T_SEC_LO v.toNat := by
  have hs : ∀ x < 2 ^ 32, setBits x 0 32 v.toNat = v.toNat := fun x hx => by
    have := v.isLt
    simp only [setBits]
    omega
  rw [secLo_merge]
  exact congrArg (d.setw _) (hs _ (d.w_lt _)).symm

theorem Dev.secLo_word (v : Word) : (d.p (ttaE h n.val) Reg.TTA.T_SEC_LO v.toNat).w (ttaE h n.val + 8) = v.toNat := by
  rw [← secLo_stored, Dev.w_setw, if_pos rfl, secLo_merge, Nat.mod_eq_of_lt v.isLt]

end

section
variable {m : Master} {h : Half} {n : Fin 64} {s : State}

theorem bitAt_or_one (x : Nat) : bitAt (x ||| 1) 0 = true := by
  have h1 : (x ||| 1).testBit 0 = true := by simp
  rw [Nat.testBit_eq_decide_div_mod_eq] at h1
  exact beq_iff_eq.2 (of_decide_eq_true h1)

/-- ARM written in an entry that is not armed evaluates it. -/
theorem exec_ttaArm (hw : s.writable m (ttaE h n.val)) (hm : ttaWritable m n.val = true) (ha : s.dev.ttaArmed h n.val = false) :
    let d := s.dev.regAccess m (ttaE h n.val)
    exec (.ttaArm m h n) s = .next (s.withDev
      ((d.setw (ttaE h n.val) (mergeWrite (ttaE h n.val) (d.w (ttaE h n.val)) (d.w (ttaE h n.val) ||| 1))).ttaEvaluate
        (fireAct s.nv []) h n.val)) := by
  intro d
  refine (exec_of_writeAt (f := fun x => ttaActWritten (fireAct s.nv []) m h n.val (x.w (ttaE h n.val) ||| 1) x) rfl hw).trans ?_
  unfold ttaActWritten
  rw [if_neg (by simp [hm])]
  dsimp only
  rw [if_pos]
  simp only [bitAt_or_one, Bool.true_and, Bool.or_eq_true, Bool.not_eq_true']
  exact .inl ha

theorem exec_ttaArm_armed (hw : s.writable m (ttaE h n.val)) (hm : ttaWritable m n.val = true)
    (ha : s.dev.ttaArmed h n.val = false) : exec (.ttaArm m h n) s = .next (s.withDev
      (((s.dev.regAccess m (ttaE h n.val)).pb (ttaE h n.val) Reg.TTA.ACT_ARM true).ttaEvaluate (fireAct s.nv []) h n.val)) := by
  rw [exec_ttaArm hw hm ha, arm_stored]

/-- A word of the instant written with another value evaluates the entry. -/
theorem exec_ttaReevaluate_word {w : Fin 4} {v : Word} (hw : s.writable m (ttaE h n.val + 4 * w.val))
    (hm : ttaWritable m n.val = true) (h0 : w ≠ 0) :
    let a := ttaE h n.val + 4 * w.val
    let x := (s.dev.regAccess m a).setw a (mergeWrite a (s.dev.w a) v.toNat)
    exec (.ttaReevaluate m h n w v) s = .next (s.withDev
      (if x.w a ≠ s.dev.w a then x.ttaEvaluate (fireAct s.nv []) h n.val else x)) := by
  intro a x
  have h0' : w.val ≠ 0 := fun hc => h0 (Fin.ext hc)
  refine (exec_of_writeAt (f := fun y => if w.val = 0 then _ else ttaInstantWritten (fireAct s.nv []) m h n.val (4 * w.val) v.toNat y)
    rfl hw).trans ?_
  rw [if_neg h0']
  unfold ttaInstantWritten
  rw [if_neg (by simp [hm])]
  simp only [bne_iff_ne]
  rfl

/-- TB written with another timebase in an armed entry evaluates it; else it is stored alone. -/
theorem exec_ttaReevaluate_tb {v : Word} (hw : s.writable m (ttaE h n.val)) (hm : ttaWritable m n.val = true) :
    let x := (s.dev.regAccess m (ttaE h n.val)).p (ttaE h n.val) Reg.TTA.ACT_TB v.toNat
    exec (.ttaReevaluate m h n 0 v) s = .next (s.withDev
      (if s.dev.ttaArmed h n.val = true ∧ v.toNat % 16 ≠ s.dev.ttaTb h n.val then x.ttaEvaluate (fireAct s.nv []) h n.val else x)) := by
  intro x
  have hb : ∀ d : Dev, bitAt (setBits (d.w (ttaE h n.val)) Reg.TTA.ACT_TB.lo Reg.TTA.ACT_TB.len v.toNat) 0 = d.ttaArmed h n.val :=
    fun d => congrArg (· == 1) (getBits_setBits_below (d.w (ttaE h n.val)) 8 4 v.toNat 0 1 (by norm_num))
  have ht : x.ttaTb h n.val = v.toNat % 16 := Dev.g_p_same _ _ _ _ (by decide)
  refine (exec_of_writeAt (a := ttaE h n.val) (f := fun y => ttaActWritten (fireAct s.nv []) m h n.val
    (setBits (y.w (ttaE h n.val)) Reg.TTA.ACT_TB.lo Reg.TTA.ACT_TB.len v.toNat) y) rfl hw).trans ?_
  have hx : (s.dev.regAccess m (ttaE h n.val)).ttaTb h n.val = s.dev.ttaTb h n.val := rfl
  unfold ttaActWritten
  rw [if_neg (by simp [hm])]
  dsimp only
  rw [tb_stored, hb, ht, hx]
  have ha : (s.dev.regAccess m (ttaE h n.val)).ttaArmed h n.val = s.dev.ttaArmed h n.val := rfl
  rw [ha]
  by_cases hc : s.dev.ttaArmed h n.val = true ∧ v.toNat % 16 ≠ s.dev.ttaTb h n.val
  · rw [if_pos hc, if_pos (by simp [hc.1, hc.2])]
  · rw [if_neg hc, if_neg fun hn => hc ?_]
    rw [Bool.and_eq_true, Bool.or_eq_true, bne_iff_ne] at hn
    exact ⟨hn.1, hn.2.resolve_left (by simp [hn.1])⟩

end

/-- The low word of the second written with another value evaluates the entry with it. -/
theorem exec_ttaReevaluate_secLo {v : Word} (hw : s.writable m (ttaE h n.val + 8)) (hm : ttaWritable m n.val = true)
    (hv : v.toNat ≠ s.dev.w (ttaE h n.val + 8)) : exec (.ttaReevaluate m h n 2 v) s = .next (s.withDev
      (((s.dev.regAccess m (ttaE h n.val + 8)).p (ttaE h n.val) Reg.TTA.T_SEC_LO v.toNat).ttaEvaluate (fireAct s.nv []) h n.val)) := by
  have hst := secLo_stored (s.dev.regAccess m (ttaE h n.val + 8)) h n v
  refine (exec_ttaReevaluate_word (w := 2) (v := v) hw hm (by decide)).trans (congrArg (fun z => Host.Outcome.next (s.withDev z)) ?_)
  refine (if_pos ?_).trans (congrArg (Dev.ttaEvaluate (fireAct s.nv []) h n.val) hst)
  intro hn
  exact hv (((congrArg (fun z => Dev.w z (ttaE h n.val + 8)) hst).trans (Dev.secLo_word _ h n v)).symm.trans hn)

section
variable (d : Dev) {h : Half} {n : Fin 64}

theorem Dev.secLo_sameAction (v : Word) : d.sameAction (d.p (ttaE h n.val) Reg.TTA.T_SEC_LO v.toNat) h n.val :=
  d.p_sameAction n.isLt _ (by decide) (by decide) (by decide)

theorem Dev.secLo_ns (v : Word) : (d.p (ttaE h n.val) Reg.TTA.T_SEC_LO v.toNat).ttaNs h n.val =
    (v.toNat + 2 ^ 32 * d.g (ttaE h n.val) Reg.TTA.T_SEC_HI) * 10 ^ 9 + d.g (ttaE h n.val) Reg.TTA.T_NSEC := by
  simp only [Dev.ttaNs, Dev.g2]
  rw [d.g_p_apart _ _ (by decide) (f' := Reg.TTA.T_SEC_HI) (by decide), d.g_p_apart _ _ (by decide) (f' := Reg.TTA.T_NSEC) (by decide),
    Dev.g_p_same _ _ _ _ (by decide), show Reg.TTA.T_SEC_LO.len = 32 from rfl, Nat.mod_eq_of_lt v.isLt]

theorem Dev.arm_sameAction : d.sameAction (d.pb (ttaE h n.val) Reg.TTA.ACT_ARM true) h n.val :=
  d.p_sameAction n.isLt _ (by decide) (by decide) (by decide)

theorem Dev.arm_armed : (d.pb (ttaE h n.val) Reg.TTA.ACT_ARM true).ttaArmed h n.val = true :=
  Dev.gb_pb_same _ _ _ _ (by decide) (by decide)

theorem Dev.arm_past : (d.pb (ttaE h n.val) Reg.TTA.ACT_ARM true).ttaPast h n.val = d.ttaPast h n.val :=
  d.arm_sameAction.past (d.ttaNs_p _ _ (by decide) (by decide))

end

/-- Settles O26: what is written is the one field, and of the entry as it then stands the evaluation takes one branch. -/
theorem armingEvaluatesAnEntry : Obligations.ArmingEvaluatesAnEntry := by
  unfold Obligations.ArmingEvaluatesAnEntry
  refine ⟨fun m h n s hw hm ha hb hp => ?_, fun m h n s hw hm ha hb => ?_, fun m h n s hw hm ha hb hp hl h0 => ?_,
    fun m h n v s hw hm ha hb hv hc => ?_, fun m h n w v s hw hm ha => ?_, fun m h n s hw hm ha => exec_ttaArm hw hm ha,
    fun m h n w v s => ?_, fun m h n v s => ?_, fun m h n w v s hw hw0 hm => ?_⟩
  · have ht := s.dev.touches_regAccess m (ttaE h n.val) [ttaE h n.val, ttaE h n.val + 0x1C] []
    refine ⟨_, exec_ttaArm_armed hw hm ha, ?_⟩
    generalize hd : s.dev.regAccess m (ttaE h n.val) = d at ht ⊢
    have hb' : d.ttaBad h n.val = false := hd ▸ hb
    have hp' : d.ttaPast h n.val = false := hd ▸ hp
    rw [ttaEvaluate_ahead _ d.arm_armed (d.arm_sameAction.bad.trans hb') (d.arm_past.trans hp')]
    exact ⟨(Dev.gb_p_apart _ _ _ (by decide) (by decide)).trans d.arm_armed, Dev.gb_pb_same _ _ _ _ (by decide) (by decide),
      ((ht.pb (by simp [Reg.TTA.ACT_ARM]) _).pb (by simp [Reg.TTA.ESTAT_LATE]) _).onlyTouches⟩
  · have ht := s.dev.touches_regAccess m (ttaE h n.val) [ttaE h n.val] [ttaPg h + 1]
    refine ⟨_, exec_ttaArm_armed hw hm ha, ?_⟩
    have he : (s.dev.regAccess m (ttaE h n.val)).evt (ttaPg h) 1 = s.dev.evt (ttaPg h) 1 := rfl
    generalize hd : s.dev.regAccess m (ttaE h n.val) = d at ht he ⊢
    have hb' : d.ttaBad h n.val = true := hd ▸ hb
    rw [ttaEvaluate_bad _ d.arm_armed (d.arm_sameAction.bad.trans hb')]
    exact ⟨Dev.gb_pb_same _ _ _ _ (by decide) (by decide),
      (Dev.evt_raise_own _ (evtImplemented_tta h (by decide))).trans (congrArg _ he),
      (((ht.pb (by simp [Reg.TTA.ACT_ARM]) _).pb (by simp [Reg.TTA.ACT_ARM]) _).raise (List.mem_singleton_self _)).onlyTouches⟩
  · have ht := s.dev.touches_regAccess m (ttaE h n.val) [ttaE h n.val, ttaE h n.val + 0x1C] [ttaPg h]
    refine ⟨_, exec_ttaArm_armed hw hm ha, ?_⟩
    have he : (s.dev.regAccess m (ttaE h n.val)).evt (ttaPg h) 0 = s.dev.evt (ttaPg h) 0 := rfl
    generalize hd : s.dev.regAccess m (ttaE h n.val) = d at ht he ⊢
    have hb' : d.ttaBad h n.val = false := hd ▸ hb
    have hp' : d.ttaPast h n.val = true := hd ▸ hp
    have hl' : d.gb (ttaE h n.val) Reg.TTA.ACT_LATE_POL = false := hd ▸ hl
    have h0' : d.ttaPeriod h n.val = 0 := hd ▸ h0
    rw [ttaEvaluate_late _ d.arm_armed (d.arm_sameAction.bad.trans hb') (d.arm_past.trans hp')
      (d.arm_sameAction.late.trans hl') (d.arm_sameAction.period.trans h0')]
    exact ⟨Dev.gb_pb_same _ _ _ _ (by decide) (by decide),
      (Dev.gb_p_apart _ _ _ (by decide) (by decide)).trans (Dev.gb_pb_same _ _ _ _ (by decide) (by decide)),
      (Dev.evt_raise_own _ (evtImplemented_tta h (by decide))).trans (congrArg _ he),
      ((((ht.pb (by simp [Reg.TTA.ACT_ARM]) _).pb (by simp [Reg.TTA.ESTAT_LATE]) _).raise (by simp)).pb
        (by simp [Reg.TTA.ACT_ARM]) _).onlyTouches⟩
  · have ht := s.dev.touches_regAccess m (ttaE h n.val + 8) [ttaE h n.val + 8, ttaE h n.val + 0x1C] []
    refine ⟨_, exec_ttaReevaluate_secLo hw hm hv, ?_⟩
    have hcount : (s.dev.regAccess m (ttaE h n.val + 8)).count h = s.dev.count h := rfl
    generalize hd : s.dev.regAccess m (ttaE h n.val + 8) = d at ht hcount ⊢
    have ha' : d.ttaArmed h n.val = true := hd ▸ ha
    have hb' : d.ttaBad h n.val = false := hd ▸ hb
    have hs := d.secLo_sameAction (h := h) (n := n) v
    have hp : (d.p (ttaE h n.val) Reg.TTA.T_SEC_LO v.toNat).ttaPast h n.val = false := by
      refine decide_eq_false (not_lt.2 ?_)
      rw [hs.when, hs.tb, hs.count, d.secLo_ns, hcount]
      exact hd ▸ hc
    have harm : (d.p (ttaE h n.val) Reg.TTA.T_SEC_LO v.toNat).ttaArmed h n.val = true :=
      (Dev.gb_p_apart _ _ _ (by decide) (by decide)).trans ha'
    rw [ttaEvaluate_ahead _ harm (hs.bad.trans hb') hp]
    exact ⟨(Dev.gb_p_apart _ _ _ (by decide) (by decide)).trans harm,
      (Dev.w_p_ne _ _ _ _ _ (by simp [Reg.TTA.ESTAT_LATE])).trans (d.secLo_word h n v),
      Dev.gb_pb_same _ _ _ _ (by decide) (by decide),
      ((ht.p (by simp [Reg.TTA.T_SEC_LO]) _).pb (by simp [Reg.TTA.ESTAT_LATE]) _).onlyTouches⟩
  · by_cases h0 : w = 0
    · subst h0
      refine ⟨_, (exec_ttaReevaluate_tb hw hm).trans (by rw [if_neg (by simp [ha])]), fun _ => ?_, fun hn => absurd rfl hn, ?_⟩
      · exact Dev.g_p_same _ _ _ _ (by decide)
      · exact ((s.dev.touches_regAccess m _ _ _).p (List.mem_singleton_self _) _).onlyTouches
    · have hne : ttaE h n.val + Reg.TTA.ACT_ARM.off ≠ ttaE h n.val + 4 * w.val := by
        have := Fin.val_ne_of_ne h0
        simp only [Reg.TTA.ACT_ARM, Fin.val_zero] at this ⊢
        omega
      have hx : ∀ y, ((s.dev.regAccess m (ttaE h n.val + 4 * w.val)).setw (ttaE h n.val + 4 * w.val) y).ttaArmed h n.val = false :=
        fun y => (congrArg (· == 1) (Dev.g_setw_ne _ y hne)).trans ha
      refine ⟨_, exec_ttaReevaluate_word hw hm h0, fun hn => absurd hn h0, fun _ => ?_, ?_⟩
      · rw [ttaEvaluate_disarmed _ (hx _), ite_self]
        exact (Dev.w_setw _ _ _ _).trans ((if_pos rfl).trans (Nat.mod_eq_of_lt (mergeWrite_lt _ (Dev.w_lt _ _) v.isLt)))
      · rw [ttaEvaluate_disarmed _ (hx _), ite_self]
        exact ((s.dev.touches_regAccess m _ _ _).setw (List.mem_singleton_self _) _).onlyTouches
  · intro a d x hw hm ha h0 hx
    rw [exec_ttaReevaluate_word hw hm h0]
    exact congrArg (fun z => Host.Outcome.next (s.withDev z)) (if_pos hx)
  · intro a d x hw hm ha hv
    rw [exec_ttaReevaluate_tb hw hm, if_pos ⟨ha, hv⟩, ← tb_stored]
  · refine ⟨⟨_, exec_of_writeAt (f := fun x => ttaActWritten (fireAct s.nv []) m h n.val (x.w (ttaE h n.val) ||| 1) x) rfl hw0, ?_⟩,
      _, exec_of_writeAt (f := fun x => if w.val = 0 then ttaActWritten (fireAct s.nv []) m h n.val
        (setBits (x.w (ttaE h n.val)) Reg.TTA.ACT_TB.lo Reg.TTA.ACT_TB.len v.toNat) x else
        ttaInstantWritten (fireAct s.nv []) m h n.val (4 * w.val) v.toNat x) rfl hw, ?_⟩
    · rw [ttaActWritten, if_pos (by simp [hm])]
      exact (s.dev.touches_regAccess m _ _ _).onlyTouches
    · have h1 : ∀ v y, ttaActWritten (fireAct s.nv []) m h n.val v y = y := fun v y => if_pos (by simp [hm])
      have h2 : ∀ o v y, ttaInstantWritten (fireAct s.nv []) m h n.val o v y = y := fun o v y => if_pos (by simp [hm])
      rw [h1, h2, ite_self]
      exact (s.dev.touches_regAccess m _ _ _).onlyTouches

end Sys2Proof.Machine
end

section
/-! SUPPORT. The outputs of a half taken afresh (R50, R189, R565), and what follows every firing of a timed action (R87). -/

namespace Sys2Proof.Machine

/-! ### Outputs -/

@[simp] theorem Dev.setOut_tbs (d : Dev) (h : Half) (i j : Nat) (v : OutSt) : (d.setOut h i j v).tbs = d.tbs := rfl
@[simp] theorem Dev.w_setOut (d : Dev) (h : Half) (i j : Nat) (v : OutSt) (a : Nat) : (d.setOut h i j v).w a = d.w a := rfl
@[simp] theorem Dev.g_setOut (d : Dev) (h : Half) (i j : Nat) (v : OutSt) (b : Nat) (f : Fld) :
    (d.setOut h i j v).g b f = d.g b f := rfl
@[simp] theorem Dev.gb_setOut (d : Dev) (h : Half) (i j : Nat) (v : OutSt) (b : Nat) (f : Fld) :
    (d.setOut h i j v).gb b f = d.gb b f := rfl

theorem Dev.out_setOut_same (d : Dev) (h : Half) (i j : Nat) (v : OutSt) : (d.setOut h i j v).out h i j = v := by
  unfold Dev.out Dev.setOut
  exact Tab.get_set_same _ _ _ _

theorem Dev.out_congr {d e : Dev} (ho : e.outs = d.outs) (h : Half) (i j : Nat) : e.out h i j = d.out h i j := by
  unfold Dev.out
  rw [ho]

/-- Two devices differ in words and events of two lists at most, and in outputs. -/
def Dev.touchesOuts (d e : Dev) (ws es : List Nat) : Prop := d.touches { e with outs := d.outs } ws es

theorem Dev.touchesOuts.of_touches {d e : Dev} {ws es : List Nat} (ht : d.touches e ws es) : d.touchesOuts e ws es := by
  have hu := congrArg Dev.outs ht.2.2.1
  have ho : e.outs = d.outs := hu
  have he : ({ e with outs := d.outs } : Dev) = e := by rw [← ho]
  unfold Dev.touchesOuts
  rwa [he]

section
variable {d e : Dev} {ws es : List Nat} (ht : d.touchesOuts e ws es)
include ht

theorem Dev.touchesOuts.p {b : Nat} {f : Fld} (hm : b + f.off ∈ ws) (v : Nat) : d.touchesOuts (e.p b f v) ws es :=
  Dev.touches.p (e := { e with outs := d.outs }) ht hm v

theorem Dev.touchesOuts.pb {b : Nat} {f : Fld} (hm : b + f.off ∈ ws) (v : Bool) : d.touchesOuts (e.pb b f v) ws es := ht.p hm _

theorem Dev.touchesOuts.raiseIf {pg k : Nat} (hm : pg + k ∈ es) (c : Bool) : d.touchesOuts (e.raiseIf c pg k) ws es :=
  Dev.touches.raiseIf (e := { e with outs := d.outs }) ht hm c

theorem Dev.touchesOuts.setOut (h : Half) (i j : Nat) (v : OutSt) : d.touchesOuts (e.setOut h i j v) ws es := ht

theorem Dev.touchesOuts.mono {ws' es' : List Nat} (hw : ws ⊆ ws') (he : es ⊆ es' := by exact List.Subset.refl _) : d.touchesOuts e ws' es' :=
  Dev.touches.mono ht hw he

theorem Dev.touchesOuts.w {a : Nat} (ha : a ∉ ws) : e.w a = d.w a := ht.1 a ha

end

/-- One output taken afresh. -/
def outStep (h : Half) (e : Dev) (x : Nat × Nat) : Dev :=
  let b := outO h x.1 x.2
  let g := e.gcause h x.1 x.2
  let on := !(e.hs h).safe && (e.hs h).powered
  let was := e.gb b Reg.OUT.OSTAT_RUNNING
  let high := on && was && e.outHigh h x.1 x.2
  let run := on && ((g == 0 && !(e.out h x.1 x.2).stopped) || high)
  let e1 := if high then e else e.p b Reg.OUT.OSTAT_DRIVE_EFF (e.driveWant h x.1 x.2)
  ((e1.p b Reg.OUT.OSTAT_GCAUSE g).pb b Reg.OUT.OSTAT_RUNNING run).raiseIf (was && !run && g != 0) (outPg h x.1) (2 * x.2 + 1)

theorem outRefresh_eq (h : Half) (d : Dev) : outRefresh h d = outputs.foldl (outStep h) d := rfl

/-- What writes and events leave, an output taken afresh leaves. -/
theorem outStep_keeps {α : Type} {g : Dev → α} (hp : ∀ x b f v, g (x.p b f v) = g x) (hr : ∀ x c pg k, g (x.raiseIf c pg k) = g x)
    (h : Half) (e : Dev) (x : Nat × Nat) : g (outStep h e x) = g e := by
  unfold outStep
  dsimp only
  rw [hr, Dev.pb, hp, hp]
  split_ifs
  · rfl
  · exact hp _ _ _ _

theorem outRefresh_keeps {α : Type} {g : Dev → α} (hp : ∀ x b f v, g (x.p b f v) = g x)
    (hr : ∀ x c pg k, g (x.raiseIf c pg k) = g x) (h : Half) (d : Dev) : g (outRefresh h d) = g d :=
  foldl_keeps (outStep_keeps hp hr h) outputs d

section
variable (h : Half) (d : Dev)

@[simp] theorem Dev.raiseIf_outs (c : Bool) (pg k : Nat) : (d.raiseIf c pg k).outs = d.outs := rfl
@[simp] theorem Dev.raiseIf_apls (c : Bool) (pg k : Nat) : (d.raiseIf c pg k).apls = d.apls := rfl

theorem outRefresh_outs : (outRefresh h d).outs = d.outs := outRefresh_keeps Dev.p_outs Dev.raiseIf_outs h d
theorem outRefresh_tbs : (outRefresh h d).tbs = d.tbs := outRefresh_keeps Dev.p_tbs Dev.raiseIf_tbs h d
theorem outRefresh_apls : (outRefresh h d).apls = d.apls := outRefresh_keeps Dev.p_apls Dev.raiseIf_apls h d

end

theorem outStep_touches {d e : Dev} {ws es : List Nat} {h : Half} {x : Nat × Nat} (ht : d.touchesOuts e ws es)
    (hw : outO h x.1 x.2 + 0x14 ∈ ws) (he : outPg h x.1 + (2 * x.2 + 1) ∈ es) : d.touchesOuts (outStep h e x) ws es := by
  unfold outStep
  dsimp only
  refine Dev.touchesOuts.raiseIf (Dev.touchesOuts.pb (Dev.touchesOuts.p ?_ hw _) hw _) he _
  split_ifs
  · exact ht
  · exact ht.p hw _

/-- The status words of some outputs. -/
def statOf (h : Half) (l : List (Nat × Nat)) : List Nat := l.map fun x => outO h x.1 x.2 + 0x14

theorem outSteps_touches {d e : Dev} {ws es : List Nat} {h : Half} {l : List (Nat × Nat)} (ht : d.touchesOuts e ws es)
    (hl : l ⊆ outputs) (hw : statOf h l ⊆ ws) (he : outEvents h ⊆ es) : d.touchesOuts (l.foldl (outStep h) e) ws es := by
  induction l generalizing e with
  | nil => exact ht
  | cons x l ih =>
    have hx : x ∈ x :: l := List.mem_cons_self ..
    exact ih (outStep_touches ht (hw (List.mem_map_of_mem hx)) (he (List.mem_map_of_mem (hl hx))))
      (fun y hy => hl (List.mem_cons_of_mem _ hy)) fun a ha => hw (List.mem_cons_of_mem _ ha)

theorem outRefresh_touches {d e : Dev} {ws es : List Nat} {h : Half} (ht : d.touchesOuts e ws es)
    (hw : outStatWords h ⊆ ws) (he : outEvents h ⊆ es) : d.touchesOuts (outRefresh h e) ws es :=
  outSteps_touches ht (List.Subset.refl _) hw he

/-- A high phase is a matter of the output's settings, its engine, the counts and the loops. -/
theorem Dev.outHigh_congr {d e : Dev} {h : Half} {i j : Nat} (ho : e.outs = d.outs) (ht : e.tbs = d.tbs) (ha : e.apls = d.apls)
    (hc : e.w (outO h i j) = d.w (outO h i j)) (hf : ∀ k < 2, ∀ o < 0x200, e.w (aplBase h k + o) = d.w (aplBase h k + o)) :
    e.outHigh h i j = d.outHigh h i j := by
  have hp : e.isPulse h i j = d.isPulse h i j := Dev.gb_of_w (o := 0) hc
  have hl : e.outLoop h i j = d.outLoop h i j := Dev.g_of_w (o := 0) hc
  have hb : e.g (outO h i j) Reg.OUT.CFG_TB = d.g (outO h i j) Reg.OUT.CFG_TB := Dev.g_of_w (o := 0) hc
  have hw : e.aplFollow h = d.aplFollow h := Dev.g_of_w (o := Reg.APL.LCTRL_FOLLOW.off) (hf 1 (by decide) _ (by decide))
  have hx : e.fixn h = d.fixn h := Dev.g_of_w (o := Reg.APL.M_INT_FIXN.off) (hf 0 (by decide) _ (by decide))
  have hn : ∀ k, e.apl h k = d.apl h k := fun k => by unfold Dev.apl; rw [ha]
  have hm : e.minDiv h i j = d.minDiv h i j := by simp only [Dev.minDiv, hn, hx, hl]
  have hq : e.outPeriod h i j = d.outPeriod h i j := by simp only [Dev.outPeriod, hl, hx, hn, hm, Dev.out_congr ho]
  have hg : e.outTb h i j = d.outTb h i j := by simp only [Dev.outTb, hp, hl, hb, hw]
  unfold Dev.outHigh
  dsimp only
  rw [hp, hq, hg, Dev.out_congr ho, Dev.count_congr ht]

theorem inBlock_aplBase (h : Half) {k o : Nat} (hk : k < 2) (ho : o < 0x1000) : inBlock .apl (aplBase h k + o) := by
  have := inBlock_pageAddr .apl h (i := 0) (o := 0x100 + 0x200 * k + o) (by omega)
  rwa [← Nat.add_assoc, ← Nat.add_assoc] at this

theorem outputs_bound {x : Nat × Nat} (hx : x ∈ outputs) : x.1 < 2 ∧ x.2 < 8 := by
  revert x
  decide

theorem not_mem_outStatWords {h : Half} {a : Nat} (ha : ¬ inBlock .out a) : a ∉ outStatWords h := by
  intro hm
  obtain ⟨x, hx, rfl⟩ := List.mem_map.1 hm
  obtain ⟨h1, h2⟩ := outputs_bound hx
  exact ha (inBlock_outO h h1 h2 (by norm_num))

/-- The word of an output's settings is no status word. -/
theorem outO_not_mem_outStatWords (g h : Half) (i j : Nat) : outO g i j ∉ outStatWords h := by
  intro hm
  obtain ⟨x, hx, he⟩ := List.mem_map.1 hm
  obtain ⟨h1, h2⟩ := outputs_bound hx
  have := half_num_lt h
  have := half_num_lt g
  simp only [outO, outPg, pageAddr] at he
  omega

theorem outStep_running_stopped {h : Half} {e : Dev} {x : Nat × Nat} (hs : (e.out h x.1 x.2).stopped = true) :
    (outStep h e x).gb (outO h x.1 x.2) Reg.OUT.OSTAT_RUNNING = (!(e.hs h).safe && (e.hs h).powered &&
      e.gb (outO h x.1 x.2) Reg.OUT.OSTAT_RUNNING && e.outHigh h x.1 x.2) := by
  unfold outStep
  dsimp only
  rw [Dev.gb_raiseIf, Dev.gb_pb_same _ _ _ _ (by decide) (by decide), hs]
  cases (e.hs h).safe <;> cases (e.hs h).powered <;> simp

/-- What an output taken afresh reads of its settings and of the counts, the outputs taken afresh before it left. -/
theorem outHigh_of_touches {d e : Dev} {es : List Nat} {h : Half} {i j : Nat}
    (ht : d.touchesOuts e (outStatWords h) es) (ho : e.outs = d.outs) : e.outHigh h i j = d.outHigh h i j := by
  have htb := congrArg Dev.tbs ht.2.2.1
  have hap := congrArg Dev.apls ht.2.2.1
  exact Dev.outHigh_congr ho htb hap (ht.w (outO_not_mem_outStatWords h h i j)) fun k hk o hok =>
    ht.w (not_mem_outStatWords ((inBlock_aplBase h hk (by omega)).not))

theorem stat_not_mem {h : Half} {y : Nat × Nat} {l : List (Nat × Nat)} (hy : y ∈ outputs) (hl : l ⊆ outputs) (hn : y ∉ l) :
    outO h y.1 y.2 + 0x14 ∉ statOf h l := by
  intro hm
  obtain ⟨x, hx, he⟩ := List.mem_map.1 hm
  have hb := outputs_bound hy
  have hc := outputs_bound (hl hx)
  refine hn ((Prod.ext ?_ ?_ : x = y) ▸ hx) <;> simp only [outO, outPg, pageAddr] at he <;> omega

/-- RUNNING of an output after the outputs of its half have been taken afresh, where its stopped condition stands: it runs on
through a high phase alone. -/
theorem outRefresh_running_stopped {d : Dev} {h : Half} {y : Nat × Nat} (hy : y ∈ outputs) (hs : (d.out h y.1 y.2).stopped = true) :
    (outRefresh h d).gb (outO h y.1 y.2) Reg.OUT.OSTAT_RUNNING = (!(d.hs h).safe && (d.hs h).powered &&
      d.gb (outO h y.1 y.2) Reg.OUT.OSTAT_RUNNING && d.outHigh h y.1 y.2) := by
  obtain ⟨l, r, hlr⟩ := List.append_of_mem hy
  obtain ⟨-, hyr', hlr'⟩ := List.nodup_append.1 (hlr ▸ (by decide : outputs.Nodup) : (l ++ y :: r).Nodup)
  have hl : l ⊆ outputs := hlr ▸ List.subset_append_left _ _
  have hr : r ⊆ outputs := hlr ▸ fun x hx => List.mem_append_right _ (List.mem_cons_of_mem _ hx)
  have hyl : outO h y.1 y.2 + 0x14 ∉ statOf h l := stat_not_mem hy hl fun hm => hlr' y hm y (List.mem_cons_self ..) rfl
  have hyr : outO h y.1 y.2 + 0x14 ∉ statOf h r := stat_not_mem hy hr (List.nodup_cons.1 hyr').1
  have hsteps : ∀ (e : Dev) (l : List (Nat × Nat)), l ⊆ outputs → e.touchesOuts (l.foldl (outStep h) e) (statOf h l) (outEvents h) := fun e l hl =>
    outSteps_touches (Dev.touchesOuts.of_touches (Dev.touches.refl e _ _)) hl (List.Subset.refl _) (List.Subset.refl _)
  have h1 := hsteps d l hl
  have ho : (l.foldl (outStep h) d).outs = d.outs := foldl_keeps (outStep_keeps Dev.p_outs Dev.raiseIf_outs h) l d
  have hhalf := congrArg Dev.half h1.2.2.1
  rw [outRefresh_eq, hlr, List.foldl_append, List.foldl_cons,
    Dev.gb_of_w (o := 0x14) ((hsteps (outStep h (l.foldl (outStep h) d) y) r hr).w hyr)]
  generalize l.foldl (outStep h) d = e at h1 ho hhalf ⊢
  have hhs : e.hs h = d.hs h := congrArg (fun p => Pair.of p h) hhalf
  rw [outStep_running_stopped (by rwa [Dev.out_congr ho]), hhs, Dev.gb_of_w (o := 0x14) (h1.w hyl),
    outHigh_of_touches (h1.mono (List.map_subset _ hl)) ho]

/-! ### What follows every firing (R87) -/

/-- An entry's words are the same in two devices. -/
def Dev.sameEntry (d e : Dev) (h : Half) (n : Nat) : Prop := ∀ o < 0x20, e.w (ttaE h n + o) = d.w (ttaE h n + o)

section
variable {d e : Dev} {h : Half} {n : Nat}

theorem Dev.sameEntry.g (hs : d.sameEntry e h n) (f : Fld) (hf : f.off < 0x20 := by decide) : e.g (ttaE h n) f = d.g (ttaE h n) f :=
  Dev.g_of_w (o := f.off) (hs f.off hf)

theorem Dev.sameEntry.of_w (hn : n < 64) (hw : ∀ a, inBlock .tta a → e.w a = d.w a) : d.sameEntry e h n := fun _ ho =>
  hw _ (inBlock_ttaE h hn (by omega))

theorem Dev.sameEntry.ns (hs : d.sameEntry e h n) : e.ttaNs h n = d.ttaNs h n := by
  simp only [Dev.ttaNs, Dev.g2, hs.g Reg.TTA.T_SEC_LO, hs.g Reg.TTA.T_SEC_HI, hs.g Reg.TTA.T_NSEC]

theorem Dev.sameEntry.period (hs : d.sameEntry e h n) : e.ttaPeriod h n = d.ttaPeriod h n := by
  simp only [Dev.ttaPeriod, hs.g Reg.TTA.PER_SEC, hs.g Reg.TTA.PER_NSEC]

theorem Dev.sameEntry.armed (hs : d.sameEntry e h n) : e.ttaArmed h n = d.ttaArmed h n := congrArg (· == 1) (hs.g Reg.TTA.ACT_ARM)

end

section
variable (d : Dev) (h : Half) (n : Nat)

/-- The instant of an entry as it reads after it is replaced: 48 bits of seconds. -/
theorem Dev.ttaNs_putTtaNs (ns : Nat) : (d.putTtaNs h n ns).ttaNs h n = ns % (2 ^ 48 * 10 ^ 9) := by
  unfold Dev.ttaNs Dev.putTtaNs Dev.p2 Dev.g2
  dsimp only
  rw [Dev.g_p_apart _ _ (f' := Reg.TTA.T_SEC_LO) _ (by decide) (by decide),
    Dev.g_p_apart _ _ (f' := Reg.TTA.T_SEC_LO) _ (by decide) (by decide),
    Dev.g_p_apart _ _ (f' := Reg.TTA.T_SEC_HI) _ (by decide) (by decide),
    Dev.g_p_same _ _ _ _ (by decide), Dev.g_p_same _ _ _ _ (by decide), Dev.g_p_same _ _ _ _ (by decide)]
  simp only [Reg.TTA.T_SEC_LO, Reg.TTA.T_SEC_HI, Reg.TTA.T_NSEC]
  omega

theorem Dev.g_putTtaNs (ns : Nat) {f : Fld} (hf : ∀ g ∈ [Reg.TTA.T_NSEC, Reg.TTA.T_SEC_LO, Reg.TTA.T_SEC_HI], f.off ≠ g.off) :
    (d.putTtaNs h n ns).g (ttaE h n) f = d.g (ttaE h n) f := by
  unfold Dev.putTtaNs Dev.p2
  dsimp only
  rw [Dev.g_p_apart _ _ _ (by decide) (.inl (hf _ (by simp))), Dev.g_p_apart _ _ _ (by decide) (.inl (hf _ (by simp))),
    Dev.g_p_apart _ _ _ (by decide) (.inl (hf _ (by simp)))]

theorem Dev.ttaFired_once (h0 : d.ttaPeriod h n = 0) :
    d.ttaFired h n = (d.inc (ttaE h n) Reg.TTA.ESTAT_FIRED).pb (ttaE h n) Reg.TTA.ACT_ARM false := if_pos h0

theorem Dev.ttaFired_periodic (h0 : d.ttaPeriod h n ≠ 0) :
    d.ttaFired h n = (d.inc (ttaE h n) Reg.TTA.ESTAT_FIRED).putTtaNs h n (d.ttaNs h n + d.ttaPeriod h n) := if_neg h0

/-- What writes of words leave, what follows a firing leaves. -/
theorem Dev.ttaFired_keeps {α : Type} {g : Dev → α} (hp : ∀ x b f v, g (x.p b f v) = g x) : g (d.ttaFired h n) = g d := by
  by_cases h0 : d.ttaPeriod h n = 0
  · rw [d.ttaFired_once h n h0, Dev.pb, Dev.inc, hp, hp]
  · rw [d.ttaFired_periodic h n h0, Dev.putTtaNs, Dev.p2, Dev.inc, hp, hp, hp, hp]

theorem Dev.ttaFired_w {a : Nat} (ha : a ∉ ttaWords h n) : (d.ttaFired h n).w a = d.w a := by
  simp only [ttaWords, List.mem_cons, List.not_mem_nil, or_false, not_or] at ha
  obtain ⟨h1, h2, h3, h4, h5⟩ := ha
  by_cases h0 : d.ttaPeriod h n = 0
  · rw [d.ttaFired_once h n h0, Dev.pb, Dev.inc, Dev.w_p_ne _ _ _ _ _ h1, Dev.w_p_ne _ _ _ _ _ h5]
  · rw [d.ttaFired_periodic h n h0, Dev.putTtaNs, Dev.p2, Dev.inc, Dev.w_p_ne _ _ _ _ _ h2, Dev.w_p_ne _ _ _ _ _ h4,
      Dev.w_p_ne _ _ _ _ _ h3, Dev.w_p_ne _ _ _ _ _ h5]

/-- What follows a firing touches the entry's own words alone, whatever a relation closed under writes says besides. -/
theorem Dev.ttaFired_ind {P : Dev → Prop} (h0 : P d)
    (hp : ∀ e, P e → ∀ f : Fld, ttaE h n + f.off ∈ ttaWords h n → ∀ v, P (e.p (ttaE h n) f v)) : P (d.ttaFired h n) := by
  have h1 : P (d.inc (ttaE h n) Reg.TTA.ESTAT_FIRED) := hp _ h0 _ (by simp [ttaWords, Reg.TTA.ESTAT_FIRED]) _
  by_cases hz : d.ttaPeriod h n = 0
  · rw [d.ttaFired_once h n hz]
    exact hp _ h1 _ (by simp [ttaWords, Reg.TTA.ACT_ARM]) _
  · rw [d.ttaFired_periodic h n hz]
    exact hp _ (hp _ (hp _ h1 _ (by simp [ttaWords, Reg.TTA.T_SEC_LO]) _) _ (by simp [ttaWords, Reg.TTA.T_SEC_HI]) _) _
      (by simp [ttaWords, Reg.TTA.T_NSEC]) _

theorem Dev.touches.ttaFired {d e : Dev} {ws es : List Nat} {h : Half} {n : Nat} (ht : d.touches e ws es) (hw : ttaWords h n ⊆ ws) :
    d.touches (e.ttaFired h n) ws es :=
  e.ttaFired_ind (P := fun x => d.touches x ws es) h n ht fun _ hx _ hm _ => hx.p (hw hm) _

theorem Dev.touchesOuts.ttaFired {d e : Dev} {ws es : List Nat} {h : Half} {n : Nat} (ht : d.touchesOuts e ws es)
    (hw : ttaWords h n ⊆ ws) : d.touchesOuts (e.ttaFired h n) ws es :=
  e.ttaFired_ind (P := fun x => d.touchesOuts x ws es) h n ht fun _ hx _ hm _ => hx.p (hw hm) _

end

/-- What follows a firing whose action left the entry as it was. -/
theorem State.firedBy_of {s t : State} {e : Dev} {h : Half} {n : Nat} (hs : s.dev.sameEntry e h n)
    (ha : s.dev.ttaArmed h n = true) (ht : t.dev = e.ttaFired h n) : s.firedBy t h n := by
  unfold State.firedBy
  rw [ht, ← hs.g Reg.TTA.ESTAT_FIRED, ← hs.ns, ← hs.period]
  have hf : (e.inc (ttaE h n) Reg.TTA.ESTAT_FIRED).g (ttaE h n) Reg.TTA.ESTAT_FIRED =
    (e.g (ttaE h n) Reg.TTA.ESTAT_FIRED + 1) % 2 ^ 16 := Dev.g_p_same _ _ _ _ (by decide)
  have hns : (e.inc (ttaE h n) Reg.TTA.ESTAT_FIRED).ttaNs h n = e.ttaNs h n := e.ttaNs_p n _ (by decide) (by decide)
  refine ⟨?_, fun h0 => ?_, fun h0 => ?_⟩
  · by_cases h0 : e.ttaPeriod h n = 0
    · rw [e.ttaFired_once h n h0, Dev.pb, Dev.g_p_apart _ _ _ (by decide) (by decide), hf]
    · rw [e.ttaFired_periodic h n h0, Dev.g_putTtaNs _ _ _ _ (by decide), hf]
  · rw [e.ttaFired_once h n h0]
    exact ⟨Dev.gb_pb_same _ _ _ _ (by decide) (by decide), (Dev.ttaNs_p _ n _ (by decide) (by decide)).trans hns⟩
  · rw [e.ttaFired_periodic h n h0]
    refine ⟨?_, Dev.ttaNs_putTtaNs _ _ _ _⟩
    exact (congrArg (· == 1) ((Dev.g_putTtaNs _ _ _ _ (by decide)).trans (Dev.g_p_apart _ _ _ (by decide) (by decide)))).trans
      (hs.armed.trans ha)

theorem Dev.ttaDue_armed {d : Dev} {h : Half} {n k : Nat} (hd : d.ttaDue h n k = true) : d.ttaArmed h n = true := by
  simp only [Dev.ttaDue, Bool.and_eq_true] at hd
  exact hd.1.2.1.1

theorem exec_of_fire {c : Instr} {s : State} {act : Half → Nat → Dev → Dev} {h : Half} {n k : Nat}
    (hc : exec c s = .next (s.onDev fun d => d.ttaFire act h n k)) :
    (s.dev.ttaDue h n k = true → exec c s = .next (s.withDev ((act h n s.dev).ttaFired h n))) ∧
      (s.dev.ttaDue h n k = false → exec c s = .next s) := by
  refine ⟨fun hd => ?_, fun hd => ?_⟩
  · rw [hc, State.onDev, Dev.ttaFire, if_pos hd]
    rfl
  · rw [hc, State.onDev, Dev.ttaFire, if_neg (by simp [hd])]

end Sys2Proof.Machine
end

section
/-! PROOF. The firings that act on outputs, capture points and timebases (R84, R86, R87, R104, R187, R565): O27. -/

namespace Sys2Proof.Machine

section
variable {h : Half} {n : Fin 64} {s : State}

theorem not_mem_ttaWords {a : Nat} (ha : ¬ inBlock .tta a) : a ∉ ttaWords h n.val := by
  intro hm
  simp only [ttaWords, List.mem_cons, List.not_mem_nil, or_false] at hm
  have hb : ∀ o < 0x20, inBlock .tta (ttaE h n.val + o) := fun o ho => inBlock_ttaE h n.isLt (by omega)
  rcases hm with rfl | rfl | rfl | rfl | rfl
  · exact ha (hb 0 (by decide))
  · exact ha (hb 4 (by decide))
  · exact ha (hb 8 (by decide))
  · exact ha (hb 12 (by decide))
  · exact ha (hb 28 (by decide))

theorem Dev.touchesOuts.onlyTouches {t : State} {e : Dev} {ws es : List Nat} (ht : s.dev.touchesOuts e ws es) (hd : t.dev = e)
    (hr : s.keepsRest t) : s.onlyTouches { t with dev := { t.dev with outs := s.dev.outs } } ws es := by
  subst hd
  exact ⟨ht.1, ht.2.1, ht.2.2, hr⟩

/-- A firing whose action touches outputs and, beside the entries, words and events of two lists. -/
theorem firing_outs {c : Instr} {act : Half → Nat → Dev → Dev} {k : Nat} {ws es : List Nat} {x : Dev}
    (hc : exec c s = .next (s.onDev fun d => d.ttaFire act h n.val k)) (hd : s.dev.ttaDue h n.val k = true)
    (hx : act h n.val s.dev = x) (ht : s.dev.touchesOuts x ws es) (hws : ∀ a ∈ ws, ¬ inBlock .tta a) :
    ∃ t, exec c s = .next t ∧ t.dev.outs = x.outs ∧ t.dev.evts = x.evts ∧ (∀ a, ¬ inBlock .tta a → t.dev.w a = x.w a) ∧
      s.firedBy t h n.val ∧ s.onlyTouches { t with dev := { t.dev with outs := s.dev.outs } } (ttaWords h n.val ++ ws) es := by
  refine ⟨_, (exec_of_fire hc).1 hd, ?_⟩
  rw [hx]
  refine ⟨x.ttaFired_keeps _ _ Dev.p_outs, x.ttaFired_keeps _ _ Dev.p_evts, fun a ha => x.ttaFired_w _ _ (not_mem_ttaWords ha),
    State.firedBy_of (e := x) (.of_w n.isLt fun a ha => ht.w fun hm => hws a hm ha) (Dev.ttaDue_armed hd) rfl, ?_⟩
  exact ((ht.mono (List.subset_append_right _ _)).ttaFired (List.subset_append_left _ _)).onlyTouches rfl (s.keepsRest_withDev _)

/-- A firing whose action touches, beside the entries, words and events of two lists. -/
theorem firing_touches {c : Instr} {act : Half → Nat → Dev → Dev} {k : Nat} {ws es : List Nat} {x : Dev}
    (hc : exec c s = .next (s.onDev fun d => d.ttaFire act h n.val k)) (hd : s.dev.ttaDue h n.val k = true)
    (hx : act h n.val s.dev = x) (ht : s.dev.touches x ws es) (hws : ∀ a ∈ ws, ∀ o < 0x20, a ≠ ttaE h n.val + o) :
    ∃ t, exec c s = .next t ∧ t.dev.evts = x.evts ∧ (∀ a, a ∉ ttaWords h n.val → t.dev.w a = x.w a) ∧
      s.firedBy t h n.val ∧ s.onlyTouches t (ws ++ ttaWords h n.val) es := by
  refine ⟨_, (exec_of_fire hc).1 hd, ?_⟩
  rw [hx]
  refine ⟨x.ttaFired_keeps _ _ Dev.p_evts, fun a ha => x.ttaFired_w _ _ ha,
    State.firedBy_of (e := x) (fun o ho => ht.1 _ fun hm => hws _ hm o ho rfl) (Dev.ttaDue_armed hd) rfl, ?_⟩
  exact ((ht.mono (List.subset_append_left _ _) (List.Subset.refl _)).ttaFired (List.subset_append_right _ _)).onlyTouches

/-- A firing that is refused. -/
theorem firing_refused {c : Instr} {act : Half → Nat → Dev → Dev} {k : Nat}
    (hc : exec c s = .next (s.onDev fun d => d.ttaFire act h n.val k)) (hd : s.dev.ttaDue h n.val k = true)
    (hx : act h n.val s.dev = s.dev.ttaRefused h) :
    ∃ t, exec c s = .next t ∧ t.dev.evt (ttaPg h) 1 = (s.dev.evt (ttaPg h) 1).occur ∧ s.firedBy t h n.val ∧
      s.onlyTouches t (ttaWords h n.val) [ttaPg h + 1] := by
  obtain ⟨t, ht, he, -, hf, ho⟩ := firing_touches hc hd hx
    ((Dev.touches.refl s.dev [] _).raise (List.mem_singleton_self (ttaPg h + 1))) fun _ hm => nomatch hm
  exact ⟨t, ht, (Dev.evt_congr he _ _).trans (Dev.evt_raise_own _ (evtImplemented_tta h (by decide))), hf, ho⟩

section
variable {o : Half × Nat × Nat} {d : Dev} {e : Nat} (ho : ttaOutput (d.ttaTarget h e) = some o)
include ho

theorem pulseAct_refused (hp : d.isPulse o.1 o.2.1 o.2.2 = false) : pulseAct h e d = d.ttaRefused h := by
  simp [pulseAct, ho, hp]

/-- The engine of an output that a pulse has been placed on. -/
def OutSt.pulsed (old : OutSt) (rise fall : Nat) : OutSt :=
  if rise < old.highTo then { old with highTo := max old.highTo fall } else { old with edge := some rise, highTo := fall }

theorem pulseAct_placed (hp : d.isPulse o.1 o.2.1 o.2.2 = true)
    (hr : d.gb (outO o.1 o.2.1 o.2.2) Reg.OUT.OSTAT_RUNNING = true) :
    let rise := d.inTb h (d.ttaTb h e) (d.outTb o.1 o.2.1 o.2.2) ((d.ttaWhen h e (d.ttaNs h e)).toNat / 2 ^ 32)
    pulseAct h e d = d.setOut o.1 o.2.1 o.2.2
      ((d.out o.1 o.2.1 o.2.2).pulsed rise (rise + d.ttaArg h e / 8 * 8 * 2 ^ 32)) := by
  intro rise
  unfold pulseAct
  rw [ho]
  dsimp only
  rw [if_neg (by simp [hp]), if_neg (by simp [hr]), OutSt.pulsed]
  exact (apply_ite (d.setOut o.1 o.2.1 o.2.2) _ _ _).symm

theorem outStartAct_refused (hp : d.isPulse o.1 o.2.1 o.2.2 = true) : outStartAct h e d = d.ttaRefused h := by
  simp [outStartAct, ho, hp]

theorem outStartAct_placed (hp : d.isPulse o.1 o.2.1 o.2.2 = false) : outStartAct h e d =
    outRefresh o.1 (d.setOut o.1 o.2.1 o.2.2 { d.out o.1 o.2.1 o.2.2 with
      stopped := false, anchor := d.inTb h (d.ttaTb h e) (d.outTb o.1 o.2.1 o.2.2) (d.ttaNs h e * 2 ^ 32) }) := by
  simp [outStartAct, ho, hp]

theorem outStopAct_placed (hp : d.en (outPg o.1 o.2.1) (outO o.1 o.2.1 o.2.2) Reg.OUT.CFG_EN = true) : outStopAct h e d =
    outRefresh o.1 (d.setOut o.1 o.2.1 o.2.2 { d.out o.1 o.2.1 o.2.2 with stopped := true }) := by
  simp [outStopAct, ho, hp]

end

end

/-! ### TRIGGER and DOMAIN_SWITCH -/

/-- Two devices differ in words of one list at most, and in capture units. -/
def Dev.touchesCaps (d e : Dev) (ws : List Nat) : Prop := d.touches { e with caps := d.caps } ws []

/-- A trigger line's pulse at one point. -/
def trigStep (h : Half) (line cp : Nat) (e : Dev) : Dev :=
  if e.g (tdcP h cp) Reg.TDC.CFG_MODE == 2 && e.g (tdcP h cp) Reg.TDC.CFG_TRIG == line then
    e.setCap h cp { e.cap h cp with armed := true }
  else e

/-- A point is armed by a pulse on a line. -/
def Dev.names (d : Dev) (h : Half) (line cp : Nat) : Prop :=
  d.g (tdcP h cp) Reg.TDC.CFG_MODE = 2 ∧ d.g (tdcP h cp) Reg.TDC.CFG_TRIG = line

section
variable (d : Dev) (h : Half) (line : Nat)

theorem triggerLine_eq : d.triggerLine h line = d.each 80 (trigStep h line) := rfl

theorem triggerLine_touches : d.touchesCaps (d.triggerLine h line) [] := by
  refine Dev.each_ind (P := fun e => d.touchesCaps e []) (Dev.touches.refl d [] []) fun cp _ e he => ?_
  split_ifs
  · exact he
  · exact he

theorem trigSteps_regs (k : Nat) : (d.each k (trigStep h line)).regs = d.regs := by
  refine Dev.each_ind (P := fun e => e.regs = d.regs) rfl fun cp _ e he => ?_
  unfold trigStep
  split_ifs
  · exact he
  · exact he

theorem trigStep_of_names {cp : Nat} (hn : d.names h line cp) :
    trigStep h line cp d = d.setCap h cp { d.cap h cp with armed := true } := if_pos (by simpa [Dev.names] using hn)

theorem trigStep_of_not {cp : Nat} (hn : ¬ d.names h line cp) : trigStep h line cp d = d := if_neg (by simpa [Dev.names] using hn)

/-- A pulse's loop over the points arms each point that names the line and no other. -/
theorem trigSteps_cap (g : Half) {cp : Nat} (hcp : cp < 80) {k : Nat} (hk : k ≤ 80) :
    (g = h ∧ cp < k ∧ d.names h line cp → (d.each k (trigStep h line)).cap g cp = { d.cap g cp with armed := true }) ∧
      (¬ (g = h ∧ cp < k ∧ d.names h line cp) → (d.each k (trigStep h line)).cap g cp = d.cap g cp) := by
  induction k with
  | zero => exact ⟨fun hc => absurd hc.2.1 (by omega), fun _ => rfl⟩
  | succ k ih =>
    obtain ⟨ih1, ih2⟩ := ih (by omega)
    have hr := trigSteps_regs d h line k
    have hn : (d.each k (trigStep h line)).names h line k ↔ d.names h line k := by
      simp only [Dev.names, Dev.g_congr hr]
    rw [Dev.each_succ]
    generalize d.each k (trigStep h line) = e at ih1 ih2 hn ⊢
    by_cases hc : d.names h line k
    · rw [trigStep_of_names e h line (hn.2 hc)]
      by_cases hx : g = h ∧ cp = k
      · obtain ⟨rfl, rfl⟩ := hx
        rw [Dev.cap_setCap_same, ih2 fun hf => absurd hf.2.1 (by omega)]
        exact ⟨fun _ => rfl, fun hf => absurd ⟨rfl, Nat.lt_succ_self _, hc⟩ hf⟩
      · have hne : (e.setCap h k { e.cap h k with armed := true }).cap g cp = e.cap g cp := by
          refine Tab.get_set_ne (fun _ => ({} : CapUnit)) e.caps _ _ _ fun hi => hx ?_
          have : g.num = h.num ∧ cp = k := by omega
          exact ⟨half_num_inj this.1, this.2⟩
        rw [hne]
        exact ⟨fun hf => ih1 ⟨hf.1, by have := hf.2.1; have : cp ≠ k := fun hk => hx ⟨hf.1, hk⟩; omega, hf.2.2⟩,
          fun hf => ih2 fun hi => hf ⟨hi.1, by omega, hi.2.2⟩⟩
    · rw [trigStep_of_not e h line fun hi => hc (hn.1 hi)]
      refine ⟨fun hf => ih1 ⟨hf.1, ?_, hf.2.2⟩, fun hf => ih2 fun hi => hf ⟨hi.1, by omega, hi.2.2⟩⟩
      have : cp ≠ k := fun hk => hc (hk ▸ hf.2.2)
      omega

end

theorem Dev.touchesCaps.onlyTouches {s t : State} {e : Dev} {ws : List Nat} (ht : s.dev.touchesCaps e ws) (hd : t.dev = e)
    (hr : s.keepsRest t) : s.onlyTouches { t with dev := { t.dev with caps := s.dev.caps } } ws [] := by
  subst hd
  exact ⟨ht.1, ht.2.1, ht.2.2, hr⟩

theorem Dev.touchesCaps.ttaFired {d e : Dev} {h : Half} {n : Nat} (ht : d.touchesCaps e []) :
    d.touchesCaps (e.ttaFired h n) (ttaWords h n) :=
  e.ttaFired_ind (P := fun x => d.touchesCaps x (ttaWords h n)) h n (Dev.touches.mono ht (List.nil_subset _) (List.Subset.refl _))
    fun x hx _ hm v => Dev.touches.p (e := { x with caps := d.caps }) hx hm v

theorem ttaOutput_mem {t : Nat} {o : Half × Nat × Nat} (ho : ttaOutput t = some o) : (o.2.1, o.2.2) ∈ outputs := by
  obtain ⟨h1, h2, h3⟩ := ttaOutput_bound ho
  revert h1 h2 h3
  generalize o.2.1 = i
  generalize o.2.2 = j
  intro h1 h2 h3
  interval_cases i <;> interval_cases j <;> simp [outputs] at h3 ⊢

/-- A stopped condition alone changes no high phase. -/
theorem Dev.outHigh_stopped (d : Dev) (h : Half) (i j : Nat) :
    (d.setOut h i j { d.out h i j with stopped := true }).outHigh h i j = d.outHigh h i j := by
  have ho := d.out_setOut_same h i j { d.out h i j with stopped := true }
  have hp : (d.setOut h i j { d.out h i j with stopped := true }).outPeriod h i j = d.outPeriod h i j := by
    unfold Dev.outPeriod
    rw [ho]
    rfl
  unfold Dev.outHigh
  dsimp only
  rw [ho, hp]
  rfl

theorem Dev.cap_congr {d e : Dev} (hc : e.caps = d.caps) (h : Half) (cp : Nat) : e.cap h cp = d.cap h cp := by
  unfold Dev.cap
  rw [hc]

theorem Dev.touchesTb.mono {d e : Dev} {h : Half} {k : Nat} {ws es ws' es' : List Nat} (ht : d.touchesTb e h k ws es)
    (hw : ws ⊆ ws') (he : es ⊆ es') : d.touchesTb e h k ws' es' := ⟨ht.1.mono hw he, ht.2⟩

theorem Dev.touchesTb.ttaFired {d e : Dev} {h : Half} {k n : Nat} {ws es : List Nat} (ht : d.touchesTb e h k ws es)
    (hw : ttaWords h n ⊆ ws) : d.touchesTb (e.ttaFired h n) h k ws es :=
  e.ttaFired_ind (P := fun x => d.touchesTb x h k ws es) h n ht fun _ hx _ hm v => hx.p (hw hm) v

/-- Settles O27: each action has its place, and what follows every firing touches the entry alone. -/
theorem firingsActOnOutputsPointsAndDomain : Obligations.FiringsActOnOutputsPointsAndDomain := by
  unfold Obligations.FiringsActOnOutputsPointsAndDomain
  refine ⟨fun h n o s hd ho hp hr => ?_, fun h n o s hd ho hp => ?_, fun h n o s ho => ?_, fun h n o s hd ho hp => ?_,
    fun h n s hd => ?_, fun h n s => ?_, fun h n s hd => ?_⟩
  · intro rise old
    obtain ⟨t, ht, hto, -, -, hf, hk⟩ := firing_outs (c := .ttaPulse h n) rfl hd (pulseAct_placed ho hp hr)
      (Dev.touchesOuts.setOut (.of_touches (Dev.touches.refl s.dev [] [])) _ _ _ _) (fun _ hm => nomatch hm)
    have hout : t.dev.out o.1 o.2.1 o.2.2 = old.pulsed rise (rise + s.dev.ttaArg h n.val / 8 * 8 * 2 ^ 32) :=
      (Dev.out_congr hto _ _ _).trans (Dev.out_setOut_same _ _ _ _ _)
    refine ⟨t, ht, ?_, ?_, hf, List.append_nil (ttaWords h n.val) ▸ hk⟩
    · rw [hout, OutSt.pulsed]
      split_ifs <;> rfl
    · rw [hout, OutSt.pulsed]
      split_ifs
      · rfl
      · simp only
        omega
  · obtain ⟨h1, h2, -⟩ := ttaOutput_bound ho
    obtain ⟨t, ht, hto, -, -, hf, hk⟩ := firing_outs (c := .ttaOutStart h n) rfl hd (outStartAct_placed ho hp)
      (outRefresh_touches (Dev.touchesOuts.setOut (.of_touches (Dev.touches.refl s.dev _ _)) _ _ _ _) (List.Subset.refl _)
        (List.Subset.refl _)) (fun a hm ha => not_mem_outStatWords ha.not hm)
    have hout := (Dev.out_congr (hto.trans (outRefresh_outs _ _)) o.1 o.2.1 o.2.2).trans (Dev.out_setOut_same _ _ _ _ _)
    exact ⟨t, ht, congrArg OutSt.stopped hout, congrArg OutSt.anchor hout, hf, hk⟩
  · exact ⟨fun hd hp => firing_refused rfl hd (pulseAct_refused ho hp), fun hd hp => firing_refused rfl hd (outStartAct_refused ho hp)⟩
  · obtain ⟨h1, h2, -⟩ := ttaOutput_bound ho
    obtain ⟨t, ht, hto, -, htw, hf, hk⟩ := firing_outs (c := .ttaOutStop h n) rfl hd (outStopAct_placed ho hp)
      (outRefresh_touches (Dev.touchesOuts.setOut (.of_touches (Dev.touches.refl s.dev _ _)) _ _ _ _) (List.Subset.refl _)
        (List.Subset.refl _)) (fun a hm ha => not_mem_outStatWords ha.not hm)
    have hout := (Dev.out_congr (hto.trans (outRefresh_outs _ _)) o.1 o.2.1 o.2.2).trans (Dev.out_setOut_same _ _ _ _ _)
    refine ⟨t, ht, congrArg OutSt.stopped hout, ?_, hf, hk⟩
    rw [Dev.gb_of_w (o := 0x14) (htw _ (inBlock_outO o.1 h1 h2 (by decide)).not),
      outRefresh_running_stopped (y := (o.2.1, o.2.2)) (ttaOutput_mem ho) (congrArg OutSt.stopped (Dev.out_setOut_same _ _ _ _ _)),
      Dev.outHigh_stopped]
    rfl
  · obtain ⟨hw, he, hu⟩ := triggerLine_touches s.dev h (s.dev.ttaTarget h n.val)
    refine ⟨_, (exec_of_fire rfl).1 hd, fun cp hc => ?_, fun cp hc => ?_, ?_, ?_⟩
    · refine (Dev.cap_congr (Dev.ttaFired_keeps _ _ _ Dev.p_caps) h cp).trans ?_
      obtain ⟨h1, h2⟩ := trigSteps_cap s.dev h (s.dev.ttaTarget h n.val) h hc (k := 80) (by decide)
      split_ifs with hn
      · exact h1 ⟨rfl, hc, hn⟩
      · exact h2 fun hf => hn hf.2.2
    · refine (Dev.cap_congr (Dev.ttaFired_keeps _ _ _ Dev.p_caps) h.other cp).trans ?_
      exact (trigSteps_cap s.dev h (s.dev.ttaTarget h n.val) h.other hc (k := 80) (by decide)).2 fun hf => by
        cases h <;> exact absurd hf.1 (by decide)
    · exact State.firedBy_of (e := s.dev.triggerLine h (s.dev.ttaTarget h n.val)) (fun o _ => hw _ (nomatch ·)) (Dev.ttaDue_armed hd) rfl
    · exact (Dev.touchesCaps.ttaFired ⟨hw, he, hu⟩).onlyTouches rfl (s.keepsRest_withDev _)
  · exact ⟨(exec_of_fire rfl).1, (exec_of_fire rfl).1, (exec_of_fire rfl).1, (exec_of_fire rfl).1, (exec_of_fire rfl).2,
      (exec_of_fire rfl).2, (exec_of_fire rfl).2, (exec_of_fire rfl).2, (exec_of_fire rfl).2⟩
  · intro k v hv
    have hk : k < 16 := Nat.mod_lt _ (by decide)
    have hne : s.dev.gb (tsuB h k) Reg.TSU.CTRL_DOM_SEL ≠ v := by
      show _ ≠ !_
      cases s.dev.gb (tsuB h k) Reg.TSU.CTRL_DOM_SEL <;> decide
    have hx : domainSwitchAct h n.val s.dev = _ := domSelWritten_taken (d := s.dev) (h := h) (n := k) hne hv
    have ht : s.dev.touchesTb (domainSwitchAct h n.val s.dev) h k [tsuB h k, tsuB h k + 4] [] := by
      rw [hx]
      exact (((Dev.touchesTb.refl s.dev h k _ _).pb (by simp [Reg.TSU.CTRL_DOM_SEL]) _).pb (by simp [Reg.TSU.STAT_DSW_ACTIVE]) _).setTb rfl
    have hsel : (domainSwitchAct h n.val s.dev).gb (tsuB h k) Reg.TSU.CTRL_DOM_SEL = v := by
      rw [hx, Dev.gb_setTb]
      exact (Dev.gb_p_apart _ _ _ (by decide) (by decide)).trans (Dev.gb_pb_same _ _ _ _ (by decide) (by decide))
    have hact : (domainSwitchAct h n.val s.dev).gb (tsuB h k) Reg.TSU.STAT_DSW_ACTIVE = true := by
      rw [hx, Dev.gb_setTb]
      exact Dev.gb_pb_same _ _ _ _ (by decide) (by decide)
    have hb : ∀ o < 0x80, ¬ inBlock .tta (tsuB h k + o) := fun o ho => (inBlock_tsuB h hk (by omega)).not
    refine ⟨_, (exec_of_fire rfl).1 hd, ?_⟩
    generalize domainSwitchAct h n.val s.dev = x at ht hsel hact ⊢
    have hw : ∀ o < 0x80, (x.ttaFired h n.val).w (tsuB h k + o) = x.w (tsuB h k + o) := fun o ho =>
      x.ttaFired_w _ _ (not_mem_ttaWords (hb o ho))
    refine ⟨(Dev.gb_of_w (o := 0) (hw 0 (by decide))).trans hsel, (Dev.gb_of_w (o := 4) (hw 4 (by decide))).trans hact,
      fun j _ => (Dev.count_congr (x.ttaFired_keeps _ _ Dev.p_tbs) h j).trans (ht.2.2 h j),
      State.firedBy_of (e := x) (fun o ho => ht.1.1 _ fun hm => ?_) (Dev.ttaDue_armed hd) rfl, ?_⟩
    · have hin := inBlock_ttaE h n.isLt (o := o) (by omega)
      simp only [List.mem_cons, List.not_mem_nil, or_false] at hm
      exact hm.elim (fun he => hb 0 (by decide) (he ▸ hin)) fun he => hb 4 (by decide) (he ▸ hin)
    · exact (ht.mono (List.subset_append_right _ _) (List.Subset.refl _)).ttaFired (List.subset_append_left _ _) |>.onlyTb.1

end Sys2Proof.Machine
end

section
/-! PROOF. The firings that send, capture, latch and write (R86, R88, R240, R263, R358): O28. -/

namespace Sys2Proof.Machine

/-- The words of some pages, the timebases and the events are the same in two devices. -/
structure Dev.keepsPages (ps : List Page) (d e : Dev) : Prop where
  words : ∀ p ∈ ps, ∀ a, inBlock p a → e.w a = d.w a
  tbs : e.tbs = d.tbs
  evts : e.evts = d.evts

section
variable {ps : List Page} {d e f : Dev}

theorem Dev.keepsPages.refl (ps : List Page) (d : Dev) : d.keepsPages ps d := ⟨fun _ _ _ _ => rfl, rfl, rfl⟩

theorem Dev.keepsPages.trans (h : Dev.keepsPages ps d e) (h' : Dev.keepsPages ps e f) : Dev.keepsPages ps d f :=
  ⟨fun p hp a ha => (h'.words p hp a ha).trans (h.words p hp a ha), h'.tbs.trans h.tbs, h'.evts.trans h.evts⟩

/-- An update of other engines. -/
theorem Dev.keepsPages.of_same (hr : e.regs = d.regs) (ht : e.tbs = d.tbs) (he : e.evts = d.evts) : Dev.keepsPages ps d e :=
  ⟨fun _ _ a _ => Dev.w_congr hr a, ht, he⟩

theorem Dev.keepsPages.setw {q : Page} {a : Nat} (h : Dev.keepsPages ps d e) (ha : inBlock q a) (v : Nat)
    (hq : ∀ p ∈ ps, p.code ≠ q.code := by decide) : Dev.keepsPages ps d (e.setw a v) :=
  ⟨fun p hp b hb => by
    rw [Dev.w_setw, if_neg (ne_of_inBlock hb ha (hq p hp)), h.words p hp b hb], h.tbs, h.evts⟩

theorem Dev.keepsPages.p {q : Page} {b : Nat} {g : Fld} (h : Dev.keepsPages ps d e) (ha : inBlock q (b + g.off)) (v : Nat)
    (hq : ∀ p ∈ ps, p.code ≠ q.code := by decide) : Dev.keepsPages ps d (e.p b g v) := h.setw ha _ hq

theorem Dev.keepsPages.each {k : Nat} {g : Nat → Dev → Dev} (h : ∀ i < k, ∀ e, Dev.keepsPages ps e (g i e)) (d : Dev) :
    Dev.keepsPages ps d (d.each k g) :=
  Dev.each_ind (P := fun e => Dev.keepsPages ps d e) (.refl ps d) fun i hi _ he => he.trans (h i hi _)

end

theorem inBlock_gntC {c o : Nat} (hc : c < 256) (ho : o < 0x100) : inBlock .gnt (gntC c + o) := by
  have := inBlock_pageAddr .gnt .warp (i := c / 32) (o := 0x100 + 0x40 * (c % 32) + o) (by omega)
  rwa [← Nat.add_assoc, ← Nat.add_assoc] at this

theorem inBlock_gnfPg {o : Nat} (ho : o < 0x1000) : inBlock .gnf (gnfPg + o) := inBlock_pageAddr .gnf .warp (by omega)

theorem inBlock_gnfB {b o : Nat} (hb : b < 4) (ho : o < 0x100) : inBlock .gnf (gnfB b + o) := by
  have := inBlock_gnfPg (o := 0x100 + 0x100 * b + o) (by omega)
  rwa [← Nat.add_assoc, ← Nat.add_assoc] at this

theorem inBlock_gnsPg {o : Nat} (ho : o < 0x1000) : inBlock .gns (gnsPg + o) := inBlock_pageAddr .gns .warp (by omega)

/-- The measurements taken are the channels' own. -/
theorem ncoTaken_keeps {ps : List Page} (d : Dev) (ns : Nat) (ms : List ChanMeas) : Dev.keepsPages ps d (d.ncoTaken ns ms) := by
  refine .each (fun c _ e => ?_) d
  dsimp only
  split
  · exact .of_same rfl rfl rfl
  · split
    · exact .refl _ _
    · exact .of_same rfl rfl rfl
    · exact .of_same rfl rfl rfl

theorem latchChan_keeps (d : Dev) (l : Nat) {c : Nat} (hc : c < 256) : Dev.keepsPages [.tta, .gnf] d (d.latchChan l c) := by
  have hb : ∀ o, o < 0x100 → inBlock .gnt (gntC c + o) := fun o ho => inBlock_gntC hc ho
  unfold Dev.latchChan
  extract_lets b st s sig sv valid app flags d1 path d2 bias len d3
  have h2 : Dev.keepsPages [.tta, .gnf] d d2 := ((Dev.keepsPages.refl _ d).setw (hb 0x28 (by decide)) _).setw (hb 0x2C (by decide)) _
  have h3 : Dev.keepsPages [.tta, .gnf] d d3 := by
    clear_value d2
    unfold d3
    split
    · exact h2
    · exact ((((((h2.setw (hb 0x10 (by decide)) _).setw (hb 0x14 (by decide)) _).setw (hb 0x18 (by decide)) _).setw
        (hb 0x1C (by decide)) _).setw (hb 0x20 (by decide)) _).setw (hb 0x24 (by decide)) _)
  clear_value d3
  exact h3.trans (.of_same rfl rfl rfl)

/-- The latch of the firmware's entries (R240), the measurements taken. -/
def Dev.latchNoted (h : Half) (ns : Nat) (d : Dev) : Dev :=
  (((d.inc gnfPg Reg.GNF.MLSTAT_LSEQ).pb gnfPg Reg.GNF.MLSTAT_HALF (h == .weft)).p2 gnfPg Reg.GNF.MLT_SEC_LO
    Reg.GNF.MLT_SEC_HI (ns / 10 ^ 9)).p gnfPg Reg.GNF.MLT_NSEC (ns % 10 ^ 9)

/-- Every channel latched, the measurements taken (R240). -/
def Dev.chansLatched (d : Dev) (h : Half) (ns : Nat) (ms : List ChanMeas) : Dev :=
  ((d.ncoTaken ns ms).latchNoted h ns).each 256
    fun c e => e.latchChan (((d.ncoTaken ns ms).latchNoted h ns).g gnfPg Reg.GNF.MLSTAT_LSEQ) c

theorem measurementLatch_taken {h : Half} {ns : Nat} {ms : List ChanMeas} {d : Dev} (hg : d.gnssOn = true) (hl : h = d.lead) :
    measurementLatch h ns ms d = d.chansLatched h ns ms := if_neg (by simp [hg, hl])

theorem latchNoted_keeps (d : Dev) (h : Half) (ns : Nat) : Dev.keepsPages [.tta] d (d.latchNoted h ns) := by
  have hb : ∀ o < 0x1000, inBlock .gnf (gnfPg + o) := fun o ho => inBlock_gnfPg ho
  unfold Dev.latchNoted Dev.p2 Dev.inc Dev.pb
  exact (((((Dev.keepsPages.refl _ d).p (hb _ (by decide)) _).p (hb _ (by decide)) _).p (hb _ (by decide)) _).p
    (hb _ (by decide)) _).p (hb _ (by decide)) _

theorem latchNoted_fields (d : Dev) (h : Half) (ns : Nat) :
    (d.latchNoted h ns).g gnfPg Reg.GNF.MLSTAT_LSEQ = (d.g gnfPg Reg.GNF.MLSTAT_LSEQ + 1) % 2 ^ Reg.GNF.MLSTAT_LSEQ.len ∧
      (d.latchNoted h ns).gb gnfPg Reg.GNF.MLSTAT_HALF = (h == .weft) ∧
      (d.latchNoted h ns).g gnfPg Reg.GNF.MLT_NSEC = ns % 10 ^ 9 := by
  unfold Dev.latchNoted Dev.p2
  refine ⟨?_, ?_, ?_⟩
  · rw [Dev.g_p_apart _ _ _ (by decide) (by decide), Dev.g_p_apart _ _ _ (by decide) (by decide),
      Dev.g_p_apart _ _ _ (by decide) (by decide), Dev.pb, Dev.g_p_apart _ _ _ (by decide) (by decide), Dev.inc,
      Dev.g_p_same _ _ _ _ (by decide)]
  · rw [Dev.gb_p_apart _ _ _ (by decide) (by decide), Dev.gb_p_apart _ _ _ (by decide) (by decide),
      Dev.gb_p_apart _ _ _ (by decide) (by decide), Dev.gb_pb_same _ _ _ _ (by decide) (by decide)]
  · rw [Dev.g_p_same _ _ _ _ (by decide), show Reg.GNF.MLT_NSEC.len = 30 from rfl]
    omega

theorem latched_channels (d : Dev) (h : Half) (ns : Nat) (ms : List ChanMeas) :
    Dev.keepsPages [.tta, .gnf] ((d.ncoTaken ns ms).latchNoted h ns) (d.chansLatched h ns ms) :=
  .each (fun _ hc e => latchChan_keeps e _ hc) _

theorem Dev.keepsPages.tta {d e : Dev} (h : Dev.keepsPages [.tta, .gnf] d e) : Dev.keepsPages [.tta] d e :=
  ⟨fun p hp => h.words p (List.mem_cons.2 (.inl (List.mem_singleton.1 hp))), h.tbs, h.evts⟩

theorem latched_keeps (d : Dev) (h : Half) (ns : Nat) (ms : List ChanMeas) : Dev.keepsPages [.tta] d (d.chansLatched h ns ms) :=
  ((ncoTaken_keeps d ns ms).trans (latchNoted_keeps _ h ns)).trans (latched_channels d h ns ms).tta

theorem latched_fields (d : Dev) (h : Half) (ns : Nat) (ms : List ChanMeas) :
    (d.chansLatched h ns ms).g gnfPg Reg.GNF.MLSTAT_LSEQ = (d.g gnfPg Reg.GNF.MLSTAT_LSEQ + 1) % 2 ^ Reg.GNF.MLSTAT_LSEQ.len ∧
      (d.chansLatched h ns ms).gb gnfPg Reg.GNF.MLSTAT_HALF = (h == .weft) ∧
      (d.chansLatched h ns ms).g gnfPg Reg.GNF.MLT_NSEC = ns % 10 ^ 9 := by
  have hk : ∀ o < 0x1000, (d.chansLatched h ns ms).w (gnfPg + o) = ((d.ncoTaken ns ms).latchNoted h ns).w (gnfPg + o) := fun o ho =>
    (latched_channels d h ns ms).words .gnf (by simp) _ (inBlock_gnfPg ho)
  have hn : (d.ncoTaken ns ms).w (gnfPg + 0x510) = d.w (gnfPg + 0x510) :=
    (ncoTaken_keeps (ps := [.gnf]) d ns ms).words .gnf (by simp) _ (inBlock_gnfPg (by decide))
  obtain ⟨h1, h2, h3⟩ := latchNoted_fields (d.ncoTaken ns ms) h ns
  rw [Dev.g_of_w (o := 0x510) hn] at h1
  exact ⟨(Dev.g_of_w (o := 0x510) (hk _ (by decide))).trans h1, (Dev.gb_of_w (o := 0x510) (hk _ (by decide))).trans h2,
    (Dev.g_of_w (o := 0x514) (hk _ (by decide))).trans h3⟩

/-! ### A snapshot's start -/

/-- The bands that a snapshot captures: those asked for that are on. -/
def Dev.snapBands (d : Dev) : Nat :=
  ((List.range 4).filter fun b => bitAt (d.g gnsPg Reg.GNS.SNCFG_BANDS) b && d.bandOn b).foldl (fun m b => m + 2 ^ b) 0

/-- The state words of a capture that starts. -/
def Dev.snapNoted (d : Dev) (l trunc : Nat) : Dev :=
  ((((d.p gnsPg Reg.GNS.SNSTAT_STATE 1).p gnsPg Reg.GNS.SNSTAT_MS l).inc gnsPg Reg.GNS.SNSTAT_SEQ).p gnsPg
    Reg.GNS.SNSTAT_TRUNC trunc).p gnsPg Reg.GNS.SNSTAT_DROP 0

/-- The words of one band's region. -/
def Dev.snapPlaced (d : Dev) (trig : Nat) (e : Dev) (x : Nat × Nat) : Dev :=
  let s := gnsPg + 0x210 + 0x20 * x.1
  let free := e.freeNat 80 0
  let t := (d.firstSample x.1 trig).getD (free % 2 ^ 48 * secFrac + free / 2 ^ 48 % 10 ^ 9 * 2 ^ 32)
  (((((if (d.firstSample x.1 trig).isNone then e.drawn 1 else e)).p2 s Reg.GNS.SN_T_SEC_LO Reg.GNS.SN_T_SEC_HI (t / secFrac)).p s
    Reg.GNS.SN_T_NSEC (t % secFrac / 2 ^ 32)).p s Reg.GNS.SN_INFO_START (x.2 / 256)).p s Reg.GNS.SN_INFO_FMT
      (d.g (gnfB x.1) Reg.GNF.BCFG_FMT)

/-- A capture under way in a device. -/
def Dev.snapBegun (d : Dev) (trig l trunc : Nat) : Dev :=
  let e := (d.snapLayout d.snapBands l).1.foldl (d.snapPlaced trig) (d.snapNoted l trunc)
  { e with snap := { bands := d.snapBands, stopped := 0, complete := false, box := d.snap.box } }

/-- The bands without a clock stop at once. -/
def snapStops (bands : Nat) (d : Dev) : Dev :=
  (List.range 4).foldl (fun e b =>
    if bitAt bands b && !(e.gb (gnfB b) Reg.GNF.BSTAT_CLK_OK) then e.snapBandStop b false else e) d

section
variable {d : Dev}

theorem snapStarted_taken {len trig : Nat} (h0 : d.g gnsPg Reg.GNS.SNSTAT_STATE = 0) (hg : d.gnssOn = true) (hb : d.snapBands ≠ 0)
    (hl : 2 ≤ d.snapLength d.snapBands (clampNat 2 20 len)) : snapStarted len trig d = snapStops d.snapBands
      (d.snapBegun trig (d.snapLength d.snapBands (clampNat 2 20 len))
        (if d.snapLength d.snapBands (clampNat 2 20 len) < clampNat 2 20 len then d.snapBands else 0)) := by
  refine (if_neg (by simp [h0])).trans ((if_neg (by simp [hg])).trans ((if_neg hb).trans ((if_neg (Nat.not_lt.2 hl)).trans ?_)))
  rfl

/-- Where every band of the capture has its clock, none stops at once. -/
theorem snapStops_none {bands : Nat} (hc : ∀ b < 4, bitAt bands b = true → d.gb (gnfB b) Reg.GNF.BSTAT_CLK_OK = true) :
    snapStops bands d = d := by
  have hl : ∀ l : List Nat, (∀ b ∈ l, b < 4) → l.foldl (fun e b =>
      if bitAt bands b && !(e.gb (gnfB b) Reg.GNF.BSTAT_CLK_OK) then e.snapBandStop b false else e) d = d := by
    intro l
    induction l with
    | nil => exact fun _ => rfl
    | cons b l ih =>
      intro hb
      rw [List.foldl_cons, if_neg]
      · exact ih fun x hx => hb x (List.mem_cons_of_mem _ hx)
      · rw [Bool.and_eq_true, Bool.not_eq_true']
        rintro ⟨h1, h2⟩
        rw [hc b (hb b (List.mem_cons_self ..)) h1] at h2
        exact absurd h2 (by decide)
  exact hl _ fun b hb => List.mem_range.1 hb

theorem snapLayout_bound (d : Dev) (bands ms : Nat) : ∀ x ∈ (d.snapLayout bands ms).1, x.1 < 4 := by
  have hl : ∀ (l : List Nat) (acc : List (Nat × Nat) × Nat), (∀ b ∈ l, b < 4) → (∀ x ∈ acc.1, x.1 < 4) →
      ∀ x ∈ (l.foldl (fun (acc : List (Nat × Nat) × Nat) b =>
        if bitAt bands b then
          let start := ceilDiv acc.2 256 * 256
          (acc.1 ++ [(b, start)], start + d.snapBytes b (d.g (gnfB b) Reg.GNF.SRATE * ms / 1000))
        else acc) acc).1, x.1 < 4 := by
    intro l
    induction l with
    | nil => exact fun _ _ ha => ha
    | cons b l ih =>
      intro acc hb ha
      refine ih _ (fun x hx => hb x (List.mem_cons_of_mem _ hx)) ?_
      dsimp only
      split_ifs
      · intro x hx
        rcases List.mem_append.1 hx with hx | hx
        · exact ha x hx
        · rw [List.mem_singleton.1 hx]
          exact hb b (List.mem_cons_self ..)
      · exact ha
  exact hl _ _ (fun b hb => List.mem_range.1 hb) fun _ hx => nomatch hx

theorem snapNoted_keeps (d : Dev) (l trunc : Nat) : Dev.keepsPages [.tta, .gnf] d (d.snapNoted l trunc) := by
  have hb : inBlock .gns (gnsPg + 0x208) := inBlock_gnsPg (by decide)
  unfold Dev.snapNoted Dev.inc
  exact (((((Dev.keepsPages.refl _ d).p hb _).p hb _).p hb _).p hb _).p hb _

/-- What the regions' words leave: other pages, and the state word. -/
structure Dev.snapKeeps (d e : Dev) : Prop where
  pages : Dev.keepsPages [.tta, .gnf] d e
  stat : e.w (gnsPg + 0x208) = d.w (gnsPg + 0x208)

theorem Dev.snapKeeps.trans {d e f : Dev} (h : d.snapKeeps e) (h' : e.snapKeeps f) : d.snapKeeps f :=
  ⟨h.pages.trans h'.pages, h'.stat.trans h.stat⟩

theorem Dev.snapKeeps.p {d e : Dev} (h : d.snapKeeps e) {b : Nat} (hb : b < 4) {f : Fld} (hf : f.off < 0x20) (v : Nat) :
    d.snapKeeps (e.p (gnsPg + 0x210 + 0x20 * b) f v) := by
  have hin := inBlock_gnsPg (o := 0x210 + 0x20 * b + f.off) (by omega)
  rw [← Nat.add_assoc, ← Nat.add_assoc] at hin
  exact ⟨h.pages.p hin v, (Dev.w_p_ne _ _ _ _ _ (by omega)).trans h.stat⟩

theorem snapPlaced_keeps (d e : Dev) (trig : Nat) {x : Nat × Nat} (hx : x.1 < 4) : e.snapKeeps (d.snapPlaced trig e x) := by
  have h0 : e.snapKeeps (if (d.firstSample x.1 trig).isNone then e.drawn 1 else e) := by
    split_ifs
    · exact ⟨.of_same rfl rfl rfl, rfl⟩
    · exact ⟨.refl _ _, rfl⟩
  unfold Dev.snapPlaced Dev.p2
  extract_lets s free t
  exact ((((h0.p hx (by decide) _).p hx (by decide) _).p hx (by decide) _).p hx (by decide) _).p hx (by decide) _

theorem snapBegun_keeps (d : Dev) (trig l trunc : Nat) : (d.snapNoted l trunc).snapKeeps (d.snapBegun trig l trunc) := by
  have hl : ∀ (ls : List (Nat × Nat)) (e : Dev), (∀ x ∈ ls, x.1 < 4) → e.snapKeeps (ls.foldl (d.snapPlaced trig) e) := by
    intro ls
    induction ls with
    | nil => exact fun e _ => ⟨.refl _ _, rfl⟩
    | cons x ls ih =>
      intro e hx
      exact (snapPlaced_keeps d e trig (hx x (List.mem_cons_self ..))).trans (ih _ fun y hy => hx y (List.mem_cons_of_mem _ hy))
  exact (hl _ (d.snapNoted l trunc) (snapLayout_bound d d.snapBands l)).trans ⟨.of_same rfl rfl rfl, rfl⟩

theorem snapBegun_pages (d : Dev) (trig l trunc : Nat) : Dev.keepsPages [.tta, .gnf] d (d.snapBegun trig l trunc) :=
  (snapNoted_keeps d l trunc).trans (snapBegun_keeps d trig l trunc).pages

theorem snapBegun_clk (d : Dev) (trig l trunc : Nat) {b : Nat} (hb : b < 4) :
    (d.snapBegun trig l trunc).gb (gnfB b) Reg.GNF.BSTAT_CLK_OK = d.gb (gnfB b) Reg.GNF.BSTAT_CLK_OK :=
  Dev.gb_of_w (o := Reg.GNF.BSTAT_CLK_OK.off) ((snapBegun_pages d trig l trunc).words .gnf (by simp) _ (inBlock_gnfB hb (by decide)))

theorem snapNoted_fields (d : Dev) {l : Nat} (hl : l < 32) (trunc : Nat) :
    (d.snapNoted l trunc).g gnsPg Reg.GNS.SNSTAT_STATE = 1 ∧ (d.snapNoted l trunc).g gnsPg Reg.GNS.SNSTAT_MS = l := by
  unfold Dev.snapNoted Dev.inc
  constructor
  · rw [Dev.g_p_apart _ _ _ (by decide) (by decide), Dev.g_p_apart _ _ _ (by decide) (by decide),
      Dev.g_p_apart _ _ _ (by decide) (by decide), Dev.g_p_apart _ _ _ (by decide) (by decide), Dev.g_p_same _ _ _ _ (by decide)]
    rfl
  · rw [Dev.g_p_apart _ _ _ (by decide) (by decide), Dev.g_p_apart _ _ _ (by decide) (by decide),
      Dev.g_p_apart _ _ _ (by decide) (by decide), Dev.g_p_same _ _ _ _ (by decide)]
    exact Nat.mod_eq_of_lt hl

end

/-- A loop goes through each of its steps. -/
theorem Dev.each_through {R : Dev → Dev → Prop} (hr : ∀ d, R d d) (ht : ∀ {a b c}, R a b → R b c → R a c) {k : Nat}
    {f : Nat → Dev → Dev} (hf : ∀ i < k, ∀ e, R e (f i e)) {j : Nat} (hj : j < k) (d : Dev) :
    ∃ e, R d e ∧ R (f j e) (d.each k f) := by
  induction k with
  | zero => omega
  | succ k ih =>
    rw [Dev.each_succ]
    have hk : R d (d.each k f) := Dev.each_ind (P := fun e => R d e) (hr d) fun i hi e he => ht he (hf i (by omega) e)
    by_cases hjk : j = k
    · exact ⟨_, hk, hjk ▸ hr _⟩
    · obtain ⟨e, h1, h2⟩ := ih (fun i hi => hf i (by omega)) (by omega)
      exact ⟨e, h1, ht h2 (hf k (by omega) _)⟩

/-! ### Messages that a SYNC_TX sends -/

theorem Pair.of_put_ne {α : Type} {g h : Half} (p : Pair α) (v : α) (hne : g ≠ h) : (p.put g v).of h = p.of h := by
  cases g <;> cases h
  · exact absurd rfl hne
  · rfl
  · rfl
  · exact absurd rfl hne

/-- What a message handed over leaves: words, events and timebases, and the frames that wait for a gate. -/
structure Dev.sends (h : Half) (d e : Dev) : Prop where
  regs : e.regs = d.regs
  tbs : e.tbs = d.tbs
  evts : e.evts = d.evts
  waits : ∀ g ∈ (d.plane h).gateIn, g ∈ (e.plane h).gateIn

section
variable {h : Half} {d e f : Dev}

theorem Dev.sends.refl (h : Half) (d : Dev) : d.sends h d := ⟨rfl, rfl, rfl, fun _ hg => hg⟩

theorem Dev.sends.trans (hd : d.sends h e) (he : e.sends h f) : d.sends h f :=
  ⟨he.regs.trans hd.regs, he.tbs.trans hd.tbs, he.evts.trans hd.evts, fun g hg => he.waits g (hd.waits g hg)⟩

theorem toGate_sends (d : Dev) (g : GFrame) : d.sends h (d.toGate g) := by
  refine ⟨rfl, rfl, rfl, fun x hx => ?_⟩
  unfold Dev.plane Dev.toGate at *
  dsimp only
  by_cases hh : portHalf g.port = h
  · rw [hh, Pair.of_put]
    exact List.mem_append_left _ hx
  · rwa [Pair.of_put_ne _ _ hh]

theorem toGate_in (d : Dev) {g : GFrame} (hg : portHalf g.port = h) : g ∈ ((d.toGate g).plane h).gateIn := by
  unfold Dev.plane Dev.toGate
  dsimp only
  rw [hg, Pair.of_put]
  exact List.mem_append_right _ (List.mem_singleton_self _)

theorem handOver_sends (d : Dev) (l : List GFrame) (hl : ∀ g ∈ l, portHalf g.port = h) : d.sends h (d.handOver h l) := by
  induction l generalizing d with
  | nil => exact .refl h d
  | cons g l ih =>
    refine Dev.sends.trans ?_ (ih _ fun x hx => hl x (List.mem_cons_of_mem _ hx))
    dsimp only
    split_ifs with h1 h2
    · exact ⟨rfl, rfl, rfl, fun _ hx => hx⟩
    · exact toGate_sends d g
    · exact absurd (hl g (List.mem_cons_self ..)) h2

theorem handOver_in (d : Dev) {g : GFrame} {l : List GFrame} (hg : portHalf g.port = h) (ha : g.after = none)
    (hl : ∀ g ∈ l, portHalf g.port = h) : g ∈ ((d.handOver h (g :: l)).plane h).gateIn := by
  unfold Dev.handOver
  rw [List.foldl_cons, if_neg (by simp [ha]), if_pos hg]
  exact (handOver_sends (d.toGate g) l hl).waits g (toGate_in d hg)

theorem newId_sends (d : Dev) : d.sends h (d.newId h).1 := ⟨rfl, rfl, rfl, fun _ hg => hg⟩

theorem originSealed_open {cfg : List Nat} (hc : cfgBits cfg Reg.TRS.AUTH_AUTH_EN = 0) (d : Dev) (i : Nat) (l : List GFrame) :
    d.originSealed h cfg i l = (d, l) := if_pos hc

/-- A Sync that is not sealed waits for its gate in the half of its port. -/
theorem syncSent_open {p : Nat} {cfg : List Nat} (hc : cfgBits cfg Reg.TRS.AUTH_AUTH_EN = 0) (hp : portHalf p = h) (d : Dev)
    (o : Nat → Outer) (u : Bool) (i seq log : Nat) : d.sends h (d.syncSent h p cfg o u i seq log) ∧
      ∃ g ∈ ((d.syncSent h p cfg o u i seq log).plane h).gateIn, g.port = p ∧ g.t = d.originLaunch h i ∧ g.cls = 5 := by
  unfold Dev.syncSent
  extract_lets n t ep v m0 two a b ev src fu r
  have hr : r = (b.1, ev :: if two then [fu] else []) := by
    rw [show r = _ from originSealed_open hc _ _ _]
    split_ifs <;> rfl
  have hl : ∀ g ∈ (if two then [fu] else []), portHalf g.port = h := by
    intro g hg
    split_ifs at hg
    · rw [List.mem_singleton.1 hg]
      exact hp
    · cases hg
  have hb : d.sends h b.1 := (newId_sends d).trans (newId_sends a.1)
  rw [hr]
  refine ⟨hb.trans (handOver_sends _ _ fun g hg => ?_), ev, handOver_in _ hp rfl hl, rfl, rfl, rfl⟩
  rcases List.mem_cons.1 hg with rfl | hg
  · exact hp
  · exact hl g hg

end

/-- The ports of a half lie in it. -/
theorem portHalf_portOf (h : Half) (j : Nat) : portHalf (portOf h j) = h := by
  unfold portHalf portOf Half.ofNum
  cases h <;> simp [Half.num]

/-- A Sync of a service on one local port, where the firing names it. -/
def syncStep (h : Half) (n : Nat) (d : Dev) (j : Nat) (x : Dev) : Dev :=
  if !(bitAt (d.ttaTarget h n) (portOf h j)) then x
  else match x.sourceEntry h (d.ttaArg h n % 16) (portOf h j) with
    | none => x
    | some ent => x.syncSent h (portOf h j) (d.svcCfg h (d.ttaArg h n % 16)) (x.mcastOuter h (d.ttaArg h n % 16) ent) false
      (ns32 (d.ttaNs h n)) (ns32 (d.ttaNs h n) / logInterval (signedOf 8 (cfgBits (d.svcCfg h (d.ttaArg h n % 16)) Reg.TRS.INTV_LOGSYNC)))
      (cfgBits (d.svcCfg h (d.ttaArg h n % 16)) Reg.TRS.INTV_LOGSYNC)

section
variable {d : Dev} {h : Half} {n : Nat}

theorem syncTxAct_on (ho : d.originates h (d.ttaArg h n % 16) = true) : syncTxAct h n d = d.each 4 (syncStep h n d) :=
  if_neg (by simp [ho])

theorem syncStep_sends (hc : cfgBits (d.svcCfg h (d.ttaArg h n % 16)) Reg.TRS.AUTH_AUTH_EN = 0) (j : Nat) (x : Dev) :
    x.sends h (syncStep h n d j x) := by
  unfold syncStep
  split
  · exact .refl h x
  · split
    · exact .refl h x
    · exact (syncSent_open hc (portHalf_portOf h j) x _ _ _ _ _).1

theorem syncStep_in (hc : cfgBits (d.svcCfg h (d.ttaArg h n % 16)) Reg.TRS.AUTH_AUTH_EN = 0) {j : Nat} {x : Dev}
    (hb : bitAt (d.ttaTarget h n) (portOf h j) = true) (hs : (x.sourceEntry h (d.ttaArg h n % 16) (portOf h j)).isSome = true) :
    ∃ g ∈ ((syncStep h n d j x).plane h).gateIn, g.port = portOf h j ∧ g.t = x.originLaunch h (ns32 (d.ttaNs h n)) ∧ g.cls = 5 := by
  obtain ⟨ent, hent⟩ := Option.isSome_iff_exists.1 hs
  unfold syncStep
  rw [if_neg (by simp [hb]), hent]
  exact (syncSent_open hc (portHalf_portOf h j) x _ _ _ _ _).2

theorem sourceEntry_congr {e : Dev} (hr : e.regs = d.regs) (s p : Nat) : e.sourceEntry h s p = d.sourceEntry h s p := by
  have hs : e.svcEntry h = d.svcEntry h := by
    funext k
    unfold Dev.svcEntry
    simp only [Dev.w_congr hr]
  unfold Dev.sourceEntry
  rw [hs]

theorem originLaunch_congr {e : Dev} (hr : e.regs = d.regs) (i : Nat) : e.originLaunch h i = d.originLaunch h i := by
  unfold Dev.originLaunch Dev.slead
  rw [Dev.g_congr hr]

/-- A named port that an entry serves has its Sync in line. -/
theorem syncTxAct_in {j : Nat} (hj : j < 4) (ho : d.originates h (d.ttaArg h n % 16) = true)
    (hc : cfgBits (d.svcCfg h (d.ttaArg h n % 16)) Reg.TRS.AUTH_AUTH_EN = 0) (hb : bitAt (d.ttaTarget h n) (portOf h j) = true)
    (hs : (d.sourceEntry h (d.ttaArg h n % 16) (portOf h j)).isSome = true) : d.sends h (syncTxAct h n d) ∧
      ∃ g ∈ ((syncTxAct h n d).plane h).gateIn, g.port = portOf h j ∧ g.t = d.originLaunch h (ns32 (d.ttaNs h n)) ∧ g.cls = 5 := by
  rw [syncTxAct_on ho]
  obtain ⟨e, h1, h2⟩ := Dev.each_through (R := Dev.sends h) (Dev.sends.refl h) Dev.sends.trans
    (fun i _ x => syncStep_sends hc i x) hj d
  refine ⟨h1.trans ((syncStep_sends hc j e).trans h2), ?_⟩
  obtain ⟨g, hg, hp, ht, hcls⟩ := syncStep_in hc hb (x := e) (by rw [sourceEntry_congr h1.regs]; exact hs)
  exact ⟨g, h2.waits g hg, hp, ht.trans (originLaunch_congr h1.regs _), hcls⟩

end

/-! ### REG_WRITE -/

section
variable {s : State} {h : Half} {n : Fin 64}

theorem not_ttaE_of_sys {o k : Nat} (hk : k < 0x1000) (hn : o < 0x20) : sysPg + k ≠ ttaE h n.val + o :=
  ne_of_inBlock (inBlock_pageAddr .sys .warp (by omega)) (inBlock_ttaE h n.isLt (by omega))

theorem accError_touches (d : Dev) (m : Master) (a : Nat) (x : AccErr) : d.touches (d.accError m a true x)
    [sysPg + 0x104, sysPg + 0x108] [sysPg + x.event] :=
  ⟨d.accError_sameWords m a true x, fun pg k hk => (d.accError_evt m a true x pg k).trans
    (Dev.evt_raise_ne _ fun he => hk (List.mem_singleton.2 he)), d.accError_sameUnits m a true x⟩

theorem regWriteAct_refused {nv : NV} {d : Dev} {e : Nat} {x : AccErr}
    (hx : d.ttaArg h e % 2 ^ 24 % 4 ≠ 0 ∧ x = .align ∨
      d.ttaArg h e % 2 ^ 24 % 4 = 0 ∧ d.accessError (.ta h) (d.ttaArg h e % 2 ^ 24) true = some x) :
    regWriteAct nv h e d = (d.accError (.ta h) (d.ttaArg h e % 2 ^ 24) true x).ttaRefused h := by
  unfold regWriteAct
  dsimp only
  rcases hx with ⟨h4, rfl⟩ | ⟨h4, hx⟩
  · rw [if_pos h4]
  · rw [if_neg (not_not.2 h4), if_pos (by rw [hx]; rfl), Dev.writeAt_error _ _ _ _ _ hx]

theorem regWriteAct_mask {nv : NV} {d : Dev} {e : Nat} (ho : pageOff (d.ttaArg h e % 2 ^ 24) = 0x1C)
    (hx : d.accessError (.ta h) (d.ttaArg h e % 2 ^ 24) true = none) :
    regWriteAct nv h e d = (d.regAccess (.ta h) (d.ttaArg h e % 2 ^ 24)).setw (d.ttaArg h e % 2 ^ 24) (d.w (ttaData h e)) := by
  generalize ha : d.ttaArg h e % 2 ^ 24 = a at ho hx ⊢
  have h4 : a % 4 = 0 := by unfold pageOff at ho; omega
  have hh : pageOff a < headerEnd a := by
    have := headerEnd_ge a
    omega
  have hb : pageBase a + 0x1C = a := ho ▸ pageBase_add_pageOff a
  unfold regWriteAct
  dsimp only
  rw [ha, if_neg (not_not.2 h4), if_neg (by rw [hx]; decide), Dev.writeAt_ok _ _ _ _ hx, wordWritten, if_pos hh, ho]
  simp only [headerWritten, reduceIte, hb, plainWritten, mergeWrite_evtMask ho (pageExists_of_noError hx) (d.w_lt _)]
  simp

end

theorem event_ne_tta (h : Half) (x : AccErr) : ttaPg h + 1 ≠ sysPg + x.event := by
  refine ne_of_inBlock (inBlock_pageAddr .tta h (by norm_num)) (inBlock_pageAddr .sys .warp ?_)
  cases x <;> decide

/-- A firing whose action leaves the entries' words. -/
theorem firing_of {s : State} {h : Half} {n : Fin 64} {c : Instr} {act : Half → Nat → Dev → Dev} {k : Nat}
    (hc : exec c s = .next (s.onDev fun d => d.ttaFire act h n.val k)) (hd : s.dev.ttaDue h n.val k = true)
    (hw : ∀ a, inBlock .tta a → (act h n.val s.dev).w a = s.dev.w a) :
    ∃ t, exec c s = .next t ∧ t.dev = (act h n.val s.dev).ttaFired h n.val ∧ s.firedBy t h n.val ∧ s.keepsRest t :=
  ⟨_, (exec_of_fire hc).1 hd, rfl, State.firedBy_of (.of_w n.isLt hw) (Dev.ttaDue_armed hd) rfl, s.keepsRest_withDev _⟩

/-- A permitted snapshot of bands that have their clocks. -/
theorem snapshotAct_taken {nv : NV} {d : Dev} {n : Nat} (hv : nv.variantN = false) (h0 : d.g gnsPg Reg.GNS.SNSTAT_STATE = 0)
    (hg : d.gnssOn = true) (hb : d.snapBands ≠ 0) (hl : 2 ≤ d.snapLength d.snapBands (clampNat 2 20 (d.ttaArg .warp n)))
    (hc : ∀ b < 4, bitAt d.snapBands b = true → d.gb (gnfB b) Reg.GNF.BSTAT_CLK_OK = true) : ∃ trig trunc,
      snapshotAct nv .warp n d = d.snapBegun trig (d.snapLength d.snapBands (clampNat 2 20 (d.ttaArg .warp n))) trunc := by
  refine ⟨_, _, (if_neg (by simp [hv])).trans ((snapStarted_taken h0 hg hb hl).trans (snapStops_none fun b hb4 hbb => ?_))⟩
  exact (snapBegun_clk d _ _ _ hb4).trans (hc b hb4 hbb)

/-- Settles O28: each action sends, captures, latches or writes beside the entries' own words, and the firing follows. -/
theorem firingsSendCaptureLatchAndWrite : Obligations.FiringsSendCaptureLatchAndWrite := by
  unfold Obligations.FiringsSendCaptureLatchAndWrite
  refine ⟨fun h n j s hd => ?_, fun n s hd hv h0 hg => ?_, fun h n ms s hd hn hg hl => ?_, fun h n ms s hd hn => ?_,
    fun h n ms s => ?_, fun h n x s hd => ?_, fun h n s hd => ?_⟩
  · intro v ho hc hb hs
    obtain ⟨hk, g, hg, hp, hl, hcls⟩ := syncTxAct_in j.isLt ho hc hb hs
    obtain ⟨t, ht, htd, hf, hkr⟩ := firing_of (c := .ttaSyncTx h n) rfl hd fun a _ => Dev.w_congr hk.regs a
    have hpl : t.dev.planes = (syncTxAct h n.val s.dev).planes := htd ▸ Dev.ttaFired_keeps _ _ _ Dev.p_planes
    have hpl' : t.dev.plane h = (syncTxAct h n.val s.dev).plane h := congrArg (fun p => Pair.of p h) hpl
    refine ⟨t, ht, ⟨g, hpl' ▸ hg, hp, hl, hcls⟩, fun g hg => hpl' ▸ hk.waits g hg, hf, fun a ha => ?_, ?_, hkr⟩
    · rw [htd, Dev.ttaFired_w _ _ _ ha, Dev.w_congr hk.regs]
    · exact Dev.sameEvents_of_evts (htd ▸ (Dev.ttaFired_keeps _ _ _ Dev.p_evts).trans hk.evts)
  · intro bands len hb hl hl' hc
    obtain ⟨trig, trunc, hx⟩ : ∃ trig trunc, snapshotAct s.nv .warp n.val s.dev = s.dev.snapBegun trig len trunc :=
      snapshotAct_taken hv h0 hg hb hl hc
    have hkp := snapBegun_pages s.dev trig len trunc
    have hst := (snapBegun_keeps s.dev trig len trunc).stat
    obtain ⟨h1, h2⟩ := snapNoted_fields s.dev hl' trunc
    have hsn : (s.dev.snapBegun trig len trunc).snap.bands = bands := rfl
    obtain ⟨t, ht, htd, hf, hkr⟩ := firing_of (c := .ttaSnapshot .warp n) rfl hd fun a ha => hx ▸ hkp.words .tta (by simp) a ha
    rw [hx] at htd
    generalize s.dev.snapBegun trig len trunc = x at hkp hst htd hsn
    have hw : t.dev.w (gnsPg + 0x208) = (s.dev.snapNoted len trunc).w (gnsPg + 0x208) := by
      rw [htd, Dev.ttaFired_w _ _ _ (not_mem_ttaWords (inBlock_gnsPg (by decide)).not), hst]
    refine ⟨t, ht, (Dev.g_of_w (o := 0x208) hw).trans h1, (Dev.g_of_w (o := 0x208) hw).trans h2, ?_, hf, ?_, ?_, hkr⟩
    · rw [htd, Dev.ttaFired_keeps (g := Dev.snap) _ _ _ Dev.p_snap, hsn]
    · rw [htd, Dev.ttaFired_keeps _ _ _ Dev.p_tbs, hkp.tbs]
    · exact Dev.sameEvents_of_evts (htd ▸ (Dev.ttaFired_keeps _ _ _ Dev.p_evts).trans hkp.evts)
  · have hx : controlAct ms h n.val s.dev = s.dev.chansLatched h (s.dev.ttaNs h n.val) ms :=
      (if_pos hn).trans (measurementLatch_taken hg hl)
    have hkp := latched_keeps s.dev h (s.dev.ttaNs h n.val) ms
    have hfl := latched_fields s.dev h (s.dev.ttaNs h n.val) ms
    obtain ⟨t, ht, htd, hf, hkr⟩ := firing_of (c := .ttaControl h n ms) rfl hd fun a ha => hx ▸ hkp.words .tta (by simp) a ha
    rw [hx] at htd
    generalize s.dev.chansLatched h (s.dev.ttaNs h n.val) ms = x at hkp hfl htd
    obtain ⟨h1, h2, h3⟩ := hfl
    have hw : ∀ o < 0x1000, t.dev.w (gnfPg + o) = x.w (gnfPg + o) := fun o ho => by
      rw [htd, Dev.ttaFired_w _ _ _ (not_mem_ttaWords (inBlock_gnfPg ho).not)]
    refine ⟨t, ht, (Dev.g_of_w (o := 0x510) (hw _ (by decide))).trans h1, (Dev.gb_of_w (o := 0x510) (hw _ (by decide))).trans h2,
      (Dev.g_of_w (o := 0x514) (hw _ (by decide))).trans h3, hf, ?_, ?_, hkr⟩
    · rw [htd, Dev.ttaFired_keeps _ _ _ Dev.p_tbs, hkp.tbs]
    · exact Dev.sameEvents_of_evts (htd ▸ (Dev.ttaFired_keeps _ _ _ Dev.p_evts).trans hkp.evts)
  · obtain ⟨t, ht, -, -, hf, hk⟩ := firing_touches (c := .ttaControl h n ms) rfl hd
      (show controlAct ms h n.val s.dev = s.dev from if_neg (by omega)) (Dev.touches.refl s.dev [] []) fun _ hm => nomatch hm
    exact ⟨t, ht, hf, hk⟩
  · exact ⟨(exec_of_fire rfl).1, (exec_of_fire rfl).1, (exec_of_fire rfl).1, (exec_of_fire rfl).1, (exec_of_fire rfl).2,
      (exec_of_fire rfl).2, (exec_of_fire rfl).2, (exec_of_fire rfl).2⟩
  · intro a hx
    have hne := event_ne_tta h x
    have h0 := (accError_touches s.dev (.ta h) a x).mono (List.Subset.refl _) (List.subset_cons_self (ttaPg h + 1) [sysPg + x.event])
    obtain ⟨t, ht, he, -, hf, hk⟩ := firing_touches (c := .ttaRegWrite h n) rfl hd (regWriteAct_refused hx)
      (h0.raise (List.mem_cons_self ..)) fun b hb o ho => by
        simp only [List.mem_cons, List.not_mem_nil, or_false] at hb
        rcases hb with rfl | rfl
        · exact not_ttaE_of_sys (by decide) ho
        · exact not_ttaE_of_sys (by decide) ho
    refine ⟨t, ht, ?_, ?_, hf, hk⟩
    · rw [Dev.evt_congr he, Dev.ttaRefused, Dev.evt_raise_own _ (evtImplemented_tta h (by decide)), Dev.accError_evt,
        Dev.evt_raise_ne _ hne]
    · rw [Dev.evt_congr he, Dev.ttaRefused, Dev.evt_raise_ne _ hne.symm, Dev.accError_evt, Dev.evt_raise_own _ (evtImplemented_accErr x)]
  · intro a ho hw
    have hae : ∀ o, o < 0x20 → a ≠ ttaE h n.val + o := fun o hoo he => by
      have hp : (ttaE h n.val + o) % 0x1000 = 0x1C := he ▸ ho
      have := n.isLt
      simp only [ttaE, ttaPg, pageAddr] at hp
      omega
    obtain ⟨t, ht, -, htw, hf, hk⟩ := firing_touches (c := .ttaRegWrite h n) rfl hd (regWriteAct_mask ho hw)
      ((s.dev.touches_regAccess _ _ [a] []).setw (List.mem_singleton_self _) _) fun b hb => List.mem_singleton.1 hb ▸ hae
    refine ⟨t, ht, ?_, hf, hk⟩
    rw [htw a fun hm => ?_]
    · exact (Dev.w_setw _ _ _ _).trans ((if_pos rfl).trans (Nat.mod_eq_of_lt (s.dev.w_lt _)))
    · simp only [ttaWords, List.mem_cons, List.not_mem_nil, or_false] at hm
      rcases hm with hm | hm | hm | hm | hm
      · exact hae 0 (by decide) hm
      · exact hae 4 (by decide) hm
      · exact hae 8 (by decide) hm
      · exact hae 12 (by decide) hm
      · exact hae 28 (by decide) hm

end Sys2Proof.Machine
end

section
/-! PROOF. The controls of a page (R38, R46, R50, R563, R564): O25. -/

namespace Sys2Proof.Machine

section
variable {a : Nat} {o : Nat} (ho : o < 0x1000)
include ho

theorem pageOff_pageBase_add : pageOff (pageBase a + o) = o := by
  unfold pageOff pageBase
  omega

theorem typeAt_pageBase_add : typeAt (pageBase a + o) = typeAt (pageBase a) := by
  have h1 : (a / 0x1000 * 0x1000 + o) / 0x10000 = a / 0x1000 * 0x1000 / 0x10000 := by omega
  unfold typeAt pageBase
  rw [h1]

end

section
variable {a : Nat} {p : Page} (hp : typeAt (pageBase a) = some p) (hr : enableReadOnly p = false) (d : Dev) (v : Bool)

theorem bitAt_eq_testBit (n k : Nat) : bitAt n k = n.testBit k := by
  rw [Nat.testBit_eq_decide_div_mod_eq]
  rfl

include hp hr in
/-- ENABLE written stands in CTRL (R38). -/
theorem plainWritten_enabled : (plainWritten (pageBase a + 8) (bitOf v) d).enabled (pageBase a) = v := by
  have hm : writeMask (pageBase a + 8) = 1 := by
    simp [writeMask, pageOff_pageBase_add (a := a) (o := 8) (by norm_num), typeAt_pageBase_add (a := a) (o := 8) (by norm_num), hp, hr]
  have hv : bitOf v < 2 ^ 32 := by cases v <;> decide
  unfold Dev.enabled plainWritten
  rw [Dev.w_setw, if_pos rfl, Nat.mod_eq_of_lt (mergeWrite_lt _ (d.w_lt _) hv), bitAt_eq_testBit,
    testBit_mergeWrite _ (by rw [hm]; norm_num), hm]
  cases v <;> simp [bitOf]

theorem enableWritten_keeps (act : Half → Nat → Dev → Dev)
    (h : (∀ p, typeAt (pageBase a) = some p → enableReadOnly p = true) ∨ d.enabled (pageBase a) = v) :
    enableWritten act (pageBase a) v d = d := by
  refine if_pos ?_
  rcases h with h | h
  · cases ht : typeAt (pageBase a) with
    | none => simp
    | some p => simp [h p ht]
  · simp [h]

include hp hr in
/-- ENABLE of a shell: the word alone (R46). -/
theorem enableWritten_shell (act : Half → Nat → Dev → Dev) (he : d.enabled (pageBase a) = !v)
    (hs : d.shellOnly (pageBase a) = true) : enableWritten act (pageBase a) v d = plainWritten (pageBase a + 8) (bitOf v) d := by
  unfold enableWritten
  rw [hp, if_neg (by cases v <;> simp [hr, he]), if_pos hs]

include hp hr in
/-- ENABLE changed in a page whose half runs has the page's effect (R563). -/
theorem enableWritten_acts (act : Half → Nat → Dev → Dev) (he : d.enabled (pageBase a) = !v)
    (hs : d.shellOnly (pageBase a) = false) :
    let e := if v then blockEnabled act (pageBase a) (plainWritten (pageBase a + 8) (bitOf v) d)
      else blockDisabled (pageBase a) (plainWritten (pageBase a + 8) (bitOf v) d)
    enableWritten act (pageBase a) v d = if p = .dpl then boundBases (halfAt (pageBase a)) e else e := by
  intro e
  unfold enableWritten
  rw [if_neg (by cases v <;> simp [hp, hr, he]), if_neg (by simp [hs])]
  by_cases hd : p = .dpl
  · subst hd
    rw [hp, if_pos rfl]
  · rw [hp, if_neg hd]
    cases p with
    | dpl => exact absurd rfl hd
    | _ => rfl

end

theorem softResetGiven_acts {a : Nat} {p : Page} (hp : typeAt (pageBase a) = some p) {d : Dev} (act : Half → Nat → Dev → Dev)
    (hs : d.shellOnly (pageBase a) = false) (hb : d.bist = none) :
    softResetGiven act (pageBase a) d = if p = .tta then ttaAllEvaluated act (halfAt (pageBase a)) 64 (d.softReset (pageBase a))
      else if p = .dpl then boundBases (halfAt (pageBase a)) (d.softReset (pageBase a)) else d.softReset (pageBase a) := by
  have ha : d.softResetAsked (pageBase a) = d.softReset (pageBase a) := by
    unfold Dev.softResetAsked
    rw [hb]
    exact if_neg (Bool.eq_false_iff.1 hs)
  unfold softResetGiven
  rw [ha]
  dsimp only
  split
  · next ht =>
    obtain rfl := Option.some.inj (hp.symm.trans ht)
    have hu : d.planeUp (halfAt (pageBase a)) = true := by
      unfold Dev.shellOnly at hs
      rw [hp] at hs
      simpa [show (pageRow Page.tta).perHalf = true by decide] using hs
    rw [if_pos hu, if_pos rfl]
  · next ht =>
    obtain rfl := Option.some.inj (hp.symm.trans ht)
    rfl
  · next h1 h2 =>
    rw [if_neg (show p ≠ .tta from fun h => h1 (h ▸ hp)), if_neg (show p ≠ .dpl from fun h => h2 (h ▸ hp))]

section
variable {m : Master} {a : BitVec 24} {s : State}

theorem exec_enable (hw : s.writable m (pageBase a.toNat + 8)) (v : Bool) :
    exec (if v then .blockEnable m a else .blockDisable m a) s = .next (s.withDev
      (enableWritten (fireAct s.nv []) (pageBase a.toNat) v (s.dev.regAccess m (pageBase a.toNat + 8)))) := by
  cases v
  · exact exec_of_writeAt (c := .blockDisable m a) (f := enableWritten (fireAct s.nv []) (pageBase a.toNat) false) rfl hw
  · exact exec_of_writeAt (c := .blockEnable m a) (f := enableWritten (fireAct s.nv []) (pageBase a.toNat) true) rfl hw

theorem exec_softReset (hw : s.writable m (pageBase a.toNat + 8)) : exec (.softReset m a) s = .next (s.withDev
    (softResetGiven (fireAct s.nv []) (pageBase a.toNat) (s.dev.regAccess m (pageBase a.toNat + 8)))) :=
  exec_of_writeAt (f := softResetGiven (fireAct s.nv []) (pageBase a.toNat)) rfl hw

/-- A command that stores ENABLE at most. -/
theorem exec_enable_stored {p : Page} (hp : typeAt (pageBase a.toNat) = some p) (hr : enableReadOnly p = false)
    (hw : s.writable m (pageBase a.toNat + 8)) (v : Bool)
    (hx : s.dev.enabled (pageBase a.toNat) = (!v) → enableWritten (fireAct s.nv []) (pageBase a.toNat) v
      (s.dev.regAccess m (pageBase a.toNat + 8)) =
        plainWritten (pageBase a.toNat + 8) (bitOf v) (s.dev.regAccess m (pageBase a.toNat + 8))) :
    ∃ t, exec (if v then .blockEnable m a else .blockDisable m a) s = .next t ∧ t.dev.enabled (pageBase a.toNat) = v ∧
      s.onlyTouches t [pageBase a.toNat + 8] [] := by
  refine ⟨_, exec_enable hw v, ?_⟩
  have ht := s.dev.touches_regAccess m (pageBase a.toNat + 8) [pageBase a.toNat + 8] []
  by_cases he : s.dev.enabled (pageBase a.toNat) = v
  · rw [enableWritten_keeps (s.dev.regAccess m (pageBase a.toNat + 8)) v _ (.inr he)]
    exact ⟨he, ht.onlyTouches⟩
  · rw [hx (by cases v <;> simpa using he)]
    exact ⟨plainWritten_enabled hp hr _ v, (ht.setw (List.mem_singleton_self _) _).onlyTouches⟩

end

/-! ### SOFT_RESET of a TSU page -/

/-- What a TSU page's reset leaves: events, counts, and every word but the status words of the page. -/
structure Dev.tsuResetTo (d e : Dev) (h : Half) (i : Fin 4) (k : Nat) : Prop where
  words : d.sameWords e ((List.range 4).map fun k => tsuB h (4 * i.val + k) + 4)
  evts : e.evts = d.evts
  count : ∀ g n, e.count g n = d.count g n
  done : ∀ j < k, e.gb (tsuB h (4 * i.val + j)) Reg.TSU.STAT_STEP_PEND = false ∧
    e.gb (tsuB h (4 * i.val + j)) Reg.TSU.STAT_PADJ_BUSY = false ∧ (e.tb h (4 * i.val + j)).padjRem = 0

/-- One timebase of a page reset. -/
def tsuReset (h : Half) (n : Nat) (e : Dev) : Dev :=
  padjAborted h n ((e.pb (tsuB h n) Reg.TSU.STAT_STEP_PEND false).setLoop h n { e.loop h n with initStep := none })

section
variable (h : Half) {n : Nat} (hn : n < 16) (e : Dev)

theorem tsuReset_w {a : Nat} (ha : a ≠ tsuB h n + 4) : (tsuReset h n e).w a = e.w a := by
  unfold tsuReset padjAborted
  exact (Dev.w_pb_ne _ _ ha).trans (Dev.w_pb_ne _ _ ha)

@[simp] theorem Dev.setTb_evts (d : Dev) (x : Tbase) : (d.setTb h n x).evts = d.evts := rfl
@[simp] theorem Dev.setLoop_evts (d : Dev) (x : LoopSt) : (d.setLoop h n x).evts = d.evts := rfl

theorem tsuReset_evts : (tsuReset h n e).evts = e.evts := by
  unfold tsuReset padjAborted
  rw [Dev.setTb_evts, Dev.pb_evts, Dev.setLoop_evts, Dev.pb_evts]

/-- A timebase replaced with its count, in a device of the same timebases. -/
theorem Dev.count_setTb_of {d e : Dev} (ht : e.tbs = d.tbs) (h : Half) (n : Nat) {x : Tbase} (hx : x.count = (d.tb h n).count)
    (g : Half) (j : Nat) : (e.setTb h n x).count g j = d.count g j :=
  (Dev.count_setTb e h n x (hx.trans (Dev.count_congr ht h n).symm) g j).trans (Dev.count_congr ht g j)

theorem padjAborted_count (g : Half) (j : Nat) : (padjAborted h n e).count g j = e.count g j := by
  unfold padjAborted
  refine Dev.count_setTb_of (Dev.pb_tbs e _ _ _) h n ?_ g j
  rfl

theorem tsuReset_count (g : Half) (j : Nat) : (tsuReset h n e).count g j = e.count g j :=
  (padjAborted_count h _ g j).trans (Dev.count_congr (by rw [Dev.setLoop_tbs, Dev.pb_tbs]) g j)

theorem tsuReset_tb_ne {j : Nat} (hj : h.num * 16 + j ≠ h.num * 16 + n) : (tsuReset h n e).tb h j = e.tb h j := by
  unfold tsuReset padjAborted
  rw [Dev.tb_setTb_ne _ _ _ _ hj]
  exact Dev.tb_congr (by rw [Dev.pb_tbs, Dev.setLoop_tbs, Dev.pb_tbs]) h j

theorem tsuReset_done : (tsuReset h n e).gb (tsuB h n) Reg.TSU.STAT_STEP_PEND = false ∧
    (tsuReset h n e).gb (tsuB h n) Reg.TSU.STAT_PADJ_BUSY = false ∧ ((tsuReset h n e).tb h n).padjRem = 0 := by
  unfold tsuReset padjAborted
  refine ⟨?_, ?_, congrArg Tbase.padjRem (Dev.tb_setTb_same _ _ _ _)⟩
  · rw [Dev.gb_setTb, Dev.pb, Dev.gb_p_apart _ _ _ (by decide) (by decide), Dev.gb_setLoop,
      Dev.gb_pb_same _ _ _ _ (by decide) (by decide)]
  · rw [Dev.gb_setTb, Dev.gb_pb_same _ _ _ _ (by decide) (by decide)]

end

theorem tsuReset_step {d e : Dev} {h : Half} {i : Fin 4} {k : Nat} (hk : k < 4) (he : d.tsuResetTo e h i k) :
    d.tsuResetTo (tsuReset h (4 * i.val + k) e) h i (k + 1) where
  words a ha := (tsuReset_w h e fun hc => ha (List.mem_map.2 ⟨k, List.mem_range.2 hk, hc.symm⟩)).trans (he.words a ha)
  evts := (tsuReset_evts h e).trans he.evts
  count g j := (tsuReset_count h e g j).trans (he.count g j)
  done j hj := by
    by_cases hjk : j = k
    · subst hjk
      exact tsuReset_done h e
    · have hw : (tsuReset h (4 * i.val + k) e).w (tsuB h (4 * i.val + j) + 4) = e.w (tsuB h (4 * i.val + j) + 4) :=
        tsuReset_w h e fun hc => hjk (by simp only [tsuB, tsuPg, pageAddr] at hc; omega)
      obtain ⟨h1, h2, h3⟩ := he.done j (by omega)
      refine ⟨(Dev.gb_of_w (o := 4) hw).trans h1, (Dev.gb_of_w (o := 4) hw).trans h2, ?_⟩
      rw [tsuReset_tb_ne h e (by omega), h3]

theorem tsuSoftReset_resets (d : Dev) (h : Half) (i : Fin 4) : d.tsuResetTo (tsuSoftReset h i.val d) h i 4 := by
  have hk : ∀ k ≤ 4, d.tsuResetTo (d.each k fun j e => tsuReset h (4 * i.val + j) e) h i k := by
    intro k
    induction k with
    | zero => exact fun _ => ⟨fun _ _ => rfl, rfl, fun _ _ => rfl, fun _ hj => absurd hj (Nat.not_lt_zero _)⟩
    | succ k ih =>
      intro hk
      rw [Dev.each_succ]
      exact tsuReset_step (by omega) (ih (by omega))
  exact hk 4 (Nat.le_refl _)

theorem pageAddr_tsu_parts (h : Half) (i : Fin 4) : typeAt (pageAddr .tsu h i.val) = some .tsu ∧ halfAt (pageAddr .tsu h i.val) = h ∧
    idxAt (pageAddr .tsu h i.val) = i.val := by
  revert i
  cases h <;> decide

/-- The pages whose block does nothing as its ENABLE clears. -/
theorem blockDisabled_quiet {pg : Nat} (hp : typeAt pg = some .tta ∨ typeAt pg = some .rlt) (d : Dev) : blockDisabled pg d = d := by
  unfold blockDisabled
  rcases hp with hp | hp <;> rw [hp]

theorem blockEnabled_quiet {pg : Nat} (hp : typeAt pg = some .rlt) (act : Half → Nat → Dev → Dev) (d : Dev) :
    blockEnabled act pg d = d := by
  unfold blockEnabled
  rw [hp]

/-- Where the page's effect is none, ENABLE is stored whatever its half does. -/
theorem enableWritten_quiet {a : Nat} {p : Page} {d : Dev} {v : Bool} {act : Half → Nat → Dev → Dev}
    (hp : typeAt (pageBase a) = some p) (hr : enableReadOnly p = false) (hd : p ≠ .dpl) (he : d.enabled (pageBase a) = !v)
    (hq : (if v then blockEnabled act (pageBase a) (plainWritten (pageBase a + 8) (bitOf v) d)
      else blockDisabled (pageBase a) (plainWritten (pageBase a + 8) (bitOf v) d)) = plainWritten (pageBase a + 8) (bitOf v) d) :
    enableWritten act (pageBase a) v d = plainWritten (pageBase a + 8) (bitOf v) d := by
  cases hs : d.shellOnly (pageBase a)
  · exact (enableWritten_acts hp hr d v act he hs).trans ((if_neg hd).trans hq)
  · exact enableWritten_shell hp hr d v act he hs

/-- Settles O25: the page's write is followed by its type's effect, and a shell or a read-only ENABLE has none. -/
theorem pageControlsKeepCounts : Obligations.PageControlsKeepCounts := by
  unfold Obligations.PageControlsKeepCounts
  refine ⟨fun m a h i s ha hw hu hb => ?_, fun m a s hp hw => ?_, fun m a s hp hw => ?_, fun m a p s hp hw hs hb => ?_,
    fun m a v p s hp hw hr he hs => ?_, fun m a v s hw hs hr => ?_, fun m a v p s hp hw hx => ?_⟩
  · obtain ⟨hp, hh, hi⟩ := pageAddr_tsu_parts h i
    rw [← ha] at hp hh hi
    have hs : s.dev.shellOnly (pageBase a.toNat) = false := by
      unfold Dev.shellOnly
      rw [hh, hu]
      simp
    refine ⟨_, exec_softReset hw, ?_⟩
    rw [softResetGiven_acts (d := s.dev.regAccess m _) hp _ hs hb, if_neg (by decide), if_neg (by decide)]
    have hx : (s.dev.regAccess m (pageBase a.toNat + 8)).softReset (pageBase a.toNat) =
        tsuSoftReset h i.val { s.dev.regAccess m (pageBase a.toNat + 8) with
          unitsOut := tset [] (s.dev.regAccess m (pageBase a.toNat + 8)).unitsOut (pageBase a.toNat) [] } := by
      unfold Dev.softReset
      rw [hp, hh, hi]
    rw [hx]
    have hres := tsuSoftReset_resets { s.dev.regAccess m (pageBase a.toNat + 8) with
      unitsOut := tset [] (s.dev.regAccess m (pageBase a.toNat + 8)).unitsOut (pageBase a.toNat) [] } h i
    exact ⟨hres.done, fun g n _ => hres.count g n, hres.words, Dev.sameEvents_of_evts hres.evts, s.keepsRest_withDev _⟩
  · rcases hp with hp | hp
    · exact exec_enable_stored hp (by decide) hw false fun he =>
        enableWritten_quiet (d := s.dev.regAccess m _) hp (by decide) (by decide) he (blockDisabled_quiet (.inl hp) _)
    · exact exec_enable_stored hp (by decide) hw false fun he =>
        enableWritten_quiet (d := s.dev.regAccess m _) hp (by decide) (by decide) he (blockDisabled_quiet (.inr hp) _)
  · exact exec_enable_stored hp (by decide) hw true fun he =>
      enableWritten_quiet (d := s.dev.regAccess m _) hp (by decide) (by decide) he (blockEnabled_quiet hp _ _)
  · intro pg d
    rw [exec_softReset hw, softResetGiven_acts (d := s.dev.regAccess m _) hp _ hs hb]
  · intro pg d e
    exact ⟨(exec_enable hw v).trans (congrArg (fun z => Host.Outcome.next (s.withDev z)) (enableWritten_acts hp hr _ v _ he hs)),
      plainWritten_enabled hp hr _ v⟩
  · obtain ⟨p, hp⟩ : ∃ p, typeAt (pageBase a.toNat) = some p := by
      cases ht : typeAt (pageBase a.toNat) with
      | none =>
        unfold Dev.shellOnly at hs
        rw [ht] at hs
        exact absurd hs (by simp)
      | some p => exact ⟨p, rfl⟩
    exact exec_enable_stored hp (hr p hp) hw v fun he => enableWritten_shell hp (hr p hp) _ v _ he hs
  · refine ⟨_, exec_enable hw v, ?_⟩
    rw [enableWritten_keeps]
    · exact (s.dev.touches_regAccess m _ _ _).onlyTouches
    · exact hx.imp (fun hr q hq => Option.some.inj (hp.symm.trans hq) ▸ hr) id

end Sys2Proof.Machine
end

section
/-! SUPPORT. What of the device a half's capture points show (R97 to R112): their units, the words and events of the TDC and
TSU pages, and the engines that a stamp is read from. Nothing but an edge at one of them changes it. -/

namespace Sys2Proof.Machine

/-- An address in the TDC pages or the TSU pages of a half. -/
def inCapture (h : Half) (a : Nat) : Bool := a / 0x8000 == 0x2E + h.num || a / 0x8000 == 0x2C + h.num

/-- What of the device a half's capture points show. -/
structure CapView where
  units    : Nat → CapUnit
  words    : Nat → Nat
  events   : Nat → EvtWord
  tbs      : Tab Tbase
  half     : Pair HalfSt
  pages    : Tab PageSt
  now      : Nat
  pathComp : Tab Int

def Dev.capView (h : Half) (d : Dev) : CapView where
  units y := if y < 80 then d.cap h y else {}
  words a := if inCapture h a then d.w a else 0
  events i := if inCapture h i then tget {} d.evts i else {}
  tbs := d.tbs
  half := d.half
  pages := d.pages
  now := d.now
  pathComp := d.pathComp

theorem inCapture_tdcP (h : Half) {cp o : Nat} (hc : cp < 80) (ho : o < 0x20) : inCapture h (tdcP h cp + o) = true := by
  have := half_num_lt h
  rw [tdcP_eq]
  simp only [inCapture, Bool.or_eq_true, beq_iff_eq]
  omega

theorem inCapture_tdcPg (h : Half) {cp o : Nat} (hc : cp < 80) (ho : o < 0x1000) : inCapture h (tdcPg h cp + o) = true := by
  have := half_num_lt h
  rw [tdcPg_eq]
  simp only [inCapture, Bool.or_eq_true, beq_iff_eq]
  omega

theorem inCapture_tsuB (h : Half) {n o : Nat} (hn : n < 16) (ho : o < 0xD00) : inCapture h (tsuB h n + o) = true := by
  have := half_num_lt h
  simp only [inCapture, tsuB, tsuPg, pageAddr, Page.code, Bool.or_eq_true, beq_iff_eq]
  omega

/-- The pages of the other half, and of any other block, show nothing of a half's capture points. -/
theorem inCapture_other {g h : Half} (hg : g ≠ h) {a : Nat} (ha : inCapture g a = true) : inCapture h a = false := by
  have hn : g.num ≠ h.num := fun he => hg (half_num_inj he)
  have := half_num_lt h
  have := half_num_lt g
  simp only [inCapture, Bool.or_eq_true, Bool.or_eq_false_iff, beq_iff_eq, beq_eq_false_iff_ne] at *
  omega

theorem inCapture_of_block {p : Page} {a : Nat} (ha : inBlock p a) (h : Half) (hd : p.code ≠ 0x17 := by decide)
    (hs : p.code ≠ 0x16 := by decide) : inCapture h a = false := by
  have := half_num_lt h
  simp only [inCapture, inBlock, Bool.or_eq_false_iff, beq_eq_false_iff_ne] at *
  omega

section
variable {d e : Dev} {h : Half} (hv : e.capView h = d.capView h)
include hv

theorem CapView.cap {y : Nat} (hy : y < 80) : e.cap h y = d.cap h y := by
  have := congrFun (congrArg CapView.units hv) y
  simpa only [Dev.capView, if_pos hy] using this

theorem CapView.w {a : Nat} (ha : inCapture h a = true) : e.w a = d.w a := by
  have := congrFun (congrArg CapView.words hv) a
  simpa only [Dev.capView, if_pos ha] using this

theorem CapView.evt {pg k : Nat} (ha : inCapture h (pg + k) = true) : e.evt pg k = d.evt pg k := by
  have := congrFun (congrArg CapView.events hv) (pg + k)
  simpa only [Dev.capView, if_pos ha, Dev.evt] using this

theorem CapView.tbs_eq : e.tbs = d.tbs := congrArg CapView.tbs hv
theorem CapView.half_eq : e.half = d.half := congrArg CapView.half hv
theorem CapView.pages_eq : e.pages = d.pages := congrArg CapView.pages hv
theorem CapView.now_eq : e.now = d.now := congrArg CapView.now hv
theorem CapView.pathComp_eq : e.pathComp = d.pathComp := congrArg CapView.pathComp hv

theorem CapView.g {cp : Nat} {f : Fld} (hc : cp < 80) (hf : f.off < 0x20) : e.g (tdcP h cp) f = d.g (tdcP h cp) f :=
  Dev.g_of_w (CapView.w hv (inCapture_tdcP h hc hf))

theorem CapView.gb {cp : Nat} {f : Fld} (hc : cp < 80) (hf : f.off < 0x20) : e.gb (tdcP h cp) f = d.gb (tdcP h cp) f :=
  Dev.gb_of_w (CapView.w hv (inCapture_tdcP h hc hf))

theorem CapView.capTb {cp : Nat} (hc : cp < 80) : e.capTb h cp = d.capTb h cp := CapView.g hv hc (by decide)

theorem CapView.count (g : Half) (n : Nat) : e.count g n = d.count g n := by
  unfold Dev.count Dev.tb
  rw [CapView.tbs_eq hv]

theorem CapView.capStopped {cp : Nat} (hc : cp < 80) : e.capStopped h cp = d.capStopped h cp := by
  unfold Dev.capStopped Dev.hs Dev.page Dev.enabled
  rw [CapView.half_eq hv, CapView.pages_eq hv, CapView.w hv (inCapture_tdcPg h hc (by decide : 8 < 0x1000)),
    CapView.gb hv (f := Reg.TDC.CFG_OWNED) hc (by decide)]

theorem CapView.capOcc {cp : Nat} (hc : cp < 80) : e.capOcc h cp = d.capOcc h cp := by
  unfold Dev.capOcc
  rw [CapView.g hv (f := Reg.TDC.QPTR_QWR) hc (by decide), CapView.g hv (f := Reg.TDC.QPTR_QRD) hc (by decide)]

theorem CapView.stopCp {cp : Nat} (hc : cp < 80) : e.stopCp h cp = d.stopCp h cp := by
  unfold Dev.stopCp
  rw [CapView.g hv (f := Reg.TDC.CFG_STOP_CP) hc (by decide)]

theorem CapView.slopeOk {cp : Nat} (hc : cp < 80) (fall : Bool) : e.slopeOk h cp fall = d.slopeOk h cp fall := by
  unfold Dev.slopeOk
  rw [CapView.g hv (f := Reg.TDC.CFG_SLOPE) hc (by decide)]

theorem CapView.comparator {cp : Nat} (hc : cp < 80) (high : Bool) (level : Int) :
    e.comparator h cp high level = d.comparator h cp high level := by
  unfold Dev.comparator Dev.pinLevels
  dsimp only
  rw [CapView.gb hv (f := Reg.TDC.CFG_DIFF) hc (by decide), CapView.g hv (f := Reg.TDC.THR) hc (by decide),
    CapView.g hv (f := Reg.TDC.CFG_HYST) hc (by decide)]

theorem CapView.crosses {cp : Nat} (hc : cp < 80) (fall : Bool) (x : EdgeSeen) : e.crosses h cp fall x = d.crosses h cp fall x := by
  unfold Dev.crosses
  rw [CapView.cap hv hc, CapView.comparator hv hc]

theorem CapView.tickInc {n : Nat} (hn : n < 16) : e.tickInc h n = d.tickInc h n := by
  unfold Dev.tickInc Dev.pslew Dev.tb
  rw [CapView.tbs_eq hv, Dev.g_of_w (f := Reg.TSU.PSLEW) (CapView.w hv (inCapture_tsuB h hn (by decide : Reg.TSU.PSLEW.off < 0xD00)))]

theorem CapView.stampAt {cp n : Nat} (hc : cp < 80) (hn : n < 16) (ce : Nat) : e.stampAt h cp n ce = d.stampAt h cp n ce := by
  unfold Dev.stampAt
  rw [CapView.count hv, CapView.tickInc hv hn, CapView.cap hv hc, CapView.pathComp_eq hv]

end

section
variable (d : Dev) (h : Half)

theorem Dev.capView_setw {a : Nat} (ha : inCapture h a = false) (v : Nat) : (d.setw a v).capView h = d.capView h := by
  unfold Dev.capView
  congr 1
  funext b
  split
  · rename_i hb
    rw [Dev.w_setw, if_neg (fun he => by rw [he, ha] at hb; cases hb)]
  · rfl

theorem Dev.capView_p {b : Nat} {f : Fld} (ha : inCapture h (b + f.off) = false) (v : Nat) :
    (d.p b f v).capView h = d.capView h := d.capView_setw h ha _

theorem Dev.capView_pb {b : Nat} {f : Fld} (ha : inCapture h (b + f.off) = false) (v : Bool) :
    (d.pb b f v).capView h = d.capView h := d.capView_setw h ha _

theorem Dev.capView_raise {pg k : Nat} (ha : inCapture h (pg + k) = false) : (d.raise pg k).capView h = d.capView h := by
  unfold Dev.capView
  congr 1
  funext i
  split
  · rename_i hb
    exact Dev.evt_raise_ne (p := i) (j := 0) d (fun he => by rw [← he, Nat.add_zero, hb] at ha; cases ha)
  · rfl

theorem Dev.capView_raiseIf {pg k : Nat} (c : Bool) (ha : inCapture h (pg + k) = false) :
    (d.raiseIf c pg k).capView h = d.capView h := by
  cases c
  · rfl
  · exact d.capView_raise h ha

theorem Dev.capView_perf (pg c : Nat) (a : PerfAttr) (k r : Nat) : (d.perf pg c a k r).capView h = d.capView h := rfl

theorem Dev.capView_setCand (g : Half) (c : Nat) (u : Cand) : (d.setCand g c u).capView h = d.capView h := rfl

/-- A unit of the other half. -/
theorem Dev.capView_setCap {g : Half} (hg : g ≠ h) {cp : Nat} (hc : cp < 80) (u : CapUnit) :
    (d.setCap g cp u).capView h = d.capView h := by
  have hn : g.num ≠ h.num := fun he => hg (half_num_inj he)
  unfold Dev.capView
  congr 1
  funext y
  split
  · unfold Dev.cap Dev.setCap
    exact Tab.get_set_ne (fun _ => ({} : CapUnit)) d.caps _ _ u (by omega)
  · rfl

end

end Sys2Proof.Machine
end

section
/-! SUPPORT. What one half's unit makes of an edge that it takes (R99, R103 to R108). -/

namespace Sys2Proof.Machine

section
variable (d : Dev) (h : Half) (cp : Nat)

/-- An offer to a queue changes of a unit its SEQ alone. -/
theorem Dev.offerEntry_cap (stamp ecnt cspan : Nat) (f : EntryFlags) :
    ∃ q, (d.offerEntry h cp stamp ecnt cspan f).cap h cp = { d.cap h cp with seq := q } := by
  rw [Dev.offerEntry_eq]
  split_ifs
  · exact ⟨_, rfl⟩
  · exact ⟨_, (d.entryLost_cap h cp).trans (Dev.cap_setCap_same _ _ _ _)⟩
  · exact ⟨_, (d.entryTaken_cap h cp _ _ _ _).trans (Dev.cap_setCap_same _ _ _ _)⟩

theorem Dev.offerEntry_cap_ne {y : Nat} (hy : y ≠ cp) (stamp ecnt cspan : Nat) (f : EntryFlags) :
    (d.offerEntry h cp stamp ecnt cspan f).cap h y = d.cap h y := by
  refine Dev.offerEntry_keeps (fun e => e.cap h y) ?_ ?_
  · exact (Dev.cap_congr (Dev.lossCounted_caps _ _ _) h y).trans (Dev.cap_setCap_ne _ _ _ hy)
  · exact Dev.cap_setCap_ne _ _ _ hy

/-- The unit of a point with a stamp taken (R97, R99). -/
def CapUnit.stamped (u : CapUnit) (stamp stamp0 : Nat) : CapUnit :=
  { u with busy := true, stamp := some stamp, stamp0 := some stamp0, stampEc := u.ecnt, prev0 := u.stamp0, prevEc := u.stampEc }

/-- The device with the stamp in the unit, before it is offered to the queue. -/
def Dev.stampHeld (d : Dev) (h : Half) (cp ce : Nat) : Dev :=
  d.setCap h cp ((d.cap h cp).stamped (d.stampAt h cp (d.capTb h cp) ce) (d.stampAt h cp 0 ce))

theorem Dev.capStamp_eq (ce : Nat) (f : EntryFlags) : d.capStamp h cp ce f =
    ((d.stampHeld h cp ce).offerEntry h cp (d.stampAt h cp (d.capTb h cp) ce) (d.cap h cp).ecnt
      ((d.cap h cp).c2 - (d.cap h cp).c1) f).perf (tdcPg h cp) 0x01 { address := some (cp % 16) } := rfl

theorem Dev.capStamp_cap (ce : Nat) (f : EntryFlags) : ∃ q, (d.capStamp h cp ce f).cap h cp =
    { (d.cap h cp).stamped (d.stampAt h cp (d.capTb h cp) ce) (d.stampAt h cp 0 ce) with seq := q } := by
  obtain ⟨q, hq⟩ := (d.stampHeld h cp ce).offerEntry_cap h cp (d.stampAt h cp (d.capTb h cp) ce) (d.cap h cp).ecnt
    ((d.cap h cp).c2 - (d.cap h cp).c1) f
  rw [Dev.stampHeld, Dev.cap_setCap_same] at hq
  exact ⟨q, hq⟩

theorem Dev.capStamp_cap_ne {y : Nat} (hy : y ≠ cp) (ce : Nat) (f : EntryFlags) :
    (d.capStamp h cp ce f).cap h y = d.cap h y :=
  (Dev.offerEntry_cap_ne _ h cp hy _ _ _ _).trans (Dev.cap_setCap_ne _ _ _ hy)

/-- With room in its queue a stamp takes the next SEQ and QWR advances (R108). -/
theorem Dev.capStamp_queued {ce : Nat} {f : EntryFlags} (hq : d.gb (tdcP h cp) Reg.TDC.CFG_QEN = true)
    (ho : d.capOcc h cp < 64) : ((d.capStamp h cp ce f).cap h cp).seq = ((d.cap h cp).seq + 1) % 2 ^ 16 ∧
      (d.capStamp h cp ce f).g (tdcP h cp) Reg.TDC.QPTR_QWR = (d.g (tdcP h cp) Reg.TDC.QPTR_QWR + 1) % 2 ^ 16 := by
  have he := Dev.offerEntry_room (d := d.stampHeld h cp ce) hq ho (d.stampAt h cp (d.capTb h cp) ce) (d.cap h cp).ecnt
    ((d.cap h cp).c2 - (d.cap h cp).c1) f
  rw [Dev.capStamp_eq, he]
  constructor
  · have hc : (((d.stampHeld h cp ce).seqTaken h cp).cap h cp).seq = ((d.cap h cp).seq + 1) % 2 ^ 16 := by
      rw [Dev.seqTaken, Dev.cap_setCap_same, Dev.stampHeld, Dev.cap_setCap_same]
      rfl
    exact hc
  · exact Dev.entryTaken_qwr _ h cp _ _ _ _

theorem Dev.capMiss_cap (y : Nat) : (d.capMiss h cp).cap h y = d.cap h y := rfl

theorem Dev.capMode_cap_ne {y : Nat} (hy : y ≠ cp) (fall sel : Bool) (e : EdgeSeen) :
    (d.capMode h cp fall sel e).cap h y = d.cap h y := by
  have stamped (u : CapUnit) (f : EntryFlags) : ((d.setCap h cp u).capStamp h cp e.ce f).cap h y = d.cap h y :=
    (Dev.capStamp_cap_ne _ h cp hy _ _).trans (Dev.cap_setCap_ne _ _ _ hy)
  unfold Dev.capMode
  dsimp only
  split
  · split_ifs
    exacts [rfl, rfl, d.capStamp_cap_ne h cp hy _ _]
  · split_ifs
    exacts [rfl, stamped _ _]
  · split
    · split_ifs
      exacts [rfl, rfl, stamped _ _]
    · split_ifs
      exacts [stamped _ _, rfl]
  · rfl

/-- Where no other point's measurement waits for it, an edge is no stop edge. -/
theorem Dev.capStops_none {d : Dev} (hn : ∀ y < 80, y ≠ cp → (d.cap h y).iv.map (·.stop) ≠ some cp) (was fall : Bool)
    (e : EdgeSeen) : d.capStops h cp was fall e = d := by
  unfold Dev.capStops
  dsimp only
  refine if_pos (Bool.or_eq_true _ _ ▸ Or.inl (List.isEmpty_iff.2 (List.filter_eq_nil_iff.2 fun y hy => ?_)))
  have hy' := hn y (List.mem_range.1 hy)
  by_cases hc : y = cp
  · simp [hc]
  · cases hi : (d.cap h y).iv with
    | none => simp
    | some i =>
      have hs : i.stop ≠ cp := fun hs => hy' hc (by rw [hi]; exact congrArg some hs)
      simp [hs]

end

section
variable {d : Dev} {h : Half} {cp : Nat} {e : EdgeSeen} (fall sel : Bool)

theorem Dev.capStamp_ecnt (d : Dev) (h : Half) (cp ce : Nat) (f : EntryFlags) :
    ((d.capStamp h cp ce f).cap h cp).ecnt = (d.cap h cp).ecnt := by
  obtain ⟨q, hq⟩ := d.capStamp_cap h cp ce f
  rw [hq]
  rfl

/-- A stamp looks at its unit's calibration alone. -/
theorem Dev.stampAt_setCap {u : CapUnit} (h1 : u.c1 = (d.cap h cp).c1) (h2 : u.c2 = (d.cap h cp).c2) (n ce : Nat) :
    (d.setCap h cp u).stampAt h cp n ce = d.stampAt h cp n ce := by
  unfold Dev.stampAt
  rw [Dev.cap_setCap_same, h1, h2]
  rfl

/-- Whatever the mode makes of an edge, it counts none. -/
theorem Dev.capMode_ecnt : ((d.capMode h cp fall sel e).cap h cp).ecnt = (d.cap h cp).ecnt := by
  have stamped (u : CapUnit) (f : EntryFlags) (hu : u.ecnt = (d.cap h cp).ecnt) :
      (((d.setCap h cp u).capStamp h cp e.ce f).cap h cp).ecnt = (d.cap h cp).ecnt := by
    rw [Dev.capStamp_ecnt, Dev.cap_setCap_same, hu]
  unfold Dev.capMode
  dsimp only
  split
  · split_ifs
    exacts [rfl, rfl, d.capStamp_ecnt h cp _ _]
  · split_ifs
    exacts [rfl, stamped _ _ rfl]
  · split
    · split_ifs
      exacts [rfl, rfl, stamped _ _ rfl]
    · split_ifs
      exacts [stamped _ _ rfl, rfl]
  · rfl

theorem Dev.capMode_stamp (hm : d.g (tdcP h cp) Reg.TDC.CFG_MODE = 1) (hb : (d.cap h cp).busy = false) :
    d.capMode h cp fall true e = d.capStamp h cp e.ce { fall := fall, tslew := e.tslew } := by
  unfold Dev.capMode
  simp only [hm, hb]
  rfl

theorem Dev.capMode_miss (hm : d.g (tdcP h cp) Reg.TDC.CFG_MODE = 1) (hb : (d.cap h cp).busy = true) :
    d.capMode h cp fall true e = d.capMiss h cp := by
  unfold Dev.capMode
  simp only [hm, hb]
  rfl

theorem Dev.capMode_armed (hm : d.g (tdcP h cp) Reg.TDC.CFG_MODE = 2) (ha : (d.cap h cp).armed = true)
    (hb : (d.cap h cp).busy = false) : d.capMode h cp fall sel e =
      (d.setCap h cp { d.cap h cp with armed := false }).capStamp h cp e.ce { fall := fall, tslew := e.tslew, trig := true } := by
  unfold Dev.capMode
  simp only [hm, ha, hb]
  rfl

theorem Dev.capMode_start (hm : d.g (tdcP h cp) Reg.TDC.CFG_MODE = 3) (hi : (d.cap h cp).iv = none)
    (hb : (d.cap h cp).busy = false) : d.capMode h cp fall true e =
      (d.setCap h cp { d.cap h cp with iv := some { count := d.count h (d.capTb h cp), stop := d.stopCp h cp } }).capStamp
        h cp e.ce { fall := fall, tslew := e.tslew, start := true } := by
  unfold Dev.capMode
  simp only [hm, hi, hb]
  rfl

theorem Dev.capMode_off (hm : d.g (tdcP h cp) Reg.TDC.CFG_MODE = 0) : d.capMode h cp fall sel e = d := by
  unfold Dev.capMode
  simp only [hm]

/-- A missed edge (R99). -/
theorem Dev.capMiss_marks (d : Dev) (h : Half) {cp : Nat} (hc : cp < 80) :
    (d.capMiss h cp).g (tdcP h cp) Reg.TDC.MISSED_MISSED = min (d.g (tdcP h cp) Reg.TDC.MISSED_MISSED + 1) 0xFFFF ∧
      (d.capMiss h cp).gb (tdcP h cp) Reg.TDC.PSTAT_ERR_MISS = true ∧
      (d.capMiss h cp).evt (tdcPg h cp) (capErrEvt cp) = (d.evt (tdcPg h cp) (capErrEvt cp)).occur := by
  have hg : ((d.incSat (tdcP h cp) Reg.TDC.MISSED_MISSED).pb (tdcP h cp) Reg.TDC.PSTAT_ERR_MISS true).g (tdcP h cp)
      Reg.TDC.MISSED_MISSED = min (d.g (tdcP h cp) Reg.TDC.MISSED_MISSED + 1) 0xFFFF := by
    refine (Dev.g_p_apart _ _ _ (by decide) (by decide)).trans ((Dev.g_p_same _ _ _ _ (by decide)).trans ?_)
    exact Nat.mod_eq_of_lt (Nat.lt_of_le_of_lt (Nat.min_le_right _ _) (by decide))
  have hb := Dev.gb_pb_same (d.incSat (tdcP h cp) Reg.TDC.MISSED_MISSED) (tdcP h cp) Reg.TDC.PSTAT_ERR_MISS true (by decide) (by decide)
  have he := Dev.evt_raise_own ((d.incSat (tdcP h cp) Reg.TDC.MISSED_MISSED).pb (tdcP h cp) Reg.TDC.PSTAT_ERR_MISS true)
    (evtImplemented_capErr h ⟨cp, hc⟩)
  exact ⟨hg, hb, he⟩

end

/-- What is left of one half's edge in mode `mode` (R99, R103 to R108): `d` before it and `t` after. -/
def Dev.edgeOutcome (d t : Dev) (h : Half) (cp ce : Nat) : Prop :=
  let u := d.cap h cp
  let b := tdcP h cp
  let mode := d.g b Reg.TDC.CFG_MODE
  let sel := u.grid = 0 ∨ d.gb b Reg.TDC.CFG_OWNED = true
  (t.cap h cp).ecnt = u.ecnt + 1 ∧
  (mode = 1 → sel → u.busy = false →
    (t.cap h cp).stamp = some (d.stampAt h cp (d.capTb h cp) ce) ∧ (t.cap h cp).busy = true ∧
    (d.gb b Reg.TDC.CFG_QEN = true → d.capOcc h cp < 64 →
      (t.cap h cp).seq = (u.seq + 1) % 2 ^ 16 ∧ t.g b Reg.TDC.QPTR_QWR = (d.g b Reg.TDC.QPTR_QWR + 1) % 2 ^ 16)) ∧
  (mode = 1 → sel → u.busy = true →
    (t.cap h cp).stamp = u.stamp ∧ t.g b Reg.TDC.MISSED_MISSED = min (d.g b Reg.TDC.MISSED_MISSED + 1) 0xFFFF ∧
    t.gb b Reg.TDC.PSTAT_ERR_MISS = true ∧
    t.evt (tdcPg h cp) (capErrEvt cp) = (d.evt (tdcPg h cp) (capErrEvt cp)).occur) ∧
  (mode = 2 → u.armed = true → u.busy = false →
    (t.cap h cp).stamp = some (d.stampAt h cp (d.capTb h cp) ce) ∧ (t.cap h cp).armed = false) ∧
  (mode = 3 → u.iv = none → sel → u.busy = false →
    (t.cap h cp).iv = some { count := d.count h (d.capTb h cp), stop := d.stopCp h cp }) ∧
  (mode = 0 → (t.cap h cp).stamp = u.stamp ∧ (t.cap h cp).busy = u.busy)

/-- An edge's outcome is read from what the half's capture points show before and after. -/
theorem Dev.edgeOutcome.congr {d d' t t' : Dev} {h : Half} {cp ce : Nat} (ho : d.edgeOutcome t h cp ce) (hc : cp < 80)
    (hd : d'.capView h = d.capView h) (ht : t'.capView h = t.capView h) : d'.edgeOutcome t' h cp ce := by
  have htb : d.capTb h cp < 16 := Dev.g_lt _ _ _
  have he : inCapture h (tdcPg h cp + capErrEvt cp) = true := inCapture_tdcPg h hc (by unfold capErrEvt; omega)
  unfold Dev.edgeOutcome at *
  dsimp only at *
  rw [CapView.cap hd hc, CapView.cap ht hc, CapView.g hd hc (by decide), CapView.gb hd hc (by decide),
    CapView.capTb hd hc, CapView.stampAt hd hc htb, CapView.gb hd (f := Reg.TDC.CFG_QEN) hc (by decide), CapView.capOcc hd hc,
    CapView.g hd (f := Reg.TDC.QPTR_QWR) hc (by decide), CapView.g ht (f := Reg.TDC.QPTR_QWR) hc (by decide),
    CapView.g hd (f := Reg.TDC.MISSED_MISSED) hc (by decide), CapView.g ht (f := Reg.TDC.MISSED_MISSED) hc (by decide),
    CapView.gb ht (f := Reg.TDC.PSTAT_ERR_MISS) hc (by decide), CapView.evt hd he, CapView.evt ht he, CapView.count hd,
    CapView.stopCp hd hc]
  exact ho

/-- A unit as an edge counted leaves it. -/
structure CapUnit.counted (u v : CapUnit) : Prop where
  ecnt   : v.ecnt = u.ecnt + 1
  busy   : v.busy = u.busy
  stamp  : v.stamp = u.stamp
  armed  : v.armed = u.armed
  iv     : v.iv = u.iv
  seq    : v.seq = u.seq
  c1     : v.c1 = u.c1
  c2     : v.c2 = u.c2

/-- A device in which a capture unit has counted an edge, and nothing else is new. -/
structure Dev.edgeCounted (d e : Dev) (h : Half) (cp : Nat) : Prop where
  unit   : (d.cap h cp).counted (e.cap h cp)
  others : ∀ y, y ≠ cp → e.cap h y = d.cap h y
  rest   : { e with caps := d.caps } = d

section
variable {d e : Dev} {h : Half} {cp : Nat} (hc : d.edgeCounted e h cp)
include hc

/-- What does not look at the units is as it was. -/
theorem Dev.edgeCounted.same {α : Type} (g : Dev → α) (hg : ∀ x c, g { x with caps := c } = g x) : g e = g d :=
  (hg e d.caps).symm.trans (congrArg g hc.rest)

theorem Dev.edgeCounted.g (b : Nat) (f : Fld) : e.g b f = d.g b f := hc.same (fun x => x.g b f) fun _ _ => rfl
theorem Dev.edgeCounted.gb (b : Nat) (f : Fld) : e.gb b f = d.gb b f := hc.same (fun x => x.gb b f) fun _ _ => rfl
theorem Dev.edgeCounted.evt (pg k : Nat) : e.evt pg k = d.evt pg k := hc.same (fun x => x.evt pg k) fun _ _ => rfl
theorem Dev.edgeCounted.capTb : e.capTb h cp = d.capTb h cp := hc.g _ _
theorem Dev.edgeCounted.capOcc : e.capOcc h cp = d.capOcc h cp := hc.same (fun x => x.capOcc h cp) fun _ _ => rfl
theorem Dev.edgeCounted.count (n : Nat) : e.count h n = d.count h n := hc.same (fun x => x.count h n) fun _ _ => rfl
theorem Dev.edgeCounted.stopCp : e.stopCp h cp = d.stopCp h cp := hc.same (fun x => x.stopCp h cp) fun _ _ => rfl

theorem Dev.edgeCounted.stampAt (n ce : Nat) : e.stampAt h cp n ce = d.stampAt h cp n ce := by
  unfold Dev.stampAt
  rw [hc.unit.c1, hc.unit.c2, hc.count, hc.same (fun x => x.tickInc h n) fun _ _ => rfl, hc.same Dev.pathComp fun _ _ => rfl]

end

section
variable {d : Dev} {h : Half} {cp : Nat}

/-- An edge that a unit in service takes is counted, goes to the point's mode, and may be a stop edge. -/
theorem Dev.capEdge_counted {fall : Bool} {e : EdgeSeen} (hs : d.capStopped h cp = false) (hx : d.crosses h cp fall e = true)
    (hk : d.slopeOk h cp fall = true) (hb : (d.cap h cp).blankTo ≤ d.now) (ho : d.gb (tdcP h cp) Reg.TDC.PSTAT_OOS = false) :
    ∃ d1, d.edgeCounted d1 h cp ∧ ∃ was, d.capEdge h cp fall e =
      (d1.capMode h cp fall ((d.cap h cp).grid == 0 || d.gb (tdcP h cp) Reg.TDC.CFG_OWNED) e).capStops h cp was fall e := by
  unfold Dev.capEdge
  extract_lets u0 u d0 b u1 d1
  have hu : u.blankTo = u0.blankTo ∧ u.grid = u0.grid ∧ u0.counted u1 := by
    by_cases hp : 20 ≤ cp
    · have he : u = u0 := if_pos hp
      exact ⟨by rw [he], by rw [he], by constructor <;> simp only [u1, he]⟩
    · have he : u = { u0 with level := e.level, high := d.comparator h cp u0.high e.level } := if_neg hp
      exact ⟨by rw [he], by rw [he], by constructor <;> simp only [u1, he]⟩
  obtain ⟨hbl, hg, hct⟩ := hu
  have hcap : d1.cap h cp = u1 := Dev.cap_setCap_same _ _ _ _
  have hoth : ∀ y, y ≠ cp → d1.cap h y = d.cap h y := fun y hne =>
    (Dev.cap_setCap_ne _ _ _ hne).trans (Dev.cap_setCap_ne _ _ _ hne)
  have hpass : (d0.capStopped h cp || !d.crosses h cp fall e || !d0.slopeOk h cp fall || decide (d0.now < u.blankTo)) = false := by
    have hs' : d0.capStopped h cp = false := hs
    have hk' : d0.slopeOk h cp fall = true := hk
    rw [hs', hx, hk', hbl]
    exact decide_eq_false (Nat.not_lt.2 hb)
  have ho' : d0.gb b Reg.TDC.PSTAT_OOS = false := ho
  refine ⟨d1, ⟨hcap ▸ hct, hoth, rfl⟩, u.busy, ?_⟩
  rw [hpass, ho', hg, if_neg Bool.false_ne_true, if_neg Bool.false_ne_true]
  rfl

theorem Dev.capEdge_taken {fall : Bool} {e : EdgeSeen} (hs : d.capStopped h cp = false) (hx : d.crosses h cp fall e = true)
    (hk : d.slopeOk h cp fall = true) (hb : (d.cap h cp).blankTo ≤ d.now) (ho : d.gb (tdcP h cp) Reg.TDC.PSTAT_OOS = false)
    (hn : ∀ y < 80, (d.cap h y).iv.map (·.stop) ≠ some cp) : ∃ d1, d.edgeCounted d1 h cp ∧
      d.capEdge h cp fall e = d1.capMode h cp fall ((d.cap h cp).grid == 0 || d.gb (tdcP h cp) Reg.TDC.CFG_OWNED) e := by
  obtain ⟨d1, hd1, was, he⟩ := Dev.capEdge_counted hs hx hk hb ho
  refine ⟨d1, hd1, he.trans (Dev.capStops_none _ _ (fun y hy hne => ?_) _ _ _)⟩
  rw [Dev.capMode_cap_ne _ _ _ hne, hd1.others y hne]
  exact hn y hy

/-- What a point's mode makes of an edge that its unit has counted. -/
theorem Dev.capMode_outcome {d1 : Dev} (hc : d.edgeCounted d1 h cp) (hcp : cp < 80) (fall : Bool) (e : EdgeSeen) :
    d.edgeOutcome (d1.capMode h cp fall ((d.cap h cp).grid == 0 || d.gb (tdcP h cp) Reg.TDC.CFG_OWNED) e) h cp e.ce := by
  have hsel (hs : (d.cap h cp).grid = 0 ∨ d.gb (tdcP h cp) Reg.TDC.CFG_OWNED = true) :
      ((d.cap h cp).grid == 0 || d.gb (tdcP h cp) Reg.TDC.CFG_OWNED) = true := by simpa using hs
  have hmode (k : Nat) (hm : d.g (tdcP h cp) Reg.TDC.CFG_MODE = k) : d1.g (tdcP h cp) Reg.TDC.CFG_MODE = k := (hc.g _ _).trans hm
  have hbusy (b : Bool) (hb : (d.cap h cp).busy = b) : (d1.cap h cp).busy = b := hc.unit.busy.trans hb
  refine ⟨(Dev.capMode_ecnt _ _).trans hc.unit.ecnt, fun hm hs hb => ?_, fun hm hs hb => ?_, fun hm ha hb => ?_,
    fun hm hi hs hb => ?_, fun hm => ?_⟩
  · rw [hsel hs, Dev.capMode_stamp _ (hmode 1 hm) (hbusy _ hb)]
    obtain ⟨q, hq⟩ := d1.capStamp_cap h cp e.ce { fall := fall, tslew := e.tslew }
    have hst := hc.stampAt (d1.capTb h cp) e.ce
    rw [hc.capTb] at hst hq
    refine ⟨by rw [hq, hst]; rfl, by rw [hq]; rfl, fun hqe ho => ?_⟩
    obtain ⟨hs1, hs2⟩ := Dev.capStamp_queued d1 h cp (ce := e.ce) (f := { fall := fall, tslew := e.tslew })
      ((hc.gb _ _).trans hqe) (hc.capOcc.trans_lt ho)
    exact ⟨by rw [hs1, hc.unit.seq], by rw [hs2, hc.g]⟩
  · rw [hsel hs, Dev.capMode_miss _ (hmode 1 hm) (hbusy _ hb)]
    obtain ⟨h1, h2, h3⟩ := d1.capMiss_marks h hcp
    exact ⟨(congrArg CapUnit.stamp (d1.capMiss_cap h cp cp)).trans hc.unit.stamp, by rw [h1, hc.g], h2, by rw [h3, hc.evt]⟩
  · rw [Dev.capMode_armed _ _ (hmode 2 hm) (hc.unit.armed.trans ha) (hbusy _ hb)]
    obtain ⟨q, hq⟩ := Dev.capStamp_cap (d1.setCap h cp { d1.cap h cp with armed := false }) h cp e.ce
      { fall := fall, tslew := e.tslew, trig := true }
    have hst := (Dev.stampAt_setCap (d := d1) (h := h) (cp := cp) (u := { d1.cap h cp with armed := false }) rfl rfl
      (d1.capTb h cp) e.ce).trans (hc.stampAt _ _)
    have htb : (d1.setCap h cp { d1.cap h cp with armed := false }).capTb h cp = d1.capTb h cp := rfl
    rw [htb, hst, hc.capTb, Dev.cap_setCap_same] at hq
    rw [hq]
    exact ⟨rfl, rfl⟩
  · rw [hsel hs, Dev.capMode_start _ (hmode 3 hm) (hc.unit.iv.trans hi) (hbusy _ hb)]
    obtain ⟨q, hq⟩ := Dev.capStamp_cap _ h cp e.ce { fall := fall, tslew := e.tslew, start := true }
    rw [hq, Dev.cap_setCap_same, hc.count, hc.capTb, hc.stopCp]
    rfl
  · rw [Dev.capMode_off _ _ (hmode 0 hm)]
    exact ⟨hc.unit.stamp, hc.unit.busy⟩

end

end Sys2Proof.Machine
end

section
/-! SUPPORT. What an edge gives the candidates, the bands, holdover and an output's monitor, and the other half's unit, shows in
no capture point of a half (R122, R170, R188, R222). -/

namespace Sys2Proof.Machine

/-- What every step of a run over a list keeps, the run keeps. -/
theorem foldl_keeps_mem {α β : Type} {g : Dev → α} {f : Dev → β → Dev} (l : List β) (h : ∀ e, ∀ x ∈ l, g (f e x) = g e)
    (d : Dev) : g (l.foldl f d) = g d := by
  induction l generalizing d with
  | nil => rfl
  | cons x l ih =>
    exact (ih (fun e y hy => h e y (List.mem_cons_of_mem _ hy)) (f d x)).trans (h d x (List.mem_cons_self ..))

section
variable {g h : Half} (hg : g ≠ h) {cp : Nat} (hc : cp < 80) (d : Dev)
include hg hc

theorem inCapture_ownWord {o : Nat} (ho : o < 0x20) : inCapture h (tdcP g cp + o) = false :=
  inCapture_other hg (inCapture_tdcP g hc ho)

theorem inCapture_ownEvent {k : Nat} (hk : k < 0x1000) : inCapture h (tdcPg g cp + k) = false :=
  inCapture_other hg (inCapture_tdcPg g hc hk)

theorem lossCounted_capView (seq : Nat) : (d.lossCounted (tdcP g cp) seq).capView h = d.capView h := by
  unfold Dev.lossCounted
  split
  · exact d.capView_p h (inCapture_ownWord hg hc (by decide)) _
  · exact (Dev.capView_pb _ h (inCapture_ownWord hg hc (by decide)) _).trans
      ((Dev.capView_p _ h (inCapture_ownWord hg hc (by decide)) _).trans
        (d.capView_p h (inCapture_ownWord hg hc (by decide)) _))

theorem offerEntry_capView (stamp ecnt cspan : Nat) (f : EntryFlags) :
    (d.offerEntry g cp stamp ecnt cspan f).capView h = d.capView h := by
  have hs := d.capView_setCap h hg hc { d.cap g cp with seq := ((d.cap g cp).seq + 1) % 2 ^ 16 }
  refine Dev.offerEntry_keeps (Dev.capView h) ?_ ?_
  · exact (Dev.capView_raise _ h (inCapture_ownEvent hg hc (by unfold capErrEvt; omega))).trans
      ((Dev.capView_pb _ h (inCapture_ownWord hg hc (by decide)) _).trans ((lossCounted_capView hg hc _ _).trans hs))
  · exact (Dev.capView_raiseIf _ h _ (inCapture_ownEvent hg hc (by unfold capDataEvt; omega))).trans
      ((Dev.capView_p _ h (inCapture_ownWord hg hc (by decide)) _).trans hs)

theorem capStamp_capView (ce : Nat) (f : EntryFlags) : (d.capStamp g cp ce f).capView h = d.capView h :=
  (offerEntry_capView hg hc _ _ _ _ _).trans (d.capView_setCap h hg hc _)

theorem capMiss_capView : (d.capMiss g cp).capView h = d.capView h := by
  unfold Dev.capMiss Dev.incSat
  rw [Dev.capView_perf, Dev.capView_raise _ h (inCapture_ownEvent hg hc (by unfold capErrEvt; omega)),
    Dev.capView_pb _ h (inCapture_ownWord hg hc (by decide)), Dev.capView_p _ h (inCapture_ownWord hg hc (by decide))]

theorem capMode_capView (fall sel : Bool) (e : EdgeSeen) : (d.capMode g cp fall sel e).capView h = d.capView h := by
  have stamped (u : CapUnit) (f : EntryFlags) : ((d.setCap g cp u).capStamp g cp e.ce f).capView h = d.capView h :=
    (capStamp_capView hg hc _ _ _).trans (d.capView_setCap h hg hc u)
  unfold Dev.capMode
  dsimp only
  split
  · split_ifs
    exacts [rfl, capMiss_capView hg hc d, capStamp_capView hg hc d _ _]
  · split_ifs
    exacts [rfl, stamped _ _]
  · split
    · split_ifs
      exacts [rfl, capMiss_capView hg hc d, stamped _ _]
    · split_ifs
      exacts [stamped _ _, rfl]
  · rfl

theorem capStops_capView (was fall : Bool) (e : EdgeSeen) : (d.capStops g cp was fall e).capView h = d.capView h := by
  unfold Dev.capStops
  dsimp only
  split
  · rfl
  · refine (Dev.capView_setCap _ h hg hc _).trans ?_
    refine foldl_keeps_mem _ (fun x y hy => ?_) d
    have hy80 := List.mem_range.1 (List.mem_filter.1 hy).1
    exact (offerEntry_capView hg hy80 _ _ _ _ _).trans (x.capView_setCap h hg hy80 _)

theorem capEdge_capView (fall : Bool) (e : EdgeSeen) : (d.capEdge g cp fall e).capView h = d.capView h := by
  unfold Dev.capEdge
  extract_lets u0 u d0 b u1 d1
  have h0 : d0.capView h = d.capView h := d.capView_setCap h hg hc u
  have h1 : d1.capView h = d.capView h := (d0.capView_setCap h hg hc u1).trans h0
  split_ifs
  · exact h0
  · exact h1
  · exact (capStops_capView hg hc _ _ _ _).trans ((capMode_capView hg hc _ _ _ _).trans h1)

end

end Sys2Proof.Machine
end

section
/-! SUPPORT. What the candidates, the bands, holdover and an output's monitor make of an edge shows in no capture point (R122,
R130, R170, R188, R222). -/

namespace Sys2Proof.Machine

/-- An observation that shows nothing of a candidate: its registers, its SUSPECT bit, its engine and its events. -/
structure CandHidden {α : Type} (g : Dev → α) (h : Half) (c : Nat) : Prop where
  word    : ∀ d f v, f.off < 0x40 → g (d.p (refQ h c) f v) = g d
  suspect : ∀ d v, g (d.putSuspect h c v) = g d
  engine  : ∀ d u, g (d.setCand h c u) = g d
  event   : ∀ d k, k < 32 → g (d.raise (refPg h c) k) = g d

theorem refEvt_lt (c : Nat) {k : Nat} (hk : k < 4) : refEvt c k < 32 := by
  unfold refEvt
  omega

section
variable {α : Type} {g : Dev → α} {h : Half} {c : Nat} (hg : CandHidden g h c) (d : Dev)
include hg

theorem CandHidden.putCstate (v : Nat) : g (d.putCstate h c v) = g d := by
  unfold Dev.putCstate
  dsimp only
  rw [hg.engine, hg.suspect, hg.word _ _ _ (by decide)]

theorem CandHidden.putFaults (f : Nat) : g (d.putFaults h c f) = g d := by
  have hf := hg.word d Reg.REF.CSTAT_FAULT f (by decide)
  unfold Dev.putFaults
  dsimp only
  split_ifs
  · exact hf
  · exact hf
  · exact (hg.event _ _ (refEvt_lt c (by decide))).trans ((hg.putCstate _ 1).trans hf)
  · exact (hg.putCstate _ 3).trans hf
  · exact (hg.engine _ _).trans ((hg.putCstate _ 2).trans hf)
  · exact hf

theorem CandHidden.putFault (bit : Nat) (v : Bool) : g (d.putFault h c bit v) = g d := hg.putFaults d _

theorem CandHidden.slipEnded : g (slipEnded h c d) = g d := by
  unfold Machine.slipEnded
  dsimp only
  split
  · split
    · rw [hg.putFault, hg.engine]
    · rfl
  · rfl

theorem CandHidden.candRefresh : g (candRefresh h c d) = g d := by
  unfold Machine.candRefresh
  rw [hg.putFaults, hg.slipEnded]

end

theorem pointRefresh_hidden {α : Type} {g : Dev → α} {h : Half} (hg : ∀ c < 30, CandHidden g h c) (cp : Nat) (d : Dev) :
    g (pointRefresh h cp d) = g d := by
  refine Dev.each_keeps g 30 _ d fun c hc e => ?_
  split
  · exact (hg c hc).candRefresh e
  · rfl

theorem inBlock_refQ (h : Half) {c o : Nat} (hc : c < 64) (ho : o < 0x40) : inBlock .ref (refQ h c + o) := by
  have := inBlock_pageAddr .ref h (i := c / 8) (o := 0x100 + 0x40 * (c % 8) + o) (by omega)
  rwa [← Nat.add_assoc, ← Nat.add_assoc] at this

theorem inBlock_refPg (h : Half) {c o : Nat} (hc : c < 64) (ho : o < 0x1000) : inBlock .ref (refPg h c + o) :=
  inBlock_pageAddr .ref h (by omega)

theorem inBlock_selPg (h : Half) {o : Nat} (ho : o < 0x1000) : inBlock .sel (selPg h + o) := inBlock_pageAddr .sel h (by omega)

/-- No capture point of a half shows a candidate of either half. -/
theorem candHidden_capView (h g : Half) {c : Nat} (hc : c < 30) : CandHidden (Dev.capView h) g c where
  word d _ v hf := d.capView_p h (inCapture_of_block (inBlock_refQ g (by omega) hf) h) v
  suspect d v := d.capView_setw h (inCapture_of_block (inBlock_selPg g (by decide)) h) _
  engine _ _ := rfl
  event d _ hk := d.capView_raise h (inCapture_of_block (inBlock_refPg g (by omega) (by omega)) h)

theorem Dev.capView_ps48 (d : Dev) (h : Half) {b : Nat} {lo hi : Fld} (hl : inCapture h (b + lo.off) = false)
    (hh : inCapture h (b + hi.off) = false) (v : Int) : (d.ps48 b lo hi v).capView h = d.capView h := by
  unfold Dev.ps48 Dev.p2
  rw [Dev.capView_p _ h hh, Dev.capView_p _ h hl]

theorem Dev.capView_setBand (d : Dev) (h : Half) (b : Nat) (v : BandSt) : (d.setBand b v).capView h = d.capView h := rfl

theorem Dev.capView_setOut (d : Dev) (h g : Half) (i j : Nat) (v : OutSt) : (d.setOut g i j v).capView h = d.capView h := rfl

theorem atomNoted_capView (h g : Half) (d : Dev) : (atomNoted g d).capView h = d.capView h := rfl

theorem markLatched_capView (h g : Half) (c : Nat) (d : Dev) : (markLatched g c d).capView h = d.capView h := by
  unfold markLatched
  exact keeps_ite rfl rfl

section
variable (h g : Half) {c : Nat} (hc : c < 30) (d : Dev)
include hc

theorem candMeasured_capView (raw : Int) : (candMeasured g c raw d).capView h = d.capView h := by
  have hq (o : Nat) (ho : o < 0x40) : inCapture h (refQ g c + o) = false := inCapture_of_block (inBlock_refQ g (by omega) ho) h
  unfold candMeasured
  dsimp only
  split
  · rfl
  · refine (Dev.each_frame (g := Dev.capView h) (fun n e => ?_) _).trans ?_
    · split
      · rfl
      · rfl
    have h2 (ph : Int) (u : Cand) : ((d.ps48 (refQ g c) Reg.REF.PHASE_LO Reg.REF.PHASE_HI ph).setCand g c u).capView h =
        d.capView h := by
      rw [Dev.capView_setCand, Dev.capView_ps48 _ h (hq _ (by decide)) (hq _ (by decide))]
    exact keeps_ite ((atomNoted_capView h g _).trans (h2 _ _)) (h2 _ _)

theorem candStamped_capView (cp s ec : Nat) : (candStamped g c cp s ec d).capView h = d.capView h := by
  unfold candStamped
  dsimp only
  split
  · rfl
  · split
    · exact candMeasured_capView h g hc _ _
    · exact candMeasured_capView h g hc _ _
    · split
      · exact candMeasured_capView h g hc _ _
      · rfl

end

theorem pinPaced_capView (h g : Half) (cp : Nat) (d : Dev) : (pinPaced g cp d).capView h = d.capView h :=
  pointRefresh_hidden (fun _ hc => candHidden_capView h g hc) cp _

/-- What a stamp at a point gives the candidate there. -/
theorem candGiven_capView (h g : Half) (cp : Nat) (old : CapUnit) (d : Dev) :
    (match (d.cap g cp).stampedSince old with
      | some s =>
        if cp ≤ 11 then candStamped g cp cp s (d.cap g cp).stampEc (pinPaced g cp d)
        else if cp = 12 then candStamped g 13 12 s (d.cap g cp).stampEc d else d
      | none => d).capView h = d.capView h := by
  cases (d.cap g cp).stampedSince old with
  | none => rfl
  | some s =>
    dsimp only
    split_ifs with h1 h2
    · exact (candStamped_capView h g (by omega) _ _ _ _).trans (pinPaced_capView h g cp d)
    · exact candStamped_capView h g (by decide) _ _ _ _
    · rfl

theorem candEdge_capView (h g : Half) (cp : Nat) (old : CapUnit) (d : Dev) : (candEdge g cp old d).capView h = d.capView h := by
  have hg := candGiven_capView h g cp old d
  unfold candEdge
  dsimp only
  split
  · exact (markLatched_capView h g _ _).trans hg
  · exact hg

/-- The events and words that a band's clock stamp and an output's monitor touch are their own. -/
theorem bandStamped_capView (h : Half) {b : Nat} (hb : b < 4) (d : Dev) : (bandStamped b d).capView h = d.capView h := by
  unfold bandStamped
  dsimp only
  split
  · rfl
  · split
    · rfl
    · rw [Dev.capView_setBand, Dev.capView_p _ h (inCapture_of_block (inBlock_gnfB hb (by decide)) h)]

theorem ppsEdge_capView (h g : Half) (d : Dev) : (ppsEdge g d).capView h = d.capView h := by
  unfold ppsEdge
  dsimp only
  split
  · rfl
  · split
    · exact (candHidden_capView h g (c := 13) (by decide)).putFault _ _ _
    · rfl

theorem claimSkew_capView (h g : Half) (e : Int) (d : Dev) : (d.claimSkew g e).capView h = d.capView h := by
  unfold Dev.claimSkew
  dsimp only
  split
  · rfl
  · exact Dev.capView_raise _ h (inCapture_of_block (inBlock_pageAddr .red g (i := 0) (by decide)) h)

theorem outMonitor_capView (h g : Half) {i j : Nat} (hi : i < 2) (hj : j < 8) (stamp : Nat) (d : Dev) :
    (outMonitor g i j stamp d).capView h = d.capView h := by
  have ho (o : Nat) (hlt : o < 0x40) : inCapture h (outO g i j + o) = false :=
    inCapture_of_block (inBlock_outO g hi hj (by omega)) h
  unfold outMonitor
  dsimp only
  split
  · rfl
  · have he : inCapture h (outPg g i + 2 * j) = false :=
      inCapture_of_block (inBlock_pageAddr .out g (i := i) (o := 2 * j) (by omega)) h
    rw [Dev.capView_raiseIf _ h _ he,
      Dev.capView_pb _ h (ho _ (by decide))]
    refine keeps_ite ((claimSkew_capView h g _ _).trans ?_) ?_ <;>
      rw [Dev.capView_setOut, Dev.capView_p _ h (ho _ (by decide))]

end Sys2Proof.Machine
end

section
/-! SUPPORT. A fault taken in by its collector shows in the FLT pages and in nothing else (R454 to R457). -/

namespace Sys2Proof.Machine

/-- An observation that shows nothing of the fault log. -/
structure FltHidden {α : Type} (g : Dev → α) : Prop where
  word   : ∀ d a v, inBlock .flt a → g (d.setw a v) = g d
  event  : ∀ d pg k, inBlock .flt (pg + k) → g (d.raise pg k) = g d
  engine : ∀ (d : Dev) v, g { d with flt := v } = g d

theorem inBlock_fltPg (h : Half) {o : Nat} (ho : o < 0x1000) : inBlock .flt (fltPg h + o) := inBlock_pageAddr .flt h (by omega)

section
variable {α : Type} {g : Dev → α} (hg : FltHidden g) (d : Dev) (h : Half)
include hg

theorem FltHidden.p {f : Fld} (hf : f.off < 0x1000) (v : Nat) : g (d.p (fltPg h) f v) = g d :=
  hg.word d _ _ (inBlock_fltPg h hf)

theorem FltHidden.pb {f : Fld} (hf : f.off < 0x1000) (v : Bool) : g (d.pb (fltPg h) f v) = g d :=
  hg.word d _ _ (inBlock_fltPg h hf)

theorem FltHidden.putRecord {o : Nat} (ho : o < 0xF00) (src count seq : Nat) :
    g (d.putRecord (fltPg h + o) src count seq) = g d := by
  unfold Dev.putRecord
  rw [Nat.add_assoc, Nat.add_assoc, Nat.add_assoc, hg.word _ _ _ (inBlock_fltPg h (by omega)),
    hg.word _ _ _ (inBlock_fltPg h (by omega)), hg.word _ _ _ (inBlock_fltPg h (by omega)),
    hg.word _ _ _ (inBlock_fltPg h (by omega))]

theorem FltHidden.putBatch (l : List Nat) : g (d.putBatch h l) = g d :=
  Dev.each_frame (fun i e => by
    rw [Nat.add_assoc]
    exact hg.word e _ _ (inBlock_fltPg h (by omega))) d

theorem FltHidden.offer (src : Nat) : g (d.offer h src) = g d := by
  unfold Dev.offer
  extract_lets pg st seq c full held ranked batch empty d1 d2 d4 d3
  have h1 : g d1 = g d := hg.engine d _
  have h2 : g d2 = g d := by
    refine keeps_ite ?_ (keeps_ite ?_ h1)
    · rw [hg.pb _ h (by decide), hg.putRecord _ h (by decide), h1]
    · rw [hg.word _ _ _ (inBlock_fltPg h (by decide)), h1]
  have h4 : g d4 = g d := keeps_ite (by rw [hg.p _ h (by decide), h2]) h2
  have h3 : g d3 = g d := by
    refine keeps_ite ?_ ?_
    · rw [hg.event _ _ _ (inBlock_fltPg h (by decide)), Dev.incSat, hg.p _ h (by decide), h4]
    · rw [Dev.inc, hg.p _ h (by decide), Nat.add_assoc, hg.putRecord _ h (by omega), h2]
  rw [hg.putBatch, h3]

theorem FltHidden.raiseIf (c : Bool) {pg k : Nat} (ha : inBlock .flt (pg + k)) : g (d.raiseIf c pg k) = g d := by
  cases c
  · rfl
  · exact hg.event d pg k ha

theorem FltHidden.collect (src : Nat) {cls : Nat} (hc : cls < 4) : g (d.collect h src cls) = g d := by
  have h1 : g (d.setw (fltPg h + 0x128 + 4 * cls) (d.w (fltPg h + 0x128 + 4 * cls) + 1)) = g d := by
    rw [Nat.add_assoc]
    exact hg.word _ _ _ (inBlock_fltPg h (by omega))
  unfold Dev.collect
  refine keeps_ite h1 ?_
  have he : inBlock .flt (fltPg h + cls) := inBlock_fltPg h (by omega)
  exact (hg.raiseIf _ _ he).trans ((hg.offer _ h src).trans h1)

/-- A unit that leaves service is recorded as a C1 fault, and that is all (R455). -/
theorem FltHidden.unitFault (pg unit : Nat) : g (d.unitFault pg unit) = g d :=
  hg.collect d (d.collector pg) _ (cls := 1) (by decide)

end

theorem fltHidden_capView (h : Half) : FltHidden (Dev.capView h) where
  word d _ v ha := d.capView_setw h (inCapture_of_block ha h) v
  event d _ _ ha := d.capView_raise h (inCapture_of_block ha h)
  engine _ _ := rfl

end Sys2Proof.Machine
end

section
/-! PROOF. Edges stamped in both halves and units calibrated: O29. -/

namespace Sys2Proof.Machine

/-- What an edge gives the rest of the chip shows in no capture point beyond what the unit made of it. -/
theorem edgeTaken_capView (h g : Half) (cp : Nat) (fall : Bool) (e : EdgeSeen) (d : Dev) :
    (d.edgeTaken g cp fall e).capView h = (d.capEdge g cp fall e).capView h := by
  unfold Dev.edgeTaken
  extract_lets was d0 d1
  have h0 : d0.capView h = (d.capEdge g cp fall e).capView h := candEdge_capView h g cp was _
  have h1 : d1.capView h = d0.capView h := by
    dsimp only [d1]
    split
    · rename_i hb
      simp only [Bool.and_eq_true, decide_eq_true_eq] at hb
      exact bandStamped_capView h (by omega) d0
    · rfl
  refine keeps_ite ((ppsEdge_capView h g d1).trans (h1.trans h0)) (h1.trans h0)

theorem outOfCp_bound {cp : Nat} {o : Half × Nat × Nat} (ho : outOfCp cp = some o) : o.2.1 < 2 ∧ o.2.2 < 8 := by
  unfold outOfCp at ho
  split_ifs at ho with h1 h2
  · obtain rfl := Option.some.inj ho
    exact ⟨by dsimp only; omega, Nat.mod_lt _ (by decide)⟩
  · obtain rfl := Option.some.inj ho
    exact ⟨by dsimp only; omega, by dsimp only; omega⟩

/-- An edge captured shows in a half's capture points what the units of the two halves make of it. -/
theorem edgeCaptured_capView {nv : NV} {cp : Nat} (hn : nv.variantN = false ∨ cp < 20 ∨ 24 ≤ cp) (fall : Bool) (e0 e1 : EdgeSeen)
    (h : Half) (d : Dev) : (edgeCaptured nv cp fall e0 e1 d).capView h =
      (((d.edgeTaken .warp cp fall e0).capEdge .weft cp fall e1)).capView h := by
  have hv : (nv.variantN && decide (20 ≤ cp) && decide (cp < 24)) = false := by
    rcases hn with hn | hn | hn
    · simp [hn]
    · simp [Nat.not_le.2 hn]
    · simp [Nat.not_lt.2 hn]
  have hw := edgeTaken_capView h .weft cp fall e1 (d.edgeTaken .warp cp fall e0)
  unfold edgeCaptured
  rw [hv, if_neg Bool.false_ne_true]
  dsimp only
  split
  · exact hw
  · rename_i o ho
    obtain ⟨hi, hj⟩ := outOfCp_bound ho
    split
    · split
      · exact hw
      · exact (outMonitor_capView h _ hi hj _ _).trans hw
    · exact hw

/-- The outcome of an edge at one half's unit, as that unit's own step gives it. -/
theorem capEdge_outcome {d : Dev} {h : Half} {cp : Nat} (hc : cp < 80) {fall : Bool} {e : EdgeSeen}
    (hs : d.capStopped h cp = false) (hx : d.crosses h cp fall e = true) (hk : d.slopeOk h cp fall = true)
    (hb : (d.cap h cp).blankTo ≤ d.now) (ho : d.gb (tdcP h cp) Reg.TDC.PSTAT_OOS = false)
    (hn : ∀ y < 80, (d.cap h y).iv.map (·.stop) ≠ some cp) : d.edgeOutcome (d.capEdge h cp fall e) h cp e.ce := by
  obtain ⟨d1, hd1, he⟩ := Dev.capEdge_taken hs hx hk hb ho hn
  rw [he]
  exact Dev.capMode_outcome hd1 hc fall e

theorem edgeCaptured_outcome {nv : NV} {cp : Nat} (hc : cp < 80) (hv : nv.variantN = false ∨ cp < 20 ∨ 24 ≤ cp) {fall : Bool}
    {e0 e1 e : EdgeSeen} {h : Half} {d : Dev} (he : (match h with | .warp => e0 | .weft => e1) = e) (hs : d.capStopped h cp = false)
    (hx : d.crosses h cp fall e = true) (hk : d.slopeOk h cp fall = true)
    (hb : (d.cap h cp).blankTo ≤ d.now) (ho : d.gb (tdcP h cp) Reg.TDC.PSTAT_OOS = false)
    (hn : ∀ y < 80, (d.cap h y).iv.map (·.stop) ≠ some cp) :
    d.edgeOutcome (edgeCaptured nv cp fall e0 e1 d) h cp e.ce := by
  subst he
  cases h with
  | warp =>
    refine (capEdge_outcome hc hs hx hk hb ho hn).congr hc rfl ?_
    rw [edgeCaptured_capView hv, capEdge_capView (by decide) hc, edgeTaken_capView]
  | weft =>
    have hw : (d.edgeTaken .warp cp fall e0).capView .weft = d.capView .weft :=
      (edgeTaken_capView .weft .warp cp fall e0 d).trans (capEdge_capView (by decide) hc d fall e0)
    refine (capEdge_outcome (d := d.edgeTaken .warp cp fall e0) (e := e1) (fall := fall) hc ((CapView.capStopped hw hc).trans hs)
      ((CapView.crosses hw hc _ _).trans hx) ((CapView.slopeOk hw hc _).trans hk) ?_ ((CapView.gb hw hc (by decide)).trans ho)
      fun y hy => ?_).congr hc hw.symm (edgeCaptured_capView hv fall e0 e1 .weft d)
    · rw [CapView.cap hw hc, CapView.now_eq hw]
      exact hb
    · rw [CapView.cap hw hy]
      exact hn y hy

theorem edgeCaptured_tbs {nv : NV} {cp : Nat} (hv : nv.variantN = false ∨ cp < 20 ∨ 24 ≤ cp) (fall : Bool)
    (e0 e1 : EdgeSeen) (d : Dev) : (edgeCaptured nv cp fall e0 e1 d).tbs = d.tbs := by
  have h1 := CapView.tbs_eq (edgeCaptured_capView hv fall e0 e1 .warp d)
  have h2 := (Dev.capEdge_captures (d.edgeTaken .warp cp fall e0) .weft cp fall e1).tbs
  have h3 := CapView.tbs_eq (edgeTaken_capView .weft .warp cp fall e0 d)
  exact h1.trans (h2.trans (h3.trans (d.capEdge_captures .warp cp fall e0).tbs))

theorem not_calibrated {c1 c2 : Nat} (hc : c2 < c1 + 1900 ∨ c1 + 2100 < c2) :
    (decide (1900 ≤ c2 - c1) && decide (c2 - c1 ≤ 2100) && decide (c1 ≤ c2)) = false := by
  rw [Bool.eq_false_iff]
  simp only [ne_eq, Bool.and_eq_true, decide_eq_true_eq]
  omega

section
variable {d : Dev} {h : Half} {cp c1 c2 : Nat} (ho : d.gb (tdcP h cp) Reg.TDC.PSTAT_OOS = false)
  (hs : d.capStopped h cp = false)
include ho hs

/-- The calibration's result in the point's registers (R98, R113). -/
def Dev.calNoted (d : Dev) (h : Half) (cp c1 c2 : Nat) (ok : Bool) : Dev :=
  (d.pb (tdcP h cp) Reg.TDC.PSTAT_CAL_OK ok).p (tdcP h cp) Reg.TDC.LAST_CAL (c2 - c1)

/-- A unit out of service (R98). -/
def Dev.pointOut (d : Dev) (h : Half) (cp : Nat) : Dev :=
  (((d.pb (tdcP h cp) Reg.TDC.PSTAT_OOS true).pb (tdcP h cp) Reg.TDC.PSTAT_ERR_CAL true).raise (tdcPg h cp)
    (capErrEvt cp)).unitFault (tdcPg h cp) (cp % 16)

theorem Dev.capCalibrate_ok (hlo : c1 + 1900 ≤ c2) (hhi : c2 ≤ c1 + 2100) : d.capCalibrate h cp c1 c2 =
    (d.calNoted h cp c1 c2 true).setCap h cp { d.cap h cp with c1 := c1, c2 := c2, fails := 0, busy := false } := by
  have hok : (decide (1900 ≤ c2 - c1) && decide (c2 - c1 ≤ 2100) && decide (c1 ≤ c2)) = true := by
    simp only [Bool.and_eq_true, decide_eq_true_eq]
    omega
  unfold Dev.capCalibrate
  simp only [ho, hs, hok]
  rfl

theorem Dev.capCalibrate_bad (hc : c2 < c1 + 1900 ∨ c1 + 2100 < c2) (hf : (d.cap h cp).fails < 15) : d.capCalibrate h cp c1 c2 =
    (d.calNoted h cp c1 c2 false).setCap h cp { d.cap h cp with fails := (d.cap h cp).fails + 1 } := by
  unfold Dev.capCalibrate
  simp only [ho, hs, not_calibrated hc, if_pos (show (d.cap h cp).fails + 1 < 16 by omega)]
  rfl

theorem Dev.capCalibrate_out (hc : c2 < c1 + 1900 ∨ c1 + 2100 < c2) (hf : 15 ≤ (d.cap h cp).fails) : d.capCalibrate h cp c1 c2 =
    ((d.calNoted h cp c1 c2 false).setCap h cp { d.cap h cp with fails := 16 }).pointOut h cp := by
  unfold Dev.capCalibrate
  simp only [ho, hs, not_calibrated hc, if_neg (show ¬ (d.cap h cp).fails + 1 < 16 by omega)]
  rfl

end


theorem Dev.calNoted_fields (d : Dev) (h : Half) (cp c1 c2 : Nat) (ok : Bool) :
    (d.calNoted h cp c1 c2 ok).gb (tdcP h cp) Reg.TDC.PSTAT_CAL_OK = ok ∧
      (d.calNoted h cp c1 c2 ok).g (tdcP h cp) Reg.TDC.LAST_CAL = (c2 - c1) % 2 ^ 16 := by
  unfold Dev.calNoted
  exact ⟨(Dev.gb_p_apart _ _ _ (by decide) (by decide)).trans (Dev.gb_pb_same _ _ _ _ (by decide) (by decide)),
    Dev.g_p_same _ _ _ _ (by decide)⟩

theorem Dev.calNoted_evt (d : Dev) (h : Half) (cp c1 c2 : Nat) (ok : Bool) (pg k : Nat) :
    (d.calNoted h cp c1 c2 ok).evt pg k = d.evt pg k := rfl

theorem Dev.calNoted_tbs (d : Dev) (h : Half) (cp c1 c2 : Nat) (ok : Bool) : (d.calNoted h cp c1 c2 ok).tbs = d.tbs := rfl

/-- A unit taken out of service shows in its point (R98). -/
theorem Dev.pointOut_shows (d : Dev) (h : Half) {cp : Nat} (hc : cp < 80) :
    (d.pointOut h cp).gb (tdcP h cp) Reg.TDC.PSTAT_OOS = true ∧ (d.pointOut h cp).gb (tdcP h cp) Reg.TDC.PSTAT_ERR_CAL = true ∧
      (d.pointOut h cp).evt (tdcPg h cp) (capErrEvt cp) = (d.evt (tdcPg h cp) (capErrEvt cp)).occur ∧
      (d.pointOut h cp).tbs = d.tbs := by
  have hoos : ((d.pb (tdcP h cp) Reg.TDC.PSTAT_OOS true).pb (tdcP h cp) Reg.TDC.PSTAT_ERR_CAL true).gb (tdcP h cp)
      Reg.TDC.PSTAT_OOS = true :=
    (Dev.gb_p_apart _ _ _ (by decide) (by decide)).trans (Dev.gb_pb_same _ _ _ _ (by decide) (by decide))
  have hcal := Dev.gb_pb_same (d.pb (tdcP h cp) Reg.TDC.PSTAT_OOS true) (tdcP h cp) Reg.TDC.PSTAT_ERR_CAL true (by decide) (by decide)
  have hev : ((d.pb (tdcP h cp) Reg.TDC.PSTAT_OOS true).pb (tdcP h cp) Reg.TDC.PSTAT_ERR_CAL true).evt (tdcPg h cp) (capErrEvt cp) =
      d.evt (tdcPg h cp) (capErrEvt cp) := rfl
  have htb : ((d.pb (tdcP h cp) Reg.TDC.PSTAT_OOS true).pb (tdcP h cp) Reg.TDC.PSTAT_ERR_CAL true).tbs = d.tbs := rfl
  unfold Dev.pointOut
  generalize (d.pb (tdcP h cp) Reg.TDC.PSTAT_OOS true).pb (tdcP h cp) Reg.TDC.PSTAT_ERR_CAL true = x at hoos hcal hev htb ⊢
  have hv := (fltHidden_capView h).unitFault (x.raise (tdcPg h cp) (capErrEvt cp)) (tdcPg h cp) (cp % 16)
  refine ⟨(CapView.gb hv hc (by decide)).trans hoos, (CapView.gb hv hc (by decide)).trans hcal,
    (CapView.evt hv (inCapture_tdcPg h hc (by unfold capErrEvt; omega))).trans ?_, (CapView.tbs_eq hv).trans htb⟩
  rw [Dev.evt_raise_own x (evtImplemented_capErr h ⟨cp, hc⟩), hev]

/-- What a calibration leaves in a point, the candidates' faults taken afresh leave there. -/
theorem exec_captureCalibrate (h : Half) (cp : Fin 80) (c1 c2 : Nat) (s : State) {d : Dev}
    (hd : s.dev.capCalibrate h cp.val c1 c2 = d) : ∃ t, exec (.captureCalibrate h cp c1 c2) s = .next t ∧
      t.dev.capView h = d.capView h ∧ s.keepsRest t :=
  ⟨_, rfl, by rw [← hd]; exact pointRefresh_hidden (fun _ hc => candHidden_capView h h hc) cp.val _, rfl, rfl⟩

/-- Settles O29: each half's unit takes the edge by its mode, and nothing else that an edge feeds shows in the half's capture
points; a calibration writes the point's registers and its unit. -/
theorem edgesAreStampedAndUnitsCalibrated : Obligations.EdgesAreStampedAndUnitsCalibrated := by
  unfold Obligations.EdgesAreStampedAndUnitsCalibrated
  refine ⟨?_, fun h cp c1 c2 s ho hs hlo hhi => ?_, fun h cp c1 c2 s ho hs hbad hf => ?_, fun h cp c1 c2 s ho hs hbad hf => ?_⟩
  · intro cp fall e0 e1 h s u b e mode sel hv hs hx hk hb ho hn
    obtain ⟨hec, h1, h2, h3, h4, h5⟩ := edgeCaptured_outcome (nv := s.nv) (e0 := e0) (e1 := e1) cp.isLt hv rfl hs hx hk hb ho hn
    refine ⟨s.onDev fun d => edgeCaptured s.nv cp.val fall e0 e1 d, rfl, hec, h1, h2, h3, h4, h5, fun g n => ?_, rfl, rfl⟩
    unfold Dev.count Dev.tb
    exact congrArg (fun t : Tab Tbase => (tget {} t (g.num * 16 + n)).count) (edgeCaptured_tbs hv fall e0 e1 s.dev)
  · obtain ⟨t, ht, hv, hk⟩ := exec_captureCalibrate h cp c1 c2 s (Dev.capCalibrate_ok ho hs hlo hhi)
    obtain ⟨hok, hlast⟩ := s.dev.calNoted_fields h cp.val c1 c2 true
    refine ⟨t, ht, (CapView.cap hv cp.isLt).trans (Dev.cap_setCap_same _ _ _ _), (CapView.gb hv cp.isLt (by decide)).trans hok,
      (CapView.g hv cp.isLt (by decide)).trans (hlast.trans (Nat.mod_eq_of_lt (by omega))), (CapView.tbs_eq hv).trans (s.dev.calNoted_tbs h cp.val c1 c2 true), hk⟩
  · obtain ⟨t, ht, hv, hk⟩ := exec_captureCalibrate h cp c1 c2 s (Dev.capCalibrate_bad ho hs hbad hf)
    obtain ⟨hok, -⟩ := s.dev.calNoted_fields h cp.val c1 c2 false
    exact ⟨t, ht, (CapView.cap hv cp.isLt).trans (Dev.cap_setCap_same _ _ _ _), (CapView.gb hv cp.isLt (by decide)).trans hok,
      (CapView.tbs_eq hv).trans (s.dev.calNoted_tbs h cp.val c1 c2 false), hk⟩
  · obtain ⟨t, ht, hv, hk⟩ := exec_captureCalibrate h cp c1 c2 s (Dev.capCalibrate_out ho hs hbad hf)
    obtain ⟨hoos, hcal, hev, htb⟩ := Dev.pointOut_shows
      ((s.dev.calNoted h cp.val c1 c2 false).setCap h cp.val { s.dev.cap h cp.val with fails := 16 }) h cp.isLt
    exact ⟨t, ht, (CapView.gb hv cp.isLt (by decide)).trans hoos, (CapView.gb hv cp.isLt (by decide)).trans hcal,
      (CapView.evt hv (inCapture_tdcPg h cp.isLt (by unfold capErrEvt; omega))).trans hev, (CapView.tbs_eq hv).trans htb, hk⟩

end Sys2Proof.Machine
end

section
/-! PROOF. Word clocks, Selvedge markers and the path compensation of internal points (R116, R119, R121): O31. -/

namespace Sys2Proof.Machine

/-! ### Word clocks -/

theorem freqMeasured_capView (h g : Half) {c : Nat} (hc : c < 30) (n stamp ec : Nat) (d : Dev) :
    (d.freqMeasured g c n stamp ec).capView h = d.capView h :=
  candMeasured_capView h g hc _ _

section
variable {h : Half} {cp : Nat}

/-- The other half's word clock shows in none of a half's capture points. -/
theorem wordTracked_capView {g : Half} (hc : cp < 80) (hg : g ≠ h) (words ce : Nat) (d : Dev) :
    (wordTracked g cp words ce d).capView h = d.capView h := by
  unfold wordTracked
  extract_lets u st ec d1 tr d2 d3
  split
  · rfl
  · rename_i hb
    have h1 : d1.capView h = d.capView h := (offerEntry_capView hg hc _ _ _ _ _).trans (d.capView_setCap h hg hc _)
    have h3 : d3.capView h = d.capView h := h1
    have hlt : cp - 10 < 30 := by
      simp only [Bool.or_eq_true, decide_eq_true_eq, not_or] at hb
      omega
    exact keeps_ite ((freqMeasured_capView h g hlt _ _ _ _).trans h3) h3

theorem wordTracked_tbs (g : Half) (hc : cp < 80) (words ce : Nat) (d : Dev) : (wordTracked g cp words ce d).tbs = d.tbs := by
  cases g with
  | warp => exact CapView.tbs_eq (wordTracked_capView (h := .weft) hc (by decide) words ce d)
  | weft => exact CapView.tbs_eq (wordTracked_capView (h := .warp) hc (by decide) words ce d)

/-- The edge count of a point that stands at a number of words, modulo 2^32 (R116). -/
def wordCount (ecnt words : Nat) : Nat := ecnt + (words + 2 ^ 32 - ecnt % 2 ^ 32) % 2 ^ 32

theorem wordCount_mod (ecnt words : Nat) : wordCount ecnt words % 2 ^ 32 = words % 2 ^ 32 := by
  unfold wordCount
  omega

/-- A word clock's stamp in the unit of a point in service (R116). -/
theorem wordTracked_unit (hlo : 24 ≤ cp) (hhi : cp ≤ 39) {d : Dev} (hs : d.capStopped h cp = false)
    (ho : d.gb (tdcP h cp) Reg.TDC.PSTAT_OOS = false) (words ce : Nat) : ∃ q, (wordTracked h cp words ce d).cap h cp =
      { d.cap h cp with
        ecnt := wordCount (d.cap h cp).ecnt words, stamp := some (d.stampAt h cp 0 ce), stamp0 := some (d.stampAt h cp 0 ce)
        stampEc := wordCount (d.cap h cp).ecnt words, lastAt := some (d.count h (d.capTb h cp)), seq := q } := by
  have hb : (decide (cp < 24) || decide (39 < cp) || d.capStopped h cp || d.gb (tdcP h cp) Reg.TDC.PSTAT_OOS) = false := by
    rw [hs, ho, decide_eq_false (by omega), decide_eq_false (by omega)]
    rfl
  unfold wordTracked
  extract_lets u st ec d1 tr d2 d3
  rw [hb, if_neg Bool.false_ne_true]
  obtain ⟨q, hq⟩ : ∃ q, d1.cap h cp = { (d.setCap h cp { u with
      ecnt := ec, stamp := some st, stamp0 := some st, stampEc := ec, lastAt := some (d.count h (d.capTb h cp)) }).cap h cp with
        seq := q } := Dev.offerEntry_cap _ h cp st ec (u.c2 - u.c1) {}
  rw [Dev.cap_setCap_same] at hq
  refine ⟨q, Eq.trans ?_ hq⟩
  split
  · exact CapView.cap (freqMeasured_capView h h (by omega) _ _ _ d3) (by omega)
  · rfl

end

theorem gateSees_capView {p : Nat} (hp : p < 16) (h g : Half) (d : Dev) : (gateSees g (24 + p) d).capView h = d.capView h := by
  unfold gateSees
  split
  · exact d.capView_p h (inCapture_of_block (inBlock_lgtG (by omega) (by decide)) h) _
  · rfl

/-- The point of a port's word clock. -/
theorem wordPoint_eq (p : Fin 8) (tx : Bool) : ∃ k < 16, (if tx then 32 else 24) + p.val = 24 + k := by
  cases tx
  · exact ⟨p.val, by omega, rfl⟩
  · exact ⟨8 + p.val, by omega, by simp only [if_true]; omega⟩

theorem wordClockTracked_capView (p : Fin 8) (tx : Bool) (words ce0 ce1 : Nat) (h : Half) (d : Dev) :
    (wordClockTracked p.val tx words ce0 ce1 d).capView h =
      (wordTracked .weft ((if tx then 32 else 24) + p.val) words ce1
        (wordTracked .warp ((if tx then 32 else 24) + p.val) words ce0 d)).capView h := by
  obtain ⟨k, hk, he⟩ := wordPoint_eq p tx
  unfold wordClockTracked
  dsimp only
  rw [he, gateSees_capView hk, gateSees_capView hk]

/-- In each half a word clock is stamped as the half's own unit stamps it. -/
theorem wordClockTracked_unit (p : Fin 8) (tx : Bool) (words ce0 ce1 : Nat) (h : Half) {d : Dev} {ce : Nat}
    (hce : (match h with | .warp => ce0 | .weft => ce1) = ce)
    (hs : d.capStopped h ((if tx then 32 else 24) + p.val) = false)
    (ho : d.gb (tdcP h ((if tx then 32 else 24) + p.val)) Reg.TDC.PSTAT_OOS = false) :
    let u := (wordClockTracked p.val tx words ce0 ce1 d).cap h ((if tx then 32 else 24) + p.val)
    u.stamp = some (d.stampAt h ((if tx then 32 else 24) + p.val) 0 ce) ∧ u.ecnt % 2 ^ 32 = words % 2 ^ 32 ∧ u.stampEc = u.ecnt := by
  subst hce
  have hv := wordClockTracked_capView p tx words ce0 ce1 h d
  obtain ⟨k, hk, he⟩ := wordPoint_eq p tx
  rw [he] at hv hs ho ⊢
  have hc : 24 + k < 80 := by omega
  intro u
  cases h with
  | warp =>
    obtain ⟨q, hq⟩ := wordTracked_unit (by omega) (by omega) hs ho words ce0
    have hu : u = _ := ((CapView.cap hv hc).trans (CapView.cap (wordTracked_capView hc (by decide) words ce1 _) hc)).trans hq
    rw [hu]
    exact ⟨rfl, wordCount_mod _ _, rfl⟩
  | weft =>
    have hw := wordTracked_capView (h := .weft) hc (by decide : Half.warp ≠ .weft) words ce0 d
    obtain ⟨q, hq⟩ := wordTracked_unit (by omega) (by omega) ((CapView.capStopped hw hc).trans hs)
      ((CapView.gb hw hc (by decide)).trans ho) words ce1
    have hu : u = _ := (CapView.cap hv hc).trans hq
    rw [hu, CapView.stampAt hw hc (by decide)]
    exact ⟨rfl, wordCount_mod _ _, rfl⟩

theorem wordClockTracked_tbs (p : Fin 8) (tx : Bool) (words ce0 ce1 : Nat) (d : Dev) :
    (wordClockTracked p.val tx words ce0 ce1 d).tbs = d.tbs := by
  have hv := wordClockTracked_capView p tx words ce0 ce1 .warp d
  obtain ⟨k, hk, he⟩ := wordPoint_eq p tx
  rw [he] at hv
  exact (CapView.tbs_eq hv).trans ((wordTracked_tbs .weft (by omega) _ _ _).trans (wordTracked_tbs .warp (by omega) _ _ _))

/-! ### Selvedge markers -/

theorem Dev.capStops_stamp (d : Dev) (h : Half) (cp : Nat) (was fall : Bool) (e : EdgeSeen) :
    ∃ b, (d.capStops h cp was fall e).cap h cp = { d.cap h cp with busy := b } := by
  unfold Dev.capStops
  dsimp only
  split
  · exact ⟨_, rfl⟩
  · rw [Dev.cap_setCap_same]
    refine ⟨true, congrArg (fun u : CapUnit => { u with busy := true }) ?_⟩
    refine foldl_keeps_mem (g := fun x => x.cap h cp) _ (fun x y hy => ?_) d
    have hne : y ≠ cp := by
      have hb := (List.mem_filter.1 hy).2
      simp only [Bool.and_eq_true, bne_iff_ne] at hb
      exact hb.1.1.1
    exact (Dev.offerEntry_cap_ne _ h y (Ne.symm hne) _ _ _ _).trans (Dev.cap_setCap_ne _ _ _ (Ne.symm hne))

/-- A marker that a unit in STAMP mode takes outside its dead time is stamped in TB0 (R119). -/
theorem capEdge_stampedSince {d : Dev} {h : Half} {cp : Nat} (hp : 20 ≤ cp) {e : EdgeSeen} (hs : d.capStopped h cp = false)
    (hk : d.slopeOk h cp false = true) (hb : (d.cap h cp).blankTo ≤ d.now) (ho : d.gb (tdcP h cp) Reg.TDC.PSTAT_OOS = false)
    (hm : d.g (tdcP h cp) Reg.TDC.CFG_MODE = 1) (hw : d.gb (tdcP h cp) Reg.TDC.CFG_OWNED = true) (hy : (d.cap h cp).busy = false) :
    ((d.capEdge h cp false e).cap h cp).stampedSince (d.cap h cp) = some (d.stampAt h cp 0 e.ce) := by
  have hx : d.crosses h cp false e = true := by
    unfold Dev.crosses
    rw [decide_eq_true hp, Bool.true_or]
  obtain ⟨d1, hd, was, he⟩ := Dev.capEdge_counted hs hx hk hb ho
  obtain ⟨b, hb2⟩ := Dev.capStops_stamp (d1.capMode h cp false ((d.cap h cp).grid == 0 || d.gb (tdcP h cp) Reg.TDC.CFG_OWNED) e) h cp
    was false e
  rw [he, hb2, hw, Bool.or_true, Dev.capMode_stamp _ ((hd.g _ _).trans hm) (hd.unit.busy.trans hy)]
  obtain ⟨q, hq⟩ := d1.capStamp_cap h cp e.ce { fall := false, tslew := e.tslew }
  rw [hq, hd.stampAt 0]
  unfold CapUnit.stampedSince CapUnit.stamped
  dsimp only
  rw [hd.unit.ecnt]
  simp

/-- What both halves' units stamped of a marker. -/
def Dev.markSeen (d e : Dev) (cp : Nat) : Pair (Option Nat) :=
  ⟨(e.cap .warp cp).stampedSince (d.cap .warp cp), (e.cap .weft cp).stampedSince (d.cap .weft cp)⟩

/-- Both halves' units take a marker. -/
def Dev.markTaken (d : Dev) (cp : Nat) (e0 e1 : EdgeSeen) : Dev := (d.capEdge .warp cp false e0).capEdge .weft cp false e1

theorem Dev.markTaken_captures (d : Dev) (cp : Nat) (e0 e1 : EdgeSeen) : d.capturesOnly (d.markTaken cp e0 e1) :=
  (d.capEdge_captures .warp cp false e0).trans (Dev.capEdge_captures _ .weft cp false e1)

theorem Dev.capturesOnly.links {d e : Dev} (h : d.capturesOnly e) : e.links = d.links := by
  have hl := congrArg Dev.links h
  exact hl

theorem Dev.markTaken_link (d : Dev) (cp : Nat) (e0 e1 : EdgeSeen) (k : Nat) : (d.markTaken cp e0 e1).link k = d.link k :=
  congrArg (fun t : Tab LinkSt => tget ({} : LinkSt) t k) (d.markTaken_captures cp e0 e1).links

theorem markerStamped_up {d : Dev} {l : Fin 4} (hu : d.linkUp_ l.val = true) (leaves : Bool) (e0 e1 : EdgeSeen) :
    markerStamped l.val leaves e0 e1 d =
      (d.markTaken (64 + 2 * l.val + bitOf leaves) e0 e1).setLink l.val
        (if leaves then { d.link l.val with t1 := d.markSeen (d.markTaken (64 + 2 * l.val + bitOf leaves) e0 e1) (64 + 2 * l.val + bitOf leaves) }
          else { d.link l.val with t4 := d.markSeen (d.markTaken (64 + 2 * l.val + bitOf leaves) e0 e1) (64 + 2 * l.val + bitOf leaves) }) := by
  have hl := d.markTaken_link (64 + 2 * l.val + bitOf leaves) e0 e1 l.val
  have hb : (!d.linkUp_ l.val || decide (3 < l.val)) = false := by
    rw [hu, decide_eq_false (by omega)]
    rfl
  unfold markerStamped
  rw [hb, if_neg Bool.false_ne_true, ← hl]
  rfl

theorem markSeen_of {d : Dev} {h : Half} {cp : Nat} (hp : 20 ≤ cp) (hc : cp < 80) {e0 e1 e : EdgeSeen}
    (he : (match h with | .warp => e0 | .weft => e1) = e) (hs : d.capStopped h cp = false)
    (hk : d.slopeOk h cp false = true) (hb : (d.cap h cp).blankTo ≤ d.now) (ho : d.gb (tdcP h cp) Reg.TDC.PSTAT_OOS = false)
    (hm : d.g (tdcP h cp) Reg.TDC.CFG_MODE = 1) (hw : d.gb (tdcP h cp) Reg.TDC.CFG_OWNED = true) (hy : (d.cap h cp).busy = false) :
    (d.markSeen (d.markTaken cp e0 e1) cp).of h = some (d.stampAt h cp 0 e.ce) := by
  subst he
  cases h with
  | warp =>
    refine Eq.trans ?_ (capEdge_stampedSince (e := e0) hp hs hk hb ho hm hw hy)
    exact congrArg (fun u : CapUnit => u.stampedSince (d.cap .warp cp))
      (CapView.cap (capEdge_capView (h := .warp) (by decide) hc _ _ _) hc)
  | weft =>
    have hv := capEdge_capView (h := .weft) (by decide : Half.warp ≠ .weft) hc d false e0
    have := capEdge_stampedSince (d := d.capEdge .warp cp false e0) (h := .weft) (e := e1) hp ((CapView.capStopped hv hc).trans hs)
      ((CapView.slopeOk hv hc _).trans hk) (by rw [CapView.cap hv hc, CapView.now_eq hv]; exact hb)
      ((CapView.gb hv hc (by decide)).trans ho) ((CapView.g hv hc (by decide)).trans hm)
      ((CapView.gb hv hc (by decide)).trans hw) (by rw [CapView.cap hv hc]; exact hy)
    rw [CapView.cap hv hc, CapView.stampAt hv hc (by decide)] at this
    exact this

@[simp] theorem Dev.link_setLink_same (d : Dev) (k : Nat) (v : LinkSt) : (d.setLink k v).link k = v :=
  Tab.get_set_same (fun _ => ({} : LinkSt)) _ _ _

theorem Dev.link_setLink_ne (d : Dev) {k j : Nat} (v : LinkSt) (hj : j ≠ k) : (d.setLink k v).link j = d.link j :=
  Tab.get_set_ne (fun _ => ({} : LinkSt)) _ _ _ _ hj

theorem Dev.setLink_tbs (d : Dev) (k : Nat) (v : LinkSt) : (d.setLink k v).tbs = d.tbs := rfl

/-- A marker of a link that is up leaves its stamps with the link, and every other link and timebase as it was. -/
theorem markerStamped_links {d : Dev} {l : Fin 4} (hu : d.linkUp_ l.val = true) (leaves : Bool) (e0 e1 : EdgeSeen) :
    let cp := 64 + 2 * l.val + bitOf leaves
    let st := d.markSeen (d.markTaken cp e0 e1) cp
    (markerStamped l.val leaves e0 e1 d).link l.val = (if leaves then { d.link l.val with t1 := st } else { d.link l.val with t4 := st }) ∧
      (∀ k, k ≠ l.val → (markerStamped l.val leaves e0 e1 d).link k = d.link k) ∧
      (markerStamped l.val leaves e0 e1 d).tbs = d.tbs := by
  intro cp st
  rw [markerStamped_up hu]
  exact ⟨Dev.link_setLink_same _ _ _, fun k hk => (Dev.link_setLink_ne _ _ hk).trans (d.markTaken_link cp e0 e1 k),
    (d.markTaken_captures cp e0 e1).tbs⟩

/-! ### Path compensation -/

/-- The compensation of one point named (R121). -/
def pathStep (h : Half) (e : Dev) (x : Nat × Int) : Dev :=
  if 80 ≤ x.1 || e.capStopped h x.1 then e else { e with pathComp := tset 0 e.pathComp (h.num * 80 + x.1) x.2 }

theorem pathStep_rest (h : Half) (e : Dev) (x : Nat × Int) (t : Tab Int) :
    { pathStep h e x with pathComp := t } = { e with pathComp := t } := by
  unfold pathStep
  split
  · rfl
  · rfl

theorem pathsCompensated_rest (h : Half) (ps : List (Nat × Int)) (d : Dev) (t : Tab Int) :
    { pathsCompensated h ps d with pathComp := t } = { d with pathComp := t } :=
  foldl_keeps (g := fun e : Dev => ({ e with pathComp := t } : Dev)) (fun e x => pathStep_rest h e x t) ps d

theorem pathStep_same (h : Half) (e : Dev) {k : Nat} (hk : k < 80) (v : Int) :
    tget 0 (pathStep h e (k, v)).pathComp (h.num * 80 + k) =
      if e.capStopped h k then tget 0 e.pathComp (h.num * 80 + k) else v := by
  unfold pathStep
  rw [decide_eq_false (Nat.not_le.2 hk), Bool.false_or]
  split
  · rfl
  · exact Tab.get_set_same _ _ _ _

theorem pathStep_ne (h : Half) (e : Dev) {k : Nat} {x : Nat × Int} (hx : x.1 ≠ k) :
    tget 0 (pathStep h e x).pathComp (h.num * 80 + k) = tget 0 e.pathComp (h.num * 80 + k) := by
  unfold pathStep
  split
  · rfl
  · exact Tab.get_set_ne (fun _ => (0 : Int)) _ _ _ _ (by omega)

theorem pathStep_stopped (h : Half) (e : Dev) (x : Nat × Int) (k : Nat) : (pathStep h e x).capStopped h k = e.capStopped h k := by
  unfold pathStep
  split
  · rfl
  · rfl

/-- The last compensation named of a point stands, unless the point is stopped. -/
theorem pathsCompensated_get (h : Half) (ps : List (Nat × Int)) {k : Nat} (hk : k < 80) (d : Dev) :
    tget 0 (pathsCompensated h ps d).pathComp (h.num * 80 + k) =
      match ps.reverse.find? (fun x => x.1 == k) with
      | some x => if d.capStopped h k then tget 0 d.pathComp (h.num * 80 + k) else x.2
      | none => tget 0 d.pathComp (h.num * 80 + k) := by
  have hrun : ∀ l : List (Nat × Int), pathsCompensated h l d = l.foldl (pathStep h) d := fun _ => rfl
  induction ps using List.reverseRecOn with
  | nil => rfl
  | append_singleton ps x ih =>
    have hst : (pathsCompensated h ps d).capStopped h k = d.capStopped h k :=
      foldl_keeps (g := fun e : Dev => e.capStopped h k) (fun e y => pathStep_stopped h e y k) ps d
    rw [hrun, List.foldl_append, List.foldl_cons, List.foldl_nil, ← hrun, List.reverse_append, List.reverse_singleton,
      List.singleton_append]
    by_cases hx : x.1 = k
    · obtain ⟨i, v⟩ := x
      subst hx
      rw [List.find?_cons_of_pos (by simp), pathStep_same h _ hk, hst]
      dsimp only
      split
      · rename_i hs
        rw [ih]
        split
        · exact if_pos hs
        · rfl
      · rfl
    · rw [List.find?_cons_of_neg (by simpa using hx), pathStep_ne h _ hx, ih]

/-- Settles O31: the word clock and the marker go through each half's own unit, and the compensation named last of a running
point stands. -/
theorem internalPointsAreStamped : Obligations.InternalPointsAreStamped := by
  unfold Obligations.InternalPointsAreStamped
  refine ⟨fun p tx words ce0 ce1 h s => ?_, fun l leaves e0 e1 s hu => ?_, fun l leaves e0 e1 s hu => ?_, fun h ps s => ?_⟩
  · intro cp hs ho
    obtain ⟨hst, hec, heq⟩ := wordClockTracked_unit p tx words ce0 ce1 h rfl hs ho
    exact ⟨s.onDev fun d => wordClockTracked p.val tx words ce0 ce1 d, rfl, hst, hec, heq,
      wordClockTracked_tbs p tx words ce0 ce1 s.dev, rfl, rfl⟩
  · intro cp d st
    have hcp : 20 ≤ cp ∧ cp < 80 := by
      have := bitOf_le_one leaves
      simp only [cp]
      omega
    obtain ⟨hl, hne, htb⟩ := markerStamped_links (d := s.dev) hu leaves e0 e1
    refine ⟨s.withDev (markerStamped l.val leaves e0 e1 s.dev), rfl, hl, fun h hs hk hb ho hm hw hy => ?_, fun k _ hk => hne k hk,
      htb, rfl, rfl⟩
    have hseen := markSeen_of (d := s.dev) (h := h) (cp := cp) hcp.1 hcp.2 (e0 := e0) (e1 := e1) rfl hs hk hb ho hm hw hy
    cases h with
    | warp => exact hseen
    | weft => exact hseen
  · have hm : markerStamped l.val leaves e0 e1 s.dev = s.dev := by
      unfold markerStamped
      rw [hu]
      rfl
    exact next_onDev hm
  · exact ⟨s.onDev fun d => pathsCompensated h ps d, rfl, fun k hk => pathsCompensated_get h ps hk s.dev,
      pathsCompensated_rest h ps s.dev s.dev.pathComp, rfl, rfl⟩

end Sys2Proof.Machine
end

section
/-! SUPPORT. A candidate's state and faults (R129 to R133): what each move of them leaves in its registers and its engine. -/

namespace Sys2Proof.Machine

section
variable (d : Dev) (h : Half) (c : Nat)

@[simp] theorem Dev.cand_setCand_same (u : Cand) : (d.setCand h c u).cand h c = u := Tab.get_set_same (fun _ => ({} : Cand)) _ _ _

theorem Dev.g_setCand (g : Half) (u : Cand) (b : Nat) (f : Fld) : (d.setCand g c u).g b f = d.g b f := rfl

theorem Dev.cand_p (b : Nat) (f : Fld) (v : Nat) : (d.p b f v).cand h c = d.cand h c := rfl

theorem Dev.cand_raise (pg k : Nat) : (d.raise pg k).cand h c = d.cand h c := rfl

theorem suspect_ne (o : Nat) (hc : c < 64) (ho : o < 0x40) : refQ h c + o ≠ selPg h + 0x504 :=
  ne_of_inBlock (inBlock_refQ h hc ho) (inBlock_selPg h (by decide))

/-- A register of a candidate that shows neither its state nor its faults. -/
theorem candBlind_field (hc : c < 30) {f : Fld} (hf : f.off < 0x40) (hs : f.off ≠ 0x20) :
    CandBlind (fun d => d.g (refQ h c) f) h c where
  fault d v := d.g_p_apart (refQ h c) v (by decide) (.inl hs)
  state d v := d.g_p_apart (refQ h c) v (by decide) (.inl hs)
  suspect d v := d.g_setw_ne _ (suspect_ne h c f.off (by omega) hf)
  engine _ _ := rfl
  event _ _ := rfl

/-- The engines that a candidate's moves leave alone. -/
theorem candHidden_tbs : CandHidden Dev.tbs h c :=
  ⟨fun d _ _ _ => d.p_tbs _ _ _, fun d _ => d.setw_tbs _ _, fun _ _ => rfl, fun d _ _ => d.raise_tbs _ _⟩

theorem candHidden_caps : CandHidden Dev.caps h c :=
  ⟨fun d _ _ _ => d.p_caps _ _ _, fun d _ => d.setw_caps _ _, fun _ _ => rfl, fun d _ _ => d.raise_caps _ _⟩

/-! ### The state -/

section
variable (hc : c < 30) (v : Nat)
include hc

theorem putCstate_cstate : (d.putCstate h c v).cstate h c = v % 8 := by
  have h1 := d.g_p_same (refQ h c) Reg.REF.CSTAT_STATE v (by decide)
  exact (Dev.g_setw_ne _ _ (suspect_ne h c _ (by omega) (by decide))).trans h1

theorem putCstate_fault : (d.putCstate h c v).g (refQ h c) Reg.REF.CSTAT_FAULT = d.g (refQ h c) Reg.REF.CSTAT_FAULT := by
  have h1 : (d.p (refQ h c) Reg.REF.CSTAT_STATE v).g (refQ h c) Reg.REF.CSTAT_FAULT = d.g (refQ h c) Reg.REF.CSTAT_FAULT :=
    d.g_p_apart _ _ (by decide) (by decide)
  exact (Dev.g_setw_ne _ _ (suspect_ne h c _ (by omega) (by decide))).trans h1

end

/-- Beyond its votes and its gap, a candidate's engine is not told of its state. -/
theorem putCstate_cand (v : Nat) : ∃ r p g, (d.putCstate h c v).cand h c = { d.cand h c with voteRun := r, votePh := p, gap := g } :=
  ⟨_, _, _, Dev.cand_setCand_same _ h c _⟩

/-! ### The faults -/

theorem putFaults_fault (hc : c < 30) (f : Nat) :
    (d.putFaults h c f).g (refQ h c) Reg.REF.CSTAT_FAULT = f % 256 := by
  have h1 : (d.p (refQ h c) Reg.REF.CSTAT_FAULT f).g (refQ h c) Reg.REF.CSTAT_FAULT = f % 256 :=
    d.g_p_same (refQ h c) Reg.REF.CSTAT_FAULT f (by decide)
  have h2 (v : Nat) := (putCstate_fault (d.p (refQ h c) Reg.REF.CSTAT_FAULT f) h c hc v).trans h1
  unfold Dev.putFaults
  dsimp only
  split_ifs
  exacts [h1, h1, h2 1, h2 3, h2 2, h1]

/-- Whatever a fault does to a candidate's state, its monitors keep what they hold. -/
theorem putFaults_cand (f : Nat) : ∃ r p g t,
    (d.putFaults h c f).cand h c = { d.cand h c with voteRun := r, votePh := p, gap := g, holdAt := t } := by
  have h2 (v : Nat) := putCstate_cand (d.p (refQ h c) Reg.REF.CSTAT_FAULT f) h c v
  unfold Dev.putFaults
  dsimp only
  split_ifs
  · exact ⟨_, _, _, _, rfl⟩
  · exact ⟨_, _, _, _, rfl⟩
  · obtain ⟨r, p, g, he⟩ := h2 1
    exact ⟨r, p, g, _, he⟩
  · obtain ⟨r, p, g, he⟩ := h2 3
    exact ⟨r, p, g, _, he⟩
  · obtain ⟨r, p, g, he⟩ := h2 2
    refine ⟨r, p, g, d.schedCount, (Dev.cand_setCand_same _ h c _).trans ?_⟩
    rw [he]
    rfl
  · exact ⟨_, _, _, _, rfl⟩

/-- Faults of a candidate that is QUALIFYING: it fails with any, and goes on without. -/
theorem putFaults_qualifying {d : Dev} {h : Half} {c : Nat} (hc : c < 30) (hq : d.cstate h c = 2) (f : Nat) :
    (d.putFaults h c f).cstate h c = (if f % 256 = 0 then 2 else 1) ∧
      ((d.putFaults h c f).cand h c).holdAt = (d.cand h c).holdAt := by
  have h1 : (d.p (refQ h c) Reg.REF.CSTAT_FAULT f).cstate h c = 2 :=
    (d.g_p_apart (f' := Reg.REF.CSTAT_STATE) _ _ (by decide) (by decide)).trans hq
  unfold Dev.putFaults
  dsimp only
  have h20 : ¬ (2 : Nat) = 0 := by decide
  have h21 : ¬ (2 : Nat) = 1 := by decide
  rw [hq, if_neg h20]
  by_cases hf : f % 256 = 0
  · rw [if_neg (not_not.2 hf), if_neg h21, if_pos hf]
    exact ⟨h1, rfl⟩
  · rw [if_pos hf, if_neg h21, if_neg hf]
    obtain ⟨r, p, g, he⟩ := putCstate_cand (d.p (refQ h c) Reg.REF.CSTAT_FAULT f) h c 1
    have ht := congrArg Cand.holdAt he
    exact ⟨putCstate_cstate _ h c hc 1, ht⟩

end

/-- A fault set or cleared shows as its bit. -/
theorem putFault_bit (d : Dev) (h : Half) {c : Nat} (hc : c < 30) {bit : Nat} (hb : bit < 8) (v : Bool) :
    bitAt ((d.putFault h c bit v).g (refQ h c) Reg.REF.CSTAT_FAULT) bit = v := by
  have hg : getBits (withFault (d.g (refQ h c) Reg.REF.CSTAT_FAULT) bit v % 256) bit 1 = bitOf v := by
    have h1 : getBits (withFault (d.g (refQ h c) Reg.REF.CSTAT_FAULT) bit v) bit 1 = bitOf v % 2 ^ 1 := getBits_setBits_same _ _ _ _
    have h2 : bitOf v % 2 ^ 1 = bitOf v := bitOf_mod v 1 (by decide)
    rw [h2] at h1
    rw [← h1]
    unfold getBits
    interval_cases bit <;> omega
  unfold Dev.putFault
  rw [putFaults_fault d h c hc]
  show (getBits _ bit 1 == 1) = v
  rw [hg]
  cases v <;> rfl

/-! ### EN written and the quality of HOLD -/

section
variable {d : Dev} {h : Half} {c : Nat} (hc : c < 30)
include hc

/-- The candidate just enabled, before its faults are taken afresh (R130). -/
def Dev.candEnabled (d : Dev) (h : Half) (c : Nat) : Dev :=
  let e := (monitorsRestart h c (d.pb (refQ h c) Reg.REF.CTRL_EN true)).putCstate h c 2
  e.setCand h c { e.cand h c with holdAt := d.schedCount }

omit hc in
theorem refEnWritten_on (hp : d.enabled (refPg h c) = true) (he : d.gb (refQ h c) Reg.REF.CTRL_EN = false) :
    refEnWritten h c true d = candRefresh h c (d.candEnabled h c) := by
  unfold refEnWritten
  dsimp only
  rw [he, hp]
  rfl

theorem monitorsRestart_field {f : Fld} (hf : f.off < 0x40) (hs : f.off ≠ 0x20) (hm : f.off ≠ 0x34) :
    (monitorsRestart h c d).g (refQ h c) f = d.g (refQ h c) f := by
  unfold monitorsRestart
  refine (putFaults_blind (candBlind_field h c hc hf hs) _ _).trans ?_
  rw [Dev.g_setCand]
  exact d.g_p_apart _ _ (by decide) (.inl hm)

theorem monitorsRestart_level : (monitorsRestart h c d).g (refQ h c) Reg.REF.MONLVL = 0 := by
  unfold monitorsRestart
  refine (putFaults_blind (candBlind_field h c hc (f := Reg.REF.MONLVL) (by decide) (by decide)) _ _).trans ?_
  rw [Dev.g_setCand]
  exact d.g_p_same _ _ _ (by decide)

omit hc in
theorem monitorsRestart_failTo : ((monitorsRestart h c d).cand h c).failTo = none := by
  unfold monitorsRestart
  extract_lets cp u old d1 f
  obtain ⟨r, p, g, t, he⟩ := putFaults_cand d1 h c (withFault (withFault f faultACT false) faultFREQ false)
  rw [he]
  show (d1.cand h c).failTo = none
  exact congrArg Cand.failTo (Dev.cand_setCand_same _ h c _)

omit hc in
theorem monitorsRestart_hidden {α : Type} {g : Dev → α} (hg : CandHidden g h c) : g (monitorsRestart h c d) = g d := by
  unfold monitorsRestart
  dsimp only
  rw [hg.putFaults, hg.engine, hg.word _ _ _ (by decide)]

omit hc in
theorem candEnabled_hidden {α : Type} {g : Dev → α} (hg : CandHidden g h c) : g (d.candEnabled h c) = g d := by
  unfold Dev.candEnabled
  dsimp only
  rw [hg.engine, hg.putCstate, monitorsRestart_hidden hg]
  exact hg.word d Reg.REF.CTRL_EN _ (by decide)

theorem candEnabled_state : (d.candEnabled h c).cstate h c = 2 := putCstate_cstate _ h c hc 2

omit hc in
theorem candEnabled_cand : ((d.candEnabled h c).cand h c).holdAt = d.schedCount ∧ ((d.candEnabled h c).cand h c).failTo = none := by
  unfold Dev.candEnabled
  extract_lets e
  rw [Dev.cand_setCand_same]
  refine ⟨rfl, ?_⟩
  obtain ⟨r, p, g, he⟩ := putCstate_cand (monitorsRestart h c (d.pb (refQ h c) Reg.REF.CTRL_EN true)) h c 2
  show (e.cand h c).failTo = none
  rw [show e.cand h c = _ from he]
  exact monitorsRestart_failTo

theorem candEnabled_level : (d.candEnabled h c).g (refQ h c) Reg.REF.MONLVL = 0 :=
  (putCstate_blind (candBlind_field h c hc (f := Reg.REF.MONLVL) (by decide) (by decide)) _ 2).trans (monitorsRestart_level hc)

theorem candEnabled_en : (d.candEnabled h c).gb (refQ h c) Reg.REF.CTRL_EN = true := by
  have h1 : (d.candEnabled h c).g (refQ h c) Reg.REF.CTRL_EN = (d.pb (refQ h c) Reg.REF.CTRL_EN true).g (refQ h c) Reg.REF.CTRL_EN :=
    (putCstate_blind (candBlind_field h c hc (f := Reg.REF.CTRL_EN) (by decide) (by decide)) _ 2).trans
      (monitorsRestart_field hc (by decide) (by decide) (by decide))
  have h2 := d.gb_pb_same (refQ h c) Reg.REF.CTRL_EN true (by decide) (by decide)
  unfold Dev.gb at *
  rw [h1]
  exact h2

omit hc in
/-- Faults taken afresh are faults put. -/
theorem candRefresh_faults (d : Dev) (h : Half) (c : Nat) : ∃ f, candRefresh h c d = (slipEnded h c d).putFaults h c f := ⟨_, rfl⟩

/-- A candidate just enabled is QUALIFYING or, with a fault, FAILED, with its timer from now. -/
theorem candRefresh_enabled :
    let e := candRefresh h c (d.candEnabled h c)
    e.cstate h c = (if e.g (refQ h c) Reg.REF.CSTAT_FAULT = 0 then 2 else 1) ∧ (e.cand h c).holdAt = d.schedCount := by
  intro e
  have hslip : slipEnded h c (d.candEnabled h c) = d.candEnabled h c := by
    unfold slipEnded
    dsimp only
    rw [candEnabled_cand.2]
  obtain ⟨f, hf⟩ := candRefresh_faults (d.candEnabled h c) h c
  rw [hslip] at hf
  obtain ⟨h1, h2⟩ := putFaults_qualifying hc (candEnabled_state (d := d) (h := h) hc) f
  rw [show e = _ from hf, putFaults_fault _ _ _ hc]
  exact ⟨h1, h2.trans candEnabled_cand.1⟩

end

end Sys2Proof.Machine
end

section
/-! PROOF. Candidates enabled, monitored and qualified (R130 to R133): O32. -/

namespace Sys2Proof.Machine

/-- Two devices differ in words and events of two lists at most, and in candidates. -/
def Dev.touchesCands (d e : Dev) (ws es : List Nat) : Prop := d.touches { e with cands := d.cands } ws es

theorem Dev.touchesCands.onlyTouches {s t : State} {d : Dev} {ws es : List Nat} (ht : s.dev.touchesCands d ws es) (hd : t = s.withDev d) :
    s.onlyTouches { t with dev := { t.dev with cands := s.dev.cands } } ws es := by
  subst hd
  obtain ⟨hw, he, hu⟩ := ht
  exact ⟨hw, he, hu, rfl, rfl⟩

section
variable {d e : Dev} {ws es : List Nat} (ht : d.touchesCands e ws es)
include ht

theorem Dev.touchesCands.setw {a : Nat} (hm : a ∈ ws) (v : Nat) : d.touchesCands (e.setw a v) ws es :=
  Dev.touches.setw (e := { e with cands := d.cands }) ht hm v

theorem Dev.touchesCands.p {b : Nat} {f : Fld} (hm : b + f.off ∈ ws) (v : Nat) : d.touchesCands (e.p b f v) ws es := ht.setw hm _

theorem Dev.touchesCands.setCand (h : Half) (c : Nat) (u : Cand) : d.touchesCands (e.setCand h c u) ws es := ht

theorem Dev.touchesCands.putCstate {h : Half} {c : Nat} (hq : refQ h c + 0x20 ∈ ws) (hs : selPg h + 0x504 ∈ ws) (v : Nat) :
    d.touchesCands (e.putCstate h c v) ws es :=
  ((ht.p (f := Reg.REF.CSTAT_STATE) hq v).setw hs _).setCand h c _

end

theorem refEnWritten_off {d : Dev} {h : Half} {c : Nat} (hp : d.enabled (refPg h c) = true)
    (he : d.gb (refQ h c) Reg.REF.CTRL_EN = true) :
    refEnWritten h c false d = (d.pb (refQ h c) Reg.REF.CTRL_EN false).putCstate h c 0 := by
  unfold refEnWritten
  dsimp only
  rw [he, hp]
  rfl

/-- EN cleared (R130). -/
theorem refEnWritten_off_shows {d0 d : Dev} {h : Half} {c : Nat} (hc : c < 30) (hp : d.enabled (refPg h c) = true)
    (he : d.gb (refQ h c) Reg.REF.CTRL_EN = true) (ht : d0.touches d [refQ h c, refQ h c + 0x20, selPg h + 0x504] [])
    (hd : d.cands = d0.cands) :
    (refEnWritten h c false d).gb (refQ h c) Reg.REF.CTRL_EN = false ∧ (refEnWritten h c false d).cstate h c = 0 ∧
      d0.touchesCands (refEnWritten h c false d) [refQ h c, refQ h c + 0x20, selPg h + 0x504] [] := by
  rw [refEnWritten_off hp he]
  have h1 := putCstate_blind (candBlind_field h c hc (f := Reg.REF.CTRL_EN) (by decide) (by decide))
    (d.pb (refQ h c) Reg.REF.CTRL_EN false) 0
  have h2 : d0.touchesCands d [refQ h c, refQ h c + 0x20, selPg h + 0x504] [] := by
    unfold Dev.touchesCands
    rw [← hd]
    exact ht
  exact ⟨(congrArg (· == 1) h1).trans (Dev.gb_pb_same _ _ _ _ (by decide) (by decide)), putCstate_cstate _ h c hc 0,
    (h2.p (f := Reg.REF.CTRL_EN) (List.mem_cons_self ..) _).putCstate (List.mem_cons_of_mem _ (List.mem_cons_self ..))
      (List.mem_cons_of_mem _ (List.mem_cons_of_mem _ (List.mem_singleton_self _))) 0⟩

/-- EN set (R130). -/
theorem refEnWritten_on_shows {d : Dev} {h : Half} {c : Nat} (hc : c < 30) (hp : d.enabled (refPg h c) = true)
    (he : d.gb (refQ h c) Reg.REF.CTRL_EN = false) :
    let e := refEnWritten h c true d
    e.gb (refQ h c) Reg.REF.CTRL_EN = true ∧ e.g (refQ h c) Reg.REF.MONLVL = 0 ∧ (e.cand h c).holdAt = d.schedCount ∧
      e.cstate h c = (if e.g (refQ h c) Reg.REF.CSTAT_FAULT = 0 then 2 else 1) ∧ e.tbs = d.tbs ∧ e.caps = d.caps := by
  dsimp only
  rw [refEnWritten_on hp he]
  obtain ⟨h1, h2⟩ := candRefresh_enabled (d := d) (h := h) hc
  have hk {α : Type} {g : Dev → α} (hg : CandHidden g h c) : g (candRefresh h c (d.candEnabled h c)) = g d :=
    (hg.candRefresh _).trans (candEnabled_hidden hg)
  have hen := candRefresh_blind (candBlind_field h c hc (f := Reg.REF.CTRL_EN) (by decide) (by decide)) (d.candEnabled h c)
  have hlv := candRefresh_blind (candBlind_field h c hc (f := Reg.REF.MONLVL) (by decide) (by decide)) (d.candEnabled h c)
  exact ⟨(congrArg (· == 1) hen).trans (candEnabled_en hc), hlv.trans (candEnabled_level hc), h2, h1, hk (candHidden_tbs h c),
    hk (candHidden_caps h c)⟩

/-- EN of a disabled page, or EN written as it is, is the bit alone. -/
theorem refEnWritten_stored {d0 d : Dev} {h : Half} {c : Nat} {v : Bool} (ht : d0.touches d [refQ h c] [])
    (hn : d.enabled (refPg h c) = false ∨ d.gb (refQ h c) Reg.REF.CTRL_EN = v) :
    (refEnWritten h c v d).gb (refQ h c) Reg.REF.CTRL_EN = v ∧ d0.touches (refEnWritten h c v d) [refQ h c] [] := by
  unfold refEnWritten
  dsimp only
  split
  · rename_i he
    exact ⟨he, ht⟩
  · rename_i he
    rw [hn.resolve_right he]
    exact ⟨d.gb_pb_same _ _ _ (by decide) (by decide), ht.pb (List.mem_singleton_self _) v⟩

/-! ### Activity intervals and frequency windows -/

/-- The bucket's level after an activity interval (R132). -/
def Dev.amonLevel (d : Dev) (h : Half) (c : Nat) : Nat :=
  if (d.cap h ((candCp c).getD 0)).ecnt ≠ (d.cand h c).ecSeen then
    (if d.g (refQ h c) Reg.REF.AMON_DECAY ≤ (d.cand h c).run + 1 then d.g (refQ h c) Reg.REF.MONLVL - 1
      else d.g (refQ h c) Reg.REF.MONLVL)
  else min 255 (d.g (refQ h c) Reg.REF.MONLVL + 1)

theorem Dev.amonLevel_lt (d : Dev) (h : Half) (c : Nat) : d.amonLevel h c < 256 := by
  have := d.g_lt (refQ h c) Reg.REF.MONLVL
  have hl : d.g (refQ h c) Reg.REF.MONLVL < 256 := this
  unfold Dev.amonLevel
  split_ifs <;> omega

/-- The bucket noted, with the monitor's run. -/
def Dev.amonNoted (d : Dev) (h : Half) (c : Nat) (u : Cand) : Dev := (d.p (refQ h c) Reg.REF.MONLVL (d.amonLevel h c)).setCand h c u

theorem amonInterval_due {d : Dev} {h : Half} {c : Nat} (hon : d.monOn h c Reg.REF.CTRL_AMON_EN = true)
    (hdue : monDue (d.cand h c).amonAt (d.amonLength h c) (d.count .warp 0) = true) : ∃ u, amonInterval h c d =
      if d.g (refQ h c) Reg.REF.AMON_REJ ≤ d.amonLevel h c then (d.amonNoted h c u).putFault h c faultACT true
      else if d.amonLevel h c ≤ d.amonAcc h c then (d.amonNoted h c u).putFault h c faultACT false
      else d.amonNoted h c u := by
  unfold amonInterval
  rw [hon, hdue, if_neg (by decide)]
  extract_lets q old st u edges b decay run hit b1 d1
  have hb : b1 = d.amonLevel h c := by
    unfold Dev.amonLevel
    by_cases he : u.ecnt = st.ecSeen
    · have hed : edges = false := by simp [edges, he]
      simp only [b1, hed]
      rw [if_neg (not_not.2 he)]
      rfl
    · have hed : edges = true := by simp [edges, he]
      have hrun : run = (d.cand h c).run + 1 := by simp only [run, hed]; rfl
      rw [if_pos he]
      have hhit : hit = decide (d.g (refQ h c) Reg.REF.AMON_DECAY ≤ (d.cand h c).run + 1) := by
        simp only [hit, hed, Bool.true_and, decide_eq_decide, hrun]
        exact ⟨fun hm => (Nat.le_max_right _ _).trans hm, fun hm => Nat.max_le.2 ⟨Nat.le_add_left _ _, hm⟩⟩
      simp only [b1, hed, if_true, hhit, decide_eq_true_eq]
      rfl
  have hd1 : d1 = d.amonNoted h c { st with run := if hit then 0 else run, ecSeen := u.ecnt } := by
    unfold Dev.amonNoted
    rw [← hb]
  exact ⟨_, by rw [hd1, hb]⟩

theorem Dev.amonNoted_level (d : Dev) (h : Half) (c : Nat) (u : Cand) :
    (d.amonNoted h c u).g (refQ h c) Reg.REF.MONLVL = d.amonLevel h c :=
  (d.g_p_same (refQ h c) Reg.REF.MONLVL (d.amonLevel h c) (by decide)).trans (Nat.mod_eq_of_lt (d.amonLevel_lt h c))

theorem Dev.amonNoted_fault (d : Dev) (h : Half) (c : Nat) (u : Cand) :
    (d.amonNoted h c u).g (refQ h c) Reg.REF.CSTAT_FAULT = d.g (refQ h c) Reg.REF.CSTAT_FAULT :=
  d.g_p_apart _ _ (by decide) (by decide)

theorem Dev.amonNoted_hidden {α : Type} {g : Dev → α} {h : Half} {c : Nat} (hg : CandHidden g h c) (d : Dev) (u : Cand) :
    g (d.amonNoted h c u) = g d := (hg.engine _ u).trans (hg.word d Reg.REF.MONLVL _ (by decide))

/-- What an activity interval that is over leaves (R132). -/
theorem amonInterval_shows {d : Dev} {h : Half} {c : Nat} (hc : c < 30) (hon : d.monOn h c Reg.REF.CTRL_AMON_EN = true)
    (hdue : monDue (d.cand h c).amonAt (d.amonLength h c) (d.count .warp 0) = true) :
    let e := amonInterval h c d
    let q := refQ h c
    let b := d.amonLevel h c
    e.g q Reg.REF.MONLVL = b ∧ (d.g q Reg.REF.AMON_REJ ≤ b → bitAt (e.g q Reg.REF.CSTAT_FAULT) faultACT = true) ∧
      (b < d.g q Reg.REF.AMON_REJ → b ≤ d.amonAcc h c → bitAt (e.g q Reg.REF.CSTAT_FAULT) faultACT = false) ∧
      (b < d.g q Reg.REF.AMON_REJ → d.amonAcc h c < b → e.g q Reg.REF.CSTAT_FAULT = d.g q Reg.REF.CSTAT_FAULT) ∧
      e.tbs = d.tbs ∧ e.caps = d.caps := by
  intro e q b
  obtain ⟨u, hu⟩ := amonInterval_due hon hdue
  have hl := d.amonNoted_level h c u
  have hf := d.amonNoted_fault h c u
  have ht := Dev.amonNoted_hidden (candHidden_tbs h c) d u
  have hk := Dev.amonNoted_hidden (candHidden_caps h c) d u
  have hlv (v : Bool) : ((d.amonNoted h c u).putFault h c faultACT v).g (refQ h c) Reg.REF.MONLVL = d.amonLevel h c :=
    (putFaults_blind (candBlind_field h c hc (f := Reg.REF.MONLVL) (by decide) (by decide)) _ _).trans hl
  rw [show e = _ from hu]
  by_cases h1 : d.g q Reg.REF.AMON_REJ ≤ b
  · rw [if_pos h1]
    exact ⟨hlv true, fun _ => putFault_bit _ h hc (by decide) true, fun hn => absurd h1 (Nat.not_le.2 hn),
      fun hn => absurd h1 (Nat.not_le.2 hn), ((candHidden_tbs h c).putFault _ _ _).trans ht,
      ((candHidden_caps h c).putFault _ _ _).trans hk⟩
  · rw [if_neg h1]
    by_cases h2 : b ≤ d.amonAcc h c
    · rw [if_pos h2]
      exact ⟨hlv false, fun hn => absurd hn h1, fun _ _ => putFault_bit _ h hc (by decide) false,
        fun _ hn => absurd h2 (Nat.not_le.2 hn), ((candHidden_tbs h c).putFault _ _ _).trans ht,
        ((candHidden_caps h c).putFault _ _ _).trans hk⟩
    · rw [if_neg h2]
      exact ⟨hl, fun hn => absurd hn h1, fun _ hn => absurd hn h2, fun _ _ => hf, ht, hk⟩

/-- A frequency window noted (R133). -/
def Dev.fofsNoted (d : Dev) (h : Half) (c : Nat) (v : Int) (u : Cand) : Dev :=
  (d.p (refQ h c) Reg.REF.FOFS (unsignedOf 32 v)).setCand h c u

/-- A frequency window that is over with two stamps gives FOFS and the FREQ fault. -/
theorem fmonWindow_measured {d : Dev} {h : Half} {c : Nat} {w : Nat × Nat} {x : Nat}
    (hon : d.monOn h c Reg.REF.CTRL_FMON_EN = true) (hdue : d.fmonDue h c = true) (hw : (d.cand h c).fwin = some w)
    (hx : (d.cap h ((candCp c).getD 0)).stamp0 = some x) (hlt : w.1 < x) :
    let u := d.cap h ((candCp c).getD 0)
    let st := d.cand h c
    let rej := d.g (refQ h c) Reg.REF.FMON_REJ
    let acc := if rej ≤ d.g (refQ h c) Reg.REF.FMON_ACC then rej - 1 else d.g (refQ h c) Reg.REF.FMON_ACC
    let f := fofsOf ((u.stampEc + 2 ^ 32 - w.2) % 2 ^ 32) (x - w.1) (d.nomFreq h c)
    let bad := decide (rej * 1000 < f.natAbs) || st.freqBad && decide (acc * 1000 < f.natAbs)
    ∃ v slips, v.fwin = some (x, u.stampEc) ∧ v.freqBad = bad ∧ (st.failTo = none → slips = false) ∧
      fmonWindow h c d = (d.fofsNoted h c f v).putFault h c faultFREQ (bad || slips) := by
  intro u st rej acc f bad
  unfold fmonWindow
  rw [hon, hdue, if_neg (by decide)]
  dsimp only
  rw [hw, hx]
  dsimp only
  rw [if_neg (Nat.not_le.2 hlt)]
  refine ⟨_, _, rfl, rfl, fun hn => ?_, rfl⟩
  rw [hn]

/-- A frequency window that is over for the first time begins the next. -/
theorem fmonWindow_first {d : Dev} {h : Half} {c : Nat} (hon : d.monOn h c Reg.REF.CTRL_FMON_EN = true)
    (hdue : d.fmonDue h c = true) (hw : (d.cand h c).fwin = none) : ∃ v, fmonWindow h c d = d.setCand h c v ∧
      v.fwin = (d.cap h ((candCp c).getD 0)).stamp0.map fun x => (x, (d.cap h ((candCp c).getD 0)).stampEc) := by
  unfold fmonWindow
  rw [hon, hdue, if_neg (by decide)]
  dsimp only
  rw [hw]
  cases hx : (d.cap h ((candCp c).getD 0)).stamp0 with
  | none => exact ⟨_, rfl, rfl⟩
  | some x => exact ⟨_, rfl, rfl⟩

/-- A monitor that does not run, or whose time is not over. -/
theorem amonInterval_idle {d : Dev} {h : Half} {c : Nat} (hn : d.monOn h c Reg.REF.CTRL_AMON_EN = false ∨
    monDue (d.cand h c).amonAt (d.amonLength h c) (d.count .warp 0) = false) : amonInterval h c d = d := by
  unfold amonInterval
  refine if_pos ?_
  rcases hn with hn | hn <;> rw [hn] <;> simp

theorem fmonWindow_idle {d : Dev} {h : Half} {c : Nat}
    (hn : d.monOn h c Reg.REF.CTRL_FMON_EN = false ∨ d.fmonDue h c = false) : fmonWindow h c d = d := by
  unfold fmonWindow
  refine if_pos ?_
  rcases hn with hn | hn <;> rw [hn] <;> simp

theorem Dev.fofsNoted_hidden {α : Type} {g : Dev → α} {h : Half} {c : Nat} (hg : CandHidden g h c) (d : Dev) (f : Int) (u : Cand) :
    g (d.fofsNoted h c f u) = g d := by
  unfold Dev.fofsNoted
  rw [hg.engine, hg.word _ _ _ (by decide)]

/-- What a frequency window that is over leaves (R133). -/
theorem fofsNoted_shows (d : Dev) (h : Half) {c : Nat} (hc : c < 30) (f : Int) (v : Cand) (bad : Bool) :
    let e := (d.fofsNoted h c f v).putFault h c faultFREQ bad
    e.g (refQ h c) Reg.REF.FOFS = unsignedOf 32 f ∧ (e.cand h c).freqBad = v.freqBad ∧ (e.cand h c).fwin = v.fwin ∧
      bitAt (e.g (refQ h c) Reg.REF.CSTAT_FAULT) faultFREQ = bad ∧ e.tbs = d.tbs ∧ e.caps = d.caps := by
  intro e
  have hf : (d.fofsNoted h c f v).g (refQ h c) Reg.REF.FOFS = unsignedOf 32 f := by
    unfold Dev.fofsNoted
    rw [Dev.g_setCand, Dev.g_p_same _ _ _ _ (by decide)]
    exact Nat.mod_eq_of_lt (unsignedOf_lt 32 f)
  obtain ⟨r, p, g, t, hcand⟩ := putFaults_cand (d.fofsNoted h c f v) h c
    (withFault ((d.fofsNoted h c f v).g (refQ h c) Reg.REF.CSTAT_FAULT) faultFREQ bad)
  have hv : (d.fofsNoted h c f v).cand h c = v := Dev.cand_setCand_same _ h c v
  rw [hv] at hcand
  have hb := congrArg Cand.freqBad hcand
  have hw := congrArg Cand.fwin hcand
  exact ⟨(putFaults_blind (candBlind_field h c hc (f := Reg.REF.FOFS) (by decide) (by decide)) _ _).trans hf, hb, hw,
    putFault_bit _ h hc (by decide) bad, ((candHidden_tbs h c).putFault _ _ _).trans (Dev.fofsNoted_hidden (candHidden_tbs h c) d f v),
    ((candHidden_caps h c).putFault _ _ _).trans (Dev.fofsNoted_hidden (candHidden_caps h c) d f v)⟩

/-! ### HOLD -/

theorem inBlock_dplL (h : Half) {k o : Nat} (hk : k < 16) (ho : o < 0x100) : inBlock .dpl (dplL h k + o) := by
  have := inBlock_pageAddr .dpl h (i := k / 4) (o := 0x100 + 0x80 * (k % 4) + o) (by omega)
  rwa [← Nat.add_assoc, ← Nat.add_assoc] at this

/-- A loop that enters HOLD_ATOMIC changes its own words and its own engine. -/
theorem holdAtomic_keeps {α : Type} {g : Dev → α} {h : Half} {k : Nat}
    (hp : ∀ x f v, f.off < 0x100 → g (x.p (dplL h k) f v) = g x) (hl : ∀ x v, g (x.setLoop h k v) = g x) (d : Dev) :
    g (d.holdAtomic h k) = g d := by
  unfold Dev.holdAtomic
  extract_lets b old d1
  have h1 : g d1 = g d := (hl _ _).trans (hp d Reg.DPL.LSTAT_HMODE 1 (by decide))
  refine keeps_ite h1 ?_
  exact (hp _ Reg.DPL.LSTAT_FREQ_ONLY _ (by decide)).trans ((hp _ Reg.DPL.LSTAT_INPUT _ (by decide)).trans h1)

theorem holdSourceBack_keeps {α : Type} {g : Dev → α} {h : Half}
    (hp : ∀ x k f v, k < 16 → f.off < 0x100 → g (x.p (dplL h k) f v) = g x) (hl : ∀ x k v, g (x.setLoop h k v) = g x) (d : Dev) :
    g (holdSourceBack h d) = g d := by
  refine Dev.each_keeps g 16 _ d fun k hk e => ?_
  split
  · exact holdAtomic_keeps (fun x f v hf => hp x k f v hk hf) (fun x v => hl x k v) e
  · rfl

/-- HOLD has passed without a fault (R130). -/
def Dev.qualified (d : Dev) (h : Half) (c : Nat) : Dev := ((d.putCstate h c 3).raise (refPg h c) (refEvt c 1)).startWtr h c

theorem qualHold_due {d : Dev} {h : Half} {c : Nat} (hq : d.cstate h c = 2)
    (hd : (d.cand h c).holdAt + d.g (refQ h c) Reg.REF.QUAL * secUnit ≤ d.schedCount) : qualHold h c d = d.qualified h c := by
  unfold qualHold
  rw [hq, decide_eq_true hd]
  rfl

theorem qualHold_idle {d : Dev} {h : Half} {c : Nat} (hn : d.cstate h c ≠ 2 ∨
    d.schedCount < (d.cand h c).holdAt + d.g (refQ h c) Reg.REF.QUAL * secUnit) : qualHold h c d = d := by
  have hb : (d.cstate h c == 2 && decide ((d.cand h c).holdAt + d.g (refQ h c) Reg.REF.QUAL * secUnit ≤ d.schedCount)) = false := by
    rcases hn with hn | hn
    · simp [hn]
    · simp [Nat.not_le.2 hn]
  unfold qualHold
  rw [hb]
  rfl

theorem evtImplemented_ref (h : Half) {c : Nat} (hc : c < 30) {k : Nat} (hk : k < 4) :
    evtImplemented (refPg h c) (refEvt c k) = true := by
  have hn := half_num_lt h
  have key : ∀ n < 2, ∀ c < 30, ∀ k < 4, evtImplemented (0x100000 + n * 0x8000 + c / 8 * 0x1000) (4 * (c % 8) + k) = true := by
    decide +kernel
  exact key h.num hn c hc k hk

theorem Dev.qualified_shows (d : Dev) (h : Half) {c : Nat} (hc : c < 30) :
    (d.qualified h c).cstate h c = 3 ∧
      (d.qualified h c).evt (refPg h c) (refEvt c 1) = (d.evt (refPg h c) (refEvt c 1)).occur ∧ (d.qualified h c).tbs = d.tbs :=
  ⟨putCstate_cstate d h c hc 3, Dev.evt_raise_own (d.putCstate h c 3) (evtImplemented_ref h hc (by decide)),
    (candHidden_tbs h c).putCstate d 3⟩

/-- A candidate that does not end its hold-off changes nothing. -/
theorem qualHeld_idle {d : Dev} {h : Half} {c : Nat} (hn : d.cstate h c ≠ 2 ∨
    d.schedCount < (d.cand h c).holdAt + d.g (refQ h c) Reg.REF.QUAL * secUnit) : qualHeld h c d = d := by
  unfold qualHeld
  dsimp only
  rw [qualHold_idle hn]
  refine if_neg fun hb => ?_
  simp only [Bool.and_eq_true, bne_iff_ne, beq_iff_eq] at hb
  exact hb.1.2 hb.2

/-- What the loops of a half that go back to HOLD_ATOMIC leave. -/
theorem qualHeld_keeps {α : Type} {g : Dev → α} {h : Half} (hp : ∀ x k f v, k < 16 → f.off < 0x100 → g (x.p (dplL h k) f v) = g x)
    (hl : ∀ x k v, g (x.setLoop h k v) = g x) (c : Nat) (d : Dev) : g (qualHeld h c d) = g (qualHold h c d) := by
  unfold qualHeld
  exact keeps_ite (holdSourceBack_keeps hp hl _) rfl

/-- Settles O32: EN, the two monitors and HOLD each move the candidate's own state, and what follows leaves it. -/
theorem candidatesQualifyAndAreMonitored : Obligations.CandidatesQualifyAndAreMonitored := by
  unfold Obligations.CandidatesQualifyAndAreMonitored
  refine ⟨fun m h c s hw hp he => ?_, fun m h c s hw hp he => ?_, fun m h c v s hw hn => ?_, fun h c s => ?_, fun h c s => ?_,
    fun h c w x s hon hdue => ?_, fun h c s hon hdue => ?_, fun h c s hq hd => ?_, fun h c s hn => ?_⟩
  · obtain ⟨h1, h2, h3⟩ := refEnWritten_off_shows (d := s.dev.regAccess m (refQ h c.val)) c.isLt hp he
      (s.dev.touches_regAccess m _ _ _) rfl
    exact ⟨_, exec_of_writeAt (f := refEnWritten h c.val false) rfl hw, h1, h2, h3.onlyTouches rfl⟩
  · obtain ⟨h1, h2, h3, h4, h5, h6⟩ := refEnWritten_on_shows (d := s.dev.regAccess m (refQ h c.val)) c.isLt hp he
    exact ⟨_, exec_of_writeAt (f := refEnWritten h c.val true) rfl hw, h1, h2, h3, h4, h5, h6, rfl, rfl⟩
  · obtain ⟨h1, h2⟩ := refEnWritten_stored (d := s.dev.regAccess m (refQ h c.val)) (h := h) (c := c.val) (v := v)
      (s.dev.touches_regAccess m _ _ _) hn
    exact ⟨_, exec_of_writeAt (f := refEnWritten h c.val v) rfl hw, h1, Dev.touches.onlyTouches h2⟩
  · intro q st edges b hon hdue
    obtain ⟨h1, h2, h3, h4, h5, h6⟩ := amonInterval_shows c.isLt hon hdue
    exact ⟨s.onDev fun d => amonInterval h c.val d, rfl, h1, h2, h3, h4, h5, h6, rfl, rfl⟩
  · exact ⟨fun hn => next_onDev (amonInterval_idle hn), fun hn => next_onDev (fmonWindow_idle hn)⟩
  · intro u st rej acc hw hx hlt f
    obtain ⟨v, slips, hvw, hvb, hs, he⟩ := fmonWindow_measured hon hdue hw hx hlt
    obtain ⟨h1, h2, h3, h4, h5, h6⟩ := fofsNoted_shows s.dev h c.isLt f v (v.freqBad || slips)
    rw [← hvb] at he
    refine ⟨s.withDev (fmonWindow h c.val s.dev), rfl, ?_⟩
    rw [show (s.withDev (fmonWindow h c.val s.dev)).dev = _ from he]
    have hbit (hn : (s.dev.cand h c.val).failTo = none) : (v.freqBad || slips) = v.freqBad := by rw [hs hn, Bool.or_false]
    exact ⟨h1, h2.trans hvb, fun hn => h4.trans ((hbit hn).trans h2.symm), h3.trans hvw, h5, h6, rfl, rfl⟩
  · intro u hw
    obtain ⟨v, he, hv⟩ := fmonWindow_first hon hdue hw
    refine ⟨s.withDev (s.dev.setCand h c.val v), next_onDev he, ?_, ?_⟩
    · exact (congrArg Cand.fwin (Dev.cand_setCand_same s.dev h c.val v)).trans hv
    · exact Dev.touchesCands.onlyTouches (Dev.touchesCands.setCand (Dev.touches.refl s.dev _ _) h c.val v) rfl
  · obtain ⟨h1, h2, h3⟩ := s.dev.qualified_shows h c.isLt
    have hq' := qualHold_due hq hd
    refine ⟨s.onDev fun d => qualHeld h c.val d, rfl, ?_, ?_, fun g n => ?_, rfl, rfl⟩
    · refine (qualHeld_keeps (g := fun x => x.cstate h c.val) (fun x k f v hk hf => ?_) (fun _ _ _ => rfl) c.val s.dev).trans (hq' ▸ h1)
      exact x.g_p_ne _ _ _ _ _ (ne_of_inBlock (inBlock_refQ h (c := c.val) (o := Reg.REF.CSTAT_STATE.off) (by omega) (by decide))
        (inBlock_dplL h hk hf))
    · exact (qualHeld_keeps (g := fun x => x.evt (refPg h c.val) (refEvt c.val 1)) (fun _ _ _ _ _ _ => rfl) (fun _ _ _ => rfl)
        c.val s.dev).trans (hq' ▸ h2)
    · have ht := (qualHeld_keeps (g := Dev.tbs) (h := h) (fun x _ _ _ _ _ => x.p_tbs _ _ _) (fun _ _ _ => rfl) c.val s.dev).trans
        (hq' ▸ h3)
      unfold Dev.count Dev.tb
      exact congrArg (fun t : Tab Tbase => (tget {} t (g.num * 16 + n)).count) ht
  · exact next_onDev (qualHeld_idle hn)

end Sys2Proof.Machine
end

section
/-! SUPPORT. What the moves of a discipline loop leave (R155 to R175): whatever shows neither the loop's words, beyond its phase
error and its update counter, nor its engine, FADJ, the holdover model or their events. -/

namespace Sys2Proof.Machine

/-- An observation that no move of a loop shows in, but a phase error or an update taken. -/
structure LoopBlind {α : Type} (g : Dev → α) (h : Half) (k : Nat) : Prop where
  dpl   : ∀ d f v, f.off < 0x80 → f.off ≠ 0x24 → f.off ≠ 0x28 → f.off ≠ 0x34 → g (d.p (dplL h k) f v) = g d
  hld   : ∀ d f v, f.off < 0x200 → g (d.p (hldPg h) f v) = g d
  dplEv : ∀ d j, j < 8 → g (d.raise (dplPg h k) (dplEvt k j)) = g d
  hldEv : ∀ d j, j < 8 → g (d.raise (hldPg h) j) = g d
  tsuEv : ∀ d j, j < 8 → g (d.raise (tsuPg h k) (tbEvt k j)) = g d
  loop  : ∀ d v, g (d.setLoop h k v) = g d
  hm    : ∀ d v, g (d.setHm h v) = g d
  tb    : ∀ d x, x.count = (d.tb h k).count → g (d.setTb h k x) = g d

/-- An event that may be raised, where raising it does not show. -/
theorem raiseIf_blind {α : Type} {g : Dev → α} {d : Dev} {pg j : Nat} (hr : g (d.raise pg j) = g d) (c : Bool) :
    g (d.raiseIf c pg j) = g d := by
  cases c
  · rfl
  · exact hr

section
variable {α : Type} {g : Dev → α} {h : Half} {k : Nat} (hg : LoopBlind g h k) (d : Dev)
include hg

theorem LoopBlind.loopFadj (v : Int) : g (d.loopFadj h k v) = g d := by
  unfold Dev.loopFadj
  refine (hg.tb _ _ ?_).trans (raiseIf_blind (hg.tsuEv _ 1 (by decide)) _)
  rfl

theorem LoopBlind.loopOut (base : Int) : g (d.loopOut h k base) = g d := by
  unfold Dev.loopOut
  dsimp only
  rw [hg.loopFadj, raiseIf_blind (hg.dplEv _ 2 (by decide))]
  exact hg.dpl d Reg.DPL.LSTAT_AT_FLIM _ (by decide) (by decide) (by decide) (by decide)

theorem LoopBlind.putFest (v : Int) : g (d.putFest h k v) = g d := by
  unfold Dev.putFest Dev.ps48 Dev.p2
  dsimp only
  rw [hg.loop, hg.dpl _ _ _ (by decide) (by decide) (by decide) (by decide),
    hg.dpl _ _ _ (by decide) (by decide) (by decide) (by decide)]

theorem LoopBlind.loopTo (st stage : Nat) : g (d.loopTo h k st stage) = g d := by
  unfold Dev.loopTo
  dsimp only
  rw [raiseIf_blind (hg.dplEv _ 0 (by decide)), hg.loop, hg.dpl _ _ _ (by decide) (by decide) (by decide) (by decide),
    hg.dpl _ _ _ (by decide) (by decide) (by decide) (by decide)]

theorem LoopBlind.hldb {f : Fld} (hf : f.off < 0x200) (v : Bool) : g (d.pb (hldPg h) f v) = g d := hg.hld d f _ hf

theorem LoopBlind.dplb {f : Fld} (hf : f.off = 0x20) (v : Bool) : g (d.pb (dplL h k) f v) = g d :=
  hg.dpl d f _ (by omega) (by omega) (by omega) (by omega)

theorem LoopBlind.stat {f : Fld} (hf : f.off = 0x20) (v : Nat) : g (d.p (dplL h k) f v) = g d :=
  hg.dpl d f _ (by omega) (by omega) (by omega) (by omega)

theorem LoopBlind.modelCleared : g (d.modelCleared h) = g d := by
  unfold Dev.modelCleared Dev.p2
  dsimp only
  rw [hg.hldEv _ 3 (by decide), hg.hm, hg.hldb _ (by decide)]
  repeat rw [hg.hld _ _ _ (by decide)]

theorem LoopBlind.holdEnded : g (d.holdEnded h k) = g d := by
  unfold Dev.holdEnded
  extract_lets lp d1 d2
  have h1 : g d1 = g d := (hg.loop _ _).trans (hg.dplb d rfl _)
  have h2 : g d2 = g d := (hg.hldb _ (by decide) _).trans h1
  exact keeps_ite (keeps_ite ((hg.modelCleared d2).trans h2) h2) h1

theorem LoopBlind.holdExit : g (d.holdExit h k) = g d := by
  unfold Dev.holdExit
  rw [hg.holdEnded, raiseIf_blind (hg.hldEv _ 1 (by decide))]

theorem LoopBlind.syncCheck (i : LoopIn) : g (d.syncCheck h k i) = g d := by
  unfold Dev.syncCheck
  dsimp only
  refine keeps_ite (keeps_ite ?_ (hg.loop d _)) rfl
  rw [hg.holdExit, hg.loop]

theorem LoopBlind.holdAtomic : g (d.holdAtomic h k) = g d := by
  unfold Dev.holdAtomic
  extract_lets b old d1
  have h1 : g d1 = g d := (hg.loop _ _).trans (hg.stat d rfl 1)
  exact keeps_ite h1 ((hg.dplb _ rfl _).trans ((hg.stat _ rfl _).trans h1))

theorem LoopBlind.holdLast : g (d.holdLast h k) = g d := by
  unfold Dev.holdLast
  extract_lets b m old d1 old1
  have h1 : g d1 = g d := (hg.loop _ _).trans (hg.stat d rfl 2)
  refine keeps_ite h1 ?_
  rw [hg.loopOut, hg.loop, hg.dplb _ rfl, hg.dplb _ rfl, hg.stat _ rfl, h1]

theorem LoopBlind.holdEnter : g (d.holdEnter h k) = g d := by
  unfold Dev.holdEnter
  extract_lets b lp new d1 d2
  have h1 : g d1 = g d := (hg.loop _ _).trans (hg.stat d rfl 4)
  have h2 : g d2 = g d := keeps_ite ((hg.holdAtomic d1).trans h1) ((hg.holdLast d1).trans h1)
  exact (raiseIf_blind (hg.hldEv _ 0 (by decide)) _).trans h2

theorem LoopBlind.holdCheck : g (holdCheck h k d) = g d := by
  unfold Machine.holdCheck
  exact keeps_ite (hg.holdEnter d) rfl

theorem LoopBlind.drained (hb : ∀ x v, g (x.putBo h k v) = g x) : g (d.drained h k) = g d := by
  unfold Dev.drained
  dsimp only
  rw [hg.loop, hb]

end

/-! ### Bases of bounds and the steered ratio -/

theorem boundBases_keeps {α : Type} {g : Dev → α} {h : Half} (hp : ∀ d n f v, n < 16 → f.off < 0x20 → g (d.p (bndN h n) f v) = g d)
    (hb : ∀ d n v, g (d.setBnd h n v) = g d) (d : Dev) : g (boundBases h d) = g d := by
  refine Dev.each_keeps g 16 _ d fun n hn e => ?_
  unfold boundBasis
  extract_lets b old new src d0 bs d1
  have h0 : g d0 = g e := hp e n _ _ hn (by decide)
  have h1 : g d1 = g e := (hb _ _ _).trans ((hp _ n Reg.BND.BSTAT_BASIS _ hn (by decide)).trans h0)
  refine keeps_ite h0 (keeps_ite ?_ h1)
  unfold Dev.hold_
  exact (hp _ n Reg.BND.BSTAT_HELD_ACT _ hn (by decide)).trans ((hp _ n Reg.BND.HELD _ hn (by decide)).trans h1)

theorem ratioRefresh_keeps {α : Type} {g : Dev → α} {h : Half} (hp : ∀ d f v, f.off < 0x40 → g (d.p (aplBase h 1) f v) = g d)
    (he : ∀ d, g (d.raise (aplPg h) (aplEvt 1 3)) = g d) (d : Dev) : g (ratioRefresh h d) = g d := by
  unfold ratioRefresh
  dsimp only
  refine keeps_ite rfl ((raiseIf_blind (he _) _).trans ?_)
  exact hp d Reg.APL.LSTAT_AT_RANGE _ (by decide)

/-! ### Two words of a loop -/

/-- The phase error and the update counter show in no move of a loop but an update. -/
theorem loopBlind_words (h : Half) {k : Nat} (hk : k < 16) (o : Nat) (ho : o = 0x24 ∨ o = 0x28 ∨ o = 0x34) :
    LoopBlind (fun d => d.w (dplL h k + o)) h k where
  dpl d f v _ h1 h2 h3 := d.w_p_ne _ _ _ _ (by omega)
  hld d f v hf := d.w_p_ne _ _ _ _ (ne_of_inBlock (inBlock_dplL h hk (by omega)) (inBlock_pageAddr .hld h (i := 0) (by omega)))
  dplEv _ _ _ := rfl
  hldEv _ _ _ := rfl
  tsuEv _ _ _ := rfl
  loop _ _ := rfl
  hm _ _ := rfl
  tb _ _ _ := rfl

end Sys2Proof.Machine
end

section
/-! PROOF. O35 does not hold: the build-out is drained while a loop follows its candidate (R141, `Dev.boLeft`), and a loop in
FREERUN begins to follow at its first measurement (R158), before its phase error is taken. The claim takes the build-out as it
drains in FREERUN, where it does not. -/

namespace Sys2Proof.Machine

/-- Warp's loop 0 is in FREERUN with a build-out of 1 µs that was last drained 1 s ago, and candidate 0, a PPS pin that it has
followed before, has a new measurement. -/
def undrained : State :=
  { dev := { regs := [(dplL .warp 0 + 0x20, 1#32), (refQ .warp 0, 2#32), (refQ .warp 0 + 0x20, 3#32), (selS .warp 0 + 0x10, 0#32),
                      (selS .warp 0 + 0x18, 1000000#32)]
             now := 250000000
             cands := [(0, { measNo := 1 })]
             loops := [(0, { lastIn := some (.cand 0) })] } }

/-- The loop as it begins to acquire, before its update (R158). -/
def undrainedBegun : Dev := (undrained.dev.ps48 (dplL .warp 0) Reg.DPL.FEST_LO Reg.DPL.FEST_HI 0).loopTo .warp 0 2 0

/-- The two words of a loop's phase error. -/
def Dev.perrWords (d : Dev) (h : Half) (k : Nat) : Nat := d.g2 (dplL h k) Reg.DPL.PERR_LO Reg.DPL.PERR_HI

theorem Dev.perrWords_of_w {d e : Dev} {h : Half} {k : Nat} (hlo : e.w (dplL h k + 0x24) = d.w (dplL h k + 0x24))
    (hhi : e.w (dplL h k + 0x28) = d.w (dplL h k + 0x28)) : e.perrWords h k = d.perrWords h k := by
  unfold Dev.perrWords Dev.g2
  rw [Dev.g_of_w (f := Reg.DPL.PERR_LO) hlo, Dev.g_of_w (f := Reg.DPL.PERR_HI) hhi]

theorem word_ne (b : Nat) {i j : Nat} (h : i ≠ j) : b + i ≠ b + j := by omega

/-- A phase error shows in no move of its loop but an update. -/
theorem loopBlind_perr (h : Half) {k : Nat} (hk : k < 16) : LoopBlind (fun d => d.perrWords h k) h k where
  dpl d f v h0 h1 h2 h3 := Dev.perrWords_of_w ((loopBlind_words h hk 0x24 (.inl rfl)).dpl d f v h0 h1 h2 h3)
    ((loopBlind_words h hk 0x28 (.inr (.inl rfl))).dpl d f v h0 h1 h2 h3)
  hld d f v hf := Dev.perrWords_of_w ((loopBlind_words h hk 0x24 (.inl rfl)).hld d f v hf)
    ((loopBlind_words h hk 0x28 (.inr (.inl rfl))).hld d f v hf)
  dplEv _ _ _ := rfl
  hldEv _ _ _ := rfl
  tsuEv _ _ _ := rfl
  loop _ _ := rfl
  hm _ _ := rfl
  tb _ _ _ := rfl

/-- An update leaves the phase error of its input, the build-out drained (R152). -/
theorem loopStep_perr (d : Dev) (h : Half) {k : Nat} (hk : k < 16) (i : LoopIn) :
    (d.loopStep h k i false).perrWords h k = unsignedOf 48 ((d.drained h k).loopErr h k i) := by
  have hg := loopBlind_perr h hk
  unfold Dev.loopStep
  extract_lets b lp now ns d0 e code eff clamped bw p0 lim p atLim fest d1 lp0 d2 d3 d4
  have h1 : d1.perrWords h k = unsignedOf 48 e := by
    have hp : (d0.ps48 b Reg.DPL.PERR_LO Reg.DPL.PERR_HI e).perrWords h k = unsignedOf 48 e :=
      Dev.g2_ps48 _ _ ⟨rfl, rfl⟩ ⟨rfl, rfl⟩ (by decide) e
    have hi : ((d0.ps48 b Reg.DPL.PERR_LO Reg.DPL.PERR_HI e).inc b Reg.DPL.UPDCNT).perrWords h k = unsignedOf 48 e :=
      (Dev.perrWords_of_w (Dev.w_p_ne _ _ Reg.DPL.UPDCNT _ _ (word_ne b (by decide)))
        (Dev.w_p_ne _ _ Reg.DPL.UPDCNT _ _ (word_ne b (by decide)))).trans hp
    dsimp only [d1]
    rw [hg.dplb _ rfl, hg.stat _ rfl, hg.dplb _ rfl, hg.stat _ rfl, hi]
  have h2 : d2.perrWords h k = d1.perrWords h k := 
    (hg.loop _ _).trans (raiseIf_blind (g := fun x => x.perrWords h k) (hg.dplEv d1 4 (by decide)) _)
  have h3 : d3.perrWords h k = d2.perrWords h k := (hg.loopOut _ _).trans (hg.putFest d2 fest)
  exact (hg.syncCheck d3 i).trans (h3.trans (h2.trans h1))

theorem undrained_runs : undrained.dev.loopsRun .warp = true ∧ (undrained.dev.sel .warp 0).drop = false ∧
    undrained.dev.commitDue .warp 0 = false ∧ undrained.dev.lstate .warp 0 = 1 ∧ undrained.dev.resumeDue .warp 0 = false ∧
    undrained.dev.loopIn .warp 0 = some (.cand 0) := by decide +kernel

theorem undrained_new : (undrained.dev.loop .warp 0).lastNo = 0 ∧
    undrained.dev.measNo .warp 0 (.cand 0) = 1 ∧ (undrained.dev.tb .warp 0).fadj = 0 := by decide +kernel

/-- A loop in FREERUN that has a new measurement of a candidate begins to acquire, and updates (R158). -/
theorem loopUpdated_begins {d : Dev} {h : Half} {k c : Nat} (hrun : d.loopsRun h = true) (hdrop : (d.sel h k).drop = false)
    (hcommit : d.commitDue h k = false) (hst : d.lstate h k = 1) (hres : d.resumeDue h k = false)
    (hin : d.loopIn h k = some (.cand c)) (hno : (d.loop h k).lastNo ≠ d.measNo h k (.cand c)) :
    loopUpdated h k d = ((d.ps48 (dplL h k) Reg.DPL.FEST_LO Reg.DPL.FEST_HI (d.tb h k).fadj).loopTo h k 2 0).loopStep h k
      (.cand c) false := by
  have hnew : ((d.loop h k).lastIn == some (.cand c) && (d.loop h k).lastNo == d.measNo h k (.cand c)) = false := by
    rw [beq_eq_false_iff_ne.2 hno, Bool.and_false]
  simp only [loopUpdated, hrun, hdrop, hcommit, hst, hres, hin, hnew, Bool.not_true, Bool.false_eq_true, if_false]
  rw [if_neg (by decide : ¬ ((1 : Nat) == 0) = true)]
  exact if_pos rfl

theorem undrained_update : loopUpdated .warp 0 undrained.dev = undrainedBegun.loopStep .warp 0 (.cand 0) false := by
  obtain ⟨hrun, hdrop, hcommit, hst, hres, hin⟩ := undrained_runs
  obtain ⟨hno, hmeas, hf⟩ := undrained_new
  have hne : (undrained.dev.loop .warp 0).lastNo ≠ undrained.dev.measNo .warp 0 (.cand 0) := fun h =>
    absurd (hno.symm.trans (h.trans hmeas)) (by decide)
  rw [loopUpdated_begins hrun hdrop hcommit hst hres hin hne, hf]
  rfl

/-- The phase error with the build-out drained, and with the build-out as it stood. -/
theorem undrained_errors : (undrained.dev.drained .warp 0).loopErr .warp 0 (.cand 0) = -1000000 ∧
    (undrainedBegun.drained .warp 0).loopErr .warp 0 (.cand 0) = -990000 := by decide +kernel

/-- What follows an update keeps its phase error. -/
theorem loopRan_perr (h : Half) {k : Nat} (hk : k < 16) (d : Dev) : (loopRan h k d).perrWords h k = (loopUpdated h k d).perrWords h k := by
  have hne {p : Page} {a : Nat} (ha : inBlock p a) (hp : Page.dpl.code ≠ p.code) (o : Nat) (ho : o < 0x100) : dplL h k + o ≠ a :=
    ne_of_inBlock (inBlock_dplL h hk ho) ha hp
  have hb (d : Dev) : (boundBases h d).perrWords h k = d.perrWords h k :=
    boundBases_keeps (g := fun d => d.perrWords h k) (fun d n f v hn hf => Dev.perrWords_of_w
      (d.w_p_ne _ _ _ _ (hne (inBlock_bndN h hn (by omega)) (by decide) _ (by decide)))
      (d.w_p_ne _ _ _ _ (hne (inBlock_bndN h hn (by omega)) (by decide) _ (by decide)))) (fun _ _ _ => rfl) d
  have hr (d : Dev) : (ratioRefresh h d).perrWords h k = d.perrWords h k :=
    ratioRefresh_keeps (g := fun d => d.perrWords h k) (fun d f v hf => Dev.perrWords_of_w
      (d.w_p_ne _ _ _ _ (hne (inBlock_aplBase h (by decide) (by omega)) (by decide) _ (by decide)))
      (d.w_p_ne _ _ _ _ (hne (inBlock_aplBase h (by decide) (by omega)) (by decide) _ (by decide)))) (fun _ => rfl) d
  have hx := (hb (ratioRefresh h (loopUpdated h k d))).trans (hr _)
  unfold loopRan
  dsimp only
  generalize boundBases h (ratioRefresh h (loopUpdated h k d)) = x at hx ⊢
  split
  · exact hx
  · exact hx

theorem loopUpdate_dev {h : Half} {k : Fin 16} {s t : State} (ht : exec (.loopUpdate h k) s = .next t) :
    t.dev = loopRan h k s.dev := by
  obtain rfl := exec_next_inj ht rfl
  rfl

/-- Refutes O35: its clause of a new measurement takes the build-out drained in the state before, and in `undrained` the loop
begins to follow at this update, by which 10 ns of the build-out have been drained. -/
theorem not_loopsUpdateCommitAndSwitch : ¬ Obligations.LoopsUpdateCommitAndSwitch := by
  unfold Obligations.LoopsUpdateCommitAndSwitch
  rintro ⟨update, -⟩
  obtain ⟨hrun, hdrop, hcommit, hst, hres, hin⟩ := undrained_runs
  obtain ⟨hno, hmeas, -⟩ := undrained_new
  obtain ⟨t, ht, herr, -⟩ := update .warp 0 (.cand 0) undrained hrun hdrop hcommit 
    (fun h => absurd (hst.symm.trans h) (by decide)) hres hin
    (.inr fun h => absurd (hno.symm.trans (h.trans hmeas)) (by decide))
  rw [loopUpdate_dev ht] at herr
  obtain ⟨hbefore, hbegun⟩ := undrained_errors
  have hperr := (loopRan_perr .warp (k := 0) (by decide) undrained.dev).trans
    ((congrArg (fun d => d.perrWords .warp 0) undrained_update).trans (loopStep_perr undrainedBegun .warp (by decide) (.cand 0)))
  have hsame : unsignedOf 48 ((undrained.dev.drained .warp 0).loopErr .warp 0 (.cand 0)) =
      unsignedOf 48 ((undrainedBegun.drained .warp 0).loopErr .warp 0 (.cand 0)) := herr.symm.trans hperr
  rw [hbefore, hbegun] at hsame
  exact absurd hsame (by decide +kernel)

end Sys2Proof.Machine
end

section
/-! SUPPORT. What the evaluation of a selector leaves (R136 to R142): whatever does not show its status and its counts, its
engine, an event of its SEL page from SEL_TRANSITION_ABORT on, and the comparisons kept. -/

namespace Sys2Proof.Machine

/-- A property that no move of a selector's transaction ends. -/
structure SelKeeps (P : Dev → Prop) (h : Half) (n : Nat) : Prop where
  word   : ∀ d f v, f.off = 0x10 ∨ f.off = 0x14 → P d → P (d.p (selS h n) f v)
  engine : ∀ d v, P d → P (d.setSel h n v)
  event  : ∀ d j, P d → P (d.raise (selPg h) j)
  noted  : ∀ (d : Dev) (l : List Nat), P d → P { d with sched := { d.sched with diffs := l } }

/-- What both branches keep, whatever the condition. -/
theorem holds_ite {P : Dev → Prop} {c : Prop} [Decidable c] {x y : Dev} (hx : P x) (hy : P y) : P (if c then x else y) := by
  split
  · exact hx
  · exact hy

section
variable {P : Dev → Prop} {h : Half} {n : Nat} (hP : SelKeeps P h n) {d : Dev}
include hP

theorem SelKeeps.status {f : Fld} (hf : f.off = 0x10) (v : Nat) (hd : P d) : P (d.p (selS h n) f v) := hP.word d f v (.inl hf) hd

theorem SelKeeps.flag {f : Fld} (hf : f.off = 0x10) (v : Bool) (hd : P d) : P (d.pb (selS h n) f v) := hP.status hf _ hd

theorem SelKeeps.counts {f : Fld} (hf : f.off = 0x14) (hd : P d) : P (d.inc (selS h n) f) := hP.word d f _ (.inr hf) hd

theorem SelKeeps.compared (code : Nat) (b : Bool) (j : Nat) (hd : P d) : P (d.compared code b fun x => x.raise (selPg h) j) := by
  unfold Dev.compared
  exact holds_ite (holds_ite hd (hP.event _ _ (hP.noted d _ hd))) (hP.noted d _ hd)

theorem SelKeeps.selAbort (hd : P d) : P (d.selAbort h n) := by
  unfold Dev.selAbort
  refine holds_ite hd (hP.event _ _ (hP.engine _ _ (hP.status rfl _ (hP.status rfl _ (hP.counts rfl hd)))))

theorem SelKeeps.selBegin (c ms : Nat) (hd : P d) : P (d.selBegin h n c ms) := by
  unfold Dev.selBegin
  exact hP.engine _ _ (hP.status rfl _ (hP.status rfl _ hd))

theorem SelKeeps.selNoref (hd : P d) : P (d.selNoref h n) := by
  unfold Dev.selNoref
  have h1 := hP.status (f := Reg.SEL.SSTAT_SEL_C) rfl 0x1F (hP.selAbort hd)
  exact holds_ite h1 (hP.event _ _ (hP.flag rfl _ h1))

end

/-- The device on which the result of an evaluation is carried out: FORCED, SEL_FORCE_REFUSED, and a drop begun or not. -/
def Dev.selReady (d : Dev) (h : Half) (n : Nat) (a : SelAct) : Dev :=
  let d1 := d.pb (selS h n) Reg.SEL.SSTAT_FORCED (d.selMode h n == 1)
  let d2 := d1.compared (400 + 16 * h.num + n) (d.forceRefused h n) fun x => x.raise (selPg h) 20
  let st := d2.sel h n
  let no := if a == .hold && !st.drop then (d2.cand h (d2.selC h n)).measNo else st.endNo
  d2.setSel h n { st with drop := a == .hold, endNo := no, failed := st.failed || !(d2.usable h (d2.selC h n)) }

section
variable {P : Dev → Prop} {h : Half} {n : Nat} (hP : SelKeeps P h n) {d : Dev}
include hP

theorem SelKeeps.selReady (a : SelAct) (hd : P d) : P (d.selReady h n a) :=
  hP.engine _ _ (hP.compared _ _ _ (hP.flag rfl _ hd))

theorem SelKeeps.selApply (a : SelAct) (hd : P d) : P (d.selApply h n a) := by
  have hr := hP.selReady a hd
  cases a with
  | keep => exact hr
  | noref => exact hP.selNoref hr
  | hold => exact hP.selAbort hr
  | start c ms => exact hP.selBegin c ms hr
  | abortKeep => exact hP.selAbort hr
  | restart c ms => exact hP.selBegin c ms (hP.selAbort hr)

end

theorem SelKeeps.selEvaluateOne {P : Dev → Prop} {n : Nat} (hP : ∀ h, SelKeeps P h n) {d : Dev} (hd : P d) :
    P (d.selEvaluateOne n) := by
  unfold Dev.selEvaluateOne
  dsimp only
  have hl := (hP d.lead).selApply (d.selAction d.lead n) hd
  exact holds_ite hl ((hP _).compared _ _ _ ((hP _).selApply _ hl))

/-- What the other half's part in an evaluation does not show, shows after it what the leading half's own part left. -/
theorem SelKeeps.selEvaluateOne_led {P : Dev → Prop} {h : Half} {n : Nat} (hP : SelKeeps P h.other n) {d : Dev} (hl : d.lead = h)
    (hd : P (d.selApply h n (d.selAction h n))) : P (d.selEvaluateOne n) := by
  unfold Dev.selEvaluateOne
  rw [hl]
  exact holds_ite hd (hP.compared _ _ _ (hP.selApply _ hd))

/-! ### Candidates that a selector names -/

theorem best_mem {d : Dev} {h : Half} {n : Nat} : ∀ {xs : List Nat} {b : Nat}, d.best h n xs = some b → b ∈ xs
  | c :: cs, b, hb => by
    unfold Dev.best at hb
    cases hc : d.best h n cs with
    | none =>
      rw [hc] at hb
      exact (Option.some.inj hb).symm ▸ List.mem_cons_self ..
    | some x =>
      rw [hc] at hb
      dsimp only at hb
      split at hb
      · exact (Option.some.inj hb).symm ▸ List.mem_cons_of_mem _ (best_mem hc)
      · exact (Option.some.inj hb).symm ▸ List.mem_cons_self ..

theorem selC_lt (d : Dev) (h : Half) (n : Nat) : d.selC h n < 32 := d.g_lt _ _

theorem tgtC_lt (d : Dev) (h : Half) (n : Nat) : d.tgtC h n < 32 := d.g_lt _ _

theorem selectable_lt {d : Dev} {h : Half} {n c : Nat} (hc : c ∈ d.selectable h n) : c < 32 := by
  have all : ∀ {p : Nat → Bool} {x : Nat}, x ∈ (List.range 30).filter p → x < 32 := fun hx => by
    have := List.mem_range.1 (List.mem_filter.1 hx).1
    omega
  unfold Dev.selectable at hc
  split at hc
  · rw [List.mem_singleton.1 (List.mem_filter.1 hc).1]
    exact d.g_lt _ _
  · dsimp only at hc
    split at hc
    · exact all hc
    · exact all (List.mem_filter.1 hc).1
  · exact absurd hc (List.not_mem_nil)

theorem wanted_mem {d : Dev} {h : Half} {n c : Nat} (hw : d.wanted h n = some c) : d.best h n (d.selectable h n) = some c := by
  unfold Dev.wanted at hw
  extract_lets xs cur at hw
  cases hb : d.best h n xs with
  | none => simp [hb] at hw
  | some b =>
    rw [hb] at hw
    dsimp only at hw
    split_ifs at hw <;> exact hw

theorem wanted_lt {d : Dev} {h : Half} {n c : Nat} (hw : d.wanted h n = some c) : c < 32 :=
  selectable_lt (best_mem (wanted_mem hw))

/-! ### What a selector's evaluation reads -/

/-- The words of a selector, of its page's enable, and of the candidates. -/
def selReads (h : Half) (n a : Nat) : Prop := a = selPg h + 8 ∨ (∃ o ≤ 0x10, a = selS h n + o) ∨ inBlock .ref a

section
variable {d e : Dev} {h : Half} {n : Nat} (hw : ∀ a, selReads h n a → e.w a = d.w a)
include hw

theorem selReads_selS {f : Fld} (hf : f.off ≤ 0x10) : e.g (selS h n) f = d.g (selS h n) f :=
  Dev.g_of_w (hw _ (.inr (.inl ⟨f.off, hf, rfl⟩)))

theorem selReads_refQ {c : Nat} (hc : c < 64) {f : Fld} (hf : f.off < 0x40) : e.g (refQ h c) f = d.g (refQ h c) f :=
  Dev.g_of_w (hw _ (.inr (.inr (inBlock_refQ h hc hf))))

theorem selReads_cstate {c : Nat} (hc : c < 64) : e.cstate h c = d.cstate h c := selReads_refQ hw hc (by decide)

theorem selReads_usable {c : Nat} (hc : c < 64) : e.usable h c = d.usable h c := by
  unfold Dev.usable
  rw [selReads_cstate hw hc]

theorem selReads_effQr {c : Nat} (hc : c < 64) : e.effQr h c = d.effQr h c := by
  unfold Dev.effQr Dev.gb
  rw [selReads_refQ hw hc (by decide), selReads_refQ hw hc (by decide), selReads_refQ hw hc (by decide)]

theorem selReads_qlEn : e.en (selPg h) (selS h n) Reg.SEL.SCTRL_QL_EN = d.en (selPg h) (selS h n) Reg.SEL.SCTRL_QL_EN := by
  unfold Dev.en Dev.enabled Dev.gb
  rw [selReads_selS hw (by decide), hw _ (.inl rfl)]

theorem selReads_rank {c : Nat} (hc : c < 64) : e.rank h n c = d.rank h n c := by
  unfold Dev.rank Dev.rank0
  rw [selReads_qlEn hw, selReads_effQr hw hc, selReads_cstate hw hc, selReads_refQ hw hc (by decide)]

theorem selReads_selC : e.selC h n = d.selC h n := selReads_selS hw (by decide)

theorem selReads_selMode : e.selMode h n = d.selMode h n := by
  unfold Dev.selMode Dev.forceRefused
  rw [selReads_selS hw (by decide), selReads_selS hw (by decide)]

theorem selReads_best : ∀ {xs : List Nat}, (∀ c ∈ xs, c < 64) → e.best h n xs = d.best h n xs
  | [], _ => rfl
  | c :: cs, hx => by
    have hcs : ∀ x ∈ cs, x < 64 := fun x hm => hx x (List.mem_cons_of_mem _ hm)
    have ih := selReads_best hcs
    unfold Dev.best
    rw [ih]
    cases hb : d.best h n cs with
    | none => rfl
    | some x =>
      dsimp only
      rw [selReads_rank hw (hx c (List.mem_cons_self ..)), selReads_rank hw (hcs x (best_mem hb))]

variable (hwtr : e.wtr = d.wtr)
include hwtr

theorem selReads_selectable : e.selectable h n = d.selectable h n := by
  have hrun (c : Nat) : e.wtrRuns h n c = d.wtrRuns h n c := by
    unfold Dev.wtrRuns
    rw [hwtr]
  have hall : ((List.range 30).filter fun c => e.usable h c && bitAt (e.g (selS h n) Reg.SEL.MASK) c && c != 13) =
      (List.range 30).filter fun c => d.usable h c && bitAt (d.g (selS h n) Reg.SEL.MASK) c && c != 13 :=
    List.filter_congr fun c hc => by
      rw [selReads_usable hw (Nat.lt_of_lt_of_le (List.mem_range.1 hc) (by decide)), selReads_selS hw (by decide)]
  have hone : [e.g (selS h n) Reg.SEL.SCTRL_FORCE_C].filter (e.usable h) = [d.g (selS h n) Reg.SEL.SCTRL_FORCE_C].filter (d.usable h) := by
    rw [selReads_selS hw (by decide)]
    refine List.filter_congr fun c hc => selReads_usable hw ?_
    rw [List.mem_singleton.1 hc]
    exact Nat.lt_of_lt_of_le (d.g_lt _ _) (by decide)
  unfold Dev.selectable
  rw [selReads_selMode hw, hone, hall, selReads_selC hw]
  simp only [hrun]

theorem selReads_wanted : e.wanted h n = d.wanted h n := by
  have hl {c : Nat} (hc : c ∈ d.selectable h n) : c < 64 := Nat.lt_of_lt_of_le (selectable_lt hc) (by decide)
  have hcur : d.selC h n < 64 := Nat.lt_of_lt_of_le (selC_lt d h n) (by decide)
  unfold Dev.wanted
  dsimp only
  rw [selReads_selectable hw hwtr, selReads_best hw fun c hc => hl hc, selReads_selC hw, selReads_cstate hw hcur,
    selReads_rank hw hcur, selReads_effQr hw hcur, selReads_qlEn hw]
  cases hb : d.best h n (d.selectable h n) with
  | none => rfl
  | some b =>
    dsimp only
    unfold Dev.gb
    rw [selReads_rank hw (hl (best_mem hb)), selReads_effQr hw (hl (best_mem hb)), selReads_selS hw (by decide)]

theorem selAction_congr (hs : e.sel h n = d.sel h n) : e.selAction h n = d.selAction h n := by
  have hl {c : Nat} (hc : c ∈ d.selectable h n) : c < 64 := Nat.lt_of_lt_of_le (selectable_lt hc) (by decide)
  have hcur : d.selC h n < 64 := Nat.lt_of_lt_of_le (selC_lt d h n) (by decide)
  have htgt : d.tgtC h n < 64 := Nat.lt_of_lt_of_le (tgtC_lt d h n) (by decide)
  have hms : e.decideMs h n = d.decideMs h n := by
    unfold Dev.decideMs
    rw [selReads_selC hw, selReads_usable hw hcur, selReads_selS hw (by decide)]
  have ht : e.tgtC h n = d.tgtC h n := selReads_selS hw (by decide)
  have hx : e.xph h n = d.xph h n := selReads_selS hw (by decide)
  unfold Dev.selAction
  dsimp only
  rw [selReads_selMode hw, selReads_selectable hw hwtr, selReads_best hw fun c hc => hl hc, selReads_selC hw, selReads_usable hw hcur,
    selReads_wanted hw hwtr, hms, ht, hx, hs, selReads_rank hw hcur, selReads_rank hw htgt]
  cases hb : d.best h n (d.selectable h n) with
  | none => rfl
  | some b =>
    dsimp only
    rw [selReads_rank hw (hl (best_mem hb))]

end

end Sys2Proof.Machine
end

section
/-! SUPPORT. A selector's status, counts and engine (R150) through the evaluations of other selectors and what goes with them:
the candidates' faults, the checks of the loops, and the bases of the bounds. -/

namespace Sys2Proof.Machine

/-- What an evaluation of another selector, or a check of the same boundary, leaves of a selector: its status, its counts and
its engine, and SEL_NOREF once pending. -/
structure SelStays (h : Half) (n : Nat) (d e : Dev) : Prop where
  status : e.w (selS h n + 0x10) = d.w (selS h n + 0x10)
  counts : e.w (selS h n + 0x14) = d.w (selS h n + 0x14)
  engine : e.sel h n = d.sel h n
  noref  : (d.evt (selPg h) 17).pend = true → (e.evt (selPg h) 17).pend = true

section
variable {h : Half} {n : Nat} {d e f : Dev}

theorem SelStays.refl (d : Dev) : SelStays h n d d := ⟨rfl, rfl, rfl, id⟩

theorem SelStays.trans (hd : SelStays h n d e) (he : SelStays h n e f) : SelStays h n d f :=
  ⟨he.status.trans hd.status, he.counts.trans hd.counts, he.engine.trans hd.engine, fun hp => he.noref (hd.noref hp)⟩

theorem SelStays.field (hs : SelStays h n d e) {f : Fld} (hf : f.off = 0x10) : e.g (selS h n) f = d.g (selS h n) f :=
  Dev.g_of_w hs.status hf

theorem SelStays.count (hs : SelStays h n d e) {f : Fld} (hf : f.off = 0x14) : e.g (selS h n) f = d.g (selS h n) f :=
  Dev.g_of_w hs.counts hf

/-- What is seen of a selector. -/
def Dev.selSeen (h : Half) (n : Nat) (d : Dev) : Nat × Nat × SelSt × EvtWord :=
  (d.w (selS h n + 0x10), d.w (selS h n + 0x14), d.sel h n, d.evt (selPg h) 17)

theorem SelStays.of_view (hv : e.selSeen h n = d.selSeen h n) : SelStays h n d e := by
  obtain ⟨hs, hr⟩ := Prod.mk.inj hv
  obtain ⟨hc, hr⟩ := Prod.mk.inj hr
  obtain ⟨he, hp⟩ := Prod.mk.inj hr
  exact ⟨hs, hc, he, fun h1 => (congrArg EvtWord.pend hp).trans h1⟩

/-- A word that is neither a selector's status nor its counts. -/
theorem Dev.selSeen_setw (d : Dev) (h : Half) (n : Nat) {a : Nat} (v : Nat) (h0 : selS h n + 0x10 ≠ a) (h4 : selS h n + 0x14 ≠ a) :
    (d.setw a v).selSeen h n = d.selSeen h n := by
  unfold Dev.selSeen
  rw [Dev.w_setw, if_neg h0, Dev.w_setw, if_neg h4]
  rfl

theorem Dev.selSeen_p (d : Dev) (h : Half) (n : Nat) {b : Nat} {f : Fld} (v : Nat) (h0 : selS h n + 0x10 ≠ b + f.off)
    (h4 : selS h n + 0x14 ≠ b + f.off) : (d.p b f v).selSeen h n = d.selSeen h n :=
  d.selSeen_setw h n _ h0 h4

theorem Dev.selSeen_raise (d : Dev) (h : Half) (n : Nat) {pg k : Nat} (hk : selPg h + 17 ≠ pg + k) :
    (d.raise pg k).selSeen h n = d.selSeen h n := by
  unfold Dev.selSeen
  rw [d.evt_raise_ne hk]
  rfl

/-- A word outside the SEL pages. -/
theorem Dev.selSeen_p_of_block (d : Dev) (h : Half) {n : Nat} (hn : n < 16) {p : Page} {b : Nat} {f : Fld} (v : Nat)
    (hb : inBlock p (b + f.off)) (hp : Page.sel.code ≠ p.code) : (d.p b f v).selSeen h n = d.selSeen h n :=
  d.selSeen_setw h n _ (ne_of_inBlock (inBlock_selS h hn (by decide)) hb hp) (ne_of_inBlock (inBlock_selS h hn (by decide)) hb hp)

theorem Dev.selSeen_raise_of_block (d : Dev) (h : Half) (n : Nat) {p : Page} {pg k : Nat} (hb : inBlock p (pg + k))
    (hp : Page.sel.code ≠ p.code) : (d.raise pg k).selSeen h n = d.selSeen h n :=
  d.selSeen_raise h n (ne_of_inBlock (inBlock_selPg h (by decide)) hb hp)

end

/-! ### Other selectors -/

theorem selS_ne {g h : Half} {k n i j : Nat} (hk : k < 16) (hn : n < 16) (hne : k ≠ n ∨ g ≠ h) (hi : i < 0x40) (hj : j < 0x40) :
    selS h n + i ≠ selS g k + j := by
  have hg := half_num_lt g
  have hh := half_num_lt h
  unfold selS selPg pageAddr
  rcases hne with hne | hne
  · omega
  · have : g.num ≠ h.num := fun he => hne (half_num_inj he)
    omega

theorem Dev.sel_setSel_ne (d : Dev) {g h : Half} {k n : Nat} (hk : k < 16) (hn : n < 16) (hne : k ≠ n ∨ g ≠ h) (v : SelSt) :
    (d.setSel g k v).sel h n = d.sel h n := by
  refine Tab.get_set_ne (fun _ => ({} : SelSt)) _ _ _ _ ?_
  rcases hne with hne | hne
  · omega
  · have : g.num ≠ h.num := fun he => hne (half_num_inj he)
    omega

theorem Dev.sel_setSel_same (d : Dev) (h : Half) (n : Nat) (v : SelSt) : (d.setSel h n v).sel h n = v :=
  Tab.get_set_same (fun _ => ({} : SelSt)) _ _ _

/-- A raise leaves pending what is pending. -/
theorem evt_raise_pend (d : Dev) (pg k p j : Nat) (hp : (d.evt p j).pend = true) : ((d.raise pg k).evt p j).pend = true := by
  rw [Dev.evt_raise]
  split
  · rfl
  · exact hp

/-- Another selector's evaluation leaves this one. -/
theorem selKeeps_stays {h : Half} {n k : Nat} (hn : n < 16) (hk : k < 16) (d : Dev) (g : Half) (hne : k ≠ n ∨ g ≠ h) :
    SelKeeps (fun e => SelStays h n d e) g k where
  word e f v hf hd := hd.trans (.of_view (e.selSeen_setw h n _ (selS_ne hk hn hne (by decide) (by omega))
    (selS_ne hk hn hne (by decide) (by omega))))
  engine e v hd := hd.trans ⟨rfl, rfl, e.sel_setSel_ne hk hn hne v, id⟩
  event e j hd := hd.trans ⟨rfl, rfl, rfl, evt_raise_pend e _ _ _ _⟩
  noted e l hd := hd.trans ⟨rfl, rfl, rfl, id⟩

theorem suspectWord_ne (g h : Half) {n i : Nat} (hn : n < 16) (hi : i < 0x40) : selS h n + i ≠ selPg g + 0x504 := by
  have := half_num_lt g
  have := half_num_lt h
  unfold selS selPg pageAddr
  omega

theorem inBlock_dplEvt (h : Half) {k j : Nat} (hk : k < 16) (hj : j < 8) : inBlock .dpl (dplPg h k + dplEvt k j) :=
  inBlock_pageAddr .dpl h (by unfold dplEvt; omega)

theorem inBlock_tbEvt (h : Half) {k j : Nat} (hk : k < 16) (hj : j < 8) : inBlock .tsu (tsuPg h k + tbEvt k j) :=
  inBlock_pageAddr .tsu h (by unfold tbEvt; omega)

/-! ### What goes with the evaluation -/

/-- An observation that shows no move of a candidate or of a loop, no build-out offset, no base of a bound, and not when the halves
were last found to differ. -/
structure RestBlind {α : Type} (g : Dev → α) : Prop where
  cand   : ∀ h, ∀ c < 30, CandHidden g h c
  loop   : ∀ h, ∀ k < 16, LoopBlind g h k
  bo     : ∀ d h k v, k < 16 → g (d.putBo h k v) = g d
  base   : ∀ d h n f v, n < 16 → f.off < 0x20 → g (d.p (bndN h n) f v) = g d
  bound  : ∀ d h n v, g (d.setBnd h n v) = g d
  differ : ∀ d h v, g (d.setRd h v) = g d

/-- C12 has had no solution for 3 s (R131). -/
def Dev.solLate (d : Dev) : Bool :=
  match d.sol.lastAt with
  | some t => decide (t + 3 * secUnit ≤ d.count d.lead 0)
  | none => decide (d.start.t0 + 3 * ticks1s ≤ d.now)

theorem solTimeout_eq (d : Dev) : solTimeout d =
    if d.solLate = true then (d.putFault .warp 12 faultMSG true).putFault .weft 12 faultMSG true else d := by
  unfold solTimeout Dev.solLate
  rfl

/-- A loop's checks end with its synchronisation, by what it last followed, if anything. -/
theorem loopChecked_ind {P : Dev → Prop} {h : Half} {k : Nat} {d : Dev} (hP : P (holdCheck h k (d.drained h k)))
    (hs : ∀ i, P ((holdCheck h k (d.drained h k)).syncCheck h k i)) : P (loopChecked h k d) := by
  obtain ⟨f, hf⟩ : ∃ f, f = loopChecked := ⟨_, rfl⟩
  rw [← hf]
  delta loopChecked at hf
  rw [hf]
  beta_reduce
  extract_lets x
  have hx : P x := hP
  have hxs : ∀ i, P (x.syncCheck h k i) := hs
  clear_value x
  split
  · exact hxs _
  · exact hx

theorem both_blind {α : Type} {g : Dev → α} (d : Dev) {f : Half → Dev → Dev} (hf : ∀ h e, g (f h e) = g e) : g (d.both f) = g d :=
  (hf .weft _).trans (hf .warp d)

section
variable {α : Type} {g : Dev → α} (hg : RestBlind g) (d : Dev)
include hg

theorem RestBlind.candsEvaluated (h : Half) : g (candsEvaluated h d) = g d := by
  refine Dev.each_keeps g 30 _ d fun c hc e => ?_
  exact keeps_ite rfl ((hg.cand h c hc).candRefresh e)

theorem RestBlind.solTimeout : g (solTimeout d) = g d := by
  rw [solTimeout_eq]
  refine keeps_ite ?_ rfl
  rw [(hg.cand .weft 12 (by decide)).putFault, (hg.cand .warp 12 (by decide)).putFault]

theorem RestBlind.loopChecked (h : Half) {k : Nat} (hk : k < 16) : g (loopChecked h k d) = g d := by
  have hl := hg.loop h k hk
  have h0 : g (d.drained h k) = g d := hl.drained d fun x v => hg.bo x h k v hk
  have h1 : g (holdCheck h k (d.drained h k)) = g d := (hl.holdCheck _).trans h0
  exact loopChecked_ind (P := fun x => g x = g d) h1 fun i => (hl.syncCheck _ i).trans h1

theorem RestBlind.boundBases (h : Half) : g (boundBases h d) = g d :=
  boundBases_keeps (fun e n f v hn hf => hg.base e h n f v hn hf) (fun e n v => hg.bound e h n v) d

theorem RestBlind.diffNoted : g (diffNoted d) = g d := by
  unfold Machine.diffNoted
  exact keeps_ite rfl (both_blind d fun h e => hg.differ e h _)

end

theorem restBlind_selSeen (h : Half) {n : Nat} (hn : n < 16) : RestBlind (Dev.selSeen h n) where
  cand g c hc :=
    { word := fun d _ v hf => d.selSeen_p_of_block h hn v (inBlock_refQ g (by omega) hf) (by decide)
      suspect := fun d _ => d.selSeen_setw h n _ (suspectWord_ne g h hn (by decide)) (suspectWord_ne g h hn (by decide))
      engine := fun _ _ => rfl
      event := fun d _ hk => d.selSeen_raise_of_block h n (inBlock_refPg g (by omega) (by omega)) (by decide) }
  loop g k hk :=
    { dpl := fun d _ v hf _ _ _ => d.selSeen_p_of_block h hn v (inBlock_dplL g hk (by omega)) (by decide)
      hld := fun d _ v hf => d.selSeen_p_of_block h hn v (inBlock_pageAddr .hld g (i := 0) (by omega)) (by decide)
      dplEv := fun d _ hj => d.selSeen_raise_of_block h n (inBlock_dplEvt g hk hj) (by decide)
      hldEv := fun d _ hj => d.selSeen_raise_of_block h n (inBlock_pageAddr .hld g (i := 0) (by omega)) (by decide)
      tsuEv := fun d _ hj => d.selSeen_raise_of_block h n (inBlock_tbEvt g hk hj) (by decide)
      loop := fun _ _ => rfl
      hm := fun _ _ => rfl
      tb := fun _ _ _ => rfl }
  bo d g k v hk := by
    have hne (i : Nat) (hi : i < 0x40) (hj : i ≠ 0x10 ∧ i ≠ 0x14) : selS h n + 0x10 ≠ selS g k + i ∧ selS h n + 0x14 ≠ selS g k + i := by
      have := half_num_lt g
      have := half_num_lt h
      unfold selS selPg pageAddr
      omega
    obtain ⟨hl0, hl4⟩ := hne Reg.SEL.BO_LO.off (by decide) (by decide)
    obtain ⟨hh0, hh4⟩ := hne Reg.SEL.BO_HI.off (by decide) (by decide)
    unfold Dev.putBo Dev.ps48 Dev.p2
    rw [Dev.selSeen_p _ h n _ hh0 hh4, Dev.selSeen_p _ h n _ hl0 hl4]
  base d g k f v hk hf := d.selSeen_p_of_block h hn v (inBlock_bndN g hk (by omega)) (by decide)
  bound _ _ _ _ := rfl
  differ _ _ _ := rfl

theorem restBlind_count (h : Half) (n : Nat) : RestBlind (fun d => d.count h n) where
  cand _ _ _ := ⟨fun d _ _ _ => Dev.count_congr (d.p_tbs _ _ _) h n, fun d _ => Dev.count_congr (d.setw_tbs _ _) h n,
    fun _ _ => rfl, fun _ _ _ => rfl⟩
  loop g k _ :=
    { dpl := fun d _ _ _ _ _ _ => Dev.count_congr (d.p_tbs _ _ _) h n, hld := fun d _ _ _ => Dev.count_congr (d.p_tbs _ _ _) h n
      dplEv := fun _ _ _ => rfl, hldEv := fun _ _ _ => rfl
      tsuEv := fun _ _ _ => rfl, loop := fun _ _ => rfl, hm := fun _ _ => rfl
      tb := fun d x hx => d.count_setTb g k x hx h n }
  bo d _ _ _ _ := Dev.count_congr ((Dev.p_tbs _ _ _ _).trans (d.p_tbs _ _ _)) h n
  base d _ _ _ _ _ _ := Dev.count_congr (d.p_tbs _ _ _) h n
  bound _ _ _ _ := rfl
  differ _ _ _ := rfl

end Sys2Proof.Machine
end

section
/-! SUPPORT. What carrying out an evaluation leaves in its own selector (R136 to R142): SSTAT, SWCNT and the engine. -/

namespace Sys2Proof.Machine

section
variable (d : Dev) (h : Half) (n : Nat)

theorem Dev.g_setSel (g : Half) (k : Nat) (v : SelSt) (b : Nat) (f : Fld) : (d.setSel g k v).g b f = d.g b f := rfl

theorem Dev.sel_p (b : Nat) (f : Fld) (v : Nat) : (d.p b f v).sel h n = d.sel h n := rfl

theorem Dev.sel_raise (pg k : Nat) : (d.raise pg k).sel h n = d.sel h n := rfl

/-- A comparison shows in no register, engine or event but its own. -/
theorem Dev.compared_blind {α : Type} {g : Dev → α} (hr : ∀ e, g (e.raise (selPg h) n) = g e)
    (hd : ∀ (e : Dev) (l : List Nat), g { e with sched := { e.sched with diffs := l } } = g e) (code : Nat) (b : Bool) :
    g (d.compared code b fun x => x.raise (selPg h) n) = g d := by
  unfold Dev.compared
  exact keeps_ite (keeps_ite rfl ((hr _).trans (hd d _))) (hd d _)

/-! ### Before the result is carried out -/

theorem selReady_field (a : SelAct) {f : Fld} (hf : f.off ≠ 0x10 ∨ 15 ≤ f.lo ∨ f.lo + f.len ≤ 14) :
    (d.selReady h n a).g (selS h n) f = d.g (selS h n) f := by
  have h1 : (d.pb (selS h n) Reg.SEL.SSTAT_FORCED (d.selMode h n == 1)).g (selS h n) f = d.g (selS h n) f :=
    d.g_p_apart (selS h n) _ (by decide) hf
  unfold Dev.selReady
  dsimp only
  rw [Dev.g_setSel, Dev.compared_blind _ h 20 (g := fun e => e.g (selS h n) f) (fun _ => rfl) (fun _ _ => rfl), h1]

theorem selReady_drop (a : SelAct) : ((d.selReady h n a).sel h n).drop = (a == .hold) := by
  unfold Dev.selReady
  dsimp only
  rw [Dev.sel_setSel_same]

/-! ### Aborting -/

/-- The words of an aborted transaction. -/
def Dev.abortWords (d : Dev) (h : Half) (n : Nat) : Dev :=
  ((d.inc (selS h n) Reg.SEL.SWCNT_ABORTS).p (selS h n) Reg.SEL.SSTAT_XPH 0).p (selS h n) Reg.SEL.SSTAT_TGT_C 0x1F

theorem selAbort_eq (hx : d.xph h n ≠ 0) : ∃ v, v.drop = (d.sel h n).drop ∧
    d.selAbort h n = ((d.abortWords h n).setSel h n v).raise (selPg h) 16 := by
  unfold Dev.selAbort
  rw [if_neg hx]
  exact ⟨{ d.sel h n with boSum := 0, boN := 0, ready := false, endNo := (d.cand h (d.selC h n)).measNo }, rfl, rfl⟩

theorem abortWords_field {f : Fld} (hf : f.off = 0x10) (hb : (7 ≤ f.lo ∨ f.lo + f.len ≤ 5) ∧ (13 ≤ f.lo ∨ f.lo + f.len ≤ 8)) :
    (d.abortWords h n).g (selS h n) f = d.g (selS h n) f := by
  unfold Dev.abortWords Dev.inc
  have hc : f.off ≠ Reg.SEL.SWCNT_ABORTS.off := hf ▸ (by decide)
  rw [Dev.g_p_apart _ _ (f := Reg.SEL.SSTAT_TGT_C) _ (by decide) (.inr hb.2),
    Dev.g_p_apart _ _ (f := Reg.SEL.SSTAT_XPH) _ (by decide) (.inr hb.1),
    Dev.g_p_apart _ _ (f := Reg.SEL.SWCNT_ABORTS) _ (by decide) (.inl hc)]

theorem abortWords_xph : (d.abortWords h n).g (selS h n) Reg.SEL.SSTAT_XPH = 0 := by
  unfold Dev.abortWords
  rw [Dev.g_p_apart _ _ _ (by decide) (by decide), Dev.g_p_same _ _ _ _ (by decide)]
  rfl

theorem abortWords_aborts : (d.abortWords h n).g (selS h n) Reg.SEL.SWCNT_ABORTS = (d.g (selS h n) Reg.SEL.SWCNT_ABORTS + 1) % 2 ^ 16 := by
  unfold Dev.abortWords Dev.inc
  rw [Dev.g_p_apart _ _ _ (by decide) (by decide), Dev.g_p_apart _ _ _ (by decide) (by decide), Dev.g_p_same _ _ _ _ (by decide)]
  rfl

theorem selAbort_xph : (d.selAbort h n).xph h n = 0 := by
  by_cases hx : d.xph h n = 0
  · unfold Dev.selAbort
    rw [if_pos hx, hx]
  · obtain ⟨v, -, he⟩ := selAbort_eq d h n hx
    unfold Dev.xph
    rw [he, Dev.g_raise, Dev.g_setSel, abortWords_xph]

theorem selAbort_field {f : Fld} (hf : f.off = 0x10) (hb : (7 ≤ f.lo ∨ f.lo + f.len ≤ 5) ∧ (13 ≤ f.lo ∨ f.lo + f.len ≤ 8)) :
    (d.selAbort h n).g (selS h n) f = d.g (selS h n) f := by
  by_cases hx : d.xph h n = 0
  · unfold Dev.selAbort
    rw [if_pos hx]
  · obtain ⟨v, -, he⟩ := selAbort_eq d h n hx
    rw [he, Dev.g_raise, Dev.g_setSel, abortWords_field d h n hf hb]

theorem selAbort_aborts (hx : d.xph h n ≠ 0) :
    (d.selAbort h n).g (selS h n) Reg.SEL.SWCNT_ABORTS = (d.g (selS h n) Reg.SEL.SWCNT_ABORTS + 1) % 2 ^ 16 := by
  obtain ⟨v, -, he⟩ := selAbort_eq d h n hx
  rw [he, Dev.g_raise, Dev.g_setSel, abortWords_aborts]

theorem selAbort_drop : ((d.selAbort h n).sel h n).drop = (d.sel h n).drop := by
  by_cases hx : d.xph h n = 0
  · unfold Dev.selAbort
    rw [if_pos hx]
  · obtain ⟨v, hv, he⟩ := selAbort_eq d h n hx
    rw [he, Dev.sel_raise, Dev.sel_setSel_same, hv]

/-! ### Beginning -/

/-- The words of a transaction that begins. -/
def Dev.beginWords (d : Dev) (h : Half) (n c : Nat) : Dev :=
  (d.p (selS h n) Reg.SEL.SSTAT_XPH 1).p (selS h n) Reg.SEL.SSTAT_TGT_C c

theorem selBegin_eq (c ms : Nat) : ∃ v, v.since = d.schedCount ∧ v.decide = ms ∧
    d.selBegin h n c ms = (d.beginWords h n c).setSel h n v := ⟨_, rfl, rfl, rfl⟩

theorem selBegin_xph (c ms : Nat) : (d.selBegin h n c ms).xph h n = 1 := by
  obtain ⟨v, -, -, he⟩ := selBegin_eq d h n c ms
  unfold Dev.xph
  rw [he, Dev.g_setSel]
  unfold Dev.beginWords
  rw [Dev.g_p_apart _ _ _ (by decide) (by decide), Dev.g_p_same _ _ _ _ (by decide)]
  rfl

theorem selBegin_tgtC {c : Nat} (hc : c < 32) (ms : Nat) : (d.selBegin h n c ms).tgtC h n = c := by
  obtain ⟨v, -, -, he⟩ := selBegin_eq d h n c ms
  unfold Dev.tgtC
  rw [he, Dev.g_setSel]
  unfold Dev.beginWords
  rw [Dev.g_p_same _ _ _ _ (by decide)]
  exact Nat.mod_eq_of_lt hc

theorem selBegin_field (c ms : Nat) {f : Fld} (hb : f.off ≠ 0x10 ∨ f.lo + f.len ≤ 5) :
    (d.selBegin h n c ms).g (selS h n) f = d.g (selS h n) f := by
  obtain ⟨v, -, -, he⟩ := selBegin_eq d h n c ms
  rw [he, Dev.g_setSel]
  unfold Dev.beginWords
  have hlo : f.off ≠ 0x10 ∨ 13 ≤ f.lo ∨ f.lo + f.len ≤ 8 := hb.imp id fun hl => .inr (by omega)
  have hlo' : f.off ≠ 0x10 ∨ 7 ≤ f.lo ∨ f.lo + f.len ≤ 5 := hb.imp id fun hl => .inr hl
  rw [Dev.g_p_apart _ _ _ (by decide) hlo, Dev.g_p_apart _ _ _ (by decide) hlo']

theorem selBegin_engine (c ms : Nat) : ((d.selBegin h n c ms).sel h n).since = d.schedCount ∧ ((d.selBegin h n c ms).sel h n).decide = ms := by
  obtain ⟨v, hs, hm, he⟩ := selBegin_eq d h n c ms
  rw [he, Dev.sel_setSel_same]
  exact ⟨hs, hm⟩

/-! ### No reference -/

theorem evtImplemented_selNoref : evtImplemented (selPg h) 17 = true := by cases h <;> decide

theorem selNoref_eq : d.selNoref h n =
    if d.gb (selS h n) Reg.SEL.SSTAT_NOREF then (d.selAbort h n).p (selS h n) Reg.SEL.SSTAT_SEL_C 0x1F
    else (((d.selAbort h n).p (selS h n) Reg.SEL.SSTAT_SEL_C 0x1F).pb (selS h n) Reg.SEL.SSTAT_NOREF true).raise (selPg h) 17 := rfl

theorem selNoref_selC : (d.selNoref h n).selC h n = 31 := by
  have h1 : ((d.selAbort h n).p (selS h n) Reg.SEL.SSTAT_SEL_C 0x1F).g (selS h n) Reg.SEL.SSTAT_SEL_C = 31 :=
    Dev.g_p_same _ _ _ _ (by decide)
  unfold Dev.selC
  rw [selNoref_eq]
  split
  · exact h1
  · rw [Dev.g_raise, Dev.pb, Dev.g_p_apart _ _ _ (by decide) (by decide), h1]

theorem selNoref_xph : (d.selNoref h n).xph h n = 0 := by
  have h1 : ((d.selAbort h n).p (selS h n) Reg.SEL.SSTAT_SEL_C 0x1F).g (selS h n) Reg.SEL.SSTAT_XPH = 0 :=
    (Dev.g_p_apart _ _ _ (by decide) (by decide)).trans (selAbort_xph d h n)
  unfold Dev.xph
  rw [selNoref_eq]
  split
  · exact h1
  · rw [Dev.g_raise, Dev.pb, Dev.g_p_apart _ _ _ (by decide) (by decide), h1]

theorem selNoref_noref : (d.selNoref h n).gb (selS h n) Reg.SEL.SSTAT_NOREF = true := by
  rw [selNoref_eq]
  split
  · next hn =>
    rw [Dev.gb_p_apart _ _ _ (by decide) (by decide)]
    unfold Dev.gb at hn ⊢
    rw [selAbort_field _ _ _ rfl (by decide)]
    exact hn
  · rw [Dev.gb_raise, Dev.gb_pb_same _ _ _ _ (by decide) (by decide)]

theorem selNoref_pend (hn : d.gb (selS h n) Reg.SEL.SSTAT_NOREF = false) : ((d.selNoref h n).evt (selPg h) 17).pend = true := by
  rw [selNoref_eq, if_neg (by simp [hn]), Dev.evt_raise_own _ (evtImplemented_selNoref h)]
  rfl

end

end Sys2Proof.Machine
end

section
/-! PROOF. O33: what an evaluation at a millisecond boundary leaves in each selector of the leading half (R136 to R142). -/

namespace Sys2Proof.Machine

/-- The words that the checks of a millisecond boundary write lie in these pages. -/
def restWord (a : Nat) : Prop := inBlock .ref a ∨ inBlock .sel a ∨ inBlock .dpl a ∨ inBlock .hld a ∨ inBlock .bnd a

/-- An observation of what neither those words, nor an event, nor an engine of theirs shows. -/
theorem restBlind_of {α : Type} {g : Dev → α} (hw : ∀ d a v, restWord a → g (d.setw a v) = g d) (he : ∀ d pg k, g (d.raise pg k) = g d)
    (hc : ∀ d h c v, g (d.setCand h c v) = g d) (hl : ∀ d h k v, g (d.setLoop h k v) = g d) (hm : ∀ d h v, g (d.setHm h v) = g d)
    (ht : ∀ d h n x, x.count = (d.tb h n).count → g (d.setTb h n x) = g d) (hb : ∀ d h n v, g (d.setBnd h n v) = g d)
    (hr : ∀ d h v, g (d.setRd h v) = g d) : RestBlind g where
  cand h c hlt := ⟨fun d _ _ hf => hw d _ _ (.inl (inBlock_refQ h (by omega) hf)),
    fun d _ => hw d _ _ (.inr (.inl (inBlock_selPg h (by decide)))), fun d u => hc d h c u, fun d k _ => he d _ k⟩
  loop h k hk :=
    { dpl := fun d _ _ hf _ _ _ => hw d _ _ (.inr (.inr (.inl (inBlock_dplL h hk (by omega)))))
      hld := fun d _ _ hf => hw d _ _ (.inr (.inr (.inr (.inl (inBlock_pageAddr .hld h (i := 0) (by omega))))))
      dplEv := fun d _ _ => he d _ _
      hldEv := fun d _ _ => he d _ _
      tsuEv := fun d _ _ => he d _ _
      loop := fun d v => hl d h k v
      hm := fun d v => hm d h v
      tb := fun d x hx => ht d h k x hx }
  bo d h k v hk := (hw _ _ _ (.inr (.inl (inBlock_selS h hk (by decide))))).trans
    (hw d _ _ (.inr (.inl (inBlock_selS h hk (by decide)))))
  base d h n f v hn hf := hw d _ _ (.inr (.inr (.inr (.inr (inBlock_bndN h hn (by omega))))))
  bound := hb
  differ := hr

theorem restBlind_half : RestBlind Dev.half :=
  restBlind_of (fun d a v _ => d.setw_half a v) (fun d pg k => d.raise_half pg k) (fun _ _ _ _ => rfl) (fun _ _ _ _ => rfl)
    (fun _ _ _ => rfl) (fun _ _ _ _ _ => rfl) (fun _ _ _ _ => rfl) fun _ _ _ => rfl

theorem restBlind_sched : RestBlind Dev.sched :=
  restBlind_of (fun d a v _ => d.setw_sched a v) (fun d pg k => d.raise_sched pg k) (fun _ _ _ _ => rfl) (fun _ _ _ _ => rfl)
    (fun _ _ _ => rfl) (fun _ _ _ _ _ => rfl) (fun _ _ _ _ => rfl) fun _ _ _ => rfl

theorem restBlind_red (h : Half) : RestBlind fun d => d.w (redPg h + Reg.RED.RSTAT_HJOIN.off) :=
  have hne {a : Nat} (ha : restWord a) : redPg h + Reg.RED.RSTAT_HJOIN.off ≠ a := by
    have hr : inBlock .red (redPg h + Reg.RED.RSTAT_HJOIN.off) := inBlock_pageAddr .red h (i := 0) (by decide)
    rcases ha with ha | ha | ha | ha | ha <;> exact ne_of_inBlock hr ha
  restBlind_of (fun d a v ha => by rw [Dev.w_setw, if_neg (hne ha)]) (fun _ _ _ => rfl) (fun _ _ _ _ => rfl) (fun _ _ _ _ => rfl)
    (fun _ _ _ => rfl) (fun _ _ _ _ _ => rfl) (fun _ _ _ _ => rfl) fun _ _ _ => rfl

/-! ### Before a selector's own evaluation -/

/-- The device on which the selectors are evaluated: the candidates' faults are taken first. -/
def Dev.faultsTaken (d : Dev) : Dev := d.both fun g e => if e.loopsRun g then candsEvaluated g e else e

theorem RestBlind.faultsTaken {α : Type} {g : Dev → α} (hg : RestBlind g) (d : Dev) : g d.faultsTaken = g d :=
  both_blind d fun h e => keeps_ite (hg.candsEvaluated e h) rfl

theorem faultsTaken_lead (d : Dev) : d.faultsTaken.lead = d.lead :=
  Dev.lead_congr (restBlind_half.faultsTaken d) fun h => (restBlind_red h).faultsTaken d

theorem faultsTaken_schedCount (d : Dev) : d.faultsTaken.schedCount = d.schedCount := by
  unfold Dev.schedCount
  rw [restBlind_sched.faultsTaken d]
  exact (restBlind_count d.sched.half 0).faultsTaken d

/-- What the evaluations of other selectors leave for this one. -/
structure SelReady (h : Half) (n : Nat) (d e : Dev) : Prop where
  stays  : SelStays h n d e
  leads  : e.lead = d.lead
  time   : e.schedCount = d.schedCount
  action : e.selAction h n = d.selAction h n

theorem selKeeps_ready {h : Half} {n k : Nat} (hn : n < 16) (hk : k < 16) (d : Dev) (g : Half) (hne : k ≠ n) :
    SelKeeps (SelReady h n d) g k where
  word e f v hf hd := by
    have hw (a : Nat) (ha : a ≠ selS g k + f.off) : (e.p (selS g k) f v).w a = e.w a := e.w_p_ne _ _ _ _ ha
    have hb : inBlock .sel (selS g k + f.off) := inBlock_selS g hk (by omega)
    refine ⟨(selKeeps_stays hn hk d g (.inl hne)).word e f v hf hd.stays, ?_, hd.time, ?_⟩
    · exact (Dev.lead_congr (e.p_half _ _ _) fun x => hw _ (ne_of_inBlock (inBlock_pageAddr .red x (i := 0) (by decide)) hb)).trans hd.leads
    · refine (selAction_congr (fun a ha => hw a ?_) rfl rfl).trans hd.action
      rcases ha with rfl | ⟨o, ho, rfl⟩ | ha
      · have := half_num_lt g
        have := half_num_lt h
        unfold selS selPg pageAddr
        omega
      · exact selS_ne hk hn (.inl hne) (by omega) (by omega)
      · exact ne_of_inBlock ha hb
  engine e v hd := ⟨(selKeeps_stays hn hk d g (.inl hne)).engine e v hd.stays, hd.leads, hd.time,
    (selAction_congr (d := e) (e := e.setSel g k v) (fun _ _ => rfl) rfl (e.sel_setSel_ne hk hn (.inl hne) v)).trans hd.action⟩
  event e j hd := ⟨(selKeeps_stays hn hk d g (.inl hne)).event e j hd.stays, hd.leads, hd.time,
    (selAction_congr (d := e) (e := e.raise (selPg g) j) (fun _ _ => rfl) rfl rfl).trans hd.action⟩
  noted e l hd := ⟨(selKeeps_stays hn hk d g (.inl hne)).noted e l hd.stays, hd.leads, hd.time,
    (selAction_congr (d := e) (e := { e with sched := { e.sched with diffs := l } }) (fun _ _ => rfl) rfl rfl).trans hd.action⟩

/-- The evaluations of the selectors before one, its own, and those after it. -/
theorem Dev.each_own {Q R : Dev → Prop} {d : Dev} {f : Nat → Dev → Dev} {j : Nat} (h0 : Q d) (hQ : ∀ i < j, ∀ e, Q e → Q (f i e))
    (hown : ∀ e, Q e → R (f j e)) : ∀ {k : Nat}, j < k → (∀ i < k, j < i → ∀ e, R e → R (f i e)) → R (d.each k f) := by
  intro k hj hR
  induction k with
  | zero => omega
  | succ k ih =>
    rw [Dev.each_succ]
    by_cases hjk : j = k
    · subst hjk
      exact hown _ (Dev.each_ind h0 hQ)
    · exact hR k (Nat.lt_succ_self k) (by omega) _ (ih (by omega) fun i hi => hR i (by omega))

/-- What follows the selectors' evaluation at the same boundary. -/
def Dev.selChecked (d : Dev) : Dev :=
  diffNoted (((solTimeout d).both fun h e => e.each 16 fun k x => loopChecked h k x).both fun h e => boundBases h e)

theorem RestBlind.selChecked {α : Type} {g : Dev → α} (hg : RestBlind g) (d : Dev) : g d.selChecked = g d := by
  have h1 := hg.solTimeout d
  have h2 : g ((Machine.solTimeout d).both fun h e => e.each 16 fun k x => Machine.loopChecked h k x) = g (Machine.solTimeout d) :=
    both_blind _ fun h e => Dev.each_keeps g 16 _ e fun k hk x => hg.loopChecked x h hk
  exact (hg.diffNoted _).trans ((both_blind _ fun h e => hg.boundBases e h).trans (h2.trans h1))

/-- An evaluation carries out in a selector of the leading half what is decided for it on the candidates' faults. -/
theorem selectorsEvaluated_own (d : Dev) {n : Nat} (hn : n < 16) : ∃ e, SelReady d.lead n d.faultsTaken e ∧
    SelStays d.lead n (e.selApply d.lead n (d.faultsTaken.selAction d.lead n)) (selectorsEvaluated d) := by
  obtain ⟨h, hl⟩ : ∃ h, h = d.lead := ⟨_, rfl⟩
  rw [← hl]
  have hlast : ∃ e, SelReady h n d.faultsTaken e ∧ SelStays h n (e.selApply h n (d.faultsTaken.selAction h n))
      (d.faultsTaken.each 16 fun n e => e.selEvaluateOne n) := by
    refine Dev.each_own (Q := SelReady h n d.faultsTaken) (j := n)
      (R := fun x => ∃ e, SelReady h n d.faultsTaken e ∧ SelStays h n (e.selApply h n (d.faultsTaken.selAction h n)) x)
      ⟨.refl _, rfl, rfl, rfl⟩ ?_ ?_ hn ?_
    · exact fun i hi e he => SelKeeps.selEvaluateOne (fun g => selKeeps_ready hn (by omega) _ g (by omega)) he
    · intro e he
      refine ⟨e, he, ?_⟩
      have ho : h.other ≠ h := by cases h <;> decide
      refine SelKeeps.selEvaluateOne_led (selKeeps_stays hn hn _ h.other (.inr ho)) (he.leads.trans ((faultsTaken_lead d).trans hl.symm)) ?_
      rw [he.action]
      exact .refl _
    · rintro i hi hni x ⟨e, he, hx⟩
      exact ⟨e, he, SelKeeps.selEvaluateOne (fun g => selKeeps_stays hn hi _ g (.inl (by omega))) hx⟩
  obtain ⟨e, he, hx⟩ := hlast
  exact ⟨e, he, hx.trans (.of_view ((restBlind_selSeen h hn).selChecked _))⟩

theorem selKeeps_count (g : Half) (k : Nat) (h : Half) (n c : Nat) : SelKeeps (fun e => e.count g k = c) h n where
  word e _ _ _ he := (Dev.count_congr (e.p_tbs _ _ _) g k).trans he
  engine _ _ he := he
  event e _ he := (Dev.count_congr (e.raise_tbs _ _) g k).trans he
  noted _ _ he := he

theorem selectorsEvaluated_count (d : Dev) (g : Half) (k : Nat) : (selectorsEvaluated d).count g k = d.count g k := by
  have hg := restBlind_count g k
  have h1 : (d.faultsTaken.each 16 fun n e => e.selEvaluateOne n).count g k = d.count g k :=
    Dev.each_ind (P := fun e => e.count g k = d.count g k) (hg.faultsTaken d) fun n _ e he =>
      SelKeeps.selEvaluateOne (fun h => selKeeps_count g k h n _) he
  exact (hg.selChecked _).trans h1

theorem selAction_start_lt {d : Dev} {h : Half} {n c ms : Nat} (ha : d.selAction h n = .start c ms ∨ d.selAction h n = .restart c ms) :
    c < 32 := by
  unfold Dev.selAction at ha
  dsimp only at ha
  cases hb : d.best h n (d.selectable h n) with
  | none =>
    simp only [hb] at ha
    split_ifs at ha <;> rcases ha with ha | ha <;> cases ha
  | some b =>
    have hlt : b < 32 := selectable_lt (best_mem hb)
    cases hw : d.wanted h n with
    | none =>
      simp only [hb, hw] at ha
      split_ifs at ha <;> rcases ha with ha | ha <;> cases ha
      exact hlt
    | some x =>
      have hx : x < 32 := wanted_lt hw
      simp only [hb, hw] at ha
      split_ifs at ha <;> rcases ha with ha | ha <;> cases ha <;> assumption

theorem selReady_schedCount (d : Dev) (h : Half) (n : Nat) (a : SelAct) : (d.selReady h n a).schedCount = d.schedCount := by
  have h1 : (d.pb (selS h n) Reg.SEL.SSTAT_FORCED (d.selMode h n == 1)).schedCount = d.schedCount :=
    Dev.count_congr (d.p_tbs _ _ _) _ 0
  exact (Dev.compared_blind _ h 20 (g := Dev.schedCount) (fun _ => rfl) (fun _ _ => rfl) _ _).trans h1

/-- Settles O33: what is decided for a selector on the candidates' faults is carried out in it, and neither the other selectors'
evaluations nor the checks that follow touch its status, its counts or its engine. -/
theorem evaluationDecidesEachSelector : Obligations.EvaluationDecidesEachSelector := by
  unfold Obligations.EvaluationDecidesEachSelector
  intro n s h a
  obtain ⟨e, he, ht⟩ := selectorsEvaluated_own s.dev n.isLt
  change SelStays h n.val (e.selApply h n.val a) _ at ht
  have hstart (c ms : Nat) (hc : a = .start c ms ∨ a = .restart c ms) : c < 32 := selAction_start_lt hc
  clear_value a
  have hs : SelStays h n.val s.dev e := (SelStays.of_view ((restBlind_selSeen h n.isLt).faultsTaken s.dev)).trans he.stays
  have htime : e.schedCount = s.dev.schedCount := he.time.trans (faultsTaken_schedCount s.dev)
  have hstat {f : Fld} (b : SelAct) (hf : f.off = 0x10) (hb : 15 ≤ f.lo ∨ f.lo + f.len ≤ 14) :
      (e.selReady h n.val b).g (selS h n.val) f = s.dev.g (selS h n.val) f :=
    (selReady_field e h n.val b (.inr hb)).trans (hs.field hf)
  have hxph (b : SelAct) : (e.selReady h n.val b).xph h n.val = s.dev.xph h n.val := hstat b rfl (by decide)
  have hcnt (b : SelAct) (hx : s.dev.xph h n.val ≠ 0) : ((e.selReady h n.val b).selAbort h n.val).g (selS h n.val)
      Reg.SEL.SWCNT_ABORTS = (s.dev.g (selS h n.val) Reg.SEL.SWCNT_ABORTS + 1) % 2 ^ 16 := by
    rw [selAbort_aborts _ _ _ (by rw [hxph]; exact hx), selReady_field e h n.val b (.inl (by decide)), hs.count rfl]
  refine ⟨_, rfl, s.keepsRest_withDev _, fun g k _ => selectorsEvaluated_count s.dev g k, ?_, ?_, ?_, ?_, ?_, ?_⟩
  · rintro rfl
    exact ⟨(ht.field rfl).trans (hstat _ rfl (by decide)), (ht.field rfl).trans (hstat _ rfl (by decide)),
      (ht.field rfl).trans (hstat _ rfl (by decide))⟩
  · rintro rfl
    refine ⟨(ht.field rfl).trans (selNoref_selC _ h n.val), (ht.field rfl).trans (selNoref_xph _ h n.val),
      (congrArg (· == 1) (ht.field rfl)).trans (selNoref_noref _ h n.val), fun hn => ht.noref (selNoref_pend _ h n.val ?_)⟩
    exact (congrArg (· == 1) (hstat _ rfl (by decide))).trans hn
  · rintro rfl
    refine ⟨(ht.field rfl).trans ((selAbort_field _ h n.val rfl (by decide)).trans (hstat _ rfl (by decide))),
      (ht.field rfl).trans (selAbort_xph _ h n.val), ?_⟩
    exact (congrArg SelSt.drop ht.engine).trans <| (selAbort_drop _ h n.val).trans (selReady_drop e h n.val _)
  · rintro c ms rfl
    obtain ⟨hsince, hms⟩ := selBegin_engine (e.selReady h n.val (.start c ms)) h n.val c ms
    refine ⟨(ht.field rfl).trans ((selBegin_field _ h n.val c ms (by decide)).trans (hstat _ rfl (by decide))),
      (ht.field rfl).trans (selBegin_xph _ h n.val c ms), (ht.field rfl).trans (selBegin_tgtC _ h n.val (hstart c ms (.inl rfl)) ms), ?_, ?_⟩
    · exact (congrArg SelSt.since ht.engine).trans (hsince.trans ((selReady_schedCount e h n.val _).trans htime))
    · exact (congrArg SelSt.decide ht.engine).trans hms
  · rintro rfl
    exact ⟨(ht.field rfl).trans ((selAbort_field _ h n.val rfl (by decide)).trans (hstat _ rfl (by decide))),
      (ht.field rfl).trans (selAbort_xph _ h n.val), fun hx => (ht.count rfl).trans (hcnt _ hx)⟩
  · rintro c ms rfl
    exact ⟨(ht.field rfl).trans ((selBegin_field _ h n.val c ms (by decide)).trans ((selAbort_field _ h n.val rfl (by decide)).trans
        (hstat _ rfl (by decide)))),
      (ht.field rfl).trans (selBegin_xph _ h n.val c ms), (ht.field rfl).trans (selBegin_tgtC _ h n.val (hstart c ms (.inr rfl)) ms),
      fun hx => (ht.count rfl).trans ((selBegin_field _ h n.val c ms (by decide)).trans (hcnt _ hx))⟩

end Sys2Proof.Machine
end

section
/-! PROOF. O34: the timers of a transaction (R140), of a restored candidate (R143) and of the vote (R144). -/

namespace Sys2Proof.Machine

theorem decideEnd_starts {h : Half} {n : Fin 16} {s : State} (hx : s.dev.xph h n.val = 1)
    (ht : msOf (s.dev.sel h n.val).since + (s.dev.sel h n.val).decide ≤ msOf s.dev.schedCount) :
    exec (.decideEnd h n) s = .next (s.withDev ((s.dev.p (selS h n.val) Reg.SEL.SSTAT_XPH 2).setSel h n.val
      { s.dev.sel h n.val with
        since := s.dev.schedCount, decide := s.dev.g (selS h n.val) Reg.SEL.BUILD, boSum := 0, boN := 0, ready := false })) := by
  refine next_onDev ?_
  unfold decideEnded
  exact if_pos (by simp [hx, ht])

theorem buildOutEnd_ends {h : Half} {n : Fin 16} {s : State} (hx : s.dev.xph h n.val = 2) (hr : (s.dev.sel h n.val).ready = false)
    (hn : 2 ≤ (s.dev.sel h n.val).boN)
    (ht : (s.dev.sel h n.val).since + (s.dev.sel h n.val).decide * (10 ^ 6 * nsUnit) ≤ s.dev.schedCount) :
    exec (.buildOutEnd h n) s = .next (s.withDev (s.dev.setSel h n.val
      { s.dev.sel h n.val with
        ready := true, endNo := (s.dev.cand h (s.dev.tgtC h n.val)).measNo
        boSum := meanNearest (s.dev.sel h n.val).boSum (s.dev.sel h n.val).boN })) := by
  refine next_onDev ?_
  unfold buildOutEnded
  exact if_pos (by rw [hx, hr, decide_eq_true hn, decide_eq_true ht]; rfl)

/-! ### A vote window's end -/

/-- An observation of what a vote, and what the bounds make of it, do not touch. -/
structure VoteBlind {α : Type} (g : Dev → α) : Prop where
  word   : ∀ d b f v, g (d.p b f v) = g d
  setw   : ∀ d a v, g (d.setw a v) = g d
  event  : ∀ d pg k, g (d.raise pg k) = g d
  engine : ∀ d h c v, g (d.setCand h c v) = g d
  since  : ∀ (d : Dev) x, g { d with disAt := x } = g d

section
variable {α : Type} {g : Dev → α} (hg : VoteBlind g) (d : Dev)
include hg

theorem VoteBlind.putCstate (h : Half) (c v : Nat) : g (d.putCstate h c v) = g d := by
  unfold Dev.putCstate Dev.putSuspect
  dsimp only
  rw [hg.engine, hg.setw, hg.word]

theorem VoteBlind.flag (b : Nat) (f : Fld) (v : Bool) : g (d.pb b f v) = g d := hg.word d b f _

theorem VoteBlind.clearSuspect (h : Half) (c : Nat) (near : Bool) : g (d.clearSuspect h c near) = g d := by
  unfold Dev.clearSuspect
  dsimp only
  refine keeps_ite rfl (keeps_ite ?_ (hg.engine _ _ _ _))
  rw [hg.event, hg.putCstate]

theorem VoteBlind.markSuspect (h : Half) (c : Nat) : g (d.markSuspect h c) = g d := by
  unfold Dev.markSuspect
  refine keeps_ite ?_ rfl
  rw [hg.event, hg.putCstate]

theorem VoteBlind.voteGroup (h : Half) (hs : List Half) (vs : List (Nat × Int)) : g (d.voteGroup h hs vs) = g d := by
  unfold Dev.voteGroup
  extract_lets lim third m d1
  clear_value m lim
  have h1 : g d1 = g d := by
    refine foldl_keeps (fun e x => ?_) hs d
    refine foldl_keeps (fun y v => ?_) vs e
    exact hg.clearSuspect y x v.1 _
  clear_value d1
  have hmark (c : List Nat) : g (hs.foldl (fun e x => c.foldl (fun y c => y.markSuspect x c) e) d1) = g d :=
    (foldl_keeps (fun e x => foldl_keeps (fun y c => hg.markSuspect y x c) c e) hs d1).trans h1
  have hpair (a b r : Nat) (again : Dev → Half → Bool) (e : Dev) (x : Half) :
      g (((((e.p (selPg x) Reg.SEL.DIS_PAIR_A a).p (selPg x) Reg.SEL.DIS_PAIR_B b).pb (selPg x)
        Reg.SEL.DIS_PAIR_ACTIVE true).p (selPg x) Reg.SEL.DIS_RATE r).raiseIf (!again e x) (selPg x) 18) = g e := by
    rw [raiseIf_blind (hg.event _ _ _), hg.word, hg.flag, hg.word, hg.word]
  split
  · exact h1
  · extract_lets same d2
    have h2 : g d2 = g d := keeps_ite h1 ((hg.since d1 _).trans h1)
    clear_value d2
    split
    · exact (foldl_keeps (fun e x => hpair _ _ _ same e x) hs d2).trans h2
    · exact hmark _

end

/-- The device at the end of a vote, before the next window opens. -/
def Dev.voted (d : Dev) : Dev :=
  let hs := d.halvesInService
  let d1 := if d.pairSettled d.lead then hs.foldl (fun e x => e.pb (selPg x) Reg.SEL.DIS_PAIR_ACTIVE false) d else d
  (d.voteGroups d.lead).foldl (fun e g => e.voteGroup d.lead hs g) d1

theorem voteClosed_eq {d : Dev} (hd : d.voteDue = true) : voteClosed d = d.voted.voteOpen := by
  unfold voteClosed
  rw [hd]
  rfl

theorem VoteBlind.voted {α : Type} {g : Dev → α} (hg : VoteBlind g) (d : Dev) : g d.voted = g d := by
  unfold Dev.voted
  extract_lets hs d1
  have h1 : g d1 = g d := keeps_ite (foldl_keeps (fun e x => hg.flag e _ _ _) hs d) rfl
  clear_value d1
  exact (foldl_keeps (fun e vs => hg.voteGroup e _ hs vs) _ d1).trans h1

theorem voteBlind_tbs : VoteBlind Dev.tbs :=
  ⟨fun d _ _ _ => d.p_tbs _ _ _, fun d _ _ => d.setw_tbs _ _, fun d _ _ => d.raise_tbs _ _, fun _ _ _ _ => rfl, fun _ _ => rfl⟩

theorem voteBlind_sched : VoteBlind Dev.sched :=
  ⟨fun d _ _ _ => d.p_sched _ _ _, fun d _ _ => d.setw_sched _ _, fun d _ _ => d.raise_sched _ _, fun _ _ _ _ => rfl, fun _ _ => rfl⟩

theorem voted_schedCount (d : Dev) : d.voted.schedCount = d.schedCount := by
  unfold Dev.schedCount
  rw [voteBlind_sched.voted]
  exact Dev.count_congr (voteBlind_tbs.voted d) _ 0

/-! ### The next window -/

/-- What a new vote window starts from in a candidate (R144). -/
def Dev.votePhase (d : Dev) (h : Half) (c : Nat) : Option Int := if d.usable h c then some (d.phase h c) else none

theorem Dev.votePhase_of_w {d e : Dev} {h : Half} {c : Nat} (hw : ∀ o < 0x40, e.w (refQ h c + o) = d.w (refQ h c + o)) :
    e.votePhase h c = d.votePhase h c := by
  have hg {f : Fld} (hf : f.off < 0x40) : e.g (refQ h c) f = d.g (refQ h c) f := Dev.g_of_w (hw _ hf)
  unfold Dev.votePhase Dev.usable Dev.cstate Dev.phase Dev.s48 Dev.g2
  rw [hg (by decide), hg (by decide), hg (by decide)]

theorem Dev.cand_setCand_ne (d : Dev) {g h : Half} {k c : Nat} (hne : h.num * 32 + c ≠ g.num * 32 + k) (v : Cand) :
    (d.setCand g k v).cand h c = d.cand h c := Tab.get_set_ne (fun _ => ({} : Cand)) _ _ _ _ hne

/-- What is seen of the engine of each candidate is kept where it is kept of the one replaced. -/
theorem Dev.cand_setCand_view {β : Type} (f : Cand → β) (d : Dev) {g : Half} {k : Nat} {v : Cand} (hv : f v = f (d.cand g k)) (h : Half) (c : Nat) :
    f ((d.setCand g k v).cand h c) = f (d.cand h c) := by
  by_cases hk : h.num * 32 + c = g.num * 32 + k
  · have hc : d.cand h c = d.cand g k := by
      unfold Dev.cand
      rw [hk]
    have hs : (d.setCand g k v).cand h c = (d.setCand g k v).cand g k := by
      unfold Dev.cand
      rw [hk]
    rw [hs, Dev.cand_setCand_same, hv, hc]
  · rw [d.cand_setCand_ne hk]

/-- A candidate's phase noted at the start of a window. -/
def Dev.phaseNoted (d : Dev) (h : Half) (c : Nat) : Dev := d.setCand h c { d.cand h c with votePh := d.votePhase h c }

/-- The phases of a half's candidates noted. -/
def Dev.phasesNoted (d : Dev) (h : Half) : Dev := d.each 30 fun c x => x.phaseNoted h c

theorem voteOpen_eq (d : Dev) : d.voteOpen = { (d.phasesNoted .warp).phasesNoted .weft with voteAt := d.schedCount } := by
  unfold Dev.voteOpen Dev.phasesNoted Dev.phaseNoted Dev.votePhase
  simp only [List.foldl_cons, List.foldl_nil]

theorem phasesNoted_regs (h : Half) (d : Dev) : (d.phasesNoted h).regs = d.regs := Dev.each_keeps Dev.regs 30 _ d fun _ _ _ => rfl

theorem phasesNoted_tbs (h : Half) (d : Dev) : (d.phasesNoted h).tbs = d.tbs := Dev.each_keeps Dev.tbs 30 _ d fun _ _ _ => rfl

theorem phasesNoted_own (h : Half) {c : Nat} (hc : c < 30) (d : Dev) : ((d.phasesNoted h).cand h c).votePh = d.votePhase h c := by
  have hown (e : Dev) (he : e.regs = d.regs) : ((e.phaseNoted h c).cand h c).votePh = d.votePhase h c := by
    unfold Dev.phaseNoted
    rw [Dev.cand_setCand_same]
    exact Dev.votePhase_of_w fun _ _ => Dev.w_congr he _
  have hafter (i : Nat) (hi : c < i) (e : Dev) (he : (e.cand h c).votePh = d.votePhase h c) :
      ((e.phaseNoted h i).cand h c).votePh = d.votePhase h c := by
    unfold Dev.phaseNoted
    rw [e.cand_setCand_ne (by omega)]
    exact he
  exact Dev.each_own (f := fun c x => x.phaseNoted h c) (Q := fun e => e.regs = d.regs) (R := fun e => (e.cand h c).votePh = d.votePhase h c)
    rfl (fun i hi e he => he) hown hc fun i _ hci e he => hafter i hci e he

theorem phasesNoted_other {g h : Half} (hne : h ≠ g) {c : Nat} (hc : c < 30) (d : Dev) :
    ((d.phasesNoted g).cand h c).votePh = (d.cand h c).votePh := by
  have hn : h.num ≠ g.num := fun he => hne (half_num_inj he)
  refine Dev.each_keeps (fun e => (e.cand h c).votePh) 30 _ d fun i hi e => ?_
  unfold Dev.phaseNoted
  rw [e.cand_setCand_ne (by omega)]

theorem voteOpen_votePh (d : Dev) (h : Half) {c : Nat} (hc : c < 30) : (d.voteOpen.cand h c).votePh = d.votePhase h c := by
  have hv (e : Dev) (v : Nat) : ({ e with voteAt := v } : Dev).cand h c = e.cand h c := rfl
  rw [voteOpen_eq, hv]
  cases h with
  | warp => rw [phasesNoted_other (by decide) hc, phasesNoted_own .warp hc]
  | weft =>
    rw [phasesNoted_own .weft hc]
    exact Dev.votePhase_of_w fun _ _ => Dev.w_congr (phasesNoted_regs .warp d) _

theorem voteOpen_regs (d : Dev) : d.voteOpen.regs = d.regs := by
  have hv (e : Dev) (v : Nat) : ({ e with voteAt := v } : Dev).regs = e.regs := rfl
  rw [voteOpen_eq, hv, phasesNoted_regs, phasesNoted_regs]

theorem voteOpen_tbs (d : Dev) : d.voteOpen.tbs = d.tbs := by
  have hv (e : Dev) (v : Nat) : ({ e with voteAt := v } : Dev).tbs = e.tbs := rfl
  rw [voteOpen_eq, hv, phasesNoted_tbs, phasesNoted_tbs]

/-! ### The bounds after a vote -/

theorem heldBound_keeps {α : Type} {g : Dev → α} {h : Half} {n : Nat} (hp : ∀ d f v, f.off < 0x20 → g (d.p (bndN h n) f v) = g d) (d : Dev)
    (v : Nat) : g (d.hold_ h n v) = g d := by
  unfold Dev.hold_
  exact (hp _ Reg.BND.BSTAT_HELD_ACT _ (by decide)).trans (hp d Reg.BND.HELD _ (by decide))

theorem boundVoted_keeps {α : Type} {g : Dev → α} {h : Half} (hc : ∀ d c b, g (d.setCand h c { d.cand h c with clean := b }) = g d)
    (hp : ∀ d n f v, n < 16 → f.off < 0x20 → g (d.p (bndN h n) f v) = g d) (old d : Dev) : g (boundVoted old h d) = g d := by
  unfold boundVoted
  extract_lets d1
  have h1 : g d1 = g d := Dev.each_keeps g 30 _ d fun c _ e => hc e c _
  clear_value d1
  refine (Dev.each_keeps g 16 _ d1 fun n hn e => ?_).trans h1
  exact keeps_ite (heldBound_keeps (fun e f v hf => hp e n f v hn hf) e _) rfl

theorem boundVoted_votePh (old d : Dev) (g h : Half) (c : Nat) : ((boundVoted old g d).cand h c).votePh = (d.cand h c).votePh :=
  boundVoted_keeps (g := fun e => (e.cand h c).votePh) (fun e k b => e.cand_setCand_view Cand.votePh (v := { e.cand g k with clean := b }) rfl h c) (fun _ _ _ _ _ _ => rfl) old d

theorem boundVoted_w (old d : Dev) (g : Half) {a : Nat} (ha : inBlock .ref a) : (boundVoted old g d).w a = d.w a :=
  boundVoted_keeps (g := fun e => e.w a) (fun _ _ _ => rfl)
    (fun e n _ _ hn hf => e.w_p_ne _ _ _ _ (ne_of_inBlock ha (inBlock_bndN g hn (by omega)))) old d

/-- Settles O34: the vote moves no timebase, and what the bounds make of it shows neither in the phases of the new window nor in
the candidates' registers. -/
theorem transactionsTimersAndVoteWindows : Obligations.TransactionsTimersAndVoteWindows := by
  unfold Obligations.TransactionsTimersAndVoteWindows
  refine ⟨fun h n s hx ht => ?_, fun h n s hx hr hn ht => ?_, fun h n c s ht => ?_, fun h n c s => ⟨fun hd => ?_, fun hd => ?_, fun hd => ?_, fun hd => ?_⟩,
    fun s hd => ?_⟩
  · refine ⟨_, decideEnd_starts hx ht, ?_, ?_, ?_, ?_, fun k hk hne => Dev.sel_setSel_ne _ n.isLt hk (.inl (Ne.symm hne)) _, ?_⟩
    · exact Dev.g_p_same _ _ _ _ (by decide)
    · exact congrArg SelSt.boN (Dev.sel_setSel_same _ h n.val _)
    · exact congrArg SelSt.since (Dev.sel_setSel_same _ h n.val _)
    · exact congrArg SelSt.decide (Dev.sel_setSel_same _ h n.val _)
    · exact ((Dev.touches.refl s.dev [selS h n.val + 0x10] []).p (f := Reg.SEL.SSTAT_XPH) (List.mem_singleton_self _) 2).onlyTouches
  · exact ⟨_, buildOutEnd_ends hx hr hn ht, congrArg SelSt.ready (Dev.sel_setSel_same _ h n.val _),
      congrArg SelSt.boSum (Dev.sel_setSel_same _ h n.val _), rfl, s.keepsRest_withDev _⟩
  · refine ⟨s.withDev { s.dev with wtr := tset 0 s.dev.wtr ((h.num * 16 + n.val) * 32 + c.val) 0 },
      next_onDev (if_pos ht), ?_, rfl, s.keepsRest_withDev _⟩
    have hz : tget 0 (tset 0 s.dev.wtr ((h.num * 16 + n.val) * 32 + c.val) 0) ((h.num * 16 + n.val) * 32 + c.val) = 0 :=
      Tab.get_set_same (fun _ => (0 : Nat)) _ _ _
    exact bne_eq_false_iff_eq.2 hz
  · exact next_onDev (d := s.dev) (if_neg (by simp [hd]))
  · exact next_onDev (d := s.dev) (if_neg (by rw [hd]; exact Bool.false_ne_true))
  · exact next_onDev (d := s.dev) (if_neg (Nat.not_le.2 hd))
  · exact next_onDev (d := s.dev) (if_neg (by rw [hd]; exact Bool.false_ne_true))
  · have hdue : s.dev.voteDue = true := decide_eq_true hd
    have hend : voteEnded s.dev = boundVoted s.dev .weft (boundVoted s.dev .warp s.dev.voted.voteOpen) := by
      unfold voteEnded
      rw [if_pos hdue, voteClosed_eq hdue]
      rfl
    have hph (h : Half) (c : Nat) (hc : c < 30) : ((voteEnded s.dev).cand h c).votePh = (voteEnded s.dev).votePhase h c := by
      rw [hend, boundVoted_votePh, boundVoted_votePh, voteOpen_votePh _ h hc]
      refine (Dev.votePhase_of_w fun o ho => ?_).symm
      have ha := inBlock_refQ h (c := c) (o := o) (by omega) ho
      rw [boundVoted_w _ _ _ ha, boundVoted_w _ _ _ ha, Dev.w_congr (voteOpen_regs _)]
    refine ⟨_, rfl, ?_, hph, ?_, s.keepsRest_withDev _⟩
    · have hkeep (g : Half) (e : Dev) : (boundVoted s.dev g e).voteAt = e.voteAt :=
        boundVoted_keeps (g := Dev.voteAt) (fun _ _ _ => rfl) (fun d _ _ _ _ _ => d.p_voteAt _ _ _) s.dev e
      refine (congrArg Dev.voteAt hend).trans ?_
      rw [hkeep, hkeep, voteOpen_eq]
      exact voted_schedCount s.dev
    · have hkeep (g : Half) (e : Dev) : (boundVoted s.dev g e).tbs = e.tbs :=
        boundVoted_keeps (g := Dev.tbs) (fun _ _ _ => rfl) (fun d _ _ _ _ _ => d.p_tbs _ _ _) s.dev e
      refine (congrArg Dev.tbs hend).trans ?_
      rw [hkeep, hkeep, voteOpen_tbs, voteBlind_tbs.voted]

end Sys2Proof.Machine
end

section
/-! PROOF. O36: a realign asked for, refused or waiting, and its step at the second boundary (R161, R76, R204). -/

namespace Sys2Proof.Machine

/-! ### What follows a step where nothing is armed and nothing held -/

/-- An observation of what follows a step leaves: words, leaps, smears, gates and the step generation show nowhere in it. -/
structure StepBlind {α : Type} (g : Dev → α) (h : Half) (n : Nat) : Prop where
  word : ∀ d b f v, g (d.p b f v) = g d
  tb   : ∀ d x, x.padjRem = (d.tb h n).padjRem → g (d.setTb h n x) = g d
  gate : ∀ d p v, g (d.setGate p v) = g d
  gen  : ∀ (d : Dev) x, g { d with stepgen := x } = g d

theorem gateFlush_none {d : Dev} {p : Nat} (hd : (d.gate p).held = []) (status : Nat) (c : GFrame → Bool) :
    d.gateFlush p status c = d.setGate p (d.gate p) := by
  have hst : ({ d.gate p with held := [] } : GateSt) = d.gate p := by rw [← hd]
  unfold Dev.gateFlush
  dsimp only
  rw [hd, List.filter_nil, List.filter_nil, List.foldl_nil, hst]

section
variable {α : Type} {g : Dev → α} {h : Half} {n : Nat} (hg : StepBlind g h n) (d : Dev)
include hg

theorem StepBlind.flag (b : Nat) (f : Fld) (v : Bool) : g (d.pb b f v) = g d := hg.word d b f _

theorem StepBlind.leapRefresh : g (leapRefresh h n d) = g d := by
  unfold Machine.leapRefresh
  dsimp only
  refine (hg.tb _ _ ?_).trans ?_
  · rfl
  · rw [hg.word, hg.flag, hg.flag]

theorem StepBlind.smearClose : g (smearClose h n d) = g d := by
  unfold Machine.smearClose
  cases hw : (d.tb h n).win with
  | none => rfl
  | some w =>
    dsimp only
    refine keeps_ite ((hg.tb _ _ ?_).trans (hg.flag d _ _ _)) rfl
    rfl

theorem StepBlind.smearStepped : g (smearStepped h n d) = g d := by
  unfold Machine.smearStepped
  cases hw : (d.tb h n).win with
  | none => rfl
  | some w =>
    dsimp only
    refine keeps_ite ((hg.tb _ _ ?_).trans (hg.flag d _ _ _)) (hg.smearClose d)
    rfl

theorem StepBlind.gateStepped (hd : ∀ p < 8, (d.gate p).held = []) : g (gateStepped h d) = g d := by
  have hn := half_num_lt h
  unfold Machine.gateStepped
  extract_lets d1
  have h1 : g d1 = g d := hg.gen d _
  have hd1 : ∀ p < 8, (d1.gate p).held = [] := hd
  clear_value d1
  refine (Dev.each_ind (P := fun e => (∀ p < 8, (e.gate p).held = []) ∧ g e = g d) ⟨hd1, h1⟩ fun j hj e he => ?_).2
  have hh := he.1 (2 * j + h.num) (by omega)
  rw [gateFlush_none hh]
  refine ⟨fun p hp => ?_, (hg.gate e _ _).trans he.2⟩
  rw [Dev.gate_setGate]
  split
  · exact hh
  · exact he.1 p hp

end

/-- Where no entry is armed and no gate holds a frame, the status of leaps and smears and the gates follow a step, and nothing else. -/
theorem steppedAfter_calm {d : Dev} {h : Half} {n : Nat} (hn : n < 16) (ha : ∀ i < 64, d.ttaArmed h i = false)
    (hd : ∀ p < 8, (d.gate p).held = []) (nv : NV) : ∃ e, e = smearStepped h n (leapRefresh h n d) ∧
      (∀ p < 8, (e.gate p).held = []) ∧ steppedAfter nv h n d = if n = 0 then gateStepped h e else e := by
  obtain ⟨⟨hw, -, hu⟩, -⟩ := smearStepped_touchesTb (leapRefresh_touchesTb (Dev.touchesTb.refl d h n (statWords h n) [])
    (by simp [statWords]) (by simp [statWords])) (by simp [statWords])
  have hgate (p : Nat) : (smearStepped h n (leapRefresh h n d)).gate p = d.gate p := by
    have h1 := congrArg Dev.gates hu.1
    exact congrArg (fun t => tget {} t p) h1
  refine ⟨_, rfl, fun p hp => (hgate p).symm ▸ hd p hp, ?_⟩
  unfold steppedAfter
  generalize smearStepped h n (leapRefresh h n d) = e at hw
  rw [ttaStepped_quiet fun i hi => ?_]
  have hb := inBlock_ttaE h (o := Reg.TTA.ACT_ARM.off) hi (by decide)
  have h2 (o : Nat) (ho : o < 0xD00) := ne_of_inBlock hb (inBlock_tsuB h hn ho)
  have hne : ttaE h i + Reg.TTA.ACT_ARM.off ∉ statWords h n := by simpa [statWords] using ⟨h2 4 (by omega), h2 0x28 (by omega)⟩
  have hwe := hw _ hne
  exact (Dev.gb_of_w hwe).trans (ha i hi)

theorem StepBlind.steppedAfter {α : Type} {g : Dev → α} {h : Half} {n : Nat} (hg : StepBlind g h n) (d : Dev) (hn : n < 16)
    (ha : ∀ i < 64, d.ttaArmed h i = false) (hd : ∀ p < 8, (d.gate p).held = []) (nv : NV) : g (steppedAfter nv h n d) = g d := by
  obtain ⟨e, he, hh, hs⟩ := steppedAfter_calm (h := h) hn ha hd nv
  have hx : g e = g d := by
    rw [he]
    exact (hg.smearStepped _).trans (hg.leapRefresh d)
  rw [hs]
  exact keeps_ite ((hg.gateStepped e hh).trans hx) hx

/-! ### The step of a realign -/

section
variable (d : Dev) (h : Half) (k : Nat)

/-- A realign that has been carried out, before the event. -/
def Dev.realignMoved (d : Dev) (h : Half) (k : Nat) : Dev :=
  ((padjAborted h k d).setLoop h k { d.loop h k with realign := none, eFresh := true }).countMoved h k
    (-(d.s48 (dplL h k) Reg.DPL.PERR_LO Reg.DPL.PERR_HI))

theorem realigned_eq : realigned h k d = ((d.realignMoved h k).putBo h k 0).raise (tsuPg h k) (tbEvt k 0) := by
  unfold realigned Dev.realignMoved
  dsimp only

theorem Dev.tb_raise (pg j : Nat) (g : Half) (n : Nat) : (d.raise pg j).tb g n = d.tb g n := rfl

theorem Dev.loop_raise (pg j : Nat) (g : Half) (n : Nat) : (d.raise pg j).loop g n = d.loop g n := rfl

theorem Dev.loop_p (b : Nat) (f : Fld) (v : Nat) (g : Half) (n : Nat) : (d.p b f v).loop g n = d.loop g n := rfl

theorem Dev.loop_setTb (i : Half) (j : Nat) (x : Tbase) (g : Half) (n : Nat) : (d.setTb i j x).loop g n = d.loop g n := rfl

theorem Dev.loop_setLoop_same (v : LoopSt) : (d.setLoop h k v).loop h k = v := Tab.get_set_same (fun _ => ({} : LoopSt)) _ _ _

theorem Dev.gates_putBo (g : Half) (n : Nat) (v : Int) : (d.putBo g n v).gates = d.gates := (Dev.p_gates _ _ _ _).trans (d.p_gates _ _ _)

theorem Dev.gates_setTb (g : Half) (n : Nat) (x : Tbase) : (d.setTb g n x).gates = d.gates := rfl

theorem Dev.gates_setLoop (g : Half) (n : Nat) (v : LoopSt) : (d.setLoop g n v).gates = d.gates := rfl

theorem Dev.evts_setTb (g : Half) (n : Nat) (x : Tbase) : (d.setTb g n x).evts = d.evts := rfl

theorem Dev.evts_setLoop (g : Half) (n : Nat) (v : LoopSt) : (d.setLoop g n v).evts = d.evts := rfl

theorem realigned_gates : (realigned h k d).gates = d.gates := by
  rw [realigned_eq, Dev.raise_gates, Dev.gates_putBo]
  unfold Dev.realignMoved Dev.countMoved padjAborted
  dsimp only
  rw [Dev.gates_setTb, Dev.gates_setLoop, Dev.gates_setTb, Dev.pb_gates]

theorem Dev.tb_putBo (g : Half) (n : Nat) (v : Int) (i : Half) (j : Nat) : (d.putBo g n v).tb i j = d.tb i j :=
  Dev.tb_congr ((Dev.p_tbs _ _ _ _).trans (d.p_tbs _ _ _)) i j

theorem Dev.tb_setLoop (g : Half) (n : Nat) (v : LoopSt) (i : Half) (j : Nat) : (d.setLoop g n v).tb i j = d.tb i j := rfl

theorem padjAborted_tb : (padjAborted h k d).tb h k = { d.tb h k with padjRem := 0 } := Dev.tb_setTb_same _ _ _ _

theorem countMoved_tb (ps : Int) : (d.countMoved h k ps).tb h k =
    { d.tb h k with count := (((d.count h k : Int) + (ps * nsUnit) / 1000) % countMod).toNat } := Dev.tb_setTb_same _ _ _ _

theorem realigned_tb : (realigned h k d).tb h k =
    { d.tb h k with
      padjRem := 0
      count := (((d.count h k : Int) + (-(d.s48 (dplL h k) Reg.DPL.PERR_LO Reg.DPL.PERR_HI) * nsUnit) / 1000) % countMod).toNat } := by
  rw [realigned_eq, Dev.tb_raise, Dev.tb_putBo]
  unfold Dev.realignMoved
  rw [countMoved_tb, Dev.count, Dev.tb_setLoop, padjAborted_tb]
  rfl

theorem realigned_otherTb {n : Nat} (hne : n ≠ k) : (realigned h k d).tb h n = d.tb h n := by
  have hi : h.num * 16 + n ≠ h.num * 16 + k := by omega
  rw [realigned_eq, Dev.tb_raise, Dev.tb_putBo]
  unfold Dev.realignMoved Dev.countMoved padjAborted
  dsimp only
  rw [Dev.tb_setTb_ne _ _ _ _ hi, Dev.tb_setLoop, Dev.tb_setTb_ne _ _ _ _ hi]
  exact Dev.tb_congr (d.pb_tbs _ _ _) h n

theorem realigned_w {a : Nat} (h4 : a ≠ tsuB h k + 4) (hl : a ≠ selS h k + 0x18) (hh : a ≠ selS h k + 0x1C) :
    (realigned h k d).w a = d.w a := by
  have hp : ((d.realignMoved h k).putBo h k 0).w a = (d.realignMoved h k).w a :=
    (Dev.w_p_ne _ _ Reg.SEL.BO_HI _ _ hh).trans (Dev.w_p_ne _ _ Reg.SEL.BO_LO _ _ hl)
  have hm : (d.realignMoved h k).w a = d.w a := d.w_p_ne (tsuB h k) Reg.TSU.STAT_PADJ_BUSY _ _ h4
  exact hp.trans hm

theorem realigned_busy (hk : k < 16) : (realigned h k d).gb (tsuB h k) Reg.TSU.STAT_PADJ_BUSY = false := by
  have hb := inBlock_tsuB h (o := 4) hk (by omega)
  have hp : ((d.realignMoved h k).putBo h k 0).w (tsuB h k + 4) = (d.realignMoved h k).w (tsuB h k + 4) :=
    (Dev.w_p_ne _ _ Reg.SEL.BO_HI _ _ (ne_of_inBlock hb (inBlock_selS h hk (by decide)))).trans
      (Dev.w_p_ne _ _ Reg.SEL.BO_LO _ _ (ne_of_inBlock hb (inBlock_selS h hk (by decide))))
  have hm : (d.realignMoved h k).gb (tsuB h k) Reg.TSU.STAT_PADJ_BUSY = false := d.gb_pb_same _ _ _ (by decide) (by decide)
  exact (Dev.gb_of_w (o := 4) hp).trans hm

theorem realigned_bo : (realigned h k d).bo h k = 0 := by
  have h2 := Dev.g2_ps48 (d.realignMoved h k) (selS h k) (lo := Reg.SEL.BO_LO) (hi := Reg.SEL.BO_HI) ⟨rfl, rfl⟩ ⟨rfl, rfl⟩ (by decide) 0
  exact congrArg (signedOf 48) h2

theorem Dev.loop_putBo (g : Half) (n : Nat) (v : Int) (i : Half) (j : Nat) : (d.putBo g n v).loop i j = d.loop i j :=
  (Dev.loop_p _ _ _ _ _ _).trans (d.loop_p _ _ _ _ _)

theorem realigned_loop : ((realigned h k d).loop h k).realign = none := by
  rw [realigned_eq, Dev.loop_raise, Dev.loop_putBo]
  unfold Dev.realignMoved Dev.countMoved
  rw [Dev.loop_setTb]
  exact congrArg LoopSt.realign (Dev.loop_setLoop_same _ h k _)

theorem realigned_evt (k : Fin 16) : (realigned h k.val d).evt (tsuPg h k.val) (tbEvt k.val 0) =
    (d.evt (tsuPg h k.val) (tbEvt k.val 0)).occur := by
  have hm : (d.realignMoved h k.val).evts = d.evts := by
    unfold Dev.realignMoved Dev.countMoved padjAborted
    dsimp only
    rw [Dev.evts_setTb, Dev.evts_setLoop, Dev.evts_setTb, Dev.pb_evts]
  have hp : ((d.realignMoved h k.val).putBo h k.val 0).evts = d.evts :=
    (Dev.p_evts _ _ _ _).trans ((Dev.p_evts _ _ _ _).trans hm)
  rw [realigned_eq, Dev.evt_raise_own _ (evtImplemented_tsu h k (by decide)), Dev.evt_congr hp]

end

theorem evtImplemented_dpl (h : Half) (k : Fin 16) {j : Nat} (hj : j < 6) : evtImplemented (dplPg h k.val) (dplEvt k.val j) = true := by
  revert k
  interval_cases j <;> cases h <;> decide

section
variable {s : State} {h : Half} {k : Fin 16}

theorem exec_realign {m : Master} (hw : s.writable m (dplL h k.val)) :
    exec (.realign m h k) s = .next (s.withDev (realignAsked h k.val (s.dev.regAccess m (dplL h k.val)))) := exec_of_writeAt rfl hw

theorem exec_realignApply_waits (hd : s.dev.realignDue h k.val = false) : exec (.realignApply h k) s = .next s :=
  next_onDev (f := realignApplied s.nv h k.val) (d := s.dev) (if_pos (by rw [hd]; rfl))

theorem exec_realignApply_refused (hd : s.dev.realignDue h k.val = true) (hb : s.dev.realignBad h k.val = true) :
    exec (.realignApply h k) s = .next (s.withDev
      ((s.dev.setLoop h k.val { s.dev.loop h k.val with realign := none }).raise (dplPg h k.val) (dplEvt k.val 5))) :=
  next_onDev (f := realignApplied s.nv h k.val) ((if_neg (by rw [hd]; decide)).trans (if_pos hb))

theorem exec_realignApply_taken (hd : s.dev.realignDue h k.val = true) (hb : s.dev.realignBad h k.val = false) :
    exec (.realignApply h k) s = .next (s.withDev (steppedAfter s.nv h k.val (realigned h k.val s.dev))) :=
  next_onDev (f := realignApplied s.nv h k.val)
    ((if_neg (by rw [hd]; decide)).trans (if_neg (by rw [hb]; exact Bool.false_ne_true)))

end

theorem stepBlind_evt (h : Half) (n pg j : Nat) : StepBlind (fun d => d.evt pg j) h n :=
  ⟨fun _ _ _ _ => rfl, fun _ _ _ => rfl, fun _ _ _ => rfl, fun _ _ => rfl⟩

theorem stepBlind_loops (h : Half) (n : Nat) : StepBlind Dev.loops h n :=
  ⟨fun d _ _ _ => d.p_loops _ _ _, fun _ _ _ => rfl, fun _ _ _ => (Dev.p_loops _ _ _ _).trans (Dev.p_loops _ _ _ _), fun _ _ => rfl⟩

theorem stepBlind_padjRem (h : Half) (n : Nat) : StepBlind (fun d => (d.tb h n).padjRem) h n where
  word d _ _ _ := congrArg Tbase.padjRem (Dev.tb_congr (d.p_tbs _ _ _) h n)
  tb _ _ hx := (congrArg Tbase.padjRem (Dev.tb_setTb_same _ _ _ _)).trans hx
  gate _ _ _ := congrArg Tbase.padjRem (Dev.tb_congr ((Dev.p_tbs _ _ _ _).trans (Dev.p_tbs _ _ _ _)) h n)
  gen _ _ := rfl

/-- Settles O36: where nothing is armed and nothing held, what follows the step of a realign leaves the moved count, the cleared
build-out and adjustment, and HELD. -/
theorem realignWaitsAndStepsByPhaseError : Obligations.RealignWaitsAndStepsByPhaseError := by
  unfold Obligations.RealignWaitsAndStepsByPhaseError
  refine ⟨fun m h k s hw hb => ?_, fun m h k s hw hb => ?_, fun h k s hd hb => ?_, fun h k s hd => exec_realignApply_waits hd,
    fun h k s hd hb => exec_realignApply_taken hd hb, fun h k s hd hb harm hgate => ?_⟩
  · refine ⟨_, exec_realign hw, ?_⟩
    have he : realignAsked h k.val (s.dev.regAccess m (dplL h k.val)) =
        (s.dev.regAccess m (dplL h k.val)).raise (dplPg h k.val) (dplEvt k.val 5) := if_pos hb
    rw [he]
    exact ⟨Dev.evt_raise_own _ (evtImplemented_dpl h k (by decide)),
      ((s.dev.touches_regAccess m _ _ _).raise (List.mem_singleton_self _)).onlyTouches⟩
  · refine ⟨_, exec_realign hw, ?_⟩
    have he : realignAsked h k.val (s.dev.regAccess m (dplL h k.val)) = (s.dev.regAccess m (dplL h k.val)).setLoop h k.val
        { s.dev.loop h k.val with realign := some (s.dev.sec h k.val) } := if_neg (fun hx => Bool.false_ne_true (hb.symm.trans hx))
    rw [he]
    exact ⟨congrArg LoopSt.realign (Tab.get_set_same (fun _ => ({} : LoopSt)) _ _ _), (s.dev.touches_regAccess m _ _ _).onlyTouches⟩
  · refine ⟨_, exec_realignApply_refused hd hb, congrArg LoopSt.realign (Tab.get_set_same (fun _ => ({} : LoopSt)) _ _ _), rfl,
      Dev.evt_raise_own _ (evtImplemented_dpl h k (by decide)), ?_⟩
    exact ((Dev.touches.refl s.dev [] _).raise (List.mem_singleton_self _)).onlyTouches
  · have hk := k.isLt
    have harm' : ∀ i < 64, (realigned h k.val s.dev).ttaArmed h i = false := fun i hi => by
      have hb := inBlock_ttaE h (o := 0) hi (by omega)
      refine Eq.trans ?_ (harm i hi)
      exact Dev.gb_of_w (o := 0) (realigned_w _ _ _ (ne_of_inBlock hb (inBlock_tsuB h hk (by omega)))
        (ne_of_inBlock hb (inBlock_selS h hk (by omega))) (ne_of_inBlock hb (inBlock_selS h hk (by omega))))
    have hgate' : ∀ p < 8, ((realigned h k.val s.dev).gate p).held = [] := fun p hp => by
      unfold Dev.gate
      rw [realigned_gates]
      exact hgate p hp
    obtain ⟨hw, ho, hc, hf⟩ := steppedAfter_quiet (h := h) hk harm' hgate' s.nv
    have hword {p : Page} {a : Nat} (ha : inBlock p a) (hp : p.code ≠ Page.tsu.code) (hl : p.code ≠ Page.lgt.code) :
        (steppedAfter s.nv h k.val (realigned h k.val s.dev)).w a = (realigned h k.val s.dev).w a := by
      refine hw _ ?_ (ha.not hl)
      simp only [statWords, List.mem_cons, List.not_mem_nil, or_false, not_or]
      exact ⟨ne_of_inBlock ha (inBlock_tsuB h hk (by omega)) hp, ne_of_inBlock ha (inBlock_tsuB h hk (by omega)) hp⟩
    refine ⟨_, exec_realignApply_taken hd hb, ?_, ?_, ?_, ?_, ?_, ?_, ?_, fun n hne hn => ?_, s.keepsRest_withDev _⟩
    · exact (hc h k.val).trans (congrArg Tbase.count (realigned_tb s.dev h k.val))
    · refine Eq.trans ?_ (realigned_bo s.dev h k.val)
      have hb (o : Nat) (hoo : o < 0x40) := hword (inBlock_selS h hk (o := o) (by omega)) (by decide) (by decide)
      unfold Dev.bo Dev.s48 Dev.g2
      rw [State.withDev_dev, Dev.g_of_w (f := Reg.SEL.BO_LO) (hb 0x18 (by decide)), Dev.g_of_w (f := Reg.SEL.BO_HI) (hb 0x1C (by decide))]
    · have hl := (stepBlind_loops h k.val).steppedAfter _ hk harm' hgate' s.nv
      have hx : (steppedAfter s.nv h k.val (realigned h k.val s.dev)).loop h k.val = (realigned h k.val s.dev).loop h k.val :=
        congrArg (fun t : Tab LoopSt => tget {} t (h.num * 16 + k.val)) hl
      exact (congrArg LoopSt.realign hx).trans (realigned_loop s.dev h k.val)
    · have hb := inBlock_bndN h (o := 0x10) hk (by omega)
      refine (Dev.g_of_w (f := Reg.BND.HELD) (o := 0x10) (hword hb (by decide) (by decide))).trans ?_
      exact Dev.g_of_w (o := 0x10) (realigned_w _ _ _ (ne_of_inBlock hb (inBlock_tsuB h hk (by omega)))
        (ne_of_inBlock hb (inBlock_selS h hk (by omega))) (ne_of_inBlock hb (inBlock_selS h hk (by omega))))
    · refine ((stepBlind_padjRem h k.val).steppedAfter _ hk harm' hgate' s.nv).trans ?_
      rw [realigned_tb]
    · exact (congrArg (· == 1) (hf Reg.TSU.STAT_PADJ_BUSY rfl (by decide))).trans (realigned_busy s.dev h k.val hk)
    · exact ((stepBlind_evt h k.val _ _).steppedAfter _ hk harm' hgate' s.nv).trans (realigned_evt s.dev h k)
    · exact (ho h n (by omega)).trans (realigned_otherTb s.dev h k.val hne)

end Sys2Proof.Machine
end

section
/-! SUPPORT. HOLD_LAST, the holdover samples and the model's words (R165 to R170): what each leaves. -/

namespace Sys2Proof.Machine

theorem inBlock_hldPg (h : Half) {o : Nat} (ho : o < 0x1000) : inBlock .hld (hldPg h + o) := inBlock_pageAddr .hld h (by omega)

theorem evtImplemented_hld (h : Half) {j : Nat} (hj : j < 6) : evtImplemented (hldPg h) j = true := by
  interval_cases j <;> cases h <;> decide

section
variable (d : Dev) (h : Half) (k : Nat)

/-! ### HOLD_LAST -/

theorem loopFadj_field (v : Int) (b : Nat) (f : Fld) : (d.loopFadj h k v).g b f = d.g b f := by
  unfold Dev.loopFadj
  rw [Dev.g_setTb]
  exact raiseIf_blind (g := fun x => x.g b f) (d.g_raise _ _ _ _) _

theorem loopOut_field (v : Int) {f : Fld} (hf : f.off ≠ 0x20 ∨ 8 ≤ f.lo ∨ f.lo + f.len ≤ 7) :
    (d.loopOut h k v).g (dplL h k) f = d.g (dplL h k) f := by
  unfold Dev.loopOut
  dsimp only
  rw [loopFadj_field]
  refine (raiseIf_blind (g := fun x => x.g (dplL h k) f) (Dev.g_raise _ _ _ _ _) _).trans ?_
  exact d.g_p_apart (f := Reg.DPL.LSTAT_AT_FLIM) _ _ (by decide) hf

theorem loopOut_loop (v : Int) : (d.loopOut h k v).loop h k = d.loop h k := by
  unfold Dev.loopOut Dev.loopFadj
  dsimp only
  rw [Dev.loop_setTb]
  refine (raiseIf_blind (g := fun x => x.loop h k) (Dev.loop_raise _ _ _ _ _) _).trans ?_
  exact (raiseIf_blind (g := fun x => x.loop h k) (Dev.loop_raise _ _ _ _ _) _).trans (d.loop_p _ _ _ _ _)

theorem loopOut_evt_hld (v : Int) (hk : k < 16) {j : Nat} (hj : j < 0x1000) :
    (d.loopOut h k v).evt (hldPg h) j = d.evt (hldPg h) j := by
  have hb := inBlock_hldPg h hj
  unfold Dev.loopOut Dev.loopFadj
  dsimp only
  refine (raiseIf_blind (g := fun x => x.evt (hldPg h) j) (Dev.evt_raise_ne _ (ne_of_inBlock hb (inBlock_tbEvt h hk (by decide)))) _).trans ?_
  exact (raiseIf_blind (g := fun x => x.evt (hldPg h) j) (Dev.evt_raise_ne _ (ne_of_inBlock hb (inBlock_dplEvt h hk (by decide)))) _).trans
    (d.evt_pb _ _ _ _ _)

/-- HOLD_LAST before FADJ is fixed. -/
def Dev.lastHeld (d : Dev) (h : Half) (k : Nat) : Dev :=
  (d.p (dplL h k) Reg.DPL.LSTAT_HMODE 2).setLoop h k { d.loop h k with anchor := none, lastAt := none }

/-- HOLD_LAST of a loop that no domain switch directs, before FADJ is fixed. -/
def Dev.lastShown (d : Dev) (h : Half) (k : Nat) : Dev :=
  ((((d.lastHeld h k).p (dplL h k) Reg.DPL.LSTAT_INPUT 0x1F).pb (dplL h k) Reg.DPL.LSTAT_SLEWING false).pb (dplL h k)
    Reg.DPL.LSTAT_FREQ_ONLY false).setLoop h k { (d.lastHeld h k).loop h k with held := d.meanFest h k }

theorem holdLast_eq : d.holdLast h k =
    if d.domDirects h k then d.lastHeld h k else (d.lastShown h k).loopOut h k (d.meanFest h k) := rfl

theorem lastHeld_hmode : (d.lastHeld h k).g (dplL h k) Reg.DPL.LSTAT_HMODE = 2 := d.g_p_same _ _ _ (by decide)

theorem Dev.g_setLoop (g : Half) (n : Nat) (v : LoopSt) (b : Nat) (f : Fld) : (d.setLoop g n v).g b f = d.g b f := rfl

theorem lastShown_hmode : (d.lastShown h k).g (dplL h k) Reg.DPL.LSTAT_HMODE = 2 := by
  unfold Dev.lastShown Dev.pb
  rw [Dev.g_setLoop, Dev.g_p_apart _ _ _ (by decide) (by decide), Dev.g_p_apart _ _ _ (by decide) (by decide),
    Dev.g_p_apart _ _ _ (by decide) (by decide), lastHeld_hmode]

theorem lastHeld_anchor : ((d.lastHeld h k).loop h k).anchor = none := by
  unfold Dev.lastHeld
  rw [Dev.loop_setLoop_same]

theorem lastShown_anchor : ((d.lastShown h k).loop h k).anchor = none := by
  unfold Dev.lastShown
  rw [Dev.loop_setLoop_same]
  exact lastHeld_anchor d h k

theorem holdLast_hmode : (d.holdLast h k).hmode h k = 2 := by
  rw [holdLast_eq]
  refine keeps_ite (g := fun x => x.hmode h k) (lastHeld_hmode d h k) ?_
  unfold Dev.hmode
  rw [loopOut_field _ _ _ _ (by decide), lastShown_hmode]

theorem holdLast_anchor : ((d.holdLast h k).loop h k).anchor = none := by
  rw [holdLast_eq]
  refine keeps_ite (g := fun x => (x.loop h k).anchor) (lastHeld_anchor d h k) ?_
  rw [loopOut_loop, lastShown_anchor]

theorem lastHeld_evts : (d.lastHeld h k).evts = d.evts := (Dev.evts_setLoop _ _ _ _).trans (d.p_evts _ _ _)

theorem lastShown_evts : (d.lastShown h k).evts = d.evts := by
  unfold Dev.lastShown
  rw [Dev.evts_setLoop, Dev.pb_evts, Dev.pb_evts, Dev.p_evts, lastHeld_evts]

theorem holdLast_evt_hld (hk : k < 16) {j : Nat} (hj : j < 0x1000) : (d.holdLast h k).evt (hldPg h) j = d.evt (hldPg h) j := by
  rw [holdLast_eq]
  refine keeps_ite (g := fun x => x.evt (hldPg h) j) (Dev.evt_congr (lastHeld_evts d h k) _ _) ?_
  rw [loopOut_evt_hld _ _ _ _ hk hj, Dev.evt_congr (lastShown_evts d h k)]

end

/-! ### The model cleared -/

section
variable (d : Dev) (h : Half)

theorem Dev.g_setHm (g : Half) (v : HoldSt) (b : Nat) (f : Fld) : (d.setHm g v).g b f = d.g b f := rfl

theorem Dev.evts_setHm (g : Half) (v : HoldSt) : (d.setHm g v).evts = d.evts := rfl

theorem Dev.hm_setHm_same (v : HoldSt) : (d.setHm h v).hm h = v := Pair.of_put _ _ _

theorem Dev.hm_p (b : Nat) (f : Fld) (v : Nat) : (d.p b f v).hm h = d.hm h := rfl

theorem modelCleared_level : (d.modelCleared h).g (hldPg h) Reg.HLD.HSTAT_MODEL = 0 := by
  unfold Dev.modelCleared Dev.pb
  dsimp only
  rw [Dev.g_raise, Dev.g_setHm, Dev.g_p_apart _ _ _ (by decide) (by decide), Dev.g_p_same _ _ _ _ (by decide)]
  rfl

theorem modelCleared_learnS : (d.modelCleared h).g (hldPg h) Reg.HLD.LEARN_S = 0 := by
  unfold Dev.modelCleared Dev.pb
  dsimp only
  rw [Dev.g_raise, Dev.g_setHm, Dev.g_p_apart _ _ _ (by decide) (by decide), Dev.g_p_apart _ _ _ (by decide) (by decide),
    Dev.g_p_apart _ _ _ (by decide) (by decide), Dev.g_p_same _ _ _ _ (by decide)]
  rfl

theorem modelCleared_keeps {α : Type} {g : Dev → α} (hp : ∀ e f v, f.off < 0x200 → g (e.p (hldPg h) f v) = g e)
    (hm : ∀ e v, g (e.setHm h v) = g e) (he : ∀ e, g (e.raise (hldPg h) 3) = g e) : g (d.modelCleared h) = g d := by
  have hb (e : Dev) (f : Fld) (v : Bool) (hf : f.off < 0x200) : g (e.pb (hldPg h) f v) = g e := hp e f _ hf
  unfold Dev.modelCleared Dev.p2
  dsimp only
  rw [he, hm, hb _ _ _ (by decide)]
  repeat rw [hp _ _ _ (by decide)]

theorem modelCleared_evt : (d.modelCleared h).evt (hldPg h) 3 = (d.evt (hldPg h) 3).occur := by
  unfold Dev.modelCleared Dev.p2
  dsimp only
  rw [Dev.evt_raise_own _ (evtImplemented_hld h (by decide))]
  refine congrArg EvtWord.occur (Dev.evt_congr ?_ _ _)
  rw [Dev.evts_setHm, Dev.pb_evts]
  repeat rw [Dev.p_evts]

theorem modelCleared_tbs : (d.modelCleared h).tbs = d.tbs :=
  modelCleared_keeps d h (g := Dev.tbs) (fun e _ _ _ => e.p_tbs _ _ _) (fun _ _ => rfl) fun e => e.raise_tbs _ _

end

/-! ### A reset of the model in every half in service -/

/-- A model reset in a half: at once, or when TB0's holdover ends (R166). -/
def Dev.modelResetIn (d : Dev) (h : Half) : Dev :=
  if (d.loop h 0).holdAt.isSome then d.setHm h { d.hm h with resetPd := true } else d.modelCleared h

/-- What is seen of a half's model: the words of its page, MODEL_LEVEL, the fit's engine and TB0's loop. -/
def Dev.modelView (h : Half) (d : Dev) : (Fin 0x200 → Nat) × EvtWord × HoldSt × LoopSt :=
  (fun o => d.w (hldPg h + o.val), d.evt (hldPg h) 3, d.hm h, d.loop h 0)

theorem modelResetIn_other (d : Dev) (h : Half) : (d.modelResetIn h).modelView h.other = d.modelView h.other := by
  have hne {i j : Nat} (hi : i < 0x8000) (hj : j < 0x8000) : hldPg h.other + i ≠ hldPg h + j := pageAddr_other_ne .hld h hi hj
  have hm (e : Dev) (v : HoldSt) : (e.setHm h v).modelView h.other = e.modelView h.other := by
    unfold Dev.modelView
    rw [show (e.setHm h v).hm h.other = e.hm h.other from Pair.of_put_other _ _ _]
    rfl
  refine keeps_ite (hm _ _) (modelCleared_keeps d h (fun e f v hf => ?_) hm fun e => ?_)
  · have hw (o : Fin 0x200) : (e.p (hldPg h) f v).w (hldPg h.other + o.val) = e.w (hldPg h.other + o.val) :=
      e.w_p_ne _ _ _ _ (hne (by omega) (by omega))
    unfold Dev.modelView
    rw [funext hw]
    rfl
  · unfold Dev.modelView
    rw [e.evt_raise_ne (hne (i := 3) (j := 3) (by decide) (by decide))]
    rfl

/-- What is done in every half in service leaves of a half what its own part does. -/
theorem halvesInService_own {β : Type} {view : Half → Dev → β} {f : Half → Dev → Dev}
    (hf : ∀ h d, view h.other (f h d) = view h.other d) (d : Dev) {g : Half} (hs : d.outOfService g = false) :
    ∃ e, view g e = view g d ∧ view g (d.halvesInService.foldl (fun e x => f x e) d) = view g (f g e) := by
  cases hw : d.outOfService .warp <;> cases hf' : d.outOfService .weft <;> cases g <;>
    simp only [hw, hf', Bool.true_eq_false] at hs <;> simp only [Dev.halvesInService, List.filter_cons, List.filter_nil, hw, hf',
      Bool.not_false, Bool.not_true, if_true, Bool.false_eq_true, if_false, List.foldl_cons, List.foldl_nil]
  · exact ⟨d, rfl, hf .weft _⟩
  · exact ⟨f .warp d, hf .warp d, rfl⟩
  · exact ⟨d, rfl, rfl⟩
  · exact ⟨d, rfl, rfl⟩

end Sys2Proof.Machine
end

section
/-! PROOF. O37: how a holdover falls and expires, and how its model is sampled, fitted, cleared and saved (R165 to R173). -/

namespace Sys2Proof.Machine

/-! ### Holdover -/

section
variable {s : State} {h : Half} {k : Fin 16}

theorem exec_holdSourceLost_falls (hl : s.dev.sourceLost h k.val = true) :
    exec (.holdSourceLost h k) s = .next (s.withDev ((s.dev.holdLast h k.val).raise (hldPg h) 4)) :=
  next_onDev (f := holdSourceLost h k.val) (if_pos hl)

theorem exec_holdSourceLost_stays (hl : s.dev.sourceLost h k.val = false) : exec (.holdSourceLost h k) s = .next s :=
  next_onDev (f := holdSourceLost h k.val) (d := s.dev) (if_neg (by rw [hl]; exact Bool.false_ne_true))

/-- A loop shown as expired. -/
def Dev.expiredShown (d : Dev) (h : Half) (k : Nat) : Dev :=
  let d1 := d.pb (dplL h k) Reg.DPL.LSTAT_EXPIRED true
  if k = 0 then (d1.pb (hldPg h) Reg.HLD.HSTAT_EXPIRED true).raise (hldPg h) 2 else d1

theorem exec_holdExpired_shows (he : s.dev.holdIsExpired h k.val (s.dev.published h k.val) = true)
    (hn : s.dev.gb (dplL h k.val) Reg.DPL.LSTAT_EXPIRED = false) :
    exec (.holdExpired h k) s = .next (s.withDev (s.dev.expiredShown h k.val)) :=
  next_onDev (f := fun d => holdExpired h k.val (d.published h k.val) d) (if_pos (by rw [he, hn]; rfl))

theorem exec_holdExpired_same (he : s.dev.holdIsExpired h k.val (s.dev.published h k.val) = false ∨
    s.dev.gb (dplL h k.val) Reg.DPL.LSTAT_EXPIRED = true) : exec (.holdExpired h k) s = .next s := by
  refine next_onDev (f := fun d => holdExpired h k.val (d.published h k.val) d) (d := s.dev) (if_neg ?_)
  rcases he with he | he <;> simp [he]

theorem expiredShown_gb (d : Dev) : (d.expiredShown h k.val).gb (dplL h k.val) Reg.DPL.LSTAT_EXPIRED = true := by
  have h1 : (d.pb (dplL h k.val) Reg.DPL.LSTAT_EXPIRED true).gb (dplL h k.val) Reg.DPL.LSTAT_EXPIRED = true :=
    d.gb_pb_same _ _ _ (by decide) (by decide)
  refine keeps_ite (g := fun x => x.gb (dplL h k.val) Reg.DPL.LSTAT_EXPIRED) ?_ h1
  refine Eq.trans ?_ h1
  exact Dev.gb_of_w (o := 0x20) (Dev.w_p_ne _ _ Reg.HLD.HSTAT_EXPIRED _ _
    (ne_of_inBlock (inBlock_dplL h k.isLt (by decide)) (inBlock_hldPg h (by decide))))

theorem expiredShown_touches (d : Dev) :
    d.touches (d.expiredShown h k.val) [dplL h k.val + 0x20, hldPg h + 0x118] [hldPg h + 2] := by
  have h1 := (Dev.touches.refl d [dplL h k.val + 0x20, hldPg h + 0x118] [hldPg h + 2]).pb (f := Reg.DPL.LSTAT_EXPIRED)
    (List.mem_cons_self ..) true
  unfold Dev.expiredShown
  dsimp only
  split
  · exact (h1.pb (f := Reg.HLD.HSTAT_EXPIRED) (List.mem_cons_of_mem _ (List.mem_singleton_self _)) true).raise (List.mem_singleton_self _)
  · exact h1

end

/-! ### Samples -/

section
variable {d : Dev}

theorem holdoverSampled_none (hx : (d.cap d.lead 12).stamp0 = none) : holdoverSampled d = d := by
  unfold holdoverSampled
  dsimp only
  rw [hx]

theorem holdoverSampled_first {x : Nat} (hx : (d.cap d.lead 12).stamp0 = some x) (hl : (d.hm d.lead).last = none) :
    holdoverSampled d = d.setHm d.lead { d.hm d.lead with last := some (x, (d.cap d.lead 12).stampEc) } := by
  unfold holdoverSampled
  dsimp only
  rw [hx, hl]

end

section
variable {d : Dev} {x : Nat} {w : Nat × Nat} (hx : (d.cap d.lead 12).stamp0 = some x) (hl : (d.hm d.lead).last = some w)
include hx hl

/-- The device with a sample's stamp kept. -/
def Dev.stampKept (d : Dev) (x : Nat) : Dev :=
  d.setHm d.lead { d.hm d.lead with last := some (x, (d.cap d.lead 12).stampEc) }

/-- The frequency of a sample in 10^-15. -/
def Dev.sampleFreq (d : Dev) (x : Nat) (w : Nat × Nat) : Int :=
  freqOfs (10 ^ 15) (((d.cap d.lead 12).stampEc + 2 ^ 32 - w.2) % 2 ^ 32) (x - w.1) (d.nomFreq d.lead 13)

/-- A sample contradicts a model restored from the journal (R167). -/
def Dev.sampleContradicts (d : Dev) (x : Nat) (w : Nat × Nat) : Bool :=
  d.gb (hldPg d.lead) Reg.HLD.HSTAT_AGED && !(decide ((d.sampleFreq x w - ((d.hm d.lead).aged.1 * 10 ^ 15).tdiv (2 ^ 48)).natAbs ≤
    3 * (d.hm d.lead).aged.2))

/-- A sample is too far from the model (R165). -/
def Dev.sampleFar (d : Dev) (x : Nat) (w : Nat × Nat) : Bool :=
  decide (1000 ≤ d.g (hldPg d.lead) Reg.HLD.LEARN_S) &&
    decide (5 * d.g (hldPg d.lead) Reg.HLD.RESID < (d.sampleFreq x w - d.yPred d.lead).natAbs)

theorem holdoverSampled_passed
    (hc : (!(d.gb (hldPg d.lead) Reg.HLD.HCTRL_LEARN) || !(d.sampleCounts d.lead) || decide (x ≤ w.1)) = true) :
    holdoverSampled d = d.stampKept x := by
  unfold holdoverSampled
  dsimp only
  rw [hx, hl]
  exact if_pos hc

variable (hc : (!(d.gb (hldPg d.lead) Reg.HLD.HCTRL_LEARN) || !(d.sampleCounts d.lead) || decide (x ≤ w.1)) = false)
include hc

theorem holdoverSampled_against (ha : d.sampleContradicts x w = true) : holdoverSampled d = (d.stampKept x).modelCleared d.lead := by
  unfold holdoverSampled
  dsimp only
  rw [hx, hl]
  exact (if_neg (Bool.eq_false_iff.1 hc)).trans (if_pos ha)

theorem holdoverSampled_far (ha : d.sampleContradicts x w = false) (hf : d.sampleFar x w = true) :
    holdoverSampled d = (d.stampKept x).incSat (hldPg d.lead) Reg.HLD.OUTLIERS := by
  unfold holdoverSampled
  dsimp only
  rw [hx, hl]
  exact (if_neg (Bool.eq_false_iff.1 hc)).trans ((if_neg (Bool.eq_false_iff.1 ha)).trans (if_pos hf))

/-- The words of a sample taken into the fit. -/
def Dev.sampleWords (d : Dev) (x : Nat) : Dev :=
  ((d.stampKept x).incSat (hldPg d.lead) Reg.HLD.LEARN_S).pb (hldPg d.lead) Reg.HLD.HSTAT_AGED
    (d.gb (hldPg d.lead) Reg.HLD.HSTAT_AGED &&
      decide ((if d.gb (hldPg d.lead) Reg.HLD.HSTAT_AGED then (d.hm d.lead).agedRun + 1 else 0) < 1000))

theorem holdoverSampled_fit (ha : d.sampleContradicts x w = false) (hf : d.sampleFar x w = false) :
    ∃ m : HoldSt, m.fresh = true ∧ m.y = d.sampleFreq x w ∧ m.last = some (x, (d.cap d.lead 12).stampEc) ∧ m.fitAt = some x ∧
      holdoverSampled d = (d.sampleWords x).setHm d.lead m := by
  unfold holdoverSampled
  dsimp only
  rw [hx, hl]
  refine ⟨_, ?_, ?_, ?_, ?_, (if_neg (Bool.eq_false_iff.1 hc)).trans ((if_neg (Bool.eq_false_iff.1 ha)).trans
    ((if_neg (Bool.eq_false_iff.1 hf)).trans rfl))⟩ <;> rfl

end

theorem Dev.g_incSat_same (d : Dev) (b : Nat) {f : Fld} (hf : f.lo + f.len ≤ 32) :
    (d.incSat b f).g b f = min (d.g b f + 1) (2 ^ f.len - 1) := by
  have hp := Nat.two_pow_pos f.len
  unfold Dev.incSat
  rw [Dev.g_p_same _ _ _ _ hf, Nat.mod_eq_of_lt (by omega)]

theorem Dev.touches.incSat {d e : Dev} {ws es : List Nat} (ht : d.touches e ws es) {b : Nat} {f : Fld} (hm : b + f.off ∈ ws) :
    d.touches (e.incSat b f) ws es := ht.p hm _

/-! ### The fit -/

theorem Dev.hm_raiseIf (d : Dev) (h : Half) (c : Bool) (pg j : Nat) : (d.raiseIf c pg j).hm h = d.hm h :=
  raiseIf_blind (g := fun e => e.hm h) rfl c

theorem Dev.tbs_setHm (d : Dev) (h : Half) (v : HoldSt) : (d.setHm h v).tbs = d.tbs := rfl

theorem otherHalf_ne (h : Half) : h.other ≠ h := by cases h <;> decide

/-- A fit leaves the level of its seconds of samples, its own sample taken, and the other half in service told of it. -/
theorem modelUpdated_fresh {d : Dev} (hf : (d.hm d.lead).fresh = true) :
    (modelUpdated d).g (hldPg d.lead) Reg.HLD.HSTAT_MODEL = d.modelLevel d.lead ∧
      (d.outOfService d.lead.other = false → ((modelUpdated d).hm d.lead.other).copyDue = true) ∧
      ((modelUpdated d).hm d.lead).fresh = false ∧ (modelUpdated d).tbs = d.tbs := by
  obtain ⟨f, he⟩ : ∃ f, f = modelUpdated := ⟨_, rfl⟩
  rw [← he]
  delta modelUpdated at he
  rw [he]
  obtain ⟨h, hh⟩ : ∃ h, h = d.lead := ⟨_, rfl⟩
  rw [← hh] at hf ⊢
  beta_reduce
  rw [← hh]
  extract_lets h1 b m lvl span full x d1 d2 d3 o
  have hl : lvl < 4 := by
    show d.modelLevel h < 4
    unfold Dev.modelLevel
    dsimp only
    split_ifs <;> decide
  have ht1 : d1.tbs = d.tbs := by
    dsimp only [d1]
    unfold Dev.p2
    repeat rw [Dev.p_tbs]
  clear_value d1
  obtain ⟨v, c, hv, hd2⟩ : ∃ (v : HoldSt) (c : Bool), v.fresh = false ∧ d2 = (d1.setHm h v).raiseIf c b 3 := ⟨_, _, rfl, rfl⟩
  have hm2 : d2.hm h = v := by
    rw [hd2]
    rw [Dev.hm_raiseIf, Dev.hm_setHm_same]
  have ht2 : d2.tbs = d.tbs := by
    rw [hd2]
    rw [Dev.raiseIf_tbs, Dev.tbs_setHm, ht1]
  clear_value d2
  have h3 : d3.g b Reg.HLD.HSTAT_MODEL = lvl := (d2.g_p_same _ _ _ (by decide)).trans (Nat.mod_eq_of_lt hl)
  have hm3 : (d3.hm h).fresh = false := by rw [show d3.hm h = d2.hm h from d2.hm_p h _ _ _, hm2, hv]
  have ht3 : d3.tbs = d.tbs := (d2.p_tbs _ _ _).trans ht2
  clear_value d3
  have hn : ¬ (!m.fresh) = true := by
    rw [show m.fresh = true from hf]
    decide
  rw [if_neg hn]
  cases ho : d.outOfService o
  · have hown (u : HoldSt) (hu : u.copyDue = true) : ((d3.setHm o u).hm o).copyDue = true := by rw [Dev.hm_setHm_same, hu]
    have hoth (u : HoldSt) : ((d3.setHm o u).hm h).fresh = false := by
      rw [show (d3.setHm o u).hm h = d3.hm h from Pair.of_put_ne _ _ (otherHalf_ne h), hm3]
    rw [if_neg Bool.false_ne_true]
    exact ⟨(Dev.g_setHm _ _ _ _ _).trans h3, fun _ => hown _ rfl, hoth _, (Dev.tbs_setHm _ _ _).trans ht3⟩
  · rw [if_pos rfl]
    exact ⟨h3, fun hc => absurd hc (by decide), hm3, ht3⟩

theorem modelUpdated_stale {d : Dev} (hf : (d.hm d.lead).fresh = false) : modelUpdated d = d := if_pos (by rw [hf]; rfl)

/-! ### A reset -/

theorem modelReset_taken {d : Dev} {h : Half} (hh : h = .warp ∨ d.outOfService .warp = true) :
    modelReset h d = d.halvesInService.foldl (fun e x => e.modelResetIn x) d := by
  refine if_neg ?_
  rcases hh with rfl | hh
  · exact Bool.false_ne_true
  · rw [hh]
    simp

theorem modelResetIn_waits {d : Dev} {h : Half} (hl : (d.loop h 0).holdAt.isSome = true) :
    d.modelResetIn h = d.setHm h { d.hm h with resetPd := true } := if_pos hl

theorem modelResetIn_now {d : Dev} {h : Half} (hl : (d.loop h 0).holdAt = none) : d.modelResetIn h = d.modelCleared h :=
  if_neg (by rw [hl]; decide)

theorem modelResetIn_tbs (d : Dev) (h : Half) : (d.modelResetIn h).tbs = d.tbs := keeps_ite rfl (modelCleared_tbs d h)

section
variable {d e : Dev} {h : Half} (hv : e.modelView h = d.modelView h)
include hv

theorem modelView_w {o : Nat} (ho : o < 0x200) : e.w (hldPg h + o) = d.w (hldPg h + o) :=
  congrFun (congrArg Prod.fst hv) ⟨o, ho⟩

theorem modelView_evt : e.evt (hldPg h) 3 = d.evt (hldPg h) 3 := congrArg (fun v => v.2.1) hv

theorem modelView_hm : e.hm h = d.hm h := congrArg (fun v => v.2.2.1) hv

theorem modelView_loop : e.loop h 0 = d.loop h 0 := congrArg (fun v => v.2.2.2) hv

end

/-! ### What each move shows -/

section
variable (d : Dev)

theorem sourceLost_shown (h : Half) {k : Nat} (hk : k < 16) :
    ((d.holdLast h k).raise (hldPg h) 4).hmode h k = 2 ∧ (((d.holdLast h k).raise (hldPg h) 4).loop h k).anchor = none ∧
      ((d.holdLast h k).raise (hldPg h) 4).evt (hldPg h) 4 = (d.evt (hldPg h) 4).occur ∧
      ∀ g n, ((d.holdLast h k).raise (hldPg h) 4).count g n = d.count g n := by
  refine ⟨?_, ?_, ?_, fun g n => ?_⟩
  · exact (Dev.g_raise _ _ _ _ _).trans (holdLast_hmode d h k)
  · rw [Dev.loop_raise, holdLast_anchor]
  · rw [Dev.evt_raise_own _ (evtImplemented_hld h (by decide)), holdLast_evt_hld _ _ _ hk (by decide)]
  · exact (Dev.count_congr (Dev.raise_tbs _ _ _) g n).trans (((restBlind_count g n).loop h k hk).holdLast d)

theorem expiredShown_zero (h : Half) : d.expiredShown h 0 =
    ((d.pb (dplL h 0) Reg.DPL.LSTAT_EXPIRED true).pb (hldPg h) Reg.HLD.HSTAT_EXPIRED true).raise (hldPg h) 2 := rfl

theorem expiredShown_tb0 (h : Half) : (d.expiredShown h 0).gb (hldPg h) Reg.HLD.HSTAT_EXPIRED = true ∧
    (d.expiredShown h 0).evt (hldPg h) 2 = (d.evt (hldPg h) 2).occur := by
  rw [expiredShown_zero, Dev.gb_raise, Dev.gb_pb_same _ _ _ _ (by decide) (by decide),
    Dev.evt_raise_own _ (evtImplemented_hld h (by decide)), Dev.evt_pb, Dev.evt_pb]
  exact ⟨rfl, rfl⟩

theorem stampKept_hm (x : Nat) : ((d.stampKept x).hm d.lead).last = some (x, (d.cap d.lead 12).stampEc) := by
  unfold Dev.stampKept
  rw [Dev.hm_setHm_same]

theorem stampKept_g (x b : Nat) (f : Fld) : (d.stampKept x).g b f = d.g b f := d.g_setHm _ _ _ _

/-- A sample against the restored model. -/
theorem against_shown (x : Nat) : ((d.stampKept x).modelCleared d.lead).tbs = d.tbs ∧
    ((d.stampKept x).modelCleared d.lead).evt (hldPg d.lead) 3 = (d.evt (hldPg d.lead) 3).occur := by
  rw [modelCleared_tbs, modelCleared_evt]
  unfold Dev.stampKept
  exact ⟨d.tbs_setHm _ _, congrArg EvtWord.occur (Dev.evt_congr (d.evts_setHm _ _) _ _)⟩

theorem Dev.hm_incSat (h : Half) (b : Nat) (f : Fld) : (d.incSat b f).hm h = d.hm h := d.hm_p h b f _

/-- A sample too far from the model. -/
theorem far_shown (x : Nat) : let e := (d.stampKept x).incSat (hldPg d.lead) Reg.HLD.OUTLIERS
    e.g (hldPg d.lead) Reg.HLD.OUTLIERS = min (d.g (hldPg d.lead) Reg.HLD.OUTLIERS + 1) (2 ^ 32 - 1) ∧
      (e.hm d.lead).last = some (x, (d.cap d.lead 12).stampEc) ∧ e.tbs = d.tbs := by
  intro e
  refine ⟨?_, ?_, ?_⟩
  · exact (Dev.g_incSat_same _ _ (by decide)).trans (by rw [stampKept_g]; rfl)
  · exact (congrArg HoldSt.last (Dev.hm_incSat _ _ _ _)).trans (stampKept_hm d x)
  · exact (Dev.incSat_tbs _ _ _).trans (d.tbs_setHm _ _)

/-- A sample taken into the fit. -/
theorem fit_shown (x : Nat) : (d.sampleWords x).g (hldPg d.lead) Reg.HLD.LEARN_S = min (d.g (hldPg d.lead) Reg.HLD.LEARN_S + 1) (2 ^ 32 - 1) ∧
    (d.sampleWords x).gb (hldPg d.lead) Reg.HLD.HSTAT_AGED =
      (d.gb (hldPg d.lead) Reg.HLD.HSTAT_AGED && decide ((d.hm d.lead).agedRun + 1 < 1000)) ∧ (d.sampleWords x).tbs = d.tbs := by
  unfold Dev.sampleWords
  refine ⟨?_, ?_, ?_⟩
  · rw [Dev.pb, Dev.g_p_apart _ _ _ (by decide) (by decide), Dev.g_incSat_same _ _ (by decide), stampKept_g]
    rfl
  · rw [Dev.gb_pb_same _ _ _ _ (by decide) (by decide)]
    cases d.gb (hldPg d.lead) Reg.HLD.HSTAT_AGED <;> rfl
  · rw [Dev.pb_tbs, Dev.incSat_tbs]
    exact d.tbs_setHm _ _

theorem Dev.pb_withHold (e : Dev) (x : Pair HoldSt) (b : Nat) (f : Fld) (v : Bool) :
    { e.pb b f v with hold := x } = ({ e with hold := x } : Dev).pb b f v := rfl

theorem Dev.incSat_withHold (e : Dev) (x : Pair HoldSt) (b : Nat) (f : Fld) :
    { e.incSat b f with hold := x } = ({ e with hold := x } : Dev).incSat b f := rfl

theorem Dev.setHm_withHold (e : Dev) (x : Pair HoldSt) (h : Half) (m : HoldSt) :
    { e.setHm h m with hold := x } = ({ e with hold := x } : Dev) := rfl

theorem fit_touches (x : Nat) (m : HoldSt) :
    d.touches { (d.sampleWords x).setHm d.lead m with hold := d.hold } [hldPg d.lead + 0x118, hldPg d.lead + 0x140] [] := by
  rw [Dev.setHm_withHold]
  unfold Dev.sampleWords Dev.stampKept
  rw [Dev.pb_withHold, Dev.incSat_withHold, Dev.setHm_withHold]
  exact ((Dev.touches.refl d [hldPg d.lead + 0x118, hldPg d.lead + 0x140] []).incSat (b := hldPg d.lead) (f := Reg.HLD.LEARN_S)
    (List.mem_cons_of_mem _ (List.mem_singleton_self _))).pb (b := hldPg d.lead) (f := Reg.HLD.HSTAT_AGED) (List.mem_cons_self ..) _

theorem far_touches (x : Nat) :
    d.touches { (d.stampKept x).incSat (hldPg d.lead) Reg.HLD.OUTLIERS with hold := d.hold } [hldPg d.lead + 0x148] [] := by
  unfold Dev.stampKept
  rw [Dev.incSat_withHold, Dev.setHm_withHold]
  exact (Dev.touches.refl d [hldPg d.lead + 0x148] []).incSat (b := hldPg d.lead) (f := Reg.HLD.OUTLIERS) (List.mem_singleton_self _)

theorem State.onlyTouches_withHold {s : State} {e : Dev} {ws es : List Nat} (ht : s.dev.touches { e with hold := s.dev.hold } ws es) :
    s.onlyTouches { s.withDev e with dev := { (s.withDev e).dev with hold := s.dev.hold } } ws es := ht.onlyTouches

/-- What a reset shows in a half in service, whose holdover of TB0 is over or not. -/
theorem modelReset_shown {h g : Half} (hh : h = .warp ∨ d.outOfService .warp = true) (hs : d.outOfService g = false) :
    ((d.loop g 0).holdAt = none → (modelReset h d).g (hldPg g) Reg.HLD.HSTAT_MODEL = 0 ∧
      (modelReset h d).g (hldPg g) Reg.HLD.LEARN_S = 0 ∧ (modelReset h d).evt (hldPg g) 3 = (d.evt (hldPg g) 3).occur) ∧
    ((d.loop g 0).holdAt.isSome = true → ((modelReset h d).hm g).resetPd = true ∧
      ∀ o ∈ modelOffsets, (modelReset h d).w (hldPg g + o) = d.w (hldPg g + o)) := by
  obtain ⟨e, he, hr⟩ := halvesInService_own (view := Dev.modelView) (f := fun x e => e.modelResetIn x)
    (fun h d => modelResetIn_other d h) d hs
  rw [← modelReset_taken hh] at hr
  have hfld {f : Fld} (hf : f.off < 0x200) : (modelReset h d).g (hldPg g) f = (e.modelResetIn g).g (hldPg g) f :=
    Dev.g_of_w (modelView_w hr hf)
  refine ⟨fun hl => ?_, fun hl => ?_⟩
  · have hi := modelResetIn_now (d := e) (h := g) (by rw [modelView_loop he]; exact hl)
    rw [hfld (by decide), hfld (by decide), modelView_evt hr, hi, modelCleared_level, modelCleared_learnS, modelCleared_evt,
      modelView_evt he]
    exact ⟨rfl, rfl, rfl⟩
  · have hi := modelResetIn_waits (d := e) (h := g) (by rw [modelView_loop he]; exact hl)
    refine ⟨?_, fun o ho => ?_⟩
    · rw [modelView_hm hr, hi, Dev.hm_setHm_same]
    · have ho' : o < 0x200 := by
        revert o
        decide
      rw [modelView_w hr ho', hi, show (e.setHm g _).w (hldPg g + o) = e.w (hldPg g + o) from rfl, modelView_w he ho']

theorem modelReset_tbs (h : Half) : (modelReset h d).tbs = d.tbs := by
  unfold modelReset
  refine keeps_ite rfl (foldl_keeps (fun e x => ?_) _ d)
  exact modelResetIn_tbs e x

end

/-- Settles O37. -/
theorem holdoverFallsExpiresAndLearns : Obligations.HoldoverFallsExpiresAndLearns := by
  unfold Obligations.HoldoverFallsExpiresAndLearns
  refine ⟨fun h k s hl => ?_, fun h k s hl => exec_holdSourceLost_stays hl, fun h k s he hn => ?_,
    fun h k s he => exec_holdExpired_same he, fun s hx => next_onDev (holdoverSampled_none hx), fun s x => ?_, fun s x w => ?_,
    fun s hf => ?_, fun s hf => next_onDev (d := s.dev) (modelUpdated_stale hf), fun m h s hw hh => ?_, fun m s hw ho => ?_,
    fun w s => ⟨fun hc => ?_, fun hc => ?_⟩⟩
  · obtain ⟨hm, ha, he, hc⟩ := sourceLost_shown s.dev h k.isLt
    exact ⟨_, exec_holdSourceLost_falls hl, hm, ha, he, fun g n _ => hc g n, s.keepsRest_withDev _⟩
  · refine ⟨_, exec_holdExpired_shows he hn, expiredShown_gb s.dev, ?_, (expiredShown_touches s.dev).onlyTouches⟩
    rintro rfl
    exact expiredShown_tb0 s.dev h
  · intro h hx hc
    refine next_onDev (f := holdoverSampled) ?_
    rcases hc with hl | hc
    · exact holdoverSampled_first hx hl
    · cases hl : (s.dev.hm s.dev.lead).last with
      | none => exact holdoverSampled_first hx hl
      | some w =>
        refine holdoverSampled_passed hx hl ?_
        rcases hc with hc | hc | ⟨v, hv, hle⟩
        · rw [show s.dev.gb (hldPg s.dev.lead) Reg.HLD.HCTRL_LEARN = false from hc]
          rfl
        · rw [show s.dev.sampleCounts s.dev.lead = false from hc]
          simp
        · obtain rfl := Option.some.inj (hl.symm.trans hv)
          simp [hle]
  · intro h b ec y contradicts far hx hl hlt hlearn hcounts
    have hc : (!(s.dev.gb (hldPg s.dev.lead) Reg.HLD.HCTRL_LEARN) || !(s.dev.sampleCounts s.dev.lead) || decide (x ≤ w.1)) = false := by
      rw [show s.dev.gb (hldPg s.dev.lead) Reg.HLD.HCTRL_LEARN = true from hlearn, show s.dev.sampleCounts s.dev.lead = true from hcounts]
      simpa using hlt
    have hcon : contradicts = s.dev.sampleContradicts x w := rfl
    have hfar : far = s.dev.sampleFar x w := rfl
    clear_value contradicts far
    rw [hcon, hfar]
    cases ha : s.dev.sampleContradicts x w
    · cases hf : s.dev.sampleFar x w
      · obtain ⟨m, hfresh, hy, hml, hfit, hm⟩ := holdoverSampled_fit hx hl hc ha hf
        obtain ⟨hlearnS, haged, ht⟩ := fit_shown s.dev x
        have hhm : ((s.dev.sampleWords x).setHm s.dev.lead m).hm h = m := Dev.hm_setHm_same _ _ _
        refine ⟨_, next_onDev hm, (Dev.tbs_setHm _ _ _).trans ht, s.keepsRest_withDev _, fun hn => absurd hn Bool.false_ne_true,
          fun _ hn => absurd hn Bool.false_ne_true, fun _ _ => ⟨(Dev.g_setHm _ _ _ _ _).trans hlearnS, ?_, ?_, ?_, ?_, ?_,
            State.onlyTouches_withHold (fit_touches s.dev x m)⟩⟩
        · exact (congrArg (· == 1) (Dev.g_setHm _ _ _ _ _)).trans haged
        · exact (congrArg HoldSt.fresh hhm).trans hfresh
        · exact (congrArg HoldSt.y hhm).trans hy
        · exact (congrArg HoldSt.last hhm).trans hml
        · exact (congrArg HoldSt.fitAt hhm).trans hfit
      · obtain ⟨hout, hlast, ht⟩ := far_shown s.dev x
        exact ⟨_, next_onDev (holdoverSampled_far hx hl hc ha hf), ht, s.keepsRest_withDev _, fun hn => absurd hn Bool.false_ne_true,
          fun _ _ => ⟨hout, hlast, State.onlyTouches_withHold (far_touches s.dev x)⟩, fun _ hn => absurd hn (Ne.symm Bool.false_ne_true)⟩
    · obtain ⟨ht, hev⟩ := against_shown s.dev x
      exact ⟨_, next_onDev (holdoverSampled_against hx hl hc ha), ht, s.keepsRest_withDev _,
        fun _ => ⟨modelCleared_level _ _, modelCleared_learnS _ _, hev⟩, fun hn => absurd hn (Ne.symm Bool.false_ne_true),
        fun hn => absurd hn (Ne.symm Bool.false_ne_true)⟩
  · obtain ⟨h1, h2, h3, h4⟩ := modelUpdated_fresh hf
    exact ⟨_, rfl, h1, h2, h3, h4, s.keepsRest_withDev _⟩
  · have hshown (g : Half) := modelReset_shown (s.dev.regAccess m (hldPg h + 0x100)) (h := h) (g := g) hh
    exact ⟨_, exec_of_writeAt rfl hw, fun g hs hl => (hshown g hs).1 hl, fun g hs hl => (hshown g hs).2 hl,
      modelReset_tbs _ h, s.keepsRest_withDev _⟩
  · refine ⟨_, exec_of_writeAt rfl hw, ?_⟩
    have hi : modelReset .weft (s.dev.regAccess m (hldPg .weft + 0x100)) = s.dev.regAccess m (hldPg .weft + 0x100) :=
      if_pos (by rw [show (s.dev.regAccess m (hldPg .weft + 0x100)).outOfService .warp = false from ho]; rfl)
    rw [hi]
    exact (s.dev.touches_regAccess m _ _ _).onlyTouches
  · have he : exec (.modelSave w) s = .next { s with dev := s.dev.wroteFlash w, nv := modelSaved w s.dev s.nv } :=
      congrArg Host.Outcome.next (if_pos hc)
    refine ⟨_, he, ?_, ?_, rfl, rfl⟩
    · unfold modelSaved
      dsimp only
      split <;> rfl
    · unfold modelSaved
      dsimp only
      split <;> rfl
  · exact congrArg Host.Outcome.next (if_neg (by rw [hc]; exact Bool.false_ne_true))

end Sys2Proof.Machine
end

section
/-! SUPPORT. TEMP_READ (R168, R171): the sensors, TEMP and the excursions of the loops in holdover. -/

namespace Sys2Proof.Machine

/-- What is done in both halves leaves of a half what its own part does. -/
theorem both_part {β : Type} {view : Half → Dev → β} {f : Half → Dev → Dev} (hf : ∀ h d, view h.other (f h d) = view h.other d) (d : Dev)
    (g : Half) : ∃ e, view g e = view g d ∧ view g (d.both f) = view g (f g e) := by
  cases g with
  | warp => exact ⟨d, rfl, hf .weft _⟩
  | weft => exact ⟨f .warp d, hf .warp d, rfl⟩

/-- A table filled in rising order holds the value of every key taken, and no other. -/
theorem find?_foldl_range {β γ : Type} {f : Tab β × γ → Nat → Tab β × γ} {take : Nat → Bool} {val : Nat → β} {c : γ}
    (hskip : ∀ acc i, take i = false → f acc i = acc) (htake : ∀ acc i, take i = true → (f acc i).1 = Tab.insert acc.1 i (val i)) (k i : Nat) :
    Tab.find? ((List.range k).foldl f ([], c)).1 i = if i < k ∧ take i = true then some (val i) else none := by
  induction k generalizing i with
  | zero => simp [Tab.find?]
  | succ k ih =>
    rw [List.range_succ, List.foldl_append, List.foldl_cons, List.foldl_nil]
    by_cases ht : take k = true
    · rw [htake _ _ ht]
      by_cases hi : i = k
      · subst hi
        rw [Tab.find?_insert_same _ _ _ (by rw [ih]; simp)]
        simp [ht]
      · rw [Tab.find?_insert_ne _ _ _ _ hi, ih]
        have hlt : i < k + 1 ↔ i < k := by omega
        simp [hlt]
    · have hf := Bool.eq_false_iff.2 ht
      rw [hskip _ _ hf, ih]
      by_cases hi : i = k
      · subst hi
        simp [hf]
      · have hlt : i < k + 1 ↔ i < k := by omega
        simp [hlt]

/-- What is seen of a half's temperatures: the model's engine, the words of its page and the loops. -/
def Dev.tempView (h : Half) (d : Dev) : HoldSt × (Fin 0x200 → Nat) × (Fin 16 → LoopSt) :=
  (d.hm h, fun o => d.w (hldPg h + o.val), fun k => d.loop h k.val)

theorem tempView_ext {d e : Dev} {h : Half} (hm : e.hm h = d.hm h) (hw : ∀ o < 0x200, e.w (hldPg h + o) = d.w (hldPg h + o))
    (hl : ∀ k < 16, e.loop h k = d.loop h k) : e.tempView h = d.tempView h :=
  Prod.ext hm (Prod.ext (funext fun o => hw o.val o.isLt) (funext fun k => hl k.val k.isLt))

section
variable (d : Dev) (h g : Half)

theorem Dev.w_setHm (v : HoldSt) (a : Nat) : (d.setHm g v).w a = d.w a := rfl

theorem Dev.loop_setHm (v : HoldSt) (k : Nat) : (d.setHm g v).loop h k = d.loop h k := rfl

theorem Dev.hm_setLoop (k : Nat) (v : LoopSt) : (d.setLoop g k v).hm h = d.hm h := rfl

theorem Dev.w_setLoop (k : Nat) (v : LoopSt) (a : Nat) : (d.setLoop g k v).w a = d.w a := rfl

theorem Dev.hm_raise (pg j : Nat) : (d.raise pg j).hm h = d.hm h := rfl

end

section
variable {d e : Dev} {h : Half} (hv : e.tempView h = d.tempView h)
include hv

theorem tempView_hm : e.hm h = d.hm h := congrArg Prod.fst hv

theorem tempView_g {f : Fld} (hf : f.off < 0x200) : e.g (hldPg h) f = d.g (hldPg h) f :=
  Dev.g_of_w (congrFun (congrArg (fun v => v.2.1) hv) ⟨f.off, hf⟩)

theorem tempView_loop {k : Nat} (hk : k < 16) : e.loop h k = d.loop h k := congrFun (congrArg (fun v => v.2.2) hv) ⟨k, hk⟩

end

/-- The excursion of a loop in holdover. -/
def Dev.excursion (d : Dev) (h : Half) (dt : Int) (k : Nat) : Dev :=
  if (d.loop h k).holdAt.isSome then d.setLoop h k { d.loop h k with dtMax := max (d.loop h k).dtMax dt.natAbs } else d

/-- A temperature in m°C shown and kept by a half. -/
def Dev.tempShown (d : Dev) (h : Half) (sensors : Tab (Option Int × Nat)) (t : Int) : Dev :=
  (d.p (hldPg h) Reg.HLD.TEMP (unsignedOf 32 t)).setHm h
    { d.hm h with sensors := sensors, tSum := (d.hm h).tSum + (t - d.gs (hldPg h) Reg.HLD.TREF) }

/-- A selected sensor after a reading (R168). -/
def sensorKept (old : Tab (Option Int × Nat)) (reads : List (Option Int)) (i : Nat) : Option Int × Nat :=
  match (reads[i]?).join with
  | some v => (some v, 0)
  | none => (((Tab.find? old i).getD (none, 0)).1, min 3 (((Tab.find? old i).getD (none, 0)).2 + 1))

/-- A reading: the sensors as TSEL and the answers leave them, the temperature of those in the mean, the excursions, and an event for
every sensor removed. -/
theorem tempTaken_eq (h : Half) (reads : List (Option Int)) (d : Dev) : ∃ (sensors : Tab (Option Int × Nat)) (t : Int) (n : Nat),
    (∀ i < 4, ∀ v, bitAt (d.g (hldPg h) Reg.HLD.HCTRL_TSEL) i = true → (reads[i]?).join = some v →
      Tab.find? sensors i = some (some v, 0)) ∧
    (∀ i, bitAt (d.g (hldPg h) Reg.HLD.HCTRL_TSEL) i = false → Tab.find? sensors i = none) ∧
    (∀ v, tempMean sensors = some v → t = v) ∧
    tempTaken h reads d = (List.range n).foldl (fun e _ => e.raise (hldPg h) 5)
      ((d.tempShown h sensors t).each 16 fun k e => e.excursion h (t - d.gs (hldPg h) Reg.HLD.TREF) k) := by
  unfold tempTaken
  extract_lets b m tsel upd t dt d1 d2
  have hfind (i : Nat) : Tab.find? upd.1 i = if i < 4 ∧ bitAt tsel i = true then some (sensorKept m.sensors reads i) else none := by
    refine find?_foldl_range (take := fun i => bitAt tsel i) (val := sensorKept m.sensors reads) (c := 0) (fun acc i hi => ?_)
      (fun acc i hi => ?_) 4 i
    · exact if_pos (by rw [show bitAt tsel i = false from hi]; rfl)
    · have hn : ¬ (!bitAt tsel i) = true := by
        rw [show bitAt tsel i = true from hi]
        decide
      unfold sensorKept
      dsimp only
      rw [if_neg hn]
      cases (reads[i]?).join <;> rfl
  refine ⟨upd.1, t, upd.2, fun i hi v hb hr => ?_, fun i hb => ?_, fun v hv => ?_, rfl⟩
  · rw [hfind, if_pos ⟨hi, hb⟩, sensorKept, hr]
  · rw [hfind, if_neg (by rw [show bitAt tsel i = false from hb]; simp)]
  · show (match tempMean upd.1 with | some v => v | none => d.gs b Reg.HLD.TEMP) = v
    rw [hv]

section
variable (d : Dev) (h : Half)

theorem excursion_loop (dt : Int) (k : Nat) (hl : (d.loop h k).holdAt.isSome = true) :
    ((d.excursion h dt k).loop h k).dtMax = max (d.loop h k).dtMax dt.natAbs := by
  unfold Dev.excursion
  rw [if_pos hl, Dev.loop_setLoop_same]

theorem Dev.loop_setLoop_ne {g i : Half} {n j : Nat} (hne : i.num * 16 + j ≠ g.num * 16 + n) (v : LoopSt) :
    (d.setLoop g n v).loop i j = d.loop i j := Tab.get_set_ne (fun _ => ({} : LoopSt)) _ _ _ _ hne

/-- A property of the excursions noted in a half's loops, each by its own. -/
theorem excursions_loop (dt : Int) {k : Nat} (hk : k < 16) (hl : (d.loop h k).holdAt.isSome = true) :
    ((d.each 16 fun k e => e.excursion h dt k).loop h k).dtMax = max (d.loop h k).dtMax dt.natAbs := by
  have hother (i : Nat) (hi : i ≠ k) (e : Dev) : (e.excursion h dt i).loop h k = e.loop h k := by
    unfold Dev.excursion
    split
    · exact e.loop_setLoop_ne (by omega) _
    · rfl
  refine Dev.each_own (f := fun k e => e.excursion h dt k) (Q := fun e => e.loop h k = d.loop h k)
    (R := fun e => (e.loop h k).dtMax = max (d.loop h k).dtMax dt.natAbs) rfl
    (fun i hi e he => (hother i (by omega) e).trans he) (fun e he => ?_) hk
    fun i _ hi e he => (congrArg LoopSt.dtMax (hother i (by omega) e)).trans he
  rw [excursion_loop e h dt k (by rw [he]; exact hl), he]

theorem excursion_keeps {α : Type} {g : Dev → α} (hg : ∀ e k v, g (e.setLoop h k v) = g e) (dt : Int) (k : Nat) :
    g (d.excursion h dt k) = g d := keeps_ite (hg d k _) rfl

/-- An observation that a reading of a half's sensors does not show in. -/
theorem tempTaken_keeps {α : Type} {g : Dev → α} (hp : ∀ e v, g (e.p (hldPg h) Reg.HLD.TEMP v) = g e) (hm : ∀ e v, g (e.setHm h v) = g e)
    (hl : ∀ e k v, k < 16 → g (e.setLoop h k v) = g e) (he : ∀ e, g (e.raise (hldPg h) 5) = g e) (reads : List (Option Int)) :
    g (tempTaken h reads d) = g d := by
  obtain ⟨sensors, t, n, -, -, -, heq⟩ := tempTaken_eq h reads d
  rw [heq]
  refine (foldl_keeps (fun e _ => he e) _ _).trans ((Dev.each_keeps g 16 _ _ fun k hk e => ?_).trans ((hm _ _).trans (hp d _)))
  exact keeps_ite (hl e k _ hk) rfl

theorem tempTaken_other (reads : List (Option Int)) : (tempTaken h reads d).tempView h.other = d.tempView h.other := by
  have hnum : h.other.num ≠ h.num := fun he => otherHalf_ne h (half_num_inj he)
  refine tempTaken_keeps d h (fun e v => ?_) (fun e v => ?_) (fun e k v hk => ?_) (fun e => ?_) reads
  · exact tempView_ext (Dev.hm_p _ _ _ _ _) (fun o ho => e.w_p_ne _ _ _ _ (pageAddr_other_ne .hld h (by omega) (by decide)))
      fun k _ => Dev.loop_p _ _ _ _ _ _
  · exact tempView_ext (Pair.of_put_other _ _ _) (fun _ _ => Dev.w_setHm _ _ _ _) fun _ _ => Dev.loop_setHm _ _ _ _ _
  · exact tempView_ext (Dev.hm_setLoop _ _ _ _ _) (fun _ _ => Dev.w_setLoop _ _ _ _ _) fun j hj => e.loop_setLoop_ne (by omega) v
  · exact tempView_ext (Dev.hm_raise _ _ _ _) (fun _ _ => e.w_raise _ _ _) fun _ _ => Dev.loop_raise _ _ _ _ _

/-- A half's temperature once taken. -/
theorem tempTaken_shown (reads : List (Option Int)) :
    (∀ i < 4, ∀ v, bitAt (d.g (hldPg h) Reg.HLD.HCTRL_TSEL) i = true → (reads[i]?).join = some v →
      Tab.find? ((tempTaken h reads d).hm h).sensors i = some (some v, 0)) ∧
    (∀ i, bitAt (d.g (hldPg h) Reg.HLD.HCTRL_TSEL) i = false → Tab.find? ((tempTaken h reads d).hm h).sensors i = none) ∧
    ∀ v, tempMean ((tempTaken h reads d).hm h).sensors = some v →
      (tempTaken h reads d).g (hldPg h) Reg.HLD.TEMP = unsignedOf 32 v ∧
      ∀ k < 16, (d.loop h k).holdAt.isSome = true → ((tempTaken h reads d).loop h k).dtMax =
        max (d.loop h k).dtMax (v - d.gs (hldPg h) Reg.HLD.TREF).natAbs := by
  obtain ⟨sensors, t, n, htaken, hforgot, hmean, heq⟩ := tempTaken_eq h reads d
  have hevents {α : Type} {g : Dev → α} (hg : ∀ e, g (e.raise (hldPg h) 5) = g e) : g (tempTaken h reads d) =
      g ((d.tempShown h sensors t).each 16 fun k e => e.excursion h (t - d.gs (hldPg h) Reg.HLD.TREF) k) := by
    rw [heq]
    exact foldl_keeps (fun e _ => hg e) _ _
  have hs : ((tempTaken h reads d).hm h).sensors = sensors := by
    rw [hevents (g := fun e => (e.hm h).sensors) fun e => congrArg HoldSt.sensors (e.hm_raise _ _ _)]
    refine (Dev.each_keeps (fun e => (e.hm h).sensors) 16 _ _ fun k _ e => ?_).trans ?_
    · exact excursion_keeps (g := fun e => (e.hm h).sensors) e h (fun e _ _ => congrArg HoldSt.sensors (e.hm_setLoop _ _ _ _)) _ k
    · unfold Dev.tempShown
      rw [Dev.hm_setHm_same]
  have ht : (tempTaken h reads d).g (hldPg h) Reg.HLD.TEMP = unsignedOf 32 t := by
    rw [hevents (g := fun e => e.g (hldPg h) Reg.HLD.TEMP) fun e => e.g_raise _ _ _ _]
    refine (Dev.each_keeps (fun e => e.g (hldPg h) Reg.HLD.TEMP) 16 _ _ fun k _ e => ?_).trans ?_
    · exact excursion_keeps (g := fun e => e.g (hldPg h) Reg.HLD.TEMP) e h (fun e _ _ => e.g_setLoop _ _ _ _ _) _ k
    · unfold Dev.tempShown
      rw [Dev.g_setHm, Dev.g_p_same _ _ _ _ (by decide)]
      exact Nat.mod_eq_of_lt (unsignedOf_lt 32 t)
  have hloop (k : Nat) : (d.tempShown h sensors t).loop h k = d.loop h k := by
    unfold Dev.tempShown
    rw [Dev.loop_setHm, Dev.loop_p]
  rw [hs]
  refine ⟨htaken, hforgot, fun v hv => ?_⟩
  obtain rfl := hmean v hv
  refine ⟨ht, fun k hk hl => ?_⟩
  rw [hevents (g := fun e => (e.loop h k).dtMax) fun e => congrArg LoopSt.dtMax (e.loop_raise _ _ _ _),
    excursions_loop (d.tempShown h sensors t) h _ hk (by rw [hloop]; exact hl), hloop]

end

/-! ### Only TEMP and its event -/

/-- The device with the models' and the loops' engines put aside. -/
def Dev.withModels (d : Dev) (x : Pair HoldSt) (l : Tab LoopSt) : Dev := { d with hold := x, loops := l }

theorem tempTaken_touches {d e : Dev} {h : Half} {ws es : List Nat} {x : Pair HoldSt} {l : Tab LoopSt} (ht : d.touches (e.withModels x l) ws es)
    (hw : hldPg h + 0x14C ∈ ws) (he : hldPg h + 5 ∈ es) (reads : List (Option Int)) :
    d.touches ((tempTaken h reads e).withModels x l) ws es := by
  have hpw (e : Dev) (v : Nat) : (e.p (hldPg h) Reg.HLD.TEMP v).withModels x l = (e.withModels x l).p (hldPg h) Reg.HLD.TEMP v := rfl
  have hmw (e : Dev) (v : HoldSt) : (e.setHm h v).withModels x l = e.withModels x l := rfl
  have hlw (e : Dev) (k : Nat) (v : LoopSt) : (e.setLoop h k v).withModels x l = e.withModels x l := rfl
  have hrw (e : Dev) : (e.raise (hldPg h) 5).withModels x l = (e.withModels x l).raise (hldPg h) 5 := rfl
  obtain ⟨sensors, t, n, -, -, -, heq⟩ := tempTaken_eq h reads e
  rw [heq]
  have h1 : d.touches ((e.tempShown h sensors t).withModels x l) ws es := by
    unfold Dev.tempShown
    rw [hmw, hpw]
    exact ht.p (f := Reg.HLD.TEMP) hw _
  have h2 : d.touches (((e.tempShown h sensors t).each 16 fun k y => y.excursion h (t - e.gs (hldPg h) Reg.HLD.TREF) k).withModels x l) ws es := by
    rw [Dev.each_keeps (fun y => y.withModels x l) 16 _ _ fun k _ y => excursion_keeps (g := fun y => y.withModels x l) y h (fun y k v => hlw y k v) _ k]
    exact h1
  have hfold : ∀ (k : List Nat) (y : Dev), d.touches (y.withModels x l) ws es →
      d.touches ((k.foldl (fun e _ => e.raise (hldPg h) 5) y).withModels x l) ws es := by
    intro k
    induction k with
    | nil => exact fun _ hy => hy
    | cons i k ih =>
      intro y hy
      refine ih _ ?_
      rw [hrw]
      exact hy.raise he
  exact hfold _ _ h2

end Sys2Proof.Machine
end

section
/-! SUPPORT. What a second boundary publishes of every timebase (R174, R343). -/

namespace Sys2Proof.Machine

/-! ### Published values -/

/-- The values that a timebase's row gives. -/
def Dev.rowValues (d : Dev) (h : Half) (n : Nat) : PubVals where
  cls := (d.classRow h n).1
  cls1 := (d.classRow h n).2.1
  stratum := (d.classRow h n).2.2
  refid := d.refIdRow h n (d.classRow h n).2.2
  bound := d.published h n
  flags := (d.freeNat 16 n % 64 / 16) * 16 + 8 + d.freeNat 16 n % 8
  source := d.freeNat 16 n / 256

/-- A timebase's published values replaced. -/
def Dev.setPub (d : Dev) (n : Nat) (v : PubVals) : Dev := { d with pubs := tset {} d.pubs n v }

theorem Dev.pub_setPub_same (d : Dev) (n : Nat) (v : PubVals) : (d.setPub n v).pub n = v := Tab.get_set_same (fun _ => ({} : PubVals)) _ _ _

theorem Dev.pub_setPub_ne (d : Dev) {i n : Nat} (hne : n ≠ i) (v : PubVals) : (d.setPub i v).pub n = d.pub n :=
  Tab.get_set_ne (fun _ => ({} : PubVals)) _ _ _ _ hne

/-- The rows do not read what has been published. -/
theorem rowValues_withPubs (d : Dev) (x : Tab PubVals) (h : Half) (n : Nat) : ({ d with pubs := x } : Dev).rowValues h n = d.rowValues h n := rfl

/-- A timebase's published values take its loop's. -/
def Dev.publishedOne (d : Dev) (h : Half) (n : Nat) : Dev := d.setPub n (d.rowValues h n)

/-- Class and stratum of TB0 shown in a half. -/
def Dev.classShown (d : Dev) (g : Half) : Dev :=
  (d.p (hldPg g) Reg.HLD.HSTAT_CLASS (d.pub 0).cls).p (hldPg g) Reg.HLD.HSTAT_STRATUM (d.pub 0).stratum

theorem valuesPublished_eq (d : Dev) : valuesPublished d =
    (((d.each 16 fun n e => e.publishedOne d.lead n).drawn 16).classShown .warp).classShown .weft := by
  unfold valuesPublished Dev.classShown Dev.each Dev.publishedOne Dev.setPub Dev.rowValues
  simp only [List.foldl_cons, List.foldl_nil]

/-- The values of a timebase are those that its loop's row gives (R174, R343). -/
def Dev.isPublished (d e : Dev) (n : Nat) : Prop :=
  (e.pub n).cls = (d.classRow d.lead n).1 ∧ (e.pub n).stratum = (d.classRow d.lead n).2.2 ∧
    (e.pub n).refid = d.refIdRow d.lead n (d.classRow d.lead n).2.2 ∧ (e.pub n).bound = d.published d.lead n

theorem Dev.isPublished_of_pub {d e f : Dev} {n : Nat} (hp : f.pub n = e.pub n) (he : d.isPublished e n) : d.isPublished f n := by
  unfold Dev.isPublished
  rw [hp]
  exact he

theorem publishedOne_own (d : Dev) (x : Tab PubVals) (n : Nat) : d.isPublished (({ d with pubs := x } : Dev).publishedOne d.lead n) n := by
  have hp : (({ d with pubs := x } : Dev).publishedOne d.lead n).pub n = d.rowValues d.lead n :=
    (Dev.pub_setPub_same _ n _).trans (rowValues_withPubs d x d.lead n)
  unfold Dev.isPublished
  rw [hp]
  exact ⟨rfl, rfl, rfl, rfl⟩

theorem publishedOne_other (d e : Dev) {i n : Nat} (hi : i ≠ n) (he : d.isPublished e n) : d.isPublished (e.publishedOne d.lead i) n :=
  Dev.isPublished_of_pub (e.pub_setPub_ne (Ne.symm hi) _) he

theorem published_each (d : Dev) {n : Nat} (hn : n < 16) : d.isPublished (d.each 16 fun n e => e.publishedOne d.lead n) n :=
  Dev.each_own (f := fun n e => e.publishedOne d.lead n) (Q := fun e => ∃ x, e = { d with pubs := x }) (R := fun e => d.isPublished e n)
    ⟨d.pubs, rfl⟩ (fun i _ e ⟨x, he⟩ => he ▸ ⟨_, rfl⟩) (fun e ⟨x, he⟩ => he ▸ publishedOne_own d x n) hn
    fun i _ hi e he => publishedOne_other d e (by omega) he

theorem pub_congr {d e : Dev} (h : e.pubs = d.pubs) (n : Nat) : e.pub n = d.pub n := by
  unfold Dev.pub
  rw [h]

theorem classShown_pub (d : Dev) (g : Half) (n : Nat) : (d.classShown g).pub n = d.pub n :=
  pub_congr ((Dev.p_pubs _ _ _ _).trans (d.p_pubs _ _ _)) n

theorem drawn_pub (d : Dev) (k n : Nat) : (d.drawn k).pub n = d.pub n := rfl

theorem valuesPublished_pub (d : Dev) {n : Nat} (hn : n < 16) : d.isPublished (valuesPublished d) n := by
  refine Dev.isPublished_of_pub ?_ (published_each d hn)
  rw [valuesPublished_eq, classShown_pub, classShown_pub, drawn_pub]

end Sys2Proof.Machine
end

section
/-! SUPPORT. What a second boundary applies to the client instances, copies of the model and plans of the baseband (R167, R240,
R360): where it shows. -/

namespace Sys2Proof.Machine

/-! ### Client instances -/

/-- An observation that shows nothing of a client instance: its candidate, its registers and its engine. -/
structure InstHidden {α : Type} (g : Dev → α) (h : Half) (k : Nat) : Prop where
  cand   : CandHidden g h (22 + k)
  word   : ∀ d f v, f.off < 0x40 → g (d.p (instC h k) f v) = g d
  engine : ∀ d v, g (d.setInst h k v) = g d

/-- An observation that reads no word, no event and no engine of a candidate or an instance. -/
theorem instHidden_of {α : Type} {g : Dev → α} (hw : ∀ d a v, g (d.setw a v) = g d) (he : ∀ d pg j, g (d.raise pg j) = g d)
    (hc : ∀ d h c u, g (d.setCand h c u) = g d) (hi : ∀ d h k v, g (d.setInst h k v) = g d) (h : Half) (k : Nat) : InstHidden g h k :=
  ⟨⟨fun d _ _ _ => hw d _ _, fun d _ => hw d _ _, fun d _ => hc d _ _ _, fun d _ _ => he d _ _⟩, fun d _ _ _ => hw d _ _,
    fun d _ => hi d _ _ _⟩

section
variable {α : Type} {g : Dev → α} {h : Half} {k : Nat} (hg : InstHidden g h k) (d : Dev)
include hg

theorem InstHidden.instRefresh : g (instRefresh h k d) = g d := by
  have hp (e : Dev) (f : Fld) (v : Nat) (hf : f.off < 0x40 := by decide) : g (e.p (instC h k) f v) = g e := hg.word e f v hf
  have hbase : g ((d.p (instC h k) Reg.TRS.ISTAT_STATE (d.instState h k)).p (instC h k) Reg.TRS.ISTAT_GRANTS (d.instGrants h k)) = g d :=
    (hp _ _ _).trans (hp _ _ _)
  unfold Machine.instRefresh
  refine (hg.cand.putFault _ _ _).trans ((hp _ _ _).trans ((hp _ _ _).trans ?_))
  split
  · exact (hp _ _ _).trans ((hp _ _ _).trans ((hp _ _ _).trans ((hp _ _ _).trans hbase)))
  · exact hbase

theorem InstHidden.nativeQr (q : Nat) : g (nativeQr h (22 + k) q d) = g d := by
  unfold Machine.nativeQr
  refine keeps_ite (g := g) rfl ?_
  rw [hg.cand.candRefresh, hg.cand.event _ _ (refEvt_lt _ (by decide)), hg.cand.word _ _ _ (by decide)]

theorem InstHidden.setParent (p : Option Foreign) : g (d.setParent h k p) = g d := by
  unfold Dev.setParent
  refine (hg.instRefresh _).trans ?_
  cases p with
  | none => exact hg.engine _ _
  | some f => exact (hg.cand.word _ _ _ (by decide)).trans ((hg.nativeQr _ _).trans (hg.engine _ _))

end

theorem instApplied_hidden {α : Type} {g : Dev → α} (hg : ∀ h, ∀ k < 4, InstHidden g h k) (d : Dev) : g (instApplied d) = g d := by
  refine Dev.each_keeps g 4 _ d fun k hk e => ?_
  refine ((hg _ k hk).instRefresh _).trans ?_
  split
  · exact ((hg _ k hk).instRefresh _).trans ((hg _ k hk).engine _ _)
  · exact ((hg _ k hk).setParent _ _).trans (((hg _ k hk).engine _ _).trans ((hg _ k hk).engine _ _))

theorem inBlock_instC (h : Half) {k o : Nat} (hk : k < 4) (ho : o < 0x40) : inBlock .trs (instC h k + o) := by
  have := inBlock_pageAddr .trs h (i := 0) (o := 0x3A0 + 0x40 * k + o) (by omega)
  rwa [← Nat.add_assoc, ← Nat.add_assoc] at this

/-- A word of a page that holds no instance, no candidate and no selector. -/
theorem instHidden_word {p : Page} {a : Nat} (ha : inBlock p a) (hr : p.code ≠ Page.ref.code) (ht : p.code ≠ Page.trs.code)
    (hs : p.code ≠ Page.sel.code) (h : Half) {k : Nat} (hk : k < 4) : InstHidden (fun d => d.w a) h k where
  cand :=
    ⟨fun d f v hf => d.w_p_ne _ f v _ (ne_of_inBlock ha (inBlock_refQ h (by omega) hf) hr),
      fun d v => (d.w_setw _ _ _).trans (if_neg (ne_of_inBlock ha (inBlock_selPg h (by decide)) hs)), fun _ _ => rfl,
      fun d _ _ => d.w_raise _ _ _⟩
  word d f v hf := d.w_p_ne _ f v _ (ne_of_inBlock ha (inBlock_instC h hk hf) ht)
  engine _ _ := rfl

/-! ### Copies of the model -/

section
variable {α : Type} {g : Dev → α} (d : Dev)

/-- An observation that a copy of the model does not show in. -/
theorem copyModel_keeps (src dst : Half) (hw : ∀ e a v, a ∈ modelOffsets → g (e.setw (hldPg dst + a) v) = g e)
    (hp : ∀ e v, g (e.p (hldPg dst) Reg.HLD.HSTAT_MODEL v) = g e) (hb : ∀ e v, g (e.pb (hldPg dst) Reg.HLD.HSTAT_AGED v) = g e)
    (he : ∀ e, g (e.raise (hldPg dst) 3) = g e) (hm : ∀ e v, g (e.setHm dst v) = g e) : g (d.copyModel src dst) = g d := by
  have hl : ∀ (l : List Nat) (e : Dev), (∀ a ∈ l, a ∈ modelOffsets) →
      g (l.foldl (fun e x => e.setw (hldPg dst + x) (d.w (hldPg src + x))) e) = g e := by
    intro l
    induction l with
    | nil => exact fun _ _ => rfl
    | cons a l ih => exact fun e ha => (ih _ fun b hb => ha b (List.mem_cons_of_mem _ hb)).trans (hw _ _ _ (ha a (List.mem_cons_self ..)))
  unfold Dev.copyModel
  dsimp only
  rw [hm, hb, hp, raiseIf_blind (he _), hl _ _ fun _ ha => ha]

end

/-- Words copied one after another, to as many others. -/
theorem setws_w (d e : Dev) (a b : Nat) (l : List Nat) (hl : l.Nodup) {x : Nat} (hx : x ∈ l) :
    (l.foldl (fun e x => e.setw (b + x) (d.w (a + x))) e).w (b + x) = d.w (a + x) := by
  have hkeep : ∀ (l : List Nat) (e : Dev), x ∉ l → (l.foldl (fun e x => e.setw (b + x) (d.w (a + x))) e).w (b + x) = e.w (b + x) := by
    intro l
    induction l with
    | nil => exact fun _ _ => rfl
    | cons y l ih =>
      intro e hy
      have hxy : x ≠ y := fun he => hy (he ▸ List.mem_cons_self ..)
      have hxl : x ∉ l := fun hm => hy (List.mem_cons_of_mem _ hm)
      exact (ih _ hxl).trans ((e.w_setw _ _ _).trans (if_neg (by omega)))
  induction l generalizing e with
  | nil => exact absurd hx List.not_mem_nil
  | cons y l ih =>
    obtain ⟨hy, hl⟩ := List.nodup_cons.1 hl
    by_cases hxy : x = y
    · subst hxy
      rw [List.foldl_cons, hkeep l _ hy, Dev.w_setw, if_pos rfl, Nat.mod_eq_of_lt (d.w_lt _)]
    · exact ih _ hl ((List.mem_cons.1 hx).resolve_left hxy)

section
variable (d : Dev) (src dst : Half)

theorem copyModel_hm : ((d.copyModel src dst).hm dst).copyDue = false := by
  unfold Dev.copyModel
  dsimp only
  rw [Dev.hm_setHm_same]

theorem copyModel_level : (d.copyModel src dst).g (hldPg dst) Reg.HLD.HSTAT_MODEL = d.g (hldPg src) Reg.HLD.HSTAT_MODEL := by
  unfold Dev.copyModel
  dsimp only
  rw [Dev.g_setHm]
  refine (Dev.g_p_apart _ _ _ (by decide) (by decide)).trans ?_
  rw [Dev.g_p_same _ _ _ _ (by decide)]
  exact Nat.mod_eq_of_lt (d.g_lt _ _)

theorem copyModel_words {x : Nat} (hx : x ∈ modelOffsets) : (d.copyModel src dst).w (hldPg dst + x) = d.w (hldPg src + x) := by
  have hne : hldPg dst + x ≠ hldPg dst + 0x118 := by
    have : ∀ x ∈ modelOffsets, x ≠ 0x118 := by decide
    have := this x hx
    omega
  unfold Dev.copyModel
  dsimp only
  rw [Dev.w_setHm, Dev.w_pb_ne (f := Reg.HLD.HSTAT_AGED) _ _ hne, Dev.w_p_ne _ _ Reg.HLD.HSTAT_MODEL _ _ hne, Dev.w_raiseIf]
  exact setws_w d d _ _ modelOffsets (by decide) hx

theorem copyModel_class (g : Half) : (d.copyModel src dst).g (hldPg g) Reg.HLD.HSTAT_CLASS = d.g (hldPg g) Reg.HLD.HSTAT_CLASS := by
  by_cases hg : g = dst
  · subst hg
    refine copyModel_keeps (g := fun e => e.g (hldPg g) Reg.HLD.HSTAT_CLASS) d src g (fun e a v ha => e.g_setw_ne v ?_)
      (fun e v => e.g_p_apart _ _ (by decide) (by decide)) (fun e v => e.g_p_apart _ _ (by decide) (by decide))
      (fun e => e.g_raise _ _ _ _) fun e v => e.g_setHm _ _ _ _
    have : ∀ a ∈ modelOffsets, a ≠ Reg.HLD.HSTAT_CLASS.off := by decide
    have := this a ha
    omega
  · obtain rfl : dst.other = g := by cases g <;> cases dst <;> simp_all [Half.other]
    have hne {a : Nat} (ha : a < 0x8000) : hldPg dst.other + 0x118 ≠ hldPg dst + a := pageAddr_other_ne .hld dst (by decide) ha
    have hoff : ∀ a ∈ modelOffsets, a < 0x8000 := by decide
    exact Dev.g_of_w (copyModel_keeps (g := fun e => e.w (hldPg dst.other + 0x118)) d src dst
      (fun e a v ha => (e.w_setw _ _ _).trans (if_neg (hne (hoff a ha)))) (fun e v => e.w_p_ne _ _ _ _ (hne (by decide)))
      (fun e v => e.w_p_ne _ _ _ _ (hne (by decide))) (fun e => e.w_raise _ _ _) fun e v => e.w_setHm _ _ _)

end

end Sys2Proof.Machine
end

section
/-! PROOF. O38: the temperatures (R168, R171), and what a second boundary publishes, takes over and plans (R167, R174, R240, R343). -/

namespace Sys2Proof.Machine

/-! ### The second's measurement latch -/

section
variable (d : Dev)

/-- Entry 60 programmed as a CONTROL action of a half, and the other half's not armed. -/
def Dev.latchProgrammed (d : Dev) (h : Half) : Dev :=
  (((d.p (ttaE h 60) Reg.TTA.ACT_KIND 7).p (ttaE h 60) Reg.TTA.ACT_TB 0).pb (ttaE h 60) Reg.TTA.ACT_ARM true).pb (ttaE h.other 60)
    Reg.TTA.ACT_ARM false

/-- The period of entry 60. -/
def Dev.latchPeriod (d : Dev) (h : Half) (per : Nat) : Dev :=
  (d.p (ttaE h 60) Reg.TTA.PER_SEC (per / 10 ^ 9)).p (ttaE h 60) Reg.TTA.PER_NSEC (per % 10 ^ 9)

/-- A plan that stands is kept, any other is programmed, with its next instant where it has none. -/
theorem latchPlanned_cases : latchPlanned d = d ∧ (d.gnssOn = true → d.coresRun d.lead = true →
      d.ttaArmed d.lead 60 = true ∧ d.ttaKind d.lead 60 = 7) ∨
    ∃ per ns, latchPlanned d = (d.latchPeriod d.lead per).latchProgrammed d.lead ∨
      latchPlanned d = ((d.latchPeriod d.lead per).putTtaNs d.lead 60 ns).latchProgrammed d.lead := by
  unfold latchPlanned
  generalize d.lead = h
  split
  · next hoff =>
    refine .inl ⟨rfl, fun hg hc => ?_⟩
    rw [hg, hc] at hoff
    exact absurd hoff Bool.false_ne_true
  extract_lets b per now planned d1 d2
  split
  · next hkept =>
    refine .inl ⟨rfl, fun _ _ => ?_⟩
    have hp := (Bool.and_eq_true_iff.1 hkept).1
    obtain ⟨ha, hk⟩ := Bool.and_eq_true_iff.1 hp
    exact ⟨ha, eq_of_beq hk⟩
  · refine .inr ⟨per, now + per, ?_⟩
    by_cases hc : (planned && decide (d.ttaNs h 60 ≤ now)) = true
    · exact .inl (congrArg (fun e : Dev => e.latchProgrammed h) (if_pos hc))
    · exact .inr (congrArg (fun e : Dev => e.latchProgrammed h) (if_neg hc))

/-- The words of the actions of both halves. -/
theorem latchPlanned_keeps {α : Type} {g : Dev → α} (hg : ∀ e h f v, f.off < 0x20 → g (e.p (ttaE h 60) f v) = g e) :
    g (latchPlanned d) = g d := by
  have hprog (e : Dev) (h : Half) : g (e.latchProgrammed h) = g e :=
    (hg _ _ _ _ (by decide)).trans ((hg _ _ _ _ (by decide)).trans ((hg _ _ _ _ (by decide)).trans (hg _ _ _ _ (by decide))))
  have hper (h : Half) (per : Nat) : g (d.latchPeriod h per) = g d := (hg _ _ _ _ (by decide)).trans (hg _ _ _ _ (by decide))
  obtain ⟨hk, -⟩ | ⟨per, ns, hk | hk⟩ := latchPlanned_cases d
  · rw [hk]
  · rw [hk, hprog, hper]
  · rw [hk, hprog]
    exact (hg _ _ _ _ (by decide)).trans ((hg _ _ _ _ (by decide)).trans ((hg _ _ _ _ (by decide)).trans (hper _ _)))

theorem latchProgrammed_plans (h : Half) : (d.latchProgrammed h).ttaArmed h 60 = true ∧ (d.latchProgrammed h).ttaKind h 60 = 7 := by
  have hne : ttaE h 60 + 0 ≠ ttaE h.other 60 + 0 := by
    exact fun he => pageAddr_other_ne .tta h (a := 0x200 + 0x20 * 60) (b := 0x200 + 0x20 * 60) (by decide) (by decide) he.symm
  have hw (e : Dev) : (e.pb (ttaE h.other 60) Reg.TTA.ACT_ARM false).w (ttaE h 60 + 0) = e.w (ttaE h 60 + 0) :=
    Dev.w_pb_ne (f := Reg.TTA.ACT_ARM) _ _ hne
  unfold Dev.latchProgrammed Dev.ttaArmed Dev.ttaKind
  refine ⟨(Dev.gb_of_w (hw _)).trans (Dev.gb_pb_same _ _ _ _ (by decide) (by decide)), (Dev.g_of_w (hw _)).trans ?_⟩
  refine (Dev.g_p_apart _ _ _ (by decide) (by decide)).trans ((Dev.g_p_apart _ _ _ (by decide) (by decide)).trans ?_)
  exact Dev.g_p_same _ _ _ _ (by decide)

theorem latchPlanned_plans (hg : d.gnssOn = true) (hc : d.coresRun d.lead = true) :
    (latchPlanned d).ttaArmed d.lead 60 = true ∧ (latchPlanned d).ttaKind d.lead 60 = 7 := by
  obtain ⟨hk, hp⟩ | ⟨per, ns, hk | hk⟩ := latchPlanned_cases d
  · rw [hk]
    exact hp hg hc
  · rw [hk]
    exact latchProgrammed_plans _ _
  · rw [hk]
    exact latchProgrammed_plans _ _

end

/-! ### The chain of a second -/

section
variable {α : Type} {g : Dev → α} (d : Dev)

theorem valuesPublished_keeps (hv : ∀ e n v, g (e.setPub n v) = g e) (hn : ∀ e k, g (e.drawn k) = g e)
    (hc : ∀ e h v, g (e.p (hldPg h) Reg.HLD.HSTAT_CLASS v) = g e) (hs : ∀ e h v, g (e.p (hldPg h) Reg.HLD.HSTAT_STRATUM v) = g e) :
    g (valuesPublished d) = g d := by
  rw [valuesPublished_eq]
  unfold Dev.classShown
  rw [hs, hc, hs, hc, hn]
  exact Dev.each_keeps g 16 _ d fun n _ e => hv e n _

/-- The device once the second's values are published and the instances' choices applied. -/
def Dev.secondApplied (d : Dev) : Dev := instApplied (valuesPublished d)

/-- An engine that neither the published values nor the instances are. -/
theorem secondApplied_engine (hv : ∀ e n v, g (e.setPub n v) = g e) (hn : ∀ e k, g (e.drawn k) = g e)
    (hw : ∀ d a v, g (d.setw a v) = g d) (he : ∀ d pg j, g (d.raise pg j) = g d) (hc : ∀ d h c u, g (d.setCand h c u) = g d)
    (hi : ∀ d h k v, g (d.setInst h k v) = g d) : g d.secondApplied = g d :=
  (instApplied_hidden (fun h k _ => instHidden_of hw he hc hi h k) _).trans
    (valuesPublished_keeps d hv hn (fun _ _ _ => hw _ _ _) fun _ _ _ => hw _ _ _)

end

section
variable (d : Dev) (h : Half)

theorem secondApplied_half : d.secondApplied.half = d.half :=
  secondApplied_engine (g := Dev.half) d (fun _ _ _ => rfl) (fun _ _ => rfl) (fun _ _ _ => rfl) (fun _ _ _ => rfl) (fun _ _ _ _ => rfl)
    fun _ _ _ _ => rfl

theorem secondApplied_pages : d.secondApplied.pages = d.pages :=
  secondApplied_engine (g := Dev.pages) d (fun _ _ _ => rfl) (fun _ _ => rfl) (fun _ _ _ => rfl) (fun _ _ _ => rfl) (fun _ _ _ _ => rfl)
    fun _ _ _ _ => rfl

theorem secondApplied_hold : d.secondApplied.hold = d.hold :=
  secondApplied_engine (g := Dev.hold) d (fun _ _ _ => rfl) (fun _ _ => rfl) (fun _ _ _ => rfl) (fun _ _ _ => rfl) (fun _ _ _ _ => rfl)
    fun _ _ _ _ => rfl

theorem secondApplied_tbs : d.secondApplied.tbs = d.tbs :=
  secondApplied_engine (g := Dev.tbs) d (fun _ _ _ => rfl) (fun _ _ => rfl) (fun _ _ _ => rfl) (fun _ _ _ => rfl) (fun _ _ _ _ => rfl)
    fun _ _ _ _ => rfl

theorem secondApplied_pubs : d.secondApplied.pubs = (valuesPublished d).pubs :=
  instApplied_hidden (g := Dev.pubs) (fun h k _ => instHidden_of (fun _ _ _ => rfl) (fun _ _ _ => rfl) (fun _ _ _ _ => rfl)
    (fun _ _ _ _ => rfl) h k) _

theorem secondApplied_hld {o : Nat} (ho : o < 0x1000) : d.secondApplied.w (hldPg h + o) = (valuesPublished d).w (hldPg h + o) :=
  instApplied_hidden (g := fun e => e.w (hldPg h + o))
    (fun g k hk => instHidden_word (inBlock_hldPg h ho) (by decide) (by decide) (by decide) g hk) _

/-- Words that neither show what is published nor belong to an instance. -/
theorem secondApplied_w {p : Page} {a : Nat} (ha : inBlock p a) (hr : p.code ≠ Page.ref.code) (ht : p.code ≠ Page.trs.code)
    (hs : p.code ≠ Page.sel.code) (hl : ∀ g, a ≠ hldPg g + 0x118) : d.secondApplied.w a = d.w a :=
  (instApplied_hidden (g := fun e => e.w a) (fun g _ hk => instHidden_word ha hr ht hs g hk) _).trans
    (valuesPublished_keeps (g := fun e => e.w a) d (fun _ _ _ => rfl) (fun _ _ => rfl) (fun e g _ => e.w_p_ne _ _ _ _ (hl g))
      fun e g _ => e.w_p_ne _ _ _ _ (hl g))

theorem secondApplied_model {o : Nat} (ho : o ∈ modelOffsets) : d.secondApplied.w (hldPg h + o) = d.w (hldPg h + o) := by
  have hlt : ∀ o ∈ modelOffsets, o < 0x1000 ∧ o ≠ 0x118 := by decide
  obtain ⟨hlt, hne⟩ := hlt o ho
  refine secondApplied_w d (inBlock_hldPg h hlt) (by decide) (by decide) (by decide) fun g => ?_
  by_cases hg : g = h
  · subst hg
    omega
  · obtain rfl : h.other = g := by cases g <;> cases h <;> simp_all [Half.other]
    exact fun he => pageAddr_other_ne .hld h (a := 0x118) (b := o) (by decide) (by omega) he.symm

theorem fieldShown_hld (e : Dev) (g : Half) {f f' : Fld} (v : Nat) (hf : f.lo + f.len ≤ 32) (hlt : f.off < 0x8000) (hlt' : f'.off < 0x8000)
    (ha : f'.off ≠ f.off ∨ f.lo + f.len ≤ f'.lo ∨ f'.lo + f'.len ≤ f.lo) : (e.p (hldPg g) f v).g (hldPg h) f' = e.g (hldPg h) f' := by
  by_cases hg : g = h
  · subst hg
    exact e.g_p_apart _ _ hf ha
  · obtain rfl : h.other = g := by cases g <;> cases h <;> simp_all [Half.other]
    exact e.g_p_ne _ _ _ _ _ fun he => pageAddr_other_ne .hld h hlt hlt' he.symm

theorem secondApplied_level : d.secondApplied.g (hldPg h) Reg.HLD.HSTAT_MODEL = d.g (hldPg h) Reg.HLD.HSTAT_MODEL :=
  (Dev.g_of_w (secondApplied_hld d h (o := 0x118) (by decide))).trans
    (valuesPublished_keeps (g := fun e => e.g (hldPg h) Reg.HLD.HSTAT_MODEL) d (fun _ _ _ => rfl) (fun _ _ => rfl)
      (fun e g v => fieldShown_hld h e g v (by decide) (by decide) (by decide) (by decide))
      fun e g v => fieldShown_hld h e g v (by decide) (by decide) (by decide) (by decide))

theorem classShown_class (e : Dev) (g : Half) : (e.classShown g).g (hldPg g) Reg.HLD.HSTAT_CLASS = (e.pub 0).cls % 256 := by
  unfold Dev.classShown
  rw [fieldShown_hld g _ g _ (by decide) (by decide) (by decide) (by decide)]
  exact Dev.g_p_same _ _ _ _ (by decide)

theorem classShown_other (e : Dev) (g : Half) (hg : h ≠ g) : (e.classShown g).g (hldPg h) Reg.HLD.HSTAT_CLASS = e.g (hldPg h) Reg.HLD.HSTAT_CLASS := by
  obtain rfl : g.other = h := by cases g <;> cases h <;> simp_all [Half.other]
  have hne : hldPg g.other + 0x118 ≠ hldPg g + 0x118 := pageAddr_other_ne .hld g (by decide) (by decide)
  exact (Dev.g_p_ne _ _ _ _ _ _ hne).trans (Dev.g_p_ne _ _ _ _ _ _ hne)

/-- TB0's class stands in both halves. -/
theorem secondApplied_class : d.secondApplied.g (hldPg h) Reg.HLD.HSTAT_CLASS = (d.classRow d.lead 0).1 % 256 := by
  have hp : ((valuesPublished d).pub 0).cls = (d.classRow d.lead 0).1 := (valuesPublished_pub d (by decide)).1
  have hs : (valuesPublished d).g (hldPg h) Reg.HLD.HSTAT_CLASS = ((valuesPublished d).pub 0).cls % 256 := by
    rw [valuesPublished_eq, classShown_pub]
    cases h with
    | warp => rw [classShown_other .warp _ .weft (by decide), classShown_class, classShown_pub]
    | weft => rw [classShown_class]
  rw [← hp, ← hs]
  exact Dev.g_of_w (secondApplied_hld d h (o := 0x118) (by decide))

theorem secondApplied_red : d.secondApplied.w (redPg h + Reg.RED.RSTAT_HJOIN.off) = d.w (redPg h + Reg.RED.RSTAT_HJOIN.off) :=
  secondApplied_w d (inBlock_pageAddr .red h (by decide)) (by decide) (by decide) (by decide) fun g =>
    ne_of_inBlock (inBlock_pageAddr .red h (by decide)) (inBlock_hldPg g (by decide))

theorem secondApplied_lead : d.secondApplied.lead = d.lead := Dev.lead_congr (secondApplied_half d) (secondApplied_red d)

theorem secondApplied_out : d.secondApplied.outOfService h = d.outOfService h :=
  Dev.outOfService_congr (secondApplied_half d) (secondApplied_red d) h

theorem hm_congr {d e : Dev} (hh : e.hold = d.hold) (h : Half) : e.hm h = d.hm h := by
  unfold Dev.hm
  rw [hh]

/-- A copy of the model that waits is taken over, and any other leaves the device alone. -/
theorem modelCopied_second : modelCopied d.secondApplied =
    if ((d.hm d.lead.other).copyDue && !(d.outOfService d.lead.other)) = true then d.secondApplied.copyModel d.lead d.lead.other
    else d.secondApplied := by
  have h1 := secondApplied_lead d
  have h2 := secondApplied_out d d.lead.other
  have h3 := hm_congr (secondApplied_hold d) d.lead.other
  unfold modelCopied
  generalize d.secondApplied = e at *
  dsimp only
  rw [h1, h2, h3]

/-- What follows the published values and the instances' choices: words of the model and of the plan, and an event of the model. -/
theorem second_keeps {α : Type} {g : Dev → α} (hw : ∀ e h a v, a ∈ modelOffsets → g (e.setw (hldPg h + a) v) = g e)
    (hp : ∀ e h v, g (e.p (hldPg h) Reg.HLD.HSTAT_MODEL v) = g e) (hb : ∀ e h v, g (e.pb (hldPg h) Reg.HLD.HSTAT_AGED v) = g e)
    (he : ∀ e h, g (e.raise (hldPg h) 3) = g e) (hm : ∀ e h v, g (e.setHm h v) = g e)
    (ht : ∀ e h f v, f.off < 0x20 → g (e.p (ttaE h 60) f v) = g e) : g (latchPlanned (modelCopied d.secondApplied)) = g d.secondApplied := by
  rw [latchPlanned_keeps _ ht, modelCopied_second]
  exact keeps_ite (g := g) (copyModel_keeps _ _ _ (fun e => hw e _) (fun e => hp e _) (fun e => hb e _) (fun e => he e _) fun e => hm e _) rfl

theorem modelCopied_half : (modelCopied d.secondApplied).half = d.half := by
  refine Eq.trans ?_ (secondApplied_half d)
  rw [modelCopied_second]
  exact keeps_ite (g := Dev.half) (copyModel_keeps _ _ _ (fun _ _ _ _ => rfl) (fun _ _ => rfl) (fun _ _ => rfl) (fun _ => rfl)
    fun _ _ => rfl) rfl

theorem modelCopied_pages : (modelCopied d.secondApplied).pages = d.pages := by
  refine Eq.trans ?_ (secondApplied_pages d)
  rw [modelCopied_second]
  exact keeps_ite (g := Dev.pages) (copyModel_keeps _ _ _ (fun _ _ _ _ => rfl) (fun _ _ => rfl) (fun _ _ => rfl) (fun _ => rfl)
    fun _ _ => rfl) rfl

theorem modelCopied_lead : (modelCopied d.secondApplied).lead = d.lead := by
  refine Dev.lead_congr (modelCopied_half d) fun h => Eq.trans ?_ (secondApplied_red d h)
  have hne (g : Half) {a : Nat} (ha : a < 0x1000) : redPg h + Reg.RED.RSTAT_HJOIN.off ≠ hldPg g + a :=
    ne_of_inBlock (inBlock_pageAddr .red h (by decide)) (inBlock_hldPg g ha)
  have hlt : ∀ a ∈ modelOffsets, a < 0x1000 := by decide
  rw [modelCopied_second]
  refine keeps_ite (g := fun e => e.w (redPg h + Reg.RED.RSTAT_HJOIN.off)) (copyModel_keeps (g := fun e => e.w (redPg h + Reg.RED.RSTAT_HJOIN.off))
    _ _ _ (fun e a v ha => (e.w_setw _ _ _).trans (if_neg (hne _ (hlt a ha)))) (fun e v => e.w_p_ne _ _ _ _ (hne _ (by decide)))
    (fun e v => e.w_p_ne _ _ _ _ (hne _ (by decide))) (fun e => e.w_raise _ _ _) fun e v => e.w_setHm _ _ _) rfl

theorem gnssOn_congr {d e : Dev} (hp : e.pages = d.pages) : e.gnssOn = d.gnssOn := by
  unfold Dev.gnssOn Dev.page
  rw [hp]

theorem coresRun_congr {d e : Dev} (hh : e.half = d.half) (h : Half) : e.coresRun h = d.coresRun h := by
  unfold Dev.coresRun Dev.hs
  rw [hh]

/-- The plan leaves the words of the HLD pages. -/
theorem latchPlanned_hld (d : Dev) (h : Half) {o : Nat} (ho : o < 0x1000) : (latchPlanned d).w (hldPg h + o) = d.w (hldPg h + o) :=
  latchPlanned_keeps (g := fun e => e.w (hldPg h + o)) d fun e g f v hf =>
    e.w_p_ne _ f v _ (ne_of_inBlock (inBlock_hldPg h ho) (inBlock_ttaE g (by decide) (by omega)))

theorem latchPlanned_hold (d : Dev) : (latchPlanned d).hold = d.hold := latchPlanned_keeps (g := Dev.hold) d fun _ _ _ _ _ => rfl

end

theorem State.onlyTouches_withModels {s : State} {e : Dev} {ws es : List Nat} (ht : s.dev.touches (e.withModels s.dev.hold s.dev.loops) ws es) :
    s.onlyTouches { s.withDev e with dev := { (s.withDev e).dev with hold := s.dev.hold, loops := s.dev.loops } } ws es := ht.onlyTouches

/-- A reading of both halves' sensors shows in TEMP and its event alone, beside the engines. -/
theorem temps_touch (d : Dev) (reads : List (Option Int)) :
    d.touches ((d.both fun h x => tempTaken h reads x).withModels d.hold d.loops) [hldPg .warp + 0x14C, hldPg .weft + 0x14C]
      [hldPg .warp + 5, hldPg .weft + 5] := by
  have h0 : d.touches (d.withModels d.hold d.loops) [hldPg .warp + 0x14C, hldPg .weft + 0x14C] [hldPg .warp + 5, hldPg .weft + 5] :=
    .refl d _ _
  have h1 := tempTaken_touches h0 (h := .warp) (List.mem_cons_self ..) (List.mem_cons_self ..) reads
  exact tempTaken_touches h1 (h := .weft) (List.mem_cons_of_mem _ (List.mem_singleton_self _)) (List.mem_cons_of_mem _ (List.mem_singleton_self _))
    reads

/-- A model that waits stands in the other half. -/
theorem second_model (d : Dev) (hc : (d.hm d.lead.other).copyDue = true) (ho : d.outOfService d.lead.other = false) :
    ((latchPlanned (modelCopied d.secondApplied)).hm d.lead.other).copyDue = false ∧
      (latchPlanned (modelCopied d.secondApplied)).g (hldPg d.lead.other) Reg.HLD.HSTAT_MODEL = d.g (hldPg d.lead) Reg.HLD.HSTAT_MODEL ∧
      ∀ x ∈ modelOffsets, (latchPlanned (modelCopied d.secondApplied)).w (hldPg d.lead.other + x) = d.w (hldPg d.lead + x) := by
  have hlt : ∀ x ∈ modelOffsets, x < 0x1000 := by decide
  have hm : modelCopied d.secondApplied = d.secondApplied.copyModel d.lead d.lead.other :=
    (modelCopied_second d).trans (if_pos (by rw [hc, ho]; rfl))
  refine ⟨?_, ?_, fun x hx => ?_⟩
  · rw [hm_congr (latchPlanned_hold _), hm, copyModel_hm]
  · rw [Dev.g_of_w (latchPlanned_hld _ _ (o := 0x118) (by decide)), hm, copyModel_level, secondApplied_level]
  · rw [latchPlanned_hld _ _ (hlt x hx), hm, copyModel_words _ _ _ hx, secondApplied_model _ _ hx]

theorem second_plans (d : Dev) (hg : d.gnssOn = true) (hc : d.coresRun d.lead = true) :
    (latchPlanned (modelCopied d.secondApplied)).ttaArmed d.lead 60 = true ∧
      (latchPlanned (modelCopied d.secondApplied)).ttaKind d.lead 60 = 7 := by
  have hl := modelCopied_lead d
  have hp := latchPlanned_plans (modelCopied d.secondApplied) (by rw [gnssOn_congr (modelCopied_pages d)]; exact hg)
    (by rw [hl, coresRun_congr (modelCopied_half d)]; exact hc)
  rwa [hl] at hp

theorem second_class (d : Dev) (h : Half) :
    (latchPlanned (modelCopied d.secondApplied)).g (hldPg h) Reg.HLD.HSTAT_CLASS = (d.classRow d.lead 0).1 % 256 := by
  rw [Dev.g_of_w (latchPlanned_hld _ _ (o := 0x118) (by decide)), ← secondApplied_class d h, modelCopied_second]
  exact keeps_ite (g := fun e => e.g (hldPg h) Reg.HLD.HSTAT_CLASS) (copyModel_class _ _ _ h) rfl

theorem second_pubs (d : Dev) : (latchPlanned (modelCopied d.secondApplied)).pubs = (valuesPublished d).pubs :=
  (second_keeps (g := Dev.pubs) d (fun _ _ _ _ _ => rfl) (fun _ _ _ => rfl) (fun _ _ _ => rfl) (fun _ _ => rfl) (fun _ _ _ => rfl)
    fun _ _ _ _ _ => rfl).trans (secondApplied_pubs d)

theorem second_tbs (d : Dev) : (latchPlanned (modelCopied d.secondApplied)).tbs = d.tbs :=
  (second_keeps (g := Dev.tbs) d (fun _ _ _ _ _ => rfl) (fun _ _ _ => rfl) (fun _ _ _ => rfl) (fun _ _ => rfl) (fun _ _ _ => rfl)
    fun _ _ _ _ _ => rfl).trans (secondApplied_tbs d)

/-- Settles O38: a reading shows each half's temperature in its own part, and every part of a second's boundary after the first
leaves what those before it published. -/
theorem temperaturesAndPublishedValues : Obligations.TemperaturesAndPublishedValues := by
  unfold Obligations.TemperaturesAndPublishedValues
  refine ⟨fun reads s => ?_, fun s => ?_⟩
  · have hview (g : Half) : ∃ e : Dev, e.tempView g = s.dev.tempView g ∧
        (s.dev.both fun h x => tempTaken h reads x).tempView g = (tempTaken g reads e).tempView g :=
      both_part (view := Dev.tempView) (fun h d => tempTaken_other d h reads) s.dev g
    refine ⟨s.withDev (s.dev.both fun h x => tempTaken h reads x), rfl, fun h i hi v hb hr => ?_, fun h i hi hb => ?_, fun h v hv => ?_, ?_⟩
    · obtain ⟨e, he, ht⟩ := hview h
      rw [State.withDev_dev, tempView_hm ht]
      exact (tempTaken_shown e h reads).1 i hi v (by rw [tempView_g he (by decide)]; exact hb) hr
    · obtain ⟨e, he, ht⟩ := hview h
      rw [State.withDev_dev, tempView_hm ht]
      exact (tempTaken_shown e h reads).2.1 i (by rw [tempView_g he (by decide)]; exact hb)
    · obtain ⟨e, he, ht⟩ := hview h
      rw [State.withDev_dev, tempView_hm ht] at hv
      obtain ⟨htemp, hloop⟩ := (tempTaken_shown e h reads).2.2 v hv
      rw [State.withDev_dev, tempView_g ht (by decide)]
      refine ⟨htemp, fun k hk hl => ?_⟩
      rw [tempView_loop ht hk, hloop k hk (by rw [tempView_loop he hk]; exact hl), tempView_loop he hk]
      unfold Dev.gs
      rw [tempView_g he (by decide)]
    · exact State.onlyTouches_withModels (temps_touch s.dev reads)
  · exact ⟨s.withDev (latchPlanned (modelCopied s.dev.secondApplied)), rfl,
      fun n hn => Dev.isPublished_of_pub (pub_congr (second_pubs s.dev) n) (valuesPublished_pub s.dev hn), second_class s.dev,
      second_model s.dev, second_plans s.dev, fun h n _ => Dev.count_congr (second_tbs s.dev) h n, s.keepsRest_withDev _⟩

end Sys2Proof.Machine
end

section
/-! SUPPORT. The synthesis loops (R179 to R185): what a re-lock, an output taken afresh and a C2 fault leave of them. -/

namespace Sys2Proof.Machine

/-! ### Outputs taken afresh -/

/-- What is put aside of a device, the outputs taken afresh do not bring back. -/
theorem outRefresh_aside {φ : Dev → Dev} (hp : ∀ e b f v, φ (e.p b f v) = (φ e).p b f v)
    (hr : ∀ e c pg k, φ (e.raiseIf c pg k) = (φ e).raiseIf c pg k) {d e : Dev} {ws es : List Nat} {h : Half}
    (ht : d.touches (φ e) ws es) (hw : outStatWords h ⊆ ws) (he : outEvents h ⊆ es) : d.touches (φ (outRefresh h e)) ws es := by
  have hstep (x : Nat × Nat) (hx : x ∈ outputs) (e : Dev) (ht : d.touches (φ e) ws es) : d.touches (φ (outStep h e x)) ws es := by
    have hxw : outO h x.1 x.2 + 0x14 ∈ ws := hw (List.mem_map_of_mem hx)
    unfold outStep
    dsimp only
    rw [hr, Dev.pb, hp, hp]
    refine ((Dev.touches.p ?_ hxw _).p hxw _).raiseIf (he (List.mem_map_of_mem hx)) _
    split_ifs
    · exact ht
    · rw [hp]
      exact ht.p hxw _
  have hfold : ∀ (l : List (Nat × Nat)) (e : Dev), l ⊆ outputs → d.touches (φ e) ws es → d.touches (φ (l.foldl (outStep h) e)) ws es := by
    intro l
    induction l with
    | nil => exact fun _ _ he => he
    | cons x l ih =>
      exact fun e hl he => ih _ (fun y hy => hl (List.mem_cons_of_mem _ hy)) (hstep x (hl (List.mem_cons_self ..)) e he)
  rw [outRefresh_eq]
  exact hfold outputs e (List.Subset.refl _) ht

theorem outRefresh_same (h : Half) (d : Dev) : d.touches (outRefresh h d) (outStatWords h) (outEvents h) := by
  have h0 : d.touches ((fun e => e) d) (outStatWords h) (outEvents h) := Dev.touches.refl d _ _
  have ht := outRefresh_aside (φ := fun e => e) (h := h) (fun _ _ _ _ => rfl) (fun _ _ _ _ => rfl) h0 (List.Subset.refl _) (List.Subset.refl _)
  beta_reduce at ht
  exact ht

section
variable (h : Half) (d : Dev)

theorem outRefresh_w {a : Nat} (ha : ¬ inBlock .out a) : (outRefresh h d).w a = d.w a := (outRefresh_same h d).1 a (not_mem_outStatWords ha)

theorem outRefresh_apl (g : Half) {j o : Nat} (hj : j < 2) (ho : o < 0x1000) : (outRefresh h d).w (aplBase g j + o) = d.w (aplBase g j + o) :=
  outRefresh_w h d (inBlock_aplBase g hj ho).not

theorem not_mem_outEvents {a : Nat} (ha : ¬ inBlock .out a) : a ∉ outEvents h := by
  intro hm
  obtain ⟨x, hx, rfl⟩ := List.mem_map.1 hm
  obtain ⟨h1, h2⟩ := outputs_bound hx
  exact ha (inBlock_pageAddr .out h (by omega))

theorem inBlock_aplPg {o : Nat} (ho : o < 0x1000) : inBlock .apl (aplPg h + o) := inBlock_pageAddr .apl h (by omega)

theorem outRefresh_evt (g : Half) {k : Nat} (hk : k < 0x1000) : (outRefresh h d).evt (aplPg g) k = d.evt (aplPg g) k :=
  (outRefresh_same h d).2.1 _ _ (not_mem_outEvents h (inBlock_aplPg g hk).not)

end

theorem evtImplemented_apl (h : Half) {j k : Nat} (hj : j < 2) (hk : k < 6) : evtImplemented (aplPg h) (aplEvt j k) = true := by
  interval_cases j <;> interval_cases k <;> cases h <;> decide

/-! ### A loop's engine and registers -/

section
variable (d : Dev) (h : Half)

theorem Dev.apl_setApl_same (j : Nat) (v : AplSt) : (d.setApl h j v).apl h j = v := Tab.get_set_same (fun _ => ({} : AplSt)) _ _ _

theorem Dev.apl_setApl_fixed (v : AplSt) : (d.setApl h 1 v).apl h 0 = d.apl h 0 :=
  Tab.get_set_ne (fun _ => ({} : AplSt)) _ _ _ _ (by omega)

theorem Dev.apl_congr {d e : Dev} (he : e.apls = d.apls) (h : Half) (j : Nat) : e.apl h j = d.apl h j := by
  unfold Dev.apl
  rw [he]

theorem Dev.g_setApl (j : Nat) (v : AplSt) (b : Nat) (f : Fld) : (d.setApl h j v).g b f = d.g b f := rfl

theorem Dev.w_setApl (j : Nat) (v : AplSt) (a : Nat) : (d.setApl h j v).w a = d.w a := rfl

theorem Dev.evt_setApl (j : Nat) (v : AplSt) (pg k : Nat) : (d.setApl h j v).evt pg k = d.evt pg k := rfl

theorem Dev.tbs_setApl (j : Nat) (v : AplSt) : (d.setApl h j v).tbs = d.tbs := rfl

theorem outRefresh_state (g : Half) {j : Nat} (hj : j < 2) : (outRefresh h d).aplState g j = d.aplState g j :=
  Dev.g_of_w (outRefresh_apl h d g hj (o := 0x10) (by decide))

end

/-- The device with the loops' engines put aside. -/
def Dev.withApls (d : Dev) (x : Tab AplSt) : Dev := { d with apls := x }

theorem State.onlyTouches_withApls {s : State} {e : Dev} {ws es : List Nat} (ht : s.dev.touches (e.withApls s.dev.apls) ws es) :
    s.onlyTouches { s.withDev e with dev := { (s.withDev e).dev with apls := s.dev.apls } } ws es := ht.onlyTouches

section
variable {d e : Dev} {ws es : List Nat} {x : Tab AplSt} (ht : d.touches (e.withApls x) ws es)
include ht

theorem touches_withApls_p {b : Nat} {f : Fld} (hm : b + f.off ∈ ws) (v : Nat) : d.touches ((e.p b f v).withApls x) ws es := ht.p hm v

theorem touches_withApls_setw {a : Nat} (hm : a ∈ ws) (v : Nat) : d.touches ((e.setw a v).withApls x) ws es := ht.setw hm v

theorem touches_withApls_raise {pg k : Nat} (hm : pg + k ∈ es) : d.touches ((e.raise pg k).withApls x) ws es := ht.raise hm

theorem touches_withApls_raiseIf {pg k : Nat} (hm : pg + k ∈ es) (c : Bool) : d.touches ((e.raiseIf c pg k).withApls x) ws es :=
  ht.raiseIf hm c

theorem touches_withApls_setApl (h : Half) (j : Nat) (v : AplSt) : d.touches ((e.setApl h j v).withApls x) ws es := ht

theorem touches_withApls_outRefresh {h : Half} (hw : outStatWords h ⊆ ws) (he : outEvents h ⊆ es) :
    d.touches ((outRefresh h e).withApls x) ws es :=
  outRefresh_aside (φ := fun e => e.withApls x) (fun _ _ _ _ => rfl) (fun _ _ _ _ => rfl) ht hw he

end

/-! ### A re-lock -/

section
variable (d : Dev) (h : Half) (st : Option Nat)

theorem relock_state : (d.relock h st).aplState h 1 = 0 := by
  unfold Dev.relock
  dsimp only
  rw [outRefresh_state _ _ _ (by decide)]
  unfold Dev.aplState
  rw [Dev.g_setApl, Dev.g_p_same _ _ _ _ (by decide)]
  rfl

theorem relock_apl : (d.relock h st).apl h 1 = { d.apl h 1 with t0 := d.now, stored := st, second := false, devNow := 0 } := by
  unfold Dev.relock
  dsimp only
  rw [Dev.apl_congr (outRefresh_apls _ _), Dev.apl_setApl_same]

theorem relock_fixed : (d.relock h st).apl h 0 = d.apl h 0 := by
  unfold Dev.relock
  dsimp only
  rw [Dev.apl_congr (outRefresh_apls _ _), Dev.apl_setApl_fixed]
  exact Dev.apl_congr (Dev.p_apls _ _ _ _) _ _

theorem relock_tbs : (d.relock h st).tbs = d.tbs := by
  unfold Dev.relock
  dsimp only
  rw [outRefresh_tbs, Dev.tbs_setApl, Dev.p_tbs]

/-- A word of another place than STATE of the steered loop. -/
theorem relock_w {j o : Nat} (hj : j < 2) (ho : o < 0x200) (hne : o ≠ 0x10) : (d.relock h st).w (aplBase h j + o) = d.w (aplBase h j + o) := by
  unfold Dev.relock
  dsimp only
  rw [outRefresh_apl _ _ _ hj (by omega), Dev.w_setApl]
  refine d.w_p_ne _ Reg.APL.LSTAT_STATE _ _ ?_
  show aplBase h j + o ≠ aplBase h 1 + 0x10
  unfold aplBase
  omega

theorem relock_evt {k : Nat} (hk : k < 0x1000) : (d.relock h st).evt (aplPg h) k = d.evt (aplPg h) k := by
  unfold Dev.relock
  dsimp only
  rw [outRefresh_evt _ _ _ hk, Dev.evt_setApl]
  rfl

end

theorem relock_touches {d e : Dev} {ws es : List Nat} {x : Tab AplSt} {h : Half} (ht : d.touches (e.withApls x) ws es) (st : Option Nat)
    (hw : aplBase h 1 + 0x10 ∈ ws) (hws : outStatWords h ⊆ ws) (he : outEvents h ⊆ es) : d.touches ((e.relock h st).withApls x) ws es := by
  unfold Dev.relock
  dsimp only
  exact touches_withApls_outRefresh (touches_withApls_setApl (touches_withApls_p (f := Reg.APL.LSTAT_STATE) ht hw _) _ _ _) hws he

/-! ### The C2 fault of the fixed loop -/

/-- A fault of class 2 is recorded in both collectors, and the safe line of its half is pulled (R460). -/
theorem clockFault_hidden {α : Type} {g : Dev → α} (hg : FltHidden g) (hh : ∀ (d : Dev) v, g { d with half := v } = g d) (d : Dev) (h : Half) :
    g (d.clockFault h) = g d := by
  unfold Dev.clockFault Dev.fault
  dsimp only
  rw [if_pos rfl, hh, hg.collect _ _ _ (by decide), hg.collect _ _ _ (by decide)]

theorem fltHidden_of {α : Type} {g : Dev → α} (hw : ∀ d a v, g (d.setw a v) = g d) (he : ∀ d pg k, g (d.raise pg k) = g d)
    (hf : ∀ (d : Dev) v, g { d with flt := v } = g d) : FltHidden g := ⟨fun d a v _ => hw d a v, fun d pg k _ => he d pg k, hf⟩

theorem fltHidden_tbs : FltHidden Dev.tbs := fltHidden_of (fun _ _ _ => rfl) (fun _ _ _ => rfl) fun _ _ => rfl

/-- A word of another page. -/
theorem fltHidden_w {p : Page} {a : Nat} (ha : inBlock p a) (hp : p.code ≠ Page.flt.code) : FltHidden (fun d => d.w a) where
  word d _ _ hb := (d.w_setw _ _ _).trans (if_neg (ne_of_inBlock ha hb hp))
  event d _ _ _ := d.w_raise _ _ _
  engine _ _ := rfl

/-- An event of another page. -/
theorem fltHidden_evt {p : Page} {pg k : Nat} (ha : inBlock p (pg + k)) (hp : p.code ≠ Page.flt.code) : FltHidden (fun d => d.evt pg k) where
  word _ _ _ _ := rfl
  event d _ _ hb := d.evt_raise_ne (ne_of_inBlock ha hb hp)
  engine _ _ := rfl

end Sys2Proof.Machine
end

section
/-! PROOF. O39: synthesis loops lose and regain their oscillator and their lock (R180 to R184). -/

namespace Sys2Proof.Machine

/-! ### No oscillator -/

/-- A loop's STATE reads NO_LO, with LO_LOST where it did not before. -/
def Dev.loGone (d : Dev) (h : Half) (j : Nat) : Dev :=
  if d.aplState h j == 3 then d else (d.p (aplBase h j) Reg.APL.LSTAT_STATE 3).raise (aplPg h) (aplEvt j 4)

theorem loLost_eq (h : Half) (d : Dev) : loLost h d =
    outRefresh h (if d.aplState h 0 == 3 then (d.loGone h 0).loGone h 1 else ((d.loGone h 0).loGone h 1).clockFault h) := rfl

section
variable (d : Dev) (h : Half)

theorem loGone_state {j : Nat} : (d.loGone h j).aplState h j = 3 := by
  unfold Dev.loGone
  split
  · next hs => exact eq_of_beq hs
  · unfold Dev.aplState
    rw [Dev.g_raise, Dev.g_p_same _ _ _ _ (by decide)]
    rfl

theorem loGone_other {i j : Nat} (hne : i ≠ j) : (d.loGone h j).aplState h i = d.aplState h i := by
  have hb : aplBase h i + Reg.APL.LSTAT_STATE.off ≠ aplBase h j + Reg.APL.LSTAT_STATE.off := by
    unfold aplBase
    omega
  exact keeps_ite (g := fun e => e.aplState h i) rfl ((Dev.g_raise _ _ _ _ _).trans (d.g_p_ne _ _ _ _ _ hb))

theorem loGone_evt {j : Nat} (hj : j < 2) : (d.loGone h j).evt (aplPg h) (aplEvt j 4) =
    if d.aplState h j = 3 then d.evt (aplPg h) (aplEvt j 4) else (d.evt (aplPg h) (aplEvt j 4)).occur := by
  unfold Dev.loGone
  by_cases hs : d.aplState h j = 3
  · rw [if_pos hs, if_pos (beq_iff_eq.2 hs)]
  · rw [if_neg hs, if_neg (by simpa using hs), Dev.evt_raise_own _ (evtImplemented_apl h hj (by decide))]
    rfl

theorem loGone_evt_other {i j : Nat} (hne : i ≠ j) : (d.loGone h j).evt (aplPg h) (aplEvt i 4) = d.evt (aplPg h) (aplEvt i 4) := by
  have hb : aplPg h + aplEvt i 4 ≠ aplPg h + aplEvt j 4 := by
    unfold aplEvt
    omega
  exact keeps_ite (g := fun e => e.evt (aplPg h) (aplEvt i 4)) rfl (Dev.evt_raise_ne _ hb)

theorem loGone_tbs {j : Nat} : (d.loGone h j).tbs = d.tbs := keeps_ite (g := Dev.tbs) rfl rfl

/-- What the loss of the oscillator leaves beyond the loops' own change of state. -/
theorem loLost_hidden {α : Type} {g : Dev → α} (hr : ∀ e, g (outRefresh h e) = g e) (hf : FltHidden g)
    (hh : ∀ (d : Dev) v, g { d with half := v } = g d) : g (loLost h d) = g ((d.loGone h 0).loGone h 1) := by
  rw [loLost_eq, hr]
  exact keeps_ite (g := g) rfl (clockFault_hidden hf hh _ _)

theorem fltHidden_aplState (g : Half) {j : Nat} (hj : j < 2) : FltHidden (fun d => d.aplState g j) where
  word d a v ha := Dev.g_of_w (o := 0x10) ((fltHidden_w (inBlock_aplBase g hj (by decide)) (by decide)).word d a v ha)
  event d pg k _ := d.g_raise _ _ _ _
  engine _ _ := rfl

theorem loLost_state {j : Nat} (hj : j < 2) : (loLost h d).aplState h j = 3 := by
  rw [loLost_hidden (g := fun e => e.aplState h j) d h (fun e => outRefresh_state e h h hj) (fltHidden_aplState h hj) fun _ _ => rfl]
  interval_cases j
  · exact (loGone_other _ h (by decide)).trans (loGone_state d h)
  · exact loGone_state _ h

theorem loLost_evt {j : Nat} (hj : j < 2) : (loLost h d).evt (aplPg h) (aplEvt j 4) =
    if d.aplState h j = 3 then d.evt (aplPg h) (aplEvt j 4) else (d.evt (aplPg h) (aplEvt j 4)).occur := by
  have hlt : aplEvt j 4 < 0x1000 := by
    unfold aplEvt
    omega
  rw [loLost_hidden (g := fun e => e.evt (aplPg h) (aplEvt j 4)) d h (fun e => outRefresh_evt h e h hlt)
    (fltHidden_evt (inBlock_aplPg h hlt) (by decide)) fun _ _ => rfl]
  interval_cases j
  · exact (loGone_evt_other _ h (by decide)).trans (loGone_evt d h (by decide))
  · rw [loGone_evt _ h (by decide), loGone_other d h (by decide), loGone_evt_other d h (by decide)]

theorem loLost_tbs : (loLost h d).tbs = d.tbs :=
  (loLost_hidden (g := Dev.tbs) d h (outRefresh_tbs h) fltHidden_tbs fun _ _ => rfl).trans ((loGone_tbs _ h).trans (loGone_tbs d h))

end

/-! ### Band selection -/

section
variable (d : Dev) (h : Half) (band : Nat)

/-- The steered loop settling in a band from now on, with its ratio now as the centre. -/
def Dev.banded (d : Dev) (h : Half) (bd : Nat) : Dev :=
  ((d.p (aplBase h 1) Reg.APL.LSTAT_STATE 1).p (aplBase h 1) Reg.APL.LSTAT_BAND bd).setApl h 1
    { d.apl h 1 with t0 := d.now, cNum := d.ratioNum h, cDen := max 1 (d.apl h 1).mden * 2 ^ 48, devNow := 0 }

/-- A hop entry of the ratio in use takes the band found. -/
def Dev.hopNoted (d : Dev) (h : Half) (a : AplSt) (bd e : Nat) : Dev :=
  if bitAt (d.w (hopAt h 1 e)) 31 && ratioSame a (d.w (hopAt h 1 e) % 2 ^ 12) (d.w (hopAt h 1 e + 4)) (d.w (hopAt h 1 e + 8)) then
    d.setw (hopAt h 1 e) (setBits (setBits (d.w (hopAt h 1 e)) 16 6 bd) 30 1 1)
  else d

theorem bandSelected_takes (hs : d.aplState h 1 = 0) (ht : (d.apl h 1).stored = none ∨ (d.apl h 1).t0 + 250 ≤ d.now) :
    bandSelected h band d = if (d.apl h 1).stored.isSome then d.banded h ((d.apl h 1).stored.getD (band % 64))
      else (d.banded h ((d.apl h 1).stored.getD (band % 64))).each 16 fun e x =>
        x.hopNoted h (d.apl h 1) ((d.apl h 1).stored.getD (band % 64)) e := by
  refine if_neg ?_
  rw [hs]
  rcases ht with ht | ht
  · rw [ht]
    simp
  · simp [Nat.not_lt.2 ht]

theorem bandSelected_stays (hs : d.aplState h 1 ≠ 0 ∨ (d.apl h 1).stored.isSome = true ∧ d.now < (d.apl h 1).t0 + 250) :
    bandSelected h band d = d := by
  refine if_pos ?_
  rcases hs with hs | ⟨hi, ht⟩
  · simp [hs]
  · simp [hi, ht]

/-- Beside hop entries, a band selected changes STATE and BAND alone. -/
theorem bandSelected_keeps {α : Type} {g : Dev → α} (hs : d.aplState h 1 = 0)
    (ht : (d.apl h 1).stored = none ∨ (d.apl h 1).t0 + 250 ≤ d.now) (hg : ∀ x, ∀ e < 16, ∀ v, g (x.setw (hopAt h 1 e) v) = g x) :
    g (bandSelected h band d) = g (d.banded h ((d.apl h 1).stored.getD (band % 64))) := by
  rw [bandSelected_takes d h band hs ht]
  exact keeps_ite (g := g) rfl (Dev.each_keeps g 16 _ _ fun e he x => keeps_ite (g := g) (hg x e he _) rfl)

theorem banded_state (bd : Nat) : (d.banded h bd).aplState h 1 = 1 := by
  unfold Dev.banded Dev.aplState
  rw [Dev.g_setApl]
  refine (Dev.g_p_apart _ _ _ (by decide) (by decide)).trans ?_
  rw [Dev.g_p_same _ _ _ _ (by decide)]
  rfl

theorem banded_band (bd : Nat) : (d.banded h bd).g (aplBase h 1) Reg.APL.LSTAT_BAND = bd % 64 := by
  unfold Dev.banded
  rw [Dev.g_setApl, Dev.g_p_same _ _ _ _ (by decide)]
  rfl

theorem banded_apl (bd : Nat) : (d.banded h bd).apl h 1 =
    { d.apl h 1 with t0 := d.now, cNum := d.ratioNum h, cDen := max 1 (d.apl h 1).mden * 2 ^ 48, devNow := 0 } := by
  unfold Dev.banded
  rw [Dev.apl_setApl_same]

theorem bandSelected_touches (hs : d.aplState h 1 = 0) (ht : (d.apl h 1).stored = none ∨ (d.apl h 1).t0 + 250 ≤ d.now) :
    d.touches ((bandSelected h band d).withApls d.apls) ((aplBase h 1 + 0x10) :: (List.range 16).map (hopAt h 1)) [] := by
  generalize hws : (aplBase h 1 + 0x10) :: (List.range 16).map (hopAt h 1) = ws
  have hl : aplBase h 1 + 0x10 ∈ ws := hws ▸ List.mem_cons_self ..
  have hhop (e : Nat) (he : e < 16) : hopAt h 1 e ∈ ws := hws ▸ List.mem_cons_of_mem _ (List.mem_map_of_mem (List.mem_range.2 he))
  have h0 : d.touches (d.withApls d.apls) ws [] := .refl d _ _
  have h1 (bd : Nat) : d.touches ((d.banded h bd).withApls d.apls) ws [] := by
    unfold Dev.banded
    exact touches_withApls_setApl (touches_withApls_p (f := Reg.APL.LSTAT_BAND)
      (touches_withApls_p (f := Reg.APL.LSTAT_STATE) h0 hl _) hl _) _ _ _
  rw [bandSelected_takes d h band hs ht]
  split
  · exact h1 _
  · refine Dev.each_ind (P := fun e => d.touches (e.withApls d.apls) ws []) (h1 _) fun e he x hx => ?_
    unfold Dev.hopNoted
    split
    · exact touches_withApls_setw hx (hhop e he) _
    · exact hx

end

/-! ### Lock -/

section
variable (d : Dev) (h : Half)

theorem lockDeclared_stays (ok : Bool) (hs : d.aplState h 1 ≠ 1 ∨ d.now < (d.apl h 1).t0 + 37500) : lockDeclared h ok d = d := by
  refine if_pos ?_
  rcases hs with hs | ht
  · simp [hs]
  · simp [ht]

/-- The loop locked: STATE, LOCKS and APL_LOCKED. -/
def Dev.locked (d : Dev) (h : Half) : Dev :=
  (((d.p (aplBase h 1) Reg.APL.LSTAT_STATE 2).inc (aplBase h 1) Reg.APL.LOCKCNT_LOCKS).setApl h 1
    { d.apl h 1 with second := false }).raise (aplPg h) (aplEvt 1 0)

/-- The first failure of a search in a row, and the second. -/
def Dev.lockFailed (d : Dev) (h : Half) : Dev :=
  if (d.apl h 1).second then ((d.raise (aplPg h) (aplEvt 1 2)).p (aplBase h 1) Reg.APL.LSTAT_STATE 4).unitFault (aplPg h) 1
  else ((d.raise (aplPg h) (aplEvt 1 2)).p (aplBase h 1) Reg.APL.LSTAT_STATE 0).setApl h 1
    { d.apl h 1 with t0 := d.now, stored := none, second := true }

theorem lockDeclared_due (hs : d.aplState h 1 = 1) (ht : (d.apl h 1).t0 + 37500 ≤ d.now) (ok : Bool) :
    lockDeclared h ok d = if ok then outRefresh h (ratioRefresh h (d.locked h)) else d.lockFailed h := by
  refine if_neg ?_
  rw [hs]
  simp [Nat.not_lt.2 ht]

theorem locked_state : (d.locked h).aplState h 1 = 2 := by
  unfold Dev.locked Dev.aplState Dev.inc
  rw [Dev.g_raise, Dev.g_setApl, Dev.g_p_apart _ _ _ (by decide) (by decide), Dev.g_p_same _ _ _ _ (by decide)]
  rfl

theorem locked_count : (d.locked h).g (aplBase h 1) Reg.APL.LOCKCNT_LOCKS = (d.g (aplBase h 1) Reg.APL.LOCKCNT_LOCKS + 1) % 2 ^ 16 := by
  unfold Dev.locked
  rw [Dev.g_raise, Dev.g_setApl, Dev.g_inc_same _ _ _ (by decide), Dev.g_p_apart _ _ _ (by decide) (by decide)]
  rfl

theorem locked_evt : (d.locked h).evt (aplPg h) (aplEvt 1 0) = (d.evt (aplPg h) (aplEvt 1 0)).occur := by
  unfold Dev.locked
  rw [Dev.evt_raise_own _ (evtImplemented_apl h (by decide) (by decide)), Dev.evt_setApl]
  rfl

/-- A field of the steered loop but AT_RANGE, once the ratio and the outputs follow. -/
theorem ratioOuts_g {f : Fld} (hf : f.off < 0x40) (ha : f.off ≠ 0x10 ∨ f.lo + f.len ≤ 15 ∨ 16 ≤ f.lo) :
    (outRefresh h (ratioRefresh h d)).g (aplBase h 1) f = d.g (aplBase h 1) f := by
  rw [Dev.g_of_w (o := f.off) (outRefresh_apl _ _ h (by decide) (by omega))]
  have ha' : f.off ≠ Reg.APL.LSTAT_AT_RANGE.off ∨ Reg.APL.LSTAT_AT_RANGE.lo + Reg.APL.LSTAT_AT_RANGE.len ≤ f.lo ∨
      f.lo + f.len ≤ Reg.APL.LSTAT_AT_RANGE.lo := ha.imp id Or.symm
  unfold ratioRefresh
  refine keeps_ite (g := fun e => e.g (aplBase h 1) f) rfl ?_
  exact (raiseIf_blind (g := fun e => e.g (aplBase h 1) f) (Dev.g_raise _ _ _ _ _) _).trans (d.g_p_apart _ _ (by decide) ha')

theorem ratioOuts_evt {k : Nat} (hk : k < 0x1000) (hne : k ≠ 11) :
    (outRefresh h (ratioRefresh h d)).evt (aplPg h) k = d.evt (aplPg h) k := by
  have hev : aplPg h + k ≠ aplPg h + aplEvt 1 3 := by
    unfold aplEvt
    omega
  rw [outRefresh_evt _ _ _ hk]
  exact ratioRefresh_keeps (g := fun e => e.evt (aplPg h) k) (fun _ _ _ _ => rfl) (fun e => e.evt_raise_ne hev) d

theorem ratioRefresh_touches {d e : Dev} {ws es : List Nat} {x : Tab AplSt} {h : Half} (ht : d.touches (e.withApls x) ws es)
    (hw : aplBase h 1 + 0x10 ∈ ws) (he : aplPg h + aplEvt 1 3 ∈ es) : d.touches ((ratioRefresh h e).withApls x) ws es := by
  unfold ratioRefresh
  dsimp only
  split
  · exact ht
  · exact touches_withApls_raiseIf (touches_withApls_p (f := Reg.APL.LSTAT_AT_RANGE) ht hw _) he _

theorem locked_touches : d.touches ((outRefresh h (ratioRefresh h (d.locked h))).withApls d.apls)
    ((aplBase h 1 + 0x10) :: (aplBase h 1 + 0x18) :: outStatWords h) ((aplPg h + aplEvt 1 0) :: (aplPg h + aplEvt 1 3) :: outEvents h) := by
  generalize hws : (aplBase h 1 + 0x10) :: (aplBase h 1 + 0x18) :: outStatWords h = ws
  generalize hes : (aplPg h + aplEvt 1 0) :: (aplPg h + aplEvt 1 3) :: outEvents h = es
  have hw0 : aplBase h 1 + 0x10 ∈ ws := hws ▸ List.mem_cons_self ..
  have hw1 : aplBase h 1 + 0x18 ∈ ws := hws ▸ List.mem_cons_of_mem _ (List.mem_cons_self ..)
  have hwo : outStatWords h ⊆ ws := hws ▸ fun _ ha => List.mem_cons_of_mem _ (List.mem_cons_of_mem _ ha)
  have he0 : aplPg h + aplEvt 1 0 ∈ es := hes ▸ List.mem_cons_self ..
  have he1 : aplPg h + aplEvt 1 3 ∈ es := hes ▸ List.mem_cons_of_mem _ (List.mem_cons_self ..)
  have heo : outEvents h ⊆ es := hes ▸ fun _ ha => List.mem_cons_of_mem _ (List.mem_cons_of_mem _ ha)
  have h0 : d.touches (d.withApls d.apls) ws es := .refl d _ _
  refine touches_withApls_outRefresh (ratioRefresh_touches ?_ hw0 he1) hwo heo
  unfold Dev.locked
  exact touches_withApls_raise (touches_withApls_setApl (touches_withApls_p (f := Reg.APL.LOCKCNT_LOCKS)
    (touches_withApls_p (f := Reg.APL.LSTAT_STATE) h0 hw0 _) hw1 _) _ _ _) he0

theorem lockFailed_evt : (d.lockFailed h).evt (aplPg h) (aplEvt 1 2) = (d.evt (aplPg h) (aplEvt 1 2)).occur := by
  have hlt : aplEvt 1 2 < 0x1000 := by decide
  have hr : (d.raise (aplPg h) (aplEvt 1 2)).evt (aplPg h) (aplEvt 1 2) = (d.evt (aplPg h) (aplEvt 1 2)).occur :=
    d.evt_raise_own (evtImplemented_apl h (by decide) (by decide))
  unfold Dev.lockFailed
  refine keeps_ite (g := fun e => e.evt (aplPg h) (aplEvt 1 2)) ?_ hr
  exact ((fltHidden_evt (inBlock_aplPg h hlt) (by decide)).unitFault _ _ _).trans hr

theorem lockFailed_tbs : (d.lockFailed h).tbs = d.tbs :=
  keeps_ite (g := Dev.tbs) ((fltHidden_tbs.unitFault _ _ _).trans rfl) rfl

theorem lockFailed_second (hs : (d.apl h 1).second = true) : (d.lockFailed h).aplState h 1 = 4 := by
  unfold Dev.lockFailed
  rw [if_pos hs, (fltHidden_aplState h (by decide)).unitFault]
  exact Dev.g_p_same _ _ _ _ (by decide)

theorem lockFailed_first (hs : (d.apl h 1).second = false) : (d.lockFailed h).aplState h 1 = 0 ∧
    ((d.lockFailed h).apl h 1).second = true ∧ ((d.lockFailed h).apl h 1).stored = none ∧ ((d.lockFailed h).apl h 1).t0 = d.now := by
  unfold Dev.lockFailed
  rw [if_neg (by simp [hs]), Dev.apl_setApl_same]
  exact ⟨(Dev.g_setApl _ _ _ _ _ _).trans (Dev.g_p_same _ _ _ _ (by decide)), rfl, rfl, rfl⟩

/-! ### Loss of lock -/

/-- A loss of lock counted. -/
def Dev.lockGone (d : Dev) (h : Half) (j : Nat) : Dev := (d.inc (aplBase h j) Reg.APL.LOCKCNT_UNLOCKS).raise (aplPg h) (aplEvt j 1)

theorem Dev.evt_inc (b : Nat) (f : Fld) (pg k : Nat) : (d.inc b f).evt pg k = d.evt pg k := rfl

theorem lockGone_tbs (j : Nat) : (d.lockGone h j).tbs = d.tbs := (Dev.raise_tbs _ _ _).trans (d.p_tbs _ _ _)

theorem lockGone_count (j : Nat) : (d.lockGone h j).g (aplBase h j) Reg.APL.LOCKCNT_UNLOCKS =
    (d.g (aplBase h j) Reg.APL.LOCKCNT_UNLOCKS + 1) % 2 ^ 16 := by
  unfold Dev.lockGone
  rw [Dev.g_raise, Dev.g_inc_same _ _ _ (by decide)]
  rfl

theorem lockGone_evt {j : Nat} (hj : j < 2) : (d.lockGone h j).evt (aplPg h) (aplEvt j 1) = (d.evt (aplPg h) (aplEvt j 1)).occur := by
  unfold Dev.lockGone
  rw [Dev.evt_raise_own _ (evtImplemented_apl h hj (by decide)), Dev.evt_inc]

/-- The fixed loop searches, with its C2 fault. -/
def Dev.fixedLost (d : Dev) (h : Half) : Dev := outRefresh h ((d.p (aplBase h 0) Reg.APL.LSTAT_STATE 0).clockFault h)

theorem lockLost_locked {j : Nat} (hs : d.aplState h j = 2) :
    lockLost h j d = if j = 0 then (d.lockGone h j).fixedLost h else (d.lockGone h j).relock h none := by
  refine if_neg ?_
  rw [hs]
  decide

theorem lockLost_stays {j : Nat} (hs : d.aplState h j ≠ 2) : lockLost h j d = d := if_pos (by simp [hs])

theorem fixedLost_state : (d.fixedLost h).aplState h 0 = 0 := by
  unfold Dev.fixedLost
  rw [outRefresh_state _ _ _ (by decide), clockFault_hidden (g := fun e => e.aplState h 0) (fltHidden_aplState h (by decide)) fun _ _ => rfl]
  exact Dev.g_p_same _ _ _ _ (by decide)

theorem fixedLost_w {o : Nat} (ho : o < 0x1000) (hne : o ≠ 0x10) : (d.fixedLost h).w (aplBase h 0 + o) = d.w (aplBase h 0 + o) := by
  unfold Dev.fixedLost
  rw [outRefresh_apl _ _ _ (by decide) ho, clockFault_hidden (g := fun e => e.w (aplBase h 0 + o))
    (fltHidden_w (inBlock_aplBase h (by decide) ho) (by decide)) fun _ _ => rfl]
  exact d.w_p_ne _ Reg.APL.LSTAT_STATE _ _ fun he => hne (Nat.add_left_cancel he)

theorem fixedLost_evt {k : Nat} (hk : k < 0x1000) : (d.fixedLost h).evt (aplPg h) k = d.evt (aplPg h) k := by
  unfold Dev.fixedLost
  rw [outRefresh_evt _ _ _ hk, clockFault_hidden (g := fun e => e.evt (aplPg h) k) (fltHidden_evt (inBlock_aplPg h hk) (by decide)) fun _ _ => rfl]
  rfl

theorem fixedLost_tbs : (d.fixedLost h).tbs = d.tbs := by
  unfold Dev.fixedLost
  rw [outRefresh_tbs, clockFault_hidden (g := Dev.tbs) fltHidden_tbs fun _ _ => rfl]
  rfl

/-- A loop that was locked searches, and its loss is counted. -/
theorem lockLost_shown {j : Nat} (hj : j < 2) (hs : d.aplState h j = 2) : (lockLost h j d).aplState h j = 0 ∧
    (lockLost h j d).g (aplBase h j) Reg.APL.LOCKCNT_UNLOCKS = (d.g (aplBase h j) Reg.APL.LOCKCNT_UNLOCKS + 1) % 2 ^ 16 ∧
    (lockLost h j d).evt (aplPg h) (aplEvt j 1) = (d.evt (aplPg h) (aplEvt j 1)).occur ∧ (lockLost h j d).tbs = d.tbs := by
  have hlt : aplEvt j 1 < 0x1000 := by
    unfold aplEvt
    omega
  have hc := lockGone_count d h j
  have he := lockGone_evt d h hj
  have ht := lockGone_tbs d h j
  rw [lockLost_locked d h hs]
  generalize d.lockGone h j = e at *
  interval_cases j
  · rw [if_pos rfl, ← hc, ← he, ← ht]
    exact ⟨fixedLost_state e h, Dev.g_of_w (o := 0x18) (fixedLost_w e h (by decide) (by decide)), fixedLost_evt e h hlt, fixedLost_tbs e h⟩
  · rw [if_neg (by decide), ← hc, ← he, ← ht]
    exact ⟨relock_state e h _, Dev.g_of_w (o := 0x18) (relock_w e h _ (by decide) (by decide) (by decide)), relock_evt e h _ hlt, relock_tbs e h _⟩

end

theorem relock_only {d e : Dev} (h : Half) (ht : d.touches (e.withApls d.apls) [] []) :
    d.touches ((e.relock h none).withApls d.apls) ((aplBase h 1 + 0x10) :: outStatWords h) (outEvents h) :=
  relock_touches (ht.mono (List.nil_subset _) (List.nil_subset _)) none (List.mem_cons_self ..) (List.subset_cons_self _ _) (List.Subset.refl _)

/-- Settles O39: a search, a lock, a failure and a loss each change the loop's own words; the outputs and the fault that follow do
not show there. -/
theorem synthesisLoopsLoseAndRegainLock : Obligations.SynthesisLoopsLoseAndRegainLock := by
  unfold Obligations.SynthesisLoopsLoseAndRegainLock
  refine ⟨fun h s => ?_, fun h s hs => ?_, fun m h s hw hs => ?_, fun m h s hw hs => ?_, fun h j ok band s => ⟨fun hs => ?_, fun hs => ?_,
    fun hs => ?_, fun hs => ?_⟩, fun h s hs ht => ?_, fun h band s hs ht => ?_, fun h s hs ht => ?_, fun h j s hs => ?_⟩
  · exact ⟨_, rfl, loLost_state _ h (by decide), loLost_state _ h (by decide), fun j hj => loLost_evt s.dev h hj, loLost_tbs _ h,
      s.keepsRest_withDev _⟩
  · exact ⟨s.withDev (s.dev.relock h none), next_onDev (f := loReturned h) (if_pos hs), relock_state _ _ _,
      congrArg AplSt.t0 (relock_apl s.dev h none), congrArg AplSt.stored (relock_apl s.dev h none), relock_fixed _ _ _,
      State.onlyTouches_withApls (relock_only h (.refl _ _ _))⟩
  · have he : relocked h 1 (s.dev.regAccess m (aplBase h 1)) = (s.dev.regAccess m (aplBase h 1)).relock h none :=
      (if_neg (by decide)).trans (if_neg hs)
    have hr := relock_apl (s.dev.regAccess m (aplBase h 1)) h none
    refine ⟨s.withDev ((s.dev.regAccess m (aplBase h 1)).relock h none), ?_, relock_state _ _ _, congrArg AplSt.t0 hr,
      congrArg AplSt.stored hr, relock_fixed _ _ _, State.onlyTouches_withApls (relock_only h (Dev.touches_regAccess s.dev m _ _ _))⟩
    rw [exec_of_writeAt (f := relocked h 1) rfl hw, he]
  · have he : relocked h 1 (s.dev.regAccess m (aplBase h 1)) = s.dev.regAccess m (aplBase h 1) := (if_neg (by decide)).trans (if_pos hs)
    refine ⟨s.withDev (s.dev.regAccess m (aplBase h 1)), ?_, (Dev.touches_regAccess s.dev m _ _ _).onlyTouches⟩
    rw [exec_of_writeAt (f := relocked h 1) rfl hw, he]
  · exact next_onDev (f := loReturned h) (d := s.dev) (if_neg hs)
  · exact next_onDev (f := bandSelected h band.val) (d := s.dev) (bandSelected_stays s.dev h _ hs)
  · exact next_onDev (f := lockDeclared h ok) (d := s.dev) (lockDeclared_stays s.dev h ok hs)
  · exact next_onDev (f := lockLost h j.val) (d := s.dev) (lockLost_stays s.dev h hs)
  · exact ⟨s.withDev (s.dev.lockFailed h), next_onDev (f := lockDeclared h false) (lockDeclared_due s.dev h hs ht false), lockFailed_evt _ h,
      lockFailed_second _ h, lockFailed_first _ h, lockFailed_tbs _ h, s.keepsRest_withDev _⟩
  · have hapl (x : Dev) (e : Nat) (_ : e < 16) (v : Nat) : (x.setw (hopAt h 1 e) v).apl h 1 = x.apl h 1 := rfl
    have hlow (f : Fld) (hf : f.off < 0x40) (x : Dev) (e : Nat) (_ : e < 16) (v : Nat) :
        (x.setw (hopAt h 1 e) v).g (aplBase h 1) f = x.g (aplBase h 1) f := x.g_setw_ne v (by unfold hopAt; omega)
    have ha := (bandSelected_keeps (g := fun e => e.apl h 1) s.dev h band.val hs ht hapl).trans (banded_apl _ h _)
    exact ⟨_, rfl,
      (bandSelected_keeps (g := fun e => e.aplState h 1) s.dev h band.val hs ht (hlow _ (by decide))).trans (banded_state _ h _),
      (bandSelected_keeps (g := fun e => e.g (aplBase h 1) Reg.APL.LSTAT_BAND) s.dev h band.val hs ht (hlow _ (by decide))).trans
        ((banded_band _ h _).trans (by rw [Nat.mod_eq_of_lt band.isLt])),
      congrArg AplSt.t0 ha, congrArg AplSt.cNum ha, State.onlyTouches_withApls (bandSelected_touches s.dev h band.val hs ht)⟩
  · refine ⟨s.withDev (outRefresh h (ratioRefresh h (s.dev.locked h))), next_onDev (f := lockDeclared h true) (lockDeclared_due s.dev h hs ht true),
      (ratioOuts_g _ h (by decide) (by decide)).trans (locked_state _ h), (ratioOuts_g _ h (by decide) (by decide)).trans (locked_count _ h),
      (ratioOuts_evt _ h (by decide) (by decide)).trans (locked_evt _ h), State.onlyTouches_withApls (locked_touches _ h)⟩
  · obtain ⟨h1, h2, h3, h4⟩ := lockLost_shown s.dev h j.isLt hs
    exact ⟨_, rfl, h1, h2, h3, h4, s.keepsRest_withDev _⟩

end Sys2Proof.Machine
end

section
/-! PROOF. O40: a hop or a written M that is refused or loaded whole (R182, R185), and an output switched on and off (R187, R189,
R565). -/

namespace Sys2Proof.Machine

/-! ### Ratios -/

section
variable (d : Dev) (h : Half) (mint mnum mden : Nat)

theorem putRatio_apl : (d.putRatio h mint mnum mden).apl h 1 = { d.apl h 1 with mint := mint % 2 ^ 12, mnum := mnum, mden := mden } := by
  unfold Dev.putRatio
  dsimp only
  rw [Dev.apl_setApl_same]

theorem putRatio_state : (d.putRatio h mint mnum mden).aplState h 1 = d.aplState h 1 := by
  unfold Dev.putRatio Dev.aplState
  dsimp only
  rw [Dev.g_setApl]
  exact (Dev.g_p_apart _ _ _ (by decide) (by decide)).trans ((Dev.g_p_apart _ _ _ (by decide) (by decide)).trans
    (Dev.g_p_apart _ _ _ (by decide) (by decide)))

theorem putRatio_tbs : (d.putRatio h mint mnum mden).tbs = d.tbs := by
  unfold Dev.putRatio
  dsimp only
  rw [Dev.tbs_setApl, Dev.p_tbs, Dev.p_tbs, Dev.p_tbs]

end

/-! ### Hops -/

/-- The entry that HOP names. -/
def Dev.hopEntry (d : Dev) (h : Half) (j : Nat) : Nat := hopAt h j (d.g (aplBase h j) Reg.APL.LCTRL_HOP_IDX)

/-- The ratio of a hop entry. -/
def Dev.hopLoaded (d : Dev) (h : Half) : Dev :=
  d.putRatio h (d.w (d.hopEntry h 1) % 2 ^ 12) (d.w (d.hopEntry h 1 + 4)) (d.w (d.hopEntry h 1 + 8))

section
variable (d : Dev) (h : Half)

theorem hopped_fixed : hopped h 0 d = d.raise (aplPg h) (aplEvt 0 5) := by
  unfold hopped
  exact if_pos (by simp)

theorem hopped_refused (hb : bitAt (d.w (d.hopEntry h 1)) 31 = false ∨
    d.ratioBad h (d.w (d.hopEntry h 1) % 2 ^ 12) (d.w (d.hopEntry h 1 + 4)) (d.w (d.hopEntry h 1 + 8)) = true) :
    hopped h 1 d = d.raise (aplPg h) (aplEvt 1 5) := by
  refine if_pos ?_
  show (_ || !(bitAt (d.w (d.hopEntry h 1)) 31) || d.ratioBad h (d.w (d.hopEntry h 1) % 2 ^ 12) (d.w (d.hopEntry h 1 + 4))
    (d.w (d.hopEntry h 1 + 8))) = true
  rcases hb with hb | hb <;> rw [hb] <;> simp

theorem hopped_loads (hv : bitAt (d.w (d.hopEntry h 1)) 31 = true)
    (hb : d.ratioBad h (d.w (d.hopEntry h 1) % 2 ^ 12) (d.w (d.hopEntry h 1 + 4)) (d.w (d.hopEntry h 1 + 8)) = false) :
    hopped h 1 d = if (d.hopLoaded h).aplState h 1 = 3 then d.hopLoaded h
      else (d.hopLoaded h).relock h (if bitAt (d.w (d.hopEntry h 1)) 30 then some (getBits (d.w (d.hopEntry h 1)) 16 6) else none) := by
  refine if_neg ?_
  show ¬ (_ || !(bitAt (d.w (d.hopEntry h 1)) 31) || d.ratioBad h (d.w (d.hopEntry h 1) % 2 ^ 12) (d.w (d.hopEntry h 1 + 4))
    (d.w (d.hopEntry h 1 + 8))) = true
  rw [hv, hb]
  decide

/-- A ratio in force, whether the loop re-locks with it or has no oscillator. -/
theorem hopped_shown (hv : bitAt (d.w (d.hopEntry h 1)) 31 = true)
    (hb : d.ratioBad h (d.w (d.hopEntry h 1) % 2 ^ 12) (d.w (d.hopEntry h 1 + 4)) (d.w (d.hopEntry h 1 + 8)) = false) :
    (hopped h 1 d).aplState h 1 = (if d.aplState h 1 = 3 then 3 else 0) ∧
      ((hopped h 1 d).apl h 1).mint = d.w (d.hopEntry h 1) % 2 ^ 12 ∧ ((hopped h 1 d).apl h 1).mnum = d.w (d.hopEntry h 1 + 4) ∧
      ((hopped h 1 d).apl h 1).mden = d.w (d.hopEntry h 1 + 8) ∧
      (d.aplState h 1 ≠ 3 → ((hopped h 1 d).apl h 1).stored =
        if bitAt (d.w (d.hopEntry h 1)) 30 then some (getBits (d.w (d.hopEntry h 1)) 16 6) else none) ∧
      (hopped h 1 d).tbs = d.tbs := by
  have ha := putRatio_apl d h (d.w (d.hopEntry h 1) % 2 ^ 12) (d.w (d.hopEntry h 1 + 4)) (d.w (d.hopEntry h 1 + 8))
  have hs : (d.hopLoaded h).aplState h 1 = d.aplState h 1 := putRatio_state _ _ _ _ _
  have ht : (d.hopLoaded h).tbs = d.tbs := putRatio_tbs _ _ _ _ _
  have hmod : d.w (d.hopEntry h 1) % 2 ^ 12 % 2 ^ 12 = d.w (d.hopEntry h 1) % 2 ^ 12 := Nat.mod_mod _ _
  rw [hmod] at ha
  change (d.hopLoaded h).apl h 1 = _ at ha
  rw [hopped_loads d h hv hb, hs]
  generalize d.hopLoaded h = e at *
  by_cases h3 : d.aplState h 1 = 3
  · rw [if_pos h3, if_pos h3, ha, ht]
    exact ⟨hs.trans h3, rfl, rfl, rfl, fun hn => absurd h3 hn, rfl⟩
  · rw [if_neg h3, if_neg h3, relock_apl, ha, relock_tbs, ht]
    exact ⟨relock_state e h _, rfl, rfl, rfl, fun _ => rfl, rfl⟩

/-! ### A written M -/

theorem mWritten_refused (v : Nat) (hb : d.ratioBad h (v % 2 ^ 12) (d.g (aplBase h 1) Reg.APL.M_NUM) (d.g (aplBase h 1) Reg.APL.M_DEN) = true) :
    mWritten h v d = d.raise (aplPg h) (aplEvt 1 5) := if_pos hb

/-- The ratio of a written M. -/
def Dev.mLoaded (d : Dev) (h : Half) (v : Nat) : Dev :=
  d.putRatio h (v % 2 ^ 12) (d.g (aplBase h 1) Reg.APL.M_NUM) (d.g (aplBase h 1) Reg.APL.M_DEN)

theorem mWritten_loads (v : Nat)
    (hb : d.ratioBad h (v % 2 ^ 12) (d.g (aplBase h 1) Reg.APL.M_NUM) (d.g (aplBase h 1) Reg.APL.M_DEN) = false) :
    mWritten h v d = if (d.mLoaded h v).aplState h 1 = 3 then d.mLoaded h v
      else if 50000 < ((d.mLoaded h v).devWant h).natAbs then (d.mLoaded h v).relock h none else ratioRefresh h (d.mLoaded h v) :=
  if_neg (by rw [hb]; exact Bool.false_ne_true)

theorem ratioRefresh_apls : (ratioRefresh h d).apls = d.apls :=
  ratioRefresh_keeps (g := Dev.apls) (fun _ _ _ _ => rfl) (fun _ => rfl) d

theorem ratioRefresh_tbs : (ratioRefresh h d).tbs = d.tbs :=
  ratioRefresh_keeps (g := Dev.tbs) (fun _ _ _ _ => rfl) (fun _ => rfl) d

theorem ratioRefresh_state : (ratioRefresh h d).aplState h 1 = d.aplState h 1 := by
  unfold ratioRefresh
  refine keeps_ite (g := fun e => e.aplState h 1) rfl ?_
  exact (raiseIf_blind (g := fun e => e.aplState h 1) (Dev.g_raise _ _ _ _ _) _).trans (d.g_p_apart _ _ (by decide) (by decide))

theorem mWritten_shown (v : Nat)
    (hb : d.ratioBad h (v % 2 ^ 12) (d.g (aplBase h 1) Reg.APL.M_NUM) (d.g (aplBase h 1) Reg.APL.M_DEN) = false) :
    ((mWritten h v d).apl h 1).mint = v % 2 ^ 12 ∧
      (mWritten h v d).aplState h 1 =
        (if d.aplState h 1 = 3 then 3 else if 50000 < ((d.mLoaded h v).devWant h).natAbs then 0 else d.aplState h 1) ∧
      ((mWritten h v d).apl h 1).mnum = d.g (aplBase h 1) Reg.APL.M_NUM ∧
      ((mWritten h v d).apl h 1).mden = d.g (aplBase h 1) Reg.APL.M_DEN ∧ (mWritten h v d).tbs = d.tbs := by
  have ha := putRatio_apl d h (v % 2 ^ 12) (d.g (aplBase h 1) Reg.APL.M_NUM) (d.g (aplBase h 1) Reg.APL.M_DEN)
  have hs : (d.mLoaded h v).aplState h 1 = d.aplState h 1 := putRatio_state _ _ _ _ _
  have ht : (d.mLoaded h v).tbs = d.tbs := putRatio_tbs _ _ _ _ _
  have hmod : v % 2 ^ 12 % 2 ^ 12 = v % 2 ^ 12 := Nat.mod_mod _ _
  rw [hmod] at ha
  change (d.mLoaded h v).apl h 1 = _ at ha
  rw [mWritten_loads d h v hb, hs]
  generalize d.mLoaded h v = e at *
  by_cases h3 : d.aplState h 1 = 3
  · rw [if_pos h3, if_pos h3, ha, ht]
    exact ⟨rfl, hs.trans h3, rfl, rfl, rfl⟩
  · rw [if_neg h3, if_neg h3]
    by_cases hw : 50000 < (e.devWant h).natAbs
    · rw [if_pos hw, if_pos hw, relock_apl, ha, relock_tbs, ht]
      exact ⟨rfl, relock_state e h _, rfl, rfl, rfl⟩
    · rw [if_neg hw, if_neg hw, Dev.apl_congr (ratioRefresh_apls _ _), ha, ratioRefresh_tbs, ht]
      exact ⟨rfl, (ratioRefresh_state e h).trans hs, rfl, rfl, rfl⟩

end

/-! ### Outputs -/

/-- An output's status once its half's outputs are taken afresh is what its own step makes of a device that shows the same of it. -/
theorem outRefresh_own (d : Dev) {h : Half} {y : Nat × Nat} (hy : y ∈ outputs) : ∃ e : Dev, e.outs = d.outs ∧
    d.touchesOuts e (outStatWords h) (outEvents h) ∧ e.w (outO h y.1 y.2 + 0x14) = d.w (outO h y.1 y.2 + 0x14) ∧
    (outRefresh h d).w (outO h y.1 y.2 + 0x14) = (outStep h e y).w (outO h y.1 y.2 + 0x14) := by
  obtain ⟨l, r, hlr⟩ := List.append_of_mem hy
  obtain ⟨-, hyr, hlr'⟩ := List.nodup_append.1 (hlr ▸ (by decide : outputs.Nodup) : (l ++ y :: r).Nodup)
  have hl : l ⊆ outputs := hlr ▸ List.subset_append_left _ _
  have hr : r ⊆ outputs := hlr ▸ fun x hx => List.mem_append_right _ (List.mem_cons_of_mem _ hx)
  have hsteps (e : Dev) (l : List (Nat × Nat)) (hl : l ⊆ outputs) : e.touchesOuts (l.foldl (outStep h) e) (statOf h l) (outEvents h) :=
    outSteps_touches (Dev.touchesOuts.of_touches (Dev.touches.refl e _ _)) hl (List.Subset.refl _) (List.Subset.refl _)
  refine ⟨l.foldl (outStep h) d, foldl_keeps (outStep_keeps Dev.p_outs Dev.raiseIf_outs h) l d,
    (hsteps d l hl).mono (List.map_subset _ hl),
    (hsteps d l hl).w (stat_not_mem hy hl fun hm => hlr' y hm y (List.mem_cons_self ..) rfl), ?_⟩
  rw [outRefresh_eq, hlr, List.foldl_append, List.foldl_cons]
  exact (hsteps (outStep h (l.foldl (outStep h) d) y) r hr).w (stat_not_mem hy hr (List.nodup_cons.1 hyr).1)

theorem outStep_running_gated {h : Half} {e : Dev} {x : Nat × Nat} (hg : e.gb (outO h x.1 x.2) Reg.OUT.CFG_EN = false) :
    (outStep h e x).gb (outO h x.1 x.2) Reg.OUT.OSTAT_RUNNING = (!(e.hs h).safe && (e.hs h).powered &&
      e.gb (outO h x.1 x.2) Reg.OUT.OSTAT_RUNNING && e.outHigh h x.1 x.2) := by
  have hc : (e.gcause h x.1 x.2 == 0) = false := by
    have hen : e.en (outPg h x.1) (outO h x.1 x.2) Reg.OUT.CFG_EN = false := by
      unfold Dev.en
      rw [hg, Bool.and_false]
    unfold Dev.gcause
    dsimp only
    rw [hen]
    simp [bitOf]
  unfold outStep
  dsimp only
  rw [Dev.gb_raiseIf, Dev.gb_pb_same _ _ _ _ (by decide) (by decide), hc]
  cases (e.hs h).safe <;> cases (e.hs h).powered <;> simp

/-- RUNNING of an output that is not enabled: it runs on through a high phase alone. -/
theorem outRefresh_running_gated {d : Dev} {h : Half} {y : Nat × Nat} (hy : y ∈ outputs) (hg : d.gb (outO h y.1 y.2) Reg.OUT.CFG_EN = false) :
    (outRefresh h d).gb (outO h y.1 y.2) Reg.OUT.OSTAT_RUNNING = (!(d.hs h).safe && (d.hs h).powered &&
      d.gb (outO h y.1 y.2) Reg.OUT.OSTAT_RUNNING && d.outHigh h y.1 y.2) := by
  obtain ⟨e, ho, ht, hw, hs⟩ := outRefresh_own d (h := h) hy
  have hh := congrArg Dev.half ht.2.2.1
  have hhalf : e.half = d.half := hh
  have hhs : e.hs h = d.hs h := congrArg (fun p => Pair.of p h) hhalf
  have hgate : e.gb (outO h y.1 y.2) Reg.OUT.CFG_EN = false :=
    (Dev.gb_of_w (o := 0) (ht.w (outO_not_mem_outStatWords h h y.1 y.2))).trans hg
  rw [Dev.gb_of_w (o := 0x14) hs, outStep_running_gated hgate, hhs, Dev.gb_of_w (o := 0x14) hw, outHigh_of_touches ht ho]

section
variable (d : Dev) (h : Half) (i j : Nat)

/-- EN written, before the outputs follow. -/
def Dev.enPut (d : Dev) (h : Half) (i j : Nat) (v : Bool) : Dev := d.pb (outO h i j) Reg.OUT.CFG_EN v

theorem outEnWritten_starts (hs : d.gb (outO h i j) Reg.OUT.CFG_EN = false ∨ (d.out h i j).stopped = true) :
    outEnWritten h i j true d = outRefresh h ((d.outAnchor h i j).enPut h i j true) := by
  refine congrArg (fun e : Dev => outRefresh h (e.enPut h i j true)) (if_pos ?_)
  rcases hs with hs | hs <;> simp [hs]

theorem outEnWritten_keeps (he : d.gb (outO h i j) Reg.OUT.CFG_EN = true) (hs : (d.out h i j).stopped = false) :
    outEnWritten h i j true d = outRefresh h (d.enPut h i j true) :=
  congrArg (fun e : Dev => outRefresh h (e.enPut h i j true)) (if_neg (by simp [he, hs]))

theorem outEnWritten_stops : outEnWritten h i j false d = outRefresh h (d.enPut h i j false) :=
  congrArg (fun e : Dev => outRefresh h (e.enPut h i j false)) (if_neg (by simp))

theorem enPut_en (v : Bool) : (outRefresh h (d.enPut h i j v)).gb (outO h i j) Reg.OUT.CFG_EN = v := by
  have hw : (outRefresh h (d.enPut h i j v)).w (outO h i j + 0) = (d.enPut h i j v).w (outO h i j + 0) :=
    (outRefresh_same h _).1 _ (outO_not_mem_outStatWords h h i j)
  exact (Dev.gb_of_w hw).trans (d.gb_pb_same _ _ _ (by decide) (by decide))

theorem enPut_out (v : Bool) : (outRefresh h (d.enPut h i j v)).out h i j = d.out h i j :=
  Dev.out_congr ((outRefresh_outs _ _).trans (Dev.p_outs _ _ _ _)) h i j

theorem outAnchor_out : (d.outAnchor h i j).out h i j =
    { d.out h i j with stopped := false, anchor := (d.sec h (d.outTb h i j) + 1) * secFrac, edge := none } := by
  unfold Dev.outAnchor
  dsimp only
  rw [Dev.out_setOut_same]

end

section
variable {d e : Dev} {h : Half} {i j : Nat}

theorem enPut_touchesOuts (ht : d.touchesOuts e [] []) (v : Bool) :
    d.touchesOuts (outRefresh h (e.enPut h i j v)) (outO h i j :: outStatWords h) (outEvents h) := by
  have h1 := ht.mono (List.nil_subset (outO h i j :: outStatWords h)) (List.nil_subset (outEvents h))
  exact outRefresh_touches (h1.pb (f := Reg.OUT.CFG_EN) (List.mem_cons_self ..) v) (List.subset_cons_self _ _) (List.Subset.refl _)

theorem enPut_touches (ht : d.touches e [] []) (v : Bool) :
    d.touches (outRefresh h (e.enPut h i j v)) (outO h i j :: outStatWords h) (outEvents h) := by
  have h1 := ht.mono (List.nil_subset (outO h i j :: outStatWords h)) (List.nil_subset (outEvents h))
  have h2 : d.touches ((fun e => e) (e.enPut h i j v)) (outO h i j :: outStatWords h) (outEvents h) :=
    h1.pb (f := Reg.OUT.CFG_EN) (List.mem_cons_self ..) v
  have ht := outRefresh_aside (φ := fun e => e) (h := h) (fun _ _ _ _ => rfl) (fun _ _ _ _ => rfl) h2 (List.subset_cons_self _ _) (List.Subset.refl _)
  beta_reduce at ht
  exact ht

/-- A high phase does not depend on EN. -/
theorem enPut_outHigh (hi : i < 2) (hj : j < 8) (v : Bool) : (d.enPut h i j v).outHigh h i j = d.outHigh h i j := by
  have hcfg {f : Fld} (hl : 1 ≤ f.lo) : (d.enPut h i j v).g (outO h i j) f = d.g (outO h i j) f :=
    d.g_p_apart (f := Reg.OUT.CFG_EN) _ _ (by decide) (.inr (.inl hl))
  have hapl {k : Nat} (hk : k < 2) {f : Fld} (hf : f.off < 0x1000) : (d.enPut h i j v).g (aplBase h k) f = d.g (aplBase h k) f :=
    d.g_p_ne _ _ _ _ _ (ne_of_inBlock (inBlock_aplBase h hk hf) (inBlock_outO h hi hj (by decide)))
  have hp : (d.enPut h i j v).isPulse h i j = d.isPulse h i j := congrArg (· == 1) (hcfg (f := Reg.OUT.CFG_FORMAT) (by decide))
  have hl : (d.enPut h i j v).outLoop h i j = d.outLoop h i j := hcfg (by decide)
  have hb : (d.enPut h i j v).g (outO h i j) Reg.OUT.CFG_TB = d.g (outO h i j) Reg.OUT.CFG_TB := hcfg (by decide)
  have hw : (d.enPut h i j v).aplFollow h = d.aplFollow h := hapl (by decide) (by decide)
  have hx : (d.enPut h i j v).fixn h = d.fixn h := hapl (by decide) (by decide)
  have hn : ∀ k, (d.enPut h i j v).apl h k = d.apl h k := Dev.apl_congr (Dev.p_apls _ _ _ _) h
  have ho : (d.enPut h i j v).out h i j = d.out h i j := Dev.out_congr (Dev.p_outs _ _ _ _) h i j
  have hc : ∀ n, (d.enPut h i j v).count h n = d.count h n := Dev.count_congr (Dev.p_tbs _ _ _ _) h
  have hm : (d.enPut h i j v).minDiv h i j = d.minDiv h i j := by simp only [Dev.minDiv, hn, hx, hl]
  have hq : (d.enPut h i j v).outPeriod h i j = d.outPeriod h i j := by simp only [Dev.outPeriod, hl, hx, hn, hm, ho]
  have hg : (d.enPut h i j v).outTb h i j = d.outTb h i j := by simp only [Dev.outTb, hp, hl, hb, hw]
  unfold Dev.outHigh
  dsimp only
  rw [hp, hq, hg, ho, hc]

/-- RUNNING of an output switched off: it runs on through a high phase alone. -/
theorem enPut_running (hi : i < 2) (hj : j < 8) (hy : (i, j) ∈ outputs) :
    (outRefresh h (d.enPut h i j false)).gb (outO h i j) Reg.OUT.OSTAT_RUNNING = (!(d.hs h).safe && (d.hs h).powered &&
      d.gb (outO h i j) Reg.OUT.OSTAT_RUNNING && d.outHigh h i j) := by
  have hs : (d.enPut h i j false).hs h = d.hs h := rfl
  have hr : (d.enPut h i j false).gb (outO h i j) Reg.OUT.OSTAT_RUNNING = d.gb (outO h i j) Reg.OUT.OSTAT_RUNNING :=
    d.gb_p_apart _ _ (by decide) (by decide)
  have hg : (d.enPut h i j false).gb (outO h i j) Reg.OUT.CFG_EN = false := d.gb_pb_same _ _ _ (by decide) (by decide)
  rw [outRefresh_running_gated (y := (i, j)) hy hg, hs, hr, enPut_outHigh hi hj]

end

/-- The twelve outputs of a half. -/
theorem output_mem (o : Fin 12) : (o.val / 8, o.val % 8) ∈ outputs := by
  revert o
  decide

/-- What a written M would want is not told by the access. -/
theorem devWant_withPcnt (d : Dev) (x : Tab PCnt) (h : Half) (v : Nat) :
    (({ d with pcnt := x } : Dev).mLoaded h v).devWant h = (d.mLoaded h v).devWant h := rfl

/-- A refusal of a ratio raises its event alone, after the access. -/
theorem refused_only (d : Dev) (m : Master) (h : Half) (a : Nat) {j : Nat} (hj : j < 2) :
    ((d.regAccess m a).raise (aplPg h) (aplEvt j 5)).evt (aplPg h) (aplEvt j 5) = (d.evt (aplPg h) (aplEvt j 5)).occur ∧
      d.touches ((d.regAccess m a).raise (aplPg h) (aplEvt j 5)) [] [aplPg h + aplEvt j 5] :=
  ⟨Dev.evt_raise_own _ (evtImplemented_apl h hj (by decide)), (Dev.touches_regAccess d m a _ _).raise (List.mem_singleton_self _)⟩

/-- Settles O40: what a hop or a written M loads stands in the loop's engine whatever follows, and an output's EN and grid stand
whatever its half's outputs do. -/
theorem ratiosAreLoadedWholeAndOutputsSwitch : Obligations.RatiosAreLoadedWholeAndOutputsSwitch := by
  unfold Obligations.RatiosAreLoadedWholeAndOutputsSwitch
  refine ⟨fun m h s hw => ?_, fun m h s hw => ?_, fun m h s hw => ?_, fun m h v s hw hb => ?_, fun m h v s hw hb => ?_,
    fun m h o s hw hs => ?_, fun m h o s hw he hs => ?_, fun m h o s hw => ?_⟩
  · obtain ⟨he, ht⟩ := refused_only s.dev m h (aplBase h 0) (j := 0) (by decide)
    refine ⟨s.withDev ((s.dev.regAccess m (aplBase h 0)).raise (aplPg h) (aplEvt 0 5)), ?_, he, ht.onlyTouches⟩
    rw [exec_of_writeAt (f := hopped h 0) rfl hw, hopped_fixed]
  · intro e hv hb
    obtain ⟨h1, h2, h3, h4, h5, h6⟩ := hopped_shown (s.dev.regAccess m (aplBase h 1)) h hv hb
    exact ⟨_, exec_of_writeAt (f := hopped h 1) rfl hw, h1, h2, h3, h4, h5, h6, s.keepsRest_withDev _⟩
  · intro e hb
    obtain ⟨he, ht⟩ := refused_only s.dev m h (aplBase h 1) (j := 1) (by decide)
    refine ⟨s.withDev ((s.dev.regAccess m (aplBase h 1)).raise (aplPg h) (aplEvt 1 5)), ?_, he, ht.onlyTouches⟩
    rw [exec_of_writeAt (f := hopped h 1) rfl hw, hopped_refused (s.dev.regAccess m (aplBase h 1)) h hb]
  · obtain ⟨he, ht⟩ := refused_only s.dev m h (aplPg h + 0x30C) (j := 1) (by decide)
    refine ⟨s.withDev ((s.dev.regAccess m (aplPg h + 0x30C)).raise (aplPg h) (aplEvt 1 5)), ?_, he, ht.onlyTouches⟩
    rw [exec_of_writeAt (f := mWritten h v.toNat) rfl hw, mWritten_refused (s.dev.regAccess m (aplPg h + 0x30C)) h _ hb]
  · intro p
    obtain ⟨h1, h2, h3, h4, h5⟩ := mWritten_shown (s.dev.regAccess m (aplPg h + 0x30C)) h v.toNat hb
    have hd : ((s.dev.regAccess m (aplPg h + 0x30C)).mLoaded h v.toNat).devWant h = p.devWant h := devWant_withPcnt s.dev _ h _
    rw [hd] at h2
    exact ⟨_, exec_of_writeAt (f := mWritten h v.toNat) rfl hw, h1, h2, h3, h4, h5, s.keepsRest_withDev _⟩
  · generalize hi : o.val / 8 = i at *
    generalize hj : o.val % 8 = j at *
    have ha := outAnchor_out (s.dev.regAccess m (outO h i j)) h i j
    have ho := enPut_out ((s.dev.regAccess m (outO h i j)).outAnchor h i j) h i j true
    have ht : s.dev.touchesOuts ((s.dev.regAccess m (outO h i j)).outAnchor h i j) [] [] :=
      Dev.touchesOuts.setOut (Dev.touchesOuts.of_touches (Dev.touches_regAccess s.dev m (outO h i j) [] [])) h i j _
    refine ⟨s.withDev (outRefresh h (((s.dev.regAccess m (outO h i j)).outAnchor h i j).enPut h i j true)), ?_, enPut_en _ h i j true,
      congrArg OutSt.stopped (ho.trans ha), congrArg OutSt.anchor (ho.trans ha),
      (enPut_touchesOuts ht true).onlyTouches rfl (s.keepsRest_withDev _)⟩
    rw [← outEnWritten_starts (s.dev.regAccess m (outO h i j)) h i j hs]
    subst hi hj
    exact exec_of_writeAt (f := outEnWritten h (o.val / 8) (o.val % 8) true) rfl hw
  · refine ⟨s.withDev (outRefresh h ((s.dev.regAccess m (outO h (o.val / 8) (o.val % 8))).enPut h (o.val / 8) (o.val % 8) true)), ?_,
      enPut_en _ h _ _ true, (enPut_touches (Dev.touches_regAccess s.dev m _ [] []) true).onlyTouches⟩
    rw [← outEnWritten_keeps (s.dev.regAccess m (outO h (o.val / 8) (o.val % 8))) h _ _ he hs]
    exact exec_of_writeAt (f := outEnWritten h (o.val / 8) (o.val % 8) true) rfl hw
  · refine ⟨s.withDev (outRefresh h ((s.dev.regAccess m (outO h (o.val / 8) (o.val % 8))).enPut h (o.val / 8) (o.val % 8) false)), ?_,
      enPut_en _ h _ _ false, enPut_running (by omega) (by omega) (output_mem o),
      (enPut_touches (Dev.touches_regAccess s.dev m _ [] []) false).onlyTouches⟩
    rw [← outEnWritten_stops]
    exact exec_of_writeAt (f := outEnWritten h (o.val / 8) (o.val % 8) false) rfl hw

end Sys2Proof.Machine
end

section
/-! PROOF. O41: the DAC port steers within its limits, and sends what it changes (R193 to R195). -/

namespace Sys2Proof.Machine

/-! ### Steering -/

section
variable (d : Dev) (h : Half)

/-- The bounds of a DAC port's target, in 2^-32 of a code. -/
def Dev.dacLo (d : Dev) (h : Half) : Int := (d.g (aplPg h) Reg.APL.CMIN * 2 ^ 32 : Nat)

def Dev.dacHi (d : Dev) (h : Half) : Int := (d.g (aplPg h) Reg.APL.CMAX * 2 ^ 32 : Nat)

/-- The largest move of an update. -/
def Dev.dacStep (d : Dev) (h : Half) : Nat := max 1 (d.g (aplPg h) Reg.APL.DFRAME_STEPMAX) * 2 ^ 32

/-- The target after an update that moves it by so much. -/
def Dev.dacTarget (d : Dev) (h : Half) (move : Int) : Int :=
  clampInt (d.dacLo h) (d.dacHi h) ((d.dac h).target (d.g (aplPg h) Reg.APL.CODE) + clampInt (-(d.dacStep h : Int)) (d.dacStep h) move)

/-- A DAC port's engine replaced. -/
def Dev.setDac (d : Dev) (h : Half) (v : DacSt) : Dev := { d with dacs := d.dacs.put h v }

/-- A target that is its port's. -/
def Dev.dacMoved (d : Dev) (h : Half) (a : Int) : Dev :=
  (((d.pb (aplPg h) Reg.APL.DSTAT_FROZEN false).pb (aplPg h) Reg.APL.DSTAT_AT_LIMIT (decide (a = d.dacLo h ∨ a = d.dacHi h))).raiseIf
    (decide (a = d.dacLo h ∨ a = d.dacHi h) && !(d.gb (aplPg h) Reg.APL.DSTAT_AT_LIMIT)) (aplPg h) 16).setDac h { d.dac h with acc := some a }

theorem dacUpdated_moves (he : d.en (aplPg h) (aplPg h) Reg.APL.DCTRL_EN = true) (hf : d.dacFrozen h = false) :
    ∃ move, dacUpdated h d = d.dacMoved h (d.dacTarget h move) := by
  unfold dacUpdated
  dsimp only
  rw [he, hf]
  exact ⟨_, rfl⟩

theorem dacUpdated_frozen (he : d.en (aplPg h) (aplPg h) Reg.APL.DCTRL_EN = true) (hf : d.dacFrozen h = true) :
    dacUpdated h d = d.pb (aplPg h) Reg.APL.DSTAT_FROZEN true := by
  unfold dacUpdated
  dsimp only
  rw [he, hf]
  rfl

theorem dacUpdated_off (he : d.en (aplPg h) (aplPg h) Reg.APL.DCTRL_EN = false) : dacUpdated h d = d := if_pos (by rw [he]; rfl)

theorem clampInt_mem {lo hi : Int} (hl : lo ≤ hi) (x : Int) : lo ≤ clampInt lo hi x ∧ clampInt lo hi x ≤ hi := by
  unfold clampInt
  omega

/-- A move of at most a step, held within bounds that the value kept before, is no larger. -/
theorem clampInt_step {lo hi was : Int} (h1 : lo ≤ was) (h2 : was ≤ hi) (step : Nat) (move : Int) :
    (clampInt lo hi (was + clampInt (-(step : Int)) step move) - was).natAbs ≤ step := by
  unfold clampInt
  omega

theorem Dev.dac_setDac_same (v : DacSt) : (d.setDac h v).dac h = v := Pair.of_put _ _ _

theorem Dev.dac_setDac_other (v : DacSt) : (d.setDac h v).dac h.other = d.dac h.other := Pair.of_put_other _ _ _

theorem Dev.gb_setDac (v : DacSt) (b : Nat) (f : Fld) : (d.setDac h v).gb b f = d.gb b f := rfl

theorem Dev.g_setDac (v : DacSt) (b : Nat) (f : Fld) : (d.setDac h v).g b f = d.g b f := rfl

theorem Dev.tbs_setDac (v : DacSt) : (d.setDac h v).tbs = d.tbs := rfl

theorem Dev.dac_congr {d e : Dev} (he : e.dacs = d.dacs) (h : Half) : e.dac h = d.dac h := by
  unfold Dev.dac
  rw [he]

variable (a : Int)

theorem dacMoved_frozen : (d.dacMoved h a).gb (aplPg h) Reg.APL.DSTAT_FROZEN = false := by
  unfold Dev.dacMoved
  rw [Dev.gb_setDac, Dev.gb_raiseIf]
  exact (Dev.gb_p_apart _ _ _ (by decide) (by decide)).trans (d.gb_pb_same _ _ _ (by decide) (by decide))

theorem dacMoved_limit : (d.dacMoved h a).gb (aplPg h) Reg.APL.DSTAT_AT_LIMIT = decide (a = d.dacLo h ∨ a = d.dacHi h) := by
  unfold Dev.dacMoved
  rw [Dev.gb_setDac, Dev.gb_raiseIf, Dev.gb_pb_same _ _ _ _ (by decide) (by decide)]

theorem dacMoved_dac : (d.dacMoved h a).dac h = { d.dac h with acc := some a } := by
  unfold Dev.dacMoved
  rw [Dev.dac_setDac_same]

theorem dacMoved_other : (d.dacMoved h a).dac h.other = d.dac h.other := by
  unfold Dev.dacMoved
  rw [Dev.dac_setDac_other]
  exact Dev.dac_congr rfl _

/-- The device with the ports' engines put aside. -/
def Dev.withDacs (d : Dev) (x : Pair DacSt) : Dev := { d with dacs := x }

theorem dacMoved_touches : d.touches ((d.dacMoved h a).withDacs d.dacs) [aplPg h + 0x518] [aplPg h + 16] := by
  have h0 : d.touches (d.withDacs d.dacs) [aplPg h + 0x518] [aplPg h + 16] := .refl d _ _
  have hm : aplPg h + 0x518 ∈ [aplPg h + 0x518] := List.mem_singleton_self _
  unfold Dev.dacMoved
  exact ((h0.pb (f := Reg.APL.DSTAT_FROZEN) hm _).pb (f := Reg.APL.DSTAT_AT_LIMIT) hm _).raiseIf (List.mem_singleton_self _) _

end

theorem State.onlyTouches_withDacs {s : State} {e : Dev} {ws es : List Nat} (ht : s.dev.touches (e.withDacs s.dev.dacs) ws es) :
    s.onlyTouches { s.withDev e with dev := { (s.withDev e).dev with dacs := s.dev.dacs } } ws es := ht.onlyTouches

/-! ### Frames -/

section
variable (d : Dev) (h : Half) (code : Nat)

/-- A code in force and in the frame sent now. -/
def Dev.dacPut (d : Dev) (h : Half) (code : Nat) : Dev :=
  (d.p (aplPg h) Reg.APL.CODE code).withDacs (d.dacs.put h { d.dac h with at_ := some d.now, frame := some (d.dacBits h code) })

theorem Dev.g_withDacs (x : Pair DacSt) (b : Nat) (f : Fld) : (d.withDacs x).g b f = d.g b f := rfl

theorem Dev.tbs_withDacs (x : Pair DacSt) : (d.withDacs x).tbs = d.tbs := rfl

theorem Dev.dac_withDacs (x : Pair DacSt) : (d.withDacs x).dac h = x.of h := rfl

theorem dacPut_dac : (d.dacPut h code).dac h = { d.dac h with at_ := some d.now, frame := some (d.dacBits h code) } := by
  unfold Dev.dacPut
  rw [Dev.dac_withDacs, Pair.of_put]

theorem dacPut_code : (d.dacPut h code).g (aplPg h) Reg.APL.CODE = code % 2 ^ 24 := by
  unfold Dev.dacPut
  rw [Dev.g_withDacs, Dev.g_p_same _ _ _ _ (by decide)]
  rfl

theorem dacPut_tbs : (d.dacPut h code).tbs = d.tbs := by
  unfold Dev.dacPut
  rw [Dev.tbs_withDacs, Dev.p_tbs]

/-- One timebase with a code's feed-forward. -/
def Dev.fedTb (d : Dev) (h : Half) (n : Nat) (df : Int) : Dev :=
  d.setTb h n { d.tb h n with fadj := clampFadj ((d.tb h n).fadj + df), fadjTgt := clampFadj ((d.tb h n).fadjTgt + df) }

/-- One loop with a code's feed-forward. -/
def Dev.fedLoop (d : Dev) (h : Half) (n : Nat) (df : Int) : Dev :=
  (d.ps48 (dplL h n) Reg.DPL.FEST_LO Reg.DPL.FEST_HI (d.fest h n + df)).setLoop h n { d.loop h n with held := (d.loop h n).held + df }

theorem feedForward_eq (df : Int) : d.feedForward h df = d.each 16 fun n e =>
    if (e.fedTb h n df).lstate h n == 0 then e.fedTb h n df else (e.fedTb h n df).fedLoop h n df := rfl

/-- The change of frequency that a new code makes. -/
def Dev.dacFeed (d : Dev) (h : Half) (code : Nat) : Int :=
  -((d.kdac h * ((code : Int) - d.g (aplPg h) Reg.APL.CODE) * 2 ^ 48).tdiv (10 ^ 15))

/-- The feed-forward in the half of a port and, with SHARED, in the other. -/
def Dev.fedHalves (d : Dev) (h : Half) (shared : Bool) (df : Int) : Dev :=
  if shared then (d.feedForward h df).feedForward h.other df else d.feedForward h df

theorem dacSend_eq : d.dacSend h code = if (code : Int) - d.g (aplPg h) Reg.APL.CODE = 0 then d.dacPut h code
    else ratioRefresh h.other (ratioRefresh h ((d.dacPut h code).fedHalves h (d.gb (aplPg h) Reg.APL.DCTRL_SHARED) (d.dacFeed h code))) := by
  unfold Dev.dacSend Dev.dacPut Dev.withDacs Dev.fedHalves Dev.dacFeed
  rfl

/-- An observation in which a code's feed-forward does not show (R194). -/
structure FeedBlind {α : Type} (g : Dev → α) : Prop where
  tb    : ∀ d h n x, x.count = (d.tb h n).count → g (d.setTb h n x) = g d
  fest  : ∀ d h n v, n < 16 → g (d.ps48 (dplL h n) Reg.DPL.FEST_LO Reg.DPL.FEST_HI v) = g d
  loop  : ∀ d h n v, g (d.setLoop h n v) = g d
  ratio : ∀ d h f v, f.off < 0x40 → g (d.p (aplBase h 1) f v) = g d
  range : ∀ d h, g (d.raise (aplPg h) (aplEvt 1 3)) = g d

section
variable {α : Type} {g : Dev → α} (hg : FeedBlind g)
include hg

theorem FeedBlind.fedTb (n : Nat) (df : Int) : g (d.fedTb h n df) = g d := hg.tb d h n _ rfl

theorem FeedBlind.fedLoop {n : Nat} (hn : n < 16) (df : Int) : g (d.fedLoop h n df) = g d :=
  (hg.loop _ _ _ _).trans (hg.fest _ _ _ _ hn)

theorem FeedBlind.feedForward (df : Int) : g (d.feedForward h df) = g d := by
  rw [feedForward_eq]
  refine Dev.each_keeps g 16 _ d fun n hn e => ?_
  have ht := hg.fedTb e h n df
  generalize e.fedTb h n df = x at ht
  exact (keeps_ite (g := g) rfl (hg.fedLoop x h hn df)).trans ht

theorem FeedBlind.fedHalves (shared : Bool) (df : Int) : g (d.fedHalves h shared df) = g d := by
  unfold Dev.fedHalves
  exact keeps_ite (g := g) ((hg.feedForward _ _ _).trans (hg.feedForward _ _ _)) (hg.feedForward _ _ _)

theorem FeedBlind.ratioRefresh : g (ratioRefresh h d) = g d :=
  ratioRefresh_keeps (fun e f v hf => hg.ratio e h f v hf) (fun e => hg.range e h) d

theorem FeedBlind.dacSend : g (d.dacSend h code) = g (d.dacPut h code) := by
  rw [dacSend_eq]
  generalize d.dacPut h code = e
  exact keeps_ite (g := g) rfl ((hg.ratioRefresh _ _).trans ((hg.ratioRefresh _ _).trans (hg.fedHalves _ _ _ _)))

end

theorem feedBlind_dacs : FeedBlind Dev.dacs :=
  ⟨fun _ _ _ _ _ => rfl, fun _ _ _ _ _ => (Dev.p_dacs _ _ _ _).trans (Dev.p_dacs _ _ _ _), fun _ _ _ _ => rfl, fun d _ _ _ _ => d.p_dacs _ _ _,
    fun d _ => d.raise_dacs _ _⟩

theorem feedBlind_count (g : Half) (n : Nat) : FeedBlind (fun d => d.count g n) where
  tb d h k x hx := d.count_setTb h k x hx g n
  fest _ _ _ _ _ := Dev.count_congr ((Dev.p_tbs _ _ _ _).trans (Dev.p_tbs _ _ _ _)) g n
  loop _ _ _ _ := rfl
  ratio d _ _ _ _ := Dev.count_congr (d.p_tbs _ _ _) g n
  range d _ := Dev.count_congr (d.raise_tbs _ _) g n

theorem feedBlind_code (g : Half) : FeedBlind (fun d => d.g (aplPg g) Reg.APL.CODE) where
  tb _ _ _ _ _ := rfl
  fest d h n v hn := by
    have hne (o : Nat) (ho : o < 0x100) : aplPg g + 0x514 ≠ dplL h n + o := ne_of_inBlock (inBlock_aplPg g (by decide)) (inBlock_dplL h hn ho)
    exact Dev.g_of_w (o := 0x514) (Dev.w_ps48_ne _ _ (hne _ (by decide)) (hne _ (by decide)))
  loop _ _ _ _ := rfl
  ratio d h f v hf := d.g_p_ne _ _ _ _ _ (by
    have := half_num_lt h
    have := half_num_lt g
    show aplPg g + 0x514 ≠ aplBase h 1 + f.off
    unfold aplPg aplBase pageAddr
    omega)
  range d h := d.g_raise _ _ _ _

theorem dacSend_dac : (d.dacSend h code).dac h = { d.dac h with at_ := some d.now, frame := some (d.dacBits h code) } :=
  (Dev.dac_congr (feedBlind_dacs.dacSend d h code) h).trans (dacPut_dac d h code)

theorem dacSend_code : (d.dacSend h code).g (aplPg h) Reg.APL.CODE = code % 2 ^ 24 :=
  ((feedBlind_code h).dacSend d h code).trans (dacPut_code d h code)

theorem dacSend_count (g : Half) (n : Nat) : (d.dacSend h code).count g n = d.count g n :=
  ((feedBlind_count g n).dacSend d h code).trans (Dev.count_congr (dacPut_tbs d h code) g n)

/-- The code of a port's target. -/
def Dev.dacCode (d : Dev) (h : Half) : Nat := ((d.dac h).target (d.g (aplPg h) Reg.APL.CODE) / 2 ^ 32).toNat % 2 ^ 24

/-- A frame of this millisecond has left. -/
def Dev.dacSoon (d : Dev) (h : Half) : Bool :=
  match (d.dac h).at_ with
  | some t => decide (d.now < t + 250000)
  | none => false

theorem dacFramed_eq : dacFramed h d =
    if d.en (aplPg h) (aplPg h) Reg.APL.DCTRL_EN && !(d.dacFrozen h) && !(d.dacSoon h) && d.dacCode h != d.g (aplPg h) Reg.APL.CODE then
      d.dacSend h (d.dacCode h) else d := by
  unfold dacFramed Dev.dacSoon
  rfl

theorem dacSoon_iff : d.dacSoon h = true ↔ ∃ x, (d.dac h).at_ = some x ∧ d.now < x + 250000 := by
  unfold Dev.dacSoon
  cases (d.dac h).at_ <;> simp

/-- A frame is sent where the port steers and its code is new and due. -/
theorem dacFramed_sends (he : d.en (aplPg h) (aplPg h) Reg.APL.DCTRL_EN = true) (hf : d.dacFrozen h = false)
    (hc : d.dacCode h ≠ d.g (aplPg h) Reg.APL.CODE) (hs : ∀ x, (d.dac h).at_ = some x → x + 250000 ≤ d.now) :
    dacFramed h d = d.dacSend h (d.dacCode h) := by
  have hsoon : d.dacSoon h = false := by
    rw [Bool.eq_false_iff, Ne, dacSoon_iff]
    rintro ⟨x, hx, hlt⟩
    exact absurd hlt (Nat.not_lt.2 (hs x hx))
  rw [dacFramed_eq, he, hf, hsoon, bne_iff_ne.2 hc]
  rfl

theorem dacFramed_stays (hs : d.en (aplPg h) (aplPg h) Reg.APL.DCTRL_EN = false ∨ d.dacFrozen h = true ∨
    d.dacCode h = d.g (aplPg h) Reg.APL.CODE ∨ ∃ x, (d.dac h).at_ = some x ∧ d.now < x + 250000) : dacFramed h d = d := by
  rw [dacFramed_eq]
  refine if_neg ?_
  rcases hs with hs | hs | hs | hs
  · simp [hs]
  · simp [hs]
  · simp [hs]
  · simp [(dacSoon_iff d h).2 hs]

/-- A written code, as the port's target from then on. -/
theorem dacCodeWritten_eq (v : Nat) : dacCodeWritten h v d = (d.dacSend h (v % 2 ^ 24)).setDac h
    { (d.dacSend h (v % 2 ^ 24)).dac h with acc := some ((v % 2 ^ 24 * 2 ^ 32 : Nat) : Int) } := rfl

end

/-- Settles O41: an update is clamped twice, to a step and to the bounds; a frame's feed-forward shows neither in the port's code
and engine nor in a count. -/
theorem dacPortSteersWithinLimits : Obligations.DacPortSteersWithinLimits := by
  unfold Obligations.DacPortSteersWithinLimits
  refine ⟨fun h s he hf => ?_, fun h s he hf => ?_, fun h s he => ⟨?_, ?_⟩, fun h s he hf => ?_, fun h s hs => ?_, fun m h v s hw => ?_⟩
  · intro lo hi was
    obtain ⟨move, hm⟩ := dacUpdated_moves s.dev h he hf
    exact ⟨s.withDev (s.dev.dacMoved h (s.dev.dacTarget h move)), s.dev.dacTarget h move, next_onDev (f := dacUpdated h) hm,
      dacMoved_frozen _ h _, congrArg DacSt.acc (dacMoved_dac _ h _), fun hl => clampInt_mem hl _,
      fun h1 h2 => clampInt_step h1 h2 (s.dev.dacStep h) move, dacMoved_limit _ h _, dacMoved_other _ h _,
      State.onlyTouches_withDacs (dacMoved_touches _ h _)⟩
  · exact ⟨s.withDev (s.dev.pb (aplPg h) Reg.APL.DSTAT_FROZEN true), next_onDev (f := dacUpdated h) (dacUpdated_frozen s.dev h he hf),
      s.dev.gb_pb_same _ _ _ (by decide) (by decide),
      (Dev.touches.pb (f := Reg.APL.DSTAT_FROZEN) (.refl s.dev _ _) (List.mem_singleton_self _) true).onlyTouches⟩
  · exact next_onDev (f := dacUpdated h) (d := s.dev) (dacUpdated_off s.dev h he)
  · exact next_onDev (f := dacFramed h) (d := s.dev) (dacFramed_stays s.dev h (.inl he))
  · intro code hc hs
    have hd := dacSend_dac s.dev h (s.dev.dacCode h)
    have hacc := congrArg DacSt.acc hd
    exact ⟨s.withDev (s.dev.dacSend h (s.dev.dacCode h)), next_onDev (f := dacFramed h) (dacFramed_sends s.dev h he hf hc hs),
      (dacSend_code s.dev h _).trans (Nat.mod_mod _ _), congrArg DacSt.frame hd, congrArg DacSt.at_ hd, hacc,
      fun g n _ => dacSend_count s.dev h _ g n, s.keepsRest_withDev _⟩
  · exact next_onDev (f := dacFramed h) (d := s.dev) (dacFramed_stays s.dev h (.inr hs))
  · have hv : v.toNat % 2 ^ 24 = v.toNat := Nat.mod_eq_of_lt v.isLt
    have he := dacCodeWritten_eq (s.dev.regAccess m (aplPg h + 0x514)) h v.toNat
    rw [hv] at he
    have hd := dacSend_dac (s.dev.regAccess m (aplPg h + 0x514)) h v.toNat
    have hg := dacSend_code (s.dev.regAccess m (aplPg h + 0x514)) h v.toNat
    have hc := dacSend_count (s.dev.regAccess m (aplPg h + 0x514)) h v.toNat
    generalize (s.dev.regAccess m (aplPg h + 0x514)).dacSend h v.toNat = e at he hd hg hc
    refine ⟨s.withDev (e.setDac h { e.dac h with acc := some ((v.toNat * 2 ^ 32 : Nat) : Int) }), ?_, (Dev.g_setDac _ _ _ _ _).trans (hg.trans hv), ?_, ?_,
      fun g n _ => (Dev.count_congr (Dev.tbs_setDac _ _ _) g n).trans (hc g n), s.keepsRest_withDev _⟩
    · rw [exec_of_writeAt (f := dacCodeWritten h v.toNat) rfl hw, he]
    · rw [State.withDev_dev, Dev.dac_setDac_same]
      exact congrArg DacSt.frame hd
    · rw [State.withDev_dev, Dev.dac_setDac_same]

end Sys2Proof.Machine
end

section
/-! SUPPORT. BOUND_SAMPLE (R199 to R205): what a sample of a timebase takes, and what it leaves of the others. -/

namespace Sys2Proof.Machine

/-! ### What a core sum reads -/

/-- What is seen of a timebase's bound: every word outside the bound engine, its own words, the timebases, the loops, the holdover
models and when a disagreement began. -/
def Dev.boundSeen (h : Half) (n : Nat) (d : Dev) :
    ({a : Nat // ¬ inBlock .bnd a} → Nat) × (Fin 0x20 → Nat) × Tab Tbase × Tab LoopSt × Pair HoldSt × Nat :=
  (fun a => d.w a.val, fun o => d.w (bndN h n + o.val), d.tbs, d.loops, d.hold, d.disAt)

section
variable {d e : Dev} {h : Half} {n : Nat}

theorem boundSeen_ext (hw : ∀ a, ¬ inBlock .bnd a → e.w a = d.w a) (ho : ∀ o < 0x20, e.w (bndN h n + o) = d.w (bndN h n + o))
    (ht : e.tbs = d.tbs) (hl : e.loops = d.loops) (hh : e.hold = d.hold) (hd : e.disAt = d.disAt) : e.boundSeen h n = d.boundSeen h n :=
  Prod.ext (funext fun a => hw a.val a.property) (Prod.ext (funext fun o => ho o.val o.isLt) (Prod.ext ht (Prod.ext hl (Prod.ext hh hd))))

section
variable (hv : e.boundSeen h n = d.boundSeen h n)
include hv

theorem boundSeen_w {a : Nat} (ha : ¬ inBlock .bnd a) : e.w a = d.w a := congrFun (congrArg Prod.fst hv) ⟨a, ha⟩

theorem boundSeen_own {f : Fld} (hf : f.off < 0x20) : e.g (bndN h n) f = d.g (bndN h n) f :=
  Dev.g_of_w (congrFun (congrArg (fun v => v.2.1) hv) ⟨f.off, hf⟩)

theorem boundSeen_tbs : e.tbs = d.tbs := congrArg (fun v => v.2.2.1) hv

theorem boundSeen_loops : e.loops = d.loops := congrArg (fun v => v.2.2.2.1) hv

theorem boundSeen_hold : e.hold = d.hold := congrArg (fun v => v.2.2.2.2.1) hv

theorem boundSeen_disAt : e.disAt = d.disAt := congrArg (fun v => v.2.2.2.2.2) hv

end

/-- A core sum is a matter of words outside the bound engine, of the timebase's own settings and ELOOP, and of engines that a
sample does not move. -/
theorem coreSum_congr (hw : ∀ a, ¬ inBlock .bnd a → e.w a = d.w a)
    (ho : ∀ f : Fld, f.off < 0xC ∨ f.off = 0x14 → e.g (bndN h n) f = d.g (bndN h n) f)
    (ht : e.tbs = d.tbs) (hl : e.loops = d.loops) (hh : e.hold = d.hold) (hd : e.disAt = d.disAt) (hn : n < 16) (te : Nat) :
    e.coreSum h n te = d.coreSum h n te := by
  have hg {b : Nat} {f : Fld} (hb : ¬ inBlock .bnd (b + f.off)) : e.g b f = d.g b f := Dev.g_of_w (o := f.off) (hw _ hb)
  have hgb {b : Nat} {f : Fld} (hb : ¬ inBlock .bnd (b + f.off)) : e.gb b f = d.gb b f := congrArg (· == 1) (hg hb)
  have hsel (f : Fld) (hf : f.off < 0x40) : ¬ inBlock .bnd (selS h n + f.off) := (inBlock_selS h hn (by omega)).not
  have hhld (f : Fld) (hf : f.off < 0x1000) : ¬ inBlock .bnd (hldPg h + f.off) := (inBlock_hldPg h hf).not
  have htsu (f : Fld) (hf : f.off < 0xD00) : ¬ inBlock .bnd (tsuB h n + f.off) := (inBlock_tsuB h hn hf).not
  have hselPg (f : Fld) (hf : f.off < 0x1000) : ¬ inBlock .bnd (selPg h + f.off) := (inBlock_selPg h hf).not
  have hc : e.selC h n = d.selC h n := hg (hsel _ (by decide))
  have hlt : d.selC h n < 64 := lt_of_lt_of_le (d.g_lt _ _) (by decide)
  have href (c : Nat) (hc : c < 64) (f : Fld) (hf : f.off < 0x40) : ¬ inBlock .bnd (refQ h c + f.off) := (inBlock_refQ h hc hf).not
  have hbud : e.budget h (d.selC h n) = d.budget h (d.selC h n) := by
    unfold Dev.budget
    rw [hg (href _ hlt _ (by decide)), hg (href _ hlt _ (by decide))]
  have hasym : e.g (refQ h (d.selC h n)) Reg.REF.ASYM = d.g (refQ h (d.selC h n)) Reg.REF.ASYM := hg (href _ hlt _ (by decide))
  have hbo : e.bo h n = d.bo h n := by
    unfold Dev.bo Dev.s48 Dev.g2
    rw [hg (hsel _ (by decide)), hg (hsel _ (by decide))]
  have hloop : e.loop h n = d.loop h n := by
    unfold Dev.loop
    rw [hl]
  have hsens : e.noSensor h = d.noSensor h := by
    unfold Dev.noSensor Dev.hm
    rw [hh]
  have hterm : e.boTerm h n = d.boTerm h n := by
    unfold Dev.boTerm Dev.domDirects
    rw [hbo, hgb (htsu _ (by decide)), hgb (htsu _ (by decide)), Dev.tb_congr ht]
  have hunc (m t : Nat) : e.modelUnc h m t = d.modelUnc h m t := by
    unfold Dev.modelUnc
    dsimp only
    rw [hsens, hg (hhld _ (by decide)), hg (hhld _ (by decide)), hg (hhld _ (by decide)), hg (hhld _ (by decide))]
  have hdev : e.tempDev h = d.tempDev h := by
    unfold Dev.tempDev Dev.gs
    rw [hg (hhld _ (by decide)), hg (hhld _ (by decide))]
  have hlo (t : Nat) : e.loGrowth h n t = d.loGrowth h n t := by
    unfold Dev.loGrowth
    dsimp only
    rw [ho _ (by decide), ho _ (by decide)]
  have hst : e.cstate h 13 = d.cstate h 13 := hg (href 13 (by decide) _ (by decide))
  have hgrow : e.growTerm h n te = d.growTerm h n te := by
    unfold Dev.growTerm
    simp only [hloop, hst, hunc, hdev, hlo, ho Reg.BND.BCFG_GUP (by decide), hg (hhld Reg.HLD.HSTAT_MODEL (by decide))]
  have hmove : e.tempMove h n = d.tempMove h n := by
    unfold Dev.tempMove Dev.gs
    rw [hsens, hloop, hg (hhld _ (by decide))]
  have hdis : e.disagrees h (d.selC h n) = d.disagrees h (d.selC h n) := by
    unfold Dev.disagrees
    rw [hgb (hselPg _ (by decide)), hg (hselPg _ (by decide)), hg (hselPg _ (by decide))]
  unfold Dev.coreSum
  dsimp only
  rw [hc, hbud, hasym, hterm, hgrow, hmove, hdis, hd, ho Reg.BND.ELOOP (by decide), ho Reg.BND.BCFG_TCO (by decide),
    hg (hselPg Reg.SEL.DIS_RATE (by decide))]

end

/-! ### One sample of one timebase -/

/-- A sample of a timebase stands: SAT, the held bound and, under basis LOCKED, the core sum (R200, R205). -/
structure Dev.boundTaken (d : Dev) (h : Half) (n : Nat) : Prop where
  sat    : d.gb (bndN h n) Reg.BND.BSTAT_SAT = decide (d.local_ h n = unbounded)
  held   : d.gb (bndN h n) Reg.BND.BSTAT_HELD_ACT = true → d.g (bndN h n) Reg.BND.HELD ≤ d.local_ h n
  locked : d.g (bndN h n) Reg.BND.BSTAT_BASIS = 1 → d.local_ h n =
    if d.gb (bndN h n) Reg.BND.BSTAT_HELD_ACT then max (d.coreSum h n (d.evalAt h)) (d.g (bndN h n) Reg.BND.HELD)
    else d.coreSum h n (d.evalAt h)

section
variable {d e : Dev} {h : Half} {n : Nat}

theorem boundSeen_raise (d : Dev) (pg k : Nat) : (d.raise pg k).boundSeen h n = d.boundSeen h n :=
  boundSeen_ext (fun _ _ => d.w_raise _ _ _) (fun _ _ => d.w_raise _ _ _) (d.raise_tbs _ _) (d.raise_loops _ _) rfl rfl

theorem evalAt_congr (ht : e.tbs = d.tbs) : e.evalAt h = d.evalAt h := by
  unfold Dev.evalAt
  rw [Dev.count_congr ht]

theorem boundTaken_congr (hn : n < 16) (hv : e.boundSeen h n = d.boundSeen h n) (hd : d.boundTaken h n) : e.boundTaken h n := by
  have hown {f : Fld} (hf : f.off < 0x20) : e.g (bndN h n) f = d.g (bndN h n) f := boundSeen_own hv hf
  have hbit {f : Fld} (hf : f.off < 0x20) : e.gb (bndN h n) f = d.gb (bndN h n) f := congrArg (· == 1) (hown hf)
  have hloc : e.local_ h n = d.local_ h n := hown (by decide)
  have hsum : e.coreSum h n (e.evalAt h) = d.coreSum h n (d.evalAt h) := by
    rw [evalAt_congr (boundSeen_tbs hv)]
    exact coreSum_congr (fun a ha => boundSeen_w hv ha) (fun f hf => hown (by omega)) (boundSeen_tbs hv) (boundSeen_loops hv)
      (boundSeen_hold hv) (boundSeen_disAt hv) hn _
  obtain ⟨h1, h2, h3⟩ := hd
  constructor
  · rw [hbit (by decide), hloc]
    exact h1
  · rw [hbit (by decide), hown (by decide), hloc]
    exact h2
  · rw [hbit (by decide), hown (by decide), hown (by decide), hloc, hsum]
    exact h3

end

section
variable (d : Dev) (h : Half) (n : Nat)

/-- The basis, ELOOP and the held bound of a timebase, before its sum is taken. -/
def Dev.boundPrep (d : Dev) (h : Half) (n : Nat) : Dev :=
  let d0 := boundBasis h n d
  let d1 := d0.p (bndN h n) Reg.BND.ELOOP ((d0.loop h n).eWin.foldl max 0)
  if d1.gb (bndN h n) Reg.BND.BSTAT_HELD_ACT && d1.releases h n then
    (d1.pb (bndN h n) Reg.BND.BSTAT_HELD_ACT false).p (bndN h n) Reg.BND.HELD 0 else d1

/-- The local bound of a timebase whose basis and held bound stand. -/
def Dev.localWant (d : Dev) (h : Half) (n : Nat) : Nat :=
  min unbounded (if d.gb (bndN h n) Reg.BND.BSTAT_HELD_ACT then max (d.rawBound h n) (d.g (bndN h n) Reg.BND.HELD) else d.rawBound h n)

/-- A local bound shown. -/
def Dev.localShown (d : Dev) (h : Half) (n v : Nat) : Dev :=
  (d.p (bndN h n) Reg.BND.LOCAL v).pb (bndN h n) Reg.BND.BSTAT_SAT (v == unbounded)

theorem boundSampleOne_eq : boundSampleOne h n d =
    ((d.boundPrep h n).localShown h n ((d.boundPrep h n).localWant h n)).raiseIf
      ((d.boundPrep h n).localWant h n == unbounded && !(d.gb (bndN h n) Reg.BND.BSTAT_SAT)) (bndPg h) n := rfl

/-- A sample of a timebase shows in its own words, its own engine and its own event. -/
theorem boundSampleOne_keeps {α : Type} {g : Dev → α} (hp : ∀ e f v, f.off < 0x20 → g (e.p (bndN h n) f v) = g e)
    (hb : ∀ e v, g (e.setBnd h n v) = g e) (he : ∀ e, g (e.raise (bndPg h) n) = g e) : g (boundSampleOne h n d) = g d := by
  have hbasis : g (boundBasis h n d) = g d := by
    unfold boundBasis
    extract_lets b old new src d0 bs d1
    have h0 : g d0 = g d := hp d _ _ (by decide)
    have h1 : g d1 = g d := (hb _ _).trans ((hp _ Reg.BND.BSTAT_BASIS _ (by decide)).trans h0)
    refine keeps_ite h0 (keeps_ite ?_ h1)
    unfold Dev.hold_
    exact (hp _ Reg.BND.BSTAT_HELD_ACT _ (by decide)).trans ((hp _ Reg.BND.HELD _ (by decide)).trans h1)
  have hprep : g (d.boundPrep h n) = g d := by
    unfold Dev.boundPrep
    extract_lets d0 d1
    have h1 : g d1 = g d := (hp _ _ _ (by decide)).trans hbasis
    exact keeps_ite (g := g) ((hp _ _ _ (by decide)).trans ((hp _ Reg.BND.BSTAT_HELD_ACT _ (by decide)).trans h1)) h1
  rw [boundSampleOne_eq, raiseIf_blind (he _)]
  exact (hp _ Reg.BND.BSTAT_SAT _ (by decide)).trans ((hp _ Reg.BND.LOCAL _ (by decide)).trans hprep)

theorem satSum_le (l : List Nat) : satSum l ≤ unbounded := by
  unfold satSum
  split
  · exact le_refl _
  · exact min_le_left _ _

theorem coreSum_le (te : Nat) : d.coreSum h n te ≤ unbounded := satSum_le _

theorem rawBound_locked (hb : d.g (bndN h n) Reg.BND.BSTAT_BASIS = 1) : d.rawBound h n = d.coreSum h n (d.evalAt h) := by
  unfold Dev.rawBound
  dsimp only
  rw [hb]
  rfl

theorem held_le : d.g (bndN h n) Reg.BND.HELD ≤ unbounded := Nat.le_of_lt_succ (d.g_lt _ _)

theorem localWant_le : d.localWant h n ≤ unbounded := min_le_left _ _

theorem localWant_held (ha : d.gb (bndN h n) Reg.BND.BSTAT_HELD_ACT = true) : d.g (bndN h n) Reg.BND.HELD ≤ d.localWant h n := by
  unfold Dev.localWant
  rw [if_pos ha]
  exact le_min (held_le d h n) (le_max_right _ _)

theorem localWant_locked (hb : d.g (bndN h n) Reg.BND.BSTAT_BASIS = 1) : d.localWant h n =
    if d.gb (bndN h n) Reg.BND.BSTAT_HELD_ACT then max (d.coreSum h n (d.evalAt h)) (d.g (bndN h n) Reg.BND.HELD)
    else d.coreSum h n (d.evalAt h) := by
  unfold Dev.localWant
  rw [rawBound_locked d h n hb]
  split
  · exact min_eq_right (max_le (coreSum_le d h n _) (held_le d h n))
  · exact min_eq_right (coreSum_le d h n _)

theorem bndN_ne_word {a : Nat} {f : Fld} (ha : ¬ inBlock .bnd a) (hn : n < 16) (hf : f.off < 0x1000) : a ≠ bndN h n + f.off :=
  fun he => ha (he ▸ inBlock_bndN h hn hf)

/-- A bound once shown stands, whatever its core sum reads. -/
theorem localShown_taken (hn : n < 16) : (d.localShown h n (d.localWant h n)).boundTaken h n := by
  have hle := localWant_le d h n
  have hheld := localWant_held d h n
  have hlocked := localWant_locked d h n
  generalize d.localWant h n = v at hle hheld hlocked
  have hapart {f : Fld} (hf : f.off ≠ 0xC) (ho : f.off ≠ 0x18 ∨ f.lo + f.len ≤ 4 ∨ 5 ≤ f.lo) :
      (d.localShown h n v).g (bndN h n) f = d.g (bndN h n) f :=
    (Dev.g_p_apart (f := Reg.BND.BSTAT_SAT) _ _ _ (by decide) (ho.imp id Or.symm)).trans
      (d.g_p_apart (f := Reg.BND.LOCAL) _ _ (by decide) (.inl hf))
  have hloc : (d.localShown h n v).local_ h n = v :=
    (Dev.g_p_apart (f := Reg.BND.BSTAT_SAT) _ _ _ (by decide) (by decide)).trans
      ((d.g_p_same _ _ _ (by decide)).trans (Nat.mod_eq_of_lt (Nat.lt_succ_of_le hle)))
  have hact : (d.localShown h n v).gb (bndN h n) Reg.BND.BSTAT_HELD_ACT = d.gb (bndN h n) Reg.BND.BSTAT_HELD_ACT :=
    congrArg (· == 1) (hapart (by decide) (by decide))
  have hval : (d.localShown h n v).g (bndN h n) Reg.BND.HELD = d.g (bndN h n) Reg.BND.HELD := hapart (by decide) (by decide)
  have hbasis : (d.localShown h n v).g (bndN h n) Reg.BND.BSTAT_BASIS = d.g (bndN h n) Reg.BND.BSTAT_BASIS := hapart (by decide) (by decide)
  have hkeep {α : Type} {g : Dev → α} (hp : ∀ e b f v, g (Dev.p e b f v) = g e) : g (d.localShown h n v) = g d := (hp _ _ _ _).trans (hp _ _ _ _)
  have htbs : (d.localShown h n v).tbs = d.tbs := hkeep Dev.p_tbs
  have hsum : (d.localShown h n v).coreSum h n ((d.localShown h n v).evalAt h) = d.coreSum h n (d.evalAt h) := by
    rw [evalAt_congr htbs]
    refine coreSum_congr (fun a ha => ?_) (fun f hf => hapart (by omega) (.inl (by omega))) htbs (hkeep fun _ _ _ _ => rfl)
      (hkeep fun _ _ _ _ => rfl) (hkeep fun _ _ _ _ => rfl) hn _
    exact (Dev.w_p_ne _ _ Reg.BND.BSTAT_SAT _ _ (bndN_ne_word h n ha hn (by decide))).trans
      (d.w_p_ne _ Reg.BND.LOCAL _ _ (bndN_ne_word h n ha hn (by decide)))
  refine ⟨?_, ?_, ?_⟩
  · rw [hloc]
    unfold Dev.localShown
    rw [Dev.gb_pb_same _ _ _ _ (by decide) (by decide)]
    exact Bool.beq_eq_decide_eq v unbounded
  · rw [hact, hval, hloc]
    exact hheld
  · rw [hact, hval, hloc, hbasis, hsum]
    exact hlocked

theorem boundSampleOne_taken (hn : n < 16) : (boundSampleOne h n d).boundTaken h n := by
  rw [boundSampleOne_eq]
  generalize d.boundPrep h n = x
  have ht := localShown_taken x h n hn
  generalize x.localShown h n (x.localWant h n) = y at ht
  exact boundTaken_congr hn (raiseIf_blind (boundSeen_raise y _ _) _) ht

end

/-! ### Every timebase of both halves -/

theorem bndN_apart {g h : Half} {i n : Nat} (hi : i < 16) (hn : n < 16) (hne : g ≠ h ∨ i ≠ n) {a o : Nat} (ha : a < 0x20) (ho : o < 0x20) :
    bndN h n + o ≠ bndN g i + a := by
  have hnum : g = h ∨ g.num ≠ h.num := by
    by_cases he : g = h
    · exact .inl he
    · exact .inr fun hn => he (half_num_inj hn)
  unfold bndN bndPg pageAddr
  rcases hnum with rfl | hnum
  · have := hne.resolve_left fun hg => hg rfl
    omega
  · omega

/-- What a sample of another timebase leaves of one. -/
theorem boundSeen_other (d : Dev) {g h : Half} {i n : Nat} (hi : i < 16) (hn : n < 16) (hne : g ≠ h ∨ i ≠ n) :
    (boundSampleOne g i d).boundSeen h n = d.boundSeen h n := by
  refine boundSampleOne_keeps (g := Dev.boundSeen h n) d g i (fun e f v hf => ?_) (fun _ _ => rfl) (fun e => ?_)
  · exact boundSeen_ext (fun a ha => e.w_p_ne _ _ _ _ (bndN_ne_word g i ha hi (by omega)))
      (fun o ho => e.w_p_ne _ _ _ _ (bndN_apart hi hn hne hf ho)) (e.p_tbs _ _ _) rfl rfl rfl
  · exact boundSeen_raise e _ _

theorem boundSampled_half (d : Dev) (h : Half) : (boundSampled h d).half = d.half :=
  keeps_ite (g := Dev.half) (Dev.each_keeps Dev.half 16 _ d fun n _ e =>
    boundSampleOne_keeps (g := Dev.half) e h n (fun x _ _ _ => x.p_half _ _ _) (fun _ _ => rfl) fun x => x.raise_half _ _) rfl

/-- The halves' states and what is seen of one timebase. -/
def Dev.sampleView (n : Nat) (h : Half) (d : Dev) := (d.half, d.boundSeen h n)

theorem sampleView_other (d : Dev) (h : Half) {n : Nat} (hn : n < 16) : (boundSampled h d).sampleView n h.other = d.sampleView n h.other := by
  refine Prod.ext (boundSampled_half d h) (keeps_ite (g := Dev.boundSeen h.other n) (Dev.each_keeps _ 16 _ d fun i hi e => ?_) rfl)
  exact boundSeen_other e hi hn (.inl (Ne.symm (otherHalf_ne h)))

theorem loopsRun_congr {d e : Dev} (hh : e.half = d.half) (h : Half) : e.loopsRun h = d.loopsRun h := by
  unfold Dev.loopsRun Dev.hs
  rw [hh]

theorem boundSampled_taken (d : Dev) {h : Half} {n : Nat} (hn : n < 16) (hr : d.loopsRun h = true) : (boundSampled h d).boundTaken h n := by
  unfold boundSampled
  rw [if_pos hr]
  exact Dev.each_own (f := fun n e => boundSampleOne h n e) (Q := fun _ => True) (R := fun e => e.boundTaken h n) trivial
    (fun _ _ _ _ => trivial) (fun e _ => boundSampleOne_taken e h n hn) hn
    fun i hi hlt e he => boundTaken_congr hn (boundSeen_other e hi hn (.inr (by omega))) he

/-- Every bound of a running half is taken, and none of one that does not run. -/
theorem boundSampledAll_taken (d : Dev) {h : Half} {n : Nat} (hn : n < 16) (hr : d.loopsRun h = true) : (boundSampledAll d).boundTaken h n := by
  obtain ⟨e, he, ht⟩ := both_part (view := Dev.sampleView n) (f := boundSampled) (fun h d => sampleView_other d h hn) d h
  have hrun : e.loopsRun h = true := (loopsRun_congr (congrArg Prod.fst he) h).trans hr
  have hx : (boundSampledAll d).boundSeen h n = (boundSampled h e).boundSeen h n := congrArg Prod.snd ht
  exact boundTaken_congr hn hx (boundSampled_taken e hn hrun)

theorem boundSampledAll_same (d : Dev) {h : Half} {n : Nat} (hn : n < 16) (hr : d.loopsRun h = false) :
    (boundSampledAll d).local_ h n = d.local_ h n := by
  obtain ⟨e, he, ht⟩ := both_part (view := Dev.sampleView n) (f := boundSampled) (fun h d => sampleView_other d h hn) d h
  have hrun : e.loopsRun h = false := (loopsRun_congr (congrArg Prod.fst he) h).trans hr
  have hb : boundSampled h e = e := if_neg (by rw [hrun]; exact Bool.false_ne_true)
  rw [hb] at ht
  have hx : (boundSampledAll d).boundSeen h n = d.boundSeen h n := congrArg Prod.snd (ht.trans he)
  exact boundSeen_own hx (f := Reg.BND.LOCAL) (by decide)

theorem boundSampledAll_tbs (d : Dev) : (boundSampledAll d).tbs = d.tbs := by
  have hs (h : Half) (d : Dev) : (boundSampled h d).tbs = d.tbs :=
    keeps_ite (g := Dev.tbs) (Dev.each_keeps Dev.tbs 16 _ d fun n _ e =>
      boundSampleOne_keeps (g := Dev.tbs) e h n (fun x _ _ _ => x.p_tbs _ _ _) (fun _ _ => rfl) fun x => x.raise_tbs _ _) rfl
  exact (hs .weft _).trans (hs .warp d)

theorem boundSampledAll_w (d : Dev) {a : Nat} (ha : ¬ inBlock .bnd a) : (boundSampledAll d).w a = d.w a := by
  have hs (h : Half) (d : Dev) : (boundSampled h d).w a = d.w a :=
    keeps_ite (g := fun e => e.w a) (Dev.each_keeps (fun e => e.w a) 16 _ d fun n hn e =>
      boundSampleOne_keeps (g := fun e => e.w a) e h n (fun x f v hf => x.w_p_ne _ _ _ _ (bndN_ne_word h n ha hn (by omega))) (fun _ _ => rfl)
        fun x => x.w_raise _ _ _) rfl
  exact (hs .weft _).trans (hs .warp d)

end Sys2Proof.Machine
end

section
/-! PROOF. O42: local bounds sampled and exchanged, epochs opened and records signed (R200 to R215). -/

namespace Sys2Proof.Machine

/-! ### Epochs -/

/-- What is seen of a half's epoch: the published bounds, and the word of its number and EXCH_OK. -/
def Dev.epochView (h : Half) (d : Dev) : (Fin 16 → Nat) × Nat := (fun n => d.published h n.val, d.w (bndPg h + 0x300))

section
variable {d e : Dev} {h : Half}

theorem epochView_ext (hp : ∀ n < 16, e.published h n = d.published h n) (hw : e.w (bndPg h + 0x300) = d.w (bndPg h + 0x300)) :
    e.epochView h = d.epochView h := Prod.ext (funext fun n => hp n.val n.isLt) hw

theorem epochView_published (hv : e.epochView h = d.epochView h) {n : Nat} (hn : n < 16) : e.published h n = d.published h n :=
  congrFun (congrArg Prod.fst hv) ⟨n, hn⟩

theorem epochView_num (hv : e.epochView h = d.epochView h) : e.g (bndPg h) Reg.BND.EPOCH_NUM = d.g (bndPg h) Reg.BND.EPOCH_NUM :=
  Dev.g_of_w (o := 0x300) (congrArg Prod.snd hv)

theorem epochView_ok (hv : e.epochView h = d.epochView h) : e.gb (bndPg h) Reg.BND.EPOCH_EXCH_OK = d.gb (bndPg h) Reg.BND.EPOCH_EXCH_OK :=
  Dev.gb_of_w (o := 0x300) (congrArg Prod.snd hv)

end

theorem tsuB_apart {g h : Half} {i n o : Nat} (hi : i < 16) (hn : n < 16) (hne : g ≠ h ∨ i ≠ n) : tsuB h n + o ≠ tsuB g i + o := by
  have hnum : g = h ∨ g.num ≠ h.num := by
    by_cases he : g = h
    · exact .inl he
    · exact .inr fun hn => he (half_num_inj hn)
  unfold tsuB tsuPg pageAddr
  rcases hnum with rfl | hnum
  · have := hne.resolve_left fun hg => hg rfl
    omega
  · omega

section
variable (d : Dev) (h : Half) (num : Nat) (value : Nat → Nat) (ok : Bool)

/-- The published bounds kept for the epoch before (R25). -/
def Dev.prevKept (d : Dev) (h : Half) : Dev :=
  { d with exch := { d.exch with prev := (List.range 16).foldl (fun t n => tset 0 t (h.num * 16 + n) (d.published h n)) d.exch.prev } }

/-- The bounds published. -/
def Dev.boundsPut (d : Dev) (h : Half) (value : Nat → Nat) : Dev := d.each 16 fun n e => e.p (tsuB h n) Reg.TSU.BOUND (value n)

/-- The number of an epoch, and how it came about. -/
def Dev.epochPut (d : Dev) (h : Half) (num : Nat) (ok : Bool) : Dev :=
  (d.p (bndPg h) Reg.BND.EPOCH_NUM num).pb (bndPg h) Reg.BND.EPOCH_EXCH_OK ok

theorem openEpoch_eq : d.openEpoch h num value ok = ((d.prevKept h).boundsPut h value).epochPut h num ok := rfl

theorem openEpoch_keeps {α : Type} {g : Dev → α} (hx : ∀ (e : Dev) v, g { e with exch := v } = g e)
    (ht : ∀ e n v, n < 16 → g (e.p (tsuB h n) Reg.TSU.BOUND v) = g e) (hn : ∀ e v, g (e.p (bndPg h) Reg.BND.EPOCH_NUM v) = g e)
    (ho : ∀ e v, g (e.pb (bndPg h) Reg.BND.EPOCH_EXCH_OK v) = g e) : g (d.openEpoch h num value ok) = g d := by
  rw [openEpoch_eq]
  unfold Dev.epochPut
  rw [ho, hn]
  exact (Dev.each_keeps g 16 _ _ fun n hn e => ht e n _ hn).trans (hx _ _)

theorem boundsPut_own {n : Nat} (hn : n < 16) : (d.boundsPut h value).published h n = value n % 2 ^ 32 :=
  Dev.each_own (f := fun n e => e.p (tsuB h n) Reg.TSU.BOUND (value n)) (Q := fun _ => True) (R := fun e => e.published h n = value n % 2 ^ 32)
    trivial (fun _ _ _ _ => trivial) (fun e _ => e.g_p_same _ _ _ (by decide)) hn
    fun i hi hlt e he => (e.g_p_ne _ _ _ _ _ (tsuB_apart hi hn (.inr (by omega)))).trans he

theorem epochPut_published (g : Half) {n : Nat} (hn : n < 16) : (d.epochPut h num ok).published g n = d.published g n := by
  have hne {f : Fld} (hf : f.off < 0x1000) : tsuB g n + Reg.TSU.BOUND.off ≠ bndPg h + f.off :=
    ne_of_inBlock (inBlock_tsuB g hn (by decide)) (inBlock_pageAddr .bnd h (by omega))
  exact (Dev.g_p_ne _ _ _ _ _ _ (hne (f := Reg.BND.EPOCH_EXCH_OK) (by decide))).trans
    (d.g_p_ne _ _ _ _ _ (hne (f := Reg.BND.EPOCH_NUM) (by decide)))

theorem openEpoch_published {n : Nat} (hn : n < 16) : (d.openEpoch h num value ok).published h n = value n % 2 ^ 32 := by
  rw [openEpoch_eq, epochPut_published _ _ _ _ _ hn, boundsPut_own _ _ _ hn]

theorem epochPut_num : (d.epochPut h num ok).g (bndPg h) Reg.BND.EPOCH_NUM = num % 2 ^ 16 := by
  unfold Dev.epochPut
  rw [Dev.g_pb_beside _ _ _ _ _ (by decide) (by decide) (by decide), Dev.g_p_same _ _ _ _ (by decide)]
  rfl

theorem epochPut_ok : (d.epochPut h num ok).gb (bndPg h) Reg.BND.EPOCH_EXCH_OK = ok := by
  unfold Dev.epochPut
  exact Dev.gb_pb_same _ _ _ _ (by decide) (by decide)

theorem openEpoch_num : (d.openEpoch h num value ok).g (bndPg h) Reg.BND.EPOCH_NUM = num % 2 ^ 16 := by
  rw [openEpoch_eq, epochPut_num]

theorem openEpoch_ok : (d.openEpoch h num value ok).gb (bndPg h) Reg.BND.EPOCH_EXCH_OK = ok := by
  rw [openEpoch_eq, epochPut_ok]

theorem bndPg_other_ne (g : Half) (hg : g ≠ h) : bndPg g + 0x300 ≠ bndPg h + 0x300 := by
  obtain rfl : h.other = g := by cases g <;> cases h <;> simp_all [Half.other]
  exact pageAddr_other_ne .bnd h (by decide) (by decide)

theorem openEpoch_other (g : Half) (hg : g ≠ h) : (d.openEpoch h num value ok).epochView g = d.epochView g := by
  refine openEpoch_keeps (g := Dev.epochView g) d h num value ok (fun _ _ => rfl) (fun e n v hn => ?_) (fun e v => ?_) fun e v => ?_
  · exact epochView_ext (fun k hk => e.g_p_ne _ _ _ _ _ (tsuB_apart hn hk (.inl hg.symm)))
      (e.w_p_ne _ _ _ _ (ne_of_inBlock (inBlock_pageAddr .bnd g (by decide)) (inBlock_tsuB h hn (by decide))))
  · exact epochView_ext (fun k hk => e.g_p_ne _ _ _ _ _ (ne_of_inBlock (inBlock_tsuB g hk (by decide)) (inBlock_pageAddr .bnd h (by decide))))
      (e.w_p_ne _ _ _ _ (bndPg_other_ne h g hg))
  · exact epochView_ext (fun k hk => e.g_p_ne _ _ _ _ _ (ne_of_inBlock (inBlock_tsuB g hk (by decide)) (inBlock_pageAddr .bnd h (by decide))))
      (e.w_p_ne _ _ _ _ (bndPg_other_ne h g hg))

theorem openEpoch_tbs : (d.openEpoch h num value ok).tbs = d.tbs :=
  openEpoch_keeps (g := Dev.tbs) d h num value ok (fun _ _ => rfl) (fun e _ _ _ => e.p_tbs _ _ _) (fun e _ => e.p_tbs _ _ _) fun e _ => e.p_tbs _ _ _

theorem openEpoch_evt (pg k : Nat) : (d.openEpoch h num value ok).evt pg k = d.evt pg k := by
  have hp (e : Dev) (b : Nat) (f : Fld) (v : Nat) : (e.p b f v).evt pg k = e.evt pg k := rfl
  exact openEpoch_keeps (g := fun e => e.evt pg k) d h num value ok (fun _ _ => rfl) (fun e _ _ _ => hp e _ _ _) (fun e _ => hp e _ _ _)
    fun e _ => hp e _ _ _

end

section
variable (d : Dev) (num : Nat)

/-- Both halves open the epoch of a number. -/
def Dev.openBoth (d : Dev) (num : Nat) (value : Half → Nat → Nat) (ok : Bool) : Dev :=
  (d.openEpoch .warp num (value .warp) ok).openEpoch .weft num (value .weft) ok

section
variable (value : Half → Nat → Nat) (ok : Bool) (h : Half)

theorem openBoth_num : (d.openBoth num value ok).g (bndPg h) Reg.BND.EPOCH_NUM = num % 2 ^ 16 := by
  unfold Dev.openBoth
  cases h with
  | warp => rw [epochView_num (openEpoch_other _ _ _ _ _ .warp (by decide)), openEpoch_num]
  | weft => rw [openEpoch_num]

theorem openBoth_ok : (d.openBoth num value ok).gb (bndPg h) Reg.BND.EPOCH_EXCH_OK = ok := by
  unfold Dev.openBoth
  cases h with
  | warp => rw [epochView_ok (openEpoch_other _ _ _ _ _ .warp (by decide)), openEpoch_ok]
  | weft => rw [openEpoch_ok]

theorem openBoth_published {n : Nat} (hn : n < 16) : (d.openBoth num value ok).published h n = value h n % 2 ^ 32 := by
  unfold Dev.openBoth
  cases h with
  | warp => rw [epochView_published (openEpoch_other _ _ _ _ _ .warp (by decide)) hn, openEpoch_published _ _ _ _ _ hn]
  | weft => rw [openEpoch_published _ _ _ _ _ hn]

theorem openBoth_tbs : (d.openBoth num value ok).tbs = d.tbs := by
  unfold Dev.openBoth
  rw [openEpoch_tbs, openEpoch_tbs]

theorem openBoth_evt (pg k : Nat) : (d.openBoth num value ok).evt pg k = d.evt pg k := by
  unfold Dev.openBoth
  rw [openEpoch_evt, openEpoch_evt]

end

/-- A half's own epoch, where both did not take part in the exchange (R207). -/
def Dev.ownEpoch (d0 d : Dev) (num : Nat) (h : Half) : Dev :=
  if d0.boundServes h then d.openEpoch h num (d0.local_ h) (d.gb (bndPg h) Reg.BND.EPOCH_EXCH_OK)
  else if d0.loopsRun h && d0.boundServes h.other then d.p (bndPg h) Reg.BND.EPOCH_NUM num else d

/-- The number of the epoch to open. -/
def Dev.nextEpoch (d : Dev) : Nat := (d.g (bndPg d.epochHalf) Reg.BND.EPOCH_NUM + 1) % 2 ^ 16

/-- The joined bound of a timebase in an exchanged set. -/
def BndSet.joined (x : BndSet) (n : Nat) : Nat := joinBound ((x.warp[n]?).getD unbounded) ((x.weft[n]?).getD unbounded) ((x.skew[n]?).getD 0)

theorem epochOpened_joint {x : BndSet} (hj : d.exch.joint = true) (h1 : d.boundServes .warp = true) (h2 : d.boundServes .weft = true)
    (hx : d.exch.set = some x) : epochOpened d = d.openBoth d.nextEpoch (fun _ => x.joined) true := by
  unfold epochOpened
  dsimp only
  rw [hj, h1, h2, hx]
  unfold Dev.openBoth Dev.nextEpoch
  rfl

theorem epochOpened_fails (hj : d.exch.joint = true) (h1 : d.boundServes .warp = true) (h2 : d.boundServes .weft = true)
    (hx : d.exch.set = none) : epochOpened d = if d.exch.fails < 2 then d
      else if d.exch.fails = 2 then ((d.openBoth d.nextEpoch d.local_ false).raise (bndPg .warp) 16).raise (bndPg .weft) 16
      else d.openBoth d.nextEpoch d.local_ false := by
  unfold epochOpened
  dsimp only
  rw [hj, h1, h2, hx]
  unfold Dev.openBoth Dev.nextEpoch
  exact if_pos rfl

theorem epochOpened_alone (ha : d.exch.joint = false ∨ d.boundServes .warp = false ∨ d.boundServes .weft = false) :
    epochOpened d = d.ownEpoch (d.ownEpoch d d.nextEpoch .warp) d.nextEpoch .weft := by
  refine if_neg ?_
  rcases ha with ha | ha | ha <;> simp [ha]

theorem ownEpoch_other (d0 : Dev) (h g : Half) (hg : g ≠ h) : (d0.ownEpoch d num h).epochView g = d.epochView g := by
  unfold Dev.ownEpoch
  refine keeps_ite (g := Dev.epochView g) (openEpoch_other _ _ _ _ _ _ hg) (keeps_ite (g := Dev.epochView g) ?_ rfl)
  exact epochView_ext (fun k hk => d.g_p_ne _ _ _ _ _ (ne_of_inBlock (inBlock_tsuB g hk (by decide)) (inBlock_pageAddr .bnd h (by decide))))
    (d.w_p_ne _ _ _ _ (bndPg_other_ne h g hg))

theorem ownEpoch_serves (d0 : Dev) (h : Half) (hs : d0.boundServes h = true) :
    (d0.ownEpoch d num h).g (bndPg h) Reg.BND.EPOCH_NUM = num % 2 ^ 16 ∧
      ∀ n < 16, (d0.ownEpoch d num h).published h n = d0.local_ h n % 2 ^ 32 := by
  unfold Dev.ownEpoch
  rw [if_pos hs]
  exact ⟨openEpoch_num _ _ _ _ _, fun n hn => openEpoch_published _ _ _ _ _ hn⟩

theorem ownEpoch_idle (d0 : Dev) (h : Half) (hs : d0.boundServes h = false) {n : Nat} (hn : n < 16) :
    (d0.ownEpoch d num h).published h n = d.published h n := by
  unfold Dev.ownEpoch
  rw [if_neg (by rw [hs]; exact Bool.false_ne_true)]
  exact keeps_ite (g := fun e => e.published h n) (d.g_p_ne _ _ _ _ _ (ne_of_inBlock (inBlock_tsuB h hn (by decide))
    (inBlock_pageAddr .bnd h (by decide)))) rfl

theorem ownEpoch_tbs (d0 : Dev) (h : Half) : (d0.ownEpoch d num h).tbs = d.tbs :=
  keeps_ite (g := Dev.tbs) (openEpoch_tbs _ _ _ _ _) (keeps_ite (g := Dev.tbs) (d.p_tbs _ _ _) rfl)

end

/-! ### What goes with an epoch -/

/-- The values of an epoch and the mirroring context show in no word, no event and no timebase. -/
theorem epochRest (d : Dev) : (contextSent (epochOpenedAll d)).regs = (epochOpened d).regs ∧
    (contextSent (epochOpenedAll d)).evts = (epochOpened d).evts ∧ (contextSent (epochOpenedAll d)).tbs = (epochOpened d).tbs := by
  have hc {α : Type} {g : Dev → α} (hl : ∀ e s k l, g (Dev.linkSend e s k l) = g e) (e : Dev) : g (contextSent e) = g e := by
    unfold contextSent
    dsimp only
    split
    · rfl
    · split
      · exact hl _ _ _ _
      · split
        · exact hl _ _ _ _
        · rfl
  have he {α : Type} {g : Dev → α} (hp : ∀ (e : Dev) v, g { e with epochs := v } = g e) : g (epochOpenedAll d) = g (epochOpened d) := by
    unfold epochOpenedAll
    dsimp only
    split
    · exact keeps_ite (g := g) (hp _ _) rfl
    · rfl
  exact ⟨(hc (g := Dev.regs) (fun _ _ _ _ => rfl) _).trans (he fun _ _ => rfl),
    (hc (g := Dev.evts) (fun _ _ _ _ => rfl) _).trans (he fun _ _ => rfl), (hc (g := Dev.tbs) (fun _ _ _ _ => rfl) _).trans (he fun _ _ => rfl)⟩

/-! ### Signing -/

section
variable {s : State} {b : Fin 4} {c : FwCmd}

/-- What keeps a record from being signed (R212, R505). -/
def Dev.signBarred (d : Dev) (h : Half) : Bool :=
  !(d.slot h 1).valid || d.keysOff h || !d.bootsOk || decide (0xFFFFFFFF ≤ (d.chaef.of h).seq)

/-- The records signed in the second in force. -/
def Dev.signedNow (d : Dev) (h : Half) : Nat := if (d.chaef.of h).sec = d.sec .warp 0 then (d.chaef.of h).n else 0

/-- The record signed. -/
def Dev.signBody (d : Dev) (b boots : Nat) (c : FwCmd) : List Byte :=
  d.chaefBody (mbxHalf b) ((c.req[0]?.getD 0).toNat % 16) boots ((d.chaef.of (mbxHalf b)).seq + 1) (bytesOfWords (c.req.drop 1))

/-- The device once a record is signed. -/
def Dev.signTaken (d : Dev) (h : Half) : Dev :=
  (({ d with chaef := d.chaef.put h { d.chaef.of h with
      seq := (d.chaef.of h).seq + 1, sec := d.sec .warp 0, n := d.signedNow h + 1 } } : Dev).inc (bndPg h) Reg.BND.ATTCNT_SIGNED).drawn 1

/-- A refusal counted. -/
def Dev.signRefused (d : Dev) (h : Half) : Dev := d.inc (bndPg h) Reg.BND.ATTCNT_REFUSED

theorem chaefSigned_eq (b boots : Nat) (c : FwCmd) (d : Dev) : chaefSigned b boots c d =
    if c.len ≠ 5 then { dev := d, code := codeBadLen }
    else if d.signBarred (mbxHalf b) = true then { dev := d, code := codeNotPermitted }
    else if d.attRate (mbxHalf b) (d.sec .warp 0) ≤ d.signedNow (mbxHalf b) then
      { dev := d.signRefused (mbxHalf b), code := codeBusy }
    else { dev := d.signTaken (mbxHalf b), code := codeOK
           rsp := wordsOfBytes (d.signBody b boots c ++ Config.edSign (d.slot (mbxHalf b) 1).key (d.signBody b boots c)) } := by
  unfold chaefSigned Dev.signRefused Dev.signBarred Dev.signedNow Dev.signBody Dev.signTaken
  rfl

theorem exec_chaefSign (hc : s.atCommit b.val 0x0140 c) {r : FwResult} (hr : chaefSigned b.val s.nv.boots c s.dev = r) :
    exec (.chaefSign b) s = .next (s.withDev (r.handed b.val c)) :=
  next_onDev (f := fun d => d.mbxCommit b.val 0x0140 (chaefSigned b.val s.nv.boots))
    ((Dev.mbxCommit_eq hc (by decide) _).trans (congrArg (fun r : FwResult => r.handed b.val c) hr))

theorem signBarred_false {d : Dev} {h : Half} (hv : (d.slot h 1).valid = true) (hk : d.keysOff h = false) (hb : d.bootsOk = true)
    (hs : (d.chaef.of h).seq < 0xFFFFFFFF) : d.signBarred h = false := by
  have hle : ¬ 0xFFFFFFFF ≤ (d.chaef.of h).seq := Nat.not_le.2 hs
  unfold Dev.signBarred
  rw [hv, hk, hb, decide_eq_false hle]
  rfl

theorem signTaken_chaef (d : Dev) (h : Half) : ((d.signTaken h).chaef.of h).seq = (d.chaef.of h).seq + 1 :=
  congrArg ChaefSt.seq (Pair.of_put _ _ _)

theorem signTaken_count (d : Dev) (h : Half) :
    (d.signTaken h).g (bndPg h) Reg.BND.ATTCNT_SIGNED = (d.g (bndPg h) Reg.BND.ATTCNT_SIGNED + 1) % 2 ^ 16 :=
  Dev.g_inc_same _ _ _ (by decide)

end

theorem Dev.touches.inc {d e : Dev} {ws es : List Nat} (ht : d.touches e ws es) {b' : Nat} {f : Fld} (hm : b' + f.off ∈ ws) :
    d.touches (e.inc b' f) ws es := ht.p hm _

/-- A commit whose effect keeps the mailboxes touches, beside them, what its effect touches. -/
theorem State.onlyTouches_handed {s : State} {b : Nat} {c : FwCmd} {r : FwResult} {ws es : List Nat} (ht : s.dev.touches r.dev ws es)
    (hm : r.dev.mbx = s.dev.mbx) :
    s.onlyTouches { s.withDev (r.handed b c) with dev := { (s.withDev (r.handed b c)).dev with mbx := s.dev.mbx } } ws es := by
  have hd : ({ r.handed b c with mbx := s.dev.mbx } : Dev) = r.dev := by
    rw [← hm]
    rfl
  exact ⟨hd ▸ ht.1, hd ▸ ht.2.1, hd ▸ ht.2.2, rfl, rfl⟩

section
variable {s : State} {b : Fin 4} {c : FwCmd} {e : Dev} {code : Nat} {rsp : List Word}

theorem exec_signed (hc : s.atCommit b.val 0x0140 c) (hr : chaefSigned b.val s.nv.boots c s.dev = { dev := e, code := code, rsp := rsp })
    (hm : e.mbx = s.dev.mbx) : ∃ t, exec (.chaefSign b) s = .next t ∧ s.finished t b.val c code rsp ∧
      (∀ {α : Type} (g : Dev → α), (∀ (x : Dev) v, g { x with mbx := v } = g x) → g t.dev = g e) ∧ s.keepsRest t :=
  ⟨_, exec_chaefSign hc hr, State.finished_handed b.val c hm, fun _ hg => hg _ _, s.keepsRest_withDev _⟩

theorem exec_signKept (hc : s.atCommit b.val 0x0140 c) (hr : chaefSigned b.val s.nv.boots c s.dev = { dev := e, code := code, rsp := rsp })
    (hm : e.mbx = s.dev.mbx) : ∃ t, exec (.chaefSign b) s = .next t ∧ s.finished t b.val c code rsp ∧
      ∀ ws es, s.dev.touches e ws es → s.onlyTouches { t with dev := { t.dev with mbx := s.dev.mbx } } ws es :=
  ⟨_, exec_chaefSign hc hr, State.finished_handed b.val c hm, fun _ _ ht => State.onlyTouches_handed ht hm⟩

end

section
variable {d : Dev} {b : Fin 4} {c : FwCmd} (boots : Nat)

theorem chaefSigned_signs (hl : c.len = 5) (hb : d.signBarred (mbxHalf b.val) = false)
    (hn : d.signedNow (mbxHalf b.val) < d.attRate (mbxHalf b.val) (d.sec .warp 0)) : chaefSigned b.val boots c d =
      { dev := d.signTaken (mbxHalf b.val), code := codeOK
        rsp := wordsOfBytes (d.signBody b.val boots c ++ Config.edSign (d.slot (mbxHalf b.val) 1).key (d.signBody b.val boots c)) } := by
  rw [chaefSigned_eq, if_neg (not_not.2 hl), if_neg (by rw [hb]; exact Bool.false_ne_true), if_neg (Nat.not_le.2 hn)]

theorem chaefSigned_refuses (hb : c.len ≠ 5 ∨ d.signBarred (mbxHalf b.val) = true) : chaefSigned b.val boots c d =
    { dev := d, code := if c.len = 5 then codeNotPermitted else codeBadLen, rsp := [] } := by
  rw [chaefSigned_eq]
  by_cases hl : c.len = 5
  · rw [if_neg (not_not.2 hl), if_pos hl, if_pos (hb.resolve_left (not_not.2 hl))]
  · rw [if_pos hl, if_neg hl]

theorem chaefSigned_busy (hl : c.len = 5) (hb : d.signBarred (mbxHalf b.val) = false)
    (hn : d.attRate (mbxHalf b.val) (d.sec .warp 0) ≤ d.signedNow (mbxHalf b.val)) : chaefSigned b.val boots c d =
      { dev := d.signRefused (mbxHalf b.val), code := codeBusy, rsp := [] } := by
  rw [chaefSigned_eq, if_neg (not_not.2 hl), if_neg (by rw [hb]; exact Bool.false_ne_true), if_pos hn]

end

theorem signRefused_count (d : Dev) (h : Half) :
    (d.signRefused h).g (bndPg h) Reg.BND.ATTCNT_REFUSED = (d.g (bndPg h) Reg.BND.ATTCNT_REFUSED + 1) % 2 ^ 16 := by
  unfold Dev.signRefused
  rw [Dev.g_inc_same _ _ _ (by decide)]
  rfl

theorem signRefused_mbx (d : Dev) (h : Half) : (d.signRefused h).mbx = d.mbx := d.p_mbx _ _ _

theorem signRefused_touches (d : Dev) (h : Half) : d.touches (d.signRefused h) [bndPg h + 0x30C] [] := by
  unfold Dev.signRefused
  exact Dev.touches.inc (f := Reg.BND.ATTCNT_REFUSED) (.refl d _ _) (List.mem_singleton_self _)

theorem signTaken_tbs (d : Dev) (h : Half) : (d.signTaken h).tbs = d.tbs := rfl

theorem signTaken_evts (d : Dev) (h : Half) : (d.signTaken h).evts = d.evts := rfl

/-! ### The statement -/

theorem local_lt (d : Dev) (h : Half) (n : Nat) : d.local_ h n < 2 ^ 32 := d.g_lt _ _

theorem joined_lt (x : BndSet) (n : Nat) : x.joined n < 2 ^ 32 := by
  have hu : unbounded < 2 ^ 32 := by decide
  unfold BndSet.joined joinBound
  split
  · exact hu
  · exact lt_of_le_of_lt (min_le_left _ _) hu

/-- The loss of the exchange raised in both halves. -/
def Dev.lostRaised (d : Dev) : Dev := (d.raise (bndPg .warp) 16).raise (bndPg .weft) 16

theorem lostRaised_evt (d : Dev) (h : Half) : d.lostRaised.evt (bndPg h) 16 = (d.evt (bndPg h) 16).occur := by
  have hne : bndPg .warp + 16 ≠ bndPg .weft + 16 := by decide
  unfold Dev.lostRaised
  cases h with
  | warp => rw [Dev.evt_raise_ne _ hne, Dev.evt_raise_own _ (by decide)]
  | weft => rw [Dev.evt_raise_own _ (by decide), Dev.evt_raise_ne _ hne.symm]

/-- The fields of an epoch, read from words that the engines beside it do not hold. -/
theorem epoch_fields {s : State} {t : Dev} (hr : (contextSent (epochOpenedAll s.dev)).regs = t.regs) (h : Half) :
    (contextSent (epochOpenedAll s.dev)).g (bndPg h) Reg.BND.EPOCH_NUM = t.g (bndPg h) Reg.BND.EPOCH_NUM ∧
      (contextSent (epochOpenedAll s.dev)).gb (bndPg h) Reg.BND.EPOCH_EXCH_OK = t.gb (bndPg h) Reg.BND.EPOCH_EXCH_OK ∧
      ∀ n, (contextSent (epochOpenedAll s.dev)).published h n = t.published h n :=
  ⟨Dev.g_congr hr _ _, Dev.gb_congr hr _ _, fun _ => Dev.g_congr hr _ _⟩

theorem epochHalf_warp {d : Dev} (h1 : d.boundServes .warp = true) : d.epochHalf = .warp := if_pos h1

theorem nextEpoch_warp {d : Dev} (h1 : d.boundServes .warp = true) :
    d.nextEpoch = (d.g (bndPg .warp) Reg.BND.EPOCH_NUM + 1) % 2 ^ 16 := by
  unfold Dev.nextEpoch
  rw [epochHalf_warp h1]

theorem nextEpoch_mod (d : Dev) : d.nextEpoch % 2 ^ 16 = d.nextEpoch := Nat.mod_mod _ _

section
variable {s : State}

/-- An epoch that both halves open. -/
theorem epochBoth {value : Half → Nat → Nat} {ok : Bool} (hv : ∀ h n, value h n < 2 ^ 32) {x : Dev} (hx : epochOpened s.dev = x)
    (hr : x.regs = (s.dev.openBoth s.dev.nextEpoch value ok).regs) (h : Half) :
    (contextSent (epochOpenedAll s.dev)).g (bndPg h) Reg.BND.EPOCH_NUM = s.dev.nextEpoch ∧
      (contextSent (epochOpenedAll s.dev)).gb (bndPg h) Reg.BND.EPOCH_EXCH_OK = ok ∧
      ∀ n < 16, (contextSent (epochOpenedAll s.dev)).published h n = value h n := by
  obtain ⟨hn, ho, hp⟩ := epoch_fields (s := s) (t := s.dev.openBoth s.dev.nextEpoch value ok) ((epochRest s.dev).1.trans ((congrArg Dev.regs hx).trans hr)) h
  refine ⟨hn.trans ((openBoth_num _ _ _ _ _).trans (nextEpoch_mod _)), ho.trans (openBoth_ok _ _ _ _ _), fun n hlt => ?_⟩
  exact (hp n).trans ((openBoth_published _ _ _ _ _ hlt).trans (Nat.mod_eq_of_lt (hv h n)))

theorem epochOpened_tbs : (epochOpened s.dev).tbs = s.dev.tbs := by
  by_cases hj : s.dev.exch.joint = false ∨ s.dev.boundServes .warp = false ∨ s.dev.boundServes .weft = false
  · rw [epochOpened_alone _ hj, ownEpoch_tbs, ownEpoch_tbs]
  · simp only [not_or, Bool.not_eq_false] at hj
    obtain ⟨hj, h1, h2⟩ := hj
    cases hx : s.dev.exch.set with
    | some x => rw [epochOpened_joint _ hj h1 h2 hx, openBoth_tbs]
    | none =>
      rw [epochOpened_fails _ hj h1 h2 hx]
      refine keeps_ite (g := Dev.tbs) rfl (keeps_ite (g := Dev.tbs) ?_ (openBoth_tbs _ _ _ _))
      rw [Dev.raise_tbs, Dev.raise_tbs, openBoth_tbs]

theorem epoch_tbs : (contextSent (epochOpenedAll s.dev)).tbs = s.dev.tbs := (epochRest s.dev).2.2.trans epochOpened_tbs

end

/-- The epochs that the halves open each for itself. -/
def Dev.openAlone (d : Dev) : Dev := d.ownEpoch (d.ownEpoch d d.nextEpoch .warp) d.nextEpoch .weft

theorem openAlone_serves (d : Dev) {h : Half} (hs : d.boundServes h = true) :
    d.openAlone.g (bndPg h) Reg.BND.EPOCH_NUM = d.nextEpoch ∧ ∀ n < 16, d.openAlone.published h n = d.local_ h n := by
  have hown (e : Dev) : (d.ownEpoch e d.nextEpoch h).g (bndPg h) Reg.BND.EPOCH_NUM = d.nextEpoch ∧
      ∀ n < 16, (d.ownEpoch e d.nextEpoch h).published h n = d.local_ h n := by
    obtain ⟨hn, hp⟩ := ownEpoch_serves e d.nextEpoch d h hs
    exact ⟨hn.trans (nextEpoch_mod d), fun n hlt => (hp n hlt).trans (Nat.mod_eq_of_lt (local_lt d h n))⟩
  unfold Dev.openAlone
  cases h with
  | warp =>
    have hv := ownEpoch_other (d.ownEpoch d d.nextEpoch .warp) d.nextEpoch d .weft .warp (by decide)
    exact ⟨(epochView_num hv).trans (hown d).1, fun n hn => (epochView_published hv hn).trans ((hown d).2 n hn)⟩
  | weft => exact hown _

theorem openAlone_idle (d : Dev) {h : Half} (hs : d.boundServes h = false) {n : Nat} (hn : n < 16) :
    d.openAlone.published h n = d.published h n := by
  unfold Dev.openAlone
  cases h with
  | warp =>
    rw [epochView_published (ownEpoch_other (d.ownEpoch d d.nextEpoch .warp) d.nextEpoch d .weft .warp (by decide)) hn, ownEpoch_idle _ _ _ _ hs hn]
  | weft => rw [ownEpoch_idle _ _ _ _ hs hn, epochView_published (ownEpoch_other d d.nextEpoch d .warp .weft (by decide)) hn]

theorem exchange_list {f : Nat → Nat} {n : Nat} (hn : n < 16) : ((List.range 16).map f)[n]? = some (f n) := by
  simp [hn]

/-- Settles O42: a sample stands in its own words, and its sum is not moved by the samples after it; the halves' epochs stand in
their own words too. -/
theorem boundsAreSampledExchangedAndSigned : Obligations.BoundsAreSampledExchangedAndSigned := by
  unfold Obligations.BoundsAreSampledExchangedAndSigned
  refine ⟨fun h n s hr => ?_, fun h n s hr => ?_, fun s h1 h2 => ⟨?_, ?_⟩, fun ok s ha => ?_, fun s x hj h1 h2 hx => ?_, fun s hj h1 h2 hx => ?_,
    fun s ha => ?_, fun b s c => ?_, fun b s c => ?_, fun b s c => ?_, fun b s hc => ?_⟩
  · obtain ⟨hsat, hheld, hlocked⟩ := boundSampledAll_taken s.dev n.isLt hr
    refine ⟨s.withDev (boundSampledAll s.dev), rfl, hsat, hheld, hlocked, fun g k hk => ?_, boundSampledAll_tbs s.dev, s.keepsRest_withDev _⟩
    exact Dev.g_of_w (o := 0x2C) (boundSampledAll_w s.dev (inBlock_tsuB g hk (by decide)).not)
  · exact ⟨s.withDev (boundSampledAll s.dev), rfl, boundSampledAll_same s.dev n.isLt hr, s.keepsRest_withDev _⟩
  · refine ⟨_, next_onDev (f := boundExchanged true) ((if_neg (by rw [h1, h2]; decide)).trans (if_pos rfl)), rfl, rfl,
      ⟨_, rfl, fun n hn => ⟨exchange_list hn, exchange_list hn, exchange_list hn⟩⟩, rfl, s.keepsRest_withDev _⟩
  · exact ⟨_, next_onDev (f := boundExchanged false) ((if_neg (by rw [h1, h2]; decide)).trans (if_neg Bool.false_ne_true)), rfl, rfl, rfl, rfl,
      s.keepsRest_withDev _⟩
  · have hb : (!(s.dev.boundServes .warp && s.dev.boundServes .weft)) = true := by
      rcases ha with ha | ha <;> simp [ha]
    exact ⟨_, next_onDev (f := boundExchanged ok) (if_pos hb), rfl, rfl, rfl, rfl, s.keepsRest_withDev _⟩
  · have hn := nextEpoch_warp h1
    rw [← hn]
    exact ⟨s.withDev (contextSent (epochOpenedAll s.dev)), rfl,
      fun h => epochBoth (fun _ n => joined_lt x n) (epochOpened_joint _ hj h1 h2 hx) rfl h, epoch_tbs, s.keepsRest_withDev _⟩
  · have hn := nextEpoch_warp h1
    have ho := epochOpened_fails _ hj h1 h2 hx
    rw [← hn]
    refine ⟨s.withDev (contextSent (epochOpenedAll s.dev)), rfl, fun hf h => ?_, fun hf h => ?_, epoch_tbs, s.keepsRest_withDev _⟩
    · have he : epochOpened s.dev = s.dev := ho.trans (if_pos hf)
      obtain ⟨hn, -, hp⟩ := epoch_fields (s := s) (t := s.dev) ((epochRest s.dev).1.trans (congrArg Dev.regs he)) h
      exact ⟨hn, fun n _ => hp n⟩
    · rw [if_neg (Nat.not_lt.2 hf)] at ho
      have hr : (if s.dev.exch.fails = 2 then ((s.dev.openBoth s.dev.nextEpoch s.dev.local_ false).raise (bndPg .warp) 16).raise (bndPg .weft) 16
          else s.dev.openBoth s.dev.nextEpoch s.dev.local_ false).regs = (s.dev.openBoth s.dev.nextEpoch s.dev.local_ false).regs :=
        keeps_ite (g := Dev.regs) ((Dev.raise_regs _ _ _).trans (Dev.raise_regs _ _ _)) rfl
      obtain ⟨he, hok, hp⟩ := epochBoth (fun h n => local_lt s.dev h n) ho hr h
      refine ⟨he, hok, hp, fun h2 => ?_⟩
      rw [if_pos h2] at ho
      refine (Dev.evt_congr ((epochRest s.dev).2.1.trans (congrArg Dev.evts ho)) _ _).trans ((lostRaised_evt _ h).trans ?_)
      rw [openBoth_evt]
  · have ho := epochOpened_alone s.dev ha
    refine ⟨s.withDev (contextSent (epochOpenedAll s.dev)), rfl, fun h hs => ?_, fun h hs n hn => ?_, epoch_tbs, s.keepsRest_withDev _⟩
    · obtain ⟨hn, -, hp⟩ := epoch_fields (s := s) (t := s.dev.openAlone) ((epochRest s.dev).1.trans (congrArg Dev.regs ho)) h
      obtain ⟨hnum, hpub⟩ := openAlone_serves s.dev hs
      exact ⟨hn.trans hnum, fun n hlt => (hp n).trans (hpub n hlt)⟩
    · obtain ⟨-, -, hp⟩ := epoch_fields (s := s) (t := s.dev.openAlone) ((epochRest s.dev).1.trans (congrArg Dev.regs ho)) h
      exact (hp n).trans (openAlone_idle s.dev hs hn)
  · intro h st sec hw hr hl hv hk hb hs hn body
    obtain ⟨t, he, hf, hm, hk⟩ := exec_signed ⟨hw, hr⟩ (chaefSigned_signs s.nv.boots hl (signBarred_false hv hk hb hs) hn) rfl
    have hregs : t.dev.regs = (s.dev.signTaken h).regs := hm Dev.regs fun _ _ => rfl
    have hchaef : t.dev.chaef = (s.dev.signTaken h).chaef := hm Dev.chaef fun _ _ => rfl
    exact ⟨t, he, hf, (congrArg (fun p => (Pair.of p h).seq) hchaef).trans (signTaken_chaef s.dev h),
      (Dev.g_congr hregs _ _).trans (signTaken_count s.dev h), (hm Dev.tbs fun _ _ => rfl).trans (signTaken_tbs _ h),
      Dev.sameEvents_of_evts ((hm Dev.evts fun _ _ => rfl).trans (signTaken_evts _ h)), hk⟩
  · intro h st bad hw hr hb
    obtain ⟨t, he, hf, ht⟩ := exec_signKept ⟨hw, hr⟩ (chaefSigned_refuses (b := b) s.nv.boots hb) rfl
    exact ⟨t, he, hf, ht [] [] (.refl _ _ _)⟩
  · intro h st sec hw hr hl hv hk hb hs hn
    obtain ⟨t, he, hf, ht⟩ := exec_signKept ⟨hw, hr⟩ (chaefSigned_busy s.nv.boots hl (signBarred_false hv hk hb hs) hn) (signRefused_mbx _ _)
    obtain ⟨t', he', -, hm, -⟩ := exec_signed ⟨hw, hr⟩ (chaefSigned_busy s.nv.boots hl (signBarred_false hv hk hb hs) hn) (signRefused_mbx _ _)
    obtain rfl : t = t' := exec_next_inj he he'
    have hregs : t.dev.regs = (s.dev.signRefused h).regs := hm Dev.regs fun _ _ => rfl
    exact ⟨t, he, hf, (Dev.g_congr hregs _ _).trans (signRefused_count _ h), ht _ _ (signRefused_touches _ h)⟩
  · exact next_onDev (f := fun d => d.mbxCommit b.val 0x0140 (chaefSigned b.val s.nv.boots)) (d := s.dev) (Dev.mbxCommit_none hc _)

end Sys2Proof.Machine
end

section
/-! SUPPORT. Channels of the baseband: what a change of state writes, and the loops over a band's channels (R222, R237). -/

namespace Sys2Proof.Machine

/-- An observation in which neither the state of a channel nor what follows a change of it shows (R237). -/
structure ChanBlind {α : Type} (g : Dev → α) (c : Nat) : Prop where
  cfg  : ∀ d v, g (d.setw (gntC c) v) = g d
  stat : ∀ d v, g (d.setw (gntC c + 0xC) v) = g d
  chg  : ∀ d v, g (d.setw (gntPg c + 0x900) v) = g d
  chan : ∀ d v, g (d.setChan c v) = g d
  evt  : ∀ d, g (d.raise (gntPg c) 0) = g d

/-- The words of a change of state. -/
def Dev.chMarked (d : Dev) (c st : Nat) : Dev :=
  (d.p (gntC c) Reg.GNT.CSTAT_STATE st).setw (gntPg c + 0x900) (setBits (d.w (gntPg c + 0x900)) (c % 32) 1 1)

/-- A channel at rest has neither lock nor bits. -/
def Dev.chIdle (d : Dev) (c : Nat) : Dev := (d.pb (gntC c) Reg.GNT.CSTAT_PLL_LOCK false).pb (gntC c) Reg.GNT.CSTAT_BIT_SYNC false

/-- The engine of a channel that changes its state. -/
def Dev.chMoved (d : Dev) (c st : Nat) : ChanSt :=
  { d.chan c with at_ := d.now, slip := (d.chan c).slip || (d.chState c == 2 || st == 4)
                  slipAt := if d.chState c == 2 || st == 4 then d.now else (d.chan c).slipAt }

section
variable (d : Dev) (c st : Nat)

theorem Dev.chTo_same (h : d.chState c = st) : d.chTo c st = d := if_pos h

theorem Dev.chTo_moves (h : d.chState c ≠ st) : d.chTo c st =
    ((if st = 0 then (d.chMarked c st).chIdle c else d.chMarked c st).setChan c (d.chMoved c st)).raise (gntPg c) 0 := by
  unfold Dev.chTo
  rw [if_neg h]
  unfold Dev.chMoved Dev.chIdle Dev.chMarked
  rfl

section
variable {d c st}

theorem ChanBlind.setStat {α : Type} {g : Dev → α} (hg : ChanBlind g c) {f : Fld} (hf : f.off = 0xC) (v : Nat) : g (d.p (gntC c) f v) = g d := by
  obtain ⟨o, lo, len⟩ := f
  subst hf
  exact hg.stat d _

theorem ChanBlind.setCfg {α : Type} {g : Dev → α} (hg : ChanBlind g c) {f : Fld} (hf : f.off = 0) (v : Nat) : g (d.p (gntC c) f v) = g d := by
  obtain ⟨o, lo, len⟩ := f
  subst hf
  show g (d.setw (gntC c + 0) _) = g d
  rw [Nat.add_zero]
  exact hg.cfg d _

theorem ChanBlind.chMarked {α : Type} {g : Dev → α} (hg : ChanBlind g c) : g (d.chMarked c st) = g d :=
  (hg.chg _ _).trans (hg.setStat rfl _)

theorem ChanBlind.chIdle {α : Type} {g : Dev → α} (hg : ChanBlind g c) : g (d.chIdle c) = g d :=
  (hg.setStat (f := Reg.GNT.CSTAT_BIT_SYNC) rfl _).trans (hg.setStat (f := Reg.GNT.CSTAT_PLL_LOCK) rfl _)

theorem ChanBlind.chTo {α : Type} {g : Dev → α} (hg : ChanBlind g c) : g (d.chTo c st) = g d := by
  by_cases h : d.chState c = st
  · rw [d.chTo_same c st h]
  · rw [d.chTo_moves c st h]
    exact (hg.evt _).trans ((hg.chan _ _).trans (keeps_ite (g := g) (hg.chIdle.trans hg.chMarked) hg.chMarked))

theorem ChanBlind.chSlip {α : Type} {g : Dev → α} (hg : ChanBlind g c) : g (d.chSlip c) = g d := hg.chan _ _

theorem ChanBlind.chBoundary {α : Type} {g : Dev → α} (hg : ChanBlind g c) : g (d.chBoundary c) = g d := hg.chan _ _

end

/-! ### What a channel's words do not share -/

theorem gntC_eq : gntC c = 0x220100 + c / 32 * 0x1000 + 0x40 * (c % 32) := by
  show 0x220000 + 0 * 0x8000 + c / 32 * 0x1000 + 0x100 + 0x40 * (c % 32) = _
  omega

theorem gntPg_eq : gntPg c = 0x220000 + c / 32 * 0x1000 := by
  show 0x220000 + 0 * 0x8000 + c / 32 * 0x1000 = _
  omega

/-- A word that no channel's change of state writes: of another channel, or of none. -/
def chanApart (c a : Nat) : Prop := a ≠ gntC c ∧ a ≠ gntC c + 0xC ∧ a ≠ gntPg c + 0x900

theorem chanApart_ne {c x : Nat} (h : c ≠ x) {o : Nat} (ho : o < 0x40) : chanApart c (gntC x + o) := by
  unfold chanApart
  rw [gntC_eq, gntC_eq, gntPg_eq]
  refine ⟨?_, ?_, ?_⟩ <;> omega

theorem chanApart_low {c a : Nat} (ha : a < 0x220000) : chanApart c a := by
  unfold chanApart
  rw [gntC_eq, gntPg_eq]
  refine ⟨?_, ?_, ?_⟩ <;> omega

theorem chanBlind_w {c a : Nat} (h : chanApart c a) : ChanBlind (fun d => d.w a) c where
  cfg d _ := (d.w_setw _ _ _).trans (if_neg h.1)
  stat d _ := (d.w_setw _ _ _).trans (if_neg h.2.1)
  chg d _ := (d.w_setw _ _ _).trans (if_neg h.2.2)
  chan _ _ := rfl
  evt d := d.w_raise _ _ _

/-- An engine beside the channels' does not show their states. -/
theorem chanBlind_of {α : Type} {g : Dev → α} {c : Nat} (hw : ∀ d a v, g (Dev.setw d a v) = g d) (hc : ∀ d v, g (Dev.setChan d c v) = g d)
    (he : ∀ d pg k, g (d.raise pg k) = g d) : ChanBlind g c :=
  ⟨fun d v => hw d _ v, fun d v => hw d _ v, fun d v => hw d _ v, hc, fun d => he d _ _⟩

theorem chanBlind_evt {c pg k : Nat} (h : pg + k ≠ gntPg c) : ChanBlind (fun d => d.evt pg k) c where
  cfg _ _ := rfl
  stat _ _ := rfl
  chg _ _ := rfl
  chan _ _ := rfl
  evt d := d.evt_raise_ne (by rwa [Nat.add_zero])

theorem Dev.chan_setChan_same (v : ChanSt) : (d.setChan c v).chan c = v := Tab.get_set_same (fun _ => ({} : ChanSt)) _ _ _

theorem Dev.chan_setChan_ne {c x : Nat} (h : x ≠ c) (v : ChanSt) : (d.setChan c v).chan x = d.chan x :=
  Tab.get_set_ne (fun _ => ({} : ChanSt)) _ _ _ _ h

theorem chanBlind_chan {c x : Nat} (h : c ≠ x) : ChanBlind (fun d => d.chan x) c where
  cfg _ _ := rfl
  stat _ _ := rfl
  chg _ _ := rfl
  chan d v := d.chan_setChan_ne (Ne.symm h) v
  evt d := congrArg (fun t => Tab.get (fun _ => ({} : ChanSt)) t x) (d.raise_chans _ _)

theorem chanBlind_tbs : ChanBlind Dev.tbs c := chanBlind_of (fun _ _ _ => rfl) (fun _ _ => rfl) fun d _ _ => d.raise_tbs _ _

theorem chanBlind_acq : ChanBlind Dev.acq c := chanBlind_of (fun _ _ _ => rfl) (fun _ _ => rfl) fun d _ _ => d.raise_acq _ _

theorem chanBlind_bands : ChanBlind Dev.bands c := chanBlind_of (fun _ _ _ => rfl) (fun _ _ => rfl) fun d _ _ => d.raise_bands _ _

theorem chanBlind_snap : ChanBlind Dev.snap c := chanBlind_of (fun _ _ _ => rfl) (fun _ _ => rfl) fun d _ _ => d.raise_snap _ _

theorem Dev.chState_of_w {d e : Dev} {c : Nat} (h : e.w (gntC c + 0xC) = d.w (gntC c + 0xC)) : e.chState c = d.chState c := Dev.g_of_w (o := 0xC) h

theorem Dev.chBand_of_w {d e : Dev} {c : Nat} (h : e.w (gntC c) = d.w (gntC c)) : e.chBand c = d.chBand c :=
  Dev.g_of_w (o := 0) (by rwa [Nat.add_zero])

/-- A channel's state is its own. -/
theorem chanBlind_state {c x : Nat} (h : c ≠ x) : ChanBlind (fun d => d.chState x) c :=
  have hb := chanBlind_w (chanApart_ne h (o := 0xC) (by decide))
  ⟨fun d v => Dev.chState_of_w (hb.cfg d v), fun d v => Dev.chState_of_w (hb.stat d v), fun d v => Dev.chState_of_w (hb.chg d v),
    fun d v => Dev.chState_of_w (hb.chan d v), fun d => Dev.chState_of_w (hb.evt d)⟩

theorem chanBlind_band {c x : Nat} (h : c ≠ x) : ChanBlind (fun d => d.chBand x) c :=
  have hb : ChanBlind (fun d => d.w (gntC x)) c := by
    have := chanBlind_w (chanApart_ne h (o := 0) (by decide))
    rwa [Nat.add_zero] at this
  ⟨fun d v => Dev.chBand_of_w (hb.cfg d v), fun d v => Dev.chBand_of_w (hb.stat d v), fun d v => Dev.chBand_of_w (hb.chg d v),
    fun d v => Dev.chBand_of_w (hb.chan d v), fun d => Dev.chBand_of_w (hb.evt d)⟩

/-! ### A change of state -/

theorem Dev.w_chIdle {a : Nat} (ha : a ≠ gntC c + 0xC) : (d.chIdle c).w a = d.w a :=
  (Dev.w_pb_ne (f := Reg.GNT.CSTAT_BIT_SYNC) _ _ ha).trans (Dev.w_pb_ne (f := Reg.GNT.CSTAT_PLL_LOCK) _ _ ha)

theorem Dev.chIdle_state : (d.chIdle c).chState c = d.chState c := by
  unfold Dev.chIdle Dev.chState
  exact (Dev.g_p_apart _ _ _ (by decide) (by decide)).trans (Dev.g_p_apart _ _ _ (by decide) (by decide))

theorem Dev.chMarked_state (hs : st < 8) : (d.chMarked c st).chState c = st := by
  unfold Dev.chMarked Dev.chState
  have hne : gntC c + Reg.GNT.CSTAT_STATE.off ≠ gntPg c + 0x900 := by
    show gntC c + 0xC ≠ _
    rw [gntC_eq, gntPg_eq]
    omega
  rw [Dev.g_setw_ne _ _ hne, Dev.g_p_same _ _ _ _ (by decide)]
  exact Nat.mod_eq_of_lt hs

theorem Dev.chState_raise (pg k : Nat) : (d.raise pg k).chState c = d.chState c := d.g_raise _ _ _ _

theorem Dev.chState_setChan (x : Nat) (v : ChanSt) : (d.setChan x v).chState c = d.chState c := rfl

/-- A channel that changes its state has the new one. -/
theorem Dev.chTo_state (hs : st < 8) : (d.chTo c st).chState c = st := by
  by_cases h : d.chState c = st
  · rw [d.chTo_same c st h, h]
  · rw [d.chTo_moves c st h, Dev.chState_raise, Dev.chState_setChan]
    split_ifs
    · rw [Dev.chIdle_state, Dev.chMarked_state _ _ _ hs]
    · exact Dev.chMarked_state _ _ _ hs

/-- A channel's setting word, which a change of its state does not write. -/
theorem Dev.chTo_cfg (x : Nat) : (d.chTo c st).w (gntC x) = d.w (gntC x) := by
  by_cases h : d.chState c = st
  · rw [d.chTo_same c st h]
  · have h1 : gntC x ≠ gntC c + 0xC := by
      rw [gntC_eq, gntC_eq]
      omega
    have h2 : gntC x ≠ gntPg c + 0x900 := by
      rw [gntC_eq, gntPg_eq]
      omega
    have hm : (d.chMarked c st).w (gntC x) = d.w (gntC x) := by
      unfold Dev.chMarked
      rw [Dev.w_setw, if_neg h2, Dev.w_p_ne _ _ _ _ _ h1]
    rw [d.chTo_moves c st h, Dev.w_raise]
    exact keeps_ite (g := fun e : Dev => e.w (gntC x)) ((Dev.w_chIdle _ _ h1).trans hm) hm

/-! ### The channels of a band -/

variable (b : Nat) (states : List Nat) (f : Nat → Dev → Dev)

/-- A channel of a band, in a state to be acted on. -/
def Dev.onBand (d : Dev) (b : Nat) (states : List Nat) (c : Nat) : Bool := d.chState c != 0 && d.chBand c == b && states.contains (d.chState c)

theorem Dev.bandChans_eq : d.bandChans b states f = d.each 256 fun c e => if e.onBand b states c then f c e else e := rfl

section
variable {d b states f}

theorem Dev.onBand_congr {e : Dev} {c : Nat} (hs : e.chState c = d.chState c) (hb : e.chBand c = d.chBand c) :
    e.onBand b states c = d.onBand b states c := by
  unfold Dev.onBand
  rw [hs, hb]

/-- What no channel's change shows, the loop does not show. -/
theorem Dev.bandChans_keeps {α : Type} (g : Dev → α) (hg : ∀ c < 256, ∀ e, g (f c e) = g e) : g (d.bandChans b states f) = g d := by
  rw [Dev.bandChans_eq]
  exact Dev.each_keeps g 256 _ d fun c hc e => keeps_ite (g := g) (hg c hc e) rfl

/-- A channel not acted on keeps what only its own change would show. -/
theorem Dev.bandChans_out {α : Type} (g : Dev → α) {c : Nat} (ho : d.onBand b states c = false)
    (hs : ∀ i e, i ≠ c → (f i e).chState c = e.chState c ∧ (f i e).chBand c = e.chBand c) (hg : ∀ i e, i ≠ c → g (f i e) = g e) :
    g (d.bandChans b states f) = g d := by
  have hP : g (d.bandChans b states f) = g d ∧ (d.bandChans b states f).onBand b states c = d.onBand b states c := by
    rw [Dev.bandChans_eq]
    refine Dev.each_ind (P := fun e => g e = g d ∧ e.onBand b states c = d.onBand b states c) ⟨rfl, rfl⟩ fun i hi e he => ?_
    obtain ⟨h1, h2⟩ := he
    split_ifs with hc
    · have hne : i ≠ c := by
        rintro rfl
        rw [h2, ho] at hc
        exact absurd hc (by decide)
      exact ⟨(hg i e hne).trans h1, (Dev.onBand_congr (hs i e hne).1 (hs i e hne).2).trans h2⟩
    · exact ⟨h1, h2⟩
  exact hP.1

/-- A channel acted on has what its own change gives it. -/
theorem Dev.bandChans_at {α : Type} (g : Dev → α) {x : α} {c : Nat} (hc : c < 256) (ho : d.onBand b states c = true)
    (hs : ∀ i e, i ≠ c → (f i e).chState c = e.chState c ∧ (f i e).chBand c = e.chBand c) (hx : ∀ e, g (f c e) = x)
    (hg : ∀ i e, i ≠ c → g (f i e) = g e) : g (d.bandChans b states f) = x := by
  rw [Dev.bandChans_eq]
  refine Dev.each_own (Q := fun e => e.onBand b states c = d.onBand b states c) (R := fun e => g e = x) (j := c) rfl ?_ ?_ hc ?_
  · intro i hi e he
    split_ifs
    · exact (Dev.onBand_congr (hs i e (by omega)).1 (hs i e (by omega)).2).trans he
    · exact he
  · intro e he
    rw [he, ho]
    exact hx e
  · intro i hi hci e he
    split_ifs
    · exact (hg i e (by omega)).trans he
    · exact he

end

end

/-- The channels of a band, moved from some states to one. -/
theorem Dev.bandChans_state {d : Dev} {b st : Nat} {states : List Nat} {f : Nat → Dev → Dev} (hf : ∀ c e, (f c e).chState c = st)
    (hk : ∀ {α : Type} (g : Dev → α) c e, ChanBlind g c → g (f c e) = g e) {c : Nat} (hc : c < 256) :
    (d.bandChans b states f).chState c = if d.onBand b states c then st else d.chState c := by
  have hs : ∀ i e, i ≠ c → (f i e).chState c = e.chState c ∧ (f i e).chBand c = e.chBand c := fun i e hi =>
    ⟨hk (fun d => d.chState c) i e (chanBlind_state hi), hk (fun d => d.chBand c) i e (chanBlind_band hi)⟩
  cases ho : d.onBand b states c
  · exact Dev.bandChans_out (fun e => e.chState c) ho hs fun i e hi => (hs i e hi).1
  · exact Dev.bandChans_at (fun e => e.chState c) hc ho hs (fun e => hf c e) fun i e hi => (hs i e hi).1

end Sys2Proof.Machine
end

section
/-! PROOF. O43: bands follow their clocks, levels and jamming (R222, R224, R226, R227). -/

namespace Sys2Proof.Machine

/-! ### What a job's end and a stopped capture leave -/

/-- An observation in which the end of an acquisition job does not show. -/
structure AcqBlind {α : Type} (g : Dev → α) : Prop where
  acq : ∀ d v, g (Dev.setAcq d v) = g d
  evt : ∀ d, g (Dev.raise d gnaPg 0) = g d

section
variable {α : Type} {g : Dev → α} (hg : AcqBlind g) (d : Dev)
include hg

theorem AcqBlind.acqKick : g d.acqKick = g d := by
  unfold Dev.acqKick
  split
  · exact keeps_ite (g := g) (hg.acq _ _) rfl
  · rfl

theorem AcqBlind.acqFinish (o : Nat) (p : Option AcqPeak) : g (d.acqFinish o p) = g d := by
  unfold Dev.acqFinish
  split
  · rfl
  · exact (hg.acqKick _).trans ((hg.evt _).trans (hg.acq _ _))

theorem AcqBlind.acqStop (b o : Nat) : g (d.acqStop b o) = g d := by
  unfold Dev.acqStop
  split
  · exact keeps_ite (g := g) (hg.acqFinish _ _ _) rfl
  · rfl

end

theorem acqBlind_regs : AcqBlind Dev.regs := ⟨fun _ _ => rfl, fun d => d.raise_regs _ _⟩

theorem acqBlind_tbs : AcqBlind Dev.tbs := ⟨fun _ _ => rfl, fun d => d.raise_tbs _ _⟩

theorem acqBlind_w (a : Nat) : AcqBlind (fun d => d.w a) := ⟨fun _ _ => rfl, fun d => d.w_raise _ _ _⟩

theorem acqBlind_evt {pg k : Nat} (h : pg + k ≠ gnaPg) : AcqBlind (fun d => d.evt pg k) :=
  ⟨fun _ _ => rfl, fun d => d.evt_raise_ne (by rwa [Nat.add_zero])⟩

theorem acqBlind_chan (c : Nat) : AcqBlind (fun d => d.chan c) :=
  ⟨fun _ _ => rfl, fun d => congrArg (fun t => Tab.get (fun _ => ({} : ChanSt)) t c) (d.raise_chans _ _)⟩

/-- An observation in which a stopped capture does not show. -/
structure SnapBlind {α : Type} (g : Dev → α) : Prop where
  stat : ∀ d v, g (Dev.setw d (gnsPg + 0x208) v) = g d
  snap : ∀ d (v : SnapSt), g { d with snap := v } = g d

theorem SnapBlind.snapBandStop {α : Type} {g : Dev → α} (hg : SnapBlind g) (d : Dev) (b : Nat) (drop : Bool) : g (d.snapBandStop b drop) = g d := by
  unfold Dev.snapBandStop
  refine keeps_ite (g := g) ?_ rfl
  refine (hg.snap _ _).trans ?_
  cases drop
  · exact hg.stat d _
  · exact hg.stat d _

theorem snapBlind_tbs : SnapBlind Dev.tbs := ⟨fun _ _ => rfl, fun _ _ => rfl⟩

theorem snapBlind_acq : SnapBlind Dev.acq := ⟨fun _ _ => rfl, fun _ _ => rfl⟩

theorem snapBlind_evt (pg k : Nat) : SnapBlind (fun d => d.evt pg k) := ⟨fun _ _ => rfl, fun _ _ => rfl⟩

theorem snapBlind_chan (c : Nat) : SnapBlind (fun d => d.chan c) := ⟨fun _ _ => rfl, fun _ _ => rfl⟩

theorem snapBlind_w {a : Nat} (h : a ≠ gnsPg + 0x208) : SnapBlind (fun d => d.w a) :=
  ⟨fun d _ => (d.w_setw _ _ _).trans (if_neg h), fun _ _ => rfl⟩

/-! ### A band's clock -/

section
variable (d : Dev) (b : Nat)

/-- A band whose clock is not good, as its registers and its event show. -/
def Dev.clkDown (d : Dev) (b : Nat) : Dev :=
  ((d.setBand b { d.band b with goodAt := none }).pb (gnfB b) Reg.GNF.BSTAT_CLK_OK false).raise gnfPg (4 * b)

/-- A band whose clock has failed. -/
def Dev.clkGone (d : Dev) (b : Nat) : Dev :=
  (d.clkDown b).bandChans b [1, 2, 3] fun c e => (e.setChan c { e.chan c with coast := true }).chTo c 4

theorem bandClkLost_eq (h1 : d.gb (gnfB b) Reg.GNF.BSTAT_CLK_OK = true) (h2 : d.gnssOn = true) (h3 : d.bandGood b = false) :
    bandClkLost b d = ((d.clkGone b).acqStop b 4).snapBandStop b false := by
  unfold bandClkLost
  rw [if_neg (by simp [h1, h2, h3])]
  rfl

theorem bandClkLost_stays (h : d.gb (gnfB b) Reg.GNF.BSTAT_CLK_OK = false ∨ d.gnssOn = false ∨ d.bandGood b = true) : bandClkLost b d = d := by
  refine if_pos ?_
  rcases h with h | h | h <;> simp [h]

/-- The conditions of a band's clock have held for 1 ms. -/
def Dev.clkHeld (d : Dev) (b : Nat) : Bool := match (d.band b).goodAt with | some t => decide (t + 250000 ≤ d.now) | none => false

/-- A band whose clock is back. -/
def Dev.clkBack (d : Dev) (b : Nat) : Dev :=
  (d.pb (gnfB b) Reg.GNF.BSTAT_CLK_OK true).bandChans b [4] fun c e => (e.chSlip c).chTo c 1

theorem bandClkOk_eq (edges : Bool) : bandClkOk b edges d =
    if d.gb (gnfB b) Reg.GNF.BSTAT_CLK_OK || !(d.bandOn b) || !(d.gnssOn) || !edges || !(d.clkHeld b) || !(d.bandGood b) then d
    else d.clkBack b := rfl

theorem clkHeld_iff : d.clkHeld b = true ↔ ∃ x, (d.band b).goodAt = some x ∧ x + 250000 ≤ d.now := by
  unfold Dev.clkHeld
  cases (d.band b).goodAt <;> simp

theorem bandClkOk_back {x : Nat} (h1 : d.gb (gnfB b) Reg.GNF.BSTAT_CLK_OK = false) (h2 : d.bandOn b = true) (h3 : d.gnssOn = true)
    (h4 : (d.band b).goodAt = some x) (h5 : x + 250000 ≤ d.now) (h6 : d.bandGood b = true) : bandClkOk b true d = d.clkBack b := by
  rw [bandClkOk_eq, if_neg (by simp [h1, h2, h3, h6, (clkHeld_iff d b).2 ⟨x, h4, h5⟩])]

theorem bandClkOk_stays {edges : Bool} (h : d.gb (gnfB b) Reg.GNF.BSTAT_CLK_OK = true ∨ d.bandOn b = false ∨ d.gnssOn = false ∨ edges = false ∨
    (∀ x, (d.band b).goodAt = some x → d.now < x + 250000) ∨ d.bandGood b = false) : bandClkOk b edges d = d := by
  rw [bandClkOk_eq]
  refine if_pos ?_
  rcases h with h | h | h | h | h | h
  · simp [h]
  · simp [h]
  · simp [h]
  · simp [h]
  · have : d.clkHeld b = false := by
      rw [Bool.eq_false_iff, Ne, clkHeld_iff]
      rintro ⟨x, hx, hle⟩
      exact absurd hle (Nat.not_le.2 (h x hx))
    simp [this]
  · simp [h]

variable {d b}

theorem onBand_iff {states : List Nat} {c : Nat} :
    d.onBand b states c = true ↔ d.chState c ≠ 0 ∧ d.chBand c = b ∧ d.chState c ∈ states := by
  unfold Dev.onBand
  simp [and_assoc]

/-- The states 1 to 3, as a band's settings name them. -/
theorem onBand_tracks {c : Nat} : d.onBand b [1, 2, 3] c = true ↔ d.chBand c = b ∧ 1 ≤ d.chState c ∧ d.chState c ≤ 3 := by
  rw [onBand_iff]
  simp only [List.mem_cons, List.not_mem_nil, or_false]
  omega

theorem onBand_coasts {c : Nat} : d.onBand b [4] c = true ↔ d.chBand c = b ∧ d.chState c = 4 := by
  rw [onBand_iff]
  simp only [List.mem_cons, List.not_mem_nil, or_false]
  omega

theorem gnfB_eq : gnfB b = 0x200100 + 0x100 * b := by
  show 0x200000 + 0 * 0x8000 + 0 * 0x1000 + 0x100 + 0x100 * b = _
  omega

/-- A word of a band's block is no channel's. -/
theorem chanApart_gnfB {c o : Nat} (hb : b < 4) (ho : o < 0x100) : chanApart c (gnfB b + o) :=
  chanApart_low (by rw [gnfB_eq]; omega)

theorem gnfB_ne_snap {o : Nat} (hb : b < 4) (ho : o < 0x100) : gnfB b + o ≠ gnsPg + 0x208 := by
  rw [gnfB_eq]
  show _ ≠ 0x230000 + 0 * 0x8000 + 0 * 0x1000 + 0x208
  omega

theorem gntPg_ge (c : Nat) : 0x220000 ≤ gntPg c := by
  rw [gntPg_eq]
  omega

theorem chan_ne_gnf {c k : Nat} (hk : k < 0x10000) : gnfPg + k ≠ gntPg c := by
  have := gntPg_ge c
  show 0x200000 + 0 * 0x8000 + 0 * 0x1000 + k ≠ _
  omega

/-- A coasting channel shows what only its own state would. -/
theorem ChanBlind.coasts {α : Type} {g : Dev → α} {c : Nat} (hg : ChanBlind g c) (e : Dev) (st : Nat) (u : ChanSt) :
    g ((e.setChan c u).chTo c st) = g e := hg.chTo.trans (hg.chan _ _)

theorem clkGone_keeps {α : Type} {g : Dev → α} (hg : ∀ c < 256, ChanBlind g c) :
    g (d.clkGone b) = g (d.clkDown b) :=
  Dev.bandChans_keeps g fun c hc e => (hg c hc).coasts e 4 _

theorem clkBack_keeps {α : Type} {g : Dev → α} (hg : ∀ c < 256, ChanBlind g c) :
    g (d.clkBack b) = g (d.pb (gnfB b) Reg.GNF.BSTAT_CLK_OK true) :=
  Dev.bandChans_keeps g fun c hc e => (hg c hc).coasts e 1 _

theorem evtImplemented_gnf : ∀ k < 16, evtImplemented gnfPg k = true := by decide

/-! ### The channels of a band whose clock changes -/

theorem Dev.setBand_w (v : BandSt) (a : Nat) : (d.setBand b v).w a = d.w a := rfl

theorem clkDown_w {a : Nat} (h : a ≠ gnfB b + 0x14) : (d.clkDown b).w a = d.w a := by
  unfold Dev.clkDown
  rw [Dev.w_raise, Dev.w_pb_ne (f := Reg.GNF.BSTAT_CLK_OK) _ _ h, Dev.setBand_w]

theorem clkDown_ok : (d.clkDown b).gb (gnfB b) Reg.GNF.BSTAT_CLK_OK = false := by
  unfold Dev.clkDown
  rw [Dev.gb_raise, Dev.gb_pb_same _ _ _ _ (by decide) (by decide)]

theorem clkDown_tbs : (d.clkDown b).tbs = d.tbs := by
  unfold Dev.clkDown
  rw [Dev.raise_tbs, Dev.pb_tbs]
  rfl

theorem Dev.setBand_evt (v : BandSt) (pg k : Nat) : (d.setBand b v).evt pg k = d.evt pg k := rfl

theorem clkDown_evt (hb : b < 4) : (d.clkDown b).evt gnfPg (4 * b) = (d.evt gnfPg (4 * b)).occur := by
  unfold Dev.clkDown
  rw [Dev.evt_raise_own _ (evtImplemented_gnf _ (by omega)), Dev.evt_pb, Dev.setBand_evt]

theorem gntC_ne_gnf (c o : Nat) {a : Nat} (ha : a < 0x210000) : gntC c + o ≠ a := by
  rw [gntC_eq]
  omega

theorem gntC_ne_snap {c : Nat} (hc : c < 256) {o : Nat} (ho : o < 0x40) : gntC c + o ≠ gnsPg + 0x208 := by
  have h : gnsPg = 0x230000 := rfl
  rw [gntC_eq, h]
  omega

theorem gnfB_lt (hb : b < 4) {o : Nat} (ho : o < 0x100) : gnfB b + o < 0x210000 := by
  rw [gnfB_eq]
  omega

theorem onBand_of_w {e : Dev} {states : List Nat} {c : Nat} (h : ∀ o, e.w (gntC c + o) = d.w (gntC c + o)) :
    e.chState c = d.chState c ∧ e.onBand b states c = d.onBand b states c :=
  ⟨Dev.chState_of_w (h 0xC), Dev.onBand_congr (Dev.chState_of_w (h 0xC)) (Dev.chBand_of_w (by
    have h0 := h 0
    rwa [Nat.add_zero] at h0))⟩

theorem clkGone_state (hb : b < 4) {c : Nat} (hc : c < 256) :
    (d.clkGone b).chState c = if d.chBand c = b ∧ 1 ≤ d.chState c ∧ d.chState c ≤ 3 then 4 else d.chState c := by
  obtain ⟨h1, h2⟩ := onBand_of_w (d := d) (b := b) (states := [1, 2, 3]) (c := c) fun o =>
    clkDown_w (d := d) (b := b) (gntC_ne_gnf c o (gnfB_lt hb (by decide)))
  have h := Dev.bandChans_state (d := d.clkDown b) (b := b) (states := [1, 2, 3]) (st := 4)
    (f := fun c e => (e.setChan c { e.chan c with coast := true }).chTo c 4) (fun c e => Dev.chTo_state _ c 4 (by decide))
    (fun g c e hg => hg.coasts e 4 _) hc
  rw [h1, h2] at h
  exact h.trans (if_congr onBand_tracks rfl rfl)

theorem clkBack_state (hb : b < 4) {c : Nat} (hc : c < 256) :
    (d.clkBack b).chState c = if d.chBand c = b ∧ d.chState c = 4 then 1 else d.chState c := by
  obtain ⟨h1, h2⟩ := onBand_of_w (d := d) (e := d.pb (gnfB b) Reg.GNF.BSTAT_CLK_OK true) (b := b) (states := [4]) (c := c) fun o =>
    Dev.w_pb_ne (f := Reg.GNF.BSTAT_CLK_OK) _ _ (gntC_ne_gnf c o (gnfB_lt hb (by decide)))
  have h := Dev.bandChans_state (d := d.pb (gnfB b) Reg.GNF.BSTAT_CLK_OK true) (b := b) (states := [4]) (st := 1)
    (f := fun c e => (e.chSlip c).chTo c 1) (fun c e => Dev.chTo_state _ c 1 (by decide)) (fun g c e hg => hg.coasts e 1 _) hc
  rw [h1, h2] at h
  exact h.trans (if_congr onBand_coasts rfl rfl)

theorem clkBack_ok (hb : b < 4) : (d.clkBack b).gb (gnfB b) Reg.GNF.BSTAT_CLK_OK = true :=
  (Dev.gb_of_w (f := Reg.GNF.BSTAT_CLK_OK) (o := 0x14) (clkBack_keeps fun _ _ => chanBlind_w (chanApart_gnfB hb (by decide)))).trans
    (d.gb_pb_same _ _ _ (by decide) (by decide))

/-- The last steps of a lost clock: a pass of the band and its capture end. -/
def Dev.bandStopped (d : Dev) (b o : Nat) (drop : Bool) : Dev := (d.acqStop b o).snapBandStop b drop

theorem bandStopped_keeps {α : Type} {g : Dev → α} (ha : AcqBlind g) (hs : SnapBlind g) (o : Nat) (drop : Bool) :
    g (d.bandStopped b o drop) = g d := (hs.snapBandStop _ _ _).trans (ha.acqStop _ _ _)

theorem bandStopped_state (o : Nat) (drop : Bool) {c : Nat} (hc : c < 256) : (d.bandStopped b o drop).chState c = d.chState c :=
  Dev.chState_of_w (bandStopped_keeps (acqBlind_w _) (snapBlind_w (gntC_ne_snap hc (by decide))) o drop)

/-! ### Samples dropped -/

/-- The words and the event of dropped samples. -/
def Dev.dropCounted (d : Dev) (b n : Nat) : Dev :=
  (d.p (gnfB b) Reg.GNF.DROPS (min 0xFFFFFFFF (d.g (gnfB b) Reg.GNF.DROPS + n))).raise gnfPg (4 * b + 3)

/-- A channel notes a dropped sample. -/
def Dev.chDropped (e : Dev) (c : Nat) : Dev := e.setChan c { e.chan c with drop := true }

/-- Dropped samples, noted by the band's channels. -/
def Dev.dropNoted (d : Dev) (b n : Nat) : Dev := (d.dropCounted b n).bandChans b [1, 2, 3] fun c e => e.chDropped c

theorem bandFifoDropped_eq {n : Nat} (h1 : d.bandOn b = true) (h2 : d.gnssOn = true) (h3 : 0 < n) :
    bandFifoDropped b n d = ((d.dropNoted b n).acqLost b).snapBandStop b true := by
  unfold bandFifoDropped
  rw [if_neg (by
    have : n ≠ 0 := by omega
    simp [h1, h2, this])]
  rfl

theorem bandFifoDropped_stays {n : Nat} (h : d.bandOn b = false ∨ d.gnssOn = false ∨ n = 0) : bandFifoDropped b n d = d := by
  refine if_pos ?_
  rcases h with h | h | h <;> simp [h]

theorem acqLost_keeps {α : Type} {g : Dev → α} (hg : ∀ d v, g (Dev.setAcq d v) = g d) (d : Dev) (b : Nat) : g (d.acqLost b) = g d := by
  unfold Dev.acqLost
  split
  · exact keeps_ite (g := g) rfl (hg _ _)
  · rfl

theorem Dev.setAcq_acq (v : AcqSt) : (d.setAcq v).acq = v := rfl

/-- The integration period in which a sample is lost is discarded. -/
theorem acqLost_run {r : AcqRun} (hr : d.acq.run = some r) (hb : r.job.band = b) (hs : r.start ≤ d.gnssMs) :
    ∃ q, (d.acqLost b).acq.run = some q ∧ (d.gnssMs - r.start) / max 1 r.job.tc ∈ q.lost := by
  unfold Dev.acqLost
  rw [hr]
  dsimp only
  by_cases hc : (d.gnssMs - r.start) / max 1 r.job.tc ∈ r.lost
  · rw [if_pos (by simp [hc])]
    exact ⟨r, hr, hc⟩
  · rw [if_neg (by simp [hc, hb, hs]), Dev.setAcq_acq]
    exact ⟨_, rfl, List.mem_cons_self ..⟩

theorem dropCounted_w {n a : Nat} (h : a ≠ gnfB b + 0x1C) : (d.dropCounted b n).w a = d.w a := by
  unfold Dev.dropCounted
  rw [Dev.w_raise, Dev.w_p_ne _ _ Reg.GNF.DROPS _ _ h]

theorem dropCounted_drops (n : Nat) :
    (d.dropCounted b n).g (gnfB b) Reg.GNF.DROPS = min 0xFFFFFFFF (d.g (gnfB b) Reg.GNF.DROPS + n) := by
  unfold Dev.dropCounted
  rw [Dev.g_raise, Dev.g_p_same _ _ _ _ (by decide)]
  exact Nat.mod_eq_of_lt (Nat.lt_of_le_of_lt (Nat.min_le_left ..) (by decide))

theorem Dev.evt_p (o : Nat) (f : Fld) (v pg k : Nat) : (d.p o f v).evt pg k = d.evt pg k := rfl

theorem dropCounted_evt (hb : b < 4) (n : Nat) : (d.dropCounted b n).evt gnfPg (4 * b + 3) = (d.evt gnfPg (4 * b + 3)).occur := by
  unfold Dev.dropCounted
  rw [Dev.evt_raise_own _ (evtImplemented_gnf _ (by omega)), Dev.evt_p]

theorem dropCounted_tbs (n : Nat) : (d.dropCounted b n).tbs = d.tbs := by
  unfold Dev.dropCounted
  rw [Dev.raise_tbs, Dev.p_tbs]

theorem dropCounted_acq (n : Nat) : (d.dropCounted b n).acq = d.acq := by
  unfold Dev.dropCounted
  rw [Dev.raise_acq, Dev.p_acq]

theorem dropCounted_half (n : Nat) : (d.dropCounted b n).half = d.half := by
  unfold Dev.dropCounted
  rw [Dev.raise_half, Dev.p_half]

/-- What only the channels' engines do not show, their noting a dropped sample does not. -/
theorem dropNoted_keeps {α : Type} (g : Dev → α) (hg : ∀ e c v, g (Dev.setChan e c v) = g e) (n : Nat) :
    g (d.dropNoted b n) = g (d.dropCounted b n) := Dev.bandChans_keeps g fun c _ e => hg e c _

theorem gnssMs_congr {e : Dev} (ht : e.tbs = d.tbs) (hh : e.half = d.half)
    (hw : ∀ h, e.w (redPg h + Reg.RED.RSTAT_HJOIN.off) = d.w (redPg h + Reg.RED.RSTAT_HJOIN.off)) : e.gnssMs = d.gnssMs := by
  unfold Dev.gnssMs
  rw [Dev.lead_congr hh hw, Dev.count_congr ht]

theorem redPg_ne_gnfB (h : Half) (hb : b < 4) {o : Nat} (ho : o < 0x100) : redPg h + Reg.RED.RSTAT_HJOIN.off ≠ gnfB b + o := by
  rw [gnfB_eq]
  unfold redPg pageAddr Page.code
  dsimp only
  omega

theorem dropNoted_ms (hb : b < 4) (n : Nat) : (d.dropNoted b n).gnssMs = d.gnssMs :=
  gnssMs_congr ((dropNoted_keeps Dev.tbs (fun _ _ _ => rfl) n).trans (dropCounted_tbs n))
    ((dropNoted_keeps Dev.half (fun _ _ _ => rfl) n).trans (dropCounted_half n))
    fun h => (dropNoted_keeps (fun e => e.w _) (fun _ _ _ => rfl) n).trans (dropCounted_w (redPg_ne_gnfB h hb (by decide)))

theorem dropNoted_acq (n : Nat) : (d.dropNoted b n).acq = d.acq := (dropNoted_keeps Dev.acq (fun _ _ _ => rfl) n).trans (dropCounted_acq n)

theorem dropNoted_drop (hb : b < 4) (n : Nat) {c : Nat} (hc : c < 256) (h1 : d.chBand c = b) (h2 : 1 ≤ d.chState c) (h3 : d.chState c ≤ 3) :
    ((d.dropNoted b n).chan c).drop = true := by
  obtain ⟨-, ho⟩ := onBand_of_w (d := d) (e := d.dropCounted b n) (b := b) (states := [1, 2, 3]) (c := c) fun o =>
    dropCounted_w (gntC_ne_gnf c o (gnfB_lt hb (by decide)))
  refine Dev.bandChans_at (fun e => (e.chan c).drop) hc (ho.trans (onBand_tracks.2 ⟨h1, h2, h3⟩)) (fun i e _ => ⟨rfl, rfl⟩) (fun e => ?_) fun i e hi => ?_
  · exact congrArg ChanSt.drop (e.chan_setChan_same c _)
  · exact congrArg ChanSt.drop (e.chan_setChan_ne (Ne.symm hi) _)

/-- What dropped samples leave, after the channels have noted them. -/
theorem dropStopped_keeps {α : Type} {g : Dev → α} (ha : ∀ d v, g (Dev.setAcq d v) = g d) (hs : SnapBlind g) (n : Nat) :
    g (((d.dropNoted b n).acqLost b).snapBandStop b true) = g (d.dropNoted b n) := (hs.snapBandStop _ _ _).trans (acqLost_keeps ha _ _)

theorem gnf_ne_gna {k : Nat} (hk : k < 0x10000) : gnfPg + k ≠ gnaPg := by
  show 0x200000 + 0 * 0x8000 + 0 * 0x1000 + k ≠ 0x210000 + 0 * 0x8000 + 0 * 0x1000
  omega

/-! ### Levels -/

/-- DUTY after a level has been measured (R226). -/
def Dev.dutyMoved (d : Dev) (b level : Nat) : Nat :=
  let want := d.g (gnfB b) Reg.GNF.AGC_TARGET
  let duty := d.g (gnfB b) Reg.GNF.BSTAT_DUTY
  let tc := min 10 (d.g (gnfB b) Reg.GNF.AGC_TC)
  if level < want then min 1023 (duty + Config.agcStep (want - level) tc) else duty - Config.agcStep (level - want) tc

theorem agcUpdated_eq {samples : List Byte} (h1 : d.bandOn b = true) (h2 : d.gnssOn = true) (h3 : samples ≠ []) :
    agcUpdated b samples d = if !(d.en gnfPg (gnfB b) Reg.GNF.BCFG_AGC_EN) || d.levelOf b samples == d.g (gnfB b) Reg.GNF.AGC_TARGET then
      d.p (gnfB b) Reg.GNF.JLVL_LEVEL (d.levelOf b samples)
    else (d.p (gnfB b) Reg.GNF.JLVL_LEVEL (d.levelOf b samples)).p (gnfB b) Reg.GNF.BSTAT_DUTY (d.dutyMoved b (d.levelOf b samples)) := by
  unfold agcUpdated
  rw [if_neg (by simp [h1, h2, h3])]
  rfl

theorem agcUpdated_stays {samples : List Byte} (h : d.bandOn b = false ∨ d.gnssOn = false ∨ samples = []) : agcUpdated b samples d = d := by
  refine if_pos ?_
  rcases h with h | h | h <;> simp [h]

theorem levelOf_lt (samples : List Byte) : d.levelOf b samples < 2 ^ 10 := Nat.lt_of_le_of_lt (Nat.min_le_left ..) (by decide)

theorem dutyMoved_lt (level : Nat) : d.dutyMoved b level < 2 ^ 10 := by
  have h : d.g (gnfB b) Reg.GNF.BSTAT_DUTY < 2 ^ 10 := d.g_lt _ _
  unfold Dev.dutyMoved
  dsimp only
  split_ifs
  · omega
  · omega

/-! ### Jamming -/

/-- The seconds kept of a band's power, a new one first (R227). -/
def Dev.jamSecs (d : Dev) (b : Nat) (second : Option (List Byte)) : List ((Nat × Nat) × Nat) :=
  match second with
  | some l => ((d.bandPower b l, d.g (gnfB b) Reg.GNF.BSTAT_DUTY) :: (d.band b).secs).take 60
  | none => (d.band b).secs

/-- What a JN means for a band. -/
def Dev.jamShown (d : Dev) (b : Nat) (jn : Int) (st : BandSt) (calm : Bool) : Dev :=
  (((d.p (gnfB b) Reg.GNF.JLVL_JN (unsignedOf 16 (clampInt (-32768) 32767 jn))).setBand b st).pb (gnfB b) Reg.GNF.BSTAT_JAM_WARN
    (decide (((25 * d.g (gnfB b) Reg.GNF.JAM_JTHR : Nat) : Int) ≤ jn) || (d.gb (gnfB b) Reg.GNF.BSTAT_JAM_WARN && !calm))).raiseIf
    (decide (((25 * d.g (gnfB b) Reg.GNF.JAM_JTHR : Nat) : Int) ≤ jn) && !(d.gb (gnfB b) Reg.GNF.BSTAT_JAM_WARN)) gnfPg (4 * b + 1)

theorem jamUpdated_shows {samples : List Byte} {second : Option (List Byte)} (h1 : d.bandOn b = true) (h2 : d.gnssOn = true) (h3 : samples ≠ []) :
    ∃ jn st calm, jamUpdated b samples second d = d.jamShown b jn st calm ∧ st.secs = d.jamSecs b second := by
  unfold jamUpdated
  rw [if_neg (by simp [h1, h2, h3])]
  exact ⟨_, _, _, rfl, rfl⟩

theorem jamUpdated_stays {samples : List Byte} {second : Option (List Byte)} (h : d.bandOn b = false ∨ d.gnssOn = false ∨ samples = []) :
    jamUpdated b samples second d = d := by
  refine if_pos ?_
  rcases h with h | h | h <;> simp [h]

theorem Dev.band_setBand (v : BandSt) : (d.setBand b v).band b = v := Tab.get_set_same (fun _ => ({} : BandSt)) _ _ _

theorem Dev.band_congr {e : Dev} (h : e.bands = d.bands) : e.band b = d.band b := by
  unfold Dev.band
  rw [h]

theorem Dev.g_setBand (v : BandSt) (x : Nat) (f : Fld) : (d.setBand b v).g x f = d.g x f := rfl

theorem Dev.g_raiseIf (x : Bool) (pg k o : Nat) (f : Fld) : (d.raiseIf x pg k).g o f = d.g o f := rfl

theorem Dev.raiseIf_bands (x : Bool) (pg k : Nat) : (d.raiseIf x pg k).bands = d.bands := rfl

/-- A 16-bit value read back as signed. -/
theorem signedOf_unsignedOf (x : Int) (h1 : -32768 ≤ x) (h2 : x ≤ 32767) : signedOf 16 (unsignedOf 16 x) = x := by
  unfold signedOf unsignedOf
  omega

variable {jn : Int} {st : BandSt} {calm : Bool}

theorem jamShown_jn : signedOf 16 ((d.jamShown b jn st calm).g (gnfB b) Reg.GNF.JLVL_JN) = clampInt (-32768) 32767 jn := by
  have hk := clampInt_mem (lo := -32768) (hi := 32767) (by decide) jn
  have hv : unsignedOf 16 (clampInt (-32768) 32767 jn) % 2 ^ 16 = unsignedOf 16 (clampInt (-32768) 32767 jn) := Nat.mod_eq_of_lt (unsignedOf_lt 16 _)
  unfold Dev.jamShown
  rw [Dev.g_raiseIf]
  refine (congrArg (signedOf 16) ?_).trans (signedOf_unsignedOf _ hk.1 hk.2)
  refine (Dev.g_p_apart _ _ _ (by decide) (by decide)).trans ?_
  rw [Dev.g_setBand, Dev.g_p_same _ _ _ _ (by decide)]
  exact hv

theorem jamShown_warn : (d.jamShown b jn st calm).gb (gnfB b) Reg.GNF.BSTAT_JAM_WARN =
    (decide (((25 * d.g (gnfB b) Reg.GNF.JAM_JTHR : Nat) : Int) ≤ jn) || (d.gb (gnfB b) Reg.GNF.BSTAT_JAM_WARN && !calm)) := by
  unfold Dev.jamShown
  rw [Dev.gb_raiseIf, Dev.gb_pb_same _ _ _ _ (by decide) (by decide)]

theorem jamShown_band : (d.jamShown b jn st calm).band b = st := by
  unfold Dev.jamShown
  rw [Dev.band_congr ((Dev.raiseIf_bands _ _ _).trans (Dev.pb_bands _ _ _ _)), Dev.band_setBand]

/-- The device with the bands' engines put aside. -/
def Dev.withBands (d : Dev) (x : Tab BandSt) : Dev := { d with bands := x }

theorem jamShown_touches : d.touches ((d.jamShown b jn st calm).withBands d.bands) [gnfB b + 0x14, gnfB b + 0x18] [gnfPg + (4 * b + 1)] := by
  have h0 : d.touches (d.withBands d.bands) [gnfB b + 0x14, gnfB b + 0x18] [gnfPg + (4 * b + 1)] := .refl d _ _
  have h14 : gnfB b + 0x14 ∈ [gnfB b + 0x14, gnfB b + 0x18] := List.mem_cons_self ..
  have h18 : gnfB b + 0x18 ∈ [gnfB b + 0x14, gnfB b + 0x18] := List.mem_cons_of_mem _ (List.mem_singleton_self _)
  unfold Dev.jamShown
  exact (((h0.p (f := Reg.GNF.JLVL_JN) h18 _).pb (f := Reg.GNF.BSTAT_JAM_WARN) h14 _).raiseIf (List.mem_singleton_self _) _)

end

theorem State.onlyTouches_withBands {s : State} {e : Dev} {ws es : List Nat} (ht : s.dev.touches (e.withBands s.dev.bands) ws es) :
    s.onlyTouches { s.withDev e with dev := { (s.withDev e).dev with bands := s.dev.bands } } ws es := ht.onlyTouches

/-- Settles O43: a channel's state is its own, so a loop over a band's channels moves exactly those of the band; the end of a job and
of a capture show in neither; levels are clamped to their fields. -/
theorem bandsFollowTheirClocksAndLevels : Obligations.BandsFollowTheirClocksAndLevels := by
  unfold Obligations.BandsFollowTheirClocksAndLevels
  refine ⟨fun b s h1 h2 h3 => ?_, fun b s h => next_onDev (f := bandClkLost b.val) (d := s.dev) (bandClkLost_stays s.dev b.val h),
    fun b x s h1 h2 h3 h4 h5 h6 => ?_, fun b edges s h => next_onDev (f := bandClkOk b.val edges) (d := s.dev) (bandClkOk_stays s.dev b.val h),
    fun b n s h1 h2 h3 => ?_, fun b n s h => next_onDev (f := bandFifoDropped b.val n) (d := s.dev) (bandFifoDropped_stays h),
    fun b samples s h1 h2 h3 => ?_, fun b samples second s h => ⟨?_, ?_⟩, fun b samples second s h1 h2 h3 => ?_⟩
  · have hb := b.isLt
    refine ⟨s.withDev ((s.dev.clkGone b.val).bandStopped b.val 4 false), next_onDev (f := bandClkLost b.val) (bandClkLost_eq s.dev b.val h1 h2 h3),
      ?_, ?_, fun c hc => ?_, ?_, s.keepsRest_withDev _⟩
    · exact (Dev.gb_of_w (f := Reg.GNF.BSTAT_CLK_OK) (o := 0x14) ((bandStopped_keeps (acqBlind_w _) (snapBlind_w (gnfB_ne_snap hb (by decide))) 4 false).trans
        (clkGone_keeps fun c _ => chanBlind_w (chanApart_gnfB hb (by decide))))).trans clkDown_ok
    · exact (bandStopped_keeps (acqBlind_evt (gnf_ne_gna (by omega))) (snapBlind_evt _ _) 4 false).trans
        ((clkGone_keeps fun c _ => chanBlind_evt (chan_ne_gnf (by omega))).trans (clkDown_evt hb))
    · exact (bandStopped_state 4 false hc).trans (clkGone_state hb hc)
    · exact (bandStopped_keeps acqBlind_tbs snapBlind_tbs 4 false).trans ((clkGone_keeps fun c _ => chanBlind_tbs c).trans clkDown_tbs)
  · have hb := b.isLt
    refine ⟨s.withDev (s.dev.clkBack b.val), next_onDev (f := bandClkOk b.val true) (bandClkOk_back s.dev b.val h1 h2 h3 h4 h5 h6),
      ?_, fun c hc => ?_, ?_, s.keepsRest_withDev _⟩
    · rw [State.withDev_dev, clkBack_ok hb]
    · rw [State.withDev_dev, clkBack_state hb hc]
    · rw [State.withDev_dev]
      exact (clkBack_keeps fun c _ => chanBlind_tbs c).trans (s.dev.pb_tbs _ _ _)
  · have hb := b.isLt
    refine ⟨s.withDev (((s.dev.dropNoted b.val n).acqLost b.val).snapBandStop b.val true),
      next_onDev (f := bandFifoDropped b.val n) (bandFifoDropped_eq h1 h2 h3), ?_, ?_, fun c hc h4 h5 h6 => ?_, fun r h4 h5 h6 => ?_, fun c hc => ?_,
      ?_, s.keepsRest_withDev _⟩
    · exact (Dev.g_of_w (f := Reg.GNF.DROPS) (o := 0x1C) ((dropStopped_keeps (fun _ _ => rfl) (snapBlind_w (gnfB_ne_snap hb (by decide))) n).trans
        (dropNoted_keeps (fun e => e.w _) (fun _ _ _ => rfl) n))).trans (dropCounted_drops n)
    · exact (dropStopped_keeps (fun _ _ => rfl) (snapBlind_evt _ _) n).trans ((dropNoted_keeps (fun e => e.evt _ _) (fun _ _ _ => rfl) n).trans
        (dropCounted_evt hb n))
    · exact (congrArg ChanSt.drop (dropStopped_keeps (g := fun e => e.chan c) (fun _ _ => rfl) (snapBlind_chan c) n)).trans
        (dropNoted_drop hb n hc h4 h5 h6)
    · have hm := dropNoted_ms (d := s.dev) hb n
      obtain ⟨q, hq, hl⟩ := acqLost_run (d := s.dev.dropNoted b.val n) (by rw [dropNoted_acq, h4]) h5 (by rw [hm]; exact h6)
      rw [hm] at hl
      exact ⟨q, (congrArg AcqSt.run (snapBlind_acq.snapBandStop _ _ _)).trans hq, hl⟩
    · exact Dev.chState_of_w ((dropStopped_keeps (g := fun e => e.w (gntC c + 0xC)) (fun _ _ => rfl)
        (snapBlind_w (gntC_ne_snap hc (by decide))) n).trans ((dropNoted_keeps (fun e => e.w _) (fun _ _ _ => rfl) n).trans
        (dropCounted_w (gntC_ne_gnf c _ (gnfB_lt hb (by decide))))))
    · exact (dropStopped_keeps (fun _ _ => rfl) snapBlind_tbs n).trans ((dropNoted_keeps Dev.tbs (fun _ _ _ => rfl) n).trans (dropCounted_tbs n))
  · intro level want duty tc
    have hl := levelOf_lt (d := s.dev) (b := b.val) samples
    have he := agcUpdated_eq h1 h2 h3
    have h14 : gnfB b.val + 0x14 ∈ [gnfB b.val + 0x14, gnfB b.val + 0x18] := List.mem_cons_self ..
    have h18 : gnfB b.val + 0x18 ∈ [gnfB b.val + 0x14, gnfB b.val + 0x18] := List.mem_cons_of_mem _ (List.mem_singleton_self _)
    have hL : (s.dev.p (gnfB b.val) Reg.GNF.JLVL_LEVEL level).g (gnfB b.val) Reg.GNF.JLVL_LEVEL = level :=
      (s.dev.g_p_same _ _ _ (by decide)).trans (Nat.mod_eq_of_lt hl)
    have ht := Dev.touches.p (f := Reg.GNF.JLVL_LEVEL) (.refl s.dev [gnfB b.val + 0x14, gnfB b.val + 0x18] []) h18 level
    by_cases hc : s.dev.en gnfPg (gnfB b.val) Reg.GNF.BCFG_AGC_EN = false ∨ level = want
    · rw [if_pos (by
        rcases hc with hc | hc
        · simp [hc]
        · exact Bool.or_eq_true_iff.2 (.inr (beq_iff_eq.2 hc)))] at he
      refine ⟨s.withDev (s.dev.p (gnfB b.val) Reg.GNF.JLVL_LEVEL level), next_onDev (f := agcUpdated b.val samples) he, hL, ?_, ht.onlyTouches⟩
      rw [if_pos hc]
      exact Dev.g_p_apart _ _ _ (by decide) (by decide)
    · rw [if_neg (by simpa [level, want] using hc)] at he
      refine ⟨s.withDev ((s.dev.p (gnfB b.val) Reg.GNF.JLVL_LEVEL level).p (gnfB b.val) Reg.GNF.BSTAT_DUTY (s.dev.dutyMoved b.val level)),
        next_onDev (f := agcUpdated b.val samples) he, ?_, ?_, (ht.p (f := Reg.GNF.BSTAT_DUTY) h14 _).onlyTouches⟩
      · exact (Dev.g_p_apart _ _ _ (by decide) (by decide)).trans hL
      · rw [if_neg hc]
        exact (Dev.g_p_same _ _ _ _ (by decide)).trans (Nat.mod_eq_of_lt (dutyMoved_lt level))
  · exact next_onDev (f := agcUpdated b.val samples) (d := s.dev) (agcUpdated_stays h)
  · exact next_onDev (f := jamUpdated b.val samples second) (d := s.dev) (jamUpdated_stays h)
  · obtain ⟨jn, st, calm, he, hs⟩ := jamUpdated_shows (second := second) h1 h2 h3
    refine ⟨s.withDev (s.dev.jamShown b.val jn st calm), next_onDev (f := jamUpdated b.val samples second) he, fun hj => ?_, fun hn => ?_, fun l hl => ?_,
      State.onlyTouches_withBands jamShown_touches⟩
    · rw [State.withDev_dev, jamShown_jn] at hj
      have hle : ((25 * s.dev.g (gnfB b.val) Reg.GNF.JAM_JTHR : Nat) : Int) ≤ jn := by
        unfold clampInt at hj
        omega
      rw [State.withDev_dev, jamShown_warn, decide_eq_true hle]
      rfl
    · rw [State.withDev_dev, jamShown_band, hs, hn]
      rfl
    · rw [State.withDev_dev, jamShown_band, hs, hl]
      rfl

end Sys2Proof.Machine
end

section
/-! PROOF. O44: notches after a spectrum, and notch and band settings (R229, R230, R234, R237, R245). -/

namespace Sys2Proof.Machine

/-! ### Plain writes of low fields -/

/-- The low bits of a word that are all writable are the written ones. -/
theorem mergeWrite_low {a old v n : Nat} (hm : writeMask a = 2 ^ n - 1) (hn : n ≤ 32) : mergeWrite a old v % 2 ^ n = v % 2 ^ n := by
  have hp : (2 : Nat) ^ n ≤ 2 ^ 32 := Nat.pow_le_pow_right (by norm_num) hn
  refine Nat.eq_of_testBit_eq fun i => ?_
  rw [Nat.testBit_mod_two_pow, Nat.testBit_mod_two_pow, testBit_mergeWrite a (by rw [hm]; omega), hm, Nat.testBit_two_pow_sub_one]
  by_cases hi : i < n
  · simp [hi]
  · simp [hi]

theorem mergeWrite_full {a old v : Nat} (hm : writeMask a = 0xFFFFFFFF) (ho : old < 2 ^ 32) (hv : v < 2 ^ 32) : mergeWrite a old v = v := by
  have h := mergeWrite_low (old := old) (v := v) (n := 32) (hm.trans (by norm_num)) (by norm_num)
  rwa [Nat.mod_eq_of_lt (mergeWrite_lt a ho hv), Nat.mod_eq_of_lt hv] at h

/-! ### A notch -/

/-- An observation in which what a spectrum does with a notch does not show. -/
structure NotchBlind {α : Type} (g : Dev → α) (b k : Nat) : Prop where
  stat : ∀ d v, g (Dev.setw d (gnfN b k + 0xC) v) = g d
  band : ∀ d v, g (Dev.setBand d b v) = g d
  chan : ∀ d c v, g (Dev.setChan d c v) = g d

/-- A notch at a frequency, engaged or not. -/
def Dev.notchSet (d : Dev) (b k : Nat) (f : Int) (on : Bool) : Dev :=
  (d.p (gnfN b k) Reg.GNF.NSTAT_F_NOW (unsignedOf 24 f)).pb (gnfN b k) Reg.GNF.NSTAT_ENGAGED on

/-- The channels of a band note a change of its notches. -/
def Dev.notchFlagged (d : Dev) (b : Nat) : Dev := d.bandChans b [1, 2, 3, 4] fun c e => e.setChan c { e.chan c with notch := true }

theorem notchFlagged_keeps {α : Type} {g : Dev → α} (hg : ∀ d c v, g (Dev.setChan d c v) = g d) (d : Dev) (b : Nat) : g (d.notchFlagged b) = g d :=
  Dev.bandChans_keeps g fun c _ e => hg e c _

theorem notchMove_eq (d : Dev) (b k : Nat) (f : Int) (on : Bool) : d.notchMove b k f on =
    if d.g (gnfN b k) Reg.GNF.NSTAT_F_NOW = unsignedOf 24 f ∧ d.gb (gnfN b k) Reg.GNF.NSTAT_ENGAGED = on then d
    else (d.notchSet b k f on).notchFlagged b := rfl

section
variable {α : Type} {g : Dev → α} {b k : Nat} (hg : NotchBlind g b k) (d : Dev)
include hg

theorem NotchBlind.notchMove (f : Int) (on : Bool) : g (d.notchMove b k f on) = g d := by
  rw [notchMove_eq]
  exact keeps_ite (g := g) rfl ((notchFlagged_keeps hg.chan _ _).trans ((hg.stat _ _).trans (hg.stat _ _)))

theorem NotchBlind.notchFollow (bins : List (Nat × Nat)) (med : Nat) : g (d.notchFollow b bins med k) = g d := by
  unfold Dev.notchFollow
  refine keeps_ite (g := g) rfl ?_
  dsimp only
  split
  · exact keeps_ite (g := g) ((hg.notchMove _ _ _).trans (hg.band _ _)) (hg.band _ _)
  · exact (hg.notchMove _ _ _).trans (hg.band _ _)
  · exact hg.band _ _

theorem NotchBlind.notchTake (bins : List (Nat × Nat)) (med : Nat) : g (d.notchTake b bins med k) = g d := by
  unfold Dev.notchTake
  refine keeps_ite (g := g) rfl ?_
  dsimp only
  split
  · exact hg.notchMove _ _ _
  · rfl

end

theorem gnfN_eq (b k : Nat) : gnfN b k = 0x200140 + 0x100 * b + 0x10 * k := by
  unfold gnfN
  rw [gnfB_eq]
  omega

theorem notchBlind_w {b k a : Nat} (h : a ≠ gnfN b k + 0xC) : NotchBlind (fun d => d.w a) b k :=
  ⟨fun d _ => (d.w_setw _ _ _).trans (if_neg h), fun _ _ => rfl, fun _ _ _ => rfl⟩

theorem notchBlind_tbs (b k : Nat) : NotchBlind Dev.tbs b k := ⟨fun _ _ => rfl, fun _ _ => rfl, fun _ _ _ => rfl⟩

section
variable {d : Dev} {b k : Nat} {f : Int} {on : Bool}

theorem unsignedOf_mod (w : Nat) (v : Int) : unsignedOf w v % 2 ^ w = unsignedOf w v := Nat.mod_eq_of_lt (unsignedOf_lt w v)

theorem notchSet_at : (d.notchSet b k f on).g (gnfN b k) Reg.GNF.NSTAT_F_NOW = unsignedOf 24 f ∧
    (d.notchSet b k f on).gb (gnfN b k) Reg.GNF.NSTAT_ENGAGED = on := by
  unfold Dev.notchSet
  constructor
  · refine (Dev.g_p_apart _ _ _ (by decide) (by decide)).trans ?_
    rw [Dev.g_p_same _ _ _ _ (by decide)]
    exact unsignedOf_mod 24 f
  · exact Dev.gb_pb_same _ _ _ _ (by decide) (by decide)

theorem notch_of_w {d e : Dev} (h : e.w (gnfN b k + 0xC) = d.w (gnfN b k + 0xC)) :
    e.g (gnfN b k) Reg.GNF.NSTAT_F_NOW = d.g (gnfN b k) Reg.GNF.NSTAT_F_NOW ∧
      e.gb (gnfN b k) Reg.GNF.NSTAT_ENGAGED = d.gb (gnfN b k) Reg.GNF.NSTAT_ENGAGED :=
  ⟨Dev.g_of_w (o := 0xC) h, Dev.gb_of_w (o := 0xC) h⟩

/-- A notch that moves stands where it has moved. -/
theorem notchMove_at : (d.notchMove b k f on).g (gnfN b k) Reg.GNF.NSTAT_F_NOW = unsignedOf 24 f ∧
    (d.notchMove b k f on).gb (gnfN b k) Reg.GNF.NSTAT_ENGAGED = on := by
  rw [notchMove_eq]
  split_ifs with hc
  · exact hc
  · obtain ⟨h1, h2⟩ := notch_of_w (b := b) (k := k) (notchFlagged_keeps (g := fun e => e.w (gnfN b k + 0xC)) (fun _ _ _ => rfl) (d.notchSet b k f on) b)
    obtain ⟨h3, h4⟩ := notchSet_at (d := d) (b := b) (k := k) (f := f) (on := on)
    exact ⟨h1.trans h3, h2.trans h4⟩

end

/-! ### What an average reads -/

/-- The bins that a notch covers in its range. -/
def Dev.ownBins (d : Dev) (b k : Nat) (bins : List (Nat × Nat)) : List (Nat × Nat) :=
  bins.filter fun y => d.notchCovers b k (binFreq y.1) && d.notchRange b k (binFreq y.1)

/-- The peaks that no notch of a band covers, in a notch's range. -/
def Dev.openBins (d : Dev) (b k : Nat) (bins : List (Nat × Nat)) (med : Nat) : List (Nat × Nat) :=
  bins.filter fun y => exceeds y.2 med (d.g (gnfB b) Reg.GNF.JAM_DET) && d.notchRange b k (binFreq y.1)
    && !((List.range 8).any fun j => d.notchCovers b j (binFreq y.1))

section
variable {d e : Dev} {b k : Nat}

theorem notchAt_congr (hw : ∀ o < 0x10, e.w (gnfN b k + o) = d.w (gnfN b k + o)) : e.notchAt b k = d.notchAt b k := by
  have h0 : e.g (gnfN b k) Reg.GNF.NCFG_MODE = d.g (gnfN b k) Reg.GNF.NCFG_MODE := Dev.g_of_w (o := 0) (hw 0 (by decide))
  have h4 : e.g (gnfN b k) Reg.GNF.NFREQ = d.g (gnfN b k) Reg.GNF.NFREQ := Dev.g_of_w (o := 4) (hw 4 (by decide))
  obtain ⟨hf, he⟩ := notch_of_w (b := b) (k := k) (hw 0xC (by decide))
  unfold Dev.notchAt
  dsimp only
  rw [h0, h4, hf, he]

theorem notchCovers_congr (hs : e.w (gnfB b + 8) = d.w (gnfB b + 8)) (hw : ∀ o < 0x10, e.w (gnfN b k + o) = d.w (gnfN b k + o)) (f : Int) :
    e.notchCovers b k f = d.notchCovers b k f := by
  have h8 : e.g (gnfB b) Reg.GNF.SRATE = d.g (gnfB b) Reg.GNF.SRATE := Dev.g_of_w (o := 8) hs
  have h0 : e.g (gnfN b k) Reg.GNF.NCFG_WIDTH = d.g (gnfN b k) Reg.GNF.NCFG_WIDTH := Dev.g_of_w (o := 0) (hw 0 (by decide))
  unfold Dev.notchCovers
  rw [notchAt_congr hw, h8, h0]

theorem notchRange_congr (hw : ∀ o < 0x10, e.w (gnfN b k + o) = d.w (gnfN b k + o)) (f : Int) : e.notchRange b k f = d.notchRange b k f := by
  have h4 : e.g (gnfN b k) Reg.GNF.NFREQ = d.g (gnfN b k) Reg.GNF.NFREQ := Dev.g_of_w (o := 4) (hw 4 (by decide))
  have h8 : e.g (gnfN b k) Reg.GNF.NRANGE = d.g (gnfN b k) Reg.GNF.NRANGE := Dev.g_of_w (o := 8) (hw 8 (by decide))
  unfold Dev.notchRange
  dsimp only
  rw [h4, h8]

theorem ownBins_congr (hs : e.w (gnfB b + 8) = d.w (gnfB b + 8)) (hw : ∀ o < 0x10, e.w (gnfN b k + o) = d.w (gnfN b k + o))
    (bins : List (Nat × Nat)) : e.ownBins b k bins = d.ownBins b k bins := by
  unfold Dev.ownBins
  refine List.filter_congr fun y _ => ?_
  rw [notchCovers_congr hs hw, notchRange_congr hw]

end

/-! ### An average -/

section
variable {d : Dev} {b k med : Nat} {bins : List (Nat × Nat)} {x : Nat × Nat}

/-- An engaged notch with a peak that is strong enough moves to it. -/
theorem notchFollow_moves (hm : d.g (gnfN b k) Reg.GNF.NCFG_MODE = 2) (he : d.gb (gnfN b k) Reg.GNF.NSTAT_ENGAGED = true)
    (hx : strongest (d.ownBins b k bins) = some x) (hl : exceeds x.2 med ((d.g (gnfB b) Reg.GNF.JAM_DET : Int) - 12) = true) :
    ∃ v, d.notchFollow b bins med k = (d.setBand b v).notchMove b k (binFreq x.1) true := by
  unfold Dev.ownBins at hx
  unfold Dev.notchFollow
  rw [if_neg (by simp [hm, he])]
  dsimp only
  rw [hx]
  split
  case h_1 hs => simp [hl] at hs
  case h_2 h => exact ⟨_, by rw [Option.some.inj h]⟩
  case h_3 h => exact absurd h (by simp)

theorem notchFollow_free (he : d.gb (gnfN b k) Reg.GNF.NSTAT_ENGAGED = false) : d.notchFollow b bins med k = d := if_pos (by simp [he])

theorem notchTake_engaged (he : d.gb (gnfN b k) Reg.GNF.NSTAT_ENGAGED = true) : d.notchTake b bins med k = d := if_pos (by simp [he])

theorem notchTake_takes (hm : d.g (gnfN b k) Reg.GNF.NCFG_MODE = 2) (he : d.gb (gnfN b k) Reg.GNF.NSTAT_ENGAGED = false)
    (hx : strongest (d.openBins b k bins med) = some x) : d.notchTake b bins med k = d.notchMove b k (binFreq x.1) true := by
  unfold Dev.openBins at hx
  unfold Dev.notchTake
  rw [if_neg (by simp [hm, he])]
  dsimp only
  rw [hx]

/-- The notches of a band after an average. -/
def Dev.notchesMoved (d : Dev) (b : Nat) (bins : List (Nat × Nat)) (med : Nat) : Dev :=
  (d.each 8 fun k e => e.notchFollow b bins med k).each 8 fun k e => e.notchTake b bins med k

theorem notchesMoved_keeps {α : Type} {g : Dev → α} (hg : ∀ k < 8, NotchBlind g b k) : g (d.notchesMoved b bins med) = g d :=
  (Dev.each_keeps g 8 _ _ fun k hk e => (hg k hk).notchTake e bins med).trans (Dev.each_keeps g 8 _ _ fun k hk e => (hg k hk).notchFollow e bins med)

/-- A notch that stands at a frequency and is engaged. -/
def Dev.notchStands (d : Dev) (b k : Nat) (f : Int) : Prop :=
  d.gb (gnfN b k) Reg.GNF.NSTAT_ENGAGED = true ∧ d.g (gnfN b k) Reg.GNF.NSTAT_F_NOW = unsignedOf 24 f

theorem notchStands_congr {e : Dev} {f : Int} (h : e.w (gnfN b k + 0xC) = d.w (gnfN b k + 0xC)) (hd : d.notchStands b k f) : e.notchStands b k f := by
  obtain ⟨h1, h2⟩ := notch_of_w h
  exact ⟨h2.trans hd.1, h1.trans hd.2⟩

theorem notch_apart {i : Nat} (hi : i ≠ k) {o : Nat} (ho : o < 0x10) : NotchBlind (fun d => d.w (gnfN b k + o)) b i :=
  notchBlind_w (by rw [gnfN_eq, gnfN_eq]; omega)

theorem notch_apart_band (i : Nat) : NotchBlind (fun d => d.w (gnfB b + 8)) b i :=
  notchBlind_w (by rw [gnfN_eq, gnfB_eq]; omega)

theorem notch_apart_jam (i : Nat) : NotchBlind (fun d => d.w (gnfB b + 0x10)) b i :=
  notchBlind_w (by rw [gnfN_eq, gnfB_eq]; omega)

theorem notchTakes_stand {e : Dev} {f : Int} (he : e.notchStands b k f) : (e.each 8 fun k e => e.notchTake b bins med k).notchStands b k f := by
  refine Dev.each_ind (P := fun e => e.notchStands b k f) he fun i _ x hx => ?_
  by_cases hi : i = k
  · subst hi
    rw [notchTake_engaged hx.1]
    exact hx
  · exact notchStands_congr ((notch_apart hi (by decide)).notchTake x bins med) hx

/-- An engaged notch whose peak is strong enough stands at it after the average. -/
theorem notchesMoved_follow (hk : k < 8) (hm : d.g (gnfN b k) Reg.GNF.NCFG_MODE = 2) (he : d.gb (gnfN b k) Reg.GNF.NSTAT_ENGAGED = true)
    (hx : strongest (d.ownBins b k bins) = some x) (hl : exceeds x.2 med ((d.g (gnfB b) Reg.GNF.JAM_DET : Int) - 12) = true) :
    (d.notchesMoved b bins med).notchStands b k (binFreq x.1) := by
  refine notchTakes_stand ?_
  refine Dev.each_own (j := k) (f := fun k e => e.notchFollow b bins med k)
    (Q := fun e => (∀ o < 0x10, e.w (gnfN b k + o) = d.w (gnfN b k + o)) ∧ e.w (gnfB b + 8) = d.w (gnfB b + 8) ∧
      e.w (gnfB b + 0x10) = d.w (gnfB b + 0x10)) (R := fun e => e.notchStands b k (binFreq x.1)) ⟨fun _ _ => rfl, rfl, rfl⟩ ?_ ?_ hk ?_
  · rintro i hi e ⟨h1, h2, h3⟩
    exact ⟨fun o ho => ((notch_apart (by omega) ho).notchFollow e bins med).trans (h1 o ho), ((notch_apart_band i).notchFollow e bins med).trans h2,
      ((notch_apart_jam i).notchFollow e bins med).trans h3⟩
  · rintro e ⟨h1, h2, h3⟩
    obtain ⟨-, h4⟩ := notch_of_w (b := b) (k := k) (h1 0xC (by decide))
    have hd : e.g (gnfB b) Reg.GNF.JAM_DET = d.g (gnfB b) Reg.GNF.JAM_DET := Dev.g_of_w (o := 0x10) h3
    obtain ⟨v, hv⟩ := notchFollow_moves (d := e) (b := b) (k := k) (bins := bins) (med := med) (x := x)
      ((Dev.g_of_w (f := Reg.GNF.NCFG_MODE) (o := 0) (h1 0 (by decide))).trans hm) (h4.trans he) ((congrArg strongest (ownBins_congr h2 h1 bins)).trans hx)
      (by rw [hd]; exact hl)
    rw [hv]
    obtain ⟨h5, h6⟩ := notchMove_at (d := e.setBand b v) (b := b) (k := k) (f := binFreq x.1) (on := true)
    exact ⟨h6, h5⟩
  · intro i _ hi e hs
    exact notchStands_congr ((notch_apart (by omega) (by decide)).notchFollow e bins med) hs

/-- The first notch of a band with none engaged stands at the strongest peak of its range after the average. -/
theorem notchesMoved_take (hn : ∀ k < 8, d.gb (gnfN b k) Reg.GNF.NSTAT_ENGAGED = false) (hm : d.g (gnfN b 0) Reg.GNF.NCFG_MODE = 2)
    (hx : strongest (d.openBins b 0 bins med) = some x) : (d.notchesMoved b bins med).notchStands b 0 (binFreq x.1) := by
  have h1 : (d.each 8 fun k e => e.notchFollow b bins med k) = d := by
    refine Dev.each_ind (P := fun e => e = d) rfl fun i hi e he => ?_
    rw [he]
    exact notchFollow_free (hn i hi)
  unfold Dev.notchesMoved
  rw [h1]
  refine Dev.each_own (j := 0) (Q := fun e => e = d) (R := fun e => e.notchStands b 0 (binFreq x.1)) rfl (fun i hi => absurd hi (Nat.not_lt_zero i)) ?_
    (by decide) ?_
  · rintro e rfl
    rw [notchTake_takes hm (hn 0 (by decide)) hx]
    obtain ⟨h5, h6⟩ := notchMove_at (d := e) (b := b) (k := 0) (f := binFreq x.1) (on := true)
    exact ⟨h6, h5⟩
  · intro i _ hi e hs
    exact notchStands_congr ((notch_apart (by omega) (by decide)).notchTake e bins med) hs

/-- What an average shows of its band after the notches. -/
def Dev.notchFullShown (d : Dev) (b : Nat) (st : BandSt) (full new : Bool) : Dev :=
  ((d.setBand b st).pb (gnfB b) Reg.GNF.BSTAT_NOTCH_FULL full).raiseIf new gnfPg (4 * b + 2)

theorem spectrumAveraged_eq {sps : List (List Nat)} (h1 : d.bandOn b = true) (h2 : d.gnssOn = true) (h3 : sps.length = 16)
    (h4 : ∀ l ∈ sps, l.length = 1024) : ∃ st full new, spectrumAveraged b sps d =
      (d.notchesMoved b ((List.range 1024).zip (spectrumSum sps)) (medianBin (spectrumSum sps))).notchFullShown b st full new := by
  have h5 : (sps.all fun l => l.length == 1024) = true := List.all_eq_true.2 fun l hl => beq_iff_eq.2 (h4 l hl)
  unfold spectrumAveraged
  rw [if_neg (by simp [h1, h2, h3, h5])]
  exact ⟨_, _, _, rfl⟩

theorem spectrumAveraged_stays {sps : List (List Nat)} (h : d.bandOn b = false ∨ d.gnssOn = false ∨ sps.length ≠ 16 ∨
    ∃ l ∈ sps, l.length ≠ 1024) : spectrumAveraged b sps d = d := by
  refine if_pos ?_
  rcases h with h | h | h | ⟨l, hl, hne⟩
  · simp [h]
  · simp [h]
  · simp [h]
  · have : (sps.all fun l => l.length == 1024) = false := List.all_eq_false.2 ⟨l, hl, by simp [hne]⟩
    simp [this]

theorem notchFullShown_w {st : BandSt} {full new : Bool} {a : Nat} (h : a ≠ gnfB b + 0x14) : (d.notchFullShown b st full new).w a = d.w a := by
  unfold Dev.notchFullShown
  rw [Dev.w_raiseIf, Dev.w_pb_ne (f := Reg.GNF.BSTAT_NOTCH_FULL) _ _ h, Dev.setBand_w]

theorem notchFullShown_tbs {st : BandSt} {full new : Bool} : (d.notchFullShown b st full new).tbs = d.tbs := by
  unfold Dev.notchFullShown
  rw [Dev.raiseIf_tbs, Dev.pb_tbs]
  rfl

theorem notchesMoved_state (hb : b < 4) (c : Nat) : (d.notchesMoved b bins med).chState c = d.chState c :=
  Dev.chState_of_w (notchesMoved_keeps fun k hk => notchBlind_w (by rw [gntC_eq, gnfN_eq]; omega))

end

end Sys2Proof.Machine
end

section
/-! PROOF. O44, continued: written notches and band settings (R230, R234, R237, R245). -/

namespace Sys2Proof.Machine

/-! ### A written notch -/

section
variable (d : Dev) (b k o v : Nat)

/-- A register of a notch as it is written. -/
def Dev.notchPut (d : Dev) (b k o v : Nat) : Dev := d.setw (gnfN b k + o) (mergeWrite (gnfN b k + o) (d.w (gnfN b k + o)) v)

/-- An adaptive notch whose peak stays in its range keeps it. -/
def Dev.notchKeeps (d : Dev) (b k : Nat) : Bool :=
  d.g (gnfN b k) Reg.GNF.NCFG_MODE == 2 && d.gb (gnfN b k) Reg.GNF.NSTAT_ENGAGED
    && d.notchRange b k (signedOf 24 (d.g (gnfN b k) Reg.GNF.NSTAT_F_NOW))

/-- A notch that releases its peak. -/
def Dev.notchFreed (d : Dev) (b k : Nat) : Dev :=
  (d.pb (gnfN b k) Reg.GNF.NSTAT_ENGAGED false).setBand b { d.band b with lowAt := (d.band b).lowAt.erase k }

/-- A fixed notch stands where it is set. -/
def Dev.notchFixed (d e : Dev) (b k : Nat) : Dev :=
  if d.g (gnfN b k) Reg.GNF.NCFG_MODE = 1 then e.p (gnfN b k) Reg.GNF.NSTAT_F_NOW (d.g (gnfN b k) Reg.GNF.NFREQ) else e

/-- A notch after its register has been written. -/
def Dev.notchTuned (d : Dev) (b k : Nat) : Dev := d.notchFixed (if d.notchKeeps b k then d else d.notchFreed b k) b k

theorem notchWritten_eq : notchWritten b k o v d = if (d.notchPut b k o v).w (gnfN b k + o) = d.w (gnfN b k + o) then
    (d.notchPut b k o v).notchTuned b k else ((d.notchPut b k o v).notchTuned b k).notchFlagged b := by
  unfold notchWritten Dev.notchTuned Dev.notchFixed Dev.notchKeeps Dev.notchFreed Dev.notchPut Dev.notchFlagged
  rfl

/-- The device with the channels' and the bands' engines put aside. -/
def Dev.withGnss (d : Dev) (x : Tab ChanSt) (y : Tab BandSt) : Dev := { d with chans := x, bands := y }

variable {d b k o v}

/-- What neither the bands' engines nor the notch's status word shows, the new setting leaves. -/
theorem notchTuned_keeps {α : Type} {g : Dev → α} (hs : ∀ d v, g (Dev.setw d (gnfN b k + 0xC) v) = g d)
    (hb : ∀ d v, g (Dev.setBand d b v) = g d) (d : Dev) : g (d.notchTuned b k) = g d := by
  have h1 : g (if d.notchKeeps b k then d else d.notchFreed b k) = g d := keeps_ite (g := g) rfl ((hb _ _).trans (hs _ _))
  unfold Dev.notchTuned
  generalize (if d.notchKeeps b k then d else d.notchFreed b k) = e at h1
  exact (keeps_ite (g := g) (hs _ _) rfl).trans h1

theorem notchTuned_w {a : Nat} (h : a ≠ gnfN b k + 0xC) : (d.notchTuned b k).w a = d.w a :=
  notchTuned_keeps (g := fun e => e.w a) (fun d _ => (d.w_setw _ _ _).trans (if_neg h)) (fun _ _ => rfl) d

theorem notchFixed_engaged (e : Dev) : (d.notchFixed e b k).gb (gnfN b k) Reg.GNF.NSTAT_ENGAGED = e.gb (gnfN b k) Reg.GNF.NSTAT_ENGAGED :=
  keeps_ite (g := fun x : Dev => x.gb (gnfN b k) Reg.GNF.NSTAT_ENGAGED) (Dev.gb_p_apart _ _ _ (by decide) (by decide)) rfl

theorem Dev.gb_setBand (v : BandSt) (x : Nat) (f : Fld) : (d.setBand b v).gb x f = d.gb x f := rfl

/-- A notch that is not adaptive is not engaged. -/
theorem notchTuned_free (hm : d.g (gnfN b k) Reg.GNF.NCFG_MODE ≠ 2) : (d.notchTuned b k).gb (gnfN b k) Reg.GNF.NSTAT_ENGAGED = false := by
  unfold Dev.notchTuned
  rw [notchFixed_engaged, if_neg (by simp [Dev.notchKeeps, hm])]
  unfold Dev.notchFreed
  rw [Dev.gb_setBand, Dev.gb_pb_same _ _ _ _ (by decide) (by decide)]

/-- A fixed notch stands at its frequency. -/
theorem notchTuned_fixed (hm : d.g (gnfN b k) Reg.GNF.NCFG_MODE = 1) :
    (d.notchTuned b k).g (gnfN b k) Reg.GNF.NSTAT_F_NOW = d.g (gnfN b k) Reg.GNF.NFREQ := by
  unfold Dev.notchTuned Dev.notchFixed
  rw [if_pos hm, Dev.g_p_same _ _ _ _ (by decide)]
  exact Nat.mod_eq_of_lt (d.g_lt (gnfN b k) Reg.GNF.NFREQ)

theorem Dev.touches_setBand {d e : Dev} {ws es : List Nat} {x : Tab ChanSt} {y : Tab BandSt} (ht : d.touches (e.withGnss x y) ws es) (v : BandSt) :
    d.touches ((e.setBand b v).withGnss x y) ws es := ht

theorem notchTuned_touches {s : Dev} {ws : List Nat} (hd : s.touches (d.withGnss s.chans s.bands) ws []) (hw : gnfN b k + 0xC ∈ ws) :
    s.touches ((d.notchTuned b k).withGnss s.chans s.bands) ws [] := by
  have h1 : s.touches ((if d.notchKeeps b k then d else d.notchFreed b k).withGnss s.chans s.bands) ws [] := by
    split_ifs
    · exact hd
    · exact Dev.touches_setBand (Dev.touches.pb (f := Reg.GNF.NSTAT_ENGAGED) hd hw false) _
  unfold Dev.notchTuned
  generalize (if d.notchKeeps b k then d else d.notchFreed b k) = e at h1
  unfold Dev.notchFixed
  split_ifs
  · exact Dev.touches.p (f := Reg.GNF.NSTAT_F_NOW) h1 hw _
  · exact h1

theorem notchWritten_keeps {α : Type} {g : Dev → α} (hc : ∀ d c v, g (Dev.setChan d c v) = g d) :
    g (notchWritten b k o v d) = g ((d.notchPut b k o v).notchTuned b k) := by
  rw [notchWritten_eq]
  exact keeps_ite (g := g) rfl (notchFlagged_keeps hc _ _)

theorem notchPut_w (a : Nat) : (d.notchPut b k o v).w a = if a = gnfN b k + o then mergeWrite (gnfN b k + o) (d.w (gnfN b k + o)) v % 2 ^ 32 else d.w a :=
  d.w_setw _ _ _

theorem notchWritten_w {a : Nat} (h : a ≠ gnfN b k + 0xC) : (notchWritten b k o v d).w a = (d.notchPut b k o v).w a :=
  (notchWritten_keeps (g := fun e => e.w a) fun _ _ _ => rfl).trans (notchTuned_w h)

theorem notchWritten_touches {s : Dev} (hs : s.touches (d.withGnss s.chans s.bands) [gnfN b k + o, gnfN b k + 0xC] []) :
    s.touches ((notchWritten b k o v d).withGnss s.chans s.bands) [gnfN b k + o, gnfN b k + 0xC] [] := by
  rw [notchWritten_keeps (g := fun e => e.withGnss s.chans s.bands) fun _ _ _ => rfl]
  exact notchTuned_touches (Dev.touches.setw hs (List.mem_cons_self ..) _) (List.mem_cons_of_mem _ (List.mem_singleton_self _))

/-- The channels of a band note a written notch that differs. -/
theorem notchWritten_flags (hb : b < 4) (hk : k < 8) (ho : o < 0x10) (hne : (d.notchPut b k o v).w (gnfN b k + o) ≠ d.w (gnfN b k + o)) {c : Nat}
    (hc : c < 256) (h1 : d.chBand c = b) (h2 : 1 ≤ d.chState c) (h3 : d.chState c ≤ 4) : ((notchWritten b k o v d).chan c).notch = true := by
  have hw : ∀ x, ((d.notchPut b k o v).notchTuned b k).w (gntC c + x) = d.w (gntC c + x) := fun x => by
    have hlt : gnfN b k + o < 0x210000 ∧ gnfN b k + 0xC < 0x210000 := by
      rw [gnfN_eq]
      omega
    rw [notchTuned_w (gntC_ne_gnf c x hlt.2), notchPut_w, if_neg (gntC_ne_gnf c x hlt.1)]
  have ho' : d.onBand b [1, 2, 3, 4] c = true := by
    rw [onBand_iff]
    refine ⟨by omega, h1, ?_⟩
    simp only [List.mem_cons, List.not_mem_nil, or_false]
    omega
  rw [notchWritten_eq, if_neg hne]
  refine Dev.bandChans_at (fun e => (e.chan c).notch) hc ((onBand_of_w hw).2.trans ho') (fun i e _ => ⟨rfl, rfl⟩) (fun e => ?_) fun i e hi => ?_
  · exact congrArg ChanSt.notch (e.chan_setChan_same c _)
  · exact congrArg ChanSt.notch (e.chan_setChan_ne (Ne.symm hi) _)

end

theorem writeMask_notch : ∀ (b : Fin 4) (k : Fin 8), writeMask (gnfN b.val k.val) = 2 ^ 5 - 1 ∧ writeMask (gnfN b.val k.val + 4) = 2 ^ 24 - 1 ∧
    writeMask (gnfN b.val k.val + 8) = 2 ^ 24 - 1 := by decide

theorem writeMask_band : ∀ b : Fin 4, writeMask (gnfB b.val) = 2 ^ 6 - 1 ∧ writeMask (gnfB b.val + 4) = 0xFFFFFFFF ∧
    writeMask (gnfB b.val + 8) = 0xFFFFFFFF := by decide

/-- A field of a word of which only some low bits are known. -/
theorem Dev.g_of_low {d : Dev} {b n v : Nat} {f : Fld} (hw : d.w (b + f.off) % 2 ^ n = v % 2 ^ n) (hf : f.lo + f.len ≤ n) :
    d.g b f = v / 2 ^ f.lo % 2 ^ f.len := by
  have h : ∀ x : Nat, x / 2 ^ f.lo % 2 ^ f.len = x % 2 ^ n / 2 ^ f.lo % 2 ^ f.len := fun x => by
    refine Nat.eq_of_testBit_eq fun i => ?_
    rw [Nat.testBit_mod_two_pow, Nat.testBit_mod_two_pow, Nat.testBit_div_two_pow, Nat.testBit_div_two_pow, Nat.testBit_mod_two_pow]
    by_cases hi : i < f.len
    · simp [hi, show i + f.lo < n by omega]
    · simp [hi]
  unfold Dev.g getBits
  rw [h (d.w (b + f.off)), hw, ← h]

end Sys2Proof.Machine
end

section
/-! PROOF. O44, concluded: band settings reach the channels and the jobs (R234, R237, R245). -/

namespace Sys2Proof.Machine

/-! ### The jobs of a band -/

/-- No job of a band waits or runs. -/
def AcqSt.freeOf (a : AcqSt) (b : Nat) : Prop := (∀ j ∈ a.queue, j.band ≠ b) ∧ ∀ r, a.run = some r → r.job.band ≠ b

section
variable {d : Dev} {b : Nat}

theorem acqKick_freeOf (h : d.acq.freeOf b) : d.acqKick.acq.freeOf b := by
  unfold Dev.acqKick
  split
  · rename_i j q hr hq
    split_ifs
    · have hj : ∀ x ∈ j :: q, x.band ≠ b := fun x hx => h.1 x (hq ▸ hx)
      refine ⟨fun x hx => hj x (List.mem_cons_of_mem _ hx), fun r hr => ?_⟩
      rw [← Option.some.inj hr]
      exact hj j (List.mem_cons_self ..)
    · exact h
  · exact h

theorem acqStop_freeOf (h : ∀ j ∈ d.acq.queue, j.band ≠ b) (o : Nat) : (d.acqStop b o).acq.freeOf b := by
  unfold Dev.acqStop
  split
  · rename_i r hr
    split_ifs with hb
    · unfold Dev.acqFinish
      rw [hr]
      exact acqKick_freeOf ⟨fun j hj => h j (by rwa [Dev.raise_acq] at hj), fun x hx => nomatch hx⟩
    · exact ⟨h, fun x hx => by
        rw [← Option.some.inj (hr.symm.trans hx)]
        exact hb⟩
  · rename_i hr
    exact ⟨h, fun x hx => nomatch hr.symm.trans hx⟩

/-- A job that waited ends without having run. -/
def Dev.jobDropped (e : Dev) (j : AcqJob) : Dev :=
  if e.acq.res.length + bitOf e.acq.run.isSome < 16 then
    (e.setAcq { e.acq with res := e.acq.res ++ [({ tag := j.tag, outcome := 3, passes := 0, peak := none } : AcqRes)] }).raise gnaPg 0
  else e

/-- The queue without the jobs of a band. -/
def Dev.queueLeft (d : Dev) (b : Nat) : Dev := d.setAcq { d.acq with queue := d.acq.queue.filter fun j => j.band != b }

theorem bandJobsAborted_eq : d.bandJobsAborted b = (d.acq.queue.filter fun j => j.band == b).foldl Dev.jobDropped ((d.queueLeft b).acqStop b 3) := rfl

theorem jobDropped_freeOf (e : Dev) (j : AcqJob) (h : e.acq.freeOf b) : (e.jobDropped j).acq.freeOf b := by
  unfold Dev.jobDropped
  split_ifs
  · rw [Dev.raise_acq, Dev.setAcq_acq]
    exact h
  · exact h

theorem bandJobsAborted_freeOf : (d.bandJobsAborted b).acq.freeOf b := by
  have h : ∀ (l : List AcqJob) (e : Dev), e.acq.freeOf b → (l.foldl Dev.jobDropped e).acq.freeOf b := by
    intro l
    induction l with
    | nil => exact fun _ he => he
    | cons j l ih => exact fun e he => ih _ (jobDropped_freeOf e j he)
  rw [bandJobsAborted_eq]
  refine h _ _ (acqStop_freeOf (fun j hj => ?_) 3)
  have hf : j ∈ d.acq.queue.filter fun j => j.band != b := hj
  exact bne_iff_ne.1 (List.mem_filter.1 hf).2

theorem AcqBlind.bandJobsAborted {α : Type} {g : Dev → α} (hg : AcqBlind g) (d : Dev) (b : Nat) : g (d.bandJobsAborted b) = g d := by
  rw [bandJobsAborted_eq]
  refine (foldl_keeps (g := g) (fun e j => ?_) _ _).trans ((hg.acqStop _ _ _).trans (hg.acq _ _))
  unfold Dev.jobDropped
  exact keeps_ite (g := g) ((hg.evt _).trans (hg.acq _ _)) rfl

/-! ### A written setting -/

/-- A setting of a band as it is written. -/
def Dev.bandPut (d : Dev) (b o v : Nat) : Dev := d.setw (gnfB b + o) (mergeWrite (gnfB b + o) (d.w (gnfB b + o)) v)

/-- A write changes a setting but AGC_EN. -/
def Dev.bandNew (d : Dev) (b o v : Nat) : Bool :=
  if o = 0 then d.w (gnfB b + o) % 32 != (d.bandPut b o v).w (gnfB b + o) % 32 else d.w (gnfB b + o) != (d.bandPut b o v).w (gnfB b + o)

/-- The channels of a band rest. -/
def Dev.bandRests (d : Dev) (b : Nat) : Dev := d.bandChans b [1, 2, 3, 4] fun c e => e.chTo c 0

/-- The jobs of a band and its capture end where its settings change. -/
def Dev.bandEnds (d : Dev) (new : Bool) (b : Nat) : Dev := if new then (d.bandJobsAborted b).snapBandStop b false else d

/-- The clock of a band that is off is not good. -/
def Dev.bandShut (d : Dev) (on : Bool) (b : Nat) : Dev :=
  if on then d else (d.pb (gnfB b) Reg.GNF.BSTAT_CLK_OK false).setBand b { d.band b with goodAt := none }

theorem bandWritten_eq (o v : Nat) : bandWritten b o v d =
    (((d.bandPut b o v).bandRests b).bandEnds (d.bandNew b o v) b).bandShut ((d.bandPut b o v).bandOn b) b := by
  unfold bandWritten Dev.bandShut Dev.bandEnds Dev.bandRests Dev.bandNew Dev.bandPut
  rfl

theorem bandShut_keeps {α : Type} {g : Dev → α} (hs : ∀ d v, g (Dev.setw d (gnfB b + 0x14) v) = g d) (hb : ∀ d v, g (Dev.setBand d b v) = g d)
    (d : Dev) (on : Bool) : g (d.bandShut on b) = g d := keeps_ite (g := g) rfl ((hb _ _).trans (hs _ _))

theorem bandEnds_keeps {α : Type} {g : Dev → α} (ha : AcqBlind g) (hs : SnapBlind g) (d : Dev) (new : Bool) (b : Nat) : g (d.bandEnds new b) = g d :=
  keeps_ite (g := g) ((hs.snapBandStop _ _ _).trans (ha.bandJobsAborted _ _)) rfl

/-- What follows the write itself. -/
theorem bandWritten_keeps {α : Type} {g : Dev → α} (hc : ∀ c < 256, ChanBlind g c) (ha : AcqBlind g) (hs : SnapBlind g)
    (hw : ∀ d v, g (Dev.setw d (gnfB b + 0x14) v) = g d) (hb : ∀ d v, g (Dev.setBand d b v) = g d) (o v : Nat) :
    g (bandWritten b o v d) = g (d.bandPut b o v) := by
  rw [bandWritten_eq]
  exact (bandShut_keeps hw hb _ _).trans ((bandEnds_keeps ha hs _ _ _).trans (Dev.bandChans_keeps g fun c hc' _ => (hc c hc').chTo))

theorem bandWritten_w (hb : b < 4) {o x : Nat} (hx : x < 0x14) (v : Nat) : (bandWritten b o v d).w (gnfB b + x) = (d.bandPut b o v).w (gnfB b + x) :=
  bandWritten_keeps (g := fun e => e.w (gnfB b + x)) (fun c _ => chanBlind_w (chanApart_gnfB hb (by omega))) (acqBlind_w _)
    (snapBlind_w (gnfB_ne_snap hb (by omega))) (fun d _ => (d.w_setw _ _ _).trans (if_neg (by omega))) (fun _ _ => rfl) o v

theorem bandWritten_tbs (o v : Nat) : (bandWritten b o v d).tbs = d.tbs :=
  bandWritten_keeps (g := Dev.tbs) (fun c _ => chanBlind_tbs c) acqBlind_tbs snapBlind_tbs (fun _ _ => rfl) (fun _ _ => rfl) o v

theorem bandPut_w (o v a : Nat) : (d.bandPut b o v).w a = if a = gnfB b + o then mergeWrite (gnfB b + o) (d.w (gnfB b + o)) v % 2 ^ 32 else d.w a :=
  d.w_setw _ _ _

theorem bandWritten_state (hb : b < 4) {o : Nat} (ho : o < 0x14) (v : Nat) {c : Nat} (hc : c < 256) :
    (bandWritten b o v d).chState c = if d.chBand c = b ∧ 1 ≤ d.chState c ∧ d.chState c ≤ 4 then 0 else d.chState c := by
  have hlt : gnfB b + o < 0x210000 := gnfB_lt hb (by omega)
  obtain ⟨h1, h2⟩ := onBand_of_w (d := d) (e := d.bandPut b o v) (b := b) (states := [1, 2, 3, 4]) (c := c) fun x => by
    rw [bandPut_w, if_neg (gntC_ne_gnf c x hlt)]
  have h := Dev.bandChans_state (d := d.bandPut b o v) (b := b) (states := [1, 2, 3, 4]) (st := 0) (f := fun c e => e.chTo c 0)
    (fun c e => Dev.chTo_state _ c 0 (by decide)) (fun g c e hg => hg.chTo) hc
  rw [h1, h2] at h
  rw [bandWritten_eq]
  have hs : ∀ (e : Dev) new on, ((e.bandEnds new b).bandShut on b).chState c = e.chState c := fun e new on =>
    Dev.chState_of_w ((bandShut_keeps (g := fun e => e.w (gntC c + 0xC)) (fun d _ => (d.w_setw _ _ _).trans
      (if_neg (gntC_ne_gnf c 0xC (gnfB_lt hb (by decide))))) (fun _ _ => rfl) _ _).trans
      (bandEnds_keeps (acqBlind_w _) (snapBlind_w (gntC_ne_snap hc (by decide))) _ _ _))
  refine (hs _ _ _).trans (h.trans (if_congr ?_ rfl rfl))
  rw [onBand_iff]
  simp only [List.mem_cons, List.not_mem_nil, or_false]
  omega

theorem bandWritten_jobs {o v : Nat} (hn : d.bandNew b o v = true) : (bandWritten b o v d).acq.freeOf b := by
  rw [bandWritten_eq, bandShut_keeps (g := Dev.acq) (fun _ _ => rfl) (fun _ _ => rfl)]
  unfold Dev.bandEnds
  rw [if_pos hn, snapBlind_acq.snapBandStop]
  exact bandJobsAborted_freeOf

end

theorem State.onlyTouches_withGnss {s : State} {e : Dev} {ws es : List Nat} (ht : s.dev.touches (e.withGnss s.dev.chans s.dev.bands) ws es) :
    s.onlyTouches { s.withDev e with dev := { (s.withDev e).dev with chans := s.dev.chans, bands := s.dev.bands } } ws es := ht.onlyTouches

/-- Settles O44: a notch's words are its own, so an average moves each by itself; a written setting reaches the channels and the
jobs of its band alone. -/
theorem notchesAndBandSettingsReachChannels : Obligations.NotchesAndBandSettingsReachChannels := by
  unfold Obligations.NotchesAndBandSettingsReachChannels
  refine ⟨fun b sps s h1 h2 h3 h4 => ?_, fun b sps s h => next_onDev (f := spectrumAveraged b.val sps) (d := s.dev) (spectrumAveraged_stays h),
    fun m b k r v s hw => ?_, fun m b r v s hw => ?_⟩
  · intro sp bins det
    have hb := b.isLt
    obtain ⟨st, full, new, he⟩ := spectrumAveraged_eq h1 h2 h3 h4
    have hstand : ∀ {k : Nat} {f : Int}, k < 8 → (s.dev.notchesMoved b.val bins (medianBin sp)).notchStands b.val k f →
        ((s.dev.notchesMoved b.val bins (medianBin sp)).notchFullShown b.val st full new).notchStands b.val k f := fun {k f} hk =>
      notchStands_congr (notchFullShown_w (by rw [gnfN_eq, gnfB_eq]; omega))
    refine ⟨s.withDev ((s.dev.notchesMoved b.val bins (medianBin sp)).notchFullShown b.val st full new),
      next_onDev (f := spectrumAveraged b.val sps) he, fun k x hm hg hx hl => ?_, fun x hn hm hx => ?_, fun c _ => ?_, ?_, s.keepsRest_withDev _⟩
    · exact hstand k.isLt (notchesMoved_follow k.isLt hm hg hx hl)
    · exact hstand (by decide) (notchesMoved_take hn hm hx)
    · exact (Dev.chState_of_w (notchFullShown_w (gntC_ne_gnf c 0xC (gnfB_lt hb (by decide))))).trans (notchesMoved_state hb c)
    · exact notchFullShown_tbs.trans (notchesMoved_keeps fun k _ => notchBlind_tbs b.val k)
  · obtain ⟨hm0, hm4, hm8⟩ := writeMask_notch b k
    obtain ⟨d, hd⟩ : ∃ d, d = s.dev.regAccess m (gnfN b.val k.val + 4 * r.val) := ⟨_, rfl⟩
    have hdw : ∀ a, d.w a = s.dev.w a := fun a => hd ▸ rfl
    have ho : 4 * r.val < 0xC := by omega
    have hown : (notchWritten b.val k.val (4 * r.val) v.toNat d).w (gnfN b.val k.val + 4 * r.val) =
        mergeWrite (gnfN b.val k.val + 4 * r.val) (s.dev.w (gnfN b.val k.val + 4 * r.val)) v.toNat := by
      rw [notchWritten_w (by omega), notchPut_w, if_pos rfl, hdw]
      exact Nat.mod_eq_of_lt (mergeWrite_lt _ (s.dev.w_lt _) v.isLt)
    refine ⟨s.withDev (notchWritten b.val k.val (4 * r.val) v.toNat d), hd ▸ exec_of_writeAt (f := notchWritten b.val k.val (4 * r.val) v.toNat) rfl hw,
      fun hr => ?_, fun hr => ?_, fun hr => ?_, fun hne c hc h1 h2 h3 => ?_, fun c _ => ?_, ?_⟩
    · subst hr
      have hlow : (notchWritten b.val k.val 0 v.toNat d).w (gnfN b.val k.val + 0) % 2 ^ 5 = v.toNat % 2 ^ 5 :=
        (congrArg (· % 2 ^ 5) hown).trans (mergeWrite_low hm0 (by decide))
      have hmode : (notchWritten b.val k.val 0 v.toNat d).g (gnfN b.val k.val) Reg.GNF.NCFG_MODE = v.toNat % 4 := by
        rw [Dev.g_of_low (f := Reg.GNF.NCFG_MODE) hlow (by decide)]
        exact congrArg (· % 4) (Nat.div_one _)
      refine ⟨hmode, Dev.g_of_low (f := Reg.GNF.NCFG_WIDTH) hlow (by decide), fun hv => ?_⟩
      have hput : (d.notchPut b.val k.val 0 v.toNat).g (gnfN b.val k.val) Reg.GNF.NCFG_MODE ≠ 2 := by
        rw [← Dev.g_of_w (f := Reg.GNF.NCFG_MODE) (o := 0) (notchWritten_w (d := d) (b := b.val) (k := k.val) (o := 0) (v := v.toNat)
          (a := gnfN b.val k.val + 0) (by omega)), hmode]
        exact hv
      exact (notchWritten_keeps (g := fun e => e.gb _ _) fun _ _ _ => rfl).trans (notchTuned_free hput)
    · subst hr
      have hlow : (notchWritten b.val k.val 4 v.toNat d).w (gnfN b.val k.val + 4) % 2 ^ 24 = v.toNat % 2 ^ 24 :=
        (congrArg (· % 2 ^ 24) hown).trans (mergeWrite_low hm4 (by decide))
      have hfreq : (notchWritten b.val k.val 4 v.toNat d).g (gnfN b.val k.val) Reg.GNF.NFREQ = v.toNat % 2 ^ 24 := by
        rw [Dev.g_of_low (f := Reg.GNF.NFREQ) hlow (by decide)]
        exact congrArg (· % 2 ^ 24) (Nat.div_one _)
      refine ⟨hfreq, fun hmode => ?_⟩
      have hput : (d.notchPut b.val k.val 4 v.toNat).g (gnfN b.val k.val) Reg.GNF.NCFG_MODE = 1 := by
        refine (Dev.g_of_w (f := Reg.GNF.NCFG_MODE) (o := 0) ?_).trans hmode
        rw [notchPut_w, if_neg (by omega), hdw]
      have hsame : (notchWritten b.val k.val 4 v.toNat d).g (gnfN b.val k.val) Reg.GNF.NFREQ =
          (d.notchPut b.val k.val 4 v.toNat).g (gnfN b.val k.val) Reg.GNF.NFREQ := Dev.g_of_w (o := 4) (notchWritten_w (by omega))
      exact ((notchWritten_keeps (g := fun e => e.g _ _) fun _ _ _ => rfl).trans (notchTuned_fixed hput)).trans (hsame.symm.trans hfreq)
    · subst hr
      have hlow : (notchWritten b.val k.val 8 v.toNat d).w (gnfN b.val k.val + 8) % 2 ^ 24 = v.toNat % 2 ^ 24 :=
        (congrArg (· % 2 ^ 24) hown).trans (mergeWrite_low hm8 (by decide))
      refine (Dev.g_of_low (f := Reg.GNF.NRANGE) hlow (by decide)).trans ?_
      exact congrArg (· % 2 ^ 24) (Nat.div_one _)
    · refine notchWritten_flags b.isLt k.isLt (by omega) ?_ hc ((Dev.chBand_of_w (hdw _)).trans h1) ?_ ?_
      · rw [← notchWritten_w (d := d) (by omega), hdw]
        exact hne
      · rw [Dev.chState_of_w (hdw _)]
        exact h2
      · rw [Dev.chState_of_w (hdw _)]
        exact h3
    · have hlt : gnfN b.val k.val + 0xC < 0x210000 := by
        rw [gnfN_eq]
        omega
      have hlt' : gnfN b.val k.val + 4 * r.val < 0x210000 := by
        rw [gnfN_eq]
        omega
      refine Dev.chState_of_w ?_
      rw [State.withDev_dev, notchWritten_w (gntC_ne_gnf c _ hlt), notchPut_w, if_neg (gntC_ne_gnf c _ hlt'), hdw]
    · have ht : s.dev.touches (d.withGnss s.dev.chans s.dev.bands) [gnfN b.val k.val + 4 * r.val, gnfN b.val k.val + 0xC] [] :=
        hd ▸ Dev.touches_regAccess s.dev m _ _ _
      exact State.onlyTouches_withGnss (notchWritten_touches ht)
  · obtain ⟨hm0, hm4, hm8⟩ := writeMask_band b
    have hb := b.isLt
    obtain ⟨d, hd⟩ : ∃ d, d = s.dev.regAccess m (gnfB b.val + 4 * r.val) := ⟨_, rfl⟩
    have hdw : ∀ a, d.w a = s.dev.w a := fun a => hd ▸ rfl
    have ho : 4 * r.val < 0x14 := by omega
    have hput : (d.bandPut b.val (4 * r.val) v.toNat).w (gnfB b.val + 4 * r.val) =
        mergeWrite (gnfB b.val + 4 * r.val) (s.dev.w (gnfB b.val + 4 * r.val)) v.toNat := by
      rw [bandPut_w, if_pos rfl, hdw]
      exact Nat.mod_eq_of_lt (mergeWrite_lt _ (s.dev.w_lt _) v.isLt)
    have hown := (bandWritten_w (d := d) hb ho v.toNat (o := 4 * r.val)).trans hput
    have hfull : r ≠ 0 → mergeWrite (gnfB b.val + 4 * r.val) (s.dev.w (gnfB b.val + 4 * r.val)) v.toNat = v.toNat := fun hr => by
      refine mergeWrite_full ?_ (s.dev.w_lt _) v.isLt
      have h3 : r.val = 1 ∨ r.val = 2 := by
        have : r.val ≠ 0 := fun h => hr (Fin.ext h)
        omega
      rcases h3 with h3 | h3
      · rw [h3]
        exact hm4
      · rw [h3]
        exact hm8
    refine ⟨s.withDev (bandWritten b.val (4 * r.val) v.toNat d), hd ▸ exec_of_writeAt (f := bandWritten b.val (4 * r.val) v.toNat) rfl hw,
      fun hr => hown.trans (hfull hr), fun hr => ?_, fun c hc => ?_, fun hn => ?_, (bandWritten_tbs _ _).trans (hd ▸ rfl), s.keepsRest_withDev _⟩
    · subst hr
      have hlow : (bandWritten b.val 0 v.toNat d).w (gnfB b.val + 0) % 2 ^ 6 = v.toNat % 2 ^ 6 :=
        (congrArg (· % 2 ^ 6) hown).trans (mergeWrite_low hm0 (by decide))
      refine ⟨(Dev.g_of_low (f := Reg.GNF.BCFG_EN) hlow (by decide)).trans (congrArg (· % 2) (Nat.div_one _)),
        Dev.g_of_low (f := Reg.GNF.BCFG_FMT) hlow (by decide), ?_⟩
      have hg := Dev.g_of_low (f := Reg.GNF.BCFG_AGC_EN) hlow (by decide)
      refine (congrArg (· == 1) hg).trans ?_
      rw [Nat.testBit_eq_decide_div_mod_eq]
      rfl
    · refine (bandWritten_state hb ho _ hc).trans ?_
      rw [Dev.chState_of_w (hdw _), Dev.chBand_of_w (hdw _)]
    · refine bandWritten_jobs ?_
      unfold Dev.bandNew
      rw [hput, hdw]
      by_cases hr : r = 0
      · subst hr
        have h5 : mergeWrite (gnfB b.val + 4 * (0 : Fin 3).val) (s.dev.w (gnfB b.val + 4 * (0 : Fin 3).val)) v.toNat % 32 = v.toNat % 32 := by
          have := mergeWrite_low (old := s.dev.w (gnfB b.val)) (v := v.toNat) hm0 (by decide)
          show mergeWrite (gnfB b.val) (s.dev.w (gnfB b.val)) v.toNat % 32 = _
          omega
        rw [if_pos rfl] at hn
        rw [if_pos (by decide), h5, bne_iff_ne]
        exact fun h => hn h.symm
      · rw [if_neg hr] at hn
        rw [if_neg (by
          have : r.val ≠ 0 := fun h => hr (Fin.ext h)
          omega), hfull hr, bne_iff_ne]
        exact fun h => hn h.symm

end Sys2Proof.Machine
end

section
/-! PROOF. O45: acquisition jobs are queued, run, verified and reported (R231 to R235, R246). -/

namespace Sys2Proof.Machine

/-! ### The queue -/

section
variable (d : Dev)

/-- What the bank alone shows, a job's start does not change elsewhere. -/
theorem acqKick_keeps {α : Type} {g : Dev → α} (hg : ∀ d v, g (Dev.setAcq d v) = g d) : g d.acqKick = g d := by
  unfold Dev.acqKick
  split
  · exact keeps_ite (g := g) (hg _ _) rfl
  · rfl

theorem acqKick_waits (h : d.acq.run.isSome = true ∨ 16 ≤ d.acq.res.length) : d.acqKick = d := by
  unfold Dev.acqKick
  split
  · rename_i hr _
    refine if_neg ?_
    rcases h with h | h
    · rw [hr] at h
      exact absurd h (by decide)
    · omega
  · rfl

theorem acqKick_empty (h : d.acq.queue = []) : d.acqKick = d := by
  unfold Dev.acqKick
  split
  · rename_i hq
    exact nomatch h.symm.trans hq
  · rfl

theorem acqKick_starts {j : AcqJob} {q : List AcqJob} (hr : d.acq.run = none) (hl : d.acq.res.length < 16) (hq : d.acq.queue = j :: q) :
    d.acqKick = d.setAcq { d.acq with queue := q, run := some { job := j, start := d.gnssMs + 1 } } := by
  unfold Dev.acqKick
  rw [hr, hq]
  exact if_pos hl

theorem acqKick_res : d.acqKick.acq.res = d.acq.res := by
  unfold Dev.acqKick
  split
  · split_ifs <;> rfl
  · rfl

/-- The device with the acquisition bank put aside. -/
def Dev.withAcq (d : Dev) (x : AcqSt) : Dev := { d with acq := x }

theorem withAcq_setAcq (v x : AcqSt) : (d.setAcq v).withAcq x = d.withAcq x := rfl

/-- A submitted job at the end of the queue. -/
def Dev.jobQueued (d : Dev) (j : AcqJob) : Dev :=
  d.setAcq { d.acq with
    queue := d.acq.queue ++ [j]
    hostAt := if d.acq.run.isNone && d.acq.queue.isEmpty then d.gnssMs else d.acq.hostAt }

theorem acqSubmitted_queues (hg : d.gnssOn = true) (hr : d.jobRefusal d.stagedJob = 0) : acqSubmitted d = (d.jobQueued d.stagedJob).acqKick := by
  unfold acqSubmitted
  rw [if_neg (by simp [hg])]
  exact if_pos hr

theorem acqSubmitted_refused (hg : d.gnssOn = true) (hr : d.jobRefusal d.stagedJob ≠ 0) :
    acqSubmitted d = (d.p gnaPg Reg.GNA.QSTAT_REFUSE (d.jobRefusal d.stagedJob)).raise gnaPg 1 := by
  unfold acqSubmitted
  rw [if_neg (by simp [hg])]
  exact if_neg hr

theorem acqSubmitted_off (hg : d.gnssOn = false) : acqSubmitted d = d := if_pos (by simp [hg])

variable (m : Master) (a : Nat)

theorem Dev.regAccess_gnssOn : (d.regAccess m a).gnssOn = d.gnssOn := rfl

theorem Dev.regAccess_gnssMs : (d.regAccess m a).gnssMs = d.gnssMs := rfl

theorem Dev.regAccess_stagedJob : (d.regAccess m a).stagedJob = d.stagedJob := rfl

theorem Dev.regAccess_jobRefusal (j : AcqJob) : (d.regAccess m a).jobRefusal j = d.jobRefusal j := rfl

variable {d}

theorem jobRefusal_lt (j : AcqJob) : d.jobRefusal j < 16 := by
  unfold Dev.jobRefusal
  split
  · split_ifs <;> decide
  · split_ifs <;> decide

end

/-! ### The end of a pass -/

section
variable (d : Dev) (x : AcqSeen) (r : AcqRun)

/-- The best cell of a pass. -/
def AcqRun.peakOf (r : AcqRun) (x : AcqSeen) : AcqPeak :=
  { ratio := x.ratio, code := (r.job.cellAt r.passes x.cell).1, dop := (r.job.cellAt r.passes x.cell).2, cn0 := x.cn0 }

/-- A job after another pass. -/
def AcqRun.passed (r : AcqRun) : AcqRun := { r with passes := r.passes + 1, lost := [] }

def Dev.setRun (d : Dev) (r : AcqRun) : Dev := d.setAcq { d.acq with run := some r }

section
variable {d r} (hr : d.acq.run = some r) (hw : r.dwell = none) (ht : r.start + r.job.tc * r.job.nnc ≤ d.gnssMs)
include hr hw ht

theorem acqPassEnded_eq : acqPassEnded .host x d =
    if r.finds x.ratio then d.setRun { r.passed with dwell := some (r.peakOf x), start := d.gnssMs + 1 }
    else if r.passed.passes < r.job.passes then d.setRun { r.passed with start := d.gnssMs + 1 }
    else match r.best with
      | none => (d.setRun r.passed).acqFinish 2 (some (r.peakOf x))
      | some b => (d.setRun r.passed).acqFinish (if r.job.hand && !r.handed then 5 else 1) (some b) := by
  unfold acqPassEnded
  rw [hr]
  dsimp only
  rw [if_neg (by simp [hw, Nat.not_lt.2 ht])]
  rfl

theorem acqPassEnded_found (hf : r.finds x.ratio = true) :
    acqPassEnded .host x d = d.setRun { r.passed with dwell := some (r.peakOf x), start := d.gnssMs + 1 } := by
  rw [acqPassEnded_eq x hr hw ht, if_pos hf]

theorem acqPassEnded_next (hf : r.finds x.ratio = false) (hp : r.passes + 1 < r.job.passes) :
    acqPassEnded .host x d = d.setRun { r.passed with start := d.gnssMs + 1 } := by
  rw [acqPassEnded_eq x hr hw ht, if_neg (by simp [hf])]
  exact if_pos hp

/-- A job whose last pass finds nothing ends with its best detection, or with none. -/
theorem acqPassEnded_last (hf : r.finds x.ratio = false) (hp : r.job.passes ≤ r.passes + 1) : acqPassEnded .host x d = (d.setRun r.passed).acqFinish
    (if r.best.isNone then 2 else if r.job.hand && !r.handed then 5 else 1) (some (r.best.getD (r.peakOf x))) := by
  rw [acqPassEnded_eq x hr hw ht, if_neg (by simp [hf]), if_neg (by show ¬ r.passes + 1 < _; omega)]
  cases r.best <;> rfl

end

/-- A result that a job leaves. -/
def AcqRun.result (r : AcqRun) (outcome : Nat) (peak : Option AcqPeak) : AcqRes := { tag := r.job.tag, outcome := outcome, passes := r.passes, peak := peak }

theorem acqFinish_eq {d : Dev} {r : AcqRun} (hr : d.acq.run = some r) (o : Nat) (p : Option AcqPeak) : d.acqFinish o p =
    ((d.setAcq { d.acq with run := none, res := d.acq.res ++ [r.result o p] }).raise gnaPg 0).acqKick := by
  unfold Dev.acqFinish
  rw [hr]
  rfl

theorem evtImplemented_gna : ∀ k < 2, evtImplemented gnaPg k = true := by decide

/-- A job that ends leaves one result. -/
theorem acqFinish_res {d : Dev} {r : AcqRun} (hr : d.acq.run = some r) (o : Nat) (p : Option AcqPeak) :
    (d.acqFinish o p).acq.res = d.acq.res ++ [r.result o p] := by
  rw [acqFinish_eq hr, acqKick_res, Dev.raise_acq]
  rfl

theorem acqFinish_evt {d : Dev} {r : AcqRun} (hr : d.acq.run = some r) (o : Nat) (p : Option AcqPeak) :
    (d.acqFinish o p).evt gnaPg 0 = (d.evt gnaPg 0).occur := by
  rw [acqFinish_eq hr, acqKick_keeps (g := fun e => e.evt gnaPg 0) _ fun _ _ => rfl, Dev.evt_raise_own _ (evtImplemented_gna 0 (by decide))]
  rfl

theorem acqFinish_touches {d e : Dev} {r : AcqRun} {y : AcqSt} (hr : e.acq.run = some r) (o : Nat) (p : Option AcqPeak)
    (ht : d.touches (e.withAcq y) [] [gnaPg]) : d.touches ((e.acqFinish o p).withAcq y) [] [gnaPg] := by
  rw [acqFinish_eq hr, acqKick_keeps (g := fun e => e.withAcq y) _ fun _ _ => rfl]
  exact Dev.touches.raise (pg := gnaPg) (k := 0) ht (by rw [Nat.add_zero]; exact List.mem_singleton_self _)

/-! ### A pass, counted -/

theorem Dev.perf_acq (pg c : Nat) : (d.perf pg c).acq = d.acq := rfl

theorem Dev.perf_evt (pg c p k : Nat) : (d.perf pg c).evt p k = d.evt p k := rfl

theorem Dev.touches_perf {d e : Dev} {ws es : List Nat} {y : AcqSt} (ht : d.touches (e.withAcq y) ws es) (pg c : Nat) :
    d.touches ((e.perf pg c).withAcq y) ws es := ht

/-- What the performance counters do not show, the count of a pass leaves. -/
theorem passCounted_keeps {α : Type} {g : Dev → α} (hg : ∀ d pg c, g (Dev.perf d pg c) = g d) (src : AcqSrc) :
    g (passCounted src x d) = g (acqPassEnded src x d) := by
  unfold passCounted
  exact keeps_ite (g := g) (hg _ _ _) rfl

theorem passCounted_stays (h : acqPassEnded .host x d = d) : passCounted .host x d = d := by
  unfold passCounted
  rw [h]
  exact if_neg (by simp)

theorem passCounted_touches {d : Dev} {src : AcqSrc} {es : List Nat} (ht : d.touches ((acqPassEnded src x d).withAcq d.acq) [] es) :
    d.touches ((passCounted src x d).withAcq d.acq) [] es := by
  unfold passCounted
  dsimp only
  generalize acqPassEnded src x d = e at ht ⊢
  split_ifs
  · exact Dev.touches_perf ht _ _
  · exact ht

theorem acqPassEnded_stays (h : ∀ r, d.acq.run = some r → r.dwell.isSome = true ∨ d.gnssMs < r.start + r.job.tc * r.job.nnc) :
    acqPassEnded .host x d = d := by
  unfold acqPassEnded
  split
  · rename_i r _ hr
    refine if_pos ?_
    rcases h r hr with h | h <;> simp [h]
  · rfl

end

end Sys2Proof.Machine
end

section
/-! PROOF. O45, concluded: verification dwells and the channels they start (R232, R234, R235). -/

namespace Sys2Proof.Machine

/-! ### A channel's start -/

section
variable (d : Dev) (c sig sv b code : Nat) (dop : Int) (cn0 : Nat)

/-- A channel named for a signal. -/
def Dev.chNamed (d : Dev) (c sig sv b : Nat) : Dev :=
  ((d.p (gntC c) Reg.GNT.CCFG_SIG sig).p (gntC c) Reg.GNT.CCFG_SV sv).p (gntC c) Reg.GNT.CCFG_BAND b

/-- The NCOs of a channel that starts. -/
def Dev.ncoStart (d : Dev) (c sig sv b code : Nat) (dop : Int) (cn0 : Nat) : ChanMeas :=
  { ch := c, code := code * 2 ^ 28, epoch := 0, carr := 0, rate := 1000 * (carrierHz sig sv + dop) - d.bandRf b, cn0 := cn0
    half := false }

/-- A channel takes its NCOs. -/
def Dev.chSeeded (d : Dev) (c : Nat) (nco : ChanMeas) (at_ : Nat) : Dev :=
  (d.setChan c { d.chan c with nco := some nco, ncoAt := at_ }).chBoundary c

theorem chStart_eq (h : d.chanOut c = false) : d.chStart c sig sv b code dop cn0 =
    ((d.chNamed c sig sv b).chTo c 1).chSeeded c (d.ncoStart c sig sv b code dop cn0) (d.tb0 d.lead / 2 ^ 32) := by
  unfold Dev.chStart
  rw [if_neg (by simp [h])]
  rfl

theorem chStart_out (h : d.chanOut c = true) : d.chStart c sig sv b code dop cn0 = d := if_pos h

variable {d c sig sv b code dop cn0}

theorem ChanBlind.chNamed {α : Type} {g : Dev → α} (hg : ChanBlind g c) : g (d.chNamed c sig sv b) = g d :=
  (hg.setCfg (f := Reg.GNT.CCFG_BAND) rfl _).trans ((hg.setCfg (f := Reg.GNT.CCFG_SV) rfl _).trans (hg.setCfg (f := Reg.GNT.CCFG_SIG) rfl _))

theorem ChanBlind.chSeeded {α : Type} {g : Dev → α} (hg : ChanBlind g c) (n : ChanMeas) (a : Nat) : g (d.chSeeded c n a) = g d :=
  hg.chBoundary.trans (hg.chan _ _)

theorem ChanBlind.chStart {α : Type} {g : Dev → α} (hg : ChanBlind g c) : g (d.chStart c sig sv b code dop cn0) = g d := by
  cases h : d.chanOut c
  · rw [chStart_eq _ _ _ _ _ _ _ _ h]
    exact (hg.chSeeded _ _).trans (hg.chTo.trans hg.chNamed)
  · rw [chStart_out _ _ _ _ _ _ _ _ h]

theorem chSeeded_w (n : ChanMeas) (a x : Nat) : (d.chSeeded c n a).w x = d.w x := rfl

theorem chSeeded_evt (n : ChanMeas) (a pg k : Nat) : (d.chSeeded c n a).evt pg k = d.evt pg k := rfl

theorem chSeeded_nco (n : ChanMeas) (a : Nat) : ((d.chSeeded c n a).chan c).nco = some n := by
  unfold Dev.chSeeded Dev.chBoundary
  rw [Dev.chan_setChan_same, Dev.chan_setChan_same]

theorem chStart_state (h : d.chanOut c = false) : (d.chStart c sig sv b code dop cn0).chState c = 1 := by
  rw [chStart_eq _ _ _ _ _ _ _ _ h]
  exact (Dev.chState_of_w (chSeeded_w _ _ _)).trans (Dev.chTo_state _ _ _ (by decide))

theorem chNamed_w {a : Nat} (h : a ≠ gntC c) : (d.chNamed c sig sv b).w a = d.w a := by
  have h0 : a ≠ gntC c + 0 := by rwa [Nat.add_zero]
  unfold Dev.chNamed
  rw [Dev.w_p_ne _ _ Reg.GNT.CCFG_BAND _ _ h0, Dev.w_p_ne _ _ Reg.GNT.CCFG_SV _ _ h0, Dev.w_p_ne _ _ Reg.GNT.CCFG_SIG _ _ h0]

theorem chNamed_sig (h : sig < 16) : (d.chNamed c sig sv b).g (gntC c) Reg.GNT.CCFG_SIG = sig := by
  unfold Dev.chNamed
  refine (Dev.g_p_apart _ _ _ (by decide) (by decide)).trans ((Dev.g_p_apart _ _ _ (by decide) (by decide)).trans ?_)
  exact (d.g_p_same _ _ _ (by decide)).trans (Nat.mod_eq_of_lt h)

theorem chNamed_sv (h : sv < 256) : (d.chNamed c sig sv b).g (gntC c) Reg.GNT.CCFG_SV = sv := by
  unfold Dev.chNamed
  refine (Dev.g_p_apart _ _ _ (by decide) (by decide)).trans ?_
  exact (Dev.g_p_same _ _ _ _ (by decide)).trans (Nat.mod_eq_of_lt h)

theorem chNamed_band (h : b < 4) : (d.chNamed c sig sv b).chBand c = b := by
  unfold Dev.chNamed Dev.chBand
  exact (Dev.g_p_same _ _ _ _ (by decide)).trans (Nat.mod_eq_of_lt h)

theorem chNamed_owner : (d.chNamed c sig sv b).gb (gntC c) Reg.GNT.CCFG_OWNER = d.gb (gntC c) Reg.GNT.CCFG_OWNER := by
  unfold Dev.chNamed
  exact (Dev.gb_p_apart _ _ _ (by decide) (by decide)).trans ((Dev.gb_p_apart _ _ _ (by decide) (by decide)).trans
    (Dev.gb_p_apart _ _ _ (by decide) (by decide)))

/-- The CHG bit of a channel that changes its state. -/
theorem chTo_chg {st : Nat} (h : d.chState c ≠ st) : bitAt ((d.chTo c st).w (gntPg c + 0x900)) (c % 32) = true := by
  have hlt : setBits (d.w (gntPg c + 0x900)) (c % 32) 1 1 < 2 ^ 32 := setBits_lt _ _ _ _ (d.w_lt _) (by omega)
  have hm : (d.chMarked c st).w (gntPg c + 0x900) = setBits (d.w (gntPg c + 0x900)) (c % 32) 1 1 := by
    unfold Dev.chMarked
    rw [Dev.w_setw, if_pos rfl, Nat.mod_eq_of_lt hlt]
  have hne : gntPg c + 0x900 ≠ gntC c + 0xC := by
    rw [gntC_eq, gntPg_eq]
    omega
  have hw : (d.chTo c st).w (gntPg c + 0x900) = setBits (d.w (gntPg c + 0x900)) (c % 32) 1 1 := by
    rw [d.chTo_moves c st h, Dev.w_raise]
    refine (keeps_ite (g := fun e : Dev => e.w (gntPg c + 0x900)) ?_ rfl).trans hm
    exact Dev.w_chIdle _ _ hne
  rw [hw, bitAt_setBit, if_pos rfl]

theorem evtImplemented_gnt : ∀ p < 8, evtImplemented (pageAddr .gnt .warp p) 0 = true := by decide

theorem evtImplemented_gntPg (hc : c < 256) : evtImplemented (gntPg c) 0 = true := evtImplemented_gnt _ (by omega)

theorem chTo_evt (hc : c < 256) {st : Nat} (h : d.chState c ≠ st) : (d.chTo c st).evt (gntPg c) 0 = (d.evt (gntPg c) 0).occur := by
  rw [d.chTo_moves c st h, Dev.evt_raise_own _ (evtImplemented_gntPg hc)]
  exact congrArg EvtWord.occur (keeps_ite (g := fun e : Dev => e.evt (gntPg c) 0) rfl rfl)

/-- The device with the channels' engines put aside. -/
def Dev.withChans (d : Dev) (x : Tab ChanSt) : Dev := { d with chans := x }

theorem chTo_touches {s : Dev} {ws es : List Nat} {y : Tab ChanSt} (ht : s.touches (d.withChans y) ws es) (hs : gntC c + 0xC ∈ ws)
    (hg : gntPg c + 0x900 ∈ ws) (he : gntPg c ∈ es) (st : Nat) : s.touches ((d.chTo c st).withChans y) ws es := by
  have hm : s.touches ((d.chMarked c st).withChans y) ws es := Dev.touches.setw (Dev.touches.p (f := Reg.GNT.CSTAT_STATE) ht hs st) hg _
  have hi : s.touches (((if st = 0 then (d.chMarked c st).chIdle c else d.chMarked c st)).withChans y) ws es := by
    split_ifs
    · exact Dev.touches.pb (f := Reg.GNT.CSTAT_BIT_SYNC) (Dev.touches.pb (f := Reg.GNT.CSTAT_PLL_LOCK) hm hs false) hs false
    · exact hm
  by_cases h : d.chState c = st
  · rw [d.chTo_same c st h]
    exact ht
  · rw [d.chTo_moves c st h]
    generalize (if st = 0 then (d.chMarked c st).chIdle c else d.chMarked c st) = e at hi
    exact Dev.touches.raise (pg := gntPg c) (k := 0) hi (by rw [Nat.add_zero]; exact he)

theorem chNamed_touches {s : Dev} {ws es : List Nat} {y : Tab ChanSt} (ht : s.touches (d.withChans y) ws es) (hw : gntC c ∈ ws) :
    s.touches ((d.chNamed c sig sv b).withChans y) ws es := by
  have h0 : gntC c + 0 ∈ ws := by rwa [Nat.add_zero]
  exact Dev.touches.p (f := Reg.GNT.CCFG_BAND) (Dev.touches.p (f := Reg.GNT.CCFG_SV) (Dev.touches.p (f := Reg.GNT.CCFG_SIG) ht h0 sig) h0 sv) h0 b

end

theorem svOk_bounds {sig sv : Nat} (h : svOk sig sv = true) : sig < 13 ∧ sv < 256 := by
  unfold svOk at h
  split at h
  · rename_i r hr
    obtain ⟨hs, he⟩ := List.getElem?_eq_some_iff.1 hr
    have hhi : ∀ r ∈ sigTable, r.svHi ≤ 63 := by decide
    have := hhi r (he ▸ List.getElem_mem hs)
    refine ⟨hs, ?_⟩
    simp only [Bool.or_eq_true, Bool.and_eq_true, decide_eq_true_eq] at h
    omega
  · exact absurd h (by decide)

/-! ### A verification dwell -/

section
variable (d : Dev) (x : AcqSeen) (r : AcqRun) (k : AcqPeak)

/-- The peak that a dwell finds. -/
def AcqRun.nearPeak (r : AcqRun) (k : AcqPeak) (x : AcqSeen) : AcqPeak :=
  { ratio := x.ratio, code := (r.job.cellNear k x.cell).1, dop := (r.job.cellNear k x.cell).2, cn0 := x.cn0 }

/-- A verified detection is handed to its channel. -/
def Dev.verHand (d : Dev) (r : AcqRun) (x : AcqSeen) : Bool := r.finds x.ratio && r.job.hand && d.chState r.job.ch == 0 && !r.handed

def AcqRun.better (r : AcqRun) (x : AcqSeen) : Bool := match r.best with | some b => decide (b.ratio < x.ratio) | none => true

def AcqRun.newBest (r : AcqRun) (k : AcqPeak) (x : AcqSeen) : Option AcqPeak := if r.finds x.ratio && r.better x then some (r.nearPeak k x) else r.best

/-- The channel of a verified detection, started or not. -/
def Dev.verStarted (d : Dev) (r : AcqRun) (k : AcqPeak) (x : AcqSeen) : Dev :=
  if d.verHand r x then d.chStart r.job.ch r.job.sig r.job.sv r.job.band (r.nearPeak k x).code (r.nearPeak k x).dop (r.nearPeak k x).cn0 else d

/-- The job after a dwell. -/
def Dev.verRun (d : Dev) (r : AcqRun) (k : AcqPeak) (x : AcqSeen) : AcqRun :=
  { r with dwell := none, lost := [], handed := r.handed || d.verHand r x, start := d.gnssMs + 1, best := r.newBest k x }

def AcqRun.verEnds (r : AcqRun) (x : AcqSeen) : Bool := (r.finds x.ratio && r.job.early) || decide (r.job.passes ≤ r.passes)

/-- The outcome of a job that ends at a dwell. -/
def Dev.verOutcome (d : Dev) (r : AcqRun) (k : AcqPeak) (x : AcqSeen) : Nat :=
  if (r.newBest k x).isNone then 2 else if r.job.hand && !(r.handed || d.verHand r x) then 5 else 1

variable {d r k}

theorem verPeak (r : AcqRun) (k : AcqPeak) (x : AcqSeen) : (match r.newBest k x with | some b => some b | none => some (r.nearPeak k x)) =
    some ((r.newBest k x).getD (r.nearPeak k x)) := by
  cases r.newBest k x <;> rfl

theorem acqVerifyEnded_host (hg : d.gnssOn = true) (hr : d.acq.run = some r) (hk : r.dwell = some k)
    (ht : r.start + r.job.tc * r.job.nnc ≤ d.gnssMs) : acqVerifyEnded .host x d =
      if r.verEnds x then ((d.verStarted r k x).setRun (d.verRun r k x)).acqFinish (d.verOutcome r k x) (some ((r.newBest k x).getD (r.nearPeak k x)))
      else (d.verStarted r k x).setRun (d.verRun r k x) := by
  unfold acqVerifyEnded
  rw [if_neg (by simp [hg]), hr]
  dsimp only
  rw [if_neg (by simp [hk, Nat.not_lt.2 ht]), ← verPeak, hk]
  rfl

theorem acqVerifyEnded_stays (h : d.gnssOn = false ∨ ∀ r, d.acq.run = some r → r.dwell = none ∨ d.gnssMs < r.start + r.job.tc * r.job.nnc) :
    acqVerifyEnded .host x d = d := by
  unfold acqVerifyEnded
  split_ifs with hg
  · rfl
  · split
    · rename_i h'
      exact nomatch h'
    · rfl
    · rename_i r _ hr
      refine if_pos ?_
      rcases h with h | h
      · simp [h] at hg
      · rcases h r hr with h | h <;> simp [h]

end

/-- What only a dwell's own channel, and no bank, shows, the dwell leaves. -/
theorem verStarted_keeps {α : Type} {g : Dev → α} {d : Dev} {r : AcqRun} (hg : ChanBlind g r.job.ch) (k : AcqPeak) (x : AcqSeen) :
    g (d.verStarted r k x) = g d := by
  unfold Dev.verStarted
  exact keeps_ite (g := g) hg.chStart rfl

theorem setRun_keeps {α : Type} {g : Dev → α} (hg : ∀ d v, g (Dev.setAcq d v) = g d) (d : Dev) (r : AcqRun) : g (d.setRun r) = g d := hg _ _

/-- A firmware job's detection may start its channel. -/
def Dev.fwStarts (d : Dev) (c sig sv b ms : Nat) : Bool :=
  d.fwPass ms && d.chState c == 0 && !(d.gb (gntC c) Reg.GNT.CCFG_OWNER) && d.bandOn b && svOk sig sv

section
variable {d : Dev} {c sig sv b ms code : Nat} {dop : Int} {x : AcqSeen}

theorem acqVerifyEnded_fw : acqVerifyEnded (.firmware c sig sv b ms code dop) x d =
    if !(d.gnssOn) then d else if d.fwStarts c sig sv b ms then d.chStart c sig sv b code dop x.cn0 else d := by
  unfold acqVerifyEnded Dev.fwStarts
  rfl

theorem fwPass_on (h : d.fwPass ms = true) : d.gnssOn = true := by
  unfold Dev.fwPass at h
  simp only [Bool.and_eq_true] at h
  exact h.1.1

end

end Sys2Proof.Machine
end

section
/-! PROOF. O45: what the commands of the acquisition bank come to (R231 to R235, R246). -/

namespace Sys2Proof.Machine

theorem State.onlyTouches_withAcq {s : State} {e : Dev} {ws es : List Nat} (ht : s.dev.touches (e.withAcq s.dev.acq) ws es) :
    s.onlyTouches { s.withDev e with dev := { (s.withDev e).dev with acq := s.dev.acq } } ws es := ht.onlyTouches

theorem State.onlyTouches_withChans {s : State} {e : Dev} {ws es : List Nat} (ht : s.dev.touches (e.withChans s.dev.chans) ws es) :
    s.onlyTouches { s.withDev e with dev := { (s.withDev e).dev with chans := s.dev.chans } } ws es := ht.onlyTouches

section
variable {d : Dev}

theorem acqFlushed_eq : acqFlushed d = d.setAcq { d.acq with
    queue := [], run := d.acq.run.filter fun r => !(r.passes == 0 && r.dwell.isNone && decide (d.gnssMs < r.start)) } := by
  unfold acqFlushed
  cases d.acq.run with
  | none => rfl
  | some r =>
    dsimp only
    by_cases h : r.passes = 0 ∧ r.dwell = none ∧ d.gnssMs < r.start
    · rw [if_pos h, Option.filter_some, if_neg (by simp [h])]
    · rw [if_neg h, Option.filter_some, if_pos]
      rw [Bool.not_eq_true', Bool.eq_false_iff]
      exact fun hb => h (by simpa [and_assoc] using hb)

/-- A verified detection of the host's job, of a channel that is idle. -/
theorem verStarted_state {r : AcqRun} {k : AcqPeak} {x : AcqSeen} (hh : d.verHand r x = true) (ho : d.chanOut r.job.ch = false) :
    (d.verStarted r k x).chState r.job.ch = 1 := by
  unfold Dev.verStarted
  rw [if_pos hh]
  exact chStart_state ho

/-- What only the bank and its event show, the end of a dwell leaves. -/
theorem verEnd_keeps {α : Type} {g : Dev → α} (hg : AcqBlind g) (e : Dev) (r : AcqRun) (ends : Bool) (o : Nat) (p : Option AcqPeak) :
    g (if ends then (e.setRun r).acqFinish o p else e.setRun r) = g e :=
  keeps_ite (g := g) ((hg.acqFinish _ _ _).trans (hg.acq _ _)) (hg.acq _ _)

theorem passCounted_fw (d : Dev) (x : AcqSeen) (c sig sv b ms code : Nat) (dop : Int) :
    d.touches (passCounted (.firmware c sig sv b ms code dop) x d) [] [] := by
  have h : acqPassEnded (.firmware c sig sv b ms code dop) x d = d := rfl
  unfold passCounted
  rw [h]
  dsimp only
  split_ifs
  · exact Dev.touches.refl d [] []
  · exact Dev.touches.refl d [] []

theorem chSeeded_withChans (c : Nat) (n : ChanMeas) (a : Nat) (y : Tab ChanSt) : (d.chSeeded c n a).withChans y = d.withChans y := rfl

section
variable {c sig sv b code cn0 : Nat} {dop : Int}

theorem chNamed_idle (hi : d.chState c = 0) : (d.chNamed c sig sv b).chState c ≠ 1 := by
  have hs : (d.chNamed c sig sv b).chState c = d.chState c := Dev.chState_of_w (chNamed_w (by omega))
  rw [hs, hi]
  decide

variable (ho : d.chanOut c = false)
include ho

/-- The setting word of a channel that starts names its signal. -/
theorem chStart_cfg : (d.chStart c sig sv b code dop cn0).w (gntC c) = (d.chNamed c sig sv b).w (gntC c) := by
  rw [chStart_eq _ _ _ _ _ _ _ _ ho, chSeeded_w, Dev.chTo_cfg]

theorem chStart_g {f : Fld} (hf : f.off = 0) : (d.chStart c sig sv b code dop cn0).g (gntC c) f = (d.chNamed c sig sv b).g (gntC c) f := by
  refine Dev.g_of_w (o := 0) ?_ hf
  rw [Nat.add_zero, chStart_cfg ho]

theorem chStart_nco : ((d.chStart c sig sv b code dop cn0).chan c).nco = some (d.ncoStart c sig sv b code dop cn0) := by
  rw [chStart_eq _ _ _ _ _ _ _ _ ho, chSeeded_nco]

theorem chStart_chg (hi : d.chState c = 0) : bitAt ((d.chStart c sig sv b code dop cn0).w (gntPg c + 0x900)) (c % 32) = true := by
  rw [chStart_eq _ _ _ _ _ _ _ _ ho, chSeeded_w]
  exact chTo_chg (chNamed_idle hi)

theorem chStart_evt (hc : c < 256) (hi : d.chState c = 0) : (d.chStart c sig sv b code dop cn0).evt (gntPg c) 0 = (d.evt (gntPg c) 0).occur := by
  rw [chStart_eq _ _ _ _ _ _ _ _ ho, chSeeded_evt, chTo_evt hc (chNamed_idle hi)]
  rfl

theorem chStart_touches : d.touches ((d.chStart c sig sv b code dop cn0).withChans d.chans) [gntC c, gntC c + 0xC, gntPg c + 0x900] [gntPg c] := by
  have h0 : d.touches (d.withChans d.chans) [gntC c, gntC c + 0xC, gntPg c + 0x900] [gntPg c] := .refl d _ _
  rw [chStart_eq _ _ _ _ _ _ _ _ ho, chSeeded_withChans]
  exact chTo_touches (chNamed_touches h0 (List.mem_cons_self ..)) (List.mem_cons_of_mem _ (List.mem_cons_self ..))
    (List.mem_cons_of_mem _ (List.mem_cons_of_mem _ (List.mem_singleton_self _))) (List.mem_singleton_self _) 1

end

theorem gna_ne_gnt (c : Nat) : gnaPg + 0 ≠ gntPg c := by
  rw [gntPg_eq]
  show 0x210000 + 0 * 0x8000 + 0 * 0x1000 + 0 ≠ _
  omega

end

/-- Settles O45: a job starts only where none runs and a result has room; each end of a pass and of a dwell is one of its cases, and a
channel's start shows in its own words alone. -/
theorem acquisitionJobsRunAndReport : Obligations.AcquisitionJobsRunAndReport := by
  unfold Obligations.AcquisitionJobsRunAndReport
  refine ⟨fun m s hw hg hr => ?_, fun m s hw hg hr => ?_, fun m s hw hg => ?_, fun m s hw => ?_, fun x r s hr hd ht => ?_, fun x s => ⟨fun h => ?_, fun h => ?_⟩,
    fun c sig sv b ms code dop x s => ?_, fun x r k s hg hr hk ht => ?_, fun c sig sv b ms code dop x s hc hb hf hi ho hon hsv hout => ?_,
    fun c sig sv b ms code dop x s h => ?_, fun m s hw => ?_⟩
  · intro j
    obtain ⟨d, hd⟩ : ∃ d, d = s.dev.regAccess m (gnaPg + 0x118) := ⟨_, rfl⟩
    have hj : d.stagedJob = j := hd ▸ rfl
    have hacq : d.acq = s.dev.acq := hd ▸ rfl
    have hms : d.gnssMs = s.dev.gnssMs := hd ▸ rfl
    have he : acqSubmitted d = (d.jobQueued j).acqKick := by
      rw [acqSubmitted_queues d (hd ▸ hg) (by subst hd; exact hr), hj]
    have hrun : (d.jobQueued j).acq.run = s.dev.acq.run := (congrArg AcqSt.run hacq : d.acq.run = _)
    have hres : (d.jobQueued j).acq.res = s.dev.acq.res := (congrArg AcqSt.res hacq : d.acq.res = _)
    have hque : (d.jobQueued j).acq.queue = s.dev.acq.queue ++ [j] :=
      (congrArg (fun a : AcqSt => a.queue ++ [j]) hacq : d.acq.queue ++ [j] = _)
    refine ⟨s.withDev (d.jobQueued j).acqKick, ?_, fun h => ?_, fun h1 h2 h3 => ?_, fun q qs h1 h2 h3 => ?_, ?_, ?_⟩
    · rw [← he, hd]
      exact exec_of_writeAt (f := acqSubmitted) rfl hw
    · rw [State.withDev_dev, acqKick_waits _ (by rwa [hrun, hres])]
      exact ⟨hque, hrun⟩
    · rw [State.withDev_dev, acqKick_starts _ (j := j) (q := []) (hrun.trans h1) (by rwa [hres]) (hque.trans (by rw [h3]; rfl))]
      exact ⟨rfl, by rw [Dev.setAcq_acq, ← hms]; rfl⟩
    · rw [State.withDev_dev, acqKick_starts _ (j := q) (q := qs ++ [j]) (hrun.trans h1) (by rwa [hres]) (hque.trans (by rw [h3]; rfl))]
      exact ⟨rfl, by rw [Dev.setAcq_acq, ← hms]; rfl⟩
    · rw [State.withDev_dev, acqKick_res, hres]
    · refine State.onlyTouches_withAcq ?_
      rw [acqKick_keeps (g := fun e => e.withAcq s.dev.acq) _ fun _ _ => rfl, hd]
      exact Dev.touches_regAccess s.dev m _ _ _
  · obtain ⟨d, hd⟩ : ∃ d, d = s.dev.regAccess m (gnaPg + 0x118) := ⟨_, rfl⟩
    have hj : d.jobRefusal d.stagedJob = s.dev.jobRefusal s.dev.stagedJob := hd ▸ rfl
    have he := acqSubmitted_refused d (hd ▸ hg) (by rw [hj]; exact hr)
    rw [hj] at he
    have hlt := jobRefusal_lt (d := s.dev) s.dev.stagedJob
    generalize s.dev.jobRefusal s.dev.stagedJob = v at he hlt ⊢
    refine ⟨s.withDev ((d.p gnaPg Reg.GNA.QSTAT_REFUSE v).raise gnaPg 1), ?_, ?_, ?_, ?_⟩
    · rw [← he, hd]
      exact exec_of_writeAt (f := acqSubmitted) rfl hw
    · rw [State.withDev_dev, Dev.g_raise, Dev.g_p_same _ _ _ _ (by decide)]
      exact Nat.mod_eq_of_lt hlt
    · rw [State.withDev_dev, Dev.evt_raise_own _ (evtImplemented_gna 1 (by decide)), Dev.evt_p, hd]
      rfl
    · exact ((Dev.touches.p (f := Reg.GNA.QSTAT_REFUSE) (hd ▸ Dev.touches_regAccess s.dev m _ _ _) (List.mem_singleton_self _) v).raise
        (List.mem_singleton_self _)).onlyTouches
  · have he := acqSubmitted_off (s.dev.regAccess m (gnaPg + 0x118)) hg
    refine ⟨s.withDev (s.dev.regAccess m (gnaPg + 0x118)), ?_, (Dev.touches_regAccess s.dev m _ _ _).onlyTouches⟩
    rw [exec_of_writeAt (f := acqSubmitted) rfl hw, he]
  · obtain ⟨d, hd⟩ : ∃ d, d = s.dev.regAccess m (gnaPg + 0x118) := ⟨_, rfl⟩
    refine ⟨s.withDev (acqFlushed d), hd ▸ exec_of_writeAt (f := acqFlushed) rfl hw, ?_⟩
    rw [State.withDev_dev, acqFlushed_eq]
    refine ⟨rfl, hd ▸ rfl, hd ▸ rfl, State.onlyTouches_withAcq ?_⟩
    show s.dev.touches (d.withAcq s.dev.acq) [] []
    exact hd ▸ Dev.touches_regAccess s.dev m _ _ _
  · intro cell p
    have hacq := passCounted_keeps s.dev x (g := Dev.acq) (fun d pg c => d.perf_acq pg c) .host
    refine ⟨s.withDev (passCounted .host x s.dev), rfl, fun hf => ?_, fun hf hp => ?_, fun hf hp => ?_, State.onlyTouches_withAcq (passCounted_touches x ?_)⟩
    · rw [State.withDev_dev, hacq, acqPassEnded_found x hr hd ht hf]
      rfl
    · rw [State.withDev_dev, hacq, acqPassEnded_next x hr hd ht hf hp]
      rfl
    · have hevt := passCounted_keeps s.dev x (g := fun e => e.evt gnaPg 0) (fun d pg c => d.perf_evt pg c _ _) .host
      rw [State.withDev_dev, hacq, hevt, acqPassEnded_last x hr hd ht hf hp]
      exact ⟨acqFinish_res (r := r.passed) rfl _ _, acqFinish_evt (r := r.passed) rfl _ _⟩
    · cases hf : r.finds x.ratio
      · by_cases hp : r.passes + 1 < r.job.passes
        · rw [acqPassEnded_next x hr hd ht hf hp]
          exact Dev.touches.refl s.dev _ _
        · rw [acqPassEnded_last x hr hd ht hf (Nat.not_lt.1 hp)]
          exact acqFinish_touches (r := r.passed) rfl _ _ (Dev.touches.refl s.dev _ _)
      · rw [acqPassEnded_found x hr hd ht hf]
        exact Dev.touches.refl s.dev _ _
  · exact next_onDev (f := passCounted .host x) (d := s.dev) (passCounted_stays _ _ (acqPassEnded_stays s.dev x h))
  · exact next_onDev (f := acqVerifyEnded .host x) (d := s.dev) (acqVerifyEnded_stays x h)
  · exact ⟨s.withDev (passCounted (.firmware c sig sv b ms code dop) x s.dev), rfl, (passCounted_fw s.dev x _ _ _ _ _ _ _).onlyTouches⟩
  · intro cell p ok hand better best ends
    have he := acqVerifyEnded_host x hg hr hk ht
    have hends : ends = r.verEnds x := rfl
    have hhand : hand = s.dev.verHand r x := rfl
    have hacq : (s.dev.verStarted r k x).acq = s.dev.acq := verStarted_keeps (chanBlind_acq _) k x
    have htbs : (s.dev.verStarted r k x).tbs = s.dev.tbs := verStarted_keeps (chanBlind_tbs _) k x
    have hevt : (s.dev.verStarted r k x).evt gnaPg 0 = s.dev.evt gnaPg 0 := verStarted_keeps (chanBlind_evt (gna_ne_gnt _)) k x
    have hstate : hand = true → s.dev.chanOut r.job.ch = false → (s.dev.verStarted r k x).chState r.job.ch = 1 := verStarted_state
    have hdone : ((s.dev.verStarted r k x).setRun (s.dev.verRun r k x)).acq = { s.dev.acq with run := some (s.dev.verRun r k x) } :=
      congrArg (fun a : AcqSt => { a with run := some (s.dev.verRun r k x) }) hacq
    generalize s.dev.verStarted r k x = e at he hacq htbs hevt hstate hdone
    refine ⟨s.withDev (acqVerifyEnded .host x s.dev), rfl, fun h1 h2 => ?_, fun h => ?_, fun h => ?_, ?_, s.keepsRest_withDev _⟩
    · rw [State.withDev_dev, he]
      exact (Dev.chState_of_w (verEnd_keeps (acqBlind_w _) e _ _ _ _)).trans (hstate h1 h2)
    · rw [State.withDev_dev, he, if_pos (hends.symm.trans h)]
      refine ⟨(acqFinish_res rfl _ _).trans ?_, (acqFinish_evt rfl _ _).trans (congrArg EvtWord.occur hevt)⟩
      rw [hdone]
      rfl
    · rw [State.withDev_dev, he, if_neg (by rw [← hends, h]; decide)]
      exact hdone
    · rw [State.withDev_dev, he]
      exact (verEnd_keeps acqBlind_tbs e _ _ _ _).trans htbs
  · obtain ⟨h13, h256⟩ := svOk_bounds hsv
    have he : acqVerifyEnded (.firmware c sig sv b ms code dop) x s.dev = s.dev.chStart c sig sv b code dop x.cn0 := by
      rw [acqVerifyEnded_fw, if_neg (by simp [fwPass_on hf]), if_pos (by simp [Dev.fwStarts, hf, hi, ho, hon, hsv])]
    have hcfg := chStart_cfg (d := s.dev) (c := c) (sig := sig) (sv := sv) (b := b) (code := code) (dop := dop) (cn0 := x.cn0) hout
    exact ⟨s.withDev (s.dev.chStart c sig sv b code dop x.cn0), next_onDev (f := acqVerifyEnded (.firmware c sig sv b ms code dop) x) he,
      chStart_state hout, (Dev.chBand_of_w hcfg).trans (chNamed_band hb), (chStart_g hout (f := Reg.GNT.CCFG_SIG) rfl).trans (chNamed_sig (by omega)),
      (chStart_g hout (f := Reg.GNT.CCFG_SV) rfl).trans (chNamed_sv h256), chStart_nco hout, chStart_chg hout hi, chStart_evt hout hc hi,
      State.onlyTouches_withChans (chStart_touches hout)⟩
  · have he : acqVerifyEnded (.firmware c sig sv b ms code dop) x s.dev = s.dev := by
      rw [acqVerifyEnded_fw]
      split_ifs with h1 h2
      · rfl
      · refine chStart_out _ _ _ _ _ _ _ _ ?_
        have h3 : (s.dev.fwStarts c sig sv b ms && !(s.dev.chanOut c)) = false := h
        rw [h2] at h3
        simpa using h3
      · rfl
    exact next_onDev (f := acqVerifyEnded (.firmware c sig sv b ms code dop) x) (d := s.dev) he
  · obtain ⟨d, hd⟩ : ∃ d, d = s.dev.regAccess m (gnaPg + 0x130) := ⟨_, rfl⟩
    refine ⟨s.withDev (acqPopped d), hd ▸ exec_of_writeAt (f := acqPopped) rfl hw, ?_, State.onlyTouches_withAcq ?_⟩
    · exact (acqKick_res _).trans (hd ▸ rfl)
    · have hk : (acqPopped d).withAcq s.dev.acq = d.withAcq s.dev.acq := acqKick_keeps (g := fun e => e.withAcq s.dev.acq) _ fun _ _ => rfl
      rw [hk, hd]
      exact Dev.touches_regAccess s.dev m _ _ _

end Sys2Proof.Machine
end

section
/-! PROOF. O46: channels track and are stopped, handed over and allocated (R237, R239, R243, R244, R247). -/

namespace Sys2Proof.Machine

/-! ### What a change of state leaves in its word -/

section
variable {d : Dev} {c : Nat}

theorem Dev.g_setChan (x : Nat) (v : ChanSt) (b : Nat) (f : Fld) : (d.setChan x v).g b f = d.g b f := rfl

theorem chMarked_g {st : Nat} {f : Fld} (ho : f.off = 0xC) (hf : 3 ≤ f.lo) : (d.chMarked c st).g (gntC c) f = d.g (gntC c) f := by
  have hne : gntC c + f.off ≠ gntPg c + 0x900 := by
    rw [ho, gntC_eq, gntPg_eq]
    omega
  unfold Dev.chMarked
  rw [Dev.g_setw_ne _ _ hne]
  exact Dev.g_p_beside _ _ Reg.GNT.CSTAT_STATE _ _ _ (congrArg (gntC c + ·) ho) (by decide) (.inl hf)

theorem chTo_cn0 (st : Nat) : (d.chTo c st).g (gntC c) Reg.GNT.CSTAT_CN0 = d.g (gntC c) Reg.GNT.CSTAT_CN0 := by
  by_cases h : d.chState c = st
  · rw [d.chTo_same c st h]
  · have hm := chMarked_g (d := d) (c := c) (st := st) (f := Reg.GNT.CSTAT_CN0) rfl (by decide)
    rw [d.chTo_moves c st h, Dev.g_raise, Dev.g_setChan]
    refine (keeps_ite (g := fun e : Dev => e.g (gntC c) Reg.GNT.CSTAT_CN0) ?_ rfl).trans hm
    unfold Dev.chIdle
    exact (Dev.g_p_apart _ _ _ (by decide) (by decide)).trans (Dev.g_p_apart _ _ _ (by decide) (by decide))

theorem chTo_lock {st : Nat} (hs : st ≠ 0) : (d.chTo c st).g (gntC c) Reg.GNT.CSTAT_PLL_LOCK = d.g (gntC c) Reg.GNT.CSTAT_PLL_LOCK := by
  by_cases h : d.chState c = st
  · rw [d.chTo_same c st h]
  · rw [d.chTo_moves c st h, Dev.g_raise, Dev.g_setChan, if_neg hs]
    exact chMarked_g (f := Reg.GNT.CSTAT_PLL_LOCK) rfl (by decide)

end

/-! ### What a channel's loops find -/

section
variable (d : Dev) (c : Nat) (x : ChanSeen)

/-- The state that follows from what a channel's loops find (R237). -/
def Dev.chNext (d : Dev) (c : Nat) (x : ChanSeen) : Nat :=
  if d.chState c = 4 then (if decide ((d.chan c).at_ + ticks1s ≤ d.now) then 0 else 4)
  else if x.weak then 0
  else if (d.chState c = 1 ∨ d.chState c = 3) ∧ x.steady = true ∧ 85 ≤ x.pli then 2
  else if d.chState c = 1 ∧ decide ((d.chan c).at_ + 500000000 ≤ d.now) = true then 0
  else if d.chState c = 2 ∧ x.pli < 70 then 3 else d.chState c

/-- What the loops of a channel report. -/
def Dev.chReport (d : Dev) (c : Nat) (x : ChanSeen) : Dev :=
  ((d.p (gntC c) Reg.GNT.CSTAT_CN0 x.cn0).pb (gntC c) Reg.GNT.CSTAT_PLL_LOCK (decide (85 ≤ x.pli))).pb (gntC c) Reg.GNT.CSTAT_BIT_SYNC x.bitSync

/-- A device that differs at most in one channel's engine. -/
def Dev.butChan (d e : Dev) (c : Nat) : Prop := e = d ∨ ∃ u, e = d.setChan c u

theorem Dev.butChan.keeps {d e : Dev} {c : Nat} (h : d.butChan e c) {α : Type} {g : Dev → α} (hg : ∀ d v, g (Dev.setChan d c v) = g d) : g e = g d := by
  rcases h with rfl | ⟨u, rfl⟩
  · rfl
  · exact hg d u

variable {d c x}

theorem chReport_state : (d.chReport c x).chState c = d.chState c := by
  unfold Dev.chReport Dev.chState
  exact (Dev.g_p_apart _ _ _ (by decide) (by decide)).trans ((Dev.g_p_apart _ _ _ (by decide) (by decide)).trans
    (Dev.g_p_apart _ _ _ (by decide) (by decide)))

theorem chReport_cn0 : (d.chReport c x).g (gntC c) Reg.GNT.CSTAT_CN0 = x.cn0 % 2 ^ 16 := by
  unfold Dev.chReport
  refine (Dev.g_p_apart _ _ _ (by decide) (by decide)).trans ((Dev.g_p_apart _ _ _ (by decide) (by decide)).trans ?_)
  exact d.g_p_same _ _ _ (by decide)

theorem chReport_lock : (d.chReport c x).gb (gntC c) Reg.GNT.CSTAT_PLL_LOCK = decide (85 ≤ x.pli) := by
  unfold Dev.chReport
  exact (Dev.gb_p_apart _ _ _ (by decide) (by decide)).trans (Dev.gb_pb_same _ _ _ _ (by decide) (by decide))

theorem chReport_evt (pg k : Nat) : (d.chReport c x).evt pg k = d.evt pg k := by
  unfold Dev.chReport
  rw [Dev.evt_pb, Dev.evt_pb, Dev.evt_p]

/-- A field written, the channels' engines put aside. -/
theorem Dev.touches_p_chans {s e : Dev} {ws es : List Nat} {y : Tab ChanSt} (ht : s.touches (e.withChans y) ws es) {b : Nat} {f : Fld}
    (hm : b + f.off ∈ ws) (v : Nat) : s.touches ((e.p b f v).withChans y) ws es := ht.p hm v

theorem chReport_touches {ws es : List Nat} (hw : gntC c + 0xC ∈ ws) : d.touches ((d.chReport c x).withChans d.chans) ws es := by
  have h0 : d.touches (d.withChans d.chans) ws es := .refl d _ _
  unfold Dev.chReport Dev.pb
  exact Dev.touches_p_chans (Dev.touches_p_chans (Dev.touches_p_chans h0 (f := Reg.GNT.CSTAT_CN0) hw _) (f := Reg.GNT.CSTAT_PLL_LOCK) hw _)
    (f := Reg.GNT.CSTAT_BIT_SYNC) hw _

/-- A channel that coasts rests after 1 s. -/
theorem channelMoved_coast (hg : d.gnssOn = true) (h4 : d.chState c = 4) : channelMoved c x d = d.chTo c (d.chNext c x) := by
  unfold channelMoved Dev.chNext
  rw [if_pos h4]
  dsimp only
  rw [h4, if_neg (by simp [hg]), if_pos rfl]
  split_ifs with ha
  · rfl
  · exact (d.chTo_same c 4 h4).symm

/-- A channel that runs reports, and moves by the table. -/
theorem channelMoved_runs (hg : d.gnssOn = true) (h0 : d.chState c ≠ 0) (h4 : d.chState c ≠ 4) :
    ∃ e, (d.chReport c x).butChan e c ∧ channelMoved c x d = (e.chTo c (d.chNext c x)).chBoundary c := by
  have hs := chReport_state (d := d) (c := c) (x := x)
  unfold channelMoved Dev.chNext
  dsimp only
  rw [if_neg (by simp [hg, h0]), if_neg h4, if_neg h4]
  by_cases hw : x.weak = true
  · rw [if_pos hw, if_pos hw]
    exact ⟨_, .inl rfl, rfl⟩
  rw [if_neg hw, if_neg hw]
  by_cases hl : (d.chState c = 1 ∨ d.chState c = 3) ∧ x.steady = true ∧ 85 ≤ x.pli
  · rw [if_pos hl, if_pos (by simpa [and_assoc] using hl)]
    exact ⟨_, .inr ⟨_, rfl⟩, rfl⟩
  rw [if_neg hl, if_neg (by simpa [and_assoc] using hl)]
  by_cases ha : d.chState c = 1 ∧ decide ((d.chan c).at_ + 500000000 ≤ d.now) = true
  · rw [if_pos ha, if_pos (by simpa using ha)]
    exact ⟨_, .inl rfl, rfl⟩
  rw [if_neg ha, if_neg (by simpa using ha)]
  by_cases hp : d.chState c = 2 ∧ x.pli < 70
  · rw [if_pos hp, if_pos (by simpa using hp)]
    exact ⟨_, .inr ⟨_, rfl⟩, rfl⟩
  rw [if_neg hp, if_neg (by simpa using hp)]
  refine ⟨_, .inl rfl, ?_⟩
  rw [Dev.chTo_same _ c _ hs]
  rfl

theorem channelMoved_stays (h : d.gnssOn = false ∨ d.chState c = 0) : channelMoved c x d = d := by
  refine if_pos ?_
  rcases h with h | h <;> simp [h]

theorem chNext_lt : d.chNext c x < 8 := by
  have h : d.chState c < 8 := d.g_lt _ _
  unfold Dev.chNext
  split_ifs <;> omega

theorem chBoundary_w (a : Nat) : (d.chBoundary c).w a = d.w a := rfl

theorem chBoundary_evt (pg k : Nat) : (d.chBoundary c).evt pg k = d.evt pg k := rfl

theorem chBoundary_withChans (y : Tab ChanSt) : (d.chBoundary c).withChans y = d.withChans y := rfl

end

/-- What a move of a channel to a state shows. -/
structure Dev.chMovedTo (d e : Dev) (c st nxt : Nat) : Prop where
  state : e.chState c = nxt
  moved : nxt ≠ st → bitAt (e.w (gntPg c + 0x900)) (c % 32) = true ∧ e.evt (gntPg c) 0 = (d.evt (gntPg c) 0).occur
  stays : nxt = st → d.sameEvents e []
  rest  : d.touches (e.withChans d.chans) [gntC c + 0xC, gntPg c + 0x900] [gntPg c]

theorem chTo_movedTo {d x : Dev} {c nxt : Nat} (hc : c < 256) (hn : nxt < 8) (hs : x.chState c = d.chState c)
    (he : ∀ pg k, x.evt pg k = d.evt pg k) (ht : d.touches (x.withChans d.chans) [gntC c + 0xC, gntPg c + 0x900] [gntPg c]) :
    d.chMovedTo (x.chTo c nxt) c (d.chState c) nxt where
  state := Dev.chTo_state _ _ _ hn
  moved hne := by
    have hne' : x.chState c ≠ nxt := fun h => hne (h.symm.trans hs)
    exact ⟨chTo_chg hne', (chTo_evt hc hne').trans (congrArg EvtWord.occur (he _ _))⟩
  stays heq := by
    rw [Dev.chTo_same _ _ _ (hs.trans heq.symm)]
    exact fun pg k _ => he pg k
  rest := chTo_touches ht (List.mem_cons_self ..) (List.mem_cons_of_mem _ (List.mem_singleton_self _)) (List.mem_singleton_self _) nxt

theorem Dev.chMovedTo.boundary {d e : Dev} {c st nxt : Nat} (h : d.chMovedTo e c st nxt) : d.chMovedTo (e.chBoundary c) c st nxt where
  state := (Dev.chState_of_w (chBoundary_w _)).trans h.state
  moved hne := by
    rw [chBoundary_w, chBoundary_evt]
    exact h.moved hne
  stays heq pg k hk := (chBoundary_evt pg k).trans (h.stays heq pg k hk)
  rest := by
    rw [chBoundary_withChans]
    exact h.rest

theorem Dev.butChan.withChans {d e : Dev} {c : Nat} (h : d.butChan e c) (y : Tab ChanSt) : e.withChans y = d.withChans y :=
  h.keeps (g := fun e => e.withChans y) fun _ _ => rfl

end Sys2Proof.Machine
end

section
/-! PROOF. O46, concluded: allocation, and the commands of channels (R239, R243, R244, R247). -/

namespace Sys2Proof.Machine

/-! ### What allocation reads -/

section
variable {d e : Dev}

/-- The settings of the baseband's bands and signals are the same in two devices. -/
def Dev.sameGnf (d e : Dev) : Prop := ∀ a < 0x210000, e.w a = d.w a

theorem gnfPg_eq : gnfPg = 0x200000 := rfl

theorem sigOn_congr (h : d.sameGnf e) (sig : Nat) : e.sigOn sig = d.sigOn sig := by
  unfold Dev.sigOn Dev.enabled
  by_cases hs : sig < 13
  · rw [h (gnfPg + 8) (by rw [gnfPg_eq]; omega), h (gnfPg + 0x500 + 4 * (sig / 8)) (by rw [gnfPg_eq]; omega)]
  · have hs' : decide (sig < 13) = false := decide_eq_false hs
    rw [hs']
    rfl

theorem bandFor_congr (h : d.sameGnf e) (v : SvView) : e.bandFor v = d.bandFor v := by
  unfold Dev.bandFor
  refine List.find?_congr fun b hb => ?_
  have hb4 : b < 4 := List.mem_range.1 hb
  have h0 : e.gb (gnfB b) Reg.GNF.BCFG_EN = d.gb (gnfB b) Reg.GNF.BCFG_EN := Dev.gb_of_w (o := 0) (h _ (gnfB_lt hb4 (by decide)))
  have h4 : e.g (gnfB b) Reg.GNF.CENTRE = d.g (gnfB b) Reg.GNF.CENTRE := Dev.g_of_w (o := 4) (h _ (gnfB_lt hb4 (by decide)))
  have h8 : e.g (gnfB b) Reg.GNF.SRATE = d.g (gnfB b) Reg.GNF.SRATE := Dev.g_of_w (o := 8) (h _ (gnfB_lt hb4 (by decide)))
  unfold Dev.bandOn Dev.en Dev.enabled Dev.sigFits
  rw [h (gnfPg + 8) (by rw [gnfPg_eq]; omega), h0, h4, h8]

theorem elmask_congr (h : d.sameGnf e) : e.g gnfPg Reg.GNF.ALLOC_ELMASK = d.g gnfPg Reg.GNF.ALLOC_ELMASK :=
  Dev.g_of_w (o := 0x508) (h _ (by rw [gnfPg_eq]; omega))

end

/-! ### The channels of disabled signals -/

/-- A channel of firmware's whose signal is off rests. -/
def Dev.chReleased (e : Dev) (c : Nat) : Dev :=
  if !(e.gb (gntC c) Reg.GNT.CCFG_OWNER) && e.chState c != 0 && !(e.sigOn (e.g (gntC c) Reg.GNT.CCFG_SIG)) then e.chTo c 0 else e

def Dev.chansReleased (d : Dev) : Dev := d.each 256 fun c e => e.chReleased c

theorem ChanBlind.chReleased {α : Type} {g : Dev → α} {c : Nat} (hg : ChanBlind g c) (e : Dev) : g (e.chReleased c) = g e :=
  keeps_ite (g := g) hg.chTo rfl

section
variable {d : Dev}

theorem chansReleased_keeps {α : Type} {g : Dev → α} (hg : ∀ c < 256, ChanBlind g c) : g d.chansReleased = g d :=
  Dev.each_keeps g 256 _ d fun c hc e => (hg c hc).chReleased e

theorem chansReleased_gnf : d.sameGnf d.chansReleased := fun a ha => chansReleased_keeps (g := fun e => e.w a) fun _ _ => chanBlind_w (chanApart_low (by omega))

theorem chReleased_cfg (e : Dev) (i c : Nat) : (e.chReleased i).w (gntC c) = e.w (gntC c) :=
  keeps_ite (g := fun e => e.w (gntC c)) (Dev.chTo_cfg _ _ _ _) rfl

theorem chansReleased_cfg (c : Nat) : d.chansReleased.w (gntC c) = d.w (gntC c) :=
  Dev.each_keeps (fun e => e.w (gntC c)) 256 _ d fun i _ e => chReleased_cfg e i c

theorem Dev.gb_cfg {d e : Dev} {c : Nat} (h : e.w (gntC c) = d.w (gntC c)) {f : Fld} (hf : f.off = 0) : e.gb (gntC c) f = d.gb (gntC c) f :=
  Dev.gb_of_w (o := 0) (by rwa [Nat.add_zero]) hf

theorem Dev.g_cfg {d e : Dev} {c : Nat} (h : e.w (gntC c) = d.w (gntC c)) {f : Fld} (hf : f.off = 0) : e.g (gntC c) f = d.g (gntC c) f :=
  Dev.g_of_w (o := 0) (by rwa [Nat.add_zero]) hf

theorem chansReleased_gb {c : Nat} {f : Fld} (hf : f.off = 0) : d.chansReleased.gb (gntC c) f = d.gb (gntC c) f := Dev.gb_cfg (chansReleased_cfg c) hf

/-- A channel that does not lose its signal keeps its state. -/
theorem chansReleased_state {c : Nat} (hn : (d.gb (gntC c) Reg.GNT.CCFG_OWNER = true ∨ d.chState c = 0)) :
    d.chansReleased.chState c = d.chState c := by
  have h : d.chansReleased.w (gntC c) = d.w (gntC c) ∧ d.chansReleased.chState c = d.chState c := by
    refine Dev.each_ind (P := fun e => e.w (gntC c) = d.w (gntC c) ∧ e.chState c = d.chState c) ⟨rfl, rfl⟩ fun i _ e he => ?_
    obtain ⟨h1, h2⟩ := he
    refine ⟨(chReleased_cfg e i c).trans h1, ?_⟩
    by_cases hi : i = c
    · subst hi
      unfold Dev.chReleased
      rw [if_neg, h2]
      rcases hn with hn | hn
      · simp [(Dev.gb_cfg h1 (f := Reg.GNT.CCFG_OWNER) rfl).trans hn]
      · simp [h2.trans hn]
    · exact ((chanBlind_state hi).chReleased e).trans h2
  exact h.2

/-- A channel of firmware's whose signal is off rests. -/
theorem chansReleased_off {c : Nat} (hc : c < 256) (ho : d.gb (gntC c) Reg.GNT.CCFG_OWNER = false)
    (hs : d.sigOn (d.g (gntC c) Reg.GNT.CCFG_SIG) = false) : d.chansReleased.chState c = 0 := by
  refine Dev.each_own (Q := fun e => d.sameGnf e ∧ e.w (gntC c) = d.w (gntC c)) (R := fun e => e.chState c = 0) (j := c) ⟨fun _ _ => rfl, rfl⟩ ?_ ?_ hc ?_
  · rintro i hi e ⟨h1, h2⟩
    exact ⟨fun a ha => ((chanBlind_w (chanApart_low (by omega))).chReleased e).trans (h1 a ha), (chReleased_cfg e i c).trans h2⟩
  · rintro e ⟨h1, h2⟩
    by_cases h0 : e.chState c = 0
    · unfold Dev.chReleased
      rw [if_neg (by simp [h0]), h0]
    · unfold Dev.chReleased
      rw [if_pos]
      · exact Dev.chTo_state _ _ _ (by decide)
      · rw [Dev.gb_cfg h2 (f := Reg.GNT.CCFG_OWNER) rfl, Dev.g_cfg h2 (f := Reg.GNT.CCFG_SIG) rfl, sigOn_congr h1, ho, hs]
        simp [h0]
  · intro i hi hci e he
    exact ((chanBlind_state (by omega)).chReleased e).trans he

end

/-! ### A view served -/

/-- The firmware channel that a view takes, if any: a free one, or the one served last where the view is before it. -/
def allocStep (acc : Dev × List Nat) (v : SvView) : Dev × List Nat :=
  let e := acc.1
  match (List.range 256).find? (fun c => e.holds c v) with
  | some c => (e.setChan c { e.chan c with elev := v.elev }, acc.2)
  | none =>
    let b := (e.bandFor v).getD 0
    match (List.range 256).find? (fun c =>
      !(e.gb (gntC c) Reg.GNT.CCFG_OWNER) && e.chState c == 0 && !(e.chanOut c) && !(acc.2.contains c)) with
    | some c => (e.giveChan c v b, c :: acc.2)
    | none =>
      match e.worstChan with
      | some c =>
        if e.sigPrio v.sig < e.sigPrio (e.g (gntC c) Reg.GNT.CCFG_SIG) then (e.giveChan c v b, c :: acc.2) else acc
      | none => acc

/-- The views that may be served. -/
def Dev.viewsWanted (d : Dev) (views : List SvView) : List SvView :=
  views.filter fun v => d.sigOn v.sig && svOk v.sig v.sv && decide (d.g gnfPg Reg.GNF.ALLOC_ELMASK < v.elev) && (d.bandFor v).isSome

theorem channelsAllocated_eq (views : List SvView) (d : Dev) : channelsAllocated views d =
    if !(d.gnssOn) || !(d.gb gnfPg Reg.GNF.ALLOC_AUTO) then d
    else (((d.chansReleased.viewsWanted views).foldr (fun v l => d.chansReleased.insertView v l) []).foldl allocStep (d.chansReleased, [])).1 := rfl

/-- A channel given to a pair, as its settings name it. -/
theorem giveChan_eq (d : Dev) (c : Nat) (v : SvView) (b : Nat) :
    d.giveChan c v b = ((d.chTo c 0).chNamed c v.sig v.sv b).setChan c { (d.chTo c 0).chan c with elev := v.elev } := rfl

theorem ChanBlind.giveChan {α : Type} {g : Dev → α} {c : Nat} (hg : ChanBlind g c) (d : Dev) (v : SvView) (b : Nat) : g (d.giveChan c v b) = g d := by
  rw [giveChan_eq]
  exact (hg.chan _ _).trans (hg.chNamed.trans hg.chTo)

theorem giveChan_state (d : Dev) (c : Nat) (v : SvView) (b : Nat) : (d.giveChan c v b).chState c = 0 := by
  rw [giveChan_eq, Dev.chState_setChan]
  exact (Dev.chState_of_w (chNamed_w (by omega))).trans (Dev.chTo_state _ _ _ (by decide))

/-- A channel compared with the one served last so far. -/
def Dev.worstStep (d : Dev) (m : Option Nat) (c : Nat) : Option Nat :=
  if d.gb (gntC c) Reg.GNT.CCFG_OWNER || d.chState c == 0 then m
  else match m with
    | none => some c
    | some x =>
      let pc := d.sigPrio (d.g (gntC c) Reg.GNT.CCFG_SIG)
      let px := d.sigPrio (d.g (gntC x) Reg.GNT.CCFG_SIG)
      if px < pc ∨ (px = pc ∧ (d.chan c).elev < (d.chan x).elev) then some c else some x

theorem worstChan_eq (d : Dev) : d.worstChan = (List.range 256).foldl d.worstStep none := rfl

theorem worstStep_some {d : Dev} {m : Option Nat} {c x : Nat} (h : d.worstStep m c = some x) :
    m = some x ∨ x = c ∧ d.gb (gntC c) Reg.GNT.CCFG_OWNER = false := by
  unfold Dev.worstStep at h
  by_cases ho : (d.gb (gntC c) Reg.GNT.CCFG_OWNER || d.chState c == 0) = true
  · rw [if_pos ho] at h
    exact .inl h
  · rw [if_neg ho] at h
    rw [Bool.or_eq_true, not_or, Bool.not_eq_true] at ho
    split at h
    · exact .inr ⟨(Option.some.inj h).symm, ho.1⟩
    · dsimp only at h
      split_ifs at h
      · exact .inr ⟨(Option.some.inj h).symm, ho.1⟩
      · exact .inl h

/-- The channel served last is firmware's. -/
theorem worstChan_owner {d : Dev} {c : Nat} (h : d.worstChan = some c) : d.gb (gntC c) Reg.GNT.CCFG_OWNER = false ∧ c < 256 := by
  have hl : ∀ (l : List Nat) (m : Option Nat), (∀ x ∈ l, x < 256) → (∀ x, m = some x → d.gb (gntC x) Reg.GNT.CCFG_OWNER = false ∧ x < 256) →
      ∀ x, l.foldl d.worstStep m = some x → d.gb (gntC x) Reg.GNT.CCFG_OWNER = false ∧ x < 256 := by
    intro l
    induction l with
    | nil => exact fun _ _ hm => hm
    | cons c l ih =>
      intro m hb hm
      refine ih _ (fun x hx => hb x (List.mem_cons_of_mem _ hx)) fun x hx => ?_
      rcases worstStep_some hx with h | ⟨rfl, h⟩
      · exact hm x h
      · exact ⟨h, hb x (List.mem_cons_self ..)⟩
  rw [worstChan_eq] at h
  exact hl _ none (fun x hx => List.mem_range.1 hx) (fun x hx => nomatch hx) c h

/-- A view changes nothing, a channel's engine, or gives a channel of firmware's. -/
inductive allocs (e : Dev) : Dev → Prop
  | none : allocs e e
  | noted (c : Nat) (u : ChanSt) : c < 256 → e.gb (gntC c) Reg.GNT.CCFG_OWNER = false → allocs e (e.setChan c u)
  | given (c : Nat) (v : SvView) (b : Nat) : c < 256 → e.gb (gntC c) Reg.GNT.CCFG_OWNER = false → allocs e (e.giveChan c v b)

theorem holds_owner {e : Dev} {c : Nat} {v : SvView} (h : e.holds c v = true) : e.gb (gntC c) Reg.GNT.CCFG_OWNER = false ∧
    e.g (gntC c) Reg.GNT.CCFG_SIG = v.sig ∧ e.g (gntC c) Reg.GNT.CCFG_SV = v.sv := by
  unfold Dev.holds at h
  simp only [Bool.and_eq_true, Bool.not_eq_true', beq_iff_eq] at h
  exact ⟨h.1.1.1, h.1.2, h.2⟩

theorem allocStep_allocs (acc : Dev × List Nat) (v : SvView) : allocs acc.1 (allocStep acc v).1 := by
  unfold allocStep
  dsimp only
  split
  · rename_i c hc
    have hp := List.find?_some hc
    exact .noted c _ (List.mem_range.1 (List.mem_of_find?_eq_some hc)) (holds_owner (e := acc.1) (v := v) hp).1
  · split
    · rename_i c hc
      have hp := List.find?_some hc
      simp only [Bool.and_eq_true, Bool.not_eq_true'] at hp
      exact .given c _ _ (List.mem_range.1 (List.mem_of_find?_eq_some hc)) hp.1.1.1
    · split
      · rename_i c hc
        obtain ⟨h1, h2⟩ := worstChan_owner hc
        split_ifs
        · exact .given c _ _ h2 h1
        · exact .none
      · exact .none

/-- What every way of serving a view keeps, allocation keeps. -/
theorem alloc_keeps {P : Dev → Prop} (hP : ∀ e x, allocs e x → P e → P x) (l : List SvView) (acc : Dev × List Nat) (h : P acc.1) :
    P (l.foldl allocStep acc).1 := by
  induction l generalizing acc with
  | nil => exact h
  | cons v l ih => exact ih _ (hP _ _ (allocStep_allocs acc v) h)

section
variable {d e x : Dev} {c : Nat}

theorem allocs_keeps {α : Type} {g : Dev → α} (hg : ∀ c < 256, ChanBlind g c) (h : allocs e x) : g x = g e := by
  cases h with
  | none => rfl
  | noted c u hc _ => exact (hg c hc).chan e u
  | given c v b hc _ => exact (hg c hc).giveChan e v b

/-- A channel that rests goes on resting. -/
theorem allocs_rests (h : allocs e x) (h0 : e.chState c = 0) : x.chState c = 0 := by
  cases h with
  | none => exact h0
  | noted i u _ _ => exact h0
  | given i v b _ _ =>
    by_cases hi : i = c
    · rw [hi]
      exact giveChan_state e c v b
    · exact ((chanBlind_state hi).giveChan e v b).trans h0

/-- A channel of the host's is not touched. -/
theorem allocs_host (h : allocs e x) (ho : e.gb (gntC c) Reg.GNT.CCFG_OWNER = true) : x.w (gntC c) = e.w (gntC c) ∧ x.chState c = e.chState c := by
  cases h with
  | none => exact ⟨rfl, rfl⟩
  | noted i u _ _ => exact ⟨rfl, rfl⟩
  | given i v b _ hf =>
    have hi : i ≠ c := by
      rintro rfl
      exact absurd (ho.symm.trans hf) (by decide)
    refine ⟨?_, (chanBlind_state hi).giveChan e v b⟩
    have := (chanBlind_w (chanApart_ne hi (o := 0) (by decide))).giveChan e v b
    rwa [Nat.add_zero] at this

end

end Sys2Proof.Machine
end

section
/-! PROOF. O46: what the commands of channels come to. -/

namespace Sys2Proof.Machine

section
variable {d e : Dev} {v : SvView}

/-- A pair in view takes a channel where one of firmware's is free. -/
theorem allocStep_serves {c0 : Nat} (hc0 : c0 < 256) (ho : e.gb (gntC c0) Reg.GNT.CCFG_OWNER = false) (hs : e.chState c0 = 0)
    (hu : e.chanOut c0 = false) (hv : svOk v.sig v.sv = true) : ∃ c < 256, (allocStep (e, []) v).1.gb (gntC c) Reg.GNT.CCFG_OWNER = false ∧
      (allocStep (e, []) v).1.g (gntC c) Reg.GNT.CCFG_SIG = v.sig ∧ (allocStep (e, []) v).1.g (gntC c) Reg.GNT.CCFG_SV = v.sv := by
  obtain ⟨h13, h256⟩ := svOk_bounds hv
  unfold allocStep
  dsimp only
  split
  · rename_i c hc
    have hp := List.find?_some hc
    exact ⟨c, List.mem_range.1 (List.mem_of_find?_eq_some hc), holds_owner (e := e) (v := v) hp⟩
  · split
    · rename_i c hc
      have hp := List.find?_some hc
      simp only [Bool.and_eq_true, Bool.not_eq_true'] at hp
      have hcfg : (e.giveChan c v ((e.bandFor v).getD 0)).w (gntC c) = ((e.chTo c 0).chNamed c v.sig v.sv ((e.bandFor v).getD 0)).w (gntC c) := rfl
      refine ⟨c, List.mem_range.1 (List.mem_of_find?_eq_some hc), ?_, ?_, ?_⟩
      · exact (Dev.gb_cfg hcfg rfl).trans (chNamed_owner.trans ((Dev.gb_cfg (Dev.chTo_cfg _ _ _ _) rfl).trans hp.1.1.1))
      · exact (Dev.g_cfg hcfg rfl).trans (chNamed_sig (by omega))
      · exact (Dev.g_cfg hcfg rfl).trans (chNamed_sv h256)
    · rename_i hn
      have := List.find?_eq_none.1 hn c0 (List.mem_range.2 hc0)
      simp [ho, hs, hu] at this

theorem chansReleased_out (c : Nat) : d.chansReleased.chanOut c = d.chanOut c := by
  have h : d.chansReleased.unitsOut = d.unitsOut := chansReleased_keeps (g := Dev.unitsOut) fun c _ =>
    chanBlind_of (fun _ _ _ => rfl) (fun _ _ => rfl) fun d _ _ => d.raise_unitsOut _ _
  unfold Dev.chanOut
  rw [h]

/-- The channels of a device after views have been served in an order. -/
def Dev.viewsServed (d : Dev) (l : List SvView) : Dev := (l.foldl allocStep (d.chansReleased, [])).1

theorem channelsAllocated_on (hg : d.gnssOn = true) (ha : d.gb gnfPg Reg.GNF.ALLOC_AUTO = true) (views : List SvView) :
    ∃ l : List SvView, channelsAllocated views d = d.viewsServed l := by
  rw [channelsAllocated_eq, if_neg (by simp [hg, ha])]
  exact ⟨_, rfl⟩

theorem channelsAllocated_one (hg : d.gnssOn = true) (ha : d.gb gnfPg Reg.GNF.ALLOC_AUTO = true) (hs : d.sigOn v.sig = true)
    (hv : svOk v.sig v.sv = true) (he : d.g gnfPg Reg.GNF.ALLOC_ELMASK < v.elev) (hb : (d.bandFor v).isSome = true) :
    channelsAllocated [v] d = (allocStep (d.chansReleased, []) v).1 := by
  have hw : d.chansReleased.viewsWanted [v] = [v] := by
    unfold Dev.viewsWanted
    rw [List.filter_cons, if_pos, List.filter_nil]
    rw [sigOn_congr chansReleased_gnf, elmask_congr chansReleased_gnf, bandFor_congr chansReleased_gnf]
    simp [hs, hv, he, hb]
  rw [channelsAllocated_eq, if_neg (by simp [hg, ha]), hw]
  rfl

theorem channelsAllocated_stays {views : List SvView} (h : d.gnssOn = false ∨ d.gb gnfPg Reg.GNF.ALLOC_AUTO = false) : channelsAllocated views d = d := by
  refine if_pos ?_
  rcases h with h | h <;> simp [h]

theorem multipathFitted_eq {c delay amp : Nat} {ok : Bool} (h1 : d.gnssOn = true) (h2 : d.chState c ≠ 0)
    (h3 : (d.chan c).fitSec ≠ some (d.sec d.lead 0)) : multipathFitted c delay amp ok d = d.setChan c { d.chan c with
      path := some (delay % 2 ^ 16, amp % 256), pathOk := decide (13 ≤ amp) && ok, fitSec := some (d.sec d.lead 0) } :=
  if_neg (by simp [h1, h2, h3])

theorem multipathFitted_stays {c delay amp : Nat} {ok : Bool} (h : d.gnssOn = false ∨ d.chState c = 0 ∨
    (d.chan c).fitSec = some (d.sec d.lead 0)) : multipathFitted c delay amp ok d = d := by
  refine if_pos ?_
  rcases h with h | h | h <;> simp [h]

section
variable {c : Nat} (l : List SvView)

theorem viewsServed_keeps {P : Dev → Prop} (hP : ∀ e x, allocs e x → P e → P x) (h : P d.chansReleased) : P (d.viewsServed l) := by
  unfold Dev.viewsServed
  generalize d.chansReleased = e at h
  exact alloc_keeps hP l (e, []) h

theorem viewsServed_rests (hc : c < 256) (ho : d.gb (gntC c) Reg.GNT.CCFG_OWNER = false) (hs : d.sigOn (d.g (gntC c) Reg.GNT.CCFG_SIG) = false) :
    (d.viewsServed l).chState c = 0 := by
  have h := viewsServed_keeps (P := fun e => e.chState c = 0) l (fun _ _ h => allocs_rests h) (chansReleased_off hc ho hs)
  exact h

theorem viewsServed_host (ho : d.gb (gntC c) Reg.GNT.CCFG_OWNER = true) :
    (d.viewsServed l).w (gntC c) = d.w (gntC c) ∧ (d.viewsServed l).chState c = d.chState c := by
  refine viewsServed_keeps (P := fun e => e.w (gntC c) = d.w (gntC c) ∧ e.chState c = d.chState c) l (fun e x h he => ?_)
    ⟨chansReleased_cfg c, chansReleased_state (.inl ho)⟩
  obtain ⟨h1, h2⟩ := allocs_host h ((Dev.gb_cfg he.1 rfl).trans ho)
  exact ⟨h1.trans he.1, h2.trans he.2⟩

theorem viewsServed_tbs : (d.viewsServed l).tbs = d.tbs := by
  refine viewsServed_keeps (P := fun e => e.tbs = d.tbs) l (fun _ _ h he => (allocs_keeps (fun c _ => chanBlind_tbs c) h).trans he) ?_
  exact chansReleased_keeps fun c _ => chanBlind_tbs c

end

/-- A channel that the host may stop rests where it does. -/
theorem channelStopped_movedTo {c : Nat} (ht : e.touches (d.withChans e.chans) [gntC c + 0xC, gntPg c + 0x900] [gntPg c]) :
    (channelStopped c d).chState c = (if d.gb (gntC c) Reg.GNT.CCFG_OWNER then 0 else d.chState c) ∧
      e.touches ((channelStopped c d).withChans e.chans) [gntC c + 0xC, gntPg c + 0x900] [gntPg c] := by
  unfold channelStopped
  split_ifs
  · exact ⟨Dev.chTo_state _ _ _ (by decide), chTo_touches ht (List.mem_cons_self ..) (List.mem_cons_of_mem _ (List.mem_singleton_self _))
      (List.mem_singleton_self _) 0⟩
  · exact ⟨rfl, ht⟩

theorem channelOwned_changed {c : Nat} {v : Bool} (h : d.gb (gntC c) Reg.GNT.CCFG_OWNER ≠ v) :
    channelOwned c v d = (d.pb (gntC c) Reg.GNT.CCFG_OWNER v).chTo c 0 := if_neg h

theorem channelOwned_same {c : Nat} {v : Bool} (h : d.gb (gntC c) Reg.GNT.CCFG_OWNER = v) : channelOwned c v d = d := if_pos h

end

/-- Settles O46: a change of state writes a channel's own words; a view served gives at most one channel, of firmware's. -/
theorem channelsTrackAndAreAllocated : Obligations.ChannelsTrackAndAreAllocated := by
  unfold Obligations.ChannelsTrackAndAreAllocated
  refine ⟨fun c x s hg hn => ?_, fun c x s h => next_onDev (f := channelMoved c.val x) (d := s.dev) (channelMoved_stays h), fun m c s hw => ?_,
    fun m c v s hw => ?_, fun m i v s hw => ?_, fun c delay amp ok s h1 h2 h3 => ?_,
    fun c delay amp ok s h => next_onDev (f := multipathFitted c.val delay amp ok) (d := s.dev) (multipathFitted_stays h),
    fun views s hg ha => ?_, fun views s h => next_onDev (f := channelsAllocated views) (d := s.dev) (channelsAllocated_stays h),
    fun v c0 s hg ha hs hv he hb ho h0 hu => ?_⟩
  · intro st aged nxt
    have hnxt : nxt = s.dev.chNext c.val x := rfl
    have hm0 : gntC c.val + 0xC ∈ [gntC c.val + 0xC, gntPg c.val + 0x900] := List.mem_cons_self ..
    by_cases h4 : s.dev.chState c.val = 4
    · have hm := chTo_movedTo (d := s.dev) (x := s.dev) (nxt := nxt) c.isLt (hnxt ▸ chNext_lt) rfl (fun _ _ => rfl) (.refl s.dev _ _)
      refine ⟨s.withDev (s.dev.chTo c.val nxt), next_onDev (f := channelMoved c.val x) (channelMoved_coast hg h4), hm.state, fun h => absurd h4 h,
        fun h => absurd h4 h, hm.moved, hm.stays, State.onlyTouches_withChans hm.rest⟩
    · obtain ⟨e, hb, he⟩ := channelMoved_runs (x := x) hg hn h4
      have hs : e.chState c.val = s.dev.chState c.val :=
        (hb.keeps (g := fun e => e.chState c.val) fun _ _ => rfl).trans chReport_state
      have hev : ∀ pg k, e.evt pg k = s.dev.evt pg k := fun pg k => (hb.keeps (g := fun e => e.evt pg k) fun _ _ => rfl).trans (chReport_evt pg k)
      have hw : ∀ a, e.w a = (s.dev.chReport c.val x).w a := fun a => hb.keeps (g := fun e => e.w a) fun _ _ => rfl
      have ht : s.dev.touches (e.withChans s.dev.chans) [gntC c.val + 0xC, gntPg c.val + 0x900] [gntPg c.val] := by
        rw [hb.withChans]
        exact chReport_touches hm0
      have hm := (chTo_movedTo (d := s.dev) (x := e) (nxt := nxt) c.isLt (hnxt ▸ chNext_lt) hs hev ht).boundary
      refine ⟨s.withDev ((e.chTo c.val nxt).chBoundary c.val), next_onDev (f := channelMoved c.val x) he, hm.state, fun _ => ?_, fun _ h0 => ?_,
        hm.moved, hm.stays, State.onlyTouches_withChans hm.rest⟩
      · exact (Dev.g_of_w (o := 0xC) (chBoundary_w _)).trans ((chTo_cn0 nxt).trans ((Dev.g_of_w (o := 0xC) (hw _)).trans chReport_cn0))
      · exact (Dev.gb_of_w (o := 0xC) (chBoundary_w _)).trans ((congrArg (· == 1) (chTo_lock h0)).trans ((Dev.gb_of_w (o := 0xC) (hw _)).trans chReport_lock))
  · obtain ⟨d, hd⟩ : ∃ d, d = s.dev.regAccess m (gntC c.val) := ⟨_, rfl⟩
    obtain ⟨h1, h2⟩ := channelStopped_movedTo (d := d) (e := s.dev) (c := c.val) (hd ▸ Dev.touches_regAccess s.dev m _ _ _)
    refine ⟨s.withDev (channelStopped c.val d), hd ▸ exec_of_writeAt (f := channelStopped c.val) rfl hw, h1.trans (hd ▸ rfl), State.onlyTouches_withChans h2⟩
  · obtain ⟨d, hd⟩ : ∃ d, d = s.dev.regAccess m (gntC c.val) := ⟨_, rfl⟩
    have hown : d.gb (gntC c.val) Reg.GNT.CCFG_OWNER = s.dev.gb (gntC c.val) Reg.GNT.CCFG_OWNER := hd ▸ rfl
    have hst : d.chState c.val = s.dev.chState c.val := hd ▸ rfl
    have ht : s.dev.touches (d.withChans s.dev.chans) [gntC c.val, gntC c.val + 0xC, gntPg c.val + 0x900] [gntPg c.val] :=
      hd ▸ Dev.touches_regAccess s.dev m _ _ _
    refine ⟨s.withDev (channelOwned c.val v d), hd ▸ exec_of_writeAt (f := channelOwned c.val v) rfl hw, ?_⟩
    rw [State.withDev_dev]
    by_cases hv : d.gb (gntC c.val) Reg.GNT.CCFG_OWNER = v
    · rw [channelOwned_same hv]
      exact ⟨hv, fun h => absurd (hown.symm.trans hv) h, fun _ => hst, State.onlyTouches_withChans ht⟩
    · rw [channelOwned_changed hv]
      refine ⟨?_, fun _ => Dev.chTo_state _ _ _ (by decide), fun h => absurd (hown.trans h) hv, State.onlyTouches_withChans ?_⟩
      · exact (Dev.gb_cfg (Dev.chTo_cfg _ _ _ _) rfl).trans (Dev.gb_pb_same _ _ _ _ (by decide) (by decide))
      · refine chTo_touches ?_ (List.mem_cons_of_mem _ (List.mem_cons_self ..)) (List.mem_cons_of_mem _ (List.mem_cons_of_mem _ (List.mem_singleton_self _)))
          (List.mem_singleton_self _) 0
        have hoff : Reg.GNT.CCFG_OWNER.off = 0 := rfl
        have h0 : gntC c.val + Reg.GNT.CCFG_OWNER.off ∈ [gntC c.val, gntC c.val + 0xC, gntPg c.val + 0x900] := by
          simp [hoff]
        exact Dev.touches_p_chans ht (f := Reg.GNT.CCFG_OWNER) h0 _
  · obtain ⟨d, hd⟩ : ∃ d, d = s.dev.regAccess m (pageAddr .gnt .warp i.val + 0x904) := ⟨_, rfl⟩
    have hlt : s.dev.w (pageAddr .gnt .warp i.val + 0x900) &&& (0xFFFFFFFF - v.toNat) < 2 ^ 32 := Nat.lt_of_le_of_lt Nat.and_le_left (s.dev.w_lt _)
    refine ⟨s.withDev (chgCleared i.val v.toNat d), hd ▸ exec_of_writeAt (f := chgCleared i.val v.toNat) rfl hw, ?_, ?_⟩
    · rw [State.withDev_dev]
      unfold chgCleared
      rw [Dev.w_setw, if_pos rfl, hd, Dev.w_regAccess, Nat.mod_eq_of_lt hlt]
    · exact (Dev.touches.setw (hd ▸ Dev.touches_regAccess s.dev m _ _ _) (List.mem_singleton_self _) _).onlyTouches
  · refine ⟨s.withDev _, next_onDev (f := multipathFitted c.val delay amp ok) (multipathFitted_eq h1 h2 h3), ?_, ?_, fun k _ hk => ?_, rfl, s.keepsRest_withDev _⟩
    · rw [State.withDev_dev, Dev.chan_setChan_same]
    · rw [State.withDev_dev, Dev.chan_setChan_same]
    · rw [State.withDev_dev, Dev.chan_setChan_ne _ hk]
  · obtain ⟨l, hl⟩ := channelsAllocated_on hg ha views
    refine ⟨s.withDev (s.dev.viewsServed l), next_onDev (f := channelsAllocated views) hl, fun c hc ho hs => ?_, fun c hc ho => ?_,
      ?_, s.keepsRest_withDev _⟩
    · rw [State.withDev_dev, viewsServed_rests l hc ho hs]
    · rw [State.withDev_dev]
      exact viewsServed_host l ho
    · rw [State.withDev_dev, viewsServed_tbs]
  · exact ⟨s.withDev _, next_onDev (f := channelsAllocated [v]) (channelsAllocated_one hg ha hs hv he hb),
      allocStep_serves c0.isLt ((chansReleased_gb rfl).trans ho) ((chansReleased_state (.inr h0)).trans h0) ((chansReleased_out _).trans hu) hv⟩

end Sys2Proof.Machine
end

section
/-! PROOF. O47: what a solution reports, and what its later steps leave (R249 to R262). -/

namespace Sys2Proof.Machine

/-- A word that a solution writes beside its report: of a candidate, a selector, a timebase page, or of mode and position. -/
def solWord (a : Nat) : Prop := inBlock .ref a ∨ inBlock .sel a ∨ inBlock .tsu a ∨ (gnsPg + 0x100 ≤ a ∧ a < gnsPg + 0x124)

/-- An observation in which a solution shows by its report, its verdict and its second alone. -/
structure SolBlind {α : Type} (g : Dev → α) : Prop where
  word  : ∀ d a v, solWord a → g (Dev.setw d a v) = g d
  event : ∀ d pg k, g (Dev.raise d pg k) = g d
  cand  : ∀ d h c u, g (Dev.setCand d h c u) = g d
  sels  : ∀ d (x : Tab SelSt), g { d with sels := x } = g d
  sched : ∀ d (x : Sched), g { d with sched := x } = g d
  sol   : ∀ d (v : SolSt), v.doneSec = d.sol.doneSec → v.lastAt = d.sol.lastAt → g { d with sol := v } = g d

theorem leapPg_block (h : Half) {o : Nat} (ho : o < 0x1000) : inBlock .tsu (leapPg h + o) := inBlock_pageAddr .tsu h (by omega)

section
variable {α : Type} {g : Dev → α} (hg : SolBlind g) (d : Dev)
include hg

theorem SolBlind.raiseIf (x : Bool) (pg k : Nat) : g (d.raiseIf x pg k) = g d := by
  cases x
  · rfl
  · exact hg.event d pg k

theorem SolBlind.refWord (h : Half) {c : Nat} (hc : c < 64) {f : Fld} (hf : f.off < 0x40) (v : Nat) : g (d.p (refQ h c) f v) = g d :=
  hg.word d _ _ (.inl (inBlock_refQ h hc hf))

theorem SolBlind.hidden (h : Half) {c : Nat} (hc : c < 64) : CandHidden g h c where
  word d _ v hf := hg.refWord d h hc hf v
  suspect d _ := hg.word d _ _ (.inr (.inl (inBlock_selPg h (by decide))))
  engine d u := hg.cand d h c u
  event d k _ := hg.event d _ k

theorem SolBlind.nativeQr (h : Half) {c : Nat} (hc : c < 64) (q : Nat) : g (nativeQr h c q d) = g d := by
  unfold Machine.nativeQr
  refine keeps_ite (g := g) rfl ?_
  exact ((hg.hidden h hc).candRefresh _).trans ((hg.event _ _ _).trans (hg.refWord d h hc (f := Reg.REF.CSTAT_RX_QR) (by decide) q))

theorem SolBlind.candMeasured (h : Half) (raw : Int) : g (candMeasured h 12 raw d) = g d := by
  have hw (e : Dev) (f : Fld) (hf : f.off < 0x40) (v : Nat) : g (e.p (refQ h 12) f v) = g e := hg.refWord e h (by decide) hf v
  unfold Machine.candMeasured
  refine keeps_ite (g := g) rfl ?_
  dsimp only
  rw [if_neg (by decide)]
  refine (Dev.each_keeps g 16 _ _ fun n _ e => ?_).trans ((hg.cand _ _ _ _).trans ((hw _ _ (by decide) _).trans (hw _ _ (by decide) _)))
  exact keeps_ite (g := g) (hg.sels e _) rfl

theorem SolBlind.solToC12 (s : Sol) : g (d.solToC12 s) = g d := by
  unfold Dev.solToC12
  dsimp only
  refine foldl_keeps (g := g) (fun e h => ?_) _ d
  have h1 (v : Nat) : g (e.p (refQ h 12) Reg.REF.NBUDGET v) = g e := hg.refWord e h (by decide) (by decide) v
  split
  · exact h1 _
  · refine (keeps_ite (g := g) (hg.candMeasured _ _ _) rfl).trans ?_
    exact ((hg.hidden h (by decide)).putFault _ _ _).trans (h1 _)

theorem SolBlind.putPos (p : Pos) : g (d.putPos p) = g d := by
  have hw (e : Dev) (x v : Nat) (hx : 0x100 ≤ x ∧ x < 0x124) : g (e.setw (gnsPg + x) v) = g e := hg.word e _ v (.inr (.inr (.inr (by omega))))
  unfold Dev.putPos
  extract_lets put d1
  refine (hg.sol d1 { d1.sol with pos := p } rfl rfl).trans ?_
  exact (hw _ 0x11C _ (by decide)).trans ((hw _ 0x118 _ (by decide)).trans ((hw _ 0x114 _ (by decide)).trans ((hw _ 0x110 _ (by decide)).trans
    ((hw _ 0x10C _ (by decide)).trans (hw _ 0x108 _ (by decide))))))

theorem SolBlind.surveyEnded : g (surveyEnded d) = g d := by
  have hw (e : Dev) (f : Fld) (v : Nat) (hx : 0x100 ≤ f.off ∧ f.off < 0x124) : g (e.p gnsPg f v) = g e :=
    hg.word e _ _ (.inr (.inr (.inr (by omega))))
  exact (hg.event _ _ _).trans ((hw _ Reg.GNS.SCFG_MODE _ (by decide)).trans ((hw _ Reg.GNS.POSUNC _ (by decide)).trans (hg.putPos d _)))

theorem SolBlind.leapCommitAsked : g (leapCommitAsked d) = g d := by
  unfold Machine.leapCommitAsked
  refine keeps_ite (g := g) rfl ?_
  exact (hg.sched _ _).trans (hg.word d _ _ (.inr (.inr (.inl (leapPg_block .warp (o := 0x308) (by decide))))))

theorem SolBlind.leapFromUtc (u : UtcParam) : g (leapFromUtc u d) = g d := by
  have hw (e : Dev) (h : Half) (o v : Nat) (ho : o < 0x1000) : g (e.setw (leapPg h + o) v) = g e := hg.word e _ v (.inr (.inr (.inl (leapPg_block h ho))))
  unfold Machine.leapFromUtc
  refine keeps_ite (g := g) rfl ?_
  extract_lets base d0 new
  have h0 : g d0 = g d := keeps_ite (g := g) (hw d .warp 0x304 _ (by decide)) rfl
  clear_value d0
  refine keeps_ite (g := g) (keeps_ite (g := g) ((hg.leapCommitAsked d0).trans h0) rfl) (keeps_ite (g := g) (keeps_ite (g := g) (hg.sched d _) ?_) ?_)
  · refine (foldl_keeps (g := g) (fun e h => hg.event e _ _) _ _).trans ?_
    exact (hw _ .weft 0x308 _ (by decide)).trans (hw d .warp 0x308 _ (by decide))
  · split
    · rfl
    · rename_i m hm
      have hm8 : m < 8 := List.mem_range.1 (List.mem_of_find?_eq_some hm)
      have ha (e : Dev) (x v : Nat) (hx : x < 0x10) : g (e.setw (leapPg .warp + 0x310 + 0x10 * m + x) v) = g e := by
        have := hw e .warp (0x310 + 0x10 * m + x) v (by omega)
        rwa [← Nat.add_assoc, ← Nat.add_assoc] at this
      exact (hg.leapCommitAsked _).trans ((ha _ 8 _ (by decide)).trans ((ha _ 4 _ (by decide)).trans ((ha d0 0 _ (by decide)).trans h0)))

end

end Sys2Proof.Machine
end

section
/-! PROOF. O47, concluded: the report, the verdict and the date floor (R249 to R262). -/

namespace Sys2Proof.Machine

/-! ### A solution in parts -/

section
variable (d : Dev) (floor : Nat) (i : SolIn) (s : Sol)

/-- The engine's part of a solution. -/
def Dev.withSol (d : Dev) (v : SolSt) : Dev := { d with sol := v }

def Dev.solTaken (d : Dev) (i : SolIn) (s : Sol) : Dev := d.withSol (d.solKept i s)

/-- The events of a solution, and its conflict. -/
def Dev.solEvents (d e : Dev) (floor : Nat) (i : SolIn) (s : Sol) : Dev :=
  ((e.raiseIf (s.type != d.g gnsPg Reg.GNS.SOL_INFO_TYPE) gnsPg 3).raiseIf ((d.solTaken i s).sol.far == 60 && d.sol.far != 60) gnsPg 4).raiseIf
    (d.weekConflict floor i && !d.sol.conflict) gnsPg 5

def Dev.conflictNoted (e : Dev) (x : Bool) : Dev := e.withSol { e.sol with conflict := x }

/-- The verdict of a solution. -/
def Dev.solJudged (e : Dev) (floor : Nat) (i : SolIn) (s : Sol) : Dev :=
  if s.type = 0 then (e.p gnsPg Reg.GNS.ISTAT_FAIL (e.checkMask floor i s e.sol)).p gnsPg Reg.GNS.ISTAT_CLEAN 0
  else (e.p gnsPg Reg.GNS.ISTAT_FAIL (e.checkMask floor i s e.sol)).integrity s.type (e.checkMask floor i s e.sol)
    ((e.p gnsPg Reg.GNS.ISTAT_FAIL (e.checkMask floor i s e.sol)).modelEvaluated &&
      (e.p gnsPg Reg.GNS.ISTAT_FAIL (e.checkMask floor i s e.sol)).checks 1 &&
      decide ((e.p gnsPg Reg.GNS.ISTAT_FAIL (e.checkMask floor i s e.sol)).sol.hist.length < 60))

/-- The end of a survey, and the leaps of a solution's parameters. -/
def Dev.solEnded (e : Dev) : Dev := if e.surveyEnds then surveyEnded e else e

def Dev.solUtc (e : Dev) (i : SolIn) : Dev := match i.utc with
  | some u => leapFromUtc u e
  | none => e

/-- A solution's steps between its report and its verdict. -/
def Dev.solShared (d e : Dev) (floor : Nat) (i : SolIn) (s : Sol) : Dev :=
  ((d.solEvents e floor i s).conflictNoted (d.weekConflict floor i)).solToC12 s

def Dev.solReported (d : Dev) (floor : Nat) (i : SolIn) (s : Sol) : Dev := (d.solTaken i s).solReport floor i s

theorem solved_eq (h : d.solDue = true) : solved floor i d =
    (((d.solShared (d.solReported floor i (d.solution floor i)) floor i (d.solution floor i)).solJudged floor i (d.solution floor i)).solEnded).solUtc i := by
  unfold solved
  rw [if_neg (by simp [h])]
  unfold Dev.solUtc Dev.solEnded Dev.solJudged Dev.solShared Dev.solReported Dev.solEvents Dev.conflictNoted Dev.solTaken Dev.withSol
  rfl

theorem solved_stays (h : d.solDue = false) : solved floor i d = d := if_pos (by simp [h])

/-- The verdict of the checks, with its event where it is new. -/
def Dev.verdictNoted (d : Dev) (failed new : Bool) : Dev :=
  ((d.withSol { d.sol with failed := failed }).pb gnsPg Reg.GNS.ISTAT_PASS (!failed)).raiseIf new gnsPg (if failed then 1 else 2)

/-- The clean solutions counted so far. -/
def Dev.cleanOf (d : Dev) (fails : Nat) (pending : Bool) : Nat :=
  if fails = 0 && !pending then min 255 (d.g gnsPg Reg.GNS.ISTAT_CLEAN + 1) else 0

theorem integrity_eq (type fails : Nat) (pending : Bool) : d.integrity type fails pending =
    if fails ≠ 0 then
      (nativeQr .weft 12 15 ((nativeQr .warp 12 15 ((d.p gnsPg Reg.GNS.ISTAT_CLEAN (d.cleanOf fails pending)).verdictNoted true (!d.sol.failed))).putFault
        .warp 12 faultINTEG true)).putFault .weft 12 faultINTEG true
    else if d.gb gnsPg Reg.GNS.ISTAT_PASS || decide (max 1 (d.g gnsPg Reg.GNS.ICFG_HOLD) ≤ d.cleanOf fails pending) then
      (nativeQr .weft 12 (if type = 2 then 1 else 2) ((nativeQr .warp 12 (if type = 2 then 1 else 2)
        ((d.p gnsPg Reg.GNS.ISTAT_CLEAN (d.cleanOf fails pending)).verdictNoted false (!(d.gb gnsPg Reg.GNS.ISTAT_PASS)))).putFault
        .warp 12 faultINTEG false)).putFault .weft 12 faultINTEG false
    else d.p gnsPg Reg.GNS.ISTAT_CLEAN (d.cleanOf fails pending) := by
  unfold Dev.integrity Dev.verdictNoted Dev.withSol Dev.cleanOf
  rfl

variable {α : Type} {g : Dev → α} (hg : SolBlind g)
include hg

theorem SolBlind.conflictNoted (e : Dev) (x : Bool) : g (e.conflictNoted x) = g e := hg.sol e { e.sol with conflict := x } rfl rfl

theorem SolBlind.solShared (e : Dev) : g (d.solShared e floor i s) = g e := by
  unfold Dev.solShared Dev.solEvents
  exact (hg.solToC12 _ s).trans ((hg.conflictNoted _ _).trans ((hg.raiseIf _ _ _ _).trans ((hg.raiseIf _ _ _ _).trans (hg.raiseIf _ _ _ _))))

theorem SolBlind.solEnded (e : Dev) : g e.solEnded = g e := keeps_ite (g := g) (hg.surveyEnded e) rfl

theorem SolBlind.solUtc (e : Dev) : g (e.solUtc i) = g e := by
  unfold Dev.solUtc
  split
  · exact hg.leapFromUtc e _
  · rfl

variable (hs : ∀ d v, g (Dev.setw d (gnsPg + 0x18C) v) = g d)
include hs

theorem SolBlind.integrity (e : Dev) (type fails : Nat) (pending : Bool) : g (e.integrity type fails pending) = g e := by
  have hp (e : Dev) (f : Fld) (hf : f.off = 0x18C) (v : Nat) : g (e.p gnsPg f v) = g e := by
    obtain ⟨o, lo, len⟩ := f
    subst hf
    exact hs e _
  have hq (e : Dev) (h : Half) (q : Nat) (x : Bool) : g ((Machine.nativeQr h 12 q e).putFault h 12 faultINTEG x) = g e :=
    ((hg.hidden h (by decide)).putFault _ _ _).trans (hg.nativeQr e h (by decide) q)
  have hv (e : Dev) (x y : Bool) : g (e.verdictNoted x y) = g e :=
    (hg.raiseIf _ _ _ _).trans ((hp _ Reg.GNS.ISTAT_PASS rfl _).trans (hg.sol e { e.sol with failed := x } rfl rfl))
  have hc (v : Nat) : g (e.p gnsPg Reg.GNS.ISTAT_CLEAN v) = g e := hp e Reg.GNS.ISTAT_CLEAN rfl v
  rw [integrity_eq]
  refine keeps_ite (g := g) ?_ (keeps_ite (g := g) ?_ (hc _))
  · exact (hq _ .weft _ _).trans ((hq _ .warp _ _).trans ((hv _ _ _).trans (hc _)))
  · exact (hq _ .weft _ _).trans ((hq _ .warp _ _).trans ((hv _ _ _).trans (hc _)))

theorem SolBlind.solJudged (e : Dev) : g (e.solJudged floor i s) = g e := by
  have hp (e : Dev) (f : Fld) (hf : f.off = 0x18C) (v : Nat) : g (e.p gnsPg f v) = g e := by
    obtain ⟨o, lo, len⟩ := f
    subst hf
    exact hs e _
  unfold Dev.solJudged
  exact keeps_ite (g := g) ((hp _ Reg.GNS.ISTAT_CLEAN rfl _).trans (hp _ Reg.GNS.ISTAT_FAIL rfl _))
    ((hg.integrity hs _ _ _ _).trans (hp _ Reg.GNS.ISTAT_FAIL rfl _))

/-- A solution shows as it is reported. -/
theorem SolBlind.solved (h : d.solDue = true) : g (solved floor i d) = g (d.solReported floor i (d.solution floor i)) := by
  rw [solved_eq _ _ _ h]
  exact (hg.solUtc _ _).trans ((hg.solEnded _).trans ((hg.solJudged _ _ _ hs _).trans (hg.solShared _ _ _ _ _)))

end

theorem solBlind_w {a : Nat} (ha : ¬ solWord a) : SolBlind (fun d => d.w a) where
  word d x _ hx := (d.w_setw _ _ _).trans (if_neg fun h : a = x => ha (h ▸ hx))
  event d _ _ := d.w_raise _ _ _
  cand _ _ _ _ := rfl
  sels _ _ := rfl
  sched _ _ := rfl
  sol _ _ _ _ := rfl

theorem solBlind_tbs : SolBlind Dev.tbs := ⟨fun _ _ _ _ => rfl, fun d pg k => d.raise_tbs pg k, fun _ _ _ _ => rfl, fun _ _ => rfl, fun _ _ => rfl, fun _ _ _ _ => rfl⟩

theorem solBlind_done : SolBlind (fun d => d.sol.doneSec) where
  word _ _ _ _ := rfl
  event d pg k := congrArg SolSt.doneSec (d.raise_sol pg k)
  cand _ _ _ _ := rfl
  sels _ _ := rfl
  sched _ _ := rfl
  sol _ _ h _ := h

theorem solBlind_last : SolBlind (fun d => d.sol.lastAt) where
  word _ _ _ _ := rfl
  event d pg k := congrArg SolSt.lastAt (d.raise_sol pg k)
  cand _ _ _ _ := rfl
  sels _ _ := rfl
  sched _ _ := rfl
  sol _ _ _ h := h

/-- A word of the solution's report is none that the later steps write. -/
theorem not_solWord_gns {o : Nat} (h1 : 0x124 ≤ o) (h2 : o < 0x1000) : ¬ solWord (gnsPg + o) := by
  have hg : gnsPg = 0x230000 := rfl
  have hr : Page.code .ref = 0x10 := rfl
  have hl : Page.code .sel = 0x11 := rfl
  have ht : Page.code .tsu = 0x16 := rfl
  unfold solWord inBlock
  rw [hg]
  omega

theorem not_solWord_gnf {o : Nat} (h2 : o < 0x1000) : ¬ solWord (gnfPg + o) := by
  have hg : gnsPg = 0x230000 := rfl
  have hf : gnfPg = 0x200000 := rfl
  have hr : Page.code .ref = 0x10 := rfl
  have hl : Page.code .sel = 0x11 := rfl
  have ht : Page.code .tsu = 0x16 := rfl
  unfold solWord inBlock
  rw [hg, hf]
  omega

end Sys2Proof.Machine
end

section
/-! PROOF. O47: what a solution reports, the written position and the date floor (R250 to R253, R261). -/

namespace Sys2Proof.Machine

/-! ### The report -/

section
variable (d : Dev) (floor : Nat) (i : SolIn) (s : Sol)

/-- SOL_INFO and EXCL of a solution. -/
def Dev.solInfo (d : Dev) (s : Sol) : Dev :=
  (((((d.p gnsPg Reg.GNS.SOL_INFO_LSEQ (d.g gnfPg Reg.GNF.MLSTAT_LSEQ)).p gnsPg Reg.GNS.SOL_INFO_TYPE s.type).p gnsPg
    Reg.GNS.SOL_INFO_NSV (d.satsOf s.chans).length).p gnsPg Reg.GNS.SOL_INFO_CONST (d.constMask s.chans)).pb gnsPg
    Reg.GNS.SOL_INFO_SURVEYING (d.solMode == 1)).p gnsPg Reg.GNS.ISTAT_EXCL s.excl

/-- WEEK of a solution. -/
def Dev.solWeek (d e : Dev) (floor : Nat) (i : SolIn) : Dev :=
  match (d.solDates floor i).head? with | some t => e.p gnsPg Reg.GNS.WEEK (weekOf t) | none => e

/-- OFS, SIGMA and TDOP of a solution that is not NONE. -/
def Dev.solOffset (d e : Dev) (s : Sol) : Dev :=
  match s.fit with
  | some f =>
    if s.type = 0 then e
    else ((e.ps48 gnsPg Reg.GNS.OFS_LO Reg.GNS.OFS_HI (d.solOfs f)).p gnsPg Reg.GNS.SIGMA f.sigma).p gnsPg Reg.GNS.TDOP f.tdop
  | none => e

theorem solReport_eq : d.solReport floor i s = d.solOffset (d.solWeek (d.solInfo s) floor i) s := by
  unfold Dev.solReport Dev.solOffset Dev.solWeek Dev.solInfo
  rfl

theorem solWeek_keeps {α : Type} {g : Dev → α} (hg : ∀ d v, g (Dev.setw d (gnsPg + 0x1A4) v) = g d) (e : Dev) : g (d.solWeek e floor i) = g e := by
  unfold Dev.solWeek
  split
  · exact hg _ _
  · rfl

theorem solOffset_keeps {α : Type} {g : Dev → α} (hg : ∀ d o v, 0x194 ≤ o → o < 0x1A4 → g (Dev.setw d (gnsPg + o) v) = g d) (e : Dev) :
    g (d.solOffset e s) = g e := by
  unfold Dev.solOffset
  split
  · refine keeps_ite (g := g) rfl ?_
    exact (hg _ 0x1A0 _ (by decide) (by decide)).trans ((hg _ 0x19C _ (by decide) (by decide)).trans ((hg _ 0x198 _ (by decide) (by decide)).trans
      (hg _ 0x194 _ (by decide) (by decide))))
  · rfl

theorem solInfo_keeps {α : Type} {g : Dev → α} (hi : ∀ d v, g (Dev.setw d (gnsPg + 0x190) v) = g d) (hx : ∀ d v, g (Dev.setw d (gnsPg + 0x18C) v) = g d) :
    g (d.solInfo s) = g d := by
  unfold Dev.solInfo Dev.pb
  exact (hx _ _).trans ((hi _ _).trans ((hi _ _).trans ((hi _ _).trans ((hi _ _).trans (hi _ _)))))

/-- What no word of a solution's report shows. -/
theorem solReport_keeps {α : Type} {g : Dev → α} (hg : ∀ d o v, 0x18C ≤ o → o < 0x1A8 → g (Dev.setw d (gnsPg + o) v) = g d) :
    g (d.solReport floor i s) = g d := by
  rw [solReport_eq]
  exact (solOffset_keeps d s (fun d o v h1 h2 => hg d o v (by omega) (by omega)) _).trans
    ((solWeek_keeps d floor i (fun d v => hg d _ v (by decide) (by decide)) _).trans
      (solInfo_keeps d s (fun d v => hg d _ v (by decide) (by decide)) fun d v => hg d _ v (by decide) (by decide)))

theorem gns_ne {x y : Nat} (h : x ≠ y) : gnsPg + x ≠ gnsPg + y := by omega

theorem solReport_info : (d.solReport floor i s).w (gnsPg + 0x190) = (d.solInfo s).w (gnsPg + 0x190) := by
  rw [solReport_eq]
  exact (solOffset_keeps d s (g := fun e => e.w (gnsPg + 0x190)) (fun d o v h1 h2 => (d.w_setw _ _ _).trans (if_neg (gns_ne (by omega)))) _).trans
    (solWeek_keeps d floor i (g := fun e => e.w (gnsPg + 0x190)) (fun d v => (d.w_setw _ _ _).trans (if_neg (gns_ne (by decide)))) _)

theorem solInfo_type : (d.solInfo s).g gnsPg Reg.GNS.SOL_INFO_TYPE = s.type % 4 := by
  unfold Dev.solInfo Dev.pb
  refine (Dev.g_p_apart _ _ _ (by decide) (by decide)).trans ((Dev.g_p_apart _ _ _ (by decide) (by decide)).trans
    ((Dev.g_p_apart _ _ _ (by decide) (by decide)).trans ((Dev.g_p_apart _ _ _ (by decide) (by decide)).trans ?_)))
  exact Dev.g_p_same _ _ _ _ (by decide)

theorem solInfo_nsv : (d.solInfo s).g gnsPg Reg.GNS.SOL_INFO_NSV = (d.satsOf s.chans).length % 256 := by
  unfold Dev.solInfo Dev.pb
  refine (Dev.g_p_apart _ _ _ (by decide) (by decide)).trans ((Dev.g_p_apart _ _ _ (by decide) (by decide)).trans
    ((Dev.g_p_apart _ _ _ (by decide) (by decide)).trans ?_))
  exact Dev.g_p_same _ _ _ _ (by decide)

/-- The verdict's flag is beside what a report writes. -/
theorem solReport_pass : (d.solReport floor i s).gb gnsPg Reg.GNS.ISTAT_PASS = d.gb gnsPg Reg.GNS.ISTAT_PASS := by
  have h1 : (d.solReport floor i s).w (gnsPg + 0x18C) = (d.solInfo s).w (gnsPg + 0x18C) := by
    rw [solReport_eq]
    exact (solOffset_keeps d s (g := fun e => e.w (gnsPg + 0x18C)) (fun d o v h1 h2 => (d.w_setw _ _ _).trans (if_neg (gns_ne (by omega)))) _).trans
      (solWeek_keeps d floor i (g := fun e => e.w (gnsPg + 0x18C)) (fun d v => (d.w_setw _ _ _).trans (if_neg (gns_ne (by decide)))) _)
  refine (Dev.gb_of_w (o := 0x18C) h1).trans ?_
  unfold Dev.solInfo Dev.pb
  exact (Dev.gb_p_apart _ _ _ (by decide) (by decide)).trans ((Dev.gb_p_apart _ _ _ (by decide) (by decide)).trans
    ((Dev.gb_p_apart _ _ _ (by decide) (by decide)).trans ((Dev.gb_p_apart _ _ _ (by decide) (by decide)).trans
      ((Dev.gb_p_apart _ _ _ (by decide) (by decide)).trans (Dev.gb_p_apart _ _ _ (by decide) (by decide))))))

theorem solReport_ofs {f : SolFit} (ht : s.type ≠ 0) (hf : s.fit = some f) :
    (d.solReport floor i s).g2 gnsPg Reg.GNS.OFS_LO Reg.GNS.OFS_HI = unsignedOf 48 (d.solOfs f) := by
  rw [solReport_eq]
  unfold Dev.solOffset
  rw [hf]
  dsimp only
  rw [if_neg ht, Dev.g2_p_ne _ _ (by decide) (by decide), Dev.g2_p_ne _ _ (by decide) (by decide)]
  exact Dev.g2_ps48 _ _ ⟨rfl, rfl⟩ ⟨rfl, rfl⟩ (by decide) _

end

/-! ### The solution of a second -/

section
variable (d : Dev) (floor : Nat) (i : SolIn) (s : Sol)

theorem solKept_done : (d.solKept i s).doneSec = some (d.g2 gnfPg Reg.GNF.MLT_SEC_LO Reg.GNF.MLT_SEC_HI) := by
  unfold Dev.solKept
  dsimp only
  split
  · split_ifs <;> rfl
  · rfl

theorem solKept_last {f : SolFit} (ht : s.type ≠ 0) (hf : s.fit = some f) : (d.solKept i s).lastAt = some (d.count d.lead 0) := by
  unfold Dev.solKept
  dsimp only
  rw [if_neg ht, hf]
  dsimp only
  split_ifs <;> rfl

theorem solReported_sol : (d.solReported floor i s).sol = d.solKept i s :=
  solReport_keeps (d.solTaken i s) floor i s (g := Dev.sol) fun _ _ _ _ _ => rfl

theorem solReported_tbs : (d.solReported floor i s).tbs = d.tbs :=
  solReport_keeps (d.solTaken i s) floor i s (g := Dev.tbs) fun _ _ _ _ _ => rfl

theorem solReported_gnf {o : Nat} (ho : o < 0x1000) : (d.solReported floor i s).w (gnfPg + o) = d.w (gnfPg + o) :=
  solReport_keeps (d.solTaken i s) floor i s (g := fun e => e.w (gnfPg + o)) fun d x v _ _ => (d.w_setw _ _ _).trans (if_neg (by
    have hg : gnsPg = 0x230000 := rfl
    have hf : gnfPg = 0x200000 := rfl
    omega))

theorem solReported_type : (d.solReported floor i s).g gnsPg Reg.GNS.SOL_INFO_TYPE = s.type % 4 :=
  (Dev.g_of_w (o := 0x190) (solReport_info (d.solTaken i s) floor i s)).trans (solInfo_type _ s)

theorem solReported_nsv : (d.solReported floor i s).g gnsPg Reg.GNS.SOL_INFO_NSV = (d.satsOf s.chans).length % 256 :=
  (Dev.g_of_w (o := 0x190) (solReport_info (d.solTaken i s) floor i s)).trans (solInfo_nsv _ s)

theorem solReported_ofs {f : SolFit} (ht : s.type ≠ 0) (hf : s.fit = some f) :
    (d.solReported floor i s).g2 gnsPg Reg.GNS.OFS_LO Reg.GNS.OFS_HI = unsignedOf 48 (d.solOfs f) := solReport_ofs (d.solTaken i s) floor i s ht hf

theorem solReported_pass : (d.solReported floor i s).gb gnsPg Reg.GNS.ISTAT_PASS = d.gb gnsPg Reg.GNS.ISTAT_PASS :=
  solReport_pass (d.solTaken i s) floor i s

variable {d floor i}

/-- A word of the report stands as the report leaves it. -/
theorem solved_w (h : d.solDue = true) {o : Nat} (h1 : 0x124 ≤ o) (h2 : o < 0x1000) (h3 : o ≠ 0x18C) :
    (solved floor i d).w (gnsPg + o) = (d.solReported floor i (d.solution floor i)).w (gnsPg + o) :=
  (solBlind_w (not_solWord_gns h1 h2)).solved d floor i (fun d _ => (d.w_setw _ _ _).trans (if_neg (gns_ne h3))) h

theorem solved_gnf (h : d.solDue = true) {o : Nat} (ho : o < 0x1000) : (solved floor i d).w (gnfPg + o) = d.w (gnfPg + o) :=
  ((solBlind_w (not_solWord_gnf ho)).solved d floor i (fun d _ => (d.w_setw _ _ _).trans (if_neg (by
    have hg : gnsPg = 0x230000 := rfl
    have hf : gnfPg = 0x200000 := rfl
    omega))) h).trans (solReported_gnf _ _ _ _ ho)

theorem solved_tbs (h : d.solDue = true) : (solved floor i d).tbs = d.tbs :=
  (solBlind_tbs.solved d floor i (fun _ _ => rfl) h).trans (solReported_tbs _ _ _ _)

theorem solved_done (h : d.solDue = true) : (solved floor i d).sol.doneSec = some (d.g2 gnfPg Reg.GNF.MLT_SEC_LO Reg.GNF.MLT_SEC_HI) :=
  (solBlind_done.solved d floor i (fun _ _ => rfl) h).trans ((congrArg SolSt.doneSec (solReported_sol _ _ _ _)).trans (solKept_done _ _ _))

/-- The second of a solution has none due any more. -/
theorem solved_notDue (h : d.solDue = true) : (solved floor i d).solDue = false := by
  have hg : (solved floor i d).g2 gnfPg Reg.GNF.MLT_SEC_LO Reg.GNF.MLT_SEC_HI = d.g2 gnfPg Reg.GNF.MLT_SEC_LO Reg.GNF.MLT_SEC_HI := by
    unfold Dev.g2
    rw [Dev.g_of_w (f := Reg.GNF.MLT_SEC_LO) (o := 0x518) (solved_gnf h (by decide)), Dev.g_of_w (f := Reg.GNF.MLT_SEC_HI) (o := 0x51C) (solved_gnf h (by decide))]
  unfold Dev.solDue
  rw [solved_done h, hg]
  simp

/-- A NONE restarts the count of clean solutions and leaves the verdict. -/
theorem solved_none (h : d.solDue = true) (ht : (d.solution floor i).type = 0) : (solved floor i d).g gnsPg Reg.GNS.ISTAT_CLEAN = 0 ∧
    (solved floor i d).gb gnsPg Reg.GNS.ISTAT_PASS = d.gb gnsPg Reg.GNS.ISTAT_PASS := by
  have hw := solBlind_w (a := gnsPg + 0x18C) (not_solWord_gns (by decide) (by decide))
  have hshared := hw.solShared d floor i (d.solution floor i) (d.solReported floor i (d.solution floor i))
  rw [solved_eq _ _ _ h]
  generalize d.solShared (d.solReported floor i (d.solution floor i)) floor i (d.solution floor i) = e at hshared ⊢
  have htail : ((e.solJudged floor i (d.solution floor i)).solEnded.solUtc i).w (gnsPg + 0x18C) = (e.solJudged floor i (d.solution floor i)).w (gnsPg + 0x18C) :=
    (hw.solUtc _ _).trans (hw.solEnded _)
  have hj : e.solJudged floor i (d.solution floor i) =
      (e.p gnsPg Reg.GNS.ISTAT_FAIL (e.checkMask floor i (d.solution floor i) e.sol)).p gnsPg Reg.GNS.ISTAT_CLEAN 0 := if_pos ht
  constructor
  · refine (Dev.g_of_w (o := 0x18C) htail).trans ?_
    rw [hj, Dev.g_p_same _ _ _ _ (by decide)]
    rfl
  · refine (Dev.gb_of_w (o := 0x18C) htail).trans ?_
    rw [hj]
    exact (Dev.gb_p_apart _ _ _ (by decide) (by decide)).trans ((Dev.gb_p_apart _ _ _ (by decide) (by decide)).trans
      ((Dev.gb_of_w (o := 0x18C) hshared).trans (solReported_pass _ _ _ _)))

end

theorem State.surveySaved_dev (s : State) (d : Dev) : (s.surveySaved d).dev = d := by
  unfold State.surveySaved
  split_ifs <;> rfl

theorem State.surveySaved_same (s : State) : s.surveySaved s.dev = s := by
  unfold State.surveySaved
  rw [if_neg]
  · rfl
  · rw [Bool.and_eq_true, decide_eq_true_eq, beq_iff_eq]
    omega

/-! ### The written position -/

section
variable (d : Dev) (v : Nat)

/-- The words of a written position. -/
def Dev.posPut (d : Dev) (v : Nat) : Dev := (d.setw (gnsPg + 0x11C) (v % 2 ^ 16)).p gnsPg Reg.GNS.SCFG_MODE 2

theorem positionWritten_eq : positionWritten v d =
    ((d.posPut v).withSol { (d.posPut v).sol with pos := (d.posPut v).posWords, far := 0 }).raiseIf (d.solMode == 1) gnsPg 0 := rfl

theorem posPut_z : (d.posPut v).w (gnsPg + 0x11C) = v % 2 ^ 16 := by
  unfold Dev.posPut
  rw [Dev.w_p_ne _ _ Reg.GNS.SCFG_MODE _ _ (by decide), Dev.w_setw, if_pos rfl]
  omega

theorem posPut_mode : (d.posPut v).solMode = 2 := by
  unfold Dev.posPut Dev.solMode
  rw [Dev.g_p_same _ _ _ _ (by decide)]
  rfl

theorem Dev.withSol_w (x : SolSt) (a : Nat) : (d.withSol x).w a = d.w a := rfl

theorem Dev.raiseIf_sol (x : Bool) (pg k : Nat) : (d.raiseIf x pg k).sol = d.sol := rfl

theorem posWords_congr {d e : Dev} (h : ∀ a, e.w a = d.w a) : e.posWords = d.posWords := by
  unfold Dev.posWords
  dsimp only
  simp only [h]

theorem positionWritten_w (a : Nat) : (positionWritten v d).w a = (d.posPut v).w a := by
  rw [positionWritten_eq, Dev.w_raiseIf, Dev.withSol_w]

theorem positionWritten_sol : (positionWritten v d).sol = { (d.posPut v).sol with pos := (d.posPut v).posWords, far := 0 } := by
  rw [positionWritten_eq, Dev.raiseIf_sol]
  rfl

theorem evtImplemented_gns : ∀ k < 8, evtImplemented gnsPg k = true := by decide

theorem posPut_evt (pg k : Nat) : (d.posPut v).evt pg k = d.evt pg k := rfl

theorem Dev.withSol_evt (x : SolSt) (pg k : Nat) : (d.withSol x).evt pg k = d.evt pg k := rfl

theorem positionWritten_done (h : d.solMode = 1) : (positionWritten v d).evt gnsPg 0 = (d.evt gnsPg 0).occur := by
  rw [positionWritten_eq, h]
  show ((((d.posPut v).withSol _).raise gnsPg 0).evt gnsPg 0) = _
  rw [Dev.evt_raise_own _ (evtImplemented_gns 0 (by decide)), Dev.withSol_evt, posPut_evt]

theorem positionWritten_quiet (h : d.solMode ≠ 1) (pg k : Nat) : (positionWritten v d).evt pg k = d.evt pg k := by
  rw [positionWritten_eq, beq_eq_false_iff_ne.2 h]
  show ((d.posPut v).withSol _).evt pg k = _
  rw [Dev.withSol_evt, posPut_evt]

theorem positionWritten_touches {s : Dev} (ht : s.touches (d.withSol s.sol) [gnsPg + 0x100, gnsPg + 0x11C] [gnsPg]) :
    s.touches ((positionWritten v d).withSol s.sol) [gnsPg + 0x100, gnsPg + 0x11C] [gnsPg] := by
  have h1 : s.touches ((d.posPut v).withSol s.sol) [gnsPg + 0x100, gnsPg + 0x11C] [gnsPg] :=
    Dev.touches.p (f := Reg.GNS.SCFG_MODE) (Dev.touches.setw ht (List.mem_cons_of_mem _ (List.mem_singleton_self _)) _) (List.mem_cons_self ..) 2
  rw [positionWritten_eq]
  generalize d.posPut v = e at h1
  exact Dev.touches.raiseIf (pg := gnsPg) (k := 0) h1 (by rw [Nat.add_zero]; exact List.mem_singleton_self _) _

end

theorem State.onlyTouches_withSol {s : State} {e : Dev} {ws es : List Nat} (ht : s.dev.touches (e.withSol s.dev.sol) ws es) :
    s.onlyTouches { s.withDev e with dev := { (s.withDev e).dev with sol := s.dev.sol } } ws es := ht.onlyTouches

/-- Settles O47: the report's words are the solution's alone; the verdict of a NONE stands; the floor is a maximum. -/
theorem solutionsPositionAndDateFloor : Obligations.SolutionsPositionAndDateFloor := by
  unfold Obligations.SolutionsPositionAndDateFloor
  refine ⟨fun i s h => ?_, fun i s h => ?_, fun m v s hw => ?_, fun s h1 h2 h3 => ?_, fun s h => ?_⟩
  · intro r
    have hd : (s.surveySaved (solved s.nv.floor i s.dev)).dev = solved s.nv.floor i s.dev := s.surveySaved_dev _
    refine ⟨s.surveySaved (solved s.nv.floor i s.dev), rfl, ?_, ?_, fun f ht hf => ⟨?_, ?_⟩, fun ht => ?_, ?_, fun g n _ => ?_, s.surveySaved_pending _⟩
    · rw [hd]
      exact (Dev.g_of_w (o := 0x190) (solved_w h (by decide) (by decide) (by decide))).trans (solReported_type _ _ _ _)
    · rw [hd]
      exact (Dev.g_of_w (o := 0x190) (solved_w h (by decide) (by decide) (by decide))).trans (solReported_nsv _ _ _ _)
    · rw [hd]
      refine Eq.trans ?_ (solReported_ofs s.dev s.nv.floor i r ht hf)
      unfold Dev.g2
      rw [Dev.g_of_w (f := Reg.GNS.OFS_LO) (o := 0x194) (solved_w h (by decide) (by decide) (by decide)),
        Dev.g_of_w (f := Reg.GNS.OFS_HI) (o := 0x198) (solved_w h (by decide) (by decide) (by decide))]
    · rw [hd]
      exact (solBlind_last.solved s.dev s.nv.floor i (fun _ _ => rfl) h).trans ((congrArg SolSt.lastAt (solReported_sol _ _ _ _)).trans (solKept_last _ _ _ ht hf))
    · rw [hd]
      exact solved_none h ht
    · rw [hd]
      exact solved_notDue h
    · rw [hd]
      exact Dev.count_congr (solved_tbs h) g n
  · have he : exec (.gnssSolution i) s = .next (s.surveySaved (solved s.nv.floor i s.dev)) := rfl
    rw [he, solved_stays _ _ _ h, s.surveySaved_same]
  · obtain ⟨d, hd⟩ : ∃ d, d = s.dev.regAccess m (gnsPg + 0x11C) := ⟨_, rfl⟩
    have hmode : d.solMode = s.dev.solMode := hd ▸ rfl
    have hev : ∀ pg k, d.evt pg k = s.dev.evt pg k := fun pg k => hd ▸ rfl
    have hsol := positionWritten_sol d v.toNat
    refine ⟨s.withDev (positionWritten v.toNat d), hd ▸ exec_of_writeAt (f := positionWritten v.toNat) rfl hw, ?_, ?_, ?_, congrArg SolSt.far hsol,
      fun h => ?_, fun h pg k _ => ?_, State.onlyTouches_withSol (positionWritten_touches _ _ (hd ▸ Dev.touches_regAccess s.dev m _ _ _))⟩
    · exact (positionWritten_w _ _ _).trans (posPut_z _ _)
    · exact (Dev.g_of_w (o := 0x100) (positionWritten_w _ _ _)).trans (posPut_mode _ _)
    · exact (congrArg SolSt.pos hsol).trans (posWords_congr (positionWritten_w _ _)).symm
    · exact (positionWritten_done d v.toNat (hmode.trans h)).trans (congrArg EvtWord.occur (hev _ _))
    · exact (positionWritten_quiet d v.toNat (by rw [hmode]; exact h) pg k).trans (hev pg k)
  · have he : s.floorRaised = { s with nv := s.nv.floorTo (s.dev.sec s.dev.lead 0) } := if_pos (by simp [h1, h2])
    have hn : s.nv.floorTo (s.dev.sec s.dev.lead 0) = { s.nv with floor := max s.nv.floor (weekOf (s.dev.sec s.dev.lead 0)) } := if_neg (by simp [h3])
    refine ⟨s.floorRaised, rfl, ?_⟩
    rw [he, hn]
    exact ⟨rfl, rfl, rfl, rfl⟩
  · have he : exec .dateFloorRecord s = .next s.floorRaised := rfl
    rw [he]
    unfold State.floorRaised
    split_ifs with hc
    · simp only [Bool.and_eq_true, decide_eq_true_eq] at hc
      rcases h with h | h | h
      · simp [h] at hc
      · omega
      · have hn : s.nv.floorTo (s.dev.sec s.dev.lead 0) = s.nv := if_pos h
        rw [hn]
    · rfl

end Sys2Proof.Machine
end

section
/-! PROOF. O48: snapshots captured, ended, aborted and processed (R263 to R266). -/

namespace Sys2Proof.Machine

/-! ### What a snapshot leaves alone -/

/-- An observation in which a capture does not show: neither its words, nor its state, nor its samples. -/
structure CapBlind {α : Type} (g : Dev → α) : Prop where
  word : ∀ d a v, gnsPg + 0x208 ≤ a → a < gnsPg + 0x290 → g (Dev.setw d a v) = g d
  snap : ∀ d (v : SnapSt), g { d with snap := v } = g d
  buf  : ∀ d (v : Tab Byte), g { d with snapBuf := v } = g d
  free : ∀ d v, g { d with free := v } = g d

theorem capBlind_tbs : CapBlind Dev.tbs := ⟨fun _ _ _ _ _ => rfl, fun _ _ => rfl, fun _ _ => rfl, fun _ _ => rfl⟩

theorem capBlind_evt (pg k : Nat) : CapBlind (fun d => d.evt pg k) :=
  ⟨fun _ _ _ _ _ => rfl, fun _ _ => rfl, fun _ _ => rfl, fun _ _ => rfl⟩

theorem capBlind_w {a : Nat} (h : a < gnsPg + 0x208 ∨ gnsPg + 0x290 ≤ a) : CapBlind (fun d => d.w a) :=
  ⟨fun d b v h1 h2 => (d.w_setw _ _ _).trans (if_neg (by omega)), fun _ _ => rfl, fun _ _ => rfl, fun _ _ => rfl⟩

section
variable {α : Type} {g : Dev → α} (hg : CapBlind g)
include hg

theorem CapBlind.snapBlind : SnapBlind g := ⟨fun d v => hg.word d _ v (Nat.le_refl _) (by decide), hg.snap⟩

/-- A word of one band's region. -/
theorem CapBlind.region (d : Dev) {b : Nat} (hb : b < 4) {f : Fld} (hf : f.off < 0x20) (v : Nat) :
    g (d.p (gnsPg + 0x210 + 0x20 * b) f v) = g d :=
  hg.word d _ _ (by omega) (by omega)

theorem CapBlind.drawn (d : Dev) (k : Nat) : g (d.drawn k) = g d := hg.free _ _

theorem CapBlind.snapNoted (d : Dev) (l trunc : Nat) : g (d.snapNoted l trunc) = g d := by
  have hp (e : Dev) (f : Fld) (hf : f.off = 0x208) (v : Nat) : g (e.p gnsPg f v) = g e :=
    hg.word e _ _ (by rw [hf]) (by rw [hf]; decide)
  unfold Dev.snapNoted Dev.inc
  rw [hp _ _ rfl, hp _ _ rfl, hp _ _ rfl, hp _ _ rfl, hp _ _ rfl]

theorem CapBlind.snapPlaced (d e : Dev) (trig : Nat) {x : Nat × Nat} (hx : x.1 < 4) : g (d.snapPlaced trig e x) = g e := by
  unfold Dev.snapPlaced Dev.p2
  extract_lets s free t
  rw [hg.region _ hx (by decide), hg.region _ hx (by decide), hg.region _ hx (by decide), hg.region _ hx (by decide),
    hg.region _ hx (by decide)]
  exact keeps_ite (g := g) (hg.drawn _ _) rfl

theorem CapBlind.snapBegun (d : Dev) (trig l trunc : Nat) : g (d.snapBegun trig l trunc) = g d := by
  refine (hg.snap _ _).trans ((foldl_keeps_mem (g := g) _ (fun e x hx => ?_) _).trans (hg.snapNoted _ _ _))
  exact hg.snapPlaced _ _ _ (snapLayout_bound _ _ _ _ hx)

theorem CapBlind.snapStops (bands : Nat) (d : Dev) : g (snapStops bands d) = g d :=
  foldl_keeps (g := g) (fun _ _ => keeps_ite (g := g) (hg.snapBlind.snapBandStop _ _ _) rfl) _ _

end

/-! ### Bands that stop -/

/-- A capture goes on with the bands that had stopped and perhaps more of them. -/
structure Dev.stopsMore (d e : Dev) : Prop where
  state    : e.g gnsPg Reg.GNS.SNSTAT_STATE = d.g gnsPg Reg.GNS.SNSTAT_STATE
  ms       : e.g gnsPg Reg.GNS.SNSTAT_MS = d.g gnsPg Reg.GNS.SNSTAT_MS
  bands    : e.snap.bands = d.snap.bands
  complete : e.snap.complete = d.snap.complete
  stopped  : ∀ k, bitAt d.snap.stopped k = true → bitAt e.snap.stopped k = true
  clock    : ∀ b < 4, e.gb (gnfB b) Reg.GNF.BSTAT_CLK_OK = d.gb (gnfB b) Reg.GNF.BSTAT_CLK_OK

theorem Dev.stopsMore.refl (d : Dev) : d.stopsMore d := ⟨rfl, rfl, rfl, rfl, fun _ h => h, fun _ _ => rfl⟩

theorem Dev.stopsMore.trans {c d e : Dev} (h : c.stopsMore d) (h' : d.stopsMore e) : c.stopsMore e :=
  ⟨h'.state.trans h.state, h'.ms.trans h.ms, h'.bands.trans h.bands, h'.complete.trans h.complete,
    fun k hk => h'.stopped k (h.stopped k hk), fun b hb => (h'.clock b hb).trans (h.clock b hb)⟩

section
variable (d : Dev) (b : Nat) (drop : Bool)

/-- The field that tells why a band stopped. -/
def stopFld (drop : Bool) : Fld := if drop then Reg.GNS.SNSTAT_DROP else Reg.GNS.SNSTAT_TRUNC

/-- A band that stops. -/
def Dev.bandHalted (d : Dev) (b : Nat) (drop : Bool) : Dev :=
  { (d.p gnsPg (stopFld drop) (setBits (d.g gnsPg (stopFld drop)) b 1 1)) with
    snap := { d.snap with stopped := setBits d.snap.stopped b 1 1 } }

theorem snapBandStop_eq : d.snapBandStop b drop =
    if (d.g gnsPg Reg.GNS.SNSTAT_STATE == 1 && bitAt d.snap.bands b && !(bitAt d.snap.stopped b)) = true then d.bandHalted b drop else d := rfl

theorem stopFld_put (v : Nat) : (d.p gnsPg (stopFld drop) v).g gnsPg Reg.GNS.SNSTAT_STATE = d.g gnsPg Reg.GNS.SNSTAT_STATE ∧
    (d.p gnsPg (stopFld drop) v).g gnsPg Reg.GNS.SNSTAT_MS = d.g gnsPg Reg.GNS.SNSTAT_MS := by
  cases drop
  · exact ⟨Dev.g_p_apart _ _ _ (by decide) (by decide), Dev.g_p_apart _ _ _ (by decide) (by decide)⟩
  · exact ⟨Dev.g_p_apart _ _ _ (by decide) (by decide), Dev.g_p_apart _ _ _ (by decide) (by decide)⟩

theorem stopFld_off : (stopFld drop).off = 0x208 := by cases drop <;> rfl

theorem bandHalted_more : d.stopsMore (d.bandHalted b drop) := by
  obtain ⟨hs, hm⟩ := stopFld_put d drop (setBits (d.g gnsPg (stopFld drop)) b 1 1)
  refine ⟨hs, hm, rfl, rfl, fun k hk => ?_, fun i hi => ?_⟩
  · exact (bitAt_setBit _ _ _).trans (by rw [hk, ite_self])
  · refine Dev.gb_of_w (o := Reg.GNF.BSTAT_CLK_OK.off) ((d.w_p_ne _ (stopFld drop) _ _ ?_))
    rw [stopFld_off]
    exact ne_of_inBlock (inBlock_gnfB hi (by decide)) (inBlock_gnsPg (by decide))

theorem snapBandStop_more : d.stopsMore (d.snapBandStop b drop) := by
  rw [snapBandStop_eq]
  split_ifs
  · exact bandHalted_more d b drop
  · exact .refl d

theorem snapBandStop_own (h1 : d.g gnsPg Reg.GNS.SNSTAT_STATE = 1) (h2 : bitAt d.snap.bands b = true) :
    bitAt (d.snapBandStop b drop).snap.stopped b = true := by
  rw [snapBandStop_eq]
  by_cases hs : bitAt d.snap.stopped b = true
  · rw [if_neg (by simp [hs])]
    exact hs
  · rw [if_pos (by simp [h1, h2, hs])]
    exact (bitAt_setBit _ _ _).trans (if_pos rfl)

end

section
variable (d : Dev) (c : Nat → Dev → Bool)

/-- The bands of which a condition holds stop. -/
def Dev.stopEach (d : Dev) (c : Nat → Dev → Bool) : Dev := d.each 4 fun b e => if c b e then e.snapBandStop b false else e

theorem stopOne_more (e : Dev) (b : Nat) : e.stopsMore (if c b e then e.snapBandStop b false else e) := by
  split_ifs
  · exact snapBandStop_more e b false
  · exact .refl e

theorem stopEach_more : d.stopsMore (d.stopEach c) :=
  Dev.each_ind (P := d.stopsMore) (.refl d) fun b _ e h => h.trans (stopOne_more c e b)

theorem stopEach_own {b : Nat} (hb : b < 4) (h1 : d.g gnsPg Reg.GNS.SNSTAT_STATE = 1) (h2 : bitAt d.snap.bands b = true)
    (hc : ∀ e, d.stopsMore e → c b e = true) : bitAt (d.stopEach c).snap.stopped b = true := by
  refine Dev.each_own (f := fun b e => if c b e then e.snapBandStop b false else e) (Q := d.stopsMore)
    (R := fun e => bitAt e.snap.stopped b = true) (.refl d) (fun i _ e h => h.trans (stopOne_more c e i)) (fun e h => ?_) hb
    fun i _ _ e h => (stopOne_more c e i).stopped b h
  rw [if_pos (hc e h)]
  exact snapBandStop_own e b false (h.state.trans h1) (by rw [h.bands]; exact h2)

theorem snapStops_eq (bands : Nat) : snapStops bands d =
    d.stopEach fun b e => bitAt bands b && !(e.gb (gnfB b) Reg.GNF.BSTAT_CLK_OK) := rfl

theorem stopAll_eq : (List.range 4).foldl (fun e b => e.snapBandStop b false) d = d.stopEach fun _ _ => true := rfl

end

/-! ### Its start -/

section
variable (d : Dev) (len trig : Nat)

/-- Why a trigger is refused, 0 where it is not. -/
def Dev.snapBar (d : Dev) (len : Nat) : Nat :=
  if d.g gnsPg Reg.GNS.SNSTAT_STATE ≠ 0 then 1 else if d.gnssOn = false then 4
  else if d.snapBands = 0 then 2 else if d.snapLength d.snapBands (clampNat 2 20 len) < 2 then 3 else 0

theorem snapStarted_barred (h : d.snapBar len ≠ 0) : snapStarted len trig d = d.snapRefused (d.snapBar len) := by
  unfold Dev.snapBar at h ⊢
  by_cases h1 : d.g gnsPg Reg.GNS.SNSTAT_STATE ≠ 0
  · rw [if_pos h1]
    exact if_pos (by simp [h1])
  rw [if_neg h1] at h ⊢
  refine (if_neg (by simpa using h1)).trans ?_
  by_cases h2 : d.gnssOn = false
  · rw [if_pos h2]
    exact if_pos (by simp [h2])
  rw [if_neg h2] at h ⊢
  refine (if_neg (by simpa using h2)).trans ?_
  by_cases h3 : d.snapBands = 0
  · rw [if_pos h3]
    exact if_pos h3
  rw [if_neg h3] at h ⊢
  refine (if_neg h3).trans ?_
  by_cases h4 : d.snapLength d.snapBands (clampNat 2 20 len) < 2
  · rw [if_pos h4]
    exact if_pos h4
  · rw [if_neg h4] at h
    exact absurd rfl h

theorem snapBar_taken (h : d.snapBar len = 0) : d.g gnsPg Reg.GNS.SNSTAT_STATE = 0 ∧ d.gnssOn = true ∧ d.snapBands ≠ 0 ∧
    2 ≤ d.snapLength d.snapBands (clampNat 2 20 len) := by
  unfold Dev.snapBar at h
  split_ifs at h with h1 h2 h3 h4
  exact ⟨not_not.1 h1, by simpa using h2, h3, Nat.not_lt.1 h4⟩

theorem snapRefused_fields {r : Nat} (hr : r < 16) : (d.snapRefused r).g gnsPg Reg.GNS.SNSTAT_REFUSE = r ∧
    (d.snapRefused r).evt gnsPg 7 = (d.evt gnsPg 7).occur := by
  unfold Dev.snapRefused
  constructor
  · refine (Dev.g_raise _ _ _ _ _).trans ((Dev.g_p_same _ _ _ _ (by decide)).trans (Nat.mod_eq_of_lt hr))
  · rw [Dev.evt_raise_own _ (evtImplemented_gns 7 (by decide))]
    rfl

theorem snapBar_lt : d.snapBar len < 16 := by
  unfold Dev.snapBar
  split_ifs <;> omega

theorem snapLength_le (bands want : Nat) : d.snapLength bands want ≤ want := by
  have hl : ∀ (l : List Nat) (x : Nat), x ≤ want → (∀ y ∈ l, y ≤ want) → l.foldl max x ≤ want := by
    intro l
    induction l with
    | nil => exact fun _ hx _ => hx
    | cons y l ih => exact fun x hx hy => ih _ (max_le hx (hy y (List.mem_cons_self ..))) fun z hz => hy z (List.mem_cons_of_mem _ hz)
  exact hl _ 0 (Nat.zero_le _) fun x hx => Nat.le_of_lt_succ (List.mem_range.1 (List.mem_filter.1 hx).1)

theorem snapLength_lt (bands : Nat) : d.snapLength bands (clampNat 2 20 len) < 32 := by
  have h := snapLength_le d bands (clampNat 2 20 len)
  have h20 : clampNat 2 20 len ≤ 20 := by
    unfold clampNat
    omega
  omega

end

/-! ### Its end -/

section
variable (samples : List (List Byte)) (d : Dev)

/-- The samples of one band stored in a device, as a capture's layout places them. -/
def Dev.bandStored (samples : List (List Byte)) (d e : Dev) (x : Nat × Nat) : Dev :=
  let s := gnsPg + 0x210 + 0x20 * x.1
  let raw := ((samples[x.1]?).getD []).take (d.g (gnfB x.1) Reg.GNF.SRATE * d.g gnsPg Reg.GNS.SNSTAT_MS / 1000)
  let two := d.g s Reg.GNS.SN_INFO_FMT == 0 || d.g s Reg.GNS.SN_INFO_FMT == 3
  { (e.p s Reg.GNS.SN_NSAMP raw.length) with snapBuf := putBytes e.snapBuf x.2 (packSamples two raw) }

/-- The samples of every band stored. -/
def Dev.bandsStored (samples : List (List Byte)) (d : Dev) : Dev :=
  (d.snapLayout d.snap.bands (d.g gnsPg Reg.GNS.SNSTAT_MS)).1.foldl (d.bandStored samples) d

/-- A snapshot's state. -/
def Dev.withSnap (d : Dev) (x : SnapSt) : Dev := { d with snap := x }

theorem snapStored_eq : d.snapStored samples =
    ((((d.bandsStored samples).p gnsPg Reg.GNS.SNSTAT_STATE 0).withSnap { (d.bandsStored samples).snap with complete := true }).raise gnsPg 6) := rfl

theorem bandsStored_keeps {α : Type} {g : Dev → α} (hw : ∀ (e : Dev) b (f : Fld) v, b < 4 → f.off < 0x20 → g (e.p (gnsPg + 0x210 + 0x20 * b) f v) = g e)
    (hb : ∀ (e : Dev) v, g { e with snapBuf := v } = g e) : g (d.bandsStored samples) = g d :=
  foldl_keeps_mem (g := g) _ (fun _ x hx => (hb _ _).trans (hw _ _ _ _ (snapLayout_bound _ _ _ x hx) (by decide))) _

theorem bandsStored_snap : (d.bandsStored samples).snap = d.snap :=
  bandsStored_keeps (g := Dev.snap) samples d (fun e _ _ _ _ _ => e.p_snap _ _ _) fun _ _ => rfl

theorem withSnap_evt (x : SnapSt) (pg k : Nat) : (d.withSnap x).evt pg k = d.evt pg k := rfl

theorem snapStored_state : (d.snapStored samples).g gnsPg Reg.GNS.SNSTAT_STATE = 0 := by
  rw [snapStored_eq, Dev.g_raise]
  exact Dev.g_p_same _ _ _ _ (by decide)

theorem snapStored_complete : (d.snapStored samples).snap.complete = true := by
  rw [snapStored_eq, Dev.raise_snap]
  rfl

theorem snapStored_stopped : (d.snapStored samples).snap.stopped = d.snap.stopped := by
  rw [snapStored_eq, Dev.raise_snap]
  show (d.bandsStored samples).snap.stopped = _
  rw [bandsStored_snap]

theorem snapStored_done : (d.snapStored samples).evt gnsPg 6 = (d.evt gnsPg 6).occur := by
  rw [snapStored_eq, Dev.evt_raise_own _ (evtImplemented_gns 6 (by decide)), withSnap_evt]
  exact congrArg EvtWord.occur (bandsStored_keeps (g := fun e => e.evt gnsPg 6) samples d (fun _ _ _ _ _ _ => rfl) fun _ _ => rfl)

theorem snapStored_tbs : (d.snapStored samples).tbs = d.tbs := by
  rw [snapStored_eq, Dev.raise_tbs]
  exact bandsStored_keeps (g := Dev.tbs) samples d (fun e _ _ _ _ _ => e.p_tbs _ _ _) fun _ _ => rfl

theorem snapEnded_now (h : d.g gnsPg Reg.GNS.SNSTAT_STATE = 1) : snapEnded samples d = d.snapStored samples := if_pos h

theorem snapEnded_idle (h : d.g gnsPg Reg.GNS.SNSTAT_STATE ≠ 1) : snapEnded samples d = d := if_neg h

/-! ### An abort -/

theorem snapAbortAsked_capture (h : d.g gnsPg Reg.GNS.SNSTAT_STATE = 1) :
    snapAbortAsked samples d = (d.stopEach fun _ _ => true).snapStored samples := by
  have he : snapAborted samples d = (d.stopEach fun _ _ => true).snapStored samples := by
    unfold snapAborted
    rw [h]
    rfl
  exact (if_neg (by rw [h]; decide)).trans he

theorem snapAbortAsked_processing (h : d.g gnsPg Reg.GNS.SNSTAT_STATE = 2) :
    snapAbortAsked samples d = snapCancelled (d.p gnsPg Reg.GNS.SNSTAT_STATE 0) := by
  have he : snapAborted samples d = d.p gnsPg Reg.GNS.SNSTAT_STATE 0 := by
    unfold snapAborted
    rw [h]
    rfl
  exact (if_pos h).trans (congrArg snapCancelled he)

theorem snapAbortAsked_idle (h1 : d.g gnsPg Reg.GNS.SNSTAT_STATE ≠ 1) (h2 : d.g gnsPg Reg.GNS.SNSTAT_STATE ≠ 2) :
    snapAbortAsked samples d = d := by
  refine (if_neg h2).trans ?_
  unfold snapAborted
  split
  case h_1 h => exact absurd h h1
  case h_2 h => exact absurd h h2
  case h_3 => rfl

/-- An ended processing shows in the mailboxes and in the command that the snapshot held. -/
theorem snapCancelled_keeps {α : Type} {g : Dev → α} (hs : ∀ (e : Dev) v, g { e with snap := v } = g e)
    (hm : ∀ (e : Dev) b m, g (e.setMb b m) = g e) : g (snapCancelled d) = g d := by
  unfold snapCancelled
  split
  case h_1 => rfl
  case h_2 x _ =>
    dsimp only
    split
    case h_1 => exact hs _ _
    case h_2 => exact (hm _ _ _).trans (hs _ _)

theorem snapCancelled_box : (snapCancelled d).snap.box = none := by
  unfold snapCancelled
  split
  case h_1 h => exact h
  case h_2 x _ =>
    dsimp only
    split
    case h_1 => rfl
    case h_2 => rfl

end

/-! ### Its processing -/

section
variable (r : SnapSol) (d : Dev)

/-- The difference of a snapshot's offset from the live one. -/
def Dev.snapDiff (d : Dev) (r : SnapSol) : Int :=
  let s := gnsPg + 0x210 + 0x20 * ((List.range 4).find? (bitAt d.snap.bands)).getD 0
  r.ofs - (d.liveOfs ((d.g2 s Reg.GNS.SN_T_SEC_LO Reg.GNS.SN_T_SEC_HI * 10 ^ 9 + d.g s Reg.GNS.SN_T_NSEC) * 2 ^ 32)).getD 0

/-- A live offset stands at a snapshot's instant. -/
def Dev.snapLive (d : Dev) : Bool :=
  let s := gnsPg + 0x210 + 0x20 * ((List.range 4).find? (bitAt d.snap.bands)).getD 0
  (d.liveOfs ((d.g2 s Reg.GNS.SN_T_SEC_LO Reg.GNS.SN_T_SEC_HI * 10 ^ 9 + d.g s Reg.GNS.SN_T_NSEC) * 2 ^ 32)).isSome

/-- A snapshot contradicts the live solution. -/
def Dev.snapContradicts (d : Dev) (r : SnapSol) : Bool :=
  r.valid && d.snapLive && decide (1000 * d.g gnsPg Reg.GNS.SNTOL < (d.snapDiff r).natAbs)

/-- The words of a snapshot's result. -/
def Dev.snapNotedResult (d : Dev) (r : SnapSol) (diff : Int) (live : Bool) : Dev :=
  (((((d.ps48 gnsPg Reg.GNS.SNRES_LO Reg.GNS.SNRES_HI diff).p gnsPg Reg.GNS.SNRES_INFO_NSV r.nsv).pb gnsPg
    Reg.GNS.SNRES_INFO_VALID r.valid).pb gnsPg Reg.GNS.SNRES_INFO_LIVE live).p gnsPg Reg.GNS.SNRES_INFO_SIGMA r.sigma).p gnsPg
      Reg.GNS.SNSTAT_STATE 0

theorem snapSolved_eq : ∃ v, snapSolved r d =
    ((d.snapNotedResult r (d.snapDiff r) d.snapLive).raiseIf (d.snapContradicts r) gnsPg 8).withSol v := ⟨_, rfl⟩

theorem snapNotedResult_fields (diff : Int) (live : Bool) :
    (d.snapNotedResult r diff live).g gnsPg Reg.GNS.SNSTAT_STATE = 0 ∧
    (d.snapNotedResult r diff live).g gnsPg Reg.GNS.SNRES_INFO_NSV = r.nsv % 256 ∧
    (d.snapNotedResult r diff live).gb gnsPg Reg.GNS.SNRES_INFO_VALID = r.valid ∧
    (d.snapNotedResult r diff live).g gnsPg Reg.GNS.SNRES_INFO_SIGMA = r.sigma % 2 ^ 16 := by
  unfold Dev.snapNotedResult
  refine ⟨Dev.g_p_same _ _ _ _ (by decide), ?_, ?_, ?_⟩
  · exact (Dev.g_p_apart _ _ _ (by decide) (by decide)).trans ((Dev.g_p_apart _ _ _ (by decide) (by decide)).trans
      ((Dev.g_pb_beside _ _ _ _ _ (by decide) (by decide) (by decide)).trans ((Dev.g_pb_beside _ _ _ _ _ (by decide) (by decide) (by decide)).trans (Dev.g_p_same _ _ _ _ (by decide)))))
  · exact (Dev.gb_p_apart _ _ _ (by decide) (by decide)).trans ((Dev.gb_p_apart _ _ _ (by decide) (by decide)).trans
      ((Dev.gb_pb_beside _ _ _ _ _ (by decide) (by decide) (by decide)).trans (Dev.gb_pb_same _ _ _ _ (by decide) (by decide))))
  · exact (Dev.g_p_apart _ _ _ (by decide) (by decide)).trans (Dev.g_p_same _ _ _ _ (by decide))

theorem snapNotedResult_tbs (diff : Int) (live : Bool) : (d.snapNotedResult r diff live).tbs = d.tbs := by
  unfold Dev.snapNotedResult
  rw [Dev.p_tbs, Dev.p_tbs, Dev.pb_tbs, Dev.pb_tbs, Dev.p_tbs]
  exact Dev.ps48_tbs _ _ _ _ _

theorem snapNotedResult_mbx (diff : Int) (live : Bool) : (d.snapNotedResult r diff live).mbx = d.mbx := by
  unfold Dev.snapNotedResult
  rw [Dev.p_mbx, Dev.p_mbx, Dev.pb_mbx, Dev.pb_mbx, Dev.p_mbx]
  exact (Dev.p_mbx _ _ _ _).trans (Dev.p_mbx _ _ _ _)

theorem Dev.withSol_tbs (x : SolSt) : (d.withSol x).tbs = d.tbs := rfl

theorem Dev.withSol_mbx (x : SolSt) : (d.withSol x).mbx = d.mbx := rfl

theorem Dev.raiseIf_mbx (c : Bool) (pg k : Nat) : (d.raiseIf c pg k).mbx = d.mbx := by
  cases c
  · rfl
  · exact d.raise_mbx pg k

theorem snapSolved_fields : (snapSolved r d).g gnsPg Reg.GNS.SNSTAT_STATE = 0 ∧ (snapSolved r d).g gnsPg Reg.GNS.SNRES_INFO_NSV = r.nsv % 256 ∧
    (snapSolved r d).gb gnsPg Reg.GNS.SNRES_INFO_VALID = r.valid ∧ (snapSolved r d).g gnsPg Reg.GNS.SNRES_INFO_SIGMA = r.sigma % 2 ^ 16 ∧
    (snapSolved r d).tbs = d.tbs ∧ (snapSolved r d).mbx = d.mbx := by
  obtain ⟨v, hv⟩ := snapSolved_eq r d
  obtain ⟨h1, h2, h3, h4⟩ := snapNotedResult_fields r d (d.snapDiff r) d.snapLive
  have ht := snapNotedResult_tbs r d (d.snapDiff r) d.snapLive
  have hm := snapNotedResult_mbx r d (d.snapDiff r) d.snapLive
  rw [hv]
  generalize d.snapNotedResult r (d.snapDiff r) d.snapLive = e at h1 h2 h3 h4 ht hm
  have hw (a : Nat) : ((e.raiseIf (d.snapContradicts r) gnsPg 8).withSol v).w a = e.w a :=
    (Dev.withSol_w _ _ _).trans (e.w_raiseIf (d.snapContradicts r) gnsPg 8 a)
  exact ⟨(Dev.g_of_w (o := 0x208) (hw _)).trans h1, (Dev.g_of_w (o := 0x298) (hw _)).trans h2, (Dev.gb_of_w (o := 0x298) (hw _)).trans h3,
    (Dev.g_of_w (o := 0x298) (hw _)).trans h4, (Dev.withSol_tbs _ _).trans ((e.raiseIf_tbs (d.snapContradicts r) gnsPg 8).trans ht),
    (Dev.withSol_mbx _ _).trans ((e.raiseIf_mbx (d.snapContradicts r) gnsPg 8).trans hm)⟩

end

end Sys2Proof.Machine
end

section
/-! PROOF. O48: the statement. -/

namespace Sys2Proof.Machine

section
variable {d : Dev} {len : Nat} (trig : Nat)

/-- What a permitted trigger begins. -/
theorem snapStarted_begun (h : d.snapBar len = 0) : ∃ x y, d.snapNoted (d.snapLength d.snapBands (clampNat 2 20 len)) y = x ∧
    ∃ e, x.snapKeeps e ∧ snapStarted len trig d = e.stopEach (fun b u => bitAt d.snapBands b && !(u.gb (gnfB b) Reg.GNF.BSTAT_CLK_OK)) ∧
      e.snap.bands = d.snapBands ∧ e.snap.complete = false ∧
      (∀ {α : Type} {g : Dev → α}, CapBlind g → g (snapStarted len trig d) = g d) ∧
      ∀ b < 4, e.gb (gnfB b) Reg.GNF.BSTAT_CLK_OK = d.gb (gnfB b) Reg.GNF.BSTAT_CLK_OK := by
  obtain ⟨h0, hg, hb, hl⟩ := snapBar_taken d len h
  have he := snapStarted_taken (trig := trig) h0 hg hb hl
  refine ⟨_, _, rfl, _, snapBegun_keeps _ _ _ _, he, rfl, rfl, fun hc => ?_, fun b hb => snapBegun_clk _ _ _ _ hb⟩
  rw [he]
  exact (hc.snapStops _ _).trans (hc.snapBegun _ _ _ _)

end

theorem Dev.withSnap_tbs (d : Dev) (x : SnapSt) : (d.withSnap x).tbs = d.tbs := rfl

theorem Dev.withSnap_mbx (d : Dev) (x : SnapSt) : (d.withSnap x).mbx = d.mbx := rfl

section
variable {s : State} {b : Fin 4} {r : SnapSol} {c : FwCmd}

theorem exec_snapProcess (hc : s.atCommit b.val 0x0210 c) :
    exec (.snapProcess b r) s = .next (s.withDev ((snapProcessed b.val r c s.dev).handed b.val c)) :=
  next_onDev (f := fun d => d.mbxCommit b.val 0x0210 (snapProcessed b.val r)) (Dev.mbxCommit_eq hc (by decide) _)

theorem snapProcessed_solves {d : Dev} (hl : c.len = 0) (hg : d.gnssOn = true) (hb : d.snap.box = some (b.val, c.id))
    (hs : d.g gnsPg Reg.GNS.SNSTAT_STATE = 2) :
    snapProcessed b.val r c d = { dev := snapSolved r (d.withSnap { d.snap with box := none }), code := codeOK } :=
  (if_neg (not_not.2 hl)).trans ((if_neg (by simp [hg])).trans (if_pos (by simp [hb, hs])))

theorem snapProcessed_refuses {d : Dev}
    (h : c.len ≠ 0 ∨ d.gnssOn = false ∨ d.snap.box ≠ some (b.val, c.id) ∨ d.g gnsPg Reg.GNS.SNSTAT_STATE ≠ 2) :
    snapProcessed b.val r c d =
      { dev := d, code := if c.len ≠ 0 then codeBadLen else if d.gnssOn = false then codeNotAvailable else codeBusy } := by
  unfold snapProcessed
  by_cases hl : c.len ≠ 0
  · rw [if_pos hl, if_pos hl]
  rw [if_neg hl, if_neg hl]
  by_cases hg : d.gnssOn = false
  · rw [if_pos hg, if_pos (by simp [hg])]
  have hr := (h.resolve_left hl).resolve_left hg
  rw [if_neg hg, if_neg (by simpa using hg), if_neg]
  rintro hbs
  simp only [Bool.and_eq_true, decide_eq_true_eq, beq_iff_eq] at hbs
  exact hr.elim (fun hn => hn hbs.1) fun hn => hn hbs.2

theorem exec_snapProcessed {e : Dev} {code : Nat} (hc : s.atCommit b.val 0x0210 c) (hr : snapProcessed b.val r c s.dev = { dev := e, code := code })
    (hm : e.mbx = s.dev.mbx) : ∃ t, exec (.snapProcess b r) s = .next t ∧ s.finished t b.val c code [] ∧
      (∀ {α : Type} (g : Dev → α), (∀ (x : Dev) v, g { x with mbx := v } = g x) → g t.dev = g e) ∧ s.keepsRest t :=
  ⟨_, (exec_snapProcess hc).trans (congrArg (fun x : FwResult => Host.Outcome.next (s.withDev (x.handed b.val c))) hr),
    State.finished_handed b.val c hm, fun _ hg => hg _ _, s.keepsRest_withDev _⟩

end

theorem snapStart_done (m : Master) (s : State) (hw : s.writable m (gnsPg + 0x204)) :
    let bands := ((List.range 4).filter fun b => bitAt (s.dev.g gnsPg Reg.GNS.SNCFG_BANDS) b && s.dev.bandOn b).foldl
      (fun m b => m + 2 ^ b) 0
    let len := s.dev.snapLength bands (clampNat 2 20 (s.dev.g gnsPg Reg.GNS.SNCFG_LEN))
    let refuse := if s.dev.g gnsPg Reg.GNS.SNSTAT_STATE ≠ 0 then 1 else if s.dev.gnssOn = false then 4
      else if bands = 0 then 2 else if len < 2 then 3 else 0
    (refuse = 0 → ∃ t, exec (.snapStart m) s = .next t ∧ t.dev.g gnsPg Reg.GNS.SNSTAT_STATE = 1 ∧
      t.dev.g gnsPg Reg.GNS.SNSTAT_MS = len ∧ t.dev.snap.bands = bands ∧ t.dev.snap.complete = false ∧
      (∀ b < 4, bitAt bands b = true → s.dev.gb (gnfB b) Reg.GNF.BSTAT_CLK_OK = false → bitAt t.dev.snap.stopped b = true) ∧
      t.dev.tbs = s.dev.tbs ∧ s.dev.sameEvents t.dev [] ∧ s.keepsRest t) ∧
    (refuse ≠ 0 → ∃ t, exec (.snapStart m) s = .next t ∧ t.dev.g gnsPg Reg.GNS.SNSTAT_REFUSE = refuse ∧
      t.dev.evt gnsPg 7 = (s.dev.evt gnsPg 7).occur ∧ s.onlyTouches t [gnsPg + Reg.GNS.SNSTAT_REFUSE.off] [gnsPg + 7]) := by
  obtain ⟨d, hd⟩ : ∃ d, d = s.dev.regAccess m (gnsPg + 0x204) := ⟨_, rfl⟩
  have he : exec (.snapStart m) s = .next (s.withDev (snapStarted (d.g gnsPg Reg.GNS.SNCFG_LEN) (d.tb0 d.lead) d)) :=
    hd ▸ exec_of_writeAt (f := fun x => snapStarted (x.g gnsPg Reg.GNS.SNCFG_LEN) (x.tb0 x.lead) x) rfl hw
  have hev : ∀ pg k, d.evt pg k = s.dev.evt pg k := fun pg k => hd ▸ rfl
  have hbar : d.snapBar (d.g gnsPg Reg.GNS.SNCFG_LEN) = s.dev.snapBar (s.dev.g gnsPg Reg.GNS.SNCFG_LEN) := hd ▸ rfl
  have hclk : ∀ b, d.gb (gnfB b) Reg.GNF.BSTAT_CLK_OK = s.dev.gb (gnfB b) Reg.GNF.BSTAT_CLK_OK := fun b => hd ▸ rfl
  have htb : d.tbs = s.dev.tbs := hd ▸ rfl
  have hnb : d.snapBands = s.dev.snapBands := hd ▸ rfl
  have hlen : d.snapLength d.snapBands (clampNat 2 20 (d.g gnsPg Reg.GNS.SNCFG_LEN)) =
      s.dev.snapLength s.dev.snapBands (clampNat 2 20 (s.dev.g gnsPg Reg.GNS.SNCFG_LEN)) := hd ▸ rfl
  have hto : s.dev.touches d [gnsPg + Reg.GNS.SNSTAT_REFUSE.off] [gnsPg + 7] := hd ▸ Dev.touches_regAccess s.dev m _ _ _
  intro bands len refuse
  have hrefuse : d.snapBar (d.g gnsPg Reg.GNS.SNCFG_LEN) = refuse := hbar
  refine ⟨fun h0 => ?_, fun h0 => ?_⟩
  · obtain ⟨x, y, hx, e, hk, hst, hbands, hcompl, hblind, hclock⟩ := snapStarted_begun (d.tb0 d.lead) (hrefuse.trans h0)
    obtain ⟨hn1, hn2⟩ := snapNoted_fields d (snapLength_lt d (d.g gnsPg Reg.GNS.SNCFG_LEN) d.snapBands) y
    rw [hx] at hn1 hn2
    have hmore := stopEach_more e fun b u => bitAt d.snapBands b && !(u.gb (gnfB b) Reg.GNF.BSTAT_CLK_OK)
    have hstate := (Dev.g_of_w (o := 0x208) (f := Reg.GNS.SNSTAT_STATE) hk.stat).trans hn1
    refine ⟨_, he, ?_, ?_, ?_, ?_, fun b hb hbit hc => ?_, (hblind capBlind_tbs).trans htb,
      fun pg k _ => (hblind (capBlind_evt pg k)).trans (hev pg k), s.keepsRest_withDev _⟩
    · rw [State.withDev_dev, hst]
      exact hmore.state.trans hstate
    · rw [State.withDev_dev, hst]
      exact hmore.ms.trans ((Dev.g_of_w (o := 0x208) (f := Reg.GNS.SNSTAT_MS) hk.stat).trans (hn2.trans hlen))
    · rw [State.withDev_dev, hst]
      exact hmore.bands.trans (hbands.trans hnb)
    · rw [State.withDev_dev, hst]
      exact hmore.complete.trans hcompl
    · rw [State.withDev_dev, hst]
      have hbit' : bitAt d.snapBands b = true := hnb ▸ hbit
      refine stopEach_own e _ hb hstate (by rw [hbands]; exact hbit') fun u hu => ?_
      rw [hbit', hu.clock b hb, hclock b hb, hclk, hc]
      rfl
  · have hre := snapStarted_barred d (d.g gnsPg Reg.GNS.SNCFG_LEN) (d.tb0 d.lead) (hrefuse ▸ h0)
    obtain ⟨hf, hv⟩ := snapRefused_fields d (snapBar_lt d (d.g gnsPg Reg.GNS.SNCFG_LEN))
    rw [hre] at he
    refine ⟨_, he, hf.trans hrefuse, hv.trans (congrArg EvtWord.occur (hev _ _)), Dev.touches.onlyTouches ?_⟩
    exact (hto.p (List.mem_singleton_self _) _).raise (List.mem_singleton_self _)

/-- Settles O48: a capture shows in the words of the snapshot and of its regions alone; the bands without a clock stop one by one,
and a band that has stopped stays so. -/
theorem snapshotsCaptureAndAreProcessed : Obligations.SnapshotsCaptureAndAreProcessed := by
  unfold Obligations.SnapshotsCaptureAndAreProcessed
  refine ⟨snapStart_done, fun m samples s hw h1 => ?_, fun m samples s hw => ⟨fun h2 => ?_, fun h1 h2 => ?_⟩, fun samples s h1 => ?_,
    fun samples s h1 => next_onDev (f := snapEnded samples) (d := s.dev) (snapEnded_idle samples s.dev h1), fun b r s c hc hr hl hg hb hs => ?_,
    fun b r s c hc hr h => ?_, fun b r s hc => ?_⟩
  · obtain ⟨d, hd⟩ : ∃ d, d = s.dev.regAccess m (gnsPg + 0x204) := ⟨_, rfl⟩
    have h1' : d.g gnsPg Reg.GNS.SNSTAT_STATE = 1 := hd ▸ h1
    have he : exec (.snapAbort m samples) s = .next (s.withDev ((d.stopEach fun _ _ => true).snapStored samples)) :=
      (hd ▸ exec_of_writeAt (f := snapAbortAsked samples) rfl hw).trans
        (congrArg (fun e => Host.Outcome.next (s.withDev e)) (snapAbortAsked_capture samples d h1'))
    have hbands : d.snap.bands = s.dev.snap.bands := hd ▸ rfl
    have hstop {α : Type} {g : Dev → α} (hg : SnapBlind g) : g (d.stopEach fun _ _ => true) = g d :=
      Dev.each_keeps g 4 _ d fun b _ e => keeps_ite (g := g) (hg.snapBandStop e b false) rfl
    refine ⟨_, he, snapStored_state _ _, snapStored_complete _ _, fun b hb hbit => ?_, (snapStored_done _ _).trans ?_,
      (snapStored_tbs _ _).trans ((hstop snapBlind_tbs).trans (hd ▸ rfl)), s.keepsRest_withDev _⟩
    · refine (congrArg (bitAt · b) (snapStored_stopped samples _)).trans ?_
      exact stopEach_own d (fun _ _ => true) hb h1' (by rw [hbands]; exact hbit) fun _ _ => rfl
    · exact congrArg EvtWord.occur ((hstop (snapBlind_evt gnsPg 6)).trans (hd ▸ rfl))
  · obtain ⟨d, hd⟩ : ∃ d, d = s.dev.regAccess m (gnsPg + 0x204) := ⟨_, rfl⟩
    have he : exec (.snapAbort m samples) s = .next (s.withDev (snapCancelled (d.p gnsPg Reg.GNS.SNSTAT_STATE 0))) :=
      (hd ▸ exec_of_writeAt (f := snapAbortAsked samples) rfl hw).trans
        (congrArg (fun e => Host.Outcome.next (s.withDev e)) (snapAbortAsked_processing samples d (hd ▸ h2)))
    refine ⟨_, he, ?_, snapCancelled_box _, fun pg k _ => ?_, s.keepsRest_withDev _⟩
    · exact (snapCancelled_keeps (g := fun e => e.g gnsPg Reg.GNS.SNSTAT_STATE) _ (fun _ _ => rfl) fun _ _ _ => rfl).trans
        (d.g_p_same _ _ _ (by decide))
    · exact (snapCancelled_keeps (g := fun e => e.evt pg k) _ (fun _ _ => rfl) fun _ _ _ => rfl).trans ((d.evt_p _ _ _ _ _).trans (hd ▸ rfl))
  · obtain ⟨d, hd⟩ : ∃ d, d = s.dev.regAccess m (gnsPg + 0x204) := ⟨_, rfl⟩
    have he : exec (.snapAbort m samples) s = .next (s.withDev d) :=
      (hd ▸ exec_of_writeAt (f := snapAbortAsked samples) rfl hw).trans
        (congrArg (fun e => Host.Outcome.next (s.withDev e)) (snapAbortAsked_idle samples d (hd ▸ h1) (hd ▸ h2)))
    exact ⟨_, he, (hd ▸ Dev.touches_regAccess s.dev m _ [] []).onlyTouches⟩
  · exact ⟨_, next_onDev (f := snapEnded samples) (snapEnded_now samples s.dev h1), snapStored_state _ _, snapStored_complete _ _,
      snapStored_done _ _, snapStored_tbs _ _, s.keepsRest_withDev _⟩
  · have hf := snapSolved_fields r (s.dev.withSnap { s.dev.snap with box := none })
    have hsol := snapProcessed_solves (r := r) hl hg hb hs
    have htb := Dev.withSnap_tbs s.dev { s.dev.snap with box := none }
    have hmb := Dev.withSnap_mbx s.dev { s.dev.snap with box := none }
    generalize s.dev.withSnap { s.dev.snap with box := none } = d at hf hsol htb hmb
    generalize snapSolved r d = e at hf hsol
    obtain ⟨h1, h2, h3, h4, h5, h6⟩ := hf
    obtain ⟨t, he, hfin, hk, hrest⟩ := exec_snapProcessed ⟨hc, hr⟩ hsol (h6.trans hmb)
    exact ⟨t, he, hfin, (hk (fun u => u.g gnsPg Reg.GNS.SNSTAT_STATE) fun _ _ => rfl).trans h1,
      (hk (fun u => u.g gnsPg Reg.GNS.SNRES_INFO_NSV) fun _ _ => rfl).trans h2,
      (hk (fun u => u.gb gnsPg Reg.GNS.SNRES_INFO_VALID) fun _ _ => rfl).trans h3,
      (hk (fun u => u.g gnsPg Reg.GNS.SNRES_INFO_SIGMA) fun _ _ => rfl).trans h4, (hk Dev.tbs fun _ _ => rfl).trans (h5.trans htb), hrest⟩
  · have he := exec_snapProcess (r := r) (c := c) (b := b) ⟨hc, hr⟩
    rw [snapProcessed_refuses h] at he
    exact ⟨_, he, State.finished_handed b.val c rfl, State.onlyTouches_handed (.refl _ _ _) rfl⟩
  · exact next_onDev (f := fun d => d.mbxCommit b.val 0x0210 (snapProcessed b.val r)) (d := s.dev) (Dev.mbxCommit_none hc _)

end Sys2Proof.Machine
end

section
/-! SUPPORT. Launch gates: what is held, reported and discarded shows in the gates, the LGT pages and what follows a frame
(R316 to R328). -/

namespace Sys2Proof.Machine

/-! ### A gate and its words -/

section
variable (d : Dev) (p q : Nat) (v : GateSt)

theorem gate_setGate_same : (d.setGate p v).gate p = v := by rw [Dev.gate_setGate, if_pos rfl]

theorem gate_setGate_ne (h : q ≠ p) : (d.setGate p v).gate q = d.gate q := by rw [Dev.gate_setGate, if_neg h]

/-- The device with its gates replaced. -/
def Dev.withGates (d : Dev) (x : Tab GateSt) : Dev := { d with gates := x }

theorem setGate_eq : d.setGate p v = ((d.withGates (tset {} d.gates p v)).p (lgtG p) Reg.LGT.GSTAT_HELD v.held.length).p (lgtG p)
    Reg.LGT.RPTSTAT_DEPTH v.reports.length := rfl

theorem withGates_w (x : Tab GateSt) (a : Nat) : (d.withGates x).w a = d.w a := rfl

theorem setGate_w {a : Nat} (h0 : a ≠ lgtG p) (h1 : a ≠ lgtG p + 0x34) : (d.setGate p v).w a = d.w a := by
  rw [setGate_eq]
  exact (Dev.w_p_ne _ _ _ _ _ h1).trans (Dev.w_p_ne _ _ Reg.LGT.GSTAT_HELD _ _ h0)

theorem setGate_evt (pg k : Nat) : (d.setGate p v).evt pg k = d.evt pg k := rfl

/-- A field of a gate's status word beside the number of frames held. -/
theorem setGate_beside {f : Fld} (ho : f.off = 0) (hl : 9 ≤ f.lo) : (d.setGate p v).g (lgtG q) f = d.g (lgtG q) f := by
  rw [setGate_eq]
  have h34 : lgtG q + f.off ≠ lgtG p + Reg.LGT.RPTSTAT_DEPTH.off := by
    have : Reg.LGT.RPTSTAT_DEPTH.off = 0x34 := rfl
    have hb (h : Half) : lgtPg h % 0x40 = 0 := by cases h <;> rfl
    have h1 := hb (portHalf p)
    have h2 := hb (portHalf q)
    unfold lgtG
    omega
  refine (Dev.g_p_ne _ _ _ _ _ _ h34).trans (Eq.trans ?_ (Dev.g_of_w (o := f.off) (withGates_w d (tset {} d.gates p v) _)))
  by_cases he : lgtG q + f.off = lgtG p + Reg.LGT.GSTAT_HELD.off
  · exact Dev.g_p_beside _ _ _ _ _ _ he (by decide) (.inl hl)
  · exact Dev.g_p_ne _ _ _ _ _ _ he

theorem setGate_tbs : (d.setGate p v).tbs = d.tbs := rfl

end

/-! ### What follows a gated frame -/

/-- An observation in which the frames that wait do not show, nor what the gates' pages say of them. -/
structure GateBlind {α : Type} (g : Dev → α) : Prop where
  word : ∀ d a v, 0x340000 ≤ a → g (Dev.setw d a v) = g d
  event : ∀ d p k, g (Dev.raise d (lgtPg (portHalf p)) (lgtEvt p k)) = g d
  gates : ∀ d (x : Tab GateSt), g { d with gates := x } = g d
  resp : ∀ d (x : Pair RespSt), g { d with resp := x } = g d
  planes : ∀ d (x : Pair Plane), g { d with planes := x } = g d

theorem lgtPg_low (h : Half) : 0x340000 ≤ lgtPg h := by cases h <;> decide

theorem lgtG_low (p o : Nat) : 0x340000 ≤ lgtG p + o := by
  have := lgtPg_low (portHalf p)
  unfold lgtG
  omega

section
variable {α : Type} {g : Dev → α} (hg : GateBlind g)
include hg

theorem GateBlind.p (d : Dev) (q : Nat) (f : Fld) (v : Nat) : g (d.p (lgtG q) f v) = g d := hg.word d _ _ (lgtG_low q _)

theorem GateBlind.setGate (d : Dev) (q : Nat) (v : GateSt) : g (d.setGate q v) = g d :=
  (hg.p _ _ _ _).trans ((hg.p _ _ _ _).trans (hg.gates _ _))

theorem GateBlind.raiseIf (d : Dev) (c : Bool) (q k : Nat) : g (d.raiseIf c (lgtPg (portHalf q)) (lgtEvt q k)) = g d := by
  cases c
  · rfl
  · exact hg.event _ _ _

theorem GateBlind.report (d : Dev) (q : Nat) (r : Report) : g (d.report q r) = g d :=
  (hg.raiseIf _ _ _ _).trans (hg.setGate _ _ _)

theorem GateBlind.reportFate (d : Dev) (x : GFrame) (status : Nat) : g (d.reportFate x status) = g d := by
  unfold Dev.reportFate
  split
  · exact hg.report _ _ _
  · exact hg.report _ _ _
  · rfl

theorem GateBlind.mapFollow (d : Dev) (h : Half) (id : Nat) (f : GFrame → Option GFrame) : g (d.mapFollow h id f) = g d :=
  (Dev.each_keeps g 4 _ _ fun _ _ _ => hg.setGate _ _ _).trans ((hg.planes _ _).trans (hg.resp _ _))

theorem GateBlind.dropFollow (d : Dev) (x : GFrame) : g (d.dropFollow x) = g d := hg.mapFollow _ _ _ _

theorem GateBlind.gateDiscard (d : Dev) (status : Nat) (x : GFrame) : g (d.gateDiscard status x) = g d :=
  (hg.dropFollow _ _).trans ((hg.reportFate _ _ _).trans ((hg.event _ _ _).trans (hg.p _ _ _ _)))

theorem GateBlind.gateFlush (d : Dev) (q status : Nat) (c : GFrame → Bool) : g (d.gateFlush q status c) = g d :=
  (foldl_keeps (g := g) (fun e x => hg.gateDiscard e status x) _ _).trans (hg.setGate _ _ _)

end

theorem gateBlind_tbs : GateBlind Dev.tbs := ⟨fun _ _ _ _ => rfl, fun _ _ _ => rfl, fun _ _ => rfl, fun _ _ => rfl, fun _ _ => rfl⟩

theorem gateBlind_ports : GateBlind Dev.ports := ⟨fun _ _ _ _ => rfl, fun _ _ _ => rfl, fun _ _ => rfl, fun _ _ => rfl, fun _ _ => rfl⟩

theorem gateBlind_macc : GateBlind Dev.macc := ⟨fun _ _ _ _ => rfl, fun _ _ _ => rfl, fun _ _ => rfl, fun _ _ => rfl, fun _ _ => rfl⟩

theorem gateBlind_w {a : Nat} (ha : a < 0x340000) : GateBlind (fun d => d.w a) :=
  ⟨fun d b v hb => (d.w_setw _ _ _).trans (if_neg (by omega)), fun d _ _ => d.w_raise _ _ _, fun _ _ => rfl, fun _ _ => rfl, fun _ _ => rfl⟩

theorem gateBlind_evt {pg k : Nat} (hk : ∀ p j, pg + k ≠ lgtPg (portHalf p) + lgtEvt p j) : GateBlind (fun d => d.evt pg k) :=
  ⟨fun _ _ _ _ => rfl, fun d p j => d.evt_raise_ne (hk p j), fun _ _ => rfl, fun _ _ => rfl, fun _ _ => rfl⟩

/-! ### A gate that holds nothing -/

/-- A gate holds nothing still where frames are taken away and reported. -/
structure HeldLess (g : Dev → Prop) : Prop where
  word : ∀ d a v, g d → g (Dev.setw d a v)
  event : ∀ d pg k, g d → g (Dev.raise d pg k)
  resp : ∀ d (x : Pair RespSt), g d → g { d with resp := x }
  planes : ∀ d (x : Pair Plane), g d → g { d with planes := x }
  gate : ∀ d p (v : GateSt), v.held ⊆ (Dev.gate d p).held → g d → g (Dev.setGate d p v)

section
variable {g : Dev → Prop} (hg : HeldLess g) {d : Dev} (hd : g d)
include hg hd

theorem HeldLess.report (q : Nat) (r : Report) : g (d.report q r) := by
  unfold Dev.report Dev.raiseIf
  dsimp only
  split
  · exact hg.event _ _ _ (hg.gate _ _ _ (List.Subset.refl _) hd)
  · exact hg.gate _ _ _ (List.Subset.refl _) hd

theorem HeldLess.reportFate (x : GFrame) (status : Nat) : g (d.reportFate x status) := by
  unfold Dev.reportFate
  split
  · exact hg.report hd _ _
  · exact hg.report hd _ _
  · exact hd

theorem HeldLess.dropFollow (x : GFrame) : g (d.dropFollow x) := by
  unfold Dev.dropFollow Dev.mapFollow
  refine Dev.each_ind (P := g) (hg.planes _ _ (hg.resp _ _ hd)) fun j _ e he => hg.gate _ _ _ (fun y hy => ?_) he
  obtain ⟨z, hz, hzy⟩ := List.mem_filterMap.1 hy
  split_ifs at hzy
  cases hzy
  exact hz

theorem HeldLess.gateDiscard (status : Nat) (x : GFrame) : g (d.gateDiscard status x) :=
  hg.dropFollow (hg.reportFate (hg.event _ _ _ (hg.word _ _ _ hd)) _ _) _

end

theorem heldLess_none (p : Nat) : HeldLess (fun d => (d.gate p).held = []) := by
  refine ⟨fun _ _ _ h => h, fun _ _ _ h => h, fun _ _ h => h, fun _ _ h => h, fun d q v hv h => ?_⟩
  rw [Dev.gate_setGate]
  split
  · next hq =>
    subst hq
    rw [h] at hv
    exact List.subset_nil.1 hv
  · exact h

end Sys2Proof.Machine
end

section
/-! SUPPORT. Devices that differ in words, events and the engines that a restoration puts back: the network's engines change beside
their registers. -/

namespace Sys2Proof.Machine

/-- A restoration puts engines back and leaves registers, events and counters. -/
structure Restores (R : Dev → Dev) : Prop where
  setw : ∀ d a v, R (Dev.setw d a v) = (R d).setw a v
  raise : ∀ d pg k, R (Dev.raise d pg k) = (R d).raise pg k
  perf : ∀ d pg c a k r, R (Dev.perf d pg c a k r) = (R d).perf pg c a k r

/-- Two devices differ in words and events of two lists at most, beside the engines put back. -/
def Dev.touchesBy (R : Dev → Dev) (d e : Dev) (ws es : List Nat) : Prop := d.touches (R e) ws es

theorem Dev.touches.perf {d e : Dev} {ws es : List Nat} (ht : d.touches e ws es) (pg c : Nat) (a : PerfAttr) (k r : Nat) :
    d.touches (e.perf pg c a k r) ws es := by
  obtain ⟨hw, he, hu, hl⟩ := ht
  exact ⟨hw, he, hu, hl⟩

section
variable {R : Dev → Dev} (hR : Restores R) {d e : Dev} {ws es : List Nat} (ht : d.touchesBy R e ws es)
include hR ht

theorem Dev.touchesBy.setw {a : Nat} (hm : a ∈ ws) (v : Nat) : d.touchesBy R (e.setw a v) ws es := by
  unfold Dev.touchesBy
  rw [hR.setw]
  exact Dev.touches.setw ht hm v

theorem Dev.touchesBy.p {b : Nat} {f : Fld} (hm : b + f.off ∈ ws) (v : Nat) : d.touchesBy R (e.p b f v) ws es :=
  Dev.touchesBy.setw hR ht hm _

theorem Dev.touchesBy.pb {b : Nat} {f : Fld} (hm : b + f.off ∈ ws) (v : Bool) : d.touchesBy R (e.pb b f v) ws es :=
  Dev.touchesBy.setw hR ht hm _

theorem Dev.touchesBy.inc {b : Nat} {f : Fld} (hm : b + f.off ∈ ws) (k : Nat) : d.touchesBy R (e.inc b f k) ws es :=
  Dev.touchesBy.setw hR ht hm _

theorem Dev.touchesBy.raise {pg k : Nat} (hm : pg + k ∈ es) : d.touchesBy R (e.raise pg k) ws es := by
  unfold Dev.touchesBy
  rw [hR.raise]
  exact Dev.touches.raise ht hm

theorem Dev.touchesBy.raiseIf {pg k : Nat} (hm : pg + k ∈ es) (c : Bool) : d.touchesBy R (e.raiseIf c pg k) ws es := by
  cases c
  · exact ht
  · exact Dev.touchesBy.raise hR ht hm

theorem Dev.touchesBy.perf (pg c : Nat) (a : PerfAttr) (k r : Nat) : d.touchesBy R (e.perf pg c a k r) ws es := by
  unfold Dev.touchesBy
  rw [hR.perf]
  exact Dev.touches.perf ht pg c a k r

end

section
variable {R : Dev → Dev} {d e e' : Dev} {ws es : List Nat}

/-- A change of the engines alone. -/
theorem Dev.touchesBy.hidden (ht : d.touchesBy R e ws es) (h : R e' = R e) : d.touchesBy R e' ws es := by
  unfold Dev.touchesBy
  rwa [h]

theorem Dev.touchesBy.mono {ws' es' : List Nat} (ht : d.touchesBy R e ws es) (hw : ws ⊆ ws') (he : es ⊆ es') : d.touchesBy R e ws' es' :=
  Dev.touches.mono ht hw he

theorem Dev.touchesBy.of_touches (h : d.touches (R e) ws es) : d.touchesBy R e ws es := h

theorem Dev.touchesBy.onlyTouches {s : State} (ht : s.dev.touchesBy R e ws es) : s.onlyTouches (s.withDev (R e)) ws es :=
  Dev.touches.onlyTouches ht

end

/-! ### The restorations of the network -/

section
variable (d : Dev)

/-- The planes put back. -/
def Dev.backPlanes (d e : Dev) : Dev := { e with planes := d.planes }

/-- The gates put back. -/
def Dev.backGates (d e : Dev) : Dev := { e with gates := d.gates }

/-- The planes and the redundancy engines put back. -/
def Dev.backRed (d e : Dev) : Dev := { e with planes := d.planes, red := d.red }

/-- The planes, the gates and the redundancy engines put back. -/
def Dev.backLine (d e : Dev) : Dev := { e with planes := d.planes, gates := d.gates, red := d.red }

/-- The ports put back. -/
def Dev.backPorts (d e : Dev) : Dev := { e with ports := d.ports }

/-- The ports and their counters put back. -/
def Dev.backMacs (d e : Dev) : Dev := { e with ports := d.ports, macc := d.macc }

/-- The responders put back. -/
def Dev.backResp (d e : Dev) : Dev := { e with resp := d.resp }

theorem restores_planes : Restores d.backPlanes := ⟨fun _ _ _ => rfl, fun _ _ _ => rfl, fun _ _ _ _ _ _ => rfl⟩

theorem restores_gates : Restores d.backGates := ⟨fun _ _ _ => rfl, fun _ _ _ => rfl, fun _ _ _ _ _ _ => rfl⟩

theorem restores_red : Restores d.backRed := ⟨fun _ _ _ => rfl, fun _ _ _ => rfl, fun _ _ _ _ _ _ => rfl⟩

theorem restores_line : Restores d.backLine := ⟨fun _ _ _ => rfl, fun _ _ _ => rfl, fun _ _ _ _ _ _ => rfl⟩

theorem restores_ports : Restores d.backPorts := ⟨fun _ _ _ => rfl, fun _ _ _ => rfl, fun _ _ _ _ _ _ => rfl⟩

theorem restores_macs : Restores d.backMacs := ⟨fun _ _ _ => rfl, fun _ _ _ => rfl, fun _ _ _ _ _ _ => rfl⟩

theorem restores_resp : Restores d.backResp := ⟨fun _ _ _ => rfl, fun _ _ _ => rfl, fun _ _ _ _ _ _ => rfl⟩

end

end Sys2Proof.Machine
end

section
/-! SUPPORT. A frame in line for its gate, and what it meets there (R316 to R320). -/

namespace Sys2Proof.Machine

section
variable (d : Dev) (h : Half) (i : Nat) (g : GFrame)

/-- A line with one frame taken out of it. -/
def Dev.lined (d : Dev) (h : Half) (i : Nat) : Dev := d.setPlane h { d.plane h with gateIn := (d.plane h).gateIn.eraseIdx i }

/-- A frame that passes the line: a reply is sampled. -/
def Dev.crossed (d : Dev) (h : Half) (g : GFrame) : Dev :=
  match g.src with
  | .reply _ => d.digestSample h g
  | _ => d

/-- The device with other planes and other redundancy engines. -/
def Dev.aside (d : Dev) (x : Pair Plane) (y : Pair RedSt) : Dev := { d with planes := x, red := y }

theorem crossed_aside (x : Pair Plane) (y : Pair RedSt) : ∃ z, (d.aside x y).crossed h g = d.aside x z := by
  unfold Dev.crossed
  split
  · unfold Dev.digestSample
    dsimp only
    split_ifs
    · exact ⟨_, rfl⟩
    · exact ⟨_, rfl⟩
    · exact ⟨_, rfl⟩
  · exact ⟨y, rfl⟩

/-- What stands when the frame has left the line. -/
theorem lined_crossed : ∃ y, (d.lined h i).crossed h g = d.aside (d.lined h i).planes y :=
  crossed_aside d h g (d.lined h i).planes d.red

theorem lined_in : ((d.lined h i).planes.of h).gateIn = (d.plane h).gateIn.eraseIdx i := by
  unfold Dev.lined Dev.setPlane
  dsimp only
  rw [Pair.of_put]

variable {d h i g}

theorem gateAccepted_eq (hg : (d.plane h).gateIn[i]? = some g) : gateAccepted h i d =
    if (d.gateFull g.port (d.gWire h g g.t).length && !g.mute) = true then d
    else if g.mute = true then (d.lined h i).crossed h g
    else if d.halfMute h = true then ((d.lined h i).crossed h g).reportFate g 5 else ((d.lined h i).crossed h g).gateArrive g := by
  unfold gateAccepted Dev.lined Dev.crossed
  simp only [hg] <;> rfl

theorem gateAccepted_stays (hs : ∀ g, (d.plane h).gateIn[i]? = some g →
    g.mute = false ∧ d.gateFull g.port (d.gWire h g g.t).length = true) : gateAccepted h i d = d := by
  cases hg : (d.plane h).gateIn[i]? with
  | none =>
    unfold gateAccepted
    simp only [hg]
  | some g =>
    obtain ⟨h1, h2⟩ := hs g hg
    rw [gateAccepted_eq hg, if_pos (by rw [h1, h2]; rfl)]

theorem gateAccepted_muted (hg : (d.plane h).gateIn[i]? = some g) (hm : g.mute = true) : gateAccepted h i d = (d.lined h i).crossed h g := by
  rw [gateAccepted_eq hg, if_neg (by simp [hm]), if_pos hm]

theorem gateAccepted_passes (hg : (d.plane h).gateIn[i]? = some g) (hm : g.mute = false)
    (hf : d.gateFull g.port (d.gWire h g g.t).length = false) : gateAccepted h i d =
      if d.halfMute h = true then ((d.lined h i).crossed h g).reportFate g 5 else ((d.lined h i).crossed h g).gateArrive g := by
  rw [gateAccepted_eq hg, if_neg (by simp [hf]), if_neg (by simp [hm])]

end

/-! ### At the gate -/

section
variable (d : Dev) (x : Pair Plane) (y : Pair RedSt)

theorem aside_window (g : GFrame) (t : Nat) : (d.aside x y).window g t = d.window g t := rfl

theorem aside_deadline (p t : Nat) : (d.aside x y).deadline p t = d.deadline p t := rfl

theorem aside_w (a : Nat) : (d.aside x y).w a = d.w a := rfl

theorem aside_evt (pg k : Nat) : (d.aside x y).evt pg k = d.evt pg k := rfl

end

section
variable {d : Dev} {g : GFrame}

/-- A frame in time that nothing stands in the way of is held. -/
theorem place_free (hb : d.tb0 (portHalf g.port) < (d.port g.port).txTo →
      overlaps (d.window g g.t) ((d.port g.port).txFrom, (d.port g.port).txTo) = false)
    (hh : ∀ x ∈ (d.gate g.port).held, overlaps (d.window g g.t) (d.window x x.t) = false) :
    d.place g = (d.setGate g.port { d.gate g.port with held := (d.gate g.port).held }).keepHeld g g.t := by
  have hit : (d.gate g.port).held.filter (fun x => overlaps (d.window g g.t) (d.window x x.t)) = [] :=
    List.filter_eq_nil_iff.2 fun x hx => by simp [hh x hx]
  have hbusy : (decide (d.tb0 (portHalf g.port) < (d.port g.port).txTo) &&
      overlaps (d.window g g.t) ((d.port g.port).txFrom, (d.port g.port).txTo)) = false := by
    by_cases ht : d.tb0 (portHalf g.port) < (d.port g.port).txTo
    · rw [hb ht, Bool.and_false]
    · rw [decide_eq_false ht, Bool.false_and]
  unfold Dev.place
  dsimp only
  rw [hit, hbusy]
  simp

/-- A frame in time, on a port and a gate that take it, is placed. -/
theorem gateArrive_place (hon : d.gateOn (portHalf g.port) = true) (hup : d.portUp g.port = true)
    (hv : d.gb (pcsPg g.port) Reg.PCS.PSTAT_DLY_VALID = true) (hbl : d.gb (lgtG g.port) Reg.LGT.GSTAT_BLIND = false)
    (hr : g.isReport = false) (hgen : g.gen = d.stepgen.of (portHalf g.port))
    (hsoon : ∀ tag, g.src = .hostAt tag → ns32 g.t ≤ d.tb0 (portHalf g.port) + ns32 1000000)
    (hd : (d.tb0 (portHalf g.port) : Int) ≤ d.deadline g.port g.t) : d.gateArrive g = d.place g := by
  unfold Dev.gateArrive
  dsimp only
  rw [if_neg (by simp [hon]), if_neg (by simp [hup, hv]), if_neg (by simp [hbl])]
  split
  case h_1 tag hs => exact absurd (by unfold GFrame.isReport; rw [hs]) (by rw [hr]; decide : ¬ g.isReport = true)
  case h_2 tag hs => rw [if_neg (not_not.2 hgen), if_neg (Nat.not_lt.2 (hsoon tag hs)), if_neg (Int.not_lt.2 hd)]
  case h_3 => rw [if_neg (not_not.2 hgen), if_neg (Int.not_lt.2 hd)]

/-- A host frame past its deadline is dropped and reported. -/
theorem gateArrive_late {tag : Nat} (hon : d.gateOn (portHalf g.port) = true) (hup : d.portUp g.port = true)
    (hv : d.gb (pcsPg g.port) Reg.PCS.PSTAT_DLY_VALID = true) (hbl : d.gb (lgtG g.port) Reg.LGT.GSTAT_BLIND = false)
    (hs : g.src = .hostAt tag) (hgen : g.gen = d.stepgen.of (portHalf g.port))
    (hsoon : ns32 g.t ≤ d.tb0 (portHalf g.port) + ns32 1000000)
    (hd : d.deadline g.port g.t < (d.tb0 (portHalf g.port) : Int)) : d.gateArrive g =
      (((d.inc (lgtG g.port) Reg.LGT.LATE_DROP).raise (lgtPg (portHalf g.port)) (lgtEvt g.port 1)).perf (lgtPg (portHalf g.port)) 0x02
        { address := some (g.port / 2) }).report g.port { tag := tag, status := 1 } := by
  unfold Dev.gateArrive Dev.lateHandled Dev.lateDrop Dev.reportFate
  dsimp only
  rw [if_neg (by simp [hon]), if_neg (by simp [hup, hv]), if_neg (by simp [hbl]), hs]
  dsimp only
  rw [if_neg (not_not.2 hgen), if_neg (Nat.not_lt.2 hsoon), if_pos hd]
  rfl

end

/-! ### What is reported and held -/

section
variable (d : Dev) (p : Nat)

theorem gate_raiseIf (c : Bool) (pg k q : Nat) : (d.raiseIf c pg k).gate q = d.gate q := by
  cases c
  · rfl
  · rfl

theorem report_gate (r : Report) : (d.report p r).gate p = { d.gate p with reports := (d.gate p).reports ++ [r] } := by
  unfold Dev.report
  rw [gate_raiseIf, gate_setGate_same]

theorem report_w (r : Report) {a : Nat} (h0 : a ≠ lgtG p) (h1 : a ≠ lgtG p + 0x34) : (d.report p r).w a = d.w a :=
  (Dev.w_raiseIf _ _ _ _ _).trans (setGate_w _ _ _ h0 h1)

theorem evt_raiseIf_ne (c : Bool) {pg k pg' k' : Nat} (hk : pg' + k' ≠ pg + k) : (d.raiseIf c pg k).evt pg' k' = d.evt pg' k' := by
  cases c
  · rfl
  · exact d.evt_raise_ne hk

theorem report_evt (r : Report) {pg k : Nat} (hk : pg + k ≠ lgtPg (portHalf p) + lgtEvt p 0) : (d.report p r).evt pg k = d.evt pg k := by
  unfold Dev.report
  rw [evt_raiseIf_ne _ _ hk, setGate_evt]

theorem keepHeld_gate (g : GFrame) (t : Nat) : (d.keepHeld g t).gate g.port =
    { d.gate g.port with held := (d.gate g.port).held ++ [{ g with t := t, at_ := d.stepgen.of (portHalf g.port) }] } :=
  gate_setGate_same d g.port _

theorem Dev.touchesBy.setGate {R : Dev → Dev} (hR : Restores R) (hh : ∀ (u : Dev) (v : Tab GateSt), R { u with gates := v } = R u) {u e : Dev}
    {ws es : List Nat} (ht : u.touchesBy R e ws es) (h0 : lgtG p + Reg.LGT.GSTAT_HELD.off ∈ ws) (h1 : lgtG p + Reg.LGT.RPTSTAT_DEPTH.off ∈ ws)
    (v : GateSt) : u.touchesBy R (e.setGate p v) ws es := by
  rw [setGate_eq]
  exact Dev.touchesBy.p hR (Dev.touchesBy.p hR (ht.hidden (hh _ _)) h0 _) h1 _

theorem lgtEvt_implemented : ∀ p < 8, ∀ k < 4, evtImplemented (lgtPg (portHalf p)) (lgtEvt p k) = true := by decide

theorem lgtEvt_ne {p q j k : Nat} (hne : j % 4 ≠ k % 4) : lgtPg (portHalf p) + lgtEvt p j ≠ lgtPg (portHalf q) + lgtEvt q k := by
  have hb (h : Half) : lgtPg h % 4 = 0 := by cases h <;> rfl
  have h1 := hb (portHalf p)
  have h2 := hb (portHalf q)
  unfold lgtEvt
  omega

end

end Sys2Proof.Machine
end

section
/-! PROOF. O51: launch gates hold, release, drop and report (R316 to R328). -/

namespace Sys2Proof.Machine

/-! ### A release -/

section
variable (d : Dev) (p n : Nat) (g : GFrame)

/-- What counts a frame that leaves a gate. -/
def Dev.launched (d : Dev) (p n : Nat) : Dev :=
  let d2 := (d.inc (lgtG p) Reg.LGT.LAUNCHED).perf (lgtPg (portHalf p)) 0x01 { address := some (p / 2) }
  let d3 := ((d2.macInc p 12).macInc p 13 n).perf (macPg p) 0x02
  if d3.paused p 8 || (List.range 8).any (d3.paused p) then d3.macInc p 19 else d3

/-- A frame that has left its gate for the wire. -/
def Dev.leftGate (d : Dev) (p : Nat) (g : GFrame) : Dev :=
  let e := (d.setGate p { d.gate p with held := (d.gate p).held.filter fun x => x.id != g.id }).launched p
    ((d.gWire (portHalf p) g g.t).length + 4)
  e.setPort p { e.port p with
    txFrom := (d.window g g.t).1, txTo := (d.window g g.t).2
    last := some { at_ := ns32 g.t, gated := true, bad := false, bytes := d.gWire (portHalf p) g g.t } }

/-- What a frame that has left reports or counts. -/
def Dev.launchTold (d : Dev) (p : Nat) (g : GFrame) : Dev :=
  match g.src with
  | .hostAt t => d.report p { tag := t, status := 0, sec := g.t / 10 ^ 9, nsec := g.t % 10 ^ 9 }
  | .hostReport t => d.report p { tag := t, status := 0, sec := g.t / 10 ^ 9, nsec := g.t % 10 ^ 9 }
  | .reply _ =>
    if g.cls < 5 then (d.trsCount (portHalf p) 3).perf (trsPg (portHalf p)) 0x01 { cls := some g.cls }
    else if g.cls = 5 then d.trsCount (portHalf p) 10 else if g.cls = 6 then d.trsCount (portHalf p) 11 else d
  | .tc => d

theorem gateReleased_leaves {d : Dev} {p : Nat} {g : GFrame} (he : earliest (d.gate p).held = some g)
    (ht : ns32 g.t ≤ d.tb0 (portHalf p)) (hu : d.portUp p = true) : gateReleased p d = (d.leftGate p g).launchTold p g := by
  unfold gateReleased Dev.leftGate Dev.launchTold Dev.launched
  simp only [he]
  exact if_neg (by simp [hu, Nat.not_lt.2 ht])

theorem gateReleased_stays {d : Dev} {p : Nat}
    (h : ∀ g, earliest (d.gate p).held = some g → d.tb0 (portHalf p) < ns32 g.t ∨ d.portUp p = false) : gateReleased p d = d := by
  unfold gateReleased
  cases he : earliest (d.gate p).held with
  | none => rfl
  | some g => exact if_pos (by rcases h g he with h | h <;> simp [h])

theorem launched_keeps {α : Type} {f : Dev → α} (hp : ∀ (e : Dev) pg c a, f (e.perf pg c a) = f e) (hm : ∀ (e : Dev) c k, f (e.macInc p c k) = f e) : f (d.launched p n) = f (d.inc (lgtG p) Reg.LGT.LAUNCHED) := by
  unfold Dev.launched
  dsimp only
  refine (keeps_ite (g := f) (hm _ _ _) rfl).trans ?_
  rw [hp, hm, hm, hp]

theorem leftGate_keeps {α : Type} {f : Dev → α} (hg : ∀ (e : Dev) v, f (e.setGate p v) = f e) (hw : ∀ e : Dev, f (e.inc (lgtG p) Reg.LGT.LAUNCHED) = f e)
    (hp : ∀ (e : Dev) pg c a, f (e.perf pg c a) = f e) (hm : ∀ (e : Dev) c k, f (e.macInc p c k) = f e)
    (hq : ∀ (e : Dev) v, f (e.setPort p v) = f e) : f (d.leftGate p g) = f d := by
  unfold Dev.leftGate
  exact (hq _ _).trans (((launched_keeps _ p _ hp hm).trans (hw _)).trans (hg _ _))

theorem inc_gate (b : Nat) (f : Fld) (q : Nat) : (d.inc b f).gate q = d.gate q := rfl

theorem launched_gate : (d.launched p n).gate p = d.gate p :=
  (launched_keeps (f := fun e => e.gate p) d p n (fun _ _ _ _ => rfl) fun _ _ _ => rfl).trans (inc_gate d _ _ p)

theorem setPort_gate (v : PortSt) (q : Nat) : (d.setPort p v).gate q = d.gate q := rfl

theorem leftGate_gate : (d.leftGate p g).gate p = { d.gate p with held := (d.gate p).held.filter fun x => x.id != g.id } := by
  unfold Dev.leftGate
  rw [setPort_gate, launched_gate, gate_setGate_same]

theorem port_setPort (v : PortSt) : (d.setPort p v).port p = v :=
  Tab.get_set_same (fun _ => ({} : PortSt)) d.ports p v

theorem leftGate_last : ((d.leftGate p g).port p).last =
    some { at_ := ns32 g.t, gated := true, bad := false, bytes := d.gWire (portHalf p) g g.t } := by
  unfold Dev.leftGate
  rw [port_setPort]

theorem launched_count : (d.launched p n).g (lgtG p) Reg.LGT.LAUNCHED = (d.g (lgtG p) Reg.LGT.LAUNCHED + 1) % 2 ^ 32 := by
  refine (launched_keeps (f := fun e => e.g (lgtG p) Reg.LGT.LAUNCHED) d p n (fun _ _ _ _ => rfl) fun _ _ _ => rfl).trans ?_
  exact Dev.g_inc_same _ _ _ (by decide)

theorem lgtG_word (p q o : Nat) (ho : o < 0x40) (hn : o ≠ 0) (hm : o ≠ 0x34) : lgtG p + o ≠ lgtG q ∧ lgtG p + o ≠ lgtG q + 0x34 := by
  have hb (h : Half) : lgtPg h % 0x40 = 0 := by cases h <;> rfl
  have h1 := hb (portHalf p)
  have h2 := hb (portHalf q)
  unfold lgtG
  omega

theorem leftGate_count : (d.leftGate p g).g (lgtG p) Reg.LGT.LAUNCHED = (d.g (lgtG p) Reg.LGT.LAUNCHED + 1) % 2 ^ 32 := by
  unfold Dev.leftGate
  obtain ⟨h0, h1⟩ := lgtG_word p p 4 (by decide) (by decide) (by decide)
  refine (launched_count _ p _).trans ?_
  rw [Dev.g_of_w (f := Reg.LGT.LAUNCHED) (o := 4) (setGate_w d p _ h0 h1)]

/-- A frame that has left is told in the gate's reports, if a host asked for it. -/
theorem launchTold_gate : (d.launchTold p g).gate p = { d.gate p with reports := (d.gate p).reports ++ (match g.src with
    | .hostAt tag => [{ tag := tag, status := 0, sec := g.t / 10 ^ 9, nsec := g.t % 10 ^ 9 }]
    | .hostReport tag => [{ tag := tag, status := 0, sec := g.t / 10 ^ 9, nsec := g.t % 10 ^ 9 }]
    | _ => []) } := by
  unfold Dev.launchTold
  cases hs : g.src with
  | hostAt tag => exact report_gate d p _
  | hostReport tag => exact report_gate d p _
  | reply auth =>
    dsimp only
    rw [List.append_nil]
    exact keeps_ite (g := fun e => e.gate p) rfl (keeps_ite (g := fun e => e.gate p) rfl (keeps_ite (g := fun e => e.gate p) rfl rfl))
  | tc =>
    dsimp only
    rw [List.append_nil]

theorem launchTold_keeps {α : Type} {f : Dev → α} (hr : ∀ (e : Dev) r, f (e.report p r) = f e)
    (hc : ∀ (e : Dev) c, c < 12 → f (e.trsCount (portHalf p) c) = f e) (hp : ∀ (e : Dev) pg c a, f (e.perf pg c a) = f e) :
    f (d.launchTold p g) = f d := by
  unfold Dev.launchTold
  split
  · exact hr _ _
  · exact hr _ _
  · exact keeps_ite (g := f) ((hp _ _ _ _).trans (hc _ _ (by decide))) (keeps_ite (g := f) (hc _ _ (by decide)) (keeps_ite (g := f) (hc _ _ (by decide)) rfl))
  · rfl

theorem raiseIf_planes (c : Bool) (pg k : Nat) : (d.raiseIf c pg k).planes = d.planes := by
  cases c
  · rfl
  · rfl

theorem report_planes (r : Report) : (d.report p r).planes = d.planes := by
  unfold Dev.report
  rw [raiseIf_planes]
  rfl

theorem gateReleased_planes : ((d.leftGate p g).launchTold p g).planes = d.planes :=
  (launchTold_keeps (f := Dev.planes) _ p g (fun e r => report_planes e p r) (fun _ _ _ => rfl) fun _ _ _ _ => rfl).trans
    (leftGate_keeps (f := Dev.planes) d p g (fun _ _ => rfl) (fun e => e.p_planes _ _ _) (fun _ _ _ _ => rfl) (fun _ _ _ => rfl) fun _ _ => rfl)

theorem gateReleased_tbs : ((d.leftGate p g).launchTold p g).tbs = d.tbs :=
  (launchTold_keeps (f := Dev.tbs) _ p g (fun e r => gateBlind_tbs.report e p r) (fun _ _ _ => rfl) fun _ _ _ _ => rfl).trans
    (leftGate_keeps (f := Dev.tbs) d p g (fun _ _ => rfl) (fun e => e.p_tbs _ _ _) (fun _ _ _ _ => rfl) (fun _ _ _ => rfl) fun _ _ => rfl)

theorem report_port (r : Report) (q : Nat) : (d.report p r).port q = d.port q :=
  congrArg (fun t => tget ({} : PortSt) t q) (gateBlind_ports.report d p r)

theorem launchTold_port : (d.launchTold p g).port p = d.port p :=
  launchTold_keeps (f := fun e => e.port p) d p g (fun e r => report_port e p r p) (fun _ _ _ => rfl) fun _ _ _ _ => rfl

theorem launchTold_count (hp : p < 8) : (d.launchTold p g).g (lgtG p) Reg.LGT.LAUNCHED = d.g (lgtG p) Reg.LGT.LAUNCHED := by
  obtain ⟨h0, h1⟩ := lgtG_word p p 4 (by decide) (by decide) (by decide)
  refine Dev.g_of_w (o := 4) (launchTold_keeps (f := fun e => e.w (lgtG p + 4)) d p g (fun e r => report_w e p r h0 h1) (fun e c hc => ?_)
    fun _ _ _ _ => rfl)
  have ht := inBlock_pageAddr .trs (portHalf p) (i := 0) (o := 0x360 + 4 * c) (by omega)
  rw [← Nat.add_assoc] at ht
  exact (e.w_setw _ _ _).trans (if_neg (ne_of_inBlock (inBlock_lgtG hp (by decide)) ht))

end

/-! ### A blind gate -/

theorem Dev.gb_of_g {d e : Dev} {b : Nat} {f : Fld} (h : e.g b f = d.g b f) : e.gb b f = d.gb b f := by
  unfold Dev.gb
  rw [h]

section
variable (d : Dev) (p : Nat)

/-- A gate that shows itself blind. -/
def Dev.blindShown (d : Dev) (p : Nat) : Dev :=
  (d.pb (lgtG p) Reg.LGT.GSTAT_BLIND true).raise (lgtPg (portHalf p)) (lgtEvt p 2)

theorem gateBlinded_now {d : Dev} {p : Nat} (h0 : d.gb (lgtG p) Reg.LGT.GSTAT_BLIND = false) (h1 : d.gateBlind p = true) :
    gateBlinded p d = (d.blindShown p).gateFlush p 3 := if_neg (by simp [h0, h1])

theorem gateBlinded_stays {d : Dev} {p : Nat} (h : d.gb (lgtG p) Reg.LGT.GSTAT_BLIND = true ∨ d.gateBlind p = false) :
    gateBlinded p d = d := if_pos (by rcases h with h | h <;> simp [h])

theorem gateFlush_empties (status : Nat) : ((d.gateFlush p status).gate p).held = [] := by
  unfold Dev.gateFlush
  dsimp only
  have h0 : ((d.setGate p { d.gate p with held := (d.gate p).held.filter fun _ => !true }).gate p).held = [] := by
    rw [gate_setGate_same]
    exact List.filter_eq_nil_iff.2 fun _ _ => by decide
  generalize d.setGate p { d.gate p with held := (d.gate p).held.filter fun _ => !true } = e at h0
  generalize (d.gate p).held.filter (fun _ => true) = l
  induction l generalizing e with
  | nil => exact h0
  | cons x l ih => exact ih _ ((heldLess_none p).gateDiscard h0 status x)

/-- What a gate that discards what it holds shows of its own status. -/
theorem gateFlush_blind (status q : Nat) : (d.gateFlush p status).gb (lgtG q) Reg.LGT.GSTAT_BLIND = d.gb (lgtG q) Reg.LGT.GSTAT_BLIND := by
  have hset (e : Dev) (r : Nat) (v : GateSt) : (e.setGate r v).gb (lgtG q) Reg.LGT.GSTAT_BLIND = e.gb (lgtG q) Reg.LGT.GSTAT_BLIND :=
    Dev.gb_of_g (setGate_beside e r q v (f := Reg.LGT.GSTAT_BLIND) rfl (by decide))
  have hrep (e : Dev) (r : Nat) (x : Report) : (e.report r x).gb (lgtG q) Reg.LGT.GSTAT_BLIND = e.gb (lgtG q) Reg.LGT.GSTAT_BLIND := by
    unfold Dev.report
    rw [Dev.gb_raiseIf, hset]
  have hfate (e : Dev) (x : GFrame) : (e.reportFate x status).gb (lgtG q) Reg.LGT.GSTAT_BLIND = e.gb (lgtG q) Reg.LGT.GSTAT_BLIND := by
    unfold Dev.reportFate
    split
    · exact hrep _ _ _
    · exact hrep _ _ _
    · rfl
  have hdisc (e : Dev) (x : GFrame) : (e.gateDiscard status x).gb (lgtG q) Reg.LGT.GSTAT_BLIND = e.gb (lgtG q) Reg.LGT.GSTAT_BLIND := by
    obtain ⟨h0, -⟩ := lgtG_word x.port q 0x14 (by decide) (by decide) (by decide)
    unfold Dev.gateDiscard Dev.dropFollow Dev.mapFollow
    refine (Dev.each_keeps (fun u : Dev => u.gb (lgtG q) Reg.LGT.GSTAT_BLIND) 4 _ _ fun _ _ u => hset u _ _).trans ?_
    refine (hfate _ _).trans ((Dev.gb_raise _ _ _ _ _).trans ?_)
    exact Dev.gb_of_w (o := 0) (Dev.w_p_ne _ _ Reg.LGT.DISCARD _ _ h0.symm)
  unfold Dev.gateFlush
  exact (foldl_keeps (g := fun u : Dev => u.gb (lgtG q) Reg.LGT.GSTAT_BLIND) (fun e x => hdisc e x) _ _).trans (hset _ _ _)

theorem gateFlush_evt (status k : Nat) (hk : k % 4 = 1 ∨ k % 4 = 2) :
    (d.gateFlush p status).evt (lgtPg (portHalf p)) (lgtEvt p k) = d.evt (lgtPg (portHalf p)) (lgtEvt p k) := by
  have hdisc (e : Dev) (x : GFrame) :
      (e.gateDiscard status x).evt (lgtPg (portHalf p)) (lgtEvt p k) = e.evt (lgtPg (portHalf p)) (lgtEvt p k) := by
    unfold Dev.gateDiscard Dev.dropFollow Dev.mapFollow
    refine (Dev.each_keeps (fun u : Dev => u.evt (lgtPg (portHalf p)) (lgtEvt p k)) 4 _ _ fun _ _ u => setGate_evt u _ _ _ _).trans ?_
    have hfate (u : Dev) : (u.reportFate x status).evt (lgtPg (portHalf p)) (lgtEvt p k) = u.evt (lgtPg (portHalf p)) (lgtEvt p k) := by
      unfold Dev.reportFate
      split
      · exact report_evt _ _ _ (lgtEvt_ne (by omega))
      · exact report_evt _ _ _ (lgtEvt_ne (by omega))
      · rfl
    exact (hfate _).trans ((Dev.evt_raise_ne _ (lgtEvt_ne (by omega))).trans (Dev.evt_inc _ _ _ _ _))
  unfold Dev.gateFlush
  exact (foldl_keeps (g := fun u : Dev => u.evt (lgtPg (portHalf p)) (lgtEvt p k)) (fun e x => hdisc e x) _ _).trans (setGate_evt _ _ _ _ _)

theorem blindShown_blind : (d.blindShown p).gb (lgtG p) Reg.LGT.GSTAT_BLIND = true := by
  unfold Dev.blindShown
  rw [Dev.gb_raise, Dev.gb_pb_same _ _ _ _ (by decide) (by decide)]

theorem blindShown_evt (hp : p < 8) : (d.blindShown p).evt (lgtPg (portHalf p)) (lgtEvt p 2) = (d.evt (lgtPg (portHalf p)) (lgtEvt p 2)).occur := by
  unfold Dev.blindShown
  rw [Dev.evt_raise_own _ (lgtEvt_implemented p hp 2 (by decide)), Dev.evt_pb]

theorem blindShown_ports : (d.blindShown p).ports = d.ports := rfl

theorem blindShown_tbs : (d.blindShown p).tbs = d.tbs := rfl

end

/-! ### A report taken away -/

section
variable (d : Dev) (p : Nat)

theorem reportPopped_none (h : (d.gate p).reports = []) : reportPopped p d = d := by
  unfold reportPopped
  rw [h]

/-- A gate's reports without the head, and one credit more. -/
def Dev.popped (d : Dev) (p : Nat) (rs : List Report) : Dev :=
  (d.setGate p { d.gate p with reports := rs }).p (lgtG p) Reg.LGT.RPTSTAT_CREDITS (min 512 (d.g (lgtG p) Reg.LGT.RPTSTAT_CREDITS + 1))

theorem reportPopped_cons {r : Report} {rs : List Report} (h : (d.gate p).reports = r :: rs) : reportPopped p d = d.popped p rs := by
  unfold reportPopped
  rw [h]
  rfl

theorem p_gate (b : Nat) (f : Fld) (v q : Nat) : (d.p b f v).gate q = d.gate q := rfl

theorem popped_gate (rs : List Report) : ((d.popped p rs).gate p).reports = rs := by
  unfold Dev.popped
  rw [p_gate, gate_setGate_same]

theorem popped_credits (rs : List Report) : (d.popped p rs).g (lgtG p) Reg.LGT.RPTSTAT_CREDITS = min 512 (d.g (lgtG p) Reg.LGT.RPTSTAT_CREDITS + 1) := by
  unfold Dev.popped
  rw [Dev.g_p_same _ _ _ _ (by decide)]
  exact Nat.mod_eq_of_lt (Nat.lt_of_le_of_lt (Nat.min_le_left _ _) (by decide))

theorem popped_touches {u e : Dev} {ws es : List Nat} (ht : u.touchesBy u.backGates e ws es) (h0 : lgtG p + Reg.LGT.GSTAT_HELD.off ∈ ws)
    (h1 : lgtG p + Reg.LGT.RPTSTAT_DEPTH.off ∈ ws) (h2 : lgtG p + Reg.LGT.RPTSTAT_CREDITS.off ∈ ws) (rs : List Report) :
    u.touchesBy u.backGates (e.popped p rs) ws es := by
  unfold Dev.popped
  exact Dev.touchesBy.p (restores_gates u) (Dev.touchesBy.setGate p (restores_gates u) (fun _ _ => rfl) ht h0 h1 _) h2 _

end

end Sys2Proof.Machine
end

section
/-! PROOF. O51: launch gates hold, release, drop and report (R316 to R328). -/

namespace Sys2Proof.Machine

/-! ### The frame in line -/

section
variable {d : Dev} {h : Half} {i : Nat} {g : GFrame}

/-- A device whose planes and redundancy engines alone differ places a frame where it stands. -/
theorem aside_place (x : Pair Plane) (y : Pair RedSt) (hon : d.gateOn (portHalf g.port) = true) (hup : d.portUp g.port = true)
    (hv : d.gb (pcsPg g.port) Reg.PCS.PSTAT_DLY_VALID = true) (hbl : d.gb (lgtG g.port) Reg.LGT.GSTAT_BLIND = false)
    (hr : g.isReport = false) (hgen : g.gen = d.stepgen.of (portHalf g.port))
    (hsoon : ∀ tag, g.src = .hostAt tag → ns32 g.t ≤ d.tb0 (portHalf g.port) + ns32 1000000)
    (hd : (d.tb0 (portHalf g.port) : Int) ≤ d.deadline g.port g.t)
    (hb : d.tb0 (portHalf g.port) < (d.port g.port).txTo →
      overlaps (d.window g g.t) ((d.port g.port).txFrom, (d.port g.port).txTo) = false)
    (hh : ∀ x ∈ (d.gate g.port).held, overlaps (d.window g g.t) (d.window x x.t) = false) :
    (d.aside x y).gateArrive g =
      ((d.aside x y).setGate g.port { d.gate g.port with held := (d.gate g.port).held }).keepHeld g g.t :=
  (gateArrive_place (d := d.aside x y) hon hup hv hbl hr hgen hsoon hd).trans (place_free (d := d.aside x y) hb hh)

/-- A frame taken in: those held, and those that the gate reports. -/
theorem heldAside_gate (x : Pair Plane) (y : Pair RedSt) :
    (((d.aside x y).setGate g.port { d.gate g.port with held := (d.gate g.port).held }).keepHeld g g.t).gate g.port =
      { d.gate g.port with held := (d.gate g.port).held ++ [{ g with at_ := d.stepgen.of (portHalf g.port) }] } := by
  rw [keepHeld_gate, gate_setGate_same]
  rfl

theorem heldAside_touches (x : Pair Plane) (y : Pair RedSt) : d.touchesBy d.backLine
    (((d.aside x y).setGate g.port { d.gate g.port with held := (d.gate g.port).held }).keepHeld g g.t)
    [lgtG g.port + Reg.LGT.GSTAT_HELD.off, lgtG g.port + Reg.LGT.RPTSTAT_DEPTH.off] [] := by
  have h0 : d.touchesBy d.backLine (d.aside x y) [lgtG g.port + Reg.LGT.GSTAT_HELD.off, lgtG g.port + Reg.LGT.RPTSTAT_DEPTH.off] [] :=
    (Dev.touchesBy.of_touches (R := d.backLine) (.refl d _ _)).hidden rfl
  have hset {e : Dev} (ht : d.touchesBy d.backLine e [lgtG g.port + Reg.LGT.GSTAT_HELD.off, lgtG g.port + Reg.LGT.RPTSTAT_DEPTH.off] [])
      (v : GateSt) := Dev.touchesBy.setGate g.port (restores_line d) (fun _ _ => rfl) ht (by simp) (by simp) v
  exact hset (hset h0 _) _

end

theorem gateAccept_mutes (h : Half) (i : Nat) (g : GFrame) (s : State) (hg : (s.dev.plane h).gateIn[i]? = some g) (hm : g.mute = true) :
    ∃ t, exec (.gateAccept h i) s = .next t ∧ (t.dev.plane h).gateIn = (s.dev.plane h).gateIn.eraseIdx i ∧
      s.onlyTouches { t with dev := { t.dev with planes := s.dev.planes, red := s.dev.red } } [] [] := by
  obtain ⟨y, hy⟩ := lined_crossed s.dev h i g
  refine ⟨_, next_onDev (f := gateAccepted h i) ((gateAccepted_muted hg hm).trans hy), lined_in s.dev h i, ?_⟩
  exact Dev.touchesBy.onlyTouches (R := s.dev.backRed) ((Dev.touchesBy.of_touches (R := s.dev.backRed) (.refl s.dev [] [])).hidden rfl)

section
variable {i : Nat} {g : GFrame} {s : State}

theorem gateAccept_holds (hg : (s.dev.plane (portHalf g.port)).gateIn[i]? = some g) (hmute : s.dev.halfMute (portHalf g.port) = false)
    (hm : g.mute = false) (hf : s.dev.gateFull g.port (s.dev.gWire (portHalf g.port) g g.t).length = false)
    (hon : s.dev.gateOn (portHalf g.port) = true) (hup : s.dev.portUp g.port = true)
    (hv : s.dev.gb (pcsPg g.port) Reg.PCS.PSTAT_DLY_VALID = true) (hbl : s.dev.gb (lgtG g.port) Reg.LGT.GSTAT_BLIND = false)
    (hr : g.isReport = false) (hgen : g.gen = s.dev.stepgen.of (portHalf g.port))
    (hsoon : ∀ tag, g.src = .hostAt tag → ns32 g.t ≤ s.dev.tb0 (portHalf g.port) + ns32 1000000)
    (hd : (s.dev.tb0 (portHalf g.port) : Int) ≤ s.dev.deadline g.port g.t)
    (hb : s.dev.tb0 (portHalf g.port) < (s.dev.port g.port).txTo →
      overlaps (s.dev.window g g.t) ((s.dev.port g.port).txFrom, (s.dev.port g.port).txTo) = false)
    (hh : ∀ x ∈ (s.dev.gate g.port).held, overlaps (s.dev.window g g.t) (s.dev.window x x.t) = false) :
    ∃ t, exec (.gateAccept (portHalf g.port) i) s = .next t ∧
      (t.dev.plane (portHalf g.port)).gateIn = (s.dev.plane (portHalf g.port)).gateIn.eraseIdx i ∧
      (t.dev.gate g.port).held = (s.dev.gate g.port).held ++ [{ g with at_ := s.dev.stepgen.of (portHalf g.port) }] ∧
      (t.dev.gate g.port).reports = (s.dev.gate g.port).reports ∧
      s.onlyTouches { t with dev := { t.dev with planes := s.dev.planes, gates := s.dev.gates, red := s.dev.red } }
        [lgtG g.port + Reg.LGT.GSTAT_HELD.off, lgtG g.port + Reg.LGT.RPTSTAT_DEPTH.off] [] := by
  obtain ⟨y, hy⟩ := lined_crossed s.dev (portHalf g.port) i g
  have he := gateAccepted_passes hg hm hf
  rw [if_neg (by simp [hmute]), hy, aside_place _ y hon hup hv hbl hr hgen hsoon hd hb hh] at he
  refine ⟨_, next_onDev (f := gateAccepted (portHalf g.port) i) he, lined_in s.dev (portHalf g.port) i, ?_, ?_,
    (heldAside_touches _ y).onlyTouches⟩
  · rw [State.withDev_dev, heldAside_gate]
  · rw [State.withDev_dev, heldAside_gate]

theorem perf_gate (d : Dev) (pg c : Nat) (x : PerfAttr) (q : Nat) : (d.perf pg c x).gate q = d.gate q := rfl

theorem Dev.perf_tbs (d : Dev) (pg c : Nat) (x : PerfAttr) : (d.perf pg c x).tbs = d.tbs := rfl

theorem Dev.g_perf (d : Dev) (pg c : Nat) (x : PerfAttr) (b : Nat) (f : Fld) : (d.perf pg c x).g b f = d.g b f := rfl

theorem raise_gate (d : Dev) (pg k q : Nat) : (d.raise pg k).gate q = d.gate q := rfl

/-- A host frame that comes too late, at a device whose planes and redundancy engines alone differ. -/
def Dev.lateTold (d : Dev) (g : GFrame) (tag : Nat) : Dev :=
  (((d.inc (lgtG g.port) Reg.LGT.LATE_DROP).raise (lgtPg (portHalf g.port)) (lgtEvt g.port 1)).perf (lgtPg (portHalf g.port)) 0x02
    { address := some (g.port / 2) }).report g.port { tag := tag, status := 1 }

section
variable (d : Dev) (tag : Nat)

theorem lateTold_gate : (d.lateTold g tag).gate g.port = { d.gate g.port with reports := (d.gate g.port).reports ++ [{ tag := tag, status := 1 }] } := by
  unfold Dev.lateTold
  rw [report_gate, perf_gate, raise_gate, inc_gate]

theorem lateTold_drops : (d.lateTold g tag).g (lgtG g.port) Reg.LGT.LATE_DROP = (d.g (lgtG g.port) Reg.LGT.LATE_DROP + 1) % 2 ^ 32 := by
  obtain ⟨h0, h1⟩ := lgtG_word g.port g.port 8 (by decide) (by decide) (by decide)
  unfold Dev.lateTold
  refine (Dev.g_of_w (f := Reg.LGT.LATE_DROP) (o := 8) (report_w _ _ _ h0 h1)).trans ?_
  rw [Dev.g_perf, Dev.g_raise]
  exact Dev.g_inc_same _ _ _ (by decide)

theorem lateTold_evt (hp : g.port < 8) : (d.lateTold g tag).evt (lgtPg (portHalf g.port)) (lgtEvt g.port 1) =
    (d.evt (lgtPg (portHalf g.port)) (lgtEvt g.port 1)).occur := by
  unfold Dev.lateTold
  rw [report_evt _ _ _ (lgtEvt_ne (by decide)), Dev.evt_perf, Dev.evt_raise_own _ (lgtEvt_implemented _ hp 1 (by decide)), Dev.evt_inc]

theorem lateTold_tbs : (d.lateTold g tag).tbs = d.tbs := by
  unfold Dev.lateTold
  exact (gateBlind_tbs.report _ _ _).trans ((Dev.perf_tbs _ _ _ _).trans ((Dev.raise_tbs _ _ _).trans (Dev.inc_tbs _ _ _ _)))

end

theorem gateAccept_drops {tag : Nat} (hg : (s.dev.plane (portHalf g.port)).gateIn[i]? = some g) (hp : g.port < 8)
    (hmute : s.dev.halfMute (portHalf g.port) = false) (hm : g.mute = false)
    (hf : s.dev.gateFull g.port (s.dev.gWire (portHalf g.port) g g.t).length = false)
    (hon : s.dev.gateOn (portHalf g.port) = true) (hup : s.dev.portUp g.port = true)
    (hv : s.dev.gb (pcsPg g.port) Reg.PCS.PSTAT_DLY_VALID = true) (hbl : s.dev.gb (lgtG g.port) Reg.LGT.GSTAT_BLIND = false)
    (hs : g.src = .hostAt tag) (hgen : g.gen = s.dev.stepgen.of (portHalf g.port))
    (hsoon : ns32 g.t ≤ s.dev.tb0 (portHalf g.port) + ns32 1000000)
    (hd : s.dev.deadline g.port g.t < (s.dev.tb0 (portHalf g.port) : Int)) :
    ∃ t, exec (.gateAccept (portHalf g.port) i) s = .next t ∧ (t.dev.gate g.port).held = (s.dev.gate g.port).held ∧
      (t.dev.gate g.port).reports = (s.dev.gate g.port).reports ++ [{ tag := tag, status := 1 }] ∧
      t.dev.g (lgtG g.port) Reg.LGT.LATE_DROP = (s.dev.g (lgtG g.port) Reg.LGT.LATE_DROP + 1) % 2 ^ 32 ∧
      t.dev.evt (lgtPg (portHalf g.port)) (lgtEvt g.port 1) = (s.dev.evt (lgtPg (portHalf g.port)) (lgtEvt g.port 1)).occur ∧
      t.dev.tbs = s.dev.tbs ∧ s.keepsRest t := by
  obtain ⟨y, hy⟩ := lined_crossed s.dev (portHalf g.port) i g
  have he : gateAccepted (portHalf g.port) i s.dev = (s.dev.aside (s.dev.lined (portHalf g.port) i).planes y).lateTold g tag := by
    rw [gateAccepted_passes hg hm hf, if_neg (by simp [hmute]), hy]
    exact gateArrive_late (d := s.dev.aside (s.dev.lined (portHalf g.port) i).planes y) hon hup hv hbl hs hgen hsoon hd
  refine ⟨_, next_onDev (f := gateAccepted (portHalf g.port) i) he, ?_, ?_, lateTold_drops _ _, lateTold_evt _ _ hp,
    lateTold_tbs _ _, s.keepsRest_withDev _⟩
  · rw [State.withDev_dev, lateTold_gate]
    rfl
  · rw [State.withDev_dev, lateTold_gate]
    rfl

end

/-! ### What is due, and a report taken away -/

theorem gateRelease_leaves (p : Fin 8) (g : GFrame) (s : State) (he : earliest (s.dev.gate p.val).held = some g)
    (ht : ns32 g.t ≤ s.dev.tb0 (portHalf p.val)) (hu : s.dev.portUp p.val = true) :
    ∃ t, exec (.gateRelease p) s = .next t ∧
      (t.dev.gate p.val).held = (s.dev.gate p.val).held.filter (fun x => x.id != g.id) ∧
      (t.dev.port p.val).last = some { at_ := ns32 g.t, gated := true, bad := false
                                       bytes := s.dev.gWire (portHalf p.val) g g.t } ∧
      t.dev.g (lgtG p.val) Reg.LGT.LAUNCHED = (s.dev.g (lgtG p.val) Reg.LGT.LAUNCHED + 1) % 2 ^ 32 ∧
      (t.dev.gate p.val).reports = (s.dev.gate p.val).reports ++ (match g.src with
        | .hostAt tag => [{ tag := tag, status := 0, sec := g.t / 10 ^ 9, nsec := g.t % 10 ^ 9 }]
        | .hostReport tag => [{ tag := tag, status := 0, sec := g.t / 10 ^ 9, nsec := g.t % 10 ^ 9 }]
        | _ => []) ∧
      t.dev.planes = s.dev.planes ∧ t.dev.tbs = s.dev.tbs ∧ s.keepsRest t := by
  have hgate : (((s.dev.leftGate p.val g).launchTold p.val g).gate p.val) = _ := launchTold_gate _ _ _
  rw [leftGate_gate] at hgate
  refine ⟨_, next_onDev (f := gateReleased p.val) (gateReleased_leaves he ht hu), ?_, ?_, ?_, ?_, gateReleased_planes _ _ _,
    gateReleased_tbs _ _ _, s.keepsRest_withDev _⟩
  · rw [State.withDev_dev, hgate]
  · rw [State.withDev_dev, launchTold_port, leftGate_last]
  · exact (launchTold_count _ _ _ p.isLt).trans (leftGate_count _ _ _)
  · exact congrArg GateSt.reports hgate

theorem lgtBlind_empties (p : Fin 8) (s : State) (h0 : s.dev.gb (lgtG p.val) Reg.LGT.GSTAT_BLIND = false) (h1 : s.dev.gateBlind p.val = true) :
    ∃ t, exec (.lgtBlind p) s = .next t ∧ t.dev.gb (lgtG p.val) Reg.LGT.GSTAT_BLIND = true ∧
      t.dev.evt (lgtPg (portHalf p.val)) (lgtEvt p.val 2) =
        (s.dev.evt (lgtPg (portHalf p.val)) (lgtEvt p.val 2)).occur ∧
      (t.dev.gate p.val).held = [] ∧ t.dev.ports = s.dev.ports ∧ t.dev.tbs = s.dev.tbs ∧ s.keepsRest t :=
  ⟨_, next_onDev (f := gateBlinded p.val) (gateBlinded_now h0 h1), (gateFlush_blind _ _ _ _).trans (blindShown_blind _ _),
    (gateFlush_evt _ _ _ _ (.inr rfl)).trans (blindShown_evt _ _ p.isLt), gateFlush_empties _ _ _,
    (gateBlind_ports.gateFlush _ _ _ _).trans (blindShown_ports _ _), (gateBlind_tbs.gateFlush _ _ _ _).trans (blindShown_tbs _ _),
    s.keepsRest_withDev _⟩

section
variable {u d : Dev} {p : Nat}

theorem reportPopped_reports (hg : d.gate p = u.gate p) : ((reportPopped p d).gate p).reports = (u.gate p).reports.drop 1 := by
  rw [← hg]
  cases hr : (d.gate p).reports with
  | nil => rw [reportPopped_none d p hr, hr, List.drop_nil]
  | cons r rs => rw [reportPopped_cons d p hr, popped_gate, List.drop_succ_cons, List.drop_zero]

theorem reportPopped_credits (hg : d.gate p = u.gate p) (hc : d.g (lgtG p) Reg.LGT.RPTSTAT_CREDITS = u.g (lgtG p) Reg.LGT.RPTSTAT_CREDITS) :
    (reportPopped p d).g (lgtG p) Reg.LGT.RPTSTAT_CREDITS = (if (u.gate p).reports = [] then u.g (lgtG p) Reg.LGT.RPTSTAT_CREDITS
      else min 512 (u.g (lgtG p) Reg.LGT.RPTSTAT_CREDITS + 1)) := by
  rw [← hg, ← hc]
  cases hr : (d.gate p).reports with
  | nil => rw [reportPopped_none d p hr, if_pos rfl]
  | cons r rs => rw [reportPopped_cons d p hr, popped_credits, if_neg (List.cons_ne_nil _ _)]

theorem reportPopped_touches {ws es : List Nat} (ht : u.touchesBy u.backGates d ws es) (h0 : lgtG p + Reg.LGT.GSTAT_HELD.off ∈ ws)
    (h1 : lgtG p + Reg.LGT.RPTSTAT_DEPTH.off ∈ ws) (h2 : lgtG p + Reg.LGT.RPTSTAT_CREDITS.off ∈ ws) :
    u.touchesBy u.backGates (reportPopped p d) ws es := by
  cases hr : (d.gate p).reports with
  | nil => rwa [reportPopped_none d p hr]
  | cons r rs =>
    rw [reportPopped_cons d p hr]
    exact popped_touches p ht h0 h1 h2 rs

end

theorem regAccess_gate (d : Dev) (m : Master) (a q : Nat) : (d.regAccess m a).gate q = d.gate q := rfl

theorem reportPop_frees (m : Master) (p : Fin 8) (s : State) (hw : s.writable m (lgtG p.val + 0x30)) :
    ∃ t, exec (.reportPop m p) s = .next t ∧ (t.dev.gate p.val).reports = (s.dev.gate p.val).reports.drop 1 ∧
      t.dev.g (lgtG p.val) Reg.LGT.RPTSTAT_CREDITS = (if (s.dev.gate p.val).reports = [] then
        s.dev.g (lgtG p.val) Reg.LGT.RPTSTAT_CREDITS else min 512 (s.dev.g (lgtG p.val) Reg.LGT.RPTSTAT_CREDITS + 1)) ∧
      s.onlyTouches { t with dev := { t.dev with gates := s.dev.gates } }
        [lgtG p.val + Reg.LGT.GSTAT_HELD.off, lgtG p.val + Reg.LGT.RPTSTAT_DEPTH.off,
          lgtG p.val + Reg.LGT.RPTSTAT_CREDITS.off] [] := by
  have hd := regAccess_gate s.dev m (lgtG p.val + 0x30) p.val
  refine ⟨_, exec_of_writeAt (f := reportPopped p.val) rfl hw, reportPopped_reports hd,
    reportPopped_credits hd (Dev.g_congr (Dev.regAccess_regs _ _ _) _ _), ?_⟩
  have ht : s.dev.touchesBy s.dev.backGates (reportPopped p.val (s.dev.regAccess m (lgtG p.val + 0x30)))
      [lgtG p.val + Reg.LGT.GSTAT_HELD.off, lgtG p.val + Reg.LGT.RPTSTAT_DEPTH.off, lgtG p.val + Reg.LGT.RPTSTAT_CREDITS.off] [] :=
    reportPopped_touches (.of_touches (Dev.touches_regAccess _ _ _ _ _)) (by simp) (by simp) (by simp)
  exact ht.onlyTouches

/-! ### The statement -/

/-- Settles O51: a frame that leaves a gate's line changes planes and redundancy engines alone, and the gate decides on what it
then finds. -/
theorem gatesHoldReleaseAndReport : Obligations.GatesHoldReleaseAndReport := by
  unfold Obligations.GatesHoldReleaseAndReport
  refine ⟨fun h i s hs => next_onDev (f := gateAccepted h i) (gateAccepted_stays hs), gateAccept_mutes,
    fun h i g s hg hm hf => next_onDev (f := gateAccepted h i) (gateAccepted_passes hg hm hf), ?_, ?_, gateRelease_leaves,
    fun p s => ⟨fun hs => next_onDev (f := gateReleased p.val) (gateReleased_stays hs),
      fun hs => next_onDev (f := gateBlinded p.val) (gateBlinded_stays hs)⟩, lgtBlind_empties, reportPop_frees⟩
  · intro h i g s hg hh _ hmute hm hf hon hup hv hbl hr hgen hsoon hd hb hhit
    subst hh
    exact gateAccept_holds hg hmute hm hf hon hup hv hbl hr hgen hsoon hd hb hhit
  · intro h i tag g s hg hh hp hmute hm hf hon hup hv hbl hsrc hgen hsoon hd
    subst hh
    exact gateAccept_drops hg hp hmute hm hf hon hup hv hbl hsrc hgen hsoon hd

end Sys2Proof.Machine
end

section
/-! SUPPORT. Queues, ports and their links: what a port's going down leaves (R272, R273, R300, R301). -/

namespace Sys2Proof.Machine

/-! ### Queues emptied -/

/-- An observation in which no queue, plane or port shows, nor a word of the switches. -/
structure QueueBlind {α : Type} (g : Dev → α) : Prop where
  word : ∀ d a v, 0x320000 ≤ a → g (Dev.setw d a v) = g d
  planes : ∀ d (x : Pair Plane), g { d with planes := x } = g d
  ports : ∀ d (x : Tab PortSt), g { d with ports := x } = g d

theorem swcW_low (h : Half) (j o : Nat) : 0x320000 ≤ swcW h j + o := by
  have : 0x320000 ≤ swcPg h := by cases h <;> decide
  unfold swcW
  omega

theorem swtPg_low (h : Half) : 0x330000 ≤ swtPg h := by cases h <;> decide

theorem swtQ_low (h : Half) (j c o : Nat) : 0x320000 ≤ swtQ h j c + o := by
  have := swtPg_low h
  unfold swtQ
  omega

section
variable {α : Type} {g : Dev → α} (hg : QueueBlind g) (d : Dev)
include hg

theorem QueueBlind.setPort (p : Nat) (v : PortSt) : g (d.setPort p v) = g d := hg.ports d _

theorem QueueBlind.setPlane (h : Half) (v : Plane) : g (d.setPlane h v) = g d := hg.planes d _

theorem QueueBlind.fcCheck (p c : Nat) : g (d.fcCheck p c) = g d := by
  unfold Dev.fcCheck
  exact keeps_ite (g := g) (hg.setPort _ _ _) (keeps_ite (g := g) (hg.setPort _ _ _) rfl)

theorem QueueBlind.fcIdle (p c : Nat) : g (d.fcIdle p c) = g d := by
  unfold Dev.fcIdle
  exact keeps_ite (g := g) (hg.setPort _ _ _) rfl

theorem QueueBlind.flowCheck (p : Nat) : g (d.flowCheck p) = g d := by
  unfold Dev.flowCheck
  refine keeps_ite (g := g) rfl ((Dev.each_keeps g 9 _ _ fun c _ e => ?_).trans (hg.word _ _ _ (swcW_low _ _ _)))
  exact keeps_ite (g := g) (hg.fcCheck e p c) (hg.fcIdle e p c)

theorem QueueBlind.freeFrame (h : Half) (f : SFrame) : g (d.freeFrame h f) = g d := by
  have hp : 0x320000 ≤ swcPg h + Reg.SWC.BUFSTAT.off := by cases h <;> decide
  unfold Dev.freeFrame
  exact (hg.flowCheck _ _).trans ((hg.word _ _ _ hp).trans (hg.setPlane _ _ _))

theorem QueueBlind.unqueue (h : Half) (f : SFrame) (j : Nat) : g (d.unqueue h f j) = g d :=
  (hg.word _ _ _ (swtQ_low _ _ _ _)).trans (hg.setPlane _ _ _)

theorem QueueBlind.refDone (h : Half) (f : SFrame) (j : Nat) (done : Option Nat) : g (d.refDone h f j done) = g d := by
  unfold Dev.refDone
  exact (keeps_ite (g := g) (hg.freeFrame _ _ _) (hg.setPlane _ _ _)).trans (hg.word _ _ _ (swtQ_low _ _ _ _))

theorem QueueBlind.dropRef (h : Half) (f : SFrame) (j : Nat) (done : Bool) : g (d.dropRef h f j done) = g d :=
  (hg.refDone _ _ _ _ _).trans (hg.unqueue _ _ _ _)

theorem QueueBlind.flushPort (h : Half) (j : Nat) : g (d.flushPort h j) = g d := by
  refine foldl_keeps (g := g) (fun e f => ?_) _ d
  split
  · rfl
  · have := swtPg_low h
    exact (hg.word _ _ _ (by unfold swtK; omega)).trans (hg.dropRef _ _ _ _ _)

end

theorem queueBlind_tbs : QueueBlind Dev.tbs := ⟨fun _ _ _ _ => rfl, fun _ _ => rfl, fun _ _ => rfl⟩

theorem queueBlind_macc : QueueBlind Dev.macc := ⟨fun _ _ _ _ => rfl, fun _ _ => rfl, fun _ _ => rfl⟩

theorem queueBlind_w {a : Nat} (ha : a < 0x320000) : QueueBlind (fun d => d.w a) :=
  ⟨fun d b v hb => (d.w_setw _ _ _).trans (if_neg (by omega)), fun _ _ => rfl, fun _ _ => rfl⟩

theorem queueBlind_evt (pg k : Nat) : QueueBlind (fun d => d.evt pg k) := ⟨fun _ _ _ _ => rfl, fun _ _ => rfl, fun _ _ => rfl⟩

/-! ### Candidates of a port -/

theorem inBlock_pcs {p : Nat} (hp : p < 8) {o : Nat} (ho : o < 0x1000) : inBlock .pcs (pcsPg p + o) := inBlock_pageAddr .pcs _ (by omega)

theorem pcs_lt {a : Nat} (ha : inBlock .pcs a) : a < 0x320000 := by
  have hc : Page.pcs.code = 0x31 := rfl
  unfold inBlock at ha
  omega

theorem pcsPg_ne : ∀ p < 8, ∀ q < 8, q ≠ p → pcsPg q ≠ pcsPg p := by decide

/-- A word of a port's page shows nothing of a candidate. -/
theorem candHidden_pcs {a : Nat} (ha : inBlock .pcs a) (h : Half) {c : Nat} (hc : c < 30) : CandHidden (fun d => d.w a) h c where
  word d _ v hf := d.w_p_ne _ _ _ _ (ne_of_inBlock ha (inBlock_refQ h (by omega) hf))
  suspect d v := (d.w_setw _ _ _).trans (if_neg (ne_of_inBlock ha (inBlock_selPg h (by decide))))
  engine _ _ := rfl
  event d _ _ := d.w_raise _ _ _

theorem candHidden_pcsEvt {p k : Nat} (hp : p < 8) (hk : k < 32) (h : Half) {c : Nat} (hc : c < 30) :
    CandHidden (fun d => d.evt (pcsPg p) k) h c where
  word _ _ _ _ := rfl
  suspect _ _ := rfl
  engine _ _ := rfl
  event d _ hj := d.evt_raise_ne (ne_of_inBlock (inBlock_pcs hp (by omega)) (inBlock_refPg h (by omega) (by omega)))

theorem candHidden_ports (h : Half) (c : Nat) : CandHidden Dev.ports h c := ⟨fun _ _ _ _ => rfl, fun _ _ => rfl, fun _ _ => rfl, fun _ _ _ => rfl⟩

theorem candHidden_planes (h : Half) (c : Nat) : CandHidden Dev.planes h c := ⟨fun _ _ _ _ => rfl, fun _ _ => rfl, fun _ _ => rfl, fun _ _ _ => rfl⟩

theorem candHidden_gates (h : Half) (c : Nat) : CandHidden Dev.gates h c := ⟨fun _ _ _ _ => rfl, fun _ _ => rfl, fun _ _ => rfl, fun _ _ _ => rfl⟩

theorem candHidden_macc (h : Half) (c : Nat) : CandHidden Dev.macc h c := ⟨fun _ _ _ _ => rfl, fun _ _ => rfl, fun _ _ => rfl, fun _ _ _ => rfl⟩

theorem portCands_hidden {α : Type} {g : Dev → α} (hg : ∀ h c, c < 30 → CandHidden g h c) {p : Nat} (hp : p < 8) (d : Dev) :
    g (d.portCands p) = g d := by
  unfold Dev.portCands
  refine foldl_keeps (g := g) (fun e h => ?_) _ d
  refine (Dev.each_keeps g 4 _ _ fun k hk x => ?_).trans ((hg h (14 + p) (by omega)).candRefresh e)
  exact keeps_ite (g := g) ((hg h (22 + k) (by omega)).candRefresh x) rfl

theorem nativeQr_hidden {α : Type} {g : Dev → α} {h : Half} {c : Nat} (hg : CandHidden g h c) (q : Nat) (d : Dev) : g (nativeQr h c q d) = g d := by
  unfold nativeQr
  refine keeps_ite (g := g) rfl ((hg.candRefresh _).trans ?_)
  exact (hg.event _ _ (refEvt_lt c (by decide))).trans (hg.word _ _ _ (by decide))

/-! ### A link that goes down -/

/-- A port that shows its link down. -/
def Dev.linkOff (d : Dev) (p : Nat) : Dev :=
  (((d.pb (pcsPg p) Reg.PCS.PSTAT_LINK_UP false).pb (pcsPg p) Reg.PCS.PSTAT_DLY_VALID false).raise (pcsPg p) 1).macInc p 23

theorem portDown_stays {d : Dev} {p : Nat} (hu : d.portUp p = false) : d.portDown p = d := if_pos (by simp [hu])

section
variable {α : Type} {g : Dev → α} {d : Dev} {p : Nat} (hu : d.portUp p = true)
include hu

theorem portDown_keeps (hq : QueueBlind g) (hg : GateBlind g) (hc : ∀ h c, c < 30 → CandHidden g h c) (hp : p < 8)
    (hm : ∀ e : Dev, g (e.macInc p 17) = g e) : g (d.portDown p) = g (d.linkOff p) := by
  unfold Dev.portDown
  dsimp only
  rw [if_neg (by simp [hu])]
  refine (portCands_hidden hc hp _).trans ?_
  refine (foldl_keeps (g := g) (fun e x => (hg.dropFollow _ _).trans ((hg.reportFate _ _ _).trans (hm e))) _ _).trans ?_
  exact (hg.setGate _ _ _).trans (hq.flushPort _ _ _)

theorem portDown_held (hp : p < 8) : ((d.portDown p).gate p).held = [] := by
  unfold Dev.portDown
  dsimp only
  rw [if_neg (by simp [hu])]
  refine (congrArg (fun t => (tget ({} : GateSt) t p).held) (portCands_hidden (fun h c _ => candHidden_gates h c) hp _)).trans ?_
  refine List.foldlRecOn (motive := fun e : Dev => (e.gate p).held = []) _ _ ?_ fun e he x _ => ?_
  · rw [gate_setGate_same]
  · exact (heldLess_none p).dropFollow ((heldLess_none p).reportFate (d := e.macInc p 17) he _ _) _

end

end Sys2Proof.Machine
end

section
/-! PROOF. O49: links declared up and down, and their variable delays (R272 to R277). -/

namespace Sys2Proof.Machine

theorem pcsEvt_implemented : ∀ p < 8, ∀ k < 6, evtImplemented (pcsPg p) k = true := by decide

theorem portUp_eq (d : Dev) (p : Nat) : d.portUp p = d.gb (pcsPg p) Reg.PCS.PSTAT_LINK_UP := rfl

theorem portUp_of_w {d e : Dev} {p : Nat} (h : e.w (pcsPg p + 0x108) = d.w (pcsPg p + 0x108)) : e.portUp p = d.portUp p := by
  rw [portUp_eq, portUp_eq]
  exact Dev.gb_of_w (o := 0x108) h

theorem Dev.g_pb_apart (d : Dev) (b : Nat) {f f' : Fld} (v : Bool) (hf : f.lo + f.len ≤ 32)
    (ha : f'.off ≠ f.off ∨ f.lo + f.len ≤ f'.lo ∨ f'.lo + f'.len ≤ f.lo) : (d.pb b f v).g b f' = d.g b f' := d.g_p_apart b _ hf ha

theorem Dev.gb_pb_apart (d : Dev) (b : Nat) {f f' : Fld} (v : Bool) (hf : f.lo + f.len ≤ 32)
    (ha : f'.off ≠ f.off ∨ f.lo + f.len ≤ f'.lo ∨ f'.lo + f'.len ≤ f.lo) : (d.pb b f v).gb b f' = d.gb b f' := d.gb_p_apart b _ hf ha

theorem pcsPg_mod : ∀ p < 8, pcsPg p % 0x1000 = 0 := by decide

theorem pcs_apart {p q : Nat} (hp : p < 8) (hq : q < 8) (hne : q ≠ p) {o o' : Nat} (ho : o < 0x1000) (ho' : o' < 0x1000) :
    pcsPg q + o ≠ pcsPg p + o' := by
  have := pcsPg_ne p hp q hq hne
  have := pcsPg_mod p hp
  have := pcsPg_mod q hq
  omega

/-- A change of a port's own words is not seen at another port. -/
theorem portUp_other {p q : Nat} (hp : p < 8) (hq : q < 8) (hne : q ≠ p) (e : Dev) (o v : Nat) (ho : o < 0x1000) :
    (e.setw (pcsPg p + o) v).w (pcsPg q + 0x108) = e.w (pcsPg q + 0x108) :=
  (e.w_setw _ _ _).trans (if_neg (pcs_apart hp hq hne (by decide) ho))

/-! ### What a port shows of its link -/

/-- The link conditions of PSTAT. -/
def linkFields : List Fld := [Reg.PCS.PSTAT_BLOCK_LOCK, Reg.PCS.PSTAT_ALIGNED, Reg.PCS.PSTAT_HI_BER, Reg.PCS.PSTAT_LOCAL_FAULT,
  Reg.PCS.PSTAT_REMOTE_FAULT, Reg.PCS.PSTAT_LOS]

section
variable (d : Dev) (p : Nat) (x : LinkSeen)

/-- A field of a port beside its link conditions. -/
theorem putLink_beside {f : Fld} (hf : ∀ k ∈ linkFields, f.off ≠ k.off ∨ k.lo + k.len ≤ f.lo ∨ f.lo + f.len ≤ k.lo) :
    (d.putLink p x).gb (pcsPg p) f = d.gb (pcsPg p) f := by
  unfold Dev.putLink
  dsimp only
  rw [Dev.gb_p_apart _ _ _ (by decide) (hf _ (by decide)), Dev.gb_pb_apart _ _ _ (by decide) (hf _ (by decide)),
    Dev.gb_pb_apart _ _ _ (by decide) (hf _ (by decide)), Dev.gb_pb_apart _ _ _ (by decide) (hf _ (by decide)),
    Dev.gb_pb_apart _ _ _ (by decide) (hf _ (by decide)), Dev.gb_pb_apart _ _ _ (by decide) (hf _ (by decide))]

theorem putLink_lock : (d.putLink p x).gb (pcsPg p) Reg.PCS.PSTAT_BLOCK_LOCK = x.lock := by
  unfold Dev.putLink
  dsimp only
  rw [Dev.gb_p_apart _ _ _ (by decide) (by decide), Dev.gb_pb_apart _ _ _ (by decide) (by decide),
    Dev.gb_pb_apart _ _ _ (by decide) (by decide), Dev.gb_pb_apart _ _ _ (by decide) (by decide),
    Dev.gb_pb_apart _ _ _ (by decide) (by decide), Dev.gb_pb_same _ _ _ _ (by decide) (by decide)]

theorem putLink_portUp : (d.putLink p x).portUp p = d.portUp p := by
  rw [portUp_eq, portUp_eq]
  exact putLink_beside d p x (by decide)

theorem putLink_touches : d.touches (d.putLink p x) [pcsPg p + 0x108] [] := by
  have hm {f : Fld} (ho : f.off = 0x108) : pcsPg p + f.off ∈ [pcsPg p + 0x108] := by rw [ho]; exact List.mem_singleton_self _
  unfold Dev.putLink
  exact (((((Dev.touches.refl d _ _).pb (hm rfl) _).pb (hm rfl) _).pb (hm rfl) _).pb (hm rfl) _).pb (hm rfl) _ |>.p (hm rfl) _

theorem putLink_keeps {α : Type} {g : Dev → α} (hg : ∀ (e : Dev) v, g (e.setw (pcsPg p + 0x108) v) = g e) : g (d.putLink p x) = g d := by
  unfold Dev.putLink
  exact (hg _ _).trans ((hg _ _).trans ((hg _ _).trans ((hg _ _).trans ((hg _ _).trans (hg _ _)))))

end

/-! ### Link up -/

section
variable {d : Dev} {p : Nat} {x : LinkSeen} {held : Nat}

/-- A port that has declared its link up. -/
def Dev.linkOn (d : Dev) (p lanes : Nat) (lt : Bool) : Dev :=
  (((d.pb (pcsPg p) Reg.PCS.PSTAT_LINK_UP true).pb (pcsPg p) Reg.PCS.PSTAT_DLY_VALID false).p (pcsPg p) Reg.PCS.LT_STAT
    (if lt then 2 ^ lanes - 1 else 0)).raise (pcsPg p) 0

theorem linkUp_declares (hm : d.portMode p ≠ 0) (he : d.enabled (pcsPg p) = true) (hu : d.planeUp (portHalf p) = true)
    (hr : d.gb (pcsPg p) Reg.PCS.PSTAT_REFUSED = false) (hd : d.portUp p = false)
    (hg : linkGood x (modeLanes (d.portMode p)) = true) (hh : max 1 (d.g (pcsPg p) Reg.PCS.UPHOLD) ≤ held) :
    linkUp p x held d = ((d.putLink p x).linkOn p (modeLanes (d.portMode p)) (d.gb (pcsPg p) Reg.PCS.PCFG_LT_EN)).portCands p := by
  unfold linkUp
  dsimp only
  exact if_neg (by simp [hm, he, hu, hr, hd, hg, Nat.not_lt.2 hh])

theorem linkUp_shows (h : d.portMode p = 0 ∨ d.enabled (pcsPg p) = false ∨
    d.planeUp (portHalf p) = false ∨ d.gb (pcsPg p) Reg.PCS.PSTAT_REFUSED = true ∨ d.portUp p = true ∨
    linkGood x (modeLanes (d.portMode p)) = false ∨ held < max 1 (d.g (pcsPg p) Reg.PCS.UPHOLD)) : linkUp p x held d = d.putLink p x := by
  unfold linkUp
  dsimp only
  exact if_pos (by rcases h with h | h | h | h | h | h | h <;> simp [h])

variable (d p) (lanes : Nat) (lt : Bool)

theorem linkOn_up : (d.linkOn p lanes lt).portUp p = true := by
  rw [portUp_eq]
  unfold Dev.linkOn
  rw [Dev.gb_raise, Dev.gb_p_apart _ _ _ (by decide) (by decide), Dev.gb_pb_apart _ _ _ (by decide) (by decide),
    Dev.gb_pb_same _ _ _ _ (by decide) (by decide)]

theorem linkOn_delay : (d.linkOn p lanes lt).gb (pcsPg p) Reg.PCS.PSTAT_DLY_VALID = false := by
  unfold Dev.linkOn
  rw [Dev.gb_raise, Dev.gb_p_apart _ _ _ (by decide) (by decide), Dev.gb_pb_same _ _ _ _ (by decide) (by decide)]

theorem linkOn_lock : (d.linkOn p lanes lt).gb (pcsPg p) Reg.PCS.PSTAT_BLOCK_LOCK = d.gb (pcsPg p) Reg.PCS.PSTAT_BLOCK_LOCK := by
  unfold Dev.linkOn
  rw [Dev.gb_raise, Dev.gb_p_apart _ _ _ (by decide) (by decide), Dev.gb_pb_apart _ _ _ (by decide) (by decide),
    Dev.gb_pb_apart _ _ _ (by decide) (by decide)]

theorem Dev.evt_p_own (b : Nat) (f : Fld) (v pg k : Nat) : (d.p b f v).evt pg k = d.evt pg k := rfl

theorem linkOn_evt (hp : p < 8) : (d.linkOn p lanes lt).evt (pcsPg p) 0 = (d.evt (pcsPg p) 0).occur := by
  unfold Dev.linkOn
  rw [Dev.evt_raise_own _ (pcsEvt_implemented p hp 0 (by decide)), Dev.evt_p_own, Dev.evt_pb, Dev.evt_pb]

theorem linkOn_keeps {α : Type} {g : Dev → α} (hw : ∀ (e : Dev) f v, f.off < 0x1000 → g (e.p (pcsPg p) f v) = g e)
    (hr : ∀ e : Dev, g (e.raise (pcsPg p) 0) = g e) : g (d.linkOn p lanes lt) = g d := by
  unfold Dev.linkOn
  exact (hr _).trans ((hw _ _ _ (by decide)).trans ((hw _ _ _ (by decide)).trans (hw _ _ _ (by decide))))

end

section
variable {d : Dev} {p q : Nat}

theorem gb_pcs_of_w {e : Dev} {f : Fld} (hf : f.off < 0x1000) (h : ∀ a, inBlock .pcs a → e.w a = d.w a) (hp : p < 8) :
    e.gb (pcsPg p) f = d.gb (pcsPg p) f := Dev.gb_of_w (o := f.off) (h _ (inBlock_pcs hp hf)) rfl

end

theorem linkUp_holds (p : Fin 8) (x : LinkSeen) (held : Nat) (s : State) (hm : s.dev.portMode p.val ≠ 0)
    (he : s.dev.enabled (pcsPg p.val) = true) (hu : s.dev.planeUp (portHalf p.val) = true)
    (hr : s.dev.gb (pcsPg p.val) Reg.PCS.PSTAT_REFUSED = false) (hd : s.dev.portUp p.val = false)
    (hg : linkGood x (modeLanes (s.dev.portMode p.val)) = true) (hh : max 1 (s.dev.g (pcsPg p.val) Reg.PCS.UPHOLD) ≤ held) :
    ∃ t, exec (.linkUp p ⟨x, held⟩) s = .next t ∧ t.dev.portUp p.val = true ∧
      t.dev.gb (pcsPg p.val) Reg.PCS.PSTAT_DLY_VALID = false ∧ t.dev.gb (pcsPg p.val) Reg.PCS.PSTAT_BLOCK_LOCK = true ∧
      t.dev.evt (pcsPg p.val) 0 = (s.dev.evt (pcsPg p.val) 0).occur ∧
      (∀ q < 8, q ≠ p.val → t.dev.portUp q = s.dev.portUp q) ∧ t.dev.ports = s.dev.ports ∧ t.dev.planes = s.dev.planes ∧
      t.dev.gates = s.dev.gates ∧ t.dev.tbs = s.dev.tbs ∧ s.keepsRest t := by
  have hl : x.lock = true := by
    unfold linkGood at hg
    simp only [Bool.and_eq_true] at hg
    exact hg.1.1.1.1
  have hx := linkUp_declares hm he hu hr hd hg hh
  generalize modeLanes (s.dev.portMode p.val) = lanes at hx
  generalize s.dev.gb (pcsPg p.val) Reg.PCS.PCFG_LT_EN = lt at hx
  have hw : ∀ a, inBlock .pcs a → (((s.dev.putLink p.val x).linkOn p.val lanes lt).portCands p.val).w a =
      ((s.dev.putLink p.val x).linkOn p.val lanes lt).w a := fun a ha =>
    portCands_hidden (g := fun e => e.w a) (fun h _ hc => candHidden_pcs ha h hc) p.isLt _
  have hfr {α : Type} {g : Dev → α} (hc : ∀ h c, c < 30 → CandHidden g h c)
      (hs : ∀ (e : Dev) o v, o < 0x1000 → g (e.setw (pcsPg p.val + o) v) = g e) (hr : ∀ e : Dev, g (e.raise (pcsPg p.val) 0) = g e) :
      g (((s.dev.putLink p.val x).linkOn p.val lanes lt).portCands p.val) = g s.dev :=
    (portCands_hidden hc p.isLt _).trans ((linkOn_keeps _ _ _ _ (fun e _ _ hf => hs e _ _ hf) hr).trans
      (putLink_keeps _ _ _ fun e v => hs e _ v (by decide)))
  refine ⟨_, next_onDev (f := linkUp p.val x held) hx, ?_, ?_, ?_, ?_, fun q hq hne => ?_,
    hfr (fun h c _ => candHidden_ports h c) (fun _ _ _ _ => rfl) (fun _ => rfl),
    hfr (fun h c _ => candHidden_planes h c) (fun _ _ _ _ => rfl) (fun _ => rfl),
    hfr (fun h c _ => candHidden_gates h c) (fun _ _ _ _ => rfl) (fun _ => rfl),
    hfr (fun h c _ => candHidden_tbs h c) (fun _ _ _ _ => rfl) (fun _ => rfl), s.keepsRest_withDev _⟩
  · exact (gb_pcs_of_w (by decide) hw p.isLt).trans (linkOn_up _ _ _ _)
  · exact (gb_pcs_of_w (by decide) hw p.isLt).trans (linkOn_delay _ _ _ _)
  · exact (gb_pcs_of_w (by decide) hw p.isLt).trans ((linkOn_lock _ _ _ _).trans ((putLink_lock _ _ _).trans hl))
  · refine (portCands_hidden (g := fun e => e.evt (pcsPg p.val) 0) (fun h _ hc => candHidden_pcsEvt p.isLt (by decide) h hc) p.isLt _).trans ?_
    exact (linkOn_evt _ _ _ _ p.isLt).trans (congrArg EvtWord.occur (putLink_keeps (g := fun e => e.evt (pcsPg p.val) 0) _ _ _ fun _ _ => rfl))
  · exact portUp_of_w (hfr (g := fun e => e.w (pcsPg q + 0x108)) (fun h _ hc => candHidden_pcs (inBlock_pcs hq (by decide)) h hc)
      (portUp_other p.isLt hq hne) fun e => e.w_raise _ _ _)

theorem linkShown_holds {c : Instr} {f : Dev → Dev} (p : Fin 8) (x : LinkSeen) (s : State) (hc : exec c s = .next (s.onDev f))
    (hf : f s.dev = s.dev.putLink p.val x) : ∃ t, exec c s = .next t ∧ t.dev.portUp p.val = s.dev.portUp p.val ∧
      t.dev.gb (pcsPg p.val) Reg.PCS.PSTAT_BLOCK_LOCK = x.lock ∧ s.onlyTouches t [pcsPg p.val + 0x108] [] :=
  ⟨_, hc.trans (next_onDev hf), putLink_portUp _ _ _, putLink_lock _ _ _, (putLink_touches _ _ _).onlyTouches⟩

/-! ### Link down -/

section
variable (d : Dev) (p : Nat)

theorem linkOff_up : (d.linkOff p).portUp p = false := by
  have h : (d.linkOff p).gb (pcsPg p) Reg.PCS.PSTAT_LINK_UP =
      (((d.pb (pcsPg p) Reg.PCS.PSTAT_LINK_UP false).pb (pcsPg p) Reg.PCS.PSTAT_DLY_VALID false).raise (pcsPg p) 1).gb (pcsPg p)
        Reg.PCS.PSTAT_LINK_UP := rfl
  rw [portUp_eq, h, Dev.gb_raise, Dev.gb_pb_apart _ _ _ (by decide) (by decide), Dev.gb_pb_same _ _ _ _ (by decide) (by decide)]

theorem linkOff_delay : (d.linkOff p).gb (pcsPg p) Reg.PCS.PSTAT_DLY_VALID = false := by
  have h : (d.linkOff p).gb (pcsPg p) Reg.PCS.PSTAT_DLY_VALID =
      (((d.pb (pcsPg p) Reg.PCS.PSTAT_LINK_UP false).pb (pcsPg p) Reg.PCS.PSTAT_DLY_VALID false).raise (pcsPg p) 1).gb (pcsPg p)
        Reg.PCS.PSTAT_DLY_VALID := rfl
  rw [h, Dev.gb_raise, Dev.gb_pb_same _ _ _ _ (by decide) (by decide)]

theorem Dev.evt_macInc (c k pg j : Nat) : (d.macInc p c k).evt pg j = d.evt pg j := rfl

theorem linkOff_evt (hp : p < 8) : (d.linkOff p).evt (pcsPg p) 1 = (d.evt (pcsPg p) 1).occur := by
  unfold Dev.linkOff
  rw [Dev.evt_macInc, Dev.evt_raise_own _ (pcsEvt_implemented p hp 1 (by decide)), Dev.evt_pb, Dev.evt_pb]

theorem macInc_own (c k : Nat) : tget 0 (d.macInc p c k).macc (p * 32 + c) = tget 0 d.macc (p * 32 + c) + k :=
  Tab.get_set_same (fun _ => (0 : Nat)) d.macc (p * 32 + c) _

theorem macInc_other {c j : Nat} (k : Nat) (h : j ≠ p * 32 + c) : tget 0 (d.macInc p c k).macc j = tget 0 d.macc j :=
  Tab.get_set_ne (fun _ => (0 : Nat)) d.macc (p * 32 + c) j _ h

theorem raise_macc (pg k : Nat) : (d.raise pg k).macc = d.macc := rfl

theorem pb_macc (b : Nat) (f : Fld) (v : Bool) : (d.pb b f v).macc = d.macc := rfl

theorem linkOff_count : tget 0 (d.linkOff p).macc (p * 32 + 23) = tget 0 d.macc (p * 32 + 23) + 1 := by
  unfold Dev.linkOff
  rw [macInc_own, raise_macc, pb_macc, pb_macc]

/-- An observation in which the bits that show a link off do not show. -/
def linkBlind {α : Type} (g : Dev → α) (p : Nat) : Prop :=
  ∀ (e : Dev) f, f = Reg.PCS.PSTAT_LINK_UP ∨ f = Reg.PCS.PSTAT_DLY_VALID → g (e.pb (pcsPg p) f false) = g e

theorem linkBlind_of_setw {α : Type} {g : Dev → α} {p : Nat} (hg : ∀ (e : Dev) v, g (e.setw (pcsPg p + 0x108) v) = g e) : linkBlind g p := by
  rintro e f (rfl | rfl)
  · exact hg e _
  · exact hg e _

theorem linkOff_keeps {α : Type} {g : Dev → α} (hw : linkBlind g p)
    (hr : ∀ e : Dev, g (e.raise (pcsPg p) 1) = g e) (hm : ∀ e : Dev, g (e.macInc p 23) = g e) : g (d.linkOff p) = g d := by
  unfold Dev.linkOff
  exact (hm _).trans ((hr _).trans ((hw _ _ (.inr rfl)).trans (hw _ _ (.inl rfl))))

end

section
variable {d : Dev} {p : Nat} (hu : d.portUp p = true) (hp : p < 8)
include hu hp

theorem portDown_w {a : Nat} (ha : inBlock .pcs a) : (d.portDown p).w a = (d.linkOff p).w a :=
  portDown_keeps hu (queueBlind_w (pcs_lt ha)) (gateBlind_w ((pcs_lt ha).trans (by decide))) (fun h _ hc => candHidden_pcs ha h hc) hp fun _ => rfl

theorem portDown_up : (d.portDown p).portUp p = false := by
  rw [portUp_of_w (portDown_w hu hp (inBlock_pcs hp (by decide))), linkOff_up]

theorem portDown_delay : (d.portDown p).gb (pcsPg p) Reg.PCS.PSTAT_DLY_VALID = false :=
  (gb_pcs_of_w (by decide) (fun _ ha => portDown_w hu hp ha) hp).trans (linkOff_delay d p)

omit hu in
theorem pcsEvt_gate {k : Nat} (hk : k < 32) : GateBlind (fun e => e.evt (pcsPg p) k) :=
  gateBlind_evt fun q j => by
    have h1 := pcs_lt (inBlock_pcs hp (o := k) (by omega))
    have h2 := lgtPg_low (portHalf q)
    omega

theorem portDown_evt (k : Nat) (hk : k < 32) : (d.portDown p).evt (pcsPg p) k = (d.linkOff p).evt (pcsPg p) k :=
  portDown_keeps hu (queueBlind_evt _ _) (pcsEvt_gate hp hk) (fun h _ hc => candHidden_pcsEvt hp hk h hc) hp fun _ => rfl

theorem portDown_count : tget 0 (d.portDown p).macc (p * 32 + 23) = tget 0 d.macc (p * 32 + 23) + 1 := by
  refine (portDown_keeps (g := fun e : Dev => tget 0 e.macc (p * 32 + 23)) hu ⟨fun _ _ _ _ => rfl, fun _ _ => rfl, fun _ _ => rfl⟩
    ⟨fun _ _ _ _ => rfl, fun _ _ _ => rfl, fun _ _ => rfl, fun _ _ => rfl, fun _ _ => rfl⟩
    (fun _ _ _ => ⟨fun _ _ _ _ => rfl, fun _ _ => rfl, fun _ _ => rfl, fun _ _ _ => rfl⟩) hp fun e => ?_).trans (linkOff_count d p)
  exact macInc_other e p 1 (by omega)

theorem portDown_tbs : (d.portDown p).tbs = d.tbs :=
  (portDown_keeps hu queueBlind_tbs gateBlind_tbs (fun h c _ => candHidden_tbs h c) hp fun _ => rfl).trans
    (linkOff_keeps (g := Dev.tbs) d p (fun _ _ _ => rfl) (fun _ => rfl) fun _ => rfl)

theorem portDown_others {q : Nat} (hq : q < 8) (hne : q ≠ p) : (d.portDown p).portUp q = d.portUp q := by
  refine portUp_of_w ((portDown_w hu hp (inBlock_pcs hq (by decide))).trans ?_)
  exact linkOff_keeps (g := fun e => e.w (pcsPg q + 0x108)) d p
    (linkBlind_of_setw fun e v => portUp_other hp hq hne e _ v (by decide)) (fun e => e.w_raise _ _ _) fun _ => rfl

end

theorem linkDown_good {d : Dev} {p : Nat} {x : LinkSeen} (h : d.portUp p = false ∨ linkGood x (modeLanes (d.portMode p)) = true) :
    linkDown p x d = d.putLink p x := by
  unfold linkDown
  dsimp only
  split
  · rfl
  · next hn => exact portDown_stays ((putLink_portUp _ _ _).trans (h.resolve_right hn))

theorem linkDown_bad {d : Dev} {p : Nat} {x : LinkSeen} (h : linkGood x (modeLanes (d.portMode p)) = false) :
    linkDown p x d = (d.putLink p x).portDown p := if_neg (by simp [h])

theorem linkDown_holds (p : Fin 8) (x : LinkSeen) (s : State) (hu : s.dev.portUp p.val = true)
    (hg : linkGood x (modeLanes (s.dev.portMode p.val)) = false) :
    ∃ t, exec (.linkDown p x) s = .next t ∧ t.dev.portUp p.val = false ∧
      t.dev.gb (pcsPg p.val) Reg.PCS.PSTAT_DLY_VALID = false ∧
      t.dev.evt (pcsPg p.val) 1 = (s.dev.evt (pcsPg p.val) 1).occur ∧
      tget 0 t.dev.macc (p.val * 32 + 23) = tget 0 s.dev.macc (p.val * 32 + 23) + 1 ∧ (t.dev.gate p.val).held = [] ∧
      (∀ q < 8, q ≠ p.val → t.dev.portUp q = s.dev.portUp q) ∧ t.dev.tbs = s.dev.tbs ∧ s.keepsRest t := by
  have hu' : (s.dev.putLink p.val x).portUp p.val = true := (putLink_portUp _ _ _).trans hu
  refine ⟨_, next_onDev (f := linkDown p.val x) (linkDown_bad hg), portDown_up hu' p.isLt, portDown_delay hu' p.isLt,
    (portDown_evt hu' p.isLt 1 (by decide)).trans ((linkOff_evt _ _ p.isLt).trans ?_), (portDown_count hu' p.isLt).trans ?_,
    portDown_held hu' p.isLt, fun q hq hne => (portDown_others hu' p.isLt hq hne).trans ?_,
    (portDown_tbs hu' p.isLt).trans (putLink_keeps (g := Dev.tbs) _ _ _ fun _ _ => rfl), s.keepsRest_withDev _⟩
  · exact congrArg EvtWord.occur (putLink_keeps (g := fun e => e.evt (pcsPg p.val) 1) _ _ _ fun _ _ => rfl)
  · exact congrArg (· + 1) (putLink_keeps (g := fun e => tget 0 e.macc (p.val * 32 + 23)) _ _ _ fun _ _ => rfl)
  · exact portUp_of_w (putLink_keeps (g := fun e => e.w (pcsPg q + 0x108)) _ _ _ fun e v => portUp_other p.isLt hq hne e _ v (by decide))

/-! ### Variable delays -/

section
variable {d : Dev} {p align txUi : Nat} {skews : List Int}

theorem delayMeasured_stays (h : d.portUp p = false ∨ d.gb (pcsPg p) Reg.PCS.PSTAT_DLY_VALID = true) :
    delayMeasured p align skews txUi d = d := if_pos (by rcases h with h | h <;> simp [h])

/-- A port whose variable delays stand. -/
def Dev.delayShown (d : Dev) (p : Nat) (v : Nat × Nat) : Dev :=
  (((d.p (pcsPg p) Reg.PCS.RX_VAR v.1).p (pcsPg p) Reg.PCS.TX_VAR v.2).pb (pcsPg p) Reg.PCS.PSTAT_DLY_VALID true).setPort p
    { d.port p with var := some v }

/-- A port tells that its variable delays differ from those of the link-up before. -/
def Dev.delayTold (d : Dev) (p : Nat) (w : Option (Nat × Nat)) (v : Nat × Nat) : Dev :=
  match w with
  | none => d
  | some u => d.raiseIf (u != v) (pcsPg p) 5

theorem delayMeasured_eq (hu : d.portUp p = true) (hv : d.gb (pcsPg p) Reg.PCS.PSTAT_DLY_VALID = false) :
    delayMeasured p align skews txUi d =
      (d.delayShown p (uiPs (modeSymbols (d.portMode p)) ((align : Int) + (skews[d.rclkLane p]?).getD 0).toNat,
        uiPs (modeSymbols (d.portMode p)) txUi)).delayTold p (d.port p).var
        (uiPs (modeSymbols (d.portMode p)) ((align : Int) + (skews[d.rclkLane p]?).getD 0).toNat,
        uiPs (modeSymbols (d.portMode p)) txUi) := by
  unfold delayMeasured Dev.delayShown Dev.delayTold
  dsimp only
  exact if_neg (by simp [hu, hv])

variable (d p) (v : Nat × Nat)

theorem Dev.g_setPort (w : PortSt) (q b : Nat) (f : Fld) : (d.setPort q w).g b f = d.g b f := rfl

theorem Dev.gb_setPort (w : PortSt) (q b : Nat) (f : Fld) : (d.setPort q w).gb b f = d.gb b f := rfl

theorem delayShown_rx : (d.delayShown p v).g (pcsPg p) Reg.PCS.RX_VAR = v.1 % 2 ^ 32 := by
  unfold Dev.delayShown
  rw [Dev.g_setPort, Dev.g_pb_apart _ _ _ (by decide) (by decide), Dev.g_p_apart _ _ _ (by decide) (by decide)]
  exact Dev.g_p_same _ _ _ _ (by decide)

theorem delayShown_tx : (d.delayShown p v).g (pcsPg p) Reg.PCS.TX_VAR = v.2 % 2 ^ 32 := by
  unfold Dev.delayShown
  rw [Dev.g_setPort, Dev.g_pb_apart _ _ _ (by decide) (by decide)]
  exact Dev.g_p_same _ _ _ _ (by decide)

theorem delayShown_valid : (d.delayShown p v).gb (pcsPg p) Reg.PCS.PSTAT_DLY_VALID = true := by
  unfold Dev.delayShown
  rw [Dev.gb_setPort, Dev.gb_pb_same _ _ _ _ (by decide) (by decide)]

theorem Dev.evt_setPort (q : Nat) (w : PortSt) (pg k : Nat) : (d.setPort q w).evt pg k = d.evt pg k := rfl

theorem delayShown_evt (pg k : Nat) : (d.delayShown p v).evt pg k = d.evt pg k := by
  unfold Dev.delayShown
  rw [Dev.evt_setPort, Dev.evt_pb, Dev.evt_p_own, Dev.evt_p_own]

theorem backPorts_setPort (u : Dev) (q : Nat) (w : PortSt) : u.backPorts (d.setPort q w) = u.backPorts d := rfl

theorem delayShown_touches : d.touchesBy d.backPorts (d.delayShown p v) [pcsPg p + 0x108, pcsPg p + 0x110, pcsPg p + 0x11C] [pcsPg p + 5] := by
  have hm {f : Fld} (ho : f.off = 0x108 ∨ f.off = 0x110 ∨ f.off = 0x11C) :
      pcsPg p + f.off ∈ [pcsPg p + 0x108, pcsPg p + 0x110, pcsPg p + 0x11C] := by
    rcases ho with ho | ho | ho <;> rw [ho] <;> simp
  unfold Dev.delayShown
  have h0 : d.touchesBy d.backPorts d [pcsPg p + 0x108, pcsPg p + 0x110, pcsPg p + 0x11C] [pcsPg p + 5] := .of_touches (.refl d _ _)
  have h1 := Dev.touchesBy.p (restores_ports d) h0 (f := Reg.PCS.RX_VAR) (hm (.inr (.inl rfl))) v.1
  have h2 := Dev.touchesBy.p (restores_ports d) h1 (f := Reg.PCS.TX_VAR) (hm (.inr (.inr rfl))) v.2
  exact (Dev.touchesBy.pb (restores_ports d) h2 (f := Reg.PCS.PSTAT_DLY_VALID) (hm (.inl rfl)) true).hidden (backPorts_setPort _ _ _ _)

variable (w : Option (Nat × Nat))

theorem delayTold_g (b : Nat) (f : Fld) : (d.delayTold p w v).g b f = d.g b f := by
  unfold Dev.delayTold
  cases w with
  | none => rfl
  | some u => exact Dev.g_congr (by unfold Dev.raiseIf; rfl) b f

theorem delayTold_evt (hp : p < 8) : (d.delayTold p w v).evt (pcsPg p) 5 = (match w with
    | none => d.evt (pcsPg p) 5
    | some u => if u = v then d.evt (pcsPg p) 5 else (d.evt (pcsPg p) 5).occur) := by
  unfold Dev.delayTold
  cases w with
  | none => rfl
  | some u =>
    dsimp only
    by_cases h : u = v
    · rw [if_pos h, show (u != v) = false by simp [h]]
      rfl
    · rw [if_neg h, show (u != v) = true by simp [h]]
      exact Dev.evt_raise_own d (pcsEvt_implemented p hp 5 (by decide))

theorem delayTold_touches {u : Dev} {ws : List Nat} (h : u.touchesBy u.backPorts d ws [pcsPg p + 5]) :
    u.touchesBy u.backPorts (d.delayTold p w v) ws [pcsPg p + 5] := by
  unfold Dev.delayTold
  cases w with
  | none => exact h
  | some x => exact Dev.touchesBy.raiseIf (restores_ports u) h (List.mem_singleton_self _) _

end

theorem delayMeasureDone_holds (p : Fin 8) (align : Nat) (skews : List Int) (tx : Nat) (s : State) (hu : s.dev.portUp p.val = true)
    (hv : s.dev.gb (pcsPg p.val) Reg.PCS.PSTAT_DLY_VALID = false) :
    let rx := ((align : Int) + (skews[s.dev.rclkLane p.val]?).getD 0).toNat
    let v := (uiPs (modeSymbols (s.dev.portMode p.val)) rx, uiPs (modeSymbols (s.dev.portMode p.val)) tx)
    ∃ t, exec (.delayMeasureDone p ⟨align, skews⟩ tx) s = .next t ∧ t.dev.g (pcsPg p.val) Reg.PCS.RX_VAR = v.1 % 2 ^ 32 ∧
      t.dev.g (pcsPg p.val) Reg.PCS.TX_VAR = v.2 % 2 ^ 32 ∧ t.dev.gb (pcsPg p.val) Reg.PCS.PSTAT_DLY_VALID = true ∧
      t.dev.evt (pcsPg p.val) 5 = (match (s.dev.port p.val).var with
        | none => s.dev.evt (pcsPg p.val) 5
        | some w => if w = v then s.dev.evt (pcsPg p.val) 5 else (s.dev.evt (pcsPg p.val) 5).occur) ∧
      s.onlyTouches { t with dev := { t.dev with ports := s.dev.ports } }
        [pcsPg p.val + 0x108, pcsPg p.val + 0x110, pcsPg p.val + 0x11C] [pcsPg p.val + 5] := by
  intro rx v
  have he := delayMeasured_eq (align := align) (skews := skews) (txUi := tx) hu hv
  change delayMeasured p.val align skews tx s.dev = (s.dev.delayShown p.val v).delayTold p.val (s.dev.port p.val).var v at he
  clear_value v
  refine ⟨_, next_onDev (f := delayMeasured p.val align skews tx) he, (delayTold_g _ _ _ _ _ _).trans (delayShown_rx _ _ _),
    (delayTold_g _ _ _ _ _ _).trans (delayShown_tx _ _ _), (Dev.gb_of_g (delayTold_g _ _ _ _ _ _)).trans (delayShown_valid _ _ _),
    (delayTold_evt _ _ _ _ p.isLt).trans ?_, (delayTold_touches _ _ _ _ (delayShown_touches _ _ _)).onlyTouches⟩
  rw [delayShown_evt]

end Sys2Proof.Machine
end

section
/-! PROOF. O49: PCFG written (R270, R281, R285). -/

namespace Sys2Proof.Machine

/-! ### The setting -/

theorem pcfg_mask : ∀ p < 8, writeMask (pcsPg p + 0x100) = 0x3F7 := by decide +kernel

theorem pcfg_bits : ∀ i < 10, (0x3F7 : Nat).testBit i = true → (0xF7 : Nat).testBit i = false → i = 8 ∨ i = 9 := by decide

theorem testBit_getBits (n lo len k : Nat) (hk : k < len) : (getBits n lo len).testBit k = n.testBit (k + lo) := by
  unfold getBits
  rw [Nat.testBit_mod_two_pow, Nat.testBit_div_two_pow, decide_eq_true hk, Bool.true_and]

/-- A PCFG whose settings but RCLK_LANE stay, and that changes, changes RCLK_LANE. -/
theorem pcfg_lane {p : Nat} (hp : p < 8) {old v : Nat} (ho : old < 2 ^ 32)
    (hr : old &&& 0xF7 = mergeWrite (pcsPg p + 0x100) old v &&& 0xF7)
    (hne : old ≠ mergeWrite (pcsPg p + 0x100) old v) : getBits old 8 2 ≠ getBits (mergeWrite (pcsPg p + 0x100) old v) 8 2 := by
  intro hl
  refine hne (Nat.eq_of_testBit_eq fun i => ?_)
  cases hm : (0x3F7 : Nat).testBit i with
  | false =>
    rw [testBit_mergeWrite _ (by rw [pcfg_mask p hp]; decide), pcfg_mask p hp, hm]
    by_cases hi : i < 32
    · simp [hi]
    · rw [Nat.testBit_lt_two_pow (lt_of_lt_of_le ho (Nat.pow_le_pow_right (by decide) (Nat.not_lt.1 hi)))]
      simp
  | true =>
    have hi : i < 10 := by
      by_contra hn
      rw [Nat.testBit_lt_two_pow (lt_of_lt_of_le (by decide : (0x3F7 : Nat) < 2 ^ 10) (Nat.pow_le_pow_right (by decide) (Nat.not_lt.1 hn)))] at hm
      cases hm
    cases h7 : (0xF7 : Nat).testBit i with
    | true =>
      have := congrArg (fun n => Nat.testBit n i) hr
      simpa only [Nat.testBit_and, h7, Bool.and_true] using this
    | false =>
      have hk (k : Nat) (h : k < 2) : old.testBit (k + 8) = (mergeWrite (pcsPg p + 0x100) old v).testBit (k + 8) :=
        (testBit_getBits old 8 2 k h).symm.trans ((congrArg (Nat.testBit · k) hl).trans (testBit_getBits _ 8 2 k h))
      rcases pcfg_bits i hi hm h7 with rfl | rfl
      · exact hk 0 (by decide)
      · exact hk 1 (by decide)

section
variable (d : Dev) (p v : Nat)

/-- The setting of a port taken, with the fixed delays that follow it and REFUSED. -/
def Dev.pcfgTaken (d : Dev) (p v : Nat) : Dev := (d.pcfgPut p v).1

/-- The word of PCFG after a write. -/
def Dev.pcfgNew (d : Dev) (p v : Nat) : Nat := mergeWrite (pcsPg p + 0x100) (d.w (pcsPg p + 0x100)) v

/-- A port's setting alone. -/
def Dev.pcfgSet (d : Dev) (p v : Nat) : Dev := d.setw (pcsPg p + 0x100) (d.pcfgNew p v)

/-- What a port shows of a setting. -/
def Dev.pcfgShown (d : Dev) (p rx tx : Nat) (r : Bool) : Dev :=
  (((d.p (pcsPg p) Reg.PCS.RX_FIX rx).p (pcsPg p) Reg.PCS.TX_FIX tx).pb (pcsPg p) Reg.PCS.PSTAT_REFUSED r).raiseIf r (pcsPg p) 2

theorem pcfgTaken_eq : ∃ rx tx, d.pcfgTaken p v = (d.pcfgSet p v).pcfgShown p rx tx ((d.pcfgSet p v).pcsRefuses p) := ⟨_, _, rfl⟩

theorem pcfgShown_keeps {α : Type} {g : Dev → α} (rx tx : Nat) (r : Bool) (hw : ∀ (e : Dev) f u, f ∈ [Reg.PCS.RX_FIX, Reg.PCS.TX_FIX,
    Reg.PCS.PSTAT_REFUSED] → g (e.p (pcsPg p) f u) = g e) (hr : ∀ (e : Dev), g (e.raiseIf r (pcsPg p) 2) = g e) :
    g (d.pcfgShown p rx tx r) = g d := by
  unfold Dev.pcfgShown
  exact (hr _).trans ((hw _ Reg.PCS.PSTAT_REFUSED (bitOf r) (by simp)).trans ((hw _ _ _ (by simp)).trans (hw _ _ _ (by simp))))

theorem pcfgTaken_keeps {α : Type} {g : Dev → α} (hw : ∀ (e : Dev) o u, o < 0x1000 → g (e.setw (pcsPg p + o) u) = g e)
    (hr : ∀ (e : Dev) r, g (e.raiseIf r (pcsPg p) 2) = g e) : g (d.pcfgTaken p v) = g d := by
  obtain ⟨rx, tx, he⟩ := pcfgTaken_eq d p v
  rw [he]
  refine (pcfgShown_keeps _ _ _ _ _ (fun e f u hf => hw e f.off _ ?_) (fun e => hr e _)).trans (hw d 0x100 _ (by decide))
  simp only [List.mem_cons, List.not_mem_nil, or_false] at hf
  rcases hf with rfl | rfl | rfl <;> decide

theorem pcfgTaken_setting (hv : v < 2 ^ 32) : (d.pcfgTaken p v).w (pcsPg p + 0x100) = d.pcfgNew p v := by
  obtain ⟨rx, tx, he⟩ := pcfgTaken_eq d p v
  rw [he]
  refine (pcfgShown_keeps (g := fun e => e.w (pcsPg p + 0x100)) _ _ _ _ _ (fun e f u hf => Dev.w_p_ne _ _ _ _ _ ?_)
    (fun e => e.w_raiseIf _ _ _ _)).trans ((d.w_setw _ _ _).trans ((if_pos rfl).trans ?_))
  · simp only [List.mem_cons, List.not_mem_nil, or_false] at hf
    rcases hf with rfl | rfl | rfl <;> simp [Reg.PCS.RX_FIX, Reg.PCS.TX_FIX, Reg.PCS.PSTAT_REFUSED]
  · exact Nat.mod_eq_of_lt (mergeWrite_lt _ (d.w_lt _) hv)

theorem pcfgTaken_refused : (d.pcfgTaken p v).gb (pcsPg p) Reg.PCS.PSTAT_REFUSED = (d.pcfgSet p v).pcsRefuses p := by
  obtain ⟨rx, tx, he⟩ := pcfgTaken_eq d p v
  rw [he]
  unfold Dev.pcfgShown
  rw [Dev.gb_raiseIf, Dev.gb_pb_same _ _ _ _ (by decide) (by decide)]

theorem evt_raiseIf_own (pg k pg' k' : Nat) : (d.raiseIf true pg k).evt pg' k' = (d.raise pg k).evt pg' k' := rfl

theorem pcfgTaken_evt (hp : p < 8) (hr : (d.pcfgSet p v).pcsRefuses p = true) :
    (d.pcfgTaken p v).evt (pcsPg p) 2 = (d.evt (pcsPg p) 2).occur := by
  obtain ⟨rx, tx, he⟩ := pcfgTaken_eq d p v
  rw [he, hr]
  unfold Dev.pcfgShown
  rw [evt_raiseIf_own, Dev.evt_raise_own _ (pcsEvt_implemented p hp 2 (by decide)), Dev.evt_pb, Dev.evt_p_own, Dev.evt_p_own]
  rfl

theorem pcfgTaken_up : (d.pcfgTaken p v).portUp p = d.portUp p := by
  obtain ⟨rx, tx, he⟩ := pcfgTaken_eq d p v
  rw [he, portUp_eq, portUp_eq]
  unfold Dev.pcfgShown
  rw [Dev.gb_raiseIf, Dev.gb_pb_apart _ _ _ (by decide) (by decide), Dev.gb_p_apart _ _ _ (by decide) (by decide),
    Dev.gb_p_apart _ _ _ (by decide) (by decide)]
  exact Dev.gb_of_w (o := 0x108) ((d.w_setw _ _ _).trans (if_neg (by omega)))

/-- Whether a setting is refused hangs on PCFG and on the synthesis loops. -/
theorem pcsRefuses_congr {e : Dev} {p : Nat} (hw : e.w (pcsPg p + 0x100) = d.w (pcsPg p + 0x100)) (ha : e.apls = d.apls) :
    e.pcsRefuses p = d.pcsRefuses p := by
  have hg {f : Fld} (ho : f.off = 0x100) : e.g (pcsPg p) f = d.g (pcsPg p) f := Dev.g_of_w (o := 0x100) hw ho
  unfold Dev.pcsRefuses Dev.portMode Dev.portFec Dev.steeredAtFt
  rw [hg rfl, hg rfl, Dev.gb_of_g (hg rfl), ha]

end

/-! ### What follows a setting -/

section
variable {d : Dev} {p v : Nat}

/-- A port after a setting: its link taken down, or its delays to be measured again, or neither. -/
def Dev.pcfgMoved (d : Dev) (p v : Nat) : Dev :=
  if d.w (pcsPg p + 0x100) &&& 0xF7 ≠ d.pcfgNew p v &&& 0xF7 then ((d.pcfgTaken p v).portDown p).flushPort (portHalf p) (p / 2)
  else if getBits (d.w (pcsPg p + 0x100)) 8 2 ≠ getBits (d.pcfgNew p v) 8 2 then (d.pcfgTaken p v).pb (pcsPg p) Reg.PCS.PSTAT_DLY_VALID false
  else d.pcfgTaken p v

theorem pcfgWritten_hidden {α : Type} {g : Dev → α} (hg : ∀ h c, c < 30 → CandHidden g h c) (hp : p < 8) :
    g (pcfgWritten p v d) = g (d.pcfgMoved p v) := by
  unfold pcfgWritten
  dsimp only
  refine (foldl_keeps (g := g) (fun e h => keeps_ite (g := g) rfl (monitorsRestart_hidden (hg h (14 + p) (by omega)))) _ _).trans ?_
  have h1 : (d.pcfgPut p v).2.1 = decide (d.w (pcsPg p + 0x100) &&& 0xF7 ≠ d.pcfgNew p v &&& 0xF7) := rfl
  have h2 : (d.pcfgPut p v).2.2 = (decide (getBits (d.w (pcsPg p + 0x100)) 8 2 ≠ getBits (d.pcfgNew p v) 8 2) && !(d.pcfgPut p v).2.1) := rfl
  unfold Dev.pcfgMoved Dev.pcfgTaken
  by_cases h : d.w (pcsPg p + 0x100) &&& 0xF7 = d.pcfgNew p v &&& 0xF7
  · rw [if_neg (not_not.2 h), if_neg (by simp [h1, h])]
    by_cases hl : getBits (d.w (pcsPg p + 0x100)) 8 2 = getBits (d.pcfgNew p v) 8 2
    · rw [if_neg (by simp [h2, hl]), if_neg (not_not.2 hl)]
    · rw [if_pos (by simp [h2, h1, h, hl]), if_pos hl]
  · rw [if_pos h, if_pos (by simp [h1, h])]

theorem pcfgMoved_restart (h : d.w (pcsPg p + 0x100) &&& 0xF7 ≠ d.pcfgNew p v &&& 0xF7) :
    d.pcfgMoved p v = ((d.pcfgTaken p v).portDown p).flushPort (portHalf p) (p / 2) := if_pos h

/-- What neither a link that goes down nor delays measured again show. -/
theorem pcfgMoved_keeps {α : Type} {g : Dev → α} (hq : QueueBlind g) (hg : GateBlind g) (hc : ∀ h c, c < 30 → CandHidden g h c) (hp : p < 8)
    (hw : linkBlind g p) (hr : ∀ e : Dev, g (e.raise (pcsPg p) 1) = g e)
    (hm : ∀ (e : Dev) c, g (e.macInc p c) = g e) : g (d.pcfgMoved p v) = g (d.pcfgTaken p v) := by
  unfold Dev.pcfgMoved
  refine keeps_ite (g := g) ((hq.flushPort _ _ _).trans ?_) (keeps_ite (g := g) (hw _ _ (.inr rfl)) rfl)
  cases hu : (d.pcfgTaken p v).portUp p with
  | false => rw [portDown_stays hu]
  | true => exact (portDown_keeps hu hq hg hc hp fun e => hm e 17).trans (linkOff_keeps _ _ hw hr fun e => hm e 23)

theorem pcfgMoved_down (h : d.w (pcsPg p + 0x100) &&& 0xF7 ≠ d.pcfgNew p v &&& 0xF7) (hp : p < 8) : (d.pcfgMoved p v).portUp p = false := by
  rw [pcfgMoved_restart h, portUp_of_w ((queueBlind_w (pcs_lt (inBlock_pcs hp (by decide)))).flushPort _ _ _)]
  cases hu : (d.pcfgTaken p v).portUp p with
  | false => rw [portDown_stays hu, hu]
  | true => exact portDown_up hu hp

theorem pcfgMoved_up (h : d.w (pcsPg p + 0x100) &&& 0xF7 = d.pcfgNew p v &&& 0xF7) : (d.pcfgMoved p v).portUp p = d.portUp p := by
  unfold Dev.pcfgMoved
  rw [if_neg (not_not.2 h)]
  refine (keeps_ite (g := fun e : Dev => e.portUp p) ?_ rfl).trans (pcfgTaken_up d p v)
  rw [portUp_eq, portUp_eq, Dev.gb_pb_apart _ _ _ (by decide) (by decide)]

theorem pcfgMoved_delay (hp : p < 8) (h : d.w (pcsPg p + 0x100) &&& 0xF7 = d.pcfgNew p v &&& 0xF7) (hne : d.w (pcsPg p + 0x100) ≠ d.pcfgNew p v) :
    (d.pcfgMoved p v).gb (pcsPg p) Reg.PCS.PSTAT_DLY_VALID = false := by
  unfold Dev.pcfgMoved
  have hl : getBits (d.w (pcsPg p + 0x100)) 8 2 ≠ getBits (d.pcfgNew p v) 8 2 := pcfg_lane hp (d.w_lt _) h hne
  rw [if_neg (not_not.2 h), if_pos hl, Dev.gb_pb_same _ _ _ _ (by decide) (by decide)]

/-- The words of a port's page, as the candidates' part leaves them. -/
theorem pcfgWritten_w (hp : p < 8) {a : Nat} (ha : inBlock .pcs a) : (pcfgWritten p v d).w a = (d.pcfgMoved p v).w a :=
  pcfgWritten_hidden (g := fun e => e.w a) (fun h _ hc => candHidden_pcs ha h hc) hp

theorem pcfgMoved_w (hp : p < 8) {a : Nat} (ha : inBlock .pcs a) (hne : a ≠ pcsPg p + 0x108) : (d.pcfgMoved p v).w a = (d.pcfgTaken p v).w a :=
  pcfgMoved_keeps (g := fun e => e.w a) (queueBlind_w (pcs_lt ha)) (gateBlind_w ((pcs_lt ha).trans (by decide)))
    (fun h _ hc => candHidden_pcs ha h hc) hp (linkBlind_of_setw fun e u => (e.w_setw _ _ _).trans (if_neg hne)) (fun e => e.w_raise _ _ _) fun _ _ => rfl

theorem pcfgWritten_setting (hp : p < 8) (hv : v < 2 ^ 32) : (pcfgWritten p v d).w (pcsPg p + 0x100) = d.pcfgNew p v :=
  (pcfgWritten_w hp (inBlock_pcs hp (by decide))).trans ((pcfgMoved_w hp (inBlock_pcs hp (by decide)) (by omega)).trans (pcfgTaken_setting d p v hv))

theorem candHidden_apls (h : Half) (c : Nat) : CandHidden Dev.apls h c := ⟨fun _ _ _ _ => rfl, fun _ _ => rfl, fun _ _ => rfl, fun _ _ _ => rfl⟩

theorem raiseIf_apls (e : Dev) (c : Bool) (pg k : Nat) : (e.raiseIf c pg k).apls = e.apls := rfl

theorem pcfgWritten_apls (hp : p < 8) : (pcfgWritten p v d).apls = d.apls :=
  (pcfgWritten_hidden (fun h c _ => candHidden_apls h c) hp).trans ((pcfgMoved_keeps ⟨fun _ _ _ _ => rfl, fun _ _ => rfl, fun _ _ => rfl⟩
    ⟨fun _ _ _ _ => rfl, fun _ _ _ => rfl, fun _ _ => rfl, fun _ _ => rfl, fun _ _ => rfl⟩ (fun h c _ => candHidden_apls h c) hp
    (fun _ _ _ => rfl) (fun _ => rfl) fun _ _ => rfl).trans (pcfgTaken_keeps (g := Dev.apls) _ _ _ (fun _ _ _ _ => rfl) fun e _ => raiseIf_apls e _ _ _))

theorem pcfgWritten_tbs (hp : p < 8) : (pcfgWritten p v d).tbs = d.tbs :=
  (pcfgWritten_hidden (fun h c _ => candHidden_tbs h c) hp).trans ((pcfgMoved_keeps queueBlind_tbs gateBlind_tbs
    (fun h c _ => candHidden_tbs h c) hp (fun _ _ _ => rfl) (fun _ => rfl) fun _ _ => rfl).trans
    (pcfgTaken_keeps (g := Dev.tbs) _ _ _ (fun _ _ _ _ => rfl) fun e _ => e.raiseIf_tbs _ _ _))

/-- A setting refused or not, before and after what follows it. -/
theorem pcfgWritten_refuses (hp : p < 8) (hv : v < 2 ^ 32) : (pcfgWritten p v d).pcsRefuses p = (d.pcfgSet p v).pcsRefuses p := by
  refine pcsRefuses_congr _ ((pcfgWritten_setting hp hv).trans ?_) (pcfgWritten_apls hp)
  exact ((d.w_setw _ _ _).trans ((if_pos rfl).trans (Nat.mod_eq_of_lt (mergeWrite_lt _ (d.w_lt _) hv)))).symm

theorem QueueBlind.gb {b : Nat} {f : Fld} (h : QueueBlind fun e => e.w (b + f.off)) : QueueBlind fun e => e.gb b f :=
  ⟨fun d a v ha => Dev.gb_of_w (h.word d a v ha) rfl, fun d x => Dev.gb_of_w (h.planes d x) rfl, fun d x => Dev.gb_of_w (h.ports d x) rfl⟩

theorem GateBlind.gb {b : Nat} {f : Fld} (h : GateBlind fun e => e.w (b + f.off)) : GateBlind fun e => e.gb b f :=
  ⟨fun d a v ha => Dev.gb_of_w (h.word d a v ha) rfl, fun d q k => Dev.gb_of_w (h.event d q k) rfl, fun d x => Dev.gb_of_w (h.gates d x) rfl,
    fun d x => Dev.gb_of_w (h.resp d x) rfl, fun d x => Dev.gb_of_w (h.planes d x) rfl⟩

theorem CandHidden.gb {b : Nat} {f : Fld} {h : Half} {c : Nat} (hg : CandHidden (fun e => e.w (b + f.off)) h c) : CandHidden (fun e => e.gb b f) h c :=
  ⟨fun d f' v hf => Dev.gb_of_w (hg.word d f' v hf) rfl, fun d v => Dev.gb_of_w (hg.suspect d v) rfl, fun d u => Dev.gb_of_w (hg.engine d u) rfl,
    fun d k hk => Dev.gb_of_w (hg.event d k hk) rfl⟩

theorem pcfgMoved_refused (hp : p < 8) :
    (d.pcfgMoved p v).gb (pcsPg p) Reg.PCS.PSTAT_REFUSED = (d.pcfgTaken p v).gb (pcsPg p) Reg.PCS.PSTAT_REFUSED := by
  have hb : inBlock .pcs (pcsPg p + Reg.PCS.PSTAT_REFUSED.off) := inBlock_pcs hp (by decide)
  refine pcfgMoved_keeps (g := fun e => e.gb (pcsPg p) Reg.PCS.PSTAT_REFUSED) (queueBlind_w (pcs_lt hb)).gb
    (gateBlind_w ((pcs_lt hb).trans (by decide))).gb (fun h _ hc => (candHidden_pcs hb h hc).gb) hp ?_ (fun e => e.gb_raise _ _ _ _) fun _ _ => rfl
  rintro e f (rfl | rfl)
  · exact e.gb_pb_apart _ _ (by decide) (by decide)
  · exact e.gb_pb_apart _ _ (by decide) (by decide)

theorem pcfgWritten_evt (hp : p < 8) : (pcfgWritten p v d).evt (pcsPg p) 2 = (d.pcfgTaken p v).evt (pcsPg p) 2 :=
  (pcfgWritten_hidden (g := fun e => e.evt (pcsPg p) 2) (fun h _ hc => candHidden_pcsEvt hp (by decide) h hc) hp).trans
    (pcfgMoved_keeps (queueBlind_evt _ _) (pcsEvt_gate hp (by decide)) (fun h _ hc => candHidden_pcsEvt hp (by decide) h hc) hp
      (fun _ _ _ => rfl) (fun e => e.evt_raise_ne (by omega)) fun _ _ => rfl)

theorem pcfgWritten_others (hp : p < 8) {q : Nat} (hq : q < 8) (hne : q ≠ p) : (pcfgWritten p v d).portUp q = d.portUp q := by
  have hb := inBlock_pcs hq (o := 0x108) (by decide)
  refine portUp_of_w ((pcfgWritten_w hp hb).trans ((pcfgMoved_w hp hb (pcs_apart hp hq hne (by decide) (by decide))).trans ?_))
  exact pcfgTaken_keeps (g := fun e => e.w (pcsPg q + 0x108)) _ _ _ (fun e o u ho => portUp_other hp hq hne e o u ho) fun e _ => e.w_raiseIf _ _ _ _

theorem pcfgWritten_refused (hp : p < 8) (hv : v < 2 ^ 32) :
    (pcfgWritten p v d).gb (pcsPg p) Reg.PCS.PSTAT_REFUSED = (pcfgWritten p v d).pcsRefuses p := by
  rw [pcfgWritten_refuses hp hv, ← pcfgTaken_refused, ← pcfgMoved_refused hp]
  exact gb_pcs_of_w (by decide) (fun _ ha => pcfgWritten_w hp ha) hp

theorem pcfgWritten_up (hp : p < 8) : (pcfgWritten p v d).portUp p = (d.pcfgMoved p v).portUp p :=
  portUp_of_w (pcfgWritten_w hp (inBlock_pcs hp (by decide)))

end

theorem pcsConfigWrite_holds (m : Master) (p : Fin 8) (v : Word) (s : State) (hw : s.writable m (pcsPg p.val + 0x100)) :
    let old := s.dev.w (pcsPg p.val + 0x100)
    let new := mergeWrite (pcsPg p.val + 0x100) old v.toNat
    ∃ t, exec (.pcsConfigWrite m p v) s = .next t ∧ t.dev.w (pcsPg p.val + 0x100) = new ∧
      t.dev.gb (pcsPg p.val) Reg.PCS.PSTAT_REFUSED = t.dev.pcsRefuses p.val ∧
      (t.dev.pcsRefuses p.val = true → t.dev.evt (pcsPg p.val) 2 = (s.dev.evt (pcsPg p.val) 2).occur) ∧
      (old &&& 0xF7 ≠ new &&& 0xF7 → t.dev.portUp p.val = false) ∧
      (old &&& 0xF7 = new &&& 0xF7 → t.dev.portUp p.val = s.dev.portUp p.val ∧
        (old ≠ new → t.dev.gb (pcsPg p.val) Reg.PCS.PSTAT_DLY_VALID = false)) ∧
      (∀ q < 8, q ≠ p.val → t.dev.portUp q = s.dev.portUp q) ∧ t.dev.tbs = s.dev.tbs ∧ s.keepsRest t := by
  have hu (q : Nat) : (s.dev.regAccess m (pcsPg p.val + 0x100)).portUp q = s.dev.portUp q := portUp_of_w (Dev.w_regAccess _ _ _ _)
  have he := Dev.evt_regAccess s.dev m (pcsPg p.val + 0x100) (pcsPg p.val) 2
  have ht := s.dev.regAccess_tbs m (pcsPg p.val + 0x100)
  have hold := Dev.w_regAccess s.dev m (pcsPg p.val + 0x100) (pcsPg p.val + 0x100)
  have hx : exec (.pcsConfigWrite m p v) s = _ := exec_of_writeAt (f := pcfgWritten p.val v.toNat) rfl hw
  generalize s.dev.regAccess m (pcsPg p.val + 0x100) = d at hu he ht hold hx
  intro old new
  have hnew : d.pcfgNew p.val v.toNat = new := congrArg (fun x => mergeWrite (pcsPg p.val + 0x100) x v.toNat) hold
  rw [show old = d.w (pcsPg p.val + 0x100) from hold.symm, ← hnew]
  refine ⟨_, hx, pcfgWritten_setting p.isLt v.isLt, pcfgWritten_refused p.isLt v.isLt, fun hr => ?_, fun hne => ?_, fun heq => ⟨?_, fun hne => ?_⟩,
    fun q hq hne => (pcfgWritten_others p.isLt hq hne).trans (hu q), (pcfgWritten_tbs p.isLt).trans ht, s.keepsRest_withDev _⟩
  · rw [State.withDev_dev, pcfgWritten_refuses p.isLt v.isLt] at hr
    rw [State.withDev_dev, pcfgWritten_evt p.isLt, pcfgTaken_evt _ _ _ p.isLt hr, he]
  · exact (pcfgWritten_up p.isLt).trans (pcfgMoved_down hne p.isLt)
  · exact (pcfgWritten_up p.isLt).trans ((pcfgMoved_up heq).trans (hu _))
  · exact (gb_pcs_of_w (by decide) (fun _ ha => pcfgWritten_w p.isLt ha) p.isLt).trans (pcfgMoved_delay p.isLt heq hne)

end Sys2Proof.Machine
end

section
/-! PROOF. O49: ESMC PDUs taken in, missed and sent (R282, R283). -/

namespace Sys2Proof.Machine

theorem qrOfSsm_lt (ssm e : Nat) : qrOfSsm ssm e < 16 := by
  unfold qrOfSsm
  split <;> decide

/-! ### A PDU taken in -/

section
variable (d : Dev) (p ssm : Nat) (essm : Option Nat)

/-- RX_QL of a port after a PDU. -/
def Dev.qlShown (d : Dev) (p ssm : Nat) (essm : Option Nat) : Dev :=
  ((((d.p (pcsPg p) Reg.PCS.RX_QL_SSM ssm).p (pcsPg p) Reg.PCS.RX_QL_ESSM (essm.getD 0xFF)).pb (pcsPg p) Reg.PCS.RX_QL_EXT essm.isSome).pb
    (pcsPg p) Reg.PCS.RX_QL_TIMEOUT false).p (pcsPg p) Reg.PCS.RX_QL_QR (qrOfSsm ssm (essm.getD 0xFF))

/-- A port that has taken a PDU in. -/
def Dev.qlCounted (d : Dev) (p at_ : Nat) (changed : Bool) : Dev :=
  ((d.setPort p { d.port p with esmcAt := at_ }).macInc p 11).raiseIf changed (pcsPg p) 3

/-- A PDU brings another quality than the one that a port shows. -/
def Dev.qlChanges (d : Dev) (p ssm : Nat) (essm : Option Nat) : Bool :=
  decide (d.g (pcsPg p) Reg.PCS.RX_QL_SSM ≠ ssm % 16) || decide (d.g (pcsPg p) Reg.PCS.RX_QL_ESSM ≠ essm.getD 0xFF % 256) ||
    d.gb (pcsPg p) Reg.PCS.RX_QL_EXT != essm.isSome || decide (d.g (pcsPg p) Reg.PCS.RX_QL_QR ≠ qrOfSsm ssm (essm.getD 0xFF))

/-- A half that has taken a PDU in. -/
def Dev.qlTaken (d : Dev) (p ssm : Nat) (essm : Option Nat) : Dev :=
  nativeQr (portHalf p) (14 + p) (qrOfSsm ssm (essm.getD 0xFF))
    ((d.qlShown p ssm essm).qlCounted p (d.count (portHalf p) 0) (d.qlChanges p ssm essm))

theorem esmcReceived_takes (hu : d.portUp p = true) (he : d.gb (pcsPg p) Reg.PCS.ESMC_RX_EN = true) :
    esmcReceived p ssm essm d = (d.qlTaken p ssm essm).toBridge (portHalf p) (.esmc p ssm essm) := by
  unfold esmcReceived
  rw [if_neg (by simp [hu, he])]
  unfold Dev.esmcTaken
  dsimp only
  rw [if_pos rfl]
  rfl

theorem esmcReceived_stays (h : d.portUp p = false ∨ d.gb (pcsPg p) Reg.PCS.ESMC_RX_EN = false) : esmcReceived p ssm essm d = d :=
  if_pos (by rcases h with h | h <;> simp [h])

theorem qlShown_ssm : (d.qlShown p ssm essm).g (pcsPg p) Reg.PCS.RX_QL_SSM = ssm % 16 := by
  unfold Dev.qlShown
  rw [Dev.g_p_apart _ _ _ (by decide) (by decide), Dev.g_pb_apart _ _ _ (by decide) (by decide),
    Dev.g_pb_apart _ _ _ (by decide) (by decide), Dev.g_p_apart _ _ _ (by decide) (by decide)]
  exact Dev.g_p_same _ _ _ _ (by decide)

theorem qlShown_essm : (d.qlShown p ssm essm).g (pcsPg p) Reg.PCS.RX_QL_ESSM = essm.getD 0xFF % 256 := by
  unfold Dev.qlShown
  rw [Dev.g_p_apart _ _ _ (by decide) (by decide), Dev.g_pb_apart _ _ _ (by decide) (by decide),
    Dev.g_pb_apart _ _ _ (by decide) (by decide)]
  exact Dev.g_p_same _ _ _ _ (by decide)

theorem qlShown_ext : (d.qlShown p ssm essm).gb (pcsPg p) Reg.PCS.RX_QL_EXT = essm.isSome := by
  unfold Dev.qlShown
  rw [Dev.gb_p_apart _ _ _ (by decide) (by decide), Dev.gb_pb_apart _ _ _ (by decide) (by decide),
    Dev.gb_pb_same _ _ _ _ (by decide) (by decide)]

theorem qlShown_timeout : (d.qlShown p ssm essm).gb (pcsPg p) Reg.PCS.RX_QL_TIMEOUT = false := by
  unfold Dev.qlShown
  rw [Dev.gb_p_apart _ _ _ (by decide) (by decide), Dev.gb_pb_same _ _ _ _ (by decide) (by decide)]

theorem qlShown_qr : (d.qlShown p ssm essm).g (pcsPg p) Reg.PCS.RX_QL_QR = qrOfSsm ssm (essm.getD 0xFF) := by
  unfold Dev.qlShown
  refine (Dev.g_p_same _ _ _ _ (by decide)).trans (Nat.mod_eq_of_lt ?_)
  exact qrOfSsm_lt _ _

theorem qlShown_keeps {α : Type} {g : Dev → α} (hw : ∀ (e : Dev) a v, g (e.setw a v) = g e) : g (d.qlShown p ssm essm) = g d := by
  unfold Dev.qlShown
  exact (hw _ _ _).trans ((hw _ _ _).trans ((hw _ _ _).trans ((hw _ _ _).trans (hw _ _ _))))

variable (at_ : Nat) (c : Bool)

theorem qlCounted_w (a : Nat) : (d.qlCounted p at_ c).w a = d.w a := Dev.w_raiseIf _ _ _ _ _

theorem raiseIf_ports (pg k : Nat) : (d.raiseIf c pg k).ports = d.ports := by
  cases c <;> rfl

theorem macInc_ports (j k : Nat) : (d.macInc p j k).ports = d.ports := rfl

theorem port_of_ports {e : Dev} (h : e.ports = d.ports) : e.port p = d.port p := congrArg (fun t => tget ({} : PortSt) t p) h

theorem qlCounted_port : (d.qlCounted p at_ c).port p = { d.port p with esmcAt := at_ } := by
  unfold Dev.qlCounted
  rw [port_of_ports _ p (raiseIf_ports _ _ _ _), port_of_ports _ p (macInc_ports _ _ _ _), port_setPort]

theorem qlCounted_planes : (d.qlCounted p at_ c).planes = d.planes := by
  unfold Dev.qlCounted
  rw [raiseIf_planes]
  rfl

theorem qlCounted_tbs : (d.qlCounted p at_ c).tbs = d.tbs := by
  unfold Dev.qlCounted
  rw [Dev.raiseIf_tbs]
  rfl

end

theorem toBridge_w (d : Dev) (h : Half) (i : BridgeItem) (a : Nat) : (d.toBridge h i).w a = d.w a := rfl

theorem toBridge_bridge (d : Dev) (h : Half) (i : BridgeItem) : ((d.toBridge h i).plane h).bridge = (d.plane h).bridge ++ [i] := by
  cases h <;> rfl

theorem toBridge_ports (d : Dev) (h : Half) (i : BridgeItem) : (d.toBridge h i).ports = d.ports := rfl

theorem toBridge_tbs (d : Dev) (h : Half) (i : BridgeItem) : (d.toBridge h i).tbs = d.tbs := rfl

theorem plane_of_planes {d e : Dev} (h : e.planes = d.planes) (g : Half) : e.plane g = d.plane g := congrArg (fun x => Pair.of x g) h

section
variable (d : Dev) {p : Nat} (hp : p < 8) (ssm : Nat) (essm : Option Nat)
include hp

theorem qlTaken_w {a : Nat} (ha : inBlock .pcs a) : (d.qlTaken p ssm essm).w a = (d.qlShown p ssm essm).w a :=
  (nativeQr_hidden (g := fun e => e.w a) (candHidden_pcs ha _ (by omega)) _ _).trans (qlCounted_w _ _ _ _ _)

theorem qlTaken_g {f : Fld} (hf : f.off < 0x1000) : (d.qlTaken p ssm essm).g (pcsPg p) f = (d.qlShown p ssm essm).g (pcsPg p) f :=
  Dev.g_of_w (o := f.off) (qlTaken_w d hp ssm essm (inBlock_pcs hp hf)) rfl

omit hp in
theorem qlTaken_port : ((d.qlTaken p ssm essm).port p).esmcAt = d.count (portHalf p) 0 := by
  unfold Dev.qlTaken
  rw [port_of_ports _ p (nativeQr_hidden (candHidden_ports _ _) _ _), qlCounted_port]

omit hp in
theorem qlTaken_planes : (d.qlTaken p ssm essm).planes = d.planes := by
  unfold Dev.qlTaken
  rw [nativeQr_hidden (candHidden_planes _ _), qlCounted_planes]
  exact qlShown_keeps (g := Dev.planes) _ _ _ _ fun _ _ _ => rfl

omit hp in
theorem qlTaken_tbs : (d.qlTaken p ssm essm).tbs = d.tbs := by
  unfold Dev.qlTaken
  rw [nativeQr_hidden (candHidden_tbs _ _), qlCounted_tbs]
  exact qlShown_keeps (g := Dev.tbs) _ _ _ _ fun _ _ _ => rfl

end

theorem esmcReceive_takes (p : Fin 8) (ssm : Nat) (essm : Option Nat) (s : State) (hu : s.dev.portUp p.val = true)
    (he : s.dev.gb (pcsPg p.val) Reg.PCS.ESMC_RX_EN = true) :
    ∃ t, exec (.esmcReceive p ssm essm) s = .next t ∧ t.dev.g (pcsPg p.val) Reg.PCS.RX_QL_SSM = ssm % 16 ∧
      t.dev.g (pcsPg p.val) Reg.PCS.RX_QL_ESSM = essm.getD 0xFF % 256 ∧
      t.dev.gb (pcsPg p.val) Reg.PCS.RX_QL_EXT = essm.isSome ∧ t.dev.gb (pcsPg p.val) Reg.PCS.RX_QL_TIMEOUT = false ∧
      t.dev.g (pcsPg p.val) Reg.PCS.RX_QL_QR = qrOfSsm ssm (essm.getD 0xFF) ∧
      (t.dev.port p.val).esmcAt = s.dev.count (portHalf p.val) 0 ∧
      (t.dev.plane (portHalf p.val)).bridge = (s.dev.plane (portHalf p.val)).bridge ++ [.esmc p.val ssm essm] ∧
      t.dev.tbs = s.dev.tbs ∧ s.keepsRest t := by
  have hg {f : Fld} (hf : f.off < 0x1000) : ((s.dev.qlTaken p.val ssm essm).toBridge (portHalf p.val) (.esmc p.val ssm essm)).g (pcsPg p.val) f =
      (s.dev.qlShown p.val ssm essm).g (pcsPg p.val) f := (Dev.g_of_w (o := f.off) (toBridge_w _ _ _ _) rfl).trans (qlTaken_g _ p.isLt _ _ hf)
  refine ⟨_, next_onDev (f := esmcReceived p.val ssm essm) (esmcReceived_takes _ _ _ _ hu he), (hg (by decide)).trans (qlShown_ssm _ _ _ _),
    (hg (by decide)).trans (qlShown_essm _ _ _ _), (Dev.gb_of_g (hg (by decide))).trans (qlShown_ext _ _ _ _),
    (Dev.gb_of_g (hg (by decide))).trans (qlShown_timeout _ _ _ _), (hg (by decide)).trans (qlShown_qr _ _ _ _), ?_, ?_,
    (toBridge_tbs _ _ _).trans (qlTaken_tbs _ _ _), s.keepsRest_withDev _⟩
  · rw [State.withDev_dev, port_of_ports _ _ (toBridge_ports _ _ _), qlTaken_port]
  · rw [State.withDev_dev, toBridge_bridge, plane_of_planes (qlTaken_planes _ _ _)]

/-! ### No PDU for 5 s -/

section
variable {d : Dev} {p : Nat}

/-- A port that shows and tells that no PDU came. -/
def Dev.qlLost (d : Dev) (p : Nat) : Dev :=
  (((d.pb (pcsPg p) Reg.PCS.RX_QL_TIMEOUT true).p (pcsPg p) Reg.PCS.RX_QL_QR 15).raise (pcsPg p) 4).raiseIf
    (d.g (pcsPg p) Reg.PCS.RX_QL_QR != 15) (pcsPg p) 3

theorem esmcTimedOut_lost (ht : (d.port p).esmcAt + 5 * secUnit ≤ d.count (portHalf p) 0)
    (h0 : d.gb (pcsPg p) Reg.PCS.RX_QL_TIMEOUT = false) :
    esmcTimedOut p d = nativeQr .weft (14 + p) 15 (nativeQr .warp (14 + p) 15 (d.qlLost p)) := by
  unfold esmcTimedOut Dev.esmcLost
  rw [if_pos ht]
  exact if_neg (by simp [h0])

theorem esmcTimedOut_stays (h : d.count (portHalf p) 0 < (d.port p).esmcAt + 5 * secUnit ∨ d.gb (pcsPg p) Reg.PCS.RX_QL_TIMEOUT = true) :
    esmcTimedOut p d = d := by
  unfold esmcTimedOut Dev.esmcLost
  by_cases ht : (d.port p).esmcAt + 5 * secUnit ≤ d.count (portHalf p) 0
  · rw [if_pos ht]
    exact if_pos (h.resolve_left (Nat.not_lt.2 ht))
  · exact if_neg ht

variable (d p)

theorem qlLost_timeout : (d.qlLost p).gb (pcsPg p) Reg.PCS.RX_QL_TIMEOUT = true := by
  unfold Dev.qlLost
  rw [Dev.gb_raiseIf, Dev.gb_raise, Dev.gb_p_apart _ _ _ (by decide) (by decide), Dev.gb_pb_same _ _ _ _ (by decide) (by decide)]

theorem qlLost_qr : (d.qlLost p).g (pcsPg p) Reg.PCS.RX_QL_QR = 15 := by
  unfold Dev.qlLost
  refine (Dev.g_of_w (o := Reg.PCS.RX_QL_QR.off) (Dev.w_raiseIf _ _ _ _ _) rfl).trans ?_
  rw [Dev.g_raise]
  exact Dev.g_p_same _ _ _ _ (by decide)

theorem qlLost_evt (hp : p < 8) : (d.qlLost p).evt (pcsPg p) 4 = (d.evt (pcsPg p) 4).occur := by
  unfold Dev.qlLost
  rw [evt_raiseIf_ne _ _ (by omega), Dev.evt_raise_own _ (pcsEvt_implemented p hp 4 (by decide)), Dev.evt_p_own, Dev.evt_pb]

theorem raise_ports (pg k : Nat) : (d.raise pg k).ports = d.ports := rfl

theorem p_ports (b : Nat) (f : Fld) (v : Nat) : (d.p b f v).ports = d.ports := rfl

theorem pb_ports (b : Nat) (f : Fld) (v : Bool) : (d.pb b f v).ports = d.ports := rfl

theorem qlLost_ports : (d.qlLost p).ports = d.ports := by
  unfold Dev.qlLost
  rw [raiseIf_ports, raise_ports, p_ports, pb_ports]

theorem qlLost_tbs : (d.qlLost p).tbs = d.tbs := by
  unfold Dev.qlLost
  rw [Dev.raiseIf_tbs, Dev.raise_tbs, Dev.p_tbs, Dev.pb_tbs]

end

theorem esmcTimeout_holds (p : Fin 8) (s : State) (ht : (s.dev.port p.val).esmcAt + 5 * secUnit ≤ s.dev.count (portHalf p.val) 0)
    (h0 : s.dev.gb (pcsPg p.val) Reg.PCS.RX_QL_TIMEOUT = false) :
    ∃ t, exec (.esmcTimeout p) s = .next t ∧ t.dev.gb (pcsPg p.val) Reg.PCS.RX_QL_TIMEOUT = true ∧
      t.dev.g (pcsPg p.val) Reg.PCS.RX_QL_QR = 15 ∧ t.dev.evt (pcsPg p.val) 4 = (s.dev.evt (pcsPg p.val) 4).occur ∧
      t.dev.ports = s.dev.ports ∧ t.dev.tbs = s.dev.tbs ∧ s.keepsRest t := by
  have hk {α : Type} {g : Dev → α} (hc : ∀ h c, c < 30 → CandHidden g h c) :
      g (nativeQr .weft (14 + p.val) 15 (nativeQr .warp (14 + p.val) 15 (s.dev.qlLost p.val))) = g (s.dev.qlLost p.val) :=
    (nativeQr_hidden (hc _ _ (by omega)) _ _).trans (nativeQr_hidden (hc _ _ (by omega)) _ _)
  have hg {f : Fld} (hf : f.off < 0x1000) : (nativeQr .weft (14 + p.val) 15 (nativeQr .warp (14 + p.val) 15 (s.dev.qlLost p.val))).g (pcsPg p.val) f =
      (s.dev.qlLost p.val).g (pcsPg p.val) f :=
    Dev.g_of_w (o := f.off) (hk (g := fun e => e.w (pcsPg p.val + f.off)) fun h _ hc => candHidden_pcs (inBlock_pcs p.isLt hf) h hc) rfl
  exact ⟨_, next_onDev (f := esmcTimedOut p.val) (esmcTimedOut_lost ht h0), (Dev.gb_of_g (hg (by decide))).trans (qlLost_timeout _ _),
    (hg (by decide)).trans (qlLost_qr _ _),
    (hk (g := fun e => e.evt (pcsPg p.val) 4) fun h _ hc => candHidden_pcsEvt p.isLt (by decide) h hc).trans (qlLost_evt _ _ p.isLt),
    (hk fun h c _ => candHidden_ports h c).trans (qlLost_ports _ _), (hk fun h c _ => candHidden_tbs h c).trans (qlLost_tbs _ _),
    s.keepsRest_withDev _⟩

/-! ### PDUs sent -/

section
variable {d : Dev} {p : Nat} (event : Bool)

/-- A port that has sent a PDU. -/
def Dev.pduSent (d : Dev) (p : Nat) (event : Bool) : Dev :=
  let e := ((d.p (pcsPg p) Reg.PCS.TX_QL_SENT_SSM (d.txQl p).1).macInc p 18).startFrame p (d.esmcPdu p event) false
  e.setPort p { e.port p with sentAt := some (d.count (portHalf p) 0), sentQl := some (d.txQl p) }

theorem esmcSend_sends (he : d.gb (pcsPg p) Reg.PCS.ESMC_TX_EN = true) (hu : d.portUp p = true) (hc : d.coresRun (portHalf p) = true)
    (hr : d.returning (portHalf p) = false) : d.esmcSend p event = d.pduSent p event := by
  unfold Dev.esmcSend
  dsimp only
  exact if_neg (by simp [he, hu, hc, hr])

theorem esmcSend_stays (h : d.gb (pcsPg p) Reg.PCS.ESMC_TX_EN = false ∨ d.portUp p = false ∨ d.coresRun (portHalf p) = false ∨
    d.returning (portHalf p) = true) : d.esmcSend p event = d := by
  unfold Dev.esmcSend
  dsimp only
  exact if_pos (by rcases h with h | h | h | h <;> simp [h])

variable (d p)

theorem startFrame_macc (bytes : List Byte) (bad : Bool) (cls : Option Nat) :
    (d.startFrame p bytes bad cls).macc = ((d.macInc p 12).macInc p 13 (bytes.length + 4)).macc := rfl

theorem startFrame_last (bytes : List Byte) (bad : Bool) (cls : Option Nat) : ((d.startFrame p bytes bad cls).port p).last.map (·.bytes) = some bytes := by
  unfold Dev.startFrame
  dsimp only
  rw [port_setPort]
  rfl

theorem startFrame_touches {u : Dev} {ws es : List Nat} (h : u.touchesBy u.backMacs d ws es) (bytes : List Byte) (bad : Bool) (cls : Option Nat) :
    u.touchesBy u.backMacs (d.startFrame p bytes bad cls) ws es := by
  unfold Dev.startFrame
  exact (Dev.touchesBy.perf (restores_macs u) (e := (d.macInc p 12).macInc p 13 (bytes.length + 4)) (h.hidden rfl) _ _ _ _ _).hidden rfl

theorem startFrame_g (bytes : List Byte) (bad : Bool) (cls : Option Nat) (b : Nat) (f : Fld) : (d.startFrame p bytes bad cls).g b f = d.g b f := rfl

theorem macInc_g (c k b : Nat) (f : Fld) : (d.macInc p c k).g b f = d.g b f := rfl

theorem p_macc (b : Nat) (f : Fld) (v : Nat) : (d.p b f v).macc = d.macc := rfl

theorem backMacs_setPort (u : Dev) (q : Nat) (w : PortSt) : u.backMacs (d.setPort q w) = u.backMacs d := rfl

theorem backMacs_macInc (u : Dev) (q c k : Nat) : u.backMacs (d.macInc q c k) = u.backMacs d := rfl

theorem pduSent_counts : tget 0 (d.pduSent p event).macc (p * 32 + 18) = tget 0 d.macc (p * 32 + 18) + 1 := by
  have h (e : Dev) (v : PortSt) : (e.setPort p v).macc = e.macc := rfl
  unfold Dev.pduSent
  dsimp only
  rw [h, startFrame_macc, macInc_other _ _ _ (by omega), macInc_other _ _ _ (by omega), macInc_own, p_macc]

theorem pduSent_ql : (d.pduSent p event).g (pcsPg p) Reg.PCS.TX_QL_SENT_SSM = (d.txQl p).1 % 16 := by
  unfold Dev.pduSent
  dsimp only
  rw [Dev.g_setPort, startFrame_g, macInc_g]
  exact Dev.g_p_same _ _ _ _ (by decide)

theorem pduSent_last : ((d.pduSent p event).port p).last.map (·.bytes) = some (d.esmcPdu p event) := by
  unfold Dev.pduSent
  dsimp only
  rw [port_setPort]
  exact startFrame_last _ _ _ _ _

theorem pduSent_sent : ((d.pduSent p event).port p).sentQl = some (d.txQl p) := by
  unfold Dev.pduSent
  dsimp only
  rw [port_setPort]

theorem pduSent_touches : d.touchesBy d.backMacs (d.pduSent p event) [pcsPg p + 0x128] [] := by
  have h0 : d.touchesBy d.backMacs d [pcsPg p + 0x128] [] := .of_touches (.refl d _ _)
  have h1 := Dev.touchesBy.p (restores_macs d) h0 (f := Reg.PCS.TX_QL_SENT_SSM) (List.mem_singleton_self _) (d.txQl p).1
  unfold Dev.pduSent
  exact (startFrame_touches _ p (h1.hidden (backMacs_macInc _ _ _ _ _)) _ _ _).hidden (backMacs_setPort _ _ _ _)

end

end Sys2Proof.Machine
end

section
/-! PROOF. O49: counter snapshots (R284), and links, delays, settings, ESMC and snapshots as one statement. -/

namespace Sys2Proof.Machine

/-! ### PDUs of a second and of a change -/

theorem esmcInfo_sends {d : Dev} {p : Nat} (he : d.gb (pcsPg p) Reg.PCS.ESMC_TX_EN = true) (hu : d.portUp p = true)
    (hc : d.coresRun (portHalf p) = true) (hr : d.returning (portHalf p) = false) (hn : (d.port p).infoSec ≠ some (d.sec (portHalf p) 0)) :
    esmcInfo p d = (d.pduSent p false).setPort p { (d.pduSent p false).port p with infoSec := some (d.sec (portHalf p) 0) } := by
  have hm : (d.pduSent p false).macc ≠ d.macc := fun h => by
    have := pduSent_counts d p false
    rw [h] at this
    omega
  unfold esmcInfo
  dsimp only
  rw [if_neg hn, esmcSend_sends false he hu hc hr, if_neg hm]

theorem esmcInfo_stays {d : Dev} {p : Nat} (h : (d.gb (pcsPg p) Reg.PCS.ESMC_TX_EN = false ∨ d.portUp p = false ∨ d.coresRun (portHalf p) = false ∨
    d.returning (portHalf p) = true) ∨ (d.port p).infoSec = some (d.sec (portHalf p) 0)) : esmcInfo p d = d := by
  unfold esmcInfo
  dsimp only
  rcases h with h | h
  · rw [esmcSend_stays false h, if_pos rfl, ite_self]
  · exact if_pos h

theorem esmcEvent_sends {d : Dev} {p : Nat} {q : Nat × Nat} (he : d.gb (pcsPg p) Reg.PCS.ESMC_TX_EN = true) (hu : d.portUp p = true)
    (hc : d.coresRun (portHalf p) = true) (hr : d.returning (portHalf p) = false) (hq : (d.port p).sentQl = some q) (hn : q ≠ d.txQl p) :
    esmcEvent p d = d.pduSent p true := by
  unfold esmcEvent
  rw [hq, if_pos (by simp [hn]), esmcSend_sends true he hu hc hr]

theorem esmcEvent_stays {d : Dev} {p : Nat} (h : (d.gb (pcsPg p) Reg.PCS.ESMC_TX_EN = false ∨ d.portUp p = false ∨ d.coresRun (portHalf p) = false ∨
    d.returning (portHalf p) = true) ∨ (d.port p).sentQl = none ∨ (d.port p).sentQl = some (d.txQl p)) : esmcEvent p d = d := by
  unfold esmcEvent
  rcases h with h | h | h
  · rw [esmcSend_stays true h, ite_self]
  · rw [h]
    rfl
  · rw [h]
    exact if_neg (by simp)

theorem onlyTouches_backMacs {s : State} {e : Dev} {ws es : List Nat} (h : s.dev.touchesBy s.dev.backMacs e ws es) :
    s.onlyTouches { s.withDev e with dev := { (s.withDev e).dev with ports := s.dev.ports, macc := s.dev.macc } } ws es := h.onlyTouches

theorem esmcTransmit_holds (p : Fin 8) (s : State) (he : s.dev.gb (pcsPg p.val) Reg.PCS.ESMC_TX_EN = true) (hu : s.dev.portUp p.val = true)
    (hc : s.dev.coresRun (portHalf p.val) = true) (hr : s.dev.returning (portHalf p.val) = false)
    (hn : (s.dev.port p.val).infoSec ≠ some (s.dev.sec (portHalf p.val) 0)) : ∃ t, exec (.esmcTransmit p) s = .next t ∧
      (t.dev.port p.val).infoSec = some (s.dev.sec (portHalf p.val) 0) ∧ t.dev.g (pcsPg p.val) Reg.PCS.TX_QL_SENT_SSM = (s.dev.txQl p.val).1 % 16 ∧
      (t.dev.port p.val).last.map (·.bytes) = some (s.dev.esmcPdu p.val false) ∧
      (t.dev.port p.val).sentQl = some (s.dev.txQl p.val) ∧
      s.onlyTouches { t with dev := { t.dev with ports := s.dev.ports, macc := s.dev.macc } } [pcsPg p.val + 0x128] [] := by
  refine ⟨_, next_onDev (f := esmcInfo p.val) (esmcInfo_sends he hu hc hr hn), ?_, (Dev.g_setPort _ _ _ _ _).trans (pduSent_ql _ _ _), ?_, ?_,
    onlyTouches_backMacs ((pduSent_touches s.dev p.val false).hidden (backMacs_setPort _ _ _ _))⟩
  · rw [State.withDev_dev, port_setPort]
  · rw [State.withDev_dev, port_setPort]
    exact pduSent_last s.dev p.val false
  · rw [State.withDev_dev, port_setPort]
    exact pduSent_sent s.dev p.val false

theorem esmcEventPdu_holds (p : Fin 8) (s : State) (he : s.dev.gb (pcsPg p.val) Reg.PCS.ESMC_TX_EN = true) (hu : s.dev.portUp p.val = true)
    (hc : s.dev.coresRun (portHalf p.val) = true) (hr : s.dev.returning (portHalf p.val) = false) (q : Nat × Nat)
    (hq : (s.dev.port p.val).sentQl = some q) (hn : q ≠ s.dev.txQl p.val) :
    ∃ t, exec (.esmcEventPdu p) s = .next t ∧ (t.dev.port p.val).last.map (·.bytes) = some (s.dev.esmcPdu p.val true) ∧
      (t.dev.port p.val).sentQl = some (s.dev.txQl p.val) ∧
      s.onlyTouches { t with dev := { t.dev with ports := s.dev.ports, macc := s.dev.macc } } [pcsPg p.val + 0x128] [] := by
  refine ⟨_, next_onDev (f := esmcEvent p.val) (esmcEvent_sends he hu hc hr hq hn), ?_, ?_, onlyTouches_backMacs (pduSent_touches s.dev p.val true)⟩
  · rw [State.withDev_dev, pduSent_last]
  · rw [State.withDev_dev, pduSent_sent]

/-! ### Counters copied -/

section
variable (d : Dev) (p : Nat)

/-- A port's live counters in its shadow. -/
def Dev.maccShown (d : Dev) (p : Nat) : Dev := d.each 24 fun k e =>
  (e.setw (macPg p + 0x200 + 8 * k) (tget 0 d.macc (p * 32 + k))).setw (macPg p + 0x204 + 8 * k) (tget 0 d.macc (p * 32 + k) / 2 ^ 32)

/-- A port that shows the instant of a snapshot and tells it. -/
def Dev.snapStamped (d : Dev) (p ns lo hi : Nat) : Dev :=
  ((((d.p (macPg p) Reg.MAC.SNAP_T_NSEC ns).p (macPg p) Reg.MAC.SNAP_T_SEC_LO lo).p (macPg p) Reg.MAC.SNAP_T_SEC_HI hi).inc (macPg p)
    Reg.MAC.SNAP_SEQ).raise (macPg p) 1

theorem snapTaken_eq : snapTaken p d = (d.maccShown p).snapStamped p (nsecOf (d.count (portHalf p) 0)) (secOf (d.count (portHalf p) 0))
    (secOf (d.count (portHalf p) 0) / 2 ^ 32) := rfl

theorem maccShown_w {k : Nat} (hk : k < 24) : (d.maccShown p).w (macPg p + 0x200 + 8 * k) = tget 0 d.macc (p * 32 + k) % 2 ^ 32 ∧
    (d.maccShown p).w (macPg p + 0x204 + 8 * k) = tget 0 d.macc (p * 32 + k) / 2 ^ 32 % 2 ^ 32 := by
  refine Dev.each_own (Q := fun _ => True) (R := fun e => e.w (macPg p + 0x200 + 8 * k) = tget 0 d.macc (p * 32 + k) % 2 ^ 32 ∧
    e.w (macPg p + 0x204 + 8 * k) = tget 0 d.macc (p * 32 + k) / 2 ^ 32 % 2 ^ 32) trivial (fun _ _ _ _ => trivial) (fun e _ => ⟨?_, ?_⟩) hk
    fun i _ hi e ⟨h1, h2⟩ => ⟨?_, ?_⟩
  · rw [Dev.w_setw, if_neg (by omega), Dev.w_setw, if_pos rfl]
  · rw [Dev.w_setw, if_pos rfl]
  · rw [Dev.w_setw, if_neg (by omega), Dev.w_setw, if_neg (by omega), h1]
  · rw [Dev.w_setw, if_neg (by omega), Dev.w_setw, if_neg (by omega), h2]

theorem maccShown_keeps {α : Type} {g : Dev → α} (hw : ∀ (e : Dev) a v, macPg p ≤ a → a < macPg p + 0x1000 → g (e.setw a v) = g e) :
    g (d.maccShown p) = g d :=
  Dev.each_keeps g 24 _ d fun _ _ e => (hw _ _ _ (by omega) (by omega)).trans (hw e _ _ (by omega) (by omega))

theorem snapStamped_keeps {α : Type} {g : Dev → α} (ns lo hi : Nat) (hw : ∀ (e : Dev) a v, macPg p + 0x148 ≤ a → a < macPg p + 0x158 →
    g (e.setw a v) = g e) (hr : ∀ e : Dev, g (e.raise (macPg p) 1) = g e) : g (d.snapStamped p ns lo hi) = g d := by
  have h {f : Fld} (e : Dev) (v : Nat) (h0 : 0x148 ≤ f.off) (h1 : f.off < 0x158) : g (e.p (macPg p) f v) = g e :=
    hw e _ _ (by omega) (by omega)
  unfold Dev.snapStamped
  exact (hr _).trans ((h _ _ (by decide) (by decide)).trans ((h _ _ (by decide) (by decide)).trans
    ((h _ _ (by decide) (by decide)).trans (h _ _ (by decide) (by decide)))))

theorem snapTaken_keeps {α : Type} {g : Dev → α} (hw : ∀ (e : Dev) a v, macPg p ≤ a → a < macPg p + 0x1000 → g (e.setw a v) = g e)
    (hr : ∀ e : Dev, g (e.raise (macPg p) 1) = g e) : g (snapTaken p d) = g d := by
  rw [snapTaken_eq]
  exact (snapStamped_keeps _ p _ _ _ (fun e a v h0 h1 => hw e a v (by omega) (by omega)) hr).trans (maccShown_keeps d p hw)

theorem snapTaken_w {k : Nat} (hk : k < 24) : (snapTaken p d).w (macPg p + 0x200 + 8 * k) = tget 0 d.macc (p * 32 + k) % 2 ^ 32 ∧
    (snapTaken p d).w (macPg p + 0x204 + 8 * k) = tget 0 d.macc (p * 32 + k) / 2 ^ 32 % 2 ^ 32 := by
  obtain ⟨h1, h2⟩ := maccShown_w d p hk
  rw [snapTaken_eq]
  have hs {a : Nat} (ha : macPg p + 0x200 ≤ a) (ns lo hi : Nat) : ((d.maccShown p).snapStamped p ns lo hi).w a = (d.maccShown p).w a :=
    snapStamped_keeps (g := fun e => e.w a) _ p ns lo hi (fun e b v _ hb => (e.w_setw _ _ _).trans (if_neg (by omega))) fun e => e.w_raise _ _ _
  exact ⟨(hs (by omega) _ _ _).trans h1, (hs (by omega) _ _ _).trans h2⟩

theorem snapTaken_nsec : (snapTaken p d).g (macPg p) Reg.MAC.SNAP_T_NSEC = nsecOf (d.count (portHalf p) 0) % 2 ^ 30 := by
  rw [snapTaken_eq]
  unfold Dev.snapStamped
  rw [Dev.g_raise]
  refine (Dev.g_p_apart _ _ _ (by decide) (by decide)).trans ?_
  rw [Dev.g_p_apart _ _ _ (by decide) (by decide), Dev.g_p_apart _ _ _ (by decide) (by decide)]
  exact Dev.g_p_same _ _ _ _ (by decide)

theorem macEvt_implemented : ∀ p < 8, evtImplemented (macPg p) 1 = true := by decide

theorem snapTaken_evt (hp : p < 8) : (snapTaken p d).evt (macPg p) 1 = (d.evt (macPg p) 1).occur := by
  rw [snapTaken_eq]
  unfold Dev.snapStamped
  rw [Dev.evt_raise_own _ (macEvt_implemented p hp), Dev.evt_inc, Dev.evt_p_own, Dev.evt_p_own, Dev.evt_p_own]
  exact congrArg EvtWord.occur (maccShown_keeps (g := fun e => e.evt (macPg p) 1) d p fun _ _ _ _ _ => rfl)

theorem snapTaken_macc : (snapTaken p d).macc = d.macc := snapTaken_keeps (g := Dev.macc) d p (fun _ _ _ _ _ => rfl) fun _ => rfl

theorem snapTaken_units {u : Dev} (h : u.sameUnits d) : u.sameUnits (snapTaken p d) := by
  rw [snapTaken_eq]
  unfold Dev.snapStamped Dev.maccShown
  refine Dev.sameUnits.raise (Dev.sameUnits.p (Dev.sameUnits.p (Dev.sameUnits.p (Dev.sameUnits.p ?_ _ _ _) _ _ _) _ _ _) _ _ _) _ _
  exact Dev.each_ind (P := fun e => u.sameUnits e) h fun _ _ e he => (he.setw _ _).setw _ _

end

theorem counterSnapshot_holds (m : Master) (p : Fin 8) (s : State) (hw : s.writable m (macPg p.val + 0x148)) :
    ∃ t, exec (.counterSnapshot m p) s = .next t ∧ t.dev.macc = s.dev.macc ∧
      (∀ k < 24, t.dev.w (macPg p.val + 0x200 + 8 * k) = tget 0 s.dev.macc (p.val * 32 + k) % 2 ^ 32 ∧
        t.dev.w (macPg p.val + 0x204 + 8 * k) = tget 0 s.dev.macc (p.val * 32 + k) / 2 ^ 32 % 2 ^ 32) ∧
      t.dev.g (macPg p.val) Reg.MAC.SNAP_T_NSEC = nsecOf (s.dev.count (portHalf p.val) 0) % 2 ^ 30 ∧
      t.dev.evt (macPg p.val) 1 = (s.dev.evt (macPg p.val) 1).occur ∧ s.dev.sameUnits t.dev ∧ s.keepsRest t := by
  have hu : s.dev.sameUnits (s.dev.regAccess m (macPg p.val + 0x148)) := Dev.sameUnits_of_regAccess ⟨rfl, fun _ => rfl⟩
  have hm : (s.dev.regAccess m (macPg p.val + 0x148)).macc = s.dev.macc := rfl
  have hc : (s.dev.regAccess m (macPg p.val + 0x148)).count (portHalf p.val) 0 = s.dev.count (portHalf p.val) 0 := rfl
  have he := Dev.evt_regAccess s.dev m (macPg p.val + 0x148) (macPg p.val) 1
  have hx : exec (.counterSnapshot m p) s = _ := exec_of_writeAt (f := snapWritten p.val 1) rfl hw
  generalize s.dev.regAccess m (macPg p.val + 0x148) = d at hu hm hc he hx
  have hs : snapWritten p.val 1 d = snapTaken p.val d := by
    unfold snapWritten
    simp [show bitAt 1 1 = false from by decide, show bitAt 1 0 = true from by decide]
  rw [hs] at hx
  refine ⟨_, hx, (snapTaken_macc _ _).trans hm, fun k hk => ?_, (snapTaken_nsec _ _).trans (by rw [hc]),
    (snapTaken_evt _ _ p.isLt).trans (by rw [he]), snapTaken_units _ _ hu, s.keepsRest_withDev _⟩
  rw [← hm]
  exact snapTaken_w _ _ hk

theorem macPg_apart : ∀ h : Half, ∀ i < 4, ∀ j < 4, i ≠ j → macPg (2 * i + h.num) + 0x1000 ≤ macPg (2 * j + h.num) ∨
    macPg (2 * j + h.num) + 0x1000 ≤ macPg (2 * i + h.num) := by
  intro h
  cases h <;> decide

theorem snapAll_eq (h : Half) (d : Dev) : snapWritten h.num 2 d = d.each 4 fun j e => snapTaken (2 * j + h.num) e := by
  cases h <;> rfl

/-- What the snapshots of a half's ports before and after one leave of it. -/
theorem snapAll_own {h : Half} {j : Nat} (hj : j < 4) (d : Dev) {R : Dev → Prop}
    (hown : ∀ e : Dev, e.macc = d.macc → e.evt (macPg (2 * j + h.num)) 1 = d.evt (macPg (2 * j + h.num)) 1 → R (snapTaken (2 * j + h.num) e))
    (hR : ∀ i < 4, i ≠ j → ∀ e, R e → R (snapTaken (2 * i + h.num) e)) : R (d.each 4 fun j e => snapTaken (2 * j + h.num) e) := by
  refine Dev.each_own (Q := fun e => e.macc = d.macc ∧ e.evt (macPg (2 * j + h.num)) 1 = d.evt (macPg (2 * j + h.num)) 1) ⟨rfl, rfl⟩
    (fun i hi e ⟨hm, he⟩ => ⟨(snapTaken_macc e _).trans hm, ?_⟩) (fun e ⟨hm, he⟩ => hown e hm he) hj fun i hi hji => hR i hi (by omega)
  refine (snapTaken_keeps (g := fun x => x.evt (macPg (2 * j + h.num)) 1) e _ (fun _ _ _ _ _ => rfl) fun x => x.evt_raise_ne ?_).trans he
  have := macPg_apart h i (by omega) j hj (by omega)
  omega

theorem counterSnapshotAll_holds (m : Master) (h : Half) (s : State) (hw : s.writable m (macPg h.num + 0x148)) :
    ∃ t, exec (.counterSnapshotAll m h) s = .next t ∧ t.dev.macc = s.dev.macc ∧
      (∀ j < 4, ∀ k < 24,
        t.dev.w (macPg (2 * j + h.num) + 0x200 + 8 * k) = tget 0 s.dev.macc ((2 * j + h.num) * 32 + k) % 2 ^ 32) ∧
      (∀ j < 4, t.dev.evt (macPg (2 * j + h.num)) 1 = (s.dev.evt (macPg (2 * j + h.num)) 1).occur) ∧
      s.dev.sameUnits t.dev ∧ s.keepsRest t := by
  have hu : s.dev.sameUnits (s.dev.regAccess m (macPg h.num + 0x148)) := Dev.sameUnits_of_regAccess ⟨rfl, fun _ => rfl⟩
  have hm : (s.dev.regAccess m (macPg h.num + 0x148)).macc = s.dev.macc := rfl
  have he (pg : Nat) := Dev.evt_regAccess s.dev m (macPg h.num + 0x148) pg 1
  have hx : exec (.counterSnapshotAll m h) s = _ := exec_of_writeAt (f := snapWritten h.num 2) rfl hw
  generalize s.dev.regAccess m (macPg h.num + 0x148) = d at hu hm he hx
  rw [snapAll_eq] at hx
  have hmacc : (d.each 4 fun j e => snapTaken (2 * j + h.num) e).macc = d.macc := Dev.each_keeps Dev.macc 4 _ d fun _ _ e => snapTaken_macc e _
  refine ⟨_, hx, hmacc.trans hm, fun j hj k hk => ?_, fun j hj => ?_,
    Dev.each_ind (P := fun e => s.dev.sameUnits e) hu fun _ _ e hu => snapTaken_units e _ hu, s.keepsRest_withDev _⟩
  · rw [← hm]
    refine snapAll_own hj d (R := fun e => e.w (macPg (2 * j + h.num) + 0x200 + 8 * k) = tget 0 d.macc ((2 * j + h.num) * 32 + k) % 2 ^ 32)
      (fun e hm _ => hm ▸ (snapTaken_w e _ hk).1) fun i hi hne e hR => ?_
    refine (snapTaken_keeps (g := fun x => x.w (macPg (2 * j + h.num) + 0x200 + 8 * k)) e _ (fun x a v h0 h1 => ?_) fun x => x.w_raise _ _ _).trans hR
    refine (x.w_setw _ _ _).trans (if_neg ?_)
    have := macPg_apart h i hi j hj hne
    omega
  · rw [← he]
    have hlt : 2 * j + h.num < 8 := by have := half_num_lt h; omega
    refine snapAll_own hj d (R := fun e => e.evt (macPg (2 * j + h.num)) 1 = (d.evt (macPg (2 * j + h.num)) 1).occur)
      (fun e _ he => (snapTaken_evt e _ hlt).trans (congrArg EvtWord.occur he)) fun i hi hne e hR => ?_
    refine (snapTaken_keeps (g := fun x => x.evt (macPg (2 * j + h.num)) 1) e _ (fun _ _ _ _ _ => rfl) fun x => x.evt_raise_ne ?_).trans hR
    have := macPg_apart h i hi j hj hne
    omega

/-! ### The statement -/

/-- Settles O49: what a port's link, setting or PDU changes shows in the words of its own page; the candidates that follow it, the
queues and the gates lie elsewhere. -/
theorem linksDelaysEsmcAndSnapshots : Obligations.LinksDelaysEsmcAndSnapshots := by
  unfold Obligations.LinksDelaysEsmcAndSnapshots
  refine ⟨linkUp_holds, fun p x held s h => linkShown_holds (f := linkUp p.val x held) p x s rfl (linkUp_shows h),
    fun p x s h => linkShown_holds (f := linkDown p.val x) p x s rfl (linkDown_good h), linkDown_holds,
    fun p align skews tx s h => next_onDev (f := delayMeasured p.val align skews tx) (delayMeasured_stays h), delayMeasureDone_holds,
    pcsConfigWrite_holds, esmcReceive_takes, fun p ssm essm s h => next_onDev (f := esmcReceived p.val ssm essm) (esmcReceived_stays _ _ _ _ h),
    fun p s h => next_onDev (f := esmcTimedOut p.val) (esmcTimedOut_stays h), esmcTimeout_holds, fun p s he hu hc hr => ⟨esmcTransmit_holds p s he hu hc hr, esmcEventPdu_holds p s he hu hc hr⟩,
    fun p s => ⟨fun h => next_onDev (f := esmcInfo p.val) (esmcInfo_stays h), fun h => next_onDev (f := esmcEvent p.val) (esmcEvent_stays h)⟩,
    counterSnapshot_holds, counterSnapshotAll_holds⟩

end Sys2Proof.Machine
end

section
/-! PROOF. O50: flow control, the forwarding table and the bridge (R280, R292, R301, R305). -/

namespace Sys2Proof.Machine

/-! ### Pauses -/

theorem pausesOf_put {u : Tab Nat} {c k v : Nat} : tget 0 (tset 0 u c v) k = if k = c then v else tget 0 u k :=
  Tab.get_set (fun _ => (0 : Nat)) u c k v

section
variable (d : Dev) (p c q : Nat)

/-- The end of a hold of some quanta that begins now. -/
def Dev.pauseUntil (d : Dev) (p q : Nat) : Nat := if q = 0 then 0 else d.tb0 (portHalf p) + d.octets p (64 * q)

theorem pauseClass_eq : d.pauseClass p c q = d.setPort p { d.port p with pauses := tset 0 (d.port p).pauses c (d.pauseUntil p q) } := rfl

theorem pauseClass_pauses (k : Nat) : tget 0 ((d.pauseClass p c q).port p).pauses k =
    if k = c then d.pauseUntil p q else tget 0 (d.port p).pauses k := by
  rw [pauseClass_eq, port_setPort]
  exact pausesOf_put

theorem pauseClass_until (j : Nat) : (d.pauseClass p c q).pauseUntil p j = d.pauseUntil p j := rfl

theorem pauseClass_back (u : Dev) : u.backMacs (d.pauseClass p c q) = u.backMacs d := rfl

theorem pauseClass_macc : (d.pauseClass p c q).macc = d.macc := rfl

theorem macInc_port (j : Nat) : (d.macInc p c).port j = d.port j := rfl

theorem macInc_until (j : Nat) : (d.macInc p c).pauseUntil p j = d.pauseUntil p j := rfl

end

theorem pauseReceived_down {d : Dev} {p : Nat} (f : FlowFrame) (hu : d.portUp p = false) : pauseReceived p f d = d := if_pos (by simp [hu])

/-- What a PAUSE frame holds. -/
theorem pauseReceived_pause {d : Dev} {p : Nat} (q : Nat) (hu : d.portUp p = true) : pauseReceived p (.pause q) d =
    if d.gb (macPg p) Reg.MAC.MCFG_IGN_PAUSE = true then d.macInc p 7 else (d.macInc p 7).pauseClass p 8 (q % 65536) :=
  if_neg (by simp [hu])

/-- What a PFC frame holds. -/
def Dev.pfcHeld (d : Dev) (p mask ign : Nat) (qs : List Nat) : Dev :=
  d.each 8 fun c e => if (bitAt mask c && !(bitAt ign c)) = true then e.pauseClass p c (qs[c]?.getD 0 % 65536) else e

theorem pauseReceived_pfc {d : Dev} {p : Nat} (mask : Nat) (qs : List Nat) (hu : d.portUp p = true) : pauseReceived p (.pfc mask qs) d =
    (d.macInc p 8).pfcHeld p mask (d.g (macPg p) Reg.MAC.MCFG_IGN_PFC) qs := if_neg (by simp [hu])

theorem pfcHeld_keeps {α : Type} {g : Dev → α} (d : Dev) (p mask ign : Nat) (qs : List Nat) (h : ∀ (e : Dev) c q, g (e.pauseClass p c q) = g e) :
    g (d.pfcHeld p mask ign qs) = g d := Dev.each_keeps g 8 _ d fun _ _ e => keeps_ite (g := g) (h e _ _) rfl

theorem pfcHeld_pauses (d : Dev) (p mask ign : Nat) (qs : List Nat) {c : Nat} (hc : c < 8) :
    tget 0 ((d.pfcHeld p mask ign qs).port p).pauses c = if (bitAt mask c && !(bitAt ign c)) = true then d.pauseUntil p (qs[c]?.getD 0 % 65536)
      else tget 0 (d.port p).pauses c := by
  refine Dev.each_own (Q := fun e => tget 0 (e.port p).pauses c = tget 0 (d.port p).pauses c ∧ ∀ q, e.pauseUntil p q = d.pauseUntil p q)
    (R := fun e => tget 0 (e.port p).pauses c = if (bitAt mask c && !(bitAt ign c)) = true then d.pauseUntil p (qs[c]?.getD 0 % 65536)
      else tget 0 (d.port p).pauses c) ⟨rfl, fun _ => rfl⟩ (fun i hi e ⟨h1, h2⟩ => ?_) (fun e ⟨h1, h2⟩ => ?_) hc fun i _ hi e h => ?_
  · split
    · exact ⟨by rw [pauseClass_pauses, if_neg (by omega), h1], fun q => (pauseClass_until _ _ _ _ _).trans (h2 q)⟩
    · exact ⟨h1, h2⟩
  · split
    · rw [pauseClass_pauses, if_pos rfl, h2]
    · exact h1
  · refine Eq.trans ?_ h
    split
    · rw [pauseClass_pauses, if_neg (by omega)]
    · rfl

theorem pauseReceive_pause (p : Fin 8) (q : Nat) (s : State) (hu : s.dev.portUp p.val = true) :
    ∃ t, exec (.pauseReceive p (.pause q)) s = .next t ∧
      tget 0 t.dev.macc (p.val * 32 + 7) = tget 0 s.dev.macc (p.val * 32 + 7) + 1 ∧
      tget 0 (t.dev.port p.val).pauses 8 = (if s.dev.gb (macPg p.val) Reg.MAC.MCFG_IGN_PAUSE then
          tget 0 (s.dev.port p.val).pauses 8
        else if q % 65536 = 0 then 0
        else s.dev.tb0 (portHalf p.val) + s.dev.octets p.val (64 * (q % 65536))) ∧
      s.onlyTouches { t with dev := { t.dev with ports := s.dev.ports, macc := s.dev.macc } } [] [] := by
  have ht : s.dev.touchesBy s.dev.backMacs (s.dev.macInc p.val 7) [] [] :=
    (Dev.touchesBy.of_touches (R := s.dev.backMacs) (.refl s.dev [] [])).hidden (backMacs_macInc _ _ _ _ _)
  have hx := pauseReceived_pause q hu
  cases hi : s.dev.gb (macPg p.val) Reg.MAC.MCFG_IGN_PAUSE with
  | true =>
    rw [hi, if_pos rfl] at hx
    exact ⟨_, next_onDev (f := pauseReceived p.val (.pause q)) hx, macInc_own _ _ _ _, rfl, onlyTouches_backMacs ht⟩
  | false =>
    rw [hi, if_neg (by decide)] at hx
    refine ⟨_, next_onDev (f := pauseReceived p.val (.pause q)) hx, ?_, ?_, onlyTouches_backMacs (ht.hidden (pauseClass_back _ _ _ _ _))⟩
    · rw [State.withDev_dev, pauseClass_macc, macInc_own]
    rw [State.withDev_dev, pauseClass_pauses, if_pos rfl, macInc_until]
    rfl

theorem pauseReceive_pfc (p : Fin 8) (mask : Nat) (qs : List Nat) (s : State) (hu : s.dev.portUp p.val = true) :
    ∃ t, exec (.pauseReceive p (.pfc mask qs)) s = .next t ∧
      tget 0 t.dev.macc (p.val * 32 + 8) = tget 0 s.dev.macc (p.val * 32 + 8) + 1 ∧
      (∀ c < 8, tget 0 (t.dev.port p.val).pauses c =
        if bitAt mask c && !(bitAt (s.dev.g (macPg p.val) Reg.MAC.MCFG_IGN_PFC) c) then
          (if qs[c]?.getD 0 % 65536 = 0 then 0
           else s.dev.tb0 (portHalf p.val) + s.dev.octets p.val (64 * (qs[c]?.getD 0 % 65536)))
        else tget 0 (s.dev.port p.val).pauses c) ∧
      s.onlyTouches { t with dev := { t.dev with ports := s.dev.ports, macc := s.dev.macc } } [] [] := by
  have ht : s.dev.touchesBy s.dev.backMacs (s.dev.macInc p.val 8) [] [] :=
    (Dev.touchesBy.of_touches (R := s.dev.backMacs) (.refl s.dev [] [])).hidden (backMacs_macInc _ _ _ _ _)
  refine ⟨_, next_onDev (f := pauseReceived p.val (.pfc mask qs)) (pauseReceived_pfc mask qs hu), ?_, fun c hc => ?_,
    onlyTouches_backMacs (ht.hidden (pfcHeld_keeps (g := s.dev.backMacs) _ _ _ _ _ fun e c q => pauseClass_back e p.val c q s.dev))⟩
  · exact (congrArg (fun t => tget 0 t (p.val * 32 + 8)) (pfcHeld_keeps (g := Dev.macc) _ _ _ _ _ fun _ _ _ => rfl)).trans (macInc_own _ _ _ _)
  · exact (pfcHeld_pauses _ _ _ _ _ hc).trans rfl

/-! ### Pauses that end and are repeated -/

theorem onlyTouches_backPorts {s : State} {e : Dev} {ws es : List Nat} (h : s.dev.touchesBy s.dev.backPorts e ws es) :
    s.onlyTouches { s.withDev e with dev := { (s.withDev e).dev with ports := s.dev.ports } } ws es := h.onlyTouches

theorem setPort_touches (d : Dev) (p : Nat) (v : PortSt) : d.touchesBy d.backPorts (d.setPort p v) [] [] :=
  (Dev.touchesBy.of_touches (R := d.backPorts) (.refl d [] [])).hidden (backPorts_setPort _ _ _ _)

theorem pauseExpire_holds (p : Fin 8) (c : Fin 9) (s : State) :
    ∃ t, exec (.pauseExpire p c) s = .next t ∧
      (tget 0 (s.dev.port p.val).pauses c.val ≤ s.dev.tb0 (portHalf p.val) → tget 0 (t.dev.port p.val).pauses c.val = 0) ∧
      (∀ k, k ≠ c.val → tget 0 (t.dev.port p.val).pauses k = tget 0 (s.dev.port p.val).pauses k) ∧
      (s.dev.tb0 (portHalf p.val) < tget 0 (s.dev.port p.val).pauses c.val → t = s) ∧
      s.onlyTouches { t with dev := { t.dev with ports := s.dev.ports } } [] [] := by
  by_cases h : tget 0 (s.dev.port p.val).pauses c.val ≤ s.dev.tb0 (portHalf p.val)
  · refine ⟨_, next_onDev (f := pauseExpired p.val c.val) (if_pos h), fun _ => ?_, fun k hk => ?_, fun hn => absurd h (Nat.not_le.2 hn),
      onlyTouches_backPorts (setPort_touches _ _ _)⟩
    · rw [State.withDev_dev, port_setPort]
      dsimp only
      exact pausesOf_put.trans (if_pos rfl)
    · rw [State.withDev_dev, port_setPort]
      dsimp only
      exact pausesOf_put.trans (if_neg hk)
  · exact ⟨s, next_onDev (f := pauseExpired p.val c.val) (if_neg h), fun hn => absurd hn h, fun _ _ => rfl, fun _ => rfl,
      onlyTouches_backPorts (e := s.dev) (Dev.touchesBy.of_touches (R := s.dev.backPorts) (.refl s.dev [] []))⟩

theorem pauseRepeated_stays {d : Dev} {p c : Nat} (h : tget 0 (d.port p).fcSent c = 0 ∨ d.ingCells p c ≤ d.xon p ∨
    d.tb0 (portHalf p) + 1 < tget 0 (d.port p).fcSent c + d.octets p (64 * 0xFFFF) / 2) : pauseRepeated p c d = d := by
  unfold pauseRepeated
  dsimp only
  refine if_neg ?_
  simp only [Bool.and_eq_true, decide_eq_true_eq]
  omega

theorem pauseRepeat_asks (p : Fin 8) (c : Fin 9) (s : State) (h0 : tget 0 (s.dev.port p.val).fcSent c.val ≠ 0)
    (hx : s.dev.xon p.val < s.dev.ingCells p.val c.val)
    (ht : tget 0 (s.dev.port p.val).fcSent c.val + s.dev.octets p.val (64 * 0xFFFF) / 2 ≤ s.dev.tb0 (portHalf p.val) + 1) :
    ∃ t, exec (.pauseRepeat p c) s = .next t ∧ (t.dev.port p.val).fcDue = (s.dev.port p.val).fcDue ++ [(c.val, 0xFFFF)] ∧
      tget 0 (t.dev.port p.val).fcSent c.val = s.dev.tb0 (portHalf p.val) + 1 ∧
      s.onlyTouches { t with dev := { t.dev with ports := s.dev.ports } } [] [] := by
  have he : pauseRepeated p.val c.val s.dev = s.dev.fcQueue p.val c.val 0xFFFF := by
    unfold pauseRepeated
    dsimp only
    refine if_pos ?_
    simp only [Bool.and_eq_true, decide_eq_true_eq]
    exact ⟨⟨h0, hx⟩, ht⟩
  refine ⟨_, next_onDev (f := pauseRepeated p.val c.val) he, ?_, ?_, onlyTouches_backPorts (setPort_touches _ _ _)⟩
  · rw [State.withDev_dev]
    unfold Dev.fcQueue
    rw [port_setPort]
  · rw [State.withDev_dev]
    unfold Dev.fcQueue
    rw [port_setPort]
    dsimp only
    exact pausesOf_put.trans (if_pos rfl)

/-! ### An entry committed -/

section
variable (d : Dev) (h : Half) (n v : Nat)

/-- The forwarding table and its staged words replaced. -/
def Dev.withFwd (d : Dev) (x : Tab Word) (y : Tab (Option Word)) : Dev := { d with fwd := x, fwdStage := y }

/-- The table with an entry committed. -/
def Dev.fwdTaken (d : Dev) (h : Half) (n v : Nat) : Tab Word :=
  tset 0 (tset 0 (tset 0 (tset 0 d.fwd (fwdKey h n 0) (BitVec.ofNat 32 (d.fwdStaged h n 0))) (fwdKey h n 1)
    (BitVec.ofNat 32 (d.fwdStaged h n 1))) (fwdKey h n 2) (BitVec.ofNat 32 (d.fwdStaged h n 2))) (fwdKey h n 3)
    (BitVec.ofNat 32 (v &&& 0x80000000))

theorem fwdWritten_eq : ∃ y, fwdWritten h n 3 v d = d.withFwd (d.fwdTaken h n v) y := ⟨_, rfl⟩

theorem fwdPut (u : Tab Word) (a b : Nat) (x : Word) : tget 0 (tset 0 u a x) b = if b = a then x else tget 0 u b :=
  Tab.get_set (fun _ => (0 : Word)) u a b x

theorem fwdKey_inj {i j : Nat} (hij : i ≠ j) : fwdKey h n i ≠ fwdKey h n j := by
  unfold fwdKey
  omega

theorem fwdStaged_lt (w : Nat) : d.fwdStaged h n w < 2 ^ 32 := by
  unfold Dev.fwdStaged Dev.fwdWord
  split
  · exact BitVec.isLt _
  · exact BitVec.isLt _

theorem fwdTaken_staged {w : Nat} (hw : w < 3) : (tget 0 (d.fwdTaken h n v) (fwdKey h n w)).toNat = d.fwdStaged h n w := by
  have hs : (BitVec.ofNat 32 (d.fwdStaged h n w)).toNat = d.fwdStaged h n w := by
    rw [BitVec.toNat_ofNat]
    exact Nat.mod_eq_of_lt (fwdStaged_lt d h n w)
  unfold Dev.fwdTaken
  rw [fwdPut, if_neg (fwdKey_inj h n (by omega)), fwdPut, fwdPut, fwdPut]
  interval_cases w
  · rw [if_neg (fwdKey_inj h n (by decide)), if_neg (fwdKey_inj h n (by decide)), if_pos rfl, hs]
  · rw [if_neg (fwdKey_inj h n (by decide)), if_pos rfl, hs]
  · rw [if_pos rfl, hs]

theorem fwdTaken_valid : (tget 0 (d.fwdTaken h n v) (fwdKey h n 3)).toNat = v &&& 0x80000000 := by
  unfold Dev.fwdTaken
  rw [fwdPut, if_pos rfl, BitVec.toNat_ofNat]
  exact Nat.mod_eq_of_lt (lt_of_le_of_lt Nat.and_le_right (by decide))

theorem fwdTaken_others {k : Nat} (hk : ∀ w < 4, k ≠ fwdKey h n w) : tget 0 (d.fwdTaken h n v) k = tget 0 d.fwd k := by
  unfold Dev.fwdTaken
  rw [fwdPut, if_neg (hk 3 (by decide)), fwdPut, if_neg (hk 2 (by decide)), fwdPut, if_neg (hk 1 (by decide)), fwdPut,
    if_neg (hk 0 (by decide))]

end

theorem onlyTouches_withFwd {s : State} {d : Dev} (h : s.dev.touches d [] []) (hf : d.fwd = s.dev.fwd) (hs : d.fwdStage = s.dev.fwdStage)
    (x : Tab Word) (y : Tab (Option Word)) : s.onlyTouches { s.withDev (d.withFwd x y) with
      dev := { (s.withDev (d.withFwd x y)).dev with fwd := s.dev.fwd, fwdStage := s.dev.fwdStage } } [] [] := by
  have he : ({ d.withFwd x y with fwd := s.dev.fwd, fwdStage := s.dev.fwdStage } : Dev) = d := by
    rw [← hf, ← hs]
    rfl
  have := Dev.touches.onlyTouches (s := s) h
  rw [← he] at this
  exact this

theorem fwdEntryCommit_holds (m : Master) (h : Half) (e : Fin 128) (v : Word) (s : State)
    (hw : s.writable m (swcPg h + 0x800 + 16 * e.val + 12)) :
    let n := 128 * s.dev.g (swcPg h) Reg.SWC.FWSEL + e.val
    ∃ t, exec (.fwdEntryCommit m h e v) s = .next t ∧ (∀ w < 3, t.dev.fwdWord h n w = s.dev.fwdStaged h n w) ∧
      t.dev.fwdWord h n 3 = v.toNat &&& 0x80000000 ∧
      (∀ k, (∀ w < 4, k ≠ fwdKey h n w) → tget 0 t.dev.fwd k = tget 0 s.dev.fwd k) ∧
      s.onlyTouches { t with dev := { t.dev with fwd := s.dev.fwd, fwdStage := s.dev.fwdStage } } [] [] := by
  intro n
  have ht := Dev.touches_regAccess s.dev m (swcPg h + 0x800 + 16 * e.val + 12) [] []
  have hg := Dev.g_congr (Dev.regAccess_regs s.dev m (swcPg h + 0x800 + 16 * e.val + 12)) (swcPg h) Reg.SWC.FWSEL
  have hf : (s.dev.regAccess m (swcPg h + 0x800 + 16 * e.val + 12)).fwd = s.dev.fwd := rfl
  have hs : (s.dev.regAccess m (swcPg h + 0x800 + 16 * e.val + 12)).fwdStage = s.dev.fwdStage := rfl
  have hx : exec (.fwdEntryCommit m h e v) s = _ := exec_of_writeAt
    (f := fun x => fwdWritten h (128 * x.g (swcPg h) Reg.SWC.FWSEL + e.val) 3 v.toNat x) rfl hw
  generalize s.dev.regAccess m (swcPg h + 0x800 + 16 * e.val + 12) = d at ht hg hf hs hx
  rw [show 128 * d.g (swcPg h) Reg.SWC.FWSEL + e.val = n from congrArg (128 * · + e.val) hg] at hx
  obtain ⟨y, hy⟩ := fwdWritten_eq d h n v.toNat
  rw [hy] at hx
  have hst (w : Nat) : d.fwdStaged h n w = s.dev.fwdStaged h n w := by
    unfold Dev.fwdStaged Dev.fwdWord
    rw [hf, hs]
  exact ⟨_, hx, fun w hw => (fwdTaken_staged d h n _ hw).trans (hst w), fwdTaken_valid _ _ _ _,
    fun k hk => (fwdTaken_others d h n _ hk).trans (by rw [hf]), onlyTouches_withFwd ht hf hs _ _⟩

/-! ### The bridge -/

section
variable {d : Dev} {h : Half} {i : BridgeItem} {rest : List BridgeItem} {credit : Bool}

/-- A plane whose oldest bridge item has left. -/
def Dev.bridgeTaken (d : Dev) (h : Half) (rest : List BridgeItem) : Dev := d.setPlane h { d.plane h with bridge := rest }

theorem bridgeTransferred_stays (hb : (d.plane h).bridge = []) : bridgeTransferred h credit d = d := by
  unfold bridgeTransferred
  simp only [hb]

theorem bridgeTransferred_lost (hb : (d.plane h).bridge = i :: rest) (hc : credit = false ∨ d.planeUp h = false ∨ d.planeUp h.other = false) :
    bridgeTransferred h credit d = (d.bridgeTaken h rest).inc (swcPg h) Reg.SWC.BRIDGE_DROP := by
  unfold bridgeTransferred Dev.bridgeTaken
  simp only [hb]
  exact if_neg (by rcases hc with hc | hc | hc <;> simp [hc])

theorem bridgeTransferred_crosses (hb : (d.plane h).bridge = i :: rest) (h0 : d.planeUp h = true) (h1 : d.planeUp h.other = true) :
    bridgeTransferred h true d = (d.bridgeTaken h rest).bridgeDeliver h.other i := by
  unfold bridgeTransferred Dev.bridgeTaken
  simp only [hb]
  exact if_pos (by simp [h0, h1])

theorem bridgeTaken_bridge : ((d.bridgeTaken h rest).plane h).bridge = rest := by
  cases h <;> rfl

theorem bridgeTaken_gateIn : ((d.bridgeTaken h rest).plane h.other).gateIn = (d.plane h.other).gateIn := by
  cases h <;> rfl

/-- A device with its planes replaced. -/
def Dev.withPlanes (d : Dev) (x : Pair Plane) : Dev := { d with planes := x }

theorem toGate_eq (g : GFrame) : ∃ x, d.toGate g = d.withPlanes x := ⟨_, rfl⟩

theorem toGate_gateIn (g : GFrame) : ((d.toGate g).plane (portHalf g.port)).gateIn = (d.plane (portHalf g.port)).gateIn ++ [g] := by
  unfold Dev.toGate Dev.plane
  dsimp only
  cases portHalf g.port <;> rfl

theorem toGate_bridge (g : GFrame) (hg : portHalf g.port = h.other) : ((d.toGate g).plane h).bridge = (d.plane h).bridge := by
  unfold Dev.toGate Dev.plane
  dsimp only
  rw [hg]
  cases h <;> rfl

theorem bridgeTaken_g (b : Nat) (f : Fld) : (d.bridgeTaken h rest).g b f = d.g b f := rfl

theorem bridgeTaken_back (u : Dev) : u.backPlanes (d.bridgeTaken h rest) = u.backPlanes d := rfl

theorem inc_plane (b : Nat) (f : Fld) (k : Nat) (e : Half) : (d.inc b f k).plane e = d.plane e := rfl

theorem withPlanes_self (x : Pair Plane) : ({ d.withPlanes x with planes := d.planes } : Dev) = d := rfl

/-- A gated frame that crosses stands in the other half's gate line. -/
theorem bridgeCrossed_gated (g : GFrame) (hg : portHalf g.port = h.other) : ∃ x,
    (d.bridgeTaken h rest).bridgeDeliver h.other (.gated g) = d.withPlanes x ∧ ((d.withPlanes x).plane h).bridge = rest ∧
      ((d.withPlanes x).plane h.other).gateIn = (d.plane h.other).gateIn ++ [{ g with gen := d.stepgen.of h.other }] := by
  obtain ⟨y, hy⟩ : ∃ y : GFrame, y = { g with gen := d.stepgen.of (portHalf g.port) } := ⟨_, rfl⟩
  have hp : portHalf y.port = h.other := by rw [hy, hg]
  have hb : (d.bridgeTaken h rest).bridgeDeliver h.other (.gated g) = (d.bridgeTaken h rest).toGate y := by
    rw [hy]
    rfl
  obtain ⟨x, hx⟩ : ∃ x, (d.bridgeTaken h rest).toGate y = d.withPlanes x := ⟨_, rfl⟩
  refine ⟨x, hb.trans hx, ?_, ?_⟩
  · rw [← hx, toGate_bridge y hp, bridgeTaken_bridge]
  · have := toGate_gateIn (d := d.bridgeTaken h rest) y
    rw [hx, hp, bridgeTaken_gateIn] at this
    rw [this, hy, hg]

theorem onlyTouches_backPlanes {s : State} {e : Dev} {ws es : List Nat} (h : s.dev.touchesBy s.dev.backPlanes e ws es) :
    s.onlyTouches { s.withDev e with dev := { (s.withDev e).dev with planes := s.dev.planes } } ws es := h.onlyTouches

end

theorem bridgeTransfer_holds (h : Half) (i : BridgeItem) (rest : List BridgeItem) (credit : Bool) (s : State)
    (hb : (s.dev.plane h).bridge = i :: rest) :
    (credit = false ∨ s.dev.planeUp h = false ∨ s.dev.planeUp h.other = false →
      ∃ t, exec (.bridgeTransfer h credit) s = .next t ∧ (t.dev.plane h).bridge = rest ∧
      t.dev.g (swcPg h) Reg.SWC.BRIDGE_DROP = (s.dev.g (swcPg h) Reg.SWC.BRIDGE_DROP + 1) % 2 ^ 32 ∧
      s.onlyTouches { t with dev := { t.dev with planes := s.dev.planes } } [swcPg h + Reg.SWC.BRIDGE_DROP.off] []) ∧
    (s.dev.planeUp h = true → s.dev.planeUp h.other = true →
      exec (.bridgeTransfer h true) s = .next (s.withDev
        ((s.dev.setPlane h { s.dev.plane h with bridge := rest }).bridgeDeliver h.other i))) ∧
    ∀ g, i = .gated g → portHalf g.port = h.other → s.dev.planeUp h = true → s.dev.planeUp h.other = true →
      ∃ t, exec (.bridgeTransfer h true) s = .next t ∧ (t.dev.plane h).bridge = rest ∧
        (t.dev.plane h.other).gateIn = (s.dev.plane h.other).gateIn ++ [{ g with gen := s.dev.stepgen.of h.other }] ∧
        { t.dev with planes := s.dev.planes } = s.dev ∧ s.keepsRest t := by
  have hx (h0 : s.dev.planeUp h = true) (h1 : s.dev.planeUp h.other = true) :=
    next_onDev (f := bridgeTransferred h true) (bridgeTransferred_crosses hb h0 h1)
  refine ⟨fun hc => ?_, hx, fun g hi hg h0 h1 => ?_⟩
  · have ht : s.dev.touchesBy s.dev.backPlanes (s.dev.bridgeTaken h rest) [swcPg h + Reg.SWC.BRIDGE_DROP.off] [] :=
      (Dev.touchesBy.of_touches (R := s.dev.backPlanes) (.refl s.dev _ [])).hidden (bridgeTaken_back _)
    refine ⟨_, next_onDev (f := bridgeTransferred h credit) (bridgeTransferred_lost hb hc), ?_, ?_,
      onlyTouches_backPlanes (Dev.touchesBy.inc (restores_planes _) ht (List.mem_singleton_self _) _)⟩
    · rw [State.withDev_dev, inc_plane, bridgeTaken_bridge]
    have hg := Dev.g_inc_same (s.dev.bridgeTaken h rest) (swcPg h) Reg.SWC.BRIDGE_DROP (by decide)
    rw [bridgeTaken_g] at hg
    exact hg
  · subst hi
    obtain ⟨x, he, hr, hgi⟩ := bridgeCrossed_gated (d := s.dev) (rest := rest) g hg
    exact ⟨_, (hx h0 h1).trans (congrArg (fun d => Host.Outcome.next (s.withDev d)) he), hr, hgi, withPlanes_self x, s.keepsRest_withDev _⟩

end Sys2Proof.Machine
end

section
/-! SUPPORT. Frames offered to a plane (R289 to R299): what shows neither in queues, planes and ports nor in the switches' words and
events. -/

namespace Sys2Proof.Machine

/-- An observation in which a frame on its way through a plane does not show. -/
structure FrameBlind {α : Type} (g : Dev → α) : Prop extends QueueBlind g where
  event : ∀ d pg k, 0x320000 ≤ pg → k < 32 → g (Dev.raise d pg k) = g d
  perf : ∀ d pg c a k r, g (Dev.perf d pg c a k r) = g d
  count : ∀ d p c k, c = 12 ∨ c = 13 ∨ c = 16 → g (Dev.macInc d p c k) = g d

theorem swcPg_low (h : Half) : 0x320000 ≤ swcPg h := by cases h <;> decide

section
variable {α : Type} {g : Dev → α} (hg : FrameBlind g) (d : Dev)
include hg

theorem FrameBlind.swt (h : Half) (o v : Nat) : g (d.setw (swtPg h + o) v) = g d :=
  hg.word _ _ _ (by have := swtPg_low h; omega)

theorem FrameBlind.queueWord (h : Half) (j c : Nat) (f : Fld) (v : Nat) : g (d.p (swtQ h j c) f v) = g d := hg.word _ _ _ (swtQ_low _ _ _ _)

theorem FrameBlind.planeWord (h : Half) (f : Fld) (v : Nat) : g (d.p (swcPg h) f v) = g d :=
  hg.word _ _ _ (by have := swcPg_low h; omega)

theorem FrameBlind.portWord (h : Half) (j : Nat) (f : Fld) (v : Nat) : g (d.p (swtK h j) f v) = g d :=
  hg.word _ _ _ (by have := swtPg_low h; unfold swtK; omega)

theorem FrameBlind.swtEvent (h : Half) {k : Nat} (hk : k < 32) : g (d.raise (swtPg h) k) = g d :=
  hg.event _ _ _ (by have := swtPg_low h; omega) hk

theorem FrameBlind.raiseIf (c : Bool) (h : Half) : g (d.raiseIf c (swcPg h) 1) = g d := by
  cases c
  · rfl
  · exact hg.event _ _ _ (swcPg_low h) (by decide)

theorem FrameBlind.startFrame (p : Nat) (bytes : List Byte) (bad : Bool) (cls : Option Nat) : g (d.startFrame p bytes bad cls) = g d := by
  unfold Dev.startFrame
  exact (hg.setPort _ _ _).trans ((hg.perf _ _ _ _ _ _).trans ((hg.count _ _ _ _ (by decide)).trans (hg.count _ _ _ _ (by decide))))

theorem FrameBlind.sendEnded (p : Nat) : g (d.sendEnded p) = g d := by
  unfold Dev.sendEnded
  split
  · rfl
  · refine keeps_ite (g := g) rfl ?_
    dsimp only
    split
    · exact keeps_ite (g := g) ((hg.refDone _ _ _ _ _).trans (hg.setPort _ _ _)) (hg.setPort _ _ _)
    · exact hg.setPort _ _ _

theorem FrameBlind.admission (h : Half) (inPort cls : Nat) (js : List Nat) (hj : ∀ j ∈ js, j < 5) : g (d.admission h inPort cls js).1 = g d := by
  unfold Dev.admission
  dsimp only
  refine (hg.raiseIf _ _ _).trans ((foldl_keeps_mem (g := g) _ (fun e j hm => ?_) _).trans (foldl_keeps (g := g) (fun e j => hg.portWord _ _ _ _ _) _ _))
  have hjs : j ∈ js := by
    split at hm
    · exact List.mem_of_mem_filter (List.mem_of_mem_filter hm)
    · exact List.mem_of_mem_filter hm
  exact (hg.swtEvent _ _ ((hj j hjs).trans (by decide))).trans (hg.queueWord _ _ _ _ _ _)

theorem FrameBlind.enqueue (h : Half) (f : SFrame) : g (d.enqueue h f) = g d := by
  unfold Dev.enqueue
  refine keeps_ite (g := g) rfl ?_
  dsimp only
  refine (hg.flowCheck _ _).trans ((foldl_keeps (g := g) (fun e j => ?_) _ _).trans ((hg.planeWord _ _ _ _).trans (hg.setPlane _ _ _)))
  exact (hg.queueWord _ _ _ _ _ _).trans ((hg.queueWord _ _ _ _ _ _).trans (hg.setPlane _ _ _))

theorem FrameBlind.offerFrame (h : Half) (f : SFrame) (js : List Nat) (hj : ∀ j ∈ js, j < 5) (err tc : Bool) :
    g (d.offerFrame h f js err tc) = g d := by
  unfold Dev.offerFrame
  dsimp only
  have hx (e : Dev) (j : Nat) (q : Nat) (a : PerfAttr) (b : Nat) :
      g ((((e.sendEnded q).startFrame q f.bytes err (some f.cls)).inc (swtQ h j f.cls) Reg.SWT.TXF).perf (swcPg h) 0x02 a 1 b) = g e :=
    (hg.perf _ _ _ _ _ _).trans ((hg.queueWord _ _ _ _ _ _).trans ((hg.startFrame _ _ _ _ _).trans (hg.sendEnded _ _)))
  have hct (l : List Nat) (e : Dev) : g (l.foldl (fun e j =>
      if err = true then (((((((e.sendEnded (portOf h j)).startFrame (portOf h j) f.bytes err (some f.cls)).inc (swtQ h j f.cls) Reg.SWT.TXF).perf
        (swcPg h) 0x02 { address := some j } 1 3).macInc (portOf h j) 16).inc (swtK h j) Reg.SWT.STOMPED).raise (swtPg h) 5)
      else (((e.sendEnded (portOf h j)).startFrame (portOf h j) f.bytes err (some f.cls)).inc (swtQ h j f.cls) Reg.SWT.TXF).perf
        (swcPg h) 0x02 { address := some j } 1 3) e) = g e :=
    foldl_keeps (g := g) (fun e j => keeps_ite (g := g) ((hg.swtEvent _ _ (by decide)).trans ((hg.portWord _ _ _ _ _).trans
      ((hg.count _ _ _ _ (by decide)).trans (hx e j _ _ _)))) (hx e j _ _ _)) l e
  refine keeps_ite (g := g) ?_ ((hg.enqueue _ _ _).trans ?_)
  · exact (hct _ _).trans (hg.admission d h _ _ js hj)
  · exact (hct _ _).trans (hg.admission d h _ _ js hj)

theorem FrameBlind.lookup (h : Half) (inPort : Nat) (e : EthHdr) : g (d.lookup h inPort e).1 = g d := by
  unfold Dev.lookup
  dsimp only
  exact keeps_ite (g := g) ((hg.planeWord _ _ _ _).trans (hg.perf _ _ _ _ _ _)) (hg.perf _ _ _ _ _ _)

end

theorem localPorts_lt (h : Half) (mask : Nat) (host : Bool) : ∀ j ∈ localPorts h mask host, j < 5 := by
  intro j hj
  unfold localPorts at hj
  rcases List.mem_append.1 hj with hj | hj
  · have := List.mem_range.1 (List.mem_of_mem_filter hj)
    omega
  · split at hj
    · rw [List.mem_singleton.1 hj]
      decide
    · cases hj

section
variable {α : Type} {g : Dev → α} (hg : FrameBlind g) (d : Dev)
include hg

theorem FrameBlind.forward (h : Half) (bytes : List Byte) (desc : Desc) (inPort flags mask cls : Nat) (err : Bool) :
    g (d.forward h bytes desc inPort flags mask cls err) = g d := by
  unfold Dev.forward
  refine keeps_ite (g := g) (hg.planeWord _ _ _ _) ?_
  dsimp only
  have ho (f : SFrame) := hg.offerFrame d h f (localPorts h mask true) (localPorts_lt _ _ _) err false
  exact keeps_ite (g := g) (ho _) ((hg.setPlane _ _ _).trans (ho _))

/-- A frame with an error is corrected by no transparent clock. -/
theorem FrameBlind.classify45 (h : Half) (bytes : List Byte) (desc : Desc) (inPort flags : Nat) :
    g (d.classify45 h bytes desc inPort flags true) = g d := by
  unfold Dev.classify45
  dsimp only
  rw [if_neg (by simp)]
  exact (hg.forward _ _ _ _ _ _ _ _ _).trans (hg.lookup _ _ _ _)

end

theorem frameBlind_tbs : FrameBlind Dev.tbs :=
  ⟨queueBlind_tbs, fun _ _ _ _ _ => rfl, fun _ _ _ _ _ _ => rfl, fun _ _ _ _ _ => rfl⟩

theorem frameBlind_resp : FrameBlind Dev.resp :=
  ⟨⟨fun _ _ _ _ => rfl, fun _ _ => rfl, fun _ _ => rfl⟩, fun _ _ _ _ _ => rfl, fun _ _ _ _ _ _ => rfl, fun _ _ _ _ _ => rfl⟩

theorem frameBlind_gates : FrameBlind Dev.gates :=
  ⟨⟨fun _ _ _ _ => rfl, fun _ _ => rfl, fun _ _ => rfl⟩, fun _ _ _ _ _ => rfl, fun _ _ _ _ _ _ => rfl, fun _ _ _ _ _ => rfl⟩

theorem frameBlind_evt {pg k : Nat} (h : pg + k < 0x320000) : FrameBlind (fun d => d.evt pg k) :=
  ⟨queueBlind_evt _ _, fun d _ _ hp _ => d.evt_raise_ne (by omega), fun _ _ _ _ _ _ => rfl, fun _ _ _ _ _ => rfl⟩

theorem frameBlind_count {i : Nat} (h : i % 32 ≠ 12 ∧ i % 32 ≠ 13 ∧ i % 32 ≠ 16) : FrameBlind (fun d : Dev => tget 0 d.macc i) :=
  ⟨⟨fun _ _ _ _ => rfl, fun _ _ => rfl, fun _ _ => rfl⟩, fun _ _ _ _ _ => rfl, fun _ _ _ _ _ _ => rfl,
    fun d p c k hc => macInc_other d p k (by omega)⟩

end Sys2Proof.Machine
end

section
/-! PROOF. O50: frames received, with an error and without (R278, R279, R289 to R295). -/

namespace Sys2Proof.Machine

/-! ### What a received frame counts -/

section
variable (d : Dev) (p : Nat)

/-- The counters of a frame's forward error correction. -/
def Dev.fecCounted (d : Dev) (p : Nat) (f : RxFrame) : Dev :=
  ((((d.macInc p 20 f.fecCor).macInc p 21 f.fecBad).macInc p 22 f.fecSym).perf (macPg p) 0x04 {} f.fecCor).perf (macPg p) 0x01

/-- The counters of a frame with an error. -/
def Dev.errCounted (d : Dev) (p flags : Nat) : Dev := d.each 5 fun k e => if bitAt flags k then e.macInc p (2 + k) else e

theorem rxCount_bad {flags : Nat} (f : RxFrame) (hf : flags ≠ 0) : d.rxCount p flags f =
    (((d.fecCounted p f).errCounted p flags).raise (macPg p) 0).perf (macPg p) 0x03 := if_neg hf

theorem rxCount_good (f : RxFrame) : d.rxCount p 0 f = ((d.fecCounted p f).macInc p 0).macInc p 1 (f.bytes.length + 4) := rfl

theorem fecCounted_keeps {α : Type} {g : Dev → α} (f : RxFrame) (hm : ∀ (e : Dev) c k, c = 20 ∨ c = 21 ∨ c = 22 → g (e.macInc p c k) = g e)
    (hp : ∀ (e : Dev) c a k, g (e.perf (macPg p) c a k) = g e) : g (d.fecCounted p f) = g d := by
  unfold Dev.fecCounted
  exact (hp _ _ _ _).trans ((hp _ _ _ _).trans ((hm _ _ _ (by decide)).trans ((hm _ _ _ (by decide)).trans (hm _ _ _ (by decide)))))

theorem fecCounted_count (f : RxFrame) {i : Nat} (hi : i < 20) : tget 0 (d.fecCounted p f).macc (p * 32 + i) = tget 0 d.macc (p * 32 + i) :=
  fecCounted_keeps (g := fun e : Dev => tget 0 e.macc (p * 32 + i)) d p f (fun e c k hc => macInc_other e p k (by omega)) fun _ _ _ _ => rfl

theorem errCounted_own (flags : Nat) {k : Nat} (hk : k < 5) : tget 0 (d.errCounted p flags).macc (p * 32 + 2 + k) =
    tget 0 d.macc (p * 32 + 2 + k) + (if bitAt flags k then 1 else 0) := by
  have hne {i : Nat} (hi : i ≠ k) (e : Dev) : tget 0 (if bitAt flags i = true then e.macInc p (2 + i) else e).macc (p * 32 + 2 + k) =
      tget 0 e.macc (p * 32 + 2 + k) := by
    split
    · exact macInc_other e p 1 (by omega)
    · rfl
  refine Dev.each_own (Q := fun e : Dev => tget 0 e.macc (p * 32 + 2 + k) = tget 0 d.macc (p * 32 + 2 + k))
    (R := fun e : Dev => tget 0 e.macc (p * 32 + 2 + k) = tget 0 d.macc (p * 32 + 2 + k) + (if bitAt flags k then 1 else 0)) rfl
    (fun i hi e h => (hne (by omega) e).trans h) (fun e h => ?_) hk fun i _ hi e h => (hne (by omega) e).trans h
  split
  · rw [Nat.add_assoc, macInc_own, ← Nat.add_assoc, h]
  · exact h

theorem errCounted_keeps {α : Type} {g : Dev → α} (flags : Nat) (hm : ∀ (e : Dev) c, 2 ≤ c → c < 7 → g (e.macInc p c) = g e) :
    g (d.errCounted p flags) = g d := Dev.each_keeps g 5 _ d fun _ _ e => keeps_ite (g := g) (hm e _ (by omega) (by omega)) rfl

theorem ingCount_keeps {α : Type} {g : Dev → α} (hw : ∀ (e : Dev) f v, f.off < 0x40 → g (e.p (lgtG p) f v) = g e) (x : Desc) :
    g (d.ingCount p x) = g d := by
  unfold Dev.ingCount
  exact (keeps_ite (g := g) (hw _ _ _ (by decide)) rfl).trans
    (keeps_ite (g := g) rfl (keeps_ite (g := g) (hw _ _ _ (by decide)) (hw _ _ _ (by decide))))

/-- A received frame, counted. -/
def Dev.received (d : Dev) (p : Nat) (f : RxFrame) : Dev := (d.rxCount p (d.rxFlags p f) f).ingCount p (d.rxDesc p f)

theorem frameReceived_eq (hp : p < 8) (hu : d.portUp p = true) (f : RxFrame) : frameReceived p f d =
    if d.rxFlags p f = 0 then (d.received p f).classified p (d.rxDesc p f) f.bytes
    else (d.received p f).flagged p (d.rxFlags p f) (d.rxDesc p f) f.bytes := by
  unfold frameReceived
  exact if_neg (by simp [hu]; omega)

theorem frameReceived_down (hu : d.portUp p = false) (f : RxFrame) : frameReceived p f d = d := if_pos (by simp [hu])

/-- What a received frame's counting leaves: all but its counters, its event and the gates' ingress counts. -/
theorem received_keeps {α : Type} {g : Dev → α} (f : RxFrame) (hm : ∀ (e : Dev) c k, g (e.macInc p c k) = g e)
    (hp : ∀ (e : Dev) c a k, g (e.perf (macPg p) c a k) = g e) (hr : ∀ e : Dev, g (e.raise (macPg p) 0) = g e)
    (hw : ∀ (e : Dev) f v, f.off < 0x40 → g (e.p (lgtG p) f v) = g e) : g (d.received p f) = g d := by
  unfold Dev.received
  refine (ingCount_keeps _ p hw _).trans ?_
  by_cases h0 : d.rxFlags p f = 0
  · rw [h0, rxCount_good]
    exact (hm _ _ _).trans ((hm _ _ _).trans (fecCounted_keeps d p f (fun e c k _ => hm e c k) hp))
  · rw [rxCount_bad _ _ _ h0]
    exact (hp _ _ _ _).trans ((hr _).trans ((errCounted_keeps _ p _ fun e c _ _ => hm e c 1).trans
      (fecCounted_keeps d p f (fun e c k _ => hm e c k) hp)))

theorem received_w (hp : p < 8) (f : RxFrame) {a : Nat} (ha : ¬ inBlock .lgt a) : (d.received p f).w a = d.w a :=
  received_keeps (g := fun e => e.w a) d p f (fun _ _ _ => rfl) (fun _ _ _ _ => rfl) (fun e => e.w_raise _ _ _)
    fun e _ _ ho => e.w_p_ne _ _ _ _ fun he => ha (he ▸ inBlock_lgtG hp (ho.trans (by decide)))

theorem received_count (f : RxFrame) (h0 : d.rxFlags p f ≠ 0) {i : Nat} (hi : i < 20) (hne : i < 2 ∨ 7 ≤ i) :
    tget 0 (d.received p f).macc (p * 32 + i) = tget 0 d.macc (p * 32 + i) := by
  unfold Dev.received
  rw [rxCount_bad _ _ _ h0]
  refine (ingCount_keeps (g := fun e : Dev => tget 0 e.macc (p * 32 + i)) _ p (fun _ _ _ _ => rfl) _).trans ?_
  refine (errCounted_keeps (g := fun e : Dev => tget 0 e.macc (p * 32 + i)) _ p _ fun e c h2 h7 => macInc_other e p 1 (by omega)).trans ?_
  exact fecCounted_count d p f hi

theorem received_errors (f : RxFrame) (h0 : d.rxFlags p f ≠ 0) {k : Nat} (hk : k < 5) : tget 0 (d.received p f).macc (p * 32 + 2 + k) =
    tget 0 d.macc (p * 32 + 2 + k) + (if bitAt (d.rxFlags p f) k then 1 else 0) := by
  unfold Dev.received
  rw [rxCount_bad _ _ _ h0]
  refine (ingCount_keeps (g := fun e : Dev => tget 0 e.macc (p * 32 + 2 + k)) _ p (fun _ _ _ _ => rfl) _).trans ?_
  refine (errCounted_own _ p _ hk).trans (congrArg (· + _) ?_)
  rw [Nat.add_assoc]
  exact fecCounted_count d p f (by omega)

theorem macPg_low {p : Nat} (hp : p < 8) {o : Nat} (ho : o < 0x1000) : macPg p + o < 0x320000 := by
  have h := inBlock_pageAddr .mac (portHalf p) (i := p / 2) (o := o) (by omega)
  have hc : Page.mac.code = 0x30 := rfl
  unfold inBlock at h
  unfold macPg
  omega

theorem macEvt0_implemented : ∀ p < 8, evtImplemented (macPg p) 0 = true := by decide

theorem received_evt (hp : p < 8) (f : RxFrame) (h0 : d.rxFlags p f ≠ 0) : (d.received p f).evt (macPg p) 0 = (d.evt (macPg p) 0).occur := by
  unfold Dev.received
  rw [rxCount_bad _ _ _ h0]
  refine (ingCount_keeps (g := fun e => e.evt (macPg p) 0) _ p (fun _ _ _ _ => rfl) _).trans ?_
  rw [Dev.evt_perf, Dev.evt_raise_own _ (macEvt0_implemented p hp)]
  exact congrArg EvtWord.occur ((errCounted_keeps (g := fun e => e.evt (macPg p) 0) _ p _ fun _ _ _ _ => rfl).trans
    (fecCounted_keeps (g := fun e => e.evt (macPg p) 0) d p f (fun _ _ _ _ => rfl) fun _ _ _ _ => rfl))

end

/-! ### A frame with an error -/

section
variable (d : Dev) {p : Nat} (flags : Nat) (x : Desc) (bytes : List Byte)

/-- A flagged frame as far as a destination had cut it through. -/
def Dev.errForwarded (d : Dev) (p flags : Nat) (x : Desc) (bytes : List Byte) : Dev :=
  if (decide (64 ≤ bytes.length + 4) && (flowOf bytes).isNone && (d.matchEntry (portHalf p) p (msgOf bytes)).isNone) = true then
    d.classify45 (portHalf p) bytes x p flags true
  else d

theorem errForwarded_keeps {α : Type} {g : Dev → α} (hg : FrameBlind g) : g (d.errForwarded p flags x bytes) = g d := by
  unfold Dev.errForwarded
  exact keeps_ite (g := g) (hg.classify45 _ _ _ _ _ _) rfl

theorem flagged_discards (he : d.gb (macPg p) Reg.MAC.MCFG_ERR_DELIVER = false) :
    d.flagged p flags x bytes = (d.errForwarded p flags x bytes).macInc p 9 := if_neg (by simp [he])

theorem flagged_delivers (he : d.gb (macPg p) Reg.MAC.MCFG_ERR_DELIVER = true) : ∃ f, d.flagged p flags x bytes =
    ((d.errForwarded p flags x bytes).macInc p 10).offerFrame (portHalf p) f [4] false true := ⟨_, if_pos he⟩

theorem flagged_keeps {α : Type} {g : Dev → α} (hg : FrameBlind g) (hm : ∀ (e : Dev) c, c = 9 ∨ c = 10 → g (e.macInc p c) = g e) :
    g (d.flagged p flags x bytes) = g d := by
  cases he : d.gb (macPg p) Reg.MAC.MCFG_ERR_DELIVER with
  | false =>
    rw [flagged_discards _ _ _ _ he]
    exact (hm _ _ (.inl rfl)).trans (errForwarded_keeps _ _ _ _ hg)
  | true =>
    obtain ⟨f, hf⟩ := flagged_delivers d flags x bytes he
    rw [hf]
    exact (hg.offerFrame _ _ _ _ (by decide) _ _).trans ((hm _ _ (.inr rfl)).trans (errForwarded_keeps _ _ _ _ hg))

theorem flagged_counts (he : d.gb (macPg p) Reg.MAC.MCFG_ERR_DELIVER = true) :
    tget 0 (d.flagged p flags x bytes).macc (p * 32 + 10) = tget 0 d.macc (p * 32 + 10) + 1 := by
  have hg : FrameBlind (fun d : Dev => tget 0 d.macc (p * 32 + 10)) := frameBlind_count (by omega)
  obtain ⟨f, hf⟩ := flagged_delivers d flags x bytes he
  rw [hf]
  refine (hg.offerFrame _ _ _ _ (by decide) _ _).trans ((macInc_own _ _ _ _).trans (congrArg (· + 1) (errForwarded_keeps _ _ _ _ hg)))

theorem flagged_drops (he : d.gb (macPg p) Reg.MAC.MCFG_ERR_DELIVER = false) :
    tget 0 (d.flagged p flags x bytes).macc (p * 32 + 9) = tget 0 d.macc (p * 32 + 9) + 1 := by
  have hg : FrameBlind (fun d : Dev => tget 0 d.macc (p * 32 + 9)) := frameBlind_count (by omega)
  rw [flagged_discards _ _ _ _ he]
  exact (macInc_own _ _ _ _).trans (congrArg (· + 1) (errForwarded_keeps _ _ _ _ hg))

end

section
variable (p : Fin 8) (f : RxFrame) (s : State) (hu : s.dev.portUp p.val = true) (h0 : s.dev.rxFlags p.val f ≠ 0)
include hu h0

theorem frameReceive_flagged : exec (.frameReceive p f) s = .next (s.withDev
    ((s.dev.received p.val f).flagged p.val (s.dev.rxFlags p.val f) (s.dev.rxDesc p.val f) f.bytes)) :=
  next_onDev (f := frameReceived p.val f) ((frameReceived_eq s.dev p.val p.isLt hu f).trans (if_neg h0))

omit hu h0 in
theorem received_deliver : (s.dev.received p.val f).gb (macPg p.val) Reg.MAC.MCFG_ERR_DELIVER = s.dev.gb (macPg p.val) Reg.MAC.MCFG_ERR_DELIVER := by
  refine Dev.gb_of_w (o := Reg.MAC.MCFG_ERR_DELIVER.off) (received_w _ _ p.isLt _ ?_) rfl
  exact (inBlock_pageAddr .mac (portHalf p.val) (i := p.val / 2) (o := Reg.MAC.MCFG_ERR_DELIVER.off)
    (by have : Reg.MAC.MCFG_ERR_DELIVER.off < 0x1000 := by decide
        omega)).not

omit hu in
/-- What every frame with an error counts and leaves. -/
theorem flagged_holds (x : Desc) (flags : Nat) (hx : flags = s.dev.rxFlags p.val f) :
    (∀ k < 5, tget 0 ((s.dev.received p.val f).flagged p.val flags x f.bytes).macc (p.val * 32 + 2 + k) =
        tget 0 s.dev.macc (p.val * 32 + 2 + k) + (if bitAt flags k then 1 else 0)) ∧
      ((s.dev.received p.val f).flagged p.val flags x f.bytes).evt (macPg p.val) 0 = (s.dev.evt (macPg p.val) 0).occur ∧
      ((s.dev.received p.val f).flagged p.val flags x f.bytes).resp = s.dev.resp ∧
      ((s.dev.received p.val f).flagged p.val flags x f.bytes).tbs = s.dev.tbs := by
  refine ⟨fun k hk => ?_, ?_, ?_, ?_⟩
  · refine (flagged_keeps _ _ _ _ (frameBlind_count (by omega)) fun e c hc => macInc_other e p.val 1 (by omega)).trans ?_
    rw [hx]
    exact received_errors _ _ _ h0 hk
  · exact (flagged_keeps _ _ _ _ (frameBlind_evt (macPg_low p.isLt (by decide))) fun _ _ _ => rfl).trans (received_evt _ _ p.isLt _ h0)
  · exact (flagged_keeps _ _ _ _ frameBlind_resp fun _ _ _ => rfl).trans
      (received_keeps (g := Dev.resp) _ _ _ (fun _ _ _ => rfl) (fun _ _ _ _ => rfl) (fun _ => rfl) fun _ _ _ _ => rfl)
  · exact (flagged_keeps _ _ _ _ frameBlind_tbs fun _ _ _ => rfl).trans
      (received_keeps (g := Dev.tbs) _ _ _ (fun _ _ _ => rfl) (fun _ _ _ _ => rfl) (fun _ => rfl) fun _ _ _ _ => rfl)

end

theorem frameReceive_errors (p : Fin 8) (f : RxFrame) (s : State) (hu : s.dev.portUp p.val = true) (h0 : s.dev.rxFlags p.val f ≠ 0) :
    ∃ t, exec (.frameReceive p f) s = .next t ∧
      (∀ k < 5, tget 0 t.dev.macc (p.val * 32 + 2 + k) =
        tget 0 s.dev.macc (p.val * 32 + 2 + k) + (if bitAt (s.dev.rxFlags p.val f) k then 1 else 0)) ∧
      (s.dev.gb (macPg p.val) Reg.MAC.MCFG_ERR_DELIVER = true →
        tget 0 t.dev.macc (p.val * 32 + 10) = tget 0 s.dev.macc (p.val * 32 + 10) + 1) ∧
      (s.dev.gb (macPg p.val) Reg.MAC.MCFG_ERR_DELIVER = false →
        tget 0 t.dev.macc (p.val * 32 + 9) = tget 0 s.dev.macc (p.val * 32 + 9) + 1) ∧
      t.dev.evt (macPg p.val) 0 = (s.dev.evt (macPg p.val) 0).occur ∧ t.dev.resp = s.dev.resp ∧ t.dev.tbs = s.dev.tbs ∧
      s.keepsRest t := by
  obtain ⟨herr, hevt, hresp, htbs⟩ := flagged_holds p f s h0 (s.dev.rxDesc p.val f) _ rfl
  refine ⟨_, frameReceive_flagged p f s hu h0, herr, fun he => ?_, fun he => ?_, hevt, hresp, htbs, s.keepsRest_withDev _⟩
  · exact (flagged_counts _ _ _ _ ((received_deliver p f s).trans he)).trans (congrArg (· + 1) (received_count _ _ _ h0 (by decide) (by decide)))
  · exact (flagged_drops _ _ _ _ ((received_deliver p f s).trans he)).trans (congrArg (· + 1) (received_count _ _ _ h0 (by decide) (by decide)))

theorem frameReceive_short (p : Fin 8) (f : RxFrame) (s : State) (hu : s.dev.portUp p.val = true) (h0 : s.dev.rxFlags p.val f ≠ 0)
    (hl : f.bytes.length + 4 < 64) (he : s.dev.gb (macPg p.val) Reg.MAC.MCFG_ERR_DELIVER = false) :
    ∃ t, exec (.frameReceive p f) s = .next t ∧
      (∀ k < 5, tget 0 t.dev.macc (p.val * 32 + 2 + k) =
        tget 0 s.dev.macc (p.val * 32 + 2 + k) + (if bitAt (s.dev.rxFlags p.val f) k then 1 else 0)) ∧
      tget 0 t.dev.macc (p.val * 32 + 9) = tget 0 s.dev.macc (p.val * 32 + 9) + 1 ∧
      t.dev.evt (macPg p.val) 0 = (s.dev.evt (macPg p.val) 0).occur ∧ t.dev.planes = s.dev.planes ∧
      t.dev.resp = s.dev.resp ∧ t.dev.ports = s.dev.ports ∧ t.dev.tbs = s.dev.tbs ∧ s.keepsRest t := by
  obtain ⟨herr, hevt, hresp, htbs⟩ := flagged_holds p f s h0 (s.dev.rxDesc p.val f) _ rfl
  have hx : (s.dev.received p.val f).flagged p.val (s.dev.rxFlags p.val f) (s.dev.rxDesc p.val f) f.bytes = (s.dev.received p.val f).macInc p.val 9 := by
    rw [flagged_discards _ _ _ _ ((received_deliver p f s).trans he)]
    unfold Dev.errForwarded
    rw [if_neg (by simp [Nat.not_le.2 hl])]
  have hr {α : Type} {g : Dev → α} (hm : ∀ (e : Dev) c k, g (e.macInc p.val c k) = g e)
      (hp : ∀ (e : Dev) c a k, g (e.perf (macPg p.val) c a k) = g e) (hr : ∀ e : Dev, g (e.raise (macPg p.val) 0) = g e)
      (hw : ∀ (e : Dev) f v, f.off < 0x40 → g (e.p (lgtG p.val) f v) = g e) : g ((s.dev.received p.val f).macInc p.val 9) = g s.dev :=
    (hm _ _ _).trans (received_keeps _ _ f hm hp hr hw)
  refine ⟨_, frameReceive_flagged p f s hu h0, herr, ?_, hevt, ?_, hresp, ?_, htbs, s.keepsRest_withDev _⟩
  · exact (flagged_drops _ _ _ _ ((received_deliver p f s).trans he)).trans (congrArg (· + 1) (received_count _ _ _ h0 (by decide) (by decide)))
  · rw [State.withDev_dev, hx]
    exact hr (g := Dev.planes) (fun _ _ _ => rfl) (fun _ _ _ _ => rfl) (fun _ => rfl) fun _ _ _ _ => rfl
  · rw [State.withDev_dev, hx]
    exact hr (g := Dev.ports) (fun _ _ _ => rfl) (fun _ _ _ _ => rfl) (fun _ => rfl) fun _ _ _ _ => rfl

end Sys2Proof.Machine
end

section
/-! PROOF. O50: a frame forwarded to one port, and a service request (R289 to R295, R330). -/

namespace Sys2Proof.Machine

/-! ### A frame that one queue takes -/

section
variable (d : Dev) (h : Half)

theorem fcCheck_planes (p c : Nat) : (d.fcCheck p c).planes = d.planes := by
  unfold Dev.fcCheck
  exact keeps_ite (g := Dev.planes) rfl (keeps_ite (g := Dev.planes) rfl rfl)

theorem fcIdle_planes (p c : Nat) : (d.fcIdle p c).planes = d.planes := by
  unfold Dev.fcIdle
  exact keeps_ite (g := Dev.planes) rfl rfl

theorem flowCheck_planes (p : Nat) : (d.flowCheck p).planes = d.planes := by
  unfold Dev.flowCheck
  refine keeps_ite (g := Dev.planes) rfl ((Dev.each_keeps Dev.planes 9 _ _ fun c _ e => ?_).trans (d.p_planes _ _ _))
  exact keeps_ite (g := Dev.planes) (fcCheck_planes e p c) (fcIdle_planes e p c)

theorem plane_setPlane (v : Plane) : (d.setPlane h v).plane h = v := by
  cases h <;> rfl

theorem p_plane (b : Nat) (f : Fld) (v : Nat) (e : Half) : (d.p b f v).plane e = d.plane e := rfl

/-- A plane that keeps one more frame, in one queue. -/
def Plane.taken (pl : Plane) (f : SFrame) (j : Nat) : Plane :=
  { pl with
    frames := pl.frames ++ [{ f with id := pl.nextId }], nextId := pl.nextId + 1
    queues := tset [] pl.queues (j * 8 + f.cls) (tget [] pl.queues (j * 8 + f.cls) ++ [pl.nextId]) }

theorem enqueue_plane (f : SFrame) (j : Nat) : (d.enqueue h { f with refs := [j] }).plane h = (d.plane h).taken { f with refs := [j] } j := by
  unfold Dev.enqueue
  rw [if_neg (by simp)]
  dsimp only [List.foldl]
  rw [plane_of_planes (flowCheck_planes _ _), inc_plane, p_plane]
  unfold Dev.setQueue
  rw [plane_setPlane, p_plane, plane_setPlane]
  unfold Dev.queue
  rw [p_plane, plane_setPlane]
  rfl

theorem queue_of_plane {e : Dev} (j c : Nat) {pl : Plane} (he : e.plane h = pl) : e.queue h j c = tget [] pl.queues (j * 8 + c) := by
  unfold Dev.queue
  rw [he]

/-- A frame that the queue of one port admits is stored for it. -/
theorem offerFrame_takes {f : SFrame} {j : Nat} (hu : d.portUp (portOf h j) = true) (hct : d.gb (swtQ h j f.cls) Reg.SWT.QCFG_CT = false)
    (ha : d.admits h j f.cls (d.needCells f.inPort) = true) (hr : d.needCells f.inPort ≤ d.free_ h) : ∃ c,
    d.offerFrame h f [j] false false = (d.raiseIf c (swcPg h) 1).enqueue h { f with refs := [j], doneAt := none } := by
  have hdown : [j].filter (fun j => decide (j < 4) && !(d.portUp (portOf h j))) = [] := by simp [hu]
  have hok : [j].filter (fun j => d.admits h j f.cls (d.needCells f.inPort)) = [j] := by simp [ha]
  obtain ⟨c, hc⟩ : ∃ c, d.admission h f.inPort f.cls [j] = (d.raiseIf c (swcPg h) 1, [j]) := by
    refine ⟨true && !(List.isEmpty [j]) && decide (d.g (swcPg h) Reg.SWC.LOWMARK ≤ d.free_ h) &&
      decide (d.free_ h - d.needCells f.inPort < d.g (swcPg h) Reg.SWC.LOWMARK), ?_⟩
    unfold Dev.admission
    dsimp only
    rw [hdown]
    simp only [List.contains_nil, Bool.not_false, List.filter_true, hok, decide_eq_true hr, if_true, List.foldl_nil]
    rw [show [j].filter (fun x => !([j].contains x)) = [] by simp]
    rfl
  have hcut : (d.raiseIf c (swcPg h) 1).cutsThrough h f.inPort j f.cls f.bytes.length = false := by
    unfold Dev.cutsThrough
    dsimp only
    rw [Dev.gb_raiseIf, hct]
    simp
  refine ⟨c, ?_⟩
  unfold Dev.offerFrame
  dsimp only
  rw [hc]
  dsimp only
  rw [if_neg (by decide), if_neg (by decide), show [j].filter (fun j => (d.raiseIf c (swcPg h) 1).cutsThrough h f.inPort j f.cls f.bytes.length) = [] by
    simp [hcut]]
  simp

end

/-! ### A frame that its entry sends to one port -/

theorem maskOne_kept : ∀ k < 8, ∀ p < 8, k ≠ p → setBits (2 ^ k) (min p 8) 1 0 = 2 ^ k := by decide

theorem localPorts_one (h : Half) : ∀ j < 4, localPorts h (2 ^ portOf h j) true = [j] ∧ localPorts h.other (2 ^ portOf h j) false = [] := by
  cases h <;> decide

theorem portOf_lt {h : Half} {j : Nat} (hj : j < 4) : portOf h j < 8 := by
  have := half_num_lt h
  unfold portOf
  omega

section
variable {d : Dev} {p n j : Nat} {bytes : List Byte} {x : Desc}

/-- The frame that is stored for a port. -/
def storedOf (bytes : List Byte) (x : Desc) (p cls j : Nat) : SFrame :=
  { id := 0, bytes := bytes, desc := x, cls := cls, cells := cellsOf bytes.length, inPort := p, flags := 0, refs := [j] }

theorem classified_forwards (hp : p < 8) (hj : j < 4) (hfl : flowOf bytes = none) (hes : d.gb (pcsPg p) Reg.PCS.ESMC_RX_EN = false)
    (hm : d.matchEntry (portHalf p) p (msgOf bytes) = none) (htc : d.gb (swcPg (portHalf p)) Reg.SWC.TCCFG_EN = false)
    (hl : d.fwdLookup (portHalf p) (ethHdr bytes).dst (if (ethHdr bytes).tagged then (ethHdr bytes).vid else 0) = some n)
    (hk : d.fwdWord (portHalf p) n 2 % 512 = 2 ^ portOf (portHalf p) j) (hne : portOf (portHalf p) j ≠ p) : ∃ a,
    d.classified p x bytes = (d.perf (swcPg (portHalf p)) 0x01 a 1 3).offerFrame (portHalf p)
      { storedOf bytes x p (d.classOf (portHalf p) (p / 2) (ethHdr bytes) (some n)) j with refs := [] } [j] false false := by
  have hmsg : (msgOf bytes).eth = ethHdr bytes := rfl
  obtain ⟨a, ha⟩ : ∃ a, d.lookup (portHalf p) p (ethHdr bytes) =
      (d.perf (swcPg (portHalf p)) 0x01 a 1 3, 2 ^ portOf (portHalf p) j, d.classOf (portHalf p) (p / 2) (ethHdr bytes) (some n)) := by
    refine ⟨{ address := some (p / 2), cls := some (d.classOf (portHalf p) (p / 2) (ethHdr bytes) (some n)) }, ?_⟩
    unfold Dev.lookup
    rw [hl, if_neg (by omega)]
    dsimp only
    rw [hk, maskOne_kept _ (portOf_lt hj) p hp hne]
    rfl
  obtain ⟨h1, h2⟩ := localPorts_one (portHalf p) j hj
  refine ⟨a, ?_⟩
  unfold Dev.classified
  rw [hfl]
  dsimp only
  rw [hes, if_neg (by decide)]
  dsimp only
  rw [hm]
  dsimp only
  unfold Dev.classify45
  dsimp only
  rw [hmsg, ha, htc]
  dsimp only
  rw [if_neg (by simp)]
  unfold Dev.forward
  rw [if_neg (Nat.two_pow_pos _).ne']
  dsimp only
  rw [h1, h2, if_pos (by rfl)]
  rfl

end

end Sys2Proof.Machine
end

section
/-! PROOF. O50: a frame forwarded to one port, and a service request, as they are received (R289 to R295, R330). -/

namespace Sys2Proof.Machine

/-! ### What the classifier reads -/

theorem inBlock_swcPg (h : Half) {o : Nat} (ho : o < 0x1000) : inBlock .swc (swcPg h + o) := inBlock_pageAddr .swc h (by omega)

theorem inBlock_swcW (h : Half) {j o : Nat} (hj : j < 8) (ho : o < 0x100) : inBlock .swc (swcW h j + o) := by
  have := inBlock_swcPg h (o := 0x100 + 0x20 * j + o) (by omega)
  rwa [← Nat.add_assoc, ← Nat.add_assoc] at this

theorem inBlock_swtQ (h : Half) {j c o : Nat} (hj : j < 5) (hc : c < 8) (ho : o < 0x10) : inBlock .swt (swtQ h j c + o) := by
  have := inBlock_pageAddr .swt h (i := 0) (o := 0x100 + 0x80 * j + 0x10 * c + o) (by omega)
  rwa [← Nat.add_assoc, ← Nat.add_assoc, ← Nat.add_assoc] at this

theorem inBlock_macPg {p : Nat} (hp : p < 8) {o : Nat} (ho : o < 0x1000) : inBlock .mac (macPg p + o) := inBlock_pageAddr .mac _ (by omega)

theorem inBlock_trsEnt (h : Half) {a o : Nat} (ha : a < 64) (ho : o < 0x20) : inBlock .trs (trsEnt h a + o) := by
  have := inBlock_pageAddr .trs h (i := 1) (o := 0x100 + 0x20 * a + o) (by omega)
  rwa [← Nat.add_assoc, ← Nat.add_assoc] at this

theorem inBlock_trsV (h : Half) {s o : Nat} (hs : s < 16) (ho : o < 0x20) : inBlock .trs (trsV h s + o) := by
  have := inBlock_pageAddr .trs h (i := 0) (o := 0x140 + 0x20 * s + o) (by omega)
  rwa [← Nat.add_assoc, ← Nat.add_assoc] at this

theorem inBlock_redPg (h : Half) {o : Nat} (ho : o < 0x1000) : inBlock .red (redPg h + o) := inBlock_pageAddr .red h (by omega)

/-- Two devices show the same in every page but the gates', and keep the same forwarding table. -/
structure Dev.alike (d e : Dev) : Prop where
  w : ∀ a, ¬ inBlock .lgt a → e.w a = d.w a
  fwd : e.fwd = d.fwd

section
variable {d e : Dev} (ha : d.alike e)
include ha

theorem Dev.alike.g {p : Page} {b : Nat} {f : Fld} (hb : inBlock p (b + f.off)) (hp : p.code ≠ Page.lgt.code := by decide) : e.g b f = d.g b f :=
  Dev.g_of_w (o := f.off) (ha.w _ (hb.not hp)) rfl

theorem Dev.alike.gb {p : Page} {b : Nat} {f : Fld} (hb : inBlock p (b + f.off)) (hp : p.code ≠ Page.lgt.code := by decide) : e.gb b f = d.gb b f :=
  Dev.gb_of_g (ha.g hb hp)

theorem Dev.alike.svcEntry (h : Half) {a : Nat} (hk : a < 64) : e.svcEntry h a = d.svcEntry h a := by
  unfold Dev.svcEntry
  refine List.map_congr_left fun w hw => ha.w _ (inBlock_trsEnt h hk ?_).not
  have := List.mem_range.1 hw
  omega

theorem Dev.alike.matchEntry (h : Half) (p : Nat) (m : Msg) : e.matchEntry h p m = d.matchEntry h p m := by
  unfold Dev.matchEntry
  exact List.find?_congr fun a hm => by rw [ha.svcEntry h (List.mem_range.1 hm)]

theorem Dev.alike.svcCase (h : Half) (ent : List Nat) (m : Msg) : e.svcCase h ent m = d.svcCase h ent m := by
  have hv {s : Nat} (hs : s < 16) {f : Fld} (hf : f.off < 0x20) : e.g (trsV h s) f = d.g (trsV h s) f := ha.g (inBlock_trsV h hs hf)
  have hs : e.ptpService h ent (ptpDomain m.body) = d.ptpService h ent (ptpDomain m.body) := by
    unfold Dev.ptpService
    refine List.find?_congr fun s hm => ?_
    have := List.mem_range.1 hm
    rw [Dev.gb_of_g (hv this (by decide)), hv this (by decide)]
  unfold Dev.svcCase
  rw [hs]
  cases hc : d.ptpService h ent (ptpDomain m.body) with
  | none => rfl
  | some s =>
    have hs := List.mem_range.1 (List.mem_of_find?_eq_some hc)
    dsimp only
    rw [Dev.gb_of_g (hv hs (by decide)), hv hs (by decide)]

theorem Dev.alike.portUp {p : Nat} (hp : p < 8) : e.portUp p = d.portUp p := portUp_of_w (ha.w _ (inBlock_pcs hp (by decide)).not)

theorem Dev.alike.fwdWord (h : Half) (n w : Nat) : e.fwdWord h n w = d.fwdWord h n w := by
  unfold Dev.fwdWord
  rw [ha.fwd]

theorem Dev.alike.fwdLookup (h : Half) (dst vid : Nat) : e.fwdLookup h dst vid = d.fwdLookup h dst vid := by
  unfold Dev.fwdLookup
  simp only [ha.fwd, ha.fwdWord]

theorem Dev.alike.classOf (h : Half) {j : Nat} (hj : j < 8) (x : EthHdr) (ent : Option Nat) : e.classOf h j x ent = d.classOf h j x ent := by
  unfold Dev.classOf
  rw [ha.w _ (inBlock_swcW h hj (by decide)).not, ha.g (inBlock_swcW h hj (by decide))]
  simp only [ha.fwdWord]

theorem Dev.alike.needCells {p : Nat} (hp : p < 8) : e.needCells p = d.needCells p := by
  unfold Dev.needCells Dev.maxLen
  rw [ha.g (inBlock_macPg hp (by decide))]

theorem Dev.alike.free (h : Half) : e.free_ h = d.free_ h := ha.g (inBlock_swcPg h (by decide))

theorem Dev.alike.admits (h : Half) {j c : Nat} (hj : j < 5) (hc : c < 8) (need : Nat) : e.admits h j c need = d.admits h j c need := by
  unfold Dev.admits
  dsimp only
  rw [ha.g (inBlock_swtQ h hj hc (by decide)), ha.g (inBlock_swtQ h hj hc (by decide))]

end

theorem received_alike (d : Dev) {p : Nat} (hp : p < 8) (f : RxFrame) : d.alike (d.received p f) :=
  ⟨fun _ ha => received_w d p hp f ha, received_keeps (g := Dev.fwd) d p f (fun _ _ _ => rfl) (fun _ _ _ _ => rfl) (fun _ => rfl) fun _ _ _ _ => rfl⟩

theorem classOf_lt (d : Dev) (h : Half) (j : Nat) (x : EthHdr) (ent : Option Nat) : d.classOf h j x ent < 8 := by
  have hb (n lo : Nat) : getBits n lo 3 < 8 := Nat.mod_lt _ (by decide)
  have hg : d.g (swcW h j) Reg.SWC.PCFG_DEF_CLASS < 8 := d.g_lt _ _
  have hown : (if x.tagged then getBits (d.w (swcW h j + 4)) (3 * x.pcp) 3 else d.g (swcW h j) Reg.SWC.PCFG_DEF_CLASS) < 8 := by
    split
    · exact hb _ _
    · exact hg
  unfold Dev.classOf
  dsimp only
  cases ent with
  | none => exact hown
  | some n =>
    dsimp only
    split
    · exact hb _ _
    · exact hown

theorem received_first (d : Dev) (p : Nat) (f : RxFrame) (h0 : d.rxFlags p f = 0) :
    tget 0 (d.received p f).macc (p * 32) = tget 0 d.macc (p * 32) + 1 := by
  unfold Dev.received
  rw [h0, rxCount_good]
  refine (ingCount_keeps (g := fun e : Dev => tget 0 e.macc (p * 32)) _ p (fun _ _ _ _ => rfl) _).trans ?_
  refine (macInc_other _ p _ (by omega)).trans ((macInc_own _ p 0 1).trans (congrArg (· + 1) ?_))
  exact fecCounted_count d p f (by decide : 0 < 20)

/-! ### The frame that is queued -/

section
variable (d : Dev) (h : Half)

theorem enqueue_queue {f : SFrame} {j : Nat} : (d.enqueue h { f with refs := [j] }).queue h j f.cls = d.queue h j f.cls ++ [(d.plane h).nextId] := by
  rw [queue_of_plane h j f.cls (enqueue_plane d h f j)]
  exact Tab.get_set_same (fun _ => ([] : List Nat)) _ _ _

theorem enqueue_frames {f : SFrame} {j : Nat} : ((d.enqueue h { f with refs := [j] }).plane h).frames =
    (d.plane h).frames ++ [{ f with refs := [j], id := (d.plane h).nextId }] := by
  rw [enqueue_plane]
  rfl

theorem raiseIf_plane (c : Bool) (pg k : Nat) (e : Half) : (d.raiseIf c pg k).plane e = d.plane e := plane_of_planes (raiseIf_planes _ _ _ _) _

theorem perf_plane (pg c : Nat) (a : PerfAttr) (k r : Nat) (e : Half) : (d.perf pg c a k r).plane e = d.plane e := rfl

theorem perf_alike (pg c : Nat) (a : PerfAttr) (k r : Nat) : d.alike (d.perf pg c a k r) := ⟨fun _ _ => rfl, rfl⟩

end

theorem Dev.alike.trans {a b c : Dev} (h : a.alike b) (h' : b.alike c) : a.alike c :=
  ⟨fun x hx => (h'.w x hx).trans (h.w x hx), h'.fwd.trans h.fwd⟩

theorem queue_of_planes {d e : Dev} {h : Half} (j c : Nat) (he : e.plane h = d.plane h) : e.queue h j c = d.queue h j c := by
  unfold Dev.queue
  rw [he]

theorem frameReceive_forwards (p : Fin 8) (f : RxFrame) (n : Nat) (j : Fin 4) (s : State) :
    let h := portHalf p.val
    let c := s.dev.classOf h (p.val / 2) (ethHdr f.bytes) (some n)
    s.dev.portUp p.val = true → s.dev.rxFlags p.val f = 0 → flowOf f.bytes = none →
    s.dev.gb (pcsPg p.val) Reg.PCS.ESMC_RX_EN = false → s.dev.matchEntry h p.val (msgOf f.bytes) = none →
    s.dev.gb (swcPg h) Reg.SWC.TCCFG_EN = false →
    s.dev.fwdLookup h (ethHdr f.bytes).dst (if (ethHdr f.bytes).tagged then (ethHdr f.bytes).vid else 0) = some n →
    s.dev.fwdWord h n 2 % 512 = 2 ^ portOf h j.val → portOf h j.val ≠ p.val → s.dev.portUp (portOf h j.val) = true →
    s.dev.gb (swtQ h j.val c) Reg.SWT.QCFG_CT = false → s.dev.admits h j.val c (s.dev.needCells p.val) = true →
    s.dev.needCells p.val ≤ s.dev.free_ h →
    ∃ t, exec (.frameReceive p f) s = .next t ∧
      t.dev.queue h j.val c = s.dev.queue h j.val c ++ [(s.dev.plane h).nextId] ∧
      (∃ x ∈ (t.dev.plane h).frames, x.id = (s.dev.plane h).nextId ∧ x.bytes = f.bytes ∧ x.cls = c ∧ x.refs = [j.val] ∧
        x.inPort = p.val ∧ x.desc = s.dev.rxDesc p.val f) ∧
      tget 0 t.dev.macc (p.val * 32) = tget 0 s.dev.macc (p.val * 32) + 1 ∧ t.dev.gates = s.dev.gates ∧
      t.dev.resp = s.dev.resp ∧ t.dev.tbs = s.dev.tbs ∧ s.keepsRest t := by
  intro h c hu h0 hfl hes hm htc hl hk hne huj hct had hroom
  have hal := received_alike s.dev p.isLt f
  have hj5 : j.val < 5 := by omega
  have hc8 : c < 8 := classOf_lt _ _ _ _ _
  have hpj : p.val / 2 < 8 := by omega
  obtain ⟨a, hx⟩ := classified_forwards (d := s.dev.received p.val f) (bytes := f.bytes) (x := s.dev.rxDesc p.val f) p.isLt j.isLt hfl
    ((hal.gb (inBlock_pcs p.isLt (by decide))).trans hes) ((hal.matchEntry _ _ _).trans hm) ((hal.gb (inBlock_swcPg h (by decide))).trans htc)
    ((hal.fwdLookup _ _ _).trans hl) (by rw [hal.fwdWord]; exact hk) hne
  rw [show (s.dev.received p.val f).classOf (portHalf p.val) (p.val / 2) (ethHdr f.bytes) (some n) = c from hal.classOf h hpj _ _] at hx
  have hE := hal.trans (perf_alike (s.dev.received p.val f) (swcPg (portHalf p.val)) 0x01 a 1 3)
  obtain ⟨r, hr⟩ := offerFrame_takes ((s.dev.received p.val f).perf (swcPg (portHalf p.val)) 0x01 a 1 3) h
    (f := { storedOf f.bytes (s.dev.rxDesc p.val f) p.val c j.val with refs := [] }) (j := j.val) ((hE.portUp (portOf_lt j.isLt)).trans huj)
    ((hE.gb (inBlock_swtQ h hj5 hc8 (by decide))).trans hct)
    ((congrArg _ (hE.needCells p.isLt)).trans ((hE.admits h hj5 hc8 _).trans had)) (by
      rw [hE.free]
      exact (hE.needCells p.isLt).le.trans hroom)
  rw [hr] at hx
  have hpl : ((((s.dev.received p.val f).perf (swcPg (portHalf p.val)) 0x01 a 1 3).raiseIf r (swcPg h) 1).plane h) = s.dev.plane h := by
    rw [raiseIf_plane, perf_plane]
    exact plane_of_planes (received_keeps (g := Dev.planes) _ _ _ (fun _ _ _ => rfl) (fun _ _ _ _ => rfl) (fun _ => rfl) fun _ _ _ _ => rfl) h
  have hfr {α : Type} {g : Dev → α} (hg : FrameBlind g) (E : Dev) (y : SFrame) : g ((E.perf (swcPg (portHalf p.val)) 0x01 a 1 3 |>.raiseIf r (swcPg h) 1).enqueue h y) = g E :=
    (hg.enqueue _ _ _).trans ((hg.raiseIf _ _ _).trans (hg.perf _ _ _ _ _ _))
  have hexec : exec (.frameReceive p f) s = _ := next_onDev (f := frameReceived p.val f)
    (((frameReceived_eq s.dev p.val p.isLt hu f).trans (if_pos h0)).trans hx)
  refine ⟨_, hexec, ?_, ?_, ?_, ?_, ?_, ?_, s.keepsRest_withDev _⟩
  · have hq := enqueue_queue (((s.dev.received p.val f).perf (swcPg (portHalf p.val)) 0x01 a 1 3).raiseIf r (swcPg h) 1) h
      (f := { storedOf f.bytes (s.dev.rxDesc p.val f) p.val c j.val with refs := [], doneAt := none }) (j := j.val)
    rw [hpl, queue_of_planes j.val _ hpl] at hq
    exact hq
  · have hq := enqueue_frames (((s.dev.received p.val f).perf (swcPg (portHalf p.val)) 0x01 a 1 3).raiseIf r (swcPg h) 1) h
      (f := { storedOf f.bytes (s.dev.rxDesc p.val f) p.val c j.val with refs := [], doneAt := none }) (j := j.val)
    rw [hpl] at hq
    refine ⟨_, by
      rw [State.withDev_dev]
      exact hq ▸ List.mem_append_right _ (List.mem_singleton_self _), rfl, rfl, rfl, rfl, rfl, rfl⟩
  · exact (hfr (frameBlind_count (by omega)) _ _).trans (received_first _ _ _ h0)
  · exact (hfr frameBlind_gates _ _).trans
      (received_keeps (g := Dev.gates) _ _ _ (fun _ _ _ => rfl) (fun _ _ _ _ => rfl) (fun _ => rfl) fun _ _ _ _ => rfl)
  · exact (hfr frameBlind_resp _ _).trans
      (received_keeps (g := Dev.resp) _ _ _ (fun _ _ _ => rfl) (fun _ _ _ _ => rfl) (fun _ => rfl) fun _ _ _ _ => rfl)
  · exact (hfr frameBlind_tbs _ _).trans
      (received_keeps (g := Dev.tbs) _ _ _ (fun _ _ _ => rfl) (fun _ _ _ _ => rfl) (fun _ => rfl) fun _ _ _ _ => rfl)

end Sys2Proof.Machine
end

section
/-! PROOF. O50: a service request received (R289, R330), and what a frame boundary ends and sends (R296, R299). -/

namespace Sys2Proof.Machine

/-! ### A service request -/

section
variable (d : Dev) (h : Half) (r : Req)

theorem rsp_setRsp (v : RespSt) : (d.setRsp h v).rsp h = v := by
  cases h <;> rfl

theorem pushReq_reqs : ((d.pushReq h r).rsp h).reqs = (d.rsp h).reqs ++ [{ r with id := (d.rsp h).nextId, stage := .arrived }] := by
  unfold Dev.pushReq
  dsimp only
  rw [rsp_setRsp]

theorem toBridge_rsp (i : BridgeItem) (g : Half) : (d.toBridge h i).rsp g = d.rsp g := rfl

theorem pushReq_planes : (d.pushReq h r).planes = d.planes := rfl

theorem toBridge_frames (i : BridgeItem) : ((d.toBridge h i).plane h).frames = (d.plane h).frames := by
  cases h <;> rfl

theorem toBridge_gates (i : BridgeItem) : (d.toBridge h i).gates = d.gates := rfl

theorem pushReq_gates : (d.pushReq h r).gates = d.gates := rfl

theorem pushReq_tbs : (d.pushReq h r).tbs = d.tbs := rfl

theorem svcArrive_pushes (hp : d.gb (redPg h) Reg.RED.PRP_RX_EN = false) : d.svcArrive h r = d.pushReq h r := if_pos (by simp [hp])

end

theorem classified_requests {d : Dev} {p a : Nat} {bytes : List Byte} {x : Desc} (hfl : flowOf bytes = none)
    (hes : d.gb (pcsPg p) Reg.PCS.ESMC_RX_EN = false) (hm : d.matchEntry (portHalf p) p (msgOf bytes) = some a)
    (hc : d.svcCase (portHalf p) (d.svcEntry (portHalf p) a) (msgOf bytes) = .request) (hr : d.chipReturning (portHalf p) = false)
    (hv : (x.v0 || x.v1) = true) (hprp : d.gb (redPg (portHalf p)) Reg.RED.PRP_RX_EN = false) :
    d.classified p x bytes = (d.pushReq (portHalf p)
      { id := 0, desc := x, bytes := bytes, entNo := a, ent := d.svcEntry (portHalf p) a }).toBridge (portHalf p)
      (.request { id := 0, desc := x, bytes := bytes, entNo := a, ent := d.svcEntry (portHalf p) a, bridged := true }) := by
  have hq : d.svcRequest p a (d.svcEntry (portHalf p) a) x bytes = (d.pushReq (portHalf p)
      { id := 0, desc := x, bytes := bytes, entNo := a, ent := d.svcEntry (portHalf p) a }).toBridge (portHalf p)
      (.request { id := 0, desc := x, bytes := bytes, entNo := a, ent := d.svcEntry (portHalf p) a, bridged := true }) := by
    unfold Dev.svcRequest
    dsimp only
    rw [if_neg (by simp [hr]), if_neg (by
      cases h0 : x.v0 <;> cases h1 : x.v1 <;> simp_all), svcArrive_pushes _ _ _ hprp]
  refine Eq.trans ?_ hq
  unfold Dev.classified
  rw [hfl]
  dsimp only
  rw [hes, if_neg (by decide)]
  dsimp only
  rw [hm]
  dsimp only
  rw [hc]

theorem frameReceive_requests (p : Fin 8) (f : RxFrame) (a : Nat) (s : State) :
    let h := portHalf p.val
    let r : Req := { id := 0, desc := s.dev.rxDesc p.val f, bytes := f.bytes, entNo := a, ent := s.dev.svcEntry h a }
    s.dev.portUp p.val = true → s.dev.rxFlags p.val f = 0 → flowOf f.bytes = none →
    s.dev.gb (pcsPg p.val) Reg.PCS.ESMC_RX_EN = false → s.dev.matchEntry h p.val (msgOf f.bytes) = some a →
    s.dev.svcCase h (s.dev.svcEntry h a) (msgOf f.bytes) = .request → s.dev.chipReturning h = false →
    ((s.dev.rxDesc p.val f).v0 || (s.dev.rxDesc p.val f).v1) = true →
    s.dev.gb (redPg h) Reg.RED.PRP_RX_EN = false →
    ∃ t, exec (.frameReceive p f) s = .next t ∧
      (t.dev.rsp h).reqs = (s.dev.rsp h).reqs ++ [{ r with id := (s.dev.rsp h).nextId, stage := .arrived }] ∧
      (t.dev.plane h).bridge = (s.dev.plane h).bridge ++ [.request { r with bridged := true }] ∧
      (t.dev.plane h).frames = (s.dev.plane h).frames ∧ t.dev.gates = s.dev.gates ∧ t.dev.tbs = s.dev.tbs ∧
      s.keepsRest t := by
  intro h r hu h0 hfl hes hm hc hr hv hprp
  have hal := received_alike s.dev p.isLt f
  have hk : a < 64 := List.mem_range.1 (List.mem_of_find?_eq_some hm)
  have hent : (s.dev.received p.val f).svcEntry h a = s.dev.svcEntry h a := hal.svcEntry h hk
  have hchip : (s.dev.received p.val f).chipReturning h = false := by
    unfold Dev.chipReturning
    rw [hal.g (inBlock_redPg h (by decide))]
    exact hr
  have hx := classified_requests (d := s.dev.received p.val f) (x := s.dev.rxDesc p.val f) hfl ((hal.gb (inBlock_pcs p.isLt (by decide))).trans hes)
    ((hal.matchEntry _ _ _).trans hm) (by rw [hent, hal.svcCase]; exact hc) hchip hv ((hal.gb (inBlock_redPg h (by decide))).trans hprp)
  rw [show (s.dev.received p.val f).svcEntry (portHalf p.val) a = s.dev.svcEntry h a from hent] at hx
  have hrec {α : Type} {g : Dev → α} (hm : ∀ (e : Dev) c k, g (e.macInc p.val c k) = g e) (hp : ∀ (e : Dev) c a k, g (e.perf (macPg p.val) c a k) = g e)
      (hr : ∀ e : Dev, g (e.raise (macPg p.val) 0) = g e) (hw : ∀ (e : Dev) a v, g (e.setw a v) = g e) : g (s.dev.received p.val f) = g s.dev :=
    received_keeps _ _ f hm hp hr fun e _ _ _ => hw e _ _
  have hrsp : (s.dev.received p.val f).rsp h = s.dev.rsp h :=
    hrec (g := fun e : Dev => e.rsp h) (fun _ _ _ => rfl) (fun _ _ _ _ => rfl) (fun _ => rfl) fun _ _ _ => rfl
  have hpl : (s.dev.received p.val f).plane h = s.dev.plane h :=
    hrec (g := fun e : Dev => e.plane h) (fun _ _ _ => rfl) (fun _ _ _ _ => rfl) (fun _ => rfl) fun _ _ _ => rfl
  have hg : (s.dev.received p.val f).gates = s.dev.gates := hrec (g := Dev.gates) (fun _ _ _ => rfl) (fun _ _ _ _ => rfl) (fun _ => rfl) fun _ _ _ => rfl
  have ht : (s.dev.received p.val f).tbs = s.dev.tbs := hrec (g := Dev.tbs) (fun _ _ _ => rfl) (fun _ _ _ _ => rfl) (fun _ => rfl) fun _ _ _ => rfl
  have hexec : exec (.frameReceive p f) s = _ := next_onDev (f := frameReceived p.val f)
    (((frameReceived_eq s.dev p.val p.isLt hu f).trans (if_pos h0)).trans hx)
  generalize s.dev.received p.val f = d at hexec hrsp hpl hg ht
  refine ⟨_, hexec, ?_, ?_, ?_, ?_, ?_, s.keepsRest_withDev _⟩
  · rw [State.withDev_dev, toBridge_rsp, pushReq_reqs, hrsp]
  · rw [State.withDev_dev, toBridge_bridge, plane_of_planes (pushReq_planes _ _ _), hpl]
  · rw [State.withDev_dev, toBridge_frames, plane_of_planes (pushReq_planes _ _ _), hpl]
  · rw [State.withDev_dev, toBridge_gates, pushReq_gates, hg]
  · rw [State.withDev_dev, toBridge_tbs, pushReq_tbs, ht]

/-! ### A frame boundary -/

section
variable {d : Dev} {p : Nat}

theorem portOf_half : portOf (portHalf p) (p / 2) = p := by
  unfold portOf portHalf Half.ofNum
  split <;> simp [Half.num] <;> omega

/-- Where nothing may be sent, or nothing waits, a boundary but ends the frame before. -/
theorem egressBoundary_ends (h : (d.sendEnded p).portUp p = false ∨ (d.sendEnded p).busy p = true ∨ (d.sendEnded p).returning (portHalf p) = true ∨
    (((d.sendEnded p).port p).fcDue = [] ∧ ∀ c df, (d.sendEnded p).pickClass (portHalf p) (p / 2) = some (c, df) →
      ((d.sendEnded p).queue (portHalf p) (p / 2) c).head?.bind ((d.sendEnded p).stored (portHalf p)) = none)) :
    egressBoundary p d = d.sendEnded p := by
  unfold egressBoundary
  dsimp only
  rcases h with h | h | h | ⟨h1, h2⟩
  · exact if_pos (by simp [h])
  · exact if_pos (by simp [h])
  · exact if_pos (by simp [h])
  · refine (ite_eq_left_iff.2 fun _ => ?_)
    rw [h1]
    dsimp only
    cases hk : (d.sendEnded p).pickClass (portHalf p) (p / 2) with
    | none => rfl
    | some x => 
      obtain ⟨c, df⟩ := x
      dsimp only
      rw [h2 c df hk]

variable (hp : p < 8) (hu : (d.sendEnded p).portUp p = true) (hb : (d.sendEnded p).busy p = false) (hr : (d.sendEnded p).returning (portHalf p) = false)
include hp hu hb hr

/-- Flow control leaves first. -/
theorem egressBoundary_flow {c q : Nat} {rest : List (Nat × Nat)} (hf : ((d.sendEnded p).port p).fcDue = (c, q) :: rest) :
    egressBoundary p d = (((d.sendEnded p).setPort p { (d.sendEnded p).port p with fcDue := rest }).startFrame p (fcFrame c q) false).macInc p
      (if c = 8 then 14 else 15) := by
  unfold egressBoundary
  dsimp only
  rw [if_neg (by simp [hu, hb, hr]; omega), hf]

/-- The scheduled head defers to a gated frame, or leaves. -/
theorem egressBoundary_head {c : Nat} {df : Tab Nat} {f : SFrame} (h0 : ((d.sendEnded p).port p).fcDue = [])
    (hk : (d.sendEnded p).pickClass (portHalf p) (p / 2) = some (c, df))
    (hq : ((d.sendEnded p).queue (portHalf p) (p / 2) c).head?.bind ((d.sendEnded p).stored (portHalf p)) = some f) :
    egressBoundary p d = if (d.sendEnded p).defers p f.bytes.length then (d.sendEnded p).inc (swtK (portHalf p) (p / 2)) Reg.SWT.GATE_DEFER
      else ((d.sendEnded p).putTurn (portHalf p) (p / 2) c df).sendHead (portHalf p) (p / 2) c f := by
  unfold egressBoundary
  dsimp only
  rw [if_neg (by simp [hu, hb, hr]; omega), h0]
  dsimp only
  rw [hk]
  dsimp only
  rw [hq]

end

end Sys2Proof.Machine
end

section
/-! PROOF. O50: frames sent at a boundary, and frames held too long (R296, R299, R301). -/

namespace Sys2Proof.Machine

/-! ### A frame started -/

section
variable (d : Dev) (p : Nat)

theorem startFrame_port (bytes : List Byte) (bad : Bool) (cls : Option Nat) : (d.startFrame p bytes bad cls).port p = { d.port p with
    txFrom := max (d.tb0 (portHalf p)) (d.port p).txTo
    txTo := max (d.tb0 (portHalf p)) (d.port p).txTo + d.octets p (wireOctets bytes.length)
    last := some { at_ := max (d.tb0 (portHalf p)) (d.port p).txTo, gated := false, bad := bad, bytes := bytes, cls := cls } } := by
  unfold Dev.startFrame
  dsimp only
  rw [port_setPort]
  rfl

theorem idle_start {d : Dev} {p : Nat} (hb : d.busy p = false) : max (d.tb0 (portHalf p)) (d.port p).txTo = d.tb0 (portHalf p) :=
  max_eq_left (Nat.not_lt.1 (of_decide_eq_false hb))

theorem sendEnded_tb0 (h : Half) : (d.sendEnded p).tb0 h = d.tb0 h := by
  unfold Dev.tb0
  rw [Dev.count_congr (frameBlind_tbs.sendEnded d p)]

/-- Flow control sent. -/
def Dev.flowSent (d : Dev) (p c q : Nat) (rest : List (Nat × Nat)) : Dev :=
  ((d.setPort p { d.port p with fcDue := rest }).startFrame p (fcFrame c q) false).macInc p (if c = 8 then 14 else 15)

variable (c q : Nat) (rest : List (Nat × Nat))

theorem flowSent_port : (d.flowSent p c q rest).port p = { d.port p with
    fcDue := rest, txFrom := max (d.tb0 (portHalf p)) (d.port p).txTo
    txTo := max (d.tb0 (portHalf p)) (d.port p).txTo + d.octets p (wireOctets (fcFrame c q).length)
    last := some { at_ := max (d.tb0 (portHalf p)) (d.port p).txTo, gated := false, bad := false, bytes := fcFrame c q, cls := none } } := by
  unfold Dev.flowSent
  rw [macInc_port, startFrame_port, port_setPort]
  rfl

theorem flowSent_touches : d.touchesBy d.backMacs (d.flowSent p c q rest) [] [] := by
  have h0 : d.touchesBy d.backMacs d [] [] := .of_touches (.refl d [] [])
  unfold Dev.flowSent
  exact (startFrame_touches _ p (h0.hidden (backMacs_setPort _ _ _ _)) _ _ _).hidden (backMacs_macInc _ _ _ _ _)

end

theorem onlyTouches_backMacs_from {s : State} {d e : Dev} {ws es : List Nat} (h : d.touchesBy d.backMacs e ws es) :
    (s.withDev d).onlyTouches { s.withDev e with dev := { (s.withDev e).dev with ports := d.ports, macc := d.macc } } ws es :=
  Dev.touchesBy.onlyTouches (s := s.withDev d) h

theorem egressFrameBoundary_flow (p : Fin 8) (c q : Nat) (rest : List (Nat × Nat)) (s : State) :
    let d := s.dev.sendEnded p.val
    d.portUp p.val = true → d.busy p.val = false → d.returning (portHalf p.val) = false →
    (d.port p.val).fcDue = (c, q) :: rest →
    ∃ t, exec (.egressFrameBoundary p) s = .next t ∧ (t.dev.port p.val).fcDue = rest ∧
      (t.dev.port p.val).last.map (·.bytes) = some (fcFrame c q) ∧
      (t.dev.port p.val).txFrom = s.dev.tb0 (portHalf p.val) ∧
      (s.withDev d).onlyTouches { t with dev := { t.dev with ports := d.ports, macc := d.macc } } [] [] := by
  intro d hu hb hr hf
  have ht : d.tb0 (portHalf p.val) = s.dev.tb0 (portHalf p.val) := sendEnded_tb0 _ _ _
  have hx := next_onDev (f := egressBoundary p.val) (d := d.flowSent p.val c q rest) (egressBoundary_flow p.isLt hu hb hr hf)
  clear_value d
  refine ⟨_, hx, ?_, ?_, ?_, onlyTouches_backMacs_from (flowSent_touches d p.val c q rest)⟩
  · rw [State.withDev_dev, flowSent_port]
  · rw [State.withDev_dev, flowSent_port]
    rfl
  · rw [State.withDev_dev, flowSent_port]
    exact (idle_start hb).trans ht

/-! ### The scheduled head -/

section
variable (d : Dev) (h : Half) (j c : Nat) (df : Tab Nat) (f : SFrame)

theorem putTurn_queue (k : Nat) : (d.putTurn h j c df).queue h j k = d.queue h j k := by
  unfold Dev.putTurn Dev.queue
  rw [plane_setPlane]

theorem putTurn_frames : ((d.putTurn h j c df).plane h).frames = (d.plane h).frames := by
  unfold Dev.putTurn
  rw [plane_setPlane]

theorem putTurn_port (p : Nat) : (d.putTurn h j c df).port p = d.port p := rfl

theorem putTurn_tb0 (g : Half) : (d.putTurn h j c df).tb0 g = d.tb0 g := rfl

theorem startFrame_plane (p : Nat) (bytes : List Byte) (bad : Bool) (cls : Option Nat) (g : Half) : (d.startFrame p bytes bad cls).plane g = d.plane g := rfl

theorem unqueue_queue : (d.unqueue h f j).queue h j f.cls = (d.queue h j f.cls).filter (· != f.id) := by
  unfold Dev.unqueue
  dsimp only
  unfold Dev.setQueue Dev.queue
  rw [p_plane, plane_setPlane]
  exact Tab.get_set_same (fun _ => ([] : List Nat)) _ _ _

theorem unqueue_frames : ((d.unqueue h f j).plane h).frames = (d.plane h).frames := by
  unfold Dev.unqueue
  dsimp only
  unfold Dev.setQueue
  rw [p_plane, plane_setPlane]

theorem setPort_plane (p : Nat) (v : PortSt) (g : Half) : (d.setPort p v).plane g = d.plane g := rfl

/-- What a sent head leaves: its queue without it, its cells still in use. -/
theorem sendHead_plane : ((d.sendHead h j c f).queue h j f.cls = (d.queue h j f.cls).filter (· != f.id)) ∧
    ((d.sendHead h j c f).plane h).frames = (d.plane h).frames := by
  unfold Dev.sendHead
  dsimp only
  constructor
  · rw [queue_of_planes j f.cls (setPort_plane _ _ _ h), unqueue_queue, queue_of_planes j f.cls (inc_plane _ _ _ h),
      queue_of_planes j f.cls (startFrame_plane _ _ _ _ _ h)]
  · rw [setPort_plane, unqueue_frames, inc_plane, startFrame_plane]

theorem sendHead_port : ∃ n, ((d.sendHead h j c f).port (portOf h j)).last = some { at_ := max (d.tb0 (portHalf (portOf h j))) (d.port (portOf h j)).txTo, gated := false, bad := false, bytes := f.bytes, cls := some c } ∧
    ((d.sendHead h j c f).port (portOf h j)).txTo = n ∧ ((d.sendHead h j c f).port (portOf h j)).sending = some (f.id, n) := by
  have hi (e : Dev) (b : Nat) (x : Fld) (q : Nat) : (e.inc b x).port q = e.port q := rfl
  unfold Dev.sendHead
  dsimp only
  rw [port_setPort, hi, startFrame_port]
  exact ⟨_, rfl, rfl, rfl⟩

theorem sendHead_keeps {α : Type} {g : Dev → α} (hg : FrameBlind g) : g (d.sendHead h j c f) = g d := by
  unfold Dev.sendHead
  exact (hg.setPort _ _ _).trans ((hg.unqueue _ _ _ _).trans ((hg.queueWord _ _ _ _ _ _).trans (hg.startFrame _ _ _ _ _)))

end

theorem onlyTouches_from {s : State} {d e : Dev} {ws es : List Nat} (h : d.touches e ws es) : (s.withDev d).onlyTouches (s.withDev e) ws es :=
  Dev.touches.onlyTouches (s := s.withDev d) h

theorem egressFrameBoundary_head (p : Fin 8) (c : Nat) (df : Tab Nat) (f : SFrame) (s : State) :
    let d := s.dev.sendEnded p.val
    let h := portHalf p.val
    d.portUp p.val = true → d.busy p.val = false → d.returning h = false → (d.port p.val).fcDue = [] →
    d.pickClass h (p.val / 2) = some (c, df) → (d.queue h (p.val / 2) c).head?.bind (d.stored h) = some f →
    (d.defers p.val f.bytes.length = true →
      ∃ t, exec (.egressFrameBoundary p) s = .next t ∧
        t.dev.g (swtK h (p.val / 2)) Reg.SWT.GATE_DEFER = (d.g (swtK h (p.val / 2)) Reg.SWT.GATE_DEFER + 1) % 2 ^ 32 ∧
        (s.withDev d).onlyTouches t [swtK h (p.val / 2) + Reg.SWT.GATE_DEFER.off] []) ∧
    (d.defers p.val f.bytes.length = false →
      ∃ t, exec (.egressFrameBoundary p) s = .next t ∧
        (t.dev.port p.val).last = some { at_ := s.dev.tb0 h, gated := false, bad := false, bytes := f.bytes, cls := some c } ∧
        t.dev.queue h (p.val / 2) f.cls = (d.queue h (p.val / 2) f.cls).filter (· != f.id) ∧
        (t.dev.port p.val).sending = some (f.id, (t.dev.port p.val).txTo) ∧
        (t.dev.plane h).frames = (d.plane h).frames ∧
        t.dev.gates = s.dev.gates ∧ t.dev.tbs = s.dev.tbs ∧ s.keepsRest t) := by
  intro d h hu hb hr h0 hk hq
  have ht : d.tb0 (portHalf p.val) = s.dev.tb0 (portHalf p.val) := sendEnded_tb0 _ _ _
  have hg : d.gates = s.dev.gates := frameBlind_gates.sendEnded _ _
  have hbs : d.tbs = s.dev.tbs := frameBlind_tbs.sendEnded _ _
  have hx := egressBoundary_head p.isLt hu hb hr h0 hk hq
  have hp : portOf h (p.val / 2) = p.val := portOf_half
  change egressBoundary p.val s.dev = if d.defers p.val f.bytes.length = true then d.inc (swtK h (p.val / 2)) Reg.SWT.GATE_DEFER
    else (d.putTurn h (p.val / 2) c df).sendHead h (p.val / 2) c f at hx
  clear_value d
  refine ⟨fun hd => ?_, fun hd => ?_⟩
  · rw [if_pos hd] at hx
    exact ⟨_, next_onDev (f := egressBoundary p.val) hx, Dev.g_inc_same _ _ _ (by decide),
      onlyTouches_from (Dev.touches.inc (.refl d _ _) (List.mem_singleton_self _))⟩
  · rw [if_neg (by simp [hd])] at hx
    obtain ⟨hqu, hfr⟩ := sendHead_plane (d.putTurn h (p.val / 2) c df) h (p.val / 2) c f
    obtain ⟨n, hlast, hto, hsend⟩ := sendHead_port (d.putTurn h (p.val / 2) c df) h (p.val / 2) c f
    rw [putTurn_queue] at hqu
    rw [putTurn_frames] at hfr
    rw [hp, putTurn_tb0, putTurn_port, idle_start hb, ht] at hlast
    rw [hp] at hto hsend
    rw [← hto] at hsend
    have hgt : ((d.putTurn h (p.val / 2) c df).sendHead h (p.val / 2) c f).gates = s.dev.gates :=
      (sendHead_keeps _ _ _ _ _ frameBlind_gates).trans ((frameBlind_gates.setPlane d h _).trans hg)
    have htb : ((d.putTurn h (p.val / 2) c df).sendHead h (p.val / 2) c f).tbs = s.dev.tbs :=
      (sendHead_keeps _ _ _ _ _ frameBlind_tbs).trans ((frameBlind_tbs.setPlane d h _).trans hbs)
    generalize (d.putTurn h (p.val / 2) c df).sendHead h (p.val / 2) c f = e at hx hqu hfr hlast hto hsend hgt htb
    exact ⟨_, next_onDev (f := egressBoundary p.val) hx, hlast, hqu, hsend, hfr, hgt, htb, s.keepsRest_withDev _⟩

end Sys2Proof.Machine
end

section
/-! PROOF. O50: frames held too long for others (R299), and frames classified, queued and sent as one statement. -/

namespace Sys2Proof.Machine

/-! ### A reference removed -/

section
variable (d : Dev) (h : Half) (x : SFrame) (j : Nat)

/-- A frame without one of its destinations. -/
def SFrame.without (x : SFrame) (j : Nat) (done : Option Nat) : SFrame :=
  { x with refs := x.refs.filter (· != j), doneAt := x.doneAt.orElse fun _ => done }

/-- The frames of a plane where one has lost a destination. -/
def framesWithout (l : List SFrame) (x : SFrame) (j : Nat) (done : Option Nat) : List SFrame :=
  if (x.without j done).refs.isEmpty then l.filter fun y => y.id != x.id else l.map fun y => if y.id = x.id then x.without j done else y

theorem freeFrame_plane : (d.freeFrame h x).plane h = { d.plane h with frames := (d.plane h).frames.filter fun y => y.id != x.id } := by
  unfold Dev.freeFrame
  dsimp only
  rw [plane_of_planes (flowCheck_planes _ _), p_plane, plane_setPlane]

theorem refDone_plane (done : Option Nat) :
    (d.refDone h x j done).plane h = { d.plane h with frames := framesWithout (d.plane h).frames x j done } := by
  unfold Dev.refDone framesWithout
  dsimp only
  by_cases he : (x.without j done).refs.isEmpty = true
  · rw [if_pos he]
    exact (congrArg (fun e : Dev => e.plane h) (if_pos he)).trans ((freeFrame_plane _ _ _).trans (by rw [p_plane]))
  · rw [if_neg he]
    refine (congrArg (fun e : Dev => e.plane h) (if_neg he)).trans ?_
    rw [plane_setPlane, p_plane]
    rfl

theorem dropRef_frames (done : Bool) : ∃ o, ((d.dropRef h x j done).plane h).frames = framesWithout (d.plane h).frames x j o := by
  refine ⟨if done = true then some (d.tb0 h) else none, ?_⟩
  unfold Dev.dropRef
  rw [refDone_plane, unqueue_frames]

theorem dropRef_queue (done : Bool) (k c : Nat) : (d.dropRef h x j done).queue h k c = (d.unqueue h x j).queue h k c := by
  unfold Dev.dropRef
  rw [queue_of_plane h k c (refDone_plane _ h x j _)]
  rfl

/-- A queue loses at most the frame that is taken out of one. -/
theorem unqueue_subset (k c : Nat) : (d.unqueue h x j).queue h k c ⊆ d.queue h k c := by
  have hq : (d.unqueue h x j).queue h k c = tget [] (tset [] (d.plane h).queues (j * 8 + x.cls) ((d.queue h j x.cls).filter (· != x.id))) (k * 8 + c) := by
    unfold Dev.unqueue
    dsimp only
    unfold Dev.setQueue
    exact queue_of_plane h k c ((p_plane _ _ _ _ _).trans (plane_setPlane _ _ _))
  have ht : tget [] (tset [] (d.plane h).queues (j * 8 + x.cls) ((d.queue h j x.cls).filter (· != x.id))) (k * 8 + c) =
      if k * 8 + c = j * 8 + x.cls then (d.queue h j x.cls).filter (· != x.id) else tget [] (d.plane h).queues (k * 8 + c) :=
    Tab.get_set (fun _ => ([] : List Nat)) _ _ _ _
  rw [hq, ht]
  split
  · next he =>
    have : d.queue h j x.cls = d.queue h k c := by unfold Dev.queue; rw [he]
    rw [this]
    exact fun y hy => List.mem_of_mem_filter hy
  · exact List.Subset.refl _

end

theorem find_replaced {l : List SFrame} {x y : SFrame} {k : Nat} (hf : l.find? (fun z => z.id == k) = some x) (hy : y.id = k) :
    (l.map fun z => if z.id = x.id then y else z).find? (fun z => z.id == k) = some y := by
  have hx : x.id = k := by simpa using List.find?_some hf
  induction l with
  | nil => cases hf
  | cons z l ih =>
    by_cases hz : z.id = k
    · rw [List.map_cons, if_pos (hz.trans hx.symm), List.find?_cons_of_pos (by simp [hy])]
    · rw [List.find?_cons_of_neg (by simp [hz])] at hf
      rw [List.map_cons, if_neg (by rw [hx]; exact hz), List.find?_cons_of_neg (by simp [hz])]
      exact ih hf

theorem others_replaced (l : List SFrame) {x y : SFrame} {k : Nat} (hx : x.id = k) (hy : y.id = k) :
    (l.map fun z => if z.id = x.id then y else z).filter (fun z => z.id != k) = l.filter fun z => z.id != k := by
  induction l with
  | nil => rfl
  | cons z l ih =>
    by_cases hz : z.id = k
    · rw [List.map_cons, if_pos (hz.trans hx.symm), List.filter_cons_of_neg (by simp [hy]), List.filter_cons_of_neg (by simp [hz]), ih]
    · rw [List.map_cons, if_neg (by rw [hx]; exact hz), List.filter_cons_of_pos (by simp [hz]), List.filter_cons_of_pos (by simp [hz]), ih]

/-! ### A frame that loses its destinations -/

/-- What has become of a frame that loses its destinations in turn: those that it still has. -/
structure Dev.aging (s e : Dev) (h : Half) (f : SFrame) (rem : List Nat) : Prop where
  gone : ∀ j, (f.id ∉ s.queue h j f.cls ∨ (j ∈ f.refs ∧ j ∉ rem)) → f.id ∉ e.queue h j f.cls
  rest : ((e.plane h).frames.filter fun y => y.id != f.id) = (s.plane h).frames.filter fun y => y.id != f.id
  kept : rem ≠ [] → ∃ x, e.stored h f.id = some x ∧ x.cls = f.cls ∧ x.refs = rem
  freed : rem = [] → (e.plane h).frames = (s.plane h).frames.filter fun y => y.id != f.id

/-- One destination's reference removed and counted. -/
def Dev.agedOut (e : Dev) (h : Half) (f : SFrame) (j : Nat) : Dev :=
  match e.stored h f.id with
  | none => e
  | some x => ((e.dropRef h x j false).inc (swtK h j) Reg.SWT.MC_AGED).raise (swtPg h) 6

section
variable {s e : Dev} {h : Half} {f : SFrame} {rem : List Nat} {j : Nat}

theorem agedOut_eq {x : SFrame} (hx : e.stored h f.id = some x) :
    e.agedOut h f j = ((e.dropRef h x j false).inc (swtK h j) Reg.SWT.MC_AGED).raise (swtPg h) 6 := by
  unfold Dev.agedOut
  rw [hx]

theorem raise_plane (d : Dev) (pg k : Nat) (g : Half) : (d.raise pg k).plane g = d.plane g := rfl

theorem aged_plane (d : Dev) (g : Half) : ((d.inc (swtK h j) Reg.SWT.MC_AGED).raise (swtPg h) 6).plane g = d.plane g := by
  rw [raise_plane, inc_plane]

theorem Dev.aging.step (ha : s.aging e h f rem) : s.aging (e.agedOut h f j) h f (rem.filter (· != j)) := by
  by_cases hr : rem = []
  · have hn : e.stored h f.id = none := by
      unfold Dev.stored
      rw [ha.freed hr, List.find?_eq_none]
      intro y hy
      simpa using (List.mem_filter.1 hy).2
    have he : e.agedOut h f j = e := by
      unfold Dev.agedOut
      rw [hn]
    subst hr
    rw [he]
    exact ha
  · obtain ⟨x, hx, hcls, hrefs⟩ := ha.kept hr
    have hid : x.id = f.id := by simpa using List.find?_some hx
    obtain ⟨o, hfr⟩ := dropRef_frames e h x j false
    have hxr : (x.without j o).refs = rem.filter (· != j) := congrArg (List.filter _) hrefs
    have hpl := aged_plane (h := h) (j := j) (e.dropRef h x j false) h
    have hq (k c : Nat) : (((e.dropRef h x j false).inc (swtK h j) Reg.SWT.MC_AGED).raise (swtPg h) 6).queue h k c = (e.unqueue h x j).queue h k c :=
      (queue_of_planes k c hpl).trans (dropRef_queue e h x j false k c)
    rw [agedOut_eq hx]
    rw [← hpl] at hfr
    generalize ((e.dropRef h x j false).inc (swtK h j) Reg.SWT.MC_AGED).raise (swtPg h) 6 = t at hfr hq
    unfold framesWithout at hfr
    rw [hxr] at hfr
    refine ⟨fun k hk => ?_, ?_, fun hne => ?_, fun hem => ?_⟩
    · rw [hq]
      by_cases hkj : k = j
      · rw [hkj, ← hcls, unqueue_queue, ← hid]
        simp
      · refine fun hm => ha.gone k (hk.imp id fun ⟨h1, h2⟩ => ⟨h1, fun h3 => h2 (List.mem_filter.2 ⟨h3, by simp [hkj]⟩)⟩)
          (unqueue_subset e h x j k _ hm)
    · rw [hfr]
      split
      · rw [hid, List.filter_filter]
        simpa using ha.rest
      · rw [others_replaced (y := x.without j o) _ hid hid]
        exact ha.rest
    · rw [if_neg (by simpa using hne)] at hfr
      refine ⟨x.without j o, ?_, hcls, hxr⟩
      unfold Dev.stored
      rw [hfr]
      exact find_replaced hx hid
    · rw [hfr, hem, if_pos (by rfl), hid]
      exact ha.rest

end

/-- A frame whose destinations of a list are removed keeps those that the list does not name. -/
theorem Dev.aging.fold {s e : Dev} {h : Half} {f : SFrame} {rem : List Nat} (ha : s.aging e h f rem) (l : List Nat) :
    s.aging (l.foldl (fun e j => e.agedOut h f j) e) h f (rem.filter fun k => !(l.contains k)) := by
  induction l generalizing e rem with
  | nil => simpa using ha
  | cons j l ih =>
    have := ih (ha.step (j := j))
    rw [List.filter_filter] at this
    rw [List.foldl_cons]
    convert this using 2
    funext k
    rw [List.contains_cons, Bool.not_or, Bool.and_comm]
    rfl

theorem aging_starts {s : Dev} {h : Half} {f : SFrame} (hf : s.stored h f.id = some f) (hr : f.refs ≠ []) : s.aging s h f f.refs :=
  ⟨fun _ hj => hj.elim id fun ⟨h1, h2⟩ => absurd h1 h2, rfl, fun _ => ⟨f, hf, rfl, rfl⟩, fun hn => absurd hn hr⟩

theorem mcAged_due {d : Dev} {h : Half} {i since : Nat} {f : SFrame} (hf : (d.plane h).frames[i]? = some f) (ht : f.doneAt = some since)
    (hd : since + ns32 (1000 * max 1 (d.g (swcPg h) Reg.SWC.MCAGE)) ≤ d.tb0 h) :
    mcAged h i d = (f.refs.filter fun j => d.isQueued h f j).foldl (fun e j => e.agedOut h f j) d := by
  unfold mcAged
  rw [hf]
  dsimp only
  rw [ht]
  exact if_neg (Nat.not_lt.2 hd)

theorem mcAged_stays {d : Dev} {h : Half} {i : Nat} (hn : ∀ f since, (d.plane h).frames[i]? = some f → f.doneAt = some since →
    d.tb0 h < since + ns32 (1000 * max 1 (d.g (swcPg h) Reg.SWC.MCAGE))) : mcAged h i d = d := by
  unfold mcAged
  cases hf : (d.plane h).frames[i]? with
  | none => rfl
  | some f =>
    dsimp only
    cases ht : f.doneAt with
    | none => rfl
    | some since => exact if_pos (hn f since hf ht)

theorem agedOut_keeps {α : Type} {g : Dev → α} (hg : FrameBlind g) (e : Dev) (h : Half) (f : SFrame) (j : Nat) : g (e.agedOut h f j) = g e := by
  unfold Dev.agedOut
  split
  · rfl
  · exact (hg.swtEvent _ _ (by decide)).trans ((hg.portWord _ _ _ _ _).trans (hg.dropRef _ _ _ _ _))

theorem swtEvt_implemented (h : Half) : evtImplemented (swtPg h) 6 = true := by cases h <;> decide

theorem aged_pending {e : Dev} {h : Half} {f x : SFrame} {j : Nat} (hx : e.stored h f.id = some x) : ((e.agedOut h f j).evt (swtPg h) 6).pend = true := by
  rw [agedOut_eq hx, Dev.evt_raise_own _ (swtEvt_implemented h)]
  rfl

theorem aged_stays_pending {e : Dev} {h : Half} {f : SFrame} {j : Nat} (hp : (e.evt (swtPg h) 6).pend = true) :
    ((e.agedOut h f j).evt (swtPg h) 6).pend = true := by
  cases hx : e.stored h f.id with
  | none =>
    unfold Dev.agedOut
    rw [hx]
    exact hp
  | some x => exact aged_pending hx

theorem mcAged_holds (h : Half) (i since : Nat) (f : SFrame) (s : State) (hf : (s.dev.plane h).frames[i]? = some f)
    (hst : s.dev.stored h f.id = some f) (hr : f.refs ≠ []) (ht : f.doneAt = some since)
    (hd : since + ns32 (1000 * max 1 (s.dev.g (swcPg h) Reg.SWC.MCAGE)) ≤ s.dev.tb0 h) :
    ∃ t, exec (.mcAged h i) s = .next t ∧ (∀ j ∈ f.refs, f.id ∉ t.dev.queue h j f.cls) ∧
      ((∃ j ∈ f.refs, s.dev.isQueued h f j = true) → (t.dev.evt (swtPg h) 6).pend = true) ∧
      ((∀ j ∈ f.refs, s.dev.isQueued h f j = true) →
        (t.dev.plane h).frames = (s.dev.plane h).frames.filter (fun x => x.id != f.id)) ∧
      t.dev.gates = s.dev.gates ∧ t.dev.tbs = s.dev.tbs ∧ s.keepsRest t := by
  have hx := mcAged_due hf ht hd
  obtain ⟨l, hl⟩ : ∃ l, l = f.refs.filter fun j => s.dev.isQueued h f j := ⟨_, rfl⟩
  rw [← hl] at hx
  have ha := (aging_starts hst hr).fold l
  refine ⟨_, next_onDev (f := mcAged h i) hx, fun j hj => ha.gone j ?_, fun hq => ?_, fun hq => ha.freed ?_, foldl_keeps (g := Dev.gates) (fun e j =>
    agedOut_keeps frameBlind_gates e h f j) _ _, foldl_keeps (g := Dev.tbs) (fun e j => agedOut_keeps frameBlind_tbs e h f j) _ _, s.keepsRest_withDev _⟩
  · by_cases hq : s.dev.isQueued h f j = true
    · refine .inr ⟨hj, fun hm => ?_⟩
      have hjl : j ∈ l := hl ▸ List.mem_filter.2 ⟨hj, hq⟩
      simpa [hjl] using (List.mem_filter.1 hm).2
    · exact .inl fun hm => hq (List.contains_iff_mem.2 hm)
  · obtain ⟨j, hj, hjq⟩ := hq
    have hjl : j ∈ l := hl ▸ List.mem_filter.2 ⟨hj, hjq⟩
    rw [State.withDev_dev]
    cases l with
    | nil => cases hjl
    | cons k l =>
      rw [List.foldl_cons]
      exact List.foldlRecOn (motive := fun e : Dev => (e.evt (swtPg h) 6).pend = true) l _ (aged_pending hst) fun e he k _ => aged_stays_pending he
  · refine List.filter_eq_nil_iff.2 fun j hj => ?_
    have hjl : j ∈ l := hl ▸ List.mem_filter.2 ⟨hj, hq j hj⟩
    simp [hjl]

/-! ### The statement -/

/-- Settles O50: a frame on its way through a plane shows in queues, planes, ports and the switches' words; the rows of R289 and the
schedule are equations of what each command makes of it. -/
theorem framesAreClassifiedQueuedAndSent : Obligations.FramesAreClassifiedQueuedAndSent := by
  unfold Obligations.FramesAreClassifiedQueuedAndSent
  refine ⟨?_, fun p f s hu => next_onDev (f := frameReceived p.val f) (frameReceived_down _ _ hu f), frameReceive_errors, frameReceive_short,
    frameReceive_forwards, frameReceive_requests, fun p f s hu => next_onDev (f := pauseReceived p.val f) (pauseReceived_down f hu),
    pauseReceive_pause, pauseReceive_pfc, pauseExpire_holds, fun p c s hs => next_onDev (f := pauseRepeated p.val c.val) (pauseRepeated_stays hs),
    pauseRepeat_asks, fwdEntryCommit_holds, ?_, egressFrameBoundary_flow, egressFrameBoundary_head, mcAged_holds,
    fun h i s hn => next_onDev (f := mcAged h i) (mcAged_stays hn),
    fun h credit s hb => next_onDev (f := bridgeTransferred h credit) (bridgeTransferred_stays hb), fun h i rest credit s hb => ?_⟩
  · intro p f s hu d
    exact next_onDev (f := frameReceived p.val f) (frameReceived_eq s.dev p.val p.isLt hu f)
  · intro p s d h hs
    exact next_onDev (f := egressBoundary p.val) (egressBoundary_ends hs)
  · exact bridgeTransfer_holds h i rest credit s hb

end Sys2Proof.Machine
end

section
/-! PROOF. O57 does not hold: a pass of the scrubber wakes every page that the page table lists in P2 (R447), and a table that
lists a page twice, in P3 first, has the pass reinitialise that page's block (R435), which the claim's unchanged timebases
leave out. -/

namespace Sys2Proof.Machine

/-- Warp's first TSU page, which holds TB0 of Warp. -/
abbrev tsuFirst : Nat := pageAddr .tsu .warp 0

/-- The page stands in the table in P3, and behind that entry in P2; a phase adjustment of TB0 is under way, and a pass of
Warp's scrubber is due. -/
def listedTwice : State :=
  { dev := { pages := [(tsuFirst, { pstate := 3 }), (tsuFirst, { pstate := 2 })], tbs := [(0, { padjRem := 5 })]
             scrub := ⟨{ period := 0 }, {}⟩ } }

theorem listedTwice_due : listedTwice.dev.scrubDue .warp = true := by decide

/-- The pass leaves nothing of the adjustment. -/
theorem scrubbed_listedTwice : (scrubbed .warp [] listedTwice.dev).tbs = [] := by decide +kernel

/-- Refutes O57: its clause of SCRUB_PASS says that no timebase changes, and in `listedTwice` the pass reinitialises a TSU page,
by which the phase adjustment of its timebase ends. -/
theorem not_railsKettleAndFlash : ¬ Obligations.RailsKettleAndFlash := by
  unfold Obligations.RailsKettleAndFlash
  rintro ⟨-, -, -, -, -, -, -, -, -, -, -, scrub, -⟩
  obtain ⟨t, ht, -, -, -, -, tbs, -⟩ := (scrub .warp [] listedTwice).2 listedTwice_due
  obtain rfl := exec_next_inj ht rfl
  exact absurd (scrubbed_listedTwice.symm.trans tbs) (by decide)

end Sys2Proof.Machine
end

section
/-! SUPPORT. The requests of a responder (R333, R334): one replaced, one that leaves, and the counters of its page. -/

namespace Sys2Proof.Machine

section
variable {d e : Dev} {h : Half} {id : Nat} {r x : Req}

theorem req_id (hr : d.req h id = some r) : r.id = id := by
  simpa using List.find?_some hr

theorem req_congr (he : e.rsp h = d.rsp h) (id : Nat) : e.req h id = d.req h id := by
  unfold Dev.req
  rw [he]

theorem find?_replaced {l : List Req} (hl : l.find? (fun r => r.id == id) = some r) (hx : x.id = id) :
    (l.map fun y => if y.id = id then x else y).find? (fun r => r.id == id) = some x := by
  induction l with
  | nil => cases hl
  | cons y l ih =>
    rw [List.map_cons]
    by_cases hy : y.id = id
    · rw [if_pos hy, List.find?_cons_of_pos (by simp [hx])]
    · rw [List.find?_cons_of_neg (by simp [hy])] at hl
      rw [if_neg hy, List.find?_cons_of_neg (by simp [hy]), ih hl]

/-- A request replaced is found under its identity. -/
theorem req_putReq (hr : d.req h id = some r) (hx : x.id = id) : (d.putReq h x).req h id = some x := by
  unfold Dev.req Dev.putReq
  dsimp only
  rw [rsp_setRsp, hx]
  exact find?_replaced hr hx

theorem reqs_putReq : ((d.putReq h x).rsp h).reqs = (d.rsp h).reqs.map fun y => if y.id = x.id then x else y := by
  unfold Dev.putReq
  rw [rsp_setRsp]

theorem reqs_dropReq : ((d.dropReq h id).rsp h).reqs = (d.rsp h).reqs.filter fun y => y.id != id := by
  unfold Dev.dropReq
  rw [rsp_setRsp]

/-- A request that leaves is found no more. -/
theorem req_dropReq : (d.dropReq h id).req h id = none := by
  unfold Dev.req
  rw [reqs_dropReq, List.find?_eq_none]
  intro y hy hid
  have hne := (List.mem_filter.1 hy).2
  simp_all

theorem putReq_resp : { d.putReq h x with resp := d.resp } = d := rfl

theorem dropReq_resp : { d.dropReq h id with resp := d.resp } = d := rfl

end

/-! ### Counters of a TRS page -/

/-- A counter that counts where a condition holds. -/
def Dev.trsCountIf (b : Bool) (h : Half) (c : Nat) (d : Dev) : Dev := if b then d.trsCount h c else d

section
variable (d : Dev) (h : Half) (c : Nat) (b : Bool)

theorem trsCount_w : (d.trsCount h c).w (trsPg h + 0x360 + 4 * c) = (d.w (trsPg h + 0x360 + 4 * c) + 1) % 2 ^ 32 := by
  unfold Dev.trsCount
  rw [Dev.w_setw, if_pos rfl]

theorem trsCount_w_ne {a : Nat} (ha : a ≠ trsPg h + 0x360 + 4 * c) : (d.trsCount h c).w a = d.w a := by
  unfold Dev.trsCount
  rw [Dev.w_setw, if_neg ha]

theorem trsCountIf_w : (d.trsCountIf b h c).w (trsPg h + 0x360 + 4 * c) = (d.w (trsPg h + 0x360 + 4 * c) + bitOf b) % 2 ^ 32 := by
  cases b
  · exact (Nat.mod_eq_of_lt (d.w_lt _)).symm
  · exact trsCount_w d h c

theorem trsCountIf_w_ne {a : Nat} (ha : a ≠ trsPg h + 0x360 + 4 * c) : (d.trsCountIf b h c).w a = d.w a := by
  cases b
  · rfl
  · exact trsCount_w_ne d h c ha

theorem trsCountIf_rsp (g : Half) : (d.trsCountIf b h c).rsp g = d.rsp g := by
  cases b <;> rfl

theorem trsCountIf_tbs : (d.trsCountIf b h c).tbs = d.tbs := by
  cases b <;> rfl

theorem wasted_w (cls a : Nat) : (d.wasted h cls).w a = d.w a := rfl

theorem wasted_rsp (cls : Nat) (g : Half) : (d.wasted h cls).rsp g = d.rsp g := rfl

variable {d h c b} {d0 : Dev} {ws es : List Nat}

theorem touchesBy_trsCountIf (ht : d0.touchesBy d0.backResp d ws es) (hm : trsPg h + 0x360 + 4 * c ∈ ws) :
    d0.touchesBy d0.backResp (d.trsCountIf b h c) ws es := by
  cases b
  · exact ht
  · exact Dev.touchesBy.setw (restores_resp d0) ht hm _

theorem touchesBy_wasted (ht : d0.touchesBy d0.backResp d ws es) (cls : Nat) : d0.touchesBy d0.backResp (d.wasted h cls) ws es :=
  Dev.touchesBy.perf (restores_resp d0) ht _ _ _ _ _

theorem touchesBy_dropReq (ht : d0.touchesBy d0.backResp d ws es) (id : Nat) : d0.touchesBy d0.backResp (d.dropReq h id) ws es :=
  ht.hidden rfl

theorem touchesBy_putReq (ht : d0.touchesBy d0.backResp d ws es) (r : Req) : d0.touchesBy d0.backResp (d.putReq h r) ws es :=
  ht.hidden rfl

theorem touchesBy_resp_refl (d : Dev) (ws es : List Nat) : d.touchesBy d.backResp d ws es := .of_touches (.refl d ws es)

theorem onlyTouches_backResp {s : State} {e : Dev} (ht : s.dev.touchesBy s.dev.backResp e ws es) :
    s.onlyTouches { s.withDev e with dev := { (s.withDev e).dev with resp := s.dev.resp } } ws es := Dev.touchesBy.onlyTouches ht

end

/-! ### A request that leaves -/

section
variable {d : Dev} {h : Half} {r : Req} {c : Nat}

/-- A request that leaves is counted, and its slot wasted, unless it is a probe (R333, R401). -/
theorem leaveReq_eq : d.leaveReq h r c =
    if r.probe then d.dropReq h r.id else ((d.dropReq h r.id).trsCount h c).wasted h r.cls := rfl

theorem req_leaveReq : (d.leaveReq h r c).req h r.id = none := by
  rw [leaveReq_eq]
  split
  · exact req_dropReq
  · exact (req_congr rfl r.id).trans (req_dropReq (d := d))

theorem leaveReq_w : (d.leaveReq h r c).w (trsPg h + 0x360 + 4 * c) = (d.w (trsPg h + 0x360 + 4 * c) + bitOf (!r.probe)) % 2 ^ 32 := by
  rw [leaveReq_eq]
  cases r.probe
  · exact trsCount_w (d.dropReq h r.id) h c
  · exact (Nat.mod_eq_of_lt (d.w_lt _)).symm

theorem leaveReq_w_ne {a : Nat} (ha : a ≠ trsPg h + 0x360 + 4 * c) : (d.leaveReq h r c).w a = d.w a := by
  rw [leaveReq_eq]
  cases r.probe
  · exact trsCount_w_ne (d.dropReq h r.id) h c ha
  · rfl

theorem touchesBy_leaveReq {d0 : Dev} {ws es : List Nat} (ht : d0.touchesBy d0.backResp d ws es) (hm : trsPg h + 0x360 + 4 * c ∈ ws) :
    d0.touchesBy d0.backResp (d.leaveReq h r c) ws es := by
  rw [leaveReq_eq]
  split
  · exact touchesBy_dropReq ht _
  · exact touchesBy_wasted (touchesBy_trsCountIf (b := true) (touchesBy_dropReq ht _) hm) _

end

/-- A command whose effect is to replace one request. -/
theorem puts_req {c : Instr} {s : State} {f : Dev → Dev} {h : Half} {id : Nat} {r x : Req} (hx : exec c s = .next (s.onDev f))
    (hr : s.dev.req h id = some r) (hid : x.id = r.id) (hf : f s.dev = s.dev.putReq h x) :
    ∃ t, exec c s = .next t ∧ t.dev.req h id = some x ∧ { t.dev with resp := s.dev.resp } = s.dev ∧ s.keepsRest t :=
  ⟨_, hx.trans (next_onDev hf), req_putReq hr (hid.trans (req_id hr)), rfl, s.keepsRest_withDev _⟩

end Sys2Proof.Machine
end

section
/-! PROOF. O52: requests accepted, parsed and classified (R333, R334, R341, R355, R356). -/

namespace Sys2Proof.Machine

/-! ### What a request that is not in the stage named leaves -/

section
variable {h : Half} {id : Nat} {st : Stage} {d : Dev}

/-- No request of an identity is in a stage. -/
def Dev.notIn (d : Dev) (h : Half) (id : Nat) (st : Stage) : Prop := ¬ ∃ r, d.req h id = some r ∧ r.stage = st

theorem Dev.notIn.stage (hn : d.notIn h id st) {r : Req} (hr : d.req h id = some r) : (r.stage != st) = true := by
  rw [bne_iff_ne]
  exact fun hs => hn ⟨r, hr, hs⟩

theorem reqParsed_idle (hn : d.notIn h id .parse) : reqParsed h id d = d := by
  unfold reqParsed
  cases hr : d.req h id with
  | none => rfl
  | some r => exact if_pos (hn.stage hr)

theorem reqClassified_idle (hn : d.notIn h id .classify) : reqClassified h id d = d := by
  unfold reqClassified
  cases hr : d.req h id with
  | none => rfl
  | some r => exact if_pos (hn.stage hr)

theorem rateChecked_idle (hn : d.notIn h id .rate ∨ d.inP0 (rltPg h) = false) (credit : Bool) : rateChecked h id credit d = d := by
  unfold rateChecked
  cases hr : d.req h id with
  | none => rfl
  | some r =>
    refine if_pos ?_
    rcases hn with hn | hp
    · simp [hn.stage hr]
    · simp [hp]

theorem reqVerified_idle (hn : d.notIn h id .verify) : reqVerified h id d = d := by
  unfold reqVerified
  cases hr : d.req h id with
  | none => rfl
  | some r => exact if_pos (hn.stage hr)

theorem replyBuilt_idle (hn : d.notIn h id .build) : replyBuilt h id d = d := by
  unfold replyBuilt
  cases hr : d.req h id with
  | none => rfl
  | some r => exact if_pos (hn.stage hr)

theorem replySealed_idle (hn : d.notIn h id .seal) : replySealed h id d = d := by
  unfold replySealed
  cases hr : d.req h id with
  | none => rfl
  | some r => exact if_pos (hn.stage hr)

theorem lateChecked_idle (hn : d.notIn h id .late) : lateChecked h id d = d := by
  unfold lateChecked
  cases hr : d.req h id with
  | none => rfl
  | some r => exact if_pos (hn.stage hr)

end

theorem stages_idle (h : Half) (id : Nat) (s : State) :
    let is := fun st : Stage => ∃ r, s.dev.req h id = some r ∧ r.stage = st
    (¬ is .parse → exec (.requestParse h id) s = .next s) ∧
    (¬ is .classify → exec (.requestClassify h id) s = .next s) ∧
    (¬ is .rate ∨ s.dev.inP0 (rltPg h) = false → ∀ credit, exec (.rateCheck h id credit) s = .next s) ∧
    (¬ is .verify → exec (.requestVerify h id) s = .next s) ∧
    (¬ is .build → exec (.replyBuild h id) s = .next s) ∧
    (¬ is .seal → exec (.replySeal h id) s = .next s) ∧
    (¬ is .late → exec (.lateCheck h id) s = .next s) := by
  intro is
  exact ⟨fun hn => next_onDev (f := reqParsed h id) (reqParsed_idle hn),
    fun hn => next_onDev (f := reqClassified h id) (reqClassified_idle hn),
    fun hn credit => next_onDev (f := rateChecked h id credit) (rateChecked_idle hn credit),
    fun hn => next_onDev (f := reqVerified h id) (reqVerified_idle hn),
    fun hn => next_onDev (f := replyBuilt h id) (replyBuilt_idle hn),
    fun hn => next_onDev (f := replySealed h id) (replySealed_idle hn),
    fun hn => next_onDev (f := lateChecked h id) (lateChecked_idle hn)⟩

/-! ### The responder's input -/

/-- Where a request dropped at the classifier counts (R334, R421). -/
def dropReg (h : Half) (r : Req) : Nat :=
  if r.origin.isSome then redPg h + Reg.RED.MIRROR_RXDROP.off
  else if r.bridged then swcPg h.other + Reg.SWC.BRIDGE_DROP.off else swcW h (r.desc.port / 2) + Reg.SWC.SVC_DROP.off

/-- The request that waits longest dropped, and counted. -/
def Dev.dropped (d : Dev) (h : Half) (r : Req) : Dev :=
  if r.origin.isSome then (d.dropReq h r.id).inc (redPg h) Reg.RED.MIRROR_RXDROP
  else if r.bridged then (d.dropReq h r.id).inc (swcPg h.other) Reg.SWC.BRIDGE_DROP
  else (d.dropReq h r.id).inc (swcW h (r.desc.port / 2)) Reg.SWC.SVC_DROP

section
variable {d : Dev} {h : Half} {r : Req}

theorem reqAccepted_eq (hr : (d.rsp h).reqs.find? (fun r => r.stage == .arrived) = some r) : reqAccepted h d =
    if d.trsOn h && !(d.inP0 (trsPg h)) then d
    else if d.trsOn h && decide (d.creditsUsed h < 512) then d.putReq h { r with stage := .parse, lead := d.leadNs h }
    else d.dropped h r := by
  unfold reqAccepted Dev.dropped
  simp only [hr]

/-- A whole word that is a counter counts one. -/
theorem inc_w (d : Dev) (b : Nat) {f : Fld} (h0 : f.lo = 0) (hl : f.len = 32) :
    (d.inc b f).w (b + f.off) = (d.w (b + f.off) + 1) % 2 ^ 32 := by
  have hg : ∀ e : Dev, e.g b f = e.w (b + f.off) := fun e => by
    unfold Dev.g getBits
    rw [h0, hl, Nat.pow_zero, Nat.div_one, Nat.mod_eq_of_lt (e.w_lt _)]
  have hx := Dev.g_inc_same d b f (by rw [h0, hl])
  rw [hg, hg, hl] at hx
  exact hx

theorem dropReq_w (id a : Nat) : (d.dropReq h id).w a = d.w a := rfl

theorem dropped_w : (d.dropped h r).w (dropReg h r) = (d.w (dropReg h r) + 1) % 2 ^ 32 := by
  rw [← dropReq_w (d := d) (h := h) r.id (dropReg h r)]
  unfold Dev.dropped dropReg
  generalize d.dropReq h r.id = e
  by_cases ho : r.origin.isSome = true
  · rw [if_pos ho, if_pos ho]
    exact inc_w e _ rfl rfl
  · rw [if_neg ho, if_neg ho]
    by_cases hb : r.bridged = true
    · rw [if_pos hb, if_pos hb]
      exact inc_w e _ rfl rfl
    · rw [if_neg hb, if_neg hb]
      exact inc_w e _ rfl rfl

theorem inc_rsp (d : Dev) (b : Nat) (f : Fld) (g : Half) : (d.inc b f).rsp g = d.rsp g := rfl

theorem dropped_reqs : ((d.dropped h r).rsp h).reqs = (d.rsp h).reqs.filter fun x => x.id != r.id := by
  rw [← reqs_dropReq]
  unfold Dev.dropped
  generalize d.dropReq h r.id = e
  split
  · rw [inc_rsp]
  · split <;> rw [inc_rsp]

theorem dropped_touches : d.touchesBy d.backResp (d.dropped h r) [dropReg h r] [] := by
  have h0 (ws : List Nat) := touchesBy_dropReq (h := h) (touchesBy_resp_refl d ws []) r.id
  unfold Dev.dropped dropReg
  generalize d.dropReq h r.id = e at h0
  split
  · exact Dev.touchesBy.inc (restores_resp d) (h0 _) (List.mem_singleton_self _) 1
  · split
    · exact Dev.touchesBy.inc (restores_resp d) (h0 _) (List.mem_singleton_self _) 1
    · exact Dev.touchesBy.inc (restores_resp d) (h0 _) (List.mem_singleton_self _) 1

end

theorem responderAccept_none (h : Half) (s : State) (hr : (s.dev.rsp h).reqs.find? (fun x => x.stage == .arrived) = none) :
    exec (.responderAccept h) s = .next s := by
  refine next_onDev (f := reqAccepted h) ?_
  unfold reqAccepted
  simp only [hr]

theorem responderAccept_first (h : Half) (r : Req) (s : State) (hr : (s.dev.rsp h).reqs.find? (fun x => x.stage == .arrived) = some r) :
    (s.dev.trsOn h = true → s.dev.inP0 (trsPg h) = false → exec (.responderAccept h) s = .next s) ∧
    (s.dev.trsOn h = true → s.dev.inP0 (trsPg h) = true → s.dev.creditsUsed h < 512 →
      ∃ t, exec (.responderAccept h) s = .next t ∧
        (t.dev.rsp h).reqs = (s.dev.rsp h).reqs.map (fun x =>
          if x.id = r.id then { r with stage := .parse, lead := s.dev.leadNs h } else x) ∧
        { t.dev with resp := s.dev.resp } = s.dev ∧ s.keepsRest t) ∧
    ((s.dev.trsOn h = false ∨ (s.dev.inP0 (trsPg h) = true ∧ 512 ≤ s.dev.creditsUsed h)) →
      ∃ t, exec (.responderAccept h) s = .next t ∧
        (t.dev.rsp h).reqs = (s.dev.rsp h).reqs.filter (fun x => x.id != r.id) ∧
        t.dev.w (dropReg h r) = (s.dev.w (dropReg h r) + 1) % 2 ^ 32 ∧
        s.onlyTouches { t with dev := { t.dev with resp := s.dev.resp } } [dropReg h r] []) := by
  have hx := reqAccepted_eq hr
  refine ⟨fun hon hp => next_onDev (f := reqAccepted h) (hx.trans (if_pos (by simp [hon, hp]))), fun hon hp hc => ?_, fun hd => ?_⟩
  · have hput := hx.trans ((if_neg (by simp [hp])).trans (if_pos (by simp [hon, hc])))
    exact ⟨_, next_onDev (f := reqAccepted h) hput, reqs_putReq, rfl, s.keepsRest_withDev _⟩
  · have hdrop : reqAccepted h s.dev = s.dev.dropped h r := by
      rw [hx]
      rcases hd with hoff | ⟨hp, hc⟩
      · exact (if_neg (by simp [hoff])).trans (if_neg (by simp [hoff]))
      · exact (if_neg (by simp [hp])).trans (if_neg (by simp; omega))
    exact ⟨_, next_onDev (f := reqAccepted h) hdrop, dropped_reqs, dropped_w, onlyTouches_backResp dropped_touches⟩

/-! ### Parse -/

theorem reqParsed_eq {d : Dev} {h : Half} {id : Nat} {r : Req} (hr : d.req h id = some r) (hs : r.stage = .parse) :
    reqParsed h id d = if parseOk r.ent (msgOf r.bytes) then d.putReq h { r with stage := .classify } else d.leaveReq h r 4 := by
  unfold reqParsed
  rw [hr]
  exact if_neg (by simp [hs])

/-- The counters of a TRS page by their addresses. -/
theorem trsCounter_addr (h : Half) (c : Nat) {a : Nat} (ha : a = 0x360 + 4 * c) : trsPg h + a = trsPg h + 0x360 + 4 * c := by
  omega

theorem requestParse_spec (h : Half) (id : Nat) (r : Req) (s : State) (hr : s.dev.req h id = some r) (hs : r.stage = .parse) :
    (parseOk r.ent (msgOf r.bytes) = true →
      ∃ t, exec (.requestParse h id) s = .next t ∧ t.dev.req h id = some { r with stage := .classify } ∧
        { t.dev with resp := s.dev.resp } = s.dev ∧ s.keepsRest t) ∧
    (parseOk r.ent (msgOf r.bytes) = false →
      ∃ t, exec (.requestParse h id) s = .next t ∧ t.dev.req h id = none ∧
        t.dev.w (trsPg h + 0x370) = (s.dev.w (trsPg h + 0x370) + bitOf (!r.probe)) % 2 ^ 32 ∧
        s.onlyTouches { t with dev := { t.dev with resp := s.dev.resp } } [trsPg h + 0x370] []) := by
  have hx := reqParsed_eq hr hs
  rw [trsCounter_addr h 4 (by decide : 0x370 = 0x360 + 4 * 4)]
  refine ⟨fun hp => puts_req (f := reqParsed h id) rfl hr rfl (hx.trans (if_pos hp)), fun hp => ?_⟩
  have hl : reqParsed h id s.dev = s.dev.leaveReq h r 4 := hx.trans (if_neg (by simp [hp]))
  refine ⟨_, next_onDev (f := reqParsed h id) hl, ?_, leaveReq_w,
    onlyTouches_backResp (touchesBy_leaveReq (touchesBy_resp_refl s.dev _ _) (List.mem_singleton_self _))⟩
  have hgone : (s.dev.leaveReq h r 4).req h r.id = none := req_leaveReq
  rwa [req_id hr] at hgone

/-! ### Classify -/

section
variable {d : Dev} {h : Half} {id : Nat} {r : Req}

/-- A request that its half counts: no probe, and none mirrored (R401, R422). -/
def Req.own (r : Req) : Bool := !r.probe && r.origin.isNone

/-- The stage after Classify. -/
def Req.nextStage (r : Req) : Stage := if r.own then .rate else .verify

/-- A rate profile's words. -/
def Dev.rateProfile (d : Dev) (h : Half) (r : Req) : List Nat :=
  (List.range 3).map fun i => d.w (rltPg h + 0x100 + 0x10 * entBits r.ent 6 20 2 + 4 * i)

/-- The PTP service that answers a request, and as what (R355, R356). -/
def Dev.ptpFound (d : Dev) (h : Half) (r : Req) : Option (Nat × ReqKind) :=
  (d.ptpService h r.ent (ptpDomain (msgOf r.bytes).body)).bind fun n =>
    (ptpAnswered (d.gb (trsPg h) Reg.TRS.PTPCFG_PAD_REQ) (d.svcCfg h n) (msgOf r.bytes)
      (r.origin.isSome || (d.delayGrant h n (msgOf r.bytes)).isSome)).map fun k => (n, k)

theorem own_stage (r : Req) : (if r.probe || r.origin.isSome then Stage.verify else Stage.rate) = r.nextStage := by
  unfold Req.nextStage Req.own
  cases r.probe <;> cases r.origin <;> rfl

theorem own_count (r : Req) (d : Dev) (h : Half) (c : Nat) :
    (if r.probe || r.origin.isSome then d else d.trsCount h c) = d.trsCountIf r.own h c := by
  unfold Dev.trsCountIf Req.own
  cases r.probe <;> cases r.origin <;> rfl

theorem reqClassified_ntp (hr : d.req h id = some r) (hs : r.stage = .classify) (hp : (msgOf r.bytes).isPtp = false) :
    reqClassified h id d = match ntpAnswered r.ent (msgOf r.bytes).body with
      | none => (d.trsCountIf r.own h 0).leaveReq h { r with kind := .ntp } 5
      | some k => (d.trsCountIf r.own h (if k = .nts then 1 else 0)).putReq h
          { r with stage := r.nextStage, kind := k, prof := d.rateProfile h r, scale := d.scale h (entBits r.ent 6 16 4) } := by
  unfold reqClassified
  rw [hr]
  dsimp only
  rw [if_neg (by simp [hs]), if_neg (by simp [hp])]
  simp only [own_stage, own_count] <;> rfl

theorem reqClassified_ptp (hr : d.req h id = some r) (hs : r.stage = .classify) (hp : (msgOf r.bytes).isPtp = true) :
    reqClassified h id d = match d.ptpFound h r with
      | none => (d.trsCountIf r.own h 2).leaveReq h { r with kind := .delayReq } 5
      | some (n, k) => (d.trsCountIf r.own h 2).putReq h
          { r with stage := r.nextStage, kind := k, svc := n, cfg := d.svcCfg h n, prof := d.rateProfile h r
                   spp := d.w (trsPg h + 0x340 + 8 * cfgBits (d.svcCfg h n) Reg.TRS.AUTH_SPP_IDX) } := by
  unfold reqClassified
  rw [hr]
  dsimp only
  rw [if_neg (by simp [hs]), if_pos hp]
  simp only [own_stage, own_count]
  unfold Dev.ptpFound
  cases d.ptpService h r.ent (ptpDomain (msgOf r.bytes).body) with
  | none => rfl
  | some n =>
    dsimp only [Option.bind_some]
    cases ptpAnswered (d.gb (trsPg h) Reg.TRS.PTPCFG_PAD_REQ) (d.svcCfg h n) (msgOf r.bytes)
      (r.origin.isSome || (d.delayGrant h n (msgOf r.bytes)).isSome) <;> rfl

end

/-- A request classified: it is counted and passes on. -/
theorem classified_puts {h : Half} {id c : Nat} {r x : Req} {b : Bool} {s : State} (hr : s.dev.req h id = some r) (hid : x.id = r.id)
    (hx : reqClassified h id s.dev = (s.dev.trsCountIf b h c).putReq h x) :
    ∃ t, exec (.requestClassify h id) s = .next t ∧ t.dev.req h id = some x ∧
      t.dev.w (trsPg h + 0x360 + 4 * c) = (s.dev.w (trsPg h + 0x360 + 4 * c) + bitOf b) % 2 ^ 32 ∧
      s.onlyTouches { t with dev := { t.dev with resp := s.dev.resp } } [trsPg h + 0x360 + 4 * c] [] := by
  refine ⟨_, next_onDev (f := reqClassified h id) hx, ?_, trsCountIf_w s.dev h c b, onlyTouches_backResp
    (touchesBy_putReq (touchesBy_trsCountIf (touchesBy_resp_refl s.dev _ _) (List.mem_singleton_self _)) _)⟩
  exact req_putReq ((req_congr (trsCountIf_rsp s.dev h c b h) id).trans hr) (hid.trans (req_id hr))

/-- A request that Classify finds no answer for: it is counted and leaves. -/
theorem classified_leaves {h : Half} {id c : Nat} {r x : Req} {b : Bool} {s : State} (hr : s.dev.req h id = some r) (hid : x.id = r.id)
    (hp : x.probe = r.probe) (hc : c ≠ 5) (hx : reqClassified h id s.dev = (s.dev.trsCountIf b h c).leaveReq h x 5) :
    ∃ t, exec (.requestClassify h id) s = .next t ∧ t.dev.req h id = none ∧
      t.dev.w (trsPg h + 0x360 + 4 * c) = (s.dev.w (trsPg h + 0x360 + 4 * c) + bitOf b) % 2 ^ 32 ∧
      t.dev.w (trsPg h + 0x360 + 4 * 5) = (s.dev.w (trsPg h + 0x360 + 4 * 5) + bitOf (!r.probe)) % 2 ^ 32 ∧
      s.onlyTouches { t with dev := { t.dev with resp := s.dev.resp } } [trsPg h + 0x360 + 4 * c, trsPg h + 0x360 + 4 * 5] [] := by
  refine ⟨_, next_onDev (f := reqClassified h id) hx, ?_, ?_, ?_, onlyTouches_backResp (touchesBy_leaveReq
    (touchesBy_trsCountIf (touchesBy_resp_refl s.dev _ _) (List.mem_cons_self ..)) (List.mem_cons_of_mem _ (List.mem_singleton_self _)))⟩
  · have hgone : ((s.dev.trsCountIf b h c).leaveReq h x 5).req h x.id = none := req_leaveReq
    rwa [hid, req_id hr] at hgone
  · exact (leaveReq_w_ne (by omega)).trans (trsCountIf_w s.dev h c b)
  · refine (leaveReq_w (d := s.dev.trsCountIf b h c)).trans ?_
    rw [trsCountIf_w_ne s.dev h c b (by omega), hp]

theorem requestClassify_ntp (h : Half) (id : Nat) (r : Req) (s : State) (hr : s.dev.req h id = some r) (hs : r.stage = .classify)
    (hp : (msgOf r.bytes).isPtp = false) :
    (∀ k, ntpAnswered r.ent (msgOf r.bytes).body = some k →
      let c := trsPg h + (if k = .nts then 0x364 else 0x360)
      ∃ t, exec (.requestClassify h id) s = .next t ∧
        t.dev.req h id = some { r with stage := if r.own then .rate else .verify, kind := k, prof := s.dev.rateProfile h r
                                       scale := s.dev.scale h (entBits r.ent 6 16 4) } ∧
        t.dev.w c = (s.dev.w c + bitOf r.own) % 2 ^ 32 ∧
        s.onlyTouches { t with dev := { t.dev with resp := s.dev.resp } } [c] []) ∧
    (ntpAnswered r.ent (msgOf r.bytes).body = none →
      ∃ t, exec (.requestClassify h id) s = .next t ∧ t.dev.req h id = none ∧
        t.dev.w (trsPg h + 0x360) = (s.dev.w (trsPg h + 0x360) + bitOf r.own) % 2 ^ 32 ∧
        t.dev.w (trsPg h + 0x374) = (s.dev.w (trsPg h + 0x374) + bitOf (!r.probe)) % 2 ^ 32 ∧
        s.onlyTouches { t with dev := { t.dev with resp := s.dev.resp } } [trsPg h + 0x360, trsPg h + 0x374] []) := by
  have hx := reqClassified_ntp hr hs hp
  constructor
  · intro k hk
    rw [hk] at hx
    have hc : trsPg h + (if k = .nts then 0x364 else 0x360) = trsPg h + 0x360 + 4 * (if k = .nts then 1 else 0) := by split <;> omega
    intro c
    rw [show c = _ from hc]
    exact classified_puts hr rfl hx
  · intro hk
    rw [hk] at hx
    rw [trsCounter_addr h 5 (by decide : 0x374 = 0x360 + 4 * 5)]
    exact classified_leaves (x := { r with kind := .ntp }) hr rfl rfl (c := 0) (by decide) hx

theorem requestClassify_ptp (h : Half) (id : Nat) (r : Req) (s : State) (hr : s.dev.req h id = some r) (hs : r.stage = .classify)
    (hp : (msgOf r.bytes).isPtp = true) :
    (∀ n k, s.dev.ptpFound h r = some (n, k) →
      ∃ t, exec (.requestClassify h id) s = .next t ∧
        t.dev.req h id = some { r with
          stage := if r.own then .rate else .verify, kind := k, svc := n, cfg := s.dev.svcCfg h n, prof := s.dev.rateProfile h r
          spp := s.dev.w (trsPg h + 0x340 + 8 * cfgBits (s.dev.svcCfg h n) Reg.TRS.AUTH_SPP_IDX) } ∧
        t.dev.w (trsPg h + 0x368) = (s.dev.w (trsPg h + 0x368) + bitOf r.own) % 2 ^ 32 ∧
        s.onlyTouches { t with dev := { t.dev with resp := s.dev.resp } } [trsPg h + 0x368] []) ∧
    (s.dev.ptpFound h r = none →
      ∃ t, exec (.requestClassify h id) s = .next t ∧ t.dev.req h id = none ∧
        t.dev.w (trsPg h + 0x368) = (s.dev.w (trsPg h + 0x368) + bitOf r.own) % 2 ^ 32 ∧
        t.dev.w (trsPg h + 0x374) = (s.dev.w (trsPg h + 0x374) + bitOf (!r.probe)) % 2 ^ 32 ∧
        s.onlyTouches { t with dev := { t.dev with resp := s.dev.resp } } [trsPg h + 0x368, trsPg h + 0x374] []) := by
  have hx := reqClassified_ptp hr hs hp
  rw [trsCounter_addr h 2 (by decide : 0x368 = 0x360 + 4 * 2), trsCounter_addr h 5 (by decide : 0x374 = 0x360 + 4 * 5)]
  constructor
  · intro n k hf
    rw [hf] at hx
    exact classified_puts hr rfl hx
  · intro hf
    rw [hf] at hx
    exact classified_leaves (x := { r with kind := .delayReq }) hr rfl rfl (by decide) hx

end Sys2Proof.Machine
end

section
/-! PROOF. O52: a service entry commits (R331), a word of HKEY is written (R369). -/

namespace Sys2Proof.Machine

/-- The device with consecutive words written. -/
def Dev.putWords (d : Dev) (b : Nat) (v : Nat → Nat) (n : Nat) : Dev := (List.range n).foldl (fun x i => x.setw (b + 4 * i) (v i)) d

section
variable (d : Dev) (b : Nat) (v : Nat → Nat)

theorem putWords_succ (n : Nat) : d.putWords b v (n + 1) = (d.putWords b v n).setw (b + 4 * n) (v n) := by
  unfold Dev.putWords
  rw [List.range_succ, List.foldl_append]
  rfl

theorem putWords_w {n i : Nat} (hi : i < n) : (d.putWords b v n).w (b + 4 * i) = v i % 2 ^ 32 := by
  induction n with
  | zero => omega
  | succ n ih =>
    rw [putWords_succ, Dev.w_setw]
    by_cases hin : i = n
    · rw [if_pos (by rw [hin]), hin]
    · rw [if_neg (by omega)]
      exact ih (by omega)

theorem putWords_w_out {n a : Nat} (ha : ∀ i < n, a ≠ b + 4 * i) : (d.putWords b v n).w a = d.w a := by
  induction n with
  | zero => rfl
  | succ n ih =>
    rw [putWords_succ, Dev.w_setw, if_neg (ha n (by omega))]
    exact ih fun i hi => ha i (by omega)

theorem putWords_evt (n pg k : Nat) : (d.putWords b v n).evt pg k = d.evt pg k := by
  induction n with
  | zero => rfl
  | succ n ih => rw [putWords_succ]; exact ih

theorem touches_putWords {d0 : Dev} {ws es : List Nat} (ht : d0.touches d ws es) {n : Nat} (hm : ∀ i < n, b + 4 * i ∈ ws) :
    d0.touches (d.putWords b v n) ws es := by
  induction n with
  | zero => exact ht
  | succ n ih =>
    rw [putWords_succ]
    exact (ih fun i hi => hm i (by omega)).setw (hm n (by omega)) _

end

/-! ### A service entry -/

/-- The staged words put back. -/
def Dev.backStage (d e : Dev) : Dev := { e with svcStage := d.svcStage }

theorem restores_stage (d : Dev) : Restores d.backStage := ⟨fun _ _ _ => rfl, fun _ _ _ => rfl, fun _ _ _ _ _ _ => rfl⟩

/-- The staged words 0 to 6 of an entry gone. -/
def Dev.unstaged (d : Dev) (b : Nat) : Dev :=
  { d with svcStage := (List.range 7).foldl (fun (t : Tab (Option Word)) i => t.erase (b + 4 * i)) d.svcStage }

/-- What a committed entry leaves in ACTRL. -/
def actrlTaken (bad : Bool) (v : Nat) : Nat := if bad then v % 2 ^ 31 else v

/-- An entry with its words 0 to 6 from a list and word 7 given. -/
def Dev.entryPut (d : Dev) (h : Half) (a : Nat) (e : List Nat) (bad : Bool) (v : Nat) : Dev :=
  (((d.putWords (trsEnt h a) (fun i => e[i]?.getD 0) 7).unstaged (trsEnt h a)).setw (trsEnt h a + 28) (actrlTaken bad v)).raiseIf
    bad (trsPg h) 1

theorem svcWordWritten_commit (h : Half) (a v : Nat) (d : Dev) {v1 : Nat} {e : List Nat} (hv : mergeWrite (trsEnt h a + 28) 0 v = v1)
    (he : d.stagedEntry h a v1 = e) : svcWordWritten h a 7 v d = d.entryPut h a e (bitAt v1 31 && d.entryRefused h a e) v1 := by
  subst he hv
  unfold svcWordWritten
  exact if_neg (Nat.lt_irrefl 7)

theorem stagedEntry_lt (d : Dev) (h : Half) (a v : Nat) {i : Nat} (hi : i < 7) : ((d.stagedEntry h a v)[i]?.getD 0) < 2 ^ 32 := by
  unfold Dev.stagedEntry
  rw [List.getElem?_append_left (by simpa using hi), List.getElem?_map, List.getElem?_range hi]
  dsimp only [Option.map_some, Option.getD_some]
  split
  · exact BitVec.isLt _
  · exact d.w_lt _

theorem trsEvt_implemented (h : Half) : evtImplemented (trsPg h) 1 = true := by
  cases h <;> decide

section
variable (d : Dev) (h : Half) (a : Nat) (e : List Nat) (bad : Bool) (v : Nat)

theorem unstaged_w (b x : Nat) : (d.unstaged b).w x = d.w x := rfl

theorem raiseIf_w (pg k x : Nat) : (d.raiseIf bad pg k).w x = d.w x := rfl

theorem entryPut_w {i : Nat} (hi : i < 7) (he : (e[i]?.getD 0) < 2 ^ 32) :
    (d.entryPut h a e bad v).w (trsEnt h a + 4 * i) = e[i]?.getD 0 := by
  unfold Dev.entryPut
  rw [raiseIf_w, Dev.w_setw, if_neg (by omega), unstaged_w, putWords_w _ _ _ hi, Nat.mod_eq_of_lt he]

theorem entryPut_actrl (hv : v < 2 ^ 32) : (d.entryPut h a e bad v).w (trsEnt h a + 28) = actrlTaken bad v := by
  unfold Dev.entryPut
  rw [raiseIf_w, Dev.w_setw, if_pos rfl]
  refine Nat.mod_eq_of_lt ?_
  unfold actrlTaken
  split <;> omega

theorem raiseIf_evt {pg k : Nat} (hi : evtImplemented pg k = true) :
    (d.raiseIf bad pg k).evt pg k = if bad then (d.evt pg k).occur else d.evt pg k := by
  cases bad
  · rfl
  · exact (evt_raiseIf_own d pg k pg k).trans (d.evt_raise_own hi)

theorem setw_unstaged_evt (b x y pg k : Nat) : ((d.unstaged b).setw x y).evt pg k = d.evt pg k := rfl

theorem entryPut_evt : (d.entryPut h a e bad v).evt (trsPg h) 1 = if bad then (d.evt (trsPg h) 1).occur else d.evt (trsPg h) 1 := by
  unfold Dev.entryPut
  rw [raiseIf_evt _ _ (trsEvt_implemented h), setw_unstaged_evt, putWords_evt]

theorem unstaged_back (d0 : Dev) (b : Nat) : d0.backStage (d.unstaged b) = d0.backStage d := rfl

theorem touchesBy_entryPut {d0 : Dev} (ht : d0.touches d ((List.range 8).map fun i => trsEnt h a + 4 * i) [trsPg h + 1])
    (hs : d.svcStage = d0.svcStage) :
    d0.touchesBy d0.backStage (d.entryPut h a e bad v) ((List.range 8).map fun i => trsEnt h a + 4 * i) [trsPg h + 1] := by
  have hin : ∀ i < 8, trsEnt h a + 4 * i ∈ (List.range 8).map fun i => trsEnt h a + 4 * i := fun i hi =>
    List.mem_map_of_mem (List.mem_range.2 hi)
  have hput := touches_putWords d (trsEnt h a) (fun i => e[i]?.getD 0) ht (n := 7) fun i hi => hin i (by omega)
  have hst : (d.putWords (trsEnt h a) (fun i => e[i]?.getD 0) 7).svcStage = d0.svcStage := by
    rw [← hs]
    unfold Dev.putWords
    exact foldl_keeps (g := fun x : Dev => x.svcStage) (f := fun x i => x.setw (trsEnt h a + 4 * i) (e[i]?.getD 0)) (fun _ _ => rfl) _ _
  have hback : d0.touchesBy d0.backStage (d.putWords (trsEnt h a) (fun i => e[i]?.getD 0) 7) _ _ := .of_touches (by
    unfold Dev.backStage
    rw [← hst]
    exact hput)
  have h1 := hback.hidden (unstaged_back _ d0 (trsEnt h a))
  have h2 := Dev.touchesBy.setw (restores_stage d0) h1 (hin 7 (by omega)) (actrlTaken bad v)
  exact Dev.touchesBy.raiseIf (restores_stage d0) h2 (List.mem_singleton_self _) bad

end

theorem svcEntryCommit_spec (m : Master) (h : Half) (a : Fin 64) (v : Word) (s : State) (hw : s.writable m (trsEnt h a.val + 28)) :
    let v1 := mergeWrite (trsEnt h a.val + 28) 0 v.toNat
    let e := s.dev.stagedEntry h a.val v1
    let bad := bitAt v1 31 && s.dev.entryRefused h a.val e
    ∃ t, exec (.svcEntryCommit m h a v) s = .next t ∧
      (∀ i < 7, t.dev.w (trsEnt h a.val + 4 * i) = (e[i]?.getD 0)) ∧
      t.dev.w (trsEnt h a.val + 28) = (if bad then v1 % 2 ^ 31 else v1) ∧
      t.dev.evt (trsPg h) 1 = (if bad then (s.dev.evt (trsPg h) 1).occur else s.dev.evt (trsPg h) 1) ∧
      s.onlyTouches { t with dev := { t.dev with svcStage := s.dev.svcStage } }
        ((List.range 8).map fun i => trsEnt h a.val + 4 * i) [trsPg h + 1] := by
  intro v1 e bad
  have hx := exec_of_writeAt (c := .svcEntryCommit m h a v) (f := svcWordWritten h a.val 7 v.toNat) rfl hw
  have hv : v1 < 2 ^ 32 := mergeWrite_lt _ (by decide) v.isLt
  have he : ∀ i < 7, (e[i]?.getD 0) < 2 ^ 32 := fun i hi => stagedEntry_lt s.dev h a.val v1 hi
  have hst : (s.dev.regAccess m (trsEnt h a.val + 28)).stagedEntry h a.val v1 = e := rfl
  have hbad : (bitAt v1 31 && (s.dev.regAccess m (trsEnt h a.val + 28)).entryRefused h a.val e) = bad := rfl
  have hto := Dev.touches_regAccess s.dev m (trsEnt h a.val + 28) ((List.range 8).map fun i => trsEnt h a.val + 4 * i) [trsPg h + 1]
  have hss : (s.dev.regAccess m (trsEnt h a.val + 28)).svcStage = s.dev.svcStage := rfl
  have hev : (s.dev.regAccess m (trsEnt h a.val + 28)).evt (trsPg h) 1 = s.dev.evt (trsPg h) 1 := rfl
  rw [svcWordWritten_commit h a.val v.toNat _ (v1 := v1) rfl hst, hbad] at hx
  generalize s.dev.regAccess m (trsEnt h a.val + 28) = d at hx hto hss hev
  clear_value v1 e bad
  refine ⟨_, hx, fun i hi => entryPut_w d h a.val e bad v1 hi (he i hi), entryPut_actrl d h a.val e bad v1 hv, ?_, ?_⟩
  · rw [← hev]
    exact entryPut_evt d h a.val e bad v1
  · exact Dev.touchesBy.onlyTouches (touchesBy_entryPut d h a.val e bad v1 hto hss)

theorem hkeyWrite_spec (m : Master) (h : Half) (w : Fin 4) (v : Word) (s : State) (hw : s.writable m (rltPg h + 0x140 + 4 * w.val)) :
    ∃ t, exec (.hkeyWrite m h w v) s = .next t ∧ t.dev.w (rltPg h + 0x140 + 4 * w.val) = v.toNat ∧
      s.onlyTouches t [rltPg h + 0x140 + 4 * w.val] [] := by
  refine ⟨_, exec_of_writeAt (f := hkeyWritten h w.val v.toNat) rfl hw, ?_,
    ((Dev.touches_regAccess s.dev m _ _ _).setw (List.mem_singleton_self _) v.toNat).onlyTouches⟩
  rw [State.withDev_dev]
  unfold hkeyWritten
  rw [Dev.w_setw, if_pos rfl, Nat.mod_eq_of_lt v.isLt]

end Sys2Proof.Machine
end

section
/-! PROOF. O52: the rate check (R351 to R354), with the mirror record of an admitted request (R421). -/

namespace Sys2Proof.Machine

/-! ### OCC and the buckets -/

section
variable (d : Dev) (h : Half)

/-- RL_OCC50 fires where OCC stands at half and is armed (R354). -/
def Dev.occFires (d : Dev) (h : Half) : Bool := (d.rsp h).occArm && decide (32768 ≤ d.occupied h)

/-- The responders with OCC's arming renewed. -/
def Dev.occArmed (d : Dev) (h : Half) : RespSt :=
  { d.rsp h with occArm := if d.occFires h then false else (d.rsp h).occArm || decide (d.occupied h < 24576) }

theorem occCheck_eq : d.occCheck h =
    ((d.p (rltPg h) Reg.RLT.OCC (d.occupied h)).setRsp h (d.occArmed h)).raiseIf (d.occFires h) (rltPg h) 0 := rfl

theorem setRsp_raiseIf_rsp (v : RespSt) (b : Bool) (pg k : Nat) : ((d.setRsp h v).raiseIf b pg k).rsp h = v :=
  rsp_setRsp d h v

theorem occCheck_reqs : ((d.occCheck h).rsp h).reqs = (d.rsp h).reqs := by
  rw [occCheck_eq, setRsp_raiseIf_rsp]
  rfl

theorem req_of_reqs {d e : Dev} {h : Half} (hr : (e.rsp h).reqs = (d.rsp h).reqs) (id : Nat) : e.req h id = d.req h id := by
  unfold Dev.req
  rw [hr]

theorem occCheck_req (id : Nat) : (d.occCheck h).req h id = d.req h id := req_of_reqs (occCheck_reqs d h) id

theorem occTaken_buckets (f : Fld) (n : Nat) (v : RespSt) (b : Bool) (pg k : Nat) :
    (((d.p pg f n).setRsp h v).raiseIf b pg k).buckets = d.buckets := rfl

theorem occTaken_tbs (f : Fld) (n : Nat) (v : RespSt) (b : Bool) (pg k : Nat) :
    (((d.p pg f n).setRsp h v).raiseIf b pg k).tbs = d.tbs := rfl

theorem occCheck_buckets : (d.occCheck h).buckets = d.buckets := by
  rw [occCheck_eq, occTaken_buckets]

theorem occCheck_tbs : (d.occCheck h).tbs = d.tbs := by
  rw [occCheck_eq, occTaken_tbs]

theorem occCheck_regs : (d.occCheck h).regs = (d.p (rltPg h) Reg.RLT.OCC (d.occupied h)).regs := rfl

theorem occCheck_g (f : Fld) (hf : f.off ≠ Reg.RLT.OCC.off) : (d.occCheck h).g (rltPg h) f = d.g (rltPg h) f :=
  (Dev.g_congr (occCheck_regs d h) _ _).trans (Dev.g_p_ne _ _ _ _ _ _ (by omega))

theorem occCheck_occ (ho : d.occupied h = 0) : (d.occCheck h).g (rltPg h) Reg.RLT.OCC = 0 := by
  refine (Dev.g_congr (occCheck_regs d h) _ _).trans ?_
  rw [Dev.g_p_same _ _ _ _ (by decide), ho]
  rfl

theorem bucket_of_buckets {d e : Dev} (hb : e.buckets = d.buckets) (h : Half) (i : Nat) : e.bucket h i = d.bucket h i := by
  unfold Dev.bucket
  rw [hb]

theorem bucket_setBucket (i : Nat) (b : Bucket) (j : Nat) : (d.setBucket h i b).bucket h j = if j = i then b else d.bucket h j := by
  unfold Dev.bucket Dev.setBucket
  refine (Tab.get_set (fun _ => {}) d.buckets (h.num * 65536 + i) (h.num * 65536 + j) b).trans ?_
  by_cases hj : j = i
  · rw [if_pos (by rw [hj]), if_pos hj]
  · rw [if_neg (by omega), if_neg hj]
    rfl

end

/-! ### CLEAR -/

/-- Every bucket of a half in its reset state. -/
def Dev.bucketsCleared (d : Dev) (h : Half) : Dev :=
  { d with buckets := d.buckets.filter fun (e : Nat × Bucket) => e.1 / 65536 != h.num }

theorem Tab.find?_filter {α : Type} (t : Tab α) (p : Nat → Bool) (k : Nat) :
    Tab.find? (t.filter fun e => p e.1) k = if p k then Tab.find? t k else none := by
  induction t with
  | nil => simp [Tab.find?]
  | cons e t ih =>
    rw [List.filter_cons]
    by_cases hk : k = e.1
    · subst hk
      cases hp : p e.1 <;> simp [Tab.find?, hp, ih]
    · cases hp : p e.1 <;> simp [Tab.find?, hk, ih]

section
variable (d : Dev) (h : Half)

theorem bucket_bucketsCleared (g : Half) {i : Nat} (hi : i < 65536) :
    (d.bucketsCleared h).bucket g i = if g = h then {} else d.bucket g i := by
  have hdiv : (g.num * 65536 + i) / 65536 = g.num := by omega
  unfold Dev.bucket Dev.bucketsCleared tget Tab.get
  dsimp only
  rw [Tab.find?_filter d.buckets (fun k => k / 65536 != h.num), hdiv]
  cases g <;> cases h <;> rfl

theorem occupied_bucketsCleared : (d.bucketsCleared h).occupied h = 0 := by
  unfold Dev.occupied Dev.bucketsCleared
  dsimp only
  rw [List.filter_filter, List.length_eq_zero_iff, List.filter_eq_nil_iff]
  intro e _
  simp only [Bool.and_eq_true, bne_iff_ne, beq_iff_eq, ne_eq, not_and]
  intro hc hn
  exact hn hc.1.1

/-- The responders and the buckets put back. -/
def Dev.backRate (d e : Dev) : Dev := { e with resp := d.resp, buckets := d.buckets }

theorem restores_rate : Restores d.backRate := ⟨fun _ _ _ => rfl, fun _ _ _ => rfl, fun _ _ _ _ _ _ => rfl⟩

theorem raiseIf_false (pg k : Nat) : d.raiseIf false pg k = d := rfl

theorem setRsp_backRate (d0 : Dev) (v : RespSt) : d0.backRate (d.setRsp h v) = d0.backRate d := rfl

theorem bucketsCleared_backRate (d0 : Dev) : d0.backRate (d.bucketsCleared h) = d0.backRate d := rfl

/-- No half of the buckets is occupied: OCC is 0, and no event occurs. -/
theorem touchesBy_occCheck {d0 : Dev} {ws es : List Nat} (ht : d0.touchesBy d0.backRate d ws es) (ho : d.occupied h = 0)
    (hm : rltPg h + Reg.RLT.OCC.off ∈ ws) : d0.touchesBy d0.backRate (d.occCheck h) ws es := by
  have hfire : d.occFires h = false := by
    unfold Dev.occFires
    rw [ho]
    exact Bool.and_false _
  rw [occCheck_eq, hfire, raiseIf_false]
  exact (Dev.touchesBy.p (restores_rate d0) ht hm _).hidden (setRsp_backRate (d.p (rltPg h) Reg.RLT.OCC (d.occupied h)) h d0 (d.occArmed h))

end

theorem rateCleared_eq (h : Half) (d : Dev) : rateCleared h d = (d.bucketsCleared h).occCheck h := rfl

theorem rateClear_spec (m : Master) (h : Half) (s : State) (hw : s.writable m (rltPg h + 0x15C)) :
    ∃ t, exec (.rateClear m h) s = .next t ∧ (∀ i < 65536, t.dev.bucket h i = {}) ∧
      (∀ i < 65536, t.dev.bucket h.other i = s.dev.bucket h.other i) ∧ t.dev.g (rltPg h) Reg.RLT.OCC = 0 ∧
      s.onlyTouches { t with dev := { t.dev with resp := s.dev.resp, buckets := s.dev.buckets } }
        [rltPg h + Reg.RLT.OCC.off] [] := by
  have hx := exec_of_writeAt (c := .rateClear m h) (f := rateCleared h) rfl hw
  rw [rateCleared_eq] at hx
  have hto : s.dev.touchesBy s.dev.backRate (s.dev.regAccess m (rltPg h + 0x15C)) [rltPg h + Reg.RLT.OCC.off] [] :=
    .of_touches (Dev.touches_regAccess s.dev m _ _ _)
  have hb : (s.dev.regAccess m (rltPg h + 0x15C)).buckets = s.dev.buckets := rfl
  generalize s.dev.regAccess m (rltPg h + 0x15C) = d at hx hto hb
  refine ⟨_, hx, fun i hi => ?_, fun i hi => ?_, occCheck_occ _ h (occupied_bucketsCleared d h), ?_⟩
  · rw [State.withDev_dev, bucket_of_buckets (occCheck_buckets _ h), bucket_bucketsCleared d h h hi, if_pos rfl]
  · rw [State.withDev_dev, bucket_of_buckets (occCheck_buckets _ h), bucket_bucketsCleared d h h.other hi,
      if_neg (by cases h <;> decide), bucket_of_buckets hb]
  · exact Dev.touchesBy.onlyTouches (touchesBy_occCheck _ h (hto.hidden (bucketsCleared_backRate d h s.dev))
      (occupied_bucketsCleared d h) (List.mem_singleton_self _))

/-! ### The mirror record of an admitted request -/

/-- An observation that a mirror record leaving does not change. -/
structure MirrorBlind {α : Type} (g : Dev → α) : Prop where
  setw : ∀ d a v, g (Dev.setw d a v) = g d
  raise : ∀ d pg k, g (Dev.raise d pg k) = g d
  perf : ∀ d pg c a k r, g (Dev.perf d pg c a k r) = g d
  bridge : ∀ d h i, g (Dev.toBridge d h i) = g d
  links : ∀ (d : Dev) v, g { d with links := v } = g d
  red : ∀ (d : Dev) v, g { d with red := v } = g d

theorem mirrorBlind_resp : MirrorBlind fun e => e.resp :=
  ⟨fun _ _ _ => rfl, fun _ _ _ => rfl, fun _ _ _ _ _ _ => rfl, fun _ _ _ => rfl, fun _ _ => rfl, fun _ _ => rfl⟩

theorem mirrorBlind_tbs : MirrorBlind fun e => e.tbs :=
  ⟨fun _ _ _ => rfl, fun _ _ _ => rfl, fun _ _ _ _ _ _ => rfl, fun _ _ _ => rfl, fun _ _ => rfl, fun _ _ => rfl⟩

theorem mirrorBlind_buckets : MirrorBlind fun e => e.buckets :=
  ⟨fun _ _ _ => rfl, fun _ _ _ => rfl, fun _ _ _ _ _ _ => rfl, fun _ _ _ => rfl, fun _ _ => rfl, fun _ _ => rfl⟩

section
variable {α : Type} {g : Dev → α} (hg : MirrorBlind g) (d : Dev) (h : Half)
include hg

theorem MirrorBlind.inc (b : Nat) (f : Fld) : g (d.inc b f) = g d := hg.setw _ _ _

theorem MirrorBlind.mirrorDropped : g (d.mirrorDropped h) = g d := by
  unfold Dev.mirrorDropped
  exact keeps_ite (g := g) (hg.inc _ _ _) ((hg.raise _ _ _).trans ((hg.red _ _).trans (hg.inc _ _ _)))

theorem MirrorBlind.mirrorSend (r : Req) (credit : Bool) : g (d.mirrorSend h r credit) = g d := by
  unfold Dev.mirrorSend
  dsimp only
  refine keeps_ite (g := g) rfl (keeps_ite (g := g) (hg.mirrorDropped d h) ?_)
  split
  · unfold Dev.linkSend
    exact (hg.perf _ _ _ _ _ _).trans ((hg.inc _ _ _).trans ((hg.perf _ _ _ _ _ _).trans (hg.links _ _)))
  · split
    · exact (hg.perf _ _ _ _ _ _).trans ((hg.inc _ _ _).trans (hg.bridge _ _ _))
    · exact hg.mirrorDropped d h

end

theorem mirrorSend_off {d : Dev} {h : Half} (r : Req) (credit : Bool) (hoff : d.gb (redPg h) Reg.RED.MIRROR_EN = false) :
    d.mirrorSend h r credit = d := by
  unfold Dev.mirrorSend
  dsimp only
  rw [if_pos (by simp [hoff])]

/-! ### A request denied -/

section
variable (d : Dev) (h : Half)

theorem inc_buckets (b : Nat) (f : Fld) : (d.inc b f).buckets = d.buckets := rfl

theorem perf_buckets (pg c : Nat) (a : PerfAttr) (k r : Nat) : (d.perf pg c a k r).buckets = d.buckets := rfl

theorem perf_reqs (pg c : Nat) (a : PerfAttr) (k r : Nat) : ((d.perf pg c a k r).rsp h).reqs = (d.rsp h).reqs := rfl

/-- RL_DENY raised, at most once per millisecond. -/
def Dev.denyRaised (d : Dev) (h : Half) (ms : Nat) : Dev :=
  if (d.rsp h).denyMs = some ms then d else (d.setRsp h { d.rsp h with denyMs := some ms }).raise (rltPg h) 1

theorem denied_eq (cls : Nat) :
    d.denied h cls = ((d.inc (rltPg h) Reg.RLT.DENIED).perf (rltPg h) 0x02 { cls := some cls }).denyRaised h (d.tb0 h / ns32 1000000) := rfl

theorem setRsp_raise_rsp (v : RespSt) (pg k : Nat) : ((d.setRsp h v).raise pg k).rsp h = v :=
  rsp_setRsp d h v

theorem denyRaised_reqs (ms : Nat) : ((d.denyRaised h ms).rsp h).reqs = (d.rsp h).reqs := by
  unfold Dev.denyRaised
  split
  · rfl
  · rw [setRsp_raise_rsp]

theorem denyRaised_g (ms b : Nat) (f : Fld) : (d.denyRaised h ms).g b f = d.g b f := by
  unfold Dev.denyRaised
  split <;> rfl

theorem denyRaised_buckets (ms : Nat) : (d.denyRaised h ms).buckets = d.buckets := by
  unfold Dev.denyRaised
  split <;> rfl

theorem denyRaised_tbs (ms : Nat) : (d.denyRaised h ms).tbs = d.tbs := by
  unfold Dev.denyRaised
  split <;> rfl

variable (cls : Nat)

theorem denied_reqs : ((d.denied h cls).rsp h).reqs = (d.rsp h).reqs := by
  rw [denied_eq, denyRaised_reqs, perf_reqs, inc_rsp]

theorem denied_buckets : (d.denied h cls).buckets = d.buckets := by
  rw [denied_eq, denyRaised_buckets, perf_buckets, inc_buckets]

theorem denied_tbs : (d.denied h cls).tbs = d.tbs := by
  rw [denied_eq, denyRaised_tbs, Dev.perf_tbs, Dev.inc_tbs]

theorem denied_count : (d.denied h cls).g (rltPg h) Reg.RLT.DENIED = (d.g (rltPg h) Reg.RLT.DENIED + 1) % 2 ^ 32 := by
  rw [denied_eq, denyRaised_g, Dev.g_perf, Dev.g_inc_same _ _ _ (by decide), show Reg.RLT.DENIED.len = 32 from rfl]

theorem denied_kod : (d.denied h cls).g (rltPg h) Reg.RLT.KOD_SENT = d.g (rltPg h) Reg.RLT.KOD_SENT := by
  rw [denied_eq, denyRaised_g, Dev.g_perf]
  exact Dev.g_p_ne _ _ _ _ _ _ (fun he => absurd (Nat.add_left_cancel he) (by decide))

end

end Sys2Proof.Machine
end

section
/-! PROOF. O52: the outcomes of the rate check (R351 to R354). -/

namespace Sys2Proof.Machine

/-! ### The answer that takes a reply's place (R347, R353) -/

/-- A request with a KoD or a NAK in place of its reply. -/
def Dev.nakked (d : Dev) (h : Half) (r : Req) (payload : List Byte) : Req :=
  { r with stage := .late, slots := []
           out := [(d.newId h).1.replyFrame h r (d.newId h).2 false payload [] ((d.newId h).1.reqView h r 0 r.launch).1
             ((d.newId h).1.reqView h r 0 r.launch).2 r.launch] }

section
variable (d : Dev) (h : Half) (r : Req) (payload : List Byte)

theorem answerNak_eq : d.answerNak h r payload = (d.newId h).1.putReq h (d.nakked h r payload) := rfl

theorem newId_reqs : (((d.newId h).1).rsp h).reqs = (d.rsp h).reqs := by
  cases h <;> rfl

theorem nakked_late : (d.nakked h r payload).stage = .late := rfl

theorem nakked_out : (d.nakked h r payload).out.map (·.t) = [r.launch] := rfl

variable {d h r} in
theorem req_answerNak {id : Nat} (hr : d.req h id = some r) : (d.answerNak h r payload).req h id = some (d.nakked h r payload) := by
  have hid : r.id = id := req_id hr
  rw [answerNak_eq]
  exact req_putReq ((req_of_reqs (newId_reqs d h) id).trans hr) hid

/-- What a NAK leaves beside the responder's engine. -/
theorem answerNak_resp : { d.answerNak h r payload with resp := d.resp } = d := rfl

theorem answerNak_back (d0 : Dev) : d0.backResp (d.answerNak h r payload) = d0.backResp d := rfl

theorem answerNak_buckets : (d.answerNak h r payload).buckets = d.buckets := rfl

theorem answerNak_tbs : (d.answerNak h r payload).tbs = d.tbs := rfl

theorem answerNak_g (b : Nat) (f : Fld) : (d.answerNak h r payload).g b f = d.g b f := rfl

theorem answerNak_w (a : Nat) : (d.answerNak h r payload).w a = d.w a := rfl

end

/-! ### The branches of the rate check -/

/-- The limit does not ask for a request: no rate, the page disabled, or a sender with a grant (R351). -/
def Dev.rateExempt (d : Dev) (h : Half) (r : Req) : Bool :=
  decide ((r.prof[0]?.getD 0) % 2 ^ 20 = 0) || !(d.enabled (rltPg h)) ||
    (r.kind == .delayReq && (d.delayGrant h r.svc (msgOf r.bytes)).isSome)

/-- The bucket that serves a request. -/
def Dev.rateServed (d : Dev) (h : Half) (r : Req) : Option Nat :=
  d.bucketServing h (d.bucketIdx h (entBits r.ent 6 20 2) (msgOf r.bytes) (r.prof[2]?.getD 0))

/-- The bucket of a request after its refill (R351). -/
def Dev.refilled (d : Dev) (h : Half) (r : Req) (i : Nat) : Bucket :=
  (d.bucket h i).refill (r.desc.mean.getD 0) ((r.prof[0]?.getD 0) % 2 ^ 20) (max 1 ((r.prof[1]?.getD 0) % 2 ^ 16))

/-- A KoD may be sent again under a bucket (R353). -/
def kodDue (r : Req) (b : Bucket) : Bool :=
  match b.kod with
  | none => true
  | some k => decide (k + ns32 (getBits (r.prof[2]?.getD 0) 24 8 * 10 ^ 9) ≤ r.desc.mean.getD 0)

theorem kodDue_iff (r : Req) (b : Bucket) : kodDue r b = true ↔
    ∀ k, b.kod = some k → k + ns32 (getBits (r.prof[2]?.getD 0) 24 8 * 10 ^ 9) ≤ r.desc.mean.getD 0 := by
  unfold kodDue
  cases b.kod with
  | none => simp
  | some k => simp

/-- A bucket as an admitted request leaves it, and the request counted. -/
def Dev.tokenTaken (d : Dev) (h : Half) (r : Req) (i : Nat) (b : Bucket) : Dev :=
  (d.setBucket h i b).perf (rltPg h) 0x01 { cls := some r.cls }

/-- A request denied: its bucket stored, and counted. -/
def Dev.denyCounted (d : Dev) (h : Half) (r : Req) (i : Nat) (b : Bucket) : Dev := (d.setBucket h i b).denied h r.cls

/-- The instant of a KoD stored in its bucket, and the KoD counted. -/
def Dev.kodCounted (d : Dev) (h : Half) (r : Req) (i : Nat) (b : Bucket) : Dev :=
  (d.setBucket h i { b with kod := some (r.desc.mean.getD 0) }).inc (rltPg h) Reg.RLT.KOD_SENT

section
variable {d : Dev} {h : Half} {id : Nat} {r : Req} (credit : Bool)

theorem rateFree_iff : (r.prof[0]?.getD 0) % 2 ^ 20 = 0 ∨ d.enabled (rltPg h) = false ∨
    (r.kind = .delayReq ∧ (d.delayGrant h r.svc (msgOf r.bytes)).isSome = true) ∨ d.rateServed h r = none ↔
    d.rateExempt h r = true ∨ d.rateServed h r = none := by
  unfold Dev.rateExempt
  simp only [Bool.or_eq_true, Bool.and_eq_true, decide_eq_true_eq, Bool.not_eq_true', beq_iff_eq, or_assoc]

variable (hr : d.req h id = some r) (hs : r.stage = .rate) (hp : d.inP0 (rltPg h) = true)
include hr hs hp

theorem rateChecked_exempt (hx : d.rateExempt h r = true) : rateChecked h id credit d = d.admitReq h r credit := by
  unfold rateChecked
  rw [hr]
  exact (if_neg (by simp [hs, hp])).trans (if_pos hx)

theorem rateChecked_unserved (hx : d.rateExempt h r = false) (hn : d.rateServed h r = none) :
    rateChecked h id credit d = d.admitReq h r credit := by
  have hx' : ¬ d.rateExempt h r = true := by rw [hx]; decide
  unfold rateChecked
  unfold Dev.rateServed at hn
  rw [hr]
  dsimp only
  rw [if_neg (by simp [hs, hp]), hn]
  exact if_neg hx'

theorem rateChecked_served {i : Nat} (hx : d.rateExempt h r = false) (hn : d.rateServed h r = some i) :
    rateChecked h id credit d =
      if 65536 ≤ (d.refilled h r i).tok then ((d.tokenTaken h r i { d.refilled h r i with tok := (d.refilled h r i).tok - 65536 }).admitReq h r credit).occCheck h
      else (d.denyReq h r i (d.refilled h r i)).occCheck h := by
  have hx' : ¬ d.rateExempt h r = true := by rw [hx]; decide
  unfold rateChecked
  unfold Dev.rateServed at hn
  rw [hr]
  dsimp only
  rw [if_neg (by simp [hs, hp]), hn]
  exact if_neg hx'

omit hr hs hp in
theorem denyReq_eq (i : Nat) (b : Bucket) : d.denyReq h r i b =
    if r.kind = .ntp ∧ bitAt (r.prof[2]?.getD 0) 16 = true ∧ kodDue r b = true then
      ((d.denyCounted h r i b).kodCounted h r i b).answerNak h r (d.nakHeader h (msgOf r.bytes).body "RATE")
    else ((d.denyCounted h r i b).dropReq h r.id).wasted h r.cls := by
  unfold Dev.denyReq Dev.kodCounted Dev.denyCounted
  refine ite_congr ?_ (fun _ => rfl) fun _ => rfl
  unfold kodDue
  simp only [Bool.and_eq_true, decide_eq_true_eq, and_assoc] <;> rfl

end

/-! ### What each branch leaves -/

section
variable (d : Dev) (h : Half) (r : Req) (i : Nat) (b : Bucket)

theorem perf_resp (pg c : Nat) (x : PerfAttr) (k n : Nat) : (d.perf pg c x k n).resp = d.resp := rfl

theorem tokenTaken_resp : (d.tokenTaken h r i b).resp = d.resp := perf_resp (d.setBucket h i b) _ _ _ _ _

theorem tokenTaken_tbs : (d.tokenTaken h r i b).tbs = d.tbs := by
  unfold Dev.tokenTaken
  rw [Dev.perf_tbs]
  rfl

theorem tokenTaken_buckets : (d.tokenTaken h r i b).buckets = (d.setBucket h i b).buckets := by
  unfold Dev.tokenTaken
  rw [perf_buckets]

theorem rsp_of_resp {d e : Dev} (hr : e.resp = d.resp) (h : Half) : e.rsp h = d.rsp h := by
  unfold Dev.rsp
  rw [hr]

theorem denyCounted_reqs : ((d.denyCounted h r i b).rsp h).reqs = (d.rsp h).reqs := by
  unfold Dev.denyCounted
  rw [denied_reqs]
  rfl

theorem denyCounted_buckets : (d.denyCounted h r i b).buckets = (d.setBucket h i b).buckets := denied_buckets _ _ _

theorem denyCounted_tbs : (d.denyCounted h r i b).tbs = d.tbs := denied_tbs (d.setBucket h i b) h r.cls

theorem setBucket_g (a : Nat) (f : Fld) : (d.setBucket h i b).g a f = d.g a f := rfl

theorem denyCounted_count :
    (d.denyCounted h r i b).g (rltPg h) Reg.RLT.DENIED = (d.g (rltPg h) Reg.RLT.DENIED + 1) % 2 ^ 32 := by
  unfold Dev.denyCounted
  rw [denied_count, setBucket_g]

theorem denyCounted_kod : (d.denyCounted h r i b).g (rltPg h) Reg.RLT.KOD_SENT = d.g (rltPg h) Reg.RLT.KOD_SENT := by
  unfold Dev.denyCounted
  rw [denied_kod, setBucket_g]

theorem setBucket_rsp : (d.setBucket h i b).rsp h = d.rsp h := rfl

theorem setBucket_tbs : (d.setBucket h i b).tbs = d.tbs := rfl

theorem kodCounted_rsp : (d.kodCounted h r i b).rsp h = d.rsp h := by
  unfold Dev.kodCounted
  rw [inc_rsp, setBucket_rsp]

theorem kodCounted_tbs : (d.kodCounted h r i b).tbs = d.tbs := by
  unfold Dev.kodCounted
  rw [Dev.inc_tbs, setBucket_tbs]

theorem kodCounted_buckets :
    (d.kodCounted h r i b).buckets = (d.setBucket h i { b with kod := some (r.desc.mean.getD 0) }).buckets := by
  unfold Dev.kodCounted
  rw [inc_buckets]

theorem kodCounted_kod : (d.kodCounted h r i b).g (rltPg h) Reg.RLT.KOD_SENT = (d.g (rltPg h) Reg.RLT.KOD_SENT + 1) % 2 ^ 32 := by
  unfold Dev.kodCounted
  rw [Dev.g_inc_same _ _ _ (by decide), setBucket_g, show Reg.RLT.KOD_SENT.len = 32 from rfl]

theorem kodCounted_count : (d.kodCounted h r i b).g (rltPg h) Reg.RLT.DENIED = d.g (rltPg h) Reg.RLT.DENIED :=
  Dev.g_p_ne _ _ _ _ _ _ fun he => absurd (Nat.add_left_cancel he) (by decide)

theorem wasted_g (cls a : Nat) (f : Fld) : (d.wasted h cls).g a f = d.g a f := rfl

theorem dropReq_g (id a : Nat) (f : Fld) : (d.dropReq h id).g a f = d.g a f := rfl

theorem droppedWasted_buckets (id cls : Nat) : ((d.dropReq h id).wasted h cls).buckets = d.buckets := rfl

theorem droppedWasted_tbs (id cls : Nat) : ((d.dropReq h id).wasted h cls).tbs = d.tbs := rfl

theorem req_droppedWasted (id cls : Nat) : ((d.dropReq h id).wasted h cls).req h id = none := req_dropReq (d := d)

end

/-- A register of the rate limits that is not OCC. -/
theorem rltCounter_ne : Reg.RLT.KOD_SENT.off ≠ Reg.RLT.OCC.off ∧ Reg.RLT.DENIED.off ≠ Reg.RLT.OCC.off := by decide

section
variable {h : Half} {id : Nat} {credit : Bool} {r : Req} {s : State} {i : Nat} {b : Bucket}

theorem rateAdmits (hr : s.dev.req h id = some r)
    (hx : rateChecked h id credit s.dev = ((s.dev.tokenTaken h r i b).admitReq h r credit).occCheck h) :
    ∃ t, exec (.rateCheck h id credit) s = .next t ∧ t.dev.req h id = some { r with stage := .verify } ∧
      t.dev.bucket h i = b ∧ (∀ j, j ≠ i → t.dev.bucket h j = s.dev.bucket h j) ∧
      t.dev.tbs = s.dev.tbs ∧ s.keepsRest t := by
  have hb (j : Nat) : (((s.dev.tokenTaken h r i b).admitReq h r credit).occCheck h).bucket h j =
      if j = i then b else s.dev.bucket h j := by
    rw [← bucket_setBucket]
    exact bucket_of_buckets ((occCheck_buckets _ h).trans ((mirrorBlind_buckets.mirrorSend _ h r credit).trans (tokenTaken_buckets _ _ _ _ _))) h j
  refine ⟨_, next_onDev (f := rateChecked h id credit) hx, ?_, (hb i).trans (if_pos rfl), fun j hj => (hb j).trans (if_neg hj), ?_,
    s.keepsRest_withDev _⟩
  · rw [State.withDev_dev, occCheck_req]
    have hresp := (mirrorBlind_resp.mirrorSend (s.dev.tokenTaken h r i b) h r credit).trans (tokenTaken_resp s.dev h r i b)
    have hid : r.id = id := req_id hr
    exact req_putReq ((req_congr (rsp_of_resp hresp h) id).trans hr) hid
  · rw [State.withDev_dev, occCheck_tbs]
    exact (mirrorBlind_tbs.mirrorSend _ h r credit).trans (tokenTaken_tbs _ _ _ _ _)

theorem rateKods (hr : s.dev.req h id = some r) {payload : List Byte} (hx : rateChecked h id credit s.dev =
    (((s.dev.denyCounted h r i b).kodCounted h r i b).answerNak h r payload).occCheck h) :
    ∃ t x, exec (.rateCheck h id credit) s = .next t ∧ t.dev.req h id = some x ∧ x.stage = .late ∧
      x.out.map (·.t) = [r.launch] ∧ t.dev.bucket h i = { b with kod := some (r.desc.mean.getD 0) } ∧
      t.dev.g (rltPg h) Reg.RLT.KOD_SENT = (s.dev.g (rltPg h) Reg.RLT.KOD_SENT + 1) % 2 ^ 32 ∧
      t.dev.g (rltPg h) Reg.RLT.DENIED = (s.dev.g (rltPg h) Reg.RLT.DENIED + 1) % 2 ^ 32 ∧ t.dev.tbs = s.dev.tbs ∧
      s.keepsRest t := by
  refine ⟨_, _, next_onDev (f := rateChecked h id credit) hx, ?_, nakked_late ((s.dev.denyCounted h r i b).kodCounted h r i b) h r payload, nakked_out _ h r payload, ?_, ?_, ?_, ?_,
    s.keepsRest_withDev _⟩
  · rw [State.withDev_dev, occCheck_req]
    refine req_answerNak _ ((req_congr (kodCounted_rsp _ _ _ _ _) id).trans ?_)
    exact (req_of_reqs (denyCounted_reqs _ _ _ _ _) id).trans hr
  · rw [State.withDev_dev, bucket_of_buckets ((occCheck_buckets _ h).trans ((answerNak_buckets _ _ _ _).trans (kodCounted_buckets _ _ _ _ _))),
      bucket_setBucket, if_pos rfl]
  · rw [State.withDev_dev, occCheck_g _ _ _ rltCounter_ne.1, answerNak_g, kodCounted_kod, denyCounted_kod]
  · rw [State.withDev_dev, occCheck_g _ _ _ rltCounter_ne.2, answerNak_g, kodCounted_count, denyCounted_count]
  · rw [State.withDev_dev, occCheck_tbs, answerNak_tbs, kodCounted_tbs, denyCounted_tbs]

theorem rateDenies (hr : s.dev.req h id = some r)
    (hx : rateChecked h id credit s.dev = (((s.dev.denyCounted h r i b).dropReq h r.id).wasted h r.cls).occCheck h) :
    ∃ t, exec (.rateCheck h id credit) s = .next t ∧ t.dev.req h id = none ∧
      t.dev.bucket h i = b ∧ t.dev.g (rltPg h) Reg.RLT.KOD_SENT = s.dev.g (rltPg h) Reg.RLT.KOD_SENT ∧
      t.dev.g (rltPg h) Reg.RLT.DENIED = (s.dev.g (rltPg h) Reg.RLT.DENIED + 1) % 2 ^ 32 ∧ t.dev.tbs = s.dev.tbs ∧
      s.keepsRest t := by
  refine ⟨_, next_onDev (f := rateChecked h id credit) hx, ?_, ?_, ?_, ?_, ?_, s.keepsRest_withDev _⟩
  · rw [State.withDev_dev, occCheck_req, ← req_id hr, req_droppedWasted]
  · rw [State.withDev_dev, bucket_of_buckets ((occCheck_buckets _ h).trans ((droppedWasted_buckets _ _ _ _).trans (denyCounted_buckets _ _ _ _ _))),
      bucket_setBucket, if_pos rfl]
  · rw [State.withDev_dev, occCheck_g _ _ _ rltCounter_ne.1, wasted_g, dropReq_g, denyCounted_kod]
  · rw [State.withDev_dev, occCheck_g _ _ _ rltCounter_ne.2, wasted_g, dropReq_g, denyCounted_count]
  · rw [State.withDev_dev, occCheck_tbs, droppedWasted_tbs, denyCounted_tbs]

end

theorem rateCheck_spec (h : Half) (id : Nat) (credit : Bool) (r : Req) (s : State) (hr : s.dev.req h id = some r) (hs : r.stage = .rate)
    (hp : s.dev.inP0 (rltPg h) = true) :
    let rate := (r.prof[0]?.getD 0) % 2 ^ 20
    let pfx := r.prof[2]?.getD 0
    let mean := r.desc.mean.getD 0
    let served := s.dev.bucketServing h (s.dev.bucketIdx h (entBits r.ent 6 20 2) (msgOf r.bytes) pfx)
    let free := rate = 0 ∨ s.dev.enabled (rltPg h) = false ∨
      (r.kind = .delayReq ∧ (s.dev.delayGrant h r.svc (msgOf r.bytes)).isSome = true) ∨ served = none
    (free → exec (.rateCheck h id credit) s =
        .next (s.withDev ((s.dev.mirrorSend h r credit).putReq h { r with stage := .verify })) ∧
      (s.dev.gb (redPg h) Reg.RED.MIRROR_EN = false → s.dev.mirrorSend h r credit = s.dev)) ∧
    ∀ i, ¬ free → served = some i →
      let b := (s.dev.bucket h i).refill mean rate (max 1 ((r.prof[1]?.getD 0) % 2 ^ 16))
      let kod := r.kind = .ntp ∧ bitAt pfx 16 = true ∧ ∀ k, b.kod = some k → k + ns32 (getBits pfx 24 8 * 10 ^ 9) ≤ mean
      (65536 ≤ b.tok → ∃ t, exec (.rateCheck h id credit) s = .next t ∧ t.dev.req h id = some { r with stage := .verify } ∧
        t.dev.bucket h i = { b with tok := b.tok - 65536 } ∧ (∀ j, j ≠ i → t.dev.bucket h j = s.dev.bucket h j) ∧
        t.dev.tbs = s.dev.tbs ∧ s.keepsRest t) ∧
      (b.tok < 65536 → kod → ∃ t x, exec (.rateCheck h id credit) s = .next t ∧ t.dev.req h id = some x ∧ x.stage = .late ∧
        x.out.map (·.t) = [r.launch] ∧ t.dev.bucket h i = { b with kod := some mean } ∧
        t.dev.g (rltPg h) Reg.RLT.KOD_SENT = (s.dev.g (rltPg h) Reg.RLT.KOD_SENT + 1) % 2 ^ 32 ∧
        t.dev.g (rltPg h) Reg.RLT.DENIED = (s.dev.g (rltPg h) Reg.RLT.DENIED + 1) % 2 ^ 32 ∧ t.dev.tbs = s.dev.tbs ∧
        s.keepsRest t) ∧
      (b.tok < 65536 → ¬ kod → ∃ t, exec (.rateCheck h id credit) s = .next t ∧ t.dev.req h id = none ∧
        t.dev.bucket h i = b ∧ t.dev.g (rltPg h) Reg.RLT.KOD_SENT = s.dev.g (rltPg h) Reg.RLT.KOD_SENT ∧
        t.dev.g (rltPg h) Reg.RLT.DENIED = (s.dev.g (rltPg h) Reg.RLT.DENIED + 1) % 2 ^ 32 ∧ t.dev.tbs = s.dev.tbs ∧
        s.keepsRest t) := by
  intro rate pfx mean served free
  have hiff : free ↔ s.dev.rateExempt h r = true ∨ s.dev.rateServed h r = none := rateFree_iff
  refine ⟨fun hf => ⟨next_onDev (f := rateChecked h id credit) ?_, mirrorSend_off r credit⟩, fun i hf hi => ?_⟩
  · cases hx : s.dev.rateExempt h r with
    | true => exact rateChecked_exempt credit hr hs hp hx
    | false =>
      have hn := (hiff.1 hf).resolve_left (by simp [hx])
      exact rateChecked_unserved credit hr hs hp hx hn
  · have hx : s.dev.rateExempt h r = false := by
      cases hx : s.dev.rateExempt h r with
      | true => exact absurd (hiff.2 (.inl hx)) hf
      | false => rfl
    have hrun := rateChecked_served credit hr hs hp hx hi
    intro b kod
    have hb : s.dev.refilled h r i = b := rfl
    have hkod : (r.kind = .ntp ∧ bitAt (r.prof[2]?.getD 0) 16 = true ∧ kodDue r b = true) ↔ kod :=
      and_congr_right fun _ => and_congr_right fun _ => kodDue_iff r b
    rw [hb, denyReq_eq] at hrun
    refine ⟨fun ht => rateAdmits hr (hrun.trans (if_pos ht)), fun ht hk => ?_, fun ht hk => ?_⟩
    · rw [if_neg (Nat.not_le.2 ht), if_pos (hkod.2 hk)] at hrun
      exact rateKods hr hrun
    · rw [if_neg (Nat.not_le.2 ht), if_neg (fun hc => hk (hkod.1 hc))] at hrun
      exact rateDenies hr hrun

end Sys2Proof.Machine
end

section
/-! SUPPORT. An operation of a crypto engine (R386): what it shows and what it leaves. -/

namespace Sys2Proof.Machine

/-- An observation that shows nothing of the crypto engines. -/
structure EngineBlind {α : Type} (g : Dev → α) : Prop where
  word : ∀ d a v, inBlock .aeg a → g (Dev.setw d a v) = g d
  perf : ∀ d pg c a k r, g (Dev.perf d pg c a k r) = g d
  engines : ∀ (d : Dev) t, g { d with engs := t } = g d

theorem inBlock_aegE (h : Half) {e o : Nat} (he : e < 8) (ho : o < 0x100) : inBlock .aeg (aegE h e + o) := by
  have hin : inBlock .aeg (pageAddr .aeg h 0 + (0x100 + 0x10 * e + o)) := inBlock_pageAddr .aeg h (by omega)
  unfold aegE aegPg
  rwa [show pageAddr .aeg h 0 + 0x100 + 0x10 * e + o = pageAddr .aeg h 0 + (0x100 + 0x10 * e + o) by omega]

theorem engineFor_lt {d : Dev} {h : Half} {fam : Option Nat} {e : Nat} (he : d.engineFor h fam = some e) : e < 8 := by
  unfold Dev.engineFor at he
  split at he
  · next x hx =>
    cases he
    exact List.mem_range.1 (List.mem_of_find?_eq_some hx)
  · exact List.mem_range.1 (List.mem_of_find?_eq_some he)

section
variable {α : Type} {g : Dev → α} (hg : EngineBlind g) (d : Dev)
include hg

theorem EngineBlind.inc {b : Nat} {f : Fld} (hb : inBlock .aeg (b + f.off)) : g (d.inc b f) = g d := hg.word _ _ _ hb

theorem EngineBlind.p {b : Nat} {f : Fld} (hb : inBlock .aeg (b + f.off)) (v : Nat) : g (d.p b f v) = g d := hg.word _ _ _ hb

theorem EngineBlind.engOp (h : Half) (fam : Option Nat) (k : Nat) : g (d.engOp h fam k) = g d := by
  unfold Dev.engOp
  split
  · rfl
  · next e he =>
    have hlt := engineFor_lt he
    have hbase : ∀ (x : Dev) v, g (((x.inc (aegE h e) Reg.AEG.OPS).p (aegE h e) Reg.AEG.ESTAT_CACHED v).perf (aegPg h) 0x01
        { address := some e } 1 3) = g x := fun x v =>
      (hg.perf _ _ _ _ _ _).trans ((hg.p _ (inBlock_aegE h hlt (by decide)) _).trans (hg.inc _ (inBlock_aegE h hlt (by decide))))
    dsimp only
    refine keeps_ite (g := g) ((hg.perf _ _ _ _ _ _).trans ((hg.inc _ (inBlock_aegE h hlt (by decide))).trans ?_)) ?_
    · exact (hbase _ _).trans (hg.engines _ _)
    · exact (hbase _ _).trans (hg.engines _ _)

end

theorem engineBlind_resp : EngineBlind fun e => e.resp := ⟨fun _ _ _ _ => rfl, fun _ _ _ _ _ _ => rfl, fun _ _ => rfl⟩

theorem engineBlind_tbs : EngineBlind fun e => e.tbs := ⟨fun _ _ _ _ => rfl, fun _ _ _ _ _ _ => rfl, fun _ _ => rfl⟩

theorem engineBlind_cads : EngineBlind fun e => e.cads := ⟨fun _ _ _ _ => rfl, fun _ _ _ _ _ _ => rfl, fun _ _ => rfl⟩

theorem engineBlind_mbx : EngineBlind fun e => e.mbx := ⟨fun _ _ _ _ => rfl, fun _ _ _ _ _ _ => rfl, fun _ _ => rfl⟩

theorem engineBlind_evt (pg k : Nat) : EngineBlind fun e => e.evt pg k :=
  ⟨fun _ _ _ _ => rfl, fun _ _ _ _ _ _ => rfl, fun _ _ => rfl⟩

theorem engineBlind_w {a : Nat} (ha : ¬ inBlock .aeg a) : EngineBlind fun e => e.w a :=
  ⟨fun d x v hx => by rw [Dev.w_setw, if_neg (fun he : a = x => ha (he ▸ hx))], fun _ _ _ _ _ _ => rfl, fun _ _ => rfl⟩

end Sys2Proof.Machine
end

section
/-! PROOF. O52: the Verify stage (R345 to R347, R359). -/

namespace Sys2Proof.Machine

/-! ### A request that fails -/

/-- AUTH_FAIL raised where it has not been in this millisecond. -/
def Dev.authRaised (d : Dev) (h : Half) (ms : Nat) : Dev :=
  if (d.rsp h).failMs = some ms then d.trsCount h 6
  else ((d.trsCount h 6).setRsp h { (d.trsCount h 6).rsp h with failMs := some ms }).raise (trsPg h) 2

theorem trsEvt2_implemented (h : Half) : evtImplemented (trsPg h) 2 = true := by
  cases h <;> decide

section
variable (d : Dev) (h : Half) (ms : Nat)

theorem authFailed_eq : d.authFailed h = d.authRaised h (d.tb0 h / ns32 1000000) := rfl

theorem setRsp_raise_w (v : RespSt) (pg k a : Nat) : ((d.setRsp h v).raise pg k).w a = d.w a := rfl

theorem setRsp_raise_tbs (v : RespSt) (pg k : Nat) : ((d.setRsp h v).raise pg k).tbs = d.tbs := rfl

theorem setRsp_evt (v : RespSt) (pg k : Nat) : (d.setRsp h v).evt pg k = d.evt pg k := rfl

theorem trsCount_evt (c pg k : Nat) : (d.trsCount h c).evt pg k = d.evt pg k := rfl

theorem trsCount_rsp (c : Nat) (g : Half) : (d.trsCount h c).rsp g = d.rsp g := rfl

theorem trsCount_tbs (c : Nat) : (d.trsCount h c).tbs = d.tbs := rfl

theorem authRaised_w : (d.authRaised h ms).w (trsPg h + 0x360 + 4 * 6) = (d.w (trsPg h + 0x360 + 4 * 6) + 1) % 2 ^ 32 := by
  unfold Dev.authRaised
  split
  · exact trsCount_w d h 6
  · rw [setRsp_raise_w, trsCount_w]

theorem authRaised_tbs : (d.authRaised h ms).tbs = d.tbs := by
  unfold Dev.authRaised
  split
  · exact trsCount_tbs d h 6
  · rw [setRsp_raise_tbs, trsCount_tbs]

theorem authRaised_evt : (d.authRaised h ms).evt (trsPg h) 2 =
    if (d.rsp h).failMs = some ms then d.evt (trsPg h) 2 else (d.evt (trsPg h) 2).occur := by
  unfold Dev.authRaised
  split
  · exact trsCount_evt d h 6 _ _
  · rw [Dev.evt_raise_own _ (trsEvt2_implemented h), setRsp_evt, trsCount_evt]

theorem authRaised_events : d.sameEvents (d.authRaised h ms) [trsPg h + 2] := by
  intro pg k hk
  unfold Dev.authRaised
  split
  · exact trsCount_evt d h 6 _ _
  · rw [Dev.sameEvents_raise _ (trsPg h) 2 pg k hk, setRsp_evt, trsCount_evt]

variable (r : Req)

theorem verifyFailed_eq : d.verifyFailed h r = ((d.authRaised h (d.tb0 h / ns32 1000000)).dropReq h r.id).wasted h r.cls := rfl

theorem droppedWasted_w (id cls a : Nat) : ((d.dropReq h id).wasted h cls).w a = d.w a := rfl

theorem droppedWasted_evt (id cls pg k : Nat) : ((d.dropReq h id).wasted h cls).evt pg k = d.evt pg k := rfl

theorem verifyFailed_req : (d.verifyFailed h r).req h r.id = none := by
  rw [verifyFailed_eq]
  exact req_droppedWasted _ h r.id r.cls

theorem verifyFailed_w : (d.verifyFailed h r).w (trsPg h + 0x360 + 4 * 6) = (d.w (trsPg h + 0x360 + 4 * 6) + 1) % 2 ^ 32 := by
  rw [verifyFailed_eq, droppedWasted_w, authRaised_w]

theorem verifyFailed_tbs : (d.verifyFailed h r).tbs = d.tbs := by
  rw [verifyFailed_eq, droppedWasted_tbs, authRaised_tbs]

theorem verifyFailed_evt : (d.verifyFailed h r).evt (trsPg h) 2 =
    if (d.rsp h).failMs = some (d.tb0 h / ns32 1000000) then d.evt (trsPg h) 2 else (d.evt (trsPg h) 2).occur := by
  rw [verifyFailed_eq, droppedWasted_evt, authRaised_evt]

theorem verifyFailed_events : d.sameEvents (d.verifyFailed h r) [trsPg h + 2] := by
  intro pg k hk
  rw [verifyFailed_eq, droppedWasted_evt, authRaised_events d h _ pg k hk]

end

/-! ### The branches of Verify -/

/-- The cookie of an NTS request, without its field header. -/
def cookieOf (body : List Byte) : List Byte := ((fieldOf body 0x0204).getD []).drop 4

/-- The authenticator of an NTS request opens under a cookie's plaintext. -/
def authOpens (body p : List Byte) : Bool :=
  (Config.sivOpen (p.take 32) [(ntsAuth body).1, (ntsAuth body).2.1] (ntsAuth body).2.2).isSome

/-- A NAK answers a request whose cookie does not open (R347). -/
def Dev.nakWanted (d : Dev) (h : Half) (r : Req) : Bool := d.gb (trsPg h) Reg.TRS.NTSCFG_NAK_EN && r.origin.isNone

/-- What an NTS request takes with it from its cookie. -/
def Req.ntsOf (r : Req) (k : Nat) (p : List Byte) : Req :=
  { r with stage := .build, slots := [k]
           nts := some { c2s := p.take 32, s2c := sliceB p 32 32, uid := (fieldOf (msgOf r.bytes).body 0x0104).getD []
                         nonce := (ntsAuth (msgOf r.bytes).body).2.1.take 16, k := (ntsForm (msgOf r.bytes).body).getD 0
                         fam := beAt (cookieOf (msgOf r.bytes).body) 1 1 / 16 } }

section
variable {d : Dev} {h : Half} {id : Nat} {r : Req}

theorem verifyNts_closed (ho : d.openCookie h (r.desc.mean.getD 0) (cookieOf (msgOf r.bytes).body) = none) : d.verifyNts h r =
    if d.nakWanted h r then (d.trsCount h 7).answerNak h r
      (d.nakHeader h (msgOf r.bytes).body "NTSN" ++ (fieldOf (msgOf r.bytes).body 0x0104).getD [])
    else d.verifyFailed h r := by
  unfold cookieOf at ho
  unfold Dev.verifyNts
  dsimp only
  rw [ho]
  exact ite_congr rfl (fun _ => rfl) fun _ => rfl

theorem verifyNts_opened {k : Nat} {p : List Byte}
    (ho : d.openCookie h (r.desc.mean.getD 0) (cookieOf (msgOf r.bytes).body) = some (k, p)) :
    d.verifyNts h r = if authOpens (msgOf r.bytes).body p then
        (d.engOp h (some (beAt (cookieOf (msgOf r.bytes).body) 1 1 / 16)) k).putReq h (r.ntsOf k p)
      else (d.engOp h (some (beAt (cookieOf (msgOf r.bytes).body) 1 1 / 16)) k).verifyFailed h r := by
  unfold cookieOf at ho
  unfold Dev.verifyNts authOpens
  dsimp only
  rw [ho]
  dsimp only
  cases Config.sivOpen (p.take 32) [(ntsAuth (msgOf r.bytes).body).1, (ntsAuth (msgOf r.bytes).body).2.1]
    (ntsAuth (msgOf r.bytes).body).2.2 <;> rfl

variable (hr : d.req h id = some r) (hs : r.stage = .verify)
include hr hs

theorem reqVerified_ntp (hk : r.kind = .ntp) : reqVerified h id d = d.putReq h { r with stage := .build } := by
  unfold reqVerified
  rw [hr]
  dsimp only
  rw [if_neg (by simp [hs]), hk]

theorem reqVerified_nts (hk : r.kind = .nts) :
    reqVerified h id d = if d.keysOff h then d.verifyFailed h r else d.verifyNts h r := by
  unfold reqVerified
  rw [hr]
  dsimp only
  rw [if_neg (by simp [hs]), hk]

/-- A PTP request that need not be authenticated passes. -/
theorem reqVerified_free (hk : r.kind ≠ .ntp ∧ r.kind ≠ .nts) (ha : cfgBits r.cfg Reg.TRS.AUTH_REQ_AUTH = 0) :
    reqVerified h id d = d.putReq h { r with stage := .build } := by
  obtain ⟨hn, ht⟩ := hk
  unfold reqVerified
  rw [hr]
  dsimp only
  rw [if_neg (by simp [hs])]
  split
  · exact absurd ‹_› hn
  · exact absurd ‹_› ht
  · exact if_pos ha

theorem reqVerified_asked (hk : r.kind ≠ .ntp ∧ r.kind ≠ .nts) (ha : cfgBits r.cfg Reg.TRS.AUTH_REQ_AUTH ≠ 0)
    (hv : d.keysOff h = true ∨ d.ptpVerified h (msgOf r.bytes).body (r.desc.mean.getD 0) = none) :
    reqVerified h id d = d.verifyFailed h r := by
  obtain ⟨hn, ht⟩ := hk
  unfold reqVerified
  rw [hr]
  dsimp only
  rw [if_neg (by simp [hs])]
  split
  · exact absurd ‹_› hn
  · exact absurd ‹_› ht
  · rw [if_neg ha]
    rcases hv with hoff | hnone
    · exact if_pos hoff
    · rw [hnone]
      exact ite_self _

theorem reqVerified_signed (hk : r.kind ≠ .ntp ∧ r.kind ≠ .nts) (ha : cfgBits r.cfg Reg.TRS.AUTH_REQ_AUTH ≠ 0) {k : Nat}
    (hoff : d.keysOff h = false) (hv : d.ptpVerified h (msgOf r.bytes).body (r.desc.mean.getD 0) = some k) :
    reqVerified h id d = (d.engOp h (some ((k - 128) / 8)) k).putReq h { r with stage := .build, slots := [k] } := by
  obtain ⟨hn, ht⟩ := hk
  have hon : ¬ d.keysOff h = true := by rw [hoff]; decide
  unfold reqVerified
  rw [hr]
  dsimp only
  rw [if_neg (by simp [hs])]
  split
  · exact absurd ‹_› hn
  · exact absurd ‹_› ht
  · rw [if_neg ha, hv]
    exact if_neg hon

end

/-! ### The outcomes -/

section
variable {h : Half} {id : Nat} {r x : Req} {s : State}

/-- A request that passes, with an engine's operation. -/
theorem verify_passes {fam : Option Nat} {k : Nat} (hr : s.dev.req h id = some r) (hid : x.id = r.id)
    (hx : reqVerified h id s.dev = (s.dev.engOp h fam k).putReq h x) :
    ∃ t, exec (.requestVerify h id) s = .next t ∧ t.dev.req h id = some x ∧ s.dev.sameEvents t.dev [] ∧ t.dev.tbs = s.dev.tbs ∧
      s.keepsRest t := by
  refine ⟨_, next_onDev (f := reqVerified h id) hx, ?_, fun pg j _ => (engineBlind_evt pg j).engOp s.dev h fam k,
    engineBlind_tbs.engOp s.dev h fam k, s.keepsRest_withDev _⟩
  have hidr : x.id = id := hid.trans (req_id hr)
  exact req_putReq ((req_congr (rsp_of_resp (engineBlind_resp.engOp s.dev h fam k) h) id).trans hr) hidr

theorem tb0_congr {d e : Dev} (ht : e.tbs = d.tbs) (h : Half) : e.tb0 h = d.tb0 h := by
  unfold Dev.tb0 Dev.count Dev.tb
  rw [ht]

/-- A request that fails after what leaves its responder and its page as they were. -/
theorem verify_fails {e : Dev} (hr : s.dev.req h id = some r) (hx : reqVerified h id s.dev = e.verifyFailed h r)
    (hresp : e.resp = s.dev.resp) (ht : e.tbs = s.dev.tbs) (hev : ∀ pg k, e.evt pg k = s.dev.evt pg k)
    (hw : e.w (trsPg h + 0x360 + 4 * 6) = s.dev.w (trsPg h + 0x360 + 4 * 6)) :
    ∃ t, exec (.requestVerify h id) s = .next t ∧ t.dev.req h id = none ∧
      t.dev.w (trsPg h + 0x360 + 4 * 6) = (s.dev.w (trsPg h + 0x360 + 4 * 6) + 1) % 2 ^ 32 ∧
      t.dev.evt (trsPg h) 2 = (if (s.dev.rsp h).failMs = some (s.dev.tb0 h / ns32 1000000) then s.dev.evt (trsPg h) 2
        else (s.dev.evt (trsPg h) 2).occur) ∧ s.dev.sameEvents t.dev [trsPg h + 2] ∧ t.dev.tbs = s.dev.tbs ∧ s.keepsRest t := by
  refine ⟨_, next_onDev (f := reqVerified h id) hx, ?_, ?_, ?_, fun pg k hk => ?_, (verifyFailed_tbs e h r).trans ht, s.keepsRest_withDev _⟩
  · rw [State.withDev_dev, ← req_id hr, verifyFailed_req]
  · rw [State.withDev_dev, verifyFailed_w, hw]
  · rw [State.withDev_dev, verifyFailed_evt, rsp_of_resp hresp, tb0_congr ht, hev]
  · rw [State.withDev_dev, verifyFailed_events e h r pg k hk, hev]

end

end Sys2Proof.Machine
end

section
/-! PROOF. O52: what Verify does with a request of each kind (R345 to R347, R359). -/

namespace Sys2Proof.Machine

/-- A request answered with a NAK. -/
theorem verify_naks {h : Half} {id : Nat} {r : Req} {s : State} {payload : List Byte} (hr : s.dev.req h id = some r)
    (hx : reqVerified h id s.dev = (s.dev.trsCount h 7).answerNak h r payload) :
    ∃ t x, exec (.requestVerify h id) s = .next t ∧ t.dev.req h id = some x ∧ x.stage = .late ∧ x.out.map (·.t) = [r.launch] ∧
      t.dev.w (trsPg h + 0x360 + 4 * 7) = (s.dev.w (trsPg h + 0x360 + 4 * 7) + 1) % 2 ^ 32 ∧
      s.onlyTouches { t with dev := { t.dev with resp := s.dev.resp } } [trsPg h + 0x360 + 4 * 7] [] := by
  have ht : s.dev.touchesBy s.dev.backResp (s.dev.trsCount h 7) [trsPg h + 0x360 + 4 * 7] [] :=
    touchesBy_trsCountIf (b := true) (touchesBy_resp_refl s.dev _ _) (List.mem_singleton_self _)
  refine ⟨_, _, next_onDev (f := reqVerified h id) hx,
    req_answerNak payload ((req_congr (trsCount_rsp s.dev h 7 h) id).trans hr), nakked_late _ h r payload, nakked_out _ h r payload, ?_,
    onlyTouches_backResp (ht.hidden (answerNak_back _ h r payload s.dev))⟩
  rw [State.withDev_dev, answerNak_w, trsCount_w]

/-- A word of the first page of a TRS block shows nothing of the engines. -/
theorem trsCounter_engine (d : Dev) (h : Half) (c : Nat) (hc : c < 12) (fam : Option Nat) (k : Nat) :
    (d.engOp h fam k).w (trsPg h + 0x360 + 4 * c) = d.w (trsPg h + 0x360 + 4 * c) := by
  have hin : inBlock .trs (pageAddr .trs h 0 + (0x360 + 4 * c)) := inBlock_pageAddr .trs h (by omega)
  rw [← Nat.add_assoc] at hin
  exact (engineBlind_w hin.not).engOp d h fam k

theorem requestVerify_spec (h : Half) (id : Nat) (r : Req) (s : State) (hr : s.dev.req h id = some r) (hs : r.stage = .verify) :
    let body := (msgOf r.bytes).body
    let mean := r.desc.mean.getD 0
    let ck := ((fieldOf body 0x0204).getD []).drop 4
    let opened := s.dev.openCookie h mean ck
    let good := fun p : List Byte =>
      (Config.sivOpen (p.take 32) [(ntsAuth body).1, (ntsAuth body).2.1] (ntsAuth body).2.2).isSome
    let nak := s.dev.keysOff h = false ∧ opened = none ∧ s.dev.gb (trsPg h) Reg.TRS.NTSCFG_NAK_EN = true ∧ r.origin = none
    let ptp := r.kind ≠ .ntp ∧ r.kind ≠ .nts
    let asks := cfgBits r.cfg Reg.TRS.AUTH_REQ_AUTH ≠ 0
    let fails := (r.kind = .nts ∧ (s.dev.keysOff h = true ∨ (opened = none ∧ ¬ nak) ∨
        ∃ k p, opened = some (k, p) ∧ good p = false)) ∨
      (ptp ∧ asks ∧ (s.dev.keysOff h = true ∨ s.dev.ptpVerified h body mean = none))
    (r.kind = .ntp ∨ (ptp ∧ ¬ asks) →
      ∃ t, exec (.requestVerify h id) s = .next t ∧ t.dev.req h id = some { r with stage := .build } ∧
        { t.dev with resp := s.dev.resp } = s.dev ∧ s.keepsRest t) ∧
    (∀ k, ptp → asks → s.dev.keysOff h = false → s.dev.ptpVerified h body mean = some k →
      ∃ t, exec (.requestVerify h id) s = .next t ∧ t.dev.req h id = some { r with stage := .build, slots := [k] } ∧
        s.dev.sameEvents t.dev [] ∧ t.dev.tbs = s.dev.tbs ∧ s.keepsRest t) ∧
    (∀ k p, r.kind = .nts → s.dev.keysOff h = false → opened = some (k, p) → good p = true →
      ∃ t, exec (.requestVerify h id) s = .next t ∧
        t.dev.req h id = some { r with
          stage := .build, slots := [k]
          nts := some { c2s := p.take 32, s2c := sliceB p 32 32, uid := (fieldOf body 0x0104).getD []
                        nonce := (ntsAuth body).2.1.take 16, k := (ntsForm body).getD 0, fam := beAt ck 1 1 / 16 } } ∧
        s.dev.sameEvents t.dev [] ∧ t.dev.tbs = s.dev.tbs ∧ s.keepsRest t) ∧
    (r.kind = .nts → nak →
      ∃ t x, exec (.requestVerify h id) s = .next t ∧ t.dev.req h id = some x ∧ x.stage = .late ∧
        x.out.map (·.t) = [r.launch] ∧ t.dev.w (trsPg h + 0x37C) = (s.dev.w (trsPg h + 0x37C) + 1) % 2 ^ 32 ∧
        s.onlyTouches { t with dev := { t.dev with resp := s.dev.resp } } [trsPg h + 0x37C] []) ∧
    (fails →
      ∃ t, exec (.requestVerify h id) s = .next t ∧ t.dev.req h id = none ∧
        t.dev.w (trsPg h + 0x378) = (s.dev.w (trsPg h + 0x378) + 1) % 2 ^ 32 ∧
        t.dev.evt (trsPg h) 2 = (if (s.dev.rsp h).failMs = some (s.dev.tb0 h / ns32 1000000) then s.dev.evt (trsPg h) 2
          else (s.dev.evt (trsPg h) 2).occur) ∧ s.dev.sameEvents t.dev [trsPg h + 2] ∧ t.dev.tbs = s.dev.tbs ∧ s.keepsRest t) := by
  intro body mean ck opened good nak ptp asks fails
  have hnak : s.dev.nakWanted h r = true ↔ s.dev.gb (trsPg h) Reg.TRS.NTSCFG_NAK_EN = true ∧ r.origin = none := by
    unfold Dev.nakWanted
    rw [Bool.and_eq_true, Option.isNone_iff_eq_none]
  have hnts (hk : r.kind = .nts) (hoff : s.dev.keysOff h = false) : reqVerified h id s.dev = s.dev.verifyNts h r :=
    (reqVerified_nts hr hs hk).trans (if_neg (by rw [hoff]; decide))
  rw [trsCounter_addr h 7 (by decide : 0x37C = 0x360 + 4 * 7), trsCounter_addr h 6 (by decide : 0x378 = 0x360 + 4 * 6)]
  have hfail (hx : reqVerified h id s.dev = s.dev.verifyFailed h r) := verify_fails hr hx rfl rfl (fun _ _ => rfl) rfl
  refine ⟨?_, fun k hp ha hoff hv => ?_, fun k p hk hoff ho hg => ?_, fun hk hn => ?_, ?_⟩
  · rintro (hk | ⟨hp, ha⟩)
    · exact puts_req (f := reqVerified h id) rfl hr rfl (reqVerified_ntp hr hs hk)
    · exact puts_req (f := reqVerified h id) rfl hr rfl (reqVerified_free hr hs hp (not_not.1 ha))
  · exact verify_passes (x := { r with stage := .build, slots := [k] }) hr rfl (reqVerified_signed hr hs hp ha hoff hv)
  · exact verify_passes (x := r.ntsOf k p) hr rfl ((hnts hk hoff).trans ((verifyNts_opened ho).trans (if_pos hg)))
  · obtain ⟨hoff, ho, hen⟩ := hn
    have hx := (hnts hk hoff).trans ((verifyNts_closed ho).trans (if_pos (hnak.2 hen)))
    exact verify_naks hr hx
  · rintro (⟨hk, hoff | ⟨ho, hn⟩ | ⟨k, p, ho, hg⟩⟩ | ⟨hp, ha, hv⟩)
    · exact hfail ((reqVerified_nts hr hs hk).trans (if_pos hoff))
    · cases hoff : s.dev.keysOff h with
      | true => exact hfail ((reqVerified_nts hr hs hk).trans (if_pos hoff))
      | false =>
        have hno : ¬ s.dev.nakWanted h r = true := fun hw => hn ⟨hoff, ho, hnak.1 hw⟩
        exact hfail ((hnts hk hoff).trans ((verifyNts_closed ho).trans (if_neg hno)))
    · cases hoff : s.dev.keysOff h with
      | true => exact hfail ((reqVerified_nts hr hs hk).trans (if_pos hoff))
      | false =>
        have hbad : ¬ authOpens (msgOf r.bytes).body p = true := fun hc => Bool.false_ne_true (hg.symm.trans hc)
        refine verify_fails hr ((hnts hk hoff).trans ((verifyNts_opened ho).trans (if_neg hbad))) (engineBlind_resp.engOp _ _ _ _)
          (engineBlind_tbs.engOp _ _ _ _) (fun pg j => (engineBlind_evt pg j).engOp _ _ _ _) ?_
        exact trsCounter_engine _ _ _ (by decide) _ _
    · exact hfail (reqVerified_asked hr hs hp ha hv)

end Sys2Proof.Machine
end

section
/-! PROOF. O52: replies are built at their launch (R342, R348, R357). -/

namespace Sys2Proof.Machine

theorem length_bytesBE (k n : Nat) : (bytesBE k n).length = k := by
  induction k with
  | zero => rfl
  | succ k ih => exact congrArg Nat.succ ih

theorem length_ntpBytes (v : Nat) : (ntpBytes v).length = 8 := by
  unfold ntpBytes
  rw [List.length_append, length_bytesBE, length_bytesBE]

/-! ### The layout of an NTP header -/

/-- A message of a first byte, 23 more, the eight of the client's transmit timestamp, 16 more and a tail. -/
theorem ntp_layout {x : Nat} {a q b tail : List Byte} (hx : x % 8 = 4) (ha : a.length = 23) (hq : q.length = 8) (hb : b.length = 16) :
    sliceB (bytesBE 1 x ++ a ++ q ++ b ++ tail) 24 8 = q ∧ beAt (bytesBE 1 x ++ a ++ q ++ b ++ tail) 0 1 % 8 = 4 ∧
      (bytesBE 1 x ++ a ++ q ++ b ++ tail).drop 48 = tail := by
  have h1 : (bytesBE 1 x).length = 1 := length_bytesBE 1 x
  refine ⟨?_, ?_, ?_⟩
  · unfold sliceB
    rw [List.append_assoc (bytesBE 1 x ++ a ++ q), List.append_assoc (bytesBE 1 x ++ a),
      List.drop_left' (by rw [List.length_append, h1, ha]), List.take_left' hq]
  · have hfirst : beAt (bytesBE 1 x ++ a ++ q ++ b ++ tail) 0 1 = x % 256 := by
      unfold beAt sliceB
      simp [bytesBE, natOfBE]
    omega
  · exact List.drop_left' (by simp only [List.length_append, h1, ha, hq, hb])

/-- The NTP header of a reply, by what O52 says of it. -/
theorem ntpHeader_layout (d : Dev) (h : Half) (r : Req) (v : TbView) (m0 n : Nat) {body : List Byte} (hb : 48 ≤ body.length)
    (tail : List Byte) :
    sliceB (d.ntpHeader h r body v m0 n ++ tail) 24 8 = sliceB body 40 8 ∧ beAt (d.ntpHeader h r body v m0 n ++ tail) 0 1 % 8 = 4 ∧
      (d.ntpHeader h r body v m0 n ++ tail).drop 48 = tail := by
  have hq : (sliceB body 40 8).length = 8 := by
    unfold sliceB
    rw [List.length_take, List.length_drop]
    omega
  unfold Dev.ntpHeader
  extract_lets pg lo hi utc li
  have h8 : (if v.stratum = 16 then bytesBE 8 0 else ntpBytes (d.ntpView h n r.scale v.refts utc)).length = 8 := by
    split
    · exact length_bytesBE 8 0
    · exact length_ntpBytes _
  generalize (if v.stratum = 16 then bytesBE 8 0 else ntpBytes (d.ntpView h n r.scale v.refts utc)) = refts at h8
  have hform : bytesBE 1 (li * 64 + beAt body 0 1 / 8 % 8 * 8 + 4) ++ bytesBE 1 v.stratum ++ bytesBE 1 (clampNat lo hi (beAt body 2 1)) ++
      bytesBE 1 (d.g pg Reg.TRS.NTPCFG_PREC) ++ bytesBE 4 (d.g pg Reg.TRS.NTPRDLY) ++ bytesBE 4 (rootDispersion v.bound) ++
      bytesBE 4 v.refid ++ refts ++ sliceB body 40 8 ++ ntpBytes (d.ntpView h n r.scale (tbnAt [v] m0 n (r.desc.mean.getD 0)) utc) ++
      bytesBE 8 0 = bytesBE 1 (li * 64 + beAt body 0 1 / 8 % 8 * 8 + 4) ++ (bytesBE 1 v.stratum ++
      bytesBE 1 (clampNat lo hi (beAt body 2 1)) ++ bytesBE 1 (d.g pg Reg.TRS.NTPCFG_PREC) ++ bytesBE 4 (d.g pg Reg.TRS.NTPRDLY) ++
      bytesBE 4 (rootDispersion v.bound) ++ bytesBE 4 v.refid ++ refts) ++ sliceB body 40 8 ++
      (ntpBytes (d.ntpView h n r.scale (tbnAt [v] m0 n (r.desc.mean.getD 0)) utc) ++ bytesBE 8 0) := by
    simp only [List.append_assoc]
  rw [hform]
  refine ntp_layout (by omega) ?_ hq ?_
  · simp only [List.length_append, length_bytesBE, h8]
  · rw [List.length_append, length_bytesBE, length_ntpBytes]

/-! ### Build -/

section
variable {h : Half} {id : Nat} {r x : Req} {s : State}

/-- The device with two identities drawn for the frames of a reply. -/
def Dev.twoIds (d : Dev) (h : Half) : Dev := ((d.newId h).1.newId h).1

theorem twoIds_reqs (d : Dev) (h : Half) : ((d.twoIds h).rsp h).reqs = (d.rsp h).reqs :=
  (newId_reqs _ h).trans (newId_reqs d h)

theorem newId_back (d0 d : Dev) (h : Half) : d0.backResp (d.newId h).1 = d0.backResp d := rfl

theorem putReq_back (d0 d : Dev) (h : Half) (x : Req) : d0.backResp (d.putReq h x) = d0.backResp d := rfl

theorem twoIds_resp (d : Dev) (h : Half) (x : Req) : { (d.twoIds h).putReq h x with resp := d.resp } = d :=
  (putReq_back d (d.twoIds h) h x).trans ((newId_back d (d.newId h).1 h).trans (newId_back d d h))

theorem built_puts (hr : s.dev.req h id = some r) (hid : x.id = r.id) (hx : replyBuilt h id s.dev = (s.dev.twoIds h).putReq h x) :
    exec (.replyBuild h id) s = .next (s.withDev ((s.dev.twoIds h).putReq h x)) ∧
      ((s.withDev ((s.dev.twoIds h).putReq h x)).dev.req h id = some x) :=
  ⟨next_onDev (f := replyBuilt h id) hx, req_putReq ((req_of_reqs (twoIds_reqs _ h) id).trans hr) (hid.trans (req_id hr))⟩

end

section
variable (d : Dev) (h : Half) (r : Req)

/-- The tail of a reply's NTP header. -/
def Req.ntpTail (r : Req) : List Byte := if r.kind = .nts then (r.nts.map (·.uid)).getD [] else []

/-- The payload of an NTP reply. -/
def Dev.ntpPayload (d : Dev) (h : Half) (r : Req) : List Byte :=
  (d.twoIds h).ntpHeader h r (msgOf r.bytes).body ((d.twoIds h).reqView h r (entBits r.ent 6 16 4) r.launch).1
    ((d.twoIds h).reqView h r (entBits r.ent 6 16 4) r.launch).2 (entBits r.ent 6 16 4) ++ r.ntpTail

/-- The frame of an NTP reply. -/
def Dev.ntpFrame (d : Dev) (h : Half) (r : Req) : GFrame :=
  (d.twoIds h).replyFrame h r (d.newId h).2 false (d.ntpPayload h r)
    [⟨40, .ntpTx (entBits r.ent 6 16 4) r.scale
      (if r.origin.isSome then some ((d.twoIds h).reqView h r (entBits r.ent 6 16 4) r.launch).1.utc else none)⟩]
    ((d.twoIds h).reqView h r (entBits r.ent 6 16 4) r.launch).1 ((d.twoIds h).reqView h r (entBits r.ent 6 16 4) r.launch).2 r.launch

variable {d h r} {id : Nat} (hr : d.req h id = some r) (hs : r.stage = .build)
include hr hs

theorem replyBuilt_ntp (hk : r.kind = .ntp ∨ r.kind = .nts) :
    replyBuilt h id d = (d.twoIds h).putReq h { r with stage := .seal, out := [d.ntpFrame h r] } := by
  unfold replyBuilt
  rw [hr]
  dsimp only
  rw [if_neg (by simp [hs])]
  unfold Dev.ntpFrame Dev.ntpPayload Req.ntpTail
  rcases hk with hk | hk
  · rw [if_neg (show ¬ r.kind = .nts by rw [hk]; decide), hk]
    rfl
  · rw [if_pos hk, hk]
    rfl

theorem replyBuilt_delay (hk : r.kind = .delayReq) :
    replyBuilt h id d = (d.twoIds h).putReq h { r with stage := .seal, out := (d.twoIds h).delayResp h r (d.newId h).2 } := by
  unfold replyBuilt
  rw [hr]
  dsimp only
  rw [if_neg (by simp [hs]), hk]
  rfl

theorem replyBuilt_pdelay (hk : r.kind = .pdelayReq) :
    replyBuilt h id d = (d.twoIds h).putReq h { r with stage := .seal, out := (d.twoIds h).pdelayResp h r (d.newId h).2 } := by
  unfold replyBuilt
  rw [hr]
  dsimp only
  rw [if_neg (by simp [hs]), hk]
  rfl

theorem replyBuilt_signaling (hk : r.kind = .signaling) : replyBuilt h id d = d := by
  unfold replyBuilt
  rw [hr]
  dsimp only
  rw [if_neg (by simp [hs]), hk]

end

section
variable (d : Dev) (h : Half) (r : Req) (id : Nat)

theorem delayResp_t : (d.delayResp h r id).map (·.t) = [r.launch] := rfl

theorem delayResp_port : ∀ g ∈ d.delayResp h r id, g.port = portOf h (r.desc.port / 2) := by
  intro g hg
  rw [List.mem_singleton.1 hg]
  rfl

theorem pdelayResp_t : (d.pdelayResp h r id).map (·.t) =
    if cfgBits r.cfg Reg.TRS.PCFG_TWO_STEP ≠ 0 then [r.launch, r.launch + 2048] else [r.launch] := by
  unfold Dev.pdelayResp
  dsimp only
  by_cases h2 : cfgBits r.cfg Reg.TRS.PCFG_TWO_STEP = 0
  · rw [if_pos h2, if_neg (not_not.2 h2)]
    rfl
  · rw [if_neg h2, if_pos h2]
    rfl

theorem pdelayResp_port : ∀ g ∈ d.pdelayResp h r id, g.port = portOf h (r.desc.port / 2) := by
  unfold Dev.pdelayResp
  dsimp only
  split
  · intro g hg
    rw [List.mem_singleton.1 hg]
    rfl
  · intro g hg
    rcases List.mem_cons.1 hg with he | he
    · rw [he]
      rfl
    · rw [List.mem_singleton.1 he]
      rfl

end

theorem replyBuild_spec (h : Half) (id : Nat) (r : Req) (s : State) (hr : s.dev.req h id = some r) (hs : r.stage = .build) :
    (r.kind = .signaling → exec (.replyBuild h id) s = .next s) ∧
    (r.kind = .ntp ∨ r.kind = .nts → 48 ≤ (msgOf r.bytes).body.length →
      ∃ t x g o payload, exec (.replyBuild h id) s = .next t ∧ t.dev.req h id = some x ∧ x.stage = .seal ∧ x.out = [g] ∧
        g.t = r.launch ∧ g.port = portOf h (r.desc.port / 2) ∧ g.gen = r.desc.stepgen ∧ g.body = .built o payload ∧
        o.dport = ((msgOf r.bytes).udp.map (·.sport)).getD 0 ∧ sliceB payload 24 8 = sliceB (msgOf r.bytes).body 40 8 ∧
        beAt payload 0 1 % 8 = 4 ∧ payload.drop 48 = (if r.kind = .nts then (r.nts.map (·.uid)).getD [] else []) ∧
        { t.dev with resp := s.dev.resp } = s.dev ∧ s.keepsRest t) ∧
    (r.kind = .delayReq ∨ r.kind = .pdelayReq →
      ∃ t x, exec (.replyBuild h id) s = .next t ∧ t.dev.req h id = some x ∧ x.stage = .seal ∧
        x.out.map (·.t) = (if r.kind = .pdelayReq ∧ cfgBits r.cfg Reg.TRS.PCFG_TWO_STEP ≠ 0 then [r.launch, r.launch + 2048]
          else [r.launch]) ∧ (∀ g ∈ x.out, g.port = portOf h (r.desc.port / 2)) ∧
        { t.dev with resp := s.dev.resp } = s.dev ∧ s.keepsRest t) := by
  refine ⟨fun hk => next_onDev (f := replyBuilt h id) (replyBuilt_signaling hr hs hk), fun hk hb => ?_, ?_⟩
  · obtain ⟨he, hreq⟩ := built_puts (x := { r with stage := .seal, out := [s.dev.ntpFrame h r] }) hr rfl (replyBuilt_ntp hr hs hk)
    obtain ⟨hslice, hmode, htail⟩ := ntpHeader_layout (s.dev.twoIds h) h r
      ((s.dev.twoIds h).reqView h r (entBits r.ent 6 16 4) r.launch).1 ((s.dev.twoIds h).reqView h r (entBits r.ent 6 16 4) r.launch).2
      (entBits r.ent 6 16 4) hb r.ntpTail
    exact ⟨_, _, s.dev.ntpFrame h r, _, s.dev.ntpPayload h r, he, hreq, rfl, rfl, rfl, rfl, rfl, rfl, rfl, hslice, hmode, htail,
      twoIds_resp s.dev h _, s.keepsRest_withDev _⟩
  · rintro (hk | hk)
    · obtain ⟨he, hreq⟩ := built_puts (x := { r with stage := .seal, out := (s.dev.twoIds h).delayResp h r (s.dev.newId h).2 }) hr rfl
        (replyBuilt_delay hr hs hk)
      refine ⟨_, _, he, hreq, rfl, ?_, delayResp_port _ h r _, twoIds_resp s.dev h _, s.keepsRest_withDev _⟩
      rw [if_neg (fun hc => by simp [hk] at hc)]
      exact delayResp_t _ h r _
    · obtain ⟨he, hreq⟩ := built_puts (x := { r with stage := .seal, out := (s.dev.twoIds h).pdelayResp h r (s.dev.newId h).2 }) hr rfl
        (replyBuilt_pdelay hr hs hk)
      refine ⟨_, _, he, hreq, rfl, (pdelayResp_t _ h r _).trans ?_, pdelayResp_port _ h r _, twoIds_resp s.dev h _, s.keepsRest_withDev _⟩
      simp only [hk, true_and]

end Sys2Proof.Machine
end

section
/-! PROOF. O52: replies are sealed, checked for lateness and handed over (R334, R335, R348, R359); NTS_MINT (R350). -/

namespace Sys2Proof.Machine

/-! ### Seal -/

/-- A reply of a request is a PTP message that its service signs. -/
def Req.ptpSigned (r : Req) : Prop :=
  (r.kind = .delayReq ∨ r.kind = .pdelayReq ∨ r.kind = .signaling) ∧ cfgBits r.cfg Reg.TRS.AUTH_AUTH_EN = 1

theorem ptpSigned_iff (r : Req) : ((r.kind == .delayReq || r.kind == .pdelayReq || r.kind == .signaling) &&
    cfgBits r.cfg Reg.TRS.AUTH_AUTH_EN == 1) = true ↔ r.ptpSigned := by
  unfold Req.ptpSigned
  simp only [Bool.and_eq_true, Bool.or_eq_true, beq_iff_eq, or_assoc]

theorem trsEvt3_implemented (h : Half) : evtImplemented (trsPg h) 3 = true := by
  cases h <;> decide

section
variable {d : Dev} {h : Half} {id : Nat} {r : Req} (hr : d.req h id = some r) (hs : r.stage = .seal)
include hr hs

theorem replySealed_plain (hn : r.nts = none) (hp : ¬ r.ptpSigned) :
    replySealed h id d = d.putReq h { r with stage := .late, slots := [] } := by
  have hb := Bool.eq_false_iff.2 fun hc => hp ((ptpSigned_iff r).1 hc)
  unfold replySealed
  rw [hr]
  dsimp only
  rw [if_neg (by simp [hs]), hn]
  dsimp only
  rw [hb]
  exact if_pos rfl

/-- What a signed PTP reply's key is sought by. -/
def Dev.signKey (d : Dev) (h : Half) (r : Req) : Option Nat :=
  if d.keysOff h then none else d.sppSlot h r.spp (r.desc.mean.getD 0)

theorem replySealed_nts {c : NtsCtx} (hn : r.nts = some c) {k : Nat} (hk : d.activeAt h c.fam (r.desc.mean.getD 0) = some k) :
    replySealed h id d = (d.engOp h (some c.fam) k).putReq h { r with
      stage := .late, slots := [], out := r.out.map fun g => d.sealFrame h g fun p => p ++ d.ntsSeal h c k p } := by
  unfold replySealed
  rw [hr]
  dsimp only
  rw [if_neg (by simp [hs]), hn]
  dsimp only
  rw [hk]

theorem replySealed_ntsAborts {c : NtsCtx} (hn : r.nts = some c) (hk : d.activeAt h c.fam (r.desc.mean.getD 0) = none) :
    replySealed h id d = d.sealAborted h r := by
  unfold replySealed
  rw [hr]
  dsimp only
  rw [if_neg (by simp [hs]), hn]
  dsimp only
  rw [hk]

theorem replySealed_ptp (hn : r.nts = none) (hp : r.ptpSigned) {k : Nat} (hk : d.signKey h r = some k) :
    replySealed h id d = (d.engOp h (some (getBits r.spp 9 4)) k).putReq h { r with
      stage := .late, slots := [], out := r.out.map fun g => d.sealFrame h g (d.ptpSeal h r.spp k) } := by
  have hb := (ptpSigned_iff r).2 hp
  unfold Dev.signKey at hk
  unfold replySealed
  rw [hr]
  dsimp only
  rw [if_neg (by simp [hs]), hn]
  dsimp only
  rw [hb, hk]
  exact if_neg (by decide)

theorem replySealed_ptpAborts (hn : r.nts = none) (hp : r.ptpSigned) (hk : d.signKey h r = none) :
    replySealed h id d = d.sealAborted h r := by
  have hb := (ptpSigned_iff r).2 hp
  unfold Dev.signKey at hk
  unfold replySealed
  rw [hr]
  dsimp only
  rw [if_neg (by simp [hs]), hn]
  dsimp only
  rw [hb, hk]
  exact if_neg (by decide)

end

section
variable (d : Dev) (h : Half) (r : Req)

theorem sealAborted_eq : d.sealAborted h r =
    if r.probe then d.dropReq h r.id else (((d.dropReq h r.id).trsCount h 9).raise (trsPg h) 3).wasted h r.cls := rfl

theorem raise_wasted_w (pg k cls a : Nat) : ((d.raise pg k).wasted h cls).w a = d.w a := rfl

theorem raise_wasted_req (pg k cls id : Nat) : ((d.raise pg k).wasted h cls).req h id = d.req h id := rfl

theorem trsCount_req (c id : Nat) : (d.trsCount h c).req h id = d.req h id := rfl

theorem wasted_evt (cls pg k : Nat) : (d.wasted h cls).evt pg k = d.evt pg k := rfl

theorem dropReq_evt (id pg k : Nat) : (d.dropReq h id).evt pg k = d.evt pg k := rfl

theorem sealAborted_req : (d.sealAborted h r).req h r.id = none := by
  rw [sealAborted_eq]
  split
  · exact req_dropReq
  · rw [raise_wasted_req, trsCount_req, req_dropReq]

theorem sealAborted_w :
    (d.sealAborted h r).w (trsPg h + 0x360 + 4 * 9) = (d.w (trsPg h + 0x360 + 4 * 9) + bitOf (!r.probe)) % 2 ^ 32 := by
  rw [sealAborted_eq]
  cases r.probe
  · rw [if_neg Bool.false_ne_true, raise_wasted_w, trsCount_w, dropReq_w]
    rfl
  · rw [if_pos rfl, dropReq_w]
    exact (Nat.mod_eq_of_lt (d.w_lt _)).symm

theorem sealAborted_evt (hp : r.probe = false) : (d.sealAborted h r).evt (trsPg h) 3 = (d.evt (trsPg h) 3).occur := by
  rw [sealAborted_eq, hp, if_neg Bool.false_ne_true, wasted_evt, Dev.evt_raise_own _ (trsEvt3_implemented h), trsCount_evt, dropReq_evt]

theorem sealAborted_touches : d.touchesBy d.backResp (d.sealAborted h r) [trsPg h + 0x360 + 4 * 9] (if r.probe then [] else [trsPg h + 3]) := by
  rw [sealAborted_eq]
  cases r.probe
  · rw [if_neg Bool.false_ne_true, if_neg Bool.false_ne_true]
    have h1 : d.touchesBy d.backResp ((d.dropReq h r.id).trsCount h 9) [trsPg h + 0x360 + 4 * 9] [trsPg h + 3] :=
      touchesBy_trsCountIf (b := true) (touchesBy_dropReq (touchesBy_resp_refl d _ _) _) (List.mem_singleton_self _)
    exact touchesBy_wasted (Dev.touchesBy.raise (restores_resp d) h1 (List.mem_singleton_self _)) _
  · rw [if_pos rfl, if_pos rfl]
    exact touchesBy_dropReq (touchesBy_resp_refl d _ _) _

end

section
variable {h : Half} {id : Nat} {r x : Req} {s : State}

theorem seal_aborts (hr : s.dev.req h id = some r) (hx : replySealed h id s.dev = s.dev.sealAborted h r) :
    ∃ t, exec (.replySeal h id) s = .next t ∧ t.dev.req h id = none ∧
      t.dev.w (trsPg h + 0x360 + 4 * 9) = (s.dev.w (trsPg h + 0x360 + 4 * 9) + bitOf (!r.probe)) % 2 ^ 32 ∧
      (r.probe = false → t.dev.evt (trsPg h) 3 = (s.dev.evt (trsPg h) 3).occur) ∧
      s.onlyTouches { t with dev := { t.dev with resp := s.dev.resp } } [trsPg h + 0x360 + 4 * 9]
        (if r.probe then [] else [trsPg h + 3]) := by
  refine ⟨_, next_onDev (f := replySealed h id) hx, ?_, sealAborted_w s.dev h r, sealAborted_evt s.dev h r,
    onlyTouches_backResp (sealAborted_touches s.dev h r)⟩
  rw [State.withDev_dev, ← req_id hr, sealAborted_req]

theorem seal_seals {fam : Option Nat} {k : Nat} (hr : s.dev.req h id = some r) (hid : x.id = r.id)
    (hx : replySealed h id s.dev = (s.dev.engOp h fam k).putReq h x) :
    ∃ t, exec (.replySeal h id) s = .next t ∧ t.dev.req h id = some x ∧ t.dev.cads = s.dev.cads ∧ s.dev.sameEvents t.dev [] ∧
      t.dev.tbs = s.dev.tbs ∧ s.keepsRest t := by
  have hidr : x.id = id := hid.trans (req_id hr)
  exact ⟨_, next_onDev (f := replySealed h id) hx,
    req_putReq ((req_congr (rsp_of_resp (engineBlind_resp.engOp s.dev h fam k) h) id).trans hr) hidr,
    engineBlind_cads.engOp s.dev h fam k, fun pg j _ => (engineBlind_evt pg j).engOp s.dev h fam k,
    engineBlind_tbs.engOp s.dev h fam k, s.keepsRest_withDev _⟩

end

theorem replySeal_spec (h : Half) (id : Nat) (r : Req) (s : State) (hr : s.dev.req h id = some r) (hs : r.stage = .seal) :
    let mean := r.desc.mean.getD 0
    let ptp := (r.kind = .delayReq ∨ r.kind = .pdelayReq ∨ r.kind = .signaling) ∧ cfgBits r.cfg Reg.TRS.AUTH_AUTH_EN = 1
    let key := match r.nts with
      | some c => s.dev.activeAt h c.fam mean
      | none => if s.dev.keysOff h then none else s.dev.sppSlot h r.spp mean
    let seals := fun k g => match r.nts with
      | some c => s.dev.sealFrame h g fun p => p ++ s.dev.ntsSeal h c k p
      | none => s.dev.sealFrame h g (s.dev.ptpSeal h r.spp k)
    (r.nts = none → ¬ ptp →
      ∃ t, exec (.replySeal h id) s = .next t ∧ t.dev.req h id = some { r with stage := .late, slots := [] } ∧
        { t.dev with resp := s.dev.resp } = s.dev ∧ s.keepsRest t) ∧
    (r.nts.isSome = true ∨ ptp → key = none →
      ∃ t, exec (.replySeal h id) s = .next t ∧ t.dev.req h id = none ∧
        t.dev.w (trsPg h + 0x384) = (s.dev.w (trsPg h + 0x384) + bitOf (!r.probe)) % 2 ^ 32 ∧
        (r.probe = false → t.dev.evt (trsPg h) 3 = (s.dev.evt (trsPg h) 3).occur) ∧
        s.onlyTouches { t with dev := { t.dev with resp := s.dev.resp } } [trsPg h + 0x384]
          (if r.probe then [] else [trsPg h + 3])) ∧
    (∀ k, r.nts.isSome = true ∨ ptp → key = some k →
      ∃ t, exec (.replySeal h id) s = .next t ∧
        t.dev.req h id = some { r with stage := .late, slots := [], out := r.out.map (seals k) } ∧
        t.dev.cads = s.dev.cads ∧ s.dev.sameEvents t.dev [] ∧ t.dev.tbs = s.dev.tbs ∧ s.keepsRest t) := by
  intro mean ptp key seals
  rw [trsCounter_addr h 9 (by decide : 0x384 = 0x360 + 4 * 9)]
  refine ⟨fun hn hp => puts_req (f := replySealed h id) rfl hr rfl (replySealed_plain hr hs hn hp), ?_, ?_⟩
  · intro hp hk
    rcases Option.eq_none_or_eq_some r.nts with hn | ⟨c, hn⟩
    · have hptp : r.ptpSigned := hp.resolve_left (by rw [hn]; decide)
      have hkey : s.dev.signKey h r = none := by
        unfold Dev.signKey
        simpa only [key, hn] using hk
      exact seal_aborts hr (replySealed_ptpAborts hr hs hn hptp hkey)
    · exact seal_aborts hr (replySealed_ntsAborts hr hs hn (by simpa only [key, hn] using hk))
  · intro k hp hk
    rcases Option.eq_none_or_eq_some r.nts with hn | ⟨c, hn⟩
    · have hptp : r.ptpSigned := hp.resolve_left (by rw [hn]; decide)
      have hkey : s.dev.signKey h r = some k := by
        unfold Dev.signKey
        simpa only [key, hn] using hk
      have hse : r.out.map (seals k) = r.out.map fun g => s.dev.sealFrame h g (s.dev.ptpSeal h r.spp k) := by
        simp only [seals, hn]
      rw [hse]
      exact seal_seals hr rfl (replySealed_ptp hr hs hn hptp hkey)
    · have hse : r.out.map (seals k) = r.out.map fun g => s.dev.sealFrame h g fun p => p ++ s.dev.ntsSeal h c k p := by
        simp only [seals, hn]
      rw [hse]
      exact seal_seals hr rfl (replySealed_nts hr hs hn (by simpa only [key, hn] using hk))

/-! ### The late check -/

/-- A reply bound to its instant that has passed its deadline (R335). -/
def Dev.pastDeadline (d : Dev) (h : Half) (r : Req) : Bool :=
  !r.probe && r.out.any fun g => g.sealed && decide (d.deadline g.port g.t < d.tb0 h)

theorem pastDeadline_iff (d : Dev) (h : Half) (r : Req) :
    d.pastDeadline h r = true ↔ r.probe = false ∧ ∃ g ∈ r.out, g.sealed = true ∧ d.deadline g.port g.t < d.tb0 h := by
  unfold Dev.pastDeadline
  simp only [Bool.and_eq_true, Bool.not_eq_true', List.any_eq_true, decide_eq_true_eq]

theorem lateChecked_eq {d : Dev} {h : Half} {id : Nat} {r : Req} (hr : d.req h id = some r) (hs : r.stage = .late) :
    lateChecked h id d = if d.pastDeadline h r then ((d.dropReq h r.id).trsCount h 8).wasted h r.cls
      else if d.gateTakes h r.out then (d.dropReq h r.id).handOver h r.out else d := by
  unfold lateChecked
  rw [hr]
  exact if_neg (by simp [hs])

/-- A single frame for a gate of the half handed over. -/
theorem handOver_single (d : Dev) (h : Half) {g : GFrame} (ha : g.after = none) (hg : portHalf g.port = h) :
    d.handOver h [g] = d.toGate g := by
  unfold Dev.handOver
  rw [List.foldl_cons, List.foldl_nil, if_neg (by rw [ha]; decide), if_pos hg]

theorem toGate_req (d : Dev) (g : GFrame) (h : Half) (id : Nat) : (d.toGate g).req h id = d.req h id := rfl

theorem toGate_back (d : Dev) (h : Half) (id : Nat) (g : GFrame) :
    { (d.dropReq h id).toGate g with resp := d.resp, planes := d.planes } = d := rfl

theorem dropReq_plane (d : Dev) (h : Half) (id : Nat) (k : Half) : (d.dropReq h id).plane k = d.plane k := rfl

theorem lateCheck_spec (h : Half) (id : Nat) (r : Req) (s : State) (hr : s.dev.req h id = some r) (hs : r.stage = .late) :
    let late := r.probe = false ∧ ∃ g ∈ r.out, g.sealed = true ∧ s.dev.deadline g.port g.t < s.dev.tb0 h
    (late → ∃ t, exec (.lateCheck h id) s = .next t ∧ t.dev.req h id = none ∧
      t.dev.w (trsPg h + 0x380) = (s.dev.w (trsPg h + 0x380) + 1) % 2 ^ 32 ∧
      s.onlyTouches { t with dev := { t.dev with resp := s.dev.resp } } [trsPg h + 0x380] []) ∧
    (¬ late → s.dev.gateTakes h r.out = false → exec (.lateCheck h id) s = .next s) ∧
    (¬ late → s.dev.gateTakes h r.out = true →
      exec (.lateCheck h id) s = .next (s.withDev ((s.dev.dropReq h r.id).handOver h r.out)) ∧
      ∀ g, r.out = [g] → g.after = none → portHalf g.port = h →
        ∃ t, exec (.lateCheck h id) s = .next t ∧ t.dev.req h id = none ∧
          (t.dev.plane h).gateIn = (s.dev.plane h).gateIn ++ [g] ∧
          { t.dev with resp := s.dev.resp, planes := s.dev.planes } = s.dev ∧ s.keepsRest t) := by
  intro late
  have hx := lateChecked_eq hr hs
  have hno (hl : ¬ late) : ¬ s.dev.pastDeadline h r = true := fun hc => hl ((pastDeadline_iff _ _ _).1 hc)
  rw [trsCounter_addr h 8 (by decide : 0x380 = 0x360 + 4 * 8)]
  refine ⟨fun hl => ?_, fun hl hg => ?_, fun hl hg => ?_⟩
  · have hdrop := hx.trans (if_pos ((pastDeadline_iff s.dev h r).2 hl))
    refine ⟨_, next_onDev (f := lateChecked h id) hdrop, ?_, ?_, onlyTouches_backResp (touchesBy_wasted
      (touchesBy_trsCountIf (b := true) (touchesBy_dropReq (touchesBy_resp_refl s.dev _ _) _) (List.mem_singleton_self _)) _)⟩
    · rw [State.withDev_dev, ← req_id hr]
      exact req_dropReq (d := s.dev)
    · rw [State.withDev_dev, wasted_w, trsCount_w, dropReq_w]
  · exact next_onDev (f := lateChecked h id) (hx.trans ((if_neg (hno hl)).trans (if_neg (by rw [hg]; decide))))
  · have hover := hx.trans ((if_neg (hno hl)).trans (if_pos hg))
    refine ⟨next_onDev (f := lateChecked h id) hover, fun g hout ha hp => ?_⟩
    rw [hout, handOver_single _ h ha hp] at hover
    refine ⟨_, next_onDev (f := lateChecked h id) hover, ?_, ?_, toGate_back s.dev h r.id g, s.keepsRest_withDev _⟩
    · rw [State.withDev_dev, toGate_req, ← req_id hr, req_dropReq]
    · have hin := toGate_gateIn (d := s.dev.dropReq h r.id) g
      rw [hp, dropReq_plane] at hin
      exact hin

/-! ### NTS_MINT -/

/-- The slot whose key seals the cookies of NTS_MINT. -/
def mintKey (d : Dev) (b : Nat) (c : FwCmd) : Option Nat :=
  d.activeAt (mbxHalf b) ((c.req[0]?.getD 0).toNat % 16) (d.tb0 (mbxHalf b))

/-- How many cookies NTS_MINT is asked for. -/
def mintCount (c : FwCmd) : Nat := (c.req[0]?.getD 0).toNat / 256 % 4

/-- The code that NTS_MINT answers. -/
def mintCode (d : Dev) (b : Nat) (c : FwCmd) : Nat :=
  if c.len ≠ 17 then codeBadLen else if d.keysOff (mbxHalf b) then codeNotPermitted
  else if mintCount c = 0 ∨ mintCount c = 3 ∨ mintKey d b c = none then codeBadArg else codeOK

section
variable {d : Dev} {b : Nat} {c : FwCmd}

theorem mint_codes : codeBadLen ≠ codeOK ∧ codeNotPermitted ≠ codeOK ∧ codeBadArg ≠ codeOK := by decide

theorem ntsMinted_refuses (hc : mintCode d b c ≠ codeOK) : ntsMinted b c d = { dev := d, code := mintCode d b c } := by
  have hlt : mintCount c < 4 := Nat.mod_lt _ (by decide)
  unfold ntsMinted
  unfold mintCode at hc ⊢
  dsimp only
  by_cases hl : c.len ≠ 17
  · rw [if_pos hl, if_pos hl]
  · rw [if_neg hl] at hc ⊢
    rw [if_neg hl]
    by_cases hk : d.keysOff (mbxHalf b) = true
    · rw [if_pos hk, if_pos hk]
    · rw [if_neg hk] at hc ⊢
      rw [if_neg hk]
      have hbad : mintCount c = 0 ∨ mintCount c = 3 ∨ mintKey d b c = none := by
        by_contra hn
        exact hc (if_neg hn)
      rw [if_pos hbad]
      by_cases hn : mintCount c = 0 ∨ 2 < mintCount c
      · exact if_pos hn
      · have hnone : mintKey d b c = none := by
          rcases hbad with h0 | h3 | hx
          · exact absurd (.inl h0) hn
          · exact absurd (.inr (by omega)) hn
          · exact hx
        unfold mintKey at hnone
        rw [hnone]
        exact if_neg hn

theorem ntsMinted_mints {k : Nat} (hc : mintCode d b c = codeOK) (hk : mintKey d b c = some k) :
    ∃ n rsp, ntsMinted b c d =
      { dev := (d.engOp (mbxHalf b) none k).drawn n, code := codeOK, rsp := BitVec.ofNat 32 (d.slot (mbxHalf b) k).keyid :: rsp } := by
  have hlt : mintCount c < 4 := Nat.mod_lt _ (by decide)
  obtain ⟨hbl, hnp, hba⟩ := mint_codes
  unfold mintCode at hc
  by_cases hl : c.len ≠ 17
  · exact absurd ((if_pos hl).symm.trans hc) hbl
  · rw [if_neg hl] at hc
    by_cases hoff : d.keysOff (mbxHalf b) = true
    · exact absurd ((if_pos hoff).symm.trans hc) hnp
    · rw [if_neg hoff] at hc
      by_cases hbad : mintCount c = 0 ∨ mintCount c = 3 ∨ mintKey d b c = none
      · exact absurd ((if_pos hbad).symm.trans hc) hba
      · have hn : ¬ (mintCount c = 0 ∨ 2 < mintCount c) := by
          rintro (h0 | h2)
          · exact hbad (.inl h0)
          · exact hbad (.inr (.inl (by omega)))
        unfold mintKey at hk
        unfold ntsMinted
        dsimp only
        rw [if_neg hl, if_neg hoff, hk]
        exact ⟨_, _, if_neg hn⟩

end

theorem ntsMint_none (b : Fin 4) (s : State) (hn : (s.dev.mb b.val).waiting 0x0300 = none ∨ s.dev.coresRun (mbxHalf b.val) = false) :
    exec (.ntsMint b) s = .next s :=
  congrArg Host.Outcome.next (State.onDev_mbxCommit_none hn (ntsMinted b.val))

theorem ntsMint_spec (b : Fin 4) (c : FwCmd) (s : State) (hw : (s.dev.mb b.val).waiting 0x0300 = some c)
    (hrun : s.dev.coresRun (mbxHalf b.val) = true) :
    let n := (c.req[0]?.getD 0).toNat / 256 % 4
    let k := s.dev.activeAt (mbxHalf b.val) ((c.req[0]?.getD 0).toNat % 16) (s.dev.tb0 (mbxHalf b.val))
    let code := if c.len ≠ 17 then codeBadLen else if s.dev.keysOff (mbxHalf b.val) then codeNotPermitted
      else if n = 0 ∨ n = 3 ∨ k = none then codeBadArg else codeOK
    (code ≠ codeOK → ∃ t, exec (.ntsMint b) s = .next t ∧ s.finished t b.val c code [] ∧
      s.onlyTouches { t with dev := { t.dev with mbx := s.dev.mbx } } [] []) ∧
    (∀ x, code = codeOK → k = some x →
      ∃ t rsp, exec (.ntsMint b) s = .next t ∧
        s.finished t b.val c codeOK (BitVec.ofNat 32 (s.dev.slot (mbxHalf b.val) x).keyid :: rsp) ∧
        t.dev.cads = s.dev.cads ∧ s.dev.sameEvents t.dev [] ∧ t.dev.tbs = s.dev.tbs ∧ s.keepsRest t) := by
  intro n k code
  have hcode : mintCode s.dev b.val c = code := rfl
  have hx : exec (.ntsMint b) s = .next (s.withDev ((ntsMinted b.val c s.dev).handed b.val c)) :=
    next_onDev (f := fun d => d.mbxCommit b.val 0x0300 (ntsMinted b.val)) (Dev.mbxCommit_eq ⟨hw, hrun⟩ (by decide) _)
  rw [← hcode]
  refine ⟨fun hc => ?_, fun x hc hk => ?_⟩
  · rw [ntsMinted_refuses hc] at hx
    exact ⟨_, hx, State.finished_handed b.val c rfl, State.onlyTouches_handed (.refl _ _ _) rfl⟩
  · obtain ⟨m, rsp, hm⟩ := ntsMinted_mints hc (k := x) hk
    rw [hm] at hx
    have hmbx : ((s.dev.engOp (mbxHalf b.val) none x).drawn m).mbx = s.dev.mbx := engineBlind_mbx.engOp _ _ _ _
    exact ⟨_, rsp, hx, State.finished_handed b.val c hmbx, engineBlind_cads.engOp _ _ _ _, fun pg j _ => (engineBlind_evt pg j).engOp _ _ _ _,
      engineBlind_tbs.engOp _ _ _ _, s.keepsRest_withDev _⟩

end Sys2Proof.Machine
end

section
/-! PROOF. O52: requests pass the responder's stages to the gate. -/

namespace Sys2Proof.Machine

/-- Settles O52: each stage's branches by the lemmas of that stage; what a stage does not name is the responder put back. -/
theorem requestsPassTheirStages : Obligations.RequestsPassTheirStages := by
  unfold Obligations.RequestsPassTheirStages
  exact ⟨svcEntryCommit_spec, responderAccept_none, responderAccept_first, stages_idle, requestParse_spec, requestClassify_ntp,
    requestClassify_ptp, rateCheck_spec, requestVerify_spec, replyBuild_spec, replySeal_spec, lateCheck_spec, rateClear_spec,
    hkeyWrite_spec, ntsMint_none, ntsMint_spec⟩

end Sys2Proof.Machine
end
